-- ==== Sys2Proof/Word.lean ====
section
/-! DEFINITION. The word types of the Phirin P9 and their plainest arithmetic. -/

namespace Sys2Proof

/-- One dictionary word (R108): every sub-index holds 32 bits. -/
abbrev Word := BitVec 32

/-- One byte of a memory or of a byte block. -/
abbrev Byte := BitVec 8

/-- The bits `lo` to `lo + len - 1` of a natural number. -/
def bitsOf (n lo len : Nat) : Nat := n / 2 ^ lo % 2 ^ len

/-- The word holding a natural number's low 32 bits. -/
abbrev toWord (n : Nat) : Word := BitVec.ofNat 32 n

/-- A truth value as the BOOL word of R112. -/
def boolWord (b : Bool) : Word := if b then 1 else 0

end Sys2Proof
end

