-- ==== Sys2Proof/Syntax.lean ====
section
/-! DEFINITION. The commands of the Phirin P9: one constructor of `Instr` per row of the table of
operations and events. A command carries what its sender or its sensor supplies: a request's path,
address and words, a frame's header and payload, a measured quantity. -/

namespace Sys2Proof

/-- The two halves (R8). -/
inductive HalfId where
  | h0 | h1
  deriving DecidableEq, Repr

/-- The path a dictionary request arrives on (R109, R117, R119 to R123). A spoke request names the
requesting position and the half that serves it (R122); a half manager's own write carries the
half and the epoch its bridge tags it with (R20). -/
inductive Path where
  | doe
  | mctp
  | bar2
  | spoke (src : Nat) (half : HalfId)
  | manager (half : HalfId) (epoch : Nat)
  deriving DecidableEq, Repr

/-- The path of a request and the secured SPDM session it travels in, if any (R467, R468). -/
structure Via where
  path : Path
  session : Option Nat
  deriving DecidableEq, Repr

/-- One dictionary request (R119): where it comes from, the object word it names, the requester's
tag, the type code it expects (0xF means any) and its payload words. `other` is an operation code that none of R120's
operations has, where the frame carries one in place of the command's own. -/
structure Req where
  via : Via
  index : Nat
  sub : Nat
  tag : Nat
  ty : Nat
  words : List Word
  other : Option Nat := none
  deriving DecidableEq, Repr

/-- What a half's self-test finds at a start (R498 to R500): the repair entry words it adds, in the
layout of R515. -/
structure Findings where
  half0 : List (BitVec 64)
  half1 : List (BitVec 64)
  deriving DecidableEq, Repr

/-- The three functions of the host port (R61). -/
inductive Fn where
  | f0 | f1 | f2
  deriving DecidableEq, Repr

/-- What started a host reset (R74). -/
inductive HostResetKind where
  | perst | hotReset | linkDown
  deriving DecidableEq, Repr

/-- What training of the host link comes to (R59, R81): width, rate and flit mode as 0xA001.01 to .03 code them,
the lane state of 0xA001.04. -/
structure LinkTrain where
  width : Nat
  rate : Nat
  flit : Nat
  lanes : BitVec 17
  deriving DecidableEq, Repr

/-- Streams that IDE secures on their own (R71, 0xA002.01): CXL.io, and CXL.cache with CXL.mem. -/
inductive IdeStream where
  | io | cacheMem
  deriving DecidableEq, Repr

/-- Fields of the capability structures of the functions (R61 to R63, R75): the size of a BAR, and where a Register
Locator entry points, are named by the BAR and the entry. -/
inductive Capability where
  | multiFunction | barSize (bar : Nat) | bar64 | barPrefetchable
  | maxPayload | maxReadRequest | tenBitTags | extendedTags
  | d0 | d3hot | msixVectors | msixTable | msixPba | advancedErrors
  | doeMailboxes | doeObjectBytes | doeProtocols | ideLinkStreams | ideSelectiveStreams
  | cacheCapable | memCapable | resetCapable | resetMemClear | resetTimeoutMs
  | hdmCapacity | flexBusProtocols | flexBusFlitMode | gpfMicroseconds | gpfWatts
  | componentRegisters | deviceRegisters
  deriving DecidableEq, Repr

/-- A host snoop (R68): it reads a line held in the device cache or takes it away. -/
inductive SnoopKind where
  | data | invalidate
  deriving DecidableEq, Repr

/-- A request to a function of the host port beside its own rows (R61 to R63, R73, R496): a configuration read, the
read of a capability field, a write of a BAR, of the HDM decoder or of the MSI-X capability, a write of another
register, a write of the power state, and a 4-byte read or write of the register blocks that the BARs map. -/
inductive CfgKind where
  | read
  | capability (c : Capability)
  | barRead (bar offset : Nat)
  | barWrite (bar offset : Nat) (value : Word)
  | writeBar (value : Word)
  | writeDecoder (value : Word)
  | writeMsix (value : Word)
  | writeOther (value : Word)
  | powerState (d3hot : Bool)
  deriving DecidableEq, Repr

/-- A tensor declaration of a program, where the tensor comes from memory or leaves to it
(R272 to R275): its id, format code, element and scale bases as HDM byte offsets, its shape, and
whether its blocks run along the reduction dimension. -/
structure TensorDecl where
  id : Nat
  code : Nat
  base : Nat
  scales : Nat
  rows : Nat
  cols : Nat
  onReduction : Bool
  coarse : Word
  deriving DecidableEq, Repr

/-- A spoke frame as it arrives (R360): the arriving half and spoke, the header fields, the payload
in the clear, and whether its CRC and its GCM tag check. -/
structure Frame where
  half : HalfId
  spoke : Nat
  dest : Nat
  src : Nat
  cls : Nat
  vc : Nat
  hops : Nat
  epoch : Nat
  neighbour : Bool
  unassigned : Bool
  last : Bool
  seq : Nat
  group : Nat
  step : Nat
  item : Nat
  attempt : Nat
  offset : Nat
  nonce : Nat
  payload : List Byte
  crcOk : Bool
  tagOk : Bool
  deriving DecidableEq, Repr

/-- What one local receive lane sees in training (R364 to R366): no activity, a failure of L4, or the identity word
that it receives. -/
inductive LaneSeen where
  | silent
  | failed
  | identity (word : Word)
  deriving DecidableEq, Repr

/-- What the phases of one spoke training find (R365, R366): the five local receive lanes, the identity words that the
transmit pad monitors hear, the peer of L6 and the outcome of L7. -/
structure Training where
  lanes : List LaneSeen
  pads : List Word
  peerSerial : BitVec 64
  peerPos : Nat
  peerHalf : HalfId
  peerSpoke : Nat
  peerEpoch : Nat
  lockOk : Bool
  authOk : Bool
  deriving DecidableEq, Repr

/-- How an engine strand's residue flags read at its end (R310): clear at once, clear in the
repeat, or set again. -/
inductive Residue where
  | clear | transient | fault
  deriving DecidableEq, Repr

/-- Measured outcome of a row write-verify (R170, R175): for each weight or checksum weight
(element 0 to 543) the measured major difference in 1/256 of a major level, the columns 0 to
2,175 whose cells miss the tolerance at the end of phase 4, and those whose cells phase 1 finds off their target though
it is the one that was last written (R167, R236). -/
structure RowMeas where
  major : List (Nat × Int)
  failing : List Nat
  drift : List Nat
  deriving DecidableEq, Repr

/-- What the write-verify of one row measured: the logical tile of a placement or restore (R178), the physical tile of a
refresh (R236); weight row 0 to 1,023, or 1,024 + reference row. A second entry for a row is its second attempt. -/
structure RowSeen where
  tile : Nat
  row : Nat
  meas : RowMeas
  deriving DecidableEq, Repr

/-- A measurement as the solver takes it (R231): pairs, in the order taken, of sums of the codes of n products each. The
code of an output is 16 × major code + minor code. -/
abbrev Pairs := List (Int × Int)

/-- What ZERO measures of one tile (R225): Z1 and Z2 of slice s in mode m at 2s + m, Z3 by group and output. -/
structure ZeroRaw where
  slices : List Pairs
  zero : List (List Pairs)
  deriving DecidableEq, Repr

/-- What FULL measures of one tile (R226): F1 of slice s in mode m at 2s + m; F2, the code that each row group needs; the
response of reference rows 4 to 11, one at a time (R232); F3, rows 4 to 7 less rows 8 to 11, by group and output; F4 by
group and quad, pairs of 16 responses row-major. -/
structure FullRaw where
  charges : List Pairs
  trims : List Pairs
  rows : List Int
  diff : List (List Pairs)
  inject : List (List (List (List Int × List Int)))
  deriving DecidableEq, Repr

/-- What ZERO and FULL measure of one column group that calibrates again (R228): Z3, F3 and F4. -/
structure GroupRaw where
  zero : List Pairs
  diff : List Pairs
  inject : List (List (List Int × List Int))
  deriving DecidableEq, Repr

/-- A physical unit that an error or a failing check names (R416). -/
abbrev UnitWord := Word

/-- Memory errors of R405 and R395. -/
inductive MemErr where
  | corrected | uncorrectable
  deriving DecidableEq, Repr

/-- Where a memory error lies (R395, R405, R146, R383): an HDM byte offset, a context's pannier share, a
mortar link or buffer of a unit that held data of a context's step, or another memory of the part. -/
inductive MemPlace where
  | hbm (offset : Nat)
  | share (ctx : Nat)
  | buffer (unit : UnitWord) (ctx : Nat)
  | other
  deriving DecidableEq, Repr

/-- The command set. Rows of spec/opcode_table.json, in its order. -/
inductive Instr where
  -- Start (chapter 18)
  | coldPowerOn (mv : Nat) (found : Findings)
  | startComplete (h : HalfId)
  | startFail (h : HalfId) (phase reason status : Nat)
  | startTimeout (h : HalfId) (phase : Nat)
  | crystalStartTimeout
  | leadStartTimeout
  | recoveryImage (via : Via) (image : List Byte)
  | recoverCommit (via : Via) (found : Findings)
  | recoverRetry (via : Via) (found : Findings)
  -- Supply and sideband (chapter 02)
  | supplyBrownout (mv : Nat)
  | supplyRecover (mv : Nat) (found : Findings)
  | supplyUndervoltageAlert (mv : Nat)
  | supplyUndervoltageClear (mv : Nat)
  | supplyOvervoltageAlert (mv : Nat)
  | supplyOvervoltageClear (mv : Nat)
  | inputSwitchOpen
  | inputSwitchReclose (mv : Nat) (found : Findings)
  | powerLoss
  | reversePolarity
  | contactGroupOpen (group : Nat)
  | contactGroupClear (group : Nat)
  | pwrbrkAssert
  | pwrbrkRelease
  | thermNAssert (celsius : Int)
  | thermNRelease (celsius : Int)
  | sidebandShortDetect (bit : Nat)
  | sidebandFaultClear (bit : Nat)
  | pullupCheck (sclMissing sdaMissing : Bool)
  | clearExtremes (via : Via) (value : Word)
  -- Lead word, fence, replace request (chapter 01)
  | heartbeat (h : HalfId)
  | bridgeLoss (h : HalfId)
  | fenceDrawConfirm (h : HalfId)
  | fencePowerRemove (h : HalfId)
  | claim (h : HalfId) (epoch : Nat)
  | windowClose
  | moveLead (via : Via) (target : Word)
  | replaceClear (via : Via) (value : Word)
  | replaceRaise (via : Via) (value : Word)
  -- The dictionary (chapter 05)
  | writeObject (req : Req)
  | read (req : Req)
  | write (req : Req)
  | writeIf (req : Req)
  | describe (req : Req)
  | readSeg (req : Req)
  | writeSeg (req : Req) (offset : Nat) (first final : Bool) (data : List Byte)
  | ticket (req : Req)
  | nextObj (req : Req)
  | bar2Read (offset width : Nat)
  | bar2Write (offset width : Nat) (value : BitVec 64)
  | bar2ReadTimeout (offset width : Nat)
  | ticketResultRead
  | clearSticky (via : Via) (value : Word)
  | domainWriteTimeout (index sub inst : Nat)
  | deferredWriteComplete (num : Nat) (status : Nat)
  | ticketExpire (num : Nat)
  | shedLevelUpdate (h : HalfId) (load : Nat) (lowFor10ms : Bool)
  | telemetryPlacementWrite (via : Via) (value : Word)
  | setEndpointId (eid : Nat)
  | getEndpointId
  | getMctpVersionSupport
  | getMessageTypeSupport
  | getVendorDefinedMessageSupport
  | entdaa (addr : Nat)
  | vectorSignal (fn : Fn) (vector : Nat)
  -- Host port (chapter 03)
  | cxlMemRead (h : HalfId) (offset : Nat) (session : Option Nat) (ide : Bool)
  | cxlMemWrite (h : HalfId) (offset : Nat) (data : List Byte) (session : Option Nat) (ide : Bool)
  | birsp (h : HalfId) (line : Nat) (data : Option (List Byte))
  | bisnpTimeout (h : HalfId) (line : Nat)
  | bisnpFault (h : HalfId) (line : Nat)
  | hostSnoop (addr : Nat) (kind : SnoopKind)
  | cachePartitionWrite (via : Via) (value : Word)
  | hdmDecoderCommit (h : HalfId) (base ways : Nat)
  | ideKeyProgram (via : Via) (stream : IdeStream)
  | ideKeyRefresh
  | ideIntegrityFailure (stream : IdeStream)
  | tspError (h : HalfId)
  | hostReset (kind : HostResetKind) (link : LinkTrain)
  | cxlReset (memClear : Bool)
  | functionLevelReset (fn : Fn) (fromD3 : Bool)
  | shadowRead (offset width : Nat)
  | shadowWrite (offset width : Nat) (value : BitVec 64)
  | shadowUpdate (offset : Nat)
  -- Clocks (chapter 04)
  | oscReady
  | crystalReady
  | crystalLoss
  | holdoverExpire
  | clockSourceSelect (via : Via) (sub : Nat) (value : Word)
  | paceMonitorRefresh (h : HalfId) (course : Nat) (factor mv : Nat) (celsius : Int)
  | paceShortfall (h : HalfId) (course : Nat)
  | clockEnableWrite (via : Via) (sub : Nat) (value : Word)
  | blockReady (sub bit : Nat)
  | spreadWrite (via : Via) (sub : Nat) (value : Word)
  | clkobsSelect (via : Via) (value : Word)
  -- Contexts and work (chapters 06, 10, 11, 12)
  | ctxOpen (via : Via) (n : Nat) (value : Word)
  | ctxLoad (via : Via) (n : Nat) (decls : List TensorDecl)
  | placementComplete (n : Nat) (seen : List RowSeen)
  | ctxRun (via : Via) (n : Nat)
  | ctxHold (via : Via) (n : Nat)
  | ctxDone (via : Via) (n : Nat)
  | ctxFree (via : Via) (n : Nat)
  | releaseComplete (n : Nat) (residual : List (Nat × Nat))
  | contextReset (via : Via) (n : Nat) (value : Word)
  | claimWrite (via : Via) (n element : Nat) (value : Word)
  | claimComplete (n : Nat)
  | eventAck (via : Via) (n : Nat) (value : Word)
  | strandIssue (unit : UnitWord)
  | strandEnd (ctx strand : Nat) (residue : Residue)
  | numericsRelease (via : Via) (value : Word)
  | producerUpdate (n : Nat) (value : BitVec 64)
  | streamWaitTimeout (n : Nat)
  -- Tiles (chapters 07, 08)
  | inputVectorArrive (tile ctx vec : Nat)
  | forwardProduct (tile : Nat)
  | checksumRepeat (tile : Nat)
  | partialArrive (tile ctx vec row : Nat)
  | outputDrain (tile : Nat)
  | coefficientSwitch (tile : Nat)
  | calibrationProduct (tile : Nat)
  | rowWriteVerify (tile row : Nat) (targets : List (Nat × Int)) (meas : RowMeas)
  -- Calibration (chapter 09)
  | calZero (via : Via) (h : HalfId) (value : Word) (meas : List (Nat × ZeroRaw))
  | calFull (via : Via) (h : HalfId) (value : Word) (meas : List (Nat × FullRaw))
  | calAbort (via : Via) (h : HalfId) (value : Word)
  | calRefresh (via : Via) (h : HalfId) (value : Word)
  | calRunComplete (h : HalfId) (seen : List RowSeen)
  | columnSwap (tile group : Nat) (meas : GroupRaw)
  | zeroResultExpire (h : HalfId)
  | probe (tile gainPpm offset : Nat)
  | driftMonitor (tile bit : Nat) (urgent : Bool)
  | calEscalate (tile : Nat)
  | refreshAge (tile : Nat) (seen : List RowSeen)
  -- Exchanges (chapter 14)
  | bucketSend (n bucket : Nat)
  | tensorSend (n link : Nat)
  | sealSend (n : Nat)
  | frameRoute (frame : Frame)
  | gapTimeout (h : HalfId) (src vc : Nat)
  | linkAck (h : HalfId) (spoke count : Nat)
  | linkNak (h : HalfId) (spoke failed : Nat)
  | linkCredit (h : HalfId) (spoke vc count : Nat)
  | contributionReceive (n src group step item attempt : Nat) (data : List Byte)
  | tensorReceive (n src group step item attempt : Nat) (data : List Byte)
  | retractReceive (n src group step first last attempt : Nat)
  | sealReceive (n src group step cls count : Nat) (crc : Word)
  | sealRefusalReceive (n src step cls : Nat)
  | gatherReceive (n src group step bucket : Nat) (data : List Byte)
  | normPartialReceive (n src step : Nat) (value : Word)
  | normPartialSend (n : Nat)
  | sealTimeout (n : Nat)
  -- Spokes (chapter 14)
  | spokeTrain (h : HalfId) (spoke : Nat) (t : Training)
  | spokeTrainRetry (h : HalfId) (spoke : Nat) (t : Training)
  | spokeRetrain (h : HalfId) (spoke : Nat) (t : Training)
  | spokeDown (via : Via) (value : Word)
  | spokeTrainStart (via : Via) (value : Word)
  | spokeForceRetrain (via : Via) (value : Word)
  | positionWrite (via : Via) (h : HalfId) (value : Word)
  -- Update and transfer (chapter 13)
  | updateStart (n : Nat)
  | updateComplete (n : Nat)
  | transferPassStart (tile : Nat)
  | transferRowComplete (tile row : Nat) (meas : RowMeas)
  | governorEvaluate (tile hottest : Nat)
  -- Resilience (chapter 15)
  | riskEvaluate (h : HalfId) (lowForTime : Bool)
  | draftFrameReceive (frame : Frame)
  | draftReceipt (via : Via) (h : HalfId) (value : BitVec 64)
  | slotEnable (via : Via) (h : HalfId) (value : BitVec 64)
  | restoreStart (via : Via) (value : Word)
  | sendBack (via : Via) (h : HalfId) (value : BitVec 64)
  | restoreApply (n : Nat) (seen : List RowSeen)
  | restoreTimeout (n : Nat)
  | unitSuspect (unit : UnitWord) (cause ctx step : Nat)
  | suspectReplace (unit : UnitWord)
  | spareCourseHandover (h : HalfId) (course : Nat)
  | logClear (via : Via) (value : Word)
  -- Power (chapter 16)
  | enterActive (via : Via) (value : Word) (found : Findings)
  | enterQuiet (via : Via) (value : Word)
  | enterRetain (via : Via) (value : Word)
  | enterKeystoneOnly (via : Via) (value : Word)
  | quiescence
  | powerStateReached
  | wake
  | boardLimitWrite (via : Via) (value : Word)
  | budgetSplitWrite (via : Via) (value : Word)
  | powerGovern (h : HalfId) (drawMw : Nat) (below10ms : Bool)
  | powerFastClamp (h : HalfId)
  | coreSetpointWrite (via : Via) (h : HalfId) (value : Word)
  | droopDetect (h : HalfId) (course : Nat)
  | droopRecover (h : HalfId) (course : Nat)
  | thermalThrottle (h : HalfId) (celsius : Int)
  | thermalRecover (h : HalfId) (celsius : Int)
  | thermalCrawl (h : HalfId) (celsius : Int)
  | thermalCrawlEnd (h : HalfId) (celsius : Int)
  | thermalTrip (h : HalfId) (celsius : Int)
  | energyReconcile (h : HalfId) (measured overheadEstimate moduleEnergy : Nat) (traffic : List (Nat × Nat × Nat))
  -- Security (chapter 17)
  | entropyFailure
  | commitKeystone (via : Via) (value : Word)
  | commitHalfComponent (via : Via) (value : Word)
  | treeBuild
  | challenge (via : Via) (nonce : List Byte)
  | getMeasurements (via : Via) (block : Nat) (signed : Bool)
  | getCertificate (via : Via) (slot : Nat)
  | keyExchange (via : Via) (id : Nat) (requester : List Byte) (mutAuth rooted : Bool)
  | keyUpdate (via : Via)
  | spdmHeartbeat (via : Via)
  | sessionHeartbeatTimeout (id : Nat)
  | sessionEnd (id : Nat)
  | ownerRootInstall (via : Via) (point : List Byte)
  | releaseOwnership (via : Via) (value : Word) (residual : List (Nat × Nat))
  | sealingKeyInstall (via : Via) (key : List Word)
  | clearSealingSlot (via : Via) (value : Word)
  | rebind (via : Via) (value : Word)
  | releaseIdeHold (via : Via) (value : Word)
  | pelotonKeyInstall (via : Via) (h : HalfId) (words : List Word)
  | pelotonKeyAdvance (via : Via) (h : HalfId) (value : Word)
  | previousKeyDestroy (h : HalfId)
  | sanitize (via : Via) (value : Word) (residual : List (Nat × Nat))
  | signStatement (via : Via) (value : Word)
  | serviceCommand (via : Via) (blob : List Byte)
  -- Resets and plumb checks (chapter 18)
  | halfReset (via : Via) (value : Word) (found : List (BitVec 64))
  | tileReset (via : Via) (value : Word)
  | plumbDue (tile : Nat)
  | plumbCheck (tile : Nat) (v1Fail v2Fail v3Fail : Bool)
  | plumbRelocate (tile : Nat)
  -- Errors and configuration (chapters 15, 17, 03)
  | memoryError (h : HalfId) (err : MemErr) (place : MemPlace)
  | tspRequest (id : Nat) (fn : Fn) (lock : Option Bool)
  | configurationRequest (fn : Fn) (register : Nat) (kind : CfgKind)
  deriving DecidableEq, Repr

end Sys2Proof
end

