-- ==== Sys2Proof/Decode.lean ====
section
/-! DEFINITION. Commands that a word spells. No row of the table of operations and events gives its
command any bits: a command arrives as a request, a frame, an event or a pin, never as an
instruction word. -/

namespace Sys2Proof

/-- The command that the table's bits of a word spell: no row gives bits, so no word spells one. -/
def decodeTableWord (_nbits _w : Nat) : Option Instr := none

end Sys2Proof
end

