-- ==== Sys2Proof/Machine/Crypto.lean ====
section
/-! DEFINITION. The published functions the spec names: AES (FIPS 197) with its GCM and XTS modes,
SHA-256, HMAC and HKDF over it, CRC-32C, membership of a point in P-384. PRESUMED from those
standards (assumption 17). Bytes are numbers 0 to 255. -/

namespace Sys2Proof.Machine

open Sys2Proof

/-! ### AES -/

/-- Multiplication by x in GF(2^8). -/
def xtime (a : Nat) : Nat :=
  let b := a * 2
  if b < 256 then b else Nat.xor (b % 256) 0x1B

def gmulFuel : Nat → Nat → Nat → Nat → Nat
  | 0, _, _, r => r
  | k + 1, a, b, r => gmulFuel k (xtime a) (b / 2) (if b % 2 = 1 then Nat.xor r a else r)

def gmul (a b : Nat) : Nat := gmulFuel 8 a b 0

/-- a^254, the inverse in GF(2^8) with 0 to 0. -/
def ginv (a : Nat) : Nat :=
  let a2 := gmul a a
  let a3 := gmul a2 a
  let a6 := gmul a3 a3
  let a12 := gmul a6 a6
  let a15 := gmul a12 a3
  let a30 := gmul a15 a15
  let a60 := gmul a30 a30
  let a120 := gmul a60 a60
  let a126 := gmul a120 a6
  let a127 := gmul a126 a
  gmul a127 a127

def rotl8 (a n : Nat) : Nat := (a * 2 ^ n) % 256 + a / 2 ^ (8 - n)

def sbox (a : Nat) : Nat :=
  let b := ginv a
  Nat.xor (Nat.xor (Nat.xor (Nat.xor (Nat.xor b (rotl8 b 1)) (rotl8 b 2)) (rotl8 b 3)) (rotl8 b 4))
    0x63

def xorBytes (a b : List Nat) : List Nat := (a.zip b).map (fun e => Nat.xor e.1 e.2)

/-- Key schedule: words of four bytes, newest first; `nk` words in the key, `i` the next index. -/
def keyWords : Nat → Nat → Nat → Nat → List (List Nat) → List (List Nat)
  | 0, _, _, _, ws => ws
  | k + 1, nk, i, rcon, ws =>
    let prev := ws.headD []
    let t := if i % nk = 0 then
        match prev with
        | a :: r => (match (r ++ [a]).map sbox with
          | x :: y => Nat.xor x rcon :: y
          | [] => [])
        | [] => []
      else if nk = 8 ∧ i % nk = 4 then prev.map sbox else prev
    let w := xorBytes (ws.getD (nk - 1) []) t
    keyWords k nk (i + 1) (if i % nk = 0 then xtime rcon else rcon) (w :: ws)

def chunk4 : List Nat → List (List Nat)
  | a :: b :: c :: d :: r => [a, b, c, d] :: chunk4 r
  | _ => []

/-- Round keys of 16 bytes for a key of 16 or 32 bytes. -/
def aesKeys (key : List Nat) : List (List Nat) :=
  let nk := key.length / 4
  let ws := (keyWords (4 * (nk + 7) - nk) nk nk 1 (chunk4 key).reverse).reverse
  (List.range (nk + 7)).map (fun r => ((ws.drop (4 * r)).take 4).flatten)

def shiftRows (b : List Nat) : List Nat :=
  (List.range 16).map (fun i => b.getD ((i + 4 * (i % 4)) % 16) 0)

def mixColumn (a b c d : Nat) : List Nat :=
  let m := fun w x y z => Nat.xor (Nat.xor (xtime w) (Nat.xor (xtime x) x)) (Nat.xor y z)
  [m a b c d, m b c d a, m c d a b, m d a b c]

def mixColumns : List Nat → List Nat
  | a :: b :: c :: d :: r => mixColumn a b c d ++ mixColumns r
  | _ => []

def aesRounds : List (List Nat) → List Nat → List Nat
  | [], b => b
  | [k], b => xorBytes (shiftRows (b.map sbox)) k
  | k :: ks, b => aesRounds ks (xorBytes (mixColumns (shiftRows (b.map sbox))) k)

/-- AES of one 16-byte block. -/
def aes (key block : List Nat) : List Nat :=
  match aesKeys key with
  | k :: ks => aesRounds ks (xorBytes block k)
  | [] => []

/-- `n` bytes of a number, high byte first. -/
def beBytes (n v : Nat) : List Nat := (List.range n).map (fun i => v / 256 ^ (n - 1 - i) % 256)

/-- The number that bytes spell, high byte first. -/
def beNat (l : List Nat) : Nat := l.foldl (fun a b => a * 256 + b) 0

/-! ### GCM with AES-256 -/

def gf128Step : Nat → Nat → Nat → Nat → Nat
  | 0, _, _, z => z
  | k + 1, x, v, z =>
    gf128Step k x (if v % 2 = 1 then Nat.xor (v / 2) (0xE1 * 2 ^ 120) else v / 2)
      (if x / 2 ^ k % 2 = 1 then Nat.xor z v else z)

def gf128 (x h : Nat) : Nat := gf128Step 128 x h 0

def blocks16 : Nat → List Nat → List (List Nat)
  | 0, _ => []
  | k + 1, l => l.take 16 :: blocks16 k (l.drop 16)

def padBlocks (l : List Nat) : List (List Nat) :=
  (blocks16 ((l.length + 15) / 16) l).map (fun b => b ++ List.replicate (16 - b.length) 0)

def ghash (h : Nat) (aad data : List Nat) : Nat :=
  let y := (padBlocks aad ++ padBlocks data).foldl (fun y b => gf128 (Nat.xor y (beNat b)) h) 0
  gf128 (Nat.xor y (aad.length * 8 * 2 ^ 64 + data.length * 8)) h

def ctrStream (key nonce : List Nat) (first n : Nat) : List Nat :=
  ((List.range n).map (fun i => aes key (nonce ++ beBytes 4 (first + i)))).flatten

/-- Encryption or decryption of the data under a 12-byte nonce. -/
def gcmCrypt (key nonce data : List Nat) : List Nat :=
  xorBytes data (ctrStream key nonce 2 ((data.length + 15) / 16))

/-- Tag of 16 bytes over the ciphertext. -/
def gcmTag (key nonce aad cipher : List Nat) : List Nat :=
  xorBytes (beBytes 16 (ghash (beNat (aes key (List.replicate 16 0))) aad cipher))
    (aes key (nonce ++ beBytes 4 1))

/-! ### XTS with AES-256 (R469) -/

def xtsDouble (t : List Nat) : List Nat :=
  let v := t.reverse.foldl (fun a b => a * 256 + b) 0 * 2
  let r := if v < 2 ^ 128 then v else Nat.xor (v % 2 ^ 128) 0x87
  (beBytes 16 r).reverse

def xtsFrom (key : List Nat) : List Nat → List (List Nat) → List Nat
  | _, [] => []
  | t, b :: r => xorBytes (aes key (xorBytes b t)) t ++ xtsFrom key (xtsDouble t) r

/-- A 64-byte line encrypted under a 64-byte key with a tweak number. -/
def xtsLine (key : List Nat) (tweak : Nat) (line : List Nat) : List Nat :=
  xtsFrom (key.take 32) (aes (key.drop 32) (beBytes 16 tweak).reverse) (padBlocks line)

/-! ### SHA-256 -/

def m32 (n : Nat) : Nat := n % 2 ^ 32
def rotr32 (a n : Nat) : Nat := a / 2 ^ n + a % 2 ^ n * 2 ^ (32 - n)
def xor3 (a b c : Nat) : Nat := Nat.xor (Nat.xor a b) c

/-- First 32 bits of the fraction of the root of a prime: cube roots give the round constants,
square roots the start value. -/
def rootFrom (pw : Nat) : Nat → Nat → Nat → Nat
  | 0, _, r => r
  | k + 1, n, r => rootFrom pw k n (if (r + 2 ^ k) ^ pw ≤ n then r + 2 ^ k else r)

def rootFrac (pw n : Nat) : Nat := m32 (rootFrom pw 40 (n * 2 ^ (32 * pw)) 0)

def isPrimeTo (n : Nat) : Bool := (List.range 18).all (fun d => d < 2 || n ≤ d || n % d != 0)

/-- The first 64 primes. -/
def primes64 : List Nat := ((List.range 312).filter (fun n => 2 ≤ n && isPrimeTo n)).take 64

def shaK : List Nat := primes64.map (rootFrac 3)
def shaInit : List Nat := (primes64.take 8).map (rootFrac 2)

def shaSchedule : Nat → List Nat → List Nat
  | 0, ws => ws
  | k + 1, ws =>
    let w := fun i => ws.getD (i - 1) 0
    let s0 := xor3 (rotr32 (w 15) 7) (rotr32 (w 15) 18) (w 15 / 8)
    let s1 := xor3 (rotr32 (w 2) 17) (rotr32 (w 2) 19) (w 2 / 1024)
    shaSchedule k (m32 (w 16 + s0 + w 7 + s1) :: ws)

def shaRound (st : List Nat) (kw : Nat) : List Nat :=
  match st with
  | [a, b, c, d, e, f, g, h] =>
    let s1 := xor3 (rotr32 e 6) (rotr32 e 11) (rotr32 e 25)
    let ch := Nat.xor (Nat.land e f) (Nat.land (2 ^ 32 - 1 - e) g)
    let t1 := h + s1 + ch + kw
    let s0 := xor3 (rotr32 a 2) (rotr32 a 13) (rotr32 a 22)
    let mj := xor3 (Nat.land a b) (Nat.land a c) (Nat.land b c)
    [m32 (t1 + s0 + mj), a, b, c, m32 (d + t1), e, f, g]
  | _ => st

def shaBlock (h : List Nat) (block : List Nat) : List Nat :=
  let ws := (shaSchedule 48 ((chunk4 block).map beNat).reverse).reverse
  let r := (shaK.zip ws).foldl (fun st e => shaRound st (e.1 + e.2)) h
  (h.zip r).map (fun e => m32 (e.1 + e.2))

def shaPad (l : List Nat) : List Nat :=
  l ++ [0x80] ++ List.replicate ((119 - l.length % 64) % 64) 0 ++ beBytes 8 (l.length * 8)

def blocks64 : Nat → List Nat → List (List Nat)
  | 0, _ => []
  | k + 1, l => l.take 64 :: blocks64 k (l.drop 64)

/-- SHA-256 of a byte string: 32 bytes. -/
def sha256 (l : List Nat) : List Nat :=
  let p := shaPad l
  ((blocks64 (p.length / 64) p).foldl shaBlock shaInit).flatMap (beBytes 4)

def sha256Bytes (l : List Byte) : List Byte :=
  (sha256 (l.map (·.toNat))).map (BitVec.ofNat 8)

/-! ### HMAC and HKDF over SHA-256 -/

def hmac (key msg : List Nat) : List Nat :=
  let k := if 64 < key.length then sha256 key else key
  let k := k ++ List.replicate (64 - k.length) 0
  sha256 (k.map (Nat.xor 0x5C) ++ sha256 (k.map (Nat.xor 0x36) ++ msg))

def hkdfExtract (salt ikm : List Nat) : List Nat := hmac salt ikm
/-- One output block of HKDF-Expand: 32 bytes. -/
def hkdfExpand (prk info : List Nat) : List Nat := hmac prk (info ++ [1])

/-! ### CRC-32C -/

def crcBits : Nat → Nat → Nat
  | 0, c => c
  | k + 1, c => crcBits k (if c % 2 = 1 then Nat.xor (c / 2) 0x82F63B78 else c / 2)

def crcUpdate (c : Nat) (l : List Nat) : Nat := l.foldl (fun c b => crcBits 8 (Nat.xor c b)) c

/-- CRC-32C (Castagnoli) of a byte string. -/
def crc32c (l : List Nat) : Nat := Nat.xor (crcUpdate 0xFFFFFFFF l) 0xFFFFFFFF

/-! ### P-384 -/

def p384 : Nat := 2 ^ 384 - 2 ^ 128 - 2 ^ 96 + 2 ^ 32 - 1
def p384b : Nat :=
  0xB3312FA7E23EE7E4988E056BE3F82D19181D9C6EFE8141120314088F5013875AC656398D8A2ED19D2A85C8EDD3EC2AEF

/-- A SEC1 uncompressed point of 97 bytes lies on the curve. -/
def onCurve (pt : List Nat) : Bool :=
  match pt with
  | 0x04 :: r =>
    let x := beNat (r.take 48)
    let y := beNat (r.drop 48)
    r.length == 96 && decide (x < p384) && decide (y < p384) &&
      (y * y) % p384 == (x * x * x + (p384 - 3) * x + p384b) % p384
  | _ => false

end Sys2Proof.Machine
end

