-- ==== Sys2Proof/Config.lean ====
section
/-! DEFINITION. What the spec leaves to the die or leaves open: constants without a body, of which
nothing can be computed and no value can be proved. -/

namespace Sys2Proof.Config

/-- Value of a register that is fixed per module or per die (R18, R81, R483), by its dictionary key.
PRESUMED nothing of it: assumption 3. -/
opaque implWord : Nat → Word

/-- The n-th free value drawn (assumption 6): a measured or otherwise unstated word. -/
opaque freeWord : Nat → Word

/-- Estimate in µs until a deferred write of this object completes (R119), where no rule gives it. -/
opaque estimate : Nat → Nat

/-- Estimate in µs until a shed or full manager serves again (R133), by half. -/
opaque loadEstimate : Nat → Nat

/-- Records the 1 MiB trace ring holds (R512 gives the bytes and no record size). -/
opaque traceCapacity : Nat

/-- The Phirin family's fixed evaluation of the functions that R209, R285, R320 and R338 bound and do
not define bit for bit (R286, assumption 7), on FP32 words: GELU, SiLU, sigmoid, hyperbolic tangent,
their derivatives, exponential, cosine, power, natural logarithm. -/
opaque gelu : Word → Word
opaque silu : Word → Word
opaque sigmoid : Word → Word
opaque tanh : Word → Word
opaque geluSlope : Word → Word
opaque siluSlope : Word → Word
opaque sigmoidSlope : Word → Word
opaque tanhSlope : Word → Word
opaque exp : Word → Word
opaque cos : Word → Word
opaque pow : Word → Word → Word
opaque ln : Word → Word

/-- 2^(-1/H) in FP32 for the half-life H in seconds (R394 gives no evaluation). -/
opaque halfLife : Nat → Word

/-- Bytes of a CPER record's header and section descriptor that no rule gives, by the record's sequence number
and offset (R418), and the bytes of the trace ring, which R512 gives no layout, from what it holds. -/
opaque cperByte : Nat → Nat → Byte
opaque traceBytes : List Nat → List Byte

/-- Words of the host memory that the records of a stream lie in, which no command carries (R157): by the record's
number since the stream began, its host address, the tensor and the word in the record. -/
opaque streamWord : Nat → Nat → Nat → Nat → Word
/-- Estimate, in µs, of the time until an entry of a manager's queue of tier 1 frees, by half (R133). -/
opaque queueEstimate : Nat → Nat

/-- Code that the slice reference charge of F1 gives on an ideal slice at range code 3, in 9-bit mode (0) and in fine mode
(1): R226 states no charge. -/
opaque sliceReference : Nat → Word

/-- Counts by which a half's copy of the keystone count stands off at a resynchronisation, 0 to 4 for -2 to 2 (R97). -/
opaque copySkew : Nat → Nat

/-- Values of an input tensor that no declaration places in memory and no stream feeds, by context, tensor, step and
element. -/
opaque inputWord : Nat → Nat → Nat → Nat → Word

/-- Loss that a vector adds whose label names no output, by context, step and vector (R401 gives none). -/
opaque labelLoss : Nat → Nat → Nat → Word

/-- Frames of VC2 or VC3 for which a spoke's far receiver has buffer (R362 gives VC0 and VC1 only). -/
opaque bulkCredits : Nat

/-- What a configuration register of a function reads at its reset, by function and register (R63 names the
capabilities and gives no layout), and the MCTP version word the endpoint answers (R121 gives none). -/
opaque cfgWord : Nat → Nat → Word
opaque mctpVersion : Nat

/-! Signatures (R455; assumption 8): whether an HSS signature over a message verifies, under the firmware
root or under a service key, the digest of the service root, the bytes of a signature that a leaf gives,
and the measured value of a block (R465 gives no layout of what is digested). -/

opaque firmwareSigned : List Byte → List Byte → Bool
opaque serviceSigned : List Byte → List Byte → List Byte → Bool
opaque serviceRoot : List Byte
opaque hssByte : Nat → List Byte → Nat → Byte
opaque measured : Nat → List Byte → Nat → Byte

/-- Bytes of the fuse configuration, beside the anti-rollback counter in measurement block 7 (R465 gives no content). -/
opaque fuseConfiguration : List Byte

end Sys2Proof.Config
end

