-- ==== Sys2Proof/Machine/Float.lean ====
section
/-! DEFINITION. FP32 arithmetic (R251), the element and scale codes of the scaled formats (R247 to
R250, R254, R272), rounding between them (R252, R256, R269) and the reference order (R265). A finite
magnitude is a natural number of the format's least unit; codes of a format rise with the magnitude,
so one rounding serves every format. -/

namespace Sys2Proof.Machine

open Sys2Proof

/-! ### Codes of a binary format with `p` mantissa bits -/

/-- Magnitude of a code in the format's least unit. -/
def codeUnits (p c : Nat) : Nat :=
  if c < 2 ^ (p + 1) then c else (2 ^ p + c % 2 ^ p) * 2 ^ (c / 2 ^ p - 1)

/-- Binary exponent above the least unit at which a magnitude is rounded. -/
def codeShift (p n : Nat) : Nat := if n < 2 ^ (p + 1) then 0 else Nat.log2 n - p

/-- Quotient rounded to nearest, ties to even. -/
def divEven (a b : Nat) : Nat :=
  let q := a / b
  let r := a % b
  if 2 * r < b then q else if b < 2 * r then q + 1 else q + q % 2

/-- Code nearest to `num / den` units, ties to even. -/
def codeNear (p num den : Nat) : Nat :=
  let sh := codeShift p (num / den)
  divEven num (den * 2 ^ sh) + sh * 2 ^ p

/-- Largest code not above `num / den` units. -/
def codeFloor (p num den : Nat) : Nat :=
  let sh := codeShift p (num / den)
  num / (den * 2 ^ sh) + sh * 2 ^ p

/-- Smallest code not below `num / den` units. -/
def codeCeil (p num den : Nat) : Nat :=
  let c := codeFloor p num den
  if codeUnits p c * den < num then c + 1 else c

/-! ### FP32 (R251): units of 2^-149 -/

def f32NaN : Word := 0x7FC00000
def f32Zero : Word := 0
def f32One : Word := 0x3F800000
def f32Two : Word := 0x40000000
def f32Half : Word := 0x3F000000

def f32Neg (w : Word) : Bool := w.getLsbD 31
def f32Mag (w : Word) : Nat := w.toNat % 2 ^ 31
def f32IsNaN (w : Word) : Bool := decide (0x7F800000 < f32Mag w)
def f32IsInf (w : Word) : Bool := decide (f32Mag w = 0x7F800000)
def f32Finite (w : Word) : Bool := decide (f32Mag w < 0x7F800000)
def f32IsZero (w : Word) : Bool := decide (f32Mag w = 0)

/-- Magnitude of a finite word in units of 2^-149. -/
def f32Units (w : Word) : Nat := codeUnits 23 (f32Mag w)

/-- Value of a finite word in units of 2^-149. -/
def f32Int (w : Word) : Int := if f32Neg w then -(f32Units w : Int) else f32Units w

def f32Sign (neg : Bool) (mag : Nat) : Word := toWord ((if neg then 2 ^ 31 else 0) + mag)

/-- The word nearest to ± num / den units of 2^-149, ties to even, overflowing to infinity. -/
def f32Round (neg : Bool) (num den : Nat) : Word :=
  f32Sign neg (min 0x7F800000 (codeNear 23 num den))

def f32Inf (neg : Bool) : Word := f32Sign neg 0x7F800000

def fadd (a b : Word) : Word :=
  if f32IsNaN a || f32IsNaN b then f32NaN
  else if f32IsInf a then (if f32IsInf b && (f32Neg a != f32Neg b) then f32NaN else a)
  else if f32IsInf b then b
  else
    let v := f32Int a + f32Int b
    if v = 0 then f32Sign (f32IsZero a && f32IsZero b && f32Neg a && f32Neg b) 0
    else f32Round (decide (v < 0)) v.natAbs 1

def fneg (a : Word) : Word := a ^^^ 0x80000000
def fabs (a : Word) : Word := a &&& 0x7FFFFFFF
def fsub (a b : Word) : Word := fadd a (if f32IsNaN b then b else fneg b)

def fmul (a b : Word) : Word :=
  let neg := f32Neg a != f32Neg b
  if f32IsNaN a || f32IsNaN b then f32NaN
  else if f32IsInf a || f32IsInf b then
    (if f32IsZero a || f32IsZero b then f32NaN else f32Inf neg)
  else f32Round neg (f32Units a * f32Units b) (2 ^ 149)

def fdiv (a b : Word) : Word :=
  let neg := f32Neg a != f32Neg b
  if f32IsNaN a || f32IsNaN b then f32NaN
  else if f32IsInf a then (if f32IsInf b then f32NaN else f32Inf neg)
  else if f32IsInf b then f32Sign neg 0
  else if f32IsZero b then (if f32IsZero a then f32NaN else f32Inf neg)
  else f32Round neg (f32Units a * 2 ^ 149) (f32Units b)

/-- Integer square root, one bit at a time from bit `k - 1` down. -/
def isqrtFrom : Nat → Nat → Nat → Nat
  | 0, _, r => r
  | k + 1, n, r =>
    let t := r + 2 ^ k
    isqrtFrom k n (if t * t ≤ n then t else r)

def isqrt (n : Nat) : Nat := isqrtFrom (Nat.log2 n / 2 + 1) n 0

/-- Square root rounded to nearest: the root of the units scaled by 2^149 and widened by 2^60, its
last bit made sticky. -/
def fsqrt (a : Word) : Word :=
  if f32IsNaN a then f32NaN
  else if f32IsZero a then a
  else if f32Neg a then f32NaN
  else if f32IsInf a then a
  else
    let n := f32Units a * 2 ^ 149 * 2 ^ 60
    let r := isqrt n
    f32Round false (2 * r + (if r * r = n then 0 else 1)) (2 ^ 31)

/-- a < b on numbers; false with a NaN. -/
def flt (a b : Word) : Bool :=
  if f32IsNaN a || f32IsNaN b then false
  else if f32IsInf a then f32Neg a && !(f32IsInf b && f32Neg b)
  else if f32IsInf b then !f32Neg b
  else decide (f32Int a < f32Int b)

def fle (a b : Word) : Bool := !f32IsNaN a && !f32IsNaN b && !flt b a

def fmax (a b : Word) : Word := if flt a b then b else a
def fmin (a b : Word) : Word := if flt b a then b else a

/-- A natural number as FP32, rounded to nearest. -/
def f32OfNat (n : Nat) : Word := f32Round false (n * 2 ^ 149) 1
def f32OfInt (n : Int) : Word := f32Round (decide (n < 0)) (n.natAbs * 2 ^ 149) 1
/-- A power of two, positive or negative. -/
def f32Pow2 (e : Int) : Word :=
  if 0 ≤ e then f32Round false (2 ^ (149 + e.toNat)) 1 else f32Round false (2 ^ 149) (2 ^ (-e).toNat)

/-- Largest integer not above a finite word's value. -/
def f32Floor (w : Word) : Int := f32Int w / (2 ^ 149 : Int)

/-- Multiplication by a power of two, exact but for range. -/
def fscale (a : Word) (e : Int) : Word := fmul a (f32Pow2 e)

/-! ### The reference order (R265) -/

def sumBlock (l : List Word) : Word := l.foldl fadd f32Zero

/-- Sums of blocks of 256 terms in index order. -/
def sumBlocks : Nat → List Word → List Word
  | 0, _ => []
  | k + 1, l => sumBlock (l.take 256) :: sumBlocks k (l.drop 256)

/-- One level of the pairwise tree; an odd block is carried up. -/
def pairLevel : List Word → List Word
  | a :: b :: r => fadd a b :: pairLevel r
  | l => l

def pairTree : Nat → List Word → Word
  | _, [] => f32Zero
  | _, [a] => a
  | 0, a :: _ => a
  | k + 1, l => pairTree k (pairLevel l)

/-- The pairwise tree over block sums. -/
def treeSum (l : List Word) : Word := pairTree l.length l

def refSum (l : List Word) : Word := treeSum (sumBlocks ((l.length + 255) / 256) l)

/-! ### The scaled formats -/

/-- Element formats of R246. -/
inductive Fmt where
  | k4 | k8 | k8e | k16 | f32
  deriving DecidableEq, Repr

def Fmt.ofCode : Nat → Option Fmt
  | 0x01 => some .k4
  | 0x02 => some .k8
  | 0x03 => some .k8e
  | 0x04 => some .k16
  | 0x05 => some .f32
  | _ => none

/-- Mantissa bits (R247 to R250). -/
def Fmt.mant : Fmt → Nat
  | .k4 => 1
  | .k8 => 3
  | .k8e => 2
  | .k16 => 7
  | .f32 => 23

/-- The least unit is 2^-this. -/
def Fmt.unitExp : Fmt → Nat
  | .k4 => 1
  | .k8 => 9
  | .k8e => 16
  | .k16 => 133
  | .f32 => 149

/-- Place of the sign bit. -/
def Fmt.signBit : Fmt → Nat
  | .k4 => 3
  | .k8 => 7
  | .k8e => 7
  | .k16 => 15
  | .f32 => 31

/-- Code of Qmax (R246). -/
def Fmt.maxCode : Fmt → Nat
  | .k4 => 0x7
  | .k8 => 0x7F
  | .k8e => 0x7F
  | .k16 => 0x7F7F
  | .f32 => 0x7F7FFFFF

def Fmt.scaled : Fmt → Bool
  | .k4 | .k8 | .k8e => true
  | _ => false

/-- Qmax as FP32: 6, 480 and 114,688 for the scaled formats. -/
def Fmt.qmax (f : Fmt) : Word :=
  f32Round false (codeUnits f.mant f.maxCode * 2 ^ (149 - f.unitExp)) 1

/-- Value of a code as FP32, exact. -/
def Fmt.decode (f : Fmt) (c : Nat) : Word :=
  let neg := bitsOf c f.signBit 1 == 1
  let mag := c % 2 ^ f.signBit
  match f with
  | .k16 => toWord (c % 65536 * 65536)
  | .f32 => toWord c
  | _ => f32Sign (neg && mag != 0)
      (f32Mag (f32Round false (codeUnits f.mant mag * 2 ^ (149 - f.unitExp)) 1))

/-- Value of a B8 code as FP32 (R254): units of 2^-17, three mantissa bits. -/
def b8Val (c : Nat) : Word := f32Round false (codeUnits 3 (c % 256) * 2 ^ 132) 1

/-- What one conversion made: code and whether it saturated. -/
structure Conv where
  code : Nat
  saturated : Bool
  deriving DecidableEq, Repr

def Fmt.signed (f : Fmt) (neg : Bool) (mag : Nat) : Nat :=
  if mag = 0 then 0 else (if neg then 2 ^ f.signBit else 0) + mag

/-- Nearest code of a finite x against divisor d (R252); the quotient by a divisor that has come to 0 lies beyond
Qmax. -/
def Fmt.near (f : Fmt) (x d : Word) : Conv :=
  let c := if f32IsZero d && !f32IsZero x then f.maxCode + 1
    else codeNear f.mant (f32Units x * 2 ^ f.unitExp) (f32Units d)
  { code := f.signed (f32Neg x) (min c f.maxCode), saturated := decide (f.maxCode < c) }

/-- Stochastic rounding of a finite x against divisor d with draw r (R269). -/
def Fmt.stoch (f : Fmt) (x d : Word) (r : Nat) : Conv :=
  let num := f32Units x * 2 ^ f.unitExp
  let den := f32Units d
  let lo := codeFloor f.mant num den
  if den = 0 then f.near x d
  else if f.maxCode < lo ∨ (lo = f.maxCode ∧ codeUnits f.mant lo * den < num) then
    { code := f.signed (f32Neg x) f.maxCode, saturated := true }
  else
    let ul := codeUnits f.mant lo
    let uh := codeUnits f.mant (lo + 1)
    let dd := 65536 * (num - ul * den) / ((uh - ul) * den)
    { code := f.signed (f32Neg x) (if 65536 ≤ dd + r then lo + 1 else lo), saturated := false }

/-- Conversion into K16 (R250, R252): the upper half of the word, rounded to nearest even,
overflowing to infinity; stochastic where a draw is given and |x| is at most Qmax (R269). -/
def k16Of (x : Word) (draw : Option Nat) : Nat :=
  if f32IsNaN x then 0x7FC0
  else if f32IsInf x then x.toNat / 65536
  else
    match draw with
    | none => (if f32Neg x then 0x8000 else 0) + min 0x7F80 (divEven (f32Mag x) 65536)
    | some r =>
      let lo := f32Mag x / 65536
      let dd := f32Mag x % 65536
      let near := if lo = 0x7F7F then divEven (f32Mag x) 65536 else if 65536 ≤ dd + r then lo + 1 else lo
      (if f32Neg x then 0x8000 else 0) + min 0x7F80 near

/-- A block's conversion (R256, R257, R263). -/
structure Block where
  scale : Nat
  codes : List Nat
  saturated : Nat
  underflow : Bool
  trueZero : Bool
  invalid : Bool
  deriving DecidableEq, Repr

/-- Largest finite magnitude, as FP32 (R259). -/
def runMax (l : List Word) : Word :=
  l.foldl (fun m x => if f32Finite x then fmax m (fabs x) else m) f32Zero

/-- Smallest B8 value not below s = m / (coarse × Qmax), 0xFE at most (R256). -/
def b8Choose (f : Fmt) (m coarse : Word) : Nat :=
  let c := codeCeil 3 (f32Units m * 2 ^ 17 * 2 ^ f.unitExp)
    (f32Units coarse * codeUnits f.mant f.maxCode)
  if f32IsZero coarse then 0xFE else max 1 (min 0xFE c)

/-- Smallest power of two not below s, from 2^-7 to 1 (R257): codes 0x40, 0x48 to 0x78. -/
def b8Array (m coarse : Word) : Nat :=
  let num := f32Units m * 2
  let den := f32Units coarse * 12
  let e := ((List.range 8).find? (fun j => decide (num * 2 ^ (7 - j) ≤ den))).getD 7
  0x40 + 8 * e

/-- Converts a block under a coarse scale. `draws` gives the draw of each element where stochastic
rounding applies (R268). -/
def convBlock (f : Fmt) (coarse : Word) (arrayIn : Bool) (xs : List Word)
    (draws : List (Option Nat)) : Block :=
  let zeros := xs.map (fun _ => 0)
  if xs.any (fun x => !f32Finite x) then
    { scale := 0xFF, codes := zeros, saturated := 0, underflow := false, trueZero := false,
      invalid := true }
  else
    let m := runMax xs
    if f32IsZero m then
      { scale := 0x00, codes := zeros, saturated := 0, underflow := false, trueZero := true,
        invalid := false }
    else
      let b := if arrayIn then b8Array m coarse else b8Choose f m coarse
      let d := fmul coarse (b8Val b)
      let cs := (xs.zip draws).map (fun e =>
        match e.2 with
        | some r => f.stoch e.1 d r
        | none => f.near e.1 d)
      let dead := cs.all (fun c => c.code == 0)
      { scale := if dead then 0x00 else b, codes := cs.map (·.code),
        saturated := (cs.filter (·.saturated)).length, underflow := dead, trueZero := false,
        invalid := false }

/-- Decoded value of an element of a block: NaN in an invalid block (R263). -/
def blockVal (f : Fmt) (code scale : Nat) (coarse : Word) : Word :=
  if scale = 0xFF then f32NaN
  else fmul (fmul (f.decode code) (b8Val scale)) coarse

/-- Coarse scale of a step: (M × 2) ÷ Qmax (R258). -/
def coarseOf (f : Fmt) (m : Word) : Word := fdiv (fmul m f32Two) f.qmax

end Sys2Proof.Machine
end

