-- ==== Sys2Proof/Machine/Rows.lean ====
section
/-! DEFINITION. What a row of the object tables says of a dictionary object: types (R112), access
rights (R114), persistence (R115), ranges, owners (R110). -/

namespace Sys2Proof.Machine

open Sys2Proof

/-- Data types of R112. -/
inductive Ty where
  | bool | u8 | u16 | u32 | u64 | i32 | f32 | scale | str | domain | array
  deriving DecidableEq, Repr

/-- Type codes of R112. -/
def Ty.code : Ty → Nat
  | .bool => 0 | .u8 => 1 | .u16 => 2 | .u32 => 3 | .u64 => 4 | .i32 => 5 | .f32 => 6
  | .scale => 7 | .str => 8 | .domain => 9 | .array => 10

/-- Words one element of a type takes. -/
def Ty.words : Ty → Nat
  | .u64 => 2
  | _ => 1

/-- Access rights of R114. -/
inductive Access where
  | ro | wo | rw | rws | rwl
  deriving DecidableEq, Repr

/-- Access codes of R111. -/
def Access.code : Access → Nat
  | .ro => 0 | .wo => 1 | .rw => 2 | .rws => 3 | .rwl => 4

/-- Persistence classes of R115. -/
inductive Persist where
  | p0 | p1 | p2 | h
  deriving DecidableEq, Repr

/-- Persistence codes of R111. -/
def Persist.code : Persist → Nat
  | .p0 => 0 | .p1 => 1 | .p2 => 2 | .h => 3

/-- Default of an object: one value across its words, the same value in every element, a list of
words, element number, the identity matrix of a quad, or a value fixed per module or die. -/
inductive Dflt where
  | val (n : Nat)
  | each (n : Nat)
  | seq (l : List Nat)
  | ramp
  | identity
  /-- Fixed by the implementation: an opaque word of this many bits. -/
  | impl (bits : Nat)
  /-- One of the listed values, fixed by what the implementation meets. -/
  | implIn (l : List Nat)
  deriving DecidableEq, Repr

/-- Stated range of a writable object (R112): beyond a maximum 0x2001, below a minimum 0x2002,
outside a set 0x2003, reserved bits 0x2004. `own` ranges are checked by the object's own rule. -/
inductive Rng where
  | any
  | max (hi : Nat)
  | between (lo hi : Nat)
  | step (lo hi st : Nat)
  | pow2 (lo hi : Nat)
  | oneOf (l : List Nat)
  | upToOr (hi : Nat)
  | mask (m : Nat)
  | align (a : Nat)
  | f32 (lo hi : Nat)
  | tilePhys
  | tileLogical
  | tileLookup
  | tileAny
  | course
  | own
  deriving DecidableEq, Repr

/-- Unit that holds an object's state (R110, R521): the keystone, a fixed half, or the half of the
unit that the object's selector names. -/
inductive Owner where
  | keystone
  | half (h : HalfId)
  | tile | course | ctx | ctxObj | half' | spoke
  deriving DecidableEq, Repr

/-- One data object of a table. -/
structure Row where
  sub : Nat
  ty : Ty
  words : Nat
  elem : Ty
  acc : Access
  dflt : Dflt
  per : Persist
  rng : Rng
  /-- One register whatever the selector: a selector itself, or a count kept once. -/
  single : Bool
  deriving DecidableEq, Repr

/-- One index of the dictionary. -/
structure Obj where
  index : Nat
  owner : Owner
  /-- The selector sub-indices that name the instance. -/
  selectors : List (Nat × Nat)
  rows : List Row
  deriving DecidableEq, Repr

end Sys2Proof.Machine
end

