-- ==== Sys2Proof/Machine/CatalogueArray.lean ====
section
/-! DEFINITION. The dictionary objects of calibration, numerics, tiles and engines: one row per data object, copied
from the object tables of the chapters (R520). A row is sub-index, type, words, element type, access,
default, persistence, range, and whether it is one register whatever the selector. -/

namespace Sys2Proof.Machine

/-- 0x2000 (09_calibration.md, R241). -/
def obj2000 : Obj :=
  { index := 0x2000, owner := .half .h0, selectors := [], rows := [
    ⟨0x01, .u32, 1, .bool, .wo, .val 0, .p0, .own, false⟩,
    ⟨0x02, .u8, 1, .bool, .ro, .val 0, .p0, .any, false⟩,
    ⟨0x03, .u16, 1, .bool, .ro, .val 0, .p0, .any, false⟩,
    ⟨0x04, .u16, 1, .bool, .ro, .val 0, .p0, .any, false⟩,
    ⟨0x05, .u16, 1, .bool, .ro, .val 0, .p0, .any, false⟩,
    ⟨0x06, .u16, 1, .bool, .ro, .val 0, .p0, .any, false⟩,
    ⟨0x07, .u32, 1, .bool, .ro, .val 0, .p1, .any, false⟩,
    ⟨0x08, .u32, 1, .bool, .ro, .val 0, .p1, .any, false⟩,
    ⟨0x09, .u32, 1, .bool, .ro, .val 0, .p1, .any, false⟩,
    ⟨0x0A, .u32, 1, .bool, .ro, .val 0, .p1, .any, false⟩] }

/-- 0x2001, as 0x2000 for half 1 (R241). -/
def obj2001 : Obj :=
  { index := 0x2001, owner := .half .h1, selectors := [], rows := obj2000.rows }

/-- 0x2002 (09_calibration.md, R240). -/
def obj2002 : Obj :=
  { index := 0x2002, owner := .keystone, selectors := [], rows := [
    ⟨0x01, .u16, 1, .bool, .rw, .val 0x40, .p2, .between 4 1024, false⟩,
    ⟨0x02, .u8, 1, .bool, .rw, .val 4, .p2, .between 1 16, false⟩,
    ⟨0x03, .u16, 1, .bool, .rw, .val 0x3E8, .p2, .between 100 10000, false⟩,
    ⟨0x04, .u8, 1, .bool, .rw, .val 3, .p2, .between 1 8, false⟩,
    ⟨0x05, .u16, 1, .bool, .rw, .val 0x40, .p2, .pow2 16 1024, false⟩,
    ⟨0x06, .bool, 1, .bool, .rw, .val 1, .p2, .any, false⟩,
    ⟨0x07, .u16, 1, .bool, .rw, .val 0x1388, .p2, .between 500 50000, false⟩,
    ⟨0x08, .u8, 1, .bool, .rw, .val 0x10, .p2, .between 4 64, false⟩,
    ⟨0x09, .u8, 1, .bool, .rw, .val 0xA, .p2, .between 2 40, false⟩,
    ⟨0x0A, .u32, 1, .bool, .rw, .val 0xE10, .p2, .between 60 604800, false⟩,
    ⟨0x0B, .u16, 1, .bool, .rw, .val 0x3E8, .p2, .between 100 60000, false⟩,
    ⟨0x0C, .u32, 1, .bool, .rw, .val 0x2238, .p2, .between 720 87600, false⟩,
    ⟨0x0D, .u16, 1, .bool, .rw, .val 0xA, .p2, .between 1 3600, false⟩] }

/-- 0x2010 (09_calibration.md, R242). -/
def obj2010 : Obj :=
  { index := 0x2010, owner := .tile, selectors := [(0x2010, 0x01), (0x2010, 0x02)], rows := [
    ⟨0x01, .u32, 1, .bool, .rw, .val 0, .p0, .tilePhys, true⟩,
    ⟨0x02, .u8, 1, .bool, .rw, .val 0, .p0, .oneOf [0, 1], true⟩,
    ⟨0x03, .array, 68, .u32, .rw, .each 0x80000000, .h, .own, false⟩,
    ⟨0x47, .array, 32, .u8, .rw, .each 0x20, .h, .own, false⟩,
    ⟨0x67, .array, 32, .u8, .rw, .ramp, .h, .own, false⟩] }

/-- 0x2011 (09_calibration.md, R243). -/
def obj2011 : Obj :=
  { index := 0x2011, owner := .tile, selectors := [(0x2011, 0x01), (0x2011, 0x02), (0x2011, 0x03)], rows := [
    ⟨0x01, .u32, 1, .bool, .rw, .val 0, .p0, .tilePhys, true⟩,
    ⟨0x02, .u8, 1, .bool, .rw, .val 0, .p0, .max 31, true⟩,
    ⟨0x03, .u8, 1, .bool, .rw, .val 0, .p0, .oneOf [0, 1], true⟩,
    ⟨0x04, .array, 17, .u32, .rw, .each 0x80000000, .h, .own, false⟩,
    ⟨0x15, .array, 64, .f32, .rw, .identity, .h, .own, false⟩] }

/-- 0x2012 (09_calibration.md, R244). -/
def obj2012 : Obj :=
  { index := 0x2012, owner := .tile, selectors := [(0x2012, 0x01)], rows := [
    ⟨0x01, .u32, 1, .bool, .rw, .val 0, .p0, .tilePhys, true⟩,
    ⟨0x02, .u8, 1, .bool, .ro, .val 0, .h, .any, false⟩,
    ⟨0x03, .bool, 1, .bool, .ro, .val 0, .p0, .any, false⟩,
    ⟨0x04, .u8, 1, .bool, .ro, .val 0, .p0, .any, false⟩,
    ⟨0x05, .u64, 2, .bool, .ro, .val 0, .h, .any, false⟩,
    ⟨0x07, .i32, 1, .bool, .ro, .val 0, .h, .any, false⟩,
    ⟨0x08, .u32, 1, .bool, .ro, .val 0, .p2, .any, false⟩,
    ⟨0x09, .array, 32, .u32, .ro, .val 0, .h, .any, false⟩,
    ⟨0x29, .u32, 1, .bool, .ro, .val 0, .p0, .any, false⟩] }

/-- 0x2013 (09_calibration.md, R245). -/
def obj2013 : Obj :=
  { index := 0x2013, owner := .tile, selectors := [(0x2013, 0x01)], rows := [
    ⟨0x01, .u32, 1, .bool, .rw, .val 0, .p0, .tilePhys, true⟩,
    ⟨0x02, .domain, 1, .bool, .rw, .val 0, .h, .any, false⟩] }

/-- 0x3000 (10_number_formats.md, R276). -/
def obj3000 : Obj :=
  { index := 0x3000, owner := .keystone, selectors := [], rows := [
    ⟨0x01, .f32, 1, .bool, .ro, .val 0x40000000, .p2, .any, false⟩,
    ⟨0x02, .u8, 1, .bool, .ro, .val 4, .p2, .any, false⟩,
    ⟨0x03, .u8, 1, .bool, .ro, .val 0x10, .p2, .any, false⟩,
    ⟨0x04, .u16, 1, .bool, .ro, .val 0x400, .p2, .any, false⟩,
    ⟨0x05, .u16, 1, .bool, .ro, .val 0x40, .p2, .any, false⟩,
    ⟨0x06, .u16, 1, .bool, .ro, .val 0x100, .p2, .any, false⟩,
    ⟨0x07, .u32, 1, .bool, .rws, .val 0x1000, .p2, .pow2 256 1048576, false⟩,
    ⟨0x08, .u8, 1, .bool, .ro, .val 1, .p2, .any, false⟩] }

/-- 0x3010 (10_number_formats.md, R277). -/
def obj3010 : Obj :=
  { index := 0x3010, owner := .ctx, selectors := [(0x3010, 0x01), (0x3010, 0x02)], rows := [
    ⟨0x01, .u16, 1, .bool, .rw, .val 0, .p0, .max 3071, true⟩,
    ⟨0x02, .u16, 1, .bool, .rw, .val 0, .p0, .any, true⟩,
    ⟨0x03, .f32, 1, .bool, .ro, .val 0x0, .p0, .any, false⟩,
    ⟨0x04, .f32, 1, .bool, .ro, .val 0x0, .p0, .any, false⟩,
    ⟨0x05, .array, 16, .f32, .ro, .val 0, .p0, .any, false⟩,
    ⟨0x15, .u64, 2, .bool, .ro, .val 0, .p0, .any, false⟩,
    ⟨0x17, .u32, 1, .bool, .ro, .val 0, .p0, .any, false⟩,
    ⟨0x18, .u32, 1, .bool, .ro, .val 0, .p0, .any, false⟩,
    ⟨0x19, .u32, 1, .bool, .ro, .val 0, .p0, .any, false⟩,
    ⟨0x1A, .u32, 1, .bool, .ro, .val 0, .p0, .any, false⟩,
    ⟨0x1B, .u8, 1, .bool, .ro, .val 0, .p0, .any, false⟩] }

/-- 0x3020 (10_number_formats.md, R278). -/
def obj3020 : Obj :=
  { index := 0x3020, owner := .half .h0, selectors := [], rows := [
    ⟨0x01, .u64, 2, .bool, .ro, .val 0, .p1, .any, false⟩,
    ⟨0x03, .u64, 2, .bool, .ro, .val 0, .p1, .any, false⟩,
    ⟨0x05, .u64, 2, .bool, .ro, .val 0, .p1, .any, false⟩,
    ⟨0x07, .u64, 2, .bool, .ro, .val 0, .p1, .any, false⟩,
    ⟨0x09, .u64, 2, .bool, .ro, .val 0, .p1, .any, false⟩,
    ⟨0x0B, .u32, 1, .bool, .ro, .val 0, .p1, .any, false⟩,
    ⟨0x0C, .u64, 2, .bool, .ro, .val 0, .p1, .any, false⟩,
    ⟨0x0E, .u64, 2, .bool, .ro, .val 0, .p1, .any, false⟩,
    ⟨0x10, .u64, 2, .bool, .ro, .val 0, .p1, .any, false⟩,
    ⟨0x12, .u32, 1, .bool, .ro, .val 0, .p1, .any, false⟩,
    ⟨0x13, .u32, 1, .bool, .ro, .val 0, .p1, .any, false⟩] }

/-- 0x3021, as 0x3020 for half 1 (R278). -/
def obj3021 : Obj :=
  { index := 0x3021, owner := .half .h1, selectors := [], rows := obj3020.rows }

/-- 0x3030 (11_forward_execution_and_shift.md, R300). -/
def obj3030 : Obj :=
  { index := 0x3030, owner := .keystone, selectors := [], rows := [
    ⟨0x01, .f32, 1, .bool, .rws, .val 0x40400000, .p2, .f32 0x3F800000 0x41000000, false⟩,
    ⟨0x02, .u16, 1, .bool, .rws, .val 0x40, .p2, .between 8 1024, false⟩,
    ⟨0x03, .u8, 1, .bool, .rws, .val 4, .p2, .between 1 64, false⟩,
    ⟨0x04, .u8, 1, .bool, .ro, .val 4, .p2, .any, false⟩,
    ⟨0x05, .u8, 1, .bool, .ro, .val 3, .p2, .any, false⟩] }

/-- 0x3031 (11_forward_execution_and_shift.md, R301). -/
def obj3031 : Obj :=
  { index := 0x3031, owner := .ctx, selectors := [(0x3031, 0x01), (0x3031, 0x02), (0x3031, 0x03)], rows := [
    ⟨0x01, .u16, 1, .bool, .rw, .val 0, .p0, .max 3071, true⟩,
    ⟨0x02, .u16, 1, .bool, .rw, .val 0, .p0, .any, true⟩,
    ⟨0x03, .u16, 1, .bool, .rw, .val 0xFFFF, .p0, .any, true⟩,
    ⟨0x04, .u8, 1, .bool, .ro, .val 0, .p1, .any, false⟩,
    ⟨0x05, .u16, 1, .bool, .ro, .val 0, .p1, .any, false⟩,
    ⟨0x06, .f32, 1, .bool, .ro, .val 0x0, .p1, .any, false⟩,
    ⟨0x07, .f32, 1, .bool, .ro, .val 0x0, .p1, .any, false⟩,
    ⟨0x08, .f32, 1, .bool, .ro, .val 0x0, .p1, .any, false⟩,
    ⟨0x09, .f32, 1, .bool, .ro, .val 0x0, .p1, .any, false⟩,
    ⟨0x0A, .u32, 1, .bool, .ro, .val 0, .p1, .any, false⟩,
    ⟨0x0B, .u32, 1, .bool, .ro, .val 0, .p1, .any, false⟩] }

/-- 0x3032 (11_forward_execution_and_shift.md, R302). -/
def obj3032 : Obj :=
  { index := 0x3032, owner := .ctx, selectors := [(0x3032, 0x01)], rows := [
    ⟨0x01, .u16, 1, .bool, .rw, .val 0, .p0, .max 3071, true⟩,
    ⟨0x02, .u8, 1, .bool, .wo, .val 0, .p0, .oneOf [1, 2], false⟩,
    ⟨0x03, .u8, 1, .bool, .ro, .val 0, .p1, .any, false⟩,
    ⟨0x04, .u8, 1, .bool, .ro, .val 0, .p1, .any, false⟩,
    ⟨0x05, .u64, 2, .bool, .ro, .val 0, .p1, .any, false⟩] }

/-- 0x3040 (11_forward_execution_and_shift.md, R303). -/
def obj3040 : Obj :=
  { index := 0x3040, owner := .half .h0, selectors := [], rows := [
    ⟨0x01, .u32, 1, .bool, .ro, .val 0, .p1, .any, false⟩,
    ⟨0x02, .u32, 1, .bool, .ro, .val 0, .p1, .any, false⟩,
    ⟨0x03, .u32, 1, .bool, .ro, .val 0, .p1, .any, false⟩,
    ⟨0x04, .u32, 1, .bool, .ro, .val 0, .p1, .any, false⟩,
    ⟨0x05, .u32, 1, .bool, .ro, .val 0, .p1, .any, false⟩,
    ⟨0x06, .u32, 1, .bool, .ro, .val 0, .p1, .any, false⟩] }

/-- 0x3041, as 0x3040 for half 1 (R303). -/
def obj3041 : Obj :=
  { index := 0x3041, owner := .half .h1, selectors := [], rows := obj3040.rows }

/-- 0x3050 (11_forward_execution_and_shift.md, R304). -/
def obj3050 : Obj :=
  { index := 0x3050, owner := .ctx, selectors := [(0x3050, 0x01)], rows := [
    ⟨0x01, .u16, 1, .bool, .rw, .val 0, .p0, .max 3071, true⟩,
    ⟨0x02, .u64, 2, .bool, .rw, .val 0, .p1, .align 4096, false⟩,
    ⟨0x04, .u32, 1, .bool, .rw, .val 0, .p1, .own, false⟩,
    ⟨0x05, .u64, 2, .bool, .ro, .val 0, .p1, .any, false⟩,
    ⟨0x07, .array, 8, .u32, .ro, .val 0, .p1, .any, false⟩] }

/-- 0x4000 (07_analogue_arrays.md, R190). -/
def obj4000 : Obj :=
  { index := 0x4000, owner := .keystone, selectors := [], rows := [
    ⟨0x01, .u16, 1, .bool, .ro, .val 0x400, .p2, .any, false⟩,
    ⟨0x02, .u16, 1, .bool, .ro, .val 0x10, .p2, .any, false⟩,
    ⟨0x03, .u16, 1, .bool, .ro, .val 0x10, .p2, .any, false⟩,
    ⟨0x04, .u16, 1, .bool, .ro, .val 0x200, .p2, .any, false⟩,
    ⟨0x05, .u16, 1, .bool, .ro, .val 0x20, .p2, .any, false⟩,
    ⟨0x06, .u16, 1, .bool, .ro, .val 0x40, .p2, .any, false⟩,
    ⟨0x07, .u16, 1, .bool, .ro, .val 0x8C0, .p2, .any, false⟩,
    ⟨0x08, .u8, 1, .bool, .ro, .val 0x20, .p2, .any, false⟩,
    ⟨0x09, .u32, 1, .bool, .ro, .val 0xF4240, .p2, .any, false⟩] }

/-- 0x4001 (07_analogue_arrays.md, R191). -/
def obj4001 : Obj :=
  { index := 0x4001, owner := .tile, selectors := [(0x4001, 0x01)], rows := [
    ⟨0x01, .u32, 1, .bool, .rw, .val 0, .p0, .tilePhys, true⟩,
    ⟨0x02, .u8, 1, .bool, .ro, .val 0, .p0, .any, false⟩,
    ⟨0x03, .u64, 2, .bool, .ro, .val 0, .p1, .any, false⟩,
    ⟨0x05, .u64, 2, .bool, .ro, .val 0, .p1, .any, false⟩,
    ⟨0x07, .u64, 2, .bool, .ro, .val 0, .p1, .any, false⟩,
    ⟨0x09, .u64, 2, .bool, .ro, .val 0, .p1, .any, false⟩,
    ⟨0x0B, .u64, 2, .bool, .ro, .val 0, .p1, .any, false⟩,
    ⟨0x0D, .u8, 1, .bool, .ro, .val 0, .p2, .any, false⟩,
    ⟨0x0E, .u8, 1, .bool, .ro, .val 0, .p2, .any, false⟩,
    ⟨0x0F, .u32, 1, .bool, .ro, .val 0, .p2, .any, false⟩,
    ⟨0x10, .u64, 2, .bool, .ro, .val 0, .p2, .any, false⟩,
    ⟨0x12, .u32, 1, .bool, .ro, .val 0, .p2, .any, false⟩,
    ⟨0x13, .u16, 1, .bool, .ro, .val 0, .p2, .any, false⟩] }

/-- 0x4002 (07_analogue_arrays.md, R192). -/
def obj4002 : Obj :=
  { index := 0x4002, owner := .keystone, selectors := [], rows := [
    ⟨0x01, .u16, 1, .bool, .rws, .val 0x1000, .p1, .step 3072 6144 256, false⟩,
    ⟨0x02, .u16, 1, .bool, .rws, .val 0x1000, .p1, .step 3072 6144 256, false⟩] }

/-- 0x4003 (07_analogue_arrays.md, R193). -/
def obj4003 : Obj :=
  { index := 0x4003, owner := .tile, selectors := [(0x4003, 0x01), (0x4003, 0x02)], rows := [
    ⟨0x01, .u32, 1, .bool, .rw, .val 0, .p0, .tilePhys, true⟩,
    ⟨0x02, .u16, 1, .bool, .rw, .val 0, .p0, .max 1055, true⟩,
    ⟨0x03, .u32, 1, .bool, .ro, .val 0, .p2, .any, false⟩,
    ⟨0x04, .u16, 1, .bool, .ro, .val 0, .p2, .any, false⟩] }

/-- 0x4004 (07_analogue_arrays.md, R194). -/
def obj4004 : Obj :=
  { index := 0x4004, owner := .tile, selectors := [(0x4004, 0x01)], rows := [
    ⟨0x01, .u32, 1, .bool, .rw, .val 0, .p0, .tilePhys, true⟩,
    ⟨0x02, .array, 64, .u16, .ro, .each 0xFFFF, .p2, .any, false⟩,
    ⟨0x42, .array, 16, .u16, .ro, .each 0xFFFF, .p2, .any, false⟩] }

/-- 0x4005 (07_analogue_arrays.md, R195). -/
def obj4005 : Obj :=
  { index := 0x4005, owner := .course, selectors := [(0x4005, 0x01)], rows := [
    ⟨0x01, .u32, 1, .bool, .rw, .val 0xFF, .p0, .course, true⟩,
    ⟨0x02, .u8, 1, .bool, .ro, .val 2, .p2, .any, false⟩,
    ⟨0x03, .u16, 1, .bool, .ro, .val 0xFFFF, .p2, .any, false⟩,
    ⟨0x04, .u8, 1, .bool, .ro, .val 0xFF, .p2, .any, false⟩,
    ⟨0x05, .u32, 1, .bool, .ro, .val 0, .p2, .any, false⟩,
    ⟨0x06, .u32, 1, .bool, .ro, .val 0, .p2, .any, false⟩] }

/-- 0x4010 (08_converters_and_tile_surround.md, R215). -/
def obj4010 : Obj :=
  { index := 0x4010, owner := .tile, selectors := [(0x4010, 0x01)], rows := [
    ⟨0x01, .u32, 1, .bool, .rw, .val 0, .p0, .tilePhys, true⟩,
    ⟨0x02, .u8, 1, .bool, .ro, .val 0, .p0, .any, false⟩,
    ⟨0x03, .array, 32, .u8, .ro, .val 0, .p0, .any, false⟩,
    ⟨0x24, .u64, 2, .bool, .ro, .val 0, .p1, .any, false⟩,
    ⟨0x26, .u64, 2, .bool, .ro, .val 0, .p1, .any, false⟩,
    ⟨0x28, .u64, 2, .bool, .ro, .val 0, .p1, .any, false⟩,
    ⟨0x2A, .u64, 2, .bool, .ro, .val 0, .p1, .any, false⟩,
    ⟨0x2C, .u32, 1, .bool, .ro, .val 0, .p1, .any, false⟩,
    ⟨0x2D, .u32, 1, .bool, .ro, .val 0, .p1, .any, false⟩,
    ⟨0x2E, .u32, 1, .bool, .ro, .val 0, .p1, .any, false⟩,
    ⟨0x2F, .u32, 1, .bool, .ro, .val 0, .p1, .any, false⟩,
    ⟨0x30, .u32, 1, .bool, .ro, .val 0, .p1, .any, false⟩] }

/-- 0x4011 (08_converters_and_tile_surround.md, R216). -/
def obj4011 : Obj :=
  { index := 0x4011, owner := .keystone, selectors := [], rows := [
    ⟨0x01, .u8, 1, .bool, .rw, .val 0xA, .p1, .between 4 64, false⟩,
    ⟨0x02, .u16, 1, .bool, .rw, .val 0x18, .p1, .between 16 1023, false⟩,
    ⟨0x03, .u8, 1, .bool, .rw, .val 0xA, .p1, .between 4 64, false⟩,
    ⟨0x04, .u16, 1, .bool, .rw, .val 0x18, .p1, .between 16 1023, false⟩] }

/-- 0x4012 (08_converters_and_tile_surround.md, R217). -/
def obj4012 : Obj :=
  { index := 0x4012, owner := .tile, selectors := [(0x4012, 0x01)], rows := [
    ⟨0x01, .u32, 1, .bool, .rw, .val 0, .p0, .tilePhys, true⟩,
    ⟨0x02, .u8, 1, .bool, .ro, .val 0, .p0, .any, false⟩,
    ⟨0x03, .f32, 1, .bool, .ro, .val 0x0, .p0, .any, false⟩,
    ⟨0x04, .u16, 1, .bool, .ro, .val 0, .p0, .any, false⟩,
    ⟨0x05, .u8, 1, .bool, .ro, .val 1, .p0, .any, false⟩,
    ⟨0x06, .u32, 1, .bool, .ro, .val 0xFFFFFFFF, .p0, .any, false⟩,
    ⟨0x07, .f32, 1, .bool, .ro, .val 0x0, .p0, .any, false⟩,
    ⟨0x08, .f32, 1, .bool, .ro, .val 0x0, .p0, .any, false⟩] }

/-- 0x4013 (08_converters_and_tile_surround.md, R218). -/
def obj4013 : Obj :=
  { index := 0x4013, owner := .tile, selectors := [(0x4012, 0x01), (0x4013, 0x01)], rows := [
    ⟨0x01, .u8, 1, .bool, .rw, .val 0, .p0, .max 255, true⟩,
    ⟨0x02, .f32, 1, .bool, .ro, .val 0x0, .p0, .any, false⟩,
    ⟨0x03, .f32, 1, .bool, .ro, .val 0x0, .p0, .any, false⟩] }

/-- 0x4014 (08_converters_and_tile_surround.md, R218). -/
def obj4014 : Obj :=
  { index := 0x4014, owner := .tile, selectors := [(0x4012, 0x01)], rows := [
    ⟨0x01, .u8, 1, .bool, .ro, .val 0, .p0, .any, false⟩,
    ⟨0x02, .u16, 1, .bool, .ro, .val 0, .p0, .any, false⟩,
    ⟨0x03, .u64, 2, .bool, .ro, .val 0, .p1, .any, false⟩,
    ⟨0x05, .u32, 1, .bool, .ro, .val 0, .p1, .any, false⟩] }

/-- 0x4020 (12_backward_pass.md, R330). -/
def obj4020 : Obj :=
  { index := 0x4020, owner := .course, selectors := [(0x4020, 0x01)], rows := [
    ⟨0x01, .u32, 1, .bool, .rw, .val 0xFF, .p0, .course, true⟩,
    ⟨0x02, .u8, 1, .bool, .ro, .val 0, .p0, .any, false⟩,
    ⟨0x03, .u64, 2, .bool, .ro, .val 0, .p1, .any, false⟩,
    ⟨0x05, .u64, 2, .bool, .ro, .val 0, .p1, .any, false⟩,
    ⟨0x07, .u64, 2, .bool, .ro, .val 0, .p1, .any, false⟩,
    ⟨0x09, .u64, 2, .bool, .ro, .val 0, .p1, .any, false⟩,
    ⟨0x0B, .u32, 1, .bool, .ro, .val 0, .p1, .any, false⟩,
    ⟨0x0C, .u32, 1, .bool, .ro, .val 0, .p1, .any, false⟩,
    ⟨0x0D, .u64, 2, .bool, .ro, .val 0, .p1, .any, false⟩,
    ⟨0x0F, .u32, 1, .bool, .ro, .val 0, .p1, .any, false⟩,
    ⟨0x10, .u64, 2, .bool, .ro, .val 0, .p1, .any, false⟩] }

/-- 0x4021 (12_backward_pass.md, R331). -/
def obj4021 : Obj :=
  { index := 0x4021, owner := .tile, selectors := [(0x4021, 0x01), (0x4021, 0x05)], rows := [
    ⟨0x01, .u32, 1, .bool, .rw, .val 0, .p0, .tileLogical, true⟩,
    ⟨0x02, .u32, 1, .bool, .ro, .val 0, .p1, .any, false⟩,
    ⟨0x03, .u16, 1, .bool, .ro, .val 0, .p0, .any, false⟩,
    ⟨0x04, .u16, 1, .bool, .ro, .val 0, .p0, .any, false⟩,
    ⟨0x05, .u16, 1, .bool, .rw, .val 0, .p0, .max 1023, true⟩,
    ⟨0x06, .u8, 1, .bool, .ro, .val 0, .p0, .any, false⟩,
    ⟨0x07, .f32, 1, .bool, .ro, .val 0x0, .p0, .any, false⟩,
    ⟨0x08, .u32, 1, .bool, .ro, .val 0, .p1, .any, false⟩] }

/-- 0x4022 (12_backward_pass.md, R332). -/
def obj4022 : Obj :=
  { index := 0x4022, owner := .keystone, selectors := [], rows := [
    ⟨0x01, .u16, 1, .bool, .ro, .val 0x100, .p2, .any, false⟩,
    ⟨0x02, .u16, 1, .bool, .ro, .val 0x80, .p2, .any, false⟩,
    ⟨0x03, .u16, 1, .bool, .ro, .val 0x800, .p2, .any, false⟩,
    ⟨0x04, .u32, 1, .bool, .ro, .val 0x800000, .p2, .any, false⟩,
    ⟨0x05, .u32, 1, .bool, .ro, .val 0x108000, .p2, .any, false⟩] }

/-- 0x4100 (06_contexts_and_work.md, R163). -/
def obj4100 : Obj :=
  { index := 0x4100, owner := .tile, selectors := [(0x4100, 0x01)], rows := [
    ⟨0x01, .u32, 1, .bool, .rw, .val 0, .p0, .tileLogical, true⟩,
    ⟨0x02, .u16, 1, .bool, .ro, .val 0xFFFF, .p0, .any, false⟩,
    ⟨0x03, .u16, 1, .bool, .ro, .val 0, .p0, .any, false⟩] }

/-- 0x4101 (06_contexts_and_work.md, R163). -/
def obj4101 : Obj :=
  { index := 0x4101, owner := .ctx, selectors := [(0x4101, 0x01), (0x4101, 0x02)], rows := [
    ⟨0x01, .u16, 1, .bool, .rw, .val 0, .p0, .max 3071, true⟩,
    ⟨0x02, .u16, 1, .bool, .rw, .val 0, .p0, .any, true⟩,
    ⟨0x03, .array, 64, .u32, .ro, .val 0, .p0, .any, false⟩] }

/-- 0x4102 (06_contexts_and_work.md, R164). -/
def obj4102 : Obj :=
  { index := 0x4102, owner := .half .h0, selectors := [], rows := [
    ⟨0x01, .u8, 1, .bool, .rw, .val 4, .p1, .between 1 15, false⟩,
    ⟨0x02, .u8, 1, .bool, .rw, .val 4, .p1, .between 1 15, false⟩,
    ⟨0x03, .u8, 1, .bool, .rw, .val 1, .p1, .between 1 15, false⟩,
    ⟨0x04, .u16, 1, .bool, .ro, .val 0x400, .p0, .any, false⟩,
    ⟨0x05, .u32, 1, .bool, .ro, .val 0, .p0, .any, false⟩,
    ⟨0x06, .u32, 1, .bool, .ro, .val 0, .p1, .any, false⟩,
    ⟨0x07, .u16, 1, .bool, .ro, .val 0, .p0, .any, false⟩] }

/-- 0x4103, as 0x4102 for half 1 (R164). -/
def obj4103 : Obj :=
  { index := 0x4103, owner := .half .h1, selectors := [], rows := obj4102.rows }

/-- The objects of this part in ascending index. -/
def objectsArray : List Obj :=
  [obj2000, obj2001, obj2002, obj2010, obj2011, obj2012, obj2013, obj3000,
   obj3010, obj3020, obj3021, obj3030, obj3031, obj3032, obj3040, obj3041,
   obj3050, obj4000, obj4001, obj4002, obj4003, obj4004, obj4005, obj4010,
   obj4011, obj4012, obj4013, obj4014, obj4020, obj4021, obj4022, obj4100,
   obj4101, obj4102, obj4103]

end Sys2Proof.Machine
end

