-- ==== Sys2Proof/Machine/CatalogueModule.lean ====
section
/-! DEFINITION. The dictionary objects of keystone, lead word, supply, host port, clocks and power: one row per data object, copied
from the object tables of the chapters (R520). A row is sub-index, type, words, element type, access,
default, persistence, range, and whether it is one register whatever the selector. -/

namespace Sys2Proof.Machine

/-- 0x0000 (01_module_organisation.md, R18). -/
def obj0000 : Obj :=
  { index := 0x0000, owner := .keystone, selectors := [], rows := [
    ⟨0x01, .u8, 1, .bool, .ro, .val 9, .p2, .any, false⟩,
    ⟨0x02, .str, 4, .bool, .ro, .seq [0x39504C4B, 0x3148322D, 0x34, 0x0], .p2, .any, false⟩,
    ⟨0x06, .u64, 2, .bool, .ro, .impl 32, .p2, .any, false⟩,
    ⟨0x08, .u32, 1, .bool, .ro, .impl 16, .p2, .any, false⟩,
    ⟨0x09, .u32, 1, .bool, .ro, .impl 16, .p2, .any, false⟩,
    ⟨0x0A, .u32, 1, .bool, .ro, .impl 16, .p2, .any, false⟩,
    ⟨0x0B, .u32, 1, .bool, .ro, .impl 16, .p2, .any, false⟩,
    ⟨0x0C, .u32, 1, .bool, .ro, .impl 16, .p2, .any, false⟩] }

/-- 0x0010 (05_trelir_dictionary.md, R136). -/
def obj0010 : Obj :=
  { index := 0x0010, owner := .keystone, selectors := [], rows := [
    ⟨0x01, .u16, 1, .bool, .ro, .val 0, .p0, .any, false⟩,
    ⟨0x02, .u32, 1, .bool, .ro, .val 0, .p0, .any, false⟩,
    ⟨0x03, .u16, 1, .bool, .ro, .val 0, .p0, .any, false⟩,
    ⟨0x04, .u32, 1, .bool, .ro, .val 0, .p0, .any, false⟩,
    ⟨0x05, .u32, 1, .bool, .ro, .val 0, .p0, .any, false⟩,
    ⟨0x06, .bool, 1, .bool, .wo, .val 0, .p0, .oneOf [1], false⟩,
    ⟨0x07, .u16, 1, .bool, .rw, .val 0, .p0, .any, false⟩,
    ⟨0x08, .u32, 1, .bool, .ro, .val 0, .p0, .any, false⟩,
    ⟨0x09, .u32, 1, .bool, .ro, .val 0, .p2, .any, false⟩] }

/-- 0x0011 (05_trelir_dictionary.md, R137). -/
def obj0011 : Obj :=
  { index := 0x0011, owner := .keystone, selectors := [], rows := [
    ⟨0x01, .u8, 1, .bool, .ro, .val 0, .p0, .any, false⟩,
    ⟨0x02, .u8, 1, .bool, .ro, .val 0, .p0, .any, false⟩,
    ⟨0x03, .u8, 1, .bool, .ro, .val 0, .p0, .any, false⟩,
    ⟨0x04, .u8, 1, .bool, .ro, .val 0, .p0, .any, false⟩,
    ⟨0x05, .u32, 1, .bool, .ro, .val 0, .p1, .any, false⟩,
    ⟨0x06, .u32, 1, .bool, .ro, .val 0, .p1, .any, false⟩,
    ⟨0x07, .u8, 1, .bool, .rw, .val 0x46, .p2, .own, false⟩,
    ⟨0x08, .u8, 1, .bool, .rw, .val 0x55, .p2, .own, false⟩,
    ⟨0x09, .u8, 1, .bool, .rw, .val 0x5F, .p2, .own, false⟩,
    ⟨0x0A, .u8, 1, .bool, .rwl, .val 0, .p1, .mask 0x3, false⟩] }

/-- 0x0012 (05_trelir_dictionary.md, R138). -/
def obj0012 : Obj :=
  { index := 0x0012, owner := .keystone, selectors := [], rows := [
    ⟨0x01, .u32, 1, .bool, .rw, .val 0, .p0, .mask 0xFFFFFF, false⟩,
    ⟨0x02, .u32, 1, .bool, .ro, .val 0, .p0, .any, false⟩] }

/-- 0x0013 (05_trelir_dictionary.md, R138). -/
def obj0013 : Obj :=
  { index := 0x0013, owner := .keystone, selectors := [], rows := [
    ⟨0x01, .u8, 1, .bool, .rw, .val 4, .p1, .own, false⟩,
    ⟨0x02, .u8, 1, .bool, .rw, .val 5, .p1, .own, false⟩,
    ⟨0x03, .u8, 1, .bool, .rw, .val 0, .p1, .own, false⟩] }

/-- 0x0020 (01_module_organisation.md, R17). -/
def obj0020 : Obj :=
  { index := 0x0020, owner := .keystone, selectors := [], rows := [
    ⟨0x01, .u32, 1, .bool, .rw, .val 0, .p0, .tileLookup, false⟩,
    ⟨0x02, .u32, 1, .bool, .ro, .val 0, .p0, .any, false⟩,
    ⟨0x03, .u8, 1, .bool, .ro, .val 0, .p0, .any, false⟩,
    ⟨0x04, .u32, 1, .bool, .rw, .val 0, .p0, .tileAny, false⟩,
    ⟨0x05, .u32, 1, .bool, .ro, .val 0, .p0, .any, false⟩] }

/-- 0x0040 (01_module_organisation.md, R21). -/
def obj0040 : Obj :=
  { index := 0x0040, owner := .keystone, selectors := [], rows := [
    ⟨0x01, .u8, 1, .bool, .ro, .val 0xFF, .p1, .any, false⟩,
    ⟨0x02, .u32, 1, .bool, .ro, .val 0, .p1, .any, false⟩,
    ⟨0x03, .u32, 1, .bool, .wo, .val 0, .p0, .own, false⟩,
    ⟨0x04, .u8, 1, .bool, .wo, .val 0, .p0, .oneOf [0, 1], false⟩,
    ⟨0x05, .u32, 1, .bool, .ro, .val 0, .p1, .any, false⟩,
    ⟨0x06, .u32, 1, .bool, .ro, .val 0, .p1, .any, false⟩] }

/-- 0x0041 (01_module_organisation.md, R31). -/
def obj0041 : Obj :=
  { index := 0x0041, owner := .keystone, selectors := [], rows := [
    ⟨0x01, .u8, 1, .bool, .ro, .val 0, .p1, .any, false⟩,
    ⟨0x02, .u8, 1, .bool, .ro, .val 0, .p1, .any, false⟩,
    ⟨0x03, .u32, 1, .bool, .ro, .val 0, .p1, .any, false⟩,
    ⟨0x04, .u32, 1, .bool, .ro, .val 0, .p1, .any, false⟩,
    ⟨0x05, .u32, 1, .bool, .ro, .val 0, .p1, .any, false⟩,
    ⟨0x06, .u64, 2, .bool, .ro, .val 0, .p1, .any, false⟩] }

/-- 0x0080 (01_module_organisation.md, R32). -/
def obj0080 : Obj :=
  { index := 0x0080, owner := .keystone, selectors := [], rows := [
    ⟨0x01, .u32, 1, .bool, .ro, .val 0, .p2, .any, false⟩,
    ⟨0x02, .u32, 1, .bool, .ro, .val 0, .p2, .any, false⟩,
    ⟨0x03, .bool, 1, .bool, .ro, .val 0, .p2, .any, false⟩,
    ⟨0x04, .u64, 2, .bool, .ro, .val 0, .p2, .any, false⟩,
    ⟨0x06, .u32, 1, .bool, .rwl, .val 0, .p0, .own, false⟩,
    ⟨0x07, .u32, 1, .bool, .rwl, .val 0, .p0, .own, false⟩] }

/-- 0x0100 (02_connectors_and_supply.md, R53). -/
def obj0100 : Obj :=
  { index := 0x0100, owner := .keystone, selectors := [], rows := [
    ⟨0x01, .u32, 1, .bool, .ro, .val 0, .p0, .any, false⟩,
    ⟨0x02, .u32, 1, .bool, .ro, .val 0, .p0, .any, false⟩,
    ⟨0x03, .u32, 1, .bool, .ro, .val 0, .p0, .any, false⟩,
    ⟨0x04, .u32, 1, .bool, .ro, .val 0xFFFFFFFF, .p1, .any, false⟩,
    ⟨0x05, .u32, 1, .bool, .ro, .val 0, .p1, .any, false⟩,
    ⟨0x06, .bool, 1, .bool, .wo, .val 0, .p0, .oneOf [1], false⟩,
    ⟨0x07, .u8, 1, .bool, .ro, .val 0, .p0, .any, false⟩,
    ⟨0x08, .u32, 1, .bool, .ro, .val 0xEA60, .p0, .any, false⟩,
    ⟨0x09, .u32, 1, .bool, .ro, .val 0, .p2, .any, false⟩,
    ⟨0x0A, .u32, 1, .bool, .ro, .val 0, .p2, .any, false⟩,
    ⟨0x0B, .u32, 1, .bool, .ro, .val 0, .p2, .any, false⟩,
    ⟨0x0C, .u32, 1, .bool, .ro, .val 0, .p2, .any, false⟩,
    ⟨0x0D, .u8, 1, .bool, .ro, .val 0, .p0, .any, false⟩,
    ⟨0x0E, .u32, 1, .bool, .ro, .val 0, .p2, .any, false⟩] }

/-- 0x0101 (02_connectors_and_supply.md, R54). -/
def obj0101 : Obj :=
  { index := 0x0101, owner := .keystone, selectors := [], rows := [
    ⟨0x01, .u32, 1, .bool, .ro, .val 0, .p0, .any, false⟩,
    ⟨0x02, .u32, 1, .bool, .ro, .val 0, .p2, .any, false⟩,
    ⟨0x03, .u8, 1, .bool, .rw, .val 0x64, .p2, .between 90 105, false⟩,
    ⟨0x04, .u8, 1, .bool, .rw, .val 5, .p2, .between 2 10, false⟩] }

/-- 0x0102 (02_connectors_and_supply.md, R55). -/
def obj0102 : Obj :=
  { index := 0x0102, owner := .keystone, selectors := [], rows := [
    ⟨0x01, .u32, 1, .bool, .ro, .val 0, .p0, .any, false⟩,
    ⟨0x02, .u32, 1, .bool, .ro, .val 0, .p0, .any, false⟩,
    ⟨0x03, .u32, 1, .bool, .ro, .val 0, .p2, .any, false⟩] }

/-- 0x0103 (02_connectors_and_supply.md, R57). -/
def obj0103 : Obj :=
  { index := 0x0103, owner := .keystone, selectors := [], rows := [
    ⟨0x01, .u8, 1, .bool, .rw, .val 0, .p2, .oneOf [0, 1], false⟩] }

/-- 0x1000 (04_clocks_and_asynchronous_timing.md, R104). -/
def obj1000 : Obj :=
  { index := 0x1000, owner := .keystone, selectors := [], rows := [
    ⟨0x01, .bool, 1, .bool, .ro, .val 0, .p0, .any, false⟩,
    ⟨0x02, .bool, 1, .bool, .ro, .val 0, .p0, .any, false⟩,
    ⟨0x03, .u32, 1, .bool, .ro, .val 0, .p0, .any, false⟩,
    ⟨0x04, .u8, 1, .bool, .rw, .val 1, .p1, .oneOf [0, 1], false⟩,
    ⟨0x05, .u32, 1, .bool, .ro, .val 0, .p2, .any, false⟩,
    ⟨0x06, .u8, 1, .bool, .ro, .val 0, .p1, .any, false⟩,
    ⟨0x07, .u8, 1, .bool, .rw, .val 0, .p1, .mask 0x3, false⟩,
    ⟨0x08, .u8, 1, .bool, .rw, .val 0, .p1, .mask 0x3, false⟩,
    ⟨0x09, .u64, 2, .bool, .ro, .val 0, .p1, .any, false⟩] }

/-- 0x1001 (04_clocks_and_asynchronous_timing.md, R105). -/
def obj1001 : Obj :=
  { index := 0x1001, owner := .keystone, selectors := [], rows := [
    ⟨0x01, .u32, 1, .bool, .ro, .val 0, .p0, .any, false⟩] }

/-- 0x1002 (04_clocks_and_asynchronous_timing.md, R106). -/
def obj1002 : Obj :=
  { index := 0x1002, owner := .keystone, selectors := [], rows := [
    ⟨0x01, .u16, 1, .bool, .rw, .val 0, .p1, .any, false⟩,
    ⟨0x02, .u16, 1, .bool, .rw, .val 0, .p1, .any, false⟩,
    ⟨0x03, .u16, 1, .bool, .rw, .val 0, .p1, .mask 0x1FF, false⟩,
    ⟨0x04, .u16, 1, .bool, .ro, .val 0, .p0, .any, false⟩,
    ⟨0x05, .u16, 1, .bool, .ro, .val 0, .p0, .any, false⟩,
    ⟨0x06, .u16, 1, .bool, .ro, .val 0, .p0, .any, false⟩,
    ⟨0x07, .u16, 1, .bool, .rw, .val 0, .p2, .any, false⟩,
    ⟨0x08, .u16, 1, .bool, .rw, .val 0, .p2, .any, false⟩,
    ⟨0x09, .u16, 1, .bool, .rw, .val 0xB, .p2, .mask 0x1FF, false⟩,
    ⟨0x0A, .u32, 1, .bool, .ro, .val 0, .p1, .any, false⟩] }

/-- 0x1003 (04_clocks_and_asynchronous_timing.md, R107). -/
def obj1003 : Obj :=
  { index := 0x1003, owner := .keystone, selectors := [], rows := [
    ⟨0x01, .u8, 1, .bool, .rw, .val 0, .p1, .between 0 50, false⟩,
    ⟨0x02, .u8, 1, .bool, .rw, .val 0x21, .p1, .between 30 63, false⟩,
    ⟨0x03, .u8, 1, .bool, .rw, .val 0, .p1, .between 0 50, false⟩,
    ⟨0x04, .u8, 1, .bool, .rw, .val 0x21, .p1, .between 30 63, false⟩] }

/-- 0x1004 (04_clocks_and_asynchronous_timing.md, R107). -/
def obj1004 : Obj :=
  { index := 0x1004, owner := .keystone, selectors := [], rows := [
    ⟨0x01, .u32, 1, .bool, .rw, .val 1, .p1, .own, false⟩,
    ⟨0x02, .u32, 1, .bool, .rw, .val 0xFF, .p1, .course, false⟩,
    ⟨0x03, .bool, 1, .bool, .ro, .val 0, .p0, .any, false⟩] }

/-- 0x1005 (04_clocks_and_asynchronous_timing.md, R107). -/
def obj1005 : Obj :=
  { index := 0x1005, owner := .keystone, selectors := [], rows := [
    ⟨0x01, .u64, 2, .bool, .ro, .val 0, .p1, .any, false⟩,
    ⟨0x03, .u8, 1, .bool, .ro, .val 1, .p0, .any, false⟩] }

/-- 0x1006 (04_clocks_and_asynchronous_timing.md, R107). -/
def obj1006 : Obj :=
  { index := 0x1006, owner := .keystone, selectors := [(0x1006, 0x01)], rows := [
    ⟨0x01, .u32, 1, .bool, .rw, .val 0xFF, .p0, .course, true⟩,
    ⟨0x02, .u16, 1, .bool, .ro, .val 0, .p0, .any, false⟩,
    ⟨0x03, .u16, 1, .bool, .ro, .val 0, .p0, .any, false⟩,
    ⟨0x04, .i32, 1, .bool, .ro, .val 0, .p0, .any, false⟩,
    ⟨0x05, .u16, 1, .bool, .ro, .val 0, .p0, .any, false⟩,
    ⟨0x06, .u32, 1, .bool, .ro, .val 0, .p2, .any, true⟩] }

/-- 0x1010 (16_power_and_thermal.md, R447). -/
def obj1010 : Obj :=
  { index := 0x1010, owner := .keystone, selectors := [], rows := [
    ⟨0x01, .u8, 1, .bool, .ro, .val 0, .p0, .any, false⟩,
    ⟨0x02, .u32, 1, .bool, .rwl, .val 0, .p0, .mask 0x103, false⟩,
    ⟨0x03, .array, 3, .u32, .ro, .val 0, .p1, .any, false⟩,
    ⟨0x06, .u32, 1, .bool, .ro, .val 0, .p1, .any, false⟩,
    ⟨0x07, .u32, 1, .bool, .ro, .val 0, .p0, .any, false⟩,
    ⟨0x08, .u32, 1, .bool, .ro, .val 0, .p0, .any, false⟩] }

/-- 0x1011 (16_power_and_thermal.md, R448). -/
def obj1011 : Obj :=
  { index := 0x1011, owner := .keystone, selectors := [], rows := [
    ⟨0x01, .u16, 1, .bool, .rwl, .val 0x578, .p2, .between 600 1600, false⟩,
    ⟨0x02, .u16, 1, .bool, .rwl, .val 0x2BC, .p2, .own, false⟩,
    ⟨0x03, .u16, 1, .bool, .ro, .val 0x2BC, .p2, .any, false⟩,
    ⟨0x04, .u16, 1, .bool, .ro, .val 0x2BC, .p0, .any, false⟩,
    ⟨0x05, .u16, 1, .bool, .ro, .val 0x2BC, .p0, .any, false⟩,
    ⟨0x06, .u32, 1, .bool, .ro, .val 0, .p0, .any, false⟩,
    ⟨0x07, .u32, 1, .bool, .ro, .val 0, .p0, .any, false⟩,
    ⟨0x08, .u32, 1, .bool, .ro, .val 0, .p0, .any, false⟩] }

/-- 0x1012 (16_power_and_thermal.md, R449). -/
def obj1012 : Obj :=
  { index := 0x1012, owner := .half .h0, selectors := [], rows := [
    ⟨0x01, .u16, 1, .bool, .rw, .val 0x2EE, .p1, .step 650 850 5, false⟩,
    ⟨0x02, .u32, 1, .bool, .ro, .val 0x404040, .p0, .any, false⟩,
    ⟨0x03, .u8, 1, .bool, .rw, .val 0x40, .p1, .between 4 64, false⟩,
    ⟨0x04, .u8, 1, .bool, .rw, .val 0x40, .p1, .between 4 64, false⟩,
    ⟨0x05, .u8, 1, .bool, .rw, .val 0x40, .p1, .between 4 64, false⟩,
    ⟨0x06, .u32, 1, .bool, .ro, .val 0, .p1, .any, false⟩] }

/-- 0x1013, as 0x1012 for half 1 (R449). -/
def obj1013 : Obj :=
  { index := 0x1013, owner := .half .h1, selectors := [], rows := obj1012.rows }

/-- 0x1014 (16_power_and_thermal.md, R450). -/
def obj1014 : Obj :=
  { index := 0x1014, owner := .keystone, selectors := [], rows := [
    ⟨0x01, .u8, 1, .bool, .rw, .val 0x5F, .p2, .between 85 100, false⟩,
    ⟨0x02, .i32, 1, .bool, .ro, .val 0, .p0, .any, false⟩,
    ⟨0x03, .i32, 1, .bool, .ro, .val 0, .p0, .any, false⟩,
    ⟨0x04, .i32, 1, .bool, .ro, .val 0, .p0, .any, false⟩,
    ⟨0x05, .u32, 1, .bool, .ro, .val 0, .p1, .any, false⟩,
    ⟨0x06, .u32, 1, .bool, .ro, .val 0, .p2, .any, false⟩,
    ⟨0x07, .i32, 1, .bool, .ro, .val 0, .p2, .any, false⟩] }

/-- 0x1015 (16_power_and_thermal.md, R451). -/
def obj1015 : Obj :=
  { index := 0x1015, owner := .keystone, selectors := [], rows := [
    ⟨0x01, .u8, 1, .bool, .ro, .val 0, .p0, .any, false⟩,
    ⟨0x02, .array, 12, .u64, .ro, .val 0, .p1, .any, false⟩,
    ⟨0x0E, .array, 6, .u32, .ro, .val 0, .p1, .any, false⟩] }

/-- 0x1016, as 0x1015 for half 1 (R451). -/
def obj1016 : Obj :=
  { index := 0x1016, owner := .keystone, selectors := [], rows := obj1015.rows }

/-- 0x1017 (16_power_and_thermal.md, R452). -/
def obj1017 : Obj :=
  { index := 0x1017, owner := .keystone, selectors := [], rows := [
    ⟨0x01, .u64, 2, .bool, .ro, .val 0, .p1, .any, false⟩,
    ⟨0x03, .u64, 2, .bool, .ro, .val 0, .p1, .any, false⟩,
    ⟨0x05, .u64, 2, .bool, .ro, .val 0, .p1, .any, false⟩,
    ⟨0x07, .u64, 2, .bool, .ro, .val 0, .p1, .any, false⟩,
    ⟨0x09, .u64, 2, .bool, .ro, .val 0, .p1, .any, false⟩] }

/-- 0xA000 (03_host_port.md, R81). -/
def objA000 : Obj :=
  { index := 0xA000, owner := .keystone, selectors := [], rows := [
    ⟨0x01, .u16, 1, .bool, .ro, .impl 16, .p2, .any, false⟩,
    ⟨0x02, .u16, 1, .bool, .ro, .val 0x900, .p2, .any, false⟩,
    ⟨0x03, .u16, 1, .bool, .ro, .val 0x901, .p2, .any, false⟩] }

/-- 0xA001 (03_host_port.md, R81). -/
def objA001 : Obj :=
  { index := 0xA001, owner := .keystone, selectors := [], rows := [
    ⟨0x01, .u8, 1, .bool, .ro, .implIn [16, 8, 4], .p0, .any, false⟩,
    ⟨0x02, .u8, 1, .bool, .ro, .implIn [64, 32, 16, 8, 2], .p0, .any, false⟩,
    ⟨0x03, .u8, 1, .bool, .ro, .implIn [0, 1, 2], .p0, .any, false⟩,
    ⟨0x04, .u32, 1, .bool, .ro, .val 0, .p0, .any, false⟩,
    ⟨0x05, .u32, 1, .bool, .ro, .val 0, .p1, .any, false⟩,
    ⟨0x06, .u32, 1, .bool, .rw, .val 0x3FF, .p1, .mask 0x3FF, false⟩] }

/-- 0xA002 (03_host_port.md, R81). -/
def objA002 : Obj :=
  { index := 0xA002, owner := .keystone, selectors := [], rows := [
    ⟨0x01, .u8, 1, .bool, .ro, .val 0, .p0, .any, false⟩,
    ⟨0x02, .u8, 1, .bool, .rws, .val 0, .p1, .oneOf [0, 1], false⟩,
    ⟨0x03, .u32, 1, .bool, .ro, .val 0, .p2, .any, false⟩] }

/-- 0xA003 (03_host_port.md, R81). -/
def objA003 : Obj :=
  { index := 0xA003, owner := .keystone, selectors := [], rows := [
    ⟨0x01, .u8, 1, .bool, .rw, .val 1, .p1, .between 1 15, false⟩,
    ⟨0x02, .u8, 1, .bool, .rw, .val 1, .p1, .between 1 15, false⟩,
    ⟨0x03, .u16, 1, .bool, .rw, .val 0x800, .p1, .step 512 3584 256, false⟩,
    ⟨0x04, .u64, 2, .bool, .ro, .val 0, .p1, .any, false⟩] }

/-- 0xA004 (03_host_port.md, R81). -/
def objA004 : Obj :=
  { index := 0xA004, owner := .keystone, selectors := [], rows := [
    ⟨0x01, .u32, 1, .bool, .ro, .val 0, .p1, .any, false⟩,
    ⟨0x02, .u32, 1, .bool, .ro, .val 0, .p1, .any, false⟩,
    ⟨0x03, .u32, 1, .bool, .ro, .val 0, .p1, .any, false⟩,
    ⟨0x04, .u32, 1, .bool, .ro, .val 0, .p1, .any, false⟩,
    ⟨0x05, .u32, 1, .bool, .ro, .val 0, .p1, .any, false⟩,
    ⟨0x06, .u32, 1, .bool, .ro, .val 0, .p1, .any, false⟩] }

/-- The objects of this part in ascending index. -/
def objectsModule : List Obj :=
  [obj0000, obj0010, obj0011, obj0012, obj0013, obj0020, obj0040, obj0041,
   obj0080, obj0100, obj0101, obj0102, obj0103, obj1000, obj1001, obj1002,
   obj1003, obj1004, obj1005, obj1006, obj1010, obj1011, obj1012, obj1013,
   obj1014, obj1015, obj1016, obj1017, objA000, objA001, objA002, objA003,
   objA004]

end Sys2Proof.Machine
end

