-- ==== Sys2Proof/Machine/CatalogueWork.lean ====
section
/-! DEFINITION. The dictionary objects of update, spokes, resilience, contexts, security and diagnostics: one row per data object, copied
from the object tables of the chapters (R520). A row is sub-index, type, words, element type, access,
default, persistence, range, and whether it is one register whatever the selector. -/

namespace Sys2Proof.Machine

/-- 0x5000 (13_update_and_transfer.md, R352). -/
def obj5000 : Obj :=
  { index := 0x5000, owner := .keystone, selectors := [], rows := [
    ⟨0x01, .u8, 1, .bool, .ro, .val 0x10, .p2, .any, false⟩,
    ⟨0x02, .u16, 1, .bool, .ro, .val 0x20C0, .p2, .any, false⟩,
    ⟨0x03, .u16, 1, .bool, .ro, .val 0x20F, .p2, .any, false⟩,
    ⟨0x04, .u8, 1, .bool, .ro, .val 0x1C, .p2, .any, false⟩,
    ⟨0x05, .u8, 1, .bool, .ro, .val 0x10, .p2, .any, false⟩,
    ⟨0x06, .u16, 1, .bool, .ro, .val 0x100, .p2, .any, false⟩,
    ⟨0x07, .f32, 1, .bool, .ro, .val 0x40000000, .p2, .any, false⟩,
    ⟨0x08, .u32, 1, .bool, .ro, .val 0x4000000, .p2, .any, false⟩] }

/-- 0x5001 (13_update_and_transfer.md, R353). -/
def obj5001 : Obj :=
  { index := 0x5001, owner := .half .h0, selectors := [], rows := [
    ⟨0x01, .u64, 2, .bool, .ro, .val 0x2000000000, .p2, .any, false⟩,
    ⟨0x03, .u64, 2, .bool, .ro, .val 0, .p0, .any, false⟩,
    ⟨0x05, .u16, 1, .bool, .rw, .val 0, .p1, .max 120, false⟩,
    ⟨0x06, .u64, 2, .bool, .ro, .val 0, .p1, .any, false⟩,
    ⟨0x08, .u32, 1, .bool, .ro, .val 0, .p1, .any, false⟩,
    ⟨0x09, .u16, 1, .bool, .ro, .val 0, .p0, .any, false⟩,
    ⟨0x0A, .u64, 2, .bool, .ro, .val 0, .p0, .any, false⟩,
    ⟨0x0C, .u64, 2, .bool, .ro, .val 0, .p1, .any, false⟩,
    ⟨0x0E, .u64, 2, .bool, .ro, .val 0, .p1, .any, false⟩] }

/-- 0x5002, as 0x5001 for half 1 (R353). -/
def obj5002 : Obj :=
  { index := 0x5002, owner := .half .h1, selectors := [], rows := obj5001.rows }

/-- 0x5010 (13_update_and_transfer.md, R354). -/
def obj5010 : Obj :=
  { index := 0x5010, owner := .ctx, selectors := [(0x5010, 0x01)], rows := [
    ⟨0x01, .u16, 1, .bool, .rw, .val 0, .p0, .max 3071, true⟩,
    ⟨0x02, .u64, 2, .bool, .rw, .val 0, .p1, .align 64, false⟩,
    ⟨0x04, .f32, 1, .bool, .rw, .val 0x0, .p1, .own, false⟩,
    ⟨0x05, .u8, 1, .bool, .rw, .val 1, .p1, .between 1 16, false⟩,
    ⟨0x06, .u64, 2, .bool, .ro, .val 0, .p1, .any, false⟩,
    ⟨0x08, .u64, 2, .bool, .ro, .val 0, .p1, .any, false⟩,
    ⟨0x0A, .f32, 1, .bool, .ro, .val 0x0, .p1, .any, false⟩,
    ⟨0x0B, .f32, 1, .bool, .ro, .val 0x0, .p1, .any, false⟩,
    ⟨0x0C, .f32, 1, .bool, .ro, .val 0x0, .p1, .any, false⟩,
    ⟨0x0D, .u32, 1, .bool, .ro, .val 0, .p1, .any, false⟩,
    ⟨0x0E, .u8, 1, .bool, .ro, .val 0, .p0, .any, false⟩,
    ⟨0x0F, .u64, 2, .bool, .ro, .val 0, .p1, .any, false⟩,
    ⟨0x11, .u64, 2, .bool, .ro, .val 0, .p1, .any, false⟩,
    ⟨0x13, .u32, 1, .bool, .ro, .val 0, .p1, .any, false⟩] }

/-- 0x5011 (13_update_and_transfer.md, R355). -/
def obj5011 : Obj :=
  { index := 0x5011, owner := .ctx, selectors := [(0x5011, 0x01), (0x5011, 0x02)], rows := [
    ⟨0x01, .u16, 1, .bool, .rw, .val 0, .p0, .max 3071, true⟩,
    ⟨0x02, .u8, 1, .bool, .rw, .val 0, .p0, .max 255, true⟩,
    ⟨0x03, .u8, 1, .bool, .ro, .val 0, .p1, .any, false⟩,
    ⟨0x04, .f32, 1, .bool, .ro, .val 0x0, .p1, .any, false⟩,
    ⟨0x05, .u32, 1, .bool, .ro, .val 0, .p1, .any, false⟩,
    ⟨0x06, .u64, 2, .bool, .ro, .val 0, .p1, .any, false⟩] }

/-- 0x5020 (13_update_and_transfer.md, R356). -/
def obj5020 : Obj :=
  { index := 0x5020, owner := .tile, selectors := [(0x5020, 0x01)], rows := [
    ⟨0x01, .u32, 1, .bool, .rw, .val 0, .p0, .tilePhys, true⟩,
    ⟨0x02, .u8, 1, .bool, .ro, .val 1, .p2, .any, false⟩,
    ⟨0x03, .u32, 1, .bool, .ro, .val 0, .p2, .any, false⟩,
    ⟨0x04, .u32, 1, .bool, .ro, .val 0, .p0, .any, false⟩,
    ⟨0x05, .u32, 1, .bool, .ro, .val 0, .p0, .any, false⟩,
    ⟨0x06, .u8, 1, .bool, .ro, .val 0, .p0, .any, false⟩,
    ⟨0x07, .u16, 1, .bool, .ro, .val 0, .p0, .any, false⟩,
    ⟨0x08, .u64, 2, .bool, .ro, .val 0, .p1, .any, false⟩,
    ⟨0x0A, .u64, 2, .bool, .ro, .val 0, .p1, .any, false⟩,
    ⟨0x0C, .u32, 1, .bool, .ro, .val 0, .p1, .any, false⟩,
    ⟨0x0D, .u8, 1, .bool, .ro, .val 0, .p2, .any, false⟩,
    ⟨0x0E, .u32, 1, .bool, .ro, .val 0, .p1, .any, false⟩] }

/-- 0x5030 (13_update_and_transfer.md, R357). -/
def obj5030 : Obj :=
  { index := 0x5030, owner := .keystone, selectors := [], rows := [
    ⟨0x01, .u32, 1, .bool, .rw, .val 0xAB18, .p2, .between 8760 131400, false⟩,
    ⟨0x02, .u16, 1, .bool, .rw, .val 0x3C, .p2, .between 10 3600, false⟩,
    ⟨0x03, .u8, 1, .bool, .rw, .val 0xA, .p2, .between 1 100, false⟩,
    ⟨0x04, .u8, 1, .bool, .rw, .val 8, .p2, .between 1 64, false⟩,
    ⟨0x05, .u16, 1, .bool, .rw, .val 0x2D0, .p2, .between 24 8760, false⟩] }

/-- 0x6000 (14_spokes_and_collectives.md, R388). -/
def obj6000 : Obj :=
  { index := 0x6000, owner := .half .h0, selectors := [], rows := [
    ⟨0x01, .u16, 1, .bool, .rws, .val 0xFFFF, .p2, .upToOr 16383, false⟩,
    ⟨0x02, .u64, 2, .bool, .ro, .val 0, .p1, .any, false⟩,
    ⟨0x04, .u64, 2, .bool, .ro, .val 0, .p1, .any, false⟩,
    ⟨0x06, .u32, 1, .bool, .ro, .val 0, .p1, .any, false⟩,
    ⟨0x07, .u32, 1, .bool, .ro, .val 0, .p1, .any, false⟩,
    ⟨0x08, .u32, 1, .bool, .ro, .val 0, .p1, .any, false⟩,
    ⟨0x09, .u32, 1, .bool, .ro, .val 0, .p2, .any, false⟩,
    ⟨0x0A, .u32, 1, .bool, .ro, .val 0, .p1, .any, false⟩] }

/-- 0x6001, as 0x6000 for half 1 (R388). -/
def obj6001 : Obj :=
  { index := 0x6001, owner := .half .h1, selectors := [], rows := obj6000.rows }

/-- 0x6002 (14_spokes_and_collectives.md, R389). -/
def obj6002 : Obj :=
  { index := 0x6002, owner := .half', selectors := [(0x6002, 0x01), (0x6002, 0x02)], rows := [
    ⟨0x01, .u8, 1, .bool, .rw, .val 0, .p0, .oneOf [0, 1], true⟩,
    ⟨0x02, .u16, 1, .bool, .rw, .val 0, .p0, .max 16383, true⟩,
    ⟨0x03, .array, 64, .u16, .rw, .each 0x1F, .p1, .own, false⟩] }

/-- 0x6003 (14_spokes_and_collectives.md, R390). -/
def obj6003 : Obj :=
  { index := 0x6003, owner := .spoke, selectors := [(0x6003, 0x01)], rows := [
    ⟨0x01, .u16, 1, .bool, .rw, .val 0, .p0, .own, true⟩,
    ⟨0x02, .u8, 1, .bool, .ro, .val 0, .p0, .any, false⟩,
    ⟨0x03, .u32, 1, .bool, .ro, .val 0, .p0, .any, false⟩,
    ⟨0x04, .u64, 2, .bool, .ro, .val 0, .p0, .any, false⟩,
    ⟨0x06, .u32, 1, .bool, .ro, .val 0xFFFFFFFF, .p0, .any, false⟩,
    ⟨0x07, .u64, 2, .bool, .ro, .val 0, .p1, .any, false⟩,
    ⟨0x09, .u32, 1, .bool, .ro, .val 0, .p1, .any, false⟩,
    ⟨0x0A, .u32, 1, .bool, .ro, .val 0, .p1, .any, false⟩,
    ⟨0x0B, .u32, 1, .bool, .ro, .val 0, .p1, .any, false⟩,
    ⟨0x0C, .u8, 1, .bool, .wo, .val 0, .p0, .oneOf [1, 2, 3], false⟩,
    ⟨0x0D, .u8, 1, .bool, .ro, .val 0, .p0, .any, false⟩,
    ⟨0x0E, .u32, 1, .bool, .ro, .val 0, .p1, .any, false⟩] }

/-- 0x6004 (14_spokes_and_collectives.md, R391). -/
def obj6004 : Obj :=
  { index := 0x6004, owner := .keystone, selectors := [], rows := [
    ⟨0x01, .u16, 1, .bool, .rw, .val 0x10, .p2, .between 1 4096, false⟩,
    ⟨0x02, .u16, 1, .bool, .rw, .val 0x3C, .p2, .between 1 3600, false⟩,
    ⟨0x03, .u16, 1, .bool, .rw, .val 0x64, .p2, .between 10 10000, false⟩] }

/-- 0x6010 (14_spokes_and_collectives.md, R392). -/
def obj6010 : Obj :=
  { index := 0x6010, owner := .ctx, selectors := [(0x6010, 0x01)], rows := [
    ⟨0x01, .u16, 1, .bool, .rw, .val 0, .p0, .max 3071, true⟩,
    ⟨0x02, .u64, 2, .bool, .rw, .val 0, .p1, .align 64, false⟩,
    ⟨0x04, .u8, 1, .bool, .ro, .val 0, .p0, .any, false⟩,
    ⟨0x05, .u64, 2, .bool, .ro, .val 0, .p1, .any, false⟩,
    ⟨0x07, .u8, 1, .bool, .ro, .val 0, .p0, .any, false⟩,
    ⟨0x08, .u32, 1, .bool, .ro, .val 0, .p1, .any, false⟩,
    ⟨0x09, .u32, 1, .bool, .ro, .val 0, .p1, .any, false⟩,
    ⟨0x0A, .u32, 1, .bool, .ro, .val 0, .p1, .any, false⟩,
    ⟨0x0B, .u64, 2, .bool, .ro, .val 0, .p0, .any, false⟩,
    ⟨0x0D, .u32, 1, .bool, .ro, .val 0, .p1, .any, false⟩,
    ⟨0x0E, .u32, 1, .bool, .ro, .val 0, .p1, .any, false⟩,
    ⟨0x0F, .u16, 1, .bool, .ro, .val 0xFFFF, .p0, .any, false⟩] }

/-- 0x6020 (14_spokes_and_collectives.md, R393). -/
def obj6020 : Obj :=
  { index := 0x6020, owner := .half .h0, selectors := [], rows := [
    ⟨0x01, .u64, 2, .bool, .ro, .val 0, .p1, .any, false⟩,
    ⟨0x03, .u64, 2, .bool, .ro, .val 0, .p1, .any, false⟩,
    ⟨0x05, .u64, 2, .bool, .ro, .val 0, .p1, .any, false⟩,
    ⟨0x07, .u64, 2, .bool, .ro, .val 0, .p1, .any, false⟩,
    ⟨0x09, .u32, 1, .bool, .ro, .val 0, .p1, .any, false⟩,
    ⟨0x0A, .u32, 1, .bool, .ro, .val 0, .p1, .any, false⟩] }

/-- 0x6021, as 0x6020 for half 1 (R393). -/
def obj6021 : Obj :=
  { index := 0x6021, owner := .half .h1, selectors := [], rows := obj6020.rows }

/-- 0x7000 (15_resilience.md, R420). -/
def obj7000 : Obj :=
  { index := 0x7000, owner := .keystone, selectors := [], rows := [
    ⟨0x01, .u8, 1, .bool, .ro, .val 0, .p1, .any, false⟩,
    ⟨0x02, .f32, 1, .bool, .ro, .val 0x0, .p1, .any, false⟩,
    ⟨0x03, .u8, 1, .bool, .ro, .val 0, .p0, .any, false⟩,
    ⟨0x04, .u8, 1, .bool, .ro, .val 0, .p1, .any, false⟩,
    ⟨0x05, .array, 8, .u32, .ro, .val 0, .p1, .any, false⟩,
    ⟨0x0D, .u32, 1, .bool, .ro, .val 0, .p1, .any, false⟩,
    ⟨0x0E, .u8, 1, .bool, .ro, .val 0, .p2, .any, false⟩] }

/-- 0x7001, as 0x7000 for half 1 (R420). -/
def obj7001 : Obj :=
  { index := 0x7001, owner := .keystone, selectors := [], rows := obj7000.rows }

/-- 0x7002 (15_resilience.md, R421). -/
def obj7002 : Obj :=
  { index := 0x7002, owner := .keystone, selectors := [], rows := [
    ⟨0x01, .u8, 1, .bool, .rw, .val 0x60, .p2, .own, false⟩,
    ⟨0x02, .u8, 1, .bool, .rw, .val 0xC0, .p2, .own, false⟩,
    ⟨0x03, .u32, 1, .bool, .rw, .val 0xE10, .p2, .between 60 86400, false⟩,
    ⟨0x04, .u8, 1, .bool, .rw, .val 0x10, .p2, .between 4 64, false⟩,
    ⟨0x05, .u32, 1, .bool, .rw, .val 0x258, .p2, .between 10 86400, false⟩,
    ⟨0x06, .array, 8, .u8, .rw, .seq [1, 2, 1, 4, 8, 8, 8, 32], .p2, .any, false⟩,
    ⟨0x0E, .u16, 1, .bool, .rw, .val 0x10, .p2, .between 1 1000, false⟩,
    ⟨0x0F, .u8, 1, .bool, .rw, .val 6, .p2, .between 2 20, false⟩,
    ⟨0x10, .u8, 1, .bool, .rw, .val 0x18, .p2, .between 1 48, false⟩] }

/-- 0x7010 (15_resilience.md, R422). -/
def obj7010 : Obj :=
  { index := 0x7010, owner := .ctx, selectors := [(0x7010, 0x01)], rows := [
    ⟨0x01, .u16, 1, .bool, .rw, .val 0, .p0, .max 3071, true⟩,
    ⟨0x02, .u16, 1, .bool, .rw, .val 0xFFFF, .p1, .upToOr 16383, false⟩,
    ⟨0x03, .u8, 1, .bool, .rw, .val 0, .p1, .max 15, false⟩,
    ⟨0x04, .u16, 1, .bool, .rw, .val 1, .p1, .between 1 65535, false⟩,
    ⟨0x05, .u8, 1, .bool, .rw, .val 0, .p1, .oneOf [0, 1, 2, 3], false⟩,
    ⟨0x06, .u16, 1, .bool, .rw, .val 0x10, .p1, .between 1 4096, false⟩,
    ⟨0x07, .u64, 2, .bool, .ro, .val 0, .p1, .any, false⟩,
    ⟨0x09, .u64, 2, .bool, .ro, .val 0, .p1, .any, false⟩,
    ⟨0x0B, .u64, 2, .bool, .ro, .val 0, .p1, .any, false⟩,
    ⟨0x0D, .u32, 1, .bool, .ro, .val 0, .p1, .any, false⟩,
    ⟨0x0E, .u8, 1, .bool, .ro, .val 0, .p0, .any, false⟩,
    ⟨0x0F, .f32, 1, .bool, .ro, .val 0x0, .p1, .any, false⟩] }

/-- 0x7011 (15_resilience.md, R423). -/
def obj7011 : Obj :=
  { index := 0x7011, owner := .half .h0, selectors := [], rows := [
    ⟨0x01, .u64, 2, .bool, .wo, .val 0, .p0, .any, false⟩,
    ⟨0x03, .u32, 1, .bool, .ro, .val 0, .p1, .any, false⟩] }

/-- 0x7012, as 0x7011 for half 1 (R423). -/
def obj7012 : Obj :=
  { index := 0x7012, owner := .half .h1, selectors := [], rows := obj7011.rows }

/-- 0x7013 (15_resilience.md, R424). -/
def obj7013 : Obj :=
  { index := 0x7013, owner := .ctx, selectors := [(0x7013, 0x01)], rows := [
    ⟨0x01, .u16, 1, .bool, .rw, .val 0, .p0, .max 3071, true⟩,
    ⟨0x02, .u16, 1, .bool, .rw, .val 0xFFFF, .p1, .own, false⟩,
    ⟨0x03, .u8, 1, .bool, .rw, .val 0, .p1, .max 15, false⟩,
    ⟨0x04, .u64, 2, .bool, .rw, .val 0, .p1, .any, false⟩,
    ⟨0x06, .bool, 1, .bool, .wo, .val 0, .p0, .oneOf [1], false⟩,
    ⟨0x07, .u8, 1, .bool, .ro, .val 0, .p1, .any, false⟩,
    ⟨0x08, .f32, 1, .bool, .ro, .val 0x0, .p1, .any, false⟩,
    ⟨0x09, .f32, 1, .bool, .ro, .val 0x0, .p1, .any, false⟩,
    ⟨0x0A, .f32, 1, .bool, .ro, .val 0x0, .p1, .any, false⟩,
    ⟨0x0B, .f32, 1, .bool, .ro, .val 0x0, .p1, .any, false⟩,
    ⟨0x0C, .u32, 1, .bool, .ro, .val 0, .p1, .any, false⟩] }

/-- 0x7020 (15_resilience.md, R425). -/
def obj7020 : Obj :=
  { index := 0x7020, owner := .keystone, selectors := [(0x7020, 0x02)], rows := [
    ⟨0x01, .u16, 1, .bool, .ro, .val 0, .p2, .any, true⟩,
    ⟨0x02, .u8, 1, .bool, .rw, .val 0, .p0, .max 63, true⟩,
    ⟨0x03, .u32, 1, .bool, .ro, .val 0, .p2, .any, false⟩,
    ⟨0x04, .u8, 1, .bool, .ro, .val 0, .p2, .any, false⟩,
    ⟨0x05, .u64, 2, .bool, .ro, .val 0, .p2, .any, false⟩,
    ⟨0x07, .u16, 1, .bool, .ro, .val 0xFFFF, .p2, .any, false⟩,
    ⟨0x08, .u64, 2, .bool, .ro, .val 0, .p2, .any, false⟩,
    ⟨0x0A, .u32, 1, .bool, .ro, .val 0, .p2, .any, true⟩] }

/-- 0x7021 (15_resilience.md, R425). -/
def obj7021 : Obj :=
  { index := 0x7021, owner := .keystone, selectors := [], rows := [
    ⟨0x01, .bool, 1, .bool, .ro, .val 0, .p2, .any, false⟩,
    ⟨0x02, .u64, 2, .bool, .ro, .val 0, .p2, .any, false⟩,
    ⟨0x04, .u32, 1, .bool, .ro, .val 0, .p1, .any, false⟩] }

/-- 0x7030 (15_resilience.md, R426). -/
def obj7030 : Obj :=
  { index := 0x7030, owner := .half .h0, selectors := [(0x7030, 0x01)], rows := [
    ⟨0x01, .u8, 1, .bool, .rw, .val 0, .p0, .max 15, true⟩,
    ⟨0x02, .u64, 2, .bool, .rw, .val 0, .p1, .own, false⟩,
    ⟨0x04, .array, 6, .u64, .ro, .val 0, .p1, .any, false⟩,
    ⟨0x0A, .u8, 1, .bool, .ro, .val 0, .p1, .any, false⟩,
    ⟨0x0B, .u64, 2, .bool, .wo, .val 0, .p0, .any, false⟩,
    ⟨0x0D, .u32, 1, .bool, .ro, .val 0, .p1, .any, true⟩] }

/-- 0x7031, as 0x7030 for half 1 (R426). -/
def obj7031 : Obj :=
  { index := 0x7031, owner := .half .h1, selectors := [(0x7031, 0x01)], rows := obj7030.rows }

/-- 0x7040 (15_resilience.md, R427). -/
def obj7040 : Obj :=
  { index := 0x7040, owner := .keystone, selectors := [], rows := [
    ⟨0x01, .u16, 1, .bool, .ro, .val 0, .p1, .any, false⟩,
    ⟨0x02, .domain, 1, .bool, .ro, .val 0, .p1, .any, false⟩,
    ⟨0x03, .u32, 1, .bool, .ro, .val 0, .p1, .any, false⟩,
    ⟨0x04, .bool, 1, .bool, .wo, .val 0, .p0, .oneOf [1], false⟩] }

/-- 0x8000 (06_contexts_and_work.md, R162). -/
def obj8000 : Obj :=
  { index := 0x8000, owner := .ctxObj, selectors := [], rows := [
    ⟨0x01, .u32, 1, .bool, .rw, .val 0, .p1, .own, false⟩,
    ⟨0x02, .u32, 1, .bool, .ro, .val 0, .p1, .any, false⟩,
    ⟨0x03, .u8, 1, .bool, .rw, .val 0, .p1, .oneOf [0, 1, 2], false⟩,
    ⟨0x04, .u8, 1, .bool, .rw, .val 0, .p1, .oneOf [0, 1], false⟩,
    ⟨0x05, .u32, 1, .bool, .rw, .val 0, .p1, .mask 0x3F, false⟩,
    ⟨0x06, .u16, 1, .bool, .rw, .val 0xFFFF, .p1, .own, false⟩,
    ⟨0x07, .u64, 2, .bool, .rw, .val 0, .p1, .align 4096, false⟩,
    ⟨0x09, .u32, 1, .bool, .rw, .val 0, .p1, .any, false⟩,
    ⟨0x0A, .array, 8, .u32, .ro, .val 0, .p1, .any, false⟩,
    ⟨0x12, .u64, 2, .bool, .rw, .val 0, .p1, .any, false⟩,
    ⟨0x14, .u64, 2, .bool, .rw, .val 0, .p1, .any, false⟩,
    ⟨0x16, .u64, 2, .bool, .ro, .val 0, .p1, .any, false⟩,
    ⟨0x18, .array, 4, .u32, .rw, .val 0, .p1, .any, false⟩,
    ⟨0x1C, .u32, 1, .bool, .rw, .val 0, .p1, .mask 0xF, false⟩,
    ⟨0x1D, .u16, 1, .bool, .rw, .val 1, .p1, .between 1 2047, false⟩,
    ⟨0x1E, .u32, 1, .bool, .rw, .val 0, .p1, .mask 0x7F, false⟩,
    ⟨0x1F, .u32, 1, .bool, .ro, .val 0, .p1, .any, false⟩,
    ⟨0x20, .u32, 1, .bool, .wo, .val 0, .p0, .mask 0x7F, false⟩,
    ⟨0x21, .u32, 1, .bool, .ro, .val 0, .p0, .any, false⟩,
    ⟨0x22, .u64, 2, .bool, .ro, .val 0, .p1, .any, false⟩,
    ⟨0x24, .u16, 1, .bool, .ro, .val 0, .p1, .any, false⟩,
    ⟨0x25, .u16, 1, .bool, .ro, .val 0, .p1, .any, false⟩,
    ⟨0x26, .u16, 1, .bool, .ro, .val 0, .p1, .any, false⟩,
    ⟨0x27, .u64, 2, .bool, .ro, .val 0, .p1, .any, false⟩,
    ⟨0x2F, .bool, 1, .bool, .wo, .val 0, .p0, .oneOf [1], false⟩,
    ⟨0x30, .array, 16, .u32, .rw, .val 0, .p1, .own, false⟩,
    ⟨0x40, .u32, 1, .bool, .rw, .val 0x10000, .p1, .between 1 1048576, false⟩,
    ⟨0x41, .u64, 2, .bool, .rw, .val 0, .p1, .align 4096, false⟩,
    ⟨0x43, .u8, 1, .bool, .rw, .val 0, .p1, .own, false⟩,
    ⟨0x44, .u16, 1, .bool, .rw, .val 0x200, .p1, .step 64 4096 64, false⟩,
    ⟨0x45, .u64, 2, .bool, .rw, .val 0, .p1, .align 64, false⟩,
    ⟨0x47, .u64, 2, .bool, .rw, .val 0, .p1, .align 64, false⟩,
    ⟨0x49, .u64, 2, .bool, .rw, .val 0, .p1, .align 4096, false⟩,
    ⟨0x4B, .u16, 1, .bool, .rw, .val 0x10, .p1, .step 16 256 16, false⟩,
    ⟨0x4C, .u64, 2, .bool, .ro, .val 0, .p1, .any, false⟩,
    ⟨0x4E, .u8, 1, .bool, .ro, .val 0, .p1, .any, false⟩] }

/-- 0x9000 (17_security.md, R483). -/
def obj9000 : Obj :=
  { index := 0x9000, owner := .keystone, selectors := [], rows := [
    ⟨0x01, .array, 15, .u32, .ro, .impl 32, .p2, .any, false⟩,
    ⟨0x10, .u32, 1, .bool, .ro, .val 0, .p2, .any, false⟩,
    ⟨0x11, .u32, 1, .bool, .ro, .val 0, .p2, .any, false⟩,
    ⟨0x12, .u32, 1, .bool, .ro, .val 1073741824, .p0, .any, false⟩,
    ⟨0x13, .u32, 1, .bool, .ro, .val 0, .p2, .any, false⟩,
    ⟨0x14, .u32, 1, .bool, .rw, .val 0x1000000, .p2, .between 1048576 268435456, false⟩,
    ⟨0x15, .bool, 1, .bool, .ro, .val 0, .p0, .any, false⟩] }

/-- 0x9001 (17_security.md, R484). -/
def obj9001 : Obj :=
  { index := 0x9001, owner := .keystone, selectors := [], rows := [
    ⟨0x01, .u8, 1, .bool, .ro, .val 0, .p2, .any, false⟩,
    ⟨0x02, .array, 8, .u32, .ro, .val 0, .p2, .any, false⟩,
    ⟨0x0A, .u8, 1, .bool, .ro, .val 0, .p2, .any, false⟩,
    ⟨0x0B, .u8, 1, .bool, .ro, .val 0, .p2, .any, false⟩,
    ⟨0x0C, .u32, 1, .bool, .ro, .val 0, .p2, .any, false⟩] }

/-- 0x9010 (17_security.md, R485). -/
def obj9010 : Obj :=
  { index := 0x9010, owner := .keystone, selectors := [], rows := [
    ⟨0x01, .u8, 1, .bool, .rw, .val 0, .p0, .mask 0x13, false⟩,
    ⟨0x02, .domain, 1, .bool, .rw, .val 0, .p0, .any, false⟩,
    ⟨0x03, .u16, 1, .bool, .ro, .val 0x3001, .p0, .any, false⟩,
    ⟨0x04, .bool, 1, .bool, .rwl, .val 0, .p0, .oneOf [1], false⟩,
    ⟨0x05, .bool, 1, .bool, .wo, .val 0, .p0, .oneOf [1], false⟩,
    ⟨0x06, .array, 5, .u32, .ro, .val 0, .p2, .any, false⟩] }

/-- 0x9020 (17_security.md, R486). -/
def obj9020 : Obj :=
  { index := 0x9020, owner := .keystone, selectors := [], rows := [
    ⟨0x01, .bool, 1, .bool, .ro, .val 0, .p2, .any, false⟩,
    ⟨0x02, .domain, 1, .bool, .rw, .val 0, .p2, .any, false⟩,
    ⟨0x03, .array, 8, .u32, .ro, .val 0, .p2, .any, false⟩,
    ⟨0x0B, .u16, 1, .bool, .ro, .val 0, .p2, .any, false⟩,
    ⟨0x0C, .u8, 1, .bool, .rw, .val 0, .p0, .max 15, false⟩,
    ⟨0x0D, .array, 8, .u32, .wo, .val 0, .p2, .any, false⟩,
    ⟨0x15, .u32, 1, .bool, .ro, .val 0, .p2, .any, false⟩,
    ⟨0x16, .bool, 1, .bool, .wo, .val 0, .p0, .oneOf [1], false⟩,
    ⟨0x17, .bool, 1, .bool, .wo, .val 0, .p0, .oneOf [1], false⟩] }

/-- 0x9030 (17_security.md, R487). -/
def obj9030 : Obj :=
  { index := 0x9030, owner := .keystone, selectors := [], rows := [
    ⟨0x01, .u32, 1, .bool, .ro, .val 0, .p1, .any, false⟩,
    ⟨0x02, .array, 9, .u32, .wo, .val 0, .p1, .any, false⟩,
    ⟨0x0B, .bool, 1, .bool, .wo, .val 0, .p0, .oneOf [1], false⟩,
    ⟨0x0C, .u8, 1, .bool, .ro, .val 0, .p1, .any, false⟩,
    ⟨0x0D, .u64, 2, .bool, .ro, .val 0, .p1, .any, false⟩,
    ⟨0x0F, .bool, 1, .bool, .ro, .val 0, .p1, .any, false⟩] }

/-- 0x9031, as 0x9030 for half 1 (R487). -/
def obj9031 : Obj :=
  { index := 0x9031, owner := .keystone, selectors := [], rows := obj9030.rows }

/-- 0x9040 (17_security.md, R488). -/
def obj9040 : Obj :=
  { index := 0x9040, owner := .half .h0, selectors := [], rows := [
    ⟨0x01, .array, 64, .u32, .rw, .val 0, .p2, .own, false⟩,
    ⟨0x41, .u32, 1, .bool, .ro, .val 0, .p1, .any, false⟩] }

/-- 0x9041, as 0x9040 for half 1 (R488). -/
def obj9041 : Obj :=
  { index := 0x9041, owner := .half .h1, selectors := [], rows := obj9040.rows }

/-- 0x9050 (17_security.md, R489). -/
def obj9050 : Obj :=
  { index := 0x9050, owner := .ctx, selectors := [(0x9050, 0x01)], rows := [
    ⟨0x01, .u16, 1, .bool, .rw, .val 0, .p0, .max 3071, true⟩,
    ⟨0x02, .domain, 1, .bool, .rw, .val 0, .p0, .any, false⟩] }

/-- 0x9060 (17_security.md, R490). -/
def obj9060 : Obj :=
  { index := 0x9060, owner := .keystone, selectors := [], rows := [
    ⟨0x01, .u32, 1, .bool, .wo, .val 0, .p0, .own, false⟩,
    ⟨0x02, .bool, 1, .bool, .ro, .val 0, .p0, .any, false⟩,
    ⟨0x03, .u32, 1, .bool, .ro, .val 0, .p2, .any, false⟩,
    ⟨0x04, .u32, 1, .bool, .ro, .val 0, .p2, .any, false⟩] }

/-- 0x9070 (17_security.md, R491). -/
def obj9070 : Obj :=
  { index := 0x9070, owner := .keystone, selectors := [], rows := [
    ⟨0x01, .u16, 1, .bool, .rw, .val 0, .p0, .max 3071, false⟩,
    ⟨0x02, .array, 8, .u32, .rw, .val 0, .p0, .any, false⟩,
    ⟨0x03, .u8, 1, .bool, .wo, .val 0, .p0, .oneOf [1], false⟩,
    ⟨0x04, .domain, 1, .bool, .ro, .val 0, .p0, .any, false⟩,
    ⟨0x0C, .array, 4, .u32, .ro, .val 0, .p0, .any, false⟩,
    ⟨0x10, .domain, 1, .bool, .wo, .val 0, .p0, .any, false⟩] }

/-- 0x9080 (17_security.md, R492). -/
def obj9080 : Obj :=
  { index := 0x9080, owner := .ctx, selectors := [(0x9080, 0x01)], rows := [
    ⟨0x01, .u16, 1, .bool, .rw, .val 0, .p0, .max 3071, true⟩,
    ⟨0x02, .bool, 1, .bool, .wo, .val 0, .p0, .oneOf [1], false⟩,
    ⟨0x03, .array, 8, .u32, .ro, .val 0, .p1, .any, false⟩,
    ⟨0x0B, .bool, 1, .bool, .wo, .val 0, .p0, .oneOf [1], false⟩] }

/-- 0xF000 (18_start_reset_and_test.md, R513). -/
def objF000 : Obj :=
  { index := 0xF000, owner := .keystone, selectors := [], rows := [
    ⟨0x01, .u8, 1, .bool, .ro, .val 0, .p2, .any, false⟩,
    ⟨0x02, .bool, 1, .bool, .ro, .val 0, .p0, .any, false⟩,
    ⟨0x03, .u32, 1, .bool, .ro, .val 0, .p2, .any, false⟩,
    ⟨0x04, .u64, 2, .bool, .ro, .val 0, .p2, .any, false⟩,
    ⟨0x06, .u32, 1, .bool, .ro, .val 0, .p2, .any, false⟩,
    ⟨0x07, .u32, 1, .bool, .ro, .val 0, .p2, .any, false⟩,
    ⟨0x08, .u32, 1, .bool, .ro, .val 0, .p0, .any, false⟩,
    ⟨0x09, .array, 2, .u32, .ro, .val 0, .p2, .any, false⟩] }

/-- 0xF001 (18_start_reset_and_test.md, R514). -/
def objF001 : Obj :=
  { index := 0xF001, owner := .keystone, selectors := [], rows := [
    ⟨0x01, .u8, 1, .bool, .rw, .val 0, .p0, .mask 0x13, false⟩,
    ⟨0x02, .domain, 1, .bool, .wo, .val 0, .p0, .any, false⟩,
    ⟨0x03, .u8, 1, .bool, .ro, .val 0, .p0, .any, false⟩,
    ⟨0x04, .u8, 1, .bool, .wo, .val 0, .p0, .oneOf [1, 2], false⟩] }

/-- 0xF002 (18_start_reset_and_test.md, R515). -/
def objF002 : Obj :=
  { index := 0xF002, owner := .keystone, selectors := [(0xF002, 0x05)], rows := [
    ⟨0x01, .u8, 1, .bool, .ro, .val 0, .p1, .any, true⟩,
    ⟨0x02, .u32, 1, .bool, .ro, .val 0, .p1, .any, true⟩,
    ⟨0x03, .u16, 1, .bool, .ro, .val 0, .p2, .any, true⟩,
    ⟨0x04, .u16, 1, .bool, .ro, .val 0, .p1, .any, true⟩,
    ⟨0x05, .u16, 1, .bool, .rw, .val 0, .p0, .max 4095, true⟩,
    ⟨0x06, .u64, 2, .bool, .ro, .val 0, .p2, .any, false⟩] }

/-- 0xF003, as 0xF002 for half 1 (R515). -/
def objF003 : Obj :=
  { index := 0xF003, owner := .keystone, selectors := [(0xF003, 0x05)], rows := objF002.rows }

/-- 0xF010 (18_start_reset_and_test.md, R516). -/
def objF010 : Obj :=
  { index := 0xF010, owner := .keystone, selectors := [], rows := [
    ⟨0x01, .u16, 1, .bool, .wo, .val 0, .p0, .mask 0x101, false⟩,
    ⟨0x02, .u32, 1, .bool, .wo, .val 0, .p0, .tilePhys, false⟩,
    ⟨0x03, .array, 2, .u32, .ro, .val 0, .p2, .any, false⟩,
    ⟨0x05, .u32, 1, .bool, .ro, .val 0, .p1, .any, false⟩] }

/-- 0xF020 (18_start_reset_and_test.md, R517). -/
def objF020 : Obj :=
  { index := 0xF020, owner := .keystone, selectors := [], rows := [
    ⟨0x01, .u32, 1, .bool, .rw, .val 0x3E8, .p2, .between 100 1000000, false⟩,
    ⟨0x02, .u16, 1, .bool, .rw, .val 0x10, .p2, .between 1 1024, false⟩,
    ⟨0x03, .u32, 1, .bool, .rw, .val 0x258, .p2, .between 60 86400, false⟩] }

/-- 0xF021 (18_start_reset_and_test.md, R518). -/
def objF021 : Obj :=
  { index := 0xF021, owner := .tile, selectors := [(0xF021, 0x01)], rows := [
    ⟨0x01, .u32, 1, .bool, .rw, .val 0, .p0, .tilePhys, true⟩,
    ⟨0x02, .u8, 1, .bool, .ro, .val 0, .p0, .any, false⟩,
    ⟨0x03, .u32, 1, .bool, .ro, .val 0, .p1, .any, false⟩,
    ⟨0x04, .u8, 1, .bool, .ro, .val 0, .p1, .any, false⟩,
    ⟨0x05, .u32, 1, .bool, .ro, .val 0, .p1, .any, false⟩,
    ⟨0x06, .u32, 1, .bool, .ro, .val 0, .p1, .any, false⟩] }

/-- 0xF030 (18_start_reset_and_test.md, R519). -/
def objF030 : Obj :=
  { index := 0xF030, owner := .keystone, selectors := [], rows := [
    ⟨0x01, .domain, 1, .bool, .ro, .val 0, .p1, .any, false⟩,
    ⟨0x02, .u64, 2, .bool, .ro, .val 0, .p1, .any, false⟩] }

/-- 0xF031 (18_start_reset_and_test.md, R519). -/
def objF031 : Obj :=
  { index := 0xF031, owner := .half .h0, selectors := [], rows := [
    ⟨0x01, .u32, 1, .bool, .rw, .val 0, .p0, .tilePhys, false⟩,
    ⟨0x02, .domain, 1, .bool, .ro, .val 0, .p0, .any, false⟩] }

/-- 0xF033, as 0xF031 for half 1 (R519). -/
def objF033 : Obj :=
  { index := 0xF033, owner := .half .h1, selectors := [], rows := objF031.rows }

/-- 0xF032 (18_start_reset_and_test.md, R519). -/
def objF032 : Obj :=
  { index := 0xF032, owner := .half .h0, selectors := [], rows := [
    ⟨0x01, .u64, 2, .bool, .rw, .val 0, .p0, .align 64, false⟩,
    ⟨0x03, .array, 16, .u32, .ro, .val 0, .p0, .any, false⟩,
    ⟨0x13, .u32, 1, .bool, .ro, .val 0, .p0, .any, false⟩] }

/-- 0xF034, as 0xF032 for half 1 (R519). -/
def objF034 : Obj :=
  { index := 0xF034, owner := .half .h1, selectors := [], rows := objF032.rows }

/-- The objects of this part in ascending index. -/
def objectsWork : List Obj :=
  [obj5000, obj5001, obj5002, obj5010, obj5011, obj5020, obj5030, obj6000,
   obj6001, obj6002, obj6003, obj6004, obj6010, obj6020, obj6021, obj7000,
   obj7001, obj7002, obj7010, obj7011, obj7012, obj7013, obj7020, obj7021,
   obj7030, obj7031, obj7040, obj8000, obj9000, obj9001, obj9010, obj9020,
   obj9030, obj9031, obj9040, obj9041, obj9050, obj9060, obj9070, obj9080,
   objF000, objF001, objF002, objF003, objF010, objF020, objF021, objF030,
   objF031, objF032, objF033, objF034]

end Sys2Proof.Machine
end

