-- ==== Sys2Proof/Machine/State.lean ====
section
/-! DEFINITION. The state of one Phirin P9 as plain data: the dictionary registers in one sparse
store, and, in named fields, the state the rules give the part outside the dictionary. `State.reset`
is the part with the supply absent, before the first cold power-on (R40: keystone off). -/

namespace Sys2Proof.Machine

open Sys2Proof

/-- Why a step stops. -/
inductive Fault where
  /-- An input above 80.0 V (R40: outside ratings, survival is not guaranteed). Raised by the supply
  commands whose measured input exceeds 80,000 mV. Safe: nothing is claimed of what follows. -/
  | outsideRatings
  deriving DecidableEq, Repr

/-- Why a command has no meaning. -/
inductive Refusal where
  /-- The command has no meaning yet. Raised by arms of `exec` only. Safe. -/
  | notModelled (mnemonic : String)
  deriving DecidableEq, Repr

/-! ### Keystone and halves -/

/-- Where a half stands (R494 to R496, R444, R428): unpowered, in phases S6 to S10 of its start,
running, start failed, tripped. Whether a running half is fenced is 0x0041's to say. -/
inductive HalfPhase where
  | off | starting | running | failed | tripped
  deriving DecidableEq, Repr

/-- Who issued a write that the keystone holds (R20, R22). -/
inductive HeldFrom where
  | manager (half : HalfId) (epoch : Nat)
  /-- A peloton member's write, served by a half whose bridge tags it (R122). -/
  | member (via : Via) (half : HalfId) (epoch : Nat)
  | host (via : Via)
  deriving DecidableEq, Repr

/-- A write that the keystone holds, or that waits in a manager's queue of tier 1 (R132). `expect` is what a WRITE_IF
expects to find. -/
structure HeldWrite where
  origin : HeldFrom
  index : Nat
  sub : Nat
  tag : Nat
  words : List Word
  expect : Option (List Word)
  /-- What a self-test that the write starts finds. -/
  found : Findings
  deriving DecidableEq, Repr

/-- What the keystone and the hardware hold of one half beside its dictionary registers. -/
structure HalfCtl where
  /-- Power and start phase of the half. -/
  phase : HalfPhase
  /-- Keystone count at the bridge's latest heartbeat or answer (R20). -/
  lastBeat : Nat
  /-- The half's copy of the keystone count (R97). -/
  copy : Nat
  /-- Epoch the half believes current (R20). -/
  believed : Nat
  /-- Words of the lead word, 0x0040.01 and .02, that the half has yet to reread: while one is left it stands down
  (R23). -/
  unread : List Nat
  /-- Last granted budget in W at the declaration of a fence or trip (R28, R29). -/
  lastGrant : Nat
  /-- The fenced half's draw is confirmed at or below its hold level, or it is unpowered (R29). -/
  confirmed : Bool
  /-- The half returned from a half reset after a fence or trip and waits for the leader's next
  split write (R29, R437, R505). -/
  awaitSplit : Bool
  /-- Crawl forced by a junction at 105 °C (R439, R444). -/
  crawlThermal : Bool
  /-- Crawl forced while a fence holds the half's draw (R439). -/
  crawlFence : Bool
  /-- Power and thermal cadence c_p and c_t (R439). -/
  cadP : Nat
  cadT : Nat
  /-- Courses whose droop detector withholds issue (R443). -/
  droop : List Nat
  /-- The start in progress is a half reset's (R495 point 5). -/
  byReset : Bool
  /-- A storm repeat runs (R297). -/
  storm : Bool
  /-- Memory_Active of the half's function (R495, R496). -/
  memActive : Bool
  /-- Repair entries held in the keystone store (R499). -/
  repairs : List (BitVec 64)
  /-- Tier 1 requests that wait for the half's manager, oldest first (R132). -/
  tier1 : List HeldWrite
  /-- Risk event counts at the last risk evaluation, per kind (R394). -/
  riskSeen : List Nat
  /-- Non-urgent calibration is deferred (R132 level 2). -/
  calDeferred : Bool
  /-- Command word of the calibration command last accepted; what its ZERO and its FULL measure by tile, with the number
  of products averaged (R224, R225). -/
  calWord : Nat
  calZero : List (Nat × ZeroRaw)
  zeroMean : Nat
  calFull : List (Nat × FullRaw)
  fullMean : Nat
  /-- Calibration at start has not completed (R230). -/
  calStart : Bool
  /-- Contexts whose committed gradients wait for their update, in the order they committed (R343). -/
  updates : List Nat
  /-- Key of the half's unclaimed HBM, drawn at its start (R469). -/
  memKey : BitVec 512
  deriving DecidableEq, Repr


/-- A claim waiting for its window to close (R22). -/
structure ClaimRec where
  half : HalfId
  epoch : Nat
  deriving DecidableEq, Repr

/-- An open arbitration window (R22). -/
structure Window where
  claims : List ClaimRec
  held : List HeldWrite
  deriving DecidableEq, Repr

/-- A firmware image slot or a staged image (R456, R457): what verification reads of it. -/
structure Image where
  component : Nat
  half : Nat
  security : Nat
  release : Nat
  advance : Bool
  digest : List Byte
  valid : Bool
  /-- The image as written. -/
  raw : List Byte
  deriving DecidableEq, Repr

/-- A module power-state transition in progress (R429 to R433): its target, the state it left,
whether the module has quiesced, the count it is timed from, and whether a wake event waits. -/
structure Transition where
  target : Nat
  prev : Nat
  quiet : Bool
  since : Nat
  wakes : Bool
  deriving DecidableEq, Repr

/-- The keystone beside its dictionary registers. -/
structure Keystone where
  /-- The keystone is powered (R40). -/
  powered : Bool
  /-- Open arbitration window, if any (R22). -/
  window : Option Window
  /-- Host lead-governed writes held while the holder's bridge is silent (R20). -/
  hostHeld : List HeldWrite
  /-- The 4 s of R24 have passed without half 0's start complete, or half 0's start failed. -/
  half0Late : Bool
  /-- A module start is in progress that has not reached start complete in either half (R494). -/
  starting : Bool
  /-- Halves that reached start complete in this module start (R458, R495). -/
  completed : List HalfId
  /-- Keystone count at the first phase of the module start (0xF000.08). -/
  startedAt : Nat
  /-- A start that waits before the halves power up: what their self-tests will find. It waits for the crystal (R494 S4)
  or for the supply (S5). -/
  waiting : Option Findings
  atS4 : Bool
  /-- The five active-slot pairs A, B in the bit order of 0x9001.0A. -/
  slotA : List Image
  slotB : List Image
  /-- Staged image (R459) and accepted recovery images (R503). -/
  staged : Option Image
  recovery : List Image
  /-- A commit that runs: component bit of 0x9001.0A and the image (R459). -/
  commit : Option (Nat × Image)
  /-- Power-state transition in progress (R430). -/
  trans : Option Transition
  /-- A host reset waits for the keystone commit to end, the link in training (R76): what it comes to. -/
  resetHeld : Option LinkTrain
  /-- The epoch limit record of R522 has been logged. -/
  epochLimitLogged : Bool
  deriving DecidableEq, Repr

/-- The supply input and its protection stage beside 0x0100 (R40 to R44). -/
structure Supply where
  alertLow : Bool
  alertHigh : Bool
  /-- The input switch is open (R40, R41). -/
  switchOpen : Bool
  /-- The reverse-event cell (R42). -/
  reverseCell : Bool
  /-- PWRBRK_N forces crawl (R47). -/
  pwrbrk : Bool
  deriving DecidableEq, Repr

/-! ### Host port -/

/-- One function of the host port (R61, R63, R64, R73). -/
structure FnState where
  /-- Configuration registers written, by register number; unlisted registers read their reset. -/
  cfg : List (Nat × Word)
  d3hot : Bool
  decCommitted : Bool
  decBase : Nat
  /-- Error-not-committed indication of the HDM decoder (R64). -/
  decError : Bool
  tspLocked : Bool
  /-- MSI-X table words by vector × 4 + word (R62), and other register block words written, by BAR × 2^20 + offset. -/
  msix : List (Nat × Word)
  regs : List (Nat × Word)
  deriving DecidableEq, Repr

/-- D2H requests of CXL.cache (R68). -/
inductive D2H where
  | rdCurr | rdShared | rdOwn | itoMWr | woWrInv | dirtyEvict | cleanEvict
  deriving DecidableEq, Repr

/-- A D2H request that waits for the link: host address, and the bytes that it writes from there on. -/
structure D2HReq where
  kind : D2H
  addr : Nat
  data : List Byte
  deriving DecidableEq, Repr

/-- A line of the keystone's device cache (the CXL.cache paragraph before R68): the half whose partition holds it,
the host address of its first byte. -/
structure CacheLine where
  half : HalfId
  addr : Nat
  dirty : Bool
  data : List Byte
  deriving DecidableEq, Repr

/-- An outstanding back-invalidate snoop (R65, R66). -/
structure Snoop where
  half : HalfId
  line : Nat
  /-- Context whose strand waits, if any. -/
  ctx : Option Nat
  /-- 100 µs passed: the line is host-owned for the step (R66). -/
  hostOwned : Bool
  /-- Host read that waits for directory room: line, session, over IDE. -/
  reader : Option (Nat × Option Nat × Bool)
  deriving DecidableEq, Repr

/-- The host port beside 0xA000 to 0xA004. -/
structure Port where
  f0 : FnState
  f1 : FnState
  f2 : FnState
  /-- Lines of the device cache, least recently used first in each partition. -/
  cache : List CacheLine
  /-- D2H requests of each half that wait for the link, the half that the round robin serves and what is left of its
  weight (R69). -/
  d2h0 : List D2HReq
  d2h1 : List D2HReq
  d2hTurn : HalfId
  d2hLeft : Nat
  /-- Host-tracking directories, least recently tracked line first (R65, R66). -/
  dir0 : List Nat
  dir1 : List Nat
  snoops : List Snoop
  /-- Lines of HBM that hold poison (R66): half, line. -/
  poisoned : List (HalfId × Nat)
  /-- Streams that IDE secures, those whose programmed keys wait for the refresh point (R71), those insecure after an
  integrity failure (R72). -/
  ideKeys : List IdeStream
  idePending : List IdeStream
  ideFailed : List IdeStream
  /-- CXL Reset Error indication (R432). -/
  resetError : Bool
  /-- Status shadow words by offset (R78) and its sequence count (R79). -/
  shadow : List (Nat × Word)
  shadowSeq : Nat
  /-- MSI-X vectors waiting for their interval: function and vector (R80, R129, R135, R160). -/
  vectors : List (Fn × Nat)
  deriving DecidableEq, Repr

/-! ### Dictionary service -/

/-- The latch of one path (R109). -/
structure Latch where
  path : Path
  index : Nat
  sub : Nat
  words : List Word
  stamp : Nat
  deriving DecidableEq, Repr

/-- The staging buffer of one path (R109). -/
structure Staging where
  path : Path
  index : Nat
  sub : Nat
  words : List Word
  stamp : Nat
  deriving DecidableEq, Repr

/-- An open domain write (R113). -/
structure DomWrite where
  path : Path
  index : Nat
  sub : Nat
  inst : Nat
  bytes : List Byte
  deriving DecidableEq, Repr

/-- A snapshot serving a domain read (R239, R477). -/
structure Snapshot where
  path : Path
  index : Nat
  sub : Nat
  inst : Nat
  bytes : List Byte
  stamp : Nat
  deriving DecidableEq, Repr

/-- What a deferred write does when it completes with 0x0000. -/
inductive Deferred where
  /-- A P2 store commit of words to a dictionary instance (R116). -/
  | store (index sub inst : Nat) (words : List Word)
  /-- A P2 store commit that only counts: its state is held in a named field (R113). -/
  | commitOnly (index sub : Nat)
  /-- A deferred action whose own command completes it. -/
  | action (index sub inst : Nat)
  deriving DecidableEq, Repr

/-- A ticket (R129): pending while `status` is none. -/
structure Ticket where
  num : Nat
  work : Deferred
  status : Option Nat
  /-- Spoke requester it was issued to, if any. -/
  issuedTo : Option Nat
  /-- Keystone count at acceptance and completion estimate in µs (R119, R128). -/
  stamp : Nat
  estimate : Nat
  deriving DecidableEq, Repr

/-- Dictionary service state. -/
structure Service where
  latches : List Latch
  stagings : List Staging
  domWrites : List DomWrite
  snapshots : List Snapshot
  tickets : List Ticket
  nextTicket : Nat
  /-- MCTP endpoint id and I3C dynamic address (R121); 0 before assignment. -/
  eid : Nat
  i3cAddr : Nat
  deriving DecidableEq, Repr

/-! ### Contexts -/

/-- A layer record (R280) with its backward record (R313) as placement read it. -/
structure Layer where
  kind : Nat
  activation : Nat
  pooling : Nat
  nIn : Nat
  nOut : Nat
  input : Nat
  output : Nat
  input2 : Nat
  format : Nat
  range : Nat
  flags : Nat
  strand : Nat
  initMax : Word
  slope : Word
  xMin : Word
  xMax : Word
  weights : Nat
  bias : Nat
  table : Nat
  params : Nat
  gradFormat : Nat
  bflags : Nat
  tie : Nat
  area : Nat
  /-- Digital-resident (R151, R280, R287). -/
  digital : Bool
  deriving DecidableEq, Repr

/-- A step tensor of a context: the values gathered for a step before conversion, and what
conversion made of them (R252 to R263). Gradient tensors are kept apart by `grad`. -/
structure Tensor where
  id : Nat
  grad : Bool
  format : Nat
  rows : Nat
  cols : Nat
  /-- FP32 values before stage 7, in logical row-major order. -/
  raw : List (Nat × Word)
  /-- Stage 4 results (R315) and, for pooling by maximum, the offsets of the first maximal vector. -/
  pre : List (Nat × Word)
  peak : List (Nat × Nat)
  /-- Element codes and B8 codes after conversion. -/
  codes : List (Nat × Nat)
  scales : List (Nat × Nat)
  /-- Coarse scale in force for the step (R258). -/
  coarse : Word
  /-- Running maximum and counts (R259, R261). -/
  mRun : Word
  sat : Nat
  under : Nat
  invalid : Nat
  blocks : Nat
  /-- K8 codes under the array-input rule of K4 for a shifted consumer (R295). -/
  wide : Bool
  /-- A rescale repeat, a shift repeat has run this step (R262, R294). -/
  rescaled : Bool
  reshifted : Bool
  /-- Contributions to a gradient tensor by place of use, added in use order when all are there, and how many it still
  awaits (R328). -/
  parts : List (Nat × List (Nat × Word))
  awaits : Nat
  /-- The tensor has passed R261. -/
  ready : Bool
  deriving DecidableEq, Repr

/-- Kinds of strand (R154, R317). -/
inductive StrandKind where
  /-- Forward through a logical tile. -/
  | forward (tile : Nat)
  /-- Digital-resident forward of one 512-column block. -/
  | engine (block : Nat)
  /-- Backward products of one of the layer's tiles and one slice. -/
  | dX (tile slice : Nat)
  | dW (tile slice : Nat)
  /-- Backward of kinds 1 to 3. -/
  | back (slice : Nat)
  deriving DecidableEq, Repr

/-- A strand of a context's step in a slot or waiting for one (R154, R155). -/
structure Strand where
  id : Nat
  step : Nat
  layer : Nat
  kind : StrandKind
  course : Nat
  vec0 : Nat
  count : Nat
  issued : Bool
  /-- Its results are discarded when it ends (R262, R294, R297). -/
  dead : Bool
  /-- Residue repeat in progress (R310). -/
  again : Bool
  /-- Pieces of an engine strand's work that have ended (R154, R308), vectors of a forward strand that have issued. -/
  piece : Nat
  ran : Nat
  /-- Version-bit snapshot: rows whose bit was set at issue (R323). -/
  snapshot : List Nat
  deriving DecidableEq, Repr

/-- Norm watch state of a layer or block (R290 to R296). -/
structure Watch where
  layer : Nat
  block : Nat
  fwdAvg : Word
  gradAvg : Word
  fwdL : Word
  gradL : Word
  fwdCount : Nat
  gradCount : Nat
  fwdShift : Bool
  gradShift : Bool
  clean : Nat
  shiftUps : Nat
  /-- Triggered in this step. -/
  hit : Bool
  /-- The step's forward norm, its gradient norm has entered its average (R291). -/
  fwdSeen : Bool
  gradSeen : Bool
  deriving DecidableEq, Repr

/-- A trained element of the pannier share (R333, R334): master and moments. -/
structure Elem where
  master : Word
  m1 : Word
  m2 : Word
  deriving DecidableEq, Repr

/-- The header of a row record of a placed tile (R334): the step whose targets were last written and
the writes made for this context. Record words are in `Tile`, masters and moments in `Elem`. -/
structure RowRec where
  tile : Nat
  row : Nat
  lastStep : Nat
  writes : Nat
  deriving DecidableEq, Repr

/-- An exchange item held by an owner or a receiver (R377, R385). -/
structure Item where
  src : Nat
  step : Nat
  cls : Nat
  item : Nat
  attempt : Nat
  data : List Byte
  deriving DecidableEq, Repr

/-- A named item attempt (R385). -/
structure ItemRef where
  src : Nat
  step : Nat
  item : Nat
  attempt : Nat
  deriving DecidableEq, Repr

/-- The exchange table as read (R373) and the exchange state of a context (R382 to R387). The residual of the top-k path
(R378) lies in the region that the table names. -/
structure Exchange where
  group : Nat
  topK : Bool
  kshift : Nat
  data : List Nat
  norm : List Nat
  /-- Tensor id, peer position, true for receive. -/
  links : List (Nat × Nat × Bool)
  /-- Items sent at their latest attempt, `src` naming the destination (the own position for a shard that is kept), and
  the attempts retracted or replaced: step, class, item, attempt. -/
  sent : List Item
  past : List (Nat × Nat × Nat × Nat)
  /-- Items received and not yet committed, attempts retracted by their senders. -/
  held : List Item
  retracted : List ItemRef
  /-- Seals received: source position, step, class. -/
  seals : List (Nat × Nat × Nat)
  /-- Seals that have left: destination, step, class (R383). -/
  sealed : List (Nat × Nat × Nat)
  /-- Members that refused once, and members no longer sent to: position and step. -/
  refused : List (Nat × Nat)
  stopped : List (Nat × Nat)
  /-- Committed shards gathered: bucket, owner, step; norm partials: position, step, value. -/
  gathered : List (Nat × Nat × Nat)
  partials : List (Nat × Nat × Word)
  /-- Keystone count at the own seal (0x6010.0B). -/
  sealedAt : Nat
  deriving DecidableEq, Repr

/-- A step whose gradient this member commits (R343, R377, R381): the values gathered by gradient vector
index, whether all are held, S of the norm once it is known, whether the own partial has left. -/
structure Commit where
  step : Nat
  grad : List (Nat × Word)
  whole : Bool
  sum : Option Word
  partialSent : Bool
  deriving DecidableEq, Repr

/-- The update engine's state of one context (R336 to R346). -/
structure Updater where
  /-- The update table as read at LOADED or at the latest leave of HOLD (R336). -/
  table : List Byte
  /-- Update of the oldest commit in progress (R343). -/
  running : Bool
  /-- Keystone count at the update's start. -/
  since : Nat
  deriving DecidableEq, Repr

/-- A context that is not FREE, beside its dictionary registers (R139). -/
structure Ctx where
  n : Nat
  half : HalfId
  /-- The state entry (R140): 1 OPEN to 7 FAULT. -/
  state : Nat
  confidential : Bool
  /-- Bound session and the bound requester's key digest (R468). -/
  session : Option Nat
  requester : List Byte
  /-- What measurement block 0x10 says of the context since it was bound or LOADED (R465). -/
  facts : List Byte
  /-- Memory key drawn at OPEN (R453, R469). -/
  memKey : BitVec 512
  layers : List Layer
  decls : List TensorDecl
  /-- Tensors of the program, spill list. -/
  tensorCount : Nat
  spill : List Nat
  /-- Logical tile address words in placement order (R151). -/
  tiles : List Nat
  /-- Placement has passed its checks and runs (R151). -/
  placing : Bool
  /-- The residency of the placement under way has been decided, and the final status that it has come to (R151). -/
  placed : Bool
  placeStatus : Nat
  /-- HOLD was left: the update and exchange tables are still to be read anew (R336, R373). -/
  reread : Bool
  /-- Phase of the step: 0 not built, 1 forward, 2 backward. -/
  phase : Nat
  /-- Strands waiting for a slot, strands holding a slot. -/
  todo : List Strand
  slots : List Strand
  nextStrand : Nat
  /-- The builder waits at its next strand: no slot is free for it (R155). -/
  waits : Bool
  /-- Records of the step's forward strands with their snapshots, until dX has read them (R323). -/
  snaps : List Strand
  /-- No new strand issues; HOLD when the strands in flight end (R141, R142). -/
  stopAsked : Bool
  /-- Pending host requests: HOLD and DONE (R141), hold at the seal (R28), release (R144, R145). -/
  wantHold : Bool
  wantDone : Bool
  holdAtSeal : Bool
  releasing : Bool
  resetting : Bool
  /-- Run of the step, units that failed in each run of it (R384), and whether a check has failed in
  this run. -/
  attempt : Nat
  failedUnits : List (Nat × Word)
  stepFailed : Bool
  /-- Physical units the step has issued strands on (R412). -/
  used : List Nat
  tensors : List Tensor
  /-- Results of the step's layers in tiles that have left their finishers' rings (R282): tensor, row, block. -/
  drained : List (Nat × Nat × Nat)
  watches : List Watch
  /-- History entries of gradient tensors (R258), key 16 × tensor id + slot (assumption 24). -/
  gradHist : List (Nat × Word)
  /-- Layers that triggered in the step, storm repeat in progress, last storm step (R297, R298). -/
  triggers : List Nat
  stormRepeat : Bool
  lastStorm : Nat
  /-- Rescale repeats in the step (R288). -/
  rescales : Nat
  /-- Pannier share (R333): elements by gradient vector index, row record headers. -/
  elems : List (Nat × Elem)
  rows : List RowRec
  /-- Own gradient: dW sums by gradient vector index (R321, R374), layers whose dW has left. -/
  dW : List (Nat × Word)
  dWDone : List Nat
  /-- Layers of a tie group whose dW waits for the group's other places of use (R328). -/
  dWParts : List (Nat × List (Nat × Word))
  /-- dX scratch: what the dX strands of tiles formed, by layer, tile and slice (R319). -/
  scratch : List ((Nat × Nat × Nat) × List (Nat × Word))
  /-- The step's dX of array layers reads the weight copy (flags bit 3 as the step began, R326); the mask regions of the
  layers as LOADED or the last leave of HOLD read them (R329). -/
  viaCopy : Bool
  masks : List (List Byte)
  /-- Buckets already sent in the step (R374). -/
  buckets : List Nat
  /-- The own seal of the step has been sent (R142). -/
  ownSeal : Bool
  /-- Stream: last producer count and end mark (R157 to R159). -/
  producer : Nat
  ended : Bool
  exchange : Option Exchange
  /-- Steps committed or being committed whose update is not over, oldest first. -/
  commits : List Commit
  upd : Updater
  /-- Ledger of the step: conversions per tile in issue order (R289), coefficient sets at the strand
  boundaries, products, zero-skips, transients and faults. -/
  ledgerCodes : List (Nat × Int × Int)
  ledgerCoeff : List (Nat × List Byte)
  ledgerCounts : List Nat
  /-- Step of the newest ledger entry (R480), whether it stands for the run of the step in progress, and the chain before
  it (R288). -/
  ledgerStep : Nat
  ledgerDone : Bool
  ledgerPrev : List Byte
  /-- Step whose copy streams with the update in progress, the copy that awaits its trailer, the step
  whose trailer has left and whose receipt has not come (R400, R403). -/
  copyStep : Option Nat
  copyWait : Option (Nat × Nat × List Byte)
  copySent : Option Nat
  /-- The record that drafting needs a spare has been logged (R398). -/
  draftWarned : Bool
  /-- A sent-back copy as it arrives (R407). -/
  restore : Option (List (Nat × Byte))
  /-- Losses of the steps sealed whose update is not over (R401), draws of the context (R270). -/
  losses : List (Nat × Word × Nat)
  draws : Nat
  /-- Energy events since the last reconciliation (R446), in pJ. -/
  energy : Nat
  /-- Loss of the step in progress (R401). -/
  loss : Word
  deriving DecidableEq, Repr

/-! ### Tiles, courses and spokes -/

/-- A queued or running row of a transfer pass (R345, R347). -/
structure RowJob where
  ctx : Nat
  row : Nat
  step : Nat
  /-- Element 0 to 543: target grid count. -/
  targets : List (Nat × Int)
  carry : List Nat
  deriving DecidableEq, Repr

/-- A result waiting in a tile's output ring (R214): context, layer, vector, first column, FP32
values before stage 7, bytes it occupies, suspect mark. -/
structure OutVec where
  ctx : Nat
  layer : Nat
  vec : Nat
  /-- First output column, and the FP32 values before stage 7. -/
  col0 : Nat
  values : List Word
  pre : List Word
  peak : List Nat
  /-- Codes and B8 codes of stage 7. -/
  codes : List Nat
  scales : List Nat
  bytes : Nat
  suspect : Bool
  partialOut : Bool
  deriving DecidableEq, Repr

/-- A partial held in the partial ring (R208, R214). -/
structure PartialVec where
  ctx : Nat
  vec : Nat
  row : Nat
  values : Option (List Word)
  suspect : Bool
  deriving DecidableEq, Repr

/-- A partial on its way over the mortar (R208): the logical tile of its finisher, and what the finisher will hold. -/
structure MortarVec where
  finisher : Nat
  vec : PartialVec
  deriving DecidableEq, Repr

/-- One input vector of a tile (R214): its context, layer and number, its K4 or K8 element codes,
its 32 row-group exponent codes, the coarse scale, and whether it is wide (R295). -/
structure InVec where
  ctx : Nat
  layer : Nat
  vec : Nat
  codes : List Nat
  groups : List Nat
  coarse : Word
  wide : Bool
  deriving DecidableEq, Repr

/-- A vector in the surround that has not left in order (R206): per slice its corrected sums and
whether a group failed its check. -/
structure Flight where
  vec : InVec
  sums : List (List Word)
  bad : List Bool
  suspect : Bool
  deriving DecidableEq, Repr

/-- A weight column that gives way to spares (R228): its group, its place in the group, and the context whose step must
first have sealed, with that step. -/
structure SwapDue where
  group : Nat
  column : Nat
  owner : Option (Nat × Nat)
  deriving DecidableEq, Repr

/-- One physical tile, spares included, beside its dictionary registers. Cells and targets are
sparse; an unlisted cell is at its pattern in a reference row, else at level 0. -/
structure Tile where
  /-- Physical tile address word (R12). -/
  addr : Nat
  /-- Cell levels by physical row × 2,240 + physical column (R165, R171, R172). -/
  cells : List (Nat × Nat)
  /-- Rows whose first write-verify failed and that are written once more (R176), with the columns that missed. -/
  failedRows : List (Nat × List Nat)
  /-- Read-back of each weight row as last verified: element key row × 544 + element, in 1/512
  of a major level. -/
  measured : List (Nat × Int)
  /-- Swizeoth's record words (R335), key row × 544 + element. -/
  records : List (Nat × Word)
  /-- Program counts committed to the counter cells per physical row (R177); the retention flops
  hold the increments in between. -/
  stored : List (Nat × Nat)
  unusable : Bool
  programming : Bool
  inRing : List InVec
  outRing : List OutVec
  partials : List PartialVec
  /-- Vectors under repeat and held behind it, in vector order (R205, R206). -/
  flight : List Flight
  /-- Pooling accumulator: values of the open window (R211). -/
  pool : List OutVec
  /-- A write waits in the pending coefficient set (R200). -/
  dirty : Bool
  /-- Checksum thresholds t_a and t_c in force (R216). -/
  limits : Nat × Nat
  /-- Count at which the calibration product in progress started (R202); one that was aborted starts again at the
  tile's next gap. -/
  calProduct : Option Nat
  calAgain : Bool
  /-- Count at which the tile last issued a forward vector (R234). -/
  lastForward : Option Nat
  /-- Counts at which the tile issued its latest products, newest first, at most 64 (R438). -/
  issues : List Nat
  /-- The tile retires once the strands issued to it have ended (R187, R188). -/
  doomed : Bool
  /-- Version bits, bank pointers (R323). -/
  version : List Nat
  pointer : List Nat
  /-- Shadow banks: key bank × 524,288 + row × 512 + column to K8 code; B8 by bank, row, block. -/
  shadow : List (Nat × Nat)
  shadowB8 : List (Nat × Nat)
  /-- Transfer queue, rows of the next pass, the pass in progress, rows written in the pass. -/
  queue : List RowJob
  nextQueue : List RowJob
  inPass : Bool
  paused : Bool
  written : List Nat
  /-- Rows the tile still writes before the next forward strand issues (R348). -/
  owed : Nat
  /-- Column scales and biases loaded at placement by column (R207, R344). -/
  sCol : List (Nat × Word)
  bias : List (Nat × Word)
  actTable : List (Word × Word)
  /-- Consecutive low governor windows (R350). -/
  lowWindows : Nat
  /-- Groups with accepted coefficients since state 0, and groups that await a column swap (R228, R230). -/
  accepted : List Nat
  swapDue : List SwapDue
  plumbDueAt : Nat
  deriving DecidableEq, Repr

/-- A spoke of a half, 0 to 15 external, 16 its tie spoke, beside 0x6003 (R362, R370, R474). -/
structure Spoke where
  half : HalfId
  num : Nat
  /-- Frames queued for the port, sent frames not yet acknowledged (R362). -/
  queue : List Frame
  replay : List Frame
  /-- Credits per VC (R362). -/
  credits : List Nat
  /-- The peer, or a frame from it, has carried this half's own position (R370). -/
  conflict : Bool
  /-- The link keys of the last authentication are held (R474). -/
  linkKey : Bool
  /-- A retrain has been asked for (R368). -/
  again : Bool
  deriving DecidableEq, Repr

/-- End-to-end receive state of one source and VC (R363). -/
structure Lane where
  half : HalfId
  src : Nat
  vc : Nat
  next : Nat
  early : List Frame
  /-- A gap timed out: delivery resumes at the next frame to arrive. -/
  resume : Bool
  deriving DecidableEq, Repr

/-- A receiver slot's buffers (R402): state 0 empty, 1 writing, 2 secured, with the step and the
bytes received. -/
structure SlotBuf where
  half : HalfId
  slot : Nat
  buf : Nat
  state : Nat
  step : Nat
  bytes : List (Nat × Byte)
  deriving DecidableEq, Repr

/-- Arbitration memory of a shared unit (R156). -/
structure Arb where
  unit : Nat
  credits : List Nat
  last : List Nat
  deriving DecidableEq, Repr

/-- Spares and replacements (R13 to R16): logical tile or course to physical, absent logical
addresses, units marked unusable. -/
structure Fabric where
  /-- Logical tile word served by another physical tile word. -/
  tileMap : List (Nat × Nat)
  /-- Half × 64 + logical course served by the spare course. -/
  courseMap : List Nat
  /-- Absent logical tile words; courses absent as a whole, half × 64 + course. -/
  absent : List Nat
  absentCourses : List Nat
  /-- Unusable physical tile words; spare courses unusable, by half. -/
  unusable : List Nat
  deadSpareCourse : List Nat
  /-- Temporary relocations: logical word, physical spare serving for one step (R511). -/
  relocated : List (Nat × Nat)
  deriving DecidableEq, Repr

/-! ### Security and records -/

/-- A secured SPDM session (R464, R467, R468). -/
structure Session where
  id : Nat
  path : Path
  requester : List Byte
  mutAuth : Bool
  /-- The requester's chain is rooted in the installed owner root. -/
  rooted : Bool
  tspFn : Option Fn
  keys : Nat
  deriving DecidableEq, Repr

/-- One held peloton key (R471). -/
structure PKey where
  epoch : Nat
  key : List Word
  /-- Installed while the half held its present position (R473). -/
  current : Bool
  deriving DecidableEq, Repr

/-- Peloton keys of one half. -/
structure PKeys where
  prev : Option PKey
  cur : Option PKey
  next : Option PKey
  deriving DecidableEq, Repr

/-- Security state of the keystone beside 0x9000 to 0x9080. -/
structure Security where
  sessions : List Session
  entropyOk : Bool
  /-- Keys of enabled receiver slots (R453), by half × 16 + slot. -/
  slotKeys : List (Nat × BitVec 512)
  /-- Sealing slots: slot and key words (R453, R486). -/
  sealKeys : List (Nat × List Word)
  pk0 : PKeys
  pk1 : PKeys
  /-- Owner root point as written (R467). -/
  ownerRoot : List Byte
  statement : List Byte
  /-- Debug enables seen since cold power-on (R465 block 8). -/
  debugSeen : Nat
  /-- Bottom tree that is ready (R462). -/
  treeReady : Nat
  /-- Remainder at the last warning (R463). -/
  warnAt : Nat
  /-- Residual cells and command word of the sanitize in progress (R478, R479). -/
  sanitizing : Option (Nat × Nat)
  deriving DecidableEq, Repr

/-- An event record, by the fields of R417. -/
structure Record where
  code : Nat
  cls : Nat
  level : Nat
  flags : Nat
  unit : Nat
  seq : Nat
  stamp : Nat
  step : Nat
  ctx : Nat
  position : Nat
  risk : Nat
  status : Nat
  obj : Nat
  detail : List Byte
  deriving DecidableEq, Repr

/-- A trace ring entry (R512): a dictionary write or an event record, with its timestamp. -/
inductive TraceRec where
  | wrote (index sub : Nat) (words : List Word) (stamp : Nat)
  | logged (r : Record)
  deriving DecidableEq, Repr

/-- Outputs of the connectors J4 to J8 (R37, R38): THERM_N, CLKOBS, the spoke transmitters of a half. -/
inductive Pin where
  | thermN
  | clkobs
  | spokes (h : HalfId)
  deriving DecidableEq, Repr

/-- What drives an output: nothing (R46), a level, a clock of a CLKOBS source code and divider (R103), the half's hub. -/
inductive Drive where
  | floats
  | low
  | clock (source divider : Nat)
  | driven
  deriving DecidableEq, Repr

/-- A response frame (R119): echo of the request's word 0, tag, status, ticket, hint and payload; on a spoke, the flags
of the frame that carries it (R360, R369). -/
structure Reply where
  echo : Word
  tag : Nat
  status : Nat
  ticket : Nat
  hint : Nat
  payload : List Word
  flags : Nat
  deriving DecidableEq, Repr

/-- What the part puts on its interfaces. -/
inductive Out where
  /-- Response frame of a dictionary request (R119). -/
  | reply (path : Path) (r : Reply)
  /-- Bytes of a domain read (R120). -/
  | bytes (path : Path) (tag : Nat) (data : List Byte)
  /-- BAR0 or BAR2 read completion, completer abort. -/
  | completion (value : BitVec 64)
  | abort
  /-- Configuration request outcomes (R496). -/
  | retryStatus
  | cfgValue (value : Word)
  /-- MSI-X signal. -/
  | msix (fn : Fn) (vector : Nat)
  /-- CXL.mem completions. -/
  | memData (data : List Byte) (poison : Bool)
  | memDone
  /-- Answer to a host snoop: data if held. -/
  | snoopAnswer (data : Option (List Byte))
  /-- Back-invalidate snoop sent. -/
  | bisnp (h : HalfId) (line : Nat)
  /-- A D2H request of a half goes out on the link (R68, R70, R157, R158). -/
  | d2h (h : HalfId) (r : D2HReq)
  /-- What leaves a tile's output ring over the mortar (R214). -/
  | drained (tile : Nat) (v : OutVec)
  /-- MCTP control and I3C answers, SPDM answers. -/
  | mctp (kind : Nat) (values : List Nat)
  | spdm (kind : Nat) (id : Nat) (data : List Byte)
  | spdmError (code : Nat)
  /-- The identity words that a spoke's lanes 0 to 4 repeat in phase L2 of a training (R364). -/
  | identity (half : HalfId) (spoke : Nat) (words : List Word)
  /-- A frame sent by a hub on a port: 0 to 15 external spoke, 16 tie (R371). -/
  | frame (half : HalfId) (port : Nat) (f : Frame)
  /-- A frame delivered at its destination half (R363); what it brings arrives as a command of its own. -/
  | delivered (half : HalfId) (f : Frame)
  /-- A receipt for a secured copy, to the source position (R403). -/
  | receipt (half : HalfId) (dest group step : Nat)
  /-- A negative acknowledgement to the far end of a spoke (R362). -/
  | nak (half : HalfId) (spoke : Nat)
  /-- Retract, seal and other control items handed to the hub for a position (R384, R383). -/
  | item (ctx dest cls step item attempt : Nat) (data : List Byte)
  /-- Bytes of a drafting copy from a byte position on, for a position's slot or context (R399). -/
  | copy (half : HalfId) (dest group step pos : Nat) (data : List Byte)
  /-- Event record delivered to a function's CXL log (R418). -/
  | record (fn : Fn) (r : Record)
  /-- General Media Event record in a function's Failure log: an uncorrectable error at a byte of its HDM range (R418). -/
  | mediaEvent (fn : Fn) (offset : Nat)
  /-- An output is driven anew or floats (R46 to R49). -/
  | pin (p : Pin) (d : Drive)
  /-- I3C hot-join and in-band interrupt (R51). -/
  | hotJoin
  | inBandInterrupt
  deriving DecidableEq, Repr

/-- The machine. -/
structure State where
  /-- Dictionary registers: key unit × 2^24 + index × 2^8 + sub-index, to one word. -/
  dict : List (Nat × Word)
  key : Keystone
  sup : Supply
  half0 : HalfCtl
  half1 : HalfCtl
  port : Port
  svc : Service
  ctxs : List Ctx
  tiles : List Tile
  fabric : Fabric
  spokes : List Spoke
  lanes : List Lane
  slotBufs : List SlotBuf
  arbs : List Arb
  /-- Partials in transit, oldest first (R208). -/
  mortar : List MortarVec
  sec : Security
  /-- Sequence numbers per unit word (R98). -/
  seqs : List (Nat × Nat)
  /-- CPER log (R418), trace ring (R512), converter captures per half, CXL event logs are outputs. -/
  cper : List Record
  trace : List TraceRec
  capture0 : List (Int × Int)
  capture1 : List (Int × Int)
  /-- HBM of each half (R8), by HDM byte offset. -/
  hbm0 : List Host.Cell
  hbm1 : List Host.Cell
  /-- Messages for other positions that wait until the half may send (R472, R473), with their bytes. -/
  unsent : List (HalfId × Nat × Out)
  /-- Messages put on the interfaces, oldest first. The model's own. -/
  out : List Out
  /-- Counter of free values drawn. The model's own. -/
  free : Nat
  /-- Commands waiting, first in first out. -/
  pending : List Instr
  deriving DecidableEq, Repr

/-- A half before power. -/
def HalfCtl.cold : HalfCtl :=
  { phase := .off, lastBeat := 0, copy := 0, believed := 0, unread := [], lastGrant := 700,
    confirmed := false, awaitSplit := false, crawlThermal := false, crawlFence := false,
    cadP := 64, cadT := 64, droop := [], byReset := false, storm := false, memActive := false, repairs := [],
    tier1 := [], riskSeen := [], calDeferred := false,
    calWord := 0, calZero := [], zeroMean := 0, calFull := [], fullMean := 0, calStart := false, updates := [], memKey := 0 }

/-- A function before power. -/
def FnState.cold : FnState :=
  { cfg := [], d3hot := false, decCommitted := false, decBase := 0, decError := false,
    tspLocked := false, msix := [], regs := [] }

/-- The firmware image a slot holds at delivery: it verifies, at security version 0. -/
def Image.factory (component half : Nat) : Image :=
  { component := component, half := half, security := 0, release := 0, advance := false,
    digest := [], valid := true, raw := [] }

/-- The five components in the bit order of 0x9001.0A. -/
def Image.factorySlots : List Image :=
  [Image.factory 0 0, Image.factory 1 0, Image.factory 2 0, Image.factory 1 1, Image.factory 2 1]

def Keystone.cold : Keystone :=
  { powered := false, window := none, hostHeld := [], half0Late := false, starting := false,
    completed := [], startedAt := 0, waiting := none, atS4 := false, slotA := Image.factorySlots,
    slotB := Image.factorySlots, staged := none, recovery := [], commit := none,
    trans := none, resetHeld := none, epochLimitLogged := false }

def Port.cold : Port :=
  { f0 := FnState.cold, f1 := FnState.cold, f2 := FnState.cold, cache := [],
    d2h0 := [], d2h1 := [], d2hTurn := .h0, d2hLeft := 0, dir0 := [], dir1 := [],
    snoops := [], poisoned := [], ideKeys := [], idePending := [], ideFailed := [], resetError := false, shadow := [],
    shadowSeq := 0, vectors := [] }

def Service.cold : Service :=
  { latches := [], stagings := [], domWrites := [], snapshots := [], tickets := [],
    nextTicket := 1, eid := 0, i3cAddr := 0 }

def PKeys.empty : PKeys := { prev := none, cur := none, next := none }

def Security.cold : Security :=
  { sessions := [], entropyOk := true, slotKeys := [], sealKeys := [], pk0 := PKeys.empty, pk1 := PKeys.empty,
    ownerRoot := [], statement := [], debugSeen := 0, treeReady := 0, warnAt := 2 ^ 30,
    sanitizing := none }

def Fabric.cold : Fabric :=
  { tileMap := [], courseMap := [], absent := [], absentCourses := [], unusable := [], deadSpareCourse := [],
    relocated := [] }

/-- The part before its first cold power-on: no supply, the keystone off (R40), every register at
its default, every store empty. -/
def State.reset : State :=
  { dict := [], key := Keystone.cold,
    sup := { alertLow := false, alertHigh := false, switchOpen := false, reverseCell := false,
             pwrbrk := false },
    half0 := HalfCtl.cold, half1 := HalfCtl.cold, port := Port.cold, svc := Service.cold,
    ctxs := [], tiles := [], fabric := Fabric.cold, spokes := [], lanes := [], slotBufs := [],
    arbs := [], mortar := [], sec := Security.cold, seqs := [], cper := [], trace := [], capture0 := [],
    capture1 := [], hbm0 := [], hbm1 := [], unsent := [], out := [], free := 0,
    pending := [] }

end Sys2Proof.Machine
end

