-- ==== Sys2Proof/Machine/Ops.lean ====
section
/-! DEFINITION. Named operations that the commands share: the sparse store, dictionary registers,
halves and tiles, interface messages, event records, tickets, memory, what a reset keeps. -/

namespace Sys2Proof.Machine

open Sys2Proof

/-! ### Sparse stores in canonical form -/

/-- Value at a key; an unlisted key reads as the default. -/
def Sparse.get {α : Type} (d : Nat → α) : List (Nat × α) → Nat → α
  | [], k => d k
  | (a, v) :: r, k => if a = k then v else Sparse.get d r k

/-- A store without a key. -/
def Sparse.erase {α : Type} (m : List (Nat × α)) (k : Nat) : List (Nat × α) :=
  m.filter (fun e => decide (e.1 ≠ k))

/-- Puts an entry at its place in a store that does not list the key. -/
def Sparse.insert {α : Type} : List (Nat × α) → Nat → α → List (Nat × α)
  | [], k, v => [(k, v)]
  | (a, x) :: r, k, v => if k < a then (k, v) :: (a, x) :: r else (a, x) :: Sparse.insert r k v

/-- Writes a key; a value equal to the default leaves no entry. -/
def Sparse.set {α : Type} [DecidableEq α] (d : Nat → α) (m : List (Nat × α)) (k : Nat) (v : α) :
    List (Nat × α) :=
  if v = d k then Sparse.erase m k else Sparse.insert (Sparse.erase m k) k v

/-- Returns the keys that `p` names to their default. -/
def Sparse.drop {α : Type} (p : Nat → Bool) (m : List (Nat × α)) : List (Nat × α) :=
  m.filter (fun e => !p e.1)

/-- Keys strictly rise from a lower bound. -/
def Sparse.above {α : Type} : Nat → List (Nat × α) → Bool
  | _, [] => true
  | b, (a, _) :: r => decide (b ≤ a) && Sparse.above (a + 1) r

/-- The canonical form: keys strictly rising, no entry equal to the default. -/
def Sparse.wf {α : Type} [DecidableEq α] (d : Nat → α) (m : List (Nat × α)) : Bool :=
  Sparse.above 0 m && m.all (fun e => decide (e.2 ≠ d e.1))

/-! ### Bytes and words -/

/-- A word's bytes, low byte first (R108). -/
def wordBytes (w : Word) : List Byte :=
  [w.extractLsb' 0 8, w.extractLsb' 8 8, w.extractLsb' 16 8, w.extractLsb' 24 8]

/-- The number that bytes spell, low byte first. -/
def bytesNat : List Byte → Nat
  | [] => 0
  | b :: r => b.toNat + 256 * bytesNat r

/-- `n` bytes of a number, low byte first. -/
def natBytes : Nat → Nat → List Byte
  | 0, _ => []
  | n + 1, v => BitVec.ofNat 8 v :: natBytes n (v / 256)

/-- The words that bytes spell (R108), the last padded with zeros. -/
def bytesWords : List Byte → List Word
  | [] => []
  | [a] => [toWord (bytesNat [a])]
  | [a, b] => [toWord (bytesNat [a, b])]
  | [a, b, c] => [toWord (bytesNat [a, b, c])]
  | a :: b :: c :: d :: r => toWord (bytesNat [a, b, c, d]) :: bytesWords r

/-- Bit `i` of a word. -/
def bit (w : Word) (i : Nat) : Bool := w.getLsbD i

/-- A number with bit `i` made `b`. -/
def putBit (n i : Nat) (b : Bool) : Nat :=
  n - n / 2 ^ i % 2 * 2 ^ i + (if b then 2 ^ i else 0)

/-! ### The catalogue -/

/-- Every defined index of the dictionary (R520). The 3,072 context objects share the row of
0x8000. -/
def catalogue : List Obj := objectsModule ++ objectsArray ++ objectsWork

/-- An index of the context range stands for 0x8000 (R139). -/
def baseIndex (i : Nat) : Nat := if 0x8000 ≤ i ∧ i ≤ 0x8BFF then 0x8000 else i

def findObj (i : Nat) : Option Obj := catalogue.find? (fun o => o.index == baseIndex i)

/-- The row of the object that a sub-index starts, or else continues. Two rows of 0x9070 stand within the span of a
third (R491): each is reached at its own start (assumption 33). -/
def Obj.row (o : Obj) (sub : Nat) : Option Row :=
  match o.rows.find? (fun r => r.sub == sub) with
  | some r => some r
  | none => o.rows.find? (fun r => decide (r.sub ≤ sub ∧ sub < r.sub + r.words))

def findRow (i sub : Nat) : Option Row := (findObj i).bind (fun o => o.row sub)

/-- The key of a dictionary word: instance behind the selectors, 16-bit index, 8-bit sub-index. -/
def dkey (u i sub : Nat) : Nat := (u * 2 ^ 16 + i % 2 ^ 16) * 256 + sub % 256

def keyIndex (k : Nat) : Nat := k / 256 % 2 ^ 16
def keySub (k : Nat) : Nat := k % 256
def keyUnit (k : Nat) : Nat := k / 2 ^ 24

/-- Default of word `j` of an object. -/
def Dflt.word (d : Dflt) (elem : Ty) (key j : Nat) : Word :=
  match d with
  | .val n => toWord (n / 2 ^ (32 * j))
  | .each n => toWord (n / 2 ^ (32 * (j % elem.words)))
  | .seq l => toWord (l.getD j 0)
  | .ramp => toWord j
  | .identity => if j % 16 % 5 = 0 then 0x3F800000 else 0
  | .impl bits => toWord ((Config.implWord key).toNat % 2 ^ bits)
  | .implIn l => toWord (l.getD ((Config.implWord key).toNat % l.length) 0)

/-- What an unlisted dictionary key reads as: the default of the object tables. -/
def dictDefault (k : Nat) : Word :=
  match findRow (keyIndex k) (keySub k) with
  | some r => r.dflt.word r.elem k (keySub k - r.sub)
  | none => 0

/-! ### Dictionary registers -/

def State.regAt (s : State) (u i sub : Nat) : Word := Sparse.get dictDefault s.dict (dkey u i sub)
def State.reg (s : State) (i sub : Nat) : Word := s.regAt 0 i sub
def State.valAt (s : State) (u i sub : Nat) : Nat := (s.regAt u i sub).toNat
def State.val (s : State) (i sub : Nat) : Nat := s.valAt 0 i sub
def State.val64At (s : State) (u i sub : Nat) : Nat :=
  s.valAt u i sub + 2 ^ 32 * s.valAt u i (sub + 1)
def State.val64 (s : State) (i sub : Nat) : Nat := s.val64At 0 i sub
def State.regsAt (s : State) (u i sub n : Nat) : List Word :=
  (List.range n).map (fun j => s.regAt u i (sub + j))

def State.putAt (s : State) (u i sub : Nat) (v : Word) : State :=
  { s with dict := Sparse.set dictDefault s.dict (dkey u i sub) v }
def State.put (s : State) (i sub n : Nat) : State := s.putAt 0 i sub (toWord n)
def State.put64At (s : State) (u i sub n : Nat) : State :=
  (s.putAt u i sub (toWord n)).putAt u i (sub + 1) (toWord (n / 2 ^ 32))
def State.put64 (s : State) (i sub n : Nat) : State := s.put64At 0 i sub n
/-- Writes consecutive words. -/
def State.putsAt (s : State) (u i : Nat) : Nat → List Word → State
  | _, [] => s
  | sub, w :: r => (s.putAt u i sub w).putsAt u i (sub + 1) r
/-- Adds to a counter (assumption 13: counters wrap where no rule says otherwise). -/
def State.addAt (s : State) (u i sub n : Nat) : State :=
  s.putAt u i sub (s.regAt u i sub + toWord n)
def State.bump (s : State) (i sub : Nat) : State := s.addAt 0 i sub 1
def State.bumpAt (s : State) (u i sub : Nat) : State := s.addAt u i sub 1
def State.add64At (s : State) (u i sub n : Nat) : State :=
  s.put64At u i sub (s.val64At u i sub + n)
def State.add64 (s : State) (i sub n : Nat) : State := s.add64At 0 i sub n
/-- Sets or clears one bit of a register. -/
def State.putBitAt (s : State) (u i sub b : Nat) (v : Bool) : State :=
  s.putAt u i sub (toWord (putBit (s.valAt u i sub) b v))
def State.putFlag (s : State) (i sub b : Nat) (v : Bool) : State := s.putBitAt 0 i sub b v
def State.flag (s : State) (i sub b : Nat) : Bool := bit (s.reg i sub) b
def State.flagAt (s : State) (u i sub b : Nat) : Bool := bit (s.regAt u i sub) b

/-- Returns the keys that `p` names to their default (R115). -/
def State.dropKeys (s : State) (p : Nat → Bool) : State := { s with dict := Sparse.drop p s.dict }

/-! ### Halves and functions -/

def halfNum : HalfId → Nat
  | .h0 => 0
  | .h1 => 1

def halfOf (n : Nat) : HalfId := if n % 2 = 1 then .h1 else .h0

def otherHalf : HalfId → HalfId
  | .h0 => .h1
  | .h1 => .h0

/-- The one of two things that belongs to a half: an index, a register. -/
def pick {α : Type} (h : HalfId) (a b : α) : α :=
  match h with
  | .h0 => a
  | .h1 => b

/-- Function of the host port that serves a half (R61). -/
def halfFn (h : HalfId) : Fn := pick h .f1 .f2

def State.half (s : State) (h : HalfId) : HalfCtl := pick h s.half0 s.half1

def State.setHalf (s : State) (h : HalfId) (c : HalfCtl) : State :=
  match h with
  | .h0 => { s with half0 := c }
  | .h1 => { s with half1 := c }

def State.modHalf (s : State) (h : HalfId) (f : HalfCtl → HalfCtl) : State :=
  s.setHalf h (f (s.half h))

/-- The half runs: its start is complete and its rails are on (R495). -/
def State.runs (s : State) (h : HalfId) : Bool := (s.half h).phase == .running

/-- The half's rails are on. -/
def State.railsOn (s : State) (h : HalfId) : Bool :=
  (s.half h).phase == .running || (s.half h).phase == .starting

/-- The asynchronous core may issue: not in Quiet or Retain, nor on the way into them from quiescence or out of them
(R428, R429, R431). -/
def State.awake (s : State) : Bool :=
  match s.key.trans with
  | none => s.val 0x1010 0x01 != 1 && s.val 0x1010 0x01 != 2
  | some t => (t.prev == 0 && !t.quiet) || t.prev == 3

/-- The halves are in Retain, on the way out of it, or have begun to enter it or Keystone-only: their objects are out
of reach (R428). While an entry or exit is under way this is read from the states it joins (assumption 58, DEDUCED). -/
def State.retained (s : State) : Bool :=
  match s.key.trans with
  | none => s.val 0x1010 0x01 == 2
  | some t => t.prev == 2 || (t.quiet && (t.target == 2 || t.target == 3))

/-- Holder of the lead: 0, 1 or 0xFF (R21). -/
def State.holder (s : State) : Nat := s.val 0x0040 0x01
/-- Epoch of the lead (R21). -/
def State.epoch (s : State) : Nat := s.val 0x0040 0x02
/-- Fence state of a half (R31). -/
def State.fence (s : State) (h : HalfId) : Nat := s.val 0x0041 (0x01 + halfNum h)
def State.setFence (s : State) (h : HalfId) (n : Nat) : State := s.put 0x0041 (0x01 + halfNum h) n
/-- The half is fenced (0x0041 reads 1 or 2). -/
def State.fenced (s : State) (h : HalfId) : Bool := s.fence h == 1 || s.fence h == 2

/-- Sets the holder and counts a change of its value (R21, 0x0040.06). -/
def State.setHolder (s : State) (n : Nat) : State :=
  if s.holder = n then s else (s.put 0x0040 0x01 n).bump 0x0040 0x06

/-- Keystone count as a timestamp (R96). -/
def State.count (s : State) : Nat := s.val64 0x1005 0x01

def State.fn (s : State) (f : Fn) : FnState :=
  match f with
  | .f0 => s.port.f0
  | .f1 => s.port.f1
  | .f2 => s.port.f2

def State.setFn (s : State) (f : Fn) (c : FnState) : State :=
  match f with
  | .f0 => { s with port := { s.port with f0 := c } }
  | .f1 => { s with port := { s.port with f1 := c } }
  | .f2 => { s with port := { s.port with f2 := c } }

/-! ### Tiles and their addresses (R2, R12 to R16) -/

def mkTile (h c t : Nat) : Nat := h * 65536 + c * 256 + t
def tileHalf (a : Nat) : Nat := a / 65536 % 2
def tileCourse (a : Nat) : Nat := a / 256 % 256
def tileNum (a : Nat) : Nat := a % 256

/-- A physical tile: course 0 to 32, tile 0 to 33. -/
def isPhysTile (a : Nat) : Bool :=
  decide (a < 2 ^ 17 ∧ tileCourse a ≤ 0x20 ∧ tileNum a ≤ 0x21)

/-- A logical tile: course 0 to 31, tile 0 to 31. -/
def isLogicalTile (a : Nat) : Bool :=
  decide (a < 2 ^ 17 ∧ tileCourse a ≤ 0x1F ∧ tileNum a ≤ 0x1F)

def lookup {α : Type} (l : List (Nat × α)) (k : Nat) : Option α :=
  (l.find? (fun e => e.1 == k)).map (·.2)

/-- Course key of a tile word: half × 64 + course. -/
def courseKey (a : Nat) : Nat := tileHalf a * 64 + tileCourse a

/-- The physical tile that answers to a logical address: a spare that serves it for a step (R511), the
unit its replacements name; none if absent (R15, R16). -/
def Fabric.phys (f : Fabric) (a : Nat) : Option Nat :=
  match lookup f.relocated a with
  | some p => some p
  | none =>
  if f.absent.contains a then none
  else match lookup f.tileMap a with
    | some p => some p
    | none =>
      if f.courseMap.contains (courseKey a) then some (mkTile (tileHalf a) 0x20 (tileNum a))
      else some a

/-- The logical address that a physical tile answers to; none for a free spare or an unusable or
replaced unit (R17). -/
def Fabric.logical (f : Fabric) (p : Nat) : Option Nat :=
  match f.relocated.find? (fun e => e.2 == p) with
  | some e => some e.1
  | none =>
  if f.unusable.contains p then none
  else match f.tileMap.find? (fun e => e.2 == p) with
    | some e => some e.1
    | none =>
      if tileNum p ≥ 0x20 then none
      else if tileCourse p = 0x20 then
        (f.courseMap.find? (fun k => k / 64 == tileHalf p)).bind (fun k =>
          let l := mkTile (tileHalf p) (k % 64) (tileNum p)
          if (lookup f.tileMap l).isSome || f.absent.contains l then none else some l)
      else if f.courseMap.contains (courseKey p) || (lookup f.tileMap p).isSome
          || f.absent.contains p then none
      else some p

/-- A tile with nothing in its buffers and every cell at level 0. -/
def Tile.blank (a : Nat) : Tile :=
  { addr := a, cells := [], failedRows := [], measured := [], records := [], stored := [], unusable := false, programming := false,
    inRing := [], outRing := [], partials := [], flight := [], pool := [], dirty := false,
    limits := (10, 24),
    calProduct := none, calAgain := false, lastForward := none, issues := [], doomed := false, version := [], pointer := [], shadow := [],
    shadowB8 := [], queue := [], nextQueue := [], inPass := false, paused := false, written := [], owed := 0,
    sCol := [], bias := [], actTable := [], lowWindows := 0, accepted := [], swapDue := [], plumbDueAt := 0 }

/-- A physical tile; one not listed is blank. -/
def State.tile (s : State) (p : Nat) : Tile :=
  (s.tiles.find? (fun t => t.addr == p)).getD (Tile.blank p)

def replaceBy {α : Type} (p : α → Bool) (x : α) : List α → List α
  | [] => [x]
  | a :: r => if p a then x :: r else a :: replaceBy p x r

def State.setTile (s : State) (t : Tile) : State :=
  { s with tiles := replaceBy (fun x => x.addr == t.addr) t s.tiles }

def State.modTile (s : State) (p : Nat) (f : Tile → Tile) : State := s.setTile (f (s.tile p))

/-- A sanitize in progress has the tile in its scope (R478). -/
def State.inSanitize (s : State) (p : Nat) : Bool :=
  match s.sec.sanitizing with
  | none => false
  | some (_, w) =>
    let h := bitsOf w 16 1 == tileHalf p
    match w / 2 ^ 28 with
    | 1 => h && bitsOf w 8 8 == tileCourse p && bitsOf w 0 8 == tileNum p
    | 2 => h && bitsOf w 8 8 == tileCourse p
    | 3 => h
    | _ => true

/-! ### Contexts -/

/-- Index of a context object (R139): 0x8000 to 0x8BFF. -/
def cidx (n : Nat) : Nat := 0x8000 + n % 3072

/-- A context that is not FREE. -/
def State.ctx (s : State) (n : Nat) : Option Ctx := s.ctxs.find? (fun c => c.n == n)

def State.setCtx (s : State) (c : Ctx) : State :=
  { s with ctxs := replaceBy (fun x => x.n == c.n) c s.ctxs }

/-- Changes a context; a FREE one stays FREE. -/
def State.modCtx (s : State) (n : Nat) (f : Ctx → Ctx) : State :=
  match s.ctx n with
  | some c => s.setCtx (f c)
  | none => s

/-- State code of a context (R140). -/
def State.ctxState (s : State) (n : Nat) : Nat :=
  match s.ctx n with
  | some c => c.state
  | none => 0

/-- The object's own registers name its instance; 0x4013 and 0x4014 leave that to another object (R218). -/
def Obj.selfNamed (o : Obj) : Bool :=
  match o.selectors.head? with
  | some e => e.1 == o.index
  | none => true

/-- Half a dictionary instance belongs to, by the object's owner code (R110, R521). -/
def State.keyHalf (s : State) (k : Nat) : Option HalfId :=
  match findObj (keyIndex k) with
  | none => none
  | some o =>
    let first := keyUnit k / 2 ^ (18 * (o.selectors.length - 1))
    let isOwn := match o.row (keySub k) with
      | some r => r.single
      | none => true
    match o.owner with
    | .half h => some h
    | _ =>
    if isOwn && o.selectors != [] then
      (match o.selectors.head? with
       | some e => if o.selfNamed then none else some (halfOf (s.val e.1 e.2 / 65536))
       | none => none)
    else match o.owner with
      | .keystone => none
      | .half h => some h
      | .tile | .course => some (halfOf (first / 65536))
      | .ctx => (s.ctx first).map (·.half)
      | .ctxObj => (s.ctx (keyIndex k - 0x8000)).map (·.half)
      | .half' => some (halfOf first)
      | .spoke => some (halfOf (first / 256))

/-- Persistence class of a dictionary word; a word outside the tables is kept. -/
def persistOf (k : Nat) : Persist :=
  match findRow (keyIndex k) (keySub k) with
  | some r => r.per
  | none => .p2

/-! ### Interfaces -/

def State.emit (s : State) (o : Out) : State := { s with out := s.out ++ [o] }

/-- Raises an MSI-X vector; it waits for its interval, folded with one already waiting (R80, R129,
R160). VECTOR_SIGNAL sends it. -/
def State.signal (s : State) (f : Fn) (v : Nat) : State :=
  if s.port.vectors.contains (f, v) then s
  else { s with port := { s.port with vectors := s.port.vectors ++ [(f, v)] } }

/-! ### Event records (R98, R417, R418) -/

/-- Physical unit words (R416). -/
def unitWord (kind sub place : Nat) : Nat := kind * 2 ^ 24 + sub * 2 ^ 17 + place
def unitTile (p : Nat) : Nat := unitWord 0x01 0 (p % 2 ^ 17)
def unitSlice (p sl : Nat) : Nat := unitWord 0x02 sl (p % 2 ^ 17)
def unitEngine (h c : Nat) : Nat := unitWord 0x03 0 (mkTile h c 0xFF)
def unitBuffer (h c : Nat) : Nat := unitWord 0x04 0 (mkTile h c 0xFF)
def unitHub (h : HalfId) : Nat := unitWord 0x06 0 (halfNum h * 65536)
def unitSpoke (h : HalfId) (sp : Nat) : Nat := unitWord 0x07 0 (halfNum h * 65536 + sp)
def unitSwizeoth (h : HalfId) : Nat := unitWord 0x09 0 (halfNum h * 65536)
def unitManager (h : HalfId) : Nat := unitWord 0x0B 0 (halfNum h * 65536)
def unitKeystone : Nat := unitWord 0x0C 0 0
def unitSupply : Nat := unitWord 0x0D 0 0

def unitKind (w : Nat) : Nat := w / 2 ^ 24

/-- Half of a physical unit; none for the keystone and the supply (R418). -/
def unitHalf (w : Nat) : Option HalfId :=
  if unitKind w = 0x0C ∨ unitKind w = 0x0D then none else some (halfOf (w / 65536))

/-- The emitting unit whose sequence number a record takes (R98). DEDUCED: a slice belongs to its
tile's surround, a course buffer to its engine, a spoke to its hub, memories and links to the half
manager, the pannier to its Swizeoth, the supply input to the keystone (assumption 14). -/
def emitterOf (w : Nat) : Nat :=
  let place := w % 2 ^ 17
  let h := halfOf (w / 65536)
  match unitKind w with
  | 0x01 => w
  | 0x02 => unitTile place
  | 0x03 => w
  | 0x04 => unitWord 0x03 0 place
  | 0x06 => w
  | 0x07 => unitHub h
  | 0x09 => w
  | 0x0A => unitSwizeoth h
  | 0x05 | 0x08 | 0x0B => unitManager h
  | _ => unitKeystone

/-- What an event record says beside what the state supplies. -/
structure Event where
  cls : Nat
  unit : Nat
  code : Nat := 0
  ctx : Nat := 0xFFFF
  step : Nat := 0
  status : Nat := 0
  obj : Nat := 0
  detail : List Byte := []

/-- Counting object of a record (R417). -/
def counter (i sub : Nat) : Nat := i * 65536 + sub * 256

def seqOf (s : State) (u : Nat) : Nat := Sparse.get (fun _ => 0) s.seqs u

/-- The unit is in the suspect table (R411, R425). -/
def State.suspect (s : State) (u : Nat) : Bool :=
  (List.range (s.val 0x7020 0x01)).any (fun j => s.valAt j 0x7020 0x03 == u)

/-- Counts since an earlier count; a duration saturates at 2^48 - 1 (R96). -/
def State.since (s : State) (t : Nat) : Nat := min (2 ^ 48 - 1) (s.count - t)

/-- The record an event makes now, stamped with its half's copy of the count (R97). -/
def State.recordOf (s : State) (e : Event) : Record :=
  let h := (unitHalf e.unit).getD .h0
  let own := (unitHalf e.unit).isSome
  { code := e.code, cls := e.cls,
    level := if own then s.val (pick h 0x7000 0x7001) 0x04 else 0,
    flags := (if own && s.fenced h then 1 else 0)
      + (if s.suspect e.unit then 2 else 0)
      + (if s.flag 0x7021 0x01 0 then 4 else 0),
    unit := e.unit, seq := seqOf s (emitterOf e.unit), stamp := if own then (s.half h).copy else s.count, step := e.step,
    ctx := e.ctx, position := if own then s.val (pick h 0x6000 0x6001) 0x01 else 0xFFFF,
    risk := if own then s.val (pick h 0x7000 0x7001) 0x01 else 0,
    status := e.status, obj := e.obj, detail := e.detail }

/-- The trace ring's capacity bounds it (R512): the oldest records leave first. -/
def traceCut (l : List TraceRec) : List TraceRec := l.drop (l.length - Config.traceCapacity)

/-- Puts an entry into the trace ring while the trace port is ready (R512). -/
def State.traceAdd (s : State) (t : TraceRec) : State :=
  if s.flag 0x1002 0x06 4 then
    { s with trace := traceCut (s.trace ++ [t]) }.add64 0xF030 0x02 1
  else s

/-- Keeps a record in the CPER log of 4,096 records (R418). -/
def State.cperAdd (s : State) (r : Record) : State :=
  if s.cper.length < 4096 then
    { s with cper := s.cper ++ [r] }.put 0x7040 0x01 (s.cper.length + 1)
  else { s with cper := s.cper.drop 1 ++ [r] }.bump 0x7040 0x03

/-- Vectors that a record of a class raises (R135, R160). -/
def State.recordSignal (s : State) (cls : Nat) (h : Option HalfId) : State :=
  let v := s.val 0x0013 (match cls with | 2 => 0x01 | 1 => 0x02 | _ => 0x03)
  if v = 0 then s
  else
    let s := s.signal .f0 v
    match h with
    | some h => s.signal (halfFn h) 0
    | none => s

/-- Logs an event record: it takes the unit's next sequence number, goes to the function's CXL
event log, the CPER log and the trace ring, and raises the vectors of its class. -/
def State.log (s : State) (e : Event) : State :=
  let r := s.recordOf e
  let u := emitterOf e.unit
  let s := { s with seqs := Sparse.set (fun _ => 0) s.seqs u ((seqOf s u + 1) % 2 ^ 32) }
  let s := s.emit (.record (match unitHalf e.unit with | some h => halfFn h | none => .f0) r)
  let s := s.cperAdd r
  let s := s.traceAdd (.logged r)
  s.recordSignal e.cls (unitHalf e.unit)

def clsInformation : Nat := 0
def clsWarning : Nat := 1
def clsFailure : Nat := 2

/-! ### Tickets and deferred writes (R116, R128, R129) -/

def State.ticketHeld (s : State) (n : Nat) : Bool := s.svc.tickets.any (fun t => t.num == n)

/-- The ticket number after `n`, skipping 0. -/
def ticketAfter (n : Nat) : Nat := if n ≥ 65535 then 1 else n + 1

/-- First number not held, from `n` on. -/
def State.freeTicket (s : State) : Nat → Nat → Nat
  | 0, n => n
  | k + 1, n => if s.ticketHeld n then s.freeTicket k (ticketAfter n) else n

/-- Number that the next ticket takes. -/
def State.nextTicketNum (s : State) : Nat := s.freeTicket 257 s.svc.nextTicket

/-- A 257th ticket is refused with 0x4002. -/
def State.ticketRoom (s : State) : Bool := decide (s.svc.tickets.length < 256)

/-- Issues a ticket for deferred work. -/
def State.issue (s : State) (w : Deferred) (est : Nat) (spoke : Option Nat) : State :=
  let n := s.nextTicketNum
  { s with svc := { s.svc with
      tickets := s.svc.tickets ++ [{ num := n, work := w, status := none, issuedTo := spoke,
                                     stamp := s.count, estimate := est }],
      nextTicket := ticketAfter n } }

/-- Object, sub-index and instance that deferred work holds pending (R128). -/
def Deferred.place : Deferred → Nat × Nat × Nat
  | .store i sub u _ => (i, sub, u)
  | .commitOnly i sub => (i, sub, 0)
  | .action i sub u => (i, sub, u)

/-- The pending deferred write of an object instance. -/
def State.pendingOn (s : State) (i sub u : Nat) : Option Ticket :=
  s.svc.tickets.find? (fun t => t.status.isNone && t.work.place == (i, sub, u))

/-- Remaining estimate of a pending write in µs, at most 0xFFFF (R119, R128). -/
def State.remaining (s : State) (t : Ticket) : Nat :=
  min 0xFFFF (t.estimate - (s.count - t.stamp) / 50)

/-- Ends a ticket with a final status and raises vector 1. -/
def State.endTicket (s : State) (n status : Nat) : State :=
  let done := s.svc.tickets.map (fun (t : Ticket) =>
    if t.num == n && t.status.isNone then { t with status := some status } else t)
  State.signal { s with svc := { s.svc with tickets := done } } .f0 1

/-- Ends the pending deferred write of an object instance, if there is one. -/
def State.endPending (s : State) (i sub u status : Nat) : State :=
  match s.pendingOn i sub u with
  | some t => s.endTicket t.num status
  | none => s

/-! ### Free values (assumption 6) -/

/-- The next free value. -/
def State.freeNext (s : State) : Word := Config.freeWord s.free
def State.freeSkip (s : State) (n : Nat) : State := { s with free := s.free + n }

/-! ### HBM -/

def byteDefault (_ : Nat) : Byte := 0

def State.hbm (s : State) (h : HalfId) : List Host.Cell := pick h s.hbm0 s.hbm1

def State.setHbm (s : State) (h : HalfId) (m : List Host.Cell) : State :=
  match h with
  | .h0 => { s with hbm0 := m }
  | .h1 => { s with hbm1 := m }

/-- Bytes of one half's HBM: 96 GiB (R8). -/
def hbmSize : Nat := 96 * 2 ^ 30

/-- One byte of HBM as software sees it. -/
def State.hbmByte (s : State) (h : HalfId) (a : Nat) : Byte := Sparse.get byteDefault (s.hbm h) a

/-- Bytes of HBM in ascending order. -/
def State.hbmRead (s : State) (h : HalfId) (a n : Nat) : List Byte :=
  (List.range n).map (fun j => s.hbmByte h (a + j))

/-- Stores bytes into a memory; bytes beyond the half's 96 GiB are not stored. -/
def memWrite (m : List Host.Cell) : Nat → List Byte → List Host.Cell
  | _, [] => m
  | a, b :: r =>
    memWrite (if a < hbmSize then Sparse.set byteDefault m a b else m) (a + 1) r

def State.hbmWrite (s : State) (h : HalfId) (a : Nat) (l : List Byte) : State :=
  s.setHbm h (memWrite (s.hbm h) a l)

/-- Lines written anew hold no poison. -/
def State.unpoison (s : State) (h : HalfId) (p : Nat → Bool) : State :=
  { s with port := { s.port with poisoned := s.port.poisoned.filter (fun e => !(e.1 == h && p e.2)) } }

/-- Zeroes a span. -/
def State.hbmZero (s : State) (h : HalfId) (a n : Nat) : State :=
  let s := s.unpoison h (fun l => decide (a ≤ l * 64 ∧ l * 64 + 64 ≤ a + n))
  s.setHbm h (Sparse.drop (fun k => decide (a ≤ k ∧ k < a + n)) (s.hbm h))

/-- Little-endian numbers in HBM. -/
def State.hbmNat (s : State) (h : HalfId) (a n : Nat) : Nat := bytesNat (s.hbmRead h a n)

/-! ### Time (R95, R96) -/

/-- One keystone count passes: 20 ns (R95). The halves' copies run with it, free in a fenced half (R97; that its clock
keeps the keystone's rate is assumption 48, DESIGN CHOICE). On the oscillator it is added to 0x1000.09 as well. A
part without power counts nothing. -/
def State.tick (s : State) : State :=
  if s.key.powered then
    let t := s.add64 0x1005 0x01 1
    let t := { t with half0 := { t.half0 with copy := t.half0.copy + 1 },
                      half1 := { t.half1 with copy := t.half1.copy + 1 } }
    if s.flag 0x1000 0x01 0 then t else t.add64 0x1000 0x09 1
  else s

/-! ### Outcomes -/

abbrev Result := Host.Outcome State Fault Refusal

/-- An event at a part whose keystone has no power finds nobody (assumption 15). -/
def onPower (s : State) (f : State → State) : Result :=
  if s.key.powered then .next (f s) else .next s

/-- Applies `f` when `c` holds. -/
def when (c : Bool) (f : State → State) (s : State) : State := if c then f s else s

end Sys2Proof.Machine
end

