-- ==== Sys2Proof/Machine/ContextOps.lean ====
section
/-! DEFINITION. Operations on contexts that several chapters use: reasons, events, moves between
states, holds, faults and release (R142 to R146, R153, R161). -/

namespace Sys2Proof.Machine

open Sys2Proof

def stFree : Nat := 0
def stOpen : Nat := 1
def stLoaded : Nat := 2
def stRun : Nat := 3
def stHold : Nat := 4
def stSealing : Nat := 5
def stDone : Nat := 6
def stFault : Nat := 7

def Ctx.going (c : Ctx) : Bool := c.state == stRun || c.state == stSealing

/-- Strands of the context that have been issued and have not ended (R154). -/
def Ctx.inFlight (c : Ctx) : Bool := c.slots.any (·.issued)

def addAtIdx (l : List Nat) (i n : Nat) : List Nat :=
  ((List.range (max l.length (i + 1))).map (fun j => l.getD j 0 + (if j = i then n else 0)))

/-! ### Marks of a failed check (R205, R383, R384) -/

/-- Marks the step's results of a context as having failed a check on a physical unit. -/
def State.failCheck (s : State) (n unit : Nat) : State :=
  s.modCtx n (fun c => { c with stepFailed := true,
                                failedUnits := c.failedUnits ++ [(c.attempt, toWord unit)],
                                ledgerCounts := addAtIdx c.ledgerCounts 3 1 })

/-! ### Reasons (R146) -/

def rHost : Nat := 0
def rFence : Nat := 2
def rIde : Nat := 3
def rTsp : Nat := 4
def rNumerics : Nat := 5
def rOwner : Nat := 6
def rPower : Nat := 7
def rUnit : Nat := 18
def rBisnp : Nat := 19
def rMemory : Nat := 20
def rFOwner : Nat := 21
def rStream : Nat := 22

def State.setReason (s : State) (n b : Nat) : State := s.putFlag (cidx n) 0x02 b true
def State.clearReason (s : State) (n b : Nat) : State := s.putFlag (cidx n) 0x02 b false
def State.hasReason (s : State) (n b : Nat) : Bool := s.flag (cidx n) 0x02 b

/-- The device reason bits 7:2 of R141. -/
def State.deviceReasons (s : State) (n : Nat) : Bool := bitsOf (s.val (cidx n) 0x02) 2 6 != 0

/-! ### Events (R161) -/

/-- Sets a pending event bit; the context's vector signals when a masked bit sets. -/
def State.ctxEvent (s : State) (n b : Nat) : State :=
  if s.flag (cidx n) 0x1F b then s
  else
    let t := s.putFlag (cidx n) 0x1F b true
    if s.flag (cidx n) 0x1E b then
      match s.ctx n with
      | some c => t.signal (halfFn c.half) (s.val (cidx n) 0x1D)
      | none => t
    else t

def evLoaded : Nat := 0
def evHold : Nat := 1
def evDone : Nat := 2
def evFault : Nat := 3
def evStep : Nat := 4
def evRecords : Nat := 5
def evWait : Nat := 6

/-! ### Moves -/

/-- The context's pending deferred state write completes: 0x0000 if it asked for the state now
reached, 0x3003 if the context was moved elsewhere (R143). -/
def State.settle (s : State) (n : Nat) (asked : Bool) : State :=
  s.endPending (cidx n) 0x01 0 (if asked then 0x0000 else 0x3003)

/-- Companions of a context, in its half (R153). -/
def State.companions (s : State) (n : Nat) : List Ctx :=
  s.ctxs.filter (fun c => s.flag (cidx c.n) 0x05 5 && s.val (cidx c.n) 0x06 == n &&
    (s.ctx n).map (·.half) == some c.half)

/-- Puts a context into HOLD (R142). -/
def State.toHold (s : State) (n : Nat) : State :=
  match s.ctx n with
  | none => s
  | some c =>
    let s := s.settle n c.wantHold
    let s := s.setCtx { c with state := stHold, wantHold := false, wantDone := false,
                               holdAtSeal := false, stopAsked := false }
    s.ctxEvent n evHold

/-- Asks a context in RUN or SEALING to hold: it issues no new strand and enters HOLD once the
strands in flight end, from SEALING once its seal is sent (R141, R142). -/
def State.askHold (s : State) (n : Nat) : State :=
  match s.ctx n with
  | none => s
  | some c =>
    if c.state = stRun ∧ c.inFlight = false then s.toHold n
    else s.setCtx { c with stopAsked := true }

/-- A hold reason arises (R146): a context in RUN or SEALING holds, one in HOLD takes the bit, and
one in OPEN, LOADED or DONE enters HOLD where the rule moves every context (`all`: R72, R73); a placement under way
ends there. DEDUCED, assumption 16. -/
def State.reasonHold (s : State) (n b : Nat) (all : Bool) : State :=
  match s.ctx n with
  | none => s
  | some c =>
    if c.releasing then s
    else if c.going then (s.setReason n b).askHold n
    else if c.state = stHold then s.setReason n b
    else if all && c.state != stFault then ((s.setCtx { c with placing := false }).setReason n b).toHold n
    else s

/-- Companions in RUN or SEALING hold with h_owner when their owner leaves RUN (R153); SEALING belongs to running here,
as the next step follows it. -/
def State.holdCompanions (s : State) (n : Nat) : State :=
  (s.companions n).foldl (fun t c => t.reasonHold c.n rOwner false) s

/-- A context enters HOLD, and its companions with it. -/
def State.enterHold (s : State) (n : Nat) : State := (s.toHold n).holdCompanions n

/-- A context enters DONE (R142), no step in progress; h_host goes with the HOLD that it leaves. -/
def State.enterDone (s : State) (n : Nat) : State :=
  match s.ctx n with
  | none => s
  | some c =>
    let s := (s.settle n c.wantDone).clearReason n rHost
    let s := s.setCtx { c with state := stDone, wantHold := false, wantDone := false, phase := 0, waits := false,
                               holdAtSeal := false, stopAsked := false, slots := [], todo := [] }
    let s := s.ctxEvent n evDone
    if c.going then s.holdCompanions n else s

/-- No dX strand holds a snapshot of a context's tiles any more (R324). -/
def State.dropSnapshots (s : State) (n : Nat) : State :=
  match s.ctx n with
  | some c => c.tiles.foldl (fun t l => t.putAt l 0x4021 0x04 0) s
  | none => s

/-- A fault reason arises (R142, R146): FAULT; strands in flight end and their results are
discarded. -/
def State.enterFault (s : State) (n b : Nat) : State :=
  match s.ctx n with
  | none => s
  | some c =>
    if c.releasing then s
    else
      let s := (s.dropSnapshots n).setReason n b
      let s := s.settle n false
      let s := s.setCtx { c with state := stFault, wantHold := false, wantDone := false,
                                 placing := false, holdAtSeal := false, stopAsked := false, waits := false,
                                 slots := (c.slots.filter (·.issued)).map (fun x => { x with dead := true }),
                                 todo := [], copyStep := none, copyWait := none }
      let s := s.ctxEvent n evFault
      if c.going then s.holdCompanions n else s

/-- Contexts of a half, by number. -/
def State.ctxsOf (s : State) (h : HalfId) : List Nat :=
  (s.ctxs.filter (fun c => c.half == h)).map (·.n)

/-- Some context of the half is in RUN or SEALING. -/
def State.busyHalf (s : State) (h : HalfId) : Bool := s.ctxs.any (fun c => c.half == h && c.going)

/-! ### Release (R145) -/

/-- A dictionary word of one context: its object, or an instance of a context-selected object. -/
def keyOfCtx (n k : Nat) : Bool :=
  keyIndex k == cidx n ||
  match findObj (keyIndex k) with
  | some o =>
    o.owner == .ctx && keyUnit k / 2 ^ (18 * (o.selectors.length - 1)) == n &&
    (match o.row (keySub k) with | some r => !r.single | none => false)
  | none => false

/-- The object and what the context selectors name return to default, P2 words apart (R508). -/
def State.dropCtxKeys (s : State) (n : Nat) : State :=
  s.dropKeys (fun k => keyOfCtx n k && persistOf k != .p2)

/-- Granule spans a context claims: first granule and count per element (R149). -/
def State.claims (s : State) (n : Nat) : List (Nat × Nat) :=
  (List.range 16).map (fun j =>
    let w := s.val (cidx n) (0x30 + j)
    (w / 65536, w % 65536))

def granule : Nat := 0x200000

/-- Byte `a` of the half's HBM lies in a granule the context claims. -/
def State.inClaims (s : State) (n a : Nat) : Bool :=
  (s.claims n).any (fun e => decide (e.1 * granule ≤ a ∧ a < (e.1 + e.2) * granule))

/-- The span `a` to `a + len - 1` lies wholly in granules the context claims. -/
def State.spanInClaims (s : State) (n a len : Nat) : Bool :=
  len == 0 || (List.range ((a + len - 1) / granule - a / granule + 1)).all (fun j =>
    s.inClaims n ((a / granule + j) * granule))

/-- The context whose claims hold a byte of a half's HBM. -/
def State.claimant (s : State) (h : HalfId) (a : Nat) : Option Ctx :=
  s.ctxs.find? (fun c => c.half == h && s.inClaims c.n a)

/-- Bytes of a context's program digest (0x8000+n.0A). -/
def State.programDigest (s : State) (n : Nat) : List Byte := (s.regsAt 0 (cidx n) 0x0A 8).flatMap wordBytes

/-- What measurement block 0x10 tells of a context (R465): number, class, exactness class, sealing slot, program digest. -/
def State.noteFacts (s : State) (n : Nat) : State :=
  let l := natBytes 2 n ++ natBytes 1 (s.val (cidx n) 0x03) ++ natBytes 1 (s.val (cidx n) 0x04) ++
    natBytes 1 (s.val (cidx n) 0x1C) ++ s.programDigest n
  s.modCtx n (fun c => { c with facts := l })

/-- Zeroes the granules a context claims. -/
def State.zeroClaims (s : State) (h : HalfId) (n : Nat) : State :=
  (s.claims n).foldl (fun t e => t.hbmZero h (e.1 * granule) (e.2 * granule)) s

/-- What a tile keeps of a released context: nothing in its buffers, queue or surround tables; its
cells stay unless they are sanitized. -/
def Tile.release (t : Tile) (n : Nat) : Tile :=
  { t with records := [], programming := false,
           inRing := t.inRing.filter (fun v => v.ctx != n),
           outRing := t.outRing.filter (fun v => v.ctx != n), partials := [],
           flight := t.flight.filter (fun v => v.vec.ctx != n), pool := [], version := [],
           pointer := [], shadow := [], shadowB8 := [],
           queue := t.queue.filter (fun j => j.ctx != n),
           nextQueue := t.nextQueue.filter (fun j => j.ctx != n), inPass := false, paused := false,
           written := [], sCol := [], bias := [], actTable := [], lowWindows := 0 }

/-- Logical tiles answer through the address map. -/
def State.physTile (s : State) (l : Nat) : Option Nat := s.fabric.phys l

/-- A release or reset of an owner faults its companions (R153). -/
def State.faultCompanions (s : State) (n : Nat) : State :=
  (s.companions n).foldl (fun t c => t.enterFault c.n rFOwner) s

/-! ### Sending under the peloton key (R360, R472, R473) -/

/-- Frames that an item of `len` bytes takes: 2,048 payload bytes each, one for an empty item. -/
def frameCount (len : Nat) : Nat := max 1 ((len + 2047) / 2048)

def pkIndex (h : HalfId) : Nat := pick h 0x9030 0x9031

/-- Counts frames in the send counter; at 2^63 sending stops with a Failure record until an advance. -/
def State.countSent (s : State) (h : HalfId) (k : Nat) : State :=
  let n := s.val64 (pkIndex h) 0x0D + k
  let s := s.put64 (pkIndex h) 0x0D n
  if 2 ^ 63 ≤ n then (s.put (pkIndex h) 0x0F 0).log { cls := clsFailure, unit := unitHub h } else s

/-- Hands a routed message to the half's hub; while sending is not permitted it waits. -/
def State.sendOut (s : State) (h : HalfId) (len : Nat) (o : Out) : State :=
  if s.val (pkIndex h) 0x0F = 1 then (s.countSent h (frameCount len)).emit o
  else { s with unsent := s.unsent ++ [(h, len, o)] }

/-- What waited leaves, in order. -/
def State.flushUnsent (s : State) (h : HalfId) : State :=
  let l := s.unsent.filter (fun e => e.1 == h)
  l.foldl (fun t e => t.sendOut h e.2.1 e.2.2) { s with unsent := s.unsent.filter (fun e => e.1 != h) }

/-- Hands an item of a context to its half's hub. -/
def State.handItem (s : State) (n dest cls step item attempt : Nat) (data : List Byte) : State :=
  match s.ctx n with
  | some c => s.sendOut c.half data.length (.item n dest cls step item attempt data)
  | none => s

end Sys2Proof.Machine
end

