-- ==== Sys2Proof/Machine/Flags.lean ====
section
/-! DEFINITION. Status flags that several causes set: crawl and the cadence word, throttle reasons and their
durations, the replace request's reason bits (R32, R415, R439, R445). -/

namespace Sys2Proof.Machine

open Sys2Proof

/-! ### Crawl, cadence and throttle reasons -/

/-- ALERT: the input is below 44.0 V or above 62.0 V (R40). -/
def State.alert (s : State) : Bool := s.sup.alertLow || s.sup.alertHigh

/-- Crawl is forced on a half (R439). -/
def State.crawl (s : State) (h : HalfId) : Bool :=
  s.alert || s.sup.pwrbrk || (s.half h).crawlThermal || (s.half h).crawlFence

/-- Cadence of a class: the least of power, thermal and class caps, 4 under crawl (R439). Class 0
training, 1 scoring, 2 canary. -/
def State.cadence (s : State) (h : HalfId) (cls : Nat) : Nat :=
  if s.crawl h then 4
  else min (min (s.half h).cadP (s.half h).cadT) (s.val (pick h 0x1012 0x1013) (0x03 + cls))

/-- The cadence word 0x1012.02 or 0x1013.02 (R449). -/
def State.cadenceWord (s : State) (h : HalfId) : Nat :=
  (if s.crawl h then 2 ^ 24 else 0) + (s.half h).cadP * 65536 + (s.half h).cadT * 256
    + s.cadence h 0

/-- Throttle reasons now active on a half (R445). -/
def State.reasons (s : State) (h : HalfId) : Nat :=
  let c := s.half h
  (if c.cadP < 64 then 1 else 0) + (if c.cadT < 64 || c.crawlThermal then 2 else 0)
    + (if c.droop.isEmpty then 0 else 4) + (if s.alert then 8 else 0)
    + (if s.sup.pwrbrk then 16 else 0) + (if c.storm then 32 else 0)

def riseCount (old new b : Nat) : Nat := if bitsOf old b 1 = 0 ∧ bitsOf new b 1 = 1 then 1 else 0

/-- Brings a half's cadence word and throttle reasons up to date and counts each rising edge. -/
def State.throttle (s : State) (h : HalfId) : State :=
  let i := pick h 0x1015 0x1016
  let old := s.val i 0x01
  let new := s.reasons h
  let s := s.put (pick h 0x1012 0x1013) 0x02 (s.cadenceWord h)
  let s := (List.range 6).foldl (fun t b => t.addAt 0 i (0x0E + b) (riseCount old new b)) s
  s.put i 0x01 new

def State.throttleBoth (s : State) : State := (s.throttle .h0).throttle .h1

/-- While a reason bit is set its duration counts, to at most 2^48 - 1 (R96, R445). -/
def State.reasonTick (s : State) (i : Nat) : State :=
  (List.range 6).foldl (fun t b =>
    if t.flag i 0x01 b then t.put64 i (0x02 + 2 * b) (min (t.val64 i (0x02 + 2 * b) + 1) (2 ^ 48 - 1))
    else t) s

/-! ### The replace request (R32, R415) -/

def State.anyReplace (s : State) : Bool := s.val 0x0080 0x01 != 0 || s.val 0x0080 0x02 != 0

/-- Raises a reason bit of a half; Raised going from 0 to 1 takes the time. -/
def State.raiseReplace (s : State) (h : HalfId) (b : Nat) : State :=
  let was := s.anyReplace
  let s := s.putFlag 0x0080 (0x01 + halfNum h) b true
  if was then s else (s.put64 0x0080 0x04 s.count).put 0x0080 0x03 1

/-- Clears reason bits of a half. -/
def State.clearReplace (s : State) (h : HalfId) (bits : List Nat) : State :=
  let s := bits.foldl (fun t b => t.putFlag 0x0080 (0x01 + halfNum h) b false) s
  s.put 0x0080 0x03 (if s.anyReplace then 1 else 0)

end Sys2Proof.Machine
end

