-- ==== Sys2Proof/Machine/PowerOps.lean ====
section
/-! DEFINITION. Operations on grants, the fence, the device cache, answers and claims that several chapters
use (R20, R22, R28, R29, R70, R437). -/

namespace Sys2Proof.Machine

open Sys2Proof

/-! ### Outputs (R46, R48, R49, R103) -/

/-- The source that CLKOBS is set to is absent (R103). -/
def State.clkobsAbsent (s : State) : Bool :=
  let code := s.val 0x1004 0x01 / 2 ^ 24
  let gone := fun h => !s.railsOn h || s.fenced h
  if code = 0 then !s.flag 0x1000 0x01 0
  else if code = 1 then !s.flag 0x1000 0x02 0
  else if code = 2 then !s.flag 0x1001 0x01 1
  else if code < 0x10 then false
  else if code < 0x20 then gone (halfOf code)
  else gone (halfOf (tileHalf (s.val 0x1004 0x02)))

/-- What drives an output: nothing without power (R46); THERM_N is pulled low or released (R48); CLKOBS holds low while
its enable is off, its block not ready or its source absent (R49, R103). -/
def State.pinDrive (s : State) (p : Pin) : Drive :=
  match p with
  | .thermN => if s.key.powered && s.flag 0x0101 0x01 8 then .low else .floats
  | .clkobs =>
    if !s.key.powered then .floats
    else if s.flag 0x1002 0x03 2 && s.flag 0x1002 0x06 2 && !s.clkobsAbsent then
      .clock (s.val 0x1004 0x01 / 2 ^ 24) (s.val 0x1004 0x01 % 2 ^ 13)
    else .low
  | .spokes h => if s.key.powered && s.railsOn h then .driven else .floats

/-- Shows an output that is driven otherwise than in the state `old`. -/
def State.repin (s old : State) (p : Pin) : State :=
  if s.pinDrive p = old.pinDrive p then s else s.emit (.pin p (s.pinDrive p))

/-- A ready I3C secondary without a dynamic address asks to join the bus, unless SDA's pull-up is missing (R51, R121). -/
def State.hotJoin (s : State) : State :=
  if s.flag 0x1002 0x06 3 && s.svc.i3cAddr == 0 && !s.flag 0x0101 0x01 1 then s.emit .hotJoin else s

/-- The I3C secondary is ready and has an address (R99, R121). -/
def State.i3cServes (s : State) : Bool := s.flag 0x1002 0x06 3 && s.svc.i3cAddr != 0

/-! ### Supply state (R40) -/

/-- Some half's rails are on. -/
def State.halvesPowered (s : State) : Bool := s.railsOn .h0 || s.railsOn .h1

/-- Sets the supply state. Entries to 2 are counted, entries to 1 and 3 only while a half is powered. -/
def State.setSupply (s : State) (n : Nat) : State :=
  if s.val 0x0100 0x0D = n then s
  else
    let s := if n = 2 then s.bump 0x0100 0x0A
      else if n ≠ 0 ∧ s.halvesPowered = true then s.bump 0x0100 0x09 else s
    s.put 0x0100 0x0D n

/-! ### Grants -/

/-- A half's own grant in W: g0, and g1 = L - g0 (R435). -/
def State.grant (s : State) (h : HalfId) : Nat :=
  match h with
  | .h0 => s.val 0x1011 0x02
  | .h1 => s.val 0x1011 0x01 - s.val 0x1011 0x02

/-- Hold level: half of the last granted budget, or 280 W if that is more (R28). -/
def State.holdLevel (s : State) (h : HalfId) : Nat := max 280 ((s.half h).lastGrant / 2)

/-- A half whose budget the leader may take: fenced or tripped and not yet returned (R29). -/
def State.lent (s : State) (h : HalfId) : Nat :=
  let c := s.half h
  if c.phase = .tripped ∨ s.fence h = 2 then c.lastGrant
  else if s.fence h = 1 then (if c.confirmed then c.lastGrant - s.holdLevel h else 0)
  else if c.awaitSplit then
    (if c.phase = .off ∨ c.phase = .failed then c.lastGrant else c.lastGrant - s.holdLevel h)
  else 0

/-- Watts reserved for a half under R29. -/
def State.reserve (s : State) (h : HalfId) : Nat :=
  let c := s.half h
  if s.fence h = 1 then s.holdLevel h
  else if c.awaitSplit ∧ (c.phase = .starting ∨ c.phase = .running) then s.holdLevel h
  else 0

/-- The grant a half works to before the input current cap (R437). With what is reserved for the other half it stays
within the limit, whatever split was written since that half was fenced (R29). -/
def State.baseGrant (s : State) (h : HalfId) : Nat :=
  if s.fence h = 1 then s.holdLevel h
  else if s.runs h then
    (if (s.half h).awaitSplit then s.holdLevel h
     else min (s.grant h + (if s.holder = halfNum h then s.lent (otherHalf h) else 0))
       (s.val 0x1011 0x01 - s.reserve (otherHalf h)))
  else 0

/-- Power the input current cap allows, in mW (R44). -/
def State.capPower (s : State) : Nat := s.val 0x0100 0x08 * s.val 0x0100 0x01 / 1000

/-- Effective grants of both halves (R437): scaled while the cap allows less than L, a running half
not below 280 W, the shortfall taken from the other half. -/
def State.effective (s : State) : Nat × Nat :=
  let l := s.val 0x1011 0x01
  let b0 := s.baseGrant .h0
  let b1 := s.baseGrant .h1
  if s.capPower < l * 1000 then
    let x0 := b0 * s.capPower / (l * 1000)
    let x1 := b1 * s.capPower / (l * 1000)
    let up0 := if s.runs .h0 && decide (x0 < 280) then 280 - x0 else 0
    let up1 := if s.runs .h1 && decide (x1 < 280) then 280 - x1 else 0
    let y0 := if up0 > 0 then 280 else if s.runs .h0 then max 280 (x0 - up1) else x0 - up1
    let y1 := if up1 > 0 then 280 else if s.runs .h1 then max 280 (x1 - up0) else x1 - up0
    (y0, y1)
  else (b0, b1)

/-- Brings 0x1011.03 to .05 and 0x0041.03, .04 up to date. -/
def State.regrant (s : State) : State :=
  let e := s.effective
  ((((s.put 0x1011 0x03 (s.grant .h1)).put 0x1011 0x04 e.1).put 0x1011 0x05 e.2).put 0x0041 0x03
    (s.reserve .h0)).put 0x0041 0x04 (s.reserve .h1)

/-! ### Device cache -/

/-- D2H requests of a half that wait. -/
def State.d2h (s : State) (h : HalfId) : List D2HReq := pick h s.port.d2h0 s.port.d2h1

def State.setD2h (s : State) (h : HalfId) (l : List D2HReq) : State :=
  match h with
  | .h0 => { s with port := { s.port with d2h0 := l } }
  | .h1 => { s with port := { s.port with d2h1 := l } }

/-- A half's request joins its queue for the link (R68, R69). -/
def State.request (s : State) (h : HalfId) (k : D2H) (a : Nat) (l : List Byte) : State :=
  s.setD2h h (s.d2h h ++ [{ kind := k, addr := a, data := l }])

/-- Weight of a half on the link (0xA003.01, .02). -/
def State.d2hWeight (s : State) (h : HalfId) : Nat := s.val 0xA003 (0x01 + halfNum h)

/-- Half that the link serves next: the one whose turn it is while it has something and weight left, else the other
if that has something, else the same anew (R69: weighted round robin, work-conserving). -/
def State.d2hNext (s : State) : Option (HalfId × Nat) :=
  let h := s.port.d2hTurn
  if s.d2h h ≠ [] ∧ 0 < s.port.d2hLeft then some (h, s.port.d2hLeft - 1)
  else if s.d2h (otherHalf h) ≠ [] then some (otherHalf h, s.d2hWeight (otherHalf h) - 1)
  else if s.d2h h ≠ [] then some (h, s.d2hWeight h - 1)
  else none

/-- One D2H request leaves for the host. -/
def State.d2hServe (s : State) : State :=
  match s.d2hNext with
  | none => s
  | some (h, left) =>
    let s := { s with port := { s.port with d2hTurn := h, d2hLeft := left } }
    match s.d2h h with
    | r :: rest => (s.setD2h h rest).emit (.d2h h r)
    | [] => s

/-- Everything that a half has waiting leaves for the host. -/
def State.d2hDrain (s : State) (h : HalfId) : State :=
  ((s.d2h h).foldl (fun t r => t.emit (.d2h h r)) s).setD2h h []

/-- Lines of a half's partition (R69). -/
def State.partition (s : State) (h : HalfId) : Nat :=
  let k := s.val 0xA003 0x03
  (match h with | .h0 => k | .h1 => 4096 - k) * 16

/-- A line leaves a partition for want of room (R68): a dirty one is written back. -/
def State.evict (s : State) (h : HalfId) (l : CacheLine) : State :=
  let s := { s with port := { s.port with cache := s.port.cache.filter (fun x => !(x.half == h && x.addr == l.addr)) } }
  if l.dirty then (s.request h .dirtyEvict l.addr l.data).add64 0xA003 0x04 1
  else s.request h .cleanEvict l.addr []

/-- A line enters a half's partition; a full partition lets its least recently used line go first. -/
def State.fillLine (s : State) (h : HalfId) (a : Nat) (dirty : Bool) (data : List Byte) : State :=
  let mine := s.port.cache.filter (fun x => x.half == h && x.addr != a)
  let s := match mine with
    | v :: _ => if s.partition h ≤ mine.length then s.evict h v else s
    | [] => s
  let x : CacheLine := { half := h, addr := a, dirty := dirty, data := data }
  { s with port := { s.port with cache := s.port.cache.filter (fun y => !(y.half == h && y.addr == a)) ++ [x] } }

/-- A line leaves a half's partition without a request of its own. -/
def State.dropLine (s : State) (h : HalfId) (a : Nat) : State :=
  { s with port := { s.port with cache := s.port.cache.filter (fun x => !(x.half == h && x.addr == a)) } }

/-- Writes a half's dirty device-cache lines to host memory and drops its lines (R70, R74). -/
def State.flushCache (s : State) (h : HalfId) : State :=
  let s := s.d2hDrain h
  let dirty := s.port.cache.filter (fun l => l.half == h && l.dirty)
  let s := dirty.foldl (fun t l => t.emit (.d2h h { kind := .dirtyEvict, addr := l.addr, data := l.data })) s
  let s := s.add64 0xA003 0x04 dirty.length
  { s with port := { s.port with cache := s.port.cache.filter (fun l => l.half != h) } }

/-! ### Answers of requests -/

/-- Position of a half (R369). -/
def State.position (s : State) (h : HalfId) : Nat :=
  match s.pendingOn (pick h 0x6000 0x6001) 0x01 0 with
  | some t => (match t.work with | .store _ _ _ (w :: _) => w.toNat | _ => 0xFFFF)
  | none => s.val (pick h 0x6000 0x6001) 0x01

/-- Flags of the frame that carries an answer over a spoke: neighbour-addressed from an unassigned source while the
half has no position (R360, R369). -/
def State.answerFlags (s : State) (p : Path) : Nat :=
  match p with
  | .spoke _ h => if s.position h = 0xFFFF then 3 else 0
  | _ => 0

/-- Operation codes of requests (R120). -/
def opCode.read : Nat := 1
def opCode.write : Nat := 2
def opCode.writeIf : Nat := 3
def opCode.describe : Nat := 4
def opCode.readSeg : Nat := 5
def opCode.writeSeg : Nat := 6
def opCode.ticket : Nat := 7
def opCode.next : Nat := 8

/-- Word 0 of a request frame (R119). -/
def requestWord (op i sub : Nat) : Word := toWord (op % 256 * 2 ^ 24 + sub % 256 * 2 ^ 16 + i % 2 ^ 16)

/-- A response frame that answers a request without payload. -/
def State.answer (s : State) (p : Path) (op i sub tag status : Nat) : State :=
  s.emit (.reply p { echo := requestWord op i sub, tag := tag, status := status, ticket := 0, hint := 0,
                     payload := [], flags := s.answerFlags p })

/-- Records the outcome of a BAR2 access in the window status (R123, R136): the latest status and address,
ticket and hint, and the sticky status with its vector. -/
def State.recordWindow (s : State) (i sub status ticket hint : Nat) : State :=
  let place := i % 2 ^ 16 * 256 + sub % 256
  let s := (s.put 0x0010 0x01 status).put 0x0010 0x02 place
  let s := if status = 0x6001 ∨ status = 0x6002 then s.put 0x0010 0x05 (ticket * 65536 + hint) else s
  if s.val 0x0010 0x03 = 0 ∧ status ≠ 0 ∧ status ≠ 0x6002 then
    ((s.put 0x0010 0x03 status).put 0x0010 0x04 place).signal .f0 3
  else s

/-- The answer to a request: a response frame, or, on BAR2, its record; accesses to 0x0010 itself are not
recorded. -/
def State.respond (s : State) (p : Path) (op i sub tag status ticket hint : Nat) (payload : List Word) : State :=
  match p with
  | .bar2 => if i = 0x0010 then s else s.recordWindow i sub status ticket hint
  | _ => s.emit (.reply p { echo := requestWord op i sub, tag := tag, status := status, ticket := ticket, hint := hint,
                            payload := payload, flags := s.answerFlags p })

/-- Path of a held write. -/
def HeldWrite.path (w : HeldWrite) : Path :=
  match w.origin with
  | .host v => v.path
  | .member v _ _ => v.path
  | .manager h e => .manager h e

/-- Operation that a held write asked for. -/
def HeldWrite.op (w : HeldWrite) : Nat := if w.expect.isSome then opCode.writeIf else opCode.write

/-- Refuses a write that waits. -/
def State.refuseWrite (s : State) (w : HeldWrite) (status : Nat) : State :=
  s.respond w.path w.op w.index w.sub w.tag status 0 0 []

/-- The bridge of a half has carried nothing for more than 20 µs, 1,000 counts (R20). -/
def State.silentBridge (s : State) (h : HalfId) : Bool := decide (1000 < s.count - (s.half h).lastBeat)

/-- A half's copy of the count is brought within 2 counts of the keystone's (R97). -/
def State.resync (s : State) (h : HalfId) : State :=
  (s.modHalf h (fun c => { c with copy := s.count + Config.copySkew s.free % 5 - 2 })).freeSkip 1

/-- A heartbeat or an answer crosses a half's bridge. -/
def State.beat (s : State) (h : HalfId) : State := s.modHalf h (fun c => { c with lastBeat := s.count })

/-! ### Fence (R28 phases 1 to 4) -/

/-- Telemetry moved to a half that can no longer export returns to its own (R134). -/
def State.telemetryHome (s : State) (h : HalfId) : State :=
  s.putFlag 0x0011 0x0A (match h with | .h0 => 1 | .h1 => 0) false

/-- Host writes of lead-governed objects that the keystone holds are refused (R20). -/
def State.refuseHeld (s : State) : State :=
  let s := s.key.hostHeld.foldl (fun t w => t.refuseWrite w 0x3002) s
  { s with key := { s.key with hostHeld := [] } }

/-- Outstanding snoops of a half are cancelled; host reads that waited for them complete with poison (R67). -/
def State.cancelSnoops (s : State) (h : HalfId) : State :=
  let gone := s.port.snoops.filter (fun x => x.half == h && x.reader.isSome)
  let s := gone.foldl (fun t _ => (t.emit (.memData [] true)).bump 0xA004 (0x01 + halfNum h)) s
  { s with port := { s.port with snoops := s.port.snoops.filter (fun x => x.half != h) } }

/-- The keystone treats a half as one whose bridge is lost (R28 phase 4, R70, R444): the holder
becomes 0xFF if it held the lead, its held host writes are refused, its device-cache partition is
written back, its outstanding snoops are cancelled (R67), and what waits for its manager is refused. -/
def State.dropHalf (s : State) (h : HalfId) : State :=
  let s := if s.holder = halfNum h then (s.setHolder 0xFF).refuseHeld else s
  let s := ((s.half h).tier1.foldl (fun t w => t.refuseWrite w 0x3004) s).modHalf h (fun c => { c with tier1 := [] })
  (s.flushCache h).cancelSnoops h

/-- Running contexts of the half hold at their next seal, with h_fence (R28 phase 3, R146). -/
def State.fenceContexts (s : State) (h : HalfId) : State :=
  (s.ctxsOf h).foldl (fun t n =>
    match t.ctx n with
    | some c => if c.going then (t.setReason n rFence).setCtx { c with holdAtSeal := true } else t
    | none => t) s

/-- A half's fence is declared (R28). -/
def State.declareFence (s : State) (h : HalfId) : State :=
  let old := s
  let g := s.grant h
  let s := s.setFence h 1
  let s := s.modHalf h (fun c => { c with lastGrant := g, confirmed := false, crawlFence := true })
  let s := (s.bump 0x0041 0x05).put64 0x0041 0x06 s.count
  let s := s.dropHalf h
  let s := (s.raiseReplace h 3).telemetryHome h
  let s := s.fenceContexts h
  ((s.throttle h).regrant).repin old .clkobs

/-! ### Risk events (R394, R395) -/

/-- An event of a risk kind in a half is counted; a fenced half adds none. -/
def State.riskEvent (s : State) (h : HalfId) (kind : Nat) : State :=
  if s.fenced h then s else s.bump (pick h 0x7000 0x7001) (0x05 + kind)

/-! ### Junctions (R444, R450) -/

/-- A half's hottest junction is read; the highest ever is kept. -/
def State.noteJunction (s : State) (h : HalfId) (celsius : Int) : State :=
  let s := s.putAt 0 0x1014 (0x02 + halfNum h) (BitVec.ofInt 32 celsius)
  if (s.reg 0x1014 0x07).toInt < celsius then s.putAt 0 0x1014 0x07 (BitVec.ofInt 32 celsius) else s

/-! ### Claims (R22, R23, R522) -/

def epochMax : Nat := 0xFFFFFFFF
def epochLast : Nat := 0xFFFFFFFE

/-- The epoch is at its limit: one Failure record, once (R522). -/
def State.epochCheck (s : State) : State :=
  if s.epoch = epochLast ∧ s.key.epochLimitLogged = false then
    let s := s.log { cls := clsFailure, unit := unitKeystone }
    { s with key := { s.key with epochLimitLogged := true } }
  else s

/-- A claim joins the arbitration window, opening one if none is open; it is answered when the
window closes (R22). -/
def State.claim (s : State) (h : HalfId) (e : Nat) : State :=
  let w : Window := s.key.window.getD { claims := [], held := [] }
  { s with key := { s.key with
      window := some { w with claims := w.claims ++ [{ half := h, epoch := e }] } } }

end Sys2Proof.Machine
end

