-- ==== Sys2Proof/Machine/Cells.lean ====
section
/-! DEFINITION. The cells of an array and their records, program counts, the writing of cells by rows, and the shadow of
what was written (R165 to R177, R188, R322, R323, R325, R335). -/

namespace Sys2Proof.Machine

open Sys2Proof

/-! ### Cells (R165, R168, R171, R172, R174) -/

/-- Key of a cell: physical row 0 to 1,055, physical column 0 to 2,239. -/
def cellKey (row col : Nat) : Nat := row * 2240 + col

/-- Level of a cell that nothing has written: the pattern of the reference rows in the columns that weights use, else
0. -/
def cellDefault (k : Nat) : Nat :=
  let row := k / 2240
  let col := k % 2240
  let e := col % 4
  if 2176 ≤ col then 0
  else if 4 ≤ row ∧ row < 8 ∧ e = 0 then 31
  else if 8 ≤ row ∧ row < 12 ∧ e = 1 then 31
  else if 12 ≤ row ∧ row < 16 ∧ (e = 0 ∨ e = 2) then 16
  else 0

def Tile.level (t : Tile) (row col : Nat) : Nat := Sparse.get cellDefault t.cells (cellKey row col)
def Tile.setLevel (t : Tile) (row col v : Nat) : Tile :=
  { t with cells := Sparse.set cellDefault t.cells (cellKey row col) v }

/-- First physical column of an element 0 to 543: 17 × group + place, place 16 the checksum (R172). -/
def elemCol (e : Nat) : Nat := 68 * (e / 17) + 4 * (e % 17)
/-- Element whose cells stand in a column 0 to 2,175. -/
def elemAt (col : Nat) : Nat := 17 * (col / 68) + col % 68 / 4
/-- Element of a weight column, and the other way. -/
def colElem (j : Nat) : Nat := 17 * (j / 16) + j % 16
def elemColumn (e : Nat) : Nat := 16 * (e / 17) + e % 17
def isCheck (e : Nat) : Bool := e % 17 == 16

/-- Canonical encoding of a grid count (R169): major and minor difference. -/
def gridMajor (q : Int) : Int :=
  let m : Int := (q.natAbs + 7) / 16
  max (-31) (min 31 (if q < 0 then -m else m))
def gridMinor (q : Int) : Int := q - 16 * gridMajor q

/-- Cells of a pair that hold a difference: + cell and - cell. -/
def pairOf (d : Int) : Nat × Nat := if 0 ≤ d then (d.toNat, 0) else (0, (-d).toNat)

/-- Columns of an element's four cells, with the levels that hold its two differences. -/
def pairLevels (e : Nat) (major minor : Int) : List (Nat × Nat) :=
  let c := elemCol e
  [(c, (pairOf major).1), (c + 1, (pairOf major).2), (c + 2, (pairOf minor).1), (c + 3, (pairOf minor).2)]

/-- Nearest integer to n / 16, ties away from zero (R173). -/
def sixteenth (n : Int) : Int :=
  let m : Int := (n.natAbs + 8) / 16
  if n < 0 then -m else m

/-! ### Record words (R335) -/

def byteInt (n : Nat) : Int := if n % 256 < 128 then (n % 256 : Nat) else ((n % 256 : Nat) : Int) - 256
def halfInt (n : Nat) : Int :=
  if n % 65536 < 32768 then (n % 65536 : Nat) else ((n % 65536 : Nat) : Int) - 65536
def lowBits (i : Int) (b : Nat) : Nat := (i % (2 ^ b : Int)).toNat
def recordWord (minor major target : Int) : Word :=
  toWord (lowBits minor 8 * 2 ^ 24 + lowBits major 8 * 2 ^ 16 + lowBits target 16)
def recTarget (w : Word) : Int := halfInt w.toNat
def recMajor (w : Word) : Int := byteInt (w.toNat / 2 ^ 16)
def recMinor (w : Word) : Int := byteInt (w.toNat / 2 ^ 24)

def elemKey (row e : Nat) : Nat := row * 544 + e
def Tile.record (t : Tile) (row e : Nat) : Word := (lookup t.records (elemKey row e)).getD 0

/-- Level that a column's cell has been given in a row: in weight row 0 to 1,023 by Swizeoth's record, in 1,024 + a
reference row by its pattern (R174, R188). -/
def Tile.targetLevel (t : Tile) (row col : Nat) : Nat :=
  if 1024 ≤ row then cellDefault (cellKey (row - 1024) col)
  else
    let w := t.record row (elemAt col)
    ((pairLevels (elemAt col) (recMajor w) (recMinor w)).getD (col % 4) (0, 0)).2

/-- A weight reads as its record says: what a repair that verifies leaves (assumption 54). -/
def Tile.nominal (t : Tile) (row e : Nat) : Tile :=
  let w := t.record row e
  { t with measured := Sparse.set (fun _ => 0) t.measured (elemKey row e) (512 * recMajor w + 32 * recMinor w) }

/-! ### Physical rows and columns (R171, R172, R194) -/

/-- Physical row of a row: weight row 0 to 1,023, or 1,024 + a reference row. -/
def State.physRow (s : State) (p row : Nat) : Nat :=
  if 1024 ≤ row then row - 1024
  else match (List.range 16).find? (fun i => s.valAt p 0x4004 (0x42 + i) == row) with
    | some i => 1040 + i
    | none => 16 + row

/-- Physical column that serves a column 0 to 2,175. -/
def State.physCol (s : State) (p col : Nat) : Nat :=
  match (List.range 64).find? (fun i => s.valAt p 0x4004 (0x02 + i) == col) with
  | some i => 2176 + i
  | none => col

/-- Weight row that a physical row serves. -/
def State.servedRow (s : State) (p row : Nat) : Option Nat :=
  let r := if row < 1040 then row - 16 else s.valAt p 0x4004 (0x42 + (row - 1040))
  if 16 ≤ row ∧ r < 1024 ∧ s.physRow p r = row then some r else none

/-- Column 0 to 2,175 that a physical column serves. -/
def State.servedCol (s : State) (p col : Nat) : Option Nat :=
  let c := if col < 2176 then col else s.valAt p 0x4004 (0x02 + (col - 2176))
  if c < 2176 ∧ s.physCol p c = col then some c else none

/-! ### Program counts (R177) -/

/-- Instance of a tile's physical row in 0x4003. -/
def rowUnit (p row : Nat) : Nat := p * 2 ^ 18 + row

/-- A tile that serves an address passes 900,000 writes of a row: its flag, and the endurance reason of its half (R351). -/
def State.noteEndurance (s : State) (p : Nat) : State :=
  if 900000 < s.valAt p 0x4001 0x12 ∧ (s.fabric.logical p).isSome = true then
    (s.putBitAt p 0x5020 0x0D 2 true).raiseReplace (halfOf (tileHalf p)) 2
  else s

/-- Brings a tile's highest row count and endurance used up to date (R191). -/
def State.noteRowCount (s : State) (p n : Nat) : State :=
  let m := max n (s.valAt p 0x4001 0x12)
  let s := s.putAt p 0x4001 0x12 (toWord m)
  (s.putAt p 0x4001 0x13 (toWord (min 65535 (m * 1000 / s.val 0x4000 0x09)))).noteEndurance p

/-- Commits a physical row's count to its counter cells. -/
def State.storeCount (s : State) (p row n : Nat) : State :=
  s.modTile p (fun t => { t with stored := Sparse.set (fun _ => 0) t.stored row n })

/-- Adds one to a physical row's program count (R177); every 64th is committed to the counter cells. -/
def State.countRow (s : State) (p row : Nat) : State :=
  let n := s.valAt (rowUnit p row) 0x4003 0x03 + 1
  let s := (s.putAt (rowUnit p row) 0x4003 0x03 (toWord n)).noteRowCount p n
  if n % 64 = 0 then s.storeCount p row n else s

/-- Count of a row whose retention flops have lost power: what the counter cells hold, or the next multiple of 64. -/
def raisedCount (stored n : Nat) : Nat := if n = stored then n else stored + 64

/-- Every program count of a half whose in-between increments were lost with power rises to the next
multiple of 64. -/
def State.raiseCounts (s : State) (h : HalfId) : State :=
  s.dict.foldl (fun t e =>
    let p := keyUnit e.1 / 2 ^ 18
    let row := keyUnit e.1 % 2 ^ 18
    if keyIndex e.1 == 0x4003 && keySub e.1 == 0x03 && tileHalf p == halfNum h then
      let n := raisedCount (Sparse.get (fun _ => 0) (t.tile p).stored row) e.2.toNat
      ((t.putAt (keyUnit e.1) 0x4003 0x03 (toWord n)).noteRowCount p n).storeCount p row n
    else t) s

/-! ### Writing cells (R166, R175) -/

/-- What a row write-verify does to the cells of a physical row: those off their level, and those of `again` that are at
it, are pulsed, each a program operation; the row is counted if any was, or where `counts` says that it always is. -/
def State.pulseRow (s : State) (p row : Nat) (levels : List (Nat × Nat)) (again : List Nat) (counts : Bool) : State :=
  let t := s.tile p
  let hit := levels.filter (fun e => t.level row e.1 != e.2 || again.contains e.1)
  let s := s.modTile p (fun t => hit.foldl (fun x e => x.setLevel row e.1 e.2) t)
  let s := s.add64At p 0x4001 0x10 hit.length
  if counts || !hit.isEmpty then s.countRow p row else s

/-- Levels of columns 0 to 2,175, in the physical columns that serve them. -/
def State.onColumns (s : State) (p : Nat) (levels : List (Nat × Nat)) : List (Nat × Nat) :=
  levels.map (fun e => (s.physCol p e.1, e.2))

/-- Writes a row to its targets in every column (R188). -/
def State.rewriteRow (s : State) (p row : Nat) : State :=
  let t := s.tile p
  let s := s.pulseRow p (s.physRow p row) (s.onColumns p ((List.range 2176).map (fun c => (c, t.targetLevel row c)))) []
    false
  s.modTile p (fun t => (List.range 544).foldl (fun x e => x.nominal row e) t)

/-! ### The shadow (R322, R323, R325) -/

/-- Scale of a column (R207). -/
def Tile.scaleOf (t : Tile) (j : Nat) : Word := (lookup t.sCol j).getD f32Zero

/-- Shadow coarse scale of a tile: fl(fl(max s_col × 527) ÷ 7,680). -/
def shadowCoarse (t : Tile) : Word :=
  fdiv (fmul ((t.sCol.map (·.2)).foldl fmax f32Zero) (f32OfNat 527)) (f32OfNat 7680)

/-- Writes a row's read-back into a bank: s_col × measured level value in K8, one B8 per 32
columns. -/
def Tile.writeShadow (t : Tile) (row bank : Nat) : Tile :=
  let cs := shadowCoarse t
  (List.range 16).foldl (fun t b =>
    let cols := (List.range 32).map (fun j => 32 * b + j)
    let xs := cols.map (fun j =>
      fmul (t.scaleOf j) (fscale (f32OfInt ((lookup t.measured (elemKey row (colElem j))).getD 0)) (-9)))
    let k := convBlock .k8 cs false xs (xs.map (fun _ => none))
    { t with
      shadow := (cols.zip k.codes).foldl (fun m e =>
        Sparse.set (fun _ => 0) m (bank * 524288 + row * 512 + e.1) e.2) t.shadow,
      shadowB8 := Sparse.set (fun _ => 0) t.shadowB8 (bank * 16384 + row * 16 + b) k.scale }) t

/-- A rewrite outside a transfer writes both banks (R325). -/
def Tile.bothBanks (t : Tile) (row : Nat) : Tile := (t.writeShadow row 0).writeShadow row 1

def rowBit (l : List Nat) (r : Nat) : Nat := if l.contains r then 1 else 0

def State.logicalOr (s : State) (p : Nat) : Nat := (s.fabric.logical p).getD p

/-- A row of the pass is written into the shadow: into the other bank with the pointer flipped and the
version bit set, or, where the bit is set, into the bank at the pointer (R323, R325). -/
def State.passShadow (s : State) (p row : Nat) : State :=
  let l := s.logicalOr p
  let t := s.tile p
  if t.version.contains row then
    let s := s.modTile p (fun t => t.writeShadow row (rowBit t.pointer row))
    if s.valAt l 0x4021 0x04 = 0 then s else s.bumpAt l 0x4021 0x08
  else
    let s := s.modTile p (fun t =>
      let bank := 1 - rowBit t.pointer row
      { t.writeShadow row bank with
        pointer := if bank = 1 then t.pointer ++ [row] else t.pointer.filter (· != row),
        version := t.version ++ [row] })
    s.bumpAt l 0x4021 0x03

/-- Read-back of a rewritten weight row: as a row of the pass that called for the rewrite, else into both banks. A tile
that nobody has placed holds no shadow. -/
def State.shadowRow (s : State) (p : Nat) (inPass : Bool) (row : Nat) : State :=
  if (s.tile p).sCol.isEmpty then s
  else if inPass then s.passShadow p row
  else s.modTile p (fun t => t.bothBanks row)

/-- Read-back of every weight row. -/
def State.shadowAll (s : State) (p : Nat) (inPass : Bool) : State :=
  (List.range 1024).foldl (fun t r => t.shadowRow p inPass r) s

end Sys2Proof.Machine
end

