-- ==== Sys2Proof/Machine/Spares.lean ====
section
/-! DEFINITION. Spares, retirement and replacement of tiles and courses, the sanitizing of a tile, and what a
half's self-test does with its findings (R13 to R16, R187 to R189, R478, R479, R499, R500). -/

namespace Sys2Proof.Machine

open Sys2Proof

/-! ### Spares -/

/-- Physical course that serves a logical tile's course (R14). -/
def Fabric.physCourse (f : Fabric) (l : Nat) : Nat :=
  if f.courseMap.contains (courseKey l) then 0x20 else tileCourse l

/-- A spare tile of a physical course that serves nothing and is usable. -/
def Fabric.spareFree (f : Fabric) (p : Nat) : Bool :=
  !f.unusable.contains p && !f.tileMap.any (fun e => e.2 == p)

/-- Free spare tiles of a physical course. -/
def Fabric.freeSpares (f : Fabric) (h c : Nat) : List Nat :=
  [mkTile h c 0x20, mkTile h c 0x21].filter f.spareFree

/-- Spare tiles left to a logical or spare course (0x4005.02). -/
def Fabric.sparesLeft (f : Fabric) (h c : Nat) : Nat :=
  (f.freeSpares h (f.physCourse (mkTile h c 0))).length

/-- The spare course of a half is unused and usable (R14). -/
def Fabric.spareCourseFree (f : Fabric) (h : Nat) : Bool :=
  !f.courseMap.any (fun k => k / 64 == h) && !f.deadSpareCourse.contains h

/-- A forward strand is issued on a tile: the one that serves its logical address now. -/
def State.tileBusy (s : State) (p : Nat) : Bool :=
  match s.fabric.logical p with
  | none => false
  | some l => s.physTile l == some p && s.ctxs.any (fun c => c.slots.any (fun x => x.issued && x.kind == .forward l))

/-- What goes with a tile's logical address to the unit `u` that serves it from now on: everything but the array, its
counts, its calibration and its checks (R188). -/
def Tile.contentTo (t u : Tile) : Tile :=
  { t with addr := u.addr, cells := u.cells, stored := u.stored, unusable := false, failedRows := [], dirty := u.dirty,
           calProduct := u.calProduct, calAgain := u.calAgain, lastForward := u.lastForward, issues := u.issues,
           doomed := false,
           accepted := u.accepted, swapDue := u.swapDue, plumbDueAt := u.plumbDueAt }

/-- A course in service that has fewer than 2 spare tiles left raises the spares reason of its half (R32, R189). -/
def State.spareCheck (s : State) (h c : Nat) : State :=
  if !s.fabric.courseMap.contains (h * 64 + c) && decide ((s.fabric.freeSpares h c).length < 2) then
    s.raiseReplace (halfOf h) 1
  else s

/-- The step of each context that has used a unit fails its checks (R383). -/
def State.failUsers (s : State) (unit : Nat) : State :=
  (s.ctxs.filter (fun c => c.phase != 0 && c.used.contains unit)).foldl (fun t c => t.failCheck c.n unit) s

/-- Marks a physical tile unusable; a spare tile so lost counts against its course. -/
def State.markUnusable (s : State) (p : Nat) : State :=
  let s := (s.modTile p (fun t => { t with unusable := true, doomed := false })).failUsers (unitTile p)
  let s := if s.fabric.unusable.contains p then s
    else { s with fabric := { s.fabric with unusable := s.fabric.unusable ++ [p] } }
  s.spareCheck (tileHalf p) (tileCourse p)

/-- Surround configuration of a tile, and its range code, go to the unit that serves its address (R15). -/
def State.copySurround (s : State) (p q : Nat) : State :=
  let s := (List.range 7).foldl (fun t j =>
    t.putAt q 0x4012 (0x02 + j) (t.regAt p 0x4012 (0x02 + j))) s
  s.putAt q 0x4010 0x02 (s.regAt p 0x4010 0x02)

/-- Writes every weight row of a tile that a context has placed to Swizeoth's record, with its read-back (R188). -/
def State.rewriteTile (s : State) (p : Nat) (inPass : Bool) : State :=
  if (s.tile p).sCol.isEmpty then s
  else ((List.range 1024).foldl (fun t r => t.rewriteRow p r) s).shadowAll p inPass

/-- Nothing of a context is left in a tile; its array and its counts stay. -/
def Tile.vacant (t : Tile) : Tile := { (Tile.blank t.addr).contentTo t with unusable := t.unusable }

/-- The unit `q` takes over what `p` held, its array written from the records. -/
def State.moveTile (s : State) (p q : Nat) (inPass : Bool) : State :=
  let s := s.setTile ((s.tile p).contentTo (s.tile q))
  let s := s.setTile { (s.tile p).vacant with unusable := true }
  (s.copySurround p q).rewriteTile q inPass

/-- Logical tiles of a course. -/
def courseTiles (h c : Nat) : List Nat := (List.range 32).map (fun t => mkTile h c t)

/-- Physical tiles of a course. -/
def courseUnits (h c : Nat) : List Nat := (List.range 34).map (fun t => mkTile h c t)

/-- A logical tile of a course that the spare course takes: the tile of its number serves it, or a spare tile of
the spare course where that one is unusable; with neither it is absent (R13, R14, R16). `src` served it before. -/
def State.seatOnSpare (s : State) (l : Nat) (src : Option Nat) : State :=
  let own := mkTile (tileHalf l) 0x20 (tileNum l)
  let seat := if s.fabric.unusable.contains own then (s.fabric.freeSpares (tileHalf l) 0x20).head? else some own
  match seat with
  | none => { s with fabric := { s.fabric with absent := s.fabric.absent ++ [l] } }
  | some q =>
    let s := if q = own then s
      else { s with fabric := { s.fabric with tileMap := s.fabric.tileMap ++ [(l, q)] } }
    match src with
    | some p => s.moveTile p q false
    | none => s

/-- The spare course takes a logical course as a whole: its tiles answer to the replaced addresses,
and spares consumed in the replaced course are not carried over (R14). -/
def State.takeSpareCourse (s : State) (h c : Nat) : State :=
  let old := courseTiles h c
  let seats := old.map (fun l => (l, s.fabric.phys l))
  let s := { s with fabric := { s.fabric with
      tileMap := s.fabric.tileMap.filter (fun (e : Nat × Nat) => !old.contains e.1),
      absent := s.fabric.absent.filter (fun l => !old.contains l),
      courseMap := s.fabric.courseMap ++ [h * 64 + c] } }
  let s := (courseUnits h c).foldl (fun t p => t.markUnusable p) s
  (seats.foldl (fun t (e : Nat × Option Nat) => t.seatOnSpare e.1 e.2) s).spareCheck h 0x20

/-- A field repair is counted and logged (R189). -/
def State.fieldRepair (s : State) (l unit cls : Nat) : State :=
  let h := tileHalf l
  let s := s.bump 0x4005 (0x05 + h)
  s.log { cls := cls, unit := unit, obj := counter 0x4005 (0x05 + h) }

/-- A physical course fails and no spare is left for the logical course that it serves: its units are unusable, the
course and its tiles are absent (R16). -/
def State.loseCourse (s : State) (h c l : Nat) : State :=
  let s := (courseUnits h c).foldl (fun t p => t.markUnusable p) s
  let gone := (courseTiles h l).filter (fun a => !s.fabric.absent.contains a)
  { s with fabric := { s.fabric with absent := s.fabric.absent ++ gone,
                                     absentCourses := s.fabric.absentCourses ++ [h * 64 + l] } }

/-- A physical course fails as a whole, by its engine or its buffer: the spare course replaces it, or it is absent
(R14, R16). A course replaced before serves nothing; the spare course leaves the course that it serves absent. -/
def State.replaceCourse (s : State) (h c : Nat) : State :=
  if c = 0x20 then
    let s := { s with fabric := { s.fabric with deadSpareCourse := s.fabric.deadSpareCourse ++ [h] } }
    match s.fabric.courseMap.find? (fun k => k / 64 == h) with
    | some k => s.loseCourse h 0x20 (k % 64)
    | none => s
  else if s.fabric.courseMap.contains (h * 64 + c) || s.fabric.absentCourses.contains (h * 64 + c) then s
  else if s.fabric.spareCourseFree h then s.takeSpareCourse h c
  else s.loseCourse h c c

/-- The address map: a temporary move does not change it (R15). -/
def State.addressMap (s : State) : Fabric := { s.fabric with relocated := [] }

/-- A spare tile of the course that serves a logical tile, which serves nothing, not even for a step. -/
def State.spareFor (s : State) (l : Nat) : Option Nat :=
  (s.fabric.freeSpares (tileHalf l) (s.fabric.physCourse l)).find? (fun q =>
    !s.fabric.relocated.any (fun e => e.2 == q))

/-- A spare tile answers to a logical address from now on. -/
def State.mapTile (s : State) (l q : Nat) : State :=
  let s := { s with fabric := { s.fabric with
      tileMap := s.fabric.tileMap.filter (fun (e : Nat × Nat) => e.1 != l) ++ [(l, q)] } }
  s.spareCheck (tileHalf q) (tileCourse q)

/-- A tile that serves a logical address is retired. A spare that serves it for a step keeps it; else a spare tile of
its course takes the address, else the spare course takes the course, else the address is absent (R13, R14, R16, R187).
`inPass`: a row of its transfer pass called for it. -/
def State.retireTile (s : State) (l : Nat) (inPass : Bool) : State :=
  match s.addressMap.phys l with
  | none => s
  | some p =>
    match lookup s.fabric.relocated l, s.spareFor l with
    | some q, _ =>
      let s := State.setTile { s with fabric := { s.fabric with
        relocated := s.fabric.relocated.filter (fun (e : Nat × Nat) => e.1 != l) } } (s.tile p).vacant
      (s.markUnusable p).mapTile l q
    | none, some q => ((s.moveTile p q inPass).markUnusable p).mapTile l q
    | none, none =>
      if s.fabric.spareCourseFree (tileHalf l) && !s.fabric.courseMap.contains (courseKey l) then
        s.takeSpareCourse (tileHalf l) (tileCourse l)
      else
        let s := s.markUnusable p
        { s with fabric := { s.fabric with
            tileMap := s.fabric.tileMap.filter (fun e => e.1 != l),
            absent := s.fabric.absent ++ [l] } }

/-- A retirement in the field (R189). -/
def State.retireField (s : State) (l : Nat) (inPass : Bool) : State :=
  let u := unitTile ((s.addressMap.phys l).getD l)
  (s.retireTile l inPass).fieldRepair l u clsWarning

/-- Takes a physical tile out of service, whether it serves an address or waits as a spare (R500). -/
def State.dropTile (s : State) (p : Nat) : State :=
  match s.addressMap.logical p with
  | some l => s.retireTile l false
  | none => s.markUnusable p

/-- Retires a tile in the field; one that strands have been issued to serves until they have ended (R188). -/
def State.retireUnit (s : State) (p : Nat) : State :=
  if s.tileBusy p || !(s.tile p).flight.isEmpty then s.modTile p (fun t => { t with doomed := true })
  else match s.addressMap.logical p with
    | some l => s.retireField l false
    | none => s.markUnusable p

/-- A tile that was to retire when its strands have ended does so once they have. -/
def State.retireDue (s : State) (p : Nat) : State := if (s.tile p).doomed then s.retireUnit p else s

/-! ### Sanitizing a tile (R478, R479) -/

/-- Every cell of a tile outside the reference rows goes to level 0 and is verified; cells that stay above take the tile
out of service. -/
def State.sanitizeTile (s : State) (residual : List (Nat × Nat)) (p : Nat) : State :=
  let hit := (s.tile p).cells.filter (fun e => decide (16 ≤ e.1 / 2240) && e.2 != 0)
  let rows := (hit.map (fun e => e.1 / 2240)).eraseDups
  let s := rows.foldl (fun x r =>
    x.pulseRow p r ((hit.filter (fun e => e.1 / 2240 == r)).map (fun e => (e.1 % 2240, 0))) [] false) s
  let s := (s.modTile p (fun t => { t with measured := [], records := [] })).bump 0x9060 0x03
  let left := (lookup residual p).getD 0
  if left = 0 then s else (s.addAt 0 0x9060 0x04 left).dropTile p

/-! ### Repair entries and self-test (R499, R500, R515) -/

/-- Fields of a repair entry (R515). -/
def entryUnit (e : BitVec 64) : Nat := e.toNat / 2 ^ 32
def entryKind (e : BitVec 64) : Nat := e.toNat / 64 % 4

/-- A unit whose failure fails the half's start: half manager, Swizeoth, hub, mortar link (R500). A
device cache partition has no unit word of its own. -/
def entryFatal (e : BitVec 64) : Bool :=
  entryKind e == 2 && [0x05, 0x06, 0x09, 0x0B].contains (unitKind (entryUnit e))

/-- Slices of a tile marked unusable: their corrections hold no group (R222). -/
def State.sliceUsable (s : State) (p sl : Nat) : Bool :=
  !(s.half0.repairs ++ s.half1.repairs).any (fun e => entryKind e == 2 && entryUnit e == unitSlice p sl) &&
    !s.suspect (unitSlice p sl)

/-- Slices of a tile that a selection, 0 active or 1 pending, does not use and that are usable (R222). -/
def State.spareSlices (s : State) (p set : Nat) : List Nat :=
  (List.range 34).filter (fun sl => s.sliceUsable p sl &&
    !(List.range 32).any (fun g => s.valAt (p * 2 ^ 18 + set) 0x2010 (0x67 + g) == sl))

/-- In one selection a failed slice gives its group to a spare slice; false where none is left. -/
def State.dropSliceIn (s : State) (p sl set : Nat) : State × Bool :=
  match (List.range 32).find? (fun g => s.valAt (p * 2 ^ 18 + set) 0x2010 (0x67 + g) == sl) with
  | none => (s, true)
  | some g =>
    match s.spareSlices p set with
    | q :: _ => (s.putAt (p * 2 ^ 18 + set) 0x2010 (0x67 + g) (toWord q), true)
    | [] => (s, false)

/-- A failed slice gives its group to a spare slice in both selections (R200, R500); false where none is left, and the
tile is to be retired (R201). -/
def State.dropSlice (s : State) (p sl : Nat) : State × Bool :=
  let a := s.dropSliceIn p sl 0
  let b := a.1.dropSliceIn p sl 1
  (b.1, a.2 && b.2)

/-- What replaces a unit that redundancy cannot repair (R500). -/
def State.applyEntry (s : State) (e : BitVec 64) : State :=
  if entryKind e != 2 then s
  else
    let u := entryUnit e
    let place := u % 2 ^ 17
    match unitKind u with
    | 0x01 => s.dropTile place
    | 0x02 => (match s.dropSlice place (u / 2 ^ 17 % 64) with
      | (t, true) => t
      | (_, false) => s.dropTile place)
    | 0x03 | 0x04 => s.replaceCourse (tileHalf place) (tileCourse place)
    | _ => s

/-- Dictionary index of a half's self-test results. -/
def testIndex (h : HalfId) : Nat := pick h 0xF002 0xF003

/-- Self-test of a half: its new entries are kept, at most 4,096, and unusable units replaced. The
answer says whether the half may go on (R499, R500). The duration is a free value
(assumption 6). -/
def State.selfTest (s : State) (h : HalfId) (found : List (BitVec 64)) : State × Bool :=
  let new := found.filter (fun e => !(s.half h).repairs.contains e)
  let ok := decide ((s.half h).repairs.length + new.length ≤ 4096) && !found.any entryFatal
  let keep := new.take (4096 - (s.half h).repairs.length)
  let s := s.modHalf h (fun c => { c with repairs := c.repairs ++ keep })
  let s := keep.foldl (fun t e => t.applyEntry e) s
  let i := testIndex h
  let s := s.put i 0x01 (if !ok then 3 else if keep.isEmpty then 1 else 2)
  let s := (s.putAt 0 i 0x02 s.freeNext).freeSkip 1
  let s := s.put i 0x03 (s.half h).repairs.length
  let s := s.put i 0x04 keep.length
  (s, ok)

end Sys2Proof.Machine
end

