-- ==== Sys2Proof/Machine/StartOps.lean ====
section
/-! DEFINITION. Loss of a half's state, image verification, the start sequence and its two ends
(R24, R99, R457, R458, R494 to R496, R501, R502, R508). -/

namespace Sys2Proof.Machine

open Sys2Proof

/-! ### Loss of a half's contents (R508, columns of Half reset and Keystone-only) -/

/-- What stays of a tile when its half loses power: array cells and the counts in its counter cells. -/
def Tile.coldBuffers (t : Tile) : Tile :=
  { Tile.blank t.addr with cells := t.cells, measured := t.measured, stored := t.stored, unusable := t.unusable }

/-- A pending ticket whose work lies in the half ends with a status. -/
def State.endHalfTickets (s : State) (h : HalfId) (status : Nat) : State :=
  s.svc.tickets.foldl (fun t k =>
    if k.status.isNone &&
       t.keyHalf (dkey k.work.place.2.2 k.work.place.1 k.work.place.2.1) == some h
    then t.endTicket k.num status else t) s

/-- Half-owned dictionary words that are not P2 return to default (R115, R508 note h). -/
def State.dropHalfKeys (s : State) (h : HalfId) : State :=
  s.dropKeys (fun k => s.keyHalf k == some h && persistOf k != .p2)

/-- A key of 16 free words: what the DRBG draws (R453, R454). -/
def State.drawKey (s : State) : BitVec 512 :=
  BitVec.ofNat 512 ((List.range 16).foldl (fun a j => a * 2 ^ 32 + (Config.freeWord (s.free + j)).toNat) 0)

/-- Everything of a half that no reset or power state keeps goes: contexts, registers, HBM, pannier,
tile and course buffers, slots, link and delivery state (R508). -/
def State.loseHalf (s : State) (h : HalfId) : State :=
  let s := s.endHalfTickets h 0x3001
  let s := s.dropHalfKeys h
  let s := { s with
    ctxs := s.ctxs.filter (fun c => c.half != h),
    tiles := s.tiles.map (fun (t : Tile) => if tileHalf t.addr == halfNum h then t.coldBuffers else t),
    mortar := s.mortar.filter (fun x => tileHalf x.finisher != halfNum h),
    slotBufs := s.slotBufs.filter (fun b => b.half != h),
    sec := { s.sec with slotKeys := s.sec.slotKeys.filter (fun e => e.1 / 16 != halfNum h) },
    lanes := s.lanes.filter (fun l => l.half != h),
    spokes := s.spokes.filter (fun l => l.half != h),
    unsent := s.unsent.filter (fun e => e.1 != h),
    arbs := s.arbs.filter (fun a => unitHalf a.unit != some h),
    seqs := s.seqs.filter (fun e => unitHalf e.1 != some h) }
  let s := s.setHbm h []
  let s := match h with
    | .h0 => { s with capture0 := [] }
    | .h1 => { s with capture1 := [] }
  let s := (s.cancelSnoops h).unpoison h (fun _ => true)
  { s with port := { s.port with
      dir0 := pick h [] s.port.dir0, dir1 := pick h s.port.dir1 [] } }

/-- Ready bits of the half's blocks (R99): its spokes, tie spoke, converter and pannier ports. -/
def State.dropReady (s : State) (h : HalfId) : State :=
  let s := s.put 0x1002 (0x04 + halfNum h) 0
  [halfNum h, 5 + halfNum h, 7 + halfNum h].foldl (fun t b => t.putFlag 0x1002 0x06 b false) s

/-- The enables of a half's blocks return to 0 at its reset (R99). -/
def State.dropEnables (s : State) (h : HalfId) : State :=
  let s := s.put 0x1002 (0x01 + halfNum h) 0
  [halfNum h, 5 + halfNum h, 7 + halfNum h].foldl (fun t b => t.putFlag 0x1002 0x03 b false) s

/-- PLL locks of a half (R105): manager, Swizeoth, HBM, LPDDR5X, spoke reference. -/
def State.halfLocks (s : State) (h : HalfId) (on : Bool) : State :=
  [3, 5, 7, 9, 11].foldl (fun t b => t.putFlag 0x1001 0x01 (b + halfNum h) on) s

/-- A half's rails go off: no function service, nothing ready, its outputs float (R46). -/
def State.railsOff (s : State) (h : HalfId) (p : HalfPhase) : State :=
  let t := s.modHalf h (fun c => { c with phase := p, memActive := false, crawlThermal := false,
                                          crawlFence := false, cadP := 64, cadT := 64, droop := [],
                                          storm := false })
  let t := ((t.dropReady h).halfLocks h false).throttle h
  (t.repin s (.spokes h)).repin s .clkobs

/-- Both halves go to Keystone-only by the keystone's own act or by command (R25, R428, R508): their
contents are lost, the holder becomes 0xFF and the epoch is kept. -/
def State.halfToKeystoneOnly (s : State) (h : HalfId) : State :=
  let p := if (s.half h).phase = .tripped then HalfPhase.tripped else .off
  let s := s.endPending 0xF010 0x01 (halfNum h) 0x3001
  let s := s.flushCache h
  let s := s.loseHalf h
  let s := s.railsOff h p
  s.setFence h (if s.fence h = 1 ∨ s.fence h = 2 then 2 else 3)

/-- The module is in Keystone-only once the halves it takes there are unpowered. -/
def State.keystoneOnly (s : State) : State :=
  let s := (s.setHolder 0xFF).refuseHeld
  let s := (s.put 0x1010 0x01 3).bump 0x1010 0x05
  s.regrant

def State.toKeystoneOnly (s : State) : State :=
  ((s.halfToKeystoneOnly .h0).halfToKeystoneOnly .h1).keystoneOnly

/-- A commanded entry applies to the halves that run; a fenced half is left as it is (R430). -/
def State.commandedOff (s : State) : State :=
  ([HalfId.h0, HalfId.h1].foldl (fun t h =>
    if t.runs h && !t.fenced h then t.halfToKeystoneOnly h else t) s).keystoneOnly

/-! ### Firmware images (R457) -/

def imageSlot (l : List Image) (b : Nat) : Image := l.getD b (Image.factory 0 0)

/-- Status of an image against the anti-rollback counter: 0 if it verifies. -/
def Image.verify (im : Image) (c : Nat) : Nat :=
  if !im.valid then 0x5002 else if im.security < c then 0x5003 else 0

def State.slotImage (s : State) (b : Nat) (slotB : Bool) : Image :=
  imageSlot (if slotB then s.key.slotB else s.key.slotA) b

/-- Verifies a component before it runs: the pending slot first if one is marked, else the active
slot; if that image fails, the other. A failing pending image is abandoned. The answer's status is 0
if one verifies (R457). -/
def State.verifyComponent (s : State) (b : Nat) : State × Nat :=
  let c := s.val 0x9001 0x01
  let active := s.flag 0x9001 0x0A b
  let pending := s.flag 0x9001 0x0B b
  let first := if pending then !active else active
  let st1 := (s.slotImage b first).verify c
  if st1 = 0 then (s.putFlag 0x9001 0x0A b first, 0)
  else
    let s := (s.putFlag 0x9001 0x0B b false).put 0x9001 0x0C (st1 * 65536 + b)
    let st2 := (s.slotImage b (!first)).verify c
    if st2 = 0 then (s.putFlag 0x9001 0x0A b (!first), 0) else (s, st1)

/-- A pending image whose keystone or half does not reach start complete is abandoned: the other
slot runs at the next start (R457). -/
def State.abandonPending (s : State) (b : Nat) : State :=
  if s.flag 0x9001 0x0B b then
    let s := s.putFlag 0x9001 0x0A b (!s.flag 0x9001 0x0A b)
    (s.putFlag 0x9001 0x0B b false).put 0x9001 0x0C (0x3001 * 65536 + b)
  else s

/-- Component bits of a half in 0x9001.0A: manager and Swizeoth. -/
def halfComponents (h : HalfId) : List Nat := pick h [1, 2] [3, 4]

/-! ### Start failure (R496) -/

/-- Writes the start record (R513). Where: 0 keystone, 1 half 0, 2 half 1. -/
def State.startRecord (s : State) (phase reason status place : Nat) : State :=
  let s := s.put 0xF000 0x03 (status * 65536 + phase % 16 * 256 + reason % 16 * 16 + place)
  (s.put64 0xF000 0x04 s.count).bump 0xF000 0x06

/-- Half 1 claims once half 0 cannot (R24). -/
def State.leadFallback (s : State) : State :=
  if s.holder = 0xFF ∧ s.runs .h1 = true ∧ s.key.half0Late = true ∧ (s.half1).byReset = false then
    s.claim .h1 (s.epoch + 1)
  else s

/-- A half's start fails: rails off, fence state 3, the start record written (R496). A half reset
waiting for it ends with that status (R505). With no half left to start, a return from Keystone-only by the supply ends
in Keystone-only again (assumption 60, DEDUCED). -/
def State.failStart (s : State) (h : HalfId) (phase reason status : Nat) : State :=
  let s := s.startRecord phase reason status (1 + halfNum h)
  let s := s.bump 0xF000 (0x09 + halfNum h)
  let s := s.railsOff h .failed
  let s := s.setFence h 3
  let s := (halfComponents h).foldl (fun t b => t.abandonPending b) s
  let s := s.endPending 0xF010 0x01 (halfNum h) status
  let s := if h = .h0 then { s with key := { s.key with half0Late := true } } else s
  let s := if (s.half0).phase = .failed ∧ (s.half1).phase = .failed then s.abandonPending 0 else s
  let s := if s.val 0x1010 0x01 = 4 ∧ s.key.trans.isNone = true ∧ s.railsOn .h0 = false ∧ s.railsOn .h1 = false then
    s.put 0x1010 0x01 3 else s
  s.regrant.leadFallback

/-! ### Start of a half (R494 S6 to S9) -/

/-- The manager and Swizeoth of a half start on the crystal (R83); one that is not ready leaves them on the oscillator
(assumption 49, DEDUCED). -/
def State.startSources (s : State) (h : HalfId) : State :=
  if s.flag 0x1000 0x01 0 then
    (s.putFlag 0x1000 0x07 (halfNum h) false).putFlag 0x1000 0x08 (halfNum h) false
  else s

/-- S6 to S9 of a half, with a new key for its unclaimed HBM (R469): rails ramp, B2, soft repair and self-test, program counts. It then waits for
its start complete. Its PLLs lock as its rails come up (assumption 46, DESIGN CHOICE: R105 gives no moment). -/
def State.beginHalf (s : State) (h : HalfId) (byReset : Bool) (found : List (BitVec 64)) : State :=
  let old := s
  let s := s.modHalf h (fun c => { c with phase := .starting, byReset := byReset, lastBeat := s.count,
                                          copy := s.count, unread := [] })
  let s := (s.setFence h 3).startSources h
  let s := (((s.halfLocks h true).throttle h).repin old (.spokes h)).repin old .clkobs
  let r := (halfComponents h).foldl (fun (a : State × Nat) b =>
    if a.2 = 0 then a.1.verifyComponent b else a) (s, 0)
  if r.2 ≠ 0 then r.1.failStart h 7 3 r.2
  else
    let s := (r.1.modHalf h (fun c => { c with memKey := r.1.drawKey })).freeSkip 16
    let t := s.selfTest h found
    if t.2 then (t.1.raiseCounts h).regrant else t.1.failStart h 8 5 0x3001

/-- A half that a module start may power: not fenced, not tripped, not on already (R444, R30). -/
def State.startable (s : State) (h : HalfId) : Bool :=
  ((s.half h).phase == .off || (s.half h).phase == .failed) && !s.fenced h

/-- The halves are not off for a low supply: the supply state is that of the alerts (R40). -/
def State.supplyByAlert (s : State) : State :=
  s.setSupply (if s.sup.alertHigh then 2 else if s.sup.alertLow then 1 else 0)

/-- S5 onward: the halves start (R494). -/
def State.beginHalves (s : State) (found : Findings) : State :=
  let s := s.supplyByAlert
  let s := { s with key := { s.key with starting := true, completed := [], waiting := none, atS4 := false } }
  let s := if s.startable .h0 then s.beginHalf .h0 false found.half0 else s
  if s.startable .h1 then s.beginHalf .h1 false found.half1 else s

/-! ### The identity tree (R461, R463) -/

def leafLimit : Nat := 2 ^ 30

/-- Next leaf and leaves left. -/
def State.nextLeaf (s : State) : Nat := s.val 0x9000 0x10
def State.leavesLeft (s : State) : Nat := leafLimit - s.nextLeaf

/-- Warns when the leaves left fall below the warning level, and at each halving after that (R463). -/
def State.warnLeaves (s : State) : State :=
  let left := s.leavesLeft
  let first := s.sec.warnAt == leafLimit
  if (first && decide (left < s.val 0x9000 0x14)) || (!first && decide (2 * left ≤ s.sec.warnAt)) then
    let s := s.log { cls := clsWarning, unit := unitKeystone, obj := counter 0x9000 0x12 }
    { s with sec := { s.sec with warnAt := left } }
  else s

/-- Leaves wasted at a start: everything between the next leaf and the reservation mark (R461).
0x9000.10 is q, 0x9000.11 Rm, 0x9000.13 the wasted count. -/
def State.wasteLeaves (s : State) : State :=
  let q := s.val 0x9000 0x10
  let r := s.val 0x9000 0x11
  let s := if q < r then ((s.addAt 0 0x9000 0x13 (r - q)).put 0x9000 0x10 r).warnLeaves else s
  { s with sec := { s.sec with treeReady := s.val 0x9000 0x10 / 32768 } }

/-- The service nonce is drawn afresh (R481). -/
def State.drawServiceNonce (s : State) : State :=
  ((List.range 4).foldl (fun t j => t.putAt 0 0x9070 (0x0C + j) (Config.freeWord (t.free + j))) s).freeSkip 4

/-- First phase of a module start: the attempt counts and its time is taken (R494, R501). -/
def State.countAttempt (s : State) : State :=
  let s := (s.bump 0xF000 0x01).drawServiceNonce
  { s with key := { s.key with startedAt := s.count, half0Late := false, completed := [] } }

/-- S5: the halves start if the supply allows, otherwise they wait for it (R40). -/
def State.awaitSupply (s : State) (mv : Nat) (found : Findings) : State :=
  if 44000 ≤ mv then s.beginHalves found
  else
    let s := s.put 0x0100 0x0D 3
    { s with key := { s.key with starting := true, waiting := some found, atS4 := false } }

/-- S4: the keystone core moves to the crystal once it is ready; until then the start waits (R82, R83, R494). -/
def State.awaitCrystal (s : State) (mv : Nat) (found : Findings) : State :=
  if s.flag 0x1000 0x01 0 then (s.put 0x1000 0x04 0).awaitSupply mv found
  else { s with key := { s.key with starting := true, waiting := some found, atS4 := true } }

/-- S3 to S5: B1, then the crystal, then the halves (R494, R83). -/
def State.fromS3 (s : State) (mv : Nat) (found : Findings) : State :=
  let r := s.verifyComponent 0
  if r.2 ≠ 0 then
    let s := (((r.1.startRecord 3 3 r.2 0).abandonPending 0).railsOff .h0 .failed).railsOff .h1 .failed
    if 44000 ≤ mv then s.supplyByAlert else s
  else r.1.awaitCrystal mv found

/-! ### Clock enables (R99) -/

/-- Some confidential context is not FREE. -/
def State.anyConfidential (s : State) : Bool := s.ctxs.any (·.confidential)

/-- Copies one bit of the block start mask into the block enables; a block enabled before stays so. A trace or debug
port (bits 8:4) stays off while a confidential context is not FREE, with a Warning record. -/
def State.copyBlock (s : State) (b : Nat) : State :=
  if !s.flag 0x1002 0x09 b || s.flag 0x1002 0x03 b then s
  else if decide (4 ≤ b) && s.anyConfidential then s.log { cls := clsWarning, unit := unitKeystone }
  else
    let s := s.putFlag 0x1002 0x03 b true
    if 4 ≤ b then { s with sec := { s.sec with debugSeen := putBit s.sec.debugSeen b true } } else s

/-- The keystone's blocks: CLKOBS, I3C and the trace port. -/
def State.copyKeystoneBlocks (s : State) : State := [2, 3, 4].foldl (fun t b => t.copyBlock b) s

/-- A half's spokes, tie spoke and debug ports: the blocks of the start masks join those enabled while the half was
off or starting. -/
def State.copyHalfBlocks (s : State) (h : HalfId) : State :=
  let s := s.put 0x1002 (0x01 + halfNum h) (s.val 0x1002 (0x01 + halfNum h) ||| s.val 0x1002 (0x07 + halfNum h))
  [halfNum h, 5 + halfNum h, 7 + halfNum h].foldl (fun t b => t.copyBlock b) s

/-! ### Module start (R493, R494) -/

/-- Footing mode: the boot ROM serves the keystone, both halves off at fence state 3 (R502). -/
def State.enterFooting (s : State) : State :=
  let s := s.put 0xF000 0x02 1
  let s := if 44000 ≤ s.val 0x0100 0x01 then s.supplyByAlert else s
  let s := (s.railsOff .h0 .off).railsOff .h1 .off
  let s := (s.setFence .h0 3).setFence .h1 3
  s.copyKeystoneBlocks

/-- S2 to S5 of a start from power (R494). -/
def State.fromS2 (s : State) (mv : Nat) (found : Findings) : State :=
  let s := if s.sup.reverseCell then
    { s.bump 0x0100 0x0B with sup := { s.sup with reverseCell := false } } else s
  if s.val 0xF000 0x01 ≥ 3 then s.enterFooting
  else (s.countAttempt.copyKeystoneBlocks).fromS3 mv found

/-- Everything that a loss of power takes: every word that is not P2, the contexts, buffers,
memories, keys and sessions (R508, Cold power-on). -/
def State.losePower (s : State) : State :=
  let s := s.dropKeys (fun k => persistOf k != .p2)
  { s with
    key := { Keystone.cold with slotA := s.key.slotA, slotB := s.key.slotB },
    half0 := { HalfCtl.cold with repairs := s.half0.repairs },
    half1 := { HalfCtl.cold with repairs := s.half1.repairs },
    port := Port.cold, svc := Service.cold, ctxs := [],
    tiles := s.tiles.map Tile.coldBuffers, mortar := [], spokes := [], lanes := [], slotBufs := [], arbs := [],
    unsent := [],
    sec := { Security.cold with sealKeys := s.sec.sealKeys, ownerRoot := s.sec.ownerRoot,
                                warnAt := s.sec.warnAt },
    seqs := [], cper := [], trace := [], capture0 := [], capture1 := [], hbm0 := [], hbm1 := [] }

/-- The input stage's measurement (R53): present voltage and its extremes. -/
def State.senseInput (s : State) (mv : Nat) : State :=
  let s := s.put 0x0100 0x01 mv
  let s := if mv < s.val 0x0100 0x04 then s.put 0x0100 0x04 mv else s
  if s.val 0x0100 0x05 < mv then s.put 0x0100 0x05 mv else s

/-- A cold power-on from S1 (R493, R494). The PLLs of the keystone and the host port count as locked from then on
(assumption 46, DESIGN CHOICE: R105 gives no moment). -/
def State.coldStart (s : State) (mv : Nat) (found : Findings) : State :=
  let old := s
  let s := s.losePower
  let s := { s with key := { s.key with powered := true },
                    sup := { s.sup with alertLow := false, alertHigh := decide (62000 < mv) } }
  let s := (s.setFence .h0 3).setFence .h1 3
  let s := (s.senseInput mv).putFlag 0x0101 0x01 7 s.sup.pwrbrk
  let s := s.put 0x1001 0x01 7
  let s := s.put 0x0100 0x0D 3
  let s := s.wasteLeaves
  let s := s.regrant.repin old .clkobs
  s.fromS2 mv found

/-- The input no longer powers the keystone, and every output floats (R40, R46): a start in progress has failed with reason 1, its
phase a free value where it lay within S6 to S10 (R496), and everything that power holds is gone. -/
def State.unpower (s : State) : State :=
  let s := if s.key.starting && s.key.waiting.isSome then s.startRecord (if s.key.atS4 then 4 else 5) 1 0x3001 0 else s
  let s := [HalfId.h0, HalfId.h1].foldl (fun t h =>
    if (t.half h).phase = .starting then
      (t.startRecord (6 + t.freeNext.toNat % 5) 1 0x3001 (1 + halfNum h)).freeSkip 1 |>.bump 0xF000
        (0x09 + halfNum h)
    else t) s
  [Pin.thermN, .clkobs, .spokes .h0, .spokes .h1].foldl (fun t p => t.repin s p) s.losePower

/-! ### Start complete (R495) -/

/-- R458: after a start in which both halves completed, fuses are blown until C equals the smallest
security version, if an active image carries the advance bit. -/
def State.antiRollback (s : State) : State :=
  let act := (List.range 5).map (fun b => s.slotImage b (s.flag 0x9001 0x0A b))
  let m := act.foldl (fun a i => min a i.security) 128
  if s.val 0x9001 0x01 < m ∧ act.any (·.advance) = true then s.put 0x9001 0x01 m else s

/-- The lead rules at a start complete (R24, R495 point 5). -/
def State.leadAtStart (s : State) (h : HalfId) : State :=
  if s.holder ≠ 0xFF then s
  else if (s.half h).byReset then s.claim h (s.epoch + 1)
  else
    match h with
    | .h0 => s.claim .h0 (s.epoch + 1)
    | .h1 => s.leadFallback

/-- Start complete of a half, in the order of R495. -/
def State.completeStart (s : State) (h : HalfId) : State :=
  let reset := (s.half h).byReset
  let first := s.key.completed.isEmpty
  let s := s.setFence h 0
  let s := s.modHalf h (fun c => { c with phase := .running, memActive := true, lastBeat := s.count,
                                          crawlFence := c.awaitSplit,
                                          calStart := s.val 0x2002 0x06 == 1 })
  let s := s.copyHalfBlocks h
  let s := (halfComponents h).foldl (fun t b => t.putFlag 0x9001 0x0B b false) s
  let s := s.endPending 0xF010 0x01 (halfNum h) 0
  let s := if reset then s
    else
      let s := { s with key := { s.key with completed := s.key.completed ++ [h],
                                            starting := false } }
      if first then
        (((s.put 0xF000 0x01 0).put 0xF000 0x08 (s.since s.key.startedAt)).bump 0xF000
          0x07).putFlag 0x9001 0x0B 0 false
      else s
  let s := s.leadAtStart h
  let s := if s.key.completed.length = 2 ∧ reset = false then s.antiRollback else s
  let s := if reset = false ∧ s.val 0x1010 0x01 = 4 ∧ (s.pendingOn 0x1010 0x02 0).isNone = true then
    s.put 0x1010 0x01 0 else s
  (s.throttle h).regrant

end Sys2Proof.Machine
end

