-- ==== Sys2Proof/Machine/Start.lean ====
section
/-! DEFINITION. Events of the start (chapter 18, R24, R82, R493 to R496). -/

namespace Sys2Proof.Machine

open Sys2Proof

/-- An input above 80.0 V is outside the ratings (R40). -/
def rated (mv : Nat) (r : Result) : Result := if 80000 < mv then .fault .outsideRatings else r

/-- COLD_POWER_ON (R493, R40): the input rises through 36.0 V and a module start begins. -/
def execColdPowerOn (mv : Nat) (found : Findings) (s : State) : Result :=
  rated mv (if s.key.powered = false ∧ s.sup.switchOpen = false ∧ 36000 ≤ mv then
    .next (s.coldStart mv found) else .next s)

/-- START_COMPLETE (R495). -/
def execStartComplete (h : HalfId) (s : State) : Result :=
  onPower s (fun s => if (s.half h).phase = .starting then s.completeStart h else s)

/-- START_FAIL (R496): the status is that of the images for reason 3 and 0x3001 otherwise (R513). -/
def execStartFail (h : HalfId) (phase reason status : Nat) (s : State) : Result :=
  onPower s (fun s =>
    if (s.half h).phase = .starting then
      s.failStart h phase reason (if reason = 3 then status else 0x3001)
    else s)

/-- START_TIMEOUT (R494): S6 to S10 passed 3.5 s; reason 8, in the phase then running. -/
def execStartTimeout (h : HalfId) (phase : Nat) (s : State) : Result :=
  onPower s (fun s =>
    if (s.half h).phase = .starting then s.failStart h phase 8 0x3001 else s)

/-- CRYSTAL_START_TIMEOUT (R82, R496): the module start fails at S4 with reason 2; both halves are
held with their rails off. -/
def execCrystalStartTimeout (s : State) : Result :=
  onPower s (fun s =>
    if s.flag 0x1000 0x01 0 = false ∧ s.key.atS4 = true then
      let s := (s.startRecord 4 2 0x3001 0).abandonPending 0
      let s := { s with key := { s.key with starting := false, waiting := none, atS4 := false } }
      let s := (s.railsOff .h0 .failed).railsOff .h1 .failed
      ((s.setFence .h0 3).setFence .h1 3).regrant
    else s)

/-- LEAD_START_TIMEOUT (R24): 4 s passed without half 0's start complete; half 1 claims once its own
start is complete. -/
def execLeadStartTimeout (s : State) : Result :=
  onPower s (fun s =>
    if s.runs .h0 then s
    else State.leadFallback { s with key := { s.key with half0Late := true } })

end Sys2Proof.Machine
end

