-- ==== Sys2Proof/Machine/SupplyIn.lean ====
section
/-! DEFINITION. Events of the supply input and the sideband (chapter 02). -/

namespace Sys2Proof.Machine

open Sys2Proof

/-- A pending power-state transition that an event overtakes completes with 0x0000 if the state then
reached is its target and with 0x3001 otherwise (R430). -/
def State.overtake (s : State) (reached : Nat) : State :=
  let target := (s.key.trans.map (·.target)).getD 4
  let s := { s with key := { s.key with trans := none } }
  s.endPending 0x1010 0x02 0 (if target = reached then 0x0000 else 0x3001)

/-- A reading of the input (R53): every supply event carries one, and the power that the input current cap allows
follows it (R44). Below 36.0 V there is no keystone to read it. -/
def State.readInput (s : State) (mv : Nat) : State := if 36000 ≤ mv then (s.senseInput mv).regrant else s

/-- An event of the supply input at a powered keystone: its reading, then what its threshold asks for. -/
def onInput (mv : Nat) (s : State) (f : State → State) : Result := rated mv (onPower s (fun s => f (s.readInput mv)))

/-- SUPPLY_BROWNOUT (R40): below 41.0 V for 20 µs the keystone takes both halves to Keystone-only.
Counted only if they were powered. -/
def execSupplyBrownout (mv : Nat) (s : State) : Result :=
  onInput mv s (fun s =>
    if 36000 ≤ mv ∧ mv < 41000 ∧ s.val 0x0100 0x0D ≠ 3 then
      let s := s.setSupply 3
      let s := { s with sup := { s.sup with alertLow := false },
                        key := { s.key with waiting := none, atS4 := false } }
      (s.toKeystoneOnly.overtake 3).throttleBoth
    else s)

/-- SUPPLY_RECOVER (R40): 44.0 V for 100 ms; the keystone powers both halves up. A start that waited
at S5 goes on, one in S4 still waits for the crystal, one from Keystone-only is a module start of its own (R493, R494). In footing mode the halves stay off,
no longer for the supply. -/
def execSupplyRecover (mv : Nat) (found : Findings) (s : State) : Result :=
  onInput mv s (fun s =>
    if 44000 ≤ mv ∧ s.val 0x0100 0x0D = 3 then
      (if s.flag 0xF000 0x02 0 then s.supplyByAlert
       else if s.key.atS4 then s
       else if s.key.waiting.isSome then s.beginHalves found
       else (s.countAttempt.put 0x1010 0x01 4).beginHalves found)
    else s)

/-- SUPPLY_UNDERVOLTAGE_ALERT (R40): below 44.0 V the supply state is 1; the regulators of powered halves raise ALERT,
which forces crawl. No half regulator runs while both halves are off. -/
def execSupplyUndervoltageAlert (mv : Nat) (s : State) : Result :=
  onInput mv s (fun s =>
    if 41000 ≤ mv ∧ mv < 44000 ∧ s.val 0x0100 0x0D ≠ 3 ∧ s.sup.alertLow = false then
      let s := { s with sup := { s.sup with alertLow := s.halvesPowered } }
      (s.setSupply 1).throttleBoth.regrant
    else s)

/-- SUPPLY_UNDERVOLTAGE_CLEAR (R40): 44.5 V for 1 ms. -/
def execSupplyUndervoltageClear (mv : Nat) (s : State) : Result :=
  onInput mv s (fun s =>
    if 44500 ≤ mv ∧ (s.sup.alertLow = true ∨ s.val 0x0100 0x0D = 1) then
      let s := { s with sup := { s.sup with alertLow := false } }
      (if s.val 0x0100 0x0D = 1 then s.supplyByAlert else s).throttleBoth.regrant
    else s)

/-- SUPPLY_OVERVOLTAGE_ALERT (R40): above 62.0 V ALERT forces crawl. -/
def execSupplyOvervoltageAlert (mv : Nat) (s : State) : Result :=
  onInput mv s (fun s =>
    if 62000 < mv ∧ s.sup.alertHigh = false then
      let s := { s with sup := { s.sup with alertHigh := true } }
      (if s.val 0x0100 0x0D = 3 then s else s.setSupply 2).throttleBoth.regrant
    else s)

/-- SUPPLY_OVERVOLTAGE_CLEAR (R40): at most 61.5 V for 1 ms. -/
def execSupplyOvervoltageClear (mv : Nat) (s : State) : Result :=
  onInput mv s (fun s =>
    if mv ≤ 61500 ∧ s.sup.alertHigh = true then
      let s := { s with sup := { s.sup with alertHigh := false } }
      (if s.val 0x0100 0x0D = 2 then s.supplyByAlert else s).throttleBoth.regrant
    else s)

/-- INPUT_SWITCH_OPEN (R40, R41): 120 ms above 66.0 V accumulated; everything loses power. -/
def execInputSwitchOpen (s : State) : Result :=
  onPower s (fun s =>
    if s.sup.alertHigh then
      let s := (s.bump 0x0100 0x0C).unpower
      { s with sup := { s.sup with switchOpen := true, alertHigh := false, alertLow := false } }
    else s)

/-- INPUT_SWITCH_RECLOSE (R40, R41): 1 s within 44.0 to 60.0 V; the start is a cold power-on. -/
def execInputSwitchReclose (mv : Nat) (found : Findings) (s : State) : Result :=
  rated mv (if s.sup.switchOpen = true ∧ 44000 ≤ mv ∧ mv ≤ 60000 then
    .next (State.coldStart { s with sup := { s.sup with switchOpen := false } } mv found)
  else .next s)

/-- POWER_LOSS (R40, R43, R44): the keystone is off and all outputs float. -/
def execPowerLoss (s : State) : Result :=
  .next (if s.key.powered then s.unpower else s)

/-- REVERSE_POLARITY (R42): the reverse-event cell is set; nothing else has power. -/
def execReversePolarity (s : State) : Result :=
  let t := if s.key.powered then s.unpower else s
  .next { t with sup := { t.sup with reverseCell := true } }

/-- Number of open contact groups. -/
def openGroups (w : Nat) : Nat :=
  bitsOf w 0 1 + bitsOf w 1 1 + bitsOf w 2 1 + bitsOf w 3 1

/-- A change of the open groups: the input current cap follows at 5 A per working VIN contact and
the change is counted (R44). -/
def State.setGroup (s : State) (g : Nat) (isOpen : Bool) : State :=
  let s := s.putFlag 0x0100 0x07 g isOpen
  let s := s.put 0x0100 0x08 ((12 - 3 * openGroups (s.val 0x0100 0x07)) * 5000)
  (s.bump 0x0100 0x0E).regrant

/-- CONTACT_GROUP_OPEN (R44): with all four groups open the module is unpowered. -/
def execContactGroupOpen (group : Nat) (s : State) : Result :=
  onPower s (fun s =>
    if group < 4 ∧ s.flag 0x0100 0x07 group = false then
      if openGroups (s.val 0x0100 0x07) = 3 then s.unpower else s.setGroup group true
    else s)

/-- CONTACT_GROUP_CLEAR (R44). -/
def execContactGroupClear (group : Nat) (s : State) : Result :=
  onPower s (fun s =>
    if group < 4 ∧ s.flag 0x0100 0x07 group = true then s.setGroup group false else s)

/-- PWRBRK_ASSERT (R47): low for 100 ns forces crawl. The pin's level is kept while the keystone has
no power, and counts from the moment it runs. -/
def execPwrbrkAssert (s : State) : Result :=
  let t := { s with sup := { s.sup with pwrbrk := true } }
  if s.key.powered then .next (t.putFlag 0x0101 0x01 7 true).throttleBoth else .next t

/-- PWRBRK_RELEASE (R47): high for 10 µs ends crawl. -/
def execPwrbrkRelease (s : State) : Result :=
  let t := { s with sup := { s.sup with pwrbrk := false } }
  if s.key.powered then .next (t.putFlag 0x0101 0x01 7 false).throttleBoth else .next t

/-- THERM_N_ASSERT (R48): the hottest junction reaches the assert threshold. -/
def execThermNAssert (celsius : Int) (s : State) : Result :=
  onPower s (fun s =>
    if (s.val 0x0101 0x03 : Int) ≤ celsius ∧ s.flag 0x0101 0x01 8 = false then
      (s.putFlag 0x0101 0x01 8 true).repin s .thermN
    else s)

/-- THERM_N_RELEASE (R48): the hottest junction falls below threshold minus hysteresis. -/
def execThermNRelease (celsius : Int) (s : State) : Result :=
  onPower s (fun s =>
    if celsius < (s.val 0x0101 0x03 : Int) - s.val 0x0101 0x04 ∧ s.flag 0x0101 0x01 8 = true then
      (s.putFlag 0x0101 0x01 8 false).repin s .thermN
    else s)

/-- A sideband fault bit rises; rising edges are counted (R54). -/
def State.sidebandFault (s : State) (b : Nat) : State :=
  if s.flag 0x0101 0x01 b then s else (s.putFlag 0x0101 0x01 b true).bump 0x0101 0x02

/-- SIDEBAND_SHORT_DETECT (R50): bits 2 to 6. -/
def execSidebandShortDetect (bit : Nat) (s : State) : Result :=
  onPower s (fun s => if 2 ≤ bit ∧ bit ≤ 6 then s.sidebandFault bit else s)

/-- SIDEBAND_FAULT_CLEAR (R54): bits 6:0 clear once their condition has been absent for 1 s. A hot-join that SDA's
missing pull-up withheld goes out (R51). -/
def execSidebandFaultClear (bit : Nat) (s : State) : Result :=
  onPower s (fun s =>
    if bit ≤ 6 ∧ s.flag 0x0101 0x01 bit = true then
      let t := s.putFlag 0x0101 0x01 bit false
      if bit = 1 then t.hotJoin else t
    else s)

/-- PULLUP_CHECK (R51): a line that the pull-down takes below VIL has no pull-up. -/
def execPullupCheck (sclMissing sdaMissing : Bool) (s : State) : Result :=
  onPower s (fun s =>
    let s := if sclMissing then s.sidebandFault 0 else s
    if sdaMissing then s.sidebandFault 1 else s)

end Sys2Proof.Machine
end

