-- ==== Sys2Proof/Machine/Clocks.lean ====
section
/-! DEFINITION. Events of the clock sources, clock enables and pace monitors (chapter 04). -/

namespace Sys2Proof.Machine

open Sys2Proof

/-- OSC_READY (R82). -/
def execOscReady (s : State) : Result :=
  onPower s (fun s => (s.putFlag 0x1000 0x02 0 true).repin s .clkobs)

/-- CRYSTAL_READY (R82, R83, R86, R87, R95): the count runs from the crystal; a start that waits for it in S4 goes on,
the keystone core on it; a holdover ends and Retain is held for the crystal no longer. -/
def execCrystalReady (s : State) : Result :=
  onPower s (fun s =>
    let old := s
    let s := (s.putFlag 0x1000 0x01 0 true).put 0x1005 0x03 0
    let s := (s.put 0x1000 0x06 0).repin old .clkobs
    match (if s.key.atS4 then s.key.waiting else none) with
    | some found => s.awaitCrystal (s.val 0x0100 0x01) found
    | none => s)

/-- CRYSTAL_LOSS (R86): every selectable domain that runs on the crystal moves to the trimmed
oscillator; the loss is logged and counted; holdover begins. A module whose Retain is held for the
crystal stays so. -/
def execCrystalLoss (s : State) : Result :=
  onPower s (fun s =>
    if s.flag 0x1000 0x01 0 then
      let old := s
      let s := (s.putFlag 0x1000 0x01 0 false).put 0x1005 0x03 1
      let s := ((s.put 0x1000 0x04 1).put 0x1000 0x07 3).put 0x1000 0x08 3
      let s := s.bump 0x1000 0x05
      let s := s.log { cls := clsFailure, unit := unitKeystone, obj := counter 0x1000 0x05 }
      (s.put 0x1000 0x06 1).repin old .clkobs
    else s)

/-- A power-state command applies to the half: it runs and is not fenced (R430). -/
def State.commandable (s : State) (h : HalfId) : Bool := s.runs h && !s.fenced h

/-- Every context of a running half in RUN or SEALING has h_power set and stops issuing strands (R431). -/
def State.powerHold (s : State) : State :=
  s.ctxs.foldl (fun t c => if c.going && t.commandable c.half then t.reasonHold c.n rPower false else t) s

/-- Starts a transition to a low-power state (R429, R430). -/
def State.startEntry (s : State) (target : Nat) : State :=
  let t : Transition := { target := target, prev := s.val 0x1010 0x01, quiet := false,
                          since := s.count, wakes := false }
  let s := { s with key := { s.key with trans := some t } }
  s.put 0x1010 0x01 4

/-- An exit from Keystone-only that is superseded goes no further: what it has powered goes off again (R87, DEDUCED,
assumption 50). -/
def State.backOff (s : State) : State :=
  let s := [HalfId.h0, HalfId.h1].foldl (fun t h =>
    if ((t.half h).phase == .starting || t.runs h) && !t.fenced h then t.halfToKeystoneOnly h else t) s
  State.keystoneOnly { s with key := { s.key with starting := false, waiting := none, atS4 := false } }

/-- HOLDOVER_EXPIRE (R86 phase 4b, R87): entry to Retain starts as a command with hold 1 would; a
commanded transition still pending is superseded; Retain and Keystone-only stay. -/
def execHoldoverExpire (s : State) : Result :=
  onPower s (fun s =>
    if s.val 0x1000 0x06 = 1 ∧ s.flag 0x1000 0x01 0 = false then
      let m := match s.key.trans with
        | some t => t.prev
        | none => s.val 0x1010 0x01
      let s := (s.overtake 2).put 0x1000 0x06 2
      if m = 3 then (if s.val 0x1010 0x01 = 4 then s.backOff else s)
      else if m = 2 then s.put 0x1010 0x01 m
      else ((s.put 0x1010 0x01 m).startEntry 2).powerHold
    else s)

/-- Unit of a course in 0x1006: its word with tile 0xFF. -/
def courseUnit (h : HalfId) (course : Nat) : Nat := mkTile (halfNum h) course 0xFF

/-- Hottest course reading of a half. -/
def State.hottestCourse (s : State) (h : HalfId) : Int :=
  (List.range 33).foldl (fun m c => max m (s.regAt (courseUnit h c) 0x1006 0x04).toInt)
    (s.regAt (courseUnit h 0) 0x1006 0x04).toInt

/-- PACE_MONITOR_REFRESH (R92, R523): a course's measured factor in 1/1,024, local voltage and
junction. -/
def execPaceMonitorRefresh (h : HalfId) (course factor mv : Nat) (celsius : Int) (s : State) :
    Result :=
  onPower s (fun s =>
    if course ≤ 0x20 ∧ s.railsOn h = true then
      let u := courseUnit h course
      let s := (s.putAt u 0x1006 0x02 (toWord factor)).putAt u 0x1006 0x03 (toWord mv)
      let s := s.putAt u 0x1006 0x04 (BitVec.ofInt 32 celsius)
      s.noteJunction h (s.hottestCourse h)
    else s)

/-- PACE_SHORTFALL (R93): logged, counted and a risk event of kind 5; the course keeps running. -/
def execPaceShortfall (h : HalfId) (course : Nat) (s : State) : Result :=
  onPower s (fun s =>
    if course ≤ 0x20 ∧ s.runs h = true then
      let s := s.bump 0x1006 0x06
      let s := s.log { cls := clsWarning, unit := unitManager h, obj := counter 0x1006 0x06 }
      s.riskEvent h 5
    else s)

/-- Half that a block bit of 0x1002.03 belongs to; the keystone owns CLKOBS, I3C and trace (R99). -/
def blockHalf (b : Nat) : Option HalfId :=
  match b with
  | 0 | 5 | 7 => some .h0
  | 1 | 6 | 8 => some .h1
  | _ => none

/-- A block's enable is 1 and its half, if it has one, has reached start complete (R99). -/
def State.mayBeReady (s : State) (sub b : Nat) : Bool :=
  match sub with
  | 0x04 => decide (b < 16) && s.flag 0x1002 0x01 b && s.runs .h0
  | 0x05 => decide (b < 16) && s.flag 0x1002 0x02 b && s.runs .h1
  | 0x06 => decide (b < 9) && s.flag 0x1002 0x03 b &&
      (match blockHalf b with | some h => s.runs h | none => true)
  | _ => false

/-- Spoke instance (half × 256 + spoke) that a ready bit belongs to. -/
def spokeOfBlock (sub b : Nat) : Option Nat :=
  match sub, b with
  | 0x04, _ => some b
  | 0x05, _ => some (256 + b)
  | 0x06, 0 => some 16
  | 0x06, 1 => some (256 + 16)
  | _, _ => none

/-- BLOCK_READY (R99): within 10 µs of enabling, or of its half's start complete. A spoke then begins to
train (R365). -/
def execBlockReady (sub bit : Nat) (s : State) : Result :=
  onPower s (fun s =>
    if s.mayBeReady sub bit && !s.flag 0x1002 sub bit then
      let t := s.putFlag 0x1002 sub bit true
      match spokeOfBlock sub bit with
      | some u => t.putAt u 0x6003 0x02 1
      | none => if sub = 0x06 ∧ bit = 3 then t.hotJoin else t.repin s .clkobs
    else s)

end Sys2Proof.Machine
end

