-- ==== Sys2Proof/Machine/Power.lean ====
section
/-! DEFINITION. Events of power states, governors and energy (chapter 16). -/

namespace Sys2Proof.Machine

open Sys2Proof

/-! ### Power states (R428 to R433) -/

/-- Nothing of a running half works any more (R431). -/
def State.quiesced (s : State) : Bool :=
  s.ctxs.all (fun c => !s.commandable c.half || !c.going && !c.inFlight && !c.upd.running && c.copyStep.isNone) &&
  s.tiles.all (fun t => !s.commandable (halfOf (tileHalf t.addr)) || !t.inPass)

/-- Speed factor of a tile's course in 1/1,024 (R90, 0x1006.02). -/
def State.speedOf (s : State) (p : Nat) : Nat := s.valAt (courseUnit (halfOf (tileHalf p)) (tileCourse p)) 0x1006 0x02

/-- A calibration product is in progress: 180 ns ÷ f have not passed since it started (R180, R234). -/
def State.calActive (s : State) (p : Nat) : Bool :=
  match (s.tile p).calProduct with
  | some c => decide ((s.count - c) * s.speedOf p < 9 * 1024)
  | none => false

/-- QUIESCENCE (R431): entry is timed from here; calibration products are aborted and start again once the core may
issue (R202). -/
def execQuiescence (s : State) : Result :=
  onPower s (fun s =>
    match s.key.trans with
    | some t =>
      if t.quiet = false ∧ t.target ≠ 0 ∧ s.quiesced = true then
        { s with key := { s.key with trans := some { t with quiet := true, since := s.count } },
                 tiles := s.tiles.map (fun (x : Tile) =>
                   { x with calProduct := none, calAgain := x.calAgain || s.calActive x.addr }) }
      else s
    | none => s)

/-- The module is Active: h_power clears; a held context waits for the host's RUN (R431). -/
def State.toActive (s : State) (since : Nat) : State :=
  let s := s.ctxs.foldl (fun t c => t.clearReason c.n rPower) s
  (s.put 0x1010 0x01 0).put 0x1010 0x08 (s.since since)

/-- Exit to Active begins (R432, R433). -/
def State.startExit (s : State) : State :=
  let t : Transition := { target := 0, prev := s.val 0x1010 0x01, quiet := true, since := s.count,
                          wakes := false }
  let s := { s with key := { s.key with trans := some t } }
  s.put 0x1010 0x01 4

/-- Lanes of a half stop (R434): its spokes train again after the return to Active. -/
def State.stopSpokes (s : State) (h : HalfId) : State :=
  (List.range 17).foldl (fun t n =>
    let u := halfNum h * 256 + n
    if t.valAt u 0x6003 0x02 = 0 then t else t.putAt u 0x6003 0x02 1) s

/-- The target state is reached (R428, R429). -/
def State.reachState (s : State) (t : Transition) : State :=
  let s := match t.target with
    | 0 => s.toActive t.since
    | 1 => ((s.put 0x1010 0x01 1).bump 0x1010 0x03).put 0x1010 0x07 (s.since t.since)
    | 2 =>
      let s := ((s.put 0x1010 0x01 2).bump 0x1010 0x04).put 0x1010 0x07 (s.since t.since)
      [HalfId.h0, HalfId.h1].foldl (fun t h => if t.fenced h then t else t.stopSpokes h) s
    | _ => s.commandedOff.put 0x1010 0x07 (s.since t.since)
  let s := { s with key := { s.key with trans := none } }
  let s := s.endPending 0x1010 0x02 0 0x0000
  if t.wakes then s.startExit else s

/-- A power-up of the halves has ended: each has completed or failed its start, or was not started (R429). -/
def State.startSettled (s : State) : Bool :=
  (s.half .h0).phase != .starting && (s.half .h1).phase != .starting && s.key.waiting.isNone

/-- POWER_STATE_REACHED (R429): an entry needs quiescence, an exit from Keystone-only the end of the halves'
power-up. Where no half has come up the module stays in Keystone-only (assumption 60, DEDUCED). -/
def execPowerStateReached (s : State) : Result :=
  onPower s (fun s =>
    match s.key.trans with
    | some t =>
      if t.target = 0 ∧ t.prev = 3 ∧ s.startSettled = false then s
      else if t.target = 0 ∧ t.prev = 3 ∧ s.runs .h0 = false ∧ s.runs .h1 = false then
        let s := State.put { s with key := { s.key with trans := none } } 0x1010 0x01 3
        s.endPending 0x1010 0x02 0 0x3001
      else if t.quiet then s.reachState t else s
    | none => s)

/-- A wake event (R432, R433): in Quiet or Retain the exit begins; during entry it waits for the
entry to end and is counted once; while Retain is held for the crystal nothing leaves it. -/
def State.wakeEvent (s : State) : State :=
  match s.key.trans with
  | some t =>
    if (t.target = 1 ∨ t.target = 2) ∧ t.wakes = false ∧ s.val 0x1000 0x06 ≠ 2 then
      let s := s.bump 0x1010 0x06
      { s with key := { s.key with trans := some { t with wakes := true } } }
    else s
  | none =>
    if s.val 0x1010 0x01 = 1 ∨ (s.val 0x1010 0x01 = 2 ∧ s.val 0x1000 0x06 ≠ 2) then s.startExit
    else s

/-- WAKE (R432). -/
def execWake (s : State) : Result := onPower s State.wakeEvent

/-- A request that wakes the module is served after the exit (R432): the module is Active. -/
def State.wakeNow (s : State) : State :=
  if s.key.trans.isNone && (s.val 0x1010 0x01 == 1 || s.val 0x1010 0x01 == 2) then
    s.toActive s.count
  else s

/-- What is left of a pending transition happens at once. -/
def State.finishTrans (s : State) : State :=
  match s.key.trans with
  | some t => s.reachState t
  | none => s

/-- A RUN write wakes the module from Quiet; during an entry to Quiet that has begun the round trip is completed first
(R432, R433). -/
def State.wakeForRun (s : State) : State :=
  match s.key.trans with
  | some t =>
    if t.target = 1 ∧ t.quiet = true then s.wakeEvent.finishTrans.finishTrans
    else if t.target = 0 ∧ t.prev = 1 then s.finishTrans
    else s
  | none => s.wakeNow

/-- The module is in Retain and held there for the crystal (R432). -/
def State.retainHeld (s : State) : Bool := s.val 0x1010 0x01 == 2 && s.val 0x1000 0x06 == 2

/-! ### Power governor (R440) -/

/-- One evaluation of the power governor: draw and grant in mW. -/
def governPower (c p g : Nat) (low : Bool) : Nat :=
  if g < p then max 4 (c - max 1 ((64 * (p - g) + p - 1) / p))
  else if low ∧ p * 100 < 97 * g then min 64 (c + 1)
  else c

/-- Effective grant of a half in mW. -/
def State.grantMw (s : State) (h : HalfId) : Nat :=
  (match h with | .h0 => s.effective.1 | .h1 => s.effective.2) * 1000

/-- POWER_GOVERN (R440): every 100 µs for a running half. -/
def execPowerGovern (h : HalfId) (drawMw : Nat) (below10ms : Bool) (s : State) : Result :=
  onPower s (fun s =>
    if s.runs h then
      let s := (s.put 0x1011 (0x06 + halfNum h) drawMw).regrant
      let g := s.grantMw h
      (s.modHalf h (fun c => { c with cadP := governPower c.cadP drawMw g below10ms })).throttle h
    else s)

/-- POWER_FAST_CLAMP (R440): 20 samples above 1.1 × G. -/
def execPowerFastClamp (h : HalfId) (s : State) : Result :=
  onPower s (fun s =>
    if s.runs h then (s.modHalf h (fun c => { c with cadP := min c.cadP 32 })).throttle h else s)

/-! ### Droop (R443) -/

/-- DROOP_DETECT: the course withholds issue; counted, a risk event of kind 2. -/
def execDroopDetect (h : HalfId) (course : Nat) (s : State) : Result :=
  onPower s (fun s =>
    if s.railsOn h = true ∧ course ≤ 0x20 ∧ (s.half h).droop.contains course = false then
      let s := s.modHalf h (fun c => { c with droop := c.droop ++ [course] })
      let s := (s.bump (pick h 0x1012 0x1013) 0x06).riskEvent h 2
      s.throttle h
    else s)

/-- DROOP_RECOVER: issue resumes. -/
def execDroopRecover (h : HalfId) (course : Nat) (s : State) : Result :=
  onPower s (fun s =>
    (s.modHalf h (fun c => { c with droop := c.droop.filter (· != course) })).throttle h)

/-! ### Thermal control (R444) -/

/-- THERMAL_THROTTLE: at or above the threshold c_t falls by 2; the entry is counted and is a risk
event of kind 4. -/
def execThermalThrottle (h : HalfId) (celsius : Int) (s : State) : Result :=
  onPower s (fun s =>
    if s.railsOn h = true ∧ (s.val 0x1014 0x01 : Int) ≤ celsius then
      let s := s.noteJunction h celsius
      let entry := (s.half h).cadT == 64
      let s := if entry then (s.bump 0x1014 0x05).riskEvent h 4 else s
      (s.modHalf h (fun c => { c with cadT := max 4 (c.cadT - 2) })).throttle h
    else s)

/-- THERMAL_RECOVER: 3 °C below the threshold for 100 ms, c_t rises by 1. -/
def execThermalRecover (h : HalfId) (celsius : Int) (s : State) : Result :=
  onPower s (fun s =>
    if s.railsOn h = true ∧ celsius < (s.val 0x1014 0x01 : Int) - 3 then
      let s := s.noteJunction h celsius
      (s.modHalf h (fun c => { c with cadT := min 64 (c.cadT + 1) })).throttle h
    else s)

/-- THERMAL_CRAWL: at 105 °C crawl is forced. -/
def execThermalCrawl (h : HalfId) (celsius : Int) (s : State) : Result :=
  onPower s (fun s =>
    if s.railsOn h = true ∧ 105 ≤ celsius then
      ((s.noteJunction h celsius).modHalf h (fun c => { c with crawlThermal := true })).throttle h
    else s)

/-- THERMAL_CRAWL_END (R439): below 103 °C. -/
def execThermalCrawlEnd (h : HalfId) (celsius : Int) (s : State) : Result :=
  onPower s (fun s =>
    if celsius < 103 then
      ((s.noteJunction h celsius).modHalf h (fun c => { c with crawlThermal := false })).throttle h
    else s)

/-- A trip that leaves no half powered overtakes a pending transition: one to Keystone-only is then reached, any other
ends with 0x3001 and the module stays where it was (R430). While the other half is powered the transition goes on for
that half. -/
def State.tripOvertakes (s : State) : State :=
  if s.halvesPowered then s
  else match s.key.trans with
    | none => s
    | some t =>
      if t.target = 3 then s.reachState { t with wakes := false }
      else
        let s := { s with key := { s.key with trans := none } }
        let s := s.endPending 0x1010 0x02 0 0x3001
        if t.prev = 0 then s.toActive s.count else s.put 0x1010 0x01 t.prev

/-- A start in progress ends with the half's power: a half reset that waits for it fails, and the module start counts
without it (R29, R505). -/
def State.dropStart (s : State) (h : HalfId) : State :=
  if (s.half h).phase = .starting then
    let s := s.endPending 0xF010 0x01 (halfNum h) 0x3001
    if h = .h0 then { s with key := { s.key with half0Late := true } } else s
  else s

/-- THERMAL_TRIP: at 108 °C for 100 µs the keystone removes power from the half, handles it as one
whose bridge is lost and marks it with fence state 3 (R444, R29). -/
def execThermalTrip (h : HalfId) (celsius : Int) (s : State) : Result :=
  onPower s (fun s =>
    if s.railsOn h = true ∧ 108 ≤ celsius then
      let late := (s.half h).phase == .starting
      let g := if s.fenced h then (s.half h).lastGrant else s.grant h
      let s := (s.noteJunction h celsius).bump 0x1014 0x06
      let s := (s.dropStart h).dropHalf h
      let s := s.railsOff h .tripped
      let s := s.modHalf h (fun c => { c with lastGrant := g, confirmed := true })
      let s := s.setFence h 3
      let s := s.log { cls := clsFailure, unit := unitKeystone, obj := counter 0x1014 0x06 }
      let s := s.tripOvertakes.regrant
      if late then s.leadFallback else s
    else s)

/-! ### Energy (R446) -/

/-- One context's share of the window's energy, in µJ. -/
def energyShare (e measured total : Nat) : Nat := if total = 0 then 0 else e * measured / total

/-- Energy in pJ of the bytes that a context moved in HBM and in the pannier. -/
def trafficEnergy (traffic : List (Nat × Nat × Nat)) (n : Nat) : Nat :=
  traffic.foldl (fun a t => if t.1 = n then a + 30 * t.2.1 + 80 * t.2.2 else a) 0

/-- ENERGY_RECONCILE: the rail energy of the window in µJ is divided over the contexts in proportion
to their estimates in pJ; the remainder is overhead. The traffic is (context, HBM bytes, pannier bytes) of the window. -/
def execEnergyReconcile (h : HalfId) (measured overheadEstimate moduleEnergy : Nat) (traffic : List (Nat × Nat × Nat))
    (s : State) : Result :=
  onPower s (fun s =>
    if !s.runs h then s else
    let mine := (s.ctxs.filter (fun c => c.half == h)).map (fun (c : Ctx) =>
      { c with energy := c.energy + trafficEnergy traffic c.n })
    let total := mine.foldl (fun a c => a + c.energy) overheadEstimate
    let given := mine.foldl (fun a c => a + energyShare c.energy measured total) 0
    let s := mine.foldl (fun t c =>
      (t.add64 (cidx c.n) 0x16 (energyShare c.energy measured total)).modCtx c.n
        (fun x => { x with energy := 0 })) s
    let s := s.add64 0x1017 (0x01 + 2 * halfNum h) measured
    let s := s.add64 0x1017 (0x05 + 2 * halfNum h) (measured - given)
    s.add64 0x1017 0x09 moduleEnergy)

end Sys2Proof.Machine
end

