-- ==== Sys2Proof/Machine/Numerics.lean ====
section
/-! DEFINITION. Tensors of a step: their geometry, conversion, decoded values, draws, counts, scale
history, and MX import and export (R255 to R263, R264, R270, R272 to R275). -/

namespace Sys2Proof.Machine

open Sys2Proof

/-! ### Draws (R270) -/

/-- The 16 key bytes of a context's generator key. -/
def State.generatorKey (s : State) (n : Nat) : List Nat :=
  ((List.range 4).flatMap (fun w => wordBytes (s.reg (cidx n) (0x18 + w)))).map (·.toNat)

/-- The input block of a draw: step, tensor, use 0, counter. -/
def drawBlock (step tensor i : Nat) : List Nat :=
  beBytes 6 (step % 2 ^ 48) ++ beBytes 2 (tensor % 2 ^ 16) ++ beBytes 8 (i / 8 % 2 ^ 60)

/-- The draw of element `i` of a tensor at a step: a function of key, step, tensor and element alone
(R271). -/
def draw (key : List Nat) (step tensor i : Nat) : Nat :=
  let o := aes key (drawBlock step tensor i)
  256 * o.getD (2 * (i % 8)) 0 + o.getD (2 * (i % 8) + 1) 0

/-! ### Tensor geometry (R255) -/

/-- Blocks along a row. -/
def rowBlocks (cols : Nat) : Nat := (cols + 31) / 32

/-- The tensor has one B8 per 32 × 32 patch. -/
def Tensor.patched (t : Tensor) : Bool :=
  t.grad && (Fmt.ofCode t.format == some .k8 || Fmt.ofCode t.format == some .k8e)

/-- Index of the scale that serves an element. -/
def Tensor.scaleIndex (t : Tensor) (r c : Nat) : Nat :=
  (if t.patched then r / 32 else r) * rowBlocks t.cols + c / 32

def Tensor.fmt (t : Tensor) : Fmt := (Fmt.ofCode t.format).getD .f32

/-- Code of an element; unlisted elements are zero. -/
def Tensor.code (t : Tensor) (r c : Nat) : Nat := (lookup t.codes (r * t.cols + c)).getD 0

/-- B8 code that serves an element. -/
def Tensor.fine (t : Tensor) (r c : Nat) : Nat := (lookup t.scales (t.scaleIndex r c)).getD 0

/-- Decoded element without its scales. -/
def Tensor.elem (t : Tensor) (r c : Nat) : Word := t.fmt.decode (t.code r c)

/-- Value of the fine scale of an element: NaN in an invalid block (R263), 1 where the format has
none. -/
def Tensor.fineVal (t : Tensor) (r c : Nat) : Word :=
  if t.fmt.scaled then (if t.fine r c = 0xFF then f32NaN else b8Val (t.fine r c)) else f32One

/-- Coarse scale in force; 1 where the format has none (R246). -/
def Tensor.coarseVal (t : Tensor) : Word := if t.fmt.scaled then t.coarse else f32One

/-- Value of an element. -/
def Tensor.value (t : Tensor) (r c : Nat) : Word :=
  fmul (fmul (t.elem r c) (t.fineVal r c)) t.coarseVal

/-- FP32 value of an element before conversion. -/
def Tensor.rawAt (t : Tensor) (r c : Nat) : Word := (lookup t.raw (r * t.cols + c)).getD f32Zero

/-! ### Reductions (R264, R265) -/

/-- One term of a reduction: (a × b) × (f_a × f_b), rounded once. -/
def term (a fa b fb : Word) : Word :=
  if [a, fa, b, fb].all f32Finite then
    f32Round ((f32Neg a != f32Neg b) != (f32Neg fa != f32Neg fb)) (f32Units a * f32Units b * f32Units fa * f32Units fb)
      (2 ^ 447)
  else fmul (fmul a b) (fmul fa fb)

/-- Finished reduction: the reference order, then both coarse scales. -/
def dot (terms : List Word) (ca cb : Word) : Word := fmul (fmul (refSum terms) ca) cb

/-! ### Conversion of a block or patch -/

/-- Elements of one block or patch, row-major, clipped at the tensor's edges (R255). -/
def Tensor.cells (t : Tensor) (k : Nat) : List (Nat × Nat) :=
  let nb := rowBlocks t.cols
  let c0 := k % nb * 32
  let rows := if t.patched then (List.range 32).map (fun j => k / nb * 32 + j) else [k / nb]
  (rows.filter (· < t.rows)).flatMap (fun r =>
    ((List.range 32).map (fun j => (r, c0 + j))).filter (fun e => e.2 < t.cols))

/-- Number of blocks or patches. -/
def Tensor.blockCount (t : Tensor) : Nat :=
  (if t.patched then (t.rows + 31) / 32 else t.rows) * rowBlocks t.cols

/-- How a tensor converts: the array-input rule, and the draws of stochastic rounding. -/
structure ConvRule where
  arrayIn : Bool
  draws : Nat → Option Nat

/-- A block of a wide tensor (R295): b and saturation as for K4, elements in K8. 0x4C is 6. -/
def wideBlock (coarse : Word) (xs : List Word) : Block :=
  let b := convBlock .k4 coarse true xs (xs.map (fun _ => none))
  if b.invalid || b.trueZero then b
  else
    let d := fmul coarse (b8Val (b8Array (runMax xs) coarse))
    let cs := xs.map (fun x => Fmt.k8.near x d)
    let cut := cs.map (fun c => if 0x4C < c.code % 128 then c.code / 128 * 128 + 0x4C else c.code)
    let dead := cut.all (· == 0)
    { b with scale := if dead then 0x00 else b8Array (runMax xs) coarse, codes := cut,
             saturated := (cs.filter (fun c => 0x4C < c.code % 128)).length, underflow := dead }

/-- Converts block `k` of a tensor from its FP32 values and adds its counts (R252, R256 to R259). -/
def Tensor.convert (t : Tensor) (rule : ConvRule) (k : Nat) : Tensor :=
  let cells := t.cells k
  let xs := cells.map (fun e => t.rawAt e.1 e.2)
  let ix := cells.map (fun e => e.1 * t.cols + e.2)
  match t.fmt with
  | .k16 =>
    { t with codes := (ix.zip xs).map (fun e => (e.1, k16Of e.2 (rule.draws e.1))) ++ t.codes,
             mRun := fmax t.mRun (runMax xs) }
  | .f32 =>
    { t with codes := (ix.zip xs).map (fun e => (e.1, e.2.toNat)) ++ t.codes,
             mRun := fmax t.mRun (runMax xs) }
  | f =>
    let b := if t.wide then wideBlock t.coarse xs
      else convBlock f t.coarse rule.arrayIn xs (ix.map rule.draws)
    { t with codes := ix.zip b.codes ++ t.codes, scales := (k, b.scale) :: t.scales,
             mRun := fmax t.mRun (runMax xs), sat := t.sat + b.saturated,
             under := t.under + (if b.underflow then 1 else 0),
             invalid := t.invalid + (if b.invalid then 1 else 0), blocks := t.blocks + 1 }

/-- Numerics counters of a half (R278). -/
def numIndex (h : HalfId) : Nat := pick h 0x3020 0x3021

/-- True zero blocks among the scales: m = 0 (R256). -/
def Tensor.trueZeros (t : Tensor) (k : Nat) : Bool :=
  (t.cells k).all (fun e => f32IsZero (t.rawAt e.1 e.2))

/-- Adds the counts that converting blocks `l` of a tensor made to the half's counters. -/
def State.countConv (s : State) (h : HalfId) (old new : Tensor) (l : List Nat) (drawn : Nat) :
    State :=
  let i := numIndex h
  let s := s.add64 i 0x01 (new.blocks - old.blocks)
  let s := s.add64 i 0x03 (if new.fmt.scaled then (l.filter new.trueZeros).length else 0)
  let s := s.add64 i 0x05 (new.under - old.under)
  let s := s.add64 i 0x07 (new.sat - old.sat)
  let s := s.add64 i 0x09 (new.invalid - old.invalid)
  s.add64 i 0x0C drawn

/-! ### Tensors of a context -/

def Ctx.tensor (c : Ctx) (id : Nat) (grad : Bool) : Option Tensor :=
  c.tensors.find? (fun t => t.id == id && t.grad == grad)

def Ctx.setTensor (c : Ctx) (t : Tensor) : Ctx :=
  { c with tensors := replaceBy (fun x => x.id == t.id && x.grad == t.grad) t c.tensors }

/-- An empty tensor. -/
def Tensor.fresh (id : Nat) (grad : Bool) (format rows cols : Nat) (coarse : Word) : Tensor :=
  { id := id, grad := grad, format := format, rows := rows, cols := cols, raw := [], pre := [],
    peak := [], codes := [], scales := [], coarse := coarse, mRun := f32Zero, sat := 0, under := 0,
    invalid := 0, blocks := 0, wide := false, rescaled := false, reshifted := false, parts := [], awaits := 0, ready := false }

/-- The tensor has had its one repeat of the step, of either kind (R294). -/
def Tensor.repeated (t : Tensor) : Bool := t.rescaled || t.reshifted

/-- A contribution from a place of use; a place adds once. -/
def Tensor.addPart (t : Tensor) (place : Nat) (cells : List (Nat × Word)) : Tensor :=
  if t.ready || t.parts.any (fun e => e.1 == place) then t
  else { t with parts := t.parts ++ [(place, cells)], awaits := t.awaits - 1 }

/-- Contributions added in FP32, one rounding each, in descending order of their places. -/
def addParts (l : List (Nat × List (Nat × Word))) : List (Nat × Word) :=
  match (l.mergeSort (fun a b => decide (b.1 ≤ a.1))).map (·.2) with
  | [] => []
  | first :: rest => rest.foldl (fun acc p => (acc.zip p).map (fun e => (e.1.1, fadd e.1.2 e.2.2))) first

/-- The same tensor with nothing converted. -/
def Tensor.cleared (t : Tensor) : Tensor :=
  { t with raw := [], pre := [], peak := [], codes := [], scales := [], mRun := f32Zero, sat := 0,
           under := 0, invalid := 0, blocks := 0, parts := [], ready := false }

/-! ### Scale history (R258 to R260, R277) -/

/-- Byte address of a tensor's scale history record. -/
def State.historyAt (s : State) (n id : Nat) : Nat := s.val64 (cidx n) 0x27 + 128 * id

def State.hbmWord (s : State) (h : HalfId) (a : Nat) : Word := toWord (s.hbmNat h a 4)
def State.putHbm (s : State) (h : HalfId) (a bytes v : Nat) : State :=
  s.hbmWrite h a (natBytes bytes v)

/-- The history entry of a step; steps 0 and below read the layer's initial maximum. -/
def State.historyEntry (s : State) (h : HalfId) (n id : Nat) (init : Word) (step : Int) : Word :=
  if step ≤ 0 then init else s.hbmWord h (s.historyAt n id + 4 * (step.toNat % 16))

/-- Coarse scale of a tensor for step `m` (R258). -/
def State.coarseFor (s : State) (h : HalfId) (n id : Nat) (f : Fmt) (init : Word) (m : Nat) : Word :=
  let l := [1, 2, 3, 4].map (fun k => s.historyEntry h n id init ((m : Int) - k))
  coarseOf f (l.foldl fmax f32Zero)

/-- Instance of a context and a tensor in 0x3010. -/
def tensorUnit (n id : Nat) : Nat := n * 2 ^ 18 + id

/-- Writes the history entry of a step and the record's counts, and their mirror in 0x3010. `init`: the initial maximum,
which the entry before the first reads as. -/
def State.recordTensor (s : State) (h : HalfId) (n : Nat) (t : Tensor) (init : Word) (step : Nat) : State :=
  let a := s.historyAt n t.id
  let slot := step % 16
  let copied := f32IsZero t.mRun
  let m := if copied then s.historyEntry h n t.id init ((step : Int) - 1) else t.mRun
  let rep := s.hbmNat h (a + 92) 4 + (if t.rescaled then 1 else 0)
  let imported := s.hbmNat h (a + 68) 4 / 4 % 2
  let fl := (if t.rescaled then 1 else 0) + (if copied then 2 else 0) + imported * 4
  let s := s.putHbm h (a + 4 * slot) 4 m.toNat
  let s := s.putHbm h (a + 64) 4 t.coarse.toNat
  let s := s.putHbm h (a + 68) 4 fl
  let s := s.putHbm h (a + 72) 8 step
  let s := s.putHbm h (a + 80) 4 t.under
  let s := s.putHbm h (a + 84) 4 t.sat
  let s := s.putHbm h (a + 88) 4 t.invalid
  let s := s.putHbm h (a + 92) 4 rep
  let u := tensorUnit n t.id
  let s := s.putAt u 0x3010 0x03 t.coarse
  let s := s.putAt u 0x3010 0x04 m
  let s := s.putAt u 0x3010 (0x05 + slot) m
  let s := s.put64At u 0x3010 0x15 step
  let s := s.putAt u 0x3010 0x17 (toWord t.under)
  let s := s.putAt u 0x3010 0x18 (toWord t.sat)
  let s := s.putAt u 0x3010 0x19 (toWord t.invalid)
  let s := s.putAt u 0x3010 0x1A (toWord rep)
  s.putAt u 0x3010 0x1B (toWord fl)

/-! ### MX containers (R272 to R275) -/

/-- Bits of one MX element. -/
def mxBits (code : Nat) : Nat :=
  if code = 0x21 then 4 else if code = 0x22 ∨ code = 0x23 then 6 else 8

/-- Native format of an MX type. -/
def mxNative (code : Nat) : Fmt :=
  if code = 0x21 then .k4 else if code = 0x25 then .k8e else if code = 0x26 then .k16 else .k8

/-- Mantissa bits and the least unit's exponent of a floating MX element. -/
def mxShape (code : Nat) : Nat × Nat :=
  match code with
  | 0x21 => (1, 1)
  | 0x22 => (3, 3)
  | 0x23 => (2, 4)
  | 0x24 => (3, 9)
  | _ => (2, 16)

/-- Largest code of an MX element (R272): E2M1 6, E2M3 7.5, E3M2 28, E4M3 448, E5M2 57,344. -/
def mxMax (code : Nat) : Nat :=
  match code with
  | 0x21 => 0x7
  | 0x22 => 0x1F
  | 0x23 => 0x1F
  | 0x24 => 0x7E
  | _ => 0x7B

/-- Value of an MX element as FP32; none for infinity or NaN. -/
def mxElem (code e : Nat) : Option Word :=
  if code = 0x26 then
    let v : Int := if e < 128 then (e : Int) else (e : Int) - 256
    some (f32Round (decide (v < 0)) (v.natAbs * 2 ^ 143) 1)
  else
    let sb := mxBits code - 1
    let mag := e % 2 ^ sb
    let sh := mxShape code
    if mxMax code < mag then none
    else some (f32Sign (bitsOf e sb 1 == 1 && mag != 0)
      (f32Mag (f32Round false (codeUnits sh.1 mag * 2 ^ (149 - sh.2)) 1)))

/-- Element `i` of packed elements at byte address `a` (R275): 6-bit elements are four to three
bytes, the others fill bytes from bit 0. -/
def State.packed (s : State) (h : HalfId) (a bits i : Nat) : Nat :=
  if bits = 6 then s.hbmNat h (a + i / 4 * 3) 3 / 2 ^ (6 * (i % 4)) % 64
  else s.hbmNat h (a + i * bits / 8) 1 / 2 ^ (i * bits % 8) % 2 ^ bits

/-- Shared scale exponents of an MX tensor (R275): one byte per block. -/
def State.mxScales (s : State) (h : HalfId) (d : TensorDecl) : List Nat :=
  (List.range (d.rows * rowBlocks d.cols)).map (fun k => (s.hbmByte h (d.scales + k)).toNat)

/-- Index of element `j` of block `k` in an MX container: a short final block is padded to 32 (R275). -/
def mxPlace (nb k j : Nat) : Nat := k / nb * (32 * nb) + k % nb * 32 + j

/-- Imports block `k` of an MX tensor under the largest exponent `emax` (R273): scale, codes, and
whether it was re-rounded. -/
def State.importBlock (s : State) (h : HalfId) (d : TensorDecl) (arrayIn : Bool) (emax k : Nat) :
    Nat × List Nat × Bool :=
  let f := mxNative d.code
  let e := (s.hbmByte h (d.scales + k)).toNat
  let nb := rowBlocks d.cols
  let c0 := k % nb * 32
  let n := min 32 (d.cols - c0)
  let els := (List.range n).map (fun j =>
    mxElem d.code (s.packed h d.base (mxBits d.code) (mxPlace nb k j)))
  if e = 0xFF ∨ els.any (·.isNone) = true then (0xFF, els.map (fun _ => 0), false)
  else
    let xs := els.map (fun x => x.getD f32Zero)
    let sh := emax - e
    let cut := if arrayIn && f == .k4 then 7 else 17
    if sh ≤ cut then
      ((if sh ≤ 14 then 0x78 - 8 * sh else 2 ^ (17 - sh)),
        if d.code = 0x21 then (List.range n).map (fun j => s.packed h d.base 4 (mxPlace nb k j))
        else xs.map (fun x => (f.near x f32One).code), false)
    else
      let cs := xs.map (fun x => (f.near x (f32Pow2 ((sh : Int) - cut))).code)
      ((if cs.all (· == 0) then 0x00 else if cut = 7 then 0x40 else 0x01), cs, true)

/-- The tensor a declaration places in memory, as the step reads it: native storage, or an import
from MX (R272, R273). The answer counts the blocks imported and those re-rounded. -/
def State.readDecl (s : State) (h : HalfId) (d : TensorDecl) (arrayIn : Bool) :
    Tensor × Nat × Nat :=
  if 0x21 ≤ d.code ∧ d.code ≤ 0x26 then
    let es := (s.mxScales h d).filter (· != 0xFF)
    let emax := es.foldl max 0
    let f := mxNative d.code
    let coarse := if es.isEmpty then f32One else f32Pow2 ((emax : Int) - 127)
    let nb := rowBlocks d.cols
    let bl := (List.range (d.rows * nb)).map (fun k => (k, s.importBlock h d arrayIn emax k))
    let codes := bl.flatMap (fun e =>
      ((List.range e.2.2.1.length).zip e.2.2.1).map (fun x =>
        (e.1 / nb * d.cols + e.1 % nb * 32 + x.1, x.2)))
    if f = .k16 then
      let t := Tensor.fresh d.id false 0x04 d.rows d.cols f32One
      let codes := bl.flatMap (fun e =>
        ((List.range e.2.2.1.length).zip e.2.2.1).map (fun x =>
          let v := fscale (Fmt.k16.decode x.2)
            (((s.hbmByte h (d.scales + e.1)).toNat : Int) - 127)
          (e.1 / nb * d.cols + e.1 % nb * 32 + x.1,
            if e.2.1 = 0xFF then 0x7FC0 else k16Of v none)))
      ({ t with codes := codes, ready := true }, bl.length, 0)
    else
      let code := if f = .k4 then 0x01 else if f = .k8e then 0x03 else 0x02
      let t := Tensor.fresh d.id false code d.rows d.cols coarse
      ({ t with codes := codes, scales := bl.map (fun e => (e.1, e.2.1)), ready := true },
        bl.length, (bl.filter (fun e => e.2.2.2)).length)
  else
    let t := Tensor.fresh d.id false d.code d.rows d.cols d.coarse
    let w := t.fmt.signBit + 1
    let codes := (List.range (d.rows * d.cols)).map (fun i =>
      (i, if w = 4 then s.packed h d.base 4 i else s.hbmNat h (d.base + i * (w / 8)) (w / 8)))
    let scales := if t.fmt.scaled then
      (List.range t.blockCount).map (fun k => (k, (s.hbmByte h (d.scales + k)).toNat)) else []
    ({ t with codes := codes, scales := scales, ready := true }, 0, 0)

/-- What the step's import of a tensor from MX leaves in its record and the counters (R260, R263, R278): blocks imported,
blocks re-rounded. -/
def State.recordImport (s : State) (h : HalfId) (n : Nat) (t : Tensor) (blocks rounded : Nat) : State :=
  let i := numIndex h
  let bad := (t.scales.filter (fun e => e.2 == 0xFF)).length
  let s := ((s.add64 i 0x0E blocks).addAt 0 i 0x12 rounded).add64 i 0x09 bad
  if blocks = 0 ∨ t.fmt.scaled = false then s
  else
    let a := s.historyAt n t.id
    let s := ((s.putHbm h (a + 64) 4 t.coarse.toNat).putHbm h (a + 68) 4 4).putHbm h (a + 88) 4 bad
    let u := tensorUnit n t.id
    ((s.putAt u 0x3010 0x03 t.coarse).putAt u 0x3010 0x19 (toWord bad)).putAt u 0x3010 0x1B 4

/-- Exponent X of an exported block: the smallest power of two ≥ coarse × b, as an E8M0 code
(R274). -/
def mxScaleOf (coarse : Word) (b : Nat) : Nat :=
  ((List.range 255).find? (fun (e : Nat) =>
    decide (f32Units coarse * f32Units (b8Val b) ≤ 2 ^ (e + 171)))).getD 254

/-- Nearest MX element to an exact value ÷ X, ties to even, and whether it was clamped (R274): the value's sign and its
magnitude in 2^-447, and X as an E8M0 code. -/
def mxNear (code : Nat) (neg : Bool) (units e : Nat) : Nat × Bool :=
  let den := 2 ^ (e + 320)
  if code = 0x26 then
    let q := divEven (units * 64) den
    let m := min q 127
    ((if neg && m != 0 then 256 - m else m), decide (127 < q))
  else
    let sh := mxShape code
    let q := codeNear sh.1 (units * 2 ^ sh.2) den
    let m := min q (mxMax code)
    ((if neg && m != 0 then 2 ^ (mxBits code - 1) else 0) + m, decide (mxMax code < q))

/-- Packs elements into bytes (R275). -/
def packBytes (bits : Nat) (l : List Nat) : List Byte :=
  natBytes ((l.length * bits + 7) / 8) ((l.reverse).foldl (fun a e => a * 2 ^ bits + e) 0)

/-- The E8M0 code, elements and clamps of one exported block. -/
def Tensor.exportBlock (t : Tensor) (code r k : Nat) : Nat × List Nat × Nat :=
  let cs := ((List.range 32).map (fun j => k * 32 + j)).filter (· < t.cols)
  let b := t.fine r (k * 32)
  if b = 0xFF then (0xFF, List.replicate 32 0, 0)
  else if b = 0 ∧ t.fmt.scaled = true then (0x00, List.replicate 32 0, 0)
  else
    let e := mxScaleOf t.coarseVal (if t.fmt.scaled then b else 0x78)
    let xs := cs.map (fun c => mxNear code (f32Neg (t.elem r c))
      (f32Units (t.elem r c) * f32Units (t.fineVal r c) * f32Units t.coarseVal) e)
    (e, xs.map (·.1) ++ List.replicate (32 - xs.length) 0, (xs.filter (·.2)).length)

/-- Writes a tensor to the place its declaration gives: native codes and scales, or MX (R274). -/
def State.writeDecl (s : State) (h : HalfId) (d : TensorDecl) (t : Tensor) : State :=
  let i := numIndex h
  if 0x21 ≤ d.code ∧ d.code ≤ 0x26 then
    let nb := rowBlocks t.cols
    let bl := (List.range (t.rows * nb)).map (fun k => t.exportBlock d.code (k / nb) (k % nb))
    let s := s.hbmWrite h d.base (packBytes (mxBits d.code) (bl.flatMap (fun b => b.2.1)))
    let s := s.hbmWrite h d.scales (bl.map (fun b => BitVec.ofNat 8 b.1))
    let s := s.add64 i 0x10 bl.length
    s.addAt 0 i 0x13 ((bl.map (fun b => b.2.2)).foldl (· + ·) 0)
  else
    let w := t.fmt.signBit + 1
    let cs := (List.range (t.rows * t.cols)).map (fun j => (lookup t.codes j).getD 0)
    let s := s.hbmWrite h d.base (packBytes w cs)
    if t.fmt.scaled then
      s.hbmWrite h d.scales ((List.range t.blockCount).map (fun k =>
        BitVec.ofNat 8 ((lookup t.scales k).getD 0)))
    else s

end Sys2Proof.Machine
end

