-- ==== Sys2Proof/Machine/Special.lean ====
section
/-! DEFINITION. The functions that R209, R285 and R320 bound and do not define bit for bit: each result is the family's
own where it keeps the rule's bound, else the exact value rounded (assumption 7). Exact values are evaluated in fixed
point with 128 fractional bits, far finer than any bound. -/

namespace Sys2Proof.Machine

open Sys2Proof

/-! ### Fixed point -/

/-- One, ln 2 and 1 / √(2π) in 2^-128. -/
def fixOne : Nat := 2 ^ 128
def fixLn2 : Nat := 235865763225513294137944142764154484399
def fixDensity : Nat := 135753023439836232162591007175785461952

/-- A finite word in 2^-128. -/
def fixOf (w : Word) : Int := f32Int w / (2 ^ 21 : Int)

/-- Terms of e^r from the n-th on, the one before being `t`, for 0 ≤ r < ln 2. -/
def expTerms : Nat → Nat → Nat → Nat → Nat
  | 0, _, t, _ => t
  | k + 1, n, t, r => t + expTerms k (n + 1) (t * r / (n * fixOne)) r

/-- e^r for 0 ≤ r < ln 2. -/
def expFrac (r : Nat) : Nat := expTerms 40 1 fixOne r

/-- e^-a; 0 from 64 on. -/
def expNeg (a : Nat) : Nat :=
  if 64 * fixOne ≤ a then 0 else fixOne * fixOne / expFrac (a % fixLn2) / 2 ^ (a / fixLn2)

/-- σ. -/
def sigmaFix (z : Int) : Int :=
  let e := expNeg z.natAbs
  (if z < 0 then e * fixOne / (fixOne + e) else fixOne * fixOne / (fixOne + e) : Nat)

/-- tanh z = 2 σ(2 z) - 1. -/
def tanhFix (z : Int) : Int := 2 * sigmaFix (2 * z) - (fixOne : Nat)

/-- Density of the normal distribution. -/
def densityFix (z : Int) : Nat := fixDensity * expNeg (z.natAbs * z.natAbs / (2 * fixOne)) / fixOne

/-- x + x³/3 + x⁵/(3·5) + …, of which the normal distribution function is made. -/
def normalTerms : Nat → Nat → Nat → Nat → Nat
  | 0, _, t, _ => t
  | k + 1, n, t, q => t + normalTerms k (n + 2) (t * q / (n * fixOne)) q

/-- Φ; 0 and 1 beyond 8. -/
def normalFix (z : Int) : Int :=
  let x := z.natAbs
  if 8 * fixOne ≤ x then (if z < 0 then 0 else (fixOne : Nat))
  else
    let d : Int := (densityFix z * normalTerms 160 3 x (x * x / fixOne) / fixOne : Nat)
    (fixOne / 2 : Nat) + (if z < 0 then -d else d)

/-- Product of two fixed values. -/
def fixMul (a b : Int) : Int := a * b / (fixOne : Int)

/-! ### Results within a bound -/

/-- The family's word where it lies within `bound` of the exact value `num` / `den` × 2^-149, else the exact value
rounded. -/
def within (num : Int) (den bound : Nat) (w : Word) : Word :=
  if f32Finite w && decide ((f32Int w * den - num).natAbs ≤ bound) then w
  else f32Round (decide (num < 0)) num.natAbs den

/-- The same of a fixed value and a fixed bound. -/
def withinFix (e : Int) (bound : Nat) (w : Word) : Word := within (e * 2 ^ 21) 1 (bound * 2 ^ 21) w

/-- Bounds of R209 and R320. -/
def bound12 : Nat := 2 ^ 116
def bound13 : Nat := 2 ^ 115
/-- 2^-12 × max(1, |x|). -/
def boundScaled (z : Int) : Nat := max fixOne z.natAbs / 2 ^ 12

/-- GELU, SiLU, sigmoid and tanh of a finite word (R209). -/
def geluOf (x : Word) : Word :=
  let z := fixOf x
  withinFix (fixMul z (normalFix z)) (boundScaled z) (Config.gelu x)
def siluOf (x : Word) : Word :=
  let z := fixOf x
  withinFix (fixMul z (sigmaFix z)) (boundScaled z) (Config.silu x)
def sigmoidOf (x : Word) : Word := withinFix (sigmaFix (fixOf x)) bound13 (Config.sigmoid x)
def tanhOf (x : Word) : Word := withinFix (tanhFix (fixOf x)) bound13 (Config.tanh x)

/-- Their derivatives (R320); of a plane's value that is not finite the family's own. -/
def geluSlopeOf (x : Word) : Word :=
  let z := fixOf x
  if f32Finite x then withinFix (normalFix z + fixMul z (densityFix z : Nat)) bound12 (Config.geluSlope x)
  else Config.geluSlope x
def siluSlopeOf (x : Word) : Word :=
  let z := fixOf x
  let g := sigmaFix z
  if f32Finite x then
    withinFix (fixMul g ((fixOne : Nat) + fixMul z ((fixOne : Nat) - g))) bound12 (Config.siluSlope x)
  else Config.siluSlope x
def sigmoidSlopeOf (x : Word) : Word :=
  let g := sigmaFix (fixOf x)
  if f32Finite x then withinFix (fixMul g ((fixOne : Nat) - g)) bound13 (Config.sigmoidSlope x) else Config.sigmoidSlope x
def tanhSlopeOf (x : Word) : Word :=
  let g := tanhFix (fixOf x)
  if f32Finite x then withinFix ((fixOne : Nat) - fixMul g g) bound13 (Config.tanhSlope x) else Config.tanhSlope x

/-- exp within 1 unit in the last place (R285): e^z = 2^k × e^r, 0 ≤ r < ln 2. -/
def expOf (x : Word) : Word :=
  if f32IsNaN x then f32NaN
  else if f32IsInf x then (if f32Neg x then f32Zero else x)
  else
    let z := fixOf x
    let k := z / (fixLn2 : Int)
    if 128 ≤ k then f32Inf false
    else
      let num : Nat := if k < -200 then 0 else expFrac (z % (fixLn2 : Int)).toNat * 2 ^ (k + 221).toNat
      within num (2 ^ 200) (2 ^ 200 * 2 ^ (k + 126).toNat) (Config.exp x)

end Sys2Proof.Machine
end

