-- ==== Sys2Proof/Machine/Layers.lean ====
section
/-! DEFINITION. Layer records, the tiles of a layer, activation, pooling and output conversion
(R181, R207 to R212, R280, R281, R313, R315). -/

namespace Sys2Proof.Machine

open Sys2Proof

/-! ### Records (R280, R313) -/

/-- The little-endian number of `n` bytes at an offset of a byte block. -/
def fieldAt (l : List Byte) (off n : Nat) : Nat := bytesNat ((l.drop off).take n)

/-- A layer record of 64 bytes. -/
def Layer.parse (l : List Byte) : Layer :=
  { kind := fieldAt l 0 1, activation := fieldAt l 1 1, pooling := fieldAt l 2 2,
    nIn := fieldAt l 4 4, nOut := fieldAt l 8 4, input := fieldAt l 12 2, output := fieldAt l 14 2,
    input2 := fieldAt l 16 2, format := fieldAt l 18 1, range := fieldAt l 19 1,
    flags := fieldAt l 20 2, strand := fieldAt l 22 2, initMax := toWord (fieldAt l 24 4),
    slope := toWord (fieldAt l 28 4), xMin := toWord (fieldAt l 32 4),
    xMax := toWord (fieldAt l 36 4), weights := fieldAt l 40 4, bias := fieldAt l 44 4,
    table := fieldAt l 48 4, params := fieldAt l 52 4, gradFormat := fieldAt l 56 1,
    bflags := fieldAt l 57 1, tie := fieldAt l 58 2, area := fieldAt l 60 4,
    digital := fieldAt l 0 1 != 0 || bitsOf (fieldAt l 20 2) 3 1 == 1 }

def Layer.poolOp (L : Layer) : Nat := L.pooling / 256
def Layer.window (L : Layer) : Nat := 2 ^ (L.pooling % 256)
def Layer.stochastic (L : Layer) : Bool := bitsOf L.flags 0 1 == 1
def Layer.blockScope (L : Layer) : Bool := bitsOf L.flags 1 1 == 1
def Layer.watched (L : Layer) : Bool := bitsOf L.flags 2 1 == 0
def Layer.noDX (L : Layer) : Bool := bitsOf L.bflags 0 1 == 1
def Layer.noDW (L : Layer) : Bool := bitsOf L.bflags 1 1 == 1
def Layer.rowMask (L : Layer) : Bool := bitsOf L.bflags 2 1 == 1
def Layer.blockMask (L : Layer) : Bool := bitsOf L.bflags 3 1 == 1
def Layer.seed (L : Layer) : Bool := bitsOf L.bflags 4 1 == 1

/-! ### Tiles of a layer (R281) -/

def Layer.tileRows (L : Layer) : Nat := (L.nIn + 1023) / 1024
def Layer.blocks (L : Layer) : Nat := (L.nOut + 511) / 512

/-- Tiles that a matrix layer takes where it is not digital-resident. -/
def Layer.tileCount (L : Layer) : Nat := if L.digital then 0 else L.tileRows * L.blocks

/-- Weight columns in use in block `j`, weight rows in use in tile row `i` (R181). -/
def Layer.outCols (L : Layer) (j : Nat) : Nat := min 512 (L.nOut - 512 * j)
def Layer.inRows (L : Layer) (i : Nat) : Nat := min 1024 (L.nIn - 1024 * i)

/-- Layer, block and tile row that the tile at a place of the placement order serves. -/
structure Seat where
  layer : Nat
  block : Nat
  row : Nat
  deriving DecidableEq, Repr

/-- Seat of place `t` among layers numbered from `k`. -/
def seatFrom : List Layer → Nat → Nat → Option Seat
  | [], _, _ => none
  | L :: r, k, t =>
    if t < L.tileCount then some { layer := k, block := t / L.tileRows, row := t % L.tileRows }
    else seatFrom r (k + 1) (t - L.tileCount)

/-- First place of layer `k`'s tiles. -/
def firstPlace : List Layer → Nat → Nat
  | [], _ => 0
  | _, 0 => 0
  | L :: r, k + 1 => L.tileCount + firstPlace r k

/-- Owner of the tiles that a context runs on: itself, or the owner a companion names (R153). -/
def State.tileOwner (s : State) (n : Nat) : Nat :=
  if s.flag (cidx n) 0x05 5 then s.val (cidx n) 0x06 else n

/-- Logical tiles that a context runs on, in placement order. -/
def State.tilesOf (s : State) (n : Nat) : List Nat :=
  match s.ctx (s.tileOwner n) with
  | some c => c.tiles
  | none => []

/-- The seat of a logical tile in a context's layers. -/
def State.seat (s : State) (c : Ctx) (l : Nat) : Option Seat :=
  let ts := s.tilesOf c.n
  if ts.contains l then seatFrom c.layers 0 (ts.idxOf l) else none

/-- Logical tile of a layer's block and tile row. -/
def State.seatTile (s : State) (c : Ctx) (k block row : Nat) : Option Nat :=
  match c.layers[k]? with
  | some L => (s.tilesOf c.n)[firstPlace c.layers k + block * L.tileRows + row]?
  | none => none

/-- Context that owns a logical tile (R150). -/
def State.ownerOf (s : State) (l : Nat) : Option Ctx := s.ctxs.find? (fun c => c.tiles.contains l)

/-! ### Activation (R209, R210) -/

/-- Segment of an input in a piecewise table. -/
def tableSegment (xMin xMax x : Word) : Nat :=
  let q := fdiv (f32OfNat 256) (fsub xMax xMin)
  let i := f32Floor (fmul (fsub x xMin) q)
  (min 255 (max 0 i)).toNat

/-- Stage 5. A non-finite value passes through unchanged. -/
def activate (act : Nat) (slope xMin xMax : Word) (table : Nat → Word × Word) (x : Word) : Word :=
  if !f32Finite x then x
  else match act with
    | 0 => x
    | 1 => if flt f32Zero x then x else f32Zero
    | 2 => if flt f32Zero x then x else fmul slope x
    | 3 => geluOf x
    | 4 => siluOf x
    | 5 => sigmoidOf x
    | 6 => tanhOf x
    | _ =>
      let e := table (tableSegment xMin xMax x)
      fadd (fmul e.1 x) e.2

/-! ### Pooling (R211) -/

/-- The larger value, +0 above -0; a NaN is kept. -/
def poolMax (a b : Word) : Word :=
  if f32IsNaN a then a
  else if f32IsNaN b then b
  else if flt a b then b
  else if f32IsZero a && f32IsZero b && f32Neg a then b
  else a

/-- Offset of the first maximal value of a window. -/
def peakOf : List Word → Nat
  | l =>
    let m := match l with
      | [] => f32Zero
      | a :: r => r.foldl poolMax a
    (l.findIdx? (fun x => x == m)).getD 0

/-- One output of a window of values in ascending vector order. -/
def poolValues (op : Nat) (l : List Word) : Word :=
  match l with
  | [] => f32Zero
  | a :: r =>
    match op with
    | 1 => r.foldl poolMax a
    | 2 => r.foldl fadd a
    | 3 => fdiv (r.foldl fadd a) (f32OfNat l.length)
    | _ => a

/-- Entry `j` of each list of a window. -/
def column (l : List (List Word)) (j : Nat) : List Word := l.map (fun v => v.getD j f32Zero)

/-! ### Output conversion of a row range (R212) -/

/-- Puts values of a row from a first column into a tensor. -/
def Tensor.putRow (t : Tensor) (r c0 : Nat) (l : List Word) : Tensor :=
  { t with raw := ((List.range l.length).zip l).map (fun e => (r * t.cols + c0 + e.1, e.2)) ++ t.raw }

/-- Keeps stage 4 results of a vector (R315). -/
def Tensor.putPre (t : Tensor) (v c0 : Nat) (l : List Word) : Tensor :=
  { t with pre := ((List.range l.length).zip l).map (fun e => (v * t.cols + c0 + e.1, e.2)) ++ t.pre }

def Tensor.putPeak (t : Tensor) (r c0 : Nat) (l : List Nat) : Tensor :=
  { t with peak := ((List.range l.length).zip l).map (fun e => (r * t.cols + c0 + e.1, e.2))
                     ++ t.peak }

/-- Blocks of a row that a range of columns covers. -/
def rowRange (cols r c0 n : Nat) : List Nat :=
  (List.range (rowBlocks n)).map (fun j => r * rowBlocks cols + c0 / 32 + j)

/-- The step a context computes (R142). -/
def State.stepOf (s : State) (n : Nat) : Nat := s.val64 (cidx n) 0x12 + 1

/-- The tensor feeds an analogue array: a layer in tiles takes it (R257). -/
def feedsTiles (l : List Layer) (id : Nat) : Bool := l.any (fun L => L.input == id && !L.digital)

/-- Rounding of a tensor: stochastic draws where the layer selects it, the format is not K4 and the
values are sums of at least 0x3000.07 terms (R268). -/
def State.convRule (s : State) (n : Nat) (L : Layer) (t : Tensor) (terms : Nat) (arrayIn : Bool) :
    ConvRule :=
  let on := L.stochastic && t.fmt != .k4 && t.fmt != .f32 && decide (s.val 0x3000 0x07 ≤ terms)
  let key := s.generatorKey n
  let step := s.stepOf n
  { arrayIn := arrayIn, draws := fun i => if on then some (draw key step t.id i) else none }

/-- Converts blocks of a tensor of a context and counts what conversion did (R252, R278). -/
def State.convBlocks (s : State) (c : Ctx) (L : Layer) (t : Tensor) (terms : Nat) (arrayIn : Bool)
    (l : List Nat) : State × Tensor :=
  let rule := s.convRule c.n L t terms arrayIn
  let new := l.foldl (fun x k => x.convert rule k) t
  let drawn := ((l.flatMap t.cells).filter (fun e => (rule.draws (e.1 * t.cols + e.2)).isSome)).length
  let s := s.countConv c.half t new l drawn
  (s.setCtx { c.setTensor new with draws := c.draws + drawn }, new)

/-- Codes and scales of a row range, as a ring or a message holds them. -/
def Tensor.rowCodes (t : Tensor) (r c0 n : Nat) : List Nat :=
  (List.range n).map (fun j => t.code r (c0 + j))
def Tensor.rowScales (t : Tensor) (r c0 n : Nat) : List Nat :=
  (List.range (rowBlocks n)).map (fun j => t.fine r (c0 + 32 * j))

end Sys2Proof.Machine
end

