-- ==== Sys2Proof/Machine/Tiles.lean ====
section
/-! DEFINITION. Arrays, converter slices, the tile surround and the row write-verify (chapters 07 and
08), with the commands of a tile. -/

namespace Sys2Proof.Machine

open Sys2Proof

/-! ### Calibration registers (R219 to R222) -/

/-- Instance of a tile's set, and of a group's set: 0 active, 1 pending. -/
def setUnit (p set : Nat) : Nat := p * 2 ^ 18 + set
def groupUnit (p g set : Nat) : Nat := (p * 2 ^ 18 + g) * 2 ^ 18 + set

def State.sliceWord (s : State) (p set sl m : Nat) : Word :=
  s.regAt (setUnit p set) 0x2010 (0x03 + 2 * sl + m)
def State.trimCode (s : State) (p set q : Nat) : Nat := s.valAt (setUnit p set) 0x2010 (0x47 + q)
def State.sliceOf (s : State) (p set g : Nat) : Nat := s.valAt (setUnit p set) 0x2010 (0x67 + g)
def State.colWord (s : State) (p set g k : Nat) : Word := s.regAt (groupUnit p g set) 0x2011 (0x04 + k)
def State.quadElem (s : State) (p set g i a b : Nat) : Word :=
  s.regAt (groupUnit p g set) 0x2011 (0x15 + 16 * i + 4 * a + b)

/-- Gain and offset of a correction word (R220). -/
def corrGain (w : Word) : Word := fscale (f32OfNat (w.toNat / 65536)) (-15)
def corrOff (w : Word) : Word := fscale (f32OfInt (halfInt w.toNat)) (-6)

/-- Copies the pending set of a tile to the active set (R200). -/
def State.copySet (s : State) (p : Nat) : State :=
  let s := (List.range 0x84).foldl (fun t j =>
    t.putAt (setUnit p 0) 0x2010 (0x03 + j) (t.regAt (setUnit p 1) 0x2010 (0x03 + j))) s
  (List.range 32).foldl (fun t g => (List.range 0x51).foldl (fun t j =>
    t.putAt (groupUnit p g 0) 0x2011 (0x04 + j) (t.regAt (groupUnit p g 1) 0x2011 (0x04 + j))) t) s

/-- At a strand boundary a waiting pending set becomes active, and is counted (R200). -/
def State.switchSet (s : State) (p : Nat) : State :=
  if (s.tile p).dirty then
    ((s.copySet p).bumpAt p 0x4010 0x30).modTile p (fun t => { t with dirty := false })
  else s

/-- A write has landed in the pending set: it becomes active at once where no strand is issued. -/
def State.landSet (s : State) (p : Nat) : State :=
  let s := s.modTile p (fun t => { t with dirty := true })
  if s.tileBusy p then s else s.switchSet p

/-! ### Driving (R179, R182, R183, R185, R257) -/

/-- Unit pulses of a K4 code, negative for negative polarity. -/
def pulses (code : Nat) : Int :=
  let m := [0, 1, 2, 3, 4, 6, 8, 12].getD (code % 8) 0
  if code % 16 < 8 then m else -m

/-- Gain of a group exponent in 1/128; none for a code outside R257. -/
def groupGain (b : Nat) : Option Nat :=
  if b = 0 then some 0
  else if 0x40 ≤ b ∧ b ≤ 0x78 ∧ b % 8 = 0 then some (2 ^ ((b - 0x40) / 8))
  else none

/-- The vector names a group code that is refused at issue. -/
def vecRefused (v : InVec) : Bool := v.groups.any (fun b => (groupGain b).isNone)

/-- K4 conversion of a value (R252). -/
def k4Of (x : Word) : Nat := (Fmt.k4.near x f32One).code

/-- High and residual slice of a wide element (R185). -/
def wideHigh (code : Nat) : Nat := k4Of (Fmt.k8.decode code)
def wideLow (code : Nat) : Nat :=
  k4Of (fmul (f32OfNat 8) (fsub (Fmt.k8.decode code) (Fmt.k4.decode (wideHigh code))))

/-- The K4 slices that a vector runs as: one, or high then residual. -/
def vecSlices (v : InVec) : List (List Nat) :=
  if v.wide then [v.codes.map wideHigh, v.codes.map wideLow] else [v.codes]

/-- Signed pulses of the weight rows in use; a zero group drives none. -/
def drive (codes groups : List Nat) (rows : Nat) : List Int :=
  (List.range rows).map (fun r => if groups.getD (r / 32) 0 = 0 then 0 else pulses (codes.getD r 0))

def activity (d : List Int) : Nat := d.foldl (fun a p => a + p.natAbs) 0

/-- The rows of residue `k` modulo `n`; all other rows get no pulse. -/
def residue (d : List Int) (n k : Nat) : List Int :=
  ((List.range d.length).zip d).map (fun e => if e.1 % n = k then e.2 else 0)

/-- Number of passes (R183). -/
def passCount (d : List Int) (ceiling : Nat) : Nat :=
  if activity d ≤ ceiling then 1
  else if activity d ≤ 2 * ceiling ∧ activity (residue d 2 0) ≤ ceiling ∧
      activity (residue d 2 1) ≤ ceiling then 2
  else 4

/-! ### One conversion (R197, R198) -/

/-- What every column collects in one pass, cell by cell, in 1/102,400 level-pulses: unit pulses × row-group gain × drive
amplitude 1 + (trim code − 32) × 0.125 % × level (R179, R221, R257). -/
def State.charges (s : State) (p : Nat) (d : List Int) (groups : List Nat) : List (Nat × Int) :=
  (s.tile p).cells.filterMap (fun x =>
    match s.servedRow p (x.1 / 2240), s.servedCol p (x.1 % 2240) with
    | some row, some col =>
      let gain : Int := ((groupGain (groups.getD (row / 32) 0)).getD 0 : Nat)
      let amplitude : Int := (768 + s.trimCode p 0 (row / 32) : Nat)
      some (col, d.getD row 0 * gain * amplitude * (x.2 : Nat))
    | _, _ => none)

/-- The major and the minor sample of an element. -/
def sampleOf (l : List (Nat × Int)) (e : Nat) : Int × Int :=
  let c := fun j => (l.filter (fun x => x.1 == elemCol e + j)).foldl (fun a x => a + x.2) (0 : Int)
  (c 0 - c 1, c 2 - c 3)

/-- Ends of a mode's code range. -/
def codeLow (fine : Bool) : Int := if fine then -1024 else -256
def codeHigh (fine : Bool) : Int := if fine then 1023 else 255

/-- A sample converts to a code of the mode's range. What the analogue path adds (gain, offset,
coupling, noise) is a free value (assumption 18). -/
def convert (fine : Bool) (r : Nat) (sample dev : Int) : Int :=
  let c := sample * (if fine then 4 else 1) / ((102400 * 2 ^ r : Nat) : Int) + dev
  max (codeLow fine) (min (codeHigh fine) c)

/-- The code lies at an end of its range (R198). -/
def clips (fine : Bool) (c : Int) : Bool := c == codeLow fine || c == codeHigh fine

/-- Codes of one output. -/
structure Codes where
  elem : Nat
  major : Int
  minor : Int
  deriving DecidableEq, Repr

/-- One pass through the converters: the outputs of the groups in use, the range used, and the codes of the attempt that
a range retry replaced (R198, R289). -/
structure PassOut where
  codes : List Codes
  first : List Codes
  r : Nat
  retried : Bool
  deriving DecidableEq, Repr

/-- Free deviation of a sample (assumption 18). -/
def deviation (base e pair : Nat) : Int := (Config.freeWord (base + 2 * e + pair)).toInt

def convertAll (q : List (Nat × Int)) (base : Nat) (groups : List Nat) (fine : Bool) (r : Nat) : List Codes :=
  groups.flatMap (fun g => (List.range 17).map (fun k =>
    let e := 17 * g + k
    let x := sampleOf q e
    { elem := e, major := convert fine r x.1 (deviation base e 0),
      minor := convert fine r x.2 (deviation base e 1) }))

def anyClip (fine : Bool) (l : List Codes) : Bool :=
  l.any (fun c => clips fine c.major || clips fine c.minor)

/-- A pass, with its range retry where an output clips (R198). -/
def runPass (q : List (Nat × Int)) (base : Nat) (groups : List Nat) (fine : Bool) (r : Nat) : PassOut :=
  let one := convertAll q base groups fine r
  if anyClip fine one && decide (r < 10) then
    { codes := convertAll q (base + 1088) groups fine (r + 1), first := one, r := r + 1, retried := true }
  else { codes := one, first := [], r := r, retried := false }

/-! ### Correction (R199) -/

/-- LSB in level-pulses. -/
def lsb (fine : Bool) (r : Nat) : Word := f32Pow2 ((r : Int) - (if fine then 2 else 0))

/-- A code through the slice correction. -/
def sliceFix (w : Word) (c : Int) : Word := fmul (fsub (f32OfInt c) (corrOff w)) (corrGain w)

/-- y of an output: slice correction, LSB, column offset and gain. -/
def State.outputY (s : State) (p : Nat) (fine : Bool) (r : Nat) (c : Codes) : Word :=
  let g := c.elem / 17
  let k := c.elem % 17
  let w := s.sliceWord p 0 (s.sliceOf p 0 g) (if fine then 1 else 0)
  let u := fmul (fadd (sliceFix w c.major) (fdiv (sliceFix w c.minor) (f32OfNat 16))) (lsb fine r)
  let cw := s.colWord p 0 g k
  fmul (fsub u (corrOff cw)) (corrGain cw)

/-- Row `a` of an inverse coupling matrix times a quad, columns ascending. -/
def quadRow (k y : Nat → Word) : Word :=
  fadd (fadd (fadd (fmul (k 0) (y 0)) (fmul (k 1) (y 1))) (fmul (k 2) (y 2))) (fmul (k 3) (y 3))

/-- The 17 corrected outputs of a group. -/
def State.correctGroup (s : State) (p : Nat) (fine : Bool) (o : PassOut) (g : Nat) : List Word :=
  let ys := (o.codes.filter (fun c => c.elem / 17 == g)).map (s.outputY p fine o.r)
  (List.range 16).map (fun k =>
    quadRow (fun b => s.quadElem p 0 g (k / 4) (k % 4) b)
      (fun b => ys.getD (k / 4 * 4 + b) f32Zero)) ++ [ys.getD 16 f32Zero]

/-! ### A slice of a vector (R183, R184, R203, R204) -/

/-- What running one slice gave. -/
structure SliceRun where
  /-- Corrected sums by element, 544 of them. -/
  sums : List Word
  failed : List Nat
  codes : List Codes
  products : Nat
  skips : Nat
  passes : Nat
  retries : Nat
  clamps : Nat
  checked : Nat
  unchecked : Nat
  draws : Nat
  deriving DecidableEq, Repr

/-- Checksum comparison of a group (R204). -/
def checkGroup (ta tc : Nat) (sums : List Word) (g activity : Nat) (l : Word) : Bool :=
  let y := fun k => sums.getD (17 * g + k) f32Zero
  let total := ((List.range 15).map (fun k => y (k + 1))).foldl fadd (y 0)
  let d := fabs (fsub (fmul (f32OfNat 16) (y 16)) total)
  let t := fadd (fmul (f32OfNat ta) (fsqrt (f32OfNat activity))) (fmul (f32OfNat tc) l)
  fle d t

/-- Runs one slice of a vector on a physical tile: passes in ascending order, each corrected, then
summed; then the comparison of every converted group. -/
def State.runSlice (s : State) (p : Nat) (groups : List Nat) (fine : Bool) (r ceiling : Nat)
    (codes exps : List Nat) (rows : Nat) : SliceRun :=
  let t := s.tile p
  let d := drive codes exps rows
  let zero := List.replicate 544 f32Zero
  if activity d = 0 then
    { sums := zero, failed := [], codes := [], products := 0, skips := 1, passes := 1, retries := 0,
      clamps := 0, checked := 0, unchecked := 0, draws := 0 }
  else
    let n := passCount d ceiling
    let live := (List.range n).filter (fun k => activity (residue d n k) != 0)
    let outs := ((List.range live.length).zip live).map (fun e =>
      runPass (s.charges p (residue d n e.2) exps) (s.free + 2176 * e.1) groups fine r)
    let parts := outs.map (fun o => (List.range 32).flatMap (fun g =>
      if groups.contains g then s.correctGroup p fine o g else List.replicate 17 f32Zero))
    let sums := match parts with
      | [] => zero
      | a :: rest => rest.foldl (fun x y => (x.zip y).map (fun e => fadd e.1 e.2)) a
    let clipped := outs.flatMap (fun o =>
      o.codes.filter (fun c => clips fine c.major || clips fine c.minor))
    let clipGroups := groups.filter (fun g => clipped.any (fun c => c.elem / 17 == g))
    let top := outs.foldl (fun m o => fmax m (lsb fine o.r)) f32Zero
    let a := live.foldl (fun x k => x + activity (residue d n k)) 0
    let open' := groups.filter (fun g => !clipGroups.contains g)
    { sums := sums,
      failed := open'.filter (fun g => !checkGroup t.limits.1 t.limits.2 sums g a top),
      codes := outs.flatMap (fun o => o.first ++ o.codes), products := live.length + (outs.filter (·.retried)).length,
      skips := n - live.length, passes := n, retries := (outs.filter (·.retried)).length,
      clamps := clipped.length, checked := open'.length, unchecked := clipGroups.length,
      draws := 2176 * live.length }

/-! ### Counts, ledger and energy of a slice -/

/-- The context keeps a step ledger (R288). -/
def State.ledgerOn (s : State) (n : Nat) : Bool := s.valAt n 0x3050 0x04 != 0

/-- The converter debug port of a half captures the codes of the tile it names until its 256 KiB are
full (R512). -/
def State.captureCodes (s : State) (p : Nat) (l : List Codes) : State :=
  let h := halfOf (tileHalf p)
  if s.flag 0x1002 0x06 (5 + halfNum h) && s.val (pick h 0xF031 0xF033) 0x01 == p then
    let add := l.map (fun c => (c.major, c.minor))
    match h with
    | .h0 => { s with capture0 := (s.capture0 ++ add).take 65536 }
    | .h1 => { s with capture1 := (s.capture1 ++ add).take 65536 }
  else s

/-- Adds what a slice did to the tile's counters, the context's ledger and its energy. -/
def State.countSlice (s : State) (p n groups : Nat) (fine : Bool) (o : SliceRun) : State :=
  let s := s.add64At p 0x4001 0x03 o.products
  let s := s.add64At p 0x4001 0x05 o.skips
  let s := s.add64At p 0x4001 0x07 (if o.passes = 2 then 1 else 0)
  let s := s.add64At p 0x4001 0x09 (if o.passes = 4 then 1 else 0)
  let s := s.add64At p 0x4010 0x24 (o.products * groups * 17)
  let s := s.add64At p 0x4010 0x26 o.clamps
  let s := s.add64At p 0x4010 0x28 o.retries
  let s := s.add64At p 0x4010 0x2A o.checked
  let s := s.addAt p 0x4010 0x2E o.unchecked
  let l := s.logicalOr p
  let on := s.ledgerOn n
  let s := (s.freeSkip o.draws).captureCodes p o.codes
  s.modCtx n (fun c =>
    { c with energy := c.energy + o.products * (if fine then 11400 else 8750),
             ledgerCodes := if on then c.ledgerCodes ++ o.codes.map (fun x => (l, x.major, x.minor))
                            else c.ledgerCodes,
             ledgerCounts := addAtIdx (addAtIdx c.ledgerCounts 0 o.products) 1 o.skips })

/-! ### Stages 3 to 7 (R203, R207 to R212) -/

/-- Bias of a column. -/
def Tile.biasOf (t : Tile) (j : Nat) : Word := (lookup t.bias j).getD f32Zero

/-- Stage 3 on a finished accumulation. -/
def scaled (acc sIn sCol : Word) : Word := fmul (fmul (fmul acc f32Half) sIn) sCol

/-- The accumulation of a vector: one slice, or y_h + y_l / 8 (R185). -/
def combineSlices : List (List Word) → List Word
  | [a, b] => (a.zip b).map (fun e => fadd e.1 (fdiv e.2 (f32OfNat 8)))
  | a :: _ => a
  | [] => []

/-- Outcome of stage 3: FP32 values of the columns in use, none for a vector skipped entirely. A
vector refused at issue gives NaN everywhere (R257, R263). -/
def stage3 (t : Tile) (f : Flight) (cols : Nat) : Option (List Word) :=
  if vecRefused f.vec then some (List.replicate cols f32NaN)
  else if f.sums.isEmpty then none
  else
    let acc := combineSlices f.sums
    some ((List.range cols).map (fun j =>
      scaled (acc.getD (colElem j) f32Zero) f.vec.coarse (t.scaleOf j)))

/-- Bytes a result takes in the output ring (R214). K16 and FP32 outputs take 2 KiB (assumption
19). -/
def ringBytes (format : Nat) : Nat :=
  if format = 0x01 then 272 else if format = 0x02 then 528 else 2048

/-- Entry of the tile's piecewise table. -/
def Tile.tableAt (t : Tile) (i : Nat) : Word × Word := t.actTable.getD i (0, 0)

/-- A result of a seat's block before stage 7. -/
def resultVec (n : Nat) (seat : Seat) (vec : Nat) (values : List Word) (bytes : Nat)
    (suspect partialOut : Bool) : OutVec :=
  { ctx := n, layer := seat.layer, vec := vec, col0 := 512 * seat.block, values := values, pre := [],
    peak := [], codes := [], scales := [], bytes := bytes, suspect := suspect,
    partialOut := partialOut }

/-- Places a window's result in the output tensor, converts it and puts it into the ring. What an array gives is no
ref_sum, so it never rounds stochastically (R268). -/
def State.stage7 (s : State) (p : Nat) (c : Ctx) (L : Layer) (out : OutVec) : State :=
  match c.tensor L.output false with
  | none => s.modTile p (fun t => { t with outRing := t.outRing ++ [out] })
  | some x =>
    let row := out.vec / L.window
    let n := out.values.length
    let x := (x.putRow row out.col0 out.values).putPeak row out.col0 out.peak
    let q := s.convBlocks c L x 0 (L.format == 0x01 && feedsTiles c.layers L.output) (rowRange x.cols row out.col0 n)
    let out := { out with codes := q.2.rowCodes row out.col0 n,
                          scales := q.2.rowScales row out.col0 n }
    let s := q.1.modTile p (fun t => { t with outRing := t.outRing ++ [out] })
    if out.suspect then s.failCheck c.n (unitTile p) else s

/-- Stages 4 to 7 of a finisher for one vector's summed values. -/
def State.finish (s : State) (p n vec : Nat) (c : Ctx) (L : Layer) (seat : Seat)
    (z : List Word) (suspect : Bool) : State :=
  let t := s.tile p
  let pre := ((List.range z.length).zip z).map (fun e => fadd e.2 (t.biasOf e.1))
  let act := pre.map (activate L.activation L.slope L.xMin L.xMax t.tableAt)
  let c0 := 512 * seat.block
  let s := s.modCtx n (fun c => match c.tensor L.output false with
    | some x => c.setTensor (x.putPre vec c0 pre)
    | none => c)
  let c := (s.ctx n).getD c
  let one := resultVec n seat vec act (ringBytes L.format) suspect false
  let pool := t.pool ++ [one]
  if pool.length < L.window then s.modTile p (fun t => { t with pool := pool })
  else
    let vals := pool.map (·.values)
    let out := { one with
      values := (List.range z.length).map (fun j => poolValues L.poolOp (column vals j)),
      peak := if L.poolOp = 1 then (List.range z.length).map (fun j => peakOf (column vals j)) else [],
      suspect := pool.any (·.suspect) }
    (s.modTile p (fun t => { t with pool := [] })).stage7 p c L out

def Tile.outBytes (t : Tile) : Nat := (t.outRing.map (·.bytes)).foldl (· + ·) 0

/-- The output ring has room for a result (R214). -/
def Tile.outRoom (t : Tile) (bytes : Nat) : Bool := decide (t.outBytes + bytes ≤ 32768)

/-- Bytes of what a seat's tile puts into its output ring. -/
def Layer.seatBytes (L : Layer) (seat : Seat) : Nat := if seat.row = 0 then ringBytes L.format else 2048

/-- Sum of partials, none a zero marker, in the order given (R208). -/
def sumPartials (cols : Nat) (l : List PartialVec) : List Word :=
  l.foldl (fun a q => match q.values with
    | some v => (a.zip v).map (fun e => fadd e.1 e.2)
    | none => a) (List.replicate cols f32Zero)

/-- The finisher's oldest vector is finished once its own result and each partial are there, added in ascending tile-row
order (R208), while the output ring has room for what comes of it; then the next. -/
def State.tryFinish (s : State) (p : Nat) : Nat → State
  | 0 => s
  | k + 1 =>
    let t := s.tile p
    match t.partials.find? (fun x => x.row == 0) with
    | none => s
    | some own =>
      match s.ctx own.ctx with
      | none => s
      | some c =>
        match s.seat c (s.logicalOr p) with
        | none => s
        | some seat =>
          match c.layers[seat.layer]? with
          | none => s
          | some L =>
            let mine := fun (x : PartialVec) => x.ctx == own.ctx && x.vec == own.vec
            let parts := (List.range L.tileRows).filterMap (fun r =>
              t.partials.find? (fun x => mine x && x.row == r))
            if parts.length = L.tileRows ∧
                (t.outRoom (ringBytes L.format) || decide (t.pool.length + 1 < L.window)) = true then
              let s := s.modTile p (fun t => { t with partials := t.partials.filter (fun x => !mine x) })
              (s.finish p own.ctx own.vec c L seat (sumPartials (L.outCols seat.block) parts)
                (parts.any (·.suspect))).tryFinish p k
            else s

/-- A vector leaves stage 2: into the finisher's hold, or as a partial into the ring. -/
def State.leave (s : State) (p : Nat) (f : Flight) (L : Layer) (seat : Seat) : State :=
  let n := f.vec.ctx
  let z := stage3 (s.tile p) f (L.outCols seat.block)
  if seat.row = 0 then
    s.modTile p (fun t => { t with partials := t.partials ++
      [{ ctx := n, vec := f.vec.vec, row := 0, values := z, suspect := f.suspect }] })
  else
    let out := resultVec n seat f.vec.vec (z.getD []) 2048 f.suspect true
    s.modTile p (fun t => { t with outRing := t.outRing ++ [out] })

/-- Vectors whose checks are over leave in vector order, a partial only into room in the ring (R206, R214). -/
def State.release' (s : State) (p : Nat) : Nat → State
  | 0 => s
  | k + 1 =>
    match (s.tile p).flight with
    | f :: rest =>
      if f.bad.any id then s
      else
        let gone := s.modTile p (fun t => { t with flight := rest })
        match s.ctx f.vec.ctx with
        | none => gone.release' p k
        | some c =>
          match s.seat c (s.logicalOr p), c.layers[f.vec.layer]? with
          | some seat, some L =>
            if seat.row ≠ 0 ∧ (s.tile p).outRoom 2048 = false then s
            else (gone.leave p f L seat).release' p k
          | _, _ => gone.release' p k
    | [] => s

/-! ### The commands -/

/-- Entries a vector takes in the input ring (R214, R295). -/
def vecEntries (v : InVec) : Nat := if v.wide then 2 else 1

def Tile.ringHeld (t : Tile) : Nat := (t.inRing.map vecEntries).foldl (· + ·) 0

/-- Brings the ring levels of 0x4014 up to date. -/
def State.ringLevels (s : State) (p : Nat) : State :=
  let t := s.tile p
  (s.putAt p 0x4014 0x01 (toWord t.inRing.length)).putAt p 0x4014 0x02 (toWord t.outBytes)

/-- What may move in a tile's surround moves: vectors leave stage 2, a finisher finishes, the ring levels follow. -/
def State.settleRings (s : State) (p : Nat) : State := ((s.release' p 5).tryFinish p 8).ringLevels p

/-! ### Natural gaps and calibration products (R202, R234) -/

/-- A strand takes a vector of its layer. -/
def Strand.takes (x : Strand) (layer vec : Nat) : Bool :=
  x.layer == layer && decide (x.vec0 ≤ vec) && decide (vec < x.vec0 + x.count)

/-- The strand is issued on the tile and the vector is its next. -/
def State.nextOn (s : State) (p : Nat) (v : InVec) (x : Strand) : Bool :=
  x.issued && !x.dead && x.kind == .forward (s.logicalOr p) && x.takes v.layer v.vec && v.vec == x.vec0 + x.ran

/-- The vector may issue: its strand is issued on the tile and has issued those before it. -/
def State.vecIssued (s : State) (p : Nat) (v : InVec) : Bool :=
  match s.ctx v.ctx with
  | some c => c.slots.any (s.nextOn p v)
  | none => false

/-- The vector that issues next: whole in the input ring, its strand issued (R282). -/
def State.nextReady (s : State) (p : Nat) : Option InVec := (s.tile p).inRing.find? (s.vecIssued p)

/-- A forward vector is ready to issue. -/
def State.vecReady (s : State) (p : Nat) : Bool := (s.nextReady p).isSome

/-- The tile has no forward vector ready: a natural gap (R202). -/
def State.gap (s : State) (p : Nat) : Bool := !s.vecReady p

/-- A forward vector that is ready ends a calibration product in progress, which starts again later (R202). -/
def State.yieldCal (s : State) (p : Nat) : State :=
  if s.vecReady p && s.calActive p then
    (s.bumpAt p 0x4010 0x2F).modTile p (fun t => { t with calProduct := none, calAgain := true })
  else s

/-- Counts the gap that has opened since the state `old` (0x4014.03). -/
def State.countGap (s old : State) (p : Nat) : State :=
  if old.vecReady p && s.gap p then s.add64At p 0x4014 0x03 1 else s

/-- A tile is calibrated as urgent: in state 4, or by a command with the urgent bit (R224, R234). -/
def State.calUrgent (s : State) (p : Nat) : Bool :=
  s.valAt p 0x2012 0x02 == 4 ||
    (s.valAt p 0x2012 0x03 != 0 && bitsOf (s.half (halfOf (tileHalf p))).calWord 25 1 == 1)

/-- A calibration product may start: in a gap, for a non-urgent tile one in which the tile has issued no forward vector
for 10 µs, on at most 256 tiles of the half at once but at its start (R202, R234, R478). -/
def State.mayCalibrate (s : State) (p : Nat) : Bool :=
  let t := s.tile p
  let h := halfOf (tileHalf p)
  s.runs h && s.awake && s.gap p && !s.calActive p && !t.programming && !t.unusable && !s.inSanitize p &&
  (s.calUrgent p || (match t.lastForward with | some c => decide (500 ≤ s.count - c) | none => true)) &&
  ((s.half h).calStart ||
    decide ((s.tiles.filter (fun x => tileHalf x.addr == tileHalf p && s.calActive x.addr)).length < 256))

/-- Starts a calibration product from its first phase. -/
def State.startCal (s : State) (p : Nat) : State :=
  s.modTile p (fun t => { t with calProduct := some s.count, calAgain := false })

/-- Aborted products start again where they may (R202). -/
def State.resumeCal (s : State) : State :=
  s.tiles.foldl (fun s t => if t.calAgain && s.mayCalibrate t.addr then s.startCal t.addr else s) s

/-! ### The commands of a tile -/

/-- Groups whose columns are not all beyond the layer's output width (R181). -/
def Layer.groups (L : Layer) (block : Nat) : List Nat := List.range ((L.outCols block + 15) / 16)

/-- Products that the tile has issued within the last 64 product intervals of its local pace, 80 ns ÷ f each (R438). -/
def State.inWindow (s : State) (p : Nat) : Nat :=
  ((s.tile p).issues.filter (fun c => decide ((s.count - c) * s.speedOf p < 256 * 1024))).length

/-- The tile's allowance under the cadence of a context's class is not used up (R438, R439). -/
def State.inCadence (s : State) (p n : Nat) : Bool :=
  decide (s.inWindow p < s.cadence (halfOf (tileHalf p)) (s.val (cidx n) 0x03))

/-- Products that a tile issues now count in its window (R438). -/
def State.noteIssues (s : State) (p k : Nat) : State :=
  s.modTile p (fun t => { t with issues := (List.replicate k s.count ++ t.issues).take 64 })

/-- Runs the slices of a vector that `which` names; the others keep what they had. -/
def State.runVector (s : State) (p : Nat) (v : InVec) (L : Layer) (seat : Seat)
    (which : List Bool) : State × List SliceRun :=
  let groups := L.groups seat.block
  let r := s.valAt p 0x4010 0x02
  let ceiling := s.val 0x4002 (0x01 + tileHalf p)
  let q := (((vecSlices v).zip which).filter (·.2)).foldl (fun (a : State × List SliceRun) e =>
    let o := a.1.runSlice p groups v.wide r ceiling e.1 v.groups (L.inRows seat.row)
    (a.1.countSlice p v.ctx groups.length v.wide o, a.2 ++ [o])) (s, [])
  (q.1.noteIssues p (q.2.map (·.products)).sum, q.2)

/-- The tile may issue: it is not programming, has no more than three vectors behind one under repeat or one that waits
for its partials, a calibration state that lets strands issue, and no droop in its course (R178, R206, R213, R230, R443). -/
def State.mayIssue (s : State) (p : Nat) : Bool :=
  let t := s.tile p
  !(s.half (halfOf (tileHalf p))).droop.contains (tileCourse p) &&
  !t.programming && decide (t.flight.length + (t.partials.filter (fun x => x.row == 0)).length < 4) &&
  s.valAt p 0x2012 0x02 != 0 && s.valAt p 0x2012 0x02 != 5

/-- What the tile makes of a vector that issues. -/
def State.runFlight (s : State) (p : Nat) (v : InVec) (L : Layer) (seat : Seat) : State × Flight :=
  if vecRefused v then (s, { vec := v, sums := [], bad := [], suspect := false })
  else
    let q := s.runVector p v L seat [true, true]
    let live := q.2.any (fun o => o.products != 0)
    (q.1, { vec := v, sums := if live then q.2.map (·.sums) else [],
            bad := q.2.map (fun o => !o.failed.isEmpty), suspect := false })

/-- A vector of the strand has issued. -/
def State.issueVec (s : State) (p : Nat) (v : InVec) : State :=
  s.modCtx v.ctx (fun c => { c with
    slots := c.slots.map (fun x => if s.nextOn p v x then { x with ran := x.ran + 1 } else x) })

/-- FORWARD_PRODUCT: the oldest vector in the input ring whose strand is issued runs through the tile (R183, R185, R203);
it is withheld while the output ring has no room for a result. A vector with a refused group is not driven (R257). -/
def execForwardProduct (tile : Nat) (s : State) : Result :=
  onPower s (fun s =>
    match s.nextReady tile with
    | none => s
    | some v =>
      if !s.runs (halfOf (tileHalf tile)) || !s.mayIssue tile || !s.inCadence tile v.ctx then s
      else
        match s.ctx v.ctx with
        | none => s
        | some c =>
          match s.seat c (s.logicalOr tile), c.layers[v.layer]? with
          | some seat, some L =>
            if !(s.tile tile).outRoom (L.seatBytes seat) then s.bumpAt tile 0x4014 0x05
            else
              let old := s
              let s := (s.issueVec tile v).modTile tile (fun t =>
                { t with inRing := t.inRing.erase v, lastForward := some s.count })
              let s := (s.countGap old tile).add64At tile 0x4001 0x0B (if v.wide then 1 else 0)
              let q := s.runFlight tile v L seat
              (q.1.modTile tile (fun t => { t with flight := t.flight ++ [q.2] })).settleRings tile
          | _, _ => s)

/-- Puts the repeat's results of the slices that failed in place of the first ones (R205). -/
def mergeRepeat : List (List Word) → List Bool → List SliceRun → List (List Word)
  | _ :: r, true :: b, o :: os => o.sums :: mergeRepeat r b os
  | a :: r, false :: b, os => a :: mergeRepeat r b os
  | l, _, _ => l

/-- CHECKSUM_REPEAT: the vector with a failing group runs again as the tile's next product; passing,
it counts a transient, failing again it proceeds marked suspect (R205). -/
def execChecksumRepeat (tile : Nat) (s : State) : Result :=
  onPower s (fun s =>
    match (s.tile tile).flight.find? (fun f => f.bad.any id) with
    | none => s
    | some f =>
      if !s.inCadence tile f.vec.ctx then s
      else match s.ctx f.vec.ctx with
      | none => s
      | some c =>
        match s.seat c (s.logicalOr tile), c.layers[f.vec.layer]? with
        | some seat, some L =>
          let q := s.runVector tile f.vec L seat f.bad
          let again := q.2.any (fun o => !o.failed.isEmpty)
          let g : Flight := { f with sums := mergeRepeat f.sums f.bad q.2,
                                     bad := f.bad.map (fun _ => false), suspect := again }
          let s := q.1.modTile tile (fun t =>
            { t with flight := t.flight.map (fun x => if x.vec == f.vec then g else x) })
          let s := if again then
              let s := s.bumpAt tile 0x4010 0x2D
              let s := s.log { cls := clsWarning, unit := unitTile tile, ctx := c.n,
                               step := s.stepOf c.n, obj := counter 0x4010 0x2D,
                               detail := natBytes 1 ((q.2.flatMap (·.failed)).headD 0) }
              s.failCheck c.n (unitTile tile)
            else
              let s := s.bumpAt tile 0x4010 0x2C
              let s := s.riskEvent (halfOf (tileHalf tile)) 1
              s.modCtx c.n (fun c => { c with ledgerCounts := addAtIdx c.ledgerCounts 2 1 })
          s.settleRings tile
        | _, _ => s)

/-- PARTIAL_ARRIVE: a partial, or a zero marker, that is on its way to the finisher's address reaches it (R208). The
partial ring holds eight; one that finds it full waits outside. -/
def execPartialArrive (tile ctx vec row : Nat) (s : State) : Result :=
  onPower s (fun s =>
    let mine := fun (x : MortarVec) =>
      x.finisher == s.logicalOr tile && x.vec.ctx == ctx && x.vec.vec == vec && x.vec.row == row
    let held := ((s.tile tile).partials.filter (fun x => x.row != 0)).length
    match s.mortar.find? mine with
    | none => s
    | some x =>
      if !s.runs (halfOf (tileHalf tile)) || decide (8 ≤ held) then s
      else
        let s := { s with mortar := s.mortar.erase x }
        (s.modTile tile (fun t => { t with partials := t.partials ++ [x.vec] })).settleRings tile)

/-- A partial leaves for the finisher that 0x4012.06 names, a vector that was skipped as a zero marker (R208). -/
def State.sendPartial (s : State) (p : Nat) (v : OutVec) : State :=
  let row := match (s.ctx v.ctx).bind (fun c => s.seat c (s.logicalOr p)) with
    | some q => q.row
    | none => 0
  let x : PartialVec := { ctx := v.ctx, vec := v.vec, row := row, suspect := v.suspect,
                          values := if v.values.isEmpty then none else some v.values }
  { s with mortar := s.mortar ++ [{ finisher := s.valAt p 0x4012 0x06, vec := x }] }

/-- A finisher's result leaves for the tiles of its consumers, one vector of a block (R282). -/
def State.sendResult (s : State) (v : OutVec) : State :=
  s.modCtx v.ctx (fun c => match c.layers[v.layer]? with
    | some L => { c with drained := c.drained ++ [(L.output, v.vec / L.window, v.col0 / 512)] }
    | none => c)

/-- OUTPUT_DRAIN: the oldest result leaves the output ring over the mortar, and what waited for its room moves up
(R208, R214). -/
def execOutputDrain (tile : Nat) (s : State) : Result :=
  onPower s (fun s =>
    match (s.tile tile).outRing with
    | [] => s
    | v :: rest =>
      let s := s.modTile tile (fun t => { t with outRing := rest })
      let s := if v.partialOut then s.sendPartial tile v else s.sendResult v
      (s.emit (.drained tile v)).settleRings tile)

/-- COEFFICIENT_SWITCH: at a strand boundary of the tile the pending set becomes active (R200). -/
def execCoefficientSwitch (tile : Nat) (s : State) : Result :=
  onPower s (fun s => if s.tileBusy tile then s else s.switchSet tile)

/-- CALIBRATION_PRODUCT: it starts in a natural gap, not while the tile is programming (R202, R234). Its codes go to the
solver. -/
def execCalibrationProduct (tile : Nat) (s : State) : Result :=
  onPower s (fun s => if s.mayCalibrate tile then s.startCal tile else s)

end Sys2Proof.Machine
end

