-- ==== Sys2Proof/Machine/RowWrite.lean ====
section
/-! DEFINITION. The row write-verify, its repairs and the refresh of an array (R169, R170, R173, R175 to R178,
R187 to R189, R236, R325, R344). -/

namespace Sys2Proof.Machine

open Sys2Proof

/-! ### Grid counts (R344) -/

/-- Integer nearest to a finite word times 16, ties to even. -/
def nearest16 (w : Word) : Int :=
  let m : Int := divEven (f32Units w * 16) (2 ^ 149)
  if f32Neg w then -m else m

/-- Grid count of a master and whether it was clamped. -/
def gridOf (w sCol : Word) : Int × Bool :=
  let q := nearest16 (fdiv w sCol)
  (max (-527) (min 527 q), decide (q < -527) || decide (527 < q))

/-- Checksum target of a group from the grid counts of its columns (R173). -/
def checkTarget (q : Nat → Int) (g : Nat) : Int :=
  sixteenth (((List.range 16).map (fun k => q (17 * g + k))).foldl (· + ·) 0)

/-- Targets of a row with the checksum weights of the groups they change. -/
def withChecks (t : Tile) (row : Nat) (targets : List (Nat × Int)) : List (Nat × Int) :=
  let base := targets.filter (fun e => !isCheck e.1)
  let q := fun e => (lookup base e).getD (recTarget (t.record row e))
  let groups := (base.map (fun e => e.1 / 17)).eraseDups
  base ++ groups.map (fun g => (17 * g + 16, checkTarget q g))

/-! ### One weight (R169, R170) -/

/-- What a write makes of one weight: major and minor difference, measured level value in 1/512, and
whether the minor target lies in range. -/
structure WeightWrite where
  elem : Nat
  target : Int
  major : Int
  minor : Int
  value : Int
  ok : Bool
  deriving DecidableEq, Repr

/-- Integer nearest to n / 16, ties toward zero. -/
def nearestTowardZero (n : Int) : Int :=
  let m : Int := (n.natAbs + 7) / 16
  if n < 0 then -m else m

/-- Writes one weight to a grid count. `fresh` writes the canonical major pair; otherwise the major
pair stays. The measured major difference fixes the minor target (R170). -/
def Tile.writeWeight (t : Tile) (row e : Nat) (q : Int) (fresh : Bool) (meas : RowMeas) :
    WeightWrite :=
  let major := if fresh then gridMajor q else recMajor (t.record row e)
  let m := (lookup meas.major e).getD (major * 256)
  let minor := nearestTowardZero (16 * q - m)
  { elem := e, target := q, major := major, minor := max (-31) (min 31 minor),
    value := 2 * m + 32 * max (-31) (min 31 minor),
    ok := decide (-31 ≤ minor) && decide (minor ≤ 31) }

/-- Keeps what a verified weight reads and its record word (R335). -/
def Tile.putRecord (t : Tile) (row : Nat) (w : WeightWrite) : Tile :=
  { t with measured := Sparse.set (fun _ => 0) t.measured (elemKey row w.elem) w.value,
           records := Sparse.set (fun _ => 0) t.records (elemKey row w.elem)
             (recordWord w.minor w.major w.target) }

/-! ### Repairs (R187 to R189) -/

/-- First unused entry of a spare map. -/
def State.freeEntry (s : State) (p first n : Nat) : Option Nat :=
  (List.range n).find? (fun i => s.valAt p 0x4004 (first + i) == 0xFFFF)

/-- An entry that serves `x` fails with the unit it names. -/
def State.failEntry (s : State) (p first n x : Nat) : State :=
  (List.range n).foldl (fun t i =>
    if t.valAt p 0x4004 (first + i) = x then t.putAt p 0x4004 (first + i) 0xFFFE else t) s

/-- A spare column takes a physical column: its cell is written in every reference and weight row, at the replaced
column's targets, and each weight row is read back (R188). -/
def State.useSpareColumn (s : State) (p col i : Nat) : State :=
  let s := (s.failEntry p 0x02 64 col).putAt p 0x4004 (0x02 + i) (toWord col)
  let s := s.bumpAt p 0x4001 0x0D
  let t := s.tile p
  let s := ((List.range 16).map (1024 + ·) ++ List.range 1024).foldl (fun (x : State) r =>
    x.pulseRow p (x.physRow p r) [(2176 + i, t.targetLevel r col)] [] false) s
  s.modTile p (fun t => (List.range 1024).foldl (fun x r => x.nominal r (elemAt col)) t)

/-- A spare row takes a weight row: the row's targets in every column (R188). -/
def State.useSpareRow (s : State) (p row i : Nat) : State :=
  let s := (s.failEntry p 0x42 16 row).putAt p 0x4004 (0x42 + i) (toWord row)
  (s.bumpAt p 0x4001 0x0E).rewriteRow p row

/-- Spare columns not yet used (R187, R228). -/
def State.spareColumnsFree (s : State) (p : Nat) : List Nat :=
  (List.range 64).filter (fun i => s.valAt p 0x4004 (0x02 + i) == 0xFFFF)

/-- Spare columns take as many physical columns: one field repair. -/
def State.replaceColumns (s : State) (p : Nat) (cols : List Nat) (inPass : Bool) : State :=
  let s := (cols.zip (s.spareColumnsFree p)).foldl (fun t e => t.useSpareColumn p e.1 e.2) s
  (s.shadowAll p inPass).fieldRepair (s.logicalOr p) (unitTile p) clsInformation

/-- A spare row takes a weight row: one field repair. -/
def State.replaceRow (s : State) (p row i : Nat) (inPass : Bool) : State :=
  ((s.useSpareRow p row i).shadowRow p inPass row).fieldRepair (s.logicalOr p) (unitTile p) clsInformation

/-- Retires a tile for a row that cannot be repaired. -/
def State.retireRow (s : State) (p : Nat) (inPass : Bool) : State :=
  match s.fabric.logical p with
  | some l => s.retireField l inPass
  | none => s.markUnusable p

/-- Repairs a row whose second write failed: one failing column takes a spare column, several a spare
row; the other pool serves when one is empty; then the tile is retired (R187). A reference row has no spare row. -/
def State.repairRow (s : State) (p row : Nat) (cols : List Nat) (inPass : Bool) : State :=
  let rowSpare := if 1024 ≤ row then none else s.freeEntry p 0x42 16
  let fits := decide (cols.length ≤ (s.spareColumnsFree p).length)
  if cols.length ≤ 1 ∧ fits = true then s.replaceColumns p cols inPass
  else match rowSpare with
    | some i => s.replaceRow p row i inPass
    | none => if fits then s.replaceColumns p cols inPass else s.retireRow p inPass

/-! ### The row write-verify (R175, R176) -/

/-- What a row write-verify writes: elements with their targets, and whether the major pair is written anew; and whether
the row is counted whatever was pulsed (R236). -/
structure RowPlan where
  items : List (Nat × Int × Bool)
  counts : Bool

/-- The weights of a row that are to change, with the checksum weights that they change. -/
def Tile.changePlan (t : Tile) (row : Nat) (targets : List (Nat × Int)) (fresh : Nat → Bool) : RowPlan :=
  { items := ((withChecks t row targets).filter (fun e => recTarget (t.record row e.1) != e.2)).map
      (fun e => (e.1, e.2, fresh e.1)),
    counts := false }

/-- Every weight of a row, as programming writes it (R178). -/
def Tile.wholePlan (t : Tile) (row : Nat) (targets : List (Nat × Int)) : RowPlan :=
  { items := (withChecks t row targets).map (fun e => (e.1, e.2, true)), counts := false }

/-- Every weight of a row at the target that it has (R236); a tile that holds no records has none. -/
def Tile.refreshPlan (t : Tile) (row : Nat) : RowPlan :=
  { items := if t.records.isEmpty then [] else
      (List.range 544).map (fun e => (e, recTarget (t.record row e), false)),
    counts := true }

/-- Columns that miss: those that the verify read names, and of a weight whose minor target leaves its range the cell that
would have to pass level 31. -/
def missed (ws : List WeightWrite) (meas : RowMeas) : List Nat :=
  (meas.failing ++ (ws.filter (fun w => !w.ok)).map (fun w =>
    elemCol w.elem + (if 0 ≤ w.minor then 2 else 3))).eraseDups

/-- How a row write-verify ends: the row is to be written once more, has passed, or has been repaired after a second
failure. -/
inductive RowEnd where
  | again | passed | repaired
  deriving DecidableEq, Repr

/-- Performs one row write-verify: the cells that change or that missed before, the program count, pass
or fail. A first failure leaves the row to be written once more; a second is counted and repaired. -/
def State.writeRow (s : State) (p row : Nat) (pl : RowPlan) (meas : RowMeas) (inPass : Bool) : State × RowEnd :=
  let t := s.tile p
  let ws := pl.items.map (fun e => t.writeWeight row e.1 e.2.1 e.2.2 meas)
  let before := lookup t.failedRows row
  let again := (before.getD []) ++ meas.drift
  let s := s.pulseRow p (s.physRow p row) (s.onColumns p (ws.flatMap (fun w => pairLevels w.elem w.major w.minor)))
    (again.map (s.physCol p)) pl.counts
  let keep := fun (t : Tile) => ws.foldl (fun x w => x.putRecord row w)
    { t with failedRows := t.failedRows.filter (fun e => e.1 != row) }
  let cols := missed ws meas
  if cols.isEmpty then (s.modTile p keep, .passed)
  else if before.isSome then
    (((s.bumpAt p 0x4001 0x0F).modTile p keep).repairRow p row cols inPass, .repaired)
  else (s.modTile p (fun t => { t with failedRows := t.failedRows ++ [(row, cols)] }), .again)

/-- Writes a row until it verifies or is repaired (R176): a second attempt where the first fails. -/
def State.writeRowTwice (s : State) (p row : Nat) (pl : RowPlan) (first second : RowMeas) (inPass : Bool) : State × RowEnd :=
  match s.writeRow p row pl first inPass with
  | (t, .again) => t.writeRow p row pl second inPass
  | r => r

/-- Nothing missed, every major pair as written. -/
def RowMeas.clean : RowMeas := { major := [], failing := [], drift := [] }

/-- What was measured of a row, attempt 0 or 1; what nothing lists verified at once. -/
def measOf (seen : List RowSeen) (tile row attempt : Nat) : RowMeas :=
  match (seen.filter (fun e => e.tile == tile && e.row == row))[attempt]? with
  | some e => e.meas
  | none => RowMeas.clean

/-- Nothing that a row write-verify waits for: no strand issued and no vector in the surround (R175, R324), no calibration
product in progress (R234). -/
def State.rowFree (s : State) (p : Nat) : Bool :=
  s.runs (halfOf (tileHalf p)) && !s.tileBusy p && (s.tile p).flight.isEmpty && !s.calActive p

/-- A rewrite outside a transfer: between passes, with no snapshot of the tile held (R325, R348). -/
def State.rewriteFree (s : State) (p : Nat) : Bool :=
  s.rowFree p && !(s.tile p).inPass && s.valAt (s.logicalOr p) 0x4021 0x04 == 0

/-- ROW_WRITE_VERIFY of a weight row outside a transfer, with canonical pairs; its read-back goes into both shadow banks
(R325). -/
def execRowWriteVerify (tile row : Nat) (targets : List (Nat × Int)) (meas : RowMeas) (s : State) :
    Result :=
  onPower s (fun s =>
    if !s.rewriteFree tile || decide (1024 ≤ row) then s
    else
      let q := s.writeRow tile row ((s.tile tile).changePlan row targets (fun _ => true)) meas false
      if q.2 = .passed then q.1.shadowRow tile false row else q.1)

/-! ### Refresh of the arrays (R236) -/

/-- Pulses the named columns of a reference row of tile `t` towards its pattern. -/
def State.pulseReference (s : State) (p : Nat) (t : Tile) (row : Nat) (cols : List Nat) : State :=
  s.pulseRow p (row - 1024) (s.onColumns p ((List.range 2176).map (fun c => (c, t.targetLevel row c))))
    (cols.map (s.physCol p)) true

/-- Writes one row of a refresh until it verifies or is repaired: a reference row at its pattern, a weight row at its
record, each counted. A tile that a repair has retired is refreshed no further. -/
def State.refreshRow (s : State) (p : Nat) (seen : List RowSeen) (row : Nat) : State :=
  if (s.tile p).unusable then s
  else if 1024 ≤ row then
    let cols := (measOf seen p row 0).drift
    let t := s.tile p
    let s := s.pulseReference p t row cols
    let one := (measOf seen p row 0).failing
    if one.isEmpty then s
    else
      let s := s.pulseReference p t row one
      let two := (measOf seen p row 1).failing
      if two.isEmpty then s else (s.bumpAt p 0x4001 0x0F).repairRow p row two false
  else
    let q := s.writeRowTwice p row ((s.tile p).refreshPlan row) (measOf seen p row 0) (measOf seen p row 1) false
    if q.2 = .passed then q.1.shadowRow p false row else q.1

/-- Every reference row, then every weight row, in ascending order. -/
def State.refreshRows (s : State) (p : Nat) (seen : List RowSeen) : State :=
  ((List.range 16).map (1024 + ·) ++ List.range 1024).foldl (fun t r => t.refreshRow p seen r) s

end Sys2Proof.Machine
end

