-- ==== Sys2Proof/Machine/Calibration.lean ====
section
/-! DEFINITION. Calibration: the solver, system calibration, drift monitors, escalation, refresh and
images (chapter 09), and relocation of a tile for one step (R511). -/

namespace Sys2Proof.Machine

open Sys2Proof

/-! ### Answers to writes -/

/-- What a write's own rule answers: a refusal with its hint, a refusal that a rule counts, an effect at
once with 0x0000, or deferred work with its estimate in µs and what starts once its ticket is issued
(R116, R119, R126). -/
inductive Verdict where
  | refuse (status hint : Nat)
  | counted (status : Nat) (s : State)
  | apply (s : State)
  | accept (work : Deferred) (estimate : Nat) (go : State → State)

/-! ### Tiles and roles (R191) -/

/-- Physical tiles of a half, spares included. -/
def physTiles (h : Nat) : List Nat :=
  (List.range 33).flatMap (fun c => (List.range 34).map (fun t => mkTile h c t))

/-- Role of a physical tile (0x4001.02). -/
def State.tileRole (s : State) (p : Nat) : Nat :=
  if (s.tile p).unusable || s.fabric.unusable.contains p then 3
  else if (s.tile p).programming then 4
  else match s.fabric.logical p with
    | some l => if l = p then 0 else 1
    | none => if tileNum p ≥ 0x20 ∨ tileCourse p = 0x20 then 2 else 3

def State.calState (s : State) (p : Nat) : Nat := s.valAt p 0x2012 0x02

/-- Half command object of a half. -/
def calIndex (h : HalfId) : Nat := pick h 0x2000 0x2001

/-- Counts the tiles of a half that are due and urgent (0x2000.05, .06). -/
def State.countDue (s : State) (h : HalfId) : State :=
  let l := s.dict.filter (fun e => keyIndex e.1 == 0x2012 && keySub e.1 == 0x02 &&
    tileHalf (keyUnit e.1) == halfNum h)
  (s.put (calIndex h) 0x05 (l.filter (fun e => e.2 == 3)).length).put (calIndex h) 0x06
    (l.filter (fun e => e.2 == 4)).length

def State.setCalState (s : State) (p n : Nat) : State :=
  (s.putAt p 0x2012 0x02 (toWord n)).countDue (halfOf (tileHalf p))

/-! ### Measurements (R225, R226, R231, R232) -/

/-- What the solver has of one column group (R225 to R227, R231), in FP32: per output the zero result and the F3
difference over eight rows, 16 injection responses per quad row-major, whether a measurement was rejected. -/
structure GroupMeas where
  zero : List Word
  diff : List Word
  inject : List Word
  rejected : Bool
  deriving DecidableEq, Repr

/-- What the solver has of one tile beside its groups: slice correction words at 2s + m, slices whose measurement was
rejected, the code that each row group needs, row groups whose trim measurement was rejected, whether a reference quartet
has lost two rows. -/
structure TileMeas where
  slices : List Word
  badSlices : List Nat
  trims : List Int
  badTrims : List Nat
  quartetLost : Bool
  deriving DecidableEq, Repr

/-- What a measurement comes to: the mean of the first pair that agrees, among as many as 0x2002.04 allows. -/
def agreed (tries : Nat) (close : Word → Word → Bool) (l : List (Word × Word)) : Option Word :=
  ((l.take tries).find? (fun e => close e.1 e.2)).map (fun e => fdiv (fadd e.1 e.2) f32Two)

/-- Pairs of sums as pairs of what `f` makes of each. -/
def pairWords (f : Int → Word) (l : Pairs) : List (Word × Word) := l.map (fun e => (f e.1, f e.2))

/-- Mean of the codes of `n` products. -/
def meanCode (n : Nat) (x : Int) : Word := fdiv (f32OfInt x) (f32OfNat n)

/-- Two offsets agree within `tol` × 1/8 of an LSB. -/
def closeOffsets (tol : Nat) (lsb a b : Word) : Bool :=
  fle (fmul (f32OfNat 8) (fabs (fsub a b))) (fmul (f32OfNat tol) lsb)

/-- Two gains agree within `ppm`. -/
def closeGains (ppm : Nat) (a b : Word) : Bool :=
  fle (fmul (f32OfNat 1000000) (fabs (fsub a b))) (fmul (f32OfNat ppm) (fabs a))

/-- The six-step successive approximation of a trim code (F2): a leg stays where the drive is not yet above the
reference's, that is, while the code does not pass the one needed. -/
def sarCode (need : Int) : Nat :=
  [5, 4, 3, 2, 1, 0].foldl (fun c b => if ((c + 2 ^ b : Nat) : Int) ≤ need then c + 2 ^ b else c) 0

/-- The trim codes of a pair agree within one; the one nearer 32 is taken. -/
def trimNeed (tries : Nat) (l : Pairs) : Option Int :=
  ((l.take tries).find? (fun e => ((sarCode e.1 : Int) - sarCode e.2).natAbs ≤ 1)).map (fun e =>
    if ((sarCode e.2 : Int) - 32).natAbs < ((sarCode e.1 : Int) - 32).natAbs then e.2 else e.1)

/-- Offset and gain of slice s in mode m at `j` = 2s + m (Z1, Z2, F1). -/
def State.sliceSolved (s : State) (z : ZeroRaw) (f : FullRaw) (nz nf j : Nat) : Option (Word × Word) :=
  let tries := s.val 0x2002 0x04
  match agreed tries (closeOffsets (s.val 0x2002 0x02) f32One) (pairWords (meanCode nz) (z.slices.getD j [])) with
  | none => none
  | some off =>
    (agreed tries (closeGains (s.val 0x2002 0x03)) (pairWords (fun x =>
      fdiv (Config.sliceReference (j % 2)) (fsub (meanCode nf x) off)) (f.charges.getD j []))).map (fun g => (off, g))

/-- Reference rows of a quartet that respond more than 2 % off the mean of the other three (R232). -/
def strayRows (l : List Int) : Nat :=
  let total := l.foldl (· + ·) 0
  (l.filter (fun r => decide (2 * (total - r).natAbs < 100 * (3 * r - (total - r)).natAbs))).length

/-- Rows left undriven of the quartets 4 to 7 and 8 to 11. -/
def quartets (f : FullRaw) : Nat × Nat := (strayRows (f.rows.take 4), strayRows ((f.rows.drop 4).take 4))

/-- Level-pulses of a mean output code in fine mode at range code 3, through a slice correction (R223). -/
def finePulses (w code : Word) : Word :=
  fmul (fmul (fdiv (fsub code (fmul (f32OfNat 17) (corrOff w))) (f32OfNat 16)) (corrGain w)) (lsb true 3)

/-- The same of a difference, in which the offset cancels. -/
def fineStep (w code : Word) : Word := fmul (fmul (fdiv code (f32OfNat 16)) (corrGain w)) (lsb true 3)

/-- The coupling responses of two takes of a quad agree within 0.001: `a` and `b` row-major, less the zero results. -/
def closeCoupling (a b : List Word) : Bool :=
  (List.range 16).all (fun k =>
    let ratio := fun (l : List Word) => fdiv (l.getD k f32Zero) (l.getD (5 * (k / 4)) f32Zero)
    fle (fmul (f32OfNat 1000) (fabs (fsub (ratio a) (ratio b)))) f32One)

/-- What the measurements of a group come to through the correction word of its slice; `nz`, `nf` products averaged in
ZERO and FULL, `rows` reference rows driven. -/
def State.groupSolved (s : State) (w : Word) (nz nf rows : Nat) (m : GroupRaw) : GroupMeas :=
  let tries := s.val 0x2002 0x04
  let zero := (List.range 17).map (fun k => agreed tries (closeOffsets (s.val 0x2002 0x02) (lsb true 3))
    (pairWords (fun x => finePulses w (meanCode nz x)) (m.zero.getD k [])))
  let diff := (List.range 17).map (fun k => agreed tries (closeGains (s.val 0x2002 0x03))
    (pairWords (fun x => fdiv (fmul (fineStep w (meanCode nf x)) (f32OfNat 8)) (f32OfNat rows)) (m.diff.getD k [])))
  let zeros := zero.map (·.getD f32Zero)
  let quad := fun i =>
    let take := fun (l : List Int) => (List.range 16).map (fun k => finePulses w (meanCode nf (l.getD k 0)))
    let less := fun (l : List Word) => (List.range 16).map (fun k =>
      fsub (l.getD k f32Zero) (zeros.getD (4 * i + k / 4) f32Zero))
    (((m.inject.getD i []).take tries).map (fun e => (take e.1, take e.2))).find? (fun e =>
      closeCoupling (less e.1) (less e.2))
  let quads := (List.range 4).map quad
  { zero := zeros, diff := diff.map (·.getD f32Zero),
    inject := quads.flatMap (fun q => match q with
      | some e => (e.1.zip e.2).map (fun x => fdiv (fadd x.1 x.2) f32Two)
      | none => List.replicate 16 f32Zero),
    rejected := zero.any (·.isNone) || diff.any (·.isNone) || quads.any (·.isNone) }

/-! ### The solver (R227, R228) -/

abbrev Mat := List (List Word)

def matAt (m : Mat) (a b : Nat) : Word := (m.getD a []).getD b f32Zero

/-- C of a quad: m[a][b] / m[a][a], the responses less the zero result of the column that answers. -/
def quadC (inject : List Word) (zero : List Word) (i : Nat) : Mat :=
  (List.range 4).map (fun a =>
    let m := fun b => fsub (inject.getD (16 * i + 4 * a + b) f32Zero) (zero.getD (4 * i + a) f32Zero)
    (List.range 4).map (fun b => fdiv (m b) (m a)))

/-- Row with the largest magnitude in a column, from row `k` on. -/
def pivotRow (m : Mat) (k : Nat) : Nat :=
  ((List.range 4).filter (fun r => k ≤ r)).foldl (fun best r =>
    if flt (fabs (matAt m best k)) (fabs (matAt m r k)) then r else best) k

def swapRows (m : Mat) (a b : Nat) : Mat :=
  (List.range 4).map (fun r => m.getD (if r = a then b else if r = b then a else r) [])

/-- One step of Gauss-Jordan elimination with partial pivoting on the widened matrix. -/
def eliminate (m : Mat) (k : Nat) : Mat :=
  let m := swapRows m k (pivotRow m k)
  let p := matAt m k k
  let row := (m.getD k []).map (fun x => fdiv x p)
  (List.range 4).map (fun r =>
    if r = k then row
    else
      let f := matAt m r k
      ((m.getD r []).zip row).map (fun e => fsub e.1 (fmul f e.2)))

/-- Inverse of a 4 × 4 matrix, and whether a pivot's magnitude was below 2^-10. -/
def invert (c : Mat) : Mat × Bool :=
  let wide := (List.range 4).map (fun r =>
    (c.getD r []) ++ (List.range 4).map (fun b => if b = r then f32One else f32Zero))
  let q := (List.range 4).foldl (fun (a : Mat × Bool) k =>
    let piv := fabs (matAt a.1 (pivotRow a.1 k) k)
    (eliminate a.1 k, a.2 || !fle (f32Pow2 (-10)) piv)) (wide, false)
  (q.1.map (fun r => r.drop 4), q.2)

/-- Largest absolute row sum. -/
def normInf (m : Mat) : Word :=
  m.foldl (fun a r => fmax a (r.foldl (fun x y => fadd x (fabs y)) f32Zero)) f32Zero

/-- A quad's solution. -/
structure QuadSol where
  c : Mat
  k : Mat
  singular : Bool
  kappa : Word
  deriving DecidableEq, Repr

def solveQuad (g : GroupMeas) (i : Nat) : QuadSol :=
  let c := quadC g.inject g.zero i
  let q := invert c
  { c := c, k := q.1, singular := q.2, kappa := fmul (normInf c) (normInf q.1) }

def rowSum (c : Mat) (a : Nat) : Word :=
  fadd (fadd (fadd (matAt c a 0) (matAt c a 1)) (matAt c a 2)) (matAt c a 3)

/-- A correction word: gain in 2^-15 and offset in 1/64, to nearest, held to the fields' ranges
(R220, assumption 20). -/
def corrWord (gain off : Word) : Word :=
  let g := min 0xFFFF (max 0x4000 ((f32Int gain * 2 ^ 15 + 2 ^ 148) / 2 ^ 149).toNat)
  let o := max (-32768) (min 32767 ((f32Int off * 64 + 2 ^ 148) / 2 ^ 149))
  toWord (g * 65536 + lowBits o 16)

/-- The 17 column corrections of a group. -/
def columnWords (g : GroupMeas) (quads : List QuadSol) : List Word :=
  (List.range 17).map (fun a =>
    let z := g.zero.getD a f32Zero
    let d := g.diff.getD a f32Zero
    let ideal := f32OfNat 2976
    if a = 16 then corrWord (fdiv ideal d) z
    else
      match quads[a / 4]? with
      | some q => corrWord (fdiv (fmul ideal (rowSum q.c (a % 4))) d) z
      | none => corrWord (fdiv ideal d) z)

/-- Column of a quad with the largest coupling score, the lower on a tie (R228). -/
def worstColumn (c : Mat) : Nat :=
  let w := fun b => ((List.range 4).filter (· != b)).foldl (fun x a =>
    fadd x (fadd (fabs (matAt c a b)) (fabs (matAt c b a)))) f32Zero
  [1, 2, 3].foldl (fun best b => if flt (w best) (w b) then b else best) 0

/-- Outcome of a group: status (R229), worst κ × 64, column to swap, corrections, inverse matrices. -/
structure GroupSol where
  status : Nat
  kappa : Nat
  worst : Nat
  columns : List Word
  quads : List Word
  deriving DecidableEq, Repr

/-- κ × 64 as 0x2012.09 holds it. -/
def kappaField (quads : List QuadSol) : Nat :=
  if quads.any (·.singular) then 0xFFFF
  else
    let m := quads.foldl (fun a q => fmax a q.kappa) f32Zero
    if f32Finite m then min 0xFFFE (f32Floor (fmul m (f32OfNat 64))).toNat else 0xFFFE

def solveGroup (limit : Nat) (g : GroupMeas) (trimBad : Bool) : GroupSol :=
  let quads := (List.range 4).map (solveQuad g)
  let bad := (List.range 4).filter (fun i =>
    match quads[i]? with
    | some q => q.singular || !fle q.kappa (f32OfNat limit)
    | none => false)
  let worst := match bad with
    | i :: _ => 4 * i + worstColumn ((quads.map (·.c)).getD i [])
    | [] => 0
  { status := if g.rejected || trimBad then 0x2006 else if bad.isEmpty then 0x0000 else 0x2005,
    kappa := kappaField quads, worst := worst, columns := columnWords g quads,
    quads := quads.flatMap (fun q => q.k.flatten) }

/-! ### Applying a tile's results (R228 to R232) -/

def groupResult (status kappa : Nat) : Word := toWord (status * 65536 + kappa)

/-- The owner of a tile whose step is in progress, with that step (R228). -/
def State.ownerStep (s : State) (p : Nat) : Option (Nat × Nat) :=
  match (s.fabric.logical p).bind s.ownerOf with
  | some c => if c.phase != 0 || c.state == stSealing then some (c.n, s.stepOf c.n) else none
  | none => none

/-- The step that a swap waits for has sealed, or will not any more. -/
def State.swapOpen (s : State) (e : SwapDue) : Bool :=
  match e.owner with
  | none => true
  | some (n, k) =>
    match s.ctx n with
    | none => true
    | some c => s.stepOf n != k || c.state == stFault

/-- Writes a group's result: an accepted group's coefficients go to the pending set; a rejected one
keeps its old ones. -/
def State.applyGroup (s : State) (p g : Nat) (o : GroupSol) (swap : Bool) : State :=
  let h := halfOf (tileHalf p)
  if o.status = 0 then
    let u := groupUnit p g 1
    let s := (s.putsAt u 0x2011 0x04 o.columns).putsAt u 0x2011 0x15 o.quads
    let s := s.putAt p 0x2012 (0x09 + g) (groupResult 0 o.kappa)
    s.modTile p (fun t => { t with accepted := if t.accepted.contains g then t.accepted
                                               else t.accepted ++ [g],
                                   swapDue := t.swapDue.filter (fun e => e.group != g) })
  else if o.status = 0x2005 then
    let short := swap && decide ((s.spareColumnsFree p).length < 4)
    let s := s.bump (calIndex h) 0x07
    let s := s.putAt p 0x2012 (0x09 + g) (groupResult (if short then 0x4003 else 0x2005) o.kappa)
    let due : SwapDue := { group := g, column := o.worst, owner := s.ownerStep p }
    s.modTile p (fun t => { t with swapDue := t.swapDue.filter (fun e => e.group != g) ++
                                     (if swap && !short then [due] else []) })
  else
    let s := s.bump (calIndex h) 0x08
    s.putAt p 0x2012 (0x09 + g) (groupResult 0x2006 o.kappa)

/-- Junction of a half (0x1014). -/
def State.junction (s : State) (h : HalfId) : Word := s.reg 0x1014 (0x02 + halfNum h)

/-- Every group of the tile has accepted coefficients: calibrated; else incomplete, and retired once no
swap is left to make (R230). -/
def State.settleTile (s : State) (p : Nat) : State :=
  let t := s.tile p
  if (List.range 32).all t.accepted.contains then s.setCalState p 1
  else
    let s := s.setCalState p 5
    if t.swapDue.isEmpty then s.retireUnit p else s

/-- A slice whose offset exceeds ±96 codes, whose gain leaves its range or whose measurement was
rejected is replaced in the pending selection by the lowest unused spare slice; none left, the tile
is retired (R201, R232). -/
def sliceBad (w : Word) : Bool :=
  let g := w.toNat / 65536
  let o := halfInt w.toNat
  decide (g < 0x7000) || decide (0x9000 < g) || decide (o < -6144) || decide (6144 < o)

def State.chooseSlices (s : State) (p : Nat) (m : TileMeas) : State × Bool :=
  (List.range 32).foldl (fun (a : State × Bool) g =>
    let sl := a.1.sliceOf p 1 g
    let bad := m.badSlices.contains sl || sliceBad (m.slices.getD (2 * sl) 0x80000000) ||
      sliceBad (m.slices.getD (2 * sl + 1) 0x80000000)
    if bad then
      let used := (List.range 32).map (a.1.sliceOf p 1)
      match [32, 33].find? (fun q => !used.contains q && a.1.sliceUsable p q &&
          !m.badSlices.contains q) with
      | some q => (a.1.putAt (setUnit p 1) 0x2010 (0x67 + g) (toWord q), a.2)
      | none => (a.1, false)
    else a) (s, true)

/-- What a FULL leaves of one tile; `group` gives a group's measurements once the slices have been chosen. -/
def State.applyFull (s : State) (p : Nat) (m : TileMeas) (group : State → Nat → GroupMeas) : State :=
  let h := halfOf (tileHalf p)
  let u := setUnit p 1
  let s := s.putsAt u 0x2010 0x03 (m.slices.take 68)
  let s := s.putsAt u 0x2010 0x47 ((m.trims.take 32).map (fun c => toWord (sarCode c)))
  let q := s.chooseSlices p m
  let s := q.1
  let limit := s.val 0x2002 0x01
  let out := fun g => let c := m.trims.getD g 32; decide (c < 0) || decide (63 < c) || m.badTrims.contains g
  let s := (List.range 32).foldl (fun t g => t.applyGroup p g (solveGroup limit (group t g) (out g)) true) s
  let s := s.bump (calIndex h) 0x0A
  let s := (s.put64At p 0x2012 0x05 s.count).putAt p 0x2012 0x07 (s.junction h)
  let s := (s.putAt p 0x2012 0x04 0).putAt p 0x2012 0x03 0
  let s := s.landSet p
  if q.2 && !m.quartetLost then s.settleTile p else (s.setCalState p 5).retireUnit p

/-- What ZERO and FULL have measured of a tile (R225, R226), `nz` and `nf` products averaged, applied. The outputs of a
group are those that its slice of the pending selection has converted. -/
def State.applyRaw (s : State) (p : Nat) (z : ZeroRaw) (f : FullRaw) (nz nf : Nat) : State :=
  let solved := (List.range 68).map (s.sliceSolved z f nz nf)
  let out := quartets f
  let trims := (List.range 32).map (fun q => trimNeed (s.val 0x2002 0x04) (f.trims.getD q []))
  let m : TileMeas :=
    { slices := solved.map (fun o => match o with | some e => corrWord e.2 e.1 | none => 0x80000000),
      badSlices := (List.range 34).filter (fun sl =>
        (solved.getD (2 * sl) none).isNone || (solved.getD (2 * sl + 1) none).isNone),
      trims := trims.map (·.getD 32), badTrims := (List.range 32).filter (fun q => (trims.getD q none).isNone),
      quartetLost := decide (2 ≤ out.1 ∨ 2 ≤ out.2) }
  s.applyFull p m (fun t g => t.groupSolved (t.sliceWord p 1 (t.sliceOf p 1 g) 1) nz nf (8 - out.1 - out.2)
    { zero := z.zero.getD g [], diff := f.diff.getD g [], inject := f.inject.getD g [] })

/-- Measurements no command carries are free values (assumption 6): of tiles that the half calibrates
of its own accord or after a refresh. -/
def freeMeas (base : Nat) : TileMeas :=
  let w := fun j => Config.freeWord (base + j)
  { slices := (List.range 68).map w, badSlices := [],
    trims := (List.range 32).map (fun j => ((w (68 + j)).toNat % 66 : Nat) - 1), badTrims := [], quartetLost := false }

def freeGroup (base g : Nat) : GroupMeas :=
  let w := fun j => Config.freeWord (base + 100 + 99 * g + j)
  { zero := (List.range 17).map w, diff := (List.range 17).map (fun j => w (17 + j)),
    inject := (List.range 64).map (fun j => w (34 + j)), rejected := (w 98).getLsbD 0 }

/-- Calibrates a tile with measurements that no command carries. -/
def State.selfCalibrate (s : State) (p : Nat) : State :=
  (s.applyFull p (freeMeas s.free) (fun _ g => freeGroup s.free g)).freeSkip 4096

/-! ### Refresh (R236) -/

/-- A refresh of a tile, then its ZERO and FULL. -/
def State.refreshTile (s : State) (p : Nat) (seen : List RowSeen) : State :=
  let s := s.refreshRows p seen
  if (s.tile p).unusable then s else (s.putAt p 0x2012 0x08 0).selfCalibrate p

/-! ### System calibration (R224) -/

def calStep (w : Nat) : Nat := bitsOf w 28 4
def calScope (w : Nat) : Nat := bitsOf w 26 2
def calCourse (w : Nat) : Nat := bitsOf w 8 8
def calTile (w : Nat) : Nat := bitsOf w 0 8

/-- Tiles of roles 0, 1 and 2 in a command's scope. -/
def State.scopeTiles (s : State) (h : HalfId) (w : Nat) : List Nat :=
  let all := match calScope w with
    | 0 => [mkTile (halfNum h) (calCourse w) (calTile w)]
    | 1 => (List.range 34).map (fun t => mkTile (halfNum h) (calCourse w) t)
    | _ => physTiles (halfNum h)
  all.filter (fun p => s.tileRole p ≤ 2)

/-- Field checks of a command word; 0 if they pass. -/
def calFields (w : Nat) : Nat :=
  if bitsOf w 16 9 ≠ 0 then 0x2004
  else if 0x20 < calCourse w ∨ (0x21 < calTile w ∧ calTile w ≠ 0xFF) then 0x2001
  else if calStep w = 0 ∨ 4 < calStep w ∨ calScope w = 3 ∨ (calScope w = 2 ∧ calCourse w ≠ 0) ∨
      (calScope w = 0 ↔ calTile w = 0xFF) then 0x2003
  else 0

def State.markRunning (s : State) (l : List Nat) (v : Bool) : State :=
  l.foldl (fun t p => t.putAt p 0x2012 0x03 (boolWord v)) s

/-- The solver of a half holds nothing. -/
def HalfCtl.noCal (c : HalfCtl) : HalfCtl :=
  { c with calWord := 0, calZero := [], zeroMean := 0, calFull := [], fullMean := 0 }

/-- What a calibration step's products measure. -/
inductive CalRaw where
  | zero (l : List (Nat × ZeroRaw))
  | full (l : List (Nat × FullRaw))
  | none
  deriving DecidableEq, Repr

/-- The solver takes what a step measures, each measurement the mean of as many products as 0x2002.05 says now. -/
def HalfCtl.takeRaw (c : HalfCtl) (mean : Nat) : CalRaw → HalfCtl
  | .zero l => { c with calZero := l, zeroMean := mean, calFull := [] }
  | .full l => { c with calFull := l, fullMean := mean }
  | .none => c

/-- A calibration command (R224). The measurements are those that the step's products make. -/
def State.actCalibration (s : State) (h : HalfId) (word : Word) (meas : CalRaw) :
    Verdict :=
  let w := word.toNat
  let i := calIndex h
  let st := s.val i 0x02
  let bad := calFields w
  if bad ≠ 0 then .refuse bad 0
  else if calStep w = 3 then
    if st = 0 then .refuse 0x3001 0
    else
      let s := s.endPending i 0x01 0 0x3001
      let s := s.markRunning (s.scopeTiles h (s.half h).calWord) false
      .apply ((s.put i 0x02 0).modHalf h HalfCtl.noCal)
  else
    let tiles := s.scopeTiles h w
    let begin' := fun (n : Nat) =>
      Verdict.accept (.action i 0x01 0) (Config.estimate (dkey n i 0x01)) (fun s =>
        let s := ((s.put i 0x02 n).put i 0x03 tiles.length).put i 0x04 0
        let s := s.modHalf h (fun c => { c.takeRaw (s.val 0x2002 0x05) meas with calWord := w })
        s.markRunning tiles true)
    if calStep w = 2 then
      if st = 2 ∧ w % 2 ^ 16 = (s.half h).calWord % 2 ^ 16 ∧ calScope w = calScope (s.half h).calWord
      then begin' 3
      else .refuse 0x3001 0
    else
      match s.pendingOn i 0x01 0 with
      | some t => .refuse 0x6001 (s.remaining t)
      | none =>
        if tiles.isEmpty then .refuse 0x3001 0 else begin' (if calStep w = 1 then 1 else 4)

/-- Calibration of a tile waits: the manager has put off non-urgent work (R132 level 2). -/
def State.calWaits (s : State) (h : HalfId) (urgent : Bool) : Bool := (s.half h).calDeferred && !urgent

/-- Tiles that the half calibrates of its own accord now: all in state 0 at its start, those due and those urgent
(R230, R234). -/
def State.ownTiles (s : State) (h : HalfId) : List Nat :=
  (physTiles (halfNum h)).filter (fun p => s.tileRole p ≤ 2 &&
    (s.calState p == 4 || (!s.calWaits h false && (s.calState p == 3 || ((s.half h).calStart && s.calState p == 0)))))

/-- The step of the half's calibration ends (R224): ZERO results wait for FULL, FULL applies what was
measured, a refresh rewrites and calibrates. With no command pending, the tiles that the half
calibrates of its own accord finish (R230, R234). -/
def State.calRunEnds (s : State) (h : HalfId) (seen : List RowSeen) : State :=
  let i := calIndex h
  let c := s.half h
  let tiles := s.scopeTiles h c.calWord
  let finish := fun (t : State) (n : Nat) =>
    let t := (t.put i 0x02 n).put i 0x04 tiles.length
    (t.markRunning tiles false).endPending i 0x01 0 0x0000
  match s.val i 0x02 with
  | 1 => finish s 2
  | 3 =>
    let s := tiles.foldl (fun t p =>
      match lookup c.calZero p, lookup c.calFull p with
      | some z, some f => t.applyRaw p z f c.zeroMean c.fullMean
      | _, _ => t.selfCalibrate p) s
    (finish s 0).modHalf h HalfCtl.noCal
  | 4 => (finish (tiles.foldl (fun t p => t.refreshTile p seen) s) 0).modHalf h HalfCtl.noCal
  | _ =>
    let wait := s.calWaits h false
    ((s.ownTiles h).foldl (fun t p => t.selfCalibrate p) s).modHalf h (fun c => { c with calStart := c.calStart && wait })

/-- The step in progress may end: no sanitize holds a tile of it, its work is not put off, and the rows of a refresh may
be written (R132, R325, R478). -/
def State.calMayEnd (s : State) (h : HalfId) : Bool :=
  let i := calIndex h
  let w := (s.half h).calWord
  let tiles := s.scopeTiles h w
  let st := s.val i 0x02
  s.runs h && !tiles.any s.inSanitize &&
  !((st == 1 || st == 3 || st == 4) && s.calWaits h (bitsOf w 25 1 == 1)) &&
  (st != 4 || tiles.all s.rewriteFree)

/-- CAL_RUN_COMPLETE. -/
def execCalRunComplete (h : HalfId) (seen : List RowSeen) (s : State) : Result :=
  onPower s (fun s => if s.calMayEnd h then s.calRunEnds h seen else s)

/-- ZERO_RESULT_EXPIRE: 1 s without FULL discards the ZERO results (R224). -/
def execZeroResultExpire (h : HalfId) (s : State) : Result :=
  onPower s (fun s =>
    if s.val (calIndex h) 0x02 = 2 then (s.put (calIndex h) 0x02 0).modHalf h HalfCtl.noCal
    else s)

/-- The group awaits no swap any more. -/
def State.noSwap (s : State) (p g : Nat) : State :=
  s.modTile p (fun t => { t with swapDue := t.swapDue.filter (fun e => e.group != g) })

/-- COLUMN_SWAP: once the owner's step has sealed, the worst weight column's four physical columns go to spares, counted
as one field repair, and the group calibrates again; rejected again, no further swap is made. With fewer than four spare
columns left there is no swap (R228). -/
def execColumnSwap (tile group : Nat) (meas : GroupRaw) (s : State) : Result :=
  onPower s (fun s =>
    match (s.tile tile).swapDue.find? (fun e => e.group == group) with
    | none => s
    | some e =>
      if !s.swapOpen e || !s.rewriteFree tile then s
      else if (s.spareColumnsFree tile).length < 4 then
        let s := s.putAt tile 0x2012 (0x09 + group)
          (groupResult 0x4003 ((s.regAt tile 0x2012 (0x09 + group)).toNat % 65536))
        (s.noSwap tile group).settleTile tile
      else
        let n := s.val 0x2002 0x05
        let s := s.replaceColumns tile ((List.range 4).map (fun k => 68 * group + 4 * e.column + k)) false
        let s := s.noSwap tile group
        let m := s.groupSolved (s.sliceWord tile 1 (s.sliceOf tile 1 group) 1) n n 8 meas
        let s := s.applyGroup tile group (solveGroup (s.val 0x2002 0x01) m false) false
        (s.landSet tile).settleTile tile)

/-! ### Monitors (R233) -/

/-- A monitor reaches its due or its urgent level: the tile's state becomes 3 or 4. A tile that is not
calibrated has no monitor. -/
def State.monitor (s : State) (p b : Nat) (urgent : Bool) : State :=
  let st := s.calState p
  if st = 0 ∨ st = 5 then s
  else
    let s := s.putBitAt p 0x2012 0x04 b true
    s.setCalState p (if urgent ∨ st = 4 then 4 else 3)

/-- The probe's error and what its monitor makes of it: gain in ppm, offset in 1/8 LSB. -/
def State.probed (s : State) (p gainPpm offset : Nat) : State :=
  let s := s.putAt p 0x2012 0x29 (toWord (min 0xFFFF gainPpm * 65536 + min 0xFFFF offset))
  let g := s.val 0x2002 0x07
  let o := s.val 0x2002 0x08
  if g ≤ gainPpm ∨ o ≤ offset then s.monitor p 1 true
  else if g ≤ 2 * gainPpm ∨ o ≤ 2 * offset then s.monitor p 1 false
  else s

/-- PROBE: one Z3 and one F3 measurement through the active coefficients, in a natural gap. -/
def execProbe (tile gainPpm offset : Nat) (s : State) : Result :=
  onPower s (fun s =>
    if s.runs (halfOf (tileHalf tile)) && s.gap tile && decide (s.tileRole tile ≤ 2) && !s.inSanitize tile then
      s.probed tile gainPpm offset
    else s)

/-- DRIFT_MONITOR: bits 0 temperature, 1 probe, 2 checksum transients (urgent only), 3 age (due only),
4 restore (0x2012.04). -/
def execDriftMonitor (tile bit : Nat) (urgent : Bool) (s : State) : Result :=
  onPower s (fun s =>
    if 4 < bit then s
    else s.monitor tile bit (if bit = 2 then true else if bit = 3 then false else urgent))

/-! ### Relocation and escalation (R235, R511) -/

/-- Free spare tile of a logical tile's course that is calibrated or restored. -/
def State.relocationSpare (s : State) (l : Nat) : Option Nat :=
  (s.fabric.freeSpares (tileHalf l) (s.fabric.physCourse l)).find? (fun q =>
    (s.calState q == 1 || s.calState q == 2) && !s.fabric.relocated.any (fun e => e.2 == q))

/-- A spare serves the tile's logical address for one step: its array is written from the records, and rows to be
transferred wait with it. -/
def State.relocate (s : State) (p l q : Nat) : State :=
  let s := s.setTile { (s.tile p).contentTo (s.tile q) with inPass := false, paused := false, written := [], owed := 0 }
  let s := s.modTile p (fun t => { t with queue := [], nextQueue := [] })
  let s := (s.copySurround p q).rewriteTile q false
  { s with fabric := { s.fabric with relocated := s.fabric.relocated ++ [(l, q)] } }

/-- The step is over: the vacated tile serves again, a verify read of each row in both shadow banks,
and the spare is free (R511). -/
def State.endRelocation (s : State) (l : Nat) : State :=
  match lookup s.fabric.relocated l with
  | none => s
  | some q =>
    let used := s.tile q
    let s := { s with fabric := { s.fabric with
      relocated := s.fabric.relocated.filter (fun e => e.1 != l) } }
    match s.fabric.phys l with
    | none => s
    | some p =>
      let s := s.setTile used.vacant
      let s := (s.modTile p (fun t => { t with queue := used.queue, nextQueue := used.nextQueue })).shadowAll p false
      if s.valAt p 0xF021 0x02 = 3 then s.putAt p 0xF021 0x02 0 else s

/-- The owner of a logical tile is at the start of a step as far as the unit that serves it goes: nothing of a step in
progress has been issued on it. -/
def State.stepFresh (s : State) (p l : Nat) : Bool :=
  match s.ownerOf l with
  | some c => c.phase == 0 || !c.used.contains (unitTile p)
  | none => false

/-- A tile's work may move to a spare for its owner's step: no strand is issued on it, no snapshot of it is held, no spare
serves for it (R235, R511). -/
def State.mayRelocate (s : State) (p l : Nat) : Bool :=
  !s.tileBusy p && s.stepFresh p l && s.valAt l 0x4021 0x04 == 0 && (lookup s.fabric.relocated l).isNone

/-- CAL_ESCALATE: a tile urgent for the urgent limit moves its layer to a spare tile of its course for
one step; with no spare it keeps serving and a Warning is logged each second (R235). -/
def execCalEscalate (tile : Nat) (s : State) : Result :=
  onPower s (fun s =>
    if s.calState tile ≠ 4 then s
    else
      let h := halfOf (tileHalf tile)
      let first := (s.bump (calIndex h) 0x09).riskEvent h 6
      match s.fabric.logical tile with
      | none => first
      | some l =>
        match s.relocationSpare l with
        | some q => if s.mayRelocate tile l then first.relocate tile l q else s
        | none =>
          if (lookup s.fabric.relocated l).isSome then s
          else first.log { cls := clsWarning, unit := unitTile tile,
                           obj := counter (calIndex h) 0x09 })

/-- REFRESH_AGE: the tile's hours since its last refresh have reached the refresh age (R236). A refresh
starts only with no snapshot outstanding and no pass in progress (R325, R348). -/
def execRefreshAge (tile : Nat) (seen : List RowSeen) (s : State) : Result :=
  onPower s (fun s =>
    if s.rewriteFree tile && decide (s.tileRole tile ≤ 2) then s.refreshTile tile seen else s)

/-! ### Images (R237 to R239) -/

/-- Active set of a tile in the layout of image bytes 64 to 10,767. -/
def State.setBytes (s : State) (p : Nat) : List Byte :=
  (s.regsAt (setUnit p 0) 0x2010 0x03 68).flatMap wordBytes ++
  (List.range 32).flatMap (fun g => (s.regsAt (groupUnit p g 0) 0x2011 0x04 17).flatMap wordBytes) ++
  (List.range 32).flatMap (fun g => (s.regsAt (groupUnit p g 0) 0x2011 0x15 64).flatMap wordBytes) ++
  (s.regsAt (setUnit p 0) 0x2010 0x47 32).map (fun w => w.extractLsb' 0 8) ++
  (s.regsAt (setUnit p 0) 0x2010 0x67 32).map (fun w => w.extractLsb' 0 8)

/-- Copy of the spare column map: 64 U16. -/
def State.mapBytes (s : State) (p : Nat) : List Byte :=
  (List.range 64).flatMap (fun i => natBytes 2 (s.valAt p 0x4004 (0x02 + i)))

/-- A tile's calibration image (R237). -/
def State.calImage (s : State) (p : Nat) : List Byte :=
  let body := s.setBytes p ++ s.mapBytes p
  natBytes 4 0x4B43414C ++ natBytes 4 1 ++ natBytes 8 (s.val64 0x0000 0x06) ++ natBytes 4 p ++
  natBytes 4 (s.valAt p 0x2012 0x07) ++ natBytes 8 (s.val64At p 0x2012 0x05) ++ sha256Bytes body ++ body

/-- Check of a correction word against its field ranges (R220); 0 if it passes. -/
def corrCheck (w : Word) (lo hi : Nat) : Nat :=
  let g := w.toNat / 65536
  if hi < g then 0x2001 else if g < lo then 0x2002 else 0

/-- Check of a matrix element: NaN and infinity are refused (R112, R222). -/
def quadCheck (w : Word) : Nat := if f32Finite w then 0 else 0x2003

def trimCheck (n : Nat) : Nat := if 64 ≤ n then 0x2004 else 0

/-- A slice selection names 32 different usable slices (R222). -/
def State.selectCheck (s : State) (p : Nat) (l : List Nat) : Nat :=
  if l.any (fun q => 33 < q) then 0x2001
  else if l.eraseDups.length = l.length ∧ l.all (s.sliceUsable p) = true then 0 else 0x2003

def firstBad (l : List Nat) : Nat := (l.find? (· != 0)).getD 0

def wordAt (l : List Byte) (off : Nat) : Word := toWord (fieldAt l off 4)

/-- Checks of a whole image (R238); 0 if it is accepted. -/
def State.imageCheck (s : State) (p : Nat) (l : List Byte) : Nat :=
  if l.length ≠ 10896 ∨ fieldAt l 0 4 ≠ 0x4B43414C ∨ fieldAt l 4 4 ≠ 1 then 0x1005
  else if fieldAt l 8 8 ≠ s.val64 0x0000 0x06 ∨ fieldAt l 16 4 ≠ p then 0x2003
  else if (l.drop 32).take 32 ≠ sha256Bytes (l.drop 64) then 0x2003
  else
    let bad := firstBad (
      (List.range 68).map (fun j => corrCheck (wordAt l (64 + 4 * j)) 0x7000 0x9000) ++
      (List.range 544).map (fun j => corrCheck (wordAt l (336 + 4 * j)) 0x4000 0xFFFF) ++
      (List.range 2048).map (fun j => quadCheck (wordAt l (2512 + 4 * j))) ++
      (List.range 32).map (fun j => trimCheck (fieldAt l (10704 + j) 1)) ++
      [s.selectCheck p ((List.range 32).map (fun j => fieldAt l (10736 + j) 1))])
    if bad ≠ 0 then bad
    else if l.drop 10768 ≠ s.mapBytes p then 0x3001
    else if s.tileRole p = 3 then 0x3001
    else if s.valAt p 0x2012 0x03 ≠ 0 then 0x6001
    else 0

/-- An accepted image goes wholly to the pending set; the tile is restored, and its monitors start
from the image's temperature and from now (R238). -/
def State.applyImage (s : State) (p : Nat) (l : List Byte) : State :=
  let ws := fun off n => (List.range n).map (fun j => wordAt l (off + 4 * j))
  let bs := fun off n => (List.range n).map (fun j => toWord (fieldAt l (off + j) 1))
  let u := setUnit p 1
  let s := s.putsAt u 0x2010 0x03 (ws 64 68)
  let s := (s.putsAt u 0x2010 0x47 (bs 10704 32)).putsAt u 0x2010 0x67 (bs 10736 32)
  let s := (List.range 32).foldl (fun t g =>
    (t.putsAt (groupUnit p g 1) 0x2011 0x04 (ws (336 + 68 * g) 17)).putsAt (groupUnit p g 1) 0x2011
      0x15 (ws (2512 + 256 * g) 64)) s
  let s := (s.put64At p 0x2012 0x05 s.count).putAt p 0x2012 0x07 (wordAt l 20)
  let s := s.modTile p (fun t => { t with accepted := List.range 32, swapDue := [] })
  ((s.putAt p 0x2012 0x04 0).setCalState p 2).landSet p

end Sys2Proof.Machine
end

