-- ==== Sys2Proof/Machine/Forward.lean ====
section
/-! DEFINITION. A step's forward: its tensors, digital-resident layers, tensor evaluation, repeats and
norm watch (R258 to R262, R279 to R298). -/

namespace Sys2Proof.Machine

open Sys2Proof

/-! ### Programs (R279) -/

/-- Byte address of a program's offset in the half's HBM. -/
def State.progAt (s : State) (n off : Nat) : Nat := s.val64 (cidx n) 0x07 + off

/-- Records that the step in progress takes: the batch, fewer at the end of a stream (R157, R159). -/
def State.batch (s : State) (c : Ctx) : Nat :=
  let b := s.val (cidx c.n) 0x40
  if s.val (cidx c.n) 0x43 = 0 then b else min b (c.producer - s.val64 (cidx c.n) 0x4C)

/-! ### Streams of records (R157) -/

def State.streaming (s : State) (n : Nat) : Bool := s.val (cidx n) 0x43 != 0

/-- Place of record `i` in a ring of the context's 2^m entries. -/
def State.ringPlace (s : State) (n base size i : Nat) : Nat := base + i % 2 ^ s.val (cidx n) 0x43 * size

/-- Host address of record `i` of the input ring. -/
def State.recordAddr (s : State) (n i : Nat) : Nat :=
  s.ringPlace n (s.val64 (cidx n) 0x41) (s.val (cidx n) 0x44) i

/-- First byte of the line that holds a host address. -/
def lineStart (a : Nat) : Nat := a / 64 * 64

/-- The half asks for its producer line, which the device cache then holds shared (R157). -/
def State.readProducer (s : State) (c : Ctx) : State :=
  s.request c.half .rdShared (lineStart (s.val64 (cidx c.n) 0x45)) []

/-- First bytes of the 64-byte lines that a span touches. -/
def linesOf (a size : Nat) : List Nat :=
  (List.range ((a + size + 63) / 64 - a / 64)).map (fun k => (a / 64 + k) * 64)

/-- The records of the step in progress are read with RdCurr; the device keeps none of them (R68, R157). -/
def State.readRecords (s : State) (c : Ctx) : State :=
  if !s.streaming c.n then s
  else
    let done := s.val64 (cidx c.n) 0x4C
    ((List.range (s.batch c)).flatMap (fun i =>
      linesOf (s.recordAddr c.n (done + i)) (s.val (cidx c.n) 0x44))).foldl
      (fun t a => t.request c.half .rdCurr a []) s

/-- Word that an input tensor takes from the step's records, `rows` × `cols` over the batch. -/
def State.recordWord (s : State) (c : Ctx) (id rows cols i : Nat) : Word :=
  let per := rows * cols / max 1 (s.batch c)
  let k := s.val64 (cidx c.n) 0x4C + i / max 1 per
  Config.streamWord k (s.recordAddr c.n k) id (i % max 1 per)

/-- Rows of the tensors that layers produce: the input's vectors over the pooling window. -/
def tensorRows (batch : Nat) (decls : List TensorDecl) (layers : List Layer) : List (Nat × Nat) :=
  layers.foldl (fun rows L =>
    (L.output, (lookup rows L.input).getD batch / L.window) :: rows)
    (decls.map (fun d => (d.id, d.rows)))

/-- Vectors that layer `k` takes. -/
def State.layerVecs (s : State) (c : Ctx) (k : Nat) : Nat :=
  match c.layers[k]? with
  | some L => (lookup (tensorRows (s.batch c) c.decls (c.layers.take k)) L.input).getD (s.batch c)
  | none => 0

/-- Number of digital-resident layers before layer `k`. -/
def digitalBefore (l : List Layer) (k : Nat) : Nat := ((l.take k).filter (·.digital)).length

/-- Course whose engine runs a digital-resident layer (R152). -/
def engineCourse (c : Ctx) (k : Nat) : Nat := (c.n + digitalBefore c.layers k) % 32

/-- The context trains: it is neither a scoring context nor a companion (R153, R299, assumption 21). -/
def State.trains (s : State) (n : Nat) : Bool :=
  s.val (cidx n) 0x03 != 1 && !s.flag (cidx n) 0x05 5

/-! ### The gradient vector (R374) -/

/-- Elements that a digital-resident layer holds: weights and bias, or γ and β. -/
def Layer.elems (L : Layer) : Nat :=
  if !L.digital then 0
  else match L.kind with
    | 0 => L.nIn * L.nOut + (if L.bias = 0 then 0 else L.nOut)
    | 1 => 2 * L.nOut
    | _ => 0

def tilesTotal (l : List Layer) : Nat := l.foldl (fun a L => a + L.tileCount) 0

/-- First gradient vector index of a digital-resident layer. -/
def elemBase (c : Ctx) (k : Nat) : Nat :=
  tilesTotal c.layers * 524288 + (c.layers.take k).foldl (fun a L => a + L.elems) 0

/-- Length N of the gradient vector. -/
def gradLength (c : Ctx) : Nat := elemBase c c.layers.length

def ceilDiv (n m : Nat) : Nat := (n + m - 1) / m

def bucketSize : Nat := 4194304

/-- Buckets of a gradient vector of length `n`: their number, the first index and the length of each. -/
def bucketCount (n : Nat) : Nat := ceilDiv n bucketSize
def bucketLo (n b : Nat) : Nat := n - bucketSize * (b + 1)
def bucketLen (n b : Nat) : Nat := (n - bucketSize * b) - bucketLo n b

/-- An index of the gradient vector lies in a bucket. -/
def inBucket (n b i : Nat) : Bool := decide (bucketLo n b ≤ i ∧ i < bucketLo n b + bucketLen n b)

/-- Index of weight (i, j) of layer `k`. -/
def weightIndex (c : Ctx) (k i j : Nat) : Nat :=
  match c.layers[k]? with
  | none => 0
  | some L =>
    if L.digital then elemBase c k + i * L.nOut + j
    else (firstPlace c.layers k + j / 512 * L.tileRows + i / 1024) * 524288 + i % 1024 * 512 + j % 512

/-- Index of bias j of a digital matrix layer, of γ j and of β j of a kind 1 layer. -/
def biasIndex (c : Ctx) (k j : Nat) : Nat :=
  match c.layers[k]? with
  | none => 0
  | some L => elemBase c k + (if L.kind = 0 then L.nIn * L.nOut else L.nOut) + j
def gammaIndex (c : Ctx) (k j : Nat) : Nat := elemBase c k + j

def elemDefault (_ : Nat) : Elem := { master := 0, m1 := 0, m2 := 0 }
def Ctx.elem (c : Ctx) (i : Nat) : Elem := Sparse.get elemDefault c.elems i

/-! ### Weights and parameters of digital-resident layers (R284, R314, R326) -/

/-- Address of a region that a backward area's header names; none where it is absent (R314). -/
def State.areaRegion (s : State) (c : Ctx) (L : Layer) (off : Nat) : Option Nat :=
  let a := s.progAt c.n L.area
  let o := s.hbmNat c.half (a + off) 4
  if L.area = 0 ∨ o = 0 then none else some (a + o)

/-- Bytes of one buffer of the weight copy. -/
def Layer.copyBytes (L : Layer) : Nat :=
  (L.nIn * L.nOut + ((L.nIn + 31) / 32) * ((L.nOut + 31) / 32) + 4 + 4095) / 4096 * 4096

/-- Address of the weight copy's buffer that a step reads. -/
def State.copyAt (s : State) (c : Ctx) (L : Layer) (step : Nat) : Nat :=
  (s.areaRegion c L 12).getD 0 + step % 2 * L.copyBytes

def State.copyCode (s : State) (c : Ctx) (L : Layer) (a i j : Nat) : Nat :=
  (s.hbmByte c.half (a + i * L.nOut + j)).toNat
def State.copyFine (s : State) (c : Ctx) (L : Layer) (a i j : Nat) : Word :=
  let b := (s.hbmByte c.half (a + L.nIn * L.nOut + i / 32 * ((L.nOut + 31) / 32) + j / 32)).toNat
  if b = 0xFF then f32NaN else b8Val b
def State.copyCoarse (s : State) (c : Ctx) (L : Layer) (a : Nat) : Word :=
  s.hbmWord c.half (a + L.nIn * L.nOut + ((L.nIn + 31) / 32) * ((L.nOut + 31) / 32))

/-- A word of a program table. -/
def State.progWord (s : State) (c : Ctx) (off : Nat) : Word := s.hbmWord c.half (s.progAt c.n off)

/-- Bias of a digital matrix layer: its master, or the program's where the context holds no share
(R333, R342). -/
def State.biasVal (s : State) (c : Ctx) (L : Layer) (k j : Nat) : Word :=
  if L.bias = 0 then f32Zero
  else if s.flag (cidx c.n) 0x05 5 then s.progWord c (L.bias + 4 * j)
  else (c.elem (biasIndex c k j)).master

def State.gammaVal (s : State) (c : Ctx) (L : Layer) (k j : Nat) : Word :=
  if s.flag (cidx c.n) 0x05 5 then s.progWord c (L.params + 4 + 4 * j)
  else (c.elem (gammaIndex c k j)).master

def State.betaVal (s : State) (c : Ctx) (L : Layer) (k j : Nat) : Word :=
  if s.flag (cidx c.n) 0x05 5 then s.progWord c (L.params + 4 + 4 * L.nOut + 4 * j)
  else (c.elem (biasIndex c k j)).master

def State.epsilon (s : State) (c : Ctx) (L : Layer) : Word := s.progWord c L.params

/-! ### Input tensors -/

/-- A tensor of the step; a program input that no declaration places in memory is FP32 words of the step's records, or
free words for a context without a stream (assumption 22). -/
def State.inputTensor (s : State) (c : Ctx) (id rows cols : Nat) : Tensor :=
  match c.tensor id false with
  | some t => t
  | none =>
    let t := Tensor.fresh id false 0x05 rows cols f32One
    { t with codes := (List.range (rows * cols)).map (fun i =>
        (i, (if s.streaming c.n then s.recordWord c id rows cols i
             else Config.inputWord c.n id (s.stepOf c.n) i).toNat)), ready := true }

/-! ### Digital-resident evaluation (R284, R285) -/

/-- One row of a matrix layer before bias. -/
def State.matrixRow (s : State) (c : Ctx) (L : Layer) (x : Tensor) (v : Nat) : List Word :=
  let a := s.copyAt c L (s.stepOf c.n)
  (List.range L.nOut).map (fun j =>
    dot ((List.range L.nIn).map (fun i =>
      term (x.elem v i) (x.fineVal v i) (Fmt.k8.decode (s.copyCode c L a i j)) (s.copyFine c L a i j)))
      x.coarseVal (s.copyCoarse c L a))

/-- Mean and variance of a row. -/
def rowMean (xs : List Word) : Word := fdiv (refSum xs) (f32OfNat xs.length)
def rowVar (xs : List Word) : Word :=
  let m := rowMean xs
  fdiv (refSum (xs.map (fun x => fmul (fsub x m) (fsub x m)))) (f32OfNat xs.length)

/-- Kind 1 without γ and β. -/
def normHat (xs : List Word) (eps : Word) : List Word :=
  let m := rowMean xs
  let d := fsqrt (fadd (rowVar xs) eps)
  xs.map (fun x => fdiv (fsub x m) d)

/-- Kind 2. -/
def softRow (xs : List Word) : List Word :=
  let m := xs.foldl fmax (xs.headD f32Zero)
  let e := xs.map (fun x => expOf (fsub x m))
  let t := refSum e
  e.map (fun x => fdiv x t)

/-- Stage 4 result of one vector of a digital-resident layer. -/
def State.digitalRow (s : State) (c : Ctx) (L : Layer) (k : Nat) (x x2 : Tensor) (v : Nat) :
    List Word :=
  let xs := fun (t : Tensor) => (List.range L.nIn).map (fun i => t.value v i)
  match L.kind with
  | 0 => ((List.range L.nOut).zip (s.matrixRow c L x v)).map (fun e => fadd e.2 (s.biasVal c L k e.1))
  | 1 => ((List.range L.nOut).zip (normHat (xs x) (s.epsilon c L))).map (fun e =>
      fadd (fmul e.2 (s.gammaVal c L k e.1)) (s.betaVal c L k e.1))
  | 2 => softRow (xs x)
  | _ => ((xs x).zip (xs x2)).map (fun e => fadd e.1 e.2)

/-- Piecewise table of a layer as the program gives it. -/
def State.layerTable (s : State) (c : Ctx) (L : Layer) (i : Nat) : Word × Word :=
  (s.progWord c (L.table + 8 * i), s.progWord c (L.table + 8 * i + 4))

/-- Evaluates a whole digital-resident layer: stages 4 to 7 on the engine. -/
def State.runDigital (s : State) (c : Ctx) (L : Layer) (k : Nat) : State :=
  match c.tensor L.output false with
  | none => s
  | some out =>
    let vecs := s.layerVecs c k
    let x := s.inputTensor c L.input vecs L.nIn
    let x2 := s.inputTensor c L.input2 vecs L.nIn
    let pre := (List.range vecs).map (s.digitalRow c L k x x2)
    let act := pre.map (fun r => r.map (activate L.activation L.slope L.xMin L.xMax (s.layerTable c L)))
    let out := ((List.range vecs).zip pre).foldl (fun t e => t.putPre e.1 0 e.2) out
    let w := L.window
    let out := (List.range (vecs / w)).foldl (fun t r =>
      let win := (List.range w).map (fun j => act.getD (r * w + j) [])
      let row := (List.range L.nOut).map (fun j => poolValues L.poolOp (column win j))
      let t := t.putRow r 0 row
      if L.poolOp = 1 then t.putPeak r 0 ((List.range L.nOut).map (fun j => peakOf (column win j)))
      else t) out
    (s.convBlocks c L out (if L.kind = 0 then L.nIn else 0) (L.format == 0x01 && feedsTiles c.layers L.output) (List.range out.blockCount)).1

/-! ### Norm watch (R290 to R292, R296) -/

/-- Watch record of a layer, or of a block of it (0xFFFF for the layer). -/
def Ctx.watch (c : Ctx) (layer block : Nat) : Watch :=
  (c.watches.find? (fun w => w.layer == layer && w.block == block)).getD
    { layer := layer, block := block, fwdAvg := 0, gradAvg := 0, fwdL := 0, gradL := 0, fwdCount := 0,
      gradCount := 0, fwdShift := false, gradShift := false, clean := 0, shiftUps := 0, hit := false,
      fwdSeen := false, gradSeen := false }

def Ctx.setWatch (c : Ctx) (w : Watch) : Ctx :=
  { c with watches := replaceBy (fun x => x.layer == w.layer && x.block == w.block) w c.watches }

/-- L(N) = e + (m - 1) (R291): exact. Zero gives minus infinity. -/
def normL (n : Word) : Word :=
  if f32IsZero n then f32Inf true
  else
    let u := f32Units n
    let e := Nat.log2 u
    let v : Int := ((e : Int) - 149) * 2 ^ 149 + ((u - 2 ^ e) * 2 ^ 149 / 2 ^ e : Nat)
    f32Round (decide (v < 0)) v.natAbs 1

/-- Norm of FP32 values in row-major order. -/
def normOf (l : List Word) : Word := fsqrt (refSum (l.map (fun x => fmul x x)))

/-- What a norm makes of an average: the average, the last L, the norms recorded, and whether it triggers. -/
structure Watched where
  avg : Word
  last : Word
  count : Nat
  trig : Bool
  deriving DecidableEq, Repr

/-- One norm enters an average; one that is not finite is invalid and is not recorded (R291). -/
def watchStep (threshold : Word) (warm : Nat) (n a last : Word) (count : Nat) : Watched :=
  if !f32Finite n then { avg := a, last := last, count := count, trig := true }
  else
    let l := normL n
    { avg := if count = 0 then l
        else if f32Finite l then fadd a (fmul (fsub l a) (f32Pow2 (-4))) else a,
      last := l, count := count + 1, trig := decide (warm ≤ count) && flt threshold (fabs (fsub l a)) }

/-- Instance of a watch record in 0x3031. -/
def watchUnit (n layer block : Nat) : Nat := (n * 2 ^ 18 + layer) * 2 ^ 18 + block

/-- Mirrors a watch record in 0x3031. -/
def State.showWatch (s : State) (n : Nat) (w : Watch) : State :=
  let u := watchUnit n w.layer w.block
  let s := s.putAt u 0x3031 0x04 (toWord ((if w.fwdShift then 1 else 0) + (if w.gradShift then 2 else 0)))
  let s := s.putAt u 0x3031 0x05 (toWord w.clean)
  let s := s.putAt u 0x3031 0x06 w.fwdAvg
  let s := s.putAt u 0x3031 0x07 w.gradAvg
  let s := s.putAt u 0x3031 0x08 w.fwdL
  let s := s.putAt u 0x3031 0x09 w.gradL
  let s := s.putAt u 0x3031 0x0A (toWord w.fwdCount)
  s.putAt u 0x3031 0x0B (toWord w.shiftUps)

def State.putWatch (s : State) (n : Nat) (w : Watch) : State :=
  (s.modCtx n (fun c => c.setWatch w)).showWatch n w

def shiftIndex (h : HalfId) : Nat := pick h 0x3040 0x3041

/-- Watched layers of a program (R297). -/
def watchedCount (l : List Layer) : Nat := (l.filter (·.watched)).length

/-- The tensor is wide in its next run: a consumer in tiles is shifted up (R295). -/
def Ctx.wideFor (c : Ctx) (id : Nat) : Bool :=
  ((List.range c.layers.length).zip c.layers).any (fun e =>
    e.2.input == id && e.2.format != 0 && (c.stormRepeat && !e.2.digital ||
      c.watches.any (fun w => w.layer == e.1 && w.fwdShift)))

/-! ### Building the strands of a step (R147, R317) -/

/-- Pieces of at most `n` vectors, from a first vector to a total. -/
def pieces : Nat → Nat → Nat → Nat → List (Nat × Nat)
  | 0, _, _, _ => []
  | k + 1, first, total, n =>
    if first < total then (first, min n (total - first)) :: pieces k (first + n) total n else []

def cutVectors (total n : Nat) : List (Nat × Nat) := pieces total 0 total (max 1 n)

/-- A strand not yet numbered. -/
def Strand.make (step layer : Nat) (kind : StrandKind) (course vec0 count : Nat) : Strand :=
  { id := 0, step := step, layer := layer, kind := kind, course := course, vec0 := vec0,
    count := count, issued := false, dead := false, again := false, piece := 0, ran := 0, snapshot := [] }

/-- Forward strands of layer `k` in program order. -/
def State.forwardStrands (s : State) (c : Ctx) (k : Nat) : List Strand :=
  match c.layers[k]? with
  | none => []
  | some L =>
    let cuts := cutVectors (s.layerVecs c k) L.strand
    let step := s.stepOf c.n
    if L.digital then
      let blocks := if L.kind = 0 then L.blocks else 1
      cuts.flatMap (fun v => (List.range blocks).map (fun j =>
        Strand.make step k (.engine j) (engineCourse c k) v.1 v.2))
    else
      let mine := ((s.tilesOf c.n).drop (firstPlace c.layers k)).take L.tileCount
      cuts.flatMap (fun v => mine.map (fun l =>
        Strand.make step k (.forward l) (tileCourse l) v.1 v.2))

/-- Numbers strands from `n` on. -/
def numberFrom : Nat → List Strand → List Strand
  | _, [] => []
  | n, x :: r => { x with id := n } :: numberFrom (n + 1) r

/-- Adds strands to those that wait for a slot. -/
def Ctx.enqueue (c : Ctx) (l : List Strand) : Ctx :=
  { c with todo := c.todo ++ numberFrom c.nextStrand l, nextStrand := c.nextStrand + l.length }

/-! ### Slots (R155) -/

def Strand.tile? (x : Strand) : Option Nat :=
  match x.kind with
  | .forward l => some l
  | _ => none

/-- Strands of a half's contexts that hold slots of a course. -/
def State.courseSlots (s : State) (h : HalfId) (course : Nat) : List Strand :=
  ((s.ctxs.filter (fun c => c.half == h)).flatMap (·.slots)).filter (fun x => x.course == course)

/-- A slot is free for a strand: 2,048 forward strands a tile, 16,384 engine strands a course, 65,536
in all. -/
def State.slotFree (s : State) (h : HalfId) (x : Strand) : Bool :=
  let l := s.courseSlots h x.course
  decide (l.length < 65536) &&
  match x.tile? with
  | some t => decide ((l.filter (fun y => y.tile? == some t)).length < 2048)
  | none => decide ((l.filter (fun y => y.tile?.isNone)).length < 16384)

/-- The builder fills slots in program order and waits at the first strand that finds none free; a wait is counted once
(R155). -/
def State.fillFrom (s : State) (n : Nat) : Nat → State
  | 0 => s
  | k + 1 =>
    match s.ctx n with
    | none => s
    | some c =>
      match c.todo with
      | [] => s
      | x :: r =>
        if s.slotFree c.half x then
          (s.setCtx { c with todo := r, slots := c.slots ++ [x], waits := false }).fillFrom n k
        else if c.waits then s
        else (s.setCtx { c with waits := true }).bump (pick c.half 0x4102 0x4103) 0x06

def State.fillSlots (s : State) (n : Nat) : State :=
  match s.ctx n with
  | some c => s.fillFrom n c.todo.length
  | none => s

/-- Slots of a half that are free again go to the contexts whose builder waits, in ascending context number. -/
def State.refill (s : State) (h : HalfId) : State :=
  (((s.ctxs.filter (fun c => c.half == h && !c.todo.isEmpty)).map (·.n)).mergeSort (fun a b => decide (a ≤ b))).foldl
    (fun t n => t.fillSlots n) s

/-! ### Beginning a step -/

/-- Format and coarse scale of a layer's output in the step. -/
def State.freshOutput (s : State) (c : Ctx) (k : Nat) (L : Layer) : Tensor :=
  let rows := s.layerVecs c k / L.window
  let wide := L.format == 0x01 && c.wideFor L.output
  let f := (Fmt.ofCode L.format).getD .f32
  let coarse := if f.scaled then s.coarseFor c.half c.n L.output f L.initMax (s.stepOf c.n) else f32One
  { Tensor.fresh L.output false (if wide then 0x02 else L.format) rows L.nOut coarse with
    wide := wide }

/-- Bytes of a tensor in an item: packed codes, scales, coarse scale (assumption 30). -/
def Tensor.wire (t : Tensor) : List Byte :=
  let cs := (List.range (t.rows * t.cols)).map (fun j => (lookup t.codes j).getD 0)
  packBytes (t.fmt.signBit + 1) cs ++
  (if t.fmt.scaled then (List.range t.blockCount).map (fun k => BitVec.ofNat 8 ((lookup t.scales k).getD 0))
   else []) ++ wordBytes t.coarse

/-- The tensor that an item's bytes carry, in the shape and format of `t`. -/
def Tensor.ofWire (t : Tensor) (l : List Byte) : Tensor :=
  let w := t.fmt.signBit + 1
  let n := t.rows * t.cols
  let size := (n * w + 7) / 8
  let codes := (List.range n).map (fun i =>
    (i, if w = 4 then fieldAt l (i / 2) 1 / 16 ^ (i % 2) % 16 else fieldAt l (i * (w / 8)) (w / 8)))
  let k := if t.fmt.scaled then t.blockCount else 0
  { t with codes := codes, scales := (List.range k).map (fun j => (j, fieldAt l (size + j) 1)),
           coarse := toWord (fieldAt l (size + k) 4), ready := true }

/-- The latest item held for a receive link of a tensor in a step. -/
def Ctx.linkItem (c : Ctx) (id step : Nat) : Option Item :=
  match c.exchange with
  | none => none
  | some x =>
    match x.links.findIdx? (fun e => e.1 == id && e.2.2) with
    | none => none
    | some k => x.held.foldl (fun (b : Option Item) i =>
        if i.cls = 1 ∧ i.item = k ∧ i.step = step then
          (match b with | some y => if y.attempt < i.attempt then some i else some y | none => some i)
        else b) none

/-- A tensor reaches the context over a link. -/
def Ctx.linked (c : Ctx) (id : Nat) : Bool :=
  match c.exchange with
  | none => false
  | some x => x.links.any (fun e => e.1 == id && e.2.2)

/-- A declared tensor that a peer sends: what has come of it so far. -/
def Ctx.linkTensor (c : Ctx) (d : TensorDecl) (step : Nat) : Tensor :=
  let t := Tensor.fresh d.id false d.code d.rows d.cols d.coarse
  match c.linkItem d.id step with
  | some i => t.ofWire i.data
  | none => t

/-- A declared tensor that no layer produces is read from memory; MX blocks are counted (R273). One that
a peer sends is what the peer has sent (R385). -/
def State.loadInputs (s : State) (n : Nat) (c : Ctx) : State :=
  let s := (c.decls.filter (fun d => c.linked d.id)).foldl (fun t d =>
    t.modCtx n (fun x => x.setTensor (c.linkTensor d (s.stepOf n)))) s
  let inputs := c.decls.filter (fun d => !c.linked d.id && !c.layers.any (fun L => L.output == d.id))
  inputs.foldl (fun t d =>
    let q := t.readDecl c.half d (feedsTiles c.layers d.id)
    (t.recordImport c.half n q.1 q.2.1 q.2.2).modCtx n (fun x => x.setTensor q.1)) s

/-- Shifted layers with enough clean steps shift down (R296). -/
def State.shiftDown (s : State) (n : Nat) : State :=
  match s.ctx n with
  | none => s
  | some c =>
    (c.watches.filter (fun w => (w.fwdShift || w.gradShift) && decide (s.val 0x3030 0x02 ≤ w.clean))).foldl
      (fun t w => (t.putWatch n { w with fwdShift := false, gradShift := false, clean := 0 }).bump
        (shiftIndex c.half) 0x03) s

/-- Clears what a run of a step gathered, for another run of the same step. -/
def Ctx.rerun (c : Ctx) : Ctx :=
  { c with phase := 1, tensors := [], drained := [], dW := [], dWDone := [], dWParts := [], scratch := [], buckets := [],
           snaps := [],
           stepFailed := false, loss := f32Zero, ledgerDone := false }

/-- Buffers of a tile without a context's vectors. -/
def Tile.flush (t : Tile) (p : InVec → Bool) (q : OutVec → Bool) : Tile :=
  { t with inRing := t.inRing.filter (fun v => !p v), flight := t.flight.filter (fun f => !p f.vec),
           outRing := t.outRing.filter (fun v => !q v), pool := t.pool.filter (fun v => !q v) }

/-- The tile at a logical address of a context serves a layer from `k` on. -/
def State.servesFrom (s : State) (n k l : Nat) : Bool :=
  match (s.ctx n).bind (fun c => s.seat c l) with
  | some q => decide (k ≤ q.layer)
  | none => true

/-- The tiles that a context runs on let go of its vectors of layers from `k` on, with the partials on their way. -/
def State.flushTiles (s : State) (n k : Nat) : State :=
  let s := { s with mortar := s.mortar.filter (fun x => x.vec.ctx != n || !s.servesFrom n k x.finisher) }
  ((s.tilesOf n).filter (s.servesFrom n k)).foldl (fun t l =>
    match t.physTile l with
    | some p => ((t.modTile p (fun x =>
        { x.flush (fun v => v.ctx == n && decide (k ≤ v.layer)) (fun v => v.ctx == n && decide (k ≤ v.layer))
          with partials := x.partials.filter (fun y => y.ctx != n) })).ringLevels p).countGap t p
    | none => t) s

/-- Builds a run of the step: input tensors, empty outputs, every forward strand in program order. -/
def State.buildRun (s : State) (n : Nat) : State :=
  match s.ctx n with
  | none => s
  | some c =>
    let s := (s.setCtx c.rerun).readRecords c
    let s := s.loadInputs n c
    let c := (s.ctx n).getD c
    let outs := ((List.range c.layers.length).zip c.layers).map (fun e => s.freshOutput c e.1 e.2)
    let c := outs.foldl (fun (x : Ctx) t => x.setTensor t) c
    let l := (List.range c.layers.length).flatMap (fun k => s.forwardStrands c k)
    (s.setCtx (c.enqueue l)).fillSlots n

/-- What an exchange keeps of what it sent when a step begins: forward of step t + 2 waits for update t (R343), so no
member asks for items of an older one again. -/
def Exchange.prune (step : Nat) (x : Exchange) : Exchange :=
  let keep := fun (k : Nat) => decide (step ≤ k + 2)
  { x with sent := x.sent.filter (fun i => keep i.step), past := x.past.filter (fun e => keep e.1),
           sealed := x.sealed.filter (fun e => keep e.2.1), refused := x.refused.filter (fun e => keep e.2),
           stopped := x.stopped.filter (fun e => keep e.2) }

/-- Begins the step after the last one sealed (R147). -/
def State.beginStep (s : State) (n : Nat) : State :=
  let s := s.shiftDown n
  let s := s.modCtx n (fun c =>
    { c with viaCopy := s.flag (cidx n) 0x05 3, attempt := 0, failedUnits := [], used := [], triggers := [], stormRepeat := false, rescales := 0,
             ownSeal := false, ledgerCodes := [], ledgerCoeff := [], ledgerCounts := [],
             watches := c.watches.map (fun w => { w with hit := false, fwdSeen := false, gradSeen := false }),
             exchange := c.exchange.map (Exchange.prune (s.stepOf n)) })
  s.buildRun n

/-! ### Retracts (R384) -/

/-- Runs of consecutive numbers, first and last. -/
def runsOf : List Nat → List (Nat × Nat)
  | [] => []
  | a :: r => match runsOf r with
    | (lo, hi) :: q => if lo = a + 1 then (a, hi) :: q else (a, a) :: (lo, hi) :: q
    | [] => [(a, a)]

/-- Retracts the items of the step in progress that `p` names and no seal covers (R384): one frame for each run of items
of one destination, class and attempt; of the own shards it is applied at once (R386). -/
def State.retract (s : State) (n : Nat) (p : Item → Bool) : State :=
  match s.ctx n with
  | none => s
  | some c =>
    match c.exchange with
    | none => s
    | some x =>
      let step := s.stepOf n
      let own := s.position c.half
      let p := fun (i : Item) => p i && i.step == step && !x.sealed.contains (i.src, step, i.cls)
      let gone := x.sent.filter p
      let far := gone.filter (fun i => i.src != own && !x.stopped.contains (i.src, step))
      let keys := (far.map (fun i => (i.src, i.cls, i.attempt))).eraseDups
      let s := keys.foldl (fun t k =>
        let g := (far.filter (fun i => i.src == k.1 && i.cls == k.2.1 && i.attempt == k.2.2)).map (·.item)
        (runsOf (g.mergeSort (fun a b => decide (a ≤ b)))).foldl (fun t r =>
          (t.handItem n k.1 5 step r.1 k.2.2
            (natBytes 2 r.1 ++ natBytes 2 r.2 ++ natBytes 1 k.2.2)).bumpAt n 0x6010 0x08) t) s
      let mine := gone.filter (fun i => i.src == own)
      s.modCtx n (fun c => { c with exchange := some { x with
        sent := x.sent.filter (fun i => !p i),
        past := x.past ++ gone.map (fun i => (step, i.cls, i.item, i.attempt)),
        held := x.held.filter (fun i => !mine.contains i),
        retracted := x.retracted ++ mine.map (fun i =>
          { src := own, step := step, item := i.item, attempt := i.attempt }) } })

def State.retractAll (s : State) (n : Nat) : State := s.retract n (fun _ => true)

/-- Strands of layers from `k` on are discarded: those issued end first, the others go (R262). -/
def Ctx.discard (c : Ctx) (p : Strand → Bool) : Ctx :=
  { c with todo := c.todo.filter (fun x => !p x),
           slots := (c.slots.filter (fun x => x.issued || !p x)).map (fun x =>
             if p x then { x with dead := true } else x),
           snaps := c.snaps.filter (fun x => !p x) }

/-- Discards the whole run of the step. -/
def State.discardRun (s : State) (n : Nat) : State :=
  ((s.modCtx n (fun c => c.discard (fun _ => true))).dropSnapshots n).flushTiles n 0

/-! ### Repeats of a forward tensor (R262, R294) -/

/-- A tensor without the columns of some blocks; the other blocks stand as they were converted. -/
def Tensor.clearBlocks (t : Tensor) (arrayIn : Bool) (l : List Nat) : Tensor :=
  let stays := fun (col : Nat) => !l.contains (col / 512)
  let kept := fun {α : Type} (m : List (Nat × α)) => m.filter (fun e => stays (e.1 % t.cols))
  let u := { t.cleared with raw := kept t.raw, pre := kept t.pre, peak := kept t.peak }
  ((List.range u.blockCount).filter (fun b => stays (b % rowBlocks u.cols * 32))).foldl (fun x b =>
    x.convert { arrayIn := arrayIn, draws := fun _ => none } b) u

/-- Re-issues the forward strands of layer `k`, of its blocks `bs` alone where some are named, and of
every later layer. -/
def State.repeatForward (s : State) (n k : Nat) (bs : List Nat) : State :=
  match s.ctx n with
  | none => s
  | some c =>
    let inBlock := fun (x : Strand) =>
      bs.isEmpty || (match x.kind with
        | .engine _ => true
        | .forward l => (match s.seat c l with | some q => bs.contains q.block | none => false)
        | _ => true)
    let hit := fun (x : Strand) => decide (k < x.layer) || (x.layer == k && inBlock x)
    let c := c.discard hit
    let own := (c.layers[k]?).map (·.output)
    let later := (c.layers.drop (k + 1)).map (·.output)
    let digital := match c.layers[k]? with | some L => L.digital | none => true
    let part := fun (t : Tensor) => own == some t.id && !bs.isEmpty && !digital
    let c := { c with
      tensors := c.tensors.map (fun t =>
        if t.grad then t
        else if part t then t.clearBlocks (t.format == 0x01 && feedsTiles c.layers t.id) bs
        else if own == some t.id || later.contains t.id then t.cleared else t),
      drained := c.drained.filter (fun e => !later.contains e.1 &&
        (own != some e.1 || (!bs.isEmpty && !bs.contains e.2.2))) }
    let later := (List.range c.layers.length).filter (fun j => decide (k ≤ j))
    let l := (later.flatMap (fun j => s.forwardStrands c j)).filter hit
    ((s.setCtx (c.enqueue l)).flushTiles n k).fillSlots n

/-- A rescale repeat of a forward tensor: coarse scale c' from the maximum just gathered. -/
def State.rescaleForward (s : State) (n k : Nat) (h : HalfId) (t : Tensor) : State :=
  let f : Fmt := if t.wide then .k4 else t.fmt
  let s := s.modCtx n (fun c =>
    (c.setTensor { t with coarse := coarseOf f t.mRun, rescaled := true }) |> fun c =>
      { c with rescales := c.rescales + 1 })
  (s.bump (numIndex h) 0x0B).repeatForward n k []

/-! ### Numerics holds and storms (R293, R297, R298) -/

/-- The context holds with h_numerics; its step is discarded and retracted. -/
def State.holdNumerics (s : State) (n cause : Nat) (h : HalfId) : State :=
  let s := s.discardRun n
  let s := s.retractAll n
  let s := s.modCtx n (fun c => { c with phase := 0, stormRepeat := false })
  let s := s.putAt n 0x3032 0x03 (toWord cause)
  let s := s.put64At n 0x3032 0x05 (s.stepOf n)
  let s := s.bump (shiftIndex h) 0x06
  let s := (s.modHalf h (fun c => { c with storm := false })).throttle h
  (s.reasonHold n rNumerics false).holdCompanions n

/-- A widen storm: the step is discarded and retracted, and issued again wide, or held at the third in
a row. -/
def State.storm (s : State) (n : Nat) (c : Ctx) : State :=
  let h := c.half
  let step := s.stepOf n
  let count := if c.lastStorm + 1 = step ∧ c.lastStorm ≠ 0 then s.valAt n 0x3032 0x04 + 1 else 1
  let s := s.log { cls := clsWarning, unit := unitManager h, ctx := n, step := step,
                   obj := counter (shiftIndex h) 0x05 }
  let s := (s.bump (shiftIndex h) 0x05).putAt n 0x3032 0x04 (toWord count)
  let s := s.modCtx n (fun c => { c with lastStorm := step, stormRepeat := true })
  if s.val 0x3030 0x05 ≤ count then s.holdNumerics n 1 h
  else
    let old := c.tensors
    let s := ((s.discardRun n).retractAll n).buildRun n
    let s := s.modCtx n (fun c => { c with tensors := c.tensors.map (fun t =>
      match old.find? (fun o => o.id == t.id && o.grad == t.grad) with
      | some o => if t.fmt.scaled && !f32IsZero o.mRun && !(t.ready) then
          { t with coarse := coarseOf (if t.wide then .k4 else t.fmt) o.mRun } else t
      | none => t) })
    (s.modHalf h (fun c => { c with storm := true })).throttle h

/-- A layer has a trigger: it counts toward a storm once (R294, R297). -/
def State.noteTrigger (s : State) (n k : Nat) : State :=
  s.modCtx n (fun c => { c with triggers := if c.triggers.contains k then c.triggers
                                            else c.triggers ++ [k] })

/-- The storm condition holds: 4 × k > w. -/
def State.stormDue (s : State) (c : Ctx) : Bool :=
  !c.stormRepeat && decide (watchedCount c.layers < s.val 0x3030 0x04 * c.triggers.length)

/-! ### Evaluation of a forward tensor (R261, R290 to R293) -/

/-- Raw values of a block's 512 columns, row-major. -/
def Tensor.blockRaw (t : Tensor) (b : Option Nat) : List Word :=
  (List.range t.rows).flatMap (fun r =>
    match b with
    | none => (List.range t.cols).map (fun j => t.rawAt r j)
    | some k => ((List.range 512).map (fun j => 512 * k + j)).filter (· < t.cols) |>.map
        (fun j => t.rawAt r j))

/-- Input invalid in memory: a declared tensor of the layer has an invalid block (R293). -/
def Ctx.invalidInput (c : Ctx) (L : Layer) : Bool :=
  [L.input, L.input2].any (fun id => c.decls.any (fun d => d.id == id) &&
    (match c.tensor id false with
     | some t => t.scales.any (fun e => e.2 == 0xFF)
     | none => false))

/-- Watches a forward tensor, per layer or per block: the places that trigger. A step's norm enters its average once,
however often the layer runs in it (DEDUCED: the example after R298; assumption 55). -/
def State.watchForward (s : State) (n k : Nat) (L : Layer) (t : Tensor) : State × List (Option Nat) :=
  if !L.watched then (s, [])
  else
    let spots : List (Option Nat) :=
      if L.blockScope then (List.range ((t.cols + 511) / 512)).map some else [none]
    let own := decide (0 < t.invalid) || decide (t.blocks < 64 * t.under)
    spots.foldl (fun (a : State × List (Option Nat)) b =>
      match a.1.ctx n with
      | none => a
      | some c =>
        let w := c.watch k (b.getD 0xFFFF)
        let r := watchStep (a.1.reg 0x3030 0x01) (a.1.val 0x3030 0x03) (normOf (t.blockRaw b)) w.fwdAvg
          w.fwdL w.fwdCount
        let trig := (!w.fwdSeen && r.trig) || own
        let w := if w.fwdSeen then { w with hit := w.hit || trig }
          else { w with fwdAvg := r.avg, fwdL := r.last, fwdCount := r.count, hit := w.hit || trig, fwdSeen := true }
        (a.1.putWatch n w, if trig then a.2 ++ [b] else a.2)) (s, [])

/-- Shifts a place up (R293). -/
def State.shiftForward (s : State) (n k : Nat) (h : HalfId) (b : Option Nat) : State :=
  match s.ctx n with
  | none => s
  | some c =>
    let w := c.watch k (b.getD 0xFFFF)
    (s.putWatch n { w with fwdShift := true, clean := 0, shiftUps := w.shiftUps + 1 }).bump
      (shiftIndex h) 0x01

/-- The input of a shifted layer is stored again as K8 under the array-input rule, from the values its
producers formed (R293, R295, assumption 23). -/
def State.widenInput (s : State) (n : Nat) (L : Layer) : State :=
  match s.ctx n with
  | none => s
  | some c =>
    match c.tensor L.input false with
    | none => s
    | some t =>
      if t.format = 0x01 ∧ t.raw ≠ [] then
        let w := { t with format := 0x02, wide := true, codes := [], scales := [] }
        let w := (List.range w.blockCount).foldl (fun x b =>
          x.convert { arrayIn := true, draws := fun _ => none } b) w
        s.setCtx (c.setTensor { w with mRun := t.mRun, sat := t.sat, under := t.under,
                                       invalid := t.invalid, blocks := t.blocks })
      else s

/-- The tensor passes: its history entry is written and it may be read (R259). -/
def State.passForward (s : State) (n : Nat) (h : HalfId) (t : Tensor) (init : Word) : State :=
  (s.modCtx n (fun c => c.setTensor { t with ready := true })).recordTensor h n t init (s.stepOf n)

/-- Evaluates the output of layer `k` when its last strand has passed conversion. -/
def State.evalForward (s : State) (n k : Nat) : State :=
  match s.ctx n with
  | none => s
  | some c =>
    match c.layers[k]? with
    | none => s
    | some L =>
      match c.tensor L.output false with
      | none => s
      | some t =>
        if t.fmt.scaled && decide (t.rows * t.cols < s.val 0x3000 0x04 * t.sat) && !t.repeated &&
            !c.stormRepeat then s.rescaleForward n k c.half t
        else
          let q := s.watchForward n k L t
          let s := q.1
          let fresh := q.2.filter (fun b => !(c.watch k (b.getD 0xFFFF)).fwdShift)
          let again := q.2.filter (fun b => (c.watch k (b.getD 0xFFFF)).fwdShift)
          let s := again.foldl (fun t b => t.putWatch n
            { ((t.ctx n).getD c).watch k (b.getD 0xFFFF) with clean := 0 }) s
          let s := fresh.foldl (fun t b => t.shiftForward n k c.half b) s
          let s := if q.2.isEmpty then s else s.noteTrigger n k
          let c := (s.ctx n).getD c
          if decide (0 < t.invalid) && L.watched && (t.reshifted || c.stormRepeat) then
            s.holdNumerics n 2 c.half
          else if decide (0 < t.invalid) && L.watched && c.invalidInput L then s.holdNumerics n 3 c.half
          else if s.stormDue c then s.storm n c
          else if !fresh.isEmpty && !t.repeated && !c.stormRepeat then
            let s := s.modCtx n (fun c => c.setTensor { t with reshifted := true })
            let s := (s.bump (shiftIndex c.half) 0x04).widenInput n L
            s.repeatForward n k (fresh.filterMap id)
          else s.passForward n c.half t L.initMax

/-- Every forward tensor of the step has passed (R262). -/
def Ctx.forwardDone (c : Ctx) : Bool :=
  c.layers.all (fun L => match c.tensor L.output false with | some t => t.ready | none => false)

end Sys2Proof.Machine
end

