-- ==== Sys2Proof/Machine/Backward.lean ====
section
/-! DEFINITION. The backward pass: seeds, dX, dW, masks, tie groups, gradient tensors and their watch
(chapter 12; R261, R262, R290 to R293 for gradients). -/

namespace Sys2Proof.Machine

open Sys2Proof

/-! ### Gradient tensors (R293, R313, R319) -/

/-- History entry of a gradient tensor for a step. -/
def Ctx.gradEntry (c : Ctx) (id : Nat) (init : Word) (step : Int) : Word :=
  if step ≤ 0 then init else Sparse.get (fun _ => init) c.gradHist (16 * id + step.toNat % 16)

/-- Coarse scale of a gradient tensor for a step (R258). -/
def Ctx.gradCoarse (c : Ctx) (id : Nat) (f : Fmt) (init : Word) (m : Nat) : Word :=
  coarseOf f (([1, 2, 3, 4].map (fun (k : Nat) => c.gradEntry id init ((m : Int) - k))).foldl fmax f32Zero)

/-- Format of the gradient a layer receives: K16 while shifted or in a storm repeat. -/
def Ctx.gradFormat (c : Ctx) (k : Nat) (L : Layer) : Nat :=
  if c.stormRepeat || (c.watch k 0xFFFF).gradShift then 0x04 else L.gradFormat

/-- Places of use of a tensor from which a gradient comes (R328). -/
def usesOf (l : List Layer) (id : Nat) : Nat :=
  l.foldl (fun a L => a + (if L.noDX then 0 else
    (if L.input = id then 1 else 0) + (if L.kind = 3 ∧ L.input2 = id then 1 else 0))) 0

/-- The layer that produces a tensor. -/
def producerOf (l : List Layer) (id : Nat) : Option Nat := l.findIdx? (fun L => L.output == id)

def State.freshGrad (s : State) (c : Ctx) (k : Nat) (L : Layer) : Tensor :=
  let code := c.gradFormat k L
  let f := (Fmt.ofCode code).getD .k8
  let coarse := if f.scaled then c.gradCoarse L.output f L.initMax (s.stepOf c.n) else f32One
  { Tensor.fresh L.output true code (s.layerVecs c k) L.nOut coarse with
    awaits := usesOf c.layers L.output }

/-! ### Masks and frozen weights (R314, R329) -/

/-- Bytes of a layer's row mask, and of both its masks. -/
def Layer.rowMaskBytes (L : Layer) : Nat := ((L.nIn + 7) / 8 + 63) / 64 * 64
def Layer.maskBytes (L : Layer) : Nat :=
  L.rowMaskBytes + ((((L.nIn + 31) / 32) * ((L.nOut + 31) / 32) + 7) / 8 + 63) / 64 * 64

/-- Where a layer's masks lie; nowhere for a layer without. -/
def State.maskSpan (s : State) (c : Ctx) (L : Layer) : Nat × Nat :=
  match s.areaRegion c L 4 with
  | some a => (a, if L.kind == 0 && (L.rowMask || L.blockMask) then L.maskBytes else 0)
  | none => (0, 0)

/-- Masks are read at LOADED and at every leave of HOLD (R329). -/
def State.readMasks (s : State) (n : Nat) : State :=
  s.modCtx n (fun c => { c with masks := c.layers.map (fun L =>
    let sp := s.maskSpan c L
    s.hbmRead c.half sp.1 sp.2) })

/-- Bit `i` of mask bytes. -/
def maskBit (m : List Byte) (i : Nat) : Bool := (m.getD (i / 8) 0).getLsbD (i % 8)

/-- Weight (i, j) of layer `k` is frozen. -/
def Ctx.frozen (c : Ctx) (k : Nat) (L : Layer) (i j : Nat) : Bool :=
  let m := c.masks.getD k []
  L.noDW || (L.rowMask && maskBit m i) ||
    (L.blockMask && maskBit m (8 * L.rowMaskBytes + (i / 32 * ((L.nOut + 31) / 32) + j / 32)))

/-- Layer that holds the masters of a layer's weights: the first reached of its tie group, the last in
program order (R328, R342). -/
def masterLayer (l : List Layer) (k : Nat) : Nat :=
  match l[k]? with
  | none => k
  | some L =>
    if L.tie = 0xFFFF then k
    else ((List.range l.length).zip l).foldl (fun a e =>
      if e.2.kind = 0 ∧ e.2.tie = L.tie then max a e.1 else a) k

/-- Layers that share a layer's masters. -/
def tieMembers (l : List Layer) (k : Nat) : List Nat :=
  (List.range l.length).filter (fun j => masterLayer l j == masterLayer l k)

/-! ### Weights that the backward reads (R322, R323, R326) -/

/-- Bank that a load reads for a row under a strand's snapshot (R323). -/
def Tile.bankFor (t : Tile) (snapshot : List Nat) (r : Nat) : Nat :=
  let ptr := rowBit t.pointer r
  if snapshot.contains r then ptr else if t.version.contains r then 1 - ptr else ptr

/-- Shadow element of a tile for a vector's load: code value and fine scale. -/
def Tile.shadowAt (t : Tile) (snapshot : List Nat) (r j : Nat) : Word × Word :=
  let b := t.bankFor snapshot r
  let f := Sparse.get (fun _ => 0) t.shadowB8 (b * 16384 + r * 16 + j / 32)
  (Fmt.k8.decode (Sparse.get (fun _ => 0) t.shadow (b * 524288 + r * 512 + j)),
    if f = 0xFF then f32NaN else b8Val f)

/-- Snapshot of the forward strand that ran a vector through a tile. -/
def Ctx.snapshotFor (c : Ctx) (k l v : Nat) : List Nat :=
  match c.snaps.find? (fun x => x.layer == k && x.kind == .forward l &&
      decide (x.vec0 ≤ v ∧ v < x.vec0 + x.count)) with
  | some x => x.snapshot
  | none => []

/-- A copy of the layer's weights is kept: digital-resident, or flags bit 3 (R326). -/
def State.usesCopy (s : State) (c : Ctx) (L : Layer) : Bool := L.digital || s.flag (cidx c.n) 0x05 3

/-- The step's dX of the layer reads the copy: digital-resident, or flags bit 3 as the step began. An array layer whose area
holds no copy goes on with its shadow (assumption 57, DESIGN CHOICE). -/
def State.dxFromCopy (s : State) (c : Ctx) (L : Layer) : Bool := L.digital || (c.viaCopy && (s.areaRegion c L 12).isSome)

/-- One tile partial of dX for vector v and weight row i of the tile at block b (R319). -/
def State.tilePartial (s : State) (c : Ctx) (k : Nat) (L : Layer) (d : Tensor) (v i b : Nat) : Word :=
  match s.seatTile c k b (i / 1024) with
  | none => f32Zero
  | some l =>
    match s.physTile l with
    | none => f32Zero
    | some p =>
      let t := s.tile p
      let snap := c.snapshotFor k l v
      dot ((List.range (L.outCols b)).map (fun j =>
        let w := t.shadowAt snap (i % 1024) j
        term w.1 w.2 (d.elem v (512 * b + j)) (d.fineVal v (512 * b + j))))
        (shadowCoarse t) d.coarseVal

/-- A dX strand of a tile has read its operands: its partials stand in the dX scratch (R319). -/
def State.keepPartial (s : State) (n : Nat) (x : Strand) : State :=
  match s.ctx n, x.kind with
  | some c, .dX t sl =>
    match c.layers[x.layer]?, (c.layers[x.layer]?).bind (fun L => c.tensor L.output true) with
    | some L, some d =>
      if s.dxFromCopy c L then s
      else
        let row := t % L.tileRows
        let cells := (List.range x.count).flatMap (fun v => (List.range (L.inRows row)).map (fun r =>
          let i := 1024 * row + r
          ((x.vec0 + v) * L.nIn + i, s.tilePartial c x.layer L d (x.vec0 + v) i (t / L.tileRows))))
        s.setCtx { c with scratch := replaceBy (fun e => e.1 == (x.layer, t, sl)) ((x.layer, t, sl), cells) c.scratch }
    | _, _ => s
  | _, _ => s

/-- Tile partial of block `b` that the scratch holds for vector v and input i. -/
def Ctx.partialAt (c : Ctx) (k : Nat) (L : Layer) (v i b : Nat) : Word :=
  match c.scratch.find? (fun e => e.1 == (k, b * L.tileRows + i / 1024, v / 2048)) with
  | some e => (lookup e.2 (v * L.nIn + i)).getD f32Zero
  | none => f32Zero

/-- dX of vector v at input i of a matrix layer: tile partials combined by the tree, or the whole
reduction over the weight copy. -/
def State.dxElem (s : State) (c : Ctx) (k : Nat) (L : Layer) (d : Tensor) (v i : Nat) : Word :=
  if s.dxFromCopy c L then
    let a := s.copyAt c L (s.stepOf c.n)
    dot ((List.range L.nOut).map (fun j =>
      term (Fmt.k8.decode (s.copyCode c L a i j)) (s.copyFine c L a i j) (d.elem v j) (d.fineVal v j)))
      (s.copyCoarse c L a) d.coarseVal
  else treeSum ((List.range L.blocks).map (fun b => c.partialAt k L v i b))

/-- dX rows of kinds 1 to 3 (R327). -/
def State.dxRow (s : State) (c : Ctx) (k : Nat) (L : Layer) (x d : Tensor) (v : Nat) : List Word :=
  let xs := (List.range L.nIn).map (fun i => x.value v i)
  let g := (List.range L.nOut).map (fun j => d.value v j)
  match L.kind with
  | 0 => (List.range L.nIn).map (fun i => s.dxElem c k L d v i)
  | 1 =>
    let eps := s.epsilon c L
    let hat := normHat xs eps
    let h := ((List.range L.nOut).zip g).map (fun e => fmul e.2 (s.gammaVal c L k e.1))
    let n := f32OfNat L.nOut
    let a := fdiv (refSum h) n
    let b := fdiv (refSum ((h.zip hat).map (fun e => fmul e.1 e.2))) n
    let sd := fsqrt (fadd (rowVar xs) eps)
    (h.zip hat).map (fun e => fdiv (fsub (fsub e.1 a) (fmul e.2 b)) sd)
  | 2 =>
    let y := softRow xs
    let t := refSum ((g.zip y).map (fun e => fmul e.1 e.2))
    (y.zip g).map (fun e => fmul e.1 (fsub e.2 t))
  | _ => g

/-! ### Activation derivatives and pooling expansion (R319, R320) -/

/-- Decoded K8 pre-activations of the 32 outputs around one, under coarse scale 1 (R315,
assumption 25). -/
def Tensor.preK8 (t : Tensor) (v j : Nat) : Word :=
  let c0 := j / 32 * 32
  let xs := ((List.range 32).map (fun i => c0 + i)).filter (· < t.cols) |>.map (fun i =>
    (lookup t.pre (v * t.cols + i)).getD f32Zero)
  let b := convBlock .k8 f32One false xs (xs.map (fun _ => none))
  blockVal .k8 (b.codes.getD (j - c0) 0) b.scale f32One

/-- Derivative of the producing layer's activation at vector v, output j. -/
def State.slopeAt (s : State) (c : Ctx) (L : Layer) (y : Tensor) (v j : Nat) : Word :=
  let z := (lookup y.pre (v * y.cols + j)).getD f32Zero
  let on := flt f32Zero z
  match L.activation with
  | 0 => f32One
  | 1 => if on then f32One else f32Zero
  | 2 => if on then f32One else L.slope
  | 3 => geluSlopeOf (y.preK8 v j)
  | 4 => siluSlopeOf (y.preK8 v j)
  | 5 => sigmoidSlopeOf (y.preK8 v j)
  | 6 => tanhSlopeOf (y.preK8 v j)
  | _ => (s.layerTable c L (tableSegment L.xMin L.xMax (y.preK8 v j))).1

/-- The gradient of a producing layer's output becomes that of its stage 4 result: the derivative, then the expansion over
the pooling window (R319). -/
def State.throughLayer (s : State) (c : Ctx) (k : Nat) (L : Layer) (y : Tensor)
    (g : Nat → Nat → Word) : List (Nat × Word) :=
  let vecs := s.layerVecs c k
  let w := L.window
  (List.range vecs).flatMap (fun v => (List.range L.nOut).map (fun j =>
    let d := fmul (g (v / w) j) (s.slopeAt c L y v j)
    (v * L.nOut + j, match L.poolOp with
      | 1 => if (lookup y.peak (v / w * y.cols + j)).getD 0 = v % w then d else f32Zero
      | 3 => fdiv d (f32OfNat w)
      | _ => d)))

/-! ### Repeats and watch of a gradient tensor (R261, R262, R290 to R294) -/

/-- Converts every block of a gradient tensor. -/
def State.convGrad (s : State) (n : Nat) (L : Layer) (t : Tensor) (terms : Nat) : State × Tensor :=
  match s.ctx n with
  | none => (s, t)
  | some c => s.convBlocks c L t terms false (List.range t.blockCount)

/-- Terms of the reduction behind a gradient tensor: the shortest of its readers'. -/
def gradTerms (l : List Layer) (id : Nat) : Nat :=
  ((l.filter (fun L => L.input == id || L.input2 == id)).map (fun L => if L.kind = 0 then L.nOut else 0)).foldl
    min 1048576

/-- Watches the gradient that a layer receives, always as a whole. -/
def State.watchGrad (s : State) (n k : Nat) (L : Layer) (t : Tensor) : State × Bool :=
  match s.ctx n with
  | none => (s, false)
  | some c =>
    if !L.watched then (s, false)
    else
      let w := c.watch k 0xFFFF
      let r := watchStep (s.reg 0x3030 0x01) (s.val 0x3030 0x03) (normOf (t.blockRaw none)) w.gradAvg
        w.gradL w.gradCount
      let trig := (!w.gradSeen && r.trig) || decide (0 < t.invalid) || decide (t.blocks < 64 * t.under)
      (s.putWatch n (if w.gradSeen then { w with hit := w.hit || trig }
        else { w with gradAvg := r.avg, gradL := r.last, gradCount := r.count, hit := w.hit || trig,
                      gradSeen := true }), trig)

/-- The gradient tensor passes: its maximum enters its history. -/
def State.passGrad (s : State) (n : Nat) (t : Tensor) : State :=
  let step := s.stepOf n
  s.modCtx n (fun c =>
    let c := c.setTensor { t with ready := true }
    let slot := 16 * t.id + step % 16
    let m := if f32IsZero t.mRun then Sparse.get (fun _ => 0) c.gradHist (16 * t.id + (step + 15) % 16)
      else t.mRun
    { c with gradHist := (slot, m) :: c.gradHist.filter (fun e => e.1 != slot) })

/-- The dW that strands of layer `k` formed beside their dX goes, to be formed again: of kind 1 alone, whose one strand
forms both (R317, R327). -/
def Ctx.dropDW (c : Ctx) (k : Nat) : Ctx :=
  match c.layers[k]? with
  | some L =>
    if L.kind = 1 then
      let mine := fun i => decide (elemBase c k ≤ i ∧ i < elemBase c k + L.elems)
      { c with dW := c.dW.filter (fun e => !mine e.1), dWDone := c.dWDone.filter (· != k),
               buckets := c.buckets.filter (fun b => !(List.range L.elems).any (fun i =>
                 inBucket (gradLength c) b (elemBase c k + i))) }
    else c
  | none => c

/-- Buckets that strands which are repeated had filled are retracted, to be sent again (R262, R384). -/
def State.retractLayers (s : State) (n : Nat) (l : List Nat) : State :=
  match s.ctx n with
  | none => s
  | some c =>
    let d := l.foldl Ctx.dropDW c
    let gone := c.buckets.filter (fun b => !d.buckets.contains b)
    if gone.isEmpty then s.setCtx d
    else (s.setCtx d).retract n (fun i => i.cls == 2 && gone.contains i.item)

/-- Course of the engine that takes the strands of a layer's tile `t` (R152, R317). -/
def State.strandCourse (s : State) (c : Ctx) (k : Nat) (L : Layer) (t : Nat) : Nat :=
  if L.digital then engineCourse c k
  else match (s.tilesOf c.n)[firstPlace c.layers k + t]? with
    | some l => tileCourse l
    | none => 0

/-- dX strands that are to read a tile's snapshot again hold it (R324). -/
def State.holdSnapshots (s : State) (c : Ctx) (k : Nat) (L : Layer) : State :=
  if L.digital || L.kind != 0 || s.dxFromCopy c L then s
  else ((List.range L.tileCount).filterMap (fun t => (s.tilesOf c.n)[firstPlace c.layers k + t]?)).foldl
    (fun t l => t.putAt l 0x4021 0x04 (toWord ((s.layerVecs c k + 2047) / 2048))) s

/-- The strands that form a gradient tensor are issued again (R262): the dX strands of its readers. What has been sent
of the gradient elements that such a strand forms beside them is retracted first. -/
def State.reissueGrad (s : State) (n : Nat) (t : Tensor) : State :=
  match s.ctx n with
  | none => s
  | some c =>
    let readers := (List.range c.layers.length).filter (fun j =>
      match c.layers[j]? with
      | some L => !L.noDX && (L.input == t.id || (L.kind == 3 && L.input2 == t.id))
      | none => false)
    let step := s.stepOf n
    let l := readers.flatMap (fun j =>
      match c.layers[j]? with
      | none => []
      | some L =>
        let slices := (s.layerVecs c j + 2047) / 2048
        if L.kind = 0 then
          (List.range (L.tileRows * L.blocks)).flatMap (fun q => (List.range slices).map (fun sl =>
            Strand.make step j (.dX q sl) (s.strandCourse c j L q) (2048 * sl)
              (min 2048 (s.layerVecs c j - 2048 * sl))))
        else (List.range slices).map (fun sl =>
          Strand.make step j (.back sl) (engineCourse c j) (2048 * sl)
            (min 2048 (s.layerVecs c j - 2048 * sl))))
    let t := { t.cleared with awaits := usesOf c.layers t.id }
    let s := s.retractLayers n readers
    let s := readers.foldl (fun s j => match c.layers[j]? with | some L => s.holdSnapshots c j L | none => s) s
    (s.modCtx n (fun c => (c.setTensor t).enqueue l)).fillSlots n

/-- Tensor that a seed layer's backward area names (R318). -/
def State.seedTensor (s : State) (c : Ctx) (L : Layer) : Nat := s.hbmNat c.half (s.progAt c.n L.area) 2

/-- A gradient tensor whose values are to be converted anew. -/
def Tensor.unconverted (t : Tensor) : Tensor :=
  { t with codes := [], scales := [], sat := 0, under := 0, invalid := 0, blocks := 0 }

/-- The target or the gradient that a seed is formed from has an invalid block in memory (R293, R318). -/
def State.invalidSeed (s : State) (c : Ctx) (L : Layer) : Bool :=
  let id := s.seedTensor c L
  c.decls.any (fun d => d.id == id) &&
    (match c.tensor id false with | some t => t.scales.any (fun e => e.2 == 0xFF) | none => false)

/-- Norm watch of a gradient after R261 step 1: the watch, holds, storms, the shift repeat (R290 to R294). A seed has no
strands: it is converted again at once. -/
def State.judgeGrad (s : State) (n k : Nat) (seed : Bool) (c : Ctx) (L : Layer) (t : Tensor) : State :=
  let q := s.watchGrad n k L t
  let s := q.1
  let was := (c.watch k 0xFFFF).gradShift
  let s := if q.2 then s.noteTrigger n k else s
  let c := (s.ctx n).getD c
  let w := c.watch k 0xFFFF
  let s := if q.2 ∧ was = true then s.putWatch n { w with clean := 0 }
    else if q.2 then
      (s.putWatch n { w with gradShift := true, clean := 0, shiftUps := w.shiftUps + 1 }).bump
        (shiftIndex c.half) 0x02
    else s
  if decide (0 < t.invalid) && L.watched && (t.reshifted || c.stormRepeat) then s.holdNumerics n 2 c.half
  else if decide (0 < t.invalid) && L.watched && seed && s.invalidSeed c L then s.holdNumerics n 3 c.half
  else if s.stormDue c then s.storm n c
  else if q.2 ∧ was = false ∧ t.repeated = false ∧ c.stormRepeat = false then
    let t := { t with format := 0x04, coarse := f32One, reshifted := true }
    let s := s.bump (shiftIndex c.half) 0x04
    if seed then
      let q := s.convGrad n L t.unconverted (gradTerms c.layers L.output)
      q.1.passGrad n q.2
    else (s.modCtx n (fun c => c.setTensor t)).reissueGrad n t
  else s.passGrad n t

/-- Evaluates the gradient that layer `k` receives once it is whole. -/
def State.evalGrad (s : State) (n k : Nat) (seed : Bool) : State :=
  match s.ctx n with
  | none => s
  | some c =>
    match c.layers[k]?, (c.layers[k]?).bind (fun L => c.tensor L.output true) with
    | some L, some t0 =>
      let terms := gradTerms c.layers L.output
      let q := s.convGrad n L t0.unconverted terms
      let s := q.1
      let t := q.2
      if t.fmt.scaled && decide (t.rows * t.cols < s.val 0x3000 0x04 * t.sat) && !t.repeated &&
          !c.stormRepeat then
        let t := { t with coarse := coarseOf t.fmt t.mRun, rescaled := true }
        let s := s.bump (numIndex c.half) 0x0B
        let s := s.modCtx n (fun c => { c with rescales := c.rescales + 1 })
        if seed then
          let q := s.convGrad n L t.unconverted terms
          q.1.judgeGrad n k seed ((q.1.ctx n).getD c) L q.2
        else (s.modCtx n (fun c => c.setTensor t)).reissueGrad n t
      else s.judgeGrad n k seed ((s.ctx n).getD c) L t
    | _, _ => s

/-! ### Contributions and layer completion -/

/-- A gradient that a send link carries back to a peer: the sum of the dX of the tensor's readers, in the
gradient format of the first of them (assumption 31). -/
def State.addLinkGrad (s : State) (n id place : Nat) (c : Ctx) (g : Nat → Nat → Word) : State :=
  let sends := match c.exchange with
    | some x => x.links.any (fun e => e.1 == id && !e.2.2)
    | none => false
  match sends, c.layers.findIdx? (fun L => L.input == id || (L.kind == 3 && L.input2 == id)) with
  | true, some k =>
    match c.layers[k]? with
    | none => s
    | some L =>
      let f := (Fmt.ofCode L.gradFormat).getD .k8
      let t := (c.tensor id true).getD
        { Tensor.fresh id true L.gradFormat (s.layerVecs c k) L.nIn
            (c.gradCoarse id f L.initMax (s.stepOf n)) with awaits := usesOf c.layers id }
      let cells := (List.range t.rows).flatMap (fun v => (List.range t.cols).map (fun i =>
        (v * t.cols + i, g v i)))
      let t := t.addPart place cells
      let s := s.setCtx (c.setTensor t)
      if t.awaits = 0 ∧ t.ready = false then
        let q := s.convGrad n L { t with raw := addParts t.parts } (gradTerms c.layers id)
        q.1.passGrad n q.2
      else s
  | _, _ => s

/-- A place of use contributes to the gradient of a tensor; when every place has, the contributions are added in use order,
that is descending program order, and the producing layer's gradient is evaluated (R319, R328). -/
def State.addGrad (s : State) (n id place : Nat) (g : Nat → Nat → Word) : State :=
  match s.ctx n with
  | none => s
  | some c =>
    match producerOf c.layers id with
    | none => s.addLinkGrad n id place c g
    | some k =>
      match c.layers[k]?, c.tensor id false, c.tensor id true with
      | some L, some y, some t =>
        let t := t.addPart place (s.throughLayer c k L y g)
        let whole := decide (t.awaits = 0) && !t.ready
        let s := s.setCtx (c.setTensor (if whole then { t with raw := addParts t.parts } else t))
        if whole then s.evalGrad n k false else s
      | _, _, _ => s

/-- dX of layer `k` is finished (R319, R327). -/
def State.finishDX (s : State) (n k : Nat) : State :=
  match s.ctx n with
  | none => s
  | some c =>
    match c.layers[k]?, (c.layers[k]?).bind (fun L => c.tensor L.output true) with
    | some L, some d =>
      if L.noDX then s
      else
        let vecs := s.layerVecs c k
        let x := s.inputTensor c L.input vecs L.nIn
        let rows := (List.range vecs).map (s.dxRow c k L x d)
        let g := fun v i => (rows.getD v []).getD i f32Zero
        let s := s.addGrad n L.input (2 * k + 1) g
        if L.kind = 3 then s.addGrad n L.input2 (2 * k) g else s
    | _, _ => s

/-- dW of layer `k`: per weight the reduction over the vectors in the reference order, +0.0 where frozen;
bias gradients, and those of γ and β (R321, R327, R329). -/
def State.layerDW (s : State) (c : Ctx) (k : Nat) (L : Layer) (d : Tensor) : List (Nat × Word) :=
  let vecs := s.layerVecs c k
  let x := s.inputTensor c L.input vecs L.nIn
  let vs := List.range vecs
  let m := masterLayer c.layers k
  match L.kind with
  | 0 =>
    (List.range L.nIn).flatMap (fun i => (List.range L.nOut).map (fun j =>
      (weightIndex c m i j,
        if c.frozen k L i j then f32Zero
        else dot (vs.map (fun v => term (x.elem v i) (x.fineVal v i) (d.elem v j) (d.fineVal v j)))
          x.coarseVal d.coarseVal))) ++
    (if L.digital && L.bias != 0 then
      (List.range L.nOut).map (fun j => (biasIndex c k j, refSum (vs.map (fun v => d.value v j))))
    else [])
  | 1 =>
    let hats := vs.map (fun v => normHat ((List.range L.nIn).map (fun i => x.value v i)) (s.epsilon c L))
    (List.range L.nOut).map (fun j => (gammaIndex c k j,
      refSum ((vs.zip hats).map (fun e => fmul (d.value e.1 j) (e.2.getD j f32Zero))))) ++
    (List.range L.nOut).map (fun j => (biasIndex c k j, refSum (vs.map (fun v => d.value v j))))
  | _ => []

/-- Places of use of layer `k`'s tie group that form a dW. -/
def Ctx.tied (c : Ctx) (k : Nat) : List Nat :=
  (tieMembers c.layers k).filter (fun j => match c.layers[j]? with | some L => !L.noDW | none => false)

/-- The layer's dW leaves for the exchange and Swizeoth, that of a tie group once its last place of use has added: the
places add in use order, that is descending program order (R328). -/
def State.finishDW (s : State) (n k : Nat) : State :=
  match s.ctx n with
  | none => s
  | some c =>
    match c.layers[k]?, (c.layers[k]?).bind (fun L => c.tensor L.output true) with
    | some L, some d =>
      if L.noDW || c.dWDone.contains k then s
      else
        let parts := c.dWParts ++ [(k, s.layerDW c k L d)]
        let done := c.dWDone ++ [k]
        if (c.tied k).all done.contains then
          let mine := parts.filter (fun e => (c.tied k).contains e.1)
          let dW := ((mine.mergeSort (fun a b => decide (b.1 ≤ a.1))).foldl
            (fun (m : List (Nat × Word)) p => p.2.foldl (fun m e => (match lookup m e.1 with
              | some old => replaceBy (fun y => y.1 == e.1) (e.1, fadd old e.2) m
              | none => m ++ [e])) m) []).foldl (fun m e => Sparse.set (fun _ => f32Zero) m e.1 e.2) c.dW
          s.setCtx { c with dW := dW, dWDone := done, dWParts := parts.filter (fun e => !(c.tied k).contains e.1) }
        else s.setCtx { c with dWDone := done, dWParts := parts }
    | _, _ => s

/-! ### Seeds and loss (R316, R401) -/

/-- Seed mode and label or target tensor of a seed layer. -/
def State.seedMode (s : State) (c : Ctx) (L : Layer) : Nat := s.hbmNat c.half (s.progAt c.n L.area + 2) 1

/-- Label of a vector: U16 in the label tensor's memory. -/
def State.labelOf (s : State) (c : Ctx) (id v : Nat) : Nat :=
  match c.decls.find? (fun d => d.id == id) with
  | some d => s.hbmNat c.half (d.base + 2 * v) 2
  | none => 0xFFFF

/-- Seed and loss of the seed layer's vectors. A label not below n_out makes its row invalid. Where the layer pools, every
vector of a window takes its output's seed, and the loss runs over the outputs (assumption 56, DESIGN CHOICE). -/
def State.formSeed (s : State) (c : Ctx) (k : Nat) (L : Layer) : List (Nat × Word) × Word :=
  match c.tensor L.output false with
  | none => ([], f32Zero)
  | some y =>
    let vecs := s.layerVecs c k
    let outs := vecs / L.window
    let id := s.seedTensor c L
    let cellsOf := fun n => (List.range n).flatMap (fun v => (List.range L.nOut).map (fun j => (v, j)))
    let cells := cellsOf vecs
    let w := L.window
    if s.seedMode c L = 1 then
      let seed := cells.map (fun e =>
        let l := s.labelOf c id (e.1 / w)
        (e.1 * L.nOut + e.2,
          if L.nOut ≤ l then f32NaN
          else fsub (y.value (e.1 / w) e.2) (if e.2 = l then f32One else f32Zero)))
      let loss := refSum ((List.range outs).map (fun v =>
        if L.nOut ≤ s.labelOf c id v then Config.labelLoss c.n (s.stepOf c.n) v
        else fneg (Config.ln (fmax (y.value v (s.labelOf c id v)) (f32Pow2 (-126))))))
      (seed, loss)
    else
      let t := s.inputTensor c id outs L.nOut
      let diff := fun (e : Nat × Nat) => fsub (y.value e.1 e.2) (t.value e.1 e.2)
      (cells.map (fun e => (e.1 * L.nOut + e.2, diff (e.1 / w, e.2))),
        refSum ((cellsOf outs).map (fun e => fmul f32Half (fmul (diff e) (diff e)))))

/-! ### Building the backward (R317, R318) -/

def State.backStrands (s : State) (c : Ctx) (k : Nat) : List Strand :=
  match c.layers[k]? with
  | none => []
  | some L =>
    let vecs := s.layerVecs c k
    let step := s.stepOf c.n
    let slices := List.range ((vecs + 2047) / 2048)
    let count := fun sl => min 2048 (vecs - 2048 * sl)
    if L.kind = 0 then
      (List.range (L.tileRows * L.blocks)).flatMap (fun t =>
        let course := s.strandCourse c k L t
        slices.flatMap (fun sl =>
          (if L.noDX then [] else [Strand.make step k (.dX t sl) course (2048 * sl) (count sl)]) ++
          (if L.noDW then [] else [Strand.make step k (.dW t sl) course (2048 * sl) (count sl)])))
    else if L.noDX && (L.noDW || L.kind != 1) then []
    else slices.map (fun sl =>
      Strand.make step k (.back sl) (engineCourse c k) (2048 * sl) (count sl))

/-- The last seed layer of the program. -/
def seedLayer (l : List Layer) : Option Nat := l.findIdx? (fun L => L.seed)

/-- The forward has passed: gradient tensors, backward strands in descending program order, and the
seed where the layer forms it (R316, R318). -/
def State.beginBackward (s : State) (n : Nat) : State :=
  match s.ctx n with
  | none => s
  | some c =>
    let idx := List.range c.layers.length
    let held := c.tensors.filter (·.grad)
    let c := (idx.zip c.layers).foldl (fun (x : Ctx) e =>
      if held.any (fun t => t.id == e.2.output) then x else x.setTensor (s.freshGrad c e.1 e.2)) c
    let l := idx.reverse.flatMap (fun k => s.backStrands c k)
    let s := s.setCtx ({ c with phase := 2 }.enqueue l)
    let s := match seedLayer c.layers with
      | none => s
      | some k =>
        match c.layers[k]? with
        | none => s
        | some L =>
          if s.seedMode c L = 0 then
            match c.tensor L.output true, c.linkItem L.output (s.stepOf n) with
            | some t, some i => s.modCtx n (fun c => c.setTensor (t.ofWire i.data))
            | _, _ => s
          else
            let q := s.formSeed c k L
            let s := s.modCtx n (fun c =>
              match c.tensor L.output true with
              | some t => { c.setTensor { t with raw := q.1 } with loss := q.2 }
              | none => c)
            s.evalGrad n k true
    s.fillSlots n

end Sys2Proof.Machine
end

