-- ==== Sys2Proof/Machine/Work.lean ====
section
/-! DEFINITION. Suspect units and probation, the seal decision, arbitration of shared units, and the
issue and end of strands (R142, R154 to R156, R310, R384, R411 to R413). -/

namespace Sys2Proof.Machine

open Sys2Proof

/-! ### Suspect units and probation (R411 to R413, R425) -/

/-- The module enters probation. -/
def State.enterProbation (s : State) : State :=
  if s.flag 0x7021 0x01 0 then s
  else
    let s := (s.put 0x7021 0x01 1).put64 0x7021 0x02 s.count
    let s := (s.raiseReplace .h0 4).raiseReplace .h1 4
    s.log { cls := clsFailure, unit := unitKeystone, code := 0x7006 }

/-- Enters a unit in the suspect table, 64 entries; beyond, it is counted. -/
def State.listSuspect (s : State) (unit cause n step : Nat) : State :=
  let k := s.val 0x7020 0x01
  if 64 ≤ k then s.bump 0x7020 0x0A
  else
    let s := (s.putAt k 0x7020 0x03 (toWord unit)).putAt k 0x7020 0x04 (toWord cause)
    let s := (s.put64At k 0x7020 0x05 s.count).putAt k 0x7020 0x07 (toWord n)
    (s.put64At k 0x7020 0x08 step).put 0x7020 0x01 (k + 1)

/-- A strand of a step not yet sealed was issued on the unit: on it, for a converter slice on its tile, for a course buffer
in its course (R311, R412). -/
def Ctx.ranOn (c : Ctx) (unit : Nat) : Bool :=
  c.phase != 0 && c.used.any (fun u => u == unit ||
    (unitKind unit == 0x02 && unitKind u == 0x01 && u % 2 ^ 17 == unit % 2 ^ 17) ||
    (unitKind unit == 0x04 && u % 2 ^ 17 / 256 == unit % 2 ^ 17 / 256))

/-- A physical unit becomes permanent-suspect: table, Failure record, FAULT of every context that used
it in an unsealed step, probation (R412, R413). -/
def State.makeSuspect (s : State) (unit cause n step : Nat) : State :=
  if s.suspect unit then s
  else
    let s := s.listSuspect unit cause n step
    let s := s.log { cls := clsFailure, unit := unit, code := 0x7005, ctx := n, step := step,
                     detail := natBytes 1 cause }
    let s := (s.ctxs.filter (fun c => c.ranOn unit)).foldl (fun t c => t.enterFault c.n rUnit) s
    s.enterProbation

/-! ### The seal decision (R384) -/

/-- Units whose checks failed in a run of the step. -/
def Ctx.failedIn (c : Ctx) (run : Nat) : List Word :=
  (c.failedUnits.filter (fun e => e.1 == run)).map (·.2)

/-- Unit whose checks failed most often in the runs of the step (R411, cause 3). -/
def worstUnit (l : List Word) : Word :=
  l.foldl (fun best u => if l.count best < l.count u then u else best) (l.headD 0)

/-- Step repeats of a half (0x6020.09). -/
def collIndex (h : HalfId) : Nat := pick h 0x6020 0x6021

/-! ### Result lines (R68, R158) -/

/-- Result of one vector of the step: the codes of the last layer's output row, cut or filled with zeros to
the result size (DESIGN CHOICE: the spec does not say what a result holds). -/
def Ctx.resultBytes (c : Ctx) (size row : Nat) : List Byte :=
  let l := match c.layers.getLast?.bind (fun L => c.tensor L.output false) with
    | some t => if row < t.rows then packBytes (t.fmt.signBit + 1) (t.rowCodes row 0 t.cols) else []
    | none => []
  (l ++ natBytes size 0).take size

/-- Host address of the result of record `i`. -/
def State.resultAddr (s : State) (n i : Nat) : Nat :=
  s.ringPlace n (s.val64 (cidx n) 0x49) (s.val (cidx n) 0x4B) i

/-- The pieces of a run of bytes, one for each 64-byte line that it touches. -/
def linePieces (a : Nat) (l : List Byte) : List (Nat × List Byte) :=
  (linesOf a l.length).map (fun k => (max a k, ((l.take (k + 64 - a)).drop (k - a))))

/-- Joins pieces of one line that follow on each other. -/
def joinPieces (l : List (Nat × List Byte)) : List (Nat × List Byte) :=
  l.foldr (fun e acc => match acc with
    | f :: r => if f.1 = e.1 + e.2.length ∧ f.1 / 64 = e.1 / 64 then (e.1, e.2 ++ f.2) :: r else e :: acc
    | [] => [e]) []

/-- What the step's results write, line by line. -/
def State.resultPieces (s : State) (c : Ctx) : List (Nat × List Byte) :=
  let done := s.val64 (cidx c.n) 0x4C
  joinPieces ((List.range (s.batch c)).flatMap (fun i =>
    linePieces (s.resultAddr c.n (done + i)) (c.resultBytes (s.val (cidx c.n) 0x4B) i)))

/-- A piece is a whole line. -/
def wholeLine (e : Nat × List Byte) : Bool := e.2.length == 64

/-- The result lines of a step that will be written whole are taken with RdOwn and stand changed in the half's partition
until the step seals (assumption 40, DESIGN CHOICE: R68 names the request and not its moment). -/
def State.stageResults (s : State) (c : Ctx) : State :=
  if !s.streaming c.n then s
  else ((s.resultPieces c).filter wholeLine).foldl (fun t e =>
    (t.request c.half .rdOwn e.1 []).fillLine c.half e.1 true e.2) s

/-- Writes a step's results, then the consumer index (R158). -/
def State.writeResults (s : State) (c : Ctx) : State :=
  let n := c.n
  if !s.streaming n then s
  else
    let done := s.val64 (cidx n) 0x4C + s.batch c
    let s := (s.resultPieces c).foldl (fun t e =>
      (t.request c.half (if wholeLine e then .itoMWr else .woWrInv) e.1 e.2).dropLine c.half (e.1 / 64 * 64)) s
    let s := s.request c.half .woWrInv (s.val64 (cidx n) 0x47) (natBytes 8 done)
    (s.put64 (cidx n) 0x4C done).ctxEvent n evRecords

/-- The last strand of the step has ended: a failed check retracts and repeats the step, or ends the
context; otherwise the context seals (R142, R384). -/
def State.stepEnds (s : State) (n : Nat) : State :=
  match s.ctx n with
  | none => s
  | some c =>
    let step := s.stepOf n
    if c.stepFailed then
      let now := c.failedIn c.attempt
      let again := if c.attempt = 0 then none else now.find? (fun u => (c.failedIn 0).contains u)
      let s := s.retractAll n
      match again with
      | some u => (s.makeSuspect u.toNat 1 n step).enterFault n rUnit
      | none =>
        if 2 ≤ c.attempt then
          (s.makeSuspect (worstUnit (c.failedUnits.map (·.2))).toNat 3 n step).enterFault n rUnit
        else
          let s := s.bump (collIndex c.half) 0x09
          (s.modCtx n (fun c => { c with attempt := c.attempt + 1 })).buildRun n
    else (s.stageResults c).setCtx { c with state := stSealing }

/-! ### Progress of a step -/

def Strand.isForward (x : Strand) : Bool :=
  match x.kind with
  | .forward _ | .engine _ => true
  | _ => false

/-- Strands of a layer that are still to end, of one direction. -/
def Ctx.remains (c : Ctx) (k : Nat) (fwd : Bool) : Bool :=
  (c.todo ++ c.slots).any (fun x => x.layer == k && x.isForward == fwd && !x.dead)

/-- No strand of the step is left. -/
def Ctx.idle (c : Ctx) : Bool := c.todo.isEmpty && c.slots.isEmpty

/-- Moves the step on: backward once the forward has passed, the seal decision at its end. -/
def State.progress (s : State) (n : Nat) : Nat → State
  | 0 => s
  | k + 1 =>
    match s.ctx n with
    | none => s
    | some c =>
      if c.state ≠ stRun ∨ c.idle = false then s
      else if c.phase = 1 then
        if c.forwardDone then
          if s.trains n && (seedLayer c.layers).isSome then (s.beginBackward n).progress n k
          else s.stepEnds n
        else s
      else if c.phase = 2 then s.stepEnds n
      else s

/-- What the end of a live strand finishes. -/
def State.finishLayer (s : State) (n : Nat) (x : Strand) : State :=
  match s.ctx n with
  | none => s
  | some c =>
    if c.remains x.layer x.isForward then s
    else
      match c.layers[x.layer]? with
      | none => s
      | some L =>
        if x.isForward then
          let s := if L.digital then s.runDigital c L x.layer else s
          s.evalForward n x.layer
        else (s.finishDW n x.layer).finishDX n x.layer

/-! ### Readiness (R165 of none; R178, R230, R262, R318, R324, R326, R343, R348) -/

/-- The pass on a tile is over or the strand's context does not wait for it. -/
def State.passAllows (s : State) (n p : Nat) : Bool :=
  !((s.tile p).inPass && (s.flag (cidx n) 0x05 2 ||
    ((s.tile p).owed != 0 && !(s.tile p).queue.isEmpty)))

/-- The update of the step before last is complete, or the context has no masters (R343); for a
digital-resident layer the last update too (R326). -/
def State.updatesAllow (s : State) (c : Ctx) (digital : Bool) : Bool :=
  let m := s.stepOf c.n
  !s.trains c.n || decide (m ≤ s.val64At c.n 0x5010 0x08 + (if digital then 1 else 2))

/-- A strand's inputs are there and its unit may take it. -/
def State.ready (s : State) (c : Ctx) (x : Strand) : Bool :=
  match c.layers[x.layer]? with
  | none => false
  | some L =>
    match x.kind with
    | .forward l =>
      s.updatesAllow c false &&
      (match s.physTile l with
       | some p => !(s.tile p).programming && s.calState p != 0 && s.calState p != 5 && s.passAllows c.n p &&
           !(s.tile p).doomed && !(s.tile p).swapDue.any s.swapOpen &&
           decide ((((s.tile p).inRing.filter (fun v => v.ctx != c.n)).map vecEntries).foldl (· + ·) 0 + 2 ≤ 120)
       | none => false)
    | .engine _ =>
      s.updatesAllow c true &&
      [L.input, if L.kind = 3 then L.input2 else L.input].all (fun id =>
        match c.tensor id false with | some t => t.ready | none => true)
    | _ => (!s.dxFromCopy c L || s.updatesAllow c true) &&
      (match c.tensor L.output true with | some t => t.ready | none => false)

/-- The strand runs on a unit: a physical tile, or the engine of a physical course. -/
def State.onUnit (s : State) (c : Ctx) (x : Strand) (unit : Nat) : Bool :=
  match x.kind with
  | .forward l => unitKind unit == 0x01 && s.physTile l == some (unit % 2 ^ 17)
  | _ =>
    let h := halfNum c.half
    unitKind unit == 0x03 &&
      unit % 2 ^ 17 == mkTile h (s.fabric.physCourse (mkTile h x.course 0)) 0xFF

/-- Strands of a context that a unit may take next, oldest first. -/
def State.candidates (s : State) (c : Ctx) (unit : Nat) : List Strand :=
  if c.state ≠ stRun ∨ c.stopAsked = true ∨ c.resetting = true ∨ c.reread = true ∨
      c.slots.any (fun x => x.issued && x.dead) = true then []
  else c.slots.filter (fun x => !x.issued && !x.dead && s.onUnit c x unit && s.ready c x)

/-- A strand runs on the unit now. -/
def State.unitBusy (s : State) (unit : Nat) : Bool :=
  s.ctxs.any (fun c => c.slots.any (fun x => x.issued && s.onUnit c x unit))

/-! ### Arbitration (R156) -/

/-- Weight of a class at a half. -/
def State.classWeight (s : State) (h : HalfId) (cls : Nat) : Nat :=
  s.val (pick h 0x4102 0x4103) (0x01 + cls)

def State.arb (s : State) (unit : Nat) : Arb :=
  (s.arbs.find? (fun a => a.unit == unit)).getD { unit := unit, credits := [0, 0, 0],
                                                  last := [0xFFFF, 0xFFFF, 0xFFFF] }

def ctxClass (s : State) (n : Nat) : Nat := s.val (cidx n) 0x03

/-- Class that the weighted round robin picks among those with a ready strand, and the credits left:
the first with credit; when none has any, every class takes its weight anew (assumption 26). -/
def pickClass (credits weights : List Nat) (ready : List Nat) : Option (Nat × List Nat) :=
  let take := fun (cr : List Nat) => (ready.find? (fun k => 0 < cr.getD k 0)).map (fun k =>
    (k, (List.range 3).map (fun j => cr.getD j 0 - (if j = k then 1 else 0))))
  match take credits with
  | some r => some r
  | none => take weights

/-- Context that the round robin picks: the next above the one served last, else the lowest. -/
def pickCtx (last : Nat) (l : List Nat) : Option Nat :=
  let low := fun (m : List Nat) => m.foldl (fun (a : Option Nat) n =>
    match a with | none => some n | some b => some (min b n)) none
  match low (l.filter (fun n => last != 0xFFFF && decide (last < n))) with
  | some n => some n
  | none => low l

/-! ### Issue (R147, R200, R323, R324) -/

/-- What the issue of a forward strand does at its tile: the pending coefficients and the thresholds
take effect, a transfer pass pauses, the snapshot is taken. -/
def State.issueOnTile (s : State) (c : Ctx) (x : Strand) (p l : Nat) : State × List Nat :=
  let s := s.switchSet p
  let h := tileHalf p
  let lim := (s.val 0x4011 (0x01 + 2 * h), s.val 0x4011 (0x02 + 2 * h))
  let s := s.modTile p (fun t => { t with limits := lim })
  let s := if s.ledgerOn c.n then
      s.modCtx c.n (fun c => { c with ledgerCoeff := c.ledgerCoeff ++ [(l, s.setBytes p)] })
    else s
  let t := s.tile p
  let s := if t.inPass && !t.paused then
      ((s.modTile p (fun t => { t with paused := true })).bumpAt p 0x5020 0x0C).putAt p 0x5020 0x06 2
    else s
  let s := match c.layers[x.layer]? with
    | some L =>
      if s.trains c.n && !L.noDX && !s.dxFromCopy c L then
        s.putAt l 0x4021 0x04 (toWord ((s.layerVecs c x.layer + 2047) / 2048))
      else s
    | none => s
  (s, t.version)

/-- Bytes that a declared tensor takes: elements and scales. -/
def declSpans (d : TensorDecl) : List (Nat × Nat) :=
  [(d.base, (if 0x21 ≤ d.code then d.rows * rowBlocks d.cols * 32 * mxBits d.code
      else d.rows * d.cols * (((Fmt.ofCode d.code).getD .f32).signBit + 1)) / 8 + 1),
   (d.scales, if 0x21 ≤ d.code ∨ ((Fmt.ofCode d.code).getD .f32).scaled = true then
      d.rows * rowBlocks d.cols else 0)]

/-- A line of 64 bytes lies in one of the spans. -/
def lineIn (spans : List (Nat × Nat)) (l : Nat) : Bool :=
  spans.any (fun e => decide (e.1 < l * 64 + 64 ∧ l * 64 < e.1 + e.2))

def State.dir (s : State) (h : HalfId) : List Nat := pick h s.port.dir0 s.port.dir1

/-- Lines of a half's spans that the host holds (R65). -/
def State.heldIn (s : State) (h : HalfId) (spans : List (Nat × Nat)) : List Nat := (s.dir h).filter (lineIn spans)

/-- What a strand reads and writes in its half's HBM: the declared tensors of its layer and their history records, the
layer's parameters, and, backward, its backward area. -/
def State.strandSpans (s : State) (c : Ctx) (x : Strand) : List (Nat × Nat) :=
  match c.layers[x.layer]? with
  | none => []
  | some L =>
    let ids := [L.input, L.input2, L.output]
    let part := fun off size => if off = 0 then [] else [(s.progAt c.n off, size)]
    (c.decls.filter (fun d => ids.contains d.id)).flatMap declSpans ++
    ids.map (fun id => (s.historyAt c.n id, 128)) ++
    part L.bias (4 * L.nOut) ++ (if L.activation = 7 then part L.table 2048 else []) ++ part L.params (4 + 8 * L.nOut) ++
    (if x.isForward then [] else part L.area (s.hbmNat c.half (s.progAt c.n L.area + 32) 4))

/-- Lines that a strand needs and the host holds. -/
def State.heldLines (s : State) (c : Ctx) (x : Strand) : List Nat := s.heldIn c.half (s.strandSpans c x)

/-- Back-invalidates lines for a context that waits; a line already asked for is not asked for again. -/
def State.snoopLines (s : State) (h : HalfId) (n : Nat) (l : List Nat) : State :=
  l.foldl (fun t line =>
    let out := t.port.snoops.filter (fun x => x.half == h && x.line == line)
    if out.any (fun x => x.ctx == some n) then t
    else
      let x : Snoop := { half := h, line := line, ctx := some n, hostOwned := out.any (·.hostOwned), reader := none }
      let t := { t with port := { t.port with snoops := t.port.snoops ++ [x] } }
      if out.isEmpty then t.emit (.bisnp h line) else t) s

/-- Strands of a unit that may issue: none of their lines is host-held. -/
def State.issuable (s : State) (c : Ctx) (u : Nat) : List Strand :=
  (s.candidates c u).filter (fun x => (s.heldLines c x).isEmpty)

/-- STRAND_ISSUE: a shared unit that is free takes its next strand; a strand that needs lines the host holds
waits for them (R66). -/
def execStrandIssue (unit : UnitWord) (s : State) : Result :=
  onPower s (fun s =>
    let u := unit.toNat
    let h := halfOf (u / 65536)
    let course := tileCourse (u % 2 ^ 17)
    if !s.runs h || !s.awake || s.unitBusy u || (s.half h).droop.contains course then s
    else
      let s := (s.ctxs.filter (fun c => c.half == h)).foldl (fun t c =>
        (s.candidates c u).foldl (fun t x => t.snoopLines h c.n (s.heldLines c x)) t) s
      let live := s.ctxs.filter (fun c => c.half == h && !(s.issuable c u).isEmpty)
      let classes := (List.range 3).filter (fun k => live.any (fun c => ctxClass s c.n == k))
      let a := s.arb u
      match pickClass a.credits ((List.range 3).map (s.classWeight h)) classes with
      | none => s
      | some (k, credits) =>
        match pickCtx (a.last.getD k 0xFFFF) ((live.filter (fun c => ctxClass s c.n == k)).map (·.n)) with
        | none => s
        | some n =>
          match s.ctx n with
          | none => s
          | some c =>
            match s.issuable c u with
            | [] => s
            | x :: _ =>
              let arb : Arb := Arb.mk u credits
                ((List.range 3).map (fun j => if j = k then n else a.last.getD j 0xFFFF))
              let s := { s with arbs := replaceBy (fun y => y.unit == u) arb s.arbs }
              let q := match x.kind with
                | .forward l => s.issueOnTile c x (u % 2 ^ 17) l
                | _ => (s, [])
              let s := q.1.modCtx n (fun c => { c with
                used := if c.used.contains u then c.used else c.used ++ [u],
                slots := c.slots.map (fun y =>
                  if y.id == x.id then { y with issued := true, snapshot := q.2 } else y) })
              if x.isForward then s.yieldCal (u % 2 ^ 17) else s)

/-! ### End (R154, R307, R310, R317) -/

/-- Handshakes that a reduction index takes for operands of a format (R307). -/
def operandRate (code : Nat) : Nat :=
  if code = 0x05 then 16 else if code = 0x03 ∨ code = 0x04 then 4 else 1

/-- Rate of a tensor as an operand; an input that no memory holds comes as FP32 (assumption 22). -/
def Ctx.rateOf (c : Ctx) (id : Nat) (grad : Bool) : Nat :=
  match c.tensor id grad with
  | some t => operandRate t.format
  | none => 16

/-- Output loads of 128 vectors that a dX strand takes, cut at the bounds of the forward strands (R317). -/
def dXVectorLoads (n vec0 count : Nat) : Nat :=
  let n := max 1 n
  ((List.range ((vec0 + count + n - 1) / n)).map (fun j =>
    let lo := max vec0 (j * n)
    let hi := min (vec0 + count) ((j + 1) * n)
    (hi - lo + 127) / 128)).foldl (· + ·) 0

/-- Every weight of output load (a, b) of a tile's dW is frozen: the load is skipped (R329). -/
def Ctx.loadFrozen (c : Ctx) (k : Nat) (L : Layer) (t a b : Nat) : Bool :=
  let row := t % L.tileRows
  let block := t / L.tileRows
  (List.range (min 256 (L.inRows row - 256 * a))).all (fun i =>
    (List.range (min 128 (L.outCols block - 128 * b))).all (fun j =>
      c.frozen k L (1024 * row + 256 * a + i) (512 * block + 128 * b + j)))

/-- Handshakes of an engine strand, load by load (R284, R306, R307, R317, R321). -/
def engineLoads (c : Ctx) (x : Strand) : List Nat :=
  match c.layers[x.layer]? with
  | none => []
  | some L =>
    let up := fun a b => (a + b - 1) / b
    let xRate := c.rateOf L.input false
    let dRate := c.rateOf L.output true
    match x.kind with
    | .forward _ => []
    | .engine j =>
      if L.kind = 0 then List.replicate (up x.count 256 * up (L.outCols j) 128) (L.nIn * xRate)
      else [up (x.count * L.nOut) 2048]
    | .dX t _ =>
      let rows := L.inRows (t % L.tileRows)
      List.replicate (up rows 256 * dXVectorLoads L.strand x.vec0 x.count) (512 * dRate) ++
        (if t / L.tileRows + 1 = L.blocks then List.replicate 2 (up (rows * x.count) 1024) else [])
    | .dW t _ =>
      List.replicate (((List.range (up (L.inRows (t % L.tileRows)) 256)).flatMap (fun a =>
          (List.range (up (L.outCols (t / L.tileRows)) 128)).map (fun b => (a, b)))).filter (fun e =>
            !c.loadFrozen x.layer L t e.1 e.2)).length (x.count * max xRate dRate) ++
        (if t % L.tileRows = 0 ∧ L.bias ≠ 0 then [up (512 * x.count) 2048] else [])
    | .back _ => [up (x.count * L.nOut) 2048]

/-- Most handshakes of one engine strand (R154). -/
def strandBound : Nat := 65536

/-- A load longer than the bound in parts of the bound: at multiples of 65,536 terms, or of that over the operands' rate,
a power of two either way (R308). -/
def cutLoad (n : Nat) : List Nat :=
  List.replicate (n / strandBound) strandBound ++ (if n % strandBound = 0 then [] else [n % strandBound])

/-- Loads put together, in order, while they stay within the bound. -/
def packLoads : Nat → List Nat → List Nat
  | acc, [] => if acc = 0 then [] else [acc]
  | acc, n :: r => if acc + n ≤ strandBound then packLoads (acc + n) r
      else if acc = 0 then n :: packLoads 0 r else acc :: packLoads n r

/-- Handshakes of the pieces that an engine strand's work runs in (assumption 51). -/
def enginePieces (c : Ctx) (x : Strand) : List Nat := packLoads 0 ((engineLoads c x).flatMap cutLoad)

/-- Handshakes of the piece that runs now. -/
def handshakes (c : Ctx) (x : Strand) : Nat := (enginePieces c x).getD x.piece 0

/-- Another piece of the strand's work follows. -/
def moreWork (c : Ctx) (x : Strand) : Bool := !x.dead && decide (x.piece + 1 < (enginePieces c x).length)

/-- Counts an engine strand (R330): handshakes, kind, residue events. -/
def State.countEngine (s : State) (c : Ctx) (x : Strand) (residue : Residue) : State :=
  let h := halfNum c.half
  let u := mkTile h (s.fabric.physCourse (mkTile h x.course 0)) 0xFF
  let runs := match residue with | .clear => 1 | _ => 2
  let hs := handshakes c x * runs
  let s := s.add64At u 0x4020 0x03 hs
  let s := s.modCtx c.n (fun c => { c with energy := c.energy + 7220 * hs })
  let s := match x.kind with
    | .dX _ _ => s.add64At u 0x4020 0x05 1
    | .dW _ sl => (s.add64At u 0x4020 0x07 1).addAt u 0x4020 0x0F (if sl = 0 then 0 else 1)
    | .engine _ => s.add64At u 0x4020 0x09 1
    | _ => s
  let unit := unitWord 0x03 0 u
  match residue with
  | .clear => s
  | .transient =>
    let s := (s.bumpAt u 0x4020 0x0B).riskEvent c.half 1
    s.modCtx c.n (fun c => { c with ledgerCounts := addAtIdx c.ledgerCounts 2 1 })
  | .fault =>
    let s := s.bumpAt u 0x4020 0x0C
    let s := s.log { cls := clsWarning, unit := unit, ctx := c.n, step := x.step,
                     obj := counter 0x4020 0x0C, detail := natBytes 4 x.id }
    s.failCheck c.n unit

/-- The end of a forward strand at a tile whose pass is paused lets the tile write some rows first
(R348). -/
def State.oweRows (s : State) (x : Strand) : State :=
  match x.kind with
  | .forward l =>
    match s.physTile l with
    | some p => s.modTile p (fun t => { t with owed := if t.inPass then s.val 0x5030 0x04 else 0 })
    | none => s
  | _ => s

/-- A forward strand has ended at its tile: no vector of it is left there, a gap may have opened, and a tile that was to
retire does (R188, R202). -/
def State.leaveTile (s : State) (n : Nat) (x : Strand) : State :=
  match x.kind with
  | .forward l =>
    match s.physTile l with
    | some p =>
      let mine := fun (v : InVec) => v.ctx == n && x.takes v.layer v.vec
      (((s.modTile p (fun t => t.flush mine (fun _ => false))).ringLevels p).countGap s p).retireDue p
    | none => s
  | _ => s

/-- A dX strand has read its operands: its snapshot is let go (R323). -/
def State.dropSnapshot (s : State) (c : Ctx) (x : Strand) : State :=
  match x.kind, c.layers[x.layer]? with
  | .dX t _, some L =>
    if L.digital then s
    else match (s.tilesOf c.n)[firstPlace c.layers x.layer + t]? with
      | some l => s.putAt l 0x4021 0x04 (toWord (s.valAt l 0x4021 0x04 - 1))
      | none => s
  | _, _ => s

/-- A context whose last strand in flight has ended holds if it was asked to; one that is being released does not. -/
def State.holdIfAsked (s : State) (n : Nat) : State :=
  match s.ctx n with
  | some c =>
    if c.stopAsked && !c.releasing && c.state == stRun && !c.inFlight then s.enterHold n else s
  | none => s

/-- The results of a strand's whole work are taken up: its slot is freed and what it finishes is evaluated. A dead strand
leaves nothing. -/
def State.endStrand (s : State) (n : Nat) (c : Ctx) (x : Strand) : State :=
  let s := ((if x.dead then s else s.keepPartial n x).dropSnapshot c x).oweRows x
  let s := s.modCtx n (fun c => { c with
    slots := c.slots.filter (fun y => y.id != x.id),
    snaps := if x.tile?.isSome && !x.dead && s.trains n then c.snaps ++ [x] else c.snaps })
  let s := (s.leaveTile n x).refill c.half
  let s := if x.dead then s else s.finishLayer n x
  (s.progress n 3).holdIfAsked n

/-- A vector of the strand is still on the tile: in stage 2, or at its finisher (R206, R208). -/
def State.strandOnTile (s : State) (n p : Nat) (x : Strand) : Bool :=
  let t := s.tile p
  t.flight.any (fun f => f.vec.ctx == n && x.takes f.vec.layer f.vec.vec) ||
    t.partials.any (fun q => q.ctx == n && q.row == 0 && decide (x.vec0 ≤ q.vec ∧ q.vec < x.vec0 + x.count))

/-- The strand may end: a live forward strand has issued all its vectors and none is left on its tile (R154). -/
def State.mayEnd (s : State) (n : Nat) (x : Strand) : Bool :=
  match x.kind with
  | .forward l =>
    x.dead || (match s.physTile l with
      | some p => decide (x.count ≤ x.ran) && !s.strandOnTile n p x
      | none => true)
  | _ => true

/-- A piece of an engine strand's work has ended and another follows: the strand issues again (R308). -/
def State.nextPiece (s : State) (n : Nat) (x : Strand) : State :=
  (s.modCtx n (fun c => { c with slots := c.slots.map (fun y =>
    if y.id == x.id then { y with issued := false, piece := x.piece + 1 } else y) })).holdIfAsked n

/-- STRAND_END: a strand has ended. -/
def execStrandEnd (ctx strand : Nat) (residue : Residue) (s : State) : Result :=
  onPower s (fun s =>
    match s.ctx ctx with
    | none => s
    | some c =>
      match c.slots.find? (fun x => x.id == strand && x.issued) with
      | none => s
      | some x =>
        if !s.mayEnd ctx x then s
        else
        let s := s.add64 (cidx ctx) 0x22 1
        let s := match x.kind with
          | .forward _ => s
          | _ => s.countEngine c x residue
        if moreWork c x then s.nextPiece ctx x else s.endStrand ctx c x)

end Sys2Proof.Machine
end

