-- ==== Sys2Proof/Machine/Tables.lean ====
section
/-! DEFINITION. What a context's program, update table and exchange table must hold to be placed
(R151, R279, R280, R313, R314, R336 to R339, R373). A check answers the refusal status, 0 if it
passes. -/

namespace Sys2Proof.Machine

open Sys2Proof

/-! ### Extents -/

/-- Two extents, first byte and length, share no byte. -/
def apart (a b : Nat × Nat) : Bool :=
  a.2 == 0 || b.2 == 0 || decide (a.1 + a.2 ≤ b.1) || decide (b.1 + b.2 ≤ a.1)

/-- No two extents of a list share a byte. -/
def allApart : List (Nat × Nat) → Bool
  | [] => true
  | a :: r => r.all (apart a) && allApart r

/-- Rounds up to a multiple. -/
def roundUp (n m : Nat) : Nat := (n + m - 1) / m * m

/-! ### The header (R279) -/

structure Header where
  layers : Nat
  tensors : Nat
  demand : Nat
  spill : Nat
  records : Nat
  spillAt : Nat

def State.readHeader (s : State) (h : HalfId) (base : Nat) : Header :=
  { layers := s.hbmNat h (base + 8) 2, tensors := s.hbmNat h (base + 10) 2,
    demand := s.hbmNat h (base + 12) 2, spill := s.hbmNat h (base + 14) 2,
    records := s.hbmNat h (base + 16) 4, spillAt := s.hbmNat h (base + 20) 4 }

/-- Every header field is in range and every offset inside the program. -/
def State.headerGood (s : State) (h : HalfId) (base len : Nat) (hd : Header) : Bool :=
  s.hbmNat h base 4 == 0x4B504752 && s.hbmNat h (base + 4) 4 == 1 &&
  decide (1 ≤ hd.layers ∧ hd.layers ≤ 4096 ∧ 1 ≤ hd.tensors) &&
  s.hbmNat h (base + 24) 8 == 0 &&
  decide (hd.records + 64 * hd.layers ≤ len) && decide (hd.spillAt + 2 * hd.spill ≤ len)

def State.readLayers (s : State) (h : HalfId) (base : Nat) (hd : Header) : List Layer :=
  (List.range hd.layers).map (fun k => Layer.parse (s.hbmRead h (base + hd.records + 64 * k) 64))

def State.readSpill (s : State) (h : HalfId) (base : Nat) (hd : Header) : List Nat :=
  (List.range hd.spill).map (fun k => s.hbmNat h (base + hd.spillAt + 2 * k) 2)

/-- Tiles that the header must demand: every matrix layer that is not pinned digital. DEDUCED: layers
that class E or the spill list makes digital-resident count as placed in tiles here. -/
def demandOf (l : List Layer) : Nat := l.foldl (fun a L => a + L.tileCount) 0

/-! ### Layer records (R197, R209 to R211, R246, R258, R280, R313) -/

def fitsIn (len off size : Nat) : Bool := decide (off + size ≤ len)

/-- Widths, tensors, formats and the surround's settings. -/
def Layer.shapeGood (L : Layer) (tensors : Nat) : Bool :=
  decide (L.kind ≤ 3) && decide (L.activation ≤ 7) &&
  decide (1 ≤ L.nIn ∧ L.nIn ≤ 2 ^ 20 ∧ 1 ≤ L.nOut ∧ L.nOut ≤ 2 ^ 20) &&
  (L.kind == 0 || L.nIn == L.nOut) &&
  decide (L.input < tensors ∧ L.output < tensors) &&
  (if L.kind = 3 then decide (L.input2 < tensors)
   else L.input2 == 0xFFFF || decide (L.input2 < tensors)) &&
  [0x01, 0x02, 0x04, 0x05].contains L.format && decide (L.range ≤ 10) &&
  decide (L.poolOp ≤ 3 ∧ L.pooling % 256 ≤ 8) && (L.poolOp != 0 || L.window == 1) &&
  decide (1 ≤ L.strand) && L.strand % L.window == 0 &&
  decide (0x00800000 ≤ L.initMax.toNat ∧ L.initMax.toNat < 0x7F800000)

/-- Offsets of weights, bias, table and parameters. -/
def Layer.offsetsGood (L : Layer) (len : Nat) : Bool :=
  (if L.kind = 0 then fitsIn len L.weights (4 * L.nIn * L.nOut) else L.weights == 0) &&
  (L.bias == 0 || fitsIn len L.bias (4 * L.nOut)) &&
  (L.activation != 7 || (fitsIn len L.table 2048 && f32Finite L.xMin && f32Finite L.xMax &&
    flt L.xMin L.xMax)) &&
  (if L.kind = 1 then fitsIn len L.params (4 + 8 * L.nOut) else L.params == 0)

/-- The backward record and the header of its area. -/
def State.backwardGood (s : State) (h : HalfId) (base len tensors : Nat) (L : Layer) (last : Bool) :
    Bool :=
  let a := base + L.area
  let mode := s.hbmNat h (a + 2) 1
  (L.gradFormat == 2 || L.gradFormat == 3) && (decide (L.tie ≤ 255) || L.tie == 0xFFFF) &&
  L.area % 64 == 0 && L.seed == last &&
  (if L.area = 0 then L.noDX && L.noDW && !L.seed
   else
    let size := s.hbmNat h (a + 32) 4
    fitsIn len L.area 64 && decide (64 ≤ size) && fitsIn len L.area size && decide (mode ≤ 2) &&
    s.hbmNat h (a + 3) 1 == 0 && (s.hbmRead h (a + 36) 28).all (· == 0) &&
    (L.seed || s.hbmNat h a 2 == 0xFFFF) && (mode != 1 || L.kind == 2) &&
    (!L.seed || mode == 0 || decide (s.hbmNat h a 2 < tensors)))

def State.layerStatus (s : State) (h : HalfId) (base len tensors : Nat) (L : Layer) (last : Bool) : Nat :=
  if 16 ≤ L.flags ∨ 32 ≤ L.bflags then 0x2004
  else if L.shapeGood tensors && L.offsetsGood len && s.backwardGood h base len tensors L last then 0
  else 0x2003

def State.layersStatus (s : State) (h : HalfId) (base len tensors : Nat) (l : List Layer) : Nat :=
  firstBad (((List.range l.length).zip l).map (fun e =>
    s.layerStatus h base len tensors e.2 (e.1 + 1 == l.length)))

/-- Members of a tie group agree in their widths (R328). -/
def tiesGood (l : List Layer) : Bool :=
  l.all (fun a => a.tie == 0xFFFF || l.all (fun b =>
    a.tie != b.tie || (a.nIn == b.nIn && a.nOut == b.nOut)))

/-! ### Tensor declarations (R272) -/

/-- A declaration names a tensor of the program and a format; MX blocks lie along the reduction
dimension. -/
def declGood (tensors : Nat) (d : TensorDecl) : Bool :=
  decide (d.id < tensors) &&
  (if 0x21 ≤ d.code ∧ d.code ≤ 0x26 then d.onReduction
   else [0x01, 0x02, 0x03, 0x04, 0x05].contains d.code)

/-! ### Backward areas (R314) -/

/-- Stage sums of dW slices held at once: ⌈log2 ⌈V ÷ 2,048⌉⌉. -/
def sliceLevels (v : Nat) : Nat :=
  let q := ceilDiv v 2048
  if q ≤ 1 then 0 else Nat.log2 (q - 1) + 1

/-- Planes that the forward keeps (R315). -/
def Layer.planeBytes (L : Layer) (v : Nat) : Nat :=
  (if L.activation = 1 ∨ L.activation = 2 then roundUp (ceilDiv (v * L.nOut) 8) 64
   else if 3 ≤ L.activation then roundUp (v * L.nOut + v * ceilDiv L.nOut 32) 64 else 0) +
  (if L.poolOp = 1 then roundUp (v * L.nOut / L.window) 64 else 0)

/-- Regions that a layer needs: offset of the header field and size. `master` is flags bit 3, `first`
says that the layer is its tie group's first place of use. DEDUCED: a region that only dX or only dW
uses is needed where that product is made. -/
def Layer.regions (L : Layer) (v : Nat) (master first : Bool) : List (Nat × Nat) :=
  let t := L.tileCount
  let dX := !L.noDX
  let dW := L.kind == 0 && !L.noDW
  let sum := 4 * L.nIn * L.nOut
  [(4, if L.kind == 0 && (L.rowMask || L.blockMask) then
      roundUp (ceilDiv L.nIn 8) 64 +
        roundUp (ceilDiv (ceilDiv L.nIn 32 * ceilDiv L.nOut 32) 8) 64 else 0),
   (8, if dX && !master then 1081344 * t else 0),
   (12, if L.kind == 0 && (L.digital || (master && dX)) then
      2 * roundUp (L.nIn * L.nOut + ceilDiv L.nIn 32 * ceilDiv L.nOut 32 + 4) 4096 else 0),
   (16, if L.noDX && L.noDW then 0 else L.planeBytes v),
   (20, if dX then 8388608 * t else 0),
   (24, if dW then 2097152 * t * sliceLevels v else 0),
   (28, if first && dW && decide (958 * 1024 < sum) then sum else 0)]

/-- Extents of the regions that a layer needs, from the program base; none if one is absent or leaves
its area. -/
def State.areaExtents (s : State) (h : HalfId) (base v : Nat) (master : Bool) (L : Layer)
    (first : Bool) : Option (List (Nat × Nat)) :=
  let need := (L.regions v master first).filter (fun e => e.2 != 0)
  let at' := fun f => s.hbmNat h (base + L.area + f) 4
  if need.all (fun e => L.area != 0 && decide (64 ≤ at' e.1) && decide (at' e.1 + e.2 ≤ at' 32)) then
    some (need.map (fun e => (L.area + at' e.1, e.2)))
  else none

/-- Layer `k` is the first place of use of a tie group of several members. -/
def firstOfTie (l : List Layer) (k : Nat) : Bool :=
  masterLayer l k == k && decide (1 < (tieMembers l k).length)

/-- The areas hold a batch of `v` records: every region is there, inside its area, and overlaps no
other. -/
def State.areasHold (s : State) (h : HalfId) (base v : Nat) (master : Bool) (l : List Layer) : Bool :=
  let ex := ((List.range l.length).zip l).map (fun e =>
    s.areaExtents h base v master e.2 (firstOfTie l e.1))
  ex.all (·.isSome) && allApart (ex.flatMap (fun e => e.getD []))

/-! ### The update table (R336 to R339) -/

def updateBytes : Nat := 12352

def tableField (t : List Byte) (off n : Nat) : Nat := fieldAt t off n
def tableWord (t : List Byte) (off : Nat) : Word := toWord (fieldAt t off 4)

/-- A finite FP32 value above zero; one not below zero. -/
def f32Positive (w : Word) : Bool := f32Finite w && flt f32Zero w
def f32NotNeg (w : Word) : Bool := f32Finite w && fle f32Zero w

def scheduleGood (t : List Byte) : Bool :=
  let kind := tableField t 17 1
  tableField t 0 4 == 0x4B555044 && f32Positive (tableWord t 4) && f32Positive (tableWord t 8) &&
  decide (tableField t 16 1 ≤ 2) && decide (kind ≤ 4) &&
  decide (1 ≤ tableField t 18 2 ∧ tableField t 18 2 ≤ 64) &&
  (decide (1 ≤ tableField t 20 4) || !([1, 2, 4].contains kind)) &&
  f32Positive (tableWord t 24) && fle (tableWord t 24) f32One &&
  f32NotNeg (tableWord t 28) && fle (tableWord t 28) f32One &&
  (decide (1 ≤ tableField t 32 4) || kind != 3) &&
  decide (1 ≤ tableField t 40 2 ∧ tableField t 40 2 ≤ 256) &&
  ((t.drop 42).take 22).all (· == 0)

/-- Group record `g` (R339). DEDUCED: eps is read by rule 1 alone and checked there alone. -/
def groupGood (t : List Byte) (g : Nat) : Bool :=
  let a := 64 + 32 * g
  f32NotNeg (tableWord t a) && f32NotNeg (tableWord t (a + 4)) &&
  f32NotNeg (tableWord t (a + 8)) && flt (tableWord t (a + 8)) f32One &&
  f32NotNeg (tableWord t (a + 12)) && flt (tableWord t (a + 12)) f32One &&
  (tableField t (a + 24) 1 != 1 || f32Positive (tableWord t (a + 16))) &&
  f32NotNeg (tableWord t (a + 20)) && decide (tableField t (a + 24) 1 ≤ 2) &&
  decide (tableField t (a + 25) 1 ≤ 3) && ((t.drop (a + 26)).take 6).all (· == 0)

/-- Group of layer `k` in the layer map. -/
def groupOf (t : List Byte) (k : Nat) : Nat := tableField t (8256 + k) 1

def updateGood (t : List Byte) (l : List Layer) : Bool :=
  scheduleGood t && (List.range (tableField t 40 2)).all (groupGood t) &&
  ((List.range l.length).zip l).all (fun e =>
    decide (2 ≤ e.2.kind) || decide (groupOf t e.1 < tableField t 40 2))

/-- Update base of a context; with base 0 the context has no table (assumption 27). -/
def State.updateBase (s : State) (n : Nat) : Nat := s.val64At n 0x5010 0x02

/-- The update table as it lies in memory now. -/
def State.readUpdate (s : State) (n : Nat) (h : HalfId) : List Byte :=
  if s.updateBase n = 0 then [] else s.hbmRead h (s.updateBase n) updateBytes

def State.updateStatus (s : State) (n : Nat) (h : HalfId) (l : List Layer) : Nat :=
  let b := s.updateBase n
  if b = 0 then 0
  else if s.spanInClaims n b updateBytes && updateGood (s.readUpdate n h) l then 0 else 0x2003

/-! ### The exchange table (R373) -/

def State.exchangeBase (s : State) (n : Nat) : Nat := s.val64At n 0x6010 0x02

/-- A list of U16 at an offset from a base. -/
def State.u16List (s : State) (h : HalfId) (a n : Nat) : List Nat :=
  (List.range n).map (fun k => s.hbmNat h (a + 2 * k) 2)

def strictlyRising : List Nat → Bool
  | a :: b :: r => decide (a < b) && strictlyRising (b :: r)
  | _ => true

/-- Shard length L_b of a bucket among `m` owners (R375). -/
def shardLen (n b m : Nat) : Nat := ceilDiv (bucketLen n b) (1024 * m) * 1024

/-- Bytes of an owner's staging (R373). -/
def stagingBytes (n m : Nat) : Nat :=
  2 * m * ((List.range (bucketCount n)).map (fun b => shardLen n b m + shardLen n b m / 32 + 8)).foldl
    (· + ·) 0

/-- The exchange table that lies in memory. -/
def State.readExchange (s : State) (n : Nat) (h : HalfId) : Option Exchange :=
  let b := s.exchangeBase n
  if b = 0 then none
  else
    let f := fun off k => s.hbmNat h (b + off) k
    some
      { group := f 4 2, topK := f 6 1 == 1, kshift := f 7 1,
        data := s.u16List h (b + f 12 4) (f 8 2), norm := s.u16List h (b + f 16 4) (f 10 2),
        links := (List.range (f 28 2)).map (fun k =>
          let a := b + f 32 4 + 8 * k
          (s.hbmNat h a 2, s.hbmNat h (a + 2) 2, s.hbmNat h (a + 4) 1 == 1)),
        sent := [], past := [], held := [], retracted := [], seals := [], sealed := [], refused := [],
        stopped := [], gathered := [], partials := [], sealedAt := 0 }

/-- Address of the buffer that holds the residual current in a step: the two buffers take turns (R378; which of them
serves a step is assumption 52). -/
def State.residualAt (s : State) (n : Nat) (h : HalfId) (len step : Nat) : Nat :=
  let b := s.exchangeBase n
  b + s.hbmNat h (b + 24) 4 + step % 2 * (2 * len)

/-- Current residual of an element in a step: a binary16 code. -/
def State.residual (s : State) (n : Nat) (h : HalfId) (len step i : Nat) : Nat :=
  s.hbmNat h (s.residualAt n h len step + 2 * i) 2

/-- Regions that the exchange table names: the table, its lists, staging, residual, links. `len` is
the gradient vector's length. -/
def State.exchangeExtents (s : State) (n : Nat) (h : HalfId) (len : Nat) : List (Nat × Nat) :=
  let b := s.exchangeBase n
  let f := fun off k => s.hbmNat h (b + off) k
  if b = 0 then []
  else
    [(b, 64), (b + f 12 4, 2 * f 8 2), (b + f 16 4, 2 * f 10 2),
     (b + f 20 4, stagingBytes len (f 8 2)), (b + f 24 4, if f 6 1 = 1 then 2 * 2 * len else 0),
     (b + f 32 4, 8 * f 28 2)]

/-- Exchange table of a context whose gradient vector has length `len`; 0x2003 if it cannot serve. -/
def State.exchangeStatus (s : State) (n : Nat) (h : HalfId) (len : Nat) : Nat :=
  let b := s.exchangeBase n
  let f := fun off k => s.hbmNat h (b + off) k
  match s.readExchange n h with
  | none => 0
  | some x =>
    if s.spanInClaims n b 64 && f 0 4 == 0x4B584347 && decide (1 ≤ x.group) && decide (f 6 1 ≤ 1) &&
        decide (4 ≤ x.kshift ∧ x.kshift ≤ 10) && decide (1 ≤ f 8 2 ∧ f 8 2 ≤ 16384) &&
        decide (1 ≤ f 10 2 ∧ f 10 2 ≤ 16384) && decide (f 28 2 ≤ 64) && f 30 2 == 0 &&
        (s.exchangeExtents n h len).all (fun e => s.spanInClaims n e.1 e.2) &&
        strictlyRising x.data && strictlyRising x.norm && x.data.contains (s.position h) &&
        x.norm.contains (s.position h) &&
        (s.hbmRead h (b + 36) 28).all (· == 0) &&
        (List.range (f 28 2)).all (fun k =>
          decide (f (f 32 4 + 8 * k + 4) 1 ≤ 1) && f (f 32 4 + 8 * k + 5) 3 == 0) &&
        !(x.topK && s.val (cidx n) 0x04 == 1) then 0 else 0x2003

end Sys2Proof.Machine
end

