-- ==== Sys2Proof/Machine/Draft.lean ====
section
/-! DEFINITION. Drafting at its source: the interval, the copy and its trailer, the replay check
(R398, R400, R401, R410). -/

namespace Sys2Proof.Machine

open Sys2Proof

/-! ### When a step is drafted (R398) -/

/-- Drafting level of a half. -/
def State.draftLevel (s : State) (h : HalfId) : Nat := s.val (pick h 0x7000 0x7001) 0x04

/-- Drafting interval of a context by mode and level; 0 for none. -/
def State.draftInterval (s : State) (c : Ctx) : Nat :=
  let d := s.valAt c.n 0x7010 0x06
  match s.valAt c.n 0x7010 0x05, s.draftLevel c.half with
  | 0, 0 => 0
  | 0, 1 => d
  | 0, _ => 1
  | 1, 0 => d
  | 1, 1 => d
  | 1, _ => 1
  | 2, _ => 1
  | _, _ => 0

/-- Spare position of a context; 0xFFFF for none. -/
def State.sparePosition (s : State) (n : Nat) : Nat := s.valAt n 0x7010 0x02

/-- A training context: class 0 with masters of its own. -/
def State.mayDraft (s : State) (n : Nat) : Bool := s.val (cidx n) 0x03 == 0 && s.trains n

/-- The update of step `t` is drafted. -/
def State.drafts (s : State) (c : Ctx) (t : Nat) : Bool :=
  let i := s.draftInterval c
  s.mayDraft c.n && s.sparePosition c.n != 0xFFFF && i != 0 && t % i == 0

/-- A half at level 1 or above has a training context without a spare: one Warning record (0x7003). -/
def State.warnDraft (s : State) (n : Nat) : State :=
  match s.ctx n with
  | none => s
  | some c =>
    if s.draftLevel c.half = 0 then s.setCtx { c with draftWarned := false }
    else if s.mayDraft n && s.sparePosition n == 0xFFFF && !c.draftWarned then
      (s.setCtx { c with draftWarned := true }).log
        { cls := clsWarning, unit := unitManager c.half, code := 0x7003, ctx := n, step := s.stepOf n }
    else s

/-! ### The copy (R401) -/

/-- Layers and blocks that have a shift record: each watched layer, its blocks before it where it shifts by
blocks. -/
def shiftSpots (l : List Layer) : List (Nat × Nat) :=
  ((List.range l.length).zip l).flatMap (fun e =>
    if e.2.watched then
      (if e.2.blockScope then (List.range e.2.blocks).map (fun b => (e.1, b)) else []) ++ [(e.1, 0xFFFF)]
    else [])

/-- Shift record of a layer or block, 32 bytes. -/
def shiftRecord (w : Watch) : List Byte :=
  natBytes 2 w.layer ++ natBytes 2 w.block ++
  natBytes 1 ((if w.fwdShift then 1 else 0) + (if w.gradShift then 2 else 0)) ++ natBytes 1 0 ++
  natBytes 2 w.clean ++ natBytes 4 w.fwdCount ++ wordBytes w.fwdAvg ++ wordBytes w.gradAvg ++
  wordBytes w.fwdL ++ wordBytes w.gradL ++ natBytes 4 0

/-- The context exchanges by top-k and keeps a residual. -/
def Ctx.hasResidual (c : Ctx) : Bool := match c.exchange with | some x => x.topK | none => false

/-- Bytes of a context's copy, trailer included. -/
def copyLength (c : Ctx) : Nat :=
  256 + 12 * gradLength c + 128 * c.tensorCount + 32 * (shiftSpots c.layers).length +
  (if c.hasResidual then 2 * gradLength c else 0) + 64

/-- SHA-256 over the generator key and a step (R288, R401). -/
def State.keyDigest (s : State) (n step : Nat) : List Byte :=
  sha256Bytes ((s.generatorKey n).map (BitVec.ofNat 8) ++ natBytes 8 step)

/-- The copy of a step before its trailer. -/
def State.copyBody (s : State) (c : Ctx) (t : Nat) : List Byte :=
  let len := gradLength c
  let spots := shiftSpots c.layers
  natBytes 4 0x4B445246 ++ natBytes 4 1 ++ natBytes 8 t ++ natBytes 2 (s.position c.half) ++
  natBytes 2 (s.valAt c.n 0x7010 0x04) ++ natBytes 4 c.tensorCount ++ natBytes 4 spots.length ++
  natBytes 4 (if c.hasResidual then 1 else 0) ++ s.programDigest c.n ++ s.keyDigest c.n t ++
  natBytes 8 len ++ natBytes 152 0 ++
  (List.range len).flatMap (fun i =>
    let e := c.elem i
    wordBytes e.master ++ wordBytes e.m1 ++ wordBytes e.m2) ++
  (List.range c.tensorCount).flatMap (fun id => s.hbmRead c.half (s.historyAt c.n id) 128) ++
  spots.flatMap (fun e => shiftRecord (c.watch e.1 e.2)) ++
  (match c.exchange with
   | some x => if x.topK then
       s.hbmRead c.half (s.residualAt c.n c.half len (t + 1)) (2 * len) else []
   | none => [])

/-- The trailer of a copy whose body is `body`: loss and G of the step after it. -/
def trailerBytes (body : List Byte) (t draws : Nat) (loss g : Word) : List Byte :=
  let front := natBytes 4 0x4B445254 ++ natBytes 4 0 ++ natBytes 8 t ++ natBytes 8 (t + 1) ++
    natBytes 8 draws ++ wordBytes loss ++ wordBytes g ++ natBytes 8 (body.length + 64)
  front ++ natBytes 4 (crc32c ((body ++ front).map (·.toNat))) ++ natBytes 12 0

/-- Loss of a step that has sealed. -/
def Ctx.lossOf (c : Ctx) (t : Nat) : Word := ((lookup c.losses t).map (·.1)).getD f32Zero

/-- Draws of the context when a step sealed. -/
def Ctx.drawsOf (c : Ctx) (t : Nat) : Nat := ((lookup c.losses t).map (·.2)).getD c.draws

/-- U1 of the update of step `t`: the copy of step t − 1 gets its trailer (R400). -/
def State.sendTrailer (s : State) (n t : Nat) (g : Word) : State :=
  match s.ctx n with
  | none => s
  | some c =>
    match c.copyWait with
    | none => s
    | some (u, draws, body) =>
      if u + 1 = t then
        let s := s.setCtx { c with copyWait := none, copySent := some u }
        s.sendOut c.half 64 (.copy c.half (s.sparePosition n) (s.valAt n 0x7010 0x04) u body.length
          (trailerBytes body u draws (c.lossOf t) g))
      else s.setCtx { c with copyWait := none }

/-- The update of step `t` begins: a drafted step opens its copy (R398, R400). -/
def State.openCopy (s : State) (n t : Nat) : State :=
  let s := s.warnDraft n
  match s.ctx n with
  | none => s
  | some c =>
    if s.drafts c t then (s.setCtx { c with copyStep := some t }).put64At n 0x7010 0x09 t
    else s

/-- U3 has ended: the copy has streamed and awaits its trailer. -/
def State.streamCopy (s : State) (n : Nat) : State :=
  match s.ctx n with
  | none => s
  | some c =>
    match c.copyStep with
    | none => s
    | some t =>
      let body := s.copyBody c t
      let s := s.setCtx { c with copyStep := none, copyWait := some (t, c.drawsOf t, body) }
      s.sendOut c.half body.length (.copy c.half (s.sparePosition n) (s.valAt n 0x7010 0x04) t 0 body)

/-- Copy state as 0x7010.0E reads it. -/
def Ctx.copyState (c : Ctx) : Nat :=
  if c.copyStep.isSome then 1 else if c.copyWait.isSome then 2 else if c.copySent.isSome then 3 else 0

/-! ### The replay check (R410) -/

/-- A value in units of 2^-149. -/
def signedUnits (w : Word) : Int := if f32Neg w then -(f32Units w : Int) else f32Units w

/-- A replayed value agrees with its reference: bit for bit in class E, else within 2^-k relative, or both
zero. -/
def replayAgrees (exact : Bool) (k : Nat) (x ref : Word) : Bool :=
  if exact then x == ref
  else f32Finite x && f32Finite ref &&
    (if f32IsZero ref then f32IsZero x
     else decide ((signedUnits x - signedUnits ref).natAbs * 2 ^ k ≤ f32Units ref))

/-- A replay is pending and step `t` is the one replayed. -/
def State.replays (s : State) (n t : Nat) : Bool :=
  s.valAt n 0x7013 0x07 == 3 && decide (t = s.val64At n 0x7013 0x04 + 1)

/-- U1 of the replayed step: loss and G against the trailer; false skips the update. -/
def State.replayCheck (s : State) (n t : Nat) (g : Word) : State × Bool :=
  match s.ctx n with
  | none => (s, true)
  | some c =>
    if !s.replays n t then (s, true)
    else
      let loss := c.lossOf t
      let s := (s.putAt n 0x7013 0x0A loss).putAt n 0x7013 0x0B g
      let e := s.val (cidx n) 0x04 == 1
      let k := s.val 0x7002 0x0F
      let refL := s.regAt n 0x7013 0x08
      let refG := s.regAt n 0x7013 0x09
      let ok := replayAgrees e k loss refL && replayAgrees e k g refG
      let s := s.putAt n 0x7013 0x07 (if ok then 4 else 5)
      let s := s.log { cls := if ok then clsInformation else clsFailure, unit := unitSwizeoth c.half,
                       code := if ok then 0x7008 else 0x7009, ctx := n, step := t,
                       detail := [loss, refL, g, refG].flatMap wordBytes }
      (s, ok)

/-- A step has sealed: its loss and the draws so far are kept for the trailers. -/
def State.noteLoss (s : State) (n t : Nat) (loss : Word) : State :=
  s.modCtx n (fun c => { c with losses := c.losses ++ [(t, loss, c.draws)] })

/-- A step is committed: its number, and its loss in 0x7010.0F (R422). -/
def State.noteCommit (s : State) (n t : Nat) : State :=
  match s.ctx n with
  | some c => (s.put64At n 0x6010 0x05 t).putAt n 0x7010 0x0F (c.lossOf t)
  | none => s

end Sys2Proof.Machine
end

