-- ==== Sys2Proof/Machine/Placement.lean ====
section
/-! DEFINITION. Placement of a context: spill, tiles, scale history region, pannier share, initial
masters, the weight copy, tile programming and the program digest (R151, R178, R284, R322, R326, R333,
R344, R350). -/

namespace Sys2Proof.Machine

open Sys2Proof

/-! ### Tiles (R150, R151) -/

/-- Logical tiles of a half in ascending course and tile. -/
def logicalTiles (h : Nat) : List Nat := (List.range 32).flatMap (courseTiles h)

/-- Tiles of a half that are present and have no owner. -/
def State.freeTiles (s : State) (h : Nat) : List Nat :=
  (logicalTiles h).filter (fun l => (s.physTile l).isSome && (s.ownerOf l).isNone)

/-- Marks the layers of the spill list digital-resident, in its order, until the rest fits. -/
def spillLayers (free : Nat) : List Nat → List Layer → Option (List Layer)
  | [], l => if tilesTotal l ≤ free then some l else none
  | k :: r, l =>
    if tilesTotal l ≤ free then some l
    else spillLayers free r (l.modify k (fun (L : Layer) => { L with digital := true }))

/-- Whole free courses, in ascending order, while 32 tiles or more are needed. -/
def takeCourses (h : Nat) (free : List Nat) : List Nat → Nat → List Nat
  | [], _ => []
  | c :: r, need =>
    if 32 ≤ need ∧ (courseTiles h c).all (fun l => free.contains l) = true then
      courseTiles h c ++ takeCourses h free r (need - 32)
    else takeCourses h free r need

/-- Tiles of a placement, in placement order. -/
def takeTiles (h : Nat) (free : List Nat) (need : Nat) : List Nat :=
  let whole := takeCourses h free (List.range 32) need
  whole ++ (free.filter (fun l => !whole.contains l)).take (need - whole.length)

/-! ### Initial weights and column scales (R280, R344) -/

/-- Initial weight (i, j) of a layer. -/
def State.initWeight (s : State) (c : Ctx) (L : Layer) (i j : Nat) : Word :=
  s.progWord c (L.weights + 4 * (i * L.nOut + j))

/-- Largest |w| of a column of a tile: block `b`, tile row `r`, column `j` of the block. -/
def State.columnMax (s : State) (c : Ctx) (L : Layer) (b r j : Nat) : Word :=
  ((List.range (L.inRows r)).map (fun i => fabs (s.initWeight c L (1024 * r + i) (512 * b + j)))).foldl
    fmax f32Zero

/-- Largest M_j of a layer. -/
def State.layerMax (s : State) (c : Ctx) (L : Layer) : Word :=
  ((List.range (L.nIn * L.nOut)).map (fun e => fabs (s.progWord c (L.weights + 4 * e)))).foldl fmax
    f32Zero

/-- s_col of a column from its M_j: fl(fl(fl(2.0 × M) × 16) ÷ 527). -/
def columnScale (m : Word) : Word := fdiv (fmul (fmul f32Two m) (f32OfNat 16)) (f32OfNat 527)

/-- Column scales of a tile; a column of zeros takes the layer's largest. -/
def State.columnScales (s : State) (c : Ctx) (L : Layer) (b r : Nat) : List (Nat × Word) :=
  (List.range (L.outCols b)).map (fun j =>
    let m := s.columnMax c L b r j
    (j, columnScale (if f32IsZero m then s.layerMax c L else m)))

/-! ### The pannier share (R333) -/

def shareGranule : Nat := 67108864

/-- Bytes a context's share needs before rounding. -/
def shareBytes (l : List Layer) : Nat :=
  8585216 * tilesTotal l + 16 * l.foldl (fun a L => a + L.elems) 0

/-- Bytes that contexts hold of a half's pannier (0x5001.03). -/
def State.shareHeld (s : State) (h : HalfId) : Nat :=
  ((s.ctxsOf h).map (fun n => s.val64At n 0x5010 0x06)).foldl (· + ·) 0

/-- Free pannier of a half. -/
def State.shareFree (s : State) (h : HalfId) : Nat :=
  let i := pick h 0x5001 0x5002
  s.val64 i 0x01 - s.shareHeld h - s.val i 0x05 * 2 ^ 30

/-- Masters of the share: every weight, bias, γ and β of the context, in gradient vector order; moments
start at zero. Members of a tie group other than its first-reached layer hold none (R342). -/
def State.initialElems (s : State) (c : Ctx) : List (Nat × Elem) :=
  let m := fun w : Word => ({ master := w, m1 := 0, m2 := 0 } : Elem)
  let all := ((List.range c.layers.length).zip c.layers).flatMap (fun e =>
    let L := e.2
    let k := e.1
    if L.kind = 0 ∧ masterLayer c.layers k ≠ k then []
    else match L.kind with
    | 0 =>
      (List.range L.nIn).flatMap (fun i => (List.range L.nOut).map (fun j =>
        (weightIndex c k i j, m (s.initWeight c L i j)))) ++
      (if L.digital && L.bias != 0 then
        (List.range L.nOut).map (fun j => (biasIndex c k j, m (s.progWord c (L.bias + 4 * j)))) else [])
    | 1 =>
      (List.range L.nOut).map (fun j => (gammaIndex c k j, m (s.progWord c (L.params + 4 + 4 * j)))) ++
      (List.range L.nOut).map (fun j =>
        (biasIndex c k j, m (s.progWord c (L.params + 4 + 4 * L.nOut + 4 * j))))
    | _ => [])
  all.foldl (fun d e => Sparse.set elemDefault d e.1 e.2) []

/-! ### The weight copy (R284, R326) -/

/-- Master of weight (i, j), from the share or, without one, from the program. -/
def State.masterOf (s : State) (c : Ctx) (L : Layer) (k i j : Nat) : Word :=
  if s.flag (cidx c.n) 0x05 5 then s.initWeight c L i j
  else (c.elem (weightIndex c (masterLayer c.layers k) i j)).master

/-- The layer's dX or its forward reads a copy, and its area holds one. -/
def State.hasCopy (s : State) (c : Ctx) (L : Layer) : Bool :=
  L.kind == 0 && s.usesCopy c L && (s.areaRegion c L 12).isSome

/-- Writes a layer's weight copy into the buffer that step `m` reads. -/
def State.writeCopy (s : State) (n k m : Nat) : State :=
  match s.ctx n with
  | none => s
  | some c =>
    match c.layers[k]? with
    | none => s
    | some L =>
      if s.hasCopy c L then
        let ws := (List.range (L.nIn * L.nOut)).map (fun e =>
          (e, s.masterOf c L k (e / L.nOut) (e % L.nOut)))
        let coarse := coarseOf .k8 ((ws.map (fun e => fabs e.2)).foldl fmax f32Zero)
        let t : Tensor := { Tensor.fresh 0 true 0x02 L.nIn L.nOut coarse with raw := ws }
        let t := (List.range t.blockCount).foldl (fun x b =>
          x.convert { arrayIn := false, draws := fun _ => none } b) t
        let a := s.copyAt c L m
        let s := s.hbmWrite c.half a ((List.range (L.nIn * L.nOut)).map (fun e =>
          BitVec.ofNat 8 ((lookup t.codes e).getD 0)))
        let s := s.hbmWrite c.half (a + L.nIn * L.nOut) ((List.range t.blockCount).map (fun b =>
          BitVec.ofNat 8 ((lookup t.scales b).getD 0)))
        s.putHbm c.half (a + L.nIn * L.nOut + t.blockCount) 4 coarse.toNat
      else s

/-- Spans that the copies for step `m` are written into. -/
def State.copySpans (s : State) (c : Ctx) (m : Nat) : List (Nat × Nat) :=
  (c.layers.filter (s.hasCopy c)).map (fun L => (s.copyAt c L m, L.copyBytes))

/-- Writes the copies of every layer for step `m`. -/
def State.writeCopies (s : State) (n m : Nat) : State :=
  match s.ctx n with
  | none => s
  | some c => (List.range c.layers.length).foldl (fun t k => t.writeCopy n k m) s

/-! ### The scale history region (R151, R260) -/

/-- Extents of a context's claims that the program, its tables and its declared tensors occupy. -/
def State.occupied (s : State) (n : Nat) (h : HalfId) (len : Nat) (decls : List TensorDecl) :
    List (Nat × Nat) :=
  let u := s.updateBase n
  [(s.val64 (cidx n) 0x07, s.val (cidx n) 0x09), (u, if u = 0 then 0 else updateBytes)] ++
  s.exchangeExtents n h len ++
  (if s.valAt n 0x3050 0x04 = 0 then [] else [(s.val64At n 0x3050 0x02, 256 * s.valAt n 0x3050 0x04)]) ++
  decls.flatMap declSpans

/-- Lowest free span of `size` bytes of the claims, at a multiple of 128 bytes (assumption 28). -/
def State.freeSpan (s : State) (n : Nat) (used : List (Nat × Nat)) (size : Nat) : Option Nat :=
  let starts := (s.claims n).map (fun e => e.1 * granule) ++ used.map (fun e => roundUp (e.1 + e.2) 128)
  let good := starts.filter (fun a => s.spanInClaims n a size && used.all (apart (a, size)))
  good.foldl (fun (b : Option Nat) a =>
    match b with
    | none => some a
    | some x => some (min x a)) none

/-! ### Placing (R151) -/

/-- A placement that passes its checks. -/
structure Placed where
  layers : List Layer
  spill : List Nat
  header : Header
  tiles : List Nat
  history : Nat
  share : Nat
  digital : Nat

def exactE (s : State) (n : Nat) : Bool := s.val (cidx n) 0x04 == 1
def isCompanion (s : State) (n : Nat) : Bool := s.flag (cidx n) 0x05 5

/-- A digital-resident layer would run on the engine of a course that is absent (R16, R152; assumption 53, DEDUCED). -/
def State.engineAbsent (s : State) (c : Ctx) : Bool :=
  ((List.range c.layers.length).zip c.layers).any (fun e =>
    e.2.digital && s.fabric.absentCourses.contains (halfNum c.half * 64 + engineCourse c e.1))

/-- Residency of a checked program. -/
def State.placeTiles (s : State) (c : Ctx) (decls : List TensorDecl) (hd : Header) (l : List Layer)
    (spill : List Nat) : Except Nat Placed :=
  let n := c.n
  let l := if exactE s n then l.map (fun (L : Layer) => { L with digital := true }) else l
  let free := s.freeTiles (halfNum c.half)
  let room := if isCompanion s n then tilesTotal l else free.length
  match spillLayers room (if s.flag (cidx n) 0x05 1 then spill else []) l with
  | none => .error 0x4002
  | some l =>
    let base := s.val64 (cidx n) 0x07
    let used := { c with layers := l }
    let tiles := if isCompanion s n then [] else takeTiles (halfNum c.half) free (tilesTotal l)
    let len := gradLength used
    if !s.areasHold c.half base (s.val (cidx n) 0x40) (s.flag (cidx n) 0x05 3) l ||
        s.updateStatus n c.half l != 0 || s.exchangeStatus n c.half len != 0 ||
        l.any (fun L => L.tileCount != 0 && f32IsZero (s.layerMax c L)) then .error 0x2003
    else if s.engineAbsent used then .error 0x4003
    else
      match s.freeSpan n (s.occupied n c.half len decls) (128 * hd.tensors) with
      | none => .error 0x4002
      | some history =>
        let share := if isCompanion s n then 0 else roundUp (shareBytes l) shareGranule
        if s.shareFree c.half < share then .error 0x4002
        else .ok { layers := l, spill := spill, header := hd, tiles := tiles, history := history,
                   share := share, digital := digitalBefore l l.length }

/-- R151: the program, its residency, its regions and its share. -/
def State.place (s : State) (c : Ctx) (decls : List TensorDecl) : Except Nat Placed :=
  let n := c.n
  let base := s.val64 (cidx n) 0x07
  let len := s.val (cidx n) 0x09
  let hd := s.readHeader c.half base
  if len < 32 ∨ s.spanInClaims n base len = false ∨ s.headerGood c.half base len hd = false then
    .error 0x2003
  else
    let l := s.readLayers c.half base hd
    let spill := s.readSpill c.half base hd
    let bad := s.layersStatus c.half base len hd.tensors l
    if bad ≠ 0 then .error bad
    else if spill.any (fun k => decide (hd.layers ≤ k)) || hd.demand != demandOf l || !tiesGood l ||
        !decls.all (declGood hd.tensors) then .error 0x2003
    else if l.any (fun L => decide (256 < L.strand)) then .error 0x2001
    else s.placeTiles c decls hd l spill

/-! ### Taking the tiles -/

/-- Output format of a tile's surround (0x4012.05): FP32 partial off the finisher (R212, R217). The
formats K16 and FP32 of a finisher have no code there and read as FP32 partial (assumption 19). -/
def surroundFormat (L : Layer) (finishes : Bool) : Nat :=
  if !finishes then 2 else match L.format with | 0x01 => 0 | 0x02 => 1 | _ => 2

/-- A new owner starts at the lowest governor threshold unless the tile is near its end (R350). -/
def State.newOwner (s : State) (p : Nat) : State :=
  if s.valAt p 0x4001 0x12 < 900000 then
    (s.putAt p 0x5020 0x02 1).putAt p 0x5020 0x0D (toWord (s.valAt p 0x5020 0x0D / 4 * 4))
  else s

/-- Loads what a tile of a placement takes at once: range, surround settings, column parameters. It is
programming from now on. -/
def State.takeTile (s : State) (c : Ctx) (t l : Nat) : State :=
  match s.physTile l, seatFrom c.layers 0 t with
  | some p, some q =>
    match c.layers[q.layer]? with
    | none => s
    | some L =>
      let fin := (s.seatTile c q.layer q.block 0).getD l
      let s := s.putAt p 0x4010 0x02 (toWord L.range)
      let s := (s.putAt p 0x4012 0x02 (toWord L.activation)).putAt p 0x4012 0x03 L.slope
      let s := (s.putAt p 0x4012 0x04 (toWord L.pooling)).putAt p 0x4012 0x05
        (toWord (surroundFormat L (q.row == 0)))
      let s := ((s.putAt p 0x4012 0x06 (toWord fin)).putAt p 0x4012 0x07 L.xMin).putAt p 0x4012 0x08 L.xMax
      let s := ((s.putAt l 0x4021 0x02 0).putAt l 0x4021 0x04 0).putAt l 0x4021 0x08 0
      let cols := s.columnScales c L q.block q.row
      let bias := if L.bias = 0 then [] else
        (List.range (L.outCols q.block)).map (fun j => (j, s.progWord c (L.bias + 4 * (512 * q.block + j))))
      let table := if L.activation = 7 then (List.range 256).map (s.layerTable c L) else []
      let s := s.modTile p (fun x =>
        { x with programming := true, records := [], measured := [], failedRows := [], inRing := [],
                 outRing := [], partials := [], flight := [], pool := [], version := [], pointer := [],
                 shadow := [], shadowB8 := [], queue := [], nextQueue := [], inPass := false,
                 paused := false, written := [], sCol := cols, bias := bias, actTable := table,
                 lowWindows := 0 })
      s.newOwner p
  | _, _ => s

/-- Spans of the half's HBM that a placement and a leave of HOLD read: the program and the tables. -/
def State.tableSpans (s : State) (c : Ctx) : List (Nat × Nat) :=
  let u := s.updateBase c.n
  [(s.val64 (cidx c.n) 0x07, s.val (cidx c.n) 0x09), (u, if u = 0 then 0 else updateBytes)] ++
    s.exchangeExtents c.n c.half 0 ++ c.layers.map (s.maskSpan c)

/-- The context takes what its placement gives it; the tiles are programmed by PLACEMENT_COMPLETE. -/
def State.takePlaces (s : State) (n : Nat) (q : Placed) : State :=
  match s.ctx n with
  | none => s
  | some c =>
    let c := { c with layers := q.layers, spill := q.spill, tensorCount := q.header.tensors, tiles := q.tiles }
    let s := s.setCtx { c with elems := if isCompanion s n then [] else s.initialElems c, rows := [] }
    let s := s.put (cidx n) 0x24 q.header.demand
    let s := (s.put (cidx n) 0x25 q.tiles.length).put (cidx n) 0x26 q.digital
    let s := (s.put64 (cidx n) 0x27 q.history).put64At n 0x5010 0x06 q.share
    ((List.range q.tiles.length).zip q.tiles).foldl (fun t e => t.takeTile c e.1 e.2) s

/-- Decides the residency of a placement under way; while the host holds lines of the program or the tables they are
back-invalidated and it waits (R65). -/
def State.decidePlaces (s : State) (n : Nat) : State :=
  match s.ctx n with
  | none => s
  | some c =>
    let held := s.heldIn c.half (s.tableSpans c)
    if !held.isEmpty then s.snoopLines c.half n held
    else
      match s.place c c.decls with
      | .error st => s.setCtx { c with placed := true, placeStatus := st }
      | .ok q => (s.setCtx { c with placed := true, placeStatus := 0 }).takePlaces n q

/-! ### Programming (R178, R322) -/

/-- Grid targets of a weight row of a placed tile: Q of each initial weight, 0 beyond the layer. -/
def State.initialTargets (s : State) (c : Ctx) (p : Nat) (q : Seat) (L : Layer) (row : Nat) :
    List (Nat × Int) :=
  (List.range 512).map (fun j =>
    (colElem j,
      if row < L.inRows q.row ∧ j < L.outCols q.block then
        (gridOf (s.initWeight c L (1024 * q.row + row) (512 * q.block + j)) ((s.tile p).scaleOf j)).1
      else 0))

/-- Writes one row of a logical tile until it verifies or is repaired (R176): on the unit that serves the tile now, which
a repair of an earlier row may have changed. -/
def State.programRow (s : State) (l row : Nat) (seen : List RowSeen) (targets : State → Nat → List (Nat × Int)) : State :=
  match s.physTile l with
  | some p =>
    (s.writeRowTwice p row ((s.tile p).wholePlan row (targets s p)) (measOf seen l row 0) (measOf seen l row 1) false).1
  | none => s

/-- The programming of a tile ends: its read-back goes into both shadow banks, and its hours since a full programming
start anew (R236). -/
def State.endProgramming (s : State) (l : Nat) : State :=
  match s.physTile l with
  | some p =>
    let s := (s.modTile p (fun t => { t with programming := false })).shadowAll p false
    (s.putAt l 0x4021 0x07 (shadowCoarse (s.tile p))).putAt p 0x2012 0x08 0
  | none => s

/-- Programs a tile of a placement to the targets given, rows in ascending order (R178). -/
def State.programTile (s : State) (c : Ctx) (seen : List RowSeen)
    (targets : State → Nat → Seat → Layer → Nat → List (Nat × Int)) (t l : Nat) : State :=
  match seatFrom c.layers 0 t with
  | some q =>
    match c.layers[q.layer]? with
    | some L => ((List.range 1024).foldl (fun x r => x.programRow l r seen (fun y p => targets y p q L r)) s).endProgramming l
    | none => s
  | none => s

/-- Program digest (R151) into sub-indices 0x0A to 0x11. -/
def State.digestProgram (s : State) (c : Ctx) : State :=
  let d := sha256Bytes (s.hbmRead c.half (s.val64 (cidx c.n) 0x07) (s.val (cidx c.n) 0x09))
  s.putsAt 0 (cidx c.n) 0x0A (bytesWords d)

/-- Repeat counts of the history records start again (R260). -/
def State.clearRepeats (s : State) (c : Ctx) : State :=
  (List.range c.tensorCount).foldl (fun t id => t.putHbm c.half (t.historyAt c.n id + 92) 4 0) s

/-- Reads the update and exchange tables (R336, R373). -/
def State.readTables (s : State) (n : Nat) : State :=
  match s.ctx n with
  | none => s
  | some c =>
    let x := s.readExchange n c.half
    let x := match x, c.exchange with
      | some a, some b => some { b with
          group := a.group, topK := a.topK, kshift := a.kshift, data := a.data, norm := a.norm,
          links := a.links }
      | a, _ => a
    s.setCtx { c with exchange := x, upd := { c.upd with table := s.readUpdate n c.half } }

/-- A leave of HOLD reads the tables anew, once the host holds none of their lines; tables out of order are not taken. -/
def State.rereadTables (s : State) (n : Nat) : State :=
  match s.ctx n with
  | none => s
  | some c =>
    let held := s.heldIn c.half (s.tableSpans c)
    if !c.reread then s
    else if !held.isEmpty then s.snoopLines c.half n held
    else
      let good := s.updateStatus n c.half c.layers == 0 && s.exchangeStatus n c.half (gradLength c) == 0
      let s := s.setCtx { c with reread := false }
      (if good then s.readTables n else s).readMasks n

/-- Placement ends: with its failure's status the context stays OPEN; else its tiles are programmed and
it is LOADED. -/
def State.endPlacement (s : State) (n : Nat) (seen : List RowSeen) : State :=
  match s.ctx n with
  | none => s
  | some c =>
    if c.placeStatus ≠ 0 then
      (s.setCtx { c with placing := false, placeStatus := 0 }).endPending (cidx n) 0x01 0 c.placeStatus
    else
      let s := ((List.range c.tiles.length).zip c.tiles).foldl (fun t e => t.programTile c seen (fun x => x.initialTargets c)
        e.1 e.2) s
      let s := (s.digestProgram c).clearRepeats c
      let s := (s.readTables n).readMasks n
      let m := s.stepOf n
      let s := (s.writeCopies n m).writeCopies n (m + 1)
      let s := s.noteFacts n
      let s := s.modCtx n (fun c => { c with state := stLoaded, placing := false, viaCopy := s.flag (cidx n) 0x05 3, watches := [],
                                             gradHist := [] })
      (s.endPending (cidx n) 0x01 0 0x0000).ctxEvent n evLoaded

/-- PLACEMENT_COMPLETE. -/
def execPlacementComplete (n : Nat) (seen : List RowSeen) (s : State) : Result :=
  onPower s (fun s =>
    match s.ctx n with
    | some c =>
      let s := if c.placing && !c.placed then s.decidePlaces n else s
      (match s.ctx n with
       | some c => if c.placing && c.placed then s.endPlacement n seen else s
       | none => s)
    | none => s)

end Sys2Proof.Machine
end

