-- ==== Sys2Proof/Machine/Contexts.lean ====
section
/-! DEFINITION. The state entry and the other actions of a context, its release, its claims, its events
and its stream (R139 to R149, R153, R157 to R161, R298). -/

namespace Sys2Proof.Machine

open Sys2Proof

/-! ### Opening (R139 to R141, R453, R466, R468) -/

/-- A context as OPEN leaves it. -/
def Ctx.opened (n : Nat) (h : HalfId) (conf : Bool) (session : Option Nat) (requester : List Byte)
    (key : BitVec 512) : Ctx :=
  { n := n, half := h, state := stOpen, confidential := conf, session := session, requester := requester, facts := [],
    memKey := key, layers := [], decls := [], tensorCount := 0, spill := [], tiles := [], placing := false,
    placed := false, placeStatus := 0, reread := false, phase := 0, todo := [], slots := [], nextStrand := 0, waits := false, snaps := [],
    stopAsked := false, wantHold := false, wantDone := false, holdAtSeal := false, releasing := false,
    resetting := false, attempt := 0, failedUnits := [], stepFailed := false, used := [], tensors := [], drained := [],
    watches := [], gradHist := [], triggers := [], stormRepeat := false, lastStorm := 0, rescales := 0,
    elems := [], rows := [], dW := [], dWDone := [], dWParts := [], scratch := [], viaCopy := false, masks := [], buckets := [], ownSeal := false, producer := 0,
    ended := false, exchange := none,
    commits := [], upd := { table := [], running := false, since := 0 },
    ledgerCodes := [], ledgerCoeff := [], ledgerCounts := [], ledgerStep := 0, ledgerDone := false, ledgerPrev := [],
    copyStep := none, copyWait := none,
    copySent := none, draftWarned := false, restore := none, losses := [], draws := 0,
    energy := 0, loss := f32Zero }

def State.session (s : State) (id : Nat) : Option Session := s.sec.sessions.find? (fun x => x.id == id)

/-- The session of a request is a TSP session of the half's function while that function is locked. -/
def State.tspSession (s : State) (via : Via) (h : HalfId) : Bool :=
  match via.session.bind s.session with
  | some x => x.tspFn == some (halfFn h) && (s.fn (halfFn h)).tspLocked
  | none => false

/-- OPEN of a FREE context. -/
def State.openCtx (s : State) (via : Via) (n : Nat) (h : HalfId) (conf : Bool) : Verdict :=
  if conf && (!s.tspSession via h || bitsOf (s.val 0x1002 0x03) 4 5 != 0) then .refuse 0x5001 0
  else if s.fenced h then .refuse 0x3004 0
  else if !s.runs h || s.retained then .refuse 0x3001 0
  else if !s.sec.entropyOk then .refuse 0x4002 0
  else
    let who := ((via.session.bind s.session).map (fun x => sha256Bytes x.requester)).getD []
    let c := Ctx.opened n h conf (if conf then via.session else none) (if conf then who else []) s.drawKey
    let s := (s.freeSkip 16).setCtx c
    .apply ((s.put (cidx n) 0x05 (if conf then 1 else 0)).noteFacts n)

/-! ### Loading (R151, R153, R287, R413) -/

/-- In probation a LOADED or RUN write serves canary contexts and those that allow suspect units only. -/
def State.probationBars (s : State) (n : Nat) : Bool :=
  s.flag 0x7021 0x01 0 && s.val (cidx n) 0x03 != 2 && !s.flag (cidx n) 0x05 4

/-- Status of a companion's LOADED write; 0 if it may load. An owner in the other half, or one that is a
companion itself, owns no tiles there and counts as not LOADED (assumption 29). -/
def State.companionStatus (s : State) (c : Ctx) : Nat :=
  if !isCompanion s c.n then 0
  else
    let o := s.val (cidx c.n) 0x06
    if exactE s c.n || ((s.ctx o).isSome && exactE s o) then 0x2003
    else match s.ctx o with
      | none => 0x3001
      | some w =>
        if w.half ≠ c.half ∨ isCompanion s o = true ∨ o = c.n ∨
            [stLoaded, stRun, stHold, stDone].contains w.state = false then 0x3001
        else if 3 ≤ ((s.companions o).filter (fun x => x.n != c.n && (decide (stLoaded ≤ x.state) || x.placing))).length
        then 0x4002
        else 0

def State.loadCtx (s : State) (c : Ctx) (decls : List TensorDecl) : Verdict :=
  if s.probationBars c.n then .counted 0x3001 (s.bump 0x7021 0x04)
  else
    let bad := s.companionStatus c
    if bad ≠ 0 then .refuse bad 0
    else .accept (.action (cidx c.n) 0x01 0) (Config.estimate (dkey 0 (cidx c.n) 0x01)) (fun s =>
      (s.setCtx { c with placing := true, placed := false, placeStatus := 0, decls := decls }).decidePlaces c.n)

/-! ### Running (R141, R147, R157) -/

/-- The batch of the next step is available (R157). -/
def State.batchReady (s : State) (c : Ctx) : Bool :=
  let done := s.val64 (cidx c.n) 0x4C
  decide (done + s.val (cidx c.n) 0x40 ≤ c.producer) || (c.ended && decide (done < c.producer))

/-- Flags bit 3 has been set since the last step began, and no update is under way that would write the copies of the next
step (R326). -/
def State.copyDue (s : State) (c : Ctx) : Bool :=
  s.flag (cidx c.n) 0x05 3 && !c.viaCopy && s.trains c.n && s.val64At c.n 0x5010 0x08 + 1 == s.stepOf c.n

/-- The step begins, once the weight copies that it is to read stand; lines of theirs that the host holds are
back-invalidated first. -/
def State.openStep (s : State) (n : Nat) : State :=
  match s.ctx n with
  | none => s
  | some c =>
    if s.copyDue c then
      let held := s.heldIn c.half (s.copySpans c (s.stepOf n))
      if held.isEmpty then (s.writeCopies n (s.stepOf n)).beginStep n else s.snoopLines c.half n held
    else s.beginStep n

/-- The next step begins, or waits for its batch; a stream that has ended with every record sealed
finishes the context (R159, DEDUCED where the end arrives after the last seal). -/
def State.tryStep (s : State) (n : Nat) : State :=
  match s.ctx n with
  | none => s
  | some c =>
    if c.state ≠ stRun ∨ c.phase ≠ 0 then s
    else if !s.streaming n then s.openStep n
    else if s.batchReady c then (s.put (cidx n) 0x4E 2).openStep n
    else if c.ended then (s.put (cidx n) 0x4E 3).enterDone n
    else s.put (cidx n) 0x4E 1

/-- RUN: h_host goes, tables are read anew on leaving HOLD, the step in progress resumes at its first
strand not yet issued, or the next step begins (R146, R148, R298, R336, R373). -/
def State.startRun (s : State) (n : Nat) : State :=
  match s.ctx n with
  | none => s
  | some c =>
    let s := s.clearReason n rHost
    let s := s.setCtx { c with state := stRun, stopAsked := false, wantHold := false, wantDone := false,
                               holdAtSeal := false, lastStorm := 0 }
    let s := (s.companions n).foldl (fun t x => t.clearReason x.n rOwner) s
    let s := if c.state = stHold then (s.modCtx n (fun c => { c with reread := true })).rereadTables n else s
    let s := if s.streaming n then s.readProducer c else s
    if c.phase = 0 then s.tryStep n else (s.fillSlots n).progress n 3

def State.runCtx (s : State) (c : Ctx) : Verdict :=
  let n := c.n
  let limit := s.val64 (cidx n) 0x14
  if s.probationBars n then .counted 0x3001 (s.bump 0x7021 0x04)
  else if c.state = stDone ∧ limit ≠ 0 ∧ limit ≤ s.val64 (cidx n) 0x12 then .refuse 0x3001 0
  else if c.state ≠ stDone ∧ s.deviceReasons n = true then .refuse 0x3001 0
  else .apply (s.wakeForRun.startRun n)

/-! ### Holding, finishing, releasing (R141, R144, R145, R153) -/

def holdCtx (c : Ctx) : Verdict :=
  .accept (.action (cidx c.n) 0x01 0) (Config.estimate (dkey 0 (cidx c.n) 0x01)) (fun s =>
    let s := (s.modCtx c.n (fun c => { c with wantHold := true })).setReason c.n rHost
    if c.state = stRun then
      if c.inFlight then s.modCtx c.n (fun c => { c with stopAsked := true }) else s.enterHold c.n
    else s.modCtx c.n (fun c => { c with stopAsked := true }))

/-- DONE. A step that HOLD stopped is discarded and retracted: a later RUN builds it anew (R147, DEDUCED). -/
def State.doneCtx (s : State) (c : Ctx) : Verdict :=
  if c.state = stLoaded ∨ c.state = stHold then
    .apply ((if c.phase = 0 then s else (s.discardRun c.n).retractAll c.n).enterDone c.n)
  else .accept (.action (cidx c.n) 0x01 0) (Config.estimate (dkey 0 (cidx c.n) 0x01)) (fun s =>
    s.modCtx c.n (fun c => { c with wantDone := true }))

/-- A release begins: no strand is issued any more, those in flight end and their results go, passes and
updates stop, companions fault. -/
def State.stopCtx (s : State) (n : Nat) (reset : Bool) : State :=
  let s := s.faultCompanions n
  let s := match s.ctx n with
    | some c => s.modHalf c.half (fun x => { x with updates := x.updates.filter (· != n) })
    | none => s
  let s := (s.tilesOf n).foldl (fun t l =>
    match t.physTile l with
    | some p => if isCompanion t n then t else
        (t.modTile p (fun x => { x with queue := [], nextQueue := [], inPass := false, paused := false })).putAt
          p 0x5020 0x06 0
    | none => t) s
  s.modCtx n (fun c =>
    { c.discard (fun _ => true) with
      releasing := true, resetting := c.resetting || reset, stopAsked := true, placing := false,
      wantHold := false, wantDone := false,
      commits := [], upd := { c.upd with running := false }, copyStep := none, copyWait := none })

def State.freeCtx (s : State) (c : Ctx) : Verdict :=
  if (s.companions c.n).any (·.going) then .refuse 0x3003 0
  else .accept (.action (cidx c.n) 0x01 0) (Config.estimate (dkey 0 (cidx c.n) 0x01)) (fun s =>
    s.stopCtx c.n false)

/-- The state entry (R140, R141). -/
def State.actState (s : State) (via : Via) (n : Nat) (w : Word) (decls : List TensorDecl) : Verdict :=
  let v := w.toNat
  let want := v % 16
  let conf := bitsOf v 9 1 == 1
  let hb := bitsOf v 8 1
  if 2 ^ 10 ≤ v ∨ bitsOf v 4 4 ≠ 0 then .refuse 0x2004 0
  else if 8 ≤ want then .refuse 0x2003 0
  else match s.ctx n with
  | none =>
    if want = stOpen then s.openCtx via n (halfOf hb) conf
    else if conf = true ∨ hb ≠ 0 then .refuse 0x2003 0
    else if want = stFree then .apply s
    else .refuse 0x3003 0
  | some c =>
    if conf = true ∨ hb ≠ halfNum c.half then .refuse 0x2003 0
    else if want = c.state then .apply s
    else if c.releasing then .refuse 0x3003 0
    else if want = stLoaded ∧ c.state = stOpen then s.loadCtx c decls
    else if want = stRun ∧ [stLoaded, stHold, stDone].contains c.state = true then s.runCtx c
    else if want = stHold ∧ c.going = true then holdCtx c
    else if want = stDone ∧ [stLoaded, stRun, stHold, stSealing].contains c.state = true then s.doneCtx c
    else if want = stFree ∧ [stOpen, stLoaded, stHold, stDone, stFault].contains c.state = true then
      s.freeCtx c
    else .refuse 0x3003 0

/-- The state entry as it reads (R140). -/
def State.stateEntry (s : State) (n : Nat) : Nat :=
  match s.ctx n with
  | some c => (if c.confidential then 512 else 0) + 256 * halfNum c.half + c.state
  | none => 0

/-- Reset (R144): any state but FREE; a pending state write does not stand in its way. -/
def State.actCtxReset (s : State) (n : Nat) (w : Word) : Verdict :=
  match s.ctx n with
  | none => .refuse 0x3003 0
  | some _ =>
    if w ≠ 1 then .refuse 0x2003 0
    else .accept (.action (cidx n) 0x2F 0) (Config.estimate (dkey 0 (cidx n) 0x2F)) (fun s => s.stopCtx n true)

/-- A tile of a released context goes back to the pool; a confidential one's is sanitized first (R145, R478). A spare that
served for it serves no longer, and is sanitized with it. -/
def State.releaseTile (s : State) (c : Ctx) (residual : List (Nat × Nat)) (l : Nat) : State :=
  let spare := lookup s.fabric.relocated l
  let s := (s.endRelocation l).putAt l 0x4021 0x04 0
  match s.physTile l with
  | none => s
  | some p =>
    let s := (s.modTile p (fun t => t.release c.n)).ringLevels p
    if c.confidential then (p :: spare.toList).foldl (fun t q => t.sanitizeTile residual q) s else s

/-- Release (R145): its vectors, its tiles, its claims zeroed, its key; the object returns to default and the context is
FREE. What waits on it ends. -/
def State.release (s : State) (n : Nat) (residual : List (Nat × Nat)) : State :=
  match s.ctx n with
  | none => s
  | some c =>
    let s := s.flushTiles n 0
    let s := if isCompanion s n then s else c.tiles.foldl (fun t l => t.releaseTile c residual l) s
    let s := s.zeroClaims c.half n
    let s := ((s.endPending (cidx n) 0x01 0 0x0000).endPending (cidx n) 0x2F 0 0x0000).endPending (cidx n) 0x30 0 0x3003
    let s := (s.endPending 0x7013 0x06 n 0x3003).dropCtxKeys n
    let own := fun (x : Snoop) => if x.ctx == some n then { x with ctx := none } else x
    { s with port := { s.port with snoops := s.port.snoops.map own },
             ctxs := s.ctxs.filter (fun x => x.n != n) }

/-- RELEASE_COMPLETE: the strands in flight have ended. A reset first retracts what was sent
provisional and ends a pending state write with 0x3003 (R144). `residual`: cells that stay above level 0 in the tiles
sanitized. -/
def execReleaseComplete (n : Nat) (residual : List (Nat × Nat)) (s : State) : Result :=
  onPower s (fun s =>
    match s.ctx n with
    | some c =>
      if c.releasing && !c.inFlight then
        let s := if c.resetting then (s.retractAll n).settle n false else s
        s.release n residual
      else s
    | none => s)

/-! ### Claims (R149) -/

/-- Claim words as spans of granules. -/
def spansOf (l : List Nat) : List (Nat × Nat) := l.map (fun w => (w / 65536, w % 65536))

def inSpans (l : List (Nat × Nat)) (g : Nat) : Bool := l.any (fun e => decide (e.1 ≤ g ∧ g < e.1 + e.2))

/-- Claim words of a context, with an accepted write that has not completed. -/
def State.claimWords (s : State) (n : Nat) : List Nat :=
  match s.pendingOn (cidx n) 0x30 0 with
  | some t => (match t.work with | .store _ _ _ ws => ws.map (·.toNat) | _ => [])
  | none => (List.range 16).map (fun j => s.val (cidx n) (0x30 + j))

/-- Granules that must stay claimed: program and scale history region. -/
def State.keptGranules (s : State) (c : Ctx) : List Nat :=
  let span := fun a len => (List.range ((a + len + granule - 1) / granule)).filter (fun g => a / granule ≤ g)
  span (s.val64 (cidx c.n) 0x07) (s.val (cidx c.n) 0x09) ++
    span (s.val64 (cidx c.n) 0x27) (128 * c.tensorCount)

/-- A granule is gained by claims that follow others. -/
def gains (old new : List (Nat × Nat)) (a : Nat) : Bool := inSpans new (a / granule) && !inSpans old (a / granule)

/-- Lines of gained granules that the host holds. -/
def State.gainedHeld (s : State) (h : HalfId) (old new : List (Nat × Nat)) : List Nat :=
  (s.dir h).filter (fun l => gains old new (l * 64))

/-- A write of claim elements from element `j` on; it back-invalidates what the host holds of the granules gained. -/
def State.actClaims (s : State) (n j : Nat) (ws : List Word) : Verdict :=
  let old := (List.range 16).map (fun j => s.val (cidx n) (0x30 + j))
  let new := old.take j ++ ws.map (·.toNat) ++ old.drop (j + ws.length)
  let spans := spansOf new
  if spans.any (fun e => decide (49152 < e.1 + e.2)) then .refuse 0x2001 0
  else if spans.any (fun e => e.2 == 0 && e.1 != 0) || !allApart spans then .refuse 0x2003 0
  else match s.ctx n with
  | none => .refuse 0x3003 0
  | some c =>
    let others := (s.ctxs.filter (fun x => x.half == c.half && x.n != n)).flatMap (fun x =>
      spansOf (s.claimWords x.n))
    if spans.any (fun a => others.any (fun b => !apart a b)) then .refuse 0x2003 0
    else if !([stOpen, stLoaded, stHold].contains c.state) then .refuse 0x3003 0
    else if (c.state == stLoaded || c.state == stHold) &&
        (s.keptGranules c).any (fun g => inSpans (spansOf old) g && !inSpans spans g) then .refuse 0x3003 0
    else .accept (.store (cidx n) 0x30 0 (new.map toWord)) (Config.estimate (dkey 0 (cidx n) 0x30))
      (fun s => s.snoopLines c.half n (s.gainedHeld c.half (spansOf old) spans))

/-- CLAIM_COMPLETE: the granules gained have been back-invalidated and are zeroed; the claim stands. While the host holds
lines of them it does not complete (R149). -/
def execClaimComplete (n : Nat) (s : State) : Result :=
  onPower s (fun s =>
    match s.ctx n, s.pendingOn (cidx n) 0x30 0 with
    | some c, some t =>
      match t.work with
      | .store _ _ _ ws =>
        let old := s.claims n
        let new := spansOf (ws.map (·.toNat))
        let held := s.gainedHeld c.half old new
        if !held.isEmpty then s.snoopLines c.half n held
        else
        let s := s.unpoison c.half (fun l => gains old new (l * 64))
        let s := s.setHbm c.half (Sparse.drop (gains old new) (s.hbm c.half))
        (s.putsAt 0 (cidx n) 0x30 ws).endTicket t.num 0x0000
      | _ => s
    | _, _ => s)

/-! ### Events and numerics (R161, R298, R302) -/

def State.actAck (s : State) (n : Nat) (w : Word) : Verdict :=
  if 128 ≤ w.toNat then .refuse 0x2004 0
  else match s.ctx n with
    | none => .refuse 0x3003 0
    | some _ => .apply (s.putAt 0 (cidx n) 0x1F (s.reg (cidx n) 0x1F &&& ~~~w))

/-- Clears what the norm watch keeps of a context. -/
def State.resetWatches (s : State) (n : Nat) : State :=
  (s.modCtx n (fun c => { c with watches := [] })).dropKeys (fun k =>
    keyIndex k == 0x3031 && keyUnit k / 2 ^ 36 == n && decide (0x04 ≤ keySub k))

/-- Release of a numerics hold. -/
def State.actNumerics (s : State) (n : Nat) (w : Word) : Verdict :=
  if w ≠ 1 ∧ w ≠ 2 then .refuse 0x2003 0
  else if s.ctxState n = stHold ∧ s.hasReason n rNumerics = true then
    let s := (s.clearReason n rNumerics).putAt n 0x3032 0x04 0
    let s := (s.putAt n 0x3032 0x03 0).modCtx n (fun c => { c with lastStorm := 0 })
    .apply (if w = 2 then s.resetWatches n else s)
  else .refuse 0x3001 0

/-! ### Streams (R157, R159) -/

/-- PRODUCER_UPDATE: the half has read the producer line, which is in its partition from now on (a clean line is kept
without its bytes, which the half has taken). -/
def execProducerUpdate (n : Nat) (value : BitVec 64) (s : State) : Result :=
  onPower s (fun s =>
    match s.ctx n with
    | none => s
    | some c =>
      let count := value.toNat % 2 ^ 63
      let ends := value.getLsbD 63
      if !s.streaming n || c.releasing || !(c.going || c.state == stHold) then s
      else
      let s := s.fillLine c.half (lineStart (s.val64 (cidx n) 0x45)) false []
      if count < c.producer ∨ 2 ^ s.val (cidx n) 0x43 < count - s.val64 (cidx n) 0x4C then
        s.enterFault n rStream
      else (s.setCtx { c with producer := count, ended := ends }).tryStep n)

/-- STREAM_WAIT_TIMEOUT: the stream has waited more than 1 ms for a batch (R161). -/
def execStreamWaitTimeout (n : Nat) (s : State) : Result :=
  onPower s (fun s =>
    if s.ctxState n = stRun ∧ s.val (cidx n) 0x4E = 1 then s.ctxEvent n evWait else s)

end Sys2Proof.Machine
end

