-- ==== Sys2Proof/Machine/Swizeoth.lean ====
section
/-! DEFINITION. Swizeoth: the schedule, the update of masters and moments, the choice of rows, transfer
passes and the write budget governor (chapter 13). -/

namespace Sys2Proof.Machine

open Sys2Proof

/-! ### Trained elements (R374, R329, R342) -/

/-- Weights of a layer in gradient vector order: index, input, output. -/
def layerWeights (c : Ctx) (k : Nat) (L : Layer) : List (Nat × Nat × Nat) :=
  if L.digital then
    (List.range L.nIn).flatMap (fun i => (List.range L.nOut).map (fun j => (weightIndex c k i j, i, j)))
  else
    (List.range (L.tileRows * L.blocks)).flatMap (fun t =>
      (List.range (L.inRows (t % L.tileRows))).flatMap (fun r =>
        (List.range (L.outCols (t / L.tileRows))).map (fun q =>
          let i := 1024 * (t % L.tileRows) + r
          let j := 512 * (t / L.tileRows) + q
          (weightIndex c k i j, i, j))))

/-- Elements of a layer that are updated: index, and whether it is a bias, γ or β. -/
def layerTrained (c : Ctx) (k : Nat) (L : Layer) : List (Nat × Bool) :=
  match L.kind with
  | 0 =>
    (if masterLayer c.layers k = k then
      ((layerWeights c k L).filter (fun e => !c.frozen k L e.2.1 e.2.2)).map (fun e => (e.1, false))
     else []) ++
    (if L.digital && L.bias != 0 && !L.noDW then
      (List.range L.nOut).map (fun j => (biasIndex c k j, true)) else [])
  | 1 =>
    if L.noDW then []
    else (List.range L.nOut).map (fun j => (gammaIndex c k j, true)) ++
      (List.range L.nOut).map (fun j => (biasIndex c k j, true))
  | _ => []

/-- Indices of every trained element that is not frozen, ascending. -/
def trainedIdx (c : Ctx) : List Nat :=
  ((List.range c.layers.length).zip c.layers).flatMap (fun e => (layerTrained c e.1 e.2).map (·.1))

def gradAt (g : List (Nat × Word)) (i : Nat) : Word := Sparse.get (fun _ => f32Zero) g i

/-! ### The global norm (R340) -/

/-- Gradient scale of a table; 1 where the context has none. -/
def gscaleOf (t : List Byte) : Word := if t.isEmpty then f32One else tableWord t 8

/-- ref_sum of the squares of scaled gradient elements. -/
def squareSum (t : List Byte) (l : List Word) : Word :=
  refSum (l.map (fun g => fmul (fmul g (gscaleOf t)) (fmul g (gscaleOf t))))

def clipFactor (clip g : Word) : Word := if f32IsZero clip || fle g clip then f32One else fdiv clip g

/-! ### The schedule (R338) -/

def f32Pi : Word := 0x40490FDB

/-- Length of the restart period in which `tau` falls, and the steps into it. -/
def restart (mult : Nat) : Nat → Nat → Nat → Nat × Nat
  | 0, tau, len => (tau, len)
  | k + 1, tau, len =>
    if len ≤ tau then restart mult k (tau - len) (min (len * mult) (2 ^ 64 - 1)) else (tau, len)

/-- Half a cosine wave: 0.5 × (1 ± cos(pi × x)). -/
def halfCos (x : Word) (plus : Bool) : Word :=
  let y := Config.cos (fmul f32Pi x)
  fmul f32Half (if plus then fadd f32One y else fsub f32One y)

/-- η of step `t` under a table's schedule. -/
def sched (t : List Byte) (step : Nat) : Word :=
  let eta := tableWord t 4
  let wu := tableField t 12 4
  let warm := tableField t 16 1
  let frac := fdiv (f32OfNat step) (f32OfNat wu)
  if warm ≠ 0 ∧ step ≤ wu then fmul eta (if warm = 1 then frac else halfCos frac false)
  else
    let tau := step - 1 - (if warm ≠ 0 then wu else 0)
    let tr := tableField t 36 4
    let p := tableField t 20 4
    let gamma := tableWord t 24
    let rmin := tableWord t 28
    let q := if tr = 0 then (tau, tableField t 32 4) else restart (tableField t 18 2) (tau + 1) tau tr
    let tau := q.1
    let dc := q.2
    let decay := match tableField t 17 1 with
      | 0 => f32One
      | 1 => Config.pow gamma (f32OfNat (tau / p))
      | 2 => Config.pow gamma (fdiv (f32OfNat tau) (f32OfNat p))
      | 3 => fadd rmin (fmul (fsub f32One rmin)
          (halfCos (fdiv (f32OfNat (min tau dc)) (f32OfNat dc)) true))
      | _ => fsqrt (fdiv (f32OfNat p) (f32OfNat (min (tau + p) (2 ^ 64 - 1))))
    fmul eta (fmax rmin decay)

/-! ### Groups and elements (R339, R341) -/

/-- Per-step scalars of a group. -/
structure GroupStep where
  rule : Nat
  eta : Word
  decay : Word
  step : Word
  b1 : Word
  b2 : Word
  om1 : Word
  om2 : Word
  eps : Word
  clip : Word
  gflags : Nat

def groupStep (t : List Byte) (g step : Nat) (eta : Word) : GroupStep :=
  let a := 64 + 32 * g
  let rule := tableField t (a + 24) 1
  let fl := tableField t (a + 25) 1
  let b1 := tableWord t (a + 8)
  let b2 := tableWord t (a + 12)
  let eg := fmul eta (tableWord t a)
  let n := f32OfNat step
  { rule := rule, eta := eg, decay := fmul eg (tableWord t (a + 4)),
    step := if rule = 1 ∧ fl % 2 = 1 then
      fdiv (fmul eg (fsqrt (fsub f32One (Config.pow b2 n)))) (fsub f32One (Config.pow b1 n)) else eg,
    b1 := b1, b2 := b2, om1 := fsub f32One b1, om2 := fsub f32One b2, eps := tableWord t (a + 16),
    clip := tableWord t (a + 20), gflags := fl }

/-- sign(±0) = 0; a NaN stays one. -/
def fsign (c : Word) : Word :=
  if f32IsNaN c then c else if f32IsZero c then f32Zero else if f32Neg c then fneg f32One else f32One

/-- One element under its group, and whether it was clipped. -/
def updateElem (q : GroupStep) (gscale k : Word) (plain : Bool) (e : Elem) (g : Word) : Elem × Bool :=
  let g := fmul (fmul g gscale) k
  let clips := flt f32Zero q.clip
  let cut := clips && (flt q.clip g || flt g (fneg q.clip))
  let g := if clips then fmin (fmax g (fneg q.clip)) q.clip else g
  let d := if plain && q.gflags / 2 == 1 then f32Zero else q.decay
  let w := fsub e.master (fmul d e.master)
  match q.rule with
  | 0 =>
    let m := fadd (fmul q.b1 e.m1) g
    ({ master := fsub w (fmul q.eta m), m1 := m, m2 := e.m2 }, cut)
  | 1 =>
    let m := fadd (fmul q.b1 e.m1) (fmul q.om1 g)
    let v := fadd (fmul q.b2 e.m2) (fmul q.om2 (fmul g g))
    ({ master := fsub w (fmul q.step (fdiv m (fadd (fsqrt v) q.eps))), m1 := m, m2 := v }, cut)
  | _ =>
    let c := fadd (fmul q.b1 e.m1) (fmul q.om1 g)
    let m := fadd (fmul q.b2 e.m1) (fmul q.om2 g)
    ({ master := fsub w (fmul q.eta (fsign c)), m1 := m, m2 := e.m2 }, cut)

/-- Instance of a context and a group in 0x5011. -/
def groupInst (n g : Nat) : Nat := n * 2 ^ 18 + g

/-- Updates one layer's elements and counts the clipped ones. -/
def State.updateLayer (s : State) (n step : Nat) (eta k : Word) (layer : Nat) : State :=
  match s.ctx n with
  | none => s
  | some c =>
    match c.layers[layer]? with
    | none => s
    | some L =>
      let t := c.upd.table
      let g := groupOf t layer
      let q := groupStep t g step eta
      let grad := ((c.commits.head?).map (·.grad)).getD []
      let r := (layerTrained c layer L).foldl (fun (a : List (Nat × Elem) × Nat) e =>
        let u := updateElem q (gscaleOf t) k e.2 (c.elem e.1) (gradAt grad e.1)
        (Sparse.set elemDefault a.1 e.1 u.1, a.2 + (if u.2 then 1 else 0))) (c.elems, 0)
      (s.setCtx { c with elems := r.1 }).addAt (groupInst n g) 0x5011 0x05 r.2

/-! ### Choosing rows (R344 to R346) -/

/-- Targets of a weight row of the tile at seat `q` from the masters, and how many were clamped. Frozen
weights keep theirs. -/
def State.rowTargets (s : State) (c : Ctx) (p : Nat) (q : Seat) (L : Layer) (row : Nat) :
    List (Nat × Int) × Nat :=
  let t := s.tile p
  let i := 1024 * q.row + row
  let m := masterLayer c.layers q.layer
  let l := (List.range (L.outCols q.block)).map (fun j =>
    let col := 512 * q.block + j
    if c.frozen q.layer L i col then (colElem j, recTarget (t.record row (colElem j)), false)
    else
      let g := gridOf (c.elem (weightIndex c m i col)).master (t.scaleOf j)
      (colElem j, g.1, g.2))
  (l.map (fun e => (e.1, e.2.1)), (l.filter (fun e => e.2.2)).length)

/-- Weights whose predicted minor passes the carry limit. -/
def carries (t : Tile) (row limit : Nat) (targets : List (Nat × Int)) : List Nat :=
  (targets.filter (fun e =>
    let r := t.record row e.1
    recTarget r != e.2 && decide ((limit : Int) < (recMinor r + (e.2 - recTarget r)).natAbs))).map (·.1)

/-- Decides one row of a tile after its update: queued, replaced, put off, or left. -/
def State.decideRow (s : State) (c : Ctx) (p : Nat) (q : Seat) (L : Layer) (step row : Nat) : State :=
  let t := s.tile p
  let r := s.rowTargets c p q L row
  let all := withChecks t row r.1
  let s := (s.addAt c.n 0x5010 0x13 r.2).add64 (pick c.half 0x5001 0x5002) 0x0C r.2
  let theta := max (s.valAt c.n 0x5010 0x05) (s.valAt p 0x5020 0x02)
  let delta := (all.map (fun e => (e.2 - recTarget (t.record row e.1)).natAbs)).foldl max 0
  if delta < theta then s
  else
    let job : RowJob := { ctx := c.n, row := row, step := step, targets := all,
                          carry := carries t row (s.val 0x5000 0x04) all }
    if t.queue.any (fun j => j.row == row) then
      (s.modTile p (fun t => { t with queue := t.queue.map (fun j => if j.row = row then job else j) })).bumpAt
        p 0x5020 0x0E
    else if t.inPass && t.written.contains row then
      if t.nextQueue.any (fun j => j.row == row) then
        (s.modTile p (fun t => { t with
          nextQueue := t.nextQueue.map (fun j => if j.row = row then job else j) })).bumpAt p 0x5020 0x0E
      else s.modTile p (fun t => { t with nextQueue := t.nextQueue ++ [job] })
    else s.modTile p (fun t => { t with queue := t.queue ++ [job] })

/-- Rows that wait in a tile's queues (0x5020.07). -/
def State.showQueue (s : State) (p : Nat) : State :=
  s.putAt p 0x5020 0x07 (toWord ((s.tile p).queue.length + (s.tile p).nextQueue.length))

/-- Decides every row of a layer's tiles, in placement order. -/
def State.decideLayer (s : State) (n step layer : Nat) : State :=
  match s.ctx n with
  | none => s
  | some c =>
    match c.layers[layer]? with
    | none => s
    | some L =>
      (List.range L.tileCount).foldl (fun t k =>
        match c.tiles[firstPlace c.layers layer + k]? with
        | none => t
        | some l =>
          match t.physTile l with
          | none => t
          | some p =>
            let q : Seat := { layer := layer, block := k / L.tileRows, row := k % L.tileRows }
            ((List.range (L.inRows q.row)).foldl (fun t r => t.decideRow c p q L step r) t).showQueue p) s

/-! ### The update (R340, R343) -/

/-- A context's update may begin: its gradient is committed, S is known, none of it runs. -/
def Ctx.updateReady (c : Ctx) : Bool :=
  match c.commits with
  | k :: _ => k.whole && k.sum.isSome && !c.upd.running
  | [] => false

/-- The context's update is over for step `t`. -/
def State.updateDone (s : State) (n t : Nat) : State :=
  match s.ctx n with
  | none => s
  | some c =>
    let s := s.modHalf c.half (fun x => { x with updates := x.updates.erase n })
    let s := s.setCtx { c with commits := c.commits.drop 1,
                               losses := c.losses.filter (fun e => decide (t < e.1)), upd := { c.upd with running := false } }
    s.put64At n 0x5010 0x08 t

/-- UPDATE_START: G and k, then η and the groups' step sizes; an update whose S is not finite is
skipped, and so is that of a replayed step that fails its check. The copy of the step before gets its
trailer and a drafted step opens its own. Swizeoth takes one context at a time, in the order in which their gradients committed. -/
def execUpdateStart (n : Nat) (s : State) : Result :=
  onPower s (fun s =>
    match s.ctx n with
    | none => s
    | some c =>
      let first := (s.half c.half).updates.find? (fun m =>
        match s.ctx m with | some x => x.updateReady | none => false)
      if !s.runs c.half || !s.awake || c.releasing || first != some n ||
          s.ctxs.any (fun x => x.half == c.half && x.upd.running) then s
      else
        match c.commits.head?.map (·.step), c.commits.head?.bind (·.sum) with
        | some t, some sum =>
          let i := pick c.half 0x5001 0x5002
          let g := fsqrt sum
          let s := (s.putAt n 0x5010 0x0A g).sendTrailer n t g
          let r := s.replayCheck n t g
          let s := r.1
          if !f32Finite sum || !r.2 then
            let s := (s.bumpAt n 0x5010 0x0D).bump i 0x08
            let s := s.log { cls := clsWarning, unit := unitSwizeoth c.half, ctx := n, step := t,
                             obj := counter 0x5010 0x0D }
            s.updateDone n t
          else
            let k := clipFactor (s.regAt n 0x5010 0x04) g
            let tb := c.upd.table
            let eta := if tb.isEmpty then f32Zero else sched tb t
            let s := (s.putAt n 0x5010 0x0B k).putAt n 0x5010 0x0C eta
            let s := (List.range (if tb.isEmpty then 0 else tableField tb 40 2)).foldl (fun s j =>
              (s.putAt (groupInst n j) 0x5011 0x04 (groupStep tb j t eta).eta).putAt (groupInst n j) 0x5011
                0x05 0) s
            let s := s.modCtx n (fun c => { c with upd := { c.upd with running := true, since := s.count } })
            s.openCopy n t
        | _, _ => s)

/-- UPDATE_COMPLETE: elements in descending program order, candidate rows queued, weight copies for the
next step; without an update table nothing is updated (assumption 27). While the host holds lines of the copies they
are back-invalidated and the update goes on (R65). -/
def execUpdateComplete (n : Nat) (s : State) : Result :=
  onPower s (fun s =>
    match s.ctx n with
    | none => s
    | some c =>
      match c.upd.running, c.commits.head?.map (·.step) with
      | true, some t =>
        if !s.runs c.half then s
        else
        let held := s.heldIn c.half (s.copySpans c (t + 1))
        if !held.isEmpty then s.snoopLines c.half n held
        else
        let i := pick c.half 0x5001 0x5002
        let order := (List.range c.layers.length).reverse
        let s := if c.upd.table.isEmpty then s
          else
            let s := order.foldl (fun s k =>
              s.updateLayer n t (s.regAt n 0x5010 0x0C) (s.regAt n 0x5010 0x0B) k) s
            order.foldl (fun s k => s.decideLayer n t k) s
        let s := (s.writeCopies n (t + 1)).streamCopy n
        let s := (s.add64 i 0x06 1).put64 i 0x0A (s.since c.upd.since)
        s.updateDone n t
      | _, _ => s)

/-! ### Transfer passes (R323, R324, R347 to R349) -/

/-- A spare serves a tile's address for a step, or the tile is that spare: rows to be transferred wait (R511). -/
def State.relocatedTile (s : State) (p : Nat) : Bool :=
  s.fabric.relocated.any (fun e => e.2 == p || s.addressMap.phys e.1 == some p)

/-- TRANSFER_PASS_START: rows wait, no pass runs, no snapshot of the previous pass is held. -/
def execTransferPassStart (tile : Nat) (s : State) : Result :=
  onPower s (fun s =>
    let t := s.tile tile
    let l := s.logicalOr tile
    if !s.runs (halfOf (tileHalf tile)) || !s.awake || t.queue.isEmpty || t.inPass || t.programming || s.relocatedTile tile then s
    else if s.valAt l 0x4021 0x04 != 0 then s.putAt tile 0x5020 0x06 3
    else
      let s := s.modTile tile (fun t =>
        { t with version := [], written := [], inPass := true, paused := false, owed := 0 })
      let s := (s.bumpAt l 0x4021 0x02).putAt l 0x4021 0x03 0
      s.putAt tile 0x5020 0x06 1)

/-- Swizeoth receives a row's report: counts and the row header (R334, R347 phase T4). -/
def State.rowReport (s : State) (p : Nat) (j : RowJob) : State :=
  let h := halfOf (tileHalf p)
  let l := s.logicalOr p
  let n := j.carry.length
  let s := (s.add64 (pick h 0x5001 0x5002) 0x0E 1).add64At p 0x5020 0x08 1
  let s := ((s.add64At p 0x5020 0x0A n).add64At j.ctx 0x5010 0x0F 1).add64At j.ctx 0x5010 0x11 n
  s.modCtx j.ctx (fun c =>
    let w := match c.rows.find? (fun r => r.tile == l && r.row == j.row) with
      | some r => r.writes
      | none => 0
    let r : RowRec := { tile := l, row := j.row, lastStep := j.step, writes := w + 1 }
    { c with rows := replaceBy (fun x => x.tile == l && x.row == j.row) r c.rows })

/-- The queue of a pass is empty: it ends, and the rows put off wait for the next. -/
def State.passEnds (s : State) (p : Nat) : State :=
  let t := s.tile p
  if t.queue.isEmpty then
    (s.modTile p (fun t => { t with inPass := false, paused := false, owed := 0, queue := t.nextQueue,
                                    nextQueue := [], written := [] })).putAt p 0x5020 0x06 0
  else s

/-- TRANSFER_ROW_COMPLETE: the row write-verify of a queued row ends. It never runs while a forward
strand is in flight on the tile. A row that missed its tolerance is written once more, then repaired as a row of the
pass; a tile retired for it leaves its queue to its replacement, for a new pass (R349). -/
def execTransferRowComplete (tile row : Nat) (meas : RowMeas) (s : State) : Result :=
  onPower s (fun s =>
    let t := s.tile tile
    match t.queue.find? (fun j => j.row == row) with
    | none => s
    | some j =>
      if !t.inPass || !s.rowFree tile || s.relocatedTile tile then s
      else
        let l := s.logicalOr tile
        let q := s.writeRow tile row (t.changePlan row j.targets j.carry.contains) meas true
        let s := if q.2 = .passed then q.1.passShadow tile row else q.1
        let p := (s.physTile l).getD tile
        let s := (s.modTile p (fun t => { t with paused := false, owed := t.owed - 1 })).putAt p 0x5020 0x06 1
        if q.2 = .again then s
        else
          let s := (s.rowReport p j).modTile p (fun t =>
            { t with queue := t.queue.filter (fun x => x.row != row), written := t.written ++ [row] })
          if p = tile then (s.passEnds p).showQueue p
          else
            let s := s.modTile p (fun t => { t with inPass := false, written := [],
                                                    queue := t.queue ++ t.nextQueue, nextQueue := [] })
            (s.putAt p 0x5020 0x06 0).showQueue p)

/-! ### The governor (R350, R351) -/

/-- GOVERNOR_EVALUATE: the window's largest count of write-verifies of one row against the allowed rate,
compared as exact ratios. -/
def execGovernorEvaluate (tile hottest : Nat) (s : State) : Result :=
  onPower s (fun s =>
    let h := halfOf (tileHalf tile)
    match (s.fabric.logical tile).bind s.ownerOf with
    | none => s
    | some c =>
      if !s.runs h || exactE s c.n then s
      else
        let top := s.valAt tile 0x4001 0x12
        let life := max (s.val 0x5030 0x01 - s.valAt tile 0x5020 0x03) (s.val 0x5030 0x05)
        let win := s.val 0x5030 0x02
        let theta := s.valAt tile 0x5020 0x02
        let rate := hottest * 3600 * life
        let allowed := (1000000 - top) * win
        let s := (s.putAt tile 0x5020 0x04 (toWord ((1000000 - top) / life))).putAt tile 0x5020 0x05
          (toWord (hottest * 3600 / win))
        let low := decide (2 * rate ≤ allowed ∧ 1 < theta)
        let runs := if low then (s.tile tile).lowWindows + 1 else 0
        let down := decide (s.val 0x5030 0x03 ≤ runs) && low
        let theta' := if allowed < rate then min 16 (theta + 1) else if down then theta - 1 else theta
        let s := s.modTile tile (fun t => { t with lowWindows := if down then 0 else runs })
        let s := s.putAt tile 0x5020 0x02 (toWord theta')
        let s := (s.putBitAt tile 0x5020 0x0D 0 (decide (1 < theta'))).putBitAt tile 0x5020 0x0D 1
          (decide (allowed < rate ∧ theta = 16))
        let s := if allowed < rate ∧ theta = 16 then
            s.log { cls := clsWarning, unit := unitTile tile, obj := counter 0x5020 0x0D }
          else if theta' ≠ theta then
            s.log { cls := clsInformation, unit := unitTile tile, obj := counter 0x5020 0x02 }
          else s
        s.noteEndurance tile)

end Sys2Proof.Machine
end

