-- ==== Sys2Proof/Machine/Exchange.lean ====
section
/-! DEFINITION. Exchange groups: contributions, tensors, seals, retracts, commits, gathers and the fused
norm (R373 to R387). -/

namespace Sys2Proof.Machine

open Sys2Proof

/-! ### Operations on a context's exchange -/

def State.modExchange (s : State) (n : Nat) (f : Exchange → Exchange) : State :=
  s.modCtx n (fun c => { c with exchange := c.exchange.map f })

/-- Exchange state register (0x6010.04). -/
def State.exState (s : State) (n v : Nat) : State := s.putAt n 0x6010 0x04 (toWord v)

/-- Last committed step. -/
def State.committed (s : State) (n : Nat) : Nat := s.val64At n 0x6010 0x05

def State.protocolError (s : State) (n : Nat) : State := s.bumpAt n 0x6010 0x0E

/-- Attempt that the next sending of an item of a step takes (R382). -/
def nextAttempt (x : Exchange) (step cls item : Nat) : Nat :=
  let l := (x.past.filter (fun e => e.1 == step && e.2.1 == cls && e.2.2.1 == item)).map (fun e => e.2.2.2 + 1)
  l.foldl max 0

/-- Sends an item to a position: it is kept for seals and refusals. -/
def State.sendItem (s : State) (n dest cls step item attempt : Nat) (data : List Byte) : State :=
  let i : Item := { src := dest, step := step, cls := cls, item := item, attempt := attempt, data := data }
  let s := s.handItem n dest cls step item attempt data
  let s := s.modExchange n (fun x => { x with sent := x.sent ++ [i] })
  let s := if s.valAt n 0x6010 0x07 < attempt then s.putAt n 0x6010 0x07 (toWord attempt) else s
  match s.ctx n with
  | some c =>
    s.add64 (collIndex c.half) (match cls with | 2 => 0x01 | 3 => 0x03 | _ => 0x05) data.length
  | none => s

/-! ### Buckets (R374 to R380) -/

/-- Index range that a layer's own elements take in the gradient vector. -/
def layerRange (c : Ctx) (k : Nat) (L : Layer) : Nat × Nat :=
  if L.digital then (elemBase c k, elemBase c k + L.elems)
  else (firstPlace c.layers k * 524288, (firstPlace c.layers k + L.tileCount) * 524288)

/-- The layer's dW is finished, that of every member of its tie group included. -/
def Ctx.dWFinished (c : Ctx) (k : Nat) : Bool :=
  (tieMembers c.layers k).all (fun j =>
    match c.layers[j]? with
    | some L => decide (2 ≤ L.kind) || L.noDW || c.dWDone.contains j
    | none => true)

/-- Every element of a bucket is finished. -/
def Ctx.bucketReady (c : Ctx) (b : Nat) : Bool :=
  let n := gradLength c
  let lo := bucketLo n b
  let hi := lo + bucketLen n b
  ((List.range c.layers.length).zip c.layers).all (fun e =>
    let r := layerRange c e.1 e.2
    decide (r.2 ≤ lo) || decide (hi ≤ r.1) || c.dWFinished e.1)

def Ctx.bucketValues (c : Ctx) (b : Nat) : List Word :=
  let n := gradLength c
  (List.range (bucketLen n b)).map (fun i => gradAt c.dW (bucketLo n b + i))

/-- First element and length of shard `j` of a bucket. -/
def shardSpan (n b m j : Nat) : Nat × Nat :=
  let l := shardLen n b m
  let len := bucketLen n b
  (min (j * l) len, min ((j + 1) * l) len - min (j * l) len)

/-- A shard in K8 under the bucket's coarse scale: codes, B8, c_b, four zero bytes. -/
def shardK8 (coarse : Word) (l : List Word) : List Byte :=
  let blocks := (List.range (ceilDiv l.length 32)).map (fun k =>
    let xs := (l.drop (32 * k)).take 32
    convBlock .k8 coarse false xs (xs.map (fun _ => none)))
  (blocks.flatMap (fun b => b.codes)).map (fun c => BitVec.ofNat 8 c) ++
    blocks.map (fun b => BitVec.ofNat 8 b.scale) ++ wordBytes coarse ++ natBytes 4 0

/-- Coarse scale of a bucket: the largest finite |g| ÷ 480, 1 if that is 0 (R376). -/
def bucketCoarse (l : List Word) : Word :=
  let m := runMax l
  if f32IsZero m then f32One else fdiv m (f32OfNat 480)

/-- Leaf `i` of a K8 contribution of `len` elements (R377). -/
def leafK8 (data : List Byte) (len i : Nat) : Word :=
  let a := Fmt.k8.decode (fieldAt data i 1)
  let b := fieldAt data (len + i / 32) 1
  let f := if b = 0xFF then f32NaN else b8Val b
  fmul (fmul a f) (toWord (fieldAt data (len + ceilDiv len 32) 4))

/-- Decodes binary16. -/
def half16 (c : Nat) : Word :=
  let m := c % 2 ^ 15
  if 0x7C00 < m then f32NaN
  else if m = 0x7C00 then f32Inf (decide (2 ^ 15 ≤ c))
  else f32Round (decide (2 ^ 15 ≤ c)) (codeUnits 10 m * 2 ^ 125) 1

/-- Encodes binary16, to nearest even. -/
def toHalf16 (w : Word) : Nat :=
  let sign := if f32Neg w then 2 ^ 15 else 0
  if f32IsNaN w then 0x7E00
  else if f32IsInf w then sign + 0x7C00
  else sign + min 0x7C00 (codeNear 10 (f32Units w) (2 ^ 125))

/-- Elements of a bucket that the top-k path sends: the largest |v|, ties to the lower index. -/
def topIdx (l : List Word) (k : Nat) : List Nat :=
  let e := (List.range l.length).zip l
  let best := e.mergeSort (fun a b => decide (f32Mag b.2 < f32Mag a.2) ||
    (f32Mag a.2 == f32Mag b.2 && decide (a.1 ≤ b.1)))
  ((best.take k).map (·.1)).mergeSort (fun a b => decide (a ≤ b))

/-- Entries of 6 bytes: index in the bucket, K16 value. -/
def entryBytes (l : List (Nat × Nat)) : List Byte := l.flatMap (fun e => natBytes 4 e.1 ++ natBytes 2 e.2)

def entriesOf : Nat → List Byte → List (Nat × Nat)
  | 0, _ => []
  | k + 1, l => (fieldAt l 0 4, fieldAt l 4 2) :: entriesOf k (l.drop 6)

/-- Keeps an item that arrived. A lower attempt than one held is not kept (R385). -/
def Exchange.keep (x : Exchange) (i : Item) : Exchange :=
  if x.held.any (fun h => h.src == i.src && h.step == i.step && h.cls == i.cls && h.item == i.item &&
      decide (i.attempt ≤ h.attempt)) then x
  else { x with held := x.held ++ [i] }

/-- An item goes to its owner: the own shard is kept here, one to a position that has been given up is not sent. -/
def State.placeItem (s : State) (n own dest step item attempt : Nat) (data : List Byte) : State :=
  match (s.ctx n).bind (·.exchange) with
  | none => s
  | some x =>
    if dest = own then
      let i : Item := { src := own, step := step, cls := 2, item := item, attempt := attempt, data := data }
      s.modExchange n (fun x => { x.keep i with sent := x.sent ++ [i] })
    else if x.stopped.contains (dest, step) then s
    else s.sendItem n dest 2 step item attempt data

/-- Sends one bucket: shard j to owner j, the own shard kept (R376, R378). -/
def State.sendBucket (s : State) (n b : Nat) : State :=
  match s.ctx n with
  | none => s
  | some c =>
    match c.exchange with
    | none => s
    | some x =>
      let len := gradLength c
      let lo := bucketLo len b
      let m := x.data.length
      let own := s.position c.half
      let step := s.stepOf n
      let a := nextAttempt x step 2 b
      let g := c.bucketValues b
      let v := ((List.range g.length).zip g).map (fun e =>
        fadd e.2 (half16 (s.residual n c.half len step (lo + e.1))))
      let picked := if x.topK then topIdx v (ceilDiv g.length (2 ^ x.kshift)) else []
      let sent := picked.map (fun i => (i, k16Of (v.getD i f32Zero) none))
      let next := ((List.range v.length).zip v).map (fun e =>
        toHalf16 (match lookup sent e.1 with
          | some k => fsub e.2 (Fmt.k16.decode k)
          | none => e.2))
      let data := fun (j : Nat) =>
        let sp := shardSpan len b m j
        if x.topK then entryBytes (sent.filter (fun e => decide (sp.1 ≤ e.1 ∧ e.1 < sp.1 + sp.2)))
        else shardK8 (bucketCoarse g) ((g.drop sp.1).take sp.2)
      let live := ((List.range m).zip x.data).filter (fun e => (shardSpan len b m e.1).2 != 0)
      let s := live.foldl (fun t e => t.placeItem n own e.2 step b a (data e.1)) s
      let s := if x.topK then s.hbmWrite c.half (s.residualAt n c.half len (step + 1) + 2 * lo)
        (next.flatMap (natBytes 2)) else s
      (s.modCtx n (fun c => { c with buckets := c.buckets ++ [b] })).exState n 1

/-- Both residual buffers of a context, where it keeps them. -/
def State.residualSpans (s : State) (c : Ctx) : List (Nat × Nat) :=
  if c.hasResidual then [(s.residualAt c.n c.half (gradLength c) 0, 4 * gradLength c)] else []

/-- BUCKET_SEND: the bucket's last element is finished (R321, R374). Lines of the residual that the host holds are
back-invalidated first (R65). -/
def execBucketSend (n bucket : Nat) (s : State) : Result :=
  onPower s (fun s =>
    match s.ctx n with
    | some c =>
      if c.going && s.trains n && !c.ownSeal && c.exchange.isSome && c.phase == 2 &&
          decide (bucket < bucketCount (gradLength c)) && !c.buckets.contains bucket &&
          c.bucketReady bucket then
        let held := s.heldIn c.half (s.residualSpans c)
        if held.isEmpty then s.sendBucket n bucket else s.snoopLines c.half n held
      else s
    | none => s)

/-! ### Tensors (R382; assumptions 30 and 31) -/

/-- The tensor that a send link carries: the output of a layer, or the gradient of a tensor that no layer
produces. -/
def Ctx.linkSource (c : Ctx) (id : Nat) : Option Tensor :=
  let t := if (producerOf c.layers id).isSome then c.tensor id false else c.tensor id true
  t.bind (fun t => if t.ready then some t else none)

/-- TENSOR_SEND: a step tensor that has passed goes to its peer. -/
def execTensorSend (n link : Nat) (s : State) : Result :=
  onPower s (fun s =>
    match s.ctx n with
    | none => s
    | some c =>
      match c.exchange with
      | none => s
      | some x =>
        match x.links[link]? with
        | some (id, peer, false) =>
          match c.linkSource id with
          | some t =>
            if c.going && !c.ownSeal && !(x.sent.any (fun i => i.cls == 1 && i.item == link &&
                i.step == s.stepOf n)) && !x.stopped.contains (peer, s.stepOf n) then
              s.sendItem n peer 1 (s.stepOf n) link (nextAttempt x (s.stepOf n) 1 link) t.wire
            else s
          | none => s
        | _ => s)

/-! ### Commit and gather (R377, R379, R380, R387) -/

/-- Items of a class that a position has at its highest attempt. -/
def Exchange.valid (x : Exchange) (src step cls : Nat) : List Item :=
  let l := x.held.filter (fun i => i.src == src && i.step == step && i.cls == cls)
  let best := l.filter (fun i => !l.any (fun j => j.item == i.item && decide (i.attempt < j.attempt)))
  best.mergeSort (fun a b => decide (a.item ≤ b.item))

/-- Committed values of the own shard of a bucket: index in the bucket, K16 code. On the top-k path an
element without an entry is left out. -/
def commitShard (x : Exchange) (len b own step : Nat) : List (Nat × Nat) :=
  let m := x.data.length
  let sp := shardSpan len b m (x.data.idxOf own)
  let got := x.data.map (fun p => (x.valid p step 2).find? (fun i => i.item == b))
  if x.topK then
    let es := got.map (fun i => match i with
      | some i => entriesOf (i.data.length / 6) i.data
      | none => [])
    ((List.range sp.2).map (fun i => sp.1 + i)).filterMap (fun i =>
      if es.any (fun e => e.any (fun k => k.1 == i)) then
        some (i, k16Of (refSum (es.map (fun e => match lookup e i with
          | some k => Fmt.k16.decode k
          | none => f32Zero))) none)
      else none)
  else
    (List.range sp.2).map (fun i =>
      (sp.1 + i, k16Of (refSum (got.map (fun g => match g with
        | some g => leafK8 g.data sp.2 i
        | none => f32Zero))) none))

/-- Keeps the committed values of a shard as the gradient of a step. -/
def Ctx.takeShard (c : Ctx) (step lo : Nat) (l : List (Nat × Nat)) : Ctx :=
  let k : Commit := (c.commits.find? (fun k => k.step == step)).getD
    { step := step, grad := [], whole := false, sum := none, partialSent := false }
  let grad := l.foldl (fun g e => Sparse.set (fun _ => f32Zero) g (lo + e.1) (Fmt.k16.decode e.2)) k.grad
  { c with commits := replaceBy (fun x => x.step == step) { k with grad := grad } c.commits }

/-- Shards of a step that are to be held: bucket and owner. -/
def shardsOf (x : Exchange) (len : Nat) : List (Nat × Nat) :=
  (List.range (bucketCount len)).flatMap (fun b =>
    (((List.range x.data.length).zip x.data).filter (fun e => (shardSpan len b x.data.length e.1).2 != 0)).map
      (fun e => (b, e.2)))

/-- Every shard of a step is held: the gradient is committed for this member (R343). -/
def State.checkWhole (s : State) (n step : Nat) : State :=
  match s.ctx n with
  | none => s
  | some c =>
    match c.exchange with
    | none => s
    | some x =>
      if (shardsOf x (gradLength c)).all (fun e => x.gathered.contains (e.1, e.2, step)) then
        let s := s.modCtx n (fun c => { c with commits := c.commits.map (fun k =>
          if k.step = step then { k with whole := true } else k) })
        let s := s.modHalf c.half (fun y => { y with updates := y.updates ++ [n] })
        s.exState n 4
      else s

/-- The member commits a step as an owner: sums, gathers to every other member, its own shard kept. -/
def State.commitStep (s : State) (n step : Nat) : State :=
  match s.ctx n with
  | none => s
  | some c =>
    match c.exchange with
    | none => s
    | some x =>
      let len := gradLength c
      let own := s.position c.half
      let mine := ((shardsOf x len).filter (fun e => e.2 == own)).map (·.1)
      let s := mine.foldl (fun s b =>
        let l := commitShard x len b own step
        let sp := shardSpan len b x.data.length (x.data.idxOf own)
        let dense := !x.topK || decide (2 * shardLen len b x.data.length < 6 * l.length)
        let bytes := if !dense then entryBytes l
          else (List.range sp.2).flatMap (fun i => natBytes 2 ((lookup l (sp.1 + i)).getD 0))
        let s := if x.topK && dense then s.bumpAt n 0x6010 0x0D else s
        let s := (x.data.filter (· != own)).foldl (fun s p =>
          (s.handItem n p 3 step b 0 bytes).add64 (collIndex c.half) 0x03 bytes.length) s
        s.modCtx n (fun c => { c.takeShard step (bucketLo len b) l with
          exchange := c.exchange.map (fun x => { x with gathered := x.gathered ++ [(b, own, step)] }) })) s
      let s := s.modCtx n (fun c => if mine.isEmpty then c.takeShard step 0 [] else c)
      let s := s.modExchange n (fun x => { x with
        held := x.held.filter (fun i => decide (step < i.step) || i.cls != 2),
        seals := x.seals.filter (fun e => decide (step < e.2.1)),
        retracted := x.retracted.filter (fun e => decide (step < e.step)) })
      let s := (s.noteCommit n step).put64At n 0x6010 0x0B (s.since x.sealedAt)
      let s := (s.add64 (collIndex c.half) 0x07 1).exState n 3
      s.checkWhole n step

/-- Commits the next step once a seal of every member of the data list is held. -/
def State.tryCommit (s : State) (n : Nat) : State :=
  match s.ctx n with
  | none => s
  | some c =>
    match c.exchange with
    | none => s
    | some x =>
      let t := s.committed n + 1
      if x.data.all (fun p => x.seals.contains (p, t, 2)) then s.commitStep n t else s

/-- GATHER_RECEIVE: a committed shard of another owner. Its length tells dense K16 from entries. -/
def execGatherReceive (n src group step bucket : Nat) (data : List Byte) (s : State) : Result :=
  onPower s (fun s =>
    match s.ctx n with
    | none => s
    | some c =>
      match c.exchange with
      | none => s.protocolError n
      | some x =>
        let len := gradLength c
        if group ≠ x.group ∨ x.data.contains src = false ∨ bucketCount len ≤ bucket then s.protocolError n
        else if x.gathered.contains (bucket, src, step) || decide (step ≤ s.val64At n 0x5010 0x08) then s
        else
          let sp := shardSpan len bucket x.data.length (x.data.idxOf src)
          let l := if !x.topK || data.length == 2 * sp.2 then
              (List.range sp.2).map (fun i => (sp.1 + i, fieldAt data (2 * i) 2))
            else entriesOf (data.length / 6) data
          let s := s.modCtx n (fun c => { c.takeShard step (bucketLo len bucket) l with
            exchange := c.exchange.map (fun x => { x with gathered := x.gathered ++ [(bucket, src, step)] }) })
          s.checkWhole n step)

/-! ### The fused norm (R381) -/

/-- Elements of the norm that this member owns in a step, in bucket and element order. -/
def State.ownedSquares (s : State) (c : Ctx) (x : Exchange) (k : Commit) : Word :=
  let len := gradLength c
  let own := s.position c.half
  let trained := trainedIdx c
  let idx := ((shardsOf x len).filter (fun e => e.2 == own)).flatMap (fun e =>
    let sp := shardSpan len e.1 x.data.length (x.data.idxOf own)
    (List.range sp.2).map (fun i => bucketLo len e.1 + sp.1 + i))
  squareSum c.upd.table ((idx.filter (fun i => trained.contains i)).map (gradAt k.grad))

/-- S is formed once every partial of a step is held. -/
def State.formNorm (s : State) (n step : Nat) : State :=
  match s.ctx n with
  | none => s
  | some c =>
    match c.exchange with
    | none => s
    | some x =>
      let got := x.norm.map (fun p => (x.partials.find? (fun e => e.1 == p && e.2.1 == step)).map (·.2.2))
      if got.all (·.isSome) then
        let sum := refSum (got.map (fun w => w.getD f32Zero))
        let s := s.modCtx n (fun c => { c with commits := c.commits.map (fun k =>
          if k.step = step then { k with sum := some sum } else k) })
        (s.modExchange n (fun x => { x with
          partials := x.partials.filter (fun e => decide (step < e.2.1)),
          gathered := x.gathered.filter (fun e => decide (step < e.2.2)) })).exState n 0
      else s

/-- NORM_PARTIAL_SEND: after the last gather of a step. -/
def execNormPartialSend (n : Nat) (s : State) : Result :=
  onPower s (fun s =>
    match s.ctx n with
    | none => s
    | some c =>
      match c.exchange, c.commits.find? (fun k => k.whole && !k.partialSent) with
      | some x, some k =>
        let own := s.position c.half
        let p := s.ownedSquares c x k
        let s := (x.norm.filter (· != own)).foldl (fun s q =>
          s.handItem n q 6 k.step 0 0 (wordBytes p)) s
        let s := s.modCtx n (fun c => { c with commits := c.commits.map (fun y =>
          if y.step = k.step then { y with partialSent := true } else y) })
        let s := s.modExchange n (fun x => { x with partials := x.partials ++ [(own, k.step, p)] })
        s.formNorm n k.step
      | _, _ => s)

/-- NORM_PARTIAL_RECEIVE. -/
def execNormPartialReceive (n src step : Nat) (value : Word) (s : State) : Result :=
  onPower s (fun s =>
    match s.ctx n with
    | none => s
    | some c =>
      match c.exchange with
      | none => s.protocolError n
      | some x =>
        if x.norm.contains src = false then s.protocolError n
        else if x.partials.any (fun e => e.1 == src && e.2.1 == step) ||
            decide (step ≤ s.val64At n 0x5010 0x08) then s
        else
          (s.modExchange n (fun x => { x with partials := x.partials ++ [(src, step, value)] })).formNorm
            n step)

/-! ### Arriving items (R385, R386) -/

/-- What becomes of an item of a step before it is looked at: 0 taken, 1 dropped, 2 a protocol error. -/
def State.screen (s : State) (n : Nat) (x : Exchange) (src group step item attempt : Nat) : Nat :=
  if group ≠ x.group then 2
  else if step ≤ s.committed n then 1
  else if s.committed n + 2 < step then 2
  else if x.retracted.any (fun r => r.src == src && r.step == step && r.item == item &&
      r.attempt == attempt) then 1
  else 0

/-- CONTRIBUTION_RECEIVE. -/
def execContributionReceive (n src group step item attempt : Nat) (data : List Byte) (s : State) : Result :=
  onPower s (fun s =>
    match s.ctx n with
    | none => s
    | some c =>
      match c.exchange with
      | none => s.protocolError n
      | some x =>
        if x.data.contains src = false then s.protocolError n
        else match s.screen n x src group step item attempt with
          | 0 => s.modExchange n (fun x => x.keep
              { src := src, step := step, cls := 2, item := item, attempt := attempt, data := data })
          | 1 => s
          | _ => s.protocolError n)

/-- The whole run of the step is discarded, what no seal covers is retracted, and it is issued again: what a tensor that
the step has read leaves no other choice for (assumption 32). A context in SEALING goes back to RUN on the step. -/
def State.rerunStep (s : State) (n : Nat) : State :=
  let s := s.modCtx n (fun c => { c with state := if c.state = stSealing then stRun else c.state })
  ((s.discardRun n).retractAll n).buildRun n

/-- A tensor item takes its place in the step in progress. -/
def State.placeLinked (s : State) (n : Nat) (id step : Nat) : State :=
  match s.ctx n with
  | none => s
  | some c =>
    if step ≠ s.stepOf n ∨ c.phase = 0 then s
    else match c.linkItem id step with
      | none => s
      | some i =>
        let grad := (producerOf c.layers id).isSome
        match c.tensor id grad with
        | some t => s.setCtx (c.setTensor (t.ofWire i.data))
        | none => s

/-- The step in progress has read a tensor of a link. -/
def Ctx.hasRead (c : Ctx) (id : Nat) : Bool :=
  match c.tensor id ((producerOf c.layers id).isSome) with
  | some t => t.ready && c.phase != 0
  | none => false

/-- TENSOR_RECEIVE: item `item` is the link of that index in the table (assumption 30). -/
def execTensorReceive (n src group step item attempt : Nat) (data : List Byte) (s : State) : Result :=
  onPower s (fun s =>
    match s.ctx n with
    | none => s
    | some c =>
      match c.exchange with
      | none => s.protocolError n
      | some x =>
        match x.links[item]? with
        | some (id, peer, true) =>
          if peer ≠ src then s.protocolError n
          else match s.screen n x src group step item attempt with
            | 0 =>
              let again := decide (0 < attempt) && step == s.stepOf n && c.hasRead id
              let s := s.modExchange n (fun x => x.keep
                { src := src, step := step, cls := 1, item := item, attempt := attempt, data := data })
              if again then s.rerunStep n else s.placeLinked n id step
            | 1 => s
            | _ => s.protocolError n
        | _ => s.protocolError n)

/-- RETRACT_RECEIVE. -/
def execRetractReceive (n src group step first last attempt : Nat) (s : State) : Result :=
  onPower s (fun s =>
    match s.ctx n with
    | none => s
    | some c =>
      match c.exchange with
      | none => s.protocolError n
      | some x =>
        if group ≠ x.group then s.protocolError n
        else if step ≤ s.committed n || x.seals.any (fun e => e.1 == src && e.2.1 == step) then
          (s.protocolError n).log { cls := clsWarning, unit := unitHub c.half, ctx := n, step := step,
                                    obj := counter 0x6010 0x0E }
        else
          let items := (List.range (last + 1 - first)).map (fun i => first + i)
          let hit := fun (i : Item) => i.src == src && i.step == step && i.attempt == attempt &&
            items.contains i.item
          let read := x.held.any (fun i => hit i && i.cls == 1 && step == s.stepOf n &&
            (match x.links[i.item]? with | some e => c.hasRead e.1 | none => false))
          let s := s.bumpAt n 0x6010 0x09
          let s := s.modExchange n (fun x => { x with
            held := x.held.filter (fun i => !hit i),
            retracted := x.retracted ++ items.map (fun i =>
              { src := src, step := step, item := i, attempt := attempt }) })
          if read then s.rerunStep n else s)

/-- Count and CRC-32C of a seal over valid items in ascending item order (R361). -/
def sealSum (l : List Item) : Nat × Nat :=
  (l.length, crc32c ((l.flatMap (·.data)).map (·.toNat)))

/-- SEAL_RECEIVE: the seal must count and check what is held; else a refusal goes back. -/
def execSealReceive (n src group step cls count : Nat) (crc : Word) (s : State) : Result :=
  onPower s (fun s =>
    match s.ctx n with
    | none => s
    | some c =>
      match c.exchange with
      | none => s.protocolError n
      | some x =>
        if group ≠ x.group ∨ (cls = 2 ∧ x.data.contains src = false) ∨ cls = 0 ∨ 2 < cls then
          s.protocolError n
        else if step ≤ s.committed n then s
        else if sealSum (x.valid src step cls) ≠ (count, crc.toNat) then
          (s.handItem n src 8 step 0 0 (natBytes 8 step ++ natBytes 1 cls)).bumpAt n 0x6010 0x0A
        else
          let s := s.modExchange n (fun x => { x with
            seals := if x.seals.contains (src, step, cls) then x.seals
                     else x.seals ++ [(src, step, cls)] })
          s.tryCommit n)

/-- Seal of a class for a destination: class, item count, CRC. -/
def sealBytes (cls : Nat) (l : List Item) : List Byte :=
  let q := sealSum l
  natBytes 1 cls ++ natBytes 4 q.1 ++ natBytes 4 q.2

/-- Items of a class sent to a destination in a step, ascending. -/
def Exchange.sentTo (x : Exchange) (dest step cls : Nat) : List Item :=
  (x.sent.filter (fun i => i.src == dest && i.step == step && i.cls == cls)).mergeSort
    (fun a b => decide (a.item ≤ b.item))

/-- SEAL_REFUSAL_RECEIVE: everything of that class and step goes to the member again at the next attempt,
then a new seal; a second refusal ends sending to it for the step. -/
def execSealRefusalReceive (n src step cls : Nat) (s : State) : Result :=
  onPower s (fun s =>
    match s.ctx n with
    | none => s
    | some c =>
      match c.exchange with
      | none => s.protocolError n
      | some x =>
        let s := s.bumpAt n 0x6010 0x0A
        if x.refused.contains (src, step) then
          let s := s.log { cls := clsFailure, unit := unitHub c.half, ctx := n, step := step,
                           obj := counter 0x6010 0x0A, detail := natBytes 2 src }
          s.modExchange n (fun x => { x with stopped := x.stopped ++ [(src, step)] })
        else
          let l := x.sentTo src step cls
          let top := l.foldl (fun a i => max a i.attempt) 0 + 1
          let s := s.modExchange n (fun x => { x with
            refused := x.refused ++ [(src, step)],
            sent := x.sent.filter (fun i => !(i.src == src && i.step == step && i.cls == cls)),
            past := x.past ++ l.map (fun i => (step, i.cls, i.item, i.attempt)) })
          let s := l.foldl (fun s i => s.sendItem n src cls step i.item top i.data) s
          s.handItem n src 4 step 0 0 (sealBytes cls l))

/-- Members whose seal of the step after the last committed one is missing. -/
def State.silent (s : State) (n : Nat) (x : Exchange) : List Nat :=
  x.data.filter (fun p => !x.seals.contains (p, s.committed n + 1, 2))

/-- SEAL_TIMEOUT: the own seal stands and those of others do not come (R387). -/
def execSealTimeout (n : Nat) (s : State) : Result :=
  onPower s (fun s =>
    match s.ctx n with
    | none => s
    | some c =>
      match c.exchange with
      | none => s
      | some x =>
        let t := s.committed n + 1
        match s.silent n x with
        | [] => s
        | p :: r =>
          if x.seals.contains (s.position c.half, t, 2) then
            let low := r.foldl min p
            let s := s.log { cls := clsFailure, unit := unitHub c.half, ctx := n, step := t,
                             obj := counter 0x6010 0x0F, detail := (p :: r).flatMap (natBytes 2) }
            (s.putAt n 0x6010 0x0F (toWord low)).bump (collIndex c.half) 0x0A
          else s)

end Sys2Proof.Machine
end

