-- ==== Sys2Proof/Machine/Seal.lean ====
section
/-! DEFINITION. The seal of a step: its ledger entry, its results, the seals to other members, the advance
of the step counter and where the context goes (R142, R158, R288, R289, R296, R297, R383). -/

namespace Sys2Proof.Machine

open Sys2Proof

/-! ### The ledger (R288, R289) -/

/-- Two bytes of a conversion. -/
def i16Bytes (v : Int) : List Byte := natBytes 2 (BitVec.ofInt 16 v).toNat

/-- Tiles of a context in ascending logical address. -/
def State.tilesAscending (s : State) (n : Nat) : List Nat :=
  (s.tilesOf n).mergeSort (fun a b => decide (a ≤ b))

def State.converterDigest (s : State) (c : Ctx) : List Byte :=
  if exactE s c.n then natBytes 32 0
  else sha256Bytes ((s.tilesAscending c.n).flatMap (fun l => sha256Bytes
    ((c.ledgerCodes.filter (fun e => e.1 == l)).flatMap (fun e => i16Bytes e.2.1 ++ i16Bytes e.2.2))))

def State.coefficientDigest (s : State) (c : Ctx) : List Byte :=
  sha256Bytes ((s.tilesAscending c.n).flatMap (fun l => sha256Bytes
    ((c.ledgerCoeff.filter (fun e => e.1 == l)).flatMap (·.2))))

/-- Coarse scales in use, ascending tensor id. -/
def scaleDigest (c : Ctx) : List Byte :=
  let l := (c.tensors.filter (fun t => !t.grad && t.fmt.scaled)).mergeSort (fun a b => decide (a.id ≤ b.id))
  sha256Bytes (l.flatMap (fun t => wordBytes t.coarse))

/-- Chain of the newest entry; zeros before the first. -/
def State.chainHead (s : State) (n : Nat) : List Byte := (s.regsAt n 0x3050 0x07 8).flatMap wordBytes

/-- Bytes 0 to 207 of the entry of a step. -/
def State.ledgerFront (s : State) (c : Ctx) (step : Nat) : List Byte :=
  let k := fun i => c.ledgerCounts.getD i 0
  natBytes 8 step ++
  natBytes 4 ((if exactE s c.n then 1 else 0) + (if c.stormRepeat then 2 else 0)) ++
  natBytes 2 c.triggers.length ++ natBytes 2 c.rescales ++ natBytes 8 (k 0) ++ natBytes 8 (k 1) ++
  s.programDigest c.n ++ s.converterDigest c ++ s.coefficientDigest c ++ s.keyDigest c.n step ++
  scaleDigest c ++ natBytes 8 s.count ++ natBytes 4 (k 2) ++ natBytes 4 (k 3)

/-- Writes the ledger entry of a step, once for each run that comes to its seals, if the context keeps a ledger; an entry
written again follows the chain that the first one followed. -/
def State.writeLedger (s : State) (c : Ctx) (step : Nat) : State :=
  if !s.ledgerOn c.n || c.ledgerDone then s
  else
    let entries := s.valAt c.n 0x3050 0x04
    let front := s.ledgerFront c step
    let again := c.ledgerStep == step && s.val64At c.n 0x3050 0x05 != 0
    let prev := if again then c.ledgerPrev else s.chainHead c.n
    let chain := sha256Bytes (prev ++ front)
    let s := s.hbmWrite c.half (s.val64At c.n 0x3050 0x02 + step % entries * 256)
      (front ++ chain ++ natBytes 16 0)
    let s := (s.add64At c.n 0x3050 0x05 (if again then 0 else 1)).putsAt c.n 0x3050 0x07 (bytesWords chain)
    s.modCtx c.n (fun c => { c with ledgerStep := step, ledgerDone := true, ledgerPrev := prev })

/-! ### Seals to other members (R383) -/

/-- Forward tensors that a tensor is computed from, itself among them. -/
def ancestors (l : List Layer) (ids : List Nat) : List Nat :=
  l.reverse.foldl (fun a L =>
    if a.contains L.output then L.input :: (if L.kind = 3 then [L.input2] else []) ++ a else a) ids

/-- Tensors that are computed from a tensor, itself among them. -/
def descendants (l : List Layer) (id : Nat) : List Nat :=
  l.foldl (fun a L =>
    if a.contains L.input || (L.kind == 3 && a.contains L.input2) then L.output :: a else a) [id]

/-- A tensor that a link received feeds the tensor that link `out` sends: a forward tensor its forward inputs, a gradient
also the gradients of what the tensor goes into. -/
def Ctx.feedsLink (c : Ctx) (out received : Nat) : Bool :=
  if (producerOf c.layers out).isSome then
    (producerOf c.layers received).isNone && (ancestors c.layers [out]).contains received
  else
    let d := descendants c.layers out
    if (producerOf c.layers received).isSome then d.contains received else (ancestors c.layers d).contains received

/-- Tensor frames of the step that a destination is to get: their tensors. -/
def Exchange.sendsTo (x : Exchange) (p : Nat) : List (Nat × Nat) :=
  (((List.range x.links.length).zip x.links).filter (fun e => !e.2.2.2 && e.2.2.1 == p)).map (fun e => (e.1, e.2.1))

/-- A seal of a class may leave for a destination (R383): all that it covers has been sent, and what fed it has been
sealed by its producer. A contribution is fed by every tensor received. -/
def State.mayLeave (s : State) (c : Ctx) (x : Exchange) (e : Nat × Nat) : Bool :=
  let t := s.stepOf c.n
  let received := x.links.filter (·.2.2)
  let sealed := fun (l : Nat × Nat × Bool) => x.seals.contains (l.2.1, t, 1)
  if e.2 = 2 then
    (List.range (bucketCount (gradLength c))).all c.buckets.contains && received.all sealed
  else
    (x.sendsTo e.1).all (fun o => x.sent.any (fun i => i.cls == 1 && i.item == o.1 && i.step == t) &&
      received.all (fun l => !c.feedsLink o.2 l.1 || sealed l))

/-- Peers that the context's send links name. -/
def Exchange.peers (x : Exchange) : List Nat := ((x.links.filter (fun e => !e.2.2)).map (fun e => e.2.1)).eraseDups

/-- Seals of the step that are still to leave: destination and class. A member that is sent nothing more gets none. -/
def State.sealsLeft (s : State) (c : Ctx) (x : Exchange) : List (Nat × Nat) :=
  let t := s.stepOf c.n
  let all := x.peers.map (fun p => (p, 1)) ++
    (if s.trains c.n then (x.data.filter (· != s.position c.half)).map (fun p => (p, 2)) else [])
  all.filter (fun e => !x.stopped.contains (e.1, t) && !x.sealed.contains (e.1, t, e.2))

/-- Sends a seal. -/
def State.sendSeal (s : State) (n step : Nat) (x : Exchange) (e : Nat × Nat) : State :=
  (s.handItem n e.1 4 step 0 0 (sealBytes e.2 (x.sentTo e.1 step e.2))).modExchange n (fun x =>
    { x with sealed := x.sealed ++ [(e.1, step, e.2)] })

/-- The context's checks have cleared and its seals may leave. -/
def Ctx.maySeal (c : Ctx) : Bool := c.state == stSealing && !c.ownSeal && !c.releasing

/-- The seals that may leave now leave, the first after the ledger entry of the step (R288). -/
def State.sendSeals (s : State) (c : Ctx) : State :=
  match c.exchange with
  | none => s
  | some x =>
    match (s.sealsLeft c x).filter (s.mayLeave c x) with
    | [] => s
    | l => l.foldl (fun t e => t.sendSeal c.n (s.stepOf c.n) x e) (s.writeLedger c (s.stepOf c.n))

/-- Every seal of the step has left, and its own contributions may be sealed. -/
def State.allSealed (s : State) (c : Ctx) : Bool :=
  match c.exchange with
  | none => true
  | some x => (s.sealsLeft c x).isEmpty && (!s.trains c.n || s.mayLeave c x (s.position c.half, 2))

/-- The own seal is held with those of the others (R387). -/
def State.ownSealed (s : State) (c : Ctx) (step : Nat) : State :=
  if c.exchange.isSome && s.trains c.n then
    (s.modExchange c.n (fun x => { x with
      seals := x.seals ++ [(s.position c.half, step, 2)],
      sealed := x.sealed ++ [(s.position c.half, step, 2)], sealedAt := s.count })).exState c.n 2
  else s

/-! ### The step is over -/

/-- Shifted layers without a trigger have had one more clean step (R296). -/
def State.cleanSteps (s : State) (c : Ctx) : State :=
  c.watches.foldl (fun t w => t.putWatch c.n { w with
    hit := false, clean := if (w.fwdShift || w.gradShift) && !w.hit then w.clean + 1 else 0 }) s

/-- The gradient of a step that no exchange carries is committed at the seal. -/
def State.commitAlone (s : State) (c : Ctx) (step : Nat) : State :=
  let sum := squareSum c.upd.table ((trainedIdx c).map (gradAt c.dW))
  let k : Commit := { step := step, grad := c.dW, whole := true, sum := some sum, partialSent := true }
  let s := s.modCtx c.n (fun c => { c with commits := c.commits ++ [k] })
  s.modHalf c.half (fun x => { x with updates := x.updates ++ [c.n] })

/-- What the step hands on: to the exchange, to the update, or nothing. -/
def State.handOn (s : State) (c : Ctx) (step : Nat) : State :=
  if s.trains c.n then
    let s := s.noteLoss c.n step c.loss
    match c.exchange with
    | some _ => s
    | none => (s.commitAlone c step).noteCommit c.n step
  else s.put64At c.n 0x6010 0x05 step

/-- After the seal (R142): HOLD if asked, DONE at the step limit, at a stream's end or if asked, else the
next step. -/
def State.afterSeal (s : State) (n : Nat) : State :=
  match s.ctx n with
  | none => s
  | some c =>
    let limit := s.val64 (cidx n) 0x14
    let drained := s.streaming n && c.ended && decide (c.producer ≤ s.val64 (cidx n) 0x4C)
    if drained then (s.put (cidx n) 0x4E 3).enterDone n
    else if c.wantDone then s.enterDone n
    else if c.wantHold || c.stopAsked || c.holdAtSeal then s.enterHold n
    else if limit ≠ 0 ∧ limit ≤ s.val64 (cidx n) 0x12 then s.enterDone n
    else (s.setCtx { c with state := stRun }).tryStep n

/-- The seal of a step, in order. -/
def State.seal (s : State) (c : Ctx) : State :=
  let n := c.n
  let step := s.stepOf n
  let s := (s.writeLedger c step).writeResults c
  let s := (s.ownSealed c step).put64 (cidx n) 0x12 step
  let s := s.cleanSteps c
  let s := if c.stormRepeat then (s.modHalf c.half (fun x => { x with storm := false })).throttle c.half
           else s.putAt n 0x3032 0x04 0
  let s := s.modCtx n (fun c => { c with ownSeal := true, phase := 0, stormRepeat := false })
  let s := if isCompanion s n then s else c.tiles.foldl (fun t l =>
      let t := t.endRelocation l
      match t.physTile l with
      | some p => t.bumpAt p 0xF021 0x03
      | none => t) s
  let s := (s.handOn c step).ctxEvent n evStep
  (s.afterSeal n).tryCommit n

/-- Lines that the ledger entry of the step in progress is written into. -/
def State.ledgerSpans (s : State) (c : Ctx) : List (Nat × Nat) :=
  if s.ledgerOn c.n then
    [(s.val64At c.n 0x3050 0x02 + s.stepOf c.n % s.valAt c.n 0x3050 0x04 * 256, 256)] else []

/-- SEAL_SEND: the seals that may leave do; with the last of them the context seals its step. Lines of the ledger that
the host holds are back-invalidated first (R65). -/
def execSealSend (n : Nat) (s : State) : Result :=
  onPower s (fun s =>
    match s.ctx n with
    | some c =>
      if c.maySeal then
        let held := s.heldIn c.half (s.ledgerSpans c)
        if !held.isEmpty then s.snoopLines c.half n held
        else
          let s := s.sendSeals c
          (match s.ctx n with
           | some c => if s.allSealed c then s.seal c else s
           | none => s)
      else s
    | none => s)

end Sys2Proof.Machine
end

