-- ==== Sys2Proof/Machine/Spokes.lean ====
section
/-! DEFINITION. Spokes and hubs: hop reliability and credits, training and its outcomes, positions,
conflicts, routing and in-order delivery (R360 to R372, R474). -/

namespace Sys2Proof.Machine

open Sys2Proof

/-! ### Spokes -/

/-- Instance of a spoke in 0x6003: half × 256 + spoke, 16 the tie spoke. -/
def spokeKey (h : HalfId) (n : Nat) : Nat := halfNum h * 256 + n

/-- Link states of 0x6003.02. -/
def lkDown : Nat := 0
def lkTraining : Nat := 1
def lkUp : Nat := 2
def lkUp2 : Nat := 3
def lkFailed : Nat := 4
def lkCrossed : Nat := 5
def lkLooped : Nat := 6
def lkAwaiting : Nat := 7

def State.linkState (s : State) (h : HalfId) (n : Nat) : Nat := s.valAt (spokeKey h n) 0x6003 0x02

/-- The spoke carries frames of classes 0 to 8 (R365). -/
def State.linkUp (s : State) (h : HalfId) (n : Nat) : Bool :=
  s.linkState h n == lkUp || s.linkState h n == lkUp2

/-- The spoke's clock enable (R99). -/
def State.spokeEnabled (s : State) (h : HalfId) (n : Nat) : Bool :=
  if n = 16 then s.flag 0x1002 0x03 (halfNum h) else s.flag 0x1002 (0x01 + halfNum h) n

def Spoke.fresh (h : HalfId) (n : Nat) : Spoke :=
  { half := h, num := n, queue := [], replay := [], credits := [16, 16, Config.bulkCredits, Config.bulkCredits],
    conflict := false, linkKey := false, again := false }

def State.spoke (s : State) (h : HalfId) (n : Nat) : Spoke :=
  (s.spokes.find? (fun x => x.half == h && x.num == n)).getD (Spoke.fresh h n)

def State.modSpoke (s : State) (h : HalfId) (n : Nat) (f : Spoke → Spoke) : State :=
  { s with spokes := replaceBy (fun x => x.half == h && x.num == n) (f (s.spoke h n)) s.spokes }

def hubIndex (h : HalfId) : Nat := pick h 0x6000 0x6001

/-! ### Transmission (R360, R362) -/

/-- Bytes of a frame: header, payload, tag, CRC. -/
def frameBytes (f : Frame) : Nat := 52 + f.payload.length

def replayBytes (l : List Frame) : Nat := l.foldl (fun a f => a + frameBytes f) 0

/-- Moves queued frames into the replay buffer while their VC has credit and the 512 KiB hold them. A VC
that waits keeps its order. Answers the frames sent. -/
def Spoke.pump (sp : Spoke) : Spoke × List Frame :=
  let r := sp.queue.foldl (fun (a : Spoke × List Frame × List Nat) f =>
    let x := a.1
    let have' := x.credits.getD f.vc 0
    if a.2.2.contains f.vc || have' == 0 || decide (524288 < replayBytes x.replay + frameBytes f) then
      ({ x with queue := x.queue ++ [f] }, a.2.1, a.2.2 ++ [f.vc])
    else
      ({ x with replay := x.replay ++ [f],
                credits := (List.range 4).map (fun v => x.credits.getD v 0 - (if v = f.vc then 1 else 0)) },
        a.2.1 ++ [f], a.2.2)) ({ sp with queue := [] }, [], [])
  (r.1, r.2.1)

/-- Sends what a spoke may send. -/
def State.pump (s : State) (h : HalfId) (n : Nat) : State :=
  if s.linkUp h n then
    let r := (s.spoke h n).pump
    r.2.foldl (fun t f => t.emit (.frame h n f)) (s.modSpoke h n (fun _ => r.1))
  else s

def State.enqueue (s : State) (h : HalfId) (n : Nat) (f : Frame) : State :=
  (s.modSpoke h n (fun x => { x with queue := x.queue ++ [f] })).pump h n

/-! ### Routing (R11, R371, R372) -/

/-- Routing table entry of a destination: 30 for the own position unless written, else 31 unless written. -/
def State.route (s : State) (h : HalfId) (dest : Nat) : Nat :=
  let w := s.valAt (halfNum h * 2 ^ 18 + dest) 0x6002 0x03
  if dest = s.position h ∧ w = 0x1F then 30 else w

/-- Where a port's frames go: a spoke that is up; port 16 takes the other half's tie spoke where the own one
is not up. -/
def State.portSpoke (s : State) (h : HalfId) (port : Nat) : Option (HalfId × Nat) :=
  if port < 16 then (if s.linkUp h port then some (h, port) else none)
  else if port = 16 then
    (if s.linkUp h 16 then some (h, 16)
     else if s.linkUp (otherHalf h) 16 then some (otherHalf h, 16) else none)
  else none

/-- Hands a frame to the half it is for. -/
def State.handFrame (s : State) (h : HalfId) (f : Frame) : State :=
  (s.emit (.delivered h f)).add64 (hubIndex h) 0x04 1

def seqAfter (n : Nat) : Nat := (n + 1) % 65536

/-- Delivers early frames that have come into order. -/
def State.drain (s : State) (h : HalfId) : Nat → Lane → State × Lane
  | 0, l => (s, l)
  | k + 1, l =>
    match l.early.find? (fun f => f.seq == l.next) with
    | none => (s, l)
    | some f =>
      (s.handFrame h f).drain h k { l with next := seqAfter l.next,
                                           early := l.early.filter (fun x => x.seq != f.seq) }

def State.setLane (s : State) (l : Lane) : State :=
  { s with lanes := replaceBy (fun x => x.half == l.half && x.src == l.src && x.vc == l.vc) l s.lanes }

/-- In-order delivery of a source and VC (R363). A source not heard before, like one after a gap timeout,
begins with the frame that arrives. -/
def State.deliver (s : State) (h : HalfId) (f : Frame) : State :=
  let l := (s.lanes.find? (fun x => x.half == h && x.src == f.src && x.vc == f.vc)).getD
    { half := h, src := f.src, vc := f.vc, next := f.seq, early := [], resume := true }
  let ahead := (f.seq + 65536 - l.next) % 65536
  if l.resume ∨ ahead = 0 then
    let r := (s.handFrame h f).drain h 256 { l with next := seqAfter f.seq, resume := false }
    r.1.setLane r.2
  else if 32768 ≤ ahead then s.bump (hubIndex h) 0x06
  else if l.early.length < 256 ∧ l.early.any (fun x => x.seq == f.seq) = false then
    s.setLane { l with early := l.early ++ [f] }
  else s

/-- The frame's key is held: the link key for a neighbour-addressed one, else a peloton key whose epoch
matches its header bits (R471, R474). -/
def State.keyHeld (s : State) (h : HalfId) (f : Frame) : Bool :=
  if f.neighbour then (s.spoke h f.spoke).linkKey
  else
    let k := pick h s.sec.pk0 s.sec.pk1
    [k.prev, k.cur, k.next].any (fun x => match x with | some p => p.epoch % 16 == f.epoch | none => false)

/-- Takes a frame for this half: tag, then order. -/
def State.takeFrame (s : State) (h : HalfId) (f : Frame) : State :=
  if !f.tagOk || !s.keyHeld h f then
    (s.bumpAt (spokeKey h f.spoke) 0x6003 0x0E).log
      { cls := clsFailure, unit := unitSpoke h f.spoke,
        obj := counter 0x6003 0x0E }
  else if f.neighbour then s.handFrame h f
  else s.deliver h f

/-- Sends a frame on the primary or the alternate port of its entry; 30 is this half. -/
def State.sendOn (s : State) (h : HalfId) (f : Frame) (count : Bool) : State :=
  let e := s.route h f.dest
  let go := fun (p : Nat) => s.portSpoke h p
  if e % 32 = 30 then s.takeFrame h f
  else match go (e % 32) with
    | some q => (when count (fun t => t.add64 (hubIndex h) 0x02 1) s).enqueue q.1 q.2 f
    | none =>
      if e / 256 % 32 = 30 then s.takeFrame h f
      else match go (e / 256 % 32) with
        | some q => (when count (fun t => t.add64 (hubIndex h) 0x02 1) s).enqueue q.1 q.2 f
        | none => s.bump (hubIndex h) 0x0A

/-- A frame carries this half's own position as its source, or its spoke has a peer of that position: a
Warning and a count (R370). -/
def State.noteConflict (s : State) (h : HalfId) (n : Nat) : State :=
  let s := (s.bump (hubIndex h) 0x09).modSpoke h n (fun x => { x with conflict := true })
  s.log { cls := clsWarning, unit := unitSpoke h n, obj := counter (hubIndex h) 0x09 }

def unassigned : Nat := 0xFFFF

/-- What a hub does with an intact frame. -/
def State.routeFrame (s : State) (h : HalfId) (f : Frame) : State :=
  let own := s.position h
  if 9 ≤ f.cls then s.bump (hubIndex h) 0x07
  else if f.cls = 7 then s
  else if own = unassigned then
    (if f.neighbour && f.cls == 0 then s.takeFrame h f else s)
  else if f.src = own ∧ f.unassigned = false then s.noteConflict h f.spoke
  else if f.neighbour then s.takeFrame h f
  else if f.dest = own then s.takeFrame h f
  else if (s.spoke h f.spoke).conflict then s
  else if f.hops ≤ 1 then s.bump (hubIndex h) 0x07
  else s.sendOn h { f with hops := f.hops - 1 } true

/-- FRAME_ROUTE: a frame arrives at a hub. One whose CRC fails is discarded and answered with a negative
acknowledgement. -/
def execFrameRoute (frame : Frame) (s : State) : Result :=
  onPower s (fun s =>
    let h := frame.half
    if !s.runs h || !s.linkUp h frame.spoke then s
    else if !frame.crcOk then s.emit (.nak h frame.spoke)
    else s.routeFrame h frame)

/-! ### Link control (R362) -/

/-- LINK_ACK: the oldest `count` frames of the replay buffer have arrived. -/
def execLinkAck (h : HalfId) (spoke count : Nat) (s : State) : Result :=
  onPower s (fun s =>
    if s.runs h then
      (s.modSpoke h spoke (fun x => { x with replay := x.replay.drop count })).pump h spoke
    else s)

/-- LINK_NAK: the frames from the failed one on are sent again. -/
def execLinkNak (h : HalfId) (spoke failed : Nat) (s : State) : Result :=
  onPower s (fun s =>
    if s.runs h && s.linkUp h spoke then
      let l := (s.spoke h spoke).replay.drop failed
      l.foldl (fun t f => t.emit (.frame h spoke f)) (s.bumpAt (spokeKey h spoke) 0x6003 0x0A)
    else s)

/-- LINK_CREDIT: the far receiver has freed buffer of a VC. -/
def execLinkCredit (h : HalfId) (spoke vc count : Nat) (s : State) : Result :=
  onPower s (fun s =>
    if s.runs h then
      (s.modSpoke h spoke (fun x => { x with
        credits := (List.range 4).map (fun v => x.credits.getD v 0 + (if v = vc then count else 0)) })).pump
          h spoke
    else s)

/-! ### Training (R365 to R368) -/

/-- The identity word of a lane (R364). Tie spoke 0 is half 0's, tie spoke 1 half 1's (R8). -/
def State.identityWord (s : State) (h : HalfId) (n lane : Nat) : Word :=
  let tie := if n = 16 then 1 else 0
  toWord (0x5A * 2 ^ 24 + tie * 2 ^ 23 + halfNum h * 2 ^ 22 + (if n = 16 then halfNum h else n % 16) * 2 ^ 18 +
    lane % 8 * 2 ^ 15 + s.val64 0x0000 0x06 % 2 ^ 15)

/-- The identity words that a spoke sends. -/
def State.identities (s : State) (h : HalfId) (n : Nat) : List Word := (List.range 5).map (s.identityWord h n)

/-- An identity word as it was sent, and whether the pair that brought it is inverted; none for a word without mark. -/
def sentIdentity (w : Word) : Option (Word × Bool) :=
  if bitsOf w.toNat 24 8 = 0x5A then some (w, false) else if bitsOf w.toNat 24 8 = 0xA5 then some (~~~w, true) else none

/-- Far lane and polarity that a local lane finds. -/
def laneFound (x : LaneSeen) : Option (Nat × Bool) :=
  match x with
  | .identity w =>
    match sentIdentity w with
    | some (v, inv) => if bitsOf v.toNat 15 3 ≤ 4 then some (bitsOf v.toNat 15 3, inv) else none
    | none => none
  | _ => none

/-- Far lanes of the local receive lanes that work, ascending. -/
def farLanes (l : List LaneSeen) : List Nat :=
  (l.filterMap (fun x => (laneFound x).map (·.1))).mergeSort (fun a b => decide (a ≤ b))

/-- Far lanes that carry: all but the spare, or, one lost, all that are left; with two or three lost the two
lowest. -/
def carrying (l : List LaneSeen) : List Nat :=
  let w := farLanes l
  match w.length with
  | 5 => w.take 4
  | 4 => w
  | 3 | 2 => w.take 2
  | _ => []

/-- State field of a local receive lane in 0x6003.03. -/
def laneField (l : List LaneSeen) (x : LaneSeen) : Nat :=
  match laneFound x with
  | some (f, inv) => (if (carrying l).contains f then 0 else 16) + (if inv then 8 else 0) + f % 8
  | none => if x = .silent then 2 * 16 + 7 else 3 * 16 + 7

/-- Lane map (R390). -/
def laneMap (l : List LaneSeen) : Nat :=
  ((List.range 5).map (fun i => laneField l (l.getD i .silent) * 2 ^ (6 * i))).foldl (· + ·) 0

/-- A spare lane carries, lanes arrive in another order, or a polarity is inverted (0x0102.01). -/
def corrected (l : List LaneSeen) : Bool :=
  let c := carrying l
  c.contains 4 || ((List.range 5).zip l).any (fun e => match laneFound e.2 with
    | some (f, inv) => c.contains f && (inv || f != e.1)
    | none => false)

/-- Sets the wiring bits of an external spoke and counts rising edges; those of a fenced half stay as they were (R55). -/
def State.wiring (s : State) (h : HalfId) (n : Nat) (crossed fixed : Bool) : State :=
  if decide (16 ≤ n) || s.fenced h then s
  else
    let i := 0x01 + halfNum h
    let up := fun (b : Nat) (v : Bool) => if v && !s.flag 0x0102 i b then 1 else 0
    let edges := up n fixed + up (16 + n) crossed
    ((s.putFlag 0x0102 i n fixed).putFlag 0x0102 i (16 + n) crossed).addAt 0 0x0102 0x03 edges

/-- Frames of a spoke that is no longer up leave by their other ports (R367, R368). -/
def State.reroute (s : State) (h : HalfId) (n : Nat) : State :=
  let x := s.spoke h n
  let s := s.modSpoke h n (fun x => { x with replay := [], queue := [] })
  ((x.replay ++ x.queue).filter (fun f => !f.neighbour)).foldl (fun t f => t.sendOn h f false) s

/-- A transmit pad monitor hears identity words that the spoke did not send. -/
def State.crossed (s : State) (h : HalfId) (n : Nat) (t : Training) : Bool :=
  t.pads.any (fun w => match sentIdentity w with
    | some (v, _) => !(s.identities h n).contains v
    | none => false)

/-- The lane decision of L3 to L5: the link state it leads to. -/
def State.laneOutcome (s : State) (h : HalfId) (n : Nat) (t : Training) : Nat :=
  if s.crossed h n t then lkCrossed
  else match (carrying t.lanes).length with
    | 4 => if t.lockOk then lkUp else lkFailed
    | 2 => if t.lockOk then lkUp2 else lkFailed
    | _ => lkFailed

def lanesOf (st : Nat) : Nat := if st = lkUp then 4 else if st = lkUp2 then 2 else 0

/-- Shows the lanes and the state of a link; what L3 has found of the lanes stands whatever the state becomes (R55,
R366). -/
def State.showLink (s : State) (h : HalfId) (n st : Nat) (t : Training) : State :=
  let u := spokeKey h n
  let s := (s.putAt u 0x6003 0x02 (toWord st)).putAt u 0x6003 0x03 (toWord (laneMap t.lanes))
  (s.putAt u 0x6003 0x0D (toWord (lanesOf st))).wiring h n (st == lkCrossed)
    (lanesOf (s.laneOutcome h n t) != 0 && corrected t.lanes)

/-- The serial, half and spoke that a lane receives, or that the peer of L6 reports, are this spoke's own. -/
def State.loopedBack (s : State) (h : HalfId) (n : Nat) (t : Training) : Bool :=
  t.lanes.any (fun x => match x with
    | .identity w => (match sentIdentity w with | some (v, _) => (s.identities h n).contains v | none => false)
    | _ => false) ||
  (t.peerSerial.toNat == s.val64 0x0000 0x06 && t.peerHalf == h && t.peerSpoke == n)

/-- The spoke's lanes repeat their identity words (L2). -/
def State.identify (s : State) (h : HalfId) (n : Nat) : State := s.emit (.identity h n (s.identities h n))

/-- Peers authenticate: a current peloton key is held, the epochs differ by at most 1, the answer is right
(R471, R474). -/
def State.authenticates (s : State) (h : HalfId) (t : Training) : Bool :=
  match (pick h s.sec.pk0 s.sec.pk1).cur with
  | some k => t.authOk && decide (k.epoch ≤ t.peerEpoch + 1 ∧ t.peerEpoch ≤ k.epoch + 1)
  | none => false

/-- L6: what the peer reports, and a conflict of positions. -/
def State.meetPeer (s : State) (h : HalfId) (n : Nat) (t : Training) : State :=
  let u := spokeKey h n
  let s := s.put64At u 0x6003 0x04 t.peerSerial.toNat
  let s := s.putAt u 0x6003 0x06 (toWord (t.peerPos % 65536 * 65536 + halfNum t.peerHalf * 256 + t.peerSpoke % 32))
  if s.position h ≠ unassigned ∧ t.peerPos = s.position h then s.noteConflict h n
  else s.modSpoke h n (fun x => { x with conflict := false })

/-- A training from L1 to L7. -/
def State.train (s : State) (h : HalfId) (n : Nat) (t : Training) : State :=
  let st := s.laneOutcome h n t
  let s := (s.identify h n).modSpoke h n (fun x => { x with linkKey := false, again := false })
  if lanesOf st = 0 then (s.showLink h n st t).reroute h n
  else if s.loopedBack h n t then (s.showLink h n lkLooped t).reroute h n
  else
    let s := s.meetPeer h n t
    if s.authenticates h t then
      ((s.showLink h n st t).modSpoke h n (fun x => { x with linkKey := true })).pump h n
    else (s.showLink h n lkAwaiting t).bumpAt (spokeKey h n) 0x6003 0x0E

/-- A spoke's half runs, its lanes are not stopped, and it is enabled. -/
def State.mayTrain (s : State) (h : HalfId) (n : Nat) : Bool :=
  s.runs h && s.spokeEnabled h n && decide (n ≤ 16) && decide (s.val 0x1010 0x01 ≤ 1)

/-- SPOKE_TRAIN: a spoke in training comes to its outcome. -/
def execSpokeTrain (h : HalfId) (spoke : Nat) (t : Training) (s : State) : Result :=
  onPower s (fun s =>
    if s.mayTrain h spoke && s.linkState h spoke == lkTraining then s.train h spoke t else s)

/-- SPOKE_TRAIN_RETRY: a failed, crossed, looped or unauthenticated spoke tries again (R366, R474). -/
def execSpokeTrainRetry (h : HalfId) (spoke : Nat) (t : Training) (s : State) : Result :=
  onPower s (fun s =>
    if s.mayTrain h spoke && decide (lkFailed ≤ s.linkState h spoke) then
      (s.bumpAt (spokeKey h spoke) 0x6003 0x0B).train h spoke t
    else s)

/-- SPOKE_RETRAIN: an up spoke goes through L2 to L5; its frames wait. One that fails sends them over the
alternate ports (R367). -/
def execSpokeRetrain (h : HalfId) (spoke : Nat) (t : Training) (s : State) : Result :=
  onPower s (fun s =>
    if s.mayTrain h spoke && s.linkUp h spoke then
      let s := (s.bumpAt (spokeKey h spoke) 0x6003 0x0B).riskEvent h 3
      let st := s.laneOutcome h spoke t
      let s := (s.identify h spoke).modSpoke h spoke (fun x => { x with again := false })
      let s := s.showLink h spoke st t
      if lanesOf st = 0 then s.reroute h spoke else s.pump h spoke
    else s)

/-- A write of the spoke control (R368): 1 brings the spoke down, 2 starts training, 3 forces a retrain. -/
def State.actSpokeControl (s : State) (u : Nat) (w : Word) : Verdict :=
  let h := halfOf (u / 256)
  let n := u % 256
  if w = 1 then
    let s := (s.putAt u 0x6003 0x02 0).putAt u 0x6003 0x0D 0
    .apply ((s.modSpoke h n (fun x => { x with linkKey := false, again := false })).reroute h n)
  else if w = 2 ∨ w = 3 then
    if !s.spokeEnabled h n then .refuse 0x4001 0
    else if w = 3 ∧ s.linkUp h n = true then .apply (s.modSpoke h n (fun x => { x with again := true }))
    else .apply (s.putAt u 0x6003 0x02 (toWord lkTraining))
  else .refuse 0x2003 0

/-! ### Positions (R369, R473) -/

/-- Keys held under another position no longer send. -/
def PKeys.stale (k : PKeys) : PKeys :=
  let off := fun (x : Option PKey) => x.map (fun p => { p with current := false })
  { prev := off k.prev, cur := off k.cur, next := off k.next }

def State.modKeys (s : State) (h : HalfId) (f : PKeys → PKeys) : State :=
  match h with
  | .h0 => { s with sec := { s.sec with pk0 := f s.sec.pk0 } }
  | .h1 => { s with sec := { s.sec with pk1 := f s.sec.pk1 } }

/-- L6 is repeated: the peers that the links know report their positions anew (R369, R370). -/
def State.repeatPeers (s : State) (h : HalfId) : State :=
  (List.range 17).foldl (fun t n =>
    if t.linkUp h n then
      (if t.position h ≠ unassigned ∧ t.valAt (spokeKey h n) 0x6003 0x06 / 65536 = t.position h then t.noteConflict h n
       else t.modSpoke h n (fun x => { x with conflict := false }))
    else t) s

/-- A position write: P2, in force at once. -/
def State.actPosition (s : State) (h : HalfId) (w : Word) : Verdict :=
  if 16383 < w.toNat ∧ w.toNat ≠ unassigned then .refuse 0x2003 0
  else if (s.ctxsOf h).any (fun n => [stRun, stHold, stSealing].contains (s.ctxState n)) then
    .refuse 0x3001 0
  else .accept (.store (hubIndex h) 0x01 0 [w]) 20000 (fun s =>
    ((s.modKeys h PKeys.stale).put (pkIndex h) 0x0F 0).repeatPeers h)

end Sys2Proof.Machine
end

