-- ==== Sys2Proof/Machine/Resilience.lean ====
section
/-! DEFINITION. Risk, receiver slots, restores, suspect units and their replacement, memory errors, the
signature log (R394 to R419, R507). -/

namespace Sys2Proof.Machine

open Sys2Proof

/-! ### Risk and the drafting level (R394 to R397) -/

def riskIndex (h : HalfId) : Nat := pick h 0x7000 0x7001

/-- Spares term of the level part: 8 for a course with one spare tile left, 24 for one with none, 32 while
the spare course serves, at most 128. -/
def State.sparesTerm (s : State) (h : HalfId) : Nat :=
  let n := halfNum h
  let t := (List.range 32).foldl (fun a c => a + (match s.fabric.sparesLeft n c with
    | 0 => 24
    | 1 => 8
    | _ => 0)) 0
  min 128 (t + if s.fabric.courseMap.any (fun k => k / 64 == n) then 32 else 0)

/-- Endurance term: the most worn active or serving tile. -/
def State.enduranceTerm (s : State) (h : HalfId) : Nat :=
  let m := ((physTiles (halfNum h)).filter (fun p => (s.fabric.logical p).isSome)).foldl
    (fun a p => max a (s.valAt p 0x4001 0x13)) 0
  min 64 ((m - 500) / 10)

/-- Floor of a non-negative FP32 value. -/
def floorF32 (w : Word) : Nat := if f32Neg w then 0 else f32Units w / 2 ^ 149

/-- Risk events of a half since the last evaluation, each kind with its weight. -/
def State.weighedEvents (s : State) (h : HalfId) : Nat :=
  (List.range 8).foldl (fun a k =>
    let seen := toWord ((s.half h).riskSeen.getD k 0)
    a + (s.reg (riskIndex h) (0x05 + k) - seen).toNat * s.val 0x7002 (0x06 + k)) 0

/-- The new drafting level: it rises at once to what the score crosses and falls one step when the score has
been low for the lowering time. -/
def nextLevel (score t1 t2 hyst level : Nat) (low : Bool) : Nat :=
  let up := if t2 < score then 2 else if t1 < score then 1 else 0
  if level < up then up
  else if low && decide (0 < level) && decide (score + hyst ≤ (if level = 2 then t2 else t1)) then level - 1
  else level

/-- A change of level is counted and logged; entering level 2 asks for replacement. -/
def State.setLevel (s : State) (h : HalfId) (old new : Nat) : State :=
  if old = new then s
  else
    let s := (s.put (riskIndex h) 0x04 new).bump (riskIndex h) 0x0D
    let s := s.log { cls := if old < new then clsWarning else clsInformation, unit := unitManager h,
                     code := if old < new then 0x7001 else 0x7002,
                     obj := counter (riskIndex h) 0x0D, detail := natBytes 1 old ++ natBytes 1 new }
    let s := if new = 2 then s.raiseReplace h 0 else s
    (s.ctxsOf h).foldl (fun t n => t.warnDraft n) s

/-- RISK_EVALUATE: once per second. -/
def execRiskEvaluate (h : HalfId) (lowForTime : Bool) (s : State) : Result :=
  onPower s (fun s =>
    let i := riskIndex h
    let e := fmul (s.reg i 0x02) (Config.halfLife (s.val 0x7002 0x03))
    let e := fadd e (f32OfNat (s.weighedEvents h))
    let e := if flt (f32OfNat 255) e then f32OfNat 255 else e
    let part := s.sparesTerm h + s.enduranceTerm h
    let score := min 255 (floorF32 e + part)
    let s := ((s.putAt 0 i 0x02 e).put i 0x03 part).put i 0x01 score
    let s := if s.val i 0x0E < score then s.put i 0x0E score else s
    let s := s.modHalf h (fun c => { c with riskSeen := (List.range 8).map (fun k => s.val i (0x05 + k)) })
    s.setLevel h (s.val i 0x04) (nextLevel score (s.val 0x7002 0x01) (s.val 0x7002 0x02) (s.val 0x7002 0x04)
      (s.val i 0x04) lowForTime))

/-! ### Receiver slots (R399, R402, R403) -/

def slotIndex (h : HalfId) : Nat := pick h 0x7030 0x7031

/-- Slot setting fields (R426). -/
def State.slotWord (s : State) (h : HalfId) (k : Nat) : Nat := s.val64At k (slotIndex h) 0x02
def slotSource (v : Nat) : Nat := v / 2 ^ 48
def slotGroup (v : Nat) : Nat := v / 2 ^ 32 % 65536
def slotAnchor (v : Nat) : Nat := v / 65536 % 65536
def slotGiB (v : Nat) : Nat := v / 256 % 256
def slotOn (v : Nat) : Bool := v % 2 == 1

def State.slotBuf (s : State) (h : HalfId) (k j : Nat) : SlotBuf :=
  (s.slotBufs.find? (fun b => b.half == h && b.slot == k && b.buf == j)).getD
    { half := h, slot := k, buf := j, state := 0, step := 0, bytes := [] }

def State.buffers (s : State) (h : HalfId) (k : Nat) : List SlotBuf := (List.range 3).map (s.slotBuf h k)

/-- The anchor: the secured buffer with the highest step that is a multiple of D. -/
def State.anchorOf (s : State) (h : HalfId) (k : Nat) : Option SlotBuf :=
  let d := slotAnchor (s.slotWord h k)
  ((s.buffers h k).filter (fun b => b.state == 2 && b.step % d == 0)).foldl (fun (a : Option SlotBuf) b =>
    match a with
    | some x => if x.step < b.step then some b else a
    | none => some b) none

/-- Shows a slot's buffers in 0x7030.04 to .0A. -/
def State.showSlot (s : State) (h : HalfId) (k : Nat) : State :=
  let a := (s.anchorOf h k).map (·.buf)
  let st := (s.buffers h k).foldl (fun v b =>
    v + (if b.state = 2 ∧ a = some b.buf then 3 else b.state) * 4 ^ b.buf) 0
  let s := (List.range 3).foldl (fun t j =>
    let b := s.slotBuf h k j
    t.put64At k (slotIndex h) (0x04 + 2 * j) (if b.state = 0 then 0 else b.step)) s
  s.putAt k (slotIndex h) 0x0A (toWord st)

def State.setBuf (s : State) (b : SlotBuf) : State :=
  let l := replaceBy (fun x => x.half == b.half && x.slot == b.slot && x.buf == b.buf) b s.slotBufs
  State.showSlot { s with slotBufs := l } b.half b.slot

def SlotBuf.clear (b : SlotBuf) : SlotBuf := { b with state := 0, step := 0, bytes := [] }

/-- Empties the buffers of a slot that `p` names. -/
def State.clearBufs (s : State) (h : HalfId) (k : Nat) (p : SlotBuf → Bool) : State :=
  (s.buffers h k).foldl (fun t b => if p b then t.setBuf b.clear else t) s

/-- Length of a copy by its header; 0 if the bytes do not hold one (R401). -/
def headerLength (l : List Byte) : Nat :=
  if l.length < 256 then 0
  else
    let n := fieldAt l 96 8
    256 + 12 * n + 128 * fieldAt l 20 4 + 32 * fieldAt l 24 4 + (if fieldAt l 28 4 % 2 = 1 then 2 * n else 0) + 64

/-- Bytes 0 to `n - 1` of what has arrived; none while one is missing. -/
def assemble (m : List (Nat × Byte)) (n : Nat) : Option (List Byte) :=
  (List.range n).foldr (fun i (a : Option (List Byte)) =>
    match lookup m i, a with
    | some b, some r => some (b :: r)
    | _, _ => none) (some [])

/-- Magic, version, total bytes and CRC of a copy are right (R408). -/
def copySound (l : List Byte) : Bool :=
  let n := l.length
  headerLength l == n && fieldAt l 0 4 == 0x4B445246 && fieldAt l 4 4 == 1 &&
  fieldAt l (n - 64) 4 == 0x4B445254 && fieldAt l (n - 24) 8 == n &&
  fieldAt l (n - 16) 4 == crc32c ((l.take (n - 16)).map (·.toNat))

/-- A copy dropped or failed at the receiver: counted, with a Warning. -/
def State.dropCopy (s : State) (h : HalfId) (source step : Nat) : State :=
  (s.bump (slotIndex h) 0x0D).log
    { cls := clsWarning, unit := unitWord 0x0A 0 (halfNum h * 65536), code := 0x7004, step := step,
      obj := counter (slotIndex h) 0x0D, detail := natBytes 2 source ++ natBytes 8 step }

/-- A copy larger than its buffer: a Warning at both ends, at the source's where that is a half of this module (R402; no
message takes it to another module). -/
def State.dropLarge (s : State) (h : HalfId) (source step : Nat) : State :=
  ([HalfId.h0, .h1].filter (fun o => s.runs o && s.position o == source && source != unassigned)).foldl (fun t o =>
    t.log { cls := clsWarning, unit := unitManager o, code := 0x7004, step := step,
            obj := counter (slotIndex h) 0x0D, detail := natBytes 2 source ++ natBytes 8 step })
    (s.dropCopy h source step)

/-- Bytes of a frame at their places in the copy. -/
def framePos (f : Frame) : Nat := f.item % 32768 * 2 ^ 32 + f.offset
def placed (f : Frame) : List (Nat × Byte) :=
  ((List.range f.payload.length).map (fun i => framePos f + i)).zip f.payload

/-- Buffer that a new copy goes into: an empty one, else the secured one with the lowest step that is not the
anchor. -/
def State.freeBuf (s : State) (h : HalfId) (k : Nat) : Option SlotBuf :=
  match (s.buffers h k).find? (fun b => b.state == 0) with
  | some b => some b
  | none =>
    let a := (s.anchorOf h k).map (·.buf)
    ((s.buffers h k).filter (fun b => b.state == 2 && a != some b.buf)).foldl (fun (r : Option SlotBuf) b =>
      match r with
      | some x => if b.step < x.step then some b else r
      | none => some b) none

/-- A copy whose last byte has arrived is secured, with a receipt to its source, or fails. -/
def State.endCopy (s : State) (h : HalfId) (k : Nat) (b : SlotBuf) (source : Nat) : State :=
  let n := headerLength ((assemble b.bytes 256).getD [])
  match assemble b.bytes n with
  | some l =>
    if copySound l then
      (s.setBuf { b with state := 2 }).sendOut h 40 (.receipt h source (slotGroup (s.slotWord h k)) b.step)
    else (s.setBuf b.clear).dropCopy h source b.step
  | none => (s.setBuf b.clear).dropCopy h source b.step

/-- The buffer of the slot that receives the copy of a step. -/
def State.receiving (s : State) (h : HalfId) (k step : Nat) : Option SlotBuf :=
  (s.buffers h k).find? (fun b => b.state == 1 && b.step % 2 ^ 32 == step)

/-- A copy's first frame, or a later one, is placed in the slot's receiving buffer. -/
def State.placeFrame (s : State) (h : HalfId) (k : Nat) (f : Frame) : State :=
  if framePos f = 0 then
    let s := s.clearBufs h k (fun b => b.state == 1)
    let n := headerLength f.payload
    if n = 0 ∨ slotGiB (s.slotWord h k) * 2 ^ 30 / 3 < n then s.dropLarge h f.src f.step
    else match s.freeBuf h k with
      | some b => s.setBuf { b with state := 1, step := fieldAt f.payload 8 8, bytes := placed f }
      | none => s
  else match s.receiving h k f.step with
    | some b => s.setBuf { b with bytes := b.bytes ++ placed f }
    | none => s

/-- The frame ends the copy: the frames placed before it make up the length that the header gives. -/
def copyEnds (l : List (Nat × Byte)) (f : Frame) : Bool :=
  let n := headerLength ((assemble l 256).getD [])
  n != 0 && framePos f + f.payload.length == n

/-- The copy of a step that the slot receives is sealed once its frames make it whole. -/
def State.closeCopy (s : State) (h : HalfId) (k : Nat) (f : Frame) : State :=
  match s.receiving h k f.step with
  | some b => if copyEnds b.bytes f then s.endCopy h k b f.src else s
  | none => s

/-- A frame of a copy for a slot. -/
def State.slotFrame (s : State) (h : HalfId) (k : Nat) (f : Frame) : State := (s.placeFrame h k f).closeCopy h k f

/-- A context of the half that awaits this copy: its source, its group and its step. -/
def State.awaiting (s : State) (h : HalfId) (f : Frame) : Option Ctx :=
  s.ctxs.find? (fun c => c.half == h && c.state == stLoaded && s.valAt c.n 0x7013 0x07 == 1 &&
    s.valAt c.n 0x7013 0x02 == f.src && s.valAt c.n 0x7010 0x04 == f.group &&
    s.val64At c.n 0x7013 0x04 % 2 ^ 32 == f.step)

/-- DRAFT_FRAME_RECEIVE: class 3 with item bit 15 set. -/
def execDraftFrameReceive (frame : Frame) (s : State) : Result :=
  onPower s (fun s =>
    let h := frame.half
    if !s.runs h || frame.cls != 3 || decide (frame.item < 32768) then s
    else match s.awaiting h frame with
      | some c => s.setCtx { c with restore := some (c.restore.getD [] ++ placed frame) }
      | none =>
        match (List.range 16).find? (fun k =>
            let v := s.slotWord h k
            slotOn v && slotSource v == frame.src && slotGroup v == frame.group) with
        | some k => s.slotFrame h k frame
        | none => s.bump (slotIndex h) 0x0D)

/-- Frames of a copy that a half receives from a position are lost: the copy fails (R363, R400, R403). -/
def State.loseCopies (s : State) (h : HalfId) (src : Nat) : State :=
  (List.range 16).foldl (fun t k =>
    if slotSource (t.slotWord h k) = src then
      (t.buffers h k).foldl (fun t b => if b.state = 1 then (t.setBuf b.clear).dropCopy h src b.step else t) t
    else t) s

/-- GAP_TIMEOUT: a gap has stayed open; the frames held go, delivery resumes at the next to arrive, and a copy that a gap
on VC2 leaves incomplete fails (R363, R403). -/
def execGapTimeout (h : HalfId) (src vc : Nat) (s : State) : Result :=
  onPower s (fun s =>
    match s.lanes.find? (fun x => x.half == h && x.src == src && x.vc == vc) with
    | some l =>
      if l.early.isEmpty then s
      else
        let s := (s.bump (hubIndex h) 0x08).setLane { l with early := [], resume := true }
        let s := s.log { cls := clsFailure, unit := unitHub h, obj := counter (hubIndex h) 0x08,
                         detail := natBytes 2 src ++ natBytes 1 vc }
        if vc = 2 then s.loseCopies h src else s
    | none => s)

/-- A receipt at the source (R403): from the spare position of a context with that group id. -/
def State.actReceipt (s : State) (via : Via) (h : HalfId) (v : Nat) : Verdict :=
  let group := v / 2 ^ 48
  let step := v % 2 ^ 48
  let mine := s.ctxs.filter (fun c => c.half == h && s.valAt c.n 0x7010 0x04 == group)
  match via.path with
  | .spoke src _ =>
    match mine.filter (fun c => s.sparePosition c.n == src) with
    | [] => if mine.isEmpty then .refuse 0x2003 0 else .refuse 0x5001 0
    | l =>
      let s := l.foldl (fun t c =>
        ((t.put64At c.n 0x7010 0x0B step).bumpAt c.n 0x7010 0x0D).modCtx c.n (fun x => { x with
          copySent := match x.copySent with | some u => if u ≤ step then none else some u | none => none })) s
      .apply (s.bump (pick h 0x7011 0x7012) 0x03)
  | _ => .refuse 0x5001 0

/-- GiB of the drafting reserve that other slots hold. -/
def State.reserveHeld (s : State) (h : HalfId) (k : Nat) : Nat :=
  ((List.range 16).filter (fun j => j != k && slotOn (s.slotWord h j))).foldl
    (fun a j => a + slotGiB (s.slotWord h j)) 0

/-- A slot setting (R402, R413, R426). A write that changes the source, the group or the size draws a new slot
key and empties the buffers; so does a disable. -/
def State.actSlot (s : State) (h : HalfId) (k v : Nat) : Verdict :=
  let old := s.slotWord h k
  if v / 2 % 128 ≠ 0 then .refuse 0x2004 0
  else if slotOn v ∧ (4096 < slotAnchor v ∨ 120 < slotGiB v) then .refuse 0x2001 0
  else if slotOn v ∧ (slotAnchor v = 0 ∨ slotGroup v = 0 ∨ slotGiB v < 3) then .refuse 0x2002 0
  else if slotOn v ∧ 16383 < slotSource v then .refuse 0x2003 0
  else if slotOn v ∧ s.flag 0x7021 0x01 0 then .refuse 0x3001 0
  else if (s.buffers h k).any (fun b => b.state == 1) then .refuse 0x6001 0
  else
    let room := s.val (pick h 0x5001 0x5002) 0x05 - s.reserveHeld h k
    let same := slotOn old && slotOn v && slotSource v == slotSource old && slotGroup v == slotGroup old &&
      slotGiB v == slotGiB old
    if slotOn v ∧ room < slotGiB v then .refuse 0x4002 0
    else if slotOn v ∧ same = false ∧ s.sec.entropyOk = false then .refuse 0x4002 0
    else if same then .apply ((s.put64At k (slotIndex h) 0x02 v).showSlot h k)
    else
      let key := halfNum h * 16 + k
      let keys := s.sec.slotKeys.filter (fun e => e.1 != key)
      let keys := if slotOn v then keys ++ [(key, s.drawKey)] else keys
      let s := State.freeSkip { s with sec := { s.sec with slotKeys := keys } } (if slotOn v then 16 else 0)
      .apply ((s.put64At k (slotIndex h) 0x02 v).clearBufs h k (fun _ => true))

/-- A send-back (R407): the copy goes to a position, or to the half's own contexts, and every later copy of
the slot is emptied. -/
def State.actSendBack (s : State) (h : HalfId) (k v : Nat) : Verdict :=
  let target := v / 2 ^ 48
  let step := v % 2 ^ 48
  match (s.buffers h k).find? (fun b => b.state == 2 && b.step == step) with
  | none => .refuse 0x2003 0
  | some b =>
    .accept (.commitOnly (slotIndex h) 0x0B) (Config.estimate (dkey k (slotIndex h) 0x0B)) (fun s =>
      let s := s.clearBufs h k (fun x => x.state == 2 && decide (step < x.step))
      let n := headerLength ((assemble b.bytes 256).getD [])
      let l := (assemble b.bytes n).getD []
      let group := slotGroup (s.slotWord h k)
      if target = unassigned then
        match s.ctxs.find? (fun c => c.half == h && c.state == stLoaded && s.valAt c.n 0x7013 0x07 == 1 &&
            s.valAt c.n 0x7013 0x02 == s.position h && s.valAt c.n 0x7010 0x04 == group &&
            s.val64At c.n 0x7013 0x04 == step) with
        | some c => s.setCtx { c with restore := some b.bytes }
        | none => s
      else s.sendOut h l.length (.copy h target group step 0 l))

/-! ### Restores (R407 to R409) -/

/-- Start of a restore. -/
def State.actRestore (s : State) (n : Nat) (w : Word) : Verdict :=
  if w ≠ 1 then .refuse 0x2003 0
  else match s.ctx n with
    | none => .refuse 0x3003 0
    | some c =>
      if c.state ≠ stLoaded then .refuse 0x3003 0
      else .accept (.action 0x7013 0x06 n) (Config.estimate (dkey n 0x7013 0x06)) (fun s =>
        (s.modCtx n (fun c => { c with restore := none })).putAt n 0x7013 0x07
          (if s.valAt n 0x7013 0x02 = unassigned then 2 else 1))

/-- Checks of a copy against the context and the step asked for; 0 if it may be applied (R408). -/
def State.copyStatus (s : State) (c : Ctx) (step : Nat) (l : List Byte) : Nat :=
  let part := fun a n => (l.drop a).take n
  if !copySound l then 0x1005
  else if fieldAt l 8 8 ≠ step ∨ part 32 32 ≠ s.programDigest c.n ∨ fieldAt l 96 8 ≠ gradLength c ∨
      fieldAt l 20 4 ≠ c.tensorCount ∨ fieldAt l 24 4 ≠ (shiftSpots c.layers).length then 0x2003
  else if part 64 32 ≠ s.keyDigest c.n step then 0x2003
  else 0

/-- Watch record from a shift record of the copy. The copy holds one count for both directions. -/
def watchOf (l : List Byte) (off : Nat) : Watch :=
  let st := fieldAt l (off + 4) 1
  { layer := fieldAt l off 2, block := fieldAt l (off + 2) 2, fwdAvg := wordAt l (off + 12),
    gradAvg := wordAt l (off + 16), fwdL := wordAt l (off + 20), gradL := wordAt l (off + 24),
    fwdCount := fieldAt l (off + 8) 4, gradCount := fieldAt l (off + 8) 4, fwdShift := st % 2 == 1,
    gradShift := st / 2 % 2 == 1, clean := fieldAt l (off + 6) 2, shiftUps := 0, hit := false, fwdSeen := false, gradSeen := false }

/-- Grid targets of a weight row from the masters (R344). -/
def State.masterTargets (s : State) (c : Ctx) (p : Nat) (q : Seat) (L : Layer) (row : Nat) :
    List (Nat × Int) :=
  let m := masterLayer c.layers q.layer
  (List.range 512).map (fun j =>
    (colElem j,
      if row < L.inRows q.row ∧ j < L.outCols q.block then
        (gridOf (c.elem (weightIndex c m (1024 * q.row + row) (512 * q.block + j))).master
          ((s.tile p).scaleOf j)).1
      else 0))

/-- Applies a copy body (R408): masters and moments, scale and shift records, residual, step counter and limit,
tiles, weight copies. The update of its step is complete in it. -/
def State.applyCopy (s : State) (n step : Nat) (seen : List RowSeen) (l : List Byte) : State :=
  match s.ctx n with
  | none => s
  | some c =>
    let len := gradLength c
    let elems := (List.range len).foldl (fun m i =>
      let o := 256 + 12 * i
      Sparse.set elemDefault m i { master := wordAt l o, m1 := wordAt l (o + 4), m2 := wordAt l (o + 8) }) []
    let o1 := 256 + 12 * len
    let o2 := o1 + 128 * c.tensorCount
    let o3 := o2 + 32 * (shiftSpots c.layers).length
    let watches := (List.range (shiftSpots c.layers).length).map (fun j => watchOf l (o2 + 32 * j))
    let resid := (l.drop o3).take (2 * len)
    let s := s.setCtx { c with elems := elems, watches := watches, gradHist := [] }
    let s := if c.hasResidual && fieldAt l 28 4 % 2 == 1 then s.hbmWrite c.half (s.residualAt n c.half len (step + 1)) resid else s
    let s := s.hbmWrite c.half (s.historyAt n 0) ((l.drop o1).take (128 * c.tensorCount))
    let s := watches.foldl (fun t w => t.showWatch n w) s
    let s := (s.put64 (cidx n) 0x12 step).put64 (cidx n) 0x14 (step + 1)
    let s := (s.put64At n 0x5010 0x08 step).put64At n 0x6010 0x05 step
    match s.ctx n with
    | none => s
    | some c =>
      let s := ((List.range c.tiles.length).zip c.tiles).foldl (fun t e =>
        t.programTile c seen (fun x => x.masterTargets c) e.1 e.2) s
      s.writeCopies n (step + 1)

/-- The whole copy that a restore has: from the slot of the own half, or as it arrived. -/
def State.restoreBytes (s : State) (c : Ctx) (step : Nat) : Option (List Byte) :=
  let whole := fun (m : List (Nat × Byte)) => assemble m (headerLength ((assemble m 256).getD []))
  if s.valAt c.n 0x7013 0x02 = unassigned then
    match (s.buffers c.half (s.valAt c.n 0x7013 0x03)).find? (fun b => b.state == 2 && b.step == step) with
    | some b => some ((whole b.bytes).getD [])
    | none => none
  else c.restore.bind (fun m => match whole m with | some [] => none | r => r)

/-- A restore ends with a failing status: nothing has changed (R126). -/
def State.failRestore (s : State) (n status : Nat) : State :=
  let s := (s.modCtx n (fun c => { c with restore := none })).putAt n 0x7013 0x07 0
  s.endPending 0x7013 0x06 n status

/-- RESTORE_APPLY: the copy is whole; it is checked and applied. A step that the own slot does not hold secured
ends with 0x2003; a copy that is not whole yet is waited for. -/
def execRestoreApply (n : Nat) (seen : List RowSeen) (s : State) : Result :=
  onPower s (fun s =>
    match s.ctx n with
    | none => s
    | some c =>
      let st := s.valAt n 0x7013 0x07
      let step := s.val64At n 0x7013 0x04
      if st ≠ 1 ∧ st ≠ 2 then s
      else if c.state ≠ stLoaded then s.failRestore n 0x3003
      else match s.restoreBytes c step with
        | none => if st = 2 then s.failRestore n 0x2003 else s
        | some l =>
          match s.copyStatus c step l with
          | 0 =>
            let o := l.length - 64
            let gen := fieldAt l (o + 16) 8
            let s := s.applyCopy n step seen l
            let s := s.modCtx n (fun c => { c with restore := none })
            let s := (s.putAt n 0x7013 0x08 (wordAt l (o + 32))).putAt n 0x7013 0x09 (wordAt l (o + 36))
            let s := if gen = step + 1 then s
              else (s.bumpAt n 0x7013 0x0C).log
                { cls := clsWarning, unit := unitManager c.half, code := 0x7007, ctx := n, step := step,
                  obj := counter 0x7013 0x0C, detail := natBytes 8 gen ++ natBytes 8 (step + 1) }
            (s.putAt n 0x7013 0x07 3).endPending 0x7013 0x06 n 0x0000
          | bad => s.failRestore n bad)

/-- RESTORE_TIMEOUT: 10 s without a whole copy. -/
def execRestoreTimeout (n : Nat) (s : State) : Result :=
  onPower s (fun s =>
    if (s.ctx n).isSome && s.valAt n 0x7013 0x07 == 1 then s.failRestore n 0x3001 else s)

/-! ### Suspect units (R411, R412) -/

/-- UNIT_SUSPECT: by R411 a unit has become permanent-suspect. -/
def execUnitSuspect (unit : UnitWord) (cause ctx step : Nat) (s : State) : Result :=
  onPower s (fun s =>
    if 1 ≤ cause ∧ cause ≤ 3 then s.makeSuspect unit.toNat cause ctx step else s)

/-- A strand is in flight on a physical course. -/
def State.courseBusy (s : State) (h : HalfId) (p : Nat) : Bool :=
  s.ctxs.any (fun c => c.half == h && c.slots.any (fun x => x.issued &&
    s.fabric.physCourse (mkTile (halfNum h) x.course 0) == p))

/-- A unit lies in a physical course: a tile, a slice, its engine or its buffer. -/
def inCourse (h : HalfId) (p u : Nat) : Bool :=
  [0x01, 0x02, 0x03, 0x04].contains (unitKind u) && unitHalf u == some h && tileCourse (u % 2 ^ 17) == p

/-- The spare course takes over a running course (R507): contexts with results of an unsealed step in the
replaced course repeat that step, and this is no failing run. -/
def State.handover (s : State) (h : HalfId) (c unit : Nat) : State :=
  let n := halfNum h
  let p := s.fabric.physCourse (mkTile n c 0)
  if !s.fabric.spareCourseFree n || s.fabric.courseMap.contains (n * 64 + c) || s.courseBusy h p then s
  else
    let hit := s.ctxs.filter (fun x => x.half == h && x.phase != 0 && x.used.any (fun u => inCourse h p u))
    let s := (s.takeSpareCourse n c).fieldRepair (mkTile n c 0) unit clsWarning
    hit.foldl (fun t x => if (t.ctxState x.n) == stRun || (t.ctxState x.n) == stHold then t.rerunStep x.n else t) s

/-- The logical course that a physical course serves. -/
def Fabric.logicalCourse (f : Fabric) (h p : Nat) : Option Nat :=
  (List.range 32).find? (fun c => f.physCourse (mkTile h c 0) == p)

/-- A strand runs on a tile now. -/
def State.tileInFlight (s : State) (p : Nat) : Bool := s.unitBusy (unitTile p)

/-- SUSPECT_REPLACE: no strand is in flight on the unit and a spare of its kind is left; one without stays in
service, but a tile whose failed slice finds no spare slice is retired (R201, R412). -/
def execSuspectReplace (unit : UnitWord) (s : State) : Result :=
  onPower s (fun s =>
    let u := unit.toNat
    let p := u % 2 ^ 17
    let h := halfOf (p / 65536)
    if !s.suspect u || !s.runs h then s
    else match unitKind u with
      | 0x01 =>
        if s.tileInFlight p then s
        else match s.fabric.logical p with
          | some l =>
            if (s.fabric.freeSpares (tileHalf l) (s.fabric.physCourse l)).isEmpty &&
                !(s.fabric.spareCourseFree (tileHalf l)) then s
            else s.retireField l false
          | none => if (s.tile p).unusable then s else s.markUnusable p
      | 0x02 =>
        if s.tileInFlight p then s
        else
          let sl := u / 2 ^ 17 % 64
          let serves := [0, 1].any (fun set =>
            (List.range 32).any (fun g => s.valAt (p * 2 ^ 18 + set) 0x2010 (0x67 + g) == sl))
          if !serves || (s.tile p).unusable then s
          else match s.dropSlice p sl with
            | (t, true) => t.fieldRepair (t.logicalOr p) u clsWarning
            | (_, false) => s.retireUnit p
      | 0x03 | 0x04 =>
        match s.fabric.logicalCourse (halfNum h) (tileCourse p) with
        | some c => s.handover h c u
        | none => s
      | _ => s)

/-- SPARE_COURSE_HANDOVER: the strands on a course whose engine or buffer is suspect have ended (R507). -/
def execSpareCourseHandover (h : HalfId) (course : Nat) (s : State) : Result :=
  onPower s (fun s =>
    let p := mkTile (halfNum h) (s.fabric.physCourse (mkTile (halfNum h) course 0)) 0xFF
    if !s.runs h || decide (32 ≤ course) then s
    else if s.suspect (unitWord 0x03 0 p) then s.handover h course (unitWord 0x03 0 p)
    else if s.suspect (unitWord 0x04 0 p) then s.handover h course (unitWord 0x04 0 p)
    else s)

/-! ### Memory errors (R146, R383, R395, R405) -/

/-- MEMORY_ERROR: counted toward the risk score; an uncorrectable one in claimed memory or a share faults the
context, and one in a mortar link or buffer fails the check of the step whose data it touched. The stack that
holds a byte is not given: the record names the half's manager. -/
def execMemoryError (h : HalfId) (err : MemErr) (place : MemPlace) (s : State) : Result :=
  onPower s (fun s =>
    if !s.railsOn h then s
    else match err with
      | .corrected => s.riskEvent h 0
      | .uncorrectable =>
        let s := s.riskEvent h 7
        match place with
        | .hbm a =>
          let s := { s with port := { s.port with poisoned := (h, a / 64) :: s.port.poisoned } }
          let owner := s.claimant h a
          let s := s.emit (.mediaEvent (halfFn h) a)
          let s := s.log { cls := clsFailure, unit := unitManager h,
                           ctx := match owner with | some c => c.n | none => 0xFFFF,
                           obj := counter (riskIndex h) 0x0C, detail := natBytes 8 a }
          (match owner with | some c => s.enterFault c.n rMemory | none => s)
        | .share n =>
          let s := s.log { cls := clsFailure, unit := unitWord 0x0A 0 (halfNum h * 65536), ctx := n,
                           obj := counter (riskIndex h) 0x0C }
          (match s.ctx n with | some c => if c.half = h then s.enterFault n rMemory else s | none => s)
        | .buffer u n =>
          let s := s.log { cls := clsFailure, unit := u.toNat, ctx := n, obj := counter (riskIndex h) 0x0C }
          (match s.ctx n with
           | some c => if c.half = h ∧ c.phase ≠ 0 then s.failCheck n u.toNat else s
           | none => s)
        | .other => s.log { cls := clsFailure, unit := unitManager h, obj := counter (riskIndex h) 0x0C })

/-! ### The signature log (R427) -/

def State.actLogClear (s : State) (w : Word) : Verdict :=
  if w = 1 then .apply (State.put { s with cper := [] } 0x7040 0x01 0) else .refuse 0x2003 0

end Sys2Proof.Machine
end

