-- ==== Sys2Proof/Machine/Security.lean ====
section
/-! DEFINITION. Identity leaves, SPDM, sessions and ownership, firmware staging and commit, peloton and
sealing keys, sealed export, sanitizing, statements and service commands (R453 to R482). -/

namespace Sys2Proof.Machine

open Sys2Proof

/-! ### The identity tree (R460 to R463) -/

/-- Status of a request that needs a signature (R462, R463): 0, no leaf left, or the bottom tree is being built. -/
def State.signStatus (s : State) : Nat :=
  if leafLimit ≤ s.nextLeaf then 0x4002
  else if s.sec.treeReady < s.nextLeaf / 32768 then 0x6001 else 0

/-- Uses the next leaf; the reservation mark is committed ahead of it. -/
def State.useLeaf (s : State) : State :=
  let q := s.nextLeaf
  let r := s.val 0x9000 0x11
  let s := if r ≤ q then s.put 0x9000 0x11 (r + 256) else s
  (s.put 0x9000 0x10 (q + 1)).warnLeaves

/-- A signature of two levels over a message with a leaf. -/
def signature (leaf : Nat) (msg : List Byte) : List Byte := (List.range 5396).map (Config.hssByte leaf msg)

/-- The next bottom tree may be built: leaf 29,491 of the current one has been used. -/
def State.treeDue (s : State) : Bool :=
  decide (s.sec.treeReady < s.nextLeaf / 32768) ||
    (s.sec.treeReady == s.nextLeaf / 32768 && decide (29491 < s.nextLeaf % 32768))

/-- TREE_BUILD: the next bottom tree is ready. -/
def execTreeBuild (s : State) : Result :=
  onPower s (fun s =>
    if s.treeDue then { s with sec := { s.sec with treeReady := s.sec.treeReady + 1 } } else s)

/-- ENTROPY_FAILURE (R454). -/
def execEntropyFailure (s : State) : Result :=
  onPower s (fun s =>
    State.log { s with sec := { s.sec with entropyOk := false } } { cls := clsFailure, unit := unitKeystone })

/-! ### Sessions (R464, R467, R468) -/

/-- SPDM travels on the DOE mailbox and on MCTP, whose target acknowledges nothing while it is gated or has no address
(R100, R121, R464). -/
def State.isSpdm (s : State) (v : Via) : Bool :=
  match v.path with
  | .doe => true
  | .mctp => s.i3cServes
  | _ => false

def State.owned (s : State) : Bool := s.val 0x9020 0x01 == 1

/-- The request travels in a secured session. -/
def State.secured (s : State) (via : Via) : Bool := (via.session.bind s.session).isSome

/-- The request travels in an owner session; while no owner is installed any secured session serves. -/
def State.ownerSession (s : State) (via : Via) : Bool :=
  match via.session.bind s.session with
  | none => false
  | some x => if s.owned then x.mutAuth && x.rooted else true

/-- The request travels in the session that a confidential context is bound to. -/
def State.boundSession (s : State) (via : Via) (n : Nat) : Bool :=
  match s.ctx n with
  | some c => via.session.isSome && c.session == via.session && s.secured via
  | none => false

/-- A session ends: contexts bound to it hold with h_tsp. -/
def State.endSession (s : State) (id : Nat) : State :=
  if (s.session id).isNone then s
  else
    let s := { s with sec := { s.sec with sessions := s.sec.sessions.filter (fun x => x.id != id) } }
    (s.ctxs.filter (fun c => c.session == some id)).foldl (fun t c =>
      let was := (t.ctx c.n).map (·.going)
      let t := t.reasonHold c.n rTsp true
      if was = some true then t.holdCompanions c.n else t) s

/-- SPDM error codes (PRESUMED from SPDM 1.2): Invalid Request, Busy, Unspecified, Session Limit Exceeded. -/
def spdmInvalid : Nat := 0x01
def spdmBusy : Nat := 0x03
def spdmUnspecified : Nat := 0x05
def spdmSessionLimit : Nat := 0x0A

/-- Kinds of SPDM answer: CHALLENGE_AUTH, MEASUREMENTS, CERTIFICATE, KEY_EXCHANGE_RSP, KEY_UPDATE_ACK,
HEARTBEAT_ACK, END_SESSION_ACK. -/
def ansChallenge : Nat := 0
def ansMeasurements : Nat := 1
def ansCertificate : Nat := 2
def ansKeyExchange : Nat := 3
def ansKeyUpdate : Nat := 4
def ansHeartbeat : Nat := 5

/-- An SPDM answer that needs a signature, or its error. -/
def State.signed (s : State) (kind id : Nat) (msg : List Byte) (f : State → State) : State :=
  match s.signStatus with
  | 0 => ((f s).useLeaf).emit (.spdm kind id (msg ++ signature s.nextLeaf msg))
  | 0x6001 => s.emit (.spdmError spdmBusy)
  | _ => s.emit (.spdmError spdmUnspecified)

/-- CHALLENGE. -/
def execChallenge (via : Via) (nonce : List Byte) (s : State) : Result :=
  onPower s (fun s => if s.isSpdm via then s.signed ansChallenge 0 nonce id else s)

/-- A digest of 32 bytes of what a block measures. -/
def measuredBytes (block : Nat) (l : List Byte) : List Byte := (List.range 32).map (Config.measured block l)

def Image.facts (im : Image) (slot : Bool) : List Byte :=
  im.digest ++ natBytes 1 im.security ++ natBytes 4 im.release ++ natBytes 1 (if slot then 1 else 0)

/-- Facts of the image that runs in a component. -/
def State.runningFacts (s : State) (b : Nat) : List Byte :=
  (s.slotImage b (s.flag 0x9001 0x0A b)).facts (s.flag 0x9001 0x0A b)

def State.authList (s : State) (h : HalfId) : List Byte :=
  (s.regsAt 0 (pick h 0x9040 0x9041) 0x01 64).flatMap wordBytes

/-- Measurement block values (R465); none for an index without one. -/
def State.measurement (s : State) (via : Via) (block : Nat) : Option (List Byte) :=
  match block with
  | 1 => some ((s.regsAt 0 0x9001 0x02 8).flatMap wordBytes)
  | 2 => some (measuredBytes 2 (s.runningFacts 0))
  | 3 => some (measuredBytes 3 (s.runningFacts 1))
  | 4 => some (measuredBytes 4 (s.runningFacts 3))
  | 5 => some (measuredBytes 5 (s.runningFacts 2))
  | 6 => some (measuredBytes 6 (s.runningFacts 4))
  | 7 => some (natBytes 4 (s.val 0x9001 0x01) ++ Config.fuseConfiguration)
  | 8 => some (natBytes 4 s.sec.debugSeen)
  | 9 => some (measuredBytes 9 ((s.regsAt 0 0x9020 0x03 8).flatMap wordBytes ++ s.authList .h0 ++
      s.authList .h1 ++ natBytes 4 (s.val 0x9030 0x01) ++ natBytes 4 (s.val 0x9031 0x01)))
  | 0x10 =>
    let l := s.ctxs.filter (fun c => c.confidential && via.session.isSome && c.session == via.session)
    some (measuredBytes 0x10 (l.flatMap (·.facts)))
  | _ => none

/-- GET_MEASUREMENTS: a signed answer uses a leaf. -/
def execGetMeasurements (via : Via) (block : Nat) (signed : Bool) (s : State) : Result :=
  onPower s (fun s =>
    if !s.isSpdm via then s
    else match s.measurement via block with
      | none => s.emit (.spdmError spdmInvalid)
      | some l => if signed then s.signed ansMeasurements block l id else s.emit (.spdm ansMeasurements block l))

/-- GET_CERTIFICATE: slot 0 holds Klotrum's chain, whose bytes are not the model's. -/
def execGetCertificate (via : Via) (slot : Nat) (s : State) : Result :=
  onPower s (fun s =>
    if !s.isSpdm via then s
    else if slot = 0 then s.emit (.spdm ansCertificate 0 []) else s.emit (.spdmError spdmInvalid))

/-- KEY_EXCHANGE: at most four secured sessions over both paths; it needs a leaf and random material. -/
def execKeyExchange (via : Via) (id : Nat) (requester : List Byte) (mutAuth rooted : Bool) (s : State) : Result :=
  onPower s (fun s =>
    if !s.isSpdm via || (s.session id).isSome then s
    else if 4 ≤ s.sec.sessions.length then s.emit (.spdmError spdmSessionLimit)
    else if !s.sec.entropyOk then s.emit (.spdmError spdmUnspecified)
    else
      let x : Session := { id := id, path := via.path, requester := requester, mutAuth := mutAuth,
                           rooted := rooted && s.owned, tspFn := none, keys := 0 }
      s.signed ansKeyExchange id requester (fun t =>
        { t with sec := { t.sec with sessions := t.sec.sessions ++ [x] } }))

/-- KEY_UPDATE: the session's keys are replaced. -/
def execKeyUpdate (via : Via) (s : State) : Result :=
  onPower s (fun s =>
    match (if s.isSpdm via then via.session.bind s.session else none) with
    | some x =>
      let y : Session := { x with keys := x.keys + 1 }
      let l := replaceBy (fun (y : Session) => y.id == x.id) y s.sec.sessions
      State.emit { s with sec := { s.sec with sessions := l } } (.spdm ansKeyUpdate x.id [])
    | none => s)

/-- HEARTBEAT of a session. -/
def execSpdmHeartbeat (via : Via) (s : State) : Result :=
  onPower s (fun s =>
    match (if s.isSpdm via then via.session.bind s.session else none) with
    | some x => s.emit (.spdm ansHeartbeat x.id [])
    | none => s)

/-- SESSION_HEARTBEAT_TIMEOUT: two heartbeats of 10 s missed. -/
def execSessionHeartbeatTimeout (id : Nat) (s : State) : Result := onPower s (fun s => s.endSession id)

/-- SESSION_END. -/
def execSessionEnd (id : Nat) (s : State) : Result := onPower s (fun s => s.endSession id)

/-! ### Firmware (R456 to R459) -/

/-- Bit of a component in 0x9001.0A. -/
def componentBit (component half : Nat) : Nat :=
  if component = 0 then 0 else 2 * half + component

/-- Reads an image's header. -/
def parseImage (half : Nat) (l : List Byte) : Image :=
  { component := fieldAt l 4 1, half := if fieldAt l 4 1 = 0 then 0 else half, security := fieldAt l 5 1,
    release := fieldAt l 8 4, advance := fieldAt l 6 1 % 2 == 1, digest := (l.drop 16).take 32, valid := true, raw := l }

/-- Layout of an image: magic, zero fields, code length, digest of the code, length of the signature. -/
def imageLayout (l : List Byte) : Bool :=
  let code := fieldAt l 12 4
  let sig := l.length - 64 - code
  decide (64 ≤ l.length) && fieldAt l 0 4 == 0x4B465749 && decide (fieldAt l 4 1 ≤ 2) &&
  decide (fieldAt l 6 1 < 2) && fieldAt l 7 1 == 0 && decide (1 ≤ code ∧ code ≤ 16777216) &&
  ((l.drop 48).take 16).all (· == 0) && decide (64 + code ≤ l.length) && (sig == 2672 || sig == 5396) &&
  (l.drop 16).take 32 == sha256Bytes ((l.drop 64).take code)

/-- Status of an image written as a domain for the component selected by a word laid out as 0x9010.01; the
first failing check (R459). -/
def State.imageStatus (s : State) (sel : Nat) (l : List Byte) : Nat :=
  let code := fieldAt l 12 4
  if !imageLayout l then 0x1005
  else if fieldAt l 4 1 ≠ sel % 4 then 0x2003
  else if 128 < fieldAt l 5 1 then 0x2001
  else if !Config.firmwareSigned (l.take (64 + code)) (l.drop (64 + code)) then 0x5002
  else if fieldAt l 5 1 < s.val 0x9001 0x01 then 0x5003
  else 0

/-- The final segment of an image replaces what was staged; 0x9010.03 tells how it went. -/
def State.stageImage (s : State) (l : List Byte) : Verdict :=
  let sel := s.val 0x9010 0x01
  match s.imageStatus sel l with
  | 0 =>
    let s := { s with key := { s.key with staged := some (parseImage (bitsOf sel 4 1) l) } }
    .apply (s.put 0x9010 0x03 0)
  | bad => .counted bad (State.put { s with key := { s.key with staged := none } } 0x9010 0x03 bad)

/-- Commits the staged image: of the keystone, or of a half component. -/
def State.actCommit (s : State) (keystone : Bool) (w : Word) : Verdict :=
  if w ≠ 1 then .refuse 0x2003 0
  else match s.key.staged with
    | none => .refuse 0x3001 0
    | some im =>
      if (im.component == 0) != keystone then .refuse 0x3001 0
      else if !keystone && s.fenced (halfOf im.half) then .refuse 0x3004 0
      else if s.key.commit.isSome then .refuse 0x6001 0
      else .accept (.commitOnly 0x9010 (if keystone then 0x04 else 0x05)) 2000000 (fun s =>
        { s with key := { s.key with commit := some (componentBit im.component im.half, im) } })

def putSlot (l : List Image) (b : Nat) (im : Image) : List Image :=
  (List.range 5).map (fun i => if i = b then im else imageSlot l i)

/-- Writes an image into its component's inactive slot and marks it pending. -/
def State.writeSlot (s : State) (b : Nat) (im : Image) : State :=
  let s := if s.flag 0x9001 0x0A b then { s with key := { s.key with slotA := putSlot s.key.slotA b im } }
    else { s with key := { s.key with slotB := putSlot s.key.slotB b im } }
  s.putFlag 0x9001 0x0B b true

/-- A commit ends. -/
def State.endCommit (s : State) (ok : Bool) : State :=
  match s.key.commit with
  | some (b, im) =>
    let s := if ok then s.writeSlot b im else s
    { s with key := { s.key with commit := none } }
  | none => s

/-- Word of a running image's version (0x9010.06). -/
def State.versionWord (s : State) (b : Nat) : Nat :=
  let im := s.slotImage b (s.flag 0x9001 0x0A b)
  im.security * 2 ^ 24 + im.release / 65536 % 256 * 65536 + im.release % 65536

/-! ### Ownership (R467) -/

/-- Installs the owner root, a point of 97 bytes; the store holds its words. -/
def State.actOwnerRoot (_s : State) (l : List Byte) : Verdict :=
  if l.length ≠ 97 then .refuse 0x1005 0
  else if !onCurve (l.map (·.toNat)) then .refuse 0x2003 0
  else .accept (.store 0x9020 0x02 0 (bytesWords l)) 20000 id

/-- The owner root's store has committed (R116). Sessions rooted in an earlier root are so no longer. -/
def State.endOwnerRoot (s : State) (ws : List Word) : State :=
  let l := (ws.flatMap wordBytes).take 97
  let xs := s.sec.sessions.map (fun (x : Session) => { x with rooted := false })
  let s := { s with sec := { s.sec with ownerRoot := l, sessions := xs } }
  (s.put 0x9020 0x01 1).putsAt 0 0x9020 0x03 (bytesWords (sha256Bytes l))

/-! ### Peloton keys (R471, R473) -/

def State.peloton (s : State) (h : HalfId) : PKeys := pick h s.sec.pk0 s.sec.pk1

/-- Shows which keys a half holds. -/
def State.showKeys (s : State) (h : HalfId) : State :=
  let k := s.peloton h
  let b := fun (x : Option PKey) (v : Nat) => if x.isSome then v else 0
  s.put (pkIndex h) 0x0C (b k.prev 1 + b k.cur 2 + b k.next 4)

def State.actKeyInstall (s : State) (h : HalfId) (ws : List Word) : Verdict :=
  let e := (ws.getD 8 0).toNat
  if e ≠ s.val (pkIndex h) 0x01 + 1 then .refuse 0x2003 0
  else .apply ((s.modKeys h (fun k => { k with
    next := some { epoch := e, key := ws.take 8, current := true } })).showKeys h)

def State.actKeyAdvance (s : State) (h : HalfId) (w : Word) : Verdict :=
  if w ≠ 1 then .refuse 0x2003 0
  else match (s.peloton h).next with
    | none => .refuse 0x3001 0
    | some k =>
      let s := (s.modKeys h (fun x => { prev := x.cur, cur := some k, next := none })).showKeys h
      let s := ((s.put (pkIndex h) 0x01 k.epoch).put64 (pkIndex h) 0x0D 0).put (pkIndex h) 0x0F
        (if k.current then 1 else 0)
      .apply (s.flushUnsent h)

/-- PREVIOUS_KEY_DESTROY: 10 s after an advance. -/
def execPreviousKeyDestroy (h : HalfId) (s : State) : Result :=
  onPower s (fun s => (s.modKeys h (fun k => { k with prev := none })).showKeys h)

/-! ### Sealing keys and sealed export (R470, R476, R477, R486) -/

def State.sealKey (s : State) (slot : Nat) : Option (List Word) := lookup s.sec.sealKeys slot

/-- Key bytes of words (R108). -/
def keyNats (l : List Word) : List Nat := (l.flatMap wordBytes).map (·.toNat)

/-- First word of AES-256 of a zero block under a slot's key; 0 for an empty slot. -/
def State.checkValue (s : State) (slot : Nat) : Nat :=
  match s.sealKey slot with
  | some k => bytesNat (((aes (keyNats k) (List.replicate 16 0)).take 4).map (BitVec.ofNat 8))
  | none => 0

def State.actSealingKey (s : State) (ws : List Word) : Verdict :=
  .accept (.store 0x9020 0x0D (s.val 0x9020 0x0C) ws) 20000 id

/-- The store of a sealing key has committed for the slot selected at its write. -/
def State.endSealingKey (s : State) (slot : Nat) (ws : List Word) : State :=
  let ks := s.sec.sealKeys.filter (fun (e : Nat × List Word) => e.1 != slot) ++ [(slot, ws)]
  State.putFlag { s with sec := { s.sec with sealKeys := ks } } 0x9020 0x0B slot true

def State.actClearSlot (s : State) (w : Word) : Verdict :=
  let slot := s.val 0x9020 0x0C
  if w ≠ 1 then .refuse 0x2003 0
  else
    let ks := s.sec.sealKeys.filter (fun (e : Nat × List Word) => e.1 != slot)
    .apply (State.putFlag { s with sec := { s.sec with sealKeys := ks } } 0x9020 0x0B slot false)

/-- Key of a sealed blob. -/
def blobKey (key : List Word) (nonce digest : List Byte) : List Nat :=
  hkdfExpand (hkdfExtract (nonce.map (·.toNat)) (keyNats key))
    ([0x4B, 0x4C, 0x53, 0x45] ++ digest.map (·.toNat))

def toBytes (l : List Nat) : List Byte := l.map (BitVec.ofNat 8)

/-- Status of an export (R477): the context is at rest with no update or transfer pass running, its sealing
slot holds a key, and random material is to be had. -/
def State.exportStatus (s : State) (n : Nat) : Nat :=
  match s.ctx n with
  | none => 0x3003
  | some c =>
    if !([stLoaded, stHold, stDone].contains c.state) || c.upd.running ||
        c.tiles.any (fun l => match s.physTile l with | some p => (s.tile p).inPass | none => false) then 0x3003
    else if (s.sealKey (s.val (cidx n) 0x1C)).isNone then 0x3001
    else if !s.sec.entropyOk then 0x4002
    else 0

/-- The sealed blob of a context; its nonce is three free words. -/
def State.exportBlob (s : State) (n : Nat) : State × List Byte :=
  match s.ctx n with
  | none => (s, [])
  | some c =>
    let step := s.val64 (cidx n) 0x12
    let slot := s.val (cidx n) 0x1C
    let body := s.copyBody c step
    let nonce := (List.range 3).flatMap (fun j => wordBytes (Config.freeWord (s.free + j)))
    let head := natBytes 4 0x4B534C44 ++ natBytes 4 1 ++ natBytes 8 (s.val64 0x0000 0x06) ++
      s.programDigest n ++ natBytes 8 step ++ natBytes 1 slot ++ natBytes 3 0 ++
      natBytes 4 (s.checkValue slot) ++ nonce ++ natBytes 4 0 ++ natBytes 8 body.length ++ natBytes 8 0
    let key := blobKey ((s.sealKey slot).getD []) nonce (s.programDigest n)
    let nn := nonce.map (·.toNat)
    let cipher := gcmCrypt key nn (body.map (·.toNat))
    (s.freeSkip 3, head ++ toBytes cipher ++ toBytes (gcmTag key nn (head.map (·.toNat)) cipher))

/-- Bytes of a copy's body for a context (R401, trailer apart). -/
def bodyLength (c : Ctx) : Nat := copyLength c - 64

/-- Imports a blob into a LOADED context: the first failing check gives the status. -/
def State.importBlob (s : State) (n : Nat) (l : List Byte) : Verdict :=
  match s.ctx n with
  | none => .refuse 0x3003 0
  | some c =>
    let slot := s.val (cidx n) 0x1C
    let len := fieldAt l 80 8
    let nonce := (l.drop 64).take 12
    let key := blobKey ((s.sealKey slot).getD []) nonce (s.programDigest n)
    let nn := nonce.map (·.toNat)
    let cipher := ((l.drop 96).take len).map (·.toNat)
    if c.state ≠ stLoaded then .refuse 0x3003 0
    else if l.length < 112 ∨ fieldAt l 0 4 ≠ 0x4B534C44 ∨ fieldAt l 4 4 ≠ 1 ∨ fieldAt l 57 3 ≠ 0 ∨
        fieldAt l 76 4 ≠ 0 ∨ fieldAt l 88 8 ≠ 0 ∨ l.length ≠ 112 + len then
      .refuse 0x1005 0
    else if (l.drop 16).take 32 ≠ s.programDigest n ∨ fieldAt l 56 1 ≠ slot ∨
        fieldAt l 60 4 ≠ s.checkValue slot ∨ (s.sealKey slot).isNone = true then .refuse 0x2003 0
    else if toBytes (gcmTag key nn ((l.take 96).map (·.toNat)) cipher) ≠ (l.drop (96 + len)).take 16 then
      .refuse 0x5002 0
    else if len ≠ bodyLength c then .refuse 0x1005 0
    else .apply (s.applyCopy n (fieldAt l 48 8) [] (toBytes (gcmCrypt key nn cipher)))

/-! ### Memory encryption (R469) -/

/-- Key of a line of HBM: the memory key of the context that claims it, confidential or not, or else the half's. -/
def State.lineKey (s : State) (h : HalfId) (l : Nat) : BitVec 512 :=
  match s.claimant h (l * 64) with
  | some c => c.memKey
  | none => (s.half h).memKey

/-- What the HBM itself holds of a line: its 64 bytes under XTS with the line's number as the tweak. Every access of
the half and every permitted host access meets the bytes in clear. -/
def State.lineAtRest (s : State) (h : HalfId) (l : Nat) : List Byte :=
  toBytes (xtsLine (beBytes 64 (s.lineKey h l).toNat) l ((s.hbmRead h (l * 64) 64).map (·.toNat)))

/-! ### Sanitizing (R478, R479) -/

/-- Physical tiles in the scope of a sanitize word. -/
def sanitizeTiles (w : Nat) : List Nat :=
  let h := bitsOf w 16 1
  match w / 2 ^ 28 with
  | 1 => [mkTile h (bitsOf w 8 8) (bitsOf w 0 8)]
  | 2 => (List.range 34).map (fun t => mkTile h (bitsOf w 8 8) t)
  | 3 => physTiles h
  | _ => physTiles 0 ++ physTiles 1

/-- A tile of the list is owned by a context that is not FREE. -/
def State.anyOwned (s : State) (l : List Nat) : Bool :=
  l.any (fun p => [s.fabric.logical p, s.addressMap.logical p].any (fun a =>
    match a with | some a => (s.ownerOf a).isSome | none => false))

/-- The memories of a running half are zeroed, its buffers emptied. -/
def State.sanitizeHalf (s : State) (h : HalfId) : State :=
  let s := (s.setHbm h []).unpoison h (fun _ => true)
  let s := (List.range 16).foldl (fun t k => t.clearBufs h k (fun _ => true)) s
  { s with tiles := s.tiles.map (fun (t : Tile) =>
      if tileHalf t.addr = halfNum h then t.coldBuffers else t) }

/-- A module sanitize over the halves that run and are within the bridge's reach. -/
def State.sanitizeModule (s : State) (residual : List (Nat × Nat)) : State :=
  [HalfId.h0, HalfId.h1].foldl (fun t h =>
    if t.runs h && !t.fenced h then ((physTiles (halfNum h)).foldl (fun x p => x.sanitizeTile residual p) t).sanitizeHalf h
    else t) s

/-- Residual cells that a sanitize will leave in the tiles of a list. -/
def residualIn (residual : List (Nat × Nat)) (l : List Nat) : Nat :=
  l.foldl (fun a p => a + (lookup residual p).getD 0) 0

def State.actSanitize (s : State) (via : Via) (residual : List (Nat × Nat)) (w : Word) : Verdict :=
  let v := w.toNat
  let scope := v / 2 ^ 28
  let l := sanitizeTiles v
  let h := halfOf (bitsOf v 16 1)
  if bitsOf v 17 11 ≠ 0 then .refuse 0x2004 0
  else if (scope = 1 ∨ scope = 2) ∧ 0x20 < bitsOf v 8 8 ∨ scope = 1 ∧ 0x21 < bitsOf v 0 8 then .refuse 0x2001 0
  else if scope = 0 ∨ 4 < scope then .refuse 0x2003 0
  else if scope = 4 ∧ s.ownerSession via = false then .refuse 0x5001 0
  else if scope ≠ 4 ∧ s.fenced h = true then .refuse 0x3004 0
  else if scope ≠ 4 ∧ s.runs h = false ∨ s.anyOwned l = true then .refuse 0x3001 0
  else .accept (.commitOnly 0x9060 0x01) (Config.estimate (dkey 0 0x9060 0x01)) (fun s =>
    let s := if scope = 4 then s.sanitizeModule residual
      else l.foldl (fun x p => x.sanitizeTile residual p) s
    { s with sec := { s.sec with sanitizing := some (residualIn residual l, v) } })

/-- Final status of the sanitize that ends. -/
def State.sanitizeStatus (s : State) : Nat :=
  match s.sec.sanitizing with
  | some (_ + 1, _) => 0x4003
  | _ => 0x0000

/-- Release of ownership (R467). -/
def State.actRelease (s : State) (residual : List (Nat × Nat)) (w : Word) : Verdict :=
  if w ≠ 1 then .refuse 0x2003 0
  else if !s.ctxs.isEmpty then .refuse 0x3001 0
  else .accept (.commitOnly 0x9020 0x17) (Config.estimate (dkey 0 0x9020 0x17)) (fun s =>
    let s := s.sanitizeModule residual
    let xs := s.sec.sessions.map (fun (x : Session) => { x with rooted := false })
    let s := { s with sec := { s.sec with sealKeys := [], pk0 := PKeys.empty, pk1 := PKeys.empty,
                                          ownerRoot := [], sessions := xs,
                                          sanitizing := some (residualIn residual (sanitizeTiles (4 * 2 ^ 28)), 4 * 2 ^ 28) } }
    let s := [HalfId.h0, HalfId.h1].foldl (fun t h =>
      let t := (t.put (pkIndex h) 0x0F 0).showKeys h
      t.putsAt 0 (pick h 0x9040 0x9041) 0x01 (List.replicate 64 0)) s
    ((s.put 0x9020 0x01 0).put 0x9020 0x0B 0).putsAt 0 0x9020 0x03 (List.replicate 8 0))

/-! ### Confidential contexts (R468) -/

/-- The requester of a session is the one that a confidential context is bound to (R468). -/
def State.sameRequester (s : State) (via : Via) (n : Nat) : Bool :=
  match s.ctx n, via.session.bind s.session with
  | some c, some x => c.confidential && c.requester == sha256Bytes x.requester
  | _, _ => false

def State.actRebind (s : State) (via : Via) (n : Nat) (w : Word) : Verdict :=
  if w ≠ 1 then .refuse 0x2003 0
  else match s.ctx n, via.session.bind s.session with
    | some c, some x =>
      if c.state ≠ stHold ∨ s.hasReason n rTsp = false then .refuse 0x3001 0
      else .apply (((s.setCtx { c with session := some x.id }).clearReason n rTsp).noteFacts n)
    | _, _ => .refuse 0x5001 0

def State.actIdeHold (s : State) (n : Nat) (w : Word) : Verdict :=
  if w ≠ 1 then .refuse 0x2003 0
  else if s.val 0xA002 0x01 % 8 ≠ 3 ∨ s.ctxState n ≠ stHold ∨ s.hasReason n rIde = false then .refuse 0x3001 0
  else .apply (s.clearReason n rIde)

/-! ### Statements and service commands (R480, R481) -/

/-- The statement over a context's ledger head, before its signature. -/
def State.statementFront (s : State) (c : Ctx) (leaf : Nat) : List Byte :=
  natBytes 4 0x4B535447 ++ natBytes 4 1 ++ natBytes 8 (s.val64 0x0000 0x06) ++ natBytes 2 c.n ++ natBytes 2 0 ++
  natBytes 4 leaf ++ natBytes 8 c.ledgerStep ++ s.chainHead c.n ++ (s.regsAt 0 0x9070 0x02 8).flatMap wordBytes

def State.actSign (s : State) (via : Via) (w : Word) : Verdict :=
  let n := s.val 0x9070 0x01
  if w ≠ 1 then .refuse 0x2003 0
  else match s.ctx n with
    | none => .refuse 0x3001 0
    | some c =>
      if c.confidential && !s.boundSession via n then .refuse 0x5001 0
      else if !s.ledgerOn n then .refuse 0x3001 0
      else match s.signStatus with
        | 0 => .accept (.commitOnly 0x9070 0x03) 2000 (fun s =>
            let front := s.statementFront c s.nextLeaf
            let full := front ++ signature s.nextLeaf front
            State.useLeaf { s with sec := { s.sec with statement := full } })
        | bad => .refuse bad 0

/-- Clears probation and the suspect table (R414). -/
def State.clearProbation (s : State) : State :=
  let s := (s.put 0x7021 0x01 0).put64 0x7021 0x02 0
  s.dropKeys (fun k => keyIndex k == 0x7020 && keySub k != 0x02)

/-- A service command; the nonce is drawn afresh whatever the outcome, so that without entropy the command is refused
(R454, assumption 59, DEDUCED). -/
def State.actService (s : State) (l : List Byte) : Verdict :=
  let nonce := (s.regsAt 0 0x9070 0x0C 4).flatMap wordBytes
  let key := (l.drop 32).take 60
  let bad :=
    if l.length ≠ 5488 ∨ fieldAt l 0 4 ≠ 0x4B535643 then 0x1005
    else if sha256Bytes key ≠ Config.serviceRoot ∨ Config.serviceSigned key (l.take 92) (l.drop 92) = false then
      0x5002
    else if fieldAt l 8 8 ≠ s.val64 0x0000 0x06 ∨ (l.drop 16).take 16 ≠ nonce ∨ fieldAt l 4 4 ≠ 1 then 0x2003
    else 0
  if !s.sec.entropyOk then .refuse 0x4002 0
  else if bad ≠ 0 then .counted bad s.drawServiceNonce
  else .apply s.clearProbation.drawServiceNonce

end Sys2Proof.Machine
end

