-- ==== Sys2Proof/Machine/Resets.lean ====
section
/-! DEFINITION. The lead's move, the replace request's commands, the half reset, the tile reset and the
plumb checks (R26, R33, R415, R504 to R511). -/

namespace Sys2Proof.Machine

open Sys2Proof

/-! ### Moving the lead (R26, R522) -/

/-- The lead moves to a half at the next epoch; writes of the former holder that wait are refused. -/
def State.moveLead (s : State) (h : HalfId) : State :=
  let s := s.refuseHeld.setHolder (halfNum h)
  let s := s.modHalf h (fun c => { c with believed := s.epoch + 1 })
  (s.put 0x0040 0x02 (s.epoch + 1)).epochCheck

/-- Why the lead cannot move to a half; 0 if it can. -/
def State.leadStatus (s : State) (h : HalfId) : Nat :=
  if s.fenced h then 0x3004
  else if !s.runs h then 0x3001
  else if epochLast ≤ s.epoch then 0x2001
  else 0

def State.actMoveLead (s : State) (w : Word) : Verdict :=
  let h := halfOf w.toNat
  if 1 < w.toNat then .refuse 0x2003 0
  else if s.holder = w.toNat then .apply s
  else match s.leadStatus h with
    | 0 => .apply (s.moveLead h)
    | bad => .refuse bad 0

/-! ### The replace request (R32, R33, R415) -/

/-- The condition behind a set reason bit still holds. -/
def State.reasonStands (s : State) (h : HalfId) (b : Nat) : Bool :=
  s.flag 0x0080 (0x01 + halfNum h) b &&
  (match b with
   | 0 => decide (s.val 0x7002 0x02 < s.val (pick h 0x7000 0x7001) 0x01)
   | 1 | 2 => true
   | 3 => !(s.runs h && s.fence h == 0)
   | 4 => s.flag 0x7021 0x01 0
   | _ => false)

/-- Reason bits a word names. -/
def reasonBits (w : Nat) : List Nat := (List.range 6).filter (fun b => bitsOf w b 1 == 1)

def State.actReplaceClear (s : State) (w : Word) : Verdict :=
  let v := w.toNat
  let h := halfOf (v / 2 ^ 16)
  if bitsOf v 6 10 ≠ 0 then .refuse 0x2004 0
  else if 1 < v / 2 ^ 16 then .refuse 0x2003 0
  else if (reasonBits v).any (s.reasonStands h) then .refuse 0x3001 0
  else .apply (s.clearReplace h (reasonBits v))

def State.actReplaceRaise (s : State) (w : Word) : Verdict :=
  let v := w.toNat
  let h := halfOf (v / 2 ^ 16)
  if bitsOf v 6 10 ≠ 0 then .refuse 0x2004 0
  else if 1 < v / 2 ^ 16 ∨ bitsOf v 0 5 ≠ 0 then .refuse 0x2003 0
  else if bitsOf v 5 1 = 0 ∨ s.flag 0x0080 (0x01 + halfNum h) 5 = true then .apply s
  else .apply (s.raiseReplace h 5)

/-! ### Half reset (R505) -/

/-- Every context of the half is reset (R144); a half whose bridge or power is gone sends no retracts. -/
def State.resetContexts (s : State) (h : HalfId) (quiet : Bool) : State :=
  (s.ctxsOf h).foldl (fun t n =>
    let t := t.stopCtx n true
    let t := if quiet then t else t.retractAll n
    (t.settle n false).release n []) s

/-- Steps 1 to 5 of a half reset, up to the half's start. A fenced or tripped half takes its hold level back
and waits at it for the leader's next split (R29, R437). -/
def State.resetHalf (s : State) (h : HalfId) (found : List (BitVec 64)) : State :=
  let o := otherHalf h
  let kept := (s.half h).awaitSplit
  let quiet := s.fenced h || (s.half h).phase == .tripped
  let s := s.bump 0xF010 (0x03 + halfNum h)
  let s := if s.holder = halfNum h then
      (if s.leadStatus o = 0 then s.moveLead o else (s.setHolder 0xFF).refuseHeld)
    else s
  let s := s.resetContexts h quiet
  let byReset := (s.half h).phase != .starting || (s.half h).byReset
  let s := (s.dropHalf h).setFence h 3
  let s := ((s.loseHalf h).railsOff h .off).dropEnables h
  let s := s.modHalf h (fun c => { c.noCal with confirmed := true, awaitSplit := kept || quiet, calStart := false,
                                                updates := [], tier1 := [] })
  s.beginHalf h byReset found

def State.actHalfReset (s : State) (found : List (BitVec 64)) (w : Word) : Verdict :=
  let v := w.toNat
  let h := halfOf v
  if v % 2 ^ 16 ≠ v ∨ bitsOf v 9 7 ≠ 0 ∨ bitsOf v 1 7 ≠ 0 then .refuse 0x2004 0
  else if s.busyHalf h && bitsOf v 8 1 == 0 && !s.fenced h && s.railsOn h then .refuse 0x3001 0
  else .accept (.action 0xF010 0x01 (halfNum h)) 3500000 (fun s => s.resetHalf h found)

/-! ### Tile reset (R506) -/

/-- The tile's owner is in RUN or SEALING. -/
def State.ownerGoing (s : State) (p : Nat) : Bool :=
  match s.fabric.logical p with
  | some l => (match s.ownerOf l with | some c => c.going | none => false)
  | none => false

/-- Pending calibration registers of a tile return to default. -/
def State.clearPending (s : State) (p : Nat) : State :=
  s.dropKeys (fun k =>
    (keyIndex k == 0x2010 && keyUnit k == setUnit p 1 && decide (0x03 ≤ keySub k)) ||
    (keyIndex k == 0x2011 && keyUnit k / 2 ^ 36 == p && keyUnit k % 2 ^ 18 == 1 && decide (0x04 ≤ keySub k)))

def State.actTileReset (s : State) (w : Word) : Verdict :=
  let p := w.toNat
  if s.tileBusy p || s.ownerGoing p then .refuse 0x3001 0
  else
    let old := s
    let s := (s.clearPending p).modTile p (fun t =>
      { t with inRing := [], outRing := [], partials := [], flight := [], pool := [], dirty := false,
               calProduct := none, calAgain := false })
    .apply (((s.ringLevels p).countGap old p).bump 0xF010 0x05)

/-! ### Plumb checks (R509 to R511) -/

def plumbIndex : Nat := 0xF021

def State.plumbState (s : State) (p : Nat) : Nat := s.valAt p plumbIndex 0x02

/-- The tile has an owner, whose steps count toward its checks. -/
def State.plumbOwned (s : State) (p : Nat) : Bool :=
  match s.fabric.logical p with
  | some l => (s.ownerOf l).isSome
  | none => false

/-- PLUMB_DUE: an owned tile by its owner's steps, another when the idle interval has passed. -/
def execPlumbDue (tile : Nat) (s : State) : Result :=
  onPower s (fun s =>
    if s.runs (halfOf (tileHalf tile)) && isPhysTile tile && decide (s.tileRole tile ≤ 2) &&
        s.plumbState tile == 0 &&
        (!s.plumbOwned tile || decide (s.val 0xF020 0x01 ≤ s.valAt tile plumbIndex 0x03)) then
      (s.putAt tile plumbIndex 0x02 1).modTile tile (fun t =>
        { t with plumbDueAt := s.valAt tile plumbIndex 0x03 })
    else s)

/-- A check ends: the steps count anew; a tile served by a spare stays so until its owner's step is over. -/
def State.plumbEnds (s : State) (p result : Nat) : State :=
  let s := (s.putAt p plumbIndex 0x03 0).putAt p plumbIndex 0x04 (toWord result)
  if s.plumbState p = 3 then s else s.putAt p plumbIndex 0x02 0

/-- PLUMB_CHECK: a failing V2 asks for calibration, a failing V1 or V3 retires the tile (R509, R187). -/
def execPlumbCheck (tile : Nat) (v1Fail v2Fail v3Fail : Bool) (s : State) : Result :=
  onPower s (fun s =>
    if !s.runs (halfOf (tileHalf tile)) || s.plumbState tile == 0 || s.tileBusy tile || s.inSanitize tile ||
        (s.tile tile).programming then s
    else if v1Fail || v3Fail then
      let s := s.plumbEnds tile 2
      match s.addressMap.logical tile with
      | some _ => s.retireUnit tile
      | none => (s.markUnusable tile).log { cls := clsWarning, unit := unitTile tile }
    else if v2Fail then (s.plumbEnds tile 1).monitor tile 1 true
    else (s.plumbEnds tile 0).bumpAt tile plumbIndex 0x05)

/-- PLUMB_RELOCATE: a check that the owner's steps have kept waiting for the deferral limit moves the tile's
work to a spare for one step; with none, the tile keeps serving. -/
def execPlumbRelocate (tile : Nat) (s : State) : Result :=
  onPower s (fun s =>
    let st := s.plumbState tile
    let late := decide ((s.tile tile).plumbDueAt + s.val 0xF020 0x02 ≤ s.valAt tile plumbIndex 0x03)
    match s.fabric.logical tile with
    | none => s
    | some l =>
      if !s.runs (halfOf (tileHalf tile)) || !(st == 1 || st == 4) || !late || !s.plumbOwned tile ||
          !s.mayRelocate tile l then s
      else match s.relocationSpare l with
        | some q => ((s.relocate tile l q).putAt tile plumbIndex 0x02 3).bumpAt tile plumbIndex 0x06
        | none =>
          let s := (s.putAt tile plumbIndex 0x02 4).modTile tile (fun t =>
            { t with plumbDueAt := s.valAt tile plumbIndex 0x03 })
          s.log { cls := clsWarning, unit := unitTile tile })

end Sys2Proof.Machine
end

