-- ==== Sys2Proof/Machine/HostPort.lean ====
section
/-! DEFINITION. The host port (chapter 03): device memory, snoops, configuration, resets of the port, the
status shadow, IDE and TSP, interrupt vectors, and the MCTP endpoint's control messages (R59 to R81, R121,
R160, R432, R468). -/

namespace Sys2Proof.Machine

open Sys2Proof

/-! ### Device memory (R64 to R67, R432) -/

/-- A half serves CXL.mem: it runs, is not fenced, is not held in Retain, and its decoder is committed. -/
def State.servesMem (s : State) (h : HalfId) : Bool :=
  s.runs h && (s.half h).memActive && !s.fenced h && !s.retainHeld && (s.fn (halfFn h)).decCommitted

/-- A CXL.mem request wakes the module from Retain (R432, R433). -/
def State.memWakes (s : State) : State :=
  if s.retainHeld then s
  else match s.key.trans with
    | some t => if t.target = 2 then s.wakeEvent else s
    | none => if s.val 0x1010 0x01 = 2 then s.wakeNow else s

/-- A read completes with poison, counted by half. -/
def State.poisonRead (s : State) (h : HalfId) : State :=
  (s.emit (.memData [] true)).bump 0xA004 (0x01 + halfNum h)

/-- The request arrives over IDE in the TSP session bound to the context. -/
def State.boundMem (s : State) (c : Ctx) (session : Option Nat) (ide : Bool) : Bool :=
  ide && s.flag 0xA002 0x01 1 && session.isSome && session == c.session &&
  (match session.bind s.session with
   | some x => x.tspFn == some (halfFn c.half)
   | none => false)

/-- The line belongs to a confidential context that the request is not bound to. -/
def State.barredMem (s : State) (h : HalfId) (a : Nat) (session : Option Nat) (ide : Bool) : Bool :=
  match s.claimant h a with
  | some c => c.confidential && !s.boundMem c session ide
  | none => false

def State.setDir (s : State) (h : HalfId) (l : List Nat) : State :=
  match h with
  | .h0 => { s with port := { s.port with dir0 := l } }
  | .h1 => { s with port := { s.port with dir1 := l } }

/-- Lines that a directory tracks (R65). -/
def dirSize : Nat := 4194304

/-- The host holds a line from now on, as the one tracked last. -/
def State.track (s : State) (h : HalfId) (l : Nat) : State := s.setDir h ((s.dir h).filter (· != l) ++ [l])

/-- Serves a read of a line: its data, or poison. -/
def State.lineRead (s : State) (h : HalfId) (l : Nat) : State :=
  if s.port.poisoned.contains (h, l) then s.poisonRead h
  else (s.track h l).emit (.memData (s.hbmRead h (l * 64) 64) false)

/-- A read of HDM by the host; a full directory lets go of its least recently tracked line first. -/
def State.memRead (s : State) (h : HalfId) (l : Nat) (session : Option Nat) (ide : Bool) : State :=
  if !s.servesMem h || decide (hbmSize ≤ l * 64) then s.poisonRead h
  else if s.barredMem h (l * 64) session ide then (s.poisonRead h).bump 0xA004 0x04
  else if (s.dir h).contains l || decide ((s.dir h).length < dirSize) then s.lineRead h l
  else match s.dir h with
    | v :: _ =>
      let x : Snoop := { half := h, line := v, ctx := none, hostOwned := false,
                         reader := some (l, session, ide) }
      State.emit { s with port := { s.port with snoops := s.port.snoops ++ [x] } } (.bisnp h v)
    | [] => s.lineRead h l

/-- CXL_MEM_READ of the line that holds an HDM byte offset. -/
def execCxlMemRead (h : HalfId) (offset : Nat) (session : Option Nat) (ide : Bool) (s : State) : Result :=
  onPower s (fun s => s.memWakes.memRead h (offset / 64) session ide)

/-- CXL_MEM_WRITE of bytes of one line. R7 and R314 forbid the host to write a backward area of a context in RUN, HOLD
or SEALING, and state no behaviour of such a write, which carries no status: it is performed (assumption 35, DESIGN
CHOICE). -/
def execCxlMemWrite (h : HalfId) (offset : Nat) (data : List Byte) (session : Option Nat) (ide : Bool)
    (s : State) : Result :=
  onPower s (fun s =>
    let s := s.memWakes
    let data := data.take (64 - offset % 64)
    if !s.servesMem h || decide (hbmSize ≤ offset) then (s.bump 0xA004 0x05).emit .memDone
    else if s.barredMem h offset session ide then (s.bump 0xA004 0x04).emit .memDone
    else
      let s := if data.length = 64 then s.unpoison h (fun l => l == offset / 64) else s
      (s.hbmWrite h offset data).emit .memDone)

/-- Input tensors of a waiting context that lie in a line are read again. -/
def State.reloadLine (s : State) (n line : Nat) : State :=
  match s.ctx n with
  | none => s
  | some c =>
    let ds := c.decls.filter (fun d => !c.linked d.id && !c.layers.any (fun L => L.output == d.id) &&
      lineIn (declSpans d) line && (c.tensor d.id false).isSome)
    ds.foldl (fun t d =>
      let q := t.readDecl c.half d (feedsTiles c.layers d.id)
      t.modCtx n (fun x => x.setTensor q.1)) s

/-- What waited for a snoop goes on: a context reads the line, as host writes and the answer have left it (R66), or the
tables that it lies in; a host read finds room in the directory. -/
def State.snoopEnds (s : State) (x : Snoop) : State :=
  let s := match x.ctx with
    | some n => ((s.reloadLine n x.line).rereadTables n).tryStep n
    | none => s
  match x.reader with
  | some (l, session, ide) => s.memRead x.half l session ide
  | none => s

/-- BIRSP: the host answers a snoop, with the line's data if it held it changed. Everything that waited for the line
goes on. -/
def execBirsp (h : HalfId) (line : Nat) (data : Option (List Byte)) (s : State) : Result :=
  onPower s (fun s =>
    match s.port.snoops.filter (fun x => x.half == h && x.line == line) with
    | [] => s
    | l =>
      let s := { s with port := { s.port with
        snoops := s.port.snoops.filter (fun y => !(y.half == h && y.line == line)) } }
      let s := s.setDir h ((s.dir h).filter (· != line))
      let s := match data with
        | some b => (s.unpoison h (fun k => k == line)).hbmWrite h (line * 64) (b.take 64)
        | none => s
      l.foldl (fun t x => t.snoopEnds x) s)

/-- BISNP_TIMEOUT: 100 µs without an answer; the line is host-owned for the step. -/
def execBisnpTimeout (h : HalfId) (line : Nat) (s : State) : Result :=
  onPower s (fun s =>
    if s.port.snoops.any (fun x => x.half == h && x.line == line && !x.hostOwned) then
      let l := s.port.snoops.map (fun (x : Snoop) =>
        if x.half == h && x.line == line then { x with hostOwned := true } else x)
      State.bump { s with port := { s.port with snoops := l } } 0xA004 0x03
    else s)

/-- BISNP_FAULT: 10 ms without an answer; the waiting strand's context faults. -/
def execBisnpFault (h : HalfId) (line : Nat) (s : State) : Result :=
  onPower s (fun s =>
    let waits := fun (x : Snoop) => x.half == h && x.line == line && x.hostOwned && x.ctx.isSome
    let l := (s.port.snoops.filter waits).filterMap (·.ctx)
    l.foldl (fun t n =>
      (t.enterFault n rBisnp).log { cls := clsWarning, unit := unitManager h, ctx := n, obj := counter 0xA004 0x03 })
      { s with port := { s.port with snoops := s.port.snoops.filter (fun (x : Snoop) => !waits x) } })

/-- HDM_DECODER_COMMIT (R60, R64, R73, R495, R496). That a misaligned base fails as another interleave setting does, and
that a failed commit leaves an earlier one standing, is DESIGN CHOICE (assumption 36). -/
def execHdmDecoderCommit (h : HalfId) (base ways : Nat) (s : State) : Result :=
  onPower s (fun s =>
    let f := halfFn h
    let c := s.fn f
    if s.fenced h || !(s.half h).memActive || c.tspLocked then s.emit .abort
    else if s.val 0xA001 0x03 = 0 ∨ base % 2 ^ 28 ≠ 0 ∨ ways ≠ 1 then s.setFn f { c with decError := true }
    else s.setFn f { c with decCommitted := true, decBase := base, decError := false })

/-! ### Device cache (R68 to R70) -/

/-- A streaming context of a half holds the line as its producer line (R157). -/
def State.producerLine (s : State) (h : HalfId) (a : Nat) : Bool :=
  s.ctxs.any (fun c => c.half == h && s.streaming c.n && (c.going || c.state == stHold) &&
    lineStart (s.val64 (cidx c.n) 0x45) == a)

/-- HOST_SNOOP: answered from the device cache. A half whose producer line is taken away reads it again (R157). -/
def execHostSnoop (addr : Nat) (kind : SnoopKind) (s : State) : Result :=
  onPower s (fun s =>
    let a := lineStart addr
    match s.port.cache.filter (fun l => l.addr == a) with
    | [] => s.emit (.snoopAnswer none)
    | l :: more =>
      let rest := s.port.cache.filter (fun x => x.addr != a)
      let kept := (l :: more).map (fun (x : CacheLine) => { x with dirty := false })
      let s := s.emit (.snoopAnswer (some (((l :: more).find? (·.dirty)).getD l).data))
      match kind with
      | .data => { s with port := { s.port with cache := rest ++ kept } }
      | .invalidate =>
        [HalfId.h0, HalfId.h1].foldl (fun t h => if t.producerLine h a then t.request h .rdShared a [] else t)
          { s with port := { s.port with cache := rest } })

/-- Writes a partition's dirty lines back and keeps its lines. -/
def State.writeBack (s : State) (h : HalfId) : State :=
  let s := s.d2hDrain h
  let dirty := s.port.cache.filter (fun l => l.half == h && l.dirty)
  let s := dirty.foldl (fun t l => t.emit (.d2h h { kind := .dirtyEvict, addr := l.addr, data := l.data })) s
  let s := s.add64 0xA003 0x04 dirty.length
  { s with port := { s.port with cache := s.port.cache.map (fun (l : CacheLine) =>
      if l.half == h then { l with dirty := false } else l) } }

/-- The partition of half 0 in KiB (R69). A refused write starts the write-back. -/
def State.actPartition (s : State) (w : Word) : Verdict :=
  let v := w.toNat
  if 3584 < v then .refuse 0x2001 0
  else if v < 512 then .refuse 0x2002 0
  else if v % 256 ≠ 0 then .refuse 0x2003 0
  else if s.port.cache.any (·.dirty) then
    .counted 0x6001 ((s.writeBack .h0).writeBack .h1)
  else .apply (s.put 0xA003 0x03 v)

/-! ### IDE and TSP (R71 to R73, R468) -/

/-- A reason arises for a context; the companions of one that was running hold with it. -/
def State.bindHold (s : State) (n b : Nat) : State :=
  let was := (s.ctx n).map (·.going)
  let s := s.reasonHold n b true
  if was = some true then s.holdCompanions n else s

/-- Brings 0xA002.01 up to date: bits 0 and 1 the secure streams, bit 2 while a stream is insecure after a failure. -/
def State.showIde (s : State) : State :=
  s.put 0xA002 0x01 ((if s.port.ideKeys.contains .io then 1 else 0) +
    (if s.port.ideKeys.contains .cacheMem then 2 else 0) + (if s.port.ideFailed = [] then 0 else 4))

/-- IDE_KEY_PROGRAM: keys wait for the refresh point. That each stream's keys serve that stream alone is DESIGN CHOICE
(assumption 61: R71 does not say which streams a programming serves). -/
def execIdeKeyProgram (via : Via) (stream : IdeStream) (s : State) : Result :=
  onPower s (fun s =>
    if via.path == .doe && s.secured via then
      { s with port := { s.port with idePending := s.port.idePending.filter (· != stream) ++ [stream] } }
    else s.answer via.path 0 0xA002 0x01 0 0x5001)

/-- IDE_KEY_REFRESH: programmed keys take effect for the streams they were programmed for (assumption 61, DESIGN
CHOICE); keys anew end a stream's insecure state. -/
def execIdeKeyRefresh (s : State) : Result :=
  onPower s (fun s =>
    let l := s.port.idePending
    if l = [] then s
    else
      State.showIde { s with port := { s.port with
        idePending := [],
        ideKeys := s.port.ideKeys.filter (fun (x : IdeStream) => !l.contains x) ++ l,
        ideFailed := s.port.ideFailed.filter (fun (x : IdeStream) => !l.contains x) } })

/-- IDE_INTEGRITY_FAILURE (R72) on a stream that IDE secures. -/
def execIdeIntegrityFailure (stream : IdeStream) (s : State) : Result :=
  onPower s (fun s =>
    if !s.port.ideKeys.contains stream then s
    else
      let s := State.showIde { s with port := { s.port with
        ideKeys := s.port.ideKeys.filter (· != stream),
        ideFailed := s.port.ideFailed.filter (· != stream) ++ [stream] } }
      let s := s.bump 0xA002 0x03
      let s := (s.ctxs.filter (·.confidential)).foldl (fun t c => t.bindHold c.n rIde) s
      s.log { cls := clsFailure, unit := unitKeystone, obj := counter 0xA002 0x03 })

/-- Contexts bound to a half function's TSP session hold with h_tsp. -/
def State.tspHold (s : State) (h : HalfId) : State :=
  (s.ctxs.filter (fun c => c.half == h && c.session.isSome)).foldl (fun t c => t.bindHold c.n rTsp) s

/-- TSP_ERROR. -/
def execTspError (h : HalfId) (s : State) : Result := onPower s (fun s => s.tspHold h)

/-- TSP answers: taken, or in error. -/
def ansTsp : Nat := 6

/-- TSP_REQUEST: the first of a session fixes its function; another function's is answered with a TSP error. -/
def execTspRequest (id : Nat) (fn : Fn) (lock : Option Bool) (s : State) : Result :=
  onPower s (fun s =>
    match s.session id with
    | none => s
    | some x =>
      if x.path != .doe || fn == .f0 || (x.tspFn.isSome && x.tspFn != some fn) then
        s.emit (.spdmError spdmInvalid)
      else
        let y : Session := { x with tspFn := some fn }
        let l := replaceBy (fun (z : Session) => z.id == id) y s.sec.sessions
        let s := { s with sec := { s.sec with sessions := l } }
        let s := match lock with
          | some b => s.setFn fn { s.fn fn with tspLocked := b }
          | none => s
        s.emit (.spdm ansTsp id []))

/-! ### Resets of the port (R74 to R76, R508) -/

/-- Keystone-owned P0 words that report something gathered and are read-only. -/
def gatheredWords : List (Nat × Nat) :=
  [(0x0010, 0x01), (0x0010, 0x02), (0x0010, 0x03), (0x0010, 0x04), (0x0010, 0x05), (0x1010, 0x07),
   (0x1010, 0x08), (0x9010, 0x03), (0x9070, 0x04), (0xF000, 0x08), (0xF001, 0x03)]

/-- A P0 word that holds something written or gathered (R115). -/
def gathered (k : Nat) : Bool :=
  match findRow (keyIndex k) (keySub k) with
  | some r => r.per == .p0 && (r.acc != .ro || gatheredWords.contains (keyIndex k, keySub k))
  | none => false

/-- Keystone-owned P0 values return to default. -/
def State.dropGathered (s : State) : State :=
  let s := s.dropKeys (fun k => s.keyHalf k == none && gathered k)
  { s with key := { s.key with staged := none, recovery := [] }, sec := { s.sec with statement := [] } }

/-- The DOE object and, if asked, the window access in flight are aborted. -/
def State.abortPaths (s : State) (p : Path → Bool) : State :=
  { s with svc := { s.svc with
      latches := s.svc.latches.filter (fun x => !p x.path),
      stagings := s.svc.stagings.filter (fun x => !p x.path),
      domWrites := s.svc.domWrites.filter (fun x => !p x.path),
      snapshots := s.svc.snapshots.filter (fun x => !p x.path) } }

/-- A reset that reaches the halves wakes a module in Retain that may wake (R432). -/
def State.resetWakes (s : State) : State := s.memWakes

/-- The widths, rates and flit modes that the link trains to (R59). -/
def linkSupported (l : LinkTrain) : Bool :=
  [16, 8, 4].contains l.width && [64, 32, 16, 8, 2].contains l.rate && decide (l.flit ≤ 2) &&
    !(l.flit == 0 && l.rate == 64)

/-- The link has trained; one that found no setting that the P9 supports stays down (R59, R81). -/
def State.trainLink (s : State) (l : LinkTrain) : State :=
  if linkSupported l then
    (((s.put 0xA001 0x01 l.width).put 0xA001 0x02 l.rate).put 0xA001 0x03 l.flit).put 0xA001 0x04 l.lanes.toNat
  else s.put 0xA001 0x01 0

/-- The effects of a host reset (R74): the link is down and trains anew. IDE is insecure: no stream is secure and none
has failed (assumption 37, DESIGN CHOICE: the spec does not say what becomes of bit 2); the latches, stagings and
snapshots of the window go with the DOE object in flight (assumption 38, DESIGN CHOICE). -/
def State.hostReset (s : State) (link : LinkTrain) : State :=
  let held := s.retainHeld
  let s := s.resetWakes
  let s := (s.flushCache .h0).flushCache .h1
  let s := (s.setFn .f0 FnState.cold).setFn .f1 FnState.cold |>.setFn .f2 FnState.cold
  let s := State.showIde { s with port := { s.port with ideKeys := [], idePending := [], ideFailed := [], vectors := [] } }
  let s := ((s.bump 0xA001 0x05).trainLink link).abortPaths (fun p => p == .doe || p == .bar2)
  let s := if held then s else (s.tspHold .h0).tspHold .h1
  s.dropGathered

/-- HOST_RESET: PERST# waits for a keystone firmware commit, the link held in training (R76). -/
def execHostReset (kind : HostResetKind) (link : LinkTrain) (s : State) : Result :=
  onPower s (fun s =>
    if kind = .perst ∧ (s.pendingOn 0x9010 0x04 0).isSome = true then
      State.put { s with key := { s.key with resetHeld := some link } } 0xA001 0x01 0
    else s.hostReset link)

/-- Uncommits a half function's decoder and resets its TSP state. -/
def FnState.uncommit (c : FnState) : FnState :=
  { c with decCommitted := false, decError := false, tspLocked := false }

/-- Memory clear: every context is reset and the running halves' HBM is zeroed. -/
def State.memoryClear (s : State) : State :=
  [HalfId.h0, HalfId.h1].foldl (fun t h =>
    if t.runs h && !t.fenced h then ((t.resetContexts h false).setHbm h []).unpoison h (fun _ => true)
    else t) s

/-- CXL_RESET (R75, R432). -/
def execCxlReset (memClear : Bool) (s : State) : Result :=
  onPower s (fun s =>
    let held := s.retainHeld
    let s := s.resetWakes
    let s := (s.flushCache .h0).flushCache .h1
    let s := s.setFn .f0 { s.port.f0 with tspLocked := false }
    let s := (s.setFn .f1 s.port.f1.uncommit).setFn .f2 s.port.f2.uncommit
    let s := if memClear && !held then s.memoryClear else s
    let s := { s with port := { s.port with resetError := memClear && held } }
    let s := if held then s else (s.tspHold .h0).tspHold .h1
    s.dropGathered)

/-- Half of a half function. -/
def fnHalf (f : Fn) : Option HalfId :=
  match f with
  | .f0 => none
  | .f1 => some .h0
  | .f2 => some .h1

/-- A function-level reset (R74). -/
def State.functionReset (s : State) (f : Fn) : State :=
  let s := { s with port := { s.port with vectors := s.port.vectors.filter (fun v => v.1 != f) } }
  match fnHalf f with
  | none =>
    let s := (s.setFn .f0 { FnState.cold with tspLocked := s.port.f0.tspLocked }).abortPaths
      (fun p => p == .doe || p == .bar2)
    s.dropKeys (fun k => keyIndex k == 0x0010 && gathered k)
  | some h =>
    if s.fenced h then s.emit .abort
    else
      let held := s.retainHeld
      let s := s.resetWakes
      let c := s.fn f
      let s := s.setFn f { FnState.cold with decCommitted := c.decCommitted, decBase := c.decBase }
      let s := s.writeBack h
      if held then s else s.tspHold h

/-- FUNCTION_LEVEL_RESET; `fromD3` is the return from D3hot, which asks for a function in it (R63). -/
def execFunctionLevelReset (fn : Fn) (fromD3 : Bool) (s : State) : Result :=
  onPower s (fun s =>
    if fromD3 && (fn == .f0 || !(s.fn fn).d3hot) then s else s.functionReset fn)

/-! ### The status shadow (R77 to R80) -/

/-- Source of a shadow field, by its number n at offset 0x010 + 4n. -/
def State.shadowSource (s : State) (n : Nat) : Nat :=
  match n with
  | 0 => s.holder
  | 1 => s.epoch
  | 2 => s.fence .h1 * 256 + s.fence .h0
  | 3 => s.val 0x0100 0x0D * 256 + s.val 0x1010 0x01
  | 4 => s.val 0x1016 0x01 % 64 * 65536 + s.val 0x1015 0x01 % 64
  | 5 => s.val 0x7001 0x01 % 256 * 256 + s.val 0x7000 0x01 % 256
  | 6 => s.val 0x0080 0x01
  | 7 => s.val 0x0080 0x02
  | 8 =>
    let hot := max (s.reg 0x1014 0x02).toInt (max (s.reg 0x1014 0x03).toInt (s.reg 0x1014 0x04).toInt)
    (BitVec.ofInt 32 hot).toNat
  | 9 =>
    (if s.flag 0xF000 0x02 0 then 1 else 0) + (if s.runs .h0 then 2 else 0) + (if s.runs .h1 then 4 else 0)
  | _ => 0

/-- A word of the shadow as it stands. -/
def State.shadowWord (s : State) (offset : Nat) : Nat :=
  match offset with
  | 0x000 => 0x4B534844
  | 0x004 => 1
  | 0x008 => s.port.shadowSeq % 2 ^ 32
  | 0x00C => s.port.shadowSeq / 2 ^ 32 % 2 ^ 32
  | _ => ((lookup s.port.shadow offset).getD 0).toNat

/-- SHADOW_READ: 4 or 8 bytes, naturally aligned. -/
def execShadowRead (offset width : Nat) (s : State) : Result :=
  onPower s (fun s =>
    if (width = 4 ∨ width = 8) ∧ offset % width = 0 ∧ offset + width ≤ 0x1000 then
      let hi := if width = 8 then s.shadowWord (offset + 4) else 0
      s.emit (.completion (BitVec.ofNat 64 (s.shadowWord offset + 2 ^ 32 * hi)))
    else s.emit .abort)

/-- SHADOW_WRITE: discarded and counted. -/
def execShadowWrite (_offset _width : Nat) (_value : BitVec 64) (s : State) : Result :=
  onPower s (fun s => s.bump 0xA004 0x06)

/-- SHADOW_UPDATE: a field follows its source, between two increments of the sequence count. -/
def execShadowUpdate (offset : Nat) (s : State) : Result :=
  onPower s (fun s =>
    let n := (offset - 0x010) / 4
    if offset < 0x010 ∨ 9 < n ∨ offset % 4 ≠ 0 then s
    else
      let new := toWord (s.shadowSource n)
      if toWord (s.shadowWord offset) = new then s
      else
        let s := { s with port := { s.port with
          shadow := s.port.shadow.filter (fun (e : Nat × Word) => e.1 != offset) ++ [(offset, new)],
          shadowSeq := s.port.shadowSeq + 2 } }
        if s.flag 0xA001 0x06 n then s.signal .f0 0 else s)

/-! ### Configuration (R61, R63, R73, R495, R496) -/

def fnNum (f : Fn) : Nat :=
  match f with
  | .f0 => 0
  | .f1 => 1
  | .f2 => 2

/-- What a configuration register reads. -/
def State.cfgRead (s : State) (f : Fn) (register : Nat) : Word :=
  let c := s.fn f
  match register with
  | 0x00 =>
    let dev := match f with | .f0 => s.val 0xA000 0x02 | _ => s.val 0xA000 0x03
    toWord (dev % 65536 * 65536 + s.val 0xA000 0x01 % 65536)
  | 0x0C =>
    let w := ((lookup c.cfg register).getD (Config.cfgWord (fnNum f) register)).toNat
    toWord (putBit w 23 (f == .f0 && !s.flag 0xF000 0x02 0))
  | _ => (lookup c.cfg register).getD (Config.cfgWord (fnNum f) register)

/-! ### Capabilities and register blocks (R60 to R63, R75) -/

/-- Size of a function's BAR in bytes, 0 for one that it does not have (R62). -/
def barSize (f : Fn) (bar : Nat) : Nat :=
  match f, bar with
  | .f0, 0 => 4096
  | .f0, 2 => 2 ^ 26
  | .f0, 4 => 2 ^ 17
  | .f1, 0 | .f2, 0 => 2 ^ 17
  | .f1, 2 | .f2, 2 => 2 ^ 16
  | _, _ => 0

/-- MSI-X of a function: BAR, first byte of its table, vectors, first byte of its pending-bit array (R62). -/
def msixSpan (f : Fn) : Nat × Nat × Nat × Nat :=
  match f with
  | .f0 => (4, 0x10000, 64, 0x18000)
  | _ => (2, 0, 2048, 0x8000)

def flagNat (b : Bool) : Nat := if b then 1 else 0

/-- A capability field of a function (R61 to R63). Protocols are bits: DOE discovery, CMA/SPDM, secured CMA/SPDM, CDAT,
Klotrum dictionary; CXL.io, CXL.cache, CXL.mem. A register block is BAR × 2^20 + offset. -/
def State.capability (s : State) (f : Fn) (c : Capability) : Nat :=
  let keystone := f == .f0
  match c with
  | .multiFunction => flagNat (keystone && !s.flag 0xF000 0x02 0)
  | .barSize bar => barSize f bar
  | .bar64 => 1
  | .barPrefetchable => 0
  | .maxPayload => 512
  | .maxReadRequest => 4096
  | .tenBitTags | .extendedTags | .d0 | .d3hot | .advancedErrors => 1
  | .msixVectors => (msixSpan f).2.2.1
  | .msixTable => (msixSpan f).1 * 2 ^ 20 + (msixSpan f).2.1
  | .msixPba => (msixSpan f).1 * 2 ^ 20 + (msixSpan f).2.2.2
  | .doeMailboxes => flagNat keystone
  | .doeObjectBytes => if keystone then 4096 else 0
  | .doeProtocols => if keystone then 31 else 0
  | .ideLinkStreams => flagNat keystone
  | .ideSelectiveStreams => if keystone then 4 else 0
  | .cacheCapable | .memCapable => flagNat (!keystone)
  | .resetCapable | .resetMemClear => flagNat keystone
  | .resetTimeoutMs => if keystone then 100 else 0
  | .hdmCapacity => if keystone || s.val 0xA001 0x03 == 0 then 0 else hbmSize
  | .flexBusProtocols => if keystone then 7 else 0
  | .flexBusFlitMode => if keystone then s.val 0xA001 0x03 else 0
  | .gpfMicroseconds => if keystone then 0 else 2000
  | .gpfWatts => if keystone then 0 else 40
  | .componentRegisters => if keystone then 4 * 2 ^ 20 else 0
  | .deviceRegisters => if keystone then 0 else 0x10000

/-- Where an offset lies in a function's MSI-X table: vector × 4 + word. -/
def msixWord (f : Fn) (bar offset : Nat) : Option Nat :=
  let m := msixSpan f
  if bar = m.1 ∧ m.2.1 ≤ offset ∧ offset < m.2.1 + 16 * m.2.2.1 then some ((offset - m.2.1) / 4) else none

/-- An MSI-X entry as at reset: masked, address and data 0. -/
def msixDefault (k : Nat) : Word := if k % 4 = 3 then 1 else 0

def FnState.msixWord (c : FnState) (k : Nat) : Word := (lookup c.msix k).getD (msixDefault k)

/-- The vector is masked by its table entry. -/
def FnState.masked (c : FnState) (v : Nat) : Bool := bit (c.msixWord (4 * v + 3)) 0

/-- 32 bits of a function's pending-bit array: the masked vectors that wait. -/
def State.pbaWord (s : State) (f : Fn) (j : Nat) : Word :=
  toWord ((List.range 32).foldl (fun a b =>
    if s.port.vectors.contains (f, 32 * j + b) && (s.fn f).masked (32 * j + b) then a + 2 ^ b else a) 0)

/-- A word of the register blocks that a BAR maps: the MSI-X table and its pending bits; any other register, to which
the spec gives no contents, as written, an opaque word before (assumption 39). -/
def State.blockRead (s : State) (f : Fn) (bar offset : Nat) : Word :=
  let c := s.fn f
  let m := msixSpan f
  match msixWord f bar offset with
  | some k => c.msixWord k
  | none =>
    if bar = m.1 ∧ m.2.2.2 ≤ offset ∧ offset < m.2.2.2 + m.2.2.1 / 8 then s.pbaWord f ((offset - m.2.2.2) / 4)
    else (lookup c.regs (bar * 2 ^ 20 + offset)).getD
      (Config.cfgWord (4 + fnNum f) (bar * 2 ^ 20 + offset))

def State.blockWrite (s : State) (f : Fn) (bar offset : Nat) (v : Word) : State :=
  let c := s.fn f
  let m := msixSpan f
  let put := fun (l : List (Nat × Word)) (k : Nat) => l.filter (fun e => e.1 != k) ++ [(k, v)]
  match msixWord f bar offset with
  | some k => s.setFn f { c with msix := put c.msix k }
  | none =>
    if bar = m.1 ∧ m.2.2.2 ≤ offset ∧ offset < m.2.2.2 + m.2.2.1 / 8 then s
    else s.setFn f { c with regs := put c.regs (bar * 2 ^ 20 + offset) }

/-- Stores a configuration register. -/
def State.cfgWrite (s : State) (f : Fn) (register : Nat) (v : Word) : State :=
  let c := s.fn f
  s.setFn f { c with cfg := c.cfg.filter (fun e => e.1 != register) ++ [(register, v)] }

/-- A configuration request that a function serves. -/
def State.cfgServe (s : State) (f : Fn) (register : Nat) (kind : CfgKind) : State :=
  let c := s.fn f
  match kind with
  | .read => s.emit (.cfgValue (s.cfgRead f register))
  | .capability c => s.emit (.cfgValue (toWord (s.capability f c)))
  | .barRead bar offset =>
    if offset % 4 ≠ 0 ∨ barSize f bar < offset + 4 then s.emit .abort
    else if f = .f0 ∧ bar = 0 then s.emit (.completion (BitVec.ofNat 64 (s.shadowWord offset)))
    else s.emit (.completion (BitVec.ofNat 64 (s.blockRead f bar offset).toNat))
  | .barWrite bar offset v =>
    if offset % 4 ≠ 0 ∨ barSize f bar < offset + 4 then s.emit .abort
    else if f = .f0 ∧ bar = 0 then s.bump 0xA004 0x06
    else if c.tspLocked && (msixWord f bar offset).isSome then s.emit .abort
    else s.blockWrite f bar offset v
  | .writeOther v => s.cfgWrite f register v
  | .powerState true => s.setFn f { c with d3hot := true }
  | .powerState false =>
    if c.d3hot then (if f = .f0 then s.setFn f { c with d3hot := false } else s.functionReset f) else s
  | .writeBar v => if c.tspLocked then s.emit .abort else s.cfgWrite f register v
  | .writeDecoder v => if c.tspLocked then s.emit .abort else s.cfgWrite f register v
  | .writeMsix v => if c.tspLocked then s.emit .abort else s.cfgWrite f register v

/-- CONFIGURATION_REQUEST. -/
def execConfigurationRequest (fn : Fn) (register : Nat) (kind : CfgKind) (s : State) : Result :=
  onPower s (fun s =>
    match fnHalf fn with
    | none => s.cfgServe fn register kind
    | some h =>
      if s.flag 0xF000 0x02 0 then s
      else if s.fenced h then s.emit .abort
      else if (s.half h).phase = .starting then s.emit .retryStatus
      else s.cfgServe fn register kind)

/-- VECTOR_SIGNAL: a waiting vector signals (R80, R160); one that its table entry masks stays pending. -/
def execVectorSignal (fn : Fn) (vector : Nat) (s : State) : Result :=
  onPower s (fun s =>
    if s.port.vectors.contains (fn, vector) && !(s.fn fn).masked vector then
      State.emit { s with port := { s.port with vectors := s.port.vectors.filter (fun v => v != (fn, vector)) } }
        (.msix fn vector)
    else s)

/-! ### MCTP on I3C (R121, R99) -/

/-- The I3C secondary is not gated. -/
def State.i3cReady (s : State) : Bool := s.flag 0x1002 0x06 3

/-- ENTDAA: the part takes a dynamic address. -/
def execEntdaa (addr : Nat) (s : State) : Result :=
  onPower s (fun s => if s.i3cReady then { s with svc := { s.svc with i3cAddr := addr } } else s)

/-- Answers an MCTP control message; a gated or unaddressed target acknowledges nothing. -/
def State.mctp (s : State) (kind : Nat) (values : List Nat) (f : State → State) : State :=
  if s.i3cReady && s.svc.i3cAddr != 0 then (f s).emit (.mctp kind values) else s

/-- SET_ENDPOINT_ID. -/
def execSetEndpointId (eid : Nat) (s : State) : Result :=
  onPower s (fun s => s.mctp 0x01 [eid] (fun s => { s with svc := { s.svc with eid := eid } }))

/-- GET_ENDPOINT_ID. -/
def execGetEndpointId (s : State) : Result := onPower s (fun s => s.mctp 0x02 [s.svc.eid] id)

/-- GET_MCTP_VERSION_SUPPORT. -/
def execGetMctpVersionSupport (s : State) : Result :=
  onPower s (fun s => s.mctp 0x04 [Config.mctpVersion] id)

/-- GET_MESSAGE_TYPE_SUPPORT: MCTP control, SPDM, vendor-defined PCI. -/
def execGetMessageTypeSupport (s : State) : Result := onPower s (fun s => s.mctp 0x05 [0x00, 0x05, 0x7E] id)

/-- GET_VENDOR_DEFINED_MESSAGE_SUPPORT: Klotrum's PCI vendor ID. -/
def execGetVendorDefinedMessageSupport (s : State) : Result :=
  onPower s (fun s => s.mctp 0x06 [s.val 0xA000 0x01] id)

end Sys2Proof.Machine
end

