-- ==== Sys2Proof/Machine/Live.lean ====
section
/-! DEFINITION. What a read returns: the instance behind an object's selectors, objects that report
present state, descriptors, the contents of domains (R17, R108 to R113 and the object tables). -/

namespace Sys2Proof.Machine

open Sys2Proof

/-! ### Instances (R110, R117) -/

/-- Instance behind an object's selectors. -/
def State.unitOf (s : State) (o : Obj) (r : Row) : Nat :=
  if r.single then 0 else o.selectors.foldl (fun u e => u * 2 ^ 18 + s.val e.1 e.2) 0

/-- Value of the object's first selector. -/
def State.firstSel (s : State) (o : Obj) : Nat :=
  match o.selectors with
  | e :: _ => s.val e.1 e.2
  | [] => 0

/-- Context that a request names: its own object, or the object's selector. -/
def State.namedCtx (s : State) (o : Obj) (i : Nat) : Option Nat :=
  match o.owner with
  | .ctx => some (s.firstSel o)
  | .ctxObj => some (i - 0x8000)
  | _ => none

/-- Half that serves a request; none for the keystone (R117). A FREE context's object is the keystone's. -/
def State.server (s : State) (o : Obj) (i : Nat) (single : Bool) : Option HalfId :=
  match o.owner with
  | .keystone => none
  | .half h => some h
  | .tile | .course => if single && o.selfNamed then none else some (halfOf (s.firstSel o / 65536))
  | .half' => if single then none else some (halfOf (s.firstSel o))
  | .spoke => if single then none else some (halfOf (s.firstSel o / 256))
  | .ctx => if single then none else (s.ctx (s.firstSel o)).map (·.half)
  | .ctxObj => (s.ctx (i - 0x8000)).map (·.half)

/-! ### Address translation (R15, R17) -/

/-- Physical unit answering to a logical tile or course word. -/
def State.answering (s : State) (a : Nat) : Option Nat :=
  if tileNum a ≠ 0xFF then s.addressMap.phys a
  else if s.fabric.absentCourses.contains (courseKey a) ||
      (courseTiles (tileHalf a) (tileCourse a)).all s.fabric.absent.contains then none
  else if s.fabric.courseMap.contains (courseKey a) then some (mkTile (tileHalf a) 0x20 0xFF)
  else some a

/-- Logical address that a physical tile or course word serves. -/
def State.serving (s : State) (p : Nat) : Option Nat :=
  if tileNum p ≠ 0xFF then s.addressMap.logical p
  else if tileCourse p = 0x20 then
    (if s.fabric.deadSpareCourse.contains (tileHalf p) then none
     else (s.fabric.courseMap.find? (fun k => k / 64 == tileHalf p)).map
       (fun k => mkTile (tileHalf p) (k % 64) 0xFF))
  else if s.fabric.courseMap.contains (courseKey p) || s.fabric.absentCourses.contains (courseKey p) ||
      (courseUnits (tileHalf p) (tileCourse p)).all s.fabric.unusable.contains then none
  else some p

def orNone (a : Option Nat) : Nat := a.getD 0xFFFFFFFF

def State.lookupWord (s : State) (sub : Nat) : Nat :=
  let a := s.val 0x0020 0x01
  if sub = 0x02 then orNone (s.answering a)
  else if sub = 0x03 then
    (match s.answering a with | none => 2 | some p => if p = a then 0 else 1)
  else orNone (s.serving (s.val 0x0020 0x04))

/-! ### Clocks (R90, R103) -/

/-- Guaranteed minimum factors × 100, by voltage from 650 mV in steps of 50 mV and temperature. -/
def speedTable : List (List Nat) :=
  [[72, 72, 70, 67, 63], [88, 87, 85, 82, 76], [104, 103, 100, 97, 90], [117, 116, 113, 109, 101],
   [130, 128, 125, 121, 112]]

/-- Ends of the temperature interval that holds `t`, and its number. -/
def tempSpan (t : Nat) : Nat × Nat × Nat :=
  if t ≤ 25 then (0, 25, 0) else if t ≤ 70 then (25, 70, 1) else if t ≤ 85 then (70, 85, 2) else (85, 105, 3)

/-- Factor of the table at `mv` and `t` in 1/1,024, as a fraction; none off the grid. -/
def tableFactor (mv : Nat) (t : Int) : Option (Nat × Nat) :=
  if mv < 650 ∨ 850 < mv ∨ t < 0 ∨ 105 < t then none
  else
    let t := t.toNat
    let k := min 3 ((mv - 650) / 50)
    let dv := mv - 650 - 50 * k
    let f := fun r c => (speedTable.getD r []).getD c 0
    let q := tempSpan t
    let col := fun c => f k c * (50 - dv) + f (k + 1) c * dv
    some (1024 * (col q.2.2 * (q.2.1 - t) + col (q.2.2 + 1) * (t - q.1)), 100 * 50 * (q.2.1 - q.1))

/-- Table factor of the selected course. Between two units, and off the grid, the value is free. -/
def State.tableWord (s : State) (u : Nat) : Word :=
  match tableFactor (s.valAt u 0x1006 0x03) (s.regAt u 0x1006 0x04).toInt with
  | some (a, b) => if a % b = 0 then toWord (a / b) else toWord (a / b + s.freeNext.toNat % 2)
  | none => toWord (s.freeNext.toNat % 65536)

/-! ### Tiles, courses and engines (R193, R195, R331, R163, R164) -/

/-- Role and served row of a physical row. -/
def State.rowRole (s : State) (p row : Nat) : Nat :=
  if row < 16 then 0x0FFF
  else if row < 1040 then (if s.physRow p (row - 16) = row then 0x1000 + (row - 16) else 0x4FFF)
  else
    let e := s.valAt p 0x4004 (0x42 + (row - 1040))
    if e = 0xFFFF then 0x2FFF else if e = 0xFFFE then 0x4FFF else 0x3000 + e

/-- What a spare tile of a course serves: a logical tile number, 0xFF or 0xFE. -/
def State.spareService (s : State) (p : Nat) : Nat :=
  match s.addressMap.logical p with
  | some l => tileNum l
  | none => if s.fabric.unusable.contains p then 0xFE else 0xFF

def State.courseWord (s : State) (sub : Nat) : Nat :=
  let a := s.val 0x4005 0x01
  let h := tileHalf a
  if sub = 0x02 then s.fabric.sparesLeft h (tileCourse a)
  else if sub = 0x03 then
    s.spareService (mkTile h (tileCourse a) 0x21) * 256 + s.spareService (mkTile h (tileCourse a) 0x20)
  else if s.fabric.deadSpareCourse.contains h then 0xFE
  else match s.fabric.courseMap.find? (fun k => k / 64 == h) with
    | some k => k % 64
    | none => 0xFF

def State.engineRole (s : State) : Nat :=
  let a := s.val 0x4020 0x01
  let h := tileHalf a
  if tileCourse a = 0x20 then
    (if s.fabric.deadSpareCourse.contains h then 3
     else if s.fabric.courseMap.any (fun k => k / 64 == h) then 1 else 2)
  else if s.fabric.courseMap.contains (courseKey a) || s.fabric.absentCourses.contains (courseKey a) then 3 else 0

def State.rowState (s : State) : Nat :=
  match s.physTile (s.val 0x4021 0x01) with
  | some p =>
    let row := s.val 0x4021 0x05
    (if (s.tile p).version.contains row then 1 else 0) + (if (s.tile p).pointer.contains row then 2 else 0)
  | none => 0

/-- Owner of a logical tile. -/
def State.ownerWord (s : State) (l : Nat) : Nat :=
  if s.fabric.absent.contains l then 0xFFFE
  else match s.ownerOf l with
    | some c => c.n
    | none => 0xFFFF

/-- Forward strand slots in use on a logical tile. -/
def State.tileSlots (s : State) (l : Nat) : Nat :=
  (s.ctxs.flatMap (fun c => c.slots.filter (fun x => x.kind == .forward l))).length

def State.slotsHeld (s : State) (h : HalfId) : Nat :=
  ((s.ctxs.filter (fun c => c.half == h)).flatMap (·.slots)).length

/-! ### Updates and drafting (R353 to R355, R422) -/

/-- Contexts whose update waits. -/
def State.updatesQueued (s : State) (h : HalfId) : Nat :=
  ((s.half h).updates.eraseDups.filter (fun n =>
    match s.ctx n with | some c => !c.upd.running | none => false)).length

/-- Update state of a context. -/
def Ctx.updateState (c : Ctx) : Nat :=
  match c.commits with
  | [] => 0
  | k :: _ => if c.upd.running then 2 else if k.whole && k.sum.isSome then 3 else 1

/-- Elements that a group trains. -/
def Ctx.groupElems (c : Ctx) (g : Nat) : Nat :=
  if c.upd.table.isEmpty then 0
  else (((List.range c.layers.length).zip c.layers).filter (fun e => groupOf c.upd.table e.1 == g)).foldl
    (fun a e => a + (layerTrained c e.1 e.2).length) 0

/-- Rule of a group record of the table in force. -/
def Ctx.groupRule (c : Ctx) (g : Nat) : Nat :=
  if g < tableField c.upd.table 40 2 then tableField c.upd.table (64 + 32 * g + 24) 1 else 0

/-! ### Event log, trace, captures (R417, R418, R512, R519) -/

/-- The Klotrum section of a record. -/
def Record.section' (r : Record) : List Byte :=
  natBytes 2 1 ++ natBytes 2 r.code ++ natBytes 1 r.cls ++ natBytes 1 r.level ++ natBytes 2 r.flags ++
  natBytes 4 r.unit ++ natBytes 4 r.seq ++ natBytes 8 r.stamp ++ natBytes 8 r.step ++ natBytes 2 r.ctx ++
  natBytes 2 r.position ++ natBytes 1 r.risk ++ natBytes 1 0 ++ natBytes 2 r.status ++ natBytes 4 r.obj ++
  ((r.detail ++ natBytes 36 0).take 36)

/-- CPER severity: recoverable, corrected, informational. -/
def Record.severity (r : Record) : Nat := if r.cls = 2 then 0 else if r.cls = 1 then 2 else 3

/-- Section GUID as it lies in a record. -/
def klotrumGuid : List Byte :=
  [0x72, 0x74, 0x6C, 0x6B, 0x15, 0x09, 0x21, 0x4E, 0x9A, 0x0D, 0x50, 0x39, 0x3F, 0x3A, 0x1C, 0x01]

/-- The 280 bytes of a record: UEFI's header and section descriptor (PRESUMED of UEFI), then the section. -/
def Record.cper (r : Record) : List Byte :=
  let gap := fun a n => (List.range n).map (fun j => Config.cperByte r.seq (a + j))
  natBytes 4 0x52455043 ++ gap 4 2 ++ natBytes 4 0xFFFFFFFF ++ natBytes 2 1 ++ natBytes 4 r.severity ++
  gap 16 4 ++ natBytes 4 280 ++ gap 24 104 ++
  natBytes 4 200 ++ natBytes 4 80 ++ gap 136 8 ++ klotrumGuid ++ gap 160 16 ++ natBytes 4 r.severity ++
  gap 180 20 ++ r.section'

/-- What a trace record says, as numbers. -/
def TraceRec.numbers : TraceRec → List Nat
  | .wrote i sub ws stamp => [0, i, sub, stamp, ws.length] ++ ws.map (·.toNat)
  | .logged r => 1 :: (r.section'.map (·.toNat))

def State.capture (s : State) (h : HalfId) : List (Int × Int) := pick h s.capture0 s.capture1

/-! ### Domains (R113) -/

/-- Objects whose domain is read through a snapshot (R239, R477). -/
def snapped (i sub : Nat) : Bool := (i == 0x2013 && sub == 0x02) || (i == 0x9050 && sub == 0x02)

/-- Content of a domain. -/
def State.domain (s : State) (i sub : Nat) : List Byte :=
  if i = 0x2013 then s.calImage (s.val 0x2013 0x01)
  else if i = 0x7040 then s.cper.flatMap Record.cper
  else if i = 0x9010 then (match s.key.staged with | some im => im.raw | none => [])
  else if i = 0x9020 then s.sec.ownerRoot
  else if i = 0x9050 then (s.exportBlob (s.val 0x9050 0x01)).2
  else if i = 0x9070 ∧ sub = 0x04 then s.sec.statement
  else if i = 0xF030 then Config.traceBytes (s.trace.flatMap TraceRec.numbers)
  else if i = 0xF031 ∨ i = 0xF033 then
    (s.capture (pick' i)).flatMap (fun e => natBytes 2 (lowBits e.1 16) ++ natBytes 2 (lowBits e.2 16))
  else []
where
  pick' (i : Nat) : HalfId := if i = 0xF031 then .h0 else .h1

/-- Length of a domain. -/
def State.domainLength (s : State) (i sub : Nat) : Nat :=
  if i = 0x2013 then 10896
  else if i = 0x7040 then 280 * s.cper.length
  else if i = 0x9050 then
    (match s.ctx (s.val 0x9050 0x01) with
     | some c => if c.state = stOpen then 0 else 112 + bodyLength c
     | none => 0)
  else (s.domain i sub).length

/-! ### Tickets (R120, R129, R136) -/

/-- A ticket that a requester may collect. -/
def State.ticketFor (s : State) (p : Path) (n : Nat) : Option Ticket :=
  match s.svc.tickets.find? (fun t => t.num == n) with
  | some t =>
    (match p with
     | .spoke src _ => if t.issuedTo = some src then some t else none
     | _ => some t)
  | none => none

/-- Payload of a TICKET operation. -/
def Ticket.payload (t : Ticket) : Nat :=
  match t.status with
  | some st => 65536 + st
  | none => 0

def State.collect (s : State) (n : Nat) : State :=
  { s with svc := { s.svc with tickets := s.svc.tickets.filter (fun t => t.num != n) } }

/-! ### Present state (the object tables) -/

/-- Objects whose value a sensor or an uncounted mechanism gives: the value is free. -/
def sensor (i sub : Nat) : Bool :=
  (i == 0x0100 && (sub == 0x02 || sub == 0x03)) || (i == 0x1000 && sub == 0x03) ||
  (i == 0x1011 && sub == 0x08) || (i == 0x1014 && sub == 0x04) ||
  (i == 0x4020 && (sub == 0x0D || sub == 0x0E || sub == 0x10 || sub == 0x11)) ||
  (i == 0x6003 && (sub == 0x07 || sub == 0x08 || sub == 0x09)) ||
  ((i == 0xF032 || i == 0xF034) && decide (0x03 ≤ sub))

/-- Summary word of an object (R110). Every index is a record. -/
def Obj.summary (o : Obj) : Nat :=
  let last := o.rows.foldl (fun m r => max m (r.sub + r.words - 1)) 0
  let count := (o.rows.flatMap (fun r => (List.range r.words).map (r.sub + ·))).eraseDups.length
  let owner := match o.owner with
    | .keystone => 0
    | .half .h0 => 1
    | .half .h1 => 2
    | _ => 3
  last * 2 ^ 24 + count * 2 ^ 16 + owner * 2 ^ 10

/-- Entry word of a data sub-index (R111); 0 if it is not defined. -/
def entryWord (i sub : Nat) : Nat :=
  match findRow i sub with
  | none => 0
  | some r =>
    let rights := r.acc.code * 2 ^ 25 + r.per.code * 2 ^ 22
    if sub = r.sub then
      r.ty.code * 2 ^ 28 + rights + r.words * 2 ^ 14 +
        (match r.ty with | .array => r.elem.code * 2 ^ 10 | _ => 0)
    else 0xF * 2 ^ 28 + rights

/-- High or low word of a number. -/
def half64 (v low sub : Nat) : Word := toWord (if sub = low then v else v / 2 ^ 32)

/-- Word of a context-selected object that is computed from the context; `d` while the context is FREE. -/
def State.ofCtx (s : State) (n : Nat) (d : Word) (f : Ctx → Word) : Word :=
  match s.ctx n with
  | some c => f c
  | none => d

/-- A routing table entry: 0 past the table, 30 for the half's own position while the entry is as at reset
(R371, R389). -/
def State.routeEntry (s : State) (h dest : Nat) : Word :=
  let e := s.regAt (h * 2 ^ 18 + dest) 0x6002 0x03
  if 16383 < dest then 0
  else if e = 0x1F ∧ s.val (0x6000 + h) 0x01 = dest then 0x1E
  else e

/-- One word as it reads now (R108, R112; P0 objects report present state, R115). -/
def State.readWord (s : State) (o : Obj) (r : Row) (i sub : Nat) : Word :=
  let u := s.unitOf o r
  let kept := s.regAt u i sub
  if sensor i sub then Config.freeWord (s.free + sub)
  else if r.ty = .domain then toWord (s.domainLength i sub)
  else if r.acc = .rw ∧ 0x8000 ≤ i ∧ i ≤ 0x8BFF ∧ sub = 0x01 then toWord (s.stateEntry (i - 0x8000))
  else if 0x8000 ≤ i ∧ i ≤ 0x8BFF then
    (if sub = 0x21 then s.ofCtx (i - 0x8000) 0 (fun c => toWord c.slots.length) else kept)
  else if i = 0x0012 ∧ sub = 0x02 then toWord (entryWord (s.val 0x0012 0x01 / 256) (s.val 0x0012 0x01 % 256))
  else if i = 0x0020 ∧ (sub = 0x02 ∨ sub = 0x03 ∨ sub = 0x05) then toWord (s.lookupWord sub)
  else if i = 0x0080 ∧ (sub = 0x06 ∨ sub = 0x07) then 0
  else if i = 0x1004 ∧ sub = 0x03 then boolWord s.clkobsAbsent
  else if i = 0x1006 ∧ sub = 0x02 ∧ s.railsOn (halfOf (tileHalf u)) = false then 0
  else if i = 0x1006 ∧ sub = 0x05 then s.tableWord u
  else if i = 0x4001 ∧ sub = 0x02 then toWord (s.tileRole u)
  else if i = 0x4003 ∧ sub = 0x04 then toWord (s.rowRole (s.val 0x4003 0x01) (s.val 0x4003 0x02))
  else if i = 0x4005 ∧ 0x02 ≤ sub ∧ sub ≤ 0x04 then toWord (s.courseWord sub)
  else if i = 0x4005 ∧ 0x05 ≤ sub then s.reg 0x4005 sub
  else if i = 0x4010 ∧ 0x03 ≤ sub ∧ sub ≤ 0x22 then toWord (s.sliceOf u 0 (sub - 0x03))
  else if i = 0x4013 ∧ sub = 0x02 then ((s.tile (s.val 0x4012 0x01)).tableAt (s.val 0x4013 0x01)).1
  else if i = 0x4013 ∧ sub = 0x03 then ((s.tile (s.val 0x4012 0x01)).tableAt (s.val 0x4013 0x01)).2
  else if i = 0x4020 ∧ sub = 0x02 then toWord s.engineRole
  else if i = 0x4021 ∧ sub = 0x06 then toWord s.rowState
  else if i = 0x4100 ∧ sub = 0x02 then toWord (s.ownerWord u)
  else if i = 0x4100 ∧ sub = 0x03 then toWord (s.tileSlots u)
  else if i = 0x4101 ∧ 0x03 ≤ sub then
    toWord (((s.tilesOf (s.val 0x4101 0x01)).drop (s.val 0x4101 0x02 + (sub - 0x03))).headD 0xFFFFFFFF)
  else if (i = 0x4102 ∨ i = 0x4103) ∧ sub = 0x04 then toWord (s.freeTiles (i - 0x4102)).length
  else if (i = 0x4102 ∨ i = 0x4103) ∧ sub = 0x05 then toWord (s.slotsHeld (halfOf i))
  else if (i = 0x4102 ∨ i = 0x4103) ∧ sub = 0x07 then toWord (s.ctxsOf (halfOf i)).length
  else if (i = 0x5001 ∨ i = 0x5002) ∧ (sub = 0x03 ∨ sub = 0x04) then
    half64 (s.shareHeld (halfOf (i - 0x5001))) 0x03 sub
  else if (i = 0x5001 ∨ i = 0x5002) ∧ sub = 0x09 then toWord (s.updatesQueued (halfOf (i - 0x5001)))
  else if i = 0x5010 ∧ sub = 0x0E then s.ofCtx u 0 (fun c => toWord c.updateState)
  else if i = 0x5011 ∧ sub = 0x03 then
    s.ofCtx (s.val 0x5011 0x01) 0 (fun c => toWord (c.groupRule (s.val 0x5011 0x02)))
  else if i = 0x5011 ∧ (sub = 0x06 ∨ sub = 0x07) then
    s.ofCtx (s.val 0x5011 0x01) 0 (fun c => half64 (c.groupElems (s.val 0x5011 0x02)) 0x06 sub)
  else if i = 0x6002 ∧ 0x03 ≤ sub then
    s.routeEntry (s.val 0x6002 0x01) (s.val 0x6002 0x02 + (sub - 0x03))
  else if i = 0x7010 ∧ (sub = 0x07 ∨ sub = 0x08) then s.ofCtx u 0 (fun c => half64 (copyLength c) 0x07 sub)
  else if i = 0x7010 ∧ sub = 0x0E then s.ofCtx u 0 (fun c => toWord c.copyState)
  else if i = 0x9000 ∧ sub = 0x12 then toWord s.leavesLeft
  else if i = 0x9000 ∧ sub = 0x15 then boolWord (decide (s.nextLeaf / 32768 < s.sec.treeReady))
  else if i = 0x9010 ∧ 0x06 ≤ sub then toWord (s.versionWord (sub - 0x06))
  else if i = 0x9020 ∧ sub = 0x15 then toWord (s.checkValue (s.val 0x9020 0x0C))
  else if i = 0x9060 ∧ sub = 0x02 then boolWord s.sec.sanitizing.isSome
  else if i = 0x9080 ∧ 0x03 ≤ sub ∧ sub ≤ 0x0A then
    s.ofCtx u 0 (fun c => (bytesWords c.requester).getD (sub - 0x03) 0)
  else if (i = 0xF002 ∨ i = 0xF003) ∧ (sub = 0x06 ∨ sub = 0x07) then
    half64 (((s.half (halfOf i)).repairs.getD (s.val i 0x05) 0).toNat) 0x06 sub
  else if i = 0x0010 ∧ sub = 0x08 then
    (match s.svc.tickets.find? (fun t => t.num == s.val 0x0010 0x07) with
     | some t => toWord t.payload
     | none => 0)
  else kept

/-- Every word of an object as it reads now. -/
def State.readObj (s : State) (o : Obj) (r : Row) (i : Nat) : List Word :=
  (List.range r.words).map (fun j => s.readWord o r i (r.sub + j))

/-! ### The walk (R120 NEXT) -/

/-- Data sub-indices of an object, ascending. -/
def Obj.subs (o : Obj) : List Nat := o.rows.flatMap (fun r => (List.range r.words).map (r.sub + ·))

/-- First object of the catalogue above an index; the context objects stand between 0x8000 and 0x8BFF. -/
def indexAfter (i : Nat) : Option Nat :=
  if 0x8000 ≤ i ∧ i < 0x8BFF then some (i + 1)
  else (catalogue.map (·.index)).foldl (fun m j =>
    if i < j ∧ (match m with | some k => j < k | none => true) = true then some j else m) none

/-- The next defined data sub-index after a place, in the layout of request word 0. -/
def nextPlace (i sub : Nat) : Nat :=
  match (((findObj i).map (·.subs)).getD []).find? (fun k => decide (sub < k)) with
  | some k => k * 65536 + i
  | none =>
    match indexAfter i with
    | some j => (((findObj j).map (·.subs)).getD []).headD 0 * 65536 + j
    | none => 0xFFFFFFFF

end Sys2Proof.Machine
end

