-- ==== Sys2Proof/Machine/Operands.lean ====
section
/-! DEFINITION. The forms of a request's value: types, reserved bits and ranges (R112 and the object tables). -/

namespace Sys2Proof.Machine

open Sys2Proof

/-! ### Length, types and ranges (R112) -/

def elemTy (r : Row) : Ty := match r.ty with | .array => r.elem | t => t

/-- A type's unused high bits are set. -/
def tyReserved (t : Ty) (w : Word) : Bool :=
  match t with
  | .bool => decide (1 < w.toNat)
  | .u8 => decide (255 < w.toNat)
  | .u16 => decide (65535 < w.toNat)
  | _ => false

def isNaN (w : Word) : Bool := decide (0x7F800000 < w.toNat % 2 ^ 31)

/-- A coarse scale: positive, normal, finite. -/
def isScale (w : Word) : Bool := decide (0x00800000 ≤ w.toNat ∧ w.toNat < 0x7F800000)

/-- A word's value is none of its type's. -/
def tyBad (t : Ty) (w : Word) : Bool :=
  match t with
  | .f32 => isNaN w
  | .scale => !isScale w
  | _ => false

/-- Value of an object's words. -/
def wordsNat : List Word → Nat
  | [] => 0
  | w :: r => w.toNat + 2 ^ 32 * wordsNat r

/-- Reserved bits of a range are set. -/
def rngReserved (g : Rng) (v : Nat) : Bool :=
  match g with
  | .mask m => v &&& m != v
  | .tilePhys | .tileLogical | .tileLookup | .tileAny | .course => decide (2 ^ 17 ≤ v)
  | _ => false

def isPow2 (v : Nat) : Bool := v == 2 ^ Nat.log2 v

/-- Order of FP32 words by value, for words that are no NaN. -/
def f32Key (w : Nat) : Int := if w < 2 ^ 31 then w else -((w - 2 ^ 31 : Nat) : Int)

/-- Status of a value outside its stated range; 0 inside. -/
def rngStatus (g : Rng) (v : Nat) : Nat :=
  match g with
  | .max hi => if hi < v then 0x2001 else 0
  | .between lo hi => if hi < v then 0x2001 else if v < lo then 0x2002 else 0
  | .step lo hi st => if hi < v then 0x2001 else if v < lo then 0x2002 else if (v - lo) % st = 0 then 0 else 0x2003
  | .pow2 lo hi => if hi < v then 0x2001 else if v < lo then 0x2002 else if isPow2 v then 0 else 0x2003
  | .oneOf l => if l.contains v then 0 else 0x2003
  | .upToOr hi => if v ≤ hi ∨ v = 0xFFFF then 0 else 0x2003
  | .align a => if v % a = 0 then 0 else 0x2003
  | .f32 lo hi => if f32Key hi < f32Key v then 0x2001 else if f32Key v < f32Key lo then 0x2002 else 0
  | .tilePhys =>
    if 0x20 < tileCourse v ∨ (0x21 < tileNum v ∧ tileNum v ≠ 0xFF) then 0x2001
    else if tileNum v = 0xFF then 0x2003 else 0
  | .tileLogical =>
    if 0x20 < tileCourse v ∨ (0x21 < tileNum v ∧ tileNum v ≠ 0xFF) then 0x2001
    else if 0x1F < tileCourse v ∨ 0x1F < tileNum v then 0x2003 else 0
  | .tileLookup => if 0x1F < tileCourse v ∨ (0x1F < tileNum v ∧ tileNum v ≠ 0xFF) then 0x2001 else 0
  | .tileAny => if 0x20 < tileCourse v ∨ (0x21 < tileNum v ∧ tileNum v ≠ 0xFF) then 0x2001 else 0
  | .course => if 0x20 < tileCourse v then 0x2001 else if tileNum v ≠ 0xFF then 0x2003 else 0
  | .any | .mask _ | .own => 0

/-- First failing check of a value, in R124's order over all its elements: reserved bits, above the maximum, below the
minimum, not in the set; 0 if all pass. -/
def reservedFirst (l : List Nat) : Nat :=
  if l.contains 0x2004 then 0x2004 else if l.contains 0x2001 then 0x2001
  else if l.contains 0x2002 then 0x2002 else firstBad l

/-- Reserved bits, then ranges, of the words written to an object; 0 if they pass. A range binds the whole
value, or each element of an array. -/
def Row.valueStatus (r : Row) (words : List Word) : Nat :=
  let vals : List Nat := match r.ty with | .array => words.map (fun (w : Word) => w.toNat) | _ => [wordsNat words]
  let t := elemTy r
  if words.any (tyReserved t) || vals.any (rngReserved r.rng) then 0x2004
  else if words.any (tyBad t) then 0x2003
  else reservedFirst (vals.map (rngStatus r.rng))

/-! ### Ranges that an object's entry states against other values -/

/-- Largest frequency of a CLKOBS source in kHz, code by code (R103). -/
def clkobsKhz : List (Nat × Nat) :=
  [(0x00, 50000), (0x01, 48720), (0x02, 100000), (0x03, 400000), (0x04, 1000000), (0x10, 1200000),
   (0x11, 1200000), (0x12, 1600000), (0x13, 1600000), (0x14, 1200000), (0x15, 1200000), (0x16, 1066625),
   (0x17, 1066625), (0x18, 156250), (0x19, 156250), (0x20, 235600)]

/-- CLKOBS selection word. -/
def clkobsStatus (v : Nat) : Nat :=
  let d := v % 2 ^ 13
  if bitsOf v 13 11 ≠ 0 then 0x2004
  else match lookup clkobsKhz (v / 2 ^ 24) with
    | none => if 4096 < d then 0x2001 else if d = 0 then 0x2002 else 0x2003
    | some f => if 4096 < d ∨ 250000 * d < f ∧ d ≠ 0 then 0x2001 else if d = 0 then 0x2002 else 0

/-- A command of the replace request (R32). -/
def replaceStatus (v allowed : Nat) : Nat :=
  if bitsOf v 6 10 ≠ 0 then 0x2004
  else if 1 < v / 2 ^ 16 ∨ v % 64 &&& allowed ≠ v % 64 then 0x2003 else 0

/-- A routing table entry (R371). -/
def routeStatus (v : Nat) : Nat :=
  let bad := fun p => decide (17 ≤ p ∧ p ≤ 29)
  if bitsOf v 13 3 ≠ 0 ∨ bitsOf v 5 3 ≠ 0 then 0x2004
  else if bad (v % 32) || bad (bitsOf v 8 5) then 0x2003 else 0


/-- An entry of an authorisation list (R475). -/
def authStatus (v : Nat) : Nat :=
  if bitsOf v 14 2 ≠ 0 then 0x2004 else if bitsOf v 0 14 < bitsOf v 16 14 then 0x2003 else 0

/-- Value checks that an object's entry states; 0 if they pass. -/
def State.ownStatus (s : State) (i sub u : Nat) (words : List Word) : Nat :=
  let v := wordsNat words
  let range := fun lo hi => if hi < v then 0x2001 else if v < lo then 0x2002 else 0
  let ns := words.map (·.toNat)
  if i = 0x0011 then
    (if sub = 0x07 then range 50 (s.val 0x0011 0x08 - 5)
     else if sub = 0x08 then range (s.val 0x0011 0x07 + 5) (s.val 0x0011 0x09 - 5)
     else if sub = 0x09 then range (s.val 0x0011 0x08 + 5) 99
     else if sub = 0x0A ∧ v = 3 then 0x2003 else 0)
  else if i = 0x0013 then (if v = 0 then 0 else range 4 63)
  else if i = 0x0080 then replaceStatus v (if sub = 0x06 then 63 else 32)
  else if i = 0x1004 ∧ sub = 0x01 then clkobsStatus v
  else if i = 0x1011 ∧ sub = 0x02 then range 300 (s.val 0x1011 0x01 - 300)
  else if (i = 0x2000 ∨ i = 0x2001) ∧ sub = 0x01 then calFields v
  else if i = 0x2010 ∧ sub = 0x03 then reservedFirst (words.map (fun w => corrCheck w 0x7000 0x9000))
  else if i = 0x2010 ∧ sub = 0x47 then reservedFirst (ns.map trimCheck)
  else if i = 0x2010 ∧ sub = 0x67 then s.selectCheck (u / 2 ^ 18) ns
  else if i = 0x2011 ∧ sub = 0x04 then reservedFirst (words.map (fun w => corrCheck w 0x4000 0xFFFF))
  else if i = 0x2011 ∧ sub = 0x15 then reservedFirst (words.map quadCheck)
  else if i = 0x3050 ∧ sub = 0x04 then (if v = 0 ∨ (16 ≤ v ∧ v ≤ 65536 ∧ isPow2 v = true) then 0 else 0x2003)
  else if i = 0x5010 ∧ sub = 0x04 then (if f32NotNeg (toWord v) then 0 else 0x2003)
  else if i = 0x6002 ∧ sub = 0x03 then
    (match reservedFirst (ns.map routeStatus) with
     | 0 => if 16383 < s.val 0x6002 0x02 + 63 then 0x2001 else 0
     | bad => bad)
  else if i = 0x6003 ∧ sub = 0x01 then
    (if v / 2 ^ 9 ≠ 0 ∨ bitsOf v 5 3 ≠ 0 then 0x2004 else if 16 < v % 32 then 0x2003 else 0)
  else if i = 0x7002 ∧ sub = 0x01 then range 16 (s.val 0x7002 0x02 - 16)
  else if i = 0x7002 ∧ sub = 0x02 then range (s.val 0x7002 0x01 + 16) 254
  else if i = 0x7013 ∧ sub = 0x02 then rngStatus (.upToOr 16383) v
  else if i = 0x8000 + (i - 0x8000) ∧ 0x8000 ≤ i ∧ i ≤ 0x8BFF then
    (if sub = 0x05 then
       (if v % 2 ≠ (match s.ctx (i - 0x8000) with | some c => if c.confidential then 1 else 0 | none => 0) then 0x2003
        else 0)
     else if sub = 0x1C then (if (s.sealKey (v % 16)).isNone then 0x2003 else 0)
     else if sub = 0x06 then (if 3071 < v ∧ v ≠ 0xFFFF then 0x2001 else 0)
     else if sub = 0x43 then (if 30 < v then 0x2001 else if 1 ≤ v ∧ v ≤ 9 then 0x2003 else 0)
     else 0)
  else if (i = 0x9040 ∨ i = 0x9041) ∧ sub = 0x01 then reservedFirst (ns.map authStatus)
  else if (i = 0x9010 ∨ i = 0xF001) ∧ sub = 0x01 then (if v % 4 = 3 then 0x2003 else 0)
  else 0

end Sys2Proof.Machine
end

