-- ==== Sys2Proof/Machine/Checks.lean ====
section
/-! DEFINITION. The checks of a dictionary request in the order of R124, up to the object's own: path and
session, footing, fence, power, gating, rights, state, context, pending work, load. -/

namespace Sys2Proof.Machine

open Sys2Proof

/-! ### Paths and sessions (R20, R21, R114, R122, R131, R467, R468, R475, R477, R481, R504) -/

def isHostPath (p : Path) : Bool :=
  match p with
  | .doe | .mctp | .bar2 => true
  | _ => false

def isFramed (p : Path) : Bool :=
  match p with
  | .doe | .mctp => true
  | _ => false

/-- An entry of the authorisation list admits a position. -/
def entryAdmits (w pos : Nat) (write : Bool) : Bool :=
  bitsOf w 31 1 == 1 && (!write || bitsOf w 30 1 == 1) && decide (bitsOf w 16 14 ≤ pos ∧ pos ≤ bitsOf w 0 14)

/-- A spoke management request is authorised (R475). -/
def State.authorised (s : State) (h : HalfId) (pos : Nat) (write : Bool) : Bool :=
  (List.range 64).any (fun j => entryAdmits (s.val (pick h 0x9040 0x9041) (0x01 + j)) pos write)

/-- Objects that accept writes in an owner session only (R467, R485 to R488). -/
def ownerOnly (i sub : Nat) : Bool :=
  (i == 0x9010 && (sub == 0x02 || sub == 0x04 || sub == 0x05)) || i == 0x9020 ||
  ((i == 0x9030 || i == 0x9031) && decide (0x02 ≤ sub ∧ sub ≤ 0x0B)) ||
  ((i == 0x9040 || i == 0x9041) && decide (0x01 ≤ sub ∧ sub ≤ 0x40))

/-- Context that a statement is asked for, a blob read of, or that an object belongs to, where only the
session a confidential context is bound to may do so (R468). -/
def State.boundTo (s : State) (i sub : Nat) (write : Bool) : Option Nat :=
  if 0x8000 ≤ i ∧ i ≤ 0x8BFF ∧ (write ∨ (0x18 ≤ sub ∧ sub ≤ 0x1B)) then some (i - 0x8000)
  else if i = 0x9050 ∧ sub = 0x02 then some (s.val 0x9050 0x01)
  else if i = 0x9070 ∧ sub = 0x03 then some (s.val 0x9070 0x01)
  else none

/-- The session of a request may act on the confidential context that it names; a reset also comes from an
owner session. -/
def State.sessionFits (s : State) (via : Via) (i sub : Nat) (write : Bool) : Bool :=
  (!(i == 0x9080 && sub == 0x02 && write) || s.sameRequester via (s.val 0x9080 0x01)) &&
  (!(i == 0x9080 && sub == 0x0B && write) || s.boundSession via (s.val 0x9080 0x01)) &&
  match (s.boundTo i sub write).bind s.ctx with
  | some c =>
    !c.confidential || s.boundSession via c.n ||
      (decide (0x8000 ≤ i ∧ i ≤ 0x8BFF) && sub == 0x2F && s.ownerSession via)
  | none => true

/-- What a request does with its object. -/
inductive Use where
  | look | read | write
  deriving DecidableEq, Repr

/-- The path and the session are permitted for the object. An entry that restricts its object to named paths (R114)
binds what reads or writes it, not a DESCRIBE, which looks it up. -/
def State.pathFits (s : State) (via : Via) (i sub : Nat) (use : Use) : Bool :=
  let p := via.path
  let write := use == .write
  let footing := s.flag 0xF000 0x02 0
  (!footing || isFramed p) &&
  (match p with
   | .spoke src h =>
     s.authorised h src write && !(write && (decide (0x9000 ≤ i ∧ i ≤ 0x9FFF) || i == 0xF010))
   | _ => true) &&
  (!(i == 0x0040 && sub == 0x03 && use != .look) || (match p with | .manager _ _ => true | _ => false)) &&
  (!((i == 0x0040 && sub == 0x04 && use != .look) || (i == 0xF010 && write)) || isHostPath p) &&
  (!((i == 0x7011 || i == 0x7012) && sub ≤ 0x02 && use != .look) || (match p with | .spoke _ _ => true | _ => false)) &&
  (!(i == 0x9050 || (i == 0x9070 && sub == 0x10)) || sub == 0x01 || isFramed p) &&
  (!(ownerOnly i sub && write) || s.ownerSession via) &&
  (!((i == 0x9070 && sub == 0x10) || (i == 0xF001 && sub == 0x02)) || !write || !s.owned || s.ownerSession via) &&
  s.sessionFits via i sub write

/-- The footing set (R131, R482). -/
def inFooting (i : Nat) (write : Bool) : Bool :=
  [0x0000, 0x0010, 0x0011, 0x0012, 0x0100, 0x0101, 0x0102, 0x0103, 0x1000, 0x1001, 0x1005, 0x9000, 0x9001, 0xA000,
   0xA001, 0xA002, 0xA003, 0xA004, 0xF000, 0xF001].contains i ||
  ([0x0040, 0x0041, 0x9010, 0x9020].contains i && !write)

/-! ### Gated blocks (R100) -/

/-- The block that an access touches is not ready. -/
def State.gated (s : State) (i sub u : Nat) (write : Bool) (words : List Word) : Bool :=
  let b := fun n => !s.flag 0x1002 0x06 n
  if sub = 0xFF then false
  else if i = 0xF030 then b 4
  else if i = 0xF031 then b 5
  else if i = 0xF033 then b 6
  else if i = 0xF032 then b 7
  else if i = 0xF034 then b 8
  else if i = 0x6003 ∧ sub = 0x0C ∧ write = true ∧ (words.head? = some 2 ∨ words.head? = some 3) then
    (if u % 256 = 16 then b (u / 256 % 2) else !s.flag 0x1002 (0x04 + u / 256 % 2) (u % 256))
  else false

/-! ### States (R114, R162 and the object tables) -/

/-- No context of the half is in RUN or SEALING. -/
def State.restful (s : State) (h : HalfId) : Bool := !s.busyHalf h

/-- A state-limited object is writable. -/
def State.rwsOpen (s : State) (i sub : Nat) : Bool :=
  if i = 0x4002 then s.restful (halfOf (sub - 1))
  else if i = 0x3000 ∨ i = 0x3030 then s.restful .h0 && s.restful .h1
  else if i = 0xA002 then !s.flag 0xA002 0x01 0
  else true

/-- States in which a sub-index of a context object may be written; none for one that its own rule checks. -/
def ctxStates (sub : Nat) : Option (List Nat) :=
  let o := [stOpen]
  let ol := [stOpen, stLoaded]
  let olh := [stOpen, stLoaded, stHold]
  if [0x03, 0x04, 0x06, 0x07, 0x09, 0x1C].contains sub then some o
  else if [0x12, 0x18, 0x41, 0x43, 0x44, 0x45, 0x47, 0x49, 0x4B].contains sub then some ol
  else if sub = 0x05 ∨ sub = 0x40 then some olh
  else if sub = 0x14 then some [stOpen, stLoaded, stHold, stDone]
  else none

/-- States in which an object behind a context selector may be written. -/
def selStates (i sub : Nat) : Option (List Nat) :=
  let olh := [stOpen, stLoaded, stHold]
  if i = 0x3050 then some [stOpen, stLoaded]
  else if i = 0x5010 then some (if sub = 0x02 then [stOpen] else olh)
  else if i = 0x6010 then some [stOpen]
  else if i = 0x7010 ∧ sub ≠ 0x05 then some olh
  else if i = 0x7013 then some [stLoaded]
  else none

/-- The state of the context forbids the write. -/
def State.ctxBars (s : State) (o : Obj) (r : Row) (i sub : Nat) (words : List Word) : Bool :=
  match o.owner with
  | .ctxObj =>
    let n := i - 0x8000
    let st := s.ctxState n
    if sub = 0x01 then false
    else if st = stFree then true
    else
      let out := match ctxStates sub with | some l => !l.contains st | none => false
      let flags := (wordsNat words) ^^^ s.val i 0x05
      out || (sub == 0x05 && st != stOpen && bitsOf flags 0 2 + bitsOf flags 4 2 != 0)
  | .ctx =>
    if r.single || i == 0x3032 || i == 0x9050 || i == 0x9080 then false
    else
      let st := s.ctxState (s.firstSel o)
      st == stFree || (match selStates i sub with | some l => !l.contains st | none => false)
  | _ => false

/-! ### Load (R132, R133) -/

/-- A running context uses what the request writes. -/
def State.usedByRunning (s : State) (o : Obj) (h : HalfId) : Bool :=
  let busy := fun (c : Ctx) => c.going || c.state == stHold
  match o.owner with
  | .tile =>
    let a := s.firstSel o
    (match s.ownerOf ((s.fabric.logical a).getD a) with | some c => c.going | none => false)
  | .ctx | .ctxObj => (match s.ctx (s.firstSel o) with | some c => busy c | none => false)
  | _ => s.busyHalf h

/-- A request is of tier 1: a write to a context object in RUN, HOLD or SEALING, or to an object of areas 0x3000
to 0x5FFF that a running context uses. -/
def State.tierOne (s : State) (o : Obj) (i : Nat) (h : HalfId) (write : Bool) : Bool :=
  write && (match o.owner with
    | .ctxObj => [stRun, stHold, stSealing].contains (s.ctxState (i - 0x8000))
    | _ => decide (0x3000 ≤ i ∧ i ≤ 0x5FFF) && s.usedByRunning o h)

/-- The manager sheds the request. -/
def State.sheds (s : State) (o : Obj) (i : Nat) (server : Option HalfId) (write : Bool) : Bool :=
  match server with
  | some h => s.val 0x0011 (0x03 + halfNum h) == 3 && !s.tierOne o i h write
  | none => false

/-- The write joins its manager's queue of tier 1: the manager is too busy to serve it now (R132; that one below level 3
serves what joins the queue at once is assumption 41, DESIGN CHOICE). -/
def State.queues (s : State) (o : Obj) (i : Nat) (server : Option HalfId) : Bool :=
  match server with
  | some h => s.val 0x0011 (0x03 + halfNum h) == 3 && s.tierOne o i h true
  | none => false

/-- Tier 1 requests that a manager's queue holds (R132). -/
def tier1Size : Nat := 64

/-- Hint of a request that finds the queue full: until one entry frees. -/
def tier1Hint (h : HalfId) : Nat := min 0xFFFF (Config.queueEstimate (halfNum h))

/-- Hint of a shed request: never less than 100 µs. -/
def shedHint (h : HalfId) : Nat := min 0xFFFF (max 100 (Config.loadEstimate (halfNum h)))

/-! ### The pending write of an object (R124, R128) -/

/-- A deferred write of the object is pending; one without selectors has one for all its parts. -/
def State.pendingWrite (s : State) (o : Obj) (i sub u : Nat) : Option Ticket :=
  if o.selectors = [] then
    s.svc.tickets.find? (fun t => t.status.isNone && t.work.place.1 == i && t.work.place.2.1 == sub)
  else s.pendingOn i sub u

/-! ### The checks common to every operation -/

/-- Path checks of NEXT, which walks the table of objects and touches none of them: it names objects outside the footing
set, of halves that are off, and of confidential contexts alike (R120, R131, the example of R520; DEDUCED, assumption
42). -/
def State.walkStatus (s : State) (via : Via) : Nat :=
  if s.flag 0xF000 0x02 0 && !isFramed via.path then 0x5001
  else match via.path with
    | .spoke src h =>
      if !s.authorised h src false then 0x5001 else if s.fenced h then 0x3004 else 0
    | _ => 0

/-- Checks up to the rights (R124): 0, or the first failing check's status. -/
def State.entryStatus (s : State) (via : Via) (o : Obj) (i sub : Nat) (use : Use) (words : List Word) : Nat :=
  let row := o.row sub
  let single := match row with | some r => r.single | none => false
  let u := match row with | some r => s.unitOf o r | none => 0
  let server := s.server o i single
  let write := use == .write
  if row.isNone && sub != 0xFF then 0x1002
  else if !s.pathFits via i sub use then 0x5001
  else if s.flag 0xF000 0x02 0 && !inFooting i write then 0x3005
  else if (match server with | some h => s.fenced h | none => false) ||
      (match via.path with | .spoke _ h => s.fenced h | _ => false) then 0x3004
  else if (match server with | some h => !s.runs h || s.retained | none => false) then 0x3001
  else if s.gated i sub u write words then 0x4001
  else match row with
    | none => if write then 0x1003 else 0
    | some r =>
      if write && r.acc == .ro then 0x1003
      else if use == .read && r.acc == .wo then 0x1004 else 0

end Sys2Proof.Machine
end

