-- ==== Sys2Proof/Machine/Writes.lean ====
section
/-! DEFINITION. What a write of an object does beside storing its value: one rule per object that has a
behaviour of its own, storing for the rest. -/

namespace Sys2Proof.Machine

open Sys2Proof

/-- What the part measures while a write's work runs: what self-tests find, a calibration's measurements, cells
that a sanitize leaves, the tensors that a program declares in memory. -/
structure Aux where
  found : Findings
  meas : CalRaw
  residual : List (Nat × Nat)
  decls : List TensorDecl
  deriving DecidableEq, Repr

def Aux.none : Aux := { found := { half0 := [], half1 := [] }, meas := .none, residual := [], decls := [] }

/-- Bits that differ between two words, from bit `a` to below bit `b`. -/
def changedBits (old new a b : Nat) : List Nat :=
  ((List.range b).filter (fun i => a ≤ i)).filter (fun i => bitsOf old i 1 != bitsOf new i 1)

/-! ### Module objects (R53, R57, R134, R136) -/

/-- Telemetry placement: a bit newly set moves a half's export to the other half's manager. -/
def State.actTelemetry (s : State) (v : Nat) : Verdict :=
  let moved := (changedBits (s.val 0x0011 0x0A) v 0 2).filter (fun b => bitsOf v b 1 == 1)
  let target := fun (b : Nat) => otherHalf (halfOf b)
  if moved.any (fun b => s.fenced (target b)) then .refuse 0x3004 0
  else if moved.any (fun b => 1 ≤ s.val 0x0011 (0x03 + halfNum (target b))) then .refuse 0x3001 0
  else .apply (s.put 0x0011 0x0A v)

def State.actModule (s : State) (i sub : Nat) (v : Nat) (dflt : Verdict) : Verdict :=
  if i = 0x0010 ∧ sub = 0x06 then .apply ((s.put 0x0010 0x03 0).put 0x0010 0x04 0)
  else if i = 0x0011 ∧ sub = 0x0A then s.actTelemetry v
  else if i = 0x0040 ∧ sub = 0x04 then s.actMoveLead (toWord v)
  else if i = 0x0080 ∧ sub = 0x06 then s.actReplaceClear (toWord v)
  else if i = 0x0080 ∧ sub = 0x07 then s.actReplaceRaise (toWord v)
  else if i = 0x0100 ∧ sub = 0x06 then
    .apply ((s.put 0x0100 0x04 (s.val 0x0100 0x01)).put 0x0100 0x05 (s.val 0x0100 0x01))
  else if i = 0x0103 ∧ sub = 0x01 ∧ v = 0 ∧ 1400 < s.val 0x1011 0x01 then .refuse 0x3001 0
  else dflt

/-! ### Clocks (R84, R99, R101, R466) -/

/-- A clock source: 0 the crystal, 1 the oscillator. -/
def State.sourceReady (s : State) (v : Nat) : Bool := s.flag 0x1000 (if v = 0 then 0x01 else 0x02) 0

def State.actSource (s : State) (sub v : Nat) : Verdict :=
  let old := s.val 0x1000 sub
  if sub = 0x04 then
    (if v = old then .apply s
     else if s.sourceReady v then .apply (s.put 0x1000 0x04 v) else .refuse 0x3001 0)
  else
    let l := changedBits old v 0 2
    if l.any (fun b => s.fenced (halfOf b)) then .refuse 0x3004 0
    else if l.any (fun b => !s.sourceReady (bitsOf v b 1)) then .refuse 0x3001 0
    else .apply (s.put 0x1000 sub v)

/-- Half of the block that an enable bit of a word of 0x1002 stands for. -/
def enableHalf (sub b : Nat) : Option HalfId :=
  if sub = 0x01 then some .h0 else if sub = 0x02 then some .h1 else blockHalf b

/-- Disabling the block is refused: its link is up, or it is the I3C secondary that carries the write. -/
def State.mayNotStop (s : State) (via : Via) (sub b : Nat) : Bool :=
  match sub, b with
  | 0x03, 3 => via.path == .mctp
  | 0x03, 0 => s.linkUp .h0 16
  | 0x03, 1 => s.linkUp .h1 16
  | 0x03, _ => false
  | _, _ => s.linkUp (halfOf (sub - 1)) b

/-- A block whose enable is cleared is ready no longer; a spoke in training is down. -/
def State.stopBlock (s : State) (sub b : Nat) : State :=
  let t := s.putFlag 0x1002 (sub + 3) b false
  match spokeOfBlock (sub + 3) b with
  | some u => t.putAt u 0x6003 0x02 0
  | none => t

def State.actEnable (s : State) (via : Via) (sub v : Nat) : Verdict :=
  let old := s.val 0x1002 sub
  let l := changedBits old v 0 16
  let off := l.filter (fun b => bitsOf v b 1 == 0)
  let ports := (l.filter (fun b => bitsOf v b 1 == 1)).filter (fun b => sub == 0x03 && decide (4 ≤ b))
  if l.any (fun b => match enableHalf sub b with | some h => s.fenced h | none => false) then .refuse 0x3004 0
  else if off.any (s.mayNotStop via sub) then .refuse 0x3001 0
  else if !ports.isEmpty && s.anyConfidential then .refuse 0x5001 0
  else
    let old := s
    let s := s.put 0x1002 sub v
    let s := (off.foldl (fun t b => t.stopBlock sub b) s).repin old .clkobs
    let seen := ports.foldl (fun n b => putBit n b true) s.sec.debugSeen
    .apply { s with sec := { s.sec with debugSeen := seen } }

/-! ### Power (R428 to R437) -/

/-- Transitions that a command may ask for (R429). -/
def powerPair (a b : Nat) : Bool :=
  (a == 0 && (b == 1 || b == 2 || b == 3)) || (a == 1 && (b == 0 || b == 2 || b == 3)) ||
  (a == 2 && (b == 0 || b == 3)) || (a == 3 && b == 0)

/-- A context of a half that the command applies to is in RUN or SEALING. -/
def State.anyGoing (s : State) : Bool := s.ctxs.any (fun c => c.going && s.commandable c.half)

/-- Estimate of a transition in µs: an exit's bound where R429 gives one. -/
def powerEstimate (a b : Nat) : Nat :=
  if b = 0 ∧ a = 1 then 20 else if b = 0 ∧ a = 2 then 150 else Config.estimate (dkey b 0x1010 0x02)

def State.actPower (s : State) (found : Findings) (v : Nat) : Verdict :=
  let at' := s.val 0x1010 0x01
  let target := v % 4
  let hold := bitsOf v 8 1 == 1
  if s.key.trans.isSome ∨ at' = 4 then .refuse 0x6001 0
  else if target = at' then .apply s
  else if !powerPair at' target then .refuse 0x2003 0
  else if (at' = 2 ∨ at' = 3) ∧ s.val 0x1000 0x06 = 2 then .refuse 0x3001 0
  else if target ≠ 0 ∧ hold = false ∧ s.anyGoing = true then .refuse 0x3001 0
  else .accept (.action 0x1010 0x02 0) (powerEstimate at' target) (fun s =>
    let s := s.put 0x1010 0x02 v
    if target ≠ 0 then
      (let s := s.startEntry target
       if hold then s.powerHold else s)
    else if at' = 3 then s.startExit.countAttempt.awaitSupply (s.val 0x0100 0x01) found
    else s.startExit)

/-- Grant of half 0 under a new limit (R436). -/
def State.rescaled (s : State) (limit : Nat) : Nat := s.val 0x1011 0x02 * limit / s.val 0x1011 0x01

def State.actLimit (s : State) (v : Nat) : Verdict :=
  let g := s.rescaled v
  if 1400 < v ∧ s.val 0x0103 0x01 = 0 then .refuse 0x3001 0
  else if g < 300 ∨ v < g + 300 then .refuse 0x3001 0
  else .accept (.store 0x1011 0x01 0 [toWord v]) 20000 id

def State.actPowerObject (s : State) (x : Aux) (i sub v : Nat) (dflt : Verdict) : Verdict :=
  if i = 0x1004 ∧ sub = 0x01 then .apply ((s.put 0x1004 0x01 v).repin s .clkobs)
  else if i = 0x1010 then s.actPower x.found v
  else if i = 0x1011 ∧ sub = 0x01 then s.actLimit v
  else if i = 0x1012 ∧ 0x03 ≤ sub ∧ sub ≤ 0x05 then .apply ((s.put 0x1012 sub v).throttle .h0)
  else if i = 0x1013 ∧ 0x03 ≤ sub ∧ sub ≤ 0x05 then .apply ((s.put 0x1013 sub v).throttle .h1)
  else dflt

/-! ### Calibration registers (R200, R239, R242) -/

/-- A register of a tile is written: it lands in the pending set. -/
def State.actTileRegister (s : State) (i sub u : Nat) (ws : List Word) : Verdict :=
  let p := if i = 0x2010 then u / 2 ^ 18 else u / 2 ^ 36
  if s.valAt p 0x2012 0x03 ≠ 0 then .refuse 0x6001 0
  else .apply ((s.putsAt (u / 2 ^ 18 * 2 ^ 18 + 1) i sub ws).landSet p)

/-! ### Recovery (R503) -/

def State.actRecover (s : State) (found : Findings) (v : Nat) : Verdict :=
  if !s.flag 0xF000 0x02 0 then .refuse 0x3001 0
  else if v = 1 ∧ s.key.recovery.isEmpty = true then .refuse 0x3001 0
  else .accept (.action 0xF001 0x04 0) 0 (fun s =>
    let s := if v = 1 then
        (let s := s.key.recovery.foldl (fun (t : State) im => t.writeSlot (componentBit im.component im.half) im) s
         State.put { s with key := { s.key with recovery := [] } } 0xF001 0x03 0)
      else s
    let s := ((s.put 0xF000 0x02 0).put 0xF000 0x01 0).endPending 0xF001 0x04 0 0x0000
    s.countAttempt.fromS3 (s.val 0x0100 0x01) found)

/-- A recovery image. -/
def State.actRecoveryImage (s : State) (l : List Byte) : Verdict :=
  let sel := s.val 0xF001 0x01
  if !s.flag 0xF000 0x02 0 then .refuse 0x3001 0
  else match s.imageStatus sel l with
    | 0 =>
      let im := parseImage (bitsOf sel 4 1) l
      let b := componentBit im.component im.half
      let same := fun (x : Image) => componentBit x.component x.half == b
      let key := { s.key with recovery := replaceBy same im s.key.recovery }
      .apply (State.putFlag { s with key := key } 0xF001 0x03 b true)
    | bad => .refuse bad 0

/-! ### Every object -/

/-- A context object's entries. -/
def State.actContextObject (s : State) (x : Aux) (via : Via) (n sub : Nat) (ws : List Word) (dflt : Verdict) :
    Verdict :=
  let w := ws.headD 0
  if sub = 0x01 then s.actState via n w x.decls
  else if sub = 0x20 then s.actAck n w
  else if sub = 0x2F then s.actCtxReset n w
  else if 0x30 ≤ sub ∧ sub ≤ 0x3F then s.actClaims n (sub - 0x30) ws
  else dflt

def State.actSecurity (s : State) (x : Aux) (via : Via) (i sub : Nat) (ws : List Word) (dflt : Verdict) : Verdict :=
  let w := ws.headD 0
  if i = 0x9010 ∧ sub = 0x04 then s.actCommit true w
  else if i = 0x9010 ∧ sub = 0x05 then s.actCommit false w
  else if i = 0x9020 ∧ sub = 0x0D then s.actSealingKey ws
  else if i = 0x9020 ∧ sub = 0x16 then s.actClearSlot w
  else if i = 0x9020 ∧ sub = 0x17 then s.actRelease x.residual w
  else if i = 0x9030 ∧ sub = 0x02 then s.actKeyInstall .h0 ws
  else if i = 0x9031 ∧ sub = 0x02 then s.actKeyInstall .h1 ws
  else if i = 0x9030 ∧ sub = 0x0B then s.actKeyAdvance .h0 w
  else if i = 0x9031 ∧ sub = 0x0B then s.actKeyAdvance .h1 w
  else if i = 0x9060 ∧ sub = 0x01 then s.actSanitize via x.residual w
  else if i = 0x9070 ∧ sub = 0x03 then s.actSign via w
  else if i = 0x9080 ∧ sub = 0x02 then s.actRebind via (s.val 0x9080 0x01) w
  else if i = 0x9080 ∧ sub = 0x0B then s.actIdeHold (s.val 0x9080 0x01) w
  else dflt

/-- Spokes, drafting and logs. A write of 0x7010.02 that names the module's own position while it is in probation is
stored: R413 states only the refusal of a slot enable (assumption 47, DESIGN CHOICE). -/
def State.actPeloton (s : State) (via : Via) (i sub u : Nat) (ws : List Word) (dflt : Verdict) : Verdict :=
  let w := ws.headD 0
  let v := wordsNat ws
  if i = 0x6000 ∧ sub = 0x01 then s.actPosition .h0 w
  else if i = 0x6001 ∧ sub = 0x01 then s.actPosition .h1 w
  else if i = 0x6002 ∧ sub = 0x03 then
    .apply (((List.range ws.length).zip ws).foldl (fun t e => t.putAt (u + e.1) 0x6002 0x03 e.2) s)
  else if i = 0x6003 ∧ sub = 0x0C then s.actSpokeControl u w
  else if i = 0x7011 ∧ sub = 0x01 then s.actReceipt via .h0 v
  else if i = 0x7012 ∧ sub = 0x01 then s.actReceipt via .h1 v
  else if i = 0x7013 ∧ sub = 0x06 then s.actRestore (s.val 0x7013 0x01) w
  else if i = 0x7030 ∧ sub = 0x02 then s.actSlot .h0 (s.val 0x7030 0x01) v
  else if i = 0x7031 ∧ sub = 0x02 then s.actSlot .h1 (s.val 0x7031 0x01) v
  else if i = 0x7030 ∧ sub = 0x0B then s.actSendBack .h0 (s.val 0x7030 0x01) v
  else if i = 0x7031 ∧ sub = 0x0B then s.actSendBack .h1 (s.val 0x7031 0x01) v
  else if i = 0x7040 ∧ sub = 0x04 then s.actLogClear w
  else dflt

/-- Drafting reserve (R402): with what contexts hold it fits the pannier. -/
def State.actReserve (s : State) (h : HalfId) (v : Nat) : Verdict :=
  let i := pick h 0x5001 0x5002
  if s.val64 i 0x01 < s.shareHeld h + v * 2 ^ 30 then .refuse 0x4002 0 else .apply (s.put i 0x05 v)

/-- Ledger base or entries: the ledger lies in the context's claims (R288). -/
def State.actLedger (s : State) (sub n v : Nat) (dflt : Verdict) : Verdict :=
  let base := if sub = 0x02 then v else s.val64At n 0x3050 0x02
  let entries := if sub = 0x04 then v else s.valAt n 0x3050 0x04
  if s.spanInClaims n base (256 * entries) then dflt else .refuse 0x2003 0

def State.actArray (s : State) (x : Aux) (i sub u : Nat) (ws : List Word) (dflt : Verdict) : Verdict :=
  let w := ws.headD 0
  if i = 0x2000 ∧ sub = 0x01 then s.actCalibration .h0 w x.meas
  else if i = 0x2001 ∧ sub = 0x01 then s.actCalibration .h1 w x.meas
  else if i = 0x2010 ∧ 0x03 ≤ sub then s.actTileRegister i sub u ws
  else if i = 0x2011 ∧ 0x04 ≤ sub then s.actTileRegister i sub u ws
  else if i = 0x3050 then s.actLedger sub u (wordsNat ws) dflt
  else if i = 0x3032 ∧ sub = 0x02 then s.actNumerics (s.val 0x3032 0x01) w
  else if i = 0x5001 ∧ sub = 0x05 then s.actReserve .h0 w.toNat
  else if i = 0x5002 ∧ sub = 0x05 then s.actReserve .h1 w.toNat
  else dflt

/-- Reset commands, the port and recovery. -/
def State.actOther (s : State) (x : Aux) (i sub : Nat) (w : Word) (dflt : Verdict) : Verdict :=
  if i = 0xA003 ∧ sub = 0x03 then s.actPartition w
  else if i = 0xF001 ∧ sub = 0x04 then s.actRecover x.found w.toNat
  else if i = 0xF010 ∧ sub = 0x01 then
    s.actHalfReset (pick (halfOf w.toNat) x.found.half0 x.found.half1) w
  else if i = 0xF010 ∧ sub = 0x02 then s.actTileReset w
  else dflt

/-- A write with no rule of its own: a P2 object is stored by a deferred commit (R116), any other at once. -/
def State.plainWrite (s : State) (r : Row) (i u : Nat) (ws : List Word) : Verdict :=
  if r.per = .p2 then .accept (.store i r.sub u ws) 20000 id else .apply (s.putsAt u i r.sub ws)

/-- What a whole write does once every check before the object's own has passed. -/
def State.act (s : State) (x : Aux) (via : Via) (r : Row) (i u : Nat) (ws : List Word) : Verdict :=
  let sub := r.sub
  let v := wordsNat ws
  let d := s.plainWrite r i u ws
  if i < 0x1000 then s.actModule i sub v d
  else if i = 0x1000 then s.actSource sub v
  else if i = 0x1002 ∧ sub ≤ 0x03 then s.actEnable via sub v
  else if i < 0x2000 then s.actPowerObject x i sub v d
  else if i < 0x6000 then s.actArray x i sub u ws d
  else if i < 0x8000 then s.actPeloton via i sub u ws d
  else if i < 0x8C00 then s.actContextObject x via (i - 0x8000) sub ws d
  else if i < 0xA000 then s.actSecurity x via i sub ws d
  else s.actOther x i sub (ws.headD 0) d

/-- What a whole domain write does at its final segment (R113). -/
def State.actDomain (s : State) (i u : Nat) (l : List Byte) : Verdict :=
  if i = 0x2013 then
    (match s.imageCheck u l with
     | 0 => .apply (s.applyImage u l)
     | bad => .refuse bad 0)
  else if i = 0x9010 then s.stageImage l
  else if i = 0x9020 then s.actOwnerRoot l
  else if i = 0x9050 then s.importBlob u l
  else if i = 0x9070 then s.actService l
  else s.actRecoveryImage l

end Sys2Proof.Machine
end

