-- ==== Sys2Proof/Machine/Request.lean ====
section
/-! DEFINITION. Dictionary requests: the checks in the order of R124, latches, staging and domain writes, the
lead's gate, tickets, and the operations of the four paths (R20, R22, R109, R113, R118 to R124, R129, R132). -/

namespace Sys2Proof.Machine

open Sys2Proof

/-! ### Answers -/

/-- How a request ends: an answer with its status, ticket, hint and payload; held by the keystone until a window
closes or a bridge is heard again (R20, R22); a completer abort (R100). -/
inductive Ans where
  | done (status ticket hint : Nat) (payload : List Word)
  | held
  | abort
  deriving DecidableEq, Repr

def Ans.plain (status : Nat) : Ans := .done status 0 0 []

/-- Sends an answer; on BAR2 an aborted access is recorded with the status that gating gives it (R100, R123). -/
def State.send (s : State) (p : Path) (op i sub tag : Nat) (a : Ans) : State :=
  match a with
  | .done st ticket hint payload => s.respond p op i sub tag st ticket hint payload
  | .held => s
  | .abort => (s.respond p op i sub tag 0x4001 0 0 []).emit .abort

/-- A status of the value checks, which come before the state checks. -/
def valueClass (st : Nat) : Bool := st / 4096 == 2 && st != 0x2005

/-- Spoke requester that a ticket is issued to. -/
def requesterOf (p : Path) : Option Nat :=
  match p with
  | .spoke src _ => some src
  | _ => none

/-- Name under which a path keeps its latch and its staging buffer (R109); the spoke path has one for each serving half
(assumption 45, DESIGN CHOICE). -/
def normPath (p : Path) : Path :=
  match p with
  | .spoke _ h => .spoke 0 h
  | .manager h _ => .manager h 0
  | q => q

/-- Hint of a 0x6001: the estimate given, or the object's own. -/
def hintOf (st hint u i sub : Nat) : Nat :=
  if st = 0x6001 ∧ hint = 0 then min 0xFFFF (Config.estimate (dkey u i sub)) else hint

/-! ### The lead's gate (R20, R22) -/

/-- What the keystone does with a write of an RWL object. -/
inductive Gate where
  | pass
  | refuse
  | inWindow
  | silent
  deriving DecidableEq, Repr

/-- The writing half and its epoch are the lead's. -/
def State.leads (s : State) (h : HalfId) (e : Nat) : Bool := s.holder == halfNum h && s.epoch == e

/-- A write against the lead word: a half's under the tag its bridge gave it, a host's under that of the holder it
is forwarded to. -/
def State.gate (s : State) (o : HeldFrom) : Gate :=
  if s.key.window.isSome then .inWindow
  else match o with
    | .manager h e => if s.leads h e then .pass else .refuse
    | .member _ h e => if s.leads h e then .pass else .refuse
    | .host _ =>
      if s.holder = 0xFF then .refuse
      else
        let h := halfOf s.holder
        if s.silentBridge h then .silent
        else if s.leads h (s.half h).believed then .pass else .refuse

/-- A command to Active in Keystone-only, where nobody holds the lead (R433): R429, R432 and R493 name it as the way out,
so the keystone carries it out although R20 refuses other writes without a holder (assumption 34, DEDUCED). At the epoch
limit every such write is refused (R522). -/
def State.leadless (s : State) (i : Nat) (ws : List Word) : Bool :=
  i == 0x1010 && s.val 0x1010 0x01 == 3 && s.holder == 0xFF && (ws.headD 0).toNat % 4 == 0 &&
    decide (s.epoch < epochLast)

/-- Half whose bridge tagged a write, and the epoch of the tag. -/
def State.tagOf (s : State) (o : HeldFrom) : Option (HalfId × Nat) :=
  match o with
  | .manager h e => some (h, e)
  | .member _ h e => some (h, e)
  | .host _ => if s.holder = 0xFF then none else some (halfOf s.holder, (s.half (halfOf s.holder)).believed)

/-- The half whose write was refused for an epoch that it no longer holds rereads the lead word (R27). -/
def State.staleTag (s : State) (o : HeldFrom) : State :=
  match s.tagOf o with
  | some (h, e) => if e = s.epoch then s else s.modHalf h (fun c => { c with believed := s.epoch })
  | none => s

/-- Who a write comes from, tagged as R20 tags it. -/
def State.originOf (s : State) (via : Via) : HeldFrom :=
  match via.path with
  | .manager h e => .manager h e
  | .spoke _ h => .member via h (s.half h).believed
  | _ => .host via

/-- Holds a write until the window closes, or until the holder's bridge is heard again. -/
def State.hold (s : State) (g : Gate) (w : HeldWrite) : State :=
  match g, s.key.window with
  | .inWindow, some x => { s with key := { s.key with window := some { x with held := x.held ++ [w] } } }
  | .silent, _ => { s with key := { s.key with hostHeld := s.key.hostHeld ++ [w] } }
  | _, _ => s

/-! ### A whole write (R124) -/

/-- Status that a verdict refuses with, 0 if it does not. -/
def Verdict.status : Verdict → Nat
  | .refuse st _ => st
  | .counted st _ => st
  | .apply _ => 0
  | .accept _ _ _ => 0

/-- State that a refusal leaves, where its rule counts it. -/
def Verdict.refusedState (v : Verdict) (s : State) : State :=
  match v with
  | .counted _ t => t
  | _ => s

/-- The write would need a ticket: of a P2 object, or of a firmware commit. -/
def takesTicket (r : Row) (i : Nat) : Bool := r.per == .p2 || (i == 0x9010 && (r.sub == 0x04 || r.sub == 0x05))

/-- Statuses that come after the want of a ticket in R124. -/
def afterTicket (st : Nat) : Bool := [0x2005, 0x4003, 0x5002, 0x5003].contains st

/-- Carries a verdict out: applies, refuses, or accepts with a ticket if there is one left. -/
def State.settleWrite (s : State) (via : Via) (r : Row) (i u : Nat) (ws : List Word) (v : Verdict) : State × Ans :=
  let sub := r.sub
  let note := fun (t : State) => t.traceAdd (.wrote i sub ws t.count)
  if afterTicket v.status && takesTicket r i && !s.ticketRoom then (s, .plain 0x4002)
  else match v with
  | .refuse st hint => (s, .done st 0 (hintOf st hint u i sub) [])
  | .counted st t => (t, .done st 0 (hintOf st 0 u i sub) [])
  | .apply t => (note t, .plain 0x0000)
  | .accept work est go =>
    if s.ticketRoom then
      let n := s.nextTicketNum
      (note (go (s.issue work est (requesterOf via.path))), .done 0x6002 n (min 0xFFFF est) [])
    else (s, .plain 0x4002)

/-- A calibration ABORT, which stops the pending step (R224). -/
def aborts (i : Nat) (ws : List Word) : Bool := (i == 0x2000 || i == 0x2001) && calStep (wordsNat ws) == 3

/-- A request meets the pending write of its object, or its manager's load; none if neither stands in its way
(R124, R128, R132). -/
def State.busyStatus (s : State) (o : Obj) (r : Row) (i u : Nat) (write past : Bool) : Option (State × Ans) :=
  let server := s.server o i r.single
  match (if write && !past then s.pendingWrite o i r.sub u else none) with
  | some t => some (s, .done 0x6001 0 (s.remaining t) [])
  | none =>
    match server with
    | some h =>
      if s.sheds o i server write then some (s.bump 0x0011 (0x05 + halfNum h), .done 0x6001 0 (shedHint h) [])
      else none
    | none => none

/-- A write joins its manager's queue of tier 1, or finds it full (R132, R133). -/
def State.joinQueue (s : State) (h : HalfId) (w : HeldWrite) : State × Ans :=
  if tier1Size ≤ (s.half h).tier1.length then
    (s.bump 0x0011 (0x05 + halfNum h), .done 0x6001 0 (tier1Hint h) [])
  else (s.modHalf h (fun c => { c with tier1 := c.tier1 ++ [w] }), .held)

/-- Checks of a write from its value on, and its effect. `x` is what its work measures, `expect` what a WRITE_IF expects
to find, `wait` says that it may yet be queued. A value found that is not the expected one stands with the states that
bar a write (assumption 43, DESIGN CHOICE: R124 does not place it). -/
def State.weigh (s : State) (x : Aux) (via : Via) (o : Obj) (r : Row) (i tag : Nat) (ws : List Word)
    (origin : HeldFrom) (expect : Option (List Word)) (wait : Bool) : State × Ans :=
  let u := s.unitOf o r
  let held : HeldWrite :=
    { origin := origin, index := i, sub := r.sub, tag := tag, words := ws, expect := expect, found := x.found }
  let v := s.act x via r i u ws
  let bad := reservedFirst [r.valueStatus ws, s.ownStatus i r.sub u ws, if valueClass v.status then v.status else 0]
  let g := if r.acc = .rwl ∧ s.leadless i ws = false then s.gate origin else .pass
  if bad ≠ 0 then (s, .plain bad)
  else if expect.isSome && expect != some (s.readObj o r i) then (s, .plain 0x3001)
  else if r.acc = .rws ∧ s.rwsOpen i r.sub = false then (s, .plain 0x3001)
  else match g with
    | .refuse => (s.staleTag origin, .plain 0x3002)
    | .inWindow | .silent => (s.hold g held, .held)
    | .pass =>
      if s.ctxBars o r i r.sub ws then (s, .plain 0x3003)
      else match s.busyStatus o r i u true (aborts i ws) with
        | some a => a
        | none =>
          match (if wait && s.queues o i (s.server o i r.single) then s.server o i r.single else none) with
          | some h => s.joinQueue h held
          | none => s.settleWrite via r i u ws v

/-- The answer of a WRITE_IF that was done, accepted or refused with 0x3001 carries the current value (R119, R120). -/
def Ans.withValue (a : Ans) (now : List Word) : Ans :=
  match a with
  | .done st t hint l => .done st t hint (if st = 0x0000 ∨ st = 0x6002 ∨ st = 0x3001 then now else l)
  | b => b

/-- A write from its value checks on. -/
def State.commit (s : State) (x : Aux) (via : Via) (o : Obj) (r : Row) (i tag : Nat) (ws : List Word)
    (origin : HeldFrom) (expect : Option (List Word)) (wait : Bool) : State × Ans :=
  let a := s.weigh x via o r i tag ws origin expect wait
  (a.1, if expect.isSome then a.2.withValue (s.readObj o r i) else a.2)

/-! ### Replays of held writes (R20, R22) -/

/-- A held write meets the state that stands now, and is answered. -/
def State.replay (s : State) (w : HeldWrite) (wait : Bool) : State :=
  match findObj w.index with
  | none => s
  | some o =>
    match o.row w.sub with
    | none => s
    | some r =>
      let via := match w.origin with
        | .host v => v
        | .member v _ _ => v
        | .manager h e => { path := .manager h e, session := none }
      let x := { Aux.none with found := w.found }
      let a := s.commit x via o r w.index w.tag w.words w.origin w.expect wait
      a.1.send w.path w.op w.index w.sub w.tag a.2

/-- A manager serves the oldest write of its queue. -/
def State.serveQueue (s : State) (h : HalfId) : State :=
  match (s.half h).tier1 with
  | [] => s
  | w :: rest => (s.modHalf h (fun c => { c with tier1 := rest })).replay w false

/-- A manager that sheds no longer serves all that its queue holds. -/
def State.emptyQueue (s : State) (h : HalfId) : State :=
  (s.half h).tier1.foldl (fun t w => t.replay w false) (s.modHalf h (fun c => { c with tier1 := [] }))

/-! ### Staging and latches (R109) -/

def State.staging (s : State) (p : Path) : Option Staging :=
  s.svc.stagings.find? (fun x => x.path == normPath p)

def State.setStagings (s : State) (l : List Staging) : State := { s with svc := { s.svc with stagings := l } }

/-- Discards what a path has staged. -/
def State.unstage (s : State) (p : Path) : State :=
  s.setStagings (s.svc.stagings.filter (fun x => x.path != normPath p))

/-- A write to another object on the path discards what is staged. -/
def State.unstageOther (s : State) (p : Path) (i sub : Nat) : State :=
  s.setStagings (s.svc.stagings.filter (fun x => x.path != normPath p || (x.index == i && x.sub == sub)))

def State.stage (s : State) (p : Path) (i sub : Nat) (ws : List Word) : State :=
  let x : Staging := { path := normPath p, index := i, sub := sub, words := ws, stamp := s.count }
  (s.unstage p).setStagings ((s.unstage p).svc.stagings ++ [x])

/-- 1 ms in keystone counts. -/
def latchCounts : Nat := 50000

def State.latch (s : State) (p : Path) (i sub : Nat) (ws : List Word) : State :=
  let x : Latch := { path := normPath p, index := i, sub := sub, words := ws, stamp := s.count }
  { s with svc := { s.svc with latches := s.svc.latches.filter (fun y => y.path != normPath p) ++ [x] } }

/-- Words that a path has latched of an object. -/
def State.latched (s : State) (p : Path) (i sub : Nat) : Option (List Word) :=
  (s.svc.latches.find? (fun x => x.path == normPath p && x.index == i && x.sub == sub &&
    decide (s.count - x.stamp ≤ latchCounts))).map (·.words)

/-! ### Reads -/

/-- Draws taken by a read of a free value. -/
def drawnBy (i sub : Nat) : Nat := if sensor i sub || (i == 0x1006 && sub == 0x05) then 256 else 0

/-- Value of a read: the whole object, latched, at its first word; one word after it. -/
def State.readValue (s : State) (p : Path) (o : Obj) (r : Row) (i sub : Nat) : State × List Word :=
  if sub = r.sub then
    let ws := s.readObj o r i
    let s := s.freeSkip (drawnBy i sub)
    (if 1 < r.words then s.latch p i r.sub ws else s, ws)
  else
    match s.latched p i r.sub with
    | some ws => (s, [ws.getD (sub - r.sub) 0])
    | none => (s.freeSkip (drawnBy i sub), [s.readWord o r i sub])

/-- A half that rereads the lead word knows the epoch; having reread both words it stands down no longer (R23). -/
def State.rereadLead (s : State) (p : Path) (i sub : Nat) : State :=
  match p with
  | .manager h _ =>
    if i = 0x0040 ∧ (sub = 0x01 ∨ sub = 0x02) then
      s.modHalf h (fun c => { c with unread := c.unread.filter (· != sub),
                                     believed := if sub = 0x02 then s.epoch else c.believed })
    else s
  | _ => s

/-- A read of 0x0010.08 collects a complete ticket; a spoke requester collects its own only (R129). -/
def State.collectQueried (s : State) (p : Path) : State :=
  match s.ticketFor p (s.val 0x0010 0x07) with
  | some t => if t.status.isSome then s.collect t.num else s
  | none => s

/-- The queried ticket is held by another requester than the spoke that reads. -/
def State.queryBarred (s : State) (p : Path) : Bool :=
  s.ticketHeld (s.val 0x0010 0x07) && (s.ticketFor p (s.val 0x0010 0x07)).isNone

/-! ### Requests in a frame -/

/-- Type a request expects against the object's own (R119). -/
def typeStatus (ty : Nat) (t : Ty) : Nat := if ty = 0xF ∨ ty = t.code then 0 else 0x1006

/-- A segment read asks for more than a message of its path carries (R121, R122). -/
def tooLong (p : Path) (n : Nat) : Bool :=
  match p with
  | .mctp | .spoke _ _ => decide (1000 < n)
  | _ => false

/-- A segment write carries more than a request of its path holds beside its offset and flags (R119, R121, R122). -/
def overlong (p : Path) (n : Nat) : Bool :=
  match p with
  | .mctp | .spoke _ _ => decide (1000 < n)
  | _ => decide (4056 < n)

/-- A manager whose half is fenced or does not run reaches nobody, and nobody serves the spokes of a half that does not
run (R28); a gated or unaddressed I3C secondary
acknowledges nothing (R100). -/
def State.mute (s : State) (p : Path) : Bool :=
  match p with
  | .manager h _ => s.fenced h || !s.runs h
  | .spoke _ h => !s.runs h && !s.fenced h
  | .mctp => !s.i3cServes
  | _ => false

/-- A half that stands down issues no write of a lead-governed object, claims included (R23). -/
def State.standsDown (s : State) (p : Path) (i sub : Nat) : Bool :=
  match p with
  | .manager h _ => !(s.half h).unread.isEmpty && ((i == 0x0040 && sub == 0x03) ||
      (match findRow i sub with | some r => r.acc == .rwl | none => false))
  | _ => false

/-- The answer of a half crosses its bridge. -/
def State.heard (s : State) (server : Option HalfId) : State :=
  match server with
  | some h => s.beat h
  | none => s

/-- A gated access is counted (R100). -/
def State.countGated (s : State) (st : Nat) : State := if st = 0x4001 then s.bump 0x1002 0x0A else s

/-- Refusal of an access before its value is looked at: on BAR2 a gated one aborts. -/
def refusalOf (p : Path) (st : Nat) : Ans := if st = 0x4001 ∧ p = .bar2 then .abort else .plain st

/-- Finds a request's object and makes the checks up to the rights; `go` takes it on. An object without a row there
is its summary word. -/
def State.checked (s : State) (via : Via) (i sub : Nat) (use : Use) (ws : List Word)
    (go : State → Obj → Option Row → State × Ans) : State × Ans :=
  match findObj i with
  | none => (s, .plain 0x1001)
  | some o =>
    match s.entryStatus via o i sub use ws with
    | 0 =>
      let r := o.row sub
      go (s.heard (match r with | some x => s.server o i x.single | none => none)) o r
    | bad => (s.countGated bad, refusalOf via.path bad)

/-- A request that looks an object up is shed with the rest of tier 3 (R132). -/
def State.shedLook (s : State) (o : Obj) (i : Nat) : Option (State × Ans) :=
  match s.server o i false with
  | some h =>
    if s.sheds o i (some h) false then some (s.bump 0x0011 (0x05 + halfNum h), .done 0x6001 0 (shedHint h) []) else none
  | none => none

/-- READ (R120). -/
def State.opRead (s : State) (q : Req) : State × Ans :=
  let p := q.via.path
  s.checked q.via q.index q.sub .read [] (fun s o row =>
    if q.words ≠ [] then (s, .plain 0x1005)
    else match row with
      | none =>
        (match typeStatus q.ty .u32 with
         | 0 => (s.shedLook o q.index).getD (s, .done 0x0000 0 0 [toWord o.summary])
         | bad => (s, .plain bad))
      | some r =>
        match typeStatus q.ty r.ty with
        | 0 =>
          let u := s.unitOf o r
          (match s.busyStatus o r q.index u false false with
           | some a => a
           | none =>
             if q.index = 0x0010 ∧ q.sub = 0x08 then
               (if s.queryBarred p then (s, .plain 0x5001)
                else (s.collectQueried p, .done 0x0000 0 0 (s.readValue p o r q.index q.sub).2))
             else
               let a := s.readValue p o r q.index q.sub
               (a.1.rereadLead p q.index q.sub, .done 0x0000 0 0 a.2))
        | bad => (s, .plain bad))

/-- A claim of a half manager joins the window (R21, R22). -/
def State.takeClaim (s : State) (p : Path) (w : Word) : State × Ans :=
  match p with
  | .manager h _ => (s.claim h w.toNat, .held)
  | _ => (s, .plain 0x5001)

/-- A write whose words are complete. -/
def State.wholeWrite (s : State) (x : Aux) (via : Via) (o : Obj) (r : Row) (i tag : Nat) (ws : List Word) :
    State × Ans :=
  if i = 0x0040 ∧ r.sub = 0x03 then s.takeClaim via.path (ws.headD 0)
  else s.commit x via o r i tag ws (s.originOf via) none true

/-- One word of a multi-word object (R109). -/
def State.wordWrite (s : State) (x : Aux) (via : Via) (o : Obj) (r : Row) (i sub tag : Nat) (w : Word) :
    State × Ans :=
  let p := via.path
  if sub = r.sub then (s.stage p i r.sub [w], .plain 0x0000)
  else match s.staging p with
    | some g =>
      if g.index = i ∧ g.sub = r.sub ∧ sub = r.sub + g.words.length ∧ s.count - g.stamp ≤ latchCounts then
        let ws := g.words ++ [w]
        if ws.length = r.words then (s.unstage p).wholeWrite x via o r i tag ws
        else (s.stage p i r.sub ws, .plain 0x0000)
      else (s.unstage p, .plain 0x1005)
    | none => (s, .plain 0x1005)

/-- WRITE (R109, R120): the whole value, or one word of it. -/
def State.opWrite (s : State) (x : Aux) (q : Req) : State × Ans :=
  let p := q.via.path
  let first := match findRow q.index q.sub with | some r => r.sub | none => 0
  (s.unstageOther p q.index first).checked q.via q.index q.sub .write q.words (fun s o row =>
    match row with
    | none => (s, .plain 0x1003)
    | some r =>
      let whole := q.sub = r.sub ∧ q.words.length = r.words
      if r.ty = .domain then (s, .plain (if q.words.length = 1 then 0x1006 else 0x1005))
      else if ¬whole ∧ q.words.length ≠ 1 then (s, .plain 0x1005)
      else match typeStatus q.ty r.ty with
        | 0 =>
          if whole then (s.unstage p).wholeWrite x q.via o r q.index q.tag q.words
          else s.wordWrite x q.via o r q.index q.sub q.tag (q.words.headD 0)
        | bad => (s, .plain bad))

/-- WRITE_IF (R120): the new value takes the place of the expected one. The statuses of a WO object and of a second word
are DESIGN CHOICE (assumption 43: R120 gives none). -/
def State.opWriteIf (s : State) (q : Req) : State × Ans :=
  let p := q.via.path
  let first := match findRow q.index q.sub with | some r => r.sub | none => 0
  (s.unstageOther p q.index first).checked q.via q.index q.sub .write q.words (fun s o row =>
    match row with
    | none => (s, .plain 0x1003)
    | some r =>
      if r.acc = .wo then (s, .plain 0x1004)
      else if 2 < r.words ∨ r.ty = .domain ∨ q.sub ≠ r.sub then (s, .plain 0x1006)
      else if q.words.length ≠ 2 * r.words then (s, .plain 0x1005)
      else match typeStatus q.ty r.ty with
        | 0 =>
          (s.unstage p).commit Aux.none q.via o r q.index q.tag (q.words.drop r.words) (s.originOf q.via)
            (some (q.words.take r.words)) true
        | bad => (s, .plain bad))

/-- DESCRIBE (R110, R111, R120). -/
def State.opDescribe (s : State) (q : Req) : State × Ans :=
  s.checked q.via q.index q.sub .look [] (fun s o row =>
    if q.words ≠ [] then (s, .plain 0x1005)
    else
      let t := match row with | some r => r.ty | none => .u32
      match typeStatus q.ty t with
      | 0 =>
        match s.shedLook o q.index with
        | some a => a
        | none =>
        let size := if t = .domain then [toWord (s.domainLength q.index q.sub)] else []
        (s, .done 0x0000 0 0 ([toWord o.summary, toWord (entryWord q.index q.sub)] ++ size))
      | bad => (s, .plain bad))

/-- NEXT (R120). A walk starts at 0x0000.00 (the example of R520), which no object defines. -/
def State.opNext (s : State) (q : Req) : State × Ans :=
  match findObj q.index with
  | none => (s, .plain 0x1001)
  | some o =>
    if (o.row q.sub).isNone && q.sub != 0xFF && !(q.index == 0 && q.sub == 0) then (s, .plain 0x1002)
    else match s.walkStatus q.via with
      | 0 =>
        if q.words ≠ [] then (s, .plain 0x1005)
        else match typeStatus q.ty (match o.row q.sub with | some r => r.ty | none => .u32) with
          | 0 => (s.shedLook o q.index).getD (s, .done 0x0000 0 0 [toWord (nextPlace q.index q.sub)])
          | bad => (s, .plain bad)
      | bad => (s, .plain bad)

/-- A request whose operation code is none of R120's: refused, its object and path looked at first. -/
def State.opOther (s : State) (q : Req) : State × Ans :=
  s.checked q.via q.index q.sub .look [] (fun s _ _ => (s, .plain 0x2003))

/-- TICKET (R120, R129). -/
def State.opTicket (s : State) (q : Req) : State × Ans :=
  let p := q.via.path
  s.checked q.via q.index q.sub .read [] (fun s _ row =>
    if q.words.length ≠ 1 then (s, .plain 0x1005)
    else match typeStatus q.ty (match row with | some r => r.ty | none => .u32) with
      | 0 =>
        let n := (q.words.headD 0).toNat
        if q.index ≠ 0x0010 ∨ q.sub ≠ 0x08 then (s, .plain 0x2003)
        else if 65535 < n then (s, .plain 0x2004)
        else if !s.ticketHeld n then (s, .plain 0x2003)
        else (match s.ticketFor p n with
          | none => (s, .plain 0x5001)  -- another requester's ticket (assumption 44, DESIGN CHOICE: R129 gives no status)
          | some t =>
            (if t.status.isSome then s.collect n else s, .done 0x0000 0 0 [toWord t.payload]))
      | bad => (s, .plain bad))

/-! ### Domains (R113, R120, R239, R477) -/

def State.setSnapshots (s : State) (l : List Snapshot) : State := { s with svc := { s.svc with snapshots := l } }

/-- 1 s in keystone counts. -/
def secondCounts : Nat := 50000000

/-- Snapshot that serves a path's read of a domain. -/
def State.snapshotOf (s : State) (p : Path) (i sub u : Nat) : Option Snapshot :=
  s.svc.snapshots.find? (fun x => x.path == normPath p && x.index == i && x.sub == sub && x.inst == u &&
    decide (s.count - x.stamp ≤ secondCounts))

def State.closeSnapshot (s : State) (p : Path) (i sub : Nat) : State :=
  s.setSnapshots (s.svc.snapshots.filter (fun x => !(x.path == normPath p && x.index == i && x.sub == sub)))

/-- Takes the snapshot that later segments read. -/
def State.takeSnapshot (s : State) (p : Path) (i sub u : Nat) : State × Snapshot :=
  let a := if i = 0x9050 then s.exportBlob u else (s, s.domain i sub)
  let x : Snapshot := { path := normPath p, index := i, sub := sub, inst := u, bytes := a.2, stamp := s.count }
  let t := a.1.closeSnapshot p i sub
  (t.setSnapshots (t.svc.snapshots ++ [x]), x)

/-- Content that a segment read sees. -/
def State.segmentSource (s : State) (p : Path) (i sub u off : Nat) : State × List Byte :=
  if !snapped i sub then (s, s.domain i sub)
  else match (if off = 0 then none else s.snapshotOf p i sub u) with
    | some x => (s, x.bytes)
    | none => ((s.takeSnapshot p i sub u).1, (s.takeSnapshot p i sub u).2.bytes)

/-- READ_SEG. -/
def State.opReadSeg (s : State) (q : Req) : State × Ans :=
  let p := q.via.path
  s.checked q.via q.index q.sub .read [] (fun s o row =>
    match row with
    | none => (s, .plain 0x1006)
    | some r =>
      let off := (q.words.getD 0 0).toNat
      let n := (q.words.getD 1 0).toNat
      let u := s.unitOf o r
      if q.words.length ≠ 2 ∨ tooLong p n = true then (s, .plain 0x1005)
      else if r.ty ≠ .domain ∨ typeStatus q.ty .domain ≠ 0 then (s, .plain 0x1006)
      else if 4064 < n then (s, .plain 0x2001)
      else if n = 0 then (s, .plain 0x2002)
      else
        let bad := if q.index = 0x9050 ∧ (off = 0 ∨ (s.snapshotOf p q.index q.sub u).isNone) then s.exportStatus u
          else 0
        if bad ≠ 0 then (s, .plain bad)
        else match s.busyStatus o r q.index u false false with
          | some a => a
          | none =>
            let a := s.segmentSource p q.index q.sub u off
            let s := if a.2.length ≤ off + n then a.1.closeSnapshot p q.index q.sub else a.1
            (s.emit (.bytes p q.tag ((a.2.drop off).take n)), .plain 0x0000))

def State.setDomWrites (s : State) (l : List DomWrite) : State := { s with svc := { s.svc with domWrites := l } }

/-- Discards the open domain write of a path. -/
def State.closeDomain (s : State) (p : Path) : State :=
  s.setDomWrites (s.svc.domWrites.filter (fun x => x.path != normPath p))

/-- The whole content of a domain write has come: its length and its values are checked first (R113, R124). -/
def State.commitDomain (s : State) (via : Via) (o : Obj) (r : Row) (i u : Nat) (l : List Byte) : State × Ans :=
  let v := s.actDomain i u l
  if v.status == 0x1005 || valueClass v.status then s.settleWrite via r i u [] v
  else if s.ctxBars o r i r.sub [] then (s, .plain 0x3003)
  else match s.busyStatus o r i u true false with
    | some a => a
    | none => s.settleWrite via r i u [] v

/-- WRITE_SEG. -/
def State.opWriteSeg (s : State) (q : Req) (off : Nat) (first final : Bool) (data : List Byte) : State × Ans :=
  let p := q.via.path
  let named := match findRow q.index q.sub with | some r => r.sub | none => 0
  (s.unstageOther p q.index named).checked q.via q.index q.sub .write [] (fun s o row =>
    match row with
    | none => (s, .plain 0x1003)
    | some r =>
      let u := s.unitOf o r
      let mine := s.svc.domWrites.find? (fun x => x.path == normPath p)
      let other := s.svc.domWrites.any (fun x => x.path != normPath p && x.index == q.index && x.sub == q.sub &&
        x.inst == u)
      let start := first && off == 0
      let sofar := match mine with
        | some x => if start then some [] else if x.index = q.index ∧ x.sub = q.sub ∧ x.inst = u then some x.bytes else none
        | none => if start then some [] else none
      if overlong p data.length then (s, .plain 0x1005)
      else if r.ty ≠ .domain ∨ typeStatus q.ty .domain ≠ 0 then (s, .plain 0x1006)
      else if other then (s, .done 0x6001 0 (hintOf 0x6001 0 u q.index q.sub) [])
      else match sofar with
        | none => (s.closeDomain p, .plain 0x2001)
        | some l =>
          if off ≠ l.length ∨ first = true ∧ off ≠ 0 then (s.closeDomain p, .plain 0x2001)
          else
            let all := l ++ data
            let s := s.closeDomain p
            if final then s.commitDomain q.via o r q.index u all
            else
              let x : DomWrite := { path := normPath p, index := q.index, sub := q.sub, inst := u, bytes := all }
              (s.setDomWrites (s.svc.domWrites ++ [x]), .plain 0x0000))

/-! ### The commands -/

/-- An answer on I3C is announced by an in-band interrupt, withheld while SDA's pull-up is missing (R51; that each
answer takes one is PRESUMED of MCTP on I3C). -/
def State.interrupt (s : State) (p : Path) : State :=
  if p == .mctp && !s.flag 0x0101 0x01 1 then s.emit .inBandInterrupt else s

/-- Serves a framed request of an operation and answers it. -/
def State.serve (s : State) (q : Req) (op : Nat) (f : State → State × Ans) : State :=
  if s.mute q.via.path then s
  else
    let a := match q.other with | some _ => s.opOther q | none => f s
    (a.1.interrupt q.via.path).send q.via.path (q.other.getD op) q.index q.sub q.tag a.2

/-- Serves a framed write: a half that stands down does not issue one that the lead governs. -/
def State.serveWrite (s : State) (q : Req) (op : Nat) (f : State → State × Ans) : State :=
  if s.standsDown q.via.path q.index q.sub then s else s.serve q op f

/-- WRITE_OBJECT: a write to an object with no behaviour of its own. -/
def execWriteObject (req : Req) (s : State) : Result :=
  onPower s (fun s => s.serveWrite req opCode.write (fun t => t.opWrite Aux.none req))
/-- READ. -/
def execRead (req : Req) (s : State) : Result := onPower s (fun s => s.serve req opCode.read (fun t => t.opRead req))
/-- WRITE. -/
def execWrite (req : Req) (s : State) : Result :=
  onPower s (fun s => s.serveWrite req opCode.write (fun t => t.opWrite Aux.none req))
/-- WRITE_IF. -/
def execWriteIf (req : Req) (s : State) : Result :=
  onPower s (fun s => s.serveWrite req opCode.writeIf (fun t => t.opWriteIf req))
/-- DESCRIBE. -/
def execDescribe (req : Req) (s : State) : Result := onPower s (fun s => s.serve req opCode.describe (fun t => t.opDescribe req))
/-- READ_SEG. -/
def execReadSeg (req : Req) (s : State) : Result := onPower s (fun s => s.serve req opCode.readSeg (fun t => t.opReadSeg req))
/-- WRITE_SEG. -/
def execWriteSeg (req : Req) (offset : Nat) (first final : Bool) (data : List Byte) (s : State) : Result :=
  onPower s (fun s => s.serve req opCode.writeSeg (fun t => t.opWriteSeg req offset first final data))
/-- TICKET. -/
def execTicket (req : Req) (s : State) : Result := onPower s (fun s => s.serve req opCode.ticket (fun t => t.opTicket req))
/-- NEXT. -/
def execNextObj (req : Req) (s : State) : Result := onPower s (fun s => s.serve req opCode.next (fun t => t.opNext req))

/-! ### The BAR2 window (R118, R123, R136) -/

def bar2Via : Via := { path := .bar2, session := none }

/-- Width and alignment that the window takes; its 64 MiB. -/
def windowFits (offset width : Nat) : Bool :=
  (width == 4 || width == 8) && offset % width == 0 && decide (offset + width ≤ 2 ^ 26)

def windowReq (offset : Nat) (ws : List Word) : Req :=
  { via := bar2Via, index := offset / 1024, sub := offset / 4 % 256, tag := 0, ty := 0xF, words := ws }

/-- A read of 0x0010.08 whose ticket is not held records 0x2003. -/
def State.ticketQuery (s : State) : State × Word :=
  match s.ticketFor .bar2 (s.val 0x0010 0x07) with
  | none => (s.recordWindow 0x0010 0x08 0x2003 0 0, 0)
  | some t => (s.collectQueried .bar2, toWord t.payload)

/-- One 4-byte read of the window: its word, none for an abort. -/
def State.windowRead (s : State) (offset : Nat) : State × Option Word :=
  let q := windowReq offset []
  if q.index = 0x0010 ∧ q.sub = 0x08 ∧ s.flag 0xF000 0x02 0 = false then
    ((s.ticketQuery).1, some (s.ticketQuery).2)
  else
    let a := s.opRead q
    match a.2 with
    | .done st t hint l =>
      let s := a.1.respond .bar2 opCode.read q.index q.sub 0 st t hint []
      (s, some (if st = 0x0000 then l.headD 0 else 0))
    | _ => (a.1.respond .bar2 opCode.read q.index q.sub 0 0x4001 0 0 [], none)

/-- Reads a width of the window and completes. -/
def State.windowComplete (s : State) (offset width : Nat) : State :=
  if !windowFits offset width then s.emit .abort
  else
    let a := s.windowRead offset
    if width = 4 then
      (match a.2 with
       | some w => a.1.emit (.completion (BitVec.ofNat 64 w.toNat))
       | none => a.1.emit .abort)
    else
      let b := a.1.windowRead (offset + 4)
      match a.2, b.2 with
      | some v, some w => b.1.emit (.completion (BitVec.ofNat 64 (v.toNat + 2 ^ 32 * w.toNat)))
      | _, _ => b.1.emit .abort

/-- BAR2_READ. -/
def execBar2Read (offset width : Nat) (s : State) : Result := onPower s (fun s => s.windowComplete offset width)

/-- One 4-byte write of the window. -/
def State.windowWrite (s : State) (offset : Nat) (w : Word) : State :=
  let q := windowReq offset [w]
  s.serve q opCode.write (fun t => t.opWrite Aux.none q)

/-- BAR2_WRITE. -/
def execBar2Write (offset width : Nat) (value : BitVec 64) (s : State) : Result :=
  onPower s (fun s =>
    if !windowFits offset width then s.emit .abort
    else
      let s := s.windowWrite offset (value.extractLsb' 0 32)
      if width = 4 then s else s.windowWrite (offset + 4) (value.extractLsb' 32 32))

/-- Half that a read of the window waits for. -/
def State.windowServer (s : State) (offset : Nat) : Option HalfId :=
  let q := windowReq offset []
  match findObj q.index with
  | some o => (match o.row q.sub with | some r => s.server o q.index r.single | none => none)
  | none => none

/-- A word of the window whose manager has not answered is recorded as busy. -/
def State.recordLate (s : State) (h : HalfId) (offset : Nat) : State :=
  s.recordWindow (offset / 1024) (offset / 4 % 256) 0x6001 0 (min 0xFFFF (Config.loadEstimate (halfNum h)))

/-- BAR2_READ_TIMEOUT: the manager has not answered within 10 µs. An object of the keystone is answered always. -/
def execBar2ReadTimeout (offset width : Nat) (s : State) : Result :=
  onPower s (fun s =>
    match s.windowServer offset with
    | some h =>
      if !windowFits offset width then s.emit .abort
      else
        (if width = 4 then s.recordLate h offset
         else (s.recordLate h offset).recordLate h (offset + 4)).emit (.completion 0)
    | none => s.windowComplete offset width)

/-- TICKET_RESULT_READ: a 4-byte read of 0x0010.08 through the window. -/
def execTicketResultRead (s : State) : Result := onPower s (fun s => s.windowComplete (0x0010 * 1024 + 0x08 * 4) 4)

/-! ### Service events (R113, R116, R129, R132) -/

/-- DOMAIN_WRITE_TIMEOUT: 1 s without a segment. -/
def execDomainWriteTimeout (index sub inst : Nat) (s : State) : Result :=
  onPower s (fun s =>
    s.setDomWrites (s.svc.domWrites.filter (fun x => !(x.index == index && x.sub == sub && x.inst == inst))))

/-- What the commit of a stored object does beside storing it. -/
def State.afterStore (s : State) (i sub u : Nat) (ws : List Word) : State :=
  if i = 0x1011 ∧ sub = 0x02 then
    let s := [HalfId.h0, HalfId.h1].foldl (fun t h =>
      t.modHalf h (fun c => { c with awaitSplit := false, crawlFence := t.fenced h && c.crawlFence })) s
    s.regrant.throttleBoth
  else if i = 0x9020 ∧ sub = 0x02 then s.endOwnerRoot ws
  else if i = 0x9020 ∧ sub = 0x0D then s.endSealingKey u ws
  else s

/-- Words of a store commit take effect: a new limit rescales the split (R436); secrets are not readable. -/
def State.storeWords (s : State) (i sub u : Nat) (ws : List Word) : State :=
  if i = 0x1011 ∧ sub = 0x01 then
    let limit := (ws.headD 0).toNat
    ((s.put 0x1011 0x02 (s.rescaled limit)).put 0x1011 0x01 limit).regrant
  else if i = 0x9020 ∧ (sub = 0x02 ∨ sub = 0x0D) then s
  else s.putsAt u i sub ws

/-- Deferred work without words of its own ends. -/
def State.endWork (s : State) (i status : Nat) : State :=
  if i = 0x9010 then s.endCommit (status == 0)
  else if i = 0x9060 ∨ i = 0x9020 then { s with sec := { s.sec with sanitizing := none } }
  else s

/-- Final status of deferred work: a sanitize reports residual cells (R479). -/
def State.finalStatus (s : State) (i status : Nat) : Nat :=
  if (i = 0x9060 ∨ i = 0x9020 ∧ s.sec.sanitizing.isSome = true) ∧ status = 0 then s.sanitizeStatus else status

/-- A host reset that waited for the keystone's commit runs (R76). -/
def State.releaseReset (s : State) (i sub : Nat) : State :=
  match s.key.resetHeld with
  | some link =>
    if i = 0x9010 ∧ sub = 0x04 then State.hostReset { s with key := { s.key with resetHeld := none } } link else s
  | none => s

/-- The budget stands as it was when a write of it was accepted; a limit or a split written meanwhile may bar it. -/
def State.recheck (s : State) (i sub : Nat) (ws : List Word) : Nat :=
  let v := (ws.headD 0).toNat
  if i = 0x1011 ∧ sub = 0x02 then s.ownStatus i sub 0 ws
  else if i = 0x1011 ∧ sub = 0x01 then (if (s.actLimit v).status = 0 then 0 else 0x3001)
  else 0

/-- Ends a ticket's work. Claims end by CLAIM_COMPLETE and actions by commands of their own. -/
def State.endDeferred (s : State) (t : Ticket) (status : Nat) : State :=
  match t.work with
  | .store i sub u ws =>
    let status := if status = 0 then s.recheck i sub ws else status
    if 0x8000 ≤ i ∧ i ≤ 0x8BFF then s
    else if status = 0 then
      let s := (s.storeWords i sub u ws).bump 0x0010 0x09
      (s.afterStore i sub u ws).endTicket t.num 0x0000
    else s.endTicket t.num status
  | .commitOnly i sub =>
    let st := s.finalStatus i status
    ((s.endWork i status).endTicket t.num st).releaseReset i sub
  | .action _ _ _ => s

/-- DEFERRED_WRITE_COMPLETE. -/
def execDeferredWriteComplete (num status : Nat) (s : State) : Result :=
  onPower s (fun s =>
    match s.svc.tickets.find? (fun t => t.num == num && t.status.isNone) with
    | some t => s.endDeferred t status
    | none => s)

/-- TICKET_EXPIRE: a complete ticket not collected for 10 s is freed. -/
def execTicketExpire (num : Nat) (s : State) : Result :=
  onPower s (fun s =>
    match s.svc.tickets.find? (fun t => t.num == num) with
    | some t => if t.status.isSome then s.collect num else s
    | none => s)

/-- Highest level whose threshold a load reaches. -/
def State.levelOf (s : State) (load : Nat) : Nat :=
  if s.val 0x0011 0x09 ≤ load then 3
  else if s.val 0x0011 0x08 ≤ load then 2
  else if s.val 0x0011 0x07 ≤ load then 1
  else 0

/-- SHED_LEVEL_UPDATE: the level rises at once, and falls one step after 10 ms 10 points below its threshold. -/
def execShedLevelUpdate (h : HalfId) (load : Nat) (lowFor10ms : Bool) (s : State) : Result :=
  onPower s (fun s =>
    if s.runs h then
      let sub := 0x03 + halfNum h
      let old := s.val 0x0011 sub
      let up := s.levelOf load
      let floor := s.val 0x0011 (0x06 + old)
      let new := if old < up then up
        else if 0 < old ∧ lowFor10ms = true ∧ load + 10 ≤ floor then old - 1 else old
      let s := (s.put 0x0011 (0x01 + halfNum h) load).put 0x0011 sub new
      let s := s.modHalf h (fun c => { c with calDeferred := decide (2 ≤ new) })
      let s := if new < 3 then s.emptyQueue h else s
      if new = old then s else s.signal .f0 2
    else s)

/-! ### The lead word (R20, R22, R28) -/

/-- Forwards the host writes that waited for the holder's bridge. -/
def State.forwardHeld (s : State) : State :=
  let l := s.key.hostHeld
  l.foldl (fun t w => t.replay w true) { s with key := { s.key with hostHeld := [] } }

/-- HEARTBEAT: the bridge of a half whose rails are on is heard, and its copy of the count is brought up to date. -/
def execHeartbeat (h : HalfId) (s : State) : Result :=
  onPower s (fun s =>
    if s.railsOn h && !s.fenced h then
      let s := (s.beat h).resync h
      if s.holder = halfNum h then s.forwardHeld else s
    else s)

/-- The claim that a window weighs first: the highest, half 0 on a tie. -/
def candidate : List ClaimRec → Option ClaimRec
  | [] => none
  | c :: r =>
    match candidate r with
    | none => some c
    | some d =>
      if d.epoch < c.epoch then some c
      else if c.epoch = d.epoch ∧ c.half = .h0 then some c else some d

/-- Answers a claim; a refused half stands down (R23). -/
def State.answerClaim (s : State) (c : ClaimRec) (status : Nat) : State :=
  let s := s.respond (.manager c.half c.epoch) opCode.write 0x0040 0x03 0 status 0 0 []
  if status = 0 then s
  else (s.bump 0x0040 0x05).modHalf c.half (fun x => { x with unread := [0x01, 0x02] })

/-- Why a claim is refused whatever the others are: its epoch, or the lead's, is at the limit (R23, R522). -/
def State.claimLimit (s : State) (c : ClaimRec) : Bool := c.epoch == epochMax || decide (epochLast ≤ s.epoch)

/-- The claims of a window are decided. A half that is fenced or off when it closes does not win (DEDUCED of
R28: a fenced half is no holder). -/
def State.decideClaims (s : State) (claims : List ClaimRec) : State :=
  let barred := claims.filter s.claimLimit
  let open' := claims.filter (fun c => !s.claimLimit c)
  let s := barred.foldl (fun t c => t.answerClaim c 0x2001) s
  match candidate (open'.filter (fun c => s.commandable c.half)) with
  | none => open'.foldl (fun t k => t.answerClaim k 0x3002) s
  | some c =>
    let wins := decide (s.epoch < c.epoch)
    let t := if wins then
        (let t := (s.setHolder (halfNum c.half)).put 0x0040 0x02 c.epoch
         t.modHalf c.half (fun x => { x with believed := c.epoch }))
      else s
    let t := t.answerClaim c (if wins then 0x0000 else 0x3002)
    ((open'.erase c).foldl (fun t k => t.answerClaim k 0x3002) t).epochCheck

/-- WINDOW_CLOSE (R22): claims first, then the writes that waited, in their order. -/
def execWindowClose (s : State) : Result :=
  onPower s (fun s =>
    match s.key.window with
    | none => s
    | some w =>
      let s := { s with key := { s.key with window := none } }
      (w.held).foldl (fun t x => t.replay x true) (s.decideClaims w.claims))

end Sys2Proof.Machine
end

