-- ==== Sys2Proof/Machine/Commands.lean ====
section
/-! DEFINITION. Writes that have a row of their own: each is the dictionary write of its object, served in the
order of R124, with what its work measures. Where an object takes several commands, the row fixes the field that
names it and the operand gives the rest of the word. -/

namespace Sys2Proof.Machine

open Sys2Proof

/-! ### Forms of a write -/

/-- A whole write of an object by a path. -/
def writeReq (via : Via) (i sub : Nat) (ws : List Word) : Req :=
  { via := via, index := i, sub := sub, tag := 0, ty := 0xF, words := ws }

/-- Serves a whole write of an object. -/
def State.put! (s : State) (x : Aux) (via : Via) (i sub : Nat) (ws : List Word) : Result :=
  onPower s (fun s => s.serveWrite (writeReq via i sub ws) opCode.write (fun t => t.opWrite x (writeReq via i sub ws)))

/-- Serves a whole domain write: its final segment, with all that came before. -/
def State.putDomain! (s : State) (via : Via) (i sub : Nat) (l : List Byte) : Result :=
  onPower s (fun s =>
    s.serve (writeReq via i sub []) opCode.writeSeg (fun t =>
      (t.unstageOther via.path i sub).checked via i sub .write [] (fun t o row =>
        match row with
        | some r => (t.closeDomain via.path).commitDomain via o r i (t.unitOf o r) l
        | none => (t, .plain 0x1003))))

/-- A word with its two low bits, or its four low bits, made the row's. -/
def low2 (w : Word) (n : Nat) : Word := toWord (w.toNat / 4 * 4 + n)
def low4 (w : Word) (n : Nat) : Word := toWord (w.toNat / 16 * 16 + n)

def words64 (v : BitVec 64) : List Word := [v.extractLsb' 0 32, v.extractLsb' 32 32]

/-- Index of a context's object; a number past the last names an undefined index. -/
def ctxIndex (n : Nat) : Nat := if n ≤ 3071 then cidx n else 0x8C00

/-- State command of a context: the half bit reads as it stands (R140). -/
def State.stateWord (s : State) (n st : Nat) : Word :=
  toWord (st + (match s.ctx n with | some c => 256 * halfNum c.half | none => 0))

/-! ### Start and recovery (R503) -/

/-- RECOVERY_IMAGE. -/
def execRecoveryImage (via : Via) (image : List Byte) (s : State) : Result := s.putDomain! via 0xF001 0x02 image
/-- RECOVER_COMMIT. -/
def execRecoverCommit (via : Via) (found : Findings) (s : State) : Result :=
  s.put! { Aux.none with found := found } via 0xF001 0x04 [1]
/-- RECOVER_RETRY. -/
def execRecoverRetry (via : Via) (found : Findings) (s : State) : Result :=
  s.put! { Aux.none with found := found } via 0xF001 0x04 [2]

/-! ### Module (R26, R32, R53, R134, R136) -/

/-- CLEAR_EXTREMES. -/
def execClearExtremes (via : Via) (value : Word) (s : State) : Result := s.put! Aux.none via 0x0100 0x06 [value]
/-- MOVE_LEAD. -/
def execMoveLead (via : Via) (target : Word) (s : State) : Result := s.put! Aux.none via 0x0040 0x04 [target]
/-- REPLACE_CLEAR. -/
def execReplaceClear (via : Via) (value : Word) (s : State) : Result := s.put! Aux.none via 0x0080 0x06 [value]
/-- REPLACE_RAISE. -/
def execReplaceRaise (via : Via) (value : Word) (s : State) : Result := s.put! Aux.none via 0x0080 0x07 [value]
/-- CLEAR_STICKY. -/
def execClearSticky (via : Via) (value : Word) (s : State) : Result := s.put! Aux.none via 0x0010 0x06 [value]
/-- TELEMETRY_PLACEMENT_WRITE. -/
def execTelemetryPlacementWrite (via : Via) (value : Word) (s : State) : Result :=
  s.put! Aux.none via 0x0011 0x0A [value]
/-- CACHE_PARTITION_WRITE (R69). -/
def execCachePartitionWrite (via : Via) (value : Word) (s : State) : Result :=
  s.put! Aux.none via 0xA003 0x03 [value]

/-! ### Clocks (R84, R99, R101 to R103) -/

/-- CLOCK_SOURCE_SELECT. -/
def execClockSourceSelect (via : Via) (sub : Nat) (value : Word) (s : State) : Result :=
  s.put! Aux.none via 0x1000 sub [value]
/-- CLOCK_ENABLE_WRITE. -/
def execClockEnableWrite (via : Via) (sub : Nat) (value : Word) (s : State) : Result :=
  s.put! Aux.none via 0x1002 sub [value]
/-- SPREAD_WRITE. -/
def execSpreadWrite (via : Via) (sub : Nat) (value : Word) (s : State) : Result :=
  s.put! Aux.none via 0x1003 sub [value]
/-- CLKOBS_SELECT. -/
def execClkobsSelect (via : Via) (value : Word) (s : State) : Result := s.put! Aux.none via 0x1004 0x01 [value]

/-! ### Contexts (R140, R141, R144, R149, R161, R298) -/

/-- OPEN: the operand gives the half and whether the context is confidential. -/
def execCtxOpen (via : Via) (n : Nat) (value : Word) (s : State) : Result :=
  s.put! Aux.none via (ctxIndex n) 0x01 [low4 value stOpen]
/-- LOAD. -/
def execCtxLoad (via : Via) (n : Nat) (decls : List TensorDecl) (s : State) : Result :=
  s.put! { Aux.none with decls := decls } via (ctxIndex n) 0x01 [s.stateWord n stLoaded]
/-- RUN. -/
def execCtxRun (via : Via) (n : Nat) (s : State) : Result :=
  s.put! Aux.none via (ctxIndex n) 0x01 [s.stateWord n stRun]
/-- HOLD. -/
def execCtxHold (via : Via) (n : Nat) (s : State) : Result :=
  s.put! Aux.none via (ctxIndex n) 0x01 [s.stateWord n stHold]
/-- DONE. -/
def execCtxDone (via : Via) (n : Nat) (s : State) : Result :=
  s.put! Aux.none via (ctxIndex n) 0x01 [s.stateWord n stDone]
/-- FREE. -/
def execCtxFree (via : Via) (n : Nat) (s : State) : Result :=
  s.put! Aux.none via (ctxIndex n) 0x01 [s.stateWord n stFree]
/-- CONTEXT_RESET. -/
def execContextReset (via : Via) (n : Nat) (value : Word) (s : State) : Result :=
  s.put! Aux.none via (ctxIndex n) 0x2F [value]
/-- CLAIM_WRITE: the sixteen claims with one of them replaced. -/
def execClaimWrite (via : Via) (n element : Nat) (value : Word) (s : State) : Result :=
  s.put! Aux.none via (ctxIndex n) (if element < 16 then 0x30 else 0xFE)
    ((s.regsAt 0 (cidx n) 0x30 16).set element value)
/-- EVENT_ACK. -/
def execEventAck (via : Via) (n : Nat) (value : Word) (s : State) : Result :=
  s.put! Aux.none via (ctxIndex n) 0x20 [value]
/-- NUMERICS_RELEASE, of the context that 0x3032.01 selects. -/
def execNumericsRelease (via : Via) (value : Word) (s : State) : Result := s.put! Aux.none via 0x3032 0x02 [value]

/-! ### Calibration (R224) -/

/-- A calibration command word with its step field made `n`. -/
def calWordOf (w : Word) (n : Nat) : Word := toWord (w.toNat % 2 ^ 28 + n * 2 ^ 28)

/-- CAL_ZERO. -/
def execCalZero (via : Via) (h : HalfId) (value : Word) (meas : List (Nat × ZeroRaw)) (s : State) : Result :=
  s.put! { Aux.none with meas := .zero meas } via (calIndex h) 0x01 [calWordOf value 1]
/-- CAL_FULL. -/
def execCalFull (via : Via) (h : HalfId) (value : Word) (meas : List (Nat × FullRaw)) (s : State) : Result :=
  s.put! { Aux.none with meas := .full meas } via (calIndex h) 0x01 [calWordOf value 2]
/-- CAL_ABORT. -/
def execCalAbort (via : Via) (h : HalfId) (value : Word) (s : State) : Result :=
  s.put! Aux.none via (calIndex h) 0x01 [calWordOf value 3]
/-- CAL_REFRESH. -/
def execCalRefresh (via : Via) (h : HalfId) (value : Word) (s : State) : Result :=
  s.put! Aux.none via (calIndex h) 0x01 [calWordOf value 4]

/-! ### Spokes (R368, R369) -/

/-- SPOKE_DOWN, of the spoke that 0x6003.01 selects. -/
def execSpokeDown (via : Via) (value : Word) (s : State) : Result := s.put! Aux.none via 0x6003 0x0C [low2 value 1]
/-- SPOKE_TRAIN_START. -/
def execSpokeTrainStart (via : Via) (value : Word) (s : State) : Result :=
  s.put! Aux.none via 0x6003 0x0C [low2 value 2]
/-- SPOKE_FORCE_RETRAIN. -/
def execSpokeForceRetrain (via : Via) (value : Word) (s : State) : Result :=
  s.put! Aux.none via 0x6003 0x0C [low2 value 3]
/-- POSITION_WRITE. -/
def execPositionWrite (via : Via) (h : HalfId) (value : Word) (s : State) : Result :=
  s.put! Aux.none via (hubIndex h) 0x01 [value]

/-! ### Drafting and logs (R402, R403, R407, R427) -/

/-- DRAFT_RECEIPT. -/
def execDraftReceipt (via : Via) (h : HalfId) (value : BitVec 64) (s : State) : Result :=
  s.put! Aux.none via (pick h 0x7011 0x7012) 0x01 (words64 value)
/-- SLOT_ENABLE, of the slot that 0x7030.01 or 0x7031.01 selects. -/
def execSlotEnable (via : Via) (h : HalfId) (value : BitVec 64) (s : State) : Result :=
  s.put! Aux.none via (slotIndex h) 0x02 (words64 value)
/-- RESTORE_START, of the context that 0x7013.01 selects. -/
def execRestoreStart (via : Via) (value : Word) (s : State) : Result := s.put! Aux.none via 0x7013 0x06 [value]
/-- SEND_BACK. -/
def execSendBack (via : Via) (h : HalfId) (value : BitVec 64) (s : State) : Result :=
  s.put! Aux.none via (slotIndex h) 0x0B (words64 value)
/-- LOG_CLEAR. -/
def execLogClear (via : Via) (value : Word) (s : State) : Result := s.put! Aux.none via 0x7040 0x04 [value]

/-! ### Power (R428 to R436, R442) -/

/-- ENTER_ACTIVE. -/
def execEnterActive (via : Via) (value : Word) (found : Findings) (s : State) : Result :=
  s.put! { Aux.none with found := found } via 0x1010 0x02 [low2 value 0]
/-- ENTER_QUIET. -/
def execEnterQuiet (via : Via) (value : Word) (s : State) : Result := s.put! Aux.none via 0x1010 0x02 [low2 value 1]
/-- ENTER_RETAIN. -/
def execEnterRetain (via : Via) (value : Word) (s : State) : Result := s.put! Aux.none via 0x1010 0x02 [low2 value 2]
/-- ENTER_KEYSTONE_ONLY. -/
def execEnterKeystoneOnly (via : Via) (value : Word) (s : State) : Result :=
  s.put! Aux.none via 0x1010 0x02 [low2 value 3]
/-- BOARD_LIMIT_WRITE. -/
def execBoardLimitWrite (via : Via) (value : Word) (s : State) : Result := s.put! Aux.none via 0x1011 0x01 [value]
/-- BUDGET_SPLIT_WRITE. -/
def execBudgetSplitWrite (via : Via) (value : Word) (s : State) : Result := s.put! Aux.none via 0x1011 0x02 [value]
/-- CORE_SETPOINT_WRITE. -/
def execCoreSetpointWrite (via : Via) (h : HalfId) (value : Word) (s : State) : Result :=
  s.put! Aux.none via (pick h 0x1012 0x1013) 0x01 [value]

/-! ### Security (R459, R467 to R481, R486 to R488) -/

/-- COMMIT_KEYSTONE. -/
def execCommitKeystone (via : Via) (value : Word) (s : State) : Result := s.put! Aux.none via 0x9010 0x04 [value]
/-- COMMIT_HALF_COMPONENT. -/
def execCommitHalfComponent (via : Via) (value : Word) (s : State) : Result := s.put! Aux.none via 0x9010 0x05 [value]
/-- OWNER_ROOT_INSTALL. -/
def execOwnerRootInstall (via : Via) (point : List Byte) (s : State) : Result := s.putDomain! via 0x9020 0x02 point
/-- RELEASE_OWNERSHIP. -/
def execReleaseOwnership (via : Via) (value : Word) (residual : List (Nat × Nat)) (s : State) : Result :=
  s.put! { Aux.none with residual := residual } via 0x9020 0x17 [value]
/-- SEALING_KEY_INSTALL, in the slot that 0x9020.0C selects. -/
def execSealingKeyInstall (via : Via) (key : List Word) (s : State) : Result := s.put! Aux.none via 0x9020 0x0D key
/-- CLEAR_SEALING_SLOT. -/
def execClearSealingSlot (via : Via) (value : Word) (s : State) : Result := s.put! Aux.none via 0x9020 0x16 [value]
/-- REBIND, of the context that 0x9080.01 selects. -/
def execRebind (via : Via) (value : Word) (s : State) : Result := s.put! Aux.none via 0x9080 0x02 [value]
/-- RELEASE_IDE_HOLD. -/
def execReleaseIdeHold (via : Via) (value : Word) (s : State) : Result := s.put! Aux.none via 0x9080 0x0B [value]
/-- PELOTON_KEY_INSTALL. -/
def execPelotonKeyInstall (via : Via) (h : HalfId) (words : List Word) (s : State) : Result :=
  s.put! Aux.none via (pkIndex h) 0x02 words
/-- PELOTON_KEY_ADVANCE. -/
def execPelotonKeyAdvance (via : Via) (h : HalfId) (value : Word) (s : State) : Result :=
  s.put! Aux.none via (pkIndex h) 0x0B [value]
/-- SANITIZE. -/
def execSanitize (via : Via) (value : Word) (residual : List (Nat × Nat)) (s : State) : Result :=
  s.put! { Aux.none with residual := residual } via 0x9060 0x01 [value]
/-- SIGN_STATEMENT, over the context that 0x9070.01 names. -/
def execSignStatement (via : Via) (value : Word) (s : State) : Result := s.put! Aux.none via 0x9070 0x03 [value]
/-- SERVICE_COMMAND. -/
def execServiceCommand (via : Via) (blob : List Byte) (s : State) : Result := s.putDomain! via 0x9070 0x10 blob

/-! ### Resets (R505, R506) -/

/-- HALF_RESET. -/
def execHalfReset (via : Via) (value : Word) (found : List (BitVec 64)) (s : State) : Result :=
  s.put! { Aux.none with found := { half0 := found, half1 := found } } via 0xF010 0x01 [value]
/-- TILE_RESET. -/
def execTileReset (via : Via) (value : Word) (s : State) : Result := s.put! Aux.none via 0xF010 0x02 [value]

end Sys2Proof.Machine
end

