-- ==== Sys2Proof/Machine/LeadIn.lean ====
section
/-! DEFINITION. Bridge events of the lead word and the fence (R22, R28, R29). -/

namespace Sys2Proof.Machine

open Sys2Proof

/-- BRIDGE_LOSS (R28): a running half is fenced; a half in S6 to S10 fails its start with reason 9,
its phase a free value within them; for any other half a silent bridge changes nothing. -/
def execBridgeLoss (h : HalfId) (s : State) : Result :=
  onPower s (fun s =>
    if (s.half h).phase = .starting then
      (s.failStart h (6 + s.freeNext.toNat % 5) 9 0x3001).freeSkip 1
    else if s.runs h = true ∧ s.fence h = 0 then s.declareFence h
    else s)

/-- FENCE_DRAW_CONFIRM (R28 phase 6, R29). -/
def execFenceDrawConfirm (h : HalfId) (s : State) : Result :=
  onPower s (fun s =>
    if s.fence h = 1 then (s.modHalf h (fun c => { c with confirmed := true })).regrant else s)

/-- FENCE_POWER_REMOVE (R28 phase 7, R29): the keystone removes power from a fenced half whose draw
was not confirmed. -/
def execFencePowerRemove (h : HalfId) (s : State) : Result :=
  onPower s (fun s =>
    if s.fence h = 1 ∧ (s.half h).confirmed = false then
      let s := s.railsOff h .off
      let s := s.modHalf h (fun c => { c with confirmed := true })
      (s.setFence h 2).regrant
    else s)

/-- CLAIM (R21, R22): a half manager's write of 0x0040.03 over its own bridge. A fenced half issues
no claim (R28 phase 1), one that stands down rereads the lead word first (R23), and one without power has no
manager. -/
def execClaim (h : HalfId) (epoch : Nat) (s : State) : Result :=
  onPower s (fun s =>
    if s.runs h = true ∧ s.fenced h = false ∧ (s.half h).unread = [] then s.claim h epoch else s)

end Sys2Proof.Machine
end

