-- ==== Sys2Proof/Machine/Route.lean ====
section
/-! DEFINITION. The route of a vector between tiles: when an input vector is at hand, what it holds, and its
arrival (R214, R281, R282). -/

namespace Sys2Proof.Machine

open Sys2Proof

/-- The block of a producing layer's output has left its finisher, or the engine has formed it (R282). -/
def Ctx.blockSent (c : Ctx) (id : Nat) (digital : Bool) (t : Tensor) (vec block : Nat) : Bool :=
  if digital then (lookup t.codes (vec * t.cols + 512 * block)).isSome
  else c.drained.contains (id, vec, block)

/-- Elements `lo` to `hi` − 1 of vector `vec` of a tensor may reach a consumer: every producing block that holds some of
them has sent it, or no layer of the program produces the tensor (R282). -/
def Ctx.atHand (c : Ctx) (id vec lo hi : Nat) : Bool :=
  match c.layers.find? (fun L => L.output == id), c.tensor id false with
  | some P, some t =>
    decide (vec < t.rows) && ((List.range P.blocks).filter (fun j => decide (512 * j < hi ∧ lo < 512 * j + 512))).all
      (fun j => c.blockSent id P.digital t vec j)
  | some _, none => false
  | none, some t => t.ready && decide (vec < t.rows)
  | none, none => true

/-- One group of 32 elements as a tile takes it: codes and exponent. A K4 or K8 tensor gives its own; any other format is
converted under the array-input rule of K4 with coarse scale 1 (assumptions 22, 23, DESIGN CHOICE). -/
def Tensor.arrayGroup (t : Tensor) (vec lo hi : Nat) : List Nat × Nat :=
  let cols := (List.range (hi - lo)).map (lo + ·)
  if t.format = 0x01 ∨ t.format = 0x02 then (cols.map (t.code vec), t.fine vec lo)
  else
    let b := convBlock .k4 f32One true (cols.map (t.value vec)) (cols.map (fun _ => none))
    (b.codes, b.scale)

/-- The input vector of the tile row `row` of a layer (R281): K4, or wide where the tensor is K8 (R185, R295). -/
def Tensor.inVec (t : Tensor) (n layer vec lo hi : Nat) : InVec :=
  let parts := (List.range ((hi - lo + 31) / 32)).map (fun g =>
    t.arrayGroup vec (lo + 32 * g) (min hi (lo + 32 * g + 32)))
  { ctx := n, layer := layer, vec := vec, codes := parts.flatMap (·.1), groups := parts.map (·.2),
    coarse := if t.format = 0x01 ∨ t.format = 0x02 then t.coarse else f32One, wide := t.format == 0x02 }

/-- The vector of a context that a tile's input ring takes next: vectors come in ascending order (R282). -/
def State.nextVec (s : State) (c : Ctx) (p : Nat) : Option Nat :=
  match ((s.tile p).inRing.filter (fun v => v.ctx == c.n)).getLast? with
  | some v => some (v.vec + 1)
  | none => ((c.slots ++ c.todo).find? (fun x =>
      x.kind == .forward (s.logicalOr p) && !x.dead && decide (x.ran < x.count))).map (fun x => x.vec0 + x.ran)

/-- A strand of the context takes the vector on the tile. -/
def State.strandTakes (s : State) (c : Ctx) (p layer vec : Nat) : Bool :=
  (c.slots ++ c.todo).any (fun x => x.kind == .forward (s.logicalOr p) && !x.dead && x.takes layer vec)

/-- No strand of another context runs on the tile. -/
def State.ringFree (s : State) (n p : Nat) : Bool :=
  s.ctxs.all (fun c => c.n == n || c.slots.all (fun x => !x.issued || x.kind != .forward (s.logicalOr p)))

/-- The vector that INPUT_VECTOR_ARRIVE makes whole; none where it is not the tile's next or its elements are not there
yet. -/
def State.arriving (s : State) (tile n vec : Nat) : Option InVec :=
  match s.ctx n with
  | none => none
  | some c =>
    match s.seat c (s.logicalOr tile) with
    | none => none
    | some seat =>
      match c.layers[seat.layer]? with
      | none => none
      | some L =>
        let lo := 1024 * seat.row
        let hi := lo + L.inRows seat.row
        if c.phase = 1 ∧ s.nextVec c tile = some vec ∧ s.strandTakes c tile seat.layer vec = true ∧
            s.ringFree n tile = true ∧ c.atHand L.input vec lo hi = true then
          some ((s.inputTensor c L.input (s.layerVecs c seat.layer) L.nIn).inVec n seat.layer vec lo hi)
        else none

/-- INPUT_VECTOR_ARRIVE: a vector is whole in the input ring where it has room for 120 entries; ready to issue, it ends a
calibration product in progress (R202, R214). -/
def execInputVectorArrive (tile ctx vec : Nat) (s : State) : Result :=
  onPower s (fun s =>
    if !s.runs (halfOf (tileHalf tile)) then s
    else
      match s.arriving tile ctx vec with
      | none => s
      | some v =>
        if 120 < (s.tile tile).ringHeld + vecEntries v then s
        else ((s.modTile tile (fun t => { t with inRing := t.inRing ++ [v] })).ringLevels tile).yieldCal tile)

end Sys2Proof.Machine
end

