-- ==== Sys2Proof/Machine/Dispatch.lean ====
section
/-! DEFINITION. One arm per command. -/

namespace Sys2Proof.Machine

open Sys2Proof

/-- The effect of a command on everything but the queue. -/
def exec (i : Instr) (s : State) : Host.Outcome State Fault Refusal :=
  match i with
  | .coldPowerOn mv found => Sys2Proof.Machine.execColdPowerOn mv found s
  | .startComplete h => Sys2Proof.Machine.execStartComplete h s
  | .startFail h phase reason status => Sys2Proof.Machine.execStartFail h phase reason status s
  | .startTimeout h phase => Sys2Proof.Machine.execStartTimeout h phase s
  | .crystalStartTimeout => Sys2Proof.Machine.execCrystalStartTimeout s
  | .leadStartTimeout => Sys2Proof.Machine.execLeadStartTimeout s
  | .recoveryImage via image => Sys2Proof.Machine.execRecoveryImage via image s
  | .recoverCommit via found => Sys2Proof.Machine.execRecoverCommit via found s
  | .recoverRetry via found => Sys2Proof.Machine.execRecoverRetry via found s
  | .supplyBrownout mv => Sys2Proof.Machine.execSupplyBrownout mv s
  | .supplyRecover mv found => Sys2Proof.Machine.execSupplyRecover mv found s
  | .supplyUndervoltageAlert mv => Sys2Proof.Machine.execSupplyUndervoltageAlert mv s
  | .supplyUndervoltageClear mv => Sys2Proof.Machine.execSupplyUndervoltageClear mv s
  | .supplyOvervoltageAlert mv => Sys2Proof.Machine.execSupplyOvervoltageAlert mv s
  | .supplyOvervoltageClear mv => Sys2Proof.Machine.execSupplyOvervoltageClear mv s
  | .inputSwitchOpen => Sys2Proof.Machine.execInputSwitchOpen s
  | .inputSwitchReclose mv found => Sys2Proof.Machine.execInputSwitchReclose mv found s
  | .powerLoss => Sys2Proof.Machine.execPowerLoss s
  | .reversePolarity => Sys2Proof.Machine.execReversePolarity s
  | .contactGroupOpen group => Sys2Proof.Machine.execContactGroupOpen group s
  | .contactGroupClear group => Sys2Proof.Machine.execContactGroupClear group s
  | .pwrbrkAssert => Sys2Proof.Machine.execPwrbrkAssert s
  | .pwrbrkRelease => Sys2Proof.Machine.execPwrbrkRelease s
  | .thermNAssert celsius => Sys2Proof.Machine.execThermNAssert celsius s
  | .thermNRelease celsius => Sys2Proof.Machine.execThermNRelease celsius s
  | .sidebandShortDetect bit => Sys2Proof.Machine.execSidebandShortDetect bit s
  | .sidebandFaultClear bit => Sys2Proof.Machine.execSidebandFaultClear bit s
  | .pullupCheck sclMissing sdaMissing => Sys2Proof.Machine.execPullupCheck sclMissing sdaMissing s
  | .clearExtremes via value => Sys2Proof.Machine.execClearExtremes via value s
  | .heartbeat h => Sys2Proof.Machine.execHeartbeat h s
  | .bridgeLoss h => Sys2Proof.Machine.execBridgeLoss h s
  | .fenceDrawConfirm h => Sys2Proof.Machine.execFenceDrawConfirm h s
  | .fencePowerRemove h => Sys2Proof.Machine.execFencePowerRemove h s
  | .claim h epoch => Sys2Proof.Machine.execClaim h epoch s
  | .windowClose => Sys2Proof.Machine.execWindowClose s
  | .moveLead via target => Sys2Proof.Machine.execMoveLead via target s
  | .replaceClear via value => Sys2Proof.Machine.execReplaceClear via value s
  | .replaceRaise via value => Sys2Proof.Machine.execReplaceRaise via value s
  | .writeObject req => Sys2Proof.Machine.execWriteObject req s
  | .read req => Sys2Proof.Machine.execRead req s
  | .write req => Sys2Proof.Machine.execWrite req s
  | .writeIf req => Sys2Proof.Machine.execWriteIf req s
  | .describe req => Sys2Proof.Machine.execDescribe req s
  | .readSeg req => Sys2Proof.Machine.execReadSeg req s
  | .writeSeg req offset first final data => Sys2Proof.Machine.execWriteSeg req offset first final data s
  | .ticket req => Sys2Proof.Machine.execTicket req s
  | .nextObj req => Sys2Proof.Machine.execNextObj req s
  | .bar2Read offset width => Sys2Proof.Machine.execBar2Read offset width s
  | .bar2Write offset width value => Sys2Proof.Machine.execBar2Write offset width value s
  | .bar2ReadTimeout offset width => Sys2Proof.Machine.execBar2ReadTimeout offset width s
  | .ticketResultRead => Sys2Proof.Machine.execTicketResultRead s
  | .clearSticky via value => Sys2Proof.Machine.execClearSticky via value s
  | .domainWriteTimeout index sub inst => Sys2Proof.Machine.execDomainWriteTimeout index sub inst s
  | .deferredWriteComplete num status => Sys2Proof.Machine.execDeferredWriteComplete num status s
  | .ticketExpire num => Sys2Proof.Machine.execTicketExpire num s
  | .shedLevelUpdate h load lowFor10ms => Sys2Proof.Machine.execShedLevelUpdate h load lowFor10ms s
  | .telemetryPlacementWrite via value => Sys2Proof.Machine.execTelemetryPlacementWrite via value s
  | .setEndpointId eid => Sys2Proof.Machine.execSetEndpointId eid s
  | .getEndpointId => Sys2Proof.Machine.execGetEndpointId s
  | .getMctpVersionSupport => Sys2Proof.Machine.execGetMctpVersionSupport s
  | .getMessageTypeSupport => Sys2Proof.Machine.execGetMessageTypeSupport s
  | .getVendorDefinedMessageSupport => Sys2Proof.Machine.execGetVendorDefinedMessageSupport s
  | .entdaa addr => Sys2Proof.Machine.execEntdaa addr s
  | .vectorSignal fn vector => Sys2Proof.Machine.execVectorSignal fn vector s
  | .cxlMemRead h offset session ide => Sys2Proof.Machine.execCxlMemRead h offset session ide s
  | .cxlMemWrite h offset data session ide => Sys2Proof.Machine.execCxlMemWrite h offset data session ide s
  | .birsp h line data => Sys2Proof.Machine.execBirsp h line data s
  | .bisnpTimeout h line => Sys2Proof.Machine.execBisnpTimeout h line s
  | .bisnpFault h line => Sys2Proof.Machine.execBisnpFault h line s
  | .hostSnoop addr kind => Sys2Proof.Machine.execHostSnoop addr kind s
  | .cachePartitionWrite via value => Sys2Proof.Machine.execCachePartitionWrite via value s
  | .hdmDecoderCommit h base ways => Sys2Proof.Machine.execHdmDecoderCommit h base ways s
  | .ideKeyProgram via stream => Sys2Proof.Machine.execIdeKeyProgram via stream s
  | .ideKeyRefresh => Sys2Proof.Machine.execIdeKeyRefresh s
  | .ideIntegrityFailure stream => Sys2Proof.Machine.execIdeIntegrityFailure stream s
  | .tspError h => Sys2Proof.Machine.execTspError h s
  | .hostReset kind link => Sys2Proof.Machine.execHostReset kind link s
  | .cxlReset memClear => Sys2Proof.Machine.execCxlReset memClear s
  | .functionLevelReset fn fromD3 => Sys2Proof.Machine.execFunctionLevelReset fn fromD3 s
  | .shadowRead offset width => Sys2Proof.Machine.execShadowRead offset width s
  | .shadowWrite offset width value => Sys2Proof.Machine.execShadowWrite offset width value s
  | .shadowUpdate offset => Sys2Proof.Machine.execShadowUpdate offset s
  | .oscReady => Sys2Proof.Machine.execOscReady s
  | .crystalReady => Sys2Proof.Machine.execCrystalReady s
  | .crystalLoss => Sys2Proof.Machine.execCrystalLoss s
  | .holdoverExpire => Sys2Proof.Machine.execHoldoverExpire s
  | .clockSourceSelect via sub value => Sys2Proof.Machine.execClockSourceSelect via sub value s
  | .paceMonitorRefresh h course factor mv celsius => Sys2Proof.Machine.execPaceMonitorRefresh h course factor mv celsius s
  | .paceShortfall h course => Sys2Proof.Machine.execPaceShortfall h course s
  | .clockEnableWrite via sub value => Sys2Proof.Machine.execClockEnableWrite via sub value s
  | .blockReady sub bit => Sys2Proof.Machine.execBlockReady sub bit s
  | .spreadWrite via sub value => Sys2Proof.Machine.execSpreadWrite via sub value s
  | .clkobsSelect via value => Sys2Proof.Machine.execClkobsSelect via value s
  | .ctxOpen via n value => Sys2Proof.Machine.execCtxOpen via n value s
  | .ctxLoad via n decls => Sys2Proof.Machine.execCtxLoad via n decls s
  | .placementComplete n seen => Sys2Proof.Machine.execPlacementComplete n seen s
  | .ctxRun via n => Sys2Proof.Machine.execCtxRun via n s
  | .ctxHold via n => Sys2Proof.Machine.execCtxHold via n s
  | .ctxDone via n => Sys2Proof.Machine.execCtxDone via n s
  | .ctxFree via n => Sys2Proof.Machine.execCtxFree via n s
  | .releaseComplete n residual => Sys2Proof.Machine.execReleaseComplete n residual s
  | .contextReset via n value => Sys2Proof.Machine.execContextReset via n value s
  | .claimWrite via n element value => Sys2Proof.Machine.execClaimWrite via n element value s
  | .claimComplete n => Sys2Proof.Machine.execClaimComplete n s
  | .eventAck via n value => Sys2Proof.Machine.execEventAck via n value s
  | .strandIssue unit => Sys2Proof.Machine.execStrandIssue unit s
  | .strandEnd ctx strand residue => Sys2Proof.Machine.execStrandEnd ctx strand residue s
  | .numericsRelease via value => Sys2Proof.Machine.execNumericsRelease via value s
  | .producerUpdate n value => Sys2Proof.Machine.execProducerUpdate n value s
  | .streamWaitTimeout n => Sys2Proof.Machine.execStreamWaitTimeout n s
  | .inputVectorArrive tile ctx vec => Sys2Proof.Machine.execInputVectorArrive tile ctx vec s
  | .forwardProduct tile => Sys2Proof.Machine.execForwardProduct tile s
  | .checksumRepeat tile => Sys2Proof.Machine.execChecksumRepeat tile s
  | .partialArrive tile ctx vec row => Sys2Proof.Machine.execPartialArrive tile ctx vec row s
  | .outputDrain tile => Sys2Proof.Machine.execOutputDrain tile s
  | .coefficientSwitch tile => Sys2Proof.Machine.execCoefficientSwitch tile s
  | .calibrationProduct tile => Sys2Proof.Machine.execCalibrationProduct tile s
  | .rowWriteVerify tile row targets meas => Sys2Proof.Machine.execRowWriteVerify tile row targets meas s
  | .calZero via h value meas => Sys2Proof.Machine.execCalZero via h value meas s
  | .calFull via h value meas => Sys2Proof.Machine.execCalFull via h value meas s
  | .calAbort via h value => Sys2Proof.Machine.execCalAbort via h value s
  | .calRefresh via h value => Sys2Proof.Machine.execCalRefresh via h value s
  | .calRunComplete h seen => Sys2Proof.Machine.execCalRunComplete h seen s
  | .columnSwap tile group meas => Sys2Proof.Machine.execColumnSwap tile group meas s
  | .zeroResultExpire h => Sys2Proof.Machine.execZeroResultExpire h s
  | .probe tile gainPpm offset => Sys2Proof.Machine.execProbe tile gainPpm offset s
  | .driftMonitor tile bit urgent => Sys2Proof.Machine.execDriftMonitor tile bit urgent s
  | .calEscalate tile => Sys2Proof.Machine.execCalEscalate tile s
  | .refreshAge tile seen => Sys2Proof.Machine.execRefreshAge tile seen s
  | .bucketSend n bucket => Sys2Proof.Machine.execBucketSend n bucket s
  | .tensorSend n link => Sys2Proof.Machine.execTensorSend n link s
  | .sealSend n => Sys2Proof.Machine.execSealSend n s
  | .frameRoute frame => Sys2Proof.Machine.execFrameRoute frame s
  | .gapTimeout h src vc => Sys2Proof.Machine.execGapTimeout h src vc s
  | .linkAck h spoke count => Sys2Proof.Machine.execLinkAck h spoke count s
  | .linkNak h spoke failed => Sys2Proof.Machine.execLinkNak h spoke failed s
  | .linkCredit h spoke vc count => Sys2Proof.Machine.execLinkCredit h spoke vc count s
  | .contributionReceive n src group step item attempt data => Sys2Proof.Machine.execContributionReceive n src group step item attempt data s
  | .tensorReceive n src group step item attempt data => Sys2Proof.Machine.execTensorReceive n src group step item attempt data s
  | .retractReceive n src group step first last attempt => Sys2Proof.Machine.execRetractReceive n src group step first last attempt s
  | .sealReceive n src group step cls count crc => Sys2Proof.Machine.execSealReceive n src group step cls count crc s
  | .sealRefusalReceive n src step cls => Sys2Proof.Machine.execSealRefusalReceive n src step cls s
  | .gatherReceive n src group step bucket data => Sys2Proof.Machine.execGatherReceive n src group step bucket data s
  | .normPartialReceive n src step value => Sys2Proof.Machine.execNormPartialReceive n src step value s
  | .normPartialSend n => Sys2Proof.Machine.execNormPartialSend n s
  | .sealTimeout n => Sys2Proof.Machine.execSealTimeout n s
  | .spokeTrain h spoke t => Sys2Proof.Machine.execSpokeTrain h spoke t s
  | .spokeTrainRetry h spoke t => Sys2Proof.Machine.execSpokeTrainRetry h spoke t s
  | .spokeRetrain h spoke t => Sys2Proof.Machine.execSpokeRetrain h spoke t s
  | .spokeDown via value => Sys2Proof.Machine.execSpokeDown via value s
  | .spokeTrainStart via value => Sys2Proof.Machine.execSpokeTrainStart via value s
  | .spokeForceRetrain via value => Sys2Proof.Machine.execSpokeForceRetrain via value s
  | .positionWrite via h value => Sys2Proof.Machine.execPositionWrite via h value s
  | .updateStart n => Sys2Proof.Machine.execUpdateStart n s
  | .updateComplete n => Sys2Proof.Machine.execUpdateComplete n s
  | .transferPassStart tile => Sys2Proof.Machine.execTransferPassStart tile s
  | .transferRowComplete tile row meas => Sys2Proof.Machine.execTransferRowComplete tile row meas s
  | .governorEvaluate tile hottest => Sys2Proof.Machine.execGovernorEvaluate tile hottest s
  | .riskEvaluate h lowForTime => Sys2Proof.Machine.execRiskEvaluate h lowForTime s
  | .draftFrameReceive frame => Sys2Proof.Machine.execDraftFrameReceive frame s
  | .draftReceipt via h value => Sys2Proof.Machine.execDraftReceipt via h value s
  | .slotEnable via h value => Sys2Proof.Machine.execSlotEnable via h value s
  | .restoreStart via value => Sys2Proof.Machine.execRestoreStart via value s
  | .sendBack via h value => Sys2Proof.Machine.execSendBack via h value s
  | .restoreApply n seen => Sys2Proof.Machine.execRestoreApply n seen s
  | .restoreTimeout n => Sys2Proof.Machine.execRestoreTimeout n s
  | .unitSuspect unit cause ctx step => Sys2Proof.Machine.execUnitSuspect unit cause ctx step s
  | .suspectReplace unit => Sys2Proof.Machine.execSuspectReplace unit s
  | .spareCourseHandover h course => Sys2Proof.Machine.execSpareCourseHandover h course s
  | .logClear via value => Sys2Proof.Machine.execLogClear via value s
  | .enterActive via value found => Sys2Proof.Machine.execEnterActive via value found s
  | .enterQuiet via value => Sys2Proof.Machine.execEnterQuiet via value s
  | .enterRetain via value => Sys2Proof.Machine.execEnterRetain via value s
  | .enterKeystoneOnly via value => Sys2Proof.Machine.execEnterKeystoneOnly via value s
  | .quiescence => Sys2Proof.Machine.execQuiescence s
  | .powerStateReached => Sys2Proof.Machine.execPowerStateReached s
  | .wake => Sys2Proof.Machine.execWake s
  | .boardLimitWrite via value => Sys2Proof.Machine.execBoardLimitWrite via value s
  | .budgetSplitWrite via value => Sys2Proof.Machine.execBudgetSplitWrite via value s
  | .powerGovern h drawMw below10ms => Sys2Proof.Machine.execPowerGovern h drawMw below10ms s
  | .powerFastClamp h => Sys2Proof.Machine.execPowerFastClamp h s
  | .coreSetpointWrite via h value => Sys2Proof.Machine.execCoreSetpointWrite via h value s
  | .droopDetect h course => Sys2Proof.Machine.execDroopDetect h course s
  | .droopRecover h course => Sys2Proof.Machine.execDroopRecover h course s
  | .thermalThrottle h celsius => Sys2Proof.Machine.execThermalThrottle h celsius s
  | .thermalRecover h celsius => Sys2Proof.Machine.execThermalRecover h celsius s
  | .thermalCrawl h celsius => Sys2Proof.Machine.execThermalCrawl h celsius s
  | .thermalCrawlEnd h celsius => Sys2Proof.Machine.execThermalCrawlEnd h celsius s
  | .thermalTrip h celsius => Sys2Proof.Machine.execThermalTrip h celsius s
  | .energyReconcile h measured overheadEstimate moduleEnergy traffic => Sys2Proof.Machine.execEnergyReconcile h measured overheadEstimate moduleEnergy traffic s
  | .entropyFailure => Sys2Proof.Machine.execEntropyFailure s
  | .commitKeystone via value => Sys2Proof.Machine.execCommitKeystone via value s
  | .commitHalfComponent via value => Sys2Proof.Machine.execCommitHalfComponent via value s
  | .treeBuild => Sys2Proof.Machine.execTreeBuild s
  | .challenge via nonce => Sys2Proof.Machine.execChallenge via nonce s
  | .getMeasurements via block signed => Sys2Proof.Machine.execGetMeasurements via block signed s
  | .getCertificate via slot => Sys2Proof.Machine.execGetCertificate via slot s
  | .keyExchange via id requester mutAuth rooted => Sys2Proof.Machine.execKeyExchange via id requester mutAuth rooted s
  | .keyUpdate via => Sys2Proof.Machine.execKeyUpdate via s
  | .spdmHeartbeat via => Sys2Proof.Machine.execSpdmHeartbeat via s
  | .sessionHeartbeatTimeout id => Sys2Proof.Machine.execSessionHeartbeatTimeout id s
  | .sessionEnd id => Sys2Proof.Machine.execSessionEnd id s
  | .ownerRootInstall via point => Sys2Proof.Machine.execOwnerRootInstall via point s
  | .releaseOwnership via value residual => Sys2Proof.Machine.execReleaseOwnership via value residual s
  | .sealingKeyInstall via key => Sys2Proof.Machine.execSealingKeyInstall via key s
  | .clearSealingSlot via value => Sys2Proof.Machine.execClearSealingSlot via value s
  | .rebind via value => Sys2Proof.Machine.execRebind via value s
  | .releaseIdeHold via value => Sys2Proof.Machine.execReleaseIdeHold via value s
  | .pelotonKeyInstall via h words => Sys2Proof.Machine.execPelotonKeyInstall via h words s
  | .pelotonKeyAdvance via h value => Sys2Proof.Machine.execPelotonKeyAdvance via h value s
  | .previousKeyDestroy h => Sys2Proof.Machine.execPreviousKeyDestroy h s
  | .sanitize via value residual => Sys2Proof.Machine.execSanitize via value residual s
  | .signStatement via value => Sys2Proof.Machine.execSignStatement via value s
  | .serviceCommand via blob => Sys2Proof.Machine.execServiceCommand via blob s
  | .halfReset via value found => Sys2Proof.Machine.execHalfReset via value found s
  | .tileReset via value => Sys2Proof.Machine.execTileReset via value s
  | .plumbDue tile => Sys2Proof.Machine.execPlumbDue tile s
  | .plumbCheck tile v1Fail v2Fail v3Fail => Sys2Proof.Machine.execPlumbCheck tile v1Fail v2Fail v3Fail s
  | .plumbRelocate tile => Sys2Proof.Machine.execPlumbRelocate tile s
  | .memoryError h err place => Sys2Proof.Machine.execMemoryError h err place s
  | .tspRequest id fn lock => Sys2Proof.Machine.execTspRequest id fn lock s
  | .configurationRequest fn register kind => Sys2Proof.Machine.execConfigurationRequest fn register kind s

end Sys2Proof.Machine
end

