-- ==== Sys2Proof/Machine/Time.lean ====
section
/-! DEFINITION. What passes with time alone: the keystone count, the durations of throttle reasons, the powered
hours of tiles (R95, R96, R236, R350, R445). The sender issues every other timed event as a command. -/

namespace Sys2Proof.Machine

open Sys2Proof

/-- One hour in keystone counts. -/
def hourCounts : Nat := 180000000000

/-- A tile's powered hours (0x2012.08, 0x5020.03). -/
def State.hourOf (s : State) (p : Nat) : State := (s.bumpAt p 0x2012 0x08).bumpAt p 0x5020 0x03

/-- An hour has passed on the tiles of the halves whose rails are on. -/
def State.hourPasses (s : State) : State :=
  [HalfId.h0, HalfId.h1].foldl (fun t h =>
    if t.railsOn h then (physTiles (halfNum h)).foldl (fun x p => x.hourOf p) t else t) s

/-- One keystone count passes over the part: one D2H request leaves on the host link, and each manager serves one write
of its queue, calibration products that were aborted start again where they may (assumption 5). -/
def State.elapse (s : State) : State :=
  if s.key.powered then
    let s := ((s.tick.reasonTick 0x1015).reasonTick 0x1016).d2hServe
    let s := ((s.serveQueue .h0).serveQueue .h1).resumeCal
    if s.count % hourCounts = 0 then s.hourPasses else s
  else s

end Sys2Proof.Machine
end

