-- ==== Sys2Proof/Safety.lean ====
section
/-! DEFINITION. Safe states and safe runs, in the terms the statements use. -/

namespace Sys2Proof.Machine

/-- Operation that writes an object whole: WRITE, or WRITE_SEG of a domain (R120). -/
def writeOp (i sub : Nat) : Nat :=
  match findRow i sub with
  | some r => if r.ty = .domain then opCode.writeSeg else opCode.write
  | none => opCode.write

/-- The answer of a request: announced where the path is I3C, then sent (R51, R119). -/
def State.replied (s : State) (q : Req) (op status ticket hint : Nat) (payload : List Word) : State :=
  (s.interrupt q.via.path).respond q.via.path op q.index q.sub q.tag status ticket hint payload

/-- The answer of a whole write: announced where the path is I3C, then sent (R51, R119). -/
def State.answered (s : State) (via : Via) (i sub status ticket hint : Nat) : State :=
  (s.interrupt via.path).respond via.path (writeOp i sub) i sub 0 status ticket hint []

/-- Ends a write that was carried out: the trace ring notes it, and it is answered. -/
def State.written (s : State) (via : Via) (i sub : Nat) (ws : List Word) (status ticket hint : Nat) : State :=
  (s.traceAdd (.wrote i sub ws s.count)).answered via i sub status ticket hint

end Sys2Proof.Machine

namespace Sys2Proof.Safety

open Sys2Proof.Machine

/-- The sparse stores of the part are in canonical form: keys strictly rising, no entry equal to what an unlisted
key reads as. -/
def canonical (s : State) : Bool :=
  Sparse.wf dictDefault s.dict && Sparse.wf byteDefault s.hbm0 && Sparse.wf byteDefault s.hbm1

/-- HBM lists nothing beyond a half's 96 GiB (R8). -/
def bounded (s : State) : Bool :=
  s.hbm0.all (fun e => decide (e.1 < hbmSize)) && s.hbm1.all (fun e => decide (e.1 < hbmSize))

/-- A step that stops. -/
def stops (s : State) : Prop := ∀ t, step s ≠ .next t

/-- A run of `k` steps meets no stop. -/
def runs : Nat → State → Prop
  | 0, _ => True
  | k + 1, s => ∃ t, step s = .next t ∧ runs k t

/-! ### What a command reaches -/

/-- The command answers a next state, and that state holds `P`. -/
def Reaches (i : Instr) (s : State) (P : State → Prop) : Prop := ∃ t, exec i s = .next t ∧ P t

/-- Every register of a dictionary object, in every instance, is that of `s`. -/
def SameObject (i : Nat) (s t : State) : Prop := ∀ u sub, t.regAt u i sub = s.regAt u i sub
/-- Every byte of both memories is that of `s`. -/
def SameHbm (s t : State) : Prop := t.hbm0 = s.hbm0 ∧ t.hbm1 = s.hbm1
/-- Every context is that of `s`. -/
def SameCtxs (s t : State) : Prop := t.ctxs = s.ctxs
/-- Every tile's array state is that of `s`. -/
def SameTiles (s t : State) : Prop := t.tiles = s.tiles
/-- Every key, session and certificate is that of `s`. -/
def SameSec (s t : State) : Prop := t.sec = s.sec
/-- The keystone's own state (power, lead window, images, transitions) is that of `s`. -/
def SameKey (s t : State) : Prop := t.key = s.key
/-- Both half managers' states are those of `s`. -/
def SameHalves (s t : State) : Prop := t.half0 = s.half0 ∧ t.half1 = s.half1
/-- Tickets, latches, staged words and snapshots are those of `s`. -/
def SameSvc (s t : State) : Prop := t.svc = s.svc
/-- The supply's protection state is that of `s`. -/
def SameSup (s t : State) : Prop := t.sup = s.sup
/-- The replacements of tiles, courses and slices are those of `s`. -/
def SameFabric (s t : State) : Prop := t.fabric = s.fabric
/-- Every spoke's link state is that of `s`. -/
def SameSpokes (s t : State) : Prop := t.spokes = s.spokes
/-- The queue of waiting commands is that of `s`. -/
def SamePending (s t : State) : Prop := t.pending = s.pending
/-- Every dictionary register is that of `s`. -/
def SameDict (s t : State) : Prop := t.dict = s.dict

/-- No dictionary object but the listed ones changes. -/
def OnlyIn (l : List Nat) (s t : State) : Prop := ∀ i, i < 65536 → i ∉ l → SameObject i s t
/-- No register of the object but the listed sub-indices changes, in any instance. -/
def OnlySubs (i : Nat) (l : List Nat) (s t : State) : Prop :=
  ∀ u sub, sub < 256 → sub ∉ l → t.regAt u i sub = s.regAt u i sub
/-- No instance of the object but one changes. -/
def OnlyUnit (i u : Nat) (s t : State) : Prop := ∀ v sub, v ≠ u → t.regAt v i sub = s.regAt v i sub

/-! ### Writes that the checks of R124 let through -/

/-- The state in which a whole write of an object meets its checks from the value on: what its path had staged is
discarded, and the answer of the half that serves the object has crossed its bridge. -/
def arrival (s : State) (via : Via) (i sub : Nat) : State :=
  match findObj i with
  | none => s
  | some o =>
    match o.row sub with
    | none => s
    | some r =>
      let b := s.unstageOther via.path i r.sub
      (b.heard (b.server o i r.single)).unstage via.path

/-- Every check of R124 that stands before the value's lets the whole write through: power and path, the entry's checks,
length and type; the manager that sends it does not stand down. -/
def presents (s : State) (via : Via) (i sub : Nat) (ws : List Word) : Bool :=
  s.key.powered && !s.mute via.path && !s.standsDown via.path i sub &&
  match findObj i with
  | none => false
  | some o =>
    match o.row sub with
    | none => false
    | some r =>
      (s.unstageOther via.path i r.sub).entryStatus via o i sub .write ws == 0 && sub == r.sub &&
      ws.length == r.words && r.ty != .domain

/-- Every check of R124 that stands before an object's own rule lets the whole write through: power and path, the
entry's checks, length and type, the value's form and range, the object's state, the lead, the context's state, no
pending write of the object, no shedding and no queue at its manager; the manager that sends it does not stand down. -/
def admits (s : State) (via : Via) (i sub : Nat) (ws : List Word) : Bool :=
  s.key.powered && !s.mute via.path && !s.standsDown via.path i sub &&
  match findObj i with
  | none => false
  | some o =>
    match o.row sub with
    | none => false
    | some r =>
      let b := s.unstageOther via.path i r.sub
      let a := arrival s via i sub
      b.entryStatus via o i sub .write ws == 0 && sub == r.sub && ws.length == r.words && r.ty != .domain &&
      r.valueStatus ws == 0 && a.ownStatus i r.sub (a.unitOf o r) ws == 0 &&
      (r.acc != .rws || a.rwsOpen i r.sub) &&
      (r.acc != .rwl || a.leadless i ws || (match a.gate (a.originOf via) with | .pass => true | _ => false)) &&
      !a.ctxBars o r i r.sub ws && (a.busyStatus o r i (a.unitOf o r) true (aborts i ws)).isNone &&
      !a.queues o i (a.server o i r.single) && !(i == 0x0040 && r.sub == 0x03)

/-- What the object's own rule says of a write that the checks let through. -/
def verdict (s : State) (x : Aux) (via : Via) (i sub : Nat) (ws : List Word) : Verdict :=
  let a := arrival s via i sub
  match findObj i with
  | none => .refuse 0x1001 0
  | some o =>
    match o.row sub with
    | none => .refuse 0x1002 0
    | some r => a.act x via r i (a.unitOf o r) ws

/-- The state in which a whole domain write meets its object's rule. -/
def domainArrival (s : State) (via : Via) (i sub : Nat) : State :=
  match findObj i with
  | none => s
  | some o =>
    match o.row sub with
    | none => s
    | some r =>
      let b := s.unstageOther via.path i sub
      (b.heard (b.server o i r.single)).closeDomain via.path

/-- Every check of R124 that stands before a domain's own rule lets a whole domain write through. -/
def admitsDomain (s : State) (via : Via) (i sub : Nat) : Bool :=
  s.key.powered && !s.mute via.path &&
  match findObj i with
  | none => false
  | some o =>
    match o.row sub with
    | none => false
    | some r =>
      let a := domainArrival s via i sub
      (s.unstageOther via.path i sub).entryStatus via o i sub .write [] == 0 && sub == r.sub &&
      !a.ctxBars o r i r.sub [] && (a.busyStatus o r i (a.unitOf o r) true false).isNone

/-- What a domain's own rule says of a whole write. -/
def domainVerdict (s : State) (via : Via) (i sub : Nat) (l : List Byte) : Verdict :=
  let a := domainArrival s via i sub
  match findObj i with
  | none => .refuse 0x1001 0
  | some o =>
    match o.row sub with
    | none => .refuse 0x1002 0
    | some r => a.actDomain i (a.unitOf o r) l

/-- The command is a write that takes effect at once: `P` holds of the state in which it has, and the answer is
0x0000. -/
def Takes (c : Instr) (s : State) (via : Via) (i sub : Nat) (ws : List Word) (P : State → Prop) : Prop :=
  ∃ t, exec c s = .next (t.written via i sub ws 0x0000 0 0) ∧ P t

/-- The command is a write whose work takes time (R128): `P` holds of the state in which it has begun, and the
answer is 0x6002 with the next ticket. -/
def Defers (c : Instr) (s : State) (via : Via) (i sub : Nat) (ws : List Word) (P : State → Prop) : Prop :=
  ∃ t hint, exec c s = .next (t.written via i sub ws 0x6002 (arrival s via i sub).nextTicketNum hint) ∧ P t

/-- The command is a write that its object's own rule refuses with a status, changing nothing. -/
def Refuses (c : Instr) (s : State) (via : Via) (i sub status : Nat) : Prop :=
  ∃ hint, exec c s = .next ((arrival s via i sub).answered via i sub status 0 hint)

/-- The command is a write that its object's own rule refuses with a status; the rule counts it, or begins what it
waits for, and `P` holds of the state it leaves. -/
def RefusesWith (c : Instr) (s : State) (via : Via) (i sub status : Nat) (P : State → Prop) : Prop :=
  ∃ t hint, exec c s = .next (t.answered via i sub status 0 hint) ∧ P t

/-- A command object takes the value 1 alone (R112): 0 is refused as not allowed, any other value for its reserved
bits. -/
def OneOnly (c : Instr) (s : State) (via : Via) (i sub : Nat) (value : Word) : Prop :=
  presents s via i sub [value] = true → value ≠ 1 → Refuses c s via i sub (if value = 0 then 0x2003 else 0x2004)

/-! ### Requests that read -/

/-- The state in which a request's object is read: the half that serves it has been heard. -/
def reading (s : State) (o : Obj) (r : Row) (i : Nat) : State := s.heard (s.server o i r.single)

/-- Every check of R124 lets a read of an object's row through. -/
def readable (s : State) (q : Req) (o : Obj) (r : Row) : Bool :=
  s.key.powered && !s.mute q.via.path && s.entryStatus q.via o q.index q.sub .read [] == 0 &&
  typeStatus q.ty r.ty == 0 &&
  ((reading s o r q.index).busyStatus o r q.index ((reading s o r q.index).unitOf o r) false false).isNone

/-! ### What a command may change -/

/-- A part of the state. -/
inductive Part where
  | memory | contexts | tiles | security | keystone | halves | service | supply | fabric | spokes
  /-- The context objects 0x8000 to 0x8BFF. -/
  | ctxObjects
  deriving DecidableEq, Repr

/-- The parts of the state that a command may change. -/
def parts : Instr → List Part
  | .coldPowerOn .. | .inputSwitchReclose .. =>
    [.memory, .contexts, .tiles, .security, .keystone, .halves, .service, .supply, .fabric, .spokes,
     .ctxObjects]
  | .startComplete .. => [.security, .keystone, .halves, .service]
  | .startFail .. | .startTimeout .. => [.keystone, .halves, .service]
  | .crystalStartTimeout => [.keystone, .halves]
  | .leadStartTimeout | .claim .. | .wake => [.keystone]
  | .recoveryImage .. | .writeSeg .. | .ownerRootInstall .. | .serviceCommand .. =>
    [.memory, .contexts, .tiles, .keystone, .halves, .service, .fabric, .ctxObjects]
  | .recoverCommit .. | .recoverRetry .. | .clearExtremes .. | .heartbeat .. | .windowClose | .moveLead ..
  | .replaceClear .. | .replaceRaise .. | .writeObject .. | .write .. | .writeIf .. | .bar2Write ..
  | .clearSticky .. | .shedLevelUpdate .. | .telemetryPlacementWrite .. | .cachePartitionWrite ..
  | .clockSourceSelect .. | .clockEnableWrite .. | .spreadWrite .. | .clkobsSelect .. | .ctxOpen ..
  | .ctxLoad .. | .ctxRun .. | .ctxHold .. | .ctxDone .. | .ctxFree .. | .contextReset .. | .claimWrite ..
  | .eventAck .. | .numericsRelease .. | .calZero .. | .calFull .. | .calAbort .. | .calRefresh ..
  | .spokeDown .. | .spokeTrainStart .. | .spokeForceRetrain .. | .positionWrite .. | .draftReceipt ..
  | .slotEnable .. | .restoreStart .. | .sendBack .. | .logClear .. | .enterActive .. | .enterQuiet ..
  | .enterRetain .. | .enterKeystoneOnly .. | .boardLimitWrite .. | .budgetSplitWrite .. | .coreSetpointWrite ..
  | .commitKeystone .. | .commitHalfComponent .. | .releaseOwnership .. | .sealingKeyInstall ..
  | .clearSealingSlot .. | .rebind .. | .releaseIdeHold .. | .pelotonKeyInstall .. | .pelotonKeyAdvance ..
  | .sanitize .. | .signStatement .. | .halfReset .. | .tileReset .. =>
    [.memory, .contexts, .tiles, .security, .keystone, .halves, .service, .fabric, .spokes, .ctxObjects]
  | .supplyBrownout .. | .inputSwitchOpen | .reversePolarity =>
    [.memory, .contexts, .tiles, .security, .keystone, .halves, .service, .supply, .spokes, .ctxObjects]
  | .supplyRecover .. | .crystalReady => [.contexts, .tiles, .keystone, .halves, .service, .fabric]
  | .supplyUndervoltageAlert .. | .supplyUndervoltageClear .. | .supplyOvervoltageAlert ..
  | .supplyOvervoltageClear .. | .pwrbrkAssert | .pwrbrkRelease => [.supply]
  | .powerLoss | .contactGroupOpen .. | .holdoverExpire | .powerStateReached | .thermalTrip .. =>
    [.memory, .contexts, .tiles, .security, .keystone, .halves, .service, .spokes, .ctxObjects]
  | .contactGroupClear .. | .thermNAssert .. | .thermNRelease .. | .sidebandShortDetect ..
  | .sidebandFaultClear .. | .pullupCheck .. | .getEndpointId | .getMctpVersionSupport | .getMessageTypeSupport
  | .getVendorDefinedMessageSupport | .vectorSignal .. | .bisnpTimeout .. | .hostSnoop .. | .hdmDecoderCommit ..
  | .ideKeyProgram .. | .ideKeyRefresh | .shadowRead .. | .shadowWrite .. | .shadowUpdate .. | .oscReady
  | .crystalLoss | .paceMonitorRefresh .. | .paceShortfall .. | .blockReady .. | .probe .. | .driftMonitor ..
  | .gapTimeout .. | .linkNak .. | .sealTimeout .. | .getCertificate .. | .spdmHeartbeat .. => []
  | .bridgeLoss .. => [.contexts, .keystone, .halves, .service, .ctxObjects]
  | .fenceDrawConfirm .. | .fencePowerRemove .. | .describe .. | .nextObj .. | .zeroResultExpire ..
  | .powerGovern .. | .powerFastClamp .. | .droopDetect .. | .droopRecover .. | .thermalThrottle ..
  | .thermalRecover .. | .thermalCrawl .. | .thermalCrawlEnd .. => [.halves]
  | .read .. | .readSeg .. | .ticket .. | .bar2Read .. | .bar2ReadTimeout .. | .ticketResultRead => [.halves, .service]
  | .domainWriteTimeout .. | .ticketExpire .. | .setEndpointId .. | .entdaa .. => [.service]
  | .deferredWriteComplete .. => [.contexts, .security, .keystone, .halves, .service, .ctxObjects]
  | .cxlMemRead .. => [.keystone, .ctxObjects]
  | .cxlMemWrite .. => [.memory, .keystone, .ctxObjects]
  | .birsp .. | .producerUpdate .. => [.memory, .contexts, .service, .ctxObjects]
  | .bisnpFault .. | .ideIntegrityFailure .. | .tspError .. | .unitSuspect .. | .memoryError .. =>
    [.contexts, .service, .ctxObjects]
  | .hostReset .. => [.contexts, .security, .keystone, .service, .ctxObjects]
  | .cxlReset .. => [.memory, .contexts, .tiles, .security, .keystone, .halves, .service, .fabric, .ctxObjects]
  | .functionLevelReset .. | .configurationRequest .. => [.contexts, .keystone, .service, .ctxObjects]
  | .placementComplete .. | .releaseComplete .. | .restoreApply .. =>
    [.memory, .contexts, .tiles, .service, .fabric, .ctxObjects]
  | .claimComplete .. => [.memory, .service, .ctxObjects]
  | .strandIssue .. | .forwardProduct .. | .checksumRepeat .. | .partialArrive .. | .outputDrain .. =>
    [.contexts, .tiles]
  | .strandEnd .. | .sealSend .. => [.memory, .contexts, .tiles, .halves, .service, .fabric, .ctxObjects]
  | .streamWaitTimeout .. => [.ctxObjects]
  | .inputVectorArrive .. | .coefficientSwitch .. | .calibrationProduct .. | .transferPassStart ..
  | .governorEvaluate .. | .plumbDue .. => [.tiles]
  | .rowWriteVerify .. | .columnSwap .. | .refreshAge .. | .transferRowComplete .. | .plumbCheck .. =>
    [.contexts, .tiles, .fabric]
  | .calRunComplete .. => [.contexts, .tiles, .halves, .service, .fabric]
  | .calEscalate .. | .plumbRelocate .. => [.tiles, .fabric]
  | .bucketSend .. => [.memory, .contexts]
  | .tensorSend .. | .contributionReceive .. | .sealRefusalReceive .. | .normPartialReceive ..
  | .normPartialSend .. | .draftFrameReceive .. => [.contexts]
  | .frameRoute .. | .linkAck .. | .linkCredit .. | .spokeTrain .. | .spokeTrainRetry .. | .spokeRetrain .. =>
    [.spokes]
  | .tensorReceive .. | .retractReceive .. => [.memory, .contexts, .tiles]
  | .sealReceive .. | .gatherReceive .. | .updateStart .. | .riskEvaluate .. => [.contexts, .halves]
  | .updateComplete .. => [.memory, .contexts, .tiles, .halves]
  | .restoreTimeout .. => [.contexts, .service]
  | .suspectReplace .. | .spareCourseHandover .. => [.memory, .contexts, .tiles, .fabric]
  | .quiescence => [.tiles, .keystone]
  | .energyReconcile .. => [.contexts, .ctxObjects]
  | .entropyFailure | .treeBuild | .challenge .. | .getMeasurements .. | .keyExchange .. | .keyUpdate ..
  | .previousKeyDestroy .. | .tspRequest .. => [.security]
  | .sessionHeartbeatTimeout .. | .sessionEnd .. => [.contexts, .security, .service, .ctxObjects]

/-- The dictionary objects that a command may change, beside context objects; none for a command that writes the
object that it names, starts the part or loses power. -/
def objects : Instr → Option (List Nat)
  | .coldPowerOn .. | .recoveryImage .. | .recoverCommit .. | .recoverRetry .. | .supplyBrownout ..
  | .inputSwitchOpen | .inputSwitchReclose .. | .powerLoss | .reversePolarity | .contactGroupOpen ..
  | .clearExtremes .. | .heartbeat .. | .windowClose | .moveLead .. | .replaceClear .. | .replaceRaise ..
  | .writeObject .. | .write .. | .writeIf .. | .writeSeg .. | .bar2Write .. | .clearSticky ..
  | .deferredWriteComplete .. | .shedLevelUpdate .. | .telemetryPlacementWrite .. | .cachePartitionWrite ..
  | .hostReset .. | .cxlReset .. | .functionLevelReset .. | .holdoverExpire | .clockSourceSelect ..
  | .clockEnableWrite .. | .spreadWrite .. | .clkobsSelect .. | .ctxOpen .. | .ctxLoad .. | .ctxRun ..
  | .ctxHold .. | .ctxDone .. | .ctxFree .. | .releaseComplete .. | .contextReset .. | .claimWrite ..
  | .eventAck .. | .numericsRelease .. | .calZero .. | .calFull .. | .calAbort .. | .calRefresh ..
  | .spokeDown .. | .spokeTrainStart .. | .spokeForceRetrain .. | .positionWrite .. | .draftReceipt ..
  | .slotEnable .. | .restoreStart .. | .sendBack .. | .logClear .. | .enterActive .. | .enterQuiet ..
  | .enterRetain .. | .enterKeystoneOnly .. | .powerStateReached | .boardLimitWrite .. | .budgetSplitWrite ..
  | .coreSetpointWrite .. | .thermalTrip .. | .commitKeystone .. | .commitHalfComponent ..
  | .ownerRootInstall .. | .releaseOwnership .. | .sealingKeyInstall .. | .clearSealingSlot .. | .rebind ..
  | .releaseIdeHold .. | .pelotonKeyInstall .. | .pelotonKeyAdvance .. | .sanitize .. | .signStatement ..
  | .serviceCommand .. | .halfReset .. | .tileReset .. | .configurationRequest .. => none
  | .startComplete .. =>
    some [0x0041, 0x1002, 0x1010, 0x1011, 0x1012, 0x1013, 0x1015, 0x1016, 0x7040, 0x9001, 0xF000, 0xF030]
  | .startFail .. | .startTimeout .. =>
    some [0x0041, 0x1001, 0x1002, 0x1010, 0x1011, 0x1012, 0x1013, 0x1015, 0x1016, 0x9001, 0xF000]
  | .crystalStartTimeout => some [0x0041, 0x1001, 0x1002, 0x1011, 0x1012, 0x1013, 0x1015, 0x1016, 0x9001, 0xF000]
  | .leadStartTimeout | .claim .. | .domainWriteTimeout .. | .ticketExpire .. | .setEndpointId ..
  | .getEndpointId | .getMctpVersionSupport | .getMessageTypeSupport | .getVendorDefinedMessageSupport
  | .entdaa .. | .vectorSignal .. | .hostSnoop .. | .hdmDecoderCommit .. | .ideKeyProgram .. | .tspError ..
  | .shadowRead .. | .shadowUpdate .. | .claimComplete .. | .streamWaitTimeout .. | .calibrationProduct ..
  | .linkAck .. | .linkCredit .. | .quiescence | .treeBuild | .getCertificate .. | .keyUpdate ..
  | .spdmHeartbeat .. | .sessionHeartbeatTimeout .. | .sessionEnd .. | .tspRequest .. => some []
  | .supplyRecover .. =>
    some [0x0041, 0x0080, 0x0100, 0x1000, 0x1001, 0x1002, 0x1010, 0x1011, 0x1012, 0x1013, 0x1015, 0x1016,
     0x2010, 0x4001, 0x4003, 0x4010, 0x4012, 0x4021, 0x5020, 0x9001, 0x9070, 0xF000, 0xF002, 0xF003]
  | .supplyUndervoltageAlert .. | .supplyUndervoltageClear .. | .supplyOvervoltageAlert ..
  | .supplyOvervoltageClear .. => some [0x0041, 0x0100, 0x1011, 0x1012, 0x1013, 0x1015, 0x1016]
  | .contactGroupClear .. => some [0x0041, 0x0100, 0x1011]
  | .pwrbrkAssert | .pwrbrkRelease => some [0x0101, 0x1012, 0x1013, 0x1015, 0x1016]
  | .thermNAssert .. | .thermNRelease .. | .sidebandShortDetect .. | .sidebandFaultClear .. | .pullupCheck .. =>
    some [0x0101]
  | .bridgeLoss .. =>
    some [0x0010, 0x0011, 0x0040, 0x0041, 0x0080, 0x1001, 0x1002, 0x1010, 0x1011, 0x1012, 0x1013, 0x1015,
     0x1016, 0x9001, 0xA003, 0xA004, 0xF000]
  | .fenceDrawConfirm .. => some [0x0041, 0x1011]
  | .fencePowerRemove .. => some [0x0041, 0x1001, 0x1002, 0x1011, 0x1012, 0x1013, 0x1015, 0x1016]
  | .read .. | .describe .. | .readSeg .. | .nextObj .. | .bar2Read .. | .bar2ReadTimeout .. | .ticketResultRead =>
    some [0x0010, 0x0011, 0x1002]
  | .ticket .. => some [0x0010, 0x1002]
  | .cxlMemRead .. | .cxlMemWrite .. => some [0x1010, 0xA004]
  | .birsp .. => some [0x3010, 0x3020, 0x3021, 0x3031, 0x3040, 0x3041, 0x4102, 0x4103, 0xA004]
  | .bisnpTimeout .. | .shadowWrite .. => some [0xA004]
  | .bisnpFault .. => some [0x4021, 0x7040, 0xF030]
  | .ideKeyRefresh => some [0xA002]
  | .ideIntegrityFailure .. => some [0x7040, 0xA002, 0xF030]
  | .oscReady => some [0x1000]
  | .crystalReady =>
    some [0x0041, 0x0080, 0x0100, 0x1000, 0x1001, 0x1002, 0x1005, 0x1010, 0x1011, 0x1012, 0x1013, 0x1015,
     0x1016, 0x2010, 0x4001, 0x4003, 0x4010, 0x4012, 0x4021, 0x5020, 0x9001, 0xF000, 0xF002, 0xF003]
  | .crystalLoss => some [0x1000, 0x1005, 0x7040, 0xF030]
  | .paceMonitorRefresh .. => some [0x1006, 0x1014]
  | .paceShortfall .. => some [0x1006, 0x7000, 0x7001, 0x7040, 0xF030]
  | .blockReady .. => some [0x1002, 0x6003]
  | .placementComplete .. =>
    some [0x0080, 0x2012, 0x4001, 0x4003, 0x4004, 0x4005, 0x4010, 0x4012, 0x4021, 0x5010, 0x5020, 0x7040,
     0xF030]
  | .strandIssue .. => some [0x2010, 0x2011, 0x4010, 0x4021, 0x5020]
  | .strandEnd .. =>
    some [0x0080, 0x1012, 0x1013, 0x1015, 0x1016, 0x3010, 0x3020, 0x3021, 0x3031, 0x3032, 0x3040, 0x3041,
     0x4001, 0x4003, 0x4005, 0x4010, 0x4012, 0x4014, 0x4020, 0x4021, 0x4102, 0x4103, 0x5020, 0x6010, 0x6020,
     0x6021, 0x7000, 0x7001, 0x7020, 0x7021, 0x7040, 0x9030, 0x9031, 0xA003, 0xF030]
  | .producerUpdate .. => some [0x3010, 0x3020, 0x3021, 0x3031, 0x3040, 0x3041, 0x4021, 0x4102, 0x4103, 0xA003]
  | .inputVectorArrive .. => some [0x4010, 0x4014]
  | .forwardProduct .. => some [0x3020, 0x3021, 0x4001, 0x4010, 0x4014]
  | .checksumRepeat .. => some [0x3020, 0x3021, 0x4001, 0x4010, 0x4014, 0x7000, 0x7001, 0x7040, 0xF030]
  | .partialArrive .. | .outputDrain .. => some [0x3020, 0x3021, 0x4014]
  | .coefficientSwitch .. => some [0x2010, 0x2011, 0x4010]
  | .rowWriteVerify .. => some [0x0080, 0x4001, 0x4003, 0x4004, 0x4005, 0x4010, 0x4012, 0x4021, 0x5020, 0x7040, 0xF030]
  | .calRunComplete .. | .columnSwap .. | .refreshAge .. =>
    some [0x0080, 0x2000, 0x2001, 0x2010, 0x2011, 0x2012, 0x4001, 0x4003, 0x4004, 0x4005, 0x4010, 0x4012,
     0x4021, 0x5020, 0x7040, 0xF030]
  | .zeroResultExpire .. => some [0x2000, 0x2001]
  | .probe .. | .driftMonitor .. => some [0x2000, 0x2001, 0x2012]
  | .calEscalate .. =>
    some [0x0080, 0x2000, 0x2001, 0x4001, 0x4003, 0x4010, 0x4012, 0x4021, 0x5020, 0x7000, 0x7001, 0x7040,
     0xF030]
  | .bucketSend .. | .tensorSend .. | .sealRefusalReceive .. =>
    some [0x6010, 0x6020, 0x6021, 0x7040, 0x9030, 0x9031, 0xF030]
  | .sealSend .. =>
    some [0x1012, 0x1013, 0x1015, 0x1016, 0x3010, 0x3020, 0x3021, 0x3031, 0x3032, 0x3040, 0x3041, 0x3050,
     0x4021, 0x4102, 0x4103, 0x6010, 0x6020, 0x6021, 0x7010, 0x7040, 0x9030, 0x9031, 0xF021, 0xF030]
  | .frameRoute .. => some [0x6000, 0x6001, 0x6003, 0x7040, 0xF030]
  | .gapTimeout .. => some [0x6000, 0x6001, 0x7030, 0x7031, 0x7040, 0xF030]
  | .linkNak .. => some [0x6003]
  | .contributionReceive .. | .gatherReceive .. | .normPartialReceive .. => some [0x6010]
  | .tensorReceive .. | .retractReceive .. =>
    some [0x3010, 0x3020, 0x3021, 0x4014, 0x4021, 0x4102, 0x4103, 0x6010, 0x7040, 0x9030, 0x9031, 0xF030]
  | .sealReceive .. => some [0x6010, 0x6020, 0x6021, 0x7010, 0x7040, 0x9030, 0x9031, 0xF030]
  | .normPartialSend .. => some [0x6010, 0x7040, 0x9030, 0x9031, 0xF030]
  | .sealTimeout .. => some [0x6010, 0x6020, 0x6021, 0x7040, 0xF030]
  | .spokeTrain .. | .spokeTrainRetry .. => some [0x0102, 0x6000, 0x6001, 0x6003, 0x7040, 0xF030]
  | .spokeRetrain .. => some [0x0102, 0x6000, 0x6001, 0x6003, 0x7000, 0x7001, 0x7040, 0xF030]
  | .updateStart .. => some [0x5001, 0x5002, 0x5010, 0x5011, 0x7010, 0x7013, 0x7040, 0x9030, 0x9031, 0xF030]
  | .updateComplete .. => some [0x5001, 0x5002, 0x5010, 0x5011, 0x5020, 0x7040, 0x9030, 0x9031, 0xF030]
  | .transferPassStart .. => some [0x4021, 0x5020]
  | .transferRowComplete .. =>
    some [0x0080, 0x4001, 0x4003, 0x4004, 0x4005, 0x4010, 0x4012, 0x4021, 0x5001, 0x5002, 0x5010, 0x5020,
     0x7040, 0xF030]
  | .governorEvaluate .. => some [0x0080, 0x5020, 0x7040, 0xF030]
  | .riskEvaluate .. => some [0x0080, 0x7000, 0x7001, 0x7040, 0xF030]
  | .draftFrameReceive .. => some [0x7030, 0x7031, 0x7040, 0x9030, 0x9031, 0xF030]
  | .restoreApply .. =>
    some [0x0080, 0x2012, 0x3031, 0x4001, 0x4003, 0x4004, 0x4005, 0x4010, 0x4012, 0x4021, 0x5010, 0x5020,
     0x6010, 0x7013, 0x7040, 0xF030]
  | .restoreTimeout .. => some [0x7013]
  | .unitSuspect .. => some [0x0080, 0x4021, 0x7020, 0x7021, 0x7040, 0xF030]
  | .suspectReplace .. =>
    some [0x0080, 0x2010, 0x3010, 0x3020, 0x3021, 0x4001, 0x4003, 0x4005, 0x4010, 0x4012, 0x4014, 0x4021,
     0x4102, 0x4103, 0x5020, 0x6010, 0x7040, 0x9030, 0x9031, 0xF030]
  | .spareCourseHandover .. =>
    some [0x0080, 0x3010, 0x3020, 0x3021, 0x4001, 0x4003, 0x4005, 0x4010, 0x4012, 0x4014, 0x4021, 0x4102,
     0x4103, 0x5020, 0x6010, 0x7040, 0x9030, 0x9031, 0xF030]
  | .wake => some [0x1010]
  | .powerGovern .. => some [0x0041, 0x1011, 0x1012, 0x1013, 0x1015, 0x1016]
  | .powerFastClamp .. | .droopRecover .. => some [0x1012, 0x1013, 0x1015, 0x1016]
  | .droopDetect .. => some [0x1012, 0x1013, 0x1015, 0x1016, 0x7000, 0x7001]
  | .thermalThrottle .. => some [0x1012, 0x1013, 0x1014, 0x1015, 0x1016, 0x7000, 0x7001]
  | .thermalRecover .. | .thermalCrawl .. | .thermalCrawlEnd .. => some [0x1012, 0x1013, 0x1014, 0x1015, 0x1016]
  | .energyReconcile .. => some [0x1017]
  | .entropyFailure => some [0x7040, 0xF030]
  | .challenge .. | .getMeasurements .. | .keyExchange .. => some [0x7040, 0x9000, 0xF030]
  | .previousKeyDestroy .. => some [0x9030, 0x9031]
  | .plumbDue .. => some [0xF021]
  | .plumbCheck .. =>
    some [0x0080, 0x2000, 0x2001, 0x2012, 0x4001, 0x4003, 0x4005, 0x4010, 0x4012, 0x4021, 0x5020, 0x7040,
     0xF021, 0xF030]
  | .plumbRelocate .. => some [0x0080, 0x4001, 0x4003, 0x4010, 0x4012, 0x4021, 0x5020, 0x7040, 0xF021, 0xF030]
  | .memoryError .. => some [0x4021, 0x7000, 0x7001, 0x7040, 0xF030]

/-- A part of the state is the same in both. -/
def SamePart : Part → State → State → Prop
  | .memory, s, t => SameHbm s t
  | .contexts, s, t => SameCtxs s t
  | .tiles, s, t => SameTiles s t
  | .security, s, t => SameSec s t
  | .keystone, s, t => SameKey s t
  | .halves, s, t => SameHalves s t
  | .service, s, t => SameSvc s t
  | .supply, s, t => SameSup s t
  | .fabric, s, t => SameFabric s t
  | .spokes, s, t => SameSpokes s t
  | .ctxObjects, s, t => ∀ n, SameObject (cidx n) s t

end Sys2Proof.Safety
end

