-- ==== Sys2Proof/Certificates/Slice0/Obligations.lean ====
section
/-! DEFINITION. The statements for the provers. -/

open Sys2Proof Sys2Proof.Machine Sys2Proof.Safety

/-! ### Start, supply and sideband -/

/-- R40, R41, R115, R493, R508: the input reaches the keystone (COLD_POWER_ON) or the input switch recloses
(INPUT_SWITCH_RECLOSE), and a module start begins from nothing that power held: no context, no byte of either memory;
a register of an object that the start itself does not write keeps its value if it is of class P2 and is at its
default otherwise. The keystone is powered, the input is read, nobody holds the lead, and the start is counted; at
three starts counted before, footing mode is entered instead and nothing is counted (R494, R501, R502). -/
def Obligations.PowerOnStartsFromPersistentStateAlone : Prop :=
  ∀ (s : State) (mv : Nat) (found : Findings), mv ≤ 80000 →
    let fresh := fun (t : State) =>
      t.ctxs = [] ∧ t.hbm0 = [] ∧ t.hbm1 = [] ∧ t.key.powered = true ∧ t.val 0x0100 0x01 = mv ∧ t.holder = 0xFF ∧
      (if 3 ≤ s.val 0xF000 0x01 then t.reg 0xF000 0x02 = 1 ∧ t.reg 0xF000 0x01 = s.reg 0xF000 0x01
       else t.reg 0xF000 0x02 = 0 ∧ t.reg 0xF000 0x01 = s.reg 0xF000 0x01 + 1) ∧
      ∀ u i sub, i < 65536 → i ∉ [0x0041, 0x0100, 0x0101, 0x1000, 0x1001, 0x1002, 0x1011, 0x1012, 0x1013, 0x1015,
          0x1016, 0x2010, 0x4001, 0x4003, 0x7040, 0x9000, 0x9001, 0x9070, 0xF000, 0xF002, 0xF003, 0xF030] →
        t.regAt u i sub =
          if persistOf (dkey u i sub) = .p2 then s.regAt u i sub else dictDefault (dkey u i sub)
    (s.key.powered = false → s.sup.switchOpen = false → 36000 ≤ mv → Reaches (.coldPowerOn mv found) s fresh) ∧
    (s.sup.switchOpen = true → 44000 ≤ mv → mv ≤ 60000 → Reaches (.inputSwitchReclose mv found) s fresh)

/-- R41, R42, R43, R44: where power goes (POWER_LOSS, INPUT_SWITCH_OPEN, REVERSE_POLARITY, the last of the four
contact groups with CONTACT_GROUP_OPEN) the keystone is off, and no context and no byte of either memory is left; the
input switch and the reverse-event cell keep what happened. -/
def Obligations.LossOfPowerLeavesNothingVolatile : Prop :=
  ∀ (s : State), s.key.powered = true →
    let gone := fun (t : State) => t.key.powered = false ∧ t.ctxs = [] ∧ t.hbm0 = [] ∧ t.hbm1 = [] ∧ t.cper = []
    Reaches .powerLoss s gone ∧
    (s.sup.alertHigh = true → Reaches .inputSwitchOpen s (fun t => gone t ∧ t.sup.switchOpen = true)) ∧
    Reaches .reversePolarity s (fun t => gone t ∧ t.sup.reverseCell = true) ∧
    (∀ g, g < 4 → s.flag 0x0100 0x07 g = false → openGroups (s.val 0x0100 0x07) = 3 →
      Reaches (.contactGroupOpen g) s gone)

/-- R44: a contact group that opens while others stay closed, or that closes again, takes the input current cap to 5 A
for each working VIN contact and counts the change; no other object than the cap's and the grants' changes. R47, R48,
R50, R51, R54: the sideband. Each event sets or clears its bit of 0x0101.01, THERM_N drives its pin, a fault bit that
rises is counted, and nothing but the sideband's and the throttle's registers changes. -/
def Obligations.ContactsAndSidebandPins : Prop :=
  (∀ (s : State) (g : Nat) (now : Bool), s.key.powered = true → g < 4 → s.flag 0x0100 0x07 g = !now →
    (now = true → openGroups (s.val 0x0100 0x07) ≠ 3) →
    Reaches (if now then .contactGroupOpen g else .contactGroupClear g) s (fun t =>
      t.val 0x0100 0x08 =
        (12 - 3 * openGroups (toWord (putBit (s.val 0x0100 0x07) g now)).toNat) * 5000 ∧
      t.reg 0x0100 0x07 = toWord (putBit (s.val 0x0100 0x07) g now) ∧
      t.reg 0x0100 0x0E = s.reg 0x0100 0x0E + 1 ∧
      (∀ i, i < 65536 → i ∉ [0x0041, 0x0100, 0x1011] → SameObject i s t) ∧
      SameHbm s t ∧ SameCtxs s t ∧ SameTiles s t)) ∧
  (∀ (s : State), s.key.powered = true →
    let flag := fun (b : Nat) (v : Bool) (t : State) =>
      t.reg 0x0101 0x01 = toWord (putBit (s.val 0x0101 0x01) b v) ∧ SameHbm s t ∧ SameCtxs s t ∧ SameTiles s t ∧
      ∀ i, i < 65536 → i ∉ [0x0101, 0x1012, 0x1013, 0x1015, 0x1016] → SameObject i s t
    Reaches .pwrbrkAssert s (fun t => flag 7 true t ∧ t.sup.pwrbrk = true) ∧
    Reaches .pwrbrkRelease s (fun t => flag 7 false t ∧ t.sup.pwrbrk = false) ∧
    (∀ c, (s.val 0x0101 0x03 : Int) ≤ c → s.flag 0x0101 0x01 8 = false →
      Reaches (.thermNAssert c) s (fun t => flag 8 true t ∧ t.out = s.out ++ [.pin .thermN .low])) ∧
    (∀ c, c < (s.val 0x0101 0x03 : Int) - s.val 0x0101 0x04 → s.flag 0x0101 0x01 8 = true →
      Reaches (.thermNRelease c) s (fun t => flag 8 false t ∧ t.out = s.out ++ [.pin .thermN .floats])) ∧
    (∀ b, 2 ≤ b → b ≤ 6 → s.flag 0x0101 0x01 b = false → Reaches (.sidebandShortDetect b) s (fun t =>
      flag b true t ∧ t.reg 0x0101 0x02 = s.reg 0x0101 0x02 + 1)) ∧
    (∀ b, b ≤ 6 → s.flag 0x0101 0x01 b = true → Reaches (.sidebandFaultClear b) s (flag b false)) ∧
    (s.flag 0x0101 0x01 0 = false → Reaches (.pullupCheck true false) s (fun t =>
      flag 0 true t ∧ t.reg 0x0101 0x02 = s.reg 0x0101 0x02 + 1)) ∧
    (s.flag 0x0101 0x01 1 = false → Reaches (.pullupCheck false true) s (fun t =>
      flag 1 true t ∧ t.reg 0x0101 0x02 = s.reg 0x0101 0x02 + 1)))

/-- R24, R494 to R496: START_COMPLETE makes the half run, with fence state 0; START_FAIL, START_TIMEOUT and
CRYSTAL_START_TIMEOUT write the start record with the phase and the reason and leave the half, or both, without rails;
after LEAD_START_TIMEOUT half 0 counts as late. -/
def Obligations.StartEnds : Prop :=
  ∀ (s : State), s.key.powered = true →
    (∀ h, (s.half h).phase = .starting → Reaches (.startComplete h) s (fun t =>
      t.runs h = true ∧ t.fence h = 0 ∧ (t.half h).memActive = true ∧ SameHbm s t ∧ SameCtxs s t ∧ SameTiles s t)) ∧
    (∀ h phase reason status, (s.half h).phase = .starting →
      Reaches (.startFail h phase reason status) s (fun t =>
        (t.half h).phase = .failed ∧ t.fence h = 3 ∧
        t.reg 0xF000 0x03 = toWord ((if reason = 3 then status else 0x3001) * 65536 + phase % 16 * 256 +
          reason % 16 * 16 + (1 + halfNum h)) ∧
        t.reg 0xF000 (0x09 + halfNum h) = s.reg 0xF000 (0x09 + halfNum h) + 1)) ∧
    (∀ h phase, (s.half h).phase = .starting →
      Reaches (.startTimeout h phase) s (fun t =>
        (t.half h).phase = .failed ∧ t.fence h = 3 ∧
        t.reg 0xF000 0x03 = toWord (0x3001 * 65536 + phase % 16 * 256 + 8 * 16 + (1 + halfNum h)))) ∧
    (s.flag 0x1000 0x01 0 = false → s.key.atS4 = true → Reaches .crystalStartTimeout s (fun t =>
      (t.half .h0).phase = .failed ∧ (t.half .h1).phase = .failed ∧ t.fence .h0 = 3 ∧ t.fence .h1 = 3 ∧
      t.key.starting = false ∧ t.reg 0xF000 0x03 = toWord (0x3001 * 65536 + 4 * 256 + 2 * 16))) ∧
    (s.runs .h0 = false → Reaches .leadStartTimeout s (fun t => t.key.half0Late = true ∧ SameDict s t ∧ SameHbm s t))

/-- R40, R53: the supply's alerts, brownout and recovery. Each event reads the input. SUPPLY_UNDERVOLTAGE_ALERT and
SUPPLY_OVERVOLTAGE_ALERT raise their alert, enter supply state 1 or 2 and count the entry; the clears end the alert
and leave the state to the alert that still stands; SUPPLY_BROWNOUT takes both halves to Keystone-only with supply
state 3 and SUPPLY_RECOVER ends that state and takes the start on. -/
def Obligations.SupplyAlerts : Prop :=
  ∀ (s : State) (mv : Nat), s.key.powered = true → 36000 ≤ mv → mv ≤ 80000 →
    (41000 ≤ mv → mv < 44000 → s.halvesPowered = true → s.sup.alertLow = false → s.val 0x0100 0x0D ≠ 1 →
      s.val 0x0100 0x0D ≠ 3 →
      Reaches (.supplyUndervoltageAlert mv) s (fun t => t.sup.alertLow = true ∧ t.val 0x0100 0x0D = 1 ∧
        t.reg 0x0100 0x09 = s.reg 0x0100 0x09 + 1 ∧ t.val 0x0100 0x01 = mv ∧ SameHbm s t ∧ SameCtxs s t)) ∧
    (44500 ≤ mv → s.sup.alertLow = true → s.val 0x0100 0x0D = 1 →
      Reaches (.supplyUndervoltageClear mv) s (fun t => t.sup.alertLow = false ∧
        t.val 0x0100 0x0D = (if s.sup.alertHigh then 2 else 0) ∧ t.val 0x0100 0x01 = mv ∧ SameHbm s t ∧ SameCtxs s t)) ∧
    (62000 < mv → s.sup.alertHigh = false → s.val 0x0100 0x0D ≠ 2 → s.val 0x0100 0x0D ≠ 3 →
      Reaches (.supplyOvervoltageAlert mv) s (fun t => t.sup.alertHigh = true ∧ t.val 0x0100 0x0D = 2 ∧
        t.reg 0x0100 0x0A = s.reg 0x0100 0x0A + 1 ∧ t.val 0x0100 0x01 = mv ∧ SameHbm s t ∧ SameCtxs s t)) ∧
    (mv ≤ 61500 → s.sup.alertHigh = true → s.val 0x0100 0x0D = 2 →
      Reaches (.supplyOvervoltageClear mv) s (fun t => t.sup.alertHigh = false ∧
        t.val 0x0100 0x0D = (if s.sup.alertLow then 1 else 0) ∧ t.val 0x0100 0x01 = mv ∧ SameHbm s t ∧ SameCtxs s t)) ∧
    (mv < 41000 → s.val 0x0100 0x0D ≠ 3 →
      Reaches (.supplyBrownout mv) s (fun t => t.val 0x0100 0x0D = 3 ∧ t.val 0x1010 0x01 = 3 ∧ t.holder = 0xFF ∧
        t.epoch = s.epoch ∧ t.val 0x0100 0x01 = mv ∧ t.key.trans = none ∧ t.railsOn .h0 = false ∧ t.railsOn .h1 = false ∧
        t.hbm0 = [] ∧ t.hbm1 = [] ∧ t.ctxs = [])) ∧
    (∀ found, 44000 ≤ mv → s.val 0x0100 0x0D = 3 → s.flag 0xF000 0x02 0 = false → s.key.atS4 = false →
      Reaches (.supplyRecover mv found) s (fun t => t.key.waiting = none ∧ t.key.starting = true ∧
        t.val 0x0100 0x0D = (if s.sup.alertHigh then 2 else if s.sup.alertLow then 1 else 0) ∧ t.val 0x0100 0x01 = mv ∧
        (s.key.waiting = none → t.reg 0xF000 0x01 = s.reg 0xF000 0x01 + 1)))

/-! ### Clocks -/

/-- R82, R83, R86, R87: the sources. OSC_READY sets its ready bit; CRYSTAL_READY takes the count to the crystal, ends
a holdover and lets a start that waits in S4 go on with the keystone core on the crystal; CRYSTAL_LOSS moves every
selectable domain to the oscillator, counts and logs the loss and begins a holdover; HOLDOVER_EXPIRE begins an entry
to Retain, or leaves Retain or Keystone-only as it is, where an exit from Keystone-only goes back. R92, R523:
PACE_MONITOR_REFRESH shows a course's measured factor, voltage and junction, and no other course's. R99, R365:
BLOCK_READY sets the ready bit of an enabled block whose half has started; a spoke then begins to train. A block that
is ready already, or may not be, stays as it is. -/
def Obligations.ClockEvents : Prop :=
  (∀ (s : State), s.key.powered = true →
    Reaches .oscReady s (fun t => t.flag 0x1000 0x02 0 = true ∧ OnlyIn [0x1000] s t ∧ OnlySubs 0x1000 [0x02] s t ∧
      SameHbm s t ∧ SameCtxs s t ∧ SameKey s t) ∧
    (s.key.atS4 = false ∨ s.key.waiting = none → Reaches .crystalReady s (fun t =>
      t.flag 0x1000 0x01 0 = true ∧ t.val 0x1005 0x03 = 0 ∧ t.val 0x1000 0x06 = 0 ∧
      OnlyIn [0x1000, 0x1005] s t ∧ OnlySubs 0x1000 [0x01, 0x06] s t ∧ SameHbm s t ∧ SameCtxs s t ∧ SameKey s t)) ∧
    (∀ found, s.key.atS4 = true → s.key.waiting = some found → Reaches .crystalReady s (fun t =>
      t.flag 0x1000 0x01 0 = true ∧ t.val 0x1005 0x03 = 0 ∧ t.val 0x1000 0x06 = 0 ∧ t.val 0x1000 0x04 = 0 ∧
      t.key.atS4 = false ∧ t.key.waiting = (if 44000 ≤ s.val 0x0100 0x01 then none else some found))) ∧
    (s.flag 0x1000 0x01 0 = true → Reaches .crystalLoss s (fun t =>
      t.flag 0x1000 0x01 0 = false ∧ t.val 0x1005 0x03 = 1 ∧ t.val 0x1000 0x04 = 1 ∧ t.val 0x1000 0x07 = 3 ∧
      t.val 0x1000 0x08 = 3 ∧ t.reg 0x1000 0x05 = s.reg 0x1000 0x05 + 1 ∧ t.val 0x1000 0x06 = 1 ∧
      (∃ r, r.cls = clsFailure ∧ t.out = s.out ++ [.record .f0 r] ++
        (if t.pinDrive .clkobs = s.pinDrive .clkobs then [] else [.pin .clkobs (t.pinDrive .clkobs)])) ∧
      OnlyIn [0x1000, 0x1005, 0x7040, 0xF030] s t ∧ SameHbm s t ∧ SameCtxs s t ∧ SameKey s t)) ∧
    (s.val 0x1000 0x06 = 1 → s.flag 0x1000 0x01 0 = false → s.key.trans = none → s.val 0x1010 0x01 ≤ 1 →
      Reaches .holdoverExpire s (fun t => t.val 0x1000 0x06 = 2 ∧ t.val 0x1010 0x01 = 4 ∧
        (∃ x, t.key.trans = some x ∧ x.target = 2 ∧ x.prev = s.val 0x1010 0x01) ∧ SameHbm s t)) ∧
    (s.val 0x1000 0x06 = 1 → s.flag 0x1000 0x01 0 = false → s.key.trans = none →
      s.val 0x1010 0x01 = 2 ∨ s.val 0x1010 0x01 = 3 →
      Reaches .holdoverExpire s (fun t => t.val 0x1000 0x06 = 2 ∧ t.val 0x1010 0x01 = s.val 0x1010 0x01 ∧
        t.key.trans = none ∧ SameHbm s t ∧ SameCtxs s t)) ∧
    (∀ x, s.val 0x1000 0x06 = 1 → s.flag 0x1000 0x01 0 = false → s.key.trans = some x → x.prev = 3 →
      s.val 0x1010 0x01 = 4 → Reaches .holdoverExpire s (fun t => t.val 0x1000 0x06 = 2 ∧ t.val 0x1010 0x01 = 3 ∧
        t.key.trans = none ∧ t.key.starting = false ∧ t.key.waiting = none ∧
        ∀ h, s.fenced h = false → t.railsOn h = false))) ∧
  (∀ (s : State) (h : HalfId) (course factor mv : Nat) (celsius : Int), s.key.powered = true → course ≤ 0x20 →
    s.railsOn h = true → Reaches (.paceMonitorRefresh h course factor mv celsius) s (fun t =>
      t.regAt (courseUnit h course) 0x1006 0x02 = toWord factor ∧ t.regAt (courseUnit h course) 0x1006 0x03 = toWord mv ∧
      t.regAt (courseUnit h course) 0x1006 0x04 = BitVec.ofInt 32 celsius ∧ OnlyIn [0x1006, 0x1014] s t ∧
      OnlyUnit 0x1006 (courseUnit h course) s t)) ∧
  (∀ (s : State) (sub bit : Nat), s.key.powered = true →
    (s.mayBeReady sub bit = true → s.flag 0x1002 sub bit = false → Reaches (.blockReady sub bit) s (fun t =>
      t.flag 0x1002 sub bit = true ∧ OnlyIn [0x1002, 0x6003] s t ∧ OnlySubs 0x1002 [sub] s t ∧
      (∀ u, spokeOfBlock sub bit = some u → t.valAt u 0x6003 0x02 = 1 ∧ OnlyUnit 0x6003 u s t) ∧
      SameHbm s t ∧ SameCtxs s t)) ∧
    (s.mayBeReady sub bit = false ∨ s.flag 0x1002 sub bit = true → Reaches (.blockReady sub bit) s (fun t => t = s)))

/-- R84, R99, R101, R103: the clock writes. A domain moves to a ready source of its own choice (CLOCK_SOURCE_SELECT);
the enables, the spread and the CLKOBS selection take what is written (CLOCK_ENABLE_WRITE, SPREAD_WRITE,
CLKOBS_SELECT), and a block disabled is no longer ready. -/
def Obligations.ClockWritesTakeEffect : Prop :=
  ∀ (s : State) (via : Via) (v : Word),
    (admits s via 0x1000 0x04 [v] = true → s.sourceReady v.toNat = true →
      Takes (.clockSourceSelect via 0x04 v) s via 0x1000 0x04 [v] (fun t =>
        t.val 0x1000 0x04 = v.toNat ∧ OnlyIn [0x1000] s t ∧ OnlySubs 0x1000 [0x04] s t)) ∧
    (admits s via 0x1000 0x04 [v] = true → s.sourceReady v.toNat = false → s.val 0x1000 0x04 ≠ v.toNat →
      Refuses (.clockSourceSelect via 0x04 v) s via 0x1000 0x04 0x3001) ∧
    (∀ sub, sub = 0x07 ∨ sub = 0x08 → admits s via 0x1000 sub [v] = true → s.sourceReady 0 = true →
      s.sourceReady 1 = true → s.fenced .h0 = false → s.fenced .h1 = false →
      Takes (.clockSourceSelect via sub v) s via 0x1000 sub [v] (fun t =>
        t.val 0x1000 sub = v.toNat ∧ OnlyIn [0x1000] s t ∧ OnlySubs 0x1000 [sub] s t)) ∧
    (∀ sub, 1 ≤ sub → sub ≤ 3 → admits s via 0x1002 sub [v] = true → s.fenced .h0 = false → s.fenced .h1 = false →
      (∀ b, b < 16 → bitsOf v.toNat b 1 = 0 → s.mayNotStop via sub b = false) → s.anyConfidential = false →
      Takes (.clockEnableWrite via sub v) s via 0x1002 sub [v] (fun t =>
        t.val 0x1002 sub = v.toNat ∧ OnlyIn [0x1002, 0x6003] s t ∧ OnlySubs 0x1002 [sub, sub + 3] s t ∧
        ∀ b, b < 16 → bitsOf v.toNat b 1 = 0 → bitsOf (s.val 0x1002 sub) b 1 = 1 →
          t.flag 0x1002 (sub + 3) b = false)) ∧
    (∀ sub, 1 ≤ sub → sub ≤ 4 → admits s via 0x1003 sub [v] = true →
      Takes (.spreadWrite via sub v) s via 0x1003 sub [v] (fun t =>
        t.val 0x1003 sub = v.toNat ∧ OnlyIn [0x1003] s t ∧ OnlySubs 0x1003 [sub] s t)) ∧
    (admits s via 0x1004 0x01 [v] = true → Takes (.clkobsSelect via v) s via 0x1004 0x01 [v] (fun t =>
      t.val 0x1004 0x01 = v.toNat ∧ OnlyIn [0x1004] s t ∧ OnlySubs 0x1004 [0x01] s t))

/-! ### Fence and lead -/

/-- R28, R29: BRIDGE_LOSS of a running half fences it: fence state 1, counted and timed, the lead lost if it held it,
its replace reason raised, its device-cache lines gone; the memories stay. A half in its start fails with reason 9.
FENCE_DRAW_CONFIRM and FENCE_POWER_REMOVE then confirm its draw or take its power. -/
def Obligations.LossOfABridgeFencesTheHalf : Prop :=
  ∀ (s : State) (h : HalfId), s.key.powered = true →
    (s.runs h = true → s.fence h = 0 → Reaches (.bridgeLoss h) s (fun t =>
      t.fence h = 1 ∧ t.holder = (if s.holder = halfNum h then 0xFF else s.holder) ∧ t.epoch = s.epoch ∧
      t.reg 0x0041 0x05 = s.reg 0x0041 0x05 + 1 ∧ t.val64 0x0041 0x06 = s.count ∧
      t.flag 0x0080 (0x01 + halfNum h) 3 = true ∧ (∀ l ∈ t.port.cache, l.half ≠ h) ∧
      (t.half h).confirmed = false ∧ (t.half h).phase = .running ∧ (t.half h).tier1 = [] ∧
      SameHbm s t)) ∧
    ((s.half h).phase = .starting → Reaches (.bridgeLoss h) s (fun t =>
      (t.half h).phase = .failed ∧ t.fence h = 3 ∧
      ∃ p, 6 ≤ p ∧ p ≤ 10 ∧ t.reg 0xF000 0x03 = toWord (0x3001 * 65536 + p * 256 + 9 * 16 + (1 + halfNum h)))) ∧
    ((s.half h).phase ≠ .starting → ¬(s.runs h = true ∧ s.fence h = 0) → Reaches (.bridgeLoss h) s (fun t => t = s)) ∧
    (s.fence h = 1 → Reaches (.fenceDrawConfirm h) s (fun t => (t.half h).confirmed = true ∧ t.fence h = 1 ∧
      OnlyIn [0x0041, 0x1011] s t ∧ SameHbm s t ∧ SameCtxs s t)) ∧
    (s.fence h = 1 → (s.half h).confirmed = false → Reaches (.fencePowerRemove h) s (fun t =>
      t.fence h = 2 ∧ (t.half h).phase = .off ∧ (t.half h).confirmed = true ∧ t.val 0x1002 (0x04 + halfNum h) = 0 ∧
      SameHbm s t ∧ SameCtxs s t))

/-- R20, R21, R22, R23, R97: HEARTBEAT notes that a half's bridge was heard and brings its copy of the count within
two counts of the keystone's; CLAIM joins the arbitration window, opening one if none is open. A half that stands down
claims nothing. R22, R23: WINDOW_CLOSE gives the lead to the claim of the highest epoch, half 0 on a tie, if it is
above the lead's and the claiming half may hold it; the window closes. With no window nothing changes. R32, R33, R415:
REPLACE_CLEAR clears the reason bits named whose conditions are over, and REPLACE_RAISE raises the operator's bit. -/
def Obligations.LeadWindowAndReplaceRequests : Prop :=
  (∀ (s : State) (h : HalfId), s.key.powered = true →
    (s.railsOn h = true → s.fenced h = false → s.holder ≠ halfNum h ∨ s.key.hostHeld = [] →
      Reaches (.heartbeat h) s (fun t => (t.half h).lastBeat = s.count ∧
        s.count ≤ (t.half h).copy + 2 ∧ (t.half h).copy ≤ s.count + 2 ∧
        SameDict s t ∧ SameHbm s t ∧ SameCtxs s t)) ∧
    (∀ e, s.runs h = true → s.fenced h = false → (s.half h).unread = [] → Reaches (.claim h e) s (fun t =>
      (∃ w, t.key.window = some w ∧
        w.claims = (s.key.window.getD { claims := [], held := [] }).claims ++ [{ half := h, epoch := e }] ∧
        w.held = (s.key.window.getD { claims := [], held := [] }).held) ∧
      SameDict s t ∧ SameHbm s t ∧ SameCtxs s t ∧ SameHalves s t)) ∧
    (∀ e, (s.half h).unread ≠ [] → Reaches (.claim h e) s (fun t => t = s))) ∧
  (∀ (s : State), s.key.powered = true →
    (∀ l c, s.key.window = some { claims := l, held := [] } → c ∈ l → s.commandable c.half = true →
      s.epoch < c.epoch → c.epoch ≤ 0xFFFFFFFE →
      (∀ d ∈ l, d ≠ c → d.epoch < c.epoch ∨ (d.epoch = c.epoch ∧ c.half = .h0)) →
      Reaches .windowClose s (fun t => t.holder = halfNum c.half ∧ t.epoch = c.epoch ∧ t.key.window = none ∧
        SameHbm s t ∧ SameCtxs s t)) ∧
    (s.key.window = none → Reaches .windowClose s (fun t => t = s))) ∧
  (∀ (s : State) (via : Via) (v : Word),
    (admits s via 0x0080 0x06 [v] = true →
      (∀ b, b < 6 → bitsOf v.toNat b 1 = 1 → s.reasonStands (halfOf (v.toNat / 2 ^ 16)) b = false) →
      Takes (.replaceClear via v) s via 0x0080 0x06 [v] (fun t =>
        (∀ b, b < 6 → bitsOf v.toNat b 1 = 1 → t.flag 0x0080 (0x01 + v.toNat / 2 ^ 16) b = false) ∧
        t.val 0x0080 0x03 = (if t.anyReplace then 1 else 0) ∧ OnlyIn [0x0080] s t)) ∧
    (admits s via 0x0080 0x07 [v] = true → bitsOf v.toNat 5 1 = 1 → bitsOf v.toNat 0 5 = 0 →
      Takes (.replaceRaise via v) s via 0x0080 0x07 [v] (fun t =>
        t.flag 0x0080 (0x01 + v.toNat / 2 ^ 16) 5 = true ∧ OnlyIn [0x0080] s t)))

/-! ### Module writes and recovery -/

/-- R53, R69, R134, R136: CLEAR_EXTREMES takes both extremes to the present voltage; CLEAR_STICKY clears the sticky
status; TELEMETRY_PLACEMENT_WRITE moves an export to a manager that may take it; CACHE_PARTITION_WRITE sets the
partition, or, while a line is dirty, writes the lines back and is refused with 0x6001. -/
def Obligations.ModuleWritesTakeEffect : Prop :=
  ∀ (s : State) (via : Via) (v : Word),
    (admits s via 0x0100 0x06 [v] = true → Takes (.clearExtremes via v) s via 0x0100 0x06 [v] (fun t =>
      t.reg 0x0100 0x04 = s.reg 0x0100 0x01 ∧ t.reg 0x0100 0x05 = s.reg 0x0100 0x01 ∧ OnlyIn [0x0100] s t ∧
      OnlySubs 0x0100 [0x04, 0x05] s t)) ∧
    (admits s via 0x0010 0x06 [v] = true → Takes (.clearSticky via v) s via 0x0010 0x06 [v] (fun t =>
      t.val 0x0010 0x03 = 0 ∧ t.val 0x0010 0x04 = 0 ∧ OnlyIn [0x0010] s t ∧ OnlySubs 0x0010 [0x03, 0x04] s t)) ∧
    (admits s via 0x0011 0x0A [v] = true →
      (∀ h, bitsOf v.toNat (halfNum h) 1 = 1 → bitsOf (s.val 0x0011 0x0A) (halfNum h) 1 = 0 →
        s.fenced (otherHalf h) = false ∧ s.val 0x0011 (0x03 + halfNum (otherHalf h)) = 0) →
      Takes (.telemetryPlacementWrite via v) s via 0x0011 0x0A [v] (fun t =>
        t.val 0x0011 0x0A = v.toNat ∧ OnlyIn [0x0011] s t ∧ OnlySubs 0x0011 [0x0A] s t)) ∧
    (∀ h, admits s via 0x0011 0x0A [v] = true → bitsOf v.toNat (halfNum h) 1 = 1 →
      bitsOf (s.val 0x0011 0x0A) (halfNum h) 1 = 0 → s.fenced (otherHalf h) = true →
      Refuses (.telemetryPlacementWrite via v) s via 0x0011 0x0A 0x3004) ∧
    (admits s via 0xA003 0x03 [v] = true → s.port.cache.any (·.dirty) = false →
      Takes (.cachePartitionWrite via v) s via 0xA003 0x03 [v] (fun t =>
        t.val 0xA003 0x03 = v.toNat ∧ OnlyIn [0xA003] s t ∧ OnlySubs 0xA003 [0x03] s t)) ∧
    (admits s via 0xA003 0x03 [v] = true → s.port.cache.any (·.dirty) = true →
      RefusesWith (.cachePartitionWrite via v) s via 0xA003 0x03 0x6001 (fun t =>
        t.port.cache.any (·.dirty) = false ∧ t.reg 0xA003 0x03 = s.reg 0xA003 0x03 ∧ OnlyIn [0xA003] s t))

/-- R502, R503: in footing mode RECOVERY_IMAGE takes an image whose checks pass; RECOVER_COMMIT writes the images
taken and leaves footing mode, RECOVER_RETRY leaves it with the images there are; each counts a first attempt. Out of
footing mode all three are refused. -/
def Obligations.FootingModeRecovers : Prop :=
  ∀ (s : State) (via : Via) (image : List Byte) (found : Findings),
    (admitsDomain s via 0xF001 0x02 = true → s.flag 0xF000 0x02 0 = true →
      s.imageStatus (s.val 0xF001 0x01) image = 0 →
      Takes (.recoveryImage via image) s via 0xF001 0x02 [] (fun t =>
        let im := parseImage (bitsOf (s.val 0xF001 0x01) 4 1) image
        im ∈ t.key.recovery ∧ t.flag 0xF001 0x03 (componentBit im.component im.half) = true ∧
        OnlyIn [0xF001] s t ∧ OnlySubs 0xF001 [0x03] s t)) ∧
    (admits s via 0xF001 0x04 [1] = true → s.flag 0xF000 0x02 0 = true → s.key.recovery ≠ [] →
      s.ticketRoom = true → Defers (.recoverCommit via found) s via 0xF001 0x04 [1] (fun t =>
        t.flag 0xF000 0x02 0 = false ∧ t.val 0xF000 0x01 = 1 ∧ t.key.recovery = [] ∧ t.key.startedAt = s.count)) ∧
    (admits s via 0xF001 0x04 [2] = true → s.flag 0xF000 0x02 0 = true → s.ticketRoom = true →
      Defers (.recoverRetry via found) s via 0xF001 0x04 [2] (fun t =>
        t.flag 0xF000 0x02 0 = false ∧ t.val 0xF000 0x01 = 1 ∧ t.key.recovery = s.key.recovery ∧
        t.key.startedAt = s.count)) ∧
    (admits s via 0xF001 0x04 [1] = true → s.flag 0xF000 0x02 0 = false →
      Refuses (.recoverCommit via found) s via 0xF001 0x04 0x3001) ∧
    (admits s via 0xF001 0x04 [2] = true → s.flag 0xF000 0x02 0 = false →
      Refuses (.recoverRetry via found) s via 0xF001 0x04 0x3001)

/-! ### The dictionary -/

/-- R108, R109, R120: a READ that every check lets through answers the object's words, and changes no register, no
context and no byte of memory; it commits nothing but what the path has latched. R110, R111, R120, R125: DESCRIBE
answers the object's summary and the entry's word, and a domain's length; NEXT answers the next defined place, from
0x0000.00 on; an operation code that R120 does not name is answered 0x2003. None changes a register. -/
def Obligations.ReadsDescribesAndNextAnswer : Prop :=
  (∀ (s : State) (q : Req) (o : Obj) (r : Row), findObj q.index = some o → o.row q.sub = some r → r.sub = q.sub →
    readable s q o r = true → q.words = [] → q.other = none → ¬(q.index = 0x0010 ∧ q.sub = 0x08) →
    (∃ t, exec (.read q) s = .next (t.replied q opCode.read 0x0000 0 0 ((reading s o r q.index).readObj o r q.index)) ∧
      SameDict s t ∧ SameHbm s t ∧ SameCtxs s t ∧ SameTiles s t ∧ SameSec s t ∧ SameKey s t) ∧
    ((q.index, q.sub) ∈ [(0x0040, 0x01), (0x0040, 0x02), (0x0041, 0x01), (0x0100, 0x01), (0x0101, 0x01), (0x1000, 0x05),
        (0x1004, 0x01), (0x1010, 0x01), (0x1011, 0x01), (0x1011, 0x02), (0x1014, 0x01), (0x7002, 0x01),
        (0x9020, 0x01), (0xF000, 0x01)] →
      (reading s o r q.index).readObj o r q.index = [s.reg q.index q.sub])) ∧
  (∀ (s : State) (q : Req) (o : Obj), findObj q.index = some o → s.key.powered = true → s.mute q.via.path = false →
    (∀ r, o.row q.sub = some r → q.words = [] → q.other = none →
      s.entryStatus q.via o q.index q.sub .look [] = 0 → typeStatus q.ty r.ty = 0 →
      (reading s o r q.index).shedLook o q.index = none →
      exec (.describe q) s = .next ((reading s o r q.index).replied q opCode.describe 0x0000 0 0
          ([toWord o.summary, toWord (entryWord q.index q.sub)] ++
            (if r.ty = .domain then [toWord ((reading s o r q.index).domainLength q.index q.sub)] else []))) ∧
      SameDict s (reading s o r q.index)) ∧
    ((o.row q.sub).isSome = true ∨ q.sub = 0xFF ∨ (q.index = 0 ∧ q.sub = 0) → q.words = [] → q.other = none →
      s.walkStatus q.via = 0 → typeStatus q.ty (((o.row q.sub).map (·.ty)).getD .u32) = 0 →
      s.shedLook o q.index = none →
      exec (.nextObj q) s = .next (s.replied q opCode.next 0x0000 0 0 [toWord (nextPlace q.index q.sub)])) ∧
    (∀ op r, q.other = some op → o.row q.sub = some r → s.entryStatus q.via o q.index q.sub .look [] = 0 →
      exec (.read q) s = .next ((reading s o r q.index).replied q op 0x2003 0 0 [])))

/-- R120, R108, R116: a WRITE or WRITE_OBJECT of a whole value that every check lets through, to an object without a
rule of its own, stores the value where nothing is to be committed to the store, and is deferred where it is. R120:
WRITE_IF stores the new value where the object still holds the expected one, and answers what it held; where it does
not, 0x3001 is answered with what it holds and nothing changes. -/
def Obligations.PlainAndConditionalWrites : Prop :=
  (∀ (s : State) (via : Via) (i sub : Nat) (v : Word), admits s via i sub [v] = true →
    let q : Req := { via := via, index := i, sub := sub, tag := 0, ty := 0xF, words := [v] }
    ((i, sub) ∈ [(0x0013, 0x01), (0x0013, 0x02), (0x0013, 0x03), (0x1003, 0x01), (0x1004, 0x01), (0x4002, 0x01),
        (0x5011, 0x01)] →
      Takes (.write q) s via i sub [v] (fun t => t.reg i sub = v ∧ OnlyIn [i] s t ∧ OnlySubs i [sub] s t) ∧
      Takes (.writeObject q) s via i sub [v] (fun t => t.reg i sub = v ∧ OnlyIn [i] s t ∧ OnlySubs i [sub] s t)) ∧
    ((i, sub) ∈ [(0x1002, 0x07), (0x1002, 0x08), (0x1002, 0x09), (0x1014, 0x01), (0x7002, 0x01), (0x7002, 0x02)] → s.ticketRoom = true →
      Defers (.write q) s via i sub [v] (fun t => SameDict s t ∧
        ∃ k ∈ t.svc.tickets, k.num = (arrival s via i sub).nextTicketNum ∧ k.work = .store i sub 0 [v] ∧
          k.status = none) ∧
      Defers (.writeObject q) s via i sub [v] (fun t => SameDict s t ∧
        ∃ k ∈ t.svc.tickets, k.num = (arrival s via i sub).nextTicketNum ∧ k.work = .store i sub 0 [v] ∧
          k.status = none)) ∧
    ((i, sub) ∈ [(0x1002, 0x07), (0x1002, 0x08), (0x1002, 0x09), (0x1014, 0x01), (0x7002, 0x01), (0x7002, 0x02)] → s.ticketRoom = false →
      exec (.write q) s = .next ((arrival s via i sub).replied q opCode.write 0x4002 0 0 []) ∧
      exec (.writeObject q) s = .next ((arrival s via i sub).replied q opCode.write 0x4002 0 0 []))) ∧
  (∀ (s : State) (via : Via) (i sub : Nat) (old new : Word), admits s via i sub [new] = true →
    (i, sub) ∈ [(0x0013, 0x01), (0x0013, 0x02), (0x0013, 0x03), (0x1003, 0x01), (0x1004, 0x01)] →
    let q : Req := { via := via, index := i, sub := sub, tag := 0, ty := 0xF, words := [old, new] }
    (s.reg i sub = old → ∃ t, t.reg i sub = new ∧ OnlyIn [i] s t ∧ OnlySubs i [sub] s t ∧
      exec (.writeIf q) s =
        .next ((t.traceAdd (.wrote i sub [new] t.count)).replied q opCode.writeIf 0x0000 0 0 [old])) ∧
    (s.reg i sub ≠ old → ∃ t, SameDict s t ∧ SameHbm s t ∧ SameCtxs s t ∧
      exec (.writeIf q) s = .next (t.replied q opCode.writeIf 0x3001 0 0 [s.reg i sub])))

/-- R128, R129: TICKET answers a pending ticket with 0 and a complete one with its status, which collects it;
TICKET_RESULT_READ does the same through the window; a complete ticket not collected is freed by TICKET_EXPIRE. R113,
R120: READ_SEG answers the bytes of a domain from an offset on; WRITE_SEG takes the first segment of a domain write
and keeps it, and takes the next where it follows; DOMAIN_WRITE_TIMEOUT discards what has come. -/
def Obligations.TicketsAndSegments : Prop :=
  (∀ (s : State) (via : Via) (n : Nat) (k : Ticket), s.key.powered = true → n < 65536 →
    (s.mute via.path = false → s.ticketFor via.path n = some k →
      (∀ o, findObj 0x0010 = some o → s.entryStatus via o 0x0010 0x08 .read [] = 0) →
      let q : Req := { via := via, index := 0x0010, sub := 0x08, tag := 0, ty := 0xF, words := [toWord n] }
      (k.status = none → exec (.ticket q) s = .next (s.replied q opCode.ticket 0x0000 0 0 [0])) ∧
      (∀ st, k.status = some st → ∃ t, exec (.ticket q) s = .next (t.replied q opCode.ticket 0x0000 0 0
        [toWord (65536 + st)]) ∧ t.ticketHeld n = false ∧ SameDict s t ∧ SameHbm s t ∧ SameCtxs s t)) ∧
    (s.flag 0xF000 0x02 0 = false → s.ticketFor .bar2 (s.val 0x0010 0x07) = some k →
      Reaches .ticketResultRead s (fun t => t.out = s.out ++ [.completion (BitVec.ofNat 64 (toWord k.payload).toNat)] ∧
        t.ticketHeld (s.val 0x0010 0x07) = k.status.isNone ∧ SameDict s t)) ∧
    (s.flag 0xF000 0x02 0 = false → s.ticketFor .bar2 (s.val 0x0010 0x07) = none →
      Reaches .ticketResultRead s (fun t => t.out = s.out ++ [.completion 0] ∧ t.val 0x0010 0x01 = 0x2003)) ∧
    (s.svc.tickets.find? (fun x => x.num == n) = some k → k.status ≠ none →
      Reaches (.ticketExpire n) s (fun t => t.ticketHeld n = false ∧ SameDict s t ∧ SameHbm s t)) ∧
    (s.svc.tickets.find? (fun x => x.num == n) = some k → k.status = none →
      Reaches (.ticketExpire n) s (fun t => t = s))) ∧
  (∀ (s : State) (q : Req) (o : Obj) (r : Row), findObj q.index = some o → o.row q.sub = some r → r.sub = q.sub →
    r.ty = .domain → q.ty = 0xF → q.other = none →
    (∀ off n : Word, readable s q o r = true → q.words = [off, n] → snapped q.index q.sub = false → 0 < n.toNat →
      n.toNat ≤ 1000 → ∃ t, SameDict s t ∧ SameHbm s t ∧ SameCtxs s t ∧ exec (.readSeg q) s = .next
        ((t.emit (.bytes q.via.path q.tag ((((reading s o r q.index).domain q.index q.sub).drop off.toNat).take
          n.toNat))).replied q opCode.readSeg 0x0000 0 0 [])) ∧
    (∀ data : List Byte, s.key.powered = true → s.mute q.via.path = false → data.length ≤ 1000 →
      (s.unstageOther q.via.path q.index q.sub).entryStatus q.via o q.index q.sub .write [] = 0 →
      s.svc.domWrites.any (fun x => x.path != normPath q.via.path && x.index == q.index && x.sub == q.sub) = false →
      Reaches (.writeSeg q 0 true false data) s (fun t => ∃ x ∈ t.svc.domWrites, x.path = normPath q.via.path ∧
        x.index = q.index ∧ x.sub = q.sub ∧ x.bytes = data) ∧
      (∀ x, s.svc.domWrites.find? (fun x => x.path == normPath q.via.path) = some x → x.index = q.index →
        x.sub = q.sub → x.inst = s.unitOf o r → Reaches (.writeSeg q x.bytes.length false false data) s (fun t =>
          ∃ y ∈ t.svc.domWrites, y.path = normPath q.via.path ∧ y.index = q.index ∧ y.sub = q.sub ∧
            y.bytes = x.bytes ++ data))) ∧
    (s.key.powered = true → ∀ i sub inst, Reaches (.domainWriteTimeout i sub inst) s (fun t =>
      (∀ x ∈ t.svc.domWrites, ¬(x.index = i ∧ x.sub = sub ∧ x.inst = inst)) ∧
      (∀ x ∈ s.svc.domWrites, ¬(x.index = i ∧ x.sub = sub ∧ x.inst = inst) → x ∈ t.svc.domWrites) ∧
      SameDict s t ∧ SameHbm s t ∧ SameCtxs s t)))

/-- R118, R123, R136: the BAR2 window. BAR2_READ completes with the object's word and records status 0; BAR2_WRITE of
one word stores it; an access of another width or alignment is aborted; BAR2_READ_TIMEOUT of a half's object completes
with 0 and records 0x6001. -/
def Obligations.WindowAccessesAnswer : Prop :=
  ∀ (s : State) (i sub : Nat), s.key.powered = true → i < 65536 → sub < 256 →
    let offset := i * 1024 + sub * 4
    let q : Req := { via := bar2Via, index := i, sub := sub, tag := 0, ty := 0xF, words := [] }
    (∀ o r, findObj i = some o → o.row sub = some r → r.sub = sub → readable s q o r = true → i ≠ 0x0010 →
      Reaches (.bar2Read offset 4) s (fun t =>
        t.out = s.out ++ [.completion (BitVec.ofNat 64 (((reading s o r i).readObj o r i).headD 0).toNat)] ∧
        t.val 0x0010 0x01 = 0 ∧ t.val 0x0010 0x02 = i * 256 + sub ∧ OnlyIn [0x0010] s t)) ∧
    (∀ v : BitVec 64, (i, sub) ∈ [(0x0013, 0x01), (0x0013, 0x02), (0x1003, 0x01), (0x1004, 0x01)] →
      admits s bar2Via i sub [v.extractLsb' 0 32] = true → Reaches (.bar2Write offset 4 v) s (fun t =>
        t.reg i sub = v.extractLsb' 0 32 ∧ t.val 0x0010 0x01 = 0 ∧ OnlyIn [i, 0x0010, 0xF030] s t)) ∧
    (∀ o r h, findObj i = some o → o.row sub = some r → s.server o i r.single = some h →
      Reaches (.bar2ReadTimeout offset 4) s (fun t => t.out = s.out ++ [.completion 0] ∧
        t.val 0x0010 0x01 = 0x6001 ∧ t.val 0x0010 0x02 = i * 256 + sub ∧ OnlyIn [0x0010] s t)) ∧
    (∀ off w v, windowFits off w = false →
      Reaches (.bar2Read off w) s (fun t => t = s.emit .abort) ∧
      Reaches (.bar2Write off w v) s (fun t => t = s.emit .abort))

/-- R116, R128, R132: DEFERRED_WRITE_COMPLETE stores the words of a deferred write, counts the commit and ends its
ticket; with a status it ends the ticket and stores nothing. SHED_LEVEL_UPDATE takes a manager's level up at once and
down one step. -/
def Obligations.DeferredWritesComplete : Prop :=
  ∀ (s : State), s.key.powered = true →
    (∀ num status k i sub u ws, s.svc.tickets.find? (fun x => x.num == num && x.status.isNone) = some k →
      k.work = .store i sub u ws → i < 0x8000 → i ∉ [0x0010, 0x1011] → sub + ws.length ≤ 256 →
      Reaches (.deferredWriteComplete num status) s (fun t =>
        (∀ x ∈ t.svc.tickets, x.num = num → x.status ≠ none) ∧
        (status = 0 → (∀ j, j < ws.length → t.regAt u i (sub + j) = ws.getD j 0) ∧
          t.reg 0x0010 0x09 = s.reg 0x0010 0x09 + 1) ∧
        (status ≠ 0 → SameDict s t) ∧ SameHbm s t ∧ SameCtxs s t)) ∧
    (∀ h load low, s.runs h = true → (s.half h).tier1 = [] → load < 2 ^ 32 → s.val 0x0011 (0x03 + halfNum h) ≤ 3 →
      Reaches (.shedLevelUpdate h load low) s (fun t =>
        let old := s.val 0x0011 (0x03 + halfNum h)
        t.val 0x0011 (0x01 + halfNum h) = load ∧
        (old < s.levelOf load → t.val 0x0011 (0x03 + halfNum h) = s.levelOf load) ∧
        (s.levelOf load ≤ old → low = false → t.val 0x0011 (0x03 + halfNum h) = old) ∧
        (s.levelOf load ≤ old → low = true → 0 < old → load + 10 ≤ s.val 0x0011 (0x06 + old) →
          t.val 0x0011 (0x03 + halfNum h) = old - 1) ∧
        (t.val 0x0011 (0x03 + halfNum h) ≠ old → (Fn.f0, 2) ∈ t.port.vectors) ∧ OnlyIn [0x0011] s t))

/-! ### Power, budgets, heat -/

/-- R428 to R431: the power-state commands. An entry (ENTER_QUIET, ENTER_RETAIN, ENTER_KEYSTONE_ONLY) from a state
that allows it begins a transition unless work runs and no hold is asked for; ENTER_ACTIVE begins the exit, from
Keystone-only a start of the halves as well. -/
def Obligations.PowerStateCommandsBeginTransitions : Prop :=
  ∀ (s : State) (via : Via) (v : Word) (found : Findings), s.key.trans = none → s.ticketRoom = true →
    let from' := s.val 0x1010 0x01
    let begun := fun (target : Nat) (t : State) => t.val 0x1010 0x01 = 4 ∧ t.reg 0x1010 0x02 = low2 v target ∧
      ∃ x, t.key.trans = some x ∧ x.target = target ∧ x.prev = from'
    (admits s via 0x1010 0x02 [low2 v 1] = true → from' = 0 → bitsOf v.toNat 8 1 = 1 ∨ s.anyGoing = false →
      Defers (.enterQuiet via v) s via 0x1010 0x02 [low2 v 1] (begun 1)) ∧
    (admits s via 0x1010 0x02 [low2 v 2] = true → from' ≤ 1 → bitsOf v.toNat 8 1 = 1 ∨ s.anyGoing = false →
      Defers (.enterRetain via v) s via 0x1010 0x02 [low2 v 2] (begun 2)) ∧
    (admits s via 0x1010 0x02 [low2 v 3] = true → from' ≤ 1 → bitsOf v.toNat 8 1 = 1 ∨ s.anyGoing = false →
      Defers (.enterKeystoneOnly via v) s via 0x1010 0x02 [low2 v 3] (begun 3)) ∧
    (admits s via 0x1010 0x02 [low2 v 3] = true → from' = 2 → s.val 0x1000 0x06 ≠ 2 →
      bitsOf v.toNat 8 1 = 1 ∨ s.anyGoing = false →
      Defers (.enterKeystoneOnly via v) s via 0x1010 0x02 [low2 v 3] (begun 3)) ∧
    (admits s via 0x1010 0x02 [low2 v 1] = true → from' = 0 → bitsOf v.toNat 8 1 = 0 → s.anyGoing = true →
      Refuses (.enterQuiet via v) s via 0x1010 0x02 0x3001) ∧
    (admits s via 0x1010 0x02 [low2 v 0] = true → from' = 1 ∨ from' = 2 → s.val 0x1000 0x06 ≠ 2 →
      Defers (.enterActive via v found) s via 0x1010 0x02 [low2 v 0] (begun 0)) ∧
    (admits s via 0x1010 0x02 [low2 v 0] = true → from' = 3 → s.val 0x1000 0x06 ≠ 2 →
      Defers (.enterActive via v found) s via 0x1010 0x02 [low2 v 0] (fun t =>
        begun 0 t ∧ t.reg 0xF000 0x01 = s.reg 0xF000 0x01 + 1)) ∧
    (admits s via 0x1010 0x02 [low2 v 0] = true → from' = 0 →
      Takes (.enterActive via v found) s via 0x1010 0x02 [low2 v 0] (fun t => SameDict s t ∧ SameKey s t ∧ SameCtxs s t))

/-- R428, R429, R431: QUIESCENCE starts the time of an entry once nothing works; POWER_STATE_REACHED shows the state
entered, counts it and ends the transition, an exit from Keystone-only once some half has come up; in Keystone-only
nobody holds the lead and the halves it took keep nothing. R432, R433: WAKE begins the exit from Quiet, and from
Retain unless that is held for the crystal; during an entry it is counted once and waits for the entry's end. -/
def Obligations.TransitionsAndWakes : Prop :=
  (∀ (s : State) (x : Transition), s.key.powered = true → s.key.trans = some x →
    (x.quiet = false → x.target ≠ 0 → s.quiesced = true → Reaches .quiescence s (fun t =>
      t.key.trans = some { x with quiet := true, since := s.count } ∧ (∀ y ∈ t.tiles, y.calProduct = none) ∧
      SameDict s t ∧ SameHbm s t ∧ SameCtxs s t)) ∧
    (x.quiet = true → x.wakes = false → x.target = 1 → Reaches .powerStateReached s (fun t =>
      t.val 0x1010 0x01 = 1 ∧ t.reg 0x1010 0x03 = s.reg 0x1010 0x03 + 1 ∧ t.key.trans = none ∧ SameHbm s t ∧
      SameCtxs s t)) ∧
    (x.quiet = true → x.wakes = false → x.target = 2 → Reaches .powerStateReached s (fun t =>
      t.val 0x1010 0x01 = 2 ∧ t.reg 0x1010 0x04 = s.reg 0x1010 0x04 + 1 ∧ t.key.trans = none ∧ SameHbm s t ∧
      SameCtxs s t)) ∧
    (x.quiet = true → x.wakes = false → x.target = 3 → Reaches .powerStateReached s (fun t =>
      t.val 0x1010 0x01 = 3 ∧ t.reg 0x1010 0x05 = s.reg 0x1010 0x05 + 1 ∧ t.key.trans = none ∧ t.holder = 0xFF ∧
      t.epoch = s.epoch ∧ (∀ h, s.runs h = true → s.fenced h = false →
        (t.half h).phase = .off ∧ t.fence h = 3 ∧ t.hbm h = [] ∧ ∀ c ∈ t.ctxs, c.half ≠ h))) ∧
    (x.quiet = true → x.wakes = false → x.target = 0 →
      x.prev ≠ 3 ∨ s.startSettled = true ∧ (s.runs .h0 = true ∨ s.runs .h1 = true) →
      Reaches .powerStateReached s (fun t => t.val 0x1010 0x01 = 0 ∧ t.key.trans = none ∧ SameHbm s t))) ∧
  (∀ (s : State), s.key.powered = true →
    (s.key.trans = none → s.val 0x1010 0x01 = 1 ∨ (s.val 0x1010 0x01 = 2 ∧ s.val 0x1000 0x06 ≠ 2) →
      Reaches .wake s (fun t => t.val 0x1010 0x01 = 4 ∧ (∃ x, t.key.trans = some x ∧ x.target = 0) ∧
        OnlyIn [0x1010] s t ∧ OnlySubs 0x1010 [0x01] s t ∧ SameHbm s t ∧ SameCtxs s t)) ∧
    (s.key.trans = none → s.val 0x1010 0x01 = 2 → s.val 0x1000 0x06 = 2 → Reaches .wake s (fun t => t = s)) ∧
    (∀ x, s.key.trans = some x → x.target = 1 ∨ x.target = 2 → x.wakes = false → s.val 0x1000 0x06 ≠ 2 →
      Reaches .wake s (fun t => t.key.trans = some { x with wakes := true } ∧
        t.reg 0x1010 0x06 = s.reg 0x1010 0x06 + 1 ∧ OnlyIn [0x1010] s t ∧ OnlySubs 0x1010 [0x06] s t)))

/-- R435, R436, R442: BOARD_LIMIT_WRITE and BUDGET_SPLIT_WRITE are deferred; when they commit, a new limit rescales
the split and a new split ends the waiting of both halves; CORE_SETPOINT_WRITE stores the setpoint. -/
def Obligations.BudgetsCommit : Prop :=
  ∀ (s : State) (via : Via) (v : Word),
    let pending := fun (sub : Nat) (t : State) => SameDict s t ∧ ∃ k ∈ t.svc.tickets,
      k.num = (arrival s via 0x1011 sub).nextTicketNum ∧ k.work = .store 0x1011 sub 0 [v] ∧ k.status = none
    (admits s via 0x1011 0x01 [v] = true → s.ticketRoom = true → v.toNat ≤ 1400 ∨ s.val 0x0103 0x01 ≠ 0 →
      300 ≤ s.rescaled v.toNat → s.rescaled v.toNat + 300 ≤ v.toNat →
      Defers (.boardLimitWrite via v) s via 0x1011 0x01 [v] (pending 0x01)) ∧
    (admits s via 0x1011 0x01 [v] = true → s.rescaled v.toNat < 300 →
      Refuses (.boardLimitWrite via v) s via 0x1011 0x01 0x3001) ∧
    (admits s via 0x1011 0x02 [v] = true → s.ticketRoom = true →
      Defers (.budgetSplitWrite via v) s via 0x1011 0x02 [v] (pending 0x02)) ∧
    (∀ num k, s.key.powered = true → s.svc.tickets.find? (fun x => x.num == num && x.status.isNone) = some k →
      k.work = .store 0x1011 0x01 0 [v] → v.toNat ≤ 1400 ∨ s.val 0x0103 0x01 ≠ 0 → 300 ≤ s.rescaled v.toNat →
      s.rescaled v.toNat + 300 ≤ v.toNat → Reaches (.deferredWriteComplete num 0) s (fun t =>
        t.val 0x1011 0x01 = v.toNat ∧ t.val 0x1011 0x02 = s.rescaled v.toNat ∧
        t.val 0x1011 0x03 = v.toNat - s.rescaled v.toNat ∧ SameHbm s t ∧ SameCtxs s t)) ∧
    (∀ num k, s.key.powered = true → s.svc.tickets.find? (fun x => x.num == num && x.status.isNone) = some k →
      k.work = .store 0x1011 0x02 0 [v] → 300 ≤ v.toNat → v.toNat + 300 ≤ s.val 0x1011 0x01 →
      Reaches (.deferredWriteComplete num 0) s (fun t =>
        t.val 0x1011 0x02 = v.toNat ∧ t.val 0x1011 0x03 = s.val 0x1011 0x01 - v.toNat ∧
        t.half0.awaitSplit = false ∧ t.half1.awaitSplit = false ∧ SameHbm s t ∧ SameCtxs s t)) ∧
    (∀ h, admits s via (pick h 0x1012 0x1013) 0x01 [v] = true →
      Takes (.coreSetpointWrite via h v) s via (pick h 0x1012 0x1013) 0x01 [v] (fun t =>
        t.reg (pick h 0x1012 0x1013) 0x01 = v ∧ OnlyIn [pick h 0x1012 0x1013] s t ∧
        OnlySubs (pick h 0x1012 0x1013) [0x01] s t))

/-- R440: POWER_GOVERN shows the draw and moves the half's power cap by one evaluation: down while the draw is above
the grant, up by one while it has been low; POWER_FAST_CLAMP takes it to at most 32. R443, R445: DROOP_DETECT
withholds a course's issue, counts it and sets throttle reason bit 2; DROOP_RECOVER ends it. -/
def Obligations.GovernorAndDroop : Prop :=
  (∀ (s : State) (h : HalfId), s.key.powered = true → s.runs h = true →
    (∀ draw low, draw < 2 ^ 32 → Reaches (.powerGovern h draw low) s (fun t =>
      t.val 0x1011 (0x06 + halfNum h) = draw ∧
      (t.half h).cadP = governPower (s.half h).cadP draw (s.grantMw h) low ∧
      (s.grantMw h < draw → 4 < (s.half h).cadP → (t.half h).cadP < (s.half h).cadP) ∧
      (draw ≤ s.grantMw h → (s.half h).cadP ≤ 64 → (s.half h).cadP ≤ (t.half h).cadP) ∧
      OnlyIn [0x0041, 0x1011, 0x1012, 0x1013, 0x1015, 0x1016] s t ∧ SameHbm s t ∧ SameCtxs s t)) ∧
    Reaches (.powerFastClamp h) s (fun t => (t.half h).cadP = min (s.half h).cadP 32 ∧
      OnlyIn [0x1012, 0x1013, 0x1015, 0x1016] s t ∧ SameHbm s t ∧ SameCtxs s t)) ∧
  (∀ (s : State) (h : HalfId) (course : Nat), s.key.powered = true →
    (s.railsOn h = true → course ≤ 0x20 → course ∉ (s.half h).droop → Reaches (.droopDetect h course) s (fun t =>
      course ∈ (t.half h).droop ∧
      t.reg (pick h 0x1012 0x1013) 0x06 = s.reg (pick h 0x1012 0x1013) 0x06 + 1 ∧
      (s.fenced h = false → t.reg (pick h 0x7000 0x7001) 0x07 = s.reg (pick h 0x7000 0x7001) 0x07 + 1) ∧
      t.flag (pick h 0x1015 0x1016) 0x01 2 = true ∧ OnlyIn [0x1012, 0x1013, 0x1015, 0x1016, 0x7000, 0x7001] s t)) ∧
    Reaches (.droopRecover h course) s (fun t => course ∉ (t.half h).droop ∧
      (∀ k, k ≠ course → (k ∈ (t.half h).droop ↔ k ∈ (s.half h).droop)) ∧
      OnlyIn [0x1012, 0x1013, 0x1015, 0x1016] s t))

/-- R439, R444, R450: heat. THERMAL_THROTTLE lowers the thermal cap by 2, THERMAL_RECOVER raises it by 1,
THERMAL_CRAWL forces crawl and THERMAL_CRAWL_END ends it; THERMAL_TRIP takes the half's power, marks it with fence
state 3, counts and logs it. R446: ENERGY_RECONCILE divides a running half's measured energy over its contexts in
proportion to their estimates, their traffic at 30 pJ a byte of HBM and 80 pJ a byte of the pannier among them, adds
what they were not given to the half's overhead, and counts the half's and the module's energy. -/
def Obligations.HeatAndEnergy : Prop :=
  (∀ (s : State) (h : HalfId) (c : Int), s.key.powered = true →
    let shown := fun (t : State) => t.reg 0x1014 (0x02 + halfNum h) = BitVec.ofInt 32 c
    (s.railsOn h = true → (s.val 0x1014 0x01 : Int) ≤ c → Reaches (.thermalThrottle h c) s (fun t =>
      shown t ∧ (t.half h).cadT = max 4 ((s.half h).cadT - 2) ∧
      ((s.half h).cadT = 64 → t.reg 0x1014 0x05 = s.reg 0x1014 0x05 + 1) ∧
      SameHbm s t ∧ SameCtxs s t)) ∧
    (s.railsOn h = true → c < (s.val 0x1014 0x01 : Int) - 3 → Reaches (.thermalRecover h c) s (fun t =>
      shown t ∧ (t.half h).cadT = min 64 ((s.half h).cadT + 1) ∧ SameHbm s t ∧ SameCtxs s t)) ∧
    (s.railsOn h = true → 105 ≤ c → Reaches (.thermalCrawl h c) s (fun t =>
      shown t ∧ (∀ cls, t.cadence h cls = 4) ∧ SameHbm s t ∧ SameCtxs s t)) ∧
    (c < 103 → Reaches (.thermalCrawlEnd h c) s (fun t =>
      shown t ∧ (t.half h).crawlThermal = false ∧ SameHbm s t ∧ SameCtxs s t)) ∧
    (s.railsOn h = true → 108 ≤ c → Reaches (.thermalTrip h c) s (fun t =>
      shown t ∧ (t.half h).phase = .tripped ∧ t.fence h = 3 ∧ t.reg 0x1014 0x06 = s.reg 0x1014 0x06 + 1 ∧
      (∃ r, .record .f0 r ∈ t.out ∧ r.cls = clsFailure) ∧ SameHbm s t ∧
      (s.railsOn (otherHalf h) = true ∨ s.key.trans = none →
        t.holder = (if s.holder = halfNum h then 0xFF else s.holder) ∧ t.key.trans = s.key.trans ∧ SameCtxs s t) ∧
      (s.railsOn (otherHalf h) = false → t.key.trans = none)))) ∧
  (∀ (s : State) (h : HalfId) (measured estimate module : Nat) (traffic : List (Nat × Nat × Nat)),
    s.key.powered = true → s.runs h = true →
    Reaches (.energyReconcile h measured estimate module traffic) s (fun t =>
      let mine := s.ctxs.filter (fun c => c.half == h)
      let owed := fun (c : Ctx) => c.energy + trafficEnergy traffic c.n
      let total := mine.foldl (fun a c => a + owed c) estimate
      let given := mine.foldl (fun a c => a + energyShare (owed c) measured total) 0
      t.val64 0x1017 (0x01 + 2 * halfNum h) = (s.val64 0x1017 (0x01 + 2 * halfNum h) + measured) % 2 ^ 64 ∧
      t.val64 0x1017 (0x05 + 2 * halfNum h) = (s.val64 0x1017 (0x05 + 2 * halfNum h) + (measured - given)) % 2 ^ 64 ∧
      t.val64 0x1017 0x09 = (s.val64 0x1017 0x09 + module) % 2 ^ 64 ∧
      (∀ c, mine = [c] → c.n < 3072 → t.val64 (cidx c.n) 0x16 =
        (s.val64 (cidx c.n) 0x16 + energyShare (owed c) measured (estimate + owed c)) % 2 ^ 64 ∧
        ∃ x, t.ctx c.n = some x ∧ x.energy = 0) ∧
      (∀ i, i < 65536 → i < 0x8000 ∨ 0x8BFF < i → i ≠ 0x1017 → SameObject i s t) ∧ SameHbm s t))

/-! ### Host port -/

/-- R80, R121, R160: the MCTP endpoint. ENTDAA gives it its address, SET_ENDPOINT_ID its endpoint id; the queries
answer the id, the versions, the message types and the vendor; a gated or unaddressed target answers nothing.
VECTOR_SIGNAL sends a waiting vector that its table entry does not mask. R77 to R80: the status shadow. SHADOW_READ
answers its word, SHADOW_WRITE is discarded and counted, SHADOW_UPDATE brings a field up to its source and moves the
sequence count on by 2. -/
def Obligations.MctpAndStatusShadow : Prop :=
  (∀ (s : State), s.key.powered = true →
    let answers := fun (c : Instr) (kind : Nat) (values : List Nat) => Reaches c s (fun t =>
      t.out = s.out ++ [.mctp kind values] ∧ SameDict s t ∧ SameHbm s t ∧ SameCtxs s t)
    (s.i3cReady = true → ∀ a, Reaches (.entdaa a) s (fun t => t.svc.i3cAddr = a ∧ SameDict s t ∧ SameHbm s t)) ∧
    (s.i3cReady = true → s.svc.i3cAddr ≠ 0 →
      (∀ e, answers (.setEndpointId e) 0x01 [e] ∧ Reaches (.setEndpointId e) s (fun t => t.svc.eid = e)) ∧
      answers .getEndpointId 0x02 [s.svc.eid] ∧
      answers .getMctpVersionSupport 0x04 [Config.mctpVersion] ∧
      answers .getMessageTypeSupport 0x05 [0x00, 0x05, 0x7E] ∧
      answers .getVendorDefinedMessageSupport 0x06 [s.val 0xA000 0x01]) ∧
    (s.i3cReady = false → ∀ c ∈ [Instr.getEndpointId, .getMctpVersionSupport, .getMessageTypeSupport,
      .getVendorDefinedMessageSupport], Reaches c s (fun t => t = s)) ∧
    (∀ f v, (f, v) ∈ s.port.vectors → (s.fn f).masked v = true → Reaches (.vectorSignal f v) s (fun t => t = s)) ∧
    (∀ f v, (f, v) ∈ s.port.vectors → (s.fn f).masked v = false → Reaches (.vectorSignal f v) s (fun t =>
      t.out = s.out ++ [.msix f v] ∧ (f, v) ∉ t.port.vectors ∧
      (∀ w ∈ s.port.vectors, w ≠ (f, v) → w ∈ t.port.vectors) ∧ SameDict s t ∧ SameHbm s t))) ∧
  (∀ (s : State), s.key.powered = true →
    (∀ offset, offset % 4 = 0 → offset + 4 ≤ 0x1000 → Reaches (.shadowRead offset 4) s (fun t =>
      t = s.emit (.completion (BitVec.ofNat 64 (s.shadowWord offset))))) ∧
    (∀ offset, offset % 8 = 0 → offset + 8 ≤ 0x1000 → Reaches (.shadowRead offset 8) s (fun t =>
      t = s.emit (.completion (BitVec.ofNat 64 (s.shadowWord offset + 2 ^ 32 * s.shadowWord (offset + 4)))))) ∧
    (∀ offset width v, Reaches (.shadowWrite offset width v) s (fun t =>
      t.reg 0xA004 0x06 = s.reg 0xA004 0x06 + 1 ∧ t.port.shadow = s.port.shadow ∧ OnlyIn [0xA004] s t ∧
      OnlySubs 0xA004 [0x06] s t ∧ SameHbm s t)) ∧
    (∀ n, n ≤ 9 → s.shadowWord (0x010 + 4 * n) ≠ (toWord (s.shadowSource n)).toNat →
      Reaches (.shadowUpdate (0x010 + 4 * n)) s (fun t =>
        t.shadowWord (0x010 + 4 * n) = (toWord (s.shadowSource n)).toNat ∧ t.port.shadowSeq = s.port.shadowSeq + 2 ∧
        (s.flag 0xA001 0x06 n = true → (Fn.f0, 0) ∈ t.port.vectors) ∧ SameDict s t ∧ SameHbm s t)))

/-- R64, R67: CXL_MEM_WRITE stores its bytes at their offsets and no other byte; a write that the half does not serve
or a confidential context bars stores nothing and is counted. R64 to R67, R432: CXL_MEM_READ answers the 64 bytes of
the line and tracks it for the host; where it may not, the read completes with poison and is counted; a full directory
first takes its oldest line back; in Retain the read wakes the module. -/
def Obligations.DeviceMemoryAccesses : Prop :=
  (∀ (s : State) (h : HalfId) (offset : Nat) (data : List Byte) (session : Option Nat) (ide : Bool),
    s.key.powered = true → s.key.trans = none → s.val 0x1010 0x01 ≠ 2 →
    let n := min data.length (64 - offset % 64)
    (s.servesMem h = true → offset < hbmSize → s.barredMem h offset session ide = false →
      Reaches (.cxlMemWrite h offset data session ide) s (fun t =>
        (∀ j, j < n → t.hbmByte h (offset + j) = data.getD j 0) ∧
        (∀ k a, k ≠ h ∨ a < offset ∨ offset + n ≤ a → t.hbmByte k a = s.hbmByte k a) ∧
        t.out = s.out ++ [.memDone] ∧ SameDict s t ∧ SameCtxs s t)) ∧
    (s.servesMem h = false ∨ hbmSize ≤ offset → Reaches (.cxlMemWrite h offset data session ide) s (fun t =>
      SameHbm s t ∧ t.reg 0xA004 0x05 = s.reg 0xA004 0x05 + 1 ∧ t.out = s.out ++ [.memDone] ∧ OnlyIn [0xA004] s t)) ∧
    (s.servesMem h = true → offset < hbmSize → s.barredMem h offset session ide = true →
      Reaches (.cxlMemWrite h offset data session ide) s (fun t =>
        SameHbm s t ∧ t.reg 0xA004 0x04 = s.reg 0xA004 0x04 + 1 ∧ t.out = s.out ++ [.memDone] ∧
        OnlyIn [0xA004] s t))) ∧
  (∀ (s : State) (h : HalfId) (offset : Nat) (session : Option Nat) (ide : Bool),
    s.key.powered = true → s.key.trans = none →
    (s.val 0x1010 0x01 ≠ 2 → s.servesMem h = true → offset < hbmSize →
      s.barredMem h (offset / 64 * 64) session ide = false → (s.dir h).length < dirSize →
      s.port.poisoned.contains (h, offset / 64) = false →
      Reaches (.cxlMemRead h offset session ide) s (fun t =>
        t.out = s.out ++ [.memData (s.hbmRead h (offset / 64 * 64) 64) false] ∧ offset / 64 ∈ t.dir h ∧
        SameDict s t ∧ SameHbm s t ∧ SameCtxs s t)) ∧
    (s.val 0x1010 0x01 ≠ 2 → s.servesMem h = false ∨ hbmSize ≤ offset / 64 * 64 →
      Reaches (.cxlMemRead h offset session ide) s (fun t =>
        t.out = s.out ++ [.memData [] true] ∧ t.reg 0xA004 (0x01 + halfNum h) = s.reg 0xA004 (0x01 + halfNum h) + 1 ∧
        SameHbm s t ∧ SameCtxs s t)) ∧
    (s.val 0x1010 0x01 ≠ 2 → s.servesMem h = true → offset < hbmSize →
      s.barredMem h (offset / 64 * 64) session ide = true → Reaches (.cxlMemRead h offset session ide) s (fun t =>
        t.out = s.out ++ [.memData [] true] ∧ t.reg 0xA004 (0x01 + halfNum h) = s.reg 0xA004 (0x01 + halfNum h) + 1 ∧
        t.reg 0xA004 0x04 = s.reg 0xA004 0x04 + 1 ∧ SameHbm s t ∧ SameCtxs s t)) ∧
    (∀ v r, s.val 0x1010 0x01 ≠ 2 → s.servesMem h = true → offset < hbmSize →
      s.barredMem h (offset / 64 * 64) session ide = false → s.dir h = v :: r → dirSize ≤ (s.dir h).length →
      offset / 64 ∉ s.dir h → Reaches (.cxlMemRead h offset session ide) s (fun t =>
        t.out = s.out ++ [.bisnp h v] ∧ (∃ x ∈ t.port.snoops, x.half = h ∧ x.line = v ∧
          x.reader = some (offset / 64, session, ide)) ∧ SameDict s t ∧ SameHbm s t ∧ SameCtxs s t)) ∧
    (s.val 0x1010 0x01 = 2 → s.val 0x1000 0x06 ≠ 2 → Reaches (.cxlMemRead h offset session ide) s (fun t =>
      t.val 0x1010 0x01 = 0 ∧ SameHbm s t)))

/-- R66 to R70: the host's answer to a snoop (BIRSP) brings the line it held changed, ends the snoop and lets what
waited go on; without one the line is host-owned for the step (BISNP_TIMEOUT), then the waiting context faults
(BISNP_FAULT). HOST_SNOOP is answered from the device cache, whose line stays clean or goes. -/
def Obligations.SnoopsAreAnswered : Prop :=
  ∀ (s : State) (h : HalfId) (line : Nat), s.key.powered = true →
    (∀ data, s.port.snoops.any (fun x => x.half == h && x.line == line) = true →
      (∀ x ∈ s.port.snoops, x.half = h → x.line = line → x.reader = none) → line * 64 + 64 ≤ hbmSize →
      Reaches (.birsp h line data) s (fun t =>
        (∀ y ∈ t.port.snoops, ¬(y.half = h ∧ y.line = line)) ∧ line ∉ t.dir h ∧ SameDict s t ∧
        (∀ l, data = some l → ∀ j, j < min l.length 64 → t.hbmByte h (line * 64 + j) = l.getD j 0) ∧
        (data = none → SameHbm s t))) ∧
    (∀ x l session ide, s.port.snoops.filter (fun x => x.half == h && x.line == line) = [x] → x.ctx = none →
      x.reader = some (l, session, ide) → s.servesMem h = true → l * 64 < hbmSize → l ≠ line →
      s.barredMem h (l * 64) session ide = false → s.port.poisoned.contains (h, l) = false →
      (s.dir h).length ≤ dirSize → line ∈ s.dir h → Reaches (.birsp h line none) s (fun t =>
        t.out = s.out ++ [.memData (s.hbmRead h (l * 64) 64) false] ∧ l ∈ t.dir h ∧ line ∉ t.dir h ∧ SameDict s t ∧
        SameHbm s t ∧ SameCtxs s t)) ∧
    (s.port.snoops.any (fun x => x.half == h && x.line == line && !x.hostOwned) = true →
      Reaches (.bisnpTimeout h line) s (fun t =>
        (∀ y ∈ t.port.snoops, y.half = h → y.line = line → y.hostOwned = true) ∧
        t.reg 0xA004 0x03 = s.reg 0xA004 0x03 + 1 ∧ OnlyIn [0xA004] s t ∧ SameHbm s t ∧ SameCtxs s t)) ∧
    (∀ x n c, x ∈ s.port.snoops → x.half = h → x.line = line → x.hostOwned = true →
      x.ctx = some n → s.ctx n = some c → c.releasing = false → Reaches (.bisnpFault h line) s (fun t =>
        t.ctxState n = stFault ∧ t.flag (cidx n) 0x02 rBisnp = true ∧
        (∀ y ∈ t.port.snoops, ¬(y.half = h ∧ y.line = line ∧ y.hostOwned = true ∧ y.ctx.isSome = true)) ∧
        SameHbm s t)) ∧
    (∀ addr kind, s.port.cache.filter (fun l => l.addr == lineStart addr) = [] →
      Reaches (.hostSnoop addr kind) s (fun t => t = s.emit (.snoopAnswer none))) ∧
    (∀ addr l m, s.port.cache.filter (fun l => l.addr == lineStart addr) = l :: m →
      let data := (((l :: m).find? (·.dirty)).getD l).data
      Reaches (.hostSnoop addr .data) s (fun t => t.out = s.out ++ [.snoopAnswer (some data)] ∧
        (∀ y ∈ t.port.cache, y.addr = lineStart addr → y.dirty = false) ∧
        (∀ y ∈ l :: m, { y with dirty := false } ∈ t.port.cache) ∧ SameDict s t ∧ SameHbm s t) ∧
      Reaches (.hostSnoop addr .invalidate) s (fun t => t.out = s.out ++ [.snoopAnswer (some data)] ∧
        (∀ y ∈ t.port.cache, y.addr ≠ lineStart addr) ∧
        (∀ k, s.producerLine k (lineStart addr) = true → ∃ r ∈ t.d2h k, r.kind = .rdShared ∧ r.addr = lineStart addr) ∧
        SameDict s t ∧ SameHbm s t))

/-- R60, R61, R63, R64, R73, R496: HDM_DECODER_COMMIT commits a decoder that fits and shows an error for one that does
not; CONFIGURATION_REQUEST reads and writes a function's registers, is aborted by a fenced half or a lock, and asks
for a retry while the half starts; a capability field and an MSI-X entry read as they are. -/
def Obligations.DecodersAndConfiguration : Prop :=
  ∀ (s : State) (h : HalfId), s.key.powered = true →
    (∀ base ways, s.fenced h = false → (s.half h).memActive = true → (s.fn (halfFn h)).tspLocked = false →
      (s.val 0xA001 0x03 ≠ 0 → base % 2 ^ 28 = 0 → ways = 1 → Reaches (.hdmDecoderCommit h base ways) s (fun t =>
        (t.fn (halfFn h)).decCommitted = true ∧ (t.fn (halfFn h)).decBase = base ∧
        (t.fn (halfFn h)).decError = false ∧ SameDict s t ∧ SameHbm s t)) ∧
      (ways ≠ 1 ∨ base % 2 ^ 28 ≠ 0 → Reaches (.hdmDecoderCommit h base ways) s (fun t =>
        (t.fn (halfFn h)).decError = true ∧ (t.fn (halfFn h)).decCommitted = (s.fn (halfFn h)).decCommitted ∧
        SameDict s t ∧ SameHbm s t))) ∧
    (∀ base ways, s.fenced h = true → Reaches (.hdmDecoderCommit h base ways) s (fun t => t = s.emit .abort)) ∧
    (∀ r, Reaches (.configurationRequest .f0 r .read) s (fun t => t = s.emit (.cfgValue (s.cfgRead .f0 r)))) ∧
    (∀ r c, Reaches (.configurationRequest .f0 r (.capability c)) s
      (fun t => t = s.emit (.cfgValue (toWord (s.capability .f0 c))))) ∧
    (s.flag 0xF000 0x02 0 = false → s.fenced h = false → (s.half h).phase ≠ .starting →
      (∀ r, Reaches (.configurationRequest (halfFn h) r .read) s
        (fun t => t = s.emit (.cfgValue (s.cfgRead (halfFn h) r)))) ∧
      (∀ r v, Reaches (.configurationRequest (halfFn h) r (.writeOther v)) s (fun t =>
        lookup (t.fn (halfFn h)).cfg r = some v ∧ SameDict s t ∧ SameHbm s t)) ∧
      (∀ r v, (s.fn (halfFn h)).tspLocked = true → ∀ k ∈ [CfgKind.writeBar v, .writeDecoder v, .writeMsix v],
        Reaches (.configurationRequest (halfFn h) r k) s (fun t => t = s.emit .abort)) ∧
      (∀ r bar offset v k, msixWord (halfFn h) bar offset = some k → offset % 4 = 0 →
        offset + 4 ≤ barSize (halfFn h) bar →
        ((s.fn (halfFn h)).tspLocked = false → Reaches (.configurationRequest (halfFn h) r (.barWrite bar offset v)) s
          (fun t => (t.fn (halfFn h)).msixWord k = v ∧ SameDict s t)) ∧
        ((s.fn (halfFn h)).tspLocked = true → Reaches (.configurationRequest (halfFn h) r (.barWrite bar offset v)) s
          (fun t => t = s.emit .abort)) ∧
        Reaches (.configurationRequest (halfFn h) r (.barRead bar offset)) s
          (fun t => t = s.emit (.completion (BitVec.ofNat 64 ((s.fn (halfFn h)).msixWord k).toNat)))) ∧
      (∀ r, Reaches (.configurationRequest (halfFn h) r (.powerState true)) s (fun t =>
        (t.fn (halfFn h)).d3hot = true ∧ SameDict s t))) ∧
    (s.flag 0xF000 0x02 0 = false → s.fenced h = true → ∀ r k,
      Reaches (.configurationRequest (halfFn h) r k) s (fun t => t = s.emit .abort)) ∧
    (s.flag 0xF000 0x02 0 = false → s.fenced h = false → (s.half h).phase = .starting → ∀ r k,
      Reaches (.configurationRequest (halfFn h) r k) s (fun t => t = s.emit .retryStatus))

/-- R71 to R73, R468: IDE and TSP. IDE_KEY_PROGRAM takes a stream's keys in a secured session over DOE and refuses
them elsewhere; IDE_KEY_REFRESH puts them to use; IDE_INTEGRITY_FAILURE makes its stream insecure, counts and logs it
and holds the confidential contexts; TSP_ERROR holds the contexts bound to the half's function; TSP_REQUEST binds a
session to one function. That a stream's keys serve that stream alone is the model's choice (assumption 61). -/
def Obligations.IdeAndTspEvents : Prop :=
  ∀ (s : State) (via : Via) (stream : IdeStream), s.key.powered = true →
    (via.path = .doe → s.secured via = true → Reaches (.ideKeyProgram via stream) s (fun t =>
      stream ∈ t.port.idePending ∧ (∀ x ∈ s.port.idePending, x ∈ t.port.idePending) ∧ SameDict s t ∧ SameHbm s t)) ∧
    (via.path ≠ .doe ∨ s.secured via = false → Reaches (.ideKeyProgram via stream) s (fun t =>
      t = s.answer via.path 0 0xA002 0x01 0 0x5001)) ∧
    (s.port.idePending ≠ [] → Reaches .ideKeyRefresh s (fun t =>
      t.port.idePending = [] ∧ (∀ x ∈ s.port.idePending, x ∈ t.port.ideKeys ∧ x ∉ t.port.ideFailed) ∧
      t.val 0xA002 0x01 = (if .io ∈ t.port.ideKeys then 1 else 0) + (if .cacheMem ∈ t.port.ideKeys then 2 else 0) +
        (if t.port.ideFailed = [] then 0 else 4) ∧ OnlyIn [0xA002] s t)) ∧
    (stream ∈ s.port.ideKeys → Reaches (.ideIntegrityFailure stream) s (fun t =>
      stream ∉ t.port.ideKeys ∧ stream ∈ t.port.ideFailed ∧ t.flag 0xA002 0x01 2 = true ∧
      t.flag 0xA002 0x01 (match stream with | .io => 0 | .cacheMem => 1) = false ∧
      t.reg 0xA002 0x03 = s.reg 0xA002 0x03 + 1 ∧
      (∃ r, .record .f0 r ∈ t.out ∧ r.cls = clsFailure) ∧ SameHbm s t ∧
      ∀ c ∈ s.ctxs, s.ctx c.n = some c → c.confidential = true → c.releasing = false → c.state ≠ stFault →
        t.flag (cidx c.n) 0x02 rIde = true)) ∧
    (∀ h, Reaches (.tspError h) s (fun t => SameHbm s t ∧ ∀ c ∈ s.ctxs, s.ctx c.n = some c → c.half = h →
      c.session.isSome = true → c.releasing = false → c.state ≠ stFault → t.flag (cidx c.n) 0x02 rTsp = true)) ∧
    (∀ id x fn lock, s.session id = some x → x.path = .doe → fn ≠ .f0 → x.tspFn = none ∨ x.tspFn = some fn →
      Reaches (.tspRequest id fn lock) s (fun t =>
        (∃ y, t.session id = some y ∧ y.tspFn = some fn) ∧ t.out = s.out ++ [.spdm ansTsp id []] ∧
        (∀ b, lock = some b → (t.fn fn).tspLocked = b) ∧ SameDict s t ∧ SameHbm s t)) ∧
    (∀ id x fn g lock, s.session id = some x → x.tspFn = some g → g ≠ fn → Reaches (.tspRequest id fn lock) s
      (fun t => t = s.emit (.spdmError spdmInvalid)))

/-- R74 to R76, R59: the resets of the port outside Retain. HOST_RESET returns every function to its cold state,
writes the device cache back, counts itself and trains the link anew, and waits for a commit of the keystone's
firmware if PERST# meets one; CXL_RESET uncommits the decoders, with memory clear zeroes the halves that serve;
FUNCTION_LEVEL_RESET returns one function, keeping a half's decoder. That the host reset clears bit 2 of 0xA002.01 is
the model's choice (assumption 37). -/
def Obligations.PortResets : Prop :=
  ∀ (s : State), s.key.powered = true →
    (∀ kind link, kind ≠ .perst ∨ (s.pendingOn 0x9010 0x04 0).isNone = true → s.key.trans = none →
      s.val 0x1010 0x01 ≠ 2 → Reaches (.hostReset kind link) s (fun t =>
        (∀ f, t.fn f = FnState.cold) ∧ t.port.cache = [] ∧ t.port.ideKeys = [] ∧ t.val 0xA002 0x01 = 0 ∧
        t.key.staged = none ∧ t.sec.statement = [] ∧ t.reg 0xA001 0x05 = s.reg 0xA001 0x05 + 1 ∧
        (linkSupported link = true → t.val 0xA001 0x01 = link.width ∧ t.val 0xA001 0x02 = link.rate ∧
          t.val 0xA001 0x03 = link.flit ∧ t.val 0xA001 0x04 = link.lanes.toNat) ∧
        (linkSupported link = false → t.val 0xA001 0x01 = 0) ∧ SameHbm s t)) ∧
    (∀ link, (s.pendingOn 0x9010 0x04 0).isSome = true → Reaches (.hostReset .perst link) s (fun t =>
      t.key.resetHeld = some link ∧ t.val 0xA001 0x01 = 0 ∧ OnlyIn [0xA001] s t ∧ OnlySubs 0xA001 [0x01] s t ∧
      SameHbm s t ∧ SameCtxs s t)) ∧
    (∀ clear, s.key.trans = none → s.val 0x1010 0x01 ≠ 2 → Reaches (.cxlReset clear) s (fun t =>
      t.port.f1.decCommitted = false ∧ t.port.f2.decCommitted = false ∧ t.port.f0.tspLocked = false ∧
      t.port.cache = [] ∧ t.port.resetError = false ∧
      (∀ h, clear = true → s.runs h = true → s.fenced h = false → t.hbm h = []) ∧
      (clear = false → SameHbm s t))) ∧
    (Reaches (.functionLevelReset .f0 false) s (fun t =>
      t.port.f0 = { FnState.cold with tspLocked := s.port.f0.tspLocked } ∧
      (∀ v ∈ t.port.vectors, v.1 ≠ .f0) ∧ OnlyIn [0x0010] s t ∧ SameHbm s t ∧ SameCtxs s t)) ∧
    (∀ h, s.fenced h = false → s.key.trans = none → s.val 0x1010 0x01 ≠ 2 →
      Reaches (.functionLevelReset (halfFn h) false) s (fun t =>
        t.fn (halfFn h) = { FnState.cold with decCommitted := (s.fn (halfFn h)).decCommitted,
                                              decBase := (s.fn (halfFn h)).decBase } ∧
        (∀ l ∈ t.port.cache, l.half = h → l.dirty = false) ∧ SameHbm s t)) ∧
    (∀ h, s.fenced h = true → Reaches (.functionLevelReset (halfFn h) false) s (fun t =>
      t.out = s.out ++ [.abort] ∧ SameDict s t ∧ SameHbm s t ∧ SameCtxs s t))

/-! ### Contexts and work -/

/-- R139 to R141, R468: OPEN of a FREE context in a half that runs; a confidential one needs the half function's
locked TSP session and no debug port, and is bound to that session. No other context changes. -/
def Obligations.OpenMakesAContext : Prop :=
  ∀ (s : State) (via : Via) (n : Nat) (v : Word), n ≤ 3071 → s.ctx n = none → v.toNat < 1024 → bitsOf v.toNat 4 4 = 0 →
    admits s via (0x8000 + n) 0x01 [low4 v stOpen] = true →
    let h := halfOf (bitsOf v.toNat 8 1)
    let conf := bitsOf v.toNat 9 1 == 1
    (conf = false ∨ (s.tspSession via h = true ∧ bitsOf (s.val 0x1002 0x03) 4 5 = 0) → s.fenced h = false →
      s.runs h = true → s.retained = false → s.sec.entropyOk = true →
      Takes (.ctxOpen via n v) s via (0x8000 + n) 0x01 [low4 v stOpen] (fun t =>
        (∃ c, t.ctx n = some c ∧ c.state = stOpen ∧ c.half = h ∧ c.confidential = conf ∧ c.tiles = [] ∧
          c.session = (if conf then via.session else none)) ∧
        t.val (0x8000 + n) 0x05 = (if conf then 1 else 0) ∧ (∀ m, m ≠ n → t.ctx m = s.ctx m) ∧
        OnlyIn [0x8000 + n] s t ∧ SameHbm s t)) ∧
    (conf = true → s.tspSession via h = false →
      Refuses (.ctxOpen via n v) s via (0x8000 + n) 0x01 0x5001) ∧
    (conf = false → s.fenced h = true → Refuses (.ctxOpen via n v) s via (0x8000 + n) 0x01 0x3004)

/-- R141, R151, R153, R287, R413: LOAD of an OPEN context begins its placement, which PLACEMENT_COMPLETE ends: LOADED
where its checks passed, OPEN and the failure's status where they did not. In probation a context that may not use
suspect units is refused. -/
def Obligations.LoadPlacesAProgram : Prop :=
  ∀ (s : State) (n : Nat) (c : Ctx), n ≤ 3071 → s.ctx n = some c →
    (∀ via decls, c.state = stOpen → c.releasing = false → s.ticketRoom = true →
      admits s via (0x8000 + n) 0x01 [s.stateWord n stLoaded] = true →
      (s.probationBars n = false → s.companionStatus c = 0 →
        Defers (.ctxLoad via n decls) s via (0x8000 + n) 0x01 [s.stateWord n stLoaded] (fun t =>
          (∃ d, t.ctx n = some d ∧ d.state = stOpen ∧ d.placing = true ∧ d.decls = decls ∧ d.half = c.half) ∧
          SameHbm s t)) ∧
      (s.probationBars n = true → RefusesWith (.ctxLoad via n decls) s via (0x8000 + n) 0x01 0x3001 (fun t =>
        t.reg 0x7021 0x04 = s.reg 0x7021 0x04 + 1 ∧ SameCtxs s t ∧ OnlyIn [0x7021] s t))) ∧
    (∀ seen, s.key.powered = true → c.placing = true → c.placed = true → c.placeStatus ≠ 0 → Reaches (.placementComplete n seen) s
      (fun t => (∃ d, t.ctx n = some d ∧ d.state = c.state ∧ d.placing = false) ∧
        (∀ k, s.pendingOn (cidx n) 0x01 0 = some k → ∃ x ∈ t.svc.tickets, x.num = k.num ∧
          x.status = some c.placeStatus) ∧ SameDict s t ∧ SameHbm s t)) ∧
    (∀ seen, s.key.powered = true → c.placing = true → c.placed = true → c.placeStatus = 0 → Reaches (.placementComplete n seen) s
      (fun t => (∃ d, t.ctx n = some d ∧ d.state = stLoaded ∧ d.placing = false) ∧
        t.flag (cidx n) 0x1F evLoaded = true))

/-- R141, R146, R147, R157: RUN clears h_host; a stream without a batch waits, a step in progress resumes, any other
context begins its next step. A context with a device reason stays held. R141, R142, R146: HOLD and DONE. A running
context with nothing in flight holds at once, one with strands in flight or sealing holds when they are over; a loaded
or held context is done at once, a running one when it may. -/
def Obligations.RunHoldAndDone : Prop :=
  (∀ (s : State) (via : Via) (n : Nat) (c : Ctx), n ≤ 3071 → s.ctx n = some c →
    [stLoaded, stHold, stDone].contains c.state = true → c.releasing = false → s.probationBars n = false →
    admits s via (0x8000 + n) 0x01 [s.stateWord n stRun] = true → s.key.trans = none → s.val 0x1010 0x01 = 0 →
    (c.state = stDone ∧ s.val64 (cidx n) 0x14 = 0 ∨ c.state ≠ stDone ∧ s.deviceReasons n = false → s.copyDue c = false →
      let takes := fun (P : State → Prop) =>
        Takes (.ctxRun via n) s via (0x8000 + n) 0x01 [s.stateWord n stRun] (fun t =>
          t.ctxState n = stRun ∧ t.reg (cidx n) 0x02 = toWord (putBit (s.val (cidx n) 0x02) rHost false) ∧
          SameHbm s t ∧ P t)
      (c.phase = 0 → s.streaming n = false → takes (fun _ => True)) ∧
      (c.phase = 0 → s.streaming n = true → s.batchReady c = true → takes (fun t => t.val (cidx n) 0x4E = 2)) ∧
      (c.phase = 0 → s.streaming n = true → s.batchReady c = false → c.ended = false →
        takes (fun t => t.val (cidx n) 0x4E = 1)) ∧
      (c.phase ≠ 0 → c.todo ≠ [] ∨ c.slots ≠ [] → takes (fun _ => True))) ∧
    (c.state ≠ stDone → s.deviceReasons n = true →
      Refuses (.ctxRun via n) s via (0x8000 + n) 0x01 0x3001)) ∧
  (∀ (s : State) (via : Via) (n : Nat) (c : Ctx), n ≤ 3071 → s.ctx n = some c → c.releasing = false →
    s.ticketRoom = true →
    let hold := fun (P : State → Prop) => admits s via (0x8000 + n) 0x01 [s.stateWord n stHold] = true →
      Defers (.ctxHold via n) s via (0x8000 + n) 0x01 [s.stateWord n stHold] (fun t =>
        t.flag (cidx n) 0x02 rHost = true ∧ SameHbm s t ∧ P t)
    (c.state = stRun → c.inFlight = false → hold (fun t => t.ctxState n = stHold ∧ t.flag (cidx n) 0x1F evHold = true)) ∧
    (c.state = stSealing ∨ (c.state = stRun ∧ c.inFlight = true) → hold (fun t =>
      ∃ d, t.ctx n = some d ∧ d.state = c.state ∧ d.stopAsked = true ∧ d.wantHold = true)) ∧
    (c.state = stLoaded ∨ c.state = stHold → admits s via (0x8000 + n) 0x01 [s.stateWord n stDone] = true →
      Takes (.ctxDone via n) s via (0x8000 + n) 0x01 [s.stateWord n stDone] (fun t =>
        t.ctxState n = stDone ∧ t.flag (cidx n) 0x1F evDone = true ∧ SameHbm s t)) ∧
    (c.state = stRun ∨ c.state = stSealing → admits s via (0x8000 + n) 0x01 [s.stateWord n stDone] = true →
      Defers (.ctxDone via n) s via (0x8000 + n) 0x01 [s.stateWord n stDone] (fun t =>
        (∃ d, t.ctx n = some d ∧ d.state = c.state ∧ d.wantDone = true) ∧ SameDict s t ∧ SameHbm s t)))

/-- R144, R145, R508: FREE and CONTEXT_RESET begin a release; when the strands in flight are over, RELEASE_COMPLETE
leaves the context FREE, its object at the defaults and the bytes of its claims zero, and no other byte changed. -/
def Obligations.ReleaseLeavesNothing : Prop :=
  ∀ (s : State) (n : Nat) (c : Ctx), n ≤ 3071 → s.ctx n = some c →
    (∀ via, [stOpen, stLoaded, stHold, stDone, stFault].contains c.state = true → c.releasing = false →
      s.ticketRoom = true → (s.companions n).any (·.going) = false →
      admits s via (0x8000 + n) 0x01 [s.stateWord n stFree] = true →
      Defers (.ctxFree via n) s via (0x8000 + n) 0x01 [s.stateWord n stFree] (fun t =>
        (∃ d, t.ctx n = some d ∧ d.releasing = true ∧ d.resetting = c.resetting) ∧ SameHbm s t)) ∧
    (∀ via, s.ticketRoom = true → admits s via (0x8000 + n) 0x2F [1] = true →
      Defers (.contextReset via n 1) s via (0x8000 + n) 0x2F [1] (fun t =>
        (∃ d, t.ctx n = some d ∧ d.releasing = true ∧ d.resetting = true) ∧ SameHbm s t)) ∧
    (s.key.powered = true → c.releasing = true → c.inFlight = false → ∀ residual, Reaches (.releaseComplete n residual) s (fun t =>
      t.ctx n = none ∧
      (∀ sub, sub < 256 → persistOf (dkey 0 (cidx n) sub) ≠ .p2 → t.reg (cidx n) sub = dictDefault (dkey 0 (cidx n) sub)) ∧
      (∀ a, s.inClaims n a = true → t.hbmByte c.half a = 0) ∧
      (∀ h a, h ≠ c.half ∨ s.inClaims n a = false → t.hbmByte h a = s.hbmByte h a))) ∧
    (s.key.powered = true → c.releasing = false ∨ c.inFlight = true → ∀ residual,
      Reaches (.releaseComplete n residual) s (fun t => t = s))

/-- R149: a CLAIM_WRITE whose spans lie in the memory and meet no others' is deferred; CLAIM_COMPLETE puts the claims
in force and zeroes the bytes gained, and no others, once the host holds no line of them. -/
def Obligations.ClaimsAreZeroedWhenGained : Prop :=
  ∀ (s : State) (n : Nat) (c : Ctx), n ≤ 3071 → s.ctx n = some c →
    (∀ via e (v : Word), e < 16 → c.state = stOpen → s.ticketRoom = true →
      let ws := (s.regsAt 0 (cidx n) 0x30 16).set e v
      let spans := spansOf (ws.map (·.toNat))
      admits s via (0x8000 + n) 0x30 ws = true → (∀ a ∈ spans, a.1 + a.2 ≤ 49152 ∧ (a.2 = 0 → a.1 = 0)) →
      allApart spans = true →
      (∀ x ∈ s.ctxs, x.half = c.half → x.n ≠ n → ∀ a ∈ spans, ∀ b ∈ spansOf (s.claimWords x.n), apart a b = true) →
      Defers (.claimWrite via n e v) s via (0x8000 + n) 0x30 ws (fun t => SameDict s t ∧ SameHbm s t ∧ SameCtxs s t ∧
        ∃ k ∈ t.svc.tickets, k.work = .store (0x8000 + n) 0x30 0 ws ∧ k.status = none)) ∧
    (∀ k ws, s.key.powered = true → s.pendingOn (cidx n) 0x30 0 = some k → k.work = .store (cidx n) 0x30 0 ws →
      ws.length = 16 → s.gainedHeld c.half (s.claims n) (spansOf (ws.map (·.toNat))) ≠ [] →
      Reaches (.claimComplete n) s (fun t => (s.pendingOn (cidx n) 0x30 0 = t.pendingOn (cidx n) 0x30 0) ∧
        (∀ l ∈ s.gainedHeld c.half (s.claims n) (spansOf (ws.map (·.toNat))), ∃ x ∈ t.port.snoops,
          x.half = c.half ∧ x.line = l ∧ x.ctx = some n) ∧ SameDict s t ∧ SameHbm s t ∧ SameCtxs s t)) ∧
    (∀ k ws, s.key.powered = true → s.pendingOn (cidx n) 0x30 0 = some k → k.work = .store (cidx n) 0x30 0 ws →
      ws.length = 16 → s.gainedHeld c.half (s.claims n) (spansOf (ws.map (·.toNat))) = [] →
      Reaches (.claimComplete n) s (fun t =>
        let gained := fun a => inSpans (spansOf (ws.map (·.toNat))) (a / granule) && !inSpans (s.claims n) (a / granule)
        (∀ j, j < 16 → t.reg (cidx n) (0x30 + j) = ws.getD j 0) ∧
        (∀ a, gained a = true → t.hbmByte c.half a = 0) ∧
        (∀ h a, h ≠ c.half ∨ gained a = false → t.hbmByte h a = s.hbmByte h a) ∧
        (∃ x ∈ t.svc.tickets, x.num = k.num ∧ x.status = some 0x0000) ∧ OnlyIn [cidx n] s t ∧ SameCtxs s t))

/-- R157, R161, R298: EVENT_ACK clears the events named; NUMERICS_RELEASE ends a numerics hold; PRODUCER_UPDATE takes
a new producer count, and faults the context where the count goes back or past the ring; STREAM_WAIT_TIMEOUT raises
the wait event. -/
def Obligations.ContextEventsAndStreams : Prop :=
  ∀ (s : State) (n : Nat) (c : Ctx), n ≤ 3071 → s.ctx n = some c →
    (∀ via (v : Word), admits s via (0x8000 + n) 0x20 [v] = true →
      Takes (.eventAck via n v) s via (0x8000 + n) 0x20 [v] (fun t =>
        t.reg (cidx n) 0x1F = s.reg (cidx n) 0x1F &&& ~~~v ∧ OnlyIn [cidx n] s t ∧ SameHbm s t ∧ SameCtxs s t)) ∧
    (∀ via (v : Word), s.val 0x3032 0x01 = n → admits s via 0x3032 0x02 [v] = true → c.state = stHold →
      s.hasReason n rNumerics = true → Takes (.numericsRelease via v) s via 0x3032 0x02 [v] (fun t =>
        t.hasReason n rNumerics = false ∧ t.valAt n 0x3032 0x03 = 0 ∧ t.valAt n 0x3032 0x04 = 0 ∧
        (∃ d, t.ctx n = some d ∧ d.state = stHold ∧ (v.toNat = 2 → d.watches = [])) ∧ SameHbm s t)) ∧
    (∀ via (v : Word), s.val 0x3032 0x01 = n → admits s via 0x3032 0x02 [v] = true → s.hasReason n rNumerics = false →
      Refuses (.numericsRelease via v) s via 0x3032 0x02 0x3001) ∧
    (s.key.powered = true → ∀ value : BitVec 64, s.streaming n = true → c.releasing = false →
      c.going = true ∨ c.state = stHold →
      let count := value.toNat % 2 ^ 63
      (c.producer ≤ count → count - s.val64 (cidx n) 0x4C ≤ 2 ^ s.val (cidx n) 0x43 →
        c.state ≠ stRun ∨ c.phase ≠ 0 → Reaches (.producerUpdate n value) s (fun t =>
          t.ctx n = some { c with producer := count, ended := value.getLsbD 63 } ∧
          (∃ l ∈ t.port.cache, l.half = c.half ∧ l.addr = lineStart (s.val64 (cidx n) 0x45)) ∧
          OnlyIn [0xA003] s t ∧ SameHbm s t)) ∧
      (count < c.producer ∨ 2 ^ s.val (cidx n) 0x43 < count - s.val64 (cidx n) 0x4C → Reaches (.producerUpdate n value) s (fun t =>
        t.ctxState n = stFault ∧ t.flag (cidx n) 0x02 rStream = true ∧ SameHbm s t))) ∧
    (s.key.powered = true → c.state = stRun → s.val (cidx n) 0x4E = 1 → Reaches (.streamWaitTimeout n) s (fun t =>
      t.flag (cidx n) 0x1F evWait = true ∧ OnlyIn [cidx n] s t ∧ SameHbm s t ∧ SameCtxs s t))

/-- R154 to R156, R308, R310: STRAND_ISSUE gives a free unit a strand of one of the contexts that may issue one;
STRAND_END counts the strand and what its engine's residue said, and a strand whose work goes on issues again. -/
def Obligations.StrandsIssueAndEnd : Prop :=
  ∀ (s : State), s.key.powered = true →
    (∀ (unit : UnitWord) (c : Ctx), let u := unit.toNat
      let h := halfOf (u / 65536)
      s.runs h = true → s.awake = true → s.unitBusy u = false → tileCourse (u % 2 ^ 17) ∉ (s.half h).droop → (s.ctxs.map (·.n)).Nodup →
      c ∈ s.ctxs → c.half = h → ctxClass s c.n < 3 → (∀ k, k < 3 → 0 < s.classWeight h k) → s.issuable c u ≠ [] →
      Reaches (.strandIssue unit) s (fun t => t.unitBusy u = true ∧ SameHbm s t)) ∧
    (∀ (unit : UnitWord), s.unitBusy unit.toNat = true → Reaches (.strandIssue unit) s (fun t => t = s)) ∧
    (∀ n k residue c x, s.ctx n = some c → c.slots.find? (fun y => y.id == k && y.issued) = some x →
      s.mayEnd n x = true → Reaches (.strandEnd n k residue) s (fun t =>
        t.val64 (cidx n) 0x22 = (s.val64 (cidx n) 0x22 + 1) % 2 ^ 64 ∧
        (∀ l, x.kind = .forward l → SameObject 0x4020 s t) ∧
        ((∀ l, x.kind ≠ .forward l) →
          let e := mkTile (halfNum c.half) (s.fabric.physCourse (mkTile (halfNum c.half) x.course 0)) 0xFF
          (residue = .transient → t.regAt e 0x4020 0x0B = s.regAt e 0x4020 0x0B + 1) ∧
          (residue = .fault → t.regAt e 0x4020 0x0C = s.regAt e 0x4020 0x0C + 1)) ∧
        (moreWork c x = true → ∃ d, t.ctx n = some d ∧ ∃ y ∈ d.slots, y.id = k ∧ y.issued = false ∧
          y.piece = x.piece + 1))) ∧
    (∀ n k residue c x, s.ctx n = some c → c.slots.find? (fun y => y.id == k && y.issued) = some x →
      s.mayEnd n x = false → Reaches (.strandEnd n k residue) s (fun t => t = s))

/-! ### Tiles -/

/-- R202, R214, R282: INPUT_VECTOR_ARRIVE takes the tile's next vector into the input ring where it has room for 120
entries, ending a calibration product where the vector may issue. R178, R183, R203, R206, R214, R257, R438:
FORWARD_PRODUCT takes the oldest vector whose strand is issued where the tile may issue, its cadence allows it and the
output ring has room; one with a refused group leaves as NaN in every column in use, one that drives no row as a zero
marker, counted as skipped and not as a product. -/
def Obligations.VectorsEnterAndRun : Prop :=
  ∀ (s : State) (p : Nat), s.key.powered = true → s.runs (halfOf (tileHalf p)) = true →
    (∀ n k v, s.arriving p n k = some v → (s.tile p).ringHeld + vecEntries v ≤ 120 →
      Reaches (.inputVectorArrive p n k) s (fun t => (t.tile p).inRing = (s.tile p).inRing ++ [v] ∧
        (s.vecIssued p v = true → (t.tile p).calAgain = ((s.tile p).calAgain || s.calActive p) ∧
          t.calActive p = false ∧
          t.regAt p 0x4010 0x2F = s.regAt p 0x4010 0x2F + (if s.calActive p then 1 else 0)) ∧
        OnlyIn [0x4010, 0x4014] s t ∧ SameHbm s t ∧ SameCtxs s t)) ∧
    (∀ n k v, s.arriving p n k = some v → 120 < (s.tile p).ringHeld + vecEntries v →
      Reaches (.inputVectorArrive p n k) s (fun t => t = s)) ∧
    (∀ n k, s.arriving p n k = none → Reaches (.inputVectorArrive p n k) s (fun t => t = s)) ∧
    (s.nextReady p = none ∨ s.mayIssue p = false → Reaches (.forwardProduct p) s (fun t => t = s)) ∧
    (∀ v c seat L, s.nextReady p = some v → s.mayIssue p = true → s.inCadence p v.ctx = true → s.ctx v.ctx = some c →
      s.seat c (s.logicalOr p) = some seat → c.layers[v.layer]? = some L →
      ((s.tile p).outRoom (L.seatBytes seat) = false → Reaches (.forwardProduct p) s (fun t =>
        t.regAt p 0x4014 0x05 = s.regAt p 0x4014 0x05 + 1 ∧ OnlySubs 0x4014 [0x05] s t ∧ OnlyIn [0x4014] s t ∧
        SameTiles s t ∧ SameHbm s t ∧ SameCtxs s t)) ∧
      ((s.tile p).outRoom (L.seatBytes seat) = true → Reaches (.forwardProduct p) s (fun t =>
        (t.tile p).inRing = (s.tile p).inRing.erase v ∧ (t.tile p).lastForward = some s.count ∧
        t.val64At p 0x4001 0x0B = (s.val64At p 0x4001 0x0B + (if v.wide then 1 else 0)) % 2 ^ 64 ∧
        OnlyIn [0x3020, 0x3021, 0x4001, 0x4010, 0x4014] s t ∧ SameHbm s t ∧ SameSec s t)) ∧
      ((s.tile p).outRoom (L.seatBytes seat) = true → (s.tile p).flight = [] → (s.tile p).partials = [] →
        seat.row ≠ 0 →
        let leaves := fun (values : List Word) (t : State) => (t.tile p).outRing = (s.tile p).outRing ++
          [resultVec v.ctx seat v.vec values 2048 false true]
        (vecRefused v = true → Reaches (.forwardProduct p) s (fun t => t.ctxs = (s.issueVec p v).ctxs ∧
          leaves (List.replicate (L.outCols seat.block) f32NaN) t)) ∧
        (vecRefused v = false → (∀ e ∈ vecSlices v, activity (drive e v.groups (L.inRows seat.row)) = 0) →
          Reaches (.forwardProduct p) s (fun t => leaves [] t ∧
            t.val64At p 0x4001 0x03 = s.val64At p 0x4001 0x03 ∧
            t.val64At p 0x4001 0x05 = (s.val64At p 0x4001 0x05 + (vecSlices v).length) % 2 ^ 64))))

/-- R204, R205: CHECKSUM_REPEAT runs the vector again, counting a transient where it passes and a fault, marking the
step, where it fails again. R208: PARTIAL_ARRIVE takes a partial on its way to the finisher, which keeps it until each
tile row's has come; OUTPUT_DRAIN sends the oldest result, a partial to the finisher that 0x4012.06 names. R200:
COEFFICIENT_SWITCH makes a pending set active at a strand boundary. R202, R234: CALIBRATION_PRODUCT starts in a gap.
-/
def Obligations.ChecksPartialsAndSets : Prop :=
  ∀ (s : State) (p : Nat), s.key.powered = true →
    (∀ f c seat L, (s.tile p).flight.find? (fun f => f.bad.any id) = some f → s.inCadence p f.vec.ctx = true →
      s.ctx f.vec.ctx = some c → s.seat c (s.logicalOr p) = some seat → c.layers[f.vec.layer]? = some L →
      let again := (s.runVector p f.vec L seat f.bad).2.any (fun o => !o.failed.isEmpty)
      (again = false → Reaches (.checksumRepeat p) s (fun t =>
        t.regAt p 0x4010 0x2C = s.regAt p 0x4010 0x2C + 1 ∧ t.regAt p 0x4010 0x2D = s.regAt p 0x4010 0x2D ∧
        SameHbm s t)) ∧
      (again = true → Reaches (.checksumRepeat p) s (fun t =>
        t.regAt p 0x4010 0x2D = s.regAt p 0x4010 0x2D + 1 ∧ t.regAt p 0x4010 0x2C = s.regAt p 0x4010 0x2C ∧
        (∃ d, t.ctx f.vec.ctx = some d ∧ d.stepFailed = true) ∧ SameHbm s t))) ∧
    (∀ n vec row x, row ≠ 0 → s.runs (halfOf (tileHalf p)) = true → (s.tile p).flight = [] →
      s.mortar.find? (fun x => x.finisher == s.logicalOr p && x.vec.ctx == n && x.vec.vec == vec && x.vec.row == row) =
        some x →
      let held := (s.tile p).partials ++ [x.vec]
      let mine := fun (y : PartialVec) => y.ctx == n && y.vec == vec
      (8 ≤ ((s.tile p).partials.filter (fun x => x.row != 0)).length →
        Reaches (.partialArrive p n vec row) s (fun t => t = s)) ∧
      (((s.tile p).partials.filter (fun x => x.row != 0)).length < 8 →
        ((s.tile p).partials.find? (fun x => x.row == 0) = none → Reaches (.partialArrive p n vec row) s (fun t =>
          (t.tile p).partials = held ∧ t.mortar = s.mortar.erase x ∧ OnlyIn [0x4014] s t ∧ SameHbm s t ∧
          SameCtxs s t)) ∧
        (∀ own c seat L, (s.tile p).partials.find? (fun x => x.row == 0) = some own → own.ctx = n → own.vec = vec →
          s.ctx n = some c → s.seat c (s.logicalOr p) = some seat → c.layers[seat.layer]? = some L →
          (s.tile p).outRoom (ringBytes L.format) = true →
          let whole := (List.range L.tileRows).all (fun r => held.any (fun y => mine y && y.row == r))
          Reaches (.partialArrive p n vec row) s (fun t => t.mortar = s.mortar.erase x ∧
            (whole = true → (t.tile p).partials.filter mine = []) ∧
            (whole = false → (t.tile p).partials = held) ∧
            OnlyIn [0x3020, 0x3021, 0x4014] s t ∧ SameHbm s t)))) ∧
    (∀ v rest, (s.tile p).outRing = v :: rest → Reaches (.outputDrain p) s (fun t =>
      (∃ more, (t.tile p).outRing = rest ++ more) ∧ (∃ more, t.out = s.out ++ .drained p v :: more) ∧
      t.regAt p 0x4014 0x02 = toWord (t.tile p).outBytes ∧
      (∀ c seat, v.partialOut = true → s.ctx v.ctx = some c → s.seat c (s.logicalOr p) = some seat →
        t.mortar = s.mortar ++ [{ finisher := s.valAt p 0x4012 0x06, vec :=
          { ctx := v.ctx, vec := v.vec, row := seat.row, suspect := v.suspect,
            values := if v.values.isEmpty then none else some v.values } }]) ∧
      (v.partialOut = false → t.mortar = s.mortar) ∧ OnlyIn [0x3020, 0x3021, 0x4014] s t ∧ SameHbm s t)) ∧
    (s.tileBusy p = false → (s.tile p).dirty = true → Reaches (.coefficientSwitch p) s (fun t =>
      (∀ j, j < 0x84 → t.regAt (setUnit p 0) 0x2010 (0x03 + j) = s.regAt (setUnit p 1) 0x2010 (0x03 + j)) ∧
      (∀ g j, g < 32 → j < 0x51 →
        t.regAt (groupUnit p g 0) 0x2011 (0x04 + j) = s.regAt (groupUnit p g 1) 0x2011 (0x04 + j)) ∧
      (t.tile p).dirty = false ∧ t.regAt p 0x4010 0x30 = s.regAt p 0x4010 0x30 + 1 ∧
      OnlyIn [0x2010, 0x2011, 0x4010] s t ∧ SameHbm s t ∧ SameCtxs s t)) ∧
    (s.tileBusy p = true → Reaches (.coefficientSwitch p) s (fun t => t = s)) ∧
    (s.mayCalibrate p = true → Reaches (.calibrationProduct p) s (fun t =>
      t.tile p = { s.tile p with calProduct := some s.count, calAgain := false } ∧ SameDict s t ∧ SameHbm s t ∧
      SameCtxs s t)) ∧
    (s.mayCalibrate p = false → Reaches (.calibrationProduct p) s (fun t => t = s))

/-- R166, R169, R175 to R177, R187: a row write-verify counts each cell it pulses and one program of the row if it
pulsed one; where nothing misses it records its targets, a first miss leaves the row to be written once more, a second
is counted. Nothing is written while a strand is issued, a pass is in progress or a snapshot is held. -/
def Obligations.RowsAreWrittenAndCounted : Prop :=
  ∀ (s : State) (p row : Nat) (targets : List (Nat × Int)) (meas : RowMeas), s.key.powered = true → row < 1024 →
    let ws := ((s.tile p).changePlan row targets (fun _ => true)).items.map (fun e =>
      (s.tile p).writeWeight row e.1 e.2.1 e.2.2 meas)
    let cols := missed ws meas
    let before := lookup (s.tile p).failedRows row
    let again := ((before.getD []) ++ meas.drift).map (s.physCol p)
    let hit := ((s.onColumns p (ws.flatMap (fun w => pairLevels w.elem w.major w.minor))).filter (fun e =>
      (s.tile p).level (s.physRow p row) e.1 != e.2 || again.contains e.1)).length
    let u := rowUnit p (s.physRow p row)
    let only := fun (t : State) => SameHbm s t ∧ SameSec s t ∧
      OnlyIn [0x0080, 0x4001, 0x4003, 0x4004, 0x4005, 0x4010, 0x4012, 0x4021, 0x5020, 0x7040, 0xF030] s t
    (s.rewriteFree p = true →
      (cols = [] → Reaches (.rowWriteVerify p row targets meas) s (fun t => only t ∧ SameCtxs s t ∧
        ((ws.map (·.elem)).Nodup → ∀ w ∈ ws, -32768 ≤ w.target → w.target ≤ 32767 →
          recTarget ((t.tile p).record row w.elem) = w.target) ∧ lookup (t.tile p).failedRows row = none ∧
        t.regAt u 0x4003 0x03 = s.regAt u 0x4003 0x03 + (if hit = 0 then 0 else 1) ∧
        t.val64At p 0x4001 0x10 = (s.val64At p 0x4001 0x10 + hit) % 2 ^ 64)) ∧
      (cols ≠ [] → before = none → Reaches (.rowWriteVerify p row targets meas) s (fun t => only t ∧ SameCtxs s t ∧
        lookup (t.tile p).failedRows row = some cols ∧ (t.tile p).records = (s.tile p).records ∧
        t.regAt u 0x4003 0x03 = s.regAt u 0x4003 0x03 + (if hit = 0 then 0 else 1) ∧
        t.regAt p 0x4001 0x0F = s.regAt p 0x4001 0x0F)) ∧
      (cols ≠ [] → before ≠ none → Reaches (.rowWriteVerify p row targets meas) s (fun t => only t ∧
        t.regAt p 0x4001 0x0F = s.regAt p 0x4001 0x0F + 1))) ∧
    (s.rewriteFree p = false → Reaches (.rowWriteVerify p row targets meas) s (fun t => t = s))

/-! ### Calibration -/

/-- R224: the calibration commands. ZERO and a refresh begin on the tiles of their scope, the solver taking what
ZERO's products measure; FULL only on the waiting results of a ZERO of the same scope; an abort ends what runs or
waits. -/
def Obligations.CalibrationCommandsBegin : Prop :=
  ∀ (s : State) (via : Via) (h : HalfId) (value : Word) (zs : List (Nat × ZeroRaw)) (fs : List (Nat × FullRaw)),
    let i := calIndex h
    let w := fun k => (calWordOf value k).toNat
    let ready := fun k => admits s via i 0x01 [calWordOf value k] = true
    let begins := fun (c : Instr) (k n : Nat) (P : State → Prop) => Defers c s via i 0x01 [calWordOf value k] (fun t =>
      t.val i 0x02 = n ∧ t.val i 0x03 = (s.scopeTiles h (w k)).length ∧ t.val i 0x04 = 0 ∧
      (t.half h).calWord = w k ∧ (∀ p ∈ s.scopeTiles h (w k), t.valAt p 0x2012 0x03 = 1) ∧ P t ∧ SameHbm s t ∧
      SameCtxs s t ∧ SameTiles s t)
    s.ticketRoom = true →
    (ready 1 → s.pendingOn i 0x01 0 = none →
      (s.scopeTiles h (w 1) ≠ [] → begins (.calZero via h value zs) 1 1 (fun t => (t.half h).calZero = zs ∧
        (t.half h).zeroMean = s.val 0x2002 0x05)) ∧
      (s.scopeTiles h (w 1) = [] → Refuses (.calZero via h value zs) s via i 0x01 0x3001)) ∧
    (ready 2 →
      (s.val i 0x02 = 2 → w 2 % 2 ^ 16 = (s.half h).calWord % 2 ^ 16 → calScope (w 2) = calScope (s.half h).calWord →
        begins (.calFull via h value fs) 2 3 (fun t => (t.half h).calFull = fs ∧
          (t.half h).calZero = (s.half h).calZero)) ∧
      (s.val i 0x02 ≠ 2 → Refuses (.calFull via h value fs) s via i 0x01 0x3001)) ∧
    (ready 4 → s.pendingOn i 0x01 0 = none → s.scopeTiles h (w 4) ≠ [] →
      begins (.calRefresh via h value) 4 4 (fun _ => True)) ∧
    (ready 3 →
      (s.val i 0x02 ≠ 0 → Takes (.calAbort via h value) s via i 0x01 [calWordOf value 3] (fun t =>
        t.val i 0x02 = 0 ∧ (∀ p ∈ s.scopeTiles h (s.half h).calWord, t.valAt p 0x2012 0x03 = 0) ∧
        SameHbm s t ∧ SameCtxs s t ∧ SameTiles s t)) ∧
      (s.val i 0x02 = 0 → Refuses (.calAbort via h value) s via i 0x01 0x3001))

/-- R224, R228, R230, R233 to R236, R511: CAL_RUN_COMPLETE ends a ZERO waiting for FULL, ZERO_RESULT_EXPIRE discards
it; FULL and a refresh end idle. COLUMN_SWAP waits for the owner's step, then gives four columns to spares or, with
fewer left, ends with 0x4003. PROBE and DRIFT_MONITOR mark a calibrated tile due or urgent; CAL_ESCALATE moves an
urgent one to a calibrated spare for one step; REFRESH_AGE writes a tile anew and calibrates it. -/
def Obligations.CalibrationEndsAndMonitors : Prop :=
  ∀ (s : State), s.key.powered = true →
    (∀ h seen, s.calMayEnd h = true → let i := calIndex h
      (s.val i 0x02 = 1 → Reaches (.calRunComplete h seen) s (fun t => t.val i 0x02 = 2 ∧ SameTiles s t ∧ SameHbm s t ∧
        ∀ k, s.pendingOn i 0x01 0 = some k → ∃ x ∈ t.svc.tickets, x.num = k.num ∧ x.status = some 0x0000)) ∧
      (s.val i 0x02 = 3 ∨ s.val i 0x02 = 4 → Reaches (.calRunComplete h seen) s (fun t => t.val i 0x02 = 0 ∧
        (t.half h).calWord = 0 ∧ (t.half h).calZero = [] ∧ SameHbm s t))) ∧
    (∀ h, s.val (calIndex h) 0x02 = 2 → Reaches (.zeroResultExpire h) s (fun t => t.val (calIndex h) 0x02 = 0 ∧
      (t.half h).calZero = [] ∧ OnlySubs (calIndex h) [0x02] s t ∧ OnlyIn [calIndex h] s t ∧ SameTiles s t)) ∧
    (∀ p g meas e, (s.tile p).swapDue.find? (fun e => e.group == g) = some e → g < 32 →
      let gone := fun (t : State) => (t.tile p).swapDue.find? (fun e => e.group == g) = none
      (s.swapOpen e = true → s.rewriteFree p = true → Reaches (.columnSwap p g meas) s (fun t => gone t ∧ SameHbm s t ∧
        ((s.spareColumnsFree p).length < 4 → t.valAt p 0x2012 (0x09 + g) / 65536 = 0x4003))) ∧
      (s.swapOpen e = false ∨ s.rewriteFree p = false → Reaches (.columnSwap p g meas) s (fun t => t = s))) ∧
    (∀ p gain off, s.runs (halfOf (tileHalf p)) = true → s.gap p = true → s.tileRole p ≤ 2 → s.inSanitize p = false →
      Reaches (.probe p gain off) s (fun t =>
        t.regAt p 0x2012 0x29 = toWord (min 0xFFFF gain * 65536 + min 0xFFFF off) ∧
        ((s.calState p = 1 ∨ s.calState p = 2) → (s.val 0x2002 0x07 ≤ gain → t.calState p = 4) ∧
          (2 * gain < s.val 0x2002 0x07 → 2 * off < s.val 0x2002 0x08 → t.calState p = s.calState p)) ∧
        OnlyIn [0x2000, 0x2001, 0x2012] s t ∧ SameTiles s t ∧ SameHbm s t)) ∧
    (∀ p bit urgent, bit ≤ 4 → (s.calState p = 1 ∨ s.calState p = 2) → Reaches (.driftMonitor p bit urgent) s (fun t =>
      t.flagAt p 0x2012 0x04 bit = true ∧
      t.calState p = (if bit = 2 then 4 else if bit = 3 then 3 else if urgent then 4 else 3) ∧
      OnlyIn [0x2000, 0x2001, 0x2012] s t ∧ SameTiles s t ∧ SameHbm s t)) ∧
    (∀ p, s.calState p ≠ 4 → Reaches (.calEscalate p) s (fun t => t = s)) ∧
    (∀ p l q, s.calState p = 4 → s.fabric.logical p = some l → s.relocationSpare l = some q →
      (s.mayRelocate p l = true → Reaches (.calEscalate p) s (fun t =>
        t.fabric.relocated = s.fabric.relocated ++ [(l, q)] ∧
        (p ≠ q → (t.tile q).records = (s.tile p).records ∧ (t.tile q).sCol = (s.tile p).sCol) ∧
        t.val (calIndex (halfOf (tileHalf p))) 0x09 = (s.val (calIndex (halfOf (tileHalf p))) 0x09 + 1) % 2 ^ 32 ∧
        SameHbm s t)) ∧
      (s.mayRelocate p l = false → Reaches (.calEscalate p) s (fun t => t = s))) ∧
    (∀ p seen, s.rewriteFree p = true → s.tileRole p ≤ 2 → Reaches (.refreshAge p seen) s (fun t => SameHbm s t ∧
      ((t.tile p).unusable = false → t.valAt p 0x2012 0x08 = 0 ∧ t.val64At p 0x2012 0x05 = s.count % 2 ^ 64))) ∧
    (∀ p seen, s.rewriteFree p = false → Reaches (.refreshAge p seen) s (fun t => t = s))

/-! ### Spokes and hubs -/

/-- R364 to R368, R471, R474: where a training or the retry of one ends, what a retrain leaves, and the spoke
control's writes: down, train, force a retrain. A spoke that is no longer up gives its frames to other ports; one that
is down or has trained anew holds no link key. In training the lanes repeat the spoke's identity words. R369, R473:
POSITION_WRITE is refused above 16,383 and while a context of the half runs, seals or holds; else its write begins,
and keys of the former position no longer send. -/
def Obligations.SpokesAndPositions : Prop :=
  (∀ (s : State) (h : HalfId) (n : Nat) (tr : Training), n ≤ 16 →
    let st := s.laneOutcome h n tr
    let names := fun (t : State) => ∃ more, t.out = s.out ++ .identity h n (s.identities h n) :: more
    let key := spokeKey h n
    let down := fun (t : State) (l : Nat) => t.linkState h n = l ∧ (t.spoke h n).linkKey = false ∧
      (t.spoke h n).replay = [] ∧ (t.spoke h n).queue = []
    let only := fun (t : State) => OnlyIn [0x0102, 0x6000, 0x6001, 0x6003, 0x7000, 0x7001, 0x7040, 0xF030] s t ∧
      SameHbm s t ∧ SameCtxs s t ∧ SameTiles s t ∧ SameSec s t
    let ends := fun (c : Instr) (again : Word) =>
      (lanesOf st = 0 → Reaches c s (fun t => only t ∧ names t ∧ down t st ∧ t.regAt key 0x6003 0x0D = 0 ∧
        t.regAt key 0x6003 0x0B = s.regAt key 0x6003 0x0B + again)) ∧
      (lanesOf st ≠ 0 → s.loopedBack h n tr = true → Reaches c s (fun t => only t ∧ names t ∧
        down t lkLooped)) ∧
      (lanesOf st ≠ 0 → s.loopedBack h n tr = false → Reaches c s (fun t => only t ∧ names t ∧
        t.val64At key 0x6003 0x04 = tr.peerSerial.toNat ∧
        (if s.authenticates h tr = true then t.linkState h n = st ∧ (t.spoke h n).linkKey = true
         else t.linkState h n = lkAwaiting ∧ (t.spoke h n).linkKey = false ∧
           t.regAt key 0x6003 0x0E = s.regAt key 0x6003 0x0E + 1)))
    (s.key.powered = true → s.mayTrain h n = true →
      (s.linkState h n = lkTraining → ends (.spokeTrain h n tr) 0) ∧
      (lkFailed ≤ s.linkState h n → ends (.spokeTrainRetry h n tr) 1) ∧
      (s.linkUp h n = true → Reaches (.spokeRetrain h n tr) s (fun t => only t ∧ names t ∧
        t.linkState h n = st ∧ (t.spoke h n).again = false ∧ t.regAt key 0x6003 0x0B = s.regAt key 0x6003 0x0B + 1 ∧ t.regAt key 0x6003 0x0D = toWord (lanesOf st) ∧
        (lanesOf st = 0 → (t.spoke h n).replay = [] ∧ (t.spoke h n).queue = [])))) ∧
    (∀ via (value : Word), s.val 0x6003 0x01 = key →
      (admits s via 0x6003 0x0C [low2 value 1] = true → value.toNat < 4 →
        Takes (.spokeDown via value) s via 0x6003 0x0C [low2 value 1] (fun t => down t lkDown ∧ SameHbm s t)) ∧
      (admits s via 0x6003 0x0C [low2 value 2] = true → value.toNat < 4 →
        (s.spokeEnabled h n = true → Takes (.spokeTrainStart via value) s via 0x6003 0x0C [low2 value 2] (fun t =>
          t.linkState h n = lkTraining ∧ t.spokes = s.spokes ∧ SameHbm s t)) ∧
        (s.spokeEnabled h n = false → Refuses (.spokeTrainStart via value) s via 0x6003 0x0C 0x4001)) ∧
      (∀ o, findObj 0x6003 = some o → s.key.powered = true → s.mute via.path = false → value.toNat < 4 →
        (s.unstageOther via.path 0x6003 0x0C).entryStatus via o 0x6003 0x0C .write [low2 value 2] = 0x4001 →
        RefusesWith (.spokeTrainStart via value) s via 0x6003 0x0C 0x4001 (fun t =>
          t.reg 0x1002 0x0A = s.reg 0x1002 0x0A + 1 ∧ SameSpokes s t ∧ SameHbm s t)) ∧
      (admits s via 0x6003 0x0C [low2 value 3] = true → value.toNat < 4 → s.spokeEnabled h n = true →
        s.linkUp h n = true → Takes (.spokeForceRetrain via value) s via 0x6003 0x0C [low2 value 3] (fun t =>
          (t.spoke h n).again = true ∧ t.linkState h n = s.linkState h n ∧ SameHbm s t)))) ∧
  (∀ (s : State) (via : Via) (h : HalfId) (value : Word),
    let busy := (s.ctxsOf h).any (fun n => [stRun, stHold, stSealing].contains (s.ctxState n))
    (presents s via (hubIndex h) 0x01 [value] = true → value.toNat < 65536 → 16383 < value.toNat →
      value.toNat ≠ 0xFFFF → Refuses (.positionWrite via h value) s via (hubIndex h) 0x01 0x2003) ∧
    (admits s via (hubIndex h) 0x01 [value] = true → busy = true →
      Refuses (.positionWrite via h value) s via (hubIndex h) 0x01 0x3001) ∧
    (admits s via (hubIndex h) 0x01 [value] = true → busy = false → s.ticketRoom = true →
      Defers (.positionWrite via h value) s via (hubIndex h) 0x01 [value] (fun t =>
        t.val (pkIndex h) 0x0F = 0 ∧ (∃ k ∈ t.svc.tickets, k.work = .store (hubIndex h) 0x01 0 [value] ∧
          k.status = none) ∧ SameHbm s t ∧ SameCtxs s t)))

/-- R360, R362, R363, R370 to R372: what a hub does with a frame that arrives (FRAME_ROUTE), how a gap ends
(GAP_TIMEOUT), and what a link's acknowledgements and credits do (LINK_ACK, LINK_NAK, LINK_CREDIT). -/
def Obligations.FramesAreRouted : Prop :=
  ∀ (s : State) (h : HalfId), s.key.powered = true → s.runs h = true →
    let hub := hubIndex h
    (∀ f : Frame, f.half = h → s.linkUp h f.spoke = true →
      (f.crcOk = false → Reaches (.frameRoute f) s (fun t => t.out = s.out ++ [.nak h f.spoke] ∧ SameDict s t ∧
        SameSpokes s t ∧ t.lanes = s.lanes)) ∧
      (f.crcOk = true → 9 ≤ f.cls → Reaches (.frameRoute f) s (fun t => t.reg hub 0x07 = s.reg hub 0x07 + 1 ∧
        t.out = s.out ∧ SameSpokes s t ∧ t.lanes = s.lanes)) ∧
      (f.crcOk = true → f.cls < 9 → f.cls ≠ 7 → s.position h ≠ unassigned → f.src ≠ s.position h → f.neighbour = false →
        f.dest = s.position h → f.tagOk = true → s.keyHeld h f = true →
        let l := s.lanes.find? (fun x => x.half == h && x.src == f.src && x.vc == f.vc)
        (l = none → Reaches (.frameRoute f) s (fun t => t.out = s.out ++ [.delivered h f] ∧
          t.val64 hub 0x04 = (s.val64 hub 0x04 + 1) % 2 ^ 64 ∧ SameSpokes s t ∧ OnlyIn [hub] s t)) ∧
        (∀ x, l = some x → x.resume = false → x.next = f.seq → x.early = [] → Reaches (.frameRoute f) s (fun t =>
          t.out = s.out ++ [.delivered h f] ∧ t.val64 hub 0x04 = (s.val64 hub 0x04 + 1) % 2 ^ 64 ∧
          t.lanes.find? (fun x => x.half == h && x.src == f.src && x.vc == f.vc) =
            some { x with next := (f.seq + 1) % 65536 })) ∧
        (∀ x, l = some x → x.resume = false → 32768 ≤ (f.seq + 65536 - x.next) % 65536 →
          Reaches (.frameRoute f) s (fun t => t.out = s.out ∧ t.reg hub 0x06 = s.reg hub 0x06 + 1 ∧
            t.lanes = s.lanes))) ∧
      (f.crcOk = true → f.cls < 9 → f.cls ≠ 7 → s.position h ≠ unassigned → f.src ≠ s.position h → f.neighbour = false →
        f.dest ≠ s.position h → (s.spoke h f.spoke).conflict = false →
        (f.hops ≤ 1 → Reaches (.frameRoute f) s (fun t => t.reg hub 0x07 = s.reg hub 0x07 + 1 ∧ t.out = s.out)) ∧
        (∀ q, 1 < f.hops → s.route h f.dest % 32 ≠ 30 → s.portSpoke h (s.route h f.dest % 32) = some q →
          (s.spoke q.1 q.2).queue = [] → 0 < (s.spoke q.1 q.2).credits.getD f.vc 0 →
          replayBytes (s.spoke q.1 q.2).replay + frameBytes f ≤ 524288 → Reaches (.frameRoute f) s (fun t =>
            t.out = s.out ++ [.frame q.1 q.2 { f with hops := f.hops - 1 }] ∧
            (t.spoke q.1 q.2).replay = (s.spoke q.1 q.2).replay ++ [{ f with hops := f.hops - 1 }] ∧
            t.val64 hub 0x02 = (s.val64 hub 0x02 + 1) % 2 ^ 64)) ∧
        (1 < f.hops → s.route h f.dest % 32 ≠ 30 → s.route h f.dest / 256 % 32 ≠ 30 →
          s.portSpoke h (s.route h f.dest % 32) = none → s.portSpoke h (s.route h f.dest / 256 % 32) = none →
          Reaches (.frameRoute f) s (fun t => t.reg hub 0x0A = s.reg hub 0x0A + 1 ∧ t.out = s.out)))) ∧
    (∀ src vc l, s.lanes.find? (fun x => x.half == h && x.src == src && x.vc == vc) = some l → l.early ≠ [] →
      Reaches (.gapTimeout h src vc) s (fun t => t.reg hub 0x08 = s.reg hub 0x08 + 1 ∧
        t.lanes.find? (fun x => x.half == h && x.src == src && x.vc == vc) =
          some { l with early := [], resume := true })) ∧
    (∀ n count, (s.spoke h n).queue = [] → Reaches (.linkAck h n count) s (fun t =>
      (t.spoke h n).replay = (s.spoke h n).replay.drop count ∧ t.out = s.out ∧ SameDict s t)) ∧
    (∀ n k, s.linkUp h n = true → Reaches (.linkNak h n k) s (fun t =>
      t.out = s.out ++ ((s.spoke h n).replay.drop k).map (.frame h n ·) ∧
      t.regAt (spokeKey h n) 0x6003 0x0A = s.regAt (spokeKey h n) 0x6003 0x0A + 1 ∧ SameSpokes s t)) ∧
    (∀ n vc count, vc < 4 → (s.spoke h n).queue = [] → Reaches (.linkCredit h n vc count) s (fun t =>
      (t.spoke h n).credits.getD vc 0 = (s.spoke h n).credits.getD vc 0 + count ∧
      (t.spoke h n).replay = (s.spoke h n).replay ∧ t.out = s.out ∧ SameDict s t))

/-! ### Exchange groups -/

/-- R374, R376, R378, R382: BUCKET_SEND sends a bucket once its elements are finished, TENSOR_SEND a tensor when it
has passed. R383, R288: SEAL_SEND lets those seals leave whose class and destination is complete and fed by sealed
tensors alone; with the last of them the step is sealed. R381: NORM_PARTIAL_SEND after the last gather. -/
def Obligations.ExchangesSend : Prop :=
  ∀ (s : State) (n : Nat) (c : Ctx), n ≤ 3071 → s.key.powered = true → s.ctx n = some c →
    (∀ b x, c.going = true → s.trains n = true → c.ownSeal = false → c.exchange = some x → c.phase = 2 →
      b < bucketCount (gradLength c) → c.buckets.contains b = false → c.bucketReady b = true →
      s.heldIn c.half (s.residualSpans c) = [] →
      Reaches (.bucketSend n b) s (fun t => (∃ d, t.ctx n = some d ∧ d.buckets = c.buckets ++ [b]) ∧
        t.valAt n 0x6010 0x04 = 1 ∧ SameTiles s t ∧ (x.topK = false → SameHbm s t))) ∧
    (∀ link id peer x w, c.exchange = some x → x.links[link]? = some (id, peer, false) → c.linkSource id = some w →
      c.going = true → c.ownSeal = false → x.stopped.contains (peer, s.stepOf n) = false →
      x.sent.any (fun i => i.cls == 1 && i.item == link && i.step == s.stepOf n) = false →
      Reaches (.tensorSend n link) s (fun t => (∃ d y, t.ctx n = some d ∧ d.exchange = some y ∧
        y.sent = x.sent ++ [{ src := peer, step := s.stepOf n, cls := 1, item := link,
                              attempt := nextAttempt x (s.stepOf n) 1 link, data := w.wire }]) ∧
        SameTiles s t ∧ SameHbm s t)) ∧
    (c.maySeal = true → s.heldIn c.half (s.ledgerSpans c) = [] →
      let left := match c.exchange with | some x => s.sealsLeft c x | none => []
      let leaves := fun e => match c.exchange with | some x => s.mayLeave c x e | none => false
      (left.all leaves = true → (c.exchange.isSome = true → s.trains n = true → leaves (s.position c.half, 2) = true) →
        Reaches (.sealSend n) s (fun t =>
          t.val64 (cidx n) 0x12 = s.stepOf n % 2 ^ 64 ∧ t.flag (cidx n) 0x1F evStep = true ∧
          (s.streaming n = false → c.wantDone = true → t.ctxState n = stDone) ∧
          (s.streaming n = false → c.wantDone = false → c.wantHold = true → t.ctxState n = stHold))) ∧
      (∀ x, c.exchange = some x → left.all leaves = false → Reaches (.sealSend n) s (fun t =>
        (∃ d y, t.ctx n = some d ∧ d.exchange = some y ∧ d.state = stSealing ∧
          y.sealed = x.sealed ++ (left.filter leaves).map (fun e => (e.1, s.stepOf n, e.2))) ∧
        t.val64 (cidx n) 0x12 = s.val64 (cidx n) 0x12 ∧ SameTiles s t ∧ (s.ledgerOn n = false → SameHbm s t)))) ∧
    (∀ x k, c.exchange = some x → c.commits.find? (fun k => k.whole && !k.partialSent) = some k →
      Reaches (.normPartialSend n) s (fun t => (∃ d, t.ctx n = some d ∧
        ∀ y ∈ d.commits, y.step = k.step → y.partialSent = true) ∧ SameTiles s t ∧ SameHbm s t))

/-- R377, R379 to R381, R383 to R387: what a member takes. An item (CONTRIBUTION_RECEIVE, TENSOR_RECEIVE) of a step it
may hold is held once; one of a step past or retracted is dropped; any other, or one of no member, is a protocol
error. A retract drops what it names. A seal that counts and checks what is held is held, and the step commits with
the last of them; any other is refused, and a refusal that comes back sends again once. Gathers and norm partials are
taken once; SEAL_TIMEOUT names the silent members. -/
def Obligations.ExchangesReceive : Prop :=
  ∀ (s : State) (n : Nat) (c : Ctx) (x : Exchange), n ≤ 3071 → s.key.powered = true → s.ctx n = some c →
    c.exchange = some x →
    let exch := fun (t : State) (P : Exchange → Prop) => ∃ d y, t.ctx n = some d ∧ d.exchange = some y ∧ P y
    let wrong := fun (i : Instr) => Reaches i s (fun t => t.regAt n 0x6010 0x0E = s.regAt n 0x6010 0x0E + 1 ∧
      SameCtxs s t ∧ SameHbm s t)
    (∀ src group step item attempt data,
      let i : Item := { src := src, step := step, cls := 2, item := item, attempt := attempt, data := data }
      (x.data.contains src = true → s.screen n x src group step item attempt = 0 →
        Reaches (.contributionReceive n src group step item attempt data) s (fun t =>
          exch t (fun y => y = x.keep i) ∧ SameDict s t ∧ SameHbm s t)) ∧
      (x.data.contains src = true → s.screen n x src group step item attempt = 1 →
        Reaches (.contributionReceive n src group step item attempt data) s (fun t => t = s)) ∧
      (x.data.contains src = false ∨ s.screen n x src group step item attempt = 2 →
        wrong (.contributionReceive n src group step item attempt data))) ∧
    (∀ src group step item attempt data,
      let i : Item := { src := src, step := step, cls := 1, item := item, attempt := attempt, data := data }
      (∀ id, x.links[item]? = some (id, src, true) → s.screen n x src group step item attempt = 0 → attempt = 0 →
        Reaches (.tensorReceive n src group step item attempt data) s (fun t =>
          exch t (fun y => y = x.keep i) ∧ SameDict s t ∧ SameHbm s t)) ∧
      (x.links[item]? = none → wrong (.tensorReceive n src group step item attempt data))) ∧
    (∀ src group step first last attempt,
      (group ≠ x.group → wrong (.retractReceive n src group step first last attempt)) ∧
      (group = x.group → s.committed n < step → x.seals.any (fun e => e.1 == src && e.2.1 == step) = false →
        step ≠ s.stepOf n → Reaches (.retractReceive n src group step first last attempt) s (fun t =>
          t.regAt n 0x6010 0x09 = s.regAt n 0x6010 0x09 + 1 ∧
          exch t (fun y => ∀ i ∈ y.held, i ∈ x.held ∧ ¬ (i.src = src ∧ i.step = step ∧ i.attempt = attempt ∧
            first ≤ i.item ∧ i.item ≤ last)) ∧ SameHbm s t))) ∧
    (∀ src step cls count crc, cls = 1 ∨ cls = 2 ∧ x.data.contains src = true → s.committed n < step →
      let last := cls = 2 ∧ step = s.committed n + 1 ∧ ∀ p ∈ x.data, p ≠ src → x.seals.contains (p, step, 2) = true
      (sealSum (x.valid src step cls) ≠ (count, crc.toNat) →
        Reaches (.sealReceive n src x.group step cls count crc) s (fun t =>
          t.regAt n 0x6010 0x0A = s.regAt n 0x6010 0x0A + 1 ∧ t.committed n = s.committed n ∧ SameHbm s t)) ∧
      (sealSum (x.valid src step cls) = (count, crc.toNat) →
        Reaches (.sealReceive n src x.group step cls count crc) s (fun t =>
          (last → t.committed n = step % 2 ^ 64) ∧ t.regAt n 0x6010 0x0A = s.regAt n 0x6010 0x0A ∧ SameHbm s t))) ∧
    (∀ src step cls,
      (x.refused.contains (src, step) = true → Reaches (.sealRefusalReceive n src step cls) s (fun t =>
        exch t (fun y => y.stopped = x.stopped ++ [(src, step)]) ∧ t.regAt n 0x6010 0x0A = s.regAt n 0x6010 0x0A + 1)) ∧
      (x.refused.contains (src, step) = false → Reaches (.sealRefusalReceive n src step cls) s (fun t =>
        exch t (fun y => y.refused = x.refused ++ [(src, step)]) ∧
        t.regAt n 0x6010 0x0A = s.regAt n 0x6010 0x0A + 1))) ∧
    (∀ src group step b data,
      (group ≠ x.group → wrong (.gatherReceive n src group step b data)) ∧
      (group = x.group → x.data.contains src = true → b < bucketCount (gradLength c) →
        x.gathered.contains (b, src, step) = false → s.val64At n 0x5010 0x08 < step →
        Reaches (.gatherReceive n src group step b data) s (fun t =>
          exch t (fun y => y.gathered = x.gathered ++ [(b, src, step)]) ∧ SameHbm s t))) ∧
    (∀ src step value,
      (x.norm.contains src = false → wrong (.normPartialReceive n src step value)) ∧
      (x.norm.contains src = true → x.partials.any (fun e => e.1 == src && e.2.1 == step) = false →
        s.val64At n 0x5010 0x08 < step → (∃ p ∈ x.norm, p ≠ src ∧ ∀ e ∈ x.partials, e.1 = p → e.2.1 ≠ step) →
        Reaches (.normPartialReceive n src step value) s (fun t =>
          exch t (fun y => y.partials = x.partials ++ [(src, step, value)]) ∧ SameDict s t ∧ SameHbm s t))) ∧
    (∀ p r, s.silent n x = p :: r → x.seals.contains (s.position c.half, s.committed n + 1, 2) = true →
      Reaches (.sealTimeout n) s (fun t => t.regAt n 0x6010 0x0F = toWord (r.foldl min p) ∧
        t.reg (collIndex c.half) 0x0A = s.reg (collIndex c.half) 0x0A + 1 ∧ SameCtxs s t ∧ SameHbm s t))

/-! ### Updates and transfers -/

/-- R340, R343, R345, R410: UPDATE_START begins the update of the first committed context of a half, with G and the
clip factor; one whose S is not finite is skipped. UPDATE_COMPLETE takes the step off the queue and counts it. R347 to
R351: a pass starts (TRANSFER_PASS_START) when rows wait and no snapshot is held, its rows leave one by one
(TRANSFER_ROW_COMPLETE) and the last ends it; GOVERNOR_EVALUATE moves the threshold. -/
def Obligations.UpdatesAndTransfers : Prop :=
  ∀ (s : State), s.key.powered = true →
    (∀ n c k rest sum, s.ctx n = some c → c.commits = k :: rest → k.sum = some sum → s.runs c.half = true →
      s.awake = true → c.releasing = false → s.ctxs.any (fun x => x.half == c.half && x.upd.running) = false →
      (s.half c.half).updates.find? (fun m => match s.ctx m with | some x => x.updateReady | none => false) = some n →
      s.replays n k.step = false →
      (f32Finite sum = true → Reaches (.updateStart n) s (fun t =>
        (∃ d, t.ctx n = some d ∧ d.upd.running = true ∧ d.commits = c.commits) ∧
        t.regAt n 0x5010 0x0A = fsqrt sum ∧ t.regAt n 0x5010 0x0B = clipFactor (s.regAt n 0x5010 0x04) (fsqrt sum) ∧
        SameTiles s t ∧ SameHbm s t)) ∧
      (f32Finite sum = false → Reaches (.updateStart n) s (fun t =>
        (∃ d, t.ctx n = some d ∧ d.upd.running = false ∧ d.commits = rest) ∧
        t.regAt n 0x5010 0x0D = s.regAt n 0x5010 0x0D + 1 ∧ t.val64At n 0x5010 0x08 = k.step % 2 ^ 64 ∧
        SameTiles s t ∧ SameHbm s t))) ∧
    (∀ n c k rest, s.ctx n = some c → c.commits = k :: rest → c.upd.running = true → s.runs c.half = true →
      s.heldIn c.half (s.copySpans c (k.step + 1)) = [] → let i := pick c.half 0x5001 0x5002
      Reaches (.updateComplete n) s (fun t =>
        (∃ d, t.ctx n = some d ∧ d.upd.running = false ∧ d.commits = rest) ∧
        t.val64At n 0x5010 0x08 = k.step % 2 ^ 64 ∧ t.val64 i 0x06 = (s.val64 i 0x06 + 1) % 2 ^ 64 ∧ SameSec s t)) ∧
    (∀ p, let l := s.logicalOr p
      s.runs (halfOf (tileHalf p)) = true → (s.tile p).queue ≠ [] → (s.tile p).inPass = false →
      (s.tile p).programming = false → s.awake = true → s.relocatedTile p = false →
      (s.valAt l 0x4021 0x04 = 0 → Reaches (.transferPassStart p) s (fun t =>
        (t.tile p).inPass = true ∧ (t.tile p).version = [] ∧ (t.tile p).queue = (s.tile p).queue ∧
        t.regAt l 0x4021 0x02 = s.regAt l 0x4021 0x02 + 1 ∧ t.regAt l 0x4021 0x03 = 0 ∧ t.regAt p 0x5020 0x06 = 1 ∧
        OnlyIn [0x4021, 0x5020] s t ∧ SameHbm s t ∧ SameCtxs s t)) ∧
      (s.valAt l 0x4021 0x04 ≠ 0 → Reaches (.transferPassStart p) s (fun t =>
        t.regAt p 0x5020 0x06 = 3 ∧ OnlyIn [0x5020] s t ∧ SameTiles s t ∧ SameHbm s t ∧ SameCtxs s t))) ∧
    (∀ p row meas j, (s.tile p).queue.find? (fun j => j.row == row) = some j →
      ((s.tile p).inPass = false ∨ s.rowFree p = false ∨ s.relocatedTile p = true →
        Reaches (.transferRowComplete p row meas) s (fun t => t = s)) ∧
      ((s.tile p).inPass = true → s.rowFree p = true → s.relocatedTile p = false →
        s.physTile (s.logicalOr p) = some p →
        missed (((s.tile p).changePlan row j.targets j.carry.contains).items.map (fun e =>
          (s.tile p).writeWeight row e.1 e.2.1 e.2.2 meas)) meas = [] →
        let left := (s.tile p).queue.filter (fun x => x.row != row)
        Reaches (.transferRowComplete p row meas) s (fun t =>
          t.val64At p 0x5020 0x08 = (s.val64At p 0x5020 0x08 + 1) % 2 ^ 64 ∧
          (left = [] → (t.tile p).inPass = false ∧ (t.tile p).queue = (s.tile p).nextQueue ∧
            t.regAt p 0x5020 0x06 = 0) ∧
          (left ≠ [] → (t.tile p).inPass = true ∧ (t.tile p).queue = left ∧ t.regAt p 0x5020 0x06 = 1) ∧
          SameHbm s t ∧ SameSec s t))) ∧
    (∀ p c hottest, (s.fabric.logical p).bind s.ownerOf = some c → s.runs (halfOf (tileHalf p)) = true →
      exactE s c.n = false →
      let life := max (s.val 0x5030 0x01 - s.valAt p 0x5020 0x03) (s.val 0x5030 0x05)
      let rate := hottest * 3600 * life
      let allowed := (1000000 - s.valAt p 0x4001 0x12) * s.val 0x5030 0x02
      let theta := s.valAt p 0x5020 0x02
      Reaches (.governorEvaluate p hottest) s (fun t =>
        (allowed < rate → t.valAt p 0x5020 0x02 = min 16 (theta + 1)) ∧
        (rate ≤ allowed → allowed < 2 * rate → t.valAt p 0x5020 0x02 = theta) ∧
        t.flagAt p 0x5020 0x0D 0 = decide (1 < t.valAt p 0x5020 0x02) ∧
        OnlyIn [0x0080, 0x5020, 0x7040, 0xF030] s t ∧ SameHbm s t ∧ SameCtxs s t))

/-! ### Resilience -/

/-- R394 to R397: RISK_EVALUATE forms the score and its level. R402, R403, R407, R426: DRAFT_FRAME_RECEIVE places a
frame of a copy by slot or by a waiting restore; receipts, slot settings and send-backs. -/
def Obligations.RiskAndDrafting : Prop :=
  ∀ (s : State) (h : HalfId),
    (∀ low, s.key.powered = true → let i := riskIndex h
      let e0 := fadd (fmul (s.reg i 0x02) (Config.halfLife (s.val 0x7002 0x03))) (f32OfNat (s.weighedEvents h))
      let e := if flt (f32OfNat 255) e0 then f32OfNat 255 else e0
      let part := s.sparesTerm h + s.enduranceTerm h
      let score := min 255 (floorF32 e + part)
      Reaches (.riskEvaluate h low) s (fun t => t.reg i 0x02 = e ∧ t.val i 0x03 = part ∧ t.val i 0x01 = score ∧
        t.val i 0x04 = nextLevel score (s.val 0x7002 0x01) (s.val 0x7002 0x02) (s.val 0x7002 0x04) (s.val i 0x04) low ∧
        t.val i 0x0E = max (s.val i 0x0E) score ∧ SameHbm s t ∧ SameTiles s t)) ∧
    (∀ f : Frame, s.key.powered = true → f.half = h → s.runs h = true → f.cls = 3 → 32768 ≤ f.item →
      let mine := fun (k : Nat) =>
        slotOn (s.slotWord h k) && slotSource (s.slotWord h k) == f.src && slotGroup (s.slotWord h k) == f.group
      (∀ c, s.awaiting h f = some c → Reaches (.draftFrameReceive f) s (fun t =>
        t.ctx c.n = some { c with restore := some (c.restore.getD [] ++ placed f) } ∧ SameDict s t)) ∧
      (∀ k b, s.awaiting h f = none → (List.range 16).find? mine = some k → framePos f ≠ 0 →
        s.receiving h k f.step = some b → copyEnds (b.bytes ++ placed f) f = false →
        Reaches (.draftFrameReceive f) s (fun t => (t.slotBuf h k b.buf).bytes = b.bytes ++ placed f ∧
          (t.slotBuf h k b.buf).state = 1 ∧ OnlyIn [slotIndex h] s t ∧ SameCtxs s t)) ∧
      (s.awaiting h f = none → (List.range 16).find? mine = none → Reaches (.draftFrameReceive f) s (fun t =>
        t.reg (slotIndex h) 0x0D = s.reg (slotIndex h) 0x0D + 1 ∧ SameCtxs s t ∧ t.slotBufs = s.slotBufs))) ∧
    (∀ (via : Via) (value : BitVec 64), let i := pick h 0x7011 0x7012
      let mine := s.ctxs.filter (fun c => c.half == h && s.valAt c.n 0x7010 0x04 == value.toNat / 2 ^ 48)
      (∀ src at', via.path = .spoke src at' → admits s via i 0x01 (words64 value) = true →
        (mine.filter (fun c => s.sparePosition c.n == src) ≠ [] →
          Takes (.draftReceipt via h value) s via i 0x01 (words64 value) (fun t =>
            t.reg i 0x03 = s.reg i 0x03 + 1 ∧ ∀ c ∈ mine.filter (fun c => s.sparePosition c.n == src),
              t.val64At c.n 0x7010 0x0B = value.toNat % 2 ^ 48)) ∧
        (mine = [] → Refuses (.draftReceipt via h value) s via i 0x01 0x2003) ∧
        (mine ≠ [] → mine.filter (fun c => s.sparePosition c.n == src) = [] →
          Refuses (.draftReceipt via h value) s via i 0x01 0x5001)) ∧
      ((∀ src at', via.path ≠ .spoke src at') → s.key.powered = true → s.mute via.path = false →
        s.standsDown via.path i 0x01 = false → RefusesWith (.draftReceipt via h value) s via i 0x01 0x5001 (fun t =>
          SameCtxs s t ∧ SameHbm s t ∧ OnlyIn [] s t))) ∧
    (∀ (via : Via) (value : BitVec 64), let i := slotIndex h
      let k := s.val i 0x01
      let v := value.toNat
      let old := s.slotWord h k
      admits s via i 0x02 (words64 value) = true → v / 2 % 128 = 0 →
      (slotOn v = true → 16383 < slotSource v → Refuses (.slotEnable via h value) s via i 0x02 0x2003) ∧
      (slotOn v = true → slotSource v ≤ 16383 → 1 ≤ slotAnchor v → slotAnchor v ≤ 4096 → slotGroup v ≠ 0 →
        3 ≤ slotGiB v → slotGiB v ≤ 120 → s.flag 0x7021 0x01 0 = false →
        (s.buffers h k).any (fun b => b.state == 1) = false →
        slotGiB v ≤ s.val (pick h 0x5001 0x5002) 0x05 - s.reserveHeld h k → s.sec.entropyOk = true →
        slotOn old = false → Takes (.slotEnable via h value) s via i 0x02 (words64 value) (fun t =>
          t.slotWord h k = v ∧ (∀ b ∈ t.buffers h k, b.state = 0) ∧
          (∃ key, (halfNum h * 16 + k, key) ∈ t.sec.slotKeys) ∧ SameHbm s t ∧ SameCtxs s t)) ∧
      (slotOn v = false → (s.buffers h k).any (fun b => b.state == 1) = false →
        Takes (.slotEnable via h value) s via i 0x02 (words64 value) (fun t =>
          t.slotWord h k = v ∧ (∀ b ∈ t.buffers h k, b.state = 0) ∧
          (∀ key, (halfNum h * 16 + k, key) ∉ t.sec.slotKeys) ∧ SameHbm s t ∧ SameCtxs s t))) ∧
    (∀ (via : Via) (value : BitVec 64), let i := slotIndex h
      let k := s.val i 0x01
      let step := value.toNat % 2 ^ 48
      admits s via i 0x0B (words64 value) = true →
      ((∀ b ∈ s.buffers h k, b.state = 2 → b.step ≠ step) → Refuses (.sendBack via h value) s via i 0x0B 0x2003) ∧
      ((∃ b ∈ s.buffers h k, b.state = 2 ∧ b.step = step) → s.ticketRoom = true →
        Defers (.sendBack via h value) s via i 0x0B (words64 value) (fun t =>
          (∀ b ∈ t.buffers h k, b.state = 2 → b.step ≤ step) ∧ SameHbm s t)))

/-- R408, R409: a restore of a LOADED context begins; the whole copy that passes its checks is applied, any other ends
it with its status and changes nothing; RESTORE_TIMEOUT ends a wait. R411, R412, R507: a unit becomes suspect once,
the contexts that used it fault, and a spare replaces it when its strands are over. R383, R395: a memory error counts,
and faults the context whose claim it lies in. R427: the log is cleared by 1. -/
def Obligations.RestoresAndRepairs : Prop :=
  ∀ (s : State),
    (∀ (via : Via) (value : Word), let n := s.val 0x7013 0x01
      OneOnly (.restoreStart via value) s via 0x7013 0x06 value ∧
      (presents s via 0x7013 0x06 [1] = true → s.ctxState n ≠ stLoaded →
        Refuses (.restoreStart via 1) s via 0x7013 0x06 0x3003) ∧
      (admits s via 0x7013 0x06 [value] = true → (∀ c, s.ctx n = some c → c.state = stLoaded → s.ticketRoom = true →
        Defers (.restoreStart via value) s via 0x7013 0x06 [value] (fun t =>
          t.ctx n = some { c with restore := none } ∧
          t.valAt n 0x7013 0x07 = (if s.valAt n 0x7013 0x02 = 0xFFFF then 2 else 1) ∧ SameHbm s t)))) ∧
    (∀ (via : Via) (value : Word), OneOnly (.logClear via value) s via 0x7040 0x04 value ∧
      (admits s via 0x7040 0x04 [value] = true → Takes (.logClear via value) s via 0x7040 0x04 [value] (fun t =>
        t.cper = [] ∧ t.val 0x7040 0x01 = 0 ∧ OnlySubs 0x7040 [0x01] s t))) ∧
    (s.key.powered = true →
      (∀ n c seen, s.ctx n = some c → let st := s.valAt n 0x7013 0x07
        let step := s.val64At n 0x7013 0x04
        let fails := fun (i : Instr) (status : Nat) => Reaches i s (fun t => t.valAt n 0x7013 0x07 = 0 ∧
          t.ctx n = some { c with restore := none } ∧ SameHbm s t ∧ SameTiles s t ∧
          ∀ k, s.pendingOn 0x7013 0x06 n = some k → ∃ x ∈ t.svc.tickets, x.num = k.num ∧ x.status = some status)
        (st = 1 ∨ st = 2 → c.state ≠ stLoaded → fails (.restoreApply n seen) 0x3003) ∧
        (st = 2 → c.state = stLoaded → s.restoreBytes c step = none → fails (.restoreApply n seen) 0x2003) ∧
        (st = 1 → c.state = stLoaded → s.restoreBytes c step = none →
          Reaches (.restoreApply n seen) s (fun t => t = s)) ∧
        (∀ l, st = 1 ∨ st = 2 → c.state = stLoaded → s.restoreBytes c step = some l → s.copyStatus c step l ≠ 0 →
          fails (.restoreApply n seen) (s.copyStatus c step l)) ∧
        (∀ l, st = 1 ∨ st = 2 → c.state = stLoaded → s.restoreBytes c step = some l → s.copyStatus c step l = 0 →
          Reaches (.restoreApply n seen) s (fun t => t.valAt n 0x7013 0x07 = 3 ∧
            t.val64 (cidx n) 0x12 = step ∧ t.val64At n 0x5010 0x08 = step ∧
            ∃ d, t.ctx n = some d ∧ d.state = stLoaded ∧
              ∀ i, i < gradLength c → (d.elem i).master = wordAt l (256 + 12 * i))) ∧
        (st = 1 → fails (.restoreTimeout n) 0x3001)) ∧
      (∀ (unit : UnitWord) cause n step, s.suspect unit.toNat = false → 1 ≤ cause → cause ≤ 3 → s.val 0x7020 0x01 < 64 →
        Reaches (.unitSuspect unit cause n step) s (fun t => t.suspect unit.toNat = true ∧ t.flag 0x7021 0x01 0 = true ∧
          (∀ c, s.ctx c.n = some c → c.used.contains unit.toNat = true → c.releasing = false →
            t.ctxState c.n = stFault) ∧ SameHbm s t)) ∧
      (∀ (unit : UnitWord), s.suspect unit.toNat = true →
        let p := unit.toNat % 2 ^ 17
        let sl := unit.toNat / 2 ^ 17 % 64
        s.runs (halfOf (p / 65536)) = true → s.tileInFlight p = false →
        (∀ l q rest, unitKind unit.toNat = 0x01 → s.fabric.relocated = [] → s.fabric.logical p = some l →
          s.fabric.phys l = some p → s.fabric.freeSpares (tileHalf l) (s.fabric.physCourse l) = q :: rest →
          Reaches (.suspectReplace unit) s (fun t => t.fabric.phys l = some q ∧ t.fabric.unusable.contains p = true ∧
            t.reg 0x4005 (0x05 + tileHalf l) = s.reg 0x4005 (0x05 + tileHalf l) + 1 ∧ SameHbm s t)) ∧
        (∀ g q rest g' q' rest', unitKind unit.toNat = 0x02 → (s.tile p).unusable = false →
          s.spareSlices p 0 = q :: rest → s.spareSlices p 1 = q' :: rest' →
          (List.range 32).find? (fun g => s.valAt (p * 2 ^ 18) 0x2010 (0x67 + g) == sl) = some g →
          (List.range 32).find? (fun g => s.valAt (p * 2 ^ 18 + 1) 0x2010 (0x67 + g) == sl) = some g' →
          Reaches (.suspectReplace unit) s (fun t => t.valAt (p * 2 ^ 18) 0x2010 (0x67 + g) = q ∧
            t.valAt (p * 2 ^ 18 + 1) 0x2010 (0x67 + g') = q' ∧ SameFabric s t ∧ SameTiles s t ∧ SameHbm s t))) ∧
      (∀ h course, course < 32 → s.runs h = true →
        let p := s.fabric.physCourse (mkTile (halfNum h) course 0)
        s.suspect (unitWord 0x03 0 (mkTile (halfNum h) p 0xFF)) = true → s.fabric.spareCourseFree (halfNum h) = true →
        s.fabric.courseMap.contains (halfNum h * 64 + course) = false →
        (s.courseBusy h p = false → Reaches (.spareCourseHandover h course) s (fun t =>
          t.fabric.courseMap = s.fabric.courseMap ++ [halfNum h * 64 + course] ∧ SameSec s t)) ∧
        (s.courseBusy h p = true → Reaches (.spareCourseHandover h course) s (fun t => t = s))) ∧
      (∀ h place, s.railsOn h = true → s.fenced h = false → let i := riskIndex h
        Reaches (.memoryError h .corrected place) s (fun t => t.reg i 0x05 = s.reg i 0x05 + 1 ∧ OnlySubs i [0x05] s t ∧
          OnlyIn [i] s t ∧ SameCtxs s t ∧ SameHbm s t) ∧
        Reaches (.memoryError h .uncorrectable place) s (fun t => t.reg i 0x0C = s.reg i 0x0C + 1 ∧ SameHbm s t ∧
          (∀ a c, place = .hbm a → s.claimant h a = some c → s.ctx c.n = some c → c.releasing = false →
            t.ctxState c.n = stFault ∧ t.flag (cidx c.n) 0x02 rMemory = true) ∧
          (∀ u c, place = .buffer u c.n → s.ctx c.n = some c → c.half = h → c.phase ≠ 0 →
            ∃ d, t.ctx c.n = some d ∧ d.stepFailed = true))))

/-! ### Security -/

/-- R454, R460 to R465, R467: SPDM's answers. A signed answer uses the next leaf; while the next tree is built it is
busy and with no leaf left it fails. At most four sessions are held; a session's end holds the contexts bound to it.
-/
def Obligations.SpdmAnswers : Prop :=
  ∀ (s : State), s.key.powered = true →
    let signs := fun (c : Instr) (kind id : Nat) (msg : List Byte) (P : State → Prop) =>
      (s.signStatus = 0 → Reaches c s (fun t =>
        t.out.getLast? = some (.spdm kind id (msg ++ signature s.nextLeaf msg)) ∧ t.nextLeaf = s.nextLeaf + 1 ∧
        SameHbm s t ∧ SameCtxs s t ∧ P t)) ∧
      (s.signStatus = 0x6001 → Reaches c s (fun t => t.out = s.out ++ [.spdmError spdmBusy] ∧ SameDict s t ∧ SameSec s t)) ∧
      (s.signStatus = 0x4002 → Reaches c s (fun t =>
        t.out = s.out ++ [.spdmError spdmUnspecified] ∧ SameDict s t ∧ SameSec s t))
    let errs := fun (c : Instr) (code : Nat) => Reaches c s (fun t => t.out = s.out ++ [.spdmError code] ∧
      SameDict s t ∧ SameSec s t)
    (∀ via, s.isSpdm via = true →
      (∀ nonce, signs (.challenge via nonce) ansChallenge 0 nonce (fun _ => True)) ∧
      (∀ block l, s.measurement via block = some l →
        signs (.getMeasurements via block true) ansMeasurements block l (fun _ => True) ∧
        Reaches (.getMeasurements via block false) s (fun t =>
          t.out = s.out ++ [.spdm ansMeasurements block l] ∧ SameDict s t ∧ SameSec s t)) ∧
      (∀ block signed, s.measurement via block = none → errs (.getMeasurements via block signed) spdmInvalid) ∧
      Reaches (.getCertificate via 0) s (fun t => t.out = s.out ++ [.spdm ansCertificate 0 []] ∧ SameDict s t ∧
        SameSec s t) ∧
      (∀ slot, slot ≠ 0 → errs (.getCertificate via slot) spdmInvalid) ∧
      (∀ id requester mutAuth rooted, s.session id = none →
        (s.sec.sessions.length < 4 → s.sec.entropyOk = true →
          signs (.keyExchange via id requester mutAuth rooted) ansKeyExchange id requester (fun t =>
            ∃ x, t.session id = some x ∧ x.requester = requester ∧ x.mutAuth = mutAuth ∧
              x.rooted = (rooted && s.owned) ∧ x.path = via.path)) ∧
        (4 ≤ s.sec.sessions.length → errs (.keyExchange via id requester mutAuth rooted) spdmSessionLimit) ∧
        (s.sec.sessions.length < 4 → s.sec.entropyOk = false →
          errs (.keyExchange via id requester mutAuth rooted) spdmUnspecified))) ∧
    (∀ (via : Via) (id : Nat) (x : Session), s.isSpdm via = true → via.session = some id →
      s.session id = some x →
      Reaches (.keyUpdate via) s (fun t => t.session id = some { x with keys := x.keys + 1 } ∧
        t.out = s.out ++ [.spdm ansKeyUpdate id []] ∧ SameDict s t) ∧
      Reaches (.spdmHeartbeat via) s (fun t => t.out = s.out ++ [.spdm ansHeartbeat id []] ∧ SameSec s t ∧
        SameDict s t)) ∧
    (∀ (c : Instr) (id : Nat) (x : Session), c = .sessionEnd id ∨ c = .sessionHeartbeatTimeout id →
      s.session id = some x → Reaches c s (fun t => t.session id = none ∧ SameHbm s t ∧
        ∀ k, s.ctx k.n = some k → k.session = some id → k.releasing = false →
          (k.going = true ∨ k.state = stHold ∨ k.state = stLoaded) → t.flag (cidx k.n) 0x02 rTsp = true)) ∧
    Reaches .entropyFailure s (fun t => t.sec.entropyOk = false ∧ SameHbm s t ∧ SameCtxs s t) ∧
    (s.treeDue = true → Reaches .treeBuild s (fun t => t.sec.treeReady = s.sec.treeReady + 1 ∧ SameDict s t)) ∧
    (s.treeDue = false → Reaches .treeBuild s (fun t => t = s))

/-- R459, R467, R476, R481: the commits of staged firmware, the owner root, the release of ownership, the sealing
slots, and a service command, which clears probation and, whatever its outcome, leaves a nonce drawn afresh (the
model's free words, assumption 6); without entropy it is refused (the model's choice, assumption 59). -/
def Obligations.FirmwareAndOwnership : Prop :=
  ∀ (s : State) (via : Via),
    (∀ (keystone : Bool) (value : Word), let sub := if keystone then 0x04 else 0x05
      let c := if keystone then Instr.commitKeystone via value else .commitHalfComponent via value
      OneOnly c s via 0x9010 sub value ∧ (admits s via 0x9010 sub [value] = true →
      (value = 1 → s.key.staged = none → Refuses c s via 0x9010 sub 0x3001) ∧
      (∀ im, value = 1 → s.key.staged = some im → (im.component == 0) = keystone →
        (keystone = false → s.fenced (halfOf im.half) = false) →
        (s.key.commit ≠ none → Refuses c s via 0x9010 sub 0x6001) ∧
        (s.key.commit = none → s.ticketRoom = true → Defers c s via 0x9010 sub [value] (fun t =>
          t.key.commit = some (componentBit im.component im.half, im) ∧ SameHbm s t ∧ SameCtxs s t))))) ∧
    (∀ point, admitsDomain s via 0x9020 0x02 = true → let c := Instr.ownerRootInstall via point
      (point.length ≠ 97 → RefusesWith c s via 0x9020 0x02 0x1005 (fun t => SameSec s t ∧ SameHbm s t)) ∧
      (point.length = 97 → onCurve (point.map (·.toNat)) = false →
        RefusesWith c s via 0x9020 0x02 0x2003 (fun t => SameSec s t ∧ SameHbm s t)) ∧
      (point.length = 97 → onCurve (point.map (·.toNat)) = true → s.ticketRoom = true →
        Defers c s via 0x9020 0x02 [] (fun t => SameSec s t ∧
          ∃ k ∈ t.svc.tickets, k.work = .store 0x9020 0x02 0 (bytesWords point) ∧ k.status = none))) ∧
    (∀ value residual, let c := Instr.releaseOwnership via value residual
      OneOnly c s via 0x9020 0x17 value ∧ (admits s via 0x9020 0x17 [value] = true →
      (value = 1 → s.ctxs ≠ [] → Refuses c s via 0x9020 0x17 0x3001) ∧
      (value = 1 → s.ctxs = [] → s.ticketRoom = true → Defers c s via 0x9020 0x17 [value]
        (fun t => t.sec.sealKeys = [] ∧ t.sec.ownerRoot = [] ∧ t.sec.pk0 = PKeys.empty ∧ t.sec.pk1 = PKeys.empty ∧
          t.owned = false ∧ (∀ h a, s.runs h = true → s.fenced h = false → t.hbmByte h a = 0))))) ∧
    (∀ key, admits s via 0x9020 0x0D key = true → s.ticketRoom = true →
      Defers (.sealingKeyInstall via key) s via 0x9020 0x0D key (fun t => SameSec s t ∧
        ∃ k ∈ t.svc.tickets, k.work = .store 0x9020 0x0D (s.val 0x9020 0x0C) key ∧ k.status = none)) ∧
    (∀ value, OneOnly (.clearSealingSlot via value) s via 0x9020 0x16 value ∧
      (admits s via 0x9020 0x16 [value] = true → Takes (.clearSealingSlot via value) s via 0x9020 0x16 [value] (fun t =>
        t.sealKey (s.val 0x9020 0x0C) = none ∧ t.flag 0x9020 0x0B (s.val 0x9020 0x0C) = false ∧ SameCtxs s t ∧
        OnlySubs 0x9020 [0x0B] s t))) ∧
    (∀ blob, admitsDomain s via 0x9070 0x10 = true → let key := (blob.drop 32).take 60
      let sound := blob.length = 5488 ∧ fieldAt blob 0 4 = 0x4B535643
      let signed := sha256Bytes key = Config.serviceRoot ∧ Config.serviceSigned key (blob.take 92) (blob.drop 92) = true
      let fits := fieldAt blob 8 8 = s.val64 0x0000 0x06 ∧ fieldAt blob 4 4 = 1 ∧
        (blob.drop 16).take 16 = (s.regsAt 0 0x9070 0x0C 4).flatMap wordBytes
      let drawn := fun (t : State) => ∀ j, j < 4 → t.reg 0x9070 (0x0C + j) = Config.freeWord (s.free + j)
      let bad := fun st => RefusesWith (.serviceCommand via blob) s via 0x9070 0x10 st (fun t =>
        drawn t ∧ SameObject 0x7021 s t ∧ SameObject 0x7020 s t)
      (s.sec.entropyOk = false → Refuses (.serviceCommand via blob) s via 0x9070 0x10 0x4002) ∧
      (s.sec.entropyOk = true → ¬ sound → bad 0x1005) ∧ (s.sec.entropyOk = true → sound → ¬ signed → bad 0x5002) ∧
      (s.sec.entropyOk = true → sound → signed → ¬ fits → bad 0x2003) ∧
      (s.sec.entropyOk = true → sound → signed → fits → Takes (.serviceCommand via blob) s via 0x9070 0x10 [] (fun t =>
        drawn t ∧ t.flag 0x7021 0x01 0 = false ∧ t.val 0x7020 0x01 = 0 ∧ SameHbm s t ∧ SameCtxs s t)))

/-- R468, R471, R473, R478 to R480: the peloton keys, the holds of confidential contexts, statements and the sanitize.
-/
def Obligations.KeysHoldsAndSanitize : Prop :=
  ∀ (s : State) (via : Via),
    (∀ (h : HalfId) (words : List Word), let i := pkIndex h
      admits s via i 0x02 words = true → let e := (words.getD 8 0).toNat
      (e ≠ s.val i 0x01 + 1 → Refuses (.pelotonKeyInstall via h words) s via i 0x02 0x2003) ∧
      (e = s.val i 0x01 + 1 → Takes (.pelotonKeyInstall via h words) s via i 0x02 words (fun t =>
        (t.peloton h).next = some { epoch := e, key := words.take 8, current := true } ∧
        (t.peloton h).cur = (s.peloton h).cur ∧ t.flag i 0x0C 2 = true ∧ OnlySubs i [0x0C] s t))) ∧
    (∀ (h : HalfId) (value : Word), let i := pkIndex h
      OneOnly (.pelotonKeyAdvance via h value) s via i 0x0B value ∧ (admits s via i 0x0B [value] = true →
      (value = 1 → (s.peloton h).next = none → Refuses (.pelotonKeyAdvance via h value) s via i 0x0B 0x3001) ∧
      (∀ k, value = 1 → (s.peloton h).next = some k → Takes (.pelotonKeyAdvance via h value) s via i 0x0B [value] (fun t =>
        (t.peloton h).cur = some k ∧ (t.peloton h).prev = (s.peloton h).cur ∧ (t.peloton h).next = none ∧
        t.reg i 0x01 = toWord k.epoch ∧ SameHbm s t ∧ SameCtxs s t)))) ∧
    (∀ h, s.key.powered = true → Reaches (.previousKeyDestroy h) s (fun t => (t.peloton h).prev = none ∧
      (t.peloton h).cur = (s.peloton h).cur ∧ (t.peloton h).next = (s.peloton h).next ∧ OnlyIn [pkIndex h] s t)) ∧
    (∀ (value : Word), let n := s.val 0x9080 0x01
      (s.key.powered = true → s.mute via.path = false → s.standsDown via.path 0x9080 0x02 = false →
        s.sameRequester via n = false →
        RefusesWith (.rebind via value) s via 0x9080 0x02 0x5001 (fun t => SameSec s t ∧ SameCtxs s t ∧ OnlyIn [] s t)) ∧
      (s.key.powered = true → s.mute via.path = false → s.standsDown via.path 0x9080 0x0B = false →
        s.boundSession via n = false →
        RefusesWith (.releaseIdeHold via value) s via 0x9080 0x0B 0x5001 (fun t =>
          SameSec s t ∧ SameCtxs s t ∧ OnlyIn [] s t)) ∧
      (∀ c x id, admits s via 0x9080 0x02 [value] = true → value = 1 → s.ctx n = some c → via.session = some id →
        s.session id = some x →
        (c.confidential = true → c.requester = sha256Bytes x.requester → c.state = stHold → s.hasReason n rTsp = true →
          Takes (.rebind via value) s via 0x9080 0x02 [value] (fun t => (∃ d, t.ctx n = some d ∧ d.session = some x.id) ∧
            t.hasReason n rTsp = false ∧ OnlyIn [cidx n] s t)) ∧
        (c.confidential = true → c.requester = sha256Bytes x.requester → c.state ≠ stHold →
          Refuses (.rebind via value) s via 0x9080 0x02 0x3001)) ∧
      (admits s via 0x9080 0x0B [value] = true → value = 1 →
        (s.boundSession via n = true → s.val 0xA002 0x01 % 8 = 3 → s.ctxState n = stHold → s.hasReason n rIde = true →
          Takes (.releaseIdeHold via value) s via 0x9080 0x0B [value] (fun t => t.hasReason n rIde = false ∧
            SameCtxs s t ∧ OnlyIn [cidx n] s t)))) ∧
    (∀ (value : Word), let n := s.val 0x9070 0x01
      admits s via 0x9070 0x03 [value] = true → value = 1 →
      (s.ctx n = none → Refuses (.signStatement via value) s via 0x9070 0x03 0x3001) ∧
      (∀ c, s.ctx n = some c → c.confidential = false ∨ s.boundSession via n = true →
        (s.ledgerOn n = false → Refuses (.signStatement via value) s via 0x9070 0x03 0x3001) ∧
        (s.ledgerOn n = true → s.signStatus ≠ 0 → Refuses (.signStatement via value) s via 0x9070 0x03 s.signStatus) ∧
        (s.ledgerOn n = true → s.signStatus = 0 → s.ticketRoom = true →
          Defers (.signStatement via value) s via 0x9070 0x03 [value] (fun t => t.nextLeaf = s.nextLeaf + 1 ∧
            let front := s.statementFront c s.nextLeaf
            t.sec.statement = front ++ signature s.nextLeaf front)))) ∧
    (∀ (value : Word), let v := value.toNat
      let h := halfOf (bitsOf v 16 1)
      let c := fun r => Instr.sanitize via value r
      let none' := (v / 2 ^ 28 ≤ 2 ∧ 0x20 < bitsOf v 8 8) ∨ (v / 2 ^ 28 = 1 ∧ 0x21 < bitsOf v 0 8)
      admits s via 0x9060 0x01 [value] = true →
      (bitsOf v 17 11 ≠ 0 → ∀ r, Refuses (c r) s via 0x9060 0x01 0x2004) ∧
      (bitsOf v 17 11 = 0 → none' → ∀ r, Refuses (c r) s via 0x9060 0x01 0x2001) ∧
      (bitsOf v 17 11 = 0 → ¬ none' →
      (v / 2 ^ 28 = 0 ∨ 4 < v / 2 ^ 28 → ∀ r, Refuses (c r) s via 0x9060 0x01 0x2003) ∧
      (v / 2 ^ 28 = 4 → s.ownerSession via = false → ∀ r, Refuses (c r) s via 0x9060 0x01 0x5001) ∧
      (1 ≤ v / 2 ^ 28 → v / 2 ^ 28 ≤ 3 → s.fenced h = false → s.runs h = false →
        ∀ r, Refuses (c r) s via 0x9060 0x01 0x3001) ∧
      (1 ≤ v / 2 ^ 28 → v / 2 ^ 28 ≤ 3 → s.fenced h = false → s.runs h = true → s.anyOwned (sanitizeTiles v) = false →
        s.ticketRoom = true → Defers (c []) s via 0x9060 0x01 [value] (fun t =>
          (∀ p ∈ sanitizeTiles v, (t.tile p).records = [] ∧
            ∀ row col, 16 ≤ row → col < 2240 → (t.tile p).level row col = 0) ∧
          t.sec.sanitizing = some (0, v) ∧ SameHbm s t ∧ SameCtxs s t)) ∧
      (v / 2 ^ 28 = 4 → s.ownerSession via = true → s.anyOwned (sanitizeTiles v) = false → s.ticketRoom = true →
        Defers (c []) s via 0x9060 0x01 [value] (fun t => (∀ h a, s.runs h = true → s.fenced h = false → t.hbmByte h a = 0) ∧
          t.sec.sanitizing = some (0, v) ∧ SameCtxs s t))))

/-! ### Resets and plumb checks -/

/-- R505, R506, R508: a half reset loses what the half holds and starts it anew; it is refused while a context of the
half runs, unless asked for. A tile reset empties the tile's buffers. R509 to R511: a plumb check falls due, and its
outcome counts, asks for calibration or retires the tile; one kept waiting moves the tile's work to a spare. -/
def Obligations.ResetsAndPlumbChecks : Prop :=
  ∀ (s : State),
    (∀ (via : Via) (value : Word) found, let v := value.toNat
      let h := halfOf (v % 2)
      let busy := s.busyHalf h && !s.fenced h && s.railsOn h
      admits s via 0xF010 0x01 [value] = true → v = v % 2 + bitsOf v 8 1 * 256 →
      (busy = true → bitsOf v 8 1 = 0 → Refuses (.halfReset via value found) s via 0xF010 0x01 0x3001) ∧
      (busy = false ∨ bitsOf v 8 1 = 1 → s.ticketRoom = true →
        Defers (.halfReset via value found) s via 0xF010 0x01 [value] (fun t =>
          t.reg 0xF010 (0x03 + halfNum h) = s.reg 0xF010 (0x03 + halfNum h) + 1 ∧ (∀ c ∈ t.ctxs, c.half ≠ h) ∧
          (∀ a, t.hbmByte h a = 0) ∧ t.runs h = false))) ∧
    (∀ (via : Via) (value : Word), let p := value.toNat
      admits s via 0xF010 0x02 [value] = true →
      ((s.tileBusy p || s.ownerGoing p) = true → Refuses (.tileReset via value) s via 0xF010 0x02 0x3001) ∧
      (s.tileBusy p = false → s.ownerGoing p = false → Takes (.tileReset via value) s via 0xF010 0x02 [value] (fun t =>
        (t.tile p).inRing = [] ∧ (t.tile p).outRing = [] ∧ (t.tile p).partials = [] ∧ (t.tile p).flight = [] ∧
        (t.tile p).dirty = false ∧ (t.tile p).calProduct = none ∧ (t.tile p).cells = (s.tile p).cells ∧
        t.reg 0xF010 0x05 = s.reg 0xF010 0x05 + 1 ∧ OnlyIn [0x2010, 0x2011, 0x4014, 0xF010] s t ∧ SameHbm s t ∧
        SameCtxs s t))) ∧
    (s.key.powered = true → ∀ p, s.runs (halfOf (tileHalf p)) = true →
      (isPhysTile p = true → s.tileRole p ≤ 2 → s.plumbState p = 0 →
        (s.plumbOwned p = true → s.val 0xF020 0x01 ≤ s.valAt p 0xF021 0x03) →
        Reaches (.plumbDue p) s (fun t => t.plumbState p = 1 ∧ (t.tile p).plumbDueAt = s.valAt p 0xF021 0x03 ∧
          OnlySubs 0xF021 [0x02] s t ∧ OnlyIn [0xF021] s t ∧ SameHbm s t ∧ SameCtxs s t)) ∧
      (s.plumbState p ≠ 0 → s.tileBusy p = false → s.inSanitize p = false → (s.tile p).programming = false →
        let ends := fun (result : Word) (t : State) => t.regAt p 0xF021 0x03 = 0 ∧ t.regAt p 0xF021 0x04 = result ∧
          t.plumbState p = (if s.plumbState p = 3 then 3 else 0) ∧ SameHbm s t
        Reaches (.plumbCheck p false false false) s (fun t => ends 0 t ∧
          t.regAt p 0xF021 0x05 = s.regAt p 0xF021 0x05 + 1 ∧ OnlyIn [0xF021] s t ∧ SameTiles s t ∧
          SameCtxs s t) ∧
        Reaches (.plumbCheck p false true false) s (fun t => ends 1 t ∧
          (s.calState p = 1 ∨ s.calState p = 2 → t.calState p = 4) ∧ SameTiles s t ∧ SameCtxs s t) ∧
        (∀ v1 v2 v3 l, (v1 || v3) = true → s.addressMap.logical p = some l → (s.tile p).flight = [] →
          Reaches (.plumbCheck p v1 v2 v3) s (fun t => ends 2 t ∧
            t.reg 0x4005 (0x05 + tileHalf l) = s.reg 0x4005 (0x05 + tileHalf l) + 1))) ∧
      (∀ l, s.plumbState p = 1 ∨ s.plumbState p = 4 → s.fabric.logical p = some l → s.plumbOwned p = true →
        s.mayRelocate p l = true → (s.tile p).plumbDueAt + s.val 0xF020 0x02 ≤ s.valAt p 0xF021 0x03 →
        (∀ q, s.relocationSpare l = some q → Reaches (.plumbRelocate p) s (fun t => t.plumbState p = 3 ∧
          t.fabric.relocated = s.fabric.relocated ++ [(l, q)] ∧ (p ≠ q → (t.tile q).records = (s.tile p).records) ∧
          t.regAt p 0xF021 0x06 = s.regAt p 0xF021 0x06 + 1)) ∧
        (s.relocationSpare l = none → Reaches (.plumbRelocate p) s (fun t => t.plumbState p = 4 ∧ SameFabric s t ∧
          (t.tile p).plumbDueAt = s.valAt p 0xF021 0x03))))

/-! ### The whole block -/

/-- A step takes the command at the front of the queue and runs it on the rest; on an empty queue the block idles, and
one keystone count passes, with no write waiting at a manager nothing else changing but clocks and hours (assumption
5, the model's choice). -/
def Obligations.StepTakesTheFrontCommand : Prop :=
  ∀ (s : State),
    (∀ c rest, s.pending = c :: rest → step s = exec c { s with pending := rest }) ∧
    (s.pending = [] → ∃ t, step s = .next t ∧ (s.key.powered = false → t = s) ∧
      (s.key.powered = true → s.half0.tier1 = [] → s.half1.tier1 = [] → t.count = (s.count + 1) % 2 ^ 64 ∧
        SameHbm s t ∧ SameCtxs s t ∧ OnlyIn [0x1000, 0x1005, 0x1015, 0x1016, 0x2012, 0x5020] s t))

/-- R41, R115, R493: the machine as it leaves its maker: nothing waits, no power, no context, no key, every register
of the dictionary at its default, the stores in canonical form and within a half's memory. -/
def Obligations.ResetIsTheUnpoweredPart : Prop :=
  State.reset.pending = [] ∧ State.reset.key.powered = false ∧ State.reset.ctxs = [] ∧ State.reset.sec.sealKeys = [] ∧
  (∀ u i sub, State.reset.regAt u i sub = dictDefault (dkey u i sub)) ∧
  (∀ h a, State.reset.hbmByte h a = 0) ∧ canonical State.reset = true ∧ bounded State.reset = true

/-- Every step keeps the dictionary and both memories in canonical form, and lists no byte beyond a half's 96 GiB. -/
def Obligations.EveryStepKeepsTheStoresCanonical : Prop :=
  ∀ (s t : State), step s = .next t → canonical s = true → bounded s = true → canonical t = true ∧ bounded t = true

/-- The frame of every command over the parts of the state: a part that is not the command's to change is as before,
and no command touches the queue. -/
def Obligations.OtherPartsAreLeftAlone : Prop :=
  ∀ (c : Instr) (s t : State), exec c s = .next t → SamePending s t ∧ ∀ p, p ∉ parts c → SamePart p s t

/-- The frame of every event, read and operation over the dictionary: no register of an object that is not the
command's to change changes, in any instance. -/
def Obligations.OtherObjectsAreLeftAlone : Prop :=
  ∀ (c : Instr) (s t : State) (l : List Nat), exec c s = .next t → objects c = some l →
    ∀ i, i < 65536 → i ∉ l → i < 0x8000 ∨ 0x8C00 ≤ i ∨ Part.ctxObjects ∉ parts c → SameObject i s t

/-- A command stops the block only where the input voltage lies beyond its rating (R40): every other command, and
every command at an input voltage within the rating, answers a next state. -/
def Obligations.OnlyTheRatingStopsTheBlock : Prop :=
  ∀ (c : Instr) (s : State), (∀ t, exec c s ≠ .next t) → exec c s = .fault .outsideRatings ∧
    ∃ mv, 80000 < mv ∧ (c = .supplyBrownout mv ∨ c = .supplyUndervoltageAlert mv ∨ c = .supplyUndervoltageClear mv ∨
      c = .supplyOvervoltageAlert mv ∨ c = .supplyOvervoltageClear mv ∨
      ∃ found, c = .coldPowerOn mv found ∨ c = .supplyRecover mv found ∨ c = .inputSwitchReclose mv found)

/-- A part without power does nothing: a command changes nothing while the keystone is off, but for the input itself
(COLD_POWER_ON, INPUT_SWITCH_RECLOSE), a reversed input and the level of a pin (assumption 15, the model's choice). -/
def Obligations.NothingActsWithoutPower : Prop :=
  ∀ (c : Instr) (s t : State), s.key.powered = false → exec c s = .next t →
    (∀ mv found, c ≠ .coldPowerOn mv found ∧ c ≠ .inputSwitchReclose mv found) → c ≠ .reversePolarity →
    c ≠ .pwrbrkAssert → c ≠ .pwrbrkRelease → t = s

/-! ### Rules stated whole -/

/-- R26: a write of a target half to 0x0040.04. The holder as target changes nothing; a fenced target, one that does
not run and an epoch at its last value are refused; otherwise the target holds the lead at the next epoch, and the
writes that waited for the former holder are refused with 0x3002. -/
def Obligations.MovingTheLeadByCommand : Prop :=
  ∀ (s : State) (via : Via) (v : Word) (h : HalfId), v.toNat = halfNum h → admits s via 0x0040 0x04 [v] = true →
    (s.holder = halfNum h → Takes (.moveLead via v) s via 0x0040 0x04 [v] (fun t =>
      t.holder = s.holder ∧ t.epoch = s.epoch ∧ SameObject 0x0040 s t)) ∧
    (s.holder ≠ halfNum h →
      (s.fenced h = true → Refuses (.moveLead via v) s via 0x0040 0x04 0x3004) ∧
      (s.fenced h = false → s.runs h = false → Refuses (.moveLead via v) s via 0x0040 0x04 0x3001) ∧
      (s.fenced h = false → s.runs h = true → s.epoch = 0xFFFFFFFE →
        Refuses (.moveLead via v) s via 0x0040 0x04 0x2001) ∧
      (s.fenced h = false → s.runs h = true → s.epoch < 0xFFFFFFFE →
        Takes (.moveLead via v) s via 0x0040 0x04 [v] (fun t =>
          t.holder = halfNum h ∧ t.epoch = s.epoch + 1 ∧ t.reg 0x0040 0x06 = s.reg 0x0040 0x06 + 1 ∧
          t.key.hostHeld = [] ∧
          (∀ w ∈ s.key.hostHeld, w.path ≠ .bar2 → ∃ r, .reply w.path r ∈ t.out ∧ r.tag = w.tag ∧ r.status = 0x3002) ∧
          (∀ w, s.key.hostHeld = [w] → w.path = .bar2 → w.index ≠ 0x0010 → t.val 0x0010 0x01 = 0x3002) ∧
          SameHbm s t ∧ SameCtxs s t)))

/-- R396, R397: the level part is 8 for each course with one spare tile left, 24 for each with none and 32 while the
spare course serves, at most 128, and a tenth of what the most worn tile has above 500, at most 64. The level rises at
once to what the score crosses, from 0 straight to 2 too, and falls by one once the score has been low for the
lowering time; a change is logged, and level 2 asks for replacement. -/
def Obligations.LevelPartAndDraftingLevel : Prop :=
  ∀ (s : State) (h : HalfId) (low : Bool), s.key.powered = true → let i := riskIndex h
    let n := halfNum h
    let left := fun (k : Nat) => ((List.range 32).filter (fun c => s.fabric.sparesLeft n c == k)).length
    let serves := s.fabric.courseMap.any (fun k => k / 64 == n)
    let spares := min 128 (8 * left 1 + 24 * left 0 + if serves then 32 else 0)
    let t1 := s.val 0x7002 0x01
    let t2 := s.val 0x7002 0x02
    let hyst := s.val 0x7002 0x04
    let old := s.val i 0x04
    let logged := fun (cls : Nat) (t : State) => ∃ f r rest, t.out = s.out ++ (.record f r :: rest) ∧ r.cls = cls
    Reaches (.riskEvaluate h low) s (fun t =>
      let score := t.val i 0x01
      let level := t.val i 0x04
      (∀ m, (∀ p ∈ physTiles n, (s.fabric.logical p).isSome = true → s.valAt p 0x4001 0x13 ≤ m) →
        (m = 0 ∨ ∃ p ∈ physTiles n, (s.fabric.logical p).isSome = true ∧ s.valAt p 0x4001 0x13 = m) →
        t.val i 0x03 = spares + min 64 ((m - 500) / 10)) ∧
      (old ≤ 2 → t1 ≤ t2 →
        (t2 < score → level = 2) ∧
        (t1 < score → score ≤ t2 → old ≤ 1 → level = 1) ∧
        (score ≤ t1 → old = 0 → level = 0) ∧
        (score + hyst ≤ t2 → old = 2 → low = true → level = 1) ∧
        (score + hyst ≤ t1 → old = 1 → low = true → level = 0) ∧
        (score ≤ t2 → old = 2 → low = false ∨ t2 < score + hyst → level = 2) ∧
        (score ≤ t1 → old = 1 → low = false ∨ t1 < score + hyst → level = 1)) ∧
      (old < level → logged clsWarning t) ∧ (level < old → logged clsInformation t) ∧
      (level = 2 → old ≠ 2 → t.flag 0x0080 (0x01 + n) 0 = true))

/-- R93: a course whose measured factor has stayed too low (PACE_SHORTFALL) is logged as a Warning and counted in
0x1006.06, and the course keeps running: no half, no course, no tile and no context changes. R394: a half that is not
fenced counts a risk event of kind 5. -/
def Obligations.PaceShortfallIsLoggedAndCounted : Prop :=
  ∀ (s : State) (h : HalfId) (course : Nat), s.key.powered = true → course ≤ 0x20 → s.runs h = true →
    Reaches (.paceShortfall h course) s (fun t =>
      t.reg 0x1006 0x06 = s.reg 0x1006 0x06 + 1 ∧
      (∃ r, t.out = s.out ++ [.record (halfFn h) r] ∧ r.cls = clsWarning) ∧
      (s.fenced h = false →
        t.reg (pick h 0x7000 0x7001) 0x0A = s.reg (pick h 0x7000 0x7001) 0x0A + 1) ∧
      OnlyIn [0x1006, 0x7000, 0x7001, 0x7040, 0xF030] s t ∧
      SameHalves s t ∧ SameFabric s t ∧ SameTiles s t ∧ SameCtxs s t ∧ SameHbm s t)
end

