-- ==== Sys2Proof/Laws/Kept.lean ====
section
/-! SUPPORT. Properties of a state that the machine's operations keep. A property is described once, by the kinds of
update that keep it: words of listed dictionary objects (`KeptD`), of the context objects (`KeptN`), of any object
(`KeptA`), words that return to their defaults (`KeptQ`); the memories (`KeptM`), the contexts (`KeptC`), the tiles
(`KeptT`), the security state (`KeptS`), the keystone (`KeptK`), the half managers (`KeptH`), the service state
(`KeptV`), the supply (`KeptU`), the fabric (`KeptB`), the spokes (`KeptL`); every field beside these and the queue
(`Kept`). The files Kept<Module>.lean then show of every definition of a module that it keeps each property kept by
the kinds of update that it makes; a definition whose lemma does not ask for a kind makes no update of that kind, and
none changes the queue. -/

namespace Sys2Proof.Machine

open Sys2Proof

structure Kept (P : State → Prop) : Prop where
  rest : ∀ {t : State} {x_port : Port} {x_lanes : List Lane} {x_slotBufs : List SlotBuf} {x_arbs : List Arb} {x_mortar : List MortarVec} {x_seqs :
      List (Nat × Nat)} {x_cper : List Record} {x_trace : List TraceRec} {x_capture0 : List (Int × Int)}
      {x_capture1 : List (Int × Int)} {x_unsent : List (HalfId × Nat × Out)} {x_out : List Out} {x_free :
      Nat}, P t → P (State.mk t.dict t.key t.sup t.half0 t.half1 x_port t.svc t.ctxs t.tiles t.fabric t.spokes
      x_lanes x_slotBufs x_arbs x_mortar t.sec x_seqs x_cper x_trace x_capture0 x_capture1 t.hbm0 t.hbm1 x_unsent x_out
      x_free t.pending)

/-- Every word of the dictionary index may be written. -/
def KeptAt (P : State → Prop) (i : Nat) : Prop :=
  ∀ (s : State) (u sub : Nat) (v : Word), P s → P (s.putAt u i sub v)

/-- Every word of the listed dictionary indices may be written. -/
structure KeptD (P : State → Prop) (W : List Nat) : Prop where
  mem : ∀ {i : Nat}, i ∈ W → KeptAt P i

/-- Every word of the context objects 0x8000 to 0x8BFF may be written. -/
structure KeptN (P : State → Prop) : Prop where
  mem : ∀ n : Nat, KeptAt P (cidx n)

/-- Every word of the dictionary may be written. -/
structure KeptA (P : State → Prop) : Prop where
  mem : ∀ i : Nat, KeptAt P i

/-- Dictionary words may return to their defaults. -/
structure KeptQ (P : State → Prop) : Prop where
  dropKeys : ∀ {s : State} {p : Nat → Bool}, P s → P (s.dropKeys p)

structure KeptM (P : State → Prop) : Prop where
  clear : ∀ {s : State} {h : HalfId}, P s → P (s.setHbm h [])
  drop : ∀ {s : State} {h : HalfId} {p : Nat → Bool}, P s → P (s.setHbm h (Sparse.drop p (s.hbm h)))
  write : ∀ {s : State} {h : HalfId} {a : Nat} {l : List Byte}, P s → P (s.hbmWrite h a l)

structure KeptC (P : State → Prop) : Prop where
  ctxs : ∀ {x_dict : List (Nat × Word)} {x_key : Keystone} {x_sup : Supply} {x_half0 : HalfCtl} {x_half1 : HalfCtl}
      {x_port : Port} {x_svc : Service} {x_ctxs : List Ctx} {x_tiles : List Tile} {x_fabric : Fabric}
      {x_spokes : List Spoke} {x_lanes : List Lane} {x_slotBufs : List SlotBuf} {x_arbs : List Arb} {x_mortar : List MortarVec} {x_sec :
      Security} {x_seqs : List (Nat × Nat)} {x_cper : List Record} {x_trace : List TraceRec} {x_capture0 :
      List (Int × Int)} {x_capture1 : List (Int × Int)} {x_hbm0 : List Host.Cell} {x_hbm1 : List Host.Cell}
      {x_unsent : List (HalfId × Nat × Out)} {x_out : List Out} {x_free : Nat} {x_pending : List Instr}
      {y_ctxs : List Ctx}, P (State.mk x_dict x_key x_sup x_half0 x_half1 x_port x_svc y_ctxs x_tiles x_fabric
      x_spokes x_lanes x_slotBufs x_arbs x_mortar x_sec x_seqs x_cper x_trace x_capture0 x_capture1 x_hbm0 x_hbm1
      x_unsent x_out x_free x_pending) → P (State.mk x_dict x_key x_sup x_half0 x_half1 x_port x_svc x_ctxs
      x_tiles x_fabric x_spokes x_lanes x_slotBufs x_arbs x_mortar x_sec x_seqs x_cper x_trace x_capture0 x_capture1
      x_hbm0 x_hbm1 x_unsent x_out x_free x_pending)

structure KeptT (P : State → Prop) : Prop where
  tiles : ∀ {x_dict : List (Nat × Word)} {x_key : Keystone} {x_sup : Supply} {x_half0 : HalfCtl} {x_half1 : HalfCtl}
      {x_port : Port} {x_svc : Service} {x_ctxs : List Ctx} {x_tiles : List Tile} {x_fabric : Fabric}
      {x_spokes : List Spoke} {x_lanes : List Lane} {x_slotBufs : List SlotBuf} {x_arbs : List Arb} {x_mortar : List MortarVec} {x_sec :
      Security} {x_seqs : List (Nat × Nat)} {x_cper : List Record} {x_trace : List TraceRec} {x_capture0 :
      List (Int × Int)} {x_capture1 : List (Int × Int)} {x_hbm0 : List Host.Cell} {x_hbm1 : List Host.Cell}
      {x_unsent : List (HalfId × Nat × Out)} {x_out : List Out} {x_free : Nat} {x_pending : List Instr}
      {y_tiles : List Tile}, P (State.mk x_dict x_key x_sup x_half0 x_half1 x_port x_svc x_ctxs y_tiles
      x_fabric x_spokes x_lanes x_slotBufs x_arbs x_mortar x_sec x_seqs x_cper x_trace x_capture0 x_capture1 x_hbm0
      x_hbm1 x_unsent x_out x_free x_pending) → P (State.mk x_dict x_key x_sup x_half0 x_half1 x_port x_svc
      x_ctxs x_tiles x_fabric x_spokes x_lanes x_slotBufs x_arbs x_mortar x_sec x_seqs x_cper x_trace x_capture0
      x_capture1 x_hbm0 x_hbm1 x_unsent x_out x_free x_pending)

structure KeptS (P : State → Prop) : Prop where
  sec : ∀ {x_dict : List (Nat × Word)} {x_key : Keystone} {x_sup : Supply} {x_half0 : HalfCtl} {x_half1 : HalfCtl}
      {x_port : Port} {x_svc : Service} {x_ctxs : List Ctx} {x_tiles : List Tile} {x_fabric : Fabric}
      {x_spokes : List Spoke} {x_lanes : List Lane} {x_slotBufs : List SlotBuf} {x_arbs : List Arb} {x_mortar : List MortarVec} {x_sec :
      Security} {x_seqs : List (Nat × Nat)} {x_cper : List Record} {x_trace : List TraceRec} {x_capture0 :
      List (Int × Int)} {x_capture1 : List (Int × Int)} {x_hbm0 : List Host.Cell} {x_hbm1 : List Host.Cell}
      {x_unsent : List (HalfId × Nat × Out)} {x_out : List Out} {x_free : Nat} {x_pending : List Instr} {y_sec
      : Security}, P (State.mk x_dict x_key x_sup x_half0 x_half1 x_port x_svc x_ctxs x_tiles x_fabric
      x_spokes x_lanes x_slotBufs x_arbs x_mortar y_sec x_seqs x_cper x_trace x_capture0 x_capture1 x_hbm0 x_hbm1
      x_unsent x_out x_free x_pending) → P (State.mk x_dict x_key x_sup x_half0 x_half1 x_port x_svc x_ctxs
      x_tiles x_fabric x_spokes x_lanes x_slotBufs x_arbs x_mortar x_sec x_seqs x_cper x_trace x_capture0 x_capture1
      x_hbm0 x_hbm1 x_unsent x_out x_free x_pending)

structure KeptK (P : State → Prop) : Prop where
  key : ∀ {x_dict : List (Nat × Word)} {x_key : Keystone} {x_sup : Supply} {x_half0 : HalfCtl} {x_half1 : HalfCtl}
      {x_port : Port} {x_svc : Service} {x_ctxs : List Ctx} {x_tiles : List Tile} {x_fabric : Fabric}
      {x_spokes : List Spoke} {x_lanes : List Lane} {x_slotBufs : List SlotBuf} {x_arbs : List Arb} {x_mortar : List MortarVec} {x_sec :
      Security} {x_seqs : List (Nat × Nat)} {x_cper : List Record} {x_trace : List TraceRec} {x_capture0 :
      List (Int × Int)} {x_capture1 : List (Int × Int)} {x_hbm0 : List Host.Cell} {x_hbm1 : List Host.Cell}
      {x_unsent : List (HalfId × Nat × Out)} {x_out : List Out} {x_free : Nat} {x_pending : List Instr} {y_key
      : Keystone}, P (State.mk x_dict y_key x_sup x_half0 x_half1 x_port x_svc x_ctxs x_tiles x_fabric
      x_spokes x_lanes x_slotBufs x_arbs x_mortar x_sec x_seqs x_cper x_trace x_capture0 x_capture1 x_hbm0 x_hbm1
      x_unsent x_out x_free x_pending) → P (State.mk x_dict x_key x_sup x_half0 x_half1 x_port x_svc x_ctxs
      x_tiles x_fabric x_spokes x_lanes x_slotBufs x_arbs x_mortar x_sec x_seqs x_cper x_trace x_capture0 x_capture1
      x_hbm0 x_hbm1 x_unsent x_out x_free x_pending)

structure KeptH (P : State → Prop) : Prop where
  halves : ∀ {x_dict : List (Nat × Word)} {x_key : Keystone} {x_sup : Supply} {x_half0 : HalfCtl} {x_half1 : HalfCtl}
      {x_port : Port} {x_svc : Service} {x_ctxs : List Ctx} {x_tiles : List Tile} {x_fabric : Fabric}
      {x_spokes : List Spoke} {x_lanes : List Lane} {x_slotBufs : List SlotBuf} {x_arbs : List Arb} {x_mortar : List MortarVec} {x_sec :
      Security} {x_seqs : List (Nat × Nat)} {x_cper : List Record} {x_trace : List TraceRec} {x_capture0 :
      List (Int × Int)} {x_capture1 : List (Int × Int)} {x_hbm0 : List Host.Cell} {x_hbm1 : List Host.Cell}
      {x_unsent : List (HalfId × Nat × Out)} {x_out : List Out} {x_free : Nat} {x_pending : List Instr}
      {y_half0 : HalfCtl} {y_half1 : HalfCtl}, P (State.mk x_dict x_key x_sup y_half0 y_half1 x_port x_svc
      x_ctxs x_tiles x_fabric x_spokes x_lanes x_slotBufs x_arbs x_mortar x_sec x_seqs x_cper x_trace x_capture0
      x_capture1 x_hbm0 x_hbm1 x_unsent x_out x_free x_pending) → P (State.mk x_dict x_key x_sup x_half0
      x_half1 x_port x_svc x_ctxs x_tiles x_fabric x_spokes x_lanes x_slotBufs x_arbs x_mortar x_sec x_seqs x_cper
      x_trace x_capture0 x_capture1 x_hbm0 x_hbm1 x_unsent x_out x_free x_pending)

structure KeptV (P : State → Prop) : Prop where
  svc : ∀ {x_dict : List (Nat × Word)} {x_key : Keystone} {x_sup : Supply} {x_half0 : HalfCtl} {x_half1 : HalfCtl}
      {x_port : Port} {x_svc : Service} {x_ctxs : List Ctx} {x_tiles : List Tile} {x_fabric : Fabric}
      {x_spokes : List Spoke} {x_lanes : List Lane} {x_slotBufs : List SlotBuf} {x_arbs : List Arb} {x_mortar : List MortarVec} {x_sec :
      Security} {x_seqs : List (Nat × Nat)} {x_cper : List Record} {x_trace : List TraceRec} {x_capture0 :
      List (Int × Int)} {x_capture1 : List (Int × Int)} {x_hbm0 : List Host.Cell} {x_hbm1 : List Host.Cell}
      {x_unsent : List (HalfId × Nat × Out)} {x_out : List Out} {x_free : Nat} {x_pending : List Instr} {y_svc
      : Service}, P (State.mk x_dict x_key x_sup x_half0 x_half1 x_port y_svc x_ctxs x_tiles x_fabric x_spokes
      x_lanes x_slotBufs x_arbs x_mortar x_sec x_seqs x_cper x_trace x_capture0 x_capture1 x_hbm0 x_hbm1 x_unsent x_out
      x_free x_pending) → P (State.mk x_dict x_key x_sup x_half0 x_half1 x_port x_svc x_ctxs x_tiles x_fabric
      x_spokes x_lanes x_slotBufs x_arbs x_mortar x_sec x_seqs x_cper x_trace x_capture0 x_capture1 x_hbm0 x_hbm1
      x_unsent x_out x_free x_pending)

structure KeptU (P : State → Prop) : Prop where
  sup : ∀ {x_dict : List (Nat × Word)} {x_key : Keystone} {x_sup : Supply} {x_half0 : HalfCtl} {x_half1 : HalfCtl}
      {x_port : Port} {x_svc : Service} {x_ctxs : List Ctx} {x_tiles : List Tile} {x_fabric : Fabric}
      {x_spokes : List Spoke} {x_lanes : List Lane} {x_slotBufs : List SlotBuf} {x_arbs : List Arb} {x_mortar : List MortarVec} {x_sec :
      Security} {x_seqs : List (Nat × Nat)} {x_cper : List Record} {x_trace : List TraceRec} {x_capture0 :
      List (Int × Int)} {x_capture1 : List (Int × Int)} {x_hbm0 : List Host.Cell} {x_hbm1 : List Host.Cell}
      {x_unsent : List (HalfId × Nat × Out)} {x_out : List Out} {x_free : Nat} {x_pending : List Instr} {y_sup
      : Supply}, P (State.mk x_dict x_key y_sup x_half0 x_half1 x_port x_svc x_ctxs x_tiles x_fabric x_spokes
      x_lanes x_slotBufs x_arbs x_mortar x_sec x_seqs x_cper x_trace x_capture0 x_capture1 x_hbm0 x_hbm1 x_unsent x_out
      x_free x_pending) → P (State.mk x_dict x_key x_sup x_half0 x_half1 x_port x_svc x_ctxs x_tiles x_fabric
      x_spokes x_lanes x_slotBufs x_arbs x_mortar x_sec x_seqs x_cper x_trace x_capture0 x_capture1 x_hbm0 x_hbm1
      x_unsent x_out x_free x_pending)

structure KeptB (P : State → Prop) : Prop where
  fabric : ∀ {x_dict : List (Nat × Word)} {x_key : Keystone} {x_sup : Supply} {x_half0 : HalfCtl} {x_half1 : HalfCtl}
      {x_port : Port} {x_svc : Service} {x_ctxs : List Ctx} {x_tiles : List Tile} {x_fabric : Fabric}
      {x_spokes : List Spoke} {x_lanes : List Lane} {x_slotBufs : List SlotBuf} {x_arbs : List Arb} {x_mortar : List MortarVec} {x_sec :
      Security} {x_seqs : List (Nat × Nat)} {x_cper : List Record} {x_trace : List TraceRec} {x_capture0 :
      List (Int × Int)} {x_capture1 : List (Int × Int)} {x_hbm0 : List Host.Cell} {x_hbm1 : List Host.Cell}
      {x_unsent : List (HalfId × Nat × Out)} {x_out : List Out} {x_free : Nat} {x_pending : List Instr}
      {y_fabric : Fabric}, P (State.mk x_dict x_key x_sup x_half0 x_half1 x_port x_svc x_ctxs x_tiles y_fabric
      x_spokes x_lanes x_slotBufs x_arbs x_mortar x_sec x_seqs x_cper x_trace x_capture0 x_capture1 x_hbm0 x_hbm1
      x_unsent x_out x_free x_pending) → P (State.mk x_dict x_key x_sup x_half0 x_half1 x_port x_svc x_ctxs
      x_tiles x_fabric x_spokes x_lanes x_slotBufs x_arbs x_mortar x_sec x_seqs x_cper x_trace x_capture0 x_capture1
      x_hbm0 x_hbm1 x_unsent x_out x_free x_pending)

structure KeptL (P : State → Prop) : Prop where
  spokes : ∀ {x_dict : List (Nat × Word)} {x_key : Keystone} {x_sup : Supply} {x_half0 : HalfCtl} {x_half1 : HalfCtl}
      {x_port : Port} {x_svc : Service} {x_ctxs : List Ctx} {x_tiles : List Tile} {x_fabric : Fabric}
      {x_spokes : List Spoke} {x_lanes : List Lane} {x_slotBufs : List SlotBuf} {x_arbs : List Arb} {x_mortar : List MortarVec} {x_sec :
      Security} {x_seqs : List (Nat × Nat)} {x_cper : List Record} {x_trace : List TraceRec} {x_capture0 :
      List (Int × Int)} {x_capture1 : List (Int × Int)} {x_hbm0 : List Host.Cell} {x_hbm1 : List Host.Cell}
      {x_unsent : List (HalfId × Nat × Out)} {x_out : List Out} {x_free : Nat} {x_pending : List Instr}
      {y_spokes : List Spoke}, P (State.mk x_dict x_key x_sup x_half0 x_half1 x_port x_svc x_ctxs x_tiles
      x_fabric y_spokes x_lanes x_slotBufs x_arbs x_mortar x_sec x_seqs x_cper x_trace x_capture0 x_capture1 x_hbm0
      x_hbm1 x_unsent x_out x_free x_pending) → P (State.mk x_dict x_key x_sup x_half0 x_half1 x_port x_svc
      x_ctxs x_tiles x_fabric x_spokes x_lanes x_slotBufs x_arbs x_mortar x_sec x_seqs x_cper x_trace x_capture0
      x_capture1 x_hbm0 x_hbm1 x_unsent x_out x_free x_pending)

/-- A result's next state. -/
def KeptR (P : State → Prop) (r : Result) : Prop := ∀ t, r = .next t → P t

/-- Every state that a verdict leads to. -/
def KeptX (P : State → Prop) : Verdict → Prop
  | .refuse _ _ => True
  | .counted _ s => P s
  | .apply s => P s
  | .accept _ _ go => ∀ s, P s → P (go s)

def KeptO {β : Type} (P : State → Prop) : Option (State × β) → Prop
  | none => True
  | some p => P p.1

/-! ### Rules -/

/-- What is shown of a value bound on the way. -/
theorem Kept.cut {P : State → Prop} {x : State} {G : Prop} (hx : P x) (h : P x → G) : G := h hx

theorem Kept.cut1 {β : Type} {P : State → Prop} {x : State × β} {G : Prop} (hx : P x.1) (h : P x.1 → G) : G := h hx

theorem Kept.pair {β : Type} {P : State → Prop} {x : State × β} {s : State} {b : β} (h : x = (s, b)) (hx : P x.1) :
    P s := by
  subst h
  exact hx

theorem KeptX.cut {P : State → Prop} {x : Verdict} {G : Prop} (hx : KeptX P x) (h : KeptX P x → G) : G := h hx

theorem Kept.ident {P : State → Prop} {s : State} (h : P s) : P (id s) := h

theorem Kept.foldl {P : State → Prop} {γ : Type} {f : State → γ → State} {l : List γ} {s : State}
    (hf : ∀ t x, P t → P (f t x)) (hs : P s) : P (l.foldl f s) := by
  induction l generalizing s with
  | nil => exact hs
  | cons a r ih => exact ih (hf s a hs)

theorem Kept.foldl1 {P : State → Prop} {γ β : Type} {f : State × β → γ → State × β} {l : List γ} {s : State × β}
    (hf : ∀ t x, P t.1 → P (f t x).1) (hs : P s.1) : P (l.foldl f s).1 := by
  induction l generalizing s with
  | nil => exact hs
  | cons a r ih => exact ih (hf s a hs)

theorem KeptR.next {P : State → Prop} {s : State} (h : P s) : KeptR P (.next s) := by
  intro t ht
  cases ht
  exact h

theorem KeptR.fault {P : State → Prop} (f : Fault) : KeptR P (.fault f) := by
  intro t ht
  cases ht

theorem KeptR.onPower {P : State → Prop} {s : State} {f : State → State} (h : P s) (hf : P s → P (f s)) :
    KeptR P (onPower s f) := by
  unfold Machine.onPower
  split
  · exact KeptR.next (hf h)
  · exact KeptR.next h

theorem KeptX.refuse {P : State → Prop} (a b : Nat) : KeptX P (.refuse a b) := trivial
theorem KeptX.counted {P : State → Prop} {a : Nat} {s : State} (h : P s) : KeptX P (.counted a s) := h
theorem KeptX.apply {P : State → Prop} {s : State} (h : P s) : KeptX P (.apply s) := h
theorem KeptX.accept {P : State → Prop} {w : Deferred} {e : Nat} {go : State → State}
    (h : ∀ s, P s → P (go s)) : KeptX P (.accept w e go) := h

theorem KeptO.none {β : Type} {P : State → Prop} : KeptO P (none : Option (State × β)) := trivial
theorem KeptO.some {β : Type} {P : State → Prop} {s : State} {b : β} (h : P s) : KeptO P (some (s, b)) := h

theorem KeptX.ite {P : State → Prop} {p : Prop} [Decidable p] {a b : Verdict} (ha : KeptX P a) (hb : KeptX P b) :
    KeptX P (if p then a else b) := by split <;> assumption

theorem KeptO.getD {β : Type} {P : State → Prop} {o : Option (State × β)} {d : State × β} (ho : KeptO P o) (hd : P d.1) :
    P (o.getD d).1 := by
  cases o
  · exact hd
  · exact ho

theorem KeptO.of_eq {β : Type} {P : State → Prop} {o : Option (State × β)} {a : State × β} (h : o = Option.some a)
    (ho : KeptO P o) : P a.1 := by
  subst h
  exact ho

theorem KeptO.ite {β : Type} {P : State → Prop} {p : Prop} [Decidable p] {a b : Option (State × β)}
    (ha : KeptO P a) (hb : KeptO P b) : KeptO P (if p then a else b) := by split <;> assumption

/-! ### Primitive updates -/

theorem KeptD.mono {P : State → Prop} {V W : List Nat} (k : KeptD P W)
    (h : V.all (fun i => W.contains i) = true) : KeptD P V where
  mem hi := k.mem (by simpa using List.all_eq_true.mp h _ hi)

theorem KeptA.toD {P : State → Prop} {W : List Nat} (k : KeptA P) : KeptD P W where
  mem _ := k.mem _

theorem KeptA.toN {P : State → Prop} (k : KeptA P) : KeptN P where
  mem _ := k.mem _

theorem pick_mem {h : HalfId} {a b : Nat} {W : List Nat} (ha : a ∈ W) (hb : b ∈ W) : pick h a b ∈ W := by
  cases h <;> assumption

section Words

variable {P : State → Prop} {s : State} {u i sub n : Nat}

theorem State.dropKeys_kept (kq : KeptQ P) {p : Nat → Bool} (h : P s) : P (s.dropKeys p) := kq.dropKeys h

theorem State.putAt_kept (hi : KeptAt P i) {v : Word} (h : P s) : P (s.putAt u i sub v) := hi _ _ _ _ h

theorem State.put_kept (hi : KeptAt P i) (h : P s) : P (s.put i sub n) := hi _ _ _ _ h

theorem State.put64At_kept (hi : KeptAt P i) (h : P s) : P (s.put64At u i sub n) := hi _ _ _ _ (hi _ _ _ _ h)

theorem State.put64_kept (hi : KeptAt P i) (h : P s) : P (s.put64 i sub n) := State.put64At_kept hi h

theorem State.addAt_kept (hi : KeptAt P i) (h : P s) : P (s.addAt u i sub n) := hi _ _ _ _ h

theorem State.bump_kept (hi : KeptAt P i) (h : P s) : P (s.bump i sub) := hi _ _ _ _ h

theorem State.bumpAt_kept (hi : KeptAt P i) (h : P s) : P (s.bumpAt u i sub) := hi _ _ _ _ h

theorem State.add64At_kept (hi : KeptAt P i) (h : P s) : P (s.add64At u i sub n) := State.put64At_kept hi h

theorem State.add64_kept (hi : KeptAt P i) (h : P s) : P (s.add64 i sub n) := State.put64At_kept hi h

theorem State.putBitAt_kept (hi : KeptAt P i) {b : Nat} {v : Bool} (h : P s) : P (s.putBitAt u i sub b v) :=
  hi _ _ _ _ h

theorem State.putFlag_kept (hi : KeptAt P i) {b : Nat} {v : Bool} (h : P s) : P (s.putFlag i sub b v) :=
  hi _ _ _ _ h

end Words

theorem State.putsAt_kept {P : State → Prop} {u i : Nat} (hi : KeptAt P i) {l : List Word} :
    ∀ {s : State} {sub : Nat}, P s → P (s.putsAt u i sub l) := by
  induction l with
  | nil => intro s sub h; exact h
  | cons w r ih => intro s sub h; exact ih (hi _ _ _ _ h)

theorem State.hbmWrite_kept {P : State → Prop} (km : KeptM P) {s : State} {h : HalfId} {a : Nat} {l : List Byte}
    (hs : P s) : P (s.hbmWrite h a l) := km.write hs

theorem State.setHalf_kept {P : State → Prop} (kh : KeptH P) {s : State} {h : HalfId} {c : HalfCtl} (hs : P s) :
    P (s.setHalf h c) := by
  cases h <;> exact kh.halves hs

theorem State.setFn_kept {P : State → Prop} (kk : Kept P) {s : State} {f : Fn} {c : FnState} (hs : P s) :
    P (s.setFn f c) := by
  cases f <;> exact kk.rest hs

theorem when_kept {P : State → Prop} {s : State} {c : Bool} {f : State → State} (hf : P s → P (f s)) (hs : P s) :
    P (when c f s) := by
  unfold Machine.when
  split
  · exact hf hs
  · exact hs

end Sys2Proof.Machine
end

