-- ==== Sys2Proof/Laws/Sparse.lean ====
section
/-! SUPPORT. Laws of the sparse stores: reading after writing, and the canonical form that every operation keeps. -/

namespace Sys2Proof.Machine

open Sys2Proof

/-! ### Reading after writing -/

theorem Sparse.get_erase_self {α : Type} (d : Nat → α) (m : List (Nat × α)) (k : Nat) :
    Sparse.get d (Sparse.erase m k) k = d k := by
  induction m with
  | nil => rfl
  | cons e r ih =>
    by_cases h : e.1 = k
    · simpa [Sparse.erase, h] using ih
    · simpa [Sparse.erase, h, Sparse.get] using ih

theorem Sparse.get_erase_ne {α : Type} (d : Nat → α) (m : List (Nat × α)) {k j : Nat} (h : j ≠ k) :
    Sparse.get d (Sparse.erase m k) j = Sparse.get d m j := by
  induction m with
  | nil => rfl
  | cons e r ih =>
    obtain ⟨a, v⟩ := e
    by_cases hk : a = k
    · subst hk
      simpa [Sparse.erase, Sparse.get, Ne.symm h] using ih
    · by_cases hj : a = j
      · subst hj; simp [Sparse.erase, hk, Sparse.get]
      · simpa [Sparse.erase, hk, Sparse.get, hj] using ih

theorem Sparse.get_insert_ne {α : Type} (d : Nat → α) (m : List (Nat × α)) {k j : Nat} (v : α) (h : j ≠ k) :
    Sparse.get d (Sparse.insert m k v) j = Sparse.get d m j := by
  induction m with
  | nil => simp [Sparse.insert, Sparse.get, Ne.symm h]
  | cons e r ih =>
    obtain ⟨a, x⟩ := e
    by_cases hk : k < a
    · simp [Sparse.insert, hk, Sparse.get, Ne.symm h]
    · simp [Sparse.insert, hk, Sparse.get, ih]

/-- A store does not list a key. -/
def Sparse.free {α : Type} (m : List (Nat × α)) (k : Nat) : Prop := ∀ e ∈ m, e.1 ≠ k

theorem Sparse.free_erase {α : Type} (m : List (Nat × α)) (k : Nat) : Sparse.free (Sparse.erase m k) k := by
  intro e he
  simpa using (List.mem_filter.mp he).2

theorem Sparse.get_insert_self {α : Type} (d : Nat → α) (m : List (Nat × α)) (k : Nat) (v : α)
    (h : Sparse.free m k) : Sparse.get d (Sparse.insert m k v) k = v := by
  induction m with
  | nil => simp [Sparse.insert, Sparse.get]
  | cons e r ih =>
    obtain ⟨a, x⟩ := e
    have ha : a ≠ k := h (a, x) (by simp)
    have hr : Sparse.free r k := fun e he => h e (by simp [he])
    by_cases hk : k < a
    · simp [Sparse.insert, hk, Sparse.get]
    · simp [Sparse.insert, hk, Sparse.get, ha, ih hr]

/-- A write is read back. -/
@[simp] theorem Sparse.get_set_self {α : Type} [DecidableEq α] (d : Nat → α) (m : List (Nat × α)) (k : Nat) (v : α) :
    Sparse.get d (Sparse.set d m k v) k = v := by
  unfold Sparse.set
  split
  · next h => rw [Sparse.get_erase_self, h]
  · exact Sparse.get_insert_self d _ k v (Sparse.free_erase m k)

/-- A write leaves every other key alone. -/
theorem Sparse.get_set_ne {α : Type} [DecidableEq α] (d : Nat → α) (m : List (Nat × α)) {k j : Nat} (v : α)
    (h : j ≠ k) : Sparse.get d (Sparse.set d m k v) j = Sparse.get d m j := by
  unfold Sparse.set
  split
  · exact Sparse.get_erase_ne d m h
  · rw [Sparse.get_insert_ne d _ v h, Sparse.get_erase_ne d m h]

/-- Dropping keys returns them to their default and leaves the others. -/
theorem Sparse.get_drop {α : Type} (d : Nat → α) (p : Nat → Bool) (m : List (Nat × α)) (k : Nat) :
    Sparse.get d (Sparse.drop p m) k = if p k then d k else Sparse.get d m k := by
  induction m with
  | nil => simp [Sparse.drop, Sparse.get]
  | cons e r ih =>
    obtain ⟨a, v⟩ := e
    simp only [Sparse.drop] at ih
    by_cases hp : p a
    · by_cases hk : a = k
      · subst hk; simp [Sparse.drop, hp, ih]
      · simp [Sparse.drop, hp, Sparse.get, hk, ih]
    · by_cases hk : a = k
      · subst hk; simp [Sparse.drop, hp, Sparse.get]
      · simp [Sparse.drop, hp, Sparse.get, hk, ih]

/-! ### The canonical form -/

/-- Keys of a store in rising order have a lower bound that may be lowered. -/
theorem Sparse.above_mono {α : Type} (m : List (Nat × α)) {a b : Nat} (h : a ≤ b) (hm : Sparse.above b m = true) :
    Sparse.above a m = true := by
  cases m with
  | nil => rfl
  | cons e r => simp [Sparse.above] at hm ⊢; exact ⟨by omega, hm.2⟩

theorem Sparse.above_filter {α : Type} (p : Nat × α → Bool) (m : List (Nat × α)) :
    ∀ b, Sparse.above b m = true → Sparse.above b (m.filter p) = true := by
  induction m with
  | nil => intro b _; rfl
  | cons e r ih =>
    intro b h
    simp [Sparse.above] at h
    by_cases hp : p e
    · simp [List.filter, hp, Sparse.above, h.1, ih _ h.2]
    · simp only [List.filter, hp]
      exact ih b (Sparse.above_mono r (by omega) h.2)

theorem Sparse.above_insert {α : Type} (k : Nat) (v : α) (m : List (Nat × α)) :
    ∀ b, b ≤ k → Sparse.free m k → Sparse.above b m = true → Sparse.above b (Sparse.insert m k v) = true := by
  induction m with
  | nil => intro b hb _ _; simp [Sparse.insert, Sparse.above, hb]
  | cons e r ih =>
    intro b hb hf h
    obtain ⟨a, x⟩ := e
    simp [Sparse.above] at h
    have ha : a ≠ k := hf (a, x) (by simp)
    have hr : Sparse.free r k := fun e he => hf e (by simp [he])
    by_cases hk : k < a
    · simp [Sparse.insert, hk, Sparse.above, hb, h.2]
    · simp [Sparse.insert, hk, Sparse.above, h.1]
      exact ih (a + 1) (by omega) hr h.2

theorem Sparse.all_insert {α : Type} (p : Nat × α → Bool) (k : Nat) (v : α) (m : List (Nat × α))
    (hv : p (k, v) = true) (h : m.all p = true) : (Sparse.insert m k v).all p = true := by
  induction m with
  | nil => simp [Sparse.insert, hv]
  | cons e r ih =>
    obtain ⟨a, x⟩ := e
    simp only [List.all_cons, Bool.and_eq_true] at h
    by_cases hk : k < a
    · simp only [Sparse.insert, hk, if_true, List.all_cons, hv, h.1, h.2, Bool.and_self]
    · simp only [Sparse.insert, hk, if_false, List.all_cons, h.1, ih h.2, Bool.and_self]

theorem Sparse.all_filter {α : Type} (p q : Nat × α → Bool) (m : List (Nat × α)) (h : m.all p = true) :
    (m.filter q).all p = true := by
  simp only [List.all_eq_true] at h ⊢
  exact fun e he => h e (List.mem_filter.mp he).1

/-- Writing a key keeps the canonical form. -/
theorem Sparse.wf_set {α : Type} [DecidableEq α] (d : Nat → α) (m : List (Nat × α)) (k : Nat) (v : α)
    (h : Sparse.wf d m = true) : Sparse.wf d (Sparse.set d m k v) = true := by
  simp only [Sparse.wf, Bool.and_eq_true] at h ⊢
  have ha := Sparse.above_filter (fun e => decide (e.1 ≠ k)) m 0 h.1
  have hd := Sparse.all_filter (fun e => decide (e.2 ≠ d e.1)) (fun e => decide (e.1 ≠ k)) m h.2
  unfold Sparse.set
  split
  · exact ⟨ha, hd⟩
  · next hv =>
    exact ⟨Sparse.above_insert k v _ 0 (Nat.zero_le k) (Sparse.free_erase m k) ha,
      Sparse.all_insert _ k v _ (by simpa using hv) hd⟩

/-- Dropping keys keeps it. -/
theorem Sparse.wf_drop {α : Type} [DecidableEq α] (d : Nat → α) (p : Nat → Bool) (m : List (Nat × α))
    (h : Sparse.wf d m = true) : Sparse.wf d (Sparse.drop p m) = true := by
  simp only [Sparse.wf, Bool.and_eq_true] at h ⊢
  exact ⟨Sparse.above_filter _ m 0 h.1, Sparse.all_filter _ _ m h.2⟩

/-- The empty store has it. -/
@[simp] theorem Sparse.wf_nil {α : Type} [DecidableEq α] (d : Nat → α) :
    Sparse.wf d ([] : List (Nat × α)) = true := rfl

/-- Writing bytes keeps the canonical form of a memory. -/
theorem memWrite_wf (l : List Byte) : ∀ (m : List Host.Cell) (a : Nat), Sparse.wf byteDefault m = true →
    Sparse.wf byteDefault (memWrite m a l) = true := by
  induction l with
  | nil => intro m a h; exact h
  | cons b r ih =>
    intro m a h
    refine ih _ _ ?_
    split
    · exact Sparse.wf_set _ _ _ _ h
    · exact h

/-- Cells of a memory lie within a half's 96 GiB. -/
def inBounds (m : List Host.Cell) : Bool := m.all (fun e => decide (e.1 < hbmSize))

theorem inBounds_set (m : List Host.Cell) (a : Nat) (b : Byte) (ha : a < hbmSize) (h : inBounds m = true) :
    inBounds (Sparse.set byteDefault m a b) = true := by
  have hf := Sparse.all_filter (fun e => decide (e.1 < hbmSize)) (fun e => decide (e.1 ≠ a)) m h
  unfold Sparse.set
  split
  · exact hf
  · exact Sparse.all_insert _ a b _ (by simpa using ha) hf

theorem memWrite_inBounds (l : List Byte) : ∀ (m : List Host.Cell) (a : Nat), inBounds m = true →
    inBounds (memWrite m a l) = true := by
  induction l with
  | nil => intro m a h; exact h
  | cons b r ih =>
    intro m a h
    refine ih _ _ ?_
    split
    · next ha => exact inBounds_set m a b ha h
    · exact h

theorem inBounds_drop (p : Nat → Bool) (m : List Host.Cell) (h : inBounds m = true) :
    inBounds (Sparse.drop p m) = true := Sparse.all_filter _ _ m h

/-- A byte after a write of bytes: the byte written where the write reaches it, the former one elsewhere. -/
theorem memWrite_get_outside (l : List Byte) : ∀ (m : List Host.Cell) (a k : Nat), (k < a ∨ a + l.length ≤ k) →
    Sparse.get byteDefault (memWrite m a l) k = Sparse.get byteDefault m k := by
  induction l with
  | nil => intro m a k _; rfl
  | cons b r ih =>
    intro m a k h
    simp only [List.length_cons] at h
    have hne : k ≠ a := by omega
    rw [show memWrite m a (b :: r) =
      memWrite (if a < hbmSize then Sparse.set byteDefault m a b else m) (a + 1) r from rfl,
      ih _ _ _ (by omega)]
    split
    · exact Sparse.get_set_ne _ _ _ hne
    · rfl

theorem memWrite_get_inside (l : List Byte) : ∀ (m : List Host.Cell) (a j : Nat), (h : j < l.length) →
    a + j < hbmSize → Sparse.get byteDefault (memWrite m a l) (a + j) = l[j] := by
  induction l with
  | nil => intro m a j h; simp at h
  | cons b r ih =>
    intro m a j h hs
    cases j with
    | zero =>
      rw [show memWrite m a (b :: r) =
        memWrite (if a < hbmSize then Sparse.set byteDefault m a b else m) (a + 1) r from rfl,
        memWrite_get_outside _ _ _ _ (by omega)]
      have ha : a < hbmSize := by omega
      simp [ha]
    | succ j =>
      rw [show memWrite m a (b :: r) =
        memWrite (if a < hbmSize then Sparse.set byteDefault m a b else m) (a + 1) r from rfl,
        show a + (j + 1) = (a + 1) + j by omega]
      have := ih (if a < hbmSize then Sparse.set byteDefault m a b else m) (a + 1) j
        (by simpa using h) (by omega)
      simpa using this

end Sys2Proof.Machine
end

