-- ==== Sys2Proof/Laws/State.lean ====
section
/-! SUPPORT. What each named update of a state leaves in each field: one lemma per field per update. -/

namespace Sys2Proof.Machine

open Sys2Proof

variable {s : State}

/-! ### putAt -/

@[simp] theorem State.putAt_dict {u i sub : Nat} {v : Word} : (s.putAt u i sub v).dict = Sparse.set dictDefault s.dict (dkey u i sub) v := by unfold State.putAt; rfl
@[simp] theorem State.putAt_key {u i sub : Nat} {v : Word} : (s.putAt u i sub v).key = s.key := by unfold State.putAt; rfl
@[simp] theorem State.putAt_sup {u i sub : Nat} {v : Word} : (s.putAt u i sub v).sup = s.sup := by unfold State.putAt; rfl
@[simp] theorem State.putAt_half0 {u i sub : Nat} {v : Word} : (s.putAt u i sub v).half0 = s.half0 := by unfold State.putAt; rfl
@[simp] theorem State.putAt_half1 {u i sub : Nat} {v : Word} : (s.putAt u i sub v).half1 = s.half1 := by unfold State.putAt; rfl
@[simp] theorem State.putAt_port {u i sub : Nat} {v : Word} : (s.putAt u i sub v).port = s.port := by unfold State.putAt; rfl
@[simp] theorem State.putAt_svc {u i sub : Nat} {v : Word} : (s.putAt u i sub v).svc = s.svc := by unfold State.putAt; rfl
@[simp] theorem State.putAt_ctxs {u i sub : Nat} {v : Word} : (s.putAt u i sub v).ctxs = s.ctxs := by unfold State.putAt; rfl
@[simp] theorem State.putAt_tiles {u i sub : Nat} {v : Word} : (s.putAt u i sub v).tiles = s.tiles := by unfold State.putAt; rfl
@[simp] theorem State.putAt_fabric {u i sub : Nat} {v : Word} : (s.putAt u i sub v).fabric = s.fabric := by unfold State.putAt; rfl
@[simp] theorem State.putAt_spokes {u i sub : Nat} {v : Word} : (s.putAt u i sub v).spokes = s.spokes := by unfold State.putAt; rfl
@[simp] theorem State.putAt_lanes {u i sub : Nat} {v : Word} : (s.putAt u i sub v).lanes = s.lanes := by unfold State.putAt; rfl
@[simp] theorem State.putAt_slotBufs {u i sub : Nat} {v : Word} : (s.putAt u i sub v).slotBufs = s.slotBufs := by unfold State.putAt; rfl
@[simp] theorem State.putAt_arbs {u i sub : Nat} {v : Word} : (s.putAt u i sub v).arbs = s.arbs := by unfold State.putAt; rfl
@[simp] theorem State.putAt_mortar {u i sub : Nat} {v : Word} : (s.putAt u i sub v).mortar = s.mortar := by unfold State.putAt; rfl
@[simp] theorem State.putAt_sec {u i sub : Nat} {v : Word} : (s.putAt u i sub v).sec = s.sec := by unfold State.putAt; rfl
@[simp] theorem State.putAt_seqs {u i sub : Nat} {v : Word} : (s.putAt u i sub v).seqs = s.seqs := by unfold State.putAt; rfl
@[simp] theorem State.putAt_cper {u i sub : Nat} {v : Word} : (s.putAt u i sub v).cper = s.cper := by unfold State.putAt; rfl
@[simp] theorem State.putAt_trace {u i sub : Nat} {v : Word} : (s.putAt u i sub v).trace = s.trace := by unfold State.putAt; rfl
@[simp] theorem State.putAt_capture0 {u i sub : Nat} {v : Word} : (s.putAt u i sub v).capture0 = s.capture0 := by unfold State.putAt; rfl
@[simp] theorem State.putAt_capture1 {u i sub : Nat} {v : Word} : (s.putAt u i sub v).capture1 = s.capture1 := by unfold State.putAt; rfl
@[simp] theorem State.putAt_hbm0 {u i sub : Nat} {v : Word} : (s.putAt u i sub v).hbm0 = s.hbm0 := by unfold State.putAt; rfl
@[simp] theorem State.putAt_hbm1 {u i sub : Nat} {v : Word} : (s.putAt u i sub v).hbm1 = s.hbm1 := by unfold State.putAt; rfl
@[simp] theorem State.putAt_unsent {u i sub : Nat} {v : Word} : (s.putAt u i sub v).unsent = s.unsent := by unfold State.putAt; rfl
@[simp] theorem State.putAt_out {u i sub : Nat} {v : Word} : (s.putAt u i sub v).out = s.out := by unfold State.putAt; rfl
@[simp] theorem State.putAt_free {u i sub : Nat} {v : Word} : (s.putAt u i sub v).free = s.free := by unfold State.putAt; rfl
@[simp] theorem State.putAt_pending {u i sub : Nat} {v : Word} : (s.putAt u i sub v).pending = s.pending := by unfold State.putAt; rfl

/-! ### put -/

@[simp] theorem State.put_dict {i sub n : Nat} : (s.put i sub n).dict = Sparse.set dictDefault s.dict (dkey 0 i sub) (toWord n) := by unfold State.put State.putAt; rfl
@[simp] theorem State.put_key {i sub n : Nat} : (s.put i sub n).key = s.key := by unfold State.put State.putAt; rfl
@[simp] theorem State.put_sup {i sub n : Nat} : (s.put i sub n).sup = s.sup := by unfold State.put State.putAt; rfl
@[simp] theorem State.put_half0 {i sub n : Nat} : (s.put i sub n).half0 = s.half0 := by unfold State.put State.putAt; rfl
@[simp] theorem State.put_half1 {i sub n : Nat} : (s.put i sub n).half1 = s.half1 := by unfold State.put State.putAt; rfl
@[simp] theorem State.put_port {i sub n : Nat} : (s.put i sub n).port = s.port := by unfold State.put State.putAt; rfl
@[simp] theorem State.put_svc {i sub n : Nat} : (s.put i sub n).svc = s.svc := by unfold State.put State.putAt; rfl
@[simp] theorem State.put_ctxs {i sub n : Nat} : (s.put i sub n).ctxs = s.ctxs := by unfold State.put State.putAt; rfl
@[simp] theorem State.put_tiles {i sub n : Nat} : (s.put i sub n).tiles = s.tiles := by unfold State.put State.putAt; rfl
@[simp] theorem State.put_fabric {i sub n : Nat} : (s.put i sub n).fabric = s.fabric := by unfold State.put State.putAt; rfl
@[simp] theorem State.put_spokes {i sub n : Nat} : (s.put i sub n).spokes = s.spokes := by unfold State.put State.putAt; rfl
@[simp] theorem State.put_lanes {i sub n : Nat} : (s.put i sub n).lanes = s.lanes := by unfold State.put State.putAt; rfl
@[simp] theorem State.put_slotBufs {i sub n : Nat} : (s.put i sub n).slotBufs = s.slotBufs := by unfold State.put State.putAt; rfl
@[simp] theorem State.put_arbs {i sub n : Nat} : (s.put i sub n).arbs = s.arbs := by unfold State.put State.putAt; rfl
@[simp] theorem State.put_mortar {i sub n : Nat} : (s.put i sub n).mortar = s.mortar := by unfold State.put State.putAt; rfl
@[simp] theorem State.put_sec {i sub n : Nat} : (s.put i sub n).sec = s.sec := by unfold State.put State.putAt; rfl
@[simp] theorem State.put_seqs {i sub n : Nat} : (s.put i sub n).seqs = s.seqs := by unfold State.put State.putAt; rfl
@[simp] theorem State.put_cper {i sub n : Nat} : (s.put i sub n).cper = s.cper := by unfold State.put State.putAt; rfl
@[simp] theorem State.put_trace {i sub n : Nat} : (s.put i sub n).trace = s.trace := by unfold State.put State.putAt; rfl
@[simp] theorem State.put_capture0 {i sub n : Nat} : (s.put i sub n).capture0 = s.capture0 := by unfold State.put State.putAt; rfl
@[simp] theorem State.put_capture1 {i sub n : Nat} : (s.put i sub n).capture1 = s.capture1 := by unfold State.put State.putAt; rfl
@[simp] theorem State.put_hbm0 {i sub n : Nat} : (s.put i sub n).hbm0 = s.hbm0 := by unfold State.put State.putAt; rfl
@[simp] theorem State.put_hbm1 {i sub n : Nat} : (s.put i sub n).hbm1 = s.hbm1 := by unfold State.put State.putAt; rfl
@[simp] theorem State.put_unsent {i sub n : Nat} : (s.put i sub n).unsent = s.unsent := by unfold State.put State.putAt; rfl
@[simp] theorem State.put_out {i sub n : Nat} : (s.put i sub n).out = s.out := by unfold State.put State.putAt; rfl
@[simp] theorem State.put_free {i sub n : Nat} : (s.put i sub n).free = s.free := by unfold State.put State.putAt; rfl
@[simp] theorem State.put_pending {i sub n : Nat} : (s.put i sub n).pending = s.pending := by unfold State.put State.putAt; rfl

/-! ### dropKeys -/

@[simp] theorem State.dropKeys_dict {p : Nat → Bool} : (s.dropKeys p).dict = Sparse.drop p s.dict := by unfold State.dropKeys; rfl
@[simp] theorem State.dropKeys_key {p : Nat → Bool} : (s.dropKeys p).key = s.key := by unfold State.dropKeys; rfl
@[simp] theorem State.dropKeys_sup {p : Nat → Bool} : (s.dropKeys p).sup = s.sup := by unfold State.dropKeys; rfl
@[simp] theorem State.dropKeys_half0 {p : Nat → Bool} : (s.dropKeys p).half0 = s.half0 := by unfold State.dropKeys; rfl
@[simp] theorem State.dropKeys_half1 {p : Nat → Bool} : (s.dropKeys p).half1 = s.half1 := by unfold State.dropKeys; rfl
@[simp] theorem State.dropKeys_port {p : Nat → Bool} : (s.dropKeys p).port = s.port := by unfold State.dropKeys; rfl
@[simp] theorem State.dropKeys_svc {p : Nat → Bool} : (s.dropKeys p).svc = s.svc := by unfold State.dropKeys; rfl
@[simp] theorem State.dropKeys_ctxs {p : Nat → Bool} : (s.dropKeys p).ctxs = s.ctxs := by unfold State.dropKeys; rfl
@[simp] theorem State.dropKeys_tiles {p : Nat → Bool} : (s.dropKeys p).tiles = s.tiles := by unfold State.dropKeys; rfl
@[simp] theorem State.dropKeys_fabric {p : Nat → Bool} : (s.dropKeys p).fabric = s.fabric := by unfold State.dropKeys; rfl
@[simp] theorem State.dropKeys_spokes {p : Nat → Bool} : (s.dropKeys p).spokes = s.spokes := by unfold State.dropKeys; rfl
@[simp] theorem State.dropKeys_lanes {p : Nat → Bool} : (s.dropKeys p).lanes = s.lanes := by unfold State.dropKeys; rfl
@[simp] theorem State.dropKeys_slotBufs {p : Nat → Bool} : (s.dropKeys p).slotBufs = s.slotBufs := by unfold State.dropKeys; rfl
@[simp] theorem State.dropKeys_arbs {p : Nat → Bool} : (s.dropKeys p).arbs = s.arbs := by unfold State.dropKeys; rfl
@[simp] theorem State.dropKeys_mortar {p : Nat → Bool} : (s.dropKeys p).mortar = s.mortar := by unfold State.dropKeys; rfl
@[simp] theorem State.dropKeys_sec {p : Nat → Bool} : (s.dropKeys p).sec = s.sec := by unfold State.dropKeys; rfl
@[simp] theorem State.dropKeys_seqs {p : Nat → Bool} : (s.dropKeys p).seqs = s.seqs := by unfold State.dropKeys; rfl
@[simp] theorem State.dropKeys_cper {p : Nat → Bool} : (s.dropKeys p).cper = s.cper := by unfold State.dropKeys; rfl
@[simp] theorem State.dropKeys_trace {p : Nat → Bool} : (s.dropKeys p).trace = s.trace := by unfold State.dropKeys; rfl
@[simp] theorem State.dropKeys_capture0 {p : Nat → Bool} : (s.dropKeys p).capture0 = s.capture0 := by unfold State.dropKeys; rfl
@[simp] theorem State.dropKeys_capture1 {p : Nat → Bool} : (s.dropKeys p).capture1 = s.capture1 := by unfold State.dropKeys; rfl
@[simp] theorem State.dropKeys_hbm0 {p : Nat → Bool} : (s.dropKeys p).hbm0 = s.hbm0 := by unfold State.dropKeys; rfl
@[simp] theorem State.dropKeys_hbm1 {p : Nat → Bool} : (s.dropKeys p).hbm1 = s.hbm1 := by unfold State.dropKeys; rfl
@[simp] theorem State.dropKeys_unsent {p : Nat → Bool} : (s.dropKeys p).unsent = s.unsent := by unfold State.dropKeys; rfl
@[simp] theorem State.dropKeys_out {p : Nat → Bool} : (s.dropKeys p).out = s.out := by unfold State.dropKeys; rfl
@[simp] theorem State.dropKeys_free {p : Nat → Bool} : (s.dropKeys p).free = s.free := by unfold State.dropKeys; rfl
@[simp] theorem State.dropKeys_pending {p : Nat → Bool} : (s.dropKeys p).pending = s.pending := by unfold State.dropKeys; rfl

/-! ### emit -/

@[simp] theorem State.emit_dict {o : Out} : (s.emit o).dict = s.dict := by unfold State.emit; rfl
@[simp] theorem State.emit_key {o : Out} : (s.emit o).key = s.key := by unfold State.emit; rfl
@[simp] theorem State.emit_sup {o : Out} : (s.emit o).sup = s.sup := by unfold State.emit; rfl
@[simp] theorem State.emit_half0 {o : Out} : (s.emit o).half0 = s.half0 := by unfold State.emit; rfl
@[simp] theorem State.emit_half1 {o : Out} : (s.emit o).half1 = s.half1 := by unfold State.emit; rfl
@[simp] theorem State.emit_port {o : Out} : (s.emit o).port = s.port := by unfold State.emit; rfl
@[simp] theorem State.emit_svc {o : Out} : (s.emit o).svc = s.svc := by unfold State.emit; rfl
@[simp] theorem State.emit_ctxs {o : Out} : (s.emit o).ctxs = s.ctxs := by unfold State.emit; rfl
@[simp] theorem State.emit_tiles {o : Out} : (s.emit o).tiles = s.tiles := by unfold State.emit; rfl
@[simp] theorem State.emit_fabric {o : Out} : (s.emit o).fabric = s.fabric := by unfold State.emit; rfl
@[simp] theorem State.emit_spokes {o : Out} : (s.emit o).spokes = s.spokes := by unfold State.emit; rfl
@[simp] theorem State.emit_lanes {o : Out} : (s.emit o).lanes = s.lanes := by unfold State.emit; rfl
@[simp] theorem State.emit_slotBufs {o : Out} : (s.emit o).slotBufs = s.slotBufs := by unfold State.emit; rfl
@[simp] theorem State.emit_arbs {o : Out} : (s.emit o).arbs = s.arbs := by unfold State.emit; rfl
@[simp] theorem State.emit_mortar {o : Out} : (s.emit o).mortar = s.mortar := by unfold State.emit; rfl
@[simp] theorem State.emit_sec {o : Out} : (s.emit o).sec = s.sec := by unfold State.emit; rfl
@[simp] theorem State.emit_seqs {o : Out} : (s.emit o).seqs = s.seqs := by unfold State.emit; rfl
@[simp] theorem State.emit_cper {o : Out} : (s.emit o).cper = s.cper := by unfold State.emit; rfl
@[simp] theorem State.emit_trace {o : Out} : (s.emit o).trace = s.trace := by unfold State.emit; rfl
@[simp] theorem State.emit_capture0 {o : Out} : (s.emit o).capture0 = s.capture0 := by unfold State.emit; rfl
@[simp] theorem State.emit_capture1 {o : Out} : (s.emit o).capture1 = s.capture1 := by unfold State.emit; rfl
@[simp] theorem State.emit_hbm0 {o : Out} : (s.emit o).hbm0 = s.hbm0 := by unfold State.emit; rfl
@[simp] theorem State.emit_hbm1 {o : Out} : (s.emit o).hbm1 = s.hbm1 := by unfold State.emit; rfl
@[simp] theorem State.emit_unsent {o : Out} : (s.emit o).unsent = s.unsent := by unfold State.emit; rfl
@[simp] theorem State.emit_out {o : Out} : (s.emit o).out = s.out ++ [o] := by unfold State.emit; rfl
@[simp] theorem State.emit_free {o : Out} : (s.emit o).free = s.free := by unfold State.emit; rfl
@[simp] theorem State.emit_pending {o : Out} : (s.emit o).pending = s.pending := by unfold State.emit; rfl

/-! ### freeSkip -/

@[simp] theorem State.freeSkip_dict {n : Nat} : (s.freeSkip n).dict = s.dict := by unfold State.freeSkip; rfl
@[simp] theorem State.freeSkip_key {n : Nat} : (s.freeSkip n).key = s.key := by unfold State.freeSkip; rfl
@[simp] theorem State.freeSkip_sup {n : Nat} : (s.freeSkip n).sup = s.sup := by unfold State.freeSkip; rfl
@[simp] theorem State.freeSkip_half0 {n : Nat} : (s.freeSkip n).half0 = s.half0 := by unfold State.freeSkip; rfl
@[simp] theorem State.freeSkip_half1 {n : Nat} : (s.freeSkip n).half1 = s.half1 := by unfold State.freeSkip; rfl
@[simp] theorem State.freeSkip_port {n : Nat} : (s.freeSkip n).port = s.port := by unfold State.freeSkip; rfl
@[simp] theorem State.freeSkip_svc {n : Nat} : (s.freeSkip n).svc = s.svc := by unfold State.freeSkip; rfl
@[simp] theorem State.freeSkip_ctxs {n : Nat} : (s.freeSkip n).ctxs = s.ctxs := by unfold State.freeSkip; rfl
@[simp] theorem State.freeSkip_tiles {n : Nat} : (s.freeSkip n).tiles = s.tiles := by unfold State.freeSkip; rfl
@[simp] theorem State.freeSkip_fabric {n : Nat} : (s.freeSkip n).fabric = s.fabric := by unfold State.freeSkip; rfl
@[simp] theorem State.freeSkip_spokes {n : Nat} : (s.freeSkip n).spokes = s.spokes := by unfold State.freeSkip; rfl
@[simp] theorem State.freeSkip_lanes {n : Nat} : (s.freeSkip n).lanes = s.lanes := by unfold State.freeSkip; rfl
@[simp] theorem State.freeSkip_slotBufs {n : Nat} : (s.freeSkip n).slotBufs = s.slotBufs := by unfold State.freeSkip; rfl
@[simp] theorem State.freeSkip_arbs {n : Nat} : (s.freeSkip n).arbs = s.arbs := by unfold State.freeSkip; rfl
@[simp] theorem State.freeSkip_mortar {n : Nat} : (s.freeSkip n).mortar = s.mortar := by unfold State.freeSkip; rfl
@[simp] theorem State.freeSkip_sec {n : Nat} : (s.freeSkip n).sec = s.sec := by unfold State.freeSkip; rfl
@[simp] theorem State.freeSkip_seqs {n : Nat} : (s.freeSkip n).seqs = s.seqs := by unfold State.freeSkip; rfl
@[simp] theorem State.freeSkip_cper {n : Nat} : (s.freeSkip n).cper = s.cper := by unfold State.freeSkip; rfl
@[simp] theorem State.freeSkip_trace {n : Nat} : (s.freeSkip n).trace = s.trace := by unfold State.freeSkip; rfl
@[simp] theorem State.freeSkip_capture0 {n : Nat} : (s.freeSkip n).capture0 = s.capture0 := by unfold State.freeSkip; rfl
@[simp] theorem State.freeSkip_capture1 {n : Nat} : (s.freeSkip n).capture1 = s.capture1 := by unfold State.freeSkip; rfl
@[simp] theorem State.freeSkip_hbm0 {n : Nat} : (s.freeSkip n).hbm0 = s.hbm0 := by unfold State.freeSkip; rfl
@[simp] theorem State.freeSkip_hbm1 {n : Nat} : (s.freeSkip n).hbm1 = s.hbm1 := by unfold State.freeSkip; rfl
@[simp] theorem State.freeSkip_unsent {n : Nat} : (s.freeSkip n).unsent = s.unsent := by unfold State.freeSkip; rfl
@[simp] theorem State.freeSkip_out {n : Nat} : (s.freeSkip n).out = s.out := by unfold State.freeSkip; rfl
@[simp] theorem State.freeSkip_free {n : Nat} : (s.freeSkip n).free = s.free + n := by unfold State.freeSkip; rfl
@[simp] theorem State.freeSkip_pending {n : Nat} : (s.freeSkip n).pending = s.pending := by unfold State.freeSkip; rfl

/-! ### setTile -/

@[simp] theorem State.setTile_dict {t : Tile} : (s.setTile t).dict = s.dict := by unfold State.setTile; rfl
@[simp] theorem State.setTile_key {t : Tile} : (s.setTile t).key = s.key := by unfold State.setTile; rfl
@[simp] theorem State.setTile_sup {t : Tile} : (s.setTile t).sup = s.sup := by unfold State.setTile; rfl
@[simp] theorem State.setTile_half0 {t : Tile} : (s.setTile t).half0 = s.half0 := by unfold State.setTile; rfl
@[simp] theorem State.setTile_half1 {t : Tile} : (s.setTile t).half1 = s.half1 := by unfold State.setTile; rfl
@[simp] theorem State.setTile_port {t : Tile} : (s.setTile t).port = s.port := by unfold State.setTile; rfl
@[simp] theorem State.setTile_svc {t : Tile} : (s.setTile t).svc = s.svc := by unfold State.setTile; rfl
@[simp] theorem State.setTile_ctxs {t : Tile} : (s.setTile t).ctxs = s.ctxs := by unfold State.setTile; rfl
@[simp] theorem State.setTile_tiles {t : Tile} : (s.setTile t).tiles = replaceBy (fun x => x.addr == t.addr) t s.tiles := by unfold State.setTile; rfl
@[simp] theorem State.setTile_fabric {t : Tile} : (s.setTile t).fabric = s.fabric := by unfold State.setTile; rfl
@[simp] theorem State.setTile_spokes {t : Tile} : (s.setTile t).spokes = s.spokes := by unfold State.setTile; rfl
@[simp] theorem State.setTile_lanes {t : Tile} : (s.setTile t).lanes = s.lanes := by unfold State.setTile; rfl
@[simp] theorem State.setTile_slotBufs {t : Tile} : (s.setTile t).slotBufs = s.slotBufs := by unfold State.setTile; rfl
@[simp] theorem State.setTile_arbs {t : Tile} : (s.setTile t).arbs = s.arbs := by unfold State.setTile; rfl
@[simp] theorem State.setTile_mortar {t : Tile} : (s.setTile t).mortar = s.mortar := by unfold State.setTile; rfl
@[simp] theorem State.setTile_sec {t : Tile} : (s.setTile t).sec = s.sec := by unfold State.setTile; rfl
@[simp] theorem State.setTile_seqs {t : Tile} : (s.setTile t).seqs = s.seqs := by unfold State.setTile; rfl
@[simp] theorem State.setTile_cper {t : Tile} : (s.setTile t).cper = s.cper := by unfold State.setTile; rfl
@[simp] theorem State.setTile_trace {t : Tile} : (s.setTile t).trace = s.trace := by unfold State.setTile; rfl
@[simp] theorem State.setTile_capture0 {t : Tile} : (s.setTile t).capture0 = s.capture0 := by unfold State.setTile; rfl
@[simp] theorem State.setTile_capture1 {t : Tile} : (s.setTile t).capture1 = s.capture1 := by unfold State.setTile; rfl
@[simp] theorem State.setTile_hbm0 {t : Tile} : (s.setTile t).hbm0 = s.hbm0 := by unfold State.setTile; rfl
@[simp] theorem State.setTile_hbm1 {t : Tile} : (s.setTile t).hbm1 = s.hbm1 := by unfold State.setTile; rfl
@[simp] theorem State.setTile_unsent {t : Tile} : (s.setTile t).unsent = s.unsent := by unfold State.setTile; rfl
@[simp] theorem State.setTile_out {t : Tile} : (s.setTile t).out = s.out := by unfold State.setTile; rfl
@[simp] theorem State.setTile_free {t : Tile} : (s.setTile t).free = s.free := by unfold State.setTile; rfl
@[simp] theorem State.setTile_pending {t : Tile} : (s.setTile t).pending = s.pending := by unfold State.setTile; rfl

/-! ### modTile -/

@[simp] theorem State.modTile_dict {p : Nat} {f : Tile → Tile} : (s.modTile p f).dict = s.dict := by unfold State.modTile State.setTile; rfl
@[simp] theorem State.modTile_key {p : Nat} {f : Tile → Tile} : (s.modTile p f).key = s.key := by unfold State.modTile State.setTile; rfl
@[simp] theorem State.modTile_sup {p : Nat} {f : Tile → Tile} : (s.modTile p f).sup = s.sup := by unfold State.modTile State.setTile; rfl
@[simp] theorem State.modTile_half0 {p : Nat} {f : Tile → Tile} : (s.modTile p f).half0 = s.half0 := by unfold State.modTile State.setTile; rfl
@[simp] theorem State.modTile_half1 {p : Nat} {f : Tile → Tile} : (s.modTile p f).half1 = s.half1 := by unfold State.modTile State.setTile; rfl
@[simp] theorem State.modTile_port {p : Nat} {f : Tile → Tile} : (s.modTile p f).port = s.port := by unfold State.modTile State.setTile; rfl
@[simp] theorem State.modTile_svc {p : Nat} {f : Tile → Tile} : (s.modTile p f).svc = s.svc := by unfold State.modTile State.setTile; rfl
@[simp] theorem State.modTile_ctxs {p : Nat} {f : Tile → Tile} : (s.modTile p f).ctxs = s.ctxs := by unfold State.modTile State.setTile; rfl
@[simp] theorem State.modTile_tiles {p : Nat} {f : Tile → Tile} : (s.modTile p f).tiles = replaceBy (fun x => x.addr == (f (s.tile p)).addr) (f (s.tile p)) s.tiles := by unfold State.modTile State.setTile; rfl
@[simp] theorem State.modTile_fabric {p : Nat} {f : Tile → Tile} : (s.modTile p f).fabric = s.fabric := by unfold State.modTile State.setTile; rfl
@[simp] theorem State.modTile_spokes {p : Nat} {f : Tile → Tile} : (s.modTile p f).spokes = s.spokes := by unfold State.modTile State.setTile; rfl
@[simp] theorem State.modTile_lanes {p : Nat} {f : Tile → Tile} : (s.modTile p f).lanes = s.lanes := by unfold State.modTile State.setTile; rfl
@[simp] theorem State.modTile_slotBufs {p : Nat} {f : Tile → Tile} : (s.modTile p f).slotBufs = s.slotBufs := by unfold State.modTile State.setTile; rfl
@[simp] theorem State.modTile_arbs {p : Nat} {f : Tile → Tile} : (s.modTile p f).arbs = s.arbs := by unfold State.modTile State.setTile; rfl
@[simp] theorem State.modTile_mortar {p : Nat} {f : Tile → Tile} : (s.modTile p f).mortar = s.mortar := by unfold State.modTile State.setTile; rfl
@[simp] theorem State.modTile_sec {p : Nat} {f : Tile → Tile} : (s.modTile p f).sec = s.sec := by unfold State.modTile State.setTile; rfl
@[simp] theorem State.modTile_seqs {p : Nat} {f : Tile → Tile} : (s.modTile p f).seqs = s.seqs := by unfold State.modTile State.setTile; rfl
@[simp] theorem State.modTile_cper {p : Nat} {f : Tile → Tile} : (s.modTile p f).cper = s.cper := by unfold State.modTile State.setTile; rfl
@[simp] theorem State.modTile_trace {p : Nat} {f : Tile → Tile} : (s.modTile p f).trace = s.trace := by unfold State.modTile State.setTile; rfl
@[simp] theorem State.modTile_capture0 {p : Nat} {f : Tile → Tile} : (s.modTile p f).capture0 = s.capture0 := by unfold State.modTile State.setTile; rfl
@[simp] theorem State.modTile_capture1 {p : Nat} {f : Tile → Tile} : (s.modTile p f).capture1 = s.capture1 := by unfold State.modTile State.setTile; rfl
@[simp] theorem State.modTile_hbm0 {p : Nat} {f : Tile → Tile} : (s.modTile p f).hbm0 = s.hbm0 := by unfold State.modTile State.setTile; rfl
@[simp] theorem State.modTile_hbm1 {p : Nat} {f : Tile → Tile} : (s.modTile p f).hbm1 = s.hbm1 := by unfold State.modTile State.setTile; rfl
@[simp] theorem State.modTile_unsent {p : Nat} {f : Tile → Tile} : (s.modTile p f).unsent = s.unsent := by unfold State.modTile State.setTile; rfl
@[simp] theorem State.modTile_out {p : Nat} {f : Tile → Tile} : (s.modTile p f).out = s.out := by unfold State.modTile State.setTile; rfl
@[simp] theorem State.modTile_free {p : Nat} {f : Tile → Tile} : (s.modTile p f).free = s.free := by unfold State.modTile State.setTile; rfl
@[simp] theorem State.modTile_pending {p : Nat} {f : Tile → Tile} : (s.modTile p f).pending = s.pending := by unfold State.modTile State.setTile; rfl

/-! ### setCtx -/

@[simp] theorem State.setCtx_dict {c : Ctx} : (s.setCtx c).dict = s.dict := by unfold State.setCtx; rfl
@[simp] theorem State.setCtx_key {c : Ctx} : (s.setCtx c).key = s.key := by unfold State.setCtx; rfl
@[simp] theorem State.setCtx_sup {c : Ctx} : (s.setCtx c).sup = s.sup := by unfold State.setCtx; rfl
@[simp] theorem State.setCtx_half0 {c : Ctx} : (s.setCtx c).half0 = s.half0 := by unfold State.setCtx; rfl
@[simp] theorem State.setCtx_half1 {c : Ctx} : (s.setCtx c).half1 = s.half1 := by unfold State.setCtx; rfl
@[simp] theorem State.setCtx_port {c : Ctx} : (s.setCtx c).port = s.port := by unfold State.setCtx; rfl
@[simp] theorem State.setCtx_svc {c : Ctx} : (s.setCtx c).svc = s.svc := by unfold State.setCtx; rfl
@[simp] theorem State.setCtx_ctxs {c : Ctx} : (s.setCtx c).ctxs = replaceBy (fun x => x.n == c.n) c s.ctxs := by unfold State.setCtx; rfl
@[simp] theorem State.setCtx_tiles {c : Ctx} : (s.setCtx c).tiles = s.tiles := by unfold State.setCtx; rfl
@[simp] theorem State.setCtx_fabric {c : Ctx} : (s.setCtx c).fabric = s.fabric := by unfold State.setCtx; rfl
@[simp] theorem State.setCtx_spokes {c : Ctx} : (s.setCtx c).spokes = s.spokes := by unfold State.setCtx; rfl
@[simp] theorem State.setCtx_lanes {c : Ctx} : (s.setCtx c).lanes = s.lanes := by unfold State.setCtx; rfl
@[simp] theorem State.setCtx_slotBufs {c : Ctx} : (s.setCtx c).slotBufs = s.slotBufs := by unfold State.setCtx; rfl
@[simp] theorem State.setCtx_arbs {c : Ctx} : (s.setCtx c).arbs = s.arbs := by unfold State.setCtx; rfl
@[simp] theorem State.setCtx_mortar {c : Ctx} : (s.setCtx c).mortar = s.mortar := by unfold State.setCtx; rfl
@[simp] theorem State.setCtx_sec {c : Ctx} : (s.setCtx c).sec = s.sec := by unfold State.setCtx; rfl
@[simp] theorem State.setCtx_seqs {c : Ctx} : (s.setCtx c).seqs = s.seqs := by unfold State.setCtx; rfl
@[simp] theorem State.setCtx_cper {c : Ctx} : (s.setCtx c).cper = s.cper := by unfold State.setCtx; rfl
@[simp] theorem State.setCtx_trace {c : Ctx} : (s.setCtx c).trace = s.trace := by unfold State.setCtx; rfl
@[simp] theorem State.setCtx_capture0 {c : Ctx} : (s.setCtx c).capture0 = s.capture0 := by unfold State.setCtx; rfl
@[simp] theorem State.setCtx_capture1 {c : Ctx} : (s.setCtx c).capture1 = s.capture1 := by unfold State.setCtx; rfl
@[simp] theorem State.setCtx_hbm0 {c : Ctx} : (s.setCtx c).hbm0 = s.hbm0 := by unfold State.setCtx; rfl
@[simp] theorem State.setCtx_hbm1 {c : Ctx} : (s.setCtx c).hbm1 = s.hbm1 := by unfold State.setCtx; rfl
@[simp] theorem State.setCtx_unsent {c : Ctx} : (s.setCtx c).unsent = s.unsent := by unfold State.setCtx; rfl
@[simp] theorem State.setCtx_out {c : Ctx} : (s.setCtx c).out = s.out := by unfold State.setCtx; rfl
@[simp] theorem State.setCtx_free {c : Ctx} : (s.setCtx c).free = s.free := by unfold State.setCtx; rfl
@[simp] theorem State.setCtx_pending {c : Ctx} : (s.setCtx c).pending = s.pending := by unfold State.setCtx; rfl

/-! ### modCtx -/

@[simp] theorem State.modCtx_dict {n : Nat} {f : Ctx → Ctx} : (s.modCtx n f).dict = s.dict := by unfold State.modCtx; split <;> simp
@[simp] theorem State.modCtx_key {n : Nat} {f : Ctx → Ctx} : (s.modCtx n f).key = s.key := by unfold State.modCtx; split <;> simp
@[simp] theorem State.modCtx_sup {n : Nat} {f : Ctx → Ctx} : (s.modCtx n f).sup = s.sup := by unfold State.modCtx; split <;> simp
@[simp] theorem State.modCtx_half0 {n : Nat} {f : Ctx → Ctx} : (s.modCtx n f).half0 = s.half0 := by unfold State.modCtx; split <;> simp
@[simp] theorem State.modCtx_half1 {n : Nat} {f : Ctx → Ctx} : (s.modCtx n f).half1 = s.half1 := by unfold State.modCtx; split <;> simp
@[simp] theorem State.modCtx_port {n : Nat} {f : Ctx → Ctx} : (s.modCtx n f).port = s.port := by unfold State.modCtx; split <;> simp
@[simp] theorem State.modCtx_svc {n : Nat} {f : Ctx → Ctx} : (s.modCtx n f).svc = s.svc := by unfold State.modCtx; split <;> simp
@[simp] theorem State.modCtx_tiles {n : Nat} {f : Ctx → Ctx} : (s.modCtx n f).tiles = s.tiles := by unfold State.modCtx; split <;> simp
@[simp] theorem State.modCtx_fabric {n : Nat} {f : Ctx → Ctx} : (s.modCtx n f).fabric = s.fabric := by unfold State.modCtx; split <;> simp
@[simp] theorem State.modCtx_spokes {n : Nat} {f : Ctx → Ctx} : (s.modCtx n f).spokes = s.spokes := by unfold State.modCtx; split <;> simp
@[simp] theorem State.modCtx_lanes {n : Nat} {f : Ctx → Ctx} : (s.modCtx n f).lanes = s.lanes := by unfold State.modCtx; split <;> simp
@[simp] theorem State.modCtx_slotBufs {n : Nat} {f : Ctx → Ctx} : (s.modCtx n f).slotBufs = s.slotBufs := by unfold State.modCtx; split <;> simp
@[simp] theorem State.modCtx_arbs {n : Nat} {f : Ctx → Ctx} : (s.modCtx n f).arbs = s.arbs := by unfold State.modCtx; split <;> simp
@[simp] theorem State.modCtx_mortar {n : Nat} {f : Ctx → Ctx} : (s.modCtx n f).mortar = s.mortar := by unfold State.modCtx; split <;> simp
@[simp] theorem State.modCtx_sec {n : Nat} {f : Ctx → Ctx} : (s.modCtx n f).sec = s.sec := by unfold State.modCtx; split <;> simp
@[simp] theorem State.modCtx_seqs {n : Nat} {f : Ctx → Ctx} : (s.modCtx n f).seqs = s.seqs := by unfold State.modCtx; split <;> simp
@[simp] theorem State.modCtx_cper {n : Nat} {f : Ctx → Ctx} : (s.modCtx n f).cper = s.cper := by unfold State.modCtx; split <;> simp
@[simp] theorem State.modCtx_trace {n : Nat} {f : Ctx → Ctx} : (s.modCtx n f).trace = s.trace := by unfold State.modCtx; split <;> simp
@[simp] theorem State.modCtx_capture0 {n : Nat} {f : Ctx → Ctx} : (s.modCtx n f).capture0 = s.capture0 := by unfold State.modCtx; split <;> simp
@[simp] theorem State.modCtx_capture1 {n : Nat} {f : Ctx → Ctx} : (s.modCtx n f).capture1 = s.capture1 := by unfold State.modCtx; split <;> simp
@[simp] theorem State.modCtx_hbm0 {n : Nat} {f : Ctx → Ctx} : (s.modCtx n f).hbm0 = s.hbm0 := by unfold State.modCtx; split <;> simp
@[simp] theorem State.modCtx_hbm1 {n : Nat} {f : Ctx → Ctx} : (s.modCtx n f).hbm1 = s.hbm1 := by unfold State.modCtx; split <;> simp
@[simp] theorem State.modCtx_unsent {n : Nat} {f : Ctx → Ctx} : (s.modCtx n f).unsent = s.unsent := by unfold State.modCtx; split <;> simp
@[simp] theorem State.modCtx_out {n : Nat} {f : Ctx → Ctx} : (s.modCtx n f).out = s.out := by unfold State.modCtx; split <;> simp
@[simp] theorem State.modCtx_free {n : Nat} {f : Ctx → Ctx} : (s.modCtx n f).free = s.free := by unfold State.modCtx; split <;> simp
@[simp] theorem State.modCtx_pending {n : Nat} {f : Ctx → Ctx} : (s.modCtx n f).pending = s.pending := by unfold State.modCtx; split <;> simp

/-! ### signal -/

@[simp] theorem State.signal_dict {f : Fn} {v : Nat} : (s.signal f v).dict = s.dict := by unfold State.signal; split <;> rfl
@[simp] theorem State.signal_key {f : Fn} {v : Nat} : (s.signal f v).key = s.key := by unfold State.signal; split <;> rfl
@[simp] theorem State.signal_sup {f : Fn} {v : Nat} : (s.signal f v).sup = s.sup := by unfold State.signal; split <;> rfl
@[simp] theorem State.signal_half0 {f : Fn} {v : Nat} : (s.signal f v).half0 = s.half0 := by unfold State.signal; split <;> rfl
@[simp] theorem State.signal_half1 {f : Fn} {v : Nat} : (s.signal f v).half1 = s.half1 := by unfold State.signal; split <;> rfl
@[simp] theorem State.signal_svc {f : Fn} {v : Nat} : (s.signal f v).svc = s.svc := by unfold State.signal; split <;> rfl
@[simp] theorem State.signal_ctxs {f : Fn} {v : Nat} : (s.signal f v).ctxs = s.ctxs := by unfold State.signal; split <;> rfl
@[simp] theorem State.signal_tiles {f : Fn} {v : Nat} : (s.signal f v).tiles = s.tiles := by unfold State.signal; split <;> rfl
@[simp] theorem State.signal_fabric {f : Fn} {v : Nat} : (s.signal f v).fabric = s.fabric := by unfold State.signal; split <;> rfl
@[simp] theorem State.signal_spokes {f : Fn} {v : Nat} : (s.signal f v).spokes = s.spokes := by unfold State.signal; split <;> rfl
@[simp] theorem State.signal_lanes {f : Fn} {v : Nat} : (s.signal f v).lanes = s.lanes := by unfold State.signal; split <;> rfl
@[simp] theorem State.signal_slotBufs {f : Fn} {v : Nat} : (s.signal f v).slotBufs = s.slotBufs := by unfold State.signal; split <;> rfl
@[simp] theorem State.signal_arbs {f : Fn} {v : Nat} : (s.signal f v).arbs = s.arbs := by unfold State.signal; split <;> rfl
@[simp] theorem State.signal_mortar {f : Fn} {v : Nat} : (s.signal f v).mortar = s.mortar := by unfold State.signal; split <;> rfl
@[simp] theorem State.signal_sec {f : Fn} {v : Nat} : (s.signal f v).sec = s.sec := by unfold State.signal; split <;> rfl
@[simp] theorem State.signal_seqs {f : Fn} {v : Nat} : (s.signal f v).seqs = s.seqs := by unfold State.signal; split <;> rfl
@[simp] theorem State.signal_cper {f : Fn} {v : Nat} : (s.signal f v).cper = s.cper := by unfold State.signal; split <;> rfl
@[simp] theorem State.signal_trace {f : Fn} {v : Nat} : (s.signal f v).trace = s.trace := by unfold State.signal; split <;> rfl
@[simp] theorem State.signal_capture0 {f : Fn} {v : Nat} : (s.signal f v).capture0 = s.capture0 := by unfold State.signal; split <;> rfl
@[simp] theorem State.signal_capture1 {f : Fn} {v : Nat} : (s.signal f v).capture1 = s.capture1 := by unfold State.signal; split <;> rfl
@[simp] theorem State.signal_hbm0 {f : Fn} {v : Nat} : (s.signal f v).hbm0 = s.hbm0 := by unfold State.signal; split <;> rfl
@[simp] theorem State.signal_hbm1 {f : Fn} {v : Nat} : (s.signal f v).hbm1 = s.hbm1 := by unfold State.signal; split <;> rfl
@[simp] theorem State.signal_unsent {f : Fn} {v : Nat} : (s.signal f v).unsent = s.unsent := by unfold State.signal; split <;> rfl
@[simp] theorem State.signal_out {f : Fn} {v : Nat} : (s.signal f v).out = s.out := by unfold State.signal; split <;> rfl
@[simp] theorem State.signal_free {f : Fn} {v : Nat} : (s.signal f v).free = s.free := by unfold State.signal; split <;> rfl
@[simp] theorem State.signal_pending {f : Fn} {v : Nat} : (s.signal f v).pending = s.pending := by unfold State.signal; split <;> rfl

/-! ### setHalf -/

@[simp] theorem State.setHalf_dict {h : HalfId} {c : HalfCtl} : (s.setHalf h c).dict = s.dict := by cases h <;> rfl
@[simp] theorem State.setHalf_key {h : HalfId} {c : HalfCtl} : (s.setHalf h c).key = s.key := by cases h <;> rfl
@[simp] theorem State.setHalf_sup {h : HalfId} {c : HalfCtl} : (s.setHalf h c).sup = s.sup := by cases h <;> rfl
@[simp] theorem State.setHalf_port {h : HalfId} {c : HalfCtl} : (s.setHalf h c).port = s.port := by cases h <;> rfl
@[simp] theorem State.setHalf_svc {h : HalfId} {c : HalfCtl} : (s.setHalf h c).svc = s.svc := by cases h <;> rfl
@[simp] theorem State.setHalf_ctxs {h : HalfId} {c : HalfCtl} : (s.setHalf h c).ctxs = s.ctxs := by cases h <;> rfl
@[simp] theorem State.setHalf_tiles {h : HalfId} {c : HalfCtl} : (s.setHalf h c).tiles = s.tiles := by cases h <;> rfl
@[simp] theorem State.setHalf_fabric {h : HalfId} {c : HalfCtl} : (s.setHalf h c).fabric = s.fabric := by cases h <;> rfl
@[simp] theorem State.setHalf_spokes {h : HalfId} {c : HalfCtl} : (s.setHalf h c).spokes = s.spokes := by cases h <;> rfl
@[simp] theorem State.setHalf_lanes {h : HalfId} {c : HalfCtl} : (s.setHalf h c).lanes = s.lanes := by cases h <;> rfl
@[simp] theorem State.setHalf_slotBufs {h : HalfId} {c : HalfCtl} : (s.setHalf h c).slotBufs = s.slotBufs := by cases h <;> rfl
@[simp] theorem State.setHalf_arbs {h : HalfId} {c : HalfCtl} : (s.setHalf h c).arbs = s.arbs := by cases h <;> rfl
@[simp] theorem State.setHalf_mortar {h : HalfId} {c : HalfCtl} : (s.setHalf h c).mortar = s.mortar := by cases h <;> rfl
@[simp] theorem State.setHalf_sec {h : HalfId} {c : HalfCtl} : (s.setHalf h c).sec = s.sec := by cases h <;> rfl
@[simp] theorem State.setHalf_seqs {h : HalfId} {c : HalfCtl} : (s.setHalf h c).seqs = s.seqs := by cases h <;> rfl
@[simp] theorem State.setHalf_cper {h : HalfId} {c : HalfCtl} : (s.setHalf h c).cper = s.cper := by cases h <;> rfl
@[simp] theorem State.setHalf_trace {h : HalfId} {c : HalfCtl} : (s.setHalf h c).trace = s.trace := by cases h <;> rfl
@[simp] theorem State.setHalf_capture0 {h : HalfId} {c : HalfCtl} : (s.setHalf h c).capture0 = s.capture0 := by cases h <;> rfl
@[simp] theorem State.setHalf_capture1 {h : HalfId} {c : HalfCtl} : (s.setHalf h c).capture1 = s.capture1 := by cases h <;> rfl
@[simp] theorem State.setHalf_hbm0 {h : HalfId} {c : HalfCtl} : (s.setHalf h c).hbm0 = s.hbm0 := by cases h <;> rfl
@[simp] theorem State.setHalf_hbm1 {h : HalfId} {c : HalfCtl} : (s.setHalf h c).hbm1 = s.hbm1 := by cases h <;> rfl
@[simp] theorem State.setHalf_unsent {h : HalfId} {c : HalfCtl} : (s.setHalf h c).unsent = s.unsent := by cases h <;> rfl
@[simp] theorem State.setHalf_out {h : HalfId} {c : HalfCtl} : (s.setHalf h c).out = s.out := by cases h <;> rfl
@[simp] theorem State.setHalf_free {h : HalfId} {c : HalfCtl} : (s.setHalf h c).free = s.free := by cases h <;> rfl
@[simp] theorem State.setHalf_pending {h : HalfId} {c : HalfCtl} : (s.setHalf h c).pending = s.pending := by cases h <;> rfl

/-! ### modHalf -/

@[simp] theorem State.modHalf_dict {h : HalfId} {f : HalfCtl → HalfCtl} : (s.modHalf h f).dict = s.dict := by unfold State.modHalf; simp
@[simp] theorem State.modHalf_key {h : HalfId} {f : HalfCtl → HalfCtl} : (s.modHalf h f).key = s.key := by unfold State.modHalf; simp
@[simp] theorem State.modHalf_sup {h : HalfId} {f : HalfCtl → HalfCtl} : (s.modHalf h f).sup = s.sup := by unfold State.modHalf; simp
@[simp] theorem State.modHalf_port {h : HalfId} {f : HalfCtl → HalfCtl} : (s.modHalf h f).port = s.port := by unfold State.modHalf; simp
@[simp] theorem State.modHalf_svc {h : HalfId} {f : HalfCtl → HalfCtl} : (s.modHalf h f).svc = s.svc := by unfold State.modHalf; simp
@[simp] theorem State.modHalf_ctxs {h : HalfId} {f : HalfCtl → HalfCtl} : (s.modHalf h f).ctxs = s.ctxs := by unfold State.modHalf; simp
@[simp] theorem State.modHalf_tiles {h : HalfId} {f : HalfCtl → HalfCtl} : (s.modHalf h f).tiles = s.tiles := by unfold State.modHalf; simp
@[simp] theorem State.modHalf_fabric {h : HalfId} {f : HalfCtl → HalfCtl} : (s.modHalf h f).fabric = s.fabric := by unfold State.modHalf; simp
@[simp] theorem State.modHalf_spokes {h : HalfId} {f : HalfCtl → HalfCtl} : (s.modHalf h f).spokes = s.spokes := by unfold State.modHalf; simp
@[simp] theorem State.modHalf_lanes {h : HalfId} {f : HalfCtl → HalfCtl} : (s.modHalf h f).lanes = s.lanes := by unfold State.modHalf; simp
@[simp] theorem State.modHalf_slotBufs {h : HalfId} {f : HalfCtl → HalfCtl} : (s.modHalf h f).slotBufs = s.slotBufs := by unfold State.modHalf; simp
@[simp] theorem State.modHalf_arbs {h : HalfId} {f : HalfCtl → HalfCtl} : (s.modHalf h f).arbs = s.arbs := by unfold State.modHalf; simp
@[simp] theorem State.modHalf_mortar {h : HalfId} {f : HalfCtl → HalfCtl} : (s.modHalf h f).mortar = s.mortar := by unfold State.modHalf; simp
@[simp] theorem State.modHalf_sec {h : HalfId} {f : HalfCtl → HalfCtl} : (s.modHalf h f).sec = s.sec := by unfold State.modHalf; simp
@[simp] theorem State.modHalf_seqs {h : HalfId} {f : HalfCtl → HalfCtl} : (s.modHalf h f).seqs = s.seqs := by unfold State.modHalf; simp
@[simp] theorem State.modHalf_cper {h : HalfId} {f : HalfCtl → HalfCtl} : (s.modHalf h f).cper = s.cper := by unfold State.modHalf; simp
@[simp] theorem State.modHalf_trace {h : HalfId} {f : HalfCtl → HalfCtl} : (s.modHalf h f).trace = s.trace := by unfold State.modHalf; simp
@[simp] theorem State.modHalf_capture0 {h : HalfId} {f : HalfCtl → HalfCtl} : (s.modHalf h f).capture0 = s.capture0 := by unfold State.modHalf; simp
@[simp] theorem State.modHalf_capture1 {h : HalfId} {f : HalfCtl → HalfCtl} : (s.modHalf h f).capture1 = s.capture1 := by unfold State.modHalf; simp
@[simp] theorem State.modHalf_hbm0 {h : HalfId} {f : HalfCtl → HalfCtl} : (s.modHalf h f).hbm0 = s.hbm0 := by unfold State.modHalf; simp
@[simp] theorem State.modHalf_hbm1 {h : HalfId} {f : HalfCtl → HalfCtl} : (s.modHalf h f).hbm1 = s.hbm1 := by unfold State.modHalf; simp
@[simp] theorem State.modHalf_unsent {h : HalfId} {f : HalfCtl → HalfCtl} : (s.modHalf h f).unsent = s.unsent := by unfold State.modHalf; simp
@[simp] theorem State.modHalf_out {h : HalfId} {f : HalfCtl → HalfCtl} : (s.modHalf h f).out = s.out := by unfold State.modHalf; simp
@[simp] theorem State.modHalf_free {h : HalfId} {f : HalfCtl → HalfCtl} : (s.modHalf h f).free = s.free := by unfold State.modHalf; simp
@[simp] theorem State.modHalf_pending {h : HalfId} {f : HalfCtl → HalfCtl} : (s.modHalf h f).pending = s.pending := by unfold State.modHalf; simp

/-! ### setFn -/

@[simp] theorem State.setFn_dict {f : Fn} {c : FnState} : (s.setFn f c).dict = s.dict := by cases f <;> rfl
@[simp] theorem State.setFn_key {f : Fn} {c : FnState} : (s.setFn f c).key = s.key := by cases f <;> rfl
@[simp] theorem State.setFn_sup {f : Fn} {c : FnState} : (s.setFn f c).sup = s.sup := by cases f <;> rfl
@[simp] theorem State.setFn_half0 {f : Fn} {c : FnState} : (s.setFn f c).half0 = s.half0 := by cases f <;> rfl
@[simp] theorem State.setFn_half1 {f : Fn} {c : FnState} : (s.setFn f c).half1 = s.half1 := by cases f <;> rfl
@[simp] theorem State.setFn_svc {f : Fn} {c : FnState} : (s.setFn f c).svc = s.svc := by cases f <;> rfl
@[simp] theorem State.setFn_ctxs {f : Fn} {c : FnState} : (s.setFn f c).ctxs = s.ctxs := by cases f <;> rfl
@[simp] theorem State.setFn_tiles {f : Fn} {c : FnState} : (s.setFn f c).tiles = s.tiles := by cases f <;> rfl
@[simp] theorem State.setFn_fabric {f : Fn} {c : FnState} : (s.setFn f c).fabric = s.fabric := by cases f <;> rfl
@[simp] theorem State.setFn_spokes {f : Fn} {c : FnState} : (s.setFn f c).spokes = s.spokes := by cases f <;> rfl
@[simp] theorem State.setFn_lanes {f : Fn} {c : FnState} : (s.setFn f c).lanes = s.lanes := by cases f <;> rfl
@[simp] theorem State.setFn_slotBufs {f : Fn} {c : FnState} : (s.setFn f c).slotBufs = s.slotBufs := by cases f <;> rfl
@[simp] theorem State.setFn_arbs {f : Fn} {c : FnState} : (s.setFn f c).arbs = s.arbs := by cases f <;> rfl
@[simp] theorem State.setFn_mortar {f : Fn} {c : FnState} : (s.setFn f c).mortar = s.mortar := by cases f <;> rfl
@[simp] theorem State.setFn_sec {f : Fn} {c : FnState} : (s.setFn f c).sec = s.sec := by cases f <;> rfl
@[simp] theorem State.setFn_seqs {f : Fn} {c : FnState} : (s.setFn f c).seqs = s.seqs := by cases f <;> rfl
@[simp] theorem State.setFn_cper {f : Fn} {c : FnState} : (s.setFn f c).cper = s.cper := by cases f <;> rfl
@[simp] theorem State.setFn_trace {f : Fn} {c : FnState} : (s.setFn f c).trace = s.trace := by cases f <;> rfl
@[simp] theorem State.setFn_capture0 {f : Fn} {c : FnState} : (s.setFn f c).capture0 = s.capture0 := by cases f <;> rfl
@[simp] theorem State.setFn_capture1 {f : Fn} {c : FnState} : (s.setFn f c).capture1 = s.capture1 := by cases f <;> rfl
@[simp] theorem State.setFn_hbm0 {f : Fn} {c : FnState} : (s.setFn f c).hbm0 = s.hbm0 := by cases f <;> rfl
@[simp] theorem State.setFn_hbm1 {f : Fn} {c : FnState} : (s.setFn f c).hbm1 = s.hbm1 := by cases f <;> rfl
@[simp] theorem State.setFn_unsent {f : Fn} {c : FnState} : (s.setFn f c).unsent = s.unsent := by cases f <;> rfl
@[simp] theorem State.setFn_out {f : Fn} {c : FnState} : (s.setFn f c).out = s.out := by cases f <;> rfl
@[simp] theorem State.setFn_free {f : Fn} {c : FnState} : (s.setFn f c).free = s.free := by cases f <;> rfl
@[simp] theorem State.setFn_pending {f : Fn} {c : FnState} : (s.setFn f c).pending = s.pending := by cases f <;> rfl

/-! ### setHbm -/

@[simp] theorem State.setHbm_dict {h : HalfId} {m : List Host.Cell} : (s.setHbm h m).dict = s.dict := by cases h <;> rfl
@[simp] theorem State.setHbm_key {h : HalfId} {m : List Host.Cell} : (s.setHbm h m).key = s.key := by cases h <;> rfl
@[simp] theorem State.setHbm_sup {h : HalfId} {m : List Host.Cell} : (s.setHbm h m).sup = s.sup := by cases h <;> rfl
@[simp] theorem State.setHbm_half0 {h : HalfId} {m : List Host.Cell} : (s.setHbm h m).half0 = s.half0 := by cases h <;> rfl
@[simp] theorem State.setHbm_half1 {h : HalfId} {m : List Host.Cell} : (s.setHbm h m).half1 = s.half1 := by cases h <;> rfl
@[simp] theorem State.setHbm_port {h : HalfId} {m : List Host.Cell} : (s.setHbm h m).port = s.port := by cases h <;> rfl
@[simp] theorem State.setHbm_svc {h : HalfId} {m : List Host.Cell} : (s.setHbm h m).svc = s.svc := by cases h <;> rfl
@[simp] theorem State.setHbm_ctxs {h : HalfId} {m : List Host.Cell} : (s.setHbm h m).ctxs = s.ctxs := by cases h <;> rfl
@[simp] theorem State.setHbm_tiles {h : HalfId} {m : List Host.Cell} : (s.setHbm h m).tiles = s.tiles := by cases h <;> rfl
@[simp] theorem State.setHbm_fabric {h : HalfId} {m : List Host.Cell} : (s.setHbm h m).fabric = s.fabric := by cases h <;> rfl
@[simp] theorem State.setHbm_spokes {h : HalfId} {m : List Host.Cell} : (s.setHbm h m).spokes = s.spokes := by cases h <;> rfl
@[simp] theorem State.setHbm_lanes {h : HalfId} {m : List Host.Cell} : (s.setHbm h m).lanes = s.lanes := by cases h <;> rfl
@[simp] theorem State.setHbm_slotBufs {h : HalfId} {m : List Host.Cell} : (s.setHbm h m).slotBufs = s.slotBufs := by cases h <;> rfl
@[simp] theorem State.setHbm_arbs {h : HalfId} {m : List Host.Cell} : (s.setHbm h m).arbs = s.arbs := by cases h <;> rfl
@[simp] theorem State.setHbm_mortar {h : HalfId} {m : List Host.Cell} : (s.setHbm h m).mortar = s.mortar := by cases h <;> rfl
@[simp] theorem State.setHbm_sec {h : HalfId} {m : List Host.Cell} : (s.setHbm h m).sec = s.sec := by cases h <;> rfl
@[simp] theorem State.setHbm_seqs {h : HalfId} {m : List Host.Cell} : (s.setHbm h m).seqs = s.seqs := by cases h <;> rfl
@[simp] theorem State.setHbm_cper {h : HalfId} {m : List Host.Cell} : (s.setHbm h m).cper = s.cper := by cases h <;> rfl
@[simp] theorem State.setHbm_trace {h : HalfId} {m : List Host.Cell} : (s.setHbm h m).trace = s.trace := by cases h <;> rfl
@[simp] theorem State.setHbm_capture0 {h : HalfId} {m : List Host.Cell} : (s.setHbm h m).capture0 = s.capture0 := by cases h <;> rfl
@[simp] theorem State.setHbm_capture1 {h : HalfId} {m : List Host.Cell} : (s.setHbm h m).capture1 = s.capture1 := by cases h <;> rfl
@[simp] theorem State.setHbm_unsent {h : HalfId} {m : List Host.Cell} : (s.setHbm h m).unsent = s.unsent := by cases h <;> rfl
@[simp] theorem State.setHbm_out {h : HalfId} {m : List Host.Cell} : (s.setHbm h m).out = s.out := by cases h <;> rfl
@[simp] theorem State.setHbm_free {h : HalfId} {m : List Host.Cell} : (s.setHbm h m).free = s.free := by cases h <;> rfl
@[simp] theorem State.setHbm_pending {h : HalfId} {m : List Host.Cell} : (s.setHbm h m).pending = s.pending := by cases h <;> rfl

/-! ### hbmWrite -/

@[simp] theorem State.hbmWrite_dict {h : HalfId} {a : Nat} {l : List Byte} : (s.hbmWrite h a l).dict = s.dict := by unfold State.hbmWrite; simp
@[simp] theorem State.hbmWrite_key {h : HalfId} {a : Nat} {l : List Byte} : (s.hbmWrite h a l).key = s.key := by unfold State.hbmWrite; simp
@[simp] theorem State.hbmWrite_sup {h : HalfId} {a : Nat} {l : List Byte} : (s.hbmWrite h a l).sup = s.sup := by unfold State.hbmWrite; simp
@[simp] theorem State.hbmWrite_half0 {h : HalfId} {a : Nat} {l : List Byte} : (s.hbmWrite h a l).half0 = s.half0 := by unfold State.hbmWrite; simp
@[simp] theorem State.hbmWrite_half1 {h : HalfId} {a : Nat} {l : List Byte} : (s.hbmWrite h a l).half1 = s.half1 := by unfold State.hbmWrite; simp
@[simp] theorem State.hbmWrite_port {h : HalfId} {a : Nat} {l : List Byte} : (s.hbmWrite h a l).port = s.port := by unfold State.hbmWrite; simp
@[simp] theorem State.hbmWrite_svc {h : HalfId} {a : Nat} {l : List Byte} : (s.hbmWrite h a l).svc = s.svc := by unfold State.hbmWrite; simp
@[simp] theorem State.hbmWrite_ctxs {h : HalfId} {a : Nat} {l : List Byte} : (s.hbmWrite h a l).ctxs = s.ctxs := by unfold State.hbmWrite; simp
@[simp] theorem State.hbmWrite_tiles {h : HalfId} {a : Nat} {l : List Byte} : (s.hbmWrite h a l).tiles = s.tiles := by unfold State.hbmWrite; simp
@[simp] theorem State.hbmWrite_fabric {h : HalfId} {a : Nat} {l : List Byte} : (s.hbmWrite h a l).fabric = s.fabric := by unfold State.hbmWrite; simp
@[simp] theorem State.hbmWrite_spokes {h : HalfId} {a : Nat} {l : List Byte} : (s.hbmWrite h a l).spokes = s.spokes := by unfold State.hbmWrite; simp
@[simp] theorem State.hbmWrite_lanes {h : HalfId} {a : Nat} {l : List Byte} : (s.hbmWrite h a l).lanes = s.lanes := by unfold State.hbmWrite; simp
@[simp] theorem State.hbmWrite_slotBufs {h : HalfId} {a : Nat} {l : List Byte} : (s.hbmWrite h a l).slotBufs = s.slotBufs := by unfold State.hbmWrite; simp
@[simp] theorem State.hbmWrite_arbs {h : HalfId} {a : Nat} {l : List Byte} : (s.hbmWrite h a l).arbs = s.arbs := by unfold State.hbmWrite; simp
@[simp] theorem State.hbmWrite_mortar {h : HalfId} {a : Nat} {l : List Byte} : (s.hbmWrite h a l).mortar = s.mortar := by unfold State.hbmWrite; simp
@[simp] theorem State.hbmWrite_sec {h : HalfId} {a : Nat} {l : List Byte} : (s.hbmWrite h a l).sec = s.sec := by unfold State.hbmWrite; simp
@[simp] theorem State.hbmWrite_seqs {h : HalfId} {a : Nat} {l : List Byte} : (s.hbmWrite h a l).seqs = s.seqs := by unfold State.hbmWrite; simp
@[simp] theorem State.hbmWrite_cper {h : HalfId} {a : Nat} {l : List Byte} : (s.hbmWrite h a l).cper = s.cper := by unfold State.hbmWrite; simp
@[simp] theorem State.hbmWrite_trace {h : HalfId} {a : Nat} {l : List Byte} : (s.hbmWrite h a l).trace = s.trace := by unfold State.hbmWrite; simp
@[simp] theorem State.hbmWrite_capture0 {h : HalfId} {a : Nat} {l : List Byte} : (s.hbmWrite h a l).capture0 = s.capture0 := by unfold State.hbmWrite; simp
@[simp] theorem State.hbmWrite_capture1 {h : HalfId} {a : Nat} {l : List Byte} : (s.hbmWrite h a l).capture1 = s.capture1 := by unfold State.hbmWrite; simp
@[simp] theorem State.hbmWrite_unsent {h : HalfId} {a : Nat} {l : List Byte} : (s.hbmWrite h a l).unsent = s.unsent := by unfold State.hbmWrite; simp
@[simp] theorem State.hbmWrite_out {h : HalfId} {a : Nat} {l : List Byte} : (s.hbmWrite h a l).out = s.out := by unfold State.hbmWrite; simp
@[simp] theorem State.hbmWrite_free {h : HalfId} {a : Nat} {l : List Byte} : (s.hbmWrite h a l).free = s.free := by unfold State.hbmWrite; simp
@[simp] theorem State.hbmWrite_pending {h : HalfId} {a : Nat} {l : List Byte} : (s.hbmWrite h a l).pending = s.pending := by unfold State.hbmWrite; simp

/-! ### Composite updates write the dictionary only -/

@[simp] theorem State.put64At_key {u i sub n : Nat} : (s.put64At u i sub n).key = s.key := by unfold State.put64At; simp
@[simp] theorem State.put64At_sup {u i sub n : Nat} : (s.put64At u i sub n).sup = s.sup := by unfold State.put64At; simp
@[simp] theorem State.put64At_half0 {u i sub n : Nat} : (s.put64At u i sub n).half0 = s.half0 := by unfold State.put64At; simp
@[simp] theorem State.put64At_half1 {u i sub n : Nat} : (s.put64At u i sub n).half1 = s.half1 := by unfold State.put64At; simp
@[simp] theorem State.put64At_port {u i sub n : Nat} : (s.put64At u i sub n).port = s.port := by unfold State.put64At; simp
@[simp] theorem State.put64At_svc {u i sub n : Nat} : (s.put64At u i sub n).svc = s.svc := by unfold State.put64At; simp
@[simp] theorem State.put64At_ctxs {u i sub n : Nat} : (s.put64At u i sub n).ctxs = s.ctxs := by unfold State.put64At; simp
@[simp] theorem State.put64At_tiles {u i sub n : Nat} : (s.put64At u i sub n).tiles = s.tiles := by unfold State.put64At; simp
@[simp] theorem State.put64At_fabric {u i sub n : Nat} : (s.put64At u i sub n).fabric = s.fabric := by unfold State.put64At; simp
@[simp] theorem State.put64At_spokes {u i sub n : Nat} : (s.put64At u i sub n).spokes = s.spokes := by unfold State.put64At; simp
@[simp] theorem State.put64At_lanes {u i sub n : Nat} : (s.put64At u i sub n).lanes = s.lanes := by unfold State.put64At; simp
@[simp] theorem State.put64At_slotBufs {u i sub n : Nat} : (s.put64At u i sub n).slotBufs = s.slotBufs := by unfold State.put64At; simp
@[simp] theorem State.put64At_arbs {u i sub n : Nat} : (s.put64At u i sub n).arbs = s.arbs := by unfold State.put64At; simp
@[simp] theorem State.put64At_mortar {u i sub n : Nat} : (s.put64At u i sub n).mortar = s.mortar := by unfold State.put64At; simp
@[simp] theorem State.put64At_sec {u i sub n : Nat} : (s.put64At u i sub n).sec = s.sec := by unfold State.put64At; simp
@[simp] theorem State.put64At_seqs {u i sub n : Nat} : (s.put64At u i sub n).seqs = s.seqs := by unfold State.put64At; simp
@[simp] theorem State.put64At_cper {u i sub n : Nat} : (s.put64At u i sub n).cper = s.cper := by unfold State.put64At; simp
@[simp] theorem State.put64At_trace {u i sub n : Nat} : (s.put64At u i sub n).trace = s.trace := by unfold State.put64At; simp
@[simp] theorem State.put64At_capture0 {u i sub n : Nat} : (s.put64At u i sub n).capture0 = s.capture0 := by unfold State.put64At; simp
@[simp] theorem State.put64At_capture1 {u i sub n : Nat} : (s.put64At u i sub n).capture1 = s.capture1 := by unfold State.put64At; simp
@[simp] theorem State.put64At_hbm0 {u i sub n : Nat} : (s.put64At u i sub n).hbm0 = s.hbm0 := by unfold State.put64At; simp
@[simp] theorem State.put64At_hbm1 {u i sub n : Nat} : (s.put64At u i sub n).hbm1 = s.hbm1 := by unfold State.put64At; simp
@[simp] theorem State.put64At_unsent {u i sub n : Nat} : (s.put64At u i sub n).unsent = s.unsent := by unfold State.put64At; simp
@[simp] theorem State.put64At_out {u i sub n : Nat} : (s.put64At u i sub n).out = s.out := by unfold State.put64At; simp
@[simp] theorem State.put64At_free {u i sub n : Nat} : (s.put64At u i sub n).free = s.free := by unfold State.put64At; simp
@[simp] theorem State.put64At_pending {u i sub n : Nat} : (s.put64At u i sub n).pending = s.pending := by unfold State.put64At; simp

@[simp] theorem State.put64_key {i sub n : Nat} : (s.put64 i sub n).key = s.key := by unfold State.put64 State.put64At; simp
@[simp] theorem State.put64_sup {i sub n : Nat} : (s.put64 i sub n).sup = s.sup := by unfold State.put64 State.put64At; simp
@[simp] theorem State.put64_half0 {i sub n : Nat} : (s.put64 i sub n).half0 = s.half0 := by unfold State.put64 State.put64At; simp
@[simp] theorem State.put64_half1 {i sub n : Nat} : (s.put64 i sub n).half1 = s.half1 := by unfold State.put64 State.put64At; simp
@[simp] theorem State.put64_port {i sub n : Nat} : (s.put64 i sub n).port = s.port := by unfold State.put64 State.put64At; simp
@[simp] theorem State.put64_svc {i sub n : Nat} : (s.put64 i sub n).svc = s.svc := by unfold State.put64 State.put64At; simp
@[simp] theorem State.put64_ctxs {i sub n : Nat} : (s.put64 i sub n).ctxs = s.ctxs := by unfold State.put64 State.put64At; simp
@[simp] theorem State.put64_tiles {i sub n : Nat} : (s.put64 i sub n).tiles = s.tiles := by unfold State.put64 State.put64At; simp
@[simp] theorem State.put64_fabric {i sub n : Nat} : (s.put64 i sub n).fabric = s.fabric := by unfold State.put64 State.put64At; simp
@[simp] theorem State.put64_spokes {i sub n : Nat} : (s.put64 i sub n).spokes = s.spokes := by unfold State.put64 State.put64At; simp
@[simp] theorem State.put64_lanes {i sub n : Nat} : (s.put64 i sub n).lanes = s.lanes := by unfold State.put64 State.put64At; simp
@[simp] theorem State.put64_slotBufs {i sub n : Nat} : (s.put64 i sub n).slotBufs = s.slotBufs := by unfold State.put64 State.put64At; simp
@[simp] theorem State.put64_arbs {i sub n : Nat} : (s.put64 i sub n).arbs = s.arbs := by unfold State.put64 State.put64At; simp
@[simp] theorem State.put64_mortar {i sub n : Nat} : (s.put64 i sub n).mortar = s.mortar := by unfold State.put64 State.put64At; simp
@[simp] theorem State.put64_sec {i sub n : Nat} : (s.put64 i sub n).sec = s.sec := by unfold State.put64 State.put64At; simp
@[simp] theorem State.put64_seqs {i sub n : Nat} : (s.put64 i sub n).seqs = s.seqs := by unfold State.put64 State.put64At; simp
@[simp] theorem State.put64_cper {i sub n : Nat} : (s.put64 i sub n).cper = s.cper := by unfold State.put64 State.put64At; simp
@[simp] theorem State.put64_trace {i sub n : Nat} : (s.put64 i sub n).trace = s.trace := by unfold State.put64 State.put64At; simp
@[simp] theorem State.put64_capture0 {i sub n : Nat} : (s.put64 i sub n).capture0 = s.capture0 := by unfold State.put64 State.put64At; simp
@[simp] theorem State.put64_capture1 {i sub n : Nat} : (s.put64 i sub n).capture1 = s.capture1 := by unfold State.put64 State.put64At; simp
@[simp] theorem State.put64_hbm0 {i sub n : Nat} : (s.put64 i sub n).hbm0 = s.hbm0 := by unfold State.put64 State.put64At; simp
@[simp] theorem State.put64_hbm1 {i sub n : Nat} : (s.put64 i sub n).hbm1 = s.hbm1 := by unfold State.put64 State.put64At; simp
@[simp] theorem State.put64_unsent {i sub n : Nat} : (s.put64 i sub n).unsent = s.unsent := by unfold State.put64 State.put64At; simp
@[simp] theorem State.put64_out {i sub n : Nat} : (s.put64 i sub n).out = s.out := by unfold State.put64 State.put64At; simp
@[simp] theorem State.put64_free {i sub n : Nat} : (s.put64 i sub n).free = s.free := by unfold State.put64 State.put64At; simp
@[simp] theorem State.put64_pending {i sub n : Nat} : (s.put64 i sub n).pending = s.pending := by unfold State.put64 State.put64At; simp

@[simp] theorem State.addAt_key {u i sub n : Nat} : (s.addAt u i sub n).key = s.key := by unfold State.addAt; simp
@[simp] theorem State.addAt_sup {u i sub n : Nat} : (s.addAt u i sub n).sup = s.sup := by unfold State.addAt; simp
@[simp] theorem State.addAt_half0 {u i sub n : Nat} : (s.addAt u i sub n).half0 = s.half0 := by unfold State.addAt; simp
@[simp] theorem State.addAt_half1 {u i sub n : Nat} : (s.addAt u i sub n).half1 = s.half1 := by unfold State.addAt; simp
@[simp] theorem State.addAt_port {u i sub n : Nat} : (s.addAt u i sub n).port = s.port := by unfold State.addAt; simp
@[simp] theorem State.addAt_svc {u i sub n : Nat} : (s.addAt u i sub n).svc = s.svc := by unfold State.addAt; simp
@[simp] theorem State.addAt_ctxs {u i sub n : Nat} : (s.addAt u i sub n).ctxs = s.ctxs := by unfold State.addAt; simp
@[simp] theorem State.addAt_tiles {u i sub n : Nat} : (s.addAt u i sub n).tiles = s.tiles := by unfold State.addAt; simp
@[simp] theorem State.addAt_fabric {u i sub n : Nat} : (s.addAt u i sub n).fabric = s.fabric := by unfold State.addAt; simp
@[simp] theorem State.addAt_spokes {u i sub n : Nat} : (s.addAt u i sub n).spokes = s.spokes := by unfold State.addAt; simp
@[simp] theorem State.addAt_lanes {u i sub n : Nat} : (s.addAt u i sub n).lanes = s.lanes := by unfold State.addAt; simp
@[simp] theorem State.addAt_slotBufs {u i sub n : Nat} : (s.addAt u i sub n).slotBufs = s.slotBufs := by unfold State.addAt; simp
@[simp] theorem State.addAt_arbs {u i sub n : Nat} : (s.addAt u i sub n).arbs = s.arbs := by unfold State.addAt; simp
@[simp] theorem State.addAt_mortar {u i sub n : Nat} : (s.addAt u i sub n).mortar = s.mortar := by unfold State.addAt; simp
@[simp] theorem State.addAt_sec {u i sub n : Nat} : (s.addAt u i sub n).sec = s.sec := by unfold State.addAt; simp
@[simp] theorem State.addAt_seqs {u i sub n : Nat} : (s.addAt u i sub n).seqs = s.seqs := by unfold State.addAt; simp
@[simp] theorem State.addAt_cper {u i sub n : Nat} : (s.addAt u i sub n).cper = s.cper := by unfold State.addAt; simp
@[simp] theorem State.addAt_trace {u i sub n : Nat} : (s.addAt u i sub n).trace = s.trace := by unfold State.addAt; simp
@[simp] theorem State.addAt_capture0 {u i sub n : Nat} : (s.addAt u i sub n).capture0 = s.capture0 := by unfold State.addAt; simp
@[simp] theorem State.addAt_capture1 {u i sub n : Nat} : (s.addAt u i sub n).capture1 = s.capture1 := by unfold State.addAt; simp
@[simp] theorem State.addAt_hbm0 {u i sub n : Nat} : (s.addAt u i sub n).hbm0 = s.hbm0 := by unfold State.addAt; simp
@[simp] theorem State.addAt_hbm1 {u i sub n : Nat} : (s.addAt u i sub n).hbm1 = s.hbm1 := by unfold State.addAt; simp
@[simp] theorem State.addAt_unsent {u i sub n : Nat} : (s.addAt u i sub n).unsent = s.unsent := by unfold State.addAt; simp
@[simp] theorem State.addAt_out {u i sub n : Nat} : (s.addAt u i sub n).out = s.out := by unfold State.addAt; simp
@[simp] theorem State.addAt_free {u i sub n : Nat} : (s.addAt u i sub n).free = s.free := by unfold State.addAt; simp
@[simp] theorem State.addAt_pending {u i sub n : Nat} : (s.addAt u i sub n).pending = s.pending := by unfold State.addAt; simp

@[simp] theorem State.bump_key {i sub : Nat} : (s.bump i sub).key = s.key := by unfold State.bump State.addAt; simp
@[simp] theorem State.bump_sup {i sub : Nat} : (s.bump i sub).sup = s.sup := by unfold State.bump State.addAt; simp
@[simp] theorem State.bump_half0 {i sub : Nat} : (s.bump i sub).half0 = s.half0 := by unfold State.bump State.addAt; simp
@[simp] theorem State.bump_half1 {i sub : Nat} : (s.bump i sub).half1 = s.half1 := by unfold State.bump State.addAt; simp
@[simp] theorem State.bump_port {i sub : Nat} : (s.bump i sub).port = s.port := by unfold State.bump State.addAt; simp
@[simp] theorem State.bump_svc {i sub : Nat} : (s.bump i sub).svc = s.svc := by unfold State.bump State.addAt; simp
@[simp] theorem State.bump_ctxs {i sub : Nat} : (s.bump i sub).ctxs = s.ctxs := by unfold State.bump State.addAt; simp
@[simp] theorem State.bump_tiles {i sub : Nat} : (s.bump i sub).tiles = s.tiles := by unfold State.bump State.addAt; simp
@[simp] theorem State.bump_fabric {i sub : Nat} : (s.bump i sub).fabric = s.fabric := by unfold State.bump State.addAt; simp
@[simp] theorem State.bump_spokes {i sub : Nat} : (s.bump i sub).spokes = s.spokes := by unfold State.bump State.addAt; simp
@[simp] theorem State.bump_lanes {i sub : Nat} : (s.bump i sub).lanes = s.lanes := by unfold State.bump State.addAt; simp
@[simp] theorem State.bump_slotBufs {i sub : Nat} : (s.bump i sub).slotBufs = s.slotBufs := by unfold State.bump State.addAt; simp
@[simp] theorem State.bump_arbs {i sub : Nat} : (s.bump i sub).arbs = s.arbs := by unfold State.bump State.addAt; simp
@[simp] theorem State.bump_mortar {i sub : Nat} : (s.bump i sub).mortar = s.mortar := by unfold State.bump State.addAt; simp
@[simp] theorem State.bump_sec {i sub : Nat} : (s.bump i sub).sec = s.sec := by unfold State.bump State.addAt; simp
@[simp] theorem State.bump_seqs {i sub : Nat} : (s.bump i sub).seqs = s.seqs := by unfold State.bump State.addAt; simp
@[simp] theorem State.bump_cper {i sub : Nat} : (s.bump i sub).cper = s.cper := by unfold State.bump State.addAt; simp
@[simp] theorem State.bump_trace {i sub : Nat} : (s.bump i sub).trace = s.trace := by unfold State.bump State.addAt; simp
@[simp] theorem State.bump_capture0 {i sub : Nat} : (s.bump i sub).capture0 = s.capture0 := by unfold State.bump State.addAt; simp
@[simp] theorem State.bump_capture1 {i sub : Nat} : (s.bump i sub).capture1 = s.capture1 := by unfold State.bump State.addAt; simp
@[simp] theorem State.bump_hbm0 {i sub : Nat} : (s.bump i sub).hbm0 = s.hbm0 := by unfold State.bump State.addAt; simp
@[simp] theorem State.bump_hbm1 {i sub : Nat} : (s.bump i sub).hbm1 = s.hbm1 := by unfold State.bump State.addAt; simp
@[simp] theorem State.bump_unsent {i sub : Nat} : (s.bump i sub).unsent = s.unsent := by unfold State.bump State.addAt; simp
@[simp] theorem State.bump_out {i sub : Nat} : (s.bump i sub).out = s.out := by unfold State.bump State.addAt; simp
@[simp] theorem State.bump_free {i sub : Nat} : (s.bump i sub).free = s.free := by unfold State.bump State.addAt; simp
@[simp] theorem State.bump_pending {i sub : Nat} : (s.bump i sub).pending = s.pending := by unfold State.bump State.addAt; simp

@[simp] theorem State.bumpAt_key {u i sub : Nat} : (s.bumpAt u i sub).key = s.key := by unfold State.bumpAt State.addAt; simp
@[simp] theorem State.bumpAt_sup {u i sub : Nat} : (s.bumpAt u i sub).sup = s.sup := by unfold State.bumpAt State.addAt; simp
@[simp] theorem State.bumpAt_half0 {u i sub : Nat} : (s.bumpAt u i sub).half0 = s.half0 := by unfold State.bumpAt State.addAt; simp
@[simp] theorem State.bumpAt_half1 {u i sub : Nat} : (s.bumpAt u i sub).half1 = s.half1 := by unfold State.bumpAt State.addAt; simp
@[simp] theorem State.bumpAt_port {u i sub : Nat} : (s.bumpAt u i sub).port = s.port := by unfold State.bumpAt State.addAt; simp
@[simp] theorem State.bumpAt_svc {u i sub : Nat} : (s.bumpAt u i sub).svc = s.svc := by unfold State.bumpAt State.addAt; simp
@[simp] theorem State.bumpAt_ctxs {u i sub : Nat} : (s.bumpAt u i sub).ctxs = s.ctxs := by unfold State.bumpAt State.addAt; simp
@[simp] theorem State.bumpAt_tiles {u i sub : Nat} : (s.bumpAt u i sub).tiles = s.tiles := by unfold State.bumpAt State.addAt; simp
@[simp] theorem State.bumpAt_fabric {u i sub : Nat} : (s.bumpAt u i sub).fabric = s.fabric := by unfold State.bumpAt State.addAt; simp
@[simp] theorem State.bumpAt_spokes {u i sub : Nat} : (s.bumpAt u i sub).spokes = s.spokes := by unfold State.bumpAt State.addAt; simp
@[simp] theorem State.bumpAt_lanes {u i sub : Nat} : (s.bumpAt u i sub).lanes = s.lanes := by unfold State.bumpAt State.addAt; simp
@[simp] theorem State.bumpAt_slotBufs {u i sub : Nat} : (s.bumpAt u i sub).slotBufs = s.slotBufs := by unfold State.bumpAt State.addAt; simp
@[simp] theorem State.bumpAt_arbs {u i sub : Nat} : (s.bumpAt u i sub).arbs = s.arbs := by unfold State.bumpAt State.addAt; simp
@[simp] theorem State.bumpAt_mortar {u i sub : Nat} : (s.bumpAt u i sub).mortar = s.mortar := by unfold State.bumpAt State.addAt; simp
@[simp] theorem State.bumpAt_sec {u i sub : Nat} : (s.bumpAt u i sub).sec = s.sec := by unfold State.bumpAt State.addAt; simp
@[simp] theorem State.bumpAt_seqs {u i sub : Nat} : (s.bumpAt u i sub).seqs = s.seqs := by unfold State.bumpAt State.addAt; simp
@[simp] theorem State.bumpAt_cper {u i sub : Nat} : (s.bumpAt u i sub).cper = s.cper := by unfold State.bumpAt State.addAt; simp
@[simp] theorem State.bumpAt_trace {u i sub : Nat} : (s.bumpAt u i sub).trace = s.trace := by unfold State.bumpAt State.addAt; simp
@[simp] theorem State.bumpAt_capture0 {u i sub : Nat} : (s.bumpAt u i sub).capture0 = s.capture0 := by unfold State.bumpAt State.addAt; simp
@[simp] theorem State.bumpAt_capture1 {u i sub : Nat} : (s.bumpAt u i sub).capture1 = s.capture1 := by unfold State.bumpAt State.addAt; simp
@[simp] theorem State.bumpAt_hbm0 {u i sub : Nat} : (s.bumpAt u i sub).hbm0 = s.hbm0 := by unfold State.bumpAt State.addAt; simp
@[simp] theorem State.bumpAt_hbm1 {u i sub : Nat} : (s.bumpAt u i sub).hbm1 = s.hbm1 := by unfold State.bumpAt State.addAt; simp
@[simp] theorem State.bumpAt_unsent {u i sub : Nat} : (s.bumpAt u i sub).unsent = s.unsent := by unfold State.bumpAt State.addAt; simp
@[simp] theorem State.bumpAt_out {u i sub : Nat} : (s.bumpAt u i sub).out = s.out := by unfold State.bumpAt State.addAt; simp
@[simp] theorem State.bumpAt_free {u i sub : Nat} : (s.bumpAt u i sub).free = s.free := by unfold State.bumpAt State.addAt; simp
@[simp] theorem State.bumpAt_pending {u i sub : Nat} : (s.bumpAt u i sub).pending = s.pending := by unfold State.bumpAt State.addAt; simp

@[simp] theorem State.add64At_key {u i sub n : Nat} : (s.add64At u i sub n).key = s.key := by unfold State.add64At State.put64At; simp
@[simp] theorem State.add64At_sup {u i sub n : Nat} : (s.add64At u i sub n).sup = s.sup := by unfold State.add64At State.put64At; simp
@[simp] theorem State.add64At_half0 {u i sub n : Nat} : (s.add64At u i sub n).half0 = s.half0 := by unfold State.add64At State.put64At; simp
@[simp] theorem State.add64At_half1 {u i sub n : Nat} : (s.add64At u i sub n).half1 = s.half1 := by unfold State.add64At State.put64At; simp
@[simp] theorem State.add64At_port {u i sub n : Nat} : (s.add64At u i sub n).port = s.port := by unfold State.add64At State.put64At; simp
@[simp] theorem State.add64At_svc {u i sub n : Nat} : (s.add64At u i sub n).svc = s.svc := by unfold State.add64At State.put64At; simp
@[simp] theorem State.add64At_ctxs {u i sub n : Nat} : (s.add64At u i sub n).ctxs = s.ctxs := by unfold State.add64At State.put64At; simp
@[simp] theorem State.add64At_tiles {u i sub n : Nat} : (s.add64At u i sub n).tiles = s.tiles := by unfold State.add64At State.put64At; simp
@[simp] theorem State.add64At_fabric {u i sub n : Nat} : (s.add64At u i sub n).fabric = s.fabric := by unfold State.add64At State.put64At; simp
@[simp] theorem State.add64At_spokes {u i sub n : Nat} : (s.add64At u i sub n).spokes = s.spokes := by unfold State.add64At State.put64At; simp
@[simp] theorem State.add64At_lanes {u i sub n : Nat} : (s.add64At u i sub n).lanes = s.lanes := by unfold State.add64At State.put64At; simp
@[simp] theorem State.add64At_slotBufs {u i sub n : Nat} : (s.add64At u i sub n).slotBufs = s.slotBufs := by unfold State.add64At State.put64At; simp
@[simp] theorem State.add64At_arbs {u i sub n : Nat} : (s.add64At u i sub n).arbs = s.arbs := by unfold State.add64At State.put64At; simp
@[simp] theorem State.add64At_mortar {u i sub n : Nat} : (s.add64At u i sub n).mortar = s.mortar := by unfold State.add64At State.put64At; simp
@[simp] theorem State.add64At_sec {u i sub n : Nat} : (s.add64At u i sub n).sec = s.sec := by unfold State.add64At State.put64At; simp
@[simp] theorem State.add64At_seqs {u i sub n : Nat} : (s.add64At u i sub n).seqs = s.seqs := by unfold State.add64At State.put64At; simp
@[simp] theorem State.add64At_cper {u i sub n : Nat} : (s.add64At u i sub n).cper = s.cper := by unfold State.add64At State.put64At; simp
@[simp] theorem State.add64At_trace {u i sub n : Nat} : (s.add64At u i sub n).trace = s.trace := by unfold State.add64At State.put64At; simp
@[simp] theorem State.add64At_capture0 {u i sub n : Nat} : (s.add64At u i sub n).capture0 = s.capture0 := by unfold State.add64At State.put64At; simp
@[simp] theorem State.add64At_capture1 {u i sub n : Nat} : (s.add64At u i sub n).capture1 = s.capture1 := by unfold State.add64At State.put64At; simp
@[simp] theorem State.add64At_hbm0 {u i sub n : Nat} : (s.add64At u i sub n).hbm0 = s.hbm0 := by unfold State.add64At State.put64At; simp
@[simp] theorem State.add64At_hbm1 {u i sub n : Nat} : (s.add64At u i sub n).hbm1 = s.hbm1 := by unfold State.add64At State.put64At; simp
@[simp] theorem State.add64At_unsent {u i sub n : Nat} : (s.add64At u i sub n).unsent = s.unsent := by unfold State.add64At State.put64At; simp
@[simp] theorem State.add64At_out {u i sub n : Nat} : (s.add64At u i sub n).out = s.out := by unfold State.add64At State.put64At; simp
@[simp] theorem State.add64At_free {u i sub n : Nat} : (s.add64At u i sub n).free = s.free := by unfold State.add64At State.put64At; simp
@[simp] theorem State.add64At_pending {u i sub n : Nat} : (s.add64At u i sub n).pending = s.pending := by unfold State.add64At State.put64At; simp

@[simp] theorem State.add64_key {i sub n : Nat} : (s.add64 i sub n).key = s.key := by unfold State.add64 State.add64At State.put64At; simp
@[simp] theorem State.add64_sup {i sub n : Nat} : (s.add64 i sub n).sup = s.sup := by unfold State.add64 State.add64At State.put64At; simp
@[simp] theorem State.add64_half0 {i sub n : Nat} : (s.add64 i sub n).half0 = s.half0 := by unfold State.add64 State.add64At State.put64At; simp
@[simp] theorem State.add64_half1 {i sub n : Nat} : (s.add64 i sub n).half1 = s.half1 := by unfold State.add64 State.add64At State.put64At; simp
@[simp] theorem State.add64_port {i sub n : Nat} : (s.add64 i sub n).port = s.port := by unfold State.add64 State.add64At State.put64At; simp
@[simp] theorem State.add64_svc {i sub n : Nat} : (s.add64 i sub n).svc = s.svc := by unfold State.add64 State.add64At State.put64At; simp
@[simp] theorem State.add64_ctxs {i sub n : Nat} : (s.add64 i sub n).ctxs = s.ctxs := by unfold State.add64 State.add64At State.put64At; simp
@[simp] theorem State.add64_tiles {i sub n : Nat} : (s.add64 i sub n).tiles = s.tiles := by unfold State.add64 State.add64At State.put64At; simp
@[simp] theorem State.add64_fabric {i sub n : Nat} : (s.add64 i sub n).fabric = s.fabric := by unfold State.add64 State.add64At State.put64At; simp
@[simp] theorem State.add64_spokes {i sub n : Nat} : (s.add64 i sub n).spokes = s.spokes := by unfold State.add64 State.add64At State.put64At; simp
@[simp] theorem State.add64_lanes {i sub n : Nat} : (s.add64 i sub n).lanes = s.lanes := by unfold State.add64 State.add64At State.put64At; simp
@[simp] theorem State.add64_slotBufs {i sub n : Nat} : (s.add64 i sub n).slotBufs = s.slotBufs := by unfold State.add64 State.add64At State.put64At; simp
@[simp] theorem State.add64_arbs {i sub n : Nat} : (s.add64 i sub n).arbs = s.arbs := by unfold State.add64 State.add64At State.put64At; simp
@[simp] theorem State.add64_mortar {i sub n : Nat} : (s.add64 i sub n).mortar = s.mortar := by unfold State.add64 State.add64At State.put64At; simp
@[simp] theorem State.add64_sec {i sub n : Nat} : (s.add64 i sub n).sec = s.sec := by unfold State.add64 State.add64At State.put64At; simp
@[simp] theorem State.add64_seqs {i sub n : Nat} : (s.add64 i sub n).seqs = s.seqs := by unfold State.add64 State.add64At State.put64At; simp
@[simp] theorem State.add64_cper {i sub n : Nat} : (s.add64 i sub n).cper = s.cper := by unfold State.add64 State.add64At State.put64At; simp
@[simp] theorem State.add64_trace {i sub n : Nat} : (s.add64 i sub n).trace = s.trace := by unfold State.add64 State.add64At State.put64At; simp
@[simp] theorem State.add64_capture0 {i sub n : Nat} : (s.add64 i sub n).capture0 = s.capture0 := by unfold State.add64 State.add64At State.put64At; simp
@[simp] theorem State.add64_capture1 {i sub n : Nat} : (s.add64 i sub n).capture1 = s.capture1 := by unfold State.add64 State.add64At State.put64At; simp
@[simp] theorem State.add64_hbm0 {i sub n : Nat} : (s.add64 i sub n).hbm0 = s.hbm0 := by unfold State.add64 State.add64At State.put64At; simp
@[simp] theorem State.add64_hbm1 {i sub n : Nat} : (s.add64 i sub n).hbm1 = s.hbm1 := by unfold State.add64 State.add64At State.put64At; simp
@[simp] theorem State.add64_unsent {i sub n : Nat} : (s.add64 i sub n).unsent = s.unsent := by unfold State.add64 State.add64At State.put64At; simp
@[simp] theorem State.add64_out {i sub n : Nat} : (s.add64 i sub n).out = s.out := by unfold State.add64 State.add64At State.put64At; simp
@[simp] theorem State.add64_free {i sub n : Nat} : (s.add64 i sub n).free = s.free := by unfold State.add64 State.add64At State.put64At; simp
@[simp] theorem State.add64_pending {i sub n : Nat} : (s.add64 i sub n).pending = s.pending := by unfold State.add64 State.add64At State.put64At; simp

@[simp] theorem State.putBitAt_key {u i sub b : Nat} {v : Bool} : (s.putBitAt u i sub b v).key = s.key := by unfold State.putBitAt; simp
@[simp] theorem State.putBitAt_sup {u i sub b : Nat} {v : Bool} : (s.putBitAt u i sub b v).sup = s.sup := by unfold State.putBitAt; simp
@[simp] theorem State.putBitAt_half0 {u i sub b : Nat} {v : Bool} : (s.putBitAt u i sub b v).half0 = s.half0 := by unfold State.putBitAt; simp
@[simp] theorem State.putBitAt_half1 {u i sub b : Nat} {v : Bool} : (s.putBitAt u i sub b v).half1 = s.half1 := by unfold State.putBitAt; simp
@[simp] theorem State.putBitAt_port {u i sub b : Nat} {v : Bool} : (s.putBitAt u i sub b v).port = s.port := by unfold State.putBitAt; simp
@[simp] theorem State.putBitAt_svc {u i sub b : Nat} {v : Bool} : (s.putBitAt u i sub b v).svc = s.svc := by unfold State.putBitAt; simp
@[simp] theorem State.putBitAt_ctxs {u i sub b : Nat} {v : Bool} : (s.putBitAt u i sub b v).ctxs = s.ctxs := by unfold State.putBitAt; simp
@[simp] theorem State.putBitAt_tiles {u i sub b : Nat} {v : Bool} : (s.putBitAt u i sub b v).tiles = s.tiles := by unfold State.putBitAt; simp
@[simp] theorem State.putBitAt_fabric {u i sub b : Nat} {v : Bool} : (s.putBitAt u i sub b v).fabric = s.fabric := by unfold State.putBitAt; simp
@[simp] theorem State.putBitAt_spokes {u i sub b : Nat} {v : Bool} : (s.putBitAt u i sub b v).spokes = s.spokes := by unfold State.putBitAt; simp
@[simp] theorem State.putBitAt_lanes {u i sub b : Nat} {v : Bool} : (s.putBitAt u i sub b v).lanes = s.lanes := by unfold State.putBitAt; simp
@[simp] theorem State.putBitAt_slotBufs {u i sub b : Nat} {v : Bool} : (s.putBitAt u i sub b v).slotBufs = s.slotBufs := by unfold State.putBitAt; simp
@[simp] theorem State.putBitAt_arbs {u i sub b : Nat} {v : Bool} : (s.putBitAt u i sub b v).arbs = s.arbs := by unfold State.putBitAt; simp
@[simp] theorem State.putBitAt_mortar {u i sub b : Nat} {v : Bool} : (s.putBitAt u i sub b v).mortar = s.mortar := by unfold State.putBitAt; simp
@[simp] theorem State.putBitAt_sec {u i sub b : Nat} {v : Bool} : (s.putBitAt u i sub b v).sec = s.sec := by unfold State.putBitAt; simp
@[simp] theorem State.putBitAt_seqs {u i sub b : Nat} {v : Bool} : (s.putBitAt u i sub b v).seqs = s.seqs := by unfold State.putBitAt; simp
@[simp] theorem State.putBitAt_cper {u i sub b : Nat} {v : Bool} : (s.putBitAt u i sub b v).cper = s.cper := by unfold State.putBitAt; simp
@[simp] theorem State.putBitAt_trace {u i sub b : Nat} {v : Bool} : (s.putBitAt u i sub b v).trace = s.trace := by unfold State.putBitAt; simp
@[simp] theorem State.putBitAt_capture0 {u i sub b : Nat} {v : Bool} : (s.putBitAt u i sub b v).capture0 = s.capture0 := by unfold State.putBitAt; simp
@[simp] theorem State.putBitAt_capture1 {u i sub b : Nat} {v : Bool} : (s.putBitAt u i sub b v).capture1 = s.capture1 := by unfold State.putBitAt; simp
@[simp] theorem State.putBitAt_hbm0 {u i sub b : Nat} {v : Bool} : (s.putBitAt u i sub b v).hbm0 = s.hbm0 := by unfold State.putBitAt; simp
@[simp] theorem State.putBitAt_hbm1 {u i sub b : Nat} {v : Bool} : (s.putBitAt u i sub b v).hbm1 = s.hbm1 := by unfold State.putBitAt; simp
@[simp] theorem State.putBitAt_unsent {u i sub b : Nat} {v : Bool} : (s.putBitAt u i sub b v).unsent = s.unsent := by unfold State.putBitAt; simp
@[simp] theorem State.putBitAt_out {u i sub b : Nat} {v : Bool} : (s.putBitAt u i sub b v).out = s.out := by unfold State.putBitAt; simp
@[simp] theorem State.putBitAt_free {u i sub b : Nat} {v : Bool} : (s.putBitAt u i sub b v).free = s.free := by unfold State.putBitAt; simp
@[simp] theorem State.putBitAt_pending {u i sub b : Nat} {v : Bool} : (s.putBitAt u i sub b v).pending = s.pending := by unfold State.putBitAt; simp

@[simp] theorem State.putFlag_key {i sub b : Nat} {v : Bool} : (s.putFlag i sub b v).key = s.key := by unfold State.putFlag State.putBitAt; simp
@[simp] theorem State.putFlag_sup {i sub b : Nat} {v : Bool} : (s.putFlag i sub b v).sup = s.sup := by unfold State.putFlag State.putBitAt; simp
@[simp] theorem State.putFlag_half0 {i sub b : Nat} {v : Bool} : (s.putFlag i sub b v).half0 = s.half0 := by unfold State.putFlag State.putBitAt; simp
@[simp] theorem State.putFlag_half1 {i sub b : Nat} {v : Bool} : (s.putFlag i sub b v).half1 = s.half1 := by unfold State.putFlag State.putBitAt; simp
@[simp] theorem State.putFlag_port {i sub b : Nat} {v : Bool} : (s.putFlag i sub b v).port = s.port := by unfold State.putFlag State.putBitAt; simp
@[simp] theorem State.putFlag_svc {i sub b : Nat} {v : Bool} : (s.putFlag i sub b v).svc = s.svc := by unfold State.putFlag State.putBitAt; simp
@[simp] theorem State.putFlag_ctxs {i sub b : Nat} {v : Bool} : (s.putFlag i sub b v).ctxs = s.ctxs := by unfold State.putFlag State.putBitAt; simp
@[simp] theorem State.putFlag_tiles {i sub b : Nat} {v : Bool} : (s.putFlag i sub b v).tiles = s.tiles := by unfold State.putFlag State.putBitAt; simp
@[simp] theorem State.putFlag_fabric {i sub b : Nat} {v : Bool} : (s.putFlag i sub b v).fabric = s.fabric := by unfold State.putFlag State.putBitAt; simp
@[simp] theorem State.putFlag_spokes {i sub b : Nat} {v : Bool} : (s.putFlag i sub b v).spokes = s.spokes := by unfold State.putFlag State.putBitAt; simp
@[simp] theorem State.putFlag_lanes {i sub b : Nat} {v : Bool} : (s.putFlag i sub b v).lanes = s.lanes := by unfold State.putFlag State.putBitAt; simp
@[simp] theorem State.putFlag_slotBufs {i sub b : Nat} {v : Bool} : (s.putFlag i sub b v).slotBufs = s.slotBufs := by unfold State.putFlag State.putBitAt; simp
@[simp] theorem State.putFlag_arbs {i sub b : Nat} {v : Bool} : (s.putFlag i sub b v).arbs = s.arbs := by unfold State.putFlag State.putBitAt; simp
@[simp] theorem State.putFlag_mortar {i sub b : Nat} {v : Bool} : (s.putFlag i sub b v).mortar = s.mortar := by unfold State.putFlag State.putBitAt; simp
@[simp] theorem State.putFlag_sec {i sub b : Nat} {v : Bool} : (s.putFlag i sub b v).sec = s.sec := by unfold State.putFlag State.putBitAt; simp
@[simp] theorem State.putFlag_seqs {i sub b : Nat} {v : Bool} : (s.putFlag i sub b v).seqs = s.seqs := by unfold State.putFlag State.putBitAt; simp
@[simp] theorem State.putFlag_cper {i sub b : Nat} {v : Bool} : (s.putFlag i sub b v).cper = s.cper := by unfold State.putFlag State.putBitAt; simp
@[simp] theorem State.putFlag_trace {i sub b : Nat} {v : Bool} : (s.putFlag i sub b v).trace = s.trace := by unfold State.putFlag State.putBitAt; simp
@[simp] theorem State.putFlag_capture0 {i sub b : Nat} {v : Bool} : (s.putFlag i sub b v).capture0 = s.capture0 := by unfold State.putFlag State.putBitAt; simp
@[simp] theorem State.putFlag_capture1 {i sub b : Nat} {v : Bool} : (s.putFlag i sub b v).capture1 = s.capture1 := by unfold State.putFlag State.putBitAt; simp
@[simp] theorem State.putFlag_hbm0 {i sub b : Nat} {v : Bool} : (s.putFlag i sub b v).hbm0 = s.hbm0 := by unfold State.putFlag State.putBitAt; simp
@[simp] theorem State.putFlag_hbm1 {i sub b : Nat} {v : Bool} : (s.putFlag i sub b v).hbm1 = s.hbm1 := by unfold State.putFlag State.putBitAt; simp
@[simp] theorem State.putFlag_unsent {i sub b : Nat} {v : Bool} : (s.putFlag i sub b v).unsent = s.unsent := by unfold State.putFlag State.putBitAt; simp
@[simp] theorem State.putFlag_out {i sub b : Nat} {v : Bool} : (s.putFlag i sub b v).out = s.out := by unfold State.putFlag State.putBitAt; simp
@[simp] theorem State.putFlag_free {i sub b : Nat} {v : Bool} : (s.putFlag i sub b v).free = s.free := by unfold State.putFlag State.putBitAt; simp
@[simp] theorem State.putFlag_pending {i sub b : Nat} {v : Bool} : (s.putFlag i sub b v).pending = s.pending := by unfold State.putFlag State.putBitAt; simp

@[simp] theorem State.setFence_key {h : HalfId} {n : Nat} : (s.setFence h n).key = s.key := by unfold State.setFence; simp
@[simp] theorem State.setFence_sup {h : HalfId} {n : Nat} : (s.setFence h n).sup = s.sup := by unfold State.setFence; simp
@[simp] theorem State.setFence_half0 {h : HalfId} {n : Nat} : (s.setFence h n).half0 = s.half0 := by unfold State.setFence; simp
@[simp] theorem State.setFence_half1 {h : HalfId} {n : Nat} : (s.setFence h n).half1 = s.half1 := by unfold State.setFence; simp
@[simp] theorem State.setFence_port {h : HalfId} {n : Nat} : (s.setFence h n).port = s.port := by unfold State.setFence; simp
@[simp] theorem State.setFence_svc {h : HalfId} {n : Nat} : (s.setFence h n).svc = s.svc := by unfold State.setFence; simp
@[simp] theorem State.setFence_ctxs {h : HalfId} {n : Nat} : (s.setFence h n).ctxs = s.ctxs := by unfold State.setFence; simp
@[simp] theorem State.setFence_tiles {h : HalfId} {n : Nat} : (s.setFence h n).tiles = s.tiles := by unfold State.setFence; simp
@[simp] theorem State.setFence_fabric {h : HalfId} {n : Nat} : (s.setFence h n).fabric = s.fabric := by unfold State.setFence; simp
@[simp] theorem State.setFence_spokes {h : HalfId} {n : Nat} : (s.setFence h n).spokes = s.spokes := by unfold State.setFence; simp
@[simp] theorem State.setFence_lanes {h : HalfId} {n : Nat} : (s.setFence h n).lanes = s.lanes := by unfold State.setFence; simp
@[simp] theorem State.setFence_slotBufs {h : HalfId} {n : Nat} : (s.setFence h n).slotBufs = s.slotBufs := by unfold State.setFence; simp
@[simp] theorem State.setFence_arbs {h : HalfId} {n : Nat} : (s.setFence h n).arbs = s.arbs := by unfold State.setFence; simp
@[simp] theorem State.setFence_mortar {h : HalfId} {n : Nat} : (s.setFence h n).mortar = s.mortar := by unfold State.setFence; simp
@[simp] theorem State.setFence_sec {h : HalfId} {n : Nat} : (s.setFence h n).sec = s.sec := by unfold State.setFence; simp
@[simp] theorem State.setFence_seqs {h : HalfId} {n : Nat} : (s.setFence h n).seqs = s.seqs := by unfold State.setFence; simp
@[simp] theorem State.setFence_cper {h : HalfId} {n : Nat} : (s.setFence h n).cper = s.cper := by unfold State.setFence; simp
@[simp] theorem State.setFence_trace {h : HalfId} {n : Nat} : (s.setFence h n).trace = s.trace := by unfold State.setFence; simp
@[simp] theorem State.setFence_capture0 {h : HalfId} {n : Nat} : (s.setFence h n).capture0 = s.capture0 := by unfold State.setFence; simp
@[simp] theorem State.setFence_capture1 {h : HalfId} {n : Nat} : (s.setFence h n).capture1 = s.capture1 := by unfold State.setFence; simp
@[simp] theorem State.setFence_hbm0 {h : HalfId} {n : Nat} : (s.setFence h n).hbm0 = s.hbm0 := by unfold State.setFence; simp
@[simp] theorem State.setFence_hbm1 {h : HalfId} {n : Nat} : (s.setFence h n).hbm1 = s.hbm1 := by unfold State.setFence; simp
@[simp] theorem State.setFence_unsent {h : HalfId} {n : Nat} : (s.setFence h n).unsent = s.unsent := by unfold State.setFence; simp
@[simp] theorem State.setFence_out {h : HalfId} {n : Nat} : (s.setFence h n).out = s.out := by unfold State.setFence; simp
@[simp] theorem State.setFence_free {h : HalfId} {n : Nat} : (s.setFence h n).free = s.free := by unfold State.setFence; simp
@[simp] theorem State.setFence_pending {h : HalfId} {n : Nat} : (s.setFence h n).pending = s.pending := by unfold State.setFence; simp

end Sys2Proof.Machine
end

