-- ==== Sys2Proof/Laws/Registers.lean ====
section
/-! SUPPORT. Reading a dictionary register after an update: the register written reads back, every other one reads as
before. -/

namespace Sys2Proof.Machine

open Sys2Proof

variable {s t : State}

/-! ### Keys -/

/-- Words of one instance have one key exactly where index and sub-index agree. -/
@[simp] theorem dkey_unit {u i i' sub sub' : Nat} :
    dkey u i sub = dkey u i' sub' ↔ i % 65536 = i' % 65536 ∧ sub % 256 = sub' % 256 := by
  unfold dkey
  omega

/-- Words have one key only where instance, index and sub-index agree. -/
theorem dkey_inj {u u' i i' sub sub' : Nat} :
    dkey u i sub = dkey u' i' sub' ↔ u = u' ∧ i % 65536 = i' % 65536 ∧ sub % 256 = sub' % 256 := by
  unfold dkey
  omega

/-- The index of a key. -/
theorem keyIndex_dkey {u i sub : Nat} : keyIndex (dkey u i sub) = i % 65536 := by
  unfold keyIndex dkey
  omega

theorem keySub_dkey {u i sub : Nat} : keySub (dkey u i sub) = sub % 256 := by
  unfold keySub dkey
  omega

theorem keyUnit_dkey {u i sub : Nat} : keyUnit (dkey u i sub) = u := by
  unfold keyUnit dkey
  omega

/-! ### One word -/

/-- A register reads as the dictionary holds it, whatever else of the state changes. -/
theorem State.regAt_of_dict {u i sub : Nat} (h : t.dict = s.dict) : t.regAt u i sub = s.regAt u i sub := by
  unfold State.regAt
  rw [h]

theorem State.regAt_putAt {u i sub u' i' sub' : Nat} {v : Word} :
    (s.putAt u i sub v).regAt u' i' sub' =
      if dkey u i sub = dkey u' i' sub' then v else s.regAt u' i' sub' := by
  unfold State.regAt
  rw [State.putAt_dict]
  split
  · next h => rw [← h, Sparse.get_set_self]
  · next h => exact Sparse.get_set_ne _ _ _ (Ne.symm h)

@[simp] theorem State.regAt_putAt_self {u i sub : Nat} {v : Word} : (s.putAt u i sub v).regAt u i sub = v := by
  rw [State.regAt_putAt, if_pos rfl]

theorem State.regAt_putAt_ne {u i sub u' i' sub' : Nat} {v : Word} (h : dkey u i sub ≠ dkey u' i' sub') :
    (s.putAt u i sub v).regAt u' i' sub' = s.regAt u' i' sub' := by
  rw [State.regAt_putAt, if_neg h]

theorem State.regAt_dropKeys {p : Nat → Bool} {u i sub : Nat} :
    (s.dropKeys p).regAt u i sub =
      if p (dkey u i sub) then dictDefault (dkey u i sub) else s.regAt u i sub := by
  unfold State.regAt
  rw [State.dropKeys_dict, Sparse.get_drop]

/-! ### Updates of other fields -/

@[simp] theorem State.regAt_emit {o : Out} {u i sub : Nat} : (s.emit o).regAt u i sub = s.regAt u i sub :=
  State.regAt_of_dict (by simp)
@[simp] theorem State.regAt_signal {f : Fn} {v u i sub : Nat} : (s.signal f v).regAt u i sub = s.regAt u i sub :=
  State.regAt_of_dict (by simp)
@[simp] theorem State.regAt_freeSkip {n u i sub : Nat} : (s.freeSkip n).regAt u i sub = s.regAt u i sub :=
  State.regAt_of_dict (by simp)
@[simp] theorem State.regAt_setTile {x : Tile} {u i sub : Nat} : (s.setTile x).regAt u i sub = s.regAt u i sub :=
  State.regAt_of_dict (by simp)
@[simp] theorem State.regAt_modTile {p : Nat} {f : Tile → Tile} {u i sub : Nat} :
    (s.modTile p f).regAt u i sub = s.regAt u i sub := State.regAt_of_dict (by simp)
@[simp] theorem State.regAt_setCtx {c : Ctx} {u i sub : Nat} : (s.setCtx c).regAt u i sub = s.regAt u i sub :=
  State.regAt_of_dict (by simp)
@[simp] theorem State.regAt_modCtx {n : Nat} {f : Ctx → Ctx} {u i sub : Nat} :
    (s.modCtx n f).regAt u i sub = s.regAt u i sub := State.regAt_of_dict (by simp)
@[simp] theorem State.regAt_setHalf {h : HalfId} {c : HalfCtl} {u i sub : Nat} :
    (s.setHalf h c).regAt u i sub = s.regAt u i sub := State.regAt_of_dict (by simp)
@[simp] theorem State.regAt_modHalf {h : HalfId} {f : HalfCtl → HalfCtl} {u i sub : Nat} :
    (s.modHalf h f).regAt u i sub = s.regAt u i sub := State.regAt_of_dict (by simp)
@[simp] theorem State.regAt_setFn {f : Fn} {c : FnState} {u i sub : Nat} :
    (s.setFn f c).regAt u i sub = s.regAt u i sub := State.regAt_of_dict (by simp)
@[simp] theorem State.regAt_setHbm {h : HalfId} {m : List Host.Cell} {u i sub : Nat} :
    (s.setHbm h m).regAt u i sub = s.regAt u i sub := State.regAt_of_dict (by simp)
@[simp] theorem State.regAt_hbmWrite {h : HalfId} {a : Nat} {l : List Byte} {u i sub : Nat} :
    (s.hbmWrite h a l).regAt u i sub = s.regAt u i sub := State.regAt_of_dict (by simp)

/-! ### Composite writes -/

theorem State.regAt_put {i sub n u' i' sub' : Nat} :
    (s.put i sub n).regAt u' i' sub' =
      if dkey 0 i sub = dkey u' i' sub' then toWord n else s.regAt u' i' sub' := by
  unfold State.put
  exact State.regAt_putAt

theorem State.regAt_put64At {u i sub n u' i' sub' : Nat} :
    (s.put64At u i sub n).regAt u' i' sub' =
      if dkey u i (sub + 1) = dkey u' i' sub' then toWord (n / 2 ^ 32)
      else if dkey u i sub = dkey u' i' sub' then toWord n else s.regAt u' i' sub' := by
  unfold State.put64At
  rw [State.regAt_putAt, State.regAt_putAt]

theorem State.regAt_addAt {u i sub n u' i' sub' : Nat} :
    (s.addAt u i sub n).regAt u' i' sub' =
      if dkey u i sub = dkey u' i' sub' then s.regAt u i sub + toWord n else s.regAt u' i' sub' := by
  unfold State.addAt
  exact State.regAt_putAt

theorem State.regAt_bump {i sub u' i' sub' : Nat} :
    (s.bump i sub).regAt u' i' sub' =
      if dkey 0 i sub = dkey u' i' sub' then s.regAt 0 i sub + 1 else s.regAt u' i' sub' := by
  unfold State.bump
  exact State.regAt_addAt

theorem State.regAt_bumpAt {u i sub u' i' sub' : Nat} :
    (s.bumpAt u i sub).regAt u' i' sub' =
      if dkey u i sub = dkey u' i' sub' then s.regAt u i sub + 1 else s.regAt u' i' sub' := by
  unfold State.bumpAt
  exact State.regAt_addAt

theorem State.regAt_putBitAt {u i sub b u' i' sub' : Nat} {v : Bool} :
    (s.putBitAt u i sub b v).regAt u' i' sub' =
      if dkey u i sub = dkey u' i' sub' then toWord (putBit (s.valAt u i sub) b v)
      else s.regAt u' i' sub' := by
  unfold State.putBitAt
  exact State.regAt_putAt

theorem State.regAt_putFlag {i sub b u' i' sub' : Nat} {v : Bool} :
    (s.putFlag i sub b v).regAt u' i' sub' =
      if dkey 0 i sub = dkey u' i' sub' then toWord (putBit (s.valAt 0 i sub) b v)
      else s.regAt u' i' sub' := by
  unfold State.putFlag
  exact State.regAt_putBitAt

/-! ### Records -/

/-- The trace ring counts its entries in 0xF030 and writes no other register (R512). -/
theorem State.regAt_traceAdd {x : TraceRec} {u i sub : Nat} (h : ∀ j, dkey 0 0xF030 j ≠ dkey u i sub) :
    (s.traceAdd x).regAt u i sub = s.regAt u i sub := by
  unfold State.traceAdd
  split
  · unfold State.add64 State.add64At
    rw [State.regAt_put64At, if_neg (h _), if_neg (h _)]
    exact State.regAt_of_dict rfl
  · rfl

/-- The CPER log counts its records in 0x7040 and writes no other register (R418). -/
theorem State.regAt_cperAdd {r : Record} {u i sub : Nat} (h : ∀ j, dkey 0 0x7040 j ≠ dkey u i sub) :
    (s.cperAdd r).regAt u i sub = s.regAt u i sub := by
  unfold State.cperAdd
  split
  · rw [State.regAt_put, if_neg (h _)]
    exact State.regAt_of_dict rfl
  · rw [State.regAt_bump, if_neg (h _)]
    exact State.regAt_of_dict rfl

@[simp] theorem State.recordSignal_dict {c : Nat} {h : Option HalfId} : (s.recordSignal c h).dict = s.dict := by
  unfold State.recordSignal
  extract_lets v x
  have hx : x.dict = s.dict := State.signal_dict
  split
  · rfl
  · cases h <;> simp [hx]

/-- Logging a record writes no register but the CPER log's and the trace ring's counts. -/
theorem State.regAt_log {e : Event} {u i sub : Nat} (h : ∀ j, dkey 0 0x7040 j ≠ dkey u i sub)
    (h' : ∀ j, dkey 0 0xF030 j ≠ dkey u i sub) : (s.log e).regAt u i sub = s.regAt u i sub := by
  unfold State.log
  dsimp only
  rw [State.regAt_of_dict State.recordSignal_dict, State.regAt_traceAdd h', State.regAt_cperAdd h,
    State.regAt_emit]
  exact State.regAt_of_dict rfl

/-! ### Power -/

/-- With the keystone powered an event has its effect. -/
theorem onPower_on {f : State → State} (h : s.key.powered = true) : onPower s f = .next (f s) := by
  unfold onPower
  rw [if_pos h]

end Sys2Proof.Machine
end

