-- ==== Sys2Proof/Laws/Canon.lean ====
section
/-! SUPPORT. The properties that the lemmas of Laws/Kept*.lean are used with: the canonical form of the stores, and
that a part of the state (the dictionary, the memories, the contexts, the tiles, the security state) stays as it
is. -/

namespace Sys2Proof.Machine

open Sys2Proof Sys2Proof.Safety

/-- The dictionary store and both memories are in canonical form, the memories within their halves' 96 GiB. -/
def Canon (s : State) : Prop :=
  Sparse.wf dictDefault s.dict = true ∧
  (Sparse.wf byteDefault s.hbm0 = true ∧ inBounds s.hbm0 = true) ∧
  (Sparse.wf byteDefault s.hbm1 = true ∧ inBounds s.hbm1 = true)

theorem canon_iff (s : State) : Canon s ↔ Safety.canonical s = true ∧ Safety.bounded s = true := by
  simp only [Canon, Safety.canonical, Safety.bounded, inBounds, Bool.and_eq_true]
  tauto

/-- The part before its first power-on has it. -/
theorem State.reset_canon : Canon State.reset := by
  unfold Canon State.reset
  simp [inBounds]

/-- A memory in canonical form within bounds may take a half's place. -/
theorem State.setHbm_canon {s : State} {h : HalfId} {m : List Host.Cell} (hm : Sparse.wf byteDefault m = true)
    (hb : inBounds m = true) (hs : Canon s) : Canon (s.setHbm h m) := by
  cases h
  · exact ⟨hs.1, ⟨hm, hb⟩, hs.2.2⟩
  · exact ⟨hs.1, hs.2.1, ⟨hm, hb⟩⟩

theorem Canon.hbm {s : State} (h : HalfId) (hs : Canon s) :
    Sparse.wf byteDefault (s.hbm h) = true ∧ inBounds (s.hbm h) = true := by
  cases h
  · exact hs.2.1
  · exact hs.2.2

theorem canon_kept : Kept Canon where
  rest h := h

theorem canon_keptA : KeptA Canon where
  mem _ _ _ _ _ h := by
    unfold State.putAt Canon
    exact ⟨Sparse.wf_set _ _ _ _ h.1, h.2⟩
theorem canon_keptQ : KeptQ Canon where
  dropKeys h := by
    unfold State.dropKeys Canon
    exact ⟨Sparse.wf_drop _ _ _ h.1, h.2⟩

theorem canon_keptM : KeptM Canon where
  clear h := State.setHbm_canon rfl rfl h
  drop h := State.setHbm_canon (Sparse.wf_drop _ _ _ (h.hbm _).1) (inBounds_drop _ _ (h.hbm _).2) h
  write h := State.setHbm_canon (memWrite_wf _ _ _ (h.hbm _).1) (memWrite_inBounds _ _ _ (h.hbm _).2) h

theorem canon_keptC : KeptC Canon where
  ctxs h := h
theorem canon_keptT : KeptT Canon where
  tiles h := h
theorem canon_keptS : KeptS Canon where
  sec h := h
theorem canon_keptK : KeptK Canon where
  key h := h
theorem canon_keptH : KeptH Canon where
  halves h := h
theorem canon_keptV : KeptV Canon where
  svc h := h
theorem canon_keptU : KeptU Canon where
  sup h := h
theorem canon_keptB : KeptB Canon where
  fabric h := h
theorem canon_keptL : KeptL Canon where
  spokes h := h

/-! ### Parts that stay -/

theorem sameDict_kept (s : State) : Kept (SameDict s) where
  rest h := h
theorem sameDict_keptM (s : State) : KeptM (SameDict s) where
  clear h := by
    unfold SameDict at *
    simpa using h
  drop h := by
    unfold SameDict at *
    simpa using h
  write h := by
    unfold SameDict at *
    simpa using h
theorem sameDict_keptC (s : State) : KeptC (SameDict s) where
  ctxs h := h
theorem sameDict_keptT (s : State) : KeptT (SameDict s) where
  tiles h := h
theorem sameDict_keptS (s : State) : KeptS (SameDict s) where
  sec h := h
theorem sameDict_keptK (s : State) : KeptK (SameDict s) where
  key h := h
theorem sameDict_keptH (s : State) : KeptH (SameDict s) where
  halves h := h
theorem sameDict_keptV (s : State) : KeptV (SameDict s) where
  svc h := h
theorem sameDict_keptU (s : State) : KeptU (SameDict s) where
  sup h := h
theorem sameDict_keptB (s : State) : KeptB (SameDict s) where
  fabric h := h
theorem sameDict_keptL (s : State) : KeptL (SameDict s) where
  spokes h := h

theorem sameHbm_kept (s : State) : Kept (SameHbm s) where
  rest h := h
theorem sameHbm_keptA (s : State) : KeptA (SameHbm s) where
  mem _ _ _ _ _ h := by
    unfold SameHbm at *
    simpa using h
theorem sameHbm_keptQ (s : State) : KeptQ (SameHbm s) where
  dropKeys h := by
    unfold SameHbm at *
    simpa using h
theorem sameHbm_keptC (s : State) : KeptC (SameHbm s) where
  ctxs h := h
theorem sameHbm_keptT (s : State) : KeptT (SameHbm s) where
  tiles h := h
theorem sameHbm_keptS (s : State) : KeptS (SameHbm s) where
  sec h := h
theorem sameHbm_keptK (s : State) : KeptK (SameHbm s) where
  key h := h
theorem sameHbm_keptH (s : State) : KeptH (SameHbm s) where
  halves h := h
theorem sameHbm_keptV (s : State) : KeptV (SameHbm s) where
  svc h := h
theorem sameHbm_keptU (s : State) : KeptU (SameHbm s) where
  sup h := h
theorem sameHbm_keptB (s : State) : KeptB (SameHbm s) where
  fabric h := h
theorem sameHbm_keptL (s : State) : KeptL (SameHbm s) where
  spokes h := h

theorem sameCtxs_kept (s : State) : Kept (SameCtxs s) where
  rest h := h
theorem sameCtxs_keptA (s : State) : KeptA (SameCtxs s) where
  mem _ _ _ _ _ h := by
    unfold SameCtxs at *
    simpa using h
theorem sameCtxs_keptQ (s : State) : KeptQ (SameCtxs s) where
  dropKeys h := by
    unfold SameCtxs at *
    simpa using h
theorem sameCtxs_keptM (s : State) : KeptM (SameCtxs s) where
  clear h := by
    unfold SameCtxs at *
    simpa using h
  drop h := by
    unfold SameCtxs at *
    simpa using h
  write h := by
    unfold SameCtxs at *
    simpa using h
theorem sameCtxs_keptT (s : State) : KeptT (SameCtxs s) where
  tiles h := h
theorem sameCtxs_keptS (s : State) : KeptS (SameCtxs s) where
  sec h := h
theorem sameCtxs_keptK (s : State) : KeptK (SameCtxs s) where
  key h := h
theorem sameCtxs_keptH (s : State) : KeptH (SameCtxs s) where
  halves h := h
theorem sameCtxs_keptV (s : State) : KeptV (SameCtxs s) where
  svc h := h
theorem sameCtxs_keptU (s : State) : KeptU (SameCtxs s) where
  sup h := h
theorem sameCtxs_keptB (s : State) : KeptB (SameCtxs s) where
  fabric h := h
theorem sameCtxs_keptL (s : State) : KeptL (SameCtxs s) where
  spokes h := h

theorem sameTiles_kept (s : State) : Kept (SameTiles s) where
  rest h := h
theorem sameTiles_keptA (s : State) : KeptA (SameTiles s) where
  mem _ _ _ _ _ h := by
    unfold SameTiles at *
    simpa using h
theorem sameTiles_keptQ (s : State) : KeptQ (SameTiles s) where
  dropKeys h := by
    unfold SameTiles at *
    simpa using h
theorem sameTiles_keptM (s : State) : KeptM (SameTiles s) where
  clear h := by
    unfold SameTiles at *
    simpa using h
  drop h := by
    unfold SameTiles at *
    simpa using h
  write h := by
    unfold SameTiles at *
    simpa using h
theorem sameTiles_keptC (s : State) : KeptC (SameTiles s) where
  ctxs h := h
theorem sameTiles_keptS (s : State) : KeptS (SameTiles s) where
  sec h := h
theorem sameTiles_keptK (s : State) : KeptK (SameTiles s) where
  key h := h
theorem sameTiles_keptH (s : State) : KeptH (SameTiles s) where
  halves h := h
theorem sameTiles_keptV (s : State) : KeptV (SameTiles s) where
  svc h := h
theorem sameTiles_keptU (s : State) : KeptU (SameTiles s) where
  sup h := h
theorem sameTiles_keptB (s : State) : KeptB (SameTiles s) where
  fabric h := h
theorem sameTiles_keptL (s : State) : KeptL (SameTiles s) where
  spokes h := h

theorem sameSec_kept (s : State) : Kept (SameSec s) where
  rest h := h
theorem sameSec_keptA (s : State) : KeptA (SameSec s) where
  mem _ _ _ _ _ h := by
    unfold SameSec at *
    simpa using h
theorem sameSec_keptQ (s : State) : KeptQ (SameSec s) where
  dropKeys h := by
    unfold SameSec at *
    simpa using h
theorem sameSec_keptM (s : State) : KeptM (SameSec s) where
  clear h := by
    unfold SameSec at *
    simpa using h
  drop h := by
    unfold SameSec at *
    simpa using h
  write h := by
    unfold SameSec at *
    simpa using h
theorem sameSec_keptC (s : State) : KeptC (SameSec s) where
  ctxs h := h
theorem sameSec_keptT (s : State) : KeptT (SameSec s) where
  tiles h := h
theorem sameSec_keptK (s : State) : KeptK (SameSec s) where
  key h := h
theorem sameSec_keptH (s : State) : KeptH (SameSec s) where
  halves h := h
theorem sameSec_keptV (s : State) : KeptV (SameSec s) where
  svc h := h
theorem sameSec_keptU (s : State) : KeptU (SameSec s) where
  sup h := h
theorem sameSec_keptB (s : State) : KeptB (SameSec s) where
  fabric h := h
theorem sameSec_keptL (s : State) : KeptL (SameSec s) where
  spokes h := h

theorem sameKey_kept (s : State) : Kept (SameKey s) where
  rest h := h
theorem sameKey_keptA (s : State) : KeptA (SameKey s) where
  mem _ _ _ _ _ h := by
    unfold SameKey at *
    simpa using h
theorem sameKey_keptQ (s : State) : KeptQ (SameKey s) where
  dropKeys h := by
    unfold SameKey at *
    simpa using h
theorem sameKey_keptM (s : State) : KeptM (SameKey s) where
  clear h := by
    unfold SameKey at *
    simpa using h
  drop h := by
    unfold SameKey at *
    simpa using h
  write h := by
    unfold SameKey at *
    simpa using h
theorem sameKey_keptC (s : State) : KeptC (SameKey s) where
  ctxs h := h
theorem sameKey_keptT (s : State) : KeptT (SameKey s) where
  tiles h := h
theorem sameKey_keptS (s : State) : KeptS (SameKey s) where
  sec h := h
theorem sameKey_keptH (s : State) : KeptH (SameKey s) where
  halves h := h
theorem sameKey_keptV (s : State) : KeptV (SameKey s) where
  svc h := h
theorem sameKey_keptU (s : State) : KeptU (SameKey s) where
  sup h := h
theorem sameKey_keptB (s : State) : KeptB (SameKey s) where
  fabric h := h
theorem sameKey_keptL (s : State) : KeptL (SameKey s) where
  spokes h := h

theorem sameHalves_kept (s : State) : Kept (SameHalves s) where
  rest h := h
theorem sameHalves_keptA (s : State) : KeptA (SameHalves s) where
  mem _ _ _ _ _ h := by
    unfold SameHalves at *
    simpa using h
theorem sameHalves_keptQ (s : State) : KeptQ (SameHalves s) where
  dropKeys h := by
    unfold SameHalves at *
    simpa using h
theorem sameHalves_keptM (s : State) : KeptM (SameHalves s) where
  clear h := by
    unfold SameHalves at *
    simpa using h
  drop h := by
    unfold SameHalves at *
    simpa using h
  write h := by
    unfold SameHalves at *
    simpa using h
theorem sameHalves_keptC (s : State) : KeptC (SameHalves s) where
  ctxs h := h
theorem sameHalves_keptT (s : State) : KeptT (SameHalves s) where
  tiles h := h
theorem sameHalves_keptS (s : State) : KeptS (SameHalves s) where
  sec h := h
theorem sameHalves_keptK (s : State) : KeptK (SameHalves s) where
  key h := h
theorem sameHalves_keptV (s : State) : KeptV (SameHalves s) where
  svc h := h
theorem sameHalves_keptU (s : State) : KeptU (SameHalves s) where
  sup h := h
theorem sameHalves_keptB (s : State) : KeptB (SameHalves s) where
  fabric h := h
theorem sameHalves_keptL (s : State) : KeptL (SameHalves s) where
  spokes h := h

theorem sameSvc_kept (s : State) : Kept (SameSvc s) where
  rest h := h
theorem sameSvc_keptA (s : State) : KeptA (SameSvc s) where
  mem _ _ _ _ _ h := by
    unfold SameSvc at *
    simpa using h
theorem sameSvc_keptQ (s : State) : KeptQ (SameSvc s) where
  dropKeys h := by
    unfold SameSvc at *
    simpa using h
theorem sameSvc_keptM (s : State) : KeptM (SameSvc s) where
  clear h := by
    unfold SameSvc at *
    simpa using h
  drop h := by
    unfold SameSvc at *
    simpa using h
  write h := by
    unfold SameSvc at *
    simpa using h
theorem sameSvc_keptC (s : State) : KeptC (SameSvc s) where
  ctxs h := h
theorem sameSvc_keptT (s : State) : KeptT (SameSvc s) where
  tiles h := h
theorem sameSvc_keptS (s : State) : KeptS (SameSvc s) where
  sec h := h
theorem sameSvc_keptK (s : State) : KeptK (SameSvc s) where
  key h := h
theorem sameSvc_keptH (s : State) : KeptH (SameSvc s) where
  halves h := h
theorem sameSvc_keptU (s : State) : KeptU (SameSvc s) where
  sup h := h
theorem sameSvc_keptB (s : State) : KeptB (SameSvc s) where
  fabric h := h
theorem sameSvc_keptL (s : State) : KeptL (SameSvc s) where
  spokes h := h

theorem sameSup_kept (s : State) : Kept (SameSup s) where
  rest h := h
theorem sameSup_keptA (s : State) : KeptA (SameSup s) where
  mem _ _ _ _ _ h := by
    unfold SameSup at *
    simpa using h
theorem sameSup_keptQ (s : State) : KeptQ (SameSup s) where
  dropKeys h := by
    unfold SameSup at *
    simpa using h
theorem sameSup_keptM (s : State) : KeptM (SameSup s) where
  clear h := by
    unfold SameSup at *
    simpa using h
  drop h := by
    unfold SameSup at *
    simpa using h
  write h := by
    unfold SameSup at *
    simpa using h
theorem sameSup_keptC (s : State) : KeptC (SameSup s) where
  ctxs h := h
theorem sameSup_keptT (s : State) : KeptT (SameSup s) where
  tiles h := h
theorem sameSup_keptS (s : State) : KeptS (SameSup s) where
  sec h := h
theorem sameSup_keptK (s : State) : KeptK (SameSup s) where
  key h := h
theorem sameSup_keptH (s : State) : KeptH (SameSup s) where
  halves h := h
theorem sameSup_keptV (s : State) : KeptV (SameSup s) where
  svc h := h
theorem sameSup_keptB (s : State) : KeptB (SameSup s) where
  fabric h := h
theorem sameSup_keptL (s : State) : KeptL (SameSup s) where
  spokes h := h

theorem sameFabric_kept (s : State) : Kept (SameFabric s) where
  rest h := h
theorem sameFabric_keptA (s : State) : KeptA (SameFabric s) where
  mem _ _ _ _ _ h := by
    unfold SameFabric at *
    simpa using h
theorem sameFabric_keptQ (s : State) : KeptQ (SameFabric s) where
  dropKeys h := by
    unfold SameFabric at *
    simpa using h
theorem sameFabric_keptM (s : State) : KeptM (SameFabric s) where
  clear h := by
    unfold SameFabric at *
    simpa using h
  drop h := by
    unfold SameFabric at *
    simpa using h
  write h := by
    unfold SameFabric at *
    simpa using h
theorem sameFabric_keptC (s : State) : KeptC (SameFabric s) where
  ctxs h := h
theorem sameFabric_keptT (s : State) : KeptT (SameFabric s) where
  tiles h := h
theorem sameFabric_keptS (s : State) : KeptS (SameFabric s) where
  sec h := h
theorem sameFabric_keptK (s : State) : KeptK (SameFabric s) where
  key h := h
theorem sameFabric_keptH (s : State) : KeptH (SameFabric s) where
  halves h := h
theorem sameFabric_keptV (s : State) : KeptV (SameFabric s) where
  svc h := h
theorem sameFabric_keptU (s : State) : KeptU (SameFabric s) where
  sup h := h
theorem sameFabric_keptL (s : State) : KeptL (SameFabric s) where
  spokes h := h

theorem sameSpokes_kept (s : State) : Kept (SameSpokes s) where
  rest h := h
theorem sameSpokes_keptA (s : State) : KeptA (SameSpokes s) where
  mem _ _ _ _ _ h := by
    unfold SameSpokes at *
    simpa using h
theorem sameSpokes_keptQ (s : State) : KeptQ (SameSpokes s) where
  dropKeys h := by
    unfold SameSpokes at *
    simpa using h
theorem sameSpokes_keptM (s : State) : KeptM (SameSpokes s) where
  clear h := by
    unfold SameSpokes at *
    simpa using h
  drop h := by
    unfold SameSpokes at *
    simpa using h
  write h := by
    unfold SameSpokes at *
    simpa using h
theorem sameSpokes_keptC (s : State) : KeptC (SameSpokes s) where
  ctxs h := h
theorem sameSpokes_keptT (s : State) : KeptT (SameSpokes s) where
  tiles h := h
theorem sameSpokes_keptS (s : State) : KeptS (SameSpokes s) where
  sec h := h
theorem sameSpokes_keptK (s : State) : KeptK (SameSpokes s) where
  key h := h
theorem sameSpokes_keptH (s : State) : KeptH (SameSpokes s) where
  halves h := h
theorem sameSpokes_keptV (s : State) : KeptV (SameSpokes s) where
  svc h := h
theorem sameSpokes_keptU (s : State) : KeptU (SameSpokes s) where
  sup h := h
theorem sameSpokes_keptB (s : State) : KeptB (SameSpokes s) where
  fabric h := h

theorem samePending_kept (s : State) : Kept (SamePending s) where
  rest h := h
theorem samePending_keptA (s : State) : KeptA (SamePending s) where
  mem _ _ _ _ _ h := by
    unfold SamePending at *
    simpa using h
theorem samePending_keptQ (s : State) : KeptQ (SamePending s) where
  dropKeys h := by
    unfold SamePending at *
    simpa using h
theorem samePending_keptM (s : State) : KeptM (SamePending s) where
  clear h := by
    unfold SamePending at *
    simpa using h
  drop h := by
    unfold SamePending at *
    simpa using h
  write h := by
    unfold SamePending at *
    simpa using h
theorem samePending_keptC (s : State) : KeptC (SamePending s) where
  ctxs h := h
theorem samePending_keptT (s : State) : KeptT (SamePending s) where
  tiles h := h
theorem samePending_keptS (s : State) : KeptS (SamePending s) where
  sec h := h
theorem samePending_keptK (s : State) : KeptK (SamePending s) where
  key h := h
theorem samePending_keptH (s : State) : KeptH (SamePending s) where
  halves h := h
theorem samePending_keptV (s : State) : KeptV (SamePending s) where
  svc h := h
theorem samePending_keptU (s : State) : KeptU (SamePending s) where
  sup h := h
theorem samePending_keptB (s : State) : KeptB (SamePending s) where
  fabric h := h
theorem samePending_keptL (s : State) : KeptL (SamePending s) where
  spokes h := h

theorem sameObject_of_dict {i : Nat} {s t v : State} (h : SameObject i s t) (hd : v.dict = t.dict) :
    SameObject i s v := by
  intro u sub
  rw [State.regAt_of_dict hd]
  exact h u sub

theorem sameObject_at {i j : Nat} {s : State} (h : i % 65536 ≠ j % 65536) : KeptAt (SameObject i s) j := by
  intro t u sub v ht u' sub'
  rw [State.regAt_putAt_ne (by rw [Ne, dkey_inj]; omega)]
  exact ht u' sub'

theorem sameObject_kept (i : Nat) (s : State) : Kept (SameObject i s) where
  rest h := sameObject_of_dict h rfl
theorem sameObject_keptD {i : Nat} (s : State) {W : List Nat} (h : ∀ j ∈ W, i % 65536 ≠ j % 65536) :
    KeptD (SameObject i s) W where
  mem hj := sameObject_at (h _ hj)
theorem sameObject_keptN {i : Nat} (s : State) (h : i < 0x8000 ∨ 0x8C00 ≤ i) (hi : i < 65536) :
    KeptN (SameObject i s) where
  mem n := sameObject_at (by unfold cidx; omega)
theorem sameObject_keptM (i : Nat) (s : State) : KeptM (SameObject i s) where
  clear h := sameObject_of_dict h (by simp)
  drop h := sameObject_of_dict h (by simp)
  write h := sameObject_of_dict h (by simp)
theorem sameObject_keptC (i : Nat) (s : State) : KeptC (SameObject i s) where
  ctxs h := sameObject_of_dict h rfl
theorem sameObject_keptT (i : Nat) (s : State) : KeptT (SameObject i s) where
  tiles h := sameObject_of_dict h rfl
theorem sameObject_keptS (i : Nat) (s : State) : KeptS (SameObject i s) where
  sec h := sameObject_of_dict h rfl
theorem sameObject_keptK (i : Nat) (s : State) : KeptK (SameObject i s) where
  key h := sameObject_of_dict h rfl
theorem sameObject_keptH (i : Nat) (s : State) : KeptH (SameObject i s) where
  halves h := sameObject_of_dict h rfl
theorem sameObject_keptV (i : Nat) (s : State) : KeptV (SameObject i s) where
  svc h := sameObject_of_dict h rfl
theorem sameObject_keptU (i : Nat) (s : State) : KeptU (SameObject i s) where
  sup h := sameObject_of_dict h rfl
theorem sameObject_keptB (i : Nat) (s : State) : KeptB (SameObject i s) where
  fabric h := sameObject_of_dict h rfl
theorem sameObject_keptL (i : Nat) (s : State) : KeptL (SameObject i s) where
  spokes h := sameObject_of_dict h rfl

end Sys2Proof.Machine
end

