-- ==== Sys2Proof/Laws/KeptOps.lean ====
section
/-! SUPPORT. What every definition of Machine/Ops.lean keeps of a state: one lemma each (Laws/Kept.lean). -/

namespace Sys2Proof.Machine

open Sys2Proof

set_option linter.all false

theorem State.modHalf_kept {P : State → Prop}  (kh : KeptH P) {s : State} {h : HalfId} {f : HalfCtl → HalfCtl} (h_s : P s) :
    P (State.modHalf s h f) := by
  unfold State.modHalf
  repeat' first
    | with_reducible assumption
    | with_reducible intro _
    | with_reducible apply State.setHalf_kept
    | split
    | fail_if_no_progress with_reducible apply kk.rest

theorem State.setFence_kept {P : State → Prop}  (kd : KeptD P [0x0041]) {s : State} {h : HalfId} {n : Nat} (h_s : P s) :
    P (State.setFence s h n) := by
  unfold State.setFence
  repeat' first
    | with_reducible assumption
    | with_reducible intro _
    | with_reducible apply State.put_kept
    | exact kd.mem (by decide)
    | exact kd.mem (pick_mem (by decide) (by decide))
    | exact kd.mono (by decide)
    | split
    | fail_if_no_progress with_reducible apply kk.rest

theorem State.setHolder_kept {P : State → Prop}  (kd : KeptD P [0x0040]) {s : State} {n : Nat} (h_s : P s) :
    P (State.setHolder s n) := by
  unfold State.setHolder
  repeat' first
    | with_reducible assumption
    | with_reducible intro _
    | with_reducible apply State.bump_kept
    | with_reducible apply State.put_kept
    | exact kd.mem (by decide)
    | exact kd.mem (pick_mem (by decide) (by decide))
    | exact kd.mono (by decide)
    | split
    | fail_if_no_progress with_reducible apply kk.rest

theorem State.setTile_kept {P : State → Prop} (kk : Kept P) (kt : KeptT P) {s : State} {t : Tile} (h_s : P s) :
    P (State.setTile s t) := by
  unfold State.setTile
  repeat' first
    | with_reducible assumption
    | with_reducible intro _
    | split
    | fail_if_no_progress with_reducible apply kk.rest
    | fail_if_no_progress (with_reducible apply kt.tiles; with_reducible apply kk.rest)

theorem State.modTile_kept {P : State → Prop} (kk : Kept P) (kt : KeptT P) {s : State} {p : Nat} {f : Tile → Tile} (h_s : P s) :
    P (State.modTile s p f) := by
  unfold State.modTile
  repeat' first
    | with_reducible assumption
    | with_reducible intro _
    | with_reducible apply State.setTile_kept
    | split
    | fail_if_no_progress with_reducible apply kk.rest

theorem State.setCtx_kept {P : State → Prop} (kk : Kept P) (kc : KeptC P) {s : State} {c : Ctx} (h_s : P s) :
    P (State.setCtx s c) := by
  unfold State.setCtx
  repeat' first
    | with_reducible assumption
    | with_reducible intro _
    | split
    | fail_if_no_progress with_reducible apply kk.rest
    | fail_if_no_progress (with_reducible apply kc.ctxs; with_reducible apply kk.rest)

theorem State.modCtx_kept {P : State → Prop} (kk : Kept P) (kc : KeptC P) {s : State} {n : Nat} {f : Ctx → Ctx} (h_s : P s) :
    P (State.modCtx s n f) := by
  unfold State.modCtx
  repeat' first
    | with_reducible assumption
    | with_reducible intro _
    | with_reducible apply State.setCtx_kept
    | split
    | fail_if_no_progress with_reducible apply kk.rest

theorem State.emit_kept {P : State → Prop} (kk : Kept P) {s : State} {o : Out} (h_s : P s) :
    P (State.emit s o) := by
  unfold State.emit
  repeat' first
    | with_reducible assumption
    | with_reducible intro _
    | split
    | fail_if_no_progress with_reducible apply kk.rest

theorem State.signal_kept {P : State → Prop} (kk : Kept P) {s : State} {f : Fn} {v : Nat} (h_s : P s) :
    P (State.signal s f v) := by
  unfold State.signal
  repeat' first
    | with_reducible assumption
    | with_reducible intro _
    | split
    | fail_if_no_progress with_reducible apply kk.rest

theorem State.traceAdd_kept {P : State → Prop} (kk : Kept P) (kd : KeptD P [0xF030]) {s : State} {t : TraceRec} (h_s : P s) :
    P (State.traceAdd s t) := by
  unfold State.traceAdd
  repeat' first
    | with_reducible assumption
    | with_reducible intro _
    | with_reducible apply State.add64_kept
    | exact kd.mem (by decide)
    | exact kd.mem (pick_mem (by decide) (by decide))
    | exact kd.mono (by decide)
    | split
    | fail_if_no_progress with_reducible apply kk.rest

theorem State.cperAdd_kept {P : State → Prop} (kk : Kept P) (kd : KeptD P [0x7040]) {s : State} {r : Record} (h_s : P s) :
    P (State.cperAdd s r) := by
  unfold State.cperAdd
  repeat' first
    | with_reducible assumption
    | with_reducible intro _
    | with_reducible apply State.bump_kept
    | with_reducible apply State.put_kept
    | exact kd.mem (by decide)
    | exact kd.mem (pick_mem (by decide) (by decide))
    | exact kd.mono (by decide)
    | split
    | fail_if_no_progress with_reducible apply kk.rest

theorem State.recordSignal_kept {P : State → Prop} (kk : Kept P) {s : State} {cls : Nat} {h : Option HalfId} (h_s : P s) :
    P (State.recordSignal s cls h) := by
  unfold State.recordSignal
  repeat' first
    | with_reducible assumption
    | with_reducible intro _
    | (extract_lets +onlyGivenNames zz
       first
         | (with_reducible refine Kept.cut (P := P) (x := zz) ?_ ?_
            on_goal 2 => clear_value zz
            on_goal 1 => subst zz)
         | (with_reducible refine Kept.cut1 (P := P) (x := zz) ?_ ?_
            on_goal 2 => clear_value zz
            on_goal 1 => subst zz)
         | (have zn : Nat := zz
            clear zn
            subst zz)
         | clear_value zz
         | subst zz)
    | with_reducible apply State.signal_kept
    | split
    | fail_if_no_progress with_reducible apply kk.rest

theorem State.log_kept {P : State → Prop} (kk : Kept P) (kd : KeptD P [0x7040, 0xF030]) {s : State} {e : Event} (h_s : P s) :
    P (State.log s e) := by
  unfold State.log
  repeat' first
    | with_reducible assumption
    | with_reducible intro _
    | (extract_lets +onlyGivenNames zz
       first
         | (with_reducible refine Kept.cut (P := P) (x := zz) ?_ ?_
            on_goal 2 => clear_value zz
            on_goal 1 => subst zz)
         | (with_reducible refine Kept.cut1 (P := P) (x := zz) ?_ ?_
            on_goal 2 => clear_value zz
            on_goal 1 => subst zz)
         | (have zn : Nat := zz
            clear zn
            subst zz)
         | clear_value zz
         | subst zz)
    | with_reducible apply State.cperAdd_kept
    | with_reducible apply State.emit_kept
    | with_reducible apply State.recordSignal_kept
    | with_reducible apply State.traceAdd_kept
    | exact kd.mem (by decide)
    | exact kd.mem (pick_mem (by decide) (by decide))
    | exact kd.mono (by decide)
    | split
    | fail_if_no_progress with_reducible apply kk.rest

theorem State.issue_kept {P : State → Prop} (kk : Kept P) (kv : KeptV P) {s : State} {w : Deferred} {est : Nat} {spoke : Option Nat} (h_s : P s) :
    P (State.issue s w est spoke) := by
  unfold State.issue
  repeat' first
    | with_reducible assumption
    | with_reducible intro _
    | (extract_lets +onlyGivenNames zz
       first
         | (with_reducible refine Kept.cut (P := P) (x := zz) ?_ ?_
            on_goal 2 => clear_value zz
            on_goal 1 => subst zz)
         | (with_reducible refine Kept.cut1 (P := P) (x := zz) ?_ ?_
            on_goal 2 => clear_value zz
            on_goal 1 => subst zz)
         | (have zn : Nat := zz
            clear zn
            subst zz)
         | clear_value zz
         | subst zz)
    | split
    | fail_if_no_progress with_reducible apply kk.rest
    | fail_if_no_progress (with_reducible apply kv.svc; with_reducible apply kk.rest)

theorem State.endTicket_kept {P : State → Prop} (kk : Kept P) (kv : KeptV P) {s : State} {n status : Nat} (h_s : P s) :
    P (State.endTicket s n status) := by
  unfold State.endTicket
  repeat' first
    | with_reducible assumption
    | with_reducible intro _
    | (extract_lets +onlyGivenNames zz
       first
         | (with_reducible refine Kept.cut (P := P) (x := zz) ?_ ?_
            on_goal 2 => clear_value zz
            on_goal 1 => subst zz)
         | (with_reducible refine Kept.cut1 (P := P) (x := zz) ?_ ?_
            on_goal 2 => clear_value zz
            on_goal 1 => subst zz)
         | (have zn : Nat := zz
            clear zn
            subst zz)
         | clear_value zz
         | subst zz)
    | with_reducible apply State.signal_kept
    | split
    | fail_if_no_progress with_reducible apply kk.rest
    | fail_if_no_progress (with_reducible apply kv.svc; with_reducible apply kk.rest)

theorem State.endPending_kept {P : State → Prop} (kk : Kept P) (kv : KeptV P) {s : State} {i sub u status : Nat} (h_s : P s) :
    P (State.endPending s i sub u status) := by
  unfold State.endPending
  repeat' first
    | with_reducible assumption
    | with_reducible intro _
    | with_reducible apply State.endTicket_kept
    | split
    | fail_if_no_progress with_reducible apply kk.rest

theorem State.freeSkip_kept {P : State → Prop} (kk : Kept P) {s : State} {n : Nat} (h_s : P s) :
    P (State.freeSkip s n) := by
  unfold State.freeSkip
  repeat' first
    | with_reducible assumption
    | with_reducible intro _
    | split
    | fail_if_no_progress with_reducible apply kk.rest

theorem State.unpoison_kept {P : State → Prop} (kk : Kept P) {s : State} {h : HalfId} {p : Nat → Bool} (h_s : P s) :
    P (State.unpoison s h p) := by
  unfold State.unpoison
  repeat' first
    | with_reducible assumption
    | with_reducible intro _
    | split
    | fail_if_no_progress with_reducible apply kk.rest

theorem State.hbmZero_kept {P : State → Prop} (kk : Kept P) (km : KeptM P) {s : State} {h : HalfId} {a n : Nat} (h_s : P s) :
    P (State.hbmZero s h a n) := by
  unfold State.hbmZero
  repeat' first
    | with_reducible assumption
    | with_reducible intro _
    | (extract_lets +onlyGivenNames zz
       first
         | (with_reducible refine Kept.cut (P := P) (x := zz) ?_ ?_
            on_goal 2 => clear_value zz
            on_goal 1 => subst zz)
         | (with_reducible refine Kept.cut1 (P := P) (x := zz) ?_ ?_
            on_goal 2 => clear_value zz
            on_goal 1 => subst zz)
         | (have zn : Nat := zz
            clear zn
            subst zz)
         | clear_value zz
         | subst zz)
    | with_reducible apply State.unpoison_kept
    | with_reducible apply km.clear
    | with_reducible apply km.drop
    | split
    | fail_if_no_progress with_reducible apply kk.rest

theorem State.tick_kept {P : State → Prop} (kk : Kept P) (kh : KeptH P) (kd : KeptD P [0x1000, 0x1005]) {s : State} (h_s : P s) :
    P (State.tick s) := by
  unfold State.tick
  repeat' first
    | with_reducible assumption
    | with_reducible intro _
    | (extract_lets +onlyGivenNames zz
       first
         | (with_reducible refine Kept.cut (P := P) (x := zz) ?_ ?_
            on_goal 2 => clear_value zz
            on_goal 1 => subst zz)
         | (with_reducible refine Kept.cut1 (P := P) (x := zz) ?_ ?_
            on_goal 2 => clear_value zz
            on_goal 1 => subst zz)
         | (have zn : Nat := zz
            clear zn
            subst zz)
         | clear_value zz
         | subst zz)
    | with_reducible apply State.add64_kept
    | exact kd.mem (by decide)
    | exact kd.mem (pick_mem (by decide) (by decide))
    | exact kd.mono (by decide)
    | split
    | fail_if_no_progress with_reducible apply kk.rest
    | fail_if_no_progress (with_reducible apply kh.halves; with_reducible apply kk.rest)

end Sys2Proof.Machine
end

