-- ==== Sys2Proof/Laws/KeptContextOps.lean ====
section
/-! SUPPORT. What every definition of Machine/ContextOps.lean keeps of a state: one lemma each (Laws/Kept.lean). -/

namespace Sys2Proof.Machine

open Sys2Proof

set_option linter.all false

theorem State.failCheck_kept {P : State → Prop} (kk : Kept P) (kc : KeptC P) {s : State} {n unit : Nat} (h_s : P s) :
    P (State.failCheck s n unit) := by
  unfold State.failCheck
  repeat' first
    | with_reducible assumption
    | with_reducible intro _
    | with_reducible apply State.modCtx_kept
    | split
    | fail_if_no_progress with_reducible apply kk.rest

theorem State.setReason_kept {P : State → Prop}  (kn : KeptN P) {s : State} {n b : Nat} (h_s : P s) :
    P (State.setReason s n b) := by
  unfold State.setReason
  repeat' first
    | with_reducible assumption
    | with_reducible intro _
    | with_reducible apply State.putFlag_kept
    | exact kn.mem _
    | split
    | fail_if_no_progress with_reducible apply kk.rest

theorem State.clearReason_kept {P : State → Prop}  (kn : KeptN P) {s : State} {n b : Nat} (h_s : P s) :
    P (State.clearReason s n b) := by
  unfold State.clearReason
  repeat' first
    | with_reducible assumption
    | with_reducible intro _
    | with_reducible apply State.putFlag_kept
    | exact kn.mem _
    | split
    | fail_if_no_progress with_reducible apply kk.rest

theorem State.ctxEvent_kept {P : State → Prop} (kk : Kept P) (kn : KeptN P) {s : State} {n b : Nat} (h_s : P s) :
    P (State.ctxEvent s n b) := by
  unfold State.ctxEvent
  repeat' first
    | with_reducible assumption
    | with_reducible intro _
    | (extract_lets +onlyGivenNames zz
       first
         | (with_reducible refine Kept.cut (P := P) (x := zz) ?_ ?_
            on_goal 2 => clear_value zz
            on_goal 1 => subst zz)
         | (with_reducible refine Kept.cut1 (P := P) (x := zz) ?_ ?_
            on_goal 2 => clear_value zz
            on_goal 1 => subst zz)
         | (have zn : Nat := zz
            clear zn
            subst zz)
         | clear_value zz
         | subst zz)
    | with_reducible apply State.putFlag_kept
    | with_reducible apply State.signal_kept
    | exact kn.mem _
    | split
    | fail_if_no_progress with_reducible apply kk.rest

theorem State.settle_kept {P : State → Prop} (kk : Kept P) (kv : KeptV P) {s : State} {n : Nat} {asked : Bool} (h_s : P s) :
    P (State.settle s n asked) := by
  unfold State.settle
  repeat' first
    | with_reducible assumption
    | with_reducible intro _
    | with_reducible apply State.endPending_kept
    | split
    | fail_if_no_progress with_reducible apply kk.rest

theorem State.toHold_kept {P : State → Prop} (kk : Kept P) (kc : KeptC P) (kv : KeptV P) (kn : KeptN P) {s : State} {n : Nat} (h_s : P s) :
    P (State.toHold s n) := by
  unfold State.toHold
  repeat' first
    | with_reducible assumption
    | with_reducible intro _
    | (extract_lets +onlyGivenNames zz
       first
         | (with_reducible refine Kept.cut (P := P) (x := zz) ?_ ?_
            on_goal 2 => clear_value zz
            on_goal 1 => subst zz)
         | (with_reducible refine Kept.cut1 (P := P) (x := zz) ?_ ?_
            on_goal 2 => clear_value zz
            on_goal 1 => subst zz)
         | (have zn : Nat := zz
            clear zn
            subst zz)
         | clear_value zz
         | subst zz)
    | with_reducible apply State.ctxEvent_kept
    | with_reducible apply State.setCtx_kept
    | with_reducible apply State.settle_kept
    | exact kn.mem _
    | split
    | fail_if_no_progress with_reducible apply kk.rest

theorem State.askHold_kept {P : State → Prop} (kk : Kept P) (kc : KeptC P) (kv : KeptV P) (kn : KeptN P) {s : State} {n : Nat} (h_s : P s) :
    P (State.askHold s n) := by
  unfold State.askHold
  repeat' first
    | with_reducible assumption
    | with_reducible intro _
    | with_reducible apply State.setCtx_kept
    | with_reducible apply State.toHold_kept
    | exact kn.mem _
    | split
    | fail_if_no_progress with_reducible apply kk.rest

theorem State.reasonHold_kept {P : State → Prop} (kk : Kept P) (kc : KeptC P) (kv : KeptV P) (kn : KeptN P) {s : State} {n b : Nat} {all : Bool} (h_s : P s) :
    P (State.reasonHold s n b all) := by
  unfold State.reasonHold
  repeat' first
    | with_reducible assumption
    | with_reducible intro _
    | with_reducible apply State.askHold_kept
    | with_reducible apply State.setCtx_kept
    | with_reducible apply State.setReason_kept
    | with_reducible apply State.toHold_kept
    | exact kn.mem _
    | split
    | fail_if_no_progress with_reducible apply kk.rest

theorem State.holdCompanions_kept {P : State → Prop} (kk : Kept P) (kc : KeptC P) (kv : KeptV P) (kn : KeptN P) {s : State} {n : Nat} (h_s : P s) :
    P (State.holdCompanions s n) := by
  unfold State.holdCompanions
  repeat' first
    | with_reducible assumption
    | with_reducible intro _
    | with_reducible apply State.reasonHold_kept
    | exact kn.mem _
    | with_reducible refine Kept.foldl (fun _ _ _ => ?_) ?_
    | with_reducible refine Kept.foldl1 (fun _ _ _ => ?_) ?_
    | split
    | fail_if_no_progress with_reducible apply kk.rest

theorem State.enterHold_kept {P : State → Prop} (kk : Kept P) (kc : KeptC P) (kv : KeptV P) (kn : KeptN P) {s : State} {n : Nat} (h_s : P s) :
    P (State.enterHold s n) := by
  unfold State.enterHold
  repeat' first
    | with_reducible assumption
    | with_reducible intro _
    | with_reducible apply State.holdCompanions_kept
    | with_reducible apply State.toHold_kept
    | exact kn.mem _
    | split
    | fail_if_no_progress with_reducible apply kk.rest

theorem State.enterDone_kept {P : State → Prop} (kk : Kept P) (kc : KeptC P) (kv : KeptV P) (kn : KeptN P) {s : State} {n : Nat} (h_s : P s) :
    P (State.enterDone s n) := by
  unfold State.enterDone
  repeat' first
    | with_reducible assumption
    | with_reducible intro _
    | (extract_lets +onlyGivenNames zz
       first
         | (with_reducible refine Kept.cut (P := P) (x := zz) ?_ ?_
            on_goal 2 => clear_value zz
            on_goal 1 => subst zz)
         | (with_reducible refine Kept.cut1 (P := P) (x := zz) ?_ ?_
            on_goal 2 => clear_value zz
            on_goal 1 => subst zz)
         | (have zn : Nat := zz
            clear zn
            subst zz)
         | clear_value zz
         | subst zz)
    | with_reducible apply State.clearReason_kept
    | with_reducible apply State.ctxEvent_kept
    | with_reducible apply State.holdCompanions_kept
    | with_reducible apply State.setCtx_kept
    | with_reducible apply State.settle_kept
    | exact kn.mem _
    | split
    | fail_if_no_progress with_reducible apply kk.rest

theorem State.dropSnapshots_kept {P : State → Prop}  (kd : KeptD P [0x4021]) {s : State} {n : Nat} (h_s : P s) :
    P (State.dropSnapshots s n) := by
  unfold State.dropSnapshots
  repeat' first
    | with_reducible assumption
    | with_reducible intro _
    | with_reducible apply State.putAt_kept
    | exact kd.mem (by decide)
    | exact kd.mem (pick_mem (by decide) (by decide))
    | exact kd.mono (by decide)
    | with_reducible refine Kept.foldl (fun _ _ _ => ?_) ?_
    | with_reducible refine Kept.foldl1 (fun _ _ _ => ?_) ?_
    | split
    | fail_if_no_progress with_reducible apply kk.rest

theorem State.enterFault_kept {P : State → Prop} (kk : Kept P) (kc : KeptC P) (kv : KeptV P) (kd : KeptD P [0x4021]) (kn : KeptN P) {s : State} {n b : Nat} (h_s : P s) :
    P (State.enterFault s n b) := by
  unfold State.enterFault
  repeat' first
    | with_reducible assumption
    | with_reducible intro _
    | (extract_lets +onlyGivenNames zz
       first
         | (with_reducible refine Kept.cut (P := P) (x := zz) ?_ ?_
            on_goal 2 => clear_value zz
            on_goal 1 => subst zz)
         | (with_reducible refine Kept.cut1 (P := P) (x := zz) ?_ ?_
            on_goal 2 => clear_value zz
            on_goal 1 => subst zz)
         | (have zn : Nat := zz
            clear zn
            subst zz)
         | clear_value zz
         | subst zz)
    | with_reducible apply State.ctxEvent_kept
    | with_reducible apply State.dropSnapshots_kept
    | with_reducible apply State.holdCompanions_kept
    | with_reducible apply State.setCtx_kept
    | with_reducible apply State.setReason_kept
    | with_reducible apply State.settle_kept
    | exact kd.mem (by decide)
    | exact kd.mem (pick_mem (by decide) (by decide))
    | exact kd.mono (by decide)
    | exact kn.mem _
    | split
    | fail_if_no_progress with_reducible apply kk.rest

theorem State.dropCtxKeys_kept {P : State → Prop}  (kq : KeptQ P) {s : State} {n : Nat} (h_s : P s) :
    P (State.dropCtxKeys s n) := by
  unfold State.dropCtxKeys
  repeat' first
    | with_reducible assumption
    | with_reducible intro _
    | with_reducible apply State.dropKeys_kept
    | split
    | fail_if_no_progress with_reducible apply kk.rest

theorem State.noteFacts_kept {P : State → Prop} (kk : Kept P) (kc : KeptC P) {s : State} {n : Nat} (h_s : P s) :
    P (State.noteFacts s n) := by
  unfold State.noteFacts
  repeat' first
    | with_reducible assumption
    | with_reducible intro _
    | (extract_lets +onlyGivenNames zz
       first
         | (with_reducible refine Kept.cut (P := P) (x := zz) ?_ ?_
            on_goal 2 => clear_value zz
            on_goal 1 => subst zz)
         | (with_reducible refine Kept.cut1 (P := P) (x := zz) ?_ ?_
            on_goal 2 => clear_value zz
            on_goal 1 => subst zz)
         | (have zn : Nat := zz
            clear zn
            subst zz)
         | clear_value zz
         | subst zz)
    | with_reducible apply State.modCtx_kept
    | split
    | fail_if_no_progress with_reducible apply kk.rest

theorem State.zeroClaims_kept {P : State → Prop} (kk : Kept P) (km : KeptM P) {s : State} {h : HalfId} {n : Nat} (h_s : P s) :
    P (State.zeroClaims s h n) := by
  unfold State.zeroClaims
  repeat' first
    | with_reducible assumption
    | with_reducible intro _
    | with_reducible apply State.hbmZero_kept
    | with_reducible refine Kept.foldl (fun _ _ _ => ?_) ?_
    | with_reducible refine Kept.foldl1 (fun _ _ _ => ?_) ?_
    | split
    | fail_if_no_progress with_reducible apply kk.rest

theorem State.faultCompanions_kept {P : State → Prop} (kk : Kept P) (kc : KeptC P) (kv : KeptV P) (kd : KeptD P [0x4021]) (kn : KeptN P) {s : State} {n : Nat} (h_s : P s) :
    P (State.faultCompanions s n) := by
  unfold State.faultCompanions
  repeat' first
    | with_reducible assumption
    | with_reducible intro _
    | with_reducible apply State.enterFault_kept
    | exact kd.mem (by decide)
    | exact kd.mem (pick_mem (by decide) (by decide))
    | exact kd.mono (by decide)
    | exact kn.mem _
    | with_reducible refine Kept.foldl (fun _ _ _ => ?_) ?_
    | with_reducible refine Kept.foldl1 (fun _ _ _ => ?_) ?_
    | split
    | fail_if_no_progress with_reducible apply kk.rest

theorem State.countSent_kept {P : State → Prop} (kk : Kept P) (kd : KeptD P [0x7040, 0x9030, 0x9031, 0xF030]) {s : State} {h : HalfId} {k : Nat} (h_s : P s) :
    P (State.countSent s h k) := by
  unfold State.countSent
  repeat' first
    | with_reducible assumption
    | with_reducible intro _
    | (extract_lets +onlyGivenNames zz
       first
         | (with_reducible refine Kept.cut (P := P) (x := zz) ?_ ?_
            on_goal 2 => clear_value zz
            on_goal 1 => subst zz)
         | (with_reducible refine Kept.cut1 (P := P) (x := zz) ?_ ?_
            on_goal 2 => clear_value zz
            on_goal 1 => subst zz)
         | (have zn : Nat := zz
            clear zn
            subst zz)
         | clear_value zz
         | subst zz)
    | with_reducible apply State.log_kept
    | with_reducible apply State.put_kept
    | with_reducible apply State.put64_kept
    | exact kd.mem (by decide)
    | exact kd.mem (pick_mem (by decide) (by decide))
    | exact kd.mono (by decide)
    | split
    | fail_if_no_progress with_reducible apply kk.rest

theorem State.sendOut_kept {P : State → Prop} (kk : Kept P) (kd : KeptD P [0x7040, 0x9030, 0x9031, 0xF030]) {s : State} {h : HalfId} {len : Nat} {o : Out} (h_s : P s) :
    P (State.sendOut s h len o) := by
  unfold State.sendOut
  repeat' first
    | with_reducible assumption
    | with_reducible intro _
    | with_reducible apply State.countSent_kept
    | with_reducible apply State.emit_kept
    | exact kd.mem (by decide)
    | exact kd.mem (pick_mem (by decide) (by decide))
    | exact kd.mono (by decide)
    | split
    | fail_if_no_progress with_reducible apply kk.rest

theorem State.flushUnsent_kept {P : State → Prop} (kk : Kept P) (kd : KeptD P [0x7040, 0x9030, 0x9031, 0xF030]) {s : State} {h : HalfId} (h_s : P s) :
    P (State.flushUnsent s h) := by
  unfold State.flushUnsent
  repeat' first
    | with_reducible assumption
    | with_reducible intro _
    | (extract_lets +onlyGivenNames zz
       first
         | (with_reducible refine Kept.cut (P := P) (x := zz) ?_ ?_
            on_goal 2 => clear_value zz
            on_goal 1 => subst zz)
         | (with_reducible refine Kept.cut1 (P := P) (x := zz) ?_ ?_
            on_goal 2 => clear_value zz
            on_goal 1 => subst zz)
         | (have zn : Nat := zz
            clear zn
            subst zz)
         | clear_value zz
         | subst zz)
    | with_reducible apply State.sendOut_kept
    | exact kd.mem (by decide)
    | exact kd.mem (pick_mem (by decide) (by decide))
    | exact kd.mono (by decide)
    | with_reducible refine Kept.foldl (fun _ _ _ => ?_) ?_
    | with_reducible refine Kept.foldl1 (fun _ _ _ => ?_) ?_
    | split
    | fail_if_no_progress with_reducible apply kk.rest

theorem State.handItem_kept {P : State → Prop} (kk : Kept P) (kd : KeptD P [0x7040, 0x9030, 0x9031, 0xF030]) {s : State} {n dest cls step item attempt : Nat} {data : List Byte} (h_s : P s) :
    P (State.handItem s n dest cls step item attempt data) := by
  unfold State.handItem
  repeat' first
    | with_reducible assumption
    | with_reducible intro _
    | with_reducible apply State.sendOut_kept
    | exact kd.mem (by decide)
    | exact kd.mem (pick_mem (by decide) (by decide))
    | exact kd.mono (by decide)
    | split
    | fail_if_no_progress with_reducible apply kk.rest

end Sys2Proof.Machine
end

