-- ==== Sys2Proof/Laws/KeptFlags.lean ====
section
/-! SUPPORT. What every definition of Machine/Flags.lean keeps of a state: one lemma each (Laws/Kept.lean). -/

namespace Sys2Proof.Machine

open Sys2Proof

set_option linter.all false

theorem State.throttle_kept {P : State → Prop}  (kd : KeptD P [0x1012, 0x1013, 0x1015, 0x1016]) {s : State} {h : HalfId} (h_s : P s) :
    P (State.throttle s h) := by
  unfold State.throttle
  repeat' first
    | with_reducible assumption
    | with_reducible intro _
    | (extract_lets +onlyGivenNames zz
       first
         | (with_reducible refine Kept.cut (P := P) (x := zz) ?_ ?_
            on_goal 2 => clear_value zz
            on_goal 1 => subst zz)
         | (with_reducible refine Kept.cut1 (P := P) (x := zz) ?_ ?_
            on_goal 2 => clear_value zz
            on_goal 1 => subst zz)
         | (have zn : Nat := zz
            clear zn
            subst zz)
         | clear_value zz
         | subst zz)
    | with_reducible apply State.addAt_kept
    | with_reducible apply State.put_kept
    | exact kd.mem (by decide)
    | exact kd.mem (pick_mem (by decide) (by decide))
    | exact kd.mono (by decide)
    | with_reducible refine Kept.foldl (fun _ _ _ => ?_) ?_
    | with_reducible refine Kept.foldl1 (fun _ _ _ => ?_) ?_
    | split
    | fail_if_no_progress with_reducible apply kk.rest

theorem State.throttleBoth_kept {P : State → Prop}  (kd : KeptD P [0x1012, 0x1013, 0x1015, 0x1016]) {s : State} (h_s : P s) :
    P (State.throttleBoth s) := by
  unfold State.throttleBoth
  repeat' first
    | with_reducible assumption
    | with_reducible intro _
    | with_reducible apply State.throttle_kept
    | exact kd.mem (by decide)
    | exact kd.mem (pick_mem (by decide) (by decide))
    | exact kd.mono (by decide)
    | split
    | fail_if_no_progress with_reducible apply kk.rest

theorem State.reasonTick_kept {P : State → Prop}  {i : Nat} (hi : KeptAt P i) {s : State} (h_s : P s) :
    P (State.reasonTick s i) := by
  unfold State.reasonTick
  repeat' first
    | with_reducible assumption
    | with_reducible intro _
    | with_reducible apply State.put64_kept
    | with_reducible refine Kept.foldl (fun _ _ _ => ?_) ?_
    | with_reducible refine Kept.foldl1 (fun _ _ _ => ?_) ?_
    | split
    | fail_if_no_progress with_reducible apply kk.rest

theorem State.raiseReplace_kept {P : State → Prop}  (kd : KeptD P [0x0080]) {s : State} {h : HalfId} {b : Nat} (h_s : P s) :
    P (State.raiseReplace s h b) := by
  unfold State.raiseReplace
  repeat' first
    | with_reducible assumption
    | with_reducible intro _
    | (extract_lets +onlyGivenNames zz
       first
         | (with_reducible refine Kept.cut (P := P) (x := zz) ?_ ?_
            on_goal 2 => clear_value zz
            on_goal 1 => subst zz)
         | (with_reducible refine Kept.cut1 (P := P) (x := zz) ?_ ?_
            on_goal 2 => clear_value zz
            on_goal 1 => subst zz)
         | (have zn : Nat := zz
            clear zn
            subst zz)
         | clear_value zz
         | subst zz)
    | with_reducible apply State.put_kept
    | with_reducible apply State.put64_kept
    | with_reducible apply State.putFlag_kept
    | exact kd.mem (by decide)
    | exact kd.mem (pick_mem (by decide) (by decide))
    | exact kd.mono (by decide)
    | split
    | fail_if_no_progress with_reducible apply kk.rest

theorem State.clearReplace_kept {P : State → Prop}  (kd : KeptD P [0x0080]) {s : State} {h : HalfId} {bits : List Nat} (h_s : P s) :
    P (State.clearReplace s h bits) := by
  unfold State.clearReplace
  repeat' first
    | with_reducible assumption
    | with_reducible intro _
    | (extract_lets +onlyGivenNames zz
       first
         | (with_reducible refine Kept.cut (P := P) (x := zz) ?_ ?_
            on_goal 2 => clear_value zz
            on_goal 1 => subst zz)
         | (with_reducible refine Kept.cut1 (P := P) (x := zz) ?_ ?_
            on_goal 2 => clear_value zz
            on_goal 1 => subst zz)
         | (have zn : Nat := zz
            clear zn
            subst zz)
         | clear_value zz
         | subst zz)
    | with_reducible apply State.put_kept
    | with_reducible apply State.putFlag_kept
    | exact kd.mem (by decide)
    | exact kd.mem (pick_mem (by decide) (by decide))
    | exact kd.mono (by decide)
    | with_reducible refine Kept.foldl (fun _ _ _ => ?_) ?_
    | with_reducible refine Kept.foldl1 (fun _ _ _ => ?_) ?_
    | split
    | fail_if_no_progress with_reducible apply kk.rest

end Sys2Proof.Machine
end

