-- ==== Sys2Proof/Laws/KeptPowerOps.lean ====
section
/-! SUPPORT. What every definition of Machine/PowerOps.lean keeps of a state: one lemma each (Laws/Kept.lean). -/

namespace Sys2Proof.Machine

open Sys2Proof

set_option linter.all false

theorem State.repin_kept {P : State → Prop} (kk : Kept P) {s old : State} {p : Pin} (h_s : P s) (h_old : P old) :
    P (State.repin s old p) := by
  unfold State.repin
  repeat' first
    | with_reducible assumption
    | with_reducible intro _
    | with_reducible apply State.emit_kept
    | split
    | fail_if_no_progress with_reducible apply kk.rest

theorem State.hotJoin_kept {P : State → Prop} (kk : Kept P) {s : State} (h_s : P s) :
    P (State.hotJoin s) := by
  unfold State.hotJoin
  repeat' first
    | with_reducible assumption
    | with_reducible intro _
    | with_reducible apply State.emit_kept
    | split
    | fail_if_no_progress with_reducible apply kk.rest

theorem State.setSupply_kept {P : State → Prop}  (kd : KeptD P [0x0100]) {s : State} {n : Nat} (h_s : P s) :
    P (State.setSupply s n) := by
  unfold State.setSupply
  repeat' first
    | with_reducible assumption
    | with_reducible intro _
    | (extract_lets +onlyGivenNames zz
       first
         | (with_reducible refine Kept.cut (P := P) (x := zz) ?_ ?_
            on_goal 2 => clear_value zz
            on_goal 1 => subst zz)
         | (with_reducible refine Kept.cut1 (P := P) (x := zz) ?_ ?_
            on_goal 2 => clear_value zz
            on_goal 1 => subst zz)
         | (have zn : Nat := zz
            clear zn
            subst zz)
         | clear_value zz
         | subst zz)
    | with_reducible apply State.bump_kept
    | with_reducible apply State.put_kept
    | exact kd.mem (by decide)
    | exact kd.mem (pick_mem (by decide) (by decide))
    | exact kd.mono (by decide)
    | split
    | fail_if_no_progress with_reducible apply kk.rest

theorem State.regrant_kept {P : State → Prop}  (kd : KeptD P [0x0041, 0x1011]) {s : State} (h_s : P s) :
    P (State.regrant s) := by
  unfold State.regrant
  repeat' first
    | with_reducible assumption
    | with_reducible intro _
    | (extract_lets +onlyGivenNames zz
       first
         | (with_reducible refine Kept.cut (P := P) (x := zz) ?_ ?_
            on_goal 2 => clear_value zz
            on_goal 1 => subst zz)
         | (with_reducible refine Kept.cut1 (P := P) (x := zz) ?_ ?_
            on_goal 2 => clear_value zz
            on_goal 1 => subst zz)
         | (have zn : Nat := zz
            clear zn
            subst zz)
         | clear_value zz
         | subst zz)
    | with_reducible apply State.put_kept
    | exact kd.mem (by decide)
    | exact kd.mem (pick_mem (by decide) (by decide))
    | exact kd.mono (by decide)
    | split
    | fail_if_no_progress with_reducible apply kk.rest

theorem State.setD2h_kept {P : State → Prop} (kk : Kept P) {s : State} {h : HalfId} {l : List D2HReq} (h_s : P s) :
    P (State.setD2h s h l) := by
  unfold State.setD2h
  repeat' first
    | with_reducible assumption
    | with_reducible intro _
    | split
    | fail_if_no_progress with_reducible apply kk.rest

theorem State.request_kept {P : State → Prop} (kk : Kept P) {s : State} {h : HalfId} {k : D2H} {a : Nat} {l : List Byte} (h_s : P s) :
    P (State.request s h k a l) := by
  unfold State.request
  repeat' first
    | with_reducible assumption
    | with_reducible intro _
    | with_reducible apply State.setD2h_kept
    | split
    | fail_if_no_progress with_reducible apply kk.rest

theorem State.d2hServe_kept {P : State → Prop} (kk : Kept P) {s : State} (h_s : P s) :
    P (State.d2hServe s) := by
  unfold State.d2hServe
  repeat' first
    | with_reducible assumption
    | with_reducible intro _
    | (extract_lets +onlyGivenNames zz
       first
         | (with_reducible refine Kept.cut (P := P) (x := zz) ?_ ?_
            on_goal 2 => clear_value zz
            on_goal 1 => subst zz)
         | (with_reducible refine Kept.cut1 (P := P) (x := zz) ?_ ?_
            on_goal 2 => clear_value zz
            on_goal 1 => subst zz)
         | (have zn : Nat := zz
            clear zn
            subst zz)
         | clear_value zz
         | subst zz)
    | with_reducible apply State.emit_kept
    | with_reducible apply State.setD2h_kept
    | split
    | fail_if_no_progress with_reducible apply kk.rest

theorem State.d2hDrain_kept {P : State → Prop} (kk : Kept P) {s : State} {h : HalfId} (h_s : P s) :
    P (State.d2hDrain s h) := by
  unfold State.d2hDrain
  repeat' first
    | with_reducible assumption
    | with_reducible intro _
    | with_reducible apply State.emit_kept
    | with_reducible apply State.setD2h_kept
    | with_reducible refine Kept.foldl (fun _ _ _ => ?_) ?_
    | with_reducible refine Kept.foldl1 (fun _ _ _ => ?_) ?_
    | split
    | fail_if_no_progress with_reducible apply kk.rest

theorem State.evict_kept {P : State → Prop} (kk : Kept P) (kd : KeptD P [0xA003]) {s : State} {h : HalfId} {l : CacheLine} (h_s : P s) :
    P (State.evict s h l) := by
  unfold State.evict
  repeat' first
    | with_reducible assumption
    | with_reducible intro _
    | (extract_lets +onlyGivenNames zz
       first
         | (with_reducible refine Kept.cut (P := P) (x := zz) ?_ ?_
            on_goal 2 => clear_value zz
            on_goal 1 => subst zz)
         | (with_reducible refine Kept.cut1 (P := P) (x := zz) ?_ ?_
            on_goal 2 => clear_value zz
            on_goal 1 => subst zz)
         | (have zn : Nat := zz
            clear zn
            subst zz)
         | clear_value zz
         | subst zz)
    | with_reducible apply State.add64_kept
    | with_reducible apply State.request_kept
    | exact kd.mem (by decide)
    | exact kd.mem (pick_mem (by decide) (by decide))
    | exact kd.mono (by decide)
    | split
    | fail_if_no_progress with_reducible apply kk.rest

theorem State.fillLine_kept {P : State → Prop} (kk : Kept P) (kd : KeptD P [0xA003]) {s : State} {h : HalfId} {a : Nat} {dirty : Bool} {data : List Byte} (h_s : P s) :
    P (State.fillLine s h a dirty data) := by
  unfold State.fillLine
  repeat' first
    | with_reducible assumption
    | with_reducible intro _
    | (extract_lets +onlyGivenNames zz
       first
         | (with_reducible refine Kept.cut (P := P) (x := zz) ?_ ?_
            on_goal 2 => clear_value zz
            on_goal 1 => subst zz)
         | (with_reducible refine Kept.cut1 (P := P) (x := zz) ?_ ?_
            on_goal 2 => clear_value zz
            on_goal 1 => subst zz)
         | (have zn : Nat := zz
            clear zn
            subst zz)
         | clear_value zz
         | subst zz)
    | with_reducible apply State.evict_kept
    | exact kd.mem (by decide)
    | exact kd.mem (pick_mem (by decide) (by decide))
    | exact kd.mono (by decide)
    | split
    | fail_if_no_progress with_reducible apply kk.rest

theorem State.dropLine_kept {P : State → Prop} (kk : Kept P) {s : State} {h : HalfId} {a : Nat} (h_s : P s) :
    P (State.dropLine s h a) := by
  unfold State.dropLine
  repeat' first
    | with_reducible assumption
    | with_reducible intro _
    | split
    | fail_if_no_progress with_reducible apply kk.rest

theorem State.flushCache_kept {P : State → Prop} (kk : Kept P) (kd : KeptD P [0xA003]) {s : State} {h : HalfId} (h_s : P s) :
    P (State.flushCache s h) := by
  unfold State.flushCache
  repeat' first
    | with_reducible assumption
    | with_reducible intro _
    | (extract_lets +onlyGivenNames zz
       first
         | (with_reducible refine Kept.cut (P := P) (x := zz) ?_ ?_
            on_goal 2 => clear_value zz
            on_goal 1 => subst zz)
         | (with_reducible refine Kept.cut1 (P := P) (x := zz) ?_ ?_
            on_goal 2 => clear_value zz
            on_goal 1 => subst zz)
         | (have zn : Nat := zz
            clear zn
            subst zz)
         | clear_value zz
         | subst zz)
    | with_reducible apply State.add64_kept
    | with_reducible apply State.d2hDrain_kept
    | with_reducible apply State.emit_kept
    | exact kd.mem (by decide)
    | exact kd.mem (pick_mem (by decide) (by decide))
    | exact kd.mono (by decide)
    | with_reducible refine Kept.foldl (fun _ _ _ => ?_) ?_
    | with_reducible refine Kept.foldl1 (fun _ _ _ => ?_) ?_
    | split
    | fail_if_no_progress with_reducible apply kk.rest

theorem State.answer_kept {P : State → Prop} (kk : Kept P) {s : State} {p : Path} {op i sub tag status : Nat} (h_s : P s) :
    P (State.answer s p op i sub tag status) := by
  unfold State.answer
  repeat' first
    | with_reducible assumption
    | with_reducible intro _
    | with_reducible apply State.emit_kept
    | split
    | fail_if_no_progress with_reducible apply kk.rest

theorem State.recordWindow_kept {P : State → Prop} (kk : Kept P) (kd : KeptD P [0x0010]) {s : State} {i sub status ticket hint : Nat} (h_s : P s) :
    P (State.recordWindow s i sub status ticket hint) := by
  unfold State.recordWindow
  repeat' first
    | with_reducible assumption
    | with_reducible intro _
    | (extract_lets +onlyGivenNames zz
       first
         | (with_reducible refine Kept.cut (P := P) (x := zz) ?_ ?_
            on_goal 2 => clear_value zz
            on_goal 1 => subst zz)
         | (with_reducible refine Kept.cut1 (P := P) (x := zz) ?_ ?_
            on_goal 2 => clear_value zz
            on_goal 1 => subst zz)
         | (have zn : Nat := zz
            clear zn
            subst zz)
         | clear_value zz
         | subst zz)
    | with_reducible apply State.put_kept
    | with_reducible apply State.signal_kept
    | exact kd.mem (by decide)
    | exact kd.mem (pick_mem (by decide) (by decide))
    | exact kd.mono (by decide)
    | split
    | fail_if_no_progress with_reducible apply kk.rest

theorem State.respond_kept {P : State → Prop} (kk : Kept P) (kd : KeptD P [0x0010]) {s : State} {p : Path} {op i sub tag status ticket hint : Nat} {payload : List Word} (h_s : P s) :
    P (State.respond s p op i sub tag status ticket hint payload) := by
  unfold State.respond
  repeat' first
    | with_reducible assumption
    | with_reducible intro _
    | with_reducible apply State.emit_kept
    | with_reducible apply State.recordWindow_kept
    | exact kd.mem (by decide)
    | exact kd.mem (pick_mem (by decide) (by decide))
    | exact kd.mono (by decide)
    | split
    | fail_if_no_progress with_reducible apply kk.rest

theorem State.refuseWrite_kept {P : State → Prop} (kk : Kept P) (kd : KeptD P [0x0010]) {s : State} {w : HeldWrite} {status : Nat} (h_s : P s) :
    P (State.refuseWrite s w status) := by
  unfold State.refuseWrite
  repeat' first
    | with_reducible assumption
    | with_reducible intro _
    | with_reducible apply State.respond_kept
    | exact kd.mem (by decide)
    | exact kd.mem (pick_mem (by decide) (by decide))
    | exact kd.mono (by decide)
    | split
    | fail_if_no_progress with_reducible apply kk.rest

theorem State.resync_kept {P : State → Prop} (kk : Kept P) (kh : KeptH P) {s : State} {h : HalfId} (h_s : P s) :
    P (State.resync s h) := by
  unfold State.resync
  repeat' first
    | with_reducible assumption
    | with_reducible intro _
    | with_reducible apply State.freeSkip_kept
    | with_reducible apply State.modHalf_kept
    | split
    | fail_if_no_progress with_reducible apply kk.rest

theorem State.beat_kept {P : State → Prop}  (kh : KeptH P) {s : State} {h : HalfId} (h_s : P s) :
    P (State.beat s h) := by
  unfold State.beat
  repeat' first
    | with_reducible assumption
    | with_reducible intro _
    | with_reducible apply State.modHalf_kept
    | split
    | fail_if_no_progress with_reducible apply kk.rest

theorem State.telemetryHome_kept {P : State → Prop}  (kd : KeptD P [0x0011]) {s : State} {h : HalfId} (h_s : P s) :
    P (State.telemetryHome s h) := by
  unfold State.telemetryHome
  repeat' first
    | with_reducible assumption
    | with_reducible intro _
    | with_reducible apply State.putFlag_kept
    | exact kd.mem (by decide)
    | exact kd.mem (pick_mem (by decide) (by decide))
    | exact kd.mono (by decide)
    | split
    | fail_if_no_progress with_reducible apply kk.rest

theorem State.refuseHeld_kept {P : State → Prop} (kk : Kept P) (kg : KeptK P) (kd : KeptD P [0x0010]) {s : State} (h_s : P s) :
    P (State.refuseHeld s) := by
  unfold State.refuseHeld
  repeat' first
    | with_reducible assumption
    | with_reducible intro _
    | (extract_lets +onlyGivenNames zz
       first
         | (with_reducible refine Kept.cut (P := P) (x := zz) ?_ ?_
            on_goal 2 => clear_value zz
            on_goal 1 => subst zz)
         | (with_reducible refine Kept.cut1 (P := P) (x := zz) ?_ ?_
            on_goal 2 => clear_value zz
            on_goal 1 => subst zz)
         | (have zn : Nat := zz
            clear zn
            subst zz)
         | clear_value zz
         | subst zz)
    | with_reducible apply State.refuseWrite_kept
    | exact kd.mem (by decide)
    | exact kd.mem (pick_mem (by decide) (by decide))
    | exact kd.mono (by decide)
    | with_reducible refine Kept.foldl (fun _ _ _ => ?_) ?_
    | with_reducible refine Kept.foldl1 (fun _ _ _ => ?_) ?_
    | split
    | fail_if_no_progress with_reducible apply kk.rest
    | fail_if_no_progress (with_reducible apply kg.key; with_reducible apply kk.rest)

theorem State.cancelSnoops_kept {P : State → Prop} (kk : Kept P) (kd : KeptD P [0xA004]) {s : State} {h : HalfId} (h_s : P s) :
    P (State.cancelSnoops s h) := by
  unfold State.cancelSnoops
  repeat' first
    | with_reducible assumption
    | with_reducible intro _
    | (extract_lets +onlyGivenNames zz
       first
         | (with_reducible refine Kept.cut (P := P) (x := zz) ?_ ?_
            on_goal 2 => clear_value zz
            on_goal 1 => subst zz)
         | (with_reducible refine Kept.cut1 (P := P) (x := zz) ?_ ?_
            on_goal 2 => clear_value zz
            on_goal 1 => subst zz)
         | (have zn : Nat := zz
            clear zn
            subst zz)
         | clear_value zz
         | subst zz)
    | with_reducible apply State.bump_kept
    | with_reducible apply State.emit_kept
    | exact kd.mem (by decide)
    | exact kd.mem (pick_mem (by decide) (by decide))
    | exact kd.mono (by decide)
    | with_reducible refine Kept.foldl (fun _ _ _ => ?_) ?_
    | with_reducible refine Kept.foldl1 (fun _ _ _ => ?_) ?_
    | split
    | fail_if_no_progress with_reducible apply kk.rest

theorem State.dropHalf_kept {P : State → Prop} (kk : Kept P) (kg : KeptK P) (kh : KeptH P) (kd : KeptD P [0x0010, 0x0040, 0xA003, 0xA004]) {s : State} {h : HalfId} (h_s : P s) :
    P (State.dropHalf s h) := by
  unfold State.dropHalf
  repeat' first
    | with_reducible assumption
    | with_reducible intro _
    | (extract_lets +onlyGivenNames zz
       first
         | (with_reducible refine Kept.cut (P := P) (x := zz) ?_ ?_
            on_goal 2 => clear_value zz
            on_goal 1 => subst zz)
         | (with_reducible refine Kept.cut1 (P := P) (x := zz) ?_ ?_
            on_goal 2 => clear_value zz
            on_goal 1 => subst zz)
         | (have zn : Nat := zz
            clear zn
            subst zz)
         | clear_value zz
         | subst zz)
    | with_reducible apply State.cancelSnoops_kept
    | with_reducible apply State.flushCache_kept
    | with_reducible apply State.modHalf_kept
    | with_reducible apply State.refuseHeld_kept
    | with_reducible apply State.refuseWrite_kept
    | with_reducible apply State.setHolder_kept
    | exact kd.mem (by decide)
    | exact kd.mem (pick_mem (by decide) (by decide))
    | exact kd.mono (by decide)
    | with_reducible refine Kept.foldl (fun _ _ _ => ?_) ?_
    | with_reducible refine Kept.foldl1 (fun _ _ _ => ?_) ?_
    | split
    | fail_if_no_progress with_reducible apply kk.rest

theorem State.fenceContexts_kept {P : State → Prop} (kk : Kept P) (kc : KeptC P) (kn : KeptN P) {s : State} {h : HalfId} (h_s : P s) :
    P (State.fenceContexts s h) := by
  unfold State.fenceContexts
  repeat' first
    | with_reducible assumption
    | with_reducible intro _
    | with_reducible apply State.setCtx_kept
    | with_reducible apply State.setReason_kept
    | exact kn.mem _
    | with_reducible refine Kept.foldl (fun _ _ _ => ?_) ?_
    | with_reducible refine Kept.foldl1 (fun _ _ _ => ?_) ?_
    | split
    | fail_if_no_progress with_reducible apply kk.rest

theorem State.declareFence_kept {P : State → Prop} (kk : Kept P) (kc : KeptC P) (kg : KeptK P) (kh : KeptH P) (kd : KeptD P [0x0010, 0x0011, 0x0040, 0x0041, 0x0080, 0x1011, 0x1012, 0x1013, 0x1015, 0x1016, 0xA003, 0xA004]) (kn : KeptN P) {s : State} {h : HalfId} (h_s : P s) :
    P (State.declareFence s h) := by
  unfold State.declareFence
  repeat' first
    | with_reducible assumption
    | with_reducible intro _
    | (extract_lets +onlyGivenNames zz
       first
         | (with_reducible refine Kept.cut (P := P) (x := zz) ?_ ?_
            on_goal 2 => clear_value zz
            on_goal 1 => subst zz)
         | (with_reducible refine Kept.cut1 (P := P) (x := zz) ?_ ?_
            on_goal 2 => clear_value zz
            on_goal 1 => subst zz)
         | (have zn : Nat := zz
            clear zn
            subst zz)
         | clear_value zz
         | subst zz)
    | with_reducible apply State.bump_kept
    | with_reducible apply State.dropHalf_kept
    | with_reducible apply State.fenceContexts_kept
    | with_reducible apply State.modHalf_kept
    | with_reducible apply State.put64_kept
    | with_reducible apply State.raiseReplace_kept
    | with_reducible apply State.regrant_kept
    | with_reducible apply State.repin_kept
    | with_reducible apply State.setFence_kept
    | with_reducible apply State.telemetryHome_kept
    | with_reducible apply State.throttle_kept
    | exact kd.mem (by decide)
    | exact kd.mem (pick_mem (by decide) (by decide))
    | exact kd.mono (by decide)
    | exact kn.mem _
    | split
    | fail_if_no_progress with_reducible apply kk.rest

theorem State.riskEvent_kept {P : State → Prop}  (kd : KeptD P [0x7000, 0x7001]) {s : State} {h : HalfId} {kind : Nat} (h_s : P s) :
    P (State.riskEvent s h kind) := by
  unfold State.riskEvent
  repeat' first
    | with_reducible assumption
    | with_reducible intro _
    | with_reducible apply State.bump_kept
    | exact kd.mem (by decide)
    | exact kd.mem (pick_mem (by decide) (by decide))
    | exact kd.mono (by decide)
    | split
    | fail_if_no_progress with_reducible apply kk.rest

theorem State.noteJunction_kept {P : State → Prop}  (kd : KeptD P [0x1014]) {s : State} {h : HalfId} {celsius : Int} (h_s : P s) :
    P (State.noteJunction s h celsius) := by
  unfold State.noteJunction
  repeat' first
    | with_reducible assumption
    | with_reducible intro _
    | (extract_lets +onlyGivenNames zz
       first
         | (with_reducible refine Kept.cut (P := P) (x := zz) ?_ ?_
            on_goal 2 => clear_value zz
            on_goal 1 => subst zz)
         | (with_reducible refine Kept.cut1 (P := P) (x := zz) ?_ ?_
            on_goal 2 => clear_value zz
            on_goal 1 => subst zz)
         | (have zn : Nat := zz
            clear zn
            subst zz)
         | clear_value zz
         | subst zz)
    | with_reducible apply State.putAt_kept
    | exact kd.mem (by decide)
    | exact kd.mem (pick_mem (by decide) (by decide))
    | exact kd.mono (by decide)
    | split
    | fail_if_no_progress with_reducible apply kk.rest

theorem State.epochCheck_kept {P : State → Prop} (kk : Kept P) (kg : KeptK P) (kd : KeptD P [0x7040, 0xF030]) {s : State} (h_s : P s) :
    P (State.epochCheck s) := by
  unfold State.epochCheck
  repeat' first
    | with_reducible assumption
    | with_reducible intro _
    | (extract_lets +onlyGivenNames zz
       first
         | (with_reducible refine Kept.cut (P := P) (x := zz) ?_ ?_
            on_goal 2 => clear_value zz
            on_goal 1 => subst zz)
         | (with_reducible refine Kept.cut1 (P := P) (x := zz) ?_ ?_
            on_goal 2 => clear_value zz
            on_goal 1 => subst zz)
         | (have zn : Nat := zz
            clear zn
            subst zz)
         | clear_value zz
         | subst zz)
    | with_reducible apply State.log_kept
    | exact kd.mem (by decide)
    | exact kd.mem (pick_mem (by decide) (by decide))
    | exact kd.mono (by decide)
    | split
    | fail_if_no_progress with_reducible apply kk.rest
    | fail_if_no_progress (with_reducible apply kg.key; with_reducible apply kk.rest)

theorem State.claim_kept {P : State → Prop} (kk : Kept P) (kg : KeptK P) {s : State} {h : HalfId} {e : Nat} (h_s : P s) :
    P (State.claim s h e) := by
  unfold State.claim
  repeat' first
    | with_reducible assumption
    | with_reducible intro _
    | (extract_lets +onlyGivenNames zz
       first
         | (with_reducible refine Kept.cut (P := P) (x := zz) ?_ ?_
            on_goal 2 => clear_value zz
            on_goal 1 => subst zz)
         | (with_reducible refine Kept.cut1 (P := P) (x := zz) ?_ ?_
            on_goal 2 => clear_value zz
            on_goal 1 => subst zz)
         | (have zn : Nat := zz
            clear zn
            subst zz)
         | clear_value zz
         | subst zz)
    | split
    | fail_if_no_progress with_reducible apply kk.rest
    | fail_if_no_progress (with_reducible apply kg.key; with_reducible apply kk.rest)

end Sys2Proof.Machine
end

