-- ==== Sys2Proof/Laws/KeptCells.lean ====
section
/-! SUPPORT. What every definition of Machine/Cells.lean keeps of a state: one lemma each (Laws/Kept.lean). -/

namespace Sys2Proof.Machine

open Sys2Proof

set_option linter.all false

theorem State.noteEndurance_kept {P : State → Prop}  (kd : KeptD P [0x0080, 0x5020]) {s : State} {p : Nat} (h_s : P s) :
    P (State.noteEndurance s p) := by
  unfold State.noteEndurance
  repeat' first
    | with_reducible assumption
    | with_reducible intro _
    | with_reducible apply State.putBitAt_kept
    | with_reducible apply State.raiseReplace_kept
    | exact kd.mem (by decide)
    | exact kd.mem (pick_mem (by decide) (by decide))
    | exact kd.mono (by decide)
    | split
    | fail_if_no_progress with_reducible apply kk.rest

theorem State.noteRowCount_kept {P : State → Prop}  (kd : KeptD P [0x0080, 0x4001, 0x5020]) {s : State} {p n : Nat} (h_s : P s) :
    P (State.noteRowCount s p n) := by
  unfold State.noteRowCount
  repeat' first
    | with_reducible assumption
    | with_reducible intro _
    | (extract_lets +onlyGivenNames zz
       first
         | (with_reducible refine Kept.cut (P := P) (x := zz) ?_ ?_
            on_goal 2 => clear_value zz
            on_goal 1 => subst zz)
         | (with_reducible refine Kept.cut1 (P := P) (x := zz) ?_ ?_
            on_goal 2 => clear_value zz
            on_goal 1 => subst zz)
         | (have zn : Nat := zz
            clear zn
            subst zz)
         | clear_value zz
         | subst zz)
    | with_reducible apply State.noteEndurance_kept
    | with_reducible apply State.putAt_kept
    | exact kd.mem (by decide)
    | exact kd.mem (pick_mem (by decide) (by decide))
    | exact kd.mono (by decide)
    | split
    | fail_if_no_progress with_reducible apply kk.rest

theorem State.storeCount_kept {P : State → Prop} (kk : Kept P) (kt : KeptT P) {s : State} {p row n : Nat} (h_s : P s) :
    P (State.storeCount s p row n) := by
  unfold State.storeCount
  repeat' first
    | with_reducible assumption
    | with_reducible intro _
    | with_reducible apply State.modTile_kept
    | split
    | fail_if_no_progress with_reducible apply kk.rest

theorem State.countRow_kept {P : State → Prop} (kk : Kept P) (kt : KeptT P) (kd : KeptD P [0x0080, 0x4001, 0x4003, 0x5020]) {s : State} {p row : Nat} (h_s : P s) :
    P (State.countRow s p row) := by
  unfold State.countRow
  repeat' first
    | with_reducible assumption
    | with_reducible intro _
    | (extract_lets +onlyGivenNames zz
       first
         | (with_reducible refine Kept.cut (P := P) (x := zz) ?_ ?_
            on_goal 2 => clear_value zz
            on_goal 1 => subst zz)
         | (with_reducible refine Kept.cut1 (P := P) (x := zz) ?_ ?_
            on_goal 2 => clear_value zz
            on_goal 1 => subst zz)
         | (have zn : Nat := zz
            clear zn
            subst zz)
         | clear_value zz
         | subst zz)
    | with_reducible apply State.noteRowCount_kept
    | with_reducible apply State.putAt_kept
    | with_reducible apply State.storeCount_kept
    | exact kd.mem (by decide)
    | exact kd.mem (pick_mem (by decide) (by decide))
    | exact kd.mono (by decide)
    | split
    | fail_if_no_progress with_reducible apply kk.rest

theorem State.raiseCounts_kept {P : State → Prop} (kk : Kept P) (kt : KeptT P) (kd : KeptD P [0x0080, 0x4001, 0x4003, 0x5020]) {s : State} {h : HalfId} (h_s : P s) :
    P (State.raiseCounts s h) := by
  unfold State.raiseCounts
  repeat' first
    | with_reducible assumption
    | with_reducible intro _
    | (extract_lets +onlyGivenNames zz
       first
         | (with_reducible refine Kept.cut (P := P) (x := zz) ?_ ?_
            on_goal 2 => clear_value zz
            on_goal 1 => subst zz)
         | (with_reducible refine Kept.cut1 (P := P) (x := zz) ?_ ?_
            on_goal 2 => clear_value zz
            on_goal 1 => subst zz)
         | (have zn : Nat := zz
            clear zn
            subst zz)
         | clear_value zz
         | subst zz)
    | with_reducible apply State.noteRowCount_kept
    | with_reducible apply State.putAt_kept
    | with_reducible apply State.storeCount_kept
    | exact kd.mem (by decide)
    | exact kd.mem (pick_mem (by decide) (by decide))
    | exact kd.mono (by decide)
    | with_reducible refine Kept.foldl (fun _ _ _ => ?_) ?_
    | with_reducible refine Kept.foldl1 (fun _ _ _ => ?_) ?_
    | split
    | fail_if_no_progress with_reducible apply kk.rest

theorem State.pulseRow_kept {P : State → Prop} (kk : Kept P) (kt : KeptT P) (kd : KeptD P [0x0080, 0x4001, 0x4003, 0x5020]) {s : State} {p row : Nat} {levels : List (Nat × Nat)} {again : List Nat} {counts : Bool} (h_s : P s) :
    P (State.pulseRow s p row levels again counts) := by
  unfold State.pulseRow
  repeat' first
    | with_reducible assumption
    | with_reducible intro _
    | (extract_lets +onlyGivenNames zz
       first
         | (with_reducible refine Kept.cut (P := P) (x := zz) ?_ ?_
            on_goal 2 => clear_value zz
            on_goal 1 => subst zz)
         | (with_reducible refine Kept.cut1 (P := P) (x := zz) ?_ ?_
            on_goal 2 => clear_value zz
            on_goal 1 => subst zz)
         | (have zn : Nat := zz
            clear zn
            subst zz)
         | clear_value zz
         | subst zz)
    | with_reducible apply State.add64At_kept
    | with_reducible apply State.countRow_kept
    | with_reducible apply State.modTile_kept
    | exact kd.mem (by decide)
    | exact kd.mem (pick_mem (by decide) (by decide))
    | exact kd.mono (by decide)
    | with_reducible refine Kept.foldl (fun _ _ _ => ?_) ?_
    | with_reducible refine Kept.foldl1 (fun _ _ _ => ?_) ?_
    | split
    | fail_if_no_progress with_reducible apply kk.rest

theorem State.rewriteRow_kept {P : State → Prop} (kk : Kept P) (kt : KeptT P) (kd : KeptD P [0x0080, 0x4001, 0x4003, 0x5020]) {s : State} {p row : Nat} (h_s : P s) :
    P (State.rewriteRow s p row) := by
  unfold State.rewriteRow
  repeat' first
    | with_reducible assumption
    | with_reducible intro _
    | (extract_lets +onlyGivenNames zz
       first
         | (with_reducible refine Kept.cut (P := P) (x := zz) ?_ ?_
            on_goal 2 => clear_value zz
            on_goal 1 => subst zz)
         | (with_reducible refine Kept.cut1 (P := P) (x := zz) ?_ ?_
            on_goal 2 => clear_value zz
            on_goal 1 => subst zz)
         | (have zn : Nat := zz
            clear zn
            subst zz)
         | clear_value zz
         | subst zz)
    | with_reducible apply State.modTile_kept
    | with_reducible apply State.pulseRow_kept
    | exact kd.mem (by decide)
    | exact kd.mem (pick_mem (by decide) (by decide))
    | exact kd.mono (by decide)
    | with_reducible refine Kept.foldl (fun _ _ _ => ?_) ?_
    | with_reducible refine Kept.foldl1 (fun _ _ _ => ?_) ?_
    | split
    | fail_if_no_progress with_reducible apply kk.rest

theorem State.passShadow_kept {P : State → Prop} (kk : Kept P) (kt : KeptT P) (kd : KeptD P [0x4021]) {s : State} {p row : Nat} (h_s : P s) :
    P (State.passShadow s p row) := by
  unfold State.passShadow
  repeat' first
    | with_reducible assumption
    | with_reducible intro _
    | (extract_lets +onlyGivenNames zz
       first
         | (with_reducible refine Kept.cut (P := P) (x := zz) ?_ ?_
            on_goal 2 => clear_value zz
            on_goal 1 => subst zz)
         | (with_reducible refine Kept.cut1 (P := P) (x := zz) ?_ ?_
            on_goal 2 => clear_value zz
            on_goal 1 => subst zz)
         | (have zn : Nat := zz
            clear zn
            subst zz)
         | clear_value zz
         | subst zz)
    | with_reducible apply State.bumpAt_kept
    | with_reducible apply State.modTile_kept
    | exact kd.mem (by decide)
    | exact kd.mem (pick_mem (by decide) (by decide))
    | exact kd.mono (by decide)
    | split
    | fail_if_no_progress with_reducible apply kk.rest

theorem State.shadowRow_kept {P : State → Prop} (kk : Kept P) (kt : KeptT P) (kd : KeptD P [0x4021]) {s : State} {p : Nat} {inPass : Bool} {row : Nat} (h_s : P s) :
    P (State.shadowRow s p inPass row) := by
  unfold State.shadowRow
  repeat' first
    | with_reducible assumption
    | with_reducible intro _
    | with_reducible apply State.modTile_kept
    | with_reducible apply State.passShadow_kept
    | exact kd.mem (by decide)
    | exact kd.mem (pick_mem (by decide) (by decide))
    | exact kd.mono (by decide)
    | split
    | fail_if_no_progress with_reducible apply kk.rest

theorem State.shadowAll_kept {P : State → Prop} (kk : Kept P) (kt : KeptT P) (kd : KeptD P [0x4021]) {s : State} {p : Nat} {inPass : Bool} (h_s : P s) :
    P (State.shadowAll s p inPass) := by
  unfold State.shadowAll
  repeat' first
    | with_reducible assumption
    | with_reducible intro _
    | with_reducible apply State.shadowRow_kept
    | exact kd.mem (by decide)
    | exact kd.mem (pick_mem (by decide) (by decide))
    | exact kd.mono (by decide)
    | with_reducible refine Kept.foldl (fun _ _ _ => ?_) ?_
    | with_reducible refine Kept.foldl1 (fun _ _ _ => ?_) ?_
    | split
    | fail_if_no_progress with_reducible apply kk.rest

end Sys2Proof.Machine
end

