-- ==== Sys2Proof/Laws/KeptSpares.lean ====
section
/-! SUPPORT. What every definition of Machine/Spares.lean keeps of a state: one lemma each (Laws/Kept.lean). -/

namespace Sys2Proof.Machine

open Sys2Proof

set_option linter.all false

theorem State.spareCheck_kept {P : State → Prop}  (kd : KeptD P [0x0080]) {s : State} {h c : Nat} (h_s : P s) :
    P (State.spareCheck s h c) := by
  unfold State.spareCheck
  repeat' first
    | with_reducible assumption
    | with_reducible intro _
    | with_reducible apply State.raiseReplace_kept
    | exact kd.mem (by decide)
    | exact kd.mem (pick_mem (by decide) (by decide))
    | exact kd.mono (by decide)
    | split
    | fail_if_no_progress with_reducible apply kk.rest

theorem State.failUsers_kept {P : State → Prop} (kk : Kept P) (kc : KeptC P) {s : State} {unit : Nat} (h_s : P s) :
    P (State.failUsers s unit) := by
  unfold State.failUsers
  repeat' first
    | with_reducible assumption
    | with_reducible intro _
    | with_reducible apply State.failCheck_kept
    | with_reducible refine Kept.foldl (fun _ _ _ => ?_) ?_
    | with_reducible refine Kept.foldl1 (fun _ _ _ => ?_) ?_
    | split
    | fail_if_no_progress with_reducible apply kk.rest

theorem State.markUnusable_kept {P : State → Prop} (kk : Kept P) (kc : KeptC P) (kt : KeptT P) (kb : KeptB P) (kd : KeptD P [0x0080]) {s : State} {p : Nat} (h_s : P s) :
    P (State.markUnusable s p) := by
  unfold State.markUnusable
  repeat' first
    | with_reducible assumption
    | with_reducible intro _
    | (extract_lets +onlyGivenNames zz
       first
         | (with_reducible refine Kept.cut (P := P) (x := zz) ?_ ?_
            on_goal 2 => clear_value zz
            on_goal 1 => subst zz)
         | (with_reducible refine Kept.cut1 (P := P) (x := zz) ?_ ?_
            on_goal 2 => clear_value zz
            on_goal 1 => subst zz)
         | (have zn : Nat := zz
            clear zn
            subst zz)
         | clear_value zz
         | subst zz)
    | with_reducible apply State.failUsers_kept
    | with_reducible apply State.modTile_kept
    | with_reducible apply State.spareCheck_kept
    | exact kd.mem (by decide)
    | exact kd.mem (pick_mem (by decide) (by decide))
    | exact kd.mono (by decide)
    | split
    | fail_if_no_progress with_reducible apply kk.rest
    | fail_if_no_progress (with_reducible apply kb.fabric; with_reducible apply kk.rest)

theorem State.copySurround_kept {P : State → Prop}  (kd : KeptD P [0x4010, 0x4012]) {s : State} {p q : Nat} (h_s : P s) :
    P (State.copySurround s p q) := by
  unfold State.copySurround
  repeat' first
    | with_reducible assumption
    | with_reducible intro _
    | (extract_lets +onlyGivenNames zz
       first
         | (with_reducible refine Kept.cut (P := P) (x := zz) ?_ ?_
            on_goal 2 => clear_value zz
            on_goal 1 => subst zz)
         | (with_reducible refine Kept.cut1 (P := P) (x := zz) ?_ ?_
            on_goal 2 => clear_value zz
            on_goal 1 => subst zz)
         | (have zn : Nat := zz
            clear zn
            subst zz)
         | clear_value zz
         | subst zz)
    | with_reducible apply State.putAt_kept
    | exact kd.mem (by decide)
    | exact kd.mem (pick_mem (by decide) (by decide))
    | exact kd.mono (by decide)
    | with_reducible refine Kept.foldl (fun _ _ _ => ?_) ?_
    | with_reducible refine Kept.foldl1 (fun _ _ _ => ?_) ?_
    | split
    | fail_if_no_progress with_reducible apply kk.rest

theorem State.rewriteTile_kept {P : State → Prop} (kk : Kept P) (kt : KeptT P) (kd : KeptD P [0x0080, 0x4001, 0x4003, 0x4021, 0x5020]) {s : State} {p : Nat} {inPass : Bool} (h_s : P s) :
    P (State.rewriteTile s p inPass) := by
  unfold State.rewriteTile
  repeat' first
    | with_reducible assumption
    | with_reducible intro _
    | with_reducible apply State.rewriteRow_kept
    | with_reducible apply State.shadowAll_kept
    | exact kd.mem (by decide)
    | exact kd.mem (pick_mem (by decide) (by decide))
    | exact kd.mono (by decide)
    | with_reducible refine Kept.foldl (fun _ _ _ => ?_) ?_
    | with_reducible refine Kept.foldl1 (fun _ _ _ => ?_) ?_
    | split
    | fail_if_no_progress with_reducible apply kk.rest

theorem State.moveTile_kept {P : State → Prop} (kk : Kept P) (kt : KeptT P) (kd : KeptD P [0x0080, 0x4001, 0x4003, 0x4010, 0x4012, 0x4021, 0x5020]) {s : State} {p q : Nat} {inPass : Bool} (h_s : P s) :
    P (State.moveTile s p q inPass) := by
  unfold State.moveTile
  repeat' first
    | with_reducible assumption
    | with_reducible intro _
    | (extract_lets +onlyGivenNames zz
       first
         | (with_reducible refine Kept.cut (P := P) (x := zz) ?_ ?_
            on_goal 2 => clear_value zz
            on_goal 1 => subst zz)
         | (with_reducible refine Kept.cut1 (P := P) (x := zz) ?_ ?_
            on_goal 2 => clear_value zz
            on_goal 1 => subst zz)
         | (have zn : Nat := zz
            clear zn
            subst zz)
         | clear_value zz
         | subst zz)
    | with_reducible apply State.copySurround_kept
    | with_reducible apply State.rewriteTile_kept
    | with_reducible apply State.setTile_kept
    | exact kd.mem (by decide)
    | exact kd.mem (pick_mem (by decide) (by decide))
    | exact kd.mono (by decide)
    | split
    | fail_if_no_progress with_reducible apply kk.rest

theorem State.seatOnSpare_kept {P : State → Prop} (kk : Kept P) (kt : KeptT P) (kb : KeptB P) (kd : KeptD P [0x0080, 0x4001, 0x4003, 0x4010, 0x4012, 0x4021, 0x5020]) {s : State} {l : Nat} {src : Option Nat} (h_s : P s) :
    P (State.seatOnSpare s l src) := by
  unfold State.seatOnSpare
  repeat' first
    | with_reducible assumption
    | with_reducible intro _
    | (extract_lets +onlyGivenNames zz
       first
         | (with_reducible refine Kept.cut (P := P) (x := zz) ?_ ?_
            on_goal 2 => clear_value zz
            on_goal 1 => subst zz)
         | (with_reducible refine Kept.cut1 (P := P) (x := zz) ?_ ?_
            on_goal 2 => clear_value zz
            on_goal 1 => subst zz)
         | (have zn : Nat := zz
            clear zn
            subst zz)
         | clear_value zz
         | subst zz)
    | with_reducible apply State.moveTile_kept
    | exact kd.mem (by decide)
    | exact kd.mem (pick_mem (by decide) (by decide))
    | exact kd.mono (by decide)
    | split
    | fail_if_no_progress with_reducible apply kk.rest
    | fail_if_no_progress (with_reducible apply kb.fabric; with_reducible apply kk.rest)

theorem State.takeSpareCourse_kept {P : State → Prop} (kk : Kept P) (kc : KeptC P) (kt : KeptT P) (kb : KeptB P) (kd : KeptD P [0x0080, 0x4001, 0x4003, 0x4010, 0x4012, 0x4021, 0x5020]) {s : State} {h c : Nat} (h_s : P s) :
    P (State.takeSpareCourse s h c) := by
  unfold State.takeSpareCourse
  repeat' first
    | with_reducible assumption
    | with_reducible intro _
    | (extract_lets +onlyGivenNames zz
       first
         | (with_reducible refine Kept.cut (P := P) (x := zz) ?_ ?_
            on_goal 2 => clear_value zz
            on_goal 1 => subst zz)
         | (with_reducible refine Kept.cut1 (P := P) (x := zz) ?_ ?_
            on_goal 2 => clear_value zz
            on_goal 1 => subst zz)
         | (have zn : Nat := zz
            clear zn
            subst zz)
         | clear_value zz
         | subst zz)
    | with_reducible apply State.markUnusable_kept
    | with_reducible apply State.seatOnSpare_kept
    | with_reducible apply State.spareCheck_kept
    | exact kd.mem (by decide)
    | exact kd.mem (pick_mem (by decide) (by decide))
    | exact kd.mono (by decide)
    | with_reducible refine Kept.foldl (fun _ _ _ => ?_) ?_
    | with_reducible refine Kept.foldl1 (fun _ _ _ => ?_) ?_
    | split
    | fail_if_no_progress with_reducible apply kk.rest
    | fail_if_no_progress (with_reducible apply kb.fabric; with_reducible apply kk.rest)

theorem State.fieldRepair_kept {P : State → Prop} (kk : Kept P) (kd : KeptD P [0x4005, 0x7040, 0xF030]) {s : State} {l unit cls : Nat} (h_s : P s) :
    P (State.fieldRepair s l unit cls) := by
  unfold State.fieldRepair
  repeat' first
    | with_reducible assumption
    | with_reducible intro _
    | (extract_lets +onlyGivenNames zz
       first
         | (with_reducible refine Kept.cut (P := P) (x := zz) ?_ ?_
            on_goal 2 => clear_value zz
            on_goal 1 => subst zz)
         | (with_reducible refine Kept.cut1 (P := P) (x := zz) ?_ ?_
            on_goal 2 => clear_value zz
            on_goal 1 => subst zz)
         | (have zn : Nat := zz
            clear zn
            subst zz)
         | clear_value zz
         | subst zz)
    | with_reducible apply State.bump_kept
    | with_reducible apply State.log_kept
    | exact kd.mem (by decide)
    | exact kd.mem (pick_mem (by decide) (by decide))
    | exact kd.mono (by decide)
    | split
    | fail_if_no_progress with_reducible apply kk.rest

theorem State.loseCourse_kept {P : State → Prop} (kk : Kept P) (kc : KeptC P) (kt : KeptT P) (kb : KeptB P) (kd : KeptD P [0x0080]) {s : State} {h c l : Nat} (h_s : P s) :
    P (State.loseCourse s h c l) := by
  unfold State.loseCourse
  repeat' first
    | with_reducible assumption
    | with_reducible intro _
    | (extract_lets +onlyGivenNames zz
       first
         | (with_reducible refine Kept.cut (P := P) (x := zz) ?_ ?_
            on_goal 2 => clear_value zz
            on_goal 1 => subst zz)
         | (with_reducible refine Kept.cut1 (P := P) (x := zz) ?_ ?_
            on_goal 2 => clear_value zz
            on_goal 1 => subst zz)
         | (have zn : Nat := zz
            clear zn
            subst zz)
         | clear_value zz
         | subst zz)
    | with_reducible apply State.markUnusable_kept
    | exact kd.mem (by decide)
    | exact kd.mem (pick_mem (by decide) (by decide))
    | exact kd.mono (by decide)
    | with_reducible refine Kept.foldl (fun _ _ _ => ?_) ?_
    | with_reducible refine Kept.foldl1 (fun _ _ _ => ?_) ?_
    | split
    | fail_if_no_progress with_reducible apply kk.rest
    | fail_if_no_progress (with_reducible apply kb.fabric; with_reducible apply kk.rest)

theorem State.replaceCourse_kept {P : State → Prop} (kk : Kept P) (kc : KeptC P) (kt : KeptT P) (kb : KeptB P) (kd : KeptD P [0x0080, 0x4001, 0x4003, 0x4010, 0x4012, 0x4021, 0x5020]) {s : State} {h c : Nat} (h_s : P s) :
    P (State.replaceCourse s h c) := by
  unfold State.replaceCourse
  repeat' first
    | with_reducible assumption
    | with_reducible intro _
    | (extract_lets +onlyGivenNames zz
       first
         | (with_reducible refine Kept.cut (P := P) (x := zz) ?_ ?_
            on_goal 2 => clear_value zz
            on_goal 1 => subst zz)
         | (with_reducible refine Kept.cut1 (P := P) (x := zz) ?_ ?_
            on_goal 2 => clear_value zz
            on_goal 1 => subst zz)
         | (have zn : Nat := zz
            clear zn
            subst zz)
         | clear_value zz
         | subst zz)
    | with_reducible apply State.loseCourse_kept
    | with_reducible apply State.takeSpareCourse_kept
    | exact kd.mem (by decide)
    | exact kd.mem (pick_mem (by decide) (by decide))
    | exact kd.mono (by decide)
    | split
    | fail_if_no_progress with_reducible apply kk.rest
    | fail_if_no_progress (with_reducible apply kb.fabric; with_reducible apply kk.rest)

theorem State.mapTile_kept {P : State → Prop} (kk : Kept P) (kb : KeptB P) (kd : KeptD P [0x0080]) {s : State} {l q : Nat} (h_s : P s) :
    P (State.mapTile s l q) := by
  unfold State.mapTile
  repeat' first
    | with_reducible assumption
    | with_reducible intro _
    | (extract_lets +onlyGivenNames zz
       first
         | (with_reducible refine Kept.cut (P := P) (x := zz) ?_ ?_
            on_goal 2 => clear_value zz
            on_goal 1 => subst zz)
         | (with_reducible refine Kept.cut1 (P := P) (x := zz) ?_ ?_
            on_goal 2 => clear_value zz
            on_goal 1 => subst zz)
         | (have zn : Nat := zz
            clear zn
            subst zz)
         | clear_value zz
         | subst zz)
    | with_reducible apply State.spareCheck_kept
    | exact kd.mem (by decide)
    | exact kd.mem (pick_mem (by decide) (by decide))
    | exact kd.mono (by decide)
    | split
    | fail_if_no_progress with_reducible apply kk.rest
    | fail_if_no_progress (with_reducible apply kb.fabric; with_reducible apply kk.rest)

theorem State.retireTile_kept {P : State → Prop} (kk : Kept P) (kc : KeptC P) (kt : KeptT P) (kb : KeptB P) (kd : KeptD P [0x0080, 0x4001, 0x4003, 0x4010, 0x4012, 0x4021, 0x5020]) {s : State} {l : Nat} {inPass : Bool} (h_s : P s) :
    P (State.retireTile s l inPass) := by
  unfold State.retireTile
  repeat' first
    | with_reducible assumption
    | with_reducible intro _
    | (extract_lets +onlyGivenNames zz
       first
         | (with_reducible refine Kept.cut (P := P) (x := zz) ?_ ?_
            on_goal 2 => clear_value zz
            on_goal 1 => subst zz)
         | (with_reducible refine Kept.cut1 (P := P) (x := zz) ?_ ?_
            on_goal 2 => clear_value zz
            on_goal 1 => subst zz)
         | (have zn : Nat := zz
            clear zn
            subst zz)
         | clear_value zz
         | subst zz)
    | with_reducible apply State.mapTile_kept
    | with_reducible apply State.markUnusable_kept
    | with_reducible apply State.moveTile_kept
    | with_reducible apply State.setTile_kept
    | with_reducible apply State.takeSpareCourse_kept
    | exact kd.mem (by decide)
    | exact kd.mem (pick_mem (by decide) (by decide))
    | exact kd.mono (by decide)
    | split
    | fail_if_no_progress with_reducible apply kk.rest
    | fail_if_no_progress (with_reducible apply kb.fabric; with_reducible apply kk.rest)

theorem State.retireField_kept {P : State → Prop} (kk : Kept P) (kc : KeptC P) (kt : KeptT P) (kb : KeptB P) (kd : KeptD P [0x0080, 0x4001, 0x4003, 0x4005, 0x4010, 0x4012, 0x4021, 0x5020, 0x7040, 0xF030]) {s : State} {l : Nat} {inPass : Bool} (h_s : P s) :
    P (State.retireField s l inPass) := by
  unfold State.retireField
  repeat' first
    | with_reducible assumption
    | with_reducible intro _
    | (extract_lets +onlyGivenNames zz
       first
         | (with_reducible refine Kept.cut (P := P) (x := zz) ?_ ?_
            on_goal 2 => clear_value zz
            on_goal 1 => subst zz)
         | (with_reducible refine Kept.cut1 (P := P) (x := zz) ?_ ?_
            on_goal 2 => clear_value zz
            on_goal 1 => subst zz)
         | (have zn : Nat := zz
            clear zn
            subst zz)
         | clear_value zz
         | subst zz)
    | with_reducible apply State.fieldRepair_kept
    | with_reducible apply State.retireTile_kept
    | exact kd.mem (by decide)
    | exact kd.mem (pick_mem (by decide) (by decide))
    | exact kd.mono (by decide)
    | split
    | fail_if_no_progress with_reducible apply kk.rest

theorem State.dropTile_kept {P : State → Prop} (kk : Kept P) (kc : KeptC P) (kt : KeptT P) (kb : KeptB P) (kd : KeptD P [0x0080, 0x4001, 0x4003, 0x4010, 0x4012, 0x4021, 0x5020]) {s : State} {p : Nat} (h_s : P s) :
    P (State.dropTile s p) := by
  unfold State.dropTile
  repeat' first
    | with_reducible assumption
    | with_reducible intro _
    | with_reducible apply State.markUnusable_kept
    | with_reducible apply State.retireTile_kept
    | exact kd.mem (by decide)
    | exact kd.mem (pick_mem (by decide) (by decide))
    | exact kd.mono (by decide)
    | split
    | fail_if_no_progress with_reducible apply kk.rest

theorem State.retireUnit_kept {P : State → Prop} (kk : Kept P) (kc : KeptC P) (kt : KeptT P) (kb : KeptB P) (kd : KeptD P [0x0080, 0x4001, 0x4003, 0x4005, 0x4010, 0x4012, 0x4021, 0x5020, 0x7040, 0xF030]) {s : State} {p : Nat} (h_s : P s) :
    P (State.retireUnit s p) := by
  unfold State.retireUnit
  repeat' first
    | with_reducible assumption
    | with_reducible intro _
    | with_reducible apply State.markUnusable_kept
    | with_reducible apply State.modTile_kept
    | with_reducible apply State.retireField_kept
    | exact kd.mem (by decide)
    | exact kd.mem (pick_mem (by decide) (by decide))
    | exact kd.mono (by decide)
    | split
    | fail_if_no_progress with_reducible apply kk.rest

theorem State.retireDue_kept {P : State → Prop} (kk : Kept P) (kc : KeptC P) (kt : KeptT P) (kb : KeptB P) (kd : KeptD P [0x0080, 0x4001, 0x4003, 0x4005, 0x4010, 0x4012, 0x4021, 0x5020, 0x7040, 0xF030]) {s : State} {p : Nat} (h_s : P s) :
    P (State.retireDue s p) := by
  unfold State.retireDue
  repeat' first
    | with_reducible assumption
    | with_reducible intro _
    | with_reducible apply State.retireUnit_kept
    | exact kd.mem (by decide)
    | exact kd.mem (pick_mem (by decide) (by decide))
    | exact kd.mono (by decide)
    | split
    | fail_if_no_progress with_reducible apply kk.rest

theorem State.sanitizeTile_kept {P : State → Prop} (kk : Kept P) (kc : KeptC P) (kt : KeptT P) (kb : KeptB P) (kd : KeptD P [0x0080, 0x4001, 0x4003, 0x4010, 0x4012, 0x4021, 0x5020, 0x9060]) {s : State} {residual : List (Nat × Nat)} {p : Nat} (h_s : P s) :
    P (State.sanitizeTile s residual p) := by
  unfold State.sanitizeTile
  repeat' first
    | with_reducible assumption
    | with_reducible intro _
    | (extract_lets +onlyGivenNames zz
       first
         | (with_reducible refine Kept.cut (P := P) (x := zz) ?_ ?_
            on_goal 2 => clear_value zz
            on_goal 1 => subst zz)
         | (with_reducible refine Kept.cut1 (P := P) (x := zz) ?_ ?_
            on_goal 2 => clear_value zz
            on_goal 1 => subst zz)
         | (have zn : Nat := zz
            clear zn
            subst zz)
         | clear_value zz
         | subst zz)
    | with_reducible apply State.addAt_kept
    | with_reducible apply State.bump_kept
    | with_reducible apply State.dropTile_kept
    | with_reducible apply State.modTile_kept
    | with_reducible apply State.pulseRow_kept
    | exact kd.mem (by decide)
    | exact kd.mem (pick_mem (by decide) (by decide))
    | exact kd.mono (by decide)
    | with_reducible refine Kept.foldl (fun _ _ _ => ?_) ?_
    | with_reducible refine Kept.foldl1 (fun _ _ _ => ?_) ?_
    | split
    | fail_if_no_progress with_reducible apply kk.rest

theorem State.dropSliceIn_kept {P : State → Prop}  (kd : KeptD P [0x2010]) {s : State} {p sl set : Nat} (h_s : P s) :
    P (State.dropSliceIn s p sl set).1 := by
  unfold State.dropSliceIn
  repeat' first
    | with_reducible assumption
    | with_reducible intro _
    | with_reducible apply State.putAt_kept
    | exact kd.mem (by decide)
    | exact kd.mem (pick_mem (by decide) (by decide))
    | exact kd.mono (by decide)
    | split
    | fail_if_no_progress with_reducible apply kk.rest

theorem State.dropSlice_kept {P : State → Prop}  (kd : KeptD P [0x2010]) {s : State} {p sl : Nat} (h_s : P s) :
    P (State.dropSlice s p sl).1 := by
  unfold State.dropSlice
  repeat' first
    | with_reducible assumption
    | with_reducible intro _
    | (extract_lets +onlyGivenNames zz
       first
         | (with_reducible refine Kept.cut (P := P) (x := zz) ?_ ?_
            on_goal 2 => clear_value zz
            on_goal 1 => subst zz)
         | (with_reducible refine Kept.cut1 (P := P) (x := zz) ?_ ?_
            on_goal 2 => clear_value zz
            on_goal 1 => subst zz)
         | (have zn : Nat := zz
            clear zn
            subst zz)
         | clear_value zz
         | subst zz)
    | with_reducible apply State.dropSliceIn_kept
    | exact kd.mem (by decide)
    | exact kd.mem (pick_mem (by decide) (by decide))
    | exact kd.mono (by decide)
    | split
    | fail_if_no_progress with_reducible apply kk.rest

theorem State.applyEntry_kept {P : State → Prop} (kk : Kept P) (kc : KeptC P) (kt : KeptT P) (kb : KeptB P) (kd : KeptD P [0x0080, 0x2010, 0x4001, 0x4003, 0x4010, 0x4012, 0x4021, 0x5020]) {s : State} {e : BitVec 64} (h_s : P s) :
    P (State.applyEntry s e) := by
  unfold State.applyEntry
  repeat' first
    | with_reducible assumption
    | with_reducible intro _
    | (extract_lets +onlyGivenNames zz
       first
         | (with_reducible refine Kept.cut (P := P) (x := zz) ?_ ?_
            on_goal 2 => clear_value zz
            on_goal 1 => subst zz)
         | (with_reducible refine Kept.cut1 (P := P) (x := zz) ?_ ?_
            on_goal 2 => clear_value zz
            on_goal 1 => subst zz)
         | (have zn : Nat := zz
            clear zn
            subst zz)
         | clear_value zz
         | subst zz)
    | with_reducible apply State.dropSlice_kept
    | with_reducible apply State.dropTile_kept
    | with_reducible apply State.replaceCourse_kept
    | exact kd.mem (by decide)
    | exact kd.mem (pick_mem (by decide) (by decide))
    | exact kd.mono (by decide)
    | split
    | fail_if_no_progress with_reducible apply kk.rest
    | with_reducible refine Kept.pair (by assumption) ?_

theorem State.selfTest_kept {P : State → Prop} (kk : Kept P) (kc : KeptC P) (kt : KeptT P) (kh : KeptH P) (kb : KeptB P) (kd : KeptD P [0x0080, 0x2010, 0x4001, 0x4003, 0x4010, 0x4012, 0x4021, 0x5020, 0xF002, 0xF003]) {s : State} {h : HalfId} {found : List (BitVec 64)} (h_s : P s) :
    P (State.selfTest s h found).1 := by
  unfold State.selfTest
  repeat' first
    | with_reducible assumption
    | with_reducible intro _
    | (extract_lets +onlyGivenNames zz
       first
         | (with_reducible refine Kept.cut (P := P) (x := zz) ?_ ?_
            on_goal 2 => clear_value zz
            on_goal 1 => subst zz)
         | (with_reducible refine Kept.cut1 (P := P) (x := zz) ?_ ?_
            on_goal 2 => clear_value zz
            on_goal 1 => subst zz)
         | (have zn : Nat := zz
            clear zn
            subst zz)
         | clear_value zz
         | subst zz)
    | with_reducible apply State.applyEntry_kept
    | with_reducible apply State.freeSkip_kept
    | with_reducible apply State.modHalf_kept
    | with_reducible apply State.put_kept
    | with_reducible apply State.putAt_kept
    | exact kd.mem (by decide)
    | exact kd.mem (pick_mem (by decide) (by decide))
    | exact kd.mono (by decide)
    | with_reducible refine Kept.foldl (fun _ _ _ => ?_) ?_
    | with_reducible refine Kept.foldl1 (fun _ _ _ => ?_) ?_
    | split
    | fail_if_no_progress with_reducible apply kk.rest

end Sys2Proof.Machine
end

