-- ==== Sys2Proof/Laws/KeptStartOps.lean ====
section
/-! SUPPORT. What every definition of Machine/StartOps.lean keeps of a state: one lemma each (Laws/Kept.lean). -/

namespace Sys2Proof.Machine

open Sys2Proof

set_option linter.all false

theorem State.endHalfTickets_kept {P : State → Prop} (kk : Kept P) (kv : KeptV P) {s : State} {h : HalfId} {status : Nat} (h_s : P s) :
    P (State.endHalfTickets s h status) := by
  unfold State.endHalfTickets
  repeat' first
    | with_reducible assumption
    | with_reducible intro _
    | with_reducible apply State.endTicket_kept
    | with_reducible refine Kept.foldl (fun _ _ _ => ?_) ?_
    | with_reducible refine Kept.foldl1 (fun _ _ _ => ?_) ?_
    | split
    | fail_if_no_progress with_reducible apply kk.rest

theorem State.dropHalfKeys_kept {P : State → Prop}  (kq : KeptQ P) {s : State} {h : HalfId} (h_s : P s) :
    P (State.dropHalfKeys s h) := by
  unfold State.dropHalfKeys
  repeat' first
    | with_reducible assumption
    | with_reducible intro _
    | with_reducible apply State.dropKeys_kept
    | split
    | fail_if_no_progress with_reducible apply kk.rest

theorem State.loseHalf_kept {P : State → Prop} (kk : Kept P) (km : KeptM P) (kc : KeptC P) (kt : KeptT P) (ks : KeptS P) (kv : KeptV P) (kl : KeptL P) (kd : KeptD P [0xA004]) (kq : KeptQ P) {s : State} {h : HalfId} (h_s : P s) :
    P (State.loseHalf s h) := by
  unfold State.loseHalf
  repeat' first
    | with_reducible assumption
    | with_reducible intro _
    | (extract_lets +onlyGivenNames zz
       first
         | (with_reducible refine Kept.cut (P := P) (x := zz) ?_ ?_
            on_goal 2 => clear_value zz
            on_goal 1 => subst zz)
         | (with_reducible refine Kept.cut1 (P := P) (x := zz) ?_ ?_
            on_goal 2 => clear_value zz
            on_goal 1 => subst zz)
         | (have zn : Nat := zz
            clear zn
            subst zz)
         | clear_value zz
         | subst zz)
    | with_reducible apply State.cancelSnoops_kept
    | with_reducible apply State.dropHalfKeys_kept
    | with_reducible apply State.endHalfTickets_kept
    | with_reducible apply State.unpoison_kept
    | with_reducible apply km.clear
    | with_reducible apply km.drop
    | exact kd.mem (by decide)
    | exact kd.mem (pick_mem (by decide) (by decide))
    | exact kd.mono (by decide)
    | split
    | fail_if_no_progress with_reducible apply kk.rest
    | fail_if_no_progress (with_reducible apply kc.ctxs; with_reducible apply kk.rest)
    | fail_if_no_progress (with_reducible apply kt.tiles; with_reducible apply kk.rest)
    | fail_if_no_progress (with_reducible apply ks.sec; with_reducible apply kk.rest)
    | fail_if_no_progress (with_reducible apply kl.spokes; with_reducible apply kk.rest)
    | fail_if_no_progress (with_reducible apply kc.ctxs; with_reducible apply kt.tiles; with_reducible apply kk.rest)
    | fail_if_no_progress (with_reducible apply kc.ctxs; with_reducible apply ks.sec; with_reducible apply kk.rest)
    | fail_if_no_progress (with_reducible apply kc.ctxs; with_reducible apply kl.spokes; with_reducible apply kk.rest)
    | fail_if_no_progress (with_reducible apply kt.tiles; with_reducible apply ks.sec; with_reducible apply kk.rest)
    | fail_if_no_progress (with_reducible apply kt.tiles; with_reducible apply kl.spokes; with_reducible apply kk.rest)
    | fail_if_no_progress (with_reducible apply ks.sec; with_reducible apply kl.spokes; with_reducible apply kk.rest)
    | fail_if_no_progress (with_reducible apply kc.ctxs; with_reducible apply kt.tiles; with_reducible apply ks.sec; with_reducible apply kl.spokes; with_reducible apply kk.rest)

theorem State.dropReady_kept {P : State → Prop}  (kd : KeptD P [0x1002]) {s : State} {h : HalfId} (h_s : P s) :
    P (State.dropReady s h) := by
  unfold State.dropReady
  repeat' first
    | with_reducible assumption
    | with_reducible intro _
    | (extract_lets +onlyGivenNames zz
       first
         | (with_reducible refine Kept.cut (P := P) (x := zz) ?_ ?_
            on_goal 2 => clear_value zz
            on_goal 1 => subst zz)
         | (with_reducible refine Kept.cut1 (P := P) (x := zz) ?_ ?_
            on_goal 2 => clear_value zz
            on_goal 1 => subst zz)
         | (have zn : Nat := zz
            clear zn
            subst zz)
         | clear_value zz
         | subst zz)
    | with_reducible apply State.put_kept
    | with_reducible apply State.putFlag_kept
    | exact kd.mem (by decide)
    | exact kd.mem (pick_mem (by decide) (by decide))
    | exact kd.mono (by decide)
    | with_reducible refine Kept.foldl (fun _ _ _ => ?_) ?_
    | with_reducible refine Kept.foldl1 (fun _ _ _ => ?_) ?_
    | split
    | fail_if_no_progress with_reducible apply kk.rest

theorem State.dropEnables_kept {P : State → Prop}  (kd : KeptD P [0x1002]) {s : State} {h : HalfId} (h_s : P s) :
    P (State.dropEnables s h) := by
  unfold State.dropEnables
  repeat' first
    | with_reducible assumption
    | with_reducible intro _
    | (extract_lets +onlyGivenNames zz
       first
         | (with_reducible refine Kept.cut (P := P) (x := zz) ?_ ?_
            on_goal 2 => clear_value zz
            on_goal 1 => subst zz)
         | (with_reducible refine Kept.cut1 (P := P) (x := zz) ?_ ?_
            on_goal 2 => clear_value zz
            on_goal 1 => subst zz)
         | (have zn : Nat := zz
            clear zn
            subst zz)
         | clear_value zz
         | subst zz)
    | with_reducible apply State.put_kept
    | with_reducible apply State.putFlag_kept
    | exact kd.mem (by decide)
    | exact kd.mem (pick_mem (by decide) (by decide))
    | exact kd.mono (by decide)
    | with_reducible refine Kept.foldl (fun _ _ _ => ?_) ?_
    | with_reducible refine Kept.foldl1 (fun _ _ _ => ?_) ?_
    | split
    | fail_if_no_progress with_reducible apply kk.rest

theorem State.halfLocks_kept {P : State → Prop}  (kd : KeptD P [0x1001]) {s : State} {h : HalfId} {on : Bool} (h_s : P s) :
    P (State.halfLocks s h on) := by
  unfold State.halfLocks
  repeat' first
    | with_reducible assumption
    | with_reducible intro _
    | with_reducible apply State.putFlag_kept
    | exact kd.mem (by decide)
    | exact kd.mem (pick_mem (by decide) (by decide))
    | exact kd.mono (by decide)
    | with_reducible refine Kept.foldl (fun _ _ _ => ?_) ?_
    | with_reducible refine Kept.foldl1 (fun _ _ _ => ?_) ?_
    | split
    | fail_if_no_progress with_reducible apply kk.rest

theorem State.railsOff_kept {P : State → Prop} (kk : Kept P) (kh : KeptH P) (kd : KeptD P [0x1001, 0x1002, 0x1012, 0x1013, 0x1015, 0x1016]) {s : State} {h : HalfId} {p : HalfPhase} (h_s : P s) :
    P (State.railsOff s h p) := by
  unfold State.railsOff
  repeat' first
    | with_reducible assumption
    | with_reducible intro _
    | (extract_lets +onlyGivenNames zz
       first
         | (with_reducible refine Kept.cut (P := P) (x := zz) ?_ ?_
            on_goal 2 => clear_value zz
            on_goal 1 => subst zz)
         | (with_reducible refine Kept.cut1 (P := P) (x := zz) ?_ ?_
            on_goal 2 => clear_value zz
            on_goal 1 => subst zz)
         | (have zn : Nat := zz
            clear zn
            subst zz)
         | clear_value zz
         | subst zz)
    | with_reducible apply State.dropReady_kept
    | with_reducible apply State.halfLocks_kept
    | with_reducible apply State.modHalf_kept
    | with_reducible apply State.repin_kept
    | with_reducible apply State.throttle_kept
    | exact kd.mem (by decide)
    | exact kd.mem (pick_mem (by decide) (by decide))
    | exact kd.mono (by decide)
    | split
    | fail_if_no_progress with_reducible apply kk.rest

theorem State.halfToKeystoneOnly_kept {P : State → Prop} (kk : Kept P) (km : KeptM P) (kc : KeptC P) (kt : KeptT P) (ks : KeptS P) (kh : KeptH P) (kv : KeptV P) (kl : KeptL P) (kd : KeptD P [0x0041, 0x1001, 0x1002, 0x1012, 0x1013, 0x1015, 0x1016, 0xA003, 0xA004]) (kq : KeptQ P) {s : State} {h : HalfId} (h_s : P s) :
    P (State.halfToKeystoneOnly s h) := by
  unfold State.halfToKeystoneOnly
  repeat' first
    | with_reducible assumption
    | with_reducible intro _
    | (extract_lets +onlyGivenNames zz
       first
         | (with_reducible refine Kept.cut (P := P) (x := zz) ?_ ?_
            on_goal 2 => clear_value zz
            on_goal 1 => subst zz)
         | (with_reducible refine Kept.cut1 (P := P) (x := zz) ?_ ?_
            on_goal 2 => clear_value zz
            on_goal 1 => subst zz)
         | (have zn : Nat := zz
            clear zn
            subst zz)
         | clear_value zz
         | subst zz)
    | with_reducible apply State.endPending_kept
    | with_reducible apply State.flushCache_kept
    | with_reducible apply State.loseHalf_kept
    | with_reducible apply State.railsOff_kept
    | with_reducible apply State.setFence_kept
    | exact kd.mem (by decide)
    | exact kd.mem (pick_mem (by decide) (by decide))
    | exact kd.mono (by decide)
    | split
    | fail_if_no_progress with_reducible apply kk.rest

theorem State.keystoneOnly_kept {P : State → Prop} (kk : Kept P) (kg : KeptK P) (kd : KeptD P [0x0010, 0x0040, 0x0041, 0x1010, 0x1011]) {s : State} (h_s : P s) :
    P (State.keystoneOnly s) := by
  unfold State.keystoneOnly
  repeat' first
    | with_reducible assumption
    | with_reducible intro _
    | (extract_lets +onlyGivenNames zz
       first
         | (with_reducible refine Kept.cut (P := P) (x := zz) ?_ ?_
            on_goal 2 => clear_value zz
            on_goal 1 => subst zz)
         | (with_reducible refine Kept.cut1 (P := P) (x := zz) ?_ ?_
            on_goal 2 => clear_value zz
            on_goal 1 => subst zz)
         | (have zn : Nat := zz
            clear zn
            subst zz)
         | clear_value zz
         | subst zz)
    | with_reducible apply State.bump_kept
    | with_reducible apply State.put_kept
    | with_reducible apply State.refuseHeld_kept
    | with_reducible apply State.regrant_kept
    | with_reducible apply State.setHolder_kept
    | exact kd.mem (by decide)
    | exact kd.mem (pick_mem (by decide) (by decide))
    | exact kd.mono (by decide)
    | split
    | fail_if_no_progress with_reducible apply kk.rest

theorem State.toKeystoneOnly_kept {P : State → Prop} (kk : Kept P) (km : KeptM P) (kc : KeptC P) (kt : KeptT P) (ks : KeptS P) (kg : KeptK P) (kh : KeptH P) (kv : KeptV P) (kl : KeptL P) (kd : KeptD P [0x0010, 0x0040, 0x0041, 0x1001, 0x1002, 0x1010, 0x1011, 0x1012, 0x1013, 0x1015, 0x1016, 0xA003, 0xA004]) (kq : KeptQ P) {s : State} (h_s : P s) :
    P (State.toKeystoneOnly s) := by
  unfold State.toKeystoneOnly
  repeat' first
    | with_reducible assumption
    | with_reducible intro _
    | with_reducible apply State.halfToKeystoneOnly_kept
    | with_reducible apply State.keystoneOnly_kept
    | exact kd.mem (by decide)
    | exact kd.mem (pick_mem (by decide) (by decide))
    | exact kd.mono (by decide)
    | split
    | fail_if_no_progress with_reducible apply kk.rest

theorem State.commandedOff_kept {P : State → Prop} (kk : Kept P) (km : KeptM P) (kc : KeptC P) (kt : KeptT P) (ks : KeptS P) (kg : KeptK P) (kh : KeptH P) (kv : KeptV P) (kl : KeptL P) (kd : KeptD P [0x0010, 0x0040, 0x0041, 0x1001, 0x1002, 0x1010, 0x1011, 0x1012, 0x1013, 0x1015, 0x1016, 0xA003, 0xA004]) (kq : KeptQ P) {s : State} (h_s : P s) :
    P (State.commandedOff s) := by
  unfold State.commandedOff
  repeat' first
    | with_reducible assumption
    | with_reducible intro _
    | with_reducible apply State.halfToKeystoneOnly_kept
    | with_reducible apply State.keystoneOnly_kept
    | exact kd.mem (by decide)
    | exact kd.mem (pick_mem (by decide) (by decide))
    | exact kd.mono (by decide)
    | with_reducible refine Kept.foldl (fun _ _ _ => ?_) ?_
    | with_reducible refine Kept.foldl1 (fun _ _ _ => ?_) ?_
    | split
    | fail_if_no_progress with_reducible apply kk.rest

theorem State.verifyComponent_kept {P : State → Prop}  (kd : KeptD P [0x9001]) {s : State} {b : Nat} (h_s : P s) :
    P (State.verifyComponent s b).1 := by
  unfold State.verifyComponent
  repeat' first
    | with_reducible assumption
    | with_reducible intro _
    | (extract_lets +onlyGivenNames zz
       first
         | (with_reducible refine Kept.cut (P := P) (x := zz) ?_ ?_
            on_goal 2 => clear_value zz
            on_goal 1 => subst zz)
         | (with_reducible refine Kept.cut1 (P := P) (x := zz) ?_ ?_
            on_goal 2 => clear_value zz
            on_goal 1 => subst zz)
         | (have zn : Nat := zz
            clear zn
            subst zz)
         | clear_value zz
         | subst zz)
    | with_reducible apply State.put_kept
    | with_reducible apply State.putFlag_kept
    | exact kd.mem (by decide)
    | exact kd.mem (pick_mem (by decide) (by decide))
    | exact kd.mono (by decide)
    | split
    | fail_if_no_progress with_reducible apply kk.rest

theorem State.abandonPending_kept {P : State → Prop}  (kd : KeptD P [0x9001]) {s : State} {b : Nat} (h_s : P s) :
    P (State.abandonPending s b) := by
  unfold State.abandonPending
  repeat' first
    | with_reducible assumption
    | with_reducible intro _
    | (extract_lets +onlyGivenNames zz
       first
         | (with_reducible refine Kept.cut (P := P) (x := zz) ?_ ?_
            on_goal 2 => clear_value zz
            on_goal 1 => subst zz)
         | (with_reducible refine Kept.cut1 (P := P) (x := zz) ?_ ?_
            on_goal 2 => clear_value zz
            on_goal 1 => subst zz)
         | (have zn : Nat := zz
            clear zn
            subst zz)
         | clear_value zz
         | subst zz)
    | with_reducible apply State.put_kept
    | with_reducible apply State.putFlag_kept
    | exact kd.mem (by decide)
    | exact kd.mem (pick_mem (by decide) (by decide))
    | exact kd.mono (by decide)
    | split
    | fail_if_no_progress with_reducible apply kk.rest

theorem State.startRecord_kept {P : State → Prop}  (kd : KeptD P [0xF000]) {s : State} {phase reason status place : Nat} (h_s : P s) :
    P (State.startRecord s phase reason status place) := by
  unfold State.startRecord
  repeat' first
    | with_reducible assumption
    | with_reducible intro _
    | (extract_lets +onlyGivenNames zz
       first
         | (with_reducible refine Kept.cut (P := P) (x := zz) ?_ ?_
            on_goal 2 => clear_value zz
            on_goal 1 => subst zz)
         | (with_reducible refine Kept.cut1 (P := P) (x := zz) ?_ ?_
            on_goal 2 => clear_value zz
            on_goal 1 => subst zz)
         | (have zn : Nat := zz
            clear zn
            subst zz)
         | clear_value zz
         | subst zz)
    | with_reducible apply State.bump_kept
    | with_reducible apply State.put_kept
    | with_reducible apply State.put64_kept
    | exact kd.mem (by decide)
    | exact kd.mem (pick_mem (by decide) (by decide))
    | exact kd.mono (by decide)
    | split
    | fail_if_no_progress with_reducible apply kk.rest

theorem State.leadFallback_kept {P : State → Prop} (kk : Kept P) (kg : KeptK P) {s : State} (h_s : P s) :
    P (State.leadFallback s) := by
  unfold State.leadFallback
  repeat' first
    | with_reducible assumption
    | with_reducible intro _
    | with_reducible apply State.claim_kept
    | split
    | fail_if_no_progress with_reducible apply kk.rest

theorem State.failStart_kept {P : State → Prop} (kk : Kept P) (kg : KeptK P) (kh : KeptH P) (kv : KeptV P) (kd : KeptD P [0x0041, 0x1001, 0x1002, 0x1010, 0x1011, 0x1012, 0x1013, 0x1015, 0x1016, 0x9001, 0xF000]) {s : State} {h : HalfId} {phase reason status : Nat} (h_s : P s) :
    P (State.failStart s h phase reason status) := by
  unfold State.failStart
  repeat' first
    | with_reducible assumption
    | with_reducible intro _
    | (extract_lets +onlyGivenNames zz
       first
         | (with_reducible refine Kept.cut (P := P) (x := zz) ?_ ?_
            on_goal 2 => clear_value zz
            on_goal 1 => subst zz)
         | (with_reducible refine Kept.cut1 (P := P) (x := zz) ?_ ?_
            on_goal 2 => clear_value zz
            on_goal 1 => subst zz)
         | (have zn : Nat := zz
            clear zn
            subst zz)
         | clear_value zz
         | subst zz)
    | with_reducible apply State.abandonPending_kept
    | with_reducible apply State.bump_kept
    | with_reducible apply State.endPending_kept
    | with_reducible apply State.leadFallback_kept
    | with_reducible apply State.put_kept
    | with_reducible apply State.railsOff_kept
    | with_reducible apply State.regrant_kept
    | with_reducible apply State.setFence_kept
    | with_reducible apply State.startRecord_kept
    | exact kd.mem (by decide)
    | exact kd.mem (pick_mem (by decide) (by decide))
    | exact kd.mono (by decide)
    | with_reducible refine Kept.foldl (fun _ _ _ => ?_) ?_
    | with_reducible refine Kept.foldl1 (fun _ _ _ => ?_) ?_
    | split
    | fail_if_no_progress with_reducible apply kk.rest
    | fail_if_no_progress (with_reducible apply kg.key; with_reducible apply kk.rest)

theorem State.startSources_kept {P : State → Prop}  (kd : KeptD P [0x1000]) {s : State} {h : HalfId} (h_s : P s) :
    P (State.startSources s h) := by
  unfold State.startSources
  repeat' first
    | with_reducible assumption
    | with_reducible intro _
    | with_reducible apply State.putFlag_kept
    | exact kd.mem (by decide)
    | exact kd.mem (pick_mem (by decide) (by decide))
    | exact kd.mono (by decide)
    | split
    | fail_if_no_progress with_reducible apply kk.rest

theorem State.beginHalf_kept {P : State → Prop} (kk : Kept P) (kc : KeptC P) (kt : KeptT P) (kg : KeptK P) (kh : KeptH P) (kv : KeptV P) (kb : KeptB P) (kd : KeptD P [0x0041, 0x0080, 0x1000, 0x1001, 0x1002, 0x1010, 0x1011, 0x1012, 0x1013, 0x1015, 0x1016, 0x2010, 0x4001, 0x4003, 0x4010, 0x4012, 0x4021, 0x5020, 0x9001, 0xF000, 0xF002, 0xF003]) {s : State} {h : HalfId} {byReset : Bool} {found : List (BitVec 64)} (h_s : P s) :
    P (State.beginHalf s h byReset found) := by
  unfold State.beginHalf
  repeat' first
    | with_reducible assumption
    | with_reducible intro _
    | (extract_lets +onlyGivenNames zz
       first
         | (with_reducible refine Kept.cut (P := P) (x := zz) ?_ ?_
            on_goal 2 => clear_value zz
            on_goal 1 => subst zz)
         | (with_reducible refine Kept.cut1 (P := P) (x := zz) ?_ ?_
            on_goal 2 => clear_value zz
            on_goal 1 => subst zz)
         | (have zn : Nat := zz
            clear zn
            subst zz)
         | clear_value zz
         | subst zz)
    | with_reducible apply State.failStart_kept
    | with_reducible apply State.freeSkip_kept
    | with_reducible apply State.halfLocks_kept
    | with_reducible apply State.modHalf_kept
    | with_reducible apply State.raiseCounts_kept
    | with_reducible apply State.regrant_kept
    | with_reducible apply State.repin_kept
    | with_reducible apply State.selfTest_kept
    | with_reducible apply State.setFence_kept
    | with_reducible apply State.startSources_kept
    | with_reducible apply State.throttle_kept
    | with_reducible apply State.verifyComponent_kept
    | exact kd.mem (by decide)
    | exact kd.mem (pick_mem (by decide) (by decide))
    | exact kd.mono (by decide)
    | with_reducible refine Kept.foldl (fun _ _ _ => ?_) ?_
    | with_reducible refine Kept.foldl1 (fun _ _ _ => ?_) ?_
    | split
    | fail_if_no_progress with_reducible apply kk.rest

theorem State.supplyByAlert_kept {P : State → Prop}  (kd : KeptD P [0x0100]) {s : State} (h_s : P s) :
    P (State.supplyByAlert s) := by
  unfold State.supplyByAlert
  repeat' first
    | with_reducible assumption
    | with_reducible intro _
    | with_reducible apply State.setSupply_kept
    | exact kd.mem (by decide)
    | exact kd.mem (pick_mem (by decide) (by decide))
    | exact kd.mono (by decide)
    | split
    | fail_if_no_progress with_reducible apply kk.rest

theorem State.beginHalves_kept {P : State → Prop} (kk : Kept P) (kc : KeptC P) (kt : KeptT P) (kg : KeptK P) (kh : KeptH P) (kv : KeptV P) (kb : KeptB P) (kd : KeptD P [0x0041, 0x0080, 0x0100, 0x1000, 0x1001, 0x1002, 0x1010, 0x1011, 0x1012, 0x1013, 0x1015, 0x1016, 0x2010, 0x4001, 0x4003, 0x4010, 0x4012, 0x4021, 0x5020, 0x9001, 0xF000, 0xF002, 0xF003]) {s : State} {found : Findings} (h_s : P s) :
    P (State.beginHalves s found) := by
  unfold State.beginHalves
  repeat' first
    | with_reducible assumption
    | with_reducible intro _
    | (extract_lets +onlyGivenNames zz
       first
         | (with_reducible refine Kept.cut (P := P) (x := zz) ?_ ?_
            on_goal 2 => clear_value zz
            on_goal 1 => subst zz)
         | (with_reducible refine Kept.cut1 (P := P) (x := zz) ?_ ?_
            on_goal 2 => clear_value zz
            on_goal 1 => subst zz)
         | (have zn : Nat := zz
            clear zn
            subst zz)
         | clear_value zz
         | subst zz)
    | with_reducible apply State.beginHalf_kept
    | with_reducible apply State.supplyByAlert_kept
    | exact kd.mem (by decide)
    | exact kd.mem (pick_mem (by decide) (by decide))
    | exact kd.mono (by decide)
    | split
    | fail_if_no_progress with_reducible apply kk.rest
    | fail_if_no_progress (with_reducible apply kg.key; with_reducible apply kk.rest)

theorem State.warnLeaves_kept {P : State → Prop} (kk : Kept P) (ks : KeptS P) (kd : KeptD P [0x7040, 0xF030]) {s : State} (h_s : P s) :
    P (State.warnLeaves s) := by
  unfold State.warnLeaves
  repeat' first
    | with_reducible assumption
    | with_reducible intro _
    | (extract_lets +onlyGivenNames zz
       first
         | (with_reducible refine Kept.cut (P := P) (x := zz) ?_ ?_
            on_goal 2 => clear_value zz
            on_goal 1 => subst zz)
         | (with_reducible refine Kept.cut1 (P := P) (x := zz) ?_ ?_
            on_goal 2 => clear_value zz
            on_goal 1 => subst zz)
         | (have zn : Nat := zz
            clear zn
            subst zz)
         | clear_value zz
         | subst zz)
    | with_reducible apply State.log_kept
    | exact kd.mem (by decide)
    | exact kd.mem (pick_mem (by decide) (by decide))
    | exact kd.mono (by decide)
    | split
    | fail_if_no_progress with_reducible apply kk.rest
    | fail_if_no_progress (with_reducible apply ks.sec; with_reducible apply kk.rest)

theorem State.wasteLeaves_kept {P : State → Prop} (kk : Kept P) (ks : KeptS P) (kd : KeptD P [0x7040, 0x9000, 0xF030]) {s : State} (h_s : P s) :
    P (State.wasteLeaves s) := by
  unfold State.wasteLeaves
  repeat' first
    | with_reducible assumption
    | with_reducible intro _
    | (extract_lets +onlyGivenNames zz
       first
         | (with_reducible refine Kept.cut (P := P) (x := zz) ?_ ?_
            on_goal 2 => clear_value zz
            on_goal 1 => subst zz)
         | (with_reducible refine Kept.cut1 (P := P) (x := zz) ?_ ?_
            on_goal 2 => clear_value zz
            on_goal 1 => subst zz)
         | (have zn : Nat := zz
            clear zn
            subst zz)
         | clear_value zz
         | subst zz)
    | with_reducible apply State.addAt_kept
    | with_reducible apply State.put_kept
    | with_reducible apply State.warnLeaves_kept
    | exact kd.mem (by decide)
    | exact kd.mem (pick_mem (by decide) (by decide))
    | exact kd.mono (by decide)
    | split
    | fail_if_no_progress with_reducible apply kk.rest
    | fail_if_no_progress (with_reducible apply ks.sec; with_reducible apply kk.rest)

theorem State.drawServiceNonce_kept {P : State → Prop} (kk : Kept P) (kd : KeptD P [0x9070]) {s : State} (h_s : P s) :
    P (State.drawServiceNonce s) := by
  unfold State.drawServiceNonce
  repeat' first
    | with_reducible assumption
    | with_reducible intro _
    | with_reducible apply State.freeSkip_kept
    | with_reducible apply State.putAt_kept
    | exact kd.mem (by decide)
    | exact kd.mem (pick_mem (by decide) (by decide))
    | exact kd.mono (by decide)
    | with_reducible refine Kept.foldl (fun _ _ _ => ?_) ?_
    | with_reducible refine Kept.foldl1 (fun _ _ _ => ?_) ?_
    | split
    | fail_if_no_progress with_reducible apply kk.rest

theorem State.countAttempt_kept {P : State → Prop} (kk : Kept P) (kg : KeptK P) (kd : KeptD P [0x9070, 0xF000]) {s : State} (h_s : P s) :
    P (State.countAttempt s) := by
  unfold State.countAttempt
  repeat' first
    | with_reducible assumption
    | with_reducible intro _
    | (extract_lets +onlyGivenNames zz
       first
         | (with_reducible refine Kept.cut (P := P) (x := zz) ?_ ?_
            on_goal 2 => clear_value zz
            on_goal 1 => subst zz)
         | (with_reducible refine Kept.cut1 (P := P) (x := zz) ?_ ?_
            on_goal 2 => clear_value zz
            on_goal 1 => subst zz)
         | (have zn : Nat := zz
            clear zn
            subst zz)
         | clear_value zz
         | subst zz)
    | with_reducible apply State.bump_kept
    | with_reducible apply State.drawServiceNonce_kept
    | exact kd.mem (by decide)
    | exact kd.mem (pick_mem (by decide) (by decide))
    | exact kd.mono (by decide)
    | split
    | fail_if_no_progress with_reducible apply kk.rest
    | fail_if_no_progress (with_reducible apply kg.key; with_reducible apply kk.rest)

theorem State.awaitSupply_kept {P : State → Prop} (kk : Kept P) (kc : KeptC P) (kt : KeptT P) (kg : KeptK P) (kh : KeptH P) (kv : KeptV P) (kb : KeptB P) (kd : KeptD P [0x0041, 0x0080, 0x0100, 0x1000, 0x1001, 0x1002, 0x1010, 0x1011, 0x1012, 0x1013, 0x1015, 0x1016, 0x2010, 0x4001, 0x4003, 0x4010, 0x4012, 0x4021, 0x5020, 0x9001, 0xF000, 0xF002, 0xF003]) {s : State} {mv : Nat} {found : Findings} (h_s : P s) :
    P (State.awaitSupply s mv found) := by
  unfold State.awaitSupply
  repeat' first
    | with_reducible assumption
    | with_reducible intro _
    | (extract_lets +onlyGivenNames zz
       first
         | (with_reducible refine Kept.cut (P := P) (x := zz) ?_ ?_
            on_goal 2 => clear_value zz
            on_goal 1 => subst zz)
         | (with_reducible refine Kept.cut1 (P := P) (x := zz) ?_ ?_
            on_goal 2 => clear_value zz
            on_goal 1 => subst zz)
         | (have zn : Nat := zz
            clear zn
            subst zz)
         | clear_value zz
         | subst zz)
    | with_reducible apply State.beginHalves_kept
    | with_reducible apply State.put_kept
    | exact kd.mem (by decide)
    | exact kd.mem (pick_mem (by decide) (by decide))
    | exact kd.mono (by decide)
    | split
    | fail_if_no_progress with_reducible apply kk.rest
    | fail_if_no_progress (with_reducible apply kg.key; with_reducible apply kk.rest)

theorem State.awaitCrystal_kept {P : State → Prop} (kk : Kept P) (kc : KeptC P) (kt : KeptT P) (kg : KeptK P) (kh : KeptH P) (kv : KeptV P) (kb : KeptB P) (kd : KeptD P [0x0041, 0x0080, 0x0100, 0x1000, 0x1001, 0x1002, 0x1010, 0x1011, 0x1012, 0x1013, 0x1015, 0x1016, 0x2010, 0x4001, 0x4003, 0x4010, 0x4012, 0x4021, 0x5020, 0x9001, 0xF000, 0xF002, 0xF003]) {s : State} {mv : Nat} {found : Findings} (h_s : P s) :
    P (State.awaitCrystal s mv found) := by
  unfold State.awaitCrystal
  repeat' first
    | with_reducible assumption
    | with_reducible intro _
    | with_reducible apply State.awaitSupply_kept
    | with_reducible apply State.put_kept
    | exact kd.mem (by decide)
    | exact kd.mem (pick_mem (by decide) (by decide))
    | exact kd.mono (by decide)
    | split
    | fail_if_no_progress with_reducible apply kk.rest
    | fail_if_no_progress (with_reducible apply kg.key; with_reducible apply kk.rest)

theorem State.fromS3_kept {P : State → Prop} (kk : Kept P) (kc : KeptC P) (kt : KeptT P) (kg : KeptK P) (kh : KeptH P) (kv : KeptV P) (kb : KeptB P) (kd : KeptD P [0x0041, 0x0080, 0x0100, 0x1000, 0x1001, 0x1002, 0x1010, 0x1011, 0x1012, 0x1013, 0x1015, 0x1016, 0x2010, 0x4001, 0x4003, 0x4010, 0x4012, 0x4021, 0x5020, 0x9001, 0xF000, 0xF002, 0xF003]) {s : State} {mv : Nat} {found : Findings} (h_s : P s) :
    P (State.fromS3 s mv found) := by
  unfold State.fromS3
  repeat' first
    | with_reducible assumption
    | with_reducible intro _
    | (extract_lets +onlyGivenNames zz
       first
         | (with_reducible refine Kept.cut (P := P) (x := zz) ?_ ?_
            on_goal 2 => clear_value zz
            on_goal 1 => subst zz)
         | (with_reducible refine Kept.cut1 (P := P) (x := zz) ?_ ?_
            on_goal 2 => clear_value zz
            on_goal 1 => subst zz)
         | (have zn : Nat := zz
            clear zn
            subst zz)
         | clear_value zz
         | subst zz)
    | with_reducible apply State.abandonPending_kept
    | with_reducible apply State.awaitCrystal_kept
    | with_reducible apply State.railsOff_kept
    | with_reducible apply State.startRecord_kept
    | with_reducible apply State.supplyByAlert_kept
    | with_reducible apply State.verifyComponent_kept
    | exact kd.mem (by decide)
    | exact kd.mem (pick_mem (by decide) (by decide))
    | exact kd.mono (by decide)
    | split
    | fail_if_no_progress with_reducible apply kk.rest

theorem State.copyBlock_kept {P : State → Prop} (kk : Kept P) (ks : KeptS P) (kd : KeptD P [0x1002, 0x7040, 0xF030]) {s : State} {b : Nat} (h_s : P s) :
    P (State.copyBlock s b) := by
  unfold State.copyBlock
  repeat' first
    | with_reducible assumption
    | with_reducible intro _
    | (extract_lets +onlyGivenNames zz
       first
         | (with_reducible refine Kept.cut (P := P) (x := zz) ?_ ?_
            on_goal 2 => clear_value zz
            on_goal 1 => subst zz)
         | (with_reducible refine Kept.cut1 (P := P) (x := zz) ?_ ?_
            on_goal 2 => clear_value zz
            on_goal 1 => subst zz)
         | (have zn : Nat := zz
            clear zn
            subst zz)
         | clear_value zz
         | subst zz)
    | with_reducible apply State.log_kept
    | with_reducible apply State.putFlag_kept
    | exact kd.mem (by decide)
    | exact kd.mem (pick_mem (by decide) (by decide))
    | exact kd.mono (by decide)
    | split
    | fail_if_no_progress with_reducible apply kk.rest
    | fail_if_no_progress (with_reducible apply ks.sec; with_reducible apply kk.rest)

theorem State.copyKeystoneBlocks_kept {P : State → Prop} (kk : Kept P) (ks : KeptS P) (kd : KeptD P [0x1002, 0x7040, 0xF030]) {s : State} (h_s : P s) :
    P (State.copyKeystoneBlocks s) := by
  unfold State.copyKeystoneBlocks
  repeat' first
    | with_reducible assumption
    | with_reducible intro _
    | with_reducible apply State.copyBlock_kept
    | exact kd.mem (by decide)
    | exact kd.mem (pick_mem (by decide) (by decide))
    | exact kd.mono (by decide)
    | with_reducible refine Kept.foldl (fun _ _ _ => ?_) ?_
    | with_reducible refine Kept.foldl1 (fun _ _ _ => ?_) ?_
    | split
    | fail_if_no_progress with_reducible apply kk.rest

theorem State.copyHalfBlocks_kept {P : State → Prop} (kk : Kept P) (ks : KeptS P) (kd : KeptD P [0x1002, 0x7040, 0xF030]) {s : State} {h : HalfId} (h_s : P s) :
    P (State.copyHalfBlocks s h) := by
  unfold State.copyHalfBlocks
  repeat' first
    | with_reducible assumption
    | with_reducible intro _
    | (extract_lets +onlyGivenNames zz
       first
         | (with_reducible refine Kept.cut (P := P) (x := zz) ?_ ?_
            on_goal 2 => clear_value zz
            on_goal 1 => subst zz)
         | (with_reducible refine Kept.cut1 (P := P) (x := zz) ?_ ?_
            on_goal 2 => clear_value zz
            on_goal 1 => subst zz)
         | (have zn : Nat := zz
            clear zn
            subst zz)
         | clear_value zz
         | subst zz)
    | with_reducible apply State.copyBlock_kept
    | with_reducible apply State.put_kept
    | exact kd.mem (by decide)
    | exact kd.mem (pick_mem (by decide) (by decide))
    | exact kd.mono (by decide)
    | with_reducible refine Kept.foldl (fun _ _ _ => ?_) ?_
    | with_reducible refine Kept.foldl1 (fun _ _ _ => ?_) ?_
    | split
    | fail_if_no_progress with_reducible apply kk.rest

theorem State.enterFooting_kept {P : State → Prop} (kk : Kept P) (ks : KeptS P) (kh : KeptH P) (kd : KeptD P [0x0041, 0x0100, 0x1001, 0x1002, 0x1012, 0x1013, 0x1015, 0x1016, 0x7040, 0xF000, 0xF030]) {s : State} (h_s : P s) :
    P (State.enterFooting s) := by
  unfold State.enterFooting
  repeat' first
    | with_reducible assumption
    | with_reducible intro _
    | (extract_lets +onlyGivenNames zz
       first
         | (with_reducible refine Kept.cut (P := P) (x := zz) ?_ ?_
            on_goal 2 => clear_value zz
            on_goal 1 => subst zz)
         | (with_reducible refine Kept.cut1 (P := P) (x := zz) ?_ ?_
            on_goal 2 => clear_value zz
            on_goal 1 => subst zz)
         | (have zn : Nat := zz
            clear zn
            subst zz)
         | clear_value zz
         | subst zz)
    | with_reducible apply State.copyKeystoneBlocks_kept
    | with_reducible apply State.put_kept
    | with_reducible apply State.railsOff_kept
    | with_reducible apply State.setFence_kept
    | with_reducible apply State.supplyByAlert_kept
    | exact kd.mem (by decide)
    | exact kd.mem (pick_mem (by decide) (by decide))
    | exact kd.mono (by decide)
    | split
    | fail_if_no_progress with_reducible apply kk.rest

theorem State.fromS2_kept {P : State → Prop} (kk : Kept P) (kc : KeptC P) (kt : KeptT P) (ks : KeptS P) (kg : KeptK P) (kh : KeptH P) (kv : KeptV P) (ku : KeptU P) (kb : KeptB P) (kd : KeptD P [0x0041, 0x0080, 0x0100, 0x1000, 0x1001, 0x1002, 0x1010, 0x1011, 0x1012, 0x1013, 0x1015, 0x1016, 0x2010, 0x4001, 0x4003, 0x4010, 0x4012, 0x4021, 0x5020, 0x7040, 0x9001, 0x9070, 0xF000, 0xF002, 0xF003, 0xF030]) {s : State} {mv : Nat} {found : Findings} (h_s : P s) :
    P (State.fromS2 s mv found) := by
  unfold State.fromS2
  repeat' first
    | with_reducible assumption
    | with_reducible intro _
    | exact kd.mem (by decide)
    | exact kd.mem (pick_mem (by decide) (by decide))
    | exact kd.mono (by decide)
    | (extract_lets +onlyGivenNames zz
       first
         | (with_reducible refine Kept.cut (P := P) (x := zz) ?_ ?_
            on_goal 2 => clear_value zz
            on_goal 1 => subst zz)
         | (with_reducible refine Kept.cut1 (P := P) (x := zz) ?_ ?_
            on_goal 2 => clear_value zz
            on_goal 1 => subst zz)
         | (have zn : Nat := zz
            clear zn
            subst zz)
         | clear_value zz
         | subst zz)
    | with_reducible apply State.bump_kept
    | with_reducible apply State.copyKeystoneBlocks_kept
    | with_reducible apply State.countAttempt_kept
    | with_reducible apply State.enterFooting_kept
    | with_reducible apply State.fromS3_kept
    | exact kd.mem (by decide)
    | exact kd.mem (pick_mem (by decide) (by decide))
    | exact kd.mono (by decide)
    | split
    | fail_if_no_progress with_reducible apply kk.rest
    | fail_if_no_progress (with_reducible apply ku.sup; with_reducible apply kk.rest)

theorem State.losePower_kept {P : State → Prop} (kk : Kept P) (km : KeptM P) (kc : KeptC P) (kt : KeptT P)
    (ks : KeptS P) (kg : KeptK P) (kh : KeptH P) (kv : KeptV P) (kl : KeptL P) (kq : KeptQ P) {s : State}
    (h_s : P s) : P (State.losePower s) := by
  have h := km.clear (h := .h1) (km.clear (h := .h0) (kq.dropKeys (p := fun k => persistOf k != .p2) h_s))
  exact kc.ctxs (kt.tiles (ks.sec (kg.key (kh.halves (kv.svc (kl.spokes (kk.rest h)))))))

theorem State.senseInput_kept {P : State → Prop}  (kd : KeptD P [0x0100]) {s : State} {mv : Nat} (h_s : P s) :
    P (State.senseInput s mv) := by
  unfold State.senseInput
  repeat' first
    | with_reducible assumption
    | with_reducible intro _
    | (extract_lets +onlyGivenNames zz
       first
         | (with_reducible refine Kept.cut (P := P) (x := zz) ?_ ?_
            on_goal 2 => clear_value zz
            on_goal 1 => subst zz)
         | (with_reducible refine Kept.cut1 (P := P) (x := zz) ?_ ?_
            on_goal 2 => clear_value zz
            on_goal 1 => subst zz)
         | (have zn : Nat := zz
            clear zn
            subst zz)
         | clear_value zz
         | subst zz)
    | with_reducible apply State.put_kept
    | exact kd.mem (by decide)
    | exact kd.mem (pick_mem (by decide) (by decide))
    | exact kd.mono (by decide)
    | split
    | fail_if_no_progress with_reducible apply kk.rest

theorem State.coldStart_kept {P : State → Prop} (kk : Kept P) (km : KeptM P) (kc : KeptC P) (kt : KeptT P) (ks : KeptS P) (kg : KeptK P) (kh : KeptH P) (kv : KeptV P) (ku : KeptU P) (kb : KeptB P) (kl : KeptL P) (kd : KeptD P [0x0041, 0x0080, 0x0100, 0x0101, 0x1000, 0x1001, 0x1002, 0x1010, 0x1011, 0x1012, 0x1013, 0x1015, 0x1016, 0x2010, 0x4001, 0x4003, 0x4010, 0x4012, 0x4021, 0x5020, 0x7040, 0x9000, 0x9001, 0x9070, 0xF000, 0xF002, 0xF003, 0xF030]) (kq : KeptQ P) {s : State} {mv : Nat} {found : Findings} (h_s : P s) :
    P (State.coldStart s mv found) := by
  unfold State.coldStart
  repeat' first
    | with_reducible assumption
    | with_reducible intro _
    | exact kd.mem (by decide)
    | exact kd.mem (pick_mem (by decide) (by decide))
    | exact kd.mono (by decide)
    | (extract_lets +onlyGivenNames zz
       first
         | (with_reducible refine Kept.cut (P := P) (x := zz) ?_ ?_
            on_goal 2 => clear_value zz
            on_goal 1 => subst zz)
         | (with_reducible refine Kept.cut1 (P := P) (x := zz) ?_ ?_
            on_goal 2 => clear_value zz
            on_goal 1 => subst zz)
         | (have zn : Nat := zz
            clear zn
            subst zz)
         | clear_value zz
         | subst zz)
    | with_reducible apply State.fromS2_kept
    | with_reducible apply State.losePower_kept
    | with_reducible apply State.put_kept
    | with_reducible apply State.putFlag_kept
    | with_reducible apply State.regrant_kept
    | with_reducible apply State.repin_kept
    | with_reducible apply State.senseInput_kept
    | with_reducible apply State.setFence_kept
    | with_reducible apply State.wasteLeaves_kept
    | exact kd.mem (by decide)
    | exact kd.mem (pick_mem (by decide) (by decide))
    | exact kd.mono (by decide)
    | split
    | fail_if_no_progress with_reducible apply kk.rest
    | fail_if_no_progress (with_reducible apply kg.key; with_reducible apply kk.rest)
    | fail_if_no_progress (with_reducible apply ku.sup; with_reducible apply kk.rest)
    | fail_if_no_progress (with_reducible apply kg.key; with_reducible apply ku.sup; with_reducible apply kk.rest)

theorem State.unpower_kept {P : State → Prop} (kk : Kept P) (km : KeptM P) (kc : KeptC P) (kt : KeptT P) (ks : KeptS P) (kg : KeptK P) (kh : KeptH P) (kv : KeptV P) (kl : KeptL P) (kd : KeptD P [0xF000]) (kq : KeptQ P) {s : State} (h_s : P s) :
    P (State.unpower s) := by
  unfold State.unpower
  repeat' first
    | with_reducible assumption
    | with_reducible intro _
    | (extract_lets +onlyGivenNames zz
       first
         | (with_reducible refine Kept.cut (P := P) (x := zz) ?_ ?_
            on_goal 2 => clear_value zz
            on_goal 1 => subst zz)
         | (with_reducible refine Kept.cut1 (P := P) (x := zz) ?_ ?_
            on_goal 2 => clear_value zz
            on_goal 1 => subst zz)
         | (have zn : Nat := zz
            clear zn
            subst zz)
         | clear_value zz
         | subst zz)
    | with_reducible apply State.bump_kept
    | with_reducible apply State.freeSkip_kept
    | with_reducible apply State.losePower_kept
    | with_reducible apply State.repin_kept
    | with_reducible apply State.startRecord_kept
    | exact kd.mem (by decide)
    | exact kd.mem (pick_mem (by decide) (by decide))
    | exact kd.mono (by decide)
    | with_reducible refine Kept.foldl (fun _ _ _ => ?_) ?_
    | with_reducible refine Kept.foldl1 (fun _ _ _ => ?_) ?_
    | split
    | fail_if_no_progress with_reducible apply kk.rest

theorem State.antiRollback_kept {P : State → Prop}  (kd : KeptD P [0x9001]) {s : State} (h_s : P s) :
    P (State.antiRollback s) := by
  unfold State.antiRollback
  repeat' first
    | with_reducible assumption
    | with_reducible intro _
    | (extract_lets +onlyGivenNames zz
       first
         | (with_reducible refine Kept.cut (P := P) (x := zz) ?_ ?_
            on_goal 2 => clear_value zz
            on_goal 1 => subst zz)
         | (with_reducible refine Kept.cut1 (P := P) (x := zz) ?_ ?_
            on_goal 2 => clear_value zz
            on_goal 1 => subst zz)
         | (have zn : Nat := zz
            clear zn
            subst zz)
         | clear_value zz
         | subst zz)
    | with_reducible apply State.put_kept
    | exact kd.mem (by decide)
    | exact kd.mem (pick_mem (by decide) (by decide))
    | exact kd.mono (by decide)
    | with_reducible refine Kept.foldl (fun _ _ _ => ?_) ?_
    | with_reducible refine Kept.foldl1 (fun _ _ _ => ?_) ?_
    | split
    | fail_if_no_progress with_reducible apply kk.rest

theorem State.leadAtStart_kept {P : State → Prop} (kk : Kept P) (kg : KeptK P) {s : State} {h : HalfId} (h_s : P s) :
    P (State.leadAtStart s h) := by
  unfold State.leadAtStart
  repeat' first
    | with_reducible assumption
    | with_reducible intro _
    | with_reducible apply State.claim_kept
    | with_reducible apply State.leadFallback_kept
    | split
    | fail_if_no_progress with_reducible apply kk.rest

theorem State.completeStart_kept {P : State → Prop} (kk : Kept P) (ks : KeptS P) (kg : KeptK P) (kh : KeptH P) (kv : KeptV P) (kd : KeptD P [0x0041, 0x1002, 0x1010, 0x1011, 0x1012, 0x1013, 0x1015, 0x1016, 0x7040, 0x9001, 0xF000, 0xF030]) {s : State} {h : HalfId} (h_s : P s) :
    P (State.completeStart s h) := by
  unfold State.completeStart
  repeat' first
    | with_reducible assumption
    | with_reducible intro _
    | (extract_lets +onlyGivenNames zz
       first
         | (with_reducible refine Kept.cut (P := P) (x := zz) ?_ ?_
            on_goal 2 => clear_value zz
            on_goal 1 => subst zz)
         | (with_reducible refine Kept.cut1 (P := P) (x := zz) ?_ ?_
            on_goal 2 => clear_value zz
            on_goal 1 => subst zz)
         | (have zn : Nat := zz
            clear zn
            subst zz)
         | clear_value zz
         | subst zz)
    | with_reducible apply State.antiRollback_kept
    | with_reducible apply State.bump_kept
    | with_reducible apply State.copyHalfBlocks_kept
    | with_reducible apply State.endPending_kept
    | with_reducible apply State.leadAtStart_kept
    | with_reducible apply State.modHalf_kept
    | with_reducible apply State.put_kept
    | with_reducible apply State.putFlag_kept
    | with_reducible apply State.regrant_kept
    | with_reducible apply State.setFence_kept
    | with_reducible apply State.throttle_kept
    | exact kd.mem (by decide)
    | exact kd.mem (pick_mem (by decide) (by decide))
    | exact kd.mono (by decide)
    | with_reducible refine Kept.foldl (fun _ _ _ => ?_) ?_
    | with_reducible refine Kept.foldl1 (fun _ _ _ => ?_) ?_
    | split
    | fail_if_no_progress with_reducible apply kk.rest
    | fail_if_no_progress (with_reducible apply kg.key; with_reducible apply kk.rest)

end Sys2Proof.Machine
end

