-- ==== Sys2Proof/Laws/KeptStart.lean ====
section
/-! SUPPORT. What every definition of Machine/Start.lean keeps of a state: one lemma each (Laws/Kept.lean). -/

namespace Sys2Proof.Machine

open Sys2Proof

set_option linter.all false

theorem rated_kept {P : State → Prop}  {mv : Nat} {r : Result} (h_r : KeptR P r) :
    KeptR P (rated mv r) := by
  unfold rated
  repeat' first
    | with_reducible assumption
    | with_reducible intro _
    | with_reducible refine KeptR.onPower ?_ (fun _ => ?_)
    | with_reducible refine KeptR.next ?_
    | with_reducible exact KeptR.fault _
    | split
    | fail_if_no_progress with_reducible apply kk.rest

theorem execColdPowerOn_kept {P : State → Prop} (kk : Kept P) (km : KeptM P) (kc : KeptC P) (kt : KeptT P) (ks : KeptS P) (kg : KeptK P) (kh : KeptH P) (kv : KeptV P) (ku : KeptU P) (kb : KeptB P) (kl : KeptL P) (kd : KeptD P [0x0041, 0x0080, 0x0100, 0x0101, 0x1000, 0x1001, 0x1002, 0x1010, 0x1011, 0x1012, 0x1013, 0x1015, 0x1016, 0x2010, 0x4001, 0x4003, 0x4010, 0x4012, 0x4021, 0x5020, 0x7040, 0x9000, 0x9001, 0x9070, 0xF000, 0xF002, 0xF003, 0xF030]) (kq : KeptQ P) {mv : Nat} {found : Findings} {s : State} (h_s : P s) :
    KeptR P (execColdPowerOn mv found s) := by
  unfold execColdPowerOn
  repeat' first
    | with_reducible assumption
    | with_reducible intro _
    | exact kd.mem (by decide)
    | exact kd.mem (pick_mem (by decide) (by decide))
    | exact kd.mono (by decide)
    | with_reducible refine KeptR.onPower ?_ (fun _ => ?_)
    | with_reducible refine KeptR.next ?_
    | with_reducible exact KeptR.fault _
    | with_reducible apply State.coldStart_kept
    | with_reducible apply rated_kept
    | exact kd.mem (by decide)
    | exact kd.mem (pick_mem (by decide) (by decide))
    | exact kd.mono (by decide)
    | split
    | fail_if_no_progress with_reducible apply kk.rest

theorem execStartComplete_kept {P : State → Prop} (kk : Kept P) (ks : KeptS P) (kg : KeptK P) (kh : KeptH P) (kv : KeptV P) (kd : KeptD P [0x0041, 0x1002, 0x1010, 0x1011, 0x1012, 0x1013, 0x1015, 0x1016, 0x7040, 0x9001, 0xF000, 0xF030]) {h : HalfId} {s : State} (h_s : P s) :
    KeptR P (execStartComplete h s) := by
  unfold execStartComplete
  repeat' first
    | with_reducible assumption
    | with_reducible intro _
    | with_reducible refine KeptR.onPower ?_ (fun _ => ?_)
    | with_reducible refine KeptR.next ?_
    | with_reducible exact KeptR.fault _
    | with_reducible apply State.completeStart_kept
    | exact kd.mem (by decide)
    | exact kd.mem (pick_mem (by decide) (by decide))
    | exact kd.mono (by decide)
    | split
    | fail_if_no_progress with_reducible apply kk.rest

theorem execStartFail_kept {P : State → Prop} (kk : Kept P) (kg : KeptK P) (kh : KeptH P) (kv : KeptV P) (kd : KeptD P [0x0041, 0x1001, 0x1002, 0x1010, 0x1011, 0x1012, 0x1013, 0x1015, 0x1016, 0x9001, 0xF000]) {h : HalfId} {phase reason status : Nat} {s : State} (h_s : P s) :
    KeptR P (execStartFail h phase reason status s) := by
  unfold execStartFail
  repeat' first
    | with_reducible assumption
    | with_reducible intro _
    | with_reducible refine KeptR.onPower ?_ (fun _ => ?_)
    | with_reducible refine KeptR.next ?_
    | with_reducible exact KeptR.fault _
    | with_reducible apply State.failStart_kept
    | exact kd.mem (by decide)
    | exact kd.mem (pick_mem (by decide) (by decide))
    | exact kd.mono (by decide)
    | split
    | fail_if_no_progress with_reducible apply kk.rest

theorem execStartTimeout_kept {P : State → Prop} (kk : Kept P) (kg : KeptK P) (kh : KeptH P) (kv : KeptV P) (kd : KeptD P [0x0041, 0x1001, 0x1002, 0x1010, 0x1011, 0x1012, 0x1013, 0x1015, 0x1016, 0x9001, 0xF000]) {h : HalfId} {phase : Nat} {s : State} (h_s : P s) :
    KeptR P (execStartTimeout h phase s) := by
  unfold execStartTimeout
  repeat' first
    | with_reducible assumption
    | with_reducible intro _
    | with_reducible refine KeptR.onPower ?_ (fun _ => ?_)
    | with_reducible refine KeptR.next ?_
    | with_reducible exact KeptR.fault _
    | with_reducible apply State.failStart_kept
    | exact kd.mem (by decide)
    | exact kd.mem (pick_mem (by decide) (by decide))
    | exact kd.mono (by decide)
    | split
    | fail_if_no_progress with_reducible apply kk.rest

theorem execCrystalStartTimeout_kept {P : State → Prop} (kk : Kept P) (kg : KeptK P) (kh : KeptH P) (kd : KeptD P [0x0041, 0x1001, 0x1002, 0x1011, 0x1012, 0x1013, 0x1015, 0x1016, 0x9001, 0xF000]) {s : State} (h_s : P s) :
    KeptR P (execCrystalStartTimeout s) := by
  unfold execCrystalStartTimeout
  repeat' first
    | with_reducible assumption
    | with_reducible intro _
    | (extract_lets +onlyGivenNames zz
       first
         | (with_reducible refine Kept.cut (P := P) (x := zz) ?_ ?_
            on_goal 2 => clear_value zz
            on_goal 1 => subst zz)
         | (with_reducible refine Kept.cut1 (P := P) (x := zz) ?_ ?_
            on_goal 2 => clear_value zz
            on_goal 1 => subst zz)
         | (have zn : Nat := zz
            clear zn
            subst zz)
         | clear_value zz
         | subst zz)
    | with_reducible refine KeptR.onPower ?_ (fun _ => ?_)
    | with_reducible refine KeptR.next ?_
    | with_reducible exact KeptR.fault _
    | with_reducible apply State.abandonPending_kept
    | with_reducible apply State.railsOff_kept
    | with_reducible apply State.regrant_kept
    | with_reducible apply State.setFence_kept
    | with_reducible apply State.startRecord_kept
    | exact kd.mem (by decide)
    | exact kd.mem (pick_mem (by decide) (by decide))
    | exact kd.mono (by decide)
    | split
    | fail_if_no_progress with_reducible apply kk.rest
    | fail_if_no_progress (with_reducible apply kg.key; with_reducible apply kk.rest)

theorem execLeadStartTimeout_kept {P : State → Prop} (kk : Kept P) (kg : KeptK P) {s : State} (h_s : P s) :
    KeptR P (execLeadStartTimeout s) := by
  unfold execLeadStartTimeout
  repeat' first
    | with_reducible assumption
    | with_reducible intro _
    | with_reducible refine KeptR.onPower ?_ (fun _ => ?_)
    | with_reducible refine KeptR.next ?_
    | with_reducible exact KeptR.fault _
    | with_reducible apply State.leadFallback_kept
    | split
    | fail_if_no_progress with_reducible apply kk.rest
    | fail_if_no_progress (with_reducible apply kg.key; with_reducible apply kk.rest)

end Sys2Proof.Machine
end

