-- ==== Sys2Proof/Laws/KeptSupplyIn.lean ====
section
/-! SUPPORT. What every definition of Machine/SupplyIn.lean keeps of a state: one lemma each (Laws/Kept.lean). -/

namespace Sys2Proof.Machine

open Sys2Proof

set_option linter.all false

theorem State.overtake_kept {P : State → Prop} (kk : Kept P) (kg : KeptK P) (kv : KeptV P) {s : State} {reached : Nat} (h_s : P s) :
    P (State.overtake s reached) := by
  unfold State.overtake
  repeat' first
    | with_reducible assumption
    | with_reducible intro _
    | (extract_lets +onlyGivenNames zz
       first
         | (with_reducible refine Kept.cut (P := P) (x := zz) ?_ ?_
            on_goal 2 => clear_value zz
            on_goal 1 => subst zz)
         | (with_reducible refine Kept.cut1 (P := P) (x := zz) ?_ ?_
            on_goal 2 => clear_value zz
            on_goal 1 => subst zz)
         | (have zn : Nat := zz
            clear zn
            subst zz)
         | clear_value zz
         | subst zz)
    | with_reducible apply State.endPending_kept
    | split
    | fail_if_no_progress with_reducible apply kk.rest
    | fail_if_no_progress (with_reducible apply kg.key; with_reducible apply kk.rest)

theorem State.readInput_kept {P : State → Prop}  (kd : KeptD P [0x0041, 0x0100, 0x1011]) {s : State} {mv : Nat} (h_s : P s) :
    P (State.readInput s mv) := by
  unfold State.readInput
  repeat' first
    | with_reducible assumption
    | with_reducible intro _
    | with_reducible apply State.regrant_kept
    | with_reducible apply State.senseInput_kept
    | exact kd.mem (by decide)
    | exact kd.mem (pick_mem (by decide) (by decide))
    | exact kd.mono (by decide)
    | split
    | fail_if_no_progress with_reducible apply kk.rest

theorem onInput_kept {P : State → Prop}  (kd : KeptD P [0x0041, 0x0100, 0x1011]) {mv : Nat} {s : State} {f : State → State} (h_s : P s) (h_f : ∀ s, P s → P (f s)) :
    KeptR P (onInput mv s f) := by
  unfold onInput
  repeat' first
    | with_reducible assumption
    | with_reducible intro _
    | with_reducible refine KeptR.onPower ?_ (fun _ => ?_)
    | with_reducible refine KeptR.next ?_
    | with_reducible exact KeptR.fault _
    | with_reducible apply h_f
    | with_reducible apply State.readInput_kept
    | with_reducible apply rated_kept
    | exact kd.mem (by decide)
    | exact kd.mem (pick_mem (by decide) (by decide))
    | exact kd.mono (by decide)
    | split
    | fail_if_no_progress with_reducible apply kk.rest

theorem execSupplyBrownout_kept {P : State → Prop} (kk : Kept P) (km : KeptM P) (kc : KeptC P) (kt : KeptT P) (ks : KeptS P) (kg : KeptK P) (kh : KeptH P) (kv : KeptV P) (ku : KeptU P) (kl : KeptL P) (kd : KeptD P [0x0010, 0x0040, 0x0041, 0x0100, 0x1001, 0x1002, 0x1010, 0x1011, 0x1012, 0x1013, 0x1015, 0x1016, 0xA003, 0xA004]) (kq : KeptQ P) {mv : Nat} {s : State} (h_s : P s) :
    KeptR P (execSupplyBrownout mv s) := by
  unfold execSupplyBrownout
  repeat' first
    | with_reducible assumption
    | with_reducible intro _
    | (extract_lets +onlyGivenNames zz
       first
         | (with_reducible refine Kept.cut (P := P) (x := zz) ?_ ?_
            on_goal 2 => clear_value zz
            on_goal 1 => subst zz)
         | (with_reducible refine Kept.cut1 (P := P) (x := zz) ?_ ?_
            on_goal 2 => clear_value zz
            on_goal 1 => subst zz)
         | (have zn : Nat := zz
            clear zn
            subst zz)
         | clear_value zz
         | subst zz)
    | with_reducible refine KeptR.onPower ?_ (fun _ => ?_)
    | with_reducible refine KeptR.next ?_
    | with_reducible exact KeptR.fault _
    | with_reducible apply State.overtake_kept
    | with_reducible apply State.setSupply_kept
    | with_reducible apply State.throttleBoth_kept
    | with_reducible apply State.toKeystoneOnly_kept
    | with_reducible apply onInput_kept
    | exact kd.mem (by decide)
    | exact kd.mem (pick_mem (by decide) (by decide))
    | exact kd.mono (by decide)
    | split
    | fail_if_no_progress with_reducible apply kk.rest
    | fail_if_no_progress (with_reducible apply kg.key; with_reducible apply kk.rest)
    | fail_if_no_progress (with_reducible apply ku.sup; with_reducible apply kk.rest)
    | fail_if_no_progress (with_reducible apply kg.key; with_reducible apply ku.sup; with_reducible apply kk.rest)

theorem execSupplyRecover_kept {P : State → Prop} (kk : Kept P) (kc : KeptC P) (kt : KeptT P) (kg : KeptK P) (kh : KeptH P) (kv : KeptV P) (kb : KeptB P) (kd : KeptD P [0x0041, 0x0080, 0x0100, 0x1000, 0x1001, 0x1002, 0x1010, 0x1011, 0x1012, 0x1013, 0x1015, 0x1016, 0x2010, 0x4001, 0x4003, 0x4010, 0x4012, 0x4021, 0x5020, 0x9001, 0x9070, 0xF000, 0xF002, 0xF003]) {mv : Nat} {found : Findings} {s : State} (h_s : P s) :
    KeptR P (execSupplyRecover mv found s) := by
  unfold execSupplyRecover
  repeat' first
    | with_reducible assumption
    | with_reducible intro _
    | with_reducible refine KeptR.onPower ?_ (fun _ => ?_)
    | with_reducible refine KeptR.next ?_
    | with_reducible exact KeptR.fault _
    | with_reducible apply State.beginHalves_kept
    | with_reducible apply State.countAttempt_kept
    | with_reducible apply State.put_kept
    | with_reducible apply State.supplyByAlert_kept
    | with_reducible apply onInput_kept
    | exact kd.mem (by decide)
    | exact kd.mem (pick_mem (by decide) (by decide))
    | exact kd.mono (by decide)
    | split
    | fail_if_no_progress with_reducible apply kk.rest

theorem execSupplyUndervoltageAlert_kept {P : State → Prop} (kk : Kept P) (ku : KeptU P) (kd : KeptD P [0x0041, 0x0100, 0x1011, 0x1012, 0x1013, 0x1015, 0x1016]) {mv : Nat} {s : State} (h_s : P s) :
    KeptR P (execSupplyUndervoltageAlert mv s) := by
  unfold execSupplyUndervoltageAlert
  repeat' first
    | with_reducible assumption
    | with_reducible intro _
    | (extract_lets +onlyGivenNames zz
       first
         | (with_reducible refine Kept.cut (P := P) (x := zz) ?_ ?_
            on_goal 2 => clear_value zz
            on_goal 1 => subst zz)
         | (with_reducible refine Kept.cut1 (P := P) (x := zz) ?_ ?_
            on_goal 2 => clear_value zz
            on_goal 1 => subst zz)
         | (have zn : Nat := zz
            clear zn
            subst zz)
         | clear_value zz
         | subst zz)
    | with_reducible refine KeptR.onPower ?_ (fun _ => ?_)
    | with_reducible refine KeptR.next ?_
    | with_reducible exact KeptR.fault _
    | with_reducible apply State.regrant_kept
    | with_reducible apply State.setSupply_kept
    | with_reducible apply State.throttleBoth_kept
    | with_reducible apply onInput_kept
    | exact kd.mem (by decide)
    | exact kd.mem (pick_mem (by decide) (by decide))
    | exact kd.mono (by decide)
    | split
    | fail_if_no_progress with_reducible apply kk.rest
    | fail_if_no_progress (with_reducible apply ku.sup; with_reducible apply kk.rest)

theorem execSupplyUndervoltageClear_kept {P : State → Prop} (kk : Kept P) (ku : KeptU P) (kd : KeptD P [0x0041, 0x0100, 0x1011, 0x1012, 0x1013, 0x1015, 0x1016]) {mv : Nat} {s : State} (h_s : P s) :
    KeptR P (execSupplyUndervoltageClear mv s) := by
  unfold execSupplyUndervoltageClear
  repeat' first
    | with_reducible assumption
    | with_reducible intro _
    | (extract_lets +onlyGivenNames zz
       first
         | (with_reducible refine Kept.cut (P := P) (x := zz) ?_ ?_
            on_goal 2 => clear_value zz
            on_goal 1 => subst zz)
         | (with_reducible refine Kept.cut1 (P := P) (x := zz) ?_ ?_
            on_goal 2 => clear_value zz
            on_goal 1 => subst zz)
         | (have zn : Nat := zz
            clear zn
            subst zz)
         | clear_value zz
         | subst zz)
    | with_reducible refine KeptR.onPower ?_ (fun _ => ?_)
    | with_reducible refine KeptR.next ?_
    | with_reducible exact KeptR.fault _
    | with_reducible apply State.regrant_kept
    | with_reducible apply State.supplyByAlert_kept
    | with_reducible apply State.throttleBoth_kept
    | with_reducible apply onInput_kept
    | exact kd.mem (by decide)
    | exact kd.mem (pick_mem (by decide) (by decide))
    | exact kd.mono (by decide)
    | split
    | fail_if_no_progress with_reducible apply kk.rest
    | fail_if_no_progress (with_reducible apply ku.sup; with_reducible apply kk.rest)

theorem execSupplyOvervoltageAlert_kept {P : State → Prop} (kk : Kept P) (ku : KeptU P) (kd : KeptD P [0x0041, 0x0100, 0x1011, 0x1012, 0x1013, 0x1015, 0x1016]) {mv : Nat} {s : State} (h_s : P s) :
    KeptR P (execSupplyOvervoltageAlert mv s) := by
  unfold execSupplyOvervoltageAlert
  repeat' first
    | with_reducible assumption
    | with_reducible intro _
    | (extract_lets +onlyGivenNames zz
       first
         | (with_reducible refine Kept.cut (P := P) (x := zz) ?_ ?_
            on_goal 2 => clear_value zz
            on_goal 1 => subst zz)
         | (with_reducible refine Kept.cut1 (P := P) (x := zz) ?_ ?_
            on_goal 2 => clear_value zz
            on_goal 1 => subst zz)
         | (have zn : Nat := zz
            clear zn
            subst zz)
         | clear_value zz
         | subst zz)
    | with_reducible refine KeptR.onPower ?_ (fun _ => ?_)
    | with_reducible refine KeptR.next ?_
    | with_reducible exact KeptR.fault _
    | with_reducible apply State.regrant_kept
    | with_reducible apply State.setSupply_kept
    | with_reducible apply State.throttleBoth_kept
    | with_reducible apply onInput_kept
    | exact kd.mem (by decide)
    | exact kd.mem (pick_mem (by decide) (by decide))
    | exact kd.mono (by decide)
    | split
    | fail_if_no_progress with_reducible apply kk.rest
    | fail_if_no_progress (with_reducible apply ku.sup; with_reducible apply kk.rest)

theorem execSupplyOvervoltageClear_kept {P : State → Prop} (kk : Kept P) (ku : KeptU P) (kd : KeptD P [0x0041, 0x0100, 0x1011, 0x1012, 0x1013, 0x1015, 0x1016]) {mv : Nat} {s : State} (h_s : P s) :
    KeptR P (execSupplyOvervoltageClear mv s) := by
  unfold execSupplyOvervoltageClear
  repeat' first
    | with_reducible assumption
    | with_reducible intro _
    | (extract_lets +onlyGivenNames zz
       first
         | (with_reducible refine Kept.cut (P := P) (x := zz) ?_ ?_
            on_goal 2 => clear_value zz
            on_goal 1 => subst zz)
         | (with_reducible refine Kept.cut1 (P := P) (x := zz) ?_ ?_
            on_goal 2 => clear_value zz
            on_goal 1 => subst zz)
         | (have zn : Nat := zz
            clear zn
            subst zz)
         | clear_value zz
         | subst zz)
    | with_reducible refine KeptR.onPower ?_ (fun _ => ?_)
    | with_reducible refine KeptR.next ?_
    | with_reducible exact KeptR.fault _
    | with_reducible apply State.regrant_kept
    | with_reducible apply State.supplyByAlert_kept
    | with_reducible apply State.throttleBoth_kept
    | with_reducible apply onInput_kept
    | exact kd.mem (by decide)
    | exact kd.mem (pick_mem (by decide) (by decide))
    | exact kd.mono (by decide)
    | split
    | fail_if_no_progress with_reducible apply kk.rest
    | fail_if_no_progress (with_reducible apply ku.sup; with_reducible apply kk.rest)

theorem execInputSwitchOpen_kept {P : State → Prop} (kk : Kept P) (km : KeptM P) (kc : KeptC P) (kt : KeptT P) (ks : KeptS P) (kg : KeptK P) (kh : KeptH P) (kv : KeptV P) (ku : KeptU P) (kl : KeptL P) (kd : KeptD P [0x0100, 0xF000]) (kq : KeptQ P) {s : State} (h_s : P s) :
    KeptR P (execInputSwitchOpen s) := by
  unfold execInputSwitchOpen
  repeat' first
    | with_reducible assumption
    | with_reducible intro _
    | (extract_lets +onlyGivenNames zz
       first
         | (with_reducible refine Kept.cut (P := P) (x := zz) ?_ ?_
            on_goal 2 => clear_value zz
            on_goal 1 => subst zz)
         | (with_reducible refine Kept.cut1 (P := P) (x := zz) ?_ ?_
            on_goal 2 => clear_value zz
            on_goal 1 => subst zz)
         | (have zn : Nat := zz
            clear zn
            subst zz)
         | clear_value zz
         | subst zz)
    | with_reducible refine KeptR.onPower ?_ (fun _ => ?_)
    | with_reducible refine KeptR.next ?_
    | with_reducible exact KeptR.fault _
    | with_reducible apply State.bump_kept
    | with_reducible apply State.unpower_kept
    | exact kd.mem (by decide)
    | exact kd.mem (pick_mem (by decide) (by decide))
    | exact kd.mono (by decide)
    | split
    | fail_if_no_progress with_reducible apply kk.rest
    | fail_if_no_progress (with_reducible apply ku.sup; with_reducible apply kk.rest)

theorem execInputSwitchReclose_kept {P : State → Prop} (kk : Kept P) (km : KeptM P) (kc : KeptC P) (kt : KeptT P) (ks : KeptS P) (kg : KeptK P) (kh : KeptH P) (kv : KeptV P) (ku : KeptU P) (kb : KeptB P) (kl : KeptL P) (kd : KeptD P [0x0041, 0x0080, 0x0100, 0x0101, 0x1000, 0x1001, 0x1002, 0x1010, 0x1011, 0x1012, 0x1013, 0x1015, 0x1016, 0x2010, 0x4001, 0x4003, 0x4010, 0x4012, 0x4021, 0x5020, 0x7040, 0x9000, 0x9001, 0x9070, 0xF000, 0xF002, 0xF003, 0xF030]) (kq : KeptQ P) {mv : Nat} {found : Findings} {s : State} (h_s : P s) :
    KeptR P (execInputSwitchReclose mv found s) := by
  unfold execInputSwitchReclose
  repeat' first
    | with_reducible assumption
    | with_reducible intro _
    | exact kd.mem (by decide)
    | exact kd.mem (pick_mem (by decide) (by decide))
    | exact kd.mono (by decide)
    | with_reducible refine KeptR.onPower ?_ (fun _ => ?_)
    | with_reducible refine KeptR.next ?_
    | with_reducible exact KeptR.fault _
    | with_reducible apply State.coldStart_kept
    | with_reducible apply rated_kept
    | exact kd.mem (by decide)
    | exact kd.mem (pick_mem (by decide) (by decide))
    | exact kd.mono (by decide)
    | split
    | fail_if_no_progress with_reducible apply kk.rest
    | fail_if_no_progress (with_reducible apply ku.sup; with_reducible apply kk.rest)

theorem execPowerLoss_kept {P : State → Prop} (kk : Kept P) (km : KeptM P) (kc : KeptC P) (kt : KeptT P) (ks : KeptS P) (kg : KeptK P) (kh : KeptH P) (kv : KeptV P) (kl : KeptL P) (kd : KeptD P [0xF000]) (kq : KeptQ P) {s : State} (h_s : P s) :
    KeptR P (execPowerLoss s) := by
  unfold execPowerLoss
  repeat' first
    | with_reducible assumption
    | with_reducible intro _
    | with_reducible refine KeptR.onPower ?_ (fun _ => ?_)
    | with_reducible refine KeptR.next ?_
    | with_reducible exact KeptR.fault _
    | with_reducible apply State.unpower_kept
    | exact kd.mem (by decide)
    | exact kd.mem (pick_mem (by decide) (by decide))
    | exact kd.mono (by decide)
    | split
    | fail_if_no_progress with_reducible apply kk.rest

theorem execReversePolarity_kept {P : State → Prop} (kk : Kept P) (km : KeptM P) (kc : KeptC P) (kt : KeptT P) (ks : KeptS P) (kg : KeptK P) (kh : KeptH P) (kv : KeptV P) (ku : KeptU P) (kl : KeptL P) (kd : KeptD P [0xF000]) (kq : KeptQ P) {s : State} (h_s : P s) :
    KeptR P (execReversePolarity s) := by
  unfold execReversePolarity
  repeat' first
    | with_reducible assumption
    | with_reducible intro _
    | (extract_lets +onlyGivenNames zz
       first
         | (with_reducible refine Kept.cut (P := P) (x := zz) ?_ ?_
            on_goal 2 => clear_value zz
            on_goal 1 => subst zz)
         | (with_reducible refine Kept.cut1 (P := P) (x := zz) ?_ ?_
            on_goal 2 => clear_value zz
            on_goal 1 => subst zz)
         | (have zn : Nat := zz
            clear zn
            subst zz)
         | clear_value zz
         | subst zz)
    | with_reducible refine KeptR.onPower ?_ (fun _ => ?_)
    | with_reducible refine KeptR.next ?_
    | with_reducible exact KeptR.fault _
    | with_reducible apply State.unpower_kept
    | exact kd.mem (by decide)
    | exact kd.mem (pick_mem (by decide) (by decide))
    | exact kd.mono (by decide)
    | split
    | fail_if_no_progress with_reducible apply kk.rest
    | fail_if_no_progress (with_reducible apply ku.sup; with_reducible apply kk.rest)

theorem State.setGroup_kept {P : State → Prop}  (kd : KeptD P [0x0041, 0x0100, 0x1011]) {s : State} {g : Nat} {isOpen : Bool} (h_s : P s) :
    P (State.setGroup s g isOpen) := by
  unfold State.setGroup
  repeat' first
    | with_reducible assumption
    | with_reducible intro _
    | (extract_lets +onlyGivenNames zz
       first
         | (with_reducible refine Kept.cut (P := P) (x := zz) ?_ ?_
            on_goal 2 => clear_value zz
            on_goal 1 => subst zz)
         | (with_reducible refine Kept.cut1 (P := P) (x := zz) ?_ ?_
            on_goal 2 => clear_value zz
            on_goal 1 => subst zz)
         | (have zn : Nat := zz
            clear zn
            subst zz)
         | clear_value zz
         | subst zz)
    | with_reducible apply State.bump_kept
    | with_reducible apply State.put_kept
    | with_reducible apply State.putFlag_kept
    | with_reducible apply State.regrant_kept
    | exact kd.mem (by decide)
    | exact kd.mem (pick_mem (by decide) (by decide))
    | exact kd.mono (by decide)
    | split
    | fail_if_no_progress with_reducible apply kk.rest

theorem execContactGroupOpen_kept {P : State → Prop} (kk : Kept P) (km : KeptM P) (kc : KeptC P) (kt : KeptT P) (ks : KeptS P) (kg : KeptK P) (kh : KeptH P) (kv : KeptV P) (kl : KeptL P) (kd : KeptD P [0x0041, 0x0100, 0x1011, 0xF000]) (kq : KeptQ P) {group : Nat} {s : State} (h_s : P s) :
    KeptR P (execContactGroupOpen group s) := by
  unfold execContactGroupOpen
  repeat' first
    | with_reducible assumption
    | with_reducible intro _
    | with_reducible refine KeptR.onPower ?_ (fun _ => ?_)
    | with_reducible refine KeptR.next ?_
    | with_reducible exact KeptR.fault _
    | with_reducible apply State.setGroup_kept
    | with_reducible apply State.unpower_kept
    | exact kd.mem (by decide)
    | exact kd.mem (pick_mem (by decide) (by decide))
    | exact kd.mono (by decide)
    | split
    | fail_if_no_progress with_reducible apply kk.rest

theorem execContactGroupClear_kept {P : State → Prop}  (kd : KeptD P [0x0041, 0x0100, 0x1011]) {group : Nat} {s : State} (h_s : P s) :
    KeptR P (execContactGroupClear group s) := by
  unfold execContactGroupClear
  repeat' first
    | with_reducible assumption
    | with_reducible intro _
    | with_reducible refine KeptR.onPower ?_ (fun _ => ?_)
    | with_reducible refine KeptR.next ?_
    | with_reducible exact KeptR.fault _
    | with_reducible apply State.setGroup_kept
    | exact kd.mem (by decide)
    | exact kd.mem (pick_mem (by decide) (by decide))
    | exact kd.mono (by decide)
    | split
    | fail_if_no_progress with_reducible apply kk.rest

theorem execPwrbrkAssert_kept {P : State → Prop} (kk : Kept P) (ku : KeptU P) (kd : KeptD P [0x0101, 0x1012, 0x1013, 0x1015, 0x1016]) {s : State} (h_s : P s) :
    KeptR P (execPwrbrkAssert s) := by
  unfold execPwrbrkAssert
  repeat' first
    | with_reducible assumption
    | with_reducible intro _
    | (extract_lets +onlyGivenNames zz
       first
         | (with_reducible refine Kept.cut (P := P) (x := zz) ?_ ?_
            on_goal 2 => clear_value zz
            on_goal 1 => subst zz)
         | (with_reducible refine Kept.cut1 (P := P) (x := zz) ?_ ?_
            on_goal 2 => clear_value zz
            on_goal 1 => subst zz)
         | (have zn : Nat := zz
            clear zn
            subst zz)
         | clear_value zz
         | subst zz)
    | with_reducible refine KeptR.onPower ?_ (fun _ => ?_)
    | with_reducible refine KeptR.next ?_
    | with_reducible exact KeptR.fault _
    | with_reducible apply State.putFlag_kept
    | with_reducible apply State.throttleBoth_kept
    | exact kd.mem (by decide)
    | exact kd.mem (pick_mem (by decide) (by decide))
    | exact kd.mono (by decide)
    | split
    | fail_if_no_progress with_reducible apply kk.rest
    | fail_if_no_progress (with_reducible apply ku.sup; with_reducible apply kk.rest)

theorem execPwrbrkRelease_kept {P : State → Prop} (kk : Kept P) (ku : KeptU P) (kd : KeptD P [0x0101, 0x1012, 0x1013, 0x1015, 0x1016]) {s : State} (h_s : P s) :
    KeptR P (execPwrbrkRelease s) := by
  unfold execPwrbrkRelease
  repeat' first
    | with_reducible assumption
    | with_reducible intro _
    | (extract_lets +onlyGivenNames zz
       first
         | (with_reducible refine Kept.cut (P := P) (x := zz) ?_ ?_
            on_goal 2 => clear_value zz
            on_goal 1 => subst zz)
         | (with_reducible refine Kept.cut1 (P := P) (x := zz) ?_ ?_
            on_goal 2 => clear_value zz
            on_goal 1 => subst zz)
         | (have zn : Nat := zz
            clear zn
            subst zz)
         | clear_value zz
         | subst zz)
    | with_reducible refine KeptR.onPower ?_ (fun _ => ?_)
    | with_reducible refine KeptR.next ?_
    | with_reducible exact KeptR.fault _
    | with_reducible apply State.putFlag_kept
    | with_reducible apply State.throttleBoth_kept
    | exact kd.mem (by decide)
    | exact kd.mem (pick_mem (by decide) (by decide))
    | exact kd.mono (by decide)
    | split
    | fail_if_no_progress with_reducible apply kk.rest
    | fail_if_no_progress (with_reducible apply ku.sup; with_reducible apply kk.rest)

theorem execThermNAssert_kept {P : State → Prop} (kk : Kept P) (kd : KeptD P [0x0101]) {celsius : Int} {s : State} (h_s : P s) :
    KeptR P (execThermNAssert celsius s) := by
  unfold execThermNAssert
  repeat' first
    | with_reducible assumption
    | with_reducible intro _
    | with_reducible refine KeptR.onPower ?_ (fun _ => ?_)
    | with_reducible refine KeptR.next ?_
    | with_reducible exact KeptR.fault _
    | with_reducible apply State.putFlag_kept
    | with_reducible apply State.repin_kept
    | exact kd.mem (by decide)
    | exact kd.mem (pick_mem (by decide) (by decide))
    | exact kd.mono (by decide)
    | split
    | fail_if_no_progress with_reducible apply kk.rest

theorem execThermNRelease_kept {P : State → Prop} (kk : Kept P) (kd : KeptD P [0x0101]) {celsius : Int} {s : State} (h_s : P s) :
    KeptR P (execThermNRelease celsius s) := by
  unfold execThermNRelease
  repeat' first
    | with_reducible assumption
    | with_reducible intro _
    | with_reducible refine KeptR.onPower ?_ (fun _ => ?_)
    | with_reducible refine KeptR.next ?_
    | with_reducible exact KeptR.fault _
    | with_reducible apply State.putFlag_kept
    | with_reducible apply State.repin_kept
    | exact kd.mem (by decide)
    | exact kd.mem (pick_mem (by decide) (by decide))
    | exact kd.mono (by decide)
    | split
    | fail_if_no_progress with_reducible apply kk.rest

theorem State.sidebandFault_kept {P : State → Prop}  (kd : KeptD P [0x0101]) {s : State} {b : Nat} (h_s : P s) :
    P (State.sidebandFault s b) := by
  unfold State.sidebandFault
  repeat' first
    | with_reducible assumption
    | with_reducible intro _
    | with_reducible apply State.bump_kept
    | with_reducible apply State.putFlag_kept
    | exact kd.mem (by decide)
    | exact kd.mem (pick_mem (by decide) (by decide))
    | exact kd.mono (by decide)
    | split
    | fail_if_no_progress with_reducible apply kk.rest

theorem execSidebandShortDetect_kept {P : State → Prop}  (kd : KeptD P [0x0101]) {bit : Nat} {s : State} (h_s : P s) :
    KeptR P (execSidebandShortDetect bit s) := by
  unfold execSidebandShortDetect
  repeat' first
    | with_reducible assumption
    | with_reducible intro _
    | with_reducible refine KeptR.onPower ?_ (fun _ => ?_)
    | with_reducible refine KeptR.next ?_
    | with_reducible exact KeptR.fault _
    | with_reducible apply State.sidebandFault_kept
    | exact kd.mem (by decide)
    | exact kd.mem (pick_mem (by decide) (by decide))
    | exact kd.mono (by decide)
    | split
    | fail_if_no_progress with_reducible apply kk.rest

theorem execSidebandFaultClear_kept {P : State → Prop} (kk : Kept P) (kd : KeptD P [0x0101]) {bit : Nat} {s : State} (h_s : P s) :
    KeptR P (execSidebandFaultClear bit s) := by
  unfold execSidebandFaultClear
  repeat' first
    | with_reducible assumption
    | with_reducible intro _
    | (extract_lets +onlyGivenNames zz
       first
         | (with_reducible refine Kept.cut (P := P) (x := zz) ?_ ?_
            on_goal 2 => clear_value zz
            on_goal 1 => subst zz)
         | (with_reducible refine Kept.cut1 (P := P) (x := zz) ?_ ?_
            on_goal 2 => clear_value zz
            on_goal 1 => subst zz)
         | (have zn : Nat := zz
            clear zn
            subst zz)
         | clear_value zz
         | subst zz)
    | with_reducible refine KeptR.onPower ?_ (fun _ => ?_)
    | with_reducible refine KeptR.next ?_
    | with_reducible exact KeptR.fault _
    | with_reducible apply State.hotJoin_kept
    | with_reducible apply State.putFlag_kept
    | exact kd.mem (by decide)
    | exact kd.mem (pick_mem (by decide) (by decide))
    | exact kd.mono (by decide)
    | split
    | fail_if_no_progress with_reducible apply kk.rest

theorem execPullupCheck_kept {P : State → Prop}  (kd : KeptD P [0x0101]) {sclMissing sdaMissing : Bool} {s : State} (h_s : P s) :
    KeptR P (execPullupCheck sclMissing sdaMissing s) := by
  unfold execPullupCheck
  repeat' first
    | with_reducible assumption
    | with_reducible intro _
    | (extract_lets +onlyGivenNames zz
       first
         | (with_reducible refine Kept.cut (P := P) (x := zz) ?_ ?_
            on_goal 2 => clear_value zz
            on_goal 1 => subst zz)
         | (with_reducible refine Kept.cut1 (P := P) (x := zz) ?_ ?_
            on_goal 2 => clear_value zz
            on_goal 1 => subst zz)
         | (have zn : Nat := zz
            clear zn
            subst zz)
         | clear_value zz
         | subst zz)
    | with_reducible refine KeptR.onPower ?_ (fun _ => ?_)
    | with_reducible refine KeptR.next ?_
    | with_reducible exact KeptR.fault _
    | with_reducible apply State.sidebandFault_kept
    | exact kd.mem (by decide)
    | exact kd.mem (pick_mem (by decide) (by decide))
    | exact kd.mono (by decide)
    | split
    | fail_if_no_progress with_reducible apply kk.rest

end Sys2Proof.Machine
end

