-- ==== Sys2Proof/Laws/KeptLeadIn.lean ====
section
/-! SUPPORT. What every definition of Machine/LeadIn.lean keeps of a state: one lemma each (Laws/Kept.lean). -/

namespace Sys2Proof.Machine

open Sys2Proof

set_option linter.all false

theorem execBridgeLoss_kept {P : State → Prop} (kk : Kept P) (kc : KeptC P) (kg : KeptK P) (kh : KeptH P) (kv : KeptV P) (kd : KeptD P [0x0010, 0x0011, 0x0040, 0x0041, 0x0080, 0x1001, 0x1002, 0x1010, 0x1011, 0x1012, 0x1013, 0x1015, 0x1016, 0x9001, 0xA003, 0xA004, 0xF000]) (kn : KeptN P) {h : HalfId} {s : State} (h_s : P s) :
    KeptR P (execBridgeLoss h s) := by
  unfold execBridgeLoss
  repeat' first
    | with_reducible assumption
    | with_reducible intro _
    | with_reducible refine KeptR.onPower ?_ (fun _ => ?_)
    | with_reducible refine KeptR.next ?_
    | with_reducible exact KeptR.fault _
    | with_reducible apply State.declareFence_kept
    | with_reducible apply State.failStart_kept
    | with_reducible apply State.freeSkip_kept
    | exact kd.mem (by decide)
    | exact kd.mem (pick_mem (by decide) (by decide))
    | exact kd.mono (by decide)
    | exact kn.mem _
    | split
    | fail_if_no_progress with_reducible apply kk.rest

theorem execFenceDrawConfirm_kept {P : State → Prop}  (kh : KeptH P) (kd : KeptD P [0x0041, 0x1011]) {h : HalfId} {s : State} (h_s : P s) :
    KeptR P (execFenceDrawConfirm h s) := by
  unfold execFenceDrawConfirm
  repeat' first
    | with_reducible assumption
    | with_reducible intro _
    | with_reducible refine KeptR.onPower ?_ (fun _ => ?_)
    | with_reducible refine KeptR.next ?_
    | with_reducible exact KeptR.fault _
    | with_reducible apply State.modHalf_kept
    | with_reducible apply State.regrant_kept
    | exact kd.mem (by decide)
    | exact kd.mem (pick_mem (by decide) (by decide))
    | exact kd.mono (by decide)
    | split
    | fail_if_no_progress with_reducible apply kk.rest

theorem execFencePowerRemove_kept {P : State → Prop} (kk : Kept P) (kh : KeptH P) (kd : KeptD P [0x0041, 0x1001, 0x1002, 0x1011, 0x1012, 0x1013, 0x1015, 0x1016]) {h : HalfId} {s : State} (h_s : P s) :
    KeptR P (execFencePowerRemove h s) := by
  unfold execFencePowerRemove
  repeat' first
    | with_reducible assumption
    | with_reducible intro _
    | (extract_lets +onlyGivenNames zz
       first
         | (with_reducible refine Kept.cut (P := P) (x := zz) ?_ ?_
            on_goal 2 => clear_value zz
            on_goal 1 => subst zz)
         | (with_reducible refine Kept.cut1 (P := P) (x := zz) ?_ ?_
            on_goal 2 => clear_value zz
            on_goal 1 => subst zz)
         | (have zn : Nat := zz
            clear zn
            subst zz)
         | clear_value zz
         | subst zz)
    | with_reducible refine KeptR.onPower ?_ (fun _ => ?_)
    | with_reducible refine KeptR.next ?_
    | with_reducible exact KeptR.fault _
    | with_reducible apply State.modHalf_kept
    | with_reducible apply State.railsOff_kept
    | with_reducible apply State.regrant_kept
    | with_reducible apply State.setFence_kept
    | exact kd.mem (by decide)
    | exact kd.mem (pick_mem (by decide) (by decide))
    | exact kd.mono (by decide)
    | split
    | fail_if_no_progress with_reducible apply kk.rest

theorem execClaim_kept {P : State → Prop} (kk : Kept P) (kg : KeptK P) {h : HalfId} {epoch : Nat} {s : State} (h_s : P s) :
    KeptR P (execClaim h epoch s) := by
  unfold execClaim
  repeat' first
    | with_reducible assumption
    | with_reducible intro _
    | with_reducible refine KeptR.onPower ?_ (fun _ => ?_)
    | with_reducible refine KeptR.next ?_
    | with_reducible exact KeptR.fault _
    | with_reducible apply State.claim_kept
    | split
    | fail_if_no_progress with_reducible apply kk.rest

end Sys2Proof.Machine
end

