-- ==== Sys2Proof/Laws/KeptClocks.lean ====
section
/-! SUPPORT. What every definition of Machine/Clocks.lean keeps of a state: one lemma each (Laws/Kept.lean). -/

namespace Sys2Proof.Machine

open Sys2Proof

set_option linter.all false

theorem execOscReady_kept {P : State → Prop} (kk : Kept P) (kd : KeptD P [0x1000]) {s : State} (h_s : P s) :
    KeptR P (execOscReady s) := by
  unfold execOscReady
  repeat' first
    | with_reducible assumption
    | with_reducible intro _
    | with_reducible refine KeptR.onPower ?_ (fun _ => ?_)
    | with_reducible refine KeptR.next ?_
    | with_reducible exact KeptR.fault _
    | with_reducible apply State.putFlag_kept
    | with_reducible apply State.repin_kept
    | exact kd.mem (by decide)
    | exact kd.mem (pick_mem (by decide) (by decide))
    | exact kd.mono (by decide)
    | split
    | fail_if_no_progress with_reducible apply kk.rest

theorem execCrystalReady_kept {P : State → Prop} (kk : Kept P) (kc : KeptC P) (kt : KeptT P) (kg : KeptK P) (kh : KeptH P) (kv : KeptV P) (kb : KeptB P) (kd : KeptD P [0x0041, 0x0080, 0x0100, 0x1000, 0x1001, 0x1002, 0x1005, 0x1010, 0x1011, 0x1012, 0x1013, 0x1015, 0x1016, 0x2010, 0x4001, 0x4003, 0x4010, 0x4012, 0x4021, 0x5020, 0x9001, 0xF000, 0xF002, 0xF003]) {s : State} (h_s : P s) :
    KeptR P (execCrystalReady s) := by
  unfold execCrystalReady
  repeat' first
    | with_reducible assumption
    | with_reducible intro _
    | (extract_lets +onlyGivenNames zz
       first
         | (with_reducible refine Kept.cut (P := P) (x := zz) ?_ ?_
            on_goal 2 => clear_value zz
            on_goal 1 => subst zz)
         | (with_reducible refine Kept.cut1 (P := P) (x := zz) ?_ ?_
            on_goal 2 => clear_value zz
            on_goal 1 => subst zz)
         | (have zn : Nat := zz
            clear zn
            subst zz)
         | clear_value zz
         | subst zz)
    | with_reducible refine KeptR.onPower ?_ (fun _ => ?_)
    | with_reducible refine KeptR.next ?_
    | with_reducible exact KeptR.fault _
    | with_reducible apply State.awaitCrystal_kept
    | with_reducible apply State.put_kept
    | with_reducible apply State.putFlag_kept
    | with_reducible apply State.repin_kept
    | exact kd.mem (by decide)
    | exact kd.mem (pick_mem (by decide) (by decide))
    | exact kd.mono (by decide)
    | split
    | fail_if_no_progress with_reducible apply kk.rest

theorem execCrystalLoss_kept {P : State → Prop} (kk : Kept P) (kd : KeptD P [0x1000, 0x1005, 0x7040, 0xF030]) {s : State} (h_s : P s) :
    KeptR P (execCrystalLoss s) := by
  unfold execCrystalLoss
  repeat' first
    | with_reducible assumption
    | with_reducible intro _
    | (extract_lets +onlyGivenNames zz
       first
         | (with_reducible refine Kept.cut (P := P) (x := zz) ?_ ?_
            on_goal 2 => clear_value zz
            on_goal 1 => subst zz)
         | (with_reducible refine Kept.cut1 (P := P) (x := zz) ?_ ?_
            on_goal 2 => clear_value zz
            on_goal 1 => subst zz)
         | (have zn : Nat := zz
            clear zn
            subst zz)
         | clear_value zz
         | subst zz)
    | with_reducible refine KeptR.onPower ?_ (fun _ => ?_)
    | with_reducible refine KeptR.next ?_
    | with_reducible exact KeptR.fault _
    | with_reducible apply State.bump_kept
    | with_reducible apply State.log_kept
    | with_reducible apply State.put_kept
    | with_reducible apply State.putFlag_kept
    | with_reducible apply State.repin_kept
    | exact kd.mem (by decide)
    | exact kd.mem (pick_mem (by decide) (by decide))
    | exact kd.mono (by decide)
    | split
    | fail_if_no_progress with_reducible apply kk.rest

theorem State.powerHold_kept {P : State → Prop} (kk : Kept P) (kc : KeptC P) (kv : KeptV P) (kn : KeptN P) {s : State} (h_s : P s) :
    P (State.powerHold s) := by
  unfold State.powerHold
  repeat' first
    | with_reducible assumption
    | with_reducible intro _
    | with_reducible apply State.reasonHold_kept
    | exact kn.mem _
    | with_reducible refine Kept.foldl (fun _ _ _ => ?_) ?_
    | with_reducible refine Kept.foldl1 (fun _ _ _ => ?_) ?_
    | split
    | fail_if_no_progress with_reducible apply kk.rest

theorem State.startEntry_kept {P : State → Prop} (kk : Kept P) (kg : KeptK P) (kd : KeptD P [0x1010]) {s : State} {target : Nat} (h_s : P s) :
    P (State.startEntry s target) := by
  unfold State.startEntry
  repeat' first
    | with_reducible assumption
    | with_reducible intro _
    | (extract_lets +onlyGivenNames zz
       first
         | (with_reducible refine Kept.cut (P := P) (x := zz) ?_ ?_
            on_goal 2 => clear_value zz
            on_goal 1 => subst zz)
         | (with_reducible refine Kept.cut1 (P := P) (x := zz) ?_ ?_
            on_goal 2 => clear_value zz
            on_goal 1 => subst zz)
         | (have zn : Nat := zz
            clear zn
            subst zz)
         | clear_value zz
         | subst zz)
    | with_reducible apply State.put_kept
    | exact kd.mem (by decide)
    | exact kd.mem (pick_mem (by decide) (by decide))
    | exact kd.mono (by decide)
    | split
    | fail_if_no_progress with_reducible apply kk.rest
    | fail_if_no_progress (with_reducible apply kg.key; with_reducible apply kk.rest)

theorem State.backOff_kept {P : State → Prop} (kk : Kept P) (km : KeptM P) (kc : KeptC P) (kt : KeptT P) (ks : KeptS P) (kg : KeptK P) (kh : KeptH P) (kv : KeptV P) (kl : KeptL P) (kd : KeptD P [0x0010, 0x0040, 0x0041, 0x1001, 0x1002, 0x1010, 0x1011, 0x1012, 0x1013, 0x1015, 0x1016, 0xA003, 0xA004]) (kq : KeptQ P) {s : State} (h_s : P s) :
    P (State.backOff s) := by
  unfold State.backOff
  repeat' first
    | with_reducible assumption
    | with_reducible intro _
    | (extract_lets +onlyGivenNames zz
       first
         | (with_reducible refine Kept.cut (P := P) (x := zz) ?_ ?_
            on_goal 2 => clear_value zz
            on_goal 1 => subst zz)
         | (with_reducible refine Kept.cut1 (P := P) (x := zz) ?_ ?_
            on_goal 2 => clear_value zz
            on_goal 1 => subst zz)
         | (have zn : Nat := zz
            clear zn
            subst zz)
         | clear_value zz
         | subst zz)
    | with_reducible apply State.halfToKeystoneOnly_kept
    | with_reducible apply State.keystoneOnly_kept
    | exact kd.mem (by decide)
    | exact kd.mem (pick_mem (by decide) (by decide))
    | exact kd.mono (by decide)
    | with_reducible refine Kept.foldl (fun _ _ _ => ?_) ?_
    | with_reducible refine Kept.foldl1 (fun _ _ _ => ?_) ?_
    | split
    | fail_if_no_progress with_reducible apply kk.rest
    | fail_if_no_progress (with_reducible apply kg.key; with_reducible apply kk.rest)

theorem execHoldoverExpire_kept {P : State → Prop} (kk : Kept P) (km : KeptM P) (kc : KeptC P) (kt : KeptT P) (ks : KeptS P) (kg : KeptK P) (kh : KeptH P) (kv : KeptV P) (kl : KeptL P) (kd : KeptD P [0x0010, 0x0040, 0x0041, 0x1000, 0x1001, 0x1002, 0x1010, 0x1011, 0x1012, 0x1013, 0x1015, 0x1016, 0xA003, 0xA004]) (kn : KeptN P) (kq : KeptQ P) {s : State} (h_s : P s) :
    KeptR P (execHoldoverExpire s) := by
  unfold execHoldoverExpire
  repeat' first
    | with_reducible assumption
    | with_reducible intro _
    | (extract_lets +onlyGivenNames zz
       first
         | (with_reducible refine Kept.cut (P := P) (x := zz) ?_ ?_
            on_goal 2 => clear_value zz
            on_goal 1 => subst zz)
         | (with_reducible refine Kept.cut1 (P := P) (x := zz) ?_ ?_
            on_goal 2 => clear_value zz
            on_goal 1 => subst zz)
         | (have zn : Nat := zz
            clear zn
            subst zz)
         | clear_value zz
         | subst zz)
    | with_reducible refine KeptR.onPower ?_ (fun _ => ?_)
    | with_reducible refine KeptR.next ?_
    | with_reducible exact KeptR.fault _
    | with_reducible apply State.backOff_kept
    | with_reducible apply State.overtake_kept
    | with_reducible apply State.powerHold_kept
    | with_reducible apply State.put_kept
    | with_reducible apply State.startEntry_kept
    | exact kd.mem (by decide)
    | exact kd.mem (pick_mem (by decide) (by decide))
    | exact kd.mono (by decide)
    | exact kn.mem _
    | split
    | fail_if_no_progress with_reducible apply kk.rest

theorem execPaceMonitorRefresh_kept {P : State → Prop}  (kd : KeptD P [0x1006, 0x1014]) {h : HalfId} {course factor mv : Nat} {celsius : Int} {s : State} (h_s : P s) :
    KeptR P (execPaceMonitorRefresh h course factor mv celsius s) := by
  unfold execPaceMonitorRefresh
  repeat' first
    | with_reducible assumption
    | with_reducible intro _
    | (extract_lets +onlyGivenNames zz
       first
         | (with_reducible refine Kept.cut (P := P) (x := zz) ?_ ?_
            on_goal 2 => clear_value zz
            on_goal 1 => subst zz)
         | (with_reducible refine Kept.cut1 (P := P) (x := zz) ?_ ?_
            on_goal 2 => clear_value zz
            on_goal 1 => subst zz)
         | (have zn : Nat := zz
            clear zn
            subst zz)
         | clear_value zz
         | subst zz)
    | with_reducible refine KeptR.onPower ?_ (fun _ => ?_)
    | with_reducible refine KeptR.next ?_
    | with_reducible exact KeptR.fault _
    | with_reducible apply State.noteJunction_kept
    | with_reducible apply State.putAt_kept
    | exact kd.mem (by decide)
    | exact kd.mem (pick_mem (by decide) (by decide))
    | exact kd.mono (by decide)
    | split
    | fail_if_no_progress with_reducible apply kk.rest

theorem execPaceShortfall_kept {P : State → Prop} (kk : Kept P) (kd : KeptD P [0x1006, 0x7000, 0x7001, 0x7040, 0xF030]) {h : HalfId} {course : Nat} {s : State} (h_s : P s) :
    KeptR P (execPaceShortfall h course s) := by
  unfold execPaceShortfall
  repeat' first
    | with_reducible assumption
    | with_reducible intro _
    | (extract_lets +onlyGivenNames zz
       first
         | (with_reducible refine Kept.cut (P := P) (x := zz) ?_ ?_
            on_goal 2 => clear_value zz
            on_goal 1 => subst zz)
         | (with_reducible refine Kept.cut1 (P := P) (x := zz) ?_ ?_
            on_goal 2 => clear_value zz
            on_goal 1 => subst zz)
         | (have zn : Nat := zz
            clear zn
            subst zz)
         | clear_value zz
         | subst zz)
    | with_reducible refine KeptR.onPower ?_ (fun _ => ?_)
    | with_reducible refine KeptR.next ?_
    | with_reducible exact KeptR.fault _
    | with_reducible apply State.bump_kept
    | with_reducible apply State.log_kept
    | with_reducible apply State.riskEvent_kept
    | exact kd.mem (by decide)
    | exact kd.mem (pick_mem (by decide) (by decide))
    | exact kd.mono (by decide)
    | split
    | fail_if_no_progress with_reducible apply kk.rest

theorem execBlockReady_kept {P : State → Prop} (kk : Kept P) (kd : KeptD P [0x1002, 0x6003]) {sub bit : Nat} {s : State} (h_s : P s) :
    KeptR P (execBlockReady sub bit s) := by
  unfold execBlockReady
  repeat' first
    | with_reducible assumption
    | with_reducible intro _
    | (extract_lets +onlyGivenNames zz
       first
         | (with_reducible refine Kept.cut (P := P) (x := zz) ?_ ?_
            on_goal 2 => clear_value zz
            on_goal 1 => subst zz)
         | (with_reducible refine Kept.cut1 (P := P) (x := zz) ?_ ?_
            on_goal 2 => clear_value zz
            on_goal 1 => subst zz)
         | (have zn : Nat := zz
            clear zn
            subst zz)
         | clear_value zz
         | subst zz)
    | with_reducible refine KeptR.onPower ?_ (fun _ => ?_)
    | with_reducible refine KeptR.next ?_
    | with_reducible exact KeptR.fault _
    | with_reducible apply State.hotJoin_kept
    | with_reducible apply State.putAt_kept
    | with_reducible apply State.putFlag_kept
    | with_reducible apply State.repin_kept
    | exact kd.mem (by decide)
    | exact kd.mem (pick_mem (by decide) (by decide))
    | exact kd.mono (by decide)
    | split
    | fail_if_no_progress with_reducible apply kk.rest

end Sys2Proof.Machine
end

