-- ==== Sys2Proof/Laws/KeptPower.lean ====
section
/-! SUPPORT. What every definition of Machine/Power.lean keeps of a state: one lemma each (Laws/Kept.lean). -/

namespace Sys2Proof.Machine

open Sys2Proof

set_option linter.all false

theorem execQuiescence_kept {P : State → Prop} (kk : Kept P) (kt : KeptT P) (kg : KeptK P) {s : State} (h_s : P s) :
    KeptR P (execQuiescence s) := by
  unfold execQuiescence
  repeat' first
    | with_reducible assumption
    | with_reducible intro _
    | with_reducible refine KeptR.onPower ?_ (fun _ => ?_)
    | with_reducible refine KeptR.next ?_
    | with_reducible exact KeptR.fault _
    | split
    | fail_if_no_progress with_reducible apply kk.rest
    | fail_if_no_progress (with_reducible apply kt.tiles; with_reducible apply kk.rest)
    | fail_if_no_progress (with_reducible apply kg.key; with_reducible apply kk.rest)
    | fail_if_no_progress (with_reducible apply kt.tiles; with_reducible apply kg.key; with_reducible apply kk.rest)

theorem State.toActive_kept {P : State → Prop}  (kd : KeptD P [0x1010]) (kn : KeptN P) {s : State} {since : Nat} (h_s : P s) :
    P (State.toActive s since) := by
  unfold State.toActive
  repeat' first
    | with_reducible assumption
    | with_reducible intro _
    | (extract_lets +onlyGivenNames zz
       first
         | (with_reducible refine Kept.cut (P := P) (x := zz) ?_ ?_
            on_goal 2 => clear_value zz
            on_goal 1 => subst zz)
         | (with_reducible refine Kept.cut1 (P := P) (x := zz) ?_ ?_
            on_goal 2 => clear_value zz
            on_goal 1 => subst zz)
         | (have zn : Nat := zz
            clear zn
            subst zz)
         | clear_value zz
         | subst zz)
    | with_reducible apply State.clearReason_kept
    | with_reducible apply State.put_kept
    | exact kd.mem (by decide)
    | exact kd.mem (pick_mem (by decide) (by decide))
    | exact kd.mono (by decide)
    | exact kn.mem _
    | with_reducible refine Kept.foldl (fun _ _ _ => ?_) ?_
    | with_reducible refine Kept.foldl1 (fun _ _ _ => ?_) ?_
    | split
    | fail_if_no_progress with_reducible apply kk.rest

theorem State.startExit_kept {P : State → Prop} (kk : Kept P) (kg : KeptK P) (kd : KeptD P [0x1010]) {s : State} (h_s : P s) :
    P (State.startExit s) := by
  unfold State.startExit
  repeat' first
    | with_reducible assumption
    | with_reducible intro _
    | (extract_lets +onlyGivenNames zz
       first
         | (with_reducible refine Kept.cut (P := P) (x := zz) ?_ ?_
            on_goal 2 => clear_value zz
            on_goal 1 => subst zz)
         | (with_reducible refine Kept.cut1 (P := P) (x := zz) ?_ ?_
            on_goal 2 => clear_value zz
            on_goal 1 => subst zz)
         | (have zn : Nat := zz
            clear zn
            subst zz)
         | clear_value zz
         | subst zz)
    | with_reducible apply State.put_kept
    | exact kd.mem (by decide)
    | exact kd.mem (pick_mem (by decide) (by decide))
    | exact kd.mono (by decide)
    | split
    | fail_if_no_progress with_reducible apply kk.rest
    | fail_if_no_progress (with_reducible apply kg.key; with_reducible apply kk.rest)

theorem State.stopSpokes_kept {P : State → Prop}  (kd : KeptD P [0x6003]) {s : State} {h : HalfId} (h_s : P s) :
    P (State.stopSpokes s h) := by
  unfold State.stopSpokes
  repeat' first
    | with_reducible assumption
    | with_reducible intro _
    | (extract_lets +onlyGivenNames zz
       first
         | (with_reducible refine Kept.cut (P := P) (x := zz) ?_ ?_
            on_goal 2 => clear_value zz
            on_goal 1 => subst zz)
         | (with_reducible refine Kept.cut1 (P := P) (x := zz) ?_ ?_
            on_goal 2 => clear_value zz
            on_goal 1 => subst zz)
         | (have zn : Nat := zz
            clear zn
            subst zz)
         | clear_value zz
         | subst zz)
    | with_reducible apply State.putAt_kept
    | exact kd.mem (by decide)
    | exact kd.mem (pick_mem (by decide) (by decide))
    | exact kd.mono (by decide)
    | with_reducible refine Kept.foldl (fun _ _ _ => ?_) ?_
    | with_reducible refine Kept.foldl1 (fun _ _ _ => ?_) ?_
    | split
    | fail_if_no_progress with_reducible apply kk.rest

theorem State.reachState_kept {P : State → Prop} (kk : Kept P) (km : KeptM P) (kc : KeptC P) (kt : KeptT P) (ks : KeptS P) (kg : KeptK P) (kh : KeptH P) (kv : KeptV P) (kl : KeptL P) (kd : KeptD P [0x0010, 0x0040, 0x0041, 0x1001, 0x1002, 0x1010, 0x1011, 0x1012, 0x1013, 0x1015, 0x1016, 0x6003, 0xA003, 0xA004]) (kn : KeptN P) (kq : KeptQ P) {s : State} {t : Transition} (h_s : P s) :
    P (State.reachState s t) := by
  unfold State.reachState
  repeat' first
    | with_reducible assumption
    | with_reducible intro _
    | (extract_lets +onlyGivenNames zz
       first
         | (with_reducible refine Kept.cut (P := P) (x := zz) ?_ ?_
            on_goal 2 => clear_value zz
            on_goal 1 => subst zz)
         | (with_reducible refine Kept.cut1 (P := P) (x := zz) ?_ ?_
            on_goal 2 => clear_value zz
            on_goal 1 => subst zz)
         | (have zn : Nat := zz
            clear zn
            subst zz)
         | clear_value zz
         | subst zz)
    | with_reducible apply State.bump_kept
    | with_reducible apply State.commandedOff_kept
    | with_reducible apply State.endPending_kept
    | with_reducible apply State.put_kept
    | with_reducible apply State.startExit_kept
    | with_reducible apply State.stopSpokes_kept
    | with_reducible apply State.toActive_kept
    | exact kd.mem (by decide)
    | exact kd.mem (pick_mem (by decide) (by decide))
    | exact kd.mono (by decide)
    | exact kn.mem _
    | with_reducible refine Kept.foldl (fun _ _ _ => ?_) ?_
    | with_reducible refine Kept.foldl1 (fun _ _ _ => ?_) ?_
    | split
    | fail_if_no_progress with_reducible apply kk.rest
    | fail_if_no_progress (with_reducible apply kg.key; with_reducible apply kk.rest)

theorem execPowerStateReached_kept {P : State → Prop} (kk : Kept P) (km : KeptM P) (kc : KeptC P) (kt : KeptT P) (ks : KeptS P) (kg : KeptK P) (kh : KeptH P) (kv : KeptV P) (kl : KeptL P) (kd : KeptD P [0x0010, 0x0040, 0x0041, 0x1001, 0x1002, 0x1010, 0x1011, 0x1012, 0x1013, 0x1015, 0x1016, 0x6003, 0xA003, 0xA004]) (kn : KeptN P) (kq : KeptQ P) {s : State} (h_s : P s) :
    KeptR P (execPowerStateReached s) := by
  unfold execPowerStateReached
  repeat' first
    | with_reducible assumption
    | with_reducible intro _
    | (extract_lets +onlyGivenNames zz
       first
         | (with_reducible refine Kept.cut (P := P) (x := zz) ?_ ?_
            on_goal 2 => clear_value zz
            on_goal 1 => subst zz)
         | (with_reducible refine Kept.cut1 (P := P) (x := zz) ?_ ?_
            on_goal 2 => clear_value zz
            on_goal 1 => subst zz)
         | (have zn : Nat := zz
            clear zn
            subst zz)
         | clear_value zz
         | subst zz)
    | with_reducible refine KeptR.onPower ?_ (fun _ => ?_)
    | with_reducible refine KeptR.next ?_
    | with_reducible exact KeptR.fault _
    | with_reducible apply State.endPending_kept
    | with_reducible apply State.put_kept
    | with_reducible apply State.reachState_kept
    | exact kd.mem (by decide)
    | exact kd.mem (pick_mem (by decide) (by decide))
    | exact kd.mono (by decide)
    | exact kn.mem _
    | split
    | fail_if_no_progress with_reducible apply kk.rest
    | fail_if_no_progress (with_reducible apply kg.key; with_reducible apply kk.rest)

theorem State.wakeEvent_kept {P : State → Prop} (kk : Kept P) (kg : KeptK P) (kd : KeptD P [0x1010]) {s : State} (h_s : P s) :
    P (State.wakeEvent s) := by
  unfold State.wakeEvent
  repeat' first
    | with_reducible assumption
    | with_reducible intro _
    | (extract_lets +onlyGivenNames zz
       first
         | (with_reducible refine Kept.cut (P := P) (x := zz) ?_ ?_
            on_goal 2 => clear_value zz
            on_goal 1 => subst zz)
         | (with_reducible refine Kept.cut1 (P := P) (x := zz) ?_ ?_
            on_goal 2 => clear_value zz
            on_goal 1 => subst zz)
         | (have zn : Nat := zz
            clear zn
            subst zz)
         | clear_value zz
         | subst zz)
    | with_reducible apply State.bump_kept
    | with_reducible apply State.startExit_kept
    | exact kd.mem (by decide)
    | exact kd.mem (pick_mem (by decide) (by decide))
    | exact kd.mono (by decide)
    | split
    | fail_if_no_progress with_reducible apply kk.rest
    | fail_if_no_progress (with_reducible apply kg.key; with_reducible apply kk.rest)

theorem execWake_kept {P : State → Prop} (kk : Kept P) (kg : KeptK P) (kd : KeptD P [0x1010]) {s : State} (h_s : P s) :
    KeptR P (execWake s) := by
  unfold execWake
  repeat' first
    | with_reducible assumption
    | with_reducible intro _
    | with_reducible refine KeptR.onPower ?_ (fun _ => ?_)
    | with_reducible refine KeptR.next ?_
    | with_reducible exact KeptR.fault _
    | with_reducible apply State.wakeEvent_kept
    | exact kd.mem (by decide)
    | exact kd.mem (pick_mem (by decide) (by decide))
    | exact kd.mono (by decide)
    | split
    | fail_if_no_progress with_reducible apply kk.rest

theorem State.wakeNow_kept {P : State → Prop}  (kd : KeptD P [0x1010]) (kn : KeptN P) {s : State} (h_s : P s) :
    P (State.wakeNow s) := by
  unfold State.wakeNow
  repeat' first
    | with_reducible assumption
    | with_reducible intro _
    | with_reducible apply State.toActive_kept
    | exact kd.mem (by decide)
    | exact kd.mem (pick_mem (by decide) (by decide))
    | exact kd.mono (by decide)
    | exact kn.mem _
    | split
    | fail_if_no_progress with_reducible apply kk.rest

theorem State.finishTrans_kept {P : State → Prop} (kk : Kept P) (km : KeptM P) (kc : KeptC P) (kt : KeptT P) (ks : KeptS P) (kg : KeptK P) (kh : KeptH P) (kv : KeptV P) (kl : KeptL P) (kd : KeptD P [0x0010, 0x0040, 0x0041, 0x1001, 0x1002, 0x1010, 0x1011, 0x1012, 0x1013, 0x1015, 0x1016, 0x6003, 0xA003, 0xA004]) (kn : KeptN P) (kq : KeptQ P) {s : State} (h_s : P s) :
    P (State.finishTrans s) := by
  unfold State.finishTrans
  repeat' first
    | with_reducible assumption
    | with_reducible intro _
    | with_reducible apply State.reachState_kept
    | exact kd.mem (by decide)
    | exact kd.mem (pick_mem (by decide) (by decide))
    | exact kd.mono (by decide)
    | exact kn.mem _
    | split
    | fail_if_no_progress with_reducible apply kk.rest

theorem State.wakeForRun_kept {P : State → Prop} (kk : Kept P) (km : KeptM P) (kc : KeptC P) (kt : KeptT P) (ks : KeptS P) (kg : KeptK P) (kh : KeptH P) (kv : KeptV P) (kl : KeptL P) (kd : KeptD P [0x0010, 0x0040, 0x0041, 0x1001, 0x1002, 0x1010, 0x1011, 0x1012, 0x1013, 0x1015, 0x1016, 0x6003, 0xA003, 0xA004]) (kn : KeptN P) (kq : KeptQ P) {s : State} (h_s : P s) :
    P (State.wakeForRun s) := by
  unfold State.wakeForRun
  repeat' first
    | with_reducible assumption
    | with_reducible intro _
    | with_reducible apply State.finishTrans_kept
    | with_reducible apply State.wakeEvent_kept
    | with_reducible apply State.wakeNow_kept
    | exact kd.mem (by decide)
    | exact kd.mem (pick_mem (by decide) (by decide))
    | exact kd.mono (by decide)
    | exact kn.mem _
    | split
    | fail_if_no_progress with_reducible apply kk.rest

theorem execPowerGovern_kept {P : State → Prop}  (kh : KeptH P) (kd : KeptD P [0x0041, 0x1011, 0x1012, 0x1013, 0x1015, 0x1016]) {h : HalfId} {drawMw : Nat} {below10ms : Bool} {s : State} (h_s : P s) :
    KeptR P (execPowerGovern h drawMw below10ms s) := by
  unfold execPowerGovern
  repeat' first
    | with_reducible assumption
    | with_reducible intro _
    | (extract_lets +onlyGivenNames zz
       first
         | (with_reducible refine Kept.cut (P := P) (x := zz) ?_ ?_
            on_goal 2 => clear_value zz
            on_goal 1 => subst zz)
         | (with_reducible refine Kept.cut1 (P := P) (x := zz) ?_ ?_
            on_goal 2 => clear_value zz
            on_goal 1 => subst zz)
         | (have zn : Nat := zz
            clear zn
            subst zz)
         | clear_value zz
         | subst zz)
    | with_reducible refine KeptR.onPower ?_ (fun _ => ?_)
    | with_reducible refine KeptR.next ?_
    | with_reducible exact KeptR.fault _
    | with_reducible apply State.modHalf_kept
    | with_reducible apply State.put_kept
    | with_reducible apply State.regrant_kept
    | with_reducible apply State.throttle_kept
    | exact kd.mem (by decide)
    | exact kd.mem (pick_mem (by decide) (by decide))
    | exact kd.mono (by decide)
    | split
    | fail_if_no_progress with_reducible apply kk.rest

theorem execPowerFastClamp_kept {P : State → Prop}  (kh : KeptH P) (kd : KeptD P [0x1012, 0x1013, 0x1015, 0x1016]) {h : HalfId} {s : State} (h_s : P s) :
    KeptR P (execPowerFastClamp h s) := by
  unfold execPowerFastClamp
  repeat' first
    | with_reducible assumption
    | with_reducible intro _
    | with_reducible refine KeptR.onPower ?_ (fun _ => ?_)
    | with_reducible refine KeptR.next ?_
    | with_reducible exact KeptR.fault _
    | with_reducible apply State.modHalf_kept
    | with_reducible apply State.throttle_kept
    | exact kd.mem (by decide)
    | exact kd.mem (pick_mem (by decide) (by decide))
    | exact kd.mono (by decide)
    | split
    | fail_if_no_progress with_reducible apply kk.rest

theorem execDroopDetect_kept {P : State → Prop}  (kh : KeptH P) (kd : KeptD P [0x1012, 0x1013, 0x1015, 0x1016, 0x7000, 0x7001]) {h : HalfId} {course : Nat} {s : State} (h_s : P s) :
    KeptR P (execDroopDetect h course s) := by
  unfold execDroopDetect
  repeat' first
    | with_reducible assumption
    | with_reducible intro _
    | (extract_lets +onlyGivenNames zz
       first
         | (with_reducible refine Kept.cut (P := P) (x := zz) ?_ ?_
            on_goal 2 => clear_value zz
            on_goal 1 => subst zz)
         | (with_reducible refine Kept.cut1 (P := P) (x := zz) ?_ ?_
            on_goal 2 => clear_value zz
            on_goal 1 => subst zz)
         | (have zn : Nat := zz
            clear zn
            subst zz)
         | clear_value zz
         | subst zz)
    | with_reducible refine KeptR.onPower ?_ (fun _ => ?_)
    | with_reducible refine KeptR.next ?_
    | with_reducible exact KeptR.fault _
    | with_reducible apply State.bump_kept
    | with_reducible apply State.modHalf_kept
    | with_reducible apply State.riskEvent_kept
    | with_reducible apply State.throttle_kept
    | exact kd.mem (by decide)
    | exact kd.mem (pick_mem (by decide) (by decide))
    | exact kd.mono (by decide)
    | split
    | fail_if_no_progress with_reducible apply kk.rest

theorem execDroopRecover_kept {P : State → Prop}  (kh : KeptH P) (kd : KeptD P [0x1012, 0x1013, 0x1015, 0x1016]) {h : HalfId} {course : Nat} {s : State} (h_s : P s) :
    KeptR P (execDroopRecover h course s) := by
  unfold execDroopRecover
  repeat' first
    | with_reducible assumption
    | with_reducible intro _
    | with_reducible refine KeptR.onPower ?_ (fun _ => ?_)
    | with_reducible refine KeptR.next ?_
    | with_reducible exact KeptR.fault _
    | with_reducible apply State.modHalf_kept
    | with_reducible apply State.throttle_kept
    | exact kd.mem (by decide)
    | exact kd.mem (pick_mem (by decide) (by decide))
    | exact kd.mono (by decide)
    | split
    | fail_if_no_progress with_reducible apply kk.rest

theorem execThermalThrottle_kept {P : State → Prop}  (kh : KeptH P) (kd : KeptD P [0x1012, 0x1013, 0x1014, 0x1015, 0x1016, 0x7000, 0x7001]) {h : HalfId} {celsius : Int} {s : State} (h_s : P s) :
    KeptR P (execThermalThrottle h celsius s) := by
  unfold execThermalThrottle
  repeat' first
    | with_reducible assumption
    | with_reducible intro _
    | (extract_lets +onlyGivenNames zz
       first
         | (with_reducible refine Kept.cut (P := P) (x := zz) ?_ ?_
            on_goal 2 => clear_value zz
            on_goal 1 => subst zz)
         | (with_reducible refine Kept.cut1 (P := P) (x := zz) ?_ ?_
            on_goal 2 => clear_value zz
            on_goal 1 => subst zz)
         | (have zn : Nat := zz
            clear zn
            subst zz)
         | clear_value zz
         | subst zz)
    | with_reducible refine KeptR.onPower ?_ (fun _ => ?_)
    | with_reducible refine KeptR.next ?_
    | with_reducible exact KeptR.fault _
    | with_reducible apply State.bump_kept
    | with_reducible apply State.modHalf_kept
    | with_reducible apply State.noteJunction_kept
    | with_reducible apply State.riskEvent_kept
    | with_reducible apply State.throttle_kept
    | exact kd.mem (by decide)
    | exact kd.mem (pick_mem (by decide) (by decide))
    | exact kd.mono (by decide)
    | split
    | fail_if_no_progress with_reducible apply kk.rest

theorem execThermalRecover_kept {P : State → Prop}  (kh : KeptH P) (kd : KeptD P [0x1012, 0x1013, 0x1014, 0x1015, 0x1016]) {h : HalfId} {celsius : Int} {s : State} (h_s : P s) :
    KeptR P (execThermalRecover h celsius s) := by
  unfold execThermalRecover
  repeat' first
    | with_reducible assumption
    | with_reducible intro _
    | (extract_lets +onlyGivenNames zz
       first
         | (with_reducible refine Kept.cut (P := P) (x := zz) ?_ ?_
            on_goal 2 => clear_value zz
            on_goal 1 => subst zz)
         | (with_reducible refine Kept.cut1 (P := P) (x := zz) ?_ ?_
            on_goal 2 => clear_value zz
            on_goal 1 => subst zz)
         | (have zn : Nat := zz
            clear zn
            subst zz)
         | clear_value zz
         | subst zz)
    | with_reducible refine KeptR.onPower ?_ (fun _ => ?_)
    | with_reducible refine KeptR.next ?_
    | with_reducible exact KeptR.fault _
    | with_reducible apply State.modHalf_kept
    | with_reducible apply State.noteJunction_kept
    | with_reducible apply State.throttle_kept
    | exact kd.mem (by decide)
    | exact kd.mem (pick_mem (by decide) (by decide))
    | exact kd.mono (by decide)
    | split
    | fail_if_no_progress with_reducible apply kk.rest

theorem execThermalCrawl_kept {P : State → Prop}  (kh : KeptH P) (kd : KeptD P [0x1012, 0x1013, 0x1014, 0x1015, 0x1016]) {h : HalfId} {celsius : Int} {s : State} (h_s : P s) :
    KeptR P (execThermalCrawl h celsius s) := by
  unfold execThermalCrawl
  repeat' first
    | with_reducible assumption
    | with_reducible intro _
    | with_reducible refine KeptR.onPower ?_ (fun _ => ?_)
    | with_reducible refine KeptR.next ?_
    | with_reducible exact KeptR.fault _
    | with_reducible apply State.modHalf_kept
    | with_reducible apply State.noteJunction_kept
    | with_reducible apply State.throttle_kept
    | exact kd.mem (by decide)
    | exact kd.mem (pick_mem (by decide) (by decide))
    | exact kd.mono (by decide)
    | split
    | fail_if_no_progress with_reducible apply kk.rest

theorem execThermalCrawlEnd_kept {P : State → Prop}  (kh : KeptH P) (kd : KeptD P [0x1012, 0x1013, 0x1014, 0x1015, 0x1016]) {h : HalfId} {celsius : Int} {s : State} (h_s : P s) :
    KeptR P (execThermalCrawlEnd h celsius s) := by
  unfold execThermalCrawlEnd
  repeat' first
    | with_reducible assumption
    | with_reducible intro _
    | with_reducible refine KeptR.onPower ?_ (fun _ => ?_)
    | with_reducible refine KeptR.next ?_
    | with_reducible exact KeptR.fault _
    | with_reducible apply State.modHalf_kept
    | with_reducible apply State.noteJunction_kept
    | with_reducible apply State.throttle_kept
    | exact kd.mem (by decide)
    | exact kd.mem (pick_mem (by decide) (by decide))
    | exact kd.mono (by decide)
    | split
    | fail_if_no_progress with_reducible apply kk.rest

theorem State.tripOvertakes_kept {P : State → Prop} (kk : Kept P) (km : KeptM P) (kc : KeptC P) (kt : KeptT P) (ks : KeptS P) (kg : KeptK P) (kh : KeptH P) (kv : KeptV P) (kl : KeptL P) (kd : KeptD P [0x0010, 0x0040, 0x0041, 0x1001, 0x1002, 0x1010, 0x1011, 0x1012, 0x1013, 0x1015, 0x1016, 0x6003, 0xA003, 0xA004]) (kn : KeptN P) (kq : KeptQ P) {s : State} (h_s : P s) :
    P (State.tripOvertakes s) := by
  unfold State.tripOvertakes
  repeat' first
    | with_reducible assumption
    | with_reducible intro _
    | (extract_lets +onlyGivenNames zz
       first
         | (with_reducible refine Kept.cut (P := P) (x := zz) ?_ ?_
            on_goal 2 => clear_value zz
            on_goal 1 => subst zz)
         | (with_reducible refine Kept.cut1 (P := P) (x := zz) ?_ ?_
            on_goal 2 => clear_value zz
            on_goal 1 => subst zz)
         | (have zn : Nat := zz
            clear zn
            subst zz)
         | clear_value zz
         | subst zz)
    | with_reducible apply State.endPending_kept
    | with_reducible apply State.put_kept
    | with_reducible apply State.reachState_kept
    | with_reducible apply State.toActive_kept
    | exact kd.mem (by decide)
    | exact kd.mem (pick_mem (by decide) (by decide))
    | exact kd.mono (by decide)
    | exact kn.mem _
    | split
    | fail_if_no_progress with_reducible apply kk.rest
    | fail_if_no_progress (with_reducible apply kg.key; with_reducible apply kk.rest)

theorem State.dropStart_kept {P : State → Prop} (kk : Kept P) (kg : KeptK P) (kv : KeptV P) {s : State} {h : HalfId} (h_s : P s) :
    P (State.dropStart s h) := by
  unfold State.dropStart
  repeat' first
    | with_reducible assumption
    | with_reducible intro _
    | (extract_lets +onlyGivenNames zz
       first
         | (with_reducible refine Kept.cut (P := P) (x := zz) ?_ ?_
            on_goal 2 => clear_value zz
            on_goal 1 => subst zz)
         | (with_reducible refine Kept.cut1 (P := P) (x := zz) ?_ ?_
            on_goal 2 => clear_value zz
            on_goal 1 => subst zz)
         | (have zn : Nat := zz
            clear zn
            subst zz)
         | clear_value zz
         | subst zz)
    | with_reducible apply State.endPending_kept
    | split
    | fail_if_no_progress with_reducible apply kk.rest
    | fail_if_no_progress (with_reducible apply kg.key; with_reducible apply kk.rest)

theorem execThermalTrip_kept {P : State → Prop} (kk : Kept P) (km : KeptM P) (kc : KeptC P) (kt : KeptT P) (ks : KeptS P) (kg : KeptK P) (kh : KeptH P) (kv : KeptV P) (kl : KeptL P) (kd : KeptD P [0x0010, 0x0040, 0x0041, 0x1001, 0x1002, 0x1010, 0x1011, 0x1012, 0x1013, 0x1014, 0x1015, 0x1016, 0x6003, 0x7040, 0xA003, 0xA004, 0xF030]) (kn : KeptN P) (kq : KeptQ P) {h : HalfId} {celsius : Int} {s : State} (h_s : P s) :
    KeptR P (execThermalTrip h celsius s) := by
  unfold execThermalTrip
  repeat' first
    | with_reducible assumption
    | with_reducible intro _
    | (extract_lets +onlyGivenNames zz
       first
         | (with_reducible refine Kept.cut (P := P) (x := zz) ?_ ?_
            on_goal 2 => clear_value zz
            on_goal 1 => subst zz)
         | (with_reducible refine Kept.cut1 (P := P) (x := zz) ?_ ?_
            on_goal 2 => clear_value zz
            on_goal 1 => subst zz)
         | (have zn : Nat := zz
            clear zn
            subst zz)
         | clear_value zz
         | subst zz)
    | with_reducible refine KeptR.onPower ?_ (fun _ => ?_)
    | with_reducible refine KeptR.next ?_
    | with_reducible exact KeptR.fault _
    | with_reducible apply State.bump_kept
    | with_reducible apply State.dropHalf_kept
    | with_reducible apply State.dropStart_kept
    | with_reducible apply State.leadFallback_kept
    | with_reducible apply State.log_kept
    | with_reducible apply State.modHalf_kept
    | with_reducible apply State.noteJunction_kept
    | with_reducible apply State.railsOff_kept
    | with_reducible apply State.regrant_kept
    | with_reducible apply State.setFence_kept
    | with_reducible apply State.tripOvertakes_kept
    | exact kd.mem (by decide)
    | exact kd.mem (pick_mem (by decide) (by decide))
    | exact kd.mono (by decide)
    | exact kn.mem _
    | split
    | fail_if_no_progress with_reducible apply kk.rest

theorem execEnergyReconcile_kept {P : State → Prop} (kk : Kept P) (kc : KeptC P) (kd : KeptD P [0x1017]) (kn : KeptN P) {h : HalfId} {measured overheadEstimate moduleEnergy : Nat} {traffic : List (Nat × Nat × Nat)} {s : State} (h_s : P s) :
    KeptR P (execEnergyReconcile h measured overheadEstimate moduleEnergy traffic s) := by
  unfold execEnergyReconcile
  repeat' first
    | with_reducible assumption
    | with_reducible intro _
    | (extract_lets +onlyGivenNames zz
       first
         | (with_reducible refine Kept.cut (P := P) (x := zz) ?_ ?_
            on_goal 2 => clear_value zz
            on_goal 1 => subst zz)
         | (with_reducible refine Kept.cut1 (P := P) (x := zz) ?_ ?_
            on_goal 2 => clear_value zz
            on_goal 1 => subst zz)
         | (have zn : Nat := zz
            clear zn
            subst zz)
         | clear_value zz
         | subst zz)
    | with_reducible refine KeptR.onPower ?_ (fun _ => ?_)
    | with_reducible refine KeptR.next ?_
    | with_reducible exact KeptR.fault _
    | with_reducible apply State.add64_kept
    | with_reducible apply State.modCtx_kept
    | exact kd.mem (by decide)
    | exact kd.mem (pick_mem (by decide) (by decide))
    | exact kd.mono (by decide)
    | exact kn.mem _
    | with_reducible refine Kept.foldl (fun _ _ _ => ?_) ?_
    | with_reducible refine Kept.foldl1 (fun _ _ _ => ?_) ?_
    | split
    | fail_if_no_progress with_reducible apply kk.rest

end Sys2Proof.Machine
end

