-- ==== Sys2Proof/Laws/KeptNumerics.lean ====
section
/-! SUPPORT. What every definition of Machine/Numerics.lean keeps of a state: one lemma each (Laws/Kept.lean). -/

namespace Sys2Proof.Machine

open Sys2Proof

set_option linter.all false

theorem State.countConv_kept {P : State → Prop}  (kd : KeptD P [0x3020, 0x3021]) {s : State} {h : HalfId} {old new : Tensor} {l : List Nat} {drawn : Nat} (h_s : P s) :
    P (State.countConv s h old new l drawn) := by
  unfold State.countConv
  repeat' first
    | with_reducible assumption
    | with_reducible intro _
    | (extract_lets +onlyGivenNames zz
       first
         | (with_reducible refine Kept.cut (P := P) (x := zz) ?_ ?_
            on_goal 2 => clear_value zz
            on_goal 1 => subst zz)
         | (with_reducible refine Kept.cut1 (P := P) (x := zz) ?_ ?_
            on_goal 2 => clear_value zz
            on_goal 1 => subst zz)
         | (have zn : Nat := zz
            clear zn
            subst zz)
         | clear_value zz
         | subst zz)
    | with_reducible apply State.add64_kept
    | exact kd.mem (by decide)
    | exact kd.mem (pick_mem (by decide) (by decide))
    | exact kd.mono (by decide)
    | split
    | fail_if_no_progress with_reducible apply kk.rest

theorem State.putHbm_kept {P : State → Prop}  (km : KeptM P) {s : State} {h : HalfId} {a bytes v : Nat} (h_s : P s) :
    P (State.putHbm s h a bytes v) := by
  unfold State.putHbm
  repeat' first
    | with_reducible assumption
    | with_reducible intro _
    | with_reducible apply State.hbmWrite_kept
    | split
    | fail_if_no_progress with_reducible apply kk.rest

theorem State.recordTensor_kept {P : State → Prop}  (km : KeptM P) (kd : KeptD P [0x3010]) {s : State} {h : HalfId} {n : Nat} {t : Tensor} {init : Word} {step : Nat} (h_s : P s) :
    P (State.recordTensor s h n t init step) := by
  unfold State.recordTensor
  repeat' first
    | with_reducible assumption
    | with_reducible intro _
    | (extract_lets +onlyGivenNames zz
       first
         | (with_reducible refine Kept.cut (P := P) (x := zz) ?_ ?_
            on_goal 2 => clear_value zz
            on_goal 1 => subst zz)
         | (with_reducible refine Kept.cut1 (P := P) (x := zz) ?_ ?_
            on_goal 2 => clear_value zz
            on_goal 1 => subst zz)
         | (have zn : Nat := zz
            clear zn
            subst zz)
         | clear_value zz
         | subst zz)
    | with_reducible apply State.put64At_kept
    | with_reducible apply State.putAt_kept
    | with_reducible apply State.putHbm_kept
    | exact kd.mem (by decide)
    | exact kd.mem (pick_mem (by decide) (by decide))
    | exact kd.mono (by decide)
    | split
    | fail_if_no_progress with_reducible apply kk.rest

theorem State.recordImport_kept {P : State → Prop}  (km : KeptM P) (kd : KeptD P [0x3010, 0x3020, 0x3021]) {s : State} {h : HalfId} {n : Nat} {t : Tensor} {blocks rounded : Nat} (h_s : P s) :
    P (State.recordImport s h n t blocks rounded) := by
  unfold State.recordImport
  repeat' first
    | with_reducible assumption
    | with_reducible intro _
    | (extract_lets +onlyGivenNames zz
       first
         | (with_reducible refine Kept.cut (P := P) (x := zz) ?_ ?_
            on_goal 2 => clear_value zz
            on_goal 1 => subst zz)
         | (with_reducible refine Kept.cut1 (P := P) (x := zz) ?_ ?_
            on_goal 2 => clear_value zz
            on_goal 1 => subst zz)
         | (have zn : Nat := zz
            clear zn
            subst zz)
         | clear_value zz
         | subst zz)
    | with_reducible apply State.add64_kept
    | with_reducible apply State.addAt_kept
    | with_reducible apply State.putAt_kept
    | with_reducible apply State.putHbm_kept
    | exact kd.mem (by decide)
    | exact kd.mem (pick_mem (by decide) (by decide))
    | exact kd.mono (by decide)
    | split
    | fail_if_no_progress with_reducible apply kk.rest

theorem State.writeDecl_kept {P : State → Prop}  (km : KeptM P) (kd : KeptD P [0x3020, 0x3021]) {s : State} {h : HalfId} {d : TensorDecl} {t : Tensor} (h_s : P s) :
    P (State.writeDecl s h d t) := by
  unfold State.writeDecl
  repeat' first
    | with_reducible assumption
    | with_reducible intro _
    | (extract_lets +onlyGivenNames zz
       first
         | (with_reducible refine Kept.cut (P := P) (x := zz) ?_ ?_
            on_goal 2 => clear_value zz
            on_goal 1 => subst zz)
         | (with_reducible refine Kept.cut1 (P := P) (x := zz) ?_ ?_
            on_goal 2 => clear_value zz
            on_goal 1 => subst zz)
         | (have zn : Nat := zz
            clear zn
            subst zz)
         | clear_value zz
         | subst zz)
    | with_reducible apply State.add64_kept
    | with_reducible apply State.addAt_kept
    | with_reducible apply State.hbmWrite_kept
    | exact kd.mem (by decide)
    | exact kd.mem (pick_mem (by decide) (by decide))
    | exact kd.mono (by decide)
    | with_reducible refine Kept.foldl (fun _ _ _ => ?_) ?_
    | with_reducible refine Kept.foldl1 (fun _ _ _ => ?_) ?_
    | split
    | fail_if_no_progress with_reducible apply kk.rest

end Sys2Proof.Machine
end

