-- ==== Sys2Proof/Laws/KeptLayers.lean ====
section
/-! SUPPORT. What every definition of Machine/Layers.lean keeps of a state: one lemma each (Laws/Kept.lean). -/

namespace Sys2Proof.Machine

open Sys2Proof

set_option linter.all false

theorem State.convBlocks_kept {P : State → Prop} (kk : Kept P) (kc : KeptC P) (kd : KeptD P [0x3020, 0x3021]) {s : State} {c : Ctx} {L : Layer} {t : Tensor} {terms : Nat} {arrayIn : Bool} {l : List Nat} (h_s : P s) :
    P (State.convBlocks s c L t terms arrayIn l).1 := by
  unfold State.convBlocks
  repeat' first
    | with_reducible assumption
    | with_reducible intro _
    | (extract_lets +onlyGivenNames zz
       first
         | (with_reducible refine Kept.cut (P := P) (x := zz) ?_ ?_
            on_goal 2 => clear_value zz
            on_goal 1 => subst zz)
         | (with_reducible refine Kept.cut1 (P := P) (x := zz) ?_ ?_
            on_goal 2 => clear_value zz
            on_goal 1 => subst zz)
         | (have zn : Nat := zz
            clear zn
            subst zz)
         | clear_value zz
         | subst zz)
    | with_reducible apply State.countConv_kept
    | with_reducible apply State.setCtx_kept
    | exact kd.mem (by decide)
    | exact kd.mem (pick_mem (by decide) (by decide))
    | exact kd.mono (by decide)
    | with_reducible refine Kept.foldl (fun _ _ _ => ?_) ?_
    | with_reducible refine Kept.foldl1 (fun _ _ _ => ?_) ?_
    | split
    | fail_if_no_progress with_reducible apply kk.rest

end Sys2Proof.Machine
end

