-- ==== Sys2Proof/Laws/KeptTiles.lean ====
section
/-! SUPPORT. What every definition of Machine/Tiles.lean keeps of a state: one lemma each (Laws/Kept.lean). -/

namespace Sys2Proof.Machine

open Sys2Proof

set_option linter.all false

theorem State.copySet_kept {P : State → Prop}  (kd : KeptD P [0x2010, 0x2011]) {s : State} {p : Nat} (h_s : P s) :
    P (State.copySet s p) := by
  unfold State.copySet
  repeat' first
    | with_reducible assumption
    | with_reducible intro _
    | (extract_lets +onlyGivenNames zz
       first
         | (with_reducible refine Kept.cut (P := P) (x := zz) ?_ ?_
            on_goal 2 => clear_value zz
            on_goal 1 => subst zz)
         | (with_reducible refine Kept.cut1 (P := P) (x := zz) ?_ ?_
            on_goal 2 => clear_value zz
            on_goal 1 => subst zz)
         | (have zn : Nat := zz
            clear zn
            subst zz)
         | clear_value zz
         | subst zz)
    | with_reducible apply State.putAt_kept
    | exact kd.mem (by decide)
    | exact kd.mem (pick_mem (by decide) (by decide))
    | exact kd.mono (by decide)
    | with_reducible refine Kept.foldl (fun _ _ _ => ?_) ?_
    | with_reducible refine Kept.foldl1 (fun _ _ _ => ?_) ?_
    | split
    | fail_if_no_progress with_reducible apply kk.rest

theorem State.switchSet_kept {P : State → Prop} (kk : Kept P) (kt : KeptT P) (kd : KeptD P [0x2010, 0x2011, 0x4010]) {s : State} {p : Nat} (h_s : P s) :
    P (State.switchSet s p) := by
  unfold State.switchSet
  repeat' first
    | with_reducible assumption
    | with_reducible intro _
    | with_reducible apply State.bumpAt_kept
    | with_reducible apply State.copySet_kept
    | with_reducible apply State.modTile_kept
    | exact kd.mem (by decide)
    | exact kd.mem (pick_mem (by decide) (by decide))
    | exact kd.mono (by decide)
    | split
    | fail_if_no_progress with_reducible apply kk.rest

theorem State.landSet_kept {P : State → Prop} (kk : Kept P) (kt : KeptT P) (kd : KeptD P [0x2010, 0x2011, 0x4010]) {s : State} {p : Nat} (h_s : P s) :
    P (State.landSet s p) := by
  unfold State.landSet
  repeat' first
    | with_reducible assumption
    | with_reducible intro _
    | (extract_lets +onlyGivenNames zz
       first
         | (with_reducible refine Kept.cut (P := P) (x := zz) ?_ ?_
            on_goal 2 => clear_value zz
            on_goal 1 => subst zz)
         | (with_reducible refine Kept.cut1 (P := P) (x := zz) ?_ ?_
            on_goal 2 => clear_value zz
            on_goal 1 => subst zz)
         | (have zn : Nat := zz
            clear zn
            subst zz)
         | clear_value zz
         | subst zz)
    | with_reducible apply State.modTile_kept
    | with_reducible apply State.switchSet_kept
    | exact kd.mem (by decide)
    | exact kd.mem (pick_mem (by decide) (by decide))
    | exact kd.mono (by decide)
    | split
    | fail_if_no_progress with_reducible apply kk.rest

theorem State.captureCodes_kept {P : State → Prop} (kk : Kept P) {s : State} {p : Nat} {l : List Codes} (h_s : P s) :
    P (State.captureCodes s p l) := by
  unfold State.captureCodes
  repeat' first
    | with_reducible assumption
    | with_reducible intro _
    | (extract_lets +onlyGivenNames zz
       first
         | (with_reducible refine Kept.cut (P := P) (x := zz) ?_ ?_
            on_goal 2 => clear_value zz
            on_goal 1 => subst zz)
         | (with_reducible refine Kept.cut1 (P := P) (x := zz) ?_ ?_
            on_goal 2 => clear_value zz
            on_goal 1 => subst zz)
         | (have zn : Nat := zz
            clear zn
            subst zz)
         | clear_value zz
         | subst zz)
    | split
    | fail_if_no_progress with_reducible apply kk.rest

theorem State.countSlice_kept {P : State → Prop} (kk : Kept P) (kc : KeptC P) (kd : KeptD P [0x4001, 0x4010]) {s : State} {p n groups : Nat} {fine : Bool} {o : SliceRun} (h_s : P s) :
    P (State.countSlice s p n groups fine o) := by
  unfold State.countSlice
  repeat' first
    | with_reducible assumption
    | with_reducible intro _
    | (extract_lets +onlyGivenNames zz
       first
         | (with_reducible refine Kept.cut (P := P) (x := zz) ?_ ?_
            on_goal 2 => clear_value zz
            on_goal 1 => subst zz)
         | (with_reducible refine Kept.cut1 (P := P) (x := zz) ?_ ?_
            on_goal 2 => clear_value zz
            on_goal 1 => subst zz)
         | (have zn : Nat := zz
            clear zn
            subst zz)
         | clear_value zz
         | subst zz)
    | with_reducible apply State.add64At_kept
    | with_reducible apply State.addAt_kept
    | with_reducible apply State.captureCodes_kept
    | with_reducible apply State.freeSkip_kept
    | with_reducible apply State.modCtx_kept
    | exact kd.mem (by decide)
    | exact kd.mem (pick_mem (by decide) (by decide))
    | exact kd.mono (by decide)
    | split
    | fail_if_no_progress with_reducible apply kk.rest

theorem State.stage7_kept {P : State → Prop} (kk : Kept P) (kc : KeptC P) (kt : KeptT P) (kd : KeptD P [0x3020, 0x3021]) {s : State} {p : Nat} {c : Ctx} {L : Layer} {out : OutVec} (h_s : P s) :
    P (State.stage7 s p c L out) := by
  unfold State.stage7
  repeat' first
    | with_reducible assumption
    | with_reducible intro _
    | (extract_lets +onlyGivenNames zz
       first
         | (with_reducible refine Kept.cut (P := P) (x := zz) ?_ ?_
            on_goal 2 => clear_value zz
            on_goal 1 => subst zz)
         | (with_reducible refine Kept.cut1 (P := P) (x := zz) ?_ ?_
            on_goal 2 => clear_value zz
            on_goal 1 => subst zz)
         | (have zn : Nat := zz
            clear zn
            subst zz)
         | clear_value zz
         | subst zz)
    | with_reducible apply State.convBlocks_kept
    | with_reducible apply State.failCheck_kept
    | with_reducible apply State.modTile_kept
    | exact kd.mem (by decide)
    | exact kd.mem (pick_mem (by decide) (by decide))
    | exact kd.mono (by decide)
    | split
    | fail_if_no_progress with_reducible apply kk.rest

theorem State.finish_kept {P : State → Prop} (kk : Kept P) (kc : KeptC P) (kt : KeptT P) (kd : KeptD P [0x3020, 0x3021]) {s : State} {p n vec : Nat} {c : Ctx} {L : Layer} {seat : Seat} {z : List Word} {suspect : Bool} (h_s : P s) :
    P (State.finish s p n vec c L seat z suspect) := by
  unfold State.finish
  repeat' first
    | with_reducible assumption
    | with_reducible intro _
    | (extract_lets +onlyGivenNames zz
       first
         | (with_reducible refine Kept.cut (P := P) (x := zz) ?_ ?_
            on_goal 2 => clear_value zz
            on_goal 1 => subst zz)
         | (with_reducible refine Kept.cut1 (P := P) (x := zz) ?_ ?_
            on_goal 2 => clear_value zz
            on_goal 1 => subst zz)
         | (have zn : Nat := zz
            clear zn
            subst zz)
         | clear_value zz
         | subst zz)
    | with_reducible apply State.modCtx_kept
    | with_reducible apply State.modTile_kept
    | with_reducible apply State.stage7_kept
    | exact kd.mem (by decide)
    | exact kd.mem (pick_mem (by decide) (by decide))
    | exact kd.mono (by decide)
    | split
    | fail_if_no_progress with_reducible apply kk.rest

theorem State.tryFinish_kept {P : State → Prop} (kk : Kept P) (kc : KeptC P) (kt : KeptT P) (kd : KeptD P [0x3020, 0x3021]) {p : Nat} : ∀ {k : Nat} {s : State}, P s → P (s.tryFinish p k) := by
  intro k
  induction k with
  | zero =>
    intros
    unfold State.tryFinish
    assumption
  | succ k ih =>
    intros
    unfold State.tryFinish
    repeat' first
    | with_reducible assumption
    | with_reducible intro _
    | (extract_lets +onlyGivenNames zz
       first
         | (with_reducible refine Kept.cut (P := P) (x := zz) ?_ ?_
            on_goal 2 => clear_value zz
            on_goal 1 => subst zz)
         | (with_reducible refine Kept.cut1 (P := P) (x := zz) ?_ ?_
            on_goal 2 => clear_value zz
            on_goal 1 => subst zz)
         | (have zn : Nat := zz
            clear zn
            subst zz)
         | clear_value zz
         | subst zz)
    | with_reducible apply ih
    | with_reducible apply State.finish_kept
    | with_reducible apply State.modTile_kept
    | exact kd.mem (by decide)
    | exact kd.mem (pick_mem (by decide) (by decide))
    | exact kd.mono (by decide)
    | split
    | fail_if_no_progress with_reducible apply kk.rest

theorem State.leave_kept {P : State → Prop} (kk : Kept P) (kt : KeptT P) {s : State} {p : Nat} {f : Flight} {L : Layer} {seat : Seat} (h_s : P s) :
    P (State.leave s p f L seat) := by
  unfold State.leave
  repeat' first
    | with_reducible assumption
    | with_reducible intro _
    | (extract_lets +onlyGivenNames zz
       first
         | (with_reducible refine Kept.cut (P := P) (x := zz) ?_ ?_
            on_goal 2 => clear_value zz
            on_goal 1 => subst zz)
         | (with_reducible refine Kept.cut1 (P := P) (x := zz) ?_ ?_
            on_goal 2 => clear_value zz
            on_goal 1 => subst zz)
         | (have zn : Nat := zz
            clear zn
            subst zz)
         | clear_value zz
         | subst zz)
    | with_reducible apply State.modTile_kept
    | split
    | fail_if_no_progress with_reducible apply kk.rest

theorem State.release'_kept {P : State → Prop} (kk : Kept P) (kt : KeptT P) {p : Nat} : ∀ {k : Nat} {s : State}, P s → P (s.release' p k) := by
  intro k
  induction k with
  | zero =>
    intros
    unfold State.release'
    assumption
  | succ k ih =>
    intros
    unfold State.release'
    repeat' first
    | with_reducible assumption
    | with_reducible intro _
    | (extract_lets +onlyGivenNames zz
       first
         | (with_reducible refine Kept.cut (P := P) (x := zz) ?_ ?_
            on_goal 2 => clear_value zz
            on_goal 1 => subst zz)
         | (with_reducible refine Kept.cut1 (P := P) (x := zz) ?_ ?_
            on_goal 2 => clear_value zz
            on_goal 1 => subst zz)
         | (have zn : Nat := zz
            clear zn
            subst zz)
         | clear_value zz
         | subst zz)
    | with_reducible apply ih
    | with_reducible apply State.leave_kept
    | with_reducible apply State.modTile_kept
    | split
    | fail_if_no_progress with_reducible apply kk.rest

theorem State.ringLevels_kept {P : State → Prop}  (kd : KeptD P [0x4014]) {s : State} {p : Nat} (h_s : P s) :
    P (State.ringLevels s p) := by
  unfold State.ringLevels
  repeat' first
    | with_reducible assumption
    | with_reducible intro _
    | (extract_lets +onlyGivenNames zz
       first
         | (with_reducible refine Kept.cut (P := P) (x := zz) ?_ ?_
            on_goal 2 => clear_value zz
            on_goal 1 => subst zz)
         | (with_reducible refine Kept.cut1 (P := P) (x := zz) ?_ ?_
            on_goal 2 => clear_value zz
            on_goal 1 => subst zz)
         | (have zn : Nat := zz
            clear zn
            subst zz)
         | clear_value zz
         | subst zz)
    | with_reducible apply State.putAt_kept
    | exact kd.mem (by decide)
    | exact kd.mem (pick_mem (by decide) (by decide))
    | exact kd.mono (by decide)
    | split
    | fail_if_no_progress with_reducible apply kk.rest

theorem State.settleRings_kept {P : State → Prop} (kk : Kept P) (kc : KeptC P) (kt : KeptT P) (kd : KeptD P [0x3020, 0x3021, 0x4014]) {s : State} {p : Nat} (h_s : P s) :
    P (State.settleRings s p) := by
  unfold State.settleRings
  repeat' first
    | with_reducible assumption
    | with_reducible intro _
    | with_reducible apply State.release'_kept
    | with_reducible apply State.ringLevels_kept
    | with_reducible apply State.tryFinish_kept
    | exact kd.mem (by decide)
    | exact kd.mem (pick_mem (by decide) (by decide))
    | exact kd.mono (by decide)
    | split
    | fail_if_no_progress with_reducible apply kk.rest

theorem State.yieldCal_kept {P : State → Prop} (kk : Kept P) (kt : KeptT P) (kd : KeptD P [0x4010]) {s : State} {p : Nat} (h_s : P s) :
    P (State.yieldCal s p) := by
  unfold State.yieldCal
  repeat' first
    | with_reducible assumption
    | with_reducible intro _
    | with_reducible apply State.bumpAt_kept
    | with_reducible apply State.modTile_kept
    | exact kd.mem (by decide)
    | exact kd.mem (pick_mem (by decide) (by decide))
    | exact kd.mono (by decide)
    | split
    | fail_if_no_progress with_reducible apply kk.rest

theorem State.countGap_kept {P : State → Prop}  (kd : KeptD P [0x4014]) {s old : State} {p : Nat} (h_s : P s) (h_old : P old) :
    P (State.countGap s old p) := by
  unfold State.countGap
  repeat' first
    | with_reducible assumption
    | with_reducible intro _
    | with_reducible apply State.add64At_kept
    | exact kd.mem (by decide)
    | exact kd.mem (pick_mem (by decide) (by decide))
    | exact kd.mono (by decide)
    | split
    | fail_if_no_progress with_reducible apply kk.rest

theorem State.startCal_kept {P : State → Prop} (kk : Kept P) (kt : KeptT P) {s : State} {p : Nat} (h_s : P s) :
    P (State.startCal s p) := by
  unfold State.startCal
  repeat' first
    | with_reducible assumption
    | with_reducible intro _
    | with_reducible apply State.modTile_kept
    | split
    | fail_if_no_progress with_reducible apply kk.rest

theorem State.resumeCal_kept {P : State → Prop} (kk : Kept P) (kt : KeptT P) {s : State} (h_s : P s) :
    P (State.resumeCal s) := by
  unfold State.resumeCal
  repeat' first
    | with_reducible assumption
    | with_reducible intro _
    | with_reducible apply State.startCal_kept
    | with_reducible refine Kept.foldl (fun _ _ _ => ?_) ?_
    | with_reducible refine Kept.foldl1 (fun _ _ _ => ?_) ?_
    | split
    | fail_if_no_progress with_reducible apply kk.rest

theorem State.noteIssues_kept {P : State → Prop} (kk : Kept P) (kt : KeptT P) {s : State} {p k : Nat} (h_s : P s) :
    P (State.noteIssues s p k) := by
  unfold State.noteIssues
  repeat' first
    | with_reducible assumption
    | with_reducible intro _
    | with_reducible apply State.modTile_kept
    | split
    | fail_if_no_progress with_reducible apply kk.rest

theorem State.runVector_kept {P : State → Prop} (kk : Kept P) (kc : KeptC P) (kt : KeptT P) (kd : KeptD P [0x4001, 0x4010]) {s : State} {p : Nat} {v : InVec} {L : Layer} {seat : Seat} {which : List Bool} (h_s : P s) :
    P (State.runVector s p v L seat which).1 := by
  unfold State.runVector
  repeat' first
    | with_reducible assumption
    | with_reducible intro _
    | (extract_lets +onlyGivenNames zz
       first
         | (with_reducible refine Kept.cut (P := P) (x := zz) ?_ ?_
            on_goal 2 => clear_value zz
            on_goal 1 => subst zz)
         | (with_reducible refine Kept.cut1 (P := P) (x := zz) ?_ ?_
            on_goal 2 => clear_value zz
            on_goal 1 => subst zz)
         | (have zn : Nat := zz
            clear zn
            subst zz)
         | clear_value zz
         | subst zz)
    | with_reducible apply State.countSlice_kept
    | with_reducible apply State.noteIssues_kept
    | exact kd.mem (by decide)
    | exact kd.mem (pick_mem (by decide) (by decide))
    | exact kd.mono (by decide)
    | with_reducible refine Kept.foldl (fun _ _ _ => ?_) ?_
    | with_reducible refine Kept.foldl1 (fun _ _ _ => ?_) ?_
    | split
    | fail_if_no_progress with_reducible apply kk.rest

theorem State.runFlight_kept {P : State → Prop} (kk : Kept P) (kc : KeptC P) (kt : KeptT P) (kd : KeptD P [0x4001, 0x4010]) {s : State} {p : Nat} {v : InVec} {L : Layer} {seat : Seat} (h_s : P s) :
    P (State.runFlight s p v L seat).1 := by
  unfold State.runFlight
  repeat' first
    | with_reducible assumption
    | with_reducible intro _
    | (extract_lets +onlyGivenNames zz
       first
         | (with_reducible refine Kept.cut (P := P) (x := zz) ?_ ?_
            on_goal 2 => clear_value zz
            on_goal 1 => subst zz)
         | (with_reducible refine Kept.cut1 (P := P) (x := zz) ?_ ?_
            on_goal 2 => clear_value zz
            on_goal 1 => subst zz)
         | (have zn : Nat := zz
            clear zn
            subst zz)
         | clear_value zz
         | subst zz)
    | with_reducible apply State.runVector_kept
    | exact kd.mem (by decide)
    | exact kd.mem (pick_mem (by decide) (by decide))
    | exact kd.mono (by decide)
    | split
    | fail_if_no_progress with_reducible apply kk.rest

theorem State.issueVec_kept {P : State → Prop} (kk : Kept P) (kc : KeptC P) {s : State} {p : Nat} {v : InVec} (h_s : P s) :
    P (State.issueVec s p v) := by
  unfold State.issueVec
  repeat' first
    | with_reducible assumption
    | with_reducible intro _
    | with_reducible apply State.modCtx_kept
    | split
    | fail_if_no_progress with_reducible apply kk.rest

theorem execForwardProduct_kept {P : State → Prop} (kk : Kept P) (kc : KeptC P) (kt : KeptT P) (kd : KeptD P [0x3020, 0x3021, 0x4001, 0x4010, 0x4014]) {tile : Nat} {s : State} (h_s : P s) :
    KeptR P (execForwardProduct tile s) := by
  unfold execForwardProduct
  repeat' first
    | with_reducible assumption
    | with_reducible intro _
    | (extract_lets +onlyGivenNames zz
       first
         | (with_reducible refine Kept.cut (P := P) (x := zz) ?_ ?_
            on_goal 2 => clear_value zz
            on_goal 1 => subst zz)
         | (with_reducible refine Kept.cut1 (P := P) (x := zz) ?_ ?_
            on_goal 2 => clear_value zz
            on_goal 1 => subst zz)
         | (have zn : Nat := zz
            clear zn
            subst zz)
         | clear_value zz
         | subst zz)
    | with_reducible refine KeptR.onPower ?_ (fun _ => ?_)
    | with_reducible refine KeptR.next ?_
    | with_reducible exact KeptR.fault _
    | with_reducible apply State.add64At_kept
    | with_reducible apply State.bumpAt_kept
    | with_reducible apply State.countGap_kept
    | with_reducible apply State.issueVec_kept
    | with_reducible apply State.modTile_kept
    | with_reducible apply State.runFlight_kept
    | with_reducible apply State.settleRings_kept
    | exact kd.mem (by decide)
    | exact kd.mem (pick_mem (by decide) (by decide))
    | exact kd.mono (by decide)
    | split
    | fail_if_no_progress with_reducible apply kk.rest

theorem execChecksumRepeat_kept {P : State → Prop} (kk : Kept P) (kc : KeptC P) (kt : KeptT P) (kd : KeptD P [0x3020, 0x3021, 0x4001, 0x4010, 0x4014, 0x7000, 0x7001, 0x7040, 0xF030]) {tile : Nat} {s : State} (h_s : P s) :
    KeptR P (execChecksumRepeat tile s) := by
  unfold execChecksumRepeat
  repeat' first
    | with_reducible assumption
    | with_reducible intro _
    | (extract_lets +onlyGivenNames zz
       first
         | (with_reducible refine Kept.cut (P := P) (x := zz) ?_ ?_
            on_goal 2 => clear_value zz
            on_goal 1 => subst zz)
         | (with_reducible refine Kept.cut1 (P := P) (x := zz) ?_ ?_
            on_goal 2 => clear_value zz
            on_goal 1 => subst zz)
         | (have zn : Nat := zz
            clear zn
            subst zz)
         | clear_value zz
         | subst zz)
    | with_reducible refine KeptR.onPower ?_ (fun _ => ?_)
    | with_reducible refine KeptR.next ?_
    | with_reducible exact KeptR.fault _
    | with_reducible apply Kept.ident
    | with_reducible apply State.bumpAt_kept
    | with_reducible apply State.failCheck_kept
    | with_reducible apply State.log_kept
    | with_reducible apply State.modCtx_kept
    | with_reducible apply State.modTile_kept
    | with_reducible apply State.riskEvent_kept
    | with_reducible apply State.runVector_kept
    | with_reducible apply State.settleRings_kept
    | exact kd.mem (by decide)
    | exact kd.mem (pick_mem (by decide) (by decide))
    | exact kd.mono (by decide)
    | split
    | fail_if_no_progress with_reducible apply kk.rest

theorem execPartialArrive_kept {P : State → Prop} (kk : Kept P) (kc : KeptC P) (kt : KeptT P) (kd : KeptD P [0x3020, 0x3021, 0x4014]) {tile ctx vec row : Nat} {s : State} (h_s : P s) :
    KeptR P (execPartialArrive tile ctx vec row s) := by
  unfold execPartialArrive
  repeat' first
    | with_reducible assumption
    | with_reducible intro _
    | (extract_lets +onlyGivenNames zz
       first
         | (with_reducible refine Kept.cut (P := P) (x := zz) ?_ ?_
            on_goal 2 => clear_value zz
            on_goal 1 => subst zz)
         | (with_reducible refine Kept.cut1 (P := P) (x := zz) ?_ ?_
            on_goal 2 => clear_value zz
            on_goal 1 => subst zz)
         | (have zn : Nat := zz
            clear zn
            subst zz)
         | clear_value zz
         | subst zz)
    | with_reducible refine KeptR.onPower ?_ (fun _ => ?_)
    | with_reducible refine KeptR.next ?_
    | with_reducible exact KeptR.fault _
    | with_reducible apply State.modTile_kept
    | with_reducible apply State.settleRings_kept
    | exact kd.mem (by decide)
    | exact kd.mem (pick_mem (by decide) (by decide))
    | exact kd.mono (by decide)
    | split
    | fail_if_no_progress with_reducible apply kk.rest

theorem State.sendPartial_kept {P : State → Prop} (kk : Kept P) {s : State} {p : Nat} {v : OutVec} (h_s : P s) :
    P (State.sendPartial s p v) := by
  unfold State.sendPartial
  repeat' first
    | with_reducible assumption
    | with_reducible intro _
    | (extract_lets +onlyGivenNames zz
       first
         | (with_reducible refine Kept.cut (P := P) (x := zz) ?_ ?_
            on_goal 2 => clear_value zz
            on_goal 1 => subst zz)
         | (with_reducible refine Kept.cut1 (P := P) (x := zz) ?_ ?_
            on_goal 2 => clear_value zz
            on_goal 1 => subst zz)
         | (have zn : Nat := zz
            clear zn
            subst zz)
         | clear_value zz
         | subst zz)
    | split
    | fail_if_no_progress with_reducible apply kk.rest

theorem State.sendResult_kept {P : State → Prop} (kk : Kept P) (kc : KeptC P) {s : State} {v : OutVec} (h_s : P s) :
    P (State.sendResult s v) := by
  unfold State.sendResult
  repeat' first
    | with_reducible assumption
    | with_reducible intro _
    | with_reducible apply State.modCtx_kept
    | split
    | fail_if_no_progress with_reducible apply kk.rest

theorem execOutputDrain_kept {P : State → Prop} (kk : Kept P) (kc : KeptC P) (kt : KeptT P) (kd : KeptD P [0x3020, 0x3021, 0x4014]) {tile : Nat} {s : State} (h_s : P s) :
    KeptR P (execOutputDrain tile s) := by
  unfold execOutputDrain
  repeat' first
    | with_reducible assumption
    | with_reducible intro _
    | (extract_lets +onlyGivenNames zz
       first
         | (with_reducible refine Kept.cut (P := P) (x := zz) ?_ ?_
            on_goal 2 => clear_value zz
            on_goal 1 => subst zz)
         | (with_reducible refine Kept.cut1 (P := P) (x := zz) ?_ ?_
            on_goal 2 => clear_value zz
            on_goal 1 => subst zz)
         | (have zn : Nat := zz
            clear zn
            subst zz)
         | clear_value zz
         | subst zz)
    | with_reducible refine KeptR.onPower ?_ (fun _ => ?_)
    | with_reducible refine KeptR.next ?_
    | with_reducible exact KeptR.fault _
    | with_reducible apply State.emit_kept
    | with_reducible apply State.modTile_kept
    | with_reducible apply State.sendPartial_kept
    | with_reducible apply State.sendResult_kept
    | with_reducible apply State.settleRings_kept
    | exact kd.mem (by decide)
    | exact kd.mem (pick_mem (by decide) (by decide))
    | exact kd.mono (by decide)
    | split
    | fail_if_no_progress with_reducible apply kk.rest

theorem execCoefficientSwitch_kept {P : State → Prop} (kk : Kept P) (kt : KeptT P) (kd : KeptD P [0x2010, 0x2011, 0x4010]) {tile : Nat} {s : State} (h_s : P s) :
    KeptR P (execCoefficientSwitch tile s) := by
  unfold execCoefficientSwitch
  repeat' first
    | with_reducible assumption
    | with_reducible intro _
    | with_reducible refine KeptR.onPower ?_ (fun _ => ?_)
    | with_reducible refine KeptR.next ?_
    | with_reducible exact KeptR.fault _
    | with_reducible apply State.switchSet_kept
    | exact kd.mem (by decide)
    | exact kd.mem (pick_mem (by decide) (by decide))
    | exact kd.mono (by decide)
    | split
    | fail_if_no_progress with_reducible apply kk.rest

theorem execCalibrationProduct_kept {P : State → Prop} (kk : Kept P) (kt : KeptT P) {tile : Nat} {s : State} (h_s : P s) :
    KeptR P (execCalibrationProduct tile s) := by
  unfold execCalibrationProduct
  repeat' first
    | with_reducible assumption
    | with_reducible intro _
    | with_reducible refine KeptR.onPower ?_ (fun _ => ?_)
    | with_reducible refine KeptR.next ?_
    | with_reducible exact KeptR.fault _
    | with_reducible apply State.startCal_kept
    | split
    | fail_if_no_progress with_reducible apply kk.rest

end Sys2Proof.Machine
end

