-- ==== Sys2Proof/Laws/KeptRowWrite.lean ====
section
/-! SUPPORT. What every definition of Machine/RowWrite.lean keeps of a state: one lemma each (Laws/Kept.lean). -/

namespace Sys2Proof.Machine

open Sys2Proof

set_option linter.all false

theorem State.failEntry_kept {P : State → Prop}  (kd : KeptD P [0x4004]) {s : State} {p first n x : Nat} (h_s : P s) :
    P (State.failEntry s p first n x) := by
  unfold State.failEntry
  repeat' first
    | with_reducible assumption
    | with_reducible intro _
    | with_reducible apply State.putAt_kept
    | exact kd.mem (by decide)
    | exact kd.mem (pick_mem (by decide) (by decide))
    | exact kd.mono (by decide)
    | with_reducible refine Kept.foldl (fun _ _ _ => ?_) ?_
    | with_reducible refine Kept.foldl1 (fun _ _ _ => ?_) ?_
    | split
    | fail_if_no_progress with_reducible apply kk.rest

theorem State.useSpareColumn_kept {P : State → Prop} (kk : Kept P) (kt : KeptT P) (kd : KeptD P [0x0080, 0x4001, 0x4003, 0x4004, 0x5020]) {s : State} {p col i : Nat} (h_s : P s) :
    P (State.useSpareColumn s p col i) := by
  unfold State.useSpareColumn
  repeat' first
    | with_reducible assumption
    | with_reducible intro _
    | (extract_lets +onlyGivenNames zz
       first
         | (with_reducible refine Kept.cut (P := P) (x := zz) ?_ ?_
            on_goal 2 => clear_value zz
            on_goal 1 => subst zz)
         | (with_reducible refine Kept.cut1 (P := P) (x := zz) ?_ ?_
            on_goal 2 => clear_value zz
            on_goal 1 => subst zz)
         | (have zn : Nat := zz
            clear zn
            subst zz)
         | clear_value zz
         | subst zz)
    | with_reducible apply State.bumpAt_kept
    | with_reducible apply State.failEntry_kept
    | with_reducible apply State.modTile_kept
    | with_reducible apply State.pulseRow_kept
    | with_reducible apply State.putAt_kept
    | exact kd.mem (by decide)
    | exact kd.mem (pick_mem (by decide) (by decide))
    | exact kd.mono (by decide)
    | with_reducible refine Kept.foldl (fun _ _ _ => ?_) ?_
    | with_reducible refine Kept.foldl1 (fun _ _ _ => ?_) ?_
    | split
    | fail_if_no_progress with_reducible apply kk.rest

theorem State.useSpareRow_kept {P : State → Prop} (kk : Kept P) (kt : KeptT P) (kd : KeptD P [0x0080, 0x4001, 0x4003, 0x4004, 0x5020]) {s : State} {p row i : Nat} (h_s : P s) :
    P (State.useSpareRow s p row i) := by
  unfold State.useSpareRow
  repeat' first
    | with_reducible assumption
    | with_reducible intro _
    | (extract_lets +onlyGivenNames zz
       first
         | (with_reducible refine Kept.cut (P := P) (x := zz) ?_ ?_
            on_goal 2 => clear_value zz
            on_goal 1 => subst zz)
         | (with_reducible refine Kept.cut1 (P := P) (x := zz) ?_ ?_
            on_goal 2 => clear_value zz
            on_goal 1 => subst zz)
         | (have zn : Nat := zz
            clear zn
            subst zz)
         | clear_value zz
         | subst zz)
    | with_reducible apply State.bumpAt_kept
    | with_reducible apply State.failEntry_kept
    | with_reducible apply State.putAt_kept
    | with_reducible apply State.rewriteRow_kept
    | exact kd.mem (by decide)
    | exact kd.mem (pick_mem (by decide) (by decide))
    | exact kd.mono (by decide)
    | split
    | fail_if_no_progress with_reducible apply kk.rest

theorem State.replaceColumns_kept {P : State → Prop} (kk : Kept P) (kt : KeptT P) (kd : KeptD P [0x0080, 0x4001, 0x4003, 0x4004, 0x4005, 0x4021, 0x5020, 0x7040, 0xF030]) {s : State} {p : Nat} {cols : List Nat} {inPass : Bool} (h_s : P s) :
    P (State.replaceColumns s p cols inPass) := by
  unfold State.replaceColumns
  repeat' first
    | with_reducible assumption
    | with_reducible intro _
    | (extract_lets +onlyGivenNames zz
       first
         | (with_reducible refine Kept.cut (P := P) (x := zz) ?_ ?_
            on_goal 2 => clear_value zz
            on_goal 1 => subst zz)
         | (with_reducible refine Kept.cut1 (P := P) (x := zz) ?_ ?_
            on_goal 2 => clear_value zz
            on_goal 1 => subst zz)
         | (have zn : Nat := zz
            clear zn
            subst zz)
         | clear_value zz
         | subst zz)
    | with_reducible apply State.fieldRepair_kept
    | with_reducible apply State.shadowAll_kept
    | with_reducible apply State.useSpareColumn_kept
    | exact kd.mem (by decide)
    | exact kd.mem (pick_mem (by decide) (by decide))
    | exact kd.mono (by decide)
    | with_reducible refine Kept.foldl (fun _ _ _ => ?_) ?_
    | with_reducible refine Kept.foldl1 (fun _ _ _ => ?_) ?_
    | split
    | fail_if_no_progress with_reducible apply kk.rest

theorem State.replaceRow_kept {P : State → Prop} (kk : Kept P) (kt : KeptT P) (kd : KeptD P [0x0080, 0x4001, 0x4003, 0x4004, 0x4005, 0x4021, 0x5020, 0x7040, 0xF030]) {s : State} {p row i : Nat} {inPass : Bool} (h_s : P s) :
    P (State.replaceRow s p row i inPass) := by
  unfold State.replaceRow
  repeat' first
    | with_reducible assumption
    | with_reducible intro _
    | with_reducible apply State.fieldRepair_kept
    | with_reducible apply State.shadowRow_kept
    | with_reducible apply State.useSpareRow_kept
    | exact kd.mem (by decide)
    | exact kd.mem (pick_mem (by decide) (by decide))
    | exact kd.mono (by decide)
    | split
    | fail_if_no_progress with_reducible apply kk.rest

theorem State.retireRow_kept {P : State → Prop} (kk : Kept P) (kc : KeptC P) (kt : KeptT P) (kb : KeptB P) (kd : KeptD P [0x0080, 0x4001, 0x4003, 0x4005, 0x4010, 0x4012, 0x4021, 0x5020, 0x7040, 0xF030]) {s : State} {p : Nat} {inPass : Bool} (h_s : P s) :
    P (State.retireRow s p inPass) := by
  unfold State.retireRow
  repeat' first
    | with_reducible assumption
    | with_reducible intro _
    | with_reducible apply State.markUnusable_kept
    | with_reducible apply State.retireField_kept
    | exact kd.mem (by decide)
    | exact kd.mem (pick_mem (by decide) (by decide))
    | exact kd.mono (by decide)
    | split
    | fail_if_no_progress with_reducible apply kk.rest

theorem State.repairRow_kept {P : State → Prop} (kk : Kept P) (kc : KeptC P) (kt : KeptT P) (kb : KeptB P) (kd : KeptD P [0x0080, 0x4001, 0x4003, 0x4004, 0x4005, 0x4010, 0x4012, 0x4021, 0x5020, 0x7040, 0xF030]) {s : State} {p row : Nat} {cols : List Nat} {inPass : Bool} (h_s : P s) :
    P (State.repairRow s p row cols inPass) := by
  unfold State.repairRow
  repeat' first
    | with_reducible assumption
    | with_reducible intro _
    | (extract_lets +onlyGivenNames zz
       first
         | (with_reducible refine Kept.cut (P := P) (x := zz) ?_ ?_
            on_goal 2 => clear_value zz
            on_goal 1 => subst zz)
         | (with_reducible refine Kept.cut1 (P := P) (x := zz) ?_ ?_
            on_goal 2 => clear_value zz
            on_goal 1 => subst zz)
         | (have zn : Nat := zz
            clear zn
            subst zz)
         | clear_value zz
         | subst zz)
    | with_reducible apply State.replaceColumns_kept
    | with_reducible apply State.replaceRow_kept
    | with_reducible apply State.retireRow_kept
    | exact kd.mem (by decide)
    | exact kd.mem (pick_mem (by decide) (by decide))
    | exact kd.mono (by decide)
    | split
    | fail_if_no_progress with_reducible apply kk.rest

theorem State.writeRow_kept {P : State → Prop} (kk : Kept P) (kc : KeptC P) (kt : KeptT P) (kb : KeptB P) (kd : KeptD P [0x0080, 0x4001, 0x4003, 0x4004, 0x4005, 0x4010, 0x4012, 0x4021, 0x5020, 0x7040, 0xF030]) {s : State} {p row : Nat} {pl : RowPlan} {meas : RowMeas} {inPass : Bool} (h_s : P s) :
    P (State.writeRow s p row pl meas inPass).1 := by
  unfold State.writeRow
  repeat' first
    | with_reducible assumption
    | with_reducible intro _
    | (extract_lets +onlyGivenNames zz
       first
         | (with_reducible refine Kept.cut (P := P) (x := zz) ?_ ?_
            on_goal 2 => clear_value zz
            on_goal 1 => subst zz)
         | (with_reducible refine Kept.cut1 (P := P) (x := zz) ?_ ?_
            on_goal 2 => clear_value zz
            on_goal 1 => subst zz)
         | (have zn : Nat := zz
            clear zn
            subst zz)
         | clear_value zz
         | subst zz)
    | with_reducible apply State.bumpAt_kept
    | with_reducible apply State.modTile_kept
    | with_reducible apply State.pulseRow_kept
    | with_reducible apply State.repairRow_kept
    | exact kd.mem (by decide)
    | exact kd.mem (pick_mem (by decide) (by decide))
    | exact kd.mono (by decide)
    | with_reducible refine Kept.foldl (fun _ _ _ => ?_) ?_
    | with_reducible refine Kept.foldl1 (fun _ _ _ => ?_) ?_
    | split
    | fail_if_no_progress with_reducible apply kk.rest

theorem State.writeRowTwice_kept {P : State → Prop} (kk : Kept P) (kc : KeptC P) (kt : KeptT P) (kb : KeptB P) (kd : KeptD P [0x0080, 0x4001, 0x4003, 0x4004, 0x4005, 0x4010, 0x4012, 0x4021, 0x5020, 0x7040, 0xF030]) {s : State} {p row : Nat} {pl : RowPlan} {first second : RowMeas} {inPass : Bool} (h_s : P s) :
    P (State.writeRowTwice s p row pl first second inPass).1 := by
  unfold State.writeRowTwice
  repeat' first
    | with_reducible assumption
    | with_reducible intro _
    | with_reducible apply State.writeRow_kept
    | exact kd.mem (by decide)
    | exact kd.mem (pick_mem (by decide) (by decide))
    | exact kd.mono (by decide)
    | split
    | fail_if_no_progress with_reducible apply kk.rest
    | with_reducible refine Kept.pair (by assumption) ?_

theorem execRowWriteVerify_kept {P : State → Prop} (kk : Kept P) (kc : KeptC P) (kt : KeptT P) (kb : KeptB P) (kd : KeptD P [0x0080, 0x4001, 0x4003, 0x4004, 0x4005, 0x4010, 0x4012, 0x4021, 0x5020, 0x7040, 0xF030]) {tile row : Nat} {targets : List (Nat × Int)} {meas : RowMeas} {s : State} (h_s : P s) :
    KeptR P (execRowWriteVerify tile row targets meas s) := by
  unfold execRowWriteVerify
  repeat' first
    | with_reducible assumption
    | with_reducible intro _
    | (extract_lets +onlyGivenNames zz
       first
         | (with_reducible refine Kept.cut (P := P) (x := zz) ?_ ?_
            on_goal 2 => clear_value zz
            on_goal 1 => subst zz)
         | (with_reducible refine Kept.cut1 (P := P) (x := zz) ?_ ?_
            on_goal 2 => clear_value zz
            on_goal 1 => subst zz)
         | (have zn : Nat := zz
            clear zn
            subst zz)
         | clear_value zz
         | subst zz)
    | with_reducible refine KeptR.onPower ?_ (fun _ => ?_)
    | with_reducible refine KeptR.next ?_
    | with_reducible exact KeptR.fault _
    | with_reducible apply State.shadowRow_kept
    | with_reducible apply State.writeRow_kept
    | exact kd.mem (by decide)
    | exact kd.mem (pick_mem (by decide) (by decide))
    | exact kd.mono (by decide)
    | split
    | fail_if_no_progress with_reducible apply kk.rest

theorem State.pulseReference_kept {P : State → Prop} (kk : Kept P) (kt : KeptT P) (kd : KeptD P [0x0080, 0x4001, 0x4003, 0x5020]) {s : State} {p : Nat} {t : Tile} {row : Nat} {cols : List Nat} (h_s : P s) :
    P (State.pulseReference s p t row cols) := by
  unfold State.pulseReference
  repeat' first
    | with_reducible assumption
    | with_reducible intro _
    | with_reducible apply State.pulseRow_kept
    | exact kd.mem (by decide)
    | exact kd.mem (pick_mem (by decide) (by decide))
    | exact kd.mono (by decide)
    | split
    | fail_if_no_progress with_reducible apply kk.rest

theorem State.refreshRow_kept {P : State → Prop} (kk : Kept P) (kc : KeptC P) (kt : KeptT P) (kb : KeptB P) (kd : KeptD P [0x0080, 0x4001, 0x4003, 0x4004, 0x4005, 0x4010, 0x4012, 0x4021, 0x5020, 0x7040, 0xF030]) {s : State} {p : Nat} {seen : List RowSeen} {row : Nat} (h_s : P s) :
    P (State.refreshRow s p seen row) := by
  unfold State.refreshRow
  repeat' first
    | with_reducible assumption
    | with_reducible intro _
    | (extract_lets +onlyGivenNames zz
       first
         | (with_reducible refine Kept.cut (P := P) (x := zz) ?_ ?_
            on_goal 2 => clear_value zz
            on_goal 1 => subst zz)
         | (with_reducible refine Kept.cut1 (P := P) (x := zz) ?_ ?_
            on_goal 2 => clear_value zz
            on_goal 1 => subst zz)
         | (have zn : Nat := zz
            clear zn
            subst zz)
         | clear_value zz
         | subst zz)
    | with_reducible apply State.bumpAt_kept
    | with_reducible apply State.pulseReference_kept
    | with_reducible apply State.repairRow_kept
    | with_reducible apply State.shadowRow_kept
    | with_reducible apply State.writeRowTwice_kept
    | exact kd.mem (by decide)
    | exact kd.mem (pick_mem (by decide) (by decide))
    | exact kd.mono (by decide)
    | split
    | fail_if_no_progress with_reducible apply kk.rest

theorem State.refreshRows_kept {P : State → Prop} (kk : Kept P) (kc : KeptC P) (kt : KeptT P) (kb : KeptB P) (kd : KeptD P [0x0080, 0x4001, 0x4003, 0x4004, 0x4005, 0x4010, 0x4012, 0x4021, 0x5020, 0x7040, 0xF030]) {s : State} {p : Nat} {seen : List RowSeen} (h_s : P s) :
    P (State.refreshRows s p seen) := by
  unfold State.refreshRows
  repeat' first
    | with_reducible assumption
    | with_reducible intro _
    | with_reducible apply State.refreshRow_kept
    | exact kd.mem (by decide)
    | exact kd.mem (pick_mem (by decide) (by decide))
    | exact kd.mono (by decide)
    | with_reducible refine Kept.foldl (fun _ _ _ => ?_) ?_
    | with_reducible refine Kept.foldl1 (fun _ _ _ => ?_) ?_
    | split
    | fail_if_no_progress with_reducible apply kk.rest

end Sys2Proof.Machine
end

