-- ==== Sys2Proof/Laws/KeptCalibration.lean ====
section
/-! SUPPORT. What every definition of Machine/Calibration.lean keeps of a state: one lemma each (Laws/Kept.lean). -/

namespace Sys2Proof.Machine

open Sys2Proof

set_option linter.all false

theorem State.countDue_kept {P : State → Prop}  (kd : KeptD P [0x2000, 0x2001]) {s : State} {h : HalfId} (h_s : P s) :
    P (State.countDue s h) := by
  unfold State.countDue
  repeat' first
    | with_reducible assumption
    | with_reducible intro _
    | (extract_lets +onlyGivenNames zz
       first
         | (with_reducible refine Kept.cut (P := P) (x := zz) ?_ ?_
            on_goal 2 => clear_value zz
            on_goal 1 => subst zz)
         | (with_reducible refine Kept.cut1 (P := P) (x := zz) ?_ ?_
            on_goal 2 => clear_value zz
            on_goal 1 => subst zz)
         | (have zn : Nat := zz
            clear zn
            subst zz)
         | clear_value zz
         | subst zz)
    | with_reducible apply State.put_kept
    | exact kd.mem (by decide)
    | exact kd.mem (pick_mem (by decide) (by decide))
    | exact kd.mono (by decide)
    | split
    | fail_if_no_progress with_reducible apply kk.rest

theorem State.setCalState_kept {P : State → Prop}  (kd : KeptD P [0x2000, 0x2001, 0x2012]) {s : State} {p n : Nat} (h_s : P s) :
    P (State.setCalState s p n) := by
  unfold State.setCalState
  repeat' first
    | with_reducible assumption
    | with_reducible intro _
    | with_reducible apply State.countDue_kept
    | with_reducible apply State.putAt_kept
    | exact kd.mem (by decide)
    | exact kd.mem (pick_mem (by decide) (by decide))
    | exact kd.mono (by decide)
    | split
    | fail_if_no_progress with_reducible apply kk.rest

theorem State.applyGroup_kept {P : State → Prop} (kk : Kept P) (kt : KeptT P) (kd : KeptD P [0x2000, 0x2001, 0x2011, 0x2012]) {s : State} {p g : Nat} {o : GroupSol} {swap : Bool} (h_s : P s) :
    P (State.applyGroup s p g o swap) := by
  unfold State.applyGroup
  repeat' first
    | with_reducible assumption
    | with_reducible intro _
    | (extract_lets +onlyGivenNames zz
       first
         | (with_reducible refine Kept.cut (P := P) (x := zz) ?_ ?_
            on_goal 2 => clear_value zz
            on_goal 1 => subst zz)
         | (with_reducible refine Kept.cut1 (P := P) (x := zz) ?_ ?_
            on_goal 2 => clear_value zz
            on_goal 1 => subst zz)
         | (have zn : Nat := zz
            clear zn
            subst zz)
         | clear_value zz
         | subst zz)
    | with_reducible apply State.bump_kept
    | with_reducible apply State.modTile_kept
    | with_reducible apply State.putAt_kept
    | with_reducible apply State.putsAt_kept
    | exact kd.mem (by decide)
    | exact kd.mem (pick_mem (by decide) (by decide))
    | exact kd.mono (by decide)
    | split
    | fail_if_no_progress with_reducible apply kk.rest

theorem State.settleTile_kept {P : State → Prop} (kk : Kept P) (kc : KeptC P) (kt : KeptT P) (kb : KeptB P) (kd : KeptD P [0x0080, 0x2000, 0x2001, 0x2012, 0x4001, 0x4003, 0x4005, 0x4010, 0x4012, 0x4021, 0x5020, 0x7040, 0xF030]) {s : State} {p : Nat} (h_s : P s) :
    P (State.settleTile s p) := by
  unfold State.settleTile
  repeat' first
    | with_reducible assumption
    | with_reducible intro _
    | (extract_lets +onlyGivenNames zz
       first
         | (with_reducible refine Kept.cut (P := P) (x := zz) ?_ ?_
            on_goal 2 => clear_value zz
            on_goal 1 => subst zz)
         | (with_reducible refine Kept.cut1 (P := P) (x := zz) ?_ ?_
            on_goal 2 => clear_value zz
            on_goal 1 => subst zz)
         | (have zn : Nat := zz
            clear zn
            subst zz)
         | clear_value zz
         | subst zz)
    | with_reducible apply State.retireUnit_kept
    | with_reducible apply State.setCalState_kept
    | exact kd.mem (by decide)
    | exact kd.mem (pick_mem (by decide) (by decide))
    | exact kd.mono (by decide)
    | split
    | fail_if_no_progress with_reducible apply kk.rest

theorem State.chooseSlices_kept {P : State → Prop}  (kd : KeptD P [0x2010]) {s : State} {p : Nat} {m : TileMeas} (h_s : P s) :
    P (State.chooseSlices s p m).1 := by
  unfold State.chooseSlices
  repeat' first
    | with_reducible assumption
    | with_reducible intro _
    | (extract_lets +onlyGivenNames zz
       first
         | (with_reducible refine Kept.cut (P := P) (x := zz) ?_ ?_
            on_goal 2 => clear_value zz
            on_goal 1 => subst zz)
         | (with_reducible refine Kept.cut1 (P := P) (x := zz) ?_ ?_
            on_goal 2 => clear_value zz
            on_goal 1 => subst zz)
         | (have zn : Nat := zz
            clear zn
            subst zz)
         | clear_value zz
         | subst zz)
    | with_reducible apply State.putAt_kept
    | exact kd.mem (by decide)
    | exact kd.mem (pick_mem (by decide) (by decide))
    | exact kd.mono (by decide)
    | with_reducible refine Kept.foldl (fun _ _ _ => ?_) ?_
    | with_reducible refine Kept.foldl1 (fun _ _ _ => ?_) ?_
    | split
    | fail_if_no_progress with_reducible apply kk.rest

theorem State.applyFull_kept {P : State → Prop} (kk : Kept P) (kc : KeptC P) (kt : KeptT P) (kb : KeptB P) (kd : KeptD P [0x0080, 0x2000, 0x2001, 0x2010, 0x2011, 0x2012, 0x4001, 0x4003, 0x4005, 0x4010, 0x4012, 0x4021, 0x5020, 0x7040, 0xF030]) {s : State} {p : Nat} {m : TileMeas} {group : State → Nat → GroupMeas} (h_s : P s) :
    P (State.applyFull s p m group) := by
  unfold State.applyFull
  repeat' first
    | with_reducible assumption
    | with_reducible intro _
    | (extract_lets +onlyGivenNames zz
       first
         | (with_reducible refine Kept.cut (P := P) (x := zz) ?_ ?_
            on_goal 2 => clear_value zz
            on_goal 1 => subst zz)
         | (with_reducible refine Kept.cut1 (P := P) (x := zz) ?_ ?_
            on_goal 2 => clear_value zz
            on_goal 1 => subst zz)
         | (have zn : Nat := zz
            clear zn
            subst zz)
         | clear_value zz
         | subst zz)
    | with_reducible apply State.applyGroup_kept
    | with_reducible apply State.bump_kept
    | with_reducible apply State.chooseSlices_kept
    | with_reducible apply State.landSet_kept
    | with_reducible apply State.put64At_kept
    | with_reducible apply State.putAt_kept
    | with_reducible apply State.putsAt_kept
    | with_reducible apply State.retireUnit_kept
    | with_reducible apply State.setCalState_kept
    | with_reducible apply State.settleTile_kept
    | exact kd.mem (by decide)
    | exact kd.mem (pick_mem (by decide) (by decide))
    | exact kd.mono (by decide)
    | with_reducible refine Kept.foldl (fun _ _ _ => ?_) ?_
    | with_reducible refine Kept.foldl1 (fun _ _ _ => ?_) ?_
    | split
    | fail_if_no_progress with_reducible apply kk.rest

theorem State.applyRaw_kept {P : State → Prop} (kk : Kept P) (kc : KeptC P) (kt : KeptT P) (kb : KeptB P) (kd : KeptD P [0x0080, 0x2000, 0x2001, 0x2010, 0x2011, 0x2012, 0x4001, 0x4003, 0x4005, 0x4010, 0x4012, 0x4021, 0x5020, 0x7040, 0xF030]) {s : State} {p : Nat} {z : ZeroRaw} {f : FullRaw} {nz nf : Nat} (h_s : P s) :
    P (State.applyRaw s p z f nz nf) := by
  unfold State.applyRaw
  repeat' first
    | with_reducible assumption
    | with_reducible intro _
    | (extract_lets +onlyGivenNames zz
       first
         | (with_reducible refine Kept.cut (P := P) (x := zz) ?_ ?_
            on_goal 2 => clear_value zz
            on_goal 1 => subst zz)
         | (with_reducible refine Kept.cut1 (P := P) (x := zz) ?_ ?_
            on_goal 2 => clear_value zz
            on_goal 1 => subst zz)
         | (have zn : Nat := zz
            clear zn
            subst zz)
         | clear_value zz
         | subst zz)
    | with_reducible apply State.applyFull_kept
    | exact kd.mem (by decide)
    | exact kd.mem (pick_mem (by decide) (by decide))
    | exact kd.mono (by decide)
    | split
    | fail_if_no_progress with_reducible apply kk.rest

theorem State.selfCalibrate_kept {P : State → Prop} (kk : Kept P) (kc : KeptC P) (kt : KeptT P) (kb : KeptB P) (kd : KeptD P [0x0080, 0x2000, 0x2001, 0x2010, 0x2011, 0x2012, 0x4001, 0x4003, 0x4005, 0x4010, 0x4012, 0x4021, 0x5020, 0x7040, 0xF030]) {s : State} {p : Nat} (h_s : P s) :
    P (State.selfCalibrate s p) := by
  unfold State.selfCalibrate
  repeat' first
    | with_reducible assumption
    | with_reducible intro _
    | with_reducible apply State.applyFull_kept
    | with_reducible apply State.freeSkip_kept
    | exact kd.mem (by decide)
    | exact kd.mem (pick_mem (by decide) (by decide))
    | exact kd.mono (by decide)
    | split
    | fail_if_no_progress with_reducible apply kk.rest

theorem State.refreshTile_kept {P : State → Prop} (kk : Kept P) (kc : KeptC P) (kt : KeptT P) (kb : KeptB P) (kd : KeptD P [0x0080, 0x2000, 0x2001, 0x2010, 0x2011, 0x2012, 0x4001, 0x4003, 0x4004, 0x4005, 0x4010, 0x4012, 0x4021, 0x5020, 0x7040, 0xF030]) {s : State} {p : Nat} {seen : List RowSeen} (h_s : P s) :
    P (State.refreshTile s p seen) := by
  unfold State.refreshTile
  repeat' first
    | with_reducible assumption
    | with_reducible intro _
    | (extract_lets +onlyGivenNames zz
       first
         | (with_reducible refine Kept.cut (P := P) (x := zz) ?_ ?_
            on_goal 2 => clear_value zz
            on_goal 1 => subst zz)
         | (with_reducible refine Kept.cut1 (P := P) (x := zz) ?_ ?_
            on_goal 2 => clear_value zz
            on_goal 1 => subst zz)
         | (have zn : Nat := zz
            clear zn
            subst zz)
         | clear_value zz
         | subst zz)
    | with_reducible apply State.putAt_kept
    | with_reducible apply State.refreshRows_kept
    | with_reducible apply State.selfCalibrate_kept
    | exact kd.mem (by decide)
    | exact kd.mem (pick_mem (by decide) (by decide))
    | exact kd.mono (by decide)
    | split
    | fail_if_no_progress with_reducible apply kk.rest

theorem State.markRunning_kept {P : State → Prop}  (kd : KeptD P [0x2012]) {s : State} {l : List Nat} {v : Bool} (h_s : P s) :
    P (State.markRunning s l v) := by
  unfold State.markRunning
  repeat' first
    | with_reducible assumption
    | with_reducible intro _
    | with_reducible apply State.putAt_kept
    | exact kd.mem (by decide)
    | exact kd.mem (pick_mem (by decide) (by decide))
    | exact kd.mono (by decide)
    | with_reducible refine Kept.foldl (fun _ _ _ => ?_) ?_
    | with_reducible refine Kept.foldl1 (fun _ _ _ => ?_) ?_
    | split
    | fail_if_no_progress with_reducible apply kk.rest

theorem State.actCalibration_kept {P : State → Prop} (kk : Kept P) (kh : KeptH P) (kv : KeptV P) (kd : KeptD P [0x2000, 0x2001, 0x2012]) {s : State} {h : HalfId} {word : Word} {meas : CalRaw} (h_s : P s) :
    KeptX P (State.actCalibration s h word meas) := by
  unfold State.actCalibration
  dsimp only
  repeat' first
    | with_reducible assumption
    | with_reducible intro _
    | (extract_lets +onlyGivenNames zz
       first
         | (with_reducible refine Kept.cut (P := P) (x := zz) ?_ ?_
            on_goal 2 => clear_value zz
            on_goal 1 => subst zz)
         | (with_reducible refine Kept.cut1 (P := P) (x := zz) ?_ ?_
            on_goal 2 => clear_value zz
            on_goal 1 => subst zz)
         | (have zn : Nat := zz
            clear zn
            subst zz)
         | clear_value zz
         | subst zz)
    | with_reducible exact KeptX.refuse _ _
    | with_reducible refine KeptX.apply ?_
    | with_reducible refine KeptX.counted ?_
    | with_reducible refine KeptX.accept (fun _ _ => ?_)
    | with_reducible apply State.endPending_kept
    | with_reducible apply State.markRunning_kept
    | with_reducible apply State.modHalf_kept
    | with_reducible apply State.put_kept
    | exact kd.mem (by decide)
    | exact kd.mem (pick_mem (by decide) (by decide))
    | exact kd.mono (by decide)
    | with_reducible apply KeptX.ite
    | split
    | fail_if_no_progress with_reducible apply kk.rest

theorem State.calRunEnds_kept {P : State → Prop} (kk : Kept P) (kc : KeptC P) (kt : KeptT P) (kh : KeptH P) (kv : KeptV P) (kb : KeptB P) (kd : KeptD P [0x0080, 0x2000, 0x2001, 0x2010, 0x2011, 0x2012, 0x4001, 0x4003, 0x4004, 0x4005, 0x4010, 0x4012, 0x4021, 0x5020, 0x7040, 0xF030]) {s : State} {h : HalfId} {seen : List RowSeen} (h_s : P s) :
    P (State.calRunEnds s h seen) := by
  unfold State.calRunEnds
  dsimp only
  repeat' first
    | with_reducible assumption
    | with_reducible intro _
    | (extract_lets +onlyGivenNames zz
       first
         | (with_reducible refine Kept.cut (P := P) (x := zz) ?_ ?_
            on_goal 2 => clear_value zz
            on_goal 1 => subst zz)
         | (with_reducible refine Kept.cut1 (P := P) (x := zz) ?_ ?_
            on_goal 2 => clear_value zz
            on_goal 1 => subst zz)
         | (have zn : Nat := zz
            clear zn
            subst zz)
         | clear_value zz
         | subst zz)
    | with_reducible apply State.applyRaw_kept
    | with_reducible apply State.endPending_kept
    | with_reducible apply State.markRunning_kept
    | with_reducible apply State.modHalf_kept
    | with_reducible apply State.put_kept
    | with_reducible apply State.refreshTile_kept
    | with_reducible apply State.selfCalibrate_kept
    | exact kd.mem (by decide)
    | exact kd.mem (pick_mem (by decide) (by decide))
    | exact kd.mono (by decide)
    | with_reducible refine Kept.foldl (fun _ _ _ => ?_) ?_
    | with_reducible refine Kept.foldl1 (fun _ _ _ => ?_) ?_
    | split
    | fail_if_no_progress with_reducible apply kk.rest

theorem execCalRunComplete_kept {P : State → Prop} (kk : Kept P) (kc : KeptC P) (kt : KeptT P) (kh : KeptH P) (kv : KeptV P) (kb : KeptB P) (kd : KeptD P [0x0080, 0x2000, 0x2001, 0x2010, 0x2011, 0x2012, 0x4001, 0x4003, 0x4004, 0x4005, 0x4010, 0x4012, 0x4021, 0x5020, 0x7040, 0xF030]) {h : HalfId} {seen : List RowSeen} {s : State} (h_s : P s) :
    KeptR P (execCalRunComplete h seen s) := by
  unfold execCalRunComplete
  repeat' first
    | with_reducible assumption
    | with_reducible intro _
    | with_reducible refine KeptR.onPower ?_ (fun _ => ?_)
    | with_reducible refine KeptR.next ?_
    | with_reducible exact KeptR.fault _
    | with_reducible apply State.calRunEnds_kept
    | exact kd.mem (by decide)
    | exact kd.mem (pick_mem (by decide) (by decide))
    | exact kd.mono (by decide)
    | split
    | fail_if_no_progress with_reducible apply kk.rest

theorem execZeroResultExpire_kept {P : State → Prop}  (kh : KeptH P) (kd : KeptD P [0x2000, 0x2001]) {h : HalfId} {s : State} (h_s : P s) :
    KeptR P (execZeroResultExpire h s) := by
  unfold execZeroResultExpire
  repeat' first
    | with_reducible assumption
    | with_reducible intro _
    | with_reducible refine KeptR.onPower ?_ (fun _ => ?_)
    | with_reducible refine KeptR.next ?_
    | with_reducible exact KeptR.fault _
    | with_reducible apply State.modHalf_kept
    | with_reducible apply State.put_kept
    | exact kd.mem (by decide)
    | exact kd.mem (pick_mem (by decide) (by decide))
    | exact kd.mono (by decide)
    | split
    | fail_if_no_progress with_reducible apply kk.rest

theorem State.noSwap_kept {P : State → Prop} (kk : Kept P) (kt : KeptT P) {s : State} {p g : Nat} (h_s : P s) :
    P (State.noSwap s p g) := by
  unfold State.noSwap
  repeat' first
    | with_reducible assumption
    | with_reducible intro _
    | with_reducible apply State.modTile_kept
    | split
    | fail_if_no_progress with_reducible apply kk.rest

theorem execColumnSwap_kept {P : State → Prop} (kk : Kept P) (kc : KeptC P) (kt : KeptT P) (kb : KeptB P) (kd : KeptD P [0x0080, 0x2000, 0x2001, 0x2010, 0x2011, 0x2012, 0x4001, 0x4003, 0x4004, 0x4005, 0x4010, 0x4012, 0x4021, 0x5020, 0x7040, 0xF030]) {tile group : Nat} {meas : GroupRaw} {s : State} (h_s : P s) :
    KeptR P (execColumnSwap tile group meas s) := by
  unfold execColumnSwap
  repeat' first
    | with_reducible assumption
    | with_reducible intro _
    | (extract_lets +onlyGivenNames zz
       first
         | (with_reducible refine Kept.cut (P := P) (x := zz) ?_ ?_
            on_goal 2 => clear_value zz
            on_goal 1 => subst zz)
         | (with_reducible refine Kept.cut1 (P := P) (x := zz) ?_ ?_
            on_goal 2 => clear_value zz
            on_goal 1 => subst zz)
         | (have zn : Nat := zz
            clear zn
            subst zz)
         | clear_value zz
         | subst zz)
    | with_reducible refine KeptR.onPower ?_ (fun _ => ?_)
    | with_reducible refine KeptR.next ?_
    | with_reducible exact KeptR.fault _
    | with_reducible apply State.applyGroup_kept
    | with_reducible apply State.landSet_kept
    | with_reducible apply State.noSwap_kept
    | with_reducible apply State.putAt_kept
    | with_reducible apply State.replaceColumns_kept
    | with_reducible apply State.settleTile_kept
    | exact kd.mem (by decide)
    | exact kd.mem (pick_mem (by decide) (by decide))
    | exact kd.mono (by decide)
    | split
    | fail_if_no_progress with_reducible apply kk.rest

theorem State.monitor_kept {P : State → Prop}  (kd : KeptD P [0x2000, 0x2001, 0x2012]) {s : State} {p b : Nat} {urgent : Bool} (h_s : P s) :
    P (State.monitor s p b urgent) := by
  unfold State.monitor
  repeat' first
    | with_reducible assumption
    | with_reducible intro _
    | (extract_lets +onlyGivenNames zz
       first
         | (with_reducible refine Kept.cut (P := P) (x := zz) ?_ ?_
            on_goal 2 => clear_value zz
            on_goal 1 => subst zz)
         | (with_reducible refine Kept.cut1 (P := P) (x := zz) ?_ ?_
            on_goal 2 => clear_value zz
            on_goal 1 => subst zz)
         | (have zn : Nat := zz
            clear zn
            subst zz)
         | clear_value zz
         | subst zz)
    | with_reducible apply State.putBitAt_kept
    | with_reducible apply State.setCalState_kept
    | exact kd.mem (by decide)
    | exact kd.mem (pick_mem (by decide) (by decide))
    | exact kd.mono (by decide)
    | split
    | fail_if_no_progress with_reducible apply kk.rest

theorem State.probed_kept {P : State → Prop}  (kd : KeptD P [0x2000, 0x2001, 0x2012]) {s : State} {p gainPpm offset : Nat} (h_s : P s) :
    P (State.probed s p gainPpm offset) := by
  unfold State.probed
  repeat' first
    | with_reducible assumption
    | with_reducible intro _
    | (extract_lets +onlyGivenNames zz
       first
         | (with_reducible refine Kept.cut (P := P) (x := zz) ?_ ?_
            on_goal 2 => clear_value zz
            on_goal 1 => subst zz)
         | (with_reducible refine Kept.cut1 (P := P) (x := zz) ?_ ?_
            on_goal 2 => clear_value zz
            on_goal 1 => subst zz)
         | (have zn : Nat := zz
            clear zn
            subst zz)
         | clear_value zz
         | subst zz)
    | with_reducible apply State.monitor_kept
    | with_reducible apply State.putAt_kept
    | exact kd.mem (by decide)
    | exact kd.mem (pick_mem (by decide) (by decide))
    | exact kd.mono (by decide)
    | split
    | fail_if_no_progress with_reducible apply kk.rest

theorem execProbe_kept {P : State → Prop}  (kd : KeptD P [0x2000, 0x2001, 0x2012]) {tile gainPpm offset : Nat} {s : State} (h_s : P s) :
    KeptR P (execProbe tile gainPpm offset s) := by
  unfold execProbe
  repeat' first
    | with_reducible assumption
    | with_reducible intro _
    | with_reducible refine KeptR.onPower ?_ (fun _ => ?_)
    | with_reducible refine KeptR.next ?_
    | with_reducible exact KeptR.fault _
    | with_reducible apply State.probed_kept
    | exact kd.mem (by decide)
    | exact kd.mem (pick_mem (by decide) (by decide))
    | exact kd.mono (by decide)
    | split
    | fail_if_no_progress with_reducible apply kk.rest

theorem execDriftMonitor_kept {P : State → Prop}  (kd : KeptD P [0x2000, 0x2001, 0x2012]) {tile bit : Nat} {urgent : Bool} {s : State} (h_s : P s) :
    KeptR P (execDriftMonitor tile bit urgent s) := by
  unfold execDriftMonitor
  repeat' first
    | with_reducible assumption
    | with_reducible intro _
    | with_reducible refine KeptR.onPower ?_ (fun _ => ?_)
    | with_reducible refine KeptR.next ?_
    | with_reducible exact KeptR.fault _
    | with_reducible apply State.monitor_kept
    | exact kd.mem (by decide)
    | exact kd.mem (pick_mem (by decide) (by decide))
    | exact kd.mono (by decide)
    | split
    | fail_if_no_progress with_reducible apply kk.rest

theorem State.relocate_kept {P : State → Prop} (kk : Kept P) (kt : KeptT P) (kb : KeptB P) (kd : KeptD P [0x0080, 0x4001, 0x4003, 0x4010, 0x4012, 0x4021, 0x5020]) {s : State} {p l q : Nat} (h_s : P s) :
    P (State.relocate s p l q) := by
  unfold State.relocate
  repeat' first
    | with_reducible assumption
    | with_reducible intro _
    | (extract_lets +onlyGivenNames zz
       first
         | (with_reducible refine Kept.cut (P := P) (x := zz) ?_ ?_
            on_goal 2 => clear_value zz
            on_goal 1 => subst zz)
         | (with_reducible refine Kept.cut1 (P := P) (x := zz) ?_ ?_
            on_goal 2 => clear_value zz
            on_goal 1 => subst zz)
         | (have zn : Nat := zz
            clear zn
            subst zz)
         | clear_value zz
         | subst zz)
    | with_reducible apply State.copySurround_kept
    | with_reducible apply State.modTile_kept
    | with_reducible apply State.rewriteTile_kept
    | with_reducible apply State.setTile_kept
    | exact kd.mem (by decide)
    | exact kd.mem (pick_mem (by decide) (by decide))
    | exact kd.mono (by decide)
    | split
    | fail_if_no_progress with_reducible apply kk.rest
    | fail_if_no_progress (with_reducible apply kb.fabric; with_reducible apply kk.rest)

theorem State.endRelocation_kept {P : State → Prop} (kk : Kept P) (kt : KeptT P) (kb : KeptB P) (kd : KeptD P [0x4021, 0xF021]) {s : State} {l : Nat} (h_s : P s) :
    P (State.endRelocation s l) := by
  unfold State.endRelocation
  repeat' first
    | with_reducible assumption
    | with_reducible intro _
    | (extract_lets +onlyGivenNames zz
       first
         | (with_reducible refine Kept.cut (P := P) (x := zz) ?_ ?_
            on_goal 2 => clear_value zz
            on_goal 1 => subst zz)
         | (with_reducible refine Kept.cut1 (P := P) (x := zz) ?_ ?_
            on_goal 2 => clear_value zz
            on_goal 1 => subst zz)
         | (have zn : Nat := zz
            clear zn
            subst zz)
         | clear_value zz
         | subst zz)
    | with_reducible apply State.modTile_kept
    | with_reducible apply State.putAt_kept
    | with_reducible apply State.setTile_kept
    | with_reducible apply State.shadowAll_kept
    | exact kd.mem (by decide)
    | exact kd.mem (pick_mem (by decide) (by decide))
    | exact kd.mono (by decide)
    | split
    | fail_if_no_progress with_reducible apply kk.rest
    | fail_if_no_progress (with_reducible apply kb.fabric; with_reducible apply kk.rest)

theorem execCalEscalate_kept {P : State → Prop} (kk : Kept P) (kt : KeptT P) (kb : KeptB P) (kd : KeptD P [0x0080, 0x2000, 0x2001, 0x4001, 0x4003, 0x4010, 0x4012, 0x4021, 0x5020, 0x7000, 0x7001, 0x7040, 0xF030]) {tile : Nat} {s : State} (h_s : P s) :
    KeptR P (execCalEscalate tile s) := by
  unfold execCalEscalate
  repeat' first
    | with_reducible assumption
    | with_reducible intro _
    | (extract_lets +onlyGivenNames zz
       first
         | (with_reducible refine Kept.cut (P := P) (x := zz) ?_ ?_
            on_goal 2 => clear_value zz
            on_goal 1 => subst zz)
         | (with_reducible refine Kept.cut1 (P := P) (x := zz) ?_ ?_
            on_goal 2 => clear_value zz
            on_goal 1 => subst zz)
         | (have zn : Nat := zz
            clear zn
            subst zz)
         | clear_value zz
         | subst zz)
    | with_reducible refine KeptR.onPower ?_ (fun _ => ?_)
    | with_reducible refine KeptR.next ?_
    | with_reducible exact KeptR.fault _
    | with_reducible apply State.bump_kept
    | with_reducible apply State.log_kept
    | with_reducible apply State.relocate_kept
    | with_reducible apply State.riskEvent_kept
    | exact kd.mem (by decide)
    | exact kd.mem (pick_mem (by decide) (by decide))
    | exact kd.mono (by decide)
    | split
    | fail_if_no_progress with_reducible apply kk.rest

theorem execRefreshAge_kept {P : State → Prop} (kk : Kept P) (kc : KeptC P) (kt : KeptT P) (kb : KeptB P) (kd : KeptD P [0x0080, 0x2000, 0x2001, 0x2010, 0x2011, 0x2012, 0x4001, 0x4003, 0x4004, 0x4005, 0x4010, 0x4012, 0x4021, 0x5020, 0x7040, 0xF030]) {tile : Nat} {seen : List RowSeen} {s : State} (h_s : P s) :
    KeptR P (execRefreshAge tile seen s) := by
  unfold execRefreshAge
  repeat' first
    | with_reducible assumption
    | with_reducible intro _
    | with_reducible refine KeptR.onPower ?_ (fun _ => ?_)
    | with_reducible refine KeptR.next ?_
    | with_reducible exact KeptR.fault _
    | with_reducible apply State.refreshTile_kept
    | exact kd.mem (by decide)
    | exact kd.mem (pick_mem (by decide) (by decide))
    | exact kd.mono (by decide)
    | split
    | fail_if_no_progress with_reducible apply kk.rest

theorem State.applyImage_kept {P : State → Prop} (kk : Kept P) (kt : KeptT P) (kd : KeptD P [0x2000, 0x2001, 0x2010, 0x2011, 0x2012, 0x4010]) {s : State} {p : Nat} {l : List Byte} (h_s : P s) :
    P (State.applyImage s p l) := by
  unfold State.applyImage
  repeat' first
    | with_reducible assumption
    | with_reducible intro _
    | (extract_lets +onlyGivenNames zz
       first
         | (with_reducible refine Kept.cut (P := P) (x := zz) ?_ ?_
            on_goal 2 => clear_value zz
            on_goal 1 => subst zz)
         | (with_reducible refine Kept.cut1 (P := P) (x := zz) ?_ ?_
            on_goal 2 => clear_value zz
            on_goal 1 => subst zz)
         | (have zn : Nat := zz
            clear zn
            subst zz)
         | clear_value zz
         | subst zz)
    | with_reducible apply State.landSet_kept
    | with_reducible apply State.modTile_kept
    | with_reducible apply State.put64At_kept
    | with_reducible apply State.putAt_kept
    | with_reducible apply State.putsAt_kept
    | with_reducible apply State.setCalState_kept
    | exact kd.mem (by decide)
    | exact kd.mem (pick_mem (by decide) (by decide))
    | exact kd.mono (by decide)
    | with_reducible refine Kept.foldl (fun _ _ _ => ?_) ?_
    | with_reducible refine Kept.foldl1 (fun _ _ _ => ?_) ?_
    | split
    | fail_if_no_progress with_reducible apply kk.rest

end Sys2Proof.Machine
end

