-- ==== Sys2Proof/Laws/KeptForward.lean ====
section
/-! SUPPORT. What every definition of Machine/Forward.lean keeps of a state: one lemma each (Laws/Kept.lean). -/

namespace Sys2Proof.Machine

open Sys2Proof

set_option linter.all false

theorem State.readProducer_kept {P : State → Prop} (kk : Kept P) {s : State} {c : Ctx} (h_s : P s) :
    P (State.readProducer s c) := by
  unfold State.readProducer
  repeat' first
    | with_reducible assumption
    | with_reducible intro _
    | with_reducible apply State.request_kept
    | split
    | fail_if_no_progress with_reducible apply kk.rest

theorem State.readRecords_kept {P : State → Prop} (kk : Kept P) {s : State} {c : Ctx} (h_s : P s) :
    P (State.readRecords s c) := by
  unfold State.readRecords
  repeat' first
    | with_reducible assumption
    | with_reducible intro _
    | (extract_lets +onlyGivenNames zz
       first
         | (with_reducible refine Kept.cut (P := P) (x := zz) ?_ ?_
            on_goal 2 => clear_value zz
            on_goal 1 => subst zz)
         | (with_reducible refine Kept.cut1 (P := P) (x := zz) ?_ ?_
            on_goal 2 => clear_value zz
            on_goal 1 => subst zz)
         | (have zn : Nat := zz
            clear zn
            subst zz)
         | clear_value zz
         | subst zz)
    | with_reducible apply State.request_kept
    | with_reducible refine Kept.foldl (fun _ _ _ => ?_) ?_
    | with_reducible refine Kept.foldl1 (fun _ _ _ => ?_) ?_
    | split
    | fail_if_no_progress with_reducible apply kk.rest

theorem State.runDigital_kept {P : State → Prop} (kk : Kept P) (kc : KeptC P) (kd : KeptD P [0x3020, 0x3021]) {s : State} {c : Ctx} {L : Layer} {k : Nat} (h_s : P s) :
    P (State.runDigital s c L k) := by
  unfold State.runDigital
  repeat' first
    | with_reducible assumption
    | with_reducible intro _
    | (extract_lets +onlyGivenNames zz
       first
         | (with_reducible refine Kept.cut (P := P) (x := zz) ?_ ?_
            on_goal 2 => clear_value zz
            on_goal 1 => subst zz)
         | (with_reducible refine Kept.cut1 (P := P) (x := zz) ?_ ?_
            on_goal 2 => clear_value zz
            on_goal 1 => subst zz)
         | (have zn : Nat := zz
            clear zn
            subst zz)
         | clear_value zz
         | subst zz)
    | with_reducible apply State.convBlocks_kept
    | exact kd.mem (by decide)
    | exact kd.mem (pick_mem (by decide) (by decide))
    | exact kd.mono (by decide)
    | with_reducible refine Kept.foldl (fun _ _ _ => ?_) ?_
    | with_reducible refine Kept.foldl1 (fun _ _ _ => ?_) ?_
    | split
    | fail_if_no_progress with_reducible apply kk.rest

theorem State.showWatch_kept {P : State → Prop}  (kd : KeptD P [0x3031]) {s : State} {n : Nat} {w : Watch} (h_s : P s) :
    P (State.showWatch s n w) := by
  unfold State.showWatch
  repeat' first
    | with_reducible assumption
    | with_reducible intro _
    | (extract_lets +onlyGivenNames zz
       first
         | (with_reducible refine Kept.cut (P := P) (x := zz) ?_ ?_
            on_goal 2 => clear_value zz
            on_goal 1 => subst zz)
         | (with_reducible refine Kept.cut1 (P := P) (x := zz) ?_ ?_
            on_goal 2 => clear_value zz
            on_goal 1 => subst zz)
         | (have zn : Nat := zz
            clear zn
            subst zz)
         | clear_value zz
         | subst zz)
    | with_reducible apply State.putAt_kept
    | exact kd.mem (by decide)
    | exact kd.mem (pick_mem (by decide) (by decide))
    | exact kd.mono (by decide)
    | split
    | fail_if_no_progress with_reducible apply kk.rest

theorem State.putWatch_kept {P : State → Prop} (kk : Kept P) (kc : KeptC P) (kd : KeptD P [0x3031]) {s : State} {n : Nat} {w : Watch} (h_s : P s) :
    P (State.putWatch s n w) := by
  unfold State.putWatch
  repeat' first
    | with_reducible assumption
    | with_reducible intro _
    | with_reducible apply State.modCtx_kept
    | with_reducible apply State.showWatch_kept
    | exact kd.mem (by decide)
    | exact kd.mem (pick_mem (by decide) (by decide))
    | exact kd.mono (by decide)
    | split
    | fail_if_no_progress with_reducible apply kk.rest

theorem State.fillFrom_kept {P : State → Prop} (kk : Kept P) (kc : KeptC P) (kd : KeptD P [0x4102, 0x4103]) {n : Nat} : ∀ {k : Nat} {s : State}, P s → P (s.fillFrom n k) := by
  intro k
  induction k with
  | zero =>
    intros
    unfold State.fillFrom
    assumption
  | succ k ih =>
    intros
    unfold State.fillFrom
    repeat' first
    | with_reducible assumption
    | with_reducible intro _
    | (extract_lets +onlyGivenNames zz
       first
         | (with_reducible refine Kept.cut (P := P) (x := zz) ?_ ?_
            on_goal 2 => clear_value zz
            on_goal 1 => subst zz)
         | (with_reducible refine Kept.cut1 (P := P) (x := zz) ?_ ?_
            on_goal 2 => clear_value zz
            on_goal 1 => subst zz)
         | (have zn : Nat := zz
            clear zn
            subst zz)
         | clear_value zz
         | subst zz)
    | with_reducible apply ih
    | with_reducible apply State.bump_kept
    | with_reducible apply State.setCtx_kept
    | exact kd.mem (by decide)
    | exact kd.mem (pick_mem (by decide) (by decide))
    | exact kd.mono (by decide)
    | split
    | fail_if_no_progress with_reducible apply kk.rest

theorem State.fillSlots_kept {P : State → Prop} (kk : Kept P) (kc : KeptC P) (kd : KeptD P [0x4102, 0x4103]) {s : State} {n : Nat} (h_s : P s) :
    P (State.fillSlots s n) := by
  unfold State.fillSlots
  repeat' first
    | with_reducible assumption
    | with_reducible intro _
    | with_reducible apply State.fillFrom_kept
    | exact kd.mem (by decide)
    | exact kd.mem (pick_mem (by decide) (by decide))
    | exact kd.mono (by decide)
    | split
    | fail_if_no_progress with_reducible apply kk.rest

theorem State.refill_kept {P : State → Prop} (kk : Kept P) (kc : KeptC P) (kd : KeptD P [0x4102, 0x4103]) {s : State} {h : HalfId} (h_s : P s) :
    P (State.refill s h) := by
  unfold State.refill
  repeat' first
    | with_reducible assumption
    | with_reducible intro _
    | with_reducible apply State.fillSlots_kept
    | exact kd.mem (by decide)
    | exact kd.mem (pick_mem (by decide) (by decide))
    | exact kd.mono (by decide)
    | with_reducible refine Kept.foldl (fun _ _ _ => ?_) ?_
    | with_reducible refine Kept.foldl1 (fun _ _ _ => ?_) ?_
    | split
    | fail_if_no_progress with_reducible apply kk.rest

theorem State.loadInputs_kept {P : State → Prop} (kk : Kept P) (km : KeptM P) (kc : KeptC P) (kd : KeptD P [0x3010, 0x3020, 0x3021]) {s : State} {n : Nat} {c : Ctx} (h_s : P s) :
    P (State.loadInputs s n c) := by
  unfold State.loadInputs
  repeat' first
    | with_reducible assumption
    | with_reducible intro _
    | (extract_lets +onlyGivenNames zz
       first
         | (with_reducible refine Kept.cut (P := P) (x := zz) ?_ ?_
            on_goal 2 => clear_value zz
            on_goal 1 => subst zz)
         | (with_reducible refine Kept.cut1 (P := P) (x := zz) ?_ ?_
            on_goal 2 => clear_value zz
            on_goal 1 => subst zz)
         | (have zn : Nat := zz
            clear zn
            subst zz)
         | clear_value zz
         | subst zz)
    | with_reducible apply State.modCtx_kept
    | with_reducible apply State.recordImport_kept
    | exact kd.mem (by decide)
    | exact kd.mem (pick_mem (by decide) (by decide))
    | exact kd.mono (by decide)
    | with_reducible refine Kept.foldl (fun _ _ _ => ?_) ?_
    | with_reducible refine Kept.foldl1 (fun _ _ _ => ?_) ?_
    | split
    | fail_if_no_progress with_reducible apply kk.rest

theorem State.shiftDown_kept {P : State → Prop} (kk : Kept P) (kc : KeptC P) (kd : KeptD P [0x3031, 0x3040, 0x3041]) {s : State} {n : Nat} (h_s : P s) :
    P (State.shiftDown s n) := by
  unfold State.shiftDown
  repeat' first
    | with_reducible assumption
    | with_reducible intro _
    | with_reducible apply State.bump_kept
    | with_reducible apply State.putWatch_kept
    | exact kd.mem (by decide)
    | exact kd.mem (pick_mem (by decide) (by decide))
    | exact kd.mono (by decide)
    | with_reducible refine Kept.foldl (fun _ _ _ => ?_) ?_
    | with_reducible refine Kept.foldl1 (fun _ _ _ => ?_) ?_
    | split
    | fail_if_no_progress with_reducible apply kk.rest

theorem State.flushTiles_kept {P : State → Prop} (kk : Kept P) (kt : KeptT P) (kd : KeptD P [0x4014]) {s : State} {n k : Nat} (h_s : P s) :
    P (State.flushTiles s n k) := by
  unfold State.flushTiles
  repeat' first
    | with_reducible assumption
    | with_reducible intro _
    | (extract_lets +onlyGivenNames zz
       first
         | (with_reducible refine Kept.cut (P := P) (x := zz) ?_ ?_
            on_goal 2 => clear_value zz
            on_goal 1 => subst zz)
         | (with_reducible refine Kept.cut1 (P := P) (x := zz) ?_ ?_
            on_goal 2 => clear_value zz
            on_goal 1 => subst zz)
         | (have zn : Nat := zz
            clear zn
            subst zz)
         | clear_value zz
         | subst zz)
    | with_reducible apply State.countGap_kept
    | with_reducible apply State.modTile_kept
    | with_reducible apply State.ringLevels_kept
    | exact kd.mem (by decide)
    | exact kd.mem (pick_mem (by decide) (by decide))
    | exact kd.mono (by decide)
    | with_reducible refine Kept.foldl (fun _ _ _ => ?_) ?_
    | with_reducible refine Kept.foldl1 (fun _ _ _ => ?_) ?_
    | split
    | fail_if_no_progress with_reducible apply kk.rest

theorem State.buildRun_kept {P : State → Prop} (kk : Kept P) (km : KeptM P) (kc : KeptC P) (kd : KeptD P [0x3010, 0x3020, 0x3021, 0x4102, 0x4103]) {s : State} {n : Nat} (h_s : P s) :
    P (State.buildRun s n) := by
  unfold State.buildRun
  repeat' first
    | with_reducible assumption
    | with_reducible intro _
    | (extract_lets +onlyGivenNames zz
       first
         | (with_reducible refine Kept.cut (P := P) (x := zz) ?_ ?_
            on_goal 2 => clear_value zz
            on_goal 1 => subst zz)
         | (with_reducible refine Kept.cut1 (P := P) (x := zz) ?_ ?_
            on_goal 2 => clear_value zz
            on_goal 1 => subst zz)
         | (have zn : Nat := zz
            clear zn
            subst zz)
         | clear_value zz
         | subst zz)
    | with_reducible apply State.fillSlots_kept
    | with_reducible apply State.loadInputs_kept
    | with_reducible apply State.readRecords_kept
    | with_reducible apply State.setCtx_kept
    | exact kd.mem (by decide)
    | exact kd.mem (pick_mem (by decide) (by decide))
    | exact kd.mono (by decide)
    | with_reducible refine Kept.foldl (fun _ _ _ => ?_) ?_
    | with_reducible refine Kept.foldl1 (fun _ _ _ => ?_) ?_
    | split
    | fail_if_no_progress with_reducible apply kk.rest

theorem State.beginStep_kept {P : State → Prop} (kk : Kept P) (km : KeptM P) (kc : KeptC P) (kd : KeptD P [0x3010, 0x3020, 0x3021, 0x3031, 0x3040, 0x3041, 0x4102, 0x4103]) {s : State} {n : Nat} (h_s : P s) :
    P (State.beginStep s n) := by
  unfold State.beginStep
  repeat' first
    | with_reducible assumption
    | with_reducible intro _
    | (extract_lets +onlyGivenNames zz
       first
         | (with_reducible refine Kept.cut (P := P) (x := zz) ?_ ?_
            on_goal 2 => clear_value zz
            on_goal 1 => subst zz)
         | (with_reducible refine Kept.cut1 (P := P) (x := zz) ?_ ?_
            on_goal 2 => clear_value zz
            on_goal 1 => subst zz)
         | (have zn : Nat := zz
            clear zn
            subst zz)
         | clear_value zz
         | subst zz)
    | with_reducible apply State.buildRun_kept
    | with_reducible apply State.modCtx_kept
    | with_reducible apply State.shiftDown_kept
    | exact kd.mem (by decide)
    | exact kd.mem (pick_mem (by decide) (by decide))
    | exact kd.mono (by decide)
    | split
    | fail_if_no_progress with_reducible apply kk.rest

theorem State.retract_kept {P : State → Prop} (kk : Kept P) (kc : KeptC P) (kd : KeptD P [0x6010, 0x7040, 0x9030, 0x9031, 0xF030]) {s : State} {n : Nat} {p : Item → Bool} (h_s : P s) :
    P (State.retract s n p) := by
  unfold State.retract
  repeat' first
    | with_reducible assumption
    | with_reducible intro _
    | (extract_lets +onlyGivenNames zz
       first
         | (with_reducible refine Kept.cut (P := P) (x := zz) ?_ ?_
            on_goal 2 => clear_value zz
            on_goal 1 => subst zz)
         | (with_reducible refine Kept.cut1 (P := P) (x := zz) ?_ ?_
            on_goal 2 => clear_value zz
            on_goal 1 => subst zz)
         | (have zn : Nat := zz
            clear zn
            subst zz)
         | clear_value zz
         | subst zz)
    | with_reducible apply State.bumpAt_kept
    | with_reducible apply State.handItem_kept
    | with_reducible apply State.modCtx_kept
    | exact kd.mem (by decide)
    | exact kd.mem (pick_mem (by decide) (by decide))
    | exact kd.mono (by decide)
    | with_reducible refine Kept.foldl (fun _ _ _ => ?_) ?_
    | with_reducible refine Kept.foldl1 (fun _ _ _ => ?_) ?_
    | split
    | fail_if_no_progress with_reducible apply kk.rest

theorem State.retractAll_kept {P : State → Prop} (kk : Kept P) (kc : KeptC P) (kd : KeptD P [0x6010, 0x7040, 0x9030, 0x9031, 0xF030]) {s : State} {n : Nat} (h_s : P s) :
    P (State.retractAll s n) := by
  unfold State.retractAll
  repeat' first
    | with_reducible assumption
    | with_reducible intro _
    | with_reducible apply State.retract_kept
    | exact kd.mem (by decide)
    | exact kd.mem (pick_mem (by decide) (by decide))
    | exact kd.mono (by decide)
    | split
    | fail_if_no_progress with_reducible apply kk.rest

theorem State.discardRun_kept {P : State → Prop} (kk : Kept P) (kc : KeptC P) (kt : KeptT P) (kd : KeptD P [0x4014, 0x4021]) {s : State} {n : Nat} (h_s : P s) :
    P (State.discardRun s n) := by
  unfold State.discardRun
  repeat' first
    | with_reducible assumption
    | with_reducible intro _
    | with_reducible apply State.dropSnapshots_kept
    | with_reducible apply State.flushTiles_kept
    | with_reducible apply State.modCtx_kept
    | exact kd.mem (by decide)
    | exact kd.mem (pick_mem (by decide) (by decide))
    | exact kd.mono (by decide)
    | split
    | fail_if_no_progress with_reducible apply kk.rest

theorem State.repeatForward_kept {P : State → Prop} (kk : Kept P) (kc : KeptC P) (kt : KeptT P) (kd : KeptD P [0x4014, 0x4102, 0x4103]) {s : State} {n k : Nat} {bs : List Nat} (h_s : P s) :
    P (State.repeatForward s n k bs) := by
  unfold State.repeatForward
  repeat' first
    | with_reducible assumption
    | with_reducible intro _
    | (extract_lets +onlyGivenNames zz
       first
         | (with_reducible refine Kept.cut (P := P) (x := zz) ?_ ?_
            on_goal 2 => clear_value zz
            on_goal 1 => subst zz)
         | (with_reducible refine Kept.cut1 (P := P) (x := zz) ?_ ?_
            on_goal 2 => clear_value zz
            on_goal 1 => subst zz)
         | (have zn : Nat := zz
            clear zn
            subst zz)
         | clear_value zz
         | subst zz)
    | with_reducible apply State.fillSlots_kept
    | with_reducible apply State.flushTiles_kept
    | with_reducible apply State.setCtx_kept
    | exact kd.mem (by decide)
    | exact kd.mem (pick_mem (by decide) (by decide))
    | exact kd.mono (by decide)
    | split
    | fail_if_no_progress with_reducible apply kk.rest

theorem State.rescaleForward_kept {P : State → Prop} (kk : Kept P) (kc : KeptC P) (kt : KeptT P) (kd : KeptD P [0x3020, 0x3021, 0x4014, 0x4102, 0x4103]) {s : State} {n k : Nat} {h : HalfId} {t : Tensor} (h_s : P s) :
    P (State.rescaleForward s n k h t) := by
  unfold State.rescaleForward
  repeat' first
    | with_reducible assumption
    | with_reducible intro _
    | (extract_lets +onlyGivenNames zz
       first
         | (with_reducible refine Kept.cut (P := P) (x := zz) ?_ ?_
            on_goal 2 => clear_value zz
            on_goal 1 => subst zz)
         | (with_reducible refine Kept.cut1 (P := P) (x := zz) ?_ ?_
            on_goal 2 => clear_value zz
            on_goal 1 => subst zz)
         | (have zn : Nat := zz
            clear zn
            subst zz)
         | clear_value zz
         | subst zz)
    | with_reducible apply State.bump_kept
    | with_reducible apply State.modCtx_kept
    | with_reducible apply State.repeatForward_kept
    | exact kd.mem (by decide)
    | exact kd.mem (pick_mem (by decide) (by decide))
    | exact kd.mono (by decide)
    | split
    | fail_if_no_progress with_reducible apply kk.rest

theorem State.holdNumerics_kept {P : State → Prop} (kk : Kept P) (kc : KeptC P) (kt : KeptT P) (kh : KeptH P) (kv : KeptV P) (kd : KeptD P [0x1012, 0x1013, 0x1015, 0x1016, 0x3032, 0x3040, 0x3041, 0x4014, 0x4021, 0x6010, 0x7040, 0x9030, 0x9031, 0xF030]) (kn : KeptN P) {s : State} {n cause : Nat} {h : HalfId} (h_s : P s) :
    P (State.holdNumerics s n cause h) := by
  unfold State.holdNumerics
  repeat' first
    | with_reducible assumption
    | with_reducible intro _
    | (extract_lets +onlyGivenNames zz
       first
         | (with_reducible refine Kept.cut (P := P) (x := zz) ?_ ?_
            on_goal 2 => clear_value zz
            on_goal 1 => subst zz)
         | (with_reducible refine Kept.cut1 (P := P) (x := zz) ?_ ?_
            on_goal 2 => clear_value zz
            on_goal 1 => subst zz)
         | (have zn : Nat := zz
            clear zn
            subst zz)
         | clear_value zz
         | subst zz)
    | with_reducible apply State.bump_kept
    | with_reducible apply State.discardRun_kept
    | with_reducible apply State.holdCompanions_kept
    | with_reducible apply State.modCtx_kept
    | with_reducible apply State.modHalf_kept
    | with_reducible apply State.put64At_kept
    | with_reducible apply State.putAt_kept
    | with_reducible apply State.reasonHold_kept
    | with_reducible apply State.retractAll_kept
    | with_reducible apply State.throttle_kept
    | exact kd.mem (by decide)
    | exact kd.mem (pick_mem (by decide) (by decide))
    | exact kd.mono (by decide)
    | exact kn.mem _
    | split
    | fail_if_no_progress with_reducible apply kk.rest

theorem State.storm_kept {P : State → Prop} (kk : Kept P) (km : KeptM P) (kc : KeptC P) (kt : KeptT P) (kh : KeptH P) (kv : KeptV P) (kd : KeptD P [0x1012, 0x1013, 0x1015, 0x1016, 0x3010, 0x3020, 0x3021, 0x3032, 0x3040, 0x3041, 0x4014, 0x4021, 0x4102, 0x4103, 0x6010, 0x7040, 0x9030, 0x9031, 0xF030]) (kn : KeptN P) {s : State} {n : Nat} {c : Ctx} (h_s : P s) :
    P (State.storm s n c) := by
  unfold State.storm
  repeat' first
    | with_reducible assumption
    | with_reducible intro _
    | (extract_lets +onlyGivenNames zz
       first
         | (with_reducible refine Kept.cut (P := P) (x := zz) ?_ ?_
            on_goal 2 => clear_value zz
            on_goal 1 => subst zz)
         | (with_reducible refine Kept.cut1 (P := P) (x := zz) ?_ ?_
            on_goal 2 => clear_value zz
            on_goal 1 => subst zz)
         | (have zn : Nat := zz
            clear zn
            subst zz)
         | clear_value zz
         | subst zz)
    | with_reducible apply State.buildRun_kept
    | with_reducible apply State.bump_kept
    | with_reducible apply State.discardRun_kept
    | with_reducible apply State.holdNumerics_kept
    | with_reducible apply State.log_kept
    | with_reducible apply State.modCtx_kept
    | with_reducible apply State.modHalf_kept
    | with_reducible apply State.putAt_kept
    | with_reducible apply State.retractAll_kept
    | with_reducible apply State.throttle_kept
    | exact kd.mem (by decide)
    | exact kd.mem (pick_mem (by decide) (by decide))
    | exact kd.mono (by decide)
    | exact kn.mem _
    | split
    | fail_if_no_progress with_reducible apply kk.rest

theorem State.noteTrigger_kept {P : State → Prop} (kk : Kept P) (kc : KeptC P) {s : State} {n k : Nat} (h_s : P s) :
    P (State.noteTrigger s n k) := by
  unfold State.noteTrigger
  repeat' first
    | with_reducible assumption
    | with_reducible intro _
    | with_reducible apply State.modCtx_kept
    | split
    | fail_if_no_progress with_reducible apply kk.rest

theorem State.watchForward_kept {P : State → Prop} (kk : Kept P) (kc : KeptC P) (kd : KeptD P [0x3031]) {s : State} {n k : Nat} {L : Layer} {t : Tensor} (h_s : P s) :
    P (State.watchForward s n k L t).1 := by
  unfold State.watchForward
  repeat' first
    | with_reducible assumption
    | with_reducible intro _
    | (extract_lets +onlyGivenNames zz
       first
         | (with_reducible refine Kept.cut (P := P) (x := zz) ?_ ?_
            on_goal 2 => clear_value zz
            on_goal 1 => subst zz)
         | (with_reducible refine Kept.cut1 (P := P) (x := zz) ?_ ?_
            on_goal 2 => clear_value zz
            on_goal 1 => subst zz)
         | (have zn : Nat := zz
            clear zn
            subst zz)
         | clear_value zz
         | subst zz)
    | with_reducible apply State.putWatch_kept
    | exact kd.mem (by decide)
    | exact kd.mem (pick_mem (by decide) (by decide))
    | exact kd.mono (by decide)
    | with_reducible refine Kept.foldl (fun _ _ _ => ?_) ?_
    | with_reducible refine Kept.foldl1 (fun _ _ _ => ?_) ?_
    | split
    | fail_if_no_progress with_reducible apply kk.rest

theorem State.shiftForward_kept {P : State → Prop} (kk : Kept P) (kc : KeptC P) (kd : KeptD P [0x3031, 0x3040, 0x3041]) {s : State} {n k : Nat} {h : HalfId} {b : Option Nat} (h_s : P s) :
    P (State.shiftForward s n k h b) := by
  unfold State.shiftForward
  repeat' first
    | with_reducible assumption
    | with_reducible intro _
    | (extract_lets +onlyGivenNames zz
       first
         | (with_reducible refine Kept.cut (P := P) (x := zz) ?_ ?_
            on_goal 2 => clear_value zz
            on_goal 1 => subst zz)
         | (with_reducible refine Kept.cut1 (P := P) (x := zz) ?_ ?_
            on_goal 2 => clear_value zz
            on_goal 1 => subst zz)
         | (have zn : Nat := zz
            clear zn
            subst zz)
         | clear_value zz
         | subst zz)
    | with_reducible apply State.bump_kept
    | with_reducible apply State.putWatch_kept
    | exact kd.mem (by decide)
    | exact kd.mem (pick_mem (by decide) (by decide))
    | exact kd.mono (by decide)
    | split
    | fail_if_no_progress with_reducible apply kk.rest

theorem State.widenInput_kept {P : State → Prop} (kk : Kept P) (kc : KeptC P) {s : State} {n : Nat} {L : Layer} (h_s : P s) :
    P (State.widenInput s n L) := by
  unfold State.widenInput
  repeat' first
    | with_reducible assumption
    | with_reducible intro _
    | (extract_lets +onlyGivenNames zz
       first
         | (with_reducible refine Kept.cut (P := P) (x := zz) ?_ ?_
            on_goal 2 => clear_value zz
            on_goal 1 => subst zz)
         | (with_reducible refine Kept.cut1 (P := P) (x := zz) ?_ ?_
            on_goal 2 => clear_value zz
            on_goal 1 => subst zz)
         | (have zn : Nat := zz
            clear zn
            subst zz)
         | clear_value zz
         | subst zz)
    | with_reducible apply State.setCtx_kept
    | with_reducible refine Kept.foldl (fun _ _ _ => ?_) ?_
    | with_reducible refine Kept.foldl1 (fun _ _ _ => ?_) ?_
    | split
    | fail_if_no_progress with_reducible apply kk.rest

theorem State.passForward_kept {P : State → Prop} (kk : Kept P) (km : KeptM P) (kc : KeptC P) (kd : KeptD P [0x3010]) {s : State} {n : Nat} {h : HalfId} {t : Tensor} {init : Word} (h_s : P s) :
    P (State.passForward s n h t init) := by
  unfold State.passForward
  repeat' first
    | with_reducible assumption
    | with_reducible intro _
    | with_reducible apply State.modCtx_kept
    | with_reducible apply State.recordTensor_kept
    | exact kd.mem (by decide)
    | exact kd.mem (pick_mem (by decide) (by decide))
    | exact kd.mono (by decide)
    | split
    | fail_if_no_progress with_reducible apply kk.rest

theorem State.evalForward_kept {P : State → Prop} (kk : Kept P) (km : KeptM P) (kc : KeptC P) (kt : KeptT P) (kh : KeptH P) (kv : KeptV P) (kd : KeptD P [0x1012, 0x1013, 0x1015, 0x1016, 0x3010, 0x3020, 0x3021, 0x3031, 0x3032, 0x3040, 0x3041, 0x4014, 0x4021, 0x4102, 0x4103, 0x6010, 0x7040, 0x9030, 0x9031, 0xF030]) (kn : KeptN P) {s : State} {n k : Nat} (h_s : P s) :
    P (State.evalForward s n k) := by
  unfold State.evalForward
  repeat' first
    | with_reducible assumption
    | with_reducible intro _
    | (extract_lets +onlyGivenNames zz
       first
         | (with_reducible refine Kept.cut (P := P) (x := zz) ?_ ?_
            on_goal 2 => clear_value zz
            on_goal 1 => subst zz)
         | (with_reducible refine Kept.cut1 (P := P) (x := zz) ?_ ?_
            on_goal 2 => clear_value zz
            on_goal 1 => subst zz)
         | (have zn : Nat := zz
            clear zn
            subst zz)
         | clear_value zz
         | subst zz)
    | with_reducible apply Kept.ident
    | with_reducible apply State.bump_kept
    | with_reducible apply State.holdNumerics_kept
    | with_reducible apply State.modCtx_kept
    | with_reducible apply State.noteTrigger_kept
    | with_reducible apply State.passForward_kept
    | with_reducible apply State.putWatch_kept
    | with_reducible apply State.repeatForward_kept
    | with_reducible apply State.rescaleForward_kept
    | with_reducible apply State.shiftForward_kept
    | with_reducible apply State.storm_kept
    | with_reducible apply State.watchForward_kept
    | with_reducible apply State.widenInput_kept
    | exact kd.mem (by decide)
    | exact kd.mem (pick_mem (by decide) (by decide))
    | exact kd.mono (by decide)
    | exact kn.mem _
    | with_reducible refine Kept.foldl (fun _ _ _ => ?_) ?_
    | with_reducible refine Kept.foldl1 (fun _ _ _ => ?_) ?_
    | split
    | fail_if_no_progress with_reducible apply kk.rest

end Sys2Proof.Machine
end

