-- ==== Sys2Proof/Laws/KeptBackward.lean ====
section
/-! SUPPORT. What every definition of Machine/Backward.lean keeps of a state: one lemma each (Laws/Kept.lean). -/

namespace Sys2Proof.Machine

open Sys2Proof

set_option linter.all false

theorem State.readMasks_kept {P : State → Prop} (kk : Kept P) (kc : KeptC P) {s : State} {n : Nat} (h_s : P s) :
    P (State.readMasks s n) := by
  unfold State.readMasks
  repeat' first
    | with_reducible assumption
    | with_reducible intro _
    | (extract_lets +onlyGivenNames zz
       first
         | (with_reducible refine Kept.cut (P := P) (x := zz) ?_ ?_
            on_goal 2 => clear_value zz
            on_goal 1 => subst zz)
         | (with_reducible refine Kept.cut1 (P := P) (x := zz) ?_ ?_
            on_goal 2 => clear_value zz
            on_goal 1 => subst zz)
         | (have zn : Nat := zz
            clear zn
            subst zz)
         | clear_value zz
         | subst zz)
    | with_reducible apply State.modCtx_kept
    | split
    | fail_if_no_progress with_reducible apply kk.rest

theorem State.keepPartial_kept {P : State → Prop} (kk : Kept P) (kc : KeptC P) {s : State} {n : Nat} {x : Strand} (h_s : P s) :
    P (State.keepPartial s n x) := by
  unfold State.keepPartial
  repeat' first
    | with_reducible assumption
    | with_reducible intro _
    | (extract_lets +onlyGivenNames zz
       first
         | (with_reducible refine Kept.cut (P := P) (x := zz) ?_ ?_
            on_goal 2 => clear_value zz
            on_goal 1 => subst zz)
         | (with_reducible refine Kept.cut1 (P := P) (x := zz) ?_ ?_
            on_goal 2 => clear_value zz
            on_goal 1 => subst zz)
         | (have zn : Nat := zz
            clear zn
            subst zz)
         | clear_value zz
         | subst zz)
    | with_reducible apply State.setCtx_kept
    | split
    | fail_if_no_progress with_reducible apply kk.rest

theorem State.convGrad_kept {P : State → Prop} (kk : Kept P) (kc : KeptC P) (kd : KeptD P [0x3020, 0x3021]) {s : State} {n : Nat} {L : Layer} {t : Tensor} {terms : Nat} (h_s : P s) :
    P (State.convGrad s n L t terms).1 := by
  unfold State.convGrad
  repeat' first
    | with_reducible assumption
    | with_reducible intro _
    | with_reducible apply State.convBlocks_kept
    | exact kd.mem (by decide)
    | exact kd.mem (pick_mem (by decide) (by decide))
    | exact kd.mono (by decide)
    | split
    | fail_if_no_progress with_reducible apply kk.rest

theorem State.watchGrad_kept {P : State → Prop} (kk : Kept P) (kc : KeptC P) (kd : KeptD P [0x3031]) {s : State} {n k : Nat} {L : Layer} {t : Tensor} (h_s : P s) :
    P (State.watchGrad s n k L t).1 := by
  unfold State.watchGrad
  repeat' first
    | with_reducible assumption
    | with_reducible intro _
    | (extract_lets +onlyGivenNames zz
       first
         | (with_reducible refine Kept.cut (P := P) (x := zz) ?_ ?_
            on_goal 2 => clear_value zz
            on_goal 1 => subst zz)
         | (with_reducible refine Kept.cut1 (P := P) (x := zz) ?_ ?_
            on_goal 2 => clear_value zz
            on_goal 1 => subst zz)
         | (have zn : Nat := zz
            clear zn
            subst zz)
         | clear_value zz
         | subst zz)
    | with_reducible apply State.putWatch_kept
    | exact kd.mem (by decide)
    | exact kd.mem (pick_mem (by decide) (by decide))
    | exact kd.mono (by decide)
    | split
    | fail_if_no_progress with_reducible apply kk.rest

theorem State.passGrad_kept {P : State → Prop} (kk : Kept P) (kc : KeptC P) {s : State} {n : Nat} {t : Tensor} (h_s : P s) :
    P (State.passGrad s n t) := by
  unfold State.passGrad
  repeat' first
    | with_reducible assumption
    | with_reducible intro _
    | (extract_lets +onlyGivenNames zz
       first
         | (with_reducible refine Kept.cut (P := P) (x := zz) ?_ ?_
            on_goal 2 => clear_value zz
            on_goal 1 => subst zz)
         | (with_reducible refine Kept.cut1 (P := P) (x := zz) ?_ ?_
            on_goal 2 => clear_value zz
            on_goal 1 => subst zz)
         | (have zn : Nat := zz
            clear zn
            subst zz)
         | clear_value zz
         | subst zz)
    | with_reducible apply State.modCtx_kept
    | split
    | fail_if_no_progress with_reducible apply kk.rest

theorem State.retractLayers_kept {P : State → Prop} (kk : Kept P) (kc : KeptC P) (kd : KeptD P [0x6010, 0x7040, 0x9030, 0x9031, 0xF030]) {s : State} {n : Nat} {l : List Nat} (h_s : P s) :
    P (State.retractLayers s n l) := by
  unfold State.retractLayers
  repeat' first
    | with_reducible assumption
    | with_reducible intro _
    | (extract_lets +onlyGivenNames zz
       first
         | (with_reducible refine Kept.cut (P := P) (x := zz) ?_ ?_
            on_goal 2 => clear_value zz
            on_goal 1 => subst zz)
         | (with_reducible refine Kept.cut1 (P := P) (x := zz) ?_ ?_
            on_goal 2 => clear_value zz
            on_goal 1 => subst zz)
         | (have zn : Nat := zz
            clear zn
            subst zz)
         | clear_value zz
         | subst zz)
    | with_reducible apply State.retract_kept
    | with_reducible apply State.setCtx_kept
    | exact kd.mem (by decide)
    | exact kd.mem (pick_mem (by decide) (by decide))
    | exact kd.mono (by decide)
    | with_reducible refine Kept.foldl (fun _ _ _ => ?_) ?_
    | with_reducible refine Kept.foldl1 (fun _ _ _ => ?_) ?_
    | split
    | fail_if_no_progress with_reducible apply kk.rest

theorem State.holdSnapshots_kept {P : State → Prop}  (kd : KeptD P [0x4021]) {s : State} {c : Ctx} {k : Nat} {L : Layer} (h_s : P s) :
    P (State.holdSnapshots s c k L) := by
  unfold State.holdSnapshots
  repeat' first
    | with_reducible assumption
    | with_reducible intro _
    | with_reducible apply State.putAt_kept
    | exact kd.mem (by decide)
    | exact kd.mem (pick_mem (by decide) (by decide))
    | exact kd.mono (by decide)
    | with_reducible refine Kept.foldl (fun _ _ _ => ?_) ?_
    | with_reducible refine Kept.foldl1 (fun _ _ _ => ?_) ?_
    | split
    | fail_if_no_progress with_reducible apply kk.rest

theorem State.reissueGrad_kept {P : State → Prop} (kk : Kept P) (kc : KeptC P) (kd : KeptD P [0x4021, 0x4102, 0x4103, 0x6010, 0x7040, 0x9030, 0x9031, 0xF030]) {s : State} {n : Nat} {t : Tensor} (h_s : P s) :
    P (State.reissueGrad s n t) := by
  unfold State.reissueGrad
  repeat' first
    | with_reducible assumption
    | with_reducible intro _
    | (extract_lets +onlyGivenNames zz
       first
         | (with_reducible refine Kept.cut (P := P) (x := zz) ?_ ?_
            on_goal 2 => clear_value zz
            on_goal 1 => subst zz)
         | (with_reducible refine Kept.cut1 (P := P) (x := zz) ?_ ?_
            on_goal 2 => clear_value zz
            on_goal 1 => subst zz)
         | (have zn : Nat := zz
            clear zn
            subst zz)
         | clear_value zz
         | subst zz)
    | with_reducible apply State.fillSlots_kept
    | with_reducible apply State.holdSnapshots_kept
    | with_reducible apply State.modCtx_kept
    | with_reducible apply State.retractLayers_kept
    | exact kd.mem (by decide)
    | exact kd.mem (pick_mem (by decide) (by decide))
    | exact kd.mono (by decide)
    | with_reducible refine Kept.foldl (fun _ _ _ => ?_) ?_
    | with_reducible refine Kept.foldl1 (fun _ _ _ => ?_) ?_
    | split
    | fail_if_no_progress with_reducible apply kk.rest

theorem State.judgeGrad_kept {P : State → Prop} (kk : Kept P) (km : KeptM P) (kc : KeptC P) (kt : KeptT P) (kh : KeptH P) (kv : KeptV P) (kd : KeptD P [0x1012, 0x1013, 0x1015, 0x1016, 0x3010, 0x3020, 0x3021, 0x3031, 0x3032, 0x3040, 0x3041, 0x4014, 0x4021, 0x4102, 0x4103, 0x6010, 0x7040, 0x9030, 0x9031, 0xF030]) (kn : KeptN P) {s : State} {n k : Nat} {seed : Bool} {c : Ctx} {L : Layer} {t : Tensor} (h_s : P s) :
    P (State.judgeGrad s n k seed c L t) := by
  unfold State.judgeGrad
  repeat' first
    | with_reducible assumption
    | with_reducible intro _
    | (extract_lets +onlyGivenNames zz
       first
         | (with_reducible refine Kept.cut (P := P) (x := zz) ?_ ?_
            on_goal 2 => clear_value zz
            on_goal 1 => subst zz)
         | (with_reducible refine Kept.cut1 (P := P) (x := zz) ?_ ?_
            on_goal 2 => clear_value zz
            on_goal 1 => subst zz)
         | (have zn : Nat := zz
            clear zn
            subst zz)
         | clear_value zz
         | subst zz)
    | with_reducible apply State.bump_kept
    | with_reducible apply State.convGrad_kept
    | with_reducible apply State.holdNumerics_kept
    | with_reducible apply State.modCtx_kept
    | with_reducible apply State.noteTrigger_kept
    | with_reducible apply State.passGrad_kept
    | with_reducible apply State.putWatch_kept
    | with_reducible apply State.reissueGrad_kept
    | with_reducible apply State.storm_kept
    | with_reducible apply State.watchGrad_kept
    | exact kd.mem (by decide)
    | exact kd.mem (pick_mem (by decide) (by decide))
    | exact kd.mono (by decide)
    | exact kn.mem _
    | split
    | fail_if_no_progress with_reducible apply kk.rest

theorem State.evalGrad_kept {P : State → Prop} (kk : Kept P) (km : KeptM P) (kc : KeptC P) (kt : KeptT P) (kh : KeptH P) (kv : KeptV P) (kd : KeptD P [0x1012, 0x1013, 0x1015, 0x1016, 0x3010, 0x3020, 0x3021, 0x3031, 0x3032, 0x3040, 0x3041, 0x4014, 0x4021, 0x4102, 0x4103, 0x6010, 0x7040, 0x9030, 0x9031, 0xF030]) (kn : KeptN P) {s : State} {n k : Nat} {seed : Bool} (h_s : P s) :
    P (State.evalGrad s n k seed) := by
  unfold State.evalGrad
  repeat' first
    | with_reducible assumption
    | with_reducible intro _
    | (extract_lets +onlyGivenNames zz
       first
         | (with_reducible refine Kept.cut (P := P) (x := zz) ?_ ?_
            on_goal 2 => clear_value zz
            on_goal 1 => subst zz)
         | (with_reducible refine Kept.cut1 (P := P) (x := zz) ?_ ?_
            on_goal 2 => clear_value zz
            on_goal 1 => subst zz)
         | (have zn : Nat := zz
            clear zn
            subst zz)
         | clear_value zz
         | subst zz)
    | with_reducible apply State.bump_kept
    | with_reducible apply State.convGrad_kept
    | with_reducible apply State.judgeGrad_kept
    | with_reducible apply State.modCtx_kept
    | with_reducible apply State.reissueGrad_kept
    | exact kd.mem (by decide)
    | exact kd.mem (pick_mem (by decide) (by decide))
    | exact kd.mono (by decide)
    | exact kn.mem _
    | split
    | fail_if_no_progress with_reducible apply kk.rest

theorem State.addLinkGrad_kept {P : State → Prop} (kk : Kept P) (kc : KeptC P) (kd : KeptD P [0x3020, 0x3021]) {s : State} {n id place : Nat} {c : Ctx} {g : Nat → Nat → Word} (h_s : P s) :
    P (State.addLinkGrad s n id place c g) := by
  unfold State.addLinkGrad
  repeat' first
    | with_reducible assumption
    | with_reducible intro _
    | (extract_lets +onlyGivenNames zz
       first
         | (with_reducible refine Kept.cut (P := P) (x := zz) ?_ ?_
            on_goal 2 => clear_value zz
            on_goal 1 => subst zz)
         | (with_reducible refine Kept.cut1 (P := P) (x := zz) ?_ ?_
            on_goal 2 => clear_value zz
            on_goal 1 => subst zz)
         | (have zn : Nat := zz
            clear zn
            subst zz)
         | clear_value zz
         | subst zz)
    | with_reducible apply Kept.ident
    | with_reducible apply State.convGrad_kept
    | with_reducible apply State.passGrad_kept
    | with_reducible apply State.setCtx_kept
    | exact kd.mem (by decide)
    | exact kd.mem (pick_mem (by decide) (by decide))
    | exact kd.mono (by decide)
    | split
    | fail_if_no_progress with_reducible apply kk.rest

theorem State.addGrad_kept {P : State → Prop} (kk : Kept P) (km : KeptM P) (kc : KeptC P) (kt : KeptT P) (kh : KeptH P) (kv : KeptV P) (kd : KeptD P [0x1012, 0x1013, 0x1015, 0x1016, 0x3010, 0x3020, 0x3021, 0x3031, 0x3032, 0x3040, 0x3041, 0x4014, 0x4021, 0x4102, 0x4103, 0x6010, 0x7040, 0x9030, 0x9031, 0xF030]) (kn : KeptN P) {s : State} {n id place : Nat} {g : Nat → Nat → Word} (h_s : P s) :
    P (State.addGrad s n id place g) := by
  unfold State.addGrad
  repeat' first
    | with_reducible assumption
    | with_reducible intro _
    | (extract_lets +onlyGivenNames zz
       first
         | (with_reducible refine Kept.cut (P := P) (x := zz) ?_ ?_
            on_goal 2 => clear_value zz
            on_goal 1 => subst zz)
         | (with_reducible refine Kept.cut1 (P := P) (x := zz) ?_ ?_
            on_goal 2 => clear_value zz
            on_goal 1 => subst zz)
         | (have zn : Nat := zz
            clear zn
            subst zz)
         | clear_value zz
         | subst zz)
    | with_reducible apply Kept.ident
    | with_reducible apply State.addLinkGrad_kept
    | with_reducible apply State.evalGrad_kept
    | with_reducible apply State.setCtx_kept
    | exact kd.mem (by decide)
    | exact kd.mem (pick_mem (by decide) (by decide))
    | exact kd.mono (by decide)
    | exact kn.mem _
    | split
    | fail_if_no_progress with_reducible apply kk.rest

theorem State.finishDX_kept {P : State → Prop} (kk : Kept P) (km : KeptM P) (kc : KeptC P) (kt : KeptT P) (kh : KeptH P) (kv : KeptV P) (kd : KeptD P [0x1012, 0x1013, 0x1015, 0x1016, 0x3010, 0x3020, 0x3021, 0x3031, 0x3032, 0x3040, 0x3041, 0x4014, 0x4021, 0x4102, 0x4103, 0x6010, 0x7040, 0x9030, 0x9031, 0xF030]) (kn : KeptN P) {s : State} {n k : Nat} (h_s : P s) :
    P (State.finishDX s n k) := by
  unfold State.finishDX
  repeat' first
    | with_reducible assumption
    | with_reducible intro _
    | (extract_lets +onlyGivenNames zz
       first
         | (with_reducible refine Kept.cut (P := P) (x := zz) ?_ ?_
            on_goal 2 => clear_value zz
            on_goal 1 => subst zz)
         | (with_reducible refine Kept.cut1 (P := P) (x := zz) ?_ ?_
            on_goal 2 => clear_value zz
            on_goal 1 => subst zz)
         | (have zn : Nat := zz
            clear zn
            subst zz)
         | clear_value zz
         | subst zz)
    | with_reducible apply State.addGrad_kept
    | exact kd.mem (by decide)
    | exact kd.mem (pick_mem (by decide) (by decide))
    | exact kd.mono (by decide)
    | exact kn.mem _
    | split
    | fail_if_no_progress with_reducible apply kk.rest

theorem State.finishDW_kept {P : State → Prop} (kk : Kept P) (kc : KeptC P) {s : State} {n k : Nat} (h_s : P s) :
    P (State.finishDW s n k) := by
  unfold State.finishDW
  repeat' first
    | with_reducible assumption
    | with_reducible intro _
    | (extract_lets +onlyGivenNames zz
       first
         | (with_reducible refine Kept.cut (P := P) (x := zz) ?_ ?_
            on_goal 2 => clear_value zz
            on_goal 1 => subst zz)
         | (with_reducible refine Kept.cut1 (P := P) (x := zz) ?_ ?_
            on_goal 2 => clear_value zz
            on_goal 1 => subst zz)
         | (have zn : Nat := zz
            clear zn
            subst zz)
         | clear_value zz
         | subst zz)
    | with_reducible apply State.setCtx_kept
    | with_reducible refine Kept.foldl (fun _ _ _ => ?_) ?_
    | with_reducible refine Kept.foldl1 (fun _ _ _ => ?_) ?_
    | split
    | fail_if_no_progress with_reducible apply kk.rest

theorem State.beginBackward_kept {P : State → Prop} (kk : Kept P) (km : KeptM P) (kc : KeptC P) (kt : KeptT P) (kh : KeptH P) (kv : KeptV P) (kd : KeptD P [0x1012, 0x1013, 0x1015, 0x1016, 0x3010, 0x3020, 0x3021, 0x3031, 0x3032, 0x3040, 0x3041, 0x4014, 0x4021, 0x4102, 0x4103, 0x6010, 0x7040, 0x9030, 0x9031, 0xF030]) (kn : KeptN P) {s : State} {n : Nat} (h_s : P s) :
    P (State.beginBackward s n) := by
  unfold State.beginBackward
  repeat' first
    | with_reducible assumption
    | with_reducible intro _
    | (extract_lets +onlyGivenNames zz
       first
         | (with_reducible refine Kept.cut (P := P) (x := zz) ?_ ?_
            on_goal 2 => clear_value zz
            on_goal 1 => subst zz)
         | (with_reducible refine Kept.cut1 (P := P) (x := zz) ?_ ?_
            on_goal 2 => clear_value zz
            on_goal 1 => subst zz)
         | (have zn : Nat := zz
            clear zn
            subst zz)
         | clear_value zz
         | subst zz)
    | with_reducible apply State.evalGrad_kept
    | with_reducible apply State.fillSlots_kept
    | with_reducible apply State.modCtx_kept
    | with_reducible apply State.setCtx_kept
    | exact kd.mem (by decide)
    | exact kd.mem (pick_mem (by decide) (by decide))
    | exact kd.mono (by decide)
    | exact kn.mem _
    | with_reducible refine Kept.foldl (fun _ _ _ => ?_) ?_
    | with_reducible refine Kept.foldl1 (fun _ _ _ => ?_) ?_
    | split
    | fail_if_no_progress with_reducible apply kk.rest

end Sys2Proof.Machine
end

