-- ==== Sys2Proof/Laws/KeptWork.lean ====
section
/-! SUPPORT. What every definition of Machine/Work.lean keeps of a state: one lemma each (Laws/Kept.lean). -/

namespace Sys2Proof.Machine

open Sys2Proof

set_option linter.all false

theorem State.enterProbation_kept {P : State → Prop} (kk : Kept P) (kd : KeptD P [0x0080, 0x7021, 0x7040, 0xF030]) {s : State} (h_s : P s) :
    P (State.enterProbation s) := by
  unfold State.enterProbation
  repeat' first
    | with_reducible assumption
    | with_reducible intro _
    | (extract_lets +onlyGivenNames zz
       first
         | (with_reducible refine Kept.cut (P := P) (x := zz) ?_ ?_
            on_goal 2 => clear_value zz
            on_goal 1 => subst zz)
         | (with_reducible refine Kept.cut1 (P := P) (x := zz) ?_ ?_
            on_goal 2 => clear_value zz
            on_goal 1 => subst zz)
         | (have zn : Nat := zz
            clear zn
            subst zz)
         | clear_value zz
         | subst zz)
    | with_reducible apply State.log_kept
    | with_reducible apply State.put_kept
    | with_reducible apply State.put64_kept
    | with_reducible apply State.raiseReplace_kept
    | exact kd.mem (by decide)
    | exact kd.mem (pick_mem (by decide) (by decide))
    | exact kd.mono (by decide)
    | split
    | fail_if_no_progress with_reducible apply kk.rest

theorem State.listSuspect_kept {P : State → Prop}  (kd : KeptD P [0x7020]) {s : State} {unit cause n step : Nat} (h_s : P s) :
    P (State.listSuspect s unit cause n step) := by
  unfold State.listSuspect
  repeat' first
    | with_reducible assumption
    | with_reducible intro _
    | (extract_lets +onlyGivenNames zz
       first
         | (with_reducible refine Kept.cut (P := P) (x := zz) ?_ ?_
            on_goal 2 => clear_value zz
            on_goal 1 => subst zz)
         | (with_reducible refine Kept.cut1 (P := P) (x := zz) ?_ ?_
            on_goal 2 => clear_value zz
            on_goal 1 => subst zz)
         | (have zn : Nat := zz
            clear zn
            subst zz)
         | clear_value zz
         | subst zz)
    | with_reducible apply State.bump_kept
    | with_reducible apply State.put_kept
    | with_reducible apply State.put64At_kept
    | with_reducible apply State.putAt_kept
    | exact kd.mem (by decide)
    | exact kd.mem (pick_mem (by decide) (by decide))
    | exact kd.mono (by decide)
    | split
    | fail_if_no_progress with_reducible apply kk.rest

theorem State.makeSuspect_kept {P : State → Prop} (kk : Kept P) (kc : KeptC P) (kv : KeptV P) (kd : KeptD P [0x0080, 0x4021, 0x7020, 0x7021, 0x7040, 0xF030]) (kn : KeptN P) {s : State} {unit cause n step : Nat} (h_s : P s) :
    P (State.makeSuspect s unit cause n step) := by
  unfold State.makeSuspect
  repeat' first
    | with_reducible assumption
    | with_reducible intro _
    | (extract_lets +onlyGivenNames zz
       first
         | (with_reducible refine Kept.cut (P := P) (x := zz) ?_ ?_
            on_goal 2 => clear_value zz
            on_goal 1 => subst zz)
         | (with_reducible refine Kept.cut1 (P := P) (x := zz) ?_ ?_
            on_goal 2 => clear_value zz
            on_goal 1 => subst zz)
         | (have zn : Nat := zz
            clear zn
            subst zz)
         | clear_value zz
         | subst zz)
    | with_reducible apply State.enterFault_kept
    | with_reducible apply State.enterProbation_kept
    | with_reducible apply State.listSuspect_kept
    | with_reducible apply State.log_kept
    | exact kd.mem (by decide)
    | exact kd.mem (pick_mem (by decide) (by decide))
    | exact kd.mono (by decide)
    | exact kn.mem _
    | with_reducible refine Kept.foldl (fun _ _ _ => ?_) ?_
    | with_reducible refine Kept.foldl1 (fun _ _ _ => ?_) ?_
    | split
    | fail_if_no_progress with_reducible apply kk.rest

theorem State.stageResults_kept {P : State → Prop} (kk : Kept P) (kd : KeptD P [0xA003]) {s : State} {c : Ctx} (h_s : P s) :
    P (State.stageResults s c) := by
  unfold State.stageResults
  repeat' first
    | with_reducible assumption
    | with_reducible intro _
    | with_reducible apply State.fillLine_kept
    | with_reducible apply State.request_kept
    | exact kd.mem (by decide)
    | exact kd.mem (pick_mem (by decide) (by decide))
    | exact kd.mono (by decide)
    | with_reducible refine Kept.foldl (fun _ _ _ => ?_) ?_
    | with_reducible refine Kept.foldl1 (fun _ _ _ => ?_) ?_
    | split
    | fail_if_no_progress with_reducible apply kk.rest

theorem State.writeResults_kept {P : State → Prop} (kk : Kept P) (kn : KeptN P) {s : State} {c : Ctx} (h_s : P s) :
    P (State.writeResults s c) := by
  unfold State.writeResults
  repeat' first
    | with_reducible assumption
    | with_reducible intro _
    | (extract_lets +onlyGivenNames zz
       first
         | (with_reducible refine Kept.cut (P := P) (x := zz) ?_ ?_
            on_goal 2 => clear_value zz
            on_goal 1 => subst zz)
         | (with_reducible refine Kept.cut1 (P := P) (x := zz) ?_ ?_
            on_goal 2 => clear_value zz
            on_goal 1 => subst zz)
         | (have zn : Nat := zz
            clear zn
            subst zz)
         | clear_value zz
         | subst zz)
    | with_reducible apply State.ctxEvent_kept
    | with_reducible apply State.dropLine_kept
    | with_reducible apply State.put64_kept
    | with_reducible apply State.request_kept
    | exact kn.mem _
    | with_reducible refine Kept.foldl (fun _ _ _ => ?_) ?_
    | with_reducible refine Kept.foldl1 (fun _ _ _ => ?_) ?_
    | split
    | fail_if_no_progress with_reducible apply kk.rest

theorem State.stepEnds_kept {P : State → Prop} (kk : Kept P) (km : KeptM P) (kc : KeptC P) (kv : KeptV P) (kd : KeptD P [0x0080, 0x3010, 0x3020, 0x3021, 0x4021, 0x4102, 0x4103, 0x6010, 0x6020, 0x6021, 0x7020, 0x7021, 0x7040, 0x9030, 0x9031, 0xA003, 0xF030]) (kn : KeptN P) {s : State} {n : Nat} (h_s : P s) :
    P (State.stepEnds s n) := by
  unfold State.stepEnds
  repeat' first
    | with_reducible assumption
    | with_reducible intro _
    | (extract_lets +onlyGivenNames zz
       first
         | (with_reducible refine Kept.cut (P := P) (x := zz) ?_ ?_
            on_goal 2 => clear_value zz
            on_goal 1 => subst zz)
         | (with_reducible refine Kept.cut1 (P := P) (x := zz) ?_ ?_
            on_goal 2 => clear_value zz
            on_goal 1 => subst zz)
         | (have zn : Nat := zz
            clear zn
            subst zz)
         | clear_value zz
         | subst zz)
    | with_reducible apply State.buildRun_kept
    | with_reducible apply State.bump_kept
    | with_reducible apply State.enterFault_kept
    | with_reducible apply State.makeSuspect_kept
    | with_reducible apply State.modCtx_kept
    | with_reducible apply State.retractAll_kept
    | with_reducible apply State.setCtx_kept
    | with_reducible apply State.stageResults_kept
    | exact kd.mem (by decide)
    | exact kd.mem (pick_mem (by decide) (by decide))
    | exact kd.mono (by decide)
    | exact kn.mem _
    | split
    | fail_if_no_progress with_reducible apply kk.rest

theorem State.progress_kept {P : State → Prop} (kk : Kept P) (km : KeptM P) (kc : KeptC P) (kt : KeptT P) (kh : KeptH P) (kv : KeptV P) (kd : KeptD P [0x0080, 0x1012, 0x1013, 0x1015, 0x1016, 0x3010, 0x3020, 0x3021, 0x3031, 0x3032, 0x3040, 0x3041, 0x4014, 0x4021, 0x4102, 0x4103, 0x6010, 0x6020, 0x6021, 0x7020, 0x7021, 0x7040, 0x9030, 0x9031, 0xA003, 0xF030]) (kn : KeptN P) {n : Nat} : ∀ {k : Nat} {s : State}, P s → P (s.progress n k) := by
  intro k
  induction k with
  | zero =>
    intros
    unfold State.progress
    assumption
  | succ k ih =>
    intros
    unfold State.progress
    repeat' first
    | with_reducible assumption
    | with_reducible intro _
    | (extract_lets +onlyGivenNames zz
       first
         | (with_reducible refine Kept.cut (P := P) (x := zz) ?_ ?_
            on_goal 2 => clear_value zz
            on_goal 1 => subst zz)
         | (with_reducible refine Kept.cut1 (P := P) (x := zz) ?_ ?_
            on_goal 2 => clear_value zz
            on_goal 1 => subst zz)
         | (have zn : Nat := zz
            clear zn
            subst zz)
         | clear_value zz
         | subst zz)
    | with_reducible apply ih
    | with_reducible apply State.beginBackward_kept
    | with_reducible apply State.stepEnds_kept
    | exact kd.mem (by decide)
    | exact kd.mem (pick_mem (by decide) (by decide))
    | exact kd.mono (by decide)
    | exact kn.mem _
    | split
    | fail_if_no_progress with_reducible apply kk.rest

theorem State.finishLayer_kept {P : State → Prop} (kk : Kept P) (km : KeptM P) (kc : KeptC P) (kt : KeptT P) (kh : KeptH P) (kv : KeptV P) (kd : KeptD P [0x1012, 0x1013, 0x1015, 0x1016, 0x3010, 0x3020, 0x3021, 0x3031, 0x3032, 0x3040, 0x3041, 0x4014, 0x4021, 0x4102, 0x4103, 0x6010, 0x7040, 0x9030, 0x9031, 0xF030]) (kn : KeptN P) {s : State} {n : Nat} {x : Strand} (h_s : P s) :
    P (State.finishLayer s n x) := by
  unfold State.finishLayer
  repeat' first
    | with_reducible assumption
    | with_reducible intro _
    | (extract_lets +onlyGivenNames zz
       first
         | (with_reducible refine Kept.cut (P := P) (x := zz) ?_ ?_
            on_goal 2 => clear_value zz
            on_goal 1 => subst zz)
         | (with_reducible refine Kept.cut1 (P := P) (x := zz) ?_ ?_
            on_goal 2 => clear_value zz
            on_goal 1 => subst zz)
         | (have zn : Nat := zz
            clear zn
            subst zz)
         | clear_value zz
         | subst zz)
    | with_reducible apply State.evalForward_kept
    | with_reducible apply State.finishDW_kept
    | with_reducible apply State.finishDX_kept
    | with_reducible apply State.runDigital_kept
    | exact kd.mem (by decide)
    | exact kd.mem (pick_mem (by decide) (by decide))
    | exact kd.mono (by decide)
    | exact kn.mem _
    | split
    | fail_if_no_progress with_reducible apply kk.rest

theorem State.issueOnTile_kept {P : State → Prop} (kk : Kept P) (kc : KeptC P) (kt : KeptT P) (kd : KeptD P [0x2010, 0x2011, 0x4010, 0x4021, 0x5020]) {s : State} {c : Ctx} {x : Strand} {p l : Nat} (h_s : P s) :
    P (State.issueOnTile s c x p l).1 := by
  unfold State.issueOnTile
  repeat' first
    | with_reducible assumption
    | with_reducible intro _
    | (extract_lets +onlyGivenNames zz
       first
         | (with_reducible refine Kept.cut (P := P) (x := zz) ?_ ?_
            on_goal 2 => clear_value zz
            on_goal 1 => subst zz)
         | (with_reducible refine Kept.cut1 (P := P) (x := zz) ?_ ?_
            on_goal 2 => clear_value zz
            on_goal 1 => subst zz)
         | (have zn : Nat := zz
            clear zn
            subst zz)
         | clear_value zz
         | subst zz)
    | with_reducible apply State.bumpAt_kept
    | with_reducible apply State.modCtx_kept
    | with_reducible apply State.modTile_kept
    | with_reducible apply State.putAt_kept
    | with_reducible apply State.switchSet_kept
    | exact kd.mem (by decide)
    | exact kd.mem (pick_mem (by decide) (by decide))
    | exact kd.mono (by decide)
    | split
    | fail_if_no_progress with_reducible apply kk.rest

theorem State.snoopLines_kept {P : State → Prop} (kk : Kept P) {s : State} {h : HalfId} {n : Nat} {l : List Nat} (h_s : P s) :
    P (State.snoopLines s h n l) := by
  unfold State.snoopLines
  repeat' first
    | with_reducible assumption
    | with_reducible intro _
    | (extract_lets +onlyGivenNames zz
       first
         | (with_reducible refine Kept.cut (P := P) (x := zz) ?_ ?_
            on_goal 2 => clear_value zz
            on_goal 1 => subst zz)
         | (with_reducible refine Kept.cut1 (P := P) (x := zz) ?_ ?_
            on_goal 2 => clear_value zz
            on_goal 1 => subst zz)
         | (have zn : Nat := zz
            clear zn
            subst zz)
         | clear_value zz
         | subst zz)
    | with_reducible apply State.emit_kept
    | with_reducible refine Kept.foldl (fun _ _ _ => ?_) ?_
    | with_reducible refine Kept.foldl1 (fun _ _ _ => ?_) ?_
    | split
    | fail_if_no_progress with_reducible apply kk.rest

theorem execStrandIssue_kept {P : State → Prop} (kk : Kept P) (kc : KeptC P) (kt : KeptT P) (kd : KeptD P [0x2010, 0x2011, 0x4010, 0x4021, 0x5020]) {unit : UnitWord} {s : State} (h_s : P s) :
    KeptR P (execStrandIssue unit s) := by
  unfold execStrandIssue
  repeat' first
    | with_reducible assumption
    | with_reducible intro _
    | (extract_lets +onlyGivenNames zz
       first
         | (with_reducible refine Kept.cut (P := P) (x := zz) ?_ ?_
            on_goal 2 => clear_value zz
            on_goal 1 => subst zz)
         | (with_reducible refine Kept.cut1 (P := P) (x := zz) ?_ ?_
            on_goal 2 => clear_value zz
            on_goal 1 => subst zz)
         | (have zn : Nat := zz
            clear zn
            subst zz)
         | clear_value zz
         | subst zz)
    | with_reducible refine KeptR.onPower ?_ (fun _ => ?_)
    | with_reducible refine KeptR.next ?_
    | with_reducible exact KeptR.fault _
    | with_reducible apply State.issueOnTile_kept
    | with_reducible apply State.modCtx_kept
    | with_reducible apply State.snoopLines_kept
    | with_reducible apply State.yieldCal_kept
    | exact kd.mem (by decide)
    | exact kd.mem (pick_mem (by decide) (by decide))
    | exact kd.mono (by decide)
    | with_reducible refine Kept.foldl (fun _ _ _ => ?_) ?_
    | with_reducible refine Kept.foldl1 (fun _ _ _ => ?_) ?_
    | split
    | fail_if_no_progress with_reducible apply kk.rest

theorem State.countEngine_kept {P : State → Prop} (kk : Kept P) (kc : KeptC P) (kd : KeptD P [0x4020, 0x7000, 0x7001, 0x7040, 0xF030]) {s : State} {c : Ctx} {x : Strand} {residue : Residue} (h_s : P s) :
    P (State.countEngine s c x residue) := by
  unfold State.countEngine
  repeat' first
    | with_reducible assumption
    | with_reducible intro _
    | (extract_lets +onlyGivenNames zz
       first
         | (with_reducible refine Kept.cut (P := P) (x := zz) ?_ ?_
            on_goal 2 => clear_value zz
            on_goal 1 => subst zz)
         | (with_reducible refine Kept.cut1 (P := P) (x := zz) ?_ ?_
            on_goal 2 => clear_value zz
            on_goal 1 => subst zz)
         | (have zn : Nat := zz
            clear zn
            subst zz)
         | clear_value zz
         | subst zz)
    | with_reducible apply State.add64At_kept
    | with_reducible apply State.addAt_kept
    | with_reducible apply State.bumpAt_kept
    | with_reducible apply State.failCheck_kept
    | with_reducible apply State.log_kept
    | with_reducible apply State.modCtx_kept
    | with_reducible apply State.riskEvent_kept
    | exact kd.mem (by decide)
    | exact kd.mem (pick_mem (by decide) (by decide))
    | exact kd.mono (by decide)
    | split
    | fail_if_no_progress with_reducible apply kk.rest

theorem State.oweRows_kept {P : State → Prop} (kk : Kept P) (kt : KeptT P) {s : State} {x : Strand} (h_s : P s) :
    P (State.oweRows s x) := by
  unfold State.oweRows
  repeat' first
    | with_reducible assumption
    | with_reducible intro _
    | with_reducible apply State.modTile_kept
    | split
    | fail_if_no_progress with_reducible apply kk.rest

theorem State.leaveTile_kept {P : State → Prop} (kk : Kept P) (kc : KeptC P) (kt : KeptT P) (kb : KeptB P) (kd : KeptD P [0x0080, 0x4001, 0x4003, 0x4005, 0x4010, 0x4012, 0x4014, 0x4021, 0x5020, 0x7040, 0xF030]) {s : State} {n : Nat} {x : Strand} (h_s : P s) :
    P (State.leaveTile s n x) := by
  unfold State.leaveTile
  repeat' first
    | with_reducible assumption
    | with_reducible intro _
    | (extract_lets +onlyGivenNames zz
       first
         | (with_reducible refine Kept.cut (P := P) (x := zz) ?_ ?_
            on_goal 2 => clear_value zz
            on_goal 1 => subst zz)
         | (with_reducible refine Kept.cut1 (P := P) (x := zz) ?_ ?_
            on_goal 2 => clear_value zz
            on_goal 1 => subst zz)
         | (have zn : Nat := zz
            clear zn
            subst zz)
         | clear_value zz
         | subst zz)
    | with_reducible apply State.countGap_kept
    | with_reducible apply State.modTile_kept
    | with_reducible apply State.retireDue_kept
    | with_reducible apply State.ringLevels_kept
    | exact kd.mem (by decide)
    | exact kd.mem (pick_mem (by decide) (by decide))
    | exact kd.mono (by decide)
    | split
    | fail_if_no_progress with_reducible apply kk.rest

theorem State.dropSnapshot_kept {P : State → Prop}  (kd : KeptD P [0x4021]) {s : State} {c : Ctx} {x : Strand} (h_s : P s) :
    P (State.dropSnapshot s c x) := by
  unfold State.dropSnapshot
  repeat' first
    | with_reducible assumption
    | with_reducible intro _
    | with_reducible apply State.putAt_kept
    | exact kd.mem (by decide)
    | exact kd.mem (pick_mem (by decide) (by decide))
    | exact kd.mono (by decide)
    | split
    | fail_if_no_progress with_reducible apply kk.rest

theorem State.holdIfAsked_kept {P : State → Prop} (kk : Kept P) (kc : KeptC P) (kv : KeptV P) (kn : KeptN P) {s : State} {n : Nat} (h_s : P s) :
    P (State.holdIfAsked s n) := by
  unfold State.holdIfAsked
  repeat' first
    | with_reducible assumption
    | with_reducible intro _
    | with_reducible apply State.enterHold_kept
    | exact kn.mem _
    | split
    | fail_if_no_progress with_reducible apply kk.rest

theorem State.endStrand_kept {P : State → Prop} (kk : Kept P) (km : KeptM P) (kc : KeptC P) (kt : KeptT P) (kh : KeptH P) (kv : KeptV P) (kb : KeptB P) (kd : KeptD P [0x0080, 0x1012, 0x1013, 0x1015, 0x1016, 0x3010, 0x3020, 0x3021, 0x3031, 0x3032, 0x3040, 0x3041, 0x4001, 0x4003, 0x4005, 0x4010, 0x4012, 0x4014, 0x4021, 0x4102, 0x4103, 0x5020, 0x6010, 0x6020, 0x6021, 0x7020, 0x7021, 0x7040, 0x9030, 0x9031, 0xA003, 0xF030]) (kn : KeptN P) {s : State} {n : Nat} {c : Ctx} {x : Strand} (h_s : P s) :
    P (State.endStrand s n c x) := by
  unfold State.endStrand
  repeat' first
    | with_reducible assumption
    | with_reducible intro _
    | exact kd.mem (by decide)
    | exact kd.mem (pick_mem (by decide) (by decide))
    | exact kd.mono (by decide)
    | exact kn.mem _
    | (extract_lets +onlyGivenNames zz
       first
         | (with_reducible refine Kept.cut (P := P) (x := zz) ?_ ?_
            on_goal 2 => clear_value zz
            on_goal 1 => subst zz)
         | (with_reducible refine Kept.cut1 (P := P) (x := zz) ?_ ?_
            on_goal 2 => clear_value zz
            on_goal 1 => subst zz)
         | (have zn : Nat := zz
            clear zn
            subst zz)
         | clear_value zz
         | subst zz)
    | with_reducible apply State.dropSnapshot_kept
    | with_reducible apply State.finishLayer_kept
    | with_reducible apply State.holdIfAsked_kept
    | with_reducible apply State.keepPartial_kept
    | with_reducible apply State.leaveTile_kept
    | with_reducible apply State.modCtx_kept
    | with_reducible apply State.oweRows_kept
    | with_reducible apply State.progress_kept
    | with_reducible apply State.refill_kept
    | exact kd.mem (by decide)
    | exact kd.mem (pick_mem (by decide) (by decide))
    | exact kd.mono (by decide)
    | exact kn.mem _
    | split
    | fail_if_no_progress with_reducible apply kk.rest

theorem State.nextPiece_kept {P : State → Prop} (kk : Kept P) (kc : KeptC P) (kv : KeptV P) (kn : KeptN P) {s : State} {n : Nat} {x : Strand} (h_s : P s) :
    P (State.nextPiece s n x) := by
  unfold State.nextPiece
  repeat' first
    | with_reducible assumption
    | with_reducible intro _
    | with_reducible apply State.holdIfAsked_kept
    | with_reducible apply State.modCtx_kept
    | exact kn.mem _
    | split
    | fail_if_no_progress with_reducible apply kk.rest

theorem execStrandEnd_kept {P : State → Prop} (kk : Kept P) (km : KeptM P) (kc : KeptC P) (kt : KeptT P) (kh : KeptH P) (kv : KeptV P) (kb : KeptB P) (kd : KeptD P [0x0080, 0x1012, 0x1013, 0x1015, 0x1016, 0x3010, 0x3020, 0x3021, 0x3031, 0x3032, 0x3040, 0x3041, 0x4001, 0x4003, 0x4005, 0x4010, 0x4012, 0x4014, 0x4020, 0x4021, 0x4102, 0x4103, 0x5020, 0x6010, 0x6020, 0x6021, 0x7000, 0x7001, 0x7020, 0x7021, 0x7040, 0x9030, 0x9031, 0xA003, 0xF030]) (kn : KeptN P) {ctx strand : Nat} {residue : Residue} {s : State} (h_s : P s) :
    KeptR P (execStrandEnd ctx strand residue s) := by
  unfold execStrandEnd
  repeat' first
    | with_reducible assumption
    | with_reducible intro _
    | exact kd.mem (by decide)
    | exact kd.mem (pick_mem (by decide) (by decide))
    | exact kd.mono (by decide)
    | exact kn.mem _
    | (extract_lets +onlyGivenNames zz
       first
         | (with_reducible refine Kept.cut (P := P) (x := zz) ?_ ?_
            on_goal 2 => clear_value zz
            on_goal 1 => subst zz)
         | (with_reducible refine Kept.cut1 (P := P) (x := zz) ?_ ?_
            on_goal 2 => clear_value zz
            on_goal 1 => subst zz)
         | (have zn : Nat := zz
            clear zn
            subst zz)
         | clear_value zz
         | subst zz)
    | with_reducible refine KeptR.onPower ?_ (fun _ => ?_)
    | with_reducible refine KeptR.next ?_
    | with_reducible exact KeptR.fault _
    | with_reducible apply State.add64_kept
    | with_reducible apply State.countEngine_kept
    | with_reducible apply State.endStrand_kept
    | with_reducible apply State.nextPiece_kept
    | exact kd.mem (by decide)
    | exact kd.mem (pick_mem (by decide) (by decide))
    | exact kd.mono (by decide)
    | exact kn.mem _
    | split
    | fail_if_no_progress with_reducible apply kk.rest

end Sys2Proof.Machine
end

