-- ==== Sys2Proof/Laws/KeptRoute.lean ====
section
/-! SUPPORT. What every definition of Machine/Route.lean keeps of a state: one lemma each (Laws/Kept.lean). -/

namespace Sys2Proof.Machine

open Sys2Proof

set_option linter.all false

theorem execInputVectorArrive_kept {P : State → Prop} (kk : Kept P) (kt : KeptT P) (kd : KeptD P [0x4010, 0x4014]) {tile ctx vec : Nat} {s : State} (h_s : P s) :
    KeptR P (execInputVectorArrive tile ctx vec s) := by
  unfold execInputVectorArrive
  repeat' first
    | with_reducible assumption
    | with_reducible intro _
    | with_reducible refine KeptR.onPower ?_ (fun _ => ?_)
    | with_reducible refine KeptR.next ?_
    | with_reducible exact KeptR.fault _
    | with_reducible apply State.modTile_kept
    | with_reducible apply State.ringLevels_kept
    | with_reducible apply State.yieldCal_kept
    | exact kd.mem (by decide)
    | exact kd.mem (pick_mem (by decide) (by decide))
    | exact kd.mono (by decide)
    | split
    | fail_if_no_progress with_reducible apply kk.rest

end Sys2Proof.Machine
end

