-- ==== Sys2Proof/Laws/KeptPlacement.lean ====
section
/-! SUPPORT. What every definition of Machine/Placement.lean keeps of a state: one lemma each (Laws/Kept.lean). -/

namespace Sys2Proof.Machine

open Sys2Proof

set_option linter.all false

theorem State.writeCopy_kept {P : State → Prop}  (km : KeptM P) {s : State} {n k m : Nat} (h_s : P s) :
    P (State.writeCopy s n k m) := by
  unfold State.writeCopy
  repeat' first
    | with_reducible assumption
    | with_reducible intro _
    | (extract_lets +onlyGivenNames zz
       first
         | (with_reducible refine Kept.cut (P := P) (x := zz) ?_ ?_
            on_goal 2 => clear_value zz
            on_goal 1 => subst zz)
         | (with_reducible refine Kept.cut1 (P := P) (x := zz) ?_ ?_
            on_goal 2 => clear_value zz
            on_goal 1 => subst zz)
         | (have zn : Nat := zz
            clear zn
            subst zz)
         | clear_value zz
         | subst zz)
    | with_reducible apply State.hbmWrite_kept
    | with_reducible apply State.putHbm_kept
    | with_reducible refine Kept.foldl (fun _ _ _ => ?_) ?_
    | with_reducible refine Kept.foldl1 (fun _ _ _ => ?_) ?_
    | split
    | fail_if_no_progress with_reducible apply kk.rest

theorem State.writeCopies_kept {P : State → Prop}  (km : KeptM P) {s : State} {n m : Nat} (h_s : P s) :
    P (State.writeCopies s n m) := by
  unfold State.writeCopies
  repeat' first
    | with_reducible assumption
    | with_reducible intro _
    | with_reducible apply State.writeCopy_kept
    | with_reducible refine Kept.foldl (fun _ _ _ => ?_) ?_
    | with_reducible refine Kept.foldl1 (fun _ _ _ => ?_) ?_
    | split
    | fail_if_no_progress with_reducible apply kk.rest

theorem State.newOwner_kept {P : State → Prop}  (kd : KeptD P [0x5020]) {s : State} {p : Nat} (h_s : P s) :
    P (State.newOwner s p) := by
  unfold State.newOwner
  repeat' first
    | with_reducible assumption
    | with_reducible intro _
    | with_reducible apply State.putAt_kept
    | exact kd.mem (by decide)
    | exact kd.mem (pick_mem (by decide) (by decide))
    | exact kd.mono (by decide)
    | split
    | fail_if_no_progress with_reducible apply kk.rest

theorem State.takeTile_kept {P : State → Prop} (kk : Kept P) (kt : KeptT P) (kd : KeptD P [0x4010, 0x4012, 0x4021, 0x5020]) {s : State} {c : Ctx} {t l : Nat} (h_s : P s) :
    P (State.takeTile s c t l) := by
  unfold State.takeTile
  repeat' first
    | with_reducible assumption
    | with_reducible intro _
    | (extract_lets +onlyGivenNames zz
       first
         | (with_reducible refine Kept.cut (P := P) (x := zz) ?_ ?_
            on_goal 2 => clear_value zz
            on_goal 1 => subst zz)
         | (with_reducible refine Kept.cut1 (P := P) (x := zz) ?_ ?_
            on_goal 2 => clear_value zz
            on_goal 1 => subst zz)
         | (have zn : Nat := zz
            clear zn
            subst zz)
         | clear_value zz
         | subst zz)
    | with_reducible apply State.modTile_kept
    | with_reducible apply State.newOwner_kept
    | with_reducible apply State.putAt_kept
    | exact kd.mem (by decide)
    | exact kd.mem (pick_mem (by decide) (by decide))
    | exact kd.mono (by decide)
    | split
    | fail_if_no_progress with_reducible apply kk.rest

theorem State.takePlaces_kept {P : State → Prop} (kk : Kept P) (kc : KeptC P) (kt : KeptT P) (kd : KeptD P [0x4010, 0x4012, 0x4021, 0x5010, 0x5020]) (kn : KeptN P) {s : State} {n : Nat} {q : Placed} (h_s : P s) :
    P (State.takePlaces s n q) := by
  unfold State.takePlaces
  repeat' first
    | with_reducible assumption
    | with_reducible intro _
    | (extract_lets +onlyGivenNames zz
       first
         | (with_reducible refine Kept.cut (P := P) (x := zz) ?_ ?_
            on_goal 2 => clear_value zz
            on_goal 1 => subst zz)
         | (with_reducible refine Kept.cut1 (P := P) (x := zz) ?_ ?_
            on_goal 2 => clear_value zz
            on_goal 1 => subst zz)
         | (have zn : Nat := zz
            clear zn
            subst zz)
         | clear_value zz
         | subst zz)
    | with_reducible apply State.put_kept
    | with_reducible apply State.put64_kept
    | with_reducible apply State.put64At_kept
    | with_reducible apply State.setCtx_kept
    | with_reducible apply State.takeTile_kept
    | exact kd.mem (by decide)
    | exact kd.mem (pick_mem (by decide) (by decide))
    | exact kd.mono (by decide)
    | exact kn.mem _
    | with_reducible refine Kept.foldl (fun _ _ _ => ?_) ?_
    | with_reducible refine Kept.foldl1 (fun _ _ _ => ?_) ?_
    | split
    | fail_if_no_progress with_reducible apply kk.rest
    | fail_if_no_progress (with_reducible apply kt.tiles; with_reducible apply kk.rest)

theorem State.decidePlaces_kept {P : State → Prop} (kk : Kept P) (kc : KeptC P) (kt : KeptT P) (kd : KeptD P [0x4010, 0x4012, 0x4021, 0x5010, 0x5020]) (kn : KeptN P) {s : State} {n : Nat} (h_s : P s) :
    P (State.decidePlaces s n) := by
  unfold State.decidePlaces
  repeat' first
    | with_reducible assumption
    | with_reducible intro _
    | (extract_lets +onlyGivenNames zz
       first
         | (with_reducible refine Kept.cut (P := P) (x := zz) ?_ ?_
            on_goal 2 => clear_value zz
            on_goal 1 => subst zz)
         | (with_reducible refine Kept.cut1 (P := P) (x := zz) ?_ ?_
            on_goal 2 => clear_value zz
            on_goal 1 => subst zz)
         | (have zn : Nat := zz
            clear zn
            subst zz)
         | clear_value zz
         | subst zz)
    | with_reducible apply State.setCtx_kept
    | with_reducible apply State.snoopLines_kept
    | with_reducible apply State.takePlaces_kept
    | exact kd.mem (by decide)
    | exact kd.mem (pick_mem (by decide) (by decide))
    | exact kd.mono (by decide)
    | exact kn.mem _
    | split
    | fail_if_no_progress with_reducible apply kk.rest

theorem State.programRow_kept {P : State → Prop} (kk : Kept P) (kc : KeptC P) (kt : KeptT P) (kb : KeptB P) (kd : KeptD P [0x0080, 0x4001, 0x4003, 0x4004, 0x4005, 0x4010, 0x4012, 0x4021, 0x5020, 0x7040, 0xF030]) {s : State} {l row : Nat} {seen : List RowSeen} {targets : State → Nat → List (Nat × Int)} (h_s : P s) :
    P (State.programRow s l row seen targets) := by
  unfold State.programRow
  repeat' first
    | with_reducible assumption
    | with_reducible intro _
    | with_reducible apply State.writeRowTwice_kept
    | exact kd.mem (by decide)
    | exact kd.mem (pick_mem (by decide) (by decide))
    | exact kd.mono (by decide)
    | split
    | fail_if_no_progress with_reducible apply kk.rest

theorem State.endProgramming_kept {P : State → Prop} (kk : Kept P) (kt : KeptT P) (kd : KeptD P [0x2012, 0x4021]) {s : State} {l : Nat} (h_s : P s) :
    P (State.endProgramming s l) := by
  unfold State.endProgramming
  repeat' first
    | with_reducible assumption
    | with_reducible intro _
    | (extract_lets +onlyGivenNames zz
       first
         | (with_reducible refine Kept.cut (P := P) (x := zz) ?_ ?_
            on_goal 2 => clear_value zz
            on_goal 1 => subst zz)
         | (with_reducible refine Kept.cut1 (P := P) (x := zz) ?_ ?_
            on_goal 2 => clear_value zz
            on_goal 1 => subst zz)
         | (have zn : Nat := zz
            clear zn
            subst zz)
         | clear_value zz
         | subst zz)
    | with_reducible apply State.modTile_kept
    | with_reducible apply State.putAt_kept
    | with_reducible apply State.shadowAll_kept
    | exact kd.mem (by decide)
    | exact kd.mem (pick_mem (by decide) (by decide))
    | exact kd.mono (by decide)
    | split
    | fail_if_no_progress with_reducible apply kk.rest

theorem State.programTile_kept {P : State → Prop} (kk : Kept P) (kc : KeptC P) (kt : KeptT P) (kb : KeptB P) (kd : KeptD P [0x0080, 0x2012, 0x4001, 0x4003, 0x4004, 0x4005, 0x4010, 0x4012, 0x4021, 0x5020, 0x7040, 0xF030]) {s : State} {c : Ctx} {seen : List RowSeen} {targets : State → Nat → Seat → Layer → Nat → List (Nat × Int)} {t l : Nat} (h_s : P s) :
    P (State.programTile s c seen targets t l) := by
  unfold State.programTile
  repeat' first
    | with_reducible assumption
    | with_reducible intro _
    | with_reducible apply State.endProgramming_kept
    | with_reducible apply State.programRow_kept
    | exact kd.mem (by decide)
    | exact kd.mem (pick_mem (by decide) (by decide))
    | exact kd.mono (by decide)
    | with_reducible refine Kept.foldl (fun _ _ _ => ?_) ?_
    | with_reducible refine Kept.foldl1 (fun _ _ _ => ?_) ?_
    | split
    | fail_if_no_progress with_reducible apply kk.rest

theorem State.digestProgram_kept {P : State → Prop}  (kn : KeptN P) {s : State} {c : Ctx} (h_s : P s) :
    P (State.digestProgram s c) := by
  unfold State.digestProgram
  repeat' first
    | with_reducible assumption
    | with_reducible intro _
    | (extract_lets +onlyGivenNames zz
       first
         | (with_reducible refine Kept.cut (P := P) (x := zz) ?_ ?_
            on_goal 2 => clear_value zz
            on_goal 1 => subst zz)
         | (with_reducible refine Kept.cut1 (P := P) (x := zz) ?_ ?_
            on_goal 2 => clear_value zz
            on_goal 1 => subst zz)
         | (have zn : Nat := zz
            clear zn
            subst zz)
         | clear_value zz
         | subst zz)
    | with_reducible apply State.putsAt_kept
    | exact kn.mem _
    | split
    | fail_if_no_progress with_reducible apply kk.rest

theorem State.clearRepeats_kept {P : State → Prop}  (km : KeptM P) {s : State} {c : Ctx} (h_s : P s) :
    P (State.clearRepeats s c) := by
  unfold State.clearRepeats
  repeat' first
    | with_reducible assumption
    | with_reducible intro _
    | with_reducible apply Kept.ident
    | with_reducible apply State.putHbm_kept
    | with_reducible refine Kept.foldl (fun _ _ _ => ?_) ?_
    | with_reducible refine Kept.foldl1 (fun _ _ _ => ?_) ?_
    | split
    | fail_if_no_progress with_reducible apply kk.rest

theorem State.readTables_kept {P : State → Prop} (kk : Kept P) (kc : KeptC P) {s : State} {n : Nat} (h_s : P s) :
    P (State.readTables s n) := by
  unfold State.readTables
  repeat' first
    | with_reducible assumption
    | with_reducible intro _
    | (extract_lets +onlyGivenNames zz
       first
         | (with_reducible refine Kept.cut (P := P) (x := zz) ?_ ?_
            on_goal 2 => clear_value zz
            on_goal 1 => subst zz)
         | (with_reducible refine Kept.cut1 (P := P) (x := zz) ?_ ?_
            on_goal 2 => clear_value zz
            on_goal 1 => subst zz)
         | (have zn : Nat := zz
            clear zn
            subst zz)
         | clear_value zz
         | subst zz)
    | with_reducible apply State.setCtx_kept
    | split
    | fail_if_no_progress with_reducible apply kk.rest

theorem State.rereadTables_kept {P : State → Prop} (kk : Kept P) (kc : KeptC P) {s : State} {n : Nat} (h_s : P s) :
    P (State.rereadTables s n) := by
  unfold State.rereadTables
  repeat' first
    | with_reducible assumption
    | with_reducible intro _
    | (extract_lets +onlyGivenNames zz
       first
         | (with_reducible refine Kept.cut (P := P) (x := zz) ?_ ?_
            on_goal 2 => clear_value zz
            on_goal 1 => subst zz)
         | (with_reducible refine Kept.cut1 (P := P) (x := zz) ?_ ?_
            on_goal 2 => clear_value zz
            on_goal 1 => subst zz)
         | (have zn : Nat := zz
            clear zn
            subst zz)
         | clear_value zz
         | subst zz)
    | with_reducible apply State.readMasks_kept
    | with_reducible apply State.readTables_kept
    | with_reducible apply State.setCtx_kept
    | with_reducible apply State.snoopLines_kept
    | split
    | fail_if_no_progress with_reducible apply kk.rest

theorem State.endPlacement_kept {P : State → Prop} (kk : Kept P) (km : KeptM P) (kc : KeptC P) (kt : KeptT P) (kv : KeptV P) (kb : KeptB P) (kd : KeptD P [0x0080, 0x2012, 0x4001, 0x4003, 0x4004, 0x4005, 0x4010, 0x4012, 0x4021, 0x5020, 0x7040, 0xF030]) (kn : KeptN P) {s : State} {n : Nat} {seen : List RowSeen} (h_s : P s) :
    P (State.endPlacement s n seen) := by
  unfold State.endPlacement
  repeat' first
    | with_reducible assumption
    | with_reducible intro _
    | (extract_lets +onlyGivenNames zz
       first
         | (with_reducible refine Kept.cut (P := P) (x := zz) ?_ ?_
            on_goal 2 => clear_value zz
            on_goal 1 => subst zz)
         | (with_reducible refine Kept.cut1 (P := P) (x := zz) ?_ ?_
            on_goal 2 => clear_value zz
            on_goal 1 => subst zz)
         | (have zn : Nat := zz
            clear zn
            subst zz)
         | clear_value zz
         | subst zz)
    | with_reducible apply State.clearRepeats_kept
    | with_reducible apply State.ctxEvent_kept
    | with_reducible apply State.digestProgram_kept
    | with_reducible apply State.endPending_kept
    | with_reducible apply State.modCtx_kept
    | with_reducible apply State.noteFacts_kept
    | with_reducible apply State.programTile_kept
    | with_reducible apply State.readMasks_kept
    | with_reducible apply State.readTables_kept
    | with_reducible apply State.setCtx_kept
    | with_reducible apply State.writeCopies_kept
    | exact kd.mem (by decide)
    | exact kd.mem (pick_mem (by decide) (by decide))
    | exact kd.mono (by decide)
    | exact kn.mem _
    | with_reducible refine Kept.foldl (fun _ _ _ => ?_) ?_
    | with_reducible refine Kept.foldl1 (fun _ _ _ => ?_) ?_
    | split
    | fail_if_no_progress with_reducible apply kk.rest

theorem execPlacementComplete_kept {P : State → Prop} (kk : Kept P) (km : KeptM P) (kc : KeptC P) (kt : KeptT P) (kv : KeptV P) (kb : KeptB P) (kd : KeptD P [0x0080, 0x2012, 0x4001, 0x4003, 0x4004, 0x4005, 0x4010, 0x4012, 0x4021, 0x5010, 0x5020, 0x7040, 0xF030]) (kn : KeptN P) {n : Nat} {seen : List RowSeen} {s : State} (h_s : P s) :
    KeptR P (execPlacementComplete n seen s) := by
  unfold execPlacementComplete
  repeat' first
    | with_reducible assumption
    | with_reducible intro _
    | (extract_lets +onlyGivenNames zz
       first
         | (with_reducible refine Kept.cut (P := P) (x := zz) ?_ ?_
            on_goal 2 => clear_value zz
            on_goal 1 => subst zz)
         | (with_reducible refine Kept.cut1 (P := P) (x := zz) ?_ ?_
            on_goal 2 => clear_value zz
            on_goal 1 => subst zz)
         | (have zn : Nat := zz
            clear zn
            subst zz)
         | clear_value zz
         | subst zz)
    | with_reducible refine KeptR.onPower ?_ (fun _ => ?_)
    | with_reducible refine KeptR.next ?_
    | with_reducible exact KeptR.fault _
    | with_reducible apply State.decidePlaces_kept
    | with_reducible apply State.endPlacement_kept
    | exact kd.mem (by decide)
    | exact kd.mem (pick_mem (by decide) (by decide))
    | exact kd.mono (by decide)
    | exact kn.mem _
    | split
    | fail_if_no_progress with_reducible apply kk.rest

end Sys2Proof.Machine
end

