-- ==== Sys2Proof/Laws/KeptDraft.lean ====
section
/-! SUPPORT. What every definition of Machine/Draft.lean keeps of a state: one lemma each (Laws/Kept.lean). -/

namespace Sys2Proof.Machine

open Sys2Proof

set_option linter.all false

theorem State.warnDraft_kept {P : State → Prop} (kk : Kept P) (kc : KeptC P) (kd : KeptD P [0x7040, 0xF030]) {s : State} {n : Nat} (h_s : P s) :
    P (State.warnDraft s n) := by
  unfold State.warnDraft
  repeat' first
    | with_reducible assumption
    | with_reducible intro _
    | with_reducible apply State.log_kept
    | with_reducible apply State.setCtx_kept
    | exact kd.mem (by decide)
    | exact kd.mem (pick_mem (by decide) (by decide))
    | exact kd.mono (by decide)
    | split
    | fail_if_no_progress with_reducible apply kk.rest

theorem State.sendTrailer_kept {P : State → Prop} (kk : Kept P) (kc : KeptC P) (kd : KeptD P [0x7040, 0x9030, 0x9031, 0xF030]) {s : State} {n t : Nat} {g : Word} (h_s : P s) :
    P (State.sendTrailer s n t g) := by
  unfold State.sendTrailer
  repeat' first
    | with_reducible assumption
    | with_reducible intro _
    | (extract_lets +onlyGivenNames zz
       first
         | (with_reducible refine Kept.cut (P := P) (x := zz) ?_ ?_
            on_goal 2 => clear_value zz
            on_goal 1 => subst zz)
         | (with_reducible refine Kept.cut1 (P := P) (x := zz) ?_ ?_
            on_goal 2 => clear_value zz
            on_goal 1 => subst zz)
         | (have zn : Nat := zz
            clear zn
            subst zz)
         | clear_value zz
         | subst zz)
    | with_reducible apply State.sendOut_kept
    | with_reducible apply State.setCtx_kept
    | exact kd.mem (by decide)
    | exact kd.mem (pick_mem (by decide) (by decide))
    | exact kd.mono (by decide)
    | split
    | fail_if_no_progress with_reducible apply kk.rest

theorem State.openCopy_kept {P : State → Prop} (kk : Kept P) (kc : KeptC P) (kd : KeptD P [0x7010, 0x7040, 0xF030]) {s : State} {n t : Nat} (h_s : P s) :
    P (State.openCopy s n t) := by
  unfold State.openCopy
  repeat' first
    | with_reducible assumption
    | with_reducible intro _
    | (extract_lets +onlyGivenNames zz
       first
         | (with_reducible refine Kept.cut (P := P) (x := zz) ?_ ?_
            on_goal 2 => clear_value zz
            on_goal 1 => subst zz)
         | (with_reducible refine Kept.cut1 (P := P) (x := zz) ?_ ?_
            on_goal 2 => clear_value zz
            on_goal 1 => subst zz)
         | (have zn : Nat := zz
            clear zn
            subst zz)
         | clear_value zz
         | subst zz)
    | with_reducible apply State.put64At_kept
    | with_reducible apply State.setCtx_kept
    | with_reducible apply State.warnDraft_kept
    | exact kd.mem (by decide)
    | exact kd.mem (pick_mem (by decide) (by decide))
    | exact kd.mono (by decide)
    | split
    | fail_if_no_progress with_reducible apply kk.rest

theorem State.streamCopy_kept {P : State → Prop} (kk : Kept P) (kc : KeptC P) (kd : KeptD P [0x7040, 0x9030, 0x9031, 0xF030]) {s : State} {n : Nat} (h_s : P s) :
    P (State.streamCopy s n) := by
  unfold State.streamCopy
  repeat' first
    | with_reducible assumption
    | with_reducible intro _
    | (extract_lets +onlyGivenNames zz
       first
         | (with_reducible refine Kept.cut (P := P) (x := zz) ?_ ?_
            on_goal 2 => clear_value zz
            on_goal 1 => subst zz)
         | (with_reducible refine Kept.cut1 (P := P) (x := zz) ?_ ?_
            on_goal 2 => clear_value zz
            on_goal 1 => subst zz)
         | (have zn : Nat := zz
            clear zn
            subst zz)
         | clear_value zz
         | subst zz)
    | with_reducible apply State.sendOut_kept
    | with_reducible apply State.setCtx_kept
    | exact kd.mem (by decide)
    | exact kd.mem (pick_mem (by decide) (by decide))
    | exact kd.mono (by decide)
    | split
    | fail_if_no_progress with_reducible apply kk.rest

theorem State.replayCheck_kept {P : State → Prop} (kk : Kept P) (kd : KeptD P [0x7013, 0x7040, 0xF030]) {s : State} {n t : Nat} {g : Word} (h_s : P s) :
    P (State.replayCheck s n t g).1 := by
  unfold State.replayCheck
  repeat' first
    | with_reducible assumption
    | with_reducible intro _
    | (extract_lets +onlyGivenNames zz
       first
         | (with_reducible refine Kept.cut (P := P) (x := zz) ?_ ?_
            on_goal 2 => clear_value zz
            on_goal 1 => subst zz)
         | (with_reducible refine Kept.cut1 (P := P) (x := zz) ?_ ?_
            on_goal 2 => clear_value zz
            on_goal 1 => subst zz)
         | (have zn : Nat := zz
            clear zn
            subst zz)
         | clear_value zz
         | subst zz)
    | with_reducible apply State.log_kept
    | with_reducible apply State.putAt_kept
    | exact kd.mem (by decide)
    | exact kd.mem (pick_mem (by decide) (by decide))
    | exact kd.mono (by decide)
    | split
    | fail_if_no_progress with_reducible apply kk.rest

theorem State.noteLoss_kept {P : State → Prop} (kk : Kept P) (kc : KeptC P) {s : State} {n t : Nat} {loss : Word} (h_s : P s) :
    P (State.noteLoss s n t loss) := by
  unfold State.noteLoss
  repeat' first
    | with_reducible assumption
    | with_reducible intro _
    | with_reducible apply State.modCtx_kept
    | split
    | fail_if_no_progress with_reducible apply kk.rest

theorem State.noteCommit_kept {P : State → Prop}  (kd : KeptD P [0x6010, 0x7010]) {s : State} {n t : Nat} (h_s : P s) :
    P (State.noteCommit s n t) := by
  unfold State.noteCommit
  repeat' first
    | with_reducible assumption
    | with_reducible intro _
    | with_reducible apply State.put64At_kept
    | with_reducible apply State.putAt_kept
    | exact kd.mem (by decide)
    | exact kd.mem (pick_mem (by decide) (by decide))
    | exact kd.mono (by decide)
    | split
    | fail_if_no_progress with_reducible apply kk.rest

end Sys2Proof.Machine
end

