-- ==== Sys2Proof/Laws/KeptContexts.lean ====
section
/-! SUPPORT. What every definition of Machine/Contexts.lean keeps of a state: one lemma each (Laws/Kept.lean). -/

namespace Sys2Proof.Machine

open Sys2Proof

set_option linter.all false

theorem State.openCtx_kept {P : State → Prop} (kk : Kept P) (kc : KeptC P) (kn : KeptN P) {s : State} {via : Via} {n : Nat} {h : HalfId} {conf : Bool} (h_s : P s) :
    KeptX P (State.openCtx s via n h conf) := by
  unfold State.openCtx
  repeat' first
    | with_reducible assumption
    | with_reducible intro _
    | (extract_lets +onlyGivenNames zz
       first
         | (with_reducible refine Kept.cut (P := P) (x := zz) ?_ ?_
            on_goal 2 => clear_value zz
            on_goal 1 => subst zz)
         | (with_reducible refine Kept.cut1 (P := P) (x := zz) ?_ ?_
            on_goal 2 => clear_value zz
            on_goal 1 => subst zz)
         | (have zn : Nat := zz
            clear zn
            subst zz)
         | clear_value zz
         | subst zz)
    | with_reducible exact KeptX.refuse _ _
    | with_reducible refine KeptX.apply ?_
    | with_reducible refine KeptX.counted ?_
    | with_reducible refine KeptX.accept (fun _ _ => ?_)
    | with_reducible apply State.freeSkip_kept
    | with_reducible apply State.noteFacts_kept
    | with_reducible apply State.put_kept
    | with_reducible apply State.setCtx_kept
    | exact kn.mem _
    | with_reducible apply KeptX.ite
    | split
    | fail_if_no_progress with_reducible apply kk.rest

theorem State.loadCtx_kept {P : State → Prop} (kk : Kept P) (kc : KeptC P) (kt : KeptT P) (kd : KeptD P [0x4010, 0x4012, 0x4021, 0x5010, 0x5020, 0x7021]) (kn : KeptN P) {s : State} {c : Ctx} {decls : List TensorDecl} (h_s : P s) :
    KeptX P (State.loadCtx s c decls) := by
  unfold State.loadCtx
  repeat' first
    | with_reducible assumption
    | with_reducible intro _
    | (extract_lets +onlyGivenNames zz
       first
         | (with_reducible refine Kept.cut (P := P) (x := zz) ?_ ?_
            on_goal 2 => clear_value zz
            on_goal 1 => subst zz)
         | (with_reducible refine Kept.cut1 (P := P) (x := zz) ?_ ?_
            on_goal 2 => clear_value zz
            on_goal 1 => subst zz)
         | (have zn : Nat := zz
            clear zn
            subst zz)
         | clear_value zz
         | subst zz)
    | with_reducible exact KeptX.refuse _ _
    | with_reducible refine KeptX.apply ?_
    | with_reducible refine KeptX.counted ?_
    | with_reducible refine KeptX.accept (fun _ _ => ?_)
    | with_reducible apply State.bump_kept
    | with_reducible apply State.decidePlaces_kept
    | with_reducible apply State.setCtx_kept
    | exact kd.mem (by decide)
    | exact kd.mem (pick_mem (by decide) (by decide))
    | exact kd.mono (by decide)
    | exact kn.mem _
    | with_reducible apply KeptX.ite
    | split
    | fail_if_no_progress with_reducible apply kk.rest

theorem State.openStep_kept {P : State → Prop} (kk : Kept P) (km : KeptM P) (kc : KeptC P) (kd : KeptD P [0x3010, 0x3020, 0x3021, 0x3031, 0x3040, 0x3041, 0x4102, 0x4103]) {s : State} {n : Nat} (h_s : P s) :
    P (State.openStep s n) := by
  unfold State.openStep
  repeat' first
    | with_reducible assumption
    | with_reducible intro _
    | (extract_lets +onlyGivenNames zz
       first
         | (with_reducible refine Kept.cut (P := P) (x := zz) ?_ ?_
            on_goal 2 => clear_value zz
            on_goal 1 => subst zz)
         | (with_reducible refine Kept.cut1 (P := P) (x := zz) ?_ ?_
            on_goal 2 => clear_value zz
            on_goal 1 => subst zz)
         | (have zn : Nat := zz
            clear zn
            subst zz)
         | clear_value zz
         | subst zz)
    | with_reducible apply State.beginStep_kept
    | with_reducible apply State.snoopLines_kept
    | with_reducible apply State.writeCopies_kept
    | exact kd.mem (by decide)
    | exact kd.mem (pick_mem (by decide) (by decide))
    | exact kd.mono (by decide)
    | split
    | fail_if_no_progress with_reducible apply kk.rest

theorem State.tryStep_kept {P : State → Prop} (kk : Kept P) (km : KeptM P) (kc : KeptC P) (kv : KeptV P) (kd : KeptD P [0x3010, 0x3020, 0x3021, 0x3031, 0x3040, 0x3041, 0x4102, 0x4103]) (kn : KeptN P) {s : State} {n : Nat} (h_s : P s) :
    P (State.tryStep s n) := by
  unfold State.tryStep
  repeat' first
    | with_reducible assumption
    | with_reducible intro _
    | with_reducible apply State.enterDone_kept
    | with_reducible apply State.openStep_kept
    | with_reducible apply State.put_kept
    | exact kd.mem (by decide)
    | exact kd.mem (pick_mem (by decide) (by decide))
    | exact kd.mono (by decide)
    | exact kn.mem _
    | split
    | fail_if_no_progress with_reducible apply kk.rest

theorem State.startRun_kept {P : State → Prop} (kk : Kept P) (km : KeptM P) (kc : KeptC P) (kt : KeptT P) (kh : KeptH P) (kv : KeptV P) (kd : KeptD P [0x0080, 0x1012, 0x1013, 0x1015, 0x1016, 0x3010, 0x3020, 0x3021, 0x3031, 0x3032, 0x3040, 0x3041, 0x4014, 0x4021, 0x4102, 0x4103, 0x6010, 0x6020, 0x6021, 0x7020, 0x7021, 0x7040, 0x9030, 0x9031, 0xA003, 0xF030]) (kn : KeptN P) {s : State} {n : Nat} (h_s : P s) :
    P (State.startRun s n) := by
  unfold State.startRun
  repeat' first
    | with_reducible assumption
    | with_reducible intro _
    | exact kd.mem (by decide)
    | exact kd.mem (pick_mem (by decide) (by decide))
    | exact kd.mono (by decide)
    | exact kn.mem _
    | (extract_lets +onlyGivenNames zz
       first
         | (with_reducible refine Kept.cut (P := P) (x := zz) ?_ ?_
            on_goal 2 => clear_value zz
            on_goal 1 => subst zz)
         | (with_reducible refine Kept.cut1 (P := P) (x := zz) ?_ ?_
            on_goal 2 => clear_value zz
            on_goal 1 => subst zz)
         | (have zn : Nat := zz
            clear zn
            subst zz)
         | clear_value zz
         | subst zz)
    | with_reducible apply State.clearReason_kept
    | with_reducible apply State.fillSlots_kept
    | with_reducible apply State.modCtx_kept
    | with_reducible apply State.progress_kept
    | with_reducible apply State.readProducer_kept
    | with_reducible apply State.rereadTables_kept
    | with_reducible apply State.setCtx_kept
    | with_reducible apply State.tryStep_kept
    | exact kd.mem (by decide)
    | exact kd.mem (pick_mem (by decide) (by decide))
    | exact kd.mono (by decide)
    | exact kn.mem _
    | with_reducible refine Kept.foldl (fun _ _ _ => ?_) ?_
    | with_reducible refine Kept.foldl1 (fun _ _ _ => ?_) ?_
    | split
    | fail_if_no_progress with_reducible apply kk.rest

theorem State.runCtx_kept {P : State → Prop} (kk : Kept P) (km : KeptM P) (kc : KeptC P) (kt : KeptT P) (ks : KeptS P) (kg : KeptK P) (kh : KeptH P) (kv : KeptV P) (kl : KeptL P) (kd : KeptD P [0x0010, 0x0040, 0x0041, 0x0080, 0x1001, 0x1002, 0x1010, 0x1011, 0x1012, 0x1013, 0x1015, 0x1016, 0x3010, 0x3020, 0x3021, 0x3031, 0x3032, 0x3040, 0x3041, 0x4014, 0x4021, 0x4102, 0x4103, 0x6003, 0x6010, 0x6020, 0x6021, 0x7020, 0x7021, 0x7040, 0x9030, 0x9031, 0xA003, 0xA004, 0xF030]) (kn : KeptN P) (kq : KeptQ P) {s : State} {c : Ctx} (h_s : P s) :
    KeptX P (State.runCtx s c) := by
  unfold State.runCtx
  repeat' first
    | with_reducible assumption
    | with_reducible intro _
    | exact kd.mem (by decide)
    | exact kd.mem (pick_mem (by decide) (by decide))
    | exact kd.mono (by decide)
    | exact kn.mem _
    | (extract_lets +onlyGivenNames zz
       first
         | (with_reducible refine Kept.cut (P := P) (x := zz) ?_ ?_
            on_goal 2 => clear_value zz
            on_goal 1 => subst zz)
         | (with_reducible refine Kept.cut1 (P := P) (x := zz) ?_ ?_
            on_goal 2 => clear_value zz
            on_goal 1 => subst zz)
         | (have zn : Nat := zz
            clear zn
            subst zz)
         | clear_value zz
         | subst zz)
    | with_reducible exact KeptX.refuse _ _
    | with_reducible refine KeptX.apply ?_
    | with_reducible refine KeptX.counted ?_
    | with_reducible refine KeptX.accept (fun _ _ => ?_)
    | with_reducible apply State.bump_kept
    | with_reducible apply State.startRun_kept
    | with_reducible apply State.wakeForRun_kept
    | exact kd.mem (by decide)
    | exact kd.mem (pick_mem (by decide) (by decide))
    | exact kd.mono (by decide)
    | exact kn.mem _
    | with_reducible apply KeptX.ite
    | split
    | fail_if_no_progress with_reducible apply kk.rest

theorem holdCtx_kept {P : State → Prop} (kk : Kept P) (kc : KeptC P) (kv : KeptV P) (kn : KeptN P) {c : Ctx} :
    KeptX P (holdCtx c) := by
  unfold holdCtx
  repeat' first
    | with_reducible assumption
    | with_reducible intro _
    | (extract_lets +onlyGivenNames zz
       first
         | (with_reducible refine Kept.cut (P := P) (x := zz) ?_ ?_
            on_goal 2 => clear_value zz
            on_goal 1 => subst zz)
         | (with_reducible refine Kept.cut1 (P := P) (x := zz) ?_ ?_
            on_goal 2 => clear_value zz
            on_goal 1 => subst zz)
         | (have zn : Nat := zz
            clear zn
            subst zz)
         | clear_value zz
         | subst zz)
    | with_reducible exact KeptX.refuse _ _
    | with_reducible refine KeptX.apply ?_
    | with_reducible refine KeptX.counted ?_
    | with_reducible refine KeptX.accept (fun _ _ => ?_)
    | with_reducible apply State.enterHold_kept
    | with_reducible apply State.modCtx_kept
    | with_reducible apply State.setReason_kept
    | exact kn.mem _
    | with_reducible apply KeptX.ite
    | split
    | fail_if_no_progress with_reducible apply kk.rest

theorem State.doneCtx_kept {P : State → Prop} (kk : Kept P) (kc : KeptC P) (kt : KeptT P) (kv : KeptV P) (kd : KeptD P [0x4014, 0x4021, 0x6010, 0x7040, 0x9030, 0x9031, 0xF030]) (kn : KeptN P) {s : State} {c : Ctx} (h_s : P s) :
    KeptX P (State.doneCtx s c) := by
  unfold State.doneCtx
  repeat' first
    | with_reducible assumption
    | with_reducible intro _
    | with_reducible exact KeptX.refuse _ _
    | with_reducible refine KeptX.apply ?_
    | with_reducible refine KeptX.counted ?_
    | with_reducible refine KeptX.accept (fun _ _ => ?_)
    | with_reducible apply State.discardRun_kept
    | with_reducible apply State.enterDone_kept
    | with_reducible apply State.modCtx_kept
    | with_reducible apply State.retractAll_kept
    | exact kd.mem (by decide)
    | exact kd.mem (pick_mem (by decide) (by decide))
    | exact kd.mono (by decide)
    | exact kn.mem _
    | with_reducible apply KeptX.ite
    | split
    | fail_if_no_progress with_reducible apply kk.rest

theorem State.stopCtx_kept {P : State → Prop} (kk : Kept P) (kc : KeptC P) (kt : KeptT P) (kh : KeptH P) (kv : KeptV P) (kd : KeptD P [0x4021, 0x5020]) (kn : KeptN P) {s : State} {n : Nat} {reset : Bool} (h_s : P s) :
    P (State.stopCtx s n reset) := by
  unfold State.stopCtx
  repeat' first
    | with_reducible assumption
    | with_reducible intro _
    | (extract_lets +onlyGivenNames zz
       first
         | (with_reducible refine Kept.cut (P := P) (x := zz) ?_ ?_
            on_goal 2 => clear_value zz
            on_goal 1 => subst zz)
         | (with_reducible refine Kept.cut1 (P := P) (x := zz) ?_ ?_
            on_goal 2 => clear_value zz
            on_goal 1 => subst zz)
         | (have zn : Nat := zz
            clear zn
            subst zz)
         | clear_value zz
         | subst zz)
    | with_reducible apply State.faultCompanions_kept
    | with_reducible apply State.modCtx_kept
    | with_reducible apply State.modHalf_kept
    | with_reducible apply State.modTile_kept
    | with_reducible apply State.putAt_kept
    | exact kd.mem (by decide)
    | exact kd.mem (pick_mem (by decide) (by decide))
    | exact kd.mono (by decide)
    | exact kn.mem _
    | with_reducible refine Kept.foldl (fun _ _ _ => ?_) ?_
    | with_reducible refine Kept.foldl1 (fun _ _ _ => ?_) ?_
    | split
    | fail_if_no_progress with_reducible apply kk.rest

theorem State.freeCtx_kept {P : State → Prop} (kk : Kept P) (kc : KeptC P) (kt : KeptT P) (kh : KeptH P) (kv : KeptV P) (kd : KeptD P [0x4021, 0x5020]) (kn : KeptN P) {s : State} {c : Ctx} (h_s : P s) :
    KeptX P (State.freeCtx s c) := by
  unfold State.freeCtx
  repeat' first
    | with_reducible assumption
    | with_reducible intro _
    | with_reducible exact KeptX.refuse _ _
    | with_reducible refine KeptX.apply ?_
    | with_reducible refine KeptX.counted ?_
    | with_reducible refine KeptX.accept (fun _ _ => ?_)
    | with_reducible apply State.stopCtx_kept
    | exact kd.mem (by decide)
    | exact kd.mem (pick_mem (by decide) (by decide))
    | exact kd.mono (by decide)
    | exact kn.mem _
    | with_reducible apply KeptX.ite
    | split
    | fail_if_no_progress with_reducible apply kk.rest

theorem State.actState_kept {P : State → Prop} (kk : Kept P) (km : KeptM P) (kc : KeptC P) (kt : KeptT P) (ks : KeptS P) (kg : KeptK P) (kh : KeptH P) (kv : KeptV P) (kl : KeptL P) (kd : KeptD P [0x0010, 0x0040, 0x0041, 0x0080, 0x1001, 0x1002, 0x1010, 0x1011, 0x1012, 0x1013, 0x1015, 0x1016, 0x3010, 0x3020, 0x3021, 0x3031, 0x3032, 0x3040, 0x3041, 0x4010, 0x4012, 0x4014, 0x4021, 0x4102, 0x4103, 0x5010, 0x5020, 0x6003, 0x6010, 0x6020, 0x6021, 0x7020, 0x7021, 0x7040, 0x9030, 0x9031, 0xA003, 0xA004, 0xF030]) (kn : KeptN P) (kq : KeptQ P) {s : State} {via : Via} {n : Nat} {w : Word} {decls : List TensorDecl} (h_s : P s) :
    KeptX P (State.actState s via n w decls) := by
  unfold State.actState
  repeat' first
    | with_reducible assumption
    | with_reducible intro _
    | exact kd.mem (by decide)
    | exact kd.mem (pick_mem (by decide) (by decide))
    | exact kd.mono (by decide)
    | exact kn.mem _
    | (extract_lets +onlyGivenNames zz
       first
         | (with_reducible refine Kept.cut (P := P) (x := zz) ?_ ?_
            on_goal 2 => clear_value zz
            on_goal 1 => subst zz)
         | (with_reducible refine Kept.cut1 (P := P) (x := zz) ?_ ?_
            on_goal 2 => clear_value zz
            on_goal 1 => subst zz)
         | (have zn : Nat := zz
            clear zn
            subst zz)
         | clear_value zz
         | subst zz)
    | with_reducible exact KeptX.refuse _ _
    | with_reducible refine KeptX.apply ?_
    | with_reducible refine KeptX.counted ?_
    | with_reducible refine KeptX.accept (fun _ _ => ?_)
    | with_reducible apply State.doneCtx_kept
    | with_reducible apply State.freeCtx_kept
    | with_reducible apply State.loadCtx_kept
    | with_reducible apply State.openCtx_kept
    | with_reducible apply State.runCtx_kept
    | with_reducible apply holdCtx_kept
    | exact kd.mem (by decide)
    | exact kd.mem (pick_mem (by decide) (by decide))
    | exact kd.mono (by decide)
    | exact kn.mem _
    | with_reducible apply KeptX.ite
    | split
    | fail_if_no_progress with_reducible apply kk.rest

theorem State.actCtxReset_kept {P : State → Prop} (kk : Kept P) (kc : KeptC P) (kt : KeptT P) (kh : KeptH P) (kv : KeptV P) (kd : KeptD P [0x4021, 0x5020]) (kn : KeptN P) {s : State} {n : Nat} {w : Word} (h_s : P s) :
    KeptX P (State.actCtxReset s n w) := by
  unfold State.actCtxReset
  repeat' first
    | with_reducible assumption
    | with_reducible intro _
    | with_reducible exact KeptX.refuse _ _
    | with_reducible refine KeptX.apply ?_
    | with_reducible refine KeptX.counted ?_
    | with_reducible refine KeptX.accept (fun _ _ => ?_)
    | with_reducible apply State.stopCtx_kept
    | exact kd.mem (by decide)
    | exact kd.mem (pick_mem (by decide) (by decide))
    | exact kd.mono (by decide)
    | exact kn.mem _
    | with_reducible apply KeptX.ite
    | split
    | fail_if_no_progress with_reducible apply kk.rest

theorem State.releaseTile_kept {P : State → Prop} (kk : Kept P) (kc : KeptC P) (kt : KeptT P) (kb : KeptB P) (kd : KeptD P [0x0080, 0x4001, 0x4003, 0x4010, 0x4012, 0x4014, 0x4021, 0x5020, 0x9060, 0xF021]) {s : State} {c : Ctx} {residual : List (Nat × Nat)} {l : Nat} (h_s : P s) :
    P (State.releaseTile s c residual l) := by
  unfold State.releaseTile
  repeat' first
    | with_reducible assumption
    | with_reducible intro _
    | (extract_lets +onlyGivenNames zz
       first
         | (with_reducible refine Kept.cut (P := P) (x := zz) ?_ ?_
            on_goal 2 => clear_value zz
            on_goal 1 => subst zz)
         | (with_reducible refine Kept.cut1 (P := P) (x := zz) ?_ ?_
            on_goal 2 => clear_value zz
            on_goal 1 => subst zz)
         | (have zn : Nat := zz
            clear zn
            subst zz)
         | clear_value zz
         | subst zz)
    | with_reducible apply State.endRelocation_kept
    | with_reducible apply State.modTile_kept
    | with_reducible apply State.putAt_kept
    | with_reducible apply State.ringLevels_kept
    | with_reducible apply State.sanitizeTile_kept
    | exact kd.mem (by decide)
    | exact kd.mem (pick_mem (by decide) (by decide))
    | exact kd.mono (by decide)
    | with_reducible refine Kept.foldl (fun _ _ _ => ?_) ?_
    | with_reducible refine Kept.foldl1 (fun _ _ _ => ?_) ?_
    | split
    | fail_if_no_progress with_reducible apply kk.rest

theorem State.release_kept {P : State → Prop} (kk : Kept P) (km : KeptM P) (kc : KeptC P) (kt : KeptT P) (kv : KeptV P) (kb : KeptB P) (kd : KeptD P [0x0080, 0x4001, 0x4003, 0x4010, 0x4012, 0x4014, 0x4021, 0x5020, 0x9060, 0xF021]) (kq : KeptQ P) {s : State} {n : Nat} {residual : List (Nat × Nat)} (h_s : P s) :
    P (State.release s n residual) := by
  unfold State.release
  repeat' first
    | with_reducible assumption
    | with_reducible intro _
    | (extract_lets +onlyGivenNames zz
       first
         | (with_reducible refine Kept.cut (P := P) (x := zz) ?_ ?_
            on_goal 2 => clear_value zz
            on_goal 1 => subst zz)
         | (with_reducible refine Kept.cut1 (P := P) (x := zz) ?_ ?_
            on_goal 2 => clear_value zz
            on_goal 1 => subst zz)
         | (have zn : Nat := zz
            clear zn
            subst zz)
         | clear_value zz
         | subst zz)
    | with_reducible apply State.dropCtxKeys_kept
    | with_reducible apply State.endPending_kept
    | with_reducible apply State.flushTiles_kept
    | with_reducible apply State.releaseTile_kept
    | with_reducible apply State.zeroClaims_kept
    | exact kd.mem (by decide)
    | exact kd.mem (pick_mem (by decide) (by decide))
    | exact kd.mono (by decide)
    | with_reducible refine Kept.foldl (fun _ _ _ => ?_) ?_
    | with_reducible refine Kept.foldl1 (fun _ _ _ => ?_) ?_
    | split
    | fail_if_no_progress with_reducible apply kk.rest
    | fail_if_no_progress (with_reducible apply kc.ctxs; with_reducible apply kk.rest)

theorem execReleaseComplete_kept {P : State → Prop} (kk : Kept P) (km : KeptM P) (kc : KeptC P) (kt : KeptT P) (kv : KeptV P) (kb : KeptB P) (kd : KeptD P [0x0080, 0x4001, 0x4003, 0x4010, 0x4012, 0x4014, 0x4021, 0x5020, 0x6010, 0x7040, 0x9030, 0x9031, 0x9060, 0xF021, 0xF030]) (kq : KeptQ P) {n : Nat} {residual : List (Nat × Nat)} {s : State} (h_s : P s) :
    KeptR P (execReleaseComplete n residual s) := by
  unfold execReleaseComplete
  repeat' first
    | with_reducible assumption
    | with_reducible intro _
    | (extract_lets +onlyGivenNames zz
       first
         | (with_reducible refine Kept.cut (P := P) (x := zz) ?_ ?_
            on_goal 2 => clear_value zz
            on_goal 1 => subst zz)
         | (with_reducible refine Kept.cut1 (P := P) (x := zz) ?_ ?_
            on_goal 2 => clear_value zz
            on_goal 1 => subst zz)
         | (have zn : Nat := zz
            clear zn
            subst zz)
         | clear_value zz
         | subst zz)
    | with_reducible refine KeptR.onPower ?_ (fun _ => ?_)
    | with_reducible refine KeptR.next ?_
    | with_reducible exact KeptR.fault _
    | with_reducible apply State.release_kept
    | with_reducible apply State.retractAll_kept
    | with_reducible apply State.settle_kept
    | exact kd.mem (by decide)
    | exact kd.mem (pick_mem (by decide) (by decide))
    | exact kd.mono (by decide)
    | split
    | fail_if_no_progress with_reducible apply kk.rest

theorem State.actClaims_kept {P : State → Prop} (kk : Kept P) {s : State} {n j : Nat} {ws : List Word} (h_s : P s) :
    KeptX P (State.actClaims s n j ws) := by
  unfold State.actClaims
  repeat' first
    | with_reducible assumption
    | with_reducible intro _
    | (extract_lets +onlyGivenNames zz
       first
         | (with_reducible refine Kept.cut (P := P) (x := zz) ?_ ?_
            on_goal 2 => clear_value zz
            on_goal 1 => subst zz)
         | (with_reducible refine Kept.cut1 (P := P) (x := zz) ?_ ?_
            on_goal 2 => clear_value zz
            on_goal 1 => subst zz)
         | (have zn : Nat := zz
            clear zn
            subst zz)
         | clear_value zz
         | subst zz)
    | with_reducible exact KeptX.refuse _ _
    | with_reducible refine KeptX.apply ?_
    | with_reducible refine KeptX.counted ?_
    | with_reducible refine KeptX.accept (fun _ _ => ?_)
    | with_reducible apply State.snoopLines_kept
    | with_reducible apply KeptX.ite
    | split
    | fail_if_no_progress with_reducible apply kk.rest

theorem execClaimComplete_kept {P : State → Prop} (kk : Kept P) (km : KeptM P) (kv : KeptV P) (kn : KeptN P) {n : Nat} {s : State} (h_s : P s) :
    KeptR P (execClaimComplete n s) := by
  unfold execClaimComplete
  repeat' first
    | with_reducible assumption
    | with_reducible intro _
    | (extract_lets +onlyGivenNames zz
       first
         | (with_reducible refine Kept.cut (P := P) (x := zz) ?_ ?_
            on_goal 2 => clear_value zz
            on_goal 1 => subst zz)
         | (with_reducible refine Kept.cut1 (P := P) (x := zz) ?_ ?_
            on_goal 2 => clear_value zz
            on_goal 1 => subst zz)
         | (have zn : Nat := zz
            clear zn
            subst zz)
         | clear_value zz
         | subst zz)
    | with_reducible refine KeptR.onPower ?_ (fun _ => ?_)
    | with_reducible refine KeptR.next ?_
    | with_reducible exact KeptR.fault _
    | with_reducible apply State.endTicket_kept
    | with_reducible apply State.putsAt_kept
    | with_reducible apply State.snoopLines_kept
    | with_reducible apply State.unpoison_kept
    | with_reducible apply km.clear
    | with_reducible apply km.drop
    | exact kn.mem _
    | split
    | fail_if_no_progress with_reducible apply kk.rest

theorem State.actAck_kept {P : State → Prop}  (kn : KeptN P) {s : State} {n : Nat} {w : Word} (h_s : P s) :
    KeptX P (State.actAck s n w) := by
  unfold State.actAck
  repeat' first
    | with_reducible assumption
    | with_reducible intro _
    | with_reducible exact KeptX.refuse _ _
    | with_reducible refine KeptX.apply ?_
    | with_reducible refine KeptX.counted ?_
    | with_reducible refine KeptX.accept (fun _ _ => ?_)
    | with_reducible apply State.putAt_kept
    | exact kn.mem _
    | with_reducible apply KeptX.ite
    | split
    | fail_if_no_progress with_reducible apply kk.rest

theorem State.resetWatches_kept {P : State → Prop} (kk : Kept P) (kc : KeptC P) (kq : KeptQ P) {s : State} {n : Nat} (h_s : P s) :
    P (State.resetWatches s n) := by
  unfold State.resetWatches
  repeat' first
    | with_reducible assumption
    | with_reducible intro _
    | with_reducible apply State.dropKeys_kept
    | with_reducible apply State.modCtx_kept
    | split
    | fail_if_no_progress with_reducible apply kk.rest

theorem State.actNumerics_kept {P : State → Prop} (kk : Kept P) (kc : KeptC P) (kd : KeptD P [0x3032]) (kn : KeptN P) (kq : KeptQ P) {s : State} {n : Nat} {w : Word} (h_s : P s) :
    KeptX P (State.actNumerics s n w) := by
  unfold State.actNumerics
  repeat' first
    | with_reducible assumption
    | with_reducible intro _
    | (extract_lets +onlyGivenNames zz
       first
         | (with_reducible refine Kept.cut (P := P) (x := zz) ?_ ?_
            on_goal 2 => clear_value zz
            on_goal 1 => subst zz)
         | (with_reducible refine Kept.cut1 (P := P) (x := zz) ?_ ?_
            on_goal 2 => clear_value zz
            on_goal 1 => subst zz)
         | (have zn : Nat := zz
            clear zn
            subst zz)
         | clear_value zz
         | subst zz)
    | with_reducible exact KeptX.refuse _ _
    | with_reducible refine KeptX.apply ?_
    | with_reducible refine KeptX.counted ?_
    | with_reducible refine KeptX.accept (fun _ _ => ?_)
    | with_reducible apply State.clearReason_kept
    | with_reducible apply State.modCtx_kept
    | with_reducible apply State.putAt_kept
    | with_reducible apply State.resetWatches_kept
    | exact kd.mem (by decide)
    | exact kd.mem (pick_mem (by decide) (by decide))
    | exact kd.mono (by decide)
    | exact kn.mem _
    | with_reducible apply KeptX.ite
    | split
    | fail_if_no_progress with_reducible apply kk.rest

theorem execProducerUpdate_kept {P : State → Prop} (kk : Kept P) (km : KeptM P) (kc : KeptC P) (kv : KeptV P) (kd : KeptD P [0x3010, 0x3020, 0x3021, 0x3031, 0x3040, 0x3041, 0x4021, 0x4102, 0x4103, 0xA003]) (kn : KeptN P) {n : Nat} {value : BitVec 64} {s : State} (h_s : P s) :
    KeptR P (execProducerUpdate n value s) := by
  unfold execProducerUpdate
  repeat' first
    | with_reducible assumption
    | with_reducible intro _
    | (extract_lets +onlyGivenNames zz
       first
         | (with_reducible refine Kept.cut (P := P) (x := zz) ?_ ?_
            on_goal 2 => clear_value zz
            on_goal 1 => subst zz)
         | (with_reducible refine Kept.cut1 (P := P) (x := zz) ?_ ?_
            on_goal 2 => clear_value zz
            on_goal 1 => subst zz)
         | (have zn : Nat := zz
            clear zn
            subst zz)
         | clear_value zz
         | subst zz)
    | with_reducible refine KeptR.onPower ?_ (fun _ => ?_)
    | with_reducible refine KeptR.next ?_
    | with_reducible exact KeptR.fault _
    | with_reducible apply State.enterFault_kept
    | with_reducible apply State.fillLine_kept
    | with_reducible apply State.setCtx_kept
    | with_reducible apply State.tryStep_kept
    | exact kd.mem (by decide)
    | exact kd.mem (pick_mem (by decide) (by decide))
    | exact kd.mono (by decide)
    | exact kn.mem _
    | split
    | fail_if_no_progress with_reducible apply kk.rest

theorem execStreamWaitTimeout_kept {P : State → Prop} (kk : Kept P) (kn : KeptN P) {n : Nat} {s : State} (h_s : P s) :
    KeptR P (execStreamWaitTimeout n s) := by
  unfold execStreamWaitTimeout
  repeat' first
    | with_reducible assumption
    | with_reducible intro _
    | with_reducible refine KeptR.onPower ?_ (fun _ => ?_)
    | with_reducible refine KeptR.next ?_
    | with_reducible exact KeptR.fault _
    | with_reducible apply State.ctxEvent_kept
    | exact kn.mem _
    | split
    | fail_if_no_progress with_reducible apply kk.rest

end Sys2Proof.Machine
end

