-- ==== Sys2Proof/Laws/KeptSwizeoth.lean ====
section
/-! SUPPORT. What every definition of Machine/Swizeoth.lean keeps of a state: one lemma each (Laws/Kept.lean). -/

namespace Sys2Proof.Machine

open Sys2Proof

set_option linter.all false

theorem State.updateLayer_kept {P : State → Prop} (kk : Kept P) (kc : KeptC P) (kd : KeptD P [0x5011]) {s : State} {n step : Nat} {eta k : Word} {layer : Nat} (h_s : P s) :
    P (State.updateLayer s n step eta k layer) := by
  unfold State.updateLayer
  repeat' first
    | with_reducible assumption
    | with_reducible intro _
    | (extract_lets +onlyGivenNames zz
       first
         | (with_reducible refine Kept.cut (P := P) (x := zz) ?_ ?_
            on_goal 2 => clear_value zz
            on_goal 1 => subst zz)
         | (with_reducible refine Kept.cut1 (P := P) (x := zz) ?_ ?_
            on_goal 2 => clear_value zz
            on_goal 1 => subst zz)
         | (have zn : Nat := zz
            clear zn
            subst zz)
         | clear_value zz
         | subst zz)
    | with_reducible apply State.addAt_kept
    | with_reducible apply State.setCtx_kept
    | exact kd.mem (by decide)
    | exact kd.mem (pick_mem (by decide) (by decide))
    | exact kd.mono (by decide)
    | with_reducible refine Kept.foldl (fun _ _ _ => ?_) ?_
    | with_reducible refine Kept.foldl1 (fun _ _ _ => ?_) ?_
    | split
    | fail_if_no_progress with_reducible apply kk.rest

theorem State.decideRow_kept {P : State → Prop} (kk : Kept P) (kt : KeptT P) (kd : KeptD P [0x5001, 0x5002, 0x5010, 0x5020]) {s : State} {c : Ctx} {p : Nat} {q : Seat} {L : Layer} {step row : Nat} (h_s : P s) :
    P (State.decideRow s c p q L step row) := by
  unfold State.decideRow
  repeat' first
    | with_reducible assumption
    | with_reducible intro _
    | (extract_lets +onlyGivenNames zz
       first
         | (with_reducible refine Kept.cut (P := P) (x := zz) ?_ ?_
            on_goal 2 => clear_value zz
            on_goal 1 => subst zz)
         | (with_reducible refine Kept.cut1 (P := P) (x := zz) ?_ ?_
            on_goal 2 => clear_value zz
            on_goal 1 => subst zz)
         | (have zn : Nat := zz
            clear zn
            subst zz)
         | clear_value zz
         | subst zz)
    | with_reducible apply State.add64_kept
    | with_reducible apply State.addAt_kept
    | with_reducible apply State.bumpAt_kept
    | with_reducible apply State.modTile_kept
    | exact kd.mem (by decide)
    | exact kd.mem (pick_mem (by decide) (by decide))
    | exact kd.mono (by decide)
    | with_reducible refine Kept.foldl (fun _ _ _ => ?_) ?_
    | with_reducible refine Kept.foldl1 (fun _ _ _ => ?_) ?_
    | split
    | fail_if_no_progress with_reducible apply kk.rest

theorem State.showQueue_kept {P : State → Prop}  (kd : KeptD P [0x5020]) {s : State} {p : Nat} (h_s : P s) :
    P (State.showQueue s p) := by
  unfold State.showQueue
  repeat' first
    | with_reducible assumption
    | with_reducible intro _
    | with_reducible apply State.putAt_kept
    | exact kd.mem (by decide)
    | exact kd.mem (pick_mem (by decide) (by decide))
    | exact kd.mono (by decide)
    | split
    | fail_if_no_progress with_reducible apply kk.rest

theorem State.decideLayer_kept {P : State → Prop} (kk : Kept P) (kt : KeptT P) (kd : KeptD P [0x5001, 0x5002, 0x5010, 0x5020]) {s : State} {n step layer : Nat} (h_s : P s) :
    P (State.decideLayer s n step layer) := by
  unfold State.decideLayer
  repeat' first
    | with_reducible assumption
    | with_reducible intro _
    | (extract_lets +onlyGivenNames zz
       first
         | (with_reducible refine Kept.cut (P := P) (x := zz) ?_ ?_
            on_goal 2 => clear_value zz
            on_goal 1 => subst zz)
         | (with_reducible refine Kept.cut1 (P := P) (x := zz) ?_ ?_
            on_goal 2 => clear_value zz
            on_goal 1 => subst zz)
         | (have zn : Nat := zz
            clear zn
            subst zz)
         | clear_value zz
         | subst zz)
    | with_reducible apply State.decideRow_kept
    | with_reducible apply State.showQueue_kept
    | exact kd.mem (by decide)
    | exact kd.mem (pick_mem (by decide) (by decide))
    | exact kd.mono (by decide)
    | with_reducible refine Kept.foldl (fun _ _ _ => ?_) ?_
    | with_reducible refine Kept.foldl1 (fun _ _ _ => ?_) ?_
    | split
    | fail_if_no_progress with_reducible apply kk.rest

theorem State.updateDone_kept {P : State → Prop} (kk : Kept P) (kc : KeptC P) (kh : KeptH P) (kd : KeptD P [0x5010]) {s : State} {n t : Nat} (h_s : P s) :
    P (State.updateDone s n t) := by
  unfold State.updateDone
  repeat' first
    | with_reducible assumption
    | with_reducible intro _
    | (extract_lets +onlyGivenNames zz
       first
         | (with_reducible refine Kept.cut (P := P) (x := zz) ?_ ?_
            on_goal 2 => clear_value zz
            on_goal 1 => subst zz)
         | (with_reducible refine Kept.cut1 (P := P) (x := zz) ?_ ?_
            on_goal 2 => clear_value zz
            on_goal 1 => subst zz)
         | (have zn : Nat := zz
            clear zn
            subst zz)
         | clear_value zz
         | subst zz)
    | with_reducible apply State.modHalf_kept
    | with_reducible apply State.put64At_kept
    | with_reducible apply State.setCtx_kept
    | exact kd.mem (by decide)
    | exact kd.mem (pick_mem (by decide) (by decide))
    | exact kd.mono (by decide)
    | split
    | fail_if_no_progress with_reducible apply kk.rest

theorem execUpdateStart_kept {P : State → Prop} (kk : Kept P) (kc : KeptC P) (kh : KeptH P) (kd : KeptD P [0x5001, 0x5002, 0x5010, 0x5011, 0x7010, 0x7013, 0x7040, 0x9030, 0x9031, 0xF030]) {n : Nat} {s : State} (h_s : P s) :
    KeptR P (execUpdateStart n s) := by
  unfold execUpdateStart
  repeat' first
    | with_reducible assumption
    | with_reducible intro _
    | (extract_lets +onlyGivenNames zz
       first
         | (with_reducible refine Kept.cut (P := P) (x := zz) ?_ ?_
            on_goal 2 => clear_value zz
            on_goal 1 => subst zz)
         | (with_reducible refine Kept.cut1 (P := P) (x := zz) ?_ ?_
            on_goal 2 => clear_value zz
            on_goal 1 => subst zz)
         | (have zn : Nat := zz
            clear zn
            subst zz)
         | clear_value zz
         | subst zz)
    | with_reducible refine KeptR.onPower ?_ (fun _ => ?_)
    | with_reducible refine KeptR.next ?_
    | with_reducible exact KeptR.fault _
    | with_reducible apply State.bump_kept
    | with_reducible apply State.bumpAt_kept
    | with_reducible apply State.log_kept
    | with_reducible apply State.modCtx_kept
    | with_reducible apply State.openCopy_kept
    | with_reducible apply State.putAt_kept
    | with_reducible apply State.replayCheck_kept
    | with_reducible apply State.sendTrailer_kept
    | with_reducible apply State.updateDone_kept
    | exact kd.mem (by decide)
    | exact kd.mem (pick_mem (by decide) (by decide))
    | exact kd.mono (by decide)
    | with_reducible refine Kept.foldl (fun _ _ _ => ?_) ?_
    | with_reducible refine Kept.foldl1 (fun _ _ _ => ?_) ?_
    | split
    | fail_if_no_progress with_reducible apply kk.rest

theorem execUpdateComplete_kept {P : State → Prop} (kk : Kept P) (km : KeptM P) (kc : KeptC P) (kt : KeptT P) (kh : KeptH P) (kd : KeptD P [0x5001, 0x5002, 0x5010, 0x5011, 0x5020, 0x7040, 0x9030, 0x9031, 0xF030]) {n : Nat} {s : State} (h_s : P s) :
    KeptR P (execUpdateComplete n s) := by
  unfold execUpdateComplete
  repeat' first
    | with_reducible assumption
    | with_reducible intro _
    | (extract_lets +onlyGivenNames zz
       first
         | (with_reducible refine Kept.cut (P := P) (x := zz) ?_ ?_
            on_goal 2 => clear_value zz
            on_goal 1 => subst zz)
         | (with_reducible refine Kept.cut1 (P := P) (x := zz) ?_ ?_
            on_goal 2 => clear_value zz
            on_goal 1 => subst zz)
         | (have zn : Nat := zz
            clear zn
            subst zz)
         | clear_value zz
         | subst zz)
    | with_reducible refine KeptR.onPower ?_ (fun _ => ?_)
    | with_reducible refine KeptR.next ?_
    | with_reducible exact KeptR.fault _
    | with_reducible apply State.add64_kept
    | with_reducible apply State.decideLayer_kept
    | with_reducible apply State.put64_kept
    | with_reducible apply State.snoopLines_kept
    | with_reducible apply State.streamCopy_kept
    | with_reducible apply State.updateDone_kept
    | with_reducible apply State.updateLayer_kept
    | with_reducible apply State.writeCopies_kept
    | exact kd.mem (by decide)
    | exact kd.mem (pick_mem (by decide) (by decide))
    | exact kd.mono (by decide)
    | with_reducible refine Kept.foldl (fun _ _ _ => ?_) ?_
    | with_reducible refine Kept.foldl1 (fun _ _ _ => ?_) ?_
    | split
    | fail_if_no_progress with_reducible apply kk.rest

theorem execTransferPassStart_kept {P : State → Prop} (kk : Kept P) (kt : KeptT P) (kd : KeptD P [0x4021, 0x5020]) {tile : Nat} {s : State} (h_s : P s) :
    KeptR P (execTransferPassStart tile s) := by
  unfold execTransferPassStart
  repeat' first
    | with_reducible assumption
    | with_reducible intro _
    | (extract_lets +onlyGivenNames zz
       first
         | (with_reducible refine Kept.cut (P := P) (x := zz) ?_ ?_
            on_goal 2 => clear_value zz
            on_goal 1 => subst zz)
         | (with_reducible refine Kept.cut1 (P := P) (x := zz) ?_ ?_
            on_goal 2 => clear_value zz
            on_goal 1 => subst zz)
         | (have zn : Nat := zz
            clear zn
            subst zz)
         | clear_value zz
         | subst zz)
    | with_reducible refine KeptR.onPower ?_ (fun _ => ?_)
    | with_reducible refine KeptR.next ?_
    | with_reducible exact KeptR.fault _
    | with_reducible apply State.bumpAt_kept
    | with_reducible apply State.modTile_kept
    | with_reducible apply State.putAt_kept
    | exact kd.mem (by decide)
    | exact kd.mem (pick_mem (by decide) (by decide))
    | exact kd.mono (by decide)
    | split
    | fail_if_no_progress with_reducible apply kk.rest

theorem State.rowReport_kept {P : State → Prop} (kk : Kept P) (kc : KeptC P) (kd : KeptD P [0x5001, 0x5002, 0x5010, 0x5020]) {s : State} {p : Nat} {j : RowJob} (h_s : P s) :
    P (State.rowReport s p j) := by
  unfold State.rowReport
  repeat' first
    | with_reducible assumption
    | with_reducible intro _
    | (extract_lets +onlyGivenNames zz
       first
         | (with_reducible refine Kept.cut (P := P) (x := zz) ?_ ?_
            on_goal 2 => clear_value zz
            on_goal 1 => subst zz)
         | (with_reducible refine Kept.cut1 (P := P) (x := zz) ?_ ?_
            on_goal 2 => clear_value zz
            on_goal 1 => subst zz)
         | (have zn : Nat := zz
            clear zn
            subst zz)
         | clear_value zz
         | subst zz)
    | with_reducible apply State.add64_kept
    | with_reducible apply State.add64At_kept
    | with_reducible apply State.modCtx_kept
    | exact kd.mem (by decide)
    | exact kd.mem (pick_mem (by decide) (by decide))
    | exact kd.mono (by decide)
    | split
    | fail_if_no_progress with_reducible apply kk.rest

theorem State.passEnds_kept {P : State → Prop} (kk : Kept P) (kt : KeptT P) (kd : KeptD P [0x5020]) {s : State} {p : Nat} (h_s : P s) :
    P (State.passEnds s p) := by
  unfold State.passEnds
  repeat' first
    | with_reducible assumption
    | with_reducible intro _
    | (extract_lets +onlyGivenNames zz
       first
         | (with_reducible refine Kept.cut (P := P) (x := zz) ?_ ?_
            on_goal 2 => clear_value zz
            on_goal 1 => subst zz)
         | (with_reducible refine Kept.cut1 (P := P) (x := zz) ?_ ?_
            on_goal 2 => clear_value zz
            on_goal 1 => subst zz)
         | (have zn : Nat := zz
            clear zn
            subst zz)
         | clear_value zz
         | subst zz)
    | with_reducible apply State.modTile_kept
    | with_reducible apply State.putAt_kept
    | exact kd.mem (by decide)
    | exact kd.mem (pick_mem (by decide) (by decide))
    | exact kd.mono (by decide)
    | split
    | fail_if_no_progress with_reducible apply kk.rest

theorem execTransferRowComplete_kept {P : State → Prop} (kk : Kept P) (kc : KeptC P) (kt : KeptT P) (kb : KeptB P) (kd : KeptD P [0x0080, 0x4001, 0x4003, 0x4004, 0x4005, 0x4010, 0x4012, 0x4021, 0x5001, 0x5002, 0x5010, 0x5020, 0x7040, 0xF030]) {tile row : Nat} {meas : RowMeas} {s : State} (h_s : P s) :
    KeptR P (execTransferRowComplete tile row meas s) := by
  unfold execTransferRowComplete
  repeat' first
    | with_reducible assumption
    | with_reducible intro _
    | (extract_lets +onlyGivenNames zz
       first
         | (with_reducible refine Kept.cut (P := P) (x := zz) ?_ ?_
            on_goal 2 => clear_value zz
            on_goal 1 => subst zz)
         | (with_reducible refine Kept.cut1 (P := P) (x := zz) ?_ ?_
            on_goal 2 => clear_value zz
            on_goal 1 => subst zz)
         | (have zn : Nat := zz
            clear zn
            subst zz)
         | clear_value zz
         | subst zz)
    | with_reducible refine KeptR.onPower ?_ (fun _ => ?_)
    | with_reducible refine KeptR.next ?_
    | with_reducible exact KeptR.fault _
    | with_reducible apply State.modTile_kept
    | with_reducible apply State.passEnds_kept
    | with_reducible apply State.passShadow_kept
    | with_reducible apply State.putAt_kept
    | with_reducible apply State.rowReport_kept
    | with_reducible apply State.showQueue_kept
    | with_reducible apply State.writeRow_kept
    | exact kd.mem (by decide)
    | exact kd.mem (pick_mem (by decide) (by decide))
    | exact kd.mono (by decide)
    | split
    | fail_if_no_progress with_reducible apply kk.rest

theorem execGovernorEvaluate_kept {P : State → Prop} (kk : Kept P) (kt : KeptT P) (kd : KeptD P [0x0080, 0x5020, 0x7040, 0xF030]) {tile hottest : Nat} {s : State} (h_s : P s) :
    KeptR P (execGovernorEvaluate tile hottest s) := by
  unfold execGovernorEvaluate
  repeat' first
    | with_reducible assumption
    | with_reducible intro _
    | (extract_lets +onlyGivenNames zz
       first
         | (with_reducible refine Kept.cut (P := P) (x := zz) ?_ ?_
            on_goal 2 => clear_value zz
            on_goal 1 => subst zz)
         | (with_reducible refine Kept.cut1 (P := P) (x := zz) ?_ ?_
            on_goal 2 => clear_value zz
            on_goal 1 => subst zz)
         | (have zn : Nat := zz
            clear zn
            subst zz)
         | clear_value zz
         | subst zz)
    | with_reducible refine KeptR.onPower ?_ (fun _ => ?_)
    | with_reducible refine KeptR.next ?_
    | with_reducible exact KeptR.fault _
    | with_reducible apply State.log_kept
    | with_reducible apply State.modTile_kept
    | with_reducible apply State.noteEndurance_kept
    | with_reducible apply State.putAt_kept
    | with_reducible apply State.putBitAt_kept
    | exact kd.mem (by decide)
    | exact kd.mem (pick_mem (by decide) (by decide))
    | exact kd.mono (by decide)
    | split
    | fail_if_no_progress with_reducible apply kk.rest

end Sys2Proof.Machine
end

