-- ==== Sys2Proof/Laws/KeptExchange.lean ====
section
/-! SUPPORT. What every definition of Machine/Exchange.lean keeps of a state: one lemma each (Laws/Kept.lean). -/

namespace Sys2Proof.Machine

open Sys2Proof

set_option linter.all false

theorem State.modExchange_kept {P : State → Prop} (kk : Kept P) (kc : KeptC P) {s : State} {n : Nat} {f : Exchange → Exchange} (h_s : P s) :
    P (State.modExchange s n f) := by
  unfold State.modExchange
  repeat' first
    | with_reducible assumption
    | with_reducible intro _
    | with_reducible apply State.modCtx_kept
    | split
    | fail_if_no_progress with_reducible apply kk.rest

theorem State.exState_kept {P : State → Prop}  (kd : KeptD P [0x6010]) {s : State} {n v : Nat} (h_s : P s) :
    P (State.exState s n v) := by
  unfold State.exState
  repeat' first
    | with_reducible assumption
    | with_reducible intro _
    | with_reducible apply State.putAt_kept
    | exact kd.mem (by decide)
    | exact kd.mem (pick_mem (by decide) (by decide))
    | exact kd.mono (by decide)
    | split
    | fail_if_no_progress with_reducible apply kk.rest

theorem State.protocolError_kept {P : State → Prop}  (kd : KeptD P [0x6010]) {s : State} {n : Nat} (h_s : P s) :
    P (State.protocolError s n) := by
  unfold State.protocolError
  repeat' first
    | with_reducible assumption
    | with_reducible intro _
    | with_reducible apply State.bumpAt_kept
    | exact kd.mem (by decide)
    | exact kd.mem (pick_mem (by decide) (by decide))
    | exact kd.mono (by decide)
    | split
    | fail_if_no_progress with_reducible apply kk.rest

theorem State.sendItem_kept {P : State → Prop} (kk : Kept P) (kc : KeptC P) (kd : KeptD P [0x6010, 0x6020, 0x6021, 0x7040, 0x9030, 0x9031, 0xF030]) {s : State} {n dest cls step item attempt : Nat} {data : List Byte} (h_s : P s) :
    P (State.sendItem s n dest cls step item attempt data) := by
  unfold State.sendItem
  repeat' first
    | with_reducible assumption
    | with_reducible intro _
    | (extract_lets +onlyGivenNames zz
       first
         | (with_reducible refine Kept.cut (P := P) (x := zz) ?_ ?_
            on_goal 2 => clear_value zz
            on_goal 1 => subst zz)
         | (with_reducible refine Kept.cut1 (P := P) (x := zz) ?_ ?_
            on_goal 2 => clear_value zz
            on_goal 1 => subst zz)
         | (have zn : Nat := zz
            clear zn
            subst zz)
         | clear_value zz
         | subst zz)
    | with_reducible apply State.add64_kept
    | with_reducible apply State.handItem_kept
    | with_reducible apply State.modExchange_kept
    | with_reducible apply State.putAt_kept
    | exact kd.mem (by decide)
    | exact kd.mem (pick_mem (by decide) (by decide))
    | exact kd.mono (by decide)
    | split
    | fail_if_no_progress with_reducible apply kk.rest

theorem State.placeItem_kept {P : State → Prop} (kk : Kept P) (kc : KeptC P) (kd : KeptD P [0x6010, 0x6020, 0x6021, 0x7040, 0x9030, 0x9031, 0xF030]) {s : State} {n own dest step item attempt : Nat} {data : List Byte} (h_s : P s) :
    P (State.placeItem s n own dest step item attempt data) := by
  unfold State.placeItem
  repeat' first
    | with_reducible assumption
    | with_reducible intro _
    | (extract_lets +onlyGivenNames zz
       first
         | (with_reducible refine Kept.cut (P := P) (x := zz) ?_ ?_
            on_goal 2 => clear_value zz
            on_goal 1 => subst zz)
         | (with_reducible refine Kept.cut1 (P := P) (x := zz) ?_ ?_
            on_goal 2 => clear_value zz
            on_goal 1 => subst zz)
         | (have zn : Nat := zz
            clear zn
            subst zz)
         | clear_value zz
         | subst zz)
    | with_reducible apply State.modExchange_kept
    | with_reducible apply State.sendItem_kept
    | exact kd.mem (by decide)
    | exact kd.mem (pick_mem (by decide) (by decide))
    | exact kd.mono (by decide)
    | split
    | fail_if_no_progress with_reducible apply kk.rest

theorem State.sendBucket_kept {P : State → Prop} (kk : Kept P) (km : KeptM P) (kc : KeptC P) (kd : KeptD P [0x6010, 0x6020, 0x6021, 0x7040, 0x9030, 0x9031, 0xF030]) {s : State} {n b : Nat} (h_s : P s) :
    P (State.sendBucket s n b) := by
  unfold State.sendBucket
  repeat' first
    | with_reducible assumption
    | with_reducible intro _
    | (extract_lets +onlyGivenNames zz
       first
         | (with_reducible refine Kept.cut (P := P) (x := zz) ?_ ?_
            on_goal 2 => clear_value zz
            on_goal 1 => subst zz)
         | (with_reducible refine Kept.cut1 (P := P) (x := zz) ?_ ?_
            on_goal 2 => clear_value zz
            on_goal 1 => subst zz)
         | (have zn : Nat := zz
            clear zn
            subst zz)
         | clear_value zz
         | subst zz)
    | with_reducible apply State.exState_kept
    | with_reducible apply State.hbmWrite_kept
    | with_reducible apply State.modCtx_kept
    | with_reducible apply State.placeItem_kept
    | exact kd.mem (by decide)
    | exact kd.mem (pick_mem (by decide) (by decide))
    | exact kd.mono (by decide)
    | with_reducible refine Kept.foldl (fun _ _ _ => ?_) ?_
    | with_reducible refine Kept.foldl1 (fun _ _ _ => ?_) ?_
    | split
    | fail_if_no_progress with_reducible apply kk.rest

theorem execBucketSend_kept {P : State → Prop} (kk : Kept P) (km : KeptM P) (kc : KeptC P) (kd : KeptD P [0x6010, 0x6020, 0x6021, 0x7040, 0x9030, 0x9031, 0xF030]) {n bucket : Nat} {s : State} (h_s : P s) :
    KeptR P (execBucketSend n bucket s) := by
  unfold execBucketSend
  repeat' first
    | with_reducible assumption
    | with_reducible intro _
    | (extract_lets +onlyGivenNames zz
       first
         | (with_reducible refine Kept.cut (P := P) (x := zz) ?_ ?_
            on_goal 2 => clear_value zz
            on_goal 1 => subst zz)
         | (with_reducible refine Kept.cut1 (P := P) (x := zz) ?_ ?_
            on_goal 2 => clear_value zz
            on_goal 1 => subst zz)
         | (have zn : Nat := zz
            clear zn
            subst zz)
         | clear_value zz
         | subst zz)
    | with_reducible refine KeptR.onPower ?_ (fun _ => ?_)
    | with_reducible refine KeptR.next ?_
    | with_reducible exact KeptR.fault _
    | with_reducible apply State.sendBucket_kept
    | with_reducible apply State.snoopLines_kept
    | exact kd.mem (by decide)
    | exact kd.mem (pick_mem (by decide) (by decide))
    | exact kd.mono (by decide)
    | split
    | fail_if_no_progress with_reducible apply kk.rest

theorem execTensorSend_kept {P : State → Prop} (kk : Kept P) (kc : KeptC P) (kd : KeptD P [0x6010, 0x6020, 0x6021, 0x7040, 0x9030, 0x9031, 0xF030]) {n link : Nat} {s : State} (h_s : P s) :
    KeptR P (execTensorSend n link s) := by
  unfold execTensorSend
  repeat' first
    | with_reducible assumption
    | with_reducible intro _
    | with_reducible refine KeptR.onPower ?_ (fun _ => ?_)
    | with_reducible refine KeptR.next ?_
    | with_reducible exact KeptR.fault _
    | with_reducible apply Kept.ident
    | with_reducible apply State.sendItem_kept
    | exact kd.mem (by decide)
    | exact kd.mem (pick_mem (by decide) (by decide))
    | exact kd.mono (by decide)
    | split
    | fail_if_no_progress with_reducible apply kk.rest

theorem State.checkWhole_kept {P : State → Prop} (kk : Kept P) (kc : KeptC P) (kh : KeptH P) (kd : KeptD P [0x6010]) {s : State} {n step : Nat} (h_s : P s) :
    P (State.checkWhole s n step) := by
  unfold State.checkWhole
  repeat' first
    | with_reducible assumption
    | with_reducible intro _
    | (extract_lets +onlyGivenNames zz
       first
         | (with_reducible refine Kept.cut (P := P) (x := zz) ?_ ?_
            on_goal 2 => clear_value zz
            on_goal 1 => subst zz)
         | (with_reducible refine Kept.cut1 (P := P) (x := zz) ?_ ?_
            on_goal 2 => clear_value zz
            on_goal 1 => subst zz)
         | (have zn : Nat := zz
            clear zn
            subst zz)
         | clear_value zz
         | subst zz)
    | with_reducible apply State.exState_kept
    | with_reducible apply State.modCtx_kept
    | with_reducible apply State.modHalf_kept
    | exact kd.mem (by decide)
    | exact kd.mem (pick_mem (by decide) (by decide))
    | exact kd.mono (by decide)
    | split
    | fail_if_no_progress with_reducible apply kk.rest

theorem State.commitStep_kept {P : State → Prop} (kk : Kept P) (kc : KeptC P) (kh : KeptH P) (kd : KeptD P [0x6010, 0x6020, 0x6021, 0x7010, 0x7040, 0x9030, 0x9031, 0xF030]) {s : State} {n step : Nat} (h_s : P s) :
    P (State.commitStep s n step) := by
  unfold State.commitStep
  repeat' first
    | with_reducible assumption
    | with_reducible intro _
    | (extract_lets +onlyGivenNames zz
       first
         | (with_reducible refine Kept.cut (P := P) (x := zz) ?_ ?_
            on_goal 2 => clear_value zz
            on_goal 1 => subst zz)
         | (with_reducible refine Kept.cut1 (P := P) (x := zz) ?_ ?_
            on_goal 2 => clear_value zz
            on_goal 1 => subst zz)
         | (have zn : Nat := zz
            clear zn
            subst zz)
         | clear_value zz
         | subst zz)
    | with_reducible apply State.add64_kept
    | with_reducible apply State.bumpAt_kept
    | with_reducible apply State.checkWhole_kept
    | with_reducible apply State.exState_kept
    | with_reducible apply State.handItem_kept
    | with_reducible apply State.modCtx_kept
    | with_reducible apply State.modExchange_kept
    | with_reducible apply State.noteCommit_kept
    | with_reducible apply State.put64At_kept
    | exact kd.mem (by decide)
    | exact kd.mem (pick_mem (by decide) (by decide))
    | exact kd.mono (by decide)
    | with_reducible refine Kept.foldl (fun _ _ _ => ?_) ?_
    | with_reducible refine Kept.foldl1 (fun _ _ _ => ?_) ?_
    | split
    | fail_if_no_progress with_reducible apply kk.rest

theorem State.tryCommit_kept {P : State → Prop} (kk : Kept P) (kc : KeptC P) (kh : KeptH P) (kd : KeptD P [0x6010, 0x6020, 0x6021, 0x7010, 0x7040, 0x9030, 0x9031, 0xF030]) {s : State} {n : Nat} (h_s : P s) :
    P (State.tryCommit s n) := by
  unfold State.tryCommit
  repeat' first
    | with_reducible assumption
    | with_reducible intro _
    | (extract_lets +onlyGivenNames zz
       first
         | (with_reducible refine Kept.cut (P := P) (x := zz) ?_ ?_
            on_goal 2 => clear_value zz
            on_goal 1 => subst zz)
         | (with_reducible refine Kept.cut1 (P := P) (x := zz) ?_ ?_
            on_goal 2 => clear_value zz
            on_goal 1 => subst zz)
         | (have zn : Nat := zz
            clear zn
            subst zz)
         | clear_value zz
         | subst zz)
    | with_reducible apply State.commitStep_kept
    | exact kd.mem (by decide)
    | exact kd.mem (pick_mem (by decide) (by decide))
    | exact kd.mono (by decide)
    | split
    | fail_if_no_progress with_reducible apply kk.rest

theorem execGatherReceive_kept {P : State → Prop} (kk : Kept P) (kc : KeptC P) (kh : KeptH P) (kd : KeptD P [0x6010]) {n src group step bucket : Nat} {data : List Byte} {s : State} (h_s : P s) :
    KeptR P (execGatherReceive n src group step bucket data s) := by
  unfold execGatherReceive
  repeat' first
    | with_reducible assumption
    | with_reducible intro _
    | (extract_lets +onlyGivenNames zz
       first
         | (with_reducible refine Kept.cut (P := P) (x := zz) ?_ ?_
            on_goal 2 => clear_value zz
            on_goal 1 => subst zz)
         | (with_reducible refine Kept.cut1 (P := P) (x := zz) ?_ ?_
            on_goal 2 => clear_value zz
            on_goal 1 => subst zz)
         | (have zn : Nat := zz
            clear zn
            subst zz)
         | clear_value zz
         | subst zz)
    | with_reducible refine KeptR.onPower ?_ (fun _ => ?_)
    | with_reducible refine KeptR.next ?_
    | with_reducible exact KeptR.fault _
    | with_reducible apply State.checkWhole_kept
    | with_reducible apply State.modCtx_kept
    | with_reducible apply State.protocolError_kept
    | exact kd.mem (by decide)
    | exact kd.mem (pick_mem (by decide) (by decide))
    | exact kd.mono (by decide)
    | split
    | fail_if_no_progress with_reducible apply kk.rest

theorem State.formNorm_kept {P : State → Prop} (kk : Kept P) (kc : KeptC P) (kd : KeptD P [0x6010]) {s : State} {n step : Nat} (h_s : P s) :
    P (State.formNorm s n step) := by
  unfold State.formNorm
  repeat' first
    | with_reducible assumption
    | with_reducible intro _
    | (extract_lets +onlyGivenNames zz
       first
         | (with_reducible refine Kept.cut (P := P) (x := zz) ?_ ?_
            on_goal 2 => clear_value zz
            on_goal 1 => subst zz)
         | (with_reducible refine Kept.cut1 (P := P) (x := zz) ?_ ?_
            on_goal 2 => clear_value zz
            on_goal 1 => subst zz)
         | (have zn : Nat := zz
            clear zn
            subst zz)
         | clear_value zz
         | subst zz)
    | with_reducible apply State.exState_kept
    | with_reducible apply State.modCtx_kept
    | with_reducible apply State.modExchange_kept
    | exact kd.mem (by decide)
    | exact kd.mem (pick_mem (by decide) (by decide))
    | exact kd.mono (by decide)
    | split
    | fail_if_no_progress with_reducible apply kk.rest

theorem execNormPartialSend_kept {P : State → Prop} (kk : Kept P) (kc : KeptC P) (kd : KeptD P [0x6010, 0x7040, 0x9030, 0x9031, 0xF030]) {n : Nat} {s : State} (h_s : P s) :
    KeptR P (execNormPartialSend n s) := by
  unfold execNormPartialSend
  repeat' first
    | with_reducible assumption
    | with_reducible intro _
    | (extract_lets +onlyGivenNames zz
       first
         | (with_reducible refine Kept.cut (P := P) (x := zz) ?_ ?_
            on_goal 2 => clear_value zz
            on_goal 1 => subst zz)
         | (with_reducible refine Kept.cut1 (P := P) (x := zz) ?_ ?_
            on_goal 2 => clear_value zz
            on_goal 1 => subst zz)
         | (have zn : Nat := zz
            clear zn
            subst zz)
         | clear_value zz
         | subst zz)
    | with_reducible refine KeptR.onPower ?_ (fun _ => ?_)
    | with_reducible refine KeptR.next ?_
    | with_reducible exact KeptR.fault _
    | with_reducible apply State.formNorm_kept
    | with_reducible apply State.handItem_kept
    | with_reducible apply State.modCtx_kept
    | with_reducible apply State.modExchange_kept
    | exact kd.mem (by decide)
    | exact kd.mem (pick_mem (by decide) (by decide))
    | exact kd.mono (by decide)
    | with_reducible refine Kept.foldl (fun _ _ _ => ?_) ?_
    | with_reducible refine Kept.foldl1 (fun _ _ _ => ?_) ?_
    | split
    | fail_if_no_progress with_reducible apply kk.rest

theorem execNormPartialReceive_kept {P : State → Prop} (kk : Kept P) (kc : KeptC P) (kd : KeptD P [0x6010]) {n src step : Nat} {value : Word} {s : State} (h_s : P s) :
    KeptR P (execNormPartialReceive n src step value s) := by
  unfold execNormPartialReceive
  repeat' first
    | with_reducible assumption
    | with_reducible intro _
    | with_reducible refine KeptR.onPower ?_ (fun _ => ?_)
    | with_reducible refine KeptR.next ?_
    | with_reducible exact KeptR.fault _
    | with_reducible apply State.formNorm_kept
    | with_reducible apply State.modExchange_kept
    | with_reducible apply State.protocolError_kept
    | exact kd.mem (by decide)
    | exact kd.mem (pick_mem (by decide) (by decide))
    | exact kd.mono (by decide)
    | split
    | fail_if_no_progress with_reducible apply kk.rest

theorem execContributionReceive_kept {P : State → Prop} (kk : Kept P) (kc : KeptC P) (kd : KeptD P [0x6010]) {n src group step item attempt : Nat} {data : List Byte} {s : State} (h_s : P s) :
    KeptR P (execContributionReceive n src group step item attempt data s) := by
  unfold execContributionReceive
  repeat' first
    | with_reducible assumption
    | with_reducible intro _
    | with_reducible refine KeptR.onPower ?_ (fun _ => ?_)
    | with_reducible refine KeptR.next ?_
    | with_reducible exact KeptR.fault _
    | with_reducible apply State.modExchange_kept
    | with_reducible apply State.protocolError_kept
    | exact kd.mem (by decide)
    | exact kd.mem (pick_mem (by decide) (by decide))
    | exact kd.mono (by decide)
    | split
    | fail_if_no_progress with_reducible apply kk.rest

theorem State.rerunStep_kept {P : State → Prop} (kk : Kept P) (km : KeptM P) (kc : KeptC P) (kt : KeptT P) (kd : KeptD P [0x3010, 0x3020, 0x3021, 0x4014, 0x4021, 0x4102, 0x4103, 0x6010, 0x7040, 0x9030, 0x9031, 0xF030]) {s : State} {n : Nat} (h_s : P s) :
    P (State.rerunStep s n) := by
  unfold State.rerunStep
  repeat' first
    | with_reducible assumption
    | with_reducible intro _
    | (extract_lets +onlyGivenNames zz
       first
         | (with_reducible refine Kept.cut (P := P) (x := zz) ?_ ?_
            on_goal 2 => clear_value zz
            on_goal 1 => subst zz)
         | (with_reducible refine Kept.cut1 (P := P) (x := zz) ?_ ?_
            on_goal 2 => clear_value zz
            on_goal 1 => subst zz)
         | (have zn : Nat := zz
            clear zn
            subst zz)
         | clear_value zz
         | subst zz)
    | with_reducible apply State.buildRun_kept
    | with_reducible apply State.discardRun_kept
    | with_reducible apply State.modCtx_kept
    | with_reducible apply State.retractAll_kept
    | exact kd.mem (by decide)
    | exact kd.mem (pick_mem (by decide) (by decide))
    | exact kd.mono (by decide)
    | split
    | fail_if_no_progress with_reducible apply kk.rest

theorem State.placeLinked_kept {P : State → Prop} (kk : Kept P) (kc : KeptC P) {s : State} {n : Nat} {id step : Nat} (h_s : P s) :
    P (State.placeLinked s n id step) := by
  unfold State.placeLinked
  repeat' first
    | with_reducible assumption
    | with_reducible intro _
    | (extract_lets +onlyGivenNames zz
       first
         | (with_reducible refine Kept.cut (P := P) (x := zz) ?_ ?_
            on_goal 2 => clear_value zz
            on_goal 1 => subst zz)
         | (with_reducible refine Kept.cut1 (P := P) (x := zz) ?_ ?_
            on_goal 2 => clear_value zz
            on_goal 1 => subst zz)
         | (have zn : Nat := zz
            clear zn
            subst zz)
         | clear_value zz
         | subst zz)
    | with_reducible apply Kept.ident
    | with_reducible apply State.setCtx_kept
    | split
    | fail_if_no_progress with_reducible apply kk.rest

theorem execTensorReceive_kept {P : State → Prop} (kk : Kept P) (km : KeptM P) (kc : KeptC P) (kt : KeptT P) (kd : KeptD P [0x3010, 0x3020, 0x3021, 0x4014, 0x4021, 0x4102, 0x4103, 0x6010, 0x7040, 0x9030, 0x9031, 0xF030]) {n src group step item attempt : Nat} {data : List Byte} {s : State} (h_s : P s) :
    KeptR P (execTensorReceive n src group step item attempt data s) := by
  unfold execTensorReceive
  repeat' first
    | with_reducible assumption
    | with_reducible intro _
    | (extract_lets +onlyGivenNames zz
       first
         | (with_reducible refine Kept.cut (P := P) (x := zz) ?_ ?_
            on_goal 2 => clear_value zz
            on_goal 1 => subst zz)
         | (with_reducible refine Kept.cut1 (P := P) (x := zz) ?_ ?_
            on_goal 2 => clear_value zz
            on_goal 1 => subst zz)
         | (have zn : Nat := zz
            clear zn
            subst zz)
         | clear_value zz
         | subst zz)
    | with_reducible refine KeptR.onPower ?_ (fun _ => ?_)
    | with_reducible refine KeptR.next ?_
    | with_reducible exact KeptR.fault _
    | with_reducible apply Kept.ident
    | with_reducible apply State.modExchange_kept
    | with_reducible apply State.placeLinked_kept
    | with_reducible apply State.protocolError_kept
    | with_reducible apply State.rerunStep_kept
    | exact kd.mem (by decide)
    | exact kd.mem (pick_mem (by decide) (by decide))
    | exact kd.mono (by decide)
    | split
    | fail_if_no_progress with_reducible apply kk.rest

theorem execRetractReceive_kept {P : State → Prop} (kk : Kept P) (km : KeptM P) (kc : KeptC P) (kt : KeptT P) (kd : KeptD P [0x3010, 0x3020, 0x3021, 0x4014, 0x4021, 0x4102, 0x4103, 0x6010, 0x7040, 0x9030, 0x9031, 0xF030]) {n src group step first last attempt : Nat} {s : State} (h_s : P s) :
    KeptR P (execRetractReceive n src group step first last attempt s) := by
  unfold execRetractReceive
  repeat' first
    | with_reducible assumption
    | with_reducible intro _
    | (extract_lets +onlyGivenNames zz
       first
         | (with_reducible refine Kept.cut (P := P) (x := zz) ?_ ?_
            on_goal 2 => clear_value zz
            on_goal 1 => subst zz)
         | (with_reducible refine Kept.cut1 (P := P) (x := zz) ?_ ?_
            on_goal 2 => clear_value zz
            on_goal 1 => subst zz)
         | (have zn : Nat := zz
            clear zn
            subst zz)
         | clear_value zz
         | subst zz)
    | with_reducible refine KeptR.onPower ?_ (fun _ => ?_)
    | with_reducible refine KeptR.next ?_
    | with_reducible exact KeptR.fault _
    | with_reducible apply State.bumpAt_kept
    | with_reducible apply State.log_kept
    | with_reducible apply State.modExchange_kept
    | with_reducible apply State.protocolError_kept
    | with_reducible apply State.rerunStep_kept
    | exact kd.mem (by decide)
    | exact kd.mem (pick_mem (by decide) (by decide))
    | exact kd.mono (by decide)
    | split
    | fail_if_no_progress with_reducible apply kk.rest

theorem execSealReceive_kept {P : State → Prop} (kk : Kept P) (kc : KeptC P) (kh : KeptH P) (kd : KeptD P [0x6010, 0x6020, 0x6021, 0x7010, 0x7040, 0x9030, 0x9031, 0xF030]) {n src group step cls count : Nat} {crc : Word} {s : State} (h_s : P s) :
    KeptR P (execSealReceive n src group step cls count crc s) := by
  unfold execSealReceive
  repeat' first
    | with_reducible assumption
    | with_reducible intro _
    | (extract_lets +onlyGivenNames zz
       first
         | (with_reducible refine Kept.cut (P := P) (x := zz) ?_ ?_
            on_goal 2 => clear_value zz
            on_goal 1 => subst zz)
         | (with_reducible refine Kept.cut1 (P := P) (x := zz) ?_ ?_
            on_goal 2 => clear_value zz
            on_goal 1 => subst zz)
         | (have zn : Nat := zz
            clear zn
            subst zz)
         | clear_value zz
         | subst zz)
    | with_reducible refine KeptR.onPower ?_ (fun _ => ?_)
    | with_reducible refine KeptR.next ?_
    | with_reducible exact KeptR.fault _
    | with_reducible apply State.bumpAt_kept
    | with_reducible apply State.handItem_kept
    | with_reducible apply State.modExchange_kept
    | with_reducible apply State.protocolError_kept
    | with_reducible apply State.tryCommit_kept
    | exact kd.mem (by decide)
    | exact kd.mem (pick_mem (by decide) (by decide))
    | exact kd.mono (by decide)
    | split
    | fail_if_no_progress with_reducible apply kk.rest

theorem execSealRefusalReceive_kept {P : State → Prop} (kk : Kept P) (kc : KeptC P) (kd : KeptD P [0x6010, 0x6020, 0x6021, 0x7040, 0x9030, 0x9031, 0xF030]) {n src step cls : Nat} {s : State} (h_s : P s) :
    KeptR P (execSealRefusalReceive n src step cls s) := by
  unfold execSealRefusalReceive
  repeat' first
    | with_reducible assumption
    | with_reducible intro _
    | (extract_lets +onlyGivenNames zz
       first
         | (with_reducible refine Kept.cut (P := P) (x := zz) ?_ ?_
            on_goal 2 => clear_value zz
            on_goal 1 => subst zz)
         | (with_reducible refine Kept.cut1 (P := P) (x := zz) ?_ ?_
            on_goal 2 => clear_value zz
            on_goal 1 => subst zz)
         | (have zn : Nat := zz
            clear zn
            subst zz)
         | clear_value zz
         | subst zz)
    | with_reducible refine KeptR.onPower ?_ (fun _ => ?_)
    | with_reducible refine KeptR.next ?_
    | with_reducible exact KeptR.fault _
    | with_reducible apply State.bumpAt_kept
    | with_reducible apply State.handItem_kept
    | with_reducible apply State.log_kept
    | with_reducible apply State.modExchange_kept
    | with_reducible apply State.protocolError_kept
    | with_reducible apply State.sendItem_kept
    | exact kd.mem (by decide)
    | exact kd.mem (pick_mem (by decide) (by decide))
    | exact kd.mono (by decide)
    | with_reducible refine Kept.foldl (fun _ _ _ => ?_) ?_
    | with_reducible refine Kept.foldl1 (fun _ _ _ => ?_) ?_
    | split
    | fail_if_no_progress with_reducible apply kk.rest

theorem execSealTimeout_kept {P : State → Prop} (kk : Kept P) (kd : KeptD P [0x6010, 0x6020, 0x6021, 0x7040, 0xF030]) {n : Nat} {s : State} (h_s : P s) :
    KeptR P (execSealTimeout n s) := by
  unfold execSealTimeout
  repeat' first
    | with_reducible assumption
    | with_reducible intro _
    | (extract_lets +onlyGivenNames zz
       first
         | (with_reducible refine Kept.cut (P := P) (x := zz) ?_ ?_
            on_goal 2 => clear_value zz
            on_goal 1 => subst zz)
         | (with_reducible refine Kept.cut1 (P := P) (x := zz) ?_ ?_
            on_goal 2 => clear_value zz
            on_goal 1 => subst zz)
         | (have zn : Nat := zz
            clear zn
            subst zz)
         | clear_value zz
         | subst zz)
    | with_reducible refine KeptR.onPower ?_ (fun _ => ?_)
    | with_reducible refine KeptR.next ?_
    | with_reducible exact KeptR.fault _
    | with_reducible apply State.bump_kept
    | with_reducible apply State.log_kept
    | with_reducible apply State.putAt_kept
    | exact kd.mem (by decide)
    | exact kd.mem (pick_mem (by decide) (by decide))
    | exact kd.mono (by decide)
    | with_reducible refine Kept.foldl (fun _ _ _ => ?_) ?_
    | with_reducible refine Kept.foldl1 (fun _ _ _ => ?_) ?_
    | split
    | fail_if_no_progress with_reducible apply kk.rest

end Sys2Proof.Machine
end

