-- ==== Sys2Proof/Laws/KeptSeal.lean ====
section
/-! SUPPORT. What every definition of Machine/Seal.lean keeps of a state: one lemma each (Laws/Kept.lean). -/

namespace Sys2Proof.Machine

open Sys2Proof

set_option linter.all false

theorem State.writeLedger_kept {P : State → Prop} (kk : Kept P) (km : KeptM P) (kc : KeptC P) (kd : KeptD P [0x3050]) {s : State} {c : Ctx} {step : Nat} (h_s : P s) :
    P (State.writeLedger s c step) := by
  unfold State.writeLedger
  repeat' first
    | with_reducible assumption
    | with_reducible intro _
    | (extract_lets +onlyGivenNames zz
       first
         | (with_reducible refine Kept.cut (P := P) (x := zz) ?_ ?_
            on_goal 2 => clear_value zz
            on_goal 1 => subst zz)
         | (with_reducible refine Kept.cut1 (P := P) (x := zz) ?_ ?_
            on_goal 2 => clear_value zz
            on_goal 1 => subst zz)
         | (have zn : Nat := zz
            clear zn
            subst zz)
         | clear_value zz
         | subst zz)
    | with_reducible apply State.add64At_kept
    | with_reducible apply State.hbmWrite_kept
    | with_reducible apply State.modCtx_kept
    | with_reducible apply State.putsAt_kept
    | exact kd.mem (by decide)
    | exact kd.mem (pick_mem (by decide) (by decide))
    | exact kd.mono (by decide)
    | split
    | fail_if_no_progress with_reducible apply kk.rest

theorem State.sendSeal_kept {P : State → Prop} (kk : Kept P) (kc : KeptC P) (kd : KeptD P [0x7040, 0x9030, 0x9031, 0xF030]) {s : State} {n step : Nat} {x : Exchange} {e : Nat × Nat} (h_s : P s) :
    P (State.sendSeal s n step x e) := by
  unfold State.sendSeal
  repeat' first
    | with_reducible assumption
    | with_reducible intro _
    | with_reducible apply State.handItem_kept
    | with_reducible apply State.modExchange_kept
    | exact kd.mem (by decide)
    | exact kd.mem (pick_mem (by decide) (by decide))
    | exact kd.mono (by decide)
    | split
    | fail_if_no_progress with_reducible apply kk.rest

theorem State.sendSeals_kept {P : State → Prop} (kk : Kept P) (km : KeptM P) (kc : KeptC P) (kd : KeptD P [0x3050, 0x7040, 0x9030, 0x9031, 0xF030]) {s : State} {c : Ctx} (h_s : P s) :
    P (State.sendSeals s c) := by
  unfold State.sendSeals
  repeat' first
    | with_reducible assumption
    | with_reducible intro _
    | with_reducible apply State.sendSeal_kept
    | with_reducible apply State.writeLedger_kept
    | exact kd.mem (by decide)
    | exact kd.mem (pick_mem (by decide) (by decide))
    | exact kd.mono (by decide)
    | with_reducible refine Kept.foldl (fun _ _ _ => ?_) ?_
    | with_reducible refine Kept.foldl1 (fun _ _ _ => ?_) ?_
    | split
    | fail_if_no_progress with_reducible apply kk.rest

theorem State.ownSealed_kept {P : State → Prop} (kk : Kept P) (kc : KeptC P) (kd : KeptD P [0x6010]) {s : State} {c : Ctx} {step : Nat} (h_s : P s) :
    P (State.ownSealed s c step) := by
  unfold State.ownSealed
  repeat' first
    | with_reducible assumption
    | with_reducible intro _
    | with_reducible apply State.exState_kept
    | with_reducible apply State.modExchange_kept
    | exact kd.mem (by decide)
    | exact kd.mem (pick_mem (by decide) (by decide))
    | exact kd.mono (by decide)
    | split
    | fail_if_no_progress with_reducible apply kk.rest

theorem State.cleanSteps_kept {P : State → Prop} (kk : Kept P) (kc : KeptC P) (kd : KeptD P [0x3031]) {s : State} {c : Ctx} (h_s : P s) :
    P (State.cleanSteps s c) := by
  unfold State.cleanSteps
  repeat' first
    | with_reducible assumption
    | with_reducible intro _
    | with_reducible apply State.putWatch_kept
    | exact kd.mem (by decide)
    | exact kd.mem (pick_mem (by decide) (by decide))
    | exact kd.mono (by decide)
    | with_reducible refine Kept.foldl (fun _ _ _ => ?_) ?_
    | with_reducible refine Kept.foldl1 (fun _ _ _ => ?_) ?_
    | split
    | fail_if_no_progress with_reducible apply kk.rest

theorem State.commitAlone_kept {P : State → Prop} (kk : Kept P) (kc : KeptC P) (kh : KeptH P) {s : State} {c : Ctx} {step : Nat} (h_s : P s) :
    P (State.commitAlone s c step) := by
  unfold State.commitAlone
  repeat' first
    | with_reducible assumption
    | with_reducible intro _
    | (extract_lets +onlyGivenNames zz
       first
         | (with_reducible refine Kept.cut (P := P) (x := zz) ?_ ?_
            on_goal 2 => clear_value zz
            on_goal 1 => subst zz)
         | (with_reducible refine Kept.cut1 (P := P) (x := zz) ?_ ?_
            on_goal 2 => clear_value zz
            on_goal 1 => subst zz)
         | (have zn : Nat := zz
            clear zn
            subst zz)
         | clear_value zz
         | subst zz)
    | with_reducible apply State.modCtx_kept
    | with_reducible apply State.modHalf_kept
    | split
    | fail_if_no_progress with_reducible apply kk.rest

theorem State.handOn_kept {P : State → Prop} (kk : Kept P) (kc : KeptC P) (kh : KeptH P) (kd : KeptD P [0x6010, 0x7010]) {s : State} {c : Ctx} {step : Nat} (h_s : P s) :
    P (State.handOn s c step) := by
  unfold State.handOn
  repeat' first
    | with_reducible assumption
    | with_reducible intro _
    | (extract_lets +onlyGivenNames zz
       first
         | (with_reducible refine Kept.cut (P := P) (x := zz) ?_ ?_
            on_goal 2 => clear_value zz
            on_goal 1 => subst zz)
         | (with_reducible refine Kept.cut1 (P := P) (x := zz) ?_ ?_
            on_goal 2 => clear_value zz
            on_goal 1 => subst zz)
         | (have zn : Nat := zz
            clear zn
            subst zz)
         | clear_value zz
         | subst zz)
    | with_reducible apply State.commitAlone_kept
    | with_reducible apply State.noteCommit_kept
    | with_reducible apply State.noteLoss_kept
    | with_reducible apply State.put64At_kept
    | exact kd.mem (by decide)
    | exact kd.mem (pick_mem (by decide) (by decide))
    | exact kd.mono (by decide)
    | split
    | fail_if_no_progress with_reducible apply kk.rest

theorem State.afterSeal_kept {P : State → Prop} (kk : Kept P) (km : KeptM P) (kc : KeptC P) (kv : KeptV P) (kd : KeptD P [0x3010, 0x3020, 0x3021, 0x3031, 0x3040, 0x3041, 0x4102, 0x4103]) (kn : KeptN P) {s : State} {n : Nat} (h_s : P s) :
    P (State.afterSeal s n) := by
  unfold State.afterSeal
  repeat' first
    | with_reducible assumption
    | with_reducible intro _
    | (extract_lets +onlyGivenNames zz
       first
         | (with_reducible refine Kept.cut (P := P) (x := zz) ?_ ?_
            on_goal 2 => clear_value zz
            on_goal 1 => subst zz)
         | (with_reducible refine Kept.cut1 (P := P) (x := zz) ?_ ?_
            on_goal 2 => clear_value zz
            on_goal 1 => subst zz)
         | (have zn : Nat := zz
            clear zn
            subst zz)
         | clear_value zz
         | subst zz)
    | with_reducible apply State.enterDone_kept
    | with_reducible apply State.enterHold_kept
    | with_reducible apply State.put_kept
    | with_reducible apply State.setCtx_kept
    | with_reducible apply State.tryStep_kept
    | exact kd.mem (by decide)
    | exact kd.mem (pick_mem (by decide) (by decide))
    | exact kd.mono (by decide)
    | exact kn.mem _
    | split
    | fail_if_no_progress with_reducible apply kk.rest

theorem State.seal_kept {P : State → Prop} (kk : Kept P) (km : KeptM P) (kc : KeptC P) (kt : KeptT P) (kh : KeptH P) (kv : KeptV P) (kb : KeptB P) (kd : KeptD P [0x1012, 0x1013, 0x1015, 0x1016, 0x3010, 0x3020, 0x3021, 0x3031, 0x3032, 0x3040, 0x3041, 0x3050, 0x4021, 0x4102, 0x4103, 0x6010, 0x6020, 0x6021, 0x7010, 0x7040, 0x9030, 0x9031, 0xF021, 0xF030]) (kn : KeptN P) {s : State} {c : Ctx} (h_s : P s) :
    P (State.seal s c) := by
  unfold State.seal
  repeat' first
    | with_reducible assumption
    | with_reducible intro _
    | (extract_lets +onlyGivenNames zz
       first
         | (with_reducible refine Kept.cut (P := P) (x := zz) ?_ ?_
            on_goal 2 => clear_value zz
            on_goal 1 => subst zz)
         | (with_reducible refine Kept.cut1 (P := P) (x := zz) ?_ ?_
            on_goal 2 => clear_value zz
            on_goal 1 => subst zz)
         | (have zn : Nat := zz
            clear zn
            subst zz)
         | clear_value zz
         | subst zz)
    | with_reducible apply State.afterSeal_kept
    | with_reducible apply State.bumpAt_kept
    | with_reducible apply State.cleanSteps_kept
    | with_reducible apply State.ctxEvent_kept
    | with_reducible apply State.endRelocation_kept
    | with_reducible apply State.handOn_kept
    | with_reducible apply State.modCtx_kept
    | with_reducible apply State.modHalf_kept
    | with_reducible apply State.ownSealed_kept
    | with_reducible apply State.put64_kept
    | with_reducible apply State.putAt_kept
    | with_reducible apply State.throttle_kept
    | with_reducible apply State.tryCommit_kept
    | with_reducible apply State.writeLedger_kept
    | with_reducible apply State.writeResults_kept
    | exact kd.mem (by decide)
    | exact kd.mem (pick_mem (by decide) (by decide))
    | exact kd.mono (by decide)
    | exact kn.mem _
    | with_reducible refine Kept.foldl (fun _ _ _ => ?_) ?_
    | with_reducible refine Kept.foldl1 (fun _ _ _ => ?_) ?_
    | split
    | fail_if_no_progress with_reducible apply kk.rest

theorem execSealSend_kept {P : State → Prop} (kk : Kept P) (km : KeptM P) (kc : KeptC P) (kt : KeptT P) (kh : KeptH P) (kv : KeptV P) (kb : KeptB P) (kd : KeptD P [0x1012, 0x1013, 0x1015, 0x1016, 0x3010, 0x3020, 0x3021, 0x3031, 0x3032, 0x3040, 0x3041, 0x3050, 0x4021, 0x4102, 0x4103, 0x6010, 0x6020, 0x6021, 0x7010, 0x7040, 0x9030, 0x9031, 0xF021, 0xF030]) (kn : KeptN P) {n : Nat} {s : State} (h_s : P s) :
    KeptR P (execSealSend n s) := by
  unfold execSealSend
  repeat' first
    | with_reducible assumption
    | with_reducible intro _
    | (extract_lets +onlyGivenNames zz
       first
         | (with_reducible refine Kept.cut (P := P) (x := zz) ?_ ?_
            on_goal 2 => clear_value zz
            on_goal 1 => subst zz)
         | (with_reducible refine Kept.cut1 (P := P) (x := zz) ?_ ?_
            on_goal 2 => clear_value zz
            on_goal 1 => subst zz)
         | (have zn : Nat := zz
            clear zn
            subst zz)
         | clear_value zz
         | subst zz)
    | with_reducible refine KeptR.onPower ?_ (fun _ => ?_)
    | with_reducible refine KeptR.next ?_
    | with_reducible exact KeptR.fault _
    | with_reducible apply State.seal_kept
    | with_reducible apply State.sendSeals_kept
    | with_reducible apply State.snoopLines_kept
    | exact kd.mem (by decide)
    | exact kd.mem (pick_mem (by decide) (by decide))
    | exact kd.mono (by decide)
    | exact kn.mem _
    | split
    | fail_if_no_progress with_reducible apply kk.rest

end Sys2Proof.Machine
end

