-- ==== Sys2Proof/Laws/KeptSpokes.lean ====
section
/-! SUPPORT. What every definition of Machine/Spokes.lean keeps of a state: one lemma each (Laws/Kept.lean). -/

namespace Sys2Proof.Machine

open Sys2Proof

set_option linter.all false

theorem State.modSpoke_kept {P : State → Prop} (kk : Kept P) (kl : KeptL P) {s : State} {h : HalfId} {n : Nat} {f : Spoke → Spoke} (h_s : P s) :
    P (State.modSpoke s h n f) := by
  unfold State.modSpoke
  repeat' first
    | with_reducible assumption
    | with_reducible intro _
    | split
    | fail_if_no_progress with_reducible apply kk.rest
    | fail_if_no_progress (with_reducible apply kl.spokes; with_reducible apply kk.rest)

theorem State.pump_kept {P : State → Prop} (kk : Kept P) (kl : KeptL P) {s : State} {h : HalfId} {n : Nat} (h_s : P s) :
    P (State.pump s h n) := by
  unfold State.pump
  repeat' first
    | with_reducible assumption
    | with_reducible intro _
    | (extract_lets +onlyGivenNames zz
       first
         | (with_reducible refine Kept.cut (P := P) (x := zz) ?_ ?_
            on_goal 2 => clear_value zz
            on_goal 1 => subst zz)
         | (with_reducible refine Kept.cut1 (P := P) (x := zz) ?_ ?_
            on_goal 2 => clear_value zz
            on_goal 1 => subst zz)
         | (have zn : Nat := zz
            clear zn
            subst zz)
         | clear_value zz
         | subst zz)
    | with_reducible apply State.emit_kept
    | with_reducible apply State.modSpoke_kept
    | with_reducible refine Kept.foldl (fun _ _ _ => ?_) ?_
    | with_reducible refine Kept.foldl1 (fun _ _ _ => ?_) ?_
    | split
    | fail_if_no_progress with_reducible apply kk.rest

theorem State.enqueue_kept {P : State → Prop} (kk : Kept P) (kl : KeptL P) {s : State} {h : HalfId} {n : Nat} {f : Frame} (h_s : P s) :
    P (State.enqueue s h n f) := by
  unfold State.enqueue
  repeat' first
    | with_reducible assumption
    | with_reducible intro _
    | with_reducible apply State.modSpoke_kept
    | with_reducible apply State.pump_kept
    | split
    | fail_if_no_progress with_reducible apply kk.rest

theorem State.handFrame_kept {P : State → Prop} (kk : Kept P) (kd : KeptD P [0x6000, 0x6001]) {s : State} {h : HalfId} {f : Frame} (h_s : P s) :
    P (State.handFrame s h f) := by
  unfold State.handFrame
  repeat' first
    | with_reducible assumption
    | with_reducible intro _
    | with_reducible apply State.add64_kept
    | with_reducible apply State.emit_kept
    | exact kd.mem (by decide)
    | exact kd.mem (pick_mem (by decide) (by decide))
    | exact kd.mono (by decide)
    | split
    | fail_if_no_progress with_reducible apply kk.rest

theorem State.drain_kept {P : State → Prop} (kk : Kept P) (kd : KeptD P [0x6000, 0x6001]) {h : HalfId} : ∀ {k : Nat} {s : State} {l : Lane}, P s → P (s.drain h k l).1 := by
  intro k
  induction k with
  | zero =>
    intros
    unfold State.drain
    assumption
  | succ k ih =>
    intros
    unfold State.drain
    repeat' first
    | with_reducible assumption
    | with_reducible intro _
    | (extract_lets +onlyGivenNames zz
       first
         | (with_reducible refine Kept.cut (P := P) (x := zz) ?_ ?_
            on_goal 2 => clear_value zz
            on_goal 1 => subst zz)
         | (with_reducible refine Kept.cut1 (P := P) (x := zz) ?_ ?_
            on_goal 2 => clear_value zz
            on_goal 1 => subst zz)
         | (have zn : Nat := zz
            clear zn
            subst zz)
         | clear_value zz
         | subst zz)
    | with_reducible apply ih
    | with_reducible apply State.handFrame_kept
    | exact kd.mem (by decide)
    | exact kd.mem (pick_mem (by decide) (by decide))
    | exact kd.mono (by decide)
    | split
    | fail_if_no_progress with_reducible apply kk.rest

theorem State.setLane_kept {P : State → Prop} (kk : Kept P) {s : State} {l : Lane} (h_s : P s) :
    P (State.setLane s l) := by
  unfold State.setLane
  repeat' first
    | with_reducible assumption
    | with_reducible intro _
    | split
    | fail_if_no_progress with_reducible apply kk.rest

theorem State.deliver_kept {P : State → Prop} (kk : Kept P) (kd : KeptD P [0x6000, 0x6001]) {s : State} {h : HalfId} {f : Frame} (h_s : P s) :
    P (State.deliver s h f) := by
  unfold State.deliver
  repeat' first
    | with_reducible assumption
    | with_reducible intro _
    | (extract_lets +onlyGivenNames zz
       first
         | (with_reducible refine Kept.cut (P := P) (x := zz) ?_ ?_
            on_goal 2 => clear_value zz
            on_goal 1 => subst zz)
         | (with_reducible refine Kept.cut1 (P := P) (x := zz) ?_ ?_
            on_goal 2 => clear_value zz
            on_goal 1 => subst zz)
         | (have zn : Nat := zz
            clear zn
            subst zz)
         | clear_value zz
         | subst zz)
    | with_reducible apply State.bump_kept
    | with_reducible apply State.drain_kept
    | with_reducible apply State.handFrame_kept
    | with_reducible apply State.setLane_kept
    | exact kd.mem (by decide)
    | exact kd.mem (pick_mem (by decide) (by decide))
    | exact kd.mono (by decide)
    | split
    | fail_if_no_progress with_reducible apply kk.rest

theorem State.takeFrame_kept {P : State → Prop} (kk : Kept P) (kd : KeptD P [0x6000, 0x6001, 0x6003, 0x7040, 0xF030]) {s : State} {h : HalfId} {f : Frame} (h_s : P s) :
    P (State.takeFrame s h f) := by
  unfold State.takeFrame
  repeat' first
    | with_reducible assumption
    | with_reducible intro _
    | with_reducible apply State.bumpAt_kept
    | with_reducible apply State.deliver_kept
    | with_reducible apply State.handFrame_kept
    | with_reducible apply State.log_kept
    | exact kd.mem (by decide)
    | exact kd.mem (pick_mem (by decide) (by decide))
    | exact kd.mono (by decide)
    | split
    | fail_if_no_progress with_reducible apply kk.rest

theorem State.sendOn_kept {P : State → Prop} (kk : Kept P) (kl : KeptL P) (kd : KeptD P [0x6000, 0x6001, 0x6003, 0x7040, 0xF030]) {s : State} {h : HalfId} {f : Frame} {count : Bool} (h_s : P s) :
    P (State.sendOn s h f count) := by
  unfold State.sendOn
  repeat' first
    | with_reducible assumption
    | with_reducible intro _
    | (extract_lets +onlyGivenNames zz
       first
         | (with_reducible refine Kept.cut (P := P) (x := zz) ?_ ?_
            on_goal 2 => clear_value zz
            on_goal 1 => subst zz)
         | (with_reducible refine Kept.cut1 (P := P) (x := zz) ?_ ?_
            on_goal 2 => clear_value zz
            on_goal 1 => subst zz)
         | (have zn : Nat := zz
            clear zn
            subst zz)
         | clear_value zz
         | subst zz)
    | with_reducible apply State.add64_kept
    | with_reducible apply State.bump_kept
    | with_reducible apply State.enqueue_kept
    | with_reducible apply State.takeFrame_kept
    | with_reducible apply when_kept
    | exact kd.mem (by decide)
    | exact kd.mem (pick_mem (by decide) (by decide))
    | exact kd.mono (by decide)
    | split
    | fail_if_no_progress with_reducible apply kk.rest

theorem State.noteConflict_kept {P : State → Prop} (kk : Kept P) (kl : KeptL P) (kd : KeptD P [0x6000, 0x6001, 0x7040, 0xF030]) {s : State} {h : HalfId} {n : Nat} (h_s : P s) :
    P (State.noteConflict s h n) := by
  unfold State.noteConflict
  repeat' first
    | with_reducible assumption
    | with_reducible intro _
    | (extract_lets +onlyGivenNames zz
       first
         | (with_reducible refine Kept.cut (P := P) (x := zz) ?_ ?_
            on_goal 2 => clear_value zz
            on_goal 1 => subst zz)
         | (with_reducible refine Kept.cut1 (P := P) (x := zz) ?_ ?_
            on_goal 2 => clear_value zz
            on_goal 1 => subst zz)
         | (have zn : Nat := zz
            clear zn
            subst zz)
         | clear_value zz
         | subst zz)
    | with_reducible apply State.bump_kept
    | with_reducible apply State.log_kept
    | with_reducible apply State.modSpoke_kept
    | exact kd.mem (by decide)
    | exact kd.mem (pick_mem (by decide) (by decide))
    | exact kd.mono (by decide)
    | split
    | fail_if_no_progress with_reducible apply kk.rest

theorem State.routeFrame_kept {P : State → Prop} (kk : Kept P) (kl : KeptL P) (kd : KeptD P [0x6000, 0x6001, 0x6003, 0x7040, 0xF030]) {s : State} {h : HalfId} {f : Frame} (h_s : P s) :
    P (State.routeFrame s h f) := by
  unfold State.routeFrame
  repeat' first
    | with_reducible assumption
    | with_reducible intro _
    | (extract_lets +onlyGivenNames zz
       first
         | (with_reducible refine Kept.cut (P := P) (x := zz) ?_ ?_
            on_goal 2 => clear_value zz
            on_goal 1 => subst zz)
         | (with_reducible refine Kept.cut1 (P := P) (x := zz) ?_ ?_
            on_goal 2 => clear_value zz
            on_goal 1 => subst zz)
         | (have zn : Nat := zz
            clear zn
            subst zz)
         | clear_value zz
         | subst zz)
    | with_reducible apply State.bump_kept
    | with_reducible apply State.noteConflict_kept
    | with_reducible apply State.sendOn_kept
    | with_reducible apply State.takeFrame_kept
    | exact kd.mem (by decide)
    | exact kd.mem (pick_mem (by decide) (by decide))
    | exact kd.mono (by decide)
    | split
    | fail_if_no_progress with_reducible apply kk.rest

theorem execFrameRoute_kept {P : State → Prop} (kk : Kept P) (kl : KeptL P) (kd : KeptD P [0x6000, 0x6001, 0x6003, 0x7040, 0xF030]) {frame : Frame} {s : State} (h_s : P s) :
    KeptR P (execFrameRoute frame s) := by
  unfold execFrameRoute
  repeat' first
    | with_reducible assumption
    | with_reducible intro _
    | (extract_lets +onlyGivenNames zz
       first
         | (with_reducible refine Kept.cut (P := P) (x := zz) ?_ ?_
            on_goal 2 => clear_value zz
            on_goal 1 => subst zz)
         | (with_reducible refine Kept.cut1 (P := P) (x := zz) ?_ ?_
            on_goal 2 => clear_value zz
            on_goal 1 => subst zz)
         | (have zn : Nat := zz
            clear zn
            subst zz)
         | clear_value zz
         | subst zz)
    | with_reducible refine KeptR.onPower ?_ (fun _ => ?_)
    | with_reducible refine KeptR.next ?_
    | with_reducible exact KeptR.fault _
    | with_reducible apply State.emit_kept
    | with_reducible apply State.routeFrame_kept
    | exact kd.mem (by decide)
    | exact kd.mem (pick_mem (by decide) (by decide))
    | exact kd.mono (by decide)
    | split
    | fail_if_no_progress with_reducible apply kk.rest

theorem execLinkAck_kept {P : State → Prop} (kk : Kept P) (kl : KeptL P) {h : HalfId} {spoke count : Nat} {s : State} (h_s : P s) :
    KeptR P (execLinkAck h spoke count s) := by
  unfold execLinkAck
  repeat' first
    | with_reducible assumption
    | with_reducible intro _
    | with_reducible refine KeptR.onPower ?_ (fun _ => ?_)
    | with_reducible refine KeptR.next ?_
    | with_reducible exact KeptR.fault _
    | with_reducible apply State.modSpoke_kept
    | with_reducible apply State.pump_kept
    | split
    | fail_if_no_progress with_reducible apply kk.rest

theorem execLinkNak_kept {P : State → Prop} (kk : Kept P) (kd : KeptD P [0x6003]) {h : HalfId} {spoke failed : Nat} {s : State} (h_s : P s) :
    KeptR P (execLinkNak h spoke failed s) := by
  unfold execLinkNak
  repeat' first
    | with_reducible assumption
    | with_reducible intro _
    | (extract_lets +onlyGivenNames zz
       first
         | (with_reducible refine Kept.cut (P := P) (x := zz) ?_ ?_
            on_goal 2 => clear_value zz
            on_goal 1 => subst zz)
         | (with_reducible refine Kept.cut1 (P := P) (x := zz) ?_ ?_
            on_goal 2 => clear_value zz
            on_goal 1 => subst zz)
         | (have zn : Nat := zz
            clear zn
            subst zz)
         | clear_value zz
         | subst zz)
    | with_reducible refine KeptR.onPower ?_ (fun _ => ?_)
    | with_reducible refine KeptR.next ?_
    | with_reducible exact KeptR.fault _
    | with_reducible apply State.bumpAt_kept
    | with_reducible apply State.emit_kept
    | exact kd.mem (by decide)
    | exact kd.mem (pick_mem (by decide) (by decide))
    | exact kd.mono (by decide)
    | with_reducible refine Kept.foldl (fun _ _ _ => ?_) ?_
    | with_reducible refine Kept.foldl1 (fun _ _ _ => ?_) ?_
    | split
    | fail_if_no_progress with_reducible apply kk.rest

theorem execLinkCredit_kept {P : State → Prop} (kk : Kept P) (kl : KeptL P) {h : HalfId} {spoke vc count : Nat} {s : State} (h_s : P s) :
    KeptR P (execLinkCredit h spoke vc count s) := by
  unfold execLinkCredit
  repeat' first
    | with_reducible assumption
    | with_reducible intro _
    | with_reducible refine KeptR.onPower ?_ (fun _ => ?_)
    | with_reducible refine KeptR.next ?_
    | with_reducible exact KeptR.fault _
    | with_reducible apply State.modSpoke_kept
    | with_reducible apply State.pump_kept
    | split
    | fail_if_no_progress with_reducible apply kk.rest

theorem State.wiring_kept {P : State → Prop}  (kd : KeptD P [0x0102]) {s : State} {h : HalfId} {n : Nat} {crossed fixed : Bool} (h_s : P s) :
    P (State.wiring s h n crossed fixed) := by
  unfold State.wiring
  repeat' first
    | with_reducible assumption
    | with_reducible intro _
    | (extract_lets +onlyGivenNames zz
       first
         | (with_reducible refine Kept.cut (P := P) (x := zz) ?_ ?_
            on_goal 2 => clear_value zz
            on_goal 1 => subst zz)
         | (with_reducible refine Kept.cut1 (P := P) (x := zz) ?_ ?_
            on_goal 2 => clear_value zz
            on_goal 1 => subst zz)
         | (have zn : Nat := zz
            clear zn
            subst zz)
         | clear_value zz
         | subst zz)
    | with_reducible apply State.addAt_kept
    | with_reducible apply State.putFlag_kept
    | exact kd.mem (by decide)
    | exact kd.mem (pick_mem (by decide) (by decide))
    | exact kd.mono (by decide)
    | split
    | fail_if_no_progress with_reducible apply kk.rest

theorem State.reroute_kept {P : State → Prop} (kk : Kept P) (kl : KeptL P) (kd : KeptD P [0x6000, 0x6001, 0x6003, 0x7040, 0xF030]) {s : State} {h : HalfId} {n : Nat} (h_s : P s) :
    P (State.reroute s h n) := by
  unfold State.reroute
  repeat' first
    | with_reducible assumption
    | with_reducible intro _
    | (extract_lets +onlyGivenNames zz
       first
         | (with_reducible refine Kept.cut (P := P) (x := zz) ?_ ?_
            on_goal 2 => clear_value zz
            on_goal 1 => subst zz)
         | (with_reducible refine Kept.cut1 (P := P) (x := zz) ?_ ?_
            on_goal 2 => clear_value zz
            on_goal 1 => subst zz)
         | (have zn : Nat := zz
            clear zn
            subst zz)
         | clear_value zz
         | subst zz)
    | with_reducible apply State.modSpoke_kept
    | with_reducible apply State.sendOn_kept
    | exact kd.mem (by decide)
    | exact kd.mem (pick_mem (by decide) (by decide))
    | exact kd.mono (by decide)
    | with_reducible refine Kept.foldl (fun _ _ _ => ?_) ?_
    | with_reducible refine Kept.foldl1 (fun _ _ _ => ?_) ?_
    | split
    | fail_if_no_progress with_reducible apply kk.rest

theorem State.showLink_kept {P : State → Prop}  (kd : KeptD P [0x0102, 0x6003]) {s : State} {h : HalfId} {n st : Nat} {t : Training} (h_s : P s) :
    P (State.showLink s h n st t) := by
  unfold State.showLink
  repeat' first
    | with_reducible assumption
    | with_reducible intro _
    | (extract_lets +onlyGivenNames zz
       first
         | (with_reducible refine Kept.cut (P := P) (x := zz) ?_ ?_
            on_goal 2 => clear_value zz
            on_goal 1 => subst zz)
         | (with_reducible refine Kept.cut1 (P := P) (x := zz) ?_ ?_
            on_goal 2 => clear_value zz
            on_goal 1 => subst zz)
         | (have zn : Nat := zz
            clear zn
            subst zz)
         | clear_value zz
         | subst zz)
    | with_reducible apply State.putAt_kept
    | with_reducible apply State.wiring_kept
    | exact kd.mem (by decide)
    | exact kd.mem (pick_mem (by decide) (by decide))
    | exact kd.mono (by decide)
    | split
    | fail_if_no_progress with_reducible apply kk.rest

theorem State.identify_kept {P : State → Prop} (kk : Kept P) {s : State} {h : HalfId} {n : Nat} (h_s : P s) :
    P (State.identify s h n) := by
  unfold State.identify
  repeat' first
    | with_reducible assumption
    | with_reducible intro _
    | with_reducible apply State.emit_kept
    | split
    | fail_if_no_progress with_reducible apply kk.rest

theorem State.meetPeer_kept {P : State → Prop} (kk : Kept P) (kl : KeptL P) (kd : KeptD P [0x6000, 0x6001, 0x6003, 0x7040, 0xF030]) {s : State} {h : HalfId} {n : Nat} {t : Training} (h_s : P s) :
    P (State.meetPeer s h n t) := by
  unfold State.meetPeer
  repeat' first
    | with_reducible assumption
    | with_reducible intro _
    | (extract_lets +onlyGivenNames zz
       first
         | (with_reducible refine Kept.cut (P := P) (x := zz) ?_ ?_
            on_goal 2 => clear_value zz
            on_goal 1 => subst zz)
         | (with_reducible refine Kept.cut1 (P := P) (x := zz) ?_ ?_
            on_goal 2 => clear_value zz
            on_goal 1 => subst zz)
         | (have zn : Nat := zz
            clear zn
            subst zz)
         | clear_value zz
         | subst zz)
    | with_reducible apply State.modSpoke_kept
    | with_reducible apply State.noteConflict_kept
    | with_reducible apply State.put64At_kept
    | with_reducible apply State.putAt_kept
    | exact kd.mem (by decide)
    | exact kd.mem (pick_mem (by decide) (by decide))
    | exact kd.mono (by decide)
    | split
    | fail_if_no_progress with_reducible apply kk.rest

theorem State.train_kept {P : State → Prop} (kk : Kept P) (kl : KeptL P) (kd : KeptD P [0x0102, 0x6000, 0x6001, 0x6003, 0x7040, 0xF030]) {s : State} {h : HalfId} {n : Nat} {t : Training} (h_s : P s) :
    P (State.train s h n t) := by
  unfold State.train
  repeat' first
    | with_reducible assumption
    | with_reducible intro _
    | (extract_lets +onlyGivenNames zz
       first
         | (with_reducible refine Kept.cut (P := P) (x := zz) ?_ ?_
            on_goal 2 => clear_value zz
            on_goal 1 => subst zz)
         | (with_reducible refine Kept.cut1 (P := P) (x := zz) ?_ ?_
            on_goal 2 => clear_value zz
            on_goal 1 => subst zz)
         | (have zn : Nat := zz
            clear zn
            subst zz)
         | clear_value zz
         | subst zz)
    | with_reducible apply State.bumpAt_kept
    | with_reducible apply State.identify_kept
    | with_reducible apply State.meetPeer_kept
    | with_reducible apply State.modSpoke_kept
    | with_reducible apply State.pump_kept
    | with_reducible apply State.reroute_kept
    | with_reducible apply State.showLink_kept
    | exact kd.mem (by decide)
    | exact kd.mem (pick_mem (by decide) (by decide))
    | exact kd.mono (by decide)
    | split
    | fail_if_no_progress with_reducible apply kk.rest

theorem execSpokeTrain_kept {P : State → Prop} (kk : Kept P) (kl : KeptL P) (kd : KeptD P [0x0102, 0x6000, 0x6001, 0x6003, 0x7040, 0xF030]) {h : HalfId} {spoke : Nat} {t : Training} {s : State} (h_s : P s) :
    KeptR P (execSpokeTrain h spoke t s) := by
  unfold execSpokeTrain
  repeat' first
    | with_reducible assumption
    | with_reducible intro _
    | with_reducible refine KeptR.onPower ?_ (fun _ => ?_)
    | with_reducible refine KeptR.next ?_
    | with_reducible exact KeptR.fault _
    | with_reducible apply State.train_kept
    | exact kd.mem (by decide)
    | exact kd.mem (pick_mem (by decide) (by decide))
    | exact kd.mono (by decide)
    | split
    | fail_if_no_progress with_reducible apply kk.rest

theorem execSpokeTrainRetry_kept {P : State → Prop} (kk : Kept P) (kl : KeptL P) (kd : KeptD P [0x0102, 0x6000, 0x6001, 0x6003, 0x7040, 0xF030]) {h : HalfId} {spoke : Nat} {t : Training} {s : State} (h_s : P s) :
    KeptR P (execSpokeTrainRetry h spoke t s) := by
  unfold execSpokeTrainRetry
  repeat' first
    | with_reducible assumption
    | with_reducible intro _
    | with_reducible refine KeptR.onPower ?_ (fun _ => ?_)
    | with_reducible refine KeptR.next ?_
    | with_reducible exact KeptR.fault _
    | with_reducible apply State.bumpAt_kept
    | with_reducible apply State.train_kept
    | exact kd.mem (by decide)
    | exact kd.mem (pick_mem (by decide) (by decide))
    | exact kd.mono (by decide)
    | split
    | fail_if_no_progress with_reducible apply kk.rest

theorem execSpokeRetrain_kept {P : State → Prop} (kk : Kept P) (kl : KeptL P) (kd : KeptD P [0x0102, 0x6000, 0x6001, 0x6003, 0x7000, 0x7001, 0x7040, 0xF030]) {h : HalfId} {spoke : Nat} {t : Training} {s : State} (h_s : P s) :
    KeptR P (execSpokeRetrain h spoke t s) := by
  unfold execSpokeRetrain
  repeat' first
    | with_reducible assumption
    | with_reducible intro _
    | (extract_lets +onlyGivenNames zz
       first
         | (with_reducible refine Kept.cut (P := P) (x := zz) ?_ ?_
            on_goal 2 => clear_value zz
            on_goal 1 => subst zz)
         | (with_reducible refine Kept.cut1 (P := P) (x := zz) ?_ ?_
            on_goal 2 => clear_value zz
            on_goal 1 => subst zz)
         | (have zn : Nat := zz
            clear zn
            subst zz)
         | clear_value zz
         | subst zz)
    | with_reducible refine KeptR.onPower ?_ (fun _ => ?_)
    | with_reducible refine KeptR.next ?_
    | with_reducible exact KeptR.fault _
    | with_reducible apply State.bumpAt_kept
    | with_reducible apply State.identify_kept
    | with_reducible apply State.modSpoke_kept
    | with_reducible apply State.pump_kept
    | with_reducible apply State.reroute_kept
    | with_reducible apply State.riskEvent_kept
    | with_reducible apply State.showLink_kept
    | exact kd.mem (by decide)
    | exact kd.mem (pick_mem (by decide) (by decide))
    | exact kd.mono (by decide)
    | split
    | fail_if_no_progress with_reducible apply kk.rest

theorem State.actSpokeControl_kept {P : State → Prop} (kk : Kept P) (kl : KeptL P) (kd : KeptD P [0x6000, 0x6001, 0x6003, 0x7040, 0xF030]) {s : State} {u : Nat} {w : Word} (h_s : P s) :
    KeptX P (State.actSpokeControl s u w) := by
  unfold State.actSpokeControl
  repeat' first
    | with_reducible assumption
    | with_reducible intro _
    | (extract_lets +onlyGivenNames zz
       first
         | (with_reducible refine Kept.cut (P := P) (x := zz) ?_ ?_
            on_goal 2 => clear_value zz
            on_goal 1 => subst zz)
         | (with_reducible refine Kept.cut1 (P := P) (x := zz) ?_ ?_
            on_goal 2 => clear_value zz
            on_goal 1 => subst zz)
         | (have zn : Nat := zz
            clear zn
            subst zz)
         | clear_value zz
         | subst zz)
    | with_reducible exact KeptX.refuse _ _
    | with_reducible refine KeptX.apply ?_
    | with_reducible refine KeptX.counted ?_
    | with_reducible refine KeptX.accept (fun _ _ => ?_)
    | with_reducible apply State.modSpoke_kept
    | with_reducible apply State.putAt_kept
    | with_reducible apply State.reroute_kept
    | exact kd.mem (by decide)
    | exact kd.mem (pick_mem (by decide) (by decide))
    | exact kd.mono (by decide)
    | with_reducible apply KeptX.ite
    | split
    | fail_if_no_progress with_reducible apply kk.rest

theorem State.modKeys_kept {P : State → Prop} (kk : Kept P) (ks : KeptS P) {s : State} {h : HalfId} {f : PKeys → PKeys} (h_s : P s) :
    P (State.modKeys s h f) := by
  unfold State.modKeys
  repeat' first
    | with_reducible assumption
    | with_reducible intro _
    | split
    | fail_if_no_progress with_reducible apply kk.rest
    | fail_if_no_progress (with_reducible apply ks.sec; with_reducible apply kk.rest)

theorem State.repeatPeers_kept {P : State → Prop} (kk : Kept P) (kl : KeptL P) (kd : KeptD P [0x6000, 0x6001, 0x7040, 0xF030]) {s : State} {h : HalfId} (h_s : P s) :
    P (State.repeatPeers s h) := by
  unfold State.repeatPeers
  repeat' first
    | with_reducible assumption
    | with_reducible intro _
    | with_reducible apply State.modSpoke_kept
    | with_reducible apply State.noteConflict_kept
    | exact kd.mem (by decide)
    | exact kd.mem (pick_mem (by decide) (by decide))
    | exact kd.mono (by decide)
    | with_reducible refine Kept.foldl (fun _ _ _ => ?_) ?_
    | with_reducible refine Kept.foldl1 (fun _ _ _ => ?_) ?_
    | split
    | fail_if_no_progress with_reducible apply kk.rest

theorem State.actPosition_kept {P : State → Prop} (kk : Kept P) (ks : KeptS P) (kl : KeptL P) (kd : KeptD P [0x6000, 0x6001, 0x7040, 0x9030, 0x9031, 0xF030]) {s : State} {h : HalfId} {w : Word} (h_s : P s) :
    KeptX P (State.actPosition s h w) := by
  unfold State.actPosition
  repeat' first
    | with_reducible assumption
    | with_reducible intro _
    | with_reducible exact KeptX.refuse _ _
    | with_reducible refine KeptX.apply ?_
    | with_reducible refine KeptX.counted ?_
    | with_reducible refine KeptX.accept (fun _ _ => ?_)
    | with_reducible apply State.modKeys_kept
    | with_reducible apply State.put_kept
    | with_reducible apply State.repeatPeers_kept
    | exact kd.mem (by decide)
    | exact kd.mem (pick_mem (by decide) (by decide))
    | exact kd.mono (by decide)
    | with_reducible apply KeptX.ite
    | split
    | fail_if_no_progress with_reducible apply kk.rest

end Sys2Proof.Machine
end

