-- ==== Sys2Proof/Laws/KeptResilience.lean ====
section
/-! SUPPORT. What every definition of Machine/Resilience.lean keeps of a state: one lemma each (Laws/Kept.lean). -/

namespace Sys2Proof.Machine

open Sys2Proof

set_option linter.all false

theorem State.setLevel_kept {P : State → Prop} (kk : Kept P) (kc : KeptC P) (kd : KeptD P [0x0080, 0x7000, 0x7001, 0x7040, 0xF030]) {s : State} {h : HalfId} {old new : Nat} (h_s : P s) :
    P (State.setLevel s h old new) := by
  unfold State.setLevel
  repeat' first
    | with_reducible assumption
    | with_reducible intro _
    | (extract_lets +onlyGivenNames zz
       first
         | (with_reducible refine Kept.cut (P := P) (x := zz) ?_ ?_
            on_goal 2 => clear_value zz
            on_goal 1 => subst zz)
         | (with_reducible refine Kept.cut1 (P := P) (x := zz) ?_ ?_
            on_goal 2 => clear_value zz
            on_goal 1 => subst zz)
         | (have zn : Nat := zz
            clear zn
            subst zz)
         | clear_value zz
         | subst zz)
    | with_reducible apply State.bump_kept
    | with_reducible apply State.log_kept
    | with_reducible apply State.put_kept
    | with_reducible apply State.raiseReplace_kept
    | with_reducible apply State.warnDraft_kept
    | exact kd.mem (by decide)
    | exact kd.mem (pick_mem (by decide) (by decide))
    | exact kd.mono (by decide)
    | with_reducible refine Kept.foldl (fun _ _ _ => ?_) ?_
    | with_reducible refine Kept.foldl1 (fun _ _ _ => ?_) ?_
    | split
    | fail_if_no_progress with_reducible apply kk.rest

theorem execRiskEvaluate_kept {P : State → Prop} (kk : Kept P) (kc : KeptC P) (kh : KeptH P) (kd : KeptD P [0x0080, 0x7000, 0x7001, 0x7040, 0xF030]) {h : HalfId} {lowForTime : Bool} {s : State} (h_s : P s) :
    KeptR P (execRiskEvaluate h lowForTime s) := by
  unfold execRiskEvaluate
  repeat' first
    | with_reducible assumption
    | with_reducible intro _
    | (extract_lets +onlyGivenNames zz
       first
         | (with_reducible refine Kept.cut (P := P) (x := zz) ?_ ?_
            on_goal 2 => clear_value zz
            on_goal 1 => subst zz)
         | (with_reducible refine Kept.cut1 (P := P) (x := zz) ?_ ?_
            on_goal 2 => clear_value zz
            on_goal 1 => subst zz)
         | (have zn : Nat := zz
            clear zn
            subst zz)
         | clear_value zz
         | subst zz)
    | with_reducible refine KeptR.onPower ?_ (fun _ => ?_)
    | with_reducible refine KeptR.next ?_
    | with_reducible exact KeptR.fault _
    | with_reducible apply State.modHalf_kept
    | with_reducible apply State.put_kept
    | with_reducible apply State.putAt_kept
    | with_reducible apply State.setLevel_kept
    | exact kd.mem (by decide)
    | exact kd.mem (pick_mem (by decide) (by decide))
    | exact kd.mono (by decide)
    | split
    | fail_if_no_progress with_reducible apply kk.rest

theorem State.showSlot_kept {P : State → Prop}  (kd : KeptD P [0x7030, 0x7031]) {s : State} {h : HalfId} {k : Nat} (h_s : P s) :
    P (State.showSlot s h k) := by
  unfold State.showSlot
  repeat' first
    | with_reducible assumption
    | with_reducible intro _
    | (extract_lets +onlyGivenNames zz
       first
         | (with_reducible refine Kept.cut (P := P) (x := zz) ?_ ?_
            on_goal 2 => clear_value zz
            on_goal 1 => subst zz)
         | (with_reducible refine Kept.cut1 (P := P) (x := zz) ?_ ?_
            on_goal 2 => clear_value zz
            on_goal 1 => subst zz)
         | (have zn : Nat := zz
            clear zn
            subst zz)
         | clear_value zz
         | subst zz)
    | with_reducible apply State.put64At_kept
    | with_reducible apply State.putAt_kept
    | exact kd.mem (by decide)
    | exact kd.mem (pick_mem (by decide) (by decide))
    | exact kd.mono (by decide)
    | with_reducible refine Kept.foldl (fun _ _ _ => ?_) ?_
    | with_reducible refine Kept.foldl1 (fun _ _ _ => ?_) ?_
    | split
    | fail_if_no_progress with_reducible apply kk.rest

theorem State.setBuf_kept {P : State → Prop} (kk : Kept P) (kd : KeptD P [0x7030, 0x7031]) {s : State} {b : SlotBuf} (h_s : P s) :
    P (State.setBuf s b) := by
  unfold State.setBuf
  repeat' first
    | with_reducible assumption
    | with_reducible intro _
    | (extract_lets +onlyGivenNames zz
       first
         | (with_reducible refine Kept.cut (P := P) (x := zz) ?_ ?_
            on_goal 2 => clear_value zz
            on_goal 1 => subst zz)
         | (with_reducible refine Kept.cut1 (P := P) (x := zz) ?_ ?_
            on_goal 2 => clear_value zz
            on_goal 1 => subst zz)
         | (have zn : Nat := zz
            clear zn
            subst zz)
         | clear_value zz
         | subst zz)
    | with_reducible apply State.showSlot_kept
    | exact kd.mem (by decide)
    | exact kd.mem (pick_mem (by decide) (by decide))
    | exact kd.mono (by decide)
    | split
    | fail_if_no_progress with_reducible apply kk.rest

theorem State.clearBufs_kept {P : State → Prop} (kk : Kept P) (kd : KeptD P [0x7030, 0x7031]) {s : State} {h : HalfId} {k : Nat} {p : SlotBuf → Bool} (h_s : P s) :
    P (State.clearBufs s h k p) := by
  unfold State.clearBufs
  repeat' first
    | with_reducible assumption
    | with_reducible intro _
    | with_reducible apply State.setBuf_kept
    | exact kd.mem (by decide)
    | exact kd.mem (pick_mem (by decide) (by decide))
    | exact kd.mono (by decide)
    | with_reducible refine Kept.foldl (fun _ _ _ => ?_) ?_
    | with_reducible refine Kept.foldl1 (fun _ _ _ => ?_) ?_
    | split
    | fail_if_no_progress with_reducible apply kk.rest

theorem State.dropCopy_kept {P : State → Prop} (kk : Kept P) (kd : KeptD P [0x7030, 0x7031, 0x7040, 0xF030]) {s : State} {h : HalfId} {source step : Nat} (h_s : P s) :
    P (State.dropCopy s h source step) := by
  unfold State.dropCopy
  repeat' first
    | with_reducible assumption
    | with_reducible intro _
    | with_reducible apply State.bump_kept
    | with_reducible apply State.log_kept
    | exact kd.mem (by decide)
    | exact kd.mem (pick_mem (by decide) (by decide))
    | exact kd.mono (by decide)
    | split
    | fail_if_no_progress with_reducible apply kk.rest

theorem State.dropLarge_kept {P : State → Prop} (kk : Kept P) (kd : KeptD P [0x7030, 0x7031, 0x7040, 0xF030]) {s : State} {h : HalfId} {source step : Nat} (h_s : P s) :
    P (State.dropLarge s h source step) := by
  unfold State.dropLarge
  repeat' first
    | with_reducible assumption
    | with_reducible intro _
    | with_reducible apply State.dropCopy_kept
    | with_reducible apply State.log_kept
    | exact kd.mem (by decide)
    | exact kd.mem (pick_mem (by decide) (by decide))
    | exact kd.mono (by decide)
    | with_reducible refine Kept.foldl (fun _ _ _ => ?_) ?_
    | with_reducible refine Kept.foldl1 (fun _ _ _ => ?_) ?_
    | split
    | fail_if_no_progress with_reducible apply kk.rest

theorem State.endCopy_kept {P : State → Prop} (kk : Kept P) (kd : KeptD P [0x7030, 0x7031, 0x7040, 0x9030, 0x9031, 0xF030]) {s : State} {h : HalfId} {k : Nat} {b : SlotBuf} {source : Nat} (h_s : P s) :
    P (State.endCopy s h k b source) := by
  unfold State.endCopy
  repeat' first
    | with_reducible assumption
    | with_reducible intro _
    | (extract_lets +onlyGivenNames zz
       first
         | (with_reducible refine Kept.cut (P := P) (x := zz) ?_ ?_
            on_goal 2 => clear_value zz
            on_goal 1 => subst zz)
         | (with_reducible refine Kept.cut1 (P := P) (x := zz) ?_ ?_
            on_goal 2 => clear_value zz
            on_goal 1 => subst zz)
         | (have zn : Nat := zz
            clear zn
            subst zz)
         | clear_value zz
         | subst zz)
    | with_reducible apply State.dropCopy_kept
    | with_reducible apply State.sendOut_kept
    | with_reducible apply State.setBuf_kept
    | exact kd.mem (by decide)
    | exact kd.mem (pick_mem (by decide) (by decide))
    | exact kd.mono (by decide)
    | split
    | fail_if_no_progress with_reducible apply kk.rest

theorem State.placeFrame_kept {P : State → Prop} (kk : Kept P) (kd : KeptD P [0x7030, 0x7031, 0x7040, 0xF030]) {s : State} {h : HalfId} {k : Nat} {f : Frame} (h_s : P s) :
    P (State.placeFrame s h k f) := by
  unfold State.placeFrame
  repeat' first
    | with_reducible assumption
    | with_reducible intro _
    | (extract_lets +onlyGivenNames zz
       first
         | (with_reducible refine Kept.cut (P := P) (x := zz) ?_ ?_
            on_goal 2 => clear_value zz
            on_goal 1 => subst zz)
         | (with_reducible refine Kept.cut1 (P := P) (x := zz) ?_ ?_
            on_goal 2 => clear_value zz
            on_goal 1 => subst zz)
         | (have zn : Nat := zz
            clear zn
            subst zz)
         | clear_value zz
         | subst zz)
    | with_reducible apply State.clearBufs_kept
    | with_reducible apply State.dropLarge_kept
    | with_reducible apply State.setBuf_kept
    | exact kd.mem (by decide)
    | exact kd.mem (pick_mem (by decide) (by decide))
    | exact kd.mono (by decide)
    | split
    | fail_if_no_progress with_reducible apply kk.rest

theorem State.closeCopy_kept {P : State → Prop} (kk : Kept P) (kd : KeptD P [0x7030, 0x7031, 0x7040, 0x9030, 0x9031, 0xF030]) {s : State} {h : HalfId} {k : Nat} {f : Frame} (h_s : P s) :
    P (State.closeCopy s h k f) := by
  unfold State.closeCopy
  repeat' first
    | with_reducible assumption
    | with_reducible intro _
    | with_reducible apply State.endCopy_kept
    | exact kd.mem (by decide)
    | exact kd.mem (pick_mem (by decide) (by decide))
    | exact kd.mono (by decide)
    | split
    | fail_if_no_progress with_reducible apply kk.rest

theorem State.slotFrame_kept {P : State → Prop} (kk : Kept P) (kd : KeptD P [0x7030, 0x7031, 0x7040, 0x9030, 0x9031, 0xF030]) {s : State} {h : HalfId} {k : Nat} {f : Frame} (h_s : P s) :
    P (State.slotFrame s h k f) := by
  unfold State.slotFrame
  repeat' first
    | with_reducible assumption
    | with_reducible intro _
    | with_reducible apply State.closeCopy_kept
    | with_reducible apply State.placeFrame_kept
    | exact kd.mem (by decide)
    | exact kd.mem (pick_mem (by decide) (by decide))
    | exact kd.mono (by decide)
    | split
    | fail_if_no_progress with_reducible apply kk.rest

theorem execDraftFrameReceive_kept {P : State → Prop} (kk : Kept P) (kc : KeptC P) (kd : KeptD P [0x7030, 0x7031, 0x7040, 0x9030, 0x9031, 0xF030]) {frame : Frame} {s : State} (h_s : P s) :
    KeptR P (execDraftFrameReceive frame s) := by
  unfold execDraftFrameReceive
  repeat' first
    | with_reducible assumption
    | with_reducible intro _
    | (extract_lets +onlyGivenNames zz
       first
         | (with_reducible refine Kept.cut (P := P) (x := zz) ?_ ?_
            on_goal 2 => clear_value zz
            on_goal 1 => subst zz)
         | (with_reducible refine Kept.cut1 (P := P) (x := zz) ?_ ?_
            on_goal 2 => clear_value zz
            on_goal 1 => subst zz)
         | (have zn : Nat := zz
            clear zn
            subst zz)
         | clear_value zz
         | subst zz)
    | with_reducible refine KeptR.onPower ?_ (fun _ => ?_)
    | with_reducible refine KeptR.next ?_
    | with_reducible exact KeptR.fault _
    | with_reducible apply State.bump_kept
    | with_reducible apply State.setCtx_kept
    | with_reducible apply State.slotFrame_kept
    | exact kd.mem (by decide)
    | exact kd.mem (pick_mem (by decide) (by decide))
    | exact kd.mono (by decide)
    | split
    | fail_if_no_progress with_reducible apply kk.rest

theorem State.loseCopies_kept {P : State → Prop} (kk : Kept P) (kd : KeptD P [0x7030, 0x7031, 0x7040, 0xF030]) {s : State} {h : HalfId} {src : Nat} (h_s : P s) :
    P (State.loseCopies s h src) := by
  unfold State.loseCopies
  repeat' first
    | with_reducible assumption
    | with_reducible intro _
    | with_reducible apply State.dropCopy_kept
    | with_reducible apply State.setBuf_kept
    | exact kd.mem (by decide)
    | exact kd.mem (pick_mem (by decide) (by decide))
    | exact kd.mono (by decide)
    | with_reducible refine Kept.foldl (fun _ _ _ => ?_) ?_
    | with_reducible refine Kept.foldl1 (fun _ _ _ => ?_) ?_
    | split
    | fail_if_no_progress with_reducible apply kk.rest

theorem execGapTimeout_kept {P : State → Prop} (kk : Kept P) (kd : KeptD P [0x6000, 0x6001, 0x7030, 0x7031, 0x7040, 0xF030]) {h : HalfId} {src vc : Nat} {s : State} (h_s : P s) :
    KeptR P (execGapTimeout h src vc s) := by
  unfold execGapTimeout
  repeat' first
    | with_reducible assumption
    | with_reducible intro _
    | (extract_lets +onlyGivenNames zz
       first
         | (with_reducible refine Kept.cut (P := P) (x := zz) ?_ ?_
            on_goal 2 => clear_value zz
            on_goal 1 => subst zz)
         | (with_reducible refine Kept.cut1 (P := P) (x := zz) ?_ ?_
            on_goal 2 => clear_value zz
            on_goal 1 => subst zz)
         | (have zn : Nat := zz
            clear zn
            subst zz)
         | clear_value zz
         | subst zz)
    | with_reducible refine KeptR.onPower ?_ (fun _ => ?_)
    | with_reducible refine KeptR.next ?_
    | with_reducible exact KeptR.fault _
    | with_reducible apply State.bump_kept
    | with_reducible apply State.log_kept
    | with_reducible apply State.loseCopies_kept
    | with_reducible apply State.setLane_kept
    | exact kd.mem (by decide)
    | exact kd.mem (pick_mem (by decide) (by decide))
    | exact kd.mono (by decide)
    | split
    | fail_if_no_progress with_reducible apply kk.rest

theorem State.actReceipt_kept {P : State → Prop} (kk : Kept P) (kc : KeptC P) (kd : KeptD P [0x7010, 0x7011, 0x7012]) {s : State} {via : Via} {h : HalfId} {v : Nat} (h_s : P s) :
    KeptX P (State.actReceipt s via h v) := by
  unfold State.actReceipt
  repeat' first
    | with_reducible assumption
    | with_reducible intro _
    | (extract_lets +onlyGivenNames zz
       first
         | (with_reducible refine Kept.cut (P := P) (x := zz) ?_ ?_
            on_goal 2 => clear_value zz
            on_goal 1 => subst zz)
         | (with_reducible refine Kept.cut1 (P := P) (x := zz) ?_ ?_
            on_goal 2 => clear_value zz
            on_goal 1 => subst zz)
         | (have zn : Nat := zz
            clear zn
            subst zz)
         | clear_value zz
         | subst zz)
    | with_reducible exact KeptX.refuse _ _
    | with_reducible refine KeptX.apply ?_
    | with_reducible refine KeptX.counted ?_
    | with_reducible refine KeptX.accept (fun _ _ => ?_)
    | with_reducible apply State.bump_kept
    | with_reducible apply State.bumpAt_kept
    | with_reducible apply State.modCtx_kept
    | with_reducible apply State.put64At_kept
    | exact kd.mem (by decide)
    | exact kd.mem (pick_mem (by decide) (by decide))
    | exact kd.mono (by decide)
    | with_reducible refine Kept.foldl (fun _ _ _ => ?_) ?_
    | with_reducible refine Kept.foldl1 (fun _ _ _ => ?_) ?_
    | with_reducible apply KeptX.ite
    | split
    | fail_if_no_progress with_reducible apply kk.rest

theorem State.actSlot_kept {P : State → Prop} (kk : Kept P) (ks : KeptS P) (kd : KeptD P [0x7030, 0x7031]) {s : State} {h : HalfId} {k v : Nat} (h_s : P s) :
    KeptX P (State.actSlot s h k v) := by
  unfold State.actSlot
  repeat' first
    | with_reducible assumption
    | with_reducible intro _
    | (extract_lets +onlyGivenNames zz
       first
         | (with_reducible refine Kept.cut (P := P) (x := zz) ?_ ?_
            on_goal 2 => clear_value zz
            on_goal 1 => subst zz)
         | (with_reducible refine Kept.cut1 (P := P) (x := zz) ?_ ?_
            on_goal 2 => clear_value zz
            on_goal 1 => subst zz)
         | (have zn : Nat := zz
            clear zn
            subst zz)
         | clear_value zz
         | subst zz)
    | with_reducible exact KeptX.refuse _ _
    | with_reducible refine KeptX.apply ?_
    | with_reducible refine KeptX.counted ?_
    | with_reducible refine KeptX.accept (fun _ _ => ?_)
    | with_reducible apply State.clearBufs_kept
    | with_reducible apply State.freeSkip_kept
    | with_reducible apply State.put64At_kept
    | with_reducible apply State.showSlot_kept
    | exact kd.mem (by decide)
    | exact kd.mem (pick_mem (by decide) (by decide))
    | exact kd.mono (by decide)
    | with_reducible apply KeptX.ite
    | split
    | fail_if_no_progress with_reducible apply kk.rest
    | fail_if_no_progress (with_reducible apply ks.sec; with_reducible apply kk.rest)

theorem State.actSendBack_kept {P : State → Prop} (kk : Kept P) (kc : KeptC P) (kd : KeptD P [0x7030, 0x7031, 0x7040, 0x9030, 0x9031, 0xF030]) {s : State} {h : HalfId} {k v : Nat} (h_s : P s) :
    KeptX P (State.actSendBack s h k v) := by
  unfold State.actSendBack
  repeat' first
    | with_reducible assumption
    | with_reducible intro _
    | (extract_lets +onlyGivenNames zz
       first
         | (with_reducible refine Kept.cut (P := P) (x := zz) ?_ ?_
            on_goal 2 => clear_value zz
            on_goal 1 => subst zz)
         | (with_reducible refine Kept.cut1 (P := P) (x := zz) ?_ ?_
            on_goal 2 => clear_value zz
            on_goal 1 => subst zz)
         | (have zn : Nat := zz
            clear zn
            subst zz)
         | clear_value zz
         | subst zz)
    | with_reducible exact KeptX.refuse _ _
    | with_reducible refine KeptX.apply ?_
    | with_reducible refine KeptX.counted ?_
    | with_reducible refine KeptX.accept (fun _ _ => ?_)
    | with_reducible apply State.clearBufs_kept
    | with_reducible apply State.sendOut_kept
    | with_reducible apply State.setCtx_kept
    | exact kd.mem (by decide)
    | exact kd.mem (pick_mem (by decide) (by decide))
    | exact kd.mono (by decide)
    | with_reducible apply KeptX.ite
    | split
    | fail_if_no_progress with_reducible apply kk.rest

theorem State.actRestore_kept {P : State → Prop} (kk : Kept P) (kc : KeptC P) (kd : KeptD P [0x7013]) {s : State} {n : Nat} {w : Word} (h_s : P s) :
    KeptX P (State.actRestore s n w) := by
  unfold State.actRestore
  repeat' first
    | with_reducible assumption
    | with_reducible intro _
    | with_reducible exact KeptX.refuse _ _
    | with_reducible refine KeptX.apply ?_
    | with_reducible refine KeptX.counted ?_
    | with_reducible refine KeptX.accept (fun _ _ => ?_)
    | with_reducible apply State.modCtx_kept
    | with_reducible apply State.putAt_kept
    | exact kd.mem (by decide)
    | exact kd.mem (pick_mem (by decide) (by decide))
    | exact kd.mono (by decide)
    | with_reducible apply KeptX.ite
    | split
    | fail_if_no_progress with_reducible apply kk.rest

theorem State.applyCopy_kept {P : State → Prop} (kk : Kept P) (km : KeptM P) (kc : KeptC P) (kt : KeptT P) (kb : KeptB P) (kd : KeptD P [0x0080, 0x2012, 0x3031, 0x4001, 0x4003, 0x4004, 0x4005, 0x4010, 0x4012, 0x4021, 0x5010, 0x5020, 0x6010, 0x7040, 0xF030]) (kn : KeptN P) {s : State} {n step : Nat} {seen : List RowSeen} {l : List Byte} (h_s : P s) :
    P (State.applyCopy s n step seen l) := by
  unfold State.applyCopy
  repeat' first
    | with_reducible assumption
    | with_reducible intro _
    | (extract_lets +onlyGivenNames zz
       first
         | (with_reducible refine Kept.cut (P := P) (x := zz) ?_ ?_
            on_goal 2 => clear_value zz
            on_goal 1 => subst zz)
         | (with_reducible refine Kept.cut1 (P := P) (x := zz) ?_ ?_
            on_goal 2 => clear_value zz
            on_goal 1 => subst zz)
         | (have zn : Nat := zz
            clear zn
            subst zz)
         | clear_value zz
         | subst zz)
    | with_reducible apply State.hbmWrite_kept
    | with_reducible apply State.programTile_kept
    | with_reducible apply State.put64_kept
    | with_reducible apply State.put64At_kept
    | with_reducible apply State.setCtx_kept
    | with_reducible apply State.showWatch_kept
    | with_reducible apply State.writeCopies_kept
    | exact kd.mem (by decide)
    | exact kd.mem (pick_mem (by decide) (by decide))
    | exact kd.mono (by decide)
    | exact kn.mem _
    | with_reducible refine Kept.foldl (fun _ _ _ => ?_) ?_
    | with_reducible refine Kept.foldl1 (fun _ _ _ => ?_) ?_
    | split
    | fail_if_no_progress with_reducible apply kk.rest

theorem State.failRestore_kept {P : State → Prop} (kk : Kept P) (kc : KeptC P) (kv : KeptV P) (kd : KeptD P [0x7013]) {s : State} {n status : Nat} (h_s : P s) :
    P (State.failRestore s n status) := by
  unfold State.failRestore
  repeat' first
    | with_reducible assumption
    | with_reducible intro _
    | (extract_lets +onlyGivenNames zz
       first
         | (with_reducible refine Kept.cut (P := P) (x := zz) ?_ ?_
            on_goal 2 => clear_value zz
            on_goal 1 => subst zz)
         | (with_reducible refine Kept.cut1 (P := P) (x := zz) ?_ ?_
            on_goal 2 => clear_value zz
            on_goal 1 => subst zz)
         | (have zn : Nat := zz
            clear zn
            subst zz)
         | clear_value zz
         | subst zz)
    | with_reducible apply State.endPending_kept
    | with_reducible apply State.modCtx_kept
    | with_reducible apply State.putAt_kept
    | exact kd.mem (by decide)
    | exact kd.mem (pick_mem (by decide) (by decide))
    | exact kd.mono (by decide)
    | split
    | fail_if_no_progress with_reducible apply kk.rest

theorem execRestoreApply_kept {P : State → Prop} (kk : Kept P) (km : KeptM P) (kc : KeptC P) (kt : KeptT P) (kv : KeptV P) (kb : KeptB P) (kd : KeptD P [0x0080, 0x2012, 0x3031, 0x4001, 0x4003, 0x4004, 0x4005, 0x4010, 0x4012, 0x4021, 0x5010, 0x5020, 0x6010, 0x7013, 0x7040, 0xF030]) (kn : KeptN P) {n : Nat} {seen : List RowSeen} {s : State} (h_s : P s) :
    KeptR P (execRestoreApply n seen s) := by
  unfold execRestoreApply
  repeat' first
    | with_reducible assumption
    | with_reducible intro _
    | (extract_lets +onlyGivenNames zz
       first
         | (with_reducible refine Kept.cut (P := P) (x := zz) ?_ ?_
            on_goal 2 => clear_value zz
            on_goal 1 => subst zz)
         | (with_reducible refine Kept.cut1 (P := P) (x := zz) ?_ ?_
            on_goal 2 => clear_value zz
            on_goal 1 => subst zz)
         | (have zn : Nat := zz
            clear zn
            subst zz)
         | clear_value zz
         | subst zz)
    | with_reducible refine KeptR.onPower ?_ (fun _ => ?_)
    | with_reducible refine KeptR.next ?_
    | with_reducible exact KeptR.fault _
    | with_reducible apply State.applyCopy_kept
    | with_reducible apply State.bumpAt_kept
    | with_reducible apply State.endPending_kept
    | with_reducible apply State.failRestore_kept
    | with_reducible apply State.log_kept
    | with_reducible apply State.modCtx_kept
    | with_reducible apply State.putAt_kept
    | exact kd.mem (by decide)
    | exact kd.mem (pick_mem (by decide) (by decide))
    | exact kd.mono (by decide)
    | exact kn.mem _
    | split
    | fail_if_no_progress with_reducible apply kk.rest

theorem execRestoreTimeout_kept {P : State → Prop} (kk : Kept P) (kc : KeptC P) (kv : KeptV P) (kd : KeptD P [0x7013]) {n : Nat} {s : State} (h_s : P s) :
    KeptR P (execRestoreTimeout n s) := by
  unfold execRestoreTimeout
  repeat' first
    | with_reducible assumption
    | with_reducible intro _
    | with_reducible refine KeptR.onPower ?_ (fun _ => ?_)
    | with_reducible refine KeptR.next ?_
    | with_reducible exact KeptR.fault _
    | with_reducible apply State.failRestore_kept
    | exact kd.mem (by decide)
    | exact kd.mem (pick_mem (by decide) (by decide))
    | exact kd.mono (by decide)
    | split
    | fail_if_no_progress with_reducible apply kk.rest

theorem execUnitSuspect_kept {P : State → Prop} (kk : Kept P) (kc : KeptC P) (kv : KeptV P) (kd : KeptD P [0x0080, 0x4021, 0x7020, 0x7021, 0x7040, 0xF030]) (kn : KeptN P) {unit : UnitWord} {cause ctx step : Nat} {s : State} (h_s : P s) :
    KeptR P (execUnitSuspect unit cause ctx step s) := by
  unfold execUnitSuspect
  repeat' first
    | with_reducible assumption
    | with_reducible intro _
    | with_reducible refine KeptR.onPower ?_ (fun _ => ?_)
    | with_reducible refine KeptR.next ?_
    | with_reducible exact KeptR.fault _
    | with_reducible apply State.makeSuspect_kept
    | exact kd.mem (by decide)
    | exact kd.mem (pick_mem (by decide) (by decide))
    | exact kd.mono (by decide)
    | exact kn.mem _
    | split
    | fail_if_no_progress with_reducible apply kk.rest

theorem State.handover_kept {P : State → Prop} (kk : Kept P) (km : KeptM P) (kc : KeptC P) (kt : KeptT P) (kb : KeptB P) (kd : KeptD P [0x0080, 0x3010, 0x3020, 0x3021, 0x4001, 0x4003, 0x4005, 0x4010, 0x4012, 0x4014, 0x4021, 0x4102, 0x4103, 0x5020, 0x6010, 0x7040, 0x9030, 0x9031, 0xF030]) {s : State} {h : HalfId} {c unit : Nat} (h_s : P s) :
    P (State.handover s h c unit) := by
  unfold State.handover
  repeat' first
    | with_reducible assumption
    | with_reducible intro _
    | (extract_lets +onlyGivenNames zz
       first
         | (with_reducible refine Kept.cut (P := P) (x := zz) ?_ ?_
            on_goal 2 => clear_value zz
            on_goal 1 => subst zz)
         | (with_reducible refine Kept.cut1 (P := P) (x := zz) ?_ ?_
            on_goal 2 => clear_value zz
            on_goal 1 => subst zz)
         | (have zn : Nat := zz
            clear zn
            subst zz)
         | clear_value zz
         | subst zz)
    | with_reducible apply State.fieldRepair_kept
    | with_reducible apply State.rerunStep_kept
    | with_reducible apply State.takeSpareCourse_kept
    | exact kd.mem (by decide)
    | exact kd.mem (pick_mem (by decide) (by decide))
    | exact kd.mono (by decide)
    | with_reducible refine Kept.foldl (fun _ _ _ => ?_) ?_
    | with_reducible refine Kept.foldl1 (fun _ _ _ => ?_) ?_
    | split
    | fail_if_no_progress with_reducible apply kk.rest

theorem execSuspectReplace_kept {P : State → Prop} (kk : Kept P) (km : KeptM P) (kc : KeptC P) (kt : KeptT P) (kb : KeptB P) (kd : KeptD P [0x0080, 0x2010, 0x3010, 0x3020, 0x3021, 0x4001, 0x4003, 0x4005, 0x4010, 0x4012, 0x4014, 0x4021, 0x4102, 0x4103, 0x5020, 0x6010, 0x7040, 0x9030, 0x9031, 0xF030]) {unit : UnitWord} {s : State} (h_s : P s) :
    KeptR P (execSuspectReplace unit s) := by
  unfold execSuspectReplace
  repeat' first
    | with_reducible assumption
    | with_reducible intro _
    | (extract_lets +onlyGivenNames zz
       first
         | (with_reducible refine Kept.cut (P := P) (x := zz) ?_ ?_
            on_goal 2 => clear_value zz
            on_goal 1 => subst zz)
         | (with_reducible refine Kept.cut1 (P := P) (x := zz) ?_ ?_
            on_goal 2 => clear_value zz
            on_goal 1 => subst zz)
         | (have zn : Nat := zz
            clear zn
            subst zz)
         | clear_value zz
         | subst zz)
    | with_reducible refine KeptR.onPower ?_ (fun _ => ?_)
    | with_reducible refine KeptR.next ?_
    | with_reducible exact KeptR.fault _
    | with_reducible apply State.dropSlice_kept
    | with_reducible apply State.fieldRepair_kept
    | with_reducible apply State.handover_kept
    | with_reducible apply State.markUnusable_kept
    | with_reducible apply State.retireField_kept
    | with_reducible apply State.retireUnit_kept
    | exact kd.mem (by decide)
    | exact kd.mem (pick_mem (by decide) (by decide))
    | exact kd.mono (by decide)
    | split
    | fail_if_no_progress with_reducible apply kk.rest
    | with_reducible refine Kept.pair (by assumption) ?_

theorem execSpareCourseHandover_kept {P : State → Prop} (kk : Kept P) (km : KeptM P) (kc : KeptC P) (kt : KeptT P) (kb : KeptB P) (kd : KeptD P [0x0080, 0x3010, 0x3020, 0x3021, 0x4001, 0x4003, 0x4005, 0x4010, 0x4012, 0x4014, 0x4021, 0x4102, 0x4103, 0x5020, 0x6010, 0x7040, 0x9030, 0x9031, 0xF030]) {h : HalfId} {course : Nat} {s : State} (h_s : P s) :
    KeptR P (execSpareCourseHandover h course s) := by
  unfold execSpareCourseHandover
  repeat' first
    | with_reducible assumption
    | with_reducible intro _
    | (extract_lets +onlyGivenNames zz
       first
         | (with_reducible refine Kept.cut (P := P) (x := zz) ?_ ?_
            on_goal 2 => clear_value zz
            on_goal 1 => subst zz)
         | (with_reducible refine Kept.cut1 (P := P) (x := zz) ?_ ?_
            on_goal 2 => clear_value zz
            on_goal 1 => subst zz)
         | (have zn : Nat := zz
            clear zn
            subst zz)
         | clear_value zz
         | subst zz)
    | with_reducible refine KeptR.onPower ?_ (fun _ => ?_)
    | with_reducible refine KeptR.next ?_
    | with_reducible exact KeptR.fault _
    | with_reducible apply State.handover_kept
    | exact kd.mem (by decide)
    | exact kd.mem (pick_mem (by decide) (by decide))
    | exact kd.mono (by decide)
    | split
    | fail_if_no_progress with_reducible apply kk.rest

theorem execMemoryError_kept {P : State → Prop} (kk : Kept P) (kc : KeptC P) (kv : KeptV P) (kd : KeptD P [0x4021, 0x7000, 0x7001, 0x7040, 0xF030]) (kn : KeptN P) {h : HalfId} {err : MemErr} {place : MemPlace} {s : State} (h_s : P s) :
    KeptR P (execMemoryError h err place s) := by
  unfold execMemoryError
  repeat' first
    | with_reducible assumption
    | with_reducible intro _
    | (extract_lets +onlyGivenNames zz
       first
         | (with_reducible refine Kept.cut (P := P) (x := zz) ?_ ?_
            on_goal 2 => clear_value zz
            on_goal 1 => subst zz)
         | (with_reducible refine Kept.cut1 (P := P) (x := zz) ?_ ?_
            on_goal 2 => clear_value zz
            on_goal 1 => subst zz)
         | (have zn : Nat := zz
            clear zn
            subst zz)
         | clear_value zz
         | subst zz)
    | with_reducible refine KeptR.onPower ?_ (fun _ => ?_)
    | with_reducible refine KeptR.next ?_
    | with_reducible exact KeptR.fault _
    | with_reducible apply State.emit_kept
    | with_reducible apply State.enterFault_kept
    | with_reducible apply State.failCheck_kept
    | with_reducible apply State.log_kept
    | with_reducible apply State.riskEvent_kept
    | exact kd.mem (by decide)
    | exact kd.mem (pick_mem (by decide) (by decide))
    | exact kd.mono (by decide)
    | exact kn.mem _
    | split
    | fail_if_no_progress with_reducible apply kk.rest

theorem State.actLogClear_kept {P : State → Prop} (kk : Kept P) (kd : KeptD P [0x7040]) {s : State} {w : Word} (h_s : P s) :
    KeptX P (State.actLogClear s w) := by
  unfold State.actLogClear
  repeat' first
    | with_reducible assumption
    | with_reducible intro _
    | with_reducible exact KeptX.refuse _ _
    | with_reducible refine KeptX.apply ?_
    | with_reducible refine KeptX.counted ?_
    | with_reducible refine KeptX.accept (fun _ _ => ?_)
    | with_reducible apply State.put_kept
    | exact kd.mem (by decide)
    | exact kd.mem (pick_mem (by decide) (by decide))
    | exact kd.mono (by decide)
    | with_reducible apply KeptX.ite
    | split
    | fail_if_no_progress with_reducible apply kk.rest

end Sys2Proof.Machine
end

