-- ==== Sys2Proof/Laws/KeptSecurity.lean ====
section
/-! SUPPORT. What every definition of Machine/Security.lean keeps of a state: one lemma each (Laws/Kept.lean). -/

namespace Sys2Proof.Machine

open Sys2Proof

set_option linter.all false

theorem State.useLeaf_kept {P : State → Prop} (kk : Kept P) (ks : KeptS P) (kd : KeptD P [0x7040, 0x9000, 0xF030]) {s : State} (h_s : P s) :
    P (State.useLeaf s) := by
  unfold State.useLeaf
  repeat' first
    | with_reducible assumption
    | with_reducible intro _
    | (extract_lets +onlyGivenNames zz
       first
         | (with_reducible refine Kept.cut (P := P) (x := zz) ?_ ?_
            on_goal 2 => clear_value zz
            on_goal 1 => subst zz)
         | (with_reducible refine Kept.cut1 (P := P) (x := zz) ?_ ?_
            on_goal 2 => clear_value zz
            on_goal 1 => subst zz)
         | (have zn : Nat := zz
            clear zn
            subst zz)
         | clear_value zz
         | subst zz)
    | with_reducible apply State.put_kept
    | with_reducible apply State.warnLeaves_kept
    | exact kd.mem (by decide)
    | exact kd.mem (pick_mem (by decide) (by decide))
    | exact kd.mono (by decide)
    | split
    | fail_if_no_progress with_reducible apply kk.rest

theorem execTreeBuild_kept {P : State → Prop} (kk : Kept P) (ks : KeptS P) {s : State} (h_s : P s) :
    KeptR P (execTreeBuild s) := by
  unfold execTreeBuild
  repeat' first
    | with_reducible assumption
    | with_reducible intro _
    | with_reducible refine KeptR.onPower ?_ (fun _ => ?_)
    | with_reducible refine KeptR.next ?_
    | with_reducible exact KeptR.fault _
    | split
    | fail_if_no_progress with_reducible apply kk.rest
    | fail_if_no_progress (with_reducible apply ks.sec; with_reducible apply kk.rest)

theorem execEntropyFailure_kept {P : State → Prop} (kk : Kept P) (ks : KeptS P) (kd : KeptD P [0x7040, 0xF030]) {s : State} (h_s : P s) :
    KeptR P (execEntropyFailure s) := by
  unfold execEntropyFailure
  repeat' first
    | with_reducible assumption
    | with_reducible intro _
    | with_reducible refine KeptR.onPower ?_ (fun _ => ?_)
    | with_reducible refine KeptR.next ?_
    | with_reducible exact KeptR.fault _
    | with_reducible apply State.log_kept
    | exact kd.mem (by decide)
    | exact kd.mem (pick_mem (by decide) (by decide))
    | exact kd.mono (by decide)
    | split
    | fail_if_no_progress with_reducible apply kk.rest
    | fail_if_no_progress (with_reducible apply ks.sec; with_reducible apply kk.rest)

theorem State.endSession_kept {P : State → Prop} (kk : Kept P) (kc : KeptC P) (ks : KeptS P) (kv : KeptV P) (kn : KeptN P) {s : State} {id : Nat} (h_s : P s) :
    P (State.endSession s id) := by
  unfold State.endSession
  repeat' first
    | with_reducible assumption
    | with_reducible intro _
    | (extract_lets +onlyGivenNames zz
       first
         | (with_reducible refine Kept.cut (P := P) (x := zz) ?_ ?_
            on_goal 2 => clear_value zz
            on_goal 1 => subst zz)
         | (with_reducible refine Kept.cut1 (P := P) (x := zz) ?_ ?_
            on_goal 2 => clear_value zz
            on_goal 1 => subst zz)
         | (have zn : Nat := zz
            clear zn
            subst zz)
         | clear_value zz
         | subst zz)
    | with_reducible apply Kept.ident
    | with_reducible apply State.holdCompanions_kept
    | with_reducible apply State.reasonHold_kept
    | exact kn.mem _
    | with_reducible refine Kept.foldl (fun _ _ _ => ?_) ?_
    | with_reducible refine Kept.foldl1 (fun _ _ _ => ?_) ?_
    | split
    | fail_if_no_progress with_reducible apply kk.rest
    | fail_if_no_progress (with_reducible apply ks.sec; with_reducible apply kk.rest)

theorem State.signed_kept {P : State → Prop} (kk : Kept P) (ks : KeptS P) (kd : KeptD P [0x7040, 0x9000, 0xF030]) {s : State} {kind id : Nat} {msg : List Byte} {f : State → State} (h_s : P s) (h_f : ∀ s, P s → P (f s)) :
    P (State.signed s kind id msg f) := by
  unfold State.signed
  repeat' first
    | with_reducible assumption
    | with_reducible intro _
    | with_reducible apply h_f
    | with_reducible apply Kept.ident
    | with_reducible apply State.emit_kept
    | with_reducible apply State.useLeaf_kept
    | exact kd.mem (by decide)
    | exact kd.mem (pick_mem (by decide) (by decide))
    | exact kd.mono (by decide)
    | split
    | fail_if_no_progress with_reducible apply kk.rest

theorem execChallenge_kept {P : State → Prop} (kk : Kept P) (ks : KeptS P) (kd : KeptD P [0x7040, 0x9000, 0xF030]) {via : Via} {nonce : List Byte} {s : State} (h_s : P s) :
    KeptR P (execChallenge via nonce s) := by
  unfold execChallenge
  repeat' first
    | with_reducible assumption
    | with_reducible intro _
    | with_reducible refine KeptR.onPower ?_ (fun _ => ?_)
    | with_reducible refine KeptR.next ?_
    | with_reducible exact KeptR.fault _
    | with_reducible apply Kept.ident
    | with_reducible apply State.signed_kept
    | exact kd.mem (by decide)
    | exact kd.mem (pick_mem (by decide) (by decide))
    | exact kd.mono (by decide)
    | split
    | fail_if_no_progress with_reducible apply kk.rest

theorem execGetMeasurements_kept {P : State → Prop} (kk : Kept P) (ks : KeptS P) (kd : KeptD P [0x7040, 0x9000, 0xF030]) {via : Via} {block : Nat} {signed : Bool} {s : State} (h_s : P s) :
    KeptR P (execGetMeasurements via block signed s) := by
  unfold execGetMeasurements
  repeat' first
    | with_reducible assumption
    | with_reducible intro _
    | with_reducible refine KeptR.onPower ?_ (fun _ => ?_)
    | with_reducible refine KeptR.next ?_
    | with_reducible exact KeptR.fault _
    | with_reducible apply Kept.ident
    | with_reducible apply State.emit_kept
    | with_reducible apply State.signed_kept
    | exact kd.mem (by decide)
    | exact kd.mem (pick_mem (by decide) (by decide))
    | exact kd.mono (by decide)
    | split
    | fail_if_no_progress with_reducible apply kk.rest

theorem execGetCertificate_kept {P : State → Prop} (kk : Kept P) {via : Via} {slot : Nat} {s : State} (h_s : P s) :
    KeptR P (execGetCertificate via slot s) := by
  unfold execGetCertificate
  repeat' first
    | with_reducible assumption
    | with_reducible intro _
    | with_reducible refine KeptR.onPower ?_ (fun _ => ?_)
    | with_reducible refine KeptR.next ?_
    | with_reducible exact KeptR.fault _
    | with_reducible apply State.emit_kept
    | split
    | fail_if_no_progress with_reducible apply kk.rest

theorem execKeyExchange_kept {P : State → Prop} (kk : Kept P) (ks : KeptS P) (kd : KeptD P [0x7040, 0x9000, 0xF030]) {via : Via} {id : Nat} {requester : List Byte} {mutAuth rooted : Bool} {s : State} (h_s : P s) :
    KeptR P (execKeyExchange via id requester mutAuth rooted s) := by
  unfold execKeyExchange
  repeat' first
    | with_reducible assumption
    | with_reducible intro _
    | (extract_lets +onlyGivenNames zz
       first
         | (with_reducible refine Kept.cut (P := P) (x := zz) ?_ ?_
            on_goal 2 => clear_value zz
            on_goal 1 => subst zz)
         | (with_reducible refine Kept.cut1 (P := P) (x := zz) ?_ ?_
            on_goal 2 => clear_value zz
            on_goal 1 => subst zz)
         | (have zn : Nat := zz
            clear zn
            subst zz)
         | clear_value zz
         | subst zz)
    | with_reducible refine KeptR.onPower ?_ (fun _ => ?_)
    | with_reducible refine KeptR.next ?_
    | with_reducible exact KeptR.fault _
    | with_reducible apply Kept.ident
    | with_reducible apply State.emit_kept
    | with_reducible apply State.signed_kept
    | exact kd.mem (by decide)
    | exact kd.mem (pick_mem (by decide) (by decide))
    | exact kd.mono (by decide)
    | split
    | fail_if_no_progress with_reducible apply kk.rest
    | fail_if_no_progress (with_reducible apply ks.sec; with_reducible apply kk.rest)

theorem execKeyUpdate_kept {P : State → Prop} (kk : Kept P) (ks : KeptS P) {via : Via} {s : State} (h_s : P s) :
    KeptR P (execKeyUpdate via s) := by
  unfold execKeyUpdate
  repeat' first
    | with_reducible assumption
    | with_reducible intro _
    | (extract_lets +onlyGivenNames zz
       first
         | (with_reducible refine Kept.cut (P := P) (x := zz) ?_ ?_
            on_goal 2 => clear_value zz
            on_goal 1 => subst zz)
         | (with_reducible refine Kept.cut1 (P := P) (x := zz) ?_ ?_
            on_goal 2 => clear_value zz
            on_goal 1 => subst zz)
         | (have zn : Nat := zz
            clear zn
            subst zz)
         | clear_value zz
         | subst zz)
    | with_reducible refine KeptR.onPower ?_ (fun _ => ?_)
    | with_reducible refine KeptR.next ?_
    | with_reducible exact KeptR.fault _
    | with_reducible apply State.emit_kept
    | split
    | fail_if_no_progress with_reducible apply kk.rest
    | fail_if_no_progress (with_reducible apply ks.sec; with_reducible apply kk.rest)

theorem execSpdmHeartbeat_kept {P : State → Prop} (kk : Kept P) {via : Via} {s : State} (h_s : P s) :
    KeptR P (execSpdmHeartbeat via s) := by
  unfold execSpdmHeartbeat
  repeat' first
    | with_reducible assumption
    | with_reducible intro _
    | with_reducible refine KeptR.onPower ?_ (fun _ => ?_)
    | with_reducible refine KeptR.next ?_
    | with_reducible exact KeptR.fault _
    | with_reducible apply State.emit_kept
    | split
    | fail_if_no_progress with_reducible apply kk.rest

theorem execSessionHeartbeatTimeout_kept {P : State → Prop} (kk : Kept P) (kc : KeptC P) (ks : KeptS P) (kv : KeptV P) (kn : KeptN P) {id : Nat} {s : State} (h_s : P s) :
    KeptR P (execSessionHeartbeatTimeout id s) := by
  unfold execSessionHeartbeatTimeout
  repeat' first
    | with_reducible assumption
    | with_reducible intro _
    | with_reducible refine KeptR.onPower ?_ (fun _ => ?_)
    | with_reducible refine KeptR.next ?_
    | with_reducible exact KeptR.fault _
    | with_reducible apply Kept.ident
    | with_reducible apply State.endSession_kept
    | exact kn.mem _
    | split
    | fail_if_no_progress with_reducible apply kk.rest

theorem execSessionEnd_kept {P : State → Prop} (kk : Kept P) (kc : KeptC P) (ks : KeptS P) (kv : KeptV P) (kn : KeptN P) {id : Nat} {s : State} (h_s : P s) :
    KeptR P (execSessionEnd id s) := by
  unfold execSessionEnd
  repeat' first
    | with_reducible assumption
    | with_reducible intro _
    | with_reducible refine KeptR.onPower ?_ (fun _ => ?_)
    | with_reducible refine KeptR.next ?_
    | with_reducible exact KeptR.fault _
    | with_reducible apply Kept.ident
    | with_reducible apply State.endSession_kept
    | exact kn.mem _
    | split
    | fail_if_no_progress with_reducible apply kk.rest

theorem State.stageImage_kept {P : State → Prop} (kk : Kept P) (kg : KeptK P) (kd : KeptD P [0x9010]) {s : State} {l : List Byte} (h_s : P s) :
    KeptX P (State.stageImage s l) := by
  unfold State.stageImage
  repeat' first
    | with_reducible assumption
    | with_reducible intro _
    | (extract_lets +onlyGivenNames zz
       first
         | (with_reducible refine Kept.cut (P := P) (x := zz) ?_ ?_
            on_goal 2 => clear_value zz
            on_goal 1 => subst zz)
         | (with_reducible refine Kept.cut1 (P := P) (x := zz) ?_ ?_
            on_goal 2 => clear_value zz
            on_goal 1 => subst zz)
         | (have zn : Nat := zz
            clear zn
            subst zz)
         | clear_value zz
         | subst zz)
    | with_reducible exact KeptX.refuse _ _
    | with_reducible refine KeptX.apply ?_
    | with_reducible refine KeptX.counted ?_
    | with_reducible refine KeptX.accept (fun _ _ => ?_)
    | with_reducible apply State.put_kept
    | exact kd.mem (by decide)
    | exact kd.mem (pick_mem (by decide) (by decide))
    | exact kd.mono (by decide)
    | split
    | fail_if_no_progress with_reducible apply kk.rest
    | fail_if_no_progress (with_reducible apply kg.key; with_reducible apply kk.rest)

theorem State.actCommit_kept {P : State → Prop} (kk : Kept P) (kg : KeptK P) {s : State} {keystone : Bool} {w : Word} (h_s : P s) :
    KeptX P (State.actCommit s keystone w) := by
  unfold State.actCommit
  repeat' first
    | with_reducible assumption
    | with_reducible intro _
    | with_reducible exact KeptX.refuse _ _
    | with_reducible refine KeptX.apply ?_
    | with_reducible refine KeptX.counted ?_
    | with_reducible refine KeptX.accept (fun _ _ => ?_)
    | with_reducible apply KeptX.ite
    | split
    | fail_if_no_progress with_reducible apply kk.rest
    | fail_if_no_progress (with_reducible apply kg.key; with_reducible apply kk.rest)

theorem State.writeSlot_kept {P : State → Prop} (kk : Kept P) (kg : KeptK P) (kd : KeptD P [0x9001]) {s : State} {b : Nat} {im : Image} (h_s : P s) :
    P (State.writeSlot s b im) := by
  unfold State.writeSlot
  repeat' first
    | with_reducible assumption
    | with_reducible intro _
    | (extract_lets +onlyGivenNames zz
       first
         | (with_reducible refine Kept.cut (P := P) (x := zz) ?_ ?_
            on_goal 2 => clear_value zz
            on_goal 1 => subst zz)
         | (with_reducible refine Kept.cut1 (P := P) (x := zz) ?_ ?_
            on_goal 2 => clear_value zz
            on_goal 1 => subst zz)
         | (have zn : Nat := zz
            clear zn
            subst zz)
         | clear_value zz
         | subst zz)
    | with_reducible apply State.putFlag_kept
    | exact kd.mem (by decide)
    | exact kd.mem (pick_mem (by decide) (by decide))
    | exact kd.mono (by decide)
    | split
    | fail_if_no_progress with_reducible apply kk.rest
    | fail_if_no_progress (with_reducible apply kg.key; with_reducible apply kk.rest)

theorem State.endCommit_kept {P : State → Prop} (kk : Kept P) (kg : KeptK P) (kd : KeptD P [0x9001]) {s : State} {ok : Bool} (h_s : P s) :
    P (State.endCommit s ok) := by
  unfold State.endCommit
  repeat' first
    | with_reducible assumption
    | with_reducible intro _
    | (extract_lets +onlyGivenNames zz
       first
         | (with_reducible refine Kept.cut (P := P) (x := zz) ?_ ?_
            on_goal 2 => clear_value zz
            on_goal 1 => subst zz)
         | (with_reducible refine Kept.cut1 (P := P) (x := zz) ?_ ?_
            on_goal 2 => clear_value zz
            on_goal 1 => subst zz)
         | (have zn : Nat := zz
            clear zn
            subst zz)
         | clear_value zz
         | subst zz)
    | with_reducible apply State.writeSlot_kept
    | exact kd.mem (by decide)
    | exact kd.mem (pick_mem (by decide) (by decide))
    | exact kd.mono (by decide)
    | split
    | fail_if_no_progress with_reducible apply kk.rest
    | fail_if_no_progress (with_reducible apply kg.key; with_reducible apply kk.rest)

theorem State.actOwnerRoot_kept {P : State → Prop}  {_s : State} {l : List Byte} (h__s : P _s) :
    KeptX P (State.actOwnerRoot _s l) := by
  unfold State.actOwnerRoot
  repeat' first
    | with_reducible assumption
    | with_reducible intro _
    | with_reducible exact KeptX.refuse _ _
    | with_reducible refine KeptX.apply ?_
    | with_reducible refine KeptX.counted ?_
    | with_reducible refine KeptX.accept (fun _ _ => ?_)
    | with_reducible apply Kept.ident
    | with_reducible apply KeptX.ite
    | split
    | fail_if_no_progress with_reducible apply kk.rest

theorem State.endOwnerRoot_kept {P : State → Prop} (kk : Kept P) (ks : KeptS P) (kd : KeptD P [0x9020]) {s : State} {ws : List Word} (h_s : P s) :
    P (State.endOwnerRoot s ws) := by
  unfold State.endOwnerRoot
  repeat' first
    | with_reducible assumption
    | with_reducible intro _
    | (extract_lets +onlyGivenNames zz
       first
         | (with_reducible refine Kept.cut (P := P) (x := zz) ?_ ?_
            on_goal 2 => clear_value zz
            on_goal 1 => subst zz)
         | (with_reducible refine Kept.cut1 (P := P) (x := zz) ?_ ?_
            on_goal 2 => clear_value zz
            on_goal 1 => subst zz)
         | (have zn : Nat := zz
            clear zn
            subst zz)
         | clear_value zz
         | subst zz)
    | with_reducible apply State.put_kept
    | with_reducible apply State.putsAt_kept
    | exact kd.mem (by decide)
    | exact kd.mem (pick_mem (by decide) (by decide))
    | exact kd.mono (by decide)
    | split
    | fail_if_no_progress with_reducible apply kk.rest
    | fail_if_no_progress (with_reducible apply ks.sec; with_reducible apply kk.rest)

theorem State.showKeys_kept {P : State → Prop}  (kd : KeptD P [0x9030, 0x9031]) {s : State} {h : HalfId} (h_s : P s) :
    P (State.showKeys s h) := by
  unfold State.showKeys
  repeat' first
    | with_reducible assumption
    | with_reducible intro _
    | (extract_lets +onlyGivenNames zz
       first
         | (with_reducible refine Kept.cut (P := P) (x := zz) ?_ ?_
            on_goal 2 => clear_value zz
            on_goal 1 => subst zz)
         | (with_reducible refine Kept.cut1 (P := P) (x := zz) ?_ ?_
            on_goal 2 => clear_value zz
            on_goal 1 => subst zz)
         | (have zn : Nat := zz
            clear zn
            subst zz)
         | clear_value zz
         | subst zz)
    | with_reducible apply State.put_kept
    | exact kd.mem (by decide)
    | exact kd.mem (pick_mem (by decide) (by decide))
    | exact kd.mono (by decide)
    | split
    | fail_if_no_progress with_reducible apply kk.rest

theorem State.actKeyInstall_kept {P : State → Prop} (kk : Kept P) (ks : KeptS P) (kd : KeptD P [0x9030, 0x9031]) {s : State} {h : HalfId} {ws : List Word} (h_s : P s) :
    KeptX P (State.actKeyInstall s h ws) := by
  unfold State.actKeyInstall
  repeat' first
    | with_reducible assumption
    | with_reducible intro _
    | (extract_lets +onlyGivenNames zz
       first
         | (with_reducible refine Kept.cut (P := P) (x := zz) ?_ ?_
            on_goal 2 => clear_value zz
            on_goal 1 => subst zz)
         | (with_reducible refine Kept.cut1 (P := P) (x := zz) ?_ ?_
            on_goal 2 => clear_value zz
            on_goal 1 => subst zz)
         | (have zn : Nat := zz
            clear zn
            subst zz)
         | clear_value zz
         | subst zz)
    | with_reducible exact KeptX.refuse _ _
    | with_reducible refine KeptX.apply ?_
    | with_reducible refine KeptX.counted ?_
    | with_reducible refine KeptX.accept (fun _ _ => ?_)
    | with_reducible apply State.modKeys_kept
    | with_reducible apply State.showKeys_kept
    | exact kd.mem (by decide)
    | exact kd.mem (pick_mem (by decide) (by decide))
    | exact kd.mono (by decide)
    | with_reducible apply KeptX.ite
    | split
    | fail_if_no_progress with_reducible apply kk.rest

theorem State.actKeyAdvance_kept {P : State → Prop} (kk : Kept P) (ks : KeptS P) (kd : KeptD P [0x7040, 0x9030, 0x9031, 0xF030]) {s : State} {h : HalfId} {w : Word} (h_s : P s) :
    KeptX P (State.actKeyAdvance s h w) := by
  unfold State.actKeyAdvance
  repeat' first
    | with_reducible assumption
    | with_reducible intro _
    | (extract_lets +onlyGivenNames zz
       first
         | (with_reducible refine Kept.cut (P := P) (x := zz) ?_ ?_
            on_goal 2 => clear_value zz
            on_goal 1 => subst zz)
         | (with_reducible refine Kept.cut1 (P := P) (x := zz) ?_ ?_
            on_goal 2 => clear_value zz
            on_goal 1 => subst zz)
         | (have zn : Nat := zz
            clear zn
            subst zz)
         | clear_value zz
         | subst zz)
    | with_reducible exact KeptX.refuse _ _
    | with_reducible refine KeptX.apply ?_
    | with_reducible refine KeptX.counted ?_
    | with_reducible refine KeptX.accept (fun _ _ => ?_)
    | with_reducible apply State.flushUnsent_kept
    | with_reducible apply State.modKeys_kept
    | with_reducible apply State.put_kept
    | with_reducible apply State.put64_kept
    | with_reducible apply State.showKeys_kept
    | exact kd.mem (by decide)
    | exact kd.mem (pick_mem (by decide) (by decide))
    | exact kd.mono (by decide)
    | with_reducible apply KeptX.ite
    | split
    | fail_if_no_progress with_reducible apply kk.rest

theorem execPreviousKeyDestroy_kept {P : State → Prop} (kk : Kept P) (ks : KeptS P) (kd : KeptD P [0x9030, 0x9031]) {h : HalfId} {s : State} (h_s : P s) :
    KeptR P (execPreviousKeyDestroy h s) := by
  unfold execPreviousKeyDestroy
  repeat' first
    | with_reducible assumption
    | with_reducible intro _
    | with_reducible refine KeptR.onPower ?_ (fun _ => ?_)
    | with_reducible refine KeptR.next ?_
    | with_reducible exact KeptR.fault _
    | with_reducible apply State.modKeys_kept
    | with_reducible apply State.showKeys_kept
    | exact kd.mem (by decide)
    | exact kd.mem (pick_mem (by decide) (by decide))
    | exact kd.mono (by decide)
    | split
    | fail_if_no_progress with_reducible apply kk.rest

theorem State.actSealingKey_kept {P : State → Prop}  {s : State} {ws : List Word} (h_s : P s) :
    KeptX P (State.actSealingKey s ws) := by
  unfold State.actSealingKey
  repeat' first
    | with_reducible assumption
    | with_reducible intro _
    | with_reducible exact KeptX.refuse _ _
    | with_reducible refine KeptX.apply ?_
    | with_reducible refine KeptX.counted ?_
    | with_reducible refine KeptX.accept (fun _ _ => ?_)
    | with_reducible apply Kept.ident
    | split
    | fail_if_no_progress with_reducible apply kk.rest

theorem State.endSealingKey_kept {P : State → Prop} (kk : Kept P) (ks : KeptS P) (kd : KeptD P [0x9020]) {s : State} {slot : Nat} {ws : List Word} (h_s : P s) :
    P (State.endSealingKey s slot ws) := by
  unfold State.endSealingKey
  repeat' first
    | with_reducible assumption
    | with_reducible intro _
    | (extract_lets +onlyGivenNames zz
       first
         | (with_reducible refine Kept.cut (P := P) (x := zz) ?_ ?_
            on_goal 2 => clear_value zz
            on_goal 1 => subst zz)
         | (with_reducible refine Kept.cut1 (P := P) (x := zz) ?_ ?_
            on_goal 2 => clear_value zz
            on_goal 1 => subst zz)
         | (have zn : Nat := zz
            clear zn
            subst zz)
         | clear_value zz
         | subst zz)
    | with_reducible apply State.putFlag_kept
    | exact kd.mem (by decide)
    | exact kd.mem (pick_mem (by decide) (by decide))
    | exact kd.mono (by decide)
    | split
    | fail_if_no_progress with_reducible apply kk.rest
    | fail_if_no_progress (with_reducible apply ks.sec; with_reducible apply kk.rest)

theorem State.actClearSlot_kept {P : State → Prop} (kk : Kept P) (ks : KeptS P) (kd : KeptD P [0x9020]) {s : State} {w : Word} (h_s : P s) :
    KeptX P (State.actClearSlot s w) := by
  unfold State.actClearSlot
  repeat' first
    | with_reducible assumption
    | with_reducible intro _
    | (extract_lets +onlyGivenNames zz
       first
         | (with_reducible refine Kept.cut (P := P) (x := zz) ?_ ?_
            on_goal 2 => clear_value zz
            on_goal 1 => subst zz)
         | (with_reducible refine Kept.cut1 (P := P) (x := zz) ?_ ?_
            on_goal 2 => clear_value zz
            on_goal 1 => subst zz)
         | (have zn : Nat := zz
            clear zn
            subst zz)
         | clear_value zz
         | subst zz)
    | with_reducible exact KeptX.refuse _ _
    | with_reducible refine KeptX.apply ?_
    | with_reducible refine KeptX.counted ?_
    | with_reducible refine KeptX.accept (fun _ _ => ?_)
    | with_reducible apply State.putFlag_kept
    | exact kd.mem (by decide)
    | exact kd.mem (pick_mem (by decide) (by decide))
    | exact kd.mono (by decide)
    | with_reducible apply KeptX.ite
    | split
    | fail_if_no_progress with_reducible apply kk.rest
    | fail_if_no_progress (with_reducible apply ks.sec; with_reducible apply kk.rest)

theorem State.exportBlob_kept {P : State → Prop} (kk : Kept P) {s : State} {n : Nat} (h_s : P s) :
    P (State.exportBlob s n).1 := by
  unfold State.exportBlob
  repeat' first
    | with_reducible assumption
    | with_reducible intro _
    | (extract_lets +onlyGivenNames zz
       first
         | (with_reducible refine Kept.cut (P := P) (x := zz) ?_ ?_
            on_goal 2 => clear_value zz
            on_goal 1 => subst zz)
         | (with_reducible refine Kept.cut1 (P := P) (x := zz) ?_ ?_
            on_goal 2 => clear_value zz
            on_goal 1 => subst zz)
         | (have zn : Nat := zz
            clear zn
            subst zz)
         | clear_value zz
         | subst zz)
    | with_reducible apply State.freeSkip_kept
    | split
    | fail_if_no_progress with_reducible apply kk.rest

theorem State.importBlob_kept {P : State → Prop} (kk : Kept P) (km : KeptM P) (kc : KeptC P) (kt : KeptT P) (kb : KeptB P) (kd : KeptD P [0x0080, 0x2012, 0x3031, 0x4001, 0x4003, 0x4004, 0x4005, 0x4010, 0x4012, 0x4021, 0x5010, 0x5020, 0x6010, 0x7040, 0xF030]) (kn : KeptN P) {s : State} {n : Nat} {l : List Byte} (h_s : P s) :
    KeptX P (State.importBlob s n l) := by
  unfold State.importBlob
  repeat' first
    | with_reducible assumption
    | with_reducible intro _
    | (extract_lets +onlyGivenNames zz
       first
         | (with_reducible refine Kept.cut (P := P) (x := zz) ?_ ?_
            on_goal 2 => clear_value zz
            on_goal 1 => subst zz)
         | (with_reducible refine Kept.cut1 (P := P) (x := zz) ?_ ?_
            on_goal 2 => clear_value zz
            on_goal 1 => subst zz)
         | (have zn : Nat := zz
            clear zn
            subst zz)
         | clear_value zz
         | subst zz)
    | with_reducible exact KeptX.refuse _ _
    | with_reducible refine KeptX.apply ?_
    | with_reducible refine KeptX.counted ?_
    | with_reducible refine KeptX.accept (fun _ _ => ?_)
    | with_reducible apply State.applyCopy_kept
    | exact kd.mem (by decide)
    | exact kd.mem (pick_mem (by decide) (by decide))
    | exact kd.mono (by decide)
    | exact kn.mem _
    | with_reducible apply KeptX.ite
    | split
    | fail_if_no_progress with_reducible apply kk.rest

theorem State.sanitizeHalf_kept {P : State → Prop} (kk : Kept P) (km : KeptM P) (kt : KeptT P) (kd : KeptD P [0x7030, 0x7031]) {s : State} {h : HalfId} (h_s : P s) :
    P (State.sanitizeHalf s h) := by
  unfold State.sanitizeHalf
  repeat' first
    | with_reducible assumption
    | with_reducible intro _
    | (extract_lets +onlyGivenNames zz
       first
         | (with_reducible refine Kept.cut (P := P) (x := zz) ?_ ?_
            on_goal 2 => clear_value zz
            on_goal 1 => subst zz)
         | (with_reducible refine Kept.cut1 (P := P) (x := zz) ?_ ?_
            on_goal 2 => clear_value zz
            on_goal 1 => subst zz)
         | (have zn : Nat := zz
            clear zn
            subst zz)
         | clear_value zz
         | subst zz)
    | with_reducible apply State.clearBufs_kept
    | with_reducible apply State.unpoison_kept
    | with_reducible apply km.clear
    | with_reducible apply km.drop
    | exact kd.mem (by decide)
    | exact kd.mem (pick_mem (by decide) (by decide))
    | exact kd.mono (by decide)
    | with_reducible refine Kept.foldl (fun _ _ _ => ?_) ?_
    | with_reducible refine Kept.foldl1 (fun _ _ _ => ?_) ?_
    | split
    | fail_if_no_progress with_reducible apply kk.rest
    | fail_if_no_progress (with_reducible apply kt.tiles; with_reducible apply kk.rest)

theorem State.sanitizeModule_kept {P : State → Prop} (kk : Kept P) (km : KeptM P) (kc : KeptC P) (kt : KeptT P) (kb : KeptB P) (kd : KeptD P [0x0080, 0x4001, 0x4003, 0x4010, 0x4012, 0x4021, 0x5020, 0x7030, 0x7031, 0x9060]) {s : State} {residual : List (Nat × Nat)} (h_s : P s) :
    P (State.sanitizeModule s residual) := by
  unfold State.sanitizeModule
  repeat' first
    | with_reducible assumption
    | with_reducible intro _
    | with_reducible apply State.sanitizeHalf_kept
    | with_reducible apply State.sanitizeTile_kept
    | exact kd.mem (by decide)
    | exact kd.mem (pick_mem (by decide) (by decide))
    | exact kd.mono (by decide)
    | with_reducible refine Kept.foldl (fun _ _ _ => ?_) ?_
    | with_reducible refine Kept.foldl1 (fun _ _ _ => ?_) ?_
    | split
    | fail_if_no_progress with_reducible apply kk.rest

theorem State.actSanitize_kept {P : State → Prop} (kk : Kept P) (km : KeptM P) (kc : KeptC P) (kt : KeptT P) (ks : KeptS P) (kb : KeptB P) (kd : KeptD P [0x0080, 0x4001, 0x4003, 0x4010, 0x4012, 0x4021, 0x5020, 0x7030, 0x7031, 0x9060]) {s : State} {via : Via} {residual : List (Nat × Nat)} {w : Word} (h_s : P s) :
    KeptX P (State.actSanitize s via residual w) := by
  unfold State.actSanitize
  repeat' first
    | with_reducible assumption
    | with_reducible intro _
    | (extract_lets +onlyGivenNames zz
       first
         | (with_reducible refine Kept.cut (P := P) (x := zz) ?_ ?_
            on_goal 2 => clear_value zz
            on_goal 1 => subst zz)
         | (with_reducible refine Kept.cut1 (P := P) (x := zz) ?_ ?_
            on_goal 2 => clear_value zz
            on_goal 1 => subst zz)
         | (have zn : Nat := zz
            clear zn
            subst zz)
         | clear_value zz
         | subst zz)
    | with_reducible exact KeptX.refuse _ _
    | with_reducible refine KeptX.apply ?_
    | with_reducible refine KeptX.counted ?_
    | with_reducible refine KeptX.accept (fun _ _ => ?_)
    | with_reducible apply State.sanitizeModule_kept
    | with_reducible apply State.sanitizeTile_kept
    | exact kd.mem (by decide)
    | exact kd.mem (pick_mem (by decide) (by decide))
    | exact kd.mono (by decide)
    | with_reducible refine Kept.foldl (fun _ _ _ => ?_) ?_
    | with_reducible refine Kept.foldl1 (fun _ _ _ => ?_) ?_
    | with_reducible apply KeptX.ite
    | split
    | fail_if_no_progress with_reducible apply kk.rest
    | fail_if_no_progress (with_reducible apply ks.sec; with_reducible apply kk.rest)

theorem State.actRelease_kept {P : State → Prop} (kk : Kept P) (km : KeptM P) (kc : KeptC P) (kt : KeptT P) (ks : KeptS P) (kb : KeptB P) (kd : KeptD P [0x0080, 0x4001, 0x4003, 0x4010, 0x4012, 0x4021, 0x5020, 0x7030, 0x7031, 0x9020, 0x9030, 0x9031, 0x9040, 0x9041, 0x9060]) {s : State} {residual : List (Nat × Nat)} {w : Word} (h_s : P s) :
    KeptX P (State.actRelease s residual w) := by
  unfold State.actRelease
  repeat' first
    | with_reducible assumption
    | with_reducible intro _
    | (extract_lets +onlyGivenNames zz
       first
         | (with_reducible refine Kept.cut (P := P) (x := zz) ?_ ?_
            on_goal 2 => clear_value zz
            on_goal 1 => subst zz)
         | (with_reducible refine Kept.cut1 (P := P) (x := zz) ?_ ?_
            on_goal 2 => clear_value zz
            on_goal 1 => subst zz)
         | (have zn : Nat := zz
            clear zn
            subst zz)
         | clear_value zz
         | subst zz)
    | with_reducible exact KeptX.refuse _ _
    | with_reducible refine KeptX.apply ?_
    | with_reducible refine KeptX.counted ?_
    | with_reducible refine KeptX.accept (fun _ _ => ?_)
    | with_reducible apply State.put_kept
    | with_reducible apply State.putsAt_kept
    | with_reducible apply State.sanitizeModule_kept
    | with_reducible apply State.showKeys_kept
    | exact kd.mem (by decide)
    | exact kd.mem (pick_mem (by decide) (by decide))
    | exact kd.mono (by decide)
    | with_reducible refine Kept.foldl (fun _ _ _ => ?_) ?_
    | with_reducible refine Kept.foldl1 (fun _ _ _ => ?_) ?_
    | with_reducible apply KeptX.ite
    | split
    | fail_if_no_progress with_reducible apply kk.rest
    | fail_if_no_progress (with_reducible apply ks.sec; with_reducible apply kk.rest)

theorem State.actRebind_kept {P : State → Prop} (kk : Kept P) (kc : KeptC P) (kn : KeptN P) {s : State} {via : Via} {n : Nat} {w : Word} (h_s : P s) :
    KeptX P (State.actRebind s via n w) := by
  unfold State.actRebind
  repeat' first
    | with_reducible assumption
    | with_reducible intro _
    | with_reducible exact KeptX.refuse _ _
    | with_reducible refine KeptX.apply ?_
    | with_reducible refine KeptX.counted ?_
    | with_reducible refine KeptX.accept (fun _ _ => ?_)
    | with_reducible apply State.clearReason_kept
    | with_reducible apply State.noteFacts_kept
    | with_reducible apply State.setCtx_kept
    | exact kn.mem _
    | with_reducible apply KeptX.ite
    | split
    | fail_if_no_progress with_reducible apply kk.rest

theorem State.actIdeHold_kept {P : State → Prop}  (kn : KeptN P) {s : State} {n : Nat} {w : Word} (h_s : P s) :
    KeptX P (State.actIdeHold s n w) := by
  unfold State.actIdeHold
  repeat' first
    | with_reducible assumption
    | with_reducible intro _
    | with_reducible exact KeptX.refuse _ _
    | with_reducible refine KeptX.apply ?_
    | with_reducible refine KeptX.counted ?_
    | with_reducible refine KeptX.accept (fun _ _ => ?_)
    | with_reducible apply State.clearReason_kept
    | exact kn.mem _
    | with_reducible apply KeptX.ite
    | split
    | fail_if_no_progress with_reducible apply kk.rest

theorem State.actSign_kept {P : State → Prop} (kk : Kept P) (ks : KeptS P) (kd : KeptD P [0x7040, 0x9000, 0xF030]) {s : State} {via : Via} {w : Word} (h_s : P s) :
    KeptX P (State.actSign s via w) := by
  unfold State.actSign
  repeat' first
    | with_reducible assumption
    | with_reducible intro _
    | (extract_lets +onlyGivenNames zz
       first
         | (with_reducible refine Kept.cut (P := P) (x := zz) ?_ ?_
            on_goal 2 => clear_value zz
            on_goal 1 => subst zz)
         | (with_reducible refine Kept.cut1 (P := P) (x := zz) ?_ ?_
            on_goal 2 => clear_value zz
            on_goal 1 => subst zz)
         | (have zn : Nat := zz
            clear zn
            subst zz)
         | clear_value zz
         | subst zz)
    | with_reducible exact KeptX.refuse _ _
    | with_reducible refine KeptX.apply ?_
    | with_reducible refine KeptX.counted ?_
    | with_reducible refine KeptX.accept (fun _ _ => ?_)
    | with_reducible apply State.useLeaf_kept
    | exact kd.mem (by decide)
    | exact kd.mem (pick_mem (by decide) (by decide))
    | exact kd.mono (by decide)
    | with_reducible apply KeptX.ite
    | split
    | fail_if_no_progress with_reducible apply kk.rest
    | fail_if_no_progress (with_reducible apply ks.sec; with_reducible apply kk.rest)

theorem State.clearProbation_kept {P : State → Prop}  (kd : KeptD P [0x7021]) (kq : KeptQ P) {s : State} (h_s : P s) :
    P (State.clearProbation s) := by
  unfold State.clearProbation
  repeat' first
    | with_reducible assumption
    | with_reducible intro _
    | (extract_lets +onlyGivenNames zz
       first
         | (with_reducible refine Kept.cut (P := P) (x := zz) ?_ ?_
            on_goal 2 => clear_value zz
            on_goal 1 => subst zz)
         | (with_reducible refine Kept.cut1 (P := P) (x := zz) ?_ ?_
            on_goal 2 => clear_value zz
            on_goal 1 => subst zz)
         | (have zn : Nat := zz
            clear zn
            subst zz)
         | clear_value zz
         | subst zz)
    | with_reducible apply State.dropKeys_kept
    | with_reducible apply State.put_kept
    | with_reducible apply State.put64_kept
    | exact kd.mem (by decide)
    | exact kd.mem (pick_mem (by decide) (by decide))
    | exact kd.mono (by decide)
    | split
    | fail_if_no_progress with_reducible apply kk.rest

theorem State.actService_kept {P : State → Prop} (kk : Kept P) (kd : KeptD P [0x7021, 0x9070]) (kq : KeptQ P) {s : State} {l : List Byte} (h_s : P s) :
    KeptX P (State.actService s l) := by
  unfold State.actService
  repeat' first
    | with_reducible assumption
    | with_reducible intro _
    | (extract_lets +onlyGivenNames zz
       first
         | (with_reducible refine Kept.cut (P := P) (x := zz) ?_ ?_
            on_goal 2 => clear_value zz
            on_goal 1 => subst zz)
         | (with_reducible refine Kept.cut1 (P := P) (x := zz) ?_ ?_
            on_goal 2 => clear_value zz
            on_goal 1 => subst zz)
         | (have zn : Nat := zz
            clear zn
            subst zz)
         | clear_value zz
         | subst zz)
    | with_reducible exact KeptX.refuse _ _
    | with_reducible refine KeptX.apply ?_
    | with_reducible refine KeptX.counted ?_
    | with_reducible refine KeptX.accept (fun _ _ => ?_)
    | with_reducible apply State.clearProbation_kept
    | with_reducible apply State.drawServiceNonce_kept
    | exact kd.mem (by decide)
    | exact kd.mem (pick_mem (by decide) (by decide))
    | exact kd.mono (by decide)
    | with_reducible apply KeptX.ite
    | split
    | fail_if_no_progress with_reducible apply kk.rest

end Sys2Proof.Machine
end

