-- ==== Sys2Proof/Laws/KeptResets.lean ====
section
/-! SUPPORT. What every definition of Machine/Resets.lean keeps of a state: one lemma each (Laws/Kept.lean). -/

namespace Sys2Proof.Machine

open Sys2Proof

set_option linter.all false

theorem State.moveLead_kept {P : State → Prop} (kk : Kept P) (kg : KeptK P) (kh : KeptH P) (kd : KeptD P [0x0010, 0x0040, 0x7040, 0xF030]) {s : State} {h : HalfId} (h_s : P s) :
    P (State.moveLead s h) := by
  unfold State.moveLead
  repeat' first
    | with_reducible assumption
    | with_reducible intro _
    | (extract_lets +onlyGivenNames zz
       first
         | (with_reducible refine Kept.cut (P := P) (x := zz) ?_ ?_
            on_goal 2 => clear_value zz
            on_goal 1 => subst zz)
         | (with_reducible refine Kept.cut1 (P := P) (x := zz) ?_ ?_
            on_goal 2 => clear_value zz
            on_goal 1 => subst zz)
         | (have zn : Nat := zz
            clear zn
            subst zz)
         | clear_value zz
         | subst zz)
    | with_reducible apply State.epochCheck_kept
    | with_reducible apply State.modHalf_kept
    | with_reducible apply State.put_kept
    | with_reducible apply State.refuseHeld_kept
    | with_reducible apply State.setHolder_kept
    | exact kd.mem (by decide)
    | exact kd.mem (pick_mem (by decide) (by decide))
    | exact kd.mono (by decide)
    | split
    | fail_if_no_progress with_reducible apply kk.rest

theorem State.actMoveLead_kept {P : State → Prop} (kk : Kept P) (kg : KeptK P) (kh : KeptH P) (kd : KeptD P [0x0010, 0x0040, 0x7040, 0xF030]) {s : State} {w : Word} (h_s : P s) :
    KeptX P (State.actMoveLead s w) := by
  unfold State.actMoveLead
  repeat' first
    | with_reducible assumption
    | with_reducible intro _
    | (extract_lets +onlyGivenNames zz
       first
         | (with_reducible refine Kept.cut (P := P) (x := zz) ?_ ?_
            on_goal 2 => clear_value zz
            on_goal 1 => subst zz)
         | (with_reducible refine Kept.cut1 (P := P) (x := zz) ?_ ?_
            on_goal 2 => clear_value zz
            on_goal 1 => subst zz)
         | (have zn : Nat := zz
            clear zn
            subst zz)
         | clear_value zz
         | subst zz)
    | with_reducible exact KeptX.refuse _ _
    | with_reducible refine KeptX.apply ?_
    | with_reducible refine KeptX.counted ?_
    | with_reducible refine KeptX.accept (fun _ _ => ?_)
    | with_reducible apply State.moveLead_kept
    | exact kd.mem (by decide)
    | exact kd.mem (pick_mem (by decide) (by decide))
    | exact kd.mono (by decide)
    | with_reducible apply KeptX.ite
    | split
    | fail_if_no_progress with_reducible apply kk.rest

theorem State.actReplaceClear_kept {P : State → Prop}  (kd : KeptD P [0x0080]) {s : State} {w : Word} (h_s : P s) :
    KeptX P (State.actReplaceClear s w) := by
  unfold State.actReplaceClear
  repeat' first
    | with_reducible assumption
    | with_reducible intro _
    | (extract_lets +onlyGivenNames zz
       first
         | (with_reducible refine Kept.cut (P := P) (x := zz) ?_ ?_
            on_goal 2 => clear_value zz
            on_goal 1 => subst zz)
         | (with_reducible refine Kept.cut1 (P := P) (x := zz) ?_ ?_
            on_goal 2 => clear_value zz
            on_goal 1 => subst zz)
         | (have zn : Nat := zz
            clear zn
            subst zz)
         | clear_value zz
         | subst zz)
    | with_reducible exact KeptX.refuse _ _
    | with_reducible refine KeptX.apply ?_
    | with_reducible refine KeptX.counted ?_
    | with_reducible refine KeptX.accept (fun _ _ => ?_)
    | with_reducible apply State.clearReplace_kept
    | exact kd.mem (by decide)
    | exact kd.mem (pick_mem (by decide) (by decide))
    | exact kd.mono (by decide)
    | with_reducible apply KeptX.ite
    | split
    | fail_if_no_progress with_reducible apply kk.rest

theorem State.actReplaceRaise_kept {P : State → Prop}  (kd : KeptD P [0x0080]) {s : State} {w : Word} (h_s : P s) :
    KeptX P (State.actReplaceRaise s w) := by
  unfold State.actReplaceRaise
  repeat' first
    | with_reducible assumption
    | with_reducible intro _
    | (extract_lets +onlyGivenNames zz
       first
         | (with_reducible refine Kept.cut (P := P) (x := zz) ?_ ?_
            on_goal 2 => clear_value zz
            on_goal 1 => subst zz)
         | (with_reducible refine Kept.cut1 (P := P) (x := zz) ?_ ?_
            on_goal 2 => clear_value zz
            on_goal 1 => subst zz)
         | (have zn : Nat := zz
            clear zn
            subst zz)
         | clear_value zz
         | subst zz)
    | with_reducible exact KeptX.refuse _ _
    | with_reducible refine KeptX.apply ?_
    | with_reducible refine KeptX.counted ?_
    | with_reducible refine KeptX.accept (fun _ _ => ?_)
    | with_reducible apply State.raiseReplace_kept
    | exact kd.mem (by decide)
    | exact kd.mem (pick_mem (by decide) (by decide))
    | exact kd.mono (by decide)
    | with_reducible apply KeptX.ite
    | split
    | fail_if_no_progress with_reducible apply kk.rest

theorem State.resetContexts_kept {P : State → Prop} (kk : Kept P) (km : KeptM P) (kc : KeptC P) (kt : KeptT P) (kh : KeptH P) (kv : KeptV P) (kb : KeptB P) (kd : KeptD P [0x0080, 0x4001, 0x4003, 0x4010, 0x4012, 0x4014, 0x4021, 0x5020, 0x6010, 0x7040, 0x9030, 0x9031, 0x9060, 0xF021, 0xF030]) (kn : KeptN P) (kq : KeptQ P) {s : State} {h : HalfId} {quiet : Bool} (h_s : P s) :
    P (State.resetContexts s h quiet) := by
  unfold State.resetContexts
  repeat' first
    | with_reducible assumption
    | with_reducible intro _
    | (extract_lets +onlyGivenNames zz
       first
         | (with_reducible refine Kept.cut (P := P) (x := zz) ?_ ?_
            on_goal 2 => clear_value zz
            on_goal 1 => subst zz)
         | (with_reducible refine Kept.cut1 (P := P) (x := zz) ?_ ?_
            on_goal 2 => clear_value zz
            on_goal 1 => subst zz)
         | (have zn : Nat := zz
            clear zn
            subst zz)
         | clear_value zz
         | subst zz)
    | with_reducible apply State.release_kept
    | with_reducible apply State.retractAll_kept
    | with_reducible apply State.settle_kept
    | with_reducible apply State.stopCtx_kept
    | exact kd.mem (by decide)
    | exact kd.mem (pick_mem (by decide) (by decide))
    | exact kd.mono (by decide)
    | exact kn.mem _
    | with_reducible refine Kept.foldl (fun _ _ _ => ?_) ?_
    | with_reducible refine Kept.foldl1 (fun _ _ _ => ?_) ?_
    | split
    | fail_if_no_progress with_reducible apply kk.rest

theorem State.resetHalf_kept {P : State → Prop} (kk : Kept P) (km : KeptM P) (kc : KeptC P) (kt : KeptT P) (ks : KeptS P) (kg : KeptK P) (kh : KeptH P) (kv : KeptV P) (kb : KeptB P) (kl : KeptL P) (kd : KeptD P [0x0010, 0x0040, 0x0041, 0x0080, 0x1000, 0x1001, 0x1002, 0x1010, 0x1011, 0x1012, 0x1013, 0x1015, 0x1016, 0x2010, 0x4001, 0x4003, 0x4010, 0x4012, 0x4014, 0x4021, 0x5020, 0x6010, 0x7040, 0x9001, 0x9030, 0x9031, 0x9060, 0xA003, 0xA004, 0xF000, 0xF002, 0xF003, 0xF010, 0xF021, 0xF030]) (kn : KeptN P) (kq : KeptQ P) {s : State} {h : HalfId} {found : List (BitVec 64)} (h_s : P s) :
    P (State.resetHalf s h found) := by
  unfold State.resetHalf
  repeat' first
    | with_reducible assumption
    | with_reducible intro _
    | exact kd.mem (by decide)
    | exact kd.mem (pick_mem (by decide) (by decide))
    | exact kd.mono (by decide)
    | exact kn.mem _
    | (extract_lets +onlyGivenNames zz
       first
         | (with_reducible refine Kept.cut (P := P) (x := zz) ?_ ?_
            on_goal 2 => clear_value zz
            on_goal 1 => subst zz)
         | (with_reducible refine Kept.cut1 (P := P) (x := zz) ?_ ?_
            on_goal 2 => clear_value zz
            on_goal 1 => subst zz)
         | (have zn : Nat := zz
            clear zn
            subst zz)
         | clear_value zz
         | subst zz)
    | with_reducible apply State.beginHalf_kept
    | with_reducible apply State.bump_kept
    | with_reducible apply State.dropEnables_kept
    | with_reducible apply State.dropHalf_kept
    | with_reducible apply State.loseHalf_kept
    | with_reducible apply State.modHalf_kept
    | with_reducible apply State.moveLead_kept
    | with_reducible apply State.railsOff_kept
    | with_reducible apply State.refuseHeld_kept
    | with_reducible apply State.resetContexts_kept
    | with_reducible apply State.setFence_kept
    | with_reducible apply State.setHolder_kept
    | exact kd.mem (by decide)
    | exact kd.mem (pick_mem (by decide) (by decide))
    | exact kd.mono (by decide)
    | exact kn.mem _
    | split
    | fail_if_no_progress with_reducible apply kk.rest

theorem State.actHalfReset_kept {P : State → Prop} (kk : Kept P) (km : KeptM P) (kc : KeptC P) (kt : KeptT P) (ks : KeptS P) (kg : KeptK P) (kh : KeptH P) (kv : KeptV P) (kb : KeptB P) (kl : KeptL P) (kd : KeptD P [0x0010, 0x0040, 0x0041, 0x0080, 0x1000, 0x1001, 0x1002, 0x1010, 0x1011, 0x1012, 0x1013, 0x1015, 0x1016, 0x2010, 0x4001, 0x4003, 0x4010, 0x4012, 0x4014, 0x4021, 0x5020, 0x6010, 0x7040, 0x9001, 0x9030, 0x9031, 0x9060, 0xA003, 0xA004, 0xF000, 0xF002, 0xF003, 0xF010, 0xF021, 0xF030]) (kn : KeptN P) (kq : KeptQ P) {s : State} {found : List (BitVec 64)} {w : Word} (h_s : P s) :
    KeptX P (State.actHalfReset s found w) := by
  unfold State.actHalfReset
  repeat' first
    | with_reducible assumption
    | with_reducible intro _
    | exact kd.mem (by decide)
    | exact kd.mem (pick_mem (by decide) (by decide))
    | exact kd.mono (by decide)
    | exact kn.mem _
    | (extract_lets +onlyGivenNames zz
       first
         | (with_reducible refine Kept.cut (P := P) (x := zz) ?_ ?_
            on_goal 2 => clear_value zz
            on_goal 1 => subst zz)
         | (with_reducible refine Kept.cut1 (P := P) (x := zz) ?_ ?_
            on_goal 2 => clear_value zz
            on_goal 1 => subst zz)
         | (have zn : Nat := zz
            clear zn
            subst zz)
         | clear_value zz
         | subst zz)
    | with_reducible exact KeptX.refuse _ _
    | with_reducible refine KeptX.apply ?_
    | with_reducible refine KeptX.counted ?_
    | with_reducible refine KeptX.accept (fun _ _ => ?_)
    | with_reducible apply State.resetHalf_kept
    | exact kd.mem (by decide)
    | exact kd.mem (pick_mem (by decide) (by decide))
    | exact kd.mono (by decide)
    | exact kn.mem _
    | with_reducible apply KeptX.ite
    | split
    | fail_if_no_progress with_reducible apply kk.rest

theorem State.clearPending_kept {P : State → Prop}  (kq : KeptQ P) {s : State} {p : Nat} (h_s : P s) :
    P (State.clearPending s p) := by
  unfold State.clearPending
  repeat' first
    | with_reducible assumption
    | with_reducible intro _
    | with_reducible apply State.dropKeys_kept
    | split
    | fail_if_no_progress with_reducible apply kk.rest

theorem State.actTileReset_kept {P : State → Prop} (kk : Kept P) (kt : KeptT P) (kd : KeptD P [0x4014, 0xF010]) (kq : KeptQ P) {s : State} {w : Word} (h_s : P s) :
    KeptX P (State.actTileReset s w) := by
  unfold State.actTileReset
  repeat' first
    | with_reducible assumption
    | with_reducible intro _
    | (extract_lets +onlyGivenNames zz
       first
         | (with_reducible refine Kept.cut (P := P) (x := zz) ?_ ?_
            on_goal 2 => clear_value zz
            on_goal 1 => subst zz)
         | (with_reducible refine Kept.cut1 (P := P) (x := zz) ?_ ?_
            on_goal 2 => clear_value zz
            on_goal 1 => subst zz)
         | (have zn : Nat := zz
            clear zn
            subst zz)
         | clear_value zz
         | subst zz)
    | with_reducible exact KeptX.refuse _ _
    | with_reducible refine KeptX.apply ?_
    | with_reducible refine KeptX.counted ?_
    | with_reducible refine KeptX.accept (fun _ _ => ?_)
    | with_reducible apply State.bump_kept
    | with_reducible apply State.clearPending_kept
    | with_reducible apply State.countGap_kept
    | with_reducible apply State.modTile_kept
    | with_reducible apply State.ringLevels_kept
    | exact kd.mem (by decide)
    | exact kd.mem (pick_mem (by decide) (by decide))
    | exact kd.mono (by decide)
    | with_reducible apply KeptX.ite
    | split
    | fail_if_no_progress with_reducible apply kk.rest

theorem execPlumbDue_kept {P : State → Prop} (kk : Kept P) (kt : KeptT P) (kd : KeptD P [0xF021]) {tile : Nat} {s : State} (h_s : P s) :
    KeptR P (execPlumbDue tile s) := by
  unfold execPlumbDue
  repeat' first
    | with_reducible assumption
    | with_reducible intro _
    | with_reducible refine KeptR.onPower ?_ (fun _ => ?_)
    | with_reducible refine KeptR.next ?_
    | with_reducible exact KeptR.fault _
    | with_reducible apply State.modTile_kept
    | with_reducible apply State.putAt_kept
    | exact kd.mem (by decide)
    | exact kd.mem (pick_mem (by decide) (by decide))
    | exact kd.mono (by decide)
    | split
    | fail_if_no_progress with_reducible apply kk.rest

theorem State.plumbEnds_kept {P : State → Prop}  (kd : KeptD P [0xF021]) {s : State} {p result : Nat} (h_s : P s) :
    P (State.plumbEnds s p result) := by
  unfold State.plumbEnds
  repeat' first
    | with_reducible assumption
    | with_reducible intro _
    | (extract_lets +onlyGivenNames zz
       first
         | (with_reducible refine Kept.cut (P := P) (x := zz) ?_ ?_
            on_goal 2 => clear_value zz
            on_goal 1 => subst zz)
         | (with_reducible refine Kept.cut1 (P := P) (x := zz) ?_ ?_
            on_goal 2 => clear_value zz
            on_goal 1 => subst zz)
         | (have zn : Nat := zz
            clear zn
            subst zz)
         | clear_value zz
         | subst zz)
    | with_reducible apply State.putAt_kept
    | exact kd.mem (by decide)
    | exact kd.mem (pick_mem (by decide) (by decide))
    | exact kd.mono (by decide)
    | split
    | fail_if_no_progress with_reducible apply kk.rest

theorem execPlumbCheck_kept {P : State → Prop} (kk : Kept P) (kc : KeptC P) (kt : KeptT P) (kb : KeptB P) (kd : KeptD P [0x0080, 0x2000, 0x2001, 0x2012, 0x4001, 0x4003, 0x4005, 0x4010, 0x4012, 0x4021, 0x5020, 0x7040, 0xF021, 0xF030]) {tile : Nat} {v1Fail v2Fail v3Fail : Bool} {s : State} (h_s : P s) :
    KeptR P (execPlumbCheck tile v1Fail v2Fail v3Fail s) := by
  unfold execPlumbCheck
  repeat' first
    | with_reducible assumption
    | with_reducible intro _
    | (extract_lets +onlyGivenNames zz
       first
         | (with_reducible refine Kept.cut (P := P) (x := zz) ?_ ?_
            on_goal 2 => clear_value zz
            on_goal 1 => subst zz)
         | (with_reducible refine Kept.cut1 (P := P) (x := zz) ?_ ?_
            on_goal 2 => clear_value zz
            on_goal 1 => subst zz)
         | (have zn : Nat := zz
            clear zn
            subst zz)
         | clear_value zz
         | subst zz)
    | with_reducible refine KeptR.onPower ?_ (fun _ => ?_)
    | with_reducible refine KeptR.next ?_
    | with_reducible exact KeptR.fault _
    | with_reducible apply State.bumpAt_kept
    | with_reducible apply State.log_kept
    | with_reducible apply State.markUnusable_kept
    | with_reducible apply State.monitor_kept
    | with_reducible apply State.plumbEnds_kept
    | with_reducible apply State.retireUnit_kept
    | exact kd.mem (by decide)
    | exact kd.mem (pick_mem (by decide) (by decide))
    | exact kd.mono (by decide)
    | split
    | fail_if_no_progress with_reducible apply kk.rest

theorem execPlumbRelocate_kept {P : State → Prop} (kk : Kept P) (kt : KeptT P) (kb : KeptB P) (kd : KeptD P [0x0080, 0x4001, 0x4003, 0x4010, 0x4012, 0x4021, 0x5020, 0x7040, 0xF021, 0xF030]) {tile : Nat} {s : State} (h_s : P s) :
    KeptR P (execPlumbRelocate tile s) := by
  unfold execPlumbRelocate
  repeat' first
    | with_reducible assumption
    | with_reducible intro _
    | (extract_lets +onlyGivenNames zz
       first
         | (with_reducible refine Kept.cut (P := P) (x := zz) ?_ ?_
            on_goal 2 => clear_value zz
            on_goal 1 => subst zz)
         | (with_reducible refine Kept.cut1 (P := P) (x := zz) ?_ ?_
            on_goal 2 => clear_value zz
            on_goal 1 => subst zz)
         | (have zn : Nat := zz
            clear zn
            subst zz)
         | clear_value zz
         | subst zz)
    | with_reducible refine KeptR.onPower ?_ (fun _ => ?_)
    | with_reducible refine KeptR.next ?_
    | with_reducible exact KeptR.fault _
    | with_reducible apply State.bumpAt_kept
    | with_reducible apply State.log_kept
    | with_reducible apply State.modTile_kept
    | with_reducible apply State.putAt_kept
    | with_reducible apply State.relocate_kept
    | exact kd.mem (by decide)
    | exact kd.mem (pick_mem (by decide) (by decide))
    | exact kd.mono (by decide)
    | split
    | fail_if_no_progress with_reducible apply kk.rest

end Sys2Proof.Machine
end

