-- ==== Sys2Proof/Laws/KeptHostPort.lean ====
section
/-! SUPPORT. What every definition of Machine/HostPort.lean keeps of a state: one lemma each (Laws/Kept.lean). -/

namespace Sys2Proof.Machine

open Sys2Proof

set_option linter.all false

theorem State.memWakes_kept {P : State → Prop} (kk : Kept P) (kg : KeptK P) (kd : KeptD P [0x1010]) (kn : KeptN P) {s : State} (h_s : P s) :
    P (State.memWakes s) := by
  unfold State.memWakes
  repeat' first
    | with_reducible assumption
    | with_reducible intro _
    | with_reducible apply State.wakeEvent_kept
    | with_reducible apply State.wakeNow_kept
    | exact kd.mem (by decide)
    | exact kd.mem (pick_mem (by decide) (by decide))
    | exact kd.mono (by decide)
    | exact kn.mem _
    | split
    | fail_if_no_progress with_reducible apply kk.rest

theorem State.poisonRead_kept {P : State → Prop} (kk : Kept P) (kd : KeptD P [0xA004]) {s : State} {h : HalfId} (h_s : P s) :
    P (State.poisonRead s h) := by
  unfold State.poisonRead
  repeat' first
    | with_reducible assumption
    | with_reducible intro _
    | with_reducible apply State.bump_kept
    | with_reducible apply State.emit_kept
    | exact kd.mem (by decide)
    | exact kd.mem (pick_mem (by decide) (by decide))
    | exact kd.mono (by decide)
    | split
    | fail_if_no_progress with_reducible apply kk.rest

theorem State.setDir_kept {P : State → Prop} (kk : Kept P) {s : State} {h : HalfId} {l : List Nat} (h_s : P s) :
    P (State.setDir s h l) := by
  unfold State.setDir
  repeat' first
    | with_reducible assumption
    | with_reducible intro _
    | split
    | fail_if_no_progress with_reducible apply kk.rest

theorem State.track_kept {P : State → Prop} (kk : Kept P) {s : State} {h : HalfId} {l : Nat} (h_s : P s) :
    P (State.track s h l) := by
  unfold State.track
  repeat' first
    | with_reducible assumption
    | with_reducible intro _
    | with_reducible apply State.setDir_kept
    | split
    | fail_if_no_progress with_reducible apply kk.rest

theorem State.lineRead_kept {P : State → Prop} (kk : Kept P) (kd : KeptD P [0xA004]) {s : State} {h : HalfId} {l : Nat} (h_s : P s) :
    P (State.lineRead s h l) := by
  unfold State.lineRead
  repeat' first
    | with_reducible assumption
    | with_reducible intro _
    | with_reducible apply State.emit_kept
    | with_reducible apply State.poisonRead_kept
    | with_reducible apply State.track_kept
    | exact kd.mem (by decide)
    | exact kd.mem (pick_mem (by decide) (by decide))
    | exact kd.mono (by decide)
    | split
    | fail_if_no_progress with_reducible apply kk.rest

theorem State.memRead_kept {P : State → Prop} (kk : Kept P) (kd : KeptD P [0xA004]) {s : State} {h : HalfId} {l : Nat} {session : Option Nat} {ide : Bool} (h_s : P s) :
    P (State.memRead s h l session ide) := by
  unfold State.memRead
  repeat' first
    | with_reducible assumption
    | with_reducible intro _
    | (extract_lets +onlyGivenNames zz
       first
         | (with_reducible refine Kept.cut (P := P) (x := zz) ?_ ?_
            on_goal 2 => clear_value zz
            on_goal 1 => subst zz)
         | (with_reducible refine Kept.cut1 (P := P) (x := zz) ?_ ?_
            on_goal 2 => clear_value zz
            on_goal 1 => subst zz)
         | (have zn : Nat := zz
            clear zn
            subst zz)
         | clear_value zz
         | subst zz)
    | with_reducible apply State.bump_kept
    | with_reducible apply State.emit_kept
    | with_reducible apply State.lineRead_kept
    | with_reducible apply State.poisonRead_kept
    | exact kd.mem (by decide)
    | exact kd.mem (pick_mem (by decide) (by decide))
    | exact kd.mono (by decide)
    | split
    | fail_if_no_progress with_reducible apply kk.rest

theorem execCxlMemRead_kept {P : State → Prop} (kk : Kept P) (kg : KeptK P) (kd : KeptD P [0x1010, 0xA004]) (kn : KeptN P) {h : HalfId} {offset : Nat} {session : Option Nat} {ide : Bool} {s : State} (h_s : P s) :
    KeptR P (execCxlMemRead h offset session ide s) := by
  unfold execCxlMemRead
  repeat' first
    | with_reducible assumption
    | with_reducible intro _
    | with_reducible refine KeptR.onPower ?_ (fun _ => ?_)
    | with_reducible refine KeptR.next ?_
    | with_reducible exact KeptR.fault _
    | with_reducible apply State.memRead_kept
    | with_reducible apply State.memWakes_kept
    | exact kd.mem (by decide)
    | exact kd.mem (pick_mem (by decide) (by decide))
    | exact kd.mono (by decide)
    | exact kn.mem _
    | split
    | fail_if_no_progress with_reducible apply kk.rest

theorem execCxlMemWrite_kept {P : State → Prop} (kk : Kept P) (km : KeptM P) (kg : KeptK P) (kd : KeptD P [0x1010, 0xA004]) (kn : KeptN P) {h : HalfId} {offset : Nat} {data : List Byte} {session : Option Nat} {ide : Bool} {s : State} (h_s : P s) :
    KeptR P (execCxlMemWrite h offset data session ide s) := by
  unfold execCxlMemWrite
  repeat' first
    | with_reducible assumption
    | with_reducible intro _
    | (extract_lets +onlyGivenNames zz
       first
         | (with_reducible refine Kept.cut (P := P) (x := zz) ?_ ?_
            on_goal 2 => clear_value zz
            on_goal 1 => subst zz)
         | (with_reducible refine Kept.cut1 (P := P) (x := zz) ?_ ?_
            on_goal 2 => clear_value zz
            on_goal 1 => subst zz)
         | (have zn : Nat := zz
            clear zn
            subst zz)
         | clear_value zz
         | subst zz)
    | with_reducible refine KeptR.onPower ?_ (fun _ => ?_)
    | with_reducible refine KeptR.next ?_
    | with_reducible exact KeptR.fault _
    | with_reducible apply State.bump_kept
    | with_reducible apply State.emit_kept
    | with_reducible apply State.hbmWrite_kept
    | with_reducible apply State.memWakes_kept
    | with_reducible apply State.unpoison_kept
    | exact kd.mem (by decide)
    | exact kd.mem (pick_mem (by decide) (by decide))
    | exact kd.mono (by decide)
    | exact kn.mem _
    | split
    | fail_if_no_progress with_reducible apply kk.rest

theorem State.reloadLine_kept {P : State → Prop} (kk : Kept P) (kc : KeptC P) {s : State} {n line : Nat} (h_s : P s) :
    P (State.reloadLine s n line) := by
  unfold State.reloadLine
  repeat' first
    | with_reducible assumption
    | with_reducible intro _
    | (extract_lets +onlyGivenNames zz
       first
         | (with_reducible refine Kept.cut (P := P) (x := zz) ?_ ?_
            on_goal 2 => clear_value zz
            on_goal 1 => subst zz)
         | (with_reducible refine Kept.cut1 (P := P) (x := zz) ?_ ?_
            on_goal 2 => clear_value zz
            on_goal 1 => subst zz)
         | (have zn : Nat := zz
            clear zn
            subst zz)
         | clear_value zz
         | subst zz)
    | with_reducible apply State.modCtx_kept
    | with_reducible refine Kept.foldl (fun _ _ _ => ?_) ?_
    | with_reducible refine Kept.foldl1 (fun _ _ _ => ?_) ?_
    | split
    | fail_if_no_progress with_reducible apply kk.rest

theorem State.snoopEnds_kept {P : State → Prop} (kk : Kept P) (km : KeptM P) (kc : KeptC P) (kv : KeptV P) (kd : KeptD P [0x3010, 0x3020, 0x3021, 0x3031, 0x3040, 0x3041, 0x4102, 0x4103, 0xA004]) (kn : KeptN P) {s : State} {x : Snoop} (h_s : P s) :
    P (State.snoopEnds s x) := by
  unfold State.snoopEnds
  repeat' first
    | with_reducible assumption
    | with_reducible intro _
    | (extract_lets +onlyGivenNames zz
       first
         | (with_reducible refine Kept.cut (P := P) (x := zz) ?_ ?_
            on_goal 2 => clear_value zz
            on_goal 1 => subst zz)
         | (with_reducible refine Kept.cut1 (P := P) (x := zz) ?_ ?_
            on_goal 2 => clear_value zz
            on_goal 1 => subst zz)
         | (have zn : Nat := zz
            clear zn
            subst zz)
         | clear_value zz
         | subst zz)
    | with_reducible apply State.memRead_kept
    | with_reducible apply State.reloadLine_kept
    | with_reducible apply State.rereadTables_kept
    | with_reducible apply State.tryStep_kept
    | exact kd.mem (by decide)
    | exact kd.mem (pick_mem (by decide) (by decide))
    | exact kd.mono (by decide)
    | exact kn.mem _
    | split
    | fail_if_no_progress with_reducible apply kk.rest

theorem execBirsp_kept {P : State → Prop} (kk : Kept P) (km : KeptM P) (kc : KeptC P) (kv : KeptV P) (kd : KeptD P [0x3010, 0x3020, 0x3021, 0x3031, 0x3040, 0x3041, 0x4102, 0x4103, 0xA004]) (kn : KeptN P) {h : HalfId} {line : Nat} {data : Option (List Byte)} {s : State} (h_s : P s) :
    KeptR P (execBirsp h line data s) := by
  unfold execBirsp
  repeat' first
    | with_reducible assumption
    | with_reducible intro _
    | (extract_lets +onlyGivenNames zz
       first
         | (with_reducible refine Kept.cut (P := P) (x := zz) ?_ ?_
            on_goal 2 => clear_value zz
            on_goal 1 => subst zz)
         | (with_reducible refine Kept.cut1 (P := P) (x := zz) ?_ ?_
            on_goal 2 => clear_value zz
            on_goal 1 => subst zz)
         | (have zn : Nat := zz
            clear zn
            subst zz)
         | clear_value zz
         | subst zz)
    | with_reducible refine KeptR.onPower ?_ (fun _ => ?_)
    | with_reducible refine KeptR.next ?_
    | with_reducible exact KeptR.fault _
    | with_reducible apply State.hbmWrite_kept
    | with_reducible apply State.setDir_kept
    | with_reducible apply State.snoopEnds_kept
    | with_reducible apply State.unpoison_kept
    | exact kd.mem (by decide)
    | exact kd.mem (pick_mem (by decide) (by decide))
    | exact kd.mono (by decide)
    | exact kn.mem _
    | with_reducible refine Kept.foldl (fun _ _ _ => ?_) ?_
    | with_reducible refine Kept.foldl1 (fun _ _ _ => ?_) ?_
    | split
    | fail_if_no_progress with_reducible apply kk.rest

theorem execBisnpTimeout_kept {P : State → Prop} (kk : Kept P) (kd : KeptD P [0xA004]) {h : HalfId} {line : Nat} {s : State} (h_s : P s) :
    KeptR P (execBisnpTimeout h line s) := by
  unfold execBisnpTimeout
  repeat' first
    | with_reducible assumption
    | with_reducible intro _
    | (extract_lets +onlyGivenNames zz
       first
         | (with_reducible refine Kept.cut (P := P) (x := zz) ?_ ?_
            on_goal 2 => clear_value zz
            on_goal 1 => subst zz)
         | (with_reducible refine Kept.cut1 (P := P) (x := zz) ?_ ?_
            on_goal 2 => clear_value zz
            on_goal 1 => subst zz)
         | (have zn : Nat := zz
            clear zn
            subst zz)
         | clear_value zz
         | subst zz)
    | with_reducible refine KeptR.onPower ?_ (fun _ => ?_)
    | with_reducible refine KeptR.next ?_
    | with_reducible exact KeptR.fault _
    | with_reducible apply State.bump_kept
    | exact kd.mem (by decide)
    | exact kd.mem (pick_mem (by decide) (by decide))
    | exact kd.mono (by decide)
    | split
    | fail_if_no_progress with_reducible apply kk.rest

theorem execBisnpFault_kept {P : State → Prop} (kk : Kept P) (kc : KeptC P) (kv : KeptV P) (kd : KeptD P [0x4021, 0x7040, 0xF030]) (kn : KeptN P) {h : HalfId} {line : Nat} {s : State} (h_s : P s) :
    KeptR P (execBisnpFault h line s) := by
  unfold execBisnpFault
  repeat' first
    | with_reducible assumption
    | with_reducible intro _
    | (extract_lets +onlyGivenNames zz
       first
         | (with_reducible refine Kept.cut (P := P) (x := zz) ?_ ?_
            on_goal 2 => clear_value zz
            on_goal 1 => subst zz)
         | (with_reducible refine Kept.cut1 (P := P) (x := zz) ?_ ?_
            on_goal 2 => clear_value zz
            on_goal 1 => subst zz)
         | (have zn : Nat := zz
            clear zn
            subst zz)
         | clear_value zz
         | subst zz)
    | with_reducible refine KeptR.onPower ?_ (fun _ => ?_)
    | with_reducible refine KeptR.next ?_
    | with_reducible exact KeptR.fault _
    | with_reducible apply State.enterFault_kept
    | with_reducible apply State.log_kept
    | exact kd.mem (by decide)
    | exact kd.mem (pick_mem (by decide) (by decide))
    | exact kd.mono (by decide)
    | exact kn.mem _
    | with_reducible refine Kept.foldl (fun _ _ _ => ?_) ?_
    | with_reducible refine Kept.foldl1 (fun _ _ _ => ?_) ?_
    | split
    | fail_if_no_progress with_reducible apply kk.rest

theorem execHdmDecoderCommit_kept {P : State → Prop} (kk : Kept P) {h : HalfId} {base ways : Nat} {s : State} (h_s : P s) :
    KeptR P (execHdmDecoderCommit h base ways s) := by
  unfold execHdmDecoderCommit
  repeat' first
    | with_reducible assumption
    | with_reducible intro _
    | (extract_lets +onlyGivenNames zz
       first
         | (with_reducible refine Kept.cut (P := P) (x := zz) ?_ ?_
            on_goal 2 => clear_value zz
            on_goal 1 => subst zz)
         | (with_reducible refine Kept.cut1 (P := P) (x := zz) ?_ ?_
            on_goal 2 => clear_value zz
            on_goal 1 => subst zz)
         | (have zn : Nat := zz
            clear zn
            subst zz)
         | clear_value zz
         | subst zz)
    | with_reducible refine KeptR.onPower ?_ (fun _ => ?_)
    | with_reducible refine KeptR.next ?_
    | with_reducible exact KeptR.fault _
    | with_reducible apply State.emit_kept
    | with_reducible apply State.setFn_kept
    | split
    | fail_if_no_progress with_reducible apply kk.rest

theorem execHostSnoop_kept {P : State → Prop} (kk : Kept P) {addr : Nat} {kind : SnoopKind} {s : State} (h_s : P s) :
    KeptR P (execHostSnoop addr kind s) := by
  unfold execHostSnoop
  repeat' first
    | with_reducible assumption
    | with_reducible intro _
    | (extract_lets +onlyGivenNames zz
       first
         | (with_reducible refine Kept.cut (P := P) (x := zz) ?_ ?_
            on_goal 2 => clear_value zz
            on_goal 1 => subst zz)
         | (with_reducible refine Kept.cut1 (P := P) (x := zz) ?_ ?_
            on_goal 2 => clear_value zz
            on_goal 1 => subst zz)
         | (have zn : Nat := zz
            clear zn
            subst zz)
         | clear_value zz
         | subst zz)
    | with_reducible refine KeptR.onPower ?_ (fun _ => ?_)
    | with_reducible refine KeptR.next ?_
    | with_reducible exact KeptR.fault _
    | with_reducible apply State.emit_kept
    | with_reducible apply State.request_kept
    | with_reducible refine Kept.foldl (fun _ _ _ => ?_) ?_
    | with_reducible refine Kept.foldl1 (fun _ _ _ => ?_) ?_
    | split
    | fail_if_no_progress with_reducible apply kk.rest

theorem State.writeBack_kept {P : State → Prop} (kk : Kept P) (kd : KeptD P [0xA003]) {s : State} {h : HalfId} (h_s : P s) :
    P (State.writeBack s h) := by
  unfold State.writeBack
  repeat' first
    | with_reducible assumption
    | with_reducible intro _
    | (extract_lets +onlyGivenNames zz
       first
         | (with_reducible refine Kept.cut (P := P) (x := zz) ?_ ?_
            on_goal 2 => clear_value zz
            on_goal 1 => subst zz)
         | (with_reducible refine Kept.cut1 (P := P) (x := zz) ?_ ?_
            on_goal 2 => clear_value zz
            on_goal 1 => subst zz)
         | (have zn : Nat := zz
            clear zn
            subst zz)
         | clear_value zz
         | subst zz)
    | with_reducible apply State.add64_kept
    | with_reducible apply State.d2hDrain_kept
    | with_reducible apply State.emit_kept
    | exact kd.mem (by decide)
    | exact kd.mem (pick_mem (by decide) (by decide))
    | exact kd.mono (by decide)
    | with_reducible refine Kept.foldl (fun _ _ _ => ?_) ?_
    | with_reducible refine Kept.foldl1 (fun _ _ _ => ?_) ?_
    | split
    | fail_if_no_progress with_reducible apply kk.rest

theorem State.actPartition_kept {P : State → Prop} (kk : Kept P) (kd : KeptD P [0xA003]) {s : State} {w : Word} (h_s : P s) :
    KeptX P (State.actPartition s w) := by
  unfold State.actPartition
  repeat' first
    | with_reducible assumption
    | with_reducible intro _
    | (extract_lets +onlyGivenNames zz
       first
         | (with_reducible refine Kept.cut (P := P) (x := zz) ?_ ?_
            on_goal 2 => clear_value zz
            on_goal 1 => subst zz)
         | (with_reducible refine Kept.cut1 (P := P) (x := zz) ?_ ?_
            on_goal 2 => clear_value zz
            on_goal 1 => subst zz)
         | (have zn : Nat := zz
            clear zn
            subst zz)
         | clear_value zz
         | subst zz)
    | with_reducible exact KeptX.refuse _ _
    | with_reducible refine KeptX.apply ?_
    | with_reducible refine KeptX.counted ?_
    | with_reducible refine KeptX.accept (fun _ _ => ?_)
    | with_reducible apply State.put_kept
    | with_reducible apply State.writeBack_kept
    | exact kd.mem (by decide)
    | exact kd.mem (pick_mem (by decide) (by decide))
    | exact kd.mono (by decide)
    | with_reducible apply KeptX.ite
    | split
    | fail_if_no_progress with_reducible apply kk.rest

theorem State.bindHold_kept {P : State → Prop} (kk : Kept P) (kc : KeptC P) (kv : KeptV P) (kn : KeptN P) {s : State} {n b : Nat} (h_s : P s) :
    P (State.bindHold s n b) := by
  unfold State.bindHold
  repeat' first
    | with_reducible assumption
    | with_reducible intro _
    | (extract_lets +onlyGivenNames zz
       first
         | (with_reducible refine Kept.cut (P := P) (x := zz) ?_ ?_
            on_goal 2 => clear_value zz
            on_goal 1 => subst zz)
         | (with_reducible refine Kept.cut1 (P := P) (x := zz) ?_ ?_
            on_goal 2 => clear_value zz
            on_goal 1 => subst zz)
         | (have zn : Nat := zz
            clear zn
            subst zz)
         | clear_value zz
         | subst zz)
    | with_reducible apply State.holdCompanions_kept
    | with_reducible apply State.reasonHold_kept
    | exact kn.mem _
    | split
    | fail_if_no_progress with_reducible apply kk.rest

theorem State.showIde_kept {P : State → Prop}  (kd : KeptD P [0xA002]) {s : State} (h_s : P s) :
    P (State.showIde s) := by
  unfold State.showIde
  repeat' first
    | with_reducible assumption
    | with_reducible intro _
    | with_reducible apply State.put_kept
    | exact kd.mem (by decide)
    | exact kd.mem (pick_mem (by decide) (by decide))
    | exact kd.mono (by decide)
    | split
    | fail_if_no_progress with_reducible apply kk.rest

theorem execIdeKeyProgram_kept {P : State → Prop} (kk : Kept P) {via : Via} {stream : IdeStream} {s : State} (h_s : P s) :
    KeptR P (execIdeKeyProgram via stream s) := by
  unfold execIdeKeyProgram
  repeat' first
    | with_reducible assumption
    | with_reducible intro _
    | with_reducible refine KeptR.onPower ?_ (fun _ => ?_)
    | with_reducible refine KeptR.next ?_
    | with_reducible exact KeptR.fault _
    | with_reducible apply State.answer_kept
    | split
    | fail_if_no_progress with_reducible apply kk.rest

theorem execIdeKeyRefresh_kept {P : State → Prop} (kk : Kept P) (kd : KeptD P [0xA002]) {s : State} (h_s : P s) :
    KeptR P (execIdeKeyRefresh s) := by
  unfold execIdeKeyRefresh
  repeat' first
    | with_reducible assumption
    | with_reducible intro _
    | (extract_lets +onlyGivenNames zz
       first
         | (with_reducible refine Kept.cut (P := P) (x := zz) ?_ ?_
            on_goal 2 => clear_value zz
            on_goal 1 => subst zz)
         | (with_reducible refine Kept.cut1 (P := P) (x := zz) ?_ ?_
            on_goal 2 => clear_value zz
            on_goal 1 => subst zz)
         | (have zn : Nat := zz
            clear zn
            subst zz)
         | clear_value zz
         | subst zz)
    | with_reducible refine KeptR.onPower ?_ (fun _ => ?_)
    | with_reducible refine KeptR.next ?_
    | with_reducible exact KeptR.fault _
    | with_reducible apply State.showIde_kept
    | exact kd.mem (by decide)
    | exact kd.mem (pick_mem (by decide) (by decide))
    | exact kd.mono (by decide)
    | split
    | fail_if_no_progress with_reducible apply kk.rest

theorem execIdeIntegrityFailure_kept {P : State → Prop} (kk : Kept P) (kc : KeptC P) (kv : KeptV P) (kd : KeptD P [0x7040, 0xA002, 0xF030]) (kn : KeptN P) {stream : IdeStream} {s : State} (h_s : P s) :
    KeptR P (execIdeIntegrityFailure stream s) := by
  unfold execIdeIntegrityFailure
  repeat' first
    | with_reducible assumption
    | with_reducible intro _
    | (extract_lets +onlyGivenNames zz
       first
         | (with_reducible refine Kept.cut (P := P) (x := zz) ?_ ?_
            on_goal 2 => clear_value zz
            on_goal 1 => subst zz)
         | (with_reducible refine Kept.cut1 (P := P) (x := zz) ?_ ?_
            on_goal 2 => clear_value zz
            on_goal 1 => subst zz)
         | (have zn : Nat := zz
            clear zn
            subst zz)
         | clear_value zz
         | subst zz)
    | with_reducible refine KeptR.onPower ?_ (fun _ => ?_)
    | with_reducible refine KeptR.next ?_
    | with_reducible exact KeptR.fault _
    | with_reducible apply State.bindHold_kept
    | with_reducible apply State.bump_kept
    | with_reducible apply State.log_kept
    | with_reducible apply State.showIde_kept
    | exact kd.mem (by decide)
    | exact kd.mem (pick_mem (by decide) (by decide))
    | exact kd.mono (by decide)
    | exact kn.mem _
    | with_reducible refine Kept.foldl (fun _ _ _ => ?_) ?_
    | with_reducible refine Kept.foldl1 (fun _ _ _ => ?_) ?_
    | split
    | fail_if_no_progress with_reducible apply kk.rest

theorem State.tspHold_kept {P : State → Prop} (kk : Kept P) (kc : KeptC P) (kv : KeptV P) (kn : KeptN P) {s : State} {h : HalfId} (h_s : P s) :
    P (State.tspHold s h) := by
  unfold State.tspHold
  repeat' first
    | with_reducible assumption
    | with_reducible intro _
    | with_reducible apply State.bindHold_kept
    | exact kn.mem _
    | with_reducible refine Kept.foldl (fun _ _ _ => ?_) ?_
    | with_reducible refine Kept.foldl1 (fun _ _ _ => ?_) ?_
    | split
    | fail_if_no_progress with_reducible apply kk.rest

theorem execTspError_kept {P : State → Prop} (kk : Kept P) (kc : KeptC P) (kv : KeptV P) (kn : KeptN P) {h : HalfId} {s : State} (h_s : P s) :
    KeptR P (execTspError h s) := by
  unfold execTspError
  repeat' first
    | with_reducible assumption
    | with_reducible intro _
    | with_reducible refine KeptR.onPower ?_ (fun _ => ?_)
    | with_reducible refine KeptR.next ?_
    | with_reducible exact KeptR.fault _
    | with_reducible apply State.tspHold_kept
    | exact kn.mem _
    | split
    | fail_if_no_progress with_reducible apply kk.rest

theorem execTspRequest_kept {P : State → Prop} (kk : Kept P) (ks : KeptS P) {id : Nat} {fn : Fn} {lock : Option Bool} {s : State} (h_s : P s) :
    KeptR P (execTspRequest id fn lock s) := by
  unfold execTspRequest
  repeat' first
    | with_reducible assumption
    | with_reducible intro _
    | (extract_lets +onlyGivenNames zz
       first
         | (with_reducible refine Kept.cut (P := P) (x := zz) ?_ ?_
            on_goal 2 => clear_value zz
            on_goal 1 => subst zz)
         | (with_reducible refine Kept.cut1 (P := P) (x := zz) ?_ ?_
            on_goal 2 => clear_value zz
            on_goal 1 => subst zz)
         | (have zn : Nat := zz
            clear zn
            subst zz)
         | clear_value zz
         | subst zz)
    | with_reducible refine KeptR.onPower ?_ (fun _ => ?_)
    | with_reducible refine KeptR.next ?_
    | with_reducible exact KeptR.fault _
    | with_reducible apply Kept.ident
    | with_reducible apply State.emit_kept
    | with_reducible apply State.setFn_kept
    | split
    | fail_if_no_progress with_reducible apply kk.rest
    | fail_if_no_progress (with_reducible apply ks.sec; with_reducible apply kk.rest)

theorem State.dropGathered_kept {P : State → Prop} (kk : Kept P) (ks : KeptS P) (kg : KeptK P) (kq : KeptQ P) {s : State} (h_s : P s) :
    P (State.dropGathered s) := by
  unfold State.dropGathered
  repeat' first
    | with_reducible assumption
    | with_reducible intro _
    | (extract_lets +onlyGivenNames zz
       first
         | (with_reducible refine Kept.cut (P := P) (x := zz) ?_ ?_
            on_goal 2 => clear_value zz
            on_goal 1 => subst zz)
         | (with_reducible refine Kept.cut1 (P := P) (x := zz) ?_ ?_
            on_goal 2 => clear_value zz
            on_goal 1 => subst zz)
         | (have zn : Nat := zz
            clear zn
            subst zz)
         | clear_value zz
         | subst zz)
    | with_reducible apply State.dropKeys_kept
    | split
    | fail_if_no_progress with_reducible apply kk.rest
    | fail_if_no_progress (with_reducible apply ks.sec; with_reducible apply kk.rest)
    | fail_if_no_progress (with_reducible apply kg.key; with_reducible apply kk.rest)
    | fail_if_no_progress (with_reducible apply ks.sec; with_reducible apply kg.key; with_reducible apply kk.rest)

theorem State.abortPaths_kept {P : State → Prop} (kk : Kept P) (kv : KeptV P) {s : State} {p : Path → Bool} (h_s : P s) :
    P (State.abortPaths s p) := by
  unfold State.abortPaths
  repeat' first
    | with_reducible assumption
    | with_reducible intro _
    | split
    | fail_if_no_progress with_reducible apply kk.rest
    | fail_if_no_progress (with_reducible apply kv.svc; with_reducible apply kk.rest)

theorem State.resetWakes_kept {P : State → Prop} (kk : Kept P) (kg : KeptK P) (kd : KeptD P [0x1010]) (kn : KeptN P) {s : State} (h_s : P s) :
    P (State.resetWakes s) := by
  unfold State.resetWakes
  repeat' first
    | with_reducible assumption
    | with_reducible intro _
    | with_reducible apply State.memWakes_kept
    | exact kd.mem (by decide)
    | exact kd.mem (pick_mem (by decide) (by decide))
    | exact kd.mono (by decide)
    | exact kn.mem _
    | split
    | fail_if_no_progress with_reducible apply kk.rest

theorem State.trainLink_kept {P : State → Prop}  (kd : KeptD P [0xA001]) {s : State} {l : LinkTrain} (h_s : P s) :
    P (State.trainLink s l) := by
  unfold State.trainLink
  repeat' first
    | with_reducible assumption
    | with_reducible intro _
    | with_reducible apply State.put_kept
    | exact kd.mem (by decide)
    | exact kd.mem (pick_mem (by decide) (by decide))
    | exact kd.mono (by decide)
    | split
    | fail_if_no_progress with_reducible apply kk.rest

theorem State.hostReset_kept {P : State → Prop} (kk : Kept P) (kc : KeptC P) (ks : KeptS P) (kg : KeptK P) (kv : KeptV P) (kd : KeptD P [0x1010, 0xA001, 0xA002, 0xA003]) (kn : KeptN P) (kq : KeptQ P) {s : State} {link : LinkTrain} (h_s : P s) :
    P (State.hostReset s link) := by
  unfold State.hostReset
  repeat' first
    | with_reducible assumption
    | with_reducible intro _
    | (extract_lets +onlyGivenNames zz
       first
         | (with_reducible refine Kept.cut (P := P) (x := zz) ?_ ?_
            on_goal 2 => clear_value zz
            on_goal 1 => subst zz)
         | (with_reducible refine Kept.cut1 (P := P) (x := zz) ?_ ?_
            on_goal 2 => clear_value zz
            on_goal 1 => subst zz)
         | (have zn : Nat := zz
            clear zn
            subst zz)
         | clear_value zz
         | subst zz)
    | with_reducible apply State.abortPaths_kept
    | with_reducible apply State.bump_kept
    | with_reducible apply State.dropGathered_kept
    | with_reducible apply State.flushCache_kept
    | with_reducible apply State.resetWakes_kept
    | with_reducible apply State.setFn_kept
    | with_reducible apply State.showIde_kept
    | with_reducible apply State.trainLink_kept
    | with_reducible apply State.tspHold_kept
    | exact kd.mem (by decide)
    | exact kd.mem (pick_mem (by decide) (by decide))
    | exact kd.mono (by decide)
    | exact kn.mem _
    | split
    | fail_if_no_progress with_reducible apply kk.rest

theorem execHostReset_kept {P : State → Prop} (kk : Kept P) (kc : KeptC P) (ks : KeptS P) (kg : KeptK P) (kv : KeptV P) (kd : KeptD P [0x1010, 0xA001, 0xA002, 0xA003]) (kn : KeptN P) (kq : KeptQ P) {kind : HostResetKind} {link : LinkTrain} {s : State} (h_s : P s) :
    KeptR P (execHostReset kind link s) := by
  unfold execHostReset
  repeat' first
    | with_reducible assumption
    | with_reducible intro _
    | with_reducible refine KeptR.onPower ?_ (fun _ => ?_)
    | with_reducible refine KeptR.next ?_
    | with_reducible exact KeptR.fault _
    | with_reducible apply State.hostReset_kept
    | with_reducible apply State.put_kept
    | exact kd.mem (by decide)
    | exact kd.mem (pick_mem (by decide) (by decide))
    | exact kd.mono (by decide)
    | exact kn.mem _
    | split
    | fail_if_no_progress with_reducible apply kk.rest
    | fail_if_no_progress (with_reducible apply kg.key; with_reducible apply kk.rest)

theorem State.memoryClear_kept {P : State → Prop} (kk : Kept P) (km : KeptM P) (kc : KeptC P) (kt : KeptT P) (kh : KeptH P) (kv : KeptV P) (kb : KeptB P) (kd : KeptD P [0x0080, 0x4001, 0x4003, 0x4010, 0x4012, 0x4014, 0x4021, 0x5020, 0x6010, 0x7040, 0x9030, 0x9031, 0x9060, 0xF021, 0xF030]) (kn : KeptN P) (kq : KeptQ P) {s : State} (h_s : P s) :
    P (State.memoryClear s) := by
  unfold State.memoryClear
  repeat' first
    | with_reducible assumption
    | with_reducible intro _
    | with_reducible apply State.resetContexts_kept
    | with_reducible apply State.unpoison_kept
    | with_reducible apply km.clear
    | with_reducible apply km.drop
    | exact kd.mem (by decide)
    | exact kd.mem (pick_mem (by decide) (by decide))
    | exact kd.mono (by decide)
    | exact kn.mem _
    | with_reducible refine Kept.foldl (fun _ _ _ => ?_) ?_
    | with_reducible refine Kept.foldl1 (fun _ _ _ => ?_) ?_
    | split
    | fail_if_no_progress with_reducible apply kk.rest

theorem execCxlReset_kept {P : State → Prop} (kk : Kept P) (km : KeptM P) (kc : KeptC P) (kt : KeptT P) (ks : KeptS P) (kg : KeptK P) (kh : KeptH P) (kv : KeptV P) (kb : KeptB P) (kd : KeptD P [0x0080, 0x1010, 0x4001, 0x4003, 0x4010, 0x4012, 0x4014, 0x4021, 0x5020, 0x6010, 0x7040, 0x9030, 0x9031, 0x9060, 0xA003, 0xF021, 0xF030]) (kn : KeptN P) (kq : KeptQ P) {memClear : Bool} {s : State} (h_s : P s) :
    KeptR P (execCxlReset memClear s) := by
  unfold execCxlReset
  repeat' first
    | with_reducible assumption
    | with_reducible intro _
    | (extract_lets +onlyGivenNames zz
       first
         | (with_reducible refine Kept.cut (P := P) (x := zz) ?_ ?_
            on_goal 2 => clear_value zz
            on_goal 1 => subst zz)
         | (with_reducible refine Kept.cut1 (P := P) (x := zz) ?_ ?_
            on_goal 2 => clear_value zz
            on_goal 1 => subst zz)
         | (have zn : Nat := zz
            clear zn
            subst zz)
         | clear_value zz
         | subst zz)
    | with_reducible refine KeptR.onPower ?_ (fun _ => ?_)
    | with_reducible refine KeptR.next ?_
    | with_reducible exact KeptR.fault _
    | with_reducible apply State.dropGathered_kept
    | with_reducible apply State.flushCache_kept
    | with_reducible apply State.memoryClear_kept
    | with_reducible apply State.resetWakes_kept
    | with_reducible apply State.setFn_kept
    | with_reducible apply State.tspHold_kept
    | exact kd.mem (by decide)
    | exact kd.mem (pick_mem (by decide) (by decide))
    | exact kd.mono (by decide)
    | exact kn.mem _
    | split
    | fail_if_no_progress with_reducible apply kk.rest

theorem State.functionReset_kept {P : State → Prop} (kk : Kept P) (kc : KeptC P) (kg : KeptK P) (kv : KeptV P) (kd : KeptD P [0x1010, 0xA003]) (kn : KeptN P) (kq : KeptQ P) {s : State} {f : Fn} (h_s : P s) :
    P (State.functionReset s f) := by
  unfold State.functionReset
  repeat' first
    | with_reducible assumption
    | with_reducible intro _
    | (extract_lets +onlyGivenNames zz
       first
         | (with_reducible refine Kept.cut (P := P) (x := zz) ?_ ?_
            on_goal 2 => clear_value zz
            on_goal 1 => subst zz)
         | (with_reducible refine Kept.cut1 (P := P) (x := zz) ?_ ?_
            on_goal 2 => clear_value zz
            on_goal 1 => subst zz)
         | (have zn : Nat := zz
            clear zn
            subst zz)
         | clear_value zz
         | subst zz)
    | with_reducible apply State.abortPaths_kept
    | with_reducible apply State.dropKeys_kept
    | with_reducible apply State.emit_kept
    | with_reducible apply State.resetWakes_kept
    | with_reducible apply State.setFn_kept
    | with_reducible apply State.tspHold_kept
    | with_reducible apply State.writeBack_kept
    | exact kd.mem (by decide)
    | exact kd.mem (pick_mem (by decide) (by decide))
    | exact kd.mono (by decide)
    | exact kn.mem _
    | split
    | fail_if_no_progress with_reducible apply kk.rest

theorem execFunctionLevelReset_kept {P : State → Prop} (kk : Kept P) (kc : KeptC P) (kg : KeptK P) (kv : KeptV P) (kd : KeptD P [0x1010, 0xA003]) (kn : KeptN P) (kq : KeptQ P) {fn : Fn} {fromD3 : Bool} {s : State} (h_s : P s) :
    KeptR P (execFunctionLevelReset fn fromD3 s) := by
  unfold execFunctionLevelReset
  repeat' first
    | with_reducible assumption
    | with_reducible intro _
    | with_reducible refine KeptR.onPower ?_ (fun _ => ?_)
    | with_reducible refine KeptR.next ?_
    | with_reducible exact KeptR.fault _
    | with_reducible apply State.functionReset_kept
    | exact kd.mem (by decide)
    | exact kd.mem (pick_mem (by decide) (by decide))
    | exact kd.mono (by decide)
    | exact kn.mem _
    | split
    | fail_if_no_progress with_reducible apply kk.rest

theorem execShadowRead_kept {P : State → Prop} (kk : Kept P) {offset width : Nat} {s : State} (h_s : P s) :
    KeptR P (execShadowRead offset width s) := by
  unfold execShadowRead
  repeat' first
    | with_reducible assumption
    | with_reducible intro _
    | (extract_lets +onlyGivenNames zz
       first
         | (with_reducible refine Kept.cut (P := P) (x := zz) ?_ ?_
            on_goal 2 => clear_value zz
            on_goal 1 => subst zz)
         | (with_reducible refine Kept.cut1 (P := P) (x := zz) ?_ ?_
            on_goal 2 => clear_value zz
            on_goal 1 => subst zz)
         | (have zn : Nat := zz
            clear zn
            subst zz)
         | clear_value zz
         | subst zz)
    | with_reducible refine KeptR.onPower ?_ (fun _ => ?_)
    | with_reducible refine KeptR.next ?_
    | with_reducible exact KeptR.fault _
    | with_reducible apply State.emit_kept
    | split
    | fail_if_no_progress with_reducible apply kk.rest

theorem execShadowWrite_kept {P : State → Prop}  (kd : KeptD P [0xA004]) {_offset _width : Nat} {_value : BitVec 64} {s : State} (h_s : P s) :
    KeptR P (execShadowWrite _offset _width _value s) := by
  unfold execShadowWrite
  repeat' first
    | with_reducible assumption
    | with_reducible intro _
    | with_reducible refine KeptR.onPower ?_ (fun _ => ?_)
    | with_reducible refine KeptR.next ?_
    | with_reducible exact KeptR.fault _
    | with_reducible apply State.bump_kept
    | exact kd.mem (by decide)
    | exact kd.mem (pick_mem (by decide) (by decide))
    | exact kd.mono (by decide)
    | split
    | fail_if_no_progress with_reducible apply kk.rest

theorem execShadowUpdate_kept {P : State → Prop} (kk : Kept P) {offset : Nat} {s : State} (h_s : P s) :
    KeptR P (execShadowUpdate offset s) := by
  unfold execShadowUpdate
  repeat' first
    | with_reducible assumption
    | with_reducible intro _
    | (extract_lets +onlyGivenNames zz
       first
         | (with_reducible refine Kept.cut (P := P) (x := zz) ?_ ?_
            on_goal 2 => clear_value zz
            on_goal 1 => subst zz)
         | (with_reducible refine Kept.cut1 (P := P) (x := zz) ?_ ?_
            on_goal 2 => clear_value zz
            on_goal 1 => subst zz)
         | (have zn : Nat := zz
            clear zn
            subst zz)
         | clear_value zz
         | subst zz)
    | with_reducible refine KeptR.onPower ?_ (fun _ => ?_)
    | with_reducible refine KeptR.next ?_
    | with_reducible exact KeptR.fault _
    | with_reducible apply State.signal_kept
    | split
    | fail_if_no_progress with_reducible apply kk.rest

theorem State.blockWrite_kept {P : State → Prop} (kk : Kept P) {s : State} {f : Fn} {bar offset : Nat} {v : Word} (h_s : P s) :
    P (State.blockWrite s f bar offset v) := by
  unfold State.blockWrite
  repeat' first
    | with_reducible assumption
    | with_reducible intro _
    | (extract_lets +onlyGivenNames zz
       first
         | (with_reducible refine Kept.cut (P := P) (x := zz) ?_ ?_
            on_goal 2 => clear_value zz
            on_goal 1 => subst zz)
         | (with_reducible refine Kept.cut1 (P := P) (x := zz) ?_ ?_
            on_goal 2 => clear_value zz
            on_goal 1 => subst zz)
         | (have zn : Nat := zz
            clear zn
            subst zz)
         | clear_value zz
         | subst zz)
    | with_reducible apply State.setFn_kept
    | split
    | fail_if_no_progress with_reducible apply kk.rest

theorem State.cfgWrite_kept {P : State → Prop} (kk : Kept P) {s : State} {f : Fn} {register : Nat} {v : Word} (h_s : P s) :
    P (State.cfgWrite s f register v) := by
  unfold State.cfgWrite
  repeat' first
    | with_reducible assumption
    | with_reducible intro _
    | (extract_lets +onlyGivenNames zz
       first
         | (with_reducible refine Kept.cut (P := P) (x := zz) ?_ ?_
            on_goal 2 => clear_value zz
            on_goal 1 => subst zz)
         | (with_reducible refine Kept.cut1 (P := P) (x := zz) ?_ ?_
            on_goal 2 => clear_value zz
            on_goal 1 => subst zz)
         | (have zn : Nat := zz
            clear zn
            subst zz)
         | clear_value zz
         | subst zz)
    | with_reducible apply State.setFn_kept
    | split
    | fail_if_no_progress with_reducible apply kk.rest

theorem State.cfgServe_kept {P : State → Prop} (kk : Kept P) (kc : KeptC P) (kg : KeptK P) (kv : KeptV P) (kd : KeptD P [0x1010, 0xA003, 0xA004]) (kn : KeptN P) (kq : KeptQ P) {s : State} {f : Fn} {register : Nat} {kind : CfgKind} (h_s : P s) :
    P (State.cfgServe s f register kind) := by
  unfold State.cfgServe
  repeat' first
    | with_reducible assumption
    | with_reducible intro _
    | (extract_lets +onlyGivenNames zz
       first
         | (with_reducible refine Kept.cut (P := P) (x := zz) ?_ ?_
            on_goal 2 => clear_value zz
            on_goal 1 => subst zz)
         | (with_reducible refine Kept.cut1 (P := P) (x := zz) ?_ ?_
            on_goal 2 => clear_value zz
            on_goal 1 => subst zz)
         | (have zn : Nat := zz
            clear zn
            subst zz)
         | clear_value zz
         | subst zz)
    | with_reducible apply State.blockWrite_kept
    | with_reducible apply State.bump_kept
    | with_reducible apply State.cfgWrite_kept
    | with_reducible apply State.emit_kept
    | with_reducible apply State.functionReset_kept
    | with_reducible apply State.setFn_kept
    | exact kd.mem (by decide)
    | exact kd.mem (pick_mem (by decide) (by decide))
    | exact kd.mono (by decide)
    | exact kn.mem _
    | split
    | fail_if_no_progress with_reducible apply kk.rest

theorem execConfigurationRequest_kept {P : State → Prop} (kk : Kept P) (kc : KeptC P) (kg : KeptK P) (kv : KeptV P) (kd : KeptD P [0x1010, 0xA003, 0xA004]) (kn : KeptN P) (kq : KeptQ P) {fn : Fn} {register : Nat} {kind : CfgKind} {s : State} (h_s : P s) :
    KeptR P (execConfigurationRequest fn register kind s) := by
  unfold execConfigurationRequest
  repeat' first
    | with_reducible assumption
    | with_reducible intro _
    | with_reducible refine KeptR.onPower ?_ (fun _ => ?_)
    | with_reducible refine KeptR.next ?_
    | with_reducible exact KeptR.fault _
    | with_reducible apply State.cfgServe_kept
    | with_reducible apply State.emit_kept
    | exact kd.mem (by decide)
    | exact kd.mem (pick_mem (by decide) (by decide))
    | exact kd.mono (by decide)
    | exact kn.mem _
    | split
    | fail_if_no_progress with_reducible apply kk.rest

theorem execVectorSignal_kept {P : State → Prop} (kk : Kept P) {fn : Fn} {vector : Nat} {s : State} (h_s : P s) :
    KeptR P (execVectorSignal fn vector s) := by
  unfold execVectorSignal
  repeat' first
    | with_reducible assumption
    | with_reducible intro _
    | with_reducible refine KeptR.onPower ?_ (fun _ => ?_)
    | with_reducible refine KeptR.next ?_
    | with_reducible exact KeptR.fault _
    | with_reducible apply State.emit_kept
    | split
    | fail_if_no_progress with_reducible apply kk.rest

theorem execEntdaa_kept {P : State → Prop} (kk : Kept P) (kv : KeptV P) {addr : Nat} {s : State} (h_s : P s) :
    KeptR P (execEntdaa addr s) := by
  unfold execEntdaa
  repeat' first
    | with_reducible assumption
    | with_reducible intro _
    | with_reducible refine KeptR.onPower ?_ (fun _ => ?_)
    | with_reducible refine KeptR.next ?_
    | with_reducible exact KeptR.fault _
    | split
    | fail_if_no_progress with_reducible apply kk.rest
    | fail_if_no_progress (with_reducible apply kv.svc; with_reducible apply kk.rest)

theorem State.mctp_kept {P : State → Prop} (kk : Kept P) {s : State} {kind : Nat} {values : List Nat} {f : State → State} (h_s : P s) (h_f : ∀ s, P s → P (f s)) :
    P (State.mctp s kind values f) := by
  unfold State.mctp
  repeat' first
    | with_reducible assumption
    | with_reducible intro _
    | with_reducible apply h_f
    | with_reducible apply State.emit_kept
    | split
    | fail_if_no_progress with_reducible apply kk.rest

theorem execSetEndpointId_kept {P : State → Prop} (kk : Kept P) (kv : KeptV P) {eid : Nat} {s : State} (h_s : P s) :
    KeptR P (execSetEndpointId eid s) := by
  unfold execSetEndpointId
  repeat' first
    | with_reducible assumption
    | with_reducible intro _
    | with_reducible refine KeptR.onPower ?_ (fun _ => ?_)
    | with_reducible refine KeptR.next ?_
    | with_reducible exact KeptR.fault _
    | with_reducible apply State.mctp_kept
    | split
    | fail_if_no_progress with_reducible apply kk.rest
    | fail_if_no_progress (with_reducible apply kv.svc; with_reducible apply kk.rest)

theorem execGetEndpointId_kept {P : State → Prop} (kk : Kept P) {s : State} (h_s : P s) :
    KeptR P (execGetEndpointId s) := by
  unfold execGetEndpointId
  repeat' first
    | with_reducible assumption
    | with_reducible intro _
    | with_reducible refine KeptR.onPower ?_ (fun _ => ?_)
    | with_reducible refine KeptR.next ?_
    | with_reducible exact KeptR.fault _
    | with_reducible apply Kept.ident
    | with_reducible apply State.mctp_kept
    | split
    | fail_if_no_progress with_reducible apply kk.rest

theorem execGetMctpVersionSupport_kept {P : State → Prop} (kk : Kept P) {s : State} (h_s : P s) :
    KeptR P (execGetMctpVersionSupport s) := by
  unfold execGetMctpVersionSupport
  repeat' first
    | with_reducible assumption
    | with_reducible intro _
    | with_reducible refine KeptR.onPower ?_ (fun _ => ?_)
    | with_reducible refine KeptR.next ?_
    | with_reducible exact KeptR.fault _
    | with_reducible apply Kept.ident
    | with_reducible apply State.mctp_kept
    | split
    | fail_if_no_progress with_reducible apply kk.rest

theorem execGetMessageTypeSupport_kept {P : State → Prop} (kk : Kept P) {s : State} (h_s : P s) :
    KeptR P (execGetMessageTypeSupport s) := by
  unfold execGetMessageTypeSupport
  repeat' first
    | with_reducible assumption
    | with_reducible intro _
    | with_reducible refine KeptR.onPower ?_ (fun _ => ?_)
    | with_reducible refine KeptR.next ?_
    | with_reducible exact KeptR.fault _
    | with_reducible apply Kept.ident
    | with_reducible apply State.mctp_kept
    | split
    | fail_if_no_progress with_reducible apply kk.rest

theorem execGetVendorDefinedMessageSupport_kept {P : State → Prop} (kk : Kept P) {s : State} (h_s : P s) :
    KeptR P (execGetVendorDefinedMessageSupport s) := by
  unfold execGetVendorDefinedMessageSupport
  repeat' first
    | with_reducible assumption
    | with_reducible intro _
    | with_reducible refine KeptR.onPower ?_ (fun _ => ?_)
    | with_reducible refine KeptR.next ?_
    | with_reducible exact KeptR.fault _
    | with_reducible apply Kept.ident
    | with_reducible apply State.mctp_kept
    | split
    | fail_if_no_progress with_reducible apply kk.rest

end Sys2Proof.Machine
end

