-- ==== Sys2Proof/Laws/KeptLive.lean ====
section
/-! SUPPORT. What every definition of Machine/Live.lean keeps of a state: one lemma each (Laws/Kept.lean). -/

namespace Sys2Proof.Machine

open Sys2Proof

set_option linter.all false

theorem State.collect_kept {P : State → Prop} (kk : Kept P) (kv : KeptV P) {s : State} {n : Nat} (h_s : P s) :
    P (State.collect s n) := by
  unfold State.collect
  repeat' first
    | with_reducible assumption
    | with_reducible intro _
    | split
    | fail_if_no_progress with_reducible apply kk.rest
    | fail_if_no_progress (with_reducible apply kv.svc; with_reducible apply kk.rest)

end Sys2Proof.Machine
end

