-- ==== Sys2Proof/Laws/KeptWrites.lean ====
section
/-! SUPPORT. What every definition of Machine/Writes.lean keeps of a state: one lemma each (Laws/Kept.lean). -/

namespace Sys2Proof.Machine

open Sys2Proof

set_option linter.all false

theorem State.actTelemetry_kept {P : State → Prop}  (kd : KeptD P [0x0011]) {s : State} {v : Nat} (h_s : P s) :
    KeptX P (State.actTelemetry s v) := by
  unfold State.actTelemetry
  repeat' first
    | with_reducible assumption
    | with_reducible intro _
    | (extract_lets +onlyGivenNames zz
       first
         | (with_reducible refine Kept.cut (P := P) (x := zz) ?_ ?_
            on_goal 2 => clear_value zz
            on_goal 1 => subst zz)
         | (with_reducible refine Kept.cut1 (P := P) (x := zz) ?_ ?_
            on_goal 2 => clear_value zz
            on_goal 1 => subst zz)
         | (have zn : Nat := zz
            clear zn
            subst zz)
         | clear_value zz
         | subst zz)
    | with_reducible exact KeptX.refuse _ _
    | with_reducible refine KeptX.apply ?_
    | with_reducible refine KeptX.counted ?_
    | with_reducible refine KeptX.accept (fun _ _ => ?_)
    | with_reducible apply State.put_kept
    | exact kd.mem (by decide)
    | exact kd.mem (pick_mem (by decide) (by decide))
    | exact kd.mono (by decide)
    | with_reducible apply KeptX.ite
    | split
    | fail_if_no_progress with_reducible apply kk.rest

theorem State.actModule_kept {P : State → Prop} (kk : Kept P) (kg : KeptK P) (kh : KeptH P) (kd : KeptD P [0x0010, 0x0011, 0x0040, 0x0080, 0x0100, 0x7040, 0xF030]) {s : State} {i sub : Nat} {v : Nat} {dflt : Verdict} (h_s : P s) (h_dflt : KeptX P dflt) :
    KeptX P (State.actModule s i sub v dflt) := by
  unfold State.actModule
  repeat' first
    | with_reducible assumption
    | with_reducible intro _
    | with_reducible exact KeptX.refuse _ _
    | with_reducible refine KeptX.apply ?_
    | with_reducible refine KeptX.counted ?_
    | with_reducible refine KeptX.accept (fun _ _ => ?_)
    | with_reducible apply State.actMoveLead_kept
    | with_reducible apply State.actReplaceClear_kept
    | with_reducible apply State.actReplaceRaise_kept
    | with_reducible apply State.actTelemetry_kept
    | with_reducible apply State.put_kept
    | exact kd.mem (by decide)
    | exact kd.mem (pick_mem (by decide) (by decide))
    | exact kd.mono (by decide)
    | with_reducible apply KeptX.ite
    | split
    | fail_if_no_progress with_reducible apply kk.rest

theorem State.actSource_kept {P : State → Prop}  (kd : KeptD P [0x1000]) {s : State} {sub v : Nat} (h_s : P s) :
    KeptX P (State.actSource s sub v) := by
  unfold State.actSource
  repeat' first
    | with_reducible assumption
    | with_reducible intro _
    | (extract_lets +onlyGivenNames zz
       first
         | (with_reducible refine Kept.cut (P := P) (x := zz) ?_ ?_
            on_goal 2 => clear_value zz
            on_goal 1 => subst zz)
         | (with_reducible refine Kept.cut1 (P := P) (x := zz) ?_ ?_
            on_goal 2 => clear_value zz
            on_goal 1 => subst zz)
         | (have zn : Nat := zz
            clear zn
            subst zz)
         | clear_value zz
         | subst zz)
    | with_reducible exact KeptX.refuse _ _
    | with_reducible refine KeptX.apply ?_
    | with_reducible refine KeptX.counted ?_
    | with_reducible refine KeptX.accept (fun _ _ => ?_)
    | with_reducible apply State.put_kept
    | exact kd.mem (by decide)
    | exact kd.mem (pick_mem (by decide) (by decide))
    | exact kd.mono (by decide)
    | with_reducible apply KeptX.ite
    | split
    | fail_if_no_progress with_reducible apply kk.rest

theorem State.stopBlock_kept {P : State → Prop}  (kd : KeptD P [0x1002, 0x6003]) {s : State} {sub b : Nat} (h_s : P s) :
    P (State.stopBlock s sub b) := by
  unfold State.stopBlock
  repeat' first
    | with_reducible assumption
    | with_reducible intro _
    | (extract_lets +onlyGivenNames zz
       first
         | (with_reducible refine Kept.cut (P := P) (x := zz) ?_ ?_
            on_goal 2 => clear_value zz
            on_goal 1 => subst zz)
         | (with_reducible refine Kept.cut1 (P := P) (x := zz) ?_ ?_
            on_goal 2 => clear_value zz
            on_goal 1 => subst zz)
         | (have zn : Nat := zz
            clear zn
            subst zz)
         | clear_value zz
         | subst zz)
    | with_reducible apply State.putAt_kept
    | with_reducible apply State.putFlag_kept
    | exact kd.mem (by decide)
    | exact kd.mem (pick_mem (by decide) (by decide))
    | exact kd.mono (by decide)
    | split
    | fail_if_no_progress with_reducible apply kk.rest

theorem State.actEnable_kept {P : State → Prop} (kk : Kept P) (ks : KeptS P) (kd : KeptD P [0x1002, 0x6003]) {s : State} {via : Via} {sub v : Nat} (h_s : P s) :
    KeptX P (State.actEnable s via sub v) := by
  unfold State.actEnable
  repeat' first
    | with_reducible assumption
    | with_reducible intro _
    | (extract_lets +onlyGivenNames zz
       first
         | (with_reducible refine Kept.cut (P := P) (x := zz) ?_ ?_
            on_goal 2 => clear_value zz
            on_goal 1 => subst zz)
         | (with_reducible refine Kept.cut1 (P := P) (x := zz) ?_ ?_
            on_goal 2 => clear_value zz
            on_goal 1 => subst zz)
         | (have zn : Nat := zz
            clear zn
            subst zz)
         | clear_value zz
         | subst zz)
    | with_reducible exact KeptX.refuse _ _
    | with_reducible refine KeptX.apply ?_
    | with_reducible refine KeptX.counted ?_
    | with_reducible refine KeptX.accept (fun _ _ => ?_)
    | with_reducible apply State.put_kept
    | with_reducible apply State.repin_kept
    | with_reducible apply State.stopBlock_kept
    | exact kd.mem (by decide)
    | exact kd.mem (pick_mem (by decide) (by decide))
    | exact kd.mono (by decide)
    | with_reducible refine Kept.foldl (fun _ _ _ => ?_) ?_
    | with_reducible refine Kept.foldl1 (fun _ _ _ => ?_) ?_
    | with_reducible apply KeptX.ite
    | split
    | fail_if_no_progress with_reducible apply kk.rest
    | fail_if_no_progress (with_reducible apply ks.sec; with_reducible apply kk.rest)

theorem State.actPower_kept {P : State → Prop} (kk : Kept P) (kc : KeptC P) (kt : KeptT P) (kg : KeptK P) (kh : KeptH P) (kv : KeptV P) (kb : KeptB P) (kd : KeptD P [0x0041, 0x0080, 0x0100, 0x1000, 0x1001, 0x1002, 0x1010, 0x1011, 0x1012, 0x1013, 0x1015, 0x1016, 0x2010, 0x4001, 0x4003, 0x4010, 0x4012, 0x4021, 0x5020, 0x9001, 0x9070, 0xF000, 0xF002, 0xF003]) (kn : KeptN P) {s : State} {found : Findings} {v : Nat} (h_s : P s) :
    KeptX P (State.actPower s found v) := by
  unfold State.actPower
  repeat' first
    | with_reducible assumption
    | with_reducible intro _
    | (extract_lets +onlyGivenNames zz
       first
         | (with_reducible refine Kept.cut (P := P) (x := zz) ?_ ?_
            on_goal 2 => clear_value zz
            on_goal 1 => subst zz)
         | (with_reducible refine Kept.cut1 (P := P) (x := zz) ?_ ?_
            on_goal 2 => clear_value zz
            on_goal 1 => subst zz)
         | (have zn : Nat := zz
            clear zn
            subst zz)
         | clear_value zz
         | subst zz)
    | with_reducible exact KeptX.refuse _ _
    | with_reducible refine KeptX.apply ?_
    | with_reducible refine KeptX.counted ?_
    | with_reducible refine KeptX.accept (fun _ _ => ?_)
    | with_reducible apply State.awaitSupply_kept
    | with_reducible apply State.countAttempt_kept
    | with_reducible apply State.powerHold_kept
    | with_reducible apply State.put_kept
    | with_reducible apply State.startEntry_kept
    | with_reducible apply State.startExit_kept
    | exact kd.mem (by decide)
    | exact kd.mem (pick_mem (by decide) (by decide))
    | exact kd.mono (by decide)
    | exact kn.mem _
    | with_reducible apply KeptX.ite
    | split
    | fail_if_no_progress with_reducible apply kk.rest

theorem State.actLimit_kept {P : State → Prop}  {s : State} {v : Nat} (h_s : P s) :
    KeptX P (State.actLimit s v) := by
  unfold State.actLimit
  repeat' first
    | with_reducible assumption
    | with_reducible intro _
    | (extract_lets +onlyGivenNames zz
       first
         | (with_reducible refine Kept.cut (P := P) (x := zz) ?_ ?_
            on_goal 2 => clear_value zz
            on_goal 1 => subst zz)
         | (with_reducible refine Kept.cut1 (P := P) (x := zz) ?_ ?_
            on_goal 2 => clear_value zz
            on_goal 1 => subst zz)
         | (have zn : Nat := zz
            clear zn
            subst zz)
         | clear_value zz
         | subst zz)
    | with_reducible exact KeptX.refuse _ _
    | with_reducible refine KeptX.apply ?_
    | with_reducible refine KeptX.counted ?_
    | with_reducible refine KeptX.accept (fun _ _ => ?_)
    | with_reducible apply Kept.ident
    | with_reducible apply KeptX.ite
    | split
    | fail_if_no_progress with_reducible apply kk.rest

theorem State.actPowerObject_kept {P : State → Prop} (kk : Kept P) (kc : KeptC P) (kt : KeptT P) (kg : KeptK P) (kh : KeptH P) (kv : KeptV P) (kb : KeptB P) (kd : KeptD P [0x0041, 0x0080, 0x0100, 0x1000, 0x1001, 0x1002, 0x1004, 0x1010, 0x1011, 0x1012, 0x1013, 0x1015, 0x1016, 0x2010, 0x4001, 0x4003, 0x4010, 0x4012, 0x4021, 0x5020, 0x9001, 0x9070, 0xF000, 0xF002, 0xF003]) (kn : KeptN P) {s : State} {x : Aux} {i sub v : Nat} {dflt : Verdict} (h_s : P s) (h_dflt : KeptX P dflt) :
    KeptX P (State.actPowerObject s x i sub v dflt) := by
  unfold State.actPowerObject
  repeat' first
    | with_reducible assumption
    | with_reducible intro _
    | with_reducible exact KeptX.refuse _ _
    | with_reducible refine KeptX.apply ?_
    | with_reducible refine KeptX.counted ?_
    | with_reducible refine KeptX.accept (fun _ _ => ?_)
    | with_reducible apply State.actLimit_kept
    | with_reducible apply State.actPower_kept
    | with_reducible apply State.put_kept
    | with_reducible apply State.repin_kept
    | with_reducible apply State.throttle_kept
    | exact kd.mem (by decide)
    | exact kd.mem (pick_mem (by decide) (by decide))
    | exact kd.mono (by decide)
    | exact kn.mem _
    | with_reducible apply KeptX.ite
    | split
    | fail_if_no_progress with_reducible apply kk.rest

theorem State.actTileRegister_kept {P : State → Prop} (kk : Kept P) (kt : KeptT P) (ka : KeptA P) {s : State} {i sub u : Nat} {ws : List Word} (h_s : P s) :
    KeptX P (State.actTileRegister s i sub u ws) := by
  unfold State.actTileRegister
  repeat' first
    | with_reducible assumption
    | with_reducible intro _
    | (extract_lets +onlyGivenNames zz
       first
         | (with_reducible refine Kept.cut (P := P) (x := zz) ?_ ?_
            on_goal 2 => clear_value zz
            on_goal 1 => subst zz)
         | (with_reducible refine Kept.cut1 (P := P) (x := zz) ?_ ?_
            on_goal 2 => clear_value zz
            on_goal 1 => subst zz)
         | (have zn : Nat := zz
            clear zn
            subst zz)
         | clear_value zz
         | subst zz)
    | with_reducible exact KeptX.refuse _ _
    | with_reducible refine KeptX.apply ?_
    | with_reducible refine KeptX.counted ?_
    | with_reducible refine KeptX.accept (fun _ _ => ?_)
    | with_reducible apply State.landSet_kept
    | with_reducible apply State.putsAt_kept
    | exact ka.mem _
    | exact ka.toD
    | exact ka.toN
    | with_reducible apply KeptX.ite
    | split
    | fail_if_no_progress with_reducible apply kk.rest

theorem State.actRecover_kept {P : State → Prop} (kk : Kept P) (kc : KeptC P) (kt : KeptT P) (kg : KeptK P) (kh : KeptH P) (kv : KeptV P) (kb : KeptB P) (kd : KeptD P [0x0041, 0x0080, 0x0100, 0x1000, 0x1001, 0x1002, 0x1010, 0x1011, 0x1012, 0x1013, 0x1015, 0x1016, 0x2010, 0x4001, 0x4003, 0x4010, 0x4012, 0x4021, 0x5020, 0x9001, 0x9070, 0xF000, 0xF001, 0xF002, 0xF003]) {s : State} {found : Findings} {v : Nat} (h_s : P s) :
    KeptX P (State.actRecover s found v) := by
  unfold State.actRecover
  repeat' first
    | with_reducible assumption
    | with_reducible intro _
    | (extract_lets +onlyGivenNames zz
       first
         | (with_reducible refine Kept.cut (P := P) (x := zz) ?_ ?_
            on_goal 2 => clear_value zz
            on_goal 1 => subst zz)
         | (with_reducible refine Kept.cut1 (P := P) (x := zz) ?_ ?_
            on_goal 2 => clear_value zz
            on_goal 1 => subst zz)
         | (have zn : Nat := zz
            clear zn
            subst zz)
         | clear_value zz
         | subst zz)
    | with_reducible exact KeptX.refuse _ _
    | with_reducible refine KeptX.apply ?_
    | with_reducible refine KeptX.counted ?_
    | with_reducible refine KeptX.accept (fun _ _ => ?_)
    | with_reducible apply State.countAttempt_kept
    | with_reducible apply State.endPending_kept
    | with_reducible apply State.fromS3_kept
    | with_reducible apply State.put_kept
    | with_reducible apply State.writeSlot_kept
    | exact kd.mem (by decide)
    | exact kd.mem (pick_mem (by decide) (by decide))
    | exact kd.mono (by decide)
    | with_reducible refine Kept.foldl (fun _ _ _ => ?_) ?_
    | with_reducible refine Kept.foldl1 (fun _ _ _ => ?_) ?_
    | with_reducible apply KeptX.ite
    | split
    | fail_if_no_progress with_reducible apply kk.rest
    | fail_if_no_progress (with_reducible apply kg.key; with_reducible apply kk.rest)

theorem State.actRecoveryImage_kept {P : State → Prop} (kk : Kept P) (kg : KeptK P) (kd : KeptD P [0xF001]) {s : State} {l : List Byte} (h_s : P s) :
    KeptX P (State.actRecoveryImage s l) := by
  unfold State.actRecoveryImage
  repeat' first
    | with_reducible assumption
    | with_reducible intro _
    | (extract_lets +onlyGivenNames zz
       first
         | (with_reducible refine Kept.cut (P := P) (x := zz) ?_ ?_
            on_goal 2 => clear_value zz
            on_goal 1 => subst zz)
         | (with_reducible refine Kept.cut1 (P := P) (x := zz) ?_ ?_
            on_goal 2 => clear_value zz
            on_goal 1 => subst zz)
         | (have zn : Nat := zz
            clear zn
            subst zz)
         | clear_value zz
         | subst zz)
    | with_reducible exact KeptX.refuse _ _
    | with_reducible refine KeptX.apply ?_
    | with_reducible refine KeptX.counted ?_
    | with_reducible refine KeptX.accept (fun _ _ => ?_)
    | with_reducible apply State.putFlag_kept
    | exact kd.mem (by decide)
    | exact kd.mem (pick_mem (by decide) (by decide))
    | exact kd.mono (by decide)
    | with_reducible apply KeptX.ite
    | split
    | fail_if_no_progress with_reducible apply kk.rest
    | fail_if_no_progress (with_reducible apply kg.key; with_reducible apply kk.rest)

theorem State.actContextObject_kept {P : State → Prop} (kk : Kept P) (km : KeptM P) (kc : KeptC P) (kt : KeptT P) (ks : KeptS P) (kg : KeptK P) (kh : KeptH P) (kv : KeptV P) (kl : KeptL P) (kd : KeptD P [0x0010, 0x0040, 0x0041, 0x0080, 0x1001, 0x1002, 0x1010, 0x1011, 0x1012, 0x1013, 0x1015, 0x1016, 0x3010, 0x3020, 0x3021, 0x3031, 0x3032, 0x3040, 0x3041, 0x4010, 0x4012, 0x4014, 0x4021, 0x4102, 0x4103, 0x5010, 0x5020, 0x6003, 0x6010, 0x6020, 0x6021, 0x7020, 0x7021, 0x7040, 0x9030, 0x9031, 0xA003, 0xA004, 0xF030]) (kn : KeptN P) (kq : KeptQ P) {s : State} {x : Aux} {via : Via} {n sub : Nat} {ws : List Word} {dflt : Verdict} (h_s : P s) (h_dflt : KeptX P dflt) :
    KeptX P (State.actContextObject s x via n sub ws dflt) := by
  unfold State.actContextObject
  repeat' first
    | with_reducible assumption
    | with_reducible intro _
    | exact kd.mem (by decide)
    | exact kd.mem (pick_mem (by decide) (by decide))
    | exact kd.mono (by decide)
    | exact kn.mem _
    | (extract_lets +onlyGivenNames zz
       first
         | (with_reducible refine Kept.cut (P := P) (x := zz) ?_ ?_
            on_goal 2 => clear_value zz
            on_goal 1 => subst zz)
         | (with_reducible refine Kept.cut1 (P := P) (x := zz) ?_ ?_
            on_goal 2 => clear_value zz
            on_goal 1 => subst zz)
         | (have zn : Nat := zz
            clear zn
            subst zz)
         | clear_value zz
         | subst zz)
    | with_reducible exact KeptX.refuse _ _
    | with_reducible refine KeptX.apply ?_
    | with_reducible refine KeptX.counted ?_
    | with_reducible refine KeptX.accept (fun _ _ => ?_)
    | with_reducible apply State.actAck_kept
    | with_reducible apply State.actClaims_kept
    | with_reducible apply State.actCtxReset_kept
    | with_reducible apply State.actState_kept
    | exact kd.mem (by decide)
    | exact kd.mem (pick_mem (by decide) (by decide))
    | exact kd.mono (by decide)
    | exact kn.mem _
    | with_reducible apply KeptX.ite
    | split
    | fail_if_no_progress with_reducible apply kk.rest

theorem State.actSecurity_kept {P : State → Prop} (kk : Kept P) (km : KeptM P) (kc : KeptC P) (kt : KeptT P) (ks : KeptS P) (kg : KeptK P) (kb : KeptB P) (kd : KeptD P [0x0080, 0x4001, 0x4003, 0x4010, 0x4012, 0x4021, 0x5020, 0x7030, 0x7031, 0x7040, 0x9000, 0x9020, 0x9030, 0x9031, 0x9040, 0x9041, 0x9060, 0xF030]) (kn : KeptN P) {s : State} {x : Aux} {via : Via} {i sub : Nat} {ws : List Word} {dflt : Verdict} (h_s : P s) (h_dflt : KeptX P dflt) :
    KeptX P (State.actSecurity s x via i sub ws dflt) := by
  unfold State.actSecurity
  repeat' first
    | with_reducible assumption
    | with_reducible intro _
    | (extract_lets +onlyGivenNames zz
       first
         | (with_reducible refine Kept.cut (P := P) (x := zz) ?_ ?_
            on_goal 2 => clear_value zz
            on_goal 1 => subst zz)
         | (with_reducible refine Kept.cut1 (P := P) (x := zz) ?_ ?_
            on_goal 2 => clear_value zz
            on_goal 1 => subst zz)
         | (have zn : Nat := zz
            clear zn
            subst zz)
         | clear_value zz
         | subst zz)
    | with_reducible exact KeptX.refuse _ _
    | with_reducible refine KeptX.apply ?_
    | with_reducible refine KeptX.counted ?_
    | with_reducible refine KeptX.accept (fun _ _ => ?_)
    | with_reducible apply State.actClearSlot_kept
    | with_reducible apply State.actCommit_kept
    | with_reducible apply State.actIdeHold_kept
    | with_reducible apply State.actKeyAdvance_kept
    | with_reducible apply State.actKeyInstall_kept
    | with_reducible apply State.actRebind_kept
    | with_reducible apply State.actRelease_kept
    | with_reducible apply State.actSanitize_kept
    | with_reducible apply State.actSealingKey_kept
    | with_reducible apply State.actSign_kept
    | exact kd.mem (by decide)
    | exact kd.mem (pick_mem (by decide) (by decide))
    | exact kd.mono (by decide)
    | exact kn.mem _
    | with_reducible apply KeptX.ite
    | split
    | fail_if_no_progress with_reducible apply kk.rest

theorem State.actPeloton_kept {P : State → Prop} (kk : Kept P) (kc : KeptC P) (ks : KeptS P) (kl : KeptL P) (kd : KeptD P [0x6000, 0x6001, 0x6002, 0x6003, 0x7010, 0x7011, 0x7012, 0x7013, 0x7030, 0x7031, 0x7040, 0x9030, 0x9031, 0xF030]) {s : State} {via : Via} {i sub u : Nat} {ws : List Word} {dflt : Verdict} (h_s : P s) (h_dflt : KeptX P dflt) :
    KeptX P (State.actPeloton s via i sub u ws dflt) := by
  unfold State.actPeloton
  repeat' first
    | with_reducible assumption
    | with_reducible intro _
    | (extract_lets +onlyGivenNames zz
       first
         | (with_reducible refine Kept.cut (P := P) (x := zz) ?_ ?_
            on_goal 2 => clear_value zz
            on_goal 1 => subst zz)
         | (with_reducible refine Kept.cut1 (P := P) (x := zz) ?_ ?_
            on_goal 2 => clear_value zz
            on_goal 1 => subst zz)
         | (have zn : Nat := zz
            clear zn
            subst zz)
         | clear_value zz
         | subst zz)
    | with_reducible exact KeptX.refuse _ _
    | with_reducible refine KeptX.apply ?_
    | with_reducible refine KeptX.counted ?_
    | with_reducible refine KeptX.accept (fun _ _ => ?_)
    | with_reducible apply State.actLogClear_kept
    | with_reducible apply State.actPosition_kept
    | with_reducible apply State.actReceipt_kept
    | with_reducible apply State.actRestore_kept
    | with_reducible apply State.actSendBack_kept
    | with_reducible apply State.actSlot_kept
    | with_reducible apply State.actSpokeControl_kept
    | with_reducible apply State.putAt_kept
    | exact kd.mem (by decide)
    | exact kd.mem (pick_mem (by decide) (by decide))
    | exact kd.mono (by decide)
    | with_reducible refine Kept.foldl (fun _ _ _ => ?_) ?_
    | with_reducible refine Kept.foldl1 (fun _ _ _ => ?_) ?_
    | with_reducible apply KeptX.ite
    | split
    | fail_if_no_progress with_reducible apply kk.rest

theorem State.actReserve_kept {P : State → Prop}  (kd : KeptD P [0x5001, 0x5002]) {s : State} {h : HalfId} {v : Nat} (h_s : P s) :
    KeptX P (State.actReserve s h v) := by
  unfold State.actReserve
  repeat' first
    | with_reducible assumption
    | with_reducible intro _
    | (extract_lets +onlyGivenNames zz
       first
         | (with_reducible refine Kept.cut (P := P) (x := zz) ?_ ?_
            on_goal 2 => clear_value zz
            on_goal 1 => subst zz)
         | (with_reducible refine Kept.cut1 (P := P) (x := zz) ?_ ?_
            on_goal 2 => clear_value zz
            on_goal 1 => subst zz)
         | (have zn : Nat := zz
            clear zn
            subst zz)
         | clear_value zz
         | subst zz)
    | with_reducible exact KeptX.refuse _ _
    | with_reducible refine KeptX.apply ?_
    | with_reducible refine KeptX.counted ?_
    | with_reducible refine KeptX.accept (fun _ _ => ?_)
    | with_reducible apply State.put_kept
    | exact kd.mem (by decide)
    | exact kd.mem (pick_mem (by decide) (by decide))
    | exact kd.mono (by decide)
    | with_reducible apply KeptX.ite
    | split
    | fail_if_no_progress with_reducible apply kk.rest

theorem State.actLedger_kept {P : State → Prop}  {s : State} {sub n v : Nat} {dflt : Verdict} (h_s : P s) (h_dflt : KeptX P dflt) :
    KeptX P (State.actLedger s sub n v dflt) := by
  unfold State.actLedger
  repeat' first
    | with_reducible assumption
    | with_reducible intro _
    | (extract_lets +onlyGivenNames zz
       first
         | (with_reducible refine Kept.cut (P := P) (x := zz) ?_ ?_
            on_goal 2 => clear_value zz
            on_goal 1 => subst zz)
         | (with_reducible refine Kept.cut1 (P := P) (x := zz) ?_ ?_
            on_goal 2 => clear_value zz
            on_goal 1 => subst zz)
         | (have zn : Nat := zz
            clear zn
            subst zz)
         | clear_value zz
         | subst zz)
    | with_reducible exact KeptX.refuse _ _
    | with_reducible refine KeptX.apply ?_
    | with_reducible refine KeptX.counted ?_
    | with_reducible refine KeptX.accept (fun _ _ => ?_)
    | with_reducible apply KeptX.ite
    | split
    | fail_if_no_progress with_reducible apply kk.rest

theorem State.actArray_kept {P : State → Prop} (kk : Kept P) (kc : KeptC P) (kt : KeptT P) (kh : KeptH P) (kv : KeptV P) (ka : KeptA P) (kq : KeptQ P) {s : State} {x : Aux} {i sub u : Nat} {ws : List Word} {dflt : Verdict} (h_s : P s) (h_dflt : KeptX P dflt) :
    KeptX P (State.actArray s x i sub u ws dflt) := by
  unfold State.actArray
  repeat' first
    | with_reducible assumption
    | with_reducible intro _
    | (extract_lets +onlyGivenNames zz
       first
         | (with_reducible refine Kept.cut (P := P) (x := zz) ?_ ?_
            on_goal 2 => clear_value zz
            on_goal 1 => subst zz)
         | (with_reducible refine Kept.cut1 (P := P) (x := zz) ?_ ?_
            on_goal 2 => clear_value zz
            on_goal 1 => subst zz)
         | (have zn : Nat := zz
            clear zn
            subst zz)
         | clear_value zz
         | subst zz)
    | with_reducible exact KeptX.refuse _ _
    | with_reducible refine KeptX.apply ?_
    | with_reducible refine KeptX.counted ?_
    | with_reducible refine KeptX.accept (fun _ _ => ?_)
    | with_reducible apply State.actCalibration_kept
    | with_reducible apply State.actLedger_kept
    | with_reducible apply State.actNumerics_kept
    | with_reducible apply State.actReserve_kept
    | with_reducible apply State.actTileRegister_kept
    | exact ka.mem _
    | exact ka.toD
    | exact ka.toN
    | with_reducible apply KeptX.ite
    | split
    | fail_if_no_progress with_reducible apply kk.rest

theorem State.actOther_kept {P : State → Prop} (kk : Kept P) (km : KeptM P) (kc : KeptC P) (kt : KeptT P) (ks : KeptS P) (kg : KeptK P) (kh : KeptH P) (kv : KeptV P) (kb : KeptB P) (kl : KeptL P) (kd : KeptD P [0x0010, 0x0040, 0x0041, 0x0080, 0x0100, 0x1000, 0x1001, 0x1002, 0x1010, 0x1011, 0x1012, 0x1013, 0x1015, 0x1016, 0x2010, 0x4001, 0x4003, 0x4010, 0x4012, 0x4014, 0x4021, 0x5020, 0x6010, 0x7040, 0x9001, 0x9030, 0x9031, 0x9060, 0x9070, 0xA003, 0xA004, 0xF000, 0xF001, 0xF002, 0xF003, 0xF010, 0xF021, 0xF030]) (kn : KeptN P) (kq : KeptQ P) {s : State} {x : Aux} {i sub : Nat} {w : Word} {dflt : Verdict} (h_s : P s) (h_dflt : KeptX P dflt) :
    KeptX P (State.actOther s x i sub w dflt) := by
  unfold State.actOther
  repeat' first
    | with_reducible assumption
    | with_reducible intro _
    | exact kd.mem (by decide)
    | exact kd.mem (pick_mem (by decide) (by decide))
    | exact kd.mono (by decide)
    | exact kn.mem _
    | with_reducible exact KeptX.refuse _ _
    | with_reducible refine KeptX.apply ?_
    | with_reducible refine KeptX.counted ?_
    | with_reducible refine KeptX.accept (fun _ _ => ?_)
    | with_reducible apply State.actHalfReset_kept
    | with_reducible apply State.actPartition_kept
    | with_reducible apply State.actRecover_kept
    | with_reducible apply State.actTileReset_kept
    | exact kd.mem (by decide)
    | exact kd.mem (pick_mem (by decide) (by decide))
    | exact kd.mono (by decide)
    | exact kn.mem _
    | with_reducible apply KeptX.ite
    | split
    | fail_if_no_progress with_reducible apply kk.rest

theorem State.plainWrite_kept {P : State → Prop}  (ka : KeptA P) {s : State} {r : Row} {i u : Nat} {ws : List Word} (h_s : P s) :
    KeptX P (State.plainWrite s r i u ws) := by
  unfold State.plainWrite
  repeat' first
    | with_reducible assumption
    | with_reducible intro _
    | with_reducible exact KeptX.refuse _ _
    | with_reducible refine KeptX.apply ?_
    | with_reducible refine KeptX.counted ?_
    | with_reducible refine KeptX.accept (fun _ _ => ?_)
    | with_reducible apply Kept.ident
    | with_reducible apply State.putsAt_kept
    | exact ka.mem _
    | exact ka.toD
    | exact ka.toN
    | with_reducible apply KeptX.ite
    | split
    | fail_if_no_progress with_reducible apply kk.rest

theorem State.act_kept {P : State → Prop} (kk : Kept P) (km : KeptM P) (kc : KeptC P) (kt : KeptT P) (ks : KeptS P) (kg : KeptK P) (kh : KeptH P) (kv : KeptV P) (kb : KeptB P) (kl : KeptL P) (ka : KeptA P) (kq : KeptQ P) {s : State} {x : Aux} {via : Via} {r : Row} {i u : Nat} {ws : List Word} (h_s : P s) :
    KeptX P (State.act s x via r i u ws) := by
  unfold State.act
  repeat' first
    | with_reducible assumption
    | with_reducible intro _
    | exact ka.mem _
    | exact ka.toD
    | exact ka.toN
    | (extract_lets +onlyGivenNames zz
       first
         | (with_reducible refine KeptX.cut (P := P) (x := zz) ?_ ?_
            on_goal 2 => clear_value zz
            on_goal 1 => subst zz)
         | (with_reducible refine Kept.cut (P := P) (x := zz) ?_ ?_
            on_goal 2 => clear_value zz
            on_goal 1 => subst zz)
         | (with_reducible refine Kept.cut1 (P := P) (x := zz) ?_ ?_
            on_goal 2 => clear_value zz
            on_goal 1 => subst zz)
         | (have zn : Nat := zz
            clear zn
            subst zz)
         | clear_value zz
         | subst zz)
    | with_reducible exact KeptX.refuse _ _
    | with_reducible refine KeptX.apply ?_
    | with_reducible refine KeptX.counted ?_
    | with_reducible refine KeptX.accept (fun _ _ => ?_)
    | with_reducible apply State.actArray_kept
    | with_reducible apply State.actContextObject_kept
    | with_reducible apply State.actEnable_kept
    | with_reducible apply State.actModule_kept
    | with_reducible apply State.actOther_kept
    | with_reducible apply State.actPeloton_kept
    | with_reducible apply State.actPowerObject_kept
    | with_reducible apply State.actSecurity_kept
    | with_reducible apply State.actSource_kept
    | with_reducible apply State.plainWrite_kept
    | exact ka.mem _
    | exact ka.toD
    | exact ka.toN
    | with_reducible apply KeptX.ite
    | split
    | fail_if_no_progress with_reducible apply kk.rest

theorem State.actDomain_kept {P : State → Prop} (kk : Kept P) (km : KeptM P) (kc : KeptC P) (kt : KeptT P) (kg : KeptK P) (kb : KeptB P) (kd : KeptD P [0x0080, 0x2000, 0x2001, 0x2010, 0x2011, 0x2012, 0x3031, 0x4001, 0x4003, 0x4004, 0x4005, 0x4010, 0x4012, 0x4021, 0x5010, 0x5020, 0x6010, 0x7021, 0x7040, 0x9010, 0x9070, 0xF001, 0xF030]) (kn : KeptN P) (kq : KeptQ P) {s : State} {i u : Nat} {l : List Byte} (h_s : P s) :
    KeptX P (State.actDomain s i u l) := by
  unfold State.actDomain
  repeat' first
    | with_reducible assumption
    | with_reducible intro _
    | with_reducible exact KeptX.refuse _ _
    | with_reducible refine KeptX.apply ?_
    | with_reducible refine KeptX.counted ?_
    | with_reducible refine KeptX.accept (fun _ _ => ?_)
    | with_reducible apply State.actOwnerRoot_kept
    | with_reducible apply State.actRecoveryImage_kept
    | with_reducible apply State.actService_kept
    | with_reducible apply State.applyImage_kept
    | with_reducible apply State.importBlob_kept
    | with_reducible apply State.stageImage_kept
    | exact kd.mem (by decide)
    | exact kd.mem (pick_mem (by decide) (by decide))
    | exact kd.mono (by decide)
    | exact kn.mem _
    | with_reducible apply KeptX.ite
    | split
    | fail_if_no_progress with_reducible apply kk.rest

end Sys2Proof.Machine
end

