-- ==== Sys2Proof/Laws/KeptRequest.lean ====
section
/-! SUPPORT. What every definition of Machine/Request.lean keeps of a state: one lemma each (Laws/Kept.lean). -/

namespace Sys2Proof.Machine

open Sys2Proof

set_option linter.all false

theorem State.send_kept {P : State → Prop} (kk : Kept P) (kd : KeptD P [0x0010]) {s : State} {p : Path} {op i sub tag : Nat} {a : Ans} (h_s : P s) :
    P (State.send s p op i sub tag a) := by
  unfold State.send
  repeat' first
    | with_reducible assumption
    | with_reducible intro _
    | with_reducible apply State.emit_kept
    | with_reducible apply State.respond_kept
    | exact kd.mem (by decide)
    | exact kd.mem (pick_mem (by decide) (by decide))
    | exact kd.mono (by decide)
    | split
    | fail_if_no_progress with_reducible apply kk.rest

theorem State.staleTag_kept {P : State → Prop}  (kh : KeptH P) {s : State} {o : HeldFrom} (h_s : P s) :
    P (State.staleTag s o) := by
  unfold State.staleTag
  repeat' first
    | with_reducible assumption
    | with_reducible intro _
    | with_reducible apply State.modHalf_kept
    | split
    | fail_if_no_progress with_reducible apply kk.rest

theorem State.hold_kept {P : State → Prop} (kk : Kept P) (kg : KeptK P) {s : State} {g : Gate} {w : HeldWrite} (h_s : P s) :
    P (State.hold s g w) := by
  unfold State.hold
  repeat' first
    | with_reducible assumption
    | with_reducible intro _
    | split
    | fail_if_no_progress with_reducible apply kk.rest
    | fail_if_no_progress (with_reducible apply kg.key; with_reducible apply kk.rest)

theorem Verdict.refusedState_kept {P : State → Prop}  {v : Verdict} {s : State} (h_v : KeptX P v) (h_s : P s) :
    P (Verdict.refusedState v s) := by
  unfold Verdict.refusedState
  repeat' first
    | with_reducible assumption
    | with_reducible intro _
    | exact h_v
    | (refine h_v _ ?_)
    | split
    | fail_if_no_progress with_reducible apply kk.rest

theorem State.settleWrite_kept {P : State → Prop} (kk : Kept P) (kv : KeptV P) (kd : KeptD P [0xF030]) {s : State} {via : Via} {r : Row} {i u : Nat} {ws : List Word} {v : Verdict} (h_s : P s) (h_v : KeptX P v) :
    P (State.settleWrite s via r i u ws v).1 := by
  unfold State.settleWrite
  dsimp only
  repeat' first
    | with_reducible assumption
    | with_reducible intro _
    | (extract_lets +onlyGivenNames zz
       first
         | (with_reducible refine Kept.cut (P := P) (x := zz) ?_ ?_
            on_goal 2 => clear_value zz
            on_goal 1 => subst zz)
         | (with_reducible refine Kept.cut1 (P := P) (x := zz) ?_ ?_
            on_goal 2 => clear_value zz
            on_goal 1 => subst zz)
         | (have zn : Nat := zz
            clear zn
            subst zz)
         | clear_value zz
         | subst zz)
    | exact h_v
    | (refine h_v _ ?_)
    | with_reducible apply State.issue_kept
    | with_reducible apply State.traceAdd_kept
    | exact kd.mem (by decide)
    | exact kd.mem (pick_mem (by decide) (by decide))
    | exact kd.mono (by decide)
    | split
    | fail_if_no_progress with_reducible apply kk.rest

theorem State.busyStatus_kept {P : State → Prop}  (kd : KeptD P [0x0011]) {s : State} {o : Obj} {r : Row} {i u : Nat} {write past : Bool} (h_s : P s) :
    KeptO P (State.busyStatus s o r i u write past) := by
  unfold State.busyStatus
  repeat' first
    | with_reducible assumption
    | with_reducible intro _
    | (extract_lets +onlyGivenNames zz
       first
         | (with_reducible refine Kept.cut (P := P) (x := zz) ?_ ?_
            on_goal 2 => clear_value zz
            on_goal 1 => subst zz)
         | (with_reducible refine Kept.cut1 (P := P) (x := zz) ?_ ?_
            on_goal 2 => clear_value zz
            on_goal 1 => subst zz)
         | (have zn : Nat := zz
            clear zn
            subst zz)
         | clear_value zz
         | subst zz)
    | with_reducible refine KeptO.none
    | with_reducible refine KeptO.some ?_
    | with_reducible apply State.bump_kept
    | exact kd.mem (by decide)
    | exact kd.mem (pick_mem (by decide) (by decide))
    | exact kd.mono (by decide)
    | with_reducible apply KeptO.ite
    | split
    | fail_if_no_progress with_reducible apply kk.rest

theorem State.busyStatus_some_kept {P : State → Prop}  (kd : KeptD P [0x0011]) {s : State} {o : Obj} {r : Row} {i u : Nat}
    {w p : Bool} {a : State × Ans} (h_s : P s) (h : s.busyStatus o r i u w p = some a) : P a.1 := by
  have := State.busyStatus_kept (o := o) (r := r) (i := i) (u := u) (write := w) (past := p) kd h_s
  rw [h] at this
  exact this

theorem State.joinQueue_kept {P : State → Prop}  (kh : KeptH P) (kd : KeptD P [0x0011]) {s : State} {h : HalfId} {w : HeldWrite} (h_s : P s) :
    P (State.joinQueue s h w).1 := by
  unfold State.joinQueue
  repeat' first
    | with_reducible assumption
    | with_reducible intro _
    | with_reducible apply State.bump_kept
    | with_reducible apply State.modHalf_kept
    | exact kd.mem (by decide)
    | exact kd.mem (pick_mem (by decide) (by decide))
    | exact kd.mono (by decide)
    | split
    | fail_if_no_progress with_reducible apply kk.rest

theorem State.weigh_kept {P : State → Prop} (kk : Kept P) (km : KeptM P) (kc : KeptC P) (kt : KeptT P) (ks : KeptS P) (kg : KeptK P) (kh : KeptH P) (kv : KeptV P) (kb : KeptB P) (kl : KeptL P) (ka : KeptA P) (kq : KeptQ P) {s : State} {x : Aux} {via : Via} {o : Obj} {r : Row} {i tag : Nat} {ws : List Word} {origin : HeldFrom} {expect : Option (List Word)} {wait : Bool} (h_s : P s) :
    P (State.weigh s x via o r i tag ws origin expect wait).1 := by
  unfold State.weigh
  repeat' first
    | with_reducible assumption
    | with_reducible intro _
    | exact ka.mem _
    | exact ka.toD
    | exact ka.toN
    | (extract_lets +onlyGivenNames zz
       first
         | (with_reducible refine KeptX.cut (P := P) (x := zz) ?_ ?_
            on_goal 2 => clear_value zz
            on_goal 1 => subst zz)
         | (with_reducible refine Kept.cut (P := P) (x := zz) ?_ ?_
            on_goal 2 => clear_value zz
            on_goal 1 => subst zz)
         | (with_reducible refine Kept.cut1 (P := P) (x := zz) ?_ ?_
            on_goal 2 => clear_value zz
            on_goal 1 => subst zz)
         | (have zn : Nat := zz
            clear zn
            subst zz)
         | clear_value zz
         | subst zz)
    | with_reducible refine State.busyStatus_some_kept (by first | exact kd.mono (by decide) | exact ka.toD) ?_ (by with_reducible assumption)
    | with_reducible apply State.act_kept
    | with_reducible apply State.busyStatus_kept
    | with_reducible apply State.hold_kept
    | with_reducible apply State.joinQueue_kept
    | with_reducible apply State.settleWrite_kept
    | with_reducible apply State.staleTag_kept
    | exact ka.mem _
    | exact ka.toD
    | exact ka.toN
    | split
    | fail_if_no_progress with_reducible apply kk.rest

theorem State.commit_kept {P : State → Prop} (kk : Kept P) (km : KeptM P) (kc : KeptC P) (kt : KeptT P) (ks : KeptS P) (kg : KeptK P) (kh : KeptH P) (kv : KeptV P) (kb : KeptB P) (kl : KeptL P) (ka : KeptA P) (kq : KeptQ P) {s : State} {x : Aux} {via : Via} {o : Obj} {r : Row} {i tag : Nat} {ws : List Word} {origin : HeldFrom} {expect : Option (List Word)} {wait : Bool} (h_s : P s) :
    P (State.commit s x via o r i tag ws origin expect wait).1 := by
  unfold State.commit
  repeat' first
    | with_reducible assumption
    | with_reducible intro _
    | exact ka.mem _
    | exact ka.toD
    | exact ka.toN
    | (extract_lets +onlyGivenNames zz
       first
         | (with_reducible refine Kept.cut (P := P) (x := zz) ?_ ?_
            on_goal 2 => clear_value zz
            on_goal 1 => subst zz)
         | (with_reducible refine Kept.cut1 (P := P) (x := zz) ?_ ?_
            on_goal 2 => clear_value zz
            on_goal 1 => subst zz)
         | (have zn : Nat := zz
            clear zn
            subst zz)
         | clear_value zz
         | subst zz)
    | with_reducible apply State.weigh_kept
    | exact ka.mem _
    | exact ka.toD
    | exact ka.toN
    | split
    | fail_if_no_progress with_reducible apply kk.rest

theorem State.replay_kept {P : State → Prop} (kk : Kept P) (km : KeptM P) (kc : KeptC P) (kt : KeptT P) (ks : KeptS P) (kg : KeptK P) (kh : KeptH P) (kv : KeptV P) (kb : KeptB P) (kl : KeptL P) (ka : KeptA P) (kq : KeptQ P) {s : State} {w : HeldWrite} {wait : Bool} (h_s : P s) :
    P (State.replay s w wait) := by
  unfold State.replay
  repeat' first
    | with_reducible assumption
    | with_reducible intro _
    | exact ka.mem _
    | exact ka.toD
    | exact ka.toN
    | (extract_lets +onlyGivenNames zz
       first
         | (with_reducible refine Kept.cut (P := P) (x := zz) ?_ ?_
            on_goal 2 => clear_value zz
            on_goal 1 => subst zz)
         | (with_reducible refine Kept.cut1 (P := P) (x := zz) ?_ ?_
            on_goal 2 => clear_value zz
            on_goal 1 => subst zz)
         | (have zn : Nat := zz
            clear zn
            subst zz)
         | clear_value zz
         | subst zz)
    | with_reducible apply State.commit_kept
    | with_reducible apply State.send_kept
    | exact ka.mem _
    | exact ka.toD
    | exact ka.toN
    | split
    | fail_if_no_progress with_reducible apply kk.rest

theorem State.serveQueue_kept {P : State → Prop} (kk : Kept P) (km : KeptM P) (kc : KeptC P) (kt : KeptT P) (ks : KeptS P) (kg : KeptK P) (kh : KeptH P) (kv : KeptV P) (kb : KeptB P) (kl : KeptL P) (ka : KeptA P) (kq : KeptQ P) {s : State} {h : HalfId} (h_s : P s) :
    P (State.serveQueue s h) := by
  unfold State.serveQueue
  repeat' first
    | with_reducible assumption
    | with_reducible intro _
    | exact ka.mem _
    | exact ka.toD
    | exact ka.toN
    | with_reducible apply State.modHalf_kept
    | with_reducible apply State.replay_kept
    | exact ka.mem _
    | exact ka.toD
    | exact ka.toN
    | split
    | fail_if_no_progress with_reducible apply kk.rest

theorem State.emptyQueue_kept {P : State → Prop} (kk : Kept P) (km : KeptM P) (kc : KeptC P) (kt : KeptT P) (ks : KeptS P) (kg : KeptK P) (kh : KeptH P) (kv : KeptV P) (kb : KeptB P) (kl : KeptL P) (ka : KeptA P) (kq : KeptQ P) {s : State} {h : HalfId} (h_s : P s) :
    P (State.emptyQueue s h) := by
  unfold State.emptyQueue
  repeat' first
    | with_reducible assumption
    | with_reducible intro _
    | exact ka.mem _
    | exact ka.toD
    | exact ka.toN
    | with_reducible apply State.modHalf_kept
    | with_reducible apply State.replay_kept
    | exact ka.mem _
    | exact ka.toD
    | exact ka.toN
    | with_reducible refine Kept.foldl (fun _ _ _ => ?_) ?_
    | with_reducible refine Kept.foldl1 (fun _ _ _ => ?_) ?_
    | split
    | fail_if_no_progress with_reducible apply kk.rest

theorem State.setStagings_kept {P : State → Prop} (kk : Kept P) (kv : KeptV P) {s : State} {l : List Staging} (h_s : P s) :
    P (State.setStagings s l) := by
  unfold State.setStagings
  repeat' first
    | with_reducible assumption
    | with_reducible intro _
    | split
    | fail_if_no_progress with_reducible apply kk.rest
    | fail_if_no_progress (with_reducible apply kv.svc; with_reducible apply kk.rest)

theorem State.unstage_kept {P : State → Prop} (kk : Kept P) (kv : KeptV P) {s : State} {p : Path} (h_s : P s) :
    P (State.unstage s p) := by
  unfold State.unstage
  repeat' first
    | with_reducible assumption
    | with_reducible intro _
    | with_reducible apply State.setStagings_kept
    | split
    | fail_if_no_progress with_reducible apply kk.rest

theorem State.unstageOther_kept {P : State → Prop} (kk : Kept P) (kv : KeptV P) {s : State} {p : Path} {i sub : Nat} (h_s : P s) :
    P (State.unstageOther s p i sub) := by
  unfold State.unstageOther
  repeat' first
    | with_reducible assumption
    | with_reducible intro _
    | with_reducible apply State.setStagings_kept
    | split
    | fail_if_no_progress with_reducible apply kk.rest

theorem State.stage_kept {P : State → Prop} (kk : Kept P) (kv : KeptV P) {s : State} {p : Path} {i sub : Nat} {ws : List Word} (h_s : P s) :
    P (State.stage s p i sub ws) := by
  unfold State.stage
  repeat' first
    | with_reducible assumption
    | with_reducible intro _
    | (extract_lets +onlyGivenNames zz
       first
         | (with_reducible refine Kept.cut (P := P) (x := zz) ?_ ?_
            on_goal 2 => clear_value zz
            on_goal 1 => subst zz)
         | (with_reducible refine Kept.cut1 (P := P) (x := zz) ?_ ?_
            on_goal 2 => clear_value zz
            on_goal 1 => subst zz)
         | (have zn : Nat := zz
            clear zn
            subst zz)
         | clear_value zz
         | subst zz)
    | with_reducible apply State.setStagings_kept
    | with_reducible apply State.unstage_kept
    | split
    | fail_if_no_progress with_reducible apply kk.rest

theorem State.latch_kept {P : State → Prop} (kk : Kept P) (kv : KeptV P) {s : State} {p : Path} {i sub : Nat} {ws : List Word} (h_s : P s) :
    P (State.latch s p i sub ws) := by
  unfold State.latch
  repeat' first
    | with_reducible assumption
    | with_reducible intro _
    | (extract_lets +onlyGivenNames zz
       first
         | (with_reducible refine Kept.cut (P := P) (x := zz) ?_ ?_
            on_goal 2 => clear_value zz
            on_goal 1 => subst zz)
         | (with_reducible refine Kept.cut1 (P := P) (x := zz) ?_ ?_
            on_goal 2 => clear_value zz
            on_goal 1 => subst zz)
         | (have zn : Nat := zz
            clear zn
            subst zz)
         | clear_value zz
         | subst zz)
    | split
    | fail_if_no_progress with_reducible apply kk.rest
    | fail_if_no_progress (with_reducible apply kv.svc; with_reducible apply kk.rest)

theorem State.readValue_kept {P : State → Prop} (kk : Kept P) (kv : KeptV P) {s : State} {p : Path} {o : Obj} {r : Row} {i sub : Nat} (h_s : P s) :
    P (State.readValue s p o r i sub).1 := by
  unfold State.readValue
  repeat' first
    | with_reducible assumption
    | with_reducible intro _
    | (extract_lets +onlyGivenNames zz
       first
         | (with_reducible refine Kept.cut (P := P) (x := zz) ?_ ?_
            on_goal 2 => clear_value zz
            on_goal 1 => subst zz)
         | (with_reducible refine Kept.cut1 (P := P) (x := zz) ?_ ?_
            on_goal 2 => clear_value zz
            on_goal 1 => subst zz)
         | (have zn : Nat := zz
            clear zn
            subst zz)
         | clear_value zz
         | subst zz)
    | with_reducible apply State.freeSkip_kept
    | with_reducible apply State.latch_kept
    | split
    | fail_if_no_progress with_reducible apply kk.rest

theorem State.rereadLead_kept {P : State → Prop}  (kh : KeptH P) {s : State} {p : Path} {i sub : Nat} (h_s : P s) :
    P (State.rereadLead s p i sub) := by
  unfold State.rereadLead
  repeat' first
    | with_reducible assumption
    | with_reducible intro _
    | with_reducible apply State.modHalf_kept
    | split
    | fail_if_no_progress with_reducible apply kk.rest

theorem State.collectQueried_kept {P : State → Prop} (kk : Kept P) (kv : KeptV P) {s : State} {p : Path} (h_s : P s) :
    P (State.collectQueried s p) := by
  unfold State.collectQueried
  repeat' first
    | with_reducible assumption
    | with_reducible intro _
    | with_reducible apply State.collect_kept
    | split
    | fail_if_no_progress with_reducible apply kk.rest

theorem State.heard_kept {P : State → Prop}  (kh : KeptH P) {s : State} {server : Option HalfId} (h_s : P s) :
    P (State.heard s server) := by
  unfold State.heard
  repeat' first
    | with_reducible assumption
    | with_reducible intro _
    | with_reducible apply State.beat_kept
    | split
    | fail_if_no_progress with_reducible apply kk.rest

theorem State.countGated_kept {P : State → Prop}  (kd : KeptD P [0x1002]) {s : State} {st : Nat} (h_s : P s) :
    P (State.countGated s st) := by
  unfold State.countGated
  repeat' first
    | with_reducible assumption
    | with_reducible intro _
    | with_reducible apply State.bump_kept
    | exact kd.mem (by decide)
    | exact kd.mem (pick_mem (by decide) (by decide))
    | exact kd.mono (by decide)
    | split
    | fail_if_no_progress with_reducible apply kk.rest

theorem State.checked_kept {P : State → Prop}  (kh : KeptH P) (kd : KeptD P [0x1002]) {s : State} {via : Via} {i sub : Nat} {use : Use} {ws : List Word} {go : State → Obj → Option Row → State × Ans} (h_s : P s) (h_go : ∀ s o r, P s → P (go s o r).1) :
    P (State.checked s via i sub use ws go).1 := by
  unfold State.checked
  repeat' first
    | with_reducible assumption
    | with_reducible intro _
    | (extract_lets +onlyGivenNames zz
       first
         | (with_reducible refine Kept.cut (P := P) (x := zz) ?_ ?_
            on_goal 2 => clear_value zz
            on_goal 1 => subst zz)
         | (with_reducible refine Kept.cut1 (P := P) (x := zz) ?_ ?_
            on_goal 2 => clear_value zz
            on_goal 1 => subst zz)
         | (have zn : Nat := zz
            clear zn
            subst zz)
         | clear_value zz
         | subst zz)
    | with_reducible apply h_go
    | with_reducible apply State.countGated_kept
    | with_reducible apply State.heard_kept
    | exact kd.mem (by decide)
    | exact kd.mem (pick_mem (by decide) (by decide))
    | exact kd.mono (by decide)
    | split
    | fail_if_no_progress with_reducible apply kk.rest

theorem State.shedLook_kept {P : State → Prop}  (kd : KeptD P [0x0011]) {s : State} {o : Obj} {i : Nat} (h_s : P s) :
    KeptO P (State.shedLook s o i) := by
  unfold State.shedLook
  repeat' first
    | with_reducible assumption
    | with_reducible intro _
    | with_reducible refine KeptO.none
    | with_reducible refine KeptO.some ?_
    | with_reducible apply State.bump_kept
    | exact kd.mem (by decide)
    | exact kd.mem (pick_mem (by decide) (by decide))
    | exact kd.mono (by decide)
    | with_reducible apply KeptO.ite
    | split
    | fail_if_no_progress with_reducible apply kk.rest

theorem State.opRead_kept {P : State → Prop} (kk : Kept P) (kh : KeptH P) (kv : KeptV P) (kd : KeptD P [0x0011, 0x1002]) {s : State} {q : Req} (h_s : P s) :
    P (State.opRead s q).1 := by
  unfold State.opRead
  repeat' first
    | with_reducible assumption
    | with_reducible intro _
    | (extract_lets +onlyGivenNames zz
       first
         | (with_reducible refine Kept.cut (P := P) (x := zz) ?_ ?_
            on_goal 2 => clear_value zz
            on_goal 1 => subst zz)
         | (with_reducible refine Kept.cut1 (P := P) (x := zz) ?_ ?_
            on_goal 2 => clear_value zz
            on_goal 1 => subst zz)
         | (have zn : Nat := zz
            clear zn
            subst zz)
         | clear_value zz
         | subst zz)
    | with_reducible refine State.busyStatus_some_kept (by first | exact kd.mono (by decide) | exact ka.toD) ?_ (by with_reducible assumption)
    | with_reducible refine KeptO.getD ?_ ?_
    | with_reducible refine KeptO.of_eq (by with_reducible assumption) ?_
    | with_reducible apply State.busyStatus_kept
    | with_reducible apply State.checked_kept
    | with_reducible apply State.collectQueried_kept
    | with_reducible apply State.readValue_kept
    | with_reducible apply State.rereadLead_kept
    | with_reducible apply State.shedLook_kept
    | exact kd.mem (by decide)
    | exact kd.mem (pick_mem (by decide) (by decide))
    | exact kd.mono (by decide)
    | split
    | fail_if_no_progress with_reducible apply kk.rest

theorem State.takeClaim_kept {P : State → Prop} (kk : Kept P) (kg : KeptK P) {s : State} {p : Path} {w : Word} (h_s : P s) :
    P (State.takeClaim s p w).1 := by
  unfold State.takeClaim
  repeat' first
    | with_reducible assumption
    | with_reducible intro _
    | with_reducible apply State.claim_kept
    | split
    | fail_if_no_progress with_reducible apply kk.rest

theorem State.wholeWrite_kept {P : State → Prop} (kk : Kept P) (km : KeptM P) (kc : KeptC P) (kt : KeptT P) (ks : KeptS P) (kg : KeptK P) (kh : KeptH P) (kv : KeptV P) (kb : KeptB P) (kl : KeptL P) (ka : KeptA P) (kq : KeptQ P) {s : State} {x : Aux} {via : Via} {o : Obj} {r : Row} {i tag : Nat} {ws : List Word} (h_s : P s) :
    P (State.wholeWrite s x via o r i tag ws).1 := by
  unfold State.wholeWrite
  repeat' first
    | with_reducible assumption
    | with_reducible intro _
    | exact ka.mem _
    | exact ka.toD
    | exact ka.toN
    | with_reducible apply State.commit_kept
    | with_reducible apply State.takeClaim_kept
    | exact ka.mem _
    | exact ka.toD
    | exact ka.toN
    | split
    | fail_if_no_progress with_reducible apply kk.rest

theorem State.wordWrite_kept {P : State → Prop} (kk : Kept P) (km : KeptM P) (kc : KeptC P) (kt : KeptT P) (ks : KeptS P) (kg : KeptK P) (kh : KeptH P) (kv : KeptV P) (kb : KeptB P) (kl : KeptL P) (ka : KeptA P) (kq : KeptQ P) {s : State} {x : Aux} {via : Via} {o : Obj} {r : Row} {i sub tag : Nat} {w : Word} (h_s : P s) :
    P (State.wordWrite s x via o r i sub tag w).1 := by
  unfold State.wordWrite
  repeat' first
    | with_reducible assumption
    | with_reducible intro _
    | exact ka.mem _
    | exact ka.toD
    | exact ka.toN
    | (extract_lets +onlyGivenNames zz
       first
         | (with_reducible refine Kept.cut (P := P) (x := zz) ?_ ?_
            on_goal 2 => clear_value zz
            on_goal 1 => subst zz)
         | (with_reducible refine Kept.cut1 (P := P) (x := zz) ?_ ?_
            on_goal 2 => clear_value zz
            on_goal 1 => subst zz)
         | (have zn : Nat := zz
            clear zn
            subst zz)
         | clear_value zz
         | subst zz)
    | with_reducible apply State.stage_kept
    | with_reducible apply State.unstage_kept
    | with_reducible apply State.wholeWrite_kept
    | exact ka.mem _
    | exact ka.toD
    | exact ka.toN
    | split
    | fail_if_no_progress with_reducible apply kk.rest

theorem State.opWrite_kept {P : State → Prop} (kk : Kept P) (km : KeptM P) (kc : KeptC P) (kt : KeptT P) (ks : KeptS P) (kg : KeptK P) (kh : KeptH P) (kv : KeptV P) (kb : KeptB P) (kl : KeptL P) (ka : KeptA P) (kq : KeptQ P) {s : State} {x : Aux} {q : Req} (h_s : P s) :
    P (State.opWrite s x q).1 := by
  unfold State.opWrite
  repeat' first
    | with_reducible assumption
    | with_reducible intro _
    | exact ka.mem _
    | exact ka.toD
    | exact ka.toN
    | (extract_lets +onlyGivenNames zz
       first
         | (with_reducible refine Kept.cut (P := P) (x := zz) ?_ ?_
            on_goal 2 => clear_value zz
            on_goal 1 => subst zz)
         | (with_reducible refine Kept.cut1 (P := P) (x := zz) ?_ ?_
            on_goal 2 => clear_value zz
            on_goal 1 => subst zz)
         | (have zn : Nat := zz
            clear zn
            subst zz)
         | clear_value zz
         | subst zz)
    | with_reducible apply State.checked_kept
    | with_reducible apply State.unstage_kept
    | with_reducible apply State.unstageOther_kept
    | with_reducible apply State.wholeWrite_kept
    | with_reducible apply State.wordWrite_kept
    | exact ka.mem _
    | exact ka.toD
    | exact ka.toN
    | split
    | fail_if_no_progress with_reducible apply kk.rest

theorem State.opWriteIf_kept {P : State → Prop} (kk : Kept P) (km : KeptM P) (kc : KeptC P) (kt : KeptT P) (ks : KeptS P) (kg : KeptK P) (kh : KeptH P) (kv : KeptV P) (kb : KeptB P) (kl : KeptL P) (ka : KeptA P) (kq : KeptQ P) {s : State} {q : Req} (h_s : P s) :
    P (State.opWriteIf s q).1 := by
  unfold State.opWriteIf
  repeat' first
    | with_reducible assumption
    | with_reducible intro _
    | exact ka.mem _
    | exact ka.toD
    | exact ka.toN
    | (extract_lets +onlyGivenNames zz
       first
         | (with_reducible refine Kept.cut (P := P) (x := zz) ?_ ?_
            on_goal 2 => clear_value zz
            on_goal 1 => subst zz)
         | (with_reducible refine Kept.cut1 (P := P) (x := zz) ?_ ?_
            on_goal 2 => clear_value zz
            on_goal 1 => subst zz)
         | (have zn : Nat := zz
            clear zn
            subst zz)
         | clear_value zz
         | subst zz)
    | with_reducible apply State.checked_kept
    | with_reducible apply State.commit_kept
    | with_reducible apply State.unstage_kept
    | with_reducible apply State.unstageOther_kept
    | exact ka.mem _
    | exact ka.toD
    | exact ka.toN
    | split
    | fail_if_no_progress with_reducible apply kk.rest

theorem State.opDescribe_kept {P : State → Prop}  (kh : KeptH P) (kd : KeptD P [0x0011, 0x1002]) {s : State} {q : Req} (h_s : P s) :
    P (State.opDescribe s q).1 := by
  unfold State.opDescribe
  repeat' first
    | with_reducible assumption
    | with_reducible intro _
    | (extract_lets +onlyGivenNames zz
       first
         | (with_reducible refine Kept.cut (P := P) (x := zz) ?_ ?_
            on_goal 2 => clear_value zz
            on_goal 1 => subst zz)
         | (with_reducible refine Kept.cut1 (P := P) (x := zz) ?_ ?_
            on_goal 2 => clear_value zz
            on_goal 1 => subst zz)
         | (have zn : Nat := zz
            clear zn
            subst zz)
         | clear_value zz
         | subst zz)
    | with_reducible refine KeptO.getD ?_ ?_
    | with_reducible refine KeptO.of_eq (by with_reducible assumption) ?_
    | with_reducible apply State.checked_kept
    | with_reducible apply State.shedLook_kept
    | exact kd.mem (by decide)
    | exact kd.mem (pick_mem (by decide) (by decide))
    | exact kd.mono (by decide)
    | split
    | fail_if_no_progress with_reducible apply kk.rest

theorem State.opNext_kept {P : State → Prop}  (kd : KeptD P [0x0011]) {s : State} {q : Req} (h_s : P s) :
    P (State.opNext s q).1 := by
  unfold State.opNext
  repeat' first
    | with_reducible assumption
    | with_reducible intro _
    | with_reducible refine KeptO.getD ?_ ?_
    | with_reducible refine KeptO.of_eq (by with_reducible assumption) ?_
    | with_reducible apply State.shedLook_kept
    | exact kd.mem (by decide)
    | exact kd.mem (pick_mem (by decide) (by decide))
    | exact kd.mono (by decide)
    | split
    | fail_if_no_progress with_reducible apply kk.rest

theorem State.opOther_kept {P : State → Prop}  (kh : KeptH P) (kd : KeptD P [0x1002]) {s : State} {q : Req} (h_s : P s) :
    P (State.opOther s q).1 := by
  unfold State.opOther
  repeat' first
    | with_reducible assumption
    | with_reducible intro _
    | with_reducible apply State.checked_kept
    | exact kd.mem (by decide)
    | exact kd.mem (pick_mem (by decide) (by decide))
    | exact kd.mono (by decide)
    | split
    | fail_if_no_progress with_reducible apply kk.rest

theorem State.opTicket_kept {P : State → Prop} (kk : Kept P) (kh : KeptH P) (kv : KeptV P) (kd : KeptD P [0x1002]) {s : State} {q : Req} (h_s : P s) :
    P (State.opTicket s q).1 := by
  unfold State.opTicket
  repeat' first
    | with_reducible assumption
    | with_reducible intro _
    | (extract_lets +onlyGivenNames zz
       first
         | (with_reducible refine Kept.cut (P := P) (x := zz) ?_ ?_
            on_goal 2 => clear_value zz
            on_goal 1 => subst zz)
         | (with_reducible refine Kept.cut1 (P := P) (x := zz) ?_ ?_
            on_goal 2 => clear_value zz
            on_goal 1 => subst zz)
         | (have zn : Nat := zz
            clear zn
            subst zz)
         | clear_value zz
         | subst zz)
    | with_reducible apply State.checked_kept
    | with_reducible apply State.collect_kept
    | exact kd.mem (by decide)
    | exact kd.mem (pick_mem (by decide) (by decide))
    | exact kd.mono (by decide)
    | split
    | fail_if_no_progress with_reducible apply kk.rest

theorem State.setSnapshots_kept {P : State → Prop} (kk : Kept P) (kv : KeptV P) {s : State} {l : List Snapshot} (h_s : P s) :
    P (State.setSnapshots s l) := by
  unfold State.setSnapshots
  repeat' first
    | with_reducible assumption
    | with_reducible intro _
    | split
    | fail_if_no_progress with_reducible apply kk.rest
    | fail_if_no_progress (with_reducible apply kv.svc; with_reducible apply kk.rest)

theorem State.closeSnapshot_kept {P : State → Prop} (kk : Kept P) (kv : KeptV P) {s : State} {p : Path} {i sub : Nat} (h_s : P s) :
    P (State.closeSnapshot s p i sub) := by
  unfold State.closeSnapshot
  repeat' first
    | with_reducible assumption
    | with_reducible intro _
    | with_reducible apply State.setSnapshots_kept
    | split
    | fail_if_no_progress with_reducible apply kk.rest

theorem State.takeSnapshot_kept {P : State → Prop} (kk : Kept P) (kv : KeptV P) {s : State} {p : Path} {i sub u : Nat} (h_s : P s) :
    P (State.takeSnapshot s p i sub u).1 := by
  unfold State.takeSnapshot
  repeat' first
    | with_reducible assumption
    | with_reducible intro _
    | (extract_lets +onlyGivenNames zz
       first
         | (with_reducible refine Kept.cut (P := P) (x := zz) ?_ ?_
            on_goal 2 => clear_value zz
            on_goal 1 => subst zz)
         | (with_reducible refine Kept.cut1 (P := P) (x := zz) ?_ ?_
            on_goal 2 => clear_value zz
            on_goal 1 => subst zz)
         | (have zn : Nat := zz
            clear zn
            subst zz)
         | clear_value zz
         | subst zz)
    | with_reducible apply State.closeSnapshot_kept
    | with_reducible apply State.exportBlob_kept
    | with_reducible apply State.setSnapshots_kept
    | split
    | fail_if_no_progress with_reducible apply kk.rest

theorem State.segmentSource_kept {P : State → Prop} (kk : Kept P) (kv : KeptV P) {s : State} {p : Path} {i sub u off : Nat} (h_s : P s) :
    P (State.segmentSource s p i sub u off).1 := by
  unfold State.segmentSource
  repeat' first
    | with_reducible assumption
    | with_reducible intro _
    | with_reducible apply State.takeSnapshot_kept
    | split
    | fail_if_no_progress with_reducible apply kk.rest

theorem State.opReadSeg_kept {P : State → Prop} (kk : Kept P) (kh : KeptH P) (kv : KeptV P) (kd : KeptD P [0x0011, 0x1002]) {s : State} {q : Req} (h_s : P s) :
    P (State.opReadSeg s q).1 := by
  unfold State.opReadSeg
  repeat' first
    | with_reducible assumption
    | with_reducible intro _
    | (extract_lets +onlyGivenNames zz
       first
         | (with_reducible refine Kept.cut (P := P) (x := zz) ?_ ?_
            on_goal 2 => clear_value zz
            on_goal 1 => subst zz)
         | (with_reducible refine Kept.cut1 (P := P) (x := zz) ?_ ?_
            on_goal 2 => clear_value zz
            on_goal 1 => subst zz)
         | (have zn : Nat := zz
            clear zn
            subst zz)
         | clear_value zz
         | subst zz)
    | with_reducible refine State.busyStatus_some_kept (by first | exact kd.mono (by decide) | exact ka.toD) ?_ (by with_reducible assumption)
    | with_reducible apply State.busyStatus_kept
    | with_reducible apply State.checked_kept
    | with_reducible apply State.closeSnapshot_kept
    | with_reducible apply State.emit_kept
    | with_reducible apply State.segmentSource_kept
    | exact kd.mem (by decide)
    | exact kd.mem (pick_mem (by decide) (by decide))
    | exact kd.mono (by decide)
    | split
    | fail_if_no_progress with_reducible apply kk.rest

theorem State.setDomWrites_kept {P : State → Prop} (kk : Kept P) (kv : KeptV P) {s : State} {l : List DomWrite} (h_s : P s) :
    P (State.setDomWrites s l) := by
  unfold State.setDomWrites
  repeat' first
    | with_reducible assumption
    | with_reducible intro _
    | split
    | fail_if_no_progress with_reducible apply kk.rest
    | fail_if_no_progress (with_reducible apply kv.svc; with_reducible apply kk.rest)

theorem State.closeDomain_kept {P : State → Prop} (kk : Kept P) (kv : KeptV P) {s : State} {p : Path} (h_s : P s) :
    P (State.closeDomain s p) := by
  unfold State.closeDomain
  repeat' first
    | with_reducible assumption
    | with_reducible intro _
    | with_reducible apply State.setDomWrites_kept
    | split
    | fail_if_no_progress with_reducible apply kk.rest

theorem State.commitDomain_kept {P : State → Prop} (kk : Kept P) (km : KeptM P) (kc : KeptC P) (kt : KeptT P) (kg : KeptK P) (kv : KeptV P) (kb : KeptB P) (kd : KeptD P [0x0011, 0x0080, 0x2000, 0x2001, 0x2010, 0x2011, 0x2012, 0x3031, 0x4001, 0x4003, 0x4004, 0x4005, 0x4010, 0x4012, 0x4021, 0x5010, 0x5020, 0x6010, 0x7021, 0x7040, 0x9010, 0x9070, 0xF001, 0xF030]) (kn : KeptN P) (kq : KeptQ P) {s : State} {via : Via} {o : Obj} {r : Row} {i u : Nat} {l : List Byte} (h_s : P s) :
    P (State.commitDomain s via o r i u l).1 := by
  unfold State.commitDomain
  repeat' first
    | with_reducible assumption
    | with_reducible intro _
    | (extract_lets +onlyGivenNames zz
       first
         | (with_reducible refine KeptX.cut (P := P) (x := zz) ?_ ?_
            on_goal 2 => clear_value zz
            on_goal 1 => subst zz)
         | (with_reducible refine Kept.cut (P := P) (x := zz) ?_ ?_
            on_goal 2 => clear_value zz
            on_goal 1 => subst zz)
         | (with_reducible refine Kept.cut1 (P := P) (x := zz) ?_ ?_
            on_goal 2 => clear_value zz
            on_goal 1 => subst zz)
         | (have zn : Nat := zz
            clear zn
            subst zz)
         | clear_value zz
         | subst zz)
    | with_reducible refine State.busyStatus_some_kept (by first | exact kd.mono (by decide) | exact ka.toD) ?_ (by with_reducible assumption)
    | with_reducible apply State.actDomain_kept
    | with_reducible apply State.busyStatus_kept
    | with_reducible apply State.settleWrite_kept
    | exact kd.mem (by decide)
    | exact kd.mem (pick_mem (by decide) (by decide))
    | exact kd.mono (by decide)
    | exact kn.mem _
    | split
    | fail_if_no_progress with_reducible apply kk.rest

theorem State.opWriteSeg_kept {P : State → Prop} (kk : Kept P) (km : KeptM P) (kc : KeptC P) (kt : KeptT P) (kg : KeptK P) (kh : KeptH P) (kv : KeptV P) (kb : KeptB P) (kd : KeptD P [0x0011, 0x0080, 0x1002, 0x2000, 0x2001, 0x2010, 0x2011, 0x2012, 0x3031, 0x4001, 0x4003, 0x4004, 0x4005, 0x4010, 0x4012, 0x4021, 0x5010, 0x5020, 0x6010, 0x7021, 0x7040, 0x9010, 0x9070, 0xF001, 0xF030]) (kn : KeptN P) (kq : KeptQ P) {s : State} {q : Req} {off : Nat} {first final : Bool} {data : List Byte} (h_s : P s) :
    P (State.opWriteSeg s q off first final data).1 := by
  unfold State.opWriteSeg
  repeat' first
    | with_reducible assumption
    | with_reducible intro _
    | (extract_lets +onlyGivenNames zz
       first
         | (with_reducible refine Kept.cut (P := P) (x := zz) ?_ ?_
            on_goal 2 => clear_value zz
            on_goal 1 => subst zz)
         | (with_reducible refine Kept.cut1 (P := P) (x := zz) ?_ ?_
            on_goal 2 => clear_value zz
            on_goal 1 => subst zz)
         | (have zn : Nat := zz
            clear zn
            subst zz)
         | clear_value zz
         | subst zz)
    | with_reducible apply State.checked_kept
    | with_reducible apply State.closeDomain_kept
    | with_reducible apply State.commitDomain_kept
    | with_reducible apply State.setDomWrites_kept
    | with_reducible apply State.unstageOther_kept
    | exact kd.mem (by decide)
    | exact kd.mem (pick_mem (by decide) (by decide))
    | exact kd.mono (by decide)
    | exact kn.mem _
    | split
    | fail_if_no_progress with_reducible apply kk.rest

theorem State.interrupt_kept {P : State → Prop} (kk : Kept P) {s : State} {p : Path} (h_s : P s) :
    P (State.interrupt s p) := by
  unfold State.interrupt
  repeat' first
    | with_reducible assumption
    | with_reducible intro _
    | with_reducible apply State.emit_kept
    | split
    | fail_if_no_progress with_reducible apply kk.rest

theorem State.serve_kept {P : State → Prop} (kk : Kept P) (kh : KeptH P) (kd : KeptD P [0x0010, 0x1002]) {s : State} {q : Req} {op : Nat} {f : State → State × Ans} (h_s : P s) (h_f : ∀ s, P s → P (f s).1) :
    P (State.serve s q op f) := by
  unfold State.serve
  repeat' first
    | with_reducible assumption
    | with_reducible intro _
    | (extract_lets +onlyGivenNames zz
       first
         | (with_reducible refine Kept.cut (P := P) (x := zz) ?_ ?_
            on_goal 2 => clear_value zz
            on_goal 1 => subst zz)
         | (with_reducible refine Kept.cut1 (P := P) (x := zz) ?_ ?_
            on_goal 2 => clear_value zz
            on_goal 1 => subst zz)
         | (have zn : Nat := zz
            clear zn
            subst zz)
         | clear_value zz
         | subst zz)
    | with_reducible apply h_f
    | with_reducible apply State.interrupt_kept
    | with_reducible apply State.opOther_kept
    | with_reducible apply State.send_kept
    | exact kd.mem (by decide)
    | exact kd.mem (pick_mem (by decide) (by decide))
    | exact kd.mono (by decide)
    | split
    | fail_if_no_progress with_reducible apply kk.rest

theorem State.serveWrite_kept {P : State → Prop} (kk : Kept P) (kh : KeptH P) (kd : KeptD P [0x0010, 0x1002]) {s : State} {q : Req} {op : Nat} {f : State → State × Ans} (h_s : P s) (h_f : ∀ s, P s → P (f s).1) :
    P (State.serveWrite s q op f) := by
  unfold State.serveWrite
  repeat' first
    | with_reducible assumption
    | with_reducible intro _
    | with_reducible apply h_f
    | with_reducible apply State.serve_kept
    | exact kd.mem (by decide)
    | exact kd.mem (pick_mem (by decide) (by decide))
    | exact kd.mono (by decide)
    | split
    | fail_if_no_progress with_reducible apply kk.rest

theorem execWriteObject_kept {P : State → Prop} (kk : Kept P) (km : KeptM P) (kc : KeptC P) (kt : KeptT P) (ks : KeptS P) (kg : KeptK P) (kh : KeptH P) (kv : KeptV P) (kb : KeptB P) (kl : KeptL P) (ka : KeptA P) (kq : KeptQ P) {req : Req} {s : State} (h_s : P s) :
    KeptR P (execWriteObject req s) := by
  unfold execWriteObject
  repeat' first
    | with_reducible assumption
    | with_reducible intro _
    | exact ka.mem _
    | exact ka.toD
    | exact ka.toN
    | with_reducible refine KeptR.onPower ?_ (fun _ => ?_)
    | with_reducible refine KeptR.next ?_
    | with_reducible exact KeptR.fault _
    | with_reducible apply State.opWrite_kept
    | with_reducible apply State.serveWrite_kept
    | exact ka.mem _
    | exact ka.toD
    | exact ka.toN
    | split
    | fail_if_no_progress with_reducible apply kk.rest

theorem execRead_kept {P : State → Prop} (kk : Kept P) (kh : KeptH P) (kv : KeptV P) (kd : KeptD P [0x0010, 0x0011, 0x1002]) {req : Req} {s : State} (h_s : P s) :
    KeptR P (execRead req s) := by
  unfold execRead
  repeat' first
    | with_reducible assumption
    | with_reducible intro _
    | with_reducible refine KeptR.onPower ?_ (fun _ => ?_)
    | with_reducible refine KeptR.next ?_
    | with_reducible exact KeptR.fault _
    | with_reducible apply State.opRead_kept
    | with_reducible apply State.serve_kept
    | exact kd.mem (by decide)
    | exact kd.mem (pick_mem (by decide) (by decide))
    | exact kd.mono (by decide)
    | split
    | fail_if_no_progress with_reducible apply kk.rest

theorem execWrite_kept {P : State → Prop} (kk : Kept P) (km : KeptM P) (kc : KeptC P) (kt : KeptT P) (ks : KeptS P) (kg : KeptK P) (kh : KeptH P) (kv : KeptV P) (kb : KeptB P) (kl : KeptL P) (ka : KeptA P) (kq : KeptQ P) {req : Req} {s : State} (h_s : P s) :
    KeptR P (execWrite req s) := by
  unfold execWrite
  repeat' first
    | with_reducible assumption
    | with_reducible intro _
    | exact ka.mem _
    | exact ka.toD
    | exact ka.toN
    | with_reducible refine KeptR.onPower ?_ (fun _ => ?_)
    | with_reducible refine KeptR.next ?_
    | with_reducible exact KeptR.fault _
    | with_reducible apply State.opWrite_kept
    | with_reducible apply State.serveWrite_kept
    | exact ka.mem _
    | exact ka.toD
    | exact ka.toN
    | split
    | fail_if_no_progress with_reducible apply kk.rest

theorem execWriteIf_kept {P : State → Prop} (kk : Kept P) (km : KeptM P) (kc : KeptC P) (kt : KeptT P) (ks : KeptS P) (kg : KeptK P) (kh : KeptH P) (kv : KeptV P) (kb : KeptB P) (kl : KeptL P) (ka : KeptA P) (kq : KeptQ P) {req : Req} {s : State} (h_s : P s) :
    KeptR P (execWriteIf req s) := by
  unfold execWriteIf
  repeat' first
    | with_reducible assumption
    | with_reducible intro _
    | exact ka.mem _
    | exact ka.toD
    | exact ka.toN
    | with_reducible refine KeptR.onPower ?_ (fun _ => ?_)
    | with_reducible refine KeptR.next ?_
    | with_reducible exact KeptR.fault _
    | with_reducible apply State.opWriteIf_kept
    | with_reducible apply State.serveWrite_kept
    | exact ka.mem _
    | exact ka.toD
    | exact ka.toN
    | split
    | fail_if_no_progress with_reducible apply kk.rest

theorem execDescribe_kept {P : State → Prop} (kk : Kept P) (kh : KeptH P) (kd : KeptD P [0x0010, 0x0011, 0x1002]) {req : Req} {s : State} (h_s : P s) :
    KeptR P (execDescribe req s) := by
  unfold execDescribe
  repeat' first
    | with_reducible assumption
    | with_reducible intro _
    | with_reducible refine KeptR.onPower ?_ (fun _ => ?_)
    | with_reducible refine KeptR.next ?_
    | with_reducible exact KeptR.fault _
    | with_reducible apply State.opDescribe_kept
    | with_reducible apply State.serve_kept
    | exact kd.mem (by decide)
    | exact kd.mem (pick_mem (by decide) (by decide))
    | exact kd.mono (by decide)
    | split
    | fail_if_no_progress with_reducible apply kk.rest

theorem execReadSeg_kept {P : State → Prop} (kk : Kept P) (kh : KeptH P) (kv : KeptV P) (kd : KeptD P [0x0010, 0x0011, 0x1002]) {req : Req} {s : State} (h_s : P s) :
    KeptR P (execReadSeg req s) := by
  unfold execReadSeg
  repeat' first
    | with_reducible assumption
    | with_reducible intro _
    | with_reducible refine KeptR.onPower ?_ (fun _ => ?_)
    | with_reducible refine KeptR.next ?_
    | with_reducible exact KeptR.fault _
    | with_reducible apply State.opReadSeg_kept
    | with_reducible apply State.serve_kept
    | exact kd.mem (by decide)
    | exact kd.mem (pick_mem (by decide) (by decide))
    | exact kd.mono (by decide)
    | split
    | fail_if_no_progress with_reducible apply kk.rest

theorem execWriteSeg_kept {P : State → Prop} (kk : Kept P) (km : KeptM P) (kc : KeptC P) (kt : KeptT P) (kg : KeptK P) (kh : KeptH P) (kv : KeptV P) (kb : KeptB P) (kd : KeptD P [0x0010, 0x0011, 0x0080, 0x1002, 0x2000, 0x2001, 0x2010, 0x2011, 0x2012, 0x3031, 0x4001, 0x4003, 0x4004, 0x4005, 0x4010, 0x4012, 0x4021, 0x5010, 0x5020, 0x6010, 0x7021, 0x7040, 0x9010, 0x9070, 0xF001, 0xF030]) (kn : KeptN P) (kq : KeptQ P) {req : Req} {offset : Nat} {first final : Bool} {data : List Byte} {s : State} (h_s : P s) :
    KeptR P (execWriteSeg req offset first final data s) := by
  unfold execWriteSeg
  repeat' first
    | with_reducible assumption
    | with_reducible intro _
    | exact kd.mem (by decide)
    | exact kd.mem (pick_mem (by decide) (by decide))
    | exact kd.mono (by decide)
    | exact kn.mem _
    | with_reducible refine KeptR.onPower ?_ (fun _ => ?_)
    | with_reducible refine KeptR.next ?_
    | with_reducible exact KeptR.fault _
    | with_reducible apply State.opWriteSeg_kept
    | with_reducible apply State.serve_kept
    | exact kd.mem (by decide)
    | exact kd.mem (pick_mem (by decide) (by decide))
    | exact kd.mono (by decide)
    | exact kn.mem _
    | split
    | fail_if_no_progress with_reducible apply kk.rest

theorem execTicket_kept {P : State → Prop} (kk : Kept P) (kh : KeptH P) (kv : KeptV P) (kd : KeptD P [0x0010, 0x1002]) {req : Req} {s : State} (h_s : P s) :
    KeptR P (execTicket req s) := by
  unfold execTicket
  repeat' first
    | with_reducible assumption
    | with_reducible intro _
    | with_reducible refine KeptR.onPower ?_ (fun _ => ?_)
    | with_reducible refine KeptR.next ?_
    | with_reducible exact KeptR.fault _
    | with_reducible apply State.opTicket_kept
    | with_reducible apply State.serve_kept
    | exact kd.mem (by decide)
    | exact kd.mem (pick_mem (by decide) (by decide))
    | exact kd.mono (by decide)
    | split
    | fail_if_no_progress with_reducible apply kk.rest

theorem execNextObj_kept {P : State → Prop} (kk : Kept P) (kh : KeptH P) (kd : KeptD P [0x0010, 0x0011, 0x1002]) {req : Req} {s : State} (h_s : P s) :
    KeptR P (execNextObj req s) := by
  unfold execNextObj
  repeat' first
    | with_reducible assumption
    | with_reducible intro _
    | with_reducible refine KeptR.onPower ?_ (fun _ => ?_)
    | with_reducible refine KeptR.next ?_
    | with_reducible exact KeptR.fault _
    | with_reducible apply State.opNext_kept
    | with_reducible apply State.serve_kept
    | exact kd.mem (by decide)
    | exact kd.mem (pick_mem (by decide) (by decide))
    | exact kd.mono (by decide)
    | split
    | fail_if_no_progress with_reducible apply kk.rest

theorem State.ticketQuery_kept {P : State → Prop} (kk : Kept P) (kv : KeptV P) (kd : KeptD P [0x0010]) {s : State} (h_s : P s) :
    P (State.ticketQuery s).1 := by
  unfold State.ticketQuery
  repeat' first
    | with_reducible assumption
    | with_reducible intro _
    | with_reducible apply State.collectQueried_kept
    | with_reducible apply State.recordWindow_kept
    | exact kd.mem (by decide)
    | exact kd.mem (pick_mem (by decide) (by decide))
    | exact kd.mono (by decide)
    | split
    | fail_if_no_progress with_reducible apply kk.rest

theorem State.windowRead_kept {P : State → Prop} (kk : Kept P) (kh : KeptH P) (kv : KeptV P) (kd : KeptD P [0x0010, 0x0011, 0x1002]) {s : State} {offset : Nat} (h_s : P s) :
    P (State.windowRead s offset).1 := by
  unfold State.windowRead
  repeat' first
    | with_reducible assumption
    | with_reducible intro _
    | (extract_lets +onlyGivenNames zz
       first
         | (with_reducible refine Kept.cut (P := P) (x := zz) ?_ ?_
            on_goal 2 => clear_value zz
            on_goal 1 => subst zz)
         | (with_reducible refine Kept.cut1 (P := P) (x := zz) ?_ ?_
            on_goal 2 => clear_value zz
            on_goal 1 => subst zz)
         | (have zn : Nat := zz
            clear zn
            subst zz)
         | clear_value zz
         | subst zz)
    | with_reducible apply State.opRead_kept
    | with_reducible apply State.respond_kept
    | with_reducible apply State.ticketQuery_kept
    | exact kd.mem (by decide)
    | exact kd.mem (pick_mem (by decide) (by decide))
    | exact kd.mono (by decide)
    | split
    | fail_if_no_progress with_reducible apply kk.rest

theorem State.windowComplete_kept {P : State → Prop} (kk : Kept P) (kh : KeptH P) (kv : KeptV P) (kd : KeptD P [0x0010, 0x0011, 0x1002]) {s : State} {offset width : Nat} (h_s : P s) :
    P (State.windowComplete s offset width) := by
  unfold State.windowComplete
  repeat' first
    | with_reducible assumption
    | with_reducible intro _
    | (extract_lets +onlyGivenNames zz
       first
         | (with_reducible refine Kept.cut (P := P) (x := zz) ?_ ?_
            on_goal 2 => clear_value zz
            on_goal 1 => subst zz)
         | (with_reducible refine Kept.cut1 (P := P) (x := zz) ?_ ?_
            on_goal 2 => clear_value zz
            on_goal 1 => subst zz)
         | (have zn : Nat := zz
            clear zn
            subst zz)
         | clear_value zz
         | subst zz)
    | with_reducible apply State.emit_kept
    | with_reducible apply State.windowRead_kept
    | exact kd.mem (by decide)
    | exact kd.mem (pick_mem (by decide) (by decide))
    | exact kd.mono (by decide)
    | split
    | fail_if_no_progress with_reducible apply kk.rest

theorem execBar2Read_kept {P : State → Prop} (kk : Kept P) (kh : KeptH P) (kv : KeptV P) (kd : KeptD P [0x0010, 0x0011, 0x1002]) {offset width : Nat} {s : State} (h_s : P s) :
    KeptR P (execBar2Read offset width s) := by
  unfold execBar2Read
  repeat' first
    | with_reducible assumption
    | with_reducible intro _
    | with_reducible refine KeptR.onPower ?_ (fun _ => ?_)
    | with_reducible refine KeptR.next ?_
    | with_reducible exact KeptR.fault _
    | with_reducible apply State.windowComplete_kept
    | exact kd.mem (by decide)
    | exact kd.mem (pick_mem (by decide) (by decide))
    | exact kd.mono (by decide)
    | split
    | fail_if_no_progress with_reducible apply kk.rest

theorem State.windowWrite_kept {P : State → Prop} (kk : Kept P) (km : KeptM P) (kc : KeptC P) (kt : KeptT P) (ks : KeptS P) (kg : KeptK P) (kh : KeptH P) (kv : KeptV P) (kb : KeptB P) (kl : KeptL P) (ka : KeptA P) (kq : KeptQ P) {s : State} {offset : Nat} {w : Word} (h_s : P s) :
    P (State.windowWrite s offset w) := by
  unfold State.windowWrite
  repeat' first
    | with_reducible assumption
    | with_reducible intro _
    | exact ka.mem _
    | exact ka.toD
    | exact ka.toN
    | (extract_lets +onlyGivenNames zz
       first
         | (with_reducible refine Kept.cut (P := P) (x := zz) ?_ ?_
            on_goal 2 => clear_value zz
            on_goal 1 => subst zz)
         | (with_reducible refine Kept.cut1 (P := P) (x := zz) ?_ ?_
            on_goal 2 => clear_value zz
            on_goal 1 => subst zz)
         | (have zn : Nat := zz
            clear zn
            subst zz)
         | clear_value zz
         | subst zz)
    | with_reducible apply State.opWrite_kept
    | with_reducible apply State.serve_kept
    | exact ka.mem _
    | exact ka.toD
    | exact ka.toN
    | split
    | fail_if_no_progress with_reducible apply kk.rest

theorem execBar2Write_kept {P : State → Prop} (kk : Kept P) (km : KeptM P) (kc : KeptC P) (kt : KeptT P) (ks : KeptS P) (kg : KeptK P) (kh : KeptH P) (kv : KeptV P) (kb : KeptB P) (kl : KeptL P) (ka : KeptA P) (kq : KeptQ P) {offset width : Nat} {value : BitVec 64} {s : State} (h_s : P s) :
    KeptR P (execBar2Write offset width value s) := by
  unfold execBar2Write
  repeat' first
    | with_reducible assumption
    | with_reducible intro _
    | exact ka.mem _
    | exact ka.toD
    | exact ka.toN
    | (extract_lets +onlyGivenNames zz
       first
         | (with_reducible refine Kept.cut (P := P) (x := zz) ?_ ?_
            on_goal 2 => clear_value zz
            on_goal 1 => subst zz)
         | (with_reducible refine Kept.cut1 (P := P) (x := zz) ?_ ?_
            on_goal 2 => clear_value zz
            on_goal 1 => subst zz)
         | (have zn : Nat := zz
            clear zn
            subst zz)
         | clear_value zz
         | subst zz)
    | with_reducible refine KeptR.onPower ?_ (fun _ => ?_)
    | with_reducible refine KeptR.next ?_
    | with_reducible exact KeptR.fault _
    | with_reducible apply State.emit_kept
    | with_reducible apply State.windowWrite_kept
    | exact ka.mem _
    | exact ka.toD
    | exact ka.toN
    | split
    | fail_if_no_progress with_reducible apply kk.rest

theorem State.recordLate_kept {P : State → Prop} (kk : Kept P) (kd : KeptD P [0x0010]) {s : State} {h : HalfId} {offset : Nat} (h_s : P s) :
    P (State.recordLate s h offset) := by
  unfold State.recordLate
  repeat' first
    | with_reducible assumption
    | with_reducible intro _
    | with_reducible apply State.recordWindow_kept
    | exact kd.mem (by decide)
    | exact kd.mem (pick_mem (by decide) (by decide))
    | exact kd.mono (by decide)
    | split
    | fail_if_no_progress with_reducible apply kk.rest

theorem execBar2ReadTimeout_kept {P : State → Prop} (kk : Kept P) (kh : KeptH P) (kv : KeptV P) (kd : KeptD P [0x0010, 0x0011, 0x1002]) {offset width : Nat} {s : State} (h_s : P s) :
    KeptR P (execBar2ReadTimeout offset width s) := by
  unfold execBar2ReadTimeout
  repeat' first
    | with_reducible assumption
    | with_reducible intro _
    | with_reducible refine KeptR.onPower ?_ (fun _ => ?_)
    | with_reducible refine KeptR.next ?_
    | with_reducible exact KeptR.fault _
    | with_reducible apply State.emit_kept
    | with_reducible apply State.recordLate_kept
    | with_reducible apply State.windowComplete_kept
    | exact kd.mem (by decide)
    | exact kd.mem (pick_mem (by decide) (by decide))
    | exact kd.mono (by decide)
    | split
    | fail_if_no_progress with_reducible apply kk.rest

theorem execTicketResultRead_kept {P : State → Prop} (kk : Kept P) (kh : KeptH P) (kv : KeptV P) (kd : KeptD P [0x0010, 0x0011, 0x1002]) {s : State} (h_s : P s) :
    KeptR P (execTicketResultRead s) := by
  unfold execTicketResultRead
  repeat' first
    | with_reducible assumption
    | with_reducible intro _
    | with_reducible refine KeptR.onPower ?_ (fun _ => ?_)
    | with_reducible refine KeptR.next ?_
    | with_reducible exact KeptR.fault _
    | with_reducible apply State.windowComplete_kept
    | exact kd.mem (by decide)
    | exact kd.mem (pick_mem (by decide) (by decide))
    | exact kd.mono (by decide)
    | split
    | fail_if_no_progress with_reducible apply kk.rest

theorem execDomainWriteTimeout_kept {P : State → Prop} (kk : Kept P) (kv : KeptV P) {index sub inst : Nat} {s : State} (h_s : P s) :
    KeptR P (execDomainWriteTimeout index sub inst s) := by
  unfold execDomainWriteTimeout
  repeat' first
    | with_reducible assumption
    | with_reducible intro _
    | with_reducible refine KeptR.onPower ?_ (fun _ => ?_)
    | with_reducible refine KeptR.next ?_
    | with_reducible exact KeptR.fault _
    | with_reducible apply State.setDomWrites_kept
    | split
    | fail_if_no_progress with_reducible apply kk.rest

theorem State.afterStore_kept {P : State → Prop} (kk : Kept P) (ks : KeptS P) (kh : KeptH P) (kd : KeptD P [0x0041, 0x1011, 0x1012, 0x1013, 0x1015, 0x1016, 0x9020]) {s : State} {i sub u : Nat} {ws : List Word} (h_s : P s) :
    P (State.afterStore s i sub u ws) := by
  unfold State.afterStore
  repeat' first
    | with_reducible assumption
    | with_reducible intro _
    | (extract_lets +onlyGivenNames zz
       first
         | (with_reducible refine Kept.cut (P := P) (x := zz) ?_ ?_
            on_goal 2 => clear_value zz
            on_goal 1 => subst zz)
         | (with_reducible refine Kept.cut1 (P := P) (x := zz) ?_ ?_
            on_goal 2 => clear_value zz
            on_goal 1 => subst zz)
         | (have zn : Nat := zz
            clear zn
            subst zz)
         | clear_value zz
         | subst zz)
    | with_reducible apply State.endOwnerRoot_kept
    | with_reducible apply State.endSealingKey_kept
    | with_reducible apply State.modHalf_kept
    | with_reducible apply State.regrant_kept
    | with_reducible apply State.throttleBoth_kept
    | exact kd.mem (by decide)
    | exact kd.mem (pick_mem (by decide) (by decide))
    | exact kd.mono (by decide)
    | with_reducible refine Kept.foldl (fun _ _ _ => ?_) ?_
    | with_reducible refine Kept.foldl1 (fun _ _ _ => ?_) ?_
    | split
    | fail_if_no_progress with_reducible apply kk.rest

theorem State.storeWords_kept {P : State → Prop}  (ka : KeptA P) {s : State} {i sub u : Nat} {ws : List Word} (h_s : P s) :
    P (State.storeWords s i sub u ws) := by
  unfold State.storeWords
  repeat' first
    | with_reducible assumption
    | with_reducible intro _
    | (extract_lets +onlyGivenNames zz
       first
         | (with_reducible refine Kept.cut (P := P) (x := zz) ?_ ?_
            on_goal 2 => clear_value zz
            on_goal 1 => subst zz)
         | (with_reducible refine Kept.cut1 (P := P) (x := zz) ?_ ?_
            on_goal 2 => clear_value zz
            on_goal 1 => subst zz)
         | (have zn : Nat := zz
            clear zn
            subst zz)
         | clear_value zz
         | subst zz)
    | with_reducible apply State.put_kept
    | with_reducible apply State.putsAt_kept
    | with_reducible apply State.regrant_kept
    | exact ka.mem _
    | exact ka.toD
    | exact ka.toN
    | split
    | fail_if_no_progress with_reducible apply kk.rest

theorem State.endWork_kept {P : State → Prop} (kk : Kept P) (ks : KeptS P) (kg : KeptK P) (kd : KeptD P [0x9001]) {s : State} {i status : Nat} (h_s : P s) :
    P (State.endWork s i status) := by
  unfold State.endWork
  repeat' first
    | with_reducible assumption
    | with_reducible intro _
    | with_reducible apply State.endCommit_kept
    | exact kd.mem (by decide)
    | exact kd.mem (pick_mem (by decide) (by decide))
    | exact kd.mono (by decide)
    | split
    | fail_if_no_progress with_reducible apply kk.rest
    | fail_if_no_progress (with_reducible apply ks.sec; with_reducible apply kk.rest)

theorem State.releaseReset_kept {P : State → Prop} (kk : Kept P) (kc : KeptC P) (ks : KeptS P) (kg : KeptK P) (kv : KeptV P) (kd : KeptD P [0x1010, 0xA001, 0xA002, 0xA003]) (kn : KeptN P) (kq : KeptQ P) {s : State} {i sub : Nat} (h_s : P s) :
    P (State.releaseReset s i sub) := by
  unfold State.releaseReset
  repeat' first
    | with_reducible assumption
    | with_reducible intro _
    | with_reducible apply State.hostReset_kept
    | exact kd.mem (by decide)
    | exact kd.mem (pick_mem (by decide) (by decide))
    | exact kd.mono (by decide)
    | exact kn.mem _
    | split
    | fail_if_no_progress with_reducible apply kk.rest
    | fail_if_no_progress (with_reducible apply kg.key; with_reducible apply kk.rest)

theorem State.endDeferred_kept {P : State → Prop} (kk : Kept P) (kc : KeptC P) (ks : KeptS P) (kg : KeptK P) (kh : KeptH P) (kv : KeptV P) (ka : KeptA P) (kq : KeptQ P) {s : State} {t : Ticket} {status : Nat} (h_s : P s) :
    P (State.endDeferred s t status) := by
  unfold State.endDeferred
  repeat' first
    | with_reducible assumption
    | with_reducible intro _
    | (extract_lets +onlyGivenNames zz
       first
         | (with_reducible refine Kept.cut (P := P) (x := zz) ?_ ?_
            on_goal 2 => clear_value zz
            on_goal 1 => subst zz)
         | (with_reducible refine Kept.cut1 (P := P) (x := zz) ?_ ?_
            on_goal 2 => clear_value zz
            on_goal 1 => subst zz)
         | (have zn : Nat := zz
            clear zn
            subst zz)
         | clear_value zz
         | subst zz)
    | with_reducible apply State.afterStore_kept
    | with_reducible apply State.bump_kept
    | with_reducible apply State.endTicket_kept
    | with_reducible apply State.endWork_kept
    | with_reducible apply State.releaseReset_kept
    | with_reducible apply State.storeWords_kept
    | exact ka.mem _
    | exact ka.toD
    | exact ka.toN
    | split
    | fail_if_no_progress with_reducible apply kk.rest

theorem execDeferredWriteComplete_kept {P : State → Prop} (kk : Kept P) (kc : KeptC P) (ks : KeptS P) (kg : KeptK P) (kh : KeptH P) (kv : KeptV P) (ka : KeptA P) (kq : KeptQ P) {num status : Nat} {s : State} (h_s : P s) :
    KeptR P (execDeferredWriteComplete num status s) := by
  unfold execDeferredWriteComplete
  repeat' first
    | with_reducible assumption
    | with_reducible intro _
    | with_reducible refine KeptR.onPower ?_ (fun _ => ?_)
    | with_reducible refine KeptR.next ?_
    | with_reducible exact KeptR.fault _
    | with_reducible apply State.endDeferred_kept
    | exact ka.mem _
    | exact ka.toD
    | exact ka.toN
    | split
    | fail_if_no_progress with_reducible apply kk.rest

theorem execTicketExpire_kept {P : State → Prop} (kk : Kept P) (kv : KeptV P) {num : Nat} {s : State} (h_s : P s) :
    KeptR P (execTicketExpire num s) := by
  unfold execTicketExpire
  repeat' first
    | with_reducible assumption
    | with_reducible intro _
    | with_reducible refine KeptR.onPower ?_ (fun _ => ?_)
    | with_reducible refine KeptR.next ?_
    | with_reducible exact KeptR.fault _
    | with_reducible apply State.collect_kept
    | split
    | fail_if_no_progress with_reducible apply kk.rest

theorem execShedLevelUpdate_kept {P : State → Prop} (kk : Kept P) (km : KeptM P) (kc : KeptC P) (kt : KeptT P) (ks : KeptS P) (kg : KeptK P) (kh : KeptH P) (kv : KeptV P) (kb : KeptB P) (kl : KeptL P) (ka : KeptA P) (kq : KeptQ P) {h : HalfId} {load : Nat} {lowFor10ms : Bool} {s : State} (h_s : P s) :
    KeptR P (execShedLevelUpdate h load lowFor10ms s) := by
  unfold execShedLevelUpdate
  repeat' first
    | with_reducible assumption
    | with_reducible intro _
    | exact ka.mem _
    | exact ka.toD
    | exact ka.toN
    | (extract_lets +onlyGivenNames zz
       first
         | (with_reducible refine Kept.cut (P := P) (x := zz) ?_ ?_
            on_goal 2 => clear_value zz
            on_goal 1 => subst zz)
         | (with_reducible refine Kept.cut1 (P := P) (x := zz) ?_ ?_
            on_goal 2 => clear_value zz
            on_goal 1 => subst zz)
         | (have zn : Nat := zz
            clear zn
            subst zz)
         | clear_value zz
         | subst zz)
    | with_reducible refine KeptR.onPower ?_ (fun _ => ?_)
    | with_reducible refine KeptR.next ?_
    | with_reducible exact KeptR.fault _
    | with_reducible apply State.emptyQueue_kept
    | with_reducible apply State.modHalf_kept
    | with_reducible apply State.put_kept
    | with_reducible apply State.signal_kept
    | exact ka.mem _
    | exact ka.toD
    | exact ka.toN
    | split
    | fail_if_no_progress with_reducible apply kk.rest

theorem State.forwardHeld_kept {P : State → Prop} (kk : Kept P) (km : KeptM P) (kc : KeptC P) (kt : KeptT P) (ks : KeptS P) (kg : KeptK P) (kh : KeptH P) (kv : KeptV P) (kb : KeptB P) (kl : KeptL P) (ka : KeptA P) (kq : KeptQ P) {s : State} (h_s : P s) :
    P (State.forwardHeld s) := by
  unfold State.forwardHeld
  repeat' first
    | with_reducible assumption
    | with_reducible intro _
    | exact ka.mem _
    | exact ka.toD
    | exact ka.toN
    | (extract_lets +onlyGivenNames zz
       first
         | (with_reducible refine Kept.cut (P := P) (x := zz) ?_ ?_
            on_goal 2 => clear_value zz
            on_goal 1 => subst zz)
         | (with_reducible refine Kept.cut1 (P := P) (x := zz) ?_ ?_
            on_goal 2 => clear_value zz
            on_goal 1 => subst zz)
         | (have zn : Nat := zz
            clear zn
            subst zz)
         | clear_value zz
         | subst zz)
    | with_reducible apply State.replay_kept
    | exact ka.mem _
    | exact ka.toD
    | exact ka.toN
    | with_reducible refine Kept.foldl (fun _ _ _ => ?_) ?_
    | with_reducible refine Kept.foldl1 (fun _ _ _ => ?_) ?_
    | split
    | fail_if_no_progress with_reducible apply kk.rest
    | fail_if_no_progress (with_reducible apply kg.key; with_reducible apply kk.rest)

theorem execHeartbeat_kept {P : State → Prop} (kk : Kept P) (km : KeptM P) (kc : KeptC P) (kt : KeptT P) (ks : KeptS P) (kg : KeptK P) (kh : KeptH P) (kv : KeptV P) (kb : KeptB P) (kl : KeptL P) (ka : KeptA P) (kq : KeptQ P) {h : HalfId} {s : State} (h_s : P s) :
    KeptR P (execHeartbeat h s) := by
  unfold execHeartbeat
  repeat' first
    | with_reducible assumption
    | with_reducible intro _
    | exact ka.mem _
    | exact ka.toD
    | exact ka.toN
    | (extract_lets +onlyGivenNames zz
       first
         | (with_reducible refine Kept.cut (P := P) (x := zz) ?_ ?_
            on_goal 2 => clear_value zz
            on_goal 1 => subst zz)
         | (with_reducible refine Kept.cut1 (P := P) (x := zz) ?_ ?_
            on_goal 2 => clear_value zz
            on_goal 1 => subst zz)
         | (have zn : Nat := zz
            clear zn
            subst zz)
         | clear_value zz
         | subst zz)
    | with_reducible refine KeptR.onPower ?_ (fun _ => ?_)
    | with_reducible refine KeptR.next ?_
    | with_reducible exact KeptR.fault _
    | with_reducible apply State.beat_kept
    | with_reducible apply State.forwardHeld_kept
    | with_reducible apply State.resync_kept
    | exact ka.mem _
    | exact ka.toD
    | exact ka.toN
    | split
    | fail_if_no_progress with_reducible apply kk.rest

theorem State.answerClaim_kept {P : State → Prop} (kk : Kept P) (kh : KeptH P) (kd : KeptD P [0x0010, 0x0040]) {s : State} {c : ClaimRec} {status : Nat} (h_s : P s) :
    P (State.answerClaim s c status) := by
  unfold State.answerClaim
  repeat' first
    | with_reducible assumption
    | with_reducible intro _
    | (extract_lets +onlyGivenNames zz
       first
         | (with_reducible refine Kept.cut (P := P) (x := zz) ?_ ?_
            on_goal 2 => clear_value zz
            on_goal 1 => subst zz)
         | (with_reducible refine Kept.cut1 (P := P) (x := zz) ?_ ?_
            on_goal 2 => clear_value zz
            on_goal 1 => subst zz)
         | (have zn : Nat := zz
            clear zn
            subst zz)
         | clear_value zz
         | subst zz)
    | with_reducible apply State.bump_kept
    | with_reducible apply State.modHalf_kept
    | with_reducible apply State.respond_kept
    | exact kd.mem (by decide)
    | exact kd.mem (pick_mem (by decide) (by decide))
    | exact kd.mono (by decide)
    | split
    | fail_if_no_progress with_reducible apply kk.rest

theorem State.decideClaims_kept {P : State → Prop} (kk : Kept P) (kg : KeptK P) (kh : KeptH P) (kd : KeptD P [0x0010, 0x0040, 0x7040, 0xF030]) {s : State} {claims : List ClaimRec} (h_s : P s) :
    P (State.decideClaims s claims) := by
  unfold State.decideClaims
  repeat' first
    | with_reducible assumption
    | with_reducible intro _
    | (extract_lets +onlyGivenNames zz
       first
         | (with_reducible refine Kept.cut (P := P) (x := zz) ?_ ?_
            on_goal 2 => clear_value zz
            on_goal 1 => subst zz)
         | (with_reducible refine Kept.cut1 (P := P) (x := zz) ?_ ?_
            on_goal 2 => clear_value zz
            on_goal 1 => subst zz)
         | (have zn : Nat := zz
            clear zn
            subst zz)
         | clear_value zz
         | subst zz)
    | with_reducible apply State.answerClaim_kept
    | with_reducible apply State.epochCheck_kept
    | with_reducible apply State.modHalf_kept
    | with_reducible apply State.put_kept
    | with_reducible apply State.setHolder_kept
    | exact kd.mem (by decide)
    | exact kd.mem (pick_mem (by decide) (by decide))
    | exact kd.mono (by decide)
    | with_reducible refine Kept.foldl (fun _ _ _ => ?_) ?_
    | with_reducible refine Kept.foldl1 (fun _ _ _ => ?_) ?_
    | split
    | fail_if_no_progress with_reducible apply kk.rest

theorem execWindowClose_kept {P : State → Prop} (kk : Kept P) (km : KeptM P) (kc : KeptC P) (kt : KeptT P) (ks : KeptS P) (kg : KeptK P) (kh : KeptH P) (kv : KeptV P) (kb : KeptB P) (kl : KeptL P) (ka : KeptA P) (kq : KeptQ P) {s : State} (h_s : P s) :
    KeptR P (execWindowClose s) := by
  unfold execWindowClose
  repeat' first
    | with_reducible assumption
    | with_reducible intro _
    | exact ka.mem _
    | exact ka.toD
    | exact ka.toN
    | (extract_lets +onlyGivenNames zz
       first
         | (with_reducible refine Kept.cut (P := P) (x := zz) ?_ ?_
            on_goal 2 => clear_value zz
            on_goal 1 => subst zz)
         | (with_reducible refine Kept.cut1 (P := P) (x := zz) ?_ ?_
            on_goal 2 => clear_value zz
            on_goal 1 => subst zz)
         | (have zn : Nat := zz
            clear zn
            subst zz)
         | clear_value zz
         | subst zz)
    | with_reducible refine KeptR.onPower ?_ (fun _ => ?_)
    | with_reducible refine KeptR.next ?_
    | with_reducible exact KeptR.fault _
    | with_reducible apply State.decideClaims_kept
    | with_reducible apply State.replay_kept
    | exact ka.mem _
    | exact ka.toD
    | exact ka.toN
    | with_reducible refine Kept.foldl (fun _ _ _ => ?_) ?_
    | with_reducible refine Kept.foldl1 (fun _ _ _ => ?_) ?_
    | split
    | fail_if_no_progress with_reducible apply kk.rest
    | fail_if_no_progress (with_reducible apply kg.key; with_reducible apply kk.rest)

end Sys2Proof.Machine
end

