-- ==== Sys2Proof/Laws/Served.lean ====
section
/-! SUPPORT. What a write of a dictionary object does: one lemma for each way its own rule can take it, once the
checks of R124 have let it through. -/

namespace Sys2Proof.Machine

open Sys2Proof Sys2Proof.Safety

theorem reservedFirst_zero : reservedFirst [0, 0, 0] = 0 := by decide

theorem valueClass_zero : valueClass 0 = false := by decide

/-- A write that the checks let through is carried out as its object's own rule says. -/
theorem opWrite_admitted {s : State} {x : Aux} {via : Via} {i sub : Nat} {ws : List Word} {o : Obj} {r : Row}
    (ho : findObj i = some o) (hr : o.row sub = some r) (h : admits s via i sub ws = true)
    (hv : valueClass (verdict s x via i sub ws).status = false) :
    s.opWrite x (writeReq via i sub ws) =
      (arrival s via i sub).settleWrite via r i ((arrival s via i sub).unitOf o r) ws
        (verdict s x via i sub ws) := by
  have hf : findRow i sub = some r := by
    unfold findRow
    rw [ho]
    exact hr
  have ha : arrival s via i sub = (((s.unstageOther via.path i r.sub).heard
      ((s.unstageOther via.path i r.sub).server o i r.single)).unstage via.path) := by
    unfold arrival
    simp only [ho, hr]
  have hw : verdict s x via i sub ws =
      (arrival s via i sub).act x via r i ((arrival s via i sub).unitOf o r) ws := by
    unfold verdict
    simp only [ho, hr]
  rw [hw] at hv ⊢
  unfold admits at h
  simp only [ho, hr, Bool.and_eq_true, beq_iff_eq, bne_iff_ne, Bool.not_eq_true', Bool.or_eq_true,
    ne_eq, Option.isNone_iff_eq_none] at h
  obtain ⟨⟨⟨hp, hm⟩, hd⟩, ⟨⟨⟨⟨⟨⟨⟨⟨⟨⟨⟨he, hs⟩, hl⟩, ht⟩, hval⟩, hown⟩, hrws⟩, hrwl⟩, hctx⟩, hbusy⟩, hq⟩, h40⟩⟩ := h
  have h40' : ¬(i = 0x0040 ∧ r.sub = 0x03) := by
    rintro ⟨h1, h2⟩
    simp [h1, h2] at h40
  unfold State.opWrite
  simp only [writeReq, hf]
  unfold State.checked
  simp only [ho, he]
  simp only [hr]
  simp only [hs, hl, and_self, if_true, ht, if_false, not_true_eq_false, false_and, typeStatus, true_or]
  simp only [hs] at ha hval hown hctx hbusy hq hv ⊢
  rw [← ha]
  unfold State.wholeWrite
  rw [if_neg h40']
  unfold State.commit State.weigh
  simp only [hval, hown, hv, Bool.false_eq_true, if_false, reservedFirst_zero, not_true_eq_false, ne_eq,
    Option.isSome_none, Bool.false_and]
  have hg : (if r.acc = .rwl ∧ (arrival s via i r.sub).leadless i ws = false then
      (arrival s via i r.sub).gate ((arrival s via i r.sub).originOf via) else .pass) = Gate.pass := by
    split
    · next hacc =>
      rcases hrwl with (h1 | h1) | h1
      · exact absurd hacc.1 h1
      · rw [hs, hacc.2] at h1
        cases h1
      · rw [hs] at h1
        revert h1
        cases (arrival s via i r.sub).gate ((arrival s via i r.sub).originOf via) <;> simp
    · rfl
  have hr2 : ¬(r.acc = .rws ∧ (arrival s via i r.sub).rwsOpen i r.sub = false) := by
    rintro ⟨h1, h2⟩
    rcases hrws with h3 | h3
    · exact h3 h1
    · rw [hs, h2] at h3
      cases h3
  rw [if_neg hr2, hg]
  simp only [hctx, Bool.false_eq_true, if_false, hbusy, hq, Bool.and_false]

theorem admits_row {s : State} {via : Via} {i sub : Nat} {ws : List Word} (h : admits s via i sub ws = true) :
    s.key.powered = true ∧ s.mute via.path = false ∧ s.standsDown via.path i sub = false ∧
      ∃ o r, findObj i = some o ∧ o.row sub = some r ∧ r.sub = sub ∧ ws.length = r.words := by
  unfold admits at h
  split at h
  · simp at h
  · next o ho =>
    split at h
    · simp at h
    · next r hr =>
      simp only [Bool.and_eq_true, beq_iff_eq, Bool.not_eq_true'] at h
      obtain ⟨⟨⟨hp, hm⟩, hd⟩, ⟨⟨⟨⟨⟨⟨⟨⟨⟨⟨⟨_, hs⟩, hl⟩, _⟩, _⟩, _⟩, _⟩, _⟩, _⟩, _⟩, _⟩, _⟩⟩ := h
      exact ⟨hp, hm, hd, o, r, ho, hr, hs.symm, hl⟩

/-- A whole write of an object without segments goes out under WRITE. -/
theorem writeOp_admitted {s : State} {via : Via} {i sub : Nat} {ws : List Word} (h : admits s via i sub ws = true) :
    writeOp i sub = opCode.write := by
  unfold admits at h
  split at h
  · simp at h
  · next o ho =>
    split at h
    · simp at h
    · next r hr =>
      simp only [Bool.and_eq_true, bne_iff_ne, ne_eq] at h
      obtain ⟨_, ⟨⟨⟨⟨⟨⟨⟨⟨⟨⟨⟨_, _⟩, _⟩, ht⟩, _⟩, _⟩, _⟩, _⟩, _⟩, _⟩, _⟩, _⟩⟩ := h
      have hf : findRow i sub = some r := by unfold findRow; rw [ho]; exact hr
      unfold writeOp
      simp only [hf, ht, if_false]

/-- A whole write that the checks let through ends as its object's own rule says, and is answered. -/
theorem put_admitted {s : State} {x : Aux} {via : Via} {i sub : Nat} {ws : List Word} {a : State × Ans}
    (h : admits s via i sub ws = true) (hv : valueClass (verdict s x via i sub ws).status = false)
    (ha : ∀ o r, findObj i = some o → o.row sub = some r → r.sub = sub →
      (arrival s via i sub).settleWrite via r i ((arrival s via i sub).unitOf o r) ws (verdict s x via i sub ws) = a) :
    s.put! x via i sub ws = .next ((a.1.interrupt via.path).send via.path (writeOp i sub) i sub 0 a.2) := by
  obtain ⟨hp, hm, hd, o, r, ho, hr, hs, _⟩ := admits_row h
  unfold State.put!
  rw [onPower_on hp]
  unfold State.serveWrite State.serve
  simp only [writeReq, hm, hd, Bool.false_eq_true, if_false]
  have := opWrite_admitted (x := x) ho hr h hv
  unfold writeReq at this
  rw [this, ha o r ho hr hs, writeOp_admitted h]
  rfl

/-- A write that takes effect at once. -/
theorem put_applied {s t : State} {x : Aux} {via : Via} {i sub : Nat} {ws : List Word}
    (h : admits s via i sub ws = true) (hv : verdict s x via i sub ws = .apply t) :
    s.put! x via i sub ws = .next (t.written via i sub ws 0x0000 0 0) := by
  rw [put_admitted (a := (t.traceAdd (.wrote i sub ws t.count), .plain 0x0000)) h (by rw [hv]; exact valueClass_zero)
    (by intro o r _ _ hs; rw [hv, ← hs]; rfl)]
  rfl

/-- A write whose work takes time: it is answered with a ticket (R128). -/
theorem put_accepted {s : State} {x : Aux} {via : Via} {i sub : Nat} {ws : List Word} {w : Deferred} {est : Nat}
    {go : State → State} (h : admits s via i sub ws = true)
    (hv : verdict s x via i sub ws = .accept w est go) (hroom : (arrival s via i sub).ticketRoom = true) :
    s.put! x via i sub ws =
      .next ((go ((arrival s via i sub).issue w est (requesterOf via.path))).written via i sub ws 0x6002
        (arrival s via i sub).nextTicketNum (min 0xFFFF est)) := by
  rw [put_admitted (a := ((go ((arrival s via i sub).issue w est (requesterOf via.path))).traceAdd
      (.wrote i sub ws (go ((arrival s via i sub).issue w est (requesterOf via.path))).count),
      .done 0x6002 (arrival s via i sub).nextTicketNum (min 0xFFFF est) [])) h (by rw [hv]; exact valueClass_zero)
    (by
      intro o r _ _ hs
      rw [hv]
      unfold State.settleWrite
      simp [hroom, hs, afterTicket, Verdict.status])]
  rfl

/-- The ticket that a refused write would take is to be had, or its refusal comes first (R124). -/
def ticketFirst (s : State) (via : Via) (i sub st : Nat) : Bool :=
  !afterTicket st || (arrival s via i sub).ticketRoom ||
    (match findRow i sub with | some r => !takesTicket r i | none => true)

theorem ticketFirst_row {s : State} {via : Via} {i sub st : Nat} {o : Obj} {r : Row}
    (h : ticketFirst s via i sub st = true) (ho : findObj i = some o) (hr : o.row sub = some r) :
    (afterTicket st && takesTicket r i && !(arrival s via i sub).ticketRoom) = false := by
  have hf : findRow i sub = some r := by unfold findRow; rw [ho]; exact hr
  unfold ticketFirst at h
  simp only [hf] at h
  revert h
  cases afterTicket st <;> cases takesTicket r i <;> cases (arrival s via i sub).ticketRoom <;> simp

/-- A write that its object's own rule refuses changes nothing but what its arrival does, and is answered. -/
theorem put_refused {s : State} {x : Aux} {via : Via} {i sub : Nat} {ws : List Word} {st hint : Nat}
    (h : admits s via i sub ws = true) (hv : verdict s x via i sub ws = .refuse st hint)
    (hst : valueClass st = false) (hk : ticketFirst s via i sub st = true) :
    ∃ n, s.put! x via i sub ws = .next ((arrival s via i sub).answered via i sub st 0 n) := by
  obtain ⟨_, _, _, o, r, ho, hr, hs, _⟩ := admits_row h
  refine ⟨hintOf st hint ((arrival s via i sub).unitOf o r) i r.sub, ?_⟩
  rw [put_admitted (a := (arrival s via i sub,
      .done st 0 (hintOf st hint ((arrival s via i sub).unitOf o r) i r.sub) [])) h (by rw [hv]; exact hst)
    (by
      intro o' r' ho' hr' _
      rw [ho] at ho'; cases ho'
      rw [hr] at hr'; cases hr'
      rw [hv]
      unfold State.settleWrite
      simp only [Verdict.status, ticketFirst_row hk ho hr, Bool.false_eq_true, if_false])]
  rfl

/-- The verdict on a write of a row. -/
theorem verdict_of {s : State} {x : Aux} {via : Via} {i sub : Nat} {ws : List Word} {o : Obj} {r : Row}
    (ho : findObj i = some o) (hr : o.row sub = some r) :
    verdict s x via i sub ws =
      (arrival s via i sub).act x via r i ((arrival s via i sub).unitOf o r) ws := by
  unfold verdict; simp only [ho, hr]

/-- A write command whose verdict is to apply. -/
theorem takes_of {c : Instr} {s t : State} {x : Aux} {via : Via} {i sub : Nat} {ws : List Word} {P : State → Prop}
    (hc : exec c s = s.put! x via i sub ws) (h : admits s via i sub ws = true)
    (hv : verdict s x via i sub ws = .apply t) (hp : P t) : Takes c s via i sub ws P :=
  ⟨t, by rw [hc, put_applied h hv], hp⟩

/-- A write command whose verdict is to accept. -/
theorem defers_of {c : Instr} {s : State} {x : Aux} {via : Via} {i sub : Nat} {ws : List Word} {w : Deferred}
    {est : Nat} {go : State → State} {P : State → Prop} (hc : exec c s = s.put! x via i sub ws)
    (h : admits s via i sub ws = true) (hroom : (arrival s via i sub).ticketRoom = true)
    (hv : verdict s x via i sub ws = .accept w est go)
    (hp : P (go ((arrival s via i sub).issue w est (requesterOf via.path)))) : Defers c s via i sub ws P :=
  ⟨_, _, by rw [hc, put_accepted h hv hroom], hp⟩

/-- A write command whose verdict is to refuse. -/
theorem refuses_of {c : Instr} {s : State} {x : Aux} {via : Via} {i sub : Nat} {ws : List Word} {st hint : Nat}
    (hc : exec c s = s.put! x via i sub ws) (h : admits s via i sub ws = true)
    (hv : verdict s x via i sub ws = .refuse st hint) (hst : valueClass st = false)
    (hk : ticketFirst s via i sub st = true) : Refuses c s via i sub st := by
  obtain ⟨n, hn⟩ := put_refused h hv hst hk
  exact ⟨n, by rw [hc, hn]⟩

/-- A write command that its rule refuses and counts. -/
theorem counts_of {c : Instr} {s t : State} {x : Aux} {via : Via} {i sub : Nat} {ws : List Word} {st : Nat}
    {P : State → Prop} (hc : exec c s = s.put! x via i sub ws) (h : admits s via i sub ws = true)
    (hv : verdict s x via i sub ws = .counted st t) (hst : valueClass st = false)
    (hk : ticketFirst s via i sub st = true) (hp : P t) : RefusesWith c s via i sub st P := by
  obtain ⟨_, _, _, o, r, ho, hr, hs, _⟩ := admits_row h
  refine ⟨t, hintOf st 0 ((arrival s via i sub).unitOf o r) i r.sub, ?_, hp⟩
  rw [hc, put_admitted (a := (t, .done st 0 (hintOf st 0 ((arrival s via i sub).unitOf o r) i r.sub) [])) h
    (by rw [hv]; exact hst)
    (by
      intro o' r' ho' hr' _
      rw [ho] at ho'; cases ho'
      rw [hr] at hr'; cases hr'
      rw [hv]
      unfold State.settleWrite
      simp only [Verdict.status, ticketFirst_row hk ho hr, Bool.false_eq_true, if_false])]
  rfl

/-! ### Whole domain writes -/

/-- A domain write that every check lets through comes to its rule. -/
theorem putDomain_admitted {s : State} {via : Via} {i sub : Nat} {l : List Byte}
    (h : admitsDomain s via i sub = true) : ∃ o r, findObj i = some o ∧ o.row sub = some r ∧ r.sub = sub ∧
      s.putDomain! via i sub l = .next
        (let a := domainArrival s via i sub
         let b := a.settleWrite via r i (a.unitOf o r) [] (domainVerdict s via i sub l)
         (b.1.interrupt via.path).send via.path opCode.writeSeg i sub 0 b.2) := by
  unfold admitsDomain at h
  split at h
  · simp at h
  · next o ho =>
    split at h
    · simp at h
    · next r hr =>
      simp only [Bool.and_eq_true, beq_iff_eq, Bool.not_eq_true', Option.isNone_iff_eq_none] at h
      obtain ⟨⟨hp, hm⟩, ⟨⟨he, hs⟩, hc⟩, hb⟩ := h
      refine ⟨o, r, ho, hr, hs.symm, ?_⟩
      have ha : domainArrival s via i sub = (((s.unstageOther via.path i sub).heard
          ((s.unstageOther via.path i sub).server o i r.single)).closeDomain via.path) := by
        unfold domainArrival; simp only [ho, hr]
      have hd : domainVerdict s via i sub l =
          (domainArrival s via i sub).actDomain i ((domainArrival s via i sub).unitOf o r) l := by
        unfold domainVerdict; simp only [ho, hr]
      have hu : ((s.unstageOther via.path i sub).heard ((s.unstageOther via.path i sub).server o i r.single)).unitOf o r =
          (domainArrival s via i sub).unitOf o r := by
        rw [ha]; unfold State.unitOf State.closeDomain State.setDomWrites; rfl
      unfold State.putDomain!
      rw [onPower_on hp]
      unfold State.serve
      simp only [writeReq, hm, Bool.false_eq_true, if_false]
      unfold State.checked
      simp only [ho, he, hr]
      rw [hu, ← ha]
      unfold State.commitDomain
      simp only [hc, Bool.false_eq_true, if_false, hb, ← hd, ite_self]
      rfl

/-- A domain write that takes effect at once. -/
theorem takesDomain_of {c : Instr} {s t : State} {via : Via} {i sub : Nat} {l : List Byte} {P : State → Prop}
    (hc : exec c s = s.putDomain! via i sub l) (h : admitsDomain s via i sub = true)
    (hv : domainVerdict s via i sub l = .apply t) (hw : writeOp i sub = opCode.writeSeg) (hp : P t) :
    Takes c s via i sub [] P := by
  obtain ⟨o, r, _, _, hs, he⟩ := putDomain_admitted (l := l) h
  subst hs
  refine ⟨t, ?_, hp⟩
  rw [hc, he, hv]
  unfold State.written State.answered
  rw [hw]
  rfl

/-! ### What the answer of a write leaves as it is -/

variable {s : State}

@[simp] theorem State.traceAdd_key {x : TraceRec} : (s.traceAdd x).key = s.key := by
  unfold State.traceAdd; split <;> simp
@[simp] theorem State.traceAdd_sup {x : TraceRec} : (s.traceAdd x).sup = s.sup := by
  unfold State.traceAdd; split <;> simp
@[simp] theorem State.traceAdd_half0 {x : TraceRec} : (s.traceAdd x).half0 = s.half0 := by
  unfold State.traceAdd; split <;> simp
@[simp] theorem State.traceAdd_half1 {x : TraceRec} : (s.traceAdd x).half1 = s.half1 := by
  unfold State.traceAdd; split <;> simp
@[simp] theorem State.traceAdd_svc {x : TraceRec} : (s.traceAdd x).svc = s.svc := by
  unfold State.traceAdd; split <;> simp
@[simp] theorem State.traceAdd_ctxs {x : TraceRec} : (s.traceAdd x).ctxs = s.ctxs := by
  unfold State.traceAdd; split <;> simp
@[simp] theorem State.traceAdd_tiles {x : TraceRec} : (s.traceAdd x).tiles = s.tiles := by
  unfold State.traceAdd; split <;> simp
@[simp] theorem State.traceAdd_fabric {x : TraceRec} : (s.traceAdd x).fabric = s.fabric := by
  unfold State.traceAdd; split <;> simp
@[simp] theorem State.traceAdd_spokes {x : TraceRec} : (s.traceAdd x).spokes = s.spokes := by
  unfold State.traceAdd; split <;> simp
@[simp] theorem State.traceAdd_lanes {x : TraceRec} : (s.traceAdd x).lanes = s.lanes := by
  unfold State.traceAdd; split <;> simp
@[simp] theorem State.traceAdd_slotBufs {x : TraceRec} : (s.traceAdd x).slotBufs = s.slotBufs := by
  unfold State.traceAdd; split <;> simp
@[simp] theorem State.traceAdd_arbs {x : TraceRec} : (s.traceAdd x).arbs = s.arbs := by
  unfold State.traceAdd; split <;> simp
@[simp] theorem State.traceAdd_mortar {x : TraceRec} : (s.traceAdd x).mortar = s.mortar := by
  unfold State.traceAdd; split <;> simp
@[simp] theorem State.traceAdd_sec {x : TraceRec} : (s.traceAdd x).sec = s.sec := by
  unfold State.traceAdd; split <;> simp
@[simp] theorem State.traceAdd_seqs {x : TraceRec} : (s.traceAdd x).seqs = s.seqs := by
  unfold State.traceAdd; split <;> simp
@[simp] theorem State.traceAdd_cper {x : TraceRec} : (s.traceAdd x).cper = s.cper := by
  unfold State.traceAdd; split <;> simp
@[simp] theorem State.traceAdd_capture0 {x : TraceRec} : (s.traceAdd x).capture0 = s.capture0 := by
  unfold State.traceAdd; split <;> simp
@[simp] theorem State.traceAdd_capture1 {x : TraceRec} : (s.traceAdd x).capture1 = s.capture1 := by
  unfold State.traceAdd; split <;> simp
@[simp] theorem State.traceAdd_hbm0 {x : TraceRec} : (s.traceAdd x).hbm0 = s.hbm0 := by
  unfold State.traceAdd; split <;> simp
@[simp] theorem State.traceAdd_hbm1 {x : TraceRec} : (s.traceAdd x).hbm1 = s.hbm1 := by
  unfold State.traceAdd; split <;> simp
@[simp] theorem State.traceAdd_unsent {x : TraceRec} : (s.traceAdd x).unsent = s.unsent := by
  unfold State.traceAdd; split <;> simp
@[simp] theorem State.traceAdd_free {x : TraceRec} : (s.traceAdd x).free = s.free := by
  unfold State.traceAdd; split <;> simp
@[simp] theorem State.traceAdd_pending {x : TraceRec} : (s.traceAdd x).pending = s.pending := by
  unfold State.traceAdd; split <;> simp

@[simp] theorem State.recordWindow_key {i sub st k n : Nat} : (s.recordWindow i sub st k n).key = s.key := by
  unfold State.recordWindow; extract_lets p a b; have ha : a.key = s.key := by simp [a]
  have hb : b.key = s.key := by simp only [b]; split <;> simp [ha]
  split <;> simp [hb]
@[simp] theorem State.recordWindow_sup {i sub st k n : Nat} : (s.recordWindow i sub st k n).sup = s.sup := by
  unfold State.recordWindow; extract_lets p a b; have ha : a.sup = s.sup := by simp [a]
  have hb : b.sup = s.sup := by simp only [b]; split <;> simp [ha]
  split <;> simp [hb]
@[simp] theorem State.recordWindow_half0 {i sub st k n : Nat} : (s.recordWindow i sub st k n).half0 = s.half0 := by
  unfold State.recordWindow; extract_lets p a b; have ha : a.half0 = s.half0 := by simp [a]
  have hb : b.half0 = s.half0 := by simp only [b]; split <;> simp [ha]
  split <;> simp [hb]
@[simp] theorem State.recordWindow_half1 {i sub st k n : Nat} : (s.recordWindow i sub st k n).half1 = s.half1 := by
  unfold State.recordWindow; extract_lets p a b; have ha : a.half1 = s.half1 := by simp [a]
  have hb : b.half1 = s.half1 := by simp only [b]; split <;> simp [ha]
  split <;> simp [hb]
@[simp] theorem State.recordWindow_svc {i sub st k n : Nat} : (s.recordWindow i sub st k n).svc = s.svc := by
  unfold State.recordWindow; extract_lets p a b; have ha : a.svc = s.svc := by simp [a]
  have hb : b.svc = s.svc := by simp only [b]; split <;> simp [ha]
  split <;> simp [hb]
@[simp] theorem State.recordWindow_ctxs {i sub st k n : Nat} : (s.recordWindow i sub st k n).ctxs = s.ctxs := by
  unfold State.recordWindow; extract_lets p a b; have ha : a.ctxs = s.ctxs := by simp [a]
  have hb : b.ctxs = s.ctxs := by simp only [b]; split <;> simp [ha]
  split <;> simp [hb]
@[simp] theorem State.recordWindow_tiles {i sub st k n : Nat} : (s.recordWindow i sub st k n).tiles = s.tiles := by
  unfold State.recordWindow; extract_lets p a b; have ha : a.tiles = s.tiles := by simp [a]
  have hb : b.tiles = s.tiles := by simp only [b]; split <;> simp [ha]
  split <;> simp [hb]
@[simp] theorem State.recordWindow_fabric {i sub st k n : Nat} : (s.recordWindow i sub st k n).fabric = s.fabric := by
  unfold State.recordWindow; extract_lets p a b; have ha : a.fabric = s.fabric := by simp [a]
  have hb : b.fabric = s.fabric := by simp only [b]; split <;> simp [ha]
  split <;> simp [hb]
@[simp] theorem State.recordWindow_spokes {i sub st k n : Nat} : (s.recordWindow i sub st k n).spokes = s.spokes := by
  unfold State.recordWindow; extract_lets p a b; have ha : a.spokes = s.spokes := by simp [a]
  have hb : b.spokes = s.spokes := by simp only [b]; split <;> simp [ha]
  split <;> simp [hb]
@[simp] theorem State.recordWindow_lanes {i sub st k n : Nat} : (s.recordWindow i sub st k n).lanes = s.lanes := by
  unfold State.recordWindow; extract_lets p a b; have ha : a.lanes = s.lanes := by simp [a]
  have hb : b.lanes = s.lanes := by simp only [b]; split <;> simp [ha]
  split <;> simp [hb]
@[simp] theorem State.recordWindow_slotBufs {i sub st k n : Nat} : (s.recordWindow i sub st k n).slotBufs = s.slotBufs := by
  unfold State.recordWindow; extract_lets p a b; have ha : a.slotBufs = s.slotBufs := by simp [a]
  have hb : b.slotBufs = s.slotBufs := by simp only [b]; split <;> simp [ha]
  split <;> simp [hb]
@[simp] theorem State.recordWindow_arbs {i sub st k n : Nat} : (s.recordWindow i sub st k n).arbs = s.arbs := by
  unfold State.recordWindow; extract_lets p a b; have ha : a.arbs = s.arbs := by simp [a]
  have hb : b.arbs = s.arbs := by simp only [b]; split <;> simp [ha]
  split <;> simp [hb]
@[simp] theorem State.recordWindow_mortar {i sub st k n : Nat} : (s.recordWindow i sub st k n).mortar = s.mortar := by
  unfold State.recordWindow; extract_lets p a b; have ha : a.mortar = s.mortar := by simp [a]
  have hb : b.mortar = s.mortar := by simp only [b]; split <;> simp [ha]
  split <;> simp [hb]
@[simp] theorem State.recordWindow_sec {i sub st k n : Nat} : (s.recordWindow i sub st k n).sec = s.sec := by
  unfold State.recordWindow; extract_lets p a b; have ha : a.sec = s.sec := by simp [a]
  have hb : b.sec = s.sec := by simp only [b]; split <;> simp [ha]
  split <;> simp [hb]
@[simp] theorem State.recordWindow_seqs {i sub st k n : Nat} : (s.recordWindow i sub st k n).seqs = s.seqs := by
  unfold State.recordWindow; extract_lets p a b; have ha : a.seqs = s.seqs := by simp [a]
  have hb : b.seqs = s.seqs := by simp only [b]; split <;> simp [ha]
  split <;> simp [hb]
@[simp] theorem State.recordWindow_cper {i sub st k n : Nat} : (s.recordWindow i sub st k n).cper = s.cper := by
  unfold State.recordWindow; extract_lets p a b; have ha : a.cper = s.cper := by simp [a]
  have hb : b.cper = s.cper := by simp only [b]; split <;> simp [ha]
  split <;> simp [hb]
@[simp] theorem State.recordWindow_capture0 {i sub st k n : Nat} : (s.recordWindow i sub st k n).capture0 = s.capture0 := by
  unfold State.recordWindow; extract_lets p a b; have ha : a.capture0 = s.capture0 := by simp [a]
  have hb : b.capture0 = s.capture0 := by simp only [b]; split <;> simp [ha]
  split <;> simp [hb]
@[simp] theorem State.recordWindow_capture1 {i sub st k n : Nat} : (s.recordWindow i sub st k n).capture1 = s.capture1 := by
  unfold State.recordWindow; extract_lets p a b; have ha : a.capture1 = s.capture1 := by simp [a]
  have hb : b.capture1 = s.capture1 := by simp only [b]; split <;> simp [ha]
  split <;> simp [hb]
@[simp] theorem State.recordWindow_hbm0 {i sub st k n : Nat} : (s.recordWindow i sub st k n).hbm0 = s.hbm0 := by
  unfold State.recordWindow; extract_lets p a b; have ha : a.hbm0 = s.hbm0 := by simp [a]
  have hb : b.hbm0 = s.hbm0 := by simp only [b]; split <;> simp [ha]
  split <;> simp [hb]
@[simp] theorem State.recordWindow_hbm1 {i sub st k n : Nat} : (s.recordWindow i sub st k n).hbm1 = s.hbm1 := by
  unfold State.recordWindow; extract_lets p a b; have ha : a.hbm1 = s.hbm1 := by simp [a]
  have hb : b.hbm1 = s.hbm1 := by simp only [b]; split <;> simp [ha]
  split <;> simp [hb]
@[simp] theorem State.recordWindow_unsent {i sub st k n : Nat} : (s.recordWindow i sub st k n).unsent = s.unsent := by
  unfold State.recordWindow; extract_lets p a b; have ha : a.unsent = s.unsent := by simp [a]
  have hb : b.unsent = s.unsent := by simp only [b]; split <;> simp [ha]
  split <;> simp [hb]
@[simp] theorem State.recordWindow_free {i sub st k n : Nat} : (s.recordWindow i sub st k n).free = s.free := by
  unfold State.recordWindow; extract_lets p a b; have ha : a.free = s.free := by simp [a]
  have hb : b.free = s.free := by simp only [b]; split <;> simp [ha]
  split <;> simp [hb]
@[simp] theorem State.recordWindow_pending {i sub st k n : Nat} : (s.recordWindow i sub st k n).pending = s.pending := by
  unfold State.recordWindow; extract_lets p a b; have ha : a.pending = s.pending := by simp [a]
  have hb : b.pending = s.pending := by simp only [b]; split <;> simp [ha]
  split <;> simp [hb]
@[simp] theorem State.recordWindow_trace {i sub st k n : Nat} : (s.recordWindow i sub st k n).trace = s.trace := by
  unfold State.recordWindow; extract_lets p a b; have ha : a.trace = s.trace := by simp [a]
  have hb : b.trace = s.trace := by simp only [b]; split <;> simp [ha]
  split <;> simp [hb]

@[simp] theorem State.interrupt_key {p : Path} : (s.interrupt p).key = s.key := by
  unfold State.interrupt; split <;> simp
@[simp] theorem State.interrupt_sup {p : Path} : (s.interrupt p).sup = s.sup := by
  unfold State.interrupt; split <;> simp
@[simp] theorem State.interrupt_half0 {p : Path} : (s.interrupt p).half0 = s.half0 := by
  unfold State.interrupt; split <;> simp
@[simp] theorem State.interrupt_half1 {p : Path} : (s.interrupt p).half1 = s.half1 := by
  unfold State.interrupt; split <;> simp
@[simp] theorem State.interrupt_svc {p : Path} : (s.interrupt p).svc = s.svc := by
  unfold State.interrupt; split <;> simp
@[simp] theorem State.interrupt_ctxs {p : Path} : (s.interrupt p).ctxs = s.ctxs := by
  unfold State.interrupt; split <;> simp
@[simp] theorem State.interrupt_tiles {p : Path} : (s.interrupt p).tiles = s.tiles := by
  unfold State.interrupt; split <;> simp
@[simp] theorem State.interrupt_fabric {p : Path} : (s.interrupt p).fabric = s.fabric := by
  unfold State.interrupt; split <;> simp
@[simp] theorem State.interrupt_spokes {p : Path} : (s.interrupt p).spokes = s.spokes := by
  unfold State.interrupt; split <;> simp
@[simp] theorem State.interrupt_lanes {p : Path} : (s.interrupt p).lanes = s.lanes := by
  unfold State.interrupt; split <;> simp
@[simp] theorem State.interrupt_slotBufs {p : Path} : (s.interrupt p).slotBufs = s.slotBufs := by
  unfold State.interrupt; split <;> simp
@[simp] theorem State.interrupt_arbs {p : Path} : (s.interrupt p).arbs = s.arbs := by
  unfold State.interrupt; split <;> simp
@[simp] theorem State.interrupt_mortar {p : Path} : (s.interrupt p).mortar = s.mortar := by
  unfold State.interrupt; split <;> simp
@[simp] theorem State.interrupt_sec {p : Path} : (s.interrupt p).sec = s.sec := by
  unfold State.interrupt; split <;> simp
@[simp] theorem State.interrupt_seqs {p : Path} : (s.interrupt p).seqs = s.seqs := by
  unfold State.interrupt; split <;> simp
@[simp] theorem State.interrupt_cper {p : Path} : (s.interrupt p).cper = s.cper := by
  unfold State.interrupt; split <;> simp
@[simp] theorem State.interrupt_capture0 {p : Path} : (s.interrupt p).capture0 = s.capture0 := by
  unfold State.interrupt; split <;> simp
@[simp] theorem State.interrupt_capture1 {p : Path} : (s.interrupt p).capture1 = s.capture1 := by
  unfold State.interrupt; split <;> simp
@[simp] theorem State.interrupt_hbm0 {p : Path} : (s.interrupt p).hbm0 = s.hbm0 := by
  unfold State.interrupt; split <;> simp
@[simp] theorem State.interrupt_hbm1 {p : Path} : (s.interrupt p).hbm1 = s.hbm1 := by
  unfold State.interrupt; split <;> simp
@[simp] theorem State.interrupt_unsent {p : Path} : (s.interrupt p).unsent = s.unsent := by
  unfold State.interrupt; split <;> simp
@[simp] theorem State.interrupt_free {p : Path} : (s.interrupt p).free = s.free := by
  unfold State.interrupt; split <;> simp
@[simp] theorem State.interrupt_pending {p : Path} : (s.interrupt p).pending = s.pending := by
  unfold State.interrupt; split <;> simp
@[simp] theorem State.interrupt_trace {p : Path} : (s.interrupt p).trace = s.trace := by
  unfold State.interrupt; split <;> simp
@[simp] theorem State.interrupt_port {p : Path} : (s.interrupt p).port = s.port := by
  unfold State.interrupt; split <;> simp

@[simp] theorem State.respond_key {p : Path} {op i sub k st n m : Nat} {l : List Word} :
    (s.respond p op i sub k st n m l).key = s.key := by
  unfold State.respond; split
  · split <;> simp
  · simp
@[simp] theorem State.respond_sup {p : Path} {op i sub k st n m : Nat} {l : List Word} :
    (s.respond p op i sub k st n m l).sup = s.sup := by
  unfold State.respond; split
  · split <;> simp
  · simp
@[simp] theorem State.respond_half0 {p : Path} {op i sub k st n m : Nat} {l : List Word} :
    (s.respond p op i sub k st n m l).half0 = s.half0 := by
  unfold State.respond; split
  · split <;> simp
  · simp
@[simp] theorem State.respond_half1 {p : Path} {op i sub k st n m : Nat} {l : List Word} :
    (s.respond p op i sub k st n m l).half1 = s.half1 := by
  unfold State.respond; split
  · split <;> simp
  · simp
@[simp] theorem State.respond_svc {p : Path} {op i sub k st n m : Nat} {l : List Word} :
    (s.respond p op i sub k st n m l).svc = s.svc := by
  unfold State.respond; split
  · split <;> simp
  · simp
@[simp] theorem State.respond_ctxs {p : Path} {op i sub k st n m : Nat} {l : List Word} :
    (s.respond p op i sub k st n m l).ctxs = s.ctxs := by
  unfold State.respond; split
  · split <;> simp
  · simp
@[simp] theorem State.respond_tiles {p : Path} {op i sub k st n m : Nat} {l : List Word} :
    (s.respond p op i sub k st n m l).tiles = s.tiles := by
  unfold State.respond; split
  · split <;> simp
  · simp
@[simp] theorem State.respond_fabric {p : Path} {op i sub k st n m : Nat} {l : List Word} :
    (s.respond p op i sub k st n m l).fabric = s.fabric := by
  unfold State.respond; split
  · split <;> simp
  · simp
@[simp] theorem State.respond_spokes {p : Path} {op i sub k st n m : Nat} {l : List Word} :
    (s.respond p op i sub k st n m l).spokes = s.spokes := by
  unfold State.respond; split
  · split <;> simp
  · simp
@[simp] theorem State.respond_lanes {p : Path} {op i sub k st n m : Nat} {l : List Word} :
    (s.respond p op i sub k st n m l).lanes = s.lanes := by
  unfold State.respond; split
  · split <;> simp
  · simp
@[simp] theorem State.respond_slotBufs {p : Path} {op i sub k st n m : Nat} {l : List Word} :
    (s.respond p op i sub k st n m l).slotBufs = s.slotBufs := by
  unfold State.respond; split
  · split <;> simp
  · simp
@[simp] theorem State.respond_arbs {p : Path} {op i sub k st n m : Nat} {l : List Word} :
    (s.respond p op i sub k st n m l).arbs = s.arbs := by
  unfold State.respond; split
  · split <;> simp
  · simp
@[simp] theorem State.respond_mortar {p : Path} {op i sub k st n m : Nat} {l : List Word} :
    (s.respond p op i sub k st n m l).mortar = s.mortar := by
  unfold State.respond; split
  · split <;> simp
  · simp
@[simp] theorem State.respond_sec {p : Path} {op i sub k st n m : Nat} {l : List Word} :
    (s.respond p op i sub k st n m l).sec = s.sec := by
  unfold State.respond; split
  · split <;> simp
  · simp
@[simp] theorem State.respond_seqs {p : Path} {op i sub k st n m : Nat} {l : List Word} :
    (s.respond p op i sub k st n m l).seqs = s.seqs := by
  unfold State.respond; split
  · split <;> simp
  · simp
@[simp] theorem State.respond_cper {p : Path} {op i sub k st n m : Nat} {l : List Word} :
    (s.respond p op i sub k st n m l).cper = s.cper := by
  unfold State.respond; split
  · split <;> simp
  · simp
@[simp] theorem State.respond_capture0 {p : Path} {op i sub k st n m : Nat} {l : List Word} :
    (s.respond p op i sub k st n m l).capture0 = s.capture0 := by
  unfold State.respond; split
  · split <;> simp
  · simp
@[simp] theorem State.respond_capture1 {p : Path} {op i sub k st n m : Nat} {l : List Word} :
    (s.respond p op i sub k st n m l).capture1 = s.capture1 := by
  unfold State.respond; split
  · split <;> simp
  · simp
@[simp] theorem State.respond_hbm0 {p : Path} {op i sub k st n m : Nat} {l : List Word} :
    (s.respond p op i sub k st n m l).hbm0 = s.hbm0 := by
  unfold State.respond; split
  · split <;> simp
  · simp
@[simp] theorem State.respond_hbm1 {p : Path} {op i sub k st n m : Nat} {l : List Word} :
    (s.respond p op i sub k st n m l).hbm1 = s.hbm1 := by
  unfold State.respond; split
  · split <;> simp
  · simp
@[simp] theorem State.respond_unsent {p : Path} {op i sub k st n m : Nat} {l : List Word} :
    (s.respond p op i sub k st n m l).unsent = s.unsent := by
  unfold State.respond; split
  · split <;> simp
  · simp
@[simp] theorem State.respond_free {p : Path} {op i sub k st n m : Nat} {l : List Word} :
    (s.respond p op i sub k st n m l).free = s.free := by
  unfold State.respond; split
  · split <;> simp
  · simp
@[simp] theorem State.respond_pending {p : Path} {op i sub k st n m : Nat} {l : List Word} :
    (s.respond p op i sub k st n m l).pending = s.pending := by
  unfold State.respond; split
  · split <;> simp
  · simp

@[simp] theorem State.answered_key {via : Via} {i sub st k n : Nat} :
    (s.answered via i sub st k n).key = s.key := by
  unfold State.answered; simp
@[simp] theorem State.answered_sup {via : Via} {i sub st k n : Nat} :
    (s.answered via i sub st k n).sup = s.sup := by
  unfold State.answered; simp
@[simp] theorem State.answered_half0 {via : Via} {i sub st k n : Nat} :
    (s.answered via i sub st k n).half0 = s.half0 := by
  unfold State.answered; simp
@[simp] theorem State.answered_half1 {via : Via} {i sub st k n : Nat} :
    (s.answered via i sub st k n).half1 = s.half1 := by
  unfold State.answered; simp
@[simp] theorem State.answered_svc {via : Via} {i sub st k n : Nat} :
    (s.answered via i sub st k n).svc = s.svc := by
  unfold State.answered; simp
@[simp] theorem State.answered_ctxs {via : Via} {i sub st k n : Nat} :
    (s.answered via i sub st k n).ctxs = s.ctxs := by
  unfold State.answered; simp
@[simp] theorem State.answered_tiles {via : Via} {i sub st k n : Nat} :
    (s.answered via i sub st k n).tiles = s.tiles := by
  unfold State.answered; simp
@[simp] theorem State.answered_fabric {via : Via} {i sub st k n : Nat} :
    (s.answered via i sub st k n).fabric = s.fabric := by
  unfold State.answered; simp
@[simp] theorem State.answered_spokes {via : Via} {i sub st k n : Nat} :
    (s.answered via i sub st k n).spokes = s.spokes := by
  unfold State.answered; simp
@[simp] theorem State.answered_lanes {via : Via} {i sub st k n : Nat} :
    (s.answered via i sub st k n).lanes = s.lanes := by
  unfold State.answered; simp
@[simp] theorem State.answered_slotBufs {via : Via} {i sub st k n : Nat} :
    (s.answered via i sub st k n).slotBufs = s.slotBufs := by
  unfold State.answered; simp
@[simp] theorem State.answered_arbs {via : Via} {i sub st k n : Nat} :
    (s.answered via i sub st k n).arbs = s.arbs := by
  unfold State.answered; simp
@[simp] theorem State.answered_mortar {via : Via} {i sub st k n : Nat} :
    (s.answered via i sub st k n).mortar = s.mortar := by
  unfold State.answered; simp
@[simp] theorem State.answered_sec {via : Via} {i sub st k n : Nat} :
    (s.answered via i sub st k n).sec = s.sec := by
  unfold State.answered; simp
@[simp] theorem State.answered_seqs {via : Via} {i sub st k n : Nat} :
    (s.answered via i sub st k n).seqs = s.seqs := by
  unfold State.answered; simp
@[simp] theorem State.answered_cper {via : Via} {i sub st k n : Nat} :
    (s.answered via i sub st k n).cper = s.cper := by
  unfold State.answered; simp
@[simp] theorem State.answered_capture0 {via : Via} {i sub st k n : Nat} :
    (s.answered via i sub st k n).capture0 = s.capture0 := by
  unfold State.answered; simp
@[simp] theorem State.answered_capture1 {via : Via} {i sub st k n : Nat} :
    (s.answered via i sub st k n).capture1 = s.capture1 := by
  unfold State.answered; simp
@[simp] theorem State.answered_hbm0 {via : Via} {i sub st k n : Nat} :
    (s.answered via i sub st k n).hbm0 = s.hbm0 := by
  unfold State.answered; simp
@[simp] theorem State.answered_hbm1 {via : Via} {i sub st k n : Nat} :
    (s.answered via i sub st k n).hbm1 = s.hbm1 := by
  unfold State.answered; simp
@[simp] theorem State.answered_unsent {via : Via} {i sub st k n : Nat} :
    (s.answered via i sub st k n).unsent = s.unsent := by
  unfold State.answered; simp
@[simp] theorem State.answered_free {via : Via} {i sub st k n : Nat} :
    (s.answered via i sub st k n).free = s.free := by
  unfold State.answered; simp
@[simp] theorem State.answered_pending {via : Via} {i sub st k n : Nat} :
    (s.answered via i sub st k n).pending = s.pending := by
  unfold State.answered; simp

@[simp] theorem State.replied_key {q : Req} {op st k n : Nat} {l : List Word} :
    (s.replied q op st k n l).key = s.key := by
  unfold State.replied; simp
@[simp] theorem State.replied_sup {q : Req} {op st k n : Nat} {l : List Word} :
    (s.replied q op st k n l).sup = s.sup := by
  unfold State.replied; simp
@[simp] theorem State.replied_half0 {q : Req} {op st k n : Nat} {l : List Word} :
    (s.replied q op st k n l).half0 = s.half0 := by
  unfold State.replied; simp
@[simp] theorem State.replied_half1 {q : Req} {op st k n : Nat} {l : List Word} :
    (s.replied q op st k n l).half1 = s.half1 := by
  unfold State.replied; simp
@[simp] theorem State.replied_svc {q : Req} {op st k n : Nat} {l : List Word} :
    (s.replied q op st k n l).svc = s.svc := by
  unfold State.replied; simp
@[simp] theorem State.replied_ctxs {q : Req} {op st k n : Nat} {l : List Word} :
    (s.replied q op st k n l).ctxs = s.ctxs := by
  unfold State.replied; simp
@[simp] theorem State.replied_tiles {q : Req} {op st k n : Nat} {l : List Word} :
    (s.replied q op st k n l).tiles = s.tiles := by
  unfold State.replied; simp
@[simp] theorem State.replied_fabric {q : Req} {op st k n : Nat} {l : List Word} :
    (s.replied q op st k n l).fabric = s.fabric := by
  unfold State.replied; simp
@[simp] theorem State.replied_spokes {q : Req} {op st k n : Nat} {l : List Word} :
    (s.replied q op st k n l).spokes = s.spokes := by
  unfold State.replied; simp
@[simp] theorem State.replied_lanes {q : Req} {op st k n : Nat} {l : List Word} :
    (s.replied q op st k n l).lanes = s.lanes := by
  unfold State.replied; simp
@[simp] theorem State.replied_slotBufs {q : Req} {op st k n : Nat} {l : List Word} :
    (s.replied q op st k n l).slotBufs = s.slotBufs := by
  unfold State.replied; simp
@[simp] theorem State.replied_arbs {q : Req} {op st k n : Nat} {l : List Word} :
    (s.replied q op st k n l).arbs = s.arbs := by
  unfold State.replied; simp
@[simp] theorem State.replied_mortar {q : Req} {op st k n : Nat} {l : List Word} :
    (s.replied q op st k n l).mortar = s.mortar := by
  unfold State.replied; simp
@[simp] theorem State.replied_sec {q : Req} {op st k n : Nat} {l : List Word} :
    (s.replied q op st k n l).sec = s.sec := by
  unfold State.replied; simp
@[simp] theorem State.replied_seqs {q : Req} {op st k n : Nat} {l : List Word} :
    (s.replied q op st k n l).seqs = s.seqs := by
  unfold State.replied; simp
@[simp] theorem State.replied_cper {q : Req} {op st k n : Nat} {l : List Word} :
    (s.replied q op st k n l).cper = s.cper := by
  unfold State.replied; simp
@[simp] theorem State.replied_capture0 {q : Req} {op st k n : Nat} {l : List Word} :
    (s.replied q op st k n l).capture0 = s.capture0 := by
  unfold State.replied; simp
@[simp] theorem State.replied_capture1 {q : Req} {op st k n : Nat} {l : List Word} :
    (s.replied q op st k n l).capture1 = s.capture1 := by
  unfold State.replied; simp
@[simp] theorem State.replied_hbm0 {q : Req} {op st k n : Nat} {l : List Word} :
    (s.replied q op st k n l).hbm0 = s.hbm0 := by
  unfold State.replied; simp
@[simp] theorem State.replied_hbm1 {q : Req} {op st k n : Nat} {l : List Word} :
    (s.replied q op st k n l).hbm1 = s.hbm1 := by
  unfold State.replied; simp
@[simp] theorem State.replied_unsent {q : Req} {op st k n : Nat} {l : List Word} :
    (s.replied q op st k n l).unsent = s.unsent := by
  unfold State.replied; simp
@[simp] theorem State.replied_free {q : Req} {op st k n : Nat} {l : List Word} :
    (s.replied q op st k n l).free = s.free := by
  unfold State.replied; simp
@[simp] theorem State.replied_pending {q : Req} {op st k n : Nat} {l : List Word} :
    (s.replied q op st k n l).pending = s.pending := by
  unfold State.replied; simp

@[simp] theorem State.written_key {via : Via} {i sub st k n : Nat} {ws : List Word} :
    (s.written via i sub ws st k n).key = s.key := by
  unfold State.written; simp
@[simp] theorem State.written_sup {via : Via} {i sub st k n : Nat} {ws : List Word} :
    (s.written via i sub ws st k n).sup = s.sup := by
  unfold State.written; simp
@[simp] theorem State.written_half0 {via : Via} {i sub st k n : Nat} {ws : List Word} :
    (s.written via i sub ws st k n).half0 = s.half0 := by
  unfold State.written; simp
@[simp] theorem State.written_half1 {via : Via} {i sub st k n : Nat} {ws : List Word} :
    (s.written via i sub ws st k n).half1 = s.half1 := by
  unfold State.written; simp
@[simp] theorem State.written_svc {via : Via} {i sub st k n : Nat} {ws : List Word} :
    (s.written via i sub ws st k n).svc = s.svc := by
  unfold State.written; simp
@[simp] theorem State.written_ctxs {via : Via} {i sub st k n : Nat} {ws : List Word} :
    (s.written via i sub ws st k n).ctxs = s.ctxs := by
  unfold State.written; simp
@[simp] theorem State.written_tiles {via : Via} {i sub st k n : Nat} {ws : List Word} :
    (s.written via i sub ws st k n).tiles = s.tiles := by
  unfold State.written; simp
@[simp] theorem State.written_fabric {via : Via} {i sub st k n : Nat} {ws : List Word} :
    (s.written via i sub ws st k n).fabric = s.fabric := by
  unfold State.written; simp
@[simp] theorem State.written_spokes {via : Via} {i sub st k n : Nat} {ws : List Word} :
    (s.written via i sub ws st k n).spokes = s.spokes := by
  unfold State.written; simp
@[simp] theorem State.written_lanes {via : Via} {i sub st k n : Nat} {ws : List Word} :
    (s.written via i sub ws st k n).lanes = s.lanes := by
  unfold State.written; simp
@[simp] theorem State.written_slotBufs {via : Via} {i sub st k n : Nat} {ws : List Word} :
    (s.written via i sub ws st k n).slotBufs = s.slotBufs := by
  unfold State.written; simp
@[simp] theorem State.written_arbs {via : Via} {i sub st k n : Nat} {ws : List Word} :
    (s.written via i sub ws st k n).arbs = s.arbs := by
  unfold State.written; simp
@[simp] theorem State.written_mortar {via : Via} {i sub st k n : Nat} {ws : List Word} :
    (s.written via i sub ws st k n).mortar = s.mortar := by
  unfold State.written; simp
@[simp] theorem State.written_sec {via : Via} {i sub st k n : Nat} {ws : List Word} :
    (s.written via i sub ws st k n).sec = s.sec := by
  unfold State.written; simp
@[simp] theorem State.written_seqs {via : Via} {i sub st k n : Nat} {ws : List Word} :
    (s.written via i sub ws st k n).seqs = s.seqs := by
  unfold State.written; simp
@[simp] theorem State.written_cper {via : Via} {i sub st k n : Nat} {ws : List Word} :
    (s.written via i sub ws st k n).cper = s.cper := by
  unfold State.written; simp
@[simp] theorem State.written_capture0 {via : Via} {i sub st k n : Nat} {ws : List Word} :
    (s.written via i sub ws st k n).capture0 = s.capture0 := by
  unfold State.written; simp
@[simp] theorem State.written_capture1 {via : Via} {i sub st k n : Nat} {ws : List Word} :
    (s.written via i sub ws st k n).capture1 = s.capture1 := by
  unfold State.written; simp
@[simp] theorem State.written_hbm0 {via : Via} {i sub st k n : Nat} {ws : List Word} :
    (s.written via i sub ws st k n).hbm0 = s.hbm0 := by
  unfold State.written; simp
@[simp] theorem State.written_hbm1 {via : Via} {i sub st k n : Nat} {ws : List Word} :
    (s.written via i sub ws st k n).hbm1 = s.hbm1 := by
  unfold State.written; simp
@[simp] theorem State.written_unsent {via : Via} {i sub st k n : Nat} {ws : List Word} :
    (s.written via i sub ws st k n).unsent = s.unsent := by
  unfold State.written; simp
@[simp] theorem State.written_free {via : Via} {i sub st k n : Nat} {ws : List Word} :
    (s.written via i sub ws st k n).free = s.free := by
  unfold State.written; simp
@[simp] theorem State.written_pending {via : Via} {i sub st k n : Nat} {ws : List Word} :
    (s.written via i sub ws st k n).pending = s.pending := by
  unfold State.written; simp

/-- The answer of a write touches no register but the window's and the trace ring's. -/
theorem State.written_regAt {via : Via} {i sub st k n : Nat} {ws : List Word} {u j c : Nat}
    (h : j % 65536 ≠ 0x0010 ∧ j % 65536 ≠ 0xF030) : (s.written via i sub ws st k n).regAt u j c = s.regAt u j c := by
  have h1 : SameObject j s (s.traceAdd (.wrote i sub ws s.count)) :=
    State.traceAdd_kept (sameObject_kept j s) (sameObject_keptD s (by simpa using h.2)) (fun _ _ => rfl)
  exact State.respond_kept (sameObject_kept j s) (sameObject_keptD s (by simpa using h.1))
    (State.interrupt_kept (sameObject_kept j s) h1) u c

end Sys2Proof.Machine
end

