-- ==== Sys2Proof/Laws/Arrival.lean ====
section
/-! SUPPORT. What the arrival of a write leaves as it is: everything but what the path has staged and when the
serving half was heard last. -/

namespace Sys2Proof.Machine

open Sys2Proof Sys2Proof.Safety

variable {s : State} {via : Via} {i sub : Nat}

/-- An arrival discards staged words and notes a beat. -/
theorem arrival_shape (s : State) (via : Via) (i sub : Nat) : ∃ (l : List Staging) (c0 c1 : HalfCtl),
    arrival s via i sub = { s with svc := { s.svc with stagings := l }, half0 := c0, half1 := c1 } ∧
    c0 = { s.half0 with lastBeat := c0.lastBeat } ∧ c1 = { s.half1 with lastBeat := c1.lastBeat } := by
  unfold arrival
  split
  · exact ⟨s.svc.stagings, s.half0, s.half1, rfl, rfl, rfl⟩
  · split
    · exact ⟨s.svc.stagings, s.half0, s.half1, rfl, rfl, rfl⟩
    · dsimp only
      unfold State.heard
      split
      · next h _ =>
        cases h
        · exact ⟨_, _, _, rfl, rfl, rfl⟩
        · exact ⟨_, _, _, rfl, rfl, rfl⟩
      · exact ⟨_, _, _, rfl, rfl, rfl⟩

@[simp] theorem arrival_dict : (arrival s via i sub).dict = s.dict := by
  obtain ⟨l, c0, c1, h, _, _⟩ := arrival_shape s via i sub; rw [h]
@[simp] theorem arrival_key : (arrival s via i sub).key = s.key := by
  obtain ⟨l, c0, c1, h, _, _⟩ := arrival_shape s via i sub; rw [h]
@[simp] theorem arrival_sup : (arrival s via i sub).sup = s.sup := by
  obtain ⟨l, c0, c1, h, _, _⟩ := arrival_shape s via i sub; rw [h]
@[simp] theorem arrival_port : (arrival s via i sub).port = s.port := by
  obtain ⟨l, c0, c1, h, _, _⟩ := arrival_shape s via i sub; rw [h]
@[simp] theorem arrival_ctxs : (arrival s via i sub).ctxs = s.ctxs := by
  obtain ⟨l, c0, c1, h, _, _⟩ := arrival_shape s via i sub; rw [h]
@[simp] theorem arrival_tiles : (arrival s via i sub).tiles = s.tiles := by
  obtain ⟨l, c0, c1, h, _, _⟩ := arrival_shape s via i sub; rw [h]
@[simp] theorem arrival_fabric : (arrival s via i sub).fabric = s.fabric := by
  obtain ⟨l, c0, c1, h, _, _⟩ := arrival_shape s via i sub; rw [h]
@[simp] theorem arrival_spokes : (arrival s via i sub).spokes = s.spokes := by
  obtain ⟨l, c0, c1, h, _, _⟩ := arrival_shape s via i sub; rw [h]
@[simp] theorem arrival_lanes : (arrival s via i sub).lanes = s.lanes := by
  obtain ⟨l, c0, c1, h, _, _⟩ := arrival_shape s via i sub; rw [h]
@[simp] theorem arrival_slotBufs : (arrival s via i sub).slotBufs = s.slotBufs := by
  obtain ⟨l, c0, c1, h, _, _⟩ := arrival_shape s via i sub; rw [h]
@[simp] theorem arrival_arbs : (arrival s via i sub).arbs = s.arbs := by
  obtain ⟨l, c0, c1, h, _, _⟩ := arrival_shape s via i sub; rw [h]
@[simp] theorem arrival_sec : (arrival s via i sub).sec = s.sec := by
  obtain ⟨l, c0, c1, h, _, _⟩ := arrival_shape s via i sub; rw [h]
@[simp] theorem arrival_seqs : (arrival s via i sub).seqs = s.seqs := by
  obtain ⟨l, c0, c1, h, _, _⟩ := arrival_shape s via i sub; rw [h]
@[simp] theorem arrival_cper : (arrival s via i sub).cper = s.cper := by
  obtain ⟨l, c0, c1, h, _, _⟩ := arrival_shape s via i sub; rw [h]
@[simp] theorem arrival_trace : (arrival s via i sub).trace = s.trace := by
  obtain ⟨l, c0, c1, h, _, _⟩ := arrival_shape s via i sub; rw [h]
@[simp] theorem arrival_capture0 : (arrival s via i sub).capture0 = s.capture0 := by
  obtain ⟨l, c0, c1, h, _, _⟩ := arrival_shape s via i sub; rw [h]
@[simp] theorem arrival_capture1 : (arrival s via i sub).capture1 = s.capture1 := by
  obtain ⟨l, c0, c1, h, _, _⟩ := arrival_shape s via i sub; rw [h]
@[simp] theorem arrival_hbm0 : (arrival s via i sub).hbm0 = s.hbm0 := by
  obtain ⟨l, c0, c1, h, _, _⟩ := arrival_shape s via i sub; rw [h]
@[simp] theorem arrival_hbm1 : (arrival s via i sub).hbm1 = s.hbm1 := by
  obtain ⟨l, c0, c1, h, _, _⟩ := arrival_shape s via i sub; rw [h]
@[simp] theorem arrival_unsent : (arrival s via i sub).unsent = s.unsent := by
  obtain ⟨l, c0, c1, h, _, _⟩ := arrival_shape s via i sub; rw [h]
@[simp] theorem arrival_out : (arrival s via i sub).out = s.out := by
  obtain ⟨l, c0, c1, h, _, _⟩ := arrival_shape s via i sub; rw [h]
@[simp] theorem arrival_free : (arrival s via i sub).free = s.free := by
  obtain ⟨l, c0, c1, h, _, _⟩ := arrival_shape s via i sub; rw [h]
@[simp] theorem arrival_pending : (arrival s via i sub).pending = s.pending := by
  obtain ⟨l, c0, c1, h, _, _⟩ := arrival_shape s via i sub; rw [h]

@[simp] theorem arrival_tickets : (arrival s via i sub).svc.tickets = s.svc.tickets := by
  obtain ⟨l, c0, c1, h, _, _⟩ := arrival_shape s via i sub; rw [h]
@[simp] theorem arrival_nextTicket : (arrival s via i sub).svc.nextTicket = s.svc.nextTicket := by
  obtain ⟨l, c0, c1, h, _, _⟩ := arrival_shape s via i sub; rw [h]
/-- A half is as it was, but for the moment it was heard last. -/
theorem arrival_half (h : HalfId) : (arrival s via i sub).half h =
    { s.half h with lastBeat := ((arrival s via i sub).half h).lastBeat } := by
  obtain ⟨l, c0, c1, e, e0, e1⟩ := arrival_shape s via i sub
  rw [e]; cases h
  · exact e0
  · exact e1
@[simp] theorem arrival_phase (h : HalfId) : ((arrival s via i sub).half h).phase = (s.half h).phase := by
  rw [arrival_half]
@[simp] theorem arrival_believed (h : HalfId) : ((arrival s via i sub).half h).believed = (s.half h).believed := by
  rw [arrival_half]
@[simp] theorem arrival_runs (h : HalfId) : (arrival s via i sub).runs h = s.runs h := by
  unfold State.runs; rw [arrival_phase]
@[simp] theorem arrival_regAt (u j k : Nat) : (arrival s via i sub).regAt u j k = s.regAt u j k :=
  State.regAt_of_dict arrival_dict
@[simp] theorem arrival_fence (h : HalfId) : (arrival s via i sub).fence h = s.fence h := by
  unfold State.fence State.val State.valAt; rw [arrival_regAt]
@[simp] theorem arrival_fenced (h : HalfId) : (arrival s via i sub).fenced h = s.fenced h := by
  unfold State.fenced; rw [arrival_fence]
@[simp] theorem arrival_ticketRoom : (arrival s via i sub).ticketRoom = s.ticketRoom := by
  unfold State.ticketRoom; rw [arrival_tickets]
@[simp] theorem arrival_ctx (n : Nat) : (arrival s via i sub).ctx n = s.ctx n := by
  unfold State.ctx; rw [arrival_ctxs]

end Sys2Proof.Machine
end

