-- ==== Sys2Proof/Laws/KeptCommands.lean ====
section
/-! SUPPORT. What every definition of Machine/Commands.lean keeps of a state: one lemma each (Laws/Kept.lean). -/

namespace Sys2Proof.Machine

open Sys2Proof

set_option linter.all false

theorem State.put!_kept {P : State → Prop} (kk : Kept P) (km : KeptM P) (kc : KeptC P) (kt : KeptT P) (ks : KeptS P) (kg : KeptK P) (kh : KeptH P) (kv : KeptV P) (kb : KeptB P) (kl : KeptL P) (ka : KeptA P) (kq : KeptQ P) {s : State} {x : Aux} {via : Via} {i sub : Nat} {ws : List Word} (h_s : P s) :
    KeptR P (State.put! s x via i sub ws) := by
  unfold State.put!
  repeat' first
    | with_reducible assumption
    | with_reducible intro _
    | exact ka.mem _
    | exact ka.toD
    | exact ka.toN
    | with_reducible refine KeptR.onPower ?_ (fun _ => ?_)
    | with_reducible refine KeptR.next ?_
    | with_reducible exact KeptR.fault _
    | with_reducible apply State.opWrite_kept
    | with_reducible apply State.serveWrite_kept
    | exact ka.mem _
    | exact ka.toD
    | exact ka.toN
    | split
    | fail_if_no_progress with_reducible apply kk.rest

theorem State.putDomain!_kept {P : State → Prop} (kk : Kept P) (km : KeptM P) (kc : KeptC P) (kt : KeptT P) (kg : KeptK P) (kh : KeptH P) (kv : KeptV P) (kb : KeptB P) (kd : KeptD P [0x0010, 0x0011, 0x0080, 0x1002, 0x2000, 0x2001, 0x2010, 0x2011, 0x2012, 0x3031, 0x4001, 0x4003, 0x4004, 0x4005, 0x4010, 0x4012, 0x4021, 0x5010, 0x5020, 0x6010, 0x7021, 0x7040, 0x9010, 0x9070, 0xF001, 0xF030]) (kn : KeptN P) (kq : KeptQ P) {s : State} {via : Via} {i sub : Nat} {l : List Byte} (h_s : P s) :
    KeptR P (State.putDomain! s via i sub l) := by
  unfold State.putDomain!
  repeat' first
    | with_reducible assumption
    | with_reducible intro _
    | exact kd.mem (by decide)
    | exact kd.mem (pick_mem (by decide) (by decide))
    | exact kd.mono (by decide)
    | exact kn.mem _
    | with_reducible refine KeptR.onPower ?_ (fun _ => ?_)
    | with_reducible refine KeptR.next ?_
    | with_reducible exact KeptR.fault _
    | with_reducible apply State.checked_kept
    | with_reducible apply State.closeDomain_kept
    | with_reducible apply State.commitDomain_kept
    | with_reducible apply State.serve_kept
    | with_reducible apply State.unstageOther_kept
    | exact kd.mem (by decide)
    | exact kd.mem (pick_mem (by decide) (by decide))
    | exact kd.mono (by decide)
    | exact kn.mem _
    | split
    | fail_if_no_progress with_reducible apply kk.rest

theorem execRecoveryImage_kept {P : State → Prop} (kk : Kept P) (km : KeptM P) (kc : KeptC P) (kt : KeptT P) (kg : KeptK P) (kh : KeptH P) (kv : KeptV P) (kb : KeptB P) (kd : KeptD P [0x0010, 0x0011, 0x0080, 0x1002, 0x2000, 0x2001, 0x2010, 0x2011, 0x2012, 0x3031, 0x4001, 0x4003, 0x4004, 0x4005, 0x4010, 0x4012, 0x4021, 0x5010, 0x5020, 0x6010, 0x7021, 0x7040, 0x9010, 0x9070, 0xF001, 0xF030]) (kn : KeptN P) (kq : KeptQ P) {via : Via} {image : List Byte} {s : State} (h_s : P s) :
    KeptR P (execRecoveryImage via image s) := by
  unfold execRecoveryImage
  repeat' first
    | with_reducible assumption
    | with_reducible intro _
    | exact kd.mem (by decide)
    | exact kd.mem (pick_mem (by decide) (by decide))
    | exact kd.mono (by decide)
    | exact kn.mem _
    | with_reducible refine KeptR.onPower ?_ (fun _ => ?_)
    | with_reducible refine KeptR.next ?_
    | with_reducible exact KeptR.fault _
    | with_reducible apply State.putDomain!_kept
    | exact kd.mem (by decide)
    | exact kd.mem (pick_mem (by decide) (by decide))
    | exact kd.mono (by decide)
    | exact kn.mem _
    | split
    | fail_if_no_progress with_reducible apply kk.rest

theorem execRecoverCommit_kept {P : State → Prop} (kk : Kept P) (km : KeptM P) (kc : KeptC P) (kt : KeptT P) (ks : KeptS P) (kg : KeptK P) (kh : KeptH P) (kv : KeptV P) (kb : KeptB P) (kl : KeptL P) (ka : KeptA P) (kq : KeptQ P) {via : Via} {found : Findings} {s : State} (h_s : P s) :
    KeptR P (execRecoverCommit via found s) := by
  unfold execRecoverCommit
  repeat' first
    | with_reducible assumption
    | with_reducible intro _
    | exact ka.mem _
    | exact ka.toD
    | exact ka.toN
    | with_reducible refine KeptR.onPower ?_ (fun _ => ?_)
    | with_reducible refine KeptR.next ?_
    | with_reducible exact KeptR.fault _
    | with_reducible apply State.put!_kept
    | exact ka.mem _
    | exact ka.toD
    | exact ka.toN
    | split
    | fail_if_no_progress with_reducible apply kk.rest

theorem execRecoverRetry_kept {P : State → Prop} (kk : Kept P) (km : KeptM P) (kc : KeptC P) (kt : KeptT P) (ks : KeptS P) (kg : KeptK P) (kh : KeptH P) (kv : KeptV P) (kb : KeptB P) (kl : KeptL P) (ka : KeptA P) (kq : KeptQ P) {via : Via} {found : Findings} {s : State} (h_s : P s) :
    KeptR P (execRecoverRetry via found s) := by
  unfold execRecoverRetry
  repeat' first
    | with_reducible assumption
    | with_reducible intro _
    | exact ka.mem _
    | exact ka.toD
    | exact ka.toN
    | with_reducible refine KeptR.onPower ?_ (fun _ => ?_)
    | with_reducible refine KeptR.next ?_
    | with_reducible exact KeptR.fault _
    | with_reducible apply State.put!_kept
    | exact ka.mem _
    | exact ka.toD
    | exact ka.toN
    | split
    | fail_if_no_progress with_reducible apply kk.rest

theorem execClearExtremes_kept {P : State → Prop} (kk : Kept P) (km : KeptM P) (kc : KeptC P) (kt : KeptT P) (ks : KeptS P) (kg : KeptK P) (kh : KeptH P) (kv : KeptV P) (kb : KeptB P) (kl : KeptL P) (ka : KeptA P) (kq : KeptQ P) {via : Via} {value : Word} {s : State} (h_s : P s) :
    KeptR P (execClearExtremes via value s) := by
  unfold execClearExtremes
  repeat' first
    | with_reducible assumption
    | with_reducible intro _
    | exact ka.mem _
    | exact ka.toD
    | exact ka.toN
    | with_reducible refine KeptR.onPower ?_ (fun _ => ?_)
    | with_reducible refine KeptR.next ?_
    | with_reducible exact KeptR.fault _
    | with_reducible apply State.put!_kept
    | exact ka.mem _
    | exact ka.toD
    | exact ka.toN
    | split
    | fail_if_no_progress with_reducible apply kk.rest

theorem execMoveLead_kept {P : State → Prop} (kk : Kept P) (km : KeptM P) (kc : KeptC P) (kt : KeptT P) (ks : KeptS P) (kg : KeptK P) (kh : KeptH P) (kv : KeptV P) (kb : KeptB P) (kl : KeptL P) (ka : KeptA P) (kq : KeptQ P) {via : Via} {target : Word} {s : State} (h_s : P s) :
    KeptR P (execMoveLead via target s) := by
  unfold execMoveLead
  repeat' first
    | with_reducible assumption
    | with_reducible intro _
    | exact ka.mem _
    | exact ka.toD
    | exact ka.toN
    | with_reducible refine KeptR.onPower ?_ (fun _ => ?_)
    | with_reducible refine KeptR.next ?_
    | with_reducible exact KeptR.fault _
    | with_reducible apply State.put!_kept
    | exact ka.mem _
    | exact ka.toD
    | exact ka.toN
    | split
    | fail_if_no_progress with_reducible apply kk.rest

theorem execReplaceClear_kept {P : State → Prop} (kk : Kept P) (km : KeptM P) (kc : KeptC P) (kt : KeptT P) (ks : KeptS P) (kg : KeptK P) (kh : KeptH P) (kv : KeptV P) (kb : KeptB P) (kl : KeptL P) (ka : KeptA P) (kq : KeptQ P) {via : Via} {value : Word} {s : State} (h_s : P s) :
    KeptR P (execReplaceClear via value s) := by
  unfold execReplaceClear
  repeat' first
    | with_reducible assumption
    | with_reducible intro _
    | exact ka.mem _
    | exact ka.toD
    | exact ka.toN
    | with_reducible refine KeptR.onPower ?_ (fun _ => ?_)
    | with_reducible refine KeptR.next ?_
    | with_reducible exact KeptR.fault _
    | with_reducible apply State.put!_kept
    | exact ka.mem _
    | exact ka.toD
    | exact ka.toN
    | split
    | fail_if_no_progress with_reducible apply kk.rest

theorem execReplaceRaise_kept {P : State → Prop} (kk : Kept P) (km : KeptM P) (kc : KeptC P) (kt : KeptT P) (ks : KeptS P) (kg : KeptK P) (kh : KeptH P) (kv : KeptV P) (kb : KeptB P) (kl : KeptL P) (ka : KeptA P) (kq : KeptQ P) {via : Via} {value : Word} {s : State} (h_s : P s) :
    KeptR P (execReplaceRaise via value s) := by
  unfold execReplaceRaise
  repeat' first
    | with_reducible assumption
    | with_reducible intro _
    | exact ka.mem _
    | exact ka.toD
    | exact ka.toN
    | with_reducible refine KeptR.onPower ?_ (fun _ => ?_)
    | with_reducible refine KeptR.next ?_
    | with_reducible exact KeptR.fault _
    | with_reducible apply State.put!_kept
    | exact ka.mem _
    | exact ka.toD
    | exact ka.toN
    | split
    | fail_if_no_progress with_reducible apply kk.rest

theorem execClearSticky_kept {P : State → Prop} (kk : Kept P) (km : KeptM P) (kc : KeptC P) (kt : KeptT P) (ks : KeptS P) (kg : KeptK P) (kh : KeptH P) (kv : KeptV P) (kb : KeptB P) (kl : KeptL P) (ka : KeptA P) (kq : KeptQ P) {via : Via} {value : Word} {s : State} (h_s : P s) :
    KeptR P (execClearSticky via value s) := by
  unfold execClearSticky
  repeat' first
    | with_reducible assumption
    | with_reducible intro _
    | exact ka.mem _
    | exact ka.toD
    | exact ka.toN
    | with_reducible refine KeptR.onPower ?_ (fun _ => ?_)
    | with_reducible refine KeptR.next ?_
    | with_reducible exact KeptR.fault _
    | with_reducible apply State.put!_kept
    | exact ka.mem _
    | exact ka.toD
    | exact ka.toN
    | split
    | fail_if_no_progress with_reducible apply kk.rest

theorem execTelemetryPlacementWrite_kept {P : State → Prop} (kk : Kept P) (km : KeptM P) (kc : KeptC P) (kt : KeptT P) (ks : KeptS P) (kg : KeptK P) (kh : KeptH P) (kv : KeptV P) (kb : KeptB P) (kl : KeptL P) (ka : KeptA P) (kq : KeptQ P) {via : Via} {value : Word} {s : State} (h_s : P s) :
    KeptR P (execTelemetryPlacementWrite via value s) := by
  unfold execTelemetryPlacementWrite
  repeat' first
    | with_reducible assumption
    | with_reducible intro _
    | exact ka.mem _
    | exact ka.toD
    | exact ka.toN
    | with_reducible refine KeptR.onPower ?_ (fun _ => ?_)
    | with_reducible refine KeptR.next ?_
    | with_reducible exact KeptR.fault _
    | with_reducible apply State.put!_kept
    | exact ka.mem _
    | exact ka.toD
    | exact ka.toN
    | split
    | fail_if_no_progress with_reducible apply kk.rest

theorem execCachePartitionWrite_kept {P : State → Prop} (kk : Kept P) (km : KeptM P) (kc : KeptC P) (kt : KeptT P) (ks : KeptS P) (kg : KeptK P) (kh : KeptH P) (kv : KeptV P) (kb : KeptB P) (kl : KeptL P) (ka : KeptA P) (kq : KeptQ P) {via : Via} {value : Word} {s : State} (h_s : P s) :
    KeptR P (execCachePartitionWrite via value s) := by
  unfold execCachePartitionWrite
  repeat' first
    | with_reducible assumption
    | with_reducible intro _
    | exact ka.mem _
    | exact ka.toD
    | exact ka.toN
    | with_reducible refine KeptR.onPower ?_ (fun _ => ?_)
    | with_reducible refine KeptR.next ?_
    | with_reducible exact KeptR.fault _
    | with_reducible apply State.put!_kept
    | exact ka.mem _
    | exact ka.toD
    | exact ka.toN
    | split
    | fail_if_no_progress with_reducible apply kk.rest

theorem execClockSourceSelect_kept {P : State → Prop} (kk : Kept P) (km : KeptM P) (kc : KeptC P) (kt : KeptT P) (ks : KeptS P) (kg : KeptK P) (kh : KeptH P) (kv : KeptV P) (kb : KeptB P) (kl : KeptL P) (ka : KeptA P) (kq : KeptQ P) {via : Via} {sub : Nat} {value : Word} {s : State} (h_s : P s) :
    KeptR P (execClockSourceSelect via sub value s) := by
  unfold execClockSourceSelect
  repeat' first
    | with_reducible assumption
    | with_reducible intro _
    | exact ka.mem _
    | exact ka.toD
    | exact ka.toN
    | with_reducible refine KeptR.onPower ?_ (fun _ => ?_)
    | with_reducible refine KeptR.next ?_
    | with_reducible exact KeptR.fault _
    | with_reducible apply State.put!_kept
    | exact ka.mem _
    | exact ka.toD
    | exact ka.toN
    | split
    | fail_if_no_progress with_reducible apply kk.rest

theorem execClockEnableWrite_kept {P : State → Prop} (kk : Kept P) (km : KeptM P) (kc : KeptC P) (kt : KeptT P) (ks : KeptS P) (kg : KeptK P) (kh : KeptH P) (kv : KeptV P) (kb : KeptB P) (kl : KeptL P) (ka : KeptA P) (kq : KeptQ P) {via : Via} {sub : Nat} {value : Word} {s : State} (h_s : P s) :
    KeptR P (execClockEnableWrite via sub value s) := by
  unfold execClockEnableWrite
  repeat' first
    | with_reducible assumption
    | with_reducible intro _
    | exact ka.mem _
    | exact ka.toD
    | exact ka.toN
    | with_reducible refine KeptR.onPower ?_ (fun _ => ?_)
    | with_reducible refine KeptR.next ?_
    | with_reducible exact KeptR.fault _
    | with_reducible apply State.put!_kept
    | exact ka.mem _
    | exact ka.toD
    | exact ka.toN
    | split
    | fail_if_no_progress with_reducible apply kk.rest

theorem execSpreadWrite_kept {P : State → Prop} (kk : Kept P) (km : KeptM P) (kc : KeptC P) (kt : KeptT P) (ks : KeptS P) (kg : KeptK P) (kh : KeptH P) (kv : KeptV P) (kb : KeptB P) (kl : KeptL P) (ka : KeptA P) (kq : KeptQ P) {via : Via} {sub : Nat} {value : Word} {s : State} (h_s : P s) :
    KeptR P (execSpreadWrite via sub value s) := by
  unfold execSpreadWrite
  repeat' first
    | with_reducible assumption
    | with_reducible intro _
    | exact ka.mem _
    | exact ka.toD
    | exact ka.toN
    | with_reducible refine KeptR.onPower ?_ (fun _ => ?_)
    | with_reducible refine KeptR.next ?_
    | with_reducible exact KeptR.fault _
    | with_reducible apply State.put!_kept
    | exact ka.mem _
    | exact ka.toD
    | exact ka.toN
    | split
    | fail_if_no_progress with_reducible apply kk.rest

theorem execClkobsSelect_kept {P : State → Prop} (kk : Kept P) (km : KeptM P) (kc : KeptC P) (kt : KeptT P) (ks : KeptS P) (kg : KeptK P) (kh : KeptH P) (kv : KeptV P) (kb : KeptB P) (kl : KeptL P) (ka : KeptA P) (kq : KeptQ P) {via : Via} {value : Word} {s : State} (h_s : P s) :
    KeptR P (execClkobsSelect via value s) := by
  unfold execClkobsSelect
  repeat' first
    | with_reducible assumption
    | with_reducible intro _
    | exact ka.mem _
    | exact ka.toD
    | exact ka.toN
    | with_reducible refine KeptR.onPower ?_ (fun _ => ?_)
    | with_reducible refine KeptR.next ?_
    | with_reducible exact KeptR.fault _
    | with_reducible apply State.put!_kept
    | exact ka.mem _
    | exact ka.toD
    | exact ka.toN
    | split
    | fail_if_no_progress with_reducible apply kk.rest

theorem execCtxOpen_kept {P : State → Prop} (kk : Kept P) (km : KeptM P) (kc : KeptC P) (kt : KeptT P) (ks : KeptS P) (kg : KeptK P) (kh : KeptH P) (kv : KeptV P) (kb : KeptB P) (kl : KeptL P) (ka : KeptA P) (kq : KeptQ P) {via : Via} {n : Nat} {value : Word} {s : State} (h_s : P s) :
    KeptR P (execCtxOpen via n value s) := by
  unfold execCtxOpen
  repeat' first
    | with_reducible assumption
    | with_reducible intro _
    | exact ka.mem _
    | exact ka.toD
    | exact ka.toN
    | with_reducible refine KeptR.onPower ?_ (fun _ => ?_)
    | with_reducible refine KeptR.next ?_
    | with_reducible exact KeptR.fault _
    | with_reducible apply State.put!_kept
    | exact ka.mem _
    | exact ka.toD
    | exact ka.toN
    | split
    | fail_if_no_progress with_reducible apply kk.rest

theorem execCtxLoad_kept {P : State → Prop} (kk : Kept P) (km : KeptM P) (kc : KeptC P) (kt : KeptT P) (ks : KeptS P) (kg : KeptK P) (kh : KeptH P) (kv : KeptV P) (kb : KeptB P) (kl : KeptL P) (ka : KeptA P) (kq : KeptQ P) {via : Via} {n : Nat} {decls : List TensorDecl} {s : State} (h_s : P s) :
    KeptR P (execCtxLoad via n decls s) := by
  unfold execCtxLoad
  repeat' first
    | with_reducible assumption
    | with_reducible intro _
    | exact ka.mem _
    | exact ka.toD
    | exact ka.toN
    | with_reducible refine KeptR.onPower ?_ (fun _ => ?_)
    | with_reducible refine KeptR.next ?_
    | with_reducible exact KeptR.fault _
    | with_reducible apply State.put!_kept
    | exact ka.mem _
    | exact ka.toD
    | exact ka.toN
    | split
    | fail_if_no_progress with_reducible apply kk.rest

theorem execCtxRun_kept {P : State → Prop} (kk : Kept P) (km : KeptM P) (kc : KeptC P) (kt : KeptT P) (ks : KeptS P) (kg : KeptK P) (kh : KeptH P) (kv : KeptV P) (kb : KeptB P) (kl : KeptL P) (ka : KeptA P) (kq : KeptQ P) {via : Via} {n : Nat} {s : State} (h_s : P s) :
    KeptR P (execCtxRun via n s) := by
  unfold execCtxRun
  repeat' first
    | with_reducible assumption
    | with_reducible intro _
    | exact ka.mem _
    | exact ka.toD
    | exact ka.toN
    | with_reducible refine KeptR.onPower ?_ (fun _ => ?_)
    | with_reducible refine KeptR.next ?_
    | with_reducible exact KeptR.fault _
    | with_reducible apply State.put!_kept
    | exact ka.mem _
    | exact ka.toD
    | exact ka.toN
    | split
    | fail_if_no_progress with_reducible apply kk.rest

theorem execCtxHold_kept {P : State → Prop} (kk : Kept P) (km : KeptM P) (kc : KeptC P) (kt : KeptT P) (ks : KeptS P) (kg : KeptK P) (kh : KeptH P) (kv : KeptV P) (kb : KeptB P) (kl : KeptL P) (ka : KeptA P) (kq : KeptQ P) {via : Via} {n : Nat} {s : State} (h_s : P s) :
    KeptR P (execCtxHold via n s) := by
  unfold execCtxHold
  repeat' first
    | with_reducible assumption
    | with_reducible intro _
    | exact ka.mem _
    | exact ka.toD
    | exact ka.toN
    | with_reducible refine KeptR.onPower ?_ (fun _ => ?_)
    | with_reducible refine KeptR.next ?_
    | with_reducible exact KeptR.fault _
    | with_reducible apply State.put!_kept
    | exact ka.mem _
    | exact ka.toD
    | exact ka.toN
    | split
    | fail_if_no_progress with_reducible apply kk.rest

theorem execCtxDone_kept {P : State → Prop} (kk : Kept P) (km : KeptM P) (kc : KeptC P) (kt : KeptT P) (ks : KeptS P) (kg : KeptK P) (kh : KeptH P) (kv : KeptV P) (kb : KeptB P) (kl : KeptL P) (ka : KeptA P) (kq : KeptQ P) {via : Via} {n : Nat} {s : State} (h_s : P s) :
    KeptR P (execCtxDone via n s) := by
  unfold execCtxDone
  repeat' first
    | with_reducible assumption
    | with_reducible intro _
    | exact ka.mem _
    | exact ka.toD
    | exact ka.toN
    | with_reducible refine KeptR.onPower ?_ (fun _ => ?_)
    | with_reducible refine KeptR.next ?_
    | with_reducible exact KeptR.fault _
    | with_reducible apply State.put!_kept
    | exact ka.mem _
    | exact ka.toD
    | exact ka.toN
    | split
    | fail_if_no_progress with_reducible apply kk.rest

theorem execCtxFree_kept {P : State → Prop} (kk : Kept P) (km : KeptM P) (kc : KeptC P) (kt : KeptT P) (ks : KeptS P) (kg : KeptK P) (kh : KeptH P) (kv : KeptV P) (kb : KeptB P) (kl : KeptL P) (ka : KeptA P) (kq : KeptQ P) {via : Via} {n : Nat} {s : State} (h_s : P s) :
    KeptR P (execCtxFree via n s) := by
  unfold execCtxFree
  repeat' first
    | with_reducible assumption
    | with_reducible intro _
    | exact ka.mem _
    | exact ka.toD
    | exact ka.toN
    | with_reducible refine KeptR.onPower ?_ (fun _ => ?_)
    | with_reducible refine KeptR.next ?_
    | with_reducible exact KeptR.fault _
    | with_reducible apply State.put!_kept
    | exact ka.mem _
    | exact ka.toD
    | exact ka.toN
    | split
    | fail_if_no_progress with_reducible apply kk.rest

theorem execContextReset_kept {P : State → Prop} (kk : Kept P) (km : KeptM P) (kc : KeptC P) (kt : KeptT P) (ks : KeptS P) (kg : KeptK P) (kh : KeptH P) (kv : KeptV P) (kb : KeptB P) (kl : KeptL P) (ka : KeptA P) (kq : KeptQ P) {via : Via} {n : Nat} {value : Word} {s : State} (h_s : P s) :
    KeptR P (execContextReset via n value s) := by
  unfold execContextReset
  repeat' first
    | with_reducible assumption
    | with_reducible intro _
    | exact ka.mem _
    | exact ka.toD
    | exact ka.toN
    | with_reducible refine KeptR.onPower ?_ (fun _ => ?_)
    | with_reducible refine KeptR.next ?_
    | with_reducible exact KeptR.fault _
    | with_reducible apply State.put!_kept
    | exact ka.mem _
    | exact ka.toD
    | exact ka.toN
    | split
    | fail_if_no_progress with_reducible apply kk.rest

theorem execClaimWrite_kept {P : State → Prop} (kk : Kept P) (km : KeptM P) (kc : KeptC P) (kt : KeptT P) (ks : KeptS P) (kg : KeptK P) (kh : KeptH P) (kv : KeptV P) (kb : KeptB P) (kl : KeptL P) (ka : KeptA P) (kq : KeptQ P) {via : Via} {n element : Nat} {value : Word} {s : State} (h_s : P s) :
    KeptR P (execClaimWrite via n element value s) := by
  unfold execClaimWrite
  repeat' first
    | with_reducible assumption
    | with_reducible intro _
    | exact ka.mem _
    | exact ka.toD
    | exact ka.toN
    | with_reducible refine KeptR.onPower ?_ (fun _ => ?_)
    | with_reducible refine KeptR.next ?_
    | with_reducible exact KeptR.fault _
    | with_reducible apply State.put!_kept
    | exact ka.mem _
    | exact ka.toD
    | exact ka.toN
    | split
    | fail_if_no_progress with_reducible apply kk.rest

theorem execEventAck_kept {P : State → Prop} (kk : Kept P) (km : KeptM P) (kc : KeptC P) (kt : KeptT P) (ks : KeptS P) (kg : KeptK P) (kh : KeptH P) (kv : KeptV P) (kb : KeptB P) (kl : KeptL P) (ka : KeptA P) (kq : KeptQ P) {via : Via} {n : Nat} {value : Word} {s : State} (h_s : P s) :
    KeptR P (execEventAck via n value s) := by
  unfold execEventAck
  repeat' first
    | with_reducible assumption
    | with_reducible intro _
    | exact ka.mem _
    | exact ka.toD
    | exact ka.toN
    | with_reducible refine KeptR.onPower ?_ (fun _ => ?_)
    | with_reducible refine KeptR.next ?_
    | with_reducible exact KeptR.fault _
    | with_reducible apply State.put!_kept
    | exact ka.mem _
    | exact ka.toD
    | exact ka.toN
    | split
    | fail_if_no_progress with_reducible apply kk.rest

theorem execNumericsRelease_kept {P : State → Prop} (kk : Kept P) (km : KeptM P) (kc : KeptC P) (kt : KeptT P) (ks : KeptS P) (kg : KeptK P) (kh : KeptH P) (kv : KeptV P) (kb : KeptB P) (kl : KeptL P) (ka : KeptA P) (kq : KeptQ P) {via : Via} {value : Word} {s : State} (h_s : P s) :
    KeptR P (execNumericsRelease via value s) := by
  unfold execNumericsRelease
  repeat' first
    | with_reducible assumption
    | with_reducible intro _
    | exact ka.mem _
    | exact ka.toD
    | exact ka.toN
    | with_reducible refine KeptR.onPower ?_ (fun _ => ?_)
    | with_reducible refine KeptR.next ?_
    | with_reducible exact KeptR.fault _
    | with_reducible apply State.put!_kept
    | exact ka.mem _
    | exact ka.toD
    | exact ka.toN
    | split
    | fail_if_no_progress with_reducible apply kk.rest

theorem execCalZero_kept {P : State → Prop} (kk : Kept P) (km : KeptM P) (kc : KeptC P) (kt : KeptT P) (ks : KeptS P) (kg : KeptK P) (kh : KeptH P) (kv : KeptV P) (kb : KeptB P) (kl : KeptL P) (ka : KeptA P) (kq : KeptQ P) {via : Via} {h : HalfId} {value : Word} {meas : List (Nat × ZeroRaw)} {s : State} (h_s : P s) :
    KeptR P (execCalZero via h value meas s) := by
  unfold execCalZero
  repeat' first
    | with_reducible assumption
    | with_reducible intro _
    | exact ka.mem _
    | exact ka.toD
    | exact ka.toN
    | with_reducible refine KeptR.onPower ?_ (fun _ => ?_)
    | with_reducible refine KeptR.next ?_
    | with_reducible exact KeptR.fault _
    | with_reducible apply State.put!_kept
    | exact ka.mem _
    | exact ka.toD
    | exact ka.toN
    | split
    | fail_if_no_progress with_reducible apply kk.rest

theorem execCalFull_kept {P : State → Prop} (kk : Kept P) (km : KeptM P) (kc : KeptC P) (kt : KeptT P) (ks : KeptS P) (kg : KeptK P) (kh : KeptH P) (kv : KeptV P) (kb : KeptB P) (kl : KeptL P) (ka : KeptA P) (kq : KeptQ P) {via : Via} {h : HalfId} {value : Word} {meas : List (Nat × FullRaw)} {s : State} (h_s : P s) :
    KeptR P (execCalFull via h value meas s) := by
  unfold execCalFull
  repeat' first
    | with_reducible assumption
    | with_reducible intro _
    | exact ka.mem _
    | exact ka.toD
    | exact ka.toN
    | with_reducible refine KeptR.onPower ?_ (fun _ => ?_)
    | with_reducible refine KeptR.next ?_
    | with_reducible exact KeptR.fault _
    | with_reducible apply State.put!_kept
    | exact ka.mem _
    | exact ka.toD
    | exact ka.toN
    | split
    | fail_if_no_progress with_reducible apply kk.rest

theorem execCalAbort_kept {P : State → Prop} (kk : Kept P) (km : KeptM P) (kc : KeptC P) (kt : KeptT P) (ks : KeptS P) (kg : KeptK P) (kh : KeptH P) (kv : KeptV P) (kb : KeptB P) (kl : KeptL P) (ka : KeptA P) (kq : KeptQ P) {via : Via} {h : HalfId} {value : Word} {s : State} (h_s : P s) :
    KeptR P (execCalAbort via h value s) := by
  unfold execCalAbort
  repeat' first
    | with_reducible assumption
    | with_reducible intro _
    | exact ka.mem _
    | exact ka.toD
    | exact ka.toN
    | with_reducible refine KeptR.onPower ?_ (fun _ => ?_)
    | with_reducible refine KeptR.next ?_
    | with_reducible exact KeptR.fault _
    | with_reducible apply State.put!_kept
    | exact ka.mem _
    | exact ka.toD
    | exact ka.toN
    | split
    | fail_if_no_progress with_reducible apply kk.rest

theorem execCalRefresh_kept {P : State → Prop} (kk : Kept P) (km : KeptM P) (kc : KeptC P) (kt : KeptT P) (ks : KeptS P) (kg : KeptK P) (kh : KeptH P) (kv : KeptV P) (kb : KeptB P) (kl : KeptL P) (ka : KeptA P) (kq : KeptQ P) {via : Via} {h : HalfId} {value : Word} {s : State} (h_s : P s) :
    KeptR P (execCalRefresh via h value s) := by
  unfold execCalRefresh
  repeat' first
    | with_reducible assumption
    | with_reducible intro _
    | exact ka.mem _
    | exact ka.toD
    | exact ka.toN
    | with_reducible refine KeptR.onPower ?_ (fun _ => ?_)
    | with_reducible refine KeptR.next ?_
    | with_reducible exact KeptR.fault _
    | with_reducible apply State.put!_kept
    | exact ka.mem _
    | exact ka.toD
    | exact ka.toN
    | split
    | fail_if_no_progress with_reducible apply kk.rest

theorem execSpokeDown_kept {P : State → Prop} (kk : Kept P) (km : KeptM P) (kc : KeptC P) (kt : KeptT P) (ks : KeptS P) (kg : KeptK P) (kh : KeptH P) (kv : KeptV P) (kb : KeptB P) (kl : KeptL P) (ka : KeptA P) (kq : KeptQ P) {via : Via} {value : Word} {s : State} (h_s : P s) :
    KeptR P (execSpokeDown via value s) := by
  unfold execSpokeDown
  repeat' first
    | with_reducible assumption
    | with_reducible intro _
    | exact ka.mem _
    | exact ka.toD
    | exact ka.toN
    | with_reducible refine KeptR.onPower ?_ (fun _ => ?_)
    | with_reducible refine KeptR.next ?_
    | with_reducible exact KeptR.fault _
    | with_reducible apply State.put!_kept
    | exact ka.mem _
    | exact ka.toD
    | exact ka.toN
    | split
    | fail_if_no_progress with_reducible apply kk.rest

theorem execSpokeTrainStart_kept {P : State → Prop} (kk : Kept P) (km : KeptM P) (kc : KeptC P) (kt : KeptT P) (ks : KeptS P) (kg : KeptK P) (kh : KeptH P) (kv : KeptV P) (kb : KeptB P) (kl : KeptL P) (ka : KeptA P) (kq : KeptQ P) {via : Via} {value : Word} {s : State} (h_s : P s) :
    KeptR P (execSpokeTrainStart via value s) := by
  unfold execSpokeTrainStart
  repeat' first
    | with_reducible assumption
    | with_reducible intro _
    | exact ka.mem _
    | exact ka.toD
    | exact ka.toN
    | with_reducible refine KeptR.onPower ?_ (fun _ => ?_)
    | with_reducible refine KeptR.next ?_
    | with_reducible exact KeptR.fault _
    | with_reducible apply State.put!_kept
    | exact ka.mem _
    | exact ka.toD
    | exact ka.toN
    | split
    | fail_if_no_progress with_reducible apply kk.rest

theorem execSpokeForceRetrain_kept {P : State → Prop} (kk : Kept P) (km : KeptM P) (kc : KeptC P) (kt : KeptT P) (ks : KeptS P) (kg : KeptK P) (kh : KeptH P) (kv : KeptV P) (kb : KeptB P) (kl : KeptL P) (ka : KeptA P) (kq : KeptQ P) {via : Via} {value : Word} {s : State} (h_s : P s) :
    KeptR P (execSpokeForceRetrain via value s) := by
  unfold execSpokeForceRetrain
  repeat' first
    | with_reducible assumption
    | with_reducible intro _
    | exact ka.mem _
    | exact ka.toD
    | exact ka.toN
    | with_reducible refine KeptR.onPower ?_ (fun _ => ?_)
    | with_reducible refine KeptR.next ?_
    | with_reducible exact KeptR.fault _
    | with_reducible apply State.put!_kept
    | exact ka.mem _
    | exact ka.toD
    | exact ka.toN
    | split
    | fail_if_no_progress with_reducible apply kk.rest

theorem execPositionWrite_kept {P : State → Prop} (kk : Kept P) (km : KeptM P) (kc : KeptC P) (kt : KeptT P) (ks : KeptS P) (kg : KeptK P) (kh : KeptH P) (kv : KeptV P) (kb : KeptB P) (kl : KeptL P) (ka : KeptA P) (kq : KeptQ P) {via : Via} {h : HalfId} {value : Word} {s : State} (h_s : P s) :
    KeptR P (execPositionWrite via h value s) := by
  unfold execPositionWrite
  repeat' first
    | with_reducible assumption
    | with_reducible intro _
    | exact ka.mem _
    | exact ka.toD
    | exact ka.toN
    | with_reducible refine KeptR.onPower ?_ (fun _ => ?_)
    | with_reducible refine KeptR.next ?_
    | with_reducible exact KeptR.fault _
    | with_reducible apply State.put!_kept
    | exact ka.mem _
    | exact ka.toD
    | exact ka.toN
    | split
    | fail_if_no_progress with_reducible apply kk.rest

theorem execDraftReceipt_kept {P : State → Prop} (kk : Kept P) (km : KeptM P) (kc : KeptC P) (kt : KeptT P) (ks : KeptS P) (kg : KeptK P) (kh : KeptH P) (kv : KeptV P) (kb : KeptB P) (kl : KeptL P) (ka : KeptA P) (kq : KeptQ P) {via : Via} {h : HalfId} {value : BitVec 64} {s : State} (h_s : P s) :
    KeptR P (execDraftReceipt via h value s) := by
  unfold execDraftReceipt
  repeat' first
    | with_reducible assumption
    | with_reducible intro _
    | exact ka.mem _
    | exact ka.toD
    | exact ka.toN
    | with_reducible refine KeptR.onPower ?_ (fun _ => ?_)
    | with_reducible refine KeptR.next ?_
    | with_reducible exact KeptR.fault _
    | with_reducible apply State.put!_kept
    | exact ka.mem _
    | exact ka.toD
    | exact ka.toN
    | split
    | fail_if_no_progress with_reducible apply kk.rest

theorem execSlotEnable_kept {P : State → Prop} (kk : Kept P) (km : KeptM P) (kc : KeptC P) (kt : KeptT P) (ks : KeptS P) (kg : KeptK P) (kh : KeptH P) (kv : KeptV P) (kb : KeptB P) (kl : KeptL P) (ka : KeptA P) (kq : KeptQ P) {via : Via} {h : HalfId} {value : BitVec 64} {s : State} (h_s : P s) :
    KeptR P (execSlotEnable via h value s) := by
  unfold execSlotEnable
  repeat' first
    | with_reducible assumption
    | with_reducible intro _
    | exact ka.mem _
    | exact ka.toD
    | exact ka.toN
    | with_reducible refine KeptR.onPower ?_ (fun _ => ?_)
    | with_reducible refine KeptR.next ?_
    | with_reducible exact KeptR.fault _
    | with_reducible apply State.put!_kept
    | exact ka.mem _
    | exact ka.toD
    | exact ka.toN
    | split
    | fail_if_no_progress with_reducible apply kk.rest

theorem execRestoreStart_kept {P : State → Prop} (kk : Kept P) (km : KeptM P) (kc : KeptC P) (kt : KeptT P) (ks : KeptS P) (kg : KeptK P) (kh : KeptH P) (kv : KeptV P) (kb : KeptB P) (kl : KeptL P) (ka : KeptA P) (kq : KeptQ P) {via : Via} {value : Word} {s : State} (h_s : P s) :
    KeptR P (execRestoreStart via value s) := by
  unfold execRestoreStart
  repeat' first
    | with_reducible assumption
    | with_reducible intro _
    | exact ka.mem _
    | exact ka.toD
    | exact ka.toN
    | with_reducible refine KeptR.onPower ?_ (fun _ => ?_)
    | with_reducible refine KeptR.next ?_
    | with_reducible exact KeptR.fault _
    | with_reducible apply State.put!_kept
    | exact ka.mem _
    | exact ka.toD
    | exact ka.toN
    | split
    | fail_if_no_progress with_reducible apply kk.rest

theorem execSendBack_kept {P : State → Prop} (kk : Kept P) (km : KeptM P) (kc : KeptC P) (kt : KeptT P) (ks : KeptS P) (kg : KeptK P) (kh : KeptH P) (kv : KeptV P) (kb : KeptB P) (kl : KeptL P) (ka : KeptA P) (kq : KeptQ P) {via : Via} {h : HalfId} {value : BitVec 64} {s : State} (h_s : P s) :
    KeptR P (execSendBack via h value s) := by
  unfold execSendBack
  repeat' first
    | with_reducible assumption
    | with_reducible intro _
    | exact ka.mem _
    | exact ka.toD
    | exact ka.toN
    | with_reducible refine KeptR.onPower ?_ (fun _ => ?_)
    | with_reducible refine KeptR.next ?_
    | with_reducible exact KeptR.fault _
    | with_reducible apply State.put!_kept
    | exact ka.mem _
    | exact ka.toD
    | exact ka.toN
    | split
    | fail_if_no_progress with_reducible apply kk.rest

theorem execLogClear_kept {P : State → Prop} (kk : Kept P) (km : KeptM P) (kc : KeptC P) (kt : KeptT P) (ks : KeptS P) (kg : KeptK P) (kh : KeptH P) (kv : KeptV P) (kb : KeptB P) (kl : KeptL P) (ka : KeptA P) (kq : KeptQ P) {via : Via} {value : Word} {s : State} (h_s : P s) :
    KeptR P (execLogClear via value s) := by
  unfold execLogClear
  repeat' first
    | with_reducible assumption
    | with_reducible intro _
    | exact ka.mem _
    | exact ka.toD
    | exact ka.toN
    | with_reducible refine KeptR.onPower ?_ (fun _ => ?_)
    | with_reducible refine KeptR.next ?_
    | with_reducible exact KeptR.fault _
    | with_reducible apply State.put!_kept
    | exact ka.mem _
    | exact ka.toD
    | exact ka.toN
    | split
    | fail_if_no_progress with_reducible apply kk.rest

theorem execEnterActive_kept {P : State → Prop} (kk : Kept P) (km : KeptM P) (kc : KeptC P) (kt : KeptT P) (ks : KeptS P) (kg : KeptK P) (kh : KeptH P) (kv : KeptV P) (kb : KeptB P) (kl : KeptL P) (ka : KeptA P) (kq : KeptQ P) {via : Via} {value : Word} {found : Findings} {s : State} (h_s : P s) :
    KeptR P (execEnterActive via value found s) := by
  unfold execEnterActive
  repeat' first
    | with_reducible assumption
    | with_reducible intro _
    | exact ka.mem _
    | exact ka.toD
    | exact ka.toN
    | with_reducible refine KeptR.onPower ?_ (fun _ => ?_)
    | with_reducible refine KeptR.next ?_
    | with_reducible exact KeptR.fault _
    | with_reducible apply State.put!_kept
    | exact ka.mem _
    | exact ka.toD
    | exact ka.toN
    | split
    | fail_if_no_progress with_reducible apply kk.rest

theorem execEnterQuiet_kept {P : State → Prop} (kk : Kept P) (km : KeptM P) (kc : KeptC P) (kt : KeptT P) (ks : KeptS P) (kg : KeptK P) (kh : KeptH P) (kv : KeptV P) (kb : KeptB P) (kl : KeptL P) (ka : KeptA P) (kq : KeptQ P) {via : Via} {value : Word} {s : State} (h_s : P s) :
    KeptR P (execEnterQuiet via value s) := by
  unfold execEnterQuiet
  repeat' first
    | with_reducible assumption
    | with_reducible intro _
    | exact ka.mem _
    | exact ka.toD
    | exact ka.toN
    | with_reducible refine KeptR.onPower ?_ (fun _ => ?_)
    | with_reducible refine KeptR.next ?_
    | with_reducible exact KeptR.fault _
    | with_reducible apply State.put!_kept
    | exact ka.mem _
    | exact ka.toD
    | exact ka.toN
    | split
    | fail_if_no_progress with_reducible apply kk.rest

theorem execEnterRetain_kept {P : State → Prop} (kk : Kept P) (km : KeptM P) (kc : KeptC P) (kt : KeptT P) (ks : KeptS P) (kg : KeptK P) (kh : KeptH P) (kv : KeptV P) (kb : KeptB P) (kl : KeptL P) (ka : KeptA P) (kq : KeptQ P) {via : Via} {value : Word} {s : State} (h_s : P s) :
    KeptR P (execEnterRetain via value s) := by
  unfold execEnterRetain
  repeat' first
    | with_reducible assumption
    | with_reducible intro _
    | exact ka.mem _
    | exact ka.toD
    | exact ka.toN
    | with_reducible refine KeptR.onPower ?_ (fun _ => ?_)
    | with_reducible refine KeptR.next ?_
    | with_reducible exact KeptR.fault _
    | with_reducible apply State.put!_kept
    | exact ka.mem _
    | exact ka.toD
    | exact ka.toN
    | split
    | fail_if_no_progress with_reducible apply kk.rest

theorem execEnterKeystoneOnly_kept {P : State → Prop} (kk : Kept P) (km : KeptM P) (kc : KeptC P) (kt : KeptT P) (ks : KeptS P) (kg : KeptK P) (kh : KeptH P) (kv : KeptV P) (kb : KeptB P) (kl : KeptL P) (ka : KeptA P) (kq : KeptQ P) {via : Via} {value : Word} {s : State} (h_s : P s) :
    KeptR P (execEnterKeystoneOnly via value s) := by
  unfold execEnterKeystoneOnly
  repeat' first
    | with_reducible assumption
    | with_reducible intro _
    | exact ka.mem _
    | exact ka.toD
    | exact ka.toN
    | with_reducible refine KeptR.onPower ?_ (fun _ => ?_)
    | with_reducible refine KeptR.next ?_
    | with_reducible exact KeptR.fault _
    | with_reducible apply State.put!_kept
    | exact ka.mem _
    | exact ka.toD
    | exact ka.toN
    | split
    | fail_if_no_progress with_reducible apply kk.rest

theorem execBoardLimitWrite_kept {P : State → Prop} (kk : Kept P) (km : KeptM P) (kc : KeptC P) (kt : KeptT P) (ks : KeptS P) (kg : KeptK P) (kh : KeptH P) (kv : KeptV P) (kb : KeptB P) (kl : KeptL P) (ka : KeptA P) (kq : KeptQ P) {via : Via} {value : Word} {s : State} (h_s : P s) :
    KeptR P (execBoardLimitWrite via value s) := by
  unfold execBoardLimitWrite
  repeat' first
    | with_reducible assumption
    | with_reducible intro _
    | exact ka.mem _
    | exact ka.toD
    | exact ka.toN
    | with_reducible refine KeptR.onPower ?_ (fun _ => ?_)
    | with_reducible refine KeptR.next ?_
    | with_reducible exact KeptR.fault _
    | with_reducible apply State.put!_kept
    | exact ka.mem _
    | exact ka.toD
    | exact ka.toN
    | split
    | fail_if_no_progress with_reducible apply kk.rest

theorem execBudgetSplitWrite_kept {P : State → Prop} (kk : Kept P) (km : KeptM P) (kc : KeptC P) (kt : KeptT P) (ks : KeptS P) (kg : KeptK P) (kh : KeptH P) (kv : KeptV P) (kb : KeptB P) (kl : KeptL P) (ka : KeptA P) (kq : KeptQ P) {via : Via} {value : Word} {s : State} (h_s : P s) :
    KeptR P (execBudgetSplitWrite via value s) := by
  unfold execBudgetSplitWrite
  repeat' first
    | with_reducible assumption
    | with_reducible intro _
    | exact ka.mem _
    | exact ka.toD
    | exact ka.toN
    | with_reducible refine KeptR.onPower ?_ (fun _ => ?_)
    | with_reducible refine KeptR.next ?_
    | with_reducible exact KeptR.fault _
    | with_reducible apply State.put!_kept
    | exact ka.mem _
    | exact ka.toD
    | exact ka.toN
    | split
    | fail_if_no_progress with_reducible apply kk.rest

theorem execCoreSetpointWrite_kept {P : State → Prop} (kk : Kept P) (km : KeptM P) (kc : KeptC P) (kt : KeptT P) (ks : KeptS P) (kg : KeptK P) (kh : KeptH P) (kv : KeptV P) (kb : KeptB P) (kl : KeptL P) (ka : KeptA P) (kq : KeptQ P) {via : Via} {h : HalfId} {value : Word} {s : State} (h_s : P s) :
    KeptR P (execCoreSetpointWrite via h value s) := by
  unfold execCoreSetpointWrite
  repeat' first
    | with_reducible assumption
    | with_reducible intro _
    | exact ka.mem _
    | exact ka.toD
    | exact ka.toN
    | with_reducible refine KeptR.onPower ?_ (fun _ => ?_)
    | with_reducible refine KeptR.next ?_
    | with_reducible exact KeptR.fault _
    | with_reducible apply State.put!_kept
    | exact ka.mem _
    | exact ka.toD
    | exact ka.toN
    | split
    | fail_if_no_progress with_reducible apply kk.rest

theorem execCommitKeystone_kept {P : State → Prop} (kk : Kept P) (km : KeptM P) (kc : KeptC P) (kt : KeptT P) (ks : KeptS P) (kg : KeptK P) (kh : KeptH P) (kv : KeptV P) (kb : KeptB P) (kl : KeptL P) (ka : KeptA P) (kq : KeptQ P) {via : Via} {value : Word} {s : State} (h_s : P s) :
    KeptR P (execCommitKeystone via value s) := by
  unfold execCommitKeystone
  repeat' first
    | with_reducible assumption
    | with_reducible intro _
    | exact ka.mem _
    | exact ka.toD
    | exact ka.toN
    | with_reducible refine KeptR.onPower ?_ (fun _ => ?_)
    | with_reducible refine KeptR.next ?_
    | with_reducible exact KeptR.fault _
    | with_reducible apply State.put!_kept
    | exact ka.mem _
    | exact ka.toD
    | exact ka.toN
    | split
    | fail_if_no_progress with_reducible apply kk.rest

theorem execCommitHalfComponent_kept {P : State → Prop} (kk : Kept P) (km : KeptM P) (kc : KeptC P) (kt : KeptT P) (ks : KeptS P) (kg : KeptK P) (kh : KeptH P) (kv : KeptV P) (kb : KeptB P) (kl : KeptL P) (ka : KeptA P) (kq : KeptQ P) {via : Via} {value : Word} {s : State} (h_s : P s) :
    KeptR P (execCommitHalfComponent via value s) := by
  unfold execCommitHalfComponent
  repeat' first
    | with_reducible assumption
    | with_reducible intro _
    | exact ka.mem _
    | exact ka.toD
    | exact ka.toN
    | with_reducible refine KeptR.onPower ?_ (fun _ => ?_)
    | with_reducible refine KeptR.next ?_
    | with_reducible exact KeptR.fault _
    | with_reducible apply State.put!_kept
    | exact ka.mem _
    | exact ka.toD
    | exact ka.toN
    | split
    | fail_if_no_progress with_reducible apply kk.rest

theorem execOwnerRootInstall_kept {P : State → Prop} (kk : Kept P) (km : KeptM P) (kc : KeptC P) (kt : KeptT P) (kg : KeptK P) (kh : KeptH P) (kv : KeptV P) (kb : KeptB P) (kd : KeptD P [0x0010, 0x0011, 0x0080, 0x1002, 0x2000, 0x2001, 0x2010, 0x2011, 0x2012, 0x3031, 0x4001, 0x4003, 0x4004, 0x4005, 0x4010, 0x4012, 0x4021, 0x5010, 0x5020, 0x6010, 0x7021, 0x7040, 0x9010, 0x9070, 0xF001, 0xF030]) (kn : KeptN P) (kq : KeptQ P) {via : Via} {point : List Byte} {s : State} (h_s : P s) :
    KeptR P (execOwnerRootInstall via point s) := by
  unfold execOwnerRootInstall
  repeat' first
    | with_reducible assumption
    | with_reducible intro _
    | exact kd.mem (by decide)
    | exact kd.mem (pick_mem (by decide) (by decide))
    | exact kd.mono (by decide)
    | exact kn.mem _
    | with_reducible refine KeptR.onPower ?_ (fun _ => ?_)
    | with_reducible refine KeptR.next ?_
    | with_reducible exact KeptR.fault _
    | with_reducible apply State.putDomain!_kept
    | exact kd.mem (by decide)
    | exact kd.mem (pick_mem (by decide) (by decide))
    | exact kd.mono (by decide)
    | exact kn.mem _
    | split
    | fail_if_no_progress with_reducible apply kk.rest

theorem execReleaseOwnership_kept {P : State → Prop} (kk : Kept P) (km : KeptM P) (kc : KeptC P) (kt : KeptT P) (ks : KeptS P) (kg : KeptK P) (kh : KeptH P) (kv : KeptV P) (kb : KeptB P) (kl : KeptL P) (ka : KeptA P) (kq : KeptQ P) {via : Via} {value : Word} {residual : List (Nat × Nat)} {s : State} (h_s : P s) :
    KeptR P (execReleaseOwnership via value residual s) := by
  unfold execReleaseOwnership
  repeat' first
    | with_reducible assumption
    | with_reducible intro _
    | exact ka.mem _
    | exact ka.toD
    | exact ka.toN
    | with_reducible refine KeptR.onPower ?_ (fun _ => ?_)
    | with_reducible refine KeptR.next ?_
    | with_reducible exact KeptR.fault _
    | with_reducible apply State.put!_kept
    | exact ka.mem _
    | exact ka.toD
    | exact ka.toN
    | split
    | fail_if_no_progress with_reducible apply kk.rest

theorem execSealingKeyInstall_kept {P : State → Prop} (kk : Kept P) (km : KeptM P) (kc : KeptC P) (kt : KeptT P) (ks : KeptS P) (kg : KeptK P) (kh : KeptH P) (kv : KeptV P) (kb : KeptB P) (kl : KeptL P) (ka : KeptA P) (kq : KeptQ P) {via : Via} {key : List Word} {s : State} (h_s : P s) :
    KeptR P (execSealingKeyInstall via key s) := by
  unfold execSealingKeyInstall
  repeat' first
    | with_reducible assumption
    | with_reducible intro _
    | exact ka.mem _
    | exact ka.toD
    | exact ka.toN
    | with_reducible refine KeptR.onPower ?_ (fun _ => ?_)
    | with_reducible refine KeptR.next ?_
    | with_reducible exact KeptR.fault _
    | with_reducible apply State.put!_kept
    | exact ka.mem _
    | exact ka.toD
    | exact ka.toN
    | split
    | fail_if_no_progress with_reducible apply kk.rest

theorem execClearSealingSlot_kept {P : State → Prop} (kk : Kept P) (km : KeptM P) (kc : KeptC P) (kt : KeptT P) (ks : KeptS P) (kg : KeptK P) (kh : KeptH P) (kv : KeptV P) (kb : KeptB P) (kl : KeptL P) (ka : KeptA P) (kq : KeptQ P) {via : Via} {value : Word} {s : State} (h_s : P s) :
    KeptR P (execClearSealingSlot via value s) := by
  unfold execClearSealingSlot
  repeat' first
    | with_reducible assumption
    | with_reducible intro _
    | exact ka.mem _
    | exact ka.toD
    | exact ka.toN
    | with_reducible refine KeptR.onPower ?_ (fun _ => ?_)
    | with_reducible refine KeptR.next ?_
    | with_reducible exact KeptR.fault _
    | with_reducible apply State.put!_kept
    | exact ka.mem _
    | exact ka.toD
    | exact ka.toN
    | split
    | fail_if_no_progress with_reducible apply kk.rest

theorem execRebind_kept {P : State → Prop} (kk : Kept P) (km : KeptM P) (kc : KeptC P) (kt : KeptT P) (ks : KeptS P) (kg : KeptK P) (kh : KeptH P) (kv : KeptV P) (kb : KeptB P) (kl : KeptL P) (ka : KeptA P) (kq : KeptQ P) {via : Via} {value : Word} {s : State} (h_s : P s) :
    KeptR P (execRebind via value s) := by
  unfold execRebind
  repeat' first
    | with_reducible assumption
    | with_reducible intro _
    | exact ka.mem _
    | exact ka.toD
    | exact ka.toN
    | with_reducible refine KeptR.onPower ?_ (fun _ => ?_)
    | with_reducible refine KeptR.next ?_
    | with_reducible exact KeptR.fault _
    | with_reducible apply State.put!_kept
    | exact ka.mem _
    | exact ka.toD
    | exact ka.toN
    | split
    | fail_if_no_progress with_reducible apply kk.rest

theorem execReleaseIdeHold_kept {P : State → Prop} (kk : Kept P) (km : KeptM P) (kc : KeptC P) (kt : KeptT P) (ks : KeptS P) (kg : KeptK P) (kh : KeptH P) (kv : KeptV P) (kb : KeptB P) (kl : KeptL P) (ka : KeptA P) (kq : KeptQ P) {via : Via} {value : Word} {s : State} (h_s : P s) :
    KeptR P (execReleaseIdeHold via value s) := by
  unfold execReleaseIdeHold
  repeat' first
    | with_reducible assumption
    | with_reducible intro _
    | exact ka.mem _
    | exact ka.toD
    | exact ka.toN
    | with_reducible refine KeptR.onPower ?_ (fun _ => ?_)
    | with_reducible refine KeptR.next ?_
    | with_reducible exact KeptR.fault _
    | with_reducible apply State.put!_kept
    | exact ka.mem _
    | exact ka.toD
    | exact ka.toN
    | split
    | fail_if_no_progress with_reducible apply kk.rest

theorem execPelotonKeyInstall_kept {P : State → Prop} (kk : Kept P) (km : KeptM P) (kc : KeptC P) (kt : KeptT P) (ks : KeptS P) (kg : KeptK P) (kh : KeptH P) (kv : KeptV P) (kb : KeptB P) (kl : KeptL P) (ka : KeptA P) (kq : KeptQ P) {via : Via} {h : HalfId} {words : List Word} {s : State} (h_s : P s) :
    KeptR P (execPelotonKeyInstall via h words s) := by
  unfold execPelotonKeyInstall
  repeat' first
    | with_reducible assumption
    | with_reducible intro _
    | exact ka.mem _
    | exact ka.toD
    | exact ka.toN
    | with_reducible refine KeptR.onPower ?_ (fun _ => ?_)
    | with_reducible refine KeptR.next ?_
    | with_reducible exact KeptR.fault _
    | with_reducible apply State.put!_kept
    | exact ka.mem _
    | exact ka.toD
    | exact ka.toN
    | split
    | fail_if_no_progress with_reducible apply kk.rest

theorem execPelotonKeyAdvance_kept {P : State → Prop} (kk : Kept P) (km : KeptM P) (kc : KeptC P) (kt : KeptT P) (ks : KeptS P) (kg : KeptK P) (kh : KeptH P) (kv : KeptV P) (kb : KeptB P) (kl : KeptL P) (ka : KeptA P) (kq : KeptQ P) {via : Via} {h : HalfId} {value : Word} {s : State} (h_s : P s) :
    KeptR P (execPelotonKeyAdvance via h value s) := by
  unfold execPelotonKeyAdvance
  repeat' first
    | with_reducible assumption
    | with_reducible intro _
    | exact ka.mem _
    | exact ka.toD
    | exact ka.toN
    | with_reducible refine KeptR.onPower ?_ (fun _ => ?_)
    | with_reducible refine KeptR.next ?_
    | with_reducible exact KeptR.fault _
    | with_reducible apply State.put!_kept
    | exact ka.mem _
    | exact ka.toD
    | exact ka.toN
    | split
    | fail_if_no_progress with_reducible apply kk.rest

theorem execSanitize_kept {P : State → Prop} (kk : Kept P) (km : KeptM P) (kc : KeptC P) (kt : KeptT P) (ks : KeptS P) (kg : KeptK P) (kh : KeptH P) (kv : KeptV P) (kb : KeptB P) (kl : KeptL P) (ka : KeptA P) (kq : KeptQ P) {via : Via} {value : Word} {residual : List (Nat × Nat)} {s : State} (h_s : P s) :
    KeptR P (execSanitize via value residual s) := by
  unfold execSanitize
  repeat' first
    | with_reducible assumption
    | with_reducible intro _
    | exact ka.mem _
    | exact ka.toD
    | exact ka.toN
    | with_reducible refine KeptR.onPower ?_ (fun _ => ?_)
    | with_reducible refine KeptR.next ?_
    | with_reducible exact KeptR.fault _
    | with_reducible apply State.put!_kept
    | exact ka.mem _
    | exact ka.toD
    | exact ka.toN
    | split
    | fail_if_no_progress with_reducible apply kk.rest

theorem execSignStatement_kept {P : State → Prop} (kk : Kept P) (km : KeptM P) (kc : KeptC P) (kt : KeptT P) (ks : KeptS P) (kg : KeptK P) (kh : KeptH P) (kv : KeptV P) (kb : KeptB P) (kl : KeptL P) (ka : KeptA P) (kq : KeptQ P) {via : Via} {value : Word} {s : State} (h_s : P s) :
    KeptR P (execSignStatement via value s) := by
  unfold execSignStatement
  repeat' first
    | with_reducible assumption
    | with_reducible intro _
    | exact ka.mem _
    | exact ka.toD
    | exact ka.toN
    | with_reducible refine KeptR.onPower ?_ (fun _ => ?_)
    | with_reducible refine KeptR.next ?_
    | with_reducible exact KeptR.fault _
    | with_reducible apply State.put!_kept
    | exact ka.mem _
    | exact ka.toD
    | exact ka.toN
    | split
    | fail_if_no_progress with_reducible apply kk.rest

theorem execServiceCommand_kept {P : State → Prop} (kk : Kept P) (km : KeptM P) (kc : KeptC P) (kt : KeptT P) (kg : KeptK P) (kh : KeptH P) (kv : KeptV P) (kb : KeptB P) (kd : KeptD P [0x0010, 0x0011, 0x0080, 0x1002, 0x2000, 0x2001, 0x2010, 0x2011, 0x2012, 0x3031, 0x4001, 0x4003, 0x4004, 0x4005, 0x4010, 0x4012, 0x4021, 0x5010, 0x5020, 0x6010, 0x7021, 0x7040, 0x9010, 0x9070, 0xF001, 0xF030]) (kn : KeptN P) (kq : KeptQ P) {via : Via} {blob : List Byte} {s : State} (h_s : P s) :
    KeptR P (execServiceCommand via blob s) := by
  unfold execServiceCommand
  repeat' first
    | with_reducible assumption
    | with_reducible intro _
    | exact kd.mem (by decide)
    | exact kd.mem (pick_mem (by decide) (by decide))
    | exact kd.mono (by decide)
    | exact kn.mem _
    | with_reducible refine KeptR.onPower ?_ (fun _ => ?_)
    | with_reducible refine KeptR.next ?_
    | with_reducible exact KeptR.fault _
    | with_reducible apply State.putDomain!_kept
    | exact kd.mem (by decide)
    | exact kd.mem (pick_mem (by decide) (by decide))
    | exact kd.mono (by decide)
    | exact kn.mem _
    | split
    | fail_if_no_progress with_reducible apply kk.rest

theorem execHalfReset_kept {P : State → Prop} (kk : Kept P) (km : KeptM P) (kc : KeptC P) (kt : KeptT P) (ks : KeptS P) (kg : KeptK P) (kh : KeptH P) (kv : KeptV P) (kb : KeptB P) (kl : KeptL P) (ka : KeptA P) (kq : KeptQ P) {via : Via} {value : Word} {found : List (BitVec 64)} {s : State} (h_s : P s) :
    KeptR P (execHalfReset via value found s) := by
  unfold execHalfReset
  repeat' first
    | with_reducible assumption
    | with_reducible intro _
    | exact ka.mem _
    | exact ka.toD
    | exact ka.toN
    | with_reducible refine KeptR.onPower ?_ (fun _ => ?_)
    | with_reducible refine KeptR.next ?_
    | with_reducible exact KeptR.fault _
    | with_reducible apply State.put!_kept
    | exact ka.mem _
    | exact ka.toD
    | exact ka.toN
    | split
    | fail_if_no_progress with_reducible apply kk.rest

theorem execTileReset_kept {P : State → Prop} (kk : Kept P) (km : KeptM P) (kc : KeptC P) (kt : KeptT P) (ks : KeptS P) (kg : KeptK P) (kh : KeptH P) (kv : KeptV P) (kb : KeptB P) (kl : KeptL P) (ka : KeptA P) (kq : KeptQ P) {via : Via} {value : Word} {s : State} (h_s : P s) :
    KeptR P (execTileReset via value s) := by
  unfold execTileReset
  repeat' first
    | with_reducible assumption
    | with_reducible intro _
    | exact ka.mem _
    | exact ka.toD
    | exact ka.toN
    | with_reducible refine KeptR.onPower ?_ (fun _ => ?_)
    | with_reducible refine KeptR.next ?_
    | with_reducible exact KeptR.fault _
    | with_reducible apply State.put!_kept
    | exact ka.mem _
    | exact ka.toD
    | exact ka.toN
    | split
    | fail_if_no_progress with_reducible apply kk.rest

end Sys2Proof.Machine
end

