-- ==== Sys2Proof/Laws/KeptTime.lean ====
section
/-! SUPPORT. What every definition of Machine/Time.lean keeps of a state: one lemma each (Laws/Kept.lean). -/

namespace Sys2Proof.Machine

open Sys2Proof

set_option linter.all false

theorem State.hourOf_kept {P : State → Prop}  (kd : KeptD P [0x2012, 0x5020]) {s : State} {p : Nat} (h_s : P s) :
    P (State.hourOf s p) := by
  unfold State.hourOf
  repeat' first
    | with_reducible assumption
    | with_reducible intro _
    | with_reducible apply State.bumpAt_kept
    | exact kd.mem (by decide)
    | exact kd.mem (pick_mem (by decide) (by decide))
    | exact kd.mono (by decide)
    | split
    | fail_if_no_progress with_reducible apply kk.rest

theorem State.hourPasses_kept {P : State → Prop}  (kd : KeptD P [0x2012, 0x5020]) {s : State} (h_s : P s) :
    P (State.hourPasses s) := by
  unfold State.hourPasses
  repeat' first
    | with_reducible assumption
    | with_reducible intro _
    | with_reducible apply State.hourOf_kept
    | exact kd.mem (by decide)
    | exact kd.mem (pick_mem (by decide) (by decide))
    | exact kd.mono (by decide)
    | with_reducible refine Kept.foldl (fun _ _ _ => ?_) ?_
    | with_reducible refine Kept.foldl1 (fun _ _ _ => ?_) ?_
    | split
    | fail_if_no_progress with_reducible apply kk.rest

theorem State.elapse_kept {P : State → Prop} (kk : Kept P) (km : KeptM P) (kc : KeptC P) (kt : KeptT P) (ks : KeptS P) (kg : KeptK P) (kh : KeptH P) (kv : KeptV P) (kb : KeptB P) (kl : KeptL P) (ka : KeptA P) (kq : KeptQ P) {s : State} (h_s : P s) :
    P (State.elapse s) := by
  unfold State.elapse
  repeat' first
    | with_reducible assumption
    | with_reducible intro _
    | exact ka.mem _
    | exact ka.toD
    | exact ka.toN
    | (extract_lets +onlyGivenNames zz
       first
         | (with_reducible refine Kept.cut (P := P) (x := zz) ?_ ?_
            on_goal 2 => clear_value zz
            on_goal 1 => subst zz)
         | (with_reducible refine Kept.cut1 (P := P) (x := zz) ?_ ?_
            on_goal 2 => clear_value zz
            on_goal 1 => subst zz)
         | (have zn : Nat := zz
            clear zn
            subst zz)
         | clear_value zz
         | subst zz)
    | with_reducible apply State.d2hServe_kept
    | with_reducible apply State.hourPasses_kept
    | with_reducible apply State.reasonTick_kept
    | with_reducible apply State.resumeCal_kept
    | with_reducible apply State.serveQueue_kept
    | with_reducible apply State.tick_kept
    | exact ka.mem _
    | exact ka.toD
    | exact ka.toN
    | split
    | fail_if_no_progress with_reducible apply kk.rest

end Sys2Proof.Machine
end

