-- ==== Sys2Proof/WellFormed.lean ====
section
/-! DEFINITION. Well-formed commands: every operand lies in the field that its message, its row of the table or its
unit has for it. `exec` is total on ill-formed commands too; no sender can put one on an interface. -/

namespace Sys2Proof

/-- A context number (R139). -/
def ctxOk (n : Nat) : Bool := decide (n < 3072)

/-- A tile address word: half, course 0 to 32, tile 0 to 33 (R2, R12). -/
def tileOk (a : Nat) : Bool := decide (a < 2 ^ 17 ∧ a / 256 % 256 ≤ 32 ∧ a % 256 ≤ 33)

/-- A peloton position (R369). -/
def posOk (p : Nat) : Bool := decide (p < 16384)

/-- Paths: a spoke requester has a position, a bridge tag an epoch of 32 bits. -/
def Path.wf : Path → Bool
  | .spoke src _ => posOk src
  | .manager _ e => decide (e < 2 ^ 32)
  | .doe | .mctp | .bar2 => true

/-- A secured session travels over DOE or MCTP only (R464). -/
def Via.wf (v : Via) : Bool :=
  v.path.wf && (v.session.isNone || v.path == .doe || v.path == .mctp)

/-- The fields of a request frame (R119). -/
def Req.wf (q : Req) : Bool :=
  q.via.wf && decide (q.index < 65536 ∧ q.sub < 256 ∧ q.tag < 65536 ∧ q.ty < 16 ∧ q.words.length ≤ 1016) &&
  (match q.other with
   | some k => decide ((k = 0 ∨ 8 < k) ∧ k < 256) && (q.via.path != .bar2)
   | none => true)

/-- A tensor declaration: sizes of at least one element (R272). -/
def TensorDecl.wf (d : TensorDecl) : Bool := decide (0 < d.rows ∧ 0 < d.cols)

/-- The header fields of a spoke frame (R360). -/
def Frame.wf (f : Frame) : Bool :=
  decide (f.spoke ≤ 16) && posOk f.dest && posOk f.src && decide (f.cls < 16) && decide (f.vc < 4) &&
  decide (f.hops < 256) && decide (f.group < 65536) && decide (f.step < 2 ^ 48) && decide (f.item < 65536)

/-- A training sees five receive lanes at most, and their transmit pads (R365). -/
def Training.wf (t : Training) : Bool :=
  decide (t.lanes.length ≤ 5 ∧ t.pads.length ≤ 5) && posOk t.peerPos && decide (t.peerSpoke ≤ 16 ∧ t.peerEpoch < 2 ^ 32)

/-- What the host link may come to: the codes of 0xA001.01 to .03 (R81). -/
def LinkTrain.wf (l : LinkTrain) : Bool := decide (l.width < 256 ∧ l.rate < 256 ∧ l.flit < 256)

/-- A configuration request: the shadow and the window have commands of their own (R61, R62). -/
def CfgKind.wf (fn : Fn) : CfgKind → Bool
  | .barRead bar offset => decide (bar ≤ 5 ∧ offset % 4 = 0) && !(fn == .f0 && (bar == 0 || bar == 2))
  | .barWrite bar offset _ => decide (bar ≤ 5 ∧ offset % 4 = 0) && !(fn == .f0 && (bar == 0 || bar == 2))
  | _ => true

/-- A row's measurements name its weights and columns (R170). -/
def RowMeas.wf (m : RowMeas) : Bool :=
  m.major.all (fun e => decide (e.1 < 544)) && m.failing.all (fun c => decide (c < 2176)) &&
  m.drift.all (fun c => decide (c < 2176))

/-- A weight row, or 1,024 + a reference row. -/
def RowSeen.wf (e : RowSeen) : Bool := tileOk e.tile && decide (e.row < 1040) && e.meas.wf

/-- ZERO measures 34 slices in two modes, 16 outputs of 32 groups and their checksums (R225). -/
def ZeroRaw.wf (m : ZeroRaw) : Bool :=
  decide (m.slices.length = 68 ∧ m.zero.length = 32) && m.zero.all (fun g => decide (g.length = 17))

/-- FULL measures 34 slices in two modes, 32 row groups, eight reference rows, 32 groups (R226, R232). -/
def FullRaw.wf (m : FullRaw) : Bool :=
  decide (m.charges.length = 68 ∧ m.trims.length = 32 ∧ m.rows.length = 8 ∧ m.diff.length = 32 ∧ m.inject.length = 32) &&
  m.diff.all (fun g => decide (g.length = 17)) && m.inject.all (fun g => decide (g.length = 4))

/-- A group measured again: 17 outputs, four quads (R228). -/
def GroupRaw.wf (m : GroupRaw) : Bool :=
  decide (m.zero.length = 17 ∧ m.diff.length = 17 ∧ m.inject.length = 4)

/-- A memory error lies in a half's 96 GiB, or names a context. -/
def MemPlace.wf : MemPlace → Bool
  | .hbm offset => decide (offset < 96 * 2 ^ 30)
  | .share n => ctxOk n
  | .buffer _ n => ctxOk n
  | .other => true

/-- Well-formed commands. -/
def Instr.wf : Instr → Bool
  | .coldPowerOn _ _ => true
  | .startComplete _ => true
  | .startFail _ phase reason status => decide (phase < 16) && decide (reason < 16) && decide (status < 65536)
  | .startTimeout _ phase => decide (phase < 16)
  | .crystalStartTimeout => true
  | .leadStartTimeout => true
  | .recoveryImage via _ => via.wf
  | .recoverCommit via _ => via.wf
  | .recoverRetry via _ => via.wf
  | .supplyBrownout _ => true
  | .supplyRecover _ _ => true
  | .supplyUndervoltageAlert _ => true
  | .supplyUndervoltageClear _ => true
  | .supplyOvervoltageAlert _ => true
  | .supplyOvervoltageClear _ => true
  | .inputSwitchOpen => true
  | .inputSwitchReclose _ _ => true
  | .powerLoss => true
  | .reversePolarity => true
  | .contactGroupOpen group => decide (group < 4)
  | .contactGroupClear group => decide (group < 4)
  | .pwrbrkAssert => true
  | .pwrbrkRelease => true
  | .thermNAssert _ => true
  | .thermNRelease _ => true
  | .sidebandShortDetect bit => decide (bit < 32)
  | .sidebandFaultClear bit => decide (bit < 32)
  | .pullupCheck _ _ => true
  | .clearExtremes via _ => via.wf
  | .heartbeat _ => true
  | .bridgeLoss _ => true
  | .fenceDrawConfirm _ => true
  | .fencePowerRemove _ => true
  | .claim _ _ => true
  | .windowClose => true
  | .moveLead via _ => via.wf
  | .replaceClear via _ => via.wf
  | .replaceRaise via _ => via.wf
  | .writeObject req => req.wf
  | .read req => req.wf
  | .write req => req.wf
  | .writeIf req => req.wf
  | .describe req => req.wf
  | .readSeg req => req.wf
  | .writeSeg req _ _ _ _ => req.wf
  | .ticket req => req.wf
  | .nextObj req => req.wf
  | .bar2Read _ width => decide (width ≤ 8)
  | .bar2Write _ width _ => decide (width ≤ 8)
  | .bar2ReadTimeout _ width => decide (width ≤ 8)
  | .ticketResultRead => true
  | .clearSticky via _ => via.wf
  | .domainWriteTimeout index sub _ => decide (index < 65536) && decide (sub < 256)
  | .deferredWriteComplete num status => decide (num < 65536) && decide (status < 65536)
  | .ticketExpire num => decide (num < 65536)
  | .shedLevelUpdate _ load _ => decide (load ≤ 100)
  | .telemetryPlacementWrite via _ => via.wf
  | .setEndpointId eid => decide (eid < 256)
  | .getEndpointId => true
  | .getMctpVersionSupport => true
  | .getMessageTypeSupport => true
  | .getVendorDefinedMessageSupport => true
  | .entdaa addr => decide (addr < 128)
  | .vectorSignal fn vector => decide (vector < if fn = .f0 then 64 else 2048)
  | .cxlMemRead _ _ _ _ => true
  | .cxlMemWrite _ _ _ _ _ => true
  | .birsp _ _ _ => true
  | .bisnpTimeout _ _ => true
  | .bisnpFault _ _ => true
  | .hostSnoop _ _ => true
  | .cachePartitionWrite via _ => via.wf
  | .hdmDecoderCommit _ _ _ => true
  | .ideKeyProgram via _ => via.wf
  | .ideKeyRefresh => true
  | .ideIntegrityFailure _ => true
  | .tspError _ => true
  | .hostReset _ link => link.wf
  | .cxlReset _ => true
  | .functionLevelReset _ _ => true
  | .shadowRead _ width => decide (width ≤ 8)
  | .shadowWrite _ width _ => decide (width ≤ 8)
  | .shadowUpdate _ => true
  | .oscReady => true
  | .crystalReady => true
  | .crystalLoss => true
  | .holdoverExpire => true
  | .clockSourceSelect via sub _ => via.wf && decide (sub < 256)
  | .paceMonitorRefresh _ course factor _ _ => decide (course ≤ 32) && decide (factor < 65536)
  | .paceShortfall _ course => decide (course ≤ 32)
  | .clockEnableWrite via sub _ => via.wf && decide (sub < 256)
  | .blockReady sub bit => decide (sub < 256) && decide (bit < 32)
  | .spreadWrite via sub _ => via.wf && decide (sub < 256)
  | .clkobsSelect via _ => via.wf
  | .ctxOpen via n _ => via.wf && ctxOk n
  | .ctxLoad via n decls => via.wf && ctxOk n && decls.all (fun (d : TensorDecl) => d.wf)
  | .placementComplete n seen => ctxOk n && seen.all (fun (e : RowSeen) => e.wf)
  | .ctxRun via n => via.wf && ctxOk n
  | .ctxHold via n => via.wf && ctxOk n
  | .ctxDone via n => via.wf && ctxOk n
  | .ctxFree via n => via.wf && ctxOk n
  | .releaseComplete n residual => ctxOk n && residual.all (fun e => tileOk e.1)
  | .contextReset via n _ => via.wf && ctxOk n
  | .claimWrite via n element _ => via.wf && ctxOk n && decide (element < 16)
  | .claimComplete n => ctxOk n
  | .eventAck via n _ => via.wf && ctxOk n
  | .strandIssue _ => true
  | .strandEnd ctx _ _ => ctxOk ctx
  | .numericsRelease via _ => via.wf
  | .producerUpdate n _ => ctxOk n
  | .streamWaitTimeout n => ctxOk n
  | .inputVectorArrive tile ctx _ => tileOk tile && ctxOk ctx
  | .forwardProduct tile => tileOk tile
  | .checksumRepeat tile => tileOk tile
  | .partialArrive tile ctx _ row => tileOk tile && ctxOk ctx && decide (row < 1024)
  | .outputDrain tile => tileOk tile
  | .coefficientSwitch tile => tileOk tile
  | .calibrationProduct tile => tileOk tile
  | .rowWriteVerify tile row _ meas => tileOk tile && decide (row < 1024) && meas.wf
  | .calZero via _ _ meas => via.wf && meas.all (fun e => tileOk e.1 && e.2.wf)
  | .calFull via _ _ meas => via.wf && meas.all (fun e => tileOk e.1 && e.2.wf)
  | .calAbort via _ _ => via.wf
  | .calRefresh via _ _ => via.wf
  | .calRunComplete _ seen => seen.all (fun (e : RowSeen) => e.wf)
  | .columnSwap tile group meas => tileOk tile && decide (group < 32) && meas.wf
  | .zeroResultExpire _ => true
  | .probe tile _ _ => tileOk tile
  | .driftMonitor tile bit _ => tileOk tile && decide (bit < 32)
  | .calEscalate tile => tileOk tile
  | .refreshAge tile seen => tileOk tile && seen.all (fun (e : RowSeen) => e.wf)
  | .bucketSend n _ => ctxOk n
  | .tensorSend n _ => ctxOk n
  | .sealSend n => ctxOk n
  | .frameRoute frame => frame.wf
  | .gapTimeout _ src vc => posOk src && decide (vc < 4)
  | .linkAck _ spoke _ => decide (spoke ≤ 16)
  | .linkNak _ spoke _ => decide (spoke ≤ 16)
  | .linkCredit _ spoke vc _ => decide (spoke ≤ 16) && decide (vc < 4)
  | .contributionReceive n src group step item attempt _ => ctxOk n && posOk src && decide (group < 65536) && decide (step < 2 ^ 48) && decide (item < 65536) && decide (attempt < 256)
  | .tensorReceive n src group step item attempt _ => ctxOk n && posOk src && decide (group < 65536) && decide (step < 2 ^ 48) && decide (item < 65536) && decide (attempt < 256)
  | .retractReceive n src group step _ _ attempt => ctxOk n && posOk src && decide (group < 65536) && decide (step < 2 ^ 48) && decide (attempt < 256)
  | .sealReceive n src group step cls _ _ => ctxOk n && posOk src && decide (group < 65536) && decide (step < 2 ^ 48) && decide (cls < 256)
  | .sealRefusalReceive n src step cls => ctxOk n && posOk src && decide (step < 2 ^ 48) && decide (cls < 256)
  | .gatherReceive n src group step _ _ => ctxOk n && posOk src && decide (group < 65536) && decide (step < 2 ^ 48)
  | .normPartialReceive n src step _ => ctxOk n && posOk src && decide (step < 2 ^ 48)
  | .normPartialSend n => ctxOk n
  | .sealTimeout n => ctxOk n
  | .spokeTrain _ spoke t => decide (spoke ≤ 16) && t.wf
  | .spokeTrainRetry _ spoke t => decide (spoke ≤ 16) && t.wf
  | .spokeRetrain _ spoke t => decide (spoke ≤ 16) && t.wf
  | .spokeDown via _ => via.wf
  | .spokeTrainStart via _ => via.wf
  | .spokeForceRetrain via _ => via.wf
  | .positionWrite via _ _ => via.wf
  | .updateStart n => ctxOk n
  | .updateComplete n => ctxOk n
  | .transferPassStart tile => tileOk tile
  | .transferRowComplete tile row meas => tileOk tile && decide (row < 1024) && meas.wf
  | .governorEvaluate tile _ => tileOk tile
  | .riskEvaluate _ _ => true
  | .draftFrameReceive frame => frame.wf
  | .draftReceipt via _ _ => via.wf
  | .slotEnable via _ _ => via.wf
  | .restoreStart via _ => via.wf
  | .sendBack via _ _ => via.wf
  | .restoreApply n seen => ctxOk n && seen.all (fun (e : RowSeen) => e.wf)
  | .restoreTimeout n => ctxOk n
  | .unitSuspect _ _ ctx step => decide (ctx < 65536) && decide (step < 2 ^ 64)
  | .suspectReplace _ => true
  | .spareCourseHandover _ course => decide (course ≤ 32)
  | .logClear via _ => via.wf
  | .enterActive via _ _ => via.wf
  | .enterQuiet via _ => via.wf
  | .enterRetain via _ => via.wf
  | .enterKeystoneOnly via _ => via.wf
  | .quiescence => true
  | .powerStateReached => true
  | .wake => true
  | .boardLimitWrite via _ => via.wf
  | .budgetSplitWrite via _ => via.wf
  | .powerGovern _ _ _ => true
  | .powerFastClamp _ => true
  | .coreSetpointWrite via _ _ => via.wf
  | .droopDetect _ course => decide (course ≤ 32)
  | .droopRecover _ course => decide (course ≤ 32)
  | .thermalThrottle _ _ => true
  | .thermalRecover _ _ => true
  | .thermalCrawl _ _ => true
  | .thermalCrawlEnd _ _ => true
  | .thermalTrip _ _ => true
  | .energyReconcile _ _ _ _ traffic => traffic.all (fun e => ctxOk e.1)
  | .entropyFailure => true
  | .commitKeystone via _ => via.wf
  | .commitHalfComponent via _ => via.wf
  | .treeBuild => true
  | .challenge via _ => via.wf
  | .getMeasurements via block _ => via.wf && decide (block < 256)
  | .getCertificate via slot => via.wf && decide (slot < 8)
  | .keyExchange via _ _ _ _ => via.wf
  | .keyUpdate via => via.wf
  | .spdmHeartbeat via => via.wf
  | .sessionHeartbeatTimeout _ => true
  | .sessionEnd _ => true
  | .ownerRootInstall via _ => via.wf
  | .releaseOwnership via _ residual => via.wf && residual.all (fun e => tileOk e.1)
  | .sealingKeyInstall via _ => via.wf
  | .clearSealingSlot via _ => via.wf
  | .rebind via _ => via.wf
  | .releaseIdeHold via _ => via.wf
  | .pelotonKeyInstall via _ _ => via.wf
  | .pelotonKeyAdvance via _ _ => via.wf
  | .previousKeyDestroy _ => true
  | .sanitize via _ residual => via.wf && residual.all (fun e => tileOk e.1)
  | .signStatement via _ => via.wf
  | .serviceCommand via _ => via.wf
  | .halfReset via _ _ => via.wf
  | .tileReset via _ => via.wf
  | .plumbDue tile => tileOk tile
  | .plumbCheck tile _ _ _ => tileOk tile
  | .plumbRelocate tile => tileOk tile
  | .memoryError _ _ place => place.wf
  | .tspRequest _ _ _ => true
  | .configurationRequest fn _ kind => kind.wf fn

/-- Contexts that a command's own operands name. -/
def Instr.ctxNums : Instr → List Nat
  | .coldPowerOn _ _ => []
  | .startComplete _ => []
  | .startFail _ _ _ _ => []
  | .startTimeout _ _ => []
  | .crystalStartTimeout => []
  | .leadStartTimeout => []
  | .recoveryImage _ _ => []
  | .recoverCommit _ _ => []
  | .recoverRetry _ _ => []
  | .supplyBrownout _ => []
  | .supplyRecover _ _ => []
  | .supplyUndervoltageAlert _ => []
  | .supplyUndervoltageClear _ => []
  | .supplyOvervoltageAlert _ => []
  | .supplyOvervoltageClear _ => []
  | .inputSwitchOpen => []
  | .inputSwitchReclose _ _ => []
  | .powerLoss => []
  | .reversePolarity => []
  | .contactGroupOpen _ => []
  | .contactGroupClear _ => []
  | .pwrbrkAssert => []
  | .pwrbrkRelease => []
  | .thermNAssert _ => []
  | .thermNRelease _ => []
  | .sidebandShortDetect _ => []
  | .sidebandFaultClear _ => []
  | .pullupCheck _ _ => []
  | .clearExtremes _ _ => []
  | .heartbeat _ => []
  | .bridgeLoss _ => []
  | .fenceDrawConfirm _ => []
  | .fencePowerRemove _ => []
  | .claim _ _ => []
  | .windowClose => []
  | .moveLead _ _ => []
  | .replaceClear _ _ => []
  | .replaceRaise _ _ => []
  | .writeObject _ => []
  | .read _ => []
  | .write _ => []
  | .writeIf _ => []
  | .describe _ => []
  | .readSeg _ => []
  | .writeSeg _ _ _ _ _ => []
  | .ticket _ => []
  | .nextObj _ => []
  | .bar2Read _ _ => []
  | .bar2Write _ _ _ => []
  | .bar2ReadTimeout _ _ => []
  | .ticketResultRead => []
  | .clearSticky _ _ => []
  | .domainWriteTimeout _ _ _ => []
  | .deferredWriteComplete _ _ => []
  | .ticketExpire _ => []
  | .shedLevelUpdate _ _ _ => []
  | .telemetryPlacementWrite _ _ => []
  | .setEndpointId _ => []
  | .getEndpointId => []
  | .getMctpVersionSupport => []
  | .getMessageTypeSupport => []
  | .getVendorDefinedMessageSupport => []
  | .entdaa _ => []
  | .vectorSignal _ _ => []
  | .cxlMemRead _ _ _ _ => []
  | .cxlMemWrite _ _ _ _ _ => []
  | .birsp _ _ _ => []
  | .bisnpTimeout _ _ => []
  | .bisnpFault _ _ => []
  | .hostSnoop _ _ => []
  | .cachePartitionWrite _ _ => []
  | .hdmDecoderCommit _ _ _ => []
  | .ideKeyProgram _ _ => []
  | .ideKeyRefresh => []
  | .ideIntegrityFailure _ => []
  | .tspError _ => []
  | .hostReset _ _ => []
  | .cxlReset _ => []
  | .functionLevelReset _ _ => []
  | .shadowRead _ _ => []
  | .shadowWrite _ _ _ => []
  | .shadowUpdate _ => []
  | .oscReady => []
  | .crystalReady => []
  | .crystalLoss => []
  | .holdoverExpire => []
  | .clockSourceSelect _ _ _ => []
  | .paceMonitorRefresh _ _ _ _ _ => []
  | .paceShortfall _ _ => []
  | .clockEnableWrite _ _ _ => []
  | .blockReady _ _ => []
  | .spreadWrite _ _ _ => []
  | .clkobsSelect _ _ => []
  | .ctxOpen _ n _ => [n]
  | .ctxLoad _ n _ => [n]
  | .placementComplete n _ => [n]
  | .ctxRun _ n => [n]
  | .ctxHold _ n => [n]
  | .ctxDone _ n => [n]
  | .ctxFree _ n => [n]
  | .releaseComplete n _ => [n]
  | .contextReset _ n _ => [n]
  | .claimWrite _ n _ _ => [n]
  | .claimComplete n => [n]
  | .eventAck _ n _ => [n]
  | .strandIssue _ => []
  | .strandEnd ctx _ _ => [ctx]
  | .numericsRelease _ _ => []
  | .producerUpdate n _ => [n]
  | .streamWaitTimeout n => [n]
  | .inputVectorArrive _ ctx _ => [ctx]
  | .forwardProduct _ => []
  | .checksumRepeat _ => []
  | .partialArrive _ ctx _ _ => [ctx]
  | .outputDrain _ => []
  | .coefficientSwitch _ => []
  | .calibrationProduct _ => []
  | .rowWriteVerify _ _ _ _ => []
  | .calZero _ _ _ _ => []
  | .calFull _ _ _ _ => []
  | .calAbort _ _ _ => []
  | .calRefresh _ _ _ => []
  | .calRunComplete _ _ => []
  | .columnSwap _ _ _ => []
  | .zeroResultExpire _ => []
  | .probe _ _ _ => []
  | .driftMonitor _ _ _ => []
  | .calEscalate _ => []
  | .refreshAge _ _ => []
  | .bucketSend n _ => [n]
  | .tensorSend n _ => [n]
  | .sealSend n => [n]
  | .frameRoute _ => []
  | .gapTimeout _ _ _ => []
  | .linkAck _ _ _ => []
  | .linkNak _ _ _ => []
  | .linkCredit _ _ _ _ => []
  | .contributionReceive n _ _ _ _ _ _ => [n]
  | .tensorReceive n _ _ _ _ _ _ => [n]
  | .retractReceive n _ _ _ _ _ _ => [n]
  | .sealReceive n _ _ _ _ _ _ => [n]
  | .sealRefusalReceive n _ _ _ => [n]
  | .gatherReceive n _ _ _ _ _ => [n]
  | .normPartialReceive n _ _ _ => [n]
  | .normPartialSend n => [n]
  | .sealTimeout n => [n]
  | .spokeTrain _ _ _ => []
  | .spokeTrainRetry _ _ _ => []
  | .spokeRetrain _ _ _ => []
  | .spokeDown _ _ => []
  | .spokeTrainStart _ _ => []
  | .spokeForceRetrain _ _ => []
  | .positionWrite _ _ _ => []
  | .updateStart n => [n]
  | .updateComplete n => [n]
  | .transferPassStart _ => []
  | .transferRowComplete _ _ _ => []
  | .governorEvaluate _ _ => []
  | .riskEvaluate _ _ => []
  | .draftFrameReceive _ => []
  | .draftReceipt _ _ _ => []
  | .slotEnable _ _ _ => []
  | .restoreStart _ _ => []
  | .sendBack _ _ _ => []
  | .restoreApply n _ => [n]
  | .restoreTimeout n => [n]
  | .unitSuspect _ _ _ _ => []
  | .suspectReplace _ => []
  | .spareCourseHandover _ _ => []
  | .logClear _ _ => []
  | .enterActive _ _ _ => []
  | .enterQuiet _ _ => []
  | .enterRetain _ _ => []
  | .enterKeystoneOnly _ _ => []
  | .quiescence => []
  | .powerStateReached => []
  | .wake => []
  | .boardLimitWrite _ _ => []
  | .budgetSplitWrite _ _ => []
  | .powerGovern _ _ _ => []
  | .powerFastClamp _ => []
  | .coreSetpointWrite _ _ _ => []
  | .droopDetect _ _ => []
  | .droopRecover _ _ => []
  | .thermalThrottle _ _ => []
  | .thermalRecover _ _ => []
  | .thermalCrawl _ _ => []
  | .thermalCrawlEnd _ _ => []
  | .thermalTrip _ _ => []
  | .energyReconcile _ _ _ _ _ => []
  | .entropyFailure => []
  | .commitKeystone _ _ => []
  | .commitHalfComponent _ _ => []
  | .treeBuild => []
  | .challenge _ _ => []
  | .getMeasurements _ _ _ => []
  | .getCertificate _ _ => []
  | .keyExchange _ _ _ _ _ => []
  | .keyUpdate _ => []
  | .spdmHeartbeat _ => []
  | .sessionHeartbeatTimeout _ => []
  | .sessionEnd _ => []
  | .ownerRootInstall _ _ => []
  | .releaseOwnership _ _ _ => []
  | .sealingKeyInstall _ _ => []
  | .clearSealingSlot _ _ => []
  | .rebind _ _ => []
  | .releaseIdeHold _ _ => []
  | .pelotonKeyInstall _ _ _ => []
  | .pelotonKeyAdvance _ _ _ => []
  | .previousKeyDestroy _ => []
  | .sanitize _ _ _ => []
  | .signStatement _ _ => []
  | .serviceCommand _ _ => []
  | .halfReset _ _ _ => []
  | .tileReset _ _ => []
  | .plumbDue _ => []
  | .plumbCheck _ _ _ _ => []
  | .plumbRelocate _ => []
  | .memoryError _ _ _ => []
  | .tspRequest _ _ _ => []
  | .configurationRequest _ _ _ => []

/-- Tiles that a command's own operands name. -/
def Instr.tileWords : Instr → List Nat
  | .coldPowerOn _ _ => []
  | .startComplete _ => []
  | .startFail _ _ _ _ => []
  | .startTimeout _ _ => []
  | .crystalStartTimeout => []
  | .leadStartTimeout => []
  | .recoveryImage _ _ => []
  | .recoverCommit _ _ => []
  | .recoverRetry _ _ => []
  | .supplyBrownout _ => []
  | .supplyRecover _ _ => []
  | .supplyUndervoltageAlert _ => []
  | .supplyUndervoltageClear _ => []
  | .supplyOvervoltageAlert _ => []
  | .supplyOvervoltageClear _ => []
  | .inputSwitchOpen => []
  | .inputSwitchReclose _ _ => []
  | .powerLoss => []
  | .reversePolarity => []
  | .contactGroupOpen _ => []
  | .contactGroupClear _ => []
  | .pwrbrkAssert => []
  | .pwrbrkRelease => []
  | .thermNAssert _ => []
  | .thermNRelease _ => []
  | .sidebandShortDetect _ => []
  | .sidebandFaultClear _ => []
  | .pullupCheck _ _ => []
  | .clearExtremes _ _ => []
  | .heartbeat _ => []
  | .bridgeLoss _ => []
  | .fenceDrawConfirm _ => []
  | .fencePowerRemove _ => []
  | .claim _ _ => []
  | .windowClose => []
  | .moveLead _ _ => []
  | .replaceClear _ _ => []
  | .replaceRaise _ _ => []
  | .writeObject _ => []
  | .read _ => []
  | .write _ => []
  | .writeIf _ => []
  | .describe _ => []
  | .readSeg _ => []
  | .writeSeg _ _ _ _ _ => []
  | .ticket _ => []
  | .nextObj _ => []
  | .bar2Read _ _ => []
  | .bar2Write _ _ _ => []
  | .bar2ReadTimeout _ _ => []
  | .ticketResultRead => []
  | .clearSticky _ _ => []
  | .domainWriteTimeout _ _ _ => []
  | .deferredWriteComplete _ _ => []
  | .ticketExpire _ => []
  | .shedLevelUpdate _ _ _ => []
  | .telemetryPlacementWrite _ _ => []
  | .setEndpointId _ => []
  | .getEndpointId => []
  | .getMctpVersionSupport => []
  | .getMessageTypeSupport => []
  | .getVendorDefinedMessageSupport => []
  | .entdaa _ => []
  | .vectorSignal _ _ => []
  | .cxlMemRead _ _ _ _ => []
  | .cxlMemWrite _ _ _ _ _ => []
  | .birsp _ _ _ => []
  | .bisnpTimeout _ _ => []
  | .bisnpFault _ _ => []
  | .hostSnoop _ _ => []
  | .cachePartitionWrite _ _ => []
  | .hdmDecoderCommit _ _ _ => []
  | .ideKeyProgram _ _ => []
  | .ideKeyRefresh => []
  | .ideIntegrityFailure _ => []
  | .tspError _ => []
  | .hostReset _ _ => []
  | .cxlReset _ => []
  | .functionLevelReset _ _ => []
  | .shadowRead _ _ => []
  | .shadowWrite _ _ _ => []
  | .shadowUpdate _ => []
  | .oscReady => []
  | .crystalReady => []
  | .crystalLoss => []
  | .holdoverExpire => []
  | .clockSourceSelect _ _ _ => []
  | .paceMonitorRefresh _ _ _ _ _ => []
  | .paceShortfall _ _ => []
  | .clockEnableWrite _ _ _ => []
  | .blockReady _ _ => []
  | .spreadWrite _ _ _ => []
  | .clkobsSelect _ _ => []
  | .ctxOpen _ _ _ => []
  | .ctxLoad _ _ _ => []
  | .placementComplete _ _ => []
  | .ctxRun _ _ => []
  | .ctxHold _ _ => []
  | .ctxDone _ _ => []
  | .ctxFree _ _ => []
  | .releaseComplete _ _ => []
  | .contextReset _ _ _ => []
  | .claimWrite _ _ _ _ => []
  | .claimComplete _ => []
  | .eventAck _ _ _ => []
  | .strandIssue _ => []
  | .strandEnd _ _ _ => []
  | .numericsRelease _ _ => []
  | .producerUpdate _ _ => []
  | .streamWaitTimeout _ => []
  | .inputVectorArrive tile _ _ => [tile]
  | .forwardProduct tile => [tile]
  | .checksumRepeat tile => [tile]
  | .partialArrive tile _ _ _ => [tile]
  | .outputDrain tile => [tile]
  | .coefficientSwitch tile => [tile]
  | .calibrationProduct tile => [tile]
  | .rowWriteVerify tile _ _ _ => [tile]
  | .calZero _ _ _ _ => []
  | .calFull _ _ _ _ => []
  | .calAbort _ _ _ => []
  | .calRefresh _ _ _ => []
  | .calRunComplete _ _ => []
  | .columnSwap tile _ _ => [tile]
  | .zeroResultExpire _ => []
  | .probe tile _ _ => [tile]
  | .driftMonitor tile _ _ => [tile]
  | .calEscalate tile => [tile]
  | .refreshAge tile _ => [tile]
  | .bucketSend _ _ => []
  | .tensorSend _ _ => []
  | .sealSend _ => []
  | .frameRoute _ => []
  | .gapTimeout _ _ _ => []
  | .linkAck _ _ _ => []
  | .linkNak _ _ _ => []
  | .linkCredit _ _ _ _ => []
  | .contributionReceive _ _ _ _ _ _ _ => []
  | .tensorReceive _ _ _ _ _ _ _ => []
  | .retractReceive _ _ _ _ _ _ _ => []
  | .sealReceive _ _ _ _ _ _ _ => []
  | .sealRefusalReceive _ _ _ _ => []
  | .gatherReceive _ _ _ _ _ _ => []
  | .normPartialReceive _ _ _ _ => []
  | .normPartialSend _ => []
  | .sealTimeout _ => []
  | .spokeTrain _ _ _ => []
  | .spokeTrainRetry _ _ _ => []
  | .spokeRetrain _ _ _ => []
  | .spokeDown _ _ => []
  | .spokeTrainStart _ _ => []
  | .spokeForceRetrain _ _ => []
  | .positionWrite _ _ _ => []
  | .updateStart _ => []
  | .updateComplete _ => []
  | .transferPassStart tile => [tile]
  | .transferRowComplete tile _ _ => [tile]
  | .governorEvaluate tile _ => [tile]
  | .riskEvaluate _ _ => []
  | .draftFrameReceive _ => []
  | .draftReceipt _ _ _ => []
  | .slotEnable _ _ _ => []
  | .restoreStart _ _ => []
  | .sendBack _ _ _ => []
  | .restoreApply _ _ => []
  | .restoreTimeout _ => []
  | .unitSuspect _ _ _ _ => []
  | .suspectReplace _ => []
  | .spareCourseHandover _ _ => []
  | .logClear _ _ => []
  | .enterActive _ _ _ => []
  | .enterQuiet _ _ => []
  | .enterRetain _ _ => []
  | .enterKeystoneOnly _ _ => []
  | .quiescence => []
  | .powerStateReached => []
  | .wake => []
  | .boardLimitWrite _ _ => []
  | .budgetSplitWrite _ _ => []
  | .powerGovern _ _ _ => []
  | .powerFastClamp _ => []
  | .coreSetpointWrite _ _ _ => []
  | .droopDetect _ _ => []
  | .droopRecover _ _ => []
  | .thermalThrottle _ _ => []
  | .thermalRecover _ _ => []
  | .thermalCrawl _ _ => []
  | .thermalCrawlEnd _ _ => []
  | .thermalTrip _ _ => []
  | .energyReconcile _ _ _ _ _ => []
  | .entropyFailure => []
  | .commitKeystone _ _ => []
  | .commitHalfComponent _ _ => []
  | .treeBuild => []
  | .challenge _ _ => []
  | .getMeasurements _ _ _ => []
  | .getCertificate _ _ => []
  | .keyExchange _ _ _ _ _ => []
  | .keyUpdate _ => []
  | .spdmHeartbeat _ => []
  | .sessionHeartbeatTimeout _ => []
  | .sessionEnd _ => []
  | .ownerRootInstall _ _ => []
  | .releaseOwnership _ _ _ => []
  | .sealingKeyInstall _ _ => []
  | .clearSealingSlot _ _ => []
  | .rebind _ _ => []
  | .releaseIdeHold _ _ => []
  | .pelotonKeyInstall _ _ _ => []
  | .pelotonKeyAdvance _ _ _ => []
  | .previousKeyDestroy _ => []
  | .sanitize _ _ _ => []
  | .signStatement _ _ => []
  | .serviceCommand _ _ => []
  | .halfReset _ _ _ => []
  | .tileReset _ _ => []
  | .plumbDue tile => [tile]
  | .plumbCheck tile _ _ _ => [tile]
  | .plumbRelocate tile => [tile]
  | .memoryError _ _ _ => []
  | .tspRequest _ _ _ => []
  | .configurationRequest _ _ _ => []

end Sys2Proof
end

