-- ==== Sys2Proof/Laws/PerInstr.lean ====
section
/-! SUPPORT. What a well-formed command's own operands name: contexts below 3072 and tiles of the part. -/

namespace Sys2Proof.Laws.Operands

section

set_option Elab.async false

/-- A well-formed command names contexts that exist (R139) and tiles of the part (R2, R12). -/
def Statement (i : Instr) : Prop :=
  i.wf = true → (∀ n ∈ i.ctxNums, n < 3072) ∧ (∀ t ∈ i.tileWords, tileOk t = true)

theorem coldPowerOn (mv : Nat) (found : Findings) : Statement (.coldPowerOn mv found) :=
  fun _ => ⟨by nofun, by nofun⟩
theorem startComplete (h : HalfId) : Statement (.startComplete h) :=
  fun _ => ⟨by nofun, by nofun⟩
theorem startFail (h : HalfId) (phase : Nat) (reason : Nat) (status : Nat) : Statement (.startFail h phase reason status) :=
  fun _ => ⟨by nofun, by nofun⟩
theorem startTimeout (h : HalfId) (phase : Nat) : Statement (.startTimeout h phase) :=
  fun _ => ⟨by nofun, by nofun⟩
theorem crystalStartTimeout : Statement (.crystalStartTimeout) :=
  fun _ => ⟨by nofun, by nofun⟩
theorem leadStartTimeout : Statement (.leadStartTimeout) :=
  fun _ => ⟨by nofun, by nofun⟩
theorem recoveryImage (via : Via) (image : List Byte) : Statement (.recoveryImage via image) :=
  fun _ => ⟨by nofun, by nofun⟩
theorem recoverCommit (via : Via) (found : Findings) : Statement (.recoverCommit via found) :=
  fun _ => ⟨by nofun, by nofun⟩
theorem recoverRetry (via : Via) (found : Findings) : Statement (.recoverRetry via found) :=
  fun _ => ⟨by nofun, by nofun⟩
theorem supplyBrownout (mv : Nat) : Statement (.supplyBrownout mv) :=
  fun _ => ⟨by nofun, by nofun⟩
theorem supplyRecover (mv : Nat) (found : Findings) : Statement (.supplyRecover mv found) :=
  fun _ => ⟨by nofun, by nofun⟩
theorem supplyUndervoltageAlert (mv : Nat) : Statement (.supplyUndervoltageAlert mv) :=
  fun _ => ⟨by nofun, by nofun⟩
theorem supplyUndervoltageClear (mv : Nat) : Statement (.supplyUndervoltageClear mv) :=
  fun _ => ⟨by nofun, by nofun⟩
theorem supplyOvervoltageAlert (mv : Nat) : Statement (.supplyOvervoltageAlert mv) :=
  fun _ => ⟨by nofun, by nofun⟩
theorem supplyOvervoltageClear (mv : Nat) : Statement (.supplyOvervoltageClear mv) :=
  fun _ => ⟨by nofun, by nofun⟩
theorem inputSwitchOpen : Statement (.inputSwitchOpen) :=
  fun _ => ⟨by nofun, by nofun⟩
theorem inputSwitchReclose (mv : Nat) (found : Findings) : Statement (.inputSwitchReclose mv found) :=
  fun _ => ⟨by nofun, by nofun⟩
theorem powerLoss : Statement (.powerLoss) :=
  fun _ => ⟨by nofun, by nofun⟩
theorem reversePolarity : Statement (.reversePolarity) :=
  fun _ => ⟨by nofun, by nofun⟩
theorem contactGroupOpen (group : Nat) : Statement (.contactGroupOpen group) :=
  fun _ => ⟨by nofun, by nofun⟩
theorem contactGroupClear (group : Nat) : Statement (.contactGroupClear group) :=
  fun _ => ⟨by nofun, by nofun⟩
theorem pwrbrkAssert : Statement (.pwrbrkAssert) :=
  fun _ => ⟨by nofun, by nofun⟩
theorem pwrbrkRelease : Statement (.pwrbrkRelease) :=
  fun _ => ⟨by nofun, by nofun⟩
theorem thermNAssert (celsius : Int) : Statement (.thermNAssert celsius) :=
  fun _ => ⟨by nofun, by nofun⟩
theorem thermNRelease (celsius : Int) : Statement (.thermNRelease celsius) :=
  fun _ => ⟨by nofun, by nofun⟩
theorem sidebandShortDetect (bit : Nat) : Statement (.sidebandShortDetect bit) :=
  fun _ => ⟨by nofun, by nofun⟩
theorem sidebandFaultClear (bit : Nat) : Statement (.sidebandFaultClear bit) :=
  fun _ => ⟨by nofun, by nofun⟩
theorem pullupCheck (sclMissing : Bool) (sdaMissing : Bool) : Statement (.pullupCheck sclMissing sdaMissing) :=
  fun _ => ⟨by nofun, by nofun⟩
theorem clearExtremes (via : Via) (value : Word) : Statement (.clearExtremes via value) :=
  fun _ => ⟨by nofun, by nofun⟩
theorem heartbeat (h : HalfId) : Statement (.heartbeat h) :=
  fun _ => ⟨by nofun, by nofun⟩
theorem bridgeLoss (h : HalfId) : Statement (.bridgeLoss h) :=
  fun _ => ⟨by nofun, by nofun⟩
theorem fenceDrawConfirm (h : HalfId) : Statement (.fenceDrawConfirm h) :=
  fun _ => ⟨by nofun, by nofun⟩
theorem fencePowerRemove (h : HalfId) : Statement (.fencePowerRemove h) :=
  fun _ => ⟨by nofun, by nofun⟩
theorem claim (h : HalfId) (epoch : Nat) : Statement (.claim h epoch) :=
  fun _ => ⟨by nofun, by nofun⟩
theorem windowClose : Statement (.windowClose) :=
  fun _ => ⟨by nofun, by nofun⟩
theorem moveLead (via : Via) (target : Word) : Statement (.moveLead via target) :=
  fun _ => ⟨by nofun, by nofun⟩
theorem replaceClear (via : Via) (value : Word) : Statement (.replaceClear via value) :=
  fun _ => ⟨by nofun, by nofun⟩
theorem replaceRaise (via : Via) (value : Word) : Statement (.replaceRaise via value) :=
  fun _ => ⟨by nofun, by nofun⟩
theorem writeObject (req : Req) : Statement (.writeObject req) :=
  fun _ => ⟨by nofun, by nofun⟩
theorem read (req : Req) : Statement (.read req) :=
  fun _ => ⟨by nofun, by nofun⟩
theorem write (req : Req) : Statement (.write req) :=
  fun _ => ⟨by nofun, by nofun⟩
theorem writeIf (req : Req) : Statement (.writeIf req) :=
  fun _ => ⟨by nofun, by nofun⟩
theorem describe (req : Req) : Statement (.describe req) :=
  fun _ => ⟨by nofun, by nofun⟩
theorem readSeg (req : Req) : Statement (.readSeg req) :=
  fun _ => ⟨by nofun, by nofun⟩
theorem writeSeg (req : Req) (offset : Nat) (first : Bool) (final : Bool) (data : List Byte) : Statement (.writeSeg req offset first final data) :=
  fun _ => ⟨by nofun, by nofun⟩
theorem ticket (req : Req) : Statement (.ticket req) :=
  fun _ => ⟨by nofun, by nofun⟩
theorem nextObj (req : Req) : Statement (.nextObj req) :=
  fun _ => ⟨by nofun, by nofun⟩
theorem bar2Read (offset : Nat) (width : Nat) : Statement (.bar2Read offset width) :=
  fun _ => ⟨by nofun, by nofun⟩
theorem bar2Write (offset : Nat) (width : Nat) (value : BitVec 64) : Statement (.bar2Write offset width value) :=
  fun _ => ⟨by nofun, by nofun⟩
theorem bar2ReadTimeout (offset : Nat) (width : Nat) : Statement (.bar2ReadTimeout offset width) :=
  fun _ => ⟨by nofun, by nofun⟩
theorem ticketResultRead : Statement (.ticketResultRead) :=
  fun _ => ⟨by nofun, by nofun⟩
theorem clearSticky (via : Via) (value : Word) : Statement (.clearSticky via value) :=
  fun _ => ⟨by nofun, by nofun⟩
theorem domainWriteTimeout (index : Nat) (sub : Nat) (inst : Nat) : Statement (.domainWriteTimeout index sub inst) :=
  fun _ => ⟨by nofun, by nofun⟩
theorem deferredWriteComplete (num : Nat) (status : Nat) : Statement (.deferredWriteComplete num status) :=
  fun _ => ⟨by nofun, by nofun⟩
theorem ticketExpire (num : Nat) : Statement (.ticketExpire num) :=
  fun _ => ⟨by nofun, by nofun⟩
theorem shedLevelUpdate (h : HalfId) (load : Nat) (lowFor10ms : Bool) : Statement (.shedLevelUpdate h load lowFor10ms) :=
  fun _ => ⟨by nofun, by nofun⟩
theorem telemetryPlacementWrite (via : Via) (value : Word) : Statement (.telemetryPlacementWrite via value) :=
  fun _ => ⟨by nofun, by nofun⟩
theorem setEndpointId (eid : Nat) : Statement (.setEndpointId eid) :=
  fun _ => ⟨by nofun, by nofun⟩
theorem getEndpointId : Statement (.getEndpointId) :=
  fun _ => ⟨by nofun, by nofun⟩
theorem getMctpVersionSupport : Statement (.getMctpVersionSupport) :=
  fun _ => ⟨by nofun, by nofun⟩
theorem getMessageTypeSupport : Statement (.getMessageTypeSupport) :=
  fun _ => ⟨by nofun, by nofun⟩
theorem getVendorDefinedMessageSupport : Statement (.getVendorDefinedMessageSupport) :=
  fun _ => ⟨by nofun, by nofun⟩
theorem entdaa (addr : Nat) : Statement (.entdaa addr) :=
  fun _ => ⟨by nofun, by nofun⟩
theorem vectorSignal (fn : Fn) (vector : Nat) : Statement (.vectorSignal fn vector) :=
  fun _ => ⟨by nofun, by nofun⟩
theorem cxlMemRead (h : HalfId) (offset : Nat) (session : Option Nat) (ide : Bool) : Statement (.cxlMemRead h offset session ide) :=
  fun _ => ⟨by nofun, by nofun⟩
theorem cxlMemWrite (h : HalfId) (offset : Nat) (data : List Byte) (session : Option Nat) (ide : Bool) : Statement (.cxlMemWrite h offset data session ide) :=
  fun _ => ⟨by nofun, by nofun⟩
theorem birsp (h : HalfId) (line : Nat) (data : Option (List Byte)) : Statement (.birsp h line data) :=
  fun _ => ⟨by nofun, by nofun⟩
theorem bisnpTimeout (h : HalfId) (line : Nat) : Statement (.bisnpTimeout h line) :=
  fun _ => ⟨by nofun, by nofun⟩
theorem bisnpFault (h : HalfId) (line : Nat) : Statement (.bisnpFault h line) :=
  fun _ => ⟨by nofun, by nofun⟩
theorem hostSnoop (addr : Nat) (kind : SnoopKind) : Statement (.hostSnoop addr kind) :=
  fun _ => ⟨by nofun, by nofun⟩
theorem cachePartitionWrite (via : Via) (value : Word) : Statement (.cachePartitionWrite via value) :=
  fun _ => ⟨by nofun, by nofun⟩
theorem hdmDecoderCommit (h : HalfId) (base : Nat) (ways : Nat) : Statement (.hdmDecoderCommit h base ways) :=
  fun _ => ⟨by nofun, by nofun⟩
theorem ideKeyProgram (via : Via) (stream : IdeStream) : Statement (.ideKeyProgram via stream) :=
  fun _ => ⟨by nofun, by nofun⟩
theorem ideKeyRefresh : Statement (.ideKeyRefresh) :=
  fun _ => ⟨by nofun, by nofun⟩
theorem ideIntegrityFailure (stream : IdeStream) : Statement (.ideIntegrityFailure stream) :=
  fun _ => ⟨by nofun, by nofun⟩
theorem tspError (h : HalfId) : Statement (.tspError h) :=
  fun _ => ⟨by nofun, by nofun⟩
theorem hostReset (kind : HostResetKind) (link : LinkTrain) : Statement (.hostReset kind link) :=
  fun _ => ⟨by nofun, by nofun⟩
theorem cxlReset (memClear : Bool) : Statement (.cxlReset memClear) :=
  fun _ => ⟨by nofun, by nofun⟩
theorem functionLevelReset (fn : Fn) (fromD3 : Bool) : Statement (.functionLevelReset fn fromD3) :=
  fun _ => ⟨by nofun, by nofun⟩
theorem shadowRead (offset : Nat) (width : Nat) : Statement (.shadowRead offset width) :=
  fun _ => ⟨by nofun, by nofun⟩
theorem shadowWrite (offset : Nat) (width : Nat) (value : BitVec 64) : Statement (.shadowWrite offset width value) :=
  fun _ => ⟨by nofun, by nofun⟩
theorem shadowUpdate (offset : Nat) : Statement (.shadowUpdate offset) :=
  fun _ => ⟨by nofun, by nofun⟩
theorem oscReady : Statement (.oscReady) :=
  fun _ => ⟨by nofun, by nofun⟩
theorem crystalReady : Statement (.crystalReady) :=
  fun _ => ⟨by nofun, by nofun⟩
theorem crystalLoss : Statement (.crystalLoss) :=
  fun _ => ⟨by nofun, by nofun⟩
theorem holdoverExpire : Statement (.holdoverExpire) :=
  fun _ => ⟨by nofun, by nofun⟩
theorem clockSourceSelect (via : Via) (sub : Nat) (value : Word) : Statement (.clockSourceSelect via sub value) :=
  fun _ => ⟨by nofun, by nofun⟩
theorem paceMonitorRefresh (h : HalfId) (course : Nat) (factor : Nat) (mv : Nat) (celsius : Int) : Statement (.paceMonitorRefresh h course factor mv celsius) :=
  fun _ => ⟨by nofun, by nofun⟩
theorem paceShortfall (h : HalfId) (course : Nat) : Statement (.paceShortfall h course) :=
  fun _ => ⟨by nofun, by nofun⟩
theorem clockEnableWrite (via : Via) (sub : Nat) (value : Word) : Statement (.clockEnableWrite via sub value) :=
  fun _ => ⟨by nofun, by nofun⟩
theorem blockReady (sub : Nat) (bit : Nat) : Statement (.blockReady sub bit) :=
  fun _ => ⟨by nofun, by nofun⟩
theorem spreadWrite (via : Via) (sub : Nat) (value : Word) : Statement (.spreadWrite via sub value) :=
  fun _ => ⟨by nofun, by nofun⟩
theorem clkobsSelect (via : Via) (value : Word) : Statement (.clkobsSelect via value) :=
  fun _ => ⟨by nofun, by nofun⟩
theorem ctxOpen (via : Via) (n : Nat) (value : Word) : Statement (.ctxOpen via n value) :=
  by simp +contextual [Statement, Instr.wf, Instr.ctxNums, Instr.tileWords, ctxOk]
theorem ctxLoad (via : Via) (n : Nat) (decls : List TensorDecl) : Statement (.ctxLoad via n decls) :=
  by simp +contextual [Statement, Instr.wf, Instr.ctxNums, Instr.tileWords, ctxOk]
theorem placementComplete (n : Nat) (seen : List RowSeen) : Statement (.placementComplete n seen) :=
  by simp +contextual [Statement, Instr.wf, Instr.ctxNums, Instr.tileWords, ctxOk]
theorem ctxRun (via : Via) (n : Nat) : Statement (.ctxRun via n) :=
  by simp +contextual [Statement, Instr.wf, Instr.ctxNums, Instr.tileWords, ctxOk]
theorem ctxHold (via : Via) (n : Nat) : Statement (.ctxHold via n) :=
  by simp +contextual [Statement, Instr.wf, Instr.ctxNums, Instr.tileWords, ctxOk]
theorem ctxDone (via : Via) (n : Nat) : Statement (.ctxDone via n) :=
  by simp +contextual [Statement, Instr.wf, Instr.ctxNums, Instr.tileWords, ctxOk]
theorem ctxFree (via : Via) (n : Nat) : Statement (.ctxFree via n) :=
  by simp +contextual [Statement, Instr.wf, Instr.ctxNums, Instr.tileWords, ctxOk]
theorem releaseComplete (n : Nat) (residual : List (Nat × Nat)) : Statement (.releaseComplete n residual) :=
  by simp +contextual [Statement, Instr.wf, Instr.ctxNums, Instr.tileWords, ctxOk]
theorem contextReset (via : Via) (n : Nat) (value : Word) : Statement (.contextReset via n value) :=
  by simp +contextual [Statement, Instr.wf, Instr.ctxNums, Instr.tileWords, ctxOk]
theorem claimWrite (via : Via) (n : Nat) (element : Nat) (value : Word) : Statement (.claimWrite via n element value) :=
  by simp +contextual [Statement, Instr.wf, Instr.ctxNums, Instr.tileWords, ctxOk]
theorem claimComplete (n : Nat) : Statement (.claimComplete n) :=
  by simp +contextual [Statement, Instr.wf, Instr.ctxNums, Instr.tileWords, ctxOk]
theorem eventAck (via : Via) (n : Nat) (value : Word) : Statement (.eventAck via n value) :=
  by simp +contextual [Statement, Instr.wf, Instr.ctxNums, Instr.tileWords, ctxOk]
theorem strandIssue (unit : UnitWord) : Statement (.strandIssue unit) :=
  fun _ => ⟨by nofun, by nofun⟩
theorem strandEnd (ctx : Nat) (strand : Nat) (residue : Residue) : Statement (.strandEnd ctx strand residue) :=
  by simp +contextual [Statement, Instr.wf, Instr.ctxNums, Instr.tileWords, ctxOk]
theorem numericsRelease (via : Via) (value : Word) : Statement (.numericsRelease via value) :=
  fun _ => ⟨by nofun, by nofun⟩
theorem producerUpdate (n : Nat) (value : BitVec 64) : Statement (.producerUpdate n value) :=
  by simp +contextual [Statement, Instr.wf, Instr.ctxNums, Instr.tileWords, ctxOk]
theorem streamWaitTimeout (n : Nat) : Statement (.streamWaitTimeout n) :=
  by simp +contextual [Statement, Instr.wf, Instr.ctxNums, Instr.tileWords, ctxOk]
theorem inputVectorArrive (tile : Nat) (ctx : Nat) (vec : Nat) : Statement (.inputVectorArrive tile ctx vec) :=
  by simp +contextual [Statement, Instr.wf, Instr.ctxNums, Instr.tileWords, ctxOk]
theorem forwardProduct (tile : Nat) : Statement (.forwardProduct tile) :=
  by simp +contextual [Statement, Instr.wf, Instr.ctxNums, Instr.tileWords]
theorem checksumRepeat (tile : Nat) : Statement (.checksumRepeat tile) :=
  by simp +contextual [Statement, Instr.wf, Instr.ctxNums, Instr.tileWords]
theorem partialArrive (tile : Nat) (ctx : Nat) (vec : Nat) (row : Nat) : Statement (.partialArrive tile ctx vec row) :=
  by simp +contextual [Statement, Instr.wf, Instr.ctxNums, Instr.tileWords, ctxOk]
theorem outputDrain (tile : Nat) : Statement (.outputDrain tile) :=
  by simp +contextual [Statement, Instr.wf, Instr.ctxNums, Instr.tileWords]
theorem coefficientSwitch (tile : Nat) : Statement (.coefficientSwitch tile) :=
  by simp +contextual [Statement, Instr.wf, Instr.ctxNums, Instr.tileWords]
theorem calibrationProduct (tile : Nat) : Statement (.calibrationProduct tile) :=
  by simp +contextual [Statement, Instr.wf, Instr.ctxNums, Instr.tileWords]
theorem rowWriteVerify (tile : Nat) (row : Nat) (targets : List (Nat × Int)) (meas : RowMeas) : Statement (.rowWriteVerify tile row targets meas) :=
  by simp +contextual [Statement, Instr.wf, Instr.ctxNums, Instr.tileWords]
theorem calZero (via : Via) (h : HalfId) (value : Word) (meas : List (Nat × ZeroRaw)) : Statement (.calZero via h value meas) :=
  fun _ => ⟨by nofun, by nofun⟩
theorem calFull (via : Via) (h : HalfId) (value : Word) (meas : List (Nat × FullRaw)) : Statement (.calFull via h value meas) :=
  fun _ => ⟨by nofun, by nofun⟩
theorem calAbort (via : Via) (h : HalfId) (value : Word) : Statement (.calAbort via h value) :=
  fun _ => ⟨by nofun, by nofun⟩
theorem calRefresh (via : Via) (h : HalfId) (value : Word) : Statement (.calRefresh via h value) :=
  fun _ => ⟨by nofun, by nofun⟩
theorem calRunComplete (h : HalfId) (seen : List RowSeen) : Statement (.calRunComplete h seen) :=
  fun _ => ⟨by nofun, by nofun⟩
theorem columnSwap (tile : Nat) (group : Nat) (meas : GroupRaw) : Statement (.columnSwap tile group meas) :=
  by simp +contextual [Statement, Instr.wf, Instr.ctxNums, Instr.tileWords]
theorem zeroResultExpire (h : HalfId) : Statement (.zeroResultExpire h) :=
  fun _ => ⟨by nofun, by nofun⟩
theorem probe (tile : Nat) (gainPpm : Nat) (offset : Nat) : Statement (.probe tile gainPpm offset) :=
  by simp +contextual [Statement, Instr.wf, Instr.ctxNums, Instr.tileWords]
theorem driftMonitor (tile : Nat) (bit : Nat) (urgent : Bool) : Statement (.driftMonitor tile bit urgent) :=
  by simp +contextual [Statement, Instr.wf, Instr.ctxNums, Instr.tileWords]
theorem calEscalate (tile : Nat) : Statement (.calEscalate tile) :=
  by simp +contextual [Statement, Instr.wf, Instr.ctxNums, Instr.tileWords]
theorem refreshAge (tile : Nat) (seen : List RowSeen) : Statement (.refreshAge tile seen) :=
  by simp +contextual [Statement, Instr.wf, Instr.ctxNums, Instr.tileWords]
theorem bucketSend (n : Nat) (bucket : Nat) : Statement (.bucketSend n bucket) :=
  by simp +contextual [Statement, Instr.wf, Instr.ctxNums, Instr.tileWords, ctxOk]
theorem tensorSend (n : Nat) (link : Nat) : Statement (.tensorSend n link) :=
  by simp +contextual [Statement, Instr.wf, Instr.ctxNums, Instr.tileWords, ctxOk]
theorem sealSend (n : Nat) : Statement (.sealSend n) :=
  by simp +contextual [Statement, Instr.wf, Instr.ctxNums, Instr.tileWords, ctxOk]
theorem frameRoute (frame : Frame) : Statement (.frameRoute frame) :=
  fun _ => ⟨by nofun, by nofun⟩
theorem gapTimeout (h : HalfId) (src : Nat) (vc : Nat) : Statement (.gapTimeout h src vc) :=
  fun _ => ⟨by nofun, by nofun⟩
theorem linkAck (h : HalfId) (spoke : Nat) (count : Nat) : Statement (.linkAck h spoke count) :=
  fun _ => ⟨by nofun, by nofun⟩
theorem linkNak (h : HalfId) (spoke : Nat) (failed : Nat) : Statement (.linkNak h spoke failed) :=
  fun _ => ⟨by nofun, by nofun⟩
theorem linkCredit (h : HalfId) (spoke : Nat) (vc : Nat) (count : Nat) : Statement (.linkCredit h spoke vc count) :=
  fun _ => ⟨by nofun, by nofun⟩
theorem contributionReceive (n : Nat) (src : Nat) (group : Nat) (step : Nat) (item : Nat) (attempt : Nat) (data : List Byte) : Statement (.contributionReceive n src group step item attempt data) :=
  by simp +contextual [Statement, Instr.wf, Instr.ctxNums, Instr.tileWords, ctxOk]
theorem tensorReceive (n : Nat) (src : Nat) (group : Nat) (step : Nat) (item : Nat) (attempt : Nat) (data : List Byte) : Statement (.tensorReceive n src group step item attempt data) :=
  by simp +contextual [Statement, Instr.wf, Instr.ctxNums, Instr.tileWords, ctxOk]
theorem retractReceive (n : Nat) (src : Nat) (group : Nat) (step : Nat) (first : Nat) (last : Nat) (attempt : Nat) : Statement (.retractReceive n src group step first last attempt) :=
  by simp +contextual [Statement, Instr.wf, Instr.ctxNums, Instr.tileWords, ctxOk]
theorem sealReceive (n : Nat) (src : Nat) (group : Nat) (step : Nat) (cls : Nat) (count : Nat) (crc : Word) : Statement (.sealReceive n src group step cls count crc) :=
  by simp +contextual [Statement, Instr.wf, Instr.ctxNums, Instr.tileWords, ctxOk]
theorem sealRefusalReceive (n : Nat) (src : Nat) (step : Nat) (cls : Nat) : Statement (.sealRefusalReceive n src step cls) :=
  by simp +contextual [Statement, Instr.wf, Instr.ctxNums, Instr.tileWords, ctxOk]
theorem gatherReceive (n : Nat) (src : Nat) (group : Nat) (step : Nat) (bucket : Nat) (data : List Byte) : Statement (.gatherReceive n src group step bucket data) :=
  by simp +contextual [Statement, Instr.wf, Instr.ctxNums, Instr.tileWords, ctxOk]
theorem normPartialReceive (n : Nat) (src : Nat) (step : Nat) (value : Word) : Statement (.normPartialReceive n src step value) :=
  by simp +contextual [Statement, Instr.wf, Instr.ctxNums, Instr.tileWords, ctxOk]
theorem normPartialSend (n : Nat) : Statement (.normPartialSend n) :=
  by simp +contextual [Statement, Instr.wf, Instr.ctxNums, Instr.tileWords, ctxOk]
theorem sealTimeout (n : Nat) : Statement (.sealTimeout n) :=
  by simp +contextual [Statement, Instr.wf, Instr.ctxNums, Instr.tileWords, ctxOk]
theorem spokeTrain (h : HalfId) (spoke : Nat) (t : Training) : Statement (.spokeTrain h spoke t) :=
  fun _ => ⟨by nofun, by nofun⟩
theorem spokeTrainRetry (h : HalfId) (spoke : Nat) (t : Training) : Statement (.spokeTrainRetry h spoke t) :=
  fun _ => ⟨by nofun, by nofun⟩
theorem spokeRetrain (h : HalfId) (spoke : Nat) (t : Training) : Statement (.spokeRetrain h spoke t) :=
  fun _ => ⟨by nofun, by nofun⟩
theorem spokeDown (via : Via) (value : Word) : Statement (.spokeDown via value) :=
  fun _ => ⟨by nofun, by nofun⟩
theorem spokeTrainStart (via : Via) (value : Word) : Statement (.spokeTrainStart via value) :=
  fun _ => ⟨by nofun, by nofun⟩
theorem spokeForceRetrain (via : Via) (value : Word) : Statement (.spokeForceRetrain via value) :=
  fun _ => ⟨by nofun, by nofun⟩
theorem positionWrite (via : Via) (h : HalfId) (value : Word) : Statement (.positionWrite via h value) :=
  fun _ => ⟨by nofun, by nofun⟩
theorem updateStart (n : Nat) : Statement (.updateStart n) :=
  by simp +contextual [Statement, Instr.wf, Instr.ctxNums, Instr.tileWords, ctxOk]
theorem updateComplete (n : Nat) : Statement (.updateComplete n) :=
  by simp +contextual [Statement, Instr.wf, Instr.ctxNums, Instr.tileWords, ctxOk]
theorem transferPassStart (tile : Nat) : Statement (.transferPassStart tile) :=
  by simp +contextual [Statement, Instr.wf, Instr.ctxNums, Instr.tileWords]
theorem transferRowComplete (tile : Nat) (row : Nat) (meas : RowMeas) : Statement (.transferRowComplete tile row meas) :=
  by simp +contextual [Statement, Instr.wf, Instr.ctxNums, Instr.tileWords]
theorem governorEvaluate (tile : Nat) (hottest : Nat) : Statement (.governorEvaluate tile hottest) :=
  by simp +contextual [Statement, Instr.wf, Instr.ctxNums, Instr.tileWords]
theorem riskEvaluate (h : HalfId) (lowForTime : Bool) : Statement (.riskEvaluate h lowForTime) :=
  fun _ => ⟨by nofun, by nofun⟩
theorem draftFrameReceive (frame : Frame) : Statement (.draftFrameReceive frame) :=
  fun _ => ⟨by nofun, by nofun⟩
theorem draftReceipt (via : Via) (h : HalfId) (value : BitVec 64) : Statement (.draftReceipt via h value) :=
  fun _ => ⟨by nofun, by nofun⟩
theorem slotEnable (via : Via) (h : HalfId) (value : BitVec 64) : Statement (.slotEnable via h value) :=
  fun _ => ⟨by nofun, by nofun⟩
theorem restoreStart (via : Via) (value : Word) : Statement (.restoreStart via value) :=
  fun _ => ⟨by nofun, by nofun⟩
theorem sendBack (via : Via) (h : HalfId) (value : BitVec 64) : Statement (.sendBack via h value) :=
  fun _ => ⟨by nofun, by nofun⟩
theorem restoreApply (n : Nat) (seen : List RowSeen) : Statement (.restoreApply n seen) :=
  by simp +contextual [Statement, Instr.wf, Instr.ctxNums, Instr.tileWords, ctxOk]
theorem restoreTimeout (n : Nat) : Statement (.restoreTimeout n) :=
  by simp +contextual [Statement, Instr.wf, Instr.ctxNums, Instr.tileWords, ctxOk]
theorem unitSuspect (unit : UnitWord) (cause : Nat) (ctx : Nat) (step : Nat) : Statement (.unitSuspect unit cause ctx step) :=
  fun _ => ⟨by nofun, by nofun⟩
theorem suspectReplace (unit : UnitWord) : Statement (.suspectReplace unit) :=
  fun _ => ⟨by nofun, by nofun⟩
theorem spareCourseHandover (h : HalfId) (course : Nat) : Statement (.spareCourseHandover h course) :=
  fun _ => ⟨by nofun, by nofun⟩
theorem logClear (via : Via) (value : Word) : Statement (.logClear via value) :=
  fun _ => ⟨by nofun, by nofun⟩
theorem enterActive (via : Via) (value : Word) (found : Findings) : Statement (.enterActive via value found) :=
  fun _ => ⟨by nofun, by nofun⟩
theorem enterQuiet (via : Via) (value : Word) : Statement (.enterQuiet via value) :=
  fun _ => ⟨by nofun, by nofun⟩
theorem enterRetain (via : Via) (value : Word) : Statement (.enterRetain via value) :=
  fun _ => ⟨by nofun, by nofun⟩
theorem enterKeystoneOnly (via : Via) (value : Word) : Statement (.enterKeystoneOnly via value) :=
  fun _ => ⟨by nofun, by nofun⟩
theorem quiescence : Statement (.quiescence) :=
  fun _ => ⟨by nofun, by nofun⟩
theorem powerStateReached : Statement (.powerStateReached) :=
  fun _ => ⟨by nofun, by nofun⟩
theorem wake : Statement (.wake) :=
  fun _ => ⟨by nofun, by nofun⟩
theorem boardLimitWrite (via : Via) (value : Word) : Statement (.boardLimitWrite via value) :=
  fun _ => ⟨by nofun, by nofun⟩
theorem budgetSplitWrite (via : Via) (value : Word) : Statement (.budgetSplitWrite via value) :=
  fun _ => ⟨by nofun, by nofun⟩
theorem powerGovern (h : HalfId) (drawMw : Nat) (below10ms : Bool) : Statement (.powerGovern h drawMw below10ms) :=
  fun _ => ⟨by nofun, by nofun⟩
theorem powerFastClamp (h : HalfId) : Statement (.powerFastClamp h) :=
  fun _ => ⟨by nofun, by nofun⟩
theorem coreSetpointWrite (via : Via) (h : HalfId) (value : Word) : Statement (.coreSetpointWrite via h value) :=
  fun _ => ⟨by nofun, by nofun⟩
theorem droopDetect (h : HalfId) (course : Nat) : Statement (.droopDetect h course) :=
  fun _ => ⟨by nofun, by nofun⟩
theorem droopRecover (h : HalfId) (course : Nat) : Statement (.droopRecover h course) :=
  fun _ => ⟨by nofun, by nofun⟩
theorem thermalThrottle (h : HalfId) (celsius : Int) : Statement (.thermalThrottle h celsius) :=
  fun _ => ⟨by nofun, by nofun⟩
theorem thermalRecover (h : HalfId) (celsius : Int) : Statement (.thermalRecover h celsius) :=
  fun _ => ⟨by nofun, by nofun⟩
theorem thermalCrawl (h : HalfId) (celsius : Int) : Statement (.thermalCrawl h celsius) :=
  fun _ => ⟨by nofun, by nofun⟩
theorem thermalCrawlEnd (h : HalfId) (celsius : Int) : Statement (.thermalCrawlEnd h celsius) :=
  fun _ => ⟨by nofun, by nofun⟩
theorem thermalTrip (h : HalfId) (celsius : Int) : Statement (.thermalTrip h celsius) :=
  fun _ => ⟨by nofun, by nofun⟩
theorem energyReconcile (h : HalfId) (measured : Nat) (overheadEstimate : Nat) (moduleEnergy : Nat) (traffic : List (Nat × Nat × Nat)) : Statement (.energyReconcile h measured overheadEstimate moduleEnergy traffic) :=
  fun _ => ⟨by nofun, by nofun⟩
theorem entropyFailure : Statement (.entropyFailure) :=
  fun _ => ⟨by nofun, by nofun⟩
theorem commitKeystone (via : Via) (value : Word) : Statement (.commitKeystone via value) :=
  fun _ => ⟨by nofun, by nofun⟩
theorem commitHalfComponent (via : Via) (value : Word) : Statement (.commitHalfComponent via value) :=
  fun _ => ⟨by nofun, by nofun⟩
theorem treeBuild : Statement (.treeBuild) :=
  fun _ => ⟨by nofun, by nofun⟩
theorem challenge (via : Via) (nonce : List Byte) : Statement (.challenge via nonce) :=
  fun _ => ⟨by nofun, by nofun⟩
theorem getMeasurements (via : Via) (block : Nat) (signed : Bool) : Statement (.getMeasurements via block signed) :=
  fun _ => ⟨by nofun, by nofun⟩
theorem getCertificate (via : Via) (slot : Nat) : Statement (.getCertificate via slot) :=
  fun _ => ⟨by nofun, by nofun⟩
theorem keyExchange (via : Via) (id : Nat) (requester : List Byte) (mutAuth : Bool) (rooted : Bool) : Statement (.keyExchange via id requester mutAuth rooted) :=
  fun _ => ⟨by nofun, by nofun⟩
theorem keyUpdate (via : Via) : Statement (.keyUpdate via) :=
  fun _ => ⟨by nofun, by nofun⟩
theorem spdmHeartbeat (via : Via) : Statement (.spdmHeartbeat via) :=
  fun _ => ⟨by nofun, by nofun⟩
theorem sessionHeartbeatTimeout (id : Nat) : Statement (.sessionHeartbeatTimeout id) :=
  fun _ => ⟨by nofun, by nofun⟩
theorem sessionEnd (id : Nat) : Statement (.sessionEnd id) :=
  fun _ => ⟨by nofun, by nofun⟩
theorem ownerRootInstall (via : Via) (point : List Byte) : Statement (.ownerRootInstall via point) :=
  fun _ => ⟨by nofun, by nofun⟩
theorem releaseOwnership (via : Via) (value : Word) (residual : List (Nat × Nat)) : Statement (.releaseOwnership via value residual) :=
  fun _ => ⟨by nofun, by nofun⟩
theorem sealingKeyInstall (via : Via) (key : List Word) : Statement (.sealingKeyInstall via key) :=
  fun _ => ⟨by nofun, by nofun⟩
theorem clearSealingSlot (via : Via) (value : Word) : Statement (.clearSealingSlot via value) :=
  fun _ => ⟨by nofun, by nofun⟩
theorem rebind (via : Via) (value : Word) : Statement (.rebind via value) :=
  fun _ => ⟨by nofun, by nofun⟩
theorem releaseIdeHold (via : Via) (value : Word) : Statement (.releaseIdeHold via value) :=
  fun _ => ⟨by nofun, by nofun⟩
theorem pelotonKeyInstall (via : Via) (h : HalfId) (words : List Word) : Statement (.pelotonKeyInstall via h words) :=
  fun _ => ⟨by nofun, by nofun⟩
theorem pelotonKeyAdvance (via : Via) (h : HalfId) (value : Word) : Statement (.pelotonKeyAdvance via h value) :=
  fun _ => ⟨by nofun, by nofun⟩
theorem previousKeyDestroy (h : HalfId) : Statement (.previousKeyDestroy h) :=
  fun _ => ⟨by nofun, by nofun⟩
theorem sanitize (via : Via) (value : Word) (residual : List (Nat × Nat)) : Statement (.sanitize via value residual) :=
  fun _ => ⟨by nofun, by nofun⟩
theorem signStatement (via : Via) (value : Word) : Statement (.signStatement via value) :=
  fun _ => ⟨by nofun, by nofun⟩
theorem serviceCommand (via : Via) (blob : List Byte) : Statement (.serviceCommand via blob) :=
  fun _ => ⟨by nofun, by nofun⟩
theorem halfReset (via : Via) (value : Word) (found : List (BitVec 64)) : Statement (.halfReset via value found) :=
  fun _ => ⟨by nofun, by nofun⟩
theorem tileReset (via : Via) (value : Word) : Statement (.tileReset via value) :=
  fun _ => ⟨by nofun, by nofun⟩
theorem plumbDue (tile : Nat) : Statement (.plumbDue tile) :=
  by simp +contextual [Statement, Instr.wf, Instr.ctxNums, Instr.tileWords]
theorem plumbCheck (tile : Nat) (v1Fail : Bool) (v2Fail : Bool) (v3Fail : Bool) : Statement (.plumbCheck tile v1Fail v2Fail v3Fail) :=
  by simp +contextual [Statement, Instr.wf, Instr.ctxNums, Instr.tileWords]
theorem plumbRelocate (tile : Nat) : Statement (.plumbRelocate tile) :=
  by simp +contextual [Statement, Instr.wf, Instr.ctxNums, Instr.tileWords]
theorem memoryError (h : HalfId) (err : MemErr) (place : MemPlace) : Statement (.memoryError h err place) :=
  fun _ => ⟨by nofun, by nofun⟩
theorem tspRequest (id : Nat) (fn : Fn) (lock : Option Bool) : Statement (.tspRequest id fn lock) :=
  fun _ => ⟨by nofun, by nofun⟩
theorem configurationRequest (fn : Fn) (register : Nat) (kind : CfgKind) : Statement (.configurationRequest fn register kind) :=
  fun _ => ⟨by nofun, by nofun⟩

end

end Sys2Proof.Laws.Operands
end

