-- ==== Sys2Proof/Laws/Shared.lean ====
section
/-! SUPPORT. What the operations shared by several chapters do, each said once: which of them write registers only,
and which registers they write. -/

namespace Sys2Proof.Machine

open Sys2Proof Sys2Proof.Safety

/-- Nothing but dictionary registers differs. -/
def OnlyDict (s t : State) : Prop := t = { s with dict := t.dict }

theorem onlyDict_refl (s : State) : OnlyDict s s := rfl

theorem onlyDict_keptA (s : State) : KeptA (OnlyDict s) where
  mem i t u sub v h := by
    unfold OnlyDict at *
    rw [h]
    unfold State.putAt
    rfl

theorem regrant_onlyDict (s : State) : OnlyDict s s.regrant :=
  State.regrant_kept (onlyDict_keptA s).toD (onlyDict_refl s)
theorem throttle_onlyDict (s : State) (h : HalfId) : OnlyDict s (s.throttle h) :=
  State.throttle_kept (onlyDict_keptA s).toD (onlyDict_refl s)
theorem throttleBoth_onlyDict (s : State) : OnlyDict s s.throttleBoth :=
  State.throttleBoth_kept (onlyDict_keptA s).toD (onlyDict_refl s)
theorem senseInput_onlyDict (s : State) (mv : Nat) : OnlyDict s (s.senseInput mv) :=
  State.senseInput_kept (onlyDict_keptA s).toD (onlyDict_refl s)
theorem startRecord_onlyDict (s : State) (a b c d : Nat) : OnlyDict s (s.startRecord a b c d) :=
  State.startRecord_kept (onlyDict_keptA s).toD (onlyDict_refl s)
theorem abandonPending_onlyDict (s : State) (b : Nat) : OnlyDict s (s.abandonPending b) :=
  State.abandonPending_kept (onlyDict_keptA s).toD (onlyDict_refl s)
theorem raiseReplace_onlyDict (s : State) (h : HalfId) (b : Nat) : OnlyDict s (s.raiseReplace h b) :=
  State.raiseReplace_kept (onlyDict_keptA s).toD (onlyDict_refl s)
theorem riskEvent_onlyDict (s : State) (h : HalfId) (k : Nat) : OnlyDict s (s.riskEvent h k) :=
  State.riskEvent_kept (onlyDict_keptA s).toD (onlyDict_refl s)
theorem noteJunction_onlyDict (s : State) (h : HalfId) (c : Int) : OnlyDict s (s.noteJunction h c) :=
  State.noteJunction_kept (onlyDict_keptA s).toD (onlyDict_refl s)

/-- A register of an object outside the list reads as before. -/
theorem regrant_regAt {s : State} {u i sub : Nat} (h : i % 65536 ≠ 0x0041 ∧ i % 65536 ≠ 0x1011) :
    s.regrant.regAt u i sub = s.regAt u i sub :=
  State.regrant_kept (P := SameObject i s) (sameObject_keptD s (by simpa using h)) (fun _ _ => rfl) u sub

theorem throttle_regAt {s : State} {h : HalfId} {u i sub : Nat}
    (hi : i % 65536 ≠ 0x1012 ∧ i % 65536 ≠ 0x1013 ∧ i % 65536 ≠ 0x1015 ∧ i % 65536 ≠ 0x1016) :
    (s.throttle h).regAt u i sub = s.regAt u i sub :=
  State.throttle_kept (P := SameObject i s) (sameObject_keptD s (by simpa using hi)) (fun _ _ => rfl) u sub

theorem throttleBoth_regAt {s : State} {u i sub : Nat}
    (hi : i % 65536 ≠ 0x1012 ∧ i % 65536 ≠ 0x1013 ∧ i % 65536 ≠ 0x1015 ∧ i % 65536 ≠ 0x1016) :
    s.throttleBoth.regAt u i sub = s.regAt u i sub :=
  State.throttleBoth_kept (P := SameObject i s) (sameObject_keptD s (by simpa using hi)) (fun _ _ => rfl) u sub

/-- Grants brought up to date (R29, R437): the five words of grants and reservations, and no other. -/
theorem regrant_words {s : State} {u i sub : Nat} :
    s.regrant.regAt u i sub =
      if dkey 0 0x0041 0x04 = dkey u i sub then toWord (s.reserve .h1)
      else if dkey 0 0x0041 0x03 = dkey u i sub then toWord (s.reserve .h0)
      else if dkey 0 0x1011 0x05 = dkey u i sub then toWord s.effective.2
      else if dkey 0 0x1011 0x04 = dkey u i sub then toWord s.effective.1
      else if dkey 0 0x1011 0x03 = dkey u i sub then toWord (s.grant .h1)
      else s.regAt u i sub := by
  unfold State.regrant
  simp only [State.regAt_put]

theorem setHolder_onlyDict (s : State) (n : Nat) : OnlyDict s (s.setHolder n) :=
  State.setHolder_kept (onlyDict_keptA s).toD (onlyDict_refl s)

/-! ### Fields that operations on registers leave -/

variable {s : State}

@[simp] theorem State.regrant_key : (s.regrant).key = s.key := by rw [regrant_onlyDict s]
@[simp] theorem State.regrant_sup : (s.regrant).sup = s.sup := by rw [regrant_onlyDict s]
@[simp] theorem State.regrant_half0 : (s.regrant).half0 = s.half0 := by rw [regrant_onlyDict s]
@[simp] theorem State.regrant_half1 : (s.regrant).half1 = s.half1 := by rw [regrant_onlyDict s]
@[simp] theorem State.regrant_port : (s.regrant).port = s.port := by rw [regrant_onlyDict s]
@[simp] theorem State.regrant_svc : (s.regrant).svc = s.svc := by rw [regrant_onlyDict s]
@[simp] theorem State.regrant_ctxs : (s.regrant).ctxs = s.ctxs := by rw [regrant_onlyDict s]
@[simp] theorem State.regrant_tiles : (s.regrant).tiles = s.tiles := by rw [regrant_onlyDict s]
@[simp] theorem State.regrant_fabric : (s.regrant).fabric = s.fabric := by rw [regrant_onlyDict s]
@[simp] theorem State.regrant_spokes : (s.regrant).spokes = s.spokes := by rw [regrant_onlyDict s]
@[simp] theorem State.regrant_lanes : (s.regrant).lanes = s.lanes := by rw [regrant_onlyDict s]
@[simp] theorem State.regrant_slotBufs : (s.regrant).slotBufs = s.slotBufs := by rw [regrant_onlyDict s]
@[simp] theorem State.regrant_arbs : (s.regrant).arbs = s.arbs := by rw [regrant_onlyDict s]
@[simp] theorem State.regrant_mortar : (s.regrant).mortar = s.mortar := by rw [regrant_onlyDict s]
@[simp] theorem State.regrant_sec : (s.regrant).sec = s.sec := by rw [regrant_onlyDict s]
@[simp] theorem State.regrant_seqs : (s.regrant).seqs = s.seqs := by rw [regrant_onlyDict s]
@[simp] theorem State.regrant_cper : (s.regrant).cper = s.cper := by rw [regrant_onlyDict s]
@[simp] theorem State.regrant_trace : (s.regrant).trace = s.trace := by rw [regrant_onlyDict s]
@[simp] theorem State.regrant_capture0 : (s.regrant).capture0 = s.capture0 := by rw [regrant_onlyDict s]
@[simp] theorem State.regrant_capture1 : (s.regrant).capture1 = s.capture1 := by rw [regrant_onlyDict s]
@[simp] theorem State.regrant_hbm0 : (s.regrant).hbm0 = s.hbm0 := by rw [regrant_onlyDict s]
@[simp] theorem State.regrant_hbm1 : (s.regrant).hbm1 = s.hbm1 := by rw [regrant_onlyDict s]
@[simp] theorem State.regrant_unsent : (s.regrant).unsent = s.unsent := by rw [regrant_onlyDict s]
@[simp] theorem State.regrant_out : (s.regrant).out = s.out := by rw [regrant_onlyDict s]
@[simp] theorem State.regrant_free : (s.regrant).free = s.free := by rw [regrant_onlyDict s]
@[simp] theorem State.regrant_pending : (s.regrant).pending = s.pending := by rw [regrant_onlyDict s]

@[simp] theorem State.throttle_key {h : HalfId} : (s.throttle h).key = s.key := by rw [throttle_onlyDict s h]
@[simp] theorem State.throttle_sup {h : HalfId} : (s.throttle h).sup = s.sup := by rw [throttle_onlyDict s h]
@[simp] theorem State.throttle_half0 {h : HalfId} : (s.throttle h).half0 = s.half0 := by rw [throttle_onlyDict s h]
@[simp] theorem State.throttle_half1 {h : HalfId} : (s.throttle h).half1 = s.half1 := by rw [throttle_onlyDict s h]
@[simp] theorem State.throttle_port {h : HalfId} : (s.throttle h).port = s.port := by rw [throttle_onlyDict s h]
@[simp] theorem State.throttle_svc {h : HalfId} : (s.throttle h).svc = s.svc := by rw [throttle_onlyDict s h]
@[simp] theorem State.throttle_ctxs {h : HalfId} : (s.throttle h).ctxs = s.ctxs := by rw [throttle_onlyDict s h]
@[simp] theorem State.throttle_tiles {h : HalfId} : (s.throttle h).tiles = s.tiles := by rw [throttle_onlyDict s h]
@[simp] theorem State.throttle_fabric {h : HalfId} : (s.throttle h).fabric = s.fabric := by rw [throttle_onlyDict s h]
@[simp] theorem State.throttle_spokes {h : HalfId} : (s.throttle h).spokes = s.spokes := by rw [throttle_onlyDict s h]
@[simp] theorem State.throttle_lanes {h : HalfId} : (s.throttle h).lanes = s.lanes := by rw [throttle_onlyDict s h]
@[simp] theorem State.throttle_slotBufs {h : HalfId} : (s.throttle h).slotBufs = s.slotBufs := by rw [throttle_onlyDict s h]
@[simp] theorem State.throttle_arbs {h : HalfId} : (s.throttle h).arbs = s.arbs := by rw [throttle_onlyDict s h]
@[simp] theorem State.throttle_mortar {h : HalfId} : (s.throttle h).mortar = s.mortar := by rw [throttle_onlyDict s h]
@[simp] theorem State.throttle_sec {h : HalfId} : (s.throttle h).sec = s.sec := by rw [throttle_onlyDict s h]
@[simp] theorem State.throttle_seqs {h : HalfId} : (s.throttle h).seqs = s.seqs := by rw [throttle_onlyDict s h]
@[simp] theorem State.throttle_cper {h : HalfId} : (s.throttle h).cper = s.cper := by rw [throttle_onlyDict s h]
@[simp] theorem State.throttle_trace {h : HalfId} : (s.throttle h).trace = s.trace := by rw [throttle_onlyDict s h]
@[simp] theorem State.throttle_capture0 {h : HalfId} : (s.throttle h).capture0 = s.capture0 := by rw [throttle_onlyDict s h]
@[simp] theorem State.throttle_capture1 {h : HalfId} : (s.throttle h).capture1 = s.capture1 := by rw [throttle_onlyDict s h]
@[simp] theorem State.throttle_hbm0 {h : HalfId} : (s.throttle h).hbm0 = s.hbm0 := by rw [throttle_onlyDict s h]
@[simp] theorem State.throttle_hbm1 {h : HalfId} : (s.throttle h).hbm1 = s.hbm1 := by rw [throttle_onlyDict s h]
@[simp] theorem State.throttle_unsent {h : HalfId} : (s.throttle h).unsent = s.unsent := by rw [throttle_onlyDict s h]
@[simp] theorem State.throttle_out {h : HalfId} : (s.throttle h).out = s.out := by rw [throttle_onlyDict s h]
@[simp] theorem State.throttle_free {h : HalfId} : (s.throttle h).free = s.free := by rw [throttle_onlyDict s h]
@[simp] theorem State.throttle_pending {h : HalfId} : (s.throttle h).pending = s.pending := by rw [throttle_onlyDict s h]

@[simp] theorem State.throttleBoth_key : (s.throttleBoth).key = s.key := by rw [throttleBoth_onlyDict s]
@[simp] theorem State.throttleBoth_sup : (s.throttleBoth).sup = s.sup := by rw [throttleBoth_onlyDict s]
@[simp] theorem State.throttleBoth_half0 : (s.throttleBoth).half0 = s.half0 := by rw [throttleBoth_onlyDict s]
@[simp] theorem State.throttleBoth_half1 : (s.throttleBoth).half1 = s.half1 := by rw [throttleBoth_onlyDict s]
@[simp] theorem State.throttleBoth_port : (s.throttleBoth).port = s.port := by rw [throttleBoth_onlyDict s]
@[simp] theorem State.throttleBoth_svc : (s.throttleBoth).svc = s.svc := by rw [throttleBoth_onlyDict s]
@[simp] theorem State.throttleBoth_ctxs : (s.throttleBoth).ctxs = s.ctxs := by rw [throttleBoth_onlyDict s]
@[simp] theorem State.throttleBoth_tiles : (s.throttleBoth).tiles = s.tiles := by rw [throttleBoth_onlyDict s]
@[simp] theorem State.throttleBoth_fabric : (s.throttleBoth).fabric = s.fabric := by rw [throttleBoth_onlyDict s]
@[simp] theorem State.throttleBoth_spokes : (s.throttleBoth).spokes = s.spokes := by rw [throttleBoth_onlyDict s]
@[simp] theorem State.throttleBoth_lanes : (s.throttleBoth).lanes = s.lanes := by rw [throttleBoth_onlyDict s]
@[simp] theorem State.throttleBoth_slotBufs : (s.throttleBoth).slotBufs = s.slotBufs := by rw [throttleBoth_onlyDict s]
@[simp] theorem State.throttleBoth_arbs : (s.throttleBoth).arbs = s.arbs := by rw [throttleBoth_onlyDict s]
@[simp] theorem State.throttleBoth_mortar : (s.throttleBoth).mortar = s.mortar := by rw [throttleBoth_onlyDict s]
@[simp] theorem State.throttleBoth_sec : (s.throttleBoth).sec = s.sec := by rw [throttleBoth_onlyDict s]
@[simp] theorem State.throttleBoth_seqs : (s.throttleBoth).seqs = s.seqs := by rw [throttleBoth_onlyDict s]
@[simp] theorem State.throttleBoth_cper : (s.throttleBoth).cper = s.cper := by rw [throttleBoth_onlyDict s]
@[simp] theorem State.throttleBoth_trace : (s.throttleBoth).trace = s.trace := by rw [throttleBoth_onlyDict s]
@[simp] theorem State.throttleBoth_capture0 : (s.throttleBoth).capture0 = s.capture0 := by rw [throttleBoth_onlyDict s]
@[simp] theorem State.throttleBoth_capture1 : (s.throttleBoth).capture1 = s.capture1 := by rw [throttleBoth_onlyDict s]
@[simp] theorem State.throttleBoth_hbm0 : (s.throttleBoth).hbm0 = s.hbm0 := by rw [throttleBoth_onlyDict s]
@[simp] theorem State.throttleBoth_hbm1 : (s.throttleBoth).hbm1 = s.hbm1 := by rw [throttleBoth_onlyDict s]
@[simp] theorem State.throttleBoth_unsent : (s.throttleBoth).unsent = s.unsent := by rw [throttleBoth_onlyDict s]
@[simp] theorem State.throttleBoth_out : (s.throttleBoth).out = s.out := by rw [throttleBoth_onlyDict s]
@[simp] theorem State.throttleBoth_free : (s.throttleBoth).free = s.free := by rw [throttleBoth_onlyDict s]
@[simp] theorem State.throttleBoth_pending : (s.throttleBoth).pending = s.pending := by rw [throttleBoth_onlyDict s]

@[simp] theorem State.senseInput_key {mv : Nat} : (s.senseInput mv).key = s.key := by rw [senseInput_onlyDict s mv]
@[simp] theorem State.senseInput_sup {mv : Nat} : (s.senseInput mv).sup = s.sup := by rw [senseInput_onlyDict s mv]
@[simp] theorem State.senseInput_half0 {mv : Nat} : (s.senseInput mv).half0 = s.half0 := by rw [senseInput_onlyDict s mv]
@[simp] theorem State.senseInput_half1 {mv : Nat} : (s.senseInput mv).half1 = s.half1 := by rw [senseInput_onlyDict s mv]
@[simp] theorem State.senseInput_port {mv : Nat} : (s.senseInput mv).port = s.port := by rw [senseInput_onlyDict s mv]
@[simp] theorem State.senseInput_svc {mv : Nat} : (s.senseInput mv).svc = s.svc := by rw [senseInput_onlyDict s mv]
@[simp] theorem State.senseInput_ctxs {mv : Nat} : (s.senseInput mv).ctxs = s.ctxs := by rw [senseInput_onlyDict s mv]
@[simp] theorem State.senseInput_tiles {mv : Nat} : (s.senseInput mv).tiles = s.tiles := by rw [senseInput_onlyDict s mv]
@[simp] theorem State.senseInput_fabric {mv : Nat} : (s.senseInput mv).fabric = s.fabric := by rw [senseInput_onlyDict s mv]
@[simp] theorem State.senseInput_spokes {mv : Nat} : (s.senseInput mv).spokes = s.spokes := by rw [senseInput_onlyDict s mv]
@[simp] theorem State.senseInput_lanes {mv : Nat} : (s.senseInput mv).lanes = s.lanes := by rw [senseInput_onlyDict s mv]
@[simp] theorem State.senseInput_slotBufs {mv : Nat} : (s.senseInput mv).slotBufs = s.slotBufs := by rw [senseInput_onlyDict s mv]
@[simp] theorem State.senseInput_arbs {mv : Nat} : (s.senseInput mv).arbs = s.arbs := by rw [senseInput_onlyDict s mv]
@[simp] theorem State.senseInput_mortar {mv : Nat} : (s.senseInput mv).mortar = s.mortar := by rw [senseInput_onlyDict s mv]
@[simp] theorem State.senseInput_sec {mv : Nat} : (s.senseInput mv).sec = s.sec := by rw [senseInput_onlyDict s mv]
@[simp] theorem State.senseInput_seqs {mv : Nat} : (s.senseInput mv).seqs = s.seqs := by rw [senseInput_onlyDict s mv]
@[simp] theorem State.senseInput_cper {mv : Nat} : (s.senseInput mv).cper = s.cper := by rw [senseInput_onlyDict s mv]
@[simp] theorem State.senseInput_trace {mv : Nat} : (s.senseInput mv).trace = s.trace := by rw [senseInput_onlyDict s mv]
@[simp] theorem State.senseInput_capture0 {mv : Nat} : (s.senseInput mv).capture0 = s.capture0 := by rw [senseInput_onlyDict s mv]
@[simp] theorem State.senseInput_capture1 {mv : Nat} : (s.senseInput mv).capture1 = s.capture1 := by rw [senseInput_onlyDict s mv]
@[simp] theorem State.senseInput_hbm0 {mv : Nat} : (s.senseInput mv).hbm0 = s.hbm0 := by rw [senseInput_onlyDict s mv]
@[simp] theorem State.senseInput_hbm1 {mv : Nat} : (s.senseInput mv).hbm1 = s.hbm1 := by rw [senseInput_onlyDict s mv]
@[simp] theorem State.senseInput_unsent {mv : Nat} : (s.senseInput mv).unsent = s.unsent := by rw [senseInput_onlyDict s mv]
@[simp] theorem State.senseInput_out {mv : Nat} : (s.senseInput mv).out = s.out := by rw [senseInput_onlyDict s mv]
@[simp] theorem State.senseInput_free {mv : Nat} : (s.senseInput mv).free = s.free := by rw [senseInput_onlyDict s mv]
@[simp] theorem State.senseInput_pending {mv : Nat} : (s.senseInput mv).pending = s.pending := by rw [senseInput_onlyDict s mv]

@[simp] theorem State.startRecord_key {a b c d : Nat} : (s.startRecord a b c d).key = s.key := by rw [startRecord_onlyDict s a b c d]
@[simp] theorem State.startRecord_sup {a b c d : Nat} : (s.startRecord a b c d).sup = s.sup := by rw [startRecord_onlyDict s a b c d]
@[simp] theorem State.startRecord_half0 {a b c d : Nat} : (s.startRecord a b c d).half0 = s.half0 := by rw [startRecord_onlyDict s a b c d]
@[simp] theorem State.startRecord_half1 {a b c d : Nat} : (s.startRecord a b c d).half1 = s.half1 := by rw [startRecord_onlyDict s a b c d]
@[simp] theorem State.startRecord_port {a b c d : Nat} : (s.startRecord a b c d).port = s.port := by rw [startRecord_onlyDict s a b c d]
@[simp] theorem State.startRecord_svc {a b c d : Nat} : (s.startRecord a b c d).svc = s.svc := by rw [startRecord_onlyDict s a b c d]
@[simp] theorem State.startRecord_ctxs {a b c d : Nat} : (s.startRecord a b c d).ctxs = s.ctxs := by rw [startRecord_onlyDict s a b c d]
@[simp] theorem State.startRecord_tiles {a b c d : Nat} : (s.startRecord a b c d).tiles = s.tiles := by rw [startRecord_onlyDict s a b c d]
@[simp] theorem State.startRecord_fabric {a b c d : Nat} : (s.startRecord a b c d).fabric = s.fabric := by rw [startRecord_onlyDict s a b c d]
@[simp] theorem State.startRecord_spokes {a b c d : Nat} : (s.startRecord a b c d).spokes = s.spokes := by rw [startRecord_onlyDict s a b c d]
@[simp] theorem State.startRecord_lanes {a b c d : Nat} : (s.startRecord a b c d).lanes = s.lanes := by rw [startRecord_onlyDict s a b c d]
@[simp] theorem State.startRecord_slotBufs {a b c d : Nat} : (s.startRecord a b c d).slotBufs = s.slotBufs := by rw [startRecord_onlyDict s a b c d]
@[simp] theorem State.startRecord_arbs {a b c d : Nat} : (s.startRecord a b c d).arbs = s.arbs := by rw [startRecord_onlyDict s a b c d]
@[simp] theorem State.startRecord_mortar {a b c d : Nat} : (s.startRecord a b c d).mortar = s.mortar := by rw [startRecord_onlyDict s a b c d]
@[simp] theorem State.startRecord_sec {a b c d : Nat} : (s.startRecord a b c d).sec = s.sec := by rw [startRecord_onlyDict s a b c d]
@[simp] theorem State.startRecord_seqs {a b c d : Nat} : (s.startRecord a b c d).seqs = s.seqs := by rw [startRecord_onlyDict s a b c d]
@[simp] theorem State.startRecord_cper {a b c d : Nat} : (s.startRecord a b c d).cper = s.cper := by rw [startRecord_onlyDict s a b c d]
@[simp] theorem State.startRecord_trace {a b c d : Nat} : (s.startRecord a b c d).trace = s.trace := by rw [startRecord_onlyDict s a b c d]
@[simp] theorem State.startRecord_capture0 {a b c d : Nat} : (s.startRecord a b c d).capture0 = s.capture0 := by rw [startRecord_onlyDict s a b c d]
@[simp] theorem State.startRecord_capture1 {a b c d : Nat} : (s.startRecord a b c d).capture1 = s.capture1 := by rw [startRecord_onlyDict s a b c d]
@[simp] theorem State.startRecord_hbm0 {a b c d : Nat} : (s.startRecord a b c d).hbm0 = s.hbm0 := by rw [startRecord_onlyDict s a b c d]
@[simp] theorem State.startRecord_hbm1 {a b c d : Nat} : (s.startRecord a b c d).hbm1 = s.hbm1 := by rw [startRecord_onlyDict s a b c d]
@[simp] theorem State.startRecord_unsent {a b c d : Nat} : (s.startRecord a b c d).unsent = s.unsent := by rw [startRecord_onlyDict s a b c d]
@[simp] theorem State.startRecord_out {a b c d : Nat} : (s.startRecord a b c d).out = s.out := by rw [startRecord_onlyDict s a b c d]
@[simp] theorem State.startRecord_free {a b c d : Nat} : (s.startRecord a b c d).free = s.free := by rw [startRecord_onlyDict s a b c d]
@[simp] theorem State.startRecord_pending {a b c d : Nat} : (s.startRecord a b c d).pending = s.pending := by rw [startRecord_onlyDict s a b c d]

@[simp] theorem State.abandonPending_key {b : Nat} : (s.abandonPending b).key = s.key := by rw [abandonPending_onlyDict s b]
@[simp] theorem State.abandonPending_sup {b : Nat} : (s.abandonPending b).sup = s.sup := by rw [abandonPending_onlyDict s b]
@[simp] theorem State.abandonPending_half0 {b : Nat} : (s.abandonPending b).half0 = s.half0 := by rw [abandonPending_onlyDict s b]
@[simp] theorem State.abandonPending_half1 {b : Nat} : (s.abandonPending b).half1 = s.half1 := by rw [abandonPending_onlyDict s b]
@[simp] theorem State.abandonPending_port {b : Nat} : (s.abandonPending b).port = s.port := by rw [abandonPending_onlyDict s b]
@[simp] theorem State.abandonPending_svc {b : Nat} : (s.abandonPending b).svc = s.svc := by rw [abandonPending_onlyDict s b]
@[simp] theorem State.abandonPending_ctxs {b : Nat} : (s.abandonPending b).ctxs = s.ctxs := by rw [abandonPending_onlyDict s b]
@[simp] theorem State.abandonPending_tiles {b : Nat} : (s.abandonPending b).tiles = s.tiles := by rw [abandonPending_onlyDict s b]
@[simp] theorem State.abandonPending_fabric {b : Nat} : (s.abandonPending b).fabric = s.fabric := by rw [abandonPending_onlyDict s b]
@[simp] theorem State.abandonPending_spokes {b : Nat} : (s.abandonPending b).spokes = s.spokes := by rw [abandonPending_onlyDict s b]
@[simp] theorem State.abandonPending_lanes {b : Nat} : (s.abandonPending b).lanes = s.lanes := by rw [abandonPending_onlyDict s b]
@[simp] theorem State.abandonPending_slotBufs {b : Nat} : (s.abandonPending b).slotBufs = s.slotBufs := by rw [abandonPending_onlyDict s b]
@[simp] theorem State.abandonPending_arbs {b : Nat} : (s.abandonPending b).arbs = s.arbs := by rw [abandonPending_onlyDict s b]
@[simp] theorem State.abandonPending_mortar {b : Nat} : (s.abandonPending b).mortar = s.mortar := by rw [abandonPending_onlyDict s b]
@[simp] theorem State.abandonPending_sec {b : Nat} : (s.abandonPending b).sec = s.sec := by rw [abandonPending_onlyDict s b]
@[simp] theorem State.abandonPending_seqs {b : Nat} : (s.abandonPending b).seqs = s.seqs := by rw [abandonPending_onlyDict s b]
@[simp] theorem State.abandonPending_cper {b : Nat} : (s.abandonPending b).cper = s.cper := by rw [abandonPending_onlyDict s b]
@[simp] theorem State.abandonPending_trace {b : Nat} : (s.abandonPending b).trace = s.trace := by rw [abandonPending_onlyDict s b]
@[simp] theorem State.abandonPending_capture0 {b : Nat} : (s.abandonPending b).capture0 = s.capture0 := by rw [abandonPending_onlyDict s b]
@[simp] theorem State.abandonPending_capture1 {b : Nat} : (s.abandonPending b).capture1 = s.capture1 := by rw [abandonPending_onlyDict s b]
@[simp] theorem State.abandonPending_hbm0 {b : Nat} : (s.abandonPending b).hbm0 = s.hbm0 := by rw [abandonPending_onlyDict s b]
@[simp] theorem State.abandonPending_hbm1 {b : Nat} : (s.abandonPending b).hbm1 = s.hbm1 := by rw [abandonPending_onlyDict s b]
@[simp] theorem State.abandonPending_unsent {b : Nat} : (s.abandonPending b).unsent = s.unsent := by rw [abandonPending_onlyDict s b]
@[simp] theorem State.abandonPending_out {b : Nat} : (s.abandonPending b).out = s.out := by rw [abandonPending_onlyDict s b]
@[simp] theorem State.abandonPending_free {b : Nat} : (s.abandonPending b).free = s.free := by rw [abandonPending_onlyDict s b]
@[simp] theorem State.abandonPending_pending {b : Nat} : (s.abandonPending b).pending = s.pending := by rw [abandonPending_onlyDict s b]

@[simp] theorem State.raiseReplace_key {h : HalfId} {b : Nat} : (s.raiseReplace h b).key = s.key := by rw [raiseReplace_onlyDict s h b]
@[simp] theorem State.raiseReplace_sup {h : HalfId} {b : Nat} : (s.raiseReplace h b).sup = s.sup := by rw [raiseReplace_onlyDict s h b]
@[simp] theorem State.raiseReplace_half0 {h : HalfId} {b : Nat} : (s.raiseReplace h b).half0 = s.half0 := by rw [raiseReplace_onlyDict s h b]
@[simp] theorem State.raiseReplace_half1 {h : HalfId} {b : Nat} : (s.raiseReplace h b).half1 = s.half1 := by rw [raiseReplace_onlyDict s h b]
@[simp] theorem State.raiseReplace_port {h : HalfId} {b : Nat} : (s.raiseReplace h b).port = s.port := by rw [raiseReplace_onlyDict s h b]
@[simp] theorem State.raiseReplace_svc {h : HalfId} {b : Nat} : (s.raiseReplace h b).svc = s.svc := by rw [raiseReplace_onlyDict s h b]
@[simp] theorem State.raiseReplace_ctxs {h : HalfId} {b : Nat} : (s.raiseReplace h b).ctxs = s.ctxs := by rw [raiseReplace_onlyDict s h b]
@[simp] theorem State.raiseReplace_tiles {h : HalfId} {b : Nat} : (s.raiseReplace h b).tiles = s.tiles := by rw [raiseReplace_onlyDict s h b]
@[simp] theorem State.raiseReplace_fabric {h : HalfId} {b : Nat} : (s.raiseReplace h b).fabric = s.fabric := by rw [raiseReplace_onlyDict s h b]
@[simp] theorem State.raiseReplace_spokes {h : HalfId} {b : Nat} : (s.raiseReplace h b).spokes = s.spokes := by rw [raiseReplace_onlyDict s h b]
@[simp] theorem State.raiseReplace_lanes {h : HalfId} {b : Nat} : (s.raiseReplace h b).lanes = s.lanes := by rw [raiseReplace_onlyDict s h b]
@[simp] theorem State.raiseReplace_slotBufs {h : HalfId} {b : Nat} : (s.raiseReplace h b).slotBufs = s.slotBufs := by rw [raiseReplace_onlyDict s h b]
@[simp] theorem State.raiseReplace_arbs {h : HalfId} {b : Nat} : (s.raiseReplace h b).arbs = s.arbs := by rw [raiseReplace_onlyDict s h b]
@[simp] theorem State.raiseReplace_mortar {h : HalfId} {b : Nat} : (s.raiseReplace h b).mortar = s.mortar := by rw [raiseReplace_onlyDict s h b]
@[simp] theorem State.raiseReplace_sec {h : HalfId} {b : Nat} : (s.raiseReplace h b).sec = s.sec := by rw [raiseReplace_onlyDict s h b]
@[simp] theorem State.raiseReplace_seqs {h : HalfId} {b : Nat} : (s.raiseReplace h b).seqs = s.seqs := by rw [raiseReplace_onlyDict s h b]
@[simp] theorem State.raiseReplace_cper {h : HalfId} {b : Nat} : (s.raiseReplace h b).cper = s.cper := by rw [raiseReplace_onlyDict s h b]
@[simp] theorem State.raiseReplace_trace {h : HalfId} {b : Nat} : (s.raiseReplace h b).trace = s.trace := by rw [raiseReplace_onlyDict s h b]
@[simp] theorem State.raiseReplace_capture0 {h : HalfId} {b : Nat} : (s.raiseReplace h b).capture0 = s.capture0 := by rw [raiseReplace_onlyDict s h b]
@[simp] theorem State.raiseReplace_capture1 {h : HalfId} {b : Nat} : (s.raiseReplace h b).capture1 = s.capture1 := by rw [raiseReplace_onlyDict s h b]
@[simp] theorem State.raiseReplace_hbm0 {h : HalfId} {b : Nat} : (s.raiseReplace h b).hbm0 = s.hbm0 := by rw [raiseReplace_onlyDict s h b]
@[simp] theorem State.raiseReplace_hbm1 {h : HalfId} {b : Nat} : (s.raiseReplace h b).hbm1 = s.hbm1 := by rw [raiseReplace_onlyDict s h b]
@[simp] theorem State.raiseReplace_unsent {h : HalfId} {b : Nat} : (s.raiseReplace h b).unsent = s.unsent := by rw [raiseReplace_onlyDict s h b]
@[simp] theorem State.raiseReplace_out {h : HalfId} {b : Nat} : (s.raiseReplace h b).out = s.out := by rw [raiseReplace_onlyDict s h b]
@[simp] theorem State.raiseReplace_free {h : HalfId} {b : Nat} : (s.raiseReplace h b).free = s.free := by rw [raiseReplace_onlyDict s h b]
@[simp] theorem State.raiseReplace_pending {h : HalfId} {b : Nat} : (s.raiseReplace h b).pending = s.pending := by rw [raiseReplace_onlyDict s h b]

@[simp] theorem State.riskEvent_key {h : HalfId} {k : Nat} : (s.riskEvent h k).key = s.key := by rw [riskEvent_onlyDict s h k]
@[simp] theorem State.riskEvent_sup {h : HalfId} {k : Nat} : (s.riskEvent h k).sup = s.sup := by rw [riskEvent_onlyDict s h k]
@[simp] theorem State.riskEvent_half0 {h : HalfId} {k : Nat} : (s.riskEvent h k).half0 = s.half0 := by rw [riskEvent_onlyDict s h k]
@[simp] theorem State.riskEvent_half1 {h : HalfId} {k : Nat} : (s.riskEvent h k).half1 = s.half1 := by rw [riskEvent_onlyDict s h k]
@[simp] theorem State.riskEvent_port {h : HalfId} {k : Nat} : (s.riskEvent h k).port = s.port := by rw [riskEvent_onlyDict s h k]
@[simp] theorem State.riskEvent_svc {h : HalfId} {k : Nat} : (s.riskEvent h k).svc = s.svc := by rw [riskEvent_onlyDict s h k]
@[simp] theorem State.riskEvent_ctxs {h : HalfId} {k : Nat} : (s.riskEvent h k).ctxs = s.ctxs := by rw [riskEvent_onlyDict s h k]
@[simp] theorem State.riskEvent_tiles {h : HalfId} {k : Nat} : (s.riskEvent h k).tiles = s.tiles := by rw [riskEvent_onlyDict s h k]
@[simp] theorem State.riskEvent_fabric {h : HalfId} {k : Nat} : (s.riskEvent h k).fabric = s.fabric := by rw [riskEvent_onlyDict s h k]
@[simp] theorem State.riskEvent_spokes {h : HalfId} {k : Nat} : (s.riskEvent h k).spokes = s.spokes := by rw [riskEvent_onlyDict s h k]
@[simp] theorem State.riskEvent_lanes {h : HalfId} {k : Nat} : (s.riskEvent h k).lanes = s.lanes := by rw [riskEvent_onlyDict s h k]
@[simp] theorem State.riskEvent_slotBufs {h : HalfId} {k : Nat} : (s.riskEvent h k).slotBufs = s.slotBufs := by rw [riskEvent_onlyDict s h k]
@[simp] theorem State.riskEvent_arbs {h : HalfId} {k : Nat} : (s.riskEvent h k).arbs = s.arbs := by rw [riskEvent_onlyDict s h k]
@[simp] theorem State.riskEvent_mortar {h : HalfId} {k : Nat} : (s.riskEvent h k).mortar = s.mortar := by rw [riskEvent_onlyDict s h k]
@[simp] theorem State.riskEvent_sec {h : HalfId} {k : Nat} : (s.riskEvent h k).sec = s.sec := by rw [riskEvent_onlyDict s h k]
@[simp] theorem State.riskEvent_seqs {h : HalfId} {k : Nat} : (s.riskEvent h k).seqs = s.seqs := by rw [riskEvent_onlyDict s h k]
@[simp] theorem State.riskEvent_cper {h : HalfId} {k : Nat} : (s.riskEvent h k).cper = s.cper := by rw [riskEvent_onlyDict s h k]
@[simp] theorem State.riskEvent_trace {h : HalfId} {k : Nat} : (s.riskEvent h k).trace = s.trace := by rw [riskEvent_onlyDict s h k]
@[simp] theorem State.riskEvent_capture0 {h : HalfId} {k : Nat} : (s.riskEvent h k).capture0 = s.capture0 := by rw [riskEvent_onlyDict s h k]
@[simp] theorem State.riskEvent_capture1 {h : HalfId} {k : Nat} : (s.riskEvent h k).capture1 = s.capture1 := by rw [riskEvent_onlyDict s h k]
@[simp] theorem State.riskEvent_hbm0 {h : HalfId} {k : Nat} : (s.riskEvent h k).hbm0 = s.hbm0 := by rw [riskEvent_onlyDict s h k]
@[simp] theorem State.riskEvent_hbm1 {h : HalfId} {k : Nat} : (s.riskEvent h k).hbm1 = s.hbm1 := by rw [riskEvent_onlyDict s h k]
@[simp] theorem State.riskEvent_unsent {h : HalfId} {k : Nat} : (s.riskEvent h k).unsent = s.unsent := by rw [riskEvent_onlyDict s h k]
@[simp] theorem State.riskEvent_out {h : HalfId} {k : Nat} : (s.riskEvent h k).out = s.out := by rw [riskEvent_onlyDict s h k]
@[simp] theorem State.riskEvent_free {h : HalfId} {k : Nat} : (s.riskEvent h k).free = s.free := by rw [riskEvent_onlyDict s h k]
@[simp] theorem State.riskEvent_pending {h : HalfId} {k : Nat} : (s.riskEvent h k).pending = s.pending := by rw [riskEvent_onlyDict s h k]

@[simp] theorem State.noteJunction_key {h : HalfId} {c : Int} : (s.noteJunction h c).key = s.key := by rw [noteJunction_onlyDict s h c]
@[simp] theorem State.noteJunction_sup {h : HalfId} {c : Int} : (s.noteJunction h c).sup = s.sup := by rw [noteJunction_onlyDict s h c]
@[simp] theorem State.noteJunction_half0 {h : HalfId} {c : Int} : (s.noteJunction h c).half0 = s.half0 := by rw [noteJunction_onlyDict s h c]
@[simp] theorem State.noteJunction_half1 {h : HalfId} {c : Int} : (s.noteJunction h c).half1 = s.half1 := by rw [noteJunction_onlyDict s h c]
@[simp] theorem State.noteJunction_port {h : HalfId} {c : Int} : (s.noteJunction h c).port = s.port := by rw [noteJunction_onlyDict s h c]
@[simp] theorem State.noteJunction_svc {h : HalfId} {c : Int} : (s.noteJunction h c).svc = s.svc := by rw [noteJunction_onlyDict s h c]
@[simp] theorem State.noteJunction_ctxs {h : HalfId} {c : Int} : (s.noteJunction h c).ctxs = s.ctxs := by rw [noteJunction_onlyDict s h c]
@[simp] theorem State.noteJunction_tiles {h : HalfId} {c : Int} : (s.noteJunction h c).tiles = s.tiles := by rw [noteJunction_onlyDict s h c]
@[simp] theorem State.noteJunction_fabric {h : HalfId} {c : Int} : (s.noteJunction h c).fabric = s.fabric := by rw [noteJunction_onlyDict s h c]
@[simp] theorem State.noteJunction_spokes {h : HalfId} {c : Int} : (s.noteJunction h c).spokes = s.spokes := by rw [noteJunction_onlyDict s h c]
@[simp] theorem State.noteJunction_lanes {h : HalfId} {c : Int} : (s.noteJunction h c).lanes = s.lanes := by rw [noteJunction_onlyDict s h c]
@[simp] theorem State.noteJunction_slotBufs {h : HalfId} {c : Int} : (s.noteJunction h c).slotBufs = s.slotBufs := by rw [noteJunction_onlyDict s h c]
@[simp] theorem State.noteJunction_arbs {h : HalfId} {c : Int} : (s.noteJunction h c).arbs = s.arbs := by rw [noteJunction_onlyDict s h c]
@[simp] theorem State.noteJunction_mortar {h : HalfId} {c : Int} : (s.noteJunction h c).mortar = s.mortar := by rw [noteJunction_onlyDict s h c]
@[simp] theorem State.noteJunction_sec {h : HalfId} {c : Int} : (s.noteJunction h c).sec = s.sec := by rw [noteJunction_onlyDict s h c]
@[simp] theorem State.noteJunction_seqs {h : HalfId} {c : Int} : (s.noteJunction h c).seqs = s.seqs := by rw [noteJunction_onlyDict s h c]
@[simp] theorem State.noteJunction_cper {h : HalfId} {c : Int} : (s.noteJunction h c).cper = s.cper := by rw [noteJunction_onlyDict s h c]
@[simp] theorem State.noteJunction_trace {h : HalfId} {c : Int} : (s.noteJunction h c).trace = s.trace := by rw [noteJunction_onlyDict s h c]
@[simp] theorem State.noteJunction_capture0 {h : HalfId} {c : Int} : (s.noteJunction h c).capture0 = s.capture0 := by rw [noteJunction_onlyDict s h c]
@[simp] theorem State.noteJunction_capture1 {h : HalfId} {c : Int} : (s.noteJunction h c).capture1 = s.capture1 := by rw [noteJunction_onlyDict s h c]
@[simp] theorem State.noteJunction_hbm0 {h : HalfId} {c : Int} : (s.noteJunction h c).hbm0 = s.hbm0 := by rw [noteJunction_onlyDict s h c]
@[simp] theorem State.noteJunction_hbm1 {h : HalfId} {c : Int} : (s.noteJunction h c).hbm1 = s.hbm1 := by rw [noteJunction_onlyDict s h c]
@[simp] theorem State.noteJunction_unsent {h : HalfId} {c : Int} : (s.noteJunction h c).unsent = s.unsent := by rw [noteJunction_onlyDict s h c]
@[simp] theorem State.noteJunction_out {h : HalfId} {c : Int} : (s.noteJunction h c).out = s.out := by rw [noteJunction_onlyDict s h c]
@[simp] theorem State.noteJunction_free {h : HalfId} {c : Int} : (s.noteJunction h c).free = s.free := by rw [noteJunction_onlyDict s h c]
@[simp] theorem State.noteJunction_pending {h : HalfId} {c : Int} : (s.noteJunction h c).pending = s.pending := by rw [noteJunction_onlyDict s h c]

@[simp] theorem State.setHolder_key {n : Nat} : (s.setHolder n).key = s.key := by rw [setHolder_onlyDict s n]
@[simp] theorem State.setHolder_sup {n : Nat} : (s.setHolder n).sup = s.sup := by rw [setHolder_onlyDict s n]
@[simp] theorem State.setHolder_half0 {n : Nat} : (s.setHolder n).half0 = s.half0 := by rw [setHolder_onlyDict s n]
@[simp] theorem State.setHolder_half1 {n : Nat} : (s.setHolder n).half1 = s.half1 := by rw [setHolder_onlyDict s n]
@[simp] theorem State.setHolder_port {n : Nat} : (s.setHolder n).port = s.port := by rw [setHolder_onlyDict s n]
@[simp] theorem State.setHolder_svc {n : Nat} : (s.setHolder n).svc = s.svc := by rw [setHolder_onlyDict s n]
@[simp] theorem State.setHolder_ctxs {n : Nat} : (s.setHolder n).ctxs = s.ctxs := by rw [setHolder_onlyDict s n]
@[simp] theorem State.setHolder_tiles {n : Nat} : (s.setHolder n).tiles = s.tiles := by rw [setHolder_onlyDict s n]
@[simp] theorem State.setHolder_fabric {n : Nat} : (s.setHolder n).fabric = s.fabric := by rw [setHolder_onlyDict s n]
@[simp] theorem State.setHolder_spokes {n : Nat} : (s.setHolder n).spokes = s.spokes := by rw [setHolder_onlyDict s n]
@[simp] theorem State.setHolder_lanes {n : Nat} : (s.setHolder n).lanes = s.lanes := by rw [setHolder_onlyDict s n]
@[simp] theorem State.setHolder_slotBufs {n : Nat} : (s.setHolder n).slotBufs = s.slotBufs := by rw [setHolder_onlyDict s n]
@[simp] theorem State.setHolder_arbs {n : Nat} : (s.setHolder n).arbs = s.arbs := by rw [setHolder_onlyDict s n]
@[simp] theorem State.setHolder_mortar {n : Nat} : (s.setHolder n).mortar = s.mortar := by rw [setHolder_onlyDict s n]
@[simp] theorem State.setHolder_sec {n : Nat} : (s.setHolder n).sec = s.sec := by rw [setHolder_onlyDict s n]
@[simp] theorem State.setHolder_seqs {n : Nat} : (s.setHolder n).seqs = s.seqs := by rw [setHolder_onlyDict s n]
@[simp] theorem State.setHolder_cper {n : Nat} : (s.setHolder n).cper = s.cper := by rw [setHolder_onlyDict s n]
@[simp] theorem State.setHolder_trace {n : Nat} : (s.setHolder n).trace = s.trace := by rw [setHolder_onlyDict s n]
@[simp] theorem State.setHolder_capture0 {n : Nat} : (s.setHolder n).capture0 = s.capture0 := by rw [setHolder_onlyDict s n]
@[simp] theorem State.setHolder_capture1 {n : Nat} : (s.setHolder n).capture1 = s.capture1 := by rw [setHolder_onlyDict s n]
@[simp] theorem State.setHolder_hbm0 {n : Nat} : (s.setHolder n).hbm0 = s.hbm0 := by rw [setHolder_onlyDict s n]
@[simp] theorem State.setHolder_hbm1 {n : Nat} : (s.setHolder n).hbm1 = s.hbm1 := by rw [setHolder_onlyDict s n]
@[simp] theorem State.setHolder_unsent {n : Nat} : (s.setHolder n).unsent = s.unsent := by rw [setHolder_onlyDict s n]
@[simp] theorem State.setHolder_out {n : Nat} : (s.setHolder n).out = s.out := by rw [setHolder_onlyDict s n]
@[simp] theorem State.setHolder_free {n : Nat} : (s.setHolder n).free = s.free := by rw [setHolder_onlyDict s n]
@[simp] theorem State.setHolder_pending {n : Nat} : (s.setHolder n).pending = s.pending := by rw [setHolder_onlyDict s n]

end Sys2Proof.Machine
end

