-- ==== Sys2Proof/Tests/Slice0.lean ====
section
/-! SUPPORT. Tests. For each statement, theorems `witness_<statement>` whose conjuncts are the hypotheses of its clauses
at a concrete state and concrete operands (a statement of several rules has one theorem a rule, under both names); terms
that each check of `Instr.wf` refuses; a few of the spec's worked values. Clauses that rest on a value which the spec
leaves to an implementation (that an image is signed, R459; that a repeated checksum check answers again as before, R187;
that a service command is signed, R484) have no witness that evaluates: the functions of Config have no body. -/

namespace Sys2Proof.Tests

set_option Elab.async false
set_option linter.unusedVariables false

open Sys2Proof Sys2Proof.Machine Sys2Proof.Safety

/-- Dictionary words written as they stand: unit, index, sub-index, value. -/
def sets (s : State) : List (Nat × Nat × Nat × Nat) → State
  | [] => s
  | (u, i, sub, v) :: r => sets (s.putAt u i sub (toWord v)) r

/-- A half that runs and believes epoch 1. -/
def up : HalfCtl := { HalfCtl.cold with phase := .running, believed := 1, memActive := true }

/-- A module started at 54 V with both halves running, half 0 holding the lead at epoch 1. -/
def live : State :=
  sets { State.reset with key := { Keystone.cold with powered := true, completed := [.h0, .h1] }, half0 := up, half1 := up }
    [(0, 0x0040, 0x01, 0), (0, 0x0040, 0x02, 1), (0, 0x0041, 0x01, 0), (0, 0x0041, 0x02, 0), (0, 0x0100, 0x01, 54000),
     (0, 0x1000, 0x01, 1), (0, 0x1000, 0x02, 1), (0, 0x1000, 0x04, 0), (0, 0x1001, 0x01, 0x1FFF), (0, 0x1002, 0x03, 0xB)]
def doe : Via := ⟨.doe, none⟩
def bar : Via := bar2Via
/-- The live module in Quiet (R420). -/
def quiet : State := sets live [(0, 0x1010, 0x01, 1)]
/-- The live module in Retain (R420). -/
def retain : State := sets live [(0, 0x1010, 0x01, 2)]
/-- Keystone-only: both halves unpowered and no lead (R522). -/
def ko : State :=
  sets { live with half0 := HalfCtl.cold, half1 := HalfCtl.cold }
    [(0, 0x1010, 0x01, 3), (0, 0x0040, 0x01, 0xFF), (0, 0x0041, 0x01, 3), (0, 0x0041, 0x02, 3)]
/-- The crystal is gone and the core on its oscillator (R86). -/
def lost (s : State) : State := sets s [(0, 0x1000, 0x01, 0), (0, 0x1000, 0x06, 1)]
/-- A half in its start sequence. -/
def starting : HalfCtl := { HalfCtl.cold with phase := .starting }
/-- The live module with half 0 fenced (R28). -/
def fen : State := sets live [(0, 0x0041, 0x01, 1)]
/-- Half 0 has no power. -/
def off0 : State := { live with half0 := HalfCtl.cold }
/-- Footing mode (R131). -/
def foot : State :=
  sets { live with half0 := HalfCtl.cold, half1 := HalfCtl.cold } [(0, 0xF000, 0x02, 1), (0, 0xF000, 0x01, 3)]

/-- A request over DOE. -/
def mk (i sub : Nat) (ws : List Word) : Req := ⟨doe, i, sub, 0, 0xF, ws, none⟩
/-- A ticket of the pool. -/
def tk (n : Nat) (w : Deferred) (st : Option Nat) : Ticket := ⟨n, w, st, none, 0, 10⟩
/-- A context of half 0. -/
def ctx (n st : Nat) : Ctx := { Ctx.opened n .h0 false none [] 0 with state := st }
/-- A confidential context bound to session 7. -/
def cctx (n st : Nat) : Ctx := { Ctx.opened n .h0 true (some 7) [] 0 with state := st }
/-- Both decoders committed. -/
def com (s : State) : State := { s with port := { s.port with f1 := { FnState.cold with decCommitted := true }, f2 := { FnState.cold with decCommitted := true } } }
/-- A digital layer of 32 by 16. -/
def L0 : Layer := ⟨0,0,0,32,16,1,2,0,1,0,0,4,0,0,0,0,0,0,0,0,0,0,0,0,true⟩
/-- A strand. -/
def st (id : Nat) (k : StrandKind) (iss : Bool) : Strand := { id := id, step := 0, layer := 0, kind := k, course := 0, vec0 := 0, count := 1, issued := iss, dead := false, again := false, piece := 0, ran := 0, snapshot := [] }
/-- Contexts with their state words. -/
def wc (cs : List Ctx) (x : List (Nat × Nat × Nat × Nat)) : State := sets { live with ctxs := cs } (cs.map (fun c => (0, 0x8000 + c.n, 1, c.state)) ++ cs.map (fun c => (0, 0x8000 + c.n, 3, 1)) ++ x)
def cRunI : Ctx := { ctx 1 3 with phase := 1, layers := [L0], slots := [st 4 (.engine 0) true] }
def cRunR : Ctx := { ctx 1 3 with phase := 1, layers := [L0], slots := [st 4 (.engine 0) false], todo := [st 5 (.dW 0 0) false] }
def cHoldP : Ctx := { cRunR with state := 4 }
def cPl (ok : Nat) : Ctx := { ctx 1 1 with placing := true, placed := true, placeStatus := ok }
def cs : List Ctx := [ctx 1 1, ctx 1 2, ctx 1 3, ctx 1 4, ctx 1 5, ctx 1 6, ctx 1 7, cRunI, cRunR, cHoldP, cPl 0, cPl 0x2001, { ctx 1 1 with releasing := true }, { cRunI with releasing := true }, cctx 1 1]
/-- An array layer. -/
def Lf (nin nout : Nat) (flags : Nat) : Layer := ⟨0,0,0,nin,nout,1,2,0,1,0,flags,4,0,0,0,0,0,0,0,0,0,0,0,0,false⟩
/-- A forward strand. -/
def fs (id l vec0 cnt : Nat) (iss : Bool) (ran : Nat) : Strand := { st id (.forward l) iss with vec0 := vec0, count := cnt, ran := ran }
/-- An input tensor. -/
def tin : Tensor := { id := 1, grad := false, format := 1, rows := 8, cols := 2048, raw := [], pre := [], peak := [], codes := [(0, 3)], scales := [(0, 120)], coarse := f32One, mRun := 0, sat := 0, under := 0, invalid := 0, blocks := 0, wide := false, rescaled := false, reshifted := false, parts := [], awaits := 0, ready := true }
def cc (nin nout : Nat) (sl : List Strand) (ph : Nat) : Ctx := { ctx 1 3 with phase := ph, layers := [Lf nin nout 0], slots := sl, tiles := [0,1], tensors := [tin] }
def calOk : List (Nat×Nat×Nat×Nat) := [(0,0x2012,2,1),(1,0x2012,2,1)]
/-- An input vector of the ring. -/
def vv (vec n ex : Nat) : InVec := ⟨1,0,vec,(List.range n).map (fun k => (k*5+vec) % 16), List.replicate ((n+31)/32) ex, f32One, false⟩
def wt (s : State) (t : Tile) : State := { s with tiles := [t] }
def f1 (nin nout ran : Nat) (iss : Bool) : State := wc [cc nin nout [fs 4 0 0 3 iss ran] 1] calOk
def ring (p : Nat) (l : List InVec) : Tile := { Tile.blank p with inRing := l }
def meas0 : RowMeas := ⟨[], [], []⟩
def withT (k : Ticket) (s : State) : State := { s with svc := { s.svc with tickets := [k] } }
/-- The half is in the calibration state `st`. -/
def cst (p st : Nat) (s : State) : State := sets s [(p,0x2012,2,st)]
def sess (id : Nat) : Session := ⟨id, .doe, [1], true, true, none, 1⟩
/-- Session 7 stands. -/
def so (s : State) : State := { s with sec := { s.sec with sessions := [sess 7], treeReady := 1 } }
/-- An owner key is installed. -/
def own (s : State) : State := sets { so s with sec := { (so s).sec with ownerRoot := [5] } } [(0,0x9020,1,1)]
/-- DOE inside session 7. -/
def doe7 : Via := ⟨.doe, some 7⟩

namespace Supply

theorem witness_LossOfPowerLeavesNothingVolatile :
    (let s : State := live
     s.key.powered = true) ∧
    (let s : State := { live with sup := { live.sup with alertHigh := true } }
     s.key.powered = true ∧
     s.sup.alertHigh = true) ∧
    (let s : State := sets live [(0,0x0100,0x07,7)]
     s.key.powered = true ∧
     let g : Nat := 3
     g < 4 ∧
     s.flag 0x0100 0x07 g = false ∧
     openGroups (s.val 0x0100 0x07) = 3) := by decide +kernel

theorem witness_PowerOnStartsFromPersistentStateAlone :
    let mv : Nat := 36000
    mv ≤ 80000 := by decide +kernel

end Supply

namespace Starts

def supp (f : Supply → Supply) : State := { live with sup := f live.sup }

theorem witness_ContactsAndSidebandPins_ContactGroupsSetTheCurrentCap :
    let s : State := live
    let g : Nat := 0
    let now : Bool := true
    s.key.powered = true ∧
    g < 4 ∧
    s.flag 0x0100 0x07 g = !now ∧
    (now = true → openGroups (s.val 0x0100 0x07) ≠ 3) := by decide +kernel

theorem witness_StartEnds :
    (let s : State := { live with half0 := starting, half1 := starting, key := { live.key with starting := true } }
     s.key.powered = true ∧
     let h : HalfId := .h0
     (s.half h).phase = .starting) ∧
    (let s : State := { live with half0 := starting, half1 := starting, key := { live.key with starting := true } }
     s.key.powered = true ∧
     s.runs .h0 = false) := by decide +kernel

theorem witness_SupplyAlerts_1 :
    (let s : State := live
     let mv : Nat := 41000
     s.key.powered = true ∧
     36000 ≤ mv ∧
     mv ≤ 80000 ∧
     41000 ≤ mv ∧
     mv < 44000 ∧
     s.halvesPowered = true ∧
     s.sup.alertLow = false ∧
     s.val 0x0100 0x0D ≠ 1 ∧
     s.val 0x0100 0x0D ≠ 3) ∧
    (let s : State := sets (supp (fun s => { s with alertLow := true })) [(0,0x0100,0x0D,1)]
     let mv : Nat := 44500
     s.key.powered = true ∧
     36000 ≤ mv ∧
     mv ≤ 80000 ∧
     44500 ≤ mv ∧
     s.sup.alertLow = true ∧
     s.val 0x0100 0x0D = 1) ∧
    (let s : State := live
     let mv : Nat := 62001
     s.key.powered = true ∧
     36000 ≤ mv ∧
     mv ≤ 80000 ∧
     62000 < mv ∧
     s.sup.alertHigh = false ∧
     s.val 0x0100 0x0D ≠ 2 ∧
     s.val 0x0100 0x0D ≠ 3) ∧
    (let s : State := sets (supp (fun s => { s with alertHigh := true })) [(0,0x0100,0x0D,2)]
     let mv : Nat := 36000
     s.key.powered = true ∧
     36000 ≤ mv ∧
     mv ≤ 80000 ∧
     mv ≤ 61500 ∧
     s.sup.alertHigh = true ∧
     s.val 0x0100 0x0D = 2) := by decide +kernel

theorem witness_SupplyAlerts_2 :
    (let s : State := live
     let mv : Nat := 36000
     s.key.powered = true ∧
     36000 ≤ mv ∧
     mv ≤ 80000 ∧
     mv < 41000 ∧
     s.val 0x0100 0x0D ≠ 3) ∧
    (let s : State := sets { live with key := { live.key with waiting := some ⟨[], []⟩ } } [(0,0x0100,0x0D,3)]
     let mv : Nat := 44000
     s.key.powered = true ∧
     36000 ≤ mv ∧
     mv ≤ 80000 ∧
     44000 ≤ mv ∧
     s.val 0x0100 0x0D = 3 ∧
     s.flag 0xF000 0x02 0 = false ∧
     s.key.atS4 = false) := by decide +kernel

theorem witness_ContactsAndSidebandPins_SidebandPins_1 :
    (let s : State := live
     s.key.powered = true ∧
     let c := 100
     (s.val 0x0101 0x03 : Int) ≤ c ∧
     s.flag 0x0101 0x01 8 = false) ∧
    (let s : State := sets live [(0,0x0101,0x01,0x1FF)]
     s.key.powered = true ∧
     let c := 0
     c < (s.val 0x0101 0x03 : Int) - s.val 0x0101 0x04 ∧
     s.flag 0x0101 0x01 8 = true) ∧
    (let s : State := live
     s.key.powered = true ∧
     let b := 2
     2 ≤ b ∧
     b ≤ 6 ∧
     s.flag 0x0101 0x01 b = false) ∧
    (let s : State := sets live [(0,0x0101,0x01,0x1FF)]
     s.key.powered = true ∧
     let b := 0
     b ≤ 6 ∧
     s.flag 0x0101 0x01 b = true) := by decide +kernel

theorem witness_ContactsAndSidebandPins_SidebandPins_2 :
    (let s : State := live
     s.key.powered = true ∧
     s.flag 0x0101 0x01 0 = false) ∧
    (let s : State := live
     s.key.powered = true ∧
     s.flag 0x0101 0x01 1 = false) := by decide +kernel

end Starts

namespace Clocks

def win (l : List ClaimRec) : State := { live with key := { live.key with window := some ⟨l, []⟩ } }

theorem witness_ClockEvents_ClockSourcesComeAndGo_1 :
    (let s : State := live
     s.key.powered = true ∧
     (s.key.atS4 = false ∨ s.key.waiting = none)) ∧
    (let s : State := { live with key := { live.key with atS4 := true, waiting := some ⟨[], []⟩ } }
     s.key.powered = true ∧
     let found : Findings := ⟨[], []⟩
     s.key.atS4 = true ∧
     s.key.waiting = some found) ∧
    (let s : State := live
     s.key.powered = true ∧
     s.flag 0x1000 0x01 0 = true) ∧
    (let s : State := lost live
     s.key.powered = true ∧
     s.val 0x1000 0x06 = 1 ∧
     s.flag 0x1000 0x01 0 = false ∧
     s.key.trans = none ∧
     s.val 0x1010 0x01 ≤ 1) := by decide +kernel

theorem witness_ClockEvents_ClockSourcesComeAndGo_2 :
    (let s : State := lost retain
     s.key.powered = true ∧
     s.val 0x1000 0x06 = 1 ∧
     s.flag 0x1000 0x01 0 = false ∧
     s.key.trans = none ∧
     (s.val 0x1010 0x01 = 2 ∨ s.val 0x1010 0x01 = 3)) ∧
    (let s : State := sets (lost { ko with key := { ko.key with trans := some ⟨0,3,true,0,false⟩, starting := true } }) [(0,0x1010,0x01,4)]
     s.key.powered = true ∧
     let x : Transition := ⟨0,3,true,0,false⟩
     s.val 0x1000 0x06 = 1 ∧
     s.flag 0x1000 0x01 0 = false ∧
     s.key.trans = some x ∧
     x.prev = 3 ∧
     s.val 0x1010 0x01 = 4) := by decide +kernel

theorem witness_ClockEvents_PaceMonitorsReport :
    let s : State := live
    let h : HalfId := .h0
    let course : Nat := (0)
    s.key.powered = true ∧
    course ≤ 0x20 ∧
    s.railsOn h = true := by decide +kernel

theorem witness_PaceShortfallIsLoggedAndCounted :
    let s : State := live
    let h : HalfId := .h0
    let course : Nat := (0)
    s.key.powered = true ∧
    course ≤ 0x20 ∧
    s.runs h = true := by decide +kernel

theorem witness_ClockEvents_BlockReadySetsTheReadyBit :
    (let s : State := live
     let sub : Nat := (6)
     let bit : Nat := (0)
     s.key.powered = true ∧
     s.mayBeReady sub bit = true ∧
     s.flag 0x1002 sub bit = false) ∧
    (let s : State := live
     let sub : Nat := (0)
     let bit : Nat := (0)
     s.key.powered = true ∧
     (s.mayBeReady sub bit = false ∨ s.flag 0x1002 sub bit = true)) := by decide +kernel

theorem witness_ClockWritesTakeEffect_1 :
    (let s : State := live
     let via : Via := doe
     let v : Word := (0)
     admits s via 0x1000 0x04 [v] = true ∧
     s.sourceReady v.toNat = true) ∧
    (let s : State := live
     let via : Via := doe
     let v : Word := (0)
     let sub : Nat := (7)
     (sub = 0x07 ∨ sub = 0x08) ∧
     admits s via 0x1000 sub [v] = true ∧
     s.sourceReady 0 = true ∧
     s.sourceReady 1 = true ∧
     s.fenced .h0 = false ∧
     s.fenced .h1 = false) ∧
    (let s : State := live
     let via : Via := doe
     let v : Word := (0)
     let sub : Nat := (1)
     1 ≤ sub ∧
     sub ≤ 3 ∧
     admits s via 0x1002 sub [v] = true ∧
     s.fenced .h0 = false ∧
     s.fenced .h1 = false ∧
     (∀ b, b < 16 → bitsOf v.toNat b 1 = 0 → s.mayNotStop via sub b = false) ∧
     s.anyConfidential = false) ∧
    (let s : State := live
     let via : Via := doe
     let v : Word := (0)
     let sub : Nat := (1)
     1 ≤ sub ∧
     sub ≤ 4 ∧
     admits s via 0x1003 sub [v] = true) := by decide +kernel

theorem witness_ClockWritesTakeEffect_2 :
    let s : State := live
    let via : Via := doe
    let v : Word := (1)
    admits s via 0x1004 0x01 [v] = true := by decide +kernel

theorem witness_LossOfABridgeFencesTheHalf :
    (let s : State := live
     let h : HalfId := .h0
     s.key.powered = true ∧
     s.runs h = true ∧
     s.fence h = 0) ∧
    (let s : State := { live with half0 := starting, half1 := starting }
     let h : HalfId := .h0
     s.key.powered = true ∧
     (s.half h).phase = .starting) ∧
    (let s : State := sets live [(0,0x0041,0x01,1)]
     let h : HalfId := .h0
     s.key.powered = true ∧
     (s.half h).phase ≠ .starting ∧
     ¬(s.runs h = true ∧ s.fence h = 0)) ∧
    (let s : State := sets live [(0,0x0041,0x01,1)]
     let h : HalfId := .h0
     s.key.powered = true ∧
     s.fence h = 1 ∧
     (s.half h).confirmed = false) := by decide +kernel

theorem witness_LeadWindowAndReplaceRequests_WindowGivesTheLeadToTheHighestClaim :
    (let s : State := win [⟨.h1,3⟩]
     s.key.powered = true ∧
     let l : List ClaimRec := [⟨.h1,3⟩]
     let c : ClaimRec := ⟨.h1,3⟩
     s.key.window = some { claims := l, held := [] } ∧
     c ∈ l ∧
     s.commandable c.half = true ∧
     s.epoch < c.epoch ∧
     c.epoch ≤ 0xFFFFFFFE ∧
     (∀ d ∈ l, d ≠ c → d.epoch < c.epoch ∨ (d.epoch = c.epoch ∧ c.half = .h0))) ∧
    (let s : State := live
     s.key.powered = true ∧
     s.key.window = none) := by decide +kernel

theorem witness_LeadWindowAndReplaceRequests_ReplaceRequests :
    (let s : State := sets live [(0,0x0080,0x01,0x3F),(0,0x0080,0x02,0x3F)]
     let via : Via := doe
     let v : Word := (0)
     admits s via 0x0080 0x06 [v] = true ∧
     (∀ b, b < 6 → bitsOf v.toNat b 1 = 1 → s.reasonStands (halfOf (v.toNat / 2 ^ 16)) b = false)) ∧
    (let s : State := sets live [(0,0x0080,0x01,0x3F),(0,0x0080,0x02,0x3F)]
     let via : Via := doe
     let v : Word := (32)
     admits s via 0x0080 0x07 [v] = true ∧
     bitsOf v.toNat 5 1 = 1 ∧
     bitsOf v.toNat 0 5 = 0) := by decide +kernel

theorem witness_MovingTheLeadByCommand_1 :
    (let s : State := live
     let via : Via := doe
     let v : Word := (0)
     let h : HalfId := .h0
     v.toNat = halfNum h ∧
     admits s via 0x0040 0x04 [v] = true ∧
     s.holder = halfNum h) ∧
    (let s : State := sets live [(0,0x0041,0x02,1)]
     let via : Via := doe
     let v : Word := (1)
     let h : HalfId := .h1
     v.toNat = halfNum h ∧
     admits s via 0x0040 0x04 [v] = true ∧
     s.holder ≠ halfNum h ∧
     s.fenced h = true) ∧
    (let s : State := { live with half1 := HalfCtl.cold }
     let via : Via := doe
     let v : Word := (1)
     let h : HalfId := .h1
     v.toNat = halfNum h ∧
     admits s via 0x0040 0x04 [v] = true ∧
     s.holder ≠ halfNum h ∧
     s.fenced h = false ∧
     s.runs h = false) ∧
    (let s : State := sets live [(0,0x0040,0x02,0xFFFFFFFE)]
     let via : Via := doe
     let v : Word := (1)
     let h : HalfId := .h1
     v.toNat = halfNum h ∧
     admits s via 0x0040 0x04 [v] = true ∧
     s.holder ≠ halfNum h ∧
     s.fenced h = false ∧
     s.runs h = true ∧
     s.epoch = 0xFFFFFFFE) := by decide +kernel

theorem witness_MovingTheLeadByCommand_2 :
    let s : State := live
    let via : Via := doe
    let v : Word := (1)
    let h : HalfId := .h1
    v.toNat = halfNum h ∧
    admits s via 0x0040 0x04 [v] = true ∧
    s.holder ≠ halfNum h ∧
    s.fenced h = false ∧
    s.runs h = true ∧
    s.epoch < 0xFFFFFFFE := by decide +kernel

theorem witness_LevelPartAndDraftingLevel :
    let s : State := live
    s.key.powered = true := by decide +kernel

end Clocks

namespace Clocks2

theorem witness_ClockWritesTakeEffect :
    let s : State := sets (lost live) [(0,0x1000,0x04,1)]
    let via : Via := doe
    let v : Word := (toWord (0))
    admits s via 0x1000 0x04 [v] = true ∧
    s.sourceReady v.toNat = false ∧
    s.val 0x1000 0x04 ≠ v.toNat := by decide +kernel

end Clocks2

namespace Module

theorem witness_ModuleWritesTakeEffect_1 :
    (let s : State := live
     let via : Via := doe
     let v : Word := (toWord (1))
     admits s via 0x0100 0x06 [v] = true) ∧
    (let s : State := live
     let via : Via := doe
     let v : Word := (toWord (1))
     admits s via 0x0010 0x06 [v] = true) ∧
    (let s : State := live
     let via : Via := doe
     let v : Word := (toWord (0))
     admits s via 0x0011 0x0A [v] = true ∧
     (∀ h ∈ [HalfId.h0, .h1], bitsOf v.toNat (halfNum h) 1 = 1 → bitsOf (s.val 0x0011 0x0A) (halfNum h) 1 = 0 → s.fenced (otherHalf h) = false ∧ s.val 0x0011 (0x03 + halfNum (otherHalf h)) = 0)) ∧
    (let s : State := fen
     let via : Via := doe
     let v : Word := (toWord (2))
     let h : HalfId := .h1
     admits s via 0x0011 0x0A [v] = true ∧
     bitsOf v.toNat (halfNum h) 1 = 1 ∧
     bitsOf (s.val 0x0011 0x0A) (halfNum h) 1 = 0 ∧
     s.fenced (otherHalf h) = true) := by decide +kernel

theorem witness_ModuleWritesTakeEffect_2 :
    (let s : State := live
     let via : Via := doe
     let v : Word := (toWord (512))
     admits s via 0xA003 0x03 [v] = true ∧
     s.port.cache.any (·.dirty) = false) ∧
    (let s : State := { live with port := { live.port with cache := [⟨.h0, 64, true, []⟩] } }
     let via : Via := doe
     let v : Word := (toWord (512))
     admits s via 0xA003 0x03 [v] = true ∧
     s.port.cache.any (·.dirty) = true) := by decide +kernel

theorem witness_FootingModeRecovers :
    (let s : State := { foot with key := { foot.key with recovery := [Image.factory 1 0] } }
     let via : Via := doe
     admits s via 0xF001 0x04 [1] = true ∧
     s.flag 0xF000 0x02 0 = true ∧
     s.key.recovery ≠ [] ∧
     s.ticketRoom = true) ∧
    (let s : State := foot
     let via : Via := doe
     admits s via 0xF001 0x04 [2] = true ∧
     s.flag 0xF000 0x02 0 = true ∧
     s.ticketRoom = true) ∧
    (let s : State := live
     let via : Via := doe
     admits s via 0xF001 0x04 [1] = true ∧
     s.flag 0xF000 0x02 0 = false) ∧
    (let s : State := live
     let via : Via := doe
     admits s via 0xF001 0x04 [2] = true ∧
     s.flag 0xF000 0x02 0 = false) := by decide +kernel

theorem witness_ReadsDescribesAndNextAnswer_ReadAnswersTheObject :
    (let s : State := live
     let q : Req := mk 0x0040 1 []
     (findObj q.index).any (fun o => decide ((o.row q.sub).any (fun r => decide (r.sub = q.sub ∧ readable s q o r = true ∧ q.words = [] ∧ q.other = none ∧ ¬(q.index = 0x0010 ∧ q.sub = 0x08))) = true)) = true) ∧
    (let s : State := live
     let q : Req := mk 0x0040 1 []
     (findObj q.index).any (fun o => decide ((o.row q.sub).any (fun r => decide (r.sub = q.sub ∧ readable s q o r = true ∧ q.words = [] ∧ q.other = none ∧ ¬(q.index = 0x0010 ∧ q.sub = 0x08) ∧ (q.index, q.sub) ∈ [(0x0040, 0x01), (0x0040, 0x02), (0x0041, 0x01), (0x0100, 0x01), (0x0101, 0x01), (0x1000, 0x05), (0x1004, 0x01), (0x1010, 0x01), (0x1011, 0x01), (0x1011, 0x02), (0x1014, 0x01), (0x7002, 0x01), (0x9020, 0x01), (0xF000, 0x01)])) = true)) = true) := by decide +kernel

theorem witness_ReadsDescribesAndNextAnswer_DescribeAndNextAnswer :
    (let s : State := live
     let q : Req := mk 0x0040 1 []
     (findObj q.index).any (fun o => decide (s.key.powered = true ∧ s.mute q.via.path = false ∧ (o.row q.sub).any (fun r => decide (q.words = [] ∧ q.other = none ∧ s.entryStatus q.via o q.index q.sub .look [] = 0 ∧ typeStatus q.ty r.ty = 0 ∧ (reading s o r q.index).shedLook o q.index = none)) = true)) = true) ∧
    (let s : State := live
     let q : Req := mk 0x0040 1 []
     (findObj q.index).any (fun o => decide (s.key.powered = true ∧ s.mute q.via.path = false ∧ ((o.row q.sub).isSome = true ∨ q.sub = 0xFF ∨ (q.index = 0 ∧ q.sub = 0)) ∧ q.words = [] ∧ q.other = none ∧ s.walkStatus q.via = 0 ∧ typeStatus q.ty (((o.row q.sub).map (·.ty)).getD .u32) = 0 ∧ s.shedLook o q.index = none)) = true) ∧
    (let s : State := live
     let q : Req := {mk 0x1014 1 [] with other := some 0x77}
     (findObj q.index).any (fun o => decide (s.key.powered = true ∧ s.mute q.via.path = false ∧ (q.other).any (fun op => decide ((o.row q.sub).any (fun r => decide (s.entryStatus q.via o q.index q.sub .look [] = 0)) = true)) = true)) = true) := by decide +kernel

end Module

namespace Requests

def full : State := { live with svc := { live.svc with tickets := (List.range 256).map (fun k => tk (k+1) (.commitOnly 0 0) none) } }
def tp : Ticket := tk 5 (.action 0x9060 1 0) none
def tc : Ticket := tk 5 (.action 0x9060 1 0) (some 0x3001)
def withT (k : Ticket) : State := sets { live with svc := { live.svc with tickets := [k] } } [(0,0x0010,0x07,5)]

theorem witness_PlainAndConditionalWrites_PlainWritesStore :
    (let s : State := live
     let via : Via := doe
     let i : Nat := (0x0013)
     let sub : Nat := (1)
     let v : Word := (toWord (0))
     admits s via i sub [v] = true ∧
     (i, sub) ∈ [(0x0013, 0x01), (0x0013, 0x02), (0x0013, 0x03), (0x1003, 0x01), (0x1004, 0x01), (0x4002, 0x01), (0x5011, 0x01)]) ∧
    (let s : State := live
     let via : Via := doe
     let i : Nat := (0x1002)
     let sub : Nat := (7)
     let v : Word := (toWord (0))
     admits s via i sub [v] = true ∧
     (i, sub) ∈ [(0x1002, 0x07), (0x1002, 0x08), (0x1002, 0x09), (0x1014, 0x01), (0x7002, 0x01), (0x7002, 0x02)] ∧
     s.ticketRoom = true) ∧
    (let s : State := full
     let via : Via := doe
     let i : Nat := (0x1002)
     let sub : Nat := (7)
     let v : Word := (toWord (0))
     admits s via i sub [v] = true ∧
     (i, sub) ∈ [(0x1002, 0x07), (0x1002, 0x08), (0x1002, 0x09), (0x1014, 0x01), (0x7002, 0x01), (0x7002, 0x02)] ∧
     s.ticketRoom = false) := by decide +kernel

theorem witness_PlainAndConditionalWrites_WriteIfComparesFirst :
    (let s : State := live
     let via : Via := doe
     let i : Nat := (0x0013)
     let sub : Nat := (3)
     let old : Word := (toWord (0))
     let new : Word := (toWord (0))
     admits s via i sub [new] = true ∧
     (i, sub) ∈ [(0x0013, 0x01), (0x0013, 0x02), (0x0013, 0x03), (0x1003, 0x01), (0x1004, 0x01)] ∧
     s.reg i sub = old) ∧
    (let s : State := live
     let via : Via := doe
     let i : Nat := (0x0013)
     let sub : Nat := (1)
     let old : Word := (toWord (0))
     let new : Word := (toWord (0))
     admits s via i sub [new] = true ∧
     (i, sub) ∈ [(0x0013, 0x01), (0x0013, 0x02), (0x0013, 0x03), (0x1003, 0x01), (0x1004, 0x01)] ∧
     s.reg i sub ≠ old) := by decide +kernel

theorem witness_TicketsAndSegments_TicketsAreCollectedOnce_1 :
    (let s : State := withT tp
     let via : Via := doe
     let n : Nat := (5)
     let k : Ticket := tp
     s.key.powered = true ∧
     n < 65536 ∧
     s.mute via.path = false ∧
     s.ticketFor via.path n = some k ∧
     (∀ o, findObj 0x0010 = some o → s.entryStatus via o 0x0010 0x08 .read [] = 0) ∧
     k.status = none) ∧
    (let s : State := withT tc
     let via : Via := doe
     let n : Nat := (5)
     let k : Ticket := tc
     s.key.powered = true ∧
     n < 65536 ∧
     s.mute via.path = false ∧
     s.ticketFor via.path n = some k ∧
     (∀ o, findObj 0x0010 = some o → s.entryStatus via o 0x0010 0x08 .read [] = 0) ∧
     (k.status).isSome = true) ∧
    (let s : State := withT tp
     let n : Nat := (5)
     let k : Ticket := tp
     s.key.powered = true ∧
     n < 65536 ∧
     s.flag 0xF000 0x02 0 = false ∧
     s.ticketFor .bar2 (s.val 0x0010 0x07) = some k) ∧
    (let s : State := live
     let n : Nat := (5)
     s.key.powered = true ∧
     n < 65536 ∧
     s.flag 0xF000 0x02 0 = false ∧
     s.ticketFor .bar2 (s.val 0x0010 0x07) = none) := by decide +kernel

theorem witness_TicketsAndSegments_TicketsAreCollectedOnce_2 :
    (let s : State := withT tc
     let n : Nat := (5)
     let k : Ticket := tc
     s.key.powered = true ∧
     n < 65536 ∧
     s.svc.tickets.find? (fun x => x.num == n) = some k ∧
     k.status ≠ none) ∧
    (let s : State := withT tp
     let n : Nat := (5)
     let k : Ticket := tp
     s.key.powered = true ∧
     n < 65536 ∧
     s.svc.tickets.find? (fun x => x.num == n) = some k ∧
     k.status = none) := by decide +kernel

theorem witness_TicketsAndSegments_DomainsMoveInSegments :
    (let s : State := live
     let q : Req := mk 0x7040 2 [0,4]
     (findObj q.index).any (fun o => decide ((o.row q.sub).any (fun r => decide (r.sub = q.sub ∧ r.ty = .domain ∧ q.ty = 0xF ∧ q.other = none ∧ let off : Word := (toWord (0)); let n : Word := (toWord (4)); readable s q o r = true ∧ q.words = [off, n] ∧ snapped q.index q.sub = false ∧ 0 < n.toNat ∧ n.toNat ≤ 1000)) = true)) = true) ∧
    (let s : State := live
     let q : Req := mk 0xF001 2 []
     (findObj q.index).any (fun o => decide ((o.row q.sub).any (fun r => decide (r.sub = q.sub ∧ r.ty = .domain ∧ q.ty = 0xF ∧ q.other = none ∧ let data : List Byte := []; s.key.powered = true ∧ s.mute q.via.path = false ∧ data.length ≤ 1000 ∧ (s.unstageOther q.via.path q.index q.sub).entryStatus q.via o q.index q.sub .write [] = 0 ∧ s.svc.domWrites.any (fun x => x.path != normPath q.via.path && x.index == q.index && x.sub == q.sub) = false)) = true)) = true) ∧
    (let s : State := { live with svc := { live.svc with domWrites := [⟨.doe, 0x9070, 0x10, 0, [1,2]⟩] } }
     let q : Req := mk 0x9070 0x10 []
     (findObj q.index).any (fun o => decide ((o.row q.sub).any (fun r => decide (r.sub = q.sub ∧ r.ty = .domain ∧ q.ty = 0xF ∧ q.other = none ∧ let data : List Byte := []; s.key.powered = true ∧ s.mute q.via.path = false ∧ data.length ≤ 1000 ∧ (s.unstageOther q.via.path q.index q.sub).entryStatus q.via o q.index q.sub .write [] = 0 ∧ s.svc.domWrites.any (fun x => x.path != normPath q.via.path && x.index == q.index && x.sub == q.sub) = false ∧ (s.svc.domWrites.find? (fun x => x.path == normPath q.via.path)).any (fun x => decide (x.index = q.index ∧ x.sub = q.sub ∧ x.inst = s.unitOf o r)) = true)) = true)) = true) ∧
    (let s : State := live
     let q : Req := mk 0x9010 2 []
     (findObj q.index).any (fun o => decide ((o.row q.sub).any (fun r => decide (r.sub = q.sub ∧ r.ty = .domain ∧ q.ty = 0xF ∧ q.other = none ∧ s.key.powered = true)) = true)) = true) := by decide +kernel

end Requests

namespace Window

def k1 := tk 5 (.store 0x7002 1 0 [100]) none

theorem witness_WindowAccessesAnswer :
    (let s : State := live
     let i : Nat := (0x0013)
     let sub : Nat := (1)
     s.key.powered = true ∧
     i < 65536 ∧
     sub < 256 ∧
     let q : Req := { via := bar2Via, index := i, sub := sub, tag := 0, ty := 0xF, words := [] }
     (findObj i).any (fun o => decide ((o.row sub).any (fun r => decide (r.sub = sub ∧ readable s q o r = true ∧ i ≠ 0x0010)) = true)) = true) ∧
    (let s : State := live
     let i : Nat := (0x0013)
     let sub : Nat := (1)
     s.key.powered = true ∧
     i < 65536 ∧
     sub < 256 ∧
     let v : BitVec 64 := 5
     (i, sub) ∈ [(0x0013, 0x01), (0x0013, 0x02), (0x1003, 0x01), (0x1004, 0x01)] ∧
     admits s bar2Via i sub [v.extractLsb' 0 32] = true) ∧
    (let s : State := live
     let i : Nat := (0x6000)
     let sub : Nat := (1)
     s.key.powered = true ∧
     i < 65536 ∧
     sub < 256 ∧
     let h : HalfId := .h0
     (findObj i).any (fun o => decide ((o.row sub).any (fun r => decide (s.server o i r.single = some h)) = true)) = true) ∧
    (let s : State := live
     let i : Nat := (1)
     let sub : Nat := (1)
     s.key.powered = true ∧
     i < 65536 ∧
     sub < 256 ∧
     let off : Nat := (1)
     let w : Nat := (1)
     windowFits off w = false) := by decide +kernel

theorem witness_DeferredWritesComplete :
    (let s : State := { live with svc := { live.svc with tickets := [k1] } }
     s.key.powered = true ∧
     let num : Nat := (5)
     let k : Ticket := k1
     let i : Nat := (0x7002)
     let sub : Nat := (1)
     let u : Nat := (0)
     let ws : List Word := [100]
     s.svc.tickets.find? (fun x => x.num == num && x.status.isNone) = some k ∧
     k.work = .store i sub u ws ∧
     i < 0x8000 ∧
     i ∉ [0x0010, 0x1011] ∧
     sub + ws.length ≤ 256) ∧
    (let s : State := live
     s.key.powered = true ∧
     let h : HalfId := .h0
     let load : Nat := (0)
     s.runs h = true ∧
     (s.half h).tier1 = [] ∧
     load < 2 ^ 32 ∧
     s.val 0x0011 (0x03 + halfNum h) ≤ 3) := by decide +kernel

end Window

namespace Power

def trn (target prev : Nat) (q w : Bool) : Transition := ⟨target, prev, q, 0, w⟩
def withTr (s : State) (x : Transition) : State := sets { s with key := { s.key with trans := some x } } [(0,0x1010,0x01,4)]
def k1 (v : Nat) := tk 5 (.store 0x1011 1 0 [toWord v]) none
def k2 (v : Nat) := tk 5 (.store 0x1011 2 0 [toWord v]) none

theorem witness_PowerStateCommandsBeginTransitions_1 :
    (let s : State := live
     let via : Via := doe
     let v : Word := (toWord (0))
     s.key.trans = none ∧
     s.ticketRoom = true ∧
     let from' := s.val 0x1010 0x01
     admits s via 0x1010 0x02 [low2 v 1] = true ∧
     from' = 0 ∧
     (bitsOf v.toNat 8 1 = 1 ∨ s.anyGoing = false)) ∧
    (let s : State := live
     let via : Via := doe
     let v : Word := (toWord (0))
     s.key.trans = none ∧
     s.ticketRoom = true ∧
     let from' := s.val 0x1010 0x01
     admits s via 0x1010 0x02 [low2 v 2] = true ∧
     from' ≤ 1 ∧
     (bitsOf v.toNat 8 1 = 1 ∨ s.anyGoing = false)) ∧
    (let s : State := live
     let via : Via := doe
     let v : Word := (toWord (0))
     s.key.trans = none ∧
     s.ticketRoom = true ∧
     let from' := s.val 0x1010 0x01
     admits s via 0x1010 0x02 [low2 v 3] = true ∧
     from' ≤ 1 ∧
     (bitsOf v.toNat 8 1 = 1 ∨ s.anyGoing = false)) ∧
    (let s : State := retain
     let via : Via := doe
     let v : Word := (toWord (0))
     s.key.trans = none ∧
     s.ticketRoom = true ∧
     let from' := s.val 0x1010 0x01
     admits s via 0x1010 0x02 [low2 v 3] = true ∧
     from' = 2 ∧
     s.val 0x1000 0x06 ≠ 2 ∧
     (bitsOf v.toNat 8 1 = 1 ∨ s.anyGoing = false)) := by decide +kernel

theorem witness_PowerStateCommandsBeginTransitions_2 :
    (let s : State := sets { live with ctxs := [ctx 1 3] } [(0,0x8001,1,3)]
     let via : Via := doe
     let v : Word := (toWord (0))
     s.key.trans = none ∧
     s.ticketRoom = true ∧
     let from' := s.val 0x1010 0x01
     admits s via 0x1010 0x02 [low2 v 1] = true ∧
     from' = 0 ∧
     bitsOf v.toNat 8 1 = 0 ∧
     s.anyGoing = true) ∧
    (let s : State := quiet
     let via : Via := doe
     let v : Word := (toWord (0))
     s.key.trans = none ∧
     s.ticketRoom = true ∧
     let from' := s.val 0x1010 0x01
     admits s via 0x1010 0x02 [low2 v 0] = true ∧
     (from' = 1 ∨ from' = 2) ∧
     s.val 0x1000 0x06 ≠ 2) ∧
    (let s : State := ko
     let via : Via := doe
     let v : Word := (toWord (0))
     s.key.trans = none ∧
     s.ticketRoom = true ∧
     let from' := s.val 0x1010 0x01
     admits s via 0x1010 0x02 [low2 v 0] = true ∧
     from' = 3 ∧
     s.val 0x1000 0x06 ≠ 2) ∧
    (let s : State := live
     let via : Via := doe
     let v : Word := (toWord (0))
     s.key.trans = none ∧
     s.ticketRoom = true ∧
     let from' := s.val 0x1010 0x01
     admits s via 0x1010 0x02 [low2 v 0] = true ∧
     from' = 0) := by decide +kernel

theorem witness_TransitionsAndWakes_TransitionsEndInTheirTarget_1 :
    (let s : State := withTr live (trn 1 0 false false)
     let x : Transition := trn 1 0 false false
     s.key.powered = true ∧
     s.key.trans = some x ∧
     x.quiet = false ∧
     x.target ≠ 0 ∧
     s.quiesced = true) ∧
    (let s : State := withTr live (trn 1 0 true false)
     let x : Transition := trn 1 0 true false
     s.key.powered = true ∧
     s.key.trans = some x ∧
     x.quiet = true ∧
     x.wakes = false ∧
     x.target = 1) ∧
    (let s : State := withTr live (trn 2 0 true false)
     let x : Transition := trn 2 0 true false
     s.key.powered = true ∧
     s.key.trans = some x ∧
     x.quiet = true ∧
     x.wakes = false ∧
     x.target = 2) ∧
    (let s : State := withTr live (trn 3 0 true false)
     let x : Transition := trn 3 0 true false
     s.key.powered = true ∧
     s.key.trans = some x ∧
     x.quiet = true ∧
     x.wakes = false ∧
     x.target = 3) := by decide +kernel

theorem witness_TransitionsAndWakes_TransitionsEndInTheirTarget_2 :
    let s : State := withTr live (trn 0 1 true false)
    let x : Transition := trn 0 1 true false
    s.key.powered = true ∧
    s.key.trans = some x ∧
    x.quiet = true ∧
    x.wakes = false ∧
    x.target = 0 ∧
    (x.prev ≠ 3 ∨ s.startSettled = true ∧ (s.runs .h0 = true ∨ s.runs .h1 = true)) := by decide +kernel

theorem witness_TransitionsAndWakes_WakeEventsLeaveLowPower :
    (let s : State := retain
     s.key.powered = true ∧
     s.key.trans = none ∧
     (s.val 0x1010 0x01 = 1 ∨ (s.val 0x1010 0x01 = 2 ∧ s.val 0x1000 0x06 ≠ 2))) ∧
    (let s : State := sets (lost live) [(0,0x1000,0x06,2),(0,0x1010,0x01,2)]
     s.key.powered = true ∧
     s.key.trans = none ∧
     s.val 0x1010 0x01 = 2 ∧
     s.val 0x1000 0x06 = 2) ∧
    (let s : State := withTr live (trn 1 0 true false)
     s.key.powered = true ∧
     (s.key.trans).any (fun x => decide ((x.target = 1 ∨ x.target = 2) ∧ x.wakes = false ∧ s.val 0x1000 0x06 ≠ 2)) = true) := by decide +kernel

theorem witness_BudgetsCommit_1 :
    (let s : State := live
     let via : Via := doe
     let v : Word := (toWord (600))
     admits s via 0x1011 0x01 [v] = true ∧
     s.ticketRoom = true ∧
     (v.toNat ≤ 1400 ∨ s.val 0x0103 0x01 ≠ 0) ∧
     300 ≤ s.rescaled v.toNat ∧
     s.rescaled v.toNat + 300 ≤ v.toNat) ∧
    (let s : State := sets live [(0,0x1011,2,300),(0,0x1011,3,1100)]
     let via : Via := doe
     let v : Word := (toWord (600))
     admits s via 0x1011 0x01 [v] = true ∧
     s.rescaled v.toNat < 300) ∧
    (let s : State := live
     let via : Via := doe
     let v : Word := (toWord (300))
     admits s via 0x1011 0x02 [v] = true ∧
     s.ticketRoom = true) ∧
    (let s : State := { live with svc := { live.svc with tickets := [k1 600] } }
     let v : Word := (toWord (600))
     let num : Nat := (5)
     let k : Ticket := k1 600
     s.key.powered = true ∧
     s.svc.tickets.find? (fun x => x.num == num && x.status.isNone) = some k ∧
     k.work = .store 0x1011 0x01 0 [v] ∧
     (v.toNat ≤ 1400 ∨ s.val 0x0103 0x01 ≠ 0) ∧
     300 ≤ s.rescaled v.toNat ∧
     s.rescaled v.toNat + 300 ≤ v.toNat) := by decide +kernel

theorem witness_BudgetsCommit_2 :
    (let s : State := { live with half0 := { up with awaitSplit := true }, svc := { live.svc with tickets := [k2 300] } }
     let v : Word := (toWord (300))
     let num : Nat := (5)
     let k : Ticket := k2 300
     s.key.powered = true ∧
     s.svc.tickets.find? (fun x => x.num == num && x.status.isNone) = some k ∧
     k.work = .store 0x1011 0x02 0 [v] ∧
     300 ≤ v.toNat ∧
     v.toNat + 300 ≤ s.val 0x1011 0x01) ∧
    (let s : State := live
     let via : Via := doe
     let v : Word := (toWord (700))
     let h : HalfId := .h0
     admits s via (pick h 0x1012 0x1013) 0x01 [v] = true) := by decide +kernel

theorem witness_GovernorAndDroop_PowerGovernorMovesTheCap :
    let s : State := live
    let h : HalfId := .h0
    s.key.powered = true ∧
    s.runs h = true ∧
    let draw : Nat := (0)
    draw < 2 ^ 32 := by decide +kernel

theorem witness_GovernorAndDroop_DroopWithholdsIssue :
    let s : State := live
    let h : HalfId := .h0
    let course : Nat := (0)
    s.key.powered = true ∧
    s.railsOn h = true ∧
    course ≤ 0x20 ∧
    course ∉ (s.half h).droop := by decide +kernel

theorem witness_HeatAndEnergy_HeatThrottlesAndTrips_1 :
    (let s : State := live
     let h : HalfId := .h0
     let c : Int := 95
     s.key.powered = true ∧
     s.railsOn h = true ∧
     (s.val 0x1014 0x01 : Int) ≤ c) ∧
    (let s : State := live
     let h : HalfId := .h0
     let c : Int := 0
     s.key.powered = true ∧
     s.railsOn h = true ∧
     c < (s.val 0x1014 0x01 : Int) - 3) ∧
    (let s : State := live
     let h : HalfId := .h0
     let c : Int := 105
     s.key.powered = true ∧
     s.railsOn h = true ∧
     105 ≤ c) ∧
    (let s : State := live
     let c : Int := 0
     s.key.powered = true ∧
     c < 103) := by decide +kernel

theorem witness_HeatAndEnergy_HeatThrottlesAndTrips_2 :
    let s : State := live
    let h : HalfId := .h0
    let c : Int := 108
    s.key.powered = true ∧
    s.railsOn h = true ∧
    108 ≤ c := by decide +kernel

theorem witness_HeatAndEnergy_EnergyIsAccounted :
    let s : State := live
    let h : HalfId := .h0
    s.key.powered = true ∧
    s.runs h = true := by decide +kernel

end Power

namespace Endpoint

def claimed : State := sets { com live with ctxs := [{ cctx 1 3 with }] } [(0,0x8001,1,3),(0,0x8001,0x30,0),(0,0x8001,0x31,1)]

theorem witness_MctpAndStatusShadow_MctpEndpointAnswers :
    (let s : State := sets live [(0,0x1002,6,8)]
     s.key.powered = true ∧
     s.i3cReady = true) ∧
    (let s : State := sets { live with svc := { live.svc with i3cAddr := 9, eid := 3 } } [(0,0x1002,6,8)]
     s.key.powered = true ∧
     s.i3cReady = true ∧
     s.svc.i3cAddr ≠ 0) ∧
    (let s : State := live
     s.key.powered = true ∧
     s.i3cReady = false ∧
     ([Instr.getEndpointId, .getMctpVersionSupport, .getMessageTypeSupport,
       .getVendorDefinedMessageSupport]) ≠ []) ∧
    (let s : State := { live with port := { live.port with vectors := [(.f0,1),(.f1,2)] } }
     s.key.powered = true ∧
     let f : Fn := .f0
     let v : Nat := (1)
     (f, v) ∈ s.port.vectors ∧
     (s.fn f).masked v = true) := by decide +kernel

theorem witness_DeviceMemoryAccesses_DeviceMemoryWritesStoreTheirBytes :
    (let s : State := com live
     let h : HalfId := .h0
     let offset : Nat := (0)
     let session : Option Nat := none
     let ide : Bool := false
     s.key.powered = true ∧
     s.key.trans = none ∧
     s.val 0x1010 0x01 ≠ 2 ∧
     s.servesMem h = true ∧
     offset < hbmSize ∧
     s.barredMem h offset session ide = false) ∧
    (let s : State := live
     let h : HalfId := .h0
     let offset : Nat := (0)
     s.key.powered = true ∧
     s.key.trans = none ∧
     s.val 0x1010 0x01 ≠ 2 ∧
     (s.servesMem h = false ∨ hbmSize ≤ offset)) ∧
    (let s : State := claimed
     let h : HalfId := .h0
     let offset : Nat := (0)
     let session : Option Nat := none
     let ide : Bool := false
     s.key.powered = true ∧
     s.key.trans = none ∧
     s.val 0x1010 0x01 ≠ 2 ∧
     s.servesMem h = true ∧
     offset < hbmSize ∧
     s.barredMem h offset session ide = true) := by decide +kernel

theorem witness_DeviceMemoryAccesses_DeviceMemoryReadsAnswerTheLine :
    (let s : State := com live
     let h : HalfId := .h0
     let offset : Nat := (0)
     let session : Option Nat := none
     let ide : Bool := false
     s.key.powered = true ∧
     s.key.trans = none ∧
     s.val 0x1010 0x01 ≠ 2 ∧
     s.servesMem h = true ∧
     offset < hbmSize ∧
     s.barredMem h (offset / 64 * 64) session ide = false ∧
     (s.dir h).length < dirSize ∧
     s.port.poisoned.contains (h, offset / 64) = false) ∧
    (let s : State := live
     let h : HalfId := .h0
     let offset : Nat := (0)
     s.key.powered = true ∧
     s.key.trans = none ∧
     s.val 0x1010 0x01 ≠ 2 ∧
     (s.servesMem h = false ∨ hbmSize ≤ offset / 64 * 64)) ∧
    (let s : State := claimed
     let h : HalfId := .h0
     let offset : Nat := (0)
     let session : Option Nat := none
     let ide : Bool := false
     s.key.powered = true ∧
     s.key.trans = none ∧
     s.val 0x1010 0x01 ≠ 2 ∧
     s.servesMem h = true ∧
     offset < hbmSize ∧
     s.barredMem h (offset / 64 * 64) session ide = true) ∧
    (let s : State := com retain
     s.key.powered = true ∧
     s.key.trans = none ∧
     s.val 0x1010 0x01 = 2 ∧
     s.val 0x1000 0x06 ≠ 2) := by decide +kernel

end Endpoint

namespace HostPort

def sess : Session := ⟨7, .doe, [1], true, true, none, 1⟩
/-- 0xA001.03 has no reset value that evaluates, so its entry is written out. -/
def clive : State := { com live with dict := (com live).dict ++ [(dkey 0 0xA001 3, 1)] }
def bytes (n : Nat) : List Byte := (List.range n).map (fun k => BitVec.ofNat 8 (k+1))
def snA : Snoop := ⟨.h0, 3, none, false, none⟩
def snR : Snoop := ⟨.h0, 5, none, false, some (9, none, false)⟩
def snC : Snoop := ⟨.h0, 3, some 1, true, none⟩
def c1 : State := sets { clive with ctxs := [ctx 1 3] } [(0,0x8001,1,3)]
def tkk : Ticket := ⟨3, .commitOnly 0x9010 0x04, none, none, 0, 10⟩

theorem witness_SnoopsAreAnswered_1 :
    (let s : State := { clive with port := { clive.port with snoops := [snA], dir0 := [3,4] } }
     let h : HalfId := .h0
     let line : Nat := (3)
     s.key.powered = true ∧
     s.port.snoops.any (fun x => x.half == h && x.line == line) = true ∧
     (∀ x ∈ s.port.snoops, x.half = h → x.line = line → x.reader = none) ∧
     line * 64 + 64 ≤ hbmSize) ∧
    (let s : State := { clive with port := { clive.port with snoops := [snR], dir0 := [5,4] } }
     let h : HalfId := .h0
     let line : Nat := (5)
     s.key.powered = true ∧
     let x : Snoop := snR
     let l : Nat := (9)
     let session : Option Nat := none
     let ide : Bool := false
     s.port.snoops.filter (fun x => x.half == h && x.line == line) = [x] ∧
     x.ctx = none ∧
     x.reader = some (l, session, ide) ∧
     s.servesMem h = true ∧
     l * 64 < hbmSize ∧
     l ≠ line ∧
     s.barredMem h (l * 64) session ide = false ∧
     s.port.poisoned.contains (h, l) = false ∧
     (s.dir h).length ≤ dirSize ∧
     line ∈ s.dir h) ∧
    (let s : State := { clive with port := { clive.port with snoops := [snA], dir0 := [3,4] } }
     let h : HalfId := .h0
     let line : Nat := (3)
     s.key.powered = true ∧
     s.port.snoops.any (fun x => x.half == h && x.line == line && !x.hostOwned) = true) ∧
    (let s : State := { c1 with port := { c1.port with snoops := [snC], dir0 := [3,4] } }
     let h : HalfId := .h0
     let line : Nat := (3)
     s.key.powered = true ∧
     let x : Snoop := snC
     let n : Nat := (1)
     let c : Ctx := ctx 1 3
     x ∈ s.port.snoops ∧
     x.half = h ∧
     x.line = line ∧
     x.hostOwned = true ∧
     x.ctx = some n ∧
     s.ctx n = some c ∧
     c.releasing = false) := by decide +kernel

theorem witness_SnoopsAreAnswered_2 :
    (let s : State := live
     s.key.powered = true ∧
     let addr : Nat := (1)
     s.port.cache.filter (fun l => l.addr == lineStart addr) = []) ∧
    (let s : State := { c1 with port := { c1.port with cache := [⟨.h0, 64, true, bytes 64⟩, ⟨.h1, 64, false, []⟩, ⟨.h1,128,false,bytes 64⟩] } }
     s.key.powered = true ∧
     let addr : Nat := (64)
     let l : CacheLine := ⟨.h0, 64, true, bytes 64⟩
     let m : List CacheLine := [⟨.h1, 64, false, []⟩]
     s.port.cache.filter (fun l => l.addr == lineStart addr) = l :: m) := by decide +kernel

theorem witness_DecodersAndConfiguration_1 :
    (let s : State := clive
     let h : HalfId := .h0
     s.key.powered = true ∧
     let base : Nat := (0)
     let ways : Nat := (1)
     s.fenced h = false ∧
     (s.half h).memActive = true ∧
     (s.fn (halfFn h)).tspLocked = false ∧
     s.val 0xA001 0x03 ≠ 0 ∧
     base % 2 ^ 28 = 0 ∧
     ways = 1) ∧
    (let s : State := clive
     let h : HalfId := .h0
     s.key.powered = true ∧
     let base : Nat := (0)
     let ways : Nat := (0)
     s.fenced h = false ∧
     (s.half h).memActive = true ∧
     (s.fn (halfFn h)).tspLocked = false ∧
     (ways ≠ 1 ∨ base % 2 ^ 28 ≠ 0)) ∧
    (let s : State := { clive with port := { clive.port with f1 := { FnState.cold with tspLocked := true, msix := [(2,7)] } } }
     let h : HalfId := .h0
     s.key.powered = true ∧
     s.flag 0xF000 0x02 0 = false ∧
     s.fenced h = false ∧
     (s.half h).phase ≠ .starting ∧
     let v : Word := (toWord (0))
     (s.fn (halfFn h)).tspLocked = true ∧
     ([CfgKind.writeBar v, .writeDecoder v, .writeMsix v]) ≠ []) ∧
    (let s : State := clive
     let h : HalfId := .h0
     s.key.powered = true ∧
     s.flag 0xF000 0x02 0 = false ∧
     s.fenced h = false ∧
     (s.half h).phase ≠ .starting ∧
     let bar : Nat := (2)
     let offset : Nat := (0)
     (msixWord (halfFn h) bar offset).any (fun k => decide (offset % 4 = 0 ∧ offset + 4 ≤ barSize (halfFn h) bar ∧ (s.fn (halfFn h)).tspLocked = false)) = true) := by decide +kernel

theorem witness_DecodersAndConfiguration_2 :
    (let s : State := { clive with port := { clive.port with f1 := { FnState.cold with tspLocked := true, msix := [(2,7)] } } }
     let h : HalfId := .h0
     s.key.powered = true ∧
     s.flag 0xF000 0x02 0 = false ∧
     s.fenced h = false ∧
     (s.half h).phase ≠ .starting ∧
     let bar : Nat := (2)
     let offset : Nat := (0)
     (msixWord (halfFn h) bar offset).any (fun k => decide (offset % 4 = 0 ∧ offset + 4 ≤ barSize (halfFn h) bar ∧ (s.fn (halfFn h)).tspLocked = true)) = true) ∧
    (let s : State := clive
     let h : HalfId := .h0
     s.key.powered = true ∧
     s.flag 0xF000 0x02 0 = false ∧
     s.fenced h = false ∧
     (s.half h).phase ≠ .starting ∧
     let bar : Nat := (2)
     let offset : Nat := (0)
     (msixWord (halfFn h) bar offset).any (fun k => decide (offset % 4 = 0 ∧ offset + 4 ≤ barSize (halfFn h) bar)) = true) ∧
    (let s : State := fen
     let h : HalfId := .h0
     s.key.powered = true ∧
     s.flag 0xF000 0x02 0 = false ∧
     s.fenced h = true) ∧
    (let s : State := { clive with half0 := starting }
     let h : HalfId := .h0
     s.key.powered = true ∧
     s.flag 0xF000 0x02 0 = false ∧
     s.fenced h = false ∧
     (s.half h).phase = .starting) := by decide +kernel

theorem witness_MctpAndStatusShadow_StatusShadow :
    (let s : State := clive
     s.key.powered = true ∧
     let offset : Nat := (0)
     offset % 4 = 0 ∧
     offset + 4 ≤ 0x1000) ∧
    (let s : State := clive
     s.key.powered = true ∧
     let offset : Nat := (0)
     offset % 8 = 0 ∧
     offset + 8 ≤ 0x1000) ∧
    (let s : State := clive
     s.key.powered = true ∧
     let n : Nat := (1)
     n ≤ 9 ∧
     s.shadowWord (0x010 + 4 * n) ≠ (toWord (s.shadowSource n)).toNat) := by decide +kernel

theorem witness_IdeAndTspEvents_1 :
    (let s : State := { live with sec := { live.sec with sessions := [sess] } }
     let via : Via := ⟨.doe, some 7⟩
     s.key.powered = true ∧
     via.path = .doe ∧
     s.secured via = true) ∧
    (let s : State := live
     let via : Via := doe
     s.key.powered = true ∧
     (via.path ≠ .doe ∨ s.secured via = false)) ∧
    (let s : State := { live with port := { live.port with idePending := [.io], ideFailed := [.io,.cacheMem] } }
     s.key.powered = true ∧
     s.port.idePending ≠ []) ∧
    (let s : State := sets { live with ctxs := [cctx 1 3, cctx 2 7, ctx 3 3], port := { live.port with ideKeys := [.io,.cacheMem] } } [(0,0x8001,1,3),(0,0x8002,1,7),(0,0x8003,1,3),(0,0xA002,1,3)]
     let stream : IdeStream := .io
     s.key.powered = true ∧
     stream ∈ s.port.ideKeys) := by decide +kernel

theorem witness_IdeAndTspEvents_2 :
    (let s : State := { live with sec := { live.sec with sessions := [sess] } }
     s.key.powered = true ∧
     let id : Nat := (7)
     let x : Session := sess
     let fn : Fn := .f1
     s.session id = some x ∧
     x.path = .doe ∧
     fn ≠ .f0 ∧
     (x.tspFn = none ∨ x.tspFn = some fn)) ∧
    (let s : State := { live with sec := { live.sec with sessions := [{sess with tspFn := some .f1}] } }
     s.key.powered = true ∧
     let id : Nat := (7)
     let x : Session := {sess with tspFn := some .f1}
     let fn : Fn := .f0
     let g : Fn := .f1
     s.session id = some x ∧
     x.tspFn = some g ∧
     g ≠ fn) := by decide +kernel

theorem witness_PortResets :
    (let s : State := live
     s.key.powered = true ∧
     let kind : HostResetKind := .perst
     (kind ≠ .perst ∨ (s.pendingOn 0x9010 0x04 0).isNone = true) ∧
     s.key.trans = none ∧
     s.val 0x1010 0x01 ≠ 2) ∧
    (let s : State := { live with svc := { live.svc with tickets := [tkk] } }
     s.key.powered = true ∧
     (s.pendingOn 0x9010 0x04 0).isSome = true) ∧
    (let s : State := live
     s.key.powered = true ∧
     let h : HalfId := .h0
     s.fenced h = false ∧
     s.key.trans = none ∧
     s.val 0x1010 0x01 ≠ 2) ∧
    (let s : State := com fen
     s.key.powered = true ∧
     let h : HalfId := .h0
     s.fenced h = true) := by decide +kernel

end HostPort

namespace Contexts

def sess : Session := ⟨7, .doe, [1], true, true, some .f1, 1⟩
def lock (s : State) : State := { s with sec := { s.sec with sessions := [sess] }, port := { s.port with f1 := { FnState.cold with tspLocked := true } } }

theorem witness_OpenMakesAContext :
    (let s : State := lock live
     let via : Via := doe
     let n : Nat := (1)
     let v : Word := (toWord (0))
     n ≤ 3071 ∧
     s.ctx n = none ∧
     v.toNat < 1024 ∧
     bitsOf v.toNat 4 4 = 0 ∧
     admits s via (0x8000 + n) 0x01 [low4 v stOpen] = true ∧
     let h := halfOf (bitsOf v.toNat 8 1)
     let conf := bitsOf v.toNat 9 1 == 1
     (conf = false ∨ (s.tspSession via h = true ∧ bitsOf (s.val 0x1002 0x03) 4 5 = 0)) ∧
     s.fenced h = false ∧
     s.runs h = true ∧
     s.retained = false ∧
     s.sec.entropyOk = true) ∧
    (let s : State := lock live
     let via : Via := doe
     let n : Nat := (1)
     let v : Word := (toWord (0x200))
     n ≤ 3071 ∧
     s.ctx n = none ∧
     v.toNat < 1024 ∧
     bitsOf v.toNat 4 4 = 0 ∧
     admits s via (0x8000 + n) 0x01 [low4 v stOpen] = true ∧
     let h := halfOf (bitsOf v.toNat 8 1)
     let conf := bitsOf v.toNat 9 1 == 1
     conf = true ∧
     s.tspSession via h = false) ∧
    (let s : State := fen
     let via : Via := doe
     let n : Nat := (1)
     let v : Word := (toWord (0))
     n ≤ 3071 ∧
     s.ctx n = none ∧
     v.toNat < 1024 ∧
     bitsOf v.toNat 4 4 = 0 ∧
     admits s via (0x8000 + n) 0x01 [low4 v stOpen] = true ∧
     let h := halfOf (bitsOf v.toNat 8 1)
     let conf := bitsOf v.toNat 9 1 == 1
     conf = false ∧
     s.fenced h = true) := by decide +kernel

theorem witness_LoadPlacesAProgram :
    (let s : State := sets (wc [ctx 1 1] []) [(0,0x7021,1,2)]
     let n : Nat := (1)
     let c : Ctx := ctx 1 1
     n ≤ 3071 ∧
     s.ctx n = some c ∧
     let via : Via := doe
     c.state = stOpen ∧
     c.releasing = false ∧
     s.ticketRoom = true ∧
     admits s via (0x8000 + n) 0x01 [s.stateWord n stLoaded] = true ∧
     s.probationBars n = false ∧
     s.companionStatus c = 0) ∧
    (let s : State := wc [cPl 0x2001] []
     let n : Nat := (1)
     let c : Ctx := cPl 0x2001
     n ≤ 3071 ∧
     s.ctx n = some c ∧
     s.key.powered = true ∧
     c.placing = true ∧
     c.placed = true ∧
     c.placeStatus ≠ 0) ∧
    (let s : State := wc [cPl 0] []
     let n : Nat := (1)
     let c : Ctx := cPl 0
     n ≤ 3071 ∧
     s.ctx n = some c ∧
     s.key.powered = true ∧
     c.placing = true ∧
     c.placed = true ∧
     c.placeStatus = 0) := by decide +kernel

theorem witness_RunHoldAndDone_RunBeginsOrResumesAStep :
    (let s : State := wc [ctx 1 2] []
     let via : Via := doe
     let n : Nat := (1)
     let c : Ctx := ctx 1 2
     n ≤ 3071 ∧
     s.ctx n = some c ∧
     [stLoaded, stHold, stDone].contains c.state = true ∧
     c.releasing = false ∧
     s.probationBars n = false ∧
     admits s via (0x8000 + n) 0x01 [s.stateWord n stRun] = true ∧
     s.key.trans = none ∧
     s.val 0x1010 0x01 = 0 ∧
     (c.state = stDone ∧ s.val64 (cidx n) 0x14 = 0 ∨ c.state ≠ stDone ∧ s.deviceReasons n = false) ∧
     s.copyDue c = false ∧
     c.phase = 0 ∧
     s.streaming n = false) ∧
    (let s : State := wc [cHoldP] []
     let via : Via := doe
     let n : Nat := (1)
     let c : Ctx := cHoldP
     n ≤ 3071 ∧
     s.ctx n = some c ∧
     [stLoaded, stHold, stDone].contains c.state = true ∧
     c.releasing = false ∧
     s.probationBars n = false ∧
     admits s via (0x8000 + n) 0x01 [s.stateWord n stRun] = true ∧
     s.key.trans = none ∧
     s.val 0x1010 0x01 = 0 ∧
     (c.state = stDone ∧ s.val64 (cidx n) 0x14 = 0 ∨ c.state ≠ stDone ∧ s.deviceReasons n = false) ∧
     s.copyDue c = false ∧
     c.phase ≠ 0 ∧
     (c.todo ≠ [] ∨ c.slots ≠ [])) ∧
    (let s : State := sets (wc [ctx 1 2] []) [(0,0x8001,2,0x20),(0,0x3032,1,1)]
     let via : Via := doe
     let n : Nat := (1)
     let c : Ctx := ctx 1 2
     n ≤ 3071 ∧
     s.ctx n = some c ∧
     [stLoaded, stHold, stDone].contains c.state = true ∧
     c.releasing = false ∧
     s.probationBars n = false ∧
     admits s via (0x8000 + n) 0x01 [s.stateWord n stRun] = true ∧
     s.key.trans = none ∧
     s.val 0x1010 0x01 = 0 ∧
     c.state ≠ stDone ∧
     s.deviceReasons n = true) := by decide +kernel

theorem witness_RunHoldAndDone_HoldAndDoneEndTheWork :
    (let s : State := wc [ctx 1 3] []
     let n : Nat := (1)
     let c : Ctx := ctx 1 3
     n ≤ 3071 ∧
     s.ctx n = some c ∧
     c.releasing = false ∧
     s.ticketRoom = true ∧
     c.state = stRun ∧
     c.inFlight = false) ∧
    (let s : State := wc [ctx 1 5] []
     let n : Nat := (1)
     let c : Ctx := ctx 1 5
     n ≤ 3071 ∧
     s.ctx n = some c ∧
     c.releasing = false ∧
     s.ticketRoom = true ∧
     (c.state = stSealing ∨ (c.state = stRun ∧ c.inFlight = true))) ∧
    (let s : State := wc [ctx 1 2] []
     let via : Via := doe
     let n : Nat := (1)
     let c : Ctx := ctx 1 2
     n ≤ 3071 ∧
     s.ctx n = some c ∧
     c.releasing = false ∧
     s.ticketRoom = true ∧
     (c.state = stLoaded ∨ c.state = stHold) ∧
     admits s via (0x8000 + n) 0x01 [s.stateWord n stDone] = true) ∧
    (let s : State := wc [ctx 1 3] []
     let via : Via := doe
     let n : Nat := (1)
     let c : Ctx := ctx 1 3
     n ≤ 3071 ∧
     s.ctx n = some c ∧
     c.releasing = false ∧
     s.ticketRoom = true ∧
     (c.state = stRun ∨ c.state = stSealing) ∧
     admits s via (0x8000 + n) 0x01 [s.stateWord n stDone] = true) := by decide +kernel

theorem witness_ReleaseLeavesNothing :
    (let s : State := sets (wc [ctx 1 1] []) [(0,0x7021,1,2)]
     let n : Nat := (1)
     let c : Ctx := ctx 1 1
     n ≤ 3071 ∧
     s.ctx n = some c ∧
     let via : Via := doe
     [stOpen, stLoaded, stHold, stDone, stFault].contains c.state = true ∧
     c.releasing = false ∧
     s.ticketRoom = true ∧
     (s.companions n).any (·.going) = false ∧
     admits s via (0x8000 + n) 0x01 [s.stateWord n stFree] = true) ∧
    (let s : State := sets (wc [ctx 1 1] []) [(0,0x7021,1,2)]
     let n : Nat := (1)
     let c : Ctx := ctx 1 1
     n ≤ 3071 ∧
     s.ctx n = some c ∧
     let via : Via := doe
     s.ticketRoom = true ∧
     admits s via (0x8000 + n) 0x2F [1] = true) ∧
    (let s : State := wc [{ ctx 1 1 with releasing := true }] []
     let n : Nat := (1)
     let c : Ctx := { ctx 1 1 with releasing := true }
     n ≤ 3071 ∧
     s.ctx n = some c ∧
     s.key.powered = true ∧
     c.releasing = true ∧
     c.inFlight = false) ∧
    (let s : State := sets (wc [ctx 1 1] []) [(0,0x7021,1,2)]
     let n : Nat := (1)
     let c : Ctx := ctx 1 1
     n ≤ 3071 ∧
     s.ctx n = some c ∧
     s.key.powered = true ∧
     (c.releasing = false ∨ c.inFlight = true)) := by decide +kernel

end Contexts

namespace Claims

def claimT (ws : List Word) : State := let s := wc [ctx 1 1] [(0,0x8001,0x30,0),(0,0x8001,0x31,2)]; { s with svc := { s.svc with tickets := [tk 9 (.store 0x8001 0x30 0 ws) none] }, hbm0 := [⟨3,7⟩,⟨2*granule+5,9⟩,⟨9*granule,9⟩] }
def ws1 : List Word := (List.range 16).map (fun k => if k = 0 then 0 else if k = 1 then 4 else 0)

theorem witness_ClaimsAreZeroedWhenGained :
    (let s : State := wc [ctx 1 1, ctx 2 1] [(0,0x8002,0x30,4),(0,0x8002,0x31,2)]
     let n : Nat := (1)
     let c : Ctx := ctx 1 1
     n ≤ 3071 ∧
     s.ctx n = some c ∧
     let via : Via := doe
     let e : Nat := (0)
     let v : Word := (toWord (0))
     e < 16 ∧
     c.state = stOpen ∧
     s.ticketRoom = true ∧
     let ws := (s.regsAt 0 (cidx n) 0x30 16).set e v
     let spans := spansOf (ws.map (·.toNat))
     admits s via (0x8000 + n) 0x30 ws = true ∧
     (∀ a ∈ spans, a.1 + a.2 ≤ 49152 ∧ (a.2 = 0 → a.1 = 0)) ∧
     allApart spans = true ∧
     (∀ x ∈ s.ctxs, x.half = c.half → x.n ≠ n → ∀ a ∈ spans, ∀ b ∈ spansOf (s.claimWords x.n), apart a b = true)) ∧
    (let s : State := { claimT ws1 with port := { (claimT ws1).port with dir0 := [2*granule/64] } }
     let n : Nat := (1)
     let c : Ctx := ctx 1 1
     n ≤ 3071 ∧
     s.ctx n = some c ∧
     let k : Ticket := tk 9 (.store 0x8001 0x30 0 ws1) none
     let ws : List Word := ws1
     s.key.powered = true ∧
     s.pendingOn (cidx n) 0x30 0 = some k ∧
     k.work = .store (cidx n) 0x30 0 ws ∧
     ws.length = 16 ∧
     s.gainedHeld c.half (s.claims n) (spansOf (ws.map (·.toNat))) ≠ []) ∧
    (let s : State := claimT ws1
     let n : Nat := (1)
     let c : Ctx := ctx 1 1
     n ≤ 3071 ∧
     s.ctx n = some c ∧
     let k : Ticket := tk 9 (.store 0x8001 0x30 0 ws1) none
     let ws : List Word := ws1
     s.key.powered = true ∧
     s.pendingOn (cidx n) 0x30 0 = some k ∧
     k.work = .store (cidx n) 0x30 0 ws ∧
     ws.length = 16 ∧
     s.gainedHeld c.half (s.claims n) (spansOf (ws.map (·.toNat))) = []) := by decide +kernel

theorem witness_ContextEventsAndStreams_1 :
    (let s : State := sets (wc [ctx 1 1] []) [(0,0x7021,1,2)]
     let n : Nat := (1)
     let c : Ctx := ctx 1 1
     n ≤ 3071 ∧
     s.ctx n = some c ∧
     let via : Via := doe
     let v : Word := (toWord (0))
     admits s via (0x8000 + n) 0x20 [v] = true) ∧
    (let s : State := sets (wc [ctx 1 4] []) [(0,0x8001,2,0x20),(0,0x3032,1,1)]
     let n : Nat := (1)
     let c : Ctx := ctx 1 4
     n ≤ 3071 ∧
     s.ctx n = some c ∧
     let via : Via := doe
     let v : Word := (toWord (1))
     s.val 0x3032 0x01 = n ∧
     admits s via 0x3032 0x02 [v] = true ∧
     c.state = stHold ∧
     s.hasReason n rNumerics = true) ∧
    (let s : State := wc [{ ctx 1 3 with phase := 1, producer := 5 }] [(0,0x8001,0x40,1),(0,0x8001,0x43,4),(0,0x8001,0x42,3),(0,0x8001,0x4E,1)]
     let n : Nat := (1)
     let c : Ctx := { ctx 1 3 with phase := 1, producer := 5 }
     n ≤ 3071 ∧
     s.ctx n = some c ∧
     s.key.powered = true ∧
     let value : BitVec 64 := 6
     s.streaming n = true ∧
     c.releasing = false ∧
     (c.going = true ∨ c.state = stHold) ∧
     let count := value.toNat % 2 ^ 63
     c.producer ≤ count ∧
     count - s.val64 (cidx n) 0x4C ≤ 2 ^ s.val (cidx n) 0x43 ∧
     (c.state ≠ stRun ∨ c.phase ≠ 0)) ∧
    (let s : State := wc [{ ctx 1 3 with producer := 5 }] [(0,0x8001,0x40,1),(0,0x8001,0x43,4),(0,0x8001,0x42,3),(0,0x8001,0x4E,1)]
     let n : Nat := (1)
     let c : Ctx := { ctx 1 3 with producer := 5 }
     n ≤ 3071 ∧
     s.ctx n = some c ∧
     s.key.powered = true ∧
     let value : BitVec 64 := 0
     s.streaming n = true ∧
     c.releasing = false ∧
     (c.going = true ∨ c.state = stHold) ∧
     let count := value.toNat % 2 ^ 63
     (count < c.producer ∨ 2 ^ s.val (cidx n) 0x43 < count - s.val64 (cidx n) 0x4C)) := by decide +kernel

theorem witness_ContextEventsAndStreams_2 :
    let s : State := wc [{ ctx 1 3 with producer := 5 }] [(0,0x8001,0x40,1),(0,0x8001,0x43,4),(0,0x8001,0x42,3),(0,0x8001,0x4E,1)]
    let n : Nat := (1)
    let c : Ctx := { ctx 1 3 with producer := 5 }
    n ≤ 3071 ∧
    s.ctx n = some c ∧
    s.key.powered = true ∧
    c.state = stRun ∧
    s.val (cidx n) 0x4E = 1 := by decide +kernel

theorem witness_StrandsIssueAndEnd :
    (let s : State := wc [cRunR] []
     s.key.powered = true ∧
     let unit : UnitWord := 50331903
     let c : Ctx := cRunR
     let u := unit.toNat
     let h := halfOf (u / 65536)
     s.runs h = true ∧
     s.awake = true ∧
     s.unitBusy u = false ∧
     tileCourse (u % 2 ^ 17) ∉ (s.half h).droop ∧
     (s.ctxs.map (·.n)).Nodup ∧
     c ∈ s.ctxs ∧
     c.half = h ∧
     ctxClass s c.n < 3 ∧
     (∀ k, k < 3 → 0 < s.classWeight h k) ∧
     s.issuable c u ≠ []) ∧
    (let s : State := wc [cRunI] []
     s.key.powered = true ∧
     let unit : UnitWord := 50331903
     s.unitBusy unit.toNat = true) ∧
    (let s : State := wc [cRunI] []
     s.key.powered = true ∧
     let n : Nat := (1)
     let k : Nat := (4)
     let c : Ctx := cRunI
     let x : Strand := st 4 (.engine 0) true
     s.ctx n = some c ∧
     c.slots.find? (fun y => y.id == k && y.issued) = some x ∧
     s.mayEnd n x = true) := by decide +kernel

end Claims

namespace Vectors

theorem witness_VectorsEnterAndRun_1 :
    (let s : State := f1 40 16 0 true
     let p : Nat := (0)
     s.key.powered = true ∧
     s.runs (halfOf (tileHalf p)) = true ∧
     let n : Nat := (1)
     let k : Nat := (0)
     (s.arriving p n k).any (fun v => decide ((s.tile p).ringHeld + vecEntries v ≤ 120)) = true) ∧
    (let s : State := wt (f1 40 16 0 true) (ring 0 (List.replicate 120 { vv 0 40 120 with ctx := 9}))
     let p : Nat := (0)
     s.key.powered = true ∧
     s.runs (halfOf (tileHalf p)) = true ∧
     let n : Nat := (1)
     let k : Nat := (0)
     (s.arriving p n k).any (fun v => decide (120 < (s.tile p).ringHeld + vecEntries v)) = true) ∧
    (let s : State := f1 40 16 0 true
     let p : Nat := (0)
     s.key.powered = true ∧
     s.runs (halfOf (tileHalf p)) = true ∧
     let n : Nat := (0)
     let k : Nat := (0)
     s.arriving p n k = none) ∧
    (let s : State := f1 40 16 0 true
     let p : Nat := (0)
     s.key.powered = true ∧
     s.runs (halfOf (tileHalf p)) = true ∧
     (s.nextReady p = none ∨ s.mayIssue p = false)) := by decide +kernel

theorem witness_VectorsEnterAndRun_2 :
    (let s : State := wt (f1 40 16 0 true) { ring 0 [vv 0 40 120] with outRing := List.replicate 17 (resultVec 1 ⟨0,0,0⟩ 0 [] 2048 false true) }
     let p : Nat := (0)
     s.key.powered = true ∧
     s.runs (halfOf (tileHalf p)) = true ∧
     let v : InVec := vv 0 40 120
     let c : Ctx := cc 40 16 [fs 4 0 0 3 true 0] 1
     let seat : Seat := ⟨0,0,0⟩
     let L : Layer := Lf 40 16 0
     s.nextReady p = some v ∧
     s.mayIssue p = true ∧
     s.inCadence p v.ctx = true ∧
     s.ctx v.ctx = some c ∧
     s.seat c (s.logicalOr p) = some seat ∧
     c.layers[v.layer]? = some L ∧
     (s.tile p).outRoom (L.seatBytes seat) = false) ∧
    (let s : State := wt (f1 40 16 0 true) (ring 0 [vv 0 40 120])
     let p : Nat := (0)
     s.key.powered = true ∧
     s.runs (halfOf (tileHalf p)) = true ∧
     let v : InVec := vv 0 40 120
     let c : Ctx := cc 40 16 [fs 4 0 0 3 true 0] 1
     let seat : Seat := ⟨0,0,0⟩
     let L : Layer := Lf 40 16 0
     s.nextReady p = some v ∧
     s.mayIssue p = true ∧
     s.inCadence p v.ctx = true ∧
     s.ctx v.ctx = some c ∧
     s.seat c (s.logicalOr p) = some seat ∧
     c.layers[v.layer]? = some L ∧
     (s.tile p).outRoom (L.seatBytes seat) = true) ∧
    (let s : State := { wc [cc 1056 600 [fs 4 0 0 3 true 0, fs 5 1 0 3 true 0] 1] calOk with tiles := [ring 1 [vv 0 32 255]] }
     let p : Nat := (1)
     s.key.powered = true ∧
     s.runs (halfOf (tileHalf p)) = true ∧
     let v : InVec := vv 0 32 255
     let c : Ctx := cc 1056 600 [fs 4 0 0 3 true 0, fs 5 1 0 3 true 0] 1
     let seat : Seat := ⟨0,0,1⟩
     let L : Layer := Lf 1056 600 0
     s.nextReady p = some v ∧
     s.mayIssue p = true ∧
     s.inCadence p v.ctx = true ∧
     s.ctx v.ctx = some c ∧
     s.seat c (s.logicalOr p) = some seat ∧
     c.layers[v.layer]? = some L ∧
     (s.tile p).outRoom (L.seatBytes seat) = true ∧
     (s.tile p).flight = [] ∧
     (s.tile p).partials = [] ∧
     seat.row ≠ 0 ∧
     vecRefused v = true) ∧
    (let s : State := { wc [cc 1056 600 [fs 4 0 0 3 true 0, fs 5 1 0 3 true 0] 1] calOk with tiles := [ring 1 [{vv 0 32 120 with codes := List.replicate 32 0}]] }
     let p : Nat := (1)
     s.key.powered = true ∧
     s.runs (halfOf (tileHalf p)) = true ∧
     let v : InVec := { vv 0 32 120 with codes := List.replicate 32 0 }
     let c : Ctx := cc 1056 600 [fs 4 0 0 3 true 0, fs 5 1 0 3 true 0] 1
     let seat : Seat := ⟨0,0,1⟩
     let L : Layer := Lf 1056 600 0
     s.nextReady p = some v ∧
     s.mayIssue p = true ∧
     s.inCadence p v.ctx = true ∧
     s.ctx v.ctx = some c ∧
     s.seat c (s.logicalOr p) = some seat ∧
     c.layers[v.layer]? = some L ∧
     (s.tile p).outRoom (L.seatBytes seat) = true ∧
     (s.tile p).flight = [] ∧
     (s.tile p).partials = [] ∧
     seat.row ≠ 0 ∧
     vecRefused v = false ∧
     (∀ e ∈ vecSlices v, activity (drive e v.groups (L.inRows seat.row)) = 0)) := by decide +kernel

end Vectors

namespace Checks

def flt (bad : Bool) (p : Nat) : State := wt (f1 40 16 1 true) { ring p [] with flight := [{ vec := vv 0 40 120, sums := [[]], bad := [bad], suspect := false }] }
def pv (vec row : Nat) : PartialVec := ⟨1, vec, row, some (List.replicate 512 f32One), false⟩
def cc2 : Ctx := { cc 2000 600 [fs 4 0 0 3 true 0, fs 5 1 0 3 true 0] 1 with tiles := [0,1,2,3] }
def mo (l : List PartialVec) (t : Tile) : State := { wc [cc2] calOk with tiles := [t], mortar := [⟨0, pv 0 1⟩] }

theorem witness_ChecksPartialsAndSets_1 :
    (let s : State := flt true 0
     let p : Nat := (0)
     s.key.powered = true ∧
     let f : Flight := { vec := vv 0 40 120, sums := [[]], bad := [true], suspect := false }
     let c : Ctx := cc 40 16 [fs 4 0 0 3 true 1] 1
     let seat : Seat := ⟨0,0,0⟩
     let L : Layer := Lf 40 16 0
     (s.tile p).flight.find? (fun f => f.bad.any id) = some f ∧
     s.inCadence p f.vec.ctx = true ∧
     s.ctx f.vec.ctx = some c ∧
     s.seat c (s.logicalOr p) = some seat ∧
     c.layers[f.vec.layer]? = some L) ∧
    (let s : State := mo [] { ring 0 [] with partials := (List.range 8).map (fun k => pv (k+1) 1) }
     let p : Nat := (0)
     s.key.powered = true ∧
     let n : Nat := (1)
     let vec : Nat := (0)
     let row : Nat := (1)
     let x : MortarVec := ⟨0, pv 0 1⟩
     row ≠ 0 ∧
     s.runs (halfOf (tileHalf p)) = true ∧
     (s.tile p).flight = [] ∧
     s.mortar.find? (fun x => x.finisher == s.logicalOr p && x.vec.ctx == n && x.vec.vec == vec && x.vec.row == row) = some x ∧
     8 ≤ ((s.tile p).partials.filter (fun x => x.row != 0)).length) ∧
    (let s : State := mo [] (ring 0 [])
     let p : Nat := (0)
     s.key.powered = true ∧
     let n : Nat := (1)
     let vec : Nat := (0)
     let row : Nat := (1)
     let x : MortarVec := ⟨0, pv 0 1⟩
     row ≠ 0 ∧
     s.runs (halfOf (tileHalf p)) = true ∧
     (s.tile p).flight = [] ∧
     s.mortar.find? (fun x => x.finisher == s.logicalOr p && x.vec.ctx == n && x.vec.vec == vec && x.vec.row == row) = some x ∧
     ((s.tile p).partials.filter (fun x => x.row != 0)).length < 8 ∧
     (s.tile p).partials.find? (fun x => x.row == 0) = none) ∧
    (let s : State := mo [] { ring 0 [] with partials := [pv 0 0] }
     let p : Nat := (0)
     s.key.powered = true ∧
     let n : Nat := (1)
     let vec : Nat := (0)
     let row : Nat := (1)
     let x : MortarVec := ⟨0, pv 0 1⟩
     row ≠ 0 ∧
     s.runs (halfOf (tileHalf p)) = true ∧
     (s.tile p).flight = [] ∧
     s.mortar.find? (fun x => x.finisher == s.logicalOr p && x.vec.ctx == n && x.vec.vec == vec && x.vec.row == row) = some x ∧
     ((s.tile p).partials.filter (fun x => x.row != 0)).length < 8 ∧
     let c : Ctx := cc2
     let seat : Seat := ⟨0,0,0⟩
     let L : Layer := Lf 2000 600 0
     ((s.tile p).partials.find? (fun x => x.row == 0)).any (fun own => decide (own.ctx = n ∧ own.vec = vec ∧ s.ctx n = some c ∧ s.seat c (s.logicalOr p) = some seat ∧ c.layers[seat.layer]? = some L ∧ (s.tile p).outRoom (ringBytes L.format) = true)) = true) := by decide +kernel

theorem witness_ChecksPartialsAndSets_2 :
    (let s : State := wt (f1 40 16 0 true) { ring 0 [] with outRing := [resultVec 1 ⟨0,0,0⟩ 0 [1,2] 272 false false] }
     let p : Nat := (0)
     s.key.powered = true ∧
     let v : OutVec := resultVec 1 ⟨0,0,0⟩ 0 [1,2] 272 false false
     let rest : List OutVec := []
     (s.tile p).outRing = v :: rest) ∧
    (let s : State := sets { live with tiles := [{ ring 0 [] with dirty := true }] } [(setUnit 0 1, 0x2010, 5, 77), (groupUnit 0 3 1, 0x2011, 9, 66)]
     let p : Nat := (0)
     s.key.powered = true ∧
     s.tileBusy p = false ∧
     (s.tile p).dirty = true) ∧
    (let s : State := flt true 0
     let p : Nat := (0)
     s.key.powered = true ∧
     s.tileBusy p = true) ∧
    (let s : State := flt true 0
     let p : Nat := (0)
     s.key.powered = true ∧
     s.mayCalibrate p = true) := by decide +kernel

theorem witness_ChecksPartialsAndSets_3 :
    let s : State := { sets live [(0,0x2012,2,1)] with tiles := [{ring 0 [] with calProduct := some 0}] }
    let p : Nat := (0)
    s.key.powered = true ∧
    s.mayCalibrate p = false := by decide +kernel

theorem witness_RowsAreWrittenAndCounted :
    (let s : State := live
     let p : Nat := (0)
     let row : Nat := (0)
     let targets : List (Nat × Int) := []
     let meas : RowMeas := meas0
     s.key.powered = true ∧
     row < 1024 ∧
     let ws := ((s.tile p).changePlan row targets (fun _ => true)).items.map (fun e => (s.tile p).writeWeight row e.1 e.2.1 e.2.2 meas)
     let cols := missed ws meas
     s.rewriteFree p = true ∧
     cols = []) ∧
    (let s : State := live
     let p : Nat := (0)
     let row : Nat := (0)
     let targets : List (Nat × Int) := []
     let meas : RowMeas := ⟨[],[0,1,2,3],[]⟩
     s.key.powered = true ∧
     row < 1024 ∧
     let ws := ((s.tile p).changePlan row targets (fun _ => true)).items.map (fun e => (s.tile p).writeWeight row e.1 e.2.1 e.2.2 meas)
     let cols := missed ws meas
     let before := lookup (s.tile p).failedRows row
     s.rewriteFree p = true ∧
     cols ≠ [] ∧
     before = none) ∧
    (let s : State := wt live { ring 0 [] with failedRows := [(3,[2])] }
     let p : Nat := (0)
     let row : Nat := (3)
     let targets : List (Nat × Int) := []
     let meas : RowMeas := ⟨[],[0,1,2,3],[]⟩
     s.key.powered = true ∧
     row < 1024 ∧
     let ws := ((s.tile p).changePlan row targets (fun _ => true)).items.map (fun e => (s.tile p).writeWeight row e.1 e.2.1 e.2.2 meas)
     let cols := missed ws meas
     let before := lookup (s.tile p).failedRows row
     s.rewriteFree p = true ∧
     cols ≠ [] ∧
     before ≠ none) ∧
    (let s : State := f1 40 16 0 true
     let p : Nat := (0)
     let row : Nat := (0)
     s.key.powered = true ∧
     row < 1024 ∧
     s.rewriteFree p = false) := by decide +kernel

end Checks

namespace Calibration

def w1 (step scope tile : Nat) : Nat := step * 2^28 + scope * 2^26 + tile
def calS (i st w : Nat) (s : State) : State := sets { s with half0 := { s.half0 with calWord := w, calZero := [] } } [(0,i,2,st),(0,0x2012,2,1),(0,0x2012,3,1)]
def ctk (w : Nat) (i : Nat) : Ticket := tk 9 (.action i 1 0) none
def sw (o : Option (Nat × Nat)) : Tile := { Tile.blank 0 with swapDue := [⟨3, 2, o⟩] }

theorem witness_CalibrationCommandsBegin_1 :
    (let s : State := live
     let via : Via := doe
     let h : HalfId := .h0
     let value : Word := (toWord (0))
     let i := calIndex h
     let w := fun k => (calWordOf value k).toNat
     let ready := fun k => admits s via i 0x01 [calWordOf value k] = true
     s.ticketRoom = true ∧
     ready 1 ∧
     s.pendingOn i 0x01 0 = none ∧
     s.scopeTiles h (w 1) ≠ []) ∧
    (let s : State := { live with fabric := { live.fabric with unusable := List.range 34 } }
     let via : Via := doe
     let h : HalfId := .h0
     let value : Word := (toWord (0))
     let i := calIndex h
     let w := fun k => (calWordOf value k).toNat
     let ready := fun k => admits s via i 0x01 [calWordOf value k] = true
     s.ticketRoom = true ∧
     ready 1 ∧
     s.pendingOn i 0x01 0 = none ∧
     s.scopeTiles h (w 1) = []) ∧
    (let s : State := calS 0x2000 2 (w1 1 0 0) live
     let via : Via := doe
     let h : HalfId := .h0
     let value : Word := (toWord (0))
     let i := calIndex h
     let w := fun k => (calWordOf value k).toNat
     let ready := fun k => admits s via i 0x01 [calWordOf value k] = true
     s.ticketRoom = true ∧
     ready 2 ∧
     s.val i 0x02 = 2 ∧
     w 2 % 2 ^ 16 = (s.half h).calWord % 2 ^ 16 ∧
     calScope (w 2) = calScope (s.half h).calWord) ∧
    (let s : State := live
     let via : Via := doe
     let h : HalfId := .h0
     let value : Word := (toWord (0))
     let i := calIndex h
     let ready := fun k => admits s via i 0x01 [calWordOf value k] = true
     s.ticketRoom = true ∧
     ready 2 ∧
     s.val i 0x02 ≠ 2) := by decide +kernel

theorem witness_CalibrationCommandsBegin_2 :
    (let s : State := live
     let via : Via := doe
     let h : HalfId := .h0
     let value : Word := (toWord (0))
     let i := calIndex h
     let w := fun k => (calWordOf value k).toNat
     let ready := fun k => admits s via i 0x01 [calWordOf value k] = true
     s.ticketRoom = true ∧
     ready 4 ∧
     s.pendingOn i 0x01 0 = none ∧
     s.scopeTiles h (w 4) ≠ []) ∧
    (let s : State := calS 0x2000 2 (w1 1 0 0) live
     let via : Via := doe
     let h : HalfId := .h0
     let value : Word := (toWord (0))
     let i := calIndex h
     let ready := fun k => admits s via i 0x01 [calWordOf value k] = true
     s.ticketRoom = true ∧
     ready 3 ∧
     s.val i 0x02 ≠ 0) ∧
    (let s : State := live
     let via : Via := doe
     let h : HalfId := .h0
     let value : Word := (toWord (0))
     let i := calIndex h
     let ready := fun k => admits s via i 0x01 [calWordOf value k] = true
     s.ticketRoom = true ∧
     ready 3 ∧
     s.val i 0x02 = 0) := by decide +kernel

theorem witness_CalibrationEndsAndMonitors_1 :
    (let s : State := withT (ctk 0 0x2000) (calS 0x2000 1 (w1 1 0 0) live)
     s.key.powered = true ∧
     let h : HalfId := .h0
     s.calMayEnd h = true ∧
     let i := calIndex h
     s.val i 0x02 = 1) ∧
    (let s : State := withT (ctk 0 0x2000) (calS 0x2000 3 (w1 1 0 0) live)
     s.key.powered = true ∧
     let h : HalfId := .h0
     s.calMayEnd h = true ∧
     let i := calIndex h
     (s.val i 0x02 = 3 ∨ s.val i 0x02 = 4)) ∧
    (let s : State := calS 0x2000 2 (w1 1 0 0) live
     s.key.powered = true ∧
     let h : HalfId := .h0
     s.val (calIndex h) 0x02 = 2) ∧
    (let s : State := { cst 0 1 live with tiles := [sw none] }
     s.key.powered = true ∧
     let p : Nat := (0)
     let g : Nat := (3)
     ((s.tile p).swapDue.find? (fun e => e.group == g)).any (fun e => decide (g < 32 ∧ s.swapOpen e = true ∧ s.rewriteFree p = true)) = true) := by decide +kernel

theorem witness_CalibrationEndsAndMonitors_2 :
    (let s : State := { cst 0 1 (wc [ctx 1 3] []) with tiles := [sw (some (1,1))] }
     s.key.powered = true ∧
     let p : Nat := (0)
     let g : Nat := (3)
     ((s.tile p).swapDue.find? (fun e => e.group == g)).any (fun e => decide (g < 32 ∧ (s.swapOpen e = false ∨ s.rewriteFree p = false))) = true) ∧
    (let s : State := cst 0 1 live
     s.key.powered = true ∧
     let p : Nat := (0)
     s.runs (halfOf (tileHalf p)) = true ∧
     s.gap p = true ∧
     s.tileRole p ≤ 2 ∧
     s.inSanitize p = false) ∧
    (let s : State := cst 0 1 live
     s.key.powered = true ∧
     let p : Nat := (0)
     let bit : Nat := (0)
     bit ≤ 4 ∧
     (s.calState p = 1 ∨ s.calState p = 2)) ∧
    (let s : State := cst 0 1 live
     s.key.powered = true ∧
     let p : Nat := (0)
     s.calState p ≠ 4) := by decide +kernel

theorem witness_CalibrationEndsAndMonitors_3 :
    (let s : State := cst 32 1 (cst 0 4 (wc [{ ctx 1 3 with tiles := [0] }] []))
     s.key.powered = true ∧
     let p : Nat := (0)
     let l : Nat := (0)
     let q : Nat := (32)
     s.calState p = 4 ∧
     s.fabric.logical p = some l ∧
     s.relocationSpare l = some q ∧
     s.mayRelocate p l = true) ∧
    (let s : State := cst 32 1 (cst 0 4 live)
     s.key.powered = true ∧
     let p : Nat := (0)
     let l : Nat := (0)
     let q : Nat := (32)
     s.calState p = 4 ∧
     s.fabric.logical p = some l ∧
     s.relocationSpare l = some q ∧
     s.mayRelocate p l = false) ∧
    (let s : State := cst 0 1 live
     s.key.powered = true ∧
     let p : Nat := (0)
     s.rewriteFree p = true ∧
     s.tileRole p ≤ 2) := by decide +kernel

end Calibration

namespace Calibration2

theorem witness_CalibrationEndsAndMonitors :
    let s : State := { live with tiles := [{ Tile.blank 0 with inPass := true }] }
    s.key.powered = true ∧
    let p : Nat := 0
    s.rewriteFree p = false := by decide +kernel

end Calibration2

namespace Positions

def fr (spoke dest src cls seq hops : Nat) : Frame := ⟨.h0, spoke, dest, src, cls, 1, hops, 4, false, false, true, seq, 0, 0, 0, 0, 0, 0, [1,2], true, true⟩
def keys (s : State) : State := { s with sec := { s.sec with pk0 := ⟨none, some ⟨4, [], true⟩, none⟩ } }
def en (l : List (Nat×Nat×Nat×Nat)) : State := sets (keys live) ([(0,0x1002,1,0xFFFF),(0,0x1002,3,0xB),(0,0x6000,1,5),(0,0x6003,1,3)] ++ l)
def sp (n : Nat) (q r : List Frame) : Spoke := { Spoke.fresh .h0 n with queue := q, replay := r, linkKey := true }
def f0 := fr 2 5 9 0 7 5
def base : State := en [(2,0x6003,2,2),(3,0x6003,2,2),(100,0x6002,3,3 + 256*4),(101,0x6002,3,6 + 256*7)]
def lane0 : Lane := ⟨.h0, 9, 1, 7, [], false⟩

theorem witness_SpokesAndPositions_SpokesTrain_1 :
    (let s : State := en [(3,0x6003,2,1)]
     let h : HalfId := .h0
     let n : Nat := (3)
     n ≤ 16 ∧
     s.key.powered = true ∧
     s.mayTrain h n = true ∧
     s.linkState h n = lkTraining) ∧
    (let s : State := en [(3,0x6003,2,4)]
     let h : HalfId := .h0
     let n : Nat := (3)
     n ≤ 16 ∧
     s.key.powered = true ∧
     s.mayTrain h n = true ∧
     lkFailed ≤ s.linkState h n) ∧
    (let s : State := { en [(3,0x6003,2,2),(2,0x6003,2,2)] with spokes := [sp 3 [fr 2 9 1 0 0 5] [fr 2 8 1 0 0 5]] }
     let h : HalfId := .h0
     let n : Nat := (3)
     n ≤ 16 ∧
     s.key.powered = true ∧
     s.mayTrain h n = true ∧
     s.linkUp h n = true) ∧
    (let s : State := en []
     let h : HalfId := .h0
     let n : Nat := (3)
     n ≤ 16 ∧
     let key := spokeKey h n
     let via : Via := doe
     let value : Word := (toWord (0))
     s.val 0x6003 0x01 = key ∧
     admits s via 0x6003 0x0C [low2 value 1] = true ∧
     value.toNat < 4) := by decide +kernel

theorem witness_SpokesAndPositions_SpokesTrain_2 :
    (let s : State := en [(0,0x1002,4,0xFFFF)]
     let h : HalfId := .h0
     let n : Nat := (3)
     n ≤ 16 ∧
     let key := spokeKey h n
     let via : Via := doe
     let value : Word := (toWord (0))
     s.val 0x6003 0x01 = key ∧
     admits s via 0x6003 0x0C [low2 value 2] = true ∧
     value.toNat < 4 ∧
     s.spokeEnabled h n = true) ∧
    (let s : State := sets (en [(0,0x1002,4,0xFFFF)]) [(0,0x1002,1,0)]
     let h : HalfId := .h0
     let n : Nat := (3)
     n ≤ 16 ∧
     let key := spokeKey h n
     let via : Via := doe
     let value : Word := (toWord (0))
     s.val 0x6003 0x01 = key ∧
     admits s via 0x6003 0x0C [low2 value 2] = true ∧
     value.toNat < 4 ∧
     s.spokeEnabled h n = false) ∧
    (let s : State := en []
     let h : HalfId := .h0
     let n : Nat := (3)
     n ≤ 16 ∧
     let key := spokeKey h n
     let via : Via := doe
     let value : Word := (toWord (0))
     s.val 0x6003 0x01 = key ∧
     (findObj 0x6003).any (fun o => decide (s.key.powered = true ∧ s.mute via.path = false ∧ value.toNat < 4 ∧ (s.unstageOther via.path 0x6003 0x0C).entryStatus via o 0x6003 0x0C .write [low2 value 2] = 0x4001)) = true) ∧
    (let s : State := en [(0,0x1002,4,0xFFFF),(3,0x6003,2,2)]
     let h : HalfId := .h0
     let n : Nat := (3)
     n ≤ 16 ∧
     let key := spokeKey h n
     let via : Via := doe
     let value : Word := (toWord (0))
     s.val 0x6003 0x01 = key ∧
     admits s via 0x6003 0x0C [low2 value 3] = true ∧
     value.toNat < 4 ∧
     s.spokeEnabled h n = true ∧
     s.linkUp h n = true) := by decide +kernel

theorem witness_SpokesAndPositions_PositionsAreWritten :
    (let s : State := live
     let via : Via := doe
     let h : HalfId := .h0
     let value : Word := (toWord (16384))
     presents s via (hubIndex h) 0x01 [value] = true ∧
     value.toNat < 65536 ∧
     16383 < value.toNat ∧
     value.toNat ≠ 0xFFFF) ∧
    (let s : State := sets { live with ctxs := [ctx 1 3] } [(0,0x8001,1,3)]
     let via : Via := doe
     let h : HalfId := .h0
     let value : Word := (toWord (0))
     let busy := (s.ctxsOf h).any (fun n => [stRun, stHold, stSealing].contains (s.ctxState n))
     admits s via (hubIndex h) 0x01 [value] = true ∧
     busy = true) ∧
    (let s : State := live
     let via : Via := doe
     let h : HalfId := .h0
     let value : Word := (toWord (0))
     let busy := (s.ctxsOf h).any (fun n => [stRun, stHold, stSealing].contains (s.ctxState n))
     admits s via (hubIndex h) 0x01 [value] = true ∧
     busy = false ∧
     s.ticketRoom = true) := by decide +kernel

theorem witness_FramesAreRouted_1 :
    (let s : State := base
     let h : HalfId := .h0
     s.key.powered = true ∧
     s.runs h = true ∧
     let f : Frame := { f0 with crcOk := false }
     f.half = h ∧
     s.linkUp h f.spoke = true ∧
     f.crcOk = false) ∧
    (let s : State := base
     let h : HalfId := .h0
     s.key.powered = true ∧
     s.runs h = true ∧
     let f : Frame := { f0 with cls := 12 }
     f.half = h ∧
     s.linkUp h f.spoke = true ∧
     f.crcOk = true ∧
     9 ≤ f.cls) := by decide +kernel

theorem witness_FramesAreRouted_2 :
    (let s : State := base
     let h : HalfId := .h0
     s.key.powered = true ∧
     s.runs h = true ∧
     let f : Frame := f0
     f.half = h ∧
     s.linkUp h f.spoke = true ∧
     f.crcOk = true ∧
     f.cls < 9 ∧
     f.cls ≠ 7 ∧
     s.position h ≠ unassigned ∧
     f.src ≠ s.position h ∧
     f.neighbour = false ∧
     f.dest = s.position h ∧
     f.tagOk = true ∧
     s.keyHeld h f = true ∧
     let l := s.lanes.find? (fun x => x.half == h && x.src == f.src && x.vc == f.vc)
     l = none) ∧
    (let s : State := { base with lanes := [lane0] }
     let h : HalfId := .h0
     s.key.powered = true ∧
     s.runs h = true ∧
     let f : Frame := f0
     f.half = h ∧
     s.linkUp h f.spoke = true ∧
     f.crcOk = true ∧
     f.cls < 9 ∧
     f.cls ≠ 7 ∧
     s.position h ≠ unassigned ∧
     f.src ≠ s.position h ∧
     f.neighbour = false ∧
     f.dest = s.position h ∧
     f.tagOk = true ∧
     s.keyHeld h f = true ∧
     let l := s.lanes.find? (fun x => x.half == h && x.src == f.src && x.vc == f.vc)
     (l).any (fun x => decide (x.resume = false ∧ x.next = f.seq ∧ x.early = [])) = true) := by decide +kernel

theorem witness_FramesAreRouted_3 :
    (let s : State := { base with lanes := [lane0] }
     let h : HalfId := .h0
     s.key.powered = true ∧
     s.runs h = true ∧
     let f : Frame := fr 2 5 9 0 6 5
     f.half = h ∧
     s.linkUp h f.spoke = true ∧
     f.crcOk = true ∧
     f.cls < 9 ∧
     f.cls ≠ 7 ∧
     s.position h ≠ unassigned ∧
     f.src ≠ s.position h ∧
     f.neighbour = false ∧
     f.dest = s.position h ∧
     f.tagOk = true ∧
     s.keyHeld h f = true ∧
     let l := s.lanes.find? (fun x => x.half == h && x.src == f.src && x.vc == f.vc)
     (l).any (fun x => decide (x.resume = false ∧ 32768 ≤ (f.seq + 65536 - x.next) % 65536)) = true) ∧
    (let s : State := base
     let h : HalfId := .h0
     s.key.powered = true ∧
     s.runs h = true ∧
     let f : Frame := fr 2 100 9 0 7 1
     f.half = h ∧
     s.linkUp h f.spoke = true ∧
     f.crcOk = true ∧
     f.cls < 9 ∧
     f.cls ≠ 7 ∧
     s.position h ≠ unassigned ∧
     f.src ≠ s.position h ∧
     f.neighbour = false ∧
     f.dest ≠ s.position h ∧
     (s.spoke h f.spoke).conflict = false ∧
     f.hops ≤ 1) := by decide +kernel

theorem witness_FramesAreRouted_4 :
    (let s : State := base
     let h : HalfId := .h0
     s.key.powered = true ∧
     s.runs h = true ∧
     let f : Frame := fr 2 100 9 0 7 5
     f.half = h ∧
     s.linkUp h f.spoke = true ∧
     f.crcOk = true ∧
     f.cls < 9 ∧
     f.cls ≠ 7 ∧
     s.position h ≠ unassigned ∧
     f.src ≠ s.position h ∧
     f.neighbour = false ∧
     f.dest ≠ s.position h ∧
     (s.spoke h f.spoke).conflict = false ∧
     let q : HalfId × Nat := (.h0, 3)
     1 < f.hops ∧
     s.route h f.dest % 32 ≠ 30 ∧
     s.portSpoke h (s.route h f.dest % 32) = some q ∧
     (s.spoke q.1 q.2).queue = [] ∧
     0 < (s.spoke q.1 q.2).credits.getD f.vc 0 ∧
     replayBytes (s.spoke q.1 q.2).replay + frameBytes f ≤ 524288) ∧
    (let s : State := base
     let h : HalfId := .h0
     s.key.powered = true ∧
     s.runs h = true ∧
     let f : Frame := fr 2 101 9 0 7 5
     f.half = h ∧
     s.linkUp h f.spoke = true ∧
     f.crcOk = true ∧
     f.cls < 9 ∧
     f.cls ≠ 7 ∧
     s.position h ≠ unassigned ∧
     f.src ≠ s.position h ∧
     f.neighbour = false ∧
     f.dest ≠ s.position h ∧
     (s.spoke h f.spoke).conflict = false ∧
     1 < f.hops ∧
     s.route h f.dest % 32 ≠ 30 ∧
     s.route h f.dest / 256 % 32 ≠ 30 ∧
     s.portSpoke h (s.route h f.dest % 32) = none ∧
     s.portSpoke h (s.route h f.dest / 256 % 32) = none) := by decide +kernel

theorem witness_FramesAreRouted_5 :
    (let s : State := { base with lanes := [{lane0 with early := [fr 2 5 9 0 9 5]}] }
     let h : HalfId := .h0
     s.key.powered = true ∧
     s.runs h = true ∧
     let src : Nat := (9)
     let vc : Nat := (1)
     (s.lanes.find? (fun x => x.half == h && x.src == src && x.vc == vc)).any (fun l => decide (l.early ≠ [])) = true) ∧
    (let s : State := base
     let h : HalfId := .h0
     s.key.powered = true ∧
     s.runs h = true ∧
     let n : Nat := (2)
     s.linkUp h n = true) := by decide +kernel

theorem witness_FramesAreRouted_6 :
    let s : State := base
    let h : HalfId := .h0
    s.key.powered = true ∧
    s.runs h = true ∧
    let n : Nat := (0)
    let vc : Nat := (0)
    vc < 4 ∧
    (s.spoke h n).queue = [] := by decide +kernel

end Positions

namespace Exchanges

def L0 : Layer := ⟨0,0,0,4,4,1,2,0,1,0,0,4,0,0,0,0,0,0,0,0,0,0,0,0,true⟩
def ten (id : Nat) : Tensor := { id := id, grad := false, format := 1, rows := 1, cols := 4, raw := [], pre := [], peak := [], codes := (List.range 4).map (fun k => (k, k % 16)), scales := [(0,120)], coarse := f32One, mRun := 0, sat := 0, under := 0, invalid := 0, blocks := 0, wide := false, rescaled := false, reshifted := false, parts := [], awaits := 0, ready := true }
def ex (topK : Bool) : Exchange := { group := 2, topK := topK, kshift := 4, data := [5, 6], norm := [5, 6], links := [(2, 6, false), (1, 6, true)], sent := [], past := [], held := [], retracted := [], seals := [], sealed := [], refused := [], stopped := [], gathered := [], partials := [], sealedAt := 0 }
def cx (st ph : Nat) (x : Exchange) : Ctx := { ctx 1 st with phase := ph, layers := [L0], tensors := [ten 1, ten 2], dW := [(0, f32One)], dWDone := [0], exchange := some x }
def wc (c : Ctx) : State := sets { live with ctxs := [c] } [(0,0x8001,1,c.state),(0,0x8001,3,0),(0,0x6000,1,5),(1,0x5010,1,1)]
def kk : Commit := ⟨1, [], true, none, false⟩
def it (src step cls item at' : Nat) (d : List Byte) : Item := ⟨src, step, cls, item, at', d⟩

theorem witness_ExchangesSend_1 :
    (let s : State := wc (cx 3 2 (ex false))
     let n : Nat := (1)
     let c : Ctx := cx 3 2 (ex false)
     n ≤ 3071 ∧
     s.key.powered = true ∧
     s.ctx n = some c ∧
     let b : Nat := (0)
     let x : Exchange := ex false
     c.going = true ∧
     s.trains n = true ∧
     c.ownSeal = false ∧
     c.exchange = some x ∧
     c.phase = 2 ∧
     b < bucketCount (gradLength c) ∧
     c.buckets.contains b = false ∧
     c.bucketReady b = true ∧
     s.heldIn c.half (s.residualSpans c) = []) ∧
    (let s : State := wc (cx 3 2 (ex false))
     let n : Nat := (1)
     let c : Ctx := cx 3 2 (ex false)
     n ≤ 3071 ∧
     s.key.powered = true ∧
     s.ctx n = some c ∧
     let link : Nat := (0)
     let id : Nat := (2)
     let peer : Nat := (6)
     let x : Exchange := ex false
     let w : Tensor := ten 2
     c.exchange = some x ∧
     x.links[link]? = some (id, peer, false) ∧
     c.linkSource id = some w ∧
     c.going = true ∧
     c.ownSeal = false ∧
     x.stopped.contains (peer, s.stepOf n) = false ∧
     x.sent.any (fun i => i.cls == 1 && i.item == link && i.step == s.stepOf n) = false) ∧
    (let s : State := wc ({ cx 5 2 (ex false) with exchange := none })
     let n : Nat := (1)
     let c : Ctx := { cx 5 2 (ex false) with exchange := none }
     n ≤ 3071 ∧
     s.key.powered = true ∧
     s.ctx n = some c ∧
     c.maySeal = true ∧
     s.heldIn c.half (s.ledgerSpans c) = [] ∧
     let left := match c.exchange with | some x => s.sealsLeft c x | none => []
     let leaves := fun e => match c.exchange with | some x => s.mayLeave c x e | none => false
     left.all leaves = true ∧
     (c.exchange.isSome = true → s.trains n = true → leaves (s.position c.half, 2) = true)) ∧
    (let s : State := wc (cx 5 2 (ex false))
     let n : Nat := (1)
     let c : Ctx := cx 5 2 (ex false)
     n ≤ 3071 ∧
     s.key.powered = true ∧
     s.ctx n = some c ∧
     c.maySeal = true ∧
     s.heldIn c.half (s.ledgerSpans c) = [] ∧
     let left := match c.exchange with | some x => s.sealsLeft c x | none => []
     let leaves := fun e => match c.exchange with | some x => s.mayLeave c x e | none => false
     (c.exchange).any (fun x => decide (left.all leaves = false)) = true) := by decide +kernel

theorem witness_ExchangesSend_2 :
    let s : State := wc ({ cx 4 0 (ex false) with commits := [kk] })
    let n : Nat := (1)
    let c : Ctx := { cx 4 0 (ex false) with commits := [kk] }
    n ≤ 3071 ∧
    s.key.powered = true ∧
    s.ctx n = some c ∧
    let x : Exchange := ex false
    let k : Commit := kk
    c.exchange = some x ∧
    c.commits.find? (fun k => k.whole && !k.partialSent) = some k := by decide +kernel

theorem witness_ExchangesReceive_1 :
    (let s : State := wc (cx 3 2 (ex false))
     let n : Nat := (1)
     let c : Ctx := cx 3 2 (ex false)
     let x : Exchange := ex false
     n ≤ 3071 ∧
     s.key.powered = true ∧
     s.ctx n = some c ∧
     c.exchange = some x ∧
     let src : Nat := (6)
     let group : Nat := (2)
     let step : Nat := (1)
     let item : Nat := (0)
     let attempt : Nat := (0)
     x.data.contains src = true ∧
     s.screen n x src group step item attempt = 0) ∧
    (let s : State := wc (cx 3 2 (ex false))
     let n : Nat := (1)
     let c : Ctx := cx 3 2 (ex false)
     let x : Exchange := ex false
     n ≤ 3071 ∧
     s.key.powered = true ∧
     s.ctx n = some c ∧
     c.exchange = some x ∧
     let src : Nat := (6)
     let group : Nat := (2)
     let step : Nat := (0)
     let item : Nat := (0)
     let attempt : Nat := (0)
     x.data.contains src = true ∧
     s.screen n x src group step item attempt = 1) ∧
    (let s : State := wc (cx 3 2 (ex false))
     let n : Nat := (1)
     let c : Ctx := cx 3 2 (ex false)
     let x : Exchange := ex false
     n ≤ 3071 ∧
     s.key.powered = true ∧
     s.ctx n = some c ∧
     c.exchange = some x ∧
     let src : Nat := (0)
     let group : Nat := (0)
     let step : Nat := (0)
     let item : Nat := (0)
     let attempt : Nat := (0)
     (x.data.contains src = false ∨ s.screen n x src group step item attempt = 2)) ∧
    (let s : State := wc (cx 3 2 (ex false))
     let n : Nat := (1)
     let c : Ctx := cx 3 2 (ex false)
     let x : Exchange := ex false
     n ≤ 3071 ∧
     s.key.powered = true ∧
     s.ctx n = some c ∧
     c.exchange = some x ∧
     let src : Nat := (6)
     let group : Nat := (2)
     let step : Nat := (1)
     let item : Nat := (1)
     let attempt : Nat := (0)
     let id : Nat := (1)
     x.links[item]? = some (id, src, true) ∧
     s.screen n x src group step item attempt = 0 ∧
     attempt = 0) := by decide +kernel

theorem witness_ExchangesReceive_2 :
    (let s : State := wc (cx 3 2 (ex false))
     let n : Nat := (1)
     let c : Ctx := cx 3 2 (ex false)
     let x : Exchange := ex false
     n ≤ 3071 ∧
     s.key.powered = true ∧
     s.ctx n = some c ∧
     c.exchange = some x ∧
     let item : Nat := (2)
     x.links[item]? = none) ∧
    (let s : State := wc (cx 3 2 (ex false))
     let n : Nat := (1)
     let c : Ctx := cx 3 2 (ex false)
     let x : Exchange := ex false
     n ≤ 3071 ∧
     s.key.powered = true ∧
     s.ctx n = some c ∧
     c.exchange = some x ∧
     let group : Nat := (0)
     group ≠ x.group) ∧
    (let s : State := wc (cx 3 2 (ex false))
     let n : Nat := (1)
     let c : Ctx := cx 3 2 (ex false)
     let x : Exchange := ex false
     n ≤ 3071 ∧
     s.key.powered = true ∧
     s.ctx n = some c ∧
     c.exchange = some x ∧
     let src : Nat := (0)
     let group : Nat := (2)
     let step : Nat := (2)
     group = x.group ∧
     s.committed n < step ∧
     x.seals.any (fun e => e.1 == src && e.2.1 == step) = false ∧
     step ≠ s.stepOf n) ∧
    (let s : State := wc (cx 3 2 (ex false))
     let n : Nat := (1)
     let c : Ctx := cx 3 2 (ex false)
     let x : Exchange := ex false
     n ≤ 3071 ∧
     s.key.powered = true ∧
     s.ctx n = some c ∧
     c.exchange = some x ∧
     let src : Nat := (0)
     let step : Nat := (1)
     let cls : Nat := (1)
     let count : Nat := (0)
     let crc : Word := 66625362
     (cls = 1 ∨ cls = 2 ∧ x.data.contains src = true) ∧
     s.committed n < step ∧
     sealSum (x.valid src step cls) ≠ (count, crc.toNat)) := by decide +kernel

theorem witness_ExchangesReceive_3 :
    (let s : State := wc (cx 3 2 (ex false))
     let n : Nat := (1)
     let c : Ctx := cx 3 2 (ex false)
     let x : Exchange := ex false
     n ≤ 3071 ∧
     s.key.powered = true ∧
     s.ctx n = some c ∧
     c.exchange = some x ∧
     let src : Nat := (0)
     let step : Nat := (1)
     let cls : Nat := (1)
     let count : Nat := (0)
     let crc : Word := 0
     (cls = 1 ∨ cls = 2 ∧ x.data.contains src = true) ∧
     s.committed n < step ∧
     sealSum (x.valid src step cls) = (count, crc.toNat)) ∧
    (let s : State := wc (cx 3 2 ({ ex false with held := [it 6 1 2 0 0 [1,2], it 6 1 1 1 0 [7]], seals := [(5,1,2)], refused := [(6,1)], gathered := [(0,6,2)], partials := [(6,3,0)] }))
     let n : Nat := (1)
     let c : Ctx := cx 3 2 ({ ex false with held := [it 6 1 2 0 0 [1,2], it 6 1 1 1 0 [7]], seals := [(5,1,2)], refused := [(6,1)], gathered := [(0,6,2)], partials := [(6,3,0)] })
     let x : Exchange := { ex false with held := [it 6 1 2 0 0 [1,2], it 6 1 1 1 0 [7]], seals := [(5,1,2)], refused := [(6,1)], gathered := [(0,6,2)], partials := [(6,3,0)] }
     n ≤ 3071 ∧
     s.key.powered = true ∧
     s.ctx n = some c ∧
     c.exchange = some x ∧
     let src : Nat := (6)
     let step : Nat := (1)
     x.refused.contains (src, step) = true) ∧
    (let s : State := wc (cx 3 2 (ex false))
     let n : Nat := (1)
     let c : Ctx := cx 3 2 (ex false)
     let x : Exchange := ex false
     n ≤ 3071 ∧
     s.key.powered = true ∧
     s.ctx n = some c ∧
     c.exchange = some x ∧
     let src : Nat := (0)
     let step : Nat := (0)
     x.refused.contains (src, step) = false) ∧
    (let s : State := wc (cx 3 2 (ex false))
     let n : Nat := (1)
     let c : Ctx := cx 3 2 (ex false)
     let x : Exchange := ex false
     n ≤ 3071 ∧
     s.key.powered = true ∧
     s.ctx n = some c ∧
     c.exchange = some x ∧
     let src : Nat := (6)
     let group : Nat := (2)
     let step : Nat := (1)
     let b : Nat := (0)
     group = x.group ∧
     x.data.contains src = true ∧
     b < bucketCount (gradLength c) ∧
     x.gathered.contains (b, src, step) = false ∧
     s.val64At n 0x5010 0x08 < step) := by decide +kernel

theorem witness_ExchangesReceive_4 :
    (let s : State := wc (cx 3 2 (ex false))
     let n : Nat := (1)
     let c : Ctx := cx 3 2 (ex false)
     let x : Exchange := ex false
     n ≤ 3071 ∧
     s.key.powered = true ∧
     s.ctx n = some c ∧
     c.exchange = some x ∧
     let src : Nat := (0)
     x.norm.contains src = false) ∧
    (let s : State := wc (cx 3 2 (ex false))
     let n : Nat := (1)
     let c : Ctx := cx 3 2 (ex false)
     let x : Exchange := ex false
     n ≤ 3071 ∧
     s.key.powered = true ∧
     s.ctx n = some c ∧
     c.exchange = some x ∧
     let src : Nat := (6)
     let step : Nat := (1)
     x.norm.contains src = true ∧
     x.partials.any (fun e => e.1 == src && e.2.1 == step) = false ∧
     s.val64At n 0x5010 0x08 < step ∧
     (∃ p ∈ x.norm, p ≠ src ∧ ∀ e ∈ x.partials, e.1 = p → e.2.1 ≠ step)) ∧
    (let s : State := wc (cx 3 2 ({ ex false with held := [it 6 1 2 0 0 [1,2], it 6 1 1 1 0 [7]], seals := [(5,1,2)], refused := [(6,1)], gathered := [(0,6,2)], partials := [(6,3,0)] }))
     let n : Nat := (1)
     let c : Ctx := cx 3 2 ({ ex false with held := [it 6 1 2 0 0 [1,2], it 6 1 1 1 0 [7]], seals := [(5,1,2)], refused := [(6,1)], gathered := [(0,6,2)], partials := [(6,3,0)] })
     let x : Exchange := { ex false with held := [it 6 1 2 0 0 [1,2], it 6 1 1 1 0 [7]], seals := [(5,1,2)], refused := [(6,1)], gathered := [(0,6,2)], partials := [(6,3,0)] }
     n ≤ 3071 ∧
     s.key.powered = true ∧
     s.ctx n = some c ∧
     c.exchange = some x ∧
     let p : Nat := (6)
     let r : List Nat := []
     s.silent n x = p :: r ∧
     x.seals.contains (s.position c.half, s.committed n + 1, 2) = true) := by decide +kernel

end Exchanges

namespace Drafting

def wcs (cs : List Ctx) (x : List (Nat×Nat×Nat×Nat)) : State := sets { live with ctxs := cs } (cs.map (fun c => (0,0x8000 + c.n,1,c.state)) ++ x)
def kk (sum : Option Word) : Commit := ⟨1, [], true, sum, false⟩
def cu (st : Nat) (run : Bool) (sum : Option Word) : Ctx := { ctx 1 st with commits := [kk sum], upd := ⟨[], run, 0⟩ }
def withU (s : State) : State := { s with half0 := { s.half0 with updates := [1] } }
def job (r : Nat) : RowJob := ⟨1, r, 1, [(0,100)], []⟩
def tq (js : List RowJob) (pass : Bool) : Tile := { Tile.blank 0 with queue := js, inPass := pass, nextQueue := [job 9], version := [4] }
def fr (src item off g step : Nat) : Frame := ⟨.h0, 2, 5, src, 3, 1, 5, 4, false, false, true, 0, g, step, item, 0, off, 0, [1,2], true, true⟩
def setw : Nat := 9 * 2^48 + 2 * 2^32 + 16 * 65536 + 4 * 256 + 1
def sl (s : State) : State := sets s [(0,0x7030,2,setw % 2^32),(0,0x7030,3,setw / 2^32)]
def buf (j st step : Nat) : SlotBuf := ⟨.h0, 0, j, st, step, [(0,1)]⟩
def cd : Ctx := ctx 1 2

theorem witness_UpdatesAndTransfers_1 :
    (let s : State := withU (wcs [cu 3 false (some f32One)] [])
     s.key.powered = true ∧
     let n : Nat := (1)
     let c : Ctx := cu 3 false (some f32One)
     let k : Commit := kk (some f32One)
     let rest : List Commit := []
     let sum : Word := f32One
     s.ctx n = some c ∧
     c.commits = k :: rest ∧
     k.sum = some sum ∧
     s.runs c.half = true ∧
     s.awake = true ∧
     c.releasing = false ∧
     s.ctxs.any (fun x => x.half == c.half && x.upd.running) = false ∧
     (s.half c.half).updates.find? (fun m => match s.ctx m with | some x => x.updateReady | none => false) = some n ∧
     s.replays n k.step = false ∧
     f32Finite sum = true) ∧
    (let s : State := withU (wcs [cu 3 false (some 0x7F800000)] [])
     s.key.powered = true ∧
     let n : Nat := (1)
     let c : Ctx := cu 3 false (some 0x7F800000)
     let k : Commit := kk (some 0x7F800000)
     let rest : List Commit := []
     let sum : Word := 0x7F800000
     s.ctx n = some c ∧
     c.commits = k :: rest ∧
     k.sum = some sum ∧
     s.runs c.half = true ∧
     s.awake = true ∧
     c.releasing = false ∧
     s.ctxs.any (fun x => x.half == c.half && x.upd.running) = false ∧
     (s.half c.half).updates.find? (fun m => match s.ctx m with | some x => x.updateReady | none => false) = some n ∧
     s.replays n k.step = false ∧
     f32Finite sum = false) ∧
    (let s : State := wcs [cu 3 true (some f32One)] []
     s.key.powered = true ∧
     let n : Nat := (1)
     let c : Ctx := cu 3 true (some f32One)
     let k : Commit := kk (some f32One)
     let rest : List Commit := []
     s.ctx n = some c ∧
     c.commits = k :: rest ∧
     c.upd.running = true ∧
     s.runs c.half = true ∧
     s.heldIn c.half (s.copySpans c (k.step + 1)) = []) ∧
    (let s : State := { wcs [{ ctx 1 3 with tiles := [0] }] [(0,0x4021,4,0)] with tiles := [tq [job 3] false] }
     s.key.powered = true ∧
     let p : Nat := (0)
     let l := s.logicalOr p
     s.runs (halfOf (tileHalf p)) = true ∧
     (s.tile p).queue ≠ [] ∧
     (s.tile p).inPass = false ∧
     (s.tile p).programming = false ∧
     s.awake = true ∧
     s.relocatedTile p = false ∧
     s.valAt l 0x4021 0x04 = 0) := by decide +kernel

theorem witness_UpdatesAndTransfers_2 :
    (let s : State := { wcs [{ ctx 1 3 with tiles := [0] }] [(0,0x4021,4,1)] with tiles := [tq [job 3] false] }
     s.key.powered = true ∧
     let p : Nat := (0)
     let l := s.logicalOr p
     s.runs (halfOf (tileHalf p)) = true ∧
     (s.tile p).queue ≠ [] ∧
     (s.tile p).inPass = false ∧
     (s.tile p).programming = false ∧
     s.awake = true ∧
     s.relocatedTile p = false ∧
     s.valAt l 0x4021 0x04 ≠ 0) ∧
    (let s : State := { wcs [{ ctx 1 3 with tiles := [0] }] [(0,0x4021,4,0)] with tiles := [tq [job 3] false] }
     s.key.powered = true ∧
     let p : Nat := (0)
     let row : Nat := (3)
     ((s.tile p).queue.find? (fun j => j.row == row)).any (fun j => decide (((s.tile p).inPass = false ∨ s.rowFree p = false ∨ s.relocatedTile p = true))) = true) ∧
    (let s : State := { wcs [{ ctx 1 3 with tiles := [0] }] [] with tiles := [tq [⟨1, 3, 1, [], []⟩] true] }
     s.key.powered = true ∧
     let p : Nat := (0)
     let row : Nat := (3)
     let meas : RowMeas := meas0
     ((s.tile p).queue.find? (fun j => j.row == row)).any (fun j => decide ((s.tile p).inPass = true ∧ s.rowFree p = true ∧ s.relocatedTile p = false ∧ s.physTile (s.logicalOr p) = some p ∧ missed (((s.tile p).changePlan row j.targets j.carry.contains).items.map (fun e => (s.tile p).writeWeight row e.1 e.2.1 e.2.2 meas)) meas = [])) = true) ∧
    (let s : State := { wcs [{ ctx 1 3 with tiles := [0] }] [(0,0x4021,4,0)] with tiles := [tq [job 3] false] }
     s.key.powered = true ∧
     let p : Nat := (0)
     let c : Ctx := { ctx 1 3 with tiles := [0] }
     (s.fabric.logical p).bind s.ownerOf = some c ∧
     s.runs (halfOf (tileHalf p)) = true ∧
     exactE s c.n = false) := by decide +kernel

theorem witness_RiskAndDrafting_1 :
    (let s : State := wcs [cd] [(1,0x7013,7,1),(1,0x7013,2,9),(1,0x7010,4,2),(1,0x7013,4,7)]
     let h : HalfId := .h0
     let f : Frame := fr 9 32768 5 2 7
     s.key.powered = true ∧
     f.half = h ∧
     s.runs h = true ∧
     f.cls = 3 ∧
     32768 ≤ f.item ∧
     (s.awaiting h f).isSome = true) ∧
    (let s : State := { sl live with slotBufs := [buf 0 1 7] }
     let h : HalfId := .h0
     let f : Frame := fr 9 32768 5 2 7
     s.key.powered = true ∧
     f.half = h ∧
     s.runs h = true ∧
     f.cls = 3 ∧
     32768 ≤ f.item ∧
     let mine := fun (k : Nat) => slotOn (s.slotWord h k) && slotSource (s.slotWord h k) == f.src && slotGroup (s.slotWord h k) == f.group
     let k : Nat := (0)
     let b : SlotBuf := buf 0 1 7
     s.awaiting h f = none ∧
     (List.range 16).find? mine = some k ∧
     framePos f ≠ 0 ∧
     s.receiving h k f.step = some b ∧
     copyEnds (b.bytes ++ placed f) f = false) ∧
    (let s : State := live
     let h : HalfId := .h0
     let f : Frame := fr 9 32768 5 2 7
     s.key.powered = true ∧
     f.half = h ∧
     s.runs h = true ∧
     f.cls = 3 ∧
     32768 ≤ f.item ∧
     let mine := fun (k : Nat) => slotOn (s.slotWord h k) && slotSource (s.slotWord h k) == f.src && slotGroup (s.slotWord h k) == f.group
     s.awaiting h f = none ∧
     (List.range 16).find? mine = none) ∧
    (let s : State := wcs [ctx 1 3] [(1,0x7010,4,2),(1,0x7010,1,9),(1,0x7010,2,9),(0,0x9040,1,0xC0003FFF)]
     let h : HalfId := .h0
     let via : Via := ⟨.spoke 9 .h0, none⟩
     let value : BitVec 64 := 562949953421319
     let i := pick h 0x7011 0x7012
     let mine := s.ctxs.filter (fun c => c.half == h && s.valAt c.n 0x7010 0x04 == value.toNat / 2 ^ 48)
     let src : Nat := (9)
     let at' : HalfId := .h0
     via.path = .spoke src at' ∧
     admits s via i 0x01 (words64 value) = true ∧
     mine.filter (fun c => s.sparePosition c.n == src) ≠ []) := by decide +kernel

theorem witness_RiskAndDrafting_2 :
    (let s : State := wcs [ctx 1 3] [(1,0x7010,4,2),(1,0x7010,1,9),(1,0x7010,2,9),(0,0x9040,1,0xC0003FFF)]
     let h : HalfId := .h0
     let via : Via := ⟨.spoke 9 .h0, none⟩
     let value : BitVec 64 := 0
     let i := pick h 0x7011 0x7012
     let mine := s.ctxs.filter (fun c => c.half == h && s.valAt c.n 0x7010 0x04 == value.toNat / 2 ^ 48)
     let src : Nat := (9)
     let at' : HalfId := .h0
     via.path = .spoke src at' ∧
     admits s via i 0x01 (words64 value) = true ∧
     mine = []) ∧
    (let s : State := wcs [ctx 1 3] [(1,0x7010,4,2),(1,0x7010,1,9),(1,0x7010,2,9),(0,0x9040,1,0xC0003FFF)]
     let h : HalfId := .h0
     let via : Via := ⟨.spoke 8 .h0, none⟩
     let value : BitVec 64 := 562949953421319
     let i := pick h 0x7011 0x7012
     let mine := s.ctxs.filter (fun c => c.half == h && s.valAt c.n 0x7010 0x04 == value.toNat / 2 ^ 48)
     let src : Nat := (8)
     let at' : HalfId := .h0
     via.path = .spoke src at' ∧
     admits s via i 0x01 (words64 value) = true ∧
     mine ≠ [] ∧
     mine.filter (fun c => s.sparePosition c.n == src) = []) ∧
    (let s : State := live
     let h : HalfId := .h0
     let via : Via := doe
     let i := pick h 0x7011 0x7012
     s.key.powered = true ∧
     s.mute via.path = false ∧
     s.standsDown via.path i 0x01 = false) ∧
    (let s : State := live
     let h : HalfId := .h0
     let via : Via := doe
     let value : BitVec 64 := 9225905320236155905
     let i := slotIndex h
     let v := value.toNat
     admits s via i 0x02 (words64 value) = true ∧
     v / 2 % 128 = 0 ∧
     slotOn v = true ∧
     16383 < slotSource v) := by decide +kernel

theorem witness_RiskAndDrafting_3 :
    (let s : State := sets live [(0,0x5001,5,40)]
     let h : HalfId := .h0
     let via : Via := doe
     let value : BitVec 64 := 2533283381380097
     let i := slotIndex h
     let k := s.val i 0x01
     let v := value.toNat
     let old := s.slotWord h k
     admits s via i 0x02 (words64 value) = true ∧
     v / 2 % 128 = 0 ∧
     slotOn v = true ∧
     slotSource v ≤ 16383 ∧
     1 ≤ slotAnchor v ∧
     slotAnchor v ≤ 4096 ∧
     slotGroup v ≠ 0 ∧
     3 ≤ slotGiB v ∧
     slotGiB v ≤ 120 ∧
     s.flag 0x7021 0x01 0 = false ∧
     (s.buffers h k).any (fun b => b.state == 1) = false ∧
     slotGiB v ≤ s.val (pick h 0x5001 0x5002) 0x05 - s.reserveHeld h k ∧
     s.sec.entropyOk = true ∧
     slotOn old = false) ∧
    (let s : State := live
     let h : HalfId := .h0
     let via : Via := doe
     let value : BitVec 64 := 0
     let i := slotIndex h
     let k := s.val i 0x01
     let v := value.toNat
     admits s via i 0x02 (words64 value) = true ∧
     v / 2 % 128 = 0 ∧
     slotOn v = false ∧
     (s.buffers h k).any (fun b => b.state == 1) = false) ∧
    (let s : State := live
     let h : HalfId := .h0
     let via : Via := doe
     let value : BitVec 64 := 0
     let i := slotIndex h
     let k := s.val i 0x01
     let step := value.toNat % 2 ^ 48
     admits s via i 0x0B (words64 value) = true ∧
     (∀ b ∈ s.buffers h k, b.state = 2 → b.step ≠ step)) ∧
    (let s : State := { sl live with slotBufs := [buf 0 2 7, buf 1 2 8] }
     let h : HalfId := .h0
     let via : Via := doe
     let value : BitVec 64 := 7
     let i := slotIndex h
     let k := s.val i 0x01
     let step := value.toNat % 2 ^ 48
     admits s via i 0x0B (words64 value) = true ∧
     (∃ b ∈ s.buffers h k, b.state = 2 ∧ b.step = step) ∧
     s.ticketRoom = true) := by decide +kernel

end Drafting

namespace Restores

def wcs (cs : List Ctx) (x : List (Nat×Nat×Nat×Nat)) : State := sets { live with ctxs := cs } (cs.map (fun c => (0,0x8000 + c.n,1,c.state)) ++ x)
def tk (i sub u : Nat) : Ticket := ⟨9, .action i sub u, none, none, 0, 10⟩
def buf (j st step : Nat) : SlotBuf := ⟨.h0, 3, j, st, step, [(0,1)]⟩
def rst (st src : Nat) (c : Ctx) : State := withT (tk 0x7013 6 1) (wcs [c] [(0,0x7013,1,1),(1,0x7013,7,st),(1,0x7013,2,src),(1,0x7013,3,3),(1,0x7013,4,7)])
def sus (u : Nat) (s : State) : State := sets s [(0,0x7020,1,1),(0,0x7021,1,1),(0,0x7020,3,u)]

theorem witness_RestoresAndRepairs_1 :
    (let s : State := wcs [ctx 1 3] [(0,0x7013,1,1)]
     let via : Via := doe
     let n := s.val 0x7013 0x01
     presents s via 0x7013 0x06 [1] = true ∧
     s.ctxState n ≠ stLoaded) ∧
    (let s : State := wcs [ctx 1 2] [(0,0x7013,1,1)]
     let via : Via := doe
     let value : Word := (toWord (1))
     let n := s.val 0x7013 0x01
     admits s via 0x7013 0x06 [value] = true ∧
     (s.ctx n).any (fun c => decide (c.state = stLoaded ∧ s.ticketRoom = true)) = true) ∧
    (let s : State := wcs [ctx 1 2] [(0,0x7013,1,1)]
     let via : Via := doe
     let value : Word := (toWord (1))
     admits s via 0x7040 0x04 [value] = true) ∧
    (let s : State := rst 1 9 (ctx 1 4)
     s.key.powered = true ∧
     let n : Nat := 1
     let c : Ctx := ctx 1 4
     s.ctx n = some c ∧
     let st := s.valAt n 0x7013 0x07
     (st = 1 ∨ st = 2) ∧
     c.state ≠ stLoaded) := by decide +kernel

theorem witness_RestoresAndRepairs_2 :
    (let s : State := rst 2 0xFFFF (ctx 1 2)
     s.key.powered = true ∧
     let n : Nat := 1
     let c : Ctx := ctx 1 2
     s.ctx n = some c ∧
     let st := s.valAt n 0x7013 0x07
     let step := s.val64At n 0x7013 0x04
     st = 2 ∧
     c.state = stLoaded ∧
     s.restoreBytes c step = none) ∧
    (let s : State := rst 1 9 (ctx 1 2)
     s.key.powered = true ∧
     let n : Nat := 1
     let c : Ctx := ctx 1 2
     s.ctx n = some c ∧
     let st := s.valAt n 0x7013 0x07
     let step := s.val64At n 0x7013 0x04
     st = 1 ∧
     c.state = stLoaded ∧
     s.restoreBytes c step = none) ∧
    (let s : State := { rst 2 0xFFFF (ctx 1 2) with slotBufs := [buf 0 2 7] }
     s.key.powered = true ∧
     let n : Nat := 1
     let c : Ctx := ctx 1 2
     s.ctx n = some c ∧
     let st := s.valAt n 0x7013 0x07
     let step := s.val64At n 0x7013 0x04
     (st = 1 ∨ st = 2) ∧
     c.state = stLoaded ∧
     (s.restoreBytes c step).any (fun l => decide (s.copyStatus c step l ≠ 0)) = true) ∧
    (let s : State := wcs [ctx 1 2] [(0,0x7013,1,1)]
     s.key.powered = true ∧
     let unit : UnitWord := (toWord (0))
     s.suspect unit.toNat = false ∧
     let cause : Nat := 1
    1 ≤ cause ∧
     cause ≤ 3 ∧
     s.val 0x7020 0x01 < 64) := by decide +kernel

theorem witness_RestoresAndRepairs_3 :
    (let s : State := sus 0x01000000 live
     s.key.powered = true ∧
     let unit : UnitWord := (toWord (0x01000000))
     s.suspect unit.toNat = true ∧
     let p := unit.toNat % 2 ^ 17
     s.runs (halfOf (p / 65536)) = true ∧
     s.tileInFlight p = false ∧
     let l : Nat := 0
     let q := 32
     let rest : List Nat := (live.fabric.freeSpares 0 0).drop 1
     unitKind unit.toNat = 0x01 ∧
     s.fabric.relocated = [] ∧
     s.fabric.logical p = some l ∧
     s.fabric.phys l = some p ∧
     s.fabric.freeSpares (tileHalf l) (s.fabric.physCourse l) = q :: rest) ∧
    (let s : State := sus 0x02000000 live
     s.key.powered = true ∧
     let unit : UnitWord := (toWord (0x02000000))
     s.suspect unit.toNat = true ∧
     let p := unit.toNat % 2 ^ 17
     let sl := unit.toNat / 2 ^ 17 % 64
     s.runs (halfOf (p / 65536)) = true ∧
     s.tileInFlight p = false ∧
     let g : Nat := 0
     let q := 32
     let rest : List Nat := (live.fabric.freeSpares 0 0).drop 1
     let g' : Nat := 0
     let q' := 32
     let rest' : List Nat := (live.fabric.freeSpares 0 0).drop 1
     unitKind unit.toNat = 0x02 ∧
     (s.tile p).unusable = false ∧
     s.spareSlices p 0 = q :: rest ∧
     s.spareSlices p 1 = q' :: rest' ∧
     (List.range 32).find? (fun g => s.valAt (p * 2 ^ 18) 0x2010 (0x67 + g) == sl) = some g ∧
     (List.range 32).find? (fun g => s.valAt (p * 2 ^ 18 + 1) 0x2010 (0x67 + g) == sl) = some g') ∧
    (let s : State := sus 0x030000FF live
     s.key.powered = true ∧
     let h : HalfId := .h0
     let course : Nat := 0
     course < 32 ∧
     s.runs h = true ∧
     let p := s.fabric.physCourse (mkTile (halfNum h) course 0)
     s.suspect (unitWord 0x03 0 (mkTile (halfNum h) p 0xFF)) = true ∧
     s.fabric.spareCourseFree (halfNum h) = true ∧
     s.fabric.courseMap.contains (halfNum h * 64 + course) = false ∧
     s.courseBusy h p = false) ∧
    (let s : State := wcs [ctx 1 2] [(0,0x7013,1,1)]
     s.key.powered = true ∧
     let h : HalfId := .h0
     s.railsOn h = true ∧
     s.fenced h = false) := by decide +kernel

end Restores

namespace Firmware

def wcs (s : State) (cs : List Ctx) (x : List (Nat×Nat×Nat×Nat)) : State := sets { s with ctxs := cs } (cs.map (fun c => (0,0x8000 + c.n,1,c.state)) ++ x)
def im (c : Nat) : Image := Image.factory c 0
def stg (c : Nat) (s : State) : State := { s with key := { s.key with staged := some (im c) } }

theorem witness_FirmwareAndOwnership_1 :
    (let s : State := own live
     let via : Via := doe7
     let keystone : Bool := false
     let value : Word := (toWord (1))
     let sub := if keystone then 0x04 else 0x05
     admits s via 0x9010 sub [value] = true ∧
     value = 1 ∧
     s.key.staged = none) ∧
    (let s : State := { stg 0 (own live) with key := { (stg 0 (own live)).key with commit := some (1, im 0) } }
     let via : Via := doe7
     let keystone : Bool := true
     let value : Word := (toWord (1))
     let sub := if keystone then 0x04 else 0x05
     admits s via 0x9010 sub [value] = true ∧
     let im : Image := im 0
     value = 1 ∧
     s.key.staged = some im ∧
     (im.component == 0) = keystone ∧
     (keystone = false → s.fenced (halfOf im.half) = false) ∧
     s.key.commit ≠ none) ∧
    (let s : State := stg 0 (own live)
     let via : Via := doe7
     let keystone : Bool := true
     let value : Word := (toWord (1))
     let sub := if keystone then 0x04 else 0x05
     admits s via 0x9010 sub [value] = true ∧
     let im : Image := im 0
     value = 1 ∧
     s.key.staged = some im ∧
     (im.component == 0) = keystone ∧
     (keystone = false → s.fenced (halfOf im.half) = false) ∧
     s.key.commit = none ∧
     s.ticketRoom = true) ∧
    (let s : State := own live
     let via : Via := doe7
     let point : List Byte := []
     admitsDomain s via 0x9020 0x02 = true ∧
     point.length ≠ 97) := by decide +kernel

theorem witness_FirmwareAndOwnership_2 :
    (let s : State := own live
     let via : Via := doe7
     let point : List Byte := List.replicate 97 4
     admitsDomain s via 0x9020 0x02 = true ∧
     point.length = 97 ∧
     onCurve (point.map (·.toNat)) = false) ∧
    (let s : State := wcs (own live) [ctx 1 3] []
     let via : Via := doe7
     let value : Word := (toWord (1))
     admits s via 0x9020 0x17 [value] = true ∧
     value = 1 ∧
     s.ctxs ≠ []) ∧
    (let s : State := own live
     let via : Via := doe7
     let value : Word := (toWord (1))
     admits s via 0x9020 0x17 [value] = true ∧
     value = 1 ∧
     s.ctxs = [] ∧
     s.ticketRoom = true) ∧
    (let s : State := own live
     let via : Via := doe7
     let key : List Word := List.replicate 8 3
     admits s via 0x9020 0x0D key = true ∧
     s.ticketRoom = true) := by decide +kernel

theorem witness_FirmwareAndOwnership_3 :
    (let s : State := own live
     let via : Via := doe7
     let value : Word := (toWord (1))
     admits s via 0x9020 0x16 [value] = true) ∧
    (let s : State := own live
     let via : Via := doe7
     let blob : List Byte := []
     admitsDomain s via 0x9070 0x10 = true ∧
     let sound := blob.length = 5488 ∧ fieldAt blob 0 4 = 0x4B535643
     s.sec.entropyOk = true ∧
     ¬ sound) ∧
    (let s : State := own live
     let via : Via := doe7
     let blob : List Byte := [0x43,0x56,0x53,0x4B] ++ List.replicate 5484 0
     admitsDomain s via 0x9070 0x10 = true ∧
     let sound := blob.length = 5488 ∧ fieldAt blob 0 4 = 0x4B535643
     s.sec.entropyOk = true ∧
     sound) := by decide +kernel

end Firmware

namespace Spdm

def none4 (s : State) : State := { s with sec := { s.sec with sessions := [sess 1, sess 2, sess 3, sess 4] } }

theorem witness_SpdmAnswers_1 :
    (let s : State := live
     s.key.powered = true ∧
     let via : Via := doe
     s.isSpdm via = true ∧
     let block : Nat := (1)
     (s.measurement via block).isSome = true) ∧
    (let s : State := live
     s.key.powered = true ∧
     let via : Via := doe
     s.isSpdm via = true ∧
     let block : Nat := (0)
     s.measurement via block = none) ∧
    (let s : State := live
     s.key.powered = true ∧
     let via : Via := doe
     s.isSpdm via = true ∧
     let slot : Nat := (1)
     slot ≠ 0) ∧
    (let s : State := live
     s.key.powered = true ∧
     let via : Via := doe
     s.isSpdm via = true ∧
     let id : Nat := (0)
     s.session id = none ∧
     s.sec.sessions.length < 4 ∧
     s.sec.entropyOk = true) := by decide +kernel

theorem witness_SpdmAnswers_2 :
    (let s : State := none4 (so live)
     s.key.powered = true ∧
     let via : Via := doe
     s.isSpdm via = true ∧
     let id : Nat := (0)
     s.session id = none ∧
     4 ≤ s.sec.sessions.length) ∧
    (let s : State := { so live with sec := { (so live).sec with entropyOk := false } }
     s.key.powered = true ∧
     let via : Via := doe
     s.isSpdm via = true ∧
     let id : Nat := (0)
     s.session id = none ∧
     s.sec.sessions.length < 4 ∧
     s.sec.entropyOk = false) ∧
    (let s : State := so live
     s.key.powered = true ∧
     let via : Via := doe7
     let id : Nat := (7)
     let x : Session := sess 7
     s.isSpdm via = true ∧
     via.session = some id ∧
     s.session id = some x) ∧
    (let s : State := so live
     s.key.powered = true ∧
     let c : Instr := .sessionEnd 7
     let id : Nat := (7)
     let x : Session := sess 7
     (c = .sessionEnd id ∨ c = .sessionHeartbeatTimeout id) ∧
     s.session id = some x) := by decide +kernel

theorem witness_SpdmAnswers_3 :
    (let s : State := sets { so live with sec := { (so live).sec with treeReady := 0 } } [(0,0x9000,0x10,32770)]
     s.key.powered = true ∧
     s.treeDue = true) ∧
    (let s : State := live
     s.key.powered = true ∧
     s.treeDue = false) := by decide +kernel

end Spdm

namespace Keys

def cctx (n st : Nat) (r : List Byte) : Ctx := { Ctx.opened n .h0 true (some 7) r 0 with state := st }
def wcs (s : State) (cs : List Ctx) (x : List (Nat×Nat×Nat×Nat)) : State := sets { s with ctxs := cs } (cs.map (fun c => (0,0x8000 + c.n,1,c.state)) ++ x)
def pk (s : State) : State := { s with sec := { s.sec with pk0 := { PKeys.empty with next := some { epoch := 1, key := List.replicate 8 5, current := true } } } }

theorem witness_KeysHoldsAndSanitize_1 :
    (let s : State := own live
     let via : Via := doe7
     let h : HalfId := .h0
     let words : List Word := List.replicate 8 3 ++ [2]
     let i := pkIndex h
     admits s via i 0x02 words = true ∧
     let e := (words.getD 8 0).toNat
     e ≠ s.val i 0x01 + 1) ∧
    (let s : State := own live
     let via : Via := doe7
     let h : HalfId := .h0
     let words : List Word := List.replicate 8 3 ++ [1]
     let i := pkIndex h
     admits s via i 0x02 words = true ∧
     let e := (words.getD 8 0).toNat
     e = s.val i 0x01 + 1) ∧
    (let s : State := own live
     let via : Via := doe7
     let h : HalfId := .h0
     let value : Word := (toWord (1))
     let i := pkIndex h
     admits s via i 0x0B [value] = true ∧
     value = 1 ∧
     (s.peloton h).next = none) ∧
    (let s : State := pk (own live)
     let via : Via := doe7
     let h : HalfId := .h0
     let value : Word := (toWord (1))
     let i := pkIndex h
     admits s via i 0x0B [value] = true ∧
     let k : PKey := { epoch := 1, key := List.replicate 8 5, current := true }
     value = 1 ∧
     (s.peloton h).next = some k) := by decide +kernel

theorem witness_KeysHoldsAndSanitize_2 :
    (let s : State := own live
     let via : Via := doe
     let n := s.val 0x9080 0x01
     s.key.powered = true ∧
     s.mute via.path = false ∧
     s.standsDown via.path 0x9080 0x02 = false ∧
     s.sameRequester via n = false) ∧
    (let s : State := own live
     let via : Via := doe
     let n := s.val 0x9080 0x01
     s.key.powered = true ∧
     s.mute via.path = false ∧
     s.standsDown via.path 0x9080 0x0B = false ∧
     s.boundSession via n = false) ∧
    (let s : State := sets (wcs (own live) [cctx 1 4 (sha256Bytes [1]), ctx 2 4, cctx 3 4 []] [(0,0x8001,2,2 ^ rTsp),(0,0x9080,1,1)]) []
     let via : Via := doe7
     let value : Word := (toWord (1))
     let n := s.val 0x9080 0x01
     (s.ctx n).any (fun c => decide ((via.session).any (fun id => decide ((s.session id).any (fun x => decide (admits s via 0x9080 0x02 [value] = true ∧ value = 1 ∧ c.confidential = true ∧ c.requester = sha256Bytes x.requester ∧ c.state = stHold ∧ s.hasReason n rTsp = true)) = true)) = true)) = true) ∧
    (let s : State := sets (wcs (own live) [cctx 1 1 (sha256Bytes [1])] [(0,0x9080,1,1),(0,0xA002,1,3),(0,0x9070,1,1)]) []
     let via : Via := doe7
     let value : Word := (toWord (1))
     let n := s.val 0x9080 0x01
     (s.ctx n).any (fun c => decide ((via.session).any (fun id => decide ((s.session id).any (fun x => decide (admits s via 0x9080 0x02 [value] = true ∧ value = 1 ∧ c.confidential = true ∧ c.requester = sha256Bytes x.requester ∧ c.state ≠ stHold)) = true)) = true)) = true) := by decide +kernel

theorem witness_KeysHoldsAndSanitize_3 :
    (let s : State := sets (wcs (own live) [cctx 1 4 (sha256Bytes [1])] [(0,0x8001,2,2 ^ rTsp + 2 ^ rIde),(0,0x9080,1,1),(0,0xA002,1,3),(0,0x9070,1,1),(1,0x3050,4,1)]) []
     let via : Via := doe7
     let value : Word := (toWord (1))
     let n := s.val 0x9080 0x01
     admits s via 0x9080 0x0B [value] = true ∧
     value = 1 ∧
     s.boundSession via n = true ∧
     s.val 0xA002 0x01 % 8 = 3 ∧
     s.ctxState n = stHold ∧
     s.hasReason n rIde = true) ∧
    (let s : State := own live
     let via : Via := doe
     let value : Word := (toWord (1))
     let n := s.val 0x9070 0x01
     admits s via 0x9070 0x03 [value] = true ∧
     value = 1 ∧
     s.ctx n = none) ∧
    (let s : State := sets (wcs (own live) [cctx 1 1 (sha256Bytes [1])] [(0,0x9080,1,1),(0,0xA002,1,3),(0,0x9070,1,1)]) []
     let via : Via := doe7
     let value : Word := (toWord (1))
     let n := s.val 0x9070 0x01
     admits s via 0x9070 0x03 [value] = true ∧
     value = 1 ∧
     (s.ctx n).any (fun c => decide ((c.confidential = false ∨ s.boundSession via n = true) ∧ s.ledgerOn n = false)) = true) ∧
    (let s : State := sets (wcs (own live) [cctx 1 4 (sha256Bytes [1])] [(0,0x8001,2,2 ^ rTsp + 2 ^ rIde),(0,0x9080,1,1),(0,0xA002,1,3),(0,0x9070,1,1),(1,0x3050,4,1)]) []
     let via : Via := doe7
     let value : Word := (toWord (1))
     let n := s.val 0x9070 0x01
     admits s via 0x9070 0x03 [value] = true ∧
     value = 1 ∧
     (s.ctx n).any (fun c => decide ((c.confidential = false ∨ s.boundSession via n = true) ∧ s.ledgerOn n = true ∧ s.signStatus = 0 ∧ s.ticketRoom = true)) = true) := by decide +kernel

theorem witness_KeysHoldsAndSanitize_4 :
    (let s : State := own live
     let via : Via := doe
     let value : Word := (toWord (2^28+2^17))
     let v := value.toNat
     admits s via 0x9060 0x01 [value] = true ∧
     bitsOf v 17 11 ≠ 0) ∧
    (let s : State := own live
     let via : Via := doe
     let value : Word := (toWord (2^28+0x22))
     let v := value.toNat
     let none' := (v / 2 ^ 28 ≤ 2 ∧ 0x20 < bitsOf v 8 8) ∨ (v / 2 ^ 28 = 1 ∧ 0x21 < bitsOf v 0 8)
     admits s via 0x9060 0x01 [value] = true ∧
     bitsOf v 17 11 = 0 ∧
     none') ∧
    (let s : State := own live
     let via : Via := doe
     let value : Word := (toWord (0))
     let v := value.toNat
     let none' := (v / 2 ^ 28 ≤ 2 ∧ 0x20 < bitsOf v 8 8) ∨ (v / 2 ^ 28 = 1 ∧ 0x21 < bitsOf v 0 8)
     admits s via 0x9060 0x01 [value] = true ∧
     bitsOf v 17 11 = 0 ∧
     ¬ none' ∧
     (v / 2 ^ 28 = 0 ∨ 4 < v / 2 ^ 28)) ∧
    (let s : State := own live
     let via : Via := doe
     let value : Word := (toWord (2^30))
     let v := value.toNat
     let none' := (v / 2 ^ 28 ≤ 2 ∧ 0x20 < bitsOf v 8 8) ∨ (v / 2 ^ 28 = 1 ∧ 0x21 < bitsOf v 0 8)
     admits s via 0x9060 0x01 [value] = true ∧
     bitsOf v 17 11 = 0 ∧
     ¬ none' ∧
     v / 2 ^ 28 = 4 ∧
     s.ownerSession via = false) := by decide +kernel

theorem witness_KeysHoldsAndSanitize_5 :
    (let s : State := own off0
     let via : Via := doe
     let value : Word := (toWord (2^28))
     let v := value.toNat
     let h := halfOf (bitsOf v 16 1)
     let none' := (v / 2 ^ 28 ≤ 2 ∧ 0x20 < bitsOf v 8 8) ∨ (v / 2 ^ 28 = 1 ∧ 0x21 < bitsOf v 0 8)
     admits s via 0x9060 0x01 [value] = true ∧
     bitsOf v 17 11 = 0 ∧
     ¬ none' ∧
     1 ≤ v / 2 ^ 28 ∧
     v / 2 ^ 28 ≤ 3 ∧
     s.fenced h = false ∧
     s.runs h = false) ∧
    (let s : State := own live
     let via : Via := doe
     let value : Word := (toWord (2^28))
     let v := value.toNat
     let h := halfOf (bitsOf v 16 1)
     let none' := (v / 2 ^ 28 ≤ 2 ∧ 0x20 < bitsOf v 8 8) ∨ (v / 2 ^ 28 = 1 ∧ 0x21 < bitsOf v 0 8)
     admits s via 0x9060 0x01 [value] = true ∧
     bitsOf v 17 11 = 0 ∧
     ¬ none' ∧
     1 ≤ v / 2 ^ 28 ∧
     v / 2 ^ 28 ≤ 3 ∧
     s.fenced h = false ∧
     s.runs h = true ∧
     s.anyOwned (sanitizeTiles v) = false ∧
     s.ticketRoom = true) ∧
    (let s : State := own live
     let via : Via := doe7
     let value : Word := (toWord (2^30))
     let v := value.toNat
     let none' := (v / 2 ^ 28 ≤ 2 ∧ 0x20 < bitsOf v 8 8) ∨ (v / 2 ^ 28 = 1 ∧ 0x21 < bitsOf v 0 8)
     admits s via 0x9060 0x01 [value] = true ∧
     bitsOf v 17 11 = 0 ∧
     ¬ none' ∧
     v / 2 ^ 28 = 4 ∧
     s.ownerSession via = true ∧
     s.anyOwned (sanitizeTiles v) = false ∧
     s.ticketRoom = true) := by decide +kernel

end Keys

namespace Resets

def wcs (s : State) (cs : List Ctx) (x : List (Nat×Nat×Nat×Nat)) : State := sets { s with ctxs := cs } (cs.map (fun c => (0,0x8000 + c.n,1,c.state)) ++ x)
def T1 : Nat := mkTile 0 1 5
def run1 : State := wcs { live with ctxs := [] } [ctx 2 3] []
def pl (x : List (Nat×Nat×Nat×Nat)) : State := sets live ([(T1,0xF021,3,7),(0,0xF020,1,0),(0,0xF020,2,1)] ++ x)

theorem witness_ResetsAndPlumbChecks_1 :
    (let s : State := run1
     let via : Via := doe
     let value : Word := (toWord (0))
     let v := value.toNat
     let h := halfOf (v % 2)
     let busy := s.busyHalf h && !s.fenced h && s.railsOn h
     admits s via 0xF010 0x01 [value] = true ∧
     v = v % 2 + bitsOf v 8 1 * 256 ∧
     busy = true ∧
     bitsOf v 8 1 = 0) ∧
    (let s : State := live
     let via : Via := doe
     let value : Word := (toWord (0))
     let v := value.toNat
     let h := halfOf (v % 2)
     let busy := s.busyHalf h && !s.fenced h && s.railsOn h
     admits s via 0xF010 0x01 [value] = true ∧
     v = v % 2 + bitsOf v 8 1 * 256 ∧
     (busy = false ∨ bitsOf v 8 1 = 1) ∧
     s.ticketRoom = true) ∧
    (let s : State := { pl [(T1,0xF021,2,1)] with ctxs := [{ ctx 2 3 with tiles := [T1] }] }
     let via : Via := doe
     let value : Word := toWord 261
     let p := value.toNat
     admits s via 0xF010 0x02 [value] = true ∧
     (s.tileBusy p || s.ownerGoing p) = true) ∧
    (let s : State := live
     let via : Via := doe
     let value : Word := (toWord (0))
     let p := value.toNat
     admits s via 0xF010 0x02 [value] = true ∧
     s.tileBusy p = false ∧
     s.ownerGoing p = false) := by decide +kernel

theorem witness_ResetsAndPlumbChecks_2 :
    (let s : State := live
     s.key.powered = true ∧
     let p : Nat := (0)
     s.runs (halfOf (tileHalf p)) = true ∧
     isPhysTile p = true ∧
     s.tileRole p ≤ 2 ∧
     s.plumbState p = 0 ∧
     (s.plumbOwned p = true → s.val 0xF020 0x01 ≤ s.valAt p 0xF021 0x03)) ∧
    (let s : State := pl [(T1,0xF021,2,1)]
     s.key.powered = true ∧
     let p : Nat := 261
     s.runs (halfOf (tileHalf p)) = true ∧
     s.plumbState p ≠ 0 ∧
     s.tileBusy p = false ∧
     s.inSanitize p = false ∧
     (s.tile p).programming = false ∧
     (s.addressMap.logical p).any (fun l => decide (let v1 : Bool := false; let v3 : Bool := true; (v1 || v3) = true ∧ (s.tile p).flight = [])) = true) ∧
    (let s : State := { pl [(T1,0xF021,2,4),(T1,0xF021,5,7),(mkTile 0 1 0x21,0x2012,2,1),(mkTile 0 1 0x20,0x2012,2,1)] with ctxs := [{ ctx 2 3 with tiles := [T1] }] }
     s.key.powered = true ∧
     let p : Nat := 261
     s.runs (halfOf (tileHalf p)) = true ∧
     (s.fabric.logical p).any (fun l => decide ((s.plumbState p = 1 ∨ s.plumbState p = 4) ∧ s.plumbOwned p = true ∧ s.mayRelocate p l = true ∧ (s.tile p).plumbDueAt + s.val 0xF020 0x02 ≤ s.valAt p 0xF021 0x03 ∧ (s.relocationSpare l).isSome = true)) = true) ∧
    (let s : State := { pl [(T1,0xF021,2,1)] with ctxs := [{ ctx 2 3 with tiles := [T1] }] }
     s.key.powered = true ∧
     let p : Nat := 261
     s.runs (halfOf (tileHalf p)) = true ∧
     (s.fabric.logical p).any (fun l => decide ((s.plumbState p = 1 ∨ s.plumbState p = 4) ∧ s.plumbOwned p = true ∧ s.mayRelocate p l = true ∧ (s.tile p).plumbDueAt + s.val 0xF020 0x02 ≤ s.valAt p 0xF021 0x03 ∧ s.relocationSpare l = none)) = true) := by decide +kernel

end Resets

namespace More

def st (id : Nat) (k : StrandKind) (iss : Bool) : Strand := { id := id, step := 0, layer := 0, kind := k, course := 0, vec0 := 0, count := 3, issued := iss, dead := false, again := false, piece := 0, ran := 0, snapshot := [] }
def cf : Ctx := { ctx 1 3 with phase := 1, layers := [Lf 40 16 0], slots := [st 4 (.forward 0) true], tiles := [0,1] }
def sr : List (Nat × Nat × Nat × Nat) := [(0,0x8001,0x40,1),(0,0x8001,0x43,4),(0,0x8001,0x42,3),(0,0x8001,0x4E,1)]
def cp : Ctx := { ctx 1 2 with producer := 5 }
def susc (s : State) : State := sets s [(0,0x7020,1,1),(0,0x7021,1,1),(0,0x7020,3,0x030000FF)]
def cb : Ctx := { ctx 1 3 with phase := 1, layers := [L0], slots := [st 4 (.engine 0) true] }
def soq (s : State) : State := { s with sec := { s.sec with entropyOk := false } }

theorem witness_MctpAndStatusShadow_MctpEndpointAnswers :
    let s : State := { live with port := { live.port with vectors := [(.f0, 3), (.f1, 70)], f0 := { live.port.f0 with msix := [(15, 0)] } } }
    s.key.powered = true ∧
    let f : Fn := .f0
    let v : Nat := (3)
    (f, v) ∈ s.port.vectors ∧
    (s.fn f).masked v = false := by decide +kernel

theorem witness_LoadPlacesAProgram :
    let s : State := sets (wc [ctx 1 1] []) [(0,0x7021,1,1)]
    let n : Nat := (1)
    let c : Ctx := ctx 1 1
    n ≤ 3071 ∧
    s.ctx n = some c ∧
    let via : Via := doe
    c.state = stOpen ∧
    c.releasing = false ∧
    s.ticketRoom = true ∧
    admits s via (0x8000 + n) 0x01 [s.stateWord n stLoaded] = true ∧
    s.probationBars n = true := by decide +kernel

theorem witness_RunHoldAndDone_RunBeginsOrResumesAStep :
    (let s : State := wc [cp] sr
     let via : Via := doe
     let n : Nat := (1)
     let c : Ctx := cp
     n ≤ 3071 ∧
     s.ctx n = some c ∧
     [stLoaded, stHold, stDone].contains c.state = true ∧
     c.releasing = false ∧
     s.probationBars n = false ∧
     admits s via (0x8000 + n) 0x01 [s.stateWord n stRun] = true ∧
     s.key.trans = none ∧
     s.val 0x1010 0x01 = 0 ∧
     (c.state = stDone ∧ s.val64 (cidx n) 0x14 = 0 ∨ c.state ≠ stDone ∧ s.deviceReasons n = false) ∧
     s.copyDue c = false ∧
     c.phase = 0 ∧
     s.streaming n = true ∧
     s.batchReady c = true) ∧
    (let s : State := wc [ctx 1 2] sr
     let via : Via := doe
     let n : Nat := (1)
     let c : Ctx := ctx 1 2
     n ≤ 3071 ∧
     s.ctx n = some c ∧
     [stLoaded, stHold, stDone].contains c.state = true ∧
     c.releasing = false ∧
     s.probationBars n = false ∧
     admits s via (0x8000 + n) 0x01 [s.stateWord n stRun] = true ∧
     s.key.trans = none ∧
     s.val 0x1010 0x01 = 0 ∧
     (c.state = stDone ∧ s.val64 (cidx n) 0x14 = 0 ∨ c.state ≠ stDone ∧ s.deviceReasons n = false) ∧
     s.copyDue c = false ∧
     c.phase = 0 ∧
     s.streaming n = true ∧
     s.batchReady c = false ∧
     c.ended = false) := by decide +kernel

theorem witness_ContextEventsAndStreams :
    let s : State := sets (wc [ctx 1 4] []) [(0,0x3032,1,1)]
    let n : Nat := (1)
    let c : Ctx := ctx 1 4
    n ≤ 3071 ∧
    s.ctx n = some c ∧
    let via : Via := doe
    let v : Word := (toWord (1))
    s.val 0x3032 0x01 = n ∧
    admits s via 0x3032 0x02 [v] = true ∧
    s.hasReason n rNumerics = false := by decide +kernel

theorem witness_StrandsIssueAndEnd :
    let s : State := wc [cf] []
    s.key.powered = true ∧
    let n : Nat := (1)
    let k : Nat := (4)
    let c : Ctx := cf
    let x : Strand := st 4 (.forward 0) true
    s.ctx n = some c ∧
    c.slots.find? (fun y => y.id == k && y.issued) = some x ∧
    s.mayEnd n x = false := by decide +kernel

theorem witness_StartEnds :
    let s : State := sets { live with half0 := HalfCtl.cold, half1 := HalfCtl.cold, key := { live.key with atS4 := true, waiting := some ⟨[], []⟩ } } [(0,0x1000,1,2),(0,0x1000,4,1),(0,0x1000,6,1)]
    s.key.powered = true ∧
    s.flag 0x1000 0x01 0 = false ∧
    s.key.atS4 = true := by decide +kernel

theorem witness_RestoresAndRepairs :
    let s : State := susc (wc [cb] [])
    s.key.powered = true ∧
    let h : HalfId := .h0
    let course := 0
    course < 32 ∧
    s.runs h = true ∧
    let p := s.fabric.physCourse (mkTile (halfNum h) course 0)
    s.suspect (unitWord 0x03 0 (mkTile (halfNum h) p 0xFF)) = true ∧
    s.fabric.spareCourseFree (halfNum h) = true ∧
    s.fabric.courseMap.contains (halfNum h * 64 + course) = false ∧
    s.courseBusy h p = true := by decide +kernel

theorem witness_FirmwareAndOwnership :
    let s : State := soq live
    let via : Via := doe
    admitsDomain s via 0x9070 0x10 = true ∧
    s.sec.entropyOk = false := by decide +kernel

theorem witness_LeadWindowAndReplaceRequests_ClaimsJoinTheWindow :
    (let s : State := { live with half0 := { up with unread := [0x0040] } }
     let h : HalfId := .h0
     s.key.powered = true ∧
     s.railsOn h = true ∧
     s.fenced h = false ∧
     (s.holder ≠ halfNum h ∨ s.key.hostHeld = [])) ∧
    (let s : State := { live with half0 := { up with unread := [0x0040] } }
     let h : HalfId := .h1
     s.key.powered = true ∧
     s.runs h = true ∧
     s.fenced h = false ∧
     (s.half h).unread = []) ∧
    (let s : State := { live with half0 := { up with unread := [0x0040] } }
     let h : HalfId := .h0
     s.key.powered = true ∧
     (s.half h).unread ≠ []) := by decide +kernel

end More

namespace ByHand

/-- As many lines as the directory holds. -/
def fullDir : List Nat := List.replicate dirSize 3

theorem fullDir_length : dirSize ≤ (3 :: fullDir).length := by
  unfold fullDir
  rw [List.length_cons, List.length_replicate]
  exact Nat.le_succ _

theorem fullDir_lacks : 0 / 64 ∉ 3 :: fullDir := by
  intro g
  rcases List.mem_cons.mp g with e | e
  · cases e
  · cases List.eq_of_mem_replicate e

/-- Half 0's directory is full; its decoder is committed. -/
def tracking : State := { com live with port := { (com live).port with dir0 := 3 :: fullDir } }

theorem tracking_dir : tracking.dir .h0 = 3 :: fullDir := rfl

/-- A directory that is full: the command that reads a line it does not hold takes its oldest line back. -/
theorem witness_DeviceMemoryAccesses_DeviceMemoryReadsAnswerTheLine_full :
    (tracking.key.powered = true ∧ tracking.key.trans = none ∧ tracking.val 0x1010 0x01 ≠ 2 ∧
      tracking.servesMem .h0 = true ∧ 0 < hbmSize ∧ tracking.barredMem .h0 0 none false = false) ∧
    tracking.dir .h0 = 3 :: fullDir ∧ dirSize ≤ (3 :: fullDir).length ∧ 0 / 64 ∉ 3 :: fullDir :=
  ⟨by decide +kernel, tracking_dir, fullDir_length, fullDir_lacks⟩

theorem witness_RiskAndDrafting_noSpoke : ∀ src at', doe.path ≠ .spoke src at' := by
  intro _ _ h
  cases h

/-- The base point of P-384 (R467 takes any point of the curve). -/
def basePoint : List Byte :=
  [0x04, 0xaa, 0x87, 0xca, 0x22, 0xbe, 0x8b, 0x05, 0x37, 0x8e, 0xb1, 0xc7, 0x1e, 0xf3, 0x20, 0xad, 0x74, 0x6e, 0x1d, 0x3b,
   0x62, 0x8b, 0xa7, 0x9b, 0x98, 0x59, 0xf7, 0x41, 0xe0, 0x82, 0x54, 0x2a, 0x38, 0x55, 0x02, 0xf2, 0x5d, 0xbf, 0x55, 0x29,
   0x6c, 0x3a, 0x54, 0x5e, 0x38, 0x72, 0x76, 0x0a, 0xb7] ++
  [0x36, 0x17, 0xde, 0x4a, 0x96, 0x26, 0x2c, 0x6f, 0x5d, 0x9e, 0x98, 0xbf, 0x92, 0x92, 0xdc, 0x29, 0xf8, 0xf4, 0x1d, 0xbd,
   0x28, 0x9a, 0x14, 0x7c, 0xe9, 0xda, 0x31, 0x13, 0xb5, 0xf0, 0xb8, 0xc0, 0x0a, 0x60, 0xb1, 0xce, 0x1d, 0x7e, 0x81, 0x9d,
   0x7a, 0x43, 0x1d, 0x7c, 0x90, 0xea, 0x0e, 0x5f]

theorem witness_FirmwareAndOwnership_rootInstall :
    admitsDomain (so live) doe7 0x9020 0x02 = true ∧ basePoint.length = 97 ∧ onCurve (basePoint.map (·.toNat)) = true ∧
    (so live).ticketRoom = true := by decide +kernel

/-- A service command of the right shape; its key is 60 bytes of `k`. -/
def serviceBlob (k : Byte) : List Byte := [0x43, 0x56, 0x53, 0x4B] ++ List.replicate 5484 k

theorem serviceBlob_keys_differ :
    sha256Bytes (((serviceBlob 0).drop 32).take 60) ≠ sha256Bytes (((serviceBlob 1).drop 32).take 60) := by decide +kernel

/-- Whatever the service root, some service command of the right shape is not signed by it. That one is signed follows
from no evaluation: the root's signature check is a free constant. -/
theorem witness_FirmwareAndOwnership_unsigned :
    ∃ blob : List Byte, blob.length = 5488 ∧ fieldAt blob 0 4 = 0x4B535643 ∧
      ¬ (sha256Bytes ((blob.drop 32).take 60) = Config.serviceRoot ∧
        Config.serviceSigned ((blob.drop 32).take 60) (blob.take 92) (blob.drop 92) = true) := by
  by_cases h : sha256Bytes (((serviceBlob 0).drop 32).take 60) = Config.serviceRoot
  · exact ⟨serviceBlob 1, by decide +kernel, by decide +kernel, fun g => serviceBlob_keys_differ (h.trans g.1.symm)⟩
  · exact ⟨serviceBlob 0, by decide +kernel, by decide +kernel, fun g => h g.1⟩

def spent : State :=
  sets { own live with ctxs := [ctx 2 4] } [(0, 0x8002, 1, 4), (0, 0x9070, 1, 2), (2, 0x3050, 4, 1), (0, 0x9000, 0x10, 0x1000000)]

theorem witness_KeysHoldsAndSanitize_noLeaf :
    admits spent doe7 0x9070 0x03 [1] = true ∧ (spent.ctx 2).any (fun c => !c.confidential) = true ∧
    spent.ledgerOn 2 = true ∧ spent.signStatus ≠ 0 := by decide +kernel

/-- A LOADED context without layers, and the copy of its step 7. -/
def loaded : State :=
  sets { live with ctxs := [ctx 1 2] } [(0, 0x8001, 1, 2), (0, 0x7013, 1, 1), (1, 0x7013, 7, 1), (1, 0x7013, 2, 9), (1, 0x7013, 4, 7)]

def goodCopy : List Byte := loaded.copyBody (ctx 1 2) 7 ++ trailerBytes (loaded.copyBody (ctx 1 2) 7) 7 0 f32Zero f32Zero

set_option maxRecDepth 100000 in
theorem witness_RestoresAndRepairs_applied :
    let c : Ctx := { ctx 1 2 with restore := some ((List.range goodCopy.length).zip goodCopy) }
    (loaded.restoreBytes c 7).any (fun l => loaded.copyStatus c 7 l == 0) = true := by decide +kernel

/-! States without a sample of their own: reset, whatever the command. -/

theorem witness_EveryStepKeepsTheStoresCanonical :
    (∃ t, step State.reset = .next t) ∧ canonical State.reset = true ∧ bounded State.reset = true :=
  ⟨⟨_, rfl⟩, by decide +kernel, by decide +kernel⟩

theorem witness_OtherPartsAreLeftAlone :
    (∃ t, exec .treeBuild State.reset = .next t) ∧ Part.memory ∉ parts .treeBuild := ⟨⟨_, rfl⟩, by decide +kernel⟩

theorem witness_OtherObjectsAreLeftAlone :
    (∃ t l, exec .powerLoss State.reset = .next t ∧ objects .oscReady = some l ∧ 0x7000 ∉ l) :=
  ⟨_, _, rfl, rfl, by decide +kernel⟩

theorem witness_OnlyTheRatingStopsTheBlock : ∀ t, exec (.supplyUndervoltageAlert 80001) State.reset ≠ .next t := by
  intro t h
  cases h

theorem witness_NothingActsWithoutPower :
    State.reset.key.powered = false ∧ ∃ t, exec .treeBuild State.reset = .next t := ⟨by decide +kernel, _, rfl⟩

theorem witness_StepTakesTheFrontCommand :
    live.pending = [] ∧ live.key.powered = true ∧ live.half0.tier1 = [] ∧ live.half1.tier1 = [] ∧
    ({ live with pending := [.treeBuild, .powerLoss] } : State).pending = .treeBuild :: [.powerLoss] := by decide +kernel

end ByHand

/-! ### Ill-formed commands are refused by `Instr.wf`, one for each of its checks -/

namespace Smoke

/-- A path of a position that no half can have. -/
def farSpoke : Via := ⟨.spoke 16384 .h0, none⟩
def req (v : Via) : Req := ⟨v, 0, 0, 0, 0xF, [], none⟩
def frm : Frame := ⟨.h0, 0, 0, 0, 0, 0, 0, 0, false, false, false, 0, 0, 0, 0, 0, 0, 0, [], true, true⟩
def trn : Training := ⟨[], [], 0, 0, .h0, 0, 0, true, true⟩
def zr : ZeroRaw := ⟨List.replicate 68 [], List.replicate 32 (List.replicate 17 [])⟩
def fr : FullRaw :=
  ⟨List.replicate 68 [], List.replicate 32 [], List.replicate 8 0, List.replicate 32 (List.replicate 17 []),
   List.replicate 32 (List.replicate 4 [])⟩
def gr : GroupRaw := ⟨List.replicate 17 [], List.replicate 17 [], List.replicate 4 []⟩

theorem test_wf_requests :
    ([.read (req farSpoke), .read (req ⟨.bar2, some 1⟩), .read (req ⟨.manager .h0 (2 ^ 32), none⟩),
      .write { req doe with index := 65536 }, .writeIf { req doe with sub := 256 }, .describe { req doe with tag := 65536 },
      .readSeg { req doe with ty := 16 }, .writeSeg { req doe with words := List.replicate 1017 0 } 0 true true [],
      .ticket { req doe with other := some 3 }, .nextObj { req bar with other := some 9 }, .writeObject (req farSpoke),
      .bar2Read 0 9, .bar2Write 0 9 0, .bar2ReadTimeout 0 9, .domainWriteTimeout 65536 0 0, .domainWriteTimeout 0 256 0,
      .deferredWriteComplete 65536 0, .deferredWriteComplete 0 65536, .ticketExpire 65536, .shedLevelUpdate .h0 101 false,
      .setEndpointId 256, .entdaa 128] : List Instr).all (fun i => !i.wf) = true := by decide +kernel

theorem test_wf_module :
    ([.startFail .h0 16 0 0, .startFail .h0 0 16 0, .startFail .h0 0 0 65536, .startTimeout .h0 16, .contactGroupOpen 4,
      .contactGroupClear 4, .sidebandShortDetect 32, .sidebandFaultClear 32, .recoveryImage farSpoke [],
      .clockSourceSelect doe 256 0, .paceMonitorRefresh .h0 33 0 0 0, .paceMonitorRefresh .h0 0 65536 0 0,
      .paceShortfall .h0 33, .clockEnableWrite doe 256 0, .blockReady 256 0, .blockReady 0 32, .spreadWrite doe 256 0,
      .droopDetect .h0 33, .droopRecover .h0 33, .spareCourseHandover .h0 33, .energyReconcile .h0 0 0 0 [(3072, 0, 0)],
      .getMeasurements doe 256 false, .getCertificate doe 8] : List Instr).all (fun i => !i.wf) = true := by decide +kernel

theorem test_wf_host_port :
    ([.vectorSignal .f0 64, .vectorSignal .f1 2048, .hostReset .perst ⟨256, 0, 0, 0⟩, .hostReset .perst ⟨0, 256, 0, 0⟩,
      .hostReset .perst ⟨0, 0, 256, 0⟩, .shadowRead 0 9, .shadowWrite 0 9 0,
      .configurationRequest .f0 0 (.barRead 0 0), .configurationRequest .f0 0 (.barWrite 2 0 0),
      .configurationRequest .f1 0 (.barRead 6 0), .configurationRequest .f1 0 (.barWrite 0 2 0),
      .memoryError .h0 .corrected (.hbm (96 * 2 ^ 30)), .memoryError .h0 .corrected (.share 3072),
      .memoryError .h0 .corrected (.buffer 0 3072)] : List Instr).all (fun i => !i.wf) = true := by decide +kernel

theorem test_wf_contexts :
    ([.ctxOpen doe 3072 0, .ctxLoad doe 0 [⟨0, 0, 0, 0, 0, 1, false, 0⟩], .ctxLoad doe 0 [⟨0, 0, 0, 0, 1, 0, false, 0⟩],
      .ctxRun doe 3072, .claimWrite doe 0 16 0, .claimComplete 3072, .strandEnd 3072 0 .clear, .producerUpdate 3072 0,
      .releaseComplete 0 [(2 ^ 17, 0)], .placementComplete 0 [⟨0, 1040, ⟨[], [], []⟩⟩], .unitSuspect 0 0 65536 0,
      .unitSuspect 0 0 0 (2 ^ 64), .updateStart 3072, .restoreApply 3072 []] : List Instr).all (fun i => !i.wf) = true := by
  decide +kernel

theorem test_wf_tiles :
    ([.forwardProduct (2 ^ 17), .forwardProduct 0x2100, .forwardProduct 34, .inputVectorArrive 0 3072 0,
      .partialArrive 0 0 0 1024, .rowWriteVerify 0 1024 [] ⟨[], [], []⟩, .rowWriteVerify 0 0 [] ⟨[(544, 0)], [], []⟩,
      .rowWriteVerify 0 0 [] ⟨[], [2176], []⟩, .rowWriteVerify 0 0 [] ⟨[], [], [2176]⟩, .transferRowComplete 0 1024 ⟨[], [], []⟩,
      .driftMonitor 0 32 false, .columnSwap 0 32 gr, .columnSwap 0 0 { gr with zero := [] }, .columnSwap 0 0 { gr with inject := [] },
      .calZero doe .h0 0 [(0, { zr with slices := [] })], .calZero doe .h0 0 [(0, { zr with zero := List.replicate 32 [] })],
      .calFull doe .h0 0 [(0, { fr with trims := [] })], .calFull doe .h0 0 [(0, { fr with inject := List.replicate 32 [] })],
      .calFull doe .h0 0 [(34, fr)], .refreshAge 0 [⟨34, 0, ⟨[], [], []⟩⟩]] : List Instr).all (fun i => !i.wf) = true := by
  decide +kernel

theorem test_wf_exchanges :
    ([.frameRoute { frm with spoke := 17 }, .frameRoute { frm with dest := 16384 }, .frameRoute { frm with src := 16384 },
      .frameRoute { frm with cls := 16 }, .frameRoute { frm with vc := 4 }, .frameRoute { frm with hops := 256 },
      .frameRoute { frm with group := 65536 }, .frameRoute { frm with step := 2 ^ 48 }, .frameRoute { frm with item := 65536 },
      .gapTimeout .h0 16384 0, .gapTimeout .h0 0 4, .linkAck .h0 17 0, .linkNak .h0 17 0, .linkCredit .h0 17 0 0,
      .linkCredit .h0 0 4 0, .contributionReceive 0 0 0 0 0 256 [], .contributionReceive 0 0 0 0 65536 0 [],
      .tensorReceive 0 0 65536 0 0 0 [], .retractReceive 0 0 0 (2 ^ 48) 0 0 0, .sealReceive 0 0 0 0 256 0 0,
      .sealRefusalReceive 0 0 0 256, .gatherReceive 0 16384 0 0 0 [], .normPartialReceive 3072 0 0 0,
      .spokeTrain .h0 17 trn, .spokeTrain .h0 0 { trn with lanes := List.replicate 6 .silent },
      .spokeTrain .h0 0 { trn with pads := List.replicate 6 0 }, .spokeTrain .h0 0 { trn with peerPos := 16384 },
      .spokeTrain .h0 0 { trn with peerSpoke := 17 }, .spokeTrain .h0 0 { trn with peerEpoch := 2 ^ 32 }] : List Instr).all
      (fun i => !i.wf) = true := by
  decide +kernel

/-- The terms above fail for the field that each names alone: these are well formed. -/
theorem test_wf_admits :
    ([.read (req doe), .frameRoute frm, .spokeTrain .h0 16 trn, .calZero doe .h0 0 [(0, zr)], .calFull doe .h0 0 [(0, fr)],
      .columnSwap 0x10000 31 gr, .bar2Read 0 8, .vectorSignal .f1 2047, .vectorSignal .f0 63, .forwardProduct 0x12021,
      .configurationRequest .f1 0 (.barRead 0 4), .ctxOpen doe 3071 0] : List Instr).all (fun i => i.wf) = true := by
  decide +kernel

end Smoke

/-! ### The queue, the bits of the table, and worked examples of the spec -/

namespace Examples

/-- The table gives no row any bits, so no word spells a command. -/
theorem test_no_word_decodes : decodeTableWord 32 0 = none ∧ live.withFetchWord 32 0 = live := by decide +kernel

/-- The command at the front is the one that runs, and the rest stay in order. -/
theorem test_first_in_first_out :
    (match step { live with pending := [.getEndpointId, .windowClose, .heartbeat .h0] } with
     | .next t => t.pending == [.windowClose, .heartbeat .h0]
     | _ => false) = true := by decide +kernel

/-- R41: a part above 80 V is outside its ratings, the one stop of the model. -/
theorem test_above_the_ratings :
    (match exec (.supplyOvervoltageAlert 80001) live with
     | .fault .outsideRatings => true
     | _ => false) = true := by decide +kernel

end Examples

end Sys2Proof.Tests
end

section
/-! PROOF. O53: every step keeps the dictionary and both memories canonical and within a half's 96 GiB (R8, R115). -/

namespace Sys2Proof.Machine

open Sys2Proof Sys2Proof.Safety

/-- A command keeps what every kind of update keeps. -/
theorem exec_kept {P : State → Prop} (kk : Kept P) (km : KeptM P) (kc : KeptC P) (kt : KeptT P) (ks : KeptS P)
    (kg : KeptK P) (kh : KeptH P) (kv : KeptV P) (ku : KeptU P) (kb : KeptB P) (kl : KeptL P) (ka : KeptA P)
    (kq : KeptQ P) {c : Instr} {s : State} (hs : P s) : KeptR P (exec c s) := by
  cases c with
  | coldPowerOn => exact execColdPowerOn_kept kk km kc kt ks kg kh kv ku kb kl ka.toD kq hs
  | startComplete => exact execStartComplete_kept kk ks kg kh kv ka.toD hs
  | startFail => exact execStartFail_kept kk kg kh kv ka.toD hs
  | startTimeout => exact execStartTimeout_kept kk kg kh kv ka.toD hs
  | crystalStartTimeout => exact execCrystalStartTimeout_kept kk kg kh ka.toD hs
  | leadStartTimeout => exact execLeadStartTimeout_kept kk kg hs
  | recoveryImage => exact execRecoveryImage_kept kk km kc kt kg kh kv kb ka.toD ka.toN kq hs
  | recoverCommit => exact execRecoverCommit_kept kk km kc kt ks kg kh kv kb kl ka kq hs
  | recoverRetry => exact execRecoverRetry_kept kk km kc kt ks kg kh kv kb kl ka kq hs
  | supplyBrownout => exact execSupplyBrownout_kept kk km kc kt ks kg kh kv ku kl ka.toD kq hs
  | supplyRecover => exact execSupplyRecover_kept kk kc kt kg kh kv kb ka.toD hs
  | supplyUndervoltageAlert => exact execSupplyUndervoltageAlert_kept kk ku ka.toD hs
  | supplyUndervoltageClear => exact execSupplyUndervoltageClear_kept kk ku ka.toD hs
  | supplyOvervoltageAlert => exact execSupplyOvervoltageAlert_kept kk ku ka.toD hs
  | supplyOvervoltageClear => exact execSupplyOvervoltageClear_kept kk ku ka.toD hs
  | inputSwitchOpen => exact execInputSwitchOpen_kept kk km kc kt ks kg kh kv ku kl ka.toD kq hs
  | inputSwitchReclose => exact execInputSwitchReclose_kept kk km kc kt ks kg kh kv ku kb kl ka.toD kq hs
  | powerLoss => exact execPowerLoss_kept kk km kc kt ks kg kh kv kl ka.toD kq hs
  | reversePolarity => exact execReversePolarity_kept kk km kc kt ks kg kh kv ku kl ka.toD kq hs
  | contactGroupOpen => exact execContactGroupOpen_kept kk km kc kt ks kg kh kv kl ka.toD kq hs
  | contactGroupClear => exact execContactGroupClear_kept ka.toD hs
  | pwrbrkAssert => exact execPwrbrkAssert_kept kk ku ka.toD hs
  | pwrbrkRelease => exact execPwrbrkRelease_kept kk ku ka.toD hs
  | thermNAssert => exact execThermNAssert_kept kk ka.toD hs
  | thermNRelease => exact execThermNRelease_kept kk ka.toD hs
  | sidebandShortDetect => exact execSidebandShortDetect_kept ka.toD hs
  | sidebandFaultClear => exact execSidebandFaultClear_kept kk ka.toD hs
  | pullupCheck => exact execPullupCheck_kept ka.toD hs
  | clearExtremes => exact execClearExtremes_kept kk km kc kt ks kg kh kv kb kl ka kq hs
  | heartbeat => exact execHeartbeat_kept kk km kc kt ks kg kh kv kb kl ka kq hs
  | bridgeLoss => exact execBridgeLoss_kept kk kc kg kh kv ka.toD ka.toN hs
  | fenceDrawConfirm => exact execFenceDrawConfirm_kept kh ka.toD hs
  | fencePowerRemove => exact execFencePowerRemove_kept kk kh ka.toD hs
  | claim => exact execClaim_kept kk kg hs
  | windowClose => exact execWindowClose_kept kk km kc kt ks kg kh kv kb kl ka kq hs
  | moveLead => exact execMoveLead_kept kk km kc kt ks kg kh kv kb kl ka kq hs
  | replaceClear => exact execReplaceClear_kept kk km kc kt ks kg kh kv kb kl ka kq hs
  | replaceRaise => exact execReplaceRaise_kept kk km kc kt ks kg kh kv kb kl ka kq hs
  | writeObject => exact execWriteObject_kept kk km kc kt ks kg kh kv kb kl ka kq hs
  | read => exact execRead_kept kk kh kv ka.toD hs
  | write => exact execWrite_kept kk km kc kt ks kg kh kv kb kl ka kq hs
  | writeIf => exact execWriteIf_kept kk km kc kt ks kg kh kv kb kl ka kq hs
  | describe => exact execDescribe_kept kk kh ka.toD hs
  | readSeg => exact execReadSeg_kept kk kh kv ka.toD hs
  | writeSeg => exact execWriteSeg_kept kk km kc kt kg kh kv kb ka.toD ka.toN kq hs
  | ticket => exact execTicket_kept kk kh kv ka.toD hs
  | nextObj => exact execNextObj_kept kk kh ka.toD hs
  | bar2Read => exact execBar2Read_kept kk kh kv ka.toD hs
  | bar2Write => exact execBar2Write_kept kk km kc kt ks kg kh kv kb kl ka kq hs
  | bar2ReadTimeout => exact execBar2ReadTimeout_kept kk kh kv ka.toD hs
  | ticketResultRead => exact execTicketResultRead_kept kk kh kv ka.toD hs
  | clearSticky => exact execClearSticky_kept kk km kc kt ks kg kh kv kb kl ka kq hs
  | domainWriteTimeout => exact execDomainWriteTimeout_kept kk kv hs
  | deferredWriteComplete => exact execDeferredWriteComplete_kept kk kc ks kg kh kv ka kq hs
  | ticketExpire => exact execTicketExpire_kept kk kv hs
  | shedLevelUpdate => exact execShedLevelUpdate_kept kk km kc kt ks kg kh kv kb kl ka kq hs
  | telemetryPlacementWrite => exact execTelemetryPlacementWrite_kept kk km kc kt ks kg kh kv kb kl ka kq hs
  | setEndpointId => exact execSetEndpointId_kept kk kv hs
  | getEndpointId => exact execGetEndpointId_kept kk hs
  | getMctpVersionSupport => exact execGetMctpVersionSupport_kept kk hs
  | getMessageTypeSupport => exact execGetMessageTypeSupport_kept kk hs
  | getVendorDefinedMessageSupport => exact execGetVendorDefinedMessageSupport_kept kk hs
  | entdaa => exact execEntdaa_kept kk kv hs
  | vectorSignal => exact execVectorSignal_kept kk hs
  | cxlMemRead => exact execCxlMemRead_kept kk kg ka.toD ka.toN hs
  | cxlMemWrite => exact execCxlMemWrite_kept kk km kg ka.toD ka.toN hs
  | birsp => exact execBirsp_kept kk km kc kv ka.toD ka.toN hs
  | bisnpTimeout => exact execBisnpTimeout_kept kk ka.toD hs
  | bisnpFault => exact execBisnpFault_kept kk kc kv ka.toD ka.toN hs
  | hostSnoop => exact execHostSnoop_kept kk hs
  | cachePartitionWrite => exact execCachePartitionWrite_kept kk km kc kt ks kg kh kv kb kl ka kq hs
  | hdmDecoderCommit => exact execHdmDecoderCommit_kept kk hs
  | ideKeyProgram => exact execIdeKeyProgram_kept kk hs
  | ideKeyRefresh => exact execIdeKeyRefresh_kept kk ka.toD hs
  | ideIntegrityFailure => exact execIdeIntegrityFailure_kept kk kc kv ka.toD ka.toN hs
  | tspError => exact execTspError_kept kk kc kv ka.toN hs
  | hostReset => exact execHostReset_kept kk kc ks kg kv ka.toD ka.toN kq hs
  | cxlReset => exact execCxlReset_kept kk km kc kt ks kg kh kv kb ka.toD ka.toN kq hs
  | functionLevelReset => exact execFunctionLevelReset_kept kk kc kg kv ka.toD ka.toN kq hs
  | shadowRead => exact execShadowRead_kept kk hs
  | shadowWrite o w v => exact execShadowWrite_kept (_offset := o) (_width := w) (_value := v) ka.toD hs
  | shadowUpdate => exact execShadowUpdate_kept kk hs
  | oscReady => exact execOscReady_kept kk ka.toD hs
  | crystalReady => exact execCrystalReady_kept kk kc kt kg kh kv kb ka.toD hs
  | crystalLoss => exact execCrystalLoss_kept kk ka.toD hs
  | holdoverExpire => exact execHoldoverExpire_kept kk km kc kt ks kg kh kv kl ka.toD ka.toN kq hs
  | clockSourceSelect => exact execClockSourceSelect_kept kk km kc kt ks kg kh kv kb kl ka kq hs
  | paceMonitorRefresh => exact execPaceMonitorRefresh_kept ka.toD hs
  | paceShortfall => exact execPaceShortfall_kept kk ka.toD hs
  | clockEnableWrite => exact execClockEnableWrite_kept kk km kc kt ks kg kh kv kb kl ka kq hs
  | blockReady => exact execBlockReady_kept kk ka.toD hs
  | spreadWrite => exact execSpreadWrite_kept kk km kc kt ks kg kh kv kb kl ka kq hs
  | clkobsSelect => exact execClkobsSelect_kept kk km kc kt ks kg kh kv kb kl ka kq hs
  | ctxOpen => exact execCtxOpen_kept kk km kc kt ks kg kh kv kb kl ka kq hs
  | ctxLoad => exact execCtxLoad_kept kk km kc kt ks kg kh kv kb kl ka kq hs
  | placementComplete => exact execPlacementComplete_kept kk km kc kt kv kb ka.toD ka.toN hs
  | ctxRun => exact execCtxRun_kept kk km kc kt ks kg kh kv kb kl ka kq hs
  | ctxHold => exact execCtxHold_kept kk km kc kt ks kg kh kv kb kl ka kq hs
  | ctxDone => exact execCtxDone_kept kk km kc kt ks kg kh kv kb kl ka kq hs
  | ctxFree => exact execCtxFree_kept kk km kc kt ks kg kh kv kb kl ka kq hs
  | releaseComplete => exact execReleaseComplete_kept kk km kc kt kv kb ka.toD kq hs
  | contextReset => exact execContextReset_kept kk km kc kt ks kg kh kv kb kl ka kq hs
  | claimWrite => exact execClaimWrite_kept kk km kc kt ks kg kh kv kb kl ka kq hs
  | claimComplete => exact execClaimComplete_kept kk km kv ka.toN hs
  | eventAck => exact execEventAck_kept kk km kc kt ks kg kh kv kb kl ka kq hs
  | strandIssue => exact execStrandIssue_kept kk kc kt ka.toD hs
  | strandEnd => exact execStrandEnd_kept kk km kc kt kh kv kb ka.toD ka.toN hs
  | numericsRelease => exact execNumericsRelease_kept kk km kc kt ks kg kh kv kb kl ka kq hs
  | producerUpdate => exact execProducerUpdate_kept kk km kc kv ka.toD ka.toN hs
  | streamWaitTimeout => exact execStreamWaitTimeout_kept kk ka.toN hs
  | inputVectorArrive => exact execInputVectorArrive_kept kk kt ka.toD hs
  | forwardProduct => exact execForwardProduct_kept kk kc kt ka.toD hs
  | checksumRepeat => exact execChecksumRepeat_kept kk kc kt ka.toD hs
  | partialArrive => exact execPartialArrive_kept kk kc kt ka.toD hs
  | outputDrain => exact execOutputDrain_kept kk kc kt ka.toD hs
  | coefficientSwitch => exact execCoefficientSwitch_kept kk kt ka.toD hs
  | calibrationProduct => exact execCalibrationProduct_kept kk kt hs
  | rowWriteVerify => exact execRowWriteVerify_kept kk kc kt kb ka.toD hs
  | calZero => exact execCalZero_kept kk km kc kt ks kg kh kv kb kl ka kq hs
  | calFull => exact execCalFull_kept kk km kc kt ks kg kh kv kb kl ka kq hs
  | calAbort => exact execCalAbort_kept kk km kc kt ks kg kh kv kb kl ka kq hs
  | calRefresh => exact execCalRefresh_kept kk km kc kt ks kg kh kv kb kl ka kq hs
  | calRunComplete => exact execCalRunComplete_kept kk kc kt kh kv kb ka.toD hs
  | columnSwap => exact execColumnSwap_kept kk kc kt kb ka.toD hs
  | zeroResultExpire => exact execZeroResultExpire_kept kh ka.toD hs
  | probe => exact execProbe_kept ka.toD hs
  | driftMonitor => exact execDriftMonitor_kept ka.toD hs
  | calEscalate => exact execCalEscalate_kept kk kt kb ka.toD hs
  | refreshAge => exact execRefreshAge_kept kk kc kt kb ka.toD hs
  | bucketSend => exact execBucketSend_kept kk km kc ka.toD hs
  | tensorSend => exact execTensorSend_kept kk kc ka.toD hs
  | sealSend => exact execSealSend_kept kk km kc kt kh kv kb ka.toD ka.toN hs
  | frameRoute => exact execFrameRoute_kept kk kl ka.toD hs
  | gapTimeout => exact execGapTimeout_kept kk ka.toD hs
  | linkAck => exact execLinkAck_kept kk kl hs
  | linkNak => exact execLinkNak_kept kk ka.toD hs
  | linkCredit => exact execLinkCredit_kept kk kl hs
  | contributionReceive => exact execContributionReceive_kept kk kc ka.toD hs
  | tensorReceive => exact execTensorReceive_kept kk km kc kt ka.toD hs
  | retractReceive => exact execRetractReceive_kept kk km kc kt ka.toD hs
  | sealReceive => exact execSealReceive_kept kk kc kh ka.toD hs
  | sealRefusalReceive => exact execSealRefusalReceive_kept kk kc ka.toD hs
  | gatherReceive => exact execGatherReceive_kept kk kc kh ka.toD hs
  | normPartialReceive => exact execNormPartialReceive_kept kk kc ka.toD hs
  | normPartialSend => exact execNormPartialSend_kept kk kc ka.toD hs
  | sealTimeout => exact execSealTimeout_kept kk ka.toD hs
  | spokeTrain => exact execSpokeTrain_kept kk kl ka.toD hs
  | spokeTrainRetry => exact execSpokeTrainRetry_kept kk kl ka.toD hs
  | spokeRetrain => exact execSpokeRetrain_kept kk kl ka.toD hs
  | spokeDown => exact execSpokeDown_kept kk km kc kt ks kg kh kv kb kl ka kq hs
  | spokeTrainStart => exact execSpokeTrainStart_kept kk km kc kt ks kg kh kv kb kl ka kq hs
  | spokeForceRetrain => exact execSpokeForceRetrain_kept kk km kc kt ks kg kh kv kb kl ka kq hs
  | positionWrite => exact execPositionWrite_kept kk km kc kt ks kg kh kv kb kl ka kq hs
  | updateStart => exact execUpdateStart_kept kk kc kh ka.toD hs
  | updateComplete => exact execUpdateComplete_kept kk km kc kt kh ka.toD hs
  | transferPassStart => exact execTransferPassStart_kept kk kt ka.toD hs
  | transferRowComplete => exact execTransferRowComplete_kept kk kc kt kb ka.toD hs
  | governorEvaluate => exact execGovernorEvaluate_kept kk kt ka.toD hs
  | riskEvaluate => exact execRiskEvaluate_kept kk kc kh ka.toD hs
  | draftFrameReceive => exact execDraftFrameReceive_kept kk kc ka.toD hs
  | draftReceipt => exact execDraftReceipt_kept kk km kc kt ks kg kh kv kb kl ka kq hs
  | slotEnable => exact execSlotEnable_kept kk km kc kt ks kg kh kv kb kl ka kq hs
  | restoreStart => exact execRestoreStart_kept kk km kc kt ks kg kh kv kb kl ka kq hs
  | sendBack => exact execSendBack_kept kk km kc kt ks kg kh kv kb kl ka kq hs
  | restoreApply => exact execRestoreApply_kept kk km kc kt kv kb ka.toD ka.toN hs
  | restoreTimeout => exact execRestoreTimeout_kept kk kc kv ka.toD hs
  | unitSuspect => exact execUnitSuspect_kept kk kc kv ka.toD ka.toN hs
  | suspectReplace => exact execSuspectReplace_kept kk km kc kt kb ka.toD hs
  | spareCourseHandover => exact execSpareCourseHandover_kept kk km kc kt kb ka.toD hs
  | logClear => exact execLogClear_kept kk km kc kt ks kg kh kv kb kl ka kq hs
  | enterActive => exact execEnterActive_kept kk km kc kt ks kg kh kv kb kl ka kq hs
  | enterQuiet => exact execEnterQuiet_kept kk km kc kt ks kg kh kv kb kl ka kq hs
  | enterRetain => exact execEnterRetain_kept kk km kc kt ks kg kh kv kb kl ka kq hs
  | enterKeystoneOnly => exact execEnterKeystoneOnly_kept kk km kc kt ks kg kh kv kb kl ka kq hs
  | quiescence => exact execQuiescence_kept kk kt kg hs
  | powerStateReached => exact execPowerStateReached_kept kk km kc kt ks kg kh kv kl ka.toD ka.toN kq hs
  | wake => exact execWake_kept kk kg ka.toD hs
  | boardLimitWrite => exact execBoardLimitWrite_kept kk km kc kt ks kg kh kv kb kl ka kq hs
  | budgetSplitWrite => exact execBudgetSplitWrite_kept kk km kc kt ks kg kh kv kb kl ka kq hs
  | powerGovern => exact execPowerGovern_kept kh ka.toD hs
  | powerFastClamp => exact execPowerFastClamp_kept kh ka.toD hs
  | coreSetpointWrite => exact execCoreSetpointWrite_kept kk km kc kt ks kg kh kv kb kl ka kq hs
  | droopDetect => exact execDroopDetect_kept kh ka.toD hs
  | droopRecover => exact execDroopRecover_kept kh ka.toD hs
  | thermalThrottle => exact execThermalThrottle_kept kh ka.toD hs
  | thermalRecover => exact execThermalRecover_kept kh ka.toD hs
  | thermalCrawl => exact execThermalCrawl_kept kh ka.toD hs
  | thermalCrawlEnd => exact execThermalCrawlEnd_kept kh ka.toD hs
  | thermalTrip => exact execThermalTrip_kept kk km kc kt ks kg kh kv kl ka.toD ka.toN kq hs
  | energyReconcile => exact execEnergyReconcile_kept kk kc ka.toD ka.toN hs
  | entropyFailure => exact execEntropyFailure_kept kk ks ka.toD hs
  | commitKeystone => exact execCommitKeystone_kept kk km kc kt ks kg kh kv kb kl ka kq hs
  | commitHalfComponent => exact execCommitHalfComponent_kept kk km kc kt ks kg kh kv kb kl ka kq hs
  | treeBuild => exact execTreeBuild_kept kk ks hs
  | challenge => exact execChallenge_kept kk ks ka.toD hs
  | getMeasurements => exact execGetMeasurements_kept kk ks ka.toD hs
  | getCertificate => exact execGetCertificate_kept kk hs
  | keyExchange => exact execKeyExchange_kept kk ks ka.toD hs
  | keyUpdate => exact execKeyUpdate_kept kk ks hs
  | spdmHeartbeat => exact execSpdmHeartbeat_kept kk hs
  | sessionHeartbeatTimeout => exact execSessionHeartbeatTimeout_kept kk kc ks kv ka.toN hs
  | sessionEnd => exact execSessionEnd_kept kk kc ks kv ka.toN hs
  | ownerRootInstall => exact execOwnerRootInstall_kept kk km kc kt kg kh kv kb ka.toD ka.toN kq hs
  | releaseOwnership => exact execReleaseOwnership_kept kk km kc kt ks kg kh kv kb kl ka kq hs
  | sealingKeyInstall => exact execSealingKeyInstall_kept kk km kc kt ks kg kh kv kb kl ka kq hs
  | clearSealingSlot => exact execClearSealingSlot_kept kk km kc kt ks kg kh kv kb kl ka kq hs
  | rebind => exact execRebind_kept kk km kc kt ks kg kh kv kb kl ka kq hs
  | releaseIdeHold => exact execReleaseIdeHold_kept kk km kc kt ks kg kh kv kb kl ka kq hs
  | pelotonKeyInstall => exact execPelotonKeyInstall_kept kk km kc kt ks kg kh kv kb kl ka kq hs
  | pelotonKeyAdvance => exact execPelotonKeyAdvance_kept kk km kc kt ks kg kh kv kb kl ka kq hs
  | previousKeyDestroy => exact execPreviousKeyDestroy_kept kk ks ka.toD hs
  | sanitize => exact execSanitize_kept kk km kc kt ks kg kh kv kb kl ka kq hs
  | signStatement => exact execSignStatement_kept kk km kc kt ks kg kh kv kb kl ka kq hs
  | serviceCommand => exact execServiceCommand_kept kk km kc kt kg kh kv kb ka.toD ka.toN kq hs
  | halfReset => exact execHalfReset_kept kk km kc kt ks kg kh kv kb kl ka kq hs
  | tileReset => exact execTileReset_kept kk km kc kt ks kg kh kv kb kl ka kq hs
  | plumbDue => exact execPlumbDue_kept kk kt ka.toD hs
  | plumbCheck => exact execPlumbCheck_kept kk kc kt kb ka.toD hs
  | plumbRelocate => exact execPlumbRelocate_kept kk kt kb ka.toD hs
  | memoryError => exact execMemoryError_kept kk kc kv ka.toD ka.toN hs
  | tspRequest => exact execTspRequest_kept kk ks hs
  | configurationRequest => exact execConfigurationRequest_kept kk kc kg kv ka.toD ka.toN kq hs

/-- A step keeps what every kind of update and a shorter queue keep. -/
theorem step_kept {P : State → Prop} (kk : Kept P) (km : KeptM P) (kc : KeptC P) (kt : KeptT P) (ks : KeptS P)
    (kg : KeptK P) (kh : KeptH P) (kv : KeptV P) (ku : KeptU P) (kb : KeptB P) (kl : KeptL P) (ka : KeptA P)
    (kq : KeptQ P) {s : State} (hrest : ∀ c rest, s.pending = c :: rest → P { s with pending := rest }) (hs : P s) :
    KeptR P (step s) := by
  unfold step
  split
  · exact KeptR.next (State.elapse_kept kk km kc kt ks kg kh kv kb kl ka kq hs)
  · next c rest hp => exact exec_kept kk km kc kt ks kg kh kv ku kb kl ka kq (hrest c rest hp)

/-- A step keeps the canonical form. -/
theorem step_canon {s : State} (h : Canon s) : KeptR Canon (step s) :=
  step_kept canon_kept canon_keptM canon_keptC canon_keptT canon_keptS canon_keptK canon_keptH canon_keptV canon_keptU
    canon_keptB canon_keptL canon_keptA canon_keptQ (fun _ _ _ => h) h

/-- Settles O53: each of the kinds of update that a step makes keeps the canonical form and the bound. -/
theorem everyStepKeepsTheStoresCanonical : Obligations.EveryStepKeepsTheStoresCanonical := by
  unfold Obligations.EveryStepKeepsTheStoresCanonical
  intro s t hstep hcanonical hbounded
  exact (canon_iff t).mp (step_canon ((canon_iff s).mpr ⟨hcanonical, hbounded⟩) t hstep)

end Sys2Proof.Machine
end

section
/-! SUPPORT. Reading back what an operation on registers, halves and the device cache leaves: the shared laws of the
fence and of the lead (R20 to R29). -/

namespace Sys2Proof.Safety

open Sys2Proof Sys2Proof.Machine

variable {s t v : State} {i : Nat}

/-! ### Registers of an object that stays -/

theorem SameObject.refl (i : Nat) (s : State) : SameObject i s s := fun _ _ => rfl

theorem SameObject.trans (h : SameObject i s t) (h' : SameObject i t v) : SameObject i s v :=
  fun u sub => (h' u sub).trans (h u sub)

theorem SameObject.reg (h : SameObject i s t) (sub : Nat) : t.reg i sub = s.reg i sub := h 0 sub

theorem SameObject.val (h : SameObject i s t) (sub : Nat) : t.val i sub = s.val i sub := by
  unfold State.val State.valAt
  rw [h]

theorem SameObject.flag (h : SameObject i s t) (sub b : Nat) : t.flag i sub b = s.flag i sub b := by
  unfold State.flag
  rw [h.reg]

theorem SameObject.holder (h : SameObject 0x0040 s t) : t.holder = s.holder := h.val 0x01

theorem SameObject.epoch (h : SameObject 0x0040 s t) : t.epoch = s.epoch := h.val 0x02

theorem SameObject.fence (h : SameObject 0x0041 s t) (k : HalfId) : t.fence k = s.fence k := h.val _

theorem SameObject.count (h : SameObject 0x1005 s t) : t.count = s.count := by
  unfold State.count State.val64 State.val64At State.valAt
  rw [h, h]

/-- An operation that writes listed objects leaves every other one. -/
theorem sameObject_of_keptD {W : List Nat} (h : W.all (fun j => i % 65536 != j % 65536) = true)
    (k : KeptD (SameObject i s) W → SameObject i s t) : SameObject i s t :=
  k (sameObject_keptD s (by simpa using h))

/-- An operation that writes listed objects changes those alone. -/
theorem onlyIn_of_keptD {W : List Nat} (hW : W.all (fun j => decide (j < 65536)) = true)
    (k : ∀ i, KeptD (SameObject i s) W → SameObject i s t) : OnlyIn W s t := by
  intro i hi hne
  refine k i (sameObject_keptD s fun j hj => ?_)
  have hj' : j < 65536 := by simpa using List.all_eq_true.mp hW j hj
  have : i ≠ j := fun e => hne (e ▸ hj)
  omega

theorem SameHalves.half (h : SameHalves s t) (k : HalfId) : t.half k = s.half k := by
  cases k
  · exact h.1
  · exact h.2

end Sys2Proof.Safety

namespace Sys2Proof.Machine

open Sys2Proof Sys2Proof.Safety

variable {s : State}

/-! ### Words written -/

theorem toWord_toNat {n : Nat} (h : n < 2 ^ 32) : (toWord n).toNat = n := by
  unfold toWord
  rw [BitVec.toNat_ofNat, Nat.mod_eq_of_lt h]

theorem State.val_put_self {i sub n : Nat} (h : n < 2 ^ 32) : (s.put i sub n).val i sub = n := by
  unfold State.val State.valAt
  rw [State.regAt_put, if_pos rfl, toWord_toNat h]

theorem State.reg_bump_self {i sub : Nat} : (s.bump i sub).reg i sub = s.reg i sub + 1 := by
  unfold State.reg
  rw [State.regAt_bump, if_pos rfl]

theorem State.val64_lt {i sub : Nat} : s.val64 i sub < 2 ^ 64 := by
  have h0 : s.valAt 0 i sub < 2 ^ 32 := BitVec.isLt _
  have h1 : s.valAt 0 i (sub + 1) < 2 ^ 32 := BitVec.isLt _
  unfold State.val64 State.val64At
  omega

theorem State.val64_put64_self {i sub n : Nat} (h : n < 2 ^ 64) : (s.put64 i sub n).val64 i sub = n := by
  have hk : dkey 0 i (sub + 1) ≠ dkey 0 i sub := by simp only [Ne, dkey_unit]; omega
  unfold State.val64 State.val64At State.valAt State.put64
  rw [State.regAt_put64At, if_neg hk, if_pos rfl, State.regAt_put64At, if_pos rfl,
    toWord_toNat (n := n / 2 ^ 32) (Nat.div_lt_of_lt_mul h), BitVec.toNat_ofNat]
  exact Nat.mod_add_div n (2 ^ 32)

/-- A word other than the one written. -/
theorem State.reg_put_ne {i sub n sub' : Nat} (h : sub % 256 ≠ sub' % 256) :
    (s.put i sub n).reg i sub' = s.reg i sub' := by
  unfold State.reg
  rw [State.regAt_put, if_neg (by simp [h])]

theorem State.reg_bump_ne {i sub sub' : Nat} (h : sub % 256 ≠ sub' % 256) :
    (s.bump i sub).reg i sub' = s.reg i sub' := by
  unfold State.reg
  rw [State.regAt_bump, if_neg (by simp [h])]

/-! ### Bits -/

/-- The number above and below the bit stays. -/
theorem putBit_eq (n i : Nat) (v : Bool) :
    putBit n i v = 2 ^ i * (2 * (n / 2 ^ i / 2) + v.toNat) + n % 2 ^ i := by
  have hn := Nat.div_add_mod n (2 ^ i)
  have hq := Nat.div_add_mod (n / 2 ^ i) 2
  unfold putBit
  set q := n / 2 ^ i
  set r := n % 2 ^ i
  have : n = 2 ^ i * (2 * (q / 2)) + 2 ^ i * (q % 2) + r := by rw [← mul_add, hq, hn]
  cases v <;> simp [mul_add] <;> rw [mul_comm (q % 2)] <;> omega

theorem testBit_putBit (n i j : Nat) (v : Bool) :
    (putBit n i v).testBit j = if j = i then v else n.testBit j := by
  have hr : n % 2 ^ i < 2 ^ i := Nat.mod_lt _ (Nat.two_pow_pos i)
  have hn : n.testBit j = if j < i then (n % 2 ^ i).testBit j else (n / 2 ^ i).testBit (j - i) := by
    conv_lhs => rw [← Nat.div_add_mod n (2 ^ i)]
    exact Nat.testBit_two_pow_mul_add _ hr j
  rw [putBit_eq, Nat.testBit_two_pow_mul_add _ hr, hn]
  rcases lt_trichotomy j i with hji | rfl | hji
  · simp [hji, hji.ne]
  · cases v <;> simp [Nat.testBit_zero, Nat.add_mod]
  · obtain ⟨k, rfl⟩ : ∃ k, j = i + k + 1 := ⟨j - i - 1, by omega⟩
    have : i + k + 1 - i = k + 1 := by omega
    have hv : (2 * (n / 2 ^ i / 2) + v.toNat) / 2 = n / 2 ^ i / 2 := by cases v <;> simp; omega
    rw [if_neg (by omega), if_neg (by omega), if_neg (by omega), this, Nat.testBit_succ, Nat.testBit_succ, hv]
/-- A bit written reads back, and every other one reads as before. -/
theorem State.flag_putFlag {i sub b j : Nat} {v : Bool} :
    (s.putFlag i sub b v).flag i sub j = if j = b then decide (j < 32) && v else s.flag i sub j := by
  have hold : s.flag i sub j = (decide (j < 32) && (s.valAt 0 i sub).testBit j) := by
    unfold State.flag State.reg State.valAt bit
    rw [← BitVec.getLsbD_ofNat, BitVec.ofNat_toNat, BitVec.setWidth_eq]
  rw [hold]
  unfold State.flag State.reg bit
  rw [State.regAt_putFlag, if_pos rfl, BitVec.getLsbD_ofNat, testBit_putBit]
  split <;> rfl

/-! ### A half changed -/

@[simp] theorem State.half_setHalf_self {h : HalfId} {c : HalfCtl} : (s.setHalf h c).half h = c := by
  cases h <;> rfl

@[simp] theorem State.half_modHalf_self {h : HalfId} {f : HalfCtl → HalfCtl} : (s.modHalf h f).half h = f (s.half h) :=
  State.half_setHalf_self

/-! ### An output shown -/

/-- Showing an output emits at most one message. -/
theorem State.repin_cases (s old : State) (p : Pin) : s.repin old p = s ∨ ∃ o, s.repin old p = s.emit o := by
  unfold State.repin
  split
  · exact .inl rfl
  · exact .inr ⟨_, rfl⟩

@[simp] theorem State.repin_dict {old : State} {p : Pin} : (s.repin old p).dict = s.dict := by
  rcases State.repin_cases s old p with e | ⟨o, e⟩ <;> rw [e]
  exact State.emit_dict

@[simp] theorem State.repin_port {old : State} {p : Pin} : (s.repin old p).port = s.port := by
  rcases State.repin_cases s old p with e | ⟨o, e⟩ <;> rw [e]
  exact State.emit_port

@[simp] theorem State.repin_half0 {old : State} {p : Pin} : (s.repin old p).half0 = s.half0 := by
  rcases State.repin_cases s old p with e | ⟨o, e⟩ <;> rw [e]
  exact State.emit_half0

@[simp] theorem State.repin_half1 {old : State} {p : Pin} : (s.repin old p).half1 = s.half1 := by
  rcases State.repin_cases s old p with e | ⟨o, e⟩ <;> rw [e]
  exact State.emit_half1

theorem State.repin_sameObject {i : Nat} {old : State} {p : Pin} : SameObject i s (s.repin old p) :=
  fun _ _ => State.regAt_of_dict State.repin_dict

/-! ### The holder of the lead -/

theorem State.setHolder_holder {n : Nat} (h : n < 2 ^ 32) : (s.setHolder n).holder = n := by
  unfold State.setHolder
  split
  · next e => exact e
  · unfold State.holder State.val State.valAt
    rw [State.regAt_bump, if_neg (by simp), State.regAt_put, if_pos rfl, toWord_toNat h]

@[simp] theorem State.setHolder_epoch {n : Nat} : (s.setHolder n).epoch = s.epoch := by
  unfold State.setHolder
  split
  · rfl
  · unfold State.epoch State.val State.valAt
    rw [State.regAt_bump, if_neg (by simp), State.regAt_put, if_neg (by simp)]

theorem halfNum_le (h : HalfId) : halfNum h ≤ 1 := by cases h <;> decide

theorem halfOf_halfNum (h : HalfId) : halfOf (halfNum h) = h := by cases h <;> rfl

/-! ### Branches -/

theorem kept_ite {P : State → Prop} {c : Prop} [Decidable c] {a b : State} (ha : P a) (hb : P b) :
    P (if c then a else b) := by split <;> assumption

/-! ### Replace reasons (R32) -/

theorem raiseReplace_flag {h : HalfId} {b : Nat} (hb : b < 32) :
    (s.raiseReplace h b).flag 0x0080 (0x01 + halfNum h) b = true := by
  have hset : (s.putFlag 0x0080 (0x01 + halfNum h) b true).flag 0x0080 (0x01 + halfNum h) b = true := by
    rw [State.flag_putFlag, if_pos rfl, decide_eq_true hb, Bool.and_self]
  unfold State.raiseReplace
  dsimp only
  split
  · exact hset
  · refine Eq.trans ?_ hset
    unfold State.flag State.reg State.put64
    cases h <;> rw [State.regAt_put, if_neg (by decide), State.regAt_put64At, if_neg (by decide), if_neg (by decide)]

end Sys2Proof.Machine
end

section
/-! PROOF. O8: loss of a bridge fences a running half, and its draw is confirmed or its power removed (R28, R29, R496). -/

namespace Sys2Proof.Machine

open Sys2Proof Sys2Proof.Safety

variable {s : State} {h : HalfId}

/-! ### The half is dropped (R28 phase 4) -/

/-- A half that held the lead holds it no more, and the writes held for it are refused. -/
def State.withoutLead (s : State) (h : HalfId) : State :=
  if s.holder = halfNum h then (s.setHolder 0xFF).refuseHeld else s

theorem refuseHeld_sameObject {i : Nat} (hi : i % 65536 ≠ 0x0010) : SameObject i s s.refuseHeld :=
  State.refuseHeld_kept (sameObject_kept i s) (sameObject_keptK i s) (sameObject_keptD s (by simpa using hi))
    (SameObject.refl i s)

theorem withoutLead_holder :
    (s.withoutLead h).holder = if s.holder = halfNum h then 0xFF else s.holder := by
  unfold State.withoutLead
  split
  · rw [(refuseHeld_sameObject (by decide)).holder, State.setHolder_holder (by decide)]
  · rfl

theorem withoutLead_epoch : (s.withoutLead h).epoch = s.epoch := by
  unfold State.withoutLead
  split
  · rw [(refuseHeld_sameObject (by decide)).epoch, State.setHolder_epoch]
  · rfl

theorem withoutLead_halves : SameHalves s (s.withoutLead h) := by
  unfold State.withoutLead
  split
  · exact State.refuseHeld_kept (sameHalves_kept s) (sameHalves_keptK s) (sameHalves_keptA s).toD
      (State.setHolder_kept (sameHalves_keptA s).toD ⟨rfl, rfl⟩)
  · exact ⟨rfl, rfl⟩

/-- What waited for the half's manager is refused. -/
def State.withoutQueue (s : State) (h : HalfId) : State :=
  ((s.half h).tier1.foldl (fun t w => t.refuseWrite w 0x3004) s).modHalf h (fun c => { c with tier1 := [] })

theorem withoutQueue_half : (s.withoutQueue h).half h = { s.half h with tier1 := [] } := by
  have hs : SameHalves s ((s.half h).tier1.foldl (fun t w => t.refuseWrite w 0x3004) s) :=
    Kept.foldl (fun _ _ => State.refuseWrite_kept (sameHalves_kept s) (sameHalves_keptA s).toD) ⟨rfl, rfl⟩
  unfold State.withoutQueue
  rw [State.half_modHalf_self, hs.half]

theorem dropHalf_eq : s.dropHalf h = (((s.withoutLead h).withoutQueue h).flushCache h).cancelSnoops h := rfl

/-- Once the lead is settled, dropping a half leaves the lead word. -/
theorem dropHalf_lead : SameObject 0x0040 (s.withoutLead h) (s.dropHalf h) := by
  have kk := sameObject_kept 0x0040 (s.withoutLead h)
  rw [dropHalf_eq]
  refine sameObject_of_keptD (W := [0x0010, 0xA003, 0xA004]) (by decide) fun kd => ?_
  have hq : SameObject 0x0040 (s.withoutLead h) ((s.withoutLead h).withoutQueue h) :=
    State.modHalf_kept (sameObject_keptH _ _)
      (Kept.foldl (fun _ _ => State.refuseWrite_kept kk (kd.mono (by decide))) (SameObject.refl _ _))
  exact State.cancelSnoops_kept kk (kd.mono (by decide)) (State.flushCache_kept kk (kd.mono (by decide)) hq)

theorem dropHalf_half : (s.dropHalf h).half h = { s.half h with tier1 := [] } := by
  have hs : SameHalves ((s.withoutLead h).withoutQueue h) (s.dropHalf h) :=
    State.cancelSnoops_kept (sameHalves_kept _) (sameHalves_keptA _).toD
      (State.flushCache_kept (sameHalves_kept _) (sameHalves_keptA _).toD ⟨rfl, rfl⟩)
  rw [hs.half, withoutQueue_half, withoutLead_halves.half]

/-- Cancelling snoops keeps the device cache. -/
theorem cancelSnoops_cache : (s.cancelSnoops h).port.cache = s.port.cache := by
  unfold State.cancelSnoops
  dsimp only
  exact Kept.foldl (P := fun t => t.port.cache = s.port.cache)
    (fun t _ ht => by rw [State.bump_port, State.emit_port, ht]) rfl

/-- No line of the half stands in the device cache. -/
def State.noLines (s : State) (h : HalfId) : Prop := ∀ l ∈ s.port.cache, l.half ≠ h

theorem noLines_of_port {t : State} (e : t.port = s.port) (hs : s.noLines h) : t.noLines h := by
  unfold State.noLines
  rw [e]
  exact hs

theorem flushCache_noLines : (s.flushCache h).noLines h := by
  intro l hl
  simpa using (List.mem_filter.mp hl).2

theorem dropHalf_noLines : (s.dropHalf h).noLines h := by
  unfold State.noLines
  rw [dropHalf_eq, cancelSnoops_cache]
  exact flushCache_noLines

/-! ### The contexts of the half hold (R28 phase 3) -/

theorem fenceContexts_port : (s.fenceContexts h).port = s.port := by
  unfold State.fenceContexts
  refine Kept.foldl (P := fun t => t.port = s.port) (fun t n ht => ?_) rfl
  split
  · split
    · rw [State.setCtx_port, State.setReason, State.putFlag_port, ht]
    · exact ht
  · exact ht

theorem fenceContexts_halves : SameHalves s (s.fenceContexts h) :=
  State.fenceContexts_kept (sameHalves_kept s) (sameHalves_keptC s) (sameHalves_keptA s).toN ⟨rfl, rfl⟩

theorem fenceContexts_sameObject {i : Nat} (hi : i < 0x8000) : SameObject i s (s.fenceContexts h) :=
  State.fenceContexts_kept (sameObject_kept i s) (sameObject_keptC i s) (sameObject_keptN s (.inl hi) (by omega))
    (SameObject.refl i s)

/-! ### A fence is declared (R28) -/

/-- A fence's first act: the half's fence state, its draw unconfirmed, its count and time. -/
def State.fenceNoted (s : State) (h : HalfId) : State :=
  let t := (s.setFence h 1).modHalf h (fun c => { c with lastGrant := s.grant h, confirmed := false, crawlFence := true })
  (t.bump 0x0041 0x05).put64 0x0041 0x06 t.count

/-- A fence's registers noted, the half is dropped, its reason raised, its telemetry moved and its contexts held. -/
def State.fenceDone (s : State) (h : HalfId) : State :=
  ((((s.fenceNoted h).dropHalf h).raiseReplace h 3).telemetryHome h).fenceContexts h

theorem declareFence_eq :
    s.declareFence h = (((s.fenceDone h).throttle h).regrant).repin s .clkobs := rfl

theorem fenceNoted_sameObject {i : Nat} (hi : i % 65536 ≠ 0x0041) : SameObject i s (s.fenceNoted h) := by
  have k : KeptAt (SameObject i s) 0x0041 := sameObject_at hi
  exact State.put64_kept k (State.bump_kept k
    (State.modHalf_kept (sameObject_keptH i s) (State.put_kept k (SameObject.refl i s))))

theorem fenceNoted_fence : (s.fenceNoted h).fence h = 1 := by
  unfold State.fenceNoted State.fence State.val State.valAt State.put64 State.setFence
  cases h <;> simp [State.regAt_put64At, State.regAt_bump, State.regAt_put, halfNum]

theorem fenceNoted_counted : (s.fenceNoted h).reg 0x0041 0x05 = s.reg 0x0041 0x05 + 1 := by
  unfold State.fenceNoted State.reg State.put64 State.setFence
  cases h <;> simp [State.regAt_put64At, State.regAt_bump, State.regAt_put, halfNum]

theorem fenceNoted_timed : (s.fenceNoted h).val64 0x0041 0x06 = s.count := by
  have hc {t : State} {f : HalfCtl → HalfCtl} : ((t.setFence h 1).modHalf h f).count = t.count :=
    SameObject.count (State.modHalf_kept (sameObject_keptH _ _)
      (State.put_kept (sameObject_at (by decide)) (SameObject.refl 0x1005 t)))
  unfold State.fenceNoted
  exact (State.val64_put64_self State.val64_lt).trans hc

theorem fenceNoted_half : (s.fenceNoted h).half h =
    { s.half h with lastGrant := s.grant h, confirmed := false, crawlFence := true } := by
  have hs {t : State} {n : Nat} : SameHalves t ((t.bump 0x0041 0x05).put64 0x0041 0x06 n) := ⟨by simp, by simp⟩
  have hf : SameHalves s (s.setFence h 1) := ⟨by simp, by simp⟩
  unfold State.fenceNoted
  rw [hs.half, State.half_modHalf_self, hf.half]

/-- What follows the first act of a fence leaves the fence's registers (R31). -/
theorem fenceDone_fenceObject : SameObject 0x0041 (s.fenceNoted h) (s.fenceDone h) := by
  have kk := sameObject_kept 0x0041 (s.fenceNoted h)
  refine sameObject_of_keptD (W := [0x0010, 0x0011, 0x0040, 0x0080, 0xA003, 0xA004]) (by decide) fun kd => ?_
  exact State.fenceContexts_kept kk (sameObject_keptC _ _) (sameObject_keptN _ (by decide) (by decide))
    (State.telemetryHome_kept (kd.mono (by decide)) (State.raiseReplace_kept (kd.mono (by decide))
      (State.dropHalf_kept kk (sameObject_keptK _ _) (sameObject_keptH _ _) (kd.mono (by decide))
        (SameObject.refl _ _))))

/-- Once the half is dropped the rest of a fence leaves the lead word. -/
theorem fenceDone_lead : SameObject 0x0040 ((s.fenceNoted h).dropHalf h) (s.fenceDone h) := by
  refine sameObject_of_keptD (W := [0x0011, 0x0080]) (by decide) fun kd => ?_
  exact State.fenceContexts_kept (sameObject_kept _ _) (sameObject_keptC _ _)
    (sameObject_keptN _ (by decide) (by decide))
    (State.telemetryHome_kept (kd.mono (by decide)) (State.raiseReplace_kept (kd.mono (by decide))
      (SameObject.refl _ _)))

/-- Past the dropping of the half a fence changes neither half manager. -/
theorem fenceDone_halves : SameHalves ((s.fenceNoted h).dropHalf h) (s.fenceDone h) :=
  State.fenceContexts_kept (sameHalves_kept _) (sameHalves_keptC _) (sameHalves_keptA _).toN
    (State.telemetryHome_kept (sameHalves_keptA _).toD (State.raiseReplace_kept (sameHalves_keptA _).toD ⟨rfl, rfl⟩))

theorem fenceDone_noLines : (s.fenceDone h).noLines h := by
  refine noLines_of_port ?_ (dropHalf_noLines (s := s.fenceNoted h))
  unfold State.fenceDone
  rw [fenceContexts_port]
  unfold State.telemetryHome
  rw [State.putFlag_port, State.raiseReplace_port]

theorem fenceDone_reason : (s.fenceDone h).flag 0x0080 (0x01 + halfNum h) 3 = true := by
  unfold State.fenceDone
  have ht {t : State} : SameObject 0x0080 t (t.telemetryHome h) :=
    sameObject_of_keptD (W := [0x0011]) (by decide) fun kd => State.telemetryHome_kept kd (SameObject.refl _ _)
  rw [(fenceContexts_sameObject (by decide)).flag, ht.flag]
  exact raiseReplace_flag (by decide)

/-- The cadence, the grants and the outputs brought up to date at a fence's end. -/
theorem declareFence_regAt {u i sub : Nat}
    (hi : i % 65536 ≠ 0x1011 ∧ i % 65536 ≠ 0x1012 ∧ i % 65536 ≠ 0x1013 ∧ i % 65536 ≠ 0x1015 ∧ i % 65536 ≠ 0x1016)
    (hs : i % 65536 = 0x0041 → sub % 256 ≠ 0x03 ∧ sub % 256 ≠ 0x04) :
    (s.declareFence h).regAt u i sub = (s.fenceDone h).regAt u i sub := by
  obtain ⟨h1, h2, h3, h4, h5⟩ := hi
  rw [declareFence_eq, State.regAt_of_dict State.repin_dict, regrant_words, throttle_regAt ⟨h2, h3, h4, h5⟩]
  simp only [dkey_inj]
  rw [if_neg (by omega), if_neg (by omega), if_neg (by omega), if_neg (by omega), if_neg (by omega)]

theorem declareFence_halves : SameHalves (s.fenceDone h) (s.declareFence h) := by
  rw [declareFence_eq]
  exact ⟨by simp, by simp⟩

theorem declareFence_fenceObject (sub : Nat) (hs : sub % 256 ≠ 0x03 ∧ sub % 256 ≠ 0x04) :
    (s.declareFence h).reg 0x0041 sub = (s.fenceNoted h).reg 0x0041 sub := by
  unfold State.reg
  rw [declareFence_regAt (by decide) (fun _ => hs), fenceDone_fenceObject]

theorem declareFence_fence : (s.declareFence h).fence h = 1 := by
  rw [← fenceNoted_fence (s := s) (h := h)]
  exact congrArg BitVec.toNat (declareFence_fenceObject (0x01 + halfNum h) (by cases h <;> decide))

theorem declareFence_timed : (s.declareFence h).val64 0x0041 0x06 = s.count := by
  have h6 := declareFence_fenceObject (s := s) (h := h) 0x06 (by decide)
  have h7 := declareFence_fenceObject (s := s) (h := h) (0x06 + 1) (by decide)
  rw [← fenceNoted_timed (h := h)]
  unfold State.reg at h6 h7
  unfold State.val64 State.val64At State.valAt
  rw [h6, h7]

/-- The lead word as the loss of the half leaves it. -/
theorem declareFence_lead : SameObject 0x0040 ((s.fenceNoted h).withoutLead h) (s.declareFence h) := by
  have hend : SameObject 0x0040 (s.fenceDone h) (s.declareFence h) :=
    fun _ _ => declareFence_regAt (by decide) nofun
  exact (dropHalf_lead.trans fenceDone_lead).trans hend

theorem declareFence_holder : (s.declareFence h).holder = if s.holder = halfNum h then 0xFF else s.holder := by
  rw [declareFence_lead.holder, withoutLead_holder, (fenceNoted_sameObject (by decide)).holder]

theorem declareFence_epoch : (s.declareFence h).epoch = s.epoch := by
  rw [declareFence_lead.epoch, withoutLead_epoch, (fenceNoted_sameObject (by decide)).epoch]

theorem declareFence_reason : (s.declareFence h).flag 0x0080 (0x01 + halfNum h) 3 = true := by
  rw [← fenceDone_reason (s := s) (h := h)]
  exact congrArg (bit · 3) (declareFence_regAt (by decide) nofun)

theorem declareFence_noLines : (s.declareFence h).noLines h := by
  refine noLines_of_port ?_ (fenceDone_noLines (s := s))
  rw [declareFence_eq]
  simp

theorem declareFence_half : (s.declareFence h).half h =
    { s.half h with lastGrant := s.grant h, confirmed := false, crawlFence := true, tier1 := [] } := by
  rw [declareFence_halves.half, fenceDone_halves.half, dropHalf_half, fenceNoted_half]

theorem declareFence_hbm : SameHbm s (s.declareFence h) :=
  State.declareFence_kept (sameHbm_kept s) (sameHbm_keptC s) (sameHbm_keptK s) (sameHbm_keptH s)
    (sameHbm_keptA s).toD (sameHbm_keptA s).toN ⟨rfl, rfl⟩

/-! ### A half's rails go off -/

theorem railsOff_half {p : HalfPhase} : ((s.railsOff h p).half h).phase = p := by
  have hs {t : State} : SameHalves t (((((t.dropReady h).halfLocks h false).throttle h).repin s (.spokes h)).repin s
      .clkobs) := by
    have hd : SameHalves t ((t.dropReady h).halfLocks h false) :=
      State.halfLocks_kept (sameHalves_keptA t).toD (State.dropReady_kept (sameHalves_keptA t).toD ⟨rfl, rfl⟩)
    exact ⟨by simpa using hd.1, by simpa using hd.2⟩
  unfold State.railsOff
  rw [hs.half, State.half_modHalf_self]

/-- Nothing of a half whose rails are off is ready (R99). -/
theorem railsOff_ready {p : HalfPhase} : (s.railsOff h p).val 0x1002 (0x04 + halfNum h) = 0 := by
  have hd {t : State} : (t.dropReady h).val 0x1002 (0x04 + halfNum h) = 0 := by
    unfold State.dropReady State.val State.valAt
    cases h <;> simp [State.regAt_putFlag, State.regAt_put, halfNum]
  have hl {t : State} : SameObject 0x1002 t ((t.halfLocks h false).throttle h) :=
    sameObject_of_keptD (W := [0x1001, 0x1012, 0x1013, 0x1015, 0x1016]) (by decide) fun kd =>
      State.throttle_kept (kd.mono (by decide)) (State.halfLocks_kept (kd.mono (by decide)) (SameObject.refl _ _))
  unfold State.railsOff
  rw [(State.repin_sameObject).val, (State.repin_sameObject).val, hl.val, hd]

/-! ### The start of a half fails (R496) -/

/-- What a failed start ends once its rails are off and its fence state reads 3: the images pending, the reset that
waits, the return from Keystone-only. -/
def State.failSettled (s : State) (h : HalfId) (status : Nat) : State :=
  let s := (halfComponents h).foldl (fun t b => t.abandonPending b) s
  let s := s.endPending 0xF010 0x01 (halfNum h) status
  let s := if h = .h0 then { s with key := { s.key with half0Late := true } } else s
  let s := if (s.half0).phase = .failed ∧ (s.half1).phase = .failed then s.abandonPending 0 else s
  if s.val 0x1010 0x01 = 4 ∧ s.key.trans.isNone = true ∧ s.railsOn .h0 = false ∧ s.railsOn .h1 = false then
    s.put 0x1010 0x01 3 else s

theorem failStart_eq {phase reason status : Nat} : s.failStart h phase reason status =
    ((((((s.startRecord phase reason status (1 + halfNum h)).bump 0xF000 (0x09 + halfNum h)).railsOff h
      .failed).setFence h 3).failSettled h status).regrant).leadFallback := rfl

theorem failSettled_kept {P : State → Prop} (kk : Kept P) (kg : KeptK P) (kv : KeptV P) (kd : KeptD P [0x1010, 0x9001])
    {status : Nat} (hs : P s) : P (s.failSettled h status) := by
  have ha {t : State} {b : Nat} : P t → P (t.abandonPending b) := State.abandonPending_kept (kd.mono (by decide))
  unfold State.failSettled
  extract_lets s1 s2 key s3 s4
  have h1 : P s1 := Kept.foldl (fun _ _ => ha) hs
  have h2 : P s2 := State.endPending_kept kk kv h1
  have h3 : P s3 := kept_ite (kg.key h2) h2
  have h4 : P s4 := kept_ite (ha h3) h3
  exact kept_ite (State.put_kept (kd.mem (by decide)) h4) h4

theorem failSettled_halves {status : Nat} : SameHalves s (s.failSettled h status) :=
  failSettled_kept (sameHalves_kept s) (sameHalves_keptK s) (sameHalves_keptV s) (sameHalves_keptA s).toD ⟨rfl, rfl⟩

theorem failSettled_sameObject {i status : Nat} (hi : i % 65536 ≠ 0x1010 ∧ i % 65536 ≠ 0x9001) :
    SameObject i s (s.failSettled h status) :=
  failSettled_kept (sameObject_kept i s) (sameObject_keptK i s) (sameObject_keptV i s)
    (sameObject_keptD s (by simpa using hi)) (SameObject.refl i s)

theorem leadFallback_sameObject {i : Nat} : SameObject i s s.leadFallback :=
  State.leadFallback_kept (sameObject_kept i s) (sameObject_keptK i s) (SameObject.refl i s)

theorem regrant_fence {k : HalfId} : s.regrant.fence k = s.fence k := by
  unfold State.fence State.val State.valAt
  rw [regrant_words]
  cases k <;> simp [halfNum]

theorem failStart_fence {phase reason status : Nat} : (s.failStart h phase reason status).fence h = 3 := by
  rw [failStart_eq, leadFallback_sameObject.fence, regrant_fence, (failSettled_sameObject (by decide)).fence]
  exact State.val_put_self (by decide)

theorem failStart_phase {phase reason status : Nat} :
    ((s.failStart h phase reason status).half h).phase = .failed := by
  have hf {t : State} : SameHalves t ((t.setFence h 3).failSettled h status) :=
    failSettled_kept (sameHalves_kept t) (sameHalves_keptK t) (sameHalves_keptV t) (sameHalves_keptA t).toD
      ⟨by simp, by simp⟩
  have hl {t : State} : SameHalves t t.regrant.leadFallback :=
    State.leadFallback_kept (sameHalves_kept t) (sameHalves_keptK t) ⟨by simp, by simp⟩
  rw [failStart_eq, hl.half, hf.half, railsOff_half]

/-- The start record of a failed start (R513). -/
theorem failStart_record {phase reason status : Nat} : (s.failStart h phase reason status).reg 0xF000 0x03 =
    toWord (status * 65536 + phase % 16 * 256 + reason % 16 * 16 + (1 + halfNum h)) := by
  have hr {t : State} : SameObject 0xF000 t ((t.railsOff h .failed).setFence h 3) :=
    sameObject_of_keptD (W := [0x0041, 0x1001, 0x1002, 0x1012, 0x1013, 0x1015, 0x1016]) (by decide) fun kd =>
      State.put_kept (kd.mem (by decide))
        (State.railsOff_kept (sameObject_kept _ _) (sameObject_keptH _ _) (kd.mono (by decide)) (SameObject.refl _ _))
  have hg {t : State} : SameObject 0xF000 t t.regrant := fun _ _ => regrant_regAt (by decide)
  rw [failStart_eq, leadFallback_sameObject.reg, hg.reg, (failSettled_sameObject (by decide)).reg, hr.reg]
  unfold State.startRecord State.reg State.put64
  cases h <;> simp [State.regAt_bump, State.regAt_put64At, State.regAt_put, halfNum]

/-! ### The commands -/

theorem exec_bridgeLoss_running (hp : s.key.powered = true) (hr : s.runs h = true) (hf : s.fence h = 0) :
    exec (.bridgeLoss h) s = .next (s.declareFence h) := by
  have hphase : (s.half h).phase = .running := by simpa [State.runs] using hr
  change execBridgeLoss h s = _
  unfold execBridgeLoss
  rw [onPower_on hp, if_neg (by simp [hphase]), if_pos ⟨hr, hf⟩]

theorem exec_bridgeLoss_starting (hp : s.key.powered = true) (hs : (s.half h).phase = .starting) :
    exec (.bridgeLoss h) s = .next ((s.failStart h (6 + s.freeNext.toNat % 5) 9 0x3001).freeSkip 1) := by
  change execBridgeLoss h s = _
  unfold execBridgeLoss
  rw [onPower_on hp, if_pos hs]

theorem exec_bridgeLoss_idle (hp : s.key.powered = true) (hs : (s.half h).phase ≠ .starting)
    (hr : ¬(s.runs h = true ∧ s.fence h = 0)) : exec (.bridgeLoss h) s = .next s := by
  change execBridgeLoss h s = _
  unfold execBridgeLoss
  rw [onPower_on hp, if_neg hs, if_neg hr]

theorem exec_fenceDrawConfirm (hp : s.key.powered = true) (hf : s.fence h = 1) :
    exec (.fenceDrawConfirm h) s = .next (s.modHalf h (fun c => { c with confirmed := true })).regrant := by
  change execFenceDrawConfirm h s = _
  unfold execFenceDrawConfirm
  rw [onPower_on hp, if_pos hf]

theorem exec_fencePowerRemove (hp : s.key.powered = true) (hf : s.fence h = 1) (hc : (s.half h).confirmed = false) :
    exec (.fencePowerRemove h) s = .next ((((s.railsOff h .off).modHalf h
      (fun c => { c with confirmed := true })).setFence h 2).regrant) := by
  change execFencePowerRemove h s = _
  unfold execFencePowerRemove
  rw [onPower_on hp, if_pos ⟨hf, hc⟩]

theorem regrant_halves : SameHalves s s.regrant := ⟨by simp, by simp⟩

/-- A running half whose bridge is lost is fenced. -/
theorem bridgeLoss_fences (hp : s.key.powered = true) (hr : s.runs h = true) (hf : s.fence h = 0) :
    Reaches (.bridgeLoss h) s (fun t =>
      t.fence h = 1 ∧ t.holder = (if s.holder = halfNum h then 0xFF else s.holder) ∧ t.epoch = s.epoch ∧
      t.reg 0x0041 0x05 = s.reg 0x0041 0x05 + 1 ∧ t.val64 0x0041 0x06 = s.count ∧
      t.flag 0x0080 (0x01 + halfNum h) 3 = true ∧ (∀ l ∈ t.port.cache, l.half ≠ h) ∧
      (t.half h).confirmed = false ∧ (t.half h).phase = .running ∧ (t.half h).tier1 = [] ∧ SameHbm s t) := by
  have hphase : (s.half h).phase = .running := by simpa [State.runs] using hr
  have hcounted := (declareFence_fenceObject (s := s) (h := h) 0x05 (by decide)).trans fenceNoted_counted
  refine ⟨_, exec_bridgeLoss_running hp hr hf, declareFence_fence, declareFence_holder, declareFence_epoch, hcounted,
    declareFence_timed, declareFence_reason, declareFence_noLines, ?_, ?_, ?_, declareFence_hbm⟩
  · rw [declareFence_half]
  · rw [declareFence_half]
    exact hphase
  · rw [declareFence_half]

/-- A half whose bridge is lost in its start fails it with reason 9, in one of the phases S6 to S10. -/
theorem bridgeLoss_failsStart (hp : s.key.powered = true) (hs : (s.half h).phase = .starting) :
    Reaches (.bridgeLoss h) s (fun t => (t.half h).phase = .failed ∧ t.fence h = 3 ∧
      ∃ p, 6 ≤ p ∧ p ≤ 10 ∧ t.reg 0xF000 0x03 = toWord (0x3001 * 65536 + p * 256 + 9 * 16 + (1 + halfNum h))) := by
  have hskip {t : State} : SameHalves t (t.freeSkip 1) := ⟨by simp, by simp⟩
  have hobj {t : State} {i : Nat} : SameObject i t (t.freeSkip 1) := fun _ _ => State.regAt_freeSkip
  refine ⟨_, exec_bridgeLoss_starting hp hs, ?_, ?_, 6 + s.freeNext.toNat % 5, by omega, by omega, ?_⟩
  · rw [hskip.half, failStart_phase]
  · rw [hobj.fence, failStart_fence]
  · rw [hobj.reg, failStart_record, Nat.mod_eq_of_lt (show 6 + s.freeNext.toNat % 5 < 16 by omega)]

/-- A fenced half's draw is confirmed. -/
theorem fenceDrawConfirm_confirms (hp : s.key.powered = true) (hf : s.fence h = 1) :
    Reaches (.fenceDrawConfirm h) s (fun t => (t.half h).confirmed = true ∧ t.fence h = 1 ∧
      OnlyIn [0x0041, 0x1011] s t ∧ SameHbm s t ∧ SameCtxs s t) := by
  refine ⟨_, exec_fenceDrawConfirm hp hf, ?_, ?_, ?_, ⟨by simp, by simp⟩, ?_⟩
  · rw [regrant_halves.half, State.half_modHalf_self]
  · rw [regrant_fence, ← hf]
    exact SameObject.fence (fun _ _ => State.regAt_modHalf) h
  · exact onlyIn_of_keptD (by decide) fun i kd =>
      State.regrant_kept (kd.mono (by decide)) (State.modHalf_kept (sameObject_keptH i s) (SameObject.refl i s))
  · unfold SameCtxs
    simp

/-- A fenced half whose draw was not confirmed loses its power. -/
theorem fencePowerRemove_removes (hp : s.key.powered = true) (hf : s.fence h = 1) (hc : (s.half h).confirmed = false) :
    Reaches (.fencePowerRemove h) s (fun t => t.fence h = 2 ∧ (t.half h).phase = .off ∧ (t.half h).confirmed = true ∧
      t.val 0x1002 (0x04 + halfNum h) = 0 ∧ SameHbm s t ∧ SameCtxs s t) := by
  have hset {t : State} : SameHalves t (t.setFence h 2).regrant := ⟨by simp, by simp⟩
  have hready {t : State} {f : HalfCtl → HalfCtl} : SameObject 0x1002 t ((t.modHalf h f).setFence h 2).regrant :=
    sameObject_of_keptD (W := [0x0041, 0x1011]) (by decide) fun kd => State.regrant_kept (kd.mono (by decide))
      (State.put_kept (kd.mem (by decide)) (State.modHalf_kept (sameObject_keptH _ _) (SameObject.refl _ _)))
  refine ⟨_, exec_fencePowerRemove hp hf hc, ?_, ?_, ?_, ?_, ?_, ?_⟩
  · rw [regrant_fence]
    exact State.val_put_self (by decide)
  · rw [hset.half, State.half_modHalf_self]
    exact railsOff_half
  · rw [hset.half, State.half_modHalf_self]
  · rw [hready.val, railsOff_ready]
  · have := State.railsOff_kept (sameHbm_kept s) (sameHbm_keptH s) (sameHbm_keptA s).toD (h := h) (p := .off) ⟨rfl, rfl⟩
    exact ⟨by simpa using this.1, by simpa using this.2⟩
  · have := State.railsOff_kept (sameCtxs_kept s) (sameCtxs_keptH s) (sameCtxs_keptA s).toD (h := h) (p := .off) rfl
    unfold SameCtxs at *
    simpa using this

/-- Settles O8: clause by clause, what the fence, the failed start and the two ends of a fence leave. -/
theorem lossOfABridgeFencesTheHalf : Obligations.LossOfABridgeFencesTheHalf := by
  unfold Obligations.LossOfABridgeFencesTheHalf
  intro s h hp
  exact ⟨bridgeLoss_fences hp, bridgeLoss_failsStart hp, fun hs hr => ⟨_, exec_bridgeLoss_idle hp hs hr, rfl⟩,
    fenceDrawConfirm_confirms hp, fencePowerRemove_removes hp⟩

end Sys2Proof.Machine
end

section
/-! PROOF. O9: heartbeats, claims and the arbitration window (R20 to R23, R97), and the replace request (R32, R33, R415). -/

namespace Sys2Proof.Machine

open Sys2Proof Sys2Proof.Safety

variable {s : State} {h : HalfId}

/-! ### A heartbeat (R20, R97) -/

/-- With no write held nothing is forwarded. -/
theorem forwardHeld_nil (hh : s.key.hostHeld = []) : s.forwardHeld = s := by
  have hkey : { s.key with hostHeld := [] } = s.key := by rw [← hh]
  unfold State.forwardHeld
  rw [hh, hkey]
  rfl

theorem exec_heartbeat (hp : s.key.powered = true) (hr : s.railsOn h = true) (hf : s.fenced h = false)
    (hh : s.holder ≠ halfNum h ∨ s.key.hostHeld = []) :
    exec (.heartbeat h) s = .next ((s.beat h).resync h) := by
  have hheld : ((s.beat h).resync h).key.hostHeld = s.key.hostHeld := by
    unfold State.resync State.beat
    simp
  have hholder : ((s.beat h).resync h).holder = s.holder :=
    SameObject.holder (State.resync_kept (sameObject_kept _ _) (sameObject_keptH _ _)
      (State.beat_kept (sameObject_keptH _ _) (SameObject.refl 0x0040 s)))
  change execHeartbeat h s = _
  unfold execHeartbeat
  rw [onPower_on hp, if_pos (by simp [hr, hf])]
  dsimp only
  rcases hh with hne | hnil
  · rw [hholder, if_neg hne]
  · rw [forwardHeld_nil (hheld.trans hnil), ite_self]

theorem beat_half : (s.beat h).half h = { s.half h with lastBeat := s.count } := State.half_modHalf_self

/-- A copy brought up to date lies within two counts of the keystone's (R97). -/
theorem resync_half : ((s.resync h).half h).lastBeat = (s.half h).lastBeat ∧
    s.count ≤ ((s.resync h).half h).copy + 2 ∧ ((s.resync h).half h).copy ≤ s.count + 2 := by
  have hs {t : State} : SameHalves t (t.freeSkip 1) := ⟨by simp, by simp⟩
  unfold State.resync
  rw [hs.half, State.half_modHalf_self]
  exact ⟨rfl, by dsimp only; omega, by dsimp only; omega⟩

theorem heartbeat_resyncs (hp : s.key.powered = true) (hr : s.railsOn h = true) (hf : s.fenced h = false)
    (hh : s.holder ≠ halfNum h ∨ s.key.hostHeld = []) :
    Reaches (.heartbeat h) s (fun t => (t.half h).lastBeat = s.count ∧ s.count ≤ (t.half h).copy + 2 ∧
      (t.half h).copy ≤ s.count + 2 ∧ SameDict s t ∧ SameHbm s t ∧ SameCtxs s t) := by
  have hcount : (s.beat h).count = s.count :=
    SameObject.count (State.beat_kept (sameObject_keptH _ _) (SameObject.refl 0x1005 s))
  obtain ⟨hbeat, hlow, hhigh⟩ := resync_half (s := s.beat h) (h := h)
  rw [beat_half] at hbeat
  rw [hcount] at hlow hhigh
  refine ⟨_, exec_heartbeat hp hr hf hh, hbeat, hlow, hhigh, ?_, ⟨?_, ?_⟩, ?_⟩
  all_goals
    unfold State.resync State.beat
    simp [SameDict, SameCtxs]

/-! ### A claim (R21, R22) -/

theorem exec_claim {e : Nat} (hp : s.key.powered = true) (hr : s.runs h = true) (hf : s.fenced h = false)
    (hu : (s.half h).unread = []) : exec (.claim h e) s = .next (s.claim h e) := by
  change execClaim h e s = _
  unfold execClaim
  rw [onPower_on hp, if_pos ⟨hr, hf, hu⟩]

/-- A half that stands down claims nothing (R23). -/
theorem exec_claim_standsDown {e : Nat} (hp : s.key.powered = true) (hu : (s.half h).unread ≠ []) :
    exec (.claim h e) s = .next s := by
  change execClaim h e s = _
  unfold execClaim
  rw [onPower_on hp, if_neg (fun hall => hu hall.2.2)]

/-! ### The window closes (R22, R23) -/

theorem candidate_mem {d : ClaimRec} : ∀ {l : List ClaimRec}, candidate l = some d → d ∈ l
  | c :: r, hd => by
    unfold candidate at hd
    split at hd
    · simp_all
    · next e he =>
      have hmem := candidate_mem he
      split_ifs at hd <;> simp_all

/-- The claim of the highest epoch, half 0 on a tie, is the one that a window weighs. -/
theorem candidate_eq {c : ClaimRec} : ∀ {l : List ClaimRec}, c ∈ l →
    (∀ d ∈ l, d ≠ c → d.epoch < c.epoch ∨ (d.epoch = c.epoch ∧ c.half = .h0)) → candidate l = some c
  | a :: r, hc, hbest => by
    by_cases hr : c ∈ r
    · have ih := candidate_eq hr (fun d hd => hbest d (List.mem_cons_of_mem a hd))
      unfold candidate
      simp only [ih]
      by_cases hac : a = c
      · rw [hac]; split_ifs <;> rfl
      · have hle := hbest a List.mem_cons_self hac
        rw [if_neg (by omega), if_neg]
        rintro ⟨he, hh⟩
        rcases hle with hlt | ⟨-, hc0⟩
        · omega
        · exact hac (by cases a; cases c; simp_all)
    · obtain rfl : c = a := (List.mem_cons.mp hc).resolve_right hr
      unfold candidate
      split
      · rfl
      · next d hd =>
        have hdr := candidate_mem hd
        have hdc : d ≠ c := fun e => hr (e ▸ hdr)
        rcases hbest d (List.mem_cons_of_mem c hdr) hdc with hlt | ⟨he, h0⟩
        · rw [if_pos hlt]
        · rw [if_neg (by omega), if_pos ⟨he.symm, h0⟩]

/-- The half of the winning claim holds the lead at the claim's epoch and is told so. -/
def State.leadWon (s : State) (c : ClaimRec) : State :=
  (((s.setHolder (halfNum c.half)).put 0x0040 0x02 c.epoch).modHalf c.half
    (fun x => { x with believed := c.epoch })).answerClaim c 0x0000

theorem decideClaims_won {l : List ClaimRec} {c : ClaimRec} (hc : c ∈ l) (hcmd : s.commandable c.half = true)
    (hlt : s.epoch < c.epoch) (hmax : c.epoch ≤ 0xFFFFFFFE)
    (hbest : ∀ d ∈ l, d ≠ c → d.epoch < c.epoch ∨ (d.epoch = c.epoch ∧ c.half = .h0)) :
    s.decideClaims l = ((l.erase c).foldl (fun t k => t.answerClaim k 0x3002) (s.leadWon c)).epochCheck := by
  have hlim : ∀ d ∈ l, s.claimLimit d = false := by
    intro d hd
    have hle : d.epoch ≤ c.epoch := by
      by_cases hdc : d = c
      · rw [hdc]
      · rcases hbest d hd hdc with hlt' | ⟨he, -⟩ <;> omega
    unfold State.claimLimit epochMax epochLast
    exact Bool.or_eq_false_iff.mpr ⟨beq_eq_false_iff_ne.mpr (by omega), decide_eq_false (by omega)⟩
  have hbarred : l.filter s.claimLimit = [] := List.filter_eq_nil_iff.mpr (fun d hd => by simp [hlim d hd])
  have hopen : l.filter (fun d => !s.claimLimit d) = l := List.filter_eq_self.mpr (fun d hd => by simp [hlim d hd])
  have hcand : candidate (l.filter (fun d => s.commandable d.half)) = some c :=
    candidate_eq (List.mem_filter.mpr ⟨hc, hcmd⟩) (fun d hd => hbest d (List.mem_filter.mp hd).1)
  unfold State.decideClaims
  simp only [hbarred, hopen, List.foldl_nil, hcand, decide_eq_true hlt, if_true]
  rfl

/-- An answered claim leaves the lead. -/
theorem answerClaim_lead {c : ClaimRec} {st : Nat} : (s.answerClaim c st).holder = s.holder ∧
    (s.answerClaim c st).epoch = s.epoch ∧ (s.answerClaim c st).key = s.key := by
  have hr : SameObject 0x0040 s (s.respond (.manager c.half c.epoch) opCode.write 0x0040 0x03 0 st 0 0 []) :=
    fun _ _ => State.regAt_emit
  unfold State.answerClaim
  dsimp only
  split
  · exact ⟨hr.holder, hr.epoch, State.respond_key⟩
  · refine ⟨?_, ?_, by simp⟩
    · rw [← hr.holder]
      unfold State.holder State.val State.valAt
      rw [State.regAt_modHalf, State.regAt_bump, if_neg (by simp)]
    · rw [← hr.epoch]
      unfold State.epoch State.val State.valAt
      rw [State.regAt_modHalf, State.regAt_bump, if_neg (by simp)]

theorem leadWon_lead {c : ClaimRec} (hmax : c.epoch < 2 ^ 32) : (s.leadWon c).holder = halfNum c.half ∧
    (s.leadWon c).epoch = c.epoch ∧ (s.leadWon c).key = s.key := by
  obtain ⟨hholder, hepoch, hkey⟩ := answerClaim_lead (c := c) (st := 0)
    (s := ((s.setHolder (halfNum c.half)).put 0x0040 0x02 c.epoch).modHalf c.half (fun x => { x with believed := c.epoch }))
  have hm {t : State} {f : HalfCtl → HalfCtl} : SameObject 0x0040 t (t.modHalf c.half f) :=
    fun _ _ => State.regAt_modHalf
  unfold State.leadWon
  rw [hholder, hepoch, hkey, hm.holder, hm.epoch]
  have hnum : halfNum c.half < 2 ^ 32 := by have := halfNum_le c.half; omega
  have hput : ((s.setHolder (halfNum c.half)).put 0x0040 0x02 c.epoch).reg 0x0040 0x01 =
      (s.setHolder (halfNum c.half)).reg 0x0040 0x01 := State.reg_put_ne (by decide)
  exact ⟨(congrArg BitVec.toNat hput).trans (State.setHolder_holder hnum), State.val_put_self hmax, by simp⟩

/-- The epoch's limit is logged in the keystone alone. -/
theorem epochCheck_key : s.epochCheck.key =
    { s.key with epochLimitLogged := s.epochCheck.key.epochLimitLogged } := by
  unfold State.epochCheck
  split
  · have hl {e : Event} : SameKey s (s.log e) :=
      State.log_kept (sameKey_kept s) (sameKey_keptA s).toD rfl
    dsimp only
    rw [show (s.log _).key = s.key from hl]
  · rfl

theorem epochCheck_sameObject {i : Nat} (hi : i % 65536 ≠ 0x7040 ∧ i % 65536 ≠ 0xF030) : SameObject i s s.epochCheck :=
  State.epochCheck_kept (sameObject_kept i s) (sameObject_keptK i s) (sameObject_keptD s (by simpa using hi))
    (SameObject.refl i s)

theorem exec_windowClose {l : List ClaimRec} (hp : s.key.powered = true)
    (hw : s.key.window = some { claims := l, held := [] }) :
    exec .windowClose s = .next (State.decideClaims { s with key := { s.key with window := none } } l) := by
  change execWindowClose s = _
  unfold execWindowClose
  rw [onPower_on hp]
  simp only [hw, List.foldl_nil]

theorem exec_windowClose_none (hp : s.key.powered = true) (hw : s.key.window = none) :
    exec .windowClose s = .next s := by
  change execWindowClose s = _
  unfold execWindowClose
  rw [onPower_on hp]
  simp only [hw]

/-- The window gives the lead to the claim of the highest epoch, half 0 on a tie. -/
theorem windowClose_givesLead {l : List ClaimRec} {c : ClaimRec} (hp : s.key.powered = true)
    (hw : s.key.window = some { claims := l, held := [] }) (hc : c ∈ l) (hcmd : s.commandable c.half = true)
    (hlt : s.epoch < c.epoch) (hmax : c.epoch ≤ 0xFFFFFFFE)
    (hbest : ∀ d ∈ l, d ≠ c → d.epoch < c.epoch ∨ (d.epoch = c.epoch ∧ c.half = .h0)) :
    Reaches .windowClose s (fun t => t.holder = halfNum c.half ∧ t.epoch = c.epoch ∧ t.key.window = none ∧
      SameHbm s t ∧ SameCtxs s t) := by
  let v : State := { s with key := { s.key with window := none } }
  have hcan : v.commandable c.half = true := hcmd
  have hdecide := decideClaims_won (s := v) hc hcan hlt hmax hbest
  let t := (l.erase c).foldl (fun t k => t.answerClaim k 0x3002) (v.leadWon c)
  have hlead : t.holder = halfNum c.half ∧ t.epoch = c.epoch ∧ t.key = v.key :=
    Kept.foldl (P := fun t => t.holder = halfNum c.half ∧ t.epoch = c.epoch ∧ t.key = v.key)
      (fun t k ht => by
        obtain ⟨h1, h2, h3⟩ := answerClaim_lead (s := t) (c := k) (st := 0x3002)
        rw [h1, h2, h3]
        exact ht)
      (leadWon_lead (by omega))
  obtain ⟨hholder, hepoch, hkey⟩ := hlead
  refine ⟨_, exec_windowClose hp hw, ?_, ?_, ?_, ?_, ?_⟩
  · rw [hdecide, (epochCheck_sameObject (by decide)).holder]
    exact hholder
  · rw [hdecide, (epochCheck_sameObject (by decide)).epoch]
    exact hepoch
  · rw [hdecide, epochCheck_key]
    exact congrArg Keystone.window hkey
  · exact State.decideClaims_kept (sameHbm_kept s) (sameHbm_keptK s) (sameHbm_keptH s) (sameHbm_keptA s).toD ⟨rfl, rfl⟩
  · exact State.decideClaims_kept (sameCtxs_kept s) (sameCtxs_keptK s) (sameCtxs_keptH s) (sameCtxs_keptA s).toD rfl

end Sys2Proof.Machine
end

section
/-! SUPPORT. What the checks of R124 say of a write of a module object that they let through, and its verdict. -/

namespace Sys2Proof.Machine

open Sys2Proof Sys2Proof.Safety

variable {s : State} {via : Via} {i sub : Nat}

theorem arrival_sameObject {j : Nat} : SameObject j s (arrival s via i sub) := fun _ _ => arrival_regAt _ _ _

/-- The check of the value that the object's own entry states has passed. -/
theorem admits_ownStatus {ws : List Word} (h : admits s via i sub ws = true) :
    ∃ u, (arrival s via i sub).ownStatus i sub u ws = 0 := by
  unfold admits at h
  split at h
  · simp at h
  · split at h
    · simp at h
    · simp only [Bool.and_eq_true, beq_iff_eq] at h
      obtain ⟨_, ⟨⟨⟨⟨⟨⟨⟨⟨⟨⟨⟨_, hs⟩, _⟩, _⟩, _⟩, hown⟩, _⟩, _⟩, _⟩, _⟩, _⟩, _⟩⟩ := h
      rw [← hs] at hown
      exact ⟨_, hown⟩

/-- The verdict on a write of one word to a module object is that object's rule. -/
theorem verdict_module {x : Aux} {v : Word} (h : admits s via i sub [v] = true) (hi : i < 0x1000) :
    ∃ d, verdict s x via i sub [v] = (arrival s via i sub).actModule i sub v.toNat d := by
  obtain ⟨_, _, _, o, r, ho, hr, rfl, _⟩ := admits_row h
  let a := arrival s via i r.sub
  refine ⟨a.plainWrite r i (a.unitOf o r) [v], (verdict_of ho hr).trans ?_⟩
  unfold State.act
  dsimp only
  rw [if_pos hi]
  rfl

theorem toWord_of_toNat {v : Word} : toWord v.toNat = v := by
  rw [toWord, BitVec.ofNat_toNat, BitVec.setWidth_eq]

end Sys2Proof.Machine
end

section
/-! PROOF. O9, the replace request: reasons cleared and raised (R32, R33, R415), and the obligation. -/

namespace Sys2Proof.Machine

open Sys2Proof Sys2Proof.Safety

variable {s : State} {via : Via} {v : Word}

theorem replaceStatus_zero {n m : Nat} (h : replaceStatus n m = 0) : bitsOf n 6 10 = 0 ∧ n / 2 ^ 16 ≤ 1 := by
  unfold replaceStatus at h
  split_ifs at h with h1 h2
  exact ⟨by omega, by omega⟩

/-- A replace command that the checks let through has no reserved bit set and names a half. -/
theorem admits_replace {sub : Nat} (h : admits s via 0x0080 sub [v] = true) :
    bitsOf v.toNat 6 10 = 0 ∧ v.toNat / 2 ^ 16 ≤ 1 := by
  obtain ⟨u, hown⟩ := admits_ownStatus h
  have hv : (arrival s via 0x0080 sub).ownStatus 0x0080 sub u [v] =
      replaceStatus (wordsNat [v]) (if sub = 0x06 then 63 else 32) := rfl
  rw [hv] at hown
  simpa [wordsNat] using replaceStatus_zero hown

theorem verdict_replaceClear {x : Aux} (h : admits s via 0x0080 0x06 [v] = true) :
    verdict s x via 0x0080 0x06 [v] = (arrival s via 0x0080 0x06).actReplaceClear v := by
  obtain ⟨d, hd⟩ := verdict_module (x := x) h (by decide)
  exact hd.trans (congrArg (State.actReplaceClear _) toWord_of_toNat)

theorem verdict_replaceRaise {x : Aux} (h : admits s via 0x0080 0x07 [v] = true) :
    verdict s x via 0x0080 0x07 [v] = (arrival s via 0x0080 0x07).actReplaceRaise v := by
  obtain ⟨d, hd⟩ := verdict_module (x := x) h (by decide)
  exact hd.trans (congrArg (State.actReplaceRaise _) toWord_of_toNat)

theorem arrival_reasonStands {i sub b : Nat} {h : HalfId} :
    (arrival s via i sub).reasonStands h b = s.reasonStands h b := by
  unfold State.reasonStands State.flag State.reg State.val State.valAt
  simp only [arrival_regAt, arrival_runs, arrival_fence]

/-- Bits cleared one after another are clear in the end, and so is a bit that was clear. -/
theorem foldl_putFlag_clear {i sub j : Nat} : ∀ {l : List Nat} {t : State}, (j ∈ l ∨ t.flag i sub j = false) →
    (l.foldl (fun t b => t.putFlag i sub b false) t).flag i sub j = false
  | [], _, h => h.resolve_left List.not_mem_nil
  | b :: r, t, h => by
    refine foldl_putFlag_clear (l := r) (t := t.putFlag i sub b false) ?_
    rw [State.flag_putFlag]
    by_cases hj : j = b
    · simp [hj]
    · exact h.imp (fun hm => (List.mem_cons.mp hm).resolve_left hj) (fun hf => by rw [if_neg hj, hf])

theorem clearReplace_flag {h : HalfId} {bits : List Nat} {b : Nat} (hb : b ∈ bits) :
    (s.clearReplace h bits).flag 0x0080 (0x01 + halfNum h) b = false := by
  rw [← foldl_putFlag_clear (i := 0x0080) (sub := 0x01 + halfNum h) (t := s) (.inl hb)]
  exact congrArg (bit · b) (State.reg_put_ne (by cases h <;> decide))

/-- The replace request is shown while a reason is left. -/
theorem clearReplace_shown {h : HalfId} {bits : List Nat} :
    (s.clearReplace h bits).val 0x0080 0x03 = if (s.clearReplace h bits).anyReplace then 1 else 0 := by
  have hany {t : State} {n : Nat} : (t.put 0x0080 0x03 n).anyReplace = t.anyReplace := by
    unfold State.anyReplace State.val State.valAt
    simp [State.regAt_put]
  unfold State.clearReplace
  dsimp only
  rw [State.val_put_self (by split <;> decide), hany]

theorem halfNum_halfOf {n : Nat} (h : n ≤ 1) : halfNum (halfOf n) = n := by
  interval_cases n <;> rfl

theorem mem_reasonBits {n b : Nat} : b ∈ reasonBits n ↔ b < 6 ∧ bitsOf n b 1 = 1 := by simp [reasonBits]

theorem actReplaceClear_over {n : Nat} (hbits : bitsOf v.toNat 6 10 = 0) (hn : v.toNat / 2 ^ 16 = n) (h1 : n ≤ 1)
    (hover : ∀ b, b < 6 → bitsOf v.toNat b 1 = 1 → s.reasonStands (halfOf n) b = false) :
    s.actReplaceClear v = .apply (s.clearReplace (halfOf n) (reasonBits v.toNat)) := by
  have hnone : ¬(reasonBits v.toNat).any (s.reasonStands (halfOf n)) = true := by
    rw [List.any_eq_true]
    rintro ⟨b, hb, hstands⟩
    obtain ⟨h6, hb1⟩ := mem_reasonBits.mp hb
    rw [hover b h6 hb1] at hstands
    cases hstands
  unfold State.actReplaceClear
  dsimp only
  rw [hn, if_neg (by omega), if_neg (by omega), if_neg hnone]

/-- Reasons whose conditions are over are cleared. -/
theorem replaceClear_takes (hadm : admits s via 0x0080 0x06 [v] = true)
    (hover : ∀ b, b < 6 → bitsOf v.toNat b 1 = 1 → s.reasonStands (halfOf (v.toNat / 2 ^ 16)) b = false) :
    Takes (.replaceClear via v) s via 0x0080 0x06 [v] (fun t =>
      (∀ b, b < 6 → bitsOf v.toNat b 1 = 1 → t.flag 0x0080 (0x01 + v.toNat / 2 ^ 16) b = false) ∧
      t.val 0x0080 0x03 = (if t.anyReplace then 1 else 0) ∧ OnlyIn [0x0080] s t) := by
  obtain ⟨hbits, hhalf⟩ := admits_replace hadm
  have hverdict := verdict_replaceClear (x := Aux.none) hadm
  generalize hn : v.toNat / 2 ^ 16 = n at hhalf hover ⊢
  rw [actReplaceClear_over hbits hn hhalf (fun b h6 h1 => arrival_reasonStands.trans (hover b h6 h1))] at hverdict
  refine takes_of rfl hadm hverdict ⟨fun b h6 h1 => ?_, clearReplace_shown, ?_⟩
  · have hclear := clearReplace_flag (s := arrival s via 0x0080 0x06) (h := halfOf n) (mem_reasonBits.mpr ⟨h6, h1⟩)
    rwa [halfNum_halfOf hhalf] at hclear
  · exact onlyIn_of_keptD (by decide) fun i kd => State.clearReplace_kept kd arrival_sameObject

theorem actReplaceRaise_again {n : Nat} (hbits : bitsOf v.toNat 6 10 = 0) (hn : v.toNat / 2 ^ 16 = n) (h1 : n ≤ 1)
    (hothers : bitsOf v.toNat 0 5 = 0) (hset : s.flag 0x0080 (0x01 + n) 5 = true) :
    s.actReplaceRaise v = .apply s := by
  unfold State.actReplaceRaise
  dsimp only
  rw [hn, halfNum_halfOf h1, if_neg (by omega), if_neg (by omega), if_pos (.inr hset)]

theorem actReplaceRaise_first {n : Nat} (hbits : bitsOf v.toNat 6 10 = 0) (hn : v.toNat / 2 ^ 16 = n) (h1 : n ≤ 1)
    (hothers : bitsOf v.toNat 0 5 = 0) (hop : bitsOf v.toNat 5 1 = 1) (hset : ¬s.flag 0x0080 (0x01 + n) 5 = true) :
    s.actReplaceRaise v = .apply (s.raiseReplace (halfOf n) 5) := by
  unfold State.actReplaceRaise
  dsimp only
  rw [hn, halfNum_halfOf h1, if_neg (by omega), if_neg (by omega), if_neg (by rw [hop]; simpa using hset)]

/-- The operator's reason is raised. -/
theorem replaceRaise_takes (hadm : admits s via 0x0080 0x07 [v] = true) (hop : bitsOf v.toNat 5 1 = 1)
    (hothers : bitsOf v.toNat 0 5 = 0) :
    Takes (.replaceRaise via v) s via 0x0080 0x07 [v] (fun t =>
      t.flag 0x0080 (0x01 + v.toNat / 2 ^ 16) 5 = true ∧ OnlyIn [0x0080] s t) := by
  obtain ⟨hbits, hhalf⟩ := admits_replace hadm
  have hverdict := verdict_replaceRaise (x := Aux.none) hadm
  generalize hn : v.toNat / 2 ^ 16 = n at hhalf ⊢
  by_cases hset : (arrival s via 0x0080 0x07).flag 0x0080 (0x01 + n) 5 = true
  · rw [actReplaceRaise_again hbits hn hhalf hothers hset] at hverdict
    exact takes_of rfl hadm hverdict ⟨hset, fun _ _ _ => arrival_sameObject⟩
  · rw [actReplaceRaise_first hbits hn hhalf hothers hop hset] at hverdict
    refine takes_of rfl hadm hverdict ⟨?_, ?_⟩
    · have hraised := raiseReplace_flag (s := arrival s via 0x0080 0x07) (h := halfOf n) (b := 5) (by decide)
      rwa [halfNum_halfOf hhalf] at hraised
    · exact onlyIn_of_keptD (by decide) fun i kd => State.raiseReplace_kept kd arrival_sameObject

/-- Settles O9: what each of the commands of the lead's arbitration and of the replace request leaves. -/
theorem leadWindowAndReplaceRequests : Obligations.LeadWindowAndReplaceRequests := by
  unfold Obligations.LeadWindowAndReplaceRequests
  refine ⟨fun s h hp => ⟨heartbeat_resyncs hp, fun e hr hf hu => ?_, fun e hu => ?_⟩, fun s hp => ⟨?_, ?_⟩,
    fun s via v => ⟨replaceClear_takes, replaceRaise_takes⟩⟩
  · exact ⟨_, exec_claim hp hr hf hu, ⟨_, rfl, rfl, rfl⟩, rfl, ⟨rfl, rfl⟩, rfl, rfl, rfl⟩
  · exact ⟨_, exec_claim_standsDown hp hu, rfl⟩
  · exact fun l c hw hc hcmd hlt hmax hbest => windowClose_givesLead hp hw hc hcmd hlt hmax hbest
  · exact fun hw => ⟨_, exec_windowClose_none hp hw, rfl⟩

end Sys2Proof.Machine
end

section
/-! PROOF. O58: a write of 0x0040.04 moves the lead (R26). -/

namespace Sys2Proof.Machine

open Sys2Proof Sys2Proof.Safety

variable {s : State} {via : Via} {v : Word} {h : HalfId}

/-! ### A write whose own rule finds its value out of range -/

theorem reservedFirst_value {st : Nat} (h : valueClass st = true) : reservedFirst [0, 0, st] = st := by
  have hne : st ≠ 0 := by rintro rfl; simp [valueClass] at h
  unfold reservedFirst
  split_ifs with h1 h2 h3
  · simpa using h1
  · simpa using h2
  · simpa using h3
  · simp [firstBad, hne]

/-- A write that its object's own rule finds out of range changes nothing but what its arrival does. -/
theorem opWrite_valueRefused {x : Aux} {i sub : Nat} {ws : List Word} {o : Obj} {r : Row}
    (ho : findObj i = some o) (hr : o.row sub = some r) (h : admits s via i sub ws = true)
    (hv : valueClass (verdict s x via i sub ws).status = true) :
    s.opWrite x (writeReq via i sub ws) = (arrival s via i sub, .plain (verdict s x via i sub ws).status) := by
  have hne : (verdict s x via i sub ws).status ≠ 0 := fun e => by rw [e, valueClass_zero] at hv; cases hv
  rw [verdict_of ho hr] at hv hne ⊢
  unfold admits at h
  simp only [ho, hr, Bool.and_eq_true, beq_iff_eq, bne_iff_ne, ne_eq] at h
  obtain ⟨_, ⟨⟨⟨⟨⟨⟨⟨⟨⟨⟨⟨he, rfl⟩, hl⟩, ht⟩, hval⟩, hown⟩, _⟩, _⟩, _⟩, _⟩, _⟩, h40⟩⟩ := h
  have h40' : ¬(i = 0x0040 ∧ r.sub = 0x03) := by
    rintro ⟨h1, h2⟩
    simp [h1, h2] at h40
  have hf : findRow i r.sub = some r := by
    unfold findRow
    rw [ho]
    exact hr
  have ha : arrival s via i r.sub = (((s.unstageOther via.path i r.sub).heard
      ((s.unstageOther via.path i r.sub).server o i r.single)).unstage via.path) := by
    unfold arrival
    simp only [ho, hr]
  unfold State.opWrite State.checked
  simp only [writeReq, hf, ho, he]
  simp only [hr, hl, and_self, if_true, ht, if_false, not_true_eq_false, false_and, typeStatus, true_or]
  rw [← ha]
  unfold State.wholeWrite State.commit State.weigh
  simp only [if_neg h40', hval, hown, hv, if_true, reservedFirst_value hv, hne, ne_eq, not_false_eq_true,
    Option.isSome_none, Bool.false_eq_true, if_false]

/-- A write command whose verdict is a value out of range. -/
theorem refuses_of_value {c : Instr} {x : Aux} {i sub : Nat} {ws : List Word} {st hint : Nat}
    (hc : exec c s = s.put! x via i sub ws) (h : admits s via i sub ws = true)
    (hv : verdict s x via i sub ws = .refuse st hint) (hst : valueClass st = true) : Refuses c s via i sub st := by
  obtain ⟨hp, hm, hd, o, r, ho, hr, _, _⟩ := admits_row h
  have hw := opWrite_valueRefused (x := x) ho hr h (by rw [hv]; exact hst)
  refine ⟨0, ?_⟩
  rw [hc]
  unfold State.put!
  rw [onPower_on hp]
  unfold State.serveWrite State.serve
  simp only [writeReq, hm, hd, Bool.false_eq_true, if_false]
  unfold writeReq at hw
  unfold State.answered
  rw [hw, hv, writeOp_admitted h]
  rfl

/-! ### Writes that waited are refused (R20) -/

theorem recordWindow_out {i sub st k n : Nat} : (s.recordWindow i sub st k n).out = s.out := by
  unfold State.recordWindow
  dsimp only
  split_ifs <;> simp

/-- The window shows the status of the access recorded last (R136). -/
theorem recordWindow_status {i sub st k n : Nat} (hst : st < 2 ^ 32) :
    (s.recordWindow i sub st k n).val 0x0010 0x01 = st := by
  unfold State.recordWindow State.val State.valAt
  dsimp only
  split_ifs <;> simpa [State.regAt_put] using hst

/-- A refused write's answer is the next message, unless it came through BAR2. -/
theorem refuseWrite_out {w : HeldWrite} {st : Nat} : (s.refuseWrite w st).out = s.out ∨
    ∃ r : Reply, r.tag = w.tag ∧ r.status = st ∧ (s.refuseWrite w st).out = s.out ++ [.reply w.path r] := by
  unfold State.refuseWrite State.respond
  split
  · left
    split
    · rfl
    · exact recordWindow_out
  · exact .inr ⟨_, rfl, rfl, State.emit_out⟩

theorem refuseWrite_answers {w : HeldWrite} {st : Nat} (hb : w.path ≠ .bar2) :
    ∃ r : Reply, .reply w.path r ∈ (s.refuseWrite w st).out ∧ r.tag = w.tag ∧ r.status = st := by
  unfold State.refuseWrite State.respond
  split
  · next hp => exact absurd hp hb
  · exact ⟨_, by rw [State.emit_out]; exact List.mem_append_right _ (List.mem_singleton.mpr rfl), rfl, rfl⟩

theorem refuseWrite_keepsOut {w : HeldWrite} {st : Nat} {x : Out} (hx : x ∈ s.out) : x ∈ (s.refuseWrite w st).out := by
  rcases refuseWrite_out (s := s) (w := w) (st := st) with e | ⟨r, _, _, e⟩ <;> rw [e]
  · exact hx
  · exact List.mem_append_left _ hx

theorem refuseAll_answers {w : HeldWrite} {st : Nat} (hb : w.path ≠ .bar2) {l : List HeldWrite} {t : State} (hw : w ∈ l) :
    ∃ r : Reply, .reply w.path r ∈ (l.foldl (fun t w => t.refuseWrite w st) t).out ∧ r.tag = w.tag ∧ r.status = st := by
  induction l generalizing t with
  | nil => cases hw
  | cons a l ih =>
    rcases List.mem_cons.mp hw with rfl | hl
    · obtain ⟨r, hr, htag, hst⟩ := refuseWrite_answers (s := t) (st := st) hb
      exact ⟨r, Kept.foldl (P := fun t => Out.reply w.path r ∈ t.out) (f := fun t w => t.refuseWrite w st) (l := l)
        (fun _ _ => refuseWrite_keepsOut) hr, htag, hst⟩
    · exact ih hl

/-- Every write that the keystone held is answered with 0x3002, but for those of BAR2. -/
theorem refuseHeld_answers {w : HeldWrite} (hw : w ∈ s.key.hostHeld) (hb : w.path ≠ .bar2) :
    ∃ r : Reply, .reply w.path r ∈ s.refuseHeld.out ∧ r.tag = w.tag ∧ r.status = 0x3002 := refuseAll_answers hb hw

/-- A write held for BAR2 alone shows its refusal in the window's status. -/
theorem refuseHeld_window {w : HeldWrite} (hw : s.key.hostHeld = [w]) (hb : w.path = .bar2) (hi : w.index ≠ 0x0010) :
    s.refuseHeld.val 0x0010 0x01 = 0x3002 := by
  have hkey {t : State} {k : Keystone} : SameObject 0x0010 t { t with key := k } := fun _ _ => State.regAt_of_dict rfl
  unfold State.refuseHeld
  rw [hw]
  dsimp only [List.foldl]
  rw [hkey.val]
  unfold State.refuseWrite State.respond
  rw [hb]
  dsimp only
  rw [if_neg hi, recordWindow_status (by decide)]

/-! ### The lead moves -/

theorem setHolder_counted {n : Nat} (hne : s.holder ≠ n) : (s.setHolder n).reg 0x0040 0x06 = s.reg 0x0040 0x06 + 1 := by
  unfold State.setHolder
  rw [if_neg hne, State.reg_bump_self, State.reg_put_ne (by decide)]

theorem recordSignal_out {c : Nat} {k : Option HalfId} : (s.recordSignal c k).out = s.out := by
  unfold State.recordSignal
  extract_lets v t
  have ht : t.out = s.out := State.signal_out
  split
  · rfl
  · cases k
    · exact ht
    · exact State.signal_out.trans ht

theorem traceAdd_out {x : TraceRec} : (s.traceAdd x).out = s.out := by
  unfold State.traceAdd
  split
  · exact State.add64_out
  · rfl

theorem cperAdd_out {r : Record} : (s.cperAdd r).out = s.out := by
  unfold State.cperAdd
  split
  · exact State.put_out
  · exact State.bump_out

theorem log_keepsOut {e : Event} {x : Out} (hx : x ∈ s.out) : x ∈ (s.log e).out := by
  unfold State.log
  dsimp only
  rw [recordSignal_out, traceAdd_out, cperAdd_out, State.emit_out]
  exact List.mem_append_left _ hx

theorem epochCheck_keepsOut {x : Out} (hx : x ∈ s.out) : x ∈ s.epochCheck.out := by
  unfold State.epochCheck
  split
  · exact log_keepsOut hx
  · exact hx

/-- The half holds the lead at the next epoch, but for the check of the epoch's limit. -/
def State.leadMoved (s : State) (h : HalfId) : State :=
  let t := s.refuseHeld.setHolder (halfNum h)
  let t := t.modHalf h (fun c => { c with believed := t.epoch + 1 })
  t.put 0x0040 0x02 (t.epoch + 1)

theorem moveLead_eq : s.moveLead h = (s.leadMoved h).epochCheck := rfl

theorem leadMoved_lead (hne : s.holder ≠ halfNum h) (hlt : s.epoch < 0xFFFFFFFE) :
    (s.leadMoved h).holder = halfNum h ∧ (s.leadMoved h).epoch = s.epoch + 1 ∧
      (s.leadMoved h).reg 0x0040 0x06 = s.reg 0x0040 0x06 + 1 := by
  have hr : SameObject 0x0040 s s.refuseHeld := refuseHeld_sameObject (by decide)
  have hm {t : State} {f : HalfCtl → HalfCtl} : SameObject 0x0040 t (t.modHalf h f) := fun _ _ => State.regAt_modHalf
  have hepoch : ∀ f, ((s.refuseHeld.setHolder (halfNum h)).modHalf h f).epoch = s.epoch := fun f => by
    rw [hm.epoch, State.setHolder_epoch, hr.epoch]
  have hput {t : State} {n sub : Nat} (hsub : 0x02 % 256 ≠ sub % 256) :
      (t.put 0x0040 0x02 n).reg 0x0040 sub = t.reg 0x0040 sub := State.reg_put_ne hsub
  have hnum : halfNum h < 2 ^ 32 := by have := halfNum_le h; omega
  unfold State.leadMoved
  dsimp only
  refine ⟨?_, ?_, ?_⟩
  · exact (congrArg BitVec.toNat (hput (by decide))).trans (hm.holder.trans (State.setHolder_holder hnum))
  · rw [hepoch]
    exact State.val_put_self (by omega)
  · rw [hput (by decide), hm.reg, setHolder_counted (hr.holder ▸ hne), hr.reg]

theorem leadMoved_windowObject : SameObject 0x0010 s.refuseHeld (s.leadMoved h) :=
  sameObject_of_keptD (W := [0x0040]) (by decide) fun kd => State.put_kept (kd.mem (by decide))
    (State.modHalf_kept (sameObject_keptH _ _) (State.setHolder_kept (kd.mono (by decide)) (SameObject.refl _ _)))

theorem leadMoved_out : (s.leadMoved h).out = s.refuseHeld.out := by
  unfold State.leadMoved
  simp

theorem leadMoved_hostHeld : (s.leadMoved h).key.hostHeld = [] := by
  unfold State.leadMoved State.refuseHeld
  simp

/-- What the moving of the lead leaves (R26). -/
theorem moveLead_spec (hne : s.holder ≠ halfNum h) (hlt : s.epoch < 0xFFFFFFFE) :
    (s.moveLead h).holder = halfNum h ∧ (s.moveLead h).epoch = s.epoch + 1 ∧
      (s.moveLead h).reg 0x0040 0x06 = s.reg 0x0040 0x06 + 1 ∧ (s.moveLead h).key.hostHeld = [] ∧
      (∀ w ∈ s.key.hostHeld, w.path ≠ .bar2 →
        ∃ r : Reply, .reply w.path r ∈ (s.moveLead h).out ∧ r.tag = w.tag ∧ r.status = 0x3002) ∧
      (∀ w, s.key.hostHeld = [w] → w.path = .bar2 → w.index ≠ 0x0010 → (s.moveLead h).val 0x0010 0x01 = 0x3002) ∧
      SameHbm s (s.moveLead h) ∧ SameCtxs s (s.moveLead h) := by
  have hcheck : SameObject 0x0040 (s.leadMoved h) (s.moveLead h) := epochCheck_sameObject (by decide)
  obtain ⟨hholder, hepoch, hcount⟩ := leadMoved_lead hne hlt
  refine ⟨hcheck.holder.trans hholder, hcheck.epoch.trans hepoch, (hcheck.reg _).trans hcount, ?_, fun w hw hb => ?_,
    fun w hw hb hi => ?_, ?_, ?_⟩
  · rw [moveLead_eq, epochCheck_key]
    exact leadMoved_hostHeld
  · obtain ⟨r, hr, hans⟩ := refuseHeld_answers hw hb
    exact ⟨r, epochCheck_keepsOut (leadMoved_out (h := h) ▸ hr), hans⟩
  · rw [moveLead_eq, (epochCheck_sameObject (by decide)).val, leadMoved_windowObject.val, refuseHeld_window hw hb hi]
  · exact State.moveLead_kept (sameHbm_kept s) (sameHbm_keptK s) (sameHbm_keptH s) (sameHbm_keptA s).toD ⟨rfl, rfl⟩
  · exact State.moveLead_kept (sameCtxs_kept s) (sameCtxs_keptK s) (sameCtxs_keptH s) (sameCtxs_keptA s).toD rfl

/-! ### The command -/

theorem verdict_moveLead {x : Aux} (hadm : admits s via 0x0040 0x04 [v] = true) :
    verdict s x via 0x0040 0x04 [v] = (arrival s via 0x0040 0x04).actMoveLead v := by
  obtain ⟨d, hd⟩ := verdict_module (x := x) hadm (by decide)
  exact hd.trans (congrArg (State.actMoveLead _) toWord_of_toNat)

/-- The lead can move to a half as it stands: an arrival changes nothing of it. -/
theorem arrival_leadStatus {i sub : Nat} : (arrival s via i sub).leadStatus h = s.leadStatus h := by
  unfold State.leadStatus
  rw [arrival_fenced, arrival_runs, arrival_sameObject.epoch]

theorem actMoveLead_holder (hv : v.toNat = halfNum h) (hh : s.holder = halfNum h) : s.actMoveLead v = .apply s := by
  have := halfNum_le h
  unfold State.actMoveLead
  rw [if_neg (by omega), if_pos (hh.trans hv.symm)]

theorem actMoveLead_refused {st : Nat} (hv : v.toNat = halfNum h) (hh : s.holder ≠ halfNum h)
    (hst : s.leadStatus h = st) (hne : st ≠ 0) : s.actMoveLead v = .refuse st 0 := by
  have := halfNum_le h
  unfold State.actMoveLead
  rw [if_neg (by omega), if_neg (by rwa [hv]), hv, halfOf_halfNum, hst]
  split
  · exact absurd rfl hne
  · rfl

theorem actMoveLead_moves (hv : v.toNat = halfNum h) (hh : s.holder ≠ halfNum h) (hst : s.leadStatus h = 0) :
    s.actMoveLead v = .apply (s.moveLead h) := by
  have := halfNum_le h
  unfold State.actMoveLead
  rw [if_neg (by omega), if_neg (by rwa [hv]), hv, halfOf_halfNum, hst]
  rfl

/-- Settles O58: the four outcomes of a write of a target half. -/
theorem movingTheLeadByCommand : Obligations.MovingTheLeadByCommand := by
  unfold Obligations.MovingTheLeadByCommand
  intro s via v h hv hadm
  have hholder : (arrival s via 0x0040 0x04).holder = s.holder := arrival_sameObject.holder
  have hepoch : (arrival s via 0x0040 0x04).epoch = s.epoch := arrival_sameObject.epoch
  have hverdict := verdict_moveLead (x := Aux.none) hadm
  have hrefuse {st : Nat} (hh : s.holder ≠ halfNum h) (hst : s.leadStatus h = st) (hne : st ≠ 0) :
      verdict s Aux.none via 0x0040 0x04 [v] = .refuse st 0 :=
    hverdict.trans (actMoveLead_refused hv (hholder ▸ hh) (arrival_leadStatus.trans hst) hne)
  refine ⟨fun hh => ?_, fun hh => ⟨fun hf => ?_, fun hf hr => ?_, fun hf hr he => ?_, fun hf hr he => ?_⟩⟩
  · exact takes_of rfl hadm (hverdict.trans (actMoveLead_holder hv (hholder.trans hh)))
      ⟨hholder, hepoch, arrival_sameObject⟩
  · exact refuses_of rfl hadm (hrefuse hh (by simp [State.leadStatus, hf]) (by decide)) (by decide) rfl
  · exact refuses_of rfl hadm (hrefuse hh (by simp [State.leadStatus, hf, hr]) (by decide)) (by decide) rfl
  · exact refuses_of_value rfl hadm (hrefuse hh (by simp [State.leadStatus, hf, hr, he, epochLast]) (by decide)) (by decide)
  · have hzero : (arrival s via 0x0040 0x04).leadStatus h = 0 := by
      rw [arrival_leadStatus]
      simp [State.leadStatus, hf, hr, epochLast, Nat.not_le.mpr he]
    have hspec := moveLead_spec (s := arrival s via 0x0040 0x04) (hholder ▸ hh) (hepoch ▸ he)
    refine takes_of rfl hadm (hverdict.trans (actMoveLead_moves hv (hholder ▸ hh) hzero)) ?_
    simpa [hepoch, arrival_sameObject.reg, SameHbm, SameCtxs] using hspec

end Sys2Proof.Machine
end

section
/-! PROOF. O52: the machine at reset (R41, R115, R493). -/

namespace Sys2Proof.Machine

open Sys2Proof Sys2Proof.Safety

/-- Settles O52: every store is empty at reset, so each word and byte reads as its default. -/
theorem resetIsTheUnpoweredPart : Obligations.ResetIsTheUnpoweredPart := by
  unfold Obligations.ResetIsTheUnpoweredPart
  obtain ⟨hcanonical, hbounded⟩ := (canon_iff State.reset).mp State.reset_canon
  refine ⟨rfl, rfl, rfl, rfl, fun _ _ _ => rfl, fun h a => ?_, hcanonical, hbounded⟩
  cases h <;> rfl

end Sys2Proof.Machine
end

section
/-! PROOF. O56 and O57: what stops a command, and what a command does without power (R40, R41). -/

namespace Sys2Proof.Machine

open Sys2Proof Sys2Proof.Safety

/-! ### Commands that wait for power -/

/-- The result is a next state, and the state itself while the keystone is off. -/
def Dormant (r : Result) (s : State) : Prop := ∃ t, r = .next t ∧ (s.key.powered = false → t = s)

theorem onPower_dormant {f : State → State} {s : State} : Dormant (onPower s f) s := by
  unfold onPower
  split
  · next hp => exact ⟨_, rfl, fun hoff => by rw [hoff] at hp; cases hp⟩
  · exact ⟨_, rfl, fun _ => rfl⟩

theorem put_dormant {s : State} {x : Aux} {via : Via} {i sub : Nat} {ws : List Word} : Dormant (s.put! x via i sub ws) s :=
  onPower_dormant

theorem putDomain_dormant {s : State} {via : Via} {i sub : Nat} {l : List Byte} : Dormant (s.putDomain! via i sub l) s :=
  onPower_dormant

/-- A command of the input: it carries a voltage, ends the power, or is the level of a pin. -/
def ofInput : Instr → Bool
  | .coldPowerOn .. | .inputSwitchReclose .. | .supplyBrownout .. | .supplyRecover .. | .supplyUndervoltageAlert ..
  | .supplyUndervoltageClear .. | .supplyOvervoltageAlert .. | .supplyOvervoltageClear .. | .powerLoss
  | .reversePolarity | .pwrbrkAssert | .pwrbrkRelease => true
  | _ => false

/-- Every command but those of the input waits for power. -/
theorem exec_dormant {c : Instr} {s : State} (hc : ofInput c = false) : Dormant (exec c s) s := by
  unfold exec
  cases c with
  | coldPowerOn | inputSwitchReclose | supplyBrownout | supplyRecover | supplyUndervoltageAlert
  | supplyUndervoltageClear | supplyOvervoltageAlert | supplyOvervoltageClear | powerLoss | reversePolarity
  | pwrbrkAssert | pwrbrkRelease => cases hc
  | recoveryImage | ownerRootInstall | serviceCommand => exact putDomain_dormant
  | recoverCommit | recoverRetry | clearExtremes | moveLead | replaceClear | replaceRaise | clearSticky
  | telemetryPlacementWrite | cachePartitionWrite | clockSourceSelect | clockEnableWrite | spreadWrite | clkobsSelect
  | ctxOpen | ctxLoad | ctxRun | ctxHold | ctxDone | ctxFree | contextReset | claimWrite | eventAck | numericsRelease
  | calZero | calFull | calAbort | calRefresh | spokeDown | spokeTrainStart | spokeForceRetrain | positionWrite
  | draftReceipt | slotEnable | restoreStart | sendBack | logClear | enterActive | enterQuiet | enterRetain
  | enterKeystoneOnly | boardLimitWrite | budgetSplitWrite | coreSetpointWrite | commitKeystone | commitHalfComponent
  | releaseOwnership | sealingKeyInstall | clearSealingSlot | rebind | releaseIdeHold | pelotonKeyInstall
  | pelotonKeyAdvance | sanitize | signStatement | halfReset | tileReset => exact put_dormant
  | _ => exact onPower_dormant

/-! ### The commands of the input -/

/-- A rated result stops only where the voltage lies beyond the rating. -/
theorem rated_stops {mv : Nat} {r : Result} (hr : ∃ t, r = .next t) (h : ∀ t, rated mv r ≠ .next t) :
    rated mv r = .fault .outsideRatings ∧ 80000 < mv := by
  unfold rated at *
  split
  · next hmv => exact ⟨rfl, hmv⟩
  · next hmv =>
    obtain ⟨t, ht⟩ := hr
    exact absurd (by rw [if_neg hmv, ht]) (h t)

theorem rated_next {mv : Nat} {r : Result} {t : State} (h : rated mv r = .next t) : r = .next t := by
  unfold rated at h
  split at h
  · cases h
  · exact h

theorem next_of_ite {p : Prop} [Decidable p] {a b : State} :
    ∃ t, (if p then .next a else .next b : Result) = .next t := by
  split
  · exact ⟨a, rfl⟩
  · exact ⟨b, rfl⟩

theorem onInput_stops {mv : Nat} {s : State} {f : State → State} (h : ∀ t, onInput mv s f ≠ .next t) :
    onInput mv s f = .fault .outsideRatings ∧ 80000 < mv := by
  obtain ⟨t, ht, -⟩ := onPower_dormant (s := s) (f := fun s => f (s.readInput mv))
  exact rated_stops ⟨t, ht⟩ h

theorem onInput_unpowered {mv : Nat} {s t : State} {f : State → State} (hp : s.key.powered = false)
    (h : onInput mv s f = .next t) : t = s := by
  obtain ⟨v, hv, hsame⟩ := onPower_dormant (s := s) (f := fun s => f (s.readInput mv))
  have ht := (rated_next h).symm.trans hv
  cases ht
  exact hsame hp

/-- Settles O56: a command that waits for power answers, and so do those that read no voltage; the others stop where
the voltage is not rated. -/
theorem onlyTheRatingStopsTheBlock : Obligations.OnlyTheRatingStopsTheBlock := by
  unfold Obligations.OnlyTheRatingStopsTheBlock
  intro c s h
  by_cases hc : ofInput c = false
  · obtain ⟨t, ht, -⟩ := exec_dormant (s := s) hc
    exact absurd ht (h t)
  unfold exec at h ⊢
  cases c with
  | coldPowerOn mv found =>
    obtain ⟨hf, hmv⟩ := rated_stops next_of_ite h
    exact ⟨hf, mv, hmv, by simp⟩
  | inputSwitchReclose mv found =>
    obtain ⟨hf, hmv⟩ := rated_stops next_of_ite h
    exact ⟨hf, mv, hmv, by simp⟩
  | supplyRecover mv found =>
    obtain ⟨hf, hmv⟩ := onInput_stops h
    exact ⟨hf, mv, hmv, by simp⟩
  | supplyBrownout mv | supplyUndervoltageAlert mv | supplyUndervoltageClear mv | supplyOvervoltageAlert mv
  | supplyOvervoltageClear mv =>
    obtain ⟨hf, hmv⟩ := onInput_stops h
    exact ⟨hf, mv, hmv, by simp⟩
  | powerLoss => exact absurd rfl (h _)
  | reversePolarity => exact absurd rfl (h _)
  | pwrbrkAssert | pwrbrkRelease => exact absurd next_of_ite (not_exists.mpr h)
  | _ => exact absurd rfl hc

/-- Settles O57: a command of the supply finds no keystone to read its voltage, and the others wait for power. -/
theorem nothingActsWithoutPower : Obligations.NothingActsWithoutPower := by
  unfold Obligations.NothingActsWithoutPower
  intro c s t hp h hstart hreverse hassert hrelease
  by_cases hc : ofInput c = false
  · obtain ⟨v, hv, hsame⟩ := exec_dormant (s := s) hc
    cases h.symm.trans hv
    exact hsame hp
  unfold exec at h
  cases c with
  | coldPowerOn mv found => exact absurd rfl (hstart mv found).1
  | inputSwitchReclose mv found => exact absurd rfl (hstart mv found).2
  | reversePolarity => exact absurd rfl hreverse
  | pwrbrkAssert => exact absurd rfl hassert
  | pwrbrkRelease => exact absurd rfl hrelease
  | powerLoss =>
    cases h
    rw [hp]
    rfl
  | supplyBrownout | supplyRecover | supplyUndervoltageAlert | supplyUndervoltageClear | supplyOvervoltageAlert
  | supplyOvervoltageClear => exact onInput_unpowered hp h
  | _ => exact absurd rfl hc

end Sys2Proof.Machine
end

section
/-! SUPPORT. What an output shown anew and a loss of power leave (R40, R46, R508). -/

namespace Sys2Proof.Machine

open Sys2Proof Sys2Proof.Safety

variable {s : State}

/-- Showing outputs changes nothing but what has been put out. -/
theorem repin_eq (old : State) (p : Pin) : ∃ l, s.repin old p = { s with out := l } := by
  rcases State.repin_cases s old p with e | ⟨o, e⟩
  · exact ⟨s.out, e⟩
  · exact ⟨s.out ++ [o], e⟩

theorem foldl_repin_eq (old : State) : ∀ (ps : List Pin) (t : State),
    ∃ l, ps.foldl (fun t p => t.repin old p) t = { t with out := l }
  | [], t => ⟨t.out, rfl⟩
  | p :: ps, t => by
    obtain ⟨l, hl⟩ := repin_eq (s := t) old p
    obtain ⟨m, hm⟩ := foldl_repin_eq old ps (t.repin old p)
    exact ⟨m, by rw [List.foldl_cons, hm, hl]⟩

/-- Without power nothing is left but what a loss of power leaves; the start records were written before. -/
theorem unpower_eq : ∃ (v : State) (l : List Out), s.unpower = { v.losePower with out := l } :=
  ⟨_, foldl_repin_eq _ _ _⟩

/-- Nothing that power held is left. -/
def State.gone (t : State) : Prop :=
  t.key.powered = false ∧ t.ctxs = [] ∧ t.hbm0 = [] ∧ t.hbm1 = [] ∧ t.cper = []

theorem unpower_gone : s.unpower.gone := by
  obtain ⟨v, l, e⟩ := unpower_eq (s := s)
  rw [e]
  exact ⟨rfl, rfl, rfl, rfl, rfl⟩

/-- Settles O2: each of the four ways to lose power ends in the same loss. -/
theorem lossOfPowerLeavesNothingVolatile : Obligations.LossOfPowerLeavesNothingVolatile := by
  unfold Obligations.LossOfPowerLeavesNothingVolatile
  intro s hp gone
  have hloss : (if s.key.powered then s.unpower else s) = s.unpower := if_pos hp
  refine ⟨⟨_, rfl, ?_⟩, fun halert => ⟨_, onPower_on hp, ?_⟩, ⟨_, rfl, ?_⟩, fun g hg hclosed hthree => ⟨_, onPower_on hp, ?_⟩⟩
  · rw [hloss]
    exact unpower_gone
  · rw [if_pos halert]
    exact ⟨unpower_gone, rfl⟩
  · rw [hloss]
    exact ⟨unpower_gone, rfl⟩
  · rw [if_pos ⟨hg, hclosed⟩, if_pos hthree]
    exact unpower_gone

end Sys2Proof.Machine
end

section
/-! PROOF. O3: contact groups and the sideband pins (R44, R47, R48, R50, R51, R54). -/

namespace Sys2Proof.Machine

open Sys2Proof Sys2Proof.Safety

variable {s : State}

/-! ### A flag written -/

theorem putFlag_reg {i sub b : Nat} {v : Bool} :
    (s.putFlag i sub b v).reg i sub = toWord (putBit (s.val i sub) b v) := by
  unfold State.reg
  rw [State.regAt_putFlag, if_pos rfl]
  rfl

/-! ### Contact groups (R44) -/

/-- The groups open, the cap that follows from them and the count of changes. -/
theorem setGroup_words {g : Nat} {now : Bool} :
    (s.setGroup g now).reg 0x0100 0x07 = toWord (putBit (s.val 0x0100 0x07) g now) ∧
    (s.setGroup g now).val 0x0100 0x08 =
      (12 - 3 * openGroups (toWord (putBit (s.val 0x0100 0x07) g now)).toNat) * 5000 ∧
    (s.setGroup g now).reg 0x0100 0x0E = s.reg 0x0100 0x0E + 1 := by
  have hgrant {t : State} : SameObject 0x0100 t t.regrant := fun _ _ => regrant_regAt (by decide)
  have hopen : (s.putFlag 0x0100 0x07 g now).val 0x0100 0x07 = (toWord (putBit (s.val 0x0100 0x07) g now)).toNat :=
    congrArg BitVec.toNat putFlag_reg
  have hcap : (12 - 3 * openGroups (toWord (putBit (s.val 0x0100 0x07) g now)).toNat) * 5000 < 2 ^ 32 := by omega
  unfold State.setGroup
  dsimp only
  rw [hopen, hgrant.reg, hgrant.val, hgrant.reg]
  refine ⟨?_, ?_, ?_⟩
  · rw [State.reg_bump_ne (by decide), State.reg_put_ne (by decide), putFlag_reg]
  · exact (congrArg BitVec.toNat (State.reg_bump_ne (by decide))).trans (State.val_put_self hcap)
  · rw [State.reg_bump_self, State.reg_put_ne (by decide)]
    unfold State.reg
    rw [State.regAt_putFlag, if_neg (by decide)]

theorem setGroup_kept {P : State → Prop} {g : Nat} {now : Bool} (kd : KeptD P [0x0041, 0x0100, 0x1011]) (hs : P s) :
    P (s.setGroup g now) := by
  have k : KeptAt P 0x0100 := kd.mem (by decide)
  exact State.regrant_kept (kd.mono (by decide)) (State.bump_kept k (State.put_kept k (State.putFlag_kept k hs)))

/-- A group that opens while others stay closed, or that closes, changes as the event says. -/
theorem exec_contactGroup {g : Nat} {now : Bool} (hp : s.key.powered = true) (hg : g < 4)
    (hf : s.flag 0x0100 0x07 g = !now) (hlast : now = true → openGroups (s.val 0x0100 0x07) ≠ 3) :
    exec (if now then .contactGroupOpen g else .contactGroupClear g) s = .next (s.setGroup g now) := by
  cases now with
  | true =>
    change execContactGroupOpen g s = _
    unfold execContactGroupOpen
    rw [onPower_on hp, if_pos ⟨hg, hf⟩, if_neg (hlast rfl)]
  | false =>
    change execContactGroupClear g s = _
    unfold execContactGroupClear
    rw [onPower_on hp, if_pos ⟨hg, hf⟩]

/-! ### The sideband -/

/-- A sideband event has made bit `b` of 0x0101.01 `v`, and nothing but the sideband's and the throttle's registers
has changed. -/
def Drives (b : Nat) (v : Bool) (s t : State) : Prop :=
  t.reg 0x0101 0x01 = toWord (putBit (s.val 0x0101 0x01) b v) ∧ SameHbm s t ∧ SameCtxs s t ∧ SameTiles s t ∧
    ∀ i, i < 65536 → i ∉ [0x0101, 0x1012, 0x1013, 0x1015, 0x1016] → SameObject i s t

/-- What an event keeps beside the bit that it drives. -/
theorem drives_of {b : Nat} {v : Bool} {t : State} (hbit : t.reg 0x0101 0x01 = toWord (putBit (s.val 0x0101 0x01) b v))
    (k : ∀ P : State → Prop, Kept P → KeptU P → KeptD P [0x0101, 0x1012, 0x1013, 0x1015, 0x1016] → P s → P t) :
    Drives b v s t :=
  ⟨hbit, k _ (sameHbm_kept s) (sameHbm_keptU s) (sameHbm_keptA s).toD ⟨rfl, rfl⟩,
    k _ (sameCtxs_kept s) (sameCtxs_keptU s) (sameCtxs_keptA s).toD rfl,
    k _ (sameTiles_kept s) (sameTiles_keptU s) (sameTiles_keptA s).toD rfl,
    onlyIn_of_keptD (by decide) fun i kd => k _ (sameObject_kept i s) (sameObject_keptU i s) kd (SameObject.refl i s)⟩

/-- PWRBRK drives bit 7 and brings the throttles of both halves up to date (R47). -/
theorem pwrbrk_drives {v : Bool} {x : Supply} :
    Drives 7 v s (State.putFlag { s with sup := x } 0x0101 0x01 7 v).throttleBoth := by
  refine drives_of ?_ fun P kk ku kd hs => ?_
  · unfold State.reg
    rw [throttleBoth_regAt (by decide)]
    exact putFlag_reg
  · exact State.throttleBoth_kept (kd.mono (by decide)) (State.putFlag_kept (kd.mem (by decide)) (ku.sup hs))

/-- THERM_N's bit written and its pin shown (R48). -/
theorem thermN_drives {v : Bool} : Drives 8 v s ((s.putFlag 0x0101 0x01 8 v).repin s .thermN) := by
  refine drives_of ?_ fun P kk ku kd hs => State.repin_kept kk (State.putFlag_kept (kd.mem (by decide)) hs) hs
  rw [State.repin_sameObject.reg, putFlag_reg]

/-- The pin that follows THERM_N's bit. -/
theorem thermN_out {v : Bool} (hp : s.key.powered = true) (hf : s.flag 0x0101 0x01 8 = !v) :
    ((s.putFlag 0x0101 0x01 8 v).repin s .thermN).out = s.out ++ [.pin .thermN (if v then .low else .floats)] := by
  have hnew : (s.putFlag 0x0101 0x01 8 v).flag 0x0101 0x01 8 = v := by simp [State.flag_putFlag]
  have hdrive : (s.putFlag 0x0101 0x01 8 v).pinDrive .thermN = if v then .low else .floats := by
    unfold State.pinDrive
    simp [hp, hnew]
  have hold : s.pinDrive .thermN = if v then .floats else .low := by
    unfold State.pinDrive
    cases v <;> simp [hp, hf]
  unfold State.repin
  rw [hdrive, hold]
  cases v <;> simp

/-- A fault bit that rises is set and counted (R54). -/
theorem sidebandFault_drives {b : Nat} (hf : s.flag 0x0101 0x01 b = false) :
    Drives b true s (s.sidebandFault b) ∧ (s.sidebandFault b).reg 0x0101 0x02 = s.reg 0x0101 0x02 + 1 := by
  unfold State.sidebandFault
  rw [if_neg (by simp [hf])]
  refine ⟨drives_of ?_ fun P kk ku kd hs => ?_, ?_⟩
  · rw [State.reg_bump_ne (by decide), putFlag_reg]
  · exact State.bump_kept (kd.mem (by decide)) (State.putFlag_kept (kd.mem (by decide)) hs)
  · rw [State.reg_bump_self]
    unfold State.reg
    rw [State.regAt_putFlag, if_neg (by decide)]

/-- A pull-up check that finds one line without its pull-up raises that line's fault. -/
theorem exec_pullupCheck {sda : Bool} (hp : s.key.powered = true) :
    exec (.pullupCheck (!sda) sda) s = .next (s.sidebandFault (if sda then 1 else 0)) := by
  cases sda
  all_goals
    change execPullupCheck _ _ s = _
    unfold execPullupCheck
    rw [onPower_on hp]
    rfl

/-- A fault bit is cleared; SDA's lets a withheld hot-join go out (R51). -/
theorem faultClear_drives {b : Nat} :
    Drives b false s (if b = 1 then (s.putFlag 0x0101 0x01 b false).hotJoin else s.putFlag 0x0101 0x01 b false) := by
  have hjoin {t : State} : SameObject 0x0101 t t.hotJoin :=
    State.hotJoin_kept (sameObject_kept _ _) (SameObject.refl _ _)
  refine drives_of ?_ fun P kk ku kd hs => ?_
  · split
    · rw [hjoin.reg, putFlag_reg]
    · exact putFlag_reg
  · have hflag := State.putFlag_kept (b := b) (v := false) (sub := 0x01) (kd.mem (i := 0x0101) (by decide)) hs
    exact kept_ite (State.hotJoin_kept kk hflag) hflag

/-- Settles O3: a group's change by the words it writes, and each sideband event by the bit that it drives. -/
theorem contactsAndSidebandPins : Obligations.ContactsAndSidebandPins := by
  unfold Obligations.ContactsAndSidebandPins
  refine ⟨fun s g now hp hg hf hlast => ?_, ?_⟩
  · obtain ⟨hgroups, hcap, hcount⟩ := setGroup_words (s := s) (g := g) (now := now)
    refine ⟨_, exec_contactGroup hp hg hf hlast, hcap, hgroups, hcount, ?_, ?_, ?_, ?_⟩
    · exact onlyIn_of_keptD (by decide) fun i kd => setGroup_kept kd (SameObject.refl i s)
    · exact setGroup_kept (sameHbm_keptA s).toD ⟨rfl, rfl⟩
    · exact setGroup_kept (sameCtxs_keptA s).toD rfl
    · exact setGroup_kept (sameTiles_keptA s).toD rfl
  intro s hp flag
  refine ⟨⟨_, if_pos hp, pwrbrk_drives, by simp⟩, ⟨_, if_pos hp, pwrbrk_drives, by simp⟩, fun c hc hf => ?_,
    fun c hc hf => ?_, fun b hlow hhigh hf => ?_, fun b hb hf => ?_, fun hf => ?_, fun hf => ?_⟩
  · exact ⟨_, (onPower_on hp).trans (congrArg _ (if_pos ⟨hc, hf⟩)), thermN_drives, thermN_out hp hf⟩
  · exact ⟨_, (onPower_on hp).trans (congrArg _ (if_pos ⟨hc, hf⟩)), thermN_drives, thermN_out hp hf⟩
  · exact ⟨_, (onPower_on hp).trans (congrArg _ (if_pos ⟨hlow, hhigh⟩)), sidebandFault_drives hf⟩
  · exact ⟨_, (onPower_on hp).trans (congrArg _ (if_pos ⟨hb, hf⟩)), faultClear_drives⟩
  · exact ⟨_, exec_pullupCheck (sda := false) hp, sidebandFault_drives hf⟩
  · exact ⟨_, exec_pullupCheck (sda := true) hp, sidebandFault_drives hf⟩

end Sys2Proof.Machine
end

section
/-! PROOF. O10: the writes of the module's objects that act at once (R53, R69, R134, R136). -/

namespace Sys2Proof.Machine

open Sys2Proof Sys2Proof.Safety

variable {s : State} {via : Via} {v : Word}

/-! ### Words of one object -/

theorem onlySubs_put {i sub n : Nat} {l : List Nat} {t : State} (h : OnlySubs i l s t) (hsub : sub < 256 ∧ sub ∈ l) :
    OnlySubs i l s (t.put i sub n) := by
  intro u sub' hlt hne
  rw [State.regAt_put, if_neg, h u sub' hlt hne]
  rw [dkey_inj]
  rintro ⟨-, -, he⟩
  rw [Nat.mod_eq_of_lt hsub.1, Nat.mod_eq_of_lt hlt] at he
  exact hne (he ▸ hsub.2)

theorem arrival_onlySubs {i sub j : Nat} {l : List Nat} : OnlySubs j l s (arrival s via i sub) :=
  fun _ _ _ _ => arrival_sameObject _ _

theorem arrival_put_onlyIn {i sub j sub' n : Nat} (hj : j < 65536) :
    OnlyIn [j] s ((arrival s via i sub).put j sub' n) :=
  onlyIn_of_keptD (by simpa using hj) fun _ kd => State.put_kept (kd.mem (by simp)) arrival_sameObject

/-! ### Extremes and sticky status (R53, R136) -/

theorem clearExtremes_takes (hadm : admits s via 0x0100 0x06 [v] = true) :
    Takes (.clearExtremes via v) s via 0x0100 0x06 [v] (fun t =>
      t.reg 0x0100 0x04 = s.reg 0x0100 0x01 ∧ t.reg 0x0100 0x05 = s.reg 0x0100 0x01 ∧ OnlyIn [0x0100] s t ∧
      OnlySubs 0x0100 [0x04, 0x05] s t) := by
  obtain ⟨d, hverdict⟩ := verdict_module (x := Aux.none) hadm (by decide)
  have hread : toWord ((arrival s via 0x0100 0x06).val 0x0100 0x01) = s.reg 0x0100 0x01 :=
    toWord_of_toNat.trans (arrival_sameObject.reg _)
  refine takes_of rfl hadm hverdict ⟨?_, ?_, ?_, onlySubs_put (onlySubs_put arrival_onlySubs (by decide)) (by decide)⟩
  · rw [State.reg_put_ne (by decide), ← hread]
    exact State.regAt_putAt_self
  · rw [← hread]
    exact State.regAt_putAt_self
  · exact onlyIn_of_keptD (by decide) fun i kd =>
      State.put_kept (kd.mem (by decide)) (State.put_kept (kd.mem (by decide)) arrival_sameObject)

theorem clearSticky_takes (hadm : admits s via 0x0010 0x06 [v] = true) :
    Takes (.clearSticky via v) s via 0x0010 0x06 [v] (fun t =>
      t.val 0x0010 0x03 = 0 ∧ t.val 0x0010 0x04 = 0 ∧ OnlyIn [0x0010] s t ∧ OnlySubs 0x0010 [0x03, 0x04] s t) := by
  obtain ⟨d, hverdict⟩ := verdict_module (x := Aux.none) hadm (by decide)
  refine takes_of rfl hadm hverdict ⟨?_, State.val_put_self (by decide), ?_,
    onlySubs_put (onlySubs_put arrival_onlySubs (by decide)) (by decide)⟩
  · exact (congrArg BitVec.toNat (State.reg_put_ne (by decide))).trans (State.val_put_self (by decide))
  · exact onlyIn_of_keptD (by decide) fun i kd =>
      State.put_kept (kd.mem (by decide)) (State.put_kept (kd.mem (by decide)) arrival_sameObject)

/-! ### Telemetry placement (R134) -/

theorem verdict_telemetry {x : Aux} (hadm : admits s via 0x0011 0x0A [v] = true) :
    verdict s x via 0x0011 0x0A [v] = (arrival s via 0x0011 0x0A).actTelemetry v.toNat := by
  obtain ⟨d, hverdict⟩ := verdict_module (x := x) hadm (by decide)
  exact hverdict

/-- The bits of the placement that a value sets anew, each for the half whose export moves. -/
def newlyPlaced (old new : Nat) : List Nat := (changedBits old new 0 2).filter (fun b => bitsOf new b 1 == 1)

theorem mem_newlyPlaced {old new b : Nat} :
    b ∈ newlyPlaced old new ↔ ∃ h, b = halfNum h ∧ bitsOf new b 1 = 1 ∧ bitsOf old b 1 = 0 := by
  have hbit : bitsOf old b 1 = 0 ∨ bitsOf old b 1 = 1 := by unfold bitsOf; omega
  unfold newlyPlaced changedBits
  simp only [List.mem_filter, List.mem_range, Nat.zero_le, decide_true, and_true, bne_iff_ne, beq_iff_eq]
  constructor
  · rintro ⟨⟨hlt, hne⟩, hset⟩
    refine ⟨halfOf b, (halfNum_halfOf (by omega)).symm, hset, by omega⟩
  · rintro ⟨h, rfl, hset, hold⟩
    exact ⟨⟨by have := halfNum_le h; omega, by omega⟩, hset⟩

/-- A half's export may move to a manager that is neither fenced nor shedding. -/
theorem actTelemetry_moves {n : Nat}
    (hfree : ∀ h, bitsOf n (halfNum h) 1 = 1 → bitsOf (s.val 0x0011 0x0A) (halfNum h) 1 = 0 →
      s.fenced (otherHalf h) = false ∧ s.val 0x0011 (0x03 + halfNum (otherHalf h)) = 0) :
    s.actTelemetry n = .apply (s.put 0x0011 0x0A n) := by
  have hall : ∀ b ∈ newlyPlaced (s.val 0x0011 0x0A) n, s.fenced (otherHalf (halfOf b)) = false ∧
      s.val 0x0011 (0x03 + halfNum (otherHalf (halfOf b))) = 0 := by
    intro b hb
    obtain ⟨h, rfl, hset, hold⟩ := mem_newlyPlaced.mp hb
    rw [halfOf_halfNum]
    exact hfree h hset hold
  change (if (newlyPlaced (s.val 0x0011 0x0A) n).any _ = true then _ else _) = _
  rw [if_neg, if_neg]
  · rw [List.any_eq_true]
    rintro ⟨b, hb, hshed⟩
    simp [(hall b hb).2] at hshed
  · rw [List.any_eq_true]
    rintro ⟨b, hb, hfenced⟩
    simp [(hall b hb).1] at hfenced

theorem actTelemetry_fenced {n : Nat} {h : HalfId} (hset : bitsOf n (halfNum h) 1 = 1)
    (hold : bitsOf (s.val 0x0011 0x0A) (halfNum h) 1 = 0) (hf : s.fenced (otherHalf h) = true) :
    s.actTelemetry n = .refuse 0x3004 0 := by
  have hmem : halfNum h ∈ newlyPlaced (s.val 0x0011 0x0A) n := mem_newlyPlaced.mpr ⟨h, rfl, hset, hold⟩
  refine if_pos (List.any_eq_true.mpr ⟨_, hmem, ?_⟩)
  dsimp only
  rw [halfOf_halfNum, hf]

theorem telemetry_takes (hadm : admits s via 0x0011 0x0A [v] = true)
    (hfree : ∀ h, bitsOf v.toNat (halfNum h) 1 = 1 → bitsOf (s.val 0x0011 0x0A) (halfNum h) 1 = 0 →
      s.fenced (otherHalf h) = false ∧ s.val 0x0011 (0x03 + halfNum (otherHalf h)) = 0) :
    Takes (.telemetryPlacementWrite via v) s via 0x0011 0x0A [v] (fun t =>
      t.val 0x0011 0x0A = v.toNat ∧ OnlyIn [0x0011] s t ∧ OnlySubs 0x0011 [0x0A] s t) := by
  refine takes_of rfl hadm ((verdict_telemetry hadm).trans (actTelemetry_moves fun h hset hold => ?_))
    ⟨State.val_put_self v.isLt, arrival_put_onlyIn (by decide), onlySubs_put arrival_onlySubs (by decide)⟩
  rw [arrival_sameObject.val] at hold
  rw [arrival_fenced, arrival_sameObject.val]
  exact hfree h hset hold

theorem telemetry_refused {h : HalfId} (hadm : admits s via 0x0011 0x0A [v] = true)
    (hset : bitsOf v.toNat (halfNum h) 1 = 1) (hold : bitsOf (s.val 0x0011 0x0A) (halfNum h) 1 = 0)
    (hf : s.fenced (otherHalf h) = true) : Refuses (.telemetryPlacementWrite via v) s via 0x0011 0x0A 0x3004 := by
  have hold' : bitsOf ((arrival s via 0x0011 0x0A).val 0x0011 0x0A) (halfNum h) 1 = 0 := by
    rwa [arrival_sameObject.val]
  exact refuses_of rfl hadm ((verdict_telemetry hadm).trans
    (actTelemetry_fenced hset hold' (by rwa [arrival_fenced]))) (by decide) rfl

/-! ### The device cache partition (R69) -/

/-- The check of the value against the row's range has passed. -/
theorem admits_valueStatus {i sub : Nat} {ws : List Word} (h : admits s via i sub ws = true) :
    ∃ r, findRow i sub = some r ∧ r.valueStatus ws = 0 := by
  unfold admits at h
  split at h
  · simp at h
  · next o ho =>
    split at h
    · simp at h
    · next r hr =>
      simp only [Bool.and_eq_true, beq_iff_eq, and_assoc] at h
      obtain ⟨-, -, -, -, -, -, -, hvalue, -⟩ := h
      exact ⟨r, by unfold findRow; rw [ho]; exact hr, hvalue⟩

theorem reservedFirst_single {st : Nat} (h : reservedFirst [st] = 0) : st = 0 := by
  unfold reservedFirst firstBad at h
  by_contra hne
  split_ifs at h
  simp_all

/-- A value that passes the checks of a row lies within the row's range. -/
theorem rngStatus_of_valueStatus {r : Row} {ws : List Word} (hty : r.ty ≠ .array) (h : r.valueStatus ws = 0) :
    rngStatus r.rng (wordsNat ws) = 0 := by
  unfold Row.valueStatus at h
  split at h
  · exact absurd ‹_› hty
  · dsimp only at h
    split_ifs at h
    exact reservedFirst_single h

/-- A partition that the checks let through is 512 to 3,584 KiB in steps of 256. -/
theorem admits_partition (hadm : admits s via 0xA003 0x03 [v] = true) :
    512 ≤ v.toNat ∧ v.toNat ≤ 3584 ∧ v.toNat % 256 = 0 := by
  obtain ⟨r, hr, hvalue⟩ := admits_valueStatus hadm
  have hrow : findRow 0xA003 0x03 = some ⟨0x03, .u16, 1, .bool, .rw, .val 0x800, .p1, .step 512 3584 256, false⟩ := rfl
  obtain rfl := Option.some.inj (hrow.symm.trans hr)
  have hrange : rngStatus (.step 512 3584 256) v.toNat = 0 := by
    simpa [wordsNat] using rngStatus_of_valueStatus (by decide) hvalue
  unfold rngStatus at hrange
  dsimp only at hrange
  split_ifs at hrange
  omega

theorem verdict_partition {x : Aux} (hadm : admits s via 0xA003 0x03 [v] = true) :
    verdict s x via 0xA003 0x03 [v] = (arrival s via 0xA003 0x03).actPartition v := by
  obtain ⟨_, _, _, o, r, ho, hr, hsub, _⟩ := admits_row hadm
  rw [verdict_of ho hr]
  unfold State.act
  rw [hsub]
  rfl

theorem actPartition_range (hlow : 512 ≤ v.toNat) (hhigh : v.toNat ≤ 3584) (hstep : v.toNat % 256 = 0) :
    s.actPartition v = if s.port.cache.any (·.dirty) then .counted 0x6001 ((s.writeBack .h0).writeBack .h1)
      else .apply (s.put 0xA003 0x03 v.toNat) := by
  unfold State.actPartition
  dsimp only
  rw [if_neg (by omega), if_neg (by omega), if_neg (by omega)]

theorem d2hDrain_cache {h : HalfId} : (s.d2hDrain h).port.cache = s.port.cache := by
  have hset {t : State} {l : List D2HReq} : (t.setD2h h l).port.cache = t.port.cache := by cases h <;> rfl
  unfold State.d2hDrain
  rw [hset]
  exact Kept.foldl (P := fun t => t.port.cache = s.port.cache) (fun t _ ht => by rw [State.emit_port, ht]) rfl

/-- A half's lines written back are clean, and the others stay. -/
theorem writeBack_cache {h : HalfId} : (s.writeBack h).port.cache =
    s.port.cache.map (fun l => if l.half == h then { l with dirty := false } else l) := by
  unfold State.writeBack
  extract_lets t dirty u w
  have hw : w.port.cache = s.port.cache := by
    have hu : u.port = t.port :=
      Kept.foldl (P := fun x => x.port = t.port) (fun x _ hx => by rw [State.emit_port, hx]) rfl
    rw [show w.port = t.port from State.add64_port.trans hu]
    exact d2hDrain_cache
  dsimp only
  rw [hw]

/-- With the lines of both halves written back none is dirty. -/
theorem writeBack_both_clean : ((s.writeBack .h0).writeBack .h1).port.cache.any (·.dirty) = false := by
  rw [writeBack_cache, writeBack_cache, List.map_map, List.any_map, List.any_eq_false]
  intro l _
  cases hl : l.half <;> simp [hl]

/-- The write-back counts in 0xA003.04 and leaves the partition. -/
theorem writeBack_partition {h : HalfId} : (s.writeBack h).reg 0xA003 0x03 = s.reg 0xA003 0x03 := by
  unfold State.writeBack
  extract_lets t dirty u w
  have hu : u.dict = s.dict :=
    Kept.foldl (P := SameDict s) (fun _ _ => State.emit_kept (sameDict_kept s)) (State.d2hDrain_kept (sameDict_kept s) rfl)
  have hw : w.reg 0xA003 0x03 = u.reg 0xA003 0x03 := by
    unfold w State.reg State.add64 State.add64At
    rw [State.regAt_put64At, if_neg (by decide), if_neg (by decide)]
  exact hw.trans (State.regAt_of_dict hu)

/-- Settles O10: the verdict on each write, and what it leaves. -/
theorem moduleWritesTakeEffect : Obligations.ModuleWritesTakeEffect := by
  unfold Obligations.ModuleWritesTakeEffect
  intro s via v
  refine ⟨clearExtremes_takes, clearSticky_takes, telemetry_takes, fun h => telemetry_refused, fun hadm hclean => ?_,
    fun hadm hdirty => ?_⟩
  · obtain ⟨hlow, hhigh, hstep⟩ := admits_partition hadm
    refine takes_of rfl hadm ((verdict_partition hadm).trans ((actPartition_range hlow hhigh hstep).trans (if_neg ?_)))
      ⟨State.val_put_self v.isLt, arrival_put_onlyIn (by decide), onlySubs_put arrival_onlySubs (by decide)⟩
    rw [arrival_port, hclean]
    exact Bool.false_ne_true
  · obtain ⟨hlow, hhigh, hstep⟩ := admits_partition hadm
    refine counts_of rfl hadm ((verdict_partition hadm).trans ((actPartition_range hlow hhigh hstep).trans (if_pos ?_)))
      (by decide) rfl ⟨?_, ?_, ?_⟩
    · rw [arrival_port, hdirty]
    · exact writeBack_both_clean
    · rw [writeBack_partition, writeBack_partition, arrival_sameObject.reg]
    · exact onlyIn_of_keptD (by decide) fun i kd => State.writeBack_kept (sameObject_kept i s) kd
        (State.writeBack_kept (sameObject_kept i s) kd arrival_sameObject)

end Sys2Proof.Machine
end

section
/-! PROOF. Entry to Keystone-only: what both halves lose and what the keystone's own objects keep (R25, R428, R508). -/

namespace Sys2Proof.Machine

open Sys2Proof Sys2Proof.Safety

variable {s t : State} {h k : HalfId} {i : Nat}

theorem SameHbm.hbm (e : SameHbm s t) : t.hbm k = s.hbm k := by
  cases k
  exacts [e.1, e.2]

/-! ### The keystone's own objects -/

/-- An object of the keystone's own that no selector divides: none of its words is a half's. -/
def keystoneOwned (i : Nat) : Bool :=
  (findObj (i % 65536)).all (fun o => o.owner == .keystone && o.selectors == [])

theorem keyHalf_keystoneOwned (hi : keystoneOwned i = true) {u sub : Nat} : s.keyHalf (dkey u i sub) = none := by
  unfold State.keyHalf
  unfold keystoneOwned at hi
  rw [keyIndex_dkey]
  generalize findObj (i % 65536) = x at hi
  cases x with
  | none => rfl
  | some o =>
    obtain ⟨howner, hsel⟩ : o.owner = .keystone ∧ o.selectors = [] := by simpa using hi
    simp [howner, hsel]

theorem dropHalfKeys_sameObject (hi : keystoneOwned i = true) : SameObject i s (s.dropHalfKeys h) := fun u sub => by
  unfold State.dropHalfKeys
  rw [State.regAt_dropKeys, keyHalf_keystoneOwned hi]
  rfl

/-! ### A half loses its contents -/

theorem loseHalf_sameObject (hi : keystoneOwned i = true) (hs : i % 65536 ≠ 0xA004) : SameObject i s (s.loseHalf h) := by
  unfold State.loseHalf
  extract_lets ended dropped sec listed cleared captured
  have hd : SameObject i s dropped :=
    (State.endHalfTickets_kept (sameObject_kept i s) (sameObject_keptV i s) (SameObject.refl i s)).trans
      (dropHalfKeys_sameObject hi)
  have hcleared : SameObject i s cleared := fun u sub =>
    (State.regAt_of_dict (s := dropped) (t := cleared) State.setHbm_dict).trans (hd u sub)
  have hcaptured : SameObject i s captured := by cases h <;> exact hcleared
  exact (sameObject_kept i s).rest (State.unpoison_kept (sameObject_kept i s)
    (State.cancelSnoops_kept (sameObject_kept i s) (sameObject_keptD s (by simpa using hs)) hcaptured))

/-- The other half's memory stays. -/
theorem loseHalf_hbm : (s.loseHalf h).hbm k = if k = h then [] else s.hbm k := by
  unfold State.loseHalf
  extract_lets ended dropped sec listed cleared captured rest
  have hended : SameHbm s ended := State.endHalfTickets_kept (sameHbm_kept s) (sameHbm_keptV s) ⟨rfl, rfl⟩
  have hlisted : listed.hbm k = s.hbm k := SameHbm.hbm (t := listed) hended
  have hcleared : cleared.hbm k = if k = h then [] else listed.hbm k := by cases h <;> cases k <;> rfl
  have hcaptured : captured.hbm k = cleared.hbm k := by cases h <;> rfl
  have hrest : SameHbm captured rest := State.unpoison_kept (sameHbm_kept captured)
    (State.cancelSnoops_kept (sameHbm_kept captured) (sameHbm_keptA captured).toD ⟨rfl, rfl⟩)
  calc rest.hbm k = captured.hbm k := SameHbm.hbm hrest
    _ = _ := by rw [hcaptured, hcleared, hlisted]

theorem loseHalf_ctxs : (s.loseHalf h).ctxs = s.ctxs.filter (fun c => c.half != h) := by
  unfold State.loseHalf
  extract_lets ended dropped sec listed cleared captured rest
  have hended : SameCtxs s ended := State.endHalfTickets_kept (sameCtxs_kept s) (sameCtxs_keptV s) rfl
  have hcleared : cleared.ctxs = s.ctxs.filter (fun c => c.half != h) :=
    State.setHbm_ctxs.trans (congrArg (List.filter fun c => c.half != h) hended)
  have hcaptured : captured.ctxs = cleared.ctxs := by cases h <;> rfl
  have hrest : SameCtxs captured rest := State.unpoison_kept (sameCtxs_kept captured)
    (State.cancelSnoops_kept (sameCtxs_kept captured) (sameCtxs_keptA captured).toD rfl)
  exact hrest.trans (hcaptured.trans hcleared)

theorem loseHalf_halves : SameHalves s (s.loseHalf h) :=
  State.loseHalf_kept (sameHalves_kept s) (sameHalves_keptM s) (sameHalves_keptC s) (sameHalves_keptT s)
    (sameHalves_keptS s) (sameHalves_keptV s) (sameHalves_keptL s) (sameHalves_keptA s).toD (sameHalves_keptQ s) ⟨rfl, rfl⟩

/-! ### A half's rails go off -/

theorem railsOff_halfPhase {p : HalfPhase} :
    ((s.railsOff h p).half k).phase = if k = h then p else (s.half k).phase := by
  have hrest {t : State} : SameHalves t (((((t.dropReady h).halfLocks h false).throttle h).repin s (.spokes h)).repin s
      .clkobs) := by
    have hd : SameHalves t ((t.dropReady h).halfLocks h false) :=
      State.halfLocks_kept (sameHalves_keptA t).toD (State.dropReady_kept (sameHalves_keptA t).toD ⟨rfl, rfl⟩)
    exact ⟨by simpa using hd.1, by simpa using hd.2⟩
  unfold State.railsOff
  rw [hrest.half]
  cases h <;> cases k <;> rfl

/-! ### One half to Keystone-only -/

/-- What a half on its way to Keystone-only ends before it loses its contents. -/
theorem halfFlushed_kept {P : State → Prop} (kk : Kept P) (kv : KeptV P) (kd : KeptD P [0xA003]) (hs : P s) :
    P ((s.endPending 0xF010 0x01 (halfNum h) 0x3001).flushCache h) :=
  State.flushCache_kept kk kd (State.endPending_kept kk kv hs)

theorem halfToKeystoneOnly_sameObject (hi : keystoneOwned i = true)
    (hs : ∀ j ∈ [0x0041, 0x1001, 0x1002, 0x1012, 0x1013, 0x1015, 0x1016, 0xA003, 0xA004], i % 65536 ≠ j % 65536) :
    SameObject i s (s.halfToKeystoneOnly h) := by
  have kd := sameObject_keptD s hs
  have hflushed : SameObject i s ((s.endPending 0xF010 0x01 (halfNum h) 0x3001).flushCache h) :=
    halfFlushed_kept (sameObject_kept i s) (sameObject_keptV i s) (kd.mono (by decide)) (SameObject.refl i s)
  exact State.setFence_kept (kd.mono (by decide)) (State.railsOff_kept (sameObject_kept i s) (sameObject_keptH i s)
    (kd.mono (by decide)) (hflushed.trans (loseHalf_sameObject hi (hs 0xA004 (by decide)))))

theorem halfToKeystoneOnly_hbm : (s.halfToKeystoneOnly h).hbm k = if k = h then [] else s.hbm k := by
  have hflushed : SameHbm s ((s.endPending 0xF010 0x01 (halfNum h) 0x3001).flushCache h) :=
    halfFlushed_kept (sameHbm_kept s) (sameHbm_keptV s) (sameHbm_keptA s).toD ⟨rfl, rfl⟩
  have hoff {t : State} {p : HalfPhase} {n : Nat} : SameHbm t ((t.railsOff h p).setFence h n) :=
    State.setFence_kept (sameHbm_keptA t).toD
      (State.railsOff_kept (sameHbm_kept t) (sameHbm_keptH t) (sameHbm_keptA t).toD ⟨rfl, rfl⟩)
  unfold State.halfToKeystoneOnly
  rw [SameHbm.hbm hoff, loseHalf_hbm, SameHbm.hbm hflushed]

theorem halfToKeystoneOnly_ctxs : (s.halfToKeystoneOnly h).ctxs = s.ctxs.filter (fun c => c.half != h) := by
  have hflushed : SameCtxs s ((s.endPending 0xF010 0x01 (halfNum h) 0x3001).flushCache h) :=
    halfFlushed_kept (sameCtxs_kept s) (sameCtxs_keptV s) (sameCtxs_keptA s).toD rfl
  have hoff {t : State} {p : HalfPhase} {n : Nat} : SameCtxs t ((t.railsOff h p).setFence h n) :=
    State.setFence_kept (sameCtxs_keptA t).toD
      (State.railsOff_kept (sameCtxs_kept t) (sameCtxs_keptH t) (sameCtxs_keptA t).toD rfl)
  exact hoff.trans (loseHalf_ctxs.trans (congrArg (List.filter fun c => c.half != h) hflushed))

theorem halfToKeystoneOnly_railsOn :
    (s.halfToKeystoneOnly h).railsOn k = if k = h then false else s.railsOn k := by
  have hflushed : SameHalves s ((s.endPending 0xF010 0x01 (halfNum h) 0x3001).flushCache h) :=
    halfFlushed_kept (sameHalves_kept s) (sameHalves_keptV s) (sameHalves_keptA s).toD ⟨rfl, rfl⟩
  have hfence {t : State} {n : Nat} : SameHalves t (t.setFence h n) := ⟨by simp, by simp⟩
  unfold State.halfToKeystoneOnly State.railsOn
  dsimp only
  rw [hfence.half, railsOff_halfPhase, loseHalf_halves.half, hflushed.half]
  split_ifs <;> rfl

/-! ### The module in Keystone-only -/

theorem keystoneOnly_sameObject (hs : ∀ j ∈ [0x0010, 0x0040, 0x0041, 0x1010, 0x1011], i % 65536 ≠ j % 65536) :
    SameObject i s s.keystoneOnly :=
  State.keystoneOnly_kept (sameObject_kept i s) (sameObject_keptK i s) (sameObject_keptD s hs) (SameObject.refl i s)

/-- The lead is nobody's and its epoch is kept (R25). -/
theorem keystoneOnly_lead : s.keystoneOnly.holder = 0xFF ∧ s.keystoneOnly.epoch = s.epoch := by
  have hrest {t : State} : SameObject 0x0040 t (((t.refuseHeld.put 0x1010 0x01 3).bump 0x1010 0x05).regrant) :=
    have kd := sameObject_keptD (W := [0x0010, 0x0041, 0x1010, 0x1011]) t (by decide)
    State.regrant_kept (kd.mono (by decide)) (State.bump_kept (kd.mem (by decide)) (State.put_kept (kd.mem (by decide))
      (State.refuseHeld_kept (sameObject_kept _ t) (sameObject_keptK _ t) (kd.mono (by decide)) (SameObject.refl _ t))))
  exact ⟨hrest.holder.trans (State.setHolder_holder (by decide)), hrest.epoch.trans State.setHolder_epoch⟩

theorem keystoneOnly_state : s.keystoneOnly.val 0x1010 0x01 = 3 := by
  unfold State.keystoneOnly State.val State.valAt
  rw [regrant_regAt (by decide), State.regAt_bump, if_neg (by decide)]
  exact State.val_put_self (by decide)

theorem keystoneOnly_hbm : SameHbm s s.keystoneOnly :=
  State.keystoneOnly_kept (sameHbm_kept s) (sameHbm_keptK s) (sameHbm_keptA s).toD ⟨rfl, rfl⟩

theorem keystoneOnly_ctxs : SameCtxs s s.keystoneOnly :=
  State.keystoneOnly_kept (sameCtxs_kept s) (sameCtxs_keptK s) (sameCtxs_keptA s).toD rfl

theorem keystoneOnly_halves : SameHalves s s.keystoneOnly :=
  State.keystoneOnly_kept (sameHalves_kept s) (sameHalves_keptK s) (sameHalves_keptA s).toD ⟨rfl, rfl⟩

/-- What the input and the alerts say stays. -/
theorem toKeystoneOnly_supplyObject : SameObject 0x0100 s s.toKeystoneOnly :=
  have hhalf {t : State} {h : HalfId} : SameObject 0x0100 t (t.halfToKeystoneOnly h) :=
    halfToKeystoneOnly_sameObject (by decide) (by decide)
  (hhalf.trans hhalf).trans (keystoneOnly_sameObject (by decide))

theorem toKeystoneOnly_lead : s.toKeystoneOnly.holder = 0xFF ∧ s.toKeystoneOnly.epoch = s.epoch := by
  have hhalf {t : State} {h : HalfId} : SameObject 0x0040 t (t.halfToKeystoneOnly h) :=
    halfToKeystoneOnly_sameObject (by decide) (by decide)
  obtain ⟨hholder, hepoch⟩ := keystoneOnly_lead (s := (s.halfToKeystoneOnly .h0).halfToKeystoneOnly .h1)
  exact ⟨hholder, hepoch.trans (hhalf.trans hhalf).epoch⟩

theorem toKeystoneOnly_state : s.toKeystoneOnly.val 0x1010 0x01 = 3 := keystoneOnly_state

theorem toKeystoneOnly_hbm : s.toKeystoneOnly.hbm k = [] := by
  unfold State.toKeystoneOnly
  rw [SameHbm.hbm keystoneOnly_hbm, halfToKeystoneOnly_hbm, halfToKeystoneOnly_hbm]
  cases k <;> rfl

theorem toKeystoneOnly_ctxs : s.toKeystoneOnly.ctxs = [] := by
  refine keystoneOnly_ctxs.trans ?_
  rw [halfToKeystoneOnly_ctxs, halfToKeystoneOnly_ctxs, List.filter_filter, List.filter_eq_nil_iff]
  intro c _
  cases c.half <;> decide

theorem toKeystoneOnly_railsOn : s.toKeystoneOnly.railsOn k = false := by
  unfold State.toKeystoneOnly State.railsOn
  rw [keystoneOnly_halves.half]
  change (((s.halfToKeystoneOnly .h0).halfToKeystoneOnly .h1).railsOn k) = false
  rw [halfToKeystoneOnly_railsOn, halfToKeystoneOnly_railsOn]
  cases k <;> rfl

/-! ### A transition overtaken (R430) -/

theorem overtake_trans {n : Nat} : (s.overtake n).key.trans = none := by
  have hend {t : State} {status : Nat} : SameKey t (t.endPending 0x1010 0x02 0 status) :=
    State.endPending_kept (sameKey_kept t) (sameKey_keptV t) rfl
  unfold State.overtake
  rw [hend]

theorem overtaken_kept {P : State → Prop} (kk : Kept P) (kg : KeptK P) (kv : KeptV P)
    (kd : KeptD P [0x1012, 0x1013, 0x1015, 0x1016]) {n : Nat} (hs : P s) : P (s.overtake n).throttleBoth :=
  State.throttleBoth_kept kd (State.overtake_kept kk kg kv hs)

theorem overtaken_sameObject {n : Nat}
    (hs : ∀ j ∈ [0x1012, 0x1013, 0x1015, 0x1016], i % 65536 ≠ j % 65536) : SameObject i s (s.overtake n).throttleBoth :=
  overtaken_kept (sameObject_kept i s) (sameObject_keptK i s) (sameObject_keptV i s) (sameObject_keptD s hs)
    (SameObject.refl i s)

/-- What an entry to Keystone-only by the keystone's own act leaves, whatever it overtakes. -/
theorem keystoneOnly_overtakes {n : Nat} {t : State} (e : t = (s.toKeystoneOnly.overtake n).throttleBoth) :
    t.val 0x1010 0x01 = 3 ∧ t.holder = 0xFF ∧ t.epoch = s.epoch ∧ t.key.trans = none ∧ t.railsOn .h0 = false ∧
      t.railsOn .h1 = false ∧ t.hbm0 = [] ∧ t.hbm1 = [] ∧ t.ctxs = [] ∧ SameObject 0x0100 s t := by
  subst e
  generalize hu : s.toKeystoneOnly = u
  have hmem : SameHbm u (u.overtake n).throttleBoth :=
    overtaken_kept (sameHbm_kept u) (sameHbm_keptK u) (sameHbm_keptV u) (sameHbm_keptA u).toD ⟨rfl, rfl⟩
  have hctxs : SameCtxs u (u.overtake n).throttleBoth :=
    overtaken_kept (sameCtxs_kept u) (sameCtxs_keptK u) (sameCtxs_keptV u) (sameCtxs_keptA u).toD rfl
  have hrails {k : HalfId} : (u.overtake n).throttleBoth.railsOn k = false := by
    have : SameHalves u (u.overtake n).throttleBoth :=
      overtaken_kept (sameHalves_kept u) (sameHalves_keptK u) (sameHalves_keptV u) (sameHalves_keptA u).toD ⟨rfl, rfl⟩
    unfold State.railsOn
    rw [this.half, ← hu]
    exact toKeystoneOnly_railsOn
  have hlead : SameObject 0x0040 u (u.overtake n).throttleBoth := overtaken_sameObject (by decide)
  refine ⟨?_, ?_, ?_, ?_, hrails, hrails, ?_, ?_, ?_, ?_⟩
  · rw [(overtaken_sameObject (by decide)).val, ← hu, toKeystoneOnly_state]
  · rw [hlead.holder, ← hu, toKeystoneOnly_lead.1]
  · rw [hlead.epoch, ← hu, toKeystoneOnly_lead.2]
  · rw [State.throttleBoth_key, overtake_trans]
  · rw [hmem.1, ← hu]
    exact toKeystoneOnly_hbm (k := .h0)
  · rw [hmem.2, ← hu]
    exact toKeystoneOnly_hbm (k := .h1)
  · exact hctxs.trans (hu ▸ toKeystoneOnly_ctxs)
  · exact (hu ▸ toKeystoneOnly_supplyObject).trans (overtaken_sameObject (by decide))

end Sys2Proof.Machine
end


section
/-! PROOF. O5, the alerts: what an event of the supply input reads, raises and counts (R40, R53). -/

namespace Sys2Proof.Machine

open Sys2Proof Sys2Proof.Safety

variable {s : State} {mv : Nat}

/-! ### A reading of the input (R53) -/

theorem readInput_onlyDict : OnlyDict s (s.readInput mv) :=
  State.readInput_kept (onlyDict_keptA s).toD (onlyDict_refl s)

@[simp] theorem State.readInput_sup : (s.readInput mv).sup = s.sup := by rw [readInput_onlyDict]
@[simp] theorem State.readInput_key : (s.readInput mv).key = s.key := by rw [readInput_onlyDict]
@[simp] theorem State.readInput_half0 : (s.readInput mv).half0 = s.half0 := by rw [readInput_onlyDict]
@[simp] theorem State.readInput_half1 : (s.readInput mv).half1 = s.half1 := by rw [readInput_onlyDict]

theorem readInput_sameObject {i : Nat} (hi : i % 65536 ≠ 0x0041 ∧ i % 65536 ≠ 0x0100 ∧ i % 65536 ≠ 0x1011) :
    SameObject i s (s.readInput mv) :=
  State.readInput_kept (sameObject_keptD s (by simpa using hi)) (SameObject.refl i s)

/-- The voltage read, in mV. -/
theorem senseInput_voltage (hmv : mv < 2 ^ 32) : (s.senseInput mv).val 0x0100 0x01 = mv := by
  unfold State.senseInput
  extract_lets t u
  have ht : t.val 0x0100 0x01 = mv := State.val_put_self hmv
  have hput {x : State} {sub n : Nat} (hsub : sub % 256 ≠ 0x01) : (x.put 0x0100 sub n).val 0x0100 0x01 = x.val 0x0100 0x01 :=
    congrArg BitVec.toNat (State.reg_put_ne hsub)
  have hu : u.val 0x0100 0x01 = mv := kept_ite (P := fun x => x.val 0x0100 0x01 = mv) ((hput (by decide)).trans ht) ht
  exact kept_ite (P := fun x => x.val 0x0100 0x01 = mv) ((hput (by decide)).trans hu) hu

/-- A reading writes the voltage and its extremes, of the words of 0x0100. -/
theorem senseInput_reg_ne {sub : Nat} (hsub : sub % 256 ≠ 0x01 ∧ sub % 256 ≠ 0x04 ∧ sub % 256 ≠ 0x05) :
    (s.senseInput mv).reg 0x0100 sub = s.reg 0x0100 sub := by
  obtain ⟨h1, h4, h5⟩ := hsub
  unfold State.senseInput
  extract_lets t u
  have ht : t.reg 0x0100 sub = s.reg 0x0100 sub := State.reg_put_ne (Ne.symm h1)
  have hu : u.reg 0x0100 sub = s.reg 0x0100 sub :=
    kept_ite (P := fun x => x.reg 0x0100 sub = s.reg 0x0100 sub) ((State.reg_put_ne (Ne.symm h4)).trans ht) ht
  exact kept_ite (P := fun x => x.reg 0x0100 sub = s.reg 0x0100 sub) ((State.reg_put_ne (Ne.symm h5)).trans hu) hu

theorem regrant_sameObject {i : Nat} (hi : i % 65536 ≠ 0x0041 ∧ i % 65536 ≠ 0x1011) : SameObject i s s.regrant :=
  fun _ _ => regrant_regAt hi

theorem readInput_voltage (hlow : 36000 ≤ mv) (hmv : mv < 2 ^ 32) : (s.readInput mv).val 0x0100 0x01 = mv := by
  unfold State.readInput
  rw [if_pos hlow, (regrant_sameObject (by decide)).val, senseInput_voltage hmv]

theorem readInput_reg_ne {sub : Nat} (hsub : sub % 256 ≠ 0x01 ∧ sub % 256 ≠ 0x04 ∧ sub % 256 ≠ 0x05) :
    (s.readInput mv).reg 0x0100 sub = s.reg 0x0100 sub := by
  unfold State.readInput
  split
  · rw [(regrant_sameObject (by decide)).reg, senseInput_reg_ne hsub]
  · rfl

theorem readInput_supplyState : (s.readInput mv).val 0x0100 0x0D = s.val 0x0100 0x0D :=
  congrArg BitVec.toNat (readInput_reg_ne (by decide))

theorem readInput_halvesPowered : (s.readInput mv).halvesPowered = s.halvesPowered := by
  unfold State.halvesPowered State.railsOn State.half
  simp

theorem onInput_on {f : State → State} (hp : s.key.powered = true) (hmv : mv ≤ 80000) :
    onInput mv s f = .next (f (s.readInput mv)) := by
  unfold onInput rated
  rw [if_neg (by omega), onPower_on hp]

/-! ### The supply state (R40) -/

theorem setSupply_onlyDict {n : Nat} : OnlyDict s (s.setSupply n) :=
  State.setSupply_kept (onlyDict_keptA s).toD (onlyDict_refl s)

@[simp] theorem State.setSupply_sup {n : Nat} : (s.setSupply n).sup = s.sup := by rw [setSupply_onlyDict]
@[simp] theorem State.setSupply_key {n : Nat} : (s.setSupply n).key = s.key := by rw [setSupply_onlyDict]

theorem setSupply_state {n : Nat} (hn : n < 2 ^ 32) : (s.setSupply n).val 0x0100 0x0D = n := by
  unfold State.setSupply
  split
  · next h => exact h
  · exact State.val_put_self hn

/-- A change of the supply state writes the state and the counts of entries, of the words of 0x0100. -/
theorem setSupply_reg_ne {n sub : Nat} (hsub : sub % 256 ≠ 0x09 ∧ sub % 256 ≠ 0x0A ∧ sub % 256 ≠ 0x0D) :
    (s.setSupply n).reg 0x0100 sub = s.reg 0x0100 sub := by
  obtain ⟨h9, hA, hD⟩ := hsub
  unfold State.setSupply
  split
  · rfl
  · dsimp only
    rw [State.reg_put_ne (Ne.symm hD)]
    split_ifs
    · exact State.reg_bump_ne (Ne.symm hA)
    · exact State.reg_bump_ne (Ne.symm h9)
    · rfl

theorem setSupply_voltage {n : Nat} : (s.setSupply n).val 0x0100 0x01 = s.val 0x0100 0x01 :=
  congrArg BitVec.toNat (setSupply_reg_ne (by decide))

/-- An entry to supply state 1 counts while a half is powered. -/
theorem setSupply_low (hne : s.val 0x0100 0x0D ≠ 1) (hon : s.halvesPowered = true) :
    (s.setSupply 1).reg 0x0100 0x09 = s.reg 0x0100 0x09 + 1 := by
  unfold State.setSupply
  rw [if_neg hne]
  dsimp only
  rw [State.reg_put_ne (by decide), if_neg (by decide), if_pos ⟨by decide, hon⟩, State.reg_bump_self]

/-- An entry to supply state 2 counts. -/
theorem setSupply_high (hne : s.val 0x0100 0x0D ≠ 2) :
    (s.setSupply 2).reg 0x0100 0x0A = s.reg 0x0100 0x0A + 1 := by
  unfold State.setSupply
  rw [if_neg hne]
  dsimp only
  rw [State.reg_put_ne (by decide), if_pos rfl, State.reg_bump_self]

/-- The supply state that the alerts call for. -/
theorem supplyByAlert_state :
    s.supplyByAlert.val 0x0100 0x0D = if s.sup.alertHigh then 2 else if s.sup.alertLow then 1 else 0 :=
  setSupply_state (by split_ifs <;> decide)

theorem supplyByAlert_voltage : s.supplyByAlert.val 0x0100 0x01 = s.val 0x0100 0x01 := setSupply_voltage

@[simp] theorem State.supplyByAlert_sup : s.supplyByAlert.sup = s.sup := State.setSupply_sup

/-! ### The alerts -/

/-- The throttles and grants brought up to date leave the supply's words. -/
theorem throttled_supplyObject : SameObject 0x0100 s s.throttleBoth.regrant :=
  sameObject_of_keptD (W := [0x0041, 0x1011, 0x1012, 0x1013, 0x1015, 0x1016]) (by decide) fun kd =>
    State.regrant_kept (kd.mono (by decide)) (State.throttleBoth_kept (kd.mono (by decide)) (SameObject.refl _ _))

/-- The protection state is beside the dictionary. -/
theorem sameObject_sup {i : Nat} {x : Supply} : SameObject i s { s with sup := x } := fun _ _ => State.regAt_of_dict rfl

theorem undervoltageAlert_enters (hp : s.key.powered = true) (hmv : 41000 ≤ mv) (hlow : mv < 44000)
    (hon : s.halvesPowered = true) (halert : s.sup.alertLow = false) (h1 : s.val 0x0100 0x0D ≠ 1)
    (h3 : s.val 0x0100 0x0D ≠ 3) :
    Reaches (.supplyUndervoltageAlert mv) s (fun t => t.sup.alertLow = true ∧ t.val 0x0100 0x0D = 1 ∧
      t.reg 0x0100 0x09 = s.reg 0x0100 0x09 + 1 ∧ t.val 0x0100 0x01 = mv ∧ SameHbm s t ∧ SameCtxs s t) := by
  have hexec : execSupplyUndervoltageAlert mv s = .next ((State.setSupply { s.readInput mv with
      sup := { (s.readInput mv).sup with alertLow := (s.readInput mv).halvesPowered } } 1).throttleBoth.regrant) :=
    (onInput_on hp (by omega)).trans
      (congrArg _ (if_pos ⟨hmv, hlow, by rwa [readInput_supplyState], by rwa [State.readInput_sup]⟩))
  generalize hv : ({ s.readInput mv with
    sup := { (s.readInput mv).sup with alertLow := (s.readInput mv).halvesPowered } } : State) = v at hexec
  have hstate : v.val 0x0100 0x0D = s.val 0x0100 0x0D := by rw [← hv, sameObject_sup.val, readInput_supplyState]
  have hpowered : v.halvesPowered = true := by rw [← hv]; exact readInput_halvesPowered.trans hon
  refine ⟨_, hexec, ?_, ?_, ?_, ?_, ?_, ?_⟩
  · rw [State.regrant_sup, State.throttleBoth_sup, State.setSupply_sup, ← hv]
    exact hpowered ▸ hv ▸ rfl
  · rw [throttled_supplyObject.val, setSupply_state (by decide)]
  · rw [throttled_supplyObject.reg, setSupply_low (by rwa [hstate]) hpowered, ← hv, sameObject_sup.reg,
      readInput_reg_ne (by decide)]
  · rw [throttled_supplyObject.val, setSupply_voltage, ← hv, sameObject_sup.val, readInput_voltage (by omega) (by omega)]
  · exact execSupplyUndervoltageAlert_kept (sameHbm_kept s) (sameHbm_keptU s) (sameHbm_keptA s).toD ⟨rfl, rfl⟩ _ hexec
  · exact execSupplyUndervoltageAlert_kept (sameCtxs_kept s) (sameCtxs_keptU s) (sameCtxs_keptA s).toD rfl _ hexec

/-- The supply state after the throttles and grants: what the alerts call for. -/
theorem supplyByAlert_throttled_state (v : State) :
    v.supplyByAlert.throttleBoth.regrant.val 0x0100 0x0D =
      if v.sup.alertHigh then 2 else if v.sup.alertLow then 1 else 0 := by
  rw [throttled_supplyObject.val, supplyByAlert_state]

theorem undervoltageClear_ends (hp : s.key.powered = true) (hmv : 44500 ≤ mv) (hmax : mv ≤ 80000)
    (h1 : s.val 0x0100 0x0D = 1) :
    Reaches (.supplyUndervoltageClear mv) s (fun t => t.sup.alertLow = false ∧
      t.val 0x0100 0x0D = (if s.sup.alertHigh then 2 else 0) ∧ t.val 0x0100 0x01 = mv ∧ SameHbm s t ∧ SameCtxs s t) := by
  have hstate : (s.readInput mv).val 0x0100 0x0D = 1 := readInput_supplyState.trans h1
  generalize hv : ({ s.readInput mv with sup := { (s.readInput mv).sup with alertLow := false } } : State) = v
  have hvstate : v.val 0x0100 0x0D = 1 := by rw [← hv, sameObject_sup.val, hstate]
  have hexec : execSupplyUndervoltageClear mv s = .next (v.supplyByAlert.throttleBoth.regrant) := by
    refine (onInput_on hp hmax).trans (congrArg _ ((if_pos ⟨hmv, .inr hstate⟩).trans ?_))
    rw [hv]
    exact congrArg (fun x : State => x.throttleBoth.regrant) (if_pos hvstate)
  refine ⟨_, hexec, ?_, ?_, ?_, ?_, ?_⟩
  · rw [State.regrant_sup, State.throttleBoth_sup, State.supplyByAlert_sup, ← hv]
  · rw [supplyByAlert_throttled_state, ← hv, State.readInput_sup]
    rfl
  · rw [throttled_supplyObject.val, supplyByAlert_voltage, ← hv, sameObject_sup.val,
      readInput_voltage (by omega) (by omega)]
  · exact execSupplyUndervoltageClear_kept (sameHbm_kept s) (sameHbm_keptU s) (sameHbm_keptA s).toD ⟨rfl, rfl⟩ _ hexec
  · exact execSupplyUndervoltageClear_kept (sameCtxs_kept s) (sameCtxs_keptU s) (sameCtxs_keptA s).toD rfl _ hexec

theorem overvoltageAlert_enters (hp : s.key.powered = true) (hmv : 62000 < mv) (hmax : mv ≤ 80000)
    (halert : s.sup.alertHigh = false) (h2 : s.val 0x0100 0x0D ≠ 2) (h3 : s.val 0x0100 0x0D ≠ 3) :
    Reaches (.supplyOvervoltageAlert mv) s (fun t => t.sup.alertHigh = true ∧ t.val 0x0100 0x0D = 2 ∧
      t.reg 0x0100 0x0A = s.reg 0x0100 0x0A + 1 ∧ t.val 0x0100 0x01 = mv ∧ SameHbm s t ∧ SameCtxs s t) := by
  have hstate : (s.readInput mv).val 0x0100 0x0D = s.val 0x0100 0x0D := readInput_supplyState
  generalize hv : ({ s.readInput mv with sup := { (s.readInput mv).sup with alertHigh := true } } : State) = v
  have hvstate : v.val 0x0100 0x0D = s.val 0x0100 0x0D := by rw [← hv, sameObject_sup.val, hstate]
  have hexec : execSupplyOvervoltageAlert mv s = .next ((v.setSupply 2).throttleBoth.regrant) := by
    refine (onInput_on hp hmax).trans (congrArg _ ((if_pos ⟨hmv, by rwa [State.readInput_sup]⟩).trans ?_))
    rw [hv]
    exact congrArg (fun x : State => x.throttleBoth.regrant) (if_neg (by rwa [hvstate]))
  refine ⟨_, hexec, ?_, ?_, ?_, ?_, ?_, ?_⟩
  · rw [State.regrant_sup, State.throttleBoth_sup, State.setSupply_sup, ← hv]
  · rw [throttled_supplyObject.val, setSupply_state (by decide)]
  · rw [throttled_supplyObject.reg, setSupply_high (by rwa [hvstate]), ← hv, sameObject_sup.reg,
      readInput_reg_ne (by decide)]
  · rw [throttled_supplyObject.val, setSupply_voltage, ← hv, sameObject_sup.val,
      readInput_voltage (by omega) (by omega)]
  · exact execSupplyOvervoltageAlert_kept (sameHbm_kept s) (sameHbm_keptU s) (sameHbm_keptA s).toD ⟨rfl, rfl⟩ _ hexec
  · exact execSupplyOvervoltageAlert_kept (sameCtxs_kept s) (sameCtxs_keptU s) (sameCtxs_keptA s).toD rfl _ hexec

theorem overvoltageClear_ends (hp : s.key.powered = true) (hlow : 36000 ≤ mv) (hmv : mv ≤ 61500)
    (halert : s.sup.alertHigh = true) (h2 : s.val 0x0100 0x0D = 2) :
    Reaches (.supplyOvervoltageClear mv) s (fun t => t.sup.alertHigh = false ∧
      t.val 0x0100 0x0D = (if s.sup.alertLow then 1 else 0) ∧ t.val 0x0100 0x01 = mv ∧ SameHbm s t ∧ SameCtxs s t) := by
  have hstate : (s.readInput mv).val 0x0100 0x0D = 2 := readInput_supplyState.trans h2
  generalize hv : ({ s.readInput mv with sup := { (s.readInput mv).sup with alertHigh := false } } : State) = v
  have hvstate : v.val 0x0100 0x0D = 2 := by rw [← hv, sameObject_sup.val, hstate]
  have hexec : execSupplyOvervoltageClear mv s = .next (v.supplyByAlert.throttleBoth.regrant) := by
    refine (onInput_on hp (by omega)).trans (congrArg _ ((if_pos ⟨hmv, by rwa [State.readInput_sup]⟩).trans ?_))
    rw [hv]
    exact congrArg (fun x : State => x.throttleBoth.regrant) (if_pos hvstate)
  refine ⟨_, hexec, ?_, ?_, ?_, ?_, ?_⟩
  · rw [State.regrant_sup, State.throttleBoth_sup, State.supplyByAlert_sup, ← hv]
  · rw [supplyByAlert_throttled_state, ← hv, State.readInput_sup]
    rfl
  · rw [throttled_supplyObject.val, supplyByAlert_voltage, ← hv, sameObject_sup.val,
      readInput_voltage hlow (by omega)]
  · exact execSupplyOvervoltageClear_kept (sameHbm_kept s) (sameHbm_keptU s) (sameHbm_keptA s).toD ⟨rfl, rfl⟩ _ hexec
  · exact execSupplyOvervoltageClear_kept (sameCtxs_kept s) (sameCtxs_keptU s) (sameCtxs_keptA s).toD rfl _ hexec

/-! ### Brownout -/

/-- The supply state and the keystone of a brownout, before it takes the halves off. -/
def State.browned (s : State) : State :=
  { s.setSupply 3 with
    sup := { (s.setSupply 3).sup with alertLow := false },
    key := { (s.setSupply 3).key with waiting := none, atS4 := false } }

theorem browned_sameDict : s.browned.dict = (s.setSupply 3).dict := rfl

theorem exec_brownout (hp : s.key.powered = true) (hlow : 36000 ≤ mv) (hmv : mv < 41000) (h3 : s.val 0x0100 0x0D ≠ 3) :
    execSupplyBrownout mv s = .next ((s.readInput mv).browned.toKeystoneOnly.overtake 3).throttleBoth :=
  (onInput_on hp (by omega)).trans (congrArg _ (if_pos ⟨hlow, hmv, by rwa [readInput_supplyState]⟩))

theorem brownout_enters (hp : s.key.powered = true) (hlow : 36000 ≤ mv) (hmv : mv < 41000) (h3 : s.val 0x0100 0x0D ≠ 3) :
    Reaches (.supplyBrownout mv) s (fun t => t.val 0x0100 0x0D = 3 ∧ t.val 0x1010 0x01 = 3 ∧ t.holder = 0xFF ∧
      t.epoch = s.epoch ∧ t.val 0x0100 0x01 = mv ∧ t.key.trans = none ∧ t.railsOn .h0 = false ∧ t.railsOn .h1 = false ∧
      t.hbm0 = [] ∧ t.hbm1 = [] ∧ t.ctxs = []) := by
  have hbrown {v : State} {i : Nat} : SameObject i (v.setSupply 3) v.browned :=
    fun _ _ => State.regAt_of_dict browned_sameDict
  have hlead : SameObject 0x0040 s (s.readInput mv).browned :=
    ((readInput_sameObject (by decide)).trans
      (State.setSupply_kept (sameObject_keptD _ (by decide)) (SameObject.refl _ _))).trans hbrown
  obtain ⟨hstate, hholder, hepoch, htrans, hoff0, hoff1, hhbm0, hhbm1, hctxs, hinput⟩ :=
    keystoneOnly_overtakes (s := (s.readInput mv).browned) (n := 3) rfl
  refine ⟨_, exec_brownout hp hlow hmv h3, ?_, hstate, hholder, hepoch.trans hlead.epoch, ?_, htrans, hoff0, hoff1, hhbm0,
    hhbm1, hctxs⟩
  · rw [hinput.val, hbrown.val, setSupply_state (by decide)]
  · rw [hinput.val, hbrown.val, setSupply_voltage, readInput_voltage hlow (by omega)]

end Sys2Proof.Machine
end

section
/-! PROOF. O5, the recovery of the supply: the start of both halves and what it keeps of the keystone (R40, R494). -/

namespace Sys2Proof.Machine

open Sys2Proof Sys2Proof.Safety

variable {s : State} {h : HalfId} {i : Nat}

/-! ### The start of one half -/

/-- A half's start keeps what its own updates and every failure of it keep. -/
theorem beginHalf_keeps {P : State → Prop} (kk : Kept P) (kc : KeptC P) (kt : KeptT P) (kh : KeptH P) (kb : KeptB P)
    (kd : KeptD P [0x0041, 0x0080, 0x1000, 0x1001, 0x1011, 0x1012, 0x1013, 0x1015, 0x1016, 0x2010, 0x4001, 0x4003, 0x4010,
      0x4012, 0x4021, 0x5020, 0x9001, 0xF002, 0xF003])
    (hfail : ∀ {t : State} {phase reason status : Nat}, P t → P (t.failStart h phase reason status))
    {byReset : Bool} {found : List (BitVec 64)} (hs : P s) : P (s.beginHalf h byReset found) := by
  unfold State.beginHalf
  extract_lets old phased sourced locked verified drawn tested
  have hsourced : P sourced := State.startSources_kept (kd.mono (by decide))
    (State.setFence_kept (kd.mono (by decide)) (State.modHalf_kept kh hs))
  have hlocked : P locked := State.repin_kept kk (State.repin_kept kk
    (State.throttle_kept (kd.mono (by decide)) (State.halfLocks_kept (kd.mono (by decide)) hsourced)) hs) hs
  have hverified : P verified.1 := Kept.foldl1 (fun a b ha => by
    split
    · exact State.verifyComponent_kept (kd.mono (by decide)) ha
    · exact ha) hlocked
  have htested : P tested.1 := State.selfTest_kept kk kc kt kh kb (kd.mono (by decide))
    (State.freeSkip_kept kk (State.modHalf_kept kh hverified))
  exact kept_ite (hfail hverified) (kept_ite
    (State.regrant_kept (kd.mono (by decide)) (State.raiseCounts_kept kk kt (kd.mono (by decide)) htested)) (hfail htested))

/-! ### What a start keeps of the keystone -/

/-- The keystone's start goes on as in `s`. -/
def SameStart (s t : State) : Prop := t.key.starting = s.key.starting ∧ t.key.waiting = s.key.waiting

theorem sameStart_kept (s : State) : Kept (SameStart s) where rest h := h
theorem sameStart_keptC (s : State) : KeptC (SameStart s) where ctxs h := h
theorem sameStart_keptT (s : State) : KeptT (SameStart s) where tiles h := h
theorem sameStart_keptH (s : State) : KeptH (SameStart s) where halves h := h
theorem sameStart_keptB (s : State) : KeptB (SameStart s) where fabric h := h
theorem sameStart_keptV (s : State) : KeptV (SameStart s) where svc h := h
theorem sameStart_keptA (s : State) : KeptA (SameStart s) where
  mem _ _ _ _ _ h := by
    unfold SameStart at *
    simpa using h

theorem failSettled_sameStart {t : State} {status : Nat} (hs : SameStart s t) : SameStart s (t.failSettled h status) := by
  have ka {W : List Nat} : KeptD (SameStart s) W := (sameStart_keptA s).toD
  unfold State.failSettled
  extract_lets abandoned ended key late dropped
  have hended : SameStart s ended := State.endPending_kept (sameStart_kept s) (sameStart_keptV s)
    (Kept.foldl (fun _ _ => State.abandonPending_kept ka) hs)
  have hlate : SameStart s late := kept_ite (P := SameStart s) hended hended
  have hdropped : SameStart s dropped := kept_ite (State.abandonPending_kept ka hlate) hlate
  exact kept_ite (State.put_kept (ka.mem (i := 0x1010) (List.mem_singleton_self _)) hdropped) hdropped

theorem leadFallback_sameStart {t : State} (hs : SameStart s t) : SameStart s t.leadFallback :=
  kept_ite (P := SameStart s) hs hs

theorem failStart_sameStart {t : State} {phase reason status : Nat} (hs : SameStart s t) :
    SameStart s (t.failStart h phase reason status) := by
  have ka {W : List Nat} : KeptD (SameStart s) W := (sameStart_keptA s).toD
  rw [failStart_eq]
  refine leadFallback_sameStart (State.regrant_kept ka (failSettled_sameStart (State.setFence_kept ka
    (State.railsOff_kept (sameStart_kept s) (sameStart_keptH s) ka ?_))))
  exact State.bump_kept (ka.mem (i := 0xF000) (List.mem_singleton_self _)) (State.startRecord_kept ka hs)

/-- The attempts counted are those of `s`. -/
def SameAttempts (s t : State) : Prop := t.reg 0xF000 0x01 = s.reg 0xF000 0x01

theorem sameAttempts_kept (s : State) : Kept (SameAttempts s) where rest h := h
theorem sameAttempts_keptC (s : State) : KeptC (SameAttempts s) where ctxs h := h
theorem sameAttempts_keptT (s : State) : KeptT (SameAttempts s) where tiles h := h
theorem sameAttempts_keptH (s : State) : KeptH (SameAttempts s) where halves h := h
theorem sameAttempts_keptB (s : State) : KeptB (SameAttempts s) where fabric h := h
theorem sameAttempts_keptV (s : State) : KeptV (SameAttempts s) where svc h := h
theorem sameAttempts_keptK (s : State) : KeptK (SameAttempts s) where key h := h

theorem SameAttempts.trans {t v : State} (hs : SameAttempts s t) (ht : SameAttempts t v) : SameAttempts s v :=
  Eq.trans ht hs

theorem SameAttempts.of_object {t v : State} (hs : SameAttempts s t) (h : SameObject 0xF000 t v) : SameAttempts s v :=
  hs.trans (h.reg 0x01)

theorem sameAttempts_keptD {W : List Nat} (hW : ∀ j ∈ W, 0xF000 ≠ j % 65536) : KeptD (SameAttempts s) W where
  mem {i} hi _ u sub v hs := hs.of_object fun u' sub' =>
    State.regAt_putAt_ne (by rw [Ne, dkey_inj]; exact fun e => hW i hi e.2.1.symm)

theorem failStart_sameAttempts {t : State} {phase reason status : Nat} (hs : SameAttempts s t) :
    SameAttempts s (t.failStart h phase reason status) := by
  have hrecord : SameAttempts t ((t.startRecord phase reason status (1 + halfNum h)).bump 0xF000 (0x09 + halfNum h)) := by
    unfold SameAttempts State.startRecord State.reg State.put64
    cases h <;> simp [State.regAt_bump, State.regAt_put64At, State.regAt_put, halfNum]
  have hfail : SameAttempts t (t.failStart h phase reason status) := by
    have kd : KeptD (SameAttempts t) [0x0041, 0x1001, 0x1002, 0x1010, 0x1011, 0x1012, 0x1013, 0x1015, 0x1016, 0x9001] :=
      sameAttempts_keptD (by decide)
    rw [failStart_eq]
    exact State.leadFallback_kept (sameAttempts_kept t) (sameAttempts_keptK t) (State.regrant_kept (kd.mono (by decide))
      (failSettled_kept (sameAttempts_kept t) (sameAttempts_keptK t) (sameAttempts_keptV t) (kd.mono (by decide))
        (State.setFence_kept (kd.mono (by decide)) (State.railsOff_kept (sameAttempts_kept t) (sameAttempts_keptH t)
          (kd.mono (by decide)) hrecord))))
  exact hs.trans hfail

theorem beginHalf_sameStart {byReset : Bool} {found : List (BitVec 64)} : SameStart s (s.beginHalf h byReset found) :=
  beginHalf_keeps (sameStart_kept s) (sameStart_keptC s) (sameStart_keptT s) (sameStart_keptH s) (sameStart_keptB s)
    (sameStart_keptA s).toD failStart_sameStart ⟨rfl, rfl⟩

theorem beginHalf_sameAttempts {byReset : Bool} {found : List (BitVec 64)} :
    SameAttempts s (s.beginHalf h byReset found) :=
  beginHalf_keeps (sameAttempts_kept s) (sameAttempts_keptC s) (sameAttempts_keptT s) (sameAttempts_keptH s)
    (sameAttempts_keptB s) (sameAttempts_keptD (by decide)) failStart_sameAttempts rfl

theorem beginHalf_supplyObject {byReset : Bool} {found : List (BitVec 64)} :
    SameObject 0x0100 s (s.beginHalf h byReset found) :=
  State.beginHalf_kept (sameObject_kept _ s) (sameObject_keptC _ s) (sameObject_keptT _ s) (sameObject_keptK _ s)
    (sameObject_keptH _ s) (sameObject_keptV _ s) (sameObject_keptB _ s) (sameObject_keptD s (by decide))
    (SameObject.refl _ s)

/-! ### The start of both halves -/

/-- The keystone as both halves begin to start. -/
def State.startingBoth (s : State) : State :=
  { s.supplyByAlert with
    key := { s.supplyByAlert.key with starting := true, completed := [], waiting := none, atS4 := false } }

/-- The halves that may be powered start, half 0 first. -/
theorem beginHalves_keeps {P : State → Prop}
    (hhalf : ∀ {t : State} {h : HalfId} {found : List (BitVec 64)}, P t → P (t.beginHalf h false found)) {found : Findings}
    (hs : P s.startingBoth) : P (s.beginHalves found) :=
  have h0 : P (if s.startingBoth.startable .h0 then s.startingBoth.beginHalf .h0 false found.half0 else s.startingBoth) :=
    kept_ite (hhalf hs) hs
  kept_ite (P := P) (hhalf h0) h0

theorem startingBoth_sameObject (hi : i % 65536 ≠ 0x0100) : SameObject i s s.startingBoth :=
  (State.supplyByAlert_kept (sameObject_keptD s (by simpa using hi)) (SameObject.refl i s)).trans
    fun _ _ => State.regAt_of_dict rfl

/-- The halves that start leave the alerts' supply state, the voltage read and the attempts counted. -/
theorem beginHalves_goesOn {found : Findings} :
    (s.beginHalves found).key.waiting = none ∧ (s.beginHalves found).key.starting = true ∧
      (s.beginHalves found).val 0x0100 0x0D = (if s.sup.alertHigh then 2 else if s.sup.alertLow then 1 else 0) ∧
      (s.beginHalves found).val 0x0100 0x01 = s.val 0x0100 0x01 ∧
      (s.beginHalves found).reg 0xF000 0x01 = s.reg 0xF000 0x01 := by
  have hsupply : SameObject 0x0100 s.startingBoth (s.beginHalves found) :=
    beginHalves_keeps (fun ht => ht.trans beginHalf_supplyObject) (SameObject.refl _ _)
  have hboth : SameObject 0x0100 s.supplyByAlert s.startingBoth := fun _ _ => State.regAt_of_dict rfl
  have hstart : SameStart s.startingBoth (s.beginHalves found) :=
    beginHalves_keeps (fun ht => ⟨beginHalf_sameStart.1.trans ht.1, beginHalf_sameStart.2.trans ht.2⟩) ⟨rfl, rfl⟩
  have hattempts : SameAttempts s.startingBoth (s.beginHalves found) :=
    beginHalves_keeps (fun ht => ht.trans beginHalf_sameAttempts) rfl
  refine ⟨hstart.2, hstart.1, ?_, ?_, ?_⟩
  · rw [hsupply.val, hboth.val, supplyByAlert_state]
  · rw [hsupply.val, hboth.val, supplyByAlert_voltage]
  · exact Eq.trans hattempts ((startingBoth_sameObject (by decide)).reg 0x01)

/-! ### The attempt -/

/-- Of the start's words an attempt writes its count. -/
theorem countAttempt_startObject : SameObject 0xF000 (s.bump 0xF000 0x01) s.countAttempt := fun u sub =>
  have hdict : s.countAttempt.dict = (s.bump 0xF000 0x01).drawServiceNonce.dict := rfl
  (State.regAt_of_dict hdict).trans <| State.drawServiceNonce_kept (sameObject_kept _ (s.bump 0xF000 0x01))
    (sameObject_keptD (s.bump 0xF000 0x01) (by decide)) (SameObject.refl _ _) u sub

theorem countAttempt_attempts : s.countAttempt.reg 0xF000 0x01 = s.reg 0xF000 0x01 + 1 := by
  rw [countAttempt_startObject.reg, State.reg_bump_self]

theorem countAttempt_footing : s.countAttempt.reg 0xF000 0x02 = s.reg 0xF000 0x02 := by
  rw [countAttempt_startObject.reg, State.reg_bump_ne (by decide)]

theorem countAttempt_sameObject (hi : i % 65536 ≠ 0x9070 ∧ i % 65536 ≠ 0xF000) : SameObject i s s.countAttempt :=
  State.countAttempt_kept (sameObject_kept i s) (sameObject_keptK i s) (sameObject_keptD s (by simpa using hi))
    (SameObject.refl i s)

theorem countAttempt_sup : s.countAttempt.sup = s.sup :=
  State.countAttempt_kept (sameSup_kept s) (sameSup_keptK s) (sameSup_keptA s).toD rfl

/-! ### The recovery -/

/-- The state that a recovery starts the halves from: a start that waited at S5 goes on, any other is counted. -/
def State.recovering (s : State) : State := if s.key.waiting.isSome then s else s.countAttempt.put 0x1010 0x01 4

theorem recovering_supplyObject : SameObject 0x0100 s s.recovering :=
  kept_ite (P := SameObject 0x0100 s) (SameObject.refl _ _)
    (State.put_kept ((sameObject_keptD (W := [0x1010]) s (by decide)).mem (by decide)) (countAttempt_sameObject (by decide)))

theorem recovering_sup : s.recovering.sup = s.sup :=
  kept_ite (P := fun t => t.sup = s.sup) rfl (State.put_sup.trans countAttempt_sup)

theorem recovering_attempts (hw : s.key.waiting = none) : s.recovering.reg 0xF000 0x01 = s.reg 0xF000 0x01 + 1 := by
  have hput : SameObject 0xF000 s.countAttempt (s.countAttempt.put 0x1010 0x01 4) :=
    State.put_kept ((sameObject_keptD (W := [0x1010]) _ (by decide)).mem (by decide)) (SameObject.refl _ _)
  unfold State.recovering
  rw [hw, if_neg (by decide), hput.reg, countAttempt_attempts]

theorem exec_supplyRecover {mv : Nat} {found : Findings} (hp : s.key.powered = true) (hmv : 44000 ≤ mv)
    (hmax : mv ≤ 80000) (h3 : s.val 0x0100 0x0D = 3) (hfoot : s.flag 0xF000 0x02 0 = false) (hS4 : s.key.atS4 = false) :
    execSupplyRecover mv found s = .next ((s.readInput mv).recovering.beginHalves found) := by
  have hfoot' : (s.readInput mv).flag 0xF000 0x02 0 = false := ((readInput_sameObject (by decide)).flag 0x02 0).trans hfoot
  refine (onInput_on hp hmax).trans (congrArg _ ((if_pos ⟨hmv, readInput_supplyState.trans h3⟩).trans ?_))
  rw [hfoot', if_neg (by decide), State.readInput_key, hS4, if_neg (by decide)]
  unfold State.recovering
  rw [State.readInput_key]
  exact (apply_ite (fun x : State => x.beginHalves found) _ _ _).symm

theorem supplyRecover_starts {mv : Nat} {found : Findings} (hp : s.key.powered = true) (hmv : 44000 ≤ mv)
    (hmax : mv ≤ 80000) (h3 : s.val 0x0100 0x0D = 3) (hfoot : s.flag 0xF000 0x02 0 = false) (hS4 : s.key.atS4 = false) :
    Reaches (.supplyRecover mv found) s (fun t => t.key.waiting = none ∧ t.key.starting = true ∧
      t.val 0x0100 0x0D = (if s.sup.alertHigh then 2 else if s.sup.alertLow then 1 else 0) ∧ t.val 0x0100 0x01 = mv ∧
      (s.key.waiting = none → t.reg 0xF000 0x01 = s.reg 0xF000 0x01 + 1)) := by
  obtain ⟨hwaiting, hstarting, hstate, hvoltage, hattempts⟩ :=
    beginHalves_goesOn (s := (s.readInput mv).recovering) (found := found)
  refine ⟨_, exec_supplyRecover hp hmv hmax h3 hfoot hS4, hwaiting, hstarting, ?_, ?_, fun hw => ?_⟩
  · rw [hstate, recovering_sup, State.readInput_sup]
  · rw [hvoltage, recovering_supplyObject.val, readInput_voltage (by omega) (by omega)]
  · rw [hattempts, recovering_attempts (by rwa [State.readInput_key]), (readInput_sameObject (by decide)).reg]

/-- Settles O5: each event reads the input first, then writes the supply state that its threshold asks for. -/
theorem supplyAlerts : Obligations.SupplyAlerts := fun _ _ hp hlow hmax =>
  ⟨undervoltageAlert_enters hp,
    fun hmv _ h1 => undervoltageClear_ends hp hmv hmax h1,
    fun hmv => overvoltageAlert_enters hp hmv hmax,
    overvoltageClear_ends hp hlow,
    brownout_enters hp hlow,
    fun _ hmv => supplyRecover_starts hp hmv hmax⟩

end Sys2Proof.Machine
end

section
/-! PROOF. O1: what a start from power leaves of a state up to the crystal, and that it begins from what persists
(R41, R115, R493, R494). -/

namespace Sys2Proof.Machine

open Sys2Proof Sys2Proof.Safety

variable {s t : State} {i mv : Nat} {found : Findings}

/-! ### What a start leaves before the crystal is ready -/

/-- Objects that a start from power may write throughout before the crystal is ready. -/
def startObjects : List Nat :=
  [0x0041, 0x0101, 0x1001, 0x1002, 0x1011, 0x1012, 0x1013, 0x1015, 0x1016, 0x7040, 0x9000, 0x9001, 0xF030]

/-- The words that it may write: those objects, the supply's but the voltage, the start's but the attempts counted and the
footing mode. -/
def startWrites (i sub : Nat) : Bool :=
  if i = 0x0100 then sub != 0x01 else if i = 0xF000 then sub != 0x01 && sub != 0x02 else startObjects.contains i

/-- Contexts, memories, the keystone's power and every word but those that a start may write are those of `s`. -/
def StartLeaves (s t : State) : Prop :=
  SameCtxs s t ∧ SameHbm s t ∧ t.key.powered = s.key.powered ∧
    ∀ u i sub, startWrites (i % 65536) (sub % 256) = false → t.regAt u i sub = s.regAt u i sub

theorem StartLeaves.refl (s : State) : StartLeaves s s := ⟨rfl, ⟨rfl, rfl⟩, rfl, fun _ _ _ _ => rfl⟩

theorem StartLeaves.trans {v : State} (h : StartLeaves s t) (h' : StartLeaves t v) : StartLeaves s v := by
  obtain ⟨hctxs, hhbm, hpowered, hwords⟩ := h
  obtain ⟨kctxs, khbm, kpowered, kwords⟩ := h'
  exact ⟨kctxs.trans hctxs, ⟨khbm.1.trans hhbm.1, khbm.2.trans hhbm.2⟩, kpowered.trans hpowered,
    fun u i sub hw => (kwords u i sub hw).trans (hwords u i sub hw)⟩

theorem StartLeaves.attempts (h : StartLeaves s t) : t.reg 0xF000 0x01 = s.reg 0xF000 0x01 := h.2.2.2 0 _ _ rfl
theorem StartLeaves.footing (h : StartLeaves s t) : t.reg 0xF000 0x02 = s.reg 0xF000 0x02 := h.2.2.2 0 _ _ rfl

/-- An object that no start writes. -/
theorem StartLeaves.object (h : StartLeaves s t) (hi : ∀ sub, startWrites (i % 65536) sub = false) : SameObject i s t :=
  fun _ _ => h.2.2.2 _ _ _ (hi _)

theorem startLeaves_kept (s : State) : Kept (StartLeaves s) where rest h := h
theorem startLeaves_keptS (s : State) : KeptS (StartLeaves s) where sec h := h
theorem startLeaves_keptH (s : State) : KeptH (StartLeaves s) where halves h := h

theorem startLeaves_putAt {u sub : Nat} {v : Word} (hw : startWrites (i % 65536) (sub % 256) = true)
    (h : StartLeaves s t) : StartLeaves s (t.putAt u i sub v) := by
  obtain ⟨hctxs, hhbm, hpowered, hwords⟩ := h
  refine ⟨State.putAt_ctxs.trans hctxs, ⟨State.putAt_hbm0.trans hhbm.1, State.putAt_hbm1.trans hhbm.2⟩,
    by rwa [State.putAt_key], fun u' i' sub' hw' => ?_⟩
  rw [State.regAt_putAt_ne, hwords u' i' sub' hw']
  rw [Ne, dkey_inj]
  rintro ⟨-, ei, es⟩
  rw [ei, es, hw'] at hw
  cases hw

theorem startLeaves_keptD {W : List Nat} (hW : ∀ j ∈ W, j % 65536 ∈ startObjects) : KeptD (StartLeaves s) W where
  mem {i} hi _ u sub v h := startLeaves_putAt (by
    have hin : startObjects.contains (i % 65536) = true := List.contains_iff_mem.2 (hW i hi)
    have h100 : i % 65536 ≠ 0x0100 := fun e => absurd (e ▸ hin) (by decide)
    have hF : i % 65536 ≠ 0xF000 := fun e => absurd (e ▸ hin) (by decide)
    unfold startWrites
    rw [if_neg h100, if_neg hF, hin]) h

/-! ### The pieces of a start -/

theorem startLeaves_setSupply {n : Nat} (h : StartLeaves s t) : StartLeaves s (t.setSupply n) := by
  unfold State.setSupply
  refine kept_ite h (startLeaves_putAt rfl (kept_ite (startLeaves_putAt rfl h) (kept_ite (startLeaves_putAt rfl h) h)))

theorem startLeaves_startRecord {phase reason status place : Nat} (h : StartLeaves s t) :
    StartLeaves s (t.startRecord phase reason status place) :=
  startLeaves_putAt rfl (startLeaves_putAt rfl (startLeaves_putAt rfl (startLeaves_putAt rfl h)))

theorem startLeaves_railsOff {h : HalfId} {p : HalfPhase} (hs : StartLeaves s t) : StartLeaves s (t.railsOff h p) :=
  State.railsOff_kept (startLeaves_kept s) (startLeaves_keptH s) (startLeaves_keptD (by decide)) hs

theorem startLeaves_copyKeystoneBlocks (h : StartLeaves s t) : StartLeaves s t.copyKeystoneBlocks :=
  State.copyKeystoneBlocks_kept (startLeaves_kept s) (startLeaves_keptS s) (startLeaves_keptD (by decide)) h

theorem startLeaves_setFence {h : HalfId} {n : Nat} (hs : StartLeaves s t) : StartLeaves s (t.setFence h n) :=
  State.setFence_kept (startLeaves_keptD (by decide)) hs

theorem startLeaves_repin {old : State} {p : Pin} (h : StartLeaves s t) : StartLeaves s (t.repin old p) := by
  rcases State.repin_cases t old p with e | ⟨o, e⟩ <;> rw [e]
  · exact h
  · exact (startLeaves_kept s).rest h

/-! ### The phases -/

theorem enterFooting_leaves : StartLeaves (s.put 0xF000 0x02 1) s.enterFooting := by
  unfold State.enterFooting
  extract_lets footed supplied off fenced
  have hsupplied : StartLeaves footed supplied :=
    kept_ite (startLeaves_setSupply (StartLeaves.refl _)) (StartLeaves.refl _)
  exact startLeaves_copyKeystoneBlocks (startLeaves_setFence (startLeaves_setFence
    (startLeaves_railsOff (startLeaves_railsOff hsupplied))))

/-- Without the crystal a start waits in S4, or fails in S3 (R83, R494). -/
theorem fromS3_leaves (hc : s.flag 0x1000 0x01 0 = false) : StartLeaves s (s.fromS3 mv found) := by
  unfold State.fromS3
  extract_lets verified failed
  have hverified : StartLeaves s verified.1 :=
    State.verifyComponent_kept (startLeaves_keptD (by decide)) (StartLeaves.refl s)
  have hfailed : StartLeaves s failed := startLeaves_railsOff (startLeaves_railsOff
    (State.abandonPending_kept (startLeaves_keptD (by decide)) (startLeaves_startRecord hverified)))
  refine kept_ite (kept_ite (startLeaves_setSupply hfailed) hfailed) ?_
  have hcrystal : verified.1.flag 0x1000 0x01 0 = false :=
    ((hverified.object (i := 0x1000) fun _ => rfl).flag 0x01 0).trans hc
  unfold State.awaitCrystal
  rw [hcrystal, if_neg (by decide)]
  exact hverified

/-- The reverse-event cell read at S2 (R42). -/
def State.reversed (s : State) : State :=
  if s.sup.reverseCell then { s.bump 0x0100 0x0B with sup := { s.sup with reverseCell := false } } else s

theorem reversed_leaves : StartLeaves s s.reversed :=
  kept_ite (P := StartLeaves s) (startLeaves_putAt (i := 0x0100) (sub := 0x0B) rfl (StartLeaves.refl s)) (StartLeaves.refl s)

theorem fromS2_eq : s.fromS2 mv found = if 3 ≤ s.reversed.val 0xF000 0x01 then s.reversed.enterFooting
    else s.reversed.countAttempt.copyKeystoneBlocks.fromS3 mv found := rfl

/-! ### What persists (R115) -/

/-- Objects that a start from power may write until the halves start. -/
def powerOnObjects : List Nat :=
  [0x0041, 0x0100, 0x0101, 0x1000, 0x1001, 0x1002, 0x1011, 0x1012, 0x1013, 0x1015, 0x1016, 0x2010, 0x4001, 0x4003, 0x7040,
    0x9000, 0x9001, 0x9070, 0xF000, 0xF002, 0xF003, 0xF030]

theorem losePower_regAt {u sub : Nat} :
    s.losePower.regAt u i sub =
      if persistOf (dkey u i sub) = .p2 then s.regAt u i sub else dictDefault (dkey u i sub) := by
  have hdrop : s.losePower.regAt u i sub = (s.dropKeys (fun k => persistOf k != .p2)).regAt u i sub :=
    State.regAt_of_dict rfl
  rw [hdrop, State.regAt_dropKeys]
  by_cases h : persistOf (dkey u i sub) = .p2 <;> simp [h]

/-- A powered part that read `mv` and holds what persists of `s`, but in the objects that a start writes. -/
def FreshFrom (s : State) (mv : Nat) (t : State) : Prop :=
  t.ctxs = [] ∧ t.hbm0 = [] ∧ t.hbm1 = [] ∧ t.key.powered = true ∧ t.val 0x0100 0x01 = mv ∧
    ∀ u i sub, i < 65536 → i ∉ powerOnObjects → t.regAt u i sub =
      if persistOf (dkey u i sub) = .p2 then s.regAt u i sub else dictDefault (dkey u i sub)

theorem startWrites_powerOnObjects {sub : Nat} (hi : i ∉ powerOnObjects) : startWrites i sub = false := by
  have hin : startObjects.contains i = false := by
    rw [← Bool.not_eq_true, List.contains_iff_mem]
    exact fun h => hi ((by decide : startObjects ⊆ powerOnObjects) h)
  have h100 : i ≠ 0x0100 := fun e => hi (e ▸ by decide)
  have hF : i ≠ 0xF000 := fun e => hi (e ▸ by decide)
  unfold startWrites
  rw [if_neg h100, if_neg hF, hin]

theorem FreshFrom.leaves {v : State} (h : FreshFrom s mv t) (hl : StartLeaves t v) : FreshFrom s mv v := by
  obtain ⟨hctxs, hhbm0, hhbm1, hpowered, hvoltage, hframe⟩ := h
  obtain ⟨kctxs, khbm, kpowered, kwords⟩ := hl
  refine ⟨kctxs.trans hctxs, khbm.1.trans hhbm0, khbm.2.trans hhbm1, kpowered.trans hpowered, ?_, fun u i sub hi hn => ?_⟩
  · exact (congrArg BitVec.toNat (kwords 0 0x0100 0x01 rfl)).trans hvoltage
  · rw [kwords u i sub (by rw [Nat.mod_eq_of_lt hi, startWrites_powerOnObjects hn]), hframe u i sub hi hn]

/-- The writes of objects that a start may write, and of the keystone's state but for its power. -/
theorem FreshFrom.object {v : State} (h : FreshFrom s mv t) (hctxs : SameCtxs t v) (hhbm : SameHbm t v)
    (hpowered : v.key.powered = t.key.powered)
    (hobj : ∀ {i : Nat}, i % 65536 ≠ 0x9070 ∧ i % 65536 ≠ 0xF000 → SameObject i t v) : FreshFrom s mv v := by
  obtain ⟨gctxs, ghbm0, ghbm1, gpowered, gvoltage, gframe⟩ := h
  refine ⟨hctxs.trans gctxs, hhbm.1.trans ghbm0, hhbm.2.trans ghbm1, hpowered.trans gpowered, ?_, fun u i sub hi hn => ?_⟩
  · rw [(hobj (by decide)).val, gvoltage]
  · have hne : i % 65536 ≠ 0x9070 ∧ i % 65536 ≠ 0xF000 := by
      rw [Nat.mod_eq_of_lt hi]
      exact ⟨fun e => hn (e ▸ by decide), fun e => hn (e ▸ by decide)⟩
    rw [hobj hne, gframe u i sub hi hn]

theorem FreshFrom.footing (h : FreshFrom s mv t) : FreshFrom s mv (t.put 0xF000 0x02 1) :=
  h.object State.put_ctxs ⟨State.put_hbm0, State.put_hbm1⟩ (by rw [State.put_key])
    fun hi => State.put_kept ((sameObject_keptD (W := [0xF000]) t (by simpa using hi.2)).mem (by decide)) (SameObject.refl _ t)

theorem countAttempt_powered : s.countAttempt.key.powered = s.key.powered := by
  have hnonce {t : State} : SameKey t t.drawServiceNonce :=
    State.drawServiceNonce_kept (sameKey_kept t) (sameKey_keptA t).toD rfl
  change (s.bump 0xF000 0x01).drawServiceNonce.key.powered = s.key.powered
  rw [hnonce, State.bump_key]

theorem FreshFrom.counted (h : FreshFrom s mv t) : FreshFrom s mv t.countAttempt :=
  h.object (State.countAttempt_kept (sameCtxs_kept t) (sameCtxs_keptK t) (sameCtxs_keptA t).toD rfl)
    (State.countAttempt_kept (sameHbm_kept t) (sameHbm_keptK t) (sameHbm_keptA t).toD ⟨rfl, rfl⟩) countAttempt_powered
    countAttempt_sameObject

/-! ### The start from power -/

/-- The part as its keystone comes up: what persists, and the input's alerts. -/
def State.comesUp (s : State) (mv : Nat) : State :=
  { s.losePower with
    key := { s.losePower.key with powered := true },
    sup := { s.losePower.sup with alertLow := false, alertHigh := decide (62000 < mv) } }

/-- Both halves fenced off and the input read. -/
def State.measured (s : State) (mv : Nat) : State := (((s.comesUp mv).setFence .h0 3).setFence .h1 3).senseInput mv

theorem measured_sameObject (hi : i % 65536 ≠ 0x0041 ∧ i % 65536 ≠ 0x0100) : SameObject i s.losePower (s.measured mv) :=
  have kd : KeptD (SameObject i s.losePower) [0x0041, 0x0100] := sameObject_keptD _ (by simpa using hi)
  State.senseInput_kept (kd.mono (by decide)) (State.setFence_kept (kd.mono (by decide))
    (State.setFence_kept (kd.mono (by decide)) fun _ _ => State.regAt_of_dict rfl))

theorem measured_fresh (hmv : mv ≤ 80000) : FreshFrom s mv (s.measured mv) := by
  have hdict : OnlyDict (s.comesUp mv) (s.measured mv) :=
    have kd {W : List Nat} : KeptD (OnlyDict (s.comesUp mv)) W := (onlyDict_keptA _).toD
    State.senseInput_kept kd (State.setFence_kept kd (State.setFence_kept kd (onlyDict_refl _)))
  refine ⟨by rw [hdict]; rfl, by rw [hdict]; rfl, by rw [hdict]; rfl, by rw [hdict]; rfl,
    senseInput_voltage (by omega), fun u i sub hi hn => ?_⟩
  have hne : i % 65536 ≠ 0x0041 ∧ i % 65536 ≠ 0x0100 := by
    rw [Nat.mod_eq_of_lt hi]
    exact ⟨fun e => hn (e ▸ by decide), fun e => hn (e ▸ by decide)⟩
  rw [measured_sameObject hne, losePower_regAt]

/-- From the reading of the input to S2 a start writes what it may. -/
theorem coldStart_fromS2 : ∃ r, StartLeaves (s.measured mv) r ∧ s.coldStart mv found = r.fromS2 mv found := by
  unfold State.coldStart
  extract_lets old lost key sup up fenced sensed locked low wasted granted
  have hlow : StartLeaves (s.measured mv) low := 
    startLeaves_putAt rfl (startLeaves_putAt rfl (startLeaves_putAt rfl (StartLeaves.refl _)))
  have hwasted : StartLeaves (s.measured mv) wasted :=
    State.wasteLeaves_kept (startLeaves_kept _) (startLeaves_keptS _) (startLeaves_keptD (by decide)) hlow
  exact ⟨granted, startLeaves_repin (State.regrant_kept (startLeaves_keptD (by decide)) hwasted), rfl⟩

/-- The attempts counted persist, footing mode does not. -/
theorem measured_startWords : (s.measured mv).reg 0xF000 0x01 = s.reg 0xF000 0x01 ∧ (s.measured mv).reg 0xF000 0x02 = 0 := by
  have hF : SameObject 0xF000 s.losePower (s.measured mv) := measured_sameObject (by decide)
  rw [hF.reg, hF.reg]
  unfold State.reg
  rw [losePower_regAt, losePower_regAt]
  exact ⟨if_pos (by decide), (if_neg (by decide)).trans (by decide)⟩

theorem measured_crystal : (s.measured mv).flag 0x1000 0x01 0 = false := by
  have hC : SameObject 0x1000 s.losePower (s.measured mv) := measured_sameObject (by decide)
  rw [hC.flag]
  unfold State.flag State.reg
  rw [losePower_regAt, if_neg (by decide)]
  decide

/-- A start that is counted goes on without the crystal. -/
theorem counted_leaves (hc : s.flag 0x1000 0x01 0 = false) :
    StartLeaves s.countAttempt (s.countAttempt.copyKeystoneBlocks.fromS3 mv found) := by
  have hblocks : StartLeaves s.countAttempt s.countAttempt.copyKeystoneBlocks :=
    startLeaves_copyKeystoneBlocks (StartLeaves.refl _)
  have hcrystal : s.countAttempt.copyKeystoneBlocks.flag 0x1000 0x01 0 = false := by
    rw [(hblocks.object (i := 0x1000) fun _ => rfl).flag, (countAttempt_sameObject (by decide)).flag, hc]
  exact hblocks.trans (fromS3_leaves hcrystal)

theorem fresh_holder (h : FreshFrom s mv t) : t.holder = 0xFF := by
  obtain ⟨-, -, -, -, -, hframe⟩ := h
  unfold State.holder State.val State.valAt
  rw [hframe 0 0x0040 0x01 (by decide) (by decide), if_neg (by decide)]
  decide

/-- The start from power: fresh, and counted or in footing mode. -/
theorem coldStart_fresh (hmv : mv ≤ 80000) : FreshFrom s mv (s.coldStart mv found) ∧
    if 3 ≤ s.val 0xF000 0x01 then (s.coldStart mv found).reg 0xF000 0x02 = 1 ∧
      (s.coldStart mv found).reg 0xF000 0x01 = s.reg 0xF000 0x01
    else (s.coldStart mv found).reg 0xF000 0x02 = 0 ∧
      (s.coldStart mv found).reg 0xF000 0x01 = s.reg 0xF000 0x01 + 1 := by
  obtain ⟨r, hr, hcold⟩ := coldStart_fromS2 (s := s) (mv := mv) (found := found)
  have hrev : StartLeaves (s.measured mv) r.reversed := hr.trans reversed_leaves
  have hfresh : FreshFrom s mv r.reversed := (measured_fresh hmv).leaves hrev
  obtain ⟨hattempts, hfooting⟩ := measured_startWords (s := s) (mv := mv)
  rw [← hrev.attempts] at hattempts
  rw [← hrev.footing] at hfooting
  have hcount : r.reversed.val 0xF000 0x01 = s.val 0xF000 0x01 := congrArg BitVec.toNat hattempts
  have hcrystal : r.reversed.flag 0x1000 0x01 0 = false := by
    rw [(hrev.object (i := 0x1000) fun _ => rfl).flag, measured_crystal]
  rw [hcold, fromS2_eq, hcount]
  split
  · have hl := enterFooting_leaves (s := r.reversed)
    refine ⟨hfresh.footing.leaves hl, ?_, ?_⟩
    · rw [hl.footing]
      exact State.regAt_putAt_self
    · rw [hl.attempts, State.reg_put_ne (by decide), hattempts]
  · have hl := counted_leaves (mv := mv) (found := found) hcrystal
    refine ⟨hfresh.counted.leaves hl, ?_, ?_⟩
    · rw [hl.footing, countAttempt_footing, hfooting]
    · rw [hl.attempts, countAttempt_attempts, hattempts]

theorem exec_coldPowerOn (hmv : mv ≤ 80000) (hp : s.key.powered = false) (hopen : s.sup.switchOpen = false)
    (hlow : 36000 ≤ mv) : execColdPowerOn mv found s = .next (s.coldStart mv found) := by
  unfold execColdPowerOn rated
  rw [if_neg (by omega), if_pos ⟨hp, hopen, hlow⟩]

theorem exec_inputSwitchReclose (hmv : mv ≤ 80000) (hopen : s.sup.switchOpen = true) (hlow : 44000 ≤ mv)
    (hhigh : mv ≤ 60000) : execInputSwitchReclose mv found s =
      .next (State.coldStart { s with sup := { s.sup with switchOpen := false } } mv found) := by
  unfold execInputSwitchReclose rated
  rw [if_neg (by omega), if_pos ⟨hopen, hlow, hhigh⟩]

/-- Settles O1: the state that loses its power keeps the words of class P2, and no phase before S5 writes another. -/
theorem powerOnStartsFromPersistentStateAlone : Obligations.PowerOnStartsFromPersistentStateAlone := by
  intro s mv found hmv fresh
  have hfresh {s' : State} (hdict : s'.dict = s.dict) : fresh (s'.coldStart mv found) := by
    have hreg {u i sub : Nat} : s'.regAt u i sub = s.regAt u i sub := State.regAt_of_dict hdict
    obtain ⟨h, hstart⟩ := coldStart_fresh (s := s') (found := found) hmv
    have hholder := fresh_holder h
    generalize s'.coldStart mv found = t at *
    obtain ⟨hctxs, hhbm0, hhbm1, hpowered, hvoltage, hframe⟩ := h
    refine ⟨hctxs, hhbm0, hhbm1, hpowered, hvoltage, hholder, ?_, fun u i sub hi hn => ?_⟩
    · unfold State.val State.valAt State.reg at hstart ⊢
      rwa [hreg] at hstart
    · rw [hframe u i sub hi hn, hreg]
  exact ⟨fun hp hopen hlow => ⟨_, exec_coldPowerOn hmv hp hopen hlow, hfresh rfl⟩,
    fun hopen hlow hhigh => ⟨_, exec_inputSwitchReclose hmv hopen hlow hhigh, hfresh rfl⟩⟩

end Sys2Proof.Machine
end

section
/-! SUPPORT. Reading back what updates of the host port and of HBM leave (R62 to R67, R80). -/

namespace Sys2Proof.Machine

open Sys2Proof Sys2Proof.Safety

variable {s : State} {h k : HalfId}

/-! ### Stores by number -/

/-- An entry that replaces those of its number reads back. -/
theorem lookup_replaced {α : Type} {l : List (Nat × α)} {n : Nat} {v : α} :
    lookup (l.filter (fun e => e.1 != n) ++ [(n, v)]) n = some v := by
  have hnone : (l.filter (fun e => e.1 != n)).find? (fun e => e.1 == n) = none := by simp
  unfold lookup
  rw [List.find?_append, hnone]
  simp

/-! ### Functions and vectors -/

@[simp] theorem State.fn_setFn_self {f : Fn} {c : FnState} : (s.setFn f c).fn f = c := by cases f <;> rfl

/-- A vector that is raised waits. -/
theorem signal_waits {f : Fn} {v : Nat} : (f, v) ∈ (s.signal f v).port.vectors := by
  unfold State.signal
  split
  · next h => simpa using h
  · simp

/-- Raising a vector leaves the port but for the vectors that wait. -/
theorem signal_port {f : Fn} {v : Nat} :
    (s.signal f v).port = { s.port with vectors := (s.signal f v).port.vectors } := by
  unfold State.signal
  split <;> rfl

/-! ### Directories (R65) -/

@[simp] theorem State.dir_setDir_self {l : List Nat} : (s.setDir h l).dir h = l := by cases h <;> rfl

/-- A directory changed is a port changed. -/
theorem State.setDir_eq {l : List Nat} : s.setDir h l = { s with port := (s.setDir h l).port } := by cases h <;> rfl

/-! ### Bytes of HBM (R8) -/

theorem State.hbm_hbmWrite_self {a : Nat} {l : List Byte} : (s.hbmWrite h a l).hbm h = memWrite (s.hbm h) a l := by
  cases h <;> rfl

theorem State.hbm_hbmWrite_ne {a : Nat} {l : List Byte} (hk : k ≠ h) : (s.hbmWrite h a l).hbm k = s.hbm k := by
  cases h <;> cases k
  · exact absurd rfl hk
  · rfl
  · rfl
  · exact absurd rfl hk

/-- A byte written reads back. -/
theorem State.hbmByte_hbmWrite_inside {a j : Nat} {l : List Byte} (hj : j < l.length) (ha : a + j < hbmSize) :
    (s.hbmWrite h a l).hbmByte h (a + j) = l.getD j 0 := by
  unfold State.hbmByte
  rw [hbm_hbmWrite_self, memWrite_get_inside l _ a j hj ha, List.getD_eq_getElem _ _ hj]

/-- A byte outside what is written reads as before. -/
theorem State.hbmByte_hbmWrite_outside {a x : Nat} {l : List Byte} (hx : k ≠ h ∨ x < a ∨ a + l.length ≤ x) :
    (s.hbmWrite h a l).hbmByte k x = s.hbmByte k x := by
  unfold State.hbmByte
  rcases eq_or_ne k h with rfl | hk
  · rw [hbm_hbmWrite_self, memWrite_get_outside l _ _ _ (hx.resolve_left (by simp))]
  · rw [hbm_hbmWrite_ne hk]

end Sys2Proof.Machine
end

section
/-! PROOF. O22: the MCTP endpoint, MSI-X vectors and the status shadow (R77 to R80, R121, R160). -/

namespace Sys2Proof.Machine

open Sys2Proof Sys2Proof.Safety

variable {s : State}

/-! ### The MCTP endpoint (R121) -/

theorem mctp_ready {kind : Nat} {values : List Nat} {f : State → State} (hr : s.i3cReady = true)
    (ha : s.svc.i3cAddr ≠ 0) : s.mctp kind values f = (f s).emit (.mctp kind values) := by
  unfold State.mctp
  rw [if_pos (by simp [hr, ha])]

theorem mctp_gated {kind : Nat} {values : List Nat} {f : State → State} (hr : s.i3cReady = false) :
    s.mctp kind values f = s := by
  unfold State.mctp
  rw [if_neg (by simp [hr])]

/-- A command of the endpoint is answered, and writes the endpoint's own state at most. -/
theorem mctp_answers {c : Instr} {kind : Nat} {values : List Nat} {f : State → State} {x : Service}
    (hp : s.key.powered = true) (hr : s.i3cReady = true) (ha : s.svc.i3cAddr ≠ 0)
    (hc : exec c s = onPower s (fun t => t.mctp kind values f)) (hf : f s = { s with svc := x }) :
    Reaches c s (fun t => t.out = s.out ++ [.mctp kind values] ∧ SameDict s t ∧ SameHbm s t ∧ SameCtxs s t) := by
  refine ⟨State.emit { s with svc := x } (.mctp kind values), ?_, rfl, rfl, ⟨rfl, rfl⟩, rfl⟩
  rw [hc, onPower_on hp, mctp_ready hr ha, hf]

theorem exec_setEndpointId {e : Nat} (hp : s.key.powered = true) (hr : s.i3cReady = true) (ha : s.svc.i3cAddr ≠ 0) :
    exec (.setEndpointId e) s = .next (State.emit { s with svc := { s.svc with eid := e } } (.mctp 0x01 [e])) := by
  change execSetEndpointId e s = _
  unfold execSetEndpointId
  rw [onPower_on hp, mctp_ready hr ha]

theorem exec_entdaa {a : Nat} (hp : s.key.powered = true) (hr : s.i3cReady = true) :
    exec (.entdaa a) s = .next { s with svc := { s.svc with i3cAddr := a } } := by
  change execEntdaa a s = _
  unfold execEntdaa
  rw [onPower_on hp, if_pos hr]

/-- A gated endpoint answers no query. -/
theorem query_gated {c : Instr} (hp : s.key.powered = true) (hr : s.i3cReady = false)
    (hc : c ∈ [Instr.getEndpointId, .getMctpVersionSupport, .getMessageTypeSupport, .getVendorDefinedMessageSupport]) :
    exec c s = .next s := by
  have hquery : ∃ (kind : Nat) (values : State → List Nat),
      exec c s = onPower s (fun t => t.mctp kind (values t) id) := by
    simp only [List.mem_cons, List.not_mem_nil, or_false] at hc
    rcases hc with rfl | rfl | rfl | rfl
    · exact ⟨0x02, fun t => [t.svc.eid], rfl⟩
    · exact ⟨0x04, fun _ => [Config.mctpVersion], rfl⟩
    · exact ⟨0x05, fun _ => [0x00, 0x05, 0x7E], rfl⟩
    · exact ⟨0x06, fun t => [t.val 0xA000 0x01], rfl⟩
  obtain ⟨kind, values, hc⟩ := hquery
  rw [hc, onPower_on hp, mctp_gated hr]

/-! ### MSI-X vectors (R80, R160) -/

theorem exec_vectorSignal_masked {f : Fn} {v : Nat} (hp : s.key.powered = true) (hm : (s.fn f).masked v = true) :
    exec (.vectorSignal f v) s = .next s := by
  change execVectorSignal f v s = _
  unfold execVectorSignal
  rw [onPower_on hp, if_neg (by simp [hm])]

theorem exec_vectorSignal {f : Fn} {v : Nat} (hp : s.key.powered = true) (hv : (f, v) ∈ s.port.vectors)
    (hm : (s.fn f).masked v = false) : exec (.vectorSignal f v) s =
      .next (State.emit { s with port := { s.port with vectors := s.port.vectors.filter (fun x => x != (f, v)) } }
        (.msix f v)) := by
  change execVectorSignal f v s = _
  unfold execVectorSignal
  rw [onPower_on hp, if_pos (by simpa [hm] using hv)]

/-! ### The status shadow (R77 to R80) -/

/-- A field of the shadow reads as it was last brought up to date. -/
theorem shadowWord_field {offset : Nat} (h : 0x010 ≤ offset) :
    s.shadowWord offset = ((lookup s.port.shadow offset).getD 0).toNat := by
  unfold State.shadowWord
  split
  case h_5 => rfl
  all_goals omega

theorem exec_shadowRead {offset width : Nat} (hp : s.key.powered = true) (hw : width = 4 ∨ width = 8)
    (ha : offset % width = 0) (hb : offset + width ≤ 0x1000) : exec (.shadowRead offset width) s =
      .next (s.emit (.completion (BitVec.ofNat 64
        (s.shadowWord offset + 2 ^ 32 * if width = 8 then s.shadowWord (offset + 4) else 0)))) := by
  change execShadowRead offset width s = _
  unfold execShadowRead
  rw [onPower_on hp, if_pos ⟨hw, ha, hb⟩]

theorem shadowWrite_counts {offset width : Nat} {v : BitVec 64} (hp : s.key.powered = true) :
    Reaches (.shadowWrite offset width v) s (fun t =>
      t.reg 0xA004 0x06 = s.reg 0xA004 0x06 + 1 ∧ t.port.shadow = s.port.shadow ∧ OnlyIn [0xA004] s t ∧
      OnlySubs 0xA004 [0x06] s t ∧ SameHbm s t) := by
  refine ⟨s.bump 0xA004 0x06, ?_, State.reg_bump_self, by simp, ?_, fun u sub hlt hne => ?_, by simp, by simp⟩
  · change execShadowWrite offset width v s = _
    unfold execShadowWrite
    rw [onPower_on hp]
  · exact onlyIn_of_keptD (by decide) fun i kd => State.bump_kept (kd.mem (by decide)) (SameObject.refl i s)
  · rw [State.regAt_bump, if_neg]
    rw [dkey_inj]
    rintro ⟨-, -, he⟩
    rw [Nat.mod_eq_of_lt hlt] at he
    exact hne (he ▸ by decide)

/-- The shadow after field `n` has been brought up to its source `new`. -/
def State.shadowed (s : State) (n : Nat) (new : Word) : State :=
  { s with port := { s.port with
      shadow := s.port.shadow.filter (fun (e : Nat × Word) => e.1 != 0x010 + 4 * n) ++ [(0x010 + 4 * n, new)],
      shadowSeq := s.port.shadowSeq + 2 } }

theorem exec_shadowUpdate {n : Nat} (hp : s.key.powered = true) (hn : n ≤ 9)
    (hne : s.shadowWord (0x010 + 4 * n) ≠ (toWord (s.shadowSource n)).toNat) :
    exec (.shadowUpdate (0x010 + 4 * n)) s = .next
      (if s.flag 0xA001 0x06 n then (s.shadowed n (toWord (s.shadowSource n))).signal .f0 0
        else s.shadowed n (toWord (s.shadowSource n))) := by
  have hfield : (0x010 + 4 * n - 0x010) / 4 = n := by omega
  have hold : toWord (s.shadowWord (0x010 + 4 * n)) ≠ toWord (s.shadowSource n) := by
    rw [shadowWord_field (by omega)] at hne ⊢
    rw [toWord_of_toNat]
    exact fun h => hne (congrArg BitVec.toNat h)
  change execShadowUpdate (0x010 + 4 * n) s = _
  unfold execShadowUpdate
  rw [onPower_on hp]
  dsimp only
  rw [hfield, if_neg (by omega), if_neg hold]
  rfl

theorem shadowUpdate_follows {n : Nat} (hp : s.key.powered = true) (hn : n ≤ 9)
    (hne : s.shadowWord (0x010 + 4 * n) ≠ (toWord (s.shadowSource n)).toNat) :
    Reaches (.shadowUpdate (0x010 + 4 * n)) s (fun t =>
      t.shadowWord (0x010 + 4 * n) = (toWord (s.shadowSource n)).toNat ∧ t.port.shadowSeq = s.port.shadowSeq + 2 ∧
      (s.flag 0xA001 0x06 n = true → (Fn.f0, 0) ∈ t.port.vectors) ∧ SameDict s t ∧ SameHbm s t) := by
  have hword {t : State} (e : t.port.shadow = (s.shadowed n (toWord (s.shadowSource n))).port.shadow) :
      t.shadowWord (0x010 + 4 * n) = (toWord (s.shadowSource n)).toNat := by
    rw [shadowWord_field (by omega), e]
    unfold State.shadowed
    rw [lookup_replaced]
    rfl
  refine ⟨_, exec_shadowUpdate hp hn hne, ?_⟩
  split
  · exact ⟨hword (by rw [signal_port]), by rw [signal_port]; rfl, fun _ => signal_waits, State.signal_dict,
      State.signal_hbm0, State.signal_hbm1⟩
  · next hf => exact ⟨hword rfl, rfl, fun h => absurd h hf, rfl, rfl, rfl⟩

/-- Settles O22: the endpoint and its vectors, then the shadow, clause by clause. -/
theorem mctpAndStatusShadow : Obligations.MctpAndStatusShadow := by
  unfold Obligations.MctpAndStatusShadow
  refine ⟨fun s hp => ?_, fun s hp => ⟨fun offset ha hb => ?_, fun offset ha hb => ?_,
    fun offset width v => shadowWrite_counts hp, fun n hn hne => shadowUpdate_follows hp hn hne⟩⟩
  · refine ⟨fun hr a => ⟨_, exec_entdaa hp hr, rfl, rfl, rfl, rfl⟩, fun hr ha => ⟨fun e => ⟨?_, ?_⟩, ?_, ?_, ?_, ?_⟩,
      fun hr c hc => ⟨s, query_gated hp hr hc, rfl⟩, fun f v _ hm => ⟨s, exec_vectorSignal_masked hp hm, rfl⟩,
      fun f v hv hm => ⟨_, exec_vectorSignal hp hv hm, rfl, ?_, fun w hw hne => ?_, rfl, rfl, rfl⟩⟩
    · exact mctp_answers hp hr ha rfl rfl
    · exact ⟨_, exec_setEndpointId hp hr ha, rfl⟩
    · exact mctp_answers (values := [s.svc.eid]) (f := id) hp hr ha rfl rfl
    · exact mctp_answers (f := id) hp hr ha rfl rfl
    · exact mctp_answers (f := id) hp hr ha rfl rfl
    · exact mctp_answers (f := id) hp hr ha rfl rfl
    · simp
    · exact List.mem_filter.mpr ⟨hw, by simpa using hne⟩
  · exact ⟨_, exec_shadowRead hp (.inl rfl) ha hb, rfl⟩
  · exact ⟨_, exec_shadowRead hp (.inr rfl) ha hb, rfl⟩

end Sys2Proof.Machine
end

section
/-! PROOF. O23: CXL.mem writes and reads (R64 to R67, R432). -/

namespace Sys2Proof.Machine

open Sys2Proof Sys2Proof.Safety

variable {s : State} {h : HalfId} {session : Option Nat} {ide : Bool}

/-! ### A request wakes the module from Retain alone (R432) -/

theorem memWakes_awake (ht : s.key.trans = none) (hq : s.val 0x1010 0x01 ≠ 2) : s.memWakes = s := by
  unfold State.memWakes
  rw [ht]
  dsimp only
  rw [if_neg hq, ite_self]

theorem memWakes_retain (ht : s.key.trans = none) (hq : s.val 0x1010 0x01 = 2) (hx : s.val 0x1000 0x06 ≠ 2) :
    s.memWakes = s.toActive s.count := by
  have hheld : s.retainHeld = false := by simp [State.retainHeld, hx]
  unfold State.memWakes State.wakeNow
  rw [ht, hheld]
  simp [hq]

theorem toActive_state {n : Nat} : (s.toActive n).val 0x1010 0x01 = 0 := by
  unfold State.toActive
  exact (congrArg BitVec.toNat (State.reg_put_ne (by decide))).trans (State.val_put_self (by decide))

/-! ### Writes (R64, R67) -/

theorem exec_cxlMemWrite {offset : Nat} {data : List Byte} (hp : s.key.powered = true) (hw : s.memWakes = s) :
    exec (.cxlMemWrite h offset data session ide) s = .next
      (if !s.servesMem h || decide (hbmSize ≤ offset) then (s.bump 0xA004 0x05).emit .memDone
        else if s.barredMem h offset session ide then (s.bump 0xA004 0x04).emit .memDone
        else (State.hbmWrite (if (data.take (64 - offset % 64)).length = 64
          then s.unpoison h (fun l => l == offset / 64) else s) h offset (data.take (64 - offset % 64))).emit .memDone) := by
  change execCxlMemWrite h offset data session ide s = _
  unfold execCxlMemWrite
  rw [onPower_on hp]
  dsimp only
  rw [hw]

/-- What a write that is discarded and counted leaves. -/
theorem memWrite_discarded {t : State} {sub : Nat} (ht : t = (s.bump 0xA004 sub).emit .memDone) :
    SameHbm s t ∧ t.reg 0xA004 sub = s.reg 0xA004 sub + 1 ∧ t.out = s.out ++ [.memDone] ∧ OnlyIn [0xA004] s t := by
  subst ht
  refine ⟨⟨by simp, by simp⟩, State.regAt_emit.trans State.reg_bump_self, by simp, ?_⟩
  exact onlyIn_of_keptD (by decide) fun i kd =>
    State.emit_kept (sameObject_kept i s) (State.bump_kept (kd.mem (by decide)) (SameObject.refl i s))

theorem cxlMemWrite_stores {offset : Nat} {data : List Byte} (hp : s.key.powered = true) (hw : s.memWakes = s)
    (hs : s.servesMem h = true) (ho : offset < hbmSize) (hb : s.barredMem h offset session ide = false) :
    Reaches (.cxlMemWrite h offset data session ide) s (fun t =>
      (∀ j, j < min data.length (64 - offset % 64) → t.hbmByte h (offset + j) = data.getD j 0) ∧
      (∀ k a, k ≠ h ∨ a < offset ∨ offset + min data.length (64 - offset % 64) ≤ a → t.hbmByte k a = s.hbmByte k a) ∧
      t.out = s.out ++ [.memDone] ∧ SameDict s t ∧ SameCtxs s t) := by
  obtain ⟨x, hx⟩ : ∃ x, (if (data.take (64 - offset % 64)).length = 64 then s.unpoison h (fun l => l == offset / 64)
      else s) = { s with port := x } := by
    split
    · exact ⟨_, rfl⟩
    · exact ⟨_, rfl⟩
  have hlen : (data.take (64 - offset % 64)).length = min data.length (64 - offset % 64) := by
    rw [List.length_take, Nat.min_comm]
  refine ⟨_, exec_cxlMemWrite hp hw, ?_⟩
  rw [if_neg (by simpa [hs] using ho), if_neg (by simp [hb]), hx]
  refine ⟨fun j hj => ?_, fun k a hk => ?_, by simp, State.hbmWrite_dict, State.hbmWrite_ctxs⟩
  · refine (State.hbmByte_hbmWrite_inside (hlen ▸ hj) (by unfold hbmSize at *; omega)).trans ?_
    rw [List.getD_eq_getElem _ _ (hlen ▸ hj), List.getElem_take, List.getD_eq_getElem]
  · exact State.hbmByte_hbmWrite_outside (hlen ▸ hk)

/-! ### Reads (R64 to R67) -/

theorem exec_cxlMemRead {offset : Nat} (hp : s.key.powered = true) :
    exec (.cxlMemRead h offset session ide) s = .next (s.memWakes.memRead h (offset / 64) session ide) := by
  change execCxlMemRead h offset session ide s = _
  unfold execCxlMemRead
  rw [onPower_on hp]

theorem memRead_unserved {l : Nat} (hu : s.servesMem h = false ∨ hbmSize ≤ l * 64) :
    s.memRead h l session ide = s.poisonRead h := by
  unfold State.memRead
  rw [if_pos (by simpa using hu)]

theorem memRead_barred {l : Nat} (hs : s.servesMem h = true) (hl : l * 64 < hbmSize)
    (hb : s.barredMem h (l * 64) session ide = true) :
    s.memRead h l session ide = (s.poisonRead h).bump 0xA004 0x04 := by
  unfold State.memRead
  rw [if_neg (by simpa [hs] using hl), if_pos hb]

theorem memRead_room {l : Nat} (hs : s.servesMem h = true) (hl : l * 64 < hbmSize)
    (hb : s.barredMem h (l * 64) session ide = false) (hr : (s.dir h).length < dirSize)
    (hg : s.port.poisoned.contains (h, l) = false) :
    s.memRead h l session ide = (s.track h l).emit (.memData (s.hbmRead h (l * 64) 64) false) := by
  unfold State.memRead State.lineRead
  rw [if_neg (by simpa [hs] using hl), if_neg (by simp [hb]), if_pos (by simp [hr]),
    if_neg (ne_true_of_eq_false hg)]

theorem memRead_full {l v : Nat} {r : List Nat} (hs : s.servesMem h = true) (hl : l * 64 < hbmSize)
    (hb : s.barredMem h (l * 64) session ide = false) (hd : s.dir h = v :: r) (hfull : dirSize ≤ (s.dir h).length)
    (hnew : l ∉ s.dir h) :
    s.memRead h l session ide = State.emit { s with port := { s.port with snoops := s.port.snoops ++
      [{ half := h, line := v, ctx := none, hostOwned := false, reader := some (l, session, ide) }] } }
      (.bisnp h v) := by
  unfold State.memRead
  rw [if_neg (by simpa [hs] using hl), if_neg (by simp [hb]), if_neg (by simp [hnew, hfull]), hd]

/-- A read that completes with poison is counted in its half's register, and leaves memories and contexts. -/
theorem poisonRead_counts :
    (s.poisonRead h).out = s.out ++ [.memData [] true] ∧
    (s.poisonRead h).reg 0xA004 (0x01 + halfNum h) = s.reg 0xA004 (0x01 + halfNum h) + 1 ∧
    SameHbm s (s.poisonRead h) ∧ SameCtxs s (s.poisonRead h) := by
  unfold State.poisonRead
  refine ⟨by simp, ?_, ⟨by simp, by simp⟩, by simp [SameCtxs]⟩
  rw [State.reg_bump_self]
  rfl

theorem poisonRead_reg_ne {sub : Nat} (hsub : (0x01 + halfNum h) % 256 ≠ sub % 256) :
    (s.poisonRead h).reg 0xA004 sub = s.reg 0xA004 sub := by
  unfold State.poisonRead
  rw [State.reg_bump_ne hsub]
  rfl

theorem barredRead_counts :
    ((s.poisonRead h).bump 0xA004 0x04).out = s.out ++ [.memData [] true] ∧
    ((s.poisonRead h).bump 0xA004 0x04).reg 0xA004 (0x01 + halfNum h) = s.reg 0xA004 (0x01 + halfNum h) + 1 ∧
    ((s.poisonRead h).bump 0xA004 0x04).reg 0xA004 0x04 = s.reg 0xA004 0x04 + 1 ∧
    SameHbm s ((s.poisonRead h).bump 0xA004 0x04) ∧ SameCtxs s ((s.poisonRead h).bump 0xA004 0x04) := by
  have hne : 0x04 % 256 ≠ (0x01 + halfNum h) % 256 := by have := halfNum_le h; omega
  obtain ⟨hout, hcount, ⟨h0, h1⟩, hctxs⟩ := poisonRead_counts (s := s) (h := h)
  refine ⟨State.bump_out.trans hout, (State.reg_bump_ne hne).trans hcount, ?_,
    ⟨State.bump_hbm0.trans h0, State.bump_hbm1.trans h1⟩, State.bump_ctxs.trans hctxs⟩
  rw [State.reg_bump_self, poisonRead_reg_ne hne.symm]

/-- A line that the host tracks is in the directory, and nothing but the port changes. -/
theorem track_tracks {l : Nat} : l ∈ (s.track h l).dir h ∧ ∃ x, s.track h l = { s with port := x } := by
  unfold State.track
  rw [State.dir_setDir_self]
  exact ⟨by simp, _, State.setDir_eq⟩

/-- Settles O23: writes and reads by what the half serves, bars and tracks, and the wake from Retain. -/
theorem deviceMemoryAccesses : Obligations.DeviceMemoryAccesses := by
  unfold Obligations.DeviceMemoryAccesses
  have hline {offset : Nat} (ho : offset < hbmSize) : offset / 64 * 64 < hbmSize := by omega
  refine ⟨fun s h offset data session ide hp ht hq => ?_, fun s h offset session ide hp ht =>
    ⟨fun hq hs ho hb hr hg => ?_, fun hq hu => ?_, fun hq hs ho hb => ?_, fun v r hq hs ho hb hd hfull hnew => ?_,
      fun hq hx => ?_⟩⟩
  · have hw := memWakes_awake ht hq
    refine ⟨cxlMemWrite_stores hp hw, fun hu => ⟨_, exec_cxlMemWrite hp hw, memWrite_discarded ?_⟩,
      fun hs ho hb => ⟨_, exec_cxlMemWrite hp hw, memWrite_discarded ?_⟩⟩
    · rw [if_pos (by simpa using hu)]
    · rw [if_neg (by simpa [hs] using ho), if_pos hb]
  · obtain ⟨hmem, x, hx⟩ := track_tracks (s := s) (h := h) (l := offset / 64)
    refine ⟨_, exec_cxlMemRead hp, ?_⟩
    rw [memWakes_awake ht hq, memRead_room hs (hline ho) hb hr hg]
    exact ⟨by rw [hx]; rfl, hmem, by rw [hx]; rfl, by rw [hx]; exact ⟨rfl, rfl⟩, by rw [hx]; rfl⟩
  · refine ⟨_, exec_cxlMemRead hp, ?_⟩
    rw [memWakes_awake ht hq, memRead_unserved hu]
    exact poisonRead_counts
  · refine ⟨_, exec_cxlMemRead hp, ?_⟩
    rw [memWakes_awake ht hq, memRead_barred hs (hline ho) hb]
    exact barredRead_counts
  · refine ⟨_, exec_cxlMemRead hp, ?_⟩
    rw [memWakes_awake ht hq, memRead_full hs (hline ho) hb hd hfull hnew]
    exact ⟨rfl, ⟨_, List.mem_append_right _ (List.mem_singleton.mpr rfl), rfl, rfl, rfl⟩, rfl, ⟨rfl, rfl⟩, rfl⟩
  · have hkeeps : SameObject 0x1010 (s.toActive s.count) ((s.toActive s.count).memRead h (offset / 64) session ide) :=
      sameObject_of_keptD (by decide) fun kd => State.memRead_kept (sameObject_kept _ _) kd (SameObject.refl _ _)
    refine ⟨_, exec_cxlMemRead hp, ?_, ?_⟩
    · rw [memWakes_retain ht hq hx, hkeeps.val, toActive_state]
    · rw [memWakes_retain ht hq hx]
      exact State.memRead_kept (sameHbm_kept s) (sameHbm_keptA s).toD
        (State.toActive_kept (sameHbm_keptA s).toD (sameHbm_keptA s).toN ⟨rfl, rfl⟩)

end Sys2Proof.Machine
end

section
/-! PROOF. O24: an answered snoop lets a context try its step, which writes the dictionary (R66, R157). -/

namespace Sys2Proof.Machine

open Sys2Proof

/-- A streaming context that runs at a step boundary, and whose batch has not arrived, shows that it waits (R157). -/
theorem tryStep_awaitsBatch {s : State} {n : Nat} {c : Ctx} (hc : s.ctx n = some c) (hrun : c.state = stRun)
    (hphase : c.phase = 0) (hstream : s.streaming n = true) (hbatch : s.batchReady c = false)
    (hended : c.ended = false) : s.tryStep n = s.put (cidx n) 0x4E 1 := by
  unfold State.tryStep
  rw [hc]
  simp [hrun, hphase, hstream, hbatch, hended]

/-- Context 1 of half 0, in RUN at a step boundary. -/
def awaitingCtx : Ctx := { Ctx.opened 1 .h0 false none [] 0 with state := stRun }

/-- Context 1 streams batches of one record, none of which has arrived, and line 3 of half 0 is back-invalidated
for it. -/
def awaitingState : State :=
  { State.reset with
    dict := [(dkey 0 0x8001 0x40, 1), (dkey 0 0x8001 0x43, 1)],
    key := { State.reset.key with powered := true },
    ctxs := [awaitingCtx],
    port := { State.reset.port with snoops := [⟨.h0, 3, some 1, false, none⟩], dir0 := [3] } }

/-- The snoop of line 3 is over and its line is no longer tracked. -/
def answeredState : State := { awaitingState with port := { State.reset.port with snoops := [], dir0 := [] } }

theorem answered_tryStep : answeredState.tryStep 1 = answeredState.put 0x8001 0x4E 1 :=
  tryStep_awaitsBatch (c := awaitingCtx) rfl rfl rfl (by decide +kernel) (by decide +kernel) rfl

/-- The answer ends the snoop, no tensor and no table of the context is read, and the context tries its step. -/
theorem exec_birsp_awaiting : exec (.birsp .h0 3 none) awaitingState = .next (answeredState.put 0x8001 0x4E 1) := by
  rw [← answered_tryStep]
  rfl

theorem awaiting_streamState : awaitingState.val 0x8001 0x4E = 0 := by decide +kernel

/-- Refutes O24, at its first clause: in `awaitingState` the host answers the snoop for which context 1 waits. The
context then tries its step, and its stream state 0x8001.4E goes from 0 to 1 (its batch is awaited), so the answer does
not leave the dictionary as it was. -/
theorem not_snoopsAreAnswered : ¬ Obligations.SnoopsAreAnswered := by
  unfold Obligations.SnoopsAreAnswered
  intro hall
  obtain ⟨hbirsp, -⟩ := hall awaitingState .h0 3 rfl
  obtain ⟨t, hexec, -, -, hdict, -⟩ := hbirsp none (by decide) (by simp [awaitingState]) (by decide)
  rw [exec_birsp_awaiting] at hexec
  cases hexec
  have hafter : (answeredState.put 0x8001 0x4E 1).val 0x8001 0x4E = 1 := State.val_put_self (by decide)
  have hsame : (answeredState.put 0x8001 0x4E 1).val 0x8001 0x4E = awaitingState.val 0x8001 0x4E :=
    congrArg (fun d => (Sparse.get dictDefault d (dkey 0 0x8001 0x4E)).toNat) hdict
  rw [hafter, awaiting_streamState] at hsame
  exact absurd hsame (by decide)

end Sys2Proof.Machine
end

section
/-! PROOF. O25: HDM decoders and configuration requests (R60, R61, R63, R64, R73, R496). -/

namespace Sys2Proof.Machine

open Sys2Proof Sys2Proof.Safety

variable {s : State} {h : HalfId} {f : Fn} {r : Nat}

/-! ### HDM decoders (R60, R64) -/

theorem exec_hdmDecoderCommit_refused {base ways : Nat} (hp : s.key.powered = true) (hf : s.fenced h = true) :
    exec (.hdmDecoderCommit h base ways) s = .next (s.emit .abort) := by
  change execHdmDecoderCommit h base ways s = _
  unfold execHdmDecoderCommit
  rw [onPower_on hp]
  dsimp only
  rw [if_pos (by simp [hf])]

/-- A decoder of a half that is not fenced commits where the flit mode, the base and the interleave fit; elsewhere it
shows its error. -/
theorem exec_hdmDecoderCommit {base ways : Nat} (hp : s.key.powered = true) (hf : s.fenced h = false)
    (hm : (s.half h).memActive = true) (hl : (s.fn (halfFn h)).tspLocked = false) :
    exec (.hdmDecoderCommit h base ways) s = .next (s.setFn (halfFn h)
      (if s.val 0xA001 0x03 = 0 ∨ base % 2 ^ 28 ≠ 0 ∨ ways ≠ 1 then { s.fn (halfFn h) with decError := true }
        else { s.fn (halfFn h) with decCommitted := true, decBase := base, decError := false })) := by
  change execHdmDecoderCommit h base ways s = _
  unfold execHdmDecoderCommit
  rw [onPower_on hp]
  dsimp only
  rw [if_neg (by simp [hf, hm, hl])]
  split <;> rfl

/-! ### What changes a function alone -/

theorem setFn_same {c : FnState} : SameDict s (s.setFn f c) ∧ SameHbm s (s.setFn f c) :=
  ⟨State.setFn_dict, State.setFn_hbm0, State.setFn_hbm1⟩

/-- A configuration register written is kept. -/
theorem cfgWrite_kept {v : Word} : lookup ((s.cfgWrite f r v).fn f).cfg r = some v := by
  unfold State.cfgWrite
  rw [State.fn_setFn_self, lookup_replaced]

/-- A word of the MSI-X table written is kept (R62). -/
theorem blockWrite_msix {bar offset k : Nat} {v : Word} (hk : msixWord f bar offset = some k) :
    ((s.blockWrite f bar offset v).fn f).msixWord k = v ∧ SameDict s (s.blockWrite f bar offset v) := by
  unfold State.blockWrite
  rw [hk]
  dsimp only
  refine ⟨?_, State.setFn_dict⟩
  rw [State.fn_setFn_self]
  unfold FnState.msixWord
  rw [lookup_replaced]
  rfl

theorem blockRead_msix {bar offset k : Nat} (hk : msixWord f bar offset = some k) :
    s.blockRead f bar offset = (s.fn f).msixWord k := by
  unfold State.blockRead
  rw [hk]

/-! ### Configuration requests (R61, R63, R496) -/

theorem exec_configurationRequest_keystone {k : CfgKind} (hp : s.key.powered = true) :
    exec (.configurationRequest .f0 r k) s = .next (s.cfgServe .f0 r k) := by
  change execConfigurationRequest .f0 r k s = _
  unfold execConfigurationRequest
  rw [onPower_on hp]
  rfl

/-- What a half's function answers: nothing is served while the half is fenced or starts. -/
theorem exec_configurationRequest_half {k : CfgKind} (hp : s.key.powered = true)
    (hfoot : s.flag 0xF000 0x02 0 = false) :
    exec (.configurationRequest (halfFn h) r k) s = .next
      (if s.fenced h then s.emit .abort else if (s.half h).phase = .starting then s.emit .retryStatus
        else s.cfgServe (halfFn h) r k) := by
  have hhalf : fnHalf (halfFn h) = some h := by cases h <;> rfl
  change execConfigurationRequest (halfFn h) r k s = _
  unfold execConfigurationRequest
  rw [onPower_on hp, hhalf]
  dsimp only
  rw [hfoot]
  rfl

/-- A locked function aborts a write of a BAR, of a decoder and of MSI-X (R73). -/
theorem cfgServe_locked {v : Word} {k : CfgKind} (hl : (s.fn f).tspLocked = true)
    (hk : k ∈ [CfgKind.writeBar v, .writeDecoder v, .writeMsix v]) : s.cfgServe f r k = s.emit .abort := by
  simp only [List.mem_cons, List.not_mem_nil, or_false] at hk
  unfold State.cfgServe
  rcases hk with rfl | rfl | rfl
  · exact if_pos hl
  · exact if_pos hl
  · exact if_pos hl

/-- A word of the MSI-X table is written through its BAR unless the function is locked (R62, R73). -/
theorem cfgServe_barWrite {bar offset k : Nat} {v : Word} (hf : f ≠ .f0) (hk : msixWord f bar offset = some k)
    (ha : offset % 4 = 0) (hb : offset + 4 ≤ barSize f bar) : s.cfgServe f r (.barWrite bar offset v) =
      if (s.fn f).tspLocked then s.emit .abort else s.blockWrite f bar offset v := by
  unfold State.cfgServe
  dsimp only
  rw [if_neg (by omega), if_neg (by simp [hf]), hk]
  simp

theorem cfgServe_barRead {bar offset k : Nat} (hf : f ≠ .f0) (hk : msixWord f bar offset = some k)
    (ha : offset % 4 = 0) (hb : offset + 4 ≤ barSize f bar) : s.cfgServe f r (.barRead bar offset) =
      s.emit (.completion (BitVec.ofNat 64 ((s.fn f).msixWord k).toNat)) := by
  unfold State.cfgServe
  dsimp only
  rw [if_neg (by omega), if_neg (by simp [hf]), blockRead_msix hk]

/-- Settles O25: the decoder's outcomes, then the requests by the state of the half. -/
theorem decodersAndConfiguration : Obligations.DecodersAndConfiguration := by
  unfold Obligations.DecodersAndConfiguration
  intro s h hp
  have hne : halfFn h ≠ .f0 := by cases h <;> decide
  refine ⟨fun base ways hf hm hl => ⟨fun hflit hbase hways => ⟨_, exec_hdmDecoderCommit hp hf hm hl, ?_⟩,
      fun hbad => ⟨_, exec_hdmDecoderCommit hp hf hm hl, ?_⟩⟩,
    fun base ways hf => ⟨_, exec_hdmDecoderCommit_refused hp hf, rfl⟩,
    fun r => ⟨_, exec_configurationRequest_keystone hp, rfl⟩,
    fun r c => ⟨_, exec_configurationRequest_keystone hp, rfl⟩,
    fun hfoot hf hs => ?_, fun hfoot hf r k => ⟨_, exec_configurationRequest_half hp hfoot, if_pos hf⟩,
    fun hfoot hf hs r k => ⟨_, exec_configurationRequest_half hp hfoot, ?_⟩⟩
  · rw [if_neg (by omega)]
    dsimp only
    rw [State.fn_setFn_self]
    exact ⟨rfl, rfl, rfl, setFn_same⟩
  · rw [if_pos (by omega)]
    dsimp only
    rw [State.fn_setFn_self]
    exact ⟨rfl, rfl, setFn_same⟩
  · have hserved (r : Nat) (k : CfgKind) :
        exec (.configurationRequest (halfFn h) r k) s = .next (s.cfgServe (halfFn h) r k) := by
      rw [exec_configurationRequest_half hp hfoot, if_neg (by simp [hf]), if_neg hs]
    refine ⟨fun r => ⟨_, hserved r _, rfl⟩, fun r v => ⟨_, hserved r _, cfgWrite_kept, setFn_same⟩,
      fun r v hl k hk => ⟨_, hserved r k, cfgServe_locked hl hk⟩,
      fun r bar offset v k hk ha hb => ⟨fun hl => ⟨_, hserved r _, ?_⟩, fun hl => ⟨_, hserved r _, ?_⟩,
        ⟨_, hserved r _, cfgServe_barRead hne hk ha hb⟩⟩,
      fun r => ⟨_, hserved r _, ?_, State.setFn_dict⟩⟩
    · rw [cfgServe_barWrite hne hk ha hb, if_neg (by simp [hl])]
      exact blockWrite_msix hk
    · rw [cfgServe_barWrite hne hk ha hb, if_pos hl]
    · unfold State.cfgServe
      rw [State.fn_setFn_self]
  · rw [if_neg (by simp [hf]), if_pos hs]

end Sys2Proof.Machine
end

section
/-! SUPPORT. What a hold reason leaves of the contexts, their reasons and the port (R142, R146, R153). -/

namespace Sys2Proof.Machine

open Sys2Proof Sys2Proof.Safety

variable {s t v : State} {n b : Nat}

/-! ### Contexts by number -/

theorem find?_replaceBy_self {α : Type} {p : α → Bool} {x : α} (hx : p x = true) :
    ∀ {l : List α}, (replaceBy p x l).find? p = some x
  | [] => by simp [replaceBy, hx]
  | a :: r => by
    unfold replaceBy
    split
    · simp [hx]
    · next ha => rw [List.find?_cons_of_neg ha, find?_replaceBy_self hx]

theorem find?_replaceBy_of_not {α : Type} {p q : α → Bool} {x : α} (hx : q x = false)
    (hpq : ∀ a, p a = true → q a = false) : ∀ {l : List α}, (replaceBy p x l).find? q = l.find? q
  | [] => by simp [replaceBy, hx]
  | a :: r => by
    unfold replaceBy
    split
    · next ha => rw [List.find?_cons_of_neg (by simp [hx]), List.find?_cons_of_neg (by simp [hpq a ha])]
    · rw [List.find?_cons, List.find?_cons, find?_replaceBy_of_not hx hpq]

theorem ctx_num {c : Ctx} (hc : s.ctx n = some c) : c.n = n := by
  simpa using List.find?_some hc

theorem ctx_of_ctxs (e : t.ctxs = s.ctxs) : t.ctx n = s.ctx n := by
  unfold State.ctx
  rw [e]

theorem ctx_setCtx {c : Ctx} : (s.setCtx c).ctx n = if n = c.n then some c else s.ctx n := by
  unfold State.ctx
  rw [State.setCtx_ctxs]
  split
  · next h =>
    subst h
    exact find?_replaceBy_self (by simp)
  · next h =>
    refine find?_replaceBy_of_not (by simpa using Ne.symm h) fun a ha => ?_
    rw [beq_iff_eq] at ha
    simpa [ha] using Ne.symm h

/-! ### Only holds -/

/-- From the one state to the other contexts have entered HOLD at most, reasons have arisen and vectors have been
raised. -/
structure OnlyHolds (s t : State) : Prop where
  ctx : ∀ n c, s.ctx n = some c → ∃ x, t.ctx n = some x ∧ x.releasing = c.releasing ∧
    (x.state = c.state ∨ x.state = stHold)
  reason : ∀ n j, s.hasReason n j = true → t.hasReason n j = true
  port : t.port = { s.port with vectors := t.port.vectors }

theorem OnlyHolds.refl (s : State) : OnlyHolds s s := ⟨fun _ c hc => ⟨c, hc, rfl, .inl rfl⟩, fun _ _ h => h, rfl⟩

theorem OnlyHolds.trans (h : OnlyHolds s t) (h' : OnlyHolds t v) : OnlyHolds s v := by
  obtain ⟨hctx, hreason, hport⟩ := h
  obtain ⟨hctx', hreason', hport'⟩ := h'
  refine ⟨fun k c hc => ?_, fun k j hj => hreason' k j (hreason k j hj), ?_⟩
  · obtain ⟨x, hx, hrel, hst⟩ := hctx k c hc
    obtain ⟨y, hy, hrel', hst'⟩ := hctx' k x hx
    refine ⟨y, hy, hrel'.trans hrel, ?_⟩
    rcases hst' with e | e
    · exact e ▸ hst
    · exact .inr e
  · rw [hport', hport]

/-- What changes neither contexts nor reasons. -/
theorem onlyHolds_of (hc : t.ctxs = s.ctxs) (hr : ∀ n j, s.hasReason n j = true → t.hasReason n j = true)
    (hp : t.port = { s.port with vectors := t.port.vectors }) : OnlyHolds s t :=
  ⟨fun _ c h => ⟨c, (ctx_of_ctxs hc).trans h, rfl, .inl rfl⟩, hr, hp⟩

theorem hasReason_of_dict (hd : t.dict = s.dict) : t.hasReason n b = s.hasReason n b := by
  unfold State.hasReason State.flag State.reg
  rw [State.regAt_of_dict hd]

/-- A reason that stands is a bit of its word. -/
theorem hasReason_lt (h : s.hasReason n b = true) : b < 32 := BitVec.lt_of_getLsbD h

theorem hasReason_setReason (hb : b < 32) : (s.setReason n b).hasReason n b = true := by
  unfold State.setReason State.hasReason
  rw [State.flag_putFlag, if_pos rfl, decide_eq_true hb, Bool.and_self]

theorem setReason_onlyHolds : OnlyHolds s (s.setReason n b) := by
  refine onlyHolds_of State.putFlag_ctxs (fun m j hj => ?_) (by rw [State.setReason, State.putFlag_port])
  by_cases hi : cidx n % 65536 = cidx m % 65536
  · have hword : ∀ u : State, u.flag (cidx m) 0x02 j = u.flag (cidx n) 0x02 j := fun u => by
      unfold State.flag State.reg State.regAt
      rw [(dkey_unit (u := 0)).mpr ⟨hi, rfl⟩]
    unfold State.hasReason State.setReason at *
    rw [hword, State.flag_putFlag]
    split
    · simp [hasReason_lt hj]
    · rwa [hword] at hj
  · unfold State.hasReason State.setReason State.flag State.reg at *
    rwa [State.regAt_putFlag, if_neg (by simp [hi])]

theorem signal_onlyHolds {f : Fn} {k : Nat} : OnlyHolds s (s.signal f k) :=
  onlyHolds_of State.signal_ctxs (fun _ _ h => (hasReason_of_dict State.signal_dict).trans h) signal_port

theorem settle_onlyHolds {asked : Bool} : OnlyHolds s (s.settle n asked) := by
  unfold State.settle State.endPending
  split
  · unfold State.endTicket
    refine OnlyHolds.trans ?_ signal_onlyHolds
    exact onlyHolds_of rfl (fun _ _ h => h) rfl
  · exact OnlyHolds.refl s

theorem ctxEvent_onlyHolds : OnlyHolds s (s.ctxEvent n b) := by
  have hput : OnlyHolds s (s.putFlag (cidx n) 0x1F b true) := by
    refine onlyHolds_of State.putFlag_ctxs (fun m j hj => ?_) (by rw [State.putFlag_port])
    unfold State.hasReason State.flag State.reg at *
    rwa [State.regAt_putFlag, if_neg (by simp)]
  unfold State.ctxEvent
  split
  · exact OnlyHolds.refl s
  · dsimp only
    split
    · split
      · exact hput.trans signal_onlyHolds
      · exact hput
    · exact hput

/-- A context that enters HOLD, or is asked to, keeps whether it is being released. -/
theorem setCtx_onlyHolds {c x : Ctx} (hc : s.ctx n = some c) (hn : x.n = c.n) (hrel : x.releasing = c.releasing)
    (hst : x.state = c.state ∨ x.state = stHold) : OnlyHolds s (s.setCtx x) := by
  refine ⟨fun m d hd => ?_, fun _ _ h => (hasReason_of_dict State.setCtx_dict).trans h, by rw [State.setCtx_port]⟩
  rw [ctx_setCtx]
  split
  · next hm =>
    have : d = c := Option.some.inj (hd.symm.trans ((hm.trans (hn.trans (ctx_num hc))) ▸ hc))
    subst this
    exact ⟨x, rfl, hrel, hst⟩
  · exact ⟨d, hd, rfl, .inl rfl⟩

theorem toHold_onlyHolds : OnlyHolds s (s.toHold n) := by
  unfold State.toHold
  split
  · exact OnlyHolds.refl s
  · next c hc =>
    have hsettled : (s.settle n c.wantHold).ctx n = some c :=
      (ctx_of_ctxs (State.settle_kept (sameCtxs_kept s) (sameCtxs_keptV s) rfl)).trans hc
    refine OnlyHolds.trans ((settle_onlyHolds (n := n) (asked := c.wantHold)).trans ?_) ctxEvent_onlyHolds
    exact setCtx_onlyHolds hsettled rfl rfl (.inr rfl)

theorem askHold_onlyHolds : OnlyHolds s (s.askHold n) := by
  unfold State.askHold
  split
  · exact OnlyHolds.refl s
  · next c hc =>
    split
    · exact toHold_onlyHolds
    · exact setCtx_onlyHolds hc rfl rfl (.inl rfl)

theorem reasonHold_onlyHolds {all : Bool} : OnlyHolds s (s.reasonHold n b all) := by
  unfold State.reasonHold
  split
  · exact OnlyHolds.refl s
  · next c hc =>
    split
    · exact OnlyHolds.refl s
    · split
      · exact setReason_onlyHolds.trans askHold_onlyHolds
      · split
        · exact setReason_onlyHolds
        · split
          · refine OnlyHolds.trans (OnlyHolds.trans ?_ setReason_onlyHolds) toHold_onlyHolds
            exact setCtx_onlyHolds hc rfl rfl (.inl rfl)
          · exact OnlyHolds.refl s

theorem holdCompanions_onlyHolds : OnlyHolds s (s.holdCompanions n) := by
  unfold State.holdCompanions
  exact Kept.foldl (P := OnlyHolds s) (fun t c ht => ht.trans reasonHold_onlyHolds) (OnlyHolds.refl s)

/-! ### A reason that moves every context (R72, R73) -/

theorem bindHold_onlyHolds : OnlyHolds s (s.bindHold n b) := by
  unfold State.bindHold
  dsimp only
  split
  · exact reasonHold_onlyHolds.trans holdCompanions_onlyHolds
  · exact reasonHold_onlyHolds

/-- A context that is neither being released nor in FAULT takes the reason. -/
theorem reasonHold_sets {c : Ctx} (hb : b < 32) (hc : s.ctx n = some c) (hrel : c.releasing = false)
    (hst : c.state ≠ stFault) : (s.reasonHold n b true).hasReason n b = true := by
  unfold State.reasonHold
  rw [hc]
  dsimp only
  rw [if_neg (by simp [hrel])]
  split
  · exact askHold_onlyHolds.reason _ _ (hasReason_setReason hb)
  · split
    · exact hasReason_setReason hb
    · rw [if_pos (by simpa using hst)]
      exact toHold_onlyHolds.reason _ _ (hasReason_setReason hb)

theorem bindHold_sets {c : Ctx} (hb : b < 32) (hc : s.ctx n = some c) (hrel : c.releasing = false)
    (hst : c.state ≠ stFault) : (s.bindHold n b).hasReason n b = true := by
  unfold State.bindHold
  dsimp only
  split
  · exact holdCompanions_onlyHolds.reason _ _ (reasonHold_sets hb hc hrel hst)
  · exact reasonHold_sets hb hc hrel hst

theorem bindHolds_onlyHolds {l : List Ctx} : OnlyHolds s (l.foldl (fun t c => t.bindHold c.n b) s) :=
  Kept.foldl (P := OnlyHolds s) (fun _ _ ht => ht.trans bindHold_onlyHolds) (OnlyHolds.refl s)

/-- Of the contexts that are bound, each takes the reason, whatever those before it have held. -/
theorem bindHolds_sets {c d : Ctx} {l : List Ctx} (hb : b < 32) (hd : d ∈ l) (hc : s.ctx d.n = some c)
    (hrel : c.releasing = false) (hst : c.state ≠ stFault) :
    (l.foldl (fun t c => t.bindHold c.n b) s).hasReason d.n b = true := by
  induction l generalizing s c with
  | nil => exact absurd hd List.not_mem_nil
  | cons a r ih =>
    rw [List.foldl_cons]
    rcases List.mem_cons.mp hd with rfl | hd
    · exact bindHolds_onlyHolds.reason _ _ (bindHold_sets hb hc hrel hst)
    · obtain ⟨x, hx, hrel', hst'⟩ := (bindHold_onlyHolds (n := a.n) (b := b)).ctx d.n c hc
      refine ih hd hx (hrel'.trans hrel) ?_
      rcases hst' with e | e
      · exact e ▸ hst
      · rw [e]
        decide

end Sys2Proof.Machine
end

section
/-! PROOF. O26: IDE keys and integrity failures, TSP errors and bindings (R71 to R73, R468). -/

namespace Sys2Proof.Machine

open Sys2Proof Sys2Proof.Safety

variable {s : State} {via : Via} {stream : IdeStream}

/-! ### Records -/

/-- A record of the keystone goes to the log of function 0. -/
theorem log_out {e : Event} (hu : unitHalf e.unit = none) : (s.log e).out = s.out ++ [.record .f0 (s.recordOf e)] := by
  unfold State.log
  dsimp only
  rw [recordSignal_out, traceAdd_out, cperAdd_out, State.emit_out, hu]

theorem recordSignal_port {c : Nat} {k : Option HalfId} :
    (s.recordSignal c k).port = { s.port with vectors := (s.recordSignal c k).port.vectors } := by
  unfold State.recordSignal
  extract_lets v t
  have ht : t.port = { s.port with vectors := t.port.vectors } := signal_port
  split
  · rfl
  · cases k with
    | none => exact ht
    | some h =>
      dsimp only
      rw [signal_port, ht]

theorem log_port {e : Event} : (s.log e).port = { s.port with vectors := (s.log e).port.vectors } := by
  have hcper {t : State} {r : Record} : (t.cperAdd r).port = t.port := by
    unfold State.cperAdd
    split
    · exact State.put_port
    · exact State.bump_port
  have htrace {t : State} {x : TraceRec} : (t.traceAdd x).port = t.port := by
    unfold State.traceAdd
    split
    · exact State.add64_port
    · rfl
  unfold State.log
  dsimp only
  rw [recordSignal_port, htrace, hcper, State.emit_port]

/-! ### IDE (R71, R72) -/

theorem exec_ideKeyProgram (hp : s.key.powered = true) : exec (.ideKeyProgram via stream) s = .next
    (if via.path == .doe && s.secured via then
      { s with port := { s.port with idePending := s.port.idePending.filter (· != stream) ++ [stream] } }
    else s.answer via.path 0 0xA002 0x01 0 0x5001) := by
  change execIdeKeyProgram via stream s = _
  unfold execIdeKeyProgram
  rw [onPower_on hp]

theorem showIde_reg : s.showIde.reg 0xA002 0x01 = toWord ((if s.port.ideKeys.contains .io then 1 else 0) +
    (if s.port.ideKeys.contains .cacheMem then 2 else 0) + (if s.port.ideFailed = [] then 0 else 4)) :=
  State.regAt_putAt_self

theorem ideWord_bits : ∀ io mem sound : Bool,
    let w := toWord ((if io then 1 else 0) + (if mem then 2 else 0) + (if sound then 0 else 4))
    bit w 0 = io ∧ bit w 1 = mem ∧ bit w 2 = !sound := by decide

/-- The register's bits are the secure streams and the insecure state. -/
theorem showIde_flags : s.showIde.flag 0xA002 0x01 0 = s.port.ideKeys.contains .io ∧
    s.showIde.flag 0xA002 0x01 1 = s.port.ideKeys.contains .cacheMem ∧
    s.showIde.flag 0xA002 0x01 2 = !decide (s.port.ideFailed = []) := by
  unfold State.flag
  rw [showIde_reg]
  simpa only [decide_eq_true_eq] using ideWord_bits (s.port.ideKeys.contains .io) (s.port.ideKeys.contains .cacheMem)
    (decide (s.port.ideFailed = []))

theorem showIde_val : s.showIde.val 0xA002 0x01 = (if .io ∈ s.port.ideKeys then 1 else 0) +
    (if .cacheMem ∈ s.port.ideKeys then 2 else 0) + (if s.port.ideFailed = [] then 0 else 4) := by
  have hlt : (if s.port.ideKeys.contains .io then 1 else 0) + (if s.port.ideKeys.contains .cacheMem then 2 else 0) +
      (if s.port.ideFailed = [] then 0 else 4) < 2 ^ 32 := by
    split <;> split <;> split <;> decide
  have hval : s.showIde.val 0xA002 0x01 = _ := State.val_put_self hlt
  simpa only [List.contains_iff_mem] using hval

/-- The streams whose keys waited are secured, and none of them is insecure any more. -/
def State.ideRefreshed (s : State) : State :=
  { s with port := { s.port with
      idePending := [],
      ideKeys := s.port.ideKeys.filter (fun (x : IdeStream) => !s.port.idePending.contains x) ++ s.port.idePending,
      ideFailed := s.port.ideFailed.filter (fun (x : IdeStream) => !s.port.idePending.contains x) } }

theorem exec_ideKeyRefresh (hp : s.key.powered = true) (hw : s.port.idePending ≠ []) :
    exec .ideKeyRefresh s = .next s.ideRefreshed.showIde := by
  change execIdeKeyRefresh s = _
  unfold execIdeKeyRefresh
  rw [onPower_on hp]
  exact congrArg _ (if_neg hw)

theorem ideKeyRefresh_secures (hp : s.key.powered = true) (hw : s.port.idePending ≠ []) :
    Reaches .ideKeyRefresh s (fun t =>
      t.port.idePending = [] ∧ (∀ x ∈ s.port.idePending, x ∈ t.port.ideKeys ∧ x ∉ t.port.ideFailed) ∧
      t.val 0xA002 0x01 = (if .io ∈ t.port.ideKeys then 1 else 0) + (if .cacheMem ∈ t.port.ideKeys then 2 else 0) +
        (if t.port.ideFailed = [] then 0 else 4) ∧ OnlyIn [0xA002] s t) := by
  have hport : s.ideRefreshed.showIde.port = s.ideRefreshed.port := State.put_port
  refine ⟨_, exec_ideKeyRefresh hp hw, ?_⟩
  dsimp only
  rw [hport]
  refine ⟨rfl, fun x hx => ⟨List.mem_append_right _ hx, fun hf => ?_⟩, showIde_val, ?_⟩
  · simpa [hx] using (List.mem_filter.mp hf).2
  · exact onlyIn_of_keptD (by decide) fun i kd =>
      State.showIde_kept kd ((sameObject_kept i s).rest (SameObject.refl i s))

/-- The bit of 0xA002.01 that shows a stream secure. -/
def ideBit : IdeStream → Nat
  | .io => 0
  | .cacheMem => 1

/-- A stream has become insecure and its failure is counted (R72). -/
def State.ideInsecure (s : State) (stream : IdeStream) : State :=
  (State.showIde { s with port := { s.port with
    ideKeys := s.port.ideKeys.filter (· != stream),
    ideFailed := s.port.ideFailed.filter (· != stream) ++ [stream] } }).bump 0xA002 0x03

/-- The confidential contexts hold for a stream that is insecure. -/
def State.ideHeld (s : State) (stream : IdeStream) : State :=
  (s.ctxs.filter (·.confidential)).foldl (fun t c => t.bindHold c.n rIde) (s.ideInsecure stream)

theorem exec_ideIntegrityFailure (hp : s.key.powered = true) (hk : stream ∈ s.port.ideKeys) :
    exec (.ideIntegrityFailure stream) s = .next
      ((s.ideHeld stream).log { cls := clsFailure, unit := unitKeystone, obj := counter 0xA002 0x03 }) := by
  have hctxs : (s.ideInsecure stream).ctxs = s.ctxs := by unfold State.ideInsecure State.showIde; simp
  change execIdeIntegrityFailure stream s = _
  unfold execIdeIntegrityFailure
  rw [onPower_on hp]
  dsimp only
  rw [if_neg (by simpa using hk)]
  unfold State.ideHeld
  rw [← hctxs]
  rfl

theorem ideInsecure_words : (s.ideInsecure stream).flag 0xA002 0x01 2 = true ∧
    (s.ideInsecure stream).flag 0xA002 0x01 (ideBit stream) = false ∧
    (s.ideInsecure stream).reg 0xA002 0x03 = s.reg 0xA002 0x03 + 1 := by
  have hflag {u : State} {j : Nat} : (u.bump 0xA002 0x03).flag 0xA002 0x01 j = u.flag 0xA002 0x01 j := by
    unfold State.flag
    rw [State.reg_bump_ne (by decide)]
  unfold State.ideInsecure
  rw [hflag, hflag, State.reg_bump_self]
  refine ⟨showIde_flags.2.2.trans (by simp), ?_, congrArg (· + 1) (State.reg_put_ne (by decide))⟩
  cases stream with
  | io => exact showIde_flags.1.trans (by simp)
  | cacheMem => exact showIde_flags.2.1.trans (by simp)

theorem ideInsecure_port : (s.ideInsecure stream).port = { s.port with
    ideKeys := s.port.ideKeys.filter (· != stream),
    ideFailed := s.port.ideFailed.filter (· != stream) ++ [stream] } := by
  unfold State.ideInsecure State.showIde
  rw [State.bump_port, State.put_port]

theorem ideIntegrityFailure_holds (hp : s.key.powered = true) (hk : stream ∈ s.port.ideKeys) :
    Reaches (.ideIntegrityFailure stream) s (fun t =>
      stream ∉ t.port.ideKeys ∧ stream ∈ t.port.ideFailed ∧ t.flag 0xA002 0x01 2 = true ∧
      t.flag 0xA002 0x01 (ideBit stream) = false ∧
      t.reg 0xA002 0x03 = s.reg 0xA002 0x03 + 1 ∧
      (∃ r, .record .f0 r ∈ t.out ∧ r.cls = clsFailure) ∧ SameHbm s t ∧
      ∀ c ∈ s.ctxs, s.ctx c.n = some c → c.confidential = true → c.releasing = false → c.state ≠ stFault →
        t.flag (cidx c.n) 0x02 rIde = true) := by
  set e : Event := { cls := clsFailure, unit := unitKeystone, obj := counter 0xA002 0x03 }
  obtain ⟨hfailed, hsecure, hcount⟩ := ideInsecure_words (s := s) (stream := stream)
  have hheld : OnlyHolds (s.ideInsecure stream) (s.ideHeld stream) := bindHolds_onlyHolds
  have hport : ((s.ideHeld stream).log e).port = { (s.ideInsecure stream).port with
      vectors := ((s.ideHeld stream).log e).port.vectors } := by rw [log_port, hheld.port]
  have hword : SameObject 0xA002 (s.ideInsecure stream) ((s.ideHeld stream).log e) :=
    State.log_kept (sameObject_kept _ _) (sameObject_keptD _ (by decide)) (Kept.foldl
      (fun t c ht => State.bindHold_kept (sameObject_kept _ _) (sameObject_keptC _ _) (sameObject_keptV _ _)
        (sameObject_keptN _ (by decide) (by decide)) ht)
      (SameObject.refl _ _))
  have hctx {n : Nat} : (s.ideInsecure stream).ctx n = s.ctx n :=
    ctx_of_ctxs (by unfold State.ideInsecure State.showIde; simp)
  refine ⟨_, exec_ideIntegrityFailure hp hk, ?_, ?_, (hword.flag _ _).trans hfailed, (hword.flag _ _).trans hsecure,
    (hword.reg _).trans hcount, ⟨(s.ideHeld stream).recordOf e, ?_, rfl⟩, ?_, fun c hc hn hconf hrel hst => ?_⟩
  · rw [hport, ideInsecure_port]
    simp
  · rw [hport, ideInsecure_port]
    simp
  · rw [log_out rfl]
    exact List.mem_append_right _ (List.mem_singleton.mpr rfl)
  · exact execIdeIntegrityFailure_kept (sameHbm_kept s) (sameHbm_keptC s) (sameHbm_keptV s) (sameHbm_keptA s).toD
      (sameHbm_keptA s).toN ⟨rfl, rfl⟩ _ (exec_ideIntegrityFailure hp hk)
  · have hsets : (s.ideHeld stream).hasReason c.n rIde = true :=
      bindHolds_sets (by decide) (List.mem_filter.mpr ⟨hc, hconf⟩) (hctx.trans hn) hrel hst
    have hlog : SameObject (cidx c.n) (s.ideHeld stream) ((s.ideHeld stream).log e) :=
      State.log_kept (sameObject_kept _ _) (sameObject_keptD _ fun j hj => ?_) (SameObject.refl _ _)
    · exact (hlog.flag _ _).trans hsets
    · simp only [List.mem_cons, List.not_mem_nil, or_false] at hj
      unfold cidx
      omega

/-! ### TSP (R73, R468) -/

theorem tspError_holds {h : HalfId} (hp : s.key.powered = true) : Reaches (.tspError h) s (fun t => SameHbm s t ∧
    ∀ c ∈ s.ctxs, s.ctx c.n = some c → c.half = h → c.session.isSome = true → c.releasing = false → c.state ≠ stFault →
      t.flag (cidx c.n) 0x02 rTsp = true) := by
  refine ⟨s.tspHold h, ?_, ?_, fun c hc hn hh hsess hrel hst => ?_⟩
  · change execTspError h s = _
    exact onPower_on hp
  · exact State.tspHold_kept (sameHbm_kept s) (sameHbm_keptC s) (sameHbm_keptV s) (sameHbm_keptA s).toN ⟨rfl, rfl⟩
  · exact bindHolds_sets (by decide) (List.mem_filter.mpr ⟨hc, by simp [hh, hsess]⟩) hn hrel hst

variable {id : Nat} {fn : Fn} {lock : Option Bool} {x : Session}

/-- The session is bound to the function. -/
def State.tspBound (s : State) (id : Nat) (x : Session) (fn : Fn) : State :=
  let y : Session := { x with tspFn := some fn }
  { s with sec := { s.sec with sessions := replaceBy (fun (z : Session) => z.id == id) y s.sec.sessions } }

theorem tspBound_session (hx : s.session id = some x) :
    (s.tspBound id x fn).session id = some { x with tspFn := some fn } :=
  have hid : (x.id == id) = true := List.find?_some (p := fun z : Session => z.id == id) hx
  find?_replaceBy_self (p := fun z : Session => z.id == id) (x := { x with tspFn := some fn }) hid

/-- The function is locked or unlocked as the request asks. -/
def State.tspLock (s : State) (fn : Fn) (lock : Option Bool) : State :=
  match lock with
  | some b => s.setFn fn { s.fn fn with tspLocked := b }
  | none => s

theorem tspLock_lock {b : Bool} (h : lock = some b) : ((s.tspLock fn lock).fn fn).tspLocked = b := by
  subst h
  unfold State.tspLock
  rw [State.fn_setFn_self]

/-- The lock changes the port alone. -/
theorem tspLock_eq : ∃ y, s.tspLock fn lock = { s with port := y } := by
  unfold State.tspLock
  split
  · cases fn <;> exact ⟨_, rfl⟩
  · exact ⟨_, rfl⟩

theorem exec_tspRequest_bound (hp : s.key.powered = true) (hx : s.session id = some x) (hd : x.path = .doe)
    (hf : fn ≠ .f0) (hb : x.tspFn = none ∨ x.tspFn = some fn) :
    exec (.tspRequest id fn lock) s = .next (((s.tspBound id x fn).tspLock fn lock).emit (.spdm ansTsp id [])) := by
  change execTspRequest id fn lock s = _
  unfold execTspRequest
  rw [onPower_on hp, hx]
  dsimp only
  rw [if_neg]
  · cases lock <;> rfl
  · rcases hb with hb | hb <;> simp [hd, hf, hb]

theorem exec_tspRequest_other {g : Fn} (hp : s.key.powered = true) (hx : s.session id = some x)
    (hb : x.tspFn = some g) (hg : g ≠ fn) :
    exec (.tspRequest id fn lock) s = .next (s.emit (.spdmError spdmInvalid)) := by
  change execTspRequest id fn lock s = _
  unfold execTspRequest
  rw [onPower_on hp, hx]
  exact congrArg _ (if_pos (by simp [hb, hg]))

theorem tspRequest_binds (hp : s.key.powered = true) (hx : s.session id = some x) (hd : x.path = .doe)
    (hf : fn ≠ .f0) (hb : x.tspFn = none ∨ x.tspFn = some fn) : Reaches (.tspRequest id fn lock) s (fun t =>
      (∃ y, t.session id = some y ∧ y.tspFn = some fn) ∧ t.out = s.out ++ [.spdm ansTsp id []] ∧
      (∀ b, lock = some b → (t.fn fn).tspLocked = b) ∧ SameDict s t ∧ SameHbm s t) := by
  obtain ⟨y, hy⟩ := tspLock_eq (s := s.tspBound id x fn) (fn := fn) (lock := lock)
  refine ⟨_, exec_tspRequest_bound hp hx hd hf hb, ⟨{ x with tspFn := some fn }, ?_, rfl⟩, ?_,
    fun b hl => tspLock_lock hl, ?_, ?_⟩
  · rw [hy]
    exact tspBound_session hx
  · rw [hy]
    rfl
  · rw [hy]
    rfl
  · rw [hy]
    exact ⟨rfl, rfl⟩

/-- Settles O26: the keys of a stream, its failure, and TSP, clause by clause. -/
theorem ideAndTspEvents : Obligations.IdeAndTspEvents := by
  unfold Obligations.IdeAndTspEvents
  intro s via stream hp
  refine ⟨fun hd hs => ⟨_, exec_ideKeyProgram hp, ?_⟩, fun hr => ⟨_, exec_ideKeyProgram hp, if_neg ?_⟩,
    ideKeyRefresh_secures hp, ideIntegrityFailure_holds hp, fun h => tspError_holds hp,
    fun id x fn lock hx hd hf hb => tspRequest_binds hp hx hd hf hb,
    fun id x fn g lock hx hb hg => ⟨_, exec_tspRequest_other hp hx hb hg, rfl⟩⟩
  · rw [if_pos (by simp [hd, hs])]
    refine ⟨List.mem_append_right _ (List.mem_singleton.mpr rfl), fun x hx => ?_, rfl, rfl, rfl⟩
    simp only [List.mem_append, List.mem_filter, List.mem_singleton]
    rcases eq_or_ne x stream with h | h
    · exact .inr h
    · exact .inl ⟨hx, by simpa using h⟩
  · rcases hr with h | h <;> simp [h]

end Sys2Proof.Machine
end

section
/-! SUPPORT. Words of one object, and units of one, that stay while others are written. -/

namespace Sys2Proof.Safety

open Sys2Proof Sys2Proof.Machine

variable {s t v : State} {i u sub b : Nat} {l : List Nat}

theorem SameObject.fenced (h : SameObject 0x0041 s t) (k : HalfId) : t.fenced k = s.fenced k := by
  unfold State.fenced
  rw [h.fence]

theorem OnlySubs.refl (i : Nat) (l : List Nat) (s : State) : OnlySubs i l s s := fun _ _ _ _ => rfl

theorem OnlySubs.trans (h : OnlySubs i l s t) (h' : OnlySubs i l t v) : OnlySubs i l s v :=
  fun k sub hlt hne => (h' k sub hlt hne).trans (h k sub hlt hne)

theorem OnlySubs.of_object (h : OnlySubs i l s t) (h' : SameObject i t v) : OnlySubs i l s v :=
  fun k sub hlt hne => (h' k sub).trans (h k sub hlt hne)

theorem SameObject.onlySubs (h : SameObject i s t) : OnlySubs i l s t := fun k sub _ _ => h k sub

/-- A word outside the list. -/
theorem OnlySubs.reg (h : OnlySubs i l s t) (hsub : sub < 256 ∧ sub ∉ l) : t.reg i sub = s.reg i sub :=
  h 0 sub hsub.1 hsub.2

theorem OnlySubs.val (h : OnlySubs i l s t) (hsub : sub < 256 ∧ sub ∉ l) : t.val i sub = s.val i sub :=
  congrArg BitVec.toNat (h.reg hsub)

theorem OnlySubs.flag (h : OnlySubs i l s t) (hsub : sub < 256 ∧ sub ∉ l) : t.flag i sub b = s.flag i sub b :=
  congrArg (bit · b) (h.reg hsub)

/-- A word of the unit that may change is written. -/
theorem OnlyUnit.putAt {w : Word} (h : OnlyUnit i u s t) : OnlyUnit i u s (t.putAt u i sub w) :=
  fun k sub' hne => by rw [State.regAt_putAt_ne fun e => hne (dkey_inj.mp e).1.symm, h k sub' hne]

theorem OnlyUnit.of_object (h : OnlyUnit i u s t) (h' : SameObject i t v) : OnlyUnit i u s v :=
  fun k sub hne => (h' k sub).trans (h k sub hne)

/-- A word of another object leaves all of this one. -/
theorem sameObject_put {j n : Nat} (hij : i % 65536 ≠ j % 65536) : SameObject i s (s.put j sub n) :=
  State.put_kept (sameObject_at hij) (SameObject.refl i s)

end Sys2Proof.Safety
end

section
/-! PROOF. O60: a pace shortfall is logged and counted, and the course keeps running (R93, R394, R395). -/

namespace Sys2Proof.Machine

open Sys2Proof Sys2Proof.Safety

variable {s : State} {h : HalfId} {course : Nat}

theorem unitHalf_unitManager : unitHalf (unitManager h) = some h := by cases h <;> decide

/-- A record of a half goes to the log of its function. -/
theorem log_out_half {e : Event} (hu : unitHalf e.unit = some h) :
    (s.log e).out = s.out ++ [.record (halfFn h) (s.recordOf e)] := by
  unfold State.log
  dsimp only
  rw [recordSignal_out, traceAdd_out, cperAdd_out, State.emit_out, hu]

/-- The record of a shortfall. -/
def shortfallEvent (h : HalfId) : Event :=
  { cls := clsWarning, unit := unitManager h, obj := counter 0x1006 0x06 }

/-- A shortfall counted and logged, before the risk event that it counts as. -/
def State.shortfallLogged (s : State) (h : HalfId) : State := (s.bump 0x1006 0x06).log (shortfallEvent h)

theorem exec_paceShortfall (hp : s.key.powered = true) (hc : course ≤ 0x20) (hr : s.runs h = true) :
    exec (.paceShortfall h course) s = .next ((s.shortfallLogged h).riskEvent h 5) :=
  (onPower_on hp).trans (congrArg _ (if_pos ⟨hc, hr⟩))

/-- Counting and logging a shortfall writes its count, the CPER log's and the trace ring's, and no other object. -/
theorem shortfallLogged_sameObject {i : Nat} (hi : i % 65536 ≠ 0x1006 ∧ i % 65536 ≠ 0x7040 ∧ i % 65536 ≠ 0xF030) :
    SameObject i s (s.shortfallLogged h) :=
  have kd : KeptD (SameObject i s) [0x1006, 0x7040, 0xF030] := sameObject_keptD s (by simpa using hi)
  State.log_kept (sameObject_kept i s) (kd.mono (by decide)) (State.bump_kept (kd.mem (by decide)) (SameObject.refl i s))

theorem shortfallLogged_count : (s.shortfallLogged h).reg 0x1006 0x06 = s.reg 0x1006 0x06 + 1 := by
  have hlog : SameObject 0x1006 (s.bump 0x1006 0x06) (s.shortfallLogged h) :=
    sameObject_of_keptD (W := [0x7040, 0xF030]) (by decide) fun kd =>
      State.log_kept (sameObject_kept _ _) kd (SameObject.refl _ _)
  rw [hlog.reg, State.reg_bump_self]

/-- A risk event writes the half's own counts (R394). -/
theorem riskEvent_sameObject {i k : Nat} (hi : i % 65536 ≠ 0x7000 ∧ i % 65536 ≠ 0x7001) :
    SameObject i s (s.riskEvent h k) :=
  State.riskEvent_kept (sameObject_keptD s (by simpa using hi)) (SameObject.refl i s)

/-- A half that is not fenced counts a risk event by its kind (R395). -/
theorem riskEvent_counted {k : Nat} (hf : s.fenced h = false) :
    (s.riskEvent h k).reg (pick h 0x7000 0x7001) (0x05 + k) = s.reg (pick h 0x7000 0x7001) (0x05 + k) + 1 := by
  unfold State.riskEvent
  rw [hf, if_neg (by decide), State.reg_bump_self]

/-- Settles O60: the count and the record, then the risk event of a half that is not fenced; the rest is the frame of
the event. -/
theorem paceShortfallIsLoggedAndCounted : Obligations.PaceShortfallIsLoggedAndCounted := by
  unfold Obligations.PaceShortfallIsLoggedAndCounted
  intro s h course hp hc hr
  have hexec := exec_paceShortfall hp hc hr
  refine ⟨_, hexec, ?_, ⟨(s.bump 0x1006 0x06).recordOf (shortfallEvent h), ?_, rfl⟩, fun hf => ?_, ?_, ?_, ?_, ?_, ?_, ?_⟩
  · rw [(riskEvent_sameObject (by decide)).reg, shortfallLogged_count]
  · rw [State.riskEvent_out]
    exact (log_out_half unitHalf_unitManager).trans (by rw [State.bump_out])
  · have hrisk : SameObject (pick h 0x7000 0x7001) s (s.shortfallLogged h) :=
      shortfallLogged_sameObject (by cases h <;> decide)
    rw [riskEvent_counted (((shortfallLogged_sameObject (by decide)).fenced h).trans hf), hrisk.reg]
  · exact onlyIn_of_keptD (by decide) fun i kd =>
      execPaceShortfall_kept (sameObject_kept i s) kd (SameObject.refl i s) _ hexec
  · exact execPaceShortfall_kept (sameHalves_kept s) (sameHalves_keptA s).toD ⟨rfl, rfl⟩ _ hexec
  · exact execPaceShortfall_kept (sameFabric_kept s) (sameFabric_keptA s).toD rfl _ hexec
  · exact execPaceShortfall_kept (sameTiles_kept s) (sameTiles_keptA s).toD rfl _ hexec
  · exact execPaceShortfall_kept (sameCtxs_kept s) (sameCtxs_keptA s).toD rfl _ hexec
  · exact execPaceShortfall_kept (sameHbm_kept s) (sameHbm_keptA s).toD ⟨rfl, rfl⟩ _ hexec

end Sys2Proof.Machine
end

section
/-! PROOF. O7: the clock writes (R84, R99, R101, R103). -/

namespace Sys2Proof.Machine

open Sys2Proof Sys2Proof.Safety

variable {s : State} {via : Via} {v : Word} {sub : Nat}

/-! ### Sources (R84) -/

theorem verdict_source {x : Aux} (hadm : admits s via 0x1000 sub [v] = true) :
    verdict s x via 0x1000 sub [v] = (arrival s via 0x1000 sub).actSource sub v.toNat := by
  obtain ⟨_, _, _, o, r, ho, hr, rfl, _⟩ := admits_row hadm
  exact (verdict_of ho hr).trans rfl

theorem arrival_sourceReady {i n : Nat} : (arrival s via i sub).sourceReady n = s.sourceReady n :=
  arrival_sameObject.flag _ _

/-- The keystone core moves to a ready source, which may be its own already. -/
theorem keystoneSource_takes (hadm : admits s via 0x1000 0x04 [v] = true) (hready : s.sourceReady v.toNat = true) :
    Takes (.clockSourceSelect via 0x04 v) s via 0x1000 0x04 [v] (fun t =>
      t.val 0x1000 0x04 = v.toNat ∧ OnlyIn [0x1000] s t ∧ OnlySubs 0x1000 [0x04] s t) := by
  have hverdict := verdict_source (x := Aux.none) hadm
  unfold State.actSource at hverdict
  dsimp only at hverdict
  rw [if_pos rfl, arrival_sourceReady, if_pos hready] at hverdict
  split at hverdict
  · next hown => exact takes_of rfl hadm hverdict ⟨hown.symm, fun _ _ _ => arrival_sameObject, arrival_onlySubs⟩
  · exact takes_of rfl hadm hverdict
      ⟨State.val_put_self v.isLt, arrival_put_onlyIn (by decide), onlySubs_put arrival_onlySubs (by decide)⟩

theorem keystoneSource_refused (hadm : admits s via 0x1000 0x04 [v] = true) (hready : s.sourceReady v.toNat = false)
    (hne : s.val 0x1000 0x04 ≠ v.toNat) : Refuses (.clockSourceSelect via 0x04 v) s via 0x1000 0x04 0x3001 := by
  have hverdict := verdict_source (x := Aux.none) hadm
  unfold State.actSource at hverdict
  dsimp only at hverdict
  rw [if_pos rfl, arrival_sameObject.val, if_neg (Ne.symm hne), arrival_sourceReady, hready, if_neg (by decide)] at hverdict
  exact refuses_of rfl hadm hverdict (by decide) rfl

/-- With no half fenced and both sources ready every choice of the halves' domains is taken. -/
theorem actSource_halves {n : Nat} (hsub : sub ≠ 0x04) (h0 : s.sourceReady 0 = true) (h1 : s.sourceReady 1 = true)
    (hf0 : s.fenced .h0 = false) (hf1 : s.fenced .h1 = false) : s.actSource sub n = .apply (s.put 0x1000 sub n) := by
  have hfenced (h : HalfId) : s.fenced h = false := by cases h <;> assumption
  have hready (b : Nat) : s.sourceReady (bitsOf n b 1) = true := by
    have hbit : bitsOf n b 1 = 0 ∨ bitsOf n b 1 = 1 := by unfold bitsOf; omega
    rcases hbit with e | e <;> rw [e] <;> assumption
  unfold State.actSource
  dsimp only
  rw [if_neg hsub, if_neg (by simp [hfenced]), if_neg (by simp [hready])]

theorem halfSource_takes (hsub : sub = 0x07 ∨ sub = 0x08) (hadm : admits s via 0x1000 sub [v] = true)
    (h0 : s.sourceReady 0 = true) (h1 : s.sourceReady 1 = true) (hf0 : s.fenced .h0 = false)
    (hf1 : s.fenced .h1 = false) : Takes (.clockSourceSelect via sub v) s via 0x1000 sub [v] (fun t =>
      t.val 0x1000 sub = v.toNat ∧ OnlyIn [0x1000] s t ∧ OnlySubs 0x1000 [sub] s t) := by
  have hverdict := (verdict_source (x := Aux.none) hadm).trans (actSource_halves (by omega)
    (arrival_sourceReady.trans h0) (arrival_sourceReady.trans h1) ((arrival_fenced _).trans hf0)
    ((arrival_fenced _).trans hf1))
  exact takes_of rfl hadm hverdict ⟨State.val_put_self v.isLt, arrival_put_onlyIn (by decide),
    onlySubs_put arrival_onlySubs ⟨by omega, List.mem_singleton_self _⟩⟩

/-! ### Block enables (R99) -/

theorem verdict_enable {x : Aux} (hsub : sub ≤ 3) (hadm : admits s via 0x1002 sub [v] = true) :
    verdict s x via 0x1002 sub [v] = (arrival s via 0x1002 sub).actEnable via sub v.toNat := by
  obtain ⟨_, _, _, o, r, ho, hr, rfl, _⟩ := admits_row hadm
  exact (verdict_of ho hr).trans (if_pos ⟨rfl, hsub⟩)

theorem arrival_mayNotStop {i k b : Nat} : (arrival s via i sub).mayNotStop via k b = s.mayNotStop via k b := by
  have hlink {h : HalfId} {n : Nat} : (arrival s via i sub).linkUp h n = s.linkUp h n := by
    unfold State.linkUp State.linkState State.valAt
    rw [arrival_regAt]
  unfold State.mayNotStop
  simp only [hlink]

/-- The blocks that a value written to an enable word disables. -/
def disabledBlocks (old new : Nat) : List Nat := (changedBits old new 0 16).filter (fun b => bitsOf new b 1 == 0)

theorem mem_disabledBlocks {old new b : Nat} :
    b ∈ disabledBlocks old new ↔ b < 16 ∧ bitsOf new b 1 = 0 ∧ bitsOf old b 1 = 1 := by
  have hbit : bitsOf old b 1 = 0 ∨ bitsOf old b 1 = 1 := by unfold bitsOf; omega
  unfold disabledBlocks changedBits
  simp only [List.mem_filter, List.mem_range, Nat.zero_le, decide_true, and_true, bne_iff_ne, beq_iff_eq]
  omega

/-- The enables written, and what they disable stopped. -/
def State.stopBlocks (s : State) (sub n : Nat) : State :=
  (disabledBlocks (s.val 0x1002 sub) n).foldl (fun t b => t.stopBlock sub b) (s.put 0x1002 sub n)

/-- Enables that stop no block in use and no half's that is fenced are taken; a debug port enabled is noted. -/
theorem actEnable_takes {n : Nat} (hf0 : s.fenced .h0 = false) (hf1 : s.fenced .h1 = false)
    (hstop : ∀ b, b < 16 → bitsOf n b 1 = 0 → s.mayNotStop via sub b = false) (hconf : s.anyConfidential = false) :
    ∃ x, s.actEnable via sub n = .apply { (s.stopBlocks sub n).repin s .clkobs with sec := x } := by
  have hfenced (b : Nat) : (match enableHalf sub b with | some h => s.fenced h | none => false) = false := by
    cases enableHalf sub b with
    | none => rfl
    | some h => cases h <;> assumption
  have hfree : ¬(disabledBlocks (s.val 0x1002 sub) n).any (s.mayNotStop via sub) = true := by
    rw [List.any_eq_true]
    rintro ⟨b, hb, hstands⟩
    obtain ⟨hlt, hoff, -⟩ := mem_disabledBlocks.mp hb
    rw [hstop b hlt hoff] at hstands
    cases hstands
  refine ⟨_, (if_neg ?_).trans ((if_neg hfree).trans (if_neg (by simp [hconf])))⟩
  rw [List.any_eq_true]
  rintro ⟨b, -, hb⟩
  exact absurd ((hfenced b).symm.trans hb) (by decide)

/-- Of the enables and ready bits a block that stops writes its own ready bit. -/
theorem stopBlock_readyBit {b : Nat} : SameObject 0x1002 (s.putFlag 0x1002 (sub + 3) b false) (s.stopBlock sub b) := by
  have k : KeptAt (SameObject 0x1002 (s.putFlag 0x1002 (sub + 3) b false)) 0x6003 := sameObject_at (by decide)
  unfold State.stopBlock
  dsimp only
  split
  · exact State.putAt_kept k (SameObject.refl _ _)
  · exact SameObject.refl _ _

/-- A block that is stopped, or was not ready, is not ready once all have stopped. -/
theorem foldl_stopBlock_notReady {j : Nat} : ∀ {l : List Nat} {t : State},
    (j ∈ l ∨ t.flag 0x1002 (sub + 3) j = false) →
      (l.foldl (fun t b => t.stopBlock sub b) t).flag 0x1002 (sub + 3) j = false
  | [], _, h => h.resolve_left List.not_mem_nil
  | b :: r, t, h => by
    refine foldl_stopBlock_notReady (l := r) (t := t.stopBlock sub b) ?_
    rw [stopBlock_readyBit.flag, State.flag_putFlag]
    by_cases hj : j = b
    · simp [hj]
    · exact h.imp (fun hm => (List.mem_cons.mp hm).resolve_left hj) (fun hf => by rw [if_neg hj, hf])

theorem stopBlocks_val {n : Nat} (hn : n < 2 ^ 32) : (s.stopBlocks sub n).val 0x1002 sub = n := by
  refine Kept.foldl (P := fun t => t.val 0x1002 sub = n) (fun t b ht => ?_) (State.val_put_self hn)
  rw [stopBlock_readyBit.val]
  exact (congrArg BitVec.toNat (State.reg_put_ne (by omega))).trans ht

theorem stopBlocks_onlySubs {n : Nat} {t : State} (hsub : sub ≤ 3) (ht : OnlySubs 0x1002 [sub, sub + 3] t s) :
    OnlySubs 0x1002 [sub, sub + 3] t (s.stopBlocks sub n) :=
  Kept.foldl (P := OnlySubs 0x1002 [sub, sub + 3] t)
    (fun _ _ hu => OnlySubs.of_object (onlySubs_put hu ⟨by omega, by simp⟩) stopBlock_readyBit)
    (onlySubs_put ht ⟨by omega, by simp⟩)

theorem stopBlocks_onlyIn {n : Nat} {t : State} (ht : ∀ i, SameObject i t s) :
    OnlyIn [0x1002, 0x6003] t (s.stopBlocks sub n) :=
  onlyIn_of_keptD (by decide) fun i kd =>
    Kept.foldl (fun _ _ hu => State.stopBlock_kept kd hu) (State.put_kept (kd.mem (by decide)) (ht i))

/-- Block enables take what is written, and a block disabled is no longer ready. -/
theorem clockEnable_takes (hsub : sub ≤ 3) (hadm : admits s via 0x1002 sub [v] = true) (hf0 : s.fenced .h0 = false)
    (hf1 : s.fenced .h1 = false) (hstop : ∀ b, b < 16 → bitsOf v.toNat b 1 = 0 → s.mayNotStop via sub b = false)
    (hconf : s.anyConfidential = false) : Takes (.clockEnableWrite via sub v) s via 0x1002 sub [v] (fun t =>
      t.val 0x1002 sub = v.toNat ∧ OnlyIn [0x1002, 0x6003] s t ∧ OnlySubs 0x1002 [sub, sub + 3] s t ∧
      ∀ b, b < 16 → bitsOf v.toNat b 1 = 0 → bitsOf (s.val 0x1002 sub) b 1 = 1 →
        t.flag 0x1002 (sub + 3) b = false) := by
  obtain ⟨x, hact⟩ := actEnable_takes (s := arrival s via 0x1002 sub) (via := via) (sub := sub)
    ((arrival_fenced _).trans hf0) ((arrival_fenced _).trans hf1)
    (fun b hlt hoff => arrival_mayNotStop.trans (hstop b hlt hoff))
    ((congrArg (fun l : List Ctx => l.any (·.confidential)) arrival_ctxs).trans hconf)
  have hshown {i : Nat} {t u : State} : SameObject i t { t.repin u .clkobs with sec := x } :=
    fun _ _ => State.regAt_of_dict State.repin_dict
  refine takes_of rfl hadm ((verdict_enable hsub hadm).trans hact) ⟨?_, fun i hi hne => ?_, ?_, fun b hlt hoff hon => ?_⟩
  · rw [hshown.val, stopBlocks_val v.isLt]
  · exact (stopBlocks_onlyIn (fun _ => arrival_sameObject) i hi hne).trans hshown
  · exact (stopBlocks_onlySubs hsub arrival_onlySubs).of_object hshown
  · rw [hshown.flag]
    refine foldl_stopBlock_notReady (.inl (mem_disabledBlocks.mpr ⟨hlt, hoff, ?_⟩))
    rwa [arrival_sameObject.val]

/-! ### Spread and CLKOBS (R101, R103) -/

theorem row_mem {o : Obj} {r : Row} (h : o.row sub = some r) : r ∈ o.rows := by
  unfold Obj.row at h
  split at h
  · next hfind => exact Option.some.inj h ▸ List.mem_of_find?_eq_some hfind
  · exact List.mem_of_find?_eq_some h

/-- A spread word is stored at once. -/
theorem verdict_spread {x : Aux} (hadm : admits s via 0x1003 sub [v] = true) :
    verdict s x via 0x1003 sub [v] = .apply ((arrival s via 0x1003 sub).put 0x1003 sub v.toNat) := by
  obtain ⟨_, _, _, o, r, ho, hr, rfl, _⟩ := admits_row hadm
  have hobj : findObj 0x1003 = some obj1003 := rfl
  obtain rfl := Option.some.inj (hobj.symm.trans ho)
  obtain ⟨hper, hsingle⟩ : r.per ≠ .p2 ∧ r.single = false :=
    (by decide : ∀ r ∈ obj1003.rows, r.per ≠ .p2 ∧ r.single = false) r (row_mem hr)
  have hput {t : State} : t.putsAt 0 0x1003 r.sub [v] = t.put 0x1003 r.sub v.toNat :=
    congrArg (t.putAt 0 0x1003 r.sub) toWord_of_toNat.symm
  have hunit {t : State} : t.unitOf obj1003 r = 0 := by
    unfold State.unitOf
    rw [hsingle]
    rfl
  rw [verdict_of ho hr, ← hput, hunit]
  exact if_neg hper

theorem spread_takes (hsub : sub ≤ 4) (hadm : admits s via 0x1003 sub [v] = true) :
    Takes (.spreadWrite via sub v) s via 0x1003 sub [v] (fun t =>
      t.val 0x1003 sub = v.toNat ∧ OnlyIn [0x1003] s t ∧ OnlySubs 0x1003 [sub] s t) :=
  takes_of rfl hadm (verdict_spread (x := Aux.none) hadm) ⟨State.val_put_self v.isLt, arrival_put_onlyIn (by decide),
    onlySubs_put arrival_onlySubs ⟨by omega, List.mem_singleton_self _⟩⟩

theorem verdict_clkobs {x : Aux} (hadm : admits s via 0x1004 0x01 [v] = true) :
    verdict s x via 0x1004 0x01 [v] =
      .apply (((arrival s via 0x1004 0x01).put 0x1004 0x01 v.toNat).repin (arrival s via 0x1004 0x01) .clkobs) := by
  obtain ⟨_, _, _, o, r, ho, hr, hsub, _⟩ := admits_row hadm
  rw [verdict_of ho hr]
  unfold State.act
  rw [hsub]
  rfl

theorem clkobs_takes (hadm : admits s via 0x1004 0x01 [v] = true) :
    Takes (.clkobsSelect via v) s via 0x1004 0x01 [v] (fun t =>
      t.val 0x1004 0x01 = v.toNat ∧ OnlyIn [0x1004] s t ∧ OnlySubs 0x1004 [0x01] s t) := by
  refine takes_of rfl hadm (verdict_clkobs (x := Aux.none) hadm) ⟨?_, fun i hi hne => ?_, ?_⟩
  · rw [State.repin_sameObject.val, State.val_put_self v.isLt]
  · exact (arrival_put_onlyIn (by decide) i hi hne).trans State.repin_sameObject
  · exact OnlySubs.of_object (onlySubs_put arrival_onlySubs (by decide)) State.repin_sameObject

/-- Settles O7: the verdict on each clock write, and what it leaves. -/
theorem clockWritesTakeEffect : Obligations.ClockWritesTakeEffect := by
  unfold Obligations.ClockWritesTakeEffect
  intro s via v
  exact ⟨keystoneSource_takes, keystoneSource_refused, fun sub => halfSource_takes,
    fun sub _ hsub => clockEnable_takes hsub, fun sub _ hsub => spread_takes hsub, clkobs_takes⟩

end Sys2Proof.Machine
end

section
/-! PROOF. O6, the sources: what their comings and goings leave (R82, R83, R86), and a start that waited for the crystal
(R494). -/

namespace Sys2Proof.Machine

open Sys2Proof Sys2Proof.Safety

variable {s t : State} {h : HalfId} {i : Nat} {found : Findings}

/-! ### Outputs shown -/

theorem emit_pinDrive {o : Out} {p : Pin} : (s.emit o).pinDrive p = s.pinDrive p := by cases p <;> rfl

theorem repin_pinDrive {old : State} {p q : Pin} : (s.repin old p).pinDrive q = s.pinDrive q := by
  rcases State.repin_cases s old p with e | ⟨o, e⟩ <;> rw [e]
  exact emit_pinDrive

/-- An output is shown where it is driven otherwise than before. -/
theorem repin_out {old : State} {p : Pin} : (s.repin old p).out =
    s.out ++ if (s.repin old p).pinDrive p = old.pinDrive p then [] else [.pin p ((s.repin old p).pinDrive p)] := by
  rw [repin_pinDrive]
  unfold State.repin
  split
  · exact (List.append_nil _).symm
  · exact State.emit_out

/-! ### The oscillator becomes ready (R82) -/

theorem exec_oscReady (hp : s.key.powered = true) :
    exec .oscReady s = .next ((s.putFlag 0x1000 0x02 0 true).repin s .clkobs) := by
  change execOscReady s = _
  exact onPower_on hp

theorem oscReady_ready (hp : s.key.powered = true) : Reaches .oscReady s (fun t =>
    t.flag 0x1000 0x02 0 = true ∧ OnlyIn [0x1000] s t ∧ OnlySubs 0x1000 [0x02] s t ∧
      SameHbm s t ∧ SameCtxs s t ∧ SameKey s t) := by
  have hexec := exec_oscReady hp
  refine ⟨_, hexec, ?_, ?_, ?_, ?_, ?_, ?_⟩
  · rw [State.repin_sameObject.flag, State.flag_putFlag]
    rfl
  · exact onlyIn_of_keptD (by decide) fun i kd =>
      execOscReady_kept (sameObject_kept i s) kd (SameObject.refl i s) _ hexec
  · exact OnlySubs.of_object (onlySubs_put (OnlySubs.refl _ _ s) (by decide)) State.repin_sameObject
  · exact execOscReady_kept (sameHbm_kept s) (sameHbm_keptA s).toD ⟨rfl, rfl⟩ _ hexec
  · exact execOscReady_kept (sameCtxs_kept s) (sameCtxs_keptA s).toD rfl _ hexec
  · exact execOscReady_kept (sameKey_kept s) (sameKey_keptA s).toD rfl _ hexec

/-! ### The crystal becomes ready (R82, R83, R95) -/

/-- The count runs from the crystal, and a holdover has ended. -/
def State.onCrystal (s : State) : State :=
  (((s.putFlag 0x1000 0x01 0 true).put 0x1005 0x03 0).put 0x1000 0x06 0).repin s .clkobs

theorem onCrystal_kept {P : State → Prop} (kk : Kept P) (kd : KeptD P [0x1000, 0x1005]) (hs : P s) : P s.onCrystal :=
  State.repin_kept kk (State.put_kept (kd.mem (by decide)) (State.put_kept (kd.mem (by decide))
    (State.putFlag_kept (kd.mem (by decide)) hs))) hs

theorem onCrystal_words : s.onCrystal.flag 0x1000 0x01 0 = true ∧ s.onCrystal.val 0x1005 0x03 = 0 ∧
    s.onCrystal.val 0x1000 0x06 = 0 := by
  have hready {t : State} : ((t.put 0x1005 0x03 0).put 0x1000 0x06 0).flag 0x1000 0x01 0 = t.flag 0x1000 0x01 0 :=
    (congrArg (bit · 0) (State.reg_put_ne (by decide))).trans ((sameObject_put (by decide)).flag _ _)
  unfold State.onCrystal
  rw [State.repin_sameObject.flag, State.repin_sameObject.val, State.repin_sameObject.val, hready, State.flag_putFlag]
  exact ⟨rfl, ((sameObject_put (by decide)).val _).trans (State.val_put_self (by decide)), State.val_put_self (by decide)⟩

theorem onCrystal_onlySubs : OnlySubs 0x1000 [0x01, 0x06] s s.onCrystal :=
  have hflag : OnlySubs 0x1000 [0x01, 0x06] s (s.putFlag 0x1000 0x01 0 true) :=
    onlySubs_put (OnlySubs.refl _ _ s) (by decide)
  OnlySubs.of_object (onlySubs_put (OnlySubs.of_object hflag (sameObject_put (by decide))) (by decide))
    State.repin_sameObject

theorem exec_crystalReady (hp : s.key.powered = true) (hw : s.key.atS4 = false ∨ s.key.waiting = none) :
    exec .crystalReady s = .next s.onCrystal := by
  have hkey : s.onCrystal.key = s.key := onCrystal_kept (sameKey_kept s) (sameKey_keptA s).toD rfl
  have hnone : (if s.onCrystal.key.atS4 then s.onCrystal.key.waiting else none) = none := by
    rw [hkey]
    rcases hw with e | e <;> simp [e]
  change execCrystalReady s = _
  unfold execCrystalReady
  rw [onPower_on hp]
  dsimp only
  rw [← State.onCrystal, hnone]

/-- A start that waits in S4 goes on (R494). -/
theorem exec_crystalReady_waiting (hp : s.key.powered = true) (hS4 : s.key.atS4 = true)
    (hw : s.key.waiting = some found) :
    exec .crystalReady s = .next (s.onCrystal.awaitCrystal (s.onCrystal.val 0x0100 0x01) found) := by
  have hkey : s.onCrystal.key = s.key := onCrystal_kept (sameKey_kept s) (sameKey_keptA s).toD rfl
  have hsome : (if s.onCrystal.key.atS4 then s.onCrystal.key.waiting else none) = some found := by
    rw [hkey, hS4, if_pos rfl, hw]
  change execCrystalReady s = _
  unfold execCrystalReady
  rw [onPower_on hp]
  dsimp only
  rw [← State.onCrystal, hsome]

theorem crystalReady_ready (hp : s.key.powered = true) (hw : s.key.atS4 = false ∨ s.key.waiting = none) :
    Reaches .crystalReady s (fun t =>
      t.flag 0x1000 0x01 0 = true ∧ t.val 0x1005 0x03 = 0 ∧ t.val 0x1000 0x06 = 0 ∧
      OnlyIn [0x1000, 0x1005] s t ∧ OnlySubs 0x1000 [0x01, 0x06] s t ∧ SameHbm s t ∧ SameCtxs s t ∧ SameKey s t) := by
  obtain ⟨hready, hcount, hholdover⟩ := onCrystal_words (s := s)
  exact ⟨_, exec_crystalReady hp hw, hready, hcount, hholdover,
    onlyIn_of_keptD (by decide) fun i kd => onCrystal_kept (sameObject_kept i s) kd (SameObject.refl i s),
    onCrystal_onlySubs, onCrystal_kept (sameHbm_kept s) (sameHbm_keptA s).toD ⟨rfl, rfl⟩,
    onCrystal_kept (sameCtxs_kept s) (sameCtxs_keptA s).toD rfl, onCrystal_kept (sameKey_kept s) (sameKey_keptA s).toD rfl⟩

/-! ### Of the keystone a failed start writes its window and whether half 0 is late (R24, R496) -/

theorem failSettled_keeps {P : State → Prop} (kk : Kept P) (kv : KeptV P) (ka : KeptA P)
    (hlate : ∀ {t : State}, P t → P { t with key := { t.key with half0Late := true } }) {status : Nat} (ht : P t) :
    P (t.failSettled h status) := by
  unfold State.failSettled
  extract_lets abandoned ended key late dropped
  have hended : P ended := State.endPending_kept kk kv (Kept.foldl (fun _ _ => State.abandonPending_kept ka.toD) ht)
  have hmarked : P late := kept_ite (hlate hended) hended
  have hdropped : P dropped := kept_ite (State.abandonPending_kept ka.toD hmarked) hmarked
  exact kept_ite (State.put_kept (ka.mem _) hdropped) hdropped

theorem failStart_keeps {P : State → Prop} (kk : Kept P) (kh : KeptH P) (kv : KeptV P) (ka : KeptA P)
    (hlate : ∀ {t : State}, P t → P { t with key := { t.key with half0Late := true } })
    (hclaim : ∀ {t : State} {k : HalfId} {e : Nat}, P t → P (t.claim k e)) {phase reason status : Nat} (ht : P t) :
    P (t.failStart h phase reason status) := by
  have hrecord : P ((t.startRecord phase reason status (1 + halfNum h)).bump 0xF000 (0x09 + halfNum h)) :=
    State.bump_kept (ka.mem _) (State.startRecord_kept ka.toD ht)
  have hfenced := State.setFence_kept (h := h) (n := 3) ka.toD (State.railsOff_kept (h := h) (p := .failed) kk kh ka.toD hrecord)
  have hsettled := State.regrant_kept ka.toD (failSettled_keeps (h := h) (status := status) kk kv ka hlate hfenced)
  rw [failStart_eq]
  exact kept_ite (hclaim hsettled) hsettled

/-! ### A start that waited for the crystal goes on (R82, R83, R494) -/

/-- The start waits for no crystal. -/
def NoCrystalWait (t : State) : Prop := t.key.atS4 = false

theorem noCrystalWait_kept : Kept NoCrystalWait where rest h := h
theorem noCrystalWait_keptC : KeptC NoCrystalWait where ctxs h := h
theorem noCrystalWait_keptT : KeptT NoCrystalWait where tiles h := h
theorem noCrystalWait_keptH : KeptH NoCrystalWait where halves h := h
theorem noCrystalWait_keptB : KeptB NoCrystalWait where fabric h := h
theorem noCrystalWait_keptV : KeptV NoCrystalWait where svc h := h
theorem noCrystalWait_keptA : KeptA NoCrystalWait where
  mem _ _ _ _ _ h := by
    unfold NoCrystalWait at *
    rwa [State.putAt_key]

theorem beginHalf_noCrystalWait {byReset : Bool} {seen : List (BitVec 64)} (ht : NoCrystalWait t) :
    NoCrystalWait (t.beginHalf h byReset seen) :=
  beginHalf_keeps noCrystalWait_kept noCrystalWait_keptC noCrystalWait_keptT noCrystalWait_keptH noCrystalWait_keptB
    noCrystalWait_keptA.toD
    (failStart_keeps noCrystalWait_kept noCrystalWait_keptH noCrystalWait_keptV noCrystalWait_keptA id id) ht

/-- Of the clock sources the start of a half writes those of its own domains. -/
theorem beginHalf_sources {byReset : Bool} {seen : List (BitVec 64)} :
    OnlySubs 0x1000 [0x07, 0x08] s (s.beginHalf h byReset seen) := by
  unfold State.beginHalf
  extract_lets old phased sourced locked verified drawn tested
  have hsourced : OnlySubs 0x1000 [0x07, 0x08] s sourced := by
    have hphased : OnlySubs 0x1000 [0x07, 0x08] s (phased.setFence h 3) := SameObject.onlySubs
      (State.setFence_kept (sameObject_keptD s (by decide)) (State.modHalf_kept (sameObject_keptH _ s) (SameObject.refl _ s)))
    exact kept_ite (onlySubs_put (onlySubs_put hphased (by decide)) (by decide)) hphased
  have kk := sameObject_kept 0x1000 sourced
  have kh := sameObject_keptH 0x1000 sourced
  have kd : KeptD (SameObject 0x1000 sourced) [0x0041, 0x0080, 0x1001, 0x1002, 0x1010, 0x1011, 0x1012, 0x1013, 0x1015,
    0x1016, 0x2010, 0x4001, 0x4003, 0x4010, 0x4012, 0x4021, 0x5020, 0x9001, 0xF000, 0xF002, 0xF003] :=
    sameObject_keptD sourced (by decide)
  have hfail {t : State} {phase reason status : Nat} (ht : SameObject 0x1000 sourced t) :
      SameObject 0x1000 sourced (t.failStart h phase reason status) :=
    State.failStart_kept kk (sameObject_keptK _ _) kh (sameObject_keptV _ _) (kd.mono (by decide)) ht
  have hlocked : SameObject 0x1000 sourced locked :=
    (State.throttle_kept (kd.mono (by decide)) (State.halfLocks_kept (kd.mono (by decide)) (SameObject.refl _ _))).trans
      (State.repin_sameObject.trans State.repin_sameObject)
  have hverified : SameObject 0x1000 sourced verified.1 := Kept.foldl1 (fun a b ha => by
    split
    · exact State.verifyComponent_kept (kd.mono (by decide)) ha
    · exact ha) hlocked
  have htested : SameObject 0x1000 sourced tested.1 :=
    State.selfTest_kept kk (sameObject_keptC _ _) (sameObject_keptT _ _) kh (sameObject_keptB _ _) (kd.mono (by decide))
      (State.freeSkip_kept kk (State.modHalf_kept kh hverified))
  exact hsourced.of_object (kept_ite (hfail hverified) (kept_ite (State.regrant_kept (kd.mono (by decide))
    (State.raiseCounts_kept kk (sameObject_keptT _ _) (kd.mono (by decide)) htested)) (hfail htested)))

/-- S5: the halves start, or wait for the supply; the crystal is waited for no more (R40, R494). -/
theorem awaitSupply_goesOn {mv : Nat} : (s.awaitSupply mv found).key.atS4 = false ∧
    (s.awaitSupply mv found).key.waiting = (if 44000 ≤ mv then none else some found) ∧
    OnlySubs 0x1000 [0x07, 0x08] s (s.awaitSupply mv found) := by
  unfold State.awaitSupply
  split
  · refine ⟨beginHalves_keeps (P := NoCrystalWait) beginHalf_noCrystalWait rfl, beginHalves_goesOn.1, ?_⟩
    exact beginHalves_keeps (fun ht => ht.trans beginHalf_sources)
      (SameObject.onlySubs (startingBoth_sameObject (by decide)))
  · exact ⟨rfl, rfl, SameObject.onlySubs fun u sub =>
      (State.regAt_of_dict rfl).trans (sameObject_put (j := 0x0100) (sub := 0x0D) (n := 3) (by decide) u sub)⟩

theorem crystalReady_goesOn (hp : s.key.powered = true) (hS4 : s.key.atS4 = true) (hw : s.key.waiting = some found) :
    Reaches .crystalReady s (fun t =>
      t.flag 0x1000 0x01 0 = true ∧ t.val 0x1005 0x03 = 0 ∧ t.val 0x1000 0x06 = 0 ∧ t.val 0x1000 0x04 = 0 ∧
      t.key.atS4 = false ∧ t.key.waiting = (if 44000 ≤ s.val 0x0100 0x01 then none else some found)) := by
  obtain ⟨hready, hcount, hholdover⟩ := onCrystal_words (s := s)
  have hmv : SameObject 0x0100 s s.onCrystal :=
    sameObject_of_keptD (by decide) fun kd => onCrystal_kept (sameObject_kept _ s) kd (SameObject.refl _ s)
  have hgo : s.onCrystal.awaitCrystal (s.onCrystal.val 0x0100 0x01) found =
      (s.onCrystal.put 0x1000 0x04 0).awaitSupply (s.val 0x0100 0x01) found := by
    rw [hmv.val]
    exact if_pos hready
  have hcounted : SameObject 0x1005 s.onCrystal (s.onCrystal.awaitCrystal (s.onCrystal.val 0x0100 0x01) found) :=
    State.awaitCrystal_kept (sameObject_kept _ _) (sameObject_keptC _ _) (sameObject_keptT _ _) (sameObject_keptK _ _)
      (sameObject_keptH _ _) (sameObject_keptV _ _) (sameObject_keptB _ _) (sameObject_keptD _ (by decide))
      (SameObject.refl _ _)
  refine ⟨_, exec_crystalReady_waiting hp hS4 hw, ?_⟩
  dsimp only
  rw [hcounted.val, hgo]
  obtain ⟨hwait, hwaiting, hsources⟩ :=
    awaitSupply_goesOn (s := s.onCrystal.put 0x1000 0x04 0) (mv := s.val 0x0100 0x01) (found := found)
  refine ⟨?_, hcount, ?_, ?_, hwait, hwaiting⟩
  · rw [hsources.flag (by decide)]
    exact (congrArg (bit · 0) (State.reg_put_ne (by decide))).trans hready
  · rw [hsources.val (by decide)]
    exact (congrArg BitVec.toNat (State.reg_put_ne (by decide))).trans hholdover
  · rw [hsources.val (by decide), State.val_put_self (by decide)]

/-! ### The crystal is lost (R86) -/

/-- Every selectable domain runs on the oscillator, and the loss is counted. -/
def State.onOscillator (s : State) : State :=
  (((((s.putFlag 0x1000 0x01 0 false).put 0x1005 0x03 1).put 0x1000 0x04 1).put 0x1000 0x07 3).put 0x1000 0x08
    3).bump 0x1000 0x05

/-- The record of a loss. -/
def crystalLost : Event := { cls := clsFailure, unit := unitKeystone, obj := counter 0x1000 0x05 }

/-- The loss is logged, and holdover begins. -/
def State.heldOver (s : State) : State := (s.onOscillator.log crystalLost).put 0x1000 0x06 1

theorem exec_crystalLoss (hp : s.key.powered = true) (hready : s.flag 0x1000 0x01 0 = true) :
    exec .crystalLoss s = .next (s.heldOver.repin s .clkobs) :=
  (onPower_on hp).trans (congrArg _ (if_pos hready))

theorem onOscillator_words : s.onOscillator.flag 0x1000 0x01 0 = false ∧ s.onOscillator.val 0x1005 0x03 = 1 ∧
    s.onOscillator.val 0x1000 0x04 = 1 ∧ s.onOscillator.val 0x1000 0x07 = 3 ∧ s.onOscillator.val 0x1000 0x08 = 3 ∧
    s.onOscillator.reg 0x1000 0x05 = s.reg 0x1000 0x05 + 1 := by
  have hready : s.onOscillator.flag 0x1000 0x01 0 = (s.putFlag 0x1000 0x01 0 false).flag 0x1000 0x01 0 := by
    unfold State.onOscillator State.flag State.reg
    simp [State.regAt_bump, State.regAt_put]
  refine ⟨hready.trans State.flag_putFlag, ?_⟩
  unfold State.onOscillator State.val State.valAt State.reg
  simp [State.regAt_bump, State.regAt_put, State.regAt_putFlag]

/-- Logging the loss and beginning the holdover write of the sources the holdover alone. -/
theorem heldOver_onlySubs : OnlySubs 0x1000 [0x06] s.onOscillator s.heldOver :=
  have hlog : SameObject 0x1000 s.onOscillator (s.onOscillator.log crystalLost) :=
    State.log_kept (sameObject_kept _ _) (sameObject_keptD _ (by decide)) (SameObject.refl _ _)
  onlySubs_put hlog.onlySubs (by decide)

theorem heldOver_count : SameObject 0x1005 s.onOscillator s.heldOver :=
  sameObject_of_keptD (W := [0x1000, 0x7040, 0xF030]) (by decide) fun kd => State.put_kept (kd.mem (by decide))
    (State.log_kept (sameObject_kept _ _) (kd.mono (by decide)) (SameObject.refl _ _))

theorem heldOver_out : s.heldOver.out = s.out ++ [.record .f0 (s.onOscillator.recordOf crystalLost)] := by
  have hsources : s.onOscillator.out = s.out := by
    unfold State.onOscillator
    simp
  unfold State.heldOver
  rw [State.put_out, log_out rfl, hsources]

theorem crystalLoss_holdsOver (hp : s.key.powered = true) (hready : s.flag 0x1000 0x01 0 = true) :
    Reaches .crystalLoss s (fun t =>
      t.flag 0x1000 0x01 0 = false ∧ t.val 0x1005 0x03 = 1 ∧ t.val 0x1000 0x04 = 1 ∧ t.val 0x1000 0x07 = 3 ∧
      t.val 0x1000 0x08 = 3 ∧ t.reg 0x1000 0x05 = s.reg 0x1000 0x05 + 1 ∧ t.val 0x1000 0x06 = 1 ∧
      (∃ r, r.cls = clsFailure ∧ t.out = s.out ++ [.record .f0 r] ++
        (if t.pinDrive .clkobs = s.pinDrive .clkobs then [] else [.pin .clkobs (t.pinDrive .clkobs)])) ∧
      OnlyIn [0x1000, 0x1005, 0x7040, 0xF030] s t ∧ SameHbm s t ∧ SameCtxs s t ∧ SameKey s t) := by
  have hexec := exec_crystalLoss hp hready
  have hsources : OnlySubs 0x1000 [0x06] s.onOscillator (s.heldOver.repin s .clkobs) :=
    heldOver_onlySubs.of_object State.repin_sameObject
  obtain ⟨hlost, hcount, hcore, hmanagers, hswizeoth, hlosses⟩ := onOscillator_words (s := s)
  refine ⟨_, hexec, (hsources.flag (by decide)).trans hlost,
    ((heldOver_count.trans State.repin_sameObject).val _).trans hcount, (hsources.val (by decide)).trans hcore,
    (hsources.val (by decide)).trans hmanagers, (hsources.val (by decide)).trans hswizeoth,
    (hsources.reg (by decide)).trans hlosses, ?_, ⟨s.onOscillator.recordOf crystalLost, rfl, ?_⟩, ?_, ?_, ?_, ?_⟩
  · rw [State.repin_sameObject.val]
    exact State.val_put_self (by decide)
  · rw [repin_out, heldOver_out]
  · exact onlyIn_of_keptD (by decide) fun i kd =>
      execCrystalLoss_kept (sameObject_kept i s) kd (SameObject.refl i s) _ hexec
  · exact execCrystalLoss_kept (sameHbm_kept s) (sameHbm_keptA s).toD ⟨rfl, rfl⟩ _ hexec
  · exact execCrystalLoss_kept (sameCtxs_kept s) (sameCtxs_keptA s).toD rfl _ hexec
  · exact execCrystalLoss_kept (sameKey_kept s) (sameKey_keptA s).toD rfl _ hexec

end Sys2Proof.Machine
end

section
/-! PROOF. O6, the end of a holdover: an entry to Retain begins, Retain and Keystone-only stay, and an exit from
Keystone-only goes back (R86, R87). -/

namespace Sys2Proof.Machine

open Sys2Proof Sys2Proof.Safety

variable {s : State} {h k : HalfId} {i : Nat}

/-! ### What every end of a holdover does first -/

/-- The transition that was pending is overtaken, and the holdover has expired. -/
def State.holdoverEnded (s : State) : State := (s.overtake 2).put 0x1000 0x06 2

theorem holdoverEnded_kept {P : State → Prop} (kk : Kept P) (kg : KeptK P) (kv : KeptV P) (kd : KeptD P [0x1000])
    (hs : P s) : P s.holdoverEnded :=
  State.put_kept (kd.mem (by decide)) (State.overtake_kept kk kg kv hs)

theorem holdoverEnded_state : s.holdoverEnded.val 0x1000 0x06 = 2 := State.val_put_self (by decide)

theorem holdoverEnded_trans : s.holdoverEnded.key.trans = none := by
  unfold State.holdoverEnded
  rw [State.put_key, overtake_trans]

theorem holdoverEnded_sameObject (hi : i % 65536 ≠ 0x1000) : SameObject i s s.holdoverEnded :=
  holdoverEnded_kept (sameObject_kept i s) (sameObject_keptK i s) (sameObject_keptV i s)
    (sameObject_keptD s (by simpa using hi)) (SameObject.refl i s)

theorem holdoverEnded_hbm : SameHbm s s.holdoverEnded :=
  holdoverEnded_kept (sameHbm_kept s) (sameHbm_keptK s) (sameHbm_keptV s) (sameHbm_keptA s).toD ⟨rfl, rfl⟩

theorem holdoverEnded_ctxs : SameCtxs s s.holdoverEnded :=
  holdoverEnded_kept (sameCtxs_kept s) (sameCtxs_keptK s) (sameCtxs_keptV s) (sameCtxs_keptA s).toD rfl

/-- What the end of a holdover does to a module that was in, or on its way from, power state `m`. -/
def State.holdoverFrom (s : State) (m : Nat) : State :=
  if m = 3 then (if s.val 0x1010 0x01 = 4 then s.backOff else s)
  else if m = 2 then s.put 0x1010 0x01 m
  else ((s.put 0x1010 0x01 m).startEntry 2).powerHold

theorem exec_holdoverExpire_settled (hp : s.key.powered = true) (hheld : s.val 0x1000 0x06 = 1)
    (hlost : s.flag 0x1000 0x01 0 = false) (htrans : s.key.trans = none) :
    exec .holdoverExpire s = .next (s.holdoverEnded.holdoverFrom (s.val 0x1010 0x01)) := by
  change execHoldoverExpire s = _
  unfold execHoldoverExpire
  rw [onPower_on hp, if_pos ⟨hheld, hlost⟩, htrans]
  rfl

theorem exec_holdoverExpire_moving {x : Transition} (hp : s.key.powered = true) (hheld : s.val 0x1000 0x06 = 1)
    (hlost : s.flag 0x1000 0x01 0 = false) (htrans : s.key.trans = some x) :
    exec .holdoverExpire s = .next (s.holdoverEnded.holdoverFrom x.prev) := by
  change execHoldoverExpire s = _
  unfold execHoldoverExpire
  rw [onPower_on hp, if_pos ⟨hheld, hlost⟩, htrans]
  rfl

/-! ### An entry to Retain begins (R86, R431) -/

/-- The transition that an entry begins. -/
theorem startEntry_begins {target : Nat} : (s.startEntry target).val 0x1010 0x01 = 4 ∧
    ∃ x, (s.startEntry target).key.trans = some x ∧ x.target = target ∧ x.prev = s.val 0x1010 0x01 :=
  ⟨State.val_put_self (by decide), _, congrArg Keystone.trans State.put_key, rfl, rfl⟩

/-- The contexts hold by their own objects. -/
theorem powerHold_sameObject (hi : i < 0x8000) : SameObject i s s.powerHold :=
  State.powerHold_kept (sameObject_kept i s) (sameObject_keptC i s) (sameObject_keptV i s)
    (sameObject_keptN s (.inl hi) (by omega)) (SameObject.refl i s)

theorem powerHold_key : s.powerHold.key = s.key :=
  State.powerHold_kept (sameKey_kept s) (sameKey_keptC s) (sameKey_keptV s) (sameKey_keptA s).toN rfl

theorem startEntry_sourceObject {target : Nat} : SameObject 0x1000 s (s.startEntry target) :=
  sameObject_of_keptD (W := [0x1010]) (by decide) fun kd =>
    State.startEntry_kept (sameObject_kept _ s) (sameObject_keptK _ s) kd (SameObject.refl _ s)

/-- An entry to Retain leaves the memories. -/
theorem retainEntry_hbm {m : Nat} : SameHbm s (((s.holdoverEnded.put 0x1010 0x01 m).startEntry 2).powerHold) :=
  have ka := sameHbm_keptA s
  State.powerHold_kept (sameHbm_kept s) (sameHbm_keptC s) (sameHbm_keptV s) ka.toN
    (State.startEntry_kept (sameHbm_kept s) (sameHbm_keptK s) ka.toD (State.put_kept (ka.mem _) holdoverEnded_hbm))

theorem holdoverExpire_entersRetain (hp : s.key.powered = true) (hheld : s.val 0x1000 0x06 = 1)
    (hlost : s.flag 0x1000 0x01 0 = false) (htrans : s.key.trans = none) (hm : s.val 0x1010 0x01 ≤ 1) :
    Reaches .holdoverExpire s (fun t => t.val 0x1000 0x06 = 2 ∧ t.val 0x1010 0x01 = 4 ∧
      (∃ x, t.key.trans = some x ∧ x.target = 2 ∧ x.prev = s.val 0x1010 0x01) ∧ SameHbm s t) := by
  have hexec := exec_holdoverExpire_settled hp hheld hlost htrans
  have hentry : s.holdoverEnded.holdoverFrom (s.val 0x1010 0x01) =
      ((s.holdoverEnded.put 0x1010 0x01 (s.val 0x1010 0x01)).startEntry 2).powerHold := by
    unfold State.holdoverFrom
    rw [if_neg (by omega), if_neg (by omega)]
  obtain ⟨hstate, x, hx, htarget, hprev⟩ :=
    startEntry_begins (s := s.holdoverEnded.put 0x1010 0x01 (s.val 0x1010 0x01)) (target := 2)
  refine ⟨_, hexec, ?_, ?_, ⟨x, ?_, htarget, ?_⟩, ?_⟩
  · rw [hentry, (powerHold_sameObject (by decide)).val, startEntry_sourceObject.val, (sameObject_put (by decide)).val,
      holdoverEnded_state]
  · rw [hentry, (powerHold_sameObject (by decide)).val, hstate]
  · rw [hentry, powerHold_key, hx]
  · rw [hprev, State.val_put_self (n := s.val 0x1010 0x01) (BitVec.isLt _)]
  · rw [hentry]
    exact retainEntry_hbm

/-! ### Retain and Keystone-only stay (R87) -/

theorem holdoverFrom_stays (hm : s.val 0x1010 0x01 = 2 ∨ s.val 0x1010 0x01 = 3) :
    s.holdoverFrom (s.val 0x1010 0x01) = s ∨ s.holdoverFrom (s.val 0x1010 0x01) = s.put 0x1010 0x01 (s.val 0x1010 0x01) := by
  unfold State.holdoverFrom
  rcases hm with e | e <;> rw [e]
  · exact .inr rfl
  · exact .inl rfl

theorem holdoverExpire_stays (hp : s.key.powered = true) (hheld : s.val 0x1000 0x06 = 1)
    (hlost : s.flag 0x1000 0x01 0 = false) (htrans : s.key.trans = none)
    (hm : s.val 0x1010 0x01 = 2 ∨ s.val 0x1010 0x01 = 3) :
    Reaches .holdoverExpire s (fun t => t.val 0x1000 0x06 = 2 ∧ t.val 0x1010 0x01 = s.val 0x1010 0x01 ∧
      t.key.trans = none ∧ SameHbm s t ∧ SameCtxs s t) := by
  have hstate : s.holdoverEnded.val 0x1010 0x01 = s.val 0x1010 0x01 := (holdoverEnded_sameObject (by decide)).val _
  refine ⟨_, exec_holdoverExpire_settled hp hheld hlost htrans, ?_⟩
  rw [← hstate] at hm ⊢
  rcases holdoverFrom_stays hm with e | e <;> rw [e]
  · exact ⟨holdoverEnded_state, rfl, holdoverEnded_trans, holdoverEnded_hbm, holdoverEnded_ctxs⟩
  · refine ⟨?_, State.val_put_self (BitVec.isLt _), ?_, ?_, State.put_ctxs.trans holdoverEnded_ctxs⟩
    · rw [(sameObject_put (by decide)).val, holdoverEnded_state]
    · rw [State.put_key, holdoverEnded_trans]
    · exact State.put_kept (KeptA.mem (sameHbm_keptA s) _) holdoverEnded_hbm

/-! ### An exit from Keystone-only goes back (R87) -/

/-- A half that is not fenced and that the exit has powered goes off again. -/
def State.offAgain (s : State) (h : HalfId) : State :=
  if ((s.half h).phase == .starting || s.runs h) && !s.fenced h then s.halfToKeystoneOnly h else s

/-- The start that the exit began is given up. -/
def State.startGivenUp (s : State) : State :=
  { s with key := { s.key with starting := false, waiting := none, atS4 := false } }

theorem backOff_eq : s.backOff = ((s.offAgain .h0).offAgain .h1).startGivenUp.keystoneOnly := rfl

theorem offAgain_railsOn_self (hf : s.fenced h = false) : (s.offAgain h).railsOn h = false := by
  unfold State.offAgain
  split
  · rw [halfToKeystoneOnly_railsOn, if_pos rfl]
  · next hoff =>
    unfold State.railsOn
    rw [hf, Bool.not_false, Bool.and_true, Bool.or_comm] at hoff
    exact Bool.eq_false_iff.mpr hoff

theorem offAgain_railsOn (hoff : s.railsOn k = false) : (s.offAgain h).railsOn k = false := by
  unfold State.offAgain
  split
  · rw [halfToKeystoneOnly_railsOn, hoff, ite_self]
  · exact hoff

/-- The other half's fence state stays. -/
theorem halfToKeystoneOnly_fence (hk : k ≠ h) : (s.halfToKeystoneOnly h).fence k = s.fence k := by
  have hne : (0x01 + halfNum h) % 256 ≠ (0x01 + halfNum k) % 256 := by
    revert hk
    cases h <;> cases k <;> decide
  have hword {t : State} {n : Nat} : (t.setFence h n).fence k = t.fence k :=
    congrArg BitVec.toNat (State.reg_put_ne hne)
  have hflushed : SameObject 0x0041 s ((s.endPending 0xF010 0x01 (halfNum h) 0x3001).flushCache h) :=
    halfFlushed_kept (sameObject_kept _ s) (sameObject_keptV _ s) (sameObject_keptD s (by decide)) (SameObject.refl _ s)
  have hoff {t : State} {p : HalfPhase} : SameObject 0x0041 t (t.railsOff h p) :=
    State.railsOff_kept (sameObject_kept _ t) (sameObject_keptH _ t) (sameObject_keptD t (by decide)) (SameObject.refl _ t)
  unfold State.halfToKeystoneOnly
  rw [hword, hoff.fence, (loseHalf_sameObject (by decide) (by decide)).fence, hflushed.fence]

theorem offAgain_fenced (hk : k ≠ h) : (s.offAgain h).fenced k = s.fenced k := by
  unfold State.offAgain
  split
  · unfold State.fenced
    rw [halfToKeystoneOnly_fence hk]
  · rfl

theorem offAgain_key : (s.offAgain h).key = s.key :=
  kept_ite (P := SameKey s) (State.halfToKeystoneOnly_kept (sameKey_kept s) (sameKey_keptM s) (sameKey_keptC s)
    (sameKey_keptT s) (sameKey_keptS s) (sameKey_keptH s) (sameKey_keptV s) (sameKey_keptL s) (sameKey_keptA s).toD
    (sameKey_keptQ s) rfl) rfl

theorem offAgain_sourceObject : SameObject 0x1000 s (s.offAgain h) :=
  kept_ite (halfToKeystoneOnly_sameObject (by decide) (by decide)) (SameObject.refl _ s)

/-- What the keystone keeps in Keystone-only: all but the host's held writes, which are refused. -/
theorem keystoneOnly_key : s.keystoneOnly.key = { s.key with hostHeld := [] } := by
  have hrefused {t : State} : t.refuseHeld.key = { t.key with hostHeld := [] } := by
    have hkey : SameKey t (t.key.hostHeld.foldl (fun t w => t.refuseWrite w 0x3002) t) :=
      Kept.foldl (fun _ _ => State.refuseWrite_kept (sameKey_kept t) (sameKey_keptA t).toD) rfl
    exact congrArg (fun x : Keystone => { x with hostHeld := [] }) hkey
  unfold State.keystoneOnly
  dsimp only
  rw [State.regrant_key, State.bump_key, State.put_key, hrefused, State.setHolder_key]

theorem backOff_goesBack : s.backOff.val 0x1000 0x06 = s.val 0x1000 0x06 ∧ s.backOff.val 0x1010 0x01 = 3 ∧
    s.backOff.key.trans = s.key.trans ∧ s.backOff.key.starting = false ∧ s.backOff.key.waiting = none ∧
    ∀ h, s.fenced h = false → s.backOff.railsOn h = false := by
  have hgiven {t : State} : SameObject 0x1000 t t.startGivenUp := fun _ _ => State.regAt_of_dict rfl
  have hsources : SameObject 0x1000 s s.backOff := by
    rw [backOff_eq]
    exact (offAgain_sourceObject.trans offAgain_sourceObject).trans (hgiven.trans (keystoneOnly_sameObject (by decide)))
  have hrails (h : HalfId) : s.backOff.railsOn h = ((s.offAgain .h0).offAgain .h1).railsOn h := by
    unfold State.railsOn
    rw [backOff_eq, keystoneOnly_halves.half]
    rfl
  have htrans : ((s.offAgain .h0).offAgain .h1).key.trans = s.key.trans := by rw [offAgain_key, offAgain_key]
  refine ⟨hsources.val _, keystoneOnly_state, ?_, ?_, ?_, fun h hf => ?_⟩
  · rw [backOff_eq, keystoneOnly_key]
    exact htrans
  · rw [backOff_eq, keystoneOnly_key]
    rfl
  · rw [backOff_eq, keystoneOnly_key]
    rfl
  · rw [hrails]
    cases h with
    | h0 => exact offAgain_railsOn (offAgain_railsOn_self hf)
    | h1 => exact offAgain_railsOn_self ((offAgain_fenced (by decide)).trans hf)

theorem holdoverExpire_goesBack {x : Transition} (hp : s.key.powered = true) (hheld : s.val 0x1000 0x06 = 1)
    (hlost : s.flag 0x1000 0x01 0 = false) (htrans : s.key.trans = some x) (hprev : x.prev = 3)
    (hmoving : s.val 0x1010 0x01 = 4) :
    Reaches .holdoverExpire s (fun t => t.val 0x1000 0x06 = 2 ∧ t.val 0x1010 0x01 = 3 ∧
      t.key.trans = none ∧ t.key.starting = false ∧ t.key.waiting = none ∧
      ∀ h, s.fenced h = false → t.railsOn h = false) := by
  have hback : s.holdoverEnded.holdoverFrom x.prev = s.holdoverEnded.backOff := by
    unfold State.holdoverFrom
    rw [if_pos hprev, (holdoverEnded_sameObject (by decide)).val, if_pos hmoving]
  obtain ⟨hsources, hstate, hkept, hstarting, hwaiting, hrails⟩ := backOff_goesBack (s := s.holdoverEnded)
  refine ⟨_, exec_holdoverExpire_moving hp hheld hlost htrans, ?_⟩
  rw [hback]
  exact ⟨hsources.trans holdoverEnded_state, hstate, hkept.trans holdoverEnded_trans, hstarting, hwaiting,
    fun h hf => hrails h (((holdoverEnded_sameObject (by decide)).fenced h).trans hf)⟩

end Sys2Proof.Machine
end

section
/-! PROOF. O6, the monitors and the blocks: a course's measurement is shown and a block becomes ready (R92, R99, R365,
R523), and the obligation. -/

namespace Sys2Proof.Machine

open Sys2Proof Sys2Proof.Safety

variable {s : State} {h : HalfId} {course factor mv sub b : Nat} {celsius : Int}

/-! ### Pace monitors (R92, R523) -/

/-- A course's measured factor, voltage and junction are shown. -/
def State.courseShown (s : State) (h : HalfId) (course factor mv : Nat) (celsius : Int) : State :=
  ((s.putAt (courseUnit h course) 0x1006 0x02 (toWord factor)).putAt (courseUnit h course) 0x1006 0x03
    (toWord mv)).putAt (courseUnit h course) 0x1006 0x04 (BitVec.ofInt 32 celsius)

theorem exec_paceMonitorRefresh (hp : s.key.powered = true) (hc : course ≤ 0x20) (hr : s.railsOn h = true) :
    exec (.paceMonitorRefresh h course factor mv celsius) s = .next ((s.courseShown h course factor mv celsius).noteJunction
      h ((s.courseShown h course factor mv celsius).hottestCourse h)) :=
  (onPower_on hp).trans (congrArg _ (if_pos ⟨hc, hr⟩))

theorem courseShown_words :
    (s.courseShown h course factor mv celsius).regAt (courseUnit h course) 0x1006 0x02 = toWord factor ∧
    (s.courseShown h course factor mv celsius).regAt (courseUnit h course) 0x1006 0x03 = toWord mv ∧
    (s.courseShown h course factor mv celsius).regAt (courseUnit h course) 0x1006 0x04 = BitVec.ofInt 32 celsius := by
  unfold State.courseShown
  simp [State.regAt_putAt]

theorem paceMonitorRefresh_shows (hp : s.key.powered = true) (hc : course ≤ 0x20) (hr : s.railsOn h = true) :
    Reaches (.paceMonitorRefresh h course factor mv celsius) s (fun t =>
      t.regAt (courseUnit h course) 0x1006 0x02 = toWord factor ∧ t.regAt (courseUnit h course) 0x1006 0x03 = toWord mv ∧
      t.regAt (courseUnit h course) 0x1006 0x04 = BitVec.ofInt 32 celsius ∧ OnlyIn [0x1006, 0x1014] s t ∧
      OnlyUnit 0x1006 (courseUnit h course) s t) := by
  have hexec := exec_paceMonitorRefresh (factor := factor) (mv := mv) (celsius := celsius) hp hc hr
  have hjunction {t : State} {c : Int} : SameObject 0x1006 t (t.noteJunction h c) :=
    State.noteJunction_kept (sameObject_keptD t (by decide)) (SameObject.refl _ t)
  obtain ⟨hfactor, hmv, hcelsius⟩ :=
    courseShown_words (s := s) (h := h) (course := course) (factor := factor) (mv := mv) (celsius := celsius)
  refine ⟨_, hexec, (hjunction _ _).trans hfactor, (hjunction _ _).trans hmv, (hjunction _ _).trans hcelsius, ?_, ?_⟩
  · exact onlyIn_of_keptD (by decide) fun i kd => execPaceMonitorRefresh_kept kd (SameObject.refl i s) _ hexec
  · exact OnlyUnit.of_object (OnlyUnit.putAt (OnlyUnit.putAt (OnlyUnit.putAt fun _ _ _ => rfl))) hjunction

/-! ### Blocks (R99, R365) -/

/-- A block that may be ready has a bit of a ready word. -/
theorem mayBeReady_range (hmay : s.mayBeReady sub b = true) : sub < 256 ∧ b < 32 := by
  unfold State.mayBeReady at hmay
  split at hmay
  all_goals simp only [Bool.and_eq_true, decide_eq_true_eq, Bool.false_eq_true] at hmay
  all_goals omega

/-- The ready bit is set, and a spoke begins to train; CLKOBS is shown, and the I3C secondary may ask to join. -/
theorem exec_blockReady (hp : s.key.powered = true) (hmay : s.mayBeReady sub b = true)
    (hnot : s.flag 0x1002 sub b = false) : ∃ t, exec (.blockReady sub b) s = .next t ∧
      SameObject 0x1002 (s.putFlag 0x1002 sub b true) t ∧
      ∀ u, spokeOfBlock sub b = some u → t = (s.putFlag 0x1002 sub b true).putAt u 0x6003 0x02 1 := by
  change ∃ t, execBlockReady sub b s = .next t ∧ _
  unfold execBlockReady
  rw [onPower_on hp, if_pos (by simp [hmay, hnot])]
  refine ⟨_, rfl, ?_⟩
  cases spokeOfBlock sub b with
  | some u =>
    refine ⟨State.putAt_kept (sameObject_at (by decide)) (SameObject.refl _ _), fun u' hu => ?_⟩
    rw [Option.some.inj hu]
  | none =>
    exact ⟨kept_ite (State.hotJoin_kept (sameObject_kept _ _) (SameObject.refl _ _)) State.repin_sameObject, by nofun⟩

theorem blockReady_ready (hp : s.key.powered = true) (hmay : s.mayBeReady sub b = true)
    (hnot : s.flag 0x1002 sub b = false) : Reaches (.blockReady sub b) s (fun t =>
      t.flag 0x1002 sub b = true ∧ OnlyIn [0x1002, 0x6003] s t ∧ OnlySubs 0x1002 [sub] s t ∧
      (∀ u, spokeOfBlock sub b = some u → t.valAt u 0x6003 0x02 = 1 ∧ OnlyUnit 0x6003 u s t) ∧
      SameHbm s t ∧ SameCtxs s t) := by
  obtain ⟨hsub, hbit⟩ := mayBeReady_range hmay
  obtain ⟨t, hexec, hready, hspoke⟩ := exec_blockReady hp hmay hnot
  refine ⟨t, hexec, ?_, ?_, ?_, fun u hu => ?_, ?_, ?_⟩
  · rw [hready.flag, State.flag_putFlag, if_pos rfl, decide_eq_true hbit, Bool.and_self]
  · exact onlyIn_of_keptD (by decide) fun i kd =>
      execBlockReady_kept (sameObject_kept i s) kd (SameObject.refl i s) _ hexec
  · exact OnlySubs.of_object (onlySubs_put (OnlySubs.refl _ _ s) ⟨hsub, List.mem_singleton_self _⟩) hready
  · have hflag : SameObject 0x6003 s (s.putFlag 0x1002 sub b true) :=
      State.putFlag_kept (sameObject_at (by decide)) (SameObject.refl _ s)
    rw [hspoke u hu]
    exact ⟨congrArg BitVec.toNat State.regAt_putAt_self, OnlyUnit.putAt fun u' sub' _ => hflag u' sub'⟩
  · exact execBlockReady_kept (sameHbm_kept s) (sameHbm_keptA s).toD ⟨rfl, rfl⟩ _ hexec
  · exact execBlockReady_kept (sameCtxs_kept s) (sameCtxs_keptA s).toD rfl _ hexec

theorem exec_blockReady_stays (hp : s.key.powered = true)
    (hnot : s.mayBeReady sub b = false ∨ s.flag 0x1002 sub b = true) : exec (.blockReady sub b) s = .next s := by
  change execBlockReady sub b s = _
  unfold execBlockReady
  rw [onPower_on hp, if_neg (by rcases hnot with e | e <;> simp [e])]

/-- Settles O6: each event of the sources by the words it writes, the end of a holdover by the state it finds, then the
monitors and the blocks. -/
theorem clockEvents : Obligations.ClockEvents := by
  unfold Obligations.ClockEvents
  refine ⟨fun s hp => ⟨oscReady_ready hp, crystalReady_ready hp, fun found => crystalReady_goesOn hp,
    crystalLoss_holdsOver hp, holdoverExpire_entersRetain hp, holdoverExpire_stays hp,
    fun x => holdoverExpire_goesBack hp⟩, ?_, fun s sub b hp => ⟨blockReady_ready hp, fun hnot =>
      ⟨_, exec_blockReady_stays hp hnot, rfl⟩⟩⟩
  exact fun s h course factor mv celsius => paceMonitorRefresh_shows

end Sys2Proof.Machine
end

section
/-! PROOF. O55: the dictionary objects that a command leaves alone (R108). -/

namespace Sys2Proof.Machine

open Sys2Proof Sys2Proof.Safety

/-- The objects that a command may change have indices of 16 bits (R108). -/
theorem objects_lt {c : Instr} {l : List Nat} (hl : objects c = some l) : ∀ j ∈ l, j < 65536 := by
  cases c <;> cases hl <;> decide

/-- A command that names its objects keeps what updates beside the dictionary keep, as long as words of those objects
may be written, and words of context objects where they are the command's to change. -/
theorem exec_kept_objects {P : State → Prop} (kk : Kept P) (km : KeptM P) (kc : KeptC P) (kt : KeptT P) (ks : KeptS P)
    (kg : KeptK P) (kh : KeptH P) (kv : KeptV P) (ku : KeptU P) (kb : KeptB P) (kl : KeptL P) {c : Instr}
    {l : List Nat} (hl : objects c = some l) (kd : KeptD P l) (kn : (parts c).contains .ctxObjects = true → KeptN P)
    {s : State} (hs : P s) : KeptR P (exec c s) := by
  cases c with cases hl
  | startComplete => exact execStartComplete_kept kk ks kg kh kv kd hs
  | startFail => exact execStartFail_kept kk kg kh kv kd hs
  | startTimeout => exact execStartTimeout_kept kk kg kh kv kd hs
  | crystalStartTimeout => exact execCrystalStartTimeout_kept kk kg kh kd hs
  | leadStartTimeout => exact execLeadStartTimeout_kept kk kg hs
  | supplyRecover => exact execSupplyRecover_kept kk kc kt kg kh kv kb kd hs
  | supplyUndervoltageAlert => exact execSupplyUndervoltageAlert_kept kk ku kd hs
  | supplyUndervoltageClear => exact execSupplyUndervoltageClear_kept kk ku kd hs
  | supplyOvervoltageAlert => exact execSupplyOvervoltageAlert_kept kk ku kd hs
  | supplyOvervoltageClear => exact execSupplyOvervoltageClear_kept kk ku kd hs
  | contactGroupClear => exact execContactGroupClear_kept kd hs
  | pwrbrkAssert => exact execPwrbrkAssert_kept kk ku kd hs
  | pwrbrkRelease => exact execPwrbrkRelease_kept kk ku kd hs
  | thermNAssert => exact execThermNAssert_kept kk kd hs
  | thermNRelease => exact execThermNRelease_kept kk kd hs
  | sidebandShortDetect => exact execSidebandShortDetect_kept kd hs
  | sidebandFaultClear => exact execSidebandFaultClear_kept kk kd hs
  | pullupCheck => exact execPullupCheck_kept kd hs
  | bridgeLoss => exact execBridgeLoss_kept kk kc kg kh kv kd (kn rfl) hs
  | fenceDrawConfirm => exact execFenceDrawConfirm_kept kh kd hs
  | fencePowerRemove => exact execFencePowerRemove_kept kk kh kd hs
  | claim => exact execClaim_kept kk kg hs
  | read => exact execRead_kept kk kh kv kd hs
  | describe => exact execDescribe_kept kk kh kd hs
  | readSeg => exact execReadSeg_kept kk kh kv kd hs
  | ticket => exact execTicket_kept kk kh kv kd hs
  | nextObj => exact execNextObj_kept kk kh kd hs
  | bar2Read => exact execBar2Read_kept kk kh kv kd hs
  | bar2ReadTimeout => exact execBar2ReadTimeout_kept kk kh kv kd hs
  | ticketResultRead => exact execTicketResultRead_kept kk kh kv kd hs
  | domainWriteTimeout => exact execDomainWriteTimeout_kept kk kv hs
  | ticketExpire => exact execTicketExpire_kept kk kv hs
  | setEndpointId => exact execSetEndpointId_kept kk kv hs
  | getEndpointId => exact execGetEndpointId_kept kk hs
  | getMctpVersionSupport => exact execGetMctpVersionSupport_kept kk hs
  | getMessageTypeSupport => exact execGetMessageTypeSupport_kept kk hs
  | getVendorDefinedMessageSupport => exact execGetVendorDefinedMessageSupport_kept kk hs
  | entdaa => exact execEntdaa_kept kk kv hs
  | vectorSignal => exact execVectorSignal_kept kk hs
  | cxlMemRead => exact execCxlMemRead_kept kk kg kd (kn rfl) hs
  | cxlMemWrite => exact execCxlMemWrite_kept kk km kg kd (kn rfl) hs
  | birsp => exact execBirsp_kept kk km kc kv kd (kn rfl) hs
  | bisnpTimeout => exact execBisnpTimeout_kept kk kd hs
  | bisnpFault => exact execBisnpFault_kept kk kc kv kd (kn rfl) hs
  | hostSnoop => exact execHostSnoop_kept kk hs
  | hdmDecoderCommit => exact execHdmDecoderCommit_kept kk hs
  | ideKeyProgram => exact execIdeKeyProgram_kept kk hs
  | ideKeyRefresh => exact execIdeKeyRefresh_kept kk kd hs
  | ideIntegrityFailure => exact execIdeIntegrityFailure_kept kk kc kv kd (kn rfl) hs
  | tspError => exact execTspError_kept kk kc kv (kn rfl) hs
  | shadowRead => exact execShadowRead_kept kk hs
  | shadowWrite o w v => exact execShadowWrite_kept (_offset := o) (_width := w) (_value := v) kd hs
  | shadowUpdate => exact execShadowUpdate_kept kk hs
  | oscReady => exact execOscReady_kept kk kd hs
  | crystalReady => exact execCrystalReady_kept kk kc kt kg kh kv kb kd hs
  | crystalLoss => exact execCrystalLoss_kept kk kd hs
  | paceMonitorRefresh => exact execPaceMonitorRefresh_kept kd hs
  | paceShortfall => exact execPaceShortfall_kept kk kd hs
  | blockReady => exact execBlockReady_kept kk kd hs
  | placementComplete => exact execPlacementComplete_kept kk km kc kt kv kb kd (kn rfl) hs
  | claimComplete => exact execClaimComplete_kept kk km kv (kn rfl) hs
  | strandIssue => exact execStrandIssue_kept kk kc kt kd hs
  | strandEnd => exact execStrandEnd_kept kk km kc kt kh kv kb kd (kn rfl) hs
  | producerUpdate => exact execProducerUpdate_kept kk km kc kv kd (kn rfl) hs
  | streamWaitTimeout => exact execStreamWaitTimeout_kept kk (kn rfl) hs
  | inputVectorArrive => exact execInputVectorArrive_kept kk kt kd hs
  | forwardProduct => exact execForwardProduct_kept kk kc kt kd hs
  | checksumRepeat => exact execChecksumRepeat_kept kk kc kt kd hs
  | partialArrive => exact execPartialArrive_kept kk kc kt kd hs
  | outputDrain => exact execOutputDrain_kept kk kc kt kd hs
  | coefficientSwitch => exact execCoefficientSwitch_kept kk kt kd hs
  | calibrationProduct => exact execCalibrationProduct_kept kk kt hs
  | rowWriteVerify => exact execRowWriteVerify_kept kk kc kt kb kd hs
  | calRunComplete => exact execCalRunComplete_kept kk kc kt kh kv kb kd hs
  | columnSwap => exact execColumnSwap_kept kk kc kt kb kd hs
  | zeroResultExpire => exact execZeroResultExpire_kept kh kd hs
  | probe => exact execProbe_kept kd hs
  | driftMonitor => exact execDriftMonitor_kept kd hs
  | calEscalate => exact execCalEscalate_kept kk kt kb kd hs
  | refreshAge => exact execRefreshAge_kept kk kc kt kb kd hs
  | bucketSend => exact execBucketSend_kept kk km kc kd hs
  | tensorSend => exact execTensorSend_kept kk kc kd hs
  | sealSend => exact execSealSend_kept kk km kc kt kh kv kb kd (kn rfl) hs
  | frameRoute => exact execFrameRoute_kept kk kl kd hs
  | gapTimeout => exact execGapTimeout_kept kk kd hs
  | linkAck => exact execLinkAck_kept kk kl hs
  | linkNak => exact execLinkNak_kept kk kd hs
  | linkCredit => exact execLinkCredit_kept kk kl hs
  | contributionReceive => exact execContributionReceive_kept kk kc kd hs
  | tensorReceive => exact execTensorReceive_kept kk km kc kt kd hs
  | retractReceive => exact execRetractReceive_kept kk km kc kt kd hs
  | sealReceive => exact execSealReceive_kept kk kc kh kd hs
  | sealRefusalReceive => exact execSealRefusalReceive_kept kk kc kd hs
  | gatherReceive => exact execGatherReceive_kept kk kc kh kd hs
  | normPartialReceive => exact execNormPartialReceive_kept kk kc kd hs
  | normPartialSend => exact execNormPartialSend_kept kk kc kd hs
  | sealTimeout => exact execSealTimeout_kept kk kd hs
  | spokeTrain => exact execSpokeTrain_kept kk kl kd hs
  | spokeTrainRetry => exact execSpokeTrainRetry_kept kk kl kd hs
  | spokeRetrain => exact execSpokeRetrain_kept kk kl kd hs
  | updateStart => exact execUpdateStart_kept kk kc kh kd hs
  | updateComplete => exact execUpdateComplete_kept kk km kc kt kh kd hs
  | transferPassStart => exact execTransferPassStart_kept kk kt kd hs
  | transferRowComplete => exact execTransferRowComplete_kept kk kc kt kb kd hs
  | governorEvaluate => exact execGovernorEvaluate_kept kk kt kd hs
  | riskEvaluate => exact execRiskEvaluate_kept kk kc kh kd hs
  | draftFrameReceive => exact execDraftFrameReceive_kept kk kc kd hs
  | restoreApply => exact execRestoreApply_kept kk km kc kt kv kb kd (kn rfl) hs
  | restoreTimeout => exact execRestoreTimeout_kept kk kc kv kd hs
  | unitSuspect => exact execUnitSuspect_kept kk kc kv kd (kn rfl) hs
  | suspectReplace => exact execSuspectReplace_kept kk km kc kt kb kd hs
  | spareCourseHandover => exact execSpareCourseHandover_kept kk km kc kt kb kd hs
  | quiescence => exact execQuiescence_kept kk kt kg hs
  | wake => exact execWake_kept kk kg kd hs
  | powerGovern => exact execPowerGovern_kept kh kd hs
  | powerFastClamp => exact execPowerFastClamp_kept kh kd hs
  | droopDetect => exact execDroopDetect_kept kh kd hs
  | droopRecover => exact execDroopRecover_kept kh kd hs
  | thermalThrottle => exact execThermalThrottle_kept kh kd hs
  | thermalRecover => exact execThermalRecover_kept kh kd hs
  | thermalCrawl => exact execThermalCrawl_kept kh kd hs
  | thermalCrawlEnd => exact execThermalCrawlEnd_kept kh kd hs
  | energyReconcile => exact execEnergyReconcile_kept kk kc kd (kn rfl) hs
  | entropyFailure => exact execEntropyFailure_kept kk ks kd hs
  | treeBuild => exact execTreeBuild_kept kk ks hs
  | challenge => exact execChallenge_kept kk ks kd hs
  | getMeasurements => exact execGetMeasurements_kept kk ks kd hs
  | getCertificate => exact execGetCertificate_kept kk hs
  | keyExchange => exact execKeyExchange_kept kk ks kd hs
  | keyUpdate => exact execKeyUpdate_kept kk ks hs
  | spdmHeartbeat => exact execSpdmHeartbeat_kept kk hs
  | sessionHeartbeatTimeout => exact execSessionHeartbeatTimeout_kept kk kc ks kv (kn rfl) hs
  | sessionEnd => exact execSessionEnd_kept kk kc ks kv (kn rfl) hs
  | previousKeyDestroy => exact execPreviousKeyDestroy_kept kk ks kd hs
  | plumbDue => exact execPlumbDue_kept kk kt kd hs
  | plumbCheck => exact execPlumbCheck_kept kk kc kt kb kd hs
  | plumbRelocate => exact execPlumbRelocate_kept kk kt kb kd hs
  | memoryError => exact execMemoryError_kept kk kc kv kd (kn rfl) hs
  | tspRequest => exact execTspRequest_kept kk ks hs

/-- Settles O55: a word of an object that is not the command's to change is one that it may not write, and neither is
one of a context object where those are not the command's. -/
theorem otherObjectsAreLeftAlone : Obligations.OtherObjectsAreLeftAlone := by
  unfold Obligations.OtherObjectsAreLeftAlone
  intro c s t l hexec hl i hi hne hctx
  have kd : KeptD (SameObject i s) l := sameObject_keptD s fun j hj => by
    have hlt := objects_lt hl j hj
    have : i ≠ j := fun e => hne (e ▸ hj)
    omega
  have kn (h : (parts c).contains .ctxObjects = true) : KeptN (SameObject i s) :=
    sameObject_keptN s ((or_assoc.mpr hctx).resolve_right (not_not.mpr (by simpa using h))) hi
  exact exec_kept_objects (sameObject_kept i s) (sameObject_keptM i s) (sameObject_keptC i s) (sameObject_keptT i s)
    (sameObject_keptS i s) (sameObject_keptK i s) (sameObject_keptH i s) (sameObject_keptV i s) (sameObject_keptU i s)
    (sameObject_keptB i s) (sameObject_keptL i s) hl kd kn (SameObject.refl i s) t hexec

end Sys2Proof.Machine
end

section
/-! SUPPORT. How a request that the checks of R124 let through is answered, and words that read as their registers. -/

namespace Sys2Proof.Machine

open Sys2Proof Sys2Proof.Safety

variable {s : State} {q : Req} {o : Obj} {r : Row}

/-! ### Requests (R119, R124) -/

/-- The checks up to the rights let a request through to its operation. -/
theorem checked_passed {via : Via} {i sub : Nat} {use : Use} {ws : List Word}
    {go : State → Obj → Option Row → State × Ans} (ho : findObj i = some o) (hr : o.row sub = some r)
    (he : s.entryStatus via o i sub use ws = 0) :
    s.checked via i sub use ws go = go (reading s o r i) o (some r) := by
  unfold State.checked reading
  simp only [ho, he, hr]

/-- A request of an operation of R120 is answered with what the operation gives. -/
theorem serve_replied {op st k n : Nat} {l : List Word} {t : State} {f : State → State × Ans}
    (hm : s.mute q.via.path = false) (hother : q.other = none) (hf : f s = (t, .done st k n l)) :
    s.serve q op f = t.replied q op st k n l := by
  unfold State.serve
  simp only [hm, hother, hf, Bool.false_eq_true, if_false]
  rfl

theorem typeStatus_any {t : Ty} : typeStatus 0xF t = 0 := rfl

/-! ### A half is heard -/

@[simp] theorem reading_dict {i : Nat} : (reading s o r i).dict = s.dict := by
  unfold reading State.heard State.beat
  split <;> simp

@[simp] theorem reading_svc {i : Nat} : (reading s o r i).svc = s.svc := by
  unfold reading State.heard State.beat
  split <;> simp

@[simp] theorem reading_out {i : Nat} : (reading s o r i).out = s.out := by
  unfold reading State.heard State.beat
  split <;> simp

/-- The answer of the serving half keeps what an update of the halves keeps. -/
theorem reading_kept {P : State → Prop} (kh : KeptH P) {i : Nat} (hs : P s) : P (reading s o r i) :=
  State.heard_kept kh hs

theorem reading_sameObject {i j : Nat} : SameObject j s (reading s o r i) :=
  reading_kept (sameObject_keptH j s) (SameObject.refl j s)

/-! ### Reads (R108, R109) -/

/-- The state that a read of an object from its first word on leaves: its words latched where there are several, and
the lead word known to a manager that reads it (R23, R109). -/
def State.afterRead (s : State) (q : Req) (o : Obj) (r : Row) : State :=
  ((reading s o r q.index).readValue q.via.path o r q.index q.sub).1.rereadLead q.via.path q.index q.sub

theorem afterRead_kept {P : State → Prop} (kk : Kept P) (kh : KeptH P) (kv : KeptV P) (hs : P s) :
    P (s.afterRead q o r) :=
  State.rereadLead_kept kh (State.readValue_kept kk kv (reading_kept kh hs))

theorem readValue_out {p : Path} {i sub : Nat} : (s.readValue p o r i sub).1.out = s.out := by
  unfold State.readValue State.latch
  split_ifs
  · simp
  · simp
  · split <;> simp

theorem rereadLead_out {p : Path} {i sub : Nat} : (s.rereadLead p i sub).out = s.out := by
  unfold State.rereadLead
  split
  · split <;> simp
  · rfl

@[simp] theorem afterRead_out : (s.afterRead q o r).out = s.out :=
  rereadLead_out.trans (readValue_out.trans reading_out)

/-- A read that every check lets through answers the object's words. -/
theorem opRead_readable (ho : findObj q.index = some o) (hr : o.row q.sub = some r) (hs : r.sub = q.sub)
    (hread : readable s q o r = true) (hw : q.words = []) (hne : ¬(q.index = 0x0010 ∧ q.sub = 0x08)) :
    s.opRead q = (s.afterRead q o r, .done 0x0000 0 0 ((reading s o r q.index).readObj o r q.index)) := by
  unfold readable at hread
  simp only [Bool.and_eq_true, beq_iff_eq, Option.isNone_iff_eq_none] at hread
  obtain ⟨⟨⟨-, hentry⟩, htype⟩, hbusy⟩ := hread
  have hvalue {t : State} {p : Path} : (t.readValue p o r q.index q.sub).2 = t.readObj o r q.index := by
    unfold State.readValue
    rw [if_pos hs.symm]
  unfold State.opRead
  rw [checked_passed ho hr hentry]
  simp only [hw, htype, hbusy, if_neg hne, ne_eq, not_true_eq_false, if_false, hvalue]
  rfl

theorem readable_served (hread : readable s q o r = true) : s.key.powered = true ∧ s.mute q.via.path = false := by
  unfold readable at hread
  simp only [Bool.and_eq_true, Bool.not_eq_true', and_assoc] at hread
  exact ⟨hread.1, hread.2.1⟩

/-! ### Objects of one word whose register is what they read as (R108) -/

/-- Objects of one word, without selectors, that read as their register. -/
def keptWords : List (Nat × Nat) :=
  [(0x0013, 0x01), (0x0013, 0x02), (0x0013, 0x03), (0x0040, 0x01), (0x0040, 0x02), (0x0041, 0x01), (0x0100, 0x01),
   (0x0101, 0x01), (0x1000, 0x05), (0x1003, 0x01), (0x1004, 0x01), (0x1010, 0x01), (0x1011, 0x01), (0x1011, 0x02),
   (0x1014, 0x01), (0x7002, 0x01), (0x9020, 0x01), (0xF000, 0x01)]

theorem unitOf_plain (h : o.selectors = [] ∨ r.single = true) : s.unitOf o r = 0 := by
  unfold State.unitOf
  rcases h with h | h
  · rw [h, List.foldl_nil, ite_self]
  · rw [if_pos h]

/-- What the object tables say of a listed word. -/
theorem keptWords_row {i sub : Nat} (h : (i, sub) ∈ keptWords) (ho : findObj i = some o) (hr : o.row sub = some r) :
    o.selectors = [] ∧ r.words = 1 ∧ r.ty ≠ .domain := by
  have hall : ∀ p ∈ keptWords, ∀ o ∈ findObj p.1, ∀ r ∈ o.row p.2,
      o.selectors = [] ∧ r.words = 1 ∧ r.ty ≠ .domain := by decide
  exact hall _ h o ho r hr

theorem readWord_keptWord (hty : r.ty ≠ .domain) :
    ∀ p ∈ keptWords, s.readWord o r p.1 p.2 = s.regAt (s.unitOf o r) p.1 p.2 := by
  simp [keptWords, State.readWord, sensor, hty]

theorem readObj_keptWord {i sub : Nat} (h : (i, sub) ∈ keptWords) (ho : findObj i = some o) (hr : o.row sub = some r)
    (hs : r.sub = sub) : s.readObj o r i = [s.reg i sub] := by
  obtain ⟨hsel, hwords, hty⟩ := keptWords_row h ho hr
  have hword := readWord_keptWord (s := s) (o := o) hty _ h
  rw [unitOf_plain (.inl hsel)] at hword
  unfold State.readObj
  rw [hwords, hs]
  exact congrArg (fun w => [w]) hword

end Sys2Proof.Machine
end

section
/-! PROOF. O12: READ, DESCRIBE, NEXT and codes that are no operation (R108 to R111, R120, R125). -/

namespace Sys2Proof.Machine

open Sys2Proof Sys2Proof.Safety

variable {s : State} {q : Req} {o : Obj} {r : Row}

theorem exec_read (hp : s.key.powered = true) :
    exec (.read q) s = .next (s.serve q opCode.read (fun t => t.opRead q)) := by
  change execRead q s = _
  exact onPower_on hp

theorem exec_describe (hp : s.key.powered = true) :
    exec (.describe q) s = .next (s.serve q opCode.describe (fun t => t.opDescribe q)) := by
  change execDescribe q s = _
  exact onPower_on hp

theorem exec_nextObj (hp : s.key.powered = true) :
    exec (.nextObj q) s = .next (s.serve q opCode.next (fun t => t.opNext q)) := by
  change execNextObj q s = _
  exact onPower_on hp

theorem read_answers (ho : findObj q.index = some o) (hr : o.row q.sub = some r) (hs : r.sub = q.sub)
    (hread : readable s q o r = true) (hw : q.words = []) (hother : q.other = none)
    (hne : ¬(q.index = 0x0010 ∧ q.sub = 0x08)) :
    exec (.read q) s = .next ((s.afterRead q o r).replied q opCode.read 0x0000 0 0
      ((reading s o r q.index).readObj o r q.index)) := by
  obtain ⟨hp, hm⟩ := readable_served hread
  rw [exec_read hp, serve_replied hm hother (opRead_readable ho hr hs hread hw hne)]

theorem describe_answers (ho : findObj q.index = some o) (hr : o.row q.sub = some r) (hp : s.key.powered = true)
    (hm : s.mute q.via.path = false) (hw : q.words = []) (hother : q.other = none)
    (hentry : s.entryStatus q.via o q.index q.sub .look [] = 0) (htype : typeStatus q.ty r.ty = 0)
    (hshed : (reading s o r q.index).shedLook o q.index = none) :
    exec (.describe q) s = .next ((reading s o r q.index).replied q opCode.describe 0x0000 0 0
      ([toWord o.summary, toWord (entryWord q.index q.sub)] ++
        (if r.ty = .domain then [toWord ((reading s o r q.index).domainLength q.index q.sub)] else []))) := by
  rw [exec_describe hp]
  refine congrArg _ (serve_replied hm hother ?_)
  unfold State.opDescribe
  rw [checked_passed ho hr hentry]
  simp only [hw, htype, hshed, ne_eq, not_true_eq_false, if_false]

/-- NEXT walks the table of objects from a place that is defined, or from the start of the walk. -/
theorem next_answers (ho : findObj q.index = some o) (hp : s.key.powered = true) (hm : s.mute q.via.path = false)
    (hplace : (o.row q.sub).isSome = true ∨ q.sub = 0xFF ∨ (q.index = 0 ∧ q.sub = 0)) (hw : q.words = [])
    (hother : q.other = none) (hwalk : s.walkStatus q.via = 0)
    (htype : typeStatus q.ty (((o.row q.sub).map (·.ty)).getD .u32) = 0) (hshed : s.shedLook o q.index = none) :
    exec (.nextObj q) s = .next (s.replied q opCode.next 0x0000 0 0 [toWord (nextPlace q.index q.sub)]) := by
  rw [exec_nextObj hp]
  refine congrArg _ (serve_replied hm hother ?_)
  have hdefined : ((o.row q.sub).isNone && q.sub != 0xFF && !(q.index == 0 && q.sub == 0)) = false := by
    rcases hplace with h | h | h
    · simp [Option.isNone_eq_false_iff.mpr h]
    · simp [h]
    · simp [h]
  unfold State.opNext
  simp only [ho, hdefined, hwalk, hw, hshed, Bool.false_eq_true, ne_eq, not_true_eq_false, if_false, Option.getD_none]
  cases hrow : o.row q.sub <;> simp only [hrow, Option.map, Option.getD] at htype <;> simp only [htype]

theorem other_refused {op : Nat} (ho : findObj q.index = some o) (hr : o.row q.sub = some r)
    (hp : s.key.powered = true) (hm : s.mute q.via.path = false) (hother : q.other = some op)
    (hentry : s.entryStatus q.via o q.index q.sub .look [] = 0) :
    exec (.read q) s = .next ((reading s o r q.index).replied q op 0x2003 0 0 []) := by
  rw [exec_read hp]
  unfold State.serve State.opOther
  rw [checked_passed ho hr hentry]
  simp only [hm, hother, Bool.false_eq_true, if_false]
  rfl

/-- Settles O12: each operation by what its request is answered with. -/
theorem readsDescribesAndNextAnswer : Obligations.ReadsDescribesAndNextAnswer := by
  unfold Obligations.ReadsDescribesAndNextAnswer
  refine ⟨fun s q o r ho hr hs hread hw hother hne =>
      ⟨⟨_, read_answers ho hr hs hread hw hother hne, ?_⟩, fun hlist => ?_⟩,
    fun s q o ho hp hm => ⟨fun r hr hw hother hentry htype hshed =>
      ⟨describe_answers ho hr hp hm hw hother hentry htype hshed, reading_dict⟩, next_answers ho hp hm,
      fun op r hother hr => other_refused ho hr hp hm hother⟩⟩
  · exact ⟨afterRead_kept (sameDict_kept s) (sameDict_keptH s) (sameDict_keptV s) rfl,
      afterRead_kept (sameHbm_kept s) (sameHbm_keptH s) (sameHbm_keptV s) ⟨rfl, rfl⟩,
      afterRead_kept (sameCtxs_kept s) (sameCtxs_keptH s) (sameCtxs_keptV s) rfl,
      afterRead_kept (sameTiles_kept s) (sameTiles_keptH s) (sameTiles_keptV s) rfl,
      afterRead_kept (sameSec_kept s) (sameSec_keptH s) (sameSec_keptV s) rfl,
      afterRead_kept (sameKey_kept s) (sameKey_keptH s) (sameKey_keptV s) rfl⟩
  · have hkept : (q.index, q.sub) ∈ keptWords := (by decide : _ ⊆ keptWords) hlist
    rw [readObj_keptWord hkept ho hr hs, reading_sameObject.reg]

end Sys2Proof.Machine
end

section
/-! SUPPORT. Writes of objects without a rule of their own (R108, R116), and writes that compare first (R120). -/

namespace Sys2Proof.Machine

open Sys2Proof Sys2Proof.Safety

variable {s : State} {via : Via} {i sub : Nat} {v : Word} {o : Obj} {r : Row} {x : Aux} {ws : List Word}

/-! ### Objects without a rule of their own -/

/-- Words of a unit alone, or of a selector, whose write stores the value. -/
def plainWords : List (Nat × Nat) :=
  [(0x0013, 0x01), (0x0013, 0x02), (0x0013, 0x03), (0x1003, 0x01), (0x4002, 0x01), (0x5011, 0x01)]

/-- Words of the store whose write is deferred (R116). -/
def storeWordPlaces : List (Nat × Nat) :=
  [(0x1002, 0x07), (0x1002, 0x08), (0x1002, 0x09), (0x1014, 0x01), (0x7002, 0x01), (0x7002, 0x02)]

theorem act_plain {a : State} {u : Nat} (h : (i, r.sub) ∈ plainWords ++ storeWordPlaces) :
    a.act x via r i u ws = a.plainWrite r i u ws := by
  have hall : ∀ p ∈ plainWords ++ storeWordPlaces, r.sub = p.2 → a.act x via r p.1 u ws = a.plainWrite r p.1 u ws := by
    intro p hp hsub
    unfold State.act
    rw [hsub]
    fin_cases hp <;> rfl
  exact hall _ h rfl

theorem plainWords_row (h : (i, sub) ∈ plainWords) (ho : findObj i = some o) (hr : o.row sub = some r) :
    (o.selectors = [] ∨ r.single = true) ∧ r.per ≠ .p2 := by
  have hall : ∀ p ∈ plainWords, ∀ o ∈ findObj p.1, ∀ r ∈ o.row p.2,
      (o.selectors = [] ∨ r.single = true) ∧ r.per ≠ .p2 := by decide
  exact hall _ h o ho r hr

theorem storeWordPlaces_row (h : (i, sub) ∈ storeWordPlaces) (ho : findObj i = some o) (hr : o.row sub = some r) :
    (o.selectors = [] ∨ r.single = true) ∧ r.per = .p2 := by
  have hall : ∀ p ∈ storeWordPlaces, ∀ o ∈ findObj p.1, ∀ r ∈ o.row p.2,
      (o.selectors = [] ∨ r.single = true) ∧ r.per = .p2 := by decide
  exact hall _ h o ho r hr

/-- A plain word is stored as it was written. -/
theorem verdict_plainWord (hadm : admits s via i sub ws = true) (h : (i, sub) ∈ plainWords) :
    verdict s x via i sub ws = .apply ((arrival s via i sub).putsAt 0 i sub ws) := by
  obtain ⟨_, _, _, o, r, ho, hr, rfl, _⟩ := admits_row hadm
  obtain ⟨hone, hper⟩ := plainWords_row h ho hr
  rw [verdict_of ho hr, act_plain (List.mem_append_left _ h), unitOf_plain hone]
  exact if_neg hper

/-- A word of the store waits for its commit (R116). -/
theorem verdict_storeWord (hadm : admits s via i sub ws = true) (h : (i, sub) ∈ storeWordPlaces) :
    verdict s x via i sub ws = .accept (.store i sub 0 ws) 20000 id := by
  obtain ⟨_, _, _, o, r, ho, hr, rfl, _⟩ := admits_row hadm
  obtain ⟨hone, hper⟩ := storeWordPlaces_row h ho hr
  rw [verdict_of ho hr, act_plain (List.mem_append_right _ h), unitOf_plain hone]
  exact if_pos hper

/-- A plain word or the selection of CLKOBS is stored at once; an output that shows it may be shown anew (R103). -/
theorem verdict_storesWord (hadm : admits s via i sub [v] = true)
    (h : (i, sub) ∈ (0x1004, 0x01) :: plainWords) :
    ∃ t, verdict s x via i sub [v] = .apply t ∧ SameDict ((arrival s via i sub).putAt 0 i sub v) t := by
  rcases List.mem_cons.mp h with hobs | hplain
  · obtain ⟨rfl, rfl⟩ := Prod.mk.inj hobs
    refine ⟨_, verdict_clkobs hadm, State.repin_dict.trans ?_⟩
    unfold State.put
    rw [toWord_of_toNat]
  · exact ⟨_, verdict_plainWord hadm hplain, rfl⟩

/-- A word stored is read back, and it alone has changed. -/
theorem stored_word {t : State} (hi : i < 65536) (hsub : sub < 256)
    (h : SameDict ((arrival s via i sub).putAt 0 i sub v) t) :
    t.reg i sub = v ∧ OnlyIn [i] s t ∧ OnlySubs i [sub] s t := by
  have hobj {j : Nat} : SameObject j ((arrival s via i sub).putAt 0 i sub v) t := fun _ _ => State.regAt_of_dict h
  refine ⟨(hobj.reg sub).trans State.regAt_putAt_self, fun j hj hne => ?_, OnlySubs.of_object ?_ hobj⟩
  · have hout : j % 65536 ≠ i % 65536 := by
      rw [Nat.mod_eq_of_lt hj, Nat.mod_eq_of_lt hi]
      simpa using hne
    exact (State.putAt_kept (sameObject_at hout) arrival_sameObject).trans hobj
  · rw [← toWord_of_toNat (v := v)]
    exact onlySubs_put arrival_onlySubs ⟨hsub, List.mem_singleton_self _⟩

/-! ### Writes that compare (R120) -/

/-- A write that the checks let through is carried out where its object holds what it expects, and refused where not. -/
theorem weigh_expecting {e : List Word} {tag : Nat} {wait : Bool} (ho : findObj i = some o) (hr : o.row sub = some r)
    (h : admits s via i sub ws = true) (hv : valueClass (verdict s x via i sub ws).status = false) :
    (arrival s via i sub).weigh x via o r i tag ws ((arrival s via i sub).originOf via) (some e) wait =
      if e = (arrival s via i sub).readObj o r i then
        (arrival s via i sub).settleWrite via r i ((arrival s via i sub).unitOf o r) ws (verdict s x via i sub ws)
      else (arrival s via i sub, .plain 0x3001) := by
  rw [verdict_of ho hr] at hv ⊢
  unfold admits at h
  simp only [ho, hr, Bool.and_eq_true, beq_iff_eq, Bool.or_eq_true, bne_iff_ne, Bool.not_eq_true',
    Option.isNone_iff_eq_none, and_assoc] at h
  obtain ⟨-, -, -, -, rfl, -, -, hvalue, hown, hrws, hgate, hctx, hbusy, hqueues, -⟩ := h
  have hopen : ¬(r.acc = .rws ∧ (arrival s via i r.sub).rwsOpen i r.sub = false) := by
    rintro ⟨hacc, hshut⟩
    exact hrws.elim (fun hne => hne hacc) (fun hset => by rw [hshut] at hset; cases hset)
  have hpass : (if r.acc = .rwl ∧ (arrival s via i r.sub).leadless i ws = false then
      (arrival s via i r.sub).gate ((arrival s via i r.sub).originOf via) else .pass) = Gate.pass := by
    split
    · next hheld =>
      obtain ⟨hacc, hlead⟩ := hheld
      rcases hgate with (hne | hless) | hmatch
      · exact absurd hacc hne
      · rw [hlead] at hless
        cases hless
      · revert hmatch
        cases (arrival s via i r.sub).gate ((arrival s via i r.sub).originOf via) <;> simp
    · rfl
  unfold State.weigh
  simp only [hvalue, hown, hv, reservedFirst_zero, hpass, hctx, hbusy, hqueues, if_neg hopen, Bool.false_eq_true,
    if_false,
    ne_eq, not_true_eq_false, Bool.and_false, Option.isSome_some, Bool.true_and, bne_iff_ne, Option.some.injEq, ite_not]

/-- Only a command to a spoke is gated by what it writes (R100). -/
theorem entryStatus_words {use : Use} {ws' : List Word} (hi : i ≠ 0x6003) :
    s.entryStatus via o i sub use ws = s.entryStatus via o i sub use ws' := by
  have hgated {u : Nat} {write : Bool} : s.gated i sub u write ws = s.gated i sub u write ws' := by
    unfold State.gated
    simp only [hi, false_and, if_false]
  unfold State.entryStatus
  simp only [hgated]

theorem arrival_of (ho : findObj i = some o) (hr : o.row sub = some r) :
    arrival s via i sub = (reading (s.unstageOther via.path i r.sub) o r i).unstage via.path := by
  unfold arrival reading
  simp only [ho, hr]

theorem admits_entry {ws : List Word} (ho : findObj i = some o) (hr : o.row sub = some r)
    (h : admits s via i sub ws = true) :
    (s.unstageOther via.path i r.sub).entryStatus via o i sub .write ws = 0 ∧ r.ty ≠ .domain := by
  unfold admits at h
  simp only [ho, hr, Bool.and_eq_true, beq_iff_eq, bne_iff_ne, and_assoc] at h
  obtain ⟨-, -, -, hentry, -, -, hty, -⟩ := h
  exact ⟨hentry, hty⟩

/-- A WRITE_IF of one word comes to its comparison. -/
theorem opWriteIf_admitted {old new : Word} {q : Req} (hq : q = writeReq via i sub [old, new])
    (ho : findObj i = some o) (hr : o.row sub = some r) (h : admits s via i sub [new] = true) (hi : i ≠ 0x6003)
    (hacc : r.acc ≠ .wo) :
    s.opWriteIf q = (arrival s via i sub).commit Aux.none via o r i 0 [new] ((arrival s via i sub).originOf via)
      (some [old]) true := by
  obtain ⟨hentry, hty⟩ := admits_entry ho hr h
  obtain ⟨_, _, _, o', r', ho', hr', rfl, hlen⟩ := admits_row h
  obtain rfl := Option.some.inj (ho'.symm.trans ho)
  obtain rfl := Option.some.inj (hr'.symm.trans hr)
  have hrow : findRow i r'.sub = some r' := by
    unfold findRow
    rw [ho]
    exact hr
  have hone : r'.words = 1 := hlen.symm
  rw [entryStatus_words (ws' := [old, new]) hi] at hentry
  subst hq
  unfold State.opWriteIf writeReq
  simp only [hrow]
  rw [checked_passed ho hr hentry, arrival_of ho hr]
  simp only [hacc, hty, hone, typeStatus_any, if_false, ne_eq, not_true_eq_false, or_self, List.length_cons,
    List.length_nil, List.drop_succ_cons, List.drop_zero, List.take_succ_cons, List.take_zero]
  rfl

end Sys2Proof.Machine
end

section
/-! PROOF. O13: WRITE, WRITE_OBJECT and WRITE_IF of objects without a rule of their own (R108, R116, R120, R128). -/

namespace Sys2Proof.Machine

open Sys2Proof Sys2Proof.Safety

variable {s : State} {via : Via} {i sub : Nat} {v old new : Word} {c : Instr}

theorem exec_write : exec (.write (writeReq via i sub [v])) s = s.put! Aux.none via i sub [v] := rfl

theorem exec_writeObject : exec (.writeObject (writeReq via i sub [v])) s = s.put! Aux.none via i sub [v] := rfl

/-! ### Stored at once (R108) -/

theorem plainWord_takes (hc : exec c s = s.put! Aux.none via i sub [v]) (hadm : admits s via i sub [v] = true)
    (h : (i, sub) ∈ (0x1004, 0x01) :: plainWords) :
    Takes c s via i sub [v] (fun t => t.reg i sub = v ∧ OnlyIn [i] s t ∧ OnlySubs i [sub] s t) := by
  obtain ⟨hi, hsub⟩ : i < 65536 ∧ sub < 256 :=
    (by decide : ∀ p ∈ (0x1004, 0x01) :: plainWords, p.1 < 65536 ∧ p.2 < 256) _ h
  obtain ⟨t, hverdict, ht⟩ := verdict_storesWord (x := Aux.none) hadm h
  exact takes_of hc hadm hverdict (stored_word hi hsub ht)

/-! ### Deferred to the store (R116, R128) -/

theorem storeWord_defers (hc : exec c s = s.put! Aux.none via i sub [v]) (hadm : admits s via i sub [v] = true)
    (h : (i, sub) ∈ storeWordPlaces) (hroom : s.ticketRoom = true) :
    Defers c s via i sub [v] (fun t => SameDict s t ∧ ∃ k ∈ t.svc.tickets, k.num = (arrival s via i sub).nextTicketNum ∧
      k.work = .store i sub 0 [v] ∧ k.status = none) :=
  defers_of hc hadm (arrival_ticketRoom.trans hroom) (verdict_storeWord hadm h)
    ⟨arrival_dict, _, List.mem_append_right _ (List.mem_singleton_self _), rfl, rfl, rfl⟩

theorem storeWord_roomless (hc : exec c s = s.put! Aux.none via i sub [v]) (hadm : admits s via i sub [v] = true)
    (h : (i, sub) ∈ storeWordPlaces) (hroom : s.ticketRoom = false) :
    exec c s = .next ((arrival s via i sub).replied (writeReq via i sub [v]) opCode.write 0x4002 0 0 []) := by
  have hverdict := verdict_storeWord (x := Aux.none) hadm h
  rw [hc, put_admitted (a := (arrival s via i sub, .plain 0x4002)) hadm (by rw [hverdict]; exact valueClass_zero),
    writeOp_admitted hadm]
  · rfl
  · intro o r _ _ _
    rw [hverdict]
    exact if_neg (by rw [arrival_ticketRoom, hroom]; exact Bool.false_ne_true)

/-! ### Compared first (R120) -/

/-- Words that are compared with their register and then stored. -/
def comparedWords : List (Nat × Nat) :=
  [(0x0013, 0x01), (0x0013, 0x02), (0x0013, 0x03), (0x1003, 0x01), (0x1004, 0x01)]

theorem exec_writeIf {t : State} {l : List Word} {st : Nat} {q : Req} (hq : q = writeReq via i sub [old, new])
    (hadm : admits s via i sub [new] = true) (hop : s.opWriteIf q = (t, .done st 0 0 l)) :
    exec (.writeIf q) s = .next (t.replied q opCode.writeIf st 0 0 l) := by
  obtain ⟨hp, hm, hstands, _⟩ := admits_row hadm
  subst hq
  change execWriteIf _ s = _
  unfold execWriteIf
  rw [onPower_on hp]
  unfold State.serveWrite
  rw [if_neg (by simpa [writeReq] using hstands), serve_replied hm rfl hop]

/-- A WRITE_IF of a compared word stores the new value or changes nothing, and answers what the object held. -/
theorem opWriteIf_compares (hadm : admits s via i sub [new] = true) (h : (i, sub) ∈ comparedWords) :
    ∃ t, SameDict ((arrival s via i sub).putAt 0 i sub new) t ∧
      s.opWriteIf (writeReq via i sub [old, new]) = if s.reg i sub = old
        then (t.traceAdd (.wrote i sub [new] t.count), .done 0x0000 0 0 [old])
        else (arrival s via i sub, .done 0x3001 0 0 [s.reg i sub]) := by
  obtain ⟨t, hverdict, ht⟩ := verdict_storesWord (x := Aux.none) hadm
    ((by decide : comparedWords ⊆ (0x1004, 0x01) :: plainWords) h)
  obtain ⟨_, _, _, o, r, ho, hr, hs, _⟩ := admits_row hadm
  have hi : i ≠ 0x6003 := (by decide : ∀ p ∈ comparedWords, p.1 ≠ 0x6003) _ h
  have hacc : r.acc ≠ .wo :=
    (by decide : ∀ p ∈ comparedWords, ∀ o ∈ findObj p.1, ∀ r ∈ o.row p.2, r.acc ≠ .wo) _ h o ho r hr
  have hheld : (arrival s via i sub).readObj o r i = [s.reg i sub] :=
    (readObj_keptWord ((by decide : comparedWords ⊆ keptWords) h) ho hr hs).trans
      (congrArg (fun w => [w]) (arrival_sameObject.reg sub))
  refine ⟨t, ht, ?_⟩
  rw [opWriteIf_admitted rfl ho hr hadm hi hacc]
  unfold State.commit
  rw [weigh_expecting ho hr hadm (by rw [hverdict]; exact valueClass_zero), hheld, hverdict]
  by_cases heq : s.reg i sub = old
  · rw [if_pos heq, if_pos (by rw [heq]), heq, ← hs]
    rfl
  · rw [if_neg heq, if_neg (fun e => heq (List.singleton_injective e).symm)]
    rfl

theorem writeIf_stores (hadm : admits s via i sub [new] = true) (h : (i, sub) ∈ comparedWords)
    (hold : s.reg i sub = old) : ∃ t, t.reg i sub = new ∧ OnlyIn [i] s t ∧ OnlySubs i [sub] s t ∧
      exec (.writeIf (writeReq via i sub [old, new])) s = .next ((t.traceAdd (.wrote i sub [new] t.count)).replied
        (writeReq via i sub [old, new]) opCode.writeIf 0x0000 0 0 [old]) := by
  obtain ⟨t, ht, hop⟩ := opWriteIf_compares (old := old) hadm h
  obtain ⟨hi, hsub⟩ : i < 65536 ∧ sub < 256 := (by decide : ∀ p ∈ comparedWords, p.1 < 65536 ∧ p.2 < 256) _ h
  obtain ⟨hreg, honly, hsubs⟩ := stored_word hi hsub ht
  exact ⟨t, hreg, honly, hsubs, exec_writeIf rfl hadm (hop.trans (if_pos hold))⟩

theorem writeIf_refused (hadm : admits s via i sub [new] = true) (h : (i, sub) ∈ comparedWords)
    (hold : s.reg i sub ≠ old) : ∃ t, SameDict s t ∧ SameHbm s t ∧ SameCtxs s t ∧
      exec (.writeIf (writeReq via i sub [old, new])) s = .next (t.replied (writeReq via i sub [old, new])
        opCode.writeIf 0x3001 0 0 [s.reg i sub]) := by
  obtain ⟨t, ht, hop⟩ := opWriteIf_compares (old := old) hadm h
  exact ⟨_, arrival_dict, ⟨arrival_hbm0, arrival_hbm1⟩, arrival_ctxs, exec_writeIf rfl hadm (hop.trans (if_neg hold))⟩

/-- Settles O13: the verdict on a plain write, and the comparison of a conditional one. -/
theorem plainAndConditionalWrites : Obligations.PlainAndConditionalWrites := by
  unfold Obligations.PlainAndConditionalWrites
  refine ⟨fun s via i sub v hadm => ⟨fun h => ?_, fun h hroom => ?_, fun h hroom => ?_⟩,
    fun s via i sub old new hadm h => ⟨writeIf_stores hadm h, writeIf_refused hadm h⟩⟩
  · have hword : (i, sub) ∈ (0x1004, 0x01) :: plainWords := (by decide : _ ⊆ (0x1004, 0x01) :: plainWords) h
    exact ⟨plainWord_takes exec_write hadm hword, plainWord_takes exec_writeObject hadm hword⟩
  · exact ⟨storeWord_defers exec_write hadm h hroom, storeWord_defers exec_writeObject hadm h hroom⟩
  · exact ⟨storeWord_roomless exec_write hadm h hroom, storeWord_roomless exec_writeObject hadm h hroom⟩

end Sys2Proof.Machine
end

section
/-! PROOF. O14, the tickets: a ticket is read, collected once and freed (R120, R128, R129, R136). -/

namespace Sys2Proof.Machine

open Sys2Proof Sys2Proof.Safety

variable {s : State} {via : Via} {p : Path} {n : Nat} {k : Ticket}

/-! ### Tickets by number (R129) -/

theorem ticketFor_find (h : s.ticketFor p n = some k) : s.svc.tickets.find? (fun x => x.num == n) = some k := by
  unfold State.ticketFor at h
  split at h
  · next t ht =>
    rw [ht]
    cases p with
    | spoke src half => exact (Option.ite_none_right_eq_some.mp h).2
    | doe | mctp | bar2 | manager => exact h
  · cases h

theorem num_of_find (h : s.svc.tickets.find? (fun x => x.num == n) = some k) : k.num = n := by
  have h' := List.find?_some h
  simpa using h'

theorem held_of_find (h : s.svc.tickets.find? (fun x => x.num == n) = some k) : s.ticketHeld n = true :=
  List.any_eq_true.mpr ⟨k, List.mem_of_find?_eq_some h, beq_iff_eq.mpr (num_of_find h)⟩

/-- A ticket collected is held no longer. -/
theorem collect_held : (s.collect n).ticketHeld n = false := by
  simp [State.collect, State.ticketHeld]

theorem payload_pending (h : k.status = none) : k.payload = 0 := by
  unfold Ticket.payload
  rw [h]

theorem payload_complete {st : Nat} (h : k.status = some st) : k.payload = 65536 + st := by
  unfold Ticket.payload
  rw [h]

/-! ### TICKET (R120) -/

/-- The object of the ticket queries is the keystone's. -/
theorem opTicket_held (hn : n < 65536) (hk : s.ticketFor via.path n = some k)
    (hentry : ∀ o, findObj 0x0010 = some o → s.entryStatus via o 0x0010 0x08 .read [] = 0) :
    s.opTicket (writeReq via 0x0010 0x08 [toWord n]) =
      (if k.status.isSome then s.collect n else s, .done 0x0000 0 0 [toWord k.payload]) := by
  have ho : findObj 0x0010 = some obj0010 := rfl
  have hword : (toWord n).toNat = n := toWord_toNat (by omega)
  unfold State.opTicket writeReq
  rw [checked_passed ho rfl (hentry _ ho)]
  have hserver : reading s obj0010 ⟨0x08, .u32, 1, .bool, .ro, .val 0, .p0, .any, false⟩ 0x0010 = s := rfl
  simp [typeStatus_any, hword, held_of_find (ticketFor_find hk), hk, hserver, show ¬ 65535 < n by omega]

theorem exec_ticket (hp : s.key.powered = true) (hm : s.mute via.path = false) (hn : n < 65536)
    (hk : s.ticketFor via.path n = some k)
    (hentry : ∀ o, findObj 0x0010 = some o → s.entryStatus via o 0x0010 0x08 .read [] = 0) :
    exec (.ticket (writeReq via 0x0010 0x08 [toWord n])) s =
      .next ((if k.status.isSome then s.collect n else s).replied (writeReq via 0x0010 0x08 [toWord n]) opCode.ticket
        0x0000 0 0 [toWord k.payload]) := by
  change execTicket _ s = _
  unfold execTicket
  rw [onPower_on hp, serve_replied hm rfl (opTicket_held hn hk hentry)]

/-! ### TICKET_RESULT_READ (R136) -/

/-- Outside footing mode the window's ticket query completes with its word. -/
theorem exec_ticketResultRead (hp : s.key.powered = true) (hf : s.flag 0xF000 0x02 0 = false) :
    exec .ticketResultRead s =
      .next (s.ticketQuery.1.emit (.completion (BitVec.ofNat 64 s.ticketQuery.2.toNat))) := by
  have hread : s.windowRead (0x0010 * 1024 + 0x08 * 4) = (s.ticketQuery.1, some s.ticketQuery.2) :=
    if_pos ⟨rfl, rfl, hf⟩
  change execTicketResultRead s = _
  unfold execTicketResultRead State.windowComplete
  rw [onPower_on hp, hread]
  rfl

theorem ticketQuery_held (hk : s.ticketFor .bar2 (s.val 0x0010 0x07) = some k) : s.ticketQuery =
    (if k.status.isSome then s.collect (s.val 0x0010 0x07) else s, toWord k.payload) := by
  unfold State.ticketQuery State.collectQueried
  simp only [hk, num_of_find (ticketFor_find hk)]

theorem ticketQuery_none (hk : s.ticketFor .bar2 (s.val 0x0010 0x07) = none) :
    s.ticketQuery = (s.recordWindow 0x0010 0x08 0x2003 0 0, 0) := by
  unfold State.ticketQuery
  simp only [hk]

theorem ticketResultRead_collects (hp : s.key.powered = true) (hf : s.flag 0xF000 0x02 0 = false)
    (hk : s.ticketFor .bar2 (s.val 0x0010 0x07) = some k) : Reaches .ticketResultRead s (fun t =>
      t.out = s.out ++ [.completion (BitVec.ofNat 64 (toWord k.payload).toNat)] ∧
      t.ticketHeld (s.val 0x0010 0x07) = k.status.isNone ∧ SameDict s t) := by
  refine ⟨_, exec_ticketResultRead hp hf, ?_⟩
  rw [ticketQuery_held hk]
  have hheld := held_of_find (ticketFor_find hk)
  cases hstatus : k.status with
  | none => exact ⟨rfl, hheld, rfl⟩
  | some st => exact ⟨rfl, collect_held, rfl⟩

theorem ticketResultRead_unheld (hp : s.key.powered = true) (hf : s.flag 0xF000 0x02 0 = false)
    (hk : s.ticketFor .bar2 (s.val 0x0010 0x07) = none) : Reaches .ticketResultRead s (fun t =>
      t.out = s.out ++ [.completion 0] ∧ t.val 0x0010 0x01 = 0x2003) := by
  refine ⟨_, exec_ticketResultRead hp hf, ?_⟩
  rw [ticketQuery_none hk]
  refine ⟨State.emit_out.trans (congrArg (· ++ _) recordWindow_out), ?_⟩
  exact (congrArg BitVec.toNat State.regAt_emit).trans (recordWindow_status (by decide))

/-! ### TICKET_EXPIRE (R129) -/

theorem exec_ticketExpire (hp : s.key.powered = true)
    (hk : s.svc.tickets.find? (fun x => x.num == n) = some k) :
    exec (.ticketExpire n) s = .next (if k.status.isSome then s.collect n else s) := by
  change execTicketExpire n s = _
  unfold execTicketExpire
  rw [onPower_on hp]
  simp only [hk]

theorem ticketExpire_frees (hp : s.key.powered = true) (hk : s.svc.tickets.find? (fun x => x.num == n) = some k)
    (hstatus : k.status ≠ none) :
    Reaches (.ticketExpire n) s (fun t => t.ticketHeld n = false ∧ SameDict s t ∧ SameHbm s t) := by
  refine ⟨_, exec_ticketExpire hp hk, ?_⟩
  rw [if_pos (Option.isSome_iff_ne_none.mpr hstatus)]
  exact ⟨collect_held, rfl, rfl, rfl⟩

theorem ticketExpire_waits (hp : s.key.powered = true) (hk : s.svc.tickets.find? (fun x => x.num == n) = some k)
    (hstatus : k.status = none) : Reaches (.ticketExpire n) s (fun t => t = s) :=
  ⟨_, exec_ticketExpire hp hk, if_neg (by simp [hstatus])⟩

end Sys2Proof.Machine
end

section
/-! PROOF. O14, the segments of a domain, and the obligation (R113, R120). -/

namespace Sys2Proof.Machine

open Sys2Proof Sys2Proof.Safety

variable {s : State} {q : Req} {o : Obj} {r : Row}

/-! ### READ_SEG -/

/-- A blob of a context is read through a snapshot, as every domain of 0x9050 (R477). -/
theorem unsnapped_index (ho : findObj q.index = some o) (hr : o.row q.sub = some r) (hs : r.sub = q.sub)
    (hty : r.ty = .domain) (hsnap : snapped q.index q.sub = false) : q.index ≠ 0x9050 := by
  intro hi
  rw [hi] at ho hsnap
  have hobj : findObj 0x9050 = some obj9050 := rfl
  obtain rfl := Option.some.inj (hobj.symm.trans ho)
  have hsub : r.sub = 0x02 := (by decide : ∀ r ∈ obj9050.rows, r.ty = .domain → r.sub = 0x02) r (row_mem hr) hty
  rw [← hs, hsub] at hsnap
  cases hsnap

/-- The state that the read of a segment leaves: the snapshot of a domain read to its end is closed (R113). -/
def State.afterSegment (s : State) (q : Req) (o : Obj) (r : Row) (stop : Nat) : State :=
  if ((reading s o r q.index).domain q.index q.sub).length ≤ stop then
    (reading s o r q.index).closeSnapshot q.via.path q.index q.sub
  else reading s o r q.index

theorem afterSegment_kept {P : State → Prop} (kk : Kept P) (kh : KeptH P) (kv : KeptV P) {stop : Nat} (hs : P s) :
    P (s.afterSegment q o r stop) :=
  kept_ite (State.closeSnapshot_kept kk kv (reading_kept kh hs)) (reading_kept kh hs)

theorem opReadSeg_answers {off n : Word} (ho : findObj q.index = some o) (hr : o.row q.sub = some r)
    (hs : r.sub = q.sub) (hty : r.ty = .domain) (hq : q.ty = 0xF) (hread : readable s q o r = true)
    (hw : q.words = [off, n]) (hsnap : snapped q.index q.sub = false) (hpos : 0 < n.toNat) (hmax : n.toNat ≤ 1000) :
    s.opReadSeg q = ((s.afterSegment q o r (off.toNat + n.toNat)).emit (.bytes q.via.path q.tag
      ((((reading s o r q.index).domain q.index q.sub).drop off.toNat).take n.toNat)), .plain 0x0000) := by
  have hi := unsnapped_index ho hr hs hty hsnap
  unfold readable at hread
  simp only [Bool.and_eq_true, beq_iff_eq, Option.isNone_iff_eq_none] at hread
  obtain ⟨⟨⟨-, hentry⟩, -⟩, hbusy⟩ := hread
  have hshort : tooLong q.via.path n.toNat = false := by
    unfold tooLong
    split <;> simp <;> omega
  unfold State.opReadSeg
  rw [checked_passed ho hr hentry]
  simp [hw, hq, hty, hi, hbusy, hshort, typeStatus_any, State.segmentSource, hsnap, show ¬ 4064 < n.toNat by omega,
    hpos.ne']
  rfl

theorem readSeg_answers {off n : Word} (ho : findObj q.index = some o) (hr : o.row q.sub = some r)
    (hs : r.sub = q.sub) (hty : r.ty = .domain) (hq : q.ty = 0xF) (hother : q.other = none)
    (hread : readable s q o r = true) (hw : q.words = [off, n]) (hsnap : snapped q.index q.sub = false)
    (hpos : 0 < n.toNat) (hmax : n.toNat ≤ 1000) :
    ∃ t, SameDict s t ∧ SameHbm s t ∧ SameCtxs s t ∧ exec (.readSeg q) s = .next
      ((t.emit (.bytes q.via.path q.tag ((((reading s o r q.index).domain q.index q.sub).drop off.toNat).take
        n.toNat))).replied q opCode.readSeg 0x0000 0 0 []) := by
  obtain ⟨hp, hm⟩ := readable_served hread
  refine ⟨s.afterSegment q o r (off.toNat + n.toNat),
    afterSegment_kept (sameDict_kept s) (sameDict_keptH s) (sameDict_keptV s) rfl,
    afterSegment_kept (sameHbm_kept s) (sameHbm_keptH s) (sameHbm_keptV s) ⟨rfl, rfl⟩,
    afterSegment_kept (sameCtxs_kept s) (sameCtxs_keptH s) (sameCtxs_keptV s) rfl, ?_⟩
  change execReadSeg q s = _
  unfold execReadSeg
  rw [onPower_on hp, serve_replied hm hother
    (opReadSeg_answers ho hr hs hty hq hread hw hsnap hpos hmax)]

/-! ### WRITE_SEG -/

/-- The unit behind an object's selectors is that of the registers. -/
theorem unitOf_of_dict {t : State} (h : t.dict = s.dict) : t.unitOf o r = s.unitOf o r := by
  unfold State.unitOf
  simp only [State.val, State.valAt, State.regAt_of_dict h]

/-- The segments that the path of a request has sent so far, where the next one begins at `off`. -/
def Follows (s : State) (q : Req) (u off : Nat) (first : Bool) (sofar : List Byte) : Prop :=
  (first = true ∧ off = 0 ∧ sofar = []) ∨
    (first = false ∧ off = sofar.length ∧
      ∃ x, s.svc.domWrites.find? (fun x => x.path == normPath q.via.path) = some x ∧ x.index = q.index ∧
        x.sub = q.sub ∧ x.inst = u ∧ x.bytes = sofar)

/-- The state in which a segment of a domain write is taken. -/
def State.segmentTaken (s : State) (q : Req) (u : Nat) (bytes : List Byte) : State :=
  (s.closeDomain q.via.path).setDomWrites ((s.closeDomain q.via.path).svc.domWrites ++
    [{ path := normPath q.via.path, index := q.index, sub := q.sub, inst := u, bytes := bytes }])

theorem opWriteSeg_takes {off : Nat} {first : Bool} {sofar data : List Byte} (ho : findObj q.index = some o)
    (hr : o.row q.sub = some r) (hs : r.sub = q.sub) (hty : r.ty = .domain) (hq : q.ty = 0xF)
    (hmax : data.length ≤ 1000)
    (hentry : (s.unstageOther q.via.path q.index q.sub).entryStatus q.via o q.index q.sub .write [] = 0)
    (hfree : s.svc.domWrites.any (fun x => x.path != normPath q.via.path && x.index == q.index &&
      x.sub == q.sub) = false)
    (hnext : Follows s q (s.unitOf o r) off first sofar) :
    s.opWriteSeg q off first false data =
      ((reading (s.unstageOther q.via.path q.index q.sub) o r q.index).segmentTaken q (s.unitOf o r) (sofar ++ data),
        .plain 0x0000) := by
  have hrow : findRow q.index q.sub = some r := by
    unfold findRow
    rw [ho]
    exact hr
  have hshort : overlong q.via.path data.length = false := by
    unfold overlong
    split <;> simp <;> omega
  have hunit : (reading (s.unstageOther q.via.path q.index q.sub) o r q.index).unitOf o r = s.unitOf o r :=
    unitOf_of_dict reading_dict
  have hwrites : (reading (s.unstageOther q.via.path q.index q.sub) o r q.index).svc.domWrites = s.svc.domWrites := by
    rw [reading_svc]
    rfl
  have halone : s.svc.domWrites.any (fun x => x.path != normPath q.via.path && x.index == q.index && x.sub == q.sub &&
      x.inst == s.unitOf o r) = false := by
    rw [List.any_eq_false] at hfree ⊢
    exact fun x hx h => hfree x hx (Bool.and_eq_true _ _ ▸ h).1
  unfold State.opWriteSeg
  simp only [hrow, hs]
  rw [checked_passed ho hr hentry]
  simp only [hunit, hwrites, hshort, hty, hq, typeStatus_any, halone, Bool.false_eq_true, if_false, ne_eq,
    not_true_eq_false, or_self]
  rcases hnext with ⟨rfl, rfl, rfl⟩ | ⟨rfl, rfl, x, hx, hi, hsub, hu, rfl⟩
  · cases hmine : s.svc.domWrites.find? (fun x => x.path == normPath q.via.path) <;> simp <;> rfl
  · simp [hx, hi, hsub, hu]
    rfl

theorem writeSeg_takes {off : Nat} {first : Bool} {sofar data : List Byte} (ho : findObj q.index = some o)
    (hr : o.row q.sub = some r) (hs : r.sub = q.sub) (hty : r.ty = .domain) (hq : q.ty = 0xF) (hother : q.other = none)
    (hp : s.key.powered = true) (hm : s.mute q.via.path = false) (hmax : data.length ≤ 1000)
    (hentry : (s.unstageOther q.via.path q.index q.sub).entryStatus q.via o q.index q.sub .write [] = 0)
    (hfree : s.svc.domWrites.any (fun x => x.path != normPath q.via.path && x.index == q.index &&
      x.sub == q.sub) = false)
    (hnext : Follows s q (s.unitOf o r) off first sofar) :
    Reaches (.writeSeg q off first false data) s (fun t => ∃ x ∈ t.svc.domWrites, x.path = normPath q.via.path ∧
      x.index = q.index ∧ x.sub = q.sub ∧ x.bytes = sofar ++ data) := by
  have hexec : exec (.writeSeg q off first false data) s =
      .next (s.serve q opCode.writeSeg (fun t => t.opWriteSeg q off first false data)) := by
    change execWriteSeg q off first false data s = _
    exact onPower_on hp
  rw [serve_replied hm hother (opWriteSeg_takes ho hr hs hty hq hmax hentry hfree hnext)] at hexec
  refine ⟨_, hexec, ?_⟩
  simp only [State.replied_svc]
  exact ⟨_, List.mem_append_right _ (List.mem_singleton_self _), rfl, rfl, rfl, rfl⟩

/-! ### DOMAIN_WRITE_TIMEOUT -/

theorem domainWriteTimeout_discards (hp : s.key.powered = true) (i sub inst : Nat) :
    Reaches (.domainWriteTimeout i sub inst) s (fun t =>
      (∀ x ∈ t.svc.domWrites, ¬(x.index = i ∧ x.sub = sub ∧ x.inst = inst)) ∧
      (∀ x ∈ s.svc.domWrites, ¬(x.index = i ∧ x.sub = sub ∧ x.inst = inst) → x ∈ t.svc.domWrites) ∧
      SameDict s t ∧ SameHbm s t ∧ SameCtxs s t) := by
  have hexec : exec (.domainWriteTimeout i sub inst) s = .next (s.setDomWrites
      (s.svc.domWrites.filter (fun x => !(x.index == i && x.sub == sub && x.inst == inst)))) := by
    change execDomainWriteTimeout i sub inst s = _
    exact onPower_on hp
  refine ⟨_, hexec, fun x hx => ?_, fun x hx hne => ?_, rfl, ⟨rfl, rfl⟩, rfl⟩
  · simpa [imp_iff_not_or, or_assoc] using (List.mem_filter.mp hx).2
  · exact List.mem_filter.mpr ⟨hx, by simpa [imp_iff_not_or, or_assoc] using hne⟩

/-- Settles O14: the tickets as they are read, collected and freed, and the segments as they are read and taken. -/
theorem ticketsAndSegments : Obligations.TicketsAndSegments := by
  unfold Obligations.TicketsAndSegments
  refine ⟨fun s via n k hp hn => ⟨fun hm hk hentry => ?_, ticketResultRead_collects hp, ticketResultRead_unheld hp,
      ticketExpire_frees hp, ticketExpire_waits hp⟩,
    fun s q o r ho hr hs hty hq hother => ⟨fun off n => readSeg_answers ho hr hs hty hq hother,
      fun data hp hm hmax hentry hfree => ⟨?_, fun x hx hi hsub hinst => ?_⟩, domainWriteTimeout_discards⟩⟩
  · have hexec := exec_ticket hp hm hn hk hentry
    constructor
    · intro hpending
      rw [hpending, payload_pending hpending] at hexec
      exact hexec
    · intro st hcomplete
      rw [hcomplete, payload_complete hcomplete] at hexec
      exact ⟨_, hexec, collect_held, rfl, ⟨rfl, rfl⟩, rfl⟩
  · exact writeSeg_takes ho hr hs hty hq hother hp hm hmax hentry hfree (.inl ⟨rfl, rfl, rfl⟩)
  · exact writeSeg_takes ho hr hs hty hq hother hp hm hmax hentry hfree (.inr ⟨rfl, rfl, x, hx, hi, hsub, hinst, rfl⟩)

end Sys2Proof.Machine
end

section
/-! PROOF. O15: accesses of the BAR2 window (R118, R123, R136). -/

namespace Sys2Proof.Machine

open Sys2Proof Sys2Proof.Safety

variable {s : State} {i sub : Nat} {o : Obj} {r : Row}

/-! ### The place of an access -/

theorem windowReq_place {ws : List Word} (hsub : sub < 256) :
    windowReq (i * 1024 + sub * 4) ws = writeReq bar2Via i sub ws := by
  unfold windowReq writeReq
  rw [show (i * 1024 + sub * 4) / 1024 = i by omega, show (i * 1024 + sub * 4) / 4 % 256 = sub by omega]

theorem windowFits_place (hi : i < 65536) (hsub : sub < 256) : windowFits (i * 1024 + sub * 4) 4 = true := by
  unfold windowFits
  simp
  omega

/-- The window shows the place of the access recorded last (R136). -/
theorem recordWindow_place {st k n : Nat} (hi : i < 65536) (hsub : sub < 256) :
    (s.recordWindow i sub st k n).val 0x0010 0x02 = i * 256 + sub := by
  have hplace : (i % 2 ^ 16 * 256 + sub % 256) % 2 ^ 32 = i * 256 + sub := by omega
  unfold State.recordWindow State.val State.valAt
  dsimp only
  split_ifs <;> simpa [State.regAt_put, toWord] using hplace

/-- A completion shows no register anew. -/
theorem val_emit {x : Out} {c : Nat} : (s.emit x).val i c = s.val i c :=
  congrArg BitVec.toNat State.regAt_emit

theorem recordWindow_onlyIn {t : State} {st k n : Nat} {x : Out} (h : ∀ j, SameObject j s t) :
    OnlyIn [0x0010] s ((t.recordWindow i sub st k n).emit x) :=
  onlyIn_of_keptD (by decide) fun j kd =>
    State.emit_kept (sameObject_kept j s) (State.recordWindow_kept (sameObject_kept j s) kd (h j))

/-! ### BAR2_READ -/

/-- A read of the window that every check lets through records its place and takes the object's first word. -/
theorem windowRead_readable (ho : findObj i = some o) (hr : o.row sub = some r) (hs : r.sub = sub)
    (hread : readable s (writeReq bar2Via i sub []) o r = true) (hi : i ≠ 0x0010) (hsub : sub < 256) :
    s.windowRead (i * 1024 + sub * 4) =
      ((s.afterRead (writeReq bar2Via i sub []) o r).recordWindow i sub 0 0 0,
        some (((reading s o r i).readObj o r i).headD 0)) := by
  have hop := opRead_readable (q := writeReq bar2Via i sub []) ho hr hs hread rfl fun h => hi h.1
  unfold State.windowRead
  dsimp only
  rw [windowReq_place hsub, hop, if_neg fun h => hi h.1]
  exact Prod.ext (if_neg hi) rfl

theorem exec_bar2Read {off w : Nat} (hp : s.key.powered = true) :
    exec (.bar2Read off w) s = .next (s.windowComplete off w) := by
  change execBar2Read off w s = _
  exact onPower_on hp

theorem bar2Read_completes (hp : s.key.powered = true) (hi : i < 65536) (hsub : sub < 256)
    (ho : findObj i = some o) (hr : o.row sub = some r) (hs : r.sub = sub)
    (hread : readable s (writeReq bar2Via i sub []) o r = true) (hne : i ≠ 0x0010) :
    Reaches (.bar2Read (i * 1024 + sub * 4) 4) s (fun t =>
      t.out = s.out ++ [.completion (BitVec.ofNat 64 (((reading s o r i).readObj o r i).headD 0).toNat)] ∧
      t.val 0x0010 0x01 = 0 ∧ t.val 0x0010 0x02 = i * 256 + sub ∧ OnlyIn [0x0010] s t) := by
  refine ⟨_, exec_bar2Read hp, ?_⟩
  unfold State.windowComplete
  rw [windowFits_place hi hsub, windowRead_readable ho hr hs hread hne hsub]
  refine ⟨State.emit_out.trans (congrArg (· ++ _) (recordWindow_out.trans afterRead_out)),
    val_emit.trans (recordWindow_status (by decide)), val_emit.trans (recordWindow_place hi hsub),
    recordWindow_onlyIn fun j => ?_⟩
  exact afterRead_kept (sameObject_kept j s) (sameObject_keptH j s) (sameObject_keptV j s) (SameObject.refl j s)

/-! ### BAR2_WRITE -/

/-- One word written through the window is a whole write on its path. -/
theorem exec_bar2Write {v : BitVec 64} (hi : i < 65536) (hsub : sub < 256) :
    exec (.bar2Write (i * 1024 + sub * 4) 4 v) s = s.put! Aux.none bar2Via i sub [v.extractLsb' 0 32] := by
  change execBar2Write _ _ v s = _
  unfold execBar2Write State.put! State.windowWrite
  rw [windowFits_place hi hsub, windowReq_place hsub]
  rfl

/-- The answer of a write through the window is its record. -/
theorem written_bar2 {ws : List Word} {st k n : Nat} (hi : i ≠ 0x0010) :
    s.written bar2Via i sub ws st k n = (s.traceAdd (.wrote i sub ws s.count)).recordWindow i sub st k n :=
  if_neg hi

theorem bar2Write_stores {v : BitVec 64} (h : (i, sub) ∈ (0x1004, 0x01) :: plainWords) (hne : i ≠ 0x0010)
    (hadm : admits s bar2Via i sub [v.extractLsb' 0 32] = true) :
    Reaches (.bar2Write (i * 1024 + sub * 4) 4 v) s (fun t =>
      t.reg i sub = v.extractLsb' 0 32 ∧ t.val 0x0010 0x01 = 0 ∧ OnlyIn [i, 0x0010, 0xF030] s t) := by
  obtain ⟨⟨hi, hsub⟩, htrace⟩ : (i < 65536 ∧ sub < 256) ∧ i ≠ 0xF030 :=
    (by decide : ∀ p ∈ (0x1004, 0x01) :: plainWords, (p.1 < 65536 ∧ p.2 < 256) ∧ p.1 ≠ 0xF030) _ h
  obtain ⟨t, hexec, hreg, honly, -⟩ := plainWord_takes (exec_bar2Write hi hsub) hadm h
  refine ⟨_, hexec, (State.written_regAt ?_).trans hreg, ?_, fun j hj hout => ?_⟩
  · rw [Nat.mod_eq_of_lt hi]
    exact ⟨hne, htrace⟩
  · rw [written_bar2 hne]
    exact recordWindow_status (by decide)
  · simp only [List.mem_cons, List.not_mem_nil, or_false, not_or] at hout
    obtain ⟨hself, hwindow, hring⟩ := hout
    exact fun u c => (State.written_regAt (by rw [Nat.mod_eq_of_lt hj]; exact ⟨hwindow, hring⟩)).trans
      (honly j hj (by simpa using hself) u c)

/-! ### BAR2_READ_TIMEOUT -/

theorem bar2ReadTimeout_records {h : HalfId} (hp : s.key.powered = true) (hi : i < 65536) (hsub : sub < 256)
    (ho : findObj i = some o) (hr : o.row sub = some r) (hserver : s.server o i r.single = some h) :
    Reaches (.bar2ReadTimeout (i * 1024 + sub * 4) 4) s (fun t => t.out = s.out ++ [.completion 0] ∧
      t.val 0x0010 0x01 = 0x6001 ∧ t.val 0x0010 0x02 = i * 256 + sub ∧ OnlyIn [0x0010] s t) := by
  have hlate : s.windowServer (i * 1024 + sub * 4) = some h := by
    unfold State.windowServer
    simp only [windowReq_place hsub, writeReq, ho, hr, hserver]
  have hexec : exec (.bar2ReadTimeout (i * 1024 + sub * 4) 4) s =
      .next ((s.recordLate h (i * 1024 + sub * 4)).emit (.completion 0)) := by
    change execBar2ReadTimeout _ _ s = _
    unfold execBar2ReadTimeout
    rw [onPower_on hp, hlate, windowFits_place hi hsub]
    rfl
  refine ⟨_, hexec, ?_⟩
  unfold State.recordLate
  rw [show (i * 1024 + sub * 4) / 1024 = i by omega, show (i * 1024 + sub * 4) / 4 % 256 = sub by omega]
  exact ⟨State.emit_out.trans (congrArg (· ++ _) recordWindow_out), val_emit.trans (recordWindow_status (by decide)),
    val_emit.trans (recordWindow_place hi hsub), recordWindow_onlyIn fun j => SameObject.refl j s⟩

/-! ### Accesses that do not fit (R118) -/

theorem bar2_aborts {off w : Nat} {v : BitVec 64} (hp : s.key.powered = true) (hfit : windowFits off w = false) :
    Reaches (.bar2Read off w) s (fun t => t = s.emit .abort) ∧
      Reaches (.bar2Write off w v) s (fun t => t = s.emit .abort) := by
  have hwrite : exec (.bar2Write off w v) s = .next (s.emit .abort) := by
    change execBar2Write off w v s = _
    unfold execBar2Write
    rw [onPower_on hp, hfit]
    rfl
  refine ⟨⟨_, exec_bar2Read hp, ?_⟩, ⟨_, hwrite, rfl⟩⟩
  unfold State.windowComplete
  rw [hfit]
  rfl

/-- Settles O15: each access of the window by what it completes with and what it records. -/
theorem windowAccessesAnswer : Obligations.WindowAccessesAnswer := by
  unfold Obligations.WindowAccessesAnswer
  intro s i sub hp hi hsub
  refine ⟨fun o r => bar2Read_completes hp hi hsub, fun v h hadm => ?_, fun o r h => bar2ReadTimeout_records hp hi hsub,
    fun off w v => bar2_aborts hp⟩
  exact bar2Write_stores ((by decide : _ ⊆ (0x1004, 0x01) :: plainWords) h)
    ((by decide : ∀ p ∈ [(0x0013, 0x01), (0x0013, 0x02), (0x1003, 0x01), (0x1004, 0x01)], p.1 ≠ 0x0010) _ h) hadm

end Sys2Proof.Machine
end

section
/-! PROOF. O16: the end of a deferred write, and the shed level of a manager (R116, R128, R132). -/

namespace Sys2Proof.Machine

open Sys2Proof Sys2Proof.Safety

variable {s : State} {u i sub : Nat} {ws : List Word} {k : Ticket} {h : HalfId} {load : Nat} {low : Bool}

/-! ### Words stored side by side -/

/-- Words are stored from their first place on. -/
theorem State.regAt_putsAt_below {c : Nat} (hc : c < sub) (hend : sub + ws.length ≤ 256) :
    (s.putsAt u i sub ws).regAt u i c = s.regAt u i c := by
  induction ws generalizing s sub with
  | nil => rfl
  | cons w r ih =>
    rw [List.length_cons] at hend
    refine (ih (by omega) (by omega)).trans (State.regAt_putAt_ne ?_)
    rw [ne_eq, dkey_unit]
    omega

theorem State.regAt_putsAt {j : Nat} (hj : j < ws.length) (hend : sub + ws.length ≤ 256) :
    (s.putsAt u i sub ws).regAt u i (sub + j) = ws.getD j 0 := by
  induction ws generalizing s sub j with
  | nil => cases hj
  | cons w r ih =>
    rw [List.length_cons] at hj hend
    cases j with
    | zero => exact (State.regAt_putsAt_below (Nat.lt_succ_self _) (by omega)).trans State.regAt_putAt_self
    | succ j =>
      rw [show sub + (j + 1) = sub + 1 + j by omega]
      exact ih (by omega) (by omega)

/-! ### DEFERRED_WRITE_COMPLETE (R116, R128) -/

/-- The ticket that ends has a status. -/
theorem endTicket_ends {n st : Nat} {x : Ticket} (hx : x ∈ (s.endTicket n st).svc.tickets) (hn : x.num = n) :
    x.status ≠ none := by
  unfold State.endTicket at hx
  rw [State.signal_svc] at hx
  obtain ⟨y, -, rfl⟩ := List.mem_map.mp hx
  by_cases hopen : (y.num == n && y.status.isNone) = true
  · rw [if_pos hopen]
    exact Option.some_ne_none st
  · rw [if_neg hopen] at hn ⊢
    intro hnone
    simp [hn, hnone] at hopen

@[simp] theorem State.endTicket_dict {n st : Nat} : (s.endTicket n st).dict = s.dict := State.signal_dict

/-- Deferred words of an object that is not checked anew are stored and counted where nothing failed. -/
theorem endDeferred_store {status : Nat} (hwork : k.work = .store i sub u ws) (hlow : i < 0x8000) (hi : i ≠ 0x1011) :
    s.endDeferred k status = if status = 0 then ((s.putsAt u i sub ws).bump 0x0010 0x09).endTicket k.num 0x0000
      else s.endTicket k.num status := by
  have hclaims : ¬(0x8000 ≤ i ∧ i ≤ 0x8BFF) := by omega
  have hsecret : i ≠ 0x9020 := by omega
  have hcheck : s.recheck i sub ws = 0 := by simp [State.recheck, hi]
  unfold State.endDeferred
  by_cases hst : status = 0
  · simp [hwork, hst, hcheck, hclaims, State.storeWords, State.afterStore, hi, hsecret]
  · simp [hwork, hst, hclaims]

/-- The end of a deferred write keeps what its words, its count and its ticket do. -/
theorem endDeferred_kept {P : State → Prop} (kk : Kept P) (kv : KeptV P) (ka : KeptAt P i) (kc : KeptAt P 0x0010)
    {status : Nat} (hwork : k.work = .store i sub u ws) (hlow : i < 0x8000) (hi : i ≠ 0x1011) (hs : P s) :
    P (s.endDeferred k status) := by
  rw [endDeferred_store hwork hlow hi]
  split
  · exact State.endTicket_kept kk kv (State.bump_kept kc (State.putsAt_kept ka hs))
  · exact State.endTicket_kept kk kv hs

theorem deferredWrite_stores (hlow : i < 0x8000) (hi : i ≠ 0x0010) (hend : sub + ws.length ≤ 256) :
    let t := ((s.putsAt u i sub ws).bump 0x0010 0x09).endTicket k.num 0x0000
    (∀ j, j < ws.length → t.regAt u i (sub + j) = ws.getD j 0) ∧ t.reg 0x0010 0x09 = s.reg 0x0010 0x09 + 1 := by
  have hother : SameObject 0x0010 s (s.putsAt u i sub ws) :=
    State.putsAt_kept (sameObject_at (by omega)) (SameObject.refl _ s)
  refine ⟨fun j hj => ?_, ?_⟩
  · rw [State.regAt_of_dict State.endTicket_dict, State.regAt_bump, if_neg (by rw [dkey_inj]; omega)]
    exact State.regAt_putsAt hj hend
  · unfold State.reg
    rw [State.regAt_of_dict State.endTicket_dict, State.regAt_bump, if_pos rfl, hother]

/-! ### SHED_LEVEL_UPDATE (R132) -/

/-- The level that a load gives a manager whose level was `old`. -/
def State.shedNext (s : State) (old load : Nat) (low : Bool) : Nat :=
  if old < s.levelOf load then s.levelOf load
  else if 0 < old ∧ low = true ∧ load + 10 ≤ s.val 0x0011 (0x06 + old) then old - 1 else old

theorem levelOf_le : s.levelOf load ≤ 3 := by
  unfold State.levelOf
  split_ifs <;> omega

theorem shedNext_le {old : Nat} (hold : old ≤ 3) : s.shedNext old load low ≤ 3 := by
  have hlevel := levelOf_le (s := s) (load := load)
  unfold State.shedNext
  split_ifs <;> omega

/-- A manager without writes that wait has nothing to replay. -/
theorem emptyQueue_nil (hq : (s.half h).tier1 = []) :
    s.emptyQueue h = s.modHalf h (fun c => { c with tier1 := [] }) := by
  unfold State.emptyQueue
  rw [hq]
  rfl

/-- The state after a manager's load has been measured: its calibration waits from level 2 on, below level 3 its queue
is served, and a level that moves is signalled. -/
def State.shedUpdated (s : State) (h : HalfId) (load old new : Nat) : State :=
  let t := ((s.put 0x0011 (0x01 + halfNum h) load).put 0x0011 (0x03 + halfNum h) new).modHalf h
    (fun c => { c with calDeferred := decide (2 ≤ new) })
  let t := if new < 3 then t.emptyQueue h else t
  if new = old then t else t.signal .f0 2

theorem exec_shedLevelUpdate (hp : s.key.powered = true) (hr : s.runs h = true) {old : Nat}
    (hold : s.val 0x0011 (0x03 + halfNum h) = old) : exec (.shedLevelUpdate h load low) s =
      .next (s.shedUpdated h load old (s.shedNext old load low)) := by
  subst hold
  change execShedLevelUpdate h load low s = _
  unfold execShedLevelUpdate
  rw [onPower_on hp, if_pos hr]
  rfl

theorem shedUpdated_dict {old new : Nat} (hq : (s.half h).tier1 = []) : (s.shedUpdated h load old new).dict =
    ((s.put 0x0011 (0x01 + halfNum h) load).put 0x0011 (0x03 + halfNum h) new).dict := by
  have hserved {t : State} (ht : (t.half h).tier1 = []) :
      (if new < 3 then t.emptyQueue h else t).dict = t.dict := by
    split
    · rw [emptyQueue_nil ht, State.modHalf_dict]
    · rfl
  unfold State.shedUpdated
  dsimp only
  rw [apply_ite State.dict, State.signal_dict, ite_self, hserved, State.modHalf_dict]
  rw [State.half_modHalf_self]
  cases h <;> exact hq

theorem shedUpdated_signals {old new : Nat} (hmoved : new ≠ old) :
    (Fn.f0, 2) ∈ (s.shedUpdated h load old new).port.vectors := by
  unfold State.shedUpdated
  dsimp only
  rw [if_neg hmoved]
  exact signal_waits

theorem shedLevelUpdate_reaches (hp : s.key.powered = true) (hr : s.runs h = true) (hq : (s.half h).tier1 = [])
    (hload : load < 2 ^ 32) {old : Nat} (hold : s.val 0x0011 (0x03 + halfNum h) = old) (hle : old ≤ 3) :
    Reaches (.shedLevelUpdate h load low) s (fun t => t.val 0x0011 (0x01 + halfNum h) = load ∧
      t.val 0x0011 (0x03 + halfNum h) = s.shedNext old load low ∧
      (s.shedNext old load low ≠ old → (Fn.f0, 2) ∈ t.port.vectors) ∧ OnlyIn [0x0011] s t) := by
  have hhalf : halfNum h < 2 := by cases h <;> decide
  have hnext := shedNext_le (s := s) (load := load) (low := low) hle
  have hreg {c i u : Nat} := State.regAt_of_dict (u := u) (i := i) (sub := c)
    (shedUpdated_dict (load := load) (old := old) (new := s.shedNext old load low) hq)
  refine ⟨_, exec_shedLevelUpdate hp hr hold, ?_, ?_, shedUpdated_signals, fun j hj hne u c => hreg.trans ?_⟩
  · exact (congrArg BitVec.toNat (hreg.trans (State.reg_put_ne (by omega)))).trans (State.val_put_self hload)
  · exact (congrArg BitVec.toNat hreg).trans (State.val_put_self (by omega))
  · have hout : j % 65536 ≠ 0x0011 % 65536 := by
      rw [Nat.mod_eq_of_lt hj]
      simpa using hne
    exact State.put_kept (sameObject_at hout) (State.put_kept (sameObject_at hout) (SameObject.refl j s)) u c

/-- Settles O16: a deferred write by its words, its count and its ticket, a shed level by where the load takes it. -/
theorem deferredWritesComplete : Obligations.DeferredWritesComplete := by
  unfold Obligations.DeferredWritesComplete
  refine fun s hp => ⟨fun num status k i sub u ws hk hwork hlow hi hend => ?_, fun h load low hr hq hload hle => ?_⟩
  · have hexec : exec (.deferredWriteComplete num status) s = .next (s.endDeferred k status) := by
      change execDeferredWriteComplete num status s = _
      unfold execDeferredWriteComplete
      rw [onPower_on hp, hk]
    have hnum : k.num = num := (by simpa using List.find?_some hk : k.num = num ∧ k.status = none).1
    have hstore : i ≠ 0x0010 ∧ i ≠ 0x1011 := by simpa using hi
    have hends := endDeferred_store (s := s) (status := status) hwork hlow hstore.2
    refine ⟨_, hexec, fun x hx hx' => ?_, fun hst => ?_, fun hst => ?_,
      endDeferred_kept (sameHbm_kept s) (sameHbm_keptV s) ((sameHbm_keptA s).mem i) ((sameHbm_keptA s).mem _)
        hwork hlow hstore.2 ⟨rfl, rfl⟩,
      endDeferred_kept (sameCtxs_kept s) (sameCtxs_keptV s) ((sameCtxs_keptA s).mem i) ((sameCtxs_keptA s).mem _)
        hwork hlow hstore.2 rfl⟩
    · rw [hends] at hx
      split at hx
      · exact endTicket_ends hx (hx'.trans hnum.symm)
      · exact endTicket_ends hx (hx'.trans hnum.symm)
    · rw [hends, if_pos hst]
      exact deferredWrite_stores hlow hstore.1 hend
    · rw [hends, if_neg hst]
      exact State.endTicket_dict
  · obtain ⟨t, hexec, hloaded, hlevel, hsignal, honly⟩ :=
      shedLevelUpdate_reaches (low := low) hp hr hq hload rfl hle
    refine ⟨t, hexec, hloaded, fun hup => ?_, fun hstay hlow => ?_, fun hdown hlow hpos hfloor => ?_,
      fun hmoved => hsignal (hlevel ▸ hmoved), honly⟩
    · rw [hlevel, State.shedNext, if_pos hup]
    · rw [hlevel, State.shedNext, if_neg hstay.not_gt, if_neg (by simp [hlow])]
    · rw [hlevel, State.shedNext, if_neg hdown.not_gt, if_pos ⟨hpos, hlow, hfloor⟩]

end Sys2Proof.Machine
end

section
/-! SUPPORT. Writes of a context's object by the rule they come to (R139, R140, R162). -/

namespace Sys2Proof.Machine

open Sys2Proof Sys2Proof.Safety

variable {s : State} {via : Via} {x : Aux} {n m sub : Nat} {ws : List Word} {w : Word} {f : Ctx → Ctx} {c : Ctx}

theorem cidx_of_le (hn : n ≤ 3071) : cidx n = 0x8000 + n := by
  unfold cidx
  omega

theorem ctxIndex_of_le (hn : n ≤ 3071) : ctxIndex n = 0x8000 + n := by
  rw [ctxIndex, if_pos hn, cidx_of_le hn]

/-- The verdict on a write of a context's object is that object's rule. -/
theorem verdict_context (hn : n ≤ 3071) (h : admits s via (0x8000 + n) sub ws = true) :
    ∃ d, verdict s x via (0x8000 + n) sub ws =
      (arrival s via (0x8000 + n) sub).actContextObject x via n sub ws d := by
  obtain ⟨_, _, _, o, r, ho, hr, rfl, _⟩ := admits_row h
  let a := arrival s via (0x8000 + n) r.sub
  refine ⟨a.plainWrite r (0x8000 + n) (a.unitOf o r) ws, (verdict_of ho hr).trans ?_⟩
  unfold State.act
  dsimp only
  rw [if_neg (by omega), if_neg (by omega), if_neg (by omega), if_neg (by omega), if_neg (by omega),
    if_neg (by omega), if_pos (by omega), Nat.add_sub_cancel_left]

theorem verdict_state (hn : n ≤ 3071) (h : admits s via (0x8000 + n) 0x01 [w] = true) :
    verdict s x via (0x8000 + n) 0x01 [w] = (arrival s via (0x8000 + n) 0x01).actState via n w x.decls := by
  obtain ⟨_, hd⟩ := verdict_context (x := x) hn h
  exact hd

/-! ### Contexts that a function changes -/

theorem ctx_modCtx_self (hf : ∀ c, (f c).n = c.n) (hc : s.ctx n = some c) : (s.modCtx n f).ctx n = some (f c) := by
  unfold State.modCtx
  rw [hc]
  dsimp only
  rw [ctx_setCtx, if_pos ((hf c).trans (ctx_num hc)).symm]

theorem ctx_modCtx_ne (hf : ∀ c, (f c).n = c.n) (hm : m ≠ n) : (s.modCtx n f).ctx m = s.ctx m := by
  unfold State.modCtx
  split
  · next c hc => rw [ctx_setCtx, if_neg (by rwa [hf, ctx_num hc])]
  · rfl

theorem ctx_noteFacts_self (hc : s.ctx n = some c) : ∃ l, (s.noteFacts n).ctx n = some { c with facts := l } :=
  ⟨_, ctx_modCtx_self (fun _ => rfl) hc⟩

theorem ctx_noteFacts_ne (hm : m ≠ n) : (s.noteFacts n).ctx m = s.ctx m := ctx_modCtx_ne (fun _ => rfl) hm

/-! ### The arrival of a write -/

theorem arrival_fn {i : Nat} {k : Fn} : (arrival s via i sub).fn k = s.fn k := by
  unfold State.fn
  rw [arrival_port]

theorem arrival_tspSession {i : Nat} {v : Via} {h : HalfId} :
    (arrival s via i sub).tspSession v h = s.tspSession v h := by
  have hsession : (arrival s via i sub).session = s.session := by
    funext id
    unfold State.session
    rw [arrival_sec]
  unfold State.tspSession
  rw [hsession, arrival_fn]

theorem arrival_retained {i : Nat} : (arrival s via i sub).retained = s.retained := by
  unfold State.retained
  rw [arrival_key, arrival_sameObject.val]

end Sys2Proof.Machine
end

section
/-! PROOF. O28: OPEN (R139 to R141, R468). -/

namespace Sys2Proof.Machine

open Sys2Proof Sys2Proof.Safety

variable {s : State} {via : Via} {n : Nat} {v : Word} {h : HalfId} {conf : Bool}

/-- The fields of an OPEN command are those of the word that it was made from. -/
theorem low4_open (hv : v.toNat < 1024) (hres : bitsOf v.toNat 4 4 = 0) :
    let w := (low4 v stOpen).toNat
    w < 1024 ∧ w % 16 = stOpen ∧ bitsOf w 4 4 = 0 ∧ bitsOf w 8 1 = bitsOf v.toNat 8 1 ∧
      bitsOf w 9 1 = bitsOf v.toNat 9 1 := by
  have hw : (low4 v stOpen).toNat = v.toNat / 16 * 16 + 1 := toWord_toNat (by unfold stOpen; omega)
  dsimp only
  rw [hw]
  unfold bitsOf stOpen at *
  omega

theorem actState_open {decls : List TensorDecl} (hc : s.ctx n = none) (hv : v.toNat < 1024)
    (hres : bitsOf v.toNat 4 4 = 0) : s.actState via n (low4 v stOpen) decls =
      s.openCtx via n (halfOf (bitsOf v.toNat 8 1)) (bitsOf v.toNat 9 1 == 1) := by
  obtain ⟨hlt, hwant, hzero, hhalf, hconf⟩ := low4_open hv hres
  unfold State.actState
  dsimp only
  rw [if_neg (by omega), if_neg (by rw [hwant]; decide), hc]
  dsimp only
  rw [if_pos hwant, hhalf, hconf]

theorem verdict_open {x : Aux} (hn : n ≤ 3071) (hc : s.ctx n = none) (hv : v.toNat < 1024)
    (hres : bitsOf v.toNat 4 4 = 0) (hadm : admits s via (0x8000 + n) 0x01 [low4 v stOpen] = true) :
    verdict s x via (0x8000 + n) 0x01 [low4 v stOpen] = (arrival s via (0x8000 + n) 0x01).openCtx via n
      (halfOf (bitsOf v.toNat 8 1)) (bitsOf v.toNat 9 1 == 1) :=
  (verdict_state hn hadm).trans (actState_open ((arrival_ctx n).trans hc) hv hres)

theorem exec_ctxOpen (hn : n ≤ 3071) :
    exec (.ctxOpen via n v) s = s.put! Aux.none via (0x8000 + n) 0x01 [low4 v stOpen] := by
  change execCtxOpen via n v s = _
  rw [execCtxOpen, ctxIndex_of_le hn]

/-- The context that OPEN makes. -/
def State.openedCtx (s : State) (via : Via) (n : Nat) (h : HalfId) (conf : Bool) : Ctx :=
  Ctx.opened n h conf (if conf then via.session else none)
    (if conf then ((via.session.bind s.session).map (fun x => sha256Bytes x.requester)).getD [] else []) s.drawKey

/-- The state after OPEN: the context, the confidential bit of its flags, and its facts. -/
def State.opened (s : State) (via : Via) (n : Nat) (h : HalfId) (conf : Bool) : State :=
  ((((s.freeSkip 16).setCtx (s.openedCtx via n h conf)).put (cidx n) 0x05 (if conf then 1 else 0)).noteFacts n)

/-- OPEN is let through where nothing of R141 and R468 stands against it. -/
theorem openCtx_opens (hconf : conf = false ∨ (s.tspSession via h = true ∧ bitsOf (s.val 0x1002 0x03) 4 5 = 0))
    (hfence : s.fenced h = false) (hruns : s.runs h = true) (hret : s.retained = false)
    (hent : s.sec.entropyOk = true) : s.openCtx via n h conf = .apply (s.opened via n h conf) := by
  have hallowed : (conf && (!s.tspSession via h || bitsOf (s.val 0x1002 0x03) 4 5 != 0)) = false := by
    rcases hconf with e | ⟨htsp, hdebug⟩
    · simp [e]
    · simp [htsp, hdebug]
  unfold State.openCtx
  rw [if_neg (by simp [hallowed]), if_neg (by simp [hfence]), if_neg (by simp [hruns, hret]), if_neg (by simp [hent])]
  rfl

theorem opened_ctx : ∃ l, (s.opened via n h conf).ctx n = some { s.openedCtx via n h conf with facts := l } := by
  refine ctx_noteFacts_self ?_
  rw [ctx_of_ctxs State.put_ctxs]
  exact ctx_setCtx.trans (if_pos rfl)

theorem opened_ctx_ne {m : Nat} (hm : m ≠ n) : (s.opened via n h conf).ctx m = s.ctx m := by
  unfold State.opened
  rw [ctx_noteFacts_ne hm, ctx_of_ctxs State.put_ctxs]
  exact ctx_setCtx.trans (if_neg hm)

theorem opened_flags : (s.opened via n h conf).val (cidx n) 0x05 = if conf then 1 else 0 := by
  unfold State.opened State.noteFacts State.val State.valAt
  rw [State.regAt_of_dict State.modCtx_dict]
  exact State.val_put_self (by split <;> decide)

theorem opened_sameObject {j : Nat} (hj : j % 65536 ≠ cidx n % 65536) : SameObject j s (s.opened via n h conf) :=
  State.noteFacts_kept (sameObject_kept j s) (sameObject_keptC j s)
    (State.put_kept (sameObject_at hj) fun _ _ => State.regAt_of_dict State.setCtx_dict)

theorem opened_sameHbm : SameHbm s (s.opened via n h conf) := by
  unfold State.opened State.noteFacts SameHbm
  simp [State.freeSkip]

/-- Settles O28: OPEN as its verdict has it, and what the context it makes is. -/
theorem openMakesAContext : Obligations.OpenMakesAContext := by
  unfold Obligations.OpenMakesAContext
  intro s via n v hn hc hv hres hadm
  dsimp only
  set h := halfOf (bitsOf v.toNat 8 1)
  set conf := bitsOf v.toNat 9 1 == 1
  let a := arrival s via (0x8000 + n) 0x01
  have hverdict : verdict s Aux.none via (0x8000 + n) 0x01 [low4 v stOpen] = a.openCtx via n h conf :=
    verdict_open hn hc hv hres hadm
  refine ⟨fun hconf hfence hruns hret hent => ?_, fun hconf htsp => ?_, fun hconf hfence => ?_⟩
  · rw [openCtx_opens (hconf.imp id fun e => ⟨arrival_tspSession.trans e.1, by rw [arrival_sameObject.val, e.2]⟩)
      ((arrival_fenced h).trans hfence) ((arrival_runs h).trans hruns) (arrival_retained.trans hret)
      (by rw [arrival_sec, hent])] at hverdict
    obtain ⟨l, hopened⟩ := opened_ctx (s := a) (via := via) (n := n) (h := h) (conf := conf)
    refine takes_of (exec_ctxOpen hn) hadm hverdict ⟨⟨_, hopened, rfl, rfl, rfl, rfl, rfl⟩, ?_, fun m hm => ?_,
      fun j hj hne => ?_, ?_⟩
    · rw [← cidx_of_le hn]
      exact opened_flags
    · exact (opened_ctx_ne hm).trans (arrival_ctx m)
    · refine arrival_sameObject.trans (opened_sameObject ?_)
      rw [cidx_of_le hn, Nat.mod_eq_of_lt hj, Nat.mod_eq_of_lt (by omega)]
      simpa using hne
    · rw [SameHbm, ← arrival_hbm0 (s := s), ← arrival_hbm1 (s := s)]
      exact opened_sameHbm
  · refine refuses_of (exec_ctxOpen hn) hadm (hverdict.trans (?_ : _ = Verdict.refuse 0x5001 0)) (by decide) rfl
    unfold State.openCtx
    rw [if_pos (by simp [hconf, a, arrival_tspSession, htsp])]
  · refine refuses_of (exec_ctxOpen hn) hadm (hverdict.trans (?_ : _ = Verdict.refuse 0x3004 0)) (by decide) rfl
    unfold State.openCtx
    rw [if_neg (by simp [hconf]), if_pos ((arrival_fenced h).trans hfence)]

end Sys2Proof.Machine
end

section
/-! SUPPORT. What the entries of the object tables let through, and events of a context (R112, R161). -/

namespace Sys2Proof.Machine

open Sys2Proof Sys2Proof.Safety

variable {s t : State} {via : Via} {n m b sub : Nat}

theorem findRow_context (hn : n ≤ 3071) : findRow (0x8000 + n) sub = findRow 0x8000 sub := by
  have hbase : baseIndex (0x8000 + n) = baseIndex 0x8000 := by
    unfold baseIndex
    rw [if_pos (by omega), if_pos (by omega)]
  unfold findRow findObj
  rw [hbase]

/-- A value that passes the checks of a row sets none of the row's reserved bits. -/
theorem rngReserved_of_valueStatus {r : Row} {ws : List Word} (hty : r.ty ≠ .array) (h : r.valueStatus ws = 0) :
    rngReserved r.rng (wordsNat ws) = false := by
  unfold Row.valueStatus at h
  split at h
  · exact absurd ‹_› hty
  · dsimp only at h
    split_ifs at h with hres
    simp only [List.any_cons, List.any_nil, Bool.or_false, Bool.or_eq_true, not_or, Bool.not_eq_true] at hres
    exact hres.2

theorem val64_of_sameObject {i : Nat} (h : SameObject i s t) : t.val64 i sub = s.val64 i sub := by
  unfold State.val64 State.val64At State.valAt
  rw [h, h]

/-! ### Events (R161) -/

/-- An event writes its bit, where it does not stand, and nothing else of the dictionary. -/
theorem ctxEvent_dict : (s.ctxEvent n b).dict = s.dict ∨
    (s.ctxEvent n b).dict = (s.putFlag (cidx n) 0x1F b true).dict := by
  unfold State.ctxEvent
  split
  · exact .inl rfl
  · dsimp only
    split
    · split
      · exact .inr State.signal_dict
      · exact .inr rfl
    · exact .inr rfl

theorem ctxEvent_flag (hb : b < 32) : (s.ctxEvent n b).flag (cidx n) 0x1F b = true := by
  have hput : (s.putFlag (cidx n) 0x1F b true).flag (cidx n) 0x1F b = true := by
    rw [State.flag_putFlag, if_pos rfl, decide_eq_true hb, Bool.and_self]
  unfold State.ctxEvent
  split
  · assumption
  · dsimp only
    split
    · split
      · unfold State.flag State.reg
        rwa [State.regAt_signal]
      · exact hput
    · exact hput

/-- An event changes no object but the context's. -/
theorem ctxEvent_sameObject {j : Nat} (hj : j % 65536 ≠ cidx n % 65536) : SameObject j s (s.ctxEvent n b) := by
  rcases ctxEvent_dict (s := s) (n := n) (b := b) with e | e
  · exact fun _ _ => State.regAt_of_dict e
  · exact sameObject_of_dict (State.putFlag_kept (sameObject_at hj) (SameObject.refl j s)) e

/-- An object other than the context's, as the statements name them. -/
theorem mod_ne_cidx {j : Nat} (hj : j < 65536) (hne : j ∉ [cidx n]) : j % 65536 ≠ cidx n % 65536 := by
  rw [Nat.mod_eq_of_lt hj, Nat.mod_eq_of_lt (by unfold cidx; omega)]
  simpa using hne

/-! ### Faults (R142, R146) -/

theorem ctxState_of_ctx {c : Ctx} (hc : s.ctx n = some c) : s.ctxState n = c.state := by
  unfold State.ctxState
  rw [hc]

theorem ctxState_congr (h : t.ctx n = s.ctx n) : t.ctxState n = s.ctxState n := by
  unfold State.ctxState
  rw [h]

theorem settle_ctx {asked : Bool} : (s.settle m asked).ctx n = s.ctx n :=
  ctx_of_ctxs (State.settle_kept (sameCtxs_kept s) (sameCtxs_keptV s) rfl)

theorem ctxEvent_ctx : (s.ctxEvent m b).ctx n = s.ctx n :=
  ctx_of_ctxs (State.ctxEvent_kept (sameCtxs_kept s) (sameCtxs_keptA s).toN rfl)

theorem toHold_ctx_ne (hm : n ≠ m) : (s.toHold m).ctx n = s.ctx n := by
  unfold State.toHold
  split
  · rfl
  · next c hc =>
    dsimp only
    rw [ctxEvent_ctx, ctx_setCtx, if_neg (by rwa [ctx_num hc]), settle_ctx]

theorem askHold_ctx_ne (hm : n ≠ m) : (s.askHold m).ctx n = s.ctx n := by
  unfold State.askHold
  split
  · rfl
  · next c hc =>
    split
    · exact toHold_ctx_ne hm
    · rw [ctx_setCtx, if_neg (by rwa [ctx_num hc])]

theorem setReason_ctx : (s.setReason m b).ctx n = s.ctx n := ctx_of_ctxs State.putFlag_ctxs

/-- A hold reason changes its own context alone. -/
theorem reasonHold_ctx_ne {all : Bool} (hm : n ≠ m) : (s.reasonHold m b all).ctx n = s.ctx n := by
  unfold State.reasonHold
  split
  · rfl
  · next c hc =>
    split_ifs
    · rfl
    · rw [askHold_ctx_ne hm, setReason_ctx]
    · exact setReason_ctx
    · rw [toHold_ctx_ne hm, setReason_ctx, ctx_setCtx, if_neg (by rwa [ctx_num hc])]
    · rfl

/-- A context in FAULT takes no reason of its owner. -/
theorem reasonHold_fault (h : s.ctxState n = stFault) : (s.reasonHold m b false).ctxState n = stFault := by
  by_cases hm : n = m
  · subst hm
    unfold State.reasonHold
    split
    · exact h
    · next c hc =>
      have hst : c.state = stFault := (ctxState_of_ctx hc).symm.trans h
      have hgoing : c.going = false := by rw [Ctx.going, hst]; rfl
      have hhold : c.state ≠ stHold := by rw [hst]; decide
      simpa [hgoing, hhold] using h
  · exact (ctxState_congr (reasonHold_ctx_ne hm)).trans h

theorem holdCompanions_faulted (h : s.ctxState n = stFault ∧ s.hasReason n b = true) :
    (s.holdCompanions m).ctxState n = stFault ∧ (s.holdCompanions m).hasReason n b = true :=
  ⟨Kept.foldl (P := fun t => t.ctxState n = stFault) (fun _ _ ht => reasonHold_fault ht) h.1,
    holdCompanions_onlyHolds.reason _ _ h.2⟩

/-- A context that is set to FAULT, and says so, stays in it with its reasons. -/
theorem setCtx_faulted {x : Ctx} (hx : x.n = n) (hst : x.state = stFault) (h : s.hasReason n b = true) :
    ((s.setCtx x).ctxEvent n evFault).ctxState n = stFault ∧
      ((s.setCtx x).ctxEvent n evFault).hasReason n b = true := by
  refine ⟨?_, ctxEvent_onlyHolds.reason _ _ ((hasReason_of_dict State.setCtx_dict).trans h)⟩
  rw [ctxState_of_ctx (ctxEvent_ctx.trans (ctx_setCtx.trans (if_pos hx.symm))), hst]

/-- A context that is not being released faults with the reason. -/
theorem enterFault_faults {c : Ctx} (hb : b < 32) (hc : s.ctx n = some c) (hrel : c.releasing = false) :
    (s.enterFault n b).ctxState n = stFault ∧ (s.enterFault n b).hasReason n b = true := by
  have hreason : (((s.dropSnapshots n).setReason n b).settle n false).hasReason n b = true :=
    settle_onlyHolds.reason _ _ (hasReason_setReason hb)
  have hn : c.n = n := ctx_num hc
  unfold State.enterFault
  rw [hc]
  dsimp only
  rw [if_neg (by simp [hrel])]
  split
  · exact holdCompanions_faulted (setCtx_faulted (by exact hn) rfl hreason)
  · exact setCtx_faulted (by exact hn) rfl hreason

end Sys2Proof.Machine
end

section
/-! PROOF. O33: events, numerics holds, producer counts and stream waits (R157, R159, R161, R298). -/

namespace Sys2Proof.Machine

open Sys2Proof Sys2Proof.Safety

variable {s : State} {via : Via} {n : Nat} {v : Word} {c : Ctx} {x : Aux}

/-! ### EVENT_ACK (R161) -/

theorem exec_eventAck (hn : n ≤ 3071) : exec (.eventAck via n v) s = s.put! Aux.none via (0x8000 + n) 0x20 [v] := by
  change execEventAck via n v s = _
  rw [execEventAck, ctxIndex_of_le hn]

theorem admits_eventAck (hn : n ≤ 3071) (hadm : admits s via (0x8000 + n) 0x20 [v] = true) : v.toNat < 128 := by
  obtain ⟨r, hr, hvalue⟩ := admits_valueStatus hadm
  have hrow : findRow 0x8000 0x20 = some ⟨0x20, .u32, 1, .bool, .wo, .val 0, .p0, .mask 0x7F, false⟩ := rfl
  obtain rfl := Option.some.inj (hrow.symm.trans ((findRow_context hn).symm.trans hr))
  have hmask : v.toNat &&& 0x7F = v.toNat := by
    simpa [rngReserved, wordsNat] using rngReserved_of_valueStatus (by decide) hvalue
  have hle : v.toNat &&& 0x7F ≤ 0x7F := Nat.and_le_right
  omega

theorem verdict_eventAck (hn : n ≤ 3071) (hc : s.ctx n = some c)
    (hadm : admits s via (0x8000 + n) 0x20 [v] = true) : verdict s x via (0x8000 + n) 0x20 [v] =
      .apply ((arrival s via (0x8000 + n) 0x20).putAt 0 (cidx n) 0x1F (s.reg (cidx n) 0x1F &&& ~~~v)) := by
  obtain ⟨_, hd⟩ := verdict_context (x := x) hn hadm
  have hact : verdict s x via (0x8000 + n) 0x20 [v] = (arrival s via (0x8000 + n) 0x20).actAck n v := hd
  have hlt := admits_eventAck hn hadm
  rw [hact, State.actAck, if_neg (by omega), arrival_ctx, hc]
  dsimp only
  rw [arrival_sameObject.reg]

theorem eventAck_clears (hn : n ≤ 3071) (hc : s.ctx n = some c)
    (hadm : admits s via (0x8000 + n) 0x20 [v] = true) :
    Takes (.eventAck via n v) s via (0x8000 + n) 0x20 [v] (fun t =>
      t.reg (cidx n) 0x1F = s.reg (cidx n) 0x1F &&& ~~~v ∧ OnlyIn [cidx n] s t ∧ SameHbm s t ∧ SameCtxs s t) := by
  refine takes_of (exec_eventAck hn) hadm (verdict_eventAck hn hc hadm) ⟨State.regAt_putAt_self, fun j hj hne => ?_,
    ⟨?_, ?_⟩, ?_⟩
  · exact State.putAt_kept (sameObject_at (mod_ne_cidx hj hne)) arrival_sameObject
  · rw [State.putAt_hbm0, arrival_hbm0]
  · rw [State.putAt_hbm1, arrival_hbm1]
  · rw [SameCtxs, State.putAt_ctxs, arrival_ctxs]

/-! ### NUMERICS_RELEASE (R298) -/

theorem admits_numerics (hadm : admits s via 0x3032 0x02 [v] = true) : v = 1 ∨ v = 2 := by
  obtain ⟨r, hr, hvalue⟩ := admits_valueStatus hadm
  have hrow : findRow 0x3032 0x02 = some ⟨0x02, .u8, 1, .bool, .wo, .val 0, .p0, .oneOf [1, 2], false⟩ := rfl
  obtain rfl := Option.some.inj (hrow.symm.trans hr)
  have hrange : rngStatus (.oneOf [1, 2]) v.toNat = 0 := by
    simpa [wordsNat] using rngStatus_of_valueStatus (by decide) hvalue
  have hone : v.toNat = 1 ∨ v.toNat = 2 := by
    unfold rngStatus at hrange
    dsimp only at hrange
    split_ifs at hrange with hmem
    simpa using hmem
  exact hone.imp BitVec.eq_of_toNat_eq BitVec.eq_of_toNat_eq

theorem verdict_numerics (hsel : s.val 0x3032 0x01 = n) (hadm : admits s via 0x3032 0x02 [v] = true) :
    verdict s x via 0x3032 0x02 [v] = (arrival s via 0x3032 0x02).actNumerics n v := by
  obtain ⟨_, _, _, o, r, ho, hr, hsub, _⟩ := admits_row hadm
  rw [← hsel, ← arrival_sameObject (s := s) (via := via) (i := 0x3032) (sub := 0x02) |>.val, verdict_of ho hr]
  unfold State.act
  rw [hsub]
  rfl

/-- A numerics hold has ended: its reason, its layer and kind and the storm of its step are gone. -/
def State.numericsReleased (s : State) (n : Nat) : State :=
  (((s.clearReason n rNumerics).putAt n 0x3032 0x04 0).putAt n 0x3032 0x03 0).modCtx n
    (fun c => { c with lastStorm := 0 })

theorem actNumerics_releases (hv : v = 1 ∨ v = 2) (hst : s.ctxState n = stHold)
    (hreason : s.hasReason n rNumerics = true) : s.actNumerics n v =
      .apply (if v = 2 then (s.numericsReleased n).resetWatches n else s.numericsReleased n) := by
  unfold State.actNumerics
  rw [if_neg (by rcases hv with rfl | rfl <;> decide), if_pos ⟨hst, hreason⟩]
  rfl

theorem actNumerics_refuses (hv : v = 1 ∨ v = 2) (hreason : s.hasReason n rNumerics = false) :
    s.actNumerics n v = .refuse 0x3001 0 := by
  unfold State.actNumerics
  rw [if_neg (by rcases hv with rfl | rfl <;> decide), if_neg (by simp [hreason])]

theorem numericsReleased_words : (s.numericsReleased n).hasReason n rNumerics = false ∧
    (s.numericsReleased n).valAt n 0x3032 0x03 = 0 ∧ (s.numericsReleased n).valAt n 0x3032 0x04 = 0 := by
  have hidx : 0x3032 % 65536 ≠ cidx n % 65536 := by unfold cidx; omega
  unfold State.numericsReleased State.hasReason State.flag State.reg State.valAt
  simp only [State.regAt_modCtx]
  refine ⟨?_, congrArg BitVec.toNat State.regAt_putAt_self, ?_⟩
  · rw [State.regAt_putAt_ne (by rw [Ne, dkey_inj]; omega), State.regAt_putAt_ne (by rw [Ne, dkey_inj]; omega)]
    exact State.flag_putFlag.trans (by simp)
  · rw [State.regAt_putAt_ne (by rw [Ne, dkey_inj]; omega), State.regAt_putAt_self]
    rfl

/-- The norm watch's words are the only registers that its reset changes. -/
theorem resetWatches_sameObject {j : Nat} (hj : j % 65536 ≠ 0x3031) : SameObject j s (s.resetWatches n) := by
  intro u k
  unfold State.resetWatches
  rw [State.regAt_dropKeys, keyIndex_dkey, if_neg (by simp [hj]), State.regAt_modCtx]

theorem resetWatches_ctx (hc : s.ctx n = some c) : (s.resetWatches n).ctx n = some { c with watches := [] } := by
  unfold State.resetWatches
  rw [ctx_of_ctxs State.dropKeys_ctxs]
  exact ctx_modCtx_self (fun _ => rfl) hc

theorem numericsReleased_ctx (hc : s.ctx n = some c) :
    (s.numericsReleased n).ctx n = some { c with lastStorm := 0 } := by
  refine ctx_modCtx_self (fun _ => rfl) ((ctx_of_ctxs ?_).trans hc)
  rw [State.putAt_ctxs, State.putAt_ctxs]
  exact State.putFlag_ctxs

theorem numericsRelease_takes (hc : s.ctx n = some c) (hsel : s.val 0x3032 0x01 = n)
    (hadm : admits s via 0x3032 0x02 [v] = true) (hst : c.state = stHold) (hreason : s.hasReason n rNumerics = true) :
    Takes (.numericsRelease via v) s via 0x3032 0x02 [v] (fun t =>
      t.hasReason n rNumerics = false ∧ t.valAt n 0x3032 0x03 = 0 ∧ t.valAt n 0x3032 0x04 = 0 ∧
      (∃ d, t.ctx n = some d ∧ d.state = stHold ∧ (v.toNat = 2 → d.watches = [])) ∧ SameHbm s t) := by
  let a := arrival s via 0x3032 0x02
  have hv := admits_numerics hadm
  have hctx : a.ctx n = some c := (arrival_ctx n).trans hc
  have hverdict := (verdict_numerics (x := Aux.none) hsel hadm).trans (actNumerics_releases hv
    ((ctxState_of_ctx hctx).trans hst) ((arrival_sameObject.flag _ _).trans hreason))
  have hhbm : SameHbm a (if v = 2 then (a.numericsReleased n).resetWatches n else a.numericsReleased n) := by
    have hkept := State.actNumerics_kept (sameHbm_kept a) (sameHbm_keptC a) (sameHbm_keptA a).toD
      (sameHbm_keptA a).toN (sameHbm_keptQ a) (s := a) (n := n) (w := v) ⟨rfl, rfl⟩
    rwa [actNumerics_releases hv ((ctxState_of_ctx hctx).trans hst)
      ((arrival_sameObject.flag _ _).trans hreason)] at hkept
  obtain ⟨hgone, hlayer, hkind⟩ := numericsReleased_words (s := a) (n := n)
  rw [SameHbm, arrival_hbm0, arrival_hbm1] at hhbm
  refine takes_of rfl hadm hverdict ?_
  rw [← and_assoc, ← and_assoc, ← and_assoc]
  refine ⟨?_, hhbm⟩
  split
  · have hwords {j : Nat} (hj : j % 65536 ≠ 0x3031) := resetWatches_sameObject (s := a.numericsReleased n) (n := n) hj
    have hidx : cidx n % 65536 ≠ 0x3031 := by unfold cidx; omega
    refine ⟨⟨⟨?_, ?_⟩, ?_⟩, _, resetWatches_ctx (numericsReleased_ctx hctx), hst, fun _ => rfl⟩
    · exact ((hwords hidx).flag _ _).trans hgone
    · exact (congrArg BitVec.toNat (hwords (by decide) n 0x03)).trans hlayer
    · exact (congrArg BitVec.toNat (hwords (by decide) n 0x04)).trans hkind
  · next hne =>
    exact ⟨⟨⟨hgone, hlayer⟩, hkind⟩, _, numericsReleased_ctx hctx, hst, fun e =>
      absurd (BitVec.eq_of_toNat_eq e) hne⟩

/-! ### PRODUCER_UPDATE (R157, R159) -/

theorem tryStep_idle (hc : s.ctx n = some c) (h : c.state ≠ stRun ∨ c.phase ≠ 0) : s.tryStep n = s := by
  unfold State.tryStep
  rw [hc]
  exact if_pos h

/-- The producer line has entered the half's partition. -/
def State.producerRead (s : State) (n : Nat) (c : Ctx) : State :=
  s.fillLine c.half (lineStart (s.val64 (cidx n) 0x45)) false []

theorem producerRead_onlyIn : OnlyIn [0xA003] s (s.producerRead n c) :=
  onlyIn_of_keptD (by decide) fun i kd => State.fillLine_kept (sameObject_kept i s) kd (SameObject.refl i s)

theorem producerRead_context : SameObject (cidx n) s (s.producerRead n c) :=
  producerRead_onlyIn _ (by unfold cidx; omega) (by simp only [List.mem_singleton]; unfold cidx; omega)

theorem producerRead_sameHbm : SameHbm s (s.producerRead n c) :=
  State.fillLine_kept (sameHbm_kept s) (sameHbm_keptA s).toD ⟨rfl, rfl⟩

theorem producerRead_ctxs : (s.producerRead n c).ctxs = s.ctxs :=
  State.fillLine_kept (P := SameCtxs s) (sameCtxs_kept s) (sameCtxs_keptA s).toD rfl

theorem producerRead_line : ∃ l ∈ (s.producerRead n c).port.cache, l.half = c.half ∧
    l.addr = lineStart (s.val64 (cidx n) 0x45) :=
  ⟨_, List.mem_append_right _ (List.mem_singleton_self _), rfl, rfl⟩

theorem exec_producerUpdate (hp : s.key.powered = true) (hc : s.ctx n = some c) (hstream : s.streaming n = true)
    (hrel : c.releasing = false) (hgoing : c.going = true ∨ c.state = stHold) {value : BitVec 64} :
    exec (.producerUpdate n value) s = .next
      (if value.toNat % 2 ^ 63 < c.producer ∨
          2 ^ s.val (cidx n) 0x43 < value.toNat % 2 ^ 63 - s.val64 (cidx n) 0x4C then
        (s.producerRead n c).enterFault n rStream
      else ((s.producerRead n c).setCtx
        { c with producer := value.toNat % 2 ^ 63, ended := value.getLsbD 63 }).tryStep n) := by
  have hgo : (c.going || c.state == stHold) = true := by simpa using hgoing
  change execProducerUpdate n value s = _
  unfold execProducerUpdate
  rw [onPower_on hp, hc]
  dsimp only
  rw [if_neg (by simp [hstream, hrel, hgo])]
  have hring := (producerRead_context (s := s) (n := n) (c := c)).val 0x43
  have hdone := val64_of_sameObject (sub := 0x4C) (producerRead_context (s := s) (n := n) (c := c))
  rw [← hring, ← hdone]
  rfl

theorem producerUpdate_takes (hp : s.key.powered = true) (hc : s.ctx n = some c) (hstream : s.streaming n = true)
    (hrel : c.releasing = false) (hgoing : c.going = true ∨ c.state = stHold) {value : BitVec 64}
    (hup : c.producer ≤ value.toNat % 2 ^ 63)
    (hring : value.toNat % 2 ^ 63 - s.val64 (cidx n) 0x4C ≤ 2 ^ s.val (cidx n) 0x43)
    (hidle : c.state ≠ stRun ∨ c.phase ≠ 0) : Reaches (.producerUpdate n value) s (fun t =>
      t.ctx n = some { c with producer := value.toNat % 2 ^ 63, ended := value.getLsbD 63 } ∧
      (∃ l ∈ t.port.cache, l.half = c.half ∧ l.addr = lineStart (s.val64 (cidx n) 0x45)) ∧
      OnlyIn [0xA003] s t ∧ SameHbm s t) := by
  have hctx : ((s.producerRead n c).setCtx
      { c with producer := value.toNat % 2 ^ 63, ended := value.getLsbD 63 }).ctx n =
      some { c with producer := value.toNat % 2 ^ 63, ended := value.getLsbD 63 } :=
    ctx_setCtx.trans (if_pos (ctx_num hc).symm)
  refine ⟨_, (exec_producerUpdate hp hc hstream hrel hgoing).trans ?_, hctx, producerRead_line, fun j hj hne => ?_, ?_⟩
  · rw [if_neg (by omega), tryStep_idle hctx hidle]
  · exact State.setCtx_kept (sameObject_kept j s) (sameObject_keptC j s) (producerRead_onlyIn j hj hne)
  · exact State.setCtx_kept (sameHbm_kept s) (sameHbm_keptC s) producerRead_sameHbm

theorem producerUpdate_faults (hp : s.key.powered = true) (hc : s.ctx n = some c) (hstream : s.streaming n = true)
    (hrel : c.releasing = false) (hgoing : c.going = true ∨ c.state = stHold) {value : BitVec 64}
    (hbad : value.toNat % 2 ^ 63 < c.producer ∨
      2 ^ s.val (cidx n) 0x43 < value.toNat % 2 ^ 63 - s.val64 (cidx n) 0x4C) :
    Reaches (.producerUpdate n value) s (fun t =>
      t.ctxState n = stFault ∧ t.flag (cidx n) 0x02 rStream = true ∧ SameHbm s t) := by
  obtain ⟨hfault, hreason⟩ := enterFault_faults (b := rStream) (by decide)
    ((ctx_of_ctxs producerRead_ctxs).trans hc) hrel
  exact ⟨_, (exec_producerUpdate hp hc hstream hrel hgoing).trans (congrArg _ (if_pos hbad)), hfault, hreason,
    State.enterFault_kept (sameHbm_kept s) (sameHbm_keptC s) (sameHbm_keptV s) (sameHbm_keptA s).toD
      (sameHbm_keptA s).toN producerRead_sameHbm⟩

/-! ### STREAM_WAIT_TIMEOUT (R161) -/

theorem streamWaitTimeout_shows (hp : s.key.powered = true) (hc : s.ctx n = some c) (hst : c.state = stRun)
    (hwait : s.val (cidx n) 0x4E = 1) : Reaches (.streamWaitTimeout n) s (fun t =>
      t.flag (cidx n) 0x1F evWait = true ∧ OnlyIn [cidx n] s t ∧ SameHbm s t ∧ SameCtxs s t) := by
  have hexec : exec (.streamWaitTimeout n) s = .next (s.ctxEvent n evWait) := by
    change execStreamWaitTimeout n s = _
    unfold execStreamWaitTimeout
    rw [onPower_on hp, if_pos ⟨(ctxState_of_ctx hc).trans hst, hwait⟩]
  exact ⟨_, hexec, ctxEvent_flag (by decide), fun j hj hne => ctxEvent_sameObject (mod_ne_cidx hj hne),
    State.ctxEvent_kept (sameHbm_kept s) (sameHbm_keptA s).toN ⟨rfl, rfl⟩,
    State.ctxEvent_kept (sameCtxs_kept s) (sameCtxs_keptA s).toN rfl⟩

/-- Settles O33: an acknowledged event, a released numerics hold, a producer's count and an awaited batch, each by what
its rule leaves. -/
theorem contextEventsAndStreams : Obligations.ContextEventsAndStreams := by
  unfold Obligations.ContextEventsAndStreams
  refine fun s n c hn hc => ⟨fun via v => eventAck_clears hn hc, fun via v => numericsRelease_takes hc,
    fun via v hsel hadm hreason => ?_, fun hp value hstream hrel hgoing => ⟨?_, ?_⟩, fun hp => streamWaitTimeout_shows hp hc⟩
  · exact refuses_of rfl hadm ((verdict_numerics hsel hadm).trans (actNumerics_refuses (admits_numerics hadm)
      ((arrival_sameObject.flag _ _).trans hreason))) (by decide) rfl
  · exact producerUpdate_takes hp hc hstream hrel hgoing
  · exact producerUpdate_faults hp hc hstream hrel hgoing

end Sys2Proof.Machine
end

section
/-! PROOF. O32: CLAIM_WRITE and CLAIM_COMPLETE (R149). -/

namespace Sys2Proof.Machine

open Sys2Proof Sys2Proof.Safety

variable {s t : State} {via : Via} {n e i sub u : Nat} {v : Word} {c : Ctx} {x : Aux} {ws : List Word} {h k : HalfId}

/-! ### Bytes that return to zero -/

theorem hbmByte_of_sameHbm (hst : SameHbm s t) {a : Nat} : t.hbmByte k a = s.hbmByte k a := by
  unfold State.hbmByte
  rw [SameHbm.hbm hst]

/-- Bytes of a half that return to zero, and all others. -/
theorem hbmByte_dropped {p : Nat → Bool} {a : Nat} : (s.setHbm h (Sparse.drop p (s.hbm h))).hbmByte k a =
    if k = h ∧ p a = true then 0 else s.hbmByte k a := by
  have hself : (s.setHbm h (Sparse.drop p (s.hbm h))).hbm h = Sparse.drop p (s.hbm h) := by cases h <;> rfl
  by_cases hk : k = h
  · subst hk
    unfold State.hbmByte
    rw [hself, Sparse.get_drop]
    simp only [true_and]
    rfl
  · have hother : (s.setHbm h (Sparse.drop p (s.hbm h))).hbm k = s.hbm k := by
      cases h
      · cases k
        · exact absurd rfl hk
        · rfl
      · cases k
        · rfl
        · exact absurd rfl hk
    rw [if_neg (fun e => hk e.1)]
    unfold State.hbmByte
    rw [hother]

/-! ### Tickets (R128) -/

theorem pendingOn_mem {w : Ticket} (hw : s.pendingOn i sub u = some w) :
    w ∈ s.svc.tickets ∧ w.status = none ∧ w.work.place = (i, sub, u) := by
  have hp : w.status = none ∧ w.work.place = (i, sub, u) := by simpa using List.find?_some hw
  exact ⟨List.mem_of_find?_eq_some hw, hp⟩

theorem pendingOn_of_svc (hst : t.svc = s.svc) : t.pendingOn i sub u = s.pendingOn i sub u := by
  unfold State.pendingOn
  rw [hst]

/-- A ticket that is open ends with the status given. -/
theorem endTicket_mem {w : Ticket} {st : Nat} (hw : w ∈ s.svc.tickets) (hopen : w.status = none) :
    { w with status := some st } ∈ (s.endTicket w.num st).svc.tickets := by
  unfold State.endTicket
  rw [State.signal_svc]
  exact List.mem_map.mpr ⟨w, hw, by simp [hopen]⟩

/-! ### Lines that are back-invalidated (R64) -/

/-- A snoop that is under way stays under way. -/
theorem snoopLines_snoops {y : Snoop} {l : List Nat} (hy : y ∈ s.port.snoops) :
    y ∈ (s.snoopLines h n l).port.snoops := by
  refine Kept.foldl (P := fun t => y ∈ t.port.snoops) (fun t line ht => ?_) hy
  dsimp only
  split_ifs
  · exact ht
  · rw [State.emit_port]
    exact List.mem_append_left _ ht
  · exact List.mem_append_left _ ht

/-- Each line is asked for in the context's name, unless it already is. -/
theorem snoopLines_asks {l : List Nat} {line : Nat} (hl : line ∈ l) :
    ∃ y ∈ (s.snoopLines h n l).port.snoops, y.half = h ∧ y.line = line ∧ y.ctx = some n := by
  induction l generalizing s with
  | nil => cases hl
  | cons a r ih =>
    change ∃ y ∈ ((s.snoopLines h n [a]).snoopLines h n r).port.snoops, _
    rcases List.mem_cons.mp hl with rfl | hr
    · suffices hasked : ∃ y ∈ (s.snoopLines h n [line]).port.snoops, y.half = h ∧ y.line = line ∧ y.ctx = some n by
        obtain ⟨y, hy, hfields⟩ := hasked
        exact ⟨y, snoopLines_snoops hy, hfields⟩
      unfold State.snoopLines
      simp only [List.foldl_cons, List.foldl_nil]
      split_ifs with hasked
      · obtain ⟨y, hy, hctx⟩ := List.any_eq_true.mp hasked
        obtain ⟨hmem, hfields⟩ := List.mem_filter.mp hy
        simp only [Bool.and_eq_true, beq_iff_eq] at hfields hctx
        exact ⟨y, hmem, hfields.1, hfields.2, hctx⟩
      · rw [State.emit_port]
        exact ⟨_, List.mem_append_right _ (List.mem_singleton_self _), rfl, rfl, rfl⟩
      · exact ⟨_, List.mem_append_right _ (List.mem_singleton_self _), rfl, rfl, rfl⟩
    · exact ih hr

/-! ### CLAIM_WRITE -/

theorem exec_claimWrite (hn : n ≤ 3071) (he : e < 16) : exec (.claimWrite via n e v) s =
    s.put! Aux.none via (0x8000 + n) 0x30 ((s.regsAt 0 (cidx n) 0x30 16).set e v) := by
  change execClaimWrite via n e v s = _
  rw [execClaimWrite, ctxIndex_of_le hn, if_pos he]

theorem verdict_claims (hn : n ≤ 3071) (hadm : admits s via (0x8000 + n) 0x30 ws = true) :
    verdict s x via (0x8000 + n) 0x30 ws = (arrival s via (0x8000 + n) 0x30).actClaims n 0 ws := by
  obtain ⟨_, hd⟩ := verdict_context (x := x) hn hadm
  exact hd

theorem arrival_claimWords {m : Nat} : (arrival s via i sub).claimWords m = s.claimWords m := by
  have hpending : (arrival s via i sub).pendingOn (cidx m) 0x30 0 = s.pendingOn (cidx m) 0x30 0 := by
    unfold State.pendingOn
    rw [arrival_tickets]
  unfold State.claimWords
  rw [hpending]
  simp only [arrival_sameObject.val]

/-- All sixteen claims of an OPEN context, in spans that lie in the memory, apart from each other and from the spans of
the other contexts of its half, are accepted. -/
theorem actClaims_accepts (hlen : ws.length = 16) (hc : s.ctx n = some c) (hst : c.state = stOpen)
    (hfit : ∀ a ∈ spansOf (ws.map (·.toNat)), a.1 + a.2 ≤ 49152 ∧ (a.2 = 0 → a.1 = 0))
    (hapart : allApart (spansOf (ws.map (·.toNat))) = true)
    (hothers : ∀ y ∈ s.ctxs, y.half = c.half → y.n ≠ n → ∀ a ∈ spansOf (ws.map (·.toNat)),
      ∀ b ∈ spansOf (s.claimWords y.n), apart a b = true) :
    ∃ est, ∃ held : State → List Nat, s.actClaims n 0 ws =
      .accept (.store (cidx n) 0x30 0 ws) est (fun t => t.snoopLines c.half n (held t)) := by
  have hnew : ∀ old : List Nat, old.length = 16 →
      old.take 0 ++ ws.map (·.toNat) ++ old.drop (0 + ws.length) = ws.map (·.toNat) := by
    intro old hold
    rw [List.take_zero, List.nil_append, List.drop_of_length_le (by omega), List.append_nil]
  have hwords : (ws.map (·.toNat)).map toWord = ws := by
    rw [List.map_map]
    exact List.map_id'' (fun _ => toWord_of_toNat) ws
  unfold State.actClaims
  dsimp only
  rw [hnew _ (by simp), hwords, if_neg ?hmemory, if_neg ?hform, hc]
  dsimp only
  rw [if_neg ?hmeets, if_neg (by simp [hst]), if_neg (by simp [hst, stOpen, stLoaded, stHold])]
  exact ⟨_, _, rfl⟩
  case hmemory =>
    simp only [List.any_eq_true, decide_eq_true_eq, not_exists, not_and, not_lt]
    exact fun a ha => (hfit a ha).1
  case hform =>
    simp only [hapart, Bool.not_true, Bool.or_false, List.any_eq_true, Bool.and_eq_true, beq_iff_eq, bne_iff_ne,
      not_exists, not_and, not_not]
    exact fun a ha => (hfit a ha).2
  case hmeets =>
    simp only [List.any_eq_true, List.mem_flatMap, List.mem_filter, Bool.and_eq_true, beq_iff_eq, bne_iff_ne,
      Bool.not_eq_true', not_exists, not_and, Bool.not_eq_false]
    rintro a ha b ⟨y, ⟨hy, hhalf, hne⟩, hb⟩
    exact hothers y hy hhalf hne a ha b hb

theorem claimWrite_defers (hn : n ≤ 3071) (hc : s.ctx n = some c) (he : e < 16) (hst : c.state = stOpen)
    (hroom : s.ticketRoom = true) (hws : ws = (s.regsAt 0 (cidx n) 0x30 16).set e v)
    (hadm : admits s via (0x8000 + n) 0x30 ws = true)
    (hfit : ∀ a ∈ spansOf (ws.map (·.toNat)), a.1 + a.2 ≤ 49152 ∧ (a.2 = 0 → a.1 = 0))
    (hapart : allApart (spansOf (ws.map (·.toNat))) = true)
    (hothers : ∀ y ∈ s.ctxs, y.half = c.half → y.n ≠ n → ∀ a ∈ spansOf (ws.map (·.toNat)),
      ∀ b ∈ spansOf (s.claimWords y.n), apart a b = true) :
    Defers (.claimWrite via n e v) s via (0x8000 + n) 0x30 ws (fun t => SameDict s t ∧ SameHbm s t ∧ SameCtxs s t ∧
      ∃ w ∈ t.svc.tickets, w.work = .store (0x8000 + n) 0x30 0 ws ∧ w.status = none) := by
  have hlen : ws.length = 16 := by simp [hws, State.regsAt]
  let a := arrival s via (0x8000 + n) 0x30
  obtain ⟨est, held, hact⟩ := actClaims_accepts (s := a) hlen ((arrival_ctx n).trans hc) hst hfit hapart
    (fun y hy hhalf hne p hp q hq => hothers y (arrival_ctxs (s := s) ▸ hy) hhalf hne p hp q
      (arrival_claimWords (s := s) ▸ hq))
  let b := a.issue (.store (cidx n) 0x30 0 ws) est (requesterOf via.path)
  have hsvc : (b.snoopLines c.half n (held b)).svc = b.svc :=
    State.snoopLines_kept (P := SameSvc b) (sameSvc_kept b) rfl
  refine defers_of (hws ▸ exec_claimWrite hn he) hadm (arrival_ticketRoom.trans hroom)
    ((verdict_claims hn hadm).trans hact) ⟨?_, ?_, ?_, ?_⟩
  · exact State.snoopLines_kept (sameDict_kept s) arrival_dict
  · exact State.snoopLines_kept (sameHbm_kept s) ⟨arrival_hbm0, arrival_hbm1⟩
  · exact State.snoopLines_kept (sameCtxs_kept s) arrival_ctxs
  · rw [hsvc, ← cidx_of_le hn]
    exact ⟨_, List.mem_append_right _ (List.mem_singleton_self _), rfl, rfl⟩

/-! ### CLAIM_COMPLETE -/

/-- The bytes that a context's claims gain are zero. -/
def State.gainedZero (s : State) (n : Nat) (c : Ctx) (ws : List Word) : State :=
  let gained := gains (s.claims n) (spansOf (ws.map (·.toNat)))
  let s := s.unpoison c.half (fun l => gained (l * 64))
  s.setHbm c.half (Sparse.drop gained (s.hbm c.half))

/-- The claims of a deferred write take effect: the bytes gained are zero, the words are in force and the ticket ends. -/
def State.claimsInForce (s : State) (n : Nat) (c : Ctx) (w : Ticket) (ws : List Word) : State :=
  ((s.gainedZero n c ws).putsAt 0 (cidx n) 0x30 ws).endTicket w.num 0x0000

theorem exec_claimComplete {w : Ticket} (hp : s.key.powered = true) (hc : s.ctx n = some c)
    (hw : s.pendingOn (cidx n) 0x30 0 = some w) (hwork : w.work = .store (cidx n) 0x30 0 ws) :
    exec (.claimComplete n) s = .next
      (if s.gainedHeld c.half (s.claims n) (spansOf (ws.map (·.toNat))) = [] then s.claimsInForce n c w ws
      else s.snoopLines c.half n (s.gainedHeld c.half (s.claims n) (spansOf (ws.map (·.toNat))))) := by
  change execClaimComplete n s = _
  unfold execClaimComplete
  rw [onPower_on hp, hc, hw]
  dsimp only
  rw [hwork]
  dsimp only
  split_ifs with h1 h2 h2
  · simp [h2] at h1
  · rfl
  · rfl
  · simp [h2] at h1

theorem claimComplete_waits {w : Ticket} (hp : s.key.powered = true) (hc : s.ctx n = some c)
    (hw : s.pendingOn (cidx n) 0x30 0 = some w) (hwork : w.work = .store (cidx n) 0x30 0 ws)
    (hheld : s.gainedHeld c.half (s.claims n) (spansOf (ws.map (·.toNat))) ≠ []) :
    Reaches (.claimComplete n) s (fun t => (s.pendingOn (cidx n) 0x30 0 = t.pendingOn (cidx n) 0x30 0) ∧
      (∀ l ∈ s.gainedHeld c.half (s.claims n) (spansOf (ws.map (·.toNat))), ∃ y ∈ t.port.snoops,
        y.half = c.half ∧ y.line = l ∧ y.ctx = some n) ∧ SameDict s t ∧ SameHbm s t ∧ SameCtxs s t) :=
  ⟨_, (exec_claimComplete hp hc hw hwork).trans (congrArg _ (if_neg hheld)),
    (pendingOn_of_svc (State.snoopLines_kept (P := SameSvc s) (sameSvc_kept s) rfl)).symm,
    fun _ hl => snoopLines_asks hl,
    State.snoopLines_kept (sameDict_kept s) rfl, State.snoopLines_kept (sameHbm_kept s) ⟨rfl, rfl⟩,
    State.snoopLines_kept (sameCtxs_kept s) rfl⟩

theorem claimsInForce_words {w : Ticket} (hlen : ws.length = 16) {j : Nat} (hj : j < 16) :
    (s.claimsInForce n c w ws).reg (cidx n) (0x30 + j) = ws.getD j 0 := by
  unfold State.claimsInForce State.reg
  rw [State.regAt_of_dict State.endTicket_dict]
  exact State.regAt_putsAt (by omega) (by omega)

theorem claimsInForce_bytes {w : Ticket} {a : Nat} : (s.claimsInForce n c w ws).hbmByte k a =
    if k = c.half ∧ gains (s.claims n) (spansOf (ws.map (·.toNat))) a = true then 0 else s.hbmByte k a := by
  have hkept : SameHbm (s.gainedZero n c ws) (s.claimsInForce n c w ws) :=
    State.endTicket_kept (sameHbm_kept _) (sameHbm_keptV _)
      (State.putsAt_kept ((sameHbm_keptA _).mem _) ⟨rfl, rfl⟩)
  exact (hbmByte_of_sameHbm hkept).trans hbmByte_dropped

theorem claimsInForce_ticket {w : Ticket} (hw : s.pendingOn (cidx n) 0x30 0 = some w) :
    ∃ y ∈ (s.claimsInForce n c w ws).svc.tickets, y.num = w.num ∧ y.status = some 0x0000 := by
  obtain ⟨hmem, hopen, -⟩ := pendingOn_mem hw
  refine ⟨_, endTicket_mem ?_ hopen, rfl, rfl⟩
  have hsvc : SameSvc s ((s.gainedZero n c ws).putsAt 0 (cidx n) 0x30 ws) :=
    State.putsAt_kept ((sameSvc_keptA s).mem _) State.setHbm_svc
  rwa [hsvc]

theorem claimsInForce_onlyIn {w : Ticket} : OnlyIn [cidx n] s (s.claimsInForce n c w ws) := fun j hj hne =>
  State.endTicket_kept (sameObject_kept j s) (sameObject_keptV j s)
    (State.putsAt_kept (sameObject_at (mod_ne_cidx hj hne)) fun _ _ => State.regAt_setHbm)

theorem claimsInForce_ctxs {w : Ticket} : SameCtxs s (s.claimsInForce n c w ws) :=
  State.endTicket_kept (sameCtxs_kept s) (sameCtxs_keptV s)
    (State.putsAt_kept ((sameCtxs_keptA s).mem _) State.setHbm_ctxs)

/-- Settles O32: a CLAIM_WRITE waits for the lines it gains; CLAIM_COMPLETE asks for those that the host holds, and
puts the claims in force when it holds none. -/
theorem claimsAreZeroedWhenGained : Obligations.ClaimsAreZeroedWhenGained := by
  unfold Obligations.ClaimsAreZeroedWhenGained
  refine fun s n c hn hc => ⟨fun via e v he hst hroom => ?_, fun w ws hp hw hwork _ hheld => ?_,
    fun w ws hp hw hwork hlen hfree => ?_⟩
  · exact claimWrite_defers hn hc he hst hroom rfl
  · exact claimComplete_waits hp hc hw hwork hheld
  · refine ⟨_, (exec_claimComplete hp hc hw hwork).trans (congrArg _ (if_pos hfree)), fun j => claimsInForce_words hlen,
      fun a ha => ?_, fun h a ha => ?_, claimsInForce_ticket hw, claimsInForce_onlyIn, claimsInForce_ctxs⟩
    · exact claimsInForce_bytes.trans (if_pos ⟨rfl, ha⟩)
    · refine claimsInForce_bytes.trans (if_neg fun hgained => ?_)
      rcases ha with hne | hout
      · exact hne hgained.1
      · exact Bool.false_ne_true (hout.symm.trans hgained.2)

end Sys2Proof.Machine
end

section
/-! SUPPORT. State commands of a context that is not FREE, and what moves between its states leave of it (R140 to
R146). -/

namespace Sys2Proof.Machine

open Sys2Proof Sys2Proof.Safety

variable {s t w : State} {via : Via} {n m b i sub st : Nat} {c : Ctx} {α : Type} {f : Ctx → α}

/-! ### State commands (R140, R141) -/

/-- The fields of a state command: the state asked for, and the half that the context is in. -/
theorem stateWord_fields (hc : s.ctx n = some c) (hst : st < 8) :
    let v := (s.stateWord n st).toNat
    v < 1024 ∧ v % 16 = st ∧ bitsOf v 4 4 = 0 ∧ bitsOf v 8 1 = halfNum c.half ∧ bitsOf v 9 1 = 0 := by
  have hhalf : halfNum c.half ≤ 1 := halfNum_le c.half
  have hv : (s.stateWord n st).toNat = st + 256 * halfNum c.half := by
    unfold State.stateWord
    rw [hc]
    dsimp only
    exact toWord_toNat (Nat.lt_of_le_of_lt
      (Nat.add_le_add hst.le (Nat.mul_le_mul_left 256 hhalf)) (by decide))
  dsimp only
  rw [hv]
  unfold bitsOf
  omega

theorem arrival_stateWord : (arrival s via i sub).stateWord n st = s.stateWord n st := by
  unfold State.stateWord
  rw [arrival_ctx]

/-- What a command to another state comes to in a context that is not being released (R141). -/
def State.stateVerdict (s : State) (c : Ctx) (st : Nat) (decls : List TensorDecl) : Verdict :=
  if st = stLoaded ∧ c.state = stOpen then s.loadCtx c decls
  else if st = stRun ∧ [stLoaded, stHold, stDone].contains c.state = true then s.runCtx c
  else if st = stHold ∧ c.going = true then holdCtx c
  else if st = stDone ∧ [stLoaded, stRun, stHold, stSealing].contains c.state = true then s.doneCtx c
  else if st = stFree ∧ [stOpen, stLoaded, stHold, stDone, stFault].contains c.state = true then s.freeCtx c
  else .refuse 0x3003 0

theorem actState_moves {decls : List TensorDecl} (hc : s.ctx n = some c) (hst : st < 8) (hne : st ≠ c.state)
    (hrel : c.releasing = false) : s.actState via n (s.stateWord n st) decls = s.stateVerdict c st decls := by
  obtain ⟨hlt, hwant, hzero, hhalf, hconf⟩ := stateWord_fields hc hst
  unfold State.actState
  dsimp only
  rw [if_neg (by omega), if_neg (by omega), hc]
  dsimp only
  rw [hwant, hhalf, hconf, if_neg (by simp), if_neg hne, if_neg (by simp [hrel])]
  rfl

/-- The verdict on a state command of a context that is not being released. -/
theorem verdict_moves {x : Aux} (hn : n ≤ 3071) (hc : s.ctx n = some c) (hst : st < 8) (hne : st ≠ c.state)
    (hrel : c.releasing = false) (hadm : admits s via (0x8000 + n) 0x01 [s.stateWord n st] = true) :
    verdict s x via (0x8000 + n) 0x01 [s.stateWord n st] =
      (arrival s via (0x8000 + n) 0x01).stateVerdict c st x.decls := by
  rw [verdict_state hn hadm, ← arrival_stateWord (s := s) (via := via) (i := 0x8000 + n) (sub := 0x01)]
  exact actState_moves ((arrival_ctx n).trans hc) hst hne hrel

theorem arrival_companions : (arrival s via i sub).companions n = s.companions n := by
  unfold State.companions
  simp only [arrival_ctxs, arrival_ctx, arrival_sameObject.flag, arrival_sameObject.val]

/-! ### What a hold leaves of a context -/

/-- What is read of a context does not depend on where a hold takes it (R142). -/
def HoldBlind (f : Ctx → α) : Prop := ∀ (c : Ctx) (st : Nat) (placing hold done atSeal stop : Bool),
  f { c with state := st, placing := placing, wantHold := hold, wantDone := done, holdAtSeal := atSeal,
             stopAsked := stop } = f c

/-- The same is read of every context. -/
def SameView (f : Ctx → α) (s t : State) : Prop := ∀ n, (t.ctx n).map f = (s.ctx n).map f

theorem SameView.refl (f : Ctx → α) (s : State) : SameView f s s := fun _ => rfl

theorem SameView.trans (h : SameView f s t) (h' : SameView f t w) : SameView f s w := fun n => (h' n).trans (h n)

theorem SameView.of_ctxs (h : t.ctxs = s.ctxs) : SameView f s t := fun _ => congrArg _ (ctx_of_ctxs h)

theorem SameView.ctx (h : SameView f s t) (hc : s.ctx n = some c) : ∃ d, t.ctx n = some d ∧ f d = f c := by
  have hn := h n
  rw [hc] at hn
  exact Option.map_eq_some_iff.mp hn

theorem setCtx_view {x : Ctx} (hc : s.ctx n = some c) (hn : x.n = c.n) (hx : f x = f c) : SameView f s (s.setCtx x) := by
  intro m
  rw [ctx_setCtx]
  split
  · next hm =>
    have hcm : s.ctx m = some c := by rw [hm, hn, ctx_num hc, hc]
    rw [hcm, Option.map_some, Option.map_some, hx]
  · rfl

theorem settle_view {asked : Bool} : SameView f s (s.settle n asked) := fun _ => congrArg _ settle_ctx

theorem ctxEvent_view : SameView f s (s.ctxEvent n b) := fun _ => congrArg _ ctxEvent_ctx

theorem toHold_view (hf : HoldBlind f) : SameView f s (s.toHold n) := by
  unfold State.toHold
  split
  · exact SameView.refl f s
  · next c hc =>
    refine SameView.trans ((settle_view (n := n) (asked := c.wantHold)).trans ?_) ctxEvent_view
    exact setCtx_view (settle_ctx.trans hc) rfl (hf c stHold c.placing false false false false)

theorem askHold_view (hf : HoldBlind f) : SameView f s (s.askHold n) := by
  unfold State.askHold
  split
  · exact SameView.refl f s
  · next c hc =>
    split
    · exact toHold_view hf
    · exact setCtx_view hc rfl (hf c c.state c.placing c.wantHold c.wantDone c.holdAtSeal true)

theorem setReason_view : SameView f s (s.setReason n b) := fun _ => congrArg _ setReason_ctx

theorem reasonHold_view {all : Bool} (hf : HoldBlind f) : SameView f s (s.reasonHold n b all) := by
  unfold State.reasonHold
  split
  · exact SameView.refl f s
  · next c hc =>
    split_ifs
    · exact SameView.refl f s
    · exact setReason_view.trans (askHold_view hf)
    · exact setReason_view
    · refine SameView.trans (SameView.trans ?_ setReason_view) (toHold_view hf)
      exact setCtx_view hc rfl (hf c c.state false c.wantHold c.wantDone c.holdAtSeal c.stopAsked)
    · exact SameView.refl f s

theorem holdCompanions_view (hf : HoldBlind f) : SameView f s (s.holdCompanions n) :=
  Kept.foldl (P := SameView f s) (fun _ _ ht => ht.trans (reasonHold_view hf)) (SameView.refl f s)

/-! ### What a fault leaves of a context -/

/-- What is read of a context does not depend on what a fault discards of it (R142, R146). -/
def FaultBlind (f : Ctx → α) : Prop := ∀ (c : Ctx) (waits : Bool) (slots todo : List Strand) (step : Option Nat)
    (wait : Option (Nat × Nat × List Byte)),
  f { c with waits := waits, slots := slots, todo := todo, copyStep := step, copyWait := wait } = f c

theorem dropSnapshots_ctxs : (s.dropSnapshots n).ctxs = s.ctxs :=
  State.dropSnapshots_kept (P := SameCtxs s) (sameCtxs_keptA s).toD rfl

theorem enterFault_view (hf : HoldBlind f) (hf' : FaultBlind f) : SameView f s (s.enterFault n b) := by
  unfold State.enterFault
  split
  · exact SameView.refl f s
  · next c hc =>
    dsimp only
    split
    · exact SameView.refl f s
    · have hctx {m : Nat} : (((s.dropSnapshots n).setReason n b).settle n false).ctx m = s.ctx m := by
        rw [settle_ctx, setReason_ctx, ctx_of_ctxs dropSnapshots_ctxs]
      have hsame : SameView f s (((s.dropSnapshots n).setReason n b).settle n false) := fun m => congrArg _ hctx
      split
      · refine SameView.trans ((hsame.trans ?_).trans ctxEvent_view) (holdCompanions_view hf)
        exact setCtx_view (hctx.trans hc) rfl
          ((hf' _ _ _ _ _ _).trans (hf c stFault false false false false false))
      · refine SameView.trans (hsame.trans ?_) ctxEvent_view
        exact setCtx_view (hctx.trans hc) rfl
          ((hf' _ _ _ _ _ _).trans (hf c stFault false false false false false))

theorem faultCompanions_view (hf : HoldBlind f) (hf' : FaultBlind f) : SameView f s (s.faultCompanions n) :=
  Kept.foldl (P := SameView f s) (fun _ _ ht => ht.trans (enterFault_view hf hf')) (SameView.refl f s)

end Sys2Proof.Machine
end

section
/-! PROOF. O31: FREE, CONTEXT_RESET and RELEASE_COMPLETE (R144, R145, R508). -/

namespace Sys2Proof.Machine

open Sys2Proof Sys2Proof.Safety

variable {s t : State} {via : Via} {n : Nat} {c : Ctx} {x : Aux} {h k : HalfId} {reset : Bool}
  {residual : List (Nat × Nat)}

/-! ### A release begins (R144, R145) -/

theorem stopCtx_ctx (hc : s.ctx n = some c) : ∃ d, (s.stopCtx n reset).ctx n = some d ∧ d.releasing = true ∧
    d.resetting = (c.resetting || reset) := by
  obtain ⟨d, hd, hres⟩ := (faultCompanions_view (f := Ctx.resetting) (s := s) (n := n) (fun _ _ _ _ _ _ _ => rfl)
    (fun _ _ _ _ _ _ => rfl)).ctx hc
  unfold State.stopCtx
  refine ⟨_, ctx_modCtx_self (fun _ => rfl) (c := d) ?_, rfl, congrArg (· || reset) hres⟩
  refine Kept.foldl (P := fun t => t.ctx n = some d) (fun t l ht => ?_) ?_
  · split
    · split
      · exact ht
      · rw [ctx_of_ctxs State.putAt_ctxs, ctx_of_ctxs State.modTile_ctxs, ht]
    · exact ht
  · rw [hd]
    exact (ctx_of_ctxs State.modHalf_ctxs).trans hd

theorem stopCtx_sameHbm (hs : SameHbm s t) : SameHbm s (t.stopCtx n reset) :=
  State.stopCtx_kept (sameHbm_kept s) (sameHbm_keptC s) (sameHbm_keptT s) (sameHbm_keptH s) (sameHbm_keptV s)
    (sameHbm_keptA s).toD (sameHbm_keptA s).toN hs

/-- The state of a context's write that has been let through and has taken its ticket. -/
theorem issued_sameHbm {i sub est : Nat} {w : Deferred} {r : Option Nat} :
    SameHbm s ((arrival s via i sub).issue w est r) :=
  State.issue_kept (sameHbm_kept s) (sameHbm_keptV s) ⟨arrival_hbm0, arrival_hbm1⟩

theorem issued_ctx {i sub est : Nat} {w : Deferred} {r : Option Nat} :
    ((arrival s via i sub).issue w est r).ctx n = s.ctx n := arrival_ctx n

theorem exec_ctxFree (hn : n ≤ 3071) :
    exec (.ctxFree via n) s = s.put! Aux.none via (0x8000 + n) 0x01 [s.stateWord n stFree] := by
  change execCtxFree via n s = _
  rw [execCtxFree, ctxIndex_of_le hn]

theorem exec_contextReset {v : Word} (hn : n ≤ 3071) :
    exec (.contextReset via n v) s = s.put! Aux.none via (0x8000 + n) 0x2F [v] := by
  change execContextReset via n v s = _
  rw [execContextReset, ctxIndex_of_le hn]

theorem ctxFree_releases (hn : n ≤ 3071) (hc : s.ctx n = some c)
    (hst : [stOpen, stLoaded, stHold, stDone, stFault].contains c.state = true) (hrel : c.releasing = false)
    (hroom : s.ticketRoom = true) (hidle : (s.companions n).any (·.going) = false)
    (hadm : admits s via (0x8000 + n) 0x01 [s.stateWord n stFree] = true) :
    Defers (.ctxFree via n) s via (0x8000 + n) 0x01 [s.stateWord n stFree] (fun t =>
      (∃ d, t.ctx n = some d ∧ d.releasing = true ∧ d.resetting = c.resetting) ∧ SameHbm s t) := by
  have hstates : c.state ≠ stFree := fun e => by rw [e] at hst; exact absurd hst (by decide)
  have hverdict : verdict s Aux.none via (0x8000 + n) 0x01 [s.stateWord n stFree] =
      (arrival s via (0x8000 + n) 0x01).freeCtx c := by
    rw [verdict_moves hn hc (show stFree < 8 by decide) (Ne.symm hstates) hrel hadm, State.stateVerdict, if_neg (by simp [stFree, stLoaded]),
      if_neg (by simp [stFree, stRun]), if_neg (by simp [stFree, stHold]), if_neg (by simp [stFree, stDone]),
      if_pos ⟨rfl, hst⟩]
  rw [State.freeCtx, ctx_num hc, arrival_companions, hidle] at hverdict
  obtain ⟨d, hd, hstops, hres⟩ := stopCtx_ctx (reset := false) (issued_ctx.trans hc)
  exact defers_of (exec_ctxFree hn) hadm (arrival_ticketRoom.trans hroom) hverdict
    ⟨⟨d, hd, hstops, hres.trans (Bool.or_false _)⟩, stopCtx_sameHbm issued_sameHbm⟩

theorem contextReset_releases (hn : n ≤ 3071) (hc : s.ctx n = some c) (hroom : s.ticketRoom = true)
    (hadm : admits s via (0x8000 + n) 0x2F [1] = true) :
    Defers (.contextReset via n 1) s via (0x8000 + n) 0x2F [1] (fun t =>
      (∃ d, t.ctx n = some d ∧ d.releasing = true ∧ d.resetting = true) ∧ SameHbm s t) := by
  obtain ⟨_, hd⟩ := verdict_context (x := Aux.none) hn hadm
  have hverdict : verdict s Aux.none via (0x8000 + n) 0x2F [1] =
      (arrival s via (0x8000 + n) 0x2F).actCtxReset n 1 := hd
  rw [State.actCtxReset, arrival_ctx, hc] at hverdict
  dsimp only at hverdict
  rw [if_neg (by simp)] at hverdict
  obtain ⟨d, hd, hstops, hres⟩ := stopCtx_ctx (reset := true) (issued_ctx.trans hc)
  exact defers_of (exec_contextReset hn) hadm (arrival_ticketRoom.trans hroom) hverdict
    ⟨⟨d, hd, hstops, hres.trans (Bool.or_true _)⟩, stopCtx_sameHbm issued_sameHbm⟩

/-! ### Claims are zeroed (R145) -/

theorem hbmByte_hbmZero {a l y : Nat} : (s.hbmZero h a l).hbmByte k y =
    if k = h ∧ a ≤ y ∧ y < a + l then 0 else s.hbmByte k y := by
  refine (hbmByte_dropped (s := s.unpoison h _)).trans ?_
  simp only [decide_eq_true_eq]
  rfl

theorem hbmByte_zeroSpans {l : List (Nat × Nat)} {a : Nat} :
    (l.foldl (fun t e => t.hbmZero h (e.1 * granule) (e.2 * granule)) s).hbmByte k a =
      if k = h ∧ l.any (fun e => decide (e.1 * granule ≤ a ∧ a < (e.1 + e.2) * granule)) = true then 0
      else s.hbmByte k a := by
  induction l generalizing s with
  | nil => simp
  | cons e r ih =>
    rw [List.foldl_cons, ih, hbmByte_hbmZero, ← add_mul]
    simp only [List.any_cons, Bool.or_eq_true, decide_eq_true_eq]
    by_cases hk : k = h
    · by_cases hr : r.any (fun e => decide (e.1 * granule ≤ a ∧ a < (e.1 + e.2) * granule)) = true
      · simp only [hk, hr, true_and, or_true, if_true]
      · simp only [hk, hr, true_and, Bool.false_eq_true, or_false, if_false]
    · simp only [hk, false_and, if_false]

/-- A byte of a half after a context's claims in it are zeroed. -/
theorem hbmByte_zeroClaims {a : Nat} : (s.zeroClaims h n).hbmByte k a =
    if k = h ∧ s.inClaims n a = true then 0 else s.hbmByte k a := hbmByte_zeroSpans

theorem inClaims_of_sameObject (hs : SameObject (cidx n) s t) {a : Nat} : t.inClaims n a = s.inClaims n a := by
  unfold State.inClaims State.claims
  simp only [hs.val]

/-! ### RELEASE_COMPLETE (R145, R508) -/

/-- The tiles of a context have let go of its vectors, and are back in the pool. -/
def State.tilesFreed (s : State) (n : Nat) (c : Ctx) (residual : List (Nat × Nat)) : State :=
  let s := s.flushTiles n 0
  if isCompanion s n then s else c.tiles.foldl (fun t l => t.releaseTile c residual l) s

/-- What waits on a context that is released has ended. -/
def State.pendingEnded (s : State) (n : Nat) : State :=
  (((s.endPending (cidx n) 0x01 0 0x0000).endPending (cidx n) 0x2F 0 0x0000).endPending (cidx n) 0x30 0
    0x3003).endPending 0x7013 0x06 n 0x3003

theorem release_eq (hc : s.ctx n = some c) : ∃ p, s.release n residual =
    let u := (((s.tilesFreed n c residual).zeroClaims c.half n).pendingEnded n).dropCtxKeys n
    { u with port := p, ctxs := u.ctxs.filter (fun y => y.n != n) } := by
  unfold State.release
  rw [hc]
  exact ⟨_, rfl⟩

theorem release_parts (hc : s.ctx n = some c) :
    let t := s.release n residual
    let u := (((s.tilesFreed n c residual).zeroClaims c.half n).pendingEnded n).dropCtxKeys n
    t.dict = u.dict ∧ SameHbm u t ∧ t.ctxs = u.ctxs.filter (fun y => y.n != n) := by
  obtain ⟨p, hrelease⟩ := release_eq (residual := residual) hc
  dsimp only at hrelease ⊢
  generalize (((s.tilesFreed n c residual).zeroClaims c.half n).pendingEnded n).dropCtxKeys n = u at hrelease ⊢
  rw [hrelease]
  exact ⟨rfl, ⟨rfl, rfl⟩, rfl⟩

theorem tilesFreed_kept {P : State → Prop} (kk : Kept P) (kc : KeptC P) (kt : KeptT P) (kb : KeptB P)
    (kd : KeptD P [0x0080, 0x4001, 0x4003, 0x4010, 0x4012, 0x4014, 0x4021, 0x5020, 0x9060, 0xF021]) (hs : P s) :
    P (s.tilesFreed n c residual) := by
  have hflushed : P (s.flushTiles n 0) := State.flushTiles_kept kk kt (kd.mono (by decide)) hs
  unfold State.tilesFreed
  dsimp only
  split
  · exact hflushed
  · exact Kept.foldl (fun t l ht => State.releaseTile_kept kk kc kt kb kd ht) hflushed

theorem pendingEnded_kept {P : State → Prop} (kk : Kept P) (kv : KeptV P) (hs : P s) : P (s.pendingEnded n) :=
  State.endPending_kept kk kv (State.endPending_kept kk kv (State.endPending_kept kk kv
    (State.endPending_kept kk kv hs)))

/-- No writes of the release but the last return words of the context's object. -/
theorem tilesFreed_sameObject : SameObject (cidx n) s (s.tilesFreed n c residual) :=
  tilesFreed_kept (sameObject_kept _ s) (sameObject_keptC _ s) (sameObject_keptT _ s) (sameObject_keptB _ s)
    (sameObject_keptD s (fun j hj => by
      simp only [List.mem_cons, List.not_mem_nil, or_false] at hj
      unfold cidx
      omega)) (SameObject.refl _ s)

theorem release_ctx (hc : s.ctx n = some c) : (s.release n residual).ctx n = none := by
  obtain ⟨-, -, hctxs⟩ := release_parts (residual := residual) hc
  unfold State.ctx
  rw [hctxs, List.find?_eq_none]
  intro y hy
  simpa only [bne_iff_ne, beq_iff_eq] using (List.mem_filter.mp hy).2

theorem release_words (hc : s.ctx n = some c) {sub : Nat} (hp : persistOf (dkey 0 (cidx n) sub) ≠ .p2) :
    (s.release n residual).reg (cidx n) sub = dictDefault (dkey 0 (cidx n) sub) := by
  have hkey : keyOfCtx n (dkey 0 (cidx n) sub) = true := by
    unfold keyOfCtx
    rw [keyIndex_dkey, Nat.mod_eq_of_lt (by unfold cidx; omega), beq_self_eq_true, Bool.true_or]
  obtain ⟨hdict, -⟩ := release_parts (residual := residual) hc
  unfold State.reg
  rw [State.regAt_of_dict hdict, State.dropCtxKeys, State.regAt_dropKeys, hkey, Bool.true_and,
    if_pos (by simpa using hp)]

theorem release_bytes (hc : s.ctx n = some c) {a : Nat} : (s.release n residual).hbmByte k a =
    if k = c.half ∧ s.inClaims n a = true then 0 else s.hbmByte k a := by
  obtain ⟨-, hafter, -⟩ := release_parts (residual := residual) hc
  have hended {u : State} : SameHbm u ((u.pendingEnded n).dropCtxKeys n) :=
    State.dropCtxKeys_kept (sameHbm_keptQ u) (pendingEnded_kept (sameHbm_kept u) (sameHbm_keptV u) ⟨rfl, rfl⟩)
  have hbefore : SameHbm s (s.tilesFreed n c residual) :=
    tilesFreed_kept (sameHbm_kept s) (sameHbm_keptC s) (sameHbm_keptT s) (sameHbm_keptB s) (sameHbm_keptA s).toD
      ⟨rfl, rfl⟩
  rw [hbmByte_of_sameHbm hafter, hbmByte_of_sameHbm hended, hbmByte_zeroClaims,
    inClaims_of_sameObject tilesFreed_sameObject, hbmByte_of_sameHbm hbefore]

/-- What a reset retracts of a context's step before its release (R144, R384). -/
def State.resetRetracted (s : State) (n : Nat) (c : Ctx) : State :=
  if c.resetting then (s.retractAll n).settle n false else s

theorem exec_releaseComplete (hp : s.key.powered = true) (hc : s.ctx n = some c) :
    exec (.releaseComplete n residual) s = .next
      (if c.releasing && !c.inFlight then (s.resetRetracted n c).release n residual else s) := by
  change execReleaseComplete n residual s = _
  unfold execReleaseComplete
  rw [onPower_on hp, hc]
  rfl

theorem handItem_ctxs {dest cls step item attempt : Nat} {data : List Byte} :
    (s.handItem n dest cls step item attempt data).ctxs = s.ctxs :=
  State.handItem_kept (P := SameCtxs s) (sameCtxs_kept s) (sameCtxs_keptA s).toD rfl

/-- What is retracted changes the exchange of its context alone. -/
theorem retractAll_half (hc : s.ctx n = some c) : ∃ d, (s.retractAll n).ctx n = some d ∧ d.half = c.half := by
  unfold State.retractAll State.retract
  rw [hc]
  dsimp only
  split
  · exact ⟨c, hc, rfl⟩
  · refine ⟨_, ctx_modCtx_self (fun _ => rfl) ((ctx_of_ctxs ?_).trans hc), rfl⟩
    refine Kept.foldl (P := fun t => t.ctxs = s.ctxs) (fun t _ ht => ?_) rfl
    refine Kept.foldl (P := fun t => t.ctxs = s.ctxs) (fun t _ ht => ?_) ht
    rw [State.bumpAt_ctxs, handItem_ctxs, ht]

theorem resetRetracted_half (hc : s.ctx n = some c) : ∃ d, (s.resetRetracted n c).ctx n = some d ∧ d.half = c.half := by
  unfold State.resetRetracted
  split
  · obtain ⟨d, hd, hhalf⟩ := retractAll_half hc
    exact ⟨d, settle_ctx.trans hd, hhalf⟩
  · exact ⟨c, hc, rfl⟩

theorem resetRetracted_kept {P : State → Prop} (kk : Kept P) (kc : KeptC P) (kv : KeptV P)
    (kd : KeptD P [0x6010, 0x7040, 0x9030, 0x9031, 0xF030]) (hs : P s) : P (s.resetRetracted n c) := by
  unfold State.resetRetracted
  split
  · exact State.settle_kept kk kv (State.retractAll_kept kk kc kd hs)
  · exact hs

theorem releaseComplete_frees (hp : s.key.powered = true) (hc : s.ctx n = some c) (hrel : c.releasing = true)
    (hidle : c.inFlight = false) : Reaches (.releaseComplete n residual) s (fun t =>
      t.ctx n = none ∧
      (∀ sub, sub < 256 → persistOf (dkey 0 (cidx n) sub) ≠ .p2 → t.reg (cidx n) sub = dictDefault (dkey 0 (cidx n) sub)) ∧
      (∀ a, s.inClaims n a = true → t.hbmByte c.half a = 0) ∧
      (∀ h a, h ≠ c.half ∨ s.inClaims n a = false → t.hbmByte h a = s.hbmByte h a)) := by
  obtain ⟨d, hd, hhalf⟩ := resetRetracted_half hc
  have hobj : SameObject (cidx n) s (s.resetRetracted n c) :=
    resetRetracted_kept (sameObject_kept _ s) (sameObject_keptC _ s) (sameObject_keptV _ s)
      (sameObject_keptD s (fun j hj => by
        simp only [List.mem_cons, List.not_mem_nil, or_false] at hj
        unfold cidx
        omega)) (SameObject.refl _ s)
  have hhbm : SameHbm s (s.resetRetracted n c) :=
    resetRetracted_kept (sameHbm_kept s) (sameHbm_keptC s) (sameHbm_keptV s) (sameHbm_keptA s).toD ⟨rfl, rfl⟩
  have hbytes {k : HalfId} {a : Nat} : ((s.resetRetracted n c).release n residual).hbmByte k a =
      if k = c.half ∧ s.inClaims n a = true then 0 else s.hbmByte k a := by
    rw [release_bytes hd, hhalf, inClaims_of_sameObject hobj, hbmByte_of_sameHbm hhbm]
  refine ⟨_, (exec_releaseComplete hp hc).trans (congrArg _ (if_pos (by simp [hrel, hidle]))), release_ctx hd,
    fun sub _ => release_words hd, fun a ha => hbytes.trans (if_pos ⟨rfl, ha⟩), fun h a ha => hbytes.trans (if_neg ?_)⟩
  rintro ⟨rfl, hin⟩
  rcases ha with hne | hout
  · exact hne rfl
  · exact Bool.false_ne_true (hout.symm.trans hin)

/-- Settles O31: FREE and CONTEXT_RESET by the release that they begin, RELEASE_COMPLETE by what it leaves. -/
theorem releaseLeavesNothing : Obligations.ReleaseLeavesNothing := by
  unfold Obligations.ReleaseLeavesNothing
  refine fun s n c hn hc => ⟨fun via => ctxFree_releases hn hc, fun via => contextReset_releases hn hc,
    fun hp hrel hidle residual => releaseComplete_frees hp hc hrel hidle, fun hp hstays residual => ?_⟩
  refine ⟨s, (exec_releaseComplete hp hc).trans (congrArg _ (if_neg ?_)), rfl⟩
  rcases hstays with e | e <;> simp [e]

end Sys2Proof.Machine
end

section
/-! PROOF. O30: a RUN of a context that is its own companion clears its h_owner too (R141, R146, R153). -/

namespace Sys2Proof.Machine

open Sys2Proof Sys2Proof.Safety Sys2Proof.Tests

/-- Context 1 of half 0 in DONE, with no step in progress and no layer. -/
def selfOwnedCtx : Ctx := ctx 1 stDone

/-- Context 1 names itself as its owner (0x05 bit 5, 0x06), and the HOLD that it left through DONE has left it the reason
h_owner. -/
def selfOwnedState : State :=
  wc [selfOwnedCtx] [(0, 0x8001, 0x02, 0x40), (0, 0x8001, 0x05, 0x20), (0, 0x8001, 0x06, 1)]

theorem selfOwned_admits : admits selfOwnedState doe 0x8001 0x01 [selfOwnedState.stateWord 1 stRun] = true := by
  decide +kernel

/-- The hold reasons of context 1 in the state that a command answers with; `0` where it answers none. -/
def reasonsAfter (r : Result) : Word :=
  match r with
  | .next t => t.reg 0x8001 0x02
  | _ => 0

/-- RUN clears h_owner of the companions of context 1, itself among them. -/
theorem selfOwned_cleared : reasonsAfter (exec (.ctxRun doe 1) selfOwnedState) = 0 := by decide +kernel

/-- RUN's own effect on the reasons would leave h_owner. -/
theorem selfOwned_expected : toWord (putBit (selfOwnedState.val 0x8001 0x02) rHost false) = 0x40 := by decide +kernel

/-- Refutes O30, at its first clause: a context in DONE may still have the reason h_owner, and RUN does not clear h_host
alone where the context is its own companion. In `selfOwnedState` the reasons read 0x40 (h_owner) before the RUN and 0 after
it, where the clause has them read 0x40. -/
theorem not_runHoldAndDone : ¬ Obligations.RunHoldAndDone := by
  unfold Obligations.RunHoldAndDone
  rintro ⟨hrun, -⟩
  obtain ⟨hbegins, -⟩ := hrun selfOwnedState doe 1 selfOwnedCtx (by decide) rfl (by decide) rfl (by decide +kernel)
    selfOwned_admits rfl (by decide +kernel)
  obtain ⟨hstep, -⟩ := hbegins (.inl ⟨rfl, by decide +kernel⟩) (by decide +kernel)
  obtain ⟨t, hexec, -, hreasons, -⟩ := hstep rfl (by decide +kernel)
  have hcleared := selfOwned_cleared
  rw [hexec] at hcleared
  have hkept : t.reg 0x8001 0x02 = 0 := (State.written_regAt (j := 0x8001) (by decide)).symm.trans hcleared
  rw [show cidx 1 = 0x8001 by decide, hkept, selfOwned_expected] at hreasons
  exact absurd hreasons (by decide)

end Sys2Proof.Machine
end

section
/-! SUPPORT. What the placement of a program leaves of every context: its state (R151, R176, R178). -/

namespace Sys2Proof.Machine

open Sys2Proof Sys2Proof.Safety

variable {s t u : State} {n m p l row : Nat} {c : Ctx} {α : Type} {v : Ctx → α} {f : Ctx → Ctx}

theorem modCtx_view (hn : ∀ c, (f c).n = c.n) (hv : ∀ c, v (f c) = v c) : SameView v s (s.modCtx n f) := by
  unfold State.modCtx
  split
  · next c hc => exact setCtx_view hc (hn c) (hv c)
  · exact SameView.refl v s

/-- Every context is in the state that it was in. -/
abbrev SameStates (s t : State) : Prop := SameView Ctx.state s t

theorem SameView.of_sameCtxs (h : SameView v s t) (h' : SameCtxs t u) : SameView v s u := h.trans (SameView.of_ctxs h')

/-! ### Repairs on the way -/

theorem failUsers_states {unit : Nat} : SameStates s (s.failUsers unit) :=
  Kept.foldl (P := SameStates s) (fun _ _ ht => ht.trans (modCtx_view (fun _ => rfl) fun _ => rfl)) (SameView.refl _ s)

theorem markUnusable_states : SameStates s (s.markUnusable p) := by
  have hfailed : SameStates s ((s.modTile p (fun t => { t with unusable := true, doomed := false })).failUsers
      (unitTile p)) := (SameView.of_ctxs State.modTile_ctxs).trans failUsers_states
  unfold State.markUnusable
  dsimp only
  refine hfailed.of_sameCtxs (State.spareCheck_kept (sameCtxs_keptA _).toD ?_)
  split
  · exact rfl
  · exact rfl

theorem takeSpareCourse_states {h k : Nat} : SameStates s (s.takeSpareCourse h k) := by
  unfold State.takeSpareCourse
  dsimp only
  have hmarked {b : State} (hb : SameStates s b) (units : List Nat) :
      SameStates s (units.foldl (fun t p => t.markUnusable p) b) :=
    Kept.foldl (fun _ _ ht => ht.trans markUnusable_states) hb
  refine (hmarked ?_ _).of_sameCtxs (State.spareCheck_kept (sameCtxs_keptA _).toD (Kept.foldl (fun _ _ ht =>
    State.seatOnSpare_kept (sameCtxs_kept _) (sameCtxs_keptT _) (sameCtxs_keptB _) (sameCtxs_keptA _).toD ht) rfl))
  exact SameView.of_ctxs rfl

theorem retireTile_states {inPass : Bool} : SameStates s (s.retireTile l inPass) := by
  have hmap {b : State} {l q : Nat} (hb : SameStates s b) : SameStates s (b.mapTile l q) :=
    hb.of_sameCtxs (State.mapTile_kept (sameCtxs_kept b) (sameCtxs_keptB b) (sameCtxs_keptA b).toD rfl)
  unfold State.retireTile
  split
  · exact SameView.refl _ s
  · split
    · refine hmap (SameView.trans ?_ markUnusable_states)
      exact SameView.of_ctxs State.setTile_ctxs
    · refine hmap (SameView.trans (SameView.of_ctxs ?_) markUnusable_states)
      exact State.moveTile_kept (P := SameCtxs s) (sameCtxs_kept s) (sameCtxs_keptT s) (sameCtxs_keptA s).toD rfl
    · split
      · exact takeSpareCourse_states
      · exact markUnusable_states.trans (SameView.of_ctxs rfl)

theorem retireField_states {inPass : Bool} : SameStates s (s.retireField l inPass) := by
  unfold State.retireField
  exact retireTile_states.of_sameCtxs (State.fieldRepair_kept (sameCtxs_kept _) (sameCtxs_keptA _).toD rfl)

theorem repairRow_states {cols : List Nat} {inPass : Bool} : SameStates s (s.repairRow p row cols inPass) := by
  have hcolumns : SameStates s (s.replaceColumns p cols inPass) := SameView.of_ctxs
    (State.replaceColumns_kept (P := SameCtxs s) (sameCtxs_kept s) (sameCtxs_keptT s) (sameCtxs_keptA s).toD rfl)
  unfold State.repairRow
  dsimp only
  split
  · exact hcolumns
  · split
    · exact SameView.of_ctxs (State.replaceRow_kept (P := SameCtxs s) (sameCtxs_kept s) (sameCtxs_keptT s)
        (sameCtxs_keptA s).toD rfl)
    · split
      · exact hcolumns
      · unfold State.retireRow
        split
        · exact retireField_states
        · exact markUnusable_states

/-! ### Rows and tiles that are written -/

theorem writeRow_states {pl : RowPlan} {meas : RowMeas} {inPass : Bool} :
    SameStates s (s.writeRow p row pl meas inPass).1 := by
  have hpulsed {levels : List (Nat × Nat)} {again : List Nat} : SameStates s
      (s.pulseRow p (s.physRow p row) levels again pl.counts) := SameView.of_ctxs
    (State.pulseRow_kept (P := SameCtxs s) (sameCtxs_kept s) (sameCtxs_keptT s) (sameCtxs_keptA s).toD rfl)
  unfold State.writeRow
  dsimp only
  split
  · exact hpulsed.of_sameCtxs State.modTile_ctxs
  · split
    · refine SameView.trans ?_ repairRow_states
      exact hpulsed.of_sameCtxs (State.modTile_ctxs.trans State.bumpAt_ctxs)
    · exact hpulsed.of_sameCtxs State.modTile_ctxs

theorem writeRowTwice_states {pl : RowPlan} {first second : RowMeas} {inPass : Bool} :
    SameStates s (s.writeRowTwice p row pl first second inPass).1 := by
  have hfirst := writeRow_states (s := s) (p := p) (row := row) (pl := pl) (meas := first) (inPass := inPass)
  unfold State.writeRowTwice
  split
  · next hrow =>
    rw [hrow] at hfirst
    exact hfirst.trans writeRow_states
  · exact hfirst

theorem programTile_states {seen : List RowSeen} {targets : State → Nat → Seat → Layer → Nat → List (Nat × Int)}
    {k : Nat} : SameStates s (s.programTile c seen targets k l) := by
  have hrow {b : State} {g : State → Nat → List (Nat × Int)} {r : Nat} : SameStates b (b.programRow l r seen g) := by
    unfold State.programRow
    split
    · exact writeRowTwice_states
    · exact SameView.refl _ b
  unfold State.programTile
  split
  · split
    · refine SameView.of_sameCtxs ?_ (State.endProgramming_kept (sameCtxs_kept _) (sameCtxs_keptT _)
        (sameCtxs_keptA _).toD rfl)
      exact Kept.foldl (fun _ _ ht => ht.trans hrow) (SameView.refl _ s)
    · exact SameView.refl _ s
  · exact SameView.refl _ s

theorem readTables_states : SameStates s (s.readTables n) := by
  unfold State.readTables
  split
  · exact SameView.refl _ s
  · next c hc => exact setCtx_view hc rfl rfl

end Sys2Proof.Machine
end

section
/-! PROOF. O29: LOAD and PLACEMENT_COMPLETE (R141, R151, R153, R287, R413). -/

namespace Sys2Proof.Machine

open Sys2Proof Sys2Proof.Safety

variable {s t : State} {via : Via} {n : Nat} {c : Ctx} {x : Aux} {decls : List TensorDecl} {seen : List RowSeen}

/-! ### LOAD -/

theorem exec_ctxLoad (hn : n ≤ 3071) : exec (.ctxLoad via n decls) s =
    s.put! { Aux.none with decls := decls } via (0x8000 + n) 0x01 [s.stateWord n stLoaded] := by
  change execCtxLoad via n decls s = _
  rw [execCtxLoad, ctxIndex_of_le hn]

theorem arrival_probationBars {i sub : Nat} : (arrival s via i sub).probationBars n = s.probationBars n := by
  unfold State.probationBars
  rw [arrival_sameObject.flag, arrival_sameObject.val, arrival_sameObject.flag]

theorem arrival_companionStatus {i sub : Nat} : (arrival s via i sub).companionStatus c = s.companionStatus c := by
  unfold State.companionStatus isCompanion exactE
  simp only [arrival_sameObject.flag, arrival_sameObject.val, arrival_ctx, arrival_companions]

theorem verdict_load (hn : n ≤ 3071) (hc : s.ctx n = some c) (hst : c.state = stOpen) (hrel : c.releasing = false)
    (hadm : admits s via (0x8000 + n) 0x01 [s.stateWord n stLoaded] = true) :
    verdict s x via (0x8000 + n) 0x01 [s.stateWord n stLoaded] =
      (arrival s via (0x8000 + n) 0x01).loadCtx c x.decls := by
  rw [verdict_moves hn hc (by decide) (by rw [hst]; decide) hrel hadm, State.stateVerdict, if_pos ⟨rfl, hst⟩]

/-- A placement of a context begins. -/
def State.placementBegun (s : State) (c : Ctx) (decls : List TensorDecl) : State :=
  s.setCtx { c with placing := true, placed := false, placeStatus := 0, decls := decls }

theorem placementBegun_ctx (hn : c.n = n) : (s.placementBegun c decls).ctx n =
    some { c with placing := true, placed := false, placeStatus := 0, decls := decls } :=
  ctx_setCtx.trans (if_pos hn.symm)

theorem loadCtx_begins (hn : c.n = n) (hbars : s.probationBars n = false) (hcompanion : s.companionStatus c = 0) :
    s.loadCtx c decls = .accept (.action (cidx n) 0x01 0) (Config.estimate (dkey 0 (cidx n) 0x01))
      (fun t => (t.placementBegun c decls).decidePlaces n) := by
  subst hn
  unfold State.loadCtx
  rw [hbars, hcompanion]
  rfl

/-- What a placement that begins keeps of a context: its state, that it is placed, its declarations and its half. -/
def Ctx.loading (c : Ctx) : Nat × Bool × List TensorDecl × HalfId := (c.state, c.placing, c.decls, c.half)

theorem takePlaces_view {q : Placed} : SameView Ctx.loading s (s.takePlaces n q) := by
  unfold State.takePlaces
  split
  · exact SameView.refl _ s
  · next c hc =>
    have hwords {b : State} {d k g h w : Nat} : SameCtxs b (((((b.put (cidx n) 0x24 d).put (cidx n) 0x25 k).put
        (cidx n) 0x26 g).put64 (cidx n) 0x27 h).put64At n 0x5010 0x06 w) := by
      rw [SameCtxs, State.put64At_ctxs, State.put64_ctxs, State.put_ctxs, State.put_ctxs, State.put_ctxs]
    refine Kept.foldl (P := SameView Ctx.loading s) (fun t e ht => ht.of_sameCtxs (State.takeTile_kept
      (sameCtxs_kept t) (sameCtxs_keptT t) (sameCtxs_keptA t).toD rfl)) (SameView.of_sameCtxs ?_ hwords)
    exact setCtx_view hc rfl rfl

theorem decidePlaces_view : SameView Ctx.loading s (s.decidePlaces n) := by
  unfold State.decidePlaces
  split
  · exact SameView.refl _ s
  · next c hc =>
    dsimp only
    split
    · exact SameView.of_ctxs (State.snoopLines_kept (P := SameCtxs s) (sameCtxs_kept s) rfl)
    · split
      · exact setCtx_view hc rfl rfl
      · refine SameView.trans ?_ takePlaces_view
        exact setCtx_view hc rfl rfl

theorem ctxLoad_defers (hn : n ≤ 3071) (hc : s.ctx n = some c) (hst : c.state = stOpen) (hrel : c.releasing = false)
    (hroom : s.ticketRoom = true) (hadm : admits s via (0x8000 + n) 0x01 [s.stateWord n stLoaded] = true)
    (hbars : s.probationBars n = false) (hcompanion : s.companionStatus c = 0) :
    Defers (.ctxLoad via n decls) s via (0x8000 + n) 0x01 [s.stateWord n stLoaded] (fun t =>
      (∃ d, t.ctx n = some d ∧ d.state = stOpen ∧ d.placing = true ∧ d.decls = decls ∧ d.half = c.half) ∧
      SameHbm s t) := by
  have hnum : c.n = n := ctx_num hc
  have hverdict := (verdict_load (x := { Aux.none with decls := decls }) hn hc hst hrel hadm).trans
    (loadCtx_begins hnum (arrival_probationBars.trans hbars) (arrival_companionStatus.trans hcompanion))
  refine defers_of (exec_ctxLoad hn) hadm (arrival_ticketRoom.trans hroom) hverdict ⟨?_, ?_⟩
  · obtain ⟨d, hd, hloading⟩ := SameView.ctx (decidePlaces_view (n := n)) (placementBegun_ctx (decls := decls) hnum)
    obtain ⟨hstate, hplacing, hdecls, hhalf⟩ : d.state = c.state ∧ d.placing = true ∧ d.decls = decls ∧
      d.half = c.half := by simpa [Ctx.loading] using hloading
    exact ⟨d, hd, hstate.trans hst, hplacing, hdecls, hhalf⟩
  · exact State.decidePlaces_kept (sameHbm_kept s) (sameHbm_keptC s) (sameHbm_keptT s) (sameHbm_keptA s).toD
      (sameHbm_keptA s).toN (State.setCtx_kept (sameHbm_kept s) (sameHbm_keptC s) issued_sameHbm)

theorem ctxLoad_barred (hn : n ≤ 3071) (hc : s.ctx n = some c) (hst : c.state = stOpen) (hrel : c.releasing = false)
    (hadm : admits s via (0x8000 + n) 0x01 [s.stateWord n stLoaded] = true) (hbars : s.probationBars n = true) :
    RefusesWith (.ctxLoad via n decls) s via (0x8000 + n) 0x01 0x3001 (fun t =>
      t.reg 0x7021 0x04 = s.reg 0x7021 0x04 + 1 ∧ SameCtxs s t ∧ OnlyIn [0x7021] s t) := by
  have hverdict := verdict_load (x := { Aux.none with decls := decls }) hn hc hst hrel hadm
  rw [State.loadCtx, ctx_num hc, arrival_probationBars, hbars, if_pos rfl] at hverdict
  refine counts_of (exec_ctxLoad hn) hadm hverdict (by decide) rfl ⟨?_, ?_, ?_⟩
  · rw [State.reg_bump_self, arrival_sameObject.reg]
  · rw [SameCtxs, State.bump_ctxs, arrival_ctxs]
  · exact onlyIn_of_keptD (by decide) fun i kd => State.bump_kept (kd.mem (by simp)) arrival_sameObject

/-! ### PLACEMENT_COMPLETE -/

/-- A write that waits ends with the status given. -/
theorem endPending_ends {i sub u st : Nat} {k : Ticket} (hk : s.pendingOn i sub u = some k) :
    ∃ y ∈ (s.endPending i sub u st).svc.tickets, y.num = k.num ∧ y.status = some st := by
  obtain ⟨hmem, hopen, -⟩ := pendingOn_mem hk
  unfold State.endPending
  rw [hk]
  exact ⟨_, endTicket_mem hmem hopen, rfl, rfl⟩

theorem endPending_ctx {i sub u st m : Nat} : (s.endPending i sub u st).ctx m = s.ctx m :=
  ctx_of_ctxs (State.endPending_kept (P := SameCtxs s) (sameCtxs_kept s) (sameCtxs_keptV s) rfl)

theorem exec_placementComplete (hp : s.key.powered = true) (hc : s.ctx n = some c) (hplacing : c.placing = true)
    (hplaced : c.placed = true) : exec (.placementComplete n seen) s = .next (s.endPlacement n seen) := by
  change execPlacementComplete n seen s = _
  unfold execPlacementComplete
  rw [onPower_on hp, hc]
  simp [hc, hplacing, hplaced]

theorem placementComplete_fails (hp : s.key.powered = true) (hc : s.ctx n = some c) (hplacing : c.placing = true)
    (hplaced : c.placed = true) (hbad : c.placeStatus ≠ 0) : Reaches (.placementComplete n seen) s
      (fun t => (∃ d, t.ctx n = some d ∧ d.state = c.state ∧ d.placing = false) ∧
        (∀ k, s.pendingOn (cidx n) 0x01 0 = some k → ∃ y ∈ t.svc.tickets, y.num = k.num ∧
          y.status = some c.placeStatus) ∧ SameDict s t ∧ SameHbm s t) := by
  let b := s.setCtx { c with placing := false, placeStatus := 0 }
  have hend : s.endPlacement n seen = b.endPending (cidx n) 0x01 0 c.placeStatus := by
    unfold State.endPlacement
    rw [hc]
    exact if_pos hbad
  refine ⟨_, (exec_placementComplete hp hc hplacing hplaced).trans (congrArg _ hend), ⟨_, endPending_ctx.trans
    (ctx_setCtx.trans (if_pos (ctx_num hc).symm)), rfl, rfl⟩, fun k hk => ?_, ?_, ?_⟩
  · exact endPending_ends ((pendingOn_of_svc State.setCtx_svc).trans hk)
  · exact State.endPending_kept (sameDict_kept s) (sameDict_keptV s) State.setCtx_dict
  · exact State.endPending_kept (sameHbm_kept s) (sameHbm_keptV s) ⟨State.setCtx_hbm0, State.setCtx_hbm1⟩

/-- The state of a placement whose tiles are programmed, and whose digest, tables, masks and weight copies stand. -/
def State.programmed (s : State) (n : Nat) (c : Ctx) (seen : List RowSeen) : State :=
  let s := ((List.range c.tiles.length).zip c.tiles).foldl (fun t e => t.programTile c seen (fun x => x.initialTargets c)
    e.1 e.2) s
  let s := (s.digestProgram c).clearRepeats c
  let s := (s.readTables n).readMasks n
  let m := s.stepOf n
  ((s.writeCopies n m).writeCopies n (m + 1)).noteFacts n

theorem programmed_states : SameStates s (s.programmed n c seen) := by
  have htiles {l : List (Nat × Nat)} : SameStates s (l.foldl (fun t e =>
      t.programTile c seen (fun x => x.initialTargets c) e.1 e.2) s) :=
    Kept.foldl (P := SameStates s) (fun _ _ ht => ht.trans programTile_states) (SameView.refl _ s)
  have hdigest {b : State} : SameCtxs b ((b.digestProgram c).clearRepeats c) :=
    State.clearRepeats_kept (sameCtxs_keptM b) (State.digestProgram_kept (sameCtxs_keptA b).toN rfl)
  have htables {b : State} : SameStates b ((b.readTables n).readMasks n) :=
    readTables_states.trans (modCtx_view (fun _ => rfl) fun _ => rfl)
  have hcopies {b : State} {m : Nat} : SameCtxs b ((b.writeCopies n m).writeCopies n (m + 1)) :=
    State.writeCopies_kept (sameCtxs_keptM b) (State.writeCopies_kept (sameCtxs_keptM b) rfl)
  unfold State.programmed
  dsimp only
  exact (((htiles.of_sameCtxs hdigest).trans htables).of_sameCtxs hcopies).trans
    (modCtx_view (fun _ => rfl) fun _ => rfl)

/-- A context whose placement has ended in LOADED. -/
def Ctx.loaded (c : Ctx) (viaCopy : Bool) : Ctx :=
  { c with state := stLoaded, placing := false, viaCopy := viaCopy, watches := [], gradHist := [] }

theorem endPlacement_loads (hc : s.ctx n = some c) (hgood : c.placeStatus = 0) : ∃ viaCopy, s.endPlacement n seen =
    (((s.programmed n c seen).modCtx n (fun c => c.loaded viaCopy)).endPending (cidx n) 0x01 0 0x0000).ctxEvent n
      evLoaded := by
  unfold State.endPlacement
  rw [hc]
  dsimp only
  rw [if_neg (by simp [hgood])]
  exact ⟨_, rfl⟩

theorem placementComplete_loads (hp : s.key.powered = true) (hc : s.ctx n = some c) (hplacing : c.placing = true)
    (hplaced : c.placed = true) (hgood : c.placeStatus = 0) : Reaches (.placementComplete n seen) s
      (fun t => (∃ d, t.ctx n = some d ∧ d.state = stLoaded ∧ d.placing = false) ∧
        t.flag (cidx n) 0x1F evLoaded = true) := by
  obtain ⟨viaCopy, hend⟩ := endPlacement_loads (seen := seen) hc hgood
  obtain ⟨d, hd, -⟩ := SameView.ctx (programmed_states (c := c) (seen := seen)) hc
  refine ⟨_, (exec_placementComplete hp hc hplacing hplaced).trans (congrArg _ hend), ⟨_, ctxEvent_ctx.trans
    (endPending_ctx.trans (ctx_modCtx_self (f := fun c => c.loaded viaCopy) (fun _ => rfl) hd)), rfl, rfl⟩,
    ctxEvent_flag (by decide)⟩

/-- Settles O29: LOAD by its verdict, PLACEMENT_COMPLETE by how the checks of the placement ended. -/
theorem loadPlacesAProgram : Obligations.LoadPlacesAProgram := by
  unfold Obligations.LoadPlacesAProgram
  exact fun s n c hn hc => ⟨fun via decls hst hrel hroom hadm => ⟨ctxLoad_defers hn hc hst hrel hroom hadm,
    ctxLoad_barred hn hc hst hrel hadm⟩, fun seen hp => placementComplete_fails hp hc,
    fun seen hp => placementComplete_loads hp hc⟩

end Sys2Proof.Machine
end

section
/-! PROOF. O34: what the end of a strand writes in the context objects, hold reasons and events (R146, R157). -/

namespace Sys2Proof.Machine

open Sys2Proof Sys2Proof.Safety

/-! ### What the end of a strand writes in the context objects: reasons and events -/

/-- The objects beside those of the contexts that the end of a strand's work writes. -/
def workObjects : List Nat :=
  [0x0080, 0x1012, 0x1013, 0x1015, 0x1016, 0x3010, 0x3020, 0x3021, 0x3031, 0x3032, 0x3040, 0x3041, 0x4001, 0x4003,
    0x4005, 0x4010, 0x4012, 0x4014, 0x4021, 0x4102, 0x4103, 0x5020, 0x6010, 0x6020, 0x6021, 0x7020, 0x7021, 0x7040,
    0x9030, 0x9031, 0xA003, 0xF030]

/-- A property kept by every kind of update that the end of a strand's work makes: of a context's object it writes the
hold reasons and the events alone. -/
structure WorkKept (P : State → Prop) : Prop where
  rest : Kept P
  mems : KeptM P
  ctxs : KeptC P
  tiles : KeptT P
  halves : KeptH P
  svc : KeptV P
  fabric : KeptB P
  dict : KeptD P workObjects
  reason : ∀ {s : State} {m b : Nat}, P s → P (s.setReason m b)
  eventFlag : ∀ {s : State} {m b : Nat}, P s → P (s.putFlag (cidx m) 0x1F b true)

namespace WorkKept

variable {P : State → Prop} {s : State} {n k : Nat} {c : Ctx} {L : Layer} {t : Tensor} {x : Strand}

/-- A listed object is written. -/
theorem objects (w : WorkKept P) {V : List Nat} (h : V.all (fun i => workObjects.contains i) = true) : KeptD P V :=
  w.dict.mono h

theorem object (w : WorkKept P) {i : Nat} (h : i ∈ workObjects) : KeptAt P i := w.dict.mem h

theorem setCtx (w : WorkKept P) (h : P s) : P (s.setCtx c) := State.setCtx_kept w.rest w.ctxs h

theorem modCtx (w : WorkKept P) {f : Ctx → Ctx} (h : P s) : P (s.modCtx n f) := State.modCtx_kept w.rest w.ctxs h

theorem settle (w : WorkKept P) {asked : Bool} (h : P s) : P (s.settle n asked) :=
  State.settle_kept w.rest w.svc h

theorem ctxEvent (w : WorkKept P) {b : Nat} (h : P s) : P (s.ctxEvent n b) := by
  have hset := w.eventFlag (m := n) (b := b) h
  unfold State.ctxEvent
  split
  · exact h
  · dsimp only
    split
    · split
      · exact State.signal_kept w.rest hset
      · exact hset
    · exact hset

/-! ### Holds -/

theorem toHold (w : WorkKept P) (h : P s) : P (s.toHold n) := by
  unfold State.toHold
  split
  · exact h
  · exact w.ctxEvent (w.setCtx (w.settle h))

theorem askHold (w : WorkKept P) (h : P s) : P (s.askHold n) := by
  unfold State.askHold
  split
  · exact h
  · split
    · exact w.toHold h
    · exact w.setCtx h

theorem reasonHold (w : WorkKept P) {b : Nat} {all : Bool} (h : P s) : P (s.reasonHold n b all) := by
  unfold State.reasonHold
  split
  · exact h
  · split
    · exact h
    · split
      · exact w.askHold (w.reason h)
      · split
        · exact w.reason h
        · split
          · exact w.toHold (w.reason (w.setCtx h))
          · exact h

theorem holdCompanions (w : WorkKept P) (h : P s) : P (s.holdCompanions n) :=
  Kept.foldl (fun _ _ => w.reasonHold) h

theorem enterHold (w : WorkKept P) (h : P s) : P (s.enterHold n) := w.holdCompanions (w.toHold h)

theorem holdIfAsked (w : WorkKept P) (h : P s) : P (s.holdIfAsked n) := by
  unfold State.holdIfAsked
  split
  · split
    · exact w.enterHold h
    · exact h
  · exact h

/-! ### Faults and suspects -/

theorem enterFault (w : WorkKept P) {b : Nat} (h : P s) : P (s.enterFault n b) := by
  unfold State.enterFault
  split
  · exact h
  · split
    · exact h
    · have hfault {d : Ctx} : P (((((s.dropSnapshots n).setReason n b).settle n false).setCtx d).ctxEvent n evFault) :=
        w.ctxEvent (w.setCtx (w.settle (w.reason (State.dropSnapshots_kept (w.objects (by decide)) h))))
      dsimp only
      split
      · exact w.holdCompanions hfault
      · exact hfault

theorem makeSuspect (w : WorkKept P) {unit cause step : Nat} (h : P s) : P (s.makeSuspect unit cause n step) := by
  unfold State.makeSuspect
  split
  · exact h
  · exact State.enterProbation_kept w.rest (w.objects (by decide)) (Kept.foldl (fun _ _ => w.enterFault)
      (State.log_kept w.rest (w.objects (by decide)) (State.listSuspect_kept (w.objects (by decide)) h)))

theorem stepEnds (w : WorkKept P) (h : P s) : P (s.stepEnds n) := by
  have hback : P (s.retractAll n) := State.retractAll_kept w.rest w.ctxs (w.objects (by decide)) h
  unfold State.stepEnds
  split
  · exact h
  · dsimp only
    split
    · split
      · exact w.enterFault (w.makeSuspect hback)
      · split
        · exact w.enterFault (w.makeSuspect hback)
        · exact State.buildRun_kept w.rest w.mems w.ctxs (w.objects (by decide))
            (w.modCtx (State.bump_kept (w.object (pick_mem (by decide) (by decide))) hback))
    · exact w.setCtx (State.stageResults_kept w.rest (w.objects (by decide)) h)

/-! ### Numerics -/

theorem throttle (w : WorkKept P) {h : HalfId} {f : HalfCtl → HalfCtl} (hs : P s) : P ((s.modHalf h f).throttle h) :=
  State.throttle_kept (w.objects (by decide)) (State.modHalf_kept w.halves hs)

theorem holdNumerics (w : WorkKept P) {cause : Nat} {h : HalfId} (hs : P s) : P (s.holdNumerics n cause h) := by
  have hrun : P ((s.discardRun n).retractAll n) := State.retractAll_kept w.rest w.ctxs (w.objects (by decide))
    (State.discardRun_kept w.rest w.ctxs w.tiles (w.objects (by decide)) hs)
  exact w.holdCompanions (w.reasonHold (w.throttle (State.bump_kept (w.object (pick_mem (by decide) (by decide)))
    (State.put64At_kept (w.object (by decide)) (State.putAt_kept (w.object (by decide)) (w.modCtx hrun))))))

theorem storm (w : WorkKept P) (h : P s) : P (s.storm n c) := by
  unfold State.storm
  extract_lets half step count logged counted marked old again kept
  have hlogged : P logged := State.log_kept w.rest (w.objects (by decide)) h
  have hmarked : P marked := w.modCtx (State.putAt_kept (w.object (by decide))
    (State.bump_kept (w.object (pick_mem (by decide) (by decide))) hlogged))
  split
  · exact w.holdNumerics hmarked
  · exact w.throttle (w.modCtx (State.buildRun_kept w.rest w.mems w.ctxs (w.objects (by decide))
      (State.retractAll_kept w.rest w.ctxs (w.objects (by decide))
        (State.discardRun_kept w.rest w.ctxs w.tiles (w.objects (by decide)) hmarked))))

theorem convGrad (w : WorkKept P) {terms : Nat} (h : P s) : P (s.convGrad n L t terms).1 :=
  State.convGrad_kept w.rest w.ctxs (w.objects (by decide)) h

theorem reissueGrad (w : WorkKept P) (h : P s) : P (s.reissueGrad n t) :=
  State.reissueGrad_kept w.rest w.ctxs (w.objects (by decide)) h

theorem putWatch (w : WorkKept P) {e : Watch} (h : P s) : P (s.putWatch n e) :=
  State.putWatch_kept w.rest w.ctxs (w.objects (by decide)) h

theorem judgeGrad (w : WorkKept P) {seed : Bool} (h : P s) : P (s.judgeGrad n k seed c L t) := by
  unfold State.judgeGrad
  extract_lets q watched was noted c' e counted t' bumped q'
  have hnoted : P noted := by
    have hwatched : P watched := State.watchGrad_kept w.rest w.ctxs (w.objects (by decide)) h
    unfold noted
    split
    · exact State.noteTrigger_kept w.rest w.ctxs hwatched
    · exact hwatched
  have hcounted : P counted := by
    unfold counted
    split
    · exact w.putWatch hnoted
    · split
      · exact State.bump_kept (w.object (pick_mem (by decide) (by decide))) (w.putWatch hnoted)
      · exact hnoted
  have hbumped : P bumped := State.bump_kept (w.object (pick_mem (by decide) (by decide))) hcounted
  split
  · exact w.holdNumerics hcounted
  · split
    · exact w.holdNumerics hcounted
    · split
      · exact w.storm hcounted
      · split
        · split
          · exact State.passGrad_kept w.rest w.ctxs (w.convGrad hbumped)
          · exact w.reissueGrad (w.modCtx hbumped)
        · exact State.passGrad_kept w.rest w.ctxs hcounted

theorem evalGrad (w : WorkKept P) {seed : Bool} (h : P s) : P (s.evalGrad n k seed) := by
  unfold State.evalGrad
  split
  · exact h
  · split
    · extract_lets terms q conv t t' bumped marked q'
      have hconv : P conv := w.convGrad h
      have hmarked : P marked := w.modCtx (State.bump_kept (w.object (pick_mem (by decide) (by decide))) hconv)
      split
      · split
        · exact w.judgeGrad (w.convGrad hmarked)
        · exact w.reissueGrad (w.modCtx hmarked)
      · exact w.judgeGrad hconv
    · exact h

theorem evalForward (w : WorkKept P) (h : P s) : P (s.evalForward n k) := by
  unfold State.evalForward
  split
  · exact h
  · split
    · exact h
    · split
      · exact h
      · split
        · exact State.rescaleForward_kept w.rest w.ctxs w.tiles (w.objects (by decide)) h
        · extract_lets q watched fresh again cleared shifted noted c' marked widened
          have hcleared : P cleared := Kept.foldl (fun _ _ => w.putWatch)
            (State.watchForward_kept w.rest w.ctxs (w.objects (by decide)) h)
          have hshifted : P shifted := Kept.foldl
            (fun _ _ => State.shiftForward_kept w.rest w.ctxs (w.objects (by decide))) hcleared
          have hnoted : P noted := by
            unfold noted
            split
            · exact hshifted
            · exact State.noteTrigger_kept w.rest w.ctxs hshifted
          split
          · exact w.holdNumerics hnoted
          · split
            · exact w.holdNumerics hnoted
            · split
              · exact w.storm hnoted
              · split
                · exact State.repeatForward_kept w.rest w.ctxs w.tiles (w.objects (by decide))
                    (State.widenInput_kept w.rest w.ctxs
                      (State.bump_kept (w.object (pick_mem (by decide) (by decide))) (w.modCtx hnoted)))
                · exact State.passForward_kept w.rest w.mems w.ctxs (w.objects (by decide)) hnoted

/-! ### Layers and steps -/

theorem addGrad (w : WorkKept P) {id place : Nat} {g : Nat → Nat → Word} (h : P s) : P (s.addGrad n id place g) := by
  unfold State.addGrad
  split
  · exact h
  · split
    · exact State.addLinkGrad_kept w.rest w.ctxs (w.objects (by decide)) h
    · split
      · dsimp only
        split
        · exact w.evalGrad (w.setCtx h)
        · exact w.setCtx h
      · exact h

theorem finishDX (w : WorkKept P) (h : P s) : P (s.finishDX n k) := by
  unfold State.finishDX
  split
  · exact h
  · split
    · split
      · exact h
      · dsimp only
        split
        · exact w.addGrad (w.addGrad h)
        · exact w.addGrad h
    · exact h

theorem finishLayer (w : WorkKept P) (h : P s) : P (s.finishLayer n x) := by
  unfold State.finishLayer
  split
  · exact h
  · split
    · exact h
    · split
      · exact h
      · dsimp only
        split
        · split
          · exact w.evalForward (State.runDigital_kept w.rest w.ctxs (w.objects (by decide)) h)
          · exact w.evalForward h
        · exact w.finishDX (State.finishDW_kept w.rest w.ctxs h)

theorem beginBackward (w : WorkKept P) (h : P s) : P (s.beginBackward n) := by
  unfold State.beginBackward
  split
  · exact h
  · extract_lets idx held c' l phase seeded
    have hphase : P phase := w.setCtx h
    refine State.fillSlots_kept w.rest w.ctxs (w.objects (by decide)) ?_
    unfold seeded
    split
    · exact hphase
    · split
      · exact hphase
      · split
        · split
          · exact w.modCtx hphase
          · exact hphase
        · exact w.evalGrad (w.modCtx hphase)

theorem progress (w : WorkKept P) (h : P s) : P (s.progress n k) := by
  induction k generalizing s with
  | zero => exact h
  | succ k ih =>
    unfold State.progress
    split
    · exact h
    · split
      · exact h
      · split
        · split
          · split
            · exact ih (w.beginBackward h)
            · exact w.stepEnds h
          · exact h
        · split
          · exact w.stepEnds h
          · exact h

theorem nextPiece (w : WorkKept P) (h : P s) : P (s.nextPiece n x) := w.holdIfAsked (w.modCtx h)

theorem endStrand (w : WorkKept P) (h : P s) : P (s.endStrand n c x) := by
  unfold State.endStrand
  extract_lets owed freed filled done
  have hkept : P (if x.dead then s else s.keepPartial n x) := by
    split
    · exact h
    · exact State.keepPartial_kept w.rest w.ctxs h
  have hfilled : P filled := State.refill_kept w.rest w.ctxs (w.objects (by decide))
    (State.leaveTile_kept w.rest w.ctxs w.tiles w.fabric (w.objects (by decide)) (w.modCtx
      (State.oweRows_kept w.rest w.tiles (State.dropSnapshot_kept (w.objects (by decide)) hkept))))
  have hdone : P done := by
    unfold done
    split
    · exact hfilled
    · exact w.finishLayer hfilled
  exact w.holdIfAsked (w.progress hdone)

end WorkKept

end Sys2Proof.Machine
end

section
/-! PROOF. O34: the end of a strand (R154, R308, R310). -/

namespace Sys2Proof.Machine

open Sys2Proof Sys2Proof.Safety

variable {s t : State} {n k hs : Nat} {residue : Residue} {c : Ctx} {x : Strand}

/-! ### What the end of a strand keeps -/

theorem workKept_object {i : Nat} (hi : i < 0x8000) (hout : workObjects.all (fun j => i % 65536 != j % 65536) = true) :
    WorkKept (SameObject i s) where
  rest := sameObject_kept i s
  mems := sameObject_keptM i s
  ctxs := sameObject_keptC i s
  tiles := sameObject_keptT i s
  halves := sameObject_keptH i s
  svc := sameObject_keptV i s
  fabric := sameObject_keptB i s
  dict := sameObject_keptD s (by simpa using hout)
  reason h := State.putFlag_kept ((sameObject_keptN s (.inl hi) (by omega)).mem _) h
  eventFlag h := State.putFlag_kept ((sameObject_keptN s (.inl hi) (by omega)).mem _) h

theorem onlySubs_putAt {u i j sub : Nat} {l : List Nat} {w : Word} (h : OnlySubs i l s t) (hsub : sub < 256 ∧ sub ∈ l) :
    OnlySubs i l s (t.putAt u j sub w) := by
  intro v sub' hlt hne
  rw [State.regAt_putAt_ne, h v sub' hlt hne]
  rw [Ne, dkey_inj]
  rintro ⟨-, -, he⟩
  rw [Nat.mod_eq_of_lt hsub.1, Nat.mod_eq_of_lt hlt] at he
  exact hne (he ▸ hsub.2)

/-- Of a context's object the end of a strand writes the hold reasons and the events. -/
theorem workKept_context : WorkKept (OnlySubs (cidx n) [0x02, 0x1F] s) where
  rest := ⟨fun h => h.of_object fun _ _ => rfl⟩
  mems := {
    clear := fun h => h.of_object ((sameObject_keptM _ _).clear fun _ _ => rfl)
    drop := fun h => h.of_object ((sameObject_keptM _ _).drop fun _ _ => rfl)
    write := fun h => h.of_object ((sameObject_keptM _ _).write fun _ _ => rfl) }
  ctxs := ⟨fun h => h.of_object fun _ _ => rfl⟩
  tiles := ⟨fun h => h.of_object fun _ _ => rfl⟩
  halves := ⟨fun h => h.of_object fun _ _ => rfl⟩
  svc := ⟨fun h => h.of_object fun _ _ => rfl⟩
  fabric := ⟨fun h => h.of_object fun _ _ => rfl⟩
  dict := ⟨fun {i} hi t u sub v h => h.of_object (sameObject_at (by
    have hsmall : i < 0x8000 ∨ 0x8C00 ≤ i ∧ i < 65536 := by
      have hall : workObjects.all (fun i => decide (i < 0x8000 ∨ 0x8C00 ≤ i ∧ i < 65536)) = true := by decide
      simpa using List.all_eq_true.mp hall i hi
    unfold cidx
    omega) t u sub v fun _ _ => rfl)⟩
  reason h := onlySubs_putAt h (by decide)
  eventFlag h := onlySubs_putAt h (by decide)

/-! ### The count of an engine strand (R330) -/

/-- Number of the engine's unit that a strand runs on. -/
def State.engineOf (s : State) (c : Ctx) (x : Strand) : Nat :=
  mkTile (halfNum c.half) (s.fabric.physCourse (mkTile (halfNum c.half) x.course 0)) 0xFF

/-- The handshakes of an engine strand and its kind are counted. -/
def State.engineWork (s : State) (c : Ctx) (x : Strand) (hs : Nat) : State :=
  let u := s.engineOf c x
  let s := s.add64At u 0x4020 0x03 hs
  let s := s.modCtx c.n (fun c => { c with energy := c.energy + 7220 * hs })
  match x.kind with
  | .dX _ _ => s.add64At u 0x4020 0x05 1
  | .dW _ sl => (s.add64At u 0x4020 0x07 1).addAt u 0x4020 0x0F (if sl = 0 then 0 else 1)
  | .engine _ => s.add64At u 0x4020 0x09 1
  | _ => s

theorem countEngine_transient : s.countEngine c x .transient =
    (((s.engineWork c x (handshakes c x * 2)).bumpAt (s.engineOf c x) 0x4020 0x0B).riskEvent c.half 1).modCtx c.n
      (fun c => { c with ledgerCounts := addAtIdx c.ledgerCounts 2 1 }) := rfl

theorem countEngine_fault : s.countEngine c x .fault =
    (((s.engineWork c x (handshakes c x * 2)).bumpAt (s.engineOf c x) 0x4020 0x0C).log {
      cls := clsWarning, unit := unitWord 0x03 0 (s.engineOf c x), ctx := c.n, step := x.step,
      obj := counter 0x4020 0x0C, detail := natBytes 4 x.id }).failCheck c.n
        (unitWord 0x03 0 (s.engineOf c x)) := rfl

theorem engineWork_subs :
    OnlySubs 0x4020 [0x03, 0x04, 0x05, 0x06, 0x07, 0x08, 0x09, 0x0A, 0x0F] s (s.engineWork c x hs) := by
  have hhands : OnlySubs 0x4020 [0x03, 0x04, 0x05, 0x06, 0x07, 0x08, 0x09, 0x0A, 0x0F] s
      ((s.add64At (s.engineOf c x) 0x4020 0x03 hs).modCtx c.n (fun c => { c with energy := c.energy + 7220 * hs })) :=
    OnlySubs.of_object (onlySubs_putAt (onlySubs_putAt (OnlySubs.refl _ _ s) (by decide)) (by decide))
      (State.modCtx_kept (sameObject_kept _ _) (sameObject_keptC _ _) fun _ _ => rfl)
  unfold State.engineWork
  dsimp only
  split
  · exact onlySubs_putAt (onlySubs_putAt hhands (by decide)) (by decide)
  · exact onlySubs_putAt (onlySubs_putAt (onlySubs_putAt hhands (by decide)) (by decide)) (by decide)
  · exact onlySubs_putAt (onlySubs_putAt hhands (by decide)) (by decide)
  · exact hhands

/-- An engine's residue is counted once, in the word of its kind. -/
theorem countEngine_residue {u : Nat} (hu : u = s.engineOf c x) :
    (residue = .transient → (s.countEngine c x residue).regAt u 0x4020 0x0B = s.regAt u 0x4020 0x0B + 1) ∧
    (residue = .fault → (s.countEngine c x residue).regAt u 0x4020 0x0C = s.regAt u 0x4020 0x0C + 1) := by
  subst hu
  constructor
  · rintro rfl
    have hrest {b : State} : SameObject 0x4020 b ((b.riskEvent c.half 1).modCtx c.n
        (fun c => { c with ledgerCounts := addAtIdx c.ledgerCounts 2 1 })) :=
      State.modCtx_kept (sameObject_kept _ _) (sameObject_keptC _ _)
        (State.riskEvent_kept (sameObject_keptD b (by decide)) fun _ _ => rfl)
    rw [countEngine_transient, hrest, State.regAt_bumpAt, if_pos rfl, engineWork_subs _ _ (by decide) (by decide)]
  · rintro rfl
    have hrest {b : State} {e : Event} {v : Nat} : SameObject 0x4020 b ((b.log e).failCheck c.n v) :=
      State.failCheck_kept (sameObject_kept _ _) (sameObject_keptC _ _)
        (State.log_kept (sameObject_kept _ _) (sameObject_keptD b (by decide)) fun _ _ => rfl)
    rw [countEngine_fault, hrest, State.regAt_bumpAt, if_pos rfl, engineWork_subs _ _ (by decide) (by decide)]

theorem engineWork_slots : SameView Ctx.slots s (s.engineWork c x hs) := by
  have hhands : SameView Ctx.slots s ((s.add64At (s.engineOf c x) 0x4020 0x03 hs).modCtx c.n
      (fun c => { c with energy := c.energy + 7220 * hs })) :=
    (SameView.of_ctxs (State.add64At_kept (P := SameCtxs s) ((sameCtxs_keptA s).mem _) rfl)).trans
      (modCtx_view (fun _ => rfl) fun _ => rfl)
  unfold State.engineWork
  dsimp only
  split
  · exact hhands.of_sameCtxs (State.add64At_kept ((sameCtxs_keptA _).mem _) rfl)
  · exact hhands.of_sameCtxs (State.addAt_kept ((sameCtxs_keptA _).mem _)
      (State.add64At_kept ((sameCtxs_keptA _).mem _) rfl))
  · exact hhands.of_sameCtxs (State.add64At_kept ((sameCtxs_keptA _).mem _) rfl)
  · exact hhands

theorem countEngine_slots : SameView Ctx.slots s (s.countEngine c x residue) := by
  cases residue with
  | clear => exact engineWork_slots
  | transient =>
    rw [countEngine_transient]
    have hrisk {b : State} {u : Nat} : SameCtxs b ((b.bumpAt u 0x4020 0x0B).riskEvent c.half 1) :=
      State.riskEvent_kept (sameCtxs_keptA b).toD (State.bumpAt_kept ((sameCtxs_keptA b).mem _) rfl)
    exact (engineWork_slots.of_sameCtxs hrisk).trans (modCtx_view (fun _ => rfl) fun _ => rfl)
  | fault =>
    rw [countEngine_fault]
    have hlog {b : State} {u : Nat} {e : Event} : SameCtxs b ((b.bumpAt u 0x4020 0x0C).log e) :=
      State.log_kept (sameCtxs_kept b) (sameCtxs_keptA b).toD (State.bumpAt_kept ((sameCtxs_keptA b).mem _) rfl)
    exact (engineWork_slots.of_sameCtxs hlog).trans (modCtx_view (fun _ => rfl) fun _ => rfl)

/-! ### STRAND_END -/

/-- The strand is counted, and what its engine's residue said. -/
def State.strandCounted (s : State) (n : Nat) (c : Ctx) (x : Strand) (residue : Residue) : State :=
  let s := s.add64 (cidx n) 0x22 1
  match x.kind with
  | .forward _ => s
  | _ => s.countEngine c x residue

/-- The strand is counted and its work goes on or is taken up. -/
def State.strandEnded (s : State) (n : Nat) (c : Ctx) (x : Strand) (residue : Residue) : State :=
  let s := s.strandCounted n c x residue
  if moreWork c x then s.nextPiece n x else s.endStrand n c x

theorem exec_strandEnd (hp : s.key.powered = true) (hc : s.ctx n = some c)
    (hx : c.slots.find? (fun y => y.id == k && y.issued) = some x) : exec (.strandEnd n k residue) s =
      .next (if s.mayEnd n x then s.strandEnded n c x residue else s) := by
  change execStrandEnd n k residue s = _
  unfold execStrandEnd
  rw [onPower_on hp, hc]
  dsimp only
  rw [hx]
  dsimp only
  cases s.mayEnd n x <;> rfl

theorem strandCounted_forward {l : Nat} (hk : x.kind = .forward l) :
    s.strandCounted n c x residue = s.add64 (cidx n) 0x22 1 := by
  unfold State.strandCounted
  dsimp only
  rw [hk]

theorem strandCounted_engine (hk : ∀ l, x.kind ≠ .forward l) :
    s.strandCounted n c x residue = (s.add64 (cidx n) 0x22 1).countEngine c x residue := by
  unfold State.strandCounted
  dsimp only
  split
  · next l hl => exact absurd hl (hk l)
  · rfl

/-- A property that counting a strand keeps. -/
theorem strandCounted_of {P : State → Prop} (hcount : P (s.add64 (cidx n) 0x22 1))
    (hengine : P ((s.add64 (cidx n) 0x22 1).countEngine c x residue)) : P (s.strandCounted n c x residue) := by
  unfold State.strandCounted
  dsimp only
  split
  · exact hcount
  · exact hengine

theorem strandEnded_kept {P : State → Prop} (w : WorkKept P) (h : P (s.strandCounted n c x residue)) :
    P (s.strandEnded n c x residue) := by
  unfold State.strandEnded
  dsimp only
  split
  · exact w.nextPiece h
  · exact w.endStrand h

theorem OnlySubs.val64 {i sub : Nat} {l : List Nat} (h : OnlySubs i l s t) (hlow : sub < 256 ∧ sub ∉ l)
    (hhigh : sub + 1 < 256 ∧ sub + 1 ∉ l) : t.val64 i sub = s.val64 i sub := by
  have hl : t.valAt 0 i sub = s.valAt 0 i sub := h.val hlow
  have hh : t.valAt 0 i (sub + 1) = s.valAt 0 i (sub + 1) := h.val hhigh
  unfold State.val64 State.val64At
  rw [hl, hh]

theorem val64_put64_wraps {i sub m : Nat} : (s.put64 i sub m).val64 i sub = m % 2 ^ 64 := by
  have hk : dkey 0 i (sub + 1) ≠ dkey 0 i sub := by simp only [Ne, dkey_unit]; omega
  unfold State.val64 State.val64At State.valAt State.put64
  rw [State.regAt_put64At, if_neg hk, if_pos rfl, State.regAt_put64At, if_pos rfl]
  unfold toWord
  rw [BitVec.toNat_ofNat, BitVec.toNat_ofNat]
  exact (Nat.mod_mul (x := m) (a := 2 ^ 32) (b := 2 ^ 32)).symm

theorem val64_add64_self {i sub m : Nat} : (s.add64 i sub m).val64 i sub = (s.val64 i sub + m) % 2 ^ 64 :=
  val64_put64_wraps

theorem strandEnded_counts :
    (s.strandEnded n c x residue).val64 (cidx n) 0x22 = (s.val64 (cidx n) 0x22 + 1) % 2 ^ 64 := by
  have hcounted : OnlySubs (cidx n) [0x02, 0x1F] (s.add64 (cidx n) 0x22 1) (s.strandCounted n c x residue) :=
    strandCounted_of (OnlySubs.refl _ _ _) (SameObject.onlySubs (State.countEngine_kept (sameObject_kept _ _)
      (sameObject_keptC _ _) (sameObject_keptD _ (by unfold cidx; intro j hj; simp at hj; omega)) fun _ _ => rfl))
  exact (OnlySubs.val64 (strandEnded_kept workKept_context hcounted) (by decide) (by decide)).trans val64_add64_self

theorem add64_context_object {m : Nat} : SameObject 0x4020 s (s.add64 (cidx n) 0x22 m) :=
  State.add64_kept ((sameObject_keptN s (by decide) (by decide)).mem n) fun _ _ => rfl

theorem strandEnded_engines : SameObject 0x4020 (s.strandCounted n c x residue) (s.strandEnded n c x residue) :=
  strandEnded_kept (workKept_object (by decide) (by decide)) fun _ _ => rfl

theorem strandEnded_forward {l : Nat} (hk : x.kind = .forward l) : SameObject 0x4020 s (s.strandEnded n c x residue) := by
  have h := strandEnded_engines (s := s) (n := n) (c := c) (x := x) (residue := residue)
  rw [strandCounted_forward hk] at h
  exact add64_context_object.trans h

theorem strandEnded_residue (hk : ∀ l, x.kind ≠ .forward l) {u : Nat} (hu : u = s.engineOf c x) :
    (residue = .transient →
      (s.strandEnded n c x residue).regAt u 0x4020 0x0B = s.regAt u 0x4020 0x0B + 1) ∧
    (residue = .fault → (s.strandEnded n c x residue).regAt u 0x4020 0x0C = s.regAt u 0x4020 0x0C + 1) := by
  have hends := strandEnded_engines (s := s) (n := n) (c := c) (x := x) (residue := residue)
  obtain ⟨htransient, hfault⟩ := countEngine_residue (s := s.add64 (cidx n) 0x22 1) (c := c) (x := x)
    (residue := residue) (u := u) hu
  rw [strandCounted_engine hk] at hends
  rw [hends, hends, ← add64_context_object (s := s) (n := n) (m := 1),
    ← add64_context_object (s := s) (n := n) (m := 1)]
  exact ⟨htransient, hfault⟩

theorem enterHold_view {α : Type} {f : Ctx → α} (hf : HoldBlind f) : SameView f s (s.enterHold n) :=
  (toHold_view hf).trans (holdCompanions_view hf)

theorem holdIfAsked_view {α : Type} {f : Ctx → α} (hf : HoldBlind f) : SameView f s (s.holdIfAsked n) := by
  unfold State.holdIfAsked
  split
  · split
    · exact enterHold_view hf
    · exact SameView.refl f s
  · exact SameView.refl f s

/-- A strand whose work goes on is in its slot again, not issued, at the next piece. -/
theorem nextPiece_slots (hc : s.ctx n = some c) (hx : x ∈ c.slots) : ∃ d, (s.nextPiece n x).ctx n = some d ∧
    ∃ y ∈ d.slots, y.id = x.id ∧ y.issued = false ∧ y.piece = x.piece + 1 := by
  obtain ⟨d, hd, hslots⟩ := SameView.ctx (holdIfAsked_view (f := Ctx.slots) fun _ _ _ _ _ _ _ => rfl)
    (ctx_modCtx_self (f := fun c => { c with slots := c.slots.map (fun y =>
      if y.id == x.id then { y with issued := false, piece := x.piece + 1 } else y) }) (fun _ => rfl) hc)
  refine ⟨d, hd, { x with issued := false, piece := x.piece + 1 }, ?_, rfl, rfl, rfl⟩
  rw [hslots]
  exact List.mem_map.mpr ⟨x, hx, by simp⟩

theorem strandEnded_goesOn (hc : s.ctx n = some c) (hx : x ∈ c.slots) (hmore : moreWork c x = true) :
    ∃ d, (s.strandEnded n c x residue).ctx n = some d ∧
      ∃ y ∈ d.slots, y.id = x.id ∧ y.issued = false ∧ y.piece = x.piece + 1 := by
  have hadd : SameView Ctx.slots s (s.add64 (cidx n) 0x22 1) :=
    SameView.of_ctxs (State.add64_kept (P := SameCtxs s) ((sameCtxs_keptA s).mem _) rfl)
  obtain ⟨d, hd, hslots⟩ := SameView.ctx (strandCounted_of (P := SameView Ctx.slots s) (c := c) (x := x)
    (residue := residue) hadd (hadd.trans countEngine_slots)) hc
  unfold State.strandEnded
  dsimp only
  rw [if_pos hmore]
  exact nextPiece_slots hd (hslots ▸ hx)

theorem strandEnd_ends (hp : s.key.powered = true) (hc : s.ctx n = some c)
    (hx : c.slots.find? (fun y => y.id == k && y.issued) = some x) (hmay : s.mayEnd n x = true) :
    Reaches (.strandEnd n k residue) s (fun t =>
      t.val64 (cidx n) 0x22 = (s.val64 (cidx n) 0x22 + 1) % 2 ^ 64 ∧
      (∀ l, x.kind = .forward l → SameObject 0x4020 s t) ∧
      ((∀ l, x.kind ≠ .forward l) →
        let e := mkTile (halfNum c.half) (s.fabric.physCourse (mkTile (halfNum c.half) x.course 0)) 0xFF
        (residue = .transient → t.regAt e 0x4020 0x0B = s.regAt e 0x4020 0x0B + 1) ∧
        (residue = .fault → t.regAt e 0x4020 0x0C = s.regAt e 0x4020 0x0C + 1)) ∧
      (moreWork c x = true → ∃ d, t.ctx n = some d ∧ ∃ y ∈ d.slots, y.id = k ∧ y.issued = false ∧
        y.piece = x.piece + 1)) := by
  have hid : x.id = k := by
    have := List.find?_some hx
    simp only [Bool.and_eq_true, beq_iff_eq] at this
    exact this.1
  refine ⟨_, (exec_strandEnd hp hc hx).trans (by rw [if_pos hmay]), strandEnded_counts, fun _ => strandEnded_forward,
    fun hk => strandEnded_residue hk rfl, fun hmore => ?_⟩
  exact hid ▸ strandEnded_goesOn hc (List.mem_of_find?_eq_some hx) hmore

theorem strandEnd_waits (hp : s.key.powered = true) (hc : s.ctx n = some c)
    (hx : c.slots.find? (fun y => y.id == k && y.issued) = some x) (hmay : s.mayEnd n x = false) :
    Reaches (.strandEnd n k residue) s (fun t => t = s) :=
  ⟨s, (exec_strandEnd hp hc hx).trans (by rw [hmay]; rfl), rfl⟩

end Sys2Proof.Machine
end

section
/-! PROOF. O34: the issue of a strand (R154, R156, R323). -/

namespace Sys2Proof.Machine

open Sys2Proof Sys2Proof.Safety

variable {s t : State} {n u : Nat} {unit : UnitWord} {h : HalfId} {c : Ctx} {x : Strand}

/-! ### The round robins (R156) -/

/-- The class that the weighted round robin picks is one of those with a ready strand. -/
theorem pickClass_some {credits weights ready : List Nat} {k : Nat} (hk : k ∈ ready)
    (hw : ∀ k ∈ ready, 0 < weights.getD k 0) :
    ∃ j left, pickClass credits weights ready = some (j, left) ∧ j ∈ ready := by
  have hfind {l : List Nat} {j : Nat} (hj : ready.find? (fun k => decide (0 < l.getD k 0)) = some j) : j ∈ ready :=
    List.mem_of_find?_eq_some hj
  unfold pickClass
  dsimp only
  cases hcredits : ready.find? (fun k => decide (0 < credits.getD k 0)) with
  | some j => exact ⟨j, _, rfl, hfind hcredits⟩
  | none =>
    cases hweights : ready.find? (fun k => decide (0 < weights.getD k 0)) with
    | some j => exact ⟨j, _, rfl, hfind hweights⟩
    | none => exact absurd (hw k hk) (by simpa using List.find?_eq_none.mp hweights k hk)

/-- A fold that takes an entry or keeps the one it has ends with an entry. -/
theorem foldl_picks {f : Option Nat → Nat → Option Nat} (hf : ∀ a n, f a n = some n ∨ f a n = a ∧ a ≠ none)
    {l : List Nat} : ∀ {a : Option Nat}, (a ≠ none ∨ l ≠ []) →
      ∃ r, l.foldl f a = some r ∧ (a = some r ∨ r ∈ l) := by
  induction l with
  | nil =>
    intro a ha
    obtain ⟨r, hr⟩ := Option.ne_none_iff_exists'.mp (ha.resolve_right (by simp))
    exact ⟨r, hr, .inl hr⟩
  | cons m l ih =>
    intro a _
    have hne : f a m ≠ none := by
      rcases hf a m with he | ⟨he, hne⟩
      · simp [he]
      · rwa [he]
    obtain ⟨r, hr, hmem⟩ := ih (.inl hne)
    refine ⟨r, hr, ?_⟩
    rcases hmem with he | hin
    · rcases hf a m with hm | ⟨hm, -⟩
      · exact .inr (List.mem_cons.mpr (.inl (Option.some.inj (he.symm.trans hm))))
      · exact .inl (hm.symm.trans he)
    · exact .inr (List.mem_cons_of_mem _ hin)

/-- The context that the round robin picks is one of those it picks from. -/
theorem pickCtx_some {last : Nat} {l : List Nat} (hl : l ≠ []) : ∃ n, pickCtx last l = some n ∧ n ∈ l := by
  have hlow {m : List Nat} (hm : m ≠ []) : ∃ r, m.foldl (fun (a : Option Nat) n =>
      match a with | none => some n | some b => some (min b n)) none = some r ∧ r ∈ m := by
    obtain ⟨r, hr, hmem⟩ := foldl_picks (f := fun (a : Option Nat) n =>
      match a with | none => some n | some b => some (min b n)) (fun a n => by
        cases a with
        | none => exact .inl rfl
        | some b => rcases Nat.le_total b n with hb | hb <;> simp [hb]) (.inr hm)
    exact ⟨r, hr, hmem.resolve_left (by simp)⟩
  unfold pickCtx
  dsimp only
  by_cases hnext : l.filter (fun n => last != 0xFFFF && decide (last < n)) = []
  · rw [hnext]
    exact hlow hl
  · obtain ⟨r, hr, hmem⟩ := hlow hnext
    refine ⟨r, ?_, (List.mem_filter.mp hmem).1⟩
    split
    · next r' hr' => exact hr'.symm.trans hr
    · next hnone => exact nomatch hnone.symm.trans hr

/-! ### The snoops for lines that the host holds (R66) -/

/-- Nothing differs but the snoops asked for and what is sent. -/
def SnoopsOnly (s t : State) : Prop := ∃ snoops out, t = { s with port := { s.port with snoops := snoops }, out := out }

theorem SnoopsOnly.refl (s : State) : SnoopsOnly s s := ⟨s.port.snoops, s.out, rfl⟩

theorem snoopLines_only {l : List Nat} (ht : SnoopsOnly s t) : SnoopsOnly s (t.snoopLines h n l) := by
  refine Kept.foldl (P := SnoopsOnly s) ?_ ht
  rintro _ line ⟨snoops, out, rfl⟩
  dsimp only
  split
  · exact ⟨snoops, out, rfl⟩
  · split
    · exact ⟨_, _, rfl⟩
    · exact ⟨_, _, rfl⟩

/-- The contexts of a half have asked for the lines that their next strands on the unit need. -/
def State.strandsSnooped (s : State) (h : HalfId) (u : Nat) : State :=
  (s.ctxs.filter (fun c => c.half == h)).foldl (fun t c =>
    (s.candidates c u).foldl (fun t x => t.snoopLines h c.n (s.heldLines c x)) t) s

theorem strandsSnooped_only : SnoopsOnly s (s.strandsSnooped h u) :=
  Kept.foldl (fun _ _ ht => Kept.foldl (fun _ _ => snoopLines_only) ht) (SnoopsOnly.refl s)

theorem SnoopsOnly.ctxs (hs : SnoopsOnly s t) : t.ctxs = s.ctxs := by
  obtain ⟨snoops, out, rfl⟩ := hs
  rfl

theorem SnoopsOnly.ctxClass (hs : SnoopsOnly s t) : ctxClass t n = ctxClass s n := by
  obtain ⟨snoops, out, rfl⟩ := hs
  rfl

theorem SnoopsOnly.classWeight (hs : SnoopsOnly s t) {k : Nat} : t.classWeight h k = s.classWeight h k := by
  obtain ⟨snoops, out, rfl⟩ := hs
  rfl

theorem SnoopsOnly.issuable (hs : SnoopsOnly s t) : t.issuable c u = s.issuable c u := by
  obtain ⟨snoops, out, rfl⟩ := hs
  rfl

end Sys2Proof.Machine
end

section
/-! PROOF. O34: STRAND_ISSUE and STRAND_END together. -/

namespace Sys2Proof.Machine

open Sys2Proof Sys2Proof.Safety

variable {s t : State} {n u : Nat} {unit : UnitWord} {h : HalfId} {c : Ctx} {x : Strand}

/-! ### The issue at a unit (R147, R200, R323, R324) -/

theorem issueOnTile_view {p l : Nat} {α : Type} {f : Ctx → α}
    (hf : ∀ (c : Ctx) (e : List (Nat × List Byte)), f { c with ledgerCoeff := e } = f c) :
    SameView f s (s.issueOnTile c x p l).1 := by
  unfold State.issueOnTile
  extract_lets switched half limits limited counted tile paused noted
  have hlimited : SameView f s limited := SameView.of_ctxs
    (State.modTile_kept (sameCtxs_kept s) (sameCtxs_keptT s)
      (State.switchSet_kept (sameCtxs_kept s) (sameCtxs_keptT s) (sameCtxs_keptA s).toD rfl))
  have hcounted : SameView f s counted := by
    unfold counted
    split
    · exact hlimited.trans (modCtx_view (fun _ => rfl) fun c => hf c _)
    · exact hlimited
  have hpaused : SameView f s paused := by
    unfold paused
    split
    · exact hcounted.of_sameCtxs (State.putAt_kept ((sameCtxs_keptA _).mem _) (State.bumpAt_kept
        ((sameCtxs_keptA _).mem _) (State.modTile_kept (sameCtxs_kept _) (sameCtxs_keptT _) rfl)))
    · exact hcounted
  show SameView f s noted
  unfold noted
  split
  · split
    · exact hpaused.of_sameCtxs (State.putAt_kept ((sameCtxs_keptA _).mem _) rfl)
    · exact hpaused
  · exact hpaused

/-- What the issue does at the strand's tile, and the snapshot taken there. -/
def State.issueAt (s : State) (c : Ctx) (x : Strand) (u : Nat) : State × List Nat :=
  match x.kind with
  | .forward l => s.issueOnTile c x (u % 2 ^ 17) l
  | _ => (s, [])

/-- A context takes the unit for one of its strands. -/
def Ctx.takeUnit (c : Ctx) (x : Strand) (u : Nat) (snapshot : List Nat) : Ctx :=
  { c with
    used := if c.used.contains u then c.used else c.used ++ [u],
    slots := c.slots.map (fun y => if y.id == x.id then { y with issued := true, snapshot := snapshot } else y) }

/-- A strand that the arbitration has picked issues at the unit. -/
def State.issueStrand (s : State) (n : Nat) (c : Ctx) (x : Strand) (u : Nat) : State :=
  let q := s.issueAt c x u
  let s := q.1.modCtx n (fun c => c.takeUnit x u q.2)
  if x.isForward then s.yieldCal (u % 2 ^ 17) else s

theorem issueAt_fabric : SameFabric s (s.issueAt c x u).1 := by
  unfold State.issueAt
  split
  · exact State.issueOnTile_kept (sameFabric_kept s) (sameFabric_keptC s) (sameFabric_keptT s)
      (sameFabric_keptA s).toD rfl
  · rfl

theorem issueAt_view : SameView (fun c => (c.half, c.slots)) s (s.issueAt c x u).1 := by
  unfold State.issueAt
  split
  · exact issueOnTile_view fun _ _ => rfl
  · exact SameView.refl _ s

theorem issueStrand_takes (hc : s.ctx n = some c) : SameFabric s (s.issueStrand n c x u) ∧
    ∃ (d : Ctx) (snapshot : List Nat), d.half = c.half ∧ d.slots = c.slots ∧
      (s.issueStrand n c x u).ctx n = some (d.takeUnit x u snapshot) := by
  obtain ⟨d, hd, hsame⟩ := SameView.ctx (issueAt_view (c := c) (x := x) (u := u)) hc
  obtain ⟨hhalf, hslots⟩ := Prod.mk.inj hsame
  have htaken := ctx_modCtx_self (f := fun d => d.takeUnit x u (s.issueAt c x u).2) (fun _ => rfl) hd
  have hfabric : SameFabric s ((s.issueAt c x u).1.modCtx n (fun d => d.takeUnit x u (s.issueAt c x u).2)) :=
    State.modCtx_kept (sameFabric_kept s) (sameFabric_keptC s) issueAt_fabric
  unfold State.issueStrand
  dsimp only
  split
  · refine ⟨State.yieldCal_kept (sameFabric_kept s) (sameFabric_keptT s) (sameFabric_keptA s).toD hfabric,
      d, (s.issueAt c x u).2, hhalf, hslots, ?_⟩
    exact (ctx_of_ctxs (State.yieldCal_kept (P := SameCtxs _) (sameCtxs_kept _) (sameCtxs_keptT _)
      (sameCtxs_keptA _).toD rfl)).trans htaken
  · exact ⟨hfabric, d, _, hhalf, hslots, htaken⟩

/-- Whether a strand is on a unit depends on its work, the context's half and the fabric. -/
theorem onUnit_of {d : Ctx} {y : Strand} (hf : SameFabric s t) (hhalf : d.half = c.half) (hkind : y.kind = x.kind)
    (hcourse : y.course = x.course) : t.onUnit d y u = s.onUnit c x u := by
  have hfab : t.fabric = s.fabric := hf
  unfold State.onUnit State.physTile
  rw [hkind, hcourse, hhalf, hfab]

theorem issueStrand_busy (hc : s.ctx n = some c) (hx : x ∈ c.slots) (hon : s.onUnit c x u = true) :
    (s.issueStrand n c x u).unitBusy u = true := by
  obtain ⟨hfabric, d, snapshot, hhalf, hslots, hd⟩ := issueStrand_takes (x := x) (u := u) hc
  have hy : { x with issued := true, snapshot := snapshot } ∈ (d.takeUnit x u snapshot).slots :=
    List.mem_map.mpr ⟨x, hslots ▸ hx, if_pos (beq_self_eq_true x.id)⟩
  unfold State.unitBusy
  refine List.any_eq_true.mpr ⟨_, List.mem_of_find?_eq_some hd, List.any_eq_true.mpr ⟨_, hy, ?_⟩⟩
  exact (Bool.true_and _).trans ((onUnit_of hfabric (x := x) hhalf rfl rfl).trans hon)

/-! ### STRAND_ISSUE -/

/-- A context found by its number among contexts of different numbers. -/
theorem ctx_of_mem (hnum : (s.ctxs.map (·.n)).Nodup) (hc : c ∈ s.ctxs) : s.ctx c.n = some c := by
  unfold State.ctx
  cases hfind : s.ctxs.find? (fun d => d.n == c.n) with
  | none => exact absurd (List.find?_eq_none.mp hfind c hc) (by simp)
  | some d =>
    have hn : d.n = c.n := by simpa using List.find?_some hfind
    rw [List.inj_on_of_nodup_map hnum (List.mem_of_find?_eq_some hfind) hc hn]

/-- Contexts of a half that may issue a strand on a unit. -/
def State.mayIssueOn (s : State) (h : HalfId) (u : Nat) : List Ctx :=
  s.ctxs.filter (fun c => c.half == h && !(s.issuable c u).isEmpty)

/-- The arbitration picks one of the contexts that may issue. -/
theorem arbitration_picks (hc : c ∈ s.mayIssueOn h u) (hclass : ctxClass s c.n < 3)
    (hweights : ∀ k, k < 3 → 0 < s.classWeight h k) :
    ∃ k left n, pickClass (s.arb u).credits ((List.range 3).map (s.classWeight h)) ((List.range 3).filter (fun k =>
        (s.mayIssueOn h u).any (fun c => ctxClass s c.n == k))) = some (k, left) ∧
      pickCtx ((s.arb u).last.getD k 0xFFFF) (((s.mayIssueOn h u).filter (fun c => ctxClass s c.n == k)).map (·.n)) =
        some n ∧ ∃ d ∈ s.mayIssueOn h u, d.n = n := by
  obtain ⟨k, left, hpick, hk⟩ := pickClass_some (credits := (s.arb u).credits)
    (weights := (List.range 3).map (s.classWeight h)) (k := ctxClass s c.n)
    (ready := (List.range 3).filter (fun k => (s.mayIssueOn h u).any (fun c => ctxClass s c.n == k)))
    (List.mem_filter.mpr ⟨List.mem_range.mpr hclass, List.any_eq_true.mpr ⟨c, hc, beq_self_eq_true _⟩⟩)
    (fun j hj => by
      have hlt : j < 3 := List.mem_range.mp (List.mem_filter.mp hj).1
      simpa [List.getD_eq_getElem?_getD, hlt] using hweights j hlt)
  obtain ⟨d, hd, hdk⟩ := List.any_eq_true.mp (List.mem_filter.mp hk).2
  have hready : d ∈ (s.mayIssueOn h u).filter (fun c => ctxClass s c.n == k) := List.mem_filter.mpr ⟨hd, hdk⟩
  obtain ⟨n, hn, hmem⟩ := pickCtx_some (last := (s.arb u).last.getD k 0xFFFF)
    (List.ne_nil_of_mem (List.mem_map_of_mem (f := (·.n)) hready))
  obtain ⟨e, he, hen⟩ := List.mem_map.mp hmem
  exact ⟨k, left, n, hpick, hn, e, (List.mem_filter.mp he).1, hen⟩

/-- What STRAND_ISSUE does once the strands of the half have asked for their lines. -/
theorem exec_strandIssue (hp : s.key.powered = true) (hruns : s.runs (halfOf (unit.toNat / 65536)) = true)
    (hawake : s.awake = true) (hfree : s.unitBusy unit.toNat = false)
    (hdroop : tileCourse (unit.toNat % 2 ^ 17) ∉ (s.half (halfOf (unit.toNat / 65536))).droop)
    {b : State} (hb : s.strandsSnooped (halfOf (unit.toNat / 65536)) unit.toNat = b) {k : Nat} {left : List Nat}
    (hclass : pickClass (b.arb unit.toNat).credits ((List.range 3).map (b.classWeight (halfOf (unit.toNat / 65536))))
      ((List.range 3).filter (fun k => (b.mayIssueOn (halfOf (unit.toNat / 65536)) unit.toNat).any (fun c =>
        ctxClass b c.n == k))) = some (k, left))
    (hpick : pickCtx ((b.arb unit.toNat).last.getD k 0xFFFF)
      (((b.mayIssueOn (halfOf (unit.toNat / 65536)) unit.toNat).filter (fun c => ctxClass b c.n == k)).map (·.n)) =
        some n) (hc : b.ctx n = some c) {r : List Strand} (hx : b.issuable c unit.toNat = x :: r) :
    ∃ arbs, exec (.strandIssue unit) s = .next ({ b with arbs := arbs }.issueStrand n c x unit.toNat) := by
  change ∃ arbs, execStrandIssue unit s = _
  unfold execStrandIssue
  rw [onPower_on hp]
  dsimp only
  rw [if_neg (by
    rw [hruns, hawake, hfree, List.contains_eq_mem, decide_eq_false hdroop]
    decide)]
  unfold State.strandsSnooped at hb
  unfold State.mayIssueOn at hclass hpick
  rw [hb, hclass]
  dsimp only
  rw [hpick]
  dsimp only
  rw [hc]
  dsimp only
  rw [hx]
  exact ⟨_, rfl⟩

/-- A strand that may issue on a unit is in a slot and on the unit. -/
theorem issuable_mem (hx : x ∈ s.issuable c u) : x ∈ c.slots ∧ s.onUnit c x u = true := by
  have hcand : x ∈ s.candidates c u := (List.mem_filter.mp hx).1
  unfold State.candidates at hcand
  split at hcand
  · exact absurd hcand (by simp)
  · obtain ⟨hslot, hready⟩ := List.mem_filter.mp hcand
    simp only [Bool.and_eq_true] at hready
    exact ⟨hslot, hready.1.2⟩

theorem strandIssue_issues (hp : s.key.powered = true) (hruns : s.runs (halfOf (unit.toNat / 65536)) = true)
    (hawake : s.awake = true) (hfree : s.unitBusy unit.toNat = false)
    (hdroop : tileCourse (unit.toNat % 2 ^ 17) ∉ (s.half (halfOf (unit.toNat / 65536))).droop)
    (hnum : (s.ctxs.map (·.n)).Nodup) (hc : c ∈ s.ctxs) (hhalf : c.half = halfOf (unit.toNat / 65536))
    (hclass : ctxClass s c.n < 3) (hweights : ∀ k, k < 3 → 0 < s.classWeight (halfOf (unit.toNat / 65536)) k)
    (hissue : s.issuable c unit.toNat ≠ []) :
    Reaches (.strandIssue unit) s (fun t => t.unitBusy unit.toNat = true ∧ SameHbm s t) := by
  generalize hb : s.strandsSnooped (halfOf (unit.toNat / 65536)) unit.toNat = b
  have honly : SnoopsOnly s b := hb ▸ strandsSnooped_only
  have hlive : c ∈ b.mayIssueOn (halfOf (unit.toNat / 65536)) unit.toNat := by
    refine List.mem_filter.mpr ⟨honly.ctxs ▸ hc, ?_⟩
    rw [honly.issuable]
    simpa [hhalf] using hissue
  obtain ⟨k, left, n, hk, hn, d, hd, rfl⟩ := arbitration_picks hlive (honly.ctxClass ▸ hclass) fun k hlt =>
    honly.classWeight ▸ hweights k hlt
  obtain ⟨hmem, hready⟩ := List.mem_filter.mp hd
  have hctx : b.ctx d.n = some d := ctx_of_mem (honly.ctxs ▸ hnum) hmem
  obtain ⟨x, r, hx⟩ := List.exists_cons_of_ne_nil (l := b.issuable d unit.toNat) fun he => by simp [he] at hready
  obtain ⟨hslot, hon⟩ := issuable_mem (s := b) (x := x) (hx ▸ List.mem_cons_self)
  obtain ⟨arbs, hexec⟩ := exec_strandIssue hp hruns hawake hfree hdroop hb hk hn hctx hx
  exact ⟨_, hexec, issueStrand_busy (s := { b with arbs := arbs }) hctx hslot hon,
    execStrandIssue_kept (sameHbm_kept s) (sameHbm_keptC s) (sameHbm_keptT s) (sameHbm_keptA s).toD ⟨rfl, rfl⟩ _
      hexec⟩

theorem strandIssue_waits (hp : s.key.powered = true) (hbusy : s.unitBusy unit.toNat = true) :
    Reaches (.strandIssue unit) s (fun t => t = s) := by
  refine ⟨s, ?_, rfl⟩
  change execStrandIssue unit s = _
  unfold execStrandIssue
  rw [onPower_on hp]
  dsimp only
  rw [if_pos (by simp [hbusy])]

/-- Settles O34: STRAND_ISSUE at a free and at a busy unit, STRAND_END of a strand that may end and of one that may
not. -/
theorem strandsIssueAndEnd : Obligations.StrandsIssueAndEnd := by
  unfold Obligations.StrandsIssueAndEnd
  exact fun s hp => ⟨fun unit c hruns hawake hfree hdroop hnum hc hhalf hclass hweights =>
    strandIssue_issues hp hruns hawake hfree hdroop hnum hc hhalf hclass hweights, fun unit => strandIssue_waits hp,
    fun n k residue c x => strandEnd_ends hp, fun n k residue c x => strandEnd_waits hp⟩

end Sys2Proof.Machine
end

section
/-! SUPPORT. Tiles by number, what updates leave of a tile, and counters of 64 bits (R2, R108). -/

namespace Sys2Proof.Machine

open Sys2Proof Sys2Proof.Safety

variable {s t v : State} {p u i sub m : Nat} {f : Tile → Tile} {α γ : Type} {g : Tile → α}

/-! ### Tiles by number -/

/-- A tile found by its address has it. -/
@[simp] theorem State.tile_addr : (s.tile p).addr = p := by
  unfold State.tile
  cases hfind : s.tiles.find? (fun x => x.addr == p) with
  | none => rfl
  | some x => simpa using List.find?_some hfind

theorem tile_of_tiles (e : t.tiles = s.tiles) : t.tile p = s.tile p := by
  unfold State.tile
  rw [e]

theorem tile_modTile_self (hf : ∀ x, (f x).addr = x.addr) : (s.modTile p f).tile p = f (s.tile p) := by
  have haddr : (f (s.tile p)).addr = p := (hf _).trans State.tile_addr
  rw [State.tile, State.modTile_tiles, haddr, find?_replaceBy_self (by simp [haddr])]
  rfl

theorem tile_add64At : (s.add64At u i sub m).tile p = s.tile p := tile_of_tiles State.add64At_tiles

/-! ### Parts of a tile that stay -/

/-- A part of the tile is that of `s`. -/
def SamePart (g : Tile → α) (p : Nat) (s t : State) : Prop := g (t.tile p) = g (s.tile p)

theorem SamePart.refl (g : Tile → α) (p : Nat) (s : State) : SamePart g p s s := rfl

theorem SamePart.trans (h : SamePart g p s t) (h' : SamePart g p t v) : SamePart g p s v := Eq.trans h' h

theorem SamePart.of_tiles (h : SameTiles s t) : SamePart g p s t := congrArg g (tile_of_tiles h)

theorem modTile_part (hf : ∀ x, (f x).addr = x.addr) (hg : ∀ x, g (f x) = g x) : SamePart g p s (s.modTile p f) :=
  (congrArg g (tile_modTile_self hf)).trans (hg _)

/-- Updates that leave a part of a tile leave it one after the other. -/
theorem foldl_part {f : Tile → γ → Tile} (hg : ∀ x e, g (f x e) = g x) (l : List γ) (x : Tile) :
    g (l.foldl f x) = g x := by
  induction l generalizing x with
  | nil => rfl
  | cons e l ih => exact (ih (f x e)).trans (hg x e)

/-! ### Counters of 64 bits -/

theorem val64At_lt : s.val64At u i sub < 2 ^ 64 := by
  have hlow : s.valAt u i sub < 2 ^ 32 := BitVec.isLt _
  have hhigh : s.valAt u i (sub + 1) < 2 ^ 32 := BitVec.isLt _
  unfold State.val64At
  omega

theorem val64At_add64At_self : (s.add64At u i sub m).val64At u i sub = (s.val64At u i sub + m) % 2 ^ 64 := by
  have hk : dkey u i (sub + 1) ≠ dkey u i sub := by
    rw [Ne, dkey_unit]
    omega
  rw [State.add64At]
  generalize s.val64At u i sub + m = n
  unfold State.val64At State.valAt
  rw [State.regAt_put64At, if_neg hk, if_pos rfl, State.regAt_put64At, if_pos rfl]
  unfold toWord
  rw [BitVec.toNat_ofNat, BitVec.toNat_ofNat]
  exact (Nat.mod_mul (x := n) (a := 2 ^ 32) (b := 2 ^ 32)).symm

theorem onlySubs_mono {l k : List Nat} (h : OnlySubs i l s t) (hsub : ∀ j ∈ l, j ∈ k) : OnlySubs i k s t :=
  fun n j hj hne => h n j hj fun hl => hne (hsub j hl)

theorem OnlySubs.val64At {l : List Nat} (h : OnlySubs i l s t) (hlow : sub < 256 ∧ sub ∉ l)
    (hhigh : sub + 1 < 256 ∧ sub + 1 ∉ l) : t.val64At u i sub = s.val64At u i sub := by
  unfold State.val64At State.valAt
  rw [h u sub hlow.1 hlow.2, h u (sub + 1) hhigh.1 hhigh.2]

theorem onlySubs_add64At {j k : Nat} {l : List Nat} (h : OnlySubs i l s t) (hlow : sub < 256 ∧ sub ∈ l)
    (hhigh : sub + 1 < 256 ∧ sub + 1 ∈ l) : OnlySubs i l s (t.add64At k j sub m) :=
  onlySubs_putAt (onlySubs_putAt h hlow) hhigh

theorem SameObject.val64At (h : SameObject i s t) : t.val64At u i sub = s.val64At u i sub := by
  unfold State.val64At State.valAt
  rw [h, h]

end Sys2Proof.Machine
end

section
/-! SUPPORT. Records of the weights and writes of a row's cells: what is read back (R169, R177, R335). -/

namespace Sys2Proof.Machine

open Sys2Proof Sys2Proof.Safety

variable {s t : State} {p row e : Nat} {x : Tile} {w : WeightWrite} {ws : List WeightWrite}

/-! ### Records (R335) -/

/-- A store read by lookup is a sparse store. -/
theorem lookup_getD {α : Type} {m : List (Nat × α)} {k : Nat} {d : α} :
    (lookup m k).getD d = Sparse.get (fun _ => d) m k := by
  induction m with
  | nil => rfl
  | cons a m ih =>
    unfold lookup at ih ⊢
    by_cases h : a.1 = k
    · simp [Sparse.get, h]
    · rw [List.find?_cons_of_neg (by simpa using h), ih]
      simp [Sparse.get, h]

theorem record_putRecord : (x.putRecord row w).record row e =
    if e = w.elem then recordWord w.minor w.major w.target else x.record row e := by
  unfold Tile.record Tile.putRecord
  rw [lookup_getD, lookup_getD]
  split
  · next h => rw [h, Sparse.get_set_self]
  · next h =>
    refine Sparse.get_set_ne _ _ _ ?_
    unfold elemKey
    omega

/-- The records of a row's weights, put one after the other. -/
def Tile.putRecords (x : Tile) (row : Nat) (ws : List WeightWrite) : Tile := ws.foldl (fun x w => x.putRecord row w) x

theorem record_putRecords_of_notMem (h : e ∉ ws.map (·.elem)) :
    (x.putRecords row ws).record row e = x.record row e := by
  induction ws generalizing x with
  | nil => rfl
  | cons w ws ih =>
    rw [List.map_cons, List.mem_cons, not_or] at h
    exact (ih (x := x.putRecord row w) h.2).trans (record_putRecord.trans (if_neg h.1))

/-- Each weight of a row that names it once has its record. -/
theorem record_putRecords (hn : (ws.map (·.elem)).Nodup) (hw : w ∈ ws) :
    (x.putRecords row ws).record row w.elem = recordWord w.minor w.major w.target := by
  induction ws generalizing x with
  | nil => cases hw
  | cons a ws ih =>
    rw [List.map_cons, List.nodup_cons] at hn
    rcases List.mem_cons.mp hw with rfl | htail
    · exact (record_putRecords_of_notMem hn.1).trans (record_putRecord.trans (if_pos rfl))
    · exact ih (x := x.putRecord row a) hn.2 htail

/-- A target that 16 bits hold is read back from its record word. -/
theorem recTarget_recordWord {minor major q : Int} (hlow : -32768 ≤ q) (hhigh : q ≤ 32767) :
    recTarget (recordWord minor major q) = q := by
  unfold recTarget recordWord toWord halfInt
  rw [BitVec.toNat_ofNat]
  generalize lowBits minor 8 = a
  generalize lowBits major 8 = b
  unfold lowBits
  omega

/-- What the records and the rows to be written once more make of a tile. -/
def Tile.rowState (x : Tile) : List (Nat × Word) × List (Nat × List Nat) := (x.records, x.failedRows)

theorem putRecords_part {α : Type} {g : Tile → α} (hg : ∀ (x : Tile) w, g (x.putRecord row w) = g x) :
    g (x.putRecords row ws) = g x := foldl_part hg ws x

theorem setLevels_part {α : Type} {g : Tile → α} (hg : ∀ (x : Tile) k l, g (x.setLevel row k l) = g x)
    (levels : List (Nat × Nat)) : g (levels.foldl (fun x e => x.setLevel row e.1 e.2) x) = g x :=
  foldl_part (fun x e => hg x e.1 e.2) levels x

/-- The shadow of a row is its banks' codes and scales. -/
theorem writeShadow_part {α : Type} {g : Tile → α} {bank : Nat}
    (hg : ∀ (x : Tile) codes scales, g { x with shadow := codes, shadowB8 := scales } = g x) :
    g (x.writeShadow row bank) = g x := by
  unfold Tile.writeShadow
  exact foldl_part (fun y _ => hg y _ _) _ x

theorem bothBanks_part {α : Type} {g : Tile → α}
    (hg : ∀ (x : Tile) codes scales, g { x with shadow := codes, shadowB8 := scales } = g x) :
    g (x.bothBanks row) = g x := (writeShadow_part hg).trans (writeShadow_part hg)

theorem shadowRow_rowState : SamePart Tile.rowState p s (s.shadowRow p false row) := by
  unfold State.shadowRow
  split
  · exact SamePart.refl _ _ _
  · exact modTile_part (fun _ => bothBanks_part (g := Tile.addr) fun _ _ _ => rfl) fun _ =>
      bothBanks_part (g := Tile.rowState) fun _ _ _ => rfl

/-! ### Program counts (R177) -/

theorem noteRowCount_subs {n : Nat} : OnlySubs 0x4001 [0x12, 0x13] s (s.noteRowCount p n) := by
  unfold State.noteRowCount
  dsimp only
  exact OnlySubs.of_object (onlySubs_putAt (onlySubs_putAt (OnlySubs.refl _ _ s) (by decide)) (by decide))
    (State.noteEndurance_kept (sameObject_keptD _ (by decide)) (SameObject.refl _ _))

theorem countRow_subs : OnlySubs 0x4001 [0x12, 0x13] s (s.countRow p row) := by
  have hnoted {n : Nat} {w : Word} : OnlySubs 0x4001 [0x12, 0x13] s
      ((s.putAt (rowUnit p row) 0x4003 0x03 w).noteRowCount p n) :=
    (SameObject.onlySubs (State.putAt_kept (sameObject_at (by decide)) (SameObject.refl _ s))).trans noteRowCount_subs
  unfold State.countRow
  dsimp only
  split
  · exact hnoted.of_object (State.storeCount_kept (sameObject_kept _ _) (sameObject_keptT _ _) (SameObject.refl _ _))
  · exact hnoted

theorem countRow_count : (s.countRow p row).regAt (rowUnit p row) 0x4003 0x03 =
    s.regAt (rowUnit p row) 0x4003 0x03 + 1 := by
  have hnoted {b : State} {n : Nat} : SameObject 0x4003 b (b.noteRowCount p n) :=
    State.noteRowCount_kept (sameObject_keptD b (by decide)) (SameObject.refl _ b)
  have hword : toWord (s.valAt (rowUnit p row) 0x4003 0x03 + 1) = s.regAt (rowUnit p row) 0x4003 0x03 + 1 := by
    unfold toWord State.valAt
    rw [BitVec.ofNat_add, BitVec.ofNat_toNat, BitVec.setWidth_eq]
    rfl
  unfold State.countRow
  dsimp only
  split
  · unfold State.storeCount
    rw [State.regAt_modTile, hnoted, State.regAt_putAt_self, hword]
  · rw [hnoted, State.regAt_putAt_self, hword]

theorem countRow_rowState : SamePart Tile.rowState p s (s.countRow p row) := by
  have hnoted {n : Nat} {w : Word} : SamePart Tile.rowState p s
      ((s.putAt (rowUnit p row) 0x4003 0x03 w).noteRowCount p n) :=
    SamePart.of_tiles (State.noteRowCount_kept (P := SameTiles s) (sameTiles_keptA s).toD State.putAt_tiles)
  unfold State.countRow
  dsimp only
  split
  · exact hnoted.trans (modTile_part (fun _ => rfl) fun _ => rfl)
  · exact hnoted

/-! ### Cells that are pulsed (R166, R175) -/

section Pulses

variable {levels hit : List (Nat × Nat)} {again : List Nat}

/-- What pulsing the cells of a physical row leaves before the row is counted. -/
def State.pulsed (s : State) (p row : Nat) (hit : List (Nat × Nat)) : State :=
  (s.modTile p (fun x => hit.foldl (fun x e => x.setLevel row e.1 e.2) x)).add64At p 0x4001 0x10 hit.length

theorem pulseRow_eq (hhit : levels.filter (fun e => (s.tile p).level row e.1 != e.2 || again.contains e.1) = hit) :
    s.pulseRow p row levels again false =
      if hit.length = 0 then s.pulsed p row hit else (s.pulsed p row hit).countRow p row := by
  unfold State.pulseRow
  dsimp only
  rw [hhit]
  unfold State.pulsed
  cases hit with
  | nil => rw [if_pos List.length_nil, if_neg (by decide)]
  | cons e hit => rw [if_pos (by simp), if_neg (by simp)]

theorem pulsed_subs : OnlySubs 0x4001 [0x10, 0x11] s (s.pulsed p row hit) :=
  onlySubs_add64At (fun _ _ _ _ => State.regAt_modTile) (by decide) (by decide)

theorem pulseRow_subs {counts : Bool} :
    OnlySubs 0x4001 [0x10, 0x11, 0x12, 0x13] s (s.pulseRow p row levels again counts) := by
  have hpulsed : OnlySubs 0x4001 [0x10, 0x11, 0x12, 0x13] s (s.pulsed p row
      (levels.filter (fun e => (s.tile p).level row e.1 != e.2 || again.contains e.1))) :=
    onlySubs_mono pulsed_subs (by decide)
  unfold State.pulseRow
  dsimp only
  split
  · exact hpulsed.trans (onlySubs_mono countRow_subs (by decide))
  · exact hpulsed

theorem pulsed_rowState : SamePart Tile.rowState p s (s.pulsed p row hit) :=
  (modTile_part (fun _ => setLevels_part (g := Tile.addr) (fun _ _ _ => rfl) hit) fun _ =>
    setLevels_part (g := Tile.rowState) (fun _ _ _ => rfl) hit).trans (SamePart.of_tiles State.add64At_tiles)

variable (hhit : levels.filter (fun e => (s.tile p).level row e.1 != e.2 || again.contains e.1) = hit)

include hhit

theorem pulseRow_rowState : SamePart Tile.rowState p s (s.pulseRow p row levels again false) := by
  rw [pulseRow_eq hhit]
  split
  · exact pulsed_rowState
  · exact pulsed_rowState.trans countRow_rowState

/-- Each cell pulsed is a program operation. -/
theorem pulseRow_operations : (s.pulseRow p row levels again false).val64At p 0x4001 0x10 =
    (s.val64At p 0x4001 0x10 + hit.length) % 2 ^ 64 := by
  have hpulsed : (s.pulsed p row hit).val64At p 0x4001 0x10 = (s.val64At p 0x4001 0x10 + hit.length) % 2 ^ 64 := by
    unfold State.pulsed
    rw [val64At_add64At_self, SameObject.val64At (s := s) fun _ _ => State.regAt_modTile]
  rw [pulseRow_eq hhit]
  split
  · exact hpulsed
  · exact (OnlySubs.val64At countRow_subs (by decide) (by decide)).trans hpulsed

/-- A row of which a cell is pulsed is programmed once. -/
theorem pulseRow_programs : (s.pulseRow p row levels again false).regAt (rowUnit p row) 0x4003 0x03 =
    s.regAt (rowUnit p row) 0x4003 0x03 + (if hit.length = 0 then 0 else 1) := by
  have hpulsed : SameObject 0x4003 s (s.pulsed p row hit) :=
    State.add64At_kept (sameObject_at (by decide)) fun _ _ => State.regAt_modTile
  rw [pulseRow_eq hhit]
  split
  · exact (hpulsed _ _).trans (BitVec.add_zero _).symm
  · rw [countRow_count, hpulsed]

end Pulses

end Sys2Proof.Machine
end

section
/-! PROOF. O37: what the repair of a row writes in its tile's counts (R187 to R189). -/

namespace Sys2Proof.Machine

open Sys2Proof Sys2Proof.Safety

variable {s t : State} {p q l row i : Nat} {cols : List Nat} {inPass : Bool}

/-- Words of 0x4001 that a repair writes: spares used, and what the rows written for it count. -/
def repairWords : List Nat := [0x0D, 0x0E, 0x10, 0x11, 0x12, 0x13]

/-- Of a tile's counts none but those of a repair differ. -/
abbrev RepairsOnly (s t : State) : Prop := OnlySubs 0x4001 repairWords s t

theorem RepairsOnly.refl (s : State) : RepairsOnly s s := OnlySubs.refl _ _ s

theorem pulseRow_repairs {levels : List (Nat × Nat)} {again : List Nat} {counts : Bool} :
    RepairsOnly s (s.pulseRow p row levels again counts) := onlySubs_mono pulseRow_subs (by decide)

theorem modTile_repairs {f : Tile → Tile} (h : RepairsOnly s t) : RepairsOnly s (t.modTile p f) :=
  h.of_object fun _ _ => State.regAt_modTile

theorem rewriteRow_repairs : RepairsOnly s (s.rewriteRow p row) := by
  unfold State.rewriteRow
  exact modTile_repairs pulseRow_repairs

theorem shadowAll_repairs (h : RepairsOnly s t) : RepairsOnly s (t.shadowAll p inPass) :=
  h.of_object (State.shadowAll_kept (sameObject_kept _ t) (sameObject_keptT _ t) (sameObject_keptD t (by decide))
    (SameObject.refl _ t))

theorem fieldRepair_repairs {unit cls : Nat} (h : RepairsOnly s t) : RepairsOnly s (t.fieldRepair l unit cls) :=
  h.of_object (State.fieldRepair_kept (sameObject_kept _ t) (sameObject_keptD t (by decide)) (SameObject.refl _ t))

/-! ### Spare columns and rows (R188) -/

theorem takeEntry_repairs {first n x k : Nat} {w : Word} :
    RepairsOnly s ((s.failEntry p first n x).putAt p 0x4004 k w) :=
  SameObject.onlySubs (State.putAt_kept (sameObject_at (by decide))
    (State.failEntry_kept (sameObject_keptD s (by decide)) (SameObject.refl _ s)))

theorem useSpareColumn_repairs {col : Nat} : RepairsOnly s (s.useSpareColumn p col i) := by
  unfold State.useSpareColumn
  exact modTile_repairs (Kept.foldl (P := RepairsOnly s) (fun _ _ ht => ht.trans pulseRow_repairs)
    (onlySubs_putAt takeEntry_repairs (by decide)))

theorem useSpareRow_repairs : RepairsOnly s (s.useSpareRow p row i) :=
  OnlySubs.trans (onlySubs_putAt takeEntry_repairs (by decide)) rewriteRow_repairs

theorem replaceColumns_repairs : RepairsOnly s (s.replaceColumns p cols inPass) :=
  fieldRepair_repairs (shadowAll_repairs (Kept.foldl (P := RepairsOnly s)
    (fun _ _ ht => ht.trans useSpareColumn_repairs) (RepairsOnly.refl s)))

theorem replaceRow_repairs : RepairsOnly s (s.replaceRow p row i inPass) :=
  fieldRepair_repairs (useSpareRow_repairs.of_object (State.shadowRow_kept (sameObject_kept _ _)
    (sameObject_keptT _ _) (sameObject_keptD _ (by decide)) (SameObject.refl _ _)))

/-! ### Retirement (R13 to R16, R187) -/

theorem markUnusable_repairs (h : RepairsOnly s t) : RepairsOnly s (t.markUnusable p) :=
  h.of_object (State.markUnusable_kept (sameObject_kept _ t) (sameObject_keptC _ t) (sameObject_keptT _ t)
    (sameObject_keptB _ t) (sameObject_keptD t (by decide)) (SameObject.refl _ t))

theorem mapTile_repairs (h : RepairsOnly s t) : RepairsOnly s (t.mapTile l q) :=
  h.of_object (State.mapTile_kept (sameObject_kept _ t) (sameObject_keptB _ t) (sameObject_keptD t (by decide))
    (SameObject.refl _ t))

theorem rewriteTile_repairs : RepairsOnly s (s.rewriteTile p inPass) := by
  unfold State.rewriteTile
  split
  · exact RepairsOnly.refl s
  · exact shadowAll_repairs (Kept.foldl (P := RepairsOnly s) (fun _ _ ht => ht.trans rewriteRow_repairs)
      (RepairsOnly.refl s))

theorem moveTile_repairs (h : RepairsOnly s t) : RepairsOnly s (t.moveTile p q inPass) :=
  h.trans (OnlySubs.trans (SameObject.onlySubs (State.copySurround_kept (sameObject_keptD t (by decide)) fun _ _ =>
    State.regAt_setTile.trans State.regAt_setTile)) rewriteTile_repairs)

theorem seatOnSpare_repairs {src : Option Nat} : RepairsOnly s (s.seatOnSpare l src) := by
  unfold State.seatOnSpare
  dsimp only
  split
  · exact fun _ _ _ _ => rfl
  · split
    · refine moveTile_repairs ?_
      exact kept_ite (P := RepairsOnly s) (RepairsOnly.refl s) fun _ _ _ _ => rfl
    · exact kept_ite (P := RepairsOnly s) (RepairsOnly.refl s) fun _ _ _ _ => rfl

theorem takeSpareCourse_repairs {h c : Nat} : RepairsOnly s (s.takeSpareCourse h c) := by
  unfold State.takeSpareCourse
  dsimp only
  refine OnlySubs.of_object (Kept.foldl (P := RepairsOnly s) (fun _ _ ht => ht.trans seatOnSpare_repairs)
    (Kept.foldl (P := RepairsOnly s) (fun _ _ => markUnusable_repairs) ?_))
    (State.spareCheck_kept (sameObject_keptD _ (by decide)) (SameObject.refl _ _))
  exact fun _ _ _ _ => rfl

theorem retireTile_repairs : RepairsOnly s (s.retireTile l inPass) := by
  unfold State.retireTile
  split
  · exact RepairsOnly.refl s
  · split
    · exact mapTile_repairs (markUnusable_repairs fun _ _ _ _ => State.regAt_setTile)
    · exact mapTile_repairs (markUnusable_repairs (moveTile_repairs (RepairsOnly.refl s)))
    · split
      · exact takeSpareCourse_repairs
      · exact (markUnusable_repairs (RepairsOnly.refl s)).of_object fun _ _ => rfl

theorem retireRow_repairs : RepairsOnly s (s.retireRow p inPass) := by
  unfold State.retireRow
  split
  · exact fieldRepair_repairs retireTile_repairs
  · exact markUnusable_repairs (RepairsOnly.refl s)

theorem repairRow_repairs : RepairsOnly s (s.repairRow p row cols inPass) := by
  unfold State.repairRow
  dsimp only
  split
  · exact replaceColumns_repairs
  · split
    · exact replaceRow_repairs
    · split
      · exact replaceColumns_repairs
      · exact retireRow_repairs

end Sys2Proof.Machine
end

section
/-! PROOF. O37: ROW_WRITE_VERIFY (R166, R169, R175 to R177, R187). -/

namespace Sys2Proof.Machine

open Sys2Proof Sys2Proof.Safety

variable {s : State} {p row : Nat} {pl : RowPlan} {meas : RowMeas} {targets : List (Nat × Int)} {inPass : Bool}

/-! ### What a write of a row comes to -/

/-- What a row write-verify makes of the weights of its plan. -/
def State.rowWrites (s : State) (p row : Nat) (pl : RowPlan) (meas : RowMeas) : List WeightWrite :=
  pl.items.map (fun e => (s.tile p).writeWeight row e.1 e.2.1 e.2.2 meas)

/-- The cells that a row write-verify pulses, with their levels. -/
def State.rowHits (s : State) (p row : Nat) (pl : RowPlan) (meas : RowMeas) : List (Nat × Nat) :=
  (s.onColumns p ((s.rowWrites p row pl meas).flatMap (fun w => pairLevels w.elem w.major w.minor))).filter (fun e =>
    (s.tile p).level (s.physRow p row) e.1 != e.2 ||
      ((((lookup (s.tile p).failedRows row).getD []) ++ meas.drift).map (s.physCol p)).contains e.1)

/-- The cells of the row have been pulsed, and the row counted. -/
def State.rowPulsed (s : State) (p row : Nat) (pl : RowPlan) (meas : RowMeas) : State :=
  s.pulseRow p (s.physRow p row)
    (s.onColumns p ((s.rowWrites p row pl meas).flatMap (fun w => pairLevels w.elem w.major w.minor)))
    ((((lookup (s.tile p).failedRows row).getD []) ++ meas.drift).map (s.physCol p)) pl.counts

/-- A row that need not be written once more keeps the records of what was written. -/
def Tile.rowKept (x : Tile) (row : Nat) (ws : List WeightWrite) : Tile :=
  { x with failedRows := x.failedRows.filter (fun e => e.1 != row) }.putRecords row ws

/-- A row that misses for the first time is to be written once more. -/
def Tile.rowMissed (x : Tile) (row : Nat) (cols : List Nat) : Tile :=
  { x with failedRows := x.failedRows ++ [(row, cols)] }

theorem writeRow_passed (h : missed (s.rowWrites p row pl meas) meas = []) : s.writeRow p row pl meas inPass =
    ((s.rowPulsed p row pl meas).modTile p (fun x => x.rowKept row (s.rowWrites p row pl meas)), .passed) := by
  unfold State.rowWrites at h
  unfold State.writeRow
  dsimp only
  rw [h]
  exact if_pos rfl

theorem writeRow_again (h : missed (s.rowWrites p row pl meas) meas ≠ [])
    (hbefore : lookup (s.tile p).failedRows row = none) : s.writeRow p row pl meas inPass =
      ((s.rowPulsed p row pl meas).modTile p (fun x => x.rowMissed row (missed (s.rowWrites p row pl meas) meas)),
        .again) := by
  unfold State.rowPulsed Tile.rowMissed State.rowWrites at *
  unfold State.writeRow
  dsimp only
  rw [if_neg (by simpa using h), if_neg (by simp [hbefore])]

theorem writeRow_repaired (h : missed (s.rowWrites p row pl meas) meas ≠ [])
    (hbefore : lookup (s.tile p).failedRows row ≠ none) : s.writeRow p row pl meas inPass =
      ((((s.rowPulsed p row pl meas).bumpAt p 0x4001 0x0F).modTile p (fun x =>
        x.rowKept row (s.rowWrites p row pl meas))).repairRow p row
          (missed (s.rowWrites p row pl meas) meas) inPass, .repaired) := by
  unfold State.rowPulsed Tile.rowKept Tile.putRecords State.rowWrites at *
  unfold State.writeRow
  dsimp only
  rw [if_neg (by simpa using h), if_pos (by simpa [Option.isSome_iff_ne_none] using hbefore)]

/-! ### What the pulses leave (R177) -/

section Pulsed

variable (hcounts : pl.counts = false)

include hcounts

theorem rowPulsed_rowState : SamePart Tile.rowState p s (s.rowPulsed p row pl meas) := by
  unfold State.rowPulsed
  rw [hcounts]
  exact pulseRow_rowState rfl

theorem rowPulsed_operations : (s.rowPulsed p row pl meas).val64At p 0x4001 0x10 =
    (s.val64At p 0x4001 0x10 + (s.rowHits p row pl meas).length) % 2 ^ 64 := by
  unfold State.rowPulsed
  rw [hcounts]
  exact pulseRow_operations rfl

theorem rowPulsed_programs : (s.rowPulsed p row pl meas).regAt (rowUnit p (s.physRow p row)) 0x4003 0x03 =
    s.regAt (rowUnit p (s.physRow p row)) 0x4003 0x03 + (if (s.rowHits p row pl meas).length = 0 then 0 else 1) := by
  unfold State.rowPulsed
  rw [hcounts]
  exact pulseRow_programs rfl

end Pulsed

theorem rowPulsed_failures : (s.rowPulsed p row pl meas).regAt p 0x4001 0x0F = s.regAt p 0x4001 0x0F :=
  pulseRow_subs _ _ (by decide) (by decide)

theorem rowPulsed_ctxs : SameCtxs s (s.rowPulsed p row pl meas) :=
  State.pulseRow_kept (sameCtxs_kept s) (sameCtxs_keptT s) (sameCtxs_keptA s).toD rfl

/-! ### The rows to be written once more (R176) -/

theorem lookup_filter_ne {l : List (Nat × List Nat)} : lookup (l.filter (fun e => e.1 != row)) row = none := by
  unfold lookup
  rw [Option.map_eq_none_iff, List.find?_eq_none]
  intro e he
  simpa using (List.mem_filter.mp he).2

theorem lookup_append_of_none {l : List (Nat × List Nat)} {cols : List Nat} (h : lookup l row = none) :
    lookup (l ++ [(row, cols)]) row = some cols := by
  unfold lookup at *
  rw [List.find?_append, Option.map_eq_none_iff.mp h]
  simp

theorem rowKept_failedRows {x : Tile} {ws : List WeightWrite} : lookup (x.rowKept row ws).failedRows row = none :=
  (congrArg (lookup · row) (putRecords_part (g := Tile.failedRows) fun _ _ => rfl)).trans lookup_filter_ne

theorem rowKept_record {x : Tile} {ws : List WeightWrite} {w : WeightWrite} (hn : (ws.map (·.elem)).Nodup) (hw : w ∈ ws)
    (hlow : -32768 ≤ w.target) (hhigh : w.target ≤ 32767) :
    recTarget ((x.rowKept row ws).record row w.elem) = w.target :=
  (congrArg recTarget (record_putRecords hn hw)).trans (recTarget_recordWord hlow hhigh)

/-! ### A row that verifies (R325) -/

/-- A row has been pulsed and verified, its records kept and its read-back put into the shadow. -/
def State.rowVerified (s : State) (p row : Nat) (pl : RowPlan) (meas : RowMeas) : State :=
  ((s.rowPulsed p row pl meas).modTile p (fun x => x.rowKept row (s.rowWrites p row pl meas))).shadowRow p false row

theorem rowVerified_kept {P : State → Prop} (kk : Kept P) (kt : KeptT P) (kd : KeptD P [0x4021])
    (h : P (s.rowPulsed p row pl meas)) : P (s.rowVerified p row pl meas) :=
  State.shadowRow_kept kk kt kd (State.modTile_kept kk kt h)

theorem rowVerified_object {i : Nat} (hi : i % 65536 ≠ 0x4021) :
    SameObject i (s.rowPulsed p row pl meas) (s.rowVerified p row pl meas) :=
  rowVerified_kept (sameObject_kept i _) (sameObject_keptT i _) (sameObject_keptD _ (by simpa using hi))
    (SameObject.refl i _)

theorem rowVerified_rowState : ((s.rowVerified p row pl meas).tile p).rowState =
    (((s.rowPulsed p row pl meas).tile p).rowKept row (s.rowWrites p row pl meas)).rowState :=
  Eq.trans shadowRow_rowState (congrArg Tile.rowState (tile_modTile_self fun _ =>
    putRecords_part (g := Tile.addr) fun _ _ => rfl))

/-! ### The command -/

theorem exec_rowWriteVerify (hp : s.key.powered = true) (hrow : row < 1024) (hfree : s.rewriteFree p = true)
    (hpl : (s.tile p).changePlan row targets (fun _ => true) = pl) {t : State} {r : RowEnd}
    (h : s.writeRow p row pl meas false = (t, r)) :
    exec (.rowWriteVerify p row targets meas) s = .next (if r = .passed then t.shadowRow p false row else t) := by
  change execRowWriteVerify p row targets meas s = _
  unfold execRowWriteVerify
  rw [onPower_on hp, if_neg (by simp [hfree, hrow])]
  dsimp only
  rw [hpl, h]

theorem exec_rowWriteVerify_waits (hp : s.key.powered = true) (hfree : s.rewriteFree p = false) :
    exec (.rowWriteVerify p row targets meas) s = .next s := by
  change execRowWriteVerify p row targets meas s = _
  unfold execRowWriteVerify
  rw [onPower_on hp, if_pos (by simp [hfree])]

/-- What a row write-verify leaves alone: memories, security, and all objects but those that it and a repair write. -/
def RowWriteOnly (s t : State) : Prop := SameHbm s t ∧ SameSec s t ∧
  OnlyIn [0x0080, 0x4001, 0x4003, 0x4004, 0x4005, 0x4010, 0x4012, 0x4021, 0x5020, 0x7040, 0xF030] s t

theorem rowWriteVerify_only {t : State} (h : exec (.rowWriteVerify p row targets meas) s = .next t) :
    RowWriteOnly s t :=
  ⟨execRowWriteVerify_kept (sameHbm_kept s) (sameHbm_keptC s) (sameHbm_keptT s) (sameHbm_keptB s)
      (sameHbm_keptA s).toD ⟨rfl, rfl⟩ _ h,
    execRowWriteVerify_kept (sameSec_kept s) (sameSec_keptC s) (sameSec_keptT s) (sameSec_keptB s)
      (sameSec_keptA s).toD rfl _ h,
    onlyIn_of_keptD (by decide) fun i kd => execRowWriteVerify_kept (sameObject_kept i s) (sameObject_keptC i s)
      (sameObject_keptT i s) (sameObject_keptB i s) kd (SameObject.refl i s) _ h⟩

section Verify

variable (hp : s.key.powered = true) (hrow : row < 1024) (hfree : s.rewriteFree p = true)
  (hpl : (s.tile p).changePlan row targets (fun _ => true) = pl)

include hp hrow hfree hpl

theorem rowWriteVerify_passes (hcols : missed (s.rowWrites p row pl meas) meas = []) :
    Reaches (.rowWriteVerify p row targets meas) s (fun t => RowWriteOnly s t ∧ SameCtxs s t ∧
      (((s.rowWrites p row pl meas).map (·.elem)).Nodup → ∀ w ∈ s.rowWrites p row pl meas, -32768 ≤ w.target →
        w.target ≤ 32767 → recTarget ((t.tile p).record row w.elem) = w.target) ∧
      lookup (t.tile p).failedRows row = none ∧
      t.regAt (rowUnit p (s.physRow p row)) 0x4003 0x03 = s.regAt (rowUnit p (s.physRow p row)) 0x4003 0x03 +
        (if (s.rowHits p row pl meas).length = 0 then 0 else 1) ∧
      t.val64At p 0x4001 0x10 = (s.val64At p 0x4001 0x10 + (s.rowHits p row pl meas).length) % 2 ^ 64) := by
  have hcounts : pl.counts = false := hpl ▸ rfl
  have hexec : exec (.rowWriteVerify p row targets meas) s = .next (s.rowVerified p row pl meas) :=
    exec_rowWriteVerify hp hrow hfree hpl (writeRow_passed (inPass := false) hcols)
  obtain ⟨hrecords, hfailed⟩ := Prod.mk.inj (rowVerified_rowState (s := s) (p := p) (row := row) (pl := pl)
    (meas := meas))
  refine ⟨_, hexec, rowWriteVerify_only hexec, rowVerified_kept (sameCtxs_kept s) (sameCtxs_keptT s)
    (sameCtxs_keptA s).toD rowPulsed_ctxs, fun hn w hw hlow hhigh => ?_, ?_, ?_, ?_⟩
  · rw [Tile.record, hrecords]
    exact rowKept_record hn hw hlow hhigh
  · rw [hfailed]
    exact rowKept_failedRows
  · rw [rowVerified_object (by decide), rowPulsed_programs hcounts]
  · rw [SameObject.val64At (rowVerified_object (by decide)), rowPulsed_operations hcounts]

theorem rowWriteVerify_leavesAgain (hcols : missed (s.rowWrites p row pl meas) meas ≠ [])
    (hbefore : lookup (s.tile p).failedRows row = none) :
    Reaches (.rowWriteVerify p row targets meas) s (fun t => RowWriteOnly s t ∧ SameCtxs s t ∧
      lookup (t.tile p).failedRows row = some (missed (s.rowWrites p row pl meas) meas) ∧
      (t.tile p).records = (s.tile p).records ∧
      t.regAt (rowUnit p (s.physRow p row)) 0x4003 0x03 = s.regAt (rowUnit p (s.physRow p row)) 0x4003 0x03 +
        (if (s.rowHits p row pl meas).length = 0 then 0 else 1) ∧
      t.regAt p 0x4001 0x0F = s.regAt p 0x4001 0x0F) := by
  have hcounts : pl.counts = false := hpl ▸ rfl
  have hexec : exec (.rowWriteVerify p row targets meas) s = .next ((s.rowPulsed p row pl meas).modTile p (fun x =>
      x.rowMissed row (missed (s.rowWrites p row pl meas) meas))) :=
    exec_rowWriteVerify hp hrow hfree hpl (writeRow_again (inPass := false) hcols hbefore)
  have htile : ((s.rowPulsed p row pl meas).modTile p (fun x =>
      x.rowMissed row (missed (s.rowWrites p row pl meas) meas))).tile p =
        ((s.rowPulsed p row pl meas).tile p).rowMissed row (missed (s.rowWrites p row pl meas) meas) :=
    tile_modTile_self fun _ => rfl
  obtain ⟨hrecords, hfailed⟩ := Prod.mk.inj
    (rowPulsed_rowState (s := s) (p := p) (row := row) (meas := meas) hcounts)
  refine ⟨_, hexec, rowWriteVerify_only hexec, State.modTile_ctxs.trans rowPulsed_ctxs, ?_, ?_, ?_, ?_⟩
  · rw [htile]
    exact lookup_append_of_none (hfailed ▸ hbefore)
  · rw [htile]
    exact hrecords
  · rw [State.regAt_modTile, rowPulsed_programs hcounts]
  · rw [State.regAt_modTile, rowPulsed_failures]

theorem rowWriteVerify_repairs (hcols : missed (s.rowWrites p row pl meas) meas ≠ [])
    (hbefore : lookup (s.tile p).failedRows row ≠ none) :
    Reaches (.rowWriteVerify p row targets meas) s (fun t => RowWriteOnly s t ∧
      t.regAt p 0x4001 0x0F = s.regAt p 0x4001 0x0F + 1) := by
  have hexec := exec_rowWriteVerify hp hrow hfree hpl (writeRow_repaired (inPass := false) hcols hbefore)
  rw [if_neg nofun] at hexec
  refine ⟨_, hexec, rowWriteVerify_only hexec, ?_⟩
  rw [repairRow_repairs _ _ (by decide) (by decide), State.regAt_modTile, State.regAt_bumpAt, if_pos rfl,
    rowPulsed_failures]

end Verify

/-- Settles O37: a row whose weights all verify, one that misses for the first time, one that misses again, and a tile
whose rows may not be written. -/
theorem rowsAreWrittenAndCounted : Obligations.RowsAreWrittenAndCounted := by
  unfold Obligations.RowsAreWrittenAndCounted
  exact fun s p row targets meas hp hrow =>
    ⟨fun hfree => ⟨rowWriteVerify_passes hp hrow hfree rfl, rowWriteVerify_leavesAgain hp hrow hfree rfl,
      rowWriteVerify_repairs hp hrow hfree rfl⟩, fun hfree => ⟨s, exec_rowWriteVerify_waits hp hfree, rfl⟩⟩

end Sys2Proof.Machine
end

section
/-! PROOF. O35: INPUT_VECTOR_ARRIVE (R202, R214, R282). -/

namespace Sys2Proof.Machine

open Sys2Proof Sys2Proof.Safety

variable {s t : State} {p q n k : Nat} {v : InVec}

/-! ### What is read of the rings and of a calibration product -/

theorem ringLevels_tile : (s.ringLevels p).tile q = s.tile q :=
  tile_of_tiles (State.ringLevels_kept (P := SameTiles s) (sameTiles_keptA s).toD rfl)

theorem vecIssued_of (hc : SameCtxs s t) (hf : SameFabric s t) : t.vecIssued p v = s.vecIssued p v := by
  have hlogical : t.logicalOr p = s.logicalOr p := by
    unfold State.logicalOr
    rw [hf]
  have hnext : t.nextOn p v = s.nextOn p v := by
    funext x
    unfold State.nextOn
    rw [hlogical]
  unfold State.vecIssued
  rw [ctx_of_ctxs hc, hnext]

theorem calActive_of (ht : (t.tile p).calProduct = (s.tile p).calProduct) (hcount : SameObject 0x1005 s t)
    (hpace : SameObject 0x1006 s t) : t.calActive p = s.calActive p := by
  have hspeed : t.speedOf p = s.speedOf p := by
    unfold State.speedOf State.valAt
    rw [hpace]
  unfold State.calActive
  rw [ht, hcount.count, hspeed]

/-- A vector that may issue is ready once it is in the input ring. -/
theorem vecReady_of_mem (hmem : v ∈ (s.tile p).inRing) (hissued : s.vecIssued p v = true) : s.vecReady p = true :=
  List.find?_isSome.mpr ⟨v, hmem, hissued⟩

/-! ### A calibration product yields (R202) -/

theorem calActive_idle (h : (s.tile p).calProduct = none) : s.calActive p = false := by
  unfold State.calActive
  rw [h]

theorem yieldCal_inRing : SamePart Tile.inRing p s (s.yieldCal p) := by
  unfold State.yieldCal
  split
  · exact (SamePart.of_tiles (State.bumpAt_tiles (s := s))).trans (modTile_part (fun _ => rfl) fun _ => rfl)
  · exact SamePart.refl _ _ _

theorem yieldCal_ends (hready : s.vecReady p = true) :
    ((s.yieldCal p).tile p).calAgain = ((s.tile p).calAgain || s.calActive p) ∧ (s.yieldCal p).calActive p = false ∧
      (s.yieldCal p).regAt p 0x4010 0x2F = s.regAt p 0x4010 0x2F + (if s.calActive p then 1 else 0) := by
  unfold State.yieldCal
  rw [hready, Bool.true_and]
  cases hactive : s.calActive p with
  | true =>
    have htile : ((s.bumpAt p 0x4010 0x2F).modTile p (fun x =>
        { x with calProduct := none, calAgain := true })).tile p =
          { (s.bumpAt p 0x4010 0x2F).tile p with calProduct := none, calAgain := true } :=
      tile_modTile_self fun _ => rfl
    rw [if_pos rfl]
    refine ⟨?_, calActive_idle ?_, ?_⟩
    · rw [htile, Bool.or_true]
    · rw [htile]
    · rw [State.regAt_modTile, State.regAt_bumpAt, if_pos rfl, if_pos rfl]
  | false =>
    rw [if_neg Bool.false_ne_true]
    exact ⟨(Bool.or_false _).symm, hactive, (BitVec.add_zero _).symm⟩

/-! ### The arrival -/

/-- A vector is whole in the input ring. -/
def State.vecArrived (s : State) (p : Nat) (v : InVec) : State :=
  (s.modTile p (fun t => { t with inRing := t.inRing ++ [v] })).ringLevels p

theorem vecArrived_tile : (s.vecArrived p v).tile p = { s.tile p with inRing := (s.tile p).inRing ++ [v] } :=
  ringLevels_tile.trans (tile_modTile_self fun _ => rfl)

theorem vecArrived_kept {P : State → Prop} (kk : Kept P) (kt : KeptT P) (kd : KeptD P [0x4014]) (h : P s) :
    P (s.vecArrived p v) := State.ringLevels_kept kd (State.modTile_kept kk kt h)

theorem vecArrived_object {i : Nat} (hi : i % 65536 ≠ 0x4014) : SameObject i s (s.vecArrived p v) :=
  vecArrived_kept (sameObject_kept i s) (sameObject_keptT i s) (sameObject_keptD s (by simpa using hi))
    (SameObject.refl i s)

theorem vecArrived_calActive : (s.vecArrived p v).calActive p = s.calActive p :=
  calActive_of (by rw [vecArrived_tile]) (vecArrived_object (by decide)) (vecArrived_object (by decide))

theorem vecArrived_ready (hissued : s.vecIssued p v = true) : (s.vecArrived p v).vecReady p = true := by
  refine vecReady_of_mem (v := v) ?_ ?_
  · rw [vecArrived_tile]
    exact List.mem_append_right _ (List.mem_singleton.mpr rfl)
  · exact (vecIssued_of
      (vecArrived_kept (sameCtxs_kept s) (sameCtxs_keptT s) (sameCtxs_keptA s).toD rfl)
      (vecArrived_kept (sameFabric_kept s) (sameFabric_keptT s) (sameFabric_keptA s).toD rfl)).trans hissued

theorem vecArrived_yields (hissued : s.vecIssued p v = true) :
    (((s.vecArrived p v).yieldCal p).tile p).calAgain = ((s.tile p).calAgain || s.calActive p) ∧
      ((s.vecArrived p v).yieldCal p).calActive p = false ∧
      ((s.vecArrived p v).yieldCal p).regAt p 0x4010 0x2F =
        s.regAt p 0x4010 0x2F + (if s.calActive p then 1 else 0) := by
  have hends := yieldCal_ends (vecArrived_ready hissued)
  rwa [vecArrived_tile, vecArrived_calActive, vecArrived_object (by decide)] at hends

/-! ### The command -/

theorem exec_inputVectorArrive (hp : s.key.powered = true) (hruns : s.runs (halfOf (tileHalf p)) = true)
    (hv : s.arriving p n k = some v) : exec (.inputVectorArrive p n k) s =
      .next (if 120 < (s.tile p).ringHeld + vecEntries v then s else (s.vecArrived p v).yieldCal p) := by
  change execInputVectorArrive p n k s = _
  unfold execInputVectorArrive
  rw [onPower_on hp, hruns, hv, if_neg (by decide)]
  rfl

theorem inputVectorArrive_enters (hp : s.key.powered = true) (hruns : s.runs (halfOf (tileHalf p)) = true)
    (hv : s.arriving p n k = some v) (hroom : (s.tile p).ringHeld + vecEntries v ≤ 120) :
    Reaches (.inputVectorArrive p n k) s (fun t => (t.tile p).inRing = (s.tile p).inRing ++ [v] ∧
      (s.vecIssued p v = true → (t.tile p).calAgain = ((s.tile p).calAgain || s.calActive p) ∧
        t.calActive p = false ∧ t.regAt p 0x4010 0x2F = s.regAt p 0x4010 0x2F + (if s.calActive p then 1 else 0)) ∧
      OnlyIn [0x4010, 0x4014] s t ∧ SameHbm s t ∧ SameCtxs s t) := by
  have hexec : exec (.inputVectorArrive p n k) s = .next ((s.vecArrived p v).yieldCal p) := by
    rw [exec_inputVectorArrive hp hruns hv, if_neg (by omega)]
  exact ⟨_, hexec, Eq.trans yieldCal_inRing (congrArg Tile.inRing vecArrived_tile), vecArrived_yields,
    onlyIn_of_keptD (by decide) fun i kd => execInputVectorArrive_kept (sameObject_kept i s) (sameObject_keptT i s) kd
      (SameObject.refl i s) _ hexec,
    execInputVectorArrive_kept (sameHbm_kept s) (sameHbm_keptT s) (sameHbm_keptA s).toD ⟨rfl, rfl⟩ _ hexec,
    execInputVectorArrive_kept (sameCtxs_kept s) (sameCtxs_keptT s) (sameCtxs_keptA s).toD rfl _ hexec⟩

theorem inputVectorArrive_waits (hp : s.key.powered = true) (hruns : s.runs (halfOf (tileHalf p)) = true)
    (hv : s.arriving p n k = some v) (hfull : 120 < (s.tile p).ringHeld + vecEntries v) :
    Reaches (.inputVectorArrive p n k) s (fun t => t = s) := by
  refine ⟨s, ?_, rfl⟩
  rw [exec_inputVectorArrive hp hruns hv, if_pos hfull]

theorem inputVectorArrive_none (hp : s.key.powered = true) (hv : s.arriving p n k = none) :
    Reaches (.inputVectorArrive p n k) s (fun t => t = s) := by
  refine ⟨s, ?_, rfl⟩
  change execInputVectorArrive p n k s = _
  unfold execInputVectorArrive
  rw [onPower_on hp, hv]
  dsimp only
  rw [ite_self]

end Sys2Proof.Machine
end

section
/-! PROOF. O35: what a vector that runs through the tile leaves of the tile's input ring and of its counts (R203, R206,
R208, R214). -/

namespace Sys2Proof.Machine

open Sys2Proof Sys2Proof.Safety

variable {s t : State} {p n k : Nat} {v : InVec} {c : Ctx} {L : Layer} {seat : Seat} {f : Flight}

/-! ### The input ring and the last forward vector -/

/-- What issue alone changes of a tile: its input ring and when it last issued. -/
def Tile.intake (x : Tile) : List InVec × Option Nat := (x.inRing, x.lastForward)

theorem modTile_intake {g : Tile → Tile} (h : SamePart Tile.intake p s t) (haddr : ∀ x, (g x).addr = x.addr)
    (hg : ∀ x, (g x).intake = x.intake) : SamePart Tile.intake p s (t.modTile p g) := h.trans (modTile_part haddr hg)

theorem failCheck_intake {unit : Nat} (h : SamePart Tile.intake p s t) :
    SamePart Tile.intake p s (t.failCheck n unit) := h.trans (SamePart.of_tiles
  (State.failCheck_kept (P := SameTiles t) (sameTiles_kept t) (sameTiles_keptC t) rfl))

theorem stage7_intake {out : OutVec} (h : SamePart Tile.intake p s t) :
    SamePart Tile.intake p s (t.stage7 p c L out) := by
  have hconv {x : Tensor} {arrayIn : Bool} {l : List Nat} {g : Tile → Tile} (haddr : ∀ x, (g x).addr = x.addr)
      (hg : ∀ x, (g x).intake = x.intake) :
      SamePart Tile.intake p s ((t.convBlocks c L x 0 arrayIn l).1.modTile p g) :=
    modTile_intake (h.trans (SamePart.of_tiles (State.convBlocks_kept (P := SameTiles t) (sameTiles_kept t)
      (sameTiles_keptC t) (sameTiles_keptA t).toD rfl))) haddr hg
  unfold State.stage7
  split
  · exact modTile_intake h (fun _ => rfl) fun _ => rfl
  · dsimp only
    split
    · exact failCheck_intake (hconv (fun _ => rfl) fun _ => rfl)
    · exact hconv (fun _ => rfl) fun _ => rfl

theorem finish_intake {vec : Nat} {z : List Word} {suspect : Bool} (h : SamePart Tile.intake p s t) :
    SamePart Tile.intake p s (t.finish p n vec c L seat z suspect) := by
  have hpre {g : Ctx → Ctx} : SamePart Tile.intake p s (t.modCtx n g) :=
    h.trans (SamePart.of_tiles (State.modCtx_kept (P := SameTiles t) (sameTiles_kept t) (sameTiles_keptC t) rfl))
  unfold State.finish
  dsimp only
  split
  · exact modTile_intake hpre (fun _ => rfl) fun _ => rfl
  · exact stage7_intake (modTile_intake hpre (fun _ => rfl) fun _ => rfl)

theorem tryFinish_intake (h : SamePart Tile.intake p s t) : SamePart Tile.intake p s (t.tryFinish p k) := by
  induction k generalizing t with
  | zero => exact h
  | succ k ih =>
    unfold State.tryFinish
    dsimp only
    repeat' split
    case isTrue => exact ih (finish_intake (modTile_intake h (fun _ => rfl) fun _ => rfl))
    all_goals exact h

theorem leave_intake (h : SamePart Tile.intake p s t) : SamePart Tile.intake p s (t.leave p f L seat) := by
  unfold State.leave
  dsimp only
  split
  · exact modTile_intake h (fun _ => rfl) fun _ => rfl
  · exact modTile_intake h (fun _ => rfl) fun _ => rfl

theorem release'_intake (h : SamePart Tile.intake p s t) : SamePart Tile.intake p s (t.release' p k) := by
  induction k generalizing t with
  | zero => exact h
  | succ k ih =>
    unfold State.release'
    split
    · next f rest hflight =>
      have hgone : SamePart Tile.intake p s (t.modTile p (fun t => { t with flight := rest })) :=
        modTile_intake h (fun _ => rfl) fun _ => rfl
      dsimp only
      split
      · exact h
      · split
        · exact ih hgone
        · split
          · split
            · exact h
            · exact ih (leave_intake hgone)
          · exact ih hgone
    · exact h

theorem settleRings_intake (h : SamePart Tile.intake p s t) : SamePart Tile.intake p s (t.settleRings p) :=
  (tryFinish_intake (release'_intake h)).trans (congrArg Tile.intake ringLevels_tile)

/-! ### The counts of a slice (R183) -/

/-- What a slice adds to the product counts of its tile. -/
def State.countPasses (s : State) (p : Nat) (o : SliceRun) : State :=
  let s := s.add64At p 0x4001 0x03 o.products
  let s := s.add64At p 0x4001 0x05 o.skips
  let s := s.add64At p 0x4001 0x07 (if o.passes = 2 then 1 else 0)
  s.add64At p 0x4001 0x09 (if o.passes = 4 then 1 else 0)

variable {groups : Nat} {fine : Bool} {o : SliceRun}

theorem countSlice_object : SameObject 0x4001 (s.countPasses p o) (s.countSlice p n groups fine o) := by
  have hobject {i : Nat} (hi : 0x4001 % 65536 ≠ i % 65536) : KeptAt (SameObject 0x4001 (s.countPasses p o)) i :=
    sameObject_at hi
  unfold State.countSlice
  refine State.modCtx_kept (sameObject_kept _ _) (sameObject_keptC _ _) (State.captureCodes_kept (sameObject_kept _ _)
    (State.freeSkip_kept (sameObject_kept _ _) (State.addAt_kept (hobject (by decide)) ?_)))
  refine State.add64At_kept (hobject (by decide)) (State.add64At_kept (hobject (by decide))
    (State.add64At_kept (hobject (by decide)) (State.add64At_kept (hobject (by decide)) ?_)))
  exact SameObject.refl _ _

/-- Words of 0x4001 that the slices of a vector count. -/
def passWords : List Nat := [0x03, 0x04, 0x05, 0x06, 0x07, 0x08, 0x09, 0x0A]

theorem countPasses_subs : OnlySubs 0x4001 passWords s (s.countPasses p o) := by
  have hadd {b : State} {sub m : Nat} (h : OnlySubs 0x4001 passWords s b)
      (hsub : (sub < 256 ∧ sub ∈ passWords) ∧ sub + 1 < 256 ∧ sub + 1 ∈ passWords) :
      OnlySubs 0x4001 passWords s (b.add64At p 0x4001 sub m) := onlySubs_add64At h hsub.1 hsub.2
  exact hadd (hadd (hadd (hadd (OnlySubs.refl _ _ s) (by decide)) (by decide)) (by decide)) (by decide)

theorem countSlice_subs : OnlySubs 0x4001 passWords s (s.countSlice p n groups fine o) :=
  countPasses_subs.of_object countSlice_object

theorem countSlice_tiles : SameTiles s (s.countSlice p n groups fine o) :=
  State.countSlice_kept (sameTiles_kept s) (sameTiles_keptC s) (sameTiles_keptA s).toD rfl

/-- A property that the slices and the note of what issued keep, the run of a vector keeps. -/
theorem runVector_keeps {P : State → Prop} {which : List Bool}
    (hslice : ∀ b o, P b → P (b.countSlice p v.ctx (L.groups seat.block).length v.wide o))
    (hnote : ∀ b m, P b → P (b.noteIssues p m)) (h : P s) : P (s.runVector p v L seat which).1 := by
  unfold State.runVector
  exact hnote _ _ (Kept.foldl1 (fun b _ hb => hslice b.1 _ hb) h)

theorem runVector_intake {which : List Bool} : SamePart Tile.intake p s (s.runVector p v L seat which).1 :=
  runVector_keeps (fun _ _ hb => hb.trans (SamePart.of_tiles countSlice_tiles))
    (fun _ _ hb => modTile_intake hb (fun _ => rfl) fun _ => rfl) (SamePart.refl _ _ s)

theorem runVector_subs {which : List Bool} : OnlySubs 0x4001 passWords s (s.runVector p v L seat which).1 :=
  runVector_keeps (P := OnlySubs 0x4001 passWords s) (fun _ _ hb => hb.trans countSlice_subs)
    (fun _ _ hb => hb.of_object fun _ _ => State.regAt_modTile) (OnlySubs.refl _ _ s)

theorem runFlight_keeps {P : State → Prop} (hrun : P (s.runVector p v L seat [true, true]).1) (h : P s) :
    P (s.runFlight p v L seat).1 := by
  unfold State.runFlight
  split
  · exact h
  · exact hrun

end Sys2Proof.Machine
end

section
/-! PROOF. O35: FORWARD_PRODUCT (R178, R183, R203, R206, R214, R257, R438). -/

namespace Sys2Proof.Machine

open Sys2Proof Sys2Proof.Safety

variable {s t : State} {p n k groups : Nat} {fine : Bool} {o : SliceRun} {v : InVec} {c d : Ctx} {L : Layer}
  {seat : Seat} {f : Flight} {values : List Word}
  {outs : List OutVec}

/-! ### Slices that drive no row (R183) -/

theorem countPasses_products : (s.countPasses p o).val64At p 0x4001 0x03 =
    (s.val64At p 0x4001 0x03 + o.products) % 2 ^ 64 := by
  have hlater : OnlySubs 0x4001 [0x05, 0x06, 0x07, 0x08, 0x09, 0x0A] (s.add64At p 0x4001 0x03 o.products)
      (s.countPasses p o) :=
    onlySubs_add64At (onlySubs_add64At (onlySubs_add64At (OnlySubs.refl _ _ _) (by decide) (by decide)) (by decide)
      (by decide)) (by decide) (by decide)
  rw [OnlySubs.val64At hlater (by decide) (by decide), val64At_add64At_self]

theorem countPasses_skips : (s.countPasses p o).val64At p 0x4001 0x05 =
    (s.val64At p 0x4001 0x05 + o.skips) % 2 ^ 64 := by
  have hlater : OnlySubs 0x4001 [0x07, 0x08, 0x09, 0x0A]
      ((s.add64At p 0x4001 0x03 o.products).add64At p 0x4001 0x05 o.skips) (s.countPasses p o) :=
    onlySubs_add64At (onlySubs_add64At (OnlySubs.refl _ _ _) (by decide) (by decide)) (by decide) (by decide)
  have hearlier : OnlySubs 0x4001 [0x03, 0x04] s (s.add64At p 0x4001 0x03 o.products) :=
    onlySubs_add64At (OnlySubs.refl _ _ _) (by decide) (by decide)
  rw [OnlySubs.val64At hlater (by decide) (by decide), val64At_add64At_self,
    OnlySubs.val64At hearlier (by decide) (by decide)]

/-- What the run of a slice without a pulse gives. -/
def skippedSlice : SliceRun :=
  { sums := List.replicate 544 f32Zero, failed := [], codes := [], products := 0, skips := 1, passes := 1, retries := 0,
    clamps := 0, checked := 0, unchecked := 0, draws := 0 }

theorem skippedSlice_products : skippedSlice.products = 0 := rfl

theorem skippedSlice_failed : skippedSlice.failed = [] := rfl

theorem runSlice_skipped {gs codes exps : List Nat} {r ceiling rows : Nat} (h : activity (drive codes exps rows) = 0) :
    s.runSlice p gs fine r ceiling codes exps rows = skippedSlice := by
  unfold State.runSlice
  exact if_pos h

/-- Slices without a pulse are counted. -/
def State.countSkips (s : State) (p n groups : Nat) (fine : Bool) : Nat → State
  | 0 => s
  | k + 1 => (s.countSlice p n groups fine skippedSlice).countSkips p n groups fine k

theorem countSkips_products : (s.countSkips p n groups fine k).val64At p 0x4001 0x03 = s.val64At p 0x4001 0x03 := by
  induction k generalizing s with
  | zero => rfl
  | succ k ih =>
    calc (s.countSkips p n groups fine (k + 1)).val64At p 0x4001 0x03
      _ = (s.countSlice p n groups fine skippedSlice).val64At p 0x4001 0x03 := ih
      _ = (s.val64At p 0x4001 0x03 + 0) % 2 ^ 64 := (SameObject.val64At countSlice_object).trans countPasses_products
      _ = s.val64At p 0x4001 0x03 := Nat.mod_eq_of_lt val64At_lt

theorem countSkips_skips : (s.countSkips p n groups fine k).val64At p 0x4001 0x05 =
    (s.val64At p 0x4001 0x05 + k) % 2 ^ 64 := by
  induction k generalizing s with
  | zero => exact (Nat.mod_eq_of_lt val64At_lt).symm
  | succ k ih =>
    calc (s.countSkips p n groups fine (k + 1)).val64At p 0x4001 0x05
      _ = ((s.countSlice p n groups fine skippedSlice).val64At p 0x4001 0x05 + k) % 2 ^ 64 := ih
      _ = ((s.val64At p 0x4001 0x05 + 1) % 2 ^ 64 + k) % 2 ^ 64 := by
        rw [SameObject.val64At countSlice_object, countPasses_skips]
        rfl
      _ = (s.val64At p 0x4001 0x05 + (k + 1)) % 2 ^ 64 := by omega

theorem vecSlices_all : ((vecSlices v).zip [true, true]).filter (·.2) = (vecSlices v).map (·, true) := by
  unfold vecSlices
  split <;> rfl

/-- A slice of a vector runs and is counted. -/
def sliceStep (p : Nat) (v : InVec) (L : Layer) (seat : Seat) (r ceiling : Nat) (a : State × List SliceRun)
    (e : List Nat × Bool) : State × List SliceRun :=
  let o := a.1.runSlice p (L.groups seat.block) v.wide r ceiling e.1 v.groups (L.inRows seat.row)
  (a.1.countSlice p v.ctx (L.groups seat.block).length v.wide o, a.2 ++ [o])

theorem foldl_sliceStep_skipped {es : List (List Nat)} {r ceiling : Nat} {os : List SliceRun}
    (h : ∀ e ∈ es, activity (drive e v.groups (L.inRows seat.row)) = 0) :
    (es.map (·, true)).foldl (sliceStep p v L seat r ceiling) (s, os) =
      (s.countSkips p v.ctx (L.groups seat.block).length v.wide es.length,
        os ++ List.replicate es.length skippedSlice) := by
  induction es generalizing s os with
  | nil => simp [State.countSkips]
  | cons e es ih =>
    obtain ⟨hhead, htail⟩ := List.forall_mem_cons.mp h
    have hstep : sliceStep p v L seat r ceiling (s, os) (e, true) =
        (s.countSlice p v.ctx (L.groups seat.block).length v.wide skippedSlice, os ++ [skippedSlice]) := by
      unfold sliceStep
      dsimp only
      rw [runSlice_skipped hhead]
    rw [List.map_cons, List.foldl_cons, hstep, ih htail, List.append_assoc]
    rfl

/-- A vector that drives no row skips each of its slices. -/
theorem runVector_skipped (h : ∀ e ∈ vecSlices v, activity (drive e v.groups (L.inRows seat.row)) = 0) :
    s.runVector p v L seat [true, true] =
      ((s.countSkips p v.ctx (L.groups seat.block).length v.wide (vecSlices v).length).noteIssues p 0,
        List.replicate (vecSlices v).length skippedSlice) := by
  have hfold := foldl_sliceStep_skipped (s := s) (p := p) (r := s.valAt p 0x4010 0x02)
    (ceiling := s.val 0x4002 (0x01 + tileHalf p)) (os := []) h
  unfold sliceStep at hfold
  unfold State.runVector
  dsimp only
  rw [vecSlices_all, hfold]
  simp [skippedSlice_products]

theorem runFlight_refused (h : vecRefused v = true) :
    s.runFlight p v L seat = (s, { vec := v, sums := [], bad := [], suspect := false }) := by
  unfold State.runFlight
  exact if_pos h

theorem runFlight_skipped (h : vecRefused v = false)
    (hdrive : ∀ e ∈ vecSlices v, activity (drive e v.groups (L.inRows seat.row)) = 0) :
    s.runFlight p v L seat =
      ((s.countSkips p v.ctx (L.groups seat.block).length v.wide (vecSlices v).length).noteIssues p 0,
        { vec := v, sums := [], bad := List.replicate (vecSlices v).length false, suspect := false }) := by
  unfold State.runFlight
  rw [if_neg (by simp [h]), runVector_skipped hdrive]
  simp [skippedSlice_products, skippedSlice_failed]

/-! ### What the run leaves of seats and of the surround -/

/-- What the seat of a tile in a context depends on. -/
def Ctx.seating (c : Ctx) : Nat × List Layer × List Nat := (c.n, c.layers, c.tiles)

theorem seat_of (hview : SameView Ctx.seating s t) (hflags : SameObject (cidx c.n) s t) (hfabric : SameFabric s t)
    (hd : d.seating = c.seating) : t.seat d (t.logicalOr p) = s.seat c (s.logicalOr p) := by
  obtain ⟨hn, hlayers, -⟩ : d.n = c.n ∧ d.layers = c.layers ∧ d.tiles = c.tiles := by simpa [Ctx.seating] using hd
  have hlogical : t.logicalOr p = s.logicalOr p := by
    unfold State.logicalOr
    rw [hfabric]
  have howner : t.tileOwner c.n = s.tileOwner c.n := by
    unfold State.tileOwner
    rw [hflags.flag, hflags.val]
  have htiles : t.tilesOf c.n = s.tilesOf c.n := by
    unfold State.tilesOf
    rw [howner]
    cases hs : s.ctx (s.tileOwner c.n) with
    | none =>
      have ht := hview (s.tileOwner c.n)
      rw [hs, Option.map_none, Option.map_eq_none_iff] at ht
      rw [ht]
    | some x =>
      obtain ⟨y, hy, hxy⟩ := hview.ctx hs
      rw [hy]
      exact congrArg (fun e => e.2.2) hxy
  unfold State.seat
  rw [hlogical, hn, hlayers, htiles]

theorem countSlice_seating : SameView Ctx.seating s (s.countSlice p n groups fine o) := by
  have hword {b : State} {i sub m : Nat} (h : SameCtxs s b) : SameCtxs s (b.add64At p i sub m) :=
    State.add64At_kept ((sameCtxs_keptA s).mem i) h
  unfold State.countSlice
  extract_lets s1 s2 s3 s4 s5 s6 s7 s8 s9 l on captured
  have h8 : SameCtxs s s8 := hword (hword (hword (hword (hword (hword (hword (hword rfl)))))))
  have hcaptured : SameCtxs s captured := State.captureCodes_kept (sameCtxs_kept s)
    (State.freeSkip_kept (sameCtxs_kept s) (State.addAt_kept ((sameCtxs_keptA s).mem _) h8))
  refine SameView.trans (SameView.of_ctxs hcaptured) (modCtx_view (fun _ => rfl) fun _ => ?_)
  unfold Ctx.seating
  rfl

/-- What is in the surround of a tile behind its input ring. -/
def Tile.surround (x : Tile) : List Flight × List PartialVec × List OutVec := (x.flight, x.partials, x.outRing)

/-- A vector leaves the input ring to issue. -/
def State.vecTaken (s : State) (p : Nat) (v : InVec) : State :=
  (((s.issueVec p v).modTile p (fun t =>
    { t with inRing := t.inRing.erase v, lastForward := some s.count })).countGap s p).add64At p 0x4001 0x0B
      (if v.wide then 1 else 0)

/-- A vector has run through the tile and waits to leave. -/
def State.vecRun (s : State) (p : Nat) (v : InVec) (L : Layer) (seat : Seat) : State :=
  ((s.vecTaken p v).runFlight p v L seat).1.modTile p (fun t =>
    { t with flight := t.flight ++ [((s.vecTaken p v).runFlight p v L seat).2] })

theorem countGap_keeps {P : State → Prop} {old : State} (kd : KeptD P [0x4014]) (h : P s) : P (s.countGap old p) := by
  unfold State.countGap
  split
  · exact State.add64At_kept (kd.mem (by decide)) h
  · exact h

theorem vecTaken_keeps {P : State → Prop} (kk : Kept P) (kt : KeptT P) (kd : KeptD P [0x4001, 0x4014])
    (h : P (s.issueVec p v)) : P (s.vecTaken p v) :=
  State.add64At_kept (kd.mem (by decide)) (countGap_keeps (kd.mono (by decide)) (State.modTile_kept kk kt h))

theorem vecTaken_ctxs : SameCtxs (s.issueVec p v) (s.vecTaken p v) :=
  vecTaken_keeps (sameCtxs_kept _) (sameCtxs_keptT _) (sameCtxs_keptA _).toD rfl

theorem vecTaken_tile : (s.vecTaken p v).tile p =
    { s.tile p with inRing := (s.tile p).inRing.erase v, lastForward := some s.count } := by
  have hissued : (s.issueVec p v).tile p = s.tile p := tile_of_tiles
    (State.issueVec_kept (P := SameTiles s) (sameTiles_kept s) (sameTiles_keptC s) rfl)
  have htaken : ((s.issueVec p v).modTile p (fun t =>
      { t with inRing := t.inRing.erase v, lastForward := some s.count })).tile p =
        { (s.issueVec p v).tile p with inRing := ((s.issueVec p v).tile p).inRing.erase v,
                                       lastForward := some s.count } := tile_modTile_self fun _ => rfl
  unfold State.vecTaken
  rw [tile_add64At, tile_of_tiles (countGap_keeps (P := SameTiles _) (sameTiles_keptA _).toD rfl), htaken, hissued]

theorem issueVec_seating : SameView Ctx.seating s (s.issueVec p v) := modCtx_view (fun _ => rfl) fun _ => rfl

theorem vecTaken_seating : SameView Ctx.seating s (s.vecTaken p v) := issueVec_seating.of_sameCtxs vecTaken_ctxs

theorem vecTaken_subs : OnlySubs 0x4001 [0x0B, 0x0C] s (s.vecTaken p v) :=
  onlySubs_add64At (SameObject.onlySubs (countGap_keeps (sameObject_keptD s (by decide)) fun _ _ =>
    State.regAt_modTile.trans State.regAt_modCtx)) (by decide) (by decide)

theorem vecTaken_wide : (s.vecTaken p v).val64At p 0x4001 0x0B =
    (s.val64At p 0x4001 0x0B + (if v.wide then 1 else 0)) % 2 ^ 64 := by
  have hgap : SameObject 0x4001 s (((s.issueVec p v).modTile p (fun t =>
      { t with inRing := t.inRing.erase v, lastForward := some s.count })).countGap s p) :=
    countGap_keeps (sameObject_keptD s (by decide)) fun _ _ => State.regAt_modTile.trans State.regAt_modCtx
  unfold State.vecTaken
  rw [val64At_add64At_self, SameObject.val64At hgap]

theorem vecRun_kept {P : State → Prop} (kk : Kept P) (kc : KeptC P) (kt : KeptT P)
    (kd : KeptD P [0x4001, 0x4010, 0x4014]) (h : P s) : P (s.vecRun p v L seat) :=
  State.modTile_kept kk kt (State.runFlight_kept kk kc kt (kd.mono (by decide))
    (vecTaken_keeps kk kt (kd.mono (by decide)) (State.issueVec_kept kk kc h)))

theorem vecRun_seating : SameView Ctx.seating s (s.vecRun p v L seat) := by
  have hrun : SameView Ctx.seating (s.vecTaken p v) ((s.vecTaken p v).runVector p v L seat [true, true]).1 :=
    runVector_keeps (P := SameView Ctx.seating (s.vecTaken p v)) (fun _ _ hb => hb.trans countSlice_seating)
      (fun _ _ hb => hb.of_sameCtxs State.modTile_ctxs) (SameView.refl _ _)
  exact vecTaken_seating.trans (SameView.of_sameCtxs (runFlight_keeps hrun (SameView.refl _ _)) State.modTile_ctxs)

/-- The seat of the tile is found again once the vector has run. -/
theorem vecRun_seat (hc : s.ctx v.ctx = some c) : ∃ d, (s.vecRun p v L seat).ctx v.ctx = some d ∧
    d.layers = c.layers ∧ (s.vecRun p v L seat).seat d ((s.vecRun p v L seat).logicalOr p) =
      s.seat c (s.logicalOr p) := by
  obtain ⟨d, hd, hsame⟩ := (vecRun_seating (p := p) (v := v) (L := L) (seat := seat)).ctx hc
  refine ⟨d, hd, congrArg (fun e => e.2.1) hsame, seat_of vecRun_seating ?_ ?_ hsame⟩
  · exact vecRun_kept (sameObject_kept _ s) (sameObject_keptC _ s) (sameObject_keptT _ s)
      (sameObject_keptD s (by unfold cidx; intro j hj; simp at hj; omega)) (SameObject.refl _ s)
  · exact vecRun_kept (sameFabric_kept s) (sameFabric_keptC s) (sameFabric_keptT s) (sameFabric_keptA s).toD rfl

theorem vecRun_intake : ((s.vecRun p v L seat).tile p).intake = ((s.tile p).inRing.erase v, some s.count) := by
  have hrun : SamePart Tile.intake p (s.vecTaken p v) (s.vecRun p v L seat) :=
    modTile_intake (runFlight_keeps runVector_intake (SamePart.refl _ _ _)) (fun _ => rfl) fun _ => rfl
  exact Eq.trans hrun (congrArg Tile.intake vecTaken_tile)

theorem vecRun_subs : OnlySubs 0x4001 passWords (s.vecTaken p v) (s.vecRun p v L seat) :=
  (runFlight_keeps (P := OnlySubs 0x4001 passWords (s.vecTaken p v)) runVector_subs (OnlySubs.refl _ _ _)).of_object
    fun _ _ => State.regAt_modTile

theorem vecRun_surround : ((s.vecRun p v L seat).tile p).surround =
    ((s.tile p).flight ++ [((s.vecTaken p v).runFlight p v L seat).2], (s.tile p).partials, (s.tile p).outRing) := by
  have hrun : SamePart Tile.surround p (s.vecTaken p v) ((s.vecTaken p v).runFlight p v L seat).1 :=
    runFlight_keeps (runVector_keeps (P := SamePart Tile.surround p (s.vecTaken p v))
      (fun _ _ hb => hb.trans (SamePart.of_tiles countSlice_tiles))
      (fun _ _ hb => hb.trans (modTile_part (fun _ => rfl) fun _ => rfl)) (SamePart.refl _ _ _)) (SamePart.refl _ _ _)
  have hbefore : (((s.vecTaken p v).runFlight p v L seat).1.tile p).surround = (s.tile p).surround :=
    Eq.trans hrun (by rw [vecTaken_tile]; rfl)
  obtain ⟨hflight, hrest⟩ := Prod.mk.inj hbefore
  obtain ⟨hpartials, hout⟩ := Prod.mk.inj hrest
  refine Eq.trans (congrArg Tile.surround (tile_modTile_self fun _ => rfl)) ?_
  unfold Tile.surround
  dsimp only
  rw [hflight, hpartials, hout]

/-! ### A partial leaves the surround (R206, R208, R214) -/

theorem leave_tile (hrow : seat.row ≠ 0) : (s.leave p f L seat).tile p = { s.tile p with
    outRing := (s.tile p).outRing ++ [resultVec f.vec.ctx seat f.vec.vec
      ((stage3 (s.tile p) f (L.outCols seat.block)).getD []) 2048 f.suspect true] } := by
  unfold State.leave
  dsimp only
  rw [if_neg hrow]
  exact tile_modTile_self fun _ => rfl

/-- The oldest vector in flight, without a failed check, leaves as a partial into room in the ring. -/
theorem release'_leaves {rest : List Flight} (hflight : (s.tile p).flight = f :: rest) (hbad : f.bad.any id = false)
    (hc : s.ctx f.vec.ctx = some c) (hseat : s.seat c (s.logicalOr p) = some seat)
    (hL : c.layers[f.vec.layer]? = some L) (hroom : (s.tile p).outRoom 2048 = true) :
    s.release' p (k + 1) = ((s.modTile p (fun x => { x with flight := rest })).leave p f L seat).release' p k := by
  rw [State.release', hflight]
  dsimp only
  rw [if_neg (by simp [hbad]), hc]
  dsimp only
  rw [hseat, hL]
  dsimp only
  rw [if_neg (by simp [hroom])]

theorem release'_idle (h : (s.tile p).flight = []) : s.release' p k = s := by
  cases k with
  | zero => rfl
  | succ k => rw [State.release', h]

theorem tryFinish_idle (h : (s.tile p).partials = []) : s.tryFinish p k = s := by
  cases k with
  | zero => rfl
  | succ k =>
    rw [State.tryFinish]
    dsimp only
    rw [h, List.find?_nil]

/-- The only vector in flight leaves, and nothing else moves in the surround. -/
theorem settleRings_leaves (hsurround : (s.tile p).surround = ([f], [], outs)) (hbad : f.bad.any id = false)
    (hc : s.ctx f.vec.ctx = some c) (hseat : s.seat c (s.logicalOr p) = some seat)
    (hL : c.layers[f.vec.layer]? = some L) (hrow : seat.row ≠ 0) (hroom : (s.tile p).outRoom 2048 = true)
    (hz : ∀ x, (stage3 x f (L.outCols seat.block)).getD [] = values) :
    ((s.settleRings p).tile p).outRing =
      outs ++ [resultVec f.vec.ctx seat f.vec.vec values 2048 f.suspect true] ∧ SameCtxs s (s.settleRings p) := by
  obtain ⟨hflight, hrest⟩ := Prod.mk.inj hsurround
  obtain ⟨hpartials, hout⟩ := Prod.mk.inj hrest
  have htile : ((s.modTile p (fun x => { x with flight := [] })).leave p f L seat).tile p = { s.tile p with
      flight := [], outRing := outs ++ [resultVec f.vec.ctx seat f.vec.vec values 2048 f.suspect true] } := by
    have hgone : (s.modTile p (fun x => { x with flight := [] })).tile p = { s.tile p with flight := [] } :=
      tile_modTile_self fun _ => rfl
    rw [leave_tile hrow, hz, hgone, hout]
  have hsettled : s.settleRings p =
      ((s.modTile p (fun x => { x with flight := [] })).leave p f L seat).ringLevels p := by
    unfold State.settleRings
    rw [release'_leaves hflight hbad hc hseat hL hroom, release'_idle (by rw [htile]),
      tryFinish_idle (by rw [htile]; exact hpartials)]
  rw [hsettled, ringLevels_tile, htile]
  exact ⟨rfl, State.ringLevels_kept (sameCtxs_keptA s).toD (State.leave_kept (sameCtxs_kept s) (sameCtxs_keptT s)
    State.modTile_ctxs)⟩

theorem stage3_refused {x : Tile} {cols : Nat} (h : vecRefused f.vec = true) :
    stage3 x f cols = some (List.replicate cols f32NaN) := by
  unfold stage3
  exact if_pos h

theorem stage3_skipped {x : Tile} {cols : Nat} (h : vecRefused f.vec = false) (hsums : f.sums = []) :
    stage3 x f cols = none := by
  unfold stage3
  rw [if_neg (by simp [h]), hsums]
  rfl

/-- Nothing that moves in the surround is a product. -/
theorem settleRings_counts : SameObject 0x4001 s (s.settleRings p) :=
  State.settleRings_kept (sameObject_kept _ s) (sameObject_keptC _ s) (sameObject_keptT _ s)
    (sameObject_keptD s (by decide)) (SameObject.refl _ s)

/-- A vector that has run, with no failed check and no other before it in the surround, leaves at once. -/
theorem vecRun_leaves (hflight : (s.tile p).flight = []) (hpartials : (s.tile p).partials = []) (hrow : seat.row ≠ 0)
    (hc : s.ctx v.ctx = some c) (hseat : s.seat c (s.logicalOr p) = some seat) (hL : c.layers[v.layer]? = some L)
    (hroom : (s.tile p).outRoom (L.seatBytes seat) = true)
    (hf : ((s.vecTaken p v).runFlight p v L seat).2 = f) (hvec : f.vec = v) (hsuspect : f.suspect = false)
    (hbad : f.bad.any id = false) (hz : ∀ x, (stage3 x f (L.outCols seat.block)).getD [] = values) :
    (((s.vecRun p v L seat).settleRings p).tile p).outRing =
        (s.tile p).outRing ++ [resultVec v.ctx seat v.vec values 2048 false true] ∧
      SameCtxs (s.vecRun p v L seat) ((s.vecRun p v L seat).settleRings p) := by
  subst hvec
  obtain ⟨d, hd, hlayers, hfound⟩ := vecRun_seat (p := p) (L := L) (seat := seat) hc
  have hsurround : ((s.vecRun p f.vec L seat).tile p).surround = ([f], [], (s.tile p).outRing) := by
    rw [vecRun_surround, hf, hflight, hpartials]
    rfl
  have hbytes : L.seatBytes seat = 2048 := if_neg hrow
  have hring : ((s.vecRun p f.vec L seat).tile p).outRing = (s.tile p).outRing :=
    congrArg (fun e => e.2.2) hsurround
  have hspace : ((s.vecRun p f.vec L seat).tile p).outRoom 2048 = true := by
    rw [← hroom, hbytes]
    unfold Tile.outRoom Tile.outBytes
    rw [hring]
  have hleaves := settleRings_leaves hsurround hbad hd (hfound.trans hseat) (hlayers ▸ hL) hrow hspace hz
  rwa [hsuspect] at hleaves

/-! ### The command -/

theorem exec_forwardProduct (hp : s.key.powered = true) (hruns : s.runs (halfOf (tileHalf p)) = true)
    (hv : s.nextReady p = some v) (hmay : s.mayIssue p = true) (hcadence : s.inCadence p v.ctx = true)
    (hc : s.ctx v.ctx = some c) (hseat : s.seat c (s.logicalOr p) = some seat) (hL : c.layers[v.layer]? = some L) :
    exec (.forwardProduct p) s = .next (if (s.tile p).outRoom (L.seatBytes seat) then
      (s.vecRun p v L seat).settleRings p else s.bumpAt p 0x4014 0x05) := by
  change execForwardProduct p s = _
  unfold execForwardProduct
  rw [onPower_on hp, hv]
  dsimp only
  rw [if_neg (by simp [hruns, hmay, hcadence]), hc]
  dsimp only
  rw [hseat, hL]
  dsimp only
  cases (s.tile p).outRoom (L.seatBytes seat) with
  | true =>
    rw [if_neg (by decide), if_pos rfl]
    rfl
  | false => rw [if_pos (by decide), if_neg Bool.false_ne_true]

theorem forwardProduct_waits (hp : s.key.powered = true) (h : s.nextReady p = none ∨ s.mayIssue p = false) :
    Reaches (.forwardProduct p) s (fun t => t = s) := by
  refine ⟨s, ?_, rfl⟩
  change execForwardProduct p s = _
  unfold execForwardProduct
  rw [onPower_on hp]
  dsimp only
  cases hv : s.nextReady p with
  | none => rfl
  | some v =>
    have hmay : s.mayIssue p = false := h.resolve_left (by simp [hv])
    dsimp only
    rw [if_pos (by simp [hmay])]

section Issue

variable (hp : s.key.powered = true) (hruns : s.runs (halfOf (tileHalf p)) = true) (hv : s.nextReady p = some v)
  (hmay : s.mayIssue p = true) (hcadence : s.inCadence p v.ctx = true) (hc : s.ctx v.ctx = some c)
  (hseat : s.seat c (s.logicalOr p) = some seat) (hL : c.layers[v.layer]? = some L)

include hp hruns hv hmay hcadence hc hseat hL

/-- Without room in the output ring the vector is withheld, and that is counted. -/
theorem forwardProduct_withheld (hroom : (s.tile p).outRoom (L.seatBytes seat) = false) :
    Reaches (.forwardProduct p) s (fun t => t.regAt p 0x4014 0x05 = s.regAt p 0x4014 0x05 + 1 ∧
      OnlySubs 0x4014 [0x05] s t ∧ OnlyIn [0x4014] s t ∧ SameTiles s t ∧ SameHbm s t ∧ SameCtxs s t) := by
  have hexec : exec (.forwardProduct p) s = .next (s.bumpAt p 0x4014 0x05) := by
    rw [exec_forwardProduct hp hruns hv hmay hcadence hc hseat hL, hroom, if_neg Bool.false_ne_true]
  refine ⟨_, hexec, ?_, onlySubs_putAt (OnlySubs.refl _ _ s) (by decide), onlyIn_of_keptD (by decide) fun i kd =>
    State.bumpAt_kept (kd.mem (by decide)) (SameObject.refl i s), State.bumpAt_tiles,
    ⟨State.bumpAt_hbm0, State.bumpAt_hbm1⟩, State.bumpAt_ctxs⟩
  rw [State.regAt_bumpAt, if_pos rfl]

variable (hroom : (s.tile p).outRoom (L.seatBytes seat) = true)

include hroom

theorem exec_forwardProduct_issues :
    exec (.forwardProduct p) s = .next ((s.vecRun p v L seat).settleRings p) := by
  rw [exec_forwardProduct hp hruns hv hmay hcadence hc hseat hL, hroom, if_pos rfl]

theorem forwardProduct_issues :
    Reaches (.forwardProduct p) s (fun t => (t.tile p).inRing = (s.tile p).inRing.erase v ∧
      (t.tile p).lastForward = some s.count ∧
      t.val64At p 0x4001 0x0B = (s.val64At p 0x4001 0x0B + (if v.wide then 1 else 0)) % 2 ^ 64 ∧
      OnlyIn [0x3020, 0x3021, 0x4001, 0x4010, 0x4014] s t ∧ SameHbm s t ∧ SameSec s t) := by
  have hexec := exec_forwardProduct_issues hp hruns hv hmay hcadence hc hseat hL hroom
  have hintake : (((s.vecRun p v L seat).settleRings p).tile p).intake = ((s.tile p).inRing.erase v, some s.count) :=
    Eq.trans (settleRings_intake (SamePart.refl _ _ _)) vecRun_intake
  obtain ⟨hring, hlast⟩ := Prod.mk.inj hintake
  refine ⟨_, hexec, hring, hlast, ?_, onlyIn_of_keptD (by decide) fun i kd => execForwardProduct_kept
    (sameObject_kept i s) (sameObject_keptC i s) (sameObject_keptT i s) kd (SameObject.refl i s) _ hexec,
    execForwardProduct_kept (sameHbm_kept s) (sameHbm_keptC s) (sameHbm_keptT s) (sameHbm_keptA s).toD ⟨rfl, rfl⟩ _
      hexec,
    execForwardProduct_kept (sameSec_kept s) (sameSec_keptC s) (sameSec_keptT s) (sameSec_keptA s).toD rfl _ hexec⟩
  rw [SameObject.val64At settleRings_counts, OnlySubs.val64At vecRun_subs (by decide) (by decide), vecTaken_wide]

section Marker

variable (hflight : (s.tile p).flight = []) (hpartials : (s.tile p).partials = []) (hrow : seat.row ≠ 0)

include hflight hpartials hrow

/-- A vector with a refused group leaves as NaN in every column in use (R257). -/
theorem forwardProduct_refused (hrefused : vecRefused v = true) :
    Reaches (.forwardProduct p) s (fun t => t.ctxs = (s.issueVec p v).ctxs ∧ (t.tile p).outRing = (s.tile p).outRing ++
      [resultVec v.ctx seat v.vec (List.replicate (L.outCols seat.block) f32NaN) 2048 false true]) := by
  obtain ⟨hout, hctxs⟩ := vecRun_leaves hflight hpartials hrow hc hseat hL hroom
    (congrArg Prod.snd (runFlight_refused hrefused)) rfl rfl rfl
    fun x => congrArg (Option.getD · []) (stage3_refused hrefused)
  refine ⟨_, exec_forwardProduct_issues hp hruns hv hmay hcadence hc hseat hL hroom, ?_, hout⟩
  calc ((s.vecRun p v L seat).settleRings p).ctxs
    _ = (s.vecRun p v L seat).ctxs := hctxs
    _ = (s.vecTaken p v).ctxs := by rw [State.vecRun, State.modTile_ctxs, runFlight_refused hrefused]
    _ = (s.issueVec p v).ctxs := vecTaken_ctxs

/-- A vector that drives no row leaves as a zero marker, counted as skipped and not as a product (R183, R203). -/
theorem forwardProduct_skipped (hrefused : vecRefused v = false)
    (hdrive : ∀ e ∈ vecSlices v, activity (drive e v.groups (L.inRows seat.row)) = 0) :
    Reaches (.forwardProduct p) s (fun t => (t.tile p).outRing = (s.tile p).outRing ++
        [resultVec v.ctx seat v.vec [] 2048 false true] ∧
      t.val64At p 0x4001 0x03 = s.val64At p 0x4001 0x03 ∧
      t.val64At p 0x4001 0x05 = (s.val64At p 0x4001 0x05 + (vecSlices v).length) % 2 ^ 64) := by
  obtain ⟨hout, -⟩ := vecRun_leaves hflight hpartials hrow hc hseat hL hroom
    (congrArg Prod.snd (runFlight_skipped hrefused hdrive)) rfl rfl (by simp)
    fun x => congrArg (Option.getD · []) (stage3_skipped hrefused rfl)
  have hcounts : SameObject 0x4001 ((s.vecTaken p v).countSkips p v.ctx (L.groups seat.block).length v.wide
      (vecSlices v).length) ((s.vecRun p v L seat).settleRings p) := by
    refine SameObject.trans (fun _ _ => ?_) settleRings_counts
    rw [State.vecRun, State.regAt_modTile, runFlight_skipped hrefused hdrive]
    exact State.regAt_modTile
  refine ⟨_, exec_forwardProduct_issues hp hruns hv hmay hcadence hc hseat hL hroom, hout, ?_, ?_⟩
  · rw [SameObject.val64At hcounts, countSkips_products, OnlySubs.val64At vecTaken_subs (by decide) (by decide)]
  · rw [SameObject.val64At hcounts, countSkips_skips, OnlySubs.val64At vecTaken_subs (by decide) (by decide)]

end Marker

end Issue

/-- Settles O35: a vector that arrives with and without room, and none; a tile with nothing to issue, a vector that is
withheld, one that issues, and the two that leave without a product. -/
theorem vectorsEnterAndRun : Obligations.VectorsEnterAndRun := by
  unfold Obligations.VectorsEnterAndRun
  refine fun s p hp hruns => ⟨fun n k v => inputVectorArrive_enters hp hruns,
    fun n k v => inputVectorArrive_waits hp hruns, fun n k => inputVectorArrive_none hp, forwardProduct_waits hp,
    fun v c seat L hv hmay hcadence hc hseat hL => ⟨forwardProduct_withheld hp hruns hv hmay hcadence hc hseat hL,
      forwardProduct_issues hp hruns hv hmay hcadence hc hseat hL, fun hroom hflight hpartials hrow =>
        ⟨forwardProduct_refused hp hruns hv hmay hcadence hc hseat hL hroom hflight hpartials hrow,
          forwardProduct_skipped hp hruns hv hmay hcadence hc hseat hL hroom hflight hpartials hrow⟩⟩⟩

end Sys2Proof.Machine
end

section
/-! PROOF. O36: what the vectors and partials that move in a tile's surround keep (R206 to R212, R214). -/

namespace Sys2Proof.Machine

open Sys2Proof Sys2Proof.Safety

variable {s t : State} {p n k vec : Nat} {c : Ctx} {L : Layer} {seat : Seat} {f : Flight} {out : OutVec}
  {P : State → Prop}

/-! ### Moves -/

/-- A move in the surround of a tile: a result may join its output ring, and none leaves it. -/
structure RingMove (g : Tile → Tile) : Prop where
  addr : ∀ x, (g x).addr = x.addr
  ring : ∀ x, x.outRing <+: (g x).outRing

/-- A move that a finisher makes: no partial joins those it keeps. -/
structure FinishMove (g : Tile → Tile) : Prop extends RingMove g where
  partials : ∀ x, (g x).partials ⊆ x.partials

/-- A property that a finisher keeps, whatever it finishes. -/
structure FinishKept (p : Nat) (P : State → Prop) : Prop where
  tile : ∀ {b : State} {g : Tile → Tile}, FinishMove g → P b → P (b.modTile p g)
  ctx : ∀ {b : State} {n : Nat} {g : Ctx → Ctx}, (∀ d, (g d).n = d.n) →
    (∀ d, d.stepFailed = true → (g d).stepFailed = true) → P b → P (b.modCtx n g)
  conv : ∀ {b : State} {c : Ctx} {L : Layer} {x : Tensor} {terms : Nat} {arrayIn : Bool} {l : List Nat},
    b.ctx c.n = some c → P b → P (b.convBlocks c L x terms arrayIn l).1

/-- A property that all of the surround keeps. -/
structure SettleKept (p : Nat) (P : State → Prop) : Prop extends FinishKept p P where
  move : ∀ {b : State} {g : Tile → Tile}, RingMove g → P b → P (b.modTile p g)
  levels : ∀ {b : State}, P b → P (b.ringLevels p)

theorem finishMove_ring {g : Tile → List OutVec} :
    FinishMove (fun x => { x with outRing := x.outRing ++ g x }) :=
  ⟨⟨fun _ => rfl, fun _ => List.prefix_append _ _⟩, fun _ => List.Subset.refl _⟩

theorem finishMove_pool {l : List OutVec} : FinishMove (fun x => { x with pool := l }) :=
  ⟨⟨fun _ => rfl, fun _ => List.prefix_rfl⟩, fun _ => List.Subset.refl _⟩

theorem finishMove_filter {q : PartialVec → Bool} :
    FinishMove (fun x => { x with partials := x.partials.filter q }) :=
  ⟨⟨fun _ => rfl, fun _ => List.prefix_rfl⟩, fun _ => List.filter_sublist.subset⟩

theorem FinishKept.failCheck (w : FinishKept p P) {unit : Nat} (h : P s) : P (s.failCheck n unit) :=
  w.ctx (fun _ => rfl) (fun _ _ => rfl) h

theorem FinishKept.stage7 (w : FinishKept p P) (hc : s.ctx c.n = some c) (h : P s) : P (s.stage7 p c L out) := by
  unfold State.stage7
  split
  · exact w.tile finishMove_ring h
  · dsimp only
    split
    · exact w.failCheck (w.tile finishMove_ring (w.conv hc h))
    · exact w.tile finishMove_ring (w.conv hc h)

theorem FinishKept.finish (w : FinishKept p P) {z : List Word} {suspect : Bool} (hc : s.ctx n = some c) (h : P s) :
    P (s.finish p n vec c L seat z suspect) := by
  unfold State.finish
  extract_lets x pre act c0 b d one pool vals res
  have hb : P b := w.ctx (fun _ => by split <;> rfl) (fun _ hfailed => by split <;> exact hfailed) h
  have hd : b.ctx d.n = some d := by
    obtain ⟨e, he⟩ : ∃ e, b.ctx n = some e := ⟨_, ctx_modCtx_self (fun _ => by split <;> rfl) hc⟩
    have hde : d = e := congrArg (Option.getD · c) he
    rw [hde, ctx_num he, he]
  split
  · exact w.tile finishMove_pool hb
  · exact w.stage7 ((ctx_of_ctxs State.modTile_ctxs).trans hd) (w.tile finishMove_pool hb)

theorem FinishKept.tryFinish (w : FinishKept p P) (h : P s) : P (s.tryFinish p k) := by
  induction k generalizing s with
  | zero => exact h
  | succ k ih =>
    unfold State.tryFinish
    dsimp only
    split
    · exact h
    · split
      · exact h
      · next own _ c hc =>
        split
        · exact h
        · split
          · exact h
          · split
            · exact ih (w.finish ((ctx_of_ctxs State.modTile_ctxs).trans hc) (w.tile finishMove_filter h))
            · exact h

theorem SettleKept.leave (w : SettleKept p P) (h : P s) : P (s.leave p f L seat) := by
  unfold State.leave
  dsimp only
  split
  · exact w.move ⟨fun _ => rfl, fun _ => List.prefix_rfl⟩ h
  · exact w.tile finishMove_ring h

theorem SettleKept.release' (w : SettleKept p P) (h : P s) : P (s.release' p k) := by
  induction k generalizing s with
  | zero => exact h
  | succ k ih =>
    have hgone {rest : List Flight} : P (s.modTile p (fun x => { x with flight := rest })) :=
      w.move ⟨fun _ => rfl, fun _ => List.prefix_rfl⟩ h
    unfold State.release'
    split
    · dsimp only
      split
      · exact h
      · split
        · exact ih hgone
        · split
          · split
            · exact h
            · exact ih (w.leave hgone)
          · exact ih hgone
    · exact h

theorem SettleKept.settleRings (w : SettleKept p P) (h : P s) : P (s.settleRings p) :=
  w.levels (w.tryFinish (w.release' h))

/-! ### What is kept -/

/-- Nothing leaves the tile: neither over the mortar nor to the host. -/
def SameWires (s t : State) : Prop := t.mortar = s.mortar ∧ t.out = s.out

theorem settleKept_wires : SettleKept p (SameWires s) where
  tile _ h := ⟨State.modTile_mortar.trans h.1, State.modTile_out.trans h.2⟩
  ctx _ _ h := ⟨State.modCtx_mortar.trans h.1, State.modCtx_out.trans h.2⟩
  conv _ h := by
    unfold State.convBlocks State.countConv
    exact ⟨by simpa using h.1, by simpa using h.2⟩
  move _ h := ⟨State.modTile_mortar.trans h.1, State.modTile_out.trans h.2⟩
  levels h := by
    unfold State.ringLevels
    exact ⟨by simpa using h.1, by simpa using h.2⟩

theorem convBlocks_tile {x : Tensor} {terms q : Nat} {arrayIn : Bool} {l : List Nat} :
    (s.convBlocks c L x terms arrayIn l).1.tile q = s.tile q :=
  tile_of_tiles (State.convBlocks_kept (P := SameTiles s) (sameTiles_kept s) (sameTiles_keptC s)
    (sameTiles_keptA s).toD rfl)

/-- The results that wait in the output ring stay first in it. -/
theorem settleKept_ring {l : List OutVec} : SettleKept p (fun b => l <+: (b.tile p).outRing) where
  tile hg h := by
    rw [tile_modTile_self hg.addr]
    exact h.trans (hg.ring _)
  ctx _ _ h := by rwa [tile_of_tiles State.modCtx_tiles]
  conv _ h := by rwa [convBlocks_tile]
  move hg h := by
    rw [tile_modTile_self hg.addr]
    exact h.trans (hg.ring _)
  levels h := by rwa [ringLevels_tile]

/-- A finisher that keeps no partial of a kind gets none by finishing. -/
theorem finishKept_partials {q : PartialVec → Bool} :
    FinishKept p (fun b => (b.tile p).partials.filter q = []) where
  tile hg h := by
    rw [tile_modTile_self hg.addr]
    rw [List.filter_eq_nil_iff] at h ⊢
    exact fun y hy => h y (hg.partials _ hy)
  ctx _ _ h := by rwa [tile_of_tiles State.modCtx_tiles]
  conv _ h := by rwa [convBlocks_tile]

/-- A check of the context's step has failed. -/
def State.failedStep (s : State) (n : Nat) : Prop := ∃ d, s.ctx n = some d ∧ d.stepFailed = true

theorem failedStep_of_ctxs (hc : SameCtxs s t) (h : s.failedStep n) : t.failedStep n := by
  unfold State.failedStep
  rwa [ctx_of_ctxs hc]

theorem countConv_ctxs {h : HalfId} {old new : Tensor} {l : List Nat} {drawn : Nat} :
    SameCtxs s (s.countConv h old new l drawn) := by
  unfold State.countConv SameCtxs
  simp

/-- A step that has failed a check stays so. -/
theorem settleKept_failed : SettleKept p (fun b => b.failedStep n) where
  tile _ h := failedStep_of_ctxs State.modTile_ctxs h
  ctx {b m g} hn hfailed h := by
    obtain ⟨d, hd, hstep⟩ := h
    by_cases hm : n = m
    · subst hm
      exact ⟨_, ctx_modCtx_self hn hd, hfailed d hstep⟩
    · exact ⟨d, (ctx_modCtx_ne hn hm).trans hd, hstep⟩
  conv {b c _ _ _ _ _} hc h := by
    obtain ⟨d, hd, hstep⟩ := h
    unfold State.failedStep State.convBlocks
    dsimp only
    rw [ctx_setCtx]
    split
    · next hm =>
      obtain rfl : c = d := by
        rw [show n = c.n from hm, hc] at hd
        exact Option.some.inj hd
      exact ⟨_, rfl, hstep⟩
    · exact ⟨d, (ctx_of_ctxs countConv_ctxs).trans hd, hstep⟩
  move _ h := failedStep_of_ctxs State.modTile_ctxs h
  levels h := failedStep_of_ctxs (State.ringLevels_kept (sameCtxs_keptA _).toD rfl) h

end Sys2Proof.Machine
end

section
/-! PROOF. O36: CHECKSUM_REPEAT (R204, R205). -/

namespace Sys2Proof.Machine

open Sys2Proof Sys2Proof.Safety

variable {s t : State} {p n groups : Nat} {fine : Bool} {o : SliceRun} {v : InVec} {c d : Ctx} {L : Layer}
  {seat : Seat} {f : Flight} {which : List Bool} {runs : List SliceRun}

/-! ### What the repeat counts of its slices -/

/-- Words that a slice counts in its tile's two objects: neither the transients nor the faults are among them. -/
def sliceWords : List Nat := passWords ++ [0x24, 0x25, 0x26, 0x27, 0x28, 0x29, 0x2A, 0x2B, 0x2E]

theorem countSlice_words : OnlySubs 0x4010 sliceWords s (s.countSlice p n groups fine o) := by
  have hadd {b : State} {i sub m : Nat} (h : OnlySubs 0x4010 sliceWords s b)
      (hsub : (sub < 256 ∧ sub ∈ sliceWords) ∧ sub + 1 < 256 ∧ sub + 1 ∈ sliceWords) :
      OnlySubs 0x4010 sliceWords s (b.add64At p i sub m) := onlySubs_add64At h hsub.1 hsub.2
  have hlast {b : State} {m : Nat} {g : Ctx → Ctx} {l : List Codes} (h : OnlySubs 0x4010 sliceWords s b) :
      OnlySubs 0x4010 sliceWords s (((b.freeSkip m).captureCodes p l).modCtx n g) :=
    h.of_object (State.modCtx_kept (sameObject_kept _ b) (sameObject_keptC _ b)
      (State.captureCodes_kept (sameObject_kept _ b) (State.freeSkip_kept (sameObject_kept _ b) fun _ _ => rfl)))
  unfold State.countSlice
  refine hlast (onlySubs_putAt (hadd (hadd (hadd (hadd (hadd (hadd (hadd (hadd (OnlySubs.refl _ _ s) ?_) ?_) ?_) ?_)
    ?_) ?_) ?_) ?_) ?_) <;> decide

theorem runVector_words : OnlySubs 0x4010 sliceWords s (s.runVector p v L seat which).1 :=
  runVector_keeps (P := OnlySubs 0x4010 sliceWords s) (fun _ _ hb => hb.trans countSlice_words)
    (fun _ _ hb => hb.of_object fun _ _ => State.regAt_modTile) (OnlySubs.refl _ _ s)

theorem runVector_seating : SameView Ctx.seating s (s.runVector p v L seat which).1 :=
  runVector_keeps (P := SameView Ctx.seating s) (fun _ _ hb => hb.trans countSlice_seating)
    (fun _ _ hb => hb.of_sameCtxs State.modTile_ctxs) (SameView.refl _ _)

/-! ### The outcomes -/

/-- The vector in flight after its repeat. -/
def Flight.repeated (f : Flight) (runs : List SliceRun) : Flight :=
  { f with sums := mergeRepeat f.sums f.bad runs, bad := f.bad.map (fun _ => false),
           suspect := runs.any (fun o => !o.failed.isEmpty) }

/-- The slices that failed have run again, and what they gave stands in the vector. -/
def State.vecRepeated (s : State) (p : Nat) (f : Flight) (L : Layer) (seat : Seat) : State :=
  let q := s.runVector p f.vec L seat f.bad
  q.1.modTile p (fun t => { t with flight := t.flight.map (fun x => if x.vec == f.vec then f.repeated q.2 else x) })

/-- A repeat that passes is a transient. -/
def State.repeatPassed (s : State) (p n : Nat) : State :=
  ((s.bumpAt p 0x4010 0x2C).riskEvent (halfOf (tileHalf p)) 1).modCtx n
    (fun c => { c with ledgerCounts := addAtIdx c.ledgerCounts 2 1 })

/-- A repeat that fails again is a fault, and marks the step. -/
def State.repeatFailed (s : State) (p n : Nat) (runs : List SliceRun) : State :=
  let b := s.bumpAt p 0x4010 0x2D
  (b.log { cls := clsWarning, unit := unitTile p, ctx := n, step := b.stepOf n, obj := counter 0x4010 0x2D,
           detail := natBytes 1 ((runs.flatMap (·.failed)).headD 0) }).failCheck n (unitTile p)

theorem vecRepeated_words : OnlySubs 0x4010 sliceWords s (s.vecRepeated p f L seat) :=
  runVector_words.of_object fun _ _ => State.regAt_modTile

theorem vecRepeated_ctx (hc : s.ctx n = some c) : ∃ d, (s.vecRepeated p f L seat).ctx n = some d := by
  obtain ⟨d, hd, -⟩ := SameView.ctx (SameView.of_sameCtxs (runVector_seating (p := p) (v := f.vec) (L := L)
    (seat := seat) (which := f.bad)) State.modTile_ctxs) hc
  exact ⟨d, hd⟩

theorem repeatPassed_object : SameObject 0x4010 (s.bumpAt p 0x4010 0x2C) (s.repeatPassed p n) :=
  State.modCtx_kept (sameObject_kept _ _) (sameObject_keptC _ _)
    (State.riskEvent_kept (sameObject_keptD _ (by decide)) (SameObject.refl _ _))

theorem repeatFailed_object : SameObject 0x4010 (s.bumpAt p 0x4010 0x2D) (s.repeatFailed p n runs) :=
  State.failCheck_kept (sameObject_kept _ _) (sameObject_keptC _ _)
    (State.log_kept (sameObject_kept _ _) (sameObject_keptD _ (by decide)) (SameObject.refl _ _))

theorem repeatFailed_marks (hc : s.ctx n = some c) : (s.repeatFailed p n runs).failedStep n := by
  have hlogged {e : Event} : SameCtxs s ((s.bumpAt p 0x4010 0x2D).log e) :=
    State.log_kept (sameCtxs_kept s) (sameCtxs_keptA s).toD (State.bumpAt_kept ((sameCtxs_keptA s).mem _) rfl)
  exact ⟨_, ctx_modCtx_self (fun _ => rfl) ((ctx_of_ctxs hlogged).trans hc), rfl⟩

/-- What moves in the surround after a repeat counts nothing of its own in the object of the checks. -/
theorem settleRings_checks : SameObject 0x4010 s (s.settleRings p) :=
  State.settleRings_kept (sameObject_kept _ s) (sameObject_keptC _ s) (sameObject_keptT _ s)
    (sameObject_keptD s (by decide)) (SameObject.refl _ s)

/-! ### The command -/

theorem checksumRepeat_hbm (hexec : exec (.checksumRepeat p) s = .next t) : SameHbm s t :=
  execChecksumRepeat_kept (sameHbm_kept s) (sameHbm_keptC s) (sameHbm_keptT s) (sameHbm_keptA s).toD ⟨rfl, rfl⟩ _ hexec

section Repeat

variable (hp : s.key.powered = true) (hf : (s.tile p).flight.find? (fun f => f.bad.any id) = some f)
  (hcadence : s.inCadence p f.vec.ctx = true) (hc : s.ctx f.vec.ctx = some c)
  (hseat : s.seat c (s.logicalOr p) = some seat) (hL : c.layers[f.vec.layer]? = some L)

include hp hf hcadence hc hseat hL

theorem exec_checksumRepeat : exec (.checksumRepeat p) s =
    .next ((if (s.runVector p f.vec L seat f.bad).2.any (fun o => !o.failed.isEmpty) then
        (s.vecRepeated p f L seat).repeatFailed p c.n (s.runVector p f.vec L seat f.bad).2
      else (s.vecRepeated p f L seat).repeatPassed p c.n).settleRings p) := by
  change execChecksumRepeat p s = _
  unfold execChecksumRepeat
  rw [onPower_on hp, hf]
  dsimp only
  rw [if_neg (by simp [hcadence]), hc]
  dsimp only
  rw [hseat, hL]
  rfl

/-- A vector that passes its repeat is counted as a transient (R205). -/
theorem checksumRepeat_passes
    (hagain : (s.runVector p f.vec L seat f.bad).2.any (fun o => !o.failed.isEmpty) = false) :
    Reaches (.checksumRepeat p) s (fun t => t.regAt p 0x4010 0x2C = s.regAt p 0x4010 0x2C + 1 ∧
      t.regAt p 0x4010 0x2D = s.regAt p 0x4010 0x2D ∧ SameHbm s t) := by
  have hexec := exec_checksumRepeat hp hf hcadence hc hseat hL
  rw [hagain, if_neg Bool.false_ne_true] at hexec
  have hcounts : SameObject 0x4010 ((s.vecRepeated p f L seat).bumpAt p 0x4010 0x2C)
      (((s.vecRepeated p f L seat).repeatPassed p c.n).settleRings p) :=
    repeatPassed_object.trans settleRings_checks
  refine ⟨_, hexec, ?_, ?_, checksumRepeat_hbm hexec⟩
  · rw [hcounts, State.regAt_bumpAt, if_pos rfl, vecRepeated_words _ _ (by decide) (by decide)]
  · rw [hcounts, State.regAt_bumpAt, if_neg (by simp), vecRepeated_words _ _ (by decide) (by decide)]

/-- A vector that fails its repeat is counted as a fault, and its step has failed a check (R205). -/
theorem checksumRepeat_fails
    (hagain : (s.runVector p f.vec L seat f.bad).2.any (fun o => !o.failed.isEmpty) = true) :
    Reaches (.checksumRepeat p) s (fun t => t.regAt p 0x4010 0x2D = s.regAt p 0x4010 0x2D + 1 ∧
      t.regAt p 0x4010 0x2C = s.regAt p 0x4010 0x2C ∧
      (∃ d, t.ctx f.vec.ctx = some d ∧ d.stepFailed = true) ∧ SameHbm s t) := by
  have hexec := exec_checksumRepeat hp hf hcadence hc hseat hL
  rw [hagain, if_pos rfl] at hexec
  have hcounts : SameObject 0x4010 ((s.vecRepeated p f L seat).bumpAt p 0x4010 0x2D)
      (((s.vecRepeated p f L seat).repeatFailed p c.n (s.runVector p f.vec L seat f.bad).2).settleRings p) :=
    repeatFailed_object.trans settleRings_checks
  obtain ⟨d, hd⟩ := vecRepeated_ctx (p := p) (f := f) (L := L) (seat := seat) hc
  rw [← ctx_num hc] at hd
  have hfailed := settleKept_failed.settleRings (p := p)
    (repeatFailed_marks (p := p) (runs := (s.runVector p f.vec L seat f.bad).2) hd)
  rw [ctx_num hc] at hfailed hexec hcounts
  refine ⟨_, hexec, ?_, ?_, hfailed, checksumRepeat_hbm hexec⟩
  · rw [hcounts, State.regAt_bumpAt, if_pos rfl, vecRepeated_words _ _ (by decide) (by decide)]
  · rw [hcounts, State.regAt_bumpAt, if_neg (by simp), vecRepeated_words _ _ (by decide) (by decide)]

end Repeat

end Sys2Proof.Machine
end

section
/-! PROOF. O36: PARTIAL_ARRIVE and OUTPUT_DRAIN (R208, R214). -/

namespace Sys2Proof.Machine

open Sys2Proof Sys2Proof.Safety

variable {s t : State} {p n k vec row : Nat} {c : Ctx} {L : Layer} {seat : Seat} {x : MortarVec} {own : PartialVec}
  {v : OutVec} {rest : List OutVec}

/-! ### The finisher's oldest vector (R208) -/

/-- A partial of the vector. -/
def PartialVec.isOf (n vec : Nat) (y : PartialVec) : Bool := y.ctx == n && y.vec == vec

/-- The tile keeps no partial of the vector any more. -/
def Tile.letGo (n vec : Nat) (t : Tile) : Tile := { t with partials := t.partials.filter (fun y => !y.isOf n vec) }

/-- The partials of a vector in ascending tile-row order, those that the tile keeps. -/
def Tile.partsOf (t : Tile) (n vec rows : Nat) : List PartialVec :=
  (List.range rows).filterMap (fun r => t.partials.find? (fun y => y.isOf n vec && y.row == r))

/-- A partial of each tile row is there. -/
def wholeVec (n vec rows : Nat) (held : List PartialVec) : Bool :=
  (List.range rows).all (fun r => held.any (fun y => y.isOf n vec && y.row == r))

theorem partsOf_whole {y : Tile} {rows : Nat} :
    (y.partsOf n vec rows).length = rows ↔ wholeVec n vec rows y.partials = true := by
  have hall := List.filterMap_length_eq_length (l := List.range rows)
    (f := fun r => y.partials.find? (fun z => z.isOf n vec && z.row == r))
  rw [List.length_range] at hall
  unfold Tile.partsOf wholeVec
  rw [hall]
  simp

theorem tryFinish_none (h : (s.tile p).partials.find? (fun y => y.row == 0) = none) : s.tryFinish p k = s := by
  cases k with
  | zero => rfl
  | succ k =>
    rw [State.tryFinish]
    dsimp only
    rw [h]

section Oldest

variable (hown : (s.tile p).partials.find? (fun y => y.row == 0) = some own) (hc : s.ctx own.ctx = some c)
  (hseat : s.seat c (s.logicalOr p) = some seat) (hL : c.layers[seat.layer]? = some L)
  (hroom : (s.tile p).outRoom (ringBytes L.format) = true)

include hown hc hseat hL

theorem tryFinish_waits (hwhole : wholeVec own.ctx own.vec L.tileRows (s.tile p).partials = false) :
    s.tryFinish p k = s := by
  cases k with
  | zero => rfl
  | succ k =>
    have hparts : ((s.tile p).partsOf own.ctx own.vec L.tileRows).length ≠ L.tileRows := by
      rw [Ne, partsOf_whole, hwhole]
      exact Bool.false_ne_true
    rw [State.tryFinish]
    dsimp only
    rw [hown]
    dsimp only
    rw [hc]
    dsimp only
    rw [hseat]
    dsimp only
    rw [hL]
    exact if_neg fun h => hparts h.1

include hroom

theorem tryFinish_whole (hwhole : wholeVec own.ctx own.vec L.tileRows (s.tile p).partials = true) :
    s.tryFinish p (k + 1) =
      ((s.modTile p (Tile.letGo own.ctx own.vec)).finish p own.ctx own.vec c L seat
        (sumPartials (L.outCols seat.block) ((s.tile p).partsOf own.ctx own.vec L.tileRows))
        (((s.tile p).partsOf own.ctx own.vec L.tileRows).any (·.suspect))).tryFinish p k := by
  rw [State.tryFinish]
  dsimp only
  rw [hown]
  dsimp only
  rw [hc]
  dsimp only
  rw [hseat]
  dsimp only
  rw [hL]
  exact if_pos ⟨partsOf_whole.mpr hwhole, by rw [hroom, Bool.true_or]⟩

/-- A vector whose partials are all there is finished, and none of them is kept. -/
theorem tryFinish_takes (hwhole : wholeVec own.ctx own.vec L.tileRows (s.tile p).partials = true) :
    ((s.tryFinish p (k + 1)).tile p).partials.filter (PartialVec.isOf own.ctx own.vec) = [] := by
  have hgone : ((s.modTile p (Tile.letGo own.ctx own.vec)).tile p).partials.filter (PartialVec.isOf own.ctx own.vec) =
      [] := by
    rw [tile_modTile_self (f := Tile.letGo own.ctx own.vec) fun _ => rfl]
    simp [Tile.letGo]
  rw [tryFinish_whole hown hc hseat hL hroom hwhole]
  exact finishKept_partials.tryFinish (finishKept_partials.finish ((ctx_of_ctxs State.modTile_ctxs).trans hc) hgone)

end Oldest

/-! ### PARTIAL_ARRIVE -/

/-- The partial on its way that a command names. -/
def State.onMortar (s : State) (p n vec row : Nat) : Option MortarVec :=
  s.mortar.find? (fun x => x.finisher == s.logicalOr p && x.vec.ctx == n && x.vec.vec == vec && x.vec.row == row)

/-- Partials of other tile rows than its own that a tile keeps. -/
def Tile.foreign (t : Tile) : Nat := (t.partials.filter (fun y => y.row != 0)).length

/-- The partial is in the finisher's ring. -/
def State.partialIn (s : State) (p : Nat) (x : MortarVec) : State :=
  { s with mortar := s.mortar.erase x }.modTile p (fun t => { t with partials := t.partials ++ [x.vec] })

theorem partialIn_tile : (s.partialIn p x).tile p = { s.tile p with partials := (s.tile p).partials ++ [x.vec] } :=
  tile_modTile_self fun _ => rfl

theorem partialIn_mortar : (s.partialIn p x).mortar = s.mortar.erase x := State.modTile_mortar

theorem partialIn_ctxs : (s.partialIn p x).ctxs = s.ctxs := State.modTile_ctxs

theorem partialIn_seat : (s.partialIn p x).seat c ((s.partialIn p x).logicalOr p) = s.seat c (s.logicalOr p) := rfl

theorem onMortar_row (hx : s.onMortar p n vec row = some x) : x.vec.row = row := by
  have := List.find?_some hx
  simp only [Bool.and_eq_true, beq_iff_eq] at this
  exact this.2

section Arrive

variable (hp : s.key.powered = true) (hruns : s.runs (halfOf (tileHalf p)) = true)
  (hx : s.onMortar p n vec row = some x)

include hp hruns hx

theorem exec_partialArrive : exec (.partialArrive p n vec row) s =
    .next (if 8 ≤ (s.tile p).foreign then s else (s.partialIn p x).settleRings p) := by
  unfold State.onMortar at hx
  change execPartialArrive p n vec row s = _
  unfold execPartialArrive
  rw [onPower_on hp]
  dsimp only
  rw [hx]
  dsimp only
  rw [hruns]
  simp only [Bool.not_true, Bool.false_or, decide_eq_true_eq]
  rfl

theorem partialArrive_waits (hfull : 8 ≤ (s.tile p).foreign) :
    Reaches (.partialArrive p n vec row) s (fun t => t = s) :=
  ⟨s, by rw [exec_partialArrive hp hruns hx, if_pos hfull], rfl⟩

variable (hspace : (s.tile p).foreign < 8) (hflight : (s.tile p).flight = [])

include hspace hflight

theorem exec_partialArrive_enters : exec (.partialArrive p n vec row) s =
    .next (((s.partialIn p x).tryFinish p 8).ringLevels p) := by
  have hidle : (s.partialIn p x).release' p 5 = s.partialIn p x := release'_idle (by rw [partialIn_tile, hflight])
  rw [exec_partialArrive hp hruns hx, if_neg (by omega), State.settleRings, hidle]

/-- A partial of a vector whose own result is not there yet is kept. -/
theorem partialArrive_keeps (hrow : row ≠ 0)
    (hnone : (s.tile p).partials.find? (fun y => y.row == 0) = none) :
    Reaches (.partialArrive p n vec row) s (fun t => (t.tile p).partials = (s.tile p).partials ++ [x.vec] ∧
      t.mortar = s.mortar.erase x ∧ OnlyIn [0x4014] s t ∧ SameHbm s t ∧ SameCtxs s t) := by
  have hidle : (s.partialIn p x).tryFinish p 8 = s.partialIn p x := by
    refine tryFinish_none ?_
    rw [partialIn_tile]
    simp [List.find?_append, hnone, onMortar_row hx, hrow]
  have hexec := exec_partialArrive_enters hp hruns hx hspace hflight
  rw [hidle] at hexec
  refine ⟨_, hexec, ?_, ?_, ?_, ?_, ?_⟩
  · rw [ringLevels_tile, partialIn_tile]
  · exact ((settleKept_wires (s := s.partialIn p x)).levels ⟨rfl, rfl⟩).1.trans partialIn_mortar
  · exact onlyIn_of_keptD (by decide) fun i kd => State.ringLevels_kept kd fun _ _ => rfl
  · exact State.ringLevels_kept (sameHbm_keptA s).toD ⟨rfl, rfl⟩
  · exact State.ringLevels_kept (sameCtxs_keptA s).toD partialIn_ctxs

/-- A partial of the oldest vector is kept until each tile row's has come, and with the last of them the vector is
finished. -/
theorem partialArrive_finishes (hown : (s.tile p).partials.find? (fun y => y.row == 0) = some own)
    (hc : s.ctx own.ctx = some c) (hseat : s.seat c (s.logicalOr p) = some seat) (hL : c.layers[seat.layer]? = some L)
    (hroom : (s.tile p).outRoom (ringBytes L.format) = true) :
    Reaches (.partialArrive p n vec row) s (fun t => t.mortar = s.mortar.erase x ∧
      (wholeVec own.ctx own.vec L.tileRows ((s.tile p).partials ++ [x.vec]) = true →
        (t.tile p).partials.filter (PartialVec.isOf own.ctx own.vec) = []) ∧
      (wholeVec own.ctx own.vec L.tileRows ((s.tile p).partials ++ [x.vec]) = false →
        (t.tile p).partials = (s.tile p).partials ++ [x.vec]) ∧
      OnlyIn [0x3020, 0x3021, 0x4014] s t ∧ SameHbm s t) := by
  have hexec := exec_partialArrive_enters hp hruns hx hspace hflight
  have hpartials : ((s.partialIn p x).tile p).partials = (s.tile p).partials ++ [x.vec] :=
    congrArg Tile.partials partialIn_tile
  have hin : ((s.partialIn p x).tile p).partials.find? (fun y => y.row == 0) = some own := by
    rw [hpartials, List.find?_append, hown]
    rfl
  have hcin : (s.partialIn p x).ctx own.ctx = some c := (ctx_of_ctxs partialIn_ctxs).trans hc
  have hroomIn : ((s.partialIn p x).tile p).outRoom (ringBytes L.format) = true := by
    rw [partialIn_tile]
    exact hroom
  refine ⟨_, hexec, ?_, fun hwhole => ?_, fun hwhole => ?_, ?_, ?_⟩
  · exact (settleKept_wires.levels (settleKept_wires.tryFinish (s := s.partialIn p x) ⟨rfl, rfl⟩)).1.trans
      partialIn_mortar
  · rw [ringLevels_tile]
    exact tryFinish_takes hin hcin (partialIn_seat.trans hseat) hL hroomIn (hpartials ▸ hwhole)
  · rw [ringLevels_tile, tryFinish_waits hin hcin (partialIn_seat.trans hseat) hL (hpartials ▸ hwhole), hpartials]
  · exact onlyIn_of_keptD (by decide) fun i kd => execPartialArrive_kept (sameObject_kept i s) (sameObject_keptC i s)
      (sameObject_keptT i s) kd (SameObject.refl i s) _ hexec
  · exact execPartialArrive_kept (sameHbm_kept s) (sameHbm_keptC s) (sameHbm_keptT s) (sameHbm_keptA s).toD ⟨rfl, rfl⟩ _
      hexec

end Arrive

/-! ### OUTPUT_DRAIN -/

/-- The oldest result leaves the output ring. -/
def State.vecSent (s : State) (p : Nat) (v : OutVec) (rest : List OutVec) : State :=
  let b := s.modTile p (fun t => { t with outRing := rest })
  (if v.partialOut then b.sendPartial p v else b.sendResult v).emit (.drained p v)

theorem exec_outputDrain (hp : s.key.powered = true) (hring : (s.tile p).outRing = v :: rest) :
    exec (.outputDrain p) s = .next ((s.vecSent p v rest).settleRings p) := by
  change execOutputDrain p s = _
  unfold execOutputDrain
  rw [onPower_on hp, hring]
  rfl

theorem sendPartial_tiles : (s.sendPartial p v).tiles = s.tiles := rfl

theorem sendPartial_out : (s.sendPartial p v).out = s.out := rfl

theorem sendPartial_mortar (hc : s.ctx v.ctx = some c) (hseat : s.seat c (s.logicalOr p) = some seat) :
    (s.sendPartial p v).mortar = s.mortar ++ [{ finisher := s.valAt p 0x4012 0x06, vec :=
      { ctx := v.ctx, vec := v.vec, row := seat.row, suspect := v.suspect,
        values := if v.values.isEmpty then none else some v.values } }] := by
  unfold State.sendPartial
  rw [hc]
  dsimp only [Option.bind_some]
  rw [hseat]

theorem vecSent_tile : (s.vecSent p v rest).tile p = { s.tile p with outRing := rest } := by
  have hgone : (s.modTile p (fun t => { t with outRing := rest })).tile p = { s.tile p with outRing := rest } :=
    tile_modTile_self fun _ => rfl
  rw [← hgone]
  refine tile_of_tiles (State.emit_tiles.trans ?_)
  split
  · exact sendPartial_tiles
  · exact State.modCtx_tiles

theorem vecSent_out : (s.vecSent p v rest).out = s.out ++ [.drained p v] := by
  refine State.emit_out.trans (congrArg (· ++ [Out.drained p v]) ?_)
  split
  · exact sendPartial_out.trans State.modTile_out
  · exact State.modCtx_out.trans State.modTile_out

theorem vecSent_partial (hv : v.partialOut = true) (hc : s.ctx v.ctx = some c)
    (hseat : s.seat c (s.logicalOr p) = some seat) :
    (s.vecSent p v rest).mortar = s.mortar ++ [{ finisher := s.valAt p 0x4012 0x06, vec :=
      { ctx := v.ctx, vec := v.vec, row := seat.row, suspect := v.suspect,
        values := if v.values.isEmpty then none else some v.values } }] := by
  refine State.emit_mortar.trans ?_
  rw [if_pos hv]
  exact sendPartial_mortar (s := s.modTile p (fun t => { t with outRing := rest }))
    ((ctx_of_ctxs State.modTile_ctxs).trans hc) hseat

theorem vecSent_result (hv : v.partialOut = false) : (s.vecSent p v rest).mortar = s.mortar := by
  refine State.emit_mortar.trans ?_
  rw [if_neg (by simp [hv])]
  exact State.modCtx_mortar.trans State.modTile_mortar

theorem ringLevels_outBytes : (s.ringLevels p).regAt p 0x4014 0x02 = toWord ((s.ringLevels p).tile p).outBytes := by
  rw [ringLevels_tile]
  exact State.regAt_putAt_self

/-- The oldest result leaves the output ring, and what waited for its room joins behind the others (R214). -/
theorem outputDrain_sends (hp : s.key.powered = true) (hring : (s.tile p).outRing = v :: rest) :
    Reaches (.outputDrain p) s (fun t =>
      (∃ more, (t.tile p).outRing = rest ++ more) ∧ (∃ more, t.out = s.out ++ .drained p v :: more) ∧
      t.regAt p 0x4014 0x02 = toWord (t.tile p).outBytes ∧
      (∀ c seat, v.partialOut = true → s.ctx v.ctx = some c → s.seat c (s.logicalOr p) = some seat →
        t.mortar = s.mortar ++ [{ finisher := s.valAt p 0x4012 0x06, vec :=
          { ctx := v.ctx, vec := v.vec, row := seat.row, suspect := v.suspect,
            values := if v.values.isEmpty then none else some v.values } }]) ∧
      (v.partialOut = false → t.mortar = s.mortar) ∧ OnlyIn [0x3020, 0x3021, 0x4014] s t ∧ SameHbm s t) := by
  have hexec := exec_outputDrain hp hring
  obtain ⟨hmortar, hout⟩ : SameWires (s.vecSent p v rest) ((s.vecSent p v rest).settleRings p) :=
    settleKept_wires.settleRings ⟨rfl, rfl⟩
  have hkept : rest <+: (((s.vecSent p v rest).settleRings p).tile p).outRing :=
    settleKept_ring.settleRings (by rw [vecSent_tile])
  obtain ⟨more, hmore⟩ := hkept
  refine ⟨_, hexec, ⟨more, hmore.symm⟩, ⟨[], hout.trans vecSent_out⟩, ringLevels_outBytes,
    fun c seat hv hc hseat => hmortar.trans (vecSent_partial hv hc hseat), fun hv => hmortar.trans (vecSent_result hv),
    ?_, ?_⟩
  · exact onlyIn_of_keptD (by decide) fun i kd => execOutputDrain_kept (sameObject_kept i s) (sameObject_keptC i s)
      (sameObject_keptT i s) kd (SameObject.refl i s) _ hexec
  · exact execOutputDrain_kept (sameHbm_kept s) (sameHbm_keptC s) (sameHbm_keptT s) (sameHbm_keptA s).toD ⟨rfl, rfl⟩ _
      hexec

end Sys2Proof.Machine
end

section
/-! PROOF. O36: COEFFICIENT_SWITCH and CALIBRATION_PRODUCT (R200, R202, R234). -/

namespace Sys2Proof.Machine

open Sys2Proof Sys2Proof.Safety

variable {s : State} {p i g j : Nat} {γ : Type} {dst src sub : γ → Nat} {l : List γ} {e : γ}

/-! ### Words copied from units to others (R200) -/

/-- Copies words of an object from units to other units, one after the other. -/
def State.copyWords (s : State) (i : Nat) (dst src sub : γ → Nat) (l : List γ) : State :=
  l.foldl (fun t e => t.putAt (dst e) i (sub e) (t.regAt (src e) i (sub e))) s

theorem copyWords_kept {P : State → Prop} (hi : KeptAt P i) (h : P s) : P (s.copyWords i dst src sub l) :=
  Kept.foldl (fun _ _ => State.putAt_kept hi) h

/-- A unit to which nothing is copied keeps its words. -/
theorem copyWords_source {u k : Nat} (hu : ∀ e, dst e ≠ u) :
    (s.copyWords i dst src sub l).regAt u i k = s.regAt u i k :=
  Kept.foldl (P := fun t => t.regAt u i k = s.regAt u i k)
    (fun _ e ht => (State.regAt_putAt_ne fun h => hu e (dkey_inj.mp h).1).trans ht) rfl

/-- Each word reads as its source did, where no unit is both and no word is written twice. -/
theorem copyWords_copied (hunits : ∀ e e', dst e ≠ src e')
    (hwords : ∀ e ∈ l, ∀ e' ∈ l, dkey (dst e) i (sub e) = dkey (dst e') i (sub e') → e = e') (he : e ∈ l) :
    (s.copyWords i dst src sub l).regAt (dst e) i (sub e) = s.regAt (src e) i (sub e) := by
  induction l using List.reverseRecOn with
  | nil => cases he
  | append_singleton l a ih =>
    have hstep : s.copyWords i dst src sub (l ++ [a]) =
        (s.copyWords i dst src sub l).putAt (dst a) i (sub a) (s.regAt (src a) i (sub a)) := by
      rw [← copyWords_source (s := s) (sub := sub) (l := l) (k := sub a) fun e' => hunits e' a]
      exact List.foldl_append
    rw [hstep, State.regAt_putAt]
    split
    · next h => rw [hwords a (by simp) e he h]
    · next h =>
      have hmem : e ∈ l := (List.mem_append.mp he).resolve_right fun ha =>
        h (by rw [List.mem_singleton.mp ha])
      exact ih (fun x hx y hy => hwords x (List.mem_append_left _ hx) y (List.mem_append_left _ hy)) hmem

/-! ### The pending set becomes active -/

/-- The words of a tile's sets, group by group. -/
def groupWords : List (Nat × Nat) := (List.range 32).flatMap (fun g => (List.range 0x51).map (g, ·))

theorem mem_groupWords {w : Nat × Nat} : w ∈ groupWords ↔ w.1 < 32 ∧ w.2 < 0x51 := by
  obtain ⟨g, j⟩ := w
  simp [groupWords]

/-- The words of the set that its groups share. -/
def State.copyShared (s : State) (p : Nat) : State :=
  s.copyWords 0x2010 (fun _ => setUnit p 0) (fun _ => setUnit p 1) (0x03 + ·) (List.range 0x84)

theorem copySet_eq : s.copySet p = (s.copyShared p).copyWords 0x2011 (fun w : Nat × Nat => groupUnit p w.1 0)
    (fun w => groupUnit p w.1 1) (fun w => 0x04 + w.2) groupWords := by
  unfold State.copySet State.copyWords groupWords
  rw [List.foldl_flatMap]
  simp only [List.foldl_map]
  rfl

theorem copySet_shared (hj : j < 0x84) :
    (s.copySet p).regAt (setUnit p 0) 0x2010 (0x03 + j) = s.regAt (setUnit p 1) 0x2010 (0x03 + j) := by
  have hgroups : SameObject 0x2010 (s.copyShared p) (s.copySet p) := by
    rw [copySet_eq]
    exact copyWords_kept (sameObject_at (by decide)) (SameObject.refl _ _)
  rw [hgroups]
  refine copyWords_copied (e := j) (fun _ _ => ?_) (fun a ha b hb h => ?_) (List.mem_range.mpr hj)
  · unfold setUnit
    omega
  · rw [List.mem_range] at ha hb
    have := (dkey_unit.mp h).2
    omega

theorem copySet_groups (hg : g < 32) (hj : j < 0x51) :
    (s.copySet p).regAt (groupUnit p g 0) 0x2011 (0x04 + j) = s.regAt (groupUnit p g 1) 0x2011 (0x04 + j) := by
  have hshared : SameObject 0x2011 s (s.copyShared p) :=
    copyWords_kept (sameObject_at (by decide)) (SameObject.refl _ _)
  rw [copySet_eq, ← hshared]
  refine copyWords_copied (e := (g, j)) (fun _ _ => ?_) (fun a ha b hb h => ?_) (mem_groupWords.mpr ⟨hg, hj⟩)
  · unfold groupUnit
    omega
  · rw [mem_groupWords] at ha hb
    obtain ⟨hunit, -, hsub⟩ := dkey_inj.mp h
    unfold groupUnit at hunit
    exact Prod.ext (by omega) (by omega)

/-- The pending set is active, and that is counted. -/
def State.setSwitched (s : State) (p : Nat) : State :=
  ((s.copySet p).bumpAt p 0x4010 0x30).modTile p (fun t => { t with dirty := false })

theorem modTile_clean : ((s.modTile p (fun t => { t with dirty := false })).tile p).dirty = false :=
  congrArg Tile.dirty (tile_modTile_self (f := fun t => { t with dirty := false }) fun _ => rfl)

theorem exec_coefficientSwitch (hp : s.key.powered = true) : exec (.coefficientSwitch p) s =
    .next (if s.tileBusy p then s else if (s.tile p).dirty then s.setSwitched p else s) := by
  change execCoefficientSwitch p s = _
  unfold execCoefficientSwitch
  rw [onPower_on hp]
  rfl

theorem coefficientSwitch_waits (hp : s.key.powered = true) (hbusy : s.tileBusy p = true) :
    Reaches (.coefficientSwitch p) s (fun t => t = s) :=
  ⟨s, by rw [exec_coefficientSwitch hp, if_pos hbusy], rfl⟩

/-- At a strand boundary a pending set is copied to the active one (R200). -/
theorem coefficientSwitch_switches (hp : s.key.powered = true) (hbusy : s.tileBusy p = false)
    (hdirty : (s.tile p).dirty = true) : Reaches (.coefficientSwitch p) s (fun t =>
      (∀ j, j < 0x84 → t.regAt (setUnit p 0) 0x2010 (0x03 + j) = s.regAt (setUnit p 1) 0x2010 (0x03 + j)) ∧
      (∀ g j, g < 32 → j < 0x51 →
        t.regAt (groupUnit p g 0) 0x2011 (0x04 + j) = s.regAt (groupUnit p g 1) 0x2011 (0x04 + j)) ∧
      (t.tile p).dirty = false ∧ t.regAt p 0x4010 0x30 = s.regAt p 0x4010 0x30 + 1 ∧
      OnlyIn [0x2010, 0x2011, 0x4010] s t ∧ SameHbm s t ∧ SameCtxs s t) := by
  have hexec : exec (.coefficientSwitch p) s = .next (s.setSwitched p) := by
    rw [exec_coefficientSwitch hp, if_neg (by simp [hbusy]), if_pos hdirty]
  have hcopied {i : Nat} (hi : i % 65536 ≠ 0x4010) : SameObject i (s.copySet p) (s.setSwitched p) :=
    fun _ _ => State.regAt_modTile.trans (State.bumpAt_kept (sameObject_at (by simpa using hi))
      (SameObject.refl i (s.copySet p)) _ _)
  have hcounts : SameObject 0x4010 s (s.copySet p) :=
    State.copySet_kept (sameObject_keptD s (by decide)) (SameObject.refl _ _)
  refine ⟨_, hexec, fun j hj => (hcopied (by decide) _ _).trans (copySet_shared hj),
    fun g j hg hj => (hcopied (by decide) _ _).trans (copySet_groups hg hj), ?_, ?_,
    onlyIn_of_keptD (by decide) fun i kd => execCoefficientSwitch_kept (sameObject_kept i s) (sameObject_keptT i s) kd
      (SameObject.refl i s) _ hexec,
    execCoefficientSwitch_kept (sameHbm_kept s) (sameHbm_keptT s) (sameHbm_keptA s).toD ⟨rfl, rfl⟩ _ hexec,
    execCoefficientSwitch_kept (sameCtxs_kept s) (sameCtxs_keptT s) (sameCtxs_keptA s).toD rfl _ hexec⟩
  · exact modTile_clean
  · rw [State.setSwitched, State.regAt_modTile, State.regAt_bumpAt, if_pos rfl, hcounts]

/-! ### CALIBRATION_PRODUCT -/

theorem exec_calibrationProduct (hp : s.key.powered = true) :
    exec (.calibrationProduct p) s = .next (if s.mayCalibrate p then s.startCal p else s) := by
  change execCalibrationProduct p s = _
  unfold execCalibrationProduct
  rw [onPower_on hp]

theorem calibrationProduct_starts (hp : s.key.powered = true) (hmay : s.mayCalibrate p = true) :
    Reaches (.calibrationProduct p) s (fun t =>
      t.tile p = { s.tile p with calProduct := some s.count, calAgain := false } ∧ SameDict s t ∧ SameHbm s t ∧
      SameCtxs s t) :=
  ⟨s.startCal p, by rw [exec_calibrationProduct hp, if_pos hmay], tile_modTile_self fun _ => rfl, State.modTile_dict,
    ⟨State.modTile_hbm0, State.modTile_hbm1⟩, State.modTile_ctxs⟩

theorem calibrationProduct_waits (hp : s.key.powered = true) (hmay : s.mayCalibrate p = false) :
    Reaches (.calibrationProduct p) s (fun t => t = s) :=
  ⟨s, by rw [exec_calibrationProduct hp, if_neg (by simp [hmay])], rfl⟩

/-! ### The statement -/

/-- Settles O36: a repeat that passes and one that fails again, a partial by what its finisher keeps, the oldest result
of a ring, a set at and off a strand boundary, a calibration product in and out of a gap. -/
theorem checksPartialsAndSets : Obligations.ChecksPartialsAndSets := by
  unfold Obligations.ChecksPartialsAndSets
  refine fun s p hp => ⟨fun f c seat L hf hcadence hc hseat hL =>
      ⟨checksumRepeat_passes hp hf hcadence hc hseat hL, checksumRepeat_fails hp hf hcadence hc hseat hL⟩,
    fun n vec row x hrow hruns hflight hx => ⟨partialArrive_waits hp hruns hx, fun hspace =>
      ⟨partialArrive_keeps hp hruns hx hspace hflight hrow, ?_⟩⟩,
    fun v rest => outputDrain_sends hp, coefficientSwitch_switches hp, coefficientSwitch_waits hp,
    calibrationProduct_starts hp, calibrationProduct_waits hp⟩
  rintro own c seat L hown rfl rfl hc hseat hL hroom
  exact partialArrive_finishes hp hruns hx hspace hflight hown hc hseat hL hroom

end Sys2Proof.Machine
end

section
/-! PROOF. O38: calibration commands begin, abort or are refused (R224). -/

namespace Sys2Proof.Machine

open Sys2Proof Sys2Proof.Safety

variable {s t : State} {via : Via} {h : HalfId} {value v : Word} {x : Aux} {meas : CalRaw} {k n p w : Nat}
  {tiles : List Nat} {c : Instr}

/-! ### The command word -/

theorem calStep_calWordOf (hk : k < 16) : calStep (calWordOf value k).toNat = k := by
  unfold calStep bitsOf calWordOf
  rw [toWord_toNat (by omega)]
  omega

/-- The fields of a command that the checks let through are in order. -/
theorem calFields_admitted (hadm : admits s via (calIndex h) 0x01 [v] = true) : calFields v.toNat = 0 := by
  obtain ⟨u, hown⟩ := admits_ownStatus hadm
  have hfields : (arrival s via (calIndex h) 0x01).ownStatus (calIndex h) 0x01 u [v] = calFields v.toNat := by
    cases h <;> rfl
  exact hfields.symm.trans hown

theorem verdict_calibration (hadm : admits s via (calIndex h) 0x01 [v] = true) :
    verdict s x via (calIndex h) 0x01 [v] = (arrival s via (calIndex h) 0x01).actCalibration h v x.meas := by
  obtain ⟨_, _, _, o, r, ho, hr, hsub, _⟩ := admits_row hadm
  rw [verdict_of ho hr]
  unfold State.act
  rw [hsub]
  cases h <;> rfl

/-! ### The tiles of a command's scope -/

theorem scopeTiles_of (htiles : SameTiles s t) (hfabric : SameFabric s t) :
    t.scopeTiles h w = s.scopeTiles h w := by
  have hrole : t.tileRole = s.tileRole := by
    funext p
    unfold State.tileRole
    rw [tile_of_tiles htiles, hfabric]
  unfold State.scopeTiles
  rw [hrole]

theorem scopeTiles_length : (s.scopeTiles h w).length < 2 ^ 32 := by
  have hphys {m : Nat} : (physTiles m).length = 1122 := by simp [physTiles]
  unfold State.scopeTiles
  dsimp only
  refine Nat.lt_of_le_of_lt (List.length_filter_le _ _) ?_
  split
  · exact (by decide : 1 < 2 ^ 32)
  · rw [List.length_map, List.length_range]
    decide
  · rw [hphys]
    decide

/-- Marking tiles writes their own running word (0x2012.03). -/
theorem markRunning_running {l : List Nat} {b : Bool} : (s.markRunning l b).regAt p 0x2012 0x03 =
    if p ∈ l then boolWord b else s.regAt p 0x2012 0x03 := by
  induction l generalizing s with
  | nil => rfl
  | cons q l ih =>
    refine (ih (s := s.putAt q 0x2012 0x03 (boolWord b))).trans ?_
    by_cases hpq : p = q
    · simp [hpq]
    · rw [State.regAt_putAt_ne fun e => hpq (dkey_inj.mp e).1.symm]
      simp [hpq]

theorem markRunning_sameObject {i : Nat} {l : List Nat} {b : Bool} (hi : i % 65536 ≠ 0x2012) :
    SameObject i s (s.markRunning l b) :=
  State.markRunning_kept (sameObject_keptD s (by simpa using hi)) (SameObject.refl i s)

theorem calIndex_ne : calIndex h % 65536 ≠ 0x2012 := by cases h <;> decide

/-! ### A step that begins -/

/-- The half shows the step, how many tiles it has, and none done (0x2000.02 to .04). -/
def State.calShown (s : State) (h : HalfId) (n m : Nat) : State :=
  ((s.put (calIndex h) 0x02 n).put (calIndex h) 0x03 m).put (calIndex h) 0x04 0

/-- A calibration step has begun: it is shown, its solver takes what is measured, its tiles are marked. -/
def State.calBegun (s : State) (h : HalfId) (w n : Nat) (tiles : List Nat) (meas : CalRaw) : State :=
  ((s.calShown h n tiles.length).modHalf h (fun c =>
    { c.takeRaw ((s.calShown h n tiles.length).val 0x2002 0x05) meas with calWord := w })).markRunning tiles true

theorem calShown_val {m : Nat} (hn : n < 2 ^ 32) (hm : m < 2 ^ 32) : (s.calShown h n m).val (calIndex h) 0x02 = n ∧
    (s.calShown h n m).val (calIndex h) 0x03 = m ∧ (s.calShown h n m).val (calIndex h) 0x04 = 0 := by
  unfold State.calShown
  refine ⟨?_, ?_, State.val_put_self (by decide)⟩
  · exact (congrArg BitVec.toNat ((State.reg_put_ne (by decide)).trans (State.reg_put_ne (by decide)))).trans
      (State.val_put_self hn)
  · exact (congrArg BitVec.toNat (State.reg_put_ne (by decide))).trans (State.val_put_self hm)

theorem calShown_half {m : Nat} : (s.calShown h n m).half h = s.half h := by
  unfold State.calShown
  cases h <;> rfl

theorem calBegun_object {i : Nat} (hi : i % 65536 ≠ 0x2012) :
    SameObject i (s.calShown h n tiles.length) (s.calBegun h w n tiles meas) :=
  SameObject.trans (fun _ _ => State.regAt_modHalf) (markRunning_sameObject hi)

theorem calBegun_half : (s.calBegun h w n tiles meas).half h =
    { (s.half h).takeRaw (s.val 0x2002 0x05) meas with calWord := w } := by
  have hmarked {b : State} : SameHalves b (b.markRunning tiles true) :=
    State.markRunning_kept (sameHalves_keptA b).toD ⟨rfl, rfl⟩
  have hmean : (s.calShown h n tiles.length).val 0x2002 0x05 = s.val 0x2002 0x05 := by
    have hput {b : State} {sub m : Nat} : SameObject 0x2002 b (b.put (calIndex h) sub m) :=
      sameObject_put (by cases h <;> decide)
    exact SameObject.val ((hput.trans hput).trans hput) 0x05
  unfold State.calBegun
  rw [hmarked.half, State.half_modHalf_self, calShown_half, hmean]

theorem calBegun_kept {P : State → Prop} (kh : KeptH P) (ka : KeptA P) (hs : P s) :
    P (s.calBegun h w n tiles meas) :=
  State.markRunning_kept ka.toD (State.modHalf_kept kh (State.put_kept (ka.mem _) (State.put_kept (ka.mem _)
    (State.put_kept (ka.mem _) hs))))

/-- The work of a calibration command: the step begins on the tiles of its scope. -/
def State.beginCal (s : State) (h : HalfId) (w n : Nat) (meas : CalRaw) : Verdict :=
  .accept (.action (calIndex h) 0x01 0) (Config.estimate (dkey n (calIndex h) 0x01)) (fun t =>
    t.calBegun h w n (s.scopeTiles h w) meas)

/-- ZERO and a refresh begin where nothing is pending and their scope has a tile. -/
theorem actCalibration_begins (hstep : k = 1 ∨ k = 4) (hv : calStep v.toNat = k) (hf : calFields v.toNat = 0)
    (hpend : s.pendingOn (calIndex h) 0x01 0 = none) (htiles : s.scopeTiles h v.toNat ≠ []) :
    s.actCalibration h v meas = s.beginCal h v.toNat k meas := by
  unfold State.actCalibration
  dsimp only
  rw [if_neg (by simpa using hf), if_neg (by omega), if_neg (by omega), hpend]
  dsimp only
  rw [if_neg (by simpa using htiles)]
  rcases hstep with rfl | rfl <;> rw [hv] <;> rfl

theorem actCalibration_scopeless (hstep : k = 1 ∨ k = 4) (hv : calStep v.toNat = k) (hf : calFields v.toNat = 0)
    (hpend : s.pendingOn (calIndex h) 0x01 0 = none) (htiles : s.scopeTiles h v.toNat = []) :
    s.actCalibration h v meas = .refuse 0x3001 0 := by
  unfold State.actCalibration
  dsimp only
  rw [if_neg (by simpa using hf), if_neg (by omega), if_neg (by omega), hpend]
  exact if_pos (by simpa using htiles)

/-- FULL begins on the waiting results of a ZERO of its scope. -/
theorem actCalibration_full (hv : calStep v.toNat = 2) (hf : calFields v.toNat = 0)
    (hwaits : s.val (calIndex h) 0x02 = 2) (hplace : v.toNat % 2 ^ 16 = (s.half h).calWord % 2 ^ 16)
    (hscope : calScope v.toNat = calScope (s.half h).calWord) :
    s.actCalibration h v meas = s.beginCal h v.toNat 3 meas := by
  unfold State.actCalibration
  dsimp only
  rw [if_neg (by simpa using hf), if_neg (by omega), if_pos hv, if_pos ⟨hwaits, hplace, hscope⟩]
  rfl

theorem actCalibration_fullEarly (hv : calStep v.toNat = 2) (hf : calFields v.toNat = 0)
    (hwaits : s.val (calIndex h) 0x02 ≠ 2) : s.actCalibration h v meas = .refuse 0x3001 0 := by
  unfold State.actCalibration
  dsimp only
  rw [if_neg (by simpa using hf), if_neg (by omega), if_pos hv]
  exact if_neg fun hall => hwaits hall.1

/-! ### A step that is aborted -/

/-- The command in progress or waiting has ended: what waited for it is refused, its tiles run no more, the solver is
empty. -/
def State.calAborted (s : State) (h : HalfId) : State :=
  let t := s.endPending (calIndex h) 0x01 0 0x3001
  ((t.markRunning (t.scopeTiles h (t.half h).calWord) false).put (calIndex h) 0x02 0).modHalf h HalfCtl.noCal

theorem actCalibration_aborts (hv : calStep v.toNat = 3) (hf : calFields v.toNat = 0)
    (hruns : s.val (calIndex h) 0x02 ≠ 0) : s.actCalibration h v meas = .apply (s.calAborted h) := by
  unfold State.actCalibration
  dsimp only
  rw [if_neg (by simpa using hf), if_pos hv]
  exact if_neg hruns

theorem actCalibration_idle (hv : calStep v.toNat = 3) (hf : calFields v.toNat = 0)
    (hidle : s.val (calIndex h) 0x02 = 0) : s.actCalibration h v meas = .refuse 0x3001 0 := by
  unfold State.actCalibration
  dsimp only
  rw [if_neg (by simpa using hf), if_pos hv]
  exact if_pos hidle

theorem calAborted_kept {P : State → Prop} (kk : Kept P) (kh : KeptH P) (kv : KeptV P) (ka : KeptA P) (hs : P s) :
    P (s.calAborted h) :=
  State.modHalf_kept kh (State.put_kept (ka.mem _) (State.markRunning_kept ka.toD (State.endPending_kept kk kv hs)))

theorem calAborted_val : (s.calAborted h).val (calIndex h) 0x02 = 0 :=
  (congrArg BitVec.toNat State.regAt_modHalf).trans (State.val_put_self (by decide))

/-- No tile of the scope of the step that was in progress runs any more. -/
theorem calAborted_running (hp : p ∈ s.scopeTiles h (s.half h).calWord) :
    (s.calAborted h).valAt p 0x2012 0x03 = 0 := by
  let e := s.endPending (calIndex h) 0x01 0 0x3001
  have hscope : e.scopeTiles h (e.half h).calWord = s.scopeTiles h (s.half h).calWord := by
    have hhalf : SameHalves s e := State.endPending_kept (sameHalves_kept s) (sameHalves_keptV s) ⟨rfl, rfl⟩
    rw [hhalf.half]
    exact scopeTiles_of (State.endPending_kept (sameTiles_kept s) (sameTiles_keptV s) rfl)
      (State.endPending_kept (sameFabric_kept s) (sameFabric_keptV s) rfl)
  have hword : (s.calAborted h).regAt p 0x2012 0x03 =
      (e.markRunning (e.scopeTiles h (e.half h).calWord) false).regAt p 0x2012 0x03 :=
    State.regAt_modHalf.trans (sameObject_put calIndex_ne.symm _ _)
  unfold State.valAt
  rw [hword, markRunning_running, if_pos (hscope ▸ hp)]
  rfl

/-! ### The commands -/

/-- A calibration command whose verdict is to begin: what shows of it, whatever it takes into the solver. -/
theorem calibration_begins {P : State → Prop} (hc : exec c s = s.put! x via (calIndex h) 0x01 [v])
    (hroom : s.ticketRoom = true) (hadm : admits s via (calIndex h) 0x01 [v] = true) (hn : n < 2 ^ 32)
    (hact : (arrival s via (calIndex h) 0x01).actCalibration h v x.meas =
      (arrival s via (calIndex h) 0x01).beginCal h v.toNat n x.meas)
    (hP : ∀ (t : State) (beat : Nat), t.half h =
      { { s.half h with lastBeat := beat }.takeRaw (s.val 0x2002 0x05) x.meas with calWord := v.toNat } → P t) :
    Defers c s via (calIndex h) 0x01 [v] (fun t =>
      t.val (calIndex h) 0x02 = n ∧ t.val (calIndex h) 0x03 = (s.scopeTiles h v.toNat).length ∧
      t.val (calIndex h) 0x04 = 0 ∧ (t.half h).calWord = v.toNat ∧
      (∀ p ∈ s.scopeTiles h v.toNat, t.valAt p 0x2012 0x03 = 1) ∧ P t ∧
      SameHbm s t ∧ SameCtxs s t ∧ SameTiles s t) := by
  have hscope : (arrival s via (calIndex h) 0x01).scopeTiles h v.toNat = s.scopeTiles h v.toNat :=
    scopeTiles_of arrival_tiles arrival_fabric
  rw [State.beginCal, hscope] at hact
  refine defers_of hc hadm (arrival_ticketRoom.trans hroom) ((verdict_calibration hadm).trans hact) ?_
  let b := (arrival s via (calIndex h) 0x01).issue (.action (calIndex h) 0x01 0)
    (Config.estimate (dkey n (calIndex h) 0x01)) (requesterOf via.path)
  have hhalf : (b.calBegun h v.toNat n (s.scopeTiles h v.toNat) x.meas).half h =
      { { s.half h with lastBeat := ((arrival s via (calIndex h) 0x01).half h).lastBeat }.takeRaw (s.val 0x2002 0x05)
        x.meas with calWord := v.toNat } := by
    have hmean : b.val 0x2002 0x05 = s.val 0x2002 0x05 := arrival_sameObject.val _
    rw [calBegun_half, hmean, ← arrival_half]
    cases h <;> rfl
  obtain ⟨hstate, htotal, hdone⟩ := calShown_val (s := b) (h := h) hn
    (scopeTiles_length (s := s) (h := h) (w := v.toNat))
  refine ⟨?_, ?_, ?_, congrArg HalfCtl.calWord hhalf, fun p hp => ?_, hP _ _ hhalf, ?_, ?_, ?_⟩
  · rw [(calBegun_object calIndex_ne).val, hstate]
  · rw [(calBegun_object calIndex_ne).val, htotal]
  · rw [(calBegun_object calIndex_ne).val, hdone]
  · exact congrArg BitVec.toNat (markRunning_running.trans (if_pos hp))
  · exact calBegun_kept (sameHbm_keptH s) (sameHbm_keptA s) issued_sameHbm
  · exact calBegun_kept (sameCtxs_keptH s) (sameCtxs_keptA s) arrival_ctxs
  · exact calBegun_kept (sameTiles_keptH s) (sameTiles_keptA s) arrival_tiles

theorem calibration_refused (hc : exec c s = s.put! x via (calIndex h) 0x01 [v])
    (hroom : s.ticketRoom = true) (hadm : admits s via (calIndex h) 0x01 [v] = true)
    (hact : (arrival s via (calIndex h) 0x01).actCalibration h v x.meas = .refuse 0x3001 0) :
    Refuses c s via (calIndex h) 0x01 0x3001 := by
  refine refuses_of hc hadm ((verdict_calibration hadm).trans hact) (by decide) ?_
  unfold ticketFirst
  rw [arrival_ticketRoom, hroom, Bool.or_true, Bool.true_or]

theorem calAbort_takes (hadm : admits s via (calIndex h) 0x01 [calWordOf value 3] = true)
    (hruns : s.val (calIndex h) 0x02 ≠ 0) :
    Takes (.calAbort via h value) s via (calIndex h) 0x01 [calWordOf value 3] (fun t => t.val (calIndex h) 0x02 = 0 ∧
      (∀ p ∈ s.scopeTiles h (s.half h).calWord, t.valAt p 0x2012 0x03 = 0) ∧
      SameHbm s t ∧ SameCtxs s t ∧ SameTiles s t) := by
  let a := arrival s via (calIndex h) 0x01
  have hruns' : a.val (calIndex h) 0x02 ≠ 0 := by rwa [arrival_sameObject.val]
  have hscope : a.scopeTiles h (a.half h).calWord = s.scopeTiles h (s.half h).calWord := by
    rw [arrival_half]
    exact scopeTiles_of arrival_tiles arrival_fabric
  refine takes_of (x := Aux.none) rfl hadm ((verdict_calibration hadm).trans (actCalibration_aborts
    (calStep_calWordOf (by decide)) (calFields_admitted hadm) hruns')) ⟨calAborted_val, fun p hp =>
      calAborted_running (hscope ▸ hp), ?_, ?_, ?_⟩
  · exact calAborted_kept (sameHbm_kept s) (sameHbm_keptH s) (sameHbm_keptV s) (sameHbm_keptA s)
      ⟨arrival_hbm0, arrival_hbm1⟩
  · exact calAborted_kept (sameCtxs_kept s) (sameCtxs_keptH s) (sameCtxs_keptV s) (sameCtxs_keptA s) arrival_ctxs
  · exact calAborted_kept (sameTiles_kept s) (sameTiles_keptH s) (sameTiles_keptV s) (sameTiles_keptA s) arrival_tiles

/-- Settles O38: each command by its verdict on the state that it arrives in. -/
theorem calibrationCommandsBegin : Obligations.CalibrationCommandsBegin := by
  unfold Obligations.CalibrationCommandsBegin
  intro s via h value zs fs i w ready begins hroom
  have hpending {j : Nat} (hpend : s.pendingOn j 0x01 0 = none) : (arrival s via i 0x01).pendingOn j 0x01 0 = none := by
    unfold State.pendingOn
    rwa [arrival_tickets]
  have hscope {k : Nat} : (arrival s via i 0x01).scopeTiles h (w k) = s.scopeTiles h (w k) :=
    scopeTiles_of arrival_tiles arrival_fabric
  have hstate : (arrival s via i 0x01).val i 0x02 = s.val i 0x02 := arrival_sameObject.val _
  have hword : ((arrival s via i 0x01).half h).calWord = (s.half h).calWord := by rw [arrival_half]
  refine ⟨fun hadm hpend => ⟨fun htiles => ?_, fun htiles => ?_⟩,
    fun hadm => ⟨fun hwaits hplace hsame => ?_, fun hwaits => ?_⟩, fun hadm hpend htiles => ?_,
    fun hadm => ⟨fun hruns => ?_, fun hidle => ?_⟩⟩
  · exact calibration_begins (x := { Aux.none with meas := .zero zs }) rfl hroom hadm (by decide)
      (actCalibration_begins (.inl rfl) (calStep_calWordOf (by decide)) (calFields_admitted hadm) (hpending hpend)
        (hscope ▸ htiles)) fun t beat hhalf => by rw [hhalf]; exact ⟨rfl, rfl⟩
  · exact calibration_refused (x := { Aux.none with meas := .zero zs }) rfl hroom hadm
      (actCalibration_scopeless (.inl rfl) (calStep_calWordOf (by decide)) (calFields_admitted hadm) (hpending hpend)
        (hscope.trans htiles))
  · exact calibration_begins (x := { Aux.none with meas := .full fs }) rfl hroom hadm (by decide)
      (actCalibration_full (calStep_calWordOf (by decide)) (calFields_admitted hadm) (hstate.trans hwaits)
        (hword ▸ hplace) (hword ▸ hsame)) fun t beat hhalf => by rw [hhalf]; exact ⟨rfl, rfl⟩
  · exact calibration_refused (x := { Aux.none with meas := .full fs }) rfl hroom hadm
      (actCalibration_fullEarly (calStep_calWordOf (by decide)) (calFields_admitted hadm) (hstate ▸ hwaits))
  · exact calibration_begins (x := Aux.none) rfl hroom hadm (by decide)
      (actCalibration_begins (.inr rfl) (calStep_calWordOf (by decide)) (calFields_admitted hadm) (hpending hpend)
        (hscope ▸ htiles)) fun _ _ _ => trivial
  · exact calAbort_takes hadm hruns
  · exact calibration_refused (x := Aux.none) rfl hroom hadm
      (actCalibration_idle (calStep_calWordOf (by decide)) (calFields_admitted hadm) (hstate.trans hidle))

end Sys2Proof.Machine
end

section
/-! SUPPORT. Parts of every tile that a rewrite of its cells and a retirement leave (R13 to R16, R188). -/

namespace Sys2Proof.Machine

open Sys2Proof Sys2Proof.Safety

variable {s t v : State} {p q l row : Nat} {α : Type} {g : Tile → α} {f : Tile → Tile} {x : Tile}

/-! ### Parts of every tile -/

theorem tile_setTile : (s.setTile x).tile p = if p = x.addr then x else s.tile p := by
  unfold State.tile
  rw [State.setTile_tiles]
  split
  · next h => rw [h, find?_replaceBy_self (by simp), Option.getD_some]
  · next h =>
    rw [find?_replaceBy_of_not (by simpa using Ne.symm h)]
    intro y hy
    rw [beq_iff_eq] at hy
    simpa [hy] using Ne.symm h

/-- A part of every tile is that of `s`. -/
def SameParts (g : Tile → α) (s t : State) : Prop := ∀ p, SamePart g p s t

theorem SameParts.refl (g : Tile → α) (s : State) : SameParts g s s := fun p => SamePart.refl g p s

theorem SameParts.trans (h : SameParts g s t) (h' : SameParts g t v) : SameParts g s v := fun p => (h p).trans (h' p)

theorem SameParts.of_tiles (h : SameTiles s t) : SameParts g s t := fun _ => SamePart.of_tiles h

theorem setTile_parts (hx : g x = g (s.tile x.addr)) : SameParts g s (s.setTile x) := by
  intro p
  unfold SamePart
  rw [tile_setTile]
  split
  · next h => rw [h, hx]
  · rfl

theorem modTile_parts (hf : ∀ x, (f x).addr = x.addr) (hg : ∀ x, g (f x) = g x) : SameParts g s (s.modTile p f) :=
  setTile_parts (by rw [hf, State.tile_addr]; exact hg _)

theorem fieldRepair_parts {unit cls : Nat} : SameParts g s (s.fieldRepair l unit cls) :=
  SameParts.of_tiles (State.fieldRepair_kept (P := SameTiles s) (sameTiles_kept s) (sameTiles_keptA s).toD rfl)

/-! ### Cells and their read-back (R166, R325) -/

/-- A part of a tile beside its array: no cell, no cell's count, nothing measured of cells, no read-back. -/
def BesideArray (g : Tile → α) : Prop := ∀ (x : Tile) cells stored measured shadow shadowB8,
  g { x with cells := cells, stored := stored, measured := measured, shadow := shadow, shadowB8 := shadowB8 } = g x

theorem addr_beside : BesideArray Tile.addr := fun _ _ _ _ _ _ => rfl

section Array

variable (hg : BesideArray g)

include hg

theorem nominal_beside {row e : Nat} : g (x.nominal row e) = g x := hg x _ _ _ _ _

theorem bothBanks_beside {row : Nat} : g (x.bothBanks row) = g x := bothBanks_part fun x _ _ => hg x _ _ _ _ _

theorem countRow_parts : SameParts g s (s.countRow p row) := by
  have hnoted {n : Nat} {w : Word} : SameParts g s ((s.putAt (rowUnit p row) 0x4003 0x03 w).noteRowCount p n) :=
    SameParts.of_tiles (State.noteRowCount_kept (P := SameTiles s) (sameTiles_keptA s).toD State.putAt_tiles)
  unfold State.countRow
  dsimp only
  split
  · exact hnoted.trans (modTile_parts (fun _ => rfl) fun x => hg x _ _ _ _ _)
  · exact hnoted

theorem pulseRow_parts {levels : List (Nat × Nat)} {again : List Nat} {counts : Bool} :
    SameParts g s (s.pulseRow p row levels again counts) := by
  have hpulsed {hit : List (Nat × Nat)} : SameParts g s
      ((s.modTile p (fun x => hit.foldl (fun x e => x.setLevel row e.1 e.2) x)).add64At p 0x4001 0x10 hit.length) :=
    (modTile_parts (fun _ => setLevels_part (fun x _ _ => addr_beside x _ _ _ _ _) hit) fun _ =>
      setLevels_part (fun x _ _ => hg x _ _ _ _ _) hit).trans (SameParts.of_tiles State.add64At_tiles)
  unfold State.pulseRow
  dsimp only
  split
  · exact hpulsed.trans (countRow_parts hg)
  · exact hpulsed

theorem nominals_parts {es : List Nat} :
    SameParts g s (s.modTile p (fun x => es.foldl (fun x e => x.nominal row e) x)) :=
  modTile_parts (fun x => foldl_part (fun _ _ => nominal_beside addr_beside) es x) fun x =>
    foldl_part (fun _ _ => nominal_beside hg) es x

theorem rewriteRow_parts : SameParts g s (s.rewriteRow p row) := (pulseRow_parts hg).trans (nominals_parts hg)

/-- Rows read back into both banks. -/
theorem shadowAll_parts : SameParts g s (s.shadowAll p false) := by
  refine Kept.foldl (P := SameParts g s) (fun t r ht => ht.trans ?_) (SameParts.refl g s)
  unfold State.shadowRow
  split
  · exact SameParts.refl g t
  · exact modTile_parts (fun _ => bothBanks_beside addr_beside) fun _ => bothBanks_beside hg

theorem rewriteTile_parts : SameParts g s (s.rewriteTile p false) := by
  unfold State.rewriteTile
  split
  · exact SameParts.refl g s
  · exact SameParts.trans (Kept.foldl (P := SameParts g s) (fun _ _ ht => ht.trans (rewriteRow_parts hg))
      (SameParts.refl g s)) (shadowAll_parts hg)

end Array

/-! ### Swaps that wait (R228) -/

/-- Every tile awaits the swaps that it awaits in `s`. -/
abbrev SameSwaps (s t : State) : Prop := SameParts Tile.swapDue s t

theorem swapDue_beside : BesideArray Tile.swapDue := fun _ _ _ _ _ _ => rfl

theorem moveTile_swaps : SameSwaps s (s.moveTile p q false) := by
  have htaken : SameSwaps s (s.setTile ((s.tile p).contentTo (s.tile q))) :=
    setTile_parts (congrArg (fun a => (s.tile a).swapDue) State.tile_addr.symm)
  have hvacated {b : State} : SameSwaps b (b.setTile { (b.tile p).vacant with unusable := true }) :=
    setTile_parts (congrArg (fun a => (b.tile a).swapDue) State.tile_addr.symm)
  have hcopied {b : State} : SameSwaps b (b.copySurround p q) :=
    SameParts.of_tiles (State.copySurround_kept (P := SameTiles b) (sameTiles_keptA b).toD rfl)
  exact ((htaken.trans hvacated).trans hcopied).trans (rewriteTile_parts swapDue_beside)

theorem spareCheck_swaps {h c : Nat} : SameSwaps s (s.spareCheck h c) :=
  SameParts.of_tiles (State.spareCheck_kept (P := SameTiles s) (sameTiles_keptA s).toD rfl)

theorem markUnusable_swaps : SameSwaps s (s.markUnusable p) := by
  have hfail {b : State} {u : Nat} : SameSwaps b (b.failUsers u) :=
    SameParts.of_tiles (State.failUsers_kept (P := SameTiles b) (sameTiles_kept b) (sameTiles_keptC b) rfl)
  have hset : SameSwaps s (s.modTile p (fun t => { t with unusable := true, doomed := false })) :=
    modTile_parts (fun _ => rfl) fun _ => rfl
  have hmarked {y : Fabric} {c : Prop} [Decidable c] {b : State} (hb : SameSwaps s b) :
      SameSwaps s (if c then b else { b with fabric := y }) :=
    kept_ite (P := SameSwaps s) hb (hb.trans (SameParts.of_tiles rfl))
  unfold State.markUnusable
  exact (hmarked (hset.trans hfail)).trans spareCheck_swaps

theorem mapTile_swaps : SameSwaps s (s.mapTile l q) :=
  SameParts.of_tiles (State.mapTile_kept (P := SameTiles s) (sameTiles_kept s) (sameTiles_keptB s)
    (sameTiles_keptA s).toD rfl)

theorem seatOnSpare_swaps {src : Option Nat} : SameSwaps s (s.seatOnSpare l src) := by
  have hmapped {y : Fabric} {c : Prop} [Decidable c] : SameSwaps s (if c then s else { s with fabric := y }) :=
    kept_ite (P := SameSwaps s) (SameParts.refl _ s) (SameParts.of_tiles rfl)
  unfold State.seatOnSpare
  dsimp only
  split
  · exact SameParts.of_tiles rfl
  · split
    · exact hmapped.trans moveTile_swaps
    · exact hmapped

theorem takeSpareCourse_swaps {h c : Nat} : SameSwaps s (s.takeSpareCourse h c) := by
  have hlost {b : State} {units : List Nat} (hb : SameSwaps s b) :
      SameSwaps s (units.foldl (fun t p => t.markUnusable p) b) :=
    Kept.foldl (P := SameSwaps s) (fun _ _ ht => ht.trans markUnusable_swaps) hb
  unfold State.takeSpareCourse
  refine SameParts.trans (Kept.foldl (P := SameSwaps s) (fun _ _ ht => ht.trans seatOnSpare_swaps) (hlost ?_))
    spareCheck_swaps
  exact SameParts.of_tiles rfl

theorem retireTile_swaps : SameSwaps s (s.retireTile l false) := by
  unfold State.retireTile
  split
  · exact SameParts.refl _ s
  · next p _ =>
    split
    · refine SameParts.trans (SameParts.trans ?_ markUnusable_swaps) mapTile_swaps
      exact setTile_parts (congrArg (fun a => (s.tile a).swapDue) State.tile_addr.symm)
    · exact (moveTile_swaps.trans markUnusable_swaps).trans mapTile_swaps
    · split
      · exact takeSpareCourse_swaps
      · exact markUnusable_swaps.trans (SameParts.of_tiles rfl)

theorem retireUnit_swaps : SameSwaps s (s.retireUnit p) := by
  unfold State.retireUnit
  split
  · exact modTile_parts (fun _ => rfl) fun _ => rfl
  · split
    · exact retireTile_swaps.trans fieldRepair_parts
    · exact markUnusable_swaps

end Sys2Proof.Machine
end

section
/-! PROOF. O39: a calibration run ends, and ZERO's results expire (R224). -/

namespace Sys2Proof.Machine

open Sys2Proof Sys2Proof.Safety

variable {s t : State} {h : HalfId} {seen : List RowSeen} {n : Nat} {tiles : List Nat} {k : Ticket}

/-! ### A step that ends -/

/-- A calibration step has ended: its tiles are done and run no more, and the command that waited for it has its
answer. -/
def State.calFinished (s : State) (h : HalfId) (tiles : List Nat) (n : Nat) : State :=
  (((s.put (calIndex h) 0x02 n).put (calIndex h) 0x04 tiles.length).markRunning tiles false).endPending
    (calIndex h) 0x01 0 0x0000

theorem calFinished_val (hn : n < 2 ^ 32) : (s.calFinished h tiles n).val (calIndex h) 0x02 = n := by
  have hended {b : State} {i : Nat} : SameObject i b (b.endPending (calIndex h) 0x01 0 0x0000) :=
    State.endPending_kept (sameObject_kept i b) (sameObject_keptV i b) (SameObject.refl i b)
  unfold State.calFinished
  rw [hended.val, (markRunning_sameObject calIndex_ne).val]
  exact (congrArg BitVec.toNat (State.reg_put_ne (by decide))).trans (State.val_put_self hn)

/-- The command that waited for the step ends with 0x0000. -/
theorem calFinished_answers (hk : s.pendingOn (calIndex h) 0x01 0 = some k) :
    ∃ x ∈ (s.calFinished h tiles n).svc.tickets, x.num = k.num ∧ x.status = some 0x0000 := by
  have hsvc : SameSvc s (((s.put (calIndex h) 0x02 n).put (calIndex h) 0x04 tiles.length).markRunning tiles false) :=
    State.markRunning_kept (sameSvc_keptA s).toD (State.put_kept ((sameSvc_keptA s).mem _)
      (State.put_kept ((sameSvc_keptA s).mem _) rfl))
  exact endPending_ends ((pendingOn_of_svc hsvc).trans hk)

theorem calFinished_tiles : SameTiles s (s.calFinished h tiles n) :=
  State.endPending_kept (sameTiles_kept s) (sameTiles_keptV s) (State.markRunning_kept (sameTiles_keptA s).toD
    (State.put_kept ((sameTiles_keptA s).mem _) (State.put_kept ((sameTiles_keptA s).mem _) rfl)))

/-! ### CAL_RUN_COMPLETE -/

theorem calRunEnds_zero (hstate : s.val (calIndex h) 0x02 = 1) :
    s.calRunEnds h seen = s.calFinished h (s.scopeTiles h (s.half h).calWord) 2 := by
  unfold State.calRunEnds
  dsimp only
  rw [hstate]
  rfl

/-- FULL and a refresh end idle, whatever they have made of their tiles. -/
theorem calRunEnds_idle (hstate : s.val (calIndex h) 0x02 = 3 ∨ s.val (calIndex h) 0x02 = 4) :
    ∃ b : State, s.calRunEnds h seen =
      (b.calFinished h (s.scopeTiles h (s.half h).calWord) 0).modHalf h HalfCtl.noCal := by
  unfold State.calRunEnds
  dsimp only
  rcases hstate with e | e <;> rw [e] <;> exact ⟨_, rfl⟩

theorem exec_calRunComplete (hp : s.key.powered = true) (hmay : s.calMayEnd h = true) :
    exec (.calRunComplete h seen) s = .next (s.calRunEnds h seen) := by
  change execCalRunComplete h seen s = _
  unfold execCalRunComplete
  rw [onPower_on hp, if_pos hmay]

theorem calRunComplete_hbm (hexec : exec (.calRunComplete h seen) s = .next t) : SameHbm s t :=
  execCalRunComplete_kept (sameHbm_kept s) (sameHbm_keptC s) (sameHbm_keptT s) (sameHbm_keptH s) (sameHbm_keptV s)
    (sameHbm_keptB s) (sameHbm_keptA s).toD ⟨rfl, rfl⟩ _ hexec

theorem calRunComplete_zero (hp : s.key.powered = true) (hmay : s.calMayEnd h = true)
    (hstate : s.val (calIndex h) 0x02 = 1) : Reaches (.calRunComplete h seen) s (fun t =>
      t.val (calIndex h) 0x02 = 2 ∧ SameTiles s t ∧ SameHbm s t ∧
      ∀ k, s.pendingOn (calIndex h) 0x01 0 = some k → ∃ x ∈ t.svc.tickets, x.num = k.num ∧ x.status = some 0x0000) := by
  have hexec := (exec_calRunComplete (seen := seen) hp hmay).trans (congrArg _ (calRunEnds_zero hstate))
  exact ⟨_, hexec, calFinished_val (by decide), calFinished_tiles, calRunComplete_hbm hexec,
    fun k hk => calFinished_answers hk⟩

theorem calRunComplete_idle (hp : s.key.powered = true) (hmay : s.calMayEnd h = true)
    (hstate : s.val (calIndex h) 0x02 = 3 ∨ s.val (calIndex h) 0x02 = 4) : Reaches (.calRunComplete h seen) s (fun t =>
      t.val (calIndex h) 0x02 = 0 ∧ (t.half h).calWord = 0 ∧ (t.half h).calZero = [] ∧ SameHbm s t) := by
  obtain ⟨b, hends⟩ := calRunEnds_idle (seen := seen) hstate
  have hexec := (exec_calRunComplete (seen := seen) hp hmay).trans (congrArg _ hends)
  refine ⟨_, hexec, (congrArg BitVec.toNat State.regAt_modHalf).trans (calFinished_val (by decide)), ?_, ?_,
    calRunComplete_hbm hexec⟩
  · rw [State.half_modHalf_self]
    rfl
  · rw [State.half_modHalf_self]
    rfl

/-! ### ZERO_RESULT_EXPIRE -/

theorem zeroResultExpire_discards (hp : s.key.powered = true) (hstate : s.val (calIndex h) 0x02 = 2) :
    Reaches (.zeroResultExpire h) s (fun t => t.val (calIndex h) 0x02 = 0 ∧ (t.half h).calZero = [] ∧
      OnlySubs (calIndex h) [0x02] s t ∧ OnlyIn [calIndex h] s t ∧ SameTiles s t) := by
  have hexec : exec (.zeroResultExpire h) s = .next ((s.put (calIndex h) 0x02 0).modHalf h HalfCtl.noCal) := by
    change execZeroResultExpire h s = _
    unfold execZeroResultExpire
    rw [onPower_on hp, if_pos hstate]
  have hput {i : Nat} : SameObject i (s.put (calIndex h) 0x02 0)
      ((s.put (calIndex h) 0x02 0).modHalf h HalfCtl.noCal) := fun _ _ => State.regAt_modHalf
  refine ⟨_, hexec, ?_, ?_, (onlySubs_put (OnlySubs.refl _ _ s) (by decide)).of_object hput, ?_, State.modHalf_tiles⟩
  · rw [hput.val, State.val_put_self (by decide)]
  · rw [State.half_modHalf_self]
    rfl
  · exact onlyIn_of_keptD (by cases h <;> decide) fun i kd =>
      SameObject.trans (State.put_kept (kd.mem (by simp)) (SameObject.refl i s)) hput

end Sys2Proof.Machine
end

section
/-! PROOF. O39: the words of a tile's calibration that a result and a monitor write, and the monitors (R228, R230,
R233). -/

namespace Sys2Proof.Machine

open Sys2Proof Sys2Proof.Safety

variable {s t : State} {p b n g gain off : Nat} {urgent : Bool}

/-! ### A tile's calibration state -/

/-- The counts of due and urgent tiles are the half's (0x2000.05, .06). -/
theorem setCalState_object {i : Nat} (hi : i % 65536 ≠ 0x2000 ∧ i % 65536 ≠ 0x2001) :
    SameObject i (s.putAt p 0x2012 0x02 (toWord n)) (s.setCalState p n) :=
  State.countDue_kept (sameObject_keptD _ (by simpa using hi)) (SameObject.refl i _)

theorem setCalState_subs : OnlySubs 0x2012 [0x02] s (s.setCalState p n) :=
  (onlySubs_putAt (OnlySubs.refl _ _ s) (by decide)).of_object (setCalState_object (by decide))

theorem calState_setCalState (hn : n < 2 ^ 32) : (s.setCalState p n).calState p = n := by
  unfold State.calState State.valAt
  rw [setCalState_object (by decide), State.regAt_putAt_self, toWord_toNat hn]

theorem OnlySubs.valAt {i u sub : Nat} {l : List Nat} (h : OnlySubs i l s t) (hsub : sub < 256 ∧ sub ∉ l) :
    t.valAt u i sub = s.valAt u i sub := congrArg BitVec.toNat (h u sub hsub.1 hsub.2)

theorem OnlySubs.calState {l : List Nat} (h : OnlySubs 0x2012 l s t) (hsub : 0x02 ∉ l) : t.calState p = s.calState p :=
  OnlySubs.valAt h ⟨by decide, hsub⟩

/-! ### Monitors (R233) -/

/-- A bit set reads back. -/
theorem flagAt_putBitAt_self {u i sub : Nat} (hb : b < 32) : (s.putBitAt u i sub b true).flagAt u i sub b = true := by
  unfold State.flagAt State.putBitAt
  rw [State.regAt_putAt_self]
  unfold bit toWord
  rw [BitVec.getLsbD_ofNat, testBit_putBit, if_pos rfl, decide_eq_true hb, Bool.and_self]

/-- A tile that is calibrated or restored becomes due or urgent. -/
theorem monitor_calibrated (hst : s.calState p = 1 ∨ s.calState p = 2) : s.monitor p b urgent =
    (s.putBitAt p 0x2012 0x04 b true).setCalState p (if urgent then 4 else 3) := by
  have hplain : (urgent = true ∨ s.calState p = 4) = (urgent = true) :=
    propext (or_iff_left (by omega))
  unfold State.monitor
  dsimp only
  rw [if_neg (by omega)]
  simp only [hplain]

theorem monitor_calState (hst : s.calState p = 1 ∨ s.calState p = 2) :
    (s.monitor p b urgent).calState p = if urgent then 4 else 3 := by
  rw [monitor_calibrated hst]
  exact calState_setCalState (by split <;> decide)

theorem monitor_flag (hst : s.calState p = 1 ∨ s.calState p = 2) (hb : b < 32) :
    (s.monitor p b urgent).flagAt p 0x2012 0x04 b = true := by
  rw [monitor_calibrated hst]
  exact (congrArg (bit · b) (setCalState_subs p 0x04 (by decide) (by decide))).trans (flagAt_putBitAt_self hb)

theorem monitor_subs : OnlySubs 0x2012 [0x02, 0x04] s (s.monitor p b urgent) := by
  unfold State.monitor
  dsimp only
  split
  · exact OnlySubs.refl _ _ s
  · exact (onlySubs_putAt (OnlySubs.refl _ _ s) (by decide)).trans (onlySubs_mono setCalState_subs (by decide))

/-! ### PROBE -/

/-- The probe's error is shown (0x2012.29). -/
def State.probeShown (s : State) (p gain off : Nat) : State :=
  s.putAt p 0x2012 0x29 (toWord (min 0xFFFF gain * 65536 + min 0xFFFF off))

theorem probeShown_val {sub : Nat} : (s.probeShown p gain off).val 0x2002 sub = s.val 0x2002 sub :=
  SameObject.val (State.putAt_kept (sameObject_at (by decide)) (SameObject.refl _ s)) sub

theorem probeShown_calState : (s.probeShown p gain off).calState p = s.calState p :=
  OnlySubs.calState (onlySubs_putAt (OnlySubs.refl _ [0x29] s) (by decide)) (by decide)

/-- Beside the error shown, a probe writes what its monitor does. -/
theorem probed_subs : OnlySubs 0x2012 [0x02, 0x04] (s.probeShown p gain off) (s.probed p gain off) := by
  unfold State.probed
  dsimp only
  repeat' split
  case isFalse.isFalse => exact OnlySubs.refl _ _ _
  all_goals exact monitor_subs

theorem probed_urgent (hst : s.calState p = 1 ∨ s.calState p = 2) (hgain : s.val 0x2002 0x07 ≤ gain) :
    (s.probed p gain off).calState p = 4 := by
  have hurgent : s.probed p gain off = (s.probeShown p gain off).monitor p 1 true :=
    if_pos (.inl (probeShown_val.trans_le hgain))
  rw [hurgent]
  exact monitor_calState (by rwa [probeShown_calState])

theorem probed_quiet (hgain : 2 * gain < s.val 0x2002 0x07) (hoff : 2 * off < s.val 0x2002 0x08) :
    (s.probed p gain off).calState p = s.calState p := by
  have hquiet : s.probed p gain off = s.probeShown p gain off := by
    rw [← probeShown_val (p := p) (gain := gain) (off := off)] at hgain hoff
    exact (if_neg (by unfold State.probeShown at hgain hoff; omega)).trans
      (if_neg (by unfold State.probeShown at hgain hoff; omega))
  rw [hquiet, probeShown_calState]

theorem probe_shows (hp : s.key.powered = true) (hruns : s.runs (halfOf (tileHalf p)) = true) (hgap : s.gap p = true)
    (hrole : s.tileRole p ≤ 2) (hsan : s.inSanitize p = false) : Reaches (.probe p gain off) s (fun t =>
      t.regAt p 0x2012 0x29 = toWord (min 0xFFFF gain * 65536 + min 0xFFFF off) ∧
      ((s.calState p = 1 ∨ s.calState p = 2) → (s.val 0x2002 0x07 ≤ gain → t.calState p = 4) ∧
        (2 * gain < s.val 0x2002 0x07 → 2 * off < s.val 0x2002 0x08 → t.calState p = s.calState p)) ∧
      OnlyIn [0x2000, 0x2001, 0x2012] s t ∧ SameTiles s t ∧ SameHbm s t) := by
  have hexec : exec (.probe p gain off) s = .next (s.probed p gain off) := by
    change execProbe p gain off s = _
    unfold execProbe
    rw [onPower_on hp, if_pos (by simp [hruns, hgap, hrole, hsan])]
  refine ⟨_, hexec, (probed_subs p 0x29 (by decide) (by decide)).trans State.regAt_putAt_self,
    fun hst => ⟨probed_urgent hst, probed_quiet⟩, ?_, ?_, ?_⟩
  · exact onlyIn_of_keptD (by decide) fun i kd => State.probed_kept kd (SameObject.refl i s)
  · exact State.probed_kept (P := SameTiles s) (sameTiles_keptA s).toD rfl
  · exact State.probed_kept (P := SameHbm s) (sameHbm_keptA s).toD ⟨rfl, rfl⟩

/-! ### DRIFT_MONITOR -/

theorem driftMonitor_marks (hp : s.key.powered = true) (hb : b ≤ 4) (hst : s.calState p = 1 ∨ s.calState p = 2) :
    Reaches (.driftMonitor p b urgent) s (fun t => t.flagAt p 0x2012 0x04 b = true ∧
      t.calState p = (if b = 2 then 4 else if b = 3 then 3 else if urgent then 4 else 3) ∧
      OnlyIn [0x2000, 0x2001, 0x2012] s t ∧ SameTiles s t ∧ SameHbm s t) := by
  have hexec : exec (.driftMonitor p b urgent) s =
      .next (s.monitor p b (if b = 2 then true else if b = 3 then false else urgent)) := by
    change execDriftMonitor p b urgent s = _
    unfold execDriftMonitor
    rw [onPower_on hp, if_neg (by omega)]
  refine ⟨_, hexec, monitor_flag hst (by omega), (monitor_calState hst).trans (by split_ifs <;> simp_all), ?_, ?_, ?_⟩
  · exact onlyIn_of_keptD (by decide) fun i kd => State.monitor_kept kd (SameObject.refl i s)
  · exact State.monitor_kept (P := SameTiles s) (sameTiles_keptA s).toD rfl
  · exact State.monitor_kept (P := SameHbm s) (sameHbm_keptA s).toD ⟨rfl, rfl⟩

end Sys2Proof.Machine
end

section
/-! PROOF. O39: COLUMN_SWAP (R228, R230). -/

namespace Sys2Proof.Machine

open Sys2Proof Sys2Proof.Safety

variable {s t : State} {p g n : Nat} {e : SwapDue} {o : GroupSol} {meas : GroupRaw}

/-! ### A tile is settled (R230) -/

theorem retireUnit_object {i : Nat} (hi : [0x0080, 0x4001, 0x4003, 0x4005, 0x4010, 0x4012, 0x4021, 0x5020, 0x7040,
    0xF030].all (fun j => i % 65536 != j % 65536) = true) : SameObject i s (s.retireUnit p) :=
  sameObject_of_keptD hi fun kd => State.retireUnit_kept (sameObject_kept i s) (sameObject_keptC i s)
    (sameObject_keptT i s) (sameObject_keptB i s) kd (SameObject.refl i s)

/-- Of a tile's calibration words settling writes the state. -/
theorem settleTile_subs : OnlySubs 0x2012 [0x02] s (s.settleTile p) := by
  unfold State.settleTile
  dsimp only
  split
  · exact setCalState_subs
  · split
    · exact setCalState_subs.of_object (retireUnit_object (by decide))
    · exact setCalState_subs

theorem settleTile_swaps : SameSwaps s (s.settleTile p) := by
  have hstate {b : State} {n : Nat} : SameSwaps b (b.setCalState p n) :=
    SameParts.of_tiles (State.setCalState_kept (P := SameTiles b) (sameTiles_keptA b).toD rfl)
  unfold State.settleTile
  dsimp only
  split
  · exact hstate
  · split
    · exact hstate.trans retireUnit_swaps
    · exact hstate

theorem landSet_swaps : SameSwaps s (s.landSet p) := by
  have hdirty {b : State} {d : Bool} : SameSwaps b (b.modTile p (fun t => { t with dirty := d })) :=
    modTile_parts (fun _ => rfl) fun _ => rfl
  have hcopied {b : State} : SameSwaps b ((b.copySet p).bumpAt p 0x4010 0x30) :=
    SameParts.of_tiles (State.bumpAt_kept (P := SameTiles b) ((sameTiles_keptA b).mem _)
      (State.copySet_kept (sameTiles_keptA b).toD rfl))
  unfold State.landSet State.switchSet
  dsimp only
  split
  · exact hdirty
  · split
    · exact (hdirty.trans hcopied).trans hdirty
    · exact hdirty

/-! ### A swap that no longer waits -/

/-- The tile awaits no swap of the group. -/
def SwapGone (p g : Nat) (s : State) : Prop := (s.tile p).swapDue.find? (fun e => e.group == g) = none

theorem find?_otherGroups {l : List SwapDue} :
    (l.filter (fun e => e.group != g)).find? (fun e => e.group == g) = none := by
  rw [List.find?_eq_none]
  intro e he
  simpa using (List.mem_filter.mp he).2

theorem SwapGone.of_swaps (h : SwapGone p g s) (hs : SameSwaps s t) : SwapGone p g t :=
  (congrArg (List.find? fun e : SwapDue => e.group == g) (hs p)).trans h

theorem swapGone_modTile {f : Tile → Tile} (hf : ∀ x, (f x).addr = x.addr)
    (hg : ∀ x, (f x).swapDue = x.swapDue.filter (fun e => e.group != g)) : SwapGone p g (s.modTile p f) := by
  unfold SwapGone
  rw [tile_modTile_self hf, hg]
  exact find?_otherGroups

theorem noSwap_gone : SwapGone p g (s.noSwap p g) := swapGone_modTile (fun _ => rfl) fun _ => rfl

/-- A group that calibrates again after a swap awaits none, be it accepted or rejected. -/
theorem applyGroup_gone (h : SwapGone p g s) : SwapGone p g (s.applyGroup p g o false) := by
  unfold State.applyGroup
  dsimp only
  split
  · exact swapGone_modTile (fun _ => rfl) fun _ => rfl
  · split
    · exact swapGone_modTile (fun _ => rfl) fun x => List.append_nil _
    · exact h.of_swaps (SameParts.of_tiles (State.putAt_kept (P := SameTiles s) ((sameTiles_keptA s).mem _)
        (State.bump_kept ((sameTiles_keptA s).mem _) rfl)))

/-! ### The command -/

/-- A swap that finds too few spare columns has ended with 0x4003. -/
def State.swapShort (s : State) (p g : Nat) : State :=
  (s.putAt p 0x2012 (0x09 + g) (groupResult 0x4003 ((s.regAt p 0x2012 (0x09 + g)).toNat % 65536))).noSwap p g

/-- A swap has been made: the worst weight column's four columns are spares', and the group has calibrated again. -/
def State.swapMade (s : State) (p g : Nat) (e : SwapDue) (meas : GroupRaw) : State :=
  let b := (s.replaceColumns p ((List.range 4).map (fun k => 68 * g + 4 * e.column + k)) false).noSwap p g
  let m := b.groupSolved (b.sliceWord p 1 (b.sliceOf p 1 g) 1) (s.val 0x2002 0x05) (s.val 0x2002 0x05) 8 meas
  b.applyGroup p g (solveGroup (b.val 0x2002 0x01) m false) false

theorem exec_columnSwap (hp : s.key.powered = true)
    (hdue : (s.tile p).swapDue.find? (fun e => e.group == g) = some e) :
    exec (.columnSwap p g meas) s = .next (if !s.swapOpen e || !s.rewriteFree p then s
      else if (s.spareColumnsFree p).length < 4 then (s.swapShort p g).settleTile p
      else ((s.swapMade p g e meas).landSet p).settleTile p) := by
  change execColumnSwap p g meas s = _
  unfold execColumnSwap
  rw [onPower_on hp, hdue]
  rfl

theorem swapShort_gone : SwapGone p g (s.swapShort p g) := noSwap_gone

theorem swapMade_gone : SwapGone p g (s.swapMade p g e meas) := applyGroup_gone noSwap_gone

theorem columnSwap_hbm (hexec : exec (.columnSwap p g meas) s = .next t) : SameHbm s t :=
  execColumnSwap_kept (sameHbm_kept s) (sameHbm_keptC s) (sameHbm_keptT s) (sameHbm_keptB s) (sameHbm_keptA s).toD
    ⟨rfl, rfl⟩ _ hexec

theorem swapShort_result (hg : g < 32) :
    ((s.swapShort p g).settleTile p).valAt p 0x2012 (0x09 + g) / 65536 = 0x4003 := by
  have hword : (s.swapShort p g).regAt p 0x2012 (0x09 + g) =
      groupResult 0x4003 ((s.regAt p 0x2012 (0x09 + g)).toNat % 65536) :=
    State.regAt_modTile.trans State.regAt_putAt_self
  have hplace : 0x09 + g < 256 ∧ 0x09 + g ∉ [0x02] := ⟨by omega, by rw [List.mem_singleton]; omega⟩
  rw [OnlySubs.valAt settleTile_subs hplace, State.valAt, hword, groupResult, toWord_toNat (by omega)]
  omega

theorem columnSwap_swaps (hp : s.key.powered = true)
    (hdue : (s.tile p).swapDue.find? (fun e => e.group == g) = some e) (hg : g < 32) (hopen : s.swapOpen e = true)
    (hfree : s.rewriteFree p = true) : Reaches (.columnSwap p g meas) s (fun t => SwapGone p g t ∧ SameHbm s t ∧
      ((s.spareColumnsFree p).length < 4 → t.valAt p 0x2012 (0x09 + g) / 65536 = 0x4003)) := by
  have hexec := exec_columnSwap (meas := meas) hp hdue
  rw [if_neg (by simp [hopen, hfree])] at hexec
  by_cases hshort : (s.spareColumnsFree p).length < 4
  · rw [if_pos hshort] at hexec
    exact ⟨_, hexec, swapShort_gone.of_swaps settleTile_swaps, columnSwap_hbm hexec, fun _ => swapShort_result hg⟩
  · rw [if_neg hshort] at hexec
    exact ⟨_, hexec, swapMade_gone.of_swaps (landSet_swaps.trans settleTile_swaps), columnSwap_hbm hexec,
      fun h => absurd h hshort⟩

theorem columnSwap_waits (hp : s.key.powered = true)
    (hdue : (s.tile p).swapDue.find? (fun e => e.group == g) = some e)
    (hwaits : s.swapOpen e = false ∨ s.rewriteFree p = false) :
    Reaches (.columnSwap p g meas) s (fun t => t = s) :=
  ⟨s, (exec_columnSwap hp hdue).trans (by rw [if_pos (by simpa using hwaits)]), rfl⟩

end Sys2Proof.Machine
end

section
/-! PROOF. O39: CAL_ESCALATE and the relocation for a step (R235, R511). -/

namespace Sys2Proof.Machine

open Sys2Proof Sys2Proof.Safety

variable {s t : State} {p q l : Nat}

/-- What a spare holds of the tile that it serves for: its records and column scales. -/
def Tile.served (x : Tile) : List (Nat × Word) × List (Nat × Word) := (x.records, x.sCol)

/-- The spare holds what the tile held, before its array is written. -/
def State.spareLoaded (s : State) (p q : Nat) : State :=
  (s.setTile { (s.tile p).contentTo (s.tile q) with
    inPass := false, paused := false, written := [], owed := 0 }).modTile p (fun t => { t with queue := [], nextQueue := [] })

theorem spareLoaded_served : ((s.spareLoaded p q).tile q).served = (s.tile p).served := by
  have hvacated {b : State} : SameParts Tile.served b
      (b.modTile p (fun t => { t with queue := [], nextQueue := [] })) :=
    modTile_parts (fun _ => rfl) fun _ => rfl
  have hloaded : ((s.setTile { (s.tile p).contentTo (s.tile q) with
      inPass := false, paused := false, written := [], owed := 0 }).tile q).served = (s.tile p).served := by
    rw [tile_setTile, if_pos]
    · rfl
    · exact State.tile_addr.symm
  exact Eq.trans (hvacated q) hloaded

theorem relocate_relocated : (s.relocate p l q).fabric.relocated = s.fabric.relocated ++ [(l, q)] := by
  have hkept : SameFabric s (((s.spareLoaded p q).copySurround p q).rewriteTile q false) :=
    State.rewriteTile_kept (sameFabric_kept s) (sameFabric_keptT s) (sameFabric_keptA s).toD
      (State.copySurround_kept (sameFabric_keptA s).toD (State.modTile_kept (sameFabric_kept s) (sameFabric_keptT s)
        State.setTile_fabric))
  exact congrArg (fun f : Fabric => f.relocated ++ [(l, q)]) hkept

theorem relocate_served : ((s.relocate p l q).tile q).served = (s.tile p).served := by
  have hcopied {b : State} : SameParts Tile.served b (b.copySurround p q) :=
    SameParts.of_tiles (State.copySurround_kept (P := SameTiles b) (sameTiles_keptA b).toD rfl)
  have hwritten : SameParts Tile.served (s.spareLoaded p q)
      (((s.spareLoaded p q).copySurround p q).rewriteTile q false) :=
    hcopied.trans (rewriteTile_parts fun _ _ _ _ _ _ => rfl)
  exact Eq.trans (hwritten q) spareLoaded_served

/-- The escalation has been counted, for the half and as a risk event (R394). -/
def State.escalated (s : State) (p : Nat) : State :=
  (s.bump (calIndex (halfOf (tileHalf p))) 0x09).riskEvent (halfOf (tileHalf p)) 6

theorem escalated_relocate_count {h : HalfId} (hh : halfOf (tileHalf p) = h) :
    ((s.escalated p).relocate p l q).reg (calIndex h) 0x09 = s.reg (calIndex h) 0x09 + 1 := by
  subst hh
  have hrisk : SameObject (calIndex (halfOf (tileHalf p))) (s.bump (calIndex (halfOf (tileHalf p))) 0x09)
      (s.escalated p) := riskEvent_sameObject (by cases halfOf (tileHalf p) <;> decide)
  have hmoved {b : State} : SameObject (calIndex (halfOf (tileHalf p))) b (b.relocate p l q) :=
    sameObject_of_keptD (by cases halfOf (tileHalf p) <;> decide) fun kd => State.relocate_kept (sameObject_kept _ b)
      (sameObject_keptT _ b) (sameObject_keptB _ b) kd (SameObject.refl _ b)
  rw [hmoved.reg, hrisk.reg, State.reg_bump_self]

/-! ### The command -/

theorem exec_calEscalate_spare (hp : s.key.powered = true) (hst : s.calState p = 4)
    (hl : s.fabric.logical p = some l) (hq : s.relocationSpare l = some q) : exec (.calEscalate p) s =
      .next (if s.mayRelocate p l then (s.escalated p).relocate p l q else s) := by
  change execCalEscalate p s = _
  unfold execCalEscalate
  rw [onPower_on hp, if_neg (by simp [hst])]
  dsimp only
  rw [hl]
  dsimp only
  rw [hq]
  rfl

theorem calEscalate_calm (hp : s.key.powered = true) (hst : s.calState p ≠ 4) :
    Reaches (.calEscalate p) s (fun t => t = s) := by
  refine ⟨s, ?_, rfl⟩
  change execCalEscalate p s = _
  unfold execCalEscalate
  rw [onPower_on hp, if_pos hst]

theorem calEscalate_relocates (hp : s.key.powered = true) (hst : s.calState p = 4)
    (hl : s.fabric.logical p = some l) (hq : s.relocationSpare l = some q) (hmay : s.mayRelocate p l = true) :
    Reaches (.calEscalate p) s (fun t => t.fabric.relocated = s.fabric.relocated ++ [(l, q)] ∧
      (p ≠ q → (t.tile q).records = (s.tile p).records ∧ (t.tile q).sCol = (s.tile p).sCol) ∧
      t.val (calIndex (halfOf (tileHalf p))) 0x09 = (s.val (calIndex (halfOf (tileHalf p))) 0x09 + 1) % 2 ^ 32 ∧
      SameHbm s t) := by
  have hexec := exec_calEscalate_spare hp hst hl hq
  rw [if_pos hmay] at hexec
  refine ⟨_, hexec, ?_, fun _ => ?_, ?_, execCalEscalate_kept (sameHbm_kept s) (sameHbm_keptT s) (sameHbm_keptB s)
    (sameHbm_keptA s).toD ⟨rfl, rfl⟩ _ hexec⟩
  · have hfabric : SameFabric s (s.escalated p) := State.riskEvent_fabric.trans State.bump_fabric
    rw [relocate_relocated, hfabric]
  · have htile : (s.escalated p).tile p = s.tile p := tile_of_tiles (State.riskEvent_tiles.trans State.bump_tiles)
    exact Prod.mk.inj (relocate_served.trans (congrArg Tile.served htile))
  · exact (congrArg BitVec.toNat (escalated_relocate_count rfl)).trans (BitVec.toNat_add _ _)

theorem calEscalate_waits (hp : s.key.powered = true) (hst : s.calState p = 4)
    (hl : s.fabric.logical p = some l) (hq : s.relocationSpare l = some q) (hmay : s.mayRelocate p l = false) :
    Reaches (.calEscalate p) s (fun t => t = s) :=
  ⟨s, (exec_calEscalate_spare hp hst hl hq).trans (by rw [if_neg (by simp [hmay])]), rfl⟩

end Sys2Proof.Machine
end

section
/-! PROOF. O39: REFRESH_AGE, and the obligation (R236). -/

namespace Sys2Proof.Machine

open Sys2Proof Sys2Proof.Safety

variable {s t : State} {p g : Nat} {o : GroupSol} {swap : Bool} {m : TileMeas} {group : State → Nat → GroupMeas}
  {seen : List RowSeen}

/-! ### What a calibration writes of a tile's words -/

/-- A count of a half's calibration leaves every other object (0x2000, 0x2001). -/
theorem bumpHalf_object {h : HalfId} {i c : Nat} (hi : i % 65536 ≠ 0x2000 ∧ i % 65536 ≠ 0x2001) :
    SameObject i s (s.bump (calIndex h) c) := by
  refine State.bump_kept (sameObject_at ?_) (SameObject.refl i s)
  cases h
  exacts [hi.1, hi.2]

/-- The results of the column groups (0x2012.09 to .28). -/
def groupResultWords : List Nat := (List.range 32).map (0x09 + ·)

theorem applyGroup_subs (hg : g < 32) : OnlySubs 0x2012 groupResultWords s (s.applyGroup p g o swap) := by
  have hword : 0x09 + g < 256 ∧ 0x09 + g ∈ groupResultWords :=
    ⟨by omega, List.mem_map_of_mem (List.mem_range.mpr hg)⟩
  have hbump {c : Nat} : OnlySubs 0x2012 groupResultWords s (s.bump (calIndex (halfOf (tileHalf p))) c) :=
    SameObject.onlySubs (bumpHalf_object (by decide))
  have hwritten {u : Nat} : OnlySubs 0x2012 groupResultWords s
      ((s.putsAt u 0x2011 0x04 o.columns).putsAt u 0x2011 0x15 o.quads) :=
    SameObject.onlySubs (State.putsAt_kept (sameObject_at (by decide)) (State.putsAt_kept (sameObject_at (by decide))
      (SameObject.refl _ s)))
  unfold State.applyGroup
  dsimp only
  split
  · exact (onlySubs_putAt hwritten hword).of_object fun _ _ => State.regAt_modTile
  · split
    · exact (onlySubs_putAt hbump hword).of_object fun _ _ => State.regAt_modTile
    · exact onlySubs_putAt hbump hword

/-- The tile's calibration is dated, its temperature noted, its monitors' flags are clear, and it runs no step
(R229, R233). -/
def State.calDated (s : State) (p : Nat) : State :=
  (((s.put64At p 0x2012 0x05 s.count).putAt p 0x2012 0x07 (s.junction (halfOf (tileHalf p)))).putAt p 0x2012 0x04
    0).putAt p 0x2012 0x03 0

/-- The set lands, and the tile's state follows from its groups; a tile that lost slices or references is retired. -/
def State.calSettled (s : State) (p : Nat) (whole : Bool) : State :=
  if whole then (s.landSet p).settleTile p else ((s.landSet p).setCalState p 5).retireUnit p

/-- A FULL writes the group results, then dates the calibration and settles the tile. -/
theorem applyFull_ends : ∃ (b : State) (whole : Bool), OnlySubs 0x2012 groupResultWords s b ∧ SameObject 0x1005 s b ∧
    s.applyFull p m group = (b.calDated p).calSettled p whole := by
  unfold State.applyFull
  extract_lets h u slices trims chosen start limit out solved counted
  have hstart {i : Nat} (hi : i % 65536 ≠ 0x2010) : SameObject i s start :=
    State.chooseSlices_kept (sameObject_keptD s (by simpa using hi)) (State.putsAt_kept (sameObject_at hi)
      (State.putsAt_kept (sameObject_at hi) (SameObject.refl i s)))
  have hcounted {i : Nat} (hi : i % 65536 ≠ 0x2000 ∧ i % 65536 ≠ 0x2001) : SameObject i solved counted :=
    bumpHalf_object hi
  refine ⟨counted, chosen.2 && !m.quartetLost, OnlySubs.of_object ?_ (hcounted (by decide)), SameObject.trans ?_
    (hcounted (by decide)), rfl⟩
  · refine List.foldlRecOn _ _ (SameObject.onlySubs (hstart (by decide))) fun b hb g hg => hb.trans ?_
    exact applyGroup_subs (List.mem_range.mp hg)
  · exact Kept.foldl (P := SameObject 0x1005 s) (fun b g hb => State.applyGroup_kept (sameObject_kept _ s)
      (sameObject_keptT _ s) (sameObject_keptD s (by decide)) hb) (hstart (by decide))

theorem landSet_object : SameObject 0x2012 s (s.landSet p) :=
  State.landSet_kept (sameObject_kept _ s) (sameObject_keptT _ s) (sameObject_keptD s (by decide)) (SameObject.refl _ s)

theorem calSettled_subs {whole : Bool} : OnlySubs 0x2012 [0x02] s (s.calSettled p whole) := by
  unfold State.calSettled
  split
  · exact (SameObject.onlySubs landSet_object).trans settleTile_subs
  · exact ((SameObject.onlySubs landSet_object).trans setCalState_subs).of_object (retireUnit_object (by decide))

theorem calDated_subs : OnlySubs 0x2012 [0x03, 0x04, 0x05, 0x06, 0x07] s (s.calDated p) := by
  have hdate : OnlySubs 0x2012 [0x03, 0x04, 0x05, 0x06, 0x07] s (s.put64At p 0x2012 0x05 s.count) :=
    onlySubs_putAt (onlySubs_putAt (OnlySubs.refl _ _ s) (by decide)) (by decide)
  exact onlySubs_putAt (onlySubs_putAt (onlySubs_putAt hdate (by decide)) (by decide)) (by decide)

theorem val64At_put64At_self {u i sub n : Nat} : (s.put64At u i sub n).val64At u i sub = n % 2 ^ 64 := by
  have hk : dkey u i (sub + 1) ≠ dkey u i sub := by
    rw [Ne, dkey_unit]
    omega
  unfold State.val64At State.valAt
  rw [State.regAt_put64At, if_neg hk, if_pos rfl, State.regAt_put64At, if_pos rfl]
  unfold toWord
  rw [BitVec.toNat_ofNat, BitVec.toNat_ofNat]
  exact (Nat.mod_mul (x := n) (a := 2 ^ 32) (b := 2 ^ 32)).symm

theorem calDated_date : (s.calDated p).val64At p 0x2012 0x05 = s.count % 2 ^ 64 := by
  have hdated : OnlySubs 0x2012 [0x03, 0x04, 0x07] (s.put64At p 0x2012 0x05 s.count) (s.calDated p) :=
    onlySubs_putAt (onlySubs_putAt (onlySubs_putAt (OnlySubs.refl _ _ _) (by decide)) (by decide)) (by decide)
  rw [OnlySubs.val64At hdated (by decide) (by decide), val64At_put64At_self]

/-- A tile that the half calibrates of its own accord is dated, and its refresh hours stay (0x2012.08). -/
theorem selfCalibrate_dates : (s.selfCalibrate p).valAt p 0x2012 0x08 = s.valAt p 0x2012 0x08 ∧
    (s.selfCalibrate p).val64At p 0x2012 0x05 = s.count % 2 ^ 64 := by
  obtain ⟨b, whole, hgroups, hclock, hends⟩ := applyFull_ends (s := s) (p := p) (m := freeMeas s.free)
    (group := fun _ g => freeGroup s.free g)
  have hskip : SameObject 0x2012 (s.applyFull p (freeMeas s.free) (fun _ g => freeGroup s.free g))
      (s.selfCalibrate p) := fun _ _ => State.regAt_freeSkip
  rw [hends] at hskip
  constructor
  · have hhours := (OnlySubs.of_object calSettled_subs hskip) p 0x08 (by decide) (by decide)
    exact congrArg BitVec.toNat ((hhours.trans (calDated_subs p 0x08 (by decide) (by decide))).trans
      (hgroups p 0x08 (by decide) (by decide)))
  · rw [OnlySubs.val64At (OnlySubs.of_object calSettled_subs hskip) (by decide) (by decide), calDated_date,
      hclock.count]

/-! ### The command -/

theorem exec_refreshAge (hp : s.key.powered = true) : exec (.refreshAge p seen) s =
    .next (if s.rewriteFree p && decide (s.tileRole p ≤ 2) then s.refreshTile p seen else s) := by
  change execRefreshAge p seen s = _
  unfold execRefreshAge
  rw [onPower_on hp]

theorem refreshTile_dates (husable : ((s.refreshTile p seen).tile p).unusable = false) :
    (s.refreshTile p seen).valAt p 0x2012 0x08 = 0 ∧
      (s.refreshTile p seen).val64At p 0x2012 0x05 = s.count % 2 ^ 64 := by
  have hrows : SameObject 0x1005 s (s.refreshRows p seen) := sameObject_of_keptD (by decide) fun kd =>
    State.refreshRows_kept (sameObject_kept _ s) (sameObject_keptC _ s) (sameObject_keptT _ s) (sameObject_keptB _ s) kd
      (SameObject.refl _ s)
  have hclock : SameObject 0x1005 s ((s.refreshRows p seen).putAt p 0x2012 0x08 0) :=
    State.putAt_kept (sameObject_at (by decide)) hrows
  unfold State.refreshTile at husable ⊢
  dsimp only at husable ⊢
  split at husable
  · next hlost => exact absurd (hlost.symm.trans husable) (by decide)
  · next hkept =>
    rw [if_neg hkept]
    obtain ⟨hhours, hdate⟩ := selfCalibrate_dates (s := (s.refreshRows p seen).putAt p 0x2012 0x08 0) (p := p)
    exact ⟨hhours.trans (congrArg BitVec.toNat State.regAt_putAt_self), hdate.trans (by rw [hclock.count])⟩

theorem refreshAge_refreshes (hp : s.key.powered = true) (hfree : s.rewriteFree p = true) (hrole : s.tileRole p ≤ 2) :
    Reaches (.refreshAge p seen) s (fun t => SameHbm s t ∧ ((t.tile p).unusable = false →
      t.valAt p 0x2012 0x08 = 0 ∧ t.val64At p 0x2012 0x05 = s.count % 2 ^ 64)) := by
  have hexec := exec_refreshAge (p := p) (seen := seen) hp
  rw [if_pos (by simp [hfree, hrole])] at hexec
  exact ⟨_, hexec, execRefreshAge_kept (sameHbm_kept s) (sameHbm_keptC s) (sameHbm_keptT s) (sameHbm_keptB s)
    (sameHbm_keptA s).toD ⟨rfl, rfl⟩ _ hexec, refreshTile_dates⟩

theorem refreshAge_waits (hp : s.key.powered = true) (hfree : s.rewriteFree p = false) :
    Reaches (.refreshAge p seen) s (fun t => t = s) :=
  ⟨s, (exec_refreshAge hp).trans (by rw [if_neg (by simp [hfree])]), rfl⟩

/-- Settles O39: each step that ends, the swap of columns, the monitors, the escalation and the refresh. -/
theorem calibrationEndsAndMonitors : Obligations.CalibrationEndsAndMonitors := by
  unfold Obligations.CalibrationEndsAndMonitors
  exact fun s hp => ⟨fun h seen hmay => ⟨calRunComplete_zero hp hmay, calRunComplete_idle hp hmay⟩,
    fun h => zeroResultExpire_discards hp,
    fun p g meas e hdue hg => ⟨columnSwap_swaps hp hdue hg, columnSwap_waits hp hdue⟩,
    fun p gain off => probe_shows hp, fun p b urgent => driftMonitor_marks hp, fun p => calEscalate_calm hp,
    fun p l q hst hl hq => ⟨calEscalate_relocates hp hst hl hq, calEscalate_waits hp hst hl hq⟩,
    fun p seen => refreshAge_refreshes hp, fun p seen => refreshAge_waits hp⟩

end Sys2Proof.Machine
end

section
/-! SUPPORT. The bits of a word of any unit, and what drafting and the end of an update leave of a context's update
(R343, R398 to R401). -/

namespace Sys2Proof.Machine

open Sys2Proof Sys2Proof.Safety

variable {s t : State} {n step : Nat} {g : Word} {c : Ctx}

/-! ### Flags of any unit -/

/-- A bit written reads back, and every other one of the word reads as before. -/
theorem State.flagAt_putBitAt {u i sub b j : Nat} {v : Bool} : (s.putBitAt u i sub b v).flagAt u i sub j =
    if j = b then decide (j < 32) && v else s.flagAt u i sub j := by
  have hold : s.flagAt u i sub j = (decide (j < 32) && (s.valAt u i sub).testBit j) := by
    unfold State.flagAt State.valAt bit
    rw [← BitVec.getLsbD_ofNat, BitVec.ofNat_toNat, BitVec.setWidth_eq]
  rw [hold]
  unfold State.flagAt bit
  rw [State.regAt_putBitAt, if_pos rfl]
  unfold toWord
  rw [BitVec.getLsbD_ofNat, testBit_putBit]
  split <;> rfl

/-! ### The update of a context, whatever else of it changes -/

/-- The update engine's state of a context and its committed gradients (R343). -/
def Ctx.updateWork (c : Ctx) : Updater × List Commit := (c.upd, c.commits)

/-- Every context's update is as it was. -/
abbrev SameUpdates (s t : State) : Prop := SameView Ctx.updateWork s t

theorem SameUpdates.refl (s : State) : SameUpdates s s := SameView.refl _ s

theorem SameUpdates.of_ctxs (h : SameCtxs s t) : SameUpdates s t := SameView.of_ctxs h

/-- A context found again has its update. -/
theorem SameUpdates.find (h : SameUpdates s t) (hc : s.ctx n = some c) :
    ∃ d, t.ctx n = some d ∧ d.upd = c.upd ∧ d.commits = c.commits := by
  obtain ⟨d, hd, he⟩ := SameView.ctx h hc
  obtain ⟨hupd, hcommits⟩ := Prod.mk.inj he
  exact ⟨d, hd, hupd, hcommits⟩

theorem SameUpdates.sendOut (h : SameUpdates s t) {half : HalfId} {len : Nat} {o : Out} :
    SameUpdates s (t.sendOut half len o) :=
  h.of_sameCtxs (State.sendOut_kept (sameCtxs_kept t) (sameCtxs_keptA t).toD rfl)

theorem SameUpdates.log (h : SameUpdates s t) {e : Event} : SameUpdates s (t.log e) :=
  h.of_sameCtxs (State.log_kept (sameCtxs_kept t) (sameCtxs_keptA t).toD rfl)

theorem sendTrailer_updates : SameUpdates s (s.sendTrailer n step g) := by
  unfold State.sendTrailer
  split
  · exact SameUpdates.refl s
  · next c hc =>
    split
    · exact SameUpdates.refl s
    · dsimp only
      split
      · refine SameUpdates.sendOut ?_
        exact setCtx_view hc rfl rfl
      · exact setCtx_view hc rfl rfl

theorem streamCopy_updates : SameUpdates s (s.streamCopy n) := by
  unfold State.streamCopy
  split
  · exact SameUpdates.refl s
  · next c hc =>
    split
    · exact SameUpdates.refl s
    · dsimp only
      refine SameUpdates.sendOut ?_
      exact setCtx_view hc rfl rfl

theorem warnDraft_updates : SameUpdates s (s.warnDraft n) := by
  unfold State.warnDraft
  split
  · exact SameUpdates.refl s
  · next c hc =>
    split
    · exact setCtx_view hc rfl rfl
    · split
      · refine SameUpdates.log ?_
        exact setCtx_view hc rfl rfl
      · exact SameUpdates.refl s

theorem openCopy_updates : SameUpdates s (s.openCopy n step) := by
  unfold State.openCopy
  extract_lets warned
  have hwarned : SameUpdates s warned := warnDraft_updates
  split
  · exact hwarned
  · next c hc =>
    split
    · refine hwarned.trans (SameView.of_sameCtxs ?_ State.put64At_ctxs)
      exact setCtx_view hc rfl rfl
    · exact hwarned

/-! ### The end of an update (R343) -/

theorem updateDone_eq (hc : s.ctx n = some c) : s.updateDone n step =
    ((s.modHalf c.half (fun x => { x with updates := x.updates.erase n })).setCtx
      { c with commits := c.commits.drop 1, losses := c.losses.filter (fun e => decide (step < e.1)),
               upd := { c.upd with running := false } }).put64At n 0x5010 0x08 step := by
  unfold State.updateDone
  rw [hc]

theorem updateDone_ctx (hc : s.ctx n = some c) :
    ∃ d, (s.updateDone n step).ctx n = some d ∧ d.upd.running = false ∧ d.commits = c.commits.drop 1 := by
  rw [updateDone_eq hc]
  exact ⟨_, (ctx_of_ctxs State.put64At_ctxs).trans (ctx_setCtx.trans (if_pos (ctx_num hc).symm)), rfl, rfl⟩

theorem updateDone_step (hc : s.ctx n = some c) : (s.updateDone n step).val64At n 0x5010 0x08 = step % 2 ^ 64 := by
  rw [updateDone_eq hc, val64At_put64At_self]

theorem updateDone_subs : OnlySubs 0x5010 [0x08, 0x09] s (s.updateDone n step) := by
  unfold State.updateDone
  split
  · exact OnlySubs.refl _ _ s
  · exact onlySubs_putAt (onlySubs_putAt (fun _ _ _ _ => State.regAt_setCtx.trans State.regAt_modHalf) (by decide))
      (by decide)

theorem updateDone_object {i : Nat} (hi : i % 65536 ≠ 0x5010) : SameObject i s (s.updateDone n step) :=
  State.updateDone_kept (sameObject_kept i s) (sameObject_keptC i s) (sameObject_keptH i s)
    (sameObject_keptD s (by simpa using hi)) (SameObject.refl i s)

end Sys2Proof.Machine
end

section
/-! PROOF. O44: UPDATE_START (R340, R343, R410). -/

namespace Sys2Proof.Machine

open Sys2Proof Sys2Proof.Safety

variable {s : State} {n step : Nat} {g eta sum : Word} {c : Ctx} {k : Commit} {rest : List Commit} {tb : List Byte}

/-! ### The norm is shown, and a replayed step checked (R340, R400, R410) -/

/-- Phase U1: G is shown, and the copy of the step before gets its trailer. -/
def State.normShown (s : State) (n step : Nat) (g : Word) : State := (s.putAt n 0x5010 0x0A g).sendTrailer n step g

theorem normShown_subs : OnlySubs 0x5010 [0x0A] s (s.normShown n step g) :=
  (onlySubs_putAt (OnlySubs.refl _ _ s) (by decide)).of_object
    (State.sendTrailer_kept (sameObject_kept _ _) (sameObject_keptC _ _) (sameObject_keptD _ (by decide))
      (SameObject.refl _ _))

theorem normShown_norm : (s.normShown n step g).regAt n 0x5010 0x0A = g :=
  (State.sendTrailer_kept (sameObject_kept 0x5010 _) (sameObject_keptC _ _) (sameObject_keptD _ (by decide))
    (SameObject.refl _ _) n 0x0A).trans State.regAt_putAt_self

theorem normShown_updates : SameUpdates s (s.normShown n step g) :=
  SameView.trans (SameUpdates.of_ctxs State.putAt_ctxs) sendTrailer_updates

theorem normShown_replays : (s.normShown n step g).replays n step = s.replays n step := by
  have hreplay : SameObject 0x7013 s (s.normShown n step g) :=
    State.sendTrailer_kept (sameObject_kept _ s) (sameObject_keptC _ s) (sameObject_keptD s (by decide))
      (State.putAt_kept (sameObject_at (by decide)) (SameObject.refl _ s))
  unfold State.replays
  rw [State.valAt, State.valAt, hreplay, SameObject.val64At hreplay]

/-- A step that is not replayed passes. -/
theorem replayCheck_of_not (h : s.replays n step = false) : s.replayCheck n step g = (s, true) := by
  unfold State.replayCheck
  split
  · rfl
  · rw [if_pos (by rw [h, Bool.not_false])]

/-! ### The update begins, or is skipped -/

/-- η of a step under an update table; 0 without one (assumption 27). -/
def stepSize (tb : List Byte) (step : Nat) : Word := if tb.isEmpty then f32Zero else sched tb step

/-- The clip factor and η of the step are shown. -/
def State.clipShown (s : State) (n : Nat) (g eta : Word) : State :=
  (s.putAt n 0x5010 0x0B (clipFactor (s.regAt n 0x5010 0x04) g)).putAt n 0x5010 0x0C eta

/-- The step sizes of the groups in use are shown, with no element clipped so far (0x5011). -/
def State.groupsShown (s : State) (n step : Nat) (tb : List Byte) (eta : Word) : State :=
  (List.range (if tb.isEmpty then 0 else tableField tb 40 2)).foldl (fun s j =>
    (s.putAt (groupInst n j) 0x5011 0x04 (groupStep tb j step eta).eta).putAt (groupInst n j) 0x5011 0x05 0) s

/-- The update runs from now on, and a drafted step opens its copy. -/
def State.updateRuns (s : State) (n step : Nat) : State :=
  (s.modCtx n (fun c => { c with upd := { c.upd with running := true, since := s.count } })).openCopy n step

/-- The update of the step begins. -/
def State.updateBegun (s : State) (n step : Nat) (tb : List Byte) (g : Word) : State :=
  ((s.clipShown n g (stepSize tb step)).groupsShown n step tb (stepSize tb step)).updateRuns n step

/-- A skipped update is counted for its context and its half, and logged. -/
def State.skipCounted (s : State) (n step : Nat) (h : HalfId) : State :=
  ((s.bumpAt n 0x5010 0x0D).bump (pick h 0x5001 0x5002) 0x08).log
    { cls := clsWarning, unit := unitSwizeoth h, ctx := n, step := step, obj := counter 0x5010 0x0D }

/-! ### What each leaves -/

theorem clipShown_subs : OnlySubs 0x5010 [0x0B, 0x0C] s (s.clipShown n g eta) :=
  onlySubs_putAt (onlySubs_putAt (OnlySubs.refl _ _ s) (by decide)) (by decide)

theorem clipShown_clip : (s.clipShown n g eta).regAt n 0x5010 0x0B = clipFactor (s.regAt n 0x5010 0x04) g := by
  unfold State.clipShown
  rw [State.regAt_putAt_ne (by simp), State.regAt_putAt_self]

theorem clipShown_ctxs : SameCtxs s (s.clipShown n g eta) := State.putAt_ctxs.trans State.putAt_ctxs

theorem groupsShown_kept {P : State → Prop} (kd : KeptD P [0x5011]) (h : P s) : P (s.groupsShown n step tb eta) :=
  Kept.foldl (fun _ _ ht => State.putAt_kept (kd.mem (by decide)) (State.putAt_kept (kd.mem (by decide)) ht)) h

theorem updateRuns_object : SameObject 0x5010 s (s.updateRuns n step) :=
  State.openCopy_kept (sameObject_kept _ s) (sameObject_keptC _ s) (sameObject_keptD s (by decide))
    fun _ _ => State.regAt_modCtx

theorem updateRuns_ctx (hc : s.ctx n = some c) :
    ∃ d, (s.updateRuns n step).ctx n = some d ∧ d.upd.running = true ∧ d.commits = c.commits := by
  obtain ⟨d, hd, hupd, hcommits⟩ := SameUpdates.find (openCopy_updates (n := n) (step := step)) (ctx_modCtx_self
    (f := fun c => { c with upd := { c.upd with running := true, since := s.count } }) (fun _ => rfl) hc)
  exact ⟨d, hd, congrArg Updater.running hupd, hcommits⟩

theorem updateBegun_object : SameObject 0x5010 (s.clipShown n g (stepSize tb step)) (s.updateBegun n step tb g) :=
  SameObject.trans (groupsShown_kept (sameObject_keptD _ (by decide)) (SameObject.refl _ _)) updateRuns_object

theorem updateBegun_ctx (hc : s.ctx n = some c) :
    ∃ d, (s.updateBegun n step tb g).ctx n = some d ∧ d.upd.running = true ∧ d.commits = c.commits :=
  updateRuns_ctx ((ctx_of_ctxs (groupsShown_kept (P := SameCtxs s) (sameCtxs_keptA s).toD clipShown_ctxs)).trans hc)

theorem skipCounted_object {h : HalfId} : SameObject 0x5010 (s.bumpAt n 0x5010 0x0D) (s.skipCounted n step h) :=
  State.log_kept (sameObject_kept _ _) (sameObject_keptD _ (by decide))
    (State.bump_kept (sameObject_at (by cases h <;> decide)) (SameObject.refl _ _))

theorem skipCounted_ctxs {h : HalfId} : SameCtxs s (s.skipCounted n step h) :=
  State.log_kept (sameCtxs_kept s) (sameCtxs_keptA s).toD (State.bump_ctxs.trans State.bumpAt_ctxs)

/-- What the start of an update leaves alone: the tiles and the memories. -/
theorem updateStart_only {t : State} (h : exec (.updateStart n) s = .next t) : SameTiles s t ∧ SameHbm s t :=
  ⟨execUpdateStart_kept (sameTiles_kept s) (sameTiles_keptC s) (sameTiles_keptH s) (sameTiles_keptA s).toD rfl _ h,
    execUpdateStart_kept (sameHbm_kept s) (sameHbm_keptC s) (sameHbm_keptH s) (sameHbm_keptA s).toD ⟨rfl, rfl⟩ _ h⟩

/-- The first context of a half whose update may begin, in the order in which their gradients committed (R343). -/
def State.nextUpdate (s : State) (h : HalfId) : Option Nat :=
  (s.half h).updates.find? (fun m => match s.ctx m with | some x => x.updateReady | none => false)

section Start

variable (hp : s.key.powered = true) (hc : s.ctx n = some c) (hk : c.commits = k :: rest) (hsum : k.sum = some sum)
  (hruns : s.runs c.half = true) (hawake : s.awake = true) (hrel : c.releasing = false)
  (hidle : s.ctxs.any (fun x => x.half == c.half && x.upd.running) = false)
  (hfirst : s.nextUpdate c.half = some n) (hreplay : s.replays n k.step = false)

include hp hc hk hsum hruns hawake hrel hidle hfirst hreplay

theorem exec_updateStart : exec (.updateStart n) s =
    .next (if f32Finite sum = true then
      (s.normShown n k.step (fsqrt sum)).updateBegun n k.step c.upd.table (fsqrt sum)
    else ((s.normShown n k.step (fsqrt sum)).skipCounted n k.step c.half).updateDone n k.step) := by
  have hcheck := replayCheck_of_not (g := fsqrt sum) ((normShown_replays (g := fsqrt sum)).trans hreplay)
  unfold State.normShown at hcheck
  change execUpdateStart n s = _
  unfold execUpdateStart
  rw [onPower_on hp, hc]
  dsimp only
  rw [if_neg (by
    simp only [hruns, hawake, hrel, hidle, Bool.not_true, Bool.false_or, Bool.or_false, bne_iff_ne, not_not]
    exact hfirst), hk]
  simp only [List.head?_cons, Option.map_some, Option.bind_some, hsum, hcheck]
  cases hfinite : f32Finite sum <;> rfl

theorem updateStart_begins (hfinite : f32Finite sum = true) : Reaches (.updateStart n) s (fun t =>
    (∃ d, t.ctx n = some d ∧ d.upd.running = true ∧ d.commits = c.commits) ∧
    t.regAt n 0x5010 0x0A = fsqrt sum ∧ t.regAt n 0x5010 0x0B = clipFactor (s.regAt n 0x5010 0x04) (fsqrt sum) ∧
    SameTiles s t ∧ SameHbm s t) := by
  have hexec := exec_updateStart hp hc hk hsum hruns hawake hrel hidle hfirst hreplay
  rw [if_pos hfinite] at hexec
  obtain ⟨d, hd, -, hcommits⟩ := SameUpdates.find (normShown_updates (step := k.step) (g := fsqrt sum)) hc
  refine ⟨_, hexec, hcommits ▸ updateBegun_ctx hd, ?_, ?_, updateStart_only hexec⟩
  · rw [updateBegun_object, clipShown_subs _ _ (by decide) (by decide), normShown_norm]
  · rw [updateBegun_object, clipShown_clip, normShown_subs _ _ (by decide) (by decide)]

theorem updateStart_skips (hinfinite : f32Finite sum = false) : Reaches (.updateStart n) s (fun t =>
    (∃ d, t.ctx n = some d ∧ d.upd.running = false ∧ d.commits = rest) ∧
    t.regAt n 0x5010 0x0D = s.regAt n 0x5010 0x0D + 1 ∧ t.val64At n 0x5010 0x08 = k.step % 2 ^ 64 ∧
    SameTiles s t ∧ SameHbm s t) := by
  have hexec := exec_updateStart hp hc hk hsum hruns hawake hrel hidle hfirst hreplay
  rw [if_neg (by simp [hinfinite])] at hexec
  obtain ⟨d, hd, -, hcommits⟩ := SameUpdates.find (normShown_updates (step := k.step) (g := fsqrt sum)) hc
  have hfound := (ctx_of_ctxs (skipCounted_ctxs (n := n) (step := k.step) (h := c.half))).trans hd
  obtain ⟨d', hd', hrunning, hdropped⟩ := updateDone_ctx (step := k.step) hfound
  refine ⟨_, hexec, ⟨d', hd', hrunning, ?_⟩, ?_, updateDone_step hfound, updateStart_only hexec⟩
  · rw [hdropped, hcommits, hk, List.drop_one, List.tail_cons]
  · rw [updateDone_subs _ _ (by decide) (by decide), skipCounted_object, State.regAt_bumpAt, if_pos rfl,
      normShown_subs _ _ (by decide) (by decide)]

end Start

end Sys2Proof.Machine
end

section
/-! PROOF. O44: UPDATE_COMPLETE (R341, R343, R345). -/

namespace Sys2Proof.Machine

open Sys2Proof Sys2Proof.Safety

variable {s : State} {n i p layer row step : Nat} {eta clip : Word} {c : Ctx} {k : Commit} {rest : List Commit}
  {q : Seat} {L : Layer} {h : HalfId}

/-! ### One layer (R341, R345) -/

theorem updateLayer_updates : SameUpdates s (s.updateLayer n step eta clip layer) := by
  unfold State.updateLayer
  split
  · exact SameUpdates.refl s
  · next c hc =>
    split
    · exact SameUpdates.refl s
    · refine SameView.of_sameCtxs ?_ State.addAt_ctxs
      exact setCtx_view hc rfl rfl

/-- A row that is decided counts the weights clamped in its half's Swizeoth (0x5001.0C). -/
theorem decideRow_subs (hi : i = 0x5001 ∨ i = 0x5002) : OnlySubs i [0x0C, 0x0D] s (s.decideRow c p q L step row) := by
  have hclamped {m w : Nat} : OnlySubs i [0x0C, 0x0D] s
      ((s.addAt c.n 0x5010 0x13 m).add64 (pick c.half 0x5001 0x5002) 0x0C w) :=
    onlySubs_add64At (SameObject.onlySubs (State.addAt_kept (sameObject_at (by omega)) (SameObject.refl i s)))
      (by decide) (by decide)
  have hqueued {b : State} {f : Tile → Tile} (hb : OnlySubs i [0x0C, 0x0D] s b) :
      OnlySubs i [0x0C, 0x0D] s (b.modTile p f) := hb.of_object fun _ _ => State.regAt_modTile
  have hreplaced {b : State} (hb : OnlySubs i [0x0C, 0x0D] s b) :
      OnlySubs i [0x0C, 0x0D] s (b.bumpAt p 0x5020 0x0E) :=
    hb.of_object (State.bumpAt_kept (sameObject_at (by omega)) (SameObject.refl i b))
  unfold State.decideRow
  dsimp only
  split
  · exact hclamped
  · split
    · exact hreplaced (hqueued hclamped)
    · split
      · split
        · exact hreplaced (hqueued hclamped)
        · exact hqueued hclamped
      · exact hqueued hclamped

theorem decideRows_subs (hi : i = 0x5001 ∨ i = 0x5002) {rows : List Nat} :
    OnlySubs i [0x0C, 0x0D] s (rows.foldl (fun t r => t.decideRow c p q L step r) s) :=
  Kept.foldl (P := OnlySubs i [0x0C, 0x0D] s) (fun _ _ hb => hb.trans (decideRow_subs hi)) (OnlySubs.refl _ _ s)

theorem decideLayer_subs (hi : i = 0x5001 ∨ i = 0x5002) : OnlySubs i [0x0C, 0x0D] s (s.decideLayer n step layer) := by
  unfold State.decideLayer
  split
  · exact OnlySubs.refl _ _ s
  · split
    · exact OnlySubs.refl _ _ s
    · refine Kept.foldl (P := OnlySubs i [0x0C, 0x0D] s) (fun b j hb => ?_) (OnlySubs.refl _ _ s)
      split
      · exact hb
      · split
        · exact hb
        · exact hb.trans ((decideRows_subs hi).of_object (State.showQueue_kept
            (sameObject_keptD _ (by rcases hi with rfl | rfl <;> decide)) (SameObject.refl i _)))

theorem decideLayer_ctxs : SameCtxs s (s.decideLayer n step layer) :=
  State.decideLayer_kept (sameCtxs_kept s) (sameCtxs_keptT s) (sameCtxs_keptA s).toD rfl

/-! ### The elements and the rows of the context -/

/-- Layers of a context in descending program order. -/
def Ctx.updateOrder (c : Ctx) : List Nat := (List.range c.layers.length).reverse

/-- The elements of every layer are updated. -/
def State.elementsUpdated (s : State) (n step : Nat) (c : Ctx) : State :=
  c.updateOrder.foldl (fun s k => s.updateLayer n step (s.regAt n 0x5010 0x0C) (s.regAt n 0x5010 0x0B) k) s

/-- Elements are updated and rows queued; without an update table nothing is (assumption 27). -/
def State.updateApplied (s : State) (n step : Nat) (c : Ctx) : State :=
  if c.upd.table.isEmpty then s
  else c.updateOrder.foldl (fun s k => s.decideLayer n step k) (s.elementsUpdated n step c)

theorem elementsUpdated_object (hi : i = 0x5001 ∨ i = 0x5002) : SameObject i s (s.elementsUpdated n step c) :=
  Kept.foldl (fun _ _ hb => State.updateLayer_kept (sameObject_kept i s) (sameObject_keptC i s)
    (sameObject_keptD s (by rcases hi with rfl | rfl <;> decide)) hb) (SameObject.refl i s)

theorem updateApplied_subs (hi : i = 0x5001 ∨ i = 0x5002) : OnlySubs i [0x0C, 0x0D] s (s.updateApplied n step c) := by
  unfold State.updateApplied
  split
  · exact OnlySubs.refl _ _ s
  · exact Kept.foldl (fun _ _ hb => hb.trans (decideLayer_subs hi)) (SameObject.onlySubs (elementsUpdated_object hi))

theorem elementsUpdated_updates : SameUpdates s (s.elementsUpdated n step c) :=
  Kept.foldl (P := SameUpdates s) (fun _ _ hb => hb.trans updateLayer_updates) (SameUpdates.refl s)

theorem updateApplied_updates : SameUpdates s (s.updateApplied n step c) := by
  unfold State.updateApplied
  split
  · exact SameUpdates.refl s
  · exact Kept.foldl (P := SameUpdates s) (fun _ _ hb => hb.of_sameCtxs decideLayer_ctxs) elementsUpdated_updates

/-! ### The copies, and the count of updates (R284, R400) -/

/-- The weight copies for the next step are written, and the drafting copy streams. -/
def State.copiesWritten (s : State) (n step : Nat) : State := (s.writeCopies n (step + 1)).streamCopy n

/-- The half's Swizeoth counts an update more, and shows how long it took. -/
def State.updateCounted (s : State) (h : HalfId) (since : Nat) : State :=
  (s.add64 (pick h 0x5001 0x5002) 0x06 1).put64 (pick h 0x5001 0x5002) 0x0A (s.since since)

theorem copiesWritten_object (hi : i = 0x5001 ∨ i = 0x5002) : SameObject i s (s.copiesWritten n step) :=
  State.streamCopy_kept (sameObject_kept i s) (sameObject_keptC i s)
    (sameObject_keptD s (by rcases hi with rfl | rfl <;> decide))
    (State.writeCopies_kept (sameObject_keptM i s) (SameObject.refl i s))

theorem copiesWritten_updates : SameUpdates s (s.copiesWritten n step) :=
  SameView.trans (SameUpdates.of_ctxs (State.writeCopies_kept (sameCtxs_keptM s) rfl)) streamCopy_updates

theorem updateCounted_ctxs {since : Nat} : SameCtxs s (s.updateCounted h since) :=
  State.put64_ctxs.trans State.add64_ctxs

theorem updateCounted_count {since : Nat} : (s.updateCounted h since).val64 (pick h 0x5001 0x5002) 0x06 =
    (s.val64 (pick h 0x5001 0x5002) 0x06 + 1) % 2 ^ 64 := by
  have htime : OnlySubs (pick h 0x5001 0x5002) [0x0A, 0x0B] (s.add64 (pick h 0x5001 0x5002) 0x06 1)
      (s.updateCounted h since) := onlySubs_putAt (onlySubs_putAt (OnlySubs.refl _ _ _) (by decide)) (by decide)
  rw [OnlySubs.val64 htime (by decide) (by decide)]
  exact val64At_add64At_self

/-! ### The command -/

/-- The update of the step has run, and is not yet noted as done. -/
def State.updatePerformed (s : State) (n step : Nat) (c : Ctx) : State :=
  ((s.updateApplied n step c).copiesWritten n step).updateCounted c.half c.upd.since

theorem updatePerformed_updates : SameUpdates s (s.updatePerformed n step c) :=
  SameView.of_sameCtxs (updateApplied_updates.trans copiesWritten_updates) updateCounted_ctxs

theorem updatePerformed_count : (s.updatePerformed n step c).val64 (pick c.half 0x5001 0x5002) 0x06 =
    (s.val64 (pick c.half 0x5001 0x5002) 0x06 + 1) % 2 ^ 64 := by
  have hi : pick c.half 0x5001 0x5002 = 0x5001 ∨ pick c.half 0x5001 0x5002 = 0x5002 := by cases c.half <;> decide
  have hbefore : OnlySubs (pick c.half 0x5001 0x5002) [0x0C, 0x0D] s
      ((s.updateApplied n step c).copiesWritten n step) := (updateApplied_subs hi).of_object (copiesWritten_object hi)
  exact updateCounted_count.trans (by rw [OnlySubs.val64 hbefore (by decide) (by decide)])

section Complete

variable (hp : s.key.powered = true) (hc : s.ctx n = some c) (hk : c.commits = k :: rest)
  (hrunning : c.upd.running = true) (hruns : s.runs c.half = true)
  (hheld : s.heldIn c.half (s.copySpans c (k.step + 1)) = [])

include hp hc hk hrunning hruns hheld

theorem exec_updateComplete :
    exec (.updateComplete n) s = .next ((s.updatePerformed n k.step c).updateDone n k.step) := by
  change execUpdateComplete n s = _
  unfold execUpdateComplete
  rw [onPower_on hp, hc]
  dsimp only
  rw [hrunning, hk]
  dsimp only [List.head?_cons, Option.map_some]
  rw [hheld, if_neg (by simp [hruns]), if_neg (by simp)]
  rfl

theorem updateComplete_ends : Reaches (.updateComplete n) s (fun t =>
      (∃ d, t.ctx n = some d ∧ d.upd.running = false ∧ d.commits = rest) ∧
      t.val64At n 0x5010 0x08 = k.step % 2 ^ 64 ∧
      t.val64 (pick c.half 0x5001 0x5002) 0x06 = (s.val64 (pick c.half 0x5001 0x5002) 0x06 + 1) % 2 ^ 64 ∧
      SameSec s t) := by
  have hexec := exec_updateComplete hp hc hk hrunning hruns hheld
  obtain ⟨d, hd, -, hcommits⟩ := SameUpdates.find (updatePerformed_updates (step := k.step) (c := c)) hc
  have hdone := updateDone_ctx (step := k.step) hd
  rw [hcommits, hk, List.drop_one, List.tail_cons] at hdone
  refine ⟨_, hexec, hdone, updateDone_step hd, ?_, ?_⟩
  · exact (SameObject.val64At (updateDone_object (by cases c.half <;> decide))).trans updatePerformed_count
  · exact execUpdateComplete_kept (sameSec_kept s) (sameSec_keptM s) (sameSec_keptC s) (sameSec_keptT s)
      (sameSec_keptH s) (sameSec_keptA s).toD rfl _ hexec

end Complete

end Sys2Proof.Machine
end

section
/-! PROOF. O44: TRANSFER_PASS_START (R347). -/

namespace Sys2Proof.Machine

open Sys2Proof Sys2Proof.Safety

variable {s : State} {p : Nat}

/-! ### A pass starts (R347) -/

/-- A tile in whose pass no row has been written yet. -/
def Tile.passBegun (x : Tile) : Tile :=
  { x with version := [], written := [], inPass := true, paused := false, owed := 0 }

/-- The pass of a tile has started: it is counted, and shown as running. -/
def State.passBegun (s : State) (p : Nat) : State :=
  (((s.modTile p Tile.passBegun).bumpAt (s.logicalOr p) 0x4021 0x02).putAt (s.logicalOr p) 0x4021 0x03 0).putAt p
    0x5020 0x06 1

theorem passBegun_tile : (s.passBegun p).tile p = (s.tile p).passBegun :=
  (tile_of_tiles (State.putAt_tiles.trans (State.putAt_tiles.trans State.bumpAt_tiles))).trans
    (tile_modTile_self fun _ => rfl)

theorem passBegun_passes :
    (s.passBegun p).regAt (s.logicalOr p) 0x4021 0x02 = s.regAt (s.logicalOr p) 0x4021 0x02 + 1 := by
  unfold State.passBegun
  rw [State.regAt_putAt_ne (by simp [dkey_inj]), State.regAt_putAt_ne (by simp), State.regAt_bumpAt, if_pos rfl,
    State.regAt_modTile]

theorem passBegun_rows : (s.passBegun p).regAt (s.logicalOr p) 0x4021 0x03 = 0 := by
  unfold State.passBegun
  rw [State.regAt_putAt_ne (by simp [dkey_inj]), State.regAt_putAt_self]

section Start

variable (hp : s.key.powered = true) (hruns : s.runs (halfOf (tileHalf p)) = true) (hqueue : (s.tile p).queue ≠ [])
  (hpass : (s.tile p).inPass = false) (hprog : (s.tile p).programming = false) (hawake : s.awake = true)
  (hhome : s.relocatedTile p = false)

include hp hruns hqueue hpass hprog hawake hhome

/-- A snapshot of the previous pass is waited for (R324). -/
theorem exec_transferPassStart : exec (.transferPassStart p) s =
    .next (if s.valAt (s.logicalOr p) 0x4021 0x04 = 0 then s.passBegun p else s.putAt p 0x5020 0x06 3) := by
  have hrows : (s.tile p).queue.isEmpty = false := by simpa using hqueue
  change execTransferPassStart p s = _
  unfold execTransferPassStart
  rw [onPower_on hp]
  dsimp only
  rw [if_neg (by simp [hruns, hrows, hpass, hprog, hawake, hhome])]
  by_cases hheld : s.valAt (s.logicalOr p) 0x4021 0x04 = 0
  · rw [if_neg (by simp [hheld]), if_pos hheld]
    rfl
  · rw [if_pos (by simpa using hheld), if_neg hheld]

theorem transferPassStart_starts (hfree : s.valAt (s.logicalOr p) 0x4021 0x04 = 0) :
    Reaches (.transferPassStart p) s (fun t =>
      (t.tile p).inPass = true ∧ (t.tile p).version = [] ∧ (t.tile p).queue = (s.tile p).queue ∧
      t.regAt (s.logicalOr p) 0x4021 0x02 = s.regAt (s.logicalOr p) 0x4021 0x02 + 1 ∧
      t.regAt (s.logicalOr p) 0x4021 0x03 = 0 ∧ t.regAt p 0x5020 0x06 = 1 ∧
      OnlyIn [0x4021, 0x5020] s t ∧ SameHbm s t ∧ SameCtxs s t) := by
  have hexec := exec_transferPassStart hp hruns hqueue hpass hprog hawake hhome
  rw [if_pos hfree] at hexec
  refine ⟨_, hexec, ?_, ?_, ?_, passBegun_passes, passBegun_rows, State.regAt_putAt_self, ?_, ?_, ?_⟩
  · rw [passBegun_tile, Tile.passBegun]
  · rw [passBegun_tile, Tile.passBegun]
  · rw [passBegun_tile, Tile.passBegun]
  · exact onlyIn_of_keptD (by decide) fun i kd => execTransferPassStart_kept (sameObject_kept i s)
      (sameObject_keptT i s) kd (SameObject.refl i s) _ hexec
  · exact execTransferPassStart_kept (sameHbm_kept s) (sameHbm_keptT s) (sameHbm_keptA s).toD ⟨rfl, rfl⟩ _ hexec
  · exact execTransferPassStart_kept (sameCtxs_kept s) (sameCtxs_keptT s) (sameCtxs_keptA s).toD rfl _ hexec

theorem transferPassStart_waits (hheld : s.valAt (s.logicalOr p) 0x4021 0x04 ≠ 0) :
    Reaches (.transferPassStart p) s (fun t =>
      t.regAt p 0x5020 0x06 = 3 ∧ OnlyIn [0x5020] s t ∧ SameTiles s t ∧ SameHbm s t ∧ SameCtxs s t) := by
  have hexec := exec_transferPassStart hp hruns hqueue hpass hprog hawake hhome
  rw [if_neg hheld] at hexec
  exact ⟨_, hexec, State.regAt_putAt_self, onlyIn_of_keptD (by decide) fun i kd =>
    State.putAt_kept (kd.mem (by decide)) (SameObject.refl i s), State.putAt_tiles,
    ⟨State.putAt_hbm0, State.putAt_hbm1⟩, State.putAt_ctxs⟩

end Start

end Sys2Proof.Machine
end

section
/-! PROOF. O44: TRANSFER_ROW_COMPLETE (R323, R347 to R349). -/

namespace Sys2Proof.Machine

open Sys2Proof Sys2Proof.Safety

variable {s : State} {p row : Nat} {pl : RowPlan} {meas : RowMeas} {j : RowJob}

/-! ### The pass of a tile while a row is written (R323, R347) -/

/-- The pass of a tile, its rows and those put off. -/
def Tile.passState (x : Tile) : Bool × List RowJob × List RowJob := (x.inPass, x.queue, x.nextQueue)

theorem rowKept_passState {x : Tile} {ws : List WeightWrite} : (x.rowKept row ws).passState = x.passState :=
  putRecords_part (g := Tile.passState) fun _ _ => rfl

theorem rowKept_addr {x : Tile} {ws : List WeightWrite} : (x.rowKept row ws).addr = x.addr :=
  putRecords_part (g := Tile.addr) fun _ _ => rfl

theorem writeShadow_passState {x : Tile} {bank : Nat} : (x.writeShadow row bank).passState = x.passState :=
  writeShadow_part (g := Tile.passState) fun _ _ _ => rfl

theorem writeShadow_addr {x : Tile} {bank : Nat} : (x.writeShadow row bank).addr = x.addr :=
  writeShadow_part (g := Tile.addr) fun _ _ _ => rfl

/-- A row's read-back is in the other bank, to which its pointer now points. -/
def Tile.rowFlipped (x : Tile) (row : Nat) : Tile :=
  { x.writeShadow row (1 - rowBit x.pointer row) with
    pointer := if 1 - rowBit x.pointer row = 1 then x.pointer ++ [row] else x.pointer.filter (· != row),
    version := x.version ++ [row] }

theorem rowFlipped_passState {x : Tile} : (x.rowFlipped row).passState = x.passState := by
  unfold Tile.rowFlipped Tile.passState
  dsimp only
  exact writeShadow_passState

theorem rowFlipped_addr {x : Tile} : (x.rowFlipped row).addr = x.addr := by
  unfold Tile.rowFlipped
  dsimp only
  exact writeShadow_addr

theorem passShadow_passState : SamePart Tile.passState p s (s.passShadow p row) := by
  unfold State.passShadow
  dsimp only
  split
  · have hwritten : SamePart Tile.passState p s
        (s.modTile p (fun x => x.writeShadow row (rowBit x.pointer row))) :=
      modTile_part (fun _ => writeShadow_addr) fun _ => writeShadow_passState
    split
    · exact hwritten
    · exact hwritten.trans (SamePart.of_tiles State.bumpAt_tiles)
  · have hwritten : SamePart Tile.passState p s (s.modTile p (fun x => x.rowFlipped row)) :=
      modTile_part (fun _ => rowFlipped_addr) fun _ => rowFlipped_passState
    exact hwritten.trans (SamePart.of_tiles State.bumpAt_tiles)

/-- A row of a pass has been pulsed and verified, its records kept and its read-back put into the shadow. -/
def State.rowPassed (s : State) (p row : Nat) (pl : RowPlan) (meas : RowMeas) : State :=
  ((s.rowPulsed p row pl meas).modTile p (fun x => x.rowKept row (s.rowWrites p row pl meas))).passShadow p row

theorem rowPassed_passState : SamePart Tile.passState p s (s.rowPassed p row pl meas) :=
  SamePart.trans (SamePart.trans (pulseRow_parts (fun _ _ _ _ _ _ => rfl) p)
    (modTile_part (fun _ => rowKept_addr) fun _ => rowKept_passState)) passShadow_passState

theorem rowPassed_fabric : SameFabric s (s.rowPassed p row pl meas) :=
  State.passShadow_kept (sameFabric_kept s) (sameFabric_keptT s) (sameFabric_keptA s).toD
    (State.modTile_kept (sameFabric_kept s) (sameFabric_keptT s)
      (State.pulseRow_kept (sameFabric_kept s) (sameFabric_keptT s) (sameFabric_keptA s).toD rfl))

/-! ### The tile's transfer words (0x5020) -/

/-- The endurance flag is bit 2 of 0x5020.0D (R351). -/
theorem noteEndurance_subs : OnlySubs 0x5020 [0x0D] s (s.noteEndurance p) := by
  unfold State.noteEndurance
  split
  · exact (onlySubs_putAt (OnlySubs.refl _ _ s) (by decide)).of_object
      (State.raiseReplace_kept (sameObject_keptD _ (by decide)) (SameObject.refl _ _))
  · exact OnlySubs.refl _ _ s

theorem countRow_transfer {r : Nat} : OnlySubs 0x5020 [0x0D] s (s.countRow p r) := by
  have hnoted {n : Nat} {w : Word} : OnlySubs 0x5020 [0x0D] s
      ((s.putAt (rowUnit p r) 0x4003 0x03 w).noteRowCount p n) :=
    (SameObject.onlySubs (State.putAt_kept (sameObject_at (by decide)) (State.putAt_kept (sameObject_at (by decide))
      (State.putAt_kept (sameObject_at (by decide)) (SameObject.refl _ s))))).trans noteEndurance_subs
  unfold State.countRow
  dsimp only
  split
  · exact hnoted.of_object fun _ _ => State.regAt_modTile
  · exact hnoted

theorem pulseRow_transfer {r : Nat} {levels : List (Nat × Nat)} {again : List Nat} {counts : Bool} :
    OnlySubs 0x5020 [0x0D] s (s.pulseRow p r levels again counts) := by
  have hpulsed {hit : List (Nat × Nat)} : SameObject 0x5020 s (s.pulsed p r hit) :=
    State.add64At_kept (sameObject_at (by decide)) fun _ _ => State.regAt_modTile
  unfold State.pulseRow
  dsimp only
  split
  · exact (SameObject.onlySubs hpulsed).trans countRow_transfer
  · exact SameObject.onlySubs hpulsed

theorem rowPassed_transfer : OnlySubs 0x5020 [0x0D] s (s.rowPassed p row pl meas) :=
  OnlySubs.of_object pulseRow_transfer (State.passShadow_kept (sameObject_kept _ _) (sameObject_keptT _ _)
    (sameObject_keptD _ (by decide)) fun _ _ => State.regAt_modTile)

/-! ### A row leaves the queue (R347) -/

theorem rowReport_tiles : SameTiles s (s.rowReport p j) :=
  State.rowReport_kept (sameTiles_kept s) (sameTiles_keptC s) (sameTiles_keptA s).toD rfl

/-- Swizeoth counts the row, for its half and for the tile. -/
def State.rowCounted (s : State) (p : Nat) : State :=
  (s.add64 (pick (halfOf (tileHalf p)) 0x5001 0x5002) 0x0E 1).add64At p 0x5020 0x08 1

theorem rowCounted_half : SameObject 0x5020 s (s.add64 (pick (halfOf (tileHalf p)) 0x5001 0x5002) 0x0E 1) :=
  State.add64_kept (sameObject_at (by cases halfOf (tileHalf p) <;> decide)) (SameObject.refl _ s)

/-- Beside the row, a report counts its carries. -/
theorem rowReport_carries : OnlySubs 0x5020 [0x0A, 0x0B] (s.rowCounted p) (s.rowReport p j) := by
  have hctx {b : State} {m : Nat} {f : Ctx → Ctx} :
      SameObject 0x5020 b (((b.add64At j.ctx 0x5010 0x0F 1).add64At j.ctx 0x5010 0x11 m).modCtx j.ctx f) :=
    State.modCtx_kept (sameObject_kept _ b) (sameObject_keptC _ b) (State.add64At_kept (sameObject_at (by decide))
      (State.add64At_kept (sameObject_at (by decide)) (SameObject.refl _ b)))
  exact OnlySubs.of_object (onlySubs_add64At (OnlySubs.refl _ _ _) (by decide) (by decide)) hctx

theorem rowReport_rows : (s.rowReport p j).val64At p 0x5020 0x08 = (s.val64At p 0x5020 0x08 + 1) % 2 ^ 64 := by
  rw [OnlySubs.val64At rowReport_carries (by decide) (by decide), State.rowCounted, val64At_add64At_self,
    SameObject.val64At rowCounted_half]

theorem rowReport_transfer : OnlySubs 0x5020 [0x08, 0x09, 0x0A, 0x0B] s (s.rowReport p j) :=
  OnlySubs.trans (onlySubs_add64At (SameObject.onlySubs rowCounted_half) (by decide) (by decide))
    (onlySubs_mono rowReport_carries (by decide))

/-- A row of the tile's pass has ended, and no pause is owed for it. -/
def Tile.rowOver (x : Tile) : Tile := { x with paused := false, owed := x.owed - 1 }

/-- A row of the tile's pass is written and out of the queue. -/
def Tile.rowLeft (x : Tile) (row : Nat) : Tile :=
  { x with queue := x.queue.filter (fun y => y.row != row), written := x.written ++ [row] }

/-- The write of a row in a running pass has ended. -/
def State.rowEnded (s : State) (p : Nat) : State := (s.modTile p Tile.rowOver).putAt p 0x5020 0x06 1

/-- The row leaves the queue of its pass, reported to Swizeoth. -/
def State.rowLeaves (s : State) (p row : Nat) (j : RowJob) : State :=
  ((s.rowEnded p).rowReport p j).modTile p (fun x => x.rowLeft row)

theorem rowEnded_passState : SamePart Tile.passState p s (s.rowEnded p) :=
  SamePart.trans (modTile_part (f := Tile.rowOver) (fun _ => rfl) fun _ => rfl) (SamePart.of_tiles State.putAt_tiles)

theorem rowEnded_transfer : OnlySubs 0x5020 [0x06] s (s.rowEnded p) :=
  onlySubs_putAt (fun _ _ _ _ => State.regAt_modTile) (by decide)

theorem rowLeaves_transfer : OnlySubs 0x5020 [0x08, 0x09, 0x0A, 0x0B] (s.rowEnded p) (s.rowLeaves p row j) :=
  rowReport_transfer.of_object fun _ _ => State.regAt_modTile

theorem rowLeaves_passState : ((s.rowLeaves p row j).tile p).passState =
    ((s.tile p).inPass, (s.tile p).queue.filter (fun x => x.row != row), (s.tile p).nextQueue) := by
  obtain ⟨hpass, hwait⟩ := Prod.mk.inj (rowEnded_passState (s := s) (p := p))
  obtain ⟨hqueue, hnext⟩ := Prod.mk.inj hwait
  rw [State.rowLeaves, tile_modTile_self (f := fun x => x.rowLeft row) fun _ => rfl, tile_of_tiles rowReport_tiles,
    Tile.passState, Tile.rowLeft, hpass, hqueue, hnext]

theorem rowLeaves_shown : (s.rowLeaves p row j).regAt p 0x5020 0x06 = 1 :=
  (rowLeaves_transfer _ _ (by decide) (by decide)).trans State.regAt_putAt_self

theorem rowLeaves_rows : (s.rowLeaves p row j).val64At p 0x5020 0x08 = (s.val64At p 0x5020 0x08 + 1) % 2 ^ 64 := by
  rw [State.rowLeaves, SameObject.val64At (s := (s.rowEnded p).rowReport p j) fun _ _ => State.regAt_modTile,
    rowReport_rows, OnlySubs.val64At rowEnded_transfer (by decide) (by decide)]

/-! ### The pass ends with its last row -/

/-- The pass of a tile has ended: the rows put off wait for the next. -/
def Tile.passEnded (x : Tile) : Tile :=
  { x with inPass := false, paused := false, owed := 0, queue := x.nextQueue, nextQueue := [], written := [] }

/-- The pass goes on with the rows that are left, or ends with the last. -/
def State.passGoesOn (s : State) (p : Nat) : State := (s.passEnds p).showQueue p

theorem showQueue_transfer : OnlySubs 0x5020 [0x07] s (s.showQueue p) :=
  onlySubs_putAt (OnlySubs.refl _ _ s) (by decide)

theorem passEnds_transfer : OnlySubs 0x5020 [0x06] s (s.passEnds p) := by
  unfold State.passEnds
  dsimp only
  split
  · exact onlySubs_putAt (fun _ _ _ _ => State.regAt_modTile) (by decide)
  · exact OnlySubs.refl _ _ s

theorem passGoesOn_transfer : OnlySubs 0x5020 [0x06, 0x07] s (s.passGoesOn p) :=
  (onlySubs_mono passEnds_transfer (by decide)).trans (onlySubs_mono showQueue_transfer (by decide))

theorem passGoesOn_last (h : (s.tile p).queue = []) : ((s.passGoesOn p).tile p).inPass = false ∧
    ((s.passGoesOn p).tile p).queue = (s.tile p).nextQueue ∧ (s.passGoesOn p).regAt p 0x5020 0x06 = 0 := by
  have hends : s.passEnds p = (s.modTile p Tile.passEnded).putAt p 0x5020 0x06 0 := if_pos (by rw [h, List.isEmpty_nil])
  have htile : (s.passGoesOn p).tile p = (s.tile p).passEnded := by
    rw [State.passGoesOn, hends]
    exact (tile_of_tiles (State.putAt_tiles.trans State.putAt_tiles)).trans (tile_modTile_self fun _ => rfl)
  refine ⟨by rw [htile, Tile.passEnded], by rw [htile, Tile.passEnded], ?_⟩
  rw [State.passGoesOn, hends, showQueue_transfer _ _ (by decide) (by decide), State.regAt_putAt_self]

theorem passGoesOn_more (h : (s.tile p).queue ≠ []) : (s.passGoesOn p).tile p = s.tile p ∧
    (s.passGoesOn p).regAt p 0x5020 0x06 = s.regAt p 0x5020 0x06 := by
  have hends : s.passEnds p = s := if_neg (by simpa using h)
  rw [State.passGoesOn, hends]
  exact ⟨tile_of_tiles State.putAt_tiles, showQueue_transfer _ _ (by decide) (by decide)⟩

/-! ### The command -/

/-- What the row leaves of the pass: the rows beside it. -/
theorem rowPassed_leaves : (((s.rowPassed p row pl meas).rowLeaves p row j).tile p).inPass = (s.tile p).inPass ∧
    (((s.rowPassed p row pl meas).rowLeaves p row j).tile p).queue =
      (s.tile p).queue.filter (fun x => x.row != row) ∧
    (((s.rowPassed p row pl meas).rowLeaves p row j).tile p).nextQueue = (s.tile p).nextQueue := by
  obtain ⟨hin, hwait⟩ := Prod.mk.inj
    (rowLeaves_passState (s := s.rowPassed p row pl meas) (p := p) (row := row) (j := j))
  obtain ⟨hqueue, hnext⟩ := Prod.mk.inj hwait
  obtain ⟨hin', hwait'⟩ := Prod.mk.inj (rowPassed_passState (s := s) (p := p) (row := row) (pl := pl) (meas := meas))
  obtain ⟨hqueue', hnext'⟩ := Prod.mk.inj hwait'
  exact ⟨hin.trans hin', hqueue.trans (by rw [hqueue']), hnext.trans hnext'⟩

theorem exec_transferRowComplete_waits (hp : s.key.powered = true)
    (hj : (s.tile p).queue.find? (fun j => j.row == row) = some j)
    (hwait : (s.tile p).inPass = false ∨ s.rowFree p = false ∨ s.relocatedTile p = true) :
    exec (.transferRowComplete p row meas) s = .next s := by
  change execTransferRowComplete p row meas s = _
  unfold execTransferRowComplete
  rw [onPower_on hp]
  dsimp only
  rw [hj]
  exact congrArg _ (if_pos (by simpa [or_assoc] using hwait))

section Passes

variable (hp : s.key.powered = true) (hj : (s.tile p).queue.find? (fun j => j.row == row) = some j)
  (hpass : (s.tile p).inPass = true) (hfree : s.rowFree p = true) (hhome : s.relocatedTile p = false)
  (hphys : s.physTile (s.logicalOr p) = some p)
  (hpl : (s.tile p).changePlan row j.targets j.carry.contains = pl)
  (hcols : missed (s.rowWrites p row pl meas) meas = [])

include hp hj hpass hfree hhome hphys hpl hcols

theorem exec_transferRowComplete : exec (.transferRowComplete p row meas) s =
    .next (((s.rowPassed p row pl meas).rowLeaves p row j).passGoesOn p) := by
  have hserves : ((s.rowPassed p row pl meas).physTile (s.logicalOr p)).getD p = p := by
    unfold State.physTile at hphys ⊢
    rw [rowPassed_fabric, hphys, Option.getD_some]
  change execTransferRowComplete p row meas s = _
  unfold execTransferRowComplete
  rw [onPower_on hp]
  dsimp only
  rw [hj]
  dsimp only
  rw [if_neg (by simp [hpass, hfree, hhome]), hpl, writeRow_passed hcols]
  dsimp only
  rw [if_pos rfl, if_neg nofun]
  unfold State.rowPassed at hserves
  rw [hserves, if_pos rfl]
  rfl

theorem transferRowComplete_leaves : Reaches (.transferRowComplete p row meas) s (fun t =>
    t.val64At p 0x5020 0x08 = (s.val64At p 0x5020 0x08 + 1) % 2 ^ 64 ∧
    ((s.tile p).queue.filter (fun x => x.row != row) = [] → (t.tile p).inPass = false ∧
      (t.tile p).queue = (s.tile p).nextQueue ∧ t.regAt p 0x5020 0x06 = 0) ∧
    ((s.tile p).queue.filter (fun x => x.row != row) ≠ [] → (t.tile p).inPass = true ∧
      (t.tile p).queue = (s.tile p).queue.filter (fun x => x.row != row) ∧ t.regAt p 0x5020 0x06 = 1) ∧
    SameHbm s t ∧ SameSec s t) := by
  have hexec := exec_transferRowComplete hp hj hpass hfree hhome hphys hpl hcols
  obtain ⟨hin, hqueue, hnext⟩ := rowPassed_leaves (s := s) (p := p) (row := row) (pl := pl) (meas := meas) (j := j)
  refine ⟨_, hexec, ?_, fun hlast => ?_, fun hmore => ?_, ?_, ?_⟩
  · rw [OnlySubs.val64At passGoesOn_transfer (by decide) (by decide), rowLeaves_rows,
      OnlySubs.val64At rowPassed_transfer (by decide) (by decide)]
  · obtain ⟨hended, hwaiting, hshown⟩ := passGoesOn_last (hqueue.trans hlast)
    exact ⟨hended, hwaiting.trans hnext, hshown⟩
  · obtain ⟨htile, hshown⟩ := passGoesOn_more (fun h => hmore (hqueue.symm.trans h))
    rw [htile, hshown]
    exact ⟨hin.trans hpass, hqueue, rowLeaves_shown⟩
  · exact execTransferRowComplete_kept (sameHbm_kept s) (sameHbm_keptC s) (sameHbm_keptT s) (sameHbm_keptB s)
      (sameHbm_keptA s).toD ⟨rfl, rfl⟩ _ hexec
  · exact execTransferRowComplete_kept (sameSec_kept s) (sameSec_keptC s) (sameSec_keptT s) (sameSec_keptB s)
      (sameSec_keptA s).toD rfl _ hexec

end Passes

end Sys2Proof.Machine
end

section
/-! PROOF. O44: GOVERNOR_EVALUATE (R350, R351), and the obligation. -/

namespace Sys2Proof.Machine

open Sys2Proof Sys2Proof.Safety

variable {s : State} {p hottest : Nat} {c : Ctx}

/-! ### The rates, and the threshold that they call for (R350) -/

/-- The hours that a tile's cells are to last. -/
def State.lifeLeft (s : State) (p : Nat) : Nat :=
  max (s.val 0x5030 0x01 - s.valAt p 0x5020 0x03) (s.val 0x5030 0x05)

/-- The rate measured, as the numerator over the common denominator of both rates. -/
def State.wearRate (s : State) (p hottest : Nat) : Nat := hottest * 3600 * s.lifeLeft p

/-- The rate allowed, as the numerator over the common denominator of both rates. -/
def State.wearAllowed (s : State) (p : Nat) : Nat := (1000000 - s.valAt p 0x4001 0x12) * s.val 0x5030 0x02

/-- Both rates are shown. -/
def State.ratesShown (s : State) (p hottest : Nat) : State :=
  (s.putAt p 0x5020 0x04 (toWord ((1000000 - s.valAt p 0x4001 0x12) / s.lifeLeft p))).putAt p 0x5020 0x05
    (toWord (hottest * 3600 / s.val 0x5030 0x02))

/-- The rate is at most half of what is allowed, and the threshold may fall. -/
def State.wearLow (s : State) (p hottest : Nat) : Bool :=
  decide (2 * s.wearRate p hottest ≤ s.wearAllowed p ∧ 1 < s.valAt p 0x5020 0x02)

/-- Windows in a row with a low rate. -/
def State.lowRuns (s : State) (p hottest : Nat) : Nat :=
  if s.wearLow p hottest then ((s.ratesShown p hottest).tile p).lowWindows + 1 else 0

/-- The threshold falls after enough such windows. -/
def State.thetaFalls (s : State) (p hottest : Nat) : Bool :=
  decide ((s.ratesShown p hottest).val 0x5030 0x03 ≤ s.lowRuns p hottest) && s.wearLow p hottest

/-- The threshold that follows: up by one and at most 16, down by one, or as it is. -/
def State.thetaNext (s : State) (p hottest : Nat) : Nat :=
  if s.wearAllowed p < s.wearRate p hottest then min 16 (s.valAt p 0x5020 0x02 + 1)
  else if s.thetaFalls p hottest then s.valAt p 0x5020 0x02 - 1 else s.valAt p 0x5020 0x02

theorem thetaNext_rises (h : s.wearAllowed p < s.wearRate p hottest) :
    s.thetaNext p hottest = min 16 (s.valAt p 0x5020 0x02 + 1) := if_pos h

theorem thetaNext_stays (h : s.wearRate p hottest ≤ s.wearAllowed p) (h' : s.wearAllowed p < 2 * s.wearRate p hottest) :
    s.thetaNext p hottest = s.valAt p 0x5020 0x02 := by
  have hlow : s.wearLow p hottest = false := decide_eq_false fun hlow => by omega
  unfold State.thetaNext State.thetaFalls
  rw [if_neg (by omega), hlow, Bool.and_false, if_neg Bool.false_ne_true]

theorem thetaNext_lt : s.thetaNext p hottest < 2 ^ 32 := by
  have hold : s.valAt p 0x5020 0x02 < 2 ^ 32 := BitVec.isLt _
  unfold State.thetaNext
  split_ifs <;> omega

/-! ### The threshold moves (R350, R351) -/

/-- The threshold and its flags are written: above its least, and held at its most. -/
def State.thetaMoved (s : State) (p hottest : Nat) : State :=
  let noted := (s.ratesShown p hottest).modTile p (fun x =>
    { x with lowWindows := if s.thetaFalls p hottest then 0 else s.lowRuns p hottest })
  ((noted.putAt p 0x5020 0x02 (toWord (s.thetaNext p hottest))).putBitAt p 0x5020 0x0D 0
    (decide (1 < s.thetaNext p hottest))).putBitAt p 0x5020 0x0D 1
    (decide (s.wearAllowed p < s.wearRate p hottest ∧ s.valAt p 0x5020 0x02 = 16))

/-- A threshold that moves, or may rise no further, is logged. -/
def State.thetaLogged (s : State) (p hottest : Nat) : State :=
  if s.wearAllowed p < s.wearRate p hottest ∧ s.valAt p 0x5020 0x02 = 16 then
    (s.thetaMoved p hottest).log { cls := clsWarning, unit := unitTile p, obj := counter 0x5020 0x0D }
  else if s.thetaNext p hottest ≠ s.valAt p 0x5020 0x02 then
    (s.thetaMoved p hottest).log { cls := clsInformation, unit := unitTile p, obj := counter 0x5020 0x02 }
  else s.thetaMoved p hottest

theorem thetaMoved_theta : (s.thetaMoved p hottest).valAt p 0x5020 0x02 = s.thetaNext p hottest := by
  unfold State.thetaMoved State.valAt
  dsimp only
  rw [State.regAt_putBitAt, if_neg (by simp), State.regAt_putBitAt, if_neg (by simp), State.regAt_putAt_self,
    toWord_toNat thetaNext_lt]

theorem thetaMoved_flag : (s.thetaMoved p hottest).flagAt p 0x5020 0x0D 0 = decide (1 < s.thetaNext p hottest) := by
  unfold State.thetaMoved
  dsimp only
  rw [State.flagAt_putBitAt, if_neg (by decide), State.flagAt_putBitAt, if_pos rfl]
  exact Bool.true_and _

theorem thetaLogged_object : SameObject 0x5020 (s.thetaMoved p hottest) (s.thetaLogged p hottest) := by
  have hlogged {e : Event} : SameObject 0x5020 (s.thetaMoved p hottest) ((s.thetaMoved p hottest).log e) :=
    State.log_kept (sameObject_kept _ _) (sameObject_keptD _ (by decide)) (SameObject.refl _ _)
  unfold State.thetaLogged
  split_ifs
  · exact hlogged
  · exact hlogged
  · exact SameObject.refl _ _

/-- The endurance flag is another bit of the word (R351). -/
theorem noteEndurance_flag : (s.noteEndurance p).flagAt p 0x5020 0x0D 0 = s.flagAt p 0x5020 0x0D 0 := by
  unfold State.noteEndurance
  split
  · have hraised : SameObject 0x5020 (s.putBitAt p 0x5020 0x0D 2 true)
        ((s.putBitAt p 0x5020 0x0D 2 true).raiseReplace (halfOf (tileHalf p)) 2) :=
      State.raiseReplace_kept (sameObject_keptD _ (by decide)) (SameObject.refl _ _)
    exact (congrArg (bit · 0) (hraised p 0x0D)).trans (State.flagAt_putBitAt.trans (if_neg (by decide)))
  · rfl

/-! ### The command -/

section Evaluate

variable (hp : s.key.powered = true) (howner : (s.fabric.logical p).bind s.ownerOf = some c)
  (hruns : s.runs (halfOf (tileHalf p)) = true) (hclass : exactE s c.n = false)

include hp howner hruns hclass

theorem exec_governorEvaluate :
    exec (.governorEvaluate p hottest) s = .next ((s.thetaLogged p hottest).noteEndurance p) := by
  change execGovernorEvaluate p hottest s = _
  unfold execGovernorEvaluate
  rw [onPower_on hp, howner]
  dsimp only
  rw [if_neg (by simp [hruns, hclass])]
  rfl

theorem governorEvaluate_moves : Reaches (.governorEvaluate p hottest) s (fun t =>
    (s.wearAllowed p < s.wearRate p hottest → t.valAt p 0x5020 0x02 = min 16 (s.valAt p 0x5020 0x02 + 1)) ∧
    (s.wearRate p hottest ≤ s.wearAllowed p → s.wearAllowed p < 2 * s.wearRate p hottest →
      t.valAt p 0x5020 0x02 = s.valAt p 0x5020 0x02) ∧
    t.flagAt p 0x5020 0x0D 0 = decide (1 < t.valAt p 0x5020 0x02) ∧
    OnlyIn [0x0080, 0x5020, 0x7040, 0xF030] s t ∧ SameHbm s t ∧ SameCtxs s t) := by
  have hexec := exec_governorEvaluate (hottest := hottest) hp howner hruns hclass
  have htheta : ((s.thetaLogged p hottest).noteEndurance p).valAt p 0x5020 0x02 = s.thetaNext p hottest := by
    rw [OnlySubs.valAt noteEndurance_subs (by decide), State.valAt, thetaLogged_object, ← State.valAt, thetaMoved_theta]
  refine ⟨_, hexec, fun h => htheta.trans (thetaNext_rises h), fun h h' => htheta.trans (thetaNext_stays h h'), ?_, ?_,
    ?_, ?_⟩
  · rw [htheta, noteEndurance_flag, State.flagAt, thetaLogged_object, ← State.flagAt, thetaMoved_flag]
  · exact onlyIn_of_keptD (by decide) fun i kd => execGovernorEvaluate_kept (sameObject_kept i s)
      (sameObject_keptT i s) kd (SameObject.refl i s) _ hexec
  · exact execGovernorEvaluate_kept (sameHbm_kept s) (sameHbm_keptT s) (sameHbm_keptA s).toD ⟨rfl, rfl⟩ _ hexec
  · exact execGovernorEvaluate_kept (sameCtxs_kept s) (sameCtxs_keptT s) (sameCtxs_keptA s).toD rfl _ hexec

end Evaluate

/-- Settles O44: UPDATE_START by whether S is finite, UPDATE_COMPLETE; a pass that starts and one that waits for a
snapshot, a row that waits and one that leaves its pass; the governor by what the rates call for. -/
theorem updatesAndTransfers : Obligations.UpdatesAndTransfers := by
  unfold Obligations.UpdatesAndTransfers
  exact fun s hp => ⟨fun n c k rest sum hc hk hsum hruns hawake hrel hidle hfirst hreplay =>
      ⟨updateStart_begins hp hc hk hsum hruns hawake hrel hidle hfirst hreplay,
        updateStart_skips hp hc hk hsum hruns hawake hrel hidle hfirst hreplay⟩,
    fun n c k rest hc hk hrunning hruns hheld => updateComplete_ends hp hc hk hrunning hruns hheld,
    fun p hruns hqueue hpass hprog hawake hhome =>
      ⟨transferPassStart_starts hp hruns hqueue hpass hprog hawake hhome,
        transferPassStart_waits hp hruns hqueue hpass hprog hawake hhome⟩,
    fun p row meas j hj => ⟨fun hwait => ⟨s, exec_transferRowComplete_waits hp hj hwait, rfl⟩,
      fun hpass hfree hhome hphys hcols => transferRowComplete_leaves hp hj hpass hfree hhome hphys rfl hcols⟩,
    fun p c hottest howner hruns hclass => governorEvaluate_moves hp howner hruns hclass⟩

end Sys2Proof.Machine
end

section
/-! SUPPORT. What hubs and spokes leave of a state: the spoke, lane and outputs that each operation changes (R360 to
R363). -/

namespace Sys2Proof.Machine

open Sys2Proof Sys2Proof.Safety

variable {s t : State} {h k : HalfId} {n m : Nat} {f : Frame}

/-! ### A spoke changed -/

/-- The names and what training settles of a spoke: all but its frames and credits. -/
def Spoke.trained (x : Spoke) : HalfId × Nat × Bool × Bool × Bool := (x.half, x.num, x.conflict, x.linkKey, x.again)

theorem spoke_named : (s.spoke h n).half = h ∧ (s.spoke h n).num = n := by
  unfold State.spoke
  cases hx : s.spokes.find? (fun x => x.half == h && x.num == n) with
  | none => exact ⟨rfl, rfl⟩
  | some x => simpa using List.find?_some hx

theorem spoke_of_spokes (e : t.spokes = s.spokes) : t.spoke h n = s.spoke h n := by
  unfold State.spoke
  rw [e]

theorem spoke_modSpoke_self {g : Spoke → Spoke}
    (hg : (g (s.spoke h n)).half = (s.spoke h n).half ∧ (g (s.spoke h n)).num = (s.spoke h n).num) :
    (s.modSpoke h n g).spoke h n = g (s.spoke h n) := by
  obtain ⟨hhalf, hnum⟩ := spoke_named (s := s) (h := h) (n := n)
  obtain ⟨ghalf, gnum⟩ := hg
  have hfound : (s.modSpoke h n g).spokes.find? (fun x => x.half == h && x.num == n) = some (g (s.spoke h n)) :=
    find?_replaceBy_self (by simp [ghalf, gnum, hhalf, hnum])
  rw [State.spoke, hfound, Option.getD_some]

theorem spoke_modSpoke_ne {g : Spoke → Spoke}
    (hg : (g (s.spoke h n)).half = (s.spoke h n).half ∧ (g (s.spoke h n)).num = (s.spoke h n).num)
    (hne : (k, m) ≠ (h, n)) : (s.modSpoke h n g).spoke k m = s.spoke k m := by
  obtain ⟨hhalf, hnum⟩ := spoke_named (s := s) (h := h) (n := n)
  obtain ⟨ghalf, gnum⟩ := hg
  have hfound : (s.modSpoke h n g).spokes.find? (fun x => x.half == k && x.num == m) =
      s.spokes.find? (fun x => x.half == k && x.num == m) := by
    refine find?_replaceBy_of_not ?_ fun x hx => ?_
    · by_contra hx
      simp only [Bool.not_eq_false, Bool.and_eq_true, beq_iff_eq] at hx
      exact hne (by rw [← hx.1, ← hx.2, ghalf, gnum, hhalf, hnum])
    · by_contra hx'
      simp only [Bool.not_eq_false, Bool.and_eq_true, beq_iff_eq] at hx hx'
      exact hne (by rw [← hx'.1, ← hx'.2, hx.1, hx.2])
  rw [State.spoke, hfound, ← State.spoke]

/-! ### Links -/

theorem linkUp_of_sameObject (hs : SameObject 0x6003 s t) : t.linkUp h n = s.linkUp h n := by
  unfold State.linkUp State.linkState State.valAt
  rw [hs]

theorem linkUp_iff : s.linkUp h n = true ↔ s.linkState h n = lkUp ∨ s.linkState h n = lkUp2 := by
  simp [State.linkUp]

/-- A port leads to a spoke that is up (R371, R372). -/
theorem portSpoke_up {port : Nat} {q : HalfId × Nat} (hq : s.portSpoke h port = some q) : s.linkUp q.1 q.2 = true := by
  unfold State.portSpoke at hq
  split_ifs at hq <;> (obtain rfl := Option.some.inj hq; assumption)

/-! ### Transmission (R362) -/

theorem foldl_emit_out {α : Type} (g : α → Out) : ∀ (l : List α) (t : State),
    (l.foldl (fun t x => t.emit (g x)) t).out = t.out ++ l.map g
  | [], t => (List.append_nil _).symm
  | x :: l, t => by
    rw [List.foldl_cons, foldl_emit_out g l, State.emit_out, List.map_cons, List.append_assoc, List.singleton_append]

theorem foldl_emit_spokes {α : Type} (g : α → Out) (l : List α) :
    (l.foldl (fun t x => t.emit (g x)) s).spokes = s.spokes :=
  Kept.foldl (P := fun t => t.spokes = s.spokes) (fun _ _ ht => State.emit_spokes.trans ht) rfl

/-- Sending frames changes a spoke's frames and credits alone. -/
theorem Spoke.pump_trained (x : Spoke) : x.pump.1.trained = x.trained := by
  unfold Spoke.pump
  dsimp only
  have hfold : ∀ (l : List Frame) (a : Spoke × List Frame × List Nat), a.1.trained = x.trained →
      (l.foldl (fun (a : Spoke × List Frame × List Nat) f =>
        let x := a.1
        let have' := x.credits.getD f.vc 0
        if a.2.2.contains f.vc || have' == 0 || decide (524288 < replayBytes x.replay + frameBytes f) then
          ({ x with queue := x.queue ++ [f] }, a.2.1, a.2.2 ++ [f.vc])
        else
          ({ x with replay := x.replay ++ [f],
                    credits := (List.range 4).map (fun v => x.credits.getD v 0 - (if v = f.vc then 1 else 0)) },
            a.2.1 ++ [f], a.2.2)) a).1.trained = x.trained := by
    intro l
    induction l with
    | nil => exact fun _ ha => ha
    | cons f l ih =>
      intro a ha
      refine ih _ ?_
      dsimp only
      split <;> exact ha
  exact hfold _ _ rfl

/-- A spoke without queued frames sends none. -/
theorem Spoke.pump_empty {x : Spoke} (hq : x.queue = []) : x.pump = (x, []) := by
  unfold Spoke.pump
  rw [hq]
  cases x
  cases hq
  rfl

/-- A single queued frame that finds credit and room leaves for the replay buffer. -/
theorem Spoke.pump_single {x : Spoke} (hq : x.queue = [f]) (hcredit : 0 < x.credits.getD f.vc 0)
    (hroom : replayBytes x.replay + frameBytes f ≤ 524288) :
    x.pump.2 = [f] ∧ x.pump.1.replay = x.replay ++ [f] := by
  unfold Spoke.pump
  rw [hq]
  dsimp only [List.foldl_cons, List.foldl_nil]
  rw [if_neg (by
    simp only [List.contains_nil, Bool.false_or, Bool.or_eq_true, beq_iff_eq, decide_eq_true_eq]
    omega)]
  exact ⟨rfl, rfl⟩

theorem pump_eq (hup : s.linkUp h n = true) : s.pump h n =
    (s.spoke h n).pump.2.foldl (fun t f => t.emit (.frame h n f)) (s.modSpoke h n (fun _ => (s.spoke h n).pump.1)) := by
  unfold State.pump
  rw [if_pos hup]

theorem pump_down (hdown : s.linkUp h n = false) : s.pump h n = s := by
  unfold State.pump
  rw [if_neg (by simp [hdown])]

theorem Spoke.pump_named {x : Spoke} : x.pump.1.half = x.half ∧ x.pump.1.num = x.num :=
  have hkept := Spoke.pump_trained x
  ⟨congrArg (fun y : HalfId × Nat × Bool × Bool × Bool => y.1) hkept,
    congrArg (fun y : HalfId × Nat × Bool × Bool × Bool => y.2.1) hkept⟩

/-- A spoke that is up sends what it may, and stands as that leaves it. -/
theorem pump_spoke (hup : s.linkUp h n = true) : (s.pump h n).spoke h n = (s.spoke h n).pump.1 := by
  rw [pump_eq hup, spoke_of_spokes (foldl_emit_spokes _ _)]
  exact spoke_modSpoke_self Spoke.pump_named

theorem pump_trained : ((s.pump h n).spoke h n).trained = (s.spoke h n).trained := by
  cases hup : s.linkUp h n with
  | false => rw [pump_down hup]
  | true => rw [pump_spoke hup, Spoke.pump_trained]

theorem pump_linkKey : ((s.pump h n).spoke h n).linkKey = (s.spoke h n).linkKey :=
  congrArg (fun y : HalfId × Nat × Bool × Bool × Bool => y.2.2.2.1) pump_trained

theorem pump_again : ((s.pump h n).spoke h n).again = (s.spoke h n).again :=
  congrArg (fun y : HalfId × Nat × Bool × Bool × Bool => y.2.2.2.2) pump_trained

theorem pump_spoke_ne (hne : (k, m) ≠ (h, n)) : (s.pump h n).spoke k m = s.spoke k m := by
  unfold State.pump
  split
  · exact (spoke_of_spokes (foldl_emit_spokes _ _)).trans (spoke_modSpoke_ne Spoke.pump_named hne)
  · rfl

theorem pump_out (hup : s.linkUp h n = true) :
    (s.pump h n).out = s.out ++ (s.spoke h n).pump.2.map (Out.frame h n) := by
  rw [pump_eq hup, foldl_emit_out]
  rfl

/-- A spoke without queued frames stays as it is. -/
theorem pump_idle (hq : (s.spoke h n).queue = []) :
    (s.pump h n).spoke h n = s.spoke h n ∧ (s.pump h n).out = s.out := by
  cases hup : s.linkUp h n with
  | false =>
    rw [pump_down hup]
    exact ⟨rfl, rfl⟩
  | true =>
    rw [pump_spoke hup, pump_out hup, Spoke.pump_empty hq]
    exact ⟨rfl, List.append_nil _⟩

theorem pump_dict : SameDict s (s.pump h n) := State.pump_kept (sameDict_kept s) (sameDict_keptL s) rfl

end Sys2Proof.Machine
end

section
/-! PROOF. O41: frames delivered, forwarded or dropped and counted, gaps, acknowledgements and credits (R360, R362,
R363, R370 to R372). -/

namespace Sys2Proof.Machine

open Sys2Proof Sys2Proof.Safety

variable {s t : State} {h : HalfId} {f : Frame} {l : Lane} {src vc n k count : Nat} {q : HalfId × Nat}

/-! ### Lanes -/

/-- The lane in which a half hears a source on a virtual channel. -/
def State.laneOf (s : State) (h : HalfId) (src vc : Nat) : Option Lane :=
  s.lanes.find? (fun x => x.half == h && x.src == src && x.vc == vc)

theorem laneOf_named (hl : s.laneOf h src vc = some l) : l.half = h ∧ l.src = src ∧ l.vc = vc := by
  simpa [and_assoc] using List.find?_some hl

theorem laneOf_setLane (hnamed : l.half = h ∧ l.src = src ∧ l.vc = vc) : (s.setLane l).laneOf h src vc = some l := by
  obtain ⟨rfl, rfl, rfl⟩ := hnamed
  exact find?_replaceBy_self (by simp)

theorem laneOf_of_lanes (e : t.lanes = s.lanes) : t.laneOf h src vc = s.laneOf h src vc := by
  unfold State.laneOf
  rw [e]

theorem log_lanes {e : Event} : (s.log e).lanes = s.lanes := by
  have hcper {t : State} {r : Record} : (t.cperAdd r).lanes = t.lanes := by
    unfold State.cperAdd
    split
    · exact State.put_lanes
    · exact State.bump_lanes
  have hsignal {t : State} {c : Nat} {k : Option HalfId} : (t.recordSignal c k).lanes = t.lanes := by
    unfold State.recordSignal
    extract_lets v u
    split
    · rfl
    · cases k with
      | none => exact State.signal_lanes
      | some h => exact State.signal_lanes.trans State.signal_lanes
  unfold State.log
  exact hsignal.trans (State.traceAdd_lanes.trans (hcper.trans State.emit_lanes))

theorem setBuf_lanes {b : SlotBuf} : (s.setBuf b).lanes = s.lanes := by
  have hshown {t : State} : OnlyDict t (t.showSlot b.half b.slot) :=
    State.showSlot_kept (onlyDict_keptA t).toD (onlyDict_refl t)
  unfold State.setBuf
  rw [hshown]

/-- The frames of a lost copy leave the lanes as they are. -/
theorem loseCopies_lanes : (s.loseCopies h src).lanes = s.lanes := by
  unfold State.loseCopies
  refine Kept.foldl (P := fun t => t.lanes = s.lanes) (fun t k ht => ?_) rfl
  split
  · refine Kept.foldl (P := fun t => t.lanes = s.lanes) (fun u b hu => ?_) ht
    split
    · exact log_lanes.trans (State.bump_lanes.trans (setBuf_lanes.trans hu))
    · exact hu
  · exact ht

/-! ### Delivery (R363) -/

theorem handFrame_out : (s.handFrame h f).out = s.out ++ [.delivered h f] := State.add64_out.trans State.emit_out

theorem handFrame_spokes : SameSpokes s (s.handFrame h f) := State.add64_spokes.trans State.emit_spokes

theorem handFrame_counts : (s.handFrame h f).val64 (hubIndex h) 0x04 = (s.val64 (hubIndex h) 0x04 + 1) % 2 ^ 64 :=
  val64_add64_self

theorem handFrame_onlyIn : OnlyIn [hubIndex h] s (s.handFrame h f) :=
  onlyIn_of_keptD (by cases h <;> rfl) fun i kd =>
    State.add64_kept (kd.mem (List.mem_singleton_self _)) (State.emit_kept (sameObject_kept i s) (SameObject.refl i s))

/-- Without early frames nothing more comes into order. -/
theorem drain_empty (he : l.early = []) : s.drain h k l = (s, l) := by
  cases k with
  | zero => rfl
  | succ k => rw [State.drain, he, List.find?_nil]

/-- A frame that its lane expects, or that begins one, is handed to the half, and the lane goes on behind it. -/
theorem deliver_hands (hl : (s.laneOf h f.src f.vc).getD
      { half := h, src := f.src, vc := f.vc, next := f.seq, early := [], resume := true } = l)
    (hnext : l.resume = true ∨ l.next = f.seq) (he : l.early = []) :
    s.deliver h f = (s.handFrame h f).setLane { l with next := seqAfter f.seq, resume := false } := by
  have hnow : l.resume = true ∨ (f.seq + 65536 - l.next) % 65536 = 0 := by
    rcases hnext with hresume | hseq
    · exact .inl hresume
    · exact .inr (by omega)
  rw [State.laneOf] at hl
  unfold State.deliver
  rw [hl]
  dsimp only
  rw [if_pos hnow, drain_empty (l := { l with next := seqAfter f.seq, resume := false }) he]

/-- A frame behind its lane came before: it is counted and goes. -/
theorem deliver_late (hl : s.laneOf h f.src f.vc = some l) (hresume : l.resume = false)
    (hbehind : 32768 ≤ (f.seq + 65536 - l.next) % 65536) : s.deliver h f = s.bump (hubIndex h) 0x06 := by
  rw [State.laneOf] at hl
  unfold State.deliver
  rw [hl]
  dsimp only [Option.getD_some]
  rw [if_neg (by rw [hresume]; simp; omega), if_pos hbehind]

theorem takeFrame_delivers (htag : f.tagOk = true) (hkey : s.keyHeld h f = true) (hnear : f.neighbour = false) :
    s.takeFrame h f = s.deliver h f := by
  unfold State.takeFrame
  rw [if_neg (by simp [htag, hkey]), if_neg (by simp [hnear])]

/-! ### Forwarding (R371, R372) -/

/-- A frame queued for an idle spoke that is up, with credit and room, leaves at once. -/
theorem enqueue_sends (hup : s.linkUp h n = true) (hq : (s.spoke h n).queue = [])
    (hcredit : 0 < (s.spoke h n).credits.getD f.vc 0)
    (hroom : replayBytes (s.spoke h n).replay + frameBytes f ≤ 524288) :
    (s.enqueue h n f).out = s.out ++ [.frame h n f] ∧
      ((s.enqueue h n f).spoke h n).replay = (s.spoke h n).replay ++ [f] := by
  have hset : (s.modSpoke h n (fun x => { x with queue := x.queue ++ [f] })).spoke h n =
      { s.spoke h n with queue := (s.spoke h n).queue ++ [f] } := spoke_modSpoke_self ⟨rfl, rfl⟩
  have hupNow : (s.modSpoke h n (fun x => { x with queue := x.queue ++ [f] })).linkUp h n = true := hup
  obtain ⟨hsent, hreplay⟩ := Spoke.pump_single (x := { s.spoke h n with queue := (s.spoke h n).queue ++ [f] })
    (f := f) (by rw [hq, List.nil_append]) hcredit hroom
  constructor
  · rw [State.enqueue, pump_out hupNow, hset, hsent]
    rfl
  · rw [State.enqueue, pump_spoke hupNow, hset, hreplay]

/-- Counting a hub's frames leaves the links as they are. -/
theorem hubCounted_links {sub d : Nat} : SameObject 0x6003 s (s.add64 (hubIndex h) sub d) :=
  have kd : KeptD (SameObject 0x6003 s) [hubIndex h] := sameObject_keptD s (by cases h <;> decide)
  State.add64_kept (kd.mem (List.mem_singleton_self _)) (SameObject.refl 0x6003 s)

/-- A frame to forward whose port leads to an idle spoke leaves there, counted. -/
theorem sendOn_sends (hother : s.route h f.dest % 32 ≠ 30) (hport : s.portSpoke h (s.route h f.dest % 32) = some q)
    (hq : (s.spoke q.1 q.2).queue = []) (hcredit : 0 < (s.spoke q.1 q.2).credits.getD f.vc 0)
    (hroom : replayBytes (s.spoke q.1 q.2).replay + frameBytes f ≤ 524288) :
    (s.sendOn h f true).out = s.out ++ [.frame q.1 q.2 f] ∧
      ((s.sendOn h f true).spoke q.1 q.2).replay = (s.spoke q.1 q.2).replay ++ [f] ∧
      (s.sendOn h f true).val64 (hubIndex h) 0x02 = (s.val64 (hubIndex h) 0x02 + 1) % 2 ^ 64 := by
  have hspoke : (s.add64 (hubIndex h) 0x02 1).spoke q.1 q.2 = s.spoke q.1 q.2 := spoke_of_spokes State.add64_spokes
  have hup : (s.add64 (hubIndex h) 0x02 1).linkUp q.1 q.2 = true :=
    (linkUp_of_sameObject hubCounted_links).trans (portSpoke_up hport)
  have hsend : s.sendOn h f true = (s.add64 (hubIndex h) 0x02 1).enqueue q.1 q.2 f := by
    unfold State.sendOn
    dsimp only
    rw [if_neg hother, hport]
    rfl
  obtain ⟨hout, hreplay⟩ := enqueue_sends (f := f) hup (hspoke ▸ hq) (hspoke ▸ hcredit) (hspoke ▸ hroom)
  have hdict : SameDict (s.add64 (hubIndex h) 0x02 1) ((s.add64 (hubIndex h) 0x02 1).enqueue q.1 q.2 f) :=
    State.enqueue_kept (sameDict_kept _) (sameDict_keptL _) rfl
  rw [hsend]
  refine ⟨hout.trans (by rw [State.add64_out]), hreplay.trans (by rw [hspoke]), ?_⟩
  rw [← val64_add64_self, State.val64, State.val64At, State.valAt, State.valAt, State.regAt, State.regAt, hdict]
  rfl

/-- A frame without a port that leads on is counted and goes. -/
theorem sendOn_lost {count : Bool} (hfirst : s.route h f.dest % 32 ≠ 30) (hsecond : s.route h f.dest / 256 % 32 ≠ 30)
    (hport : s.portSpoke h (s.route h f.dest % 32) = none)
    (hport' : s.portSpoke h (s.route h f.dest / 256 % 32) = none) :
    s.sendOn h f count = s.bump (hubIndex h) 0x0A := by
  unfold State.sendOn
  dsimp only
  rw [if_neg hfirst, hport]
  dsimp only
  rw [if_neg hsecond, hport']

/-! ### FRAME_ROUTE -/

section Route

variable (hp : s.key.powered = true) (hruns : s.runs h = true) (hhalf : f.half = h) (hup : s.linkUp h f.spoke = true)

include hp hruns hhalf hup

theorem exec_frameRoute_broken (hcrc : f.crcOk = false) : exec (.frameRoute f) s = .next (s.emit (.nak h f.spoke)) := by
  subst hhalf
  change execFrameRoute f s = _
  unfold execFrameRoute
  rw [onPower_on hp]
  dsimp only
  rw [if_neg (by simp [hruns, hup]), if_pos (by simp [hcrc])]

theorem exec_frameRoute (hcrc : f.crcOk = true) : exec (.frameRoute f) s = .next (s.routeFrame h f) := by
  subst hhalf
  change execFrameRoute f s = _
  unfold execFrameRoute
  rw [onPower_on hp]
  dsimp only
  rw [if_neg (by simp [hruns, hup]), if_neg (by simp [hcrc])]

end Route

theorem routeFrame_unknown (hcls : 9 ≤ f.cls) : s.routeFrame h f = s.bump (hubIndex h) 0x07 := by
  unfold State.routeFrame
  exact if_pos hcls

section Route

variable (hcls : f.cls < 9) (hcontrol : f.cls ≠ 7) (hplaced : s.position h ≠ unassigned)
  (hsrc : f.src ≠ s.position h) (hnear : f.neighbour = false)

include hcls hcontrol hplaced hsrc hnear

/-- A frame that is addressed to this position is taken. -/
theorem routeFrame_own (hdest : f.dest = s.position h) : s.routeFrame h f = s.takeFrame h f := by
  unfold State.routeFrame
  dsimp only
  rw [if_neg (by omega), if_neg hcontrol, if_neg hplaced, if_neg (fun hown => hsrc hown.1),
    if_neg (by simp [hnear]), if_pos hdest]

/-- A frame for another position goes on with one hop less while hops are left. -/
theorem routeFrame_through (hdest : f.dest ≠ s.position h) (hagree : (s.spoke h f.spoke).conflict = false) :
    s.routeFrame h f =
      if f.hops ≤ 1 then s.bump (hubIndex h) 0x07 else s.sendOn h { f with hops := f.hops - 1 } true := by
  unfold State.routeFrame
  dsimp only
  rw [if_neg (by omega), if_neg hcontrol, if_neg hplaced, if_neg (fun hown => hsrc hown.1),
    if_neg (by simp [hnear]), if_neg hdest, if_neg (by simp [hagree])]

end Route

/-! ### Gaps (R363, R403) -/

/-- The state with a gap counted, its early frames gone and the record logged. -/
def State.gapClosed (s : State) (h : HalfId) (src vc : Nat) (l : Lane) : State :=
  ((s.bump (hubIndex h) 0x08).setLane { l with early := [], resume := true }).log
    { cls := clsFailure, unit := unitHub h, obj := counter (hubIndex h) 0x08,
      detail := natBytes 2 src ++ natBytes 1 vc }

theorem exec_gapTimeout (hp : s.key.powered = true) (hl : s.laneOf h src vc = some l) (hearly : l.early ≠ []) :
    exec (.gapTimeout h src vc) s =
      .next (if vc = 2 then (s.gapClosed h src vc l).loseCopies h src else s.gapClosed h src vc l) := by
  rw [State.laneOf] at hl
  change execGapTimeout h src vc s = _
  unfold execGapTimeout
  rw [onPower_on hp, hl]
  dsimp only
  rw [if_neg (by simpa using hearly)]
  rfl

theorem gapClosed_lane (hl : s.laneOf h src vc = some l) :
    (s.gapClosed h src vc l).laneOf h src vc = some { l with early := [], resume := true } := by
  obtain ⟨hhalf, hsrc, hvc⟩ := laneOf_named hl
  exact (laneOf_of_lanes log_lanes).trans (laneOf_setLane ⟨hhalf, hsrc, hvc⟩)

theorem gapClosed_counts :
    (s.gapClosed h src vc l).reg (hubIndex h) 0x08 = s.reg (hubIndex h) 0x08 + 1 := by
  have hlogged : SameObject (hubIndex h) (s.bump (hubIndex h) 0x08) (s.gapClosed h src vc l) :=
    State.log_kept (sameObject_kept _ _) (sameObject_keptD _ (by cases h <;> decide))
      (State.setLane_kept (sameObject_kept _ _) (SameObject.refl _ _))
  exact (hlogged.reg 0x08).trans State.reg_bump_self

theorem gapTimeout_ends (hp : s.key.powered = true) (hl : s.laneOf h src vc = some l) (hearly : l.early ≠ []) :
    Reaches (.gapTimeout h src vc) s (fun t => t.reg (hubIndex h) 0x08 = s.reg (hubIndex h) 0x08 + 1 ∧
      t.laneOf h src vc = some { l with early := [], resume := true }) := by
  refine ⟨_, exec_gapTimeout hp hl hearly, ?_⟩
  split
  · have hhub : SameObject (hubIndex h) (s.gapClosed h src vc l) ((s.gapClosed h src vc l).loseCopies h src) :=
      State.loseCopies_kept (sameObject_kept _ _) (sameObject_keptD _ (by cases h <;> decide)) (SameObject.refl _ _)
    exact ⟨(hhub.reg 0x08).trans gapClosed_counts, (laneOf_of_lanes loseCopies_lanes).trans (gapClosed_lane hl)⟩
  · exact ⟨gapClosed_counts, gapClosed_lane hl⟩

/-! ### Link control (R362) -/

theorem linkAck_drops (hp : s.key.powered = true) (hruns : s.runs h = true) (hq : (s.spoke h n).queue = []) :
    Reaches (.linkAck h n count) s (fun t => (t.spoke h n).replay = (s.spoke h n).replay.drop count ∧
      t.out = s.out ∧ SameDict s t) := by
  have hset : (s.modSpoke h n (fun x => { x with replay := x.replay.drop count })).spoke h n =
    { s.spoke h n with replay := (s.spoke h n).replay.drop count } := spoke_modSpoke_self ⟨rfl, rfl⟩
  obtain ⟨hspoke, hout⟩ := pump_idle (by rw [hset]; exact hq)
  refine ⟨(s.modSpoke h n (fun x => { x with replay := x.replay.drop count })).pump h n, ?_, ?_, hout, pump_dict⟩
  · change execLinkAck h n count s = _
    unfold execLinkAck
    rw [onPower_on hp, if_pos hruns]
  · rw [hspoke, hset]

theorem linkNak_repeats (hp : s.key.powered = true) (hruns : s.runs h = true) (hup : s.linkUp h n = true) :
    Reaches (.linkNak h n k) s (fun t => t.out = s.out ++ ((s.spoke h n).replay.drop k).map (.frame h n ·) ∧
      t.regAt (spokeKey h n) 0x6003 0x0A = s.regAt (spokeKey h n) 0x6003 0x0A + 1 ∧ SameSpokes s t) := by
  refine ⟨((s.spoke h n).replay.drop k).foldl (fun t f => t.emit (.frame h n f))
    (s.bumpAt (spokeKey h n) 0x6003 0x0A), ?_, ?_, ?_, (foldl_emit_spokes _ _).trans State.bumpAt_spokes⟩
  · change execLinkNak h n k s = _
    unfold execLinkNak
    rw [onPower_on hp, if_pos (by rw [hruns, hup]; rfl)]
  · rw [foldl_emit_out, State.bumpAt_out]
  · have hsent : SameDict (s.bumpAt (spokeKey h n) 0x6003 0x0A) (((s.spoke h n).replay.drop k).foldl
        (fun t f => t.emit (.frame h n f)) (s.bumpAt (spokeKey h n) 0x6003 0x0A)) :=
      Kept.foldl (P := SameDict _) (fun _ _ ht => State.emit_dict.trans ht) rfl
    rw [State.regAt, hsent, ← State.regAt, State.regAt_bumpAt, if_pos rfl]

theorem linkCredit_adds (hp : s.key.powered = true) (hruns : s.runs h = true) (hvc : vc < 4)
    (hq : (s.spoke h n).queue = []) :
    Reaches (.linkCredit h n vc count) s (fun t =>
      (t.spoke h n).credits.getD vc 0 = (s.spoke h n).credits.getD vc 0 + count ∧
      (t.spoke h n).replay = (s.spoke h n).replay ∧ t.out = s.out ∧ SameDict s t) := by
  have hset : (s.modSpoke h n (fun x => { x with
      credits := (List.range 4).map (fun v => x.credits.getD v 0 + (if v = vc then count else 0)) })).spoke h n =
    { s.spoke h n with credits := (List.range 4).map (fun v => (s.spoke h n).credits.getD v 0 +
      (if v = vc then count else 0)) } := spoke_modSpoke_self ⟨rfl, rfl⟩
  obtain ⟨hspoke, hout⟩ := pump_idle (by rw [hset]; exact hq)
  refine ⟨(s.modSpoke h n (fun x => { x with
      credits := (List.range 4).map (fun v => x.credits.getD v 0 + (if v = vc then count else 0)) })).pump h n, ?_, ?_,
    ?_, hout, pump_dict⟩
  · change execLinkCredit h n vc count s = _
    unfold execLinkCredit
    rw [onPower_on hp, if_pos hruns]
  · rw [hspoke, hset]
    simp [hvc]
  · rw [hspoke, hset]

/-! ### The statement -/

/-- What FRAME_ROUTE does with a frame for this half that a key opens, by what its lane expects. -/
theorem frameRoute_delivers (hexec : exec (.frameRoute f) s = .next (s.deliver h f))
    (hl : (s.laneOf h f.src f.vc).getD
      { half := h, src := f.src, vc := f.vc, next := f.seq, early := [], resume := true } = l)
    (hnext : l.resume = true ∨ l.next = f.seq) (he : l.early = [])
    (hnamed : l.half = h ∧ l.src = f.src ∧ l.vc = f.vc) :
    Reaches (.frameRoute f) s (fun t => t.out = s.out ++ [.delivered h f] ∧
      t.val64 (hubIndex h) 0x04 = (s.val64 (hubIndex h) 0x04 + 1) % 2 ^ 64 ∧ SameSpokes s t ∧
      OnlyIn [hubIndex h] s t ∧
      t.laneOf h f.src f.vc = some { l with next := (f.seq + 1) % 65536, resume := false }) := by
  obtain ⟨rfl, hsrc, hvc⟩ := hnamed
  rw [deliver_hands hl hnext he] at hexec
  have hspokes : SameSpokes s (s.handFrame l.half f) := handFrame_spokes
  have honly : OnlyIn [hubIndex l.half] s (s.handFrame l.half f) := handFrame_onlyIn
  exact ⟨_, hexec, handFrame_out, handFrame_counts, hspokes, honly, laneOf_setLane ⟨rfl, hsrc, hvc⟩⟩

/-- Settles O41: FRAME_ROUTE by CRC, class, destination, lane and port; GAP_TIMEOUT; LINK_ACK, LINK_NAK and
LINK_CREDIT. -/
theorem framesAreRouted : Obligations.FramesAreRouted := by
  unfold Obligations.FramesAreRouted
  intro s h hp hruns
  refine ⟨fun f hhalf hup => ⟨fun hcrc => ⟨_, exec_frameRoute_broken hp hruns hhalf hup hcrc, rfl, rfl, rfl, rfl⟩,
      fun hcrc hcls => ⟨_, exec_frameRoute hp hruns hhalf hup hcrc, ?_⟩, ?_, ?_⟩,
    fun src vc l hl hearly => gapTimeout_ends hp hl hearly, fun n count hq => linkAck_drops hp hruns hq,
    fun n k hup => linkNak_repeats hp hruns hup, fun n vc count hvc hq => linkCredit_adds hp hruns hvc hq⟩
  case refine_1 =>
    rw [routeFrame_unknown hcls]
    exact ⟨State.reg_bump_self, State.bump_out, State.bump_spokes, State.bump_lanes⟩
  case refine_2 =>
    intro hcrc hcls hcontrol hplaced hsrc hnear hdest htag hkey
    have hexec : exec (.frameRoute f) s = .next (s.deliver h f) := by
      rw [exec_frameRoute hp hruns hhalf hup hcrc, routeFrame_own hcls hcontrol hplaced hsrc hnear hdest,
        takeFrame_delivers htag hkey hnear]
    refine ⟨fun hnone => ?_, fun x hx hresume hnext he => ?_, fun x hx hresume hbehind => ?_⟩
    · obtain ⟨t, ht, hout, hcount, hspokes, honly, -⟩ := frameRoute_delivers hexec
        (congrArg (Option.getD · _) hnone) (.inl rfl) rfl ⟨rfl, rfl, rfl⟩
      exact ⟨t, ht, hout, hcount, hspokes, honly⟩
    · obtain ⟨t, ht, hout, hcount, -, -, hlane⟩ := frameRoute_delivers hexec
        (congrArg (Option.getD · _) hx) (.inr hnext) he (laneOf_named hx)
      exact ⟨t, ht, hout, hcount, by rw [hresume]; exact hlane⟩
    · exact ⟨_, hexec.trans (by rw [deliver_late hx hresume hbehind]), State.bump_out, State.reg_bump_self,
        State.bump_lanes⟩
  case refine_3 =>
    intro hcrc hcls hcontrol hplaced hsrc hnear hdest hagree
    have hexec := (exec_frameRoute hp hruns hhalf hup hcrc).trans (congrArg _
      (routeFrame_through hcls hcontrol hplaced hsrc hnear hdest hagree))
    refine ⟨fun hhops => ?_, fun q hhops hfirst hport hq hcredit hroom => ?_,
      fun hhops hfirst hsecond hport hport' => ?_⟩
    · rw [if_pos hhops] at hexec
      exact ⟨_, hexec, State.reg_bump_self, State.bump_out⟩
    · rw [if_neg (by omega)] at hexec
      exact ⟨_, hexec, sendOn_sends (f := { f with hops := f.hops - 1 }) hfirst hport hq hcredit hroom⟩
    · rw [if_neg (by omega), sendOn_lost (f := { f with hops := f.hops - 1 }) hfirst hsecond hport hport'] at hexec
      exact ⟨_, hexec, State.reg_bump_self, State.bump_out⟩

end Sys2Proof.Machine
end

section
/-! PROOF. O40: where a training, the retry of one and a retrain of a spoke end (R364 to R368, R471, R474). -/

namespace Sys2Proof.Machine

open Sys2Proof Sys2Proof.Safety

variable {s t u v : State} {h k : HalfId} {f : Frame} {n m st : Nat} {tr : Training}

/-! ### What has gone out stands -/

/-- All that `s` has sent is the beginning of what `t` has sent. -/
def SendsOn (s t : State) : Prop := s.out <+: t.out

theorem SendsOn.refl (s : State) : SendsOn s s := List.prefix_rfl

theorem SendsOn.of_out (e : t.out = s.out) : SendsOn s t := by
  unfold SendsOn
  rw [e]

theorem SendsOn.of_append {l : List Out} (e : t.out = s.out ++ l) : SendsOn s t := by
  unfold SendsOn
  rw [e]
  exact List.prefix_append _ l

theorem SendsOn.trans (hst : SendsOn s t) (htu : SendsOn t u) : SendsOn s u := List.IsPrefix.trans hst htu

theorem SendsOn.modSpoke {g : Spoke → Spoke} (hst : SendsOn s t) : SendsOn s (t.modSpoke h n g) := by
  unfold SendsOn State.modSpoke
  exact hst

theorem log_sendsOn {e : Event} : SendsOn s (s.log e) := by
  refine .of_append (l := [.record (match unitHalf e.unit with | some h => halfFn h | none => .f0) (s.recordOf e)]) ?_
  unfold State.log
  exact recordSignal_out.trans (traceAdd_out.trans (cperAdd_out.trans rfl))

theorem handFrame_sendsOn : SendsOn s (s.handFrame h f) := .of_append handFrame_out

theorem drain_sendsOn : ∀ {k : Nat} {s : State} {l : Lane}, SendsOn s (s.drain h k l).1
  | 0, s, _ => .refl s
  | k + 1, s, l => by
    unfold State.drain
    cases l.early.find? (fun f => f.seq == l.next) with
    | none => exact .refl s
    | some f => exact handFrame_sendsOn.trans drain_sendsOn

theorem deliver_sendsOn : SendsOn s (s.deliver h f) := by
  unfold State.deliver
  extract_lets l ahead r
  split_ifs
  · exact (handFrame_sendsOn (f := f)).trans drain_sendsOn
  · exact .of_out State.bump_out
  · exact .refl s
  · exact .refl s

theorem takeFrame_sendsOn : SendsOn s (s.takeFrame h f) := by
  unfold State.takeFrame
  split_ifs
  · exact (SendsOn.of_out State.bumpAt_out).trans log_sendsOn
  · exact handFrame_sendsOn
  · exact deliver_sendsOn

theorem pump_sendsOn : SendsOn s (s.pump h n) := by
  cases hup : s.linkUp h n with
  | false => exact .of_out (congrArg State.out (pump_down hup))
  | true => exact .of_append (pump_out hup)

/-! ### Frames that leave by other ports (R367, R368) -/

/-- A frame leaves by a spoke that is up, counted or not. -/
def State.LeavesBy (s : State) (h : HalfId) (f : Frame) (t : State) : Prop :=
  ∃ (q : HalfId × Nat) (u : State), s.linkUp q.1 q.2 = true ∧ (u = s ∨ u = s.add64 (hubIndex h) 0x02 1) ∧
    t = u.enqueue q.1 q.2 f

/-- What a frame on its way on does: it is taken here, leaves by a spoke that is up, or is counted lost. -/
theorem sendOn_cases {count : Bool} : s.sendOn h f count = s.takeFrame h f ∨ s.LeavesBy h f (s.sendOn h f count) ∨
    s.sendOn h f count = s.bump (hubIndex h) 0x0A := by
  have hport {q : HalfId × Nat} {p : Nat} (hq : s.portSpoke h p = some q) (hsend : s.sendOn h f count =
      (when count (fun t => t.add64 (hubIndex h) 0x02 1) s).enqueue q.1 q.2 f) :
      s.LeavesBy h f (s.sendOn h f count) := by
    refine ⟨q, _, portSpoke_up hq, ?_, hsend⟩
    cases count
    · exact .inl rfl
    · exact .inr rfl
  by_cases hfirst : s.route h f.dest % 32 = 30
  · exact .inl (by rw [State.sendOn, if_pos hfirst])
  cases hq : s.portSpoke h (s.route h f.dest % 32) with
  | some q => exact .inr (.inl (hport hq (by simp only [State.sendOn, if_neg hfirst, hq])))
  | none =>
    by_cases hsecond : s.route h f.dest / 256 % 32 = 30
    · exact .inl (by simp only [State.sendOn, if_neg hfirst, hq, if_pos hsecond])
    cases hq' : s.portSpoke h (s.route h f.dest / 256 % 32) with
    | some q => exact .inr (.inl (hport hq' (by simp only [State.sendOn, if_neg hfirst, hq, if_neg hsecond, hq'])))
    | none => exact .inr (.inr (sendOn_lost hfirst hsecond hq hq'))

theorem enqueue_spoke_ne (hne : (k, m) ≠ (h, n)) : (s.enqueue h n f).spoke k m = s.spoke k m :=
  (pump_spoke_ne hne).trans (spoke_modSpoke_ne ⟨rfl, rfl⟩ hne)

theorem enqueue_dict : SameDict s (s.enqueue h n f) := State.enqueue_kept (sameDict_kept s) (sameDict_keptL s) rfl

theorem enqueue_sendsOn : SendsOn s (s.enqueue h n f) := by
  unfold State.enqueue
  exact (SendsOn.refl s).modSpoke.trans pump_sendsOn

/-- A frame that is taken counts no more in 0x6003 than a tag that does not fit. -/
theorem takeFrame_spokeWords : OnlySubs 0x6003 [0x0E] s (s.takeFrame h f) := by
  have kd {W : List Nat} (hW : W.all (fun j => 0x6003 % 65536 != j % 65536) = true) :
      KeptD (SameObject 0x6003 s) W := sameObject_keptD s (by simpa using hW)
  unfold State.takeFrame
  split_ifs
  · exact (onlySubs_putAt (OnlySubs.refl _ _ s) (by decide)).of_object
      (State.log_kept (sameObject_kept _ _) (sameObject_keptD _ (by decide)) (SameObject.refl _ _))
  · exact (State.handFrame_kept (sameObject_kept _ s) (kd rfl) (SameObject.refl _ s)).onlySubs
  · exact (State.deliver_kept (sameObject_kept _ s) (kd rfl) (SameObject.refl _ s)).onlySubs

theorem sendOn_spokeWords {count : Bool} : OnlySubs 0x6003 [0x0E] s (s.sendOn h f count) := by
  rcases sendOn_cases (s := s) (h := h) (f := f) (count := count) with htake | ⟨q, u, -, rfl | rfl, hleave⟩ | hlost
  · exact htake ▸ takeFrame_spokeWords
  · exact hleave ▸ (sameObject_of_dict (SameObject.refl _ _) enqueue_dict).onlySubs
  · exact hleave ▸ (sameObject_of_dict hubCounted_links enqueue_dict).onlySubs
  · rw [hlost]
    have kd : KeptD (SameObject 0x6003 s) [hubIndex h] := sameObject_keptD s (by cases h <;> decide)
    exact (State.bump_kept (kd.mem (List.mem_singleton_self _)) (SameObject.refl _ s)).onlySubs

/-- A spoke that is not up takes no frame. -/
theorem sendOn_spoke_down {count : Bool} (hdown : s.linkUp k m = false) :
    (s.sendOn h f count).spoke k m = s.spoke k m := by
  rcases sendOn_cases (s := s) (h := h) (f := f) (count := count) with htake | ⟨q, u, hup, hu, hleave⟩ | hlost
  · rw [htake]
    exact spoke_of_spokes (State.takeFrame_kept (sameSpokes_kept s) (sameSpokes_keptA s).toD rfl)
  · have hne : (k, m) ≠ (q.1, q.2) := by
      rintro ⟨⟩
      rw [hup] at hdown
      cases hdown
    rw [hleave, enqueue_spoke_ne hne]
    rcases hu with rfl | rfl
    · rfl
    · exact spoke_of_spokes State.add64_spokes
  · rw [hlost]
    exact spoke_of_spokes State.bump_spokes

theorem sendOn_sendsOn {count : Bool} : SendsOn s (s.sendOn h f count) := by
  rcases sendOn_cases (s := s) (h := h) (f := f) (count := count) with htake | ⟨q, u, -, rfl | rfl, hleave⟩ | hlost
  · exact htake ▸ takeFrame_sendsOn
  · exact hleave ▸ enqueue_sendsOn
  · exact hleave ▸ (SendsOn.of_out State.add64_out).trans enqueue_sendsOn
  · exact hlost ▸ SendsOn.of_out State.bump_out

/-- A spoke that is not up gives all its frames away and is else as it was; the links stay as they are. -/
structure State.Rerouted (s : State) (h : HalfId) (n : Nat) (t : State) : Prop where
  words : OnlySubs 0x6003 [0x0E] s t
  spoke : t.spoke h n = { s.spoke h n with replay := [], queue := [] }
  sends : SendsOn s t

theorem linkState_of_subs {l : List Nat} (hw : OnlySubs 0x6003 l s t) (hsub : 0x02 ∉ l) :
    t.linkState h n = s.linkState h n := OnlySubs.valAt hw ⟨by decide, hsub⟩

theorem linkUp_of_subs {l : List Nat} (hw : OnlySubs 0x6003 l s t) (hsub : 0x02 ∉ l) :
    t.linkUp h n = s.linkUp h n := by
  unfold State.linkUp
  rw [linkState_of_subs hw hsub]

theorem reroute_rerouted (hdown : s.linkUp h n = false) : s.Rerouted h n (s.reroute h n) := by
  unfold State.reroute
  refine Kept.foldl (P := s.Rerouted h n) (fun t f ht => ?_)
    ⟨OnlySubs.refl _ _ s, spoke_modSpoke_self ⟨rfl, rfl⟩, .refl s⟩
  have hdown' : t.linkUp h n = false := (linkUp_of_subs ht.words (by decide)).trans hdown
  exact ⟨ht.words.trans sendOn_spokeWords, (sendOn_spoke_down hdown').trans ht.spoke, ht.sends.trans sendOn_sendsOn⟩

/-! ### What is shown of a link -/

theorem lanesOf_eq_zero_iff : lanesOf st = 0 ↔ st ≠ lkUp ∧ st ≠ lkUp2 := by
  unfold lanesOf
  split_ifs with hup hup2
  · simp [hup]
  · simp [hup2]
  · exact ⟨fun _ => ⟨hup, hup2⟩, fun _ => rfl⟩

theorem linkUp_eq_false_iff : s.linkUp h n = false ↔ lanesOf (s.linkState h n) = 0 := by
  rw [lanesOf_eq_zero_iff, ← Bool.not_eq_true, linkUp_iff, not_or]

theorem showLink_onlyDict : OnlyDict s (s.showLink h n st tr) :=
  State.showLink_kept (onlyDict_keptA s).toD (onlyDict_refl s)

theorem wiring_links {a b : Bool} : SameObject 0x6003 s (s.wiring h n a b) :=
  State.wiring_kept (sameObject_keptD s (by decide)) (SameObject.refl _ s)

theorem showLink_spokeWords : OnlySubs 0x6003 [0x02, 0x03, 0x0D] s (s.showLink h n st tr) := by
  unfold State.showLink
  exact (onlySubs_putAt (onlySubs_putAt (onlySubs_putAt (OnlySubs.refl _ _ s) (by decide)) (by decide))
    (by decide)).of_object wiring_links

/-- The link shows the state and the lanes that carry. -/
theorem showLink_state (hst : st < 8) : (s.showLink h n st tr).linkState h n = st := by
  unfold State.showLink State.linkState State.valAt
  dsimp only
  rw [wiring_links, State.regAt_putAt_ne (by simp), State.regAt_putAt_ne (by simp), State.regAt_putAt_self]
  exact toWord_toNat (by omega)

theorem showLink_lanes : (s.showLink h n st tr).regAt (spokeKey h n) 0x6003 0x0D = toWord (lanesOf st) := by
  unfold State.showLink
  dsimp only
  rw [wiring_links, State.regAt_putAt_self]

theorem laneOutcome_lt : s.laneOutcome h n tr < 8 := by
  have hlock {a : Nat} (ha : a < 8) : (if tr.lockOk then a else lkFailed) < 8 := by
    split
    · exact ha
    · decide
  unfold State.laneOutcome
  split
  · decide
  · split
    · exact hlock (by decide)
    · exact hlock (by decide)
    · decide


/-! ### A training (R364 to R366) -/

/-- The spoke as L2 begins: its lanes repeat its identity, its link key and the forced retrain are gone. -/
def State.inTraining (s : State) (h : HalfId) (n : Nat) : State :=
  (s.identify h n).modSpoke h n (fun x => { x with linkKey := false, again := false })

theorem inTraining_spoke :
    (s.inTraining h n).spoke h n = { s.spoke h n with linkKey := false, again := false } :=
  spoke_modSpoke_self (s := s.identify h n) ⟨rfl, rfl⟩

/-- A spoke's lanes have repeated its identity words. -/
def Named (h : HalfId) (n : Nat) (s t : State) : Prop :=
  ∃ more, t.out = s.out ++ .identity h n (s.identities h n) :: more

theorem named_of_sendsOn (hout : u.out = s.out ++ [.identity h n (s.identities h n)]) (hs : SendsOn u t) :
    Named h n s t := by
  obtain ⟨more, hmore⟩ := hs
  exact ⟨more, by rw [← hmore, hout, List.append_assoc, List.singleton_append]⟩

/-- A spoke that is down, holds no link key and has no frames left. -/
def Down (h : HalfId) (n : Nat) (t : State) (l : Nat) : Prop :=
  t.linkState h n = l ∧ (t.spoke h n).linkKey = false ∧ (t.spoke h n).replay = [] ∧ (t.spoke h n).queue = []

/-- A spoke whose training does not bring it up gives its frames away. -/
theorem showLink_reroute (hst : st < 8) (hlanes : lanesOf st = 0) :
    (s.showLink h n st tr).Rerouted h n ((s.showLink h n st tr).reroute h n) :=
  reroute_rerouted (linkUp_eq_false_iff.mpr (by rw [showLink_state hst, hlanes]))

theorem showLink_spoke : (s.showLink h n st tr).spoke h n = s.spoke h n := by
  rw [showLink_onlyDict]
  rfl

theorem showLink_sendsOn : SendsOn s (s.showLink h n st tr) := .of_out (by rw [showLink_onlyDict])

/-- What the words of a spoke that goes down are: its state, no lanes, and the counts that stand. -/
theorem showLink_reroute_words (hst : st < 8) (hlanes : lanesOf st = 0) {sub : Nat}
    (hsub : sub < 256 ∧ sub ∉ [0x02, 0x03, 0x0D, 0x0E]) :
    ((s.showLink h n st tr).reroute h n).linkState h n = st ∧
      ((s.showLink h n st tr).reroute h n).regAt (spokeKey h n) 0x6003 0x0D = 0 ∧
      ((s.showLink h n st tr).reroute h n).regAt (spokeKey h n) 0x6003 sub = s.regAt (spokeKey h n) 0x6003 sub := by
  have hrerouted := showLink_reroute (s := s) (h := h) (n := n) (tr := tr) hst hlanes
  obtain ⟨hlt, hnot⟩ := hsub
  simp only [List.mem_cons, List.not_mem_nil, or_false, not_or] at hnot
  refine ⟨(linkState_of_subs hrerouted.words (by decide)).trans (showLink_state hst), ?_, ?_⟩
  · rw [hrerouted.words _ _ (by decide) (by decide), showLink_lanes, hlanes]
    rfl
  · rw [hrerouted.words _ _ hlt (by simp [hnot]), showLink_spokeWords _ _ hlt (by simp [hnot])]

/-- A spoke in training whose lanes bring it nowhere is down without key and frames. -/
theorem inTraining_down (hst : st < 8) (hlanes : lanesOf st = 0) :
    Down h n (((s.inTraining h n).showLink h n st tr).reroute h n) st ∧
      Named h n s (((s.inTraining h n).showLink h n st tr).reroute h n) := by
  have hrerouted := showLink_reroute (s := s.inTraining h n) (h := h) (n := n) (tr := tr) hst hlanes
  have hspoke := hrerouted.spoke
  rw [showLink_spoke, inTraining_spoke] at hspoke
  refine ⟨⟨(showLink_reroute_words hst hlanes (sub := 0) (by decide)).1, ?_, ?_, ?_⟩,
    named_of_sendsOn (u := s.inTraining h n) rfl (showLink_sendsOn.trans hrerouted.sends)⟩
  all_goals rw [hspoke]

/-! ### The peer (L6, R370, R471) -/

theorem noteConflict_links : SameObject 0x6003 s (s.noteConflict h n) :=
  State.noteConflict_kept (sameObject_kept _ s) (sameObject_keptL _ s) (sameObject_keptD s (by decide))
    (SameObject.refl _ s)

theorem noteConflict_linkKey : ((s.noteConflict h n).spoke h n).linkKey = (s.spoke h n).linkKey := by
  have hlogged {t : State} {e : Event} : (t.log e).spokes = t.spokes :=
    State.log_kept (sameSpokes_kept t) (sameSpokes_keptA t).toD rfl
  unfold State.noteConflict
  rw [spoke_of_spokes hlogged, spoke_modSpoke_self ⟨rfl, rfl⟩, spoke_of_spokes State.bump_spokes]

theorem noteConflict_sendsOn : SendsOn s (s.noteConflict h n) := by
  have hcounted : SendsOn s (s.bump (hubIndex h) 0x09) := .of_out State.bump_out
  unfold State.noteConflict
  exact hcounted.modSpoke.trans log_sendsOn

/-- What the peer reports of itself. -/
def State.peerShown (s : State) (h : HalfId) (n : Nat) (tr : Training) : State :=
  (s.put64At (spokeKey h n) 0x6003 0x04 tr.peerSerial.toNat).putAt (spokeKey h n) 0x6003 0x06
    (toWord (tr.peerPos % 65536 * 65536 + halfNum tr.peerHalf * 256 + tr.peerSpoke % 32))

theorem meetPeer_cases : s.meetPeer h n tr = (s.peerShown h n tr).noteConflict h n ∨
    s.meetPeer h n tr = (s.peerShown h n tr).modSpoke h n (fun x => { x with conflict := false }) := by
  unfold State.meetPeer
  dsimp only
  split
  · exact .inl rfl
  · exact .inr rfl

theorem peerShown_spokeWords : OnlySubs 0x6003 [0x04, 0x05, 0x06] s (s.peerShown h n tr) :=
  onlySubs_putAt (onlySubs_putAt (onlySubs_putAt (OnlySubs.refl _ _ s) (by decide)) (by decide)) (by decide)

theorem peerShown_serial : (s.peerShown h n tr).val64At (spokeKey h n) 0x6003 0x04 = tr.peerSerial.toNat := by
  unfold State.peerShown
  rw [State.val64At, State.valAt, State.valAt, State.regAt_putAt_ne (by simp), State.regAt_putAt_ne (by simp),
    ← State.valAt, ← State.valAt, ← State.val64At, val64At_put64At_self]
  exact Nat.mod_eq_of_lt tr.peerSerial.isLt

theorem meetPeer_links : SameObject 0x6003 (s.peerShown h n tr) (s.meetPeer h n tr) := by
  rcases meetPeer_cases (s := s) (h := h) (n := n) (tr := tr) with hmet | hmet
  · rw [hmet]
    exact noteConflict_links
  · rw [hmet]
    exact State.modSpoke_kept (sameObject_kept _ _) (sameObject_keptL _ _) (SameObject.refl _ _)

theorem peerShown_spoke : (s.peerShown h n tr).spoke h n = s.spoke h n :=
  spoke_of_spokes (State.putAt_spokes.trans State.put64At_spokes)

theorem meetPeer_linkKey : ((s.meetPeer h n tr).spoke h n).linkKey = (s.spoke h n).linkKey := by
  rcases meetPeer_cases (s := s) (h := h) (n := n) (tr := tr) with hmet | hmet
  · rw [hmet, noteConflict_linkKey, peerShown_spoke]
  · rw [hmet, spoke_modSpoke_self ⟨rfl, rfl⟩, peerShown_spoke]

theorem meetPeer_sendsOn : SendsOn s (s.meetPeer h n tr) := by
  have hshown : SendsOn s (s.peerShown h n tr) := .of_out (State.putAt_out.trans State.put64At_out)
  rcases meetPeer_cases (s := s) (h := h) (n := n) (tr := tr) with hmet | hmet
  · rw [hmet]
    exact hshown.trans noteConflict_sendsOn
  · rw [hmet]
    exact hshown.modSpoke

/-! ### What a training decides by -/

/-- The states show the same serial number. -/
def SameSerial (s t : State) : Prop := t.val64 0x0000 0x06 = s.val64 0x0000 0x06

theorem identities_of_serial (e : SameSerial s t) : t.identities h n = s.identities h n := by
  have hword : t.identityWord h n = s.identityWord h n := by
    funext lane
    rw [State.identityWord, e, ← State.identityWord]
  rw [State.identities, hword, ← State.identities]

theorem laneOutcome_of_serial (e : SameSerial s t) : t.laneOutcome h n tr = s.laneOutcome h n tr := by
  unfold State.laneOutcome State.crossed
  rw [identities_of_serial e]

theorem loopedBack_of_serial (e : SameSerial s t) : t.loopedBack h n tr = s.loopedBack h n tr := by
  unfold State.loopedBack
  rw [identities_of_serial e, e]

theorem authenticates_of_sec (e : SameSec s t) : t.authenticates h tr = s.authenticates h tr := by
  unfold State.authenticates
  rw [e]

theorem meetPeer_sec : SameSec s (s.meetPeer h n tr) :=
  State.meetPeer_kept (sameSec_kept s) (sameSec_keptL s) (sameSec_keptA s).toD rfl

/-! ### The outcomes -/

theorem train_eq : s.train h n tr =
    if lanesOf (s.laneOutcome h n tr) = 0 then
      ((s.inTraining h n).showLink h n (s.laneOutcome h n tr) tr).reroute h n
    else if s.loopedBack h n tr then ((s.inTraining h n).showLink h n lkLooped tr).reroute h n
    else if s.authenticates h tr then
      ((((s.inTraining h n).meetPeer h n tr).showLink h n (s.laneOutcome h n tr) tr).modSpoke h n
        (fun x => { x with linkKey := true })).pump h n
    else (((s.inTraining h n).meetPeer h n tr).showLink h n lkAwaiting tr).bumpAt (spokeKey h n) 0x6003 0x0E := by
  have hloop : (s.inTraining h n).loopedBack h n tr = s.loopedBack h n tr := loopedBack_of_serial rfl
  have hauth : ((s.inTraining h n).meetPeer h n tr).authenticates h tr = s.authenticates h tr :=
    (authenticates_of_sec meetPeer_sec).trans (authenticates_of_sec rfl)
  rw [← hloop, ← hauth]
  rfl

theorem train_fails (hlanes : lanesOf (s.laneOutcome h n tr) = 0) :
    Named h n s (s.train h n tr) ∧ Down h n (s.train h n tr) (s.laneOutcome h n tr) ∧
      (s.train h n tr).regAt (spokeKey h n) 0x6003 0x0D = 0 ∧
      (s.train h n tr).regAt (spokeKey h n) 0x6003 0x0B = s.regAt (spokeKey h n) 0x6003 0x0B := by
  rw [train_eq, if_pos hlanes]
  obtain ⟨hdown, hnamed⟩ := inTraining_down (s := s) (h := h) (n := n) (tr := tr) laneOutcome_lt hlanes
  obtain ⟨-, hlaneWord, hretries⟩ := showLink_reroute_words (s := s.inTraining h n) (h := h) (n := n) (tr := tr)
    laneOutcome_lt hlanes (sub := 0x0B) (by decide)
  exact ⟨hnamed, hdown, hlaneWord, hretries⟩

theorem train_loops (hlanes : lanesOf (s.laneOutcome h n tr) ≠ 0) (hloop : s.loopedBack h n tr = true) :
    Named h n s (s.train h n tr) ∧ Down h n (s.train h n tr) lkLooped := by
  rw [train_eq, if_neg hlanes, if_pos hloop]
  exact (inTraining_down (by decide) (by decide)).symm

/-- What the peer reports stands whatever the link then shows. -/
theorem met_words (u : State) (hst : st < 8) (hu : u = ((s.inTraining h n).meetPeer h n tr).showLink h n st tr) :
    u.linkState h n = st ∧ u.val64At (spokeKey h n) 0x6003 0x04 = tr.peerSerial.toNat ∧
      u.regAt (spokeKey h n) 0x6003 0x0E = s.regAt (spokeKey h n) 0x6003 0x0E ∧
      (u.spoke h n).linkKey = false ∧ Named h n s u := by
  subst hu
  refine ⟨showLink_state hst, ?_, ?_, ?_, ?_⟩
  · rw [OnlySubs.val64At showLink_spokeWords (by decide) (by decide), SameObject.val64At meetPeer_links,
      peerShown_serial]
  · rw [showLink_spokeWords _ _ (by decide) (by decide), meetPeer_links,
      peerShown_spokeWords _ _ (by decide) (by decide)]
    rfl
  · rw [showLink_spoke, meetPeer_linkKey, inTraining_spoke]
  · exact named_of_sendsOn (u := s.inTraining h n) rfl (meetPeer_sendsOn.trans showLink_sendsOn)

theorem Named.sendsOn (hn : Named h n s t) (hs : SendsOn t u) : Named h n s u := by
  obtain ⟨more, hmore⟩ := hn
  obtain ⟨last, hlast⟩ := hs
  exact ⟨more ++ last, by rw [← hlast, hmore, List.append_assoc, List.cons_append]⟩

/-- A spoke whose peers trust each other holds its link key and sends what waits. -/
theorem trusted_pump (hst : st < 8) :
    let t := ((((s.inTraining h n).meetPeer h n tr).showLink h n st tr).modSpoke h n
      (fun x => { x with linkKey := true })).pump h n
    Named h n s t ∧ t.val64At (spokeKey h n) 0x6003 0x04 = tr.peerSerial.toNat ∧ t.linkState h n = st ∧
      (t.spoke h n).linkKey = true := by
  obtain ⟨u, hu⟩ : ∃ u, u = ((s.inTraining h n).meetPeer h n tr).showLink h n st tr := ⟨_, rfl⟩
  obtain ⟨hstate, hserial, -, -, hnamed⟩ := met_words u hst hu
  rw [← hu]
  have hdict : SameDict u ((u.modSpoke h n (fun x => { x with linkKey := true })).pump h n) := pump_dict
  have hwords : SameObject 0x6003 u _ := sameObject_of_dict (SameObject.refl 0x6003 u) hdict
  refine ⟨hnamed.sendsOn ((SendsOn.refl u).modSpoke.trans pump_sendsOn), ?_, ?_, ?_⟩
  · rw [SameObject.val64At hwords, hserial]
  · rw [State.linkState, State.valAt, hwords, ← State.valAt, ← State.linkState, hstate]
  · rw [pump_linkKey, spoke_modSpoke_self ⟨rfl, rfl⟩]

/-- A training that finds the peer shows its serial, and the link is up with a key or waits for the peer. -/
theorem train_meets (hlanes : lanesOf (s.laneOutcome h n tr) ≠ 0) (hloop : s.loopedBack h n tr = false) :
    Named h n s (s.train h n tr) ∧
      (s.train h n tr).val64At (spokeKey h n) 0x6003 0x04 = tr.peerSerial.toNat ∧
      if s.authenticates h tr = true then
        (s.train h n tr).linkState h n = s.laneOutcome h n tr ∧ ((s.train h n tr).spoke h n).linkKey = true
      else (s.train h n tr).linkState h n = lkAwaiting ∧ ((s.train h n tr).spoke h n).linkKey = false ∧
        (s.train h n tr).regAt (spokeKey h n) 0x6003 0x0E = s.regAt (spokeKey h n) 0x6003 0x0E + 1 := by
  rw [train_eq, if_neg hlanes, if_neg (by simp [hloop])]
  split
  · exact trusted_pump laneOutcome_lt
  · obtain ⟨u, hu⟩ : ∃ u, u = ((s.inTraining h n).meetPeer h n tr).showLink h n lkAwaiting tr := ⟨_, rfl⟩
    obtain ⟨hstate, hserial, hcount, hkey, hnamed⟩ := met_words u (by decide) hu
    rw [← hu]
    have hwords : OnlySubs 0x6003 [0x0E] u (u.bumpAt (spokeKey h n) 0x6003 0x0E) :=
      onlySubs_putAt (OnlySubs.refl _ _ u) (by decide)
    refine ⟨hnamed.sendsOn (.of_out State.bumpAt_out), ?_, ?_, ?_, ?_⟩
    · rw [OnlySubs.val64At hwords (by decide) (by decide), hserial]
    · rw [linkState_of_subs hwords (by decide), hstate]
    · rw [spoke_of_spokes State.bumpAt_spokes, hkey]
    · rw [State.regAt_bumpAt, if_pos rfl, hcount]

/-! ### SPOKE_TRAIN and SPOKE_TRAIN_RETRY -/

/-- A training writes registers of wiring, hubs, spokes, risk and logs, and changes no memory, context, tile or key. -/
def TrainingOnly (s t : State) : Prop :=
  OnlyIn [0x0102, 0x6000, 0x6001, 0x6003, 0x7000, 0x7001, 0x7040, 0xF030] s t ∧ SameHbm s t ∧ SameCtxs s t ∧
    SameTiles s t ∧ SameSec s t

theorem trainingOnly_of_kept (k : ∀ {P : State → Prop}, Kept P → KeptL P →
      KeptD P [0x0102, 0x6000, 0x6001, 0x6003, 0x7000, 0x7001, 0x7040, 0xF030] → P s → P t) : TrainingOnly s t :=
  ⟨onlyIn_of_keptD (by decide) fun i kd => k (sameObject_kept i s) (sameObject_keptL i s) kd (SameObject.refl i s),
    k (sameHbm_kept s) (sameHbm_keptL s) (sameHbm_keptA s).toD ⟨rfl, rfl⟩,
    k (sameCtxs_kept s) (sameCtxs_keptL s) (sameCtxs_keptA s).toD rfl,
    k (sameTiles_kept s) (sameTiles_keptL s) (sameTiles_keptA s).toD rfl,
    k (sameSec_kept s) (sameSec_keptL s) (sameSec_keptA s).toD rfl⟩

/-- Where a training ends: down, looped back, or before its peer. -/
def TrainingEnds (c : Instr) (s : State) (h : HalfId) (n : Nat) (tr : Training) (again : Word) : Prop :=
  (lanesOf (s.laneOutcome h n tr) = 0 → Reaches c s (fun t => TrainingOnly s t ∧ Named h n s t ∧
    Down h n t (s.laneOutcome h n tr) ∧ t.regAt (spokeKey h n) 0x6003 0x0D = 0 ∧
    t.regAt (spokeKey h n) 0x6003 0x0B = s.regAt (spokeKey h n) 0x6003 0x0B + again)) ∧
  (lanesOf (s.laneOutcome h n tr) ≠ 0 → s.loopedBack h n tr = true → Reaches c s (fun t => TrainingOnly s t ∧
    Named h n s t ∧ Down h n t lkLooped)) ∧
  (lanesOf (s.laneOutcome h n tr) ≠ 0 → s.loopedBack h n tr = false → Reaches c s (fun t => TrainingOnly s t ∧
    Named h n s t ∧ t.val64At (spokeKey h n) 0x6003 0x04 = tr.peerSerial.toNat ∧
    if s.authenticates h tr = true then
      t.linkState h n = s.laneOutcome h n tr ∧ (t.spoke h n).linkKey = true
    else t.linkState h n = lkAwaiting ∧ (t.spoke h n).linkKey = false ∧
      t.regAt (spokeKey h n) 0x6003 0x0E = s.regAt (spokeKey h n) 0x6003 0x0E + 1))

/-- A command that trains a spoke ends where that training does; `u` is `s` but for the retries counted. -/
theorem trainingEnds_of_train {c : Instr} {again : Word} (hexec : exec c s = .next (u.train h n tr))
    (honly : TrainingOnly s (u.train h n tr)) (hserial : SameSerial s u) (hsec : SameSec s u) (hout : u.out = s.out)
    (hretries : u.regAt (spokeKey h n) 0x6003 0x0B = s.regAt (spokeKey h n) 0x6003 0x0B + again)
    (htags : u.regAt (spokeKey h n) 0x6003 0x0E = s.regAt (spokeKey h n) 0x6003 0x0E) :
    TrainingEnds c s h n tr again := by
  have hnames {t : State} (hn : Named h n u t) : Named h n s t := by
    rw [Named, hout, identities_of_serial hserial] at hn
    exact hn
  unfold TrainingEnds
  rw [← laneOutcome_of_serial hserial, ← loopedBack_of_serial hserial, ← authenticates_of_sec hsec, ← hretries, ← htags]
  refine ⟨fun hlanes => ?_, fun hlanes hloop => ?_, fun hlanes hloop => ?_⟩
  · obtain ⟨hnamed, hrest⟩ := train_fails hlanes
    exact ⟨_, hexec, honly, hnames hnamed, hrest⟩
  · obtain ⟨hnamed, hrest⟩ := train_loops hlanes hloop
    exact ⟨_, hexec, honly, hnames hnamed, hrest⟩
  · obtain ⟨hnamed, hrest⟩ := train_meets hlanes hloop
    exact ⟨_, hexec, honly, hnames hnamed, hrest⟩

/-- The state with a retry counted. -/
def State.retried (s : State) (h : HalfId) (n : Nat) : State := s.bumpAt (spokeKey h n) 0x6003 0x0B

theorem retried_serial (ht : SameObject 0x0000 (s.retried h n) t) : SameSerial s t := by
  have hcounted : SameObject 0x0000 s (s.retried h n) :=
    have kd : KeptD (SameObject 0x0000 s) [0x6003] := sameObject_keptD s (by decide)
    State.bumpAt_kept (kd.mem (List.mem_singleton_self _)) (SameObject.refl _ s)
  exact SameObject.val64At (hcounted.trans ht)

/-- A retrain's L2: counted as a retry and a risk, its lanes repeat its identity, the forced retrain is gone. -/
def State.retraining (s : State) (h : HalfId) (n : Nat) : State :=
  (((s.retried h n).riskEvent h 3).identify h n).modSpoke h n (fun x => { x with again := false })

theorem identify_spokes : (s.identify h n).spokes = s.spokes := State.emit_spokes

theorem retried_spokes : (s.retried h n).spokes = s.spokes := State.bumpAt_spokes

theorem retraining_spoke : (s.retraining h n).spoke h n = { s.spoke h n with again := false } := by
  have hspokes : (((s.retried h n).riskEvent h 3).identify h n).spokes = s.spokes :=
    identify_spokes.trans (State.riskEvent_spokes.trans retried_spokes)
  have hcleared {u : State} : (u.modSpoke h n (fun x => { x with again := false })).spoke h n =
      { u.spoke h n with again := false } := spoke_modSpoke_self ⟨rfl, rfl⟩
  exact hcleared.trans (by rw [spoke_of_spokes hspokes])

theorem risked_serial : SameSerial s ((s.retried h n).riskEvent h 3) :=
  retried_serial (riskEvent_sameObject (by decide))

theorem retraining_named (hs : SendsOn (s.retraining h n) t) : Named h n s t := by
  refine named_of_sendsOn (u := s.retraining h n) ?_ hs
  rw [← identities_of_serial risked_serial]
  unfold State.retraining
  change ((s.retried h n).riskEvent h 3).out ++ _ = _
  rw [State.riskEvent_out, State.retried, State.bumpAt_out]

theorem retraining_retries :
    (s.retraining h n).regAt (spokeKey h n) 0x6003 0x0B = s.regAt (spokeKey h n) 0x6003 0x0B + 1 := by
  have hrisk : SameObject 0x6003 (s.retried h n) ((s.retried h n).riskEvent h 3) := riskEvent_sameObject (by decide)
  have hdict {u : State} {g : Spoke → Spoke} : SameDict u ((u.identify h n).modSpoke h n g) := rfl
  rw [State.retraining, sameObject_of_dict hrisk hdict, State.retried, State.regAt_bumpAt, if_pos rfl]

/-- The state with a retrain's outcome shown, before its frames move. -/
def State.retrainShown (s : State) (h : HalfId) (n : Nat) (tr : Training) : State :=
  (s.retraining h n).showLink h n (s.laneOutcome h n tr) tr

theorem retrainShown_spoke : (s.retrainShown h n tr).spoke h n = { s.spoke h n with again := false } :=
  showLink_spoke.trans retraining_spoke

/-- What a retrain ends with, if the frames that then move change no more than a tag count in 0x6003. -/
theorem retrainShown_ends (hwords : OnlySubs 0x6003 [0x0E] (s.retrainShown h n tr) t)
    (hagain : (t.spoke h n).again = ((s.retrainShown h n tr).spoke h n).again)
    (hsends : SendsOn (s.retrainShown h n tr) t) :
    Named h n s t ∧ t.linkState h n = s.laneOutcome h n tr ∧ (t.spoke h n).again = false ∧
      t.regAt (spokeKey h n) 0x6003 0x0B = s.regAt (spokeKey h n) 0x6003 0x0B + 1 ∧
      t.regAt (spokeKey h n) 0x6003 0x0D = toWord (lanesOf (s.laneOutcome h n tr)) := by
  refine ⟨retraining_named (showLink_sendsOn.trans hsends), ?_, ?_, ?_, ?_⟩
  · exact (linkState_of_subs hwords (by decide)).trans (showLink_state laneOutcome_lt)
  · rw [hagain, retrainShown_spoke]
  · exact (hwords _ _ (by decide) (by decide)).trans
      ((showLink_spokeWords _ _ (by decide) (by decide)).trans retraining_retries)
  · exact (hwords _ _ (by decide) (by decide)).trans showLink_lanes

theorem retrainShown_moves :
    let t := if lanesOf (s.laneOutcome h n tr) = 0 then (s.retrainShown h n tr).reroute h n
      else (s.retrainShown h n tr).pump h n
    OnlySubs 0x6003 [0x0E] (s.retrainShown h n tr) t ∧
      (t.spoke h n).again = ((s.retrainShown h n tr).spoke h n).again ∧ SendsOn (s.retrainShown h n tr) t ∧
      (lanesOf (s.laneOutcome h n tr) = 0 → (t.spoke h n).replay = [] ∧ (t.spoke h n).queue = []) := by
  dsimp only
  split
  · rename_i hlanes
    have hrerouted : (s.retrainShown h n tr).Rerouted h n ((s.retrainShown h n tr).reroute h n) :=
      showLink_reroute laneOutcome_lt hlanes
    refine ⟨hrerouted.words, ?_, hrerouted.sends, fun _ => ?_⟩
    all_goals rw [hrerouted.spoke]
    exact ⟨rfl, rfl⟩
  · rename_i hlanes
    exact ⟨(sameObject_of_dict (SameObject.refl _ _) pump_dict).onlySubs, pump_again, pump_sendsOn,
      fun hnone => absurd hnone hlanes⟩

section Commands

variable (hp : s.key.powered = true) (hmay : s.mayTrain h n = true)

include hp hmay

theorem spokeTrain_ends (hstate : s.linkState h n = lkTraining) : TrainingEnds (.spokeTrain h n tr) s h n tr 0 := by
  have hexec : exec (.spokeTrain h n tr) s = .next (s.train h n tr) := by
    change execSpokeTrain h n tr s = _
    unfold execSpokeTrain
    rw [onPower_on hp, if_pos (by simp [hmay, hstate])]
  exact trainingEnds_of_train hexec
    (trainingOnly_of_kept fun kk kl kd hs => execSpokeTrain_kept kk kl (kd.mono (by decide)) hs _ hexec)
    rfl rfl rfl (BitVec.add_zero _).symm rfl

theorem spokeTrainRetry_ends (hstate : lkFailed ≤ s.linkState h n) :
    TrainingEnds (.spokeTrainRetry h n tr) s h n tr 1 := by
  have hexec : exec (.spokeTrainRetry h n tr) s = .next ((s.bumpAt (spokeKey h n) 0x6003 0x0B).train h n tr) := by
    change execSpokeTrainRetry h n tr s = _
    unfold execSpokeTrainRetry
    rw [onPower_on hp, if_pos (by simp [hmay, hstate])]
  refine trainingEnds_of_train hexec
    (trainingOnly_of_kept fun kk kl kd hs => execSpokeTrainRetry_kept kk kl (kd.mono (by decide)) hs _ hexec)
    (retried_serial (SameObject.refl _ _)) State.bumpAt_sec State.bumpAt_out ?_ ?_
  · rw [State.regAt_bumpAt, if_pos rfl]
  · exact State.regAt_putAt_ne (by simp)

theorem spokeRetrain_ends (hup : s.linkUp h n = true) :
    Reaches (.spokeRetrain h n tr) s (fun t => TrainingOnly s t ∧ Named h n s t ∧
      t.linkState h n = s.laneOutcome h n tr ∧ (t.spoke h n).again = false ∧
      t.regAt (spokeKey h n) 0x6003 0x0B = s.regAt (spokeKey h n) 0x6003 0x0B + 1 ∧
      t.regAt (spokeKey h n) 0x6003 0x0D = toWord (lanesOf (s.laneOutcome h n tr)) ∧
      (lanesOf (s.laneOutcome h n tr) = 0 → (t.spoke h n).replay = [] ∧ (t.spoke h n).queue = [])) := by
  have hexec : exec (.spokeRetrain h n tr) s = .next (if lanesOf (s.laneOutcome h n tr) = 0 then
      (s.retrainShown h n tr).reroute h n else (s.retrainShown h n tr).pump h n) := by
    change execSpokeRetrain h n tr s = _
    unfold execSpokeRetrain State.retrainShown
    rw [onPower_on hp, if_pos (by simp [hmay, hup]), ← laneOutcome_of_serial (risked_serial (h := h) (n := n))]
    rfl
  obtain ⟨hwords, hagain, hsends, hfrees⟩ := retrainShown_moves (s := s) (h := h) (n := n) (tr := tr)
  obtain ⟨hnamed, hstate, hcleared, hretries, hlanes⟩ := retrainShown_ends hwords hagain hsends
  exact ⟨_, hexec, trainingOnly_of_kept fun kk kl kd hs => execSpokeRetrain_kept kk kl kd hs _ hexec, hnamed, hstate,
    hcleared, hretries, hlanes, hfrees⟩

end Commands

end Sys2Proof.Machine
end

section
/-! PROOF. O40: the writes of the spoke control and of the position (R364, R368, R369, R473). -/

namespace Sys2Proof.Machine

open Sys2Proof Sys2Proof.Safety

variable {s t : State} {via : Via} {h : HalfId} {n k u : Nat} {value v : Word} {x : Aux} {o : Obj}

/-! ### The control word -/

theorem low2_of_lt (hv : value.toNat < 4) : low2 value k = toWord k := by
  rw [low2, Nat.div_eq_of_lt hv, Nat.zero_mul, Nat.zero_add]

theorem spokeKey_half (hn : n ≤ 16) : halfOf (spokeKey h n / 256) = h := by
  have hhalf : spokeKey h n / 256 = halfNum h := by
    unfold spokeKey
    omega
  rw [hhalf, halfOf_halfNum]

theorem spokeKey_num (hn : n ≤ 16) : spokeKey h n % 256 = n := by
  unfold spokeKey
  omega

/-- A write of the spoke control acts on the spoke that the selector names. -/
theorem verdict_spokeControl (hsel : s.val 0x6003 0x01 = u) (hadm : admits s via 0x6003 0x0C [v] = true) :
    verdict s x via 0x6003 0x0C [v] = (arrival s via 0x6003 0x0C).actSpokeControl u v := by
  obtain ⟨_, _, _, o, r, ho, hr, hsub, _⟩ := admits_row hadm
  have hobj : findObj 0x6003 = some obj6003 := rfl
  obtain rfl := Option.some.inj (hobj.symm.trans ho)
  have hrow : obj6003.row 0x0C = some ⟨0x0C, .u8, 1, .bool, .wo, .val 0, .p0, .oneOf [1, 2, 3], false⟩ := rfl
  obtain rfl := Option.some.inj (hrow.symm.trans hr)
  have hunit {t : State} : t.unitOf obj6003 ⟨0x0C, .u8, 1, .bool, .wo, .val 0, .p0, .oneOf [1, 2, 3], false⟩ =
      t.val 0x6003 0x01 := Nat.zero_add _
  rw [verdict_of ho hr, hunit, arrival_sameObject.val, hsel]
  rfl

theorem arrival_spokeEnabled {i sub : Nat} : (arrival s via i sub).spokeEnabled h n = s.spokeEnabled h n := by
  unfold State.spokeEnabled
  rw [arrival_sameObject.flag, arrival_sameObject.flag]

theorem arrival_linkState {i sub : Nat} : (arrival s via i sub).linkState h n = s.linkState h n := by
  unfold State.linkState State.valAt
  rw [arrival_regAt]

theorem arrival_linkUp {i sub : Nat} : (arrival s via i sub).linkUp h n = s.linkUp h n :=
  linkUp_of_sameObject arrival_sameObject

theorem arrival_hbm {i sub : Nat} : SameHbm s (arrival s via i sub) := ⟨arrival_hbm0, arrival_hbm1⟩

/-! ### A spoke brought down (R368) -/

/-- A spoke that is down by command, before its frames leave. -/
def State.spokeStopped (s : State) (h : HalfId) (n : Nat) : State :=
  ((s.putAt (spokeKey h n) 0x6003 0x02 0).putAt (spokeKey h n) 0x6003 0x0D 0).modSpoke h n
    (fun x => { x with linkKey := false, again := false })

theorem spokeStopped_linkState : (s.spokeStopped h n).linkState h n = lkDown := by
  have hput {t : State} {g : Spoke → Spoke} : (t.modSpoke h n g).linkState h n = t.linkState h n := rfl
  rw [State.spokeStopped, hput, State.linkState, State.valAt, State.regAt_putAt_ne (by simp), State.regAt_putAt_self]
  rfl

theorem spokeStopped_linkKey : ((s.spokeStopped h n).spoke h n).linkKey = false := by
  have hput {t : State} : ((t.modSpoke h n (fun x => { x with linkKey := false, again := false })).spoke h n).linkKey =
      false := by rw [spoke_modSpoke_self ⟨rfl, rfl⟩]
  exact hput

theorem spokeStopped_down : Down h n ((s.spokeStopped h n).reroute h n) lkDown := by
  have hrerouted : (s.spokeStopped h n).Rerouted h n ((s.spokeStopped h n).reroute h n) :=
    reroute_rerouted (linkUp_eq_false_iff.mpr (by rw [spokeStopped_linkState]; rfl))
  refine ⟨(linkState_of_subs hrerouted.words (by decide)).trans spokeStopped_linkState, ?_, ?_, ?_⟩
  all_goals rw [hrerouted.spoke]
  exact spokeStopped_linkKey

theorem spokeStopped_hbm : SameHbm s ((s.spokeStopped h n).reroute h n) := by
  refine State.reroute_kept (sameHbm_kept s) (sameHbm_keptL s) (sameHbm_keptA s).toD ?_
  refine State.modSpoke_kept (sameHbm_kept s) (sameHbm_keptL s) ?_
  exact ⟨State.putAt_hbm0.trans State.putAt_hbm0, State.putAt_hbm1.trans State.putAt_hbm1⟩

/-! ### What the control values do (R368) -/

section Acts

variable (hn : n ≤ 16)

include hn

theorem actSpokeControl_down :
    s.actSpokeControl (spokeKey h n) (toWord 1) = .apply ((s.spokeStopped h n).reroute h n) := by
  unfold State.actSpokeControl
  dsimp only
  rw [if_pos (by rfl), spokeKey_half hn, spokeKey_num hn]
  rfl

theorem actSpokeControl_gated (hoff : s.spokeEnabled h n = false) :
    s.actSpokeControl (spokeKey h n) (toWord 2) = .refuse 0x4001 0 := by
  unfold State.actSpokeControl
  dsimp only
  rw [if_neg (by decide), if_pos (by decide), spokeKey_half hn, spokeKey_num hn, if_pos (by simp [hoff])]

theorem actSpokeControl_train (hon : s.spokeEnabled h n = true) :
    s.actSpokeControl (spokeKey h n) (toWord 2) =
      .apply (s.putAt (spokeKey h n) 0x6003 0x02 (toWord lkTraining)) := by
  unfold State.actSpokeControl
  dsimp only
  rw [if_neg (by decide), if_pos (by decide), spokeKey_half hn, spokeKey_num hn, if_neg (by simp [hon]),
    if_neg (fun hforced => absurd hforced.1 (by decide))]

theorem actSpokeControl_again (hon : s.spokeEnabled h n = true) (hup : s.linkUp h n = true) :
    s.actSpokeControl (spokeKey h n) (toWord 3) = .apply (s.modSpoke h n (fun x => { x with again := true })) := by
  unfold State.actSpokeControl
  dsimp only
  rw [if_neg (by decide), if_pos (by decide), spokeKey_half hn, spokeKey_num hn, if_neg (by simp [hon]),
    if_pos ⟨by rfl, hup⟩]

end Acts

section Control

variable (hn : n ≤ 16) (hsel : s.val 0x6003 0x01 = spokeKey h n) (hvalue : value.toNat < 4)

include hn hsel hvalue

omit hn in
theorem verdict_spokeControl_low (hadm : admits s via 0x6003 0x0C [low2 value k] = true) :
    verdict s x via 0x6003 0x0C [low2 value k] =
      (arrival s via 0x6003 0x0C).actSpokeControl (spokeKey h n) (toWord k) :=
  (verdict_spokeControl hsel hadm).trans (by rw [low2_of_lt hvalue])

theorem spokeDown_takes (hadm : admits s via 0x6003 0x0C [low2 value 1] = true) :
    Takes (.spokeDown via value) s via 0x6003 0x0C [low2 value 1] (fun t => Down h n t lkDown ∧ SameHbm s t) := by
  obtain ⟨hhbm0, hhbm1⟩ := spokeStopped_hbm (s := arrival s via 0x6003 0x0C) (h := h) (n := n)
  exact takes_of (x := Aux.none) rfl hadm
    ((verdict_spokeControl_low hsel hvalue hadm).trans (actSpokeControl_down hn))
    ⟨spokeStopped_down, hhbm0.trans arrival_hbm0, hhbm1.trans arrival_hbm1⟩

theorem spokeTrainStart_takes (hadm : admits s via 0x6003 0x0C [low2 value 2] = true)
    (hon : s.spokeEnabled h n = true) :
    Takes (.spokeTrainStart via value) s via 0x6003 0x0C [low2 value 2] (fun t =>
      t.linkState h n = lkTraining ∧ t.spokes = s.spokes ∧ SameHbm s t) :=
  takes_of (x := Aux.none) rfl hadm
    ((verdict_spokeControl_low hsel hvalue hadm).trans (actSpokeControl_train hn (arrival_spokeEnabled.trans hon)))
    ⟨by rw [State.linkState, State.valAt, State.regAt_putAt_self]; rfl, State.putAt_spokes.trans arrival_spokes,
      State.putAt_hbm0.trans arrival_hbm0, State.putAt_hbm1.trans arrival_hbm1⟩

theorem spokeTrainStart_refuses (hadm : admits s via 0x6003 0x0C [low2 value 2] = true)
    (hoff : s.spokeEnabled h n = false) : Refuses (.spokeTrainStart via value) s via 0x6003 0x0C 0x4001 :=
  refuses_of (x := Aux.none) rfl hadm
    ((verdict_spokeControl_low hsel hvalue hadm).trans (actSpokeControl_gated hn (arrival_spokeEnabled.trans hoff)))
    (by decide) rfl

theorem spokeForceRetrain_takes (hadm : admits s via 0x6003 0x0C [low2 value 3] = true)
    (hon : s.spokeEnabled h n = true) (hup : s.linkUp h n = true) :
    Takes (.spokeForceRetrain via value) s via 0x6003 0x0C [low2 value 3] (fun t =>
      (t.spoke h n).again = true ∧ t.linkState h n = s.linkState h n ∧ SameHbm s t) :=
  takes_of (x := Aux.none) rfl hadm
    ((verdict_spokeControl_low hsel hvalue hadm).trans
      (actSpokeControl_again hn (arrival_spokeEnabled.trans hon) (arrival_linkUp.trans hup)))
    ⟨by rw [spoke_modSpoke_self ⟨rfl, rfl⟩], arrival_linkState, arrival_hbm⟩

end Control

/-! ### A write that gating refuses (R100, R124) -/

theorem put_emit {i sub m : Nat} {a : Out} : (s.emit a).put i sub m = (s.put i sub m).emit a := rfl

theorem signal_emit {f : Fn} {a : Out} : (s.emit a).signal f k = (s.signal f k).emit a := by
  have hcond : (s.emit a).port = s.port := rfl
  unfold State.signal
  rw [hcond]
  split <;> rfl

/-- What goes out does not matter to the record of an answer in the window. -/
theorem recordWindow_emit {i sub status ticket hint : Nat} {a : Out} :
    (s.emit a).recordWindow i sub status ticket hint = (s.recordWindow i sub status ticket hint).emit a := by
  unfold State.recordWindow
  dsimp only
  split
  all_goals
    simp only [put_emit, val_emit, signal_emit]
    exact (apply_ite (State.emit · a) _ _ _).symm

/-- A gated write changes the count of gated accesses alone. -/
theorem opWrite_gated {ws : List Word} {i sub : Nat} {r : Row} (ho : findObj i = some o) (hr : findRow i sub = some r)
    (hgated : (s.unstageOther via.path i r.sub).entryStatus via o i sub .write ws = 0x4001) :
    s.opWrite x (writeReq via i sub ws) =
      ((s.unstageOther via.path i r.sub).bump 0x1002 0x0A, refusalOf via.path 0x4001) := by
  unfold State.opWrite State.checked
  simp only [writeReq, hr, ho, hgated]
  rfl

/-- A refusal by gating is answered alike on every path, but that on BAR2 the access aborts too. -/
theorem send_gated {i sub op : Nat} (hi : i ≠ 0x0010) : ∃ t, SameDict s t ∧ SameSpokes s t ∧ SameHbm s t ∧
    (s.interrupt via.path).send via.path op i sub 0 (refusalOf via.path 0x4001) =
      (t.interrupt via.path).respond via.path op i sub 0 0x4001 0 0 [] := by
  by_cases hbar : via.path = .bar2
  · have hsilent {t : State} : t.interrupt .bar2 = t := if_neg (by simp)
    have hrespond {t : State} : t.respond .bar2 op i sub 0 0x4001 0 0 [] = t.recordWindow i sub 0x4001 0 0 := if_neg hi
    refine ⟨s.emit .abort, rfl, rfl, ⟨rfl, rfl⟩, ?_⟩
    rw [hbar, hsilent, hsilent, hrespond, recordWindow_emit, ← hrespond]
    rfl
  · refine ⟨s, rfl, rfl, ⟨rfl, rfl⟩, ?_⟩
    rw [refusalOf, if_neg (fun hboth => hbar hboth.2)]
    rfl

/-- A write that is served is answered with what its operation gives. -/
theorem put_served {ws : List Word} {i sub : Nat} {a : State × Ans} (hp : s.key.powered = true)
    (hm : s.mute via.path = false) (hstands : s.standsDown via.path i sub = false)
    (hop : s.opWrite x (writeReq via i sub ws) = a) :
    s.put! x via i sub ws = .next ((a.1.interrupt via.path).send via.path opCode.write i sub 0 a.2) := by
  unfold writeReq at hop
  unfold State.put! State.serveWrite State.serve
  rw [onPower_on hp]
  simp only [writeReq, hstands, hm, hop, Bool.false_eq_true, if_false, Option.getD_none]

theorem spokeTrainStart_gated (ho : findObj 0x6003 = some o) (hp : s.key.powered = true)
    (hm : s.mute via.path = false)
    (hgated : (s.unstageOther via.path 0x6003 0x0C).entryStatus via o 0x6003 0x0C .write [low2 value 2] = 0x4001) :
    RefusesWith (.spokeTrainStart via value) s via 0x6003 0x0C 0x4001 (fun t =>
      t.reg 0x1002 0x0A = s.reg 0x1002 0x0A + 1 ∧ SameSpokes s t ∧ SameHbm s t) := by
  have hrow : findRow 0x6003 0x0C = some ⟨0x0C, .u8, 1, .bool, .wo, .val 0, .p0, .oneOf [1, 2, 3], false⟩ := rfl
  have hstands : s.standsDown via.path 0x6003 0x0C = false := by
    cases via.path with
    | manager h e => exact Bool.and_false _
    | _ => rfl
  have hop := opWrite_gated (x := Aux.none) ho hrow hgated
  obtain ⟨t, hdict, hspokes, hhbm, hsend⟩ := send_gated
    (s := (s.unstageOther via.path 0x6003 0x0C).bump 0x1002 0x0A) (via := via) (i := 0x6003) (sub := 0x0C)
    (op := opCode.write) (by decide)
  refine ⟨t, 0, ?_, ?_, hspokes.trans State.bump_spokes, hhbm.1.trans State.bump_hbm0,
    hhbm.2.trans State.bump_hbm1⟩
  · exact (put_served hp hm hstands hop).trans (congrArg _ hsend)
  · rw [State.reg, State.regAt, hdict]
    exact State.reg_bump_self

/-! ### A value out of range (R124) -/

/-- A write that comes to its value's checks and fails them is refused with their status. -/
theorem opWrite_presented {ws : List Word} {i sub st : Nat} {r : Row} (ho : findObj i = some o)
    (hr : o.row sub = some r) (hpres : presents s via i sub ws = true) (hi : i ≠ 0x0040) (hst : st ≠ 0)
    (hbad : reservedFirst [r.valueStatus ws,
      (arrival s via i sub).ownStatus i r.sub ((arrival s via i sub).unitOf o r) ws,
      if valueClass (verdict s x via i sub ws).status then (verdict s x via i sub ws).status else 0] = st) :
    s.opWrite x (writeReq via i sub ws) = (arrival s via i sub, .plain st) := by
  rw [verdict_of ho hr] at hbad
  unfold presents at hpres
  simp only [ho, hr, Bool.and_eq_true, beq_iff_eq, bne_iff_ne, ne_eq] at hpres
  obtain ⟨-, ⟨⟨hentry, rfl⟩, hlength⟩, htype⟩ := hpres
  have hrow : findRow i r.sub = some r := by
    unfold findRow
    rw [ho]
    exact hr
  have harrival : arrival s via i r.sub = (((s.unstageOther via.path i r.sub).heard
      ((s.unstageOther via.path i r.sub).server o i r.single)).unstage via.path) := by
    unfold arrival
    simp only [ho, hr]
  unfold State.opWrite State.checked
  simp only [writeReq, hrow, ho, hentry]
  simp only [hr, hlength, and_self, if_true, htype, if_false, not_true_eq_false, false_and, typeStatus, true_or]
  rw [← harrival]
  unfold State.wholeWrite State.commit State.weigh
  simp only [hi, false_and, if_false, hbad, hst, ne_eq, not_false_eq_true, if_true, Option.isSome_none,
    Bool.false_eq_true]

theorem presents_served {ws : List Word} {i sub : Nat} (hpres : presents s via i sub ws = true) :
    s.key.powered = true ∧ s.mute via.path = false ∧ s.standsDown via.path i sub = false := by
  unfold presents at hpres
  simp only [Bool.and_eq_true, Bool.not_eq_true'] at hpres
  obtain ⟨⟨⟨hp, hm⟩, hstands⟩, -⟩ := hpres
  exact ⟨hp, hm, hstands⟩

/-! ### POSITION_WRITE (R369, R473) -/

/-- The row of a half's position. -/
def positionRow : Row := ⟨0x01, .u16, 1, .bool, .rws, .val 0xFFFF, .p2, .upToOr 16383, false⟩

theorem findRow_position : findRow (hubIndex h) 0x01 = some positionRow := by cases h <;> rfl

theorem verdict_position (ho : findObj (hubIndex h) = some o) (hr : o.row 0x01 = some positionRow) :
    verdict s x via (hubIndex h) 0x01 [v] = (arrival s via (hubIndex h) 0x01).actPosition h v := by
  rw [verdict_of ho hr]
  cases h <;> rfl

theorem findObj_position : ∃ o, findObj (hubIndex h) = some o ∧ o.row 0x01 = some positionRow := by
  cases h
  · exact ⟨_, rfl, rfl⟩
  · exact ⟨_, rfl, rfl⟩

theorem position_beyond (hbeyond : 16383 < v.toNat) (hassigned : v.toNat ≠ unassigned) :
    rngStatus (.upToOr 16383) (wordsNat [v]) = 0x2003 := by
  have hword : wordsNat [v] = v.toNat := Nat.add_zero _
  rw [hword]
  exact if_neg (not_or.mpr ⟨by omega, hassigned⟩)

theorem positionWrite_beyond (hpres : presents s via (hubIndex h) 0x01 [v] = true) (hshort : v.toNat < 65536)
    (hbeyond : 16383 < v.toNat) (hassigned : v.toNat ≠ 0xFFFF) :
    Refuses (.positionWrite via h v) s via (hubIndex h) 0x01 0x2003 := by
  obtain ⟨hp, hm, hstands⟩ := presents_served hpres
  obtain ⟨o, ho, hr⟩ := findObj_position (h := h)
  have hrange := position_beyond hbeyond hassigned
  have hvalue : positionRow.valueStatus [v] = 0x2003 := by
    have hword : ¬ 65535 < v.toNat := by omega
    unfold Row.valueStatus
    simp only [positionRow, elemTy, tyReserved, tyBad, rngReserved, List.any_cons, List.any_nil, hword, decide_false,
      Bool.or_false, Bool.false_eq_true, if_false, List.map_cons, List.map_nil, hrange]
    decide
  have hown {t : State} {u : Nat} : t.ownStatus (hubIndex h) 0x01 u [v] = 0 := by cases h <;> rfl
  have hverdict : (verdict s Aux.none via (hubIndex h) 0x01 [v]).status = 0x2003 := by
    rw [verdict_position ho hr, State.actPosition, if_pos ⟨hbeyond, hassigned⟩]
    rfl
  have hop := opWrite_presented (x := Aux.none) ho hr hpres (by cases h <;> decide) (by decide : 0x2003 ≠ 0)
    (by rw [hvalue, hverdict, show positionRow.sub = 0x01 from rfl, hown]; decide)
  have hwrite : writeOp (hubIndex h) 0x01 = opCode.write := by cases h <;> rfl
  exact ⟨0, (put_served hp hm hstands hop).trans (by rw [State.answered, hwrite]; rfl)⟩

/-- A position that the checks let through is one that may be assigned. -/
theorem admits_position (hadm : admits s via (hubIndex h) 0x01 [v] = true) :
    ¬ (16383 < v.toNat ∧ v.toNat ≠ unassigned) := by
  obtain ⟨r, hr, hvalue⟩ := admits_valueStatus hadm
  obtain rfl := Option.some.inj (findRow_position.symm.trans hr)
  have hrange : rngStatus (.upToOr 16383) (wordsNat [v]) = 0 := rngStatus_of_valueStatus (by decide) hvalue
  intro hbeyond
  have hbad := position_beyond hbeyond.1 hbeyond.2
  rw [hrange] at hbad
  cases hbad

/-- A context of the half runs, seals or holds. -/
def State.positionHeld (s : State) (h : HalfId) : Bool :=
  (s.ctxsOf h).any (fun n => [stRun, stHold, stSealing].contains (s.ctxState n))

theorem arrival_positionHeld {i sub : Nat} : (arrival s via i sub).positionHeld h = s.positionHeld h := by
  have hctxs {t : State} (e : t.ctxs = s.ctxs) : t.positionHeld h = s.positionHeld h := by
    unfold State.positionHeld State.ctxsOf State.ctxState State.ctx
    rw [e]
  exact hctxs arrival_ctxs

/-- What a position write does at once: the keys of the former position send no more, and peers report anew. -/
def State.rekeyed (s : State) (h : HalfId) : State := ((s.modKeys h PKeys.stale).put (pkIndex h) 0x0F 0).repeatPeers h

theorem rekeyed_kept {P : State → Prop} (kk : Kept P) (kl : KeptL P) (ks : KeptS P)
    (kd : KeptD P [0x6000, 0x6001, 0x7040, 0x9030, 0x9031, 0xF030]) (hs : P s) : P (s.rekeyed h) :=
  State.repeatPeers_kept kk kl (kd.mono (by decide))
    (State.put_kept (kd.mem (pick_mem (by decide) (by decide))) (State.modKeys_kept kk ks hs))

theorem rekeyed_count : (s.rekeyed h).val (pkIndex h) 0x0F = 0 := by
  have hpeers : SameObject (pkIndex h) ((s.modKeys h PKeys.stale).put (pkIndex h) 0x0F 0) (s.rekeyed h) :=
    State.repeatPeers_kept (sameObject_kept _ _) (sameObject_keptL _ _) (sameObject_keptD _ (by cases h <;> decide))
      (SameObject.refl _ _)
  exact (hpeers.val 0x0F).trans (State.val_put_self (by decide))

section Position

variable (hadm : admits s via (hubIndex h) 0x01 [v] = true)

include hadm

theorem verdict_positionWrite : verdict s x via (hubIndex h) 0x01 [v] =
    if s.positionHeld h then .refuse 0x3001 0
    else .accept (.store (hubIndex h) 0x01 0 [v]) 20000 (fun t => t.rekeyed h) := by
  obtain ⟨o, ho, hr⟩ := findObj_position (h := h)
  rw [verdict_position ho hr, State.actPosition, if_neg (admits_position hadm), ← arrival_positionHeld]
  rfl

theorem positionWrite_refuses (hheld : s.positionHeld h = true) :
    Refuses (.positionWrite via h v) s via (hubIndex h) 0x01 0x3001 :=
  refuses_of (x := Aux.none) rfl hadm ((verdict_positionWrite hadm).trans (if_pos hheld)) (by decide) rfl

theorem positionWrite_defers (hfree : s.positionHeld h = false) (hroom : s.ticketRoom = true) :
    Defers (.positionWrite via h v) s via (hubIndex h) 0x01 [v] (fun t =>
      t.val (pkIndex h) 0x0F = 0 ∧ (∃ k ∈ t.svc.tickets, k.work = .store (hubIndex h) 0x01 0 [v] ∧ k.status = none) ∧
      SameHbm s t ∧ SameCtxs s t) := by
  obtain ⟨u, hu⟩ : ∃ u, u = (arrival s via (hubIndex h) 0x01).issue (.store (hubIndex h) 0x01 0 [v]) 20000
    (requesterOf via.path) := ⟨_, rfl⟩
  have hticket : ∃ k ∈ u.svc.tickets, k.work = .store (hubIndex h) 0x01 0 [v] ∧ k.status = none := by
    rw [hu]
    exact ⟨_, List.mem_append_right _ (List.mem_singleton_self _), rfl, rfl⟩
  have hhbm : SameHbm s u := by
    rw [hu]
    exact State.issue_kept (sameHbm_kept s) (sameHbm_keptV s) arrival_hbm
  have hctxs : SameCtxs s u := by
    rw [hu]
    exact State.issue_kept (sameCtxs_kept s) (sameCtxs_keptV s) arrival_ctxs
  refine defers_of (x := Aux.none) rfl hadm (arrival_ticketRoom.trans hroom)
    ((verdict_positionWrite hadm).trans (if_neg (by simp [hfree]))) ?_
  rw [← hu]
  have hsvc : SameSvc u (u.rekeyed h) := rekeyed_kept (sameSvc_kept u) (sameSvc_keptL u) (sameSvc_keptS u)
    (sameSvc_keptA u).toD rfl
  have hpending : ∃ k ∈ (u.rekeyed h).svc.tickets, k.work = .store (hubIndex h) 0x01 0 [v] ∧ k.status = none := by
    rw [hsvc]
    exact hticket
  exact ⟨rekeyed_count, hpending, rekeyed_kept (sameHbm_kept s) (sameHbm_keptL s) (sameHbm_keptS s)
    (sameHbm_keptA s).toD hhbm, rekeyed_kept (sameCtxs_kept s) (sameCtxs_keptL s) (sameCtxs_keptS s)
    (sameCtxs_keptA s).toD hctxs⟩

end Position

/-! ### The statement -/

/-- Settles O40: where a training, its retry and a retrain end, the spoke control's writes, and POSITION_WRITE. -/
theorem spokesAndPositions : Obligations.SpokesAndPositions := by
  unfold Obligations.SpokesAndPositions
  refine ⟨fun s h n tr hn => ⟨fun hp hmay => ⟨fun hstate => spokeTrain_ends hp hmay hstate,
      fun hstate => spokeTrainRetry_ends hp hmay hstate, fun hup => spokeRetrain_ends hp hmay hup⟩,
    fun via value hsel => ⟨fun hadm hvalue => spokeDown_takes hn hsel hvalue hadm,
      fun hadm hvalue => ⟨fun hon => spokeTrainStart_takes hn hsel hvalue hadm hon,
        fun hoff => spokeTrainStart_refuses hn hsel hvalue hadm hoff⟩,
      fun o ho hp hm _ hgated => spokeTrainStart_gated ho hp hm hgated,
      fun hadm hvalue hon hup => spokeForceRetrain_takes hn hsel hvalue hadm hon hup⟩⟩,
    fun s via h value => ⟨fun hpres hshort hbeyond hassigned => positionWrite_beyond hpres hshort hbeyond hassigned,
      fun hadm hheld => positionWrite_refuses hadm hheld,
      fun hadm hfree hroom => positionWrite_defers hadm hfree hroom⟩⟩

end Sys2Proof.Machine
end

section
/-! SUPPORT. What the operations of exchange groups leave of a context and of its registers (R377 to R387). -/

namespace Sys2Proof.Machine

open Sys2Proof Sys2Proof.Safety

variable {s t u : State} {n m : Nat} {c : Ctx} {x : Exchange} {α : Type}

/-! ### A context's exchange -/

theorem modExchange_ctx {f : Exchange → Exchange} (hc : s.ctx n = some c) :
    (s.modExchange n f).ctx n = some { c with exchange := c.exchange.map f } :=
  ctx_modCtx_self (fun _ => rfl) hc

theorem modExchange_dict {f : Exchange → Exchange} : SameDict s (s.modExchange n f) := State.modCtx_dict

theorem modExchange_hbm {f : Exchange → Exchange} : SameHbm s (s.modExchange n f) :=
  ⟨State.modCtx_hbm0, State.modCtx_hbm1⟩

theorem modExchange_view {f : Exchange → Exchange} {v : Ctx → α}
    (hv : ∀ c, v { c with exchange := c.exchange.map f } = v c) : SameView v s (s.modExchange n f) :=
  modCtx_view (fun _ => rfl) hv

/-- The exchange of a context holds `P`. -/
def Exchanges (n : Nat) (t : State) (P : Exchange → Prop) : Prop :=
  ∃ d y, t.ctx n = some d ∧ d.exchange = some y ∧ P y

theorem modExchange_exchanges {f : Exchange → Exchange} {P : Exchange → Prop} (hc : s.ctx n = some c)
    (hx : c.exchange = some x) (hf : P (f x)) : Exchanges n (s.modExchange n f) P :=
  ⟨_, _, modExchange_ctx hc, congrArg (Option.map f) hx, hf⟩

/-- What a view of the exchange shows stays while the view does. -/
theorem Exchanges.of_view {g : Exchange → α} {a : α} (hs : Exchanges n s (fun y => g y = a))
    (hv : SameView (fun c => c.exchange.map g) s t) : Exchanges n t (fun y => g y = a) := by
  obtain ⟨d, y, hd, hy, hg⟩ := hs
  obtain ⟨e, he, hview⟩ := hv.ctx hd
  rw [hy] at hview
  obtain ⟨z, hz, hgz⟩ := Option.map_eq_some_iff.mp hview
  exact ⟨e, z, he, hz, hgz.trans hg⟩

theorem Exchanges.of_same {P : Exchange → Prop} (hs : Exchanges n s P) (hv : SameView (fun c => c.exchange) s t) :
    Exchanges n t P := by
  obtain ⟨d, y, hd, hy, hP⟩ := hs
  obtain ⟨e, he, hview⟩ := hv.ctx hd
  exact ⟨e, y, he, hview.trans hy, hP⟩

/-- A tensor that takes its place leaves the exchange as it is. -/
theorem placeLinked_exchange {id step : Nat} : SameView (fun c => c.exchange) s (s.placeLinked n id step) := by
  unfold State.placeLinked
  split
  · exact .refl _ s
  · rename_i c hc
    split_ifs
    · exact .refl _ s
    · split
      · exact .refl _ s
      · dsimp only
        split
        · exact setCtx_view hc rfl rfl
        · exact .refl _ s

/-! ### A shard that comes whole -/

theorem checkWhole_view {step : Nat} {v : Ctx → α} (hv : ∀ c l, v { c with commits := l } = v c) :
    SameView v s (s.checkWhole n step) := by
  have hmod {g : Commit → Commit} : SameView v s
      (s.modCtx n (fun c => { c with commits := c.commits.map g })) := modCtx_view (fun _ => rfl) (fun _ => hv _ _)
  unfold State.checkWhole
  split
  · exact .refl _ s
  · split
    · exact .refl _ s
    · split_ifs
      · exact hmod.of_sameCtxs (State.putAt_ctxs.trans State.modHalf_ctxs)
      · exact .refl _ s

theorem checkWhole_subs {step : Nat} : OnlySubs 0x6010 [0x04] s (s.checkWhole n step) := by
  unfold State.checkWhole
  split
  · exact .refl _ _ s
  · split
    · exact .refl _ _ s
    · split_ifs
      · refine onlySubs_putAt (SameObject.onlySubs ?_) (by decide)
        exact State.modHalf_kept (sameObject_keptH _ s)
          (State.modCtx_kept (sameObject_kept _ s) (sameObject_keptC _ s) (SameObject.refl _ s))
      · exact .refl _ _ s

/-! ### A step that commits (R379, R387) -/

/-- Summing shards and sending them keeps every context's state, and writes no word of 0x6010 but the count of dense
shards. -/
structure Summed (s t : State) : Prop where
  view : SameView (fun c => c.state) s t
  words : OnlySubs 0x6010 [0x0D] s t

theorem Summed.refl (s : State) : Summed s s := ⟨.refl _ s, .refl _ _ s⟩

theorem Summed.modCtx {f : Ctx → Ctx} (ht : Summed s t) (hn : ∀ c, (f c).n = c.n) (hst : ∀ c, (f c).state = c.state) :
    Summed s (t.modCtx m f) :=
  ⟨ht.view.trans (modCtx_view hn hst), ht.words.of_object
    (State.modCtx_kept (sameObject_kept _ t) (sameObject_keptC _ t) (SameObject.refl _ t))⟩

theorem Summed.modExchange {f : Exchange → Exchange} (ht : Summed s t) : Summed s (t.modExchange m f) :=
  ht.modCtx (fun _ => rfl) (fun _ => rfl)

theorem Summed.handItem {dest cls step item attempt : Nat} {data : List Byte} (ht : Summed s t) :
    Summed s (t.handItem n dest cls step item attempt data) :=
  ⟨ht.view.of_sameCtxs handItem_ctxs, ht.words.of_object
    (State.handItem_kept (sameObject_kept _ t) (sameObject_keptD t (by decide)) (SameObject.refl _ t))⟩

theorem Summed.counted {sub k : Nat} {h : HalfId} (ht : Summed s t) : Summed s (t.add64 (collIndex h) sub k) :=
  have kd : KeptD (SameObject 0x6010 t) [collIndex h] := sameObject_keptD t (by cases h <;> decide)
  ⟨ht.view.of_sameCtxs State.add64_ctxs, ht.words.of_object
    (State.add64_kept (kd.mem (List.mem_singleton_self _)) (SameObject.refl _ t))⟩

theorem takeShard_kept {step lo : Nat} {l : List (Nat × Nat)} {b : Bool} :
    (if b then c.takeShard step lo l else c).n = c.n ∧ (if b then c.takeShard step lo l else c).state = c.state := by
  cases b
  · exact ⟨rfl, rfl⟩
  · exact ⟨rfl, rfl⟩

/-- Buckets of which the own shard holds elements. -/
def State.ownBuckets (s : State) (c : Ctx) (x : Exchange) : List Nat :=
  ((shardsOf x (gradLength c)).filter (fun e => e.2 == s.position c.half)).map (·.1)

/-- The sums of an own shard: in entries, or dense where those take more (R379). -/
def shardDense (c : Ctx) (x : Exchange) (b : Nat) (l : List (Nat × Nat)) : Bool :=
  !x.topK || decide (2 * shardLen (gradLength c) b x.data.length < 6 * l.length)

def shardBytes (c : Ctx) (x : Exchange) (b own : Nat) (l : List (Nat × Nat)) : List Byte :=
  let sp := shardSpan (gradLength c) b x.data.length (x.data.idxOf own)
  if !shardDense c x b l then entryBytes l
  else (List.range sp.2).flatMap (fun i => natBytes 2 ((lookup l (sp.1 + i)).getD 0))

/-- The own shard of a bucket is summed, kept and sent to every other member. -/
def State.sumShard (n step own : Nat) (c : Ctx) (x : Exchange) (s : State) (b : Nat) : State :=
  let len := gradLength c
  let l := commitShard x len b own step
  let bytes := shardBytes c x b own l
  let s := if x.topK && shardDense c x b l then s.bumpAt n 0x6010 0x0D else s
  let s := (x.data.filter (· != own)).foldl (fun s p =>
    (s.handItem n p 3 step b 0 bytes).add64 (collIndex c.half) 0x03 bytes.length) s
  s.modCtx n (fun c => { c.takeShard step (bucketLo len b) l with
    exchange := c.exchange.map (fun x => { x with gathered := x.gathered ++ [(b, own, step)] }) })

/-- The own shards of a step are summed, and what the step held of contributions and seals is gone. -/
def State.shardsSummed (s : State) (n step : Nat) (c : Ctx) (x : Exchange) : State :=
  let mine := s.ownBuckets c x
  let s := mine.foldl (State.sumShard n step (s.position c.half) c x) s
  let s := s.modCtx n (fun c => if mine.isEmpty then c.takeShard step 0 [] else c)
  s.modExchange n (fun x => { x with
    held := x.held.filter (fun i => decide (step < i.step) || i.cls != 2),
    seals := x.seals.filter (fun e => decide (step < e.2.1)),
    retracted := x.retracted.filter (fun e => decide (step < e.step)) })

/-- A step that commits is noted once its shards are summed, with the time that it took. -/
theorem commitStep_eq {step : Nat} (hc : s.ctx n = some c) (hx : c.exchange = some x) : s.commitStep n step =
    (((((s.shardsSummed n step c x).noteCommit n step).put64At n 0x6010 0x0B
      ((s.shardsSummed n step c x).since x.sealedAt)).add64 (collIndex c.half) 0x07 1).exState n 3).checkWhole
        n step := by
  unfold State.commitStep
  rw [hc]
  dsimp only
  rw [hx]
  rfl

theorem sumShard_summed {step own b : Nat} (ht : Summed s t) : Summed s (State.sumShard n step own c x t b) := by
  unfold State.sumShard
  extract_lets len l bytes t' t''
  have hcounted : Summed s t' := by
    unfold t'
    split
    · exact ⟨ht.view.of_sameCtxs State.bumpAt_ctxs, onlySubs_putAt ht.words (by decide)⟩
    · exact ht
  have hsent : Summed s t'' := Kept.foldl (P := Summed s) (fun t p ht => Summed.counted (Summed.handItem ht)) hcounted
  exact hsent.modCtx (fun _ => rfl) (fun _ => rfl)

/-- A member that owns no shard keeps an empty gradient. -/
theorem Summed.keepEmpty {b : Bool} {step : Nat} (ht : Summed s t) :
    Summed s (t.modCtx m (fun c => if b then c.takeShard step 0 [] else c)) :=
  ht.modCtx (fun _ => takeShard_kept.1) (fun _ => takeShard_kept.2)

theorem shardsSummed_summed {step : Nat} : Summed s (s.shardsSummed n step c x) := by
  unfold State.shardsSummed
  exact (Summed.keepEmpty (Kept.foldl (P := Summed s) (fun t b ht => sumShard_summed ht) (.refl s))).modExchange

theorem collCounted_object {h : HalfId} {sub k : Nat} : SameObject 0x6010 s (s.add64 (collIndex h) sub k) :=
  have kd : KeptD (SameObject 0x6010 s) [collIndex h] := sameObject_keptD s (by cases h <;> decide)
  State.add64_kept (kd.mem (List.mem_singleton_self _)) (SameObject.refl _ s)

theorem noteCommit_committed {step : Nat} (hc : s.ctx n = some c) :
    OnlySubs 0x6010 [0x05, 0x06] s (s.noteCommit n step) ∧ (s.noteCommit n step).committed n = step % 2 ^ 64 := by
  have hloss : SameObject 0x6010 (s.put64At n 0x6010 0x05 step) (s.noteCommit n step) := by
    have kd : KeptD (SameObject 0x6010 (s.put64At n 0x6010 0x05 step)) [0x7010] := sameObject_keptD _ (by decide)
    unfold State.noteCommit
    rw [hc]
    exact State.putAt_kept (kd.mem (List.mem_singleton_self _)) (SameObject.refl _ _)
  refine ⟨OnlySubs.of_object (onlySubs_putAt (onlySubs_putAt (.refl _ _ s) (by decide)) (by decide)) hloss, ?_⟩
  rw [State.committed, SameObject.val64At hloss, val64At_put64At_self]

/-- What a commit of a step writes of 0x6010. -/
theorem commitStep_words {step : Nat} (hc : s.ctx n = some c) (hx : c.exchange = some x) :
    OnlySubs 0x6010 [0x04, 0x05, 0x06, 0x0B, 0x0C, 0x0D] s (s.commitStep n step) ∧
      (s.commitStep n step).committed n = step % 2 ^ 64 := by
  obtain ⟨hview, hwords⟩ := shardsSummed_summed (s := s) (n := n) (c := c) (x := x) (step := step)
  obtain ⟨d, hd, -⟩ := hview.ctx hc
  obtain ⟨hnoted, hcommitted⟩ := noteCommit_committed (step := step) hd
  rw [commitStep_eq hc hx]
  have htimed {t : State} {k : Nat} : OnlySubs 0x6010 [0x04, 0x0B, 0x0C] t
      ((((t.put64At n 0x6010 0x0B k).add64 (collIndex c.half) 0x07 1).exState n 3).checkWhole n step) :=
    (onlySubs_putAt (OnlySubs.of_object (onlySubs_putAt (onlySubs_putAt (.refl _ _ t) (by decide)) (by decide))
      collCounted_object) (by decide)).trans (onlySubs_mono checkWhole_subs (by decide))
  refine ⟨?_, ?_⟩
  · exact (onlySubs_mono hwords (by decide)).trans ((onlySubs_mono hnoted (by decide)).trans
      (onlySubs_mono htimed (by decide)))
  · exact (OnlySubs.val64At htimed (by decide) (by decide)).trans hcommitted

/-- A step whose seals are all held commits (R379). -/
theorem tryCommit_words (hc : s.ctx n = some c) (hx : c.exchange = some x) :
    OnlySubs 0x6010 [0x04, 0x05, 0x06, 0x0B, 0x0C, 0x0D] s (s.tryCommit n) ∧
      (x.data.all (fun p => x.seals.contains (p, s.committed n + 1, 2)) = true →
        (s.tryCommit n).committed n = (s.committed n + 1) % 2 ^ 64) := by
  unfold State.tryCommit
  rw [hc]
  dsimp only
  rw [hx]
  dsimp only
  split
  · obtain ⟨hwords, hcommitted⟩ := commitStep_words (step := s.committed n + 1) hc hx
    exact ⟨hwords, fun _ => hcommitted⟩
  · rename_i hmissing
    exact ⟨.refl _ _ s, fun hall => absurd hall hmissing⟩

theorem commitStep_view {step : Nat} : SameView (fun c => c.state) s (s.commitStep n step) := by
  cases hc : s.ctx n with
  | none =>
    unfold State.commitStep
    rw [hc]
    exact .refl _ s
  | some c =>
    cases hx : c.exchange with
    | none =>
      unfold State.commitStep
      rw [hc]
      dsimp only
      rw [hx]
      exact .refl _ s
    | some x =>
      have hnoted {t : State} : SameCtxs t (t.noteCommit n step) := by
        unfold State.noteCommit
        split
        · exact State.putAt_ctxs.trans State.put64At_ctxs
        · rfl
      have htimed {t : State} {k : Nat} : SameCtxs t
          (((t.put64At n 0x6010 0x0B k).add64 (collIndex c.half) 0x07 1).exState n 3) :=
        State.putAt_ctxs.trans (State.add64_ctxs.trans State.put64At_ctxs)
      have hsummed := shardsSummed_summed (s := s) (n := n) (c := c) (x := x) (step := step)
      rw [commitStep_eq hc hx]
      exact ((hsummed.view.of_sameCtxs hnoted).of_sameCtxs htimed).trans (checkWhole_view fun _ _ => rfl)

theorem tryCommit_view : SameView (fun c => c.state) s (s.tryCommit n) := by
  unfold State.tryCommit
  split
  · exact .refl _ s
  · split
    · exact .refl _ s
    · dsimp only
      split
      · exact commitStep_view
      · exact .refl _ s

/-! ### An item that is sent (R382) -/

section Sent

variable {dest cls step item attempt : Nat} {data : List Byte}

/-- The item as it is kept of what has been sent. -/
def sentItem (dest cls step item attempt : Nat) (data : List Byte) : Item :=
  { src := dest, step := step, cls := cls, item := item, attempt := attempt, data := data }

/-- The exchange with an item noted as sent. -/
def Exchange.noteSent (x : Exchange) (i : Item) : Exchange := { x with sent := x.sent ++ [i] }

/-- Handing an item out and counting it leave the contexts with what they note of it. -/
theorem sendItem_shape : ∃ u, SameCtxs (u.modExchange n (·.noteSent (sentItem dest cls step item attempt data)))
      (s.sendItem n dest cls step item attempt data) ∧ SameCtxs s u ∧ SameObject 0x6010 s u ∧
      OnlySubs 0x6010 [0x07] (u.modExchange n (·.noteSent (sentItem dest cls step item attempt data)))
        (s.sendItem n dest cls step item attempt data) := by
  refine ⟨s.handItem n dest cls step item attempt data, ?_, handItem_ctxs,
    State.handItem_kept (sameObject_kept _ s) (sameObject_keptD s (by decide)) (SameObject.refl _ s), ?_⟩
  all_goals
    unfold State.sendItem
    extract_lets i t v w
  · have hw : w.ctxs = v.ctxs := by
      unfold w
      split
      · exact State.putAt_ctxs
      · rfl
    split
    · exact State.add64_ctxs.trans hw
    · exact hw
  · have hw : OnlySubs 0x6010 [0x07] v w := by
      unfold w
      split
      · exact onlySubs_putAt (.refl _ _ v) (by decide)
      · exact .refl _ _ v
    split
    · exact hw.of_object collCounted_object
    · exact hw

theorem sendItem_ctx (hc : s.ctx n = some c) : (s.sendItem n dest cls step item attempt data).ctx n =
    some { c with exchange := c.exchange.map (·.noteSent (sentItem dest cls step item attempt data)) } := by
  obtain ⟨u, hctxs, hu, -, -⟩ := sendItem_shape (s := s) (n := n) (dest := dest) (cls := cls) (step := step)
    (item := item) (attempt := attempt) (data := data)
  exact (ctx_of_ctxs hctxs).trans (modExchange_ctx ((ctx_of_ctxs hu).trans hc))

theorem sendItem_view {v : Ctx → α}
    (hv : ∀ i c, v { c with exchange := c.exchange.map (fun x => x.noteSent i) } = v c) :
    SameView v s (s.sendItem n dest cls step item attempt data) := by
  obtain ⟨u, hctxs, hu, -, -⟩ := sendItem_shape (s := s) (n := n) (dest := dest) (cls := cls) (step := step)
    (item := item) (attempt := attempt) (data := data)
  exact (SameView.of_ctxs hu).trans ((modExchange_view (hv _)).of_sameCtxs hctxs)

theorem sendItem_words : OnlySubs 0x6010 [0x07] s (s.sendItem n dest cls step item attempt data) := by
  obtain ⟨u, -, -, hobject, hwords⟩ := sendItem_shape (s := s) (n := n) (dest := dest) (cls := cls) (step := step)
    (item := item) (attempt := attempt) (data := data)
  exact (hobject.trans (sameObject_of_dict (SameObject.refl _ _) modExchange_dict)).onlySubs.trans hwords

end Sent

end Sys2Proof.Machine
end

section
/-! PROOF. O43: what a member takes of items, retracts, seals, refusals, gathers and norm partials (R377, R379 to R381,
R383 to R387). -/

namespace Sys2Proof.Machine

open Sys2Proof Sys2Proof.Safety

variable {s t : State} {n src group step item attempt : Nat} {c : Ctx} {x : Exchange} {data : List Byte} {i : Instr}

/-! ### Protocol errors (R385) -/

/-- A protocol error is counted and changes nothing else of the contexts and the memories. -/
def Wrong (n : Nat) (i : Instr) (s : State) : Prop :=
  Reaches i s (fun t => t.regAt n 0x6010 0x0E = s.regAt n 0x6010 0x0E + 1 ∧ SameCtxs s t ∧ SameHbm s t)

theorem wrong_of (hexec : exec i s = .next (s.protocolError n)) : Wrong n i s :=
  ⟨_, hexec, State.regAt_bumpAt.trans (if_pos rfl), State.bumpAt_ctxs, State.bumpAt_hbm0, State.bumpAt_hbm1⟩

/-! ### What a retract names (R386) -/

/-- The items of a range of numbers. -/
def itemRange (first last : Nat) : List Nat := (List.range (last + 1 - first)).map (fun i => first + i)

theorem mem_itemRange {first last k : Nat} : k ∈ itemRange first last ↔ first ≤ k ∧ k ≤ last := by
  simp only [itemRange, List.mem_map, List.mem_range]
  constructor
  · rintro ⟨i, hi, rfl⟩
    omega
  · intro hk
    exact ⟨k - first, by omega, by omega⟩

/-- A retract names the item. -/
def Item.named (i : Item) (src step first last attempt : Nat) : Bool :=
  i.src == src && i.step == step && i.attempt == attempt && (itemRange first last).contains i.item

theorem named_iff {i : Item} {first last : Nat} : i.named src step first last attempt = true ↔
    i.src = src ∧ i.step = step ∧ i.attempt = attempt ∧ first ≤ i.item ∧ i.item ≤ last := by
  simp [Item.named, mem_itemRange, and_assoc]

/-- The exchange without the items that a retract names, which stay retracted. -/
def Exchange.retract (x : Exchange) (src step first last attempt : Nat) : Exchange :=
  { x with
    held := x.held.filter (fun i => !i.named src step first last attempt),
    retracted := x.retracted ++ (itemRange first last).map (fun i =>
      { src := src, step := step, item := i, attempt := attempt }) }

/-- The exchange with a seal held. -/
def Exchange.holdSeal (x : Exchange) (e : Nat × Nat × Nat) : Exchange :=
  { x with seals := if x.seals.contains e then x.seals else x.seals ++ [e] }

theorem holdSeal_holds {e : Nat × Nat × Nat} : (x.holdSeal e).seals.contains e = true := by
  unfold Exchange.holdSeal
  dsimp only
  split
  · assumption
  · simp

theorem holdSeal_keeps {e k : Nat × Nat × Nat} (hk : x.seals.contains k = true) :
    (x.holdSeal e).seals.contains k = true := by
  unfold Exchange.holdSeal
  dsimp only
  split
  · exact hk
  · rw [List.contains_append, hk, Bool.true_or]

/-- The record of a second refusal (R384). -/
def refusalEvent (h : HalfId) (n src step : Nat) : Event :=
  { cls := clsFailure, unit := unitHub h, ctx := n, step := step, obj := counter 0x6010 0x0A,
    detail := natBytes 2 src }

/-- The exchange with a first refusal noted, and what it names taken back to be sent again. -/
def Exchange.refuse (x : Exchange) (l : List Item) (src step cls : Nat) : Exchange :=
  { x with
    refused := x.refused ++ [(src, step)],
    sent := x.sent.filter (fun i => !(i.src == src && i.step == step && i.cls == cls)),
    past := x.past ++ l.map (fun i => (step, i.cls, i.item, i.attempt)) }

/-- The attempt at which refused items go again: above every one that they have had. -/
def attemptAfter (l : List Item) : Nat := l.foldl (fun a i => max a i.attempt) 0 + 1

/-- Refused items are sent again, each at the next attempt. -/
def State.resend (s : State) (n src step cls : Nat) (l : List Item) : State :=
  l.foldl (fun s i => s.sendItem n src cls step i.item (attemptAfter l) i.data) s

theorem resend_refused {cls : Nat} {l : List Item} :
    SameView (fun c => c.exchange.map (·.refused)) s (s.resend n src step cls l) := by
  refine Kept.foldl (P := SameView (fun c => c.exchange.map (·.refused)) s) (fun t i ht => ht.trans ?_) (.refl _ s)
  refine sendItem_view fun i c => ?_
  cases c.exchange <;> rfl

theorem resend_words {cls : Nat} {l : List Item} : OnlySubs 0x6010 [0x07] s (s.resend n src step cls l) :=
  Kept.foldl (P := OnlySubs 0x6010 [0x07] s) (fun _ _ ht => ht.trans sendItem_words) (.refl _ _ s)

/-- The values of a gather: dense, or in entries (R379). -/
def gatherValues (x : Exchange) (len b src : Nat) (data : List Byte) : List (Nat × Nat) :=
  let sp := shardSpan len b x.data.length (x.data.idxOf src)
  if !x.topK || data.length == 2 * sp.2 then
    (List.range sp.2).map (fun i => (sp.1 + i, fieldAt data (2 * i) 2))
  else entriesOf (data.length / 6) data

/-- A context with the shard of another owner. -/
def Ctx.takeGather (c : Ctx) (x : Exchange) (step b src : Nat) (data : List Byte) (len : Nat) : Ctx :=
  { c.takeShard step (bucketLo len b) (gatherValues x len b src data) with
    exchange := c.exchange.map (fun x => { x with gathered := x.gathered ++ [(b, src, step)] }) }

/-- The record of members that stay silent (R387). -/
def silenceEvent (h : HalfId) (n step : Nat) (l : List Nat) : Event :=
  { cls := clsFailure, unit := unitHub h, ctx := n, step := step, obj := counter 0x6010 0x0F,
    detail := l.flatMap (natBytes 2) }

section Received

variable (hp : s.key.powered = true) (hc : s.ctx n = some c) (hx : c.exchange = some x)

include hp hc hx

/-! ### Contributions -/

theorem exec_contributionReceive (hsrc : x.data.contains src = true) :
    exec (.contributionReceive n src group step item attempt data) s =
      .next (if s.screen n x src group step item attempt = 0 then s.modExchange n (fun x => x.keep
          { src := src, step := step, cls := 2, item := item, attempt := attempt, data := data })
        else if s.screen n x src group step item attempt = 1 then s else s.protocolError n) := by
  change execContributionReceive n src group step item attempt data s = _
  unfold execContributionReceive
  rw [onPower_on hp, hc]
  dsimp only
  rw [hx]
  dsimp only
  rw [if_neg (by rw [hsrc]; decide)]
  cases s.screen n x src group step item attempt with
  | zero => rfl
  | succ k => cases k <;> rfl

theorem contribution_kept (hsrc : x.data.contains src = true) (hscreen : s.screen n x src group step item attempt = 0) :
    Reaches (.contributionReceive n src group step item attempt data) s (fun t =>
      Exchanges n t (fun y => y = x.keep
        { src := src, step := step, cls := 2, item := item, attempt := attempt, data := data }) ∧
      SameDict s t ∧ SameHbm s t) :=
  ⟨_, (exec_contributionReceive hp hc hx hsrc).trans (congrArg _ (if_pos hscreen)), modExchange_exchanges hc hx rfl,
    modExchange_dict, modExchange_hbm⟩

theorem contribution_dropped (hsrc : x.data.contains src = true)
    (hscreen : s.screen n x src group step item attempt = 1) :
    Reaches (.contributionReceive n src group step item attempt data) s (fun t => t = s) :=
  ⟨_, (exec_contributionReceive hp hc hx hsrc).trans (by rw [hscreen]; rfl), rfl⟩

theorem contribution_wrong
    (hbad : x.data.contains src = false ∨ s.screen n x src group step item attempt = 2) :
    Wrong n (.contributionReceive n src group step item attempt data) s := by
  refine wrong_of ?_
  cases hsrc : x.data.contains src with
  | true =>
    have hscreen := hbad.resolve_left (by rw [hsrc]; decide)
    exact (exec_contributionReceive hp hc hx hsrc).trans (by rw [hscreen]; rfl)
  | false =>
    change execContributionReceive n src group step item attempt data s = _
    unfold execContributionReceive
    rw [onPower_on hp, hc]
    dsimp only
    rw [hx]
    dsimp only
    rw [if_pos hsrc]

/-! ### Tensors -/

theorem tensor_kept {id : Nat} (hlink : x.links[item]? = some (id, src, true))
    (hscreen : s.screen n x src group step item attempt = 0) (hfirst : attempt = 0) :
    Reaches (.tensorReceive n src group step item attempt data) s (fun t =>
      Exchanges n t (fun y => y = x.keep
        { src := src, step := step, cls := 1, item := item, attempt := attempt, data := data }) ∧
      SameDict s t ∧ SameHbm s t) := by
  subst hfirst
  have hexec : exec (.tensorReceive n src group step item 0 data) s =
      .next ((s.modExchange n (fun x => x.keep
        { src := src, step := step, cls := 1, item := item, attempt := 0, data := data })).placeLinked n id step) := by
    change execTensorReceive n src group step item 0 data s = _
    unfold execTensorReceive
    rw [onPower_on hp, hc]
    dsimp only
    rw [hx]
    dsimp only
    rw [hlink]
    dsimp only
    rw [if_neg (by simp), hscreen]
    rfl
  have hkept : Exchanges n (s.modExchange n (fun x => x.keep
      { src := src, step := step, cls := 1, item := item, attempt := 0, data := data })) (fun y => y = x.keep
        { src := src, step := step, cls := 1, item := item, attempt := 0, data := data }) :=
    modExchange_exchanges hc hx rfl
  exact ⟨_, hexec, hkept.of_same placeLinked_exchange,
    State.placeLinked_kept (sameDict_kept s) (sameDict_keptC s) modExchange_dict,
    State.placeLinked_kept (sameHbm_kept s) (sameHbm_keptC s) modExchange_hbm⟩

theorem tensor_wrong (hlink : x.links[item]? = none) :
    Wrong n (.tensorReceive n src group step item attempt data) s := by
  refine wrong_of ?_
  change execTensorReceive n src group step item attempt data s = _
  unfold execTensorReceive
  rw [onPower_on hp, hc]
  dsimp only
  rw [hx]
  dsimp only
  rw [hlink]

/-! ### Retracts (R386) -/

theorem retract_wrong {first last : Nat} (hgroup : group ≠ x.group) :
    Wrong n (.retractReceive n src group step first last attempt) s := by
  refine wrong_of ?_
  change execRetractReceive n src group step first last attempt s = _
  unfold execRetractReceive
  rw [onPower_on hp, hc]
  dsimp only
  rw [hx]
  dsimp only
  rw [if_pos hgroup]

theorem exec_retractReceive {first last : Nat} (hopen : s.committed n < step)
    (hseals : x.seals.any (fun e => e.1 == src && e.2.1 == step) = false) (hpast : step ≠ s.stepOf n) :
    exec (.retractReceive n src x.group step first last attempt) s =
      .next ((s.bumpAt n 0x6010 0x09).modExchange n (·.retract src step first last attempt)) := by
  change execRetractReceive n src x.group step first last attempt s = _
  unfold execRetractReceive
  rw [onPower_on hp, hc]
  dsimp only
  rw [hx]
  dsimp only
  rw [if_neg (fun h => h rfl), if_neg (by rw [hseals]; simp; omega), if_neg ?_]
  · rfl
  · intro hread
    obtain ⟨i, -, hi⟩ := List.any_eq_true.mp hread
    simp only [Bool.and_eq_true, beq_iff_eq] at hi
    obtain ⟨⟨-, hnow⟩, -⟩ := hi
    exact hpast hnow

theorem retract_drops {first last : Nat} (hopen : s.committed n < step)
    (hseals : x.seals.any (fun e => e.1 == src && e.2.1 == step) = false) (hpast : step ≠ s.stepOf n) :
    Reaches (.retractReceive n src x.group step first last attempt) s (fun t =>
      t.regAt n 0x6010 0x09 = s.regAt n 0x6010 0x09 + 1 ∧
      Exchanges n t (fun y => ∀ i ∈ y.held, i ∈ x.held ∧ ¬ (i.src = src ∧ i.step = step ∧ i.attempt = attempt ∧
        first ≤ i.item ∧ i.item ≤ last)) ∧ SameHbm s t) := by
  have hcounted : (s.bumpAt n 0x6010 0x09).ctx n = some c := (ctx_of_ctxs State.bumpAt_ctxs).trans hc
  refine ⟨_, exec_retractReceive hp hc hx hopen hseals hpast, ?_, modExchange_exchanges hcounted hx ?_,
    modExchange_hbm.1.trans State.bumpAt_hbm0, modExchange_hbm.2.trans State.bumpAt_hbm1⟩
  · rw [State.regAt, modExchange_dict, ← State.regAt, State.regAt_bumpAt, if_pos rfl]
  · intro i hi
    obtain ⟨hheld, hnamed⟩ := List.mem_filter.mp hi
    refine ⟨hheld, fun hall => ?_⟩
    rw [named_iff.mpr hall] at hnamed
    cases hnamed

/-! ### Seals (R384, R387) -/

section Sealed

variable {cls count : Nat} {crc : Word}
  (hcls : cls = 1 ∨ cls = 2 ∧ x.data.contains src = true) (hopen : s.committed n < step)

include hcls hopen

theorem exec_sealReceive : exec (.sealReceive n src x.group step cls count crc) s =
    .next (if sealSum (x.valid src step cls) ≠ (count, crc.toNat) then
        (s.handItem n src 8 step 0 0 (natBytes 8 step ++ natBytes 1 cls)).bumpAt n 0x6010 0x0A
      else (s.modExchange n (·.holdSeal (src, step, cls))).tryCommit n) := by
  have hvalid : ¬ (x.group ≠ x.group ∨ (cls = 2 ∧ x.data.contains src = false) ∨ cls = 0 ∨ 2 < cls) := by
    rcases hcls with rfl | ⟨rfl, hmember⟩
    · simp
    · rw [hmember]
      simp
  change execSealReceive n src x.group step cls count crc s = _
  unfold execSealReceive
  rw [onPower_on hp, hc]
  dsimp only
  rw [hx]
  dsimp only
  rw [if_neg hvalid, if_neg (by omega)]
  rfl

theorem seal_refused (hsum : sealSum (x.valid src step cls) ≠ (count, crc.toNat)) :
    Reaches (.sealReceive n src x.group step cls count crc) s (fun t =>
      t.regAt n 0x6010 0x0A = s.regAt n 0x6010 0x0A + 1 ∧ t.committed n = s.committed n ∧ SameHbm s t) := by
  have hexec := exec_sealReceive hp hc hx hcls hopen (count := count) (crc := crc)
  rw [if_pos hsum] at hexec
  have hsent : SameObject 0x6010 s (s.handItem n src 8 step 0 0 (natBytes 8 step ++ natBytes 1 cls)) :=
    State.handItem_kept (sameObject_kept _ s) (sameObject_keptD s (by decide)) (SameObject.refl _ s)
  have hcounted {t : State} : OnlySubs 0x6010 [0x0A] t (t.bumpAt n 0x6010 0x0A) :=
    onlySubs_putAt (.refl _ _ t) (by decide)
  refine ⟨_, hexec, ?_, ?_, ?_⟩
  · rw [State.regAt_bumpAt, if_pos rfl, hsent]
  · rw [State.committed, OnlySubs.val64At hcounted (by decide) (by decide), SameObject.val64At hsent, ← State.committed]
  · obtain ⟨hhbm0, hhbm1⟩ : SameHbm s (s.handItem n src 8 step 0 0 (natBytes 8 step ++ natBytes 1 cls)) :=
      State.handItem_kept (sameHbm_kept s) (sameHbm_keptA s).toD ⟨rfl, rfl⟩
    exact ⟨State.bumpAt_hbm0.trans hhbm0, State.bumpAt_hbm1.trans hhbm1⟩

theorem seal_held (hsum : sealSum (x.valid src step cls) = (count, crc.toNat)) :
    Reaches (.sealReceive n src x.group step cls count crc) s (fun t =>
      (cls = 2 ∧ step = s.committed n + 1 ∧ (∀ p ∈ x.data, p ≠ src → x.seals.contains (p, step, 2) = true) →
        t.committed n = step % 2 ^ 64) ∧
      t.regAt n 0x6010 0x0A = s.regAt n 0x6010 0x0A ∧ SameHbm s t) := by
  have hexec := exec_sealReceive hp hc hx hcls hopen (count := count) (crc := crc)
  rw [if_neg (fun h => h hsum)] at hexec
  obtain ⟨hwords, hcommits⟩ := tryCommit_words (modExchange_ctx (f := (·.holdSeal (src, step, cls))) hc)
    (congrArg (Option.map _) hx)
  have hdict : SameObject 0x6010 s (s.modExchange n (·.holdSeal (src, step, cls))) :=
    sameObject_of_dict (SameObject.refl _ _) modExchange_dict
  have hbefore : (s.modExchange n (·.holdSeal (src, step, cls))).committed n = s.committed n :=
    SameObject.val64At hdict
  refine ⟨_, hexec, ?_, (hwords _ _ (by decide) (by decide)).trans (hdict _ _), ?_⟩
  · rintro ⟨rfl, hnext, hothers⟩
    rw [hbefore, ← hnext] at hcommits
    refine hcommits (List.all_eq_true.mpr fun p hmem => ?_)
    by_cases hown : p = src
    · rw [hown]
      exact holdSeal_holds
    · exact holdSeal_keeps (hothers p hmem hown)
  · exact State.tryCommit_kept (sameHbm_kept s) (sameHbm_keptC s) (sameHbm_keptH s) (sameHbm_keptA s).toD
      modExchange_hbm

end Sealed

/-! ### Seal refusals (R384) -/

section Refusal

variable {cls : Nat}

theorem refusal_stops (hagain : x.refused.contains (src, step) = true) :
    Reaches (.sealRefusalReceive n src step cls) s (fun t =>
      Exchanges n t (fun y => y.stopped = x.stopped ++ [(src, step)]) ∧
      t.regAt n 0x6010 0x0A = s.regAt n 0x6010 0x0A + 1) := by
  obtain ⟨u, hu⟩ : ∃ u, u = (s.bumpAt n 0x6010 0x0A).log (refusalEvent c.half n src step) := ⟨_, rfl⟩
  have hexec : exec (.sealRefusalReceive n src step cls) s =
      .next (u.modExchange n (fun x => { x with stopped := x.stopped ++ [(src, step)] })) := by
    change execSealRefusalReceive n src step cls s = _
    unfold execSealRefusalReceive
    rw [onPower_on hp, hc]
    dsimp only
    rw [hx]
    dsimp only
    rw [if_pos hagain, hu]
    rfl
  have hlogged : SameObject 0x6010 (s.bumpAt n 0x6010 0x0A) u := by
    rw [hu]
    exact State.log_kept (sameObject_kept _ _) (sameObject_keptD _ (by decide)) (SameObject.refl _ _)
  have hctxs : SameCtxs s u := by
    rw [hu]
    exact State.log_kept (sameCtxs_kept s) (sameCtxs_keptA s).toD State.bumpAt_ctxs
  refine ⟨_, hexec, modExchange_exchanges ((ctx_of_ctxs hctxs).trans hc) hx rfl, ?_⟩
  rw [State.regAt, modExchange_dict, ← State.regAt, hlogged, State.regAt_bumpAt, if_pos rfl]

theorem refusal_repeats (hfirst : x.refused.contains (src, step) = false) :
    Reaches (.sealRefusalReceive n src step cls) s (fun t =>
      Exchanges n t (fun y => y.refused = x.refused ++ [(src, step)]) ∧
      t.regAt n 0x6010 0x0A = s.regAt n 0x6010 0x0A + 1) := by
  have hexec : exec (.sealRefusalReceive n src step cls) s =
      .next ((((s.bumpAt n 0x6010 0x0A).modExchange n (·.refuse (x.sentTo src step cls) src step cls)).resend n src
        step cls (x.sentTo src step cls)).handItem n src 4 step 0 0 (sealBytes cls (x.sentTo src step cls))) := by
    change execSealRefusalReceive n src step cls s = _
    unfold execSealRefusalReceive
    rw [onPower_on hp, hc]
    dsimp only
    rw [hx]
    dsimp only
    rw [if_neg (by rw [hfirst]; decide)]
    rfl
  have hcounted : (s.bumpAt n 0x6010 0x0A).ctx n = some c := (ctx_of_ctxs State.bumpAt_ctxs).trans hc
  have hnoted : Exchanges n ((s.bumpAt n 0x6010 0x0A).modExchange n (·.refuse (x.sentTo src step cls) src step cls))
      (fun y => y.refused = x.refused ++ [(src, step)]) := modExchange_exchanges hcounted hx rfl
  refine ⟨_, hexec, hnoted.of_view (resend_refused.of_sameCtxs handItem_ctxs), ?_⟩
  have hsent {t : State} {data : List Byte} : SameObject 0x6010 t (t.handItem n src 4 step 0 0 data) :=
    State.handItem_kept (sameObject_kept _ t) (sameObject_keptD t (by decide)) (SameObject.refl _ t)
  rw [hsent, resend_words _ _ (by decide) (by decide), State.regAt, modExchange_dict, ← State.regAt,
    State.regAt_bumpAt, if_pos rfl]

end Refusal

/-! ### Gathers (R380) -/

theorem gather_wrong {b : Nat} (hgroup : group ≠ x.group) :
    Wrong n (.gatherReceive n src group step b data) s := by
  refine wrong_of ?_
  change execGatherReceive n src group step b data s = _
  unfold execGatherReceive
  rw [onPower_on hp, hc]
  dsimp only
  rw [hx]
  dsimp only
  rw [if_pos (.inl hgroup)]

theorem gather_taken {b : Nat} (hmember : x.data.contains src = true) (hb : b < bucketCount (gradLength c))
    (hnew : x.gathered.contains (b, src, step) = false) (hopen : s.val64At n 0x5010 0x08 < step) :
    Reaches (.gatherReceive n src x.group step b data) s (fun t =>
      Exchanges n t (fun y => y.gathered = x.gathered ++ [(b, src, step)]) ∧ SameHbm s t) := by
  have hvalid : ¬ (x.group ≠ x.group ∨ x.data.contains src = false ∨ bucketCount (gradLength c) ≤ b) := by
    rw [hmember]
    simp
    omega
  have hfresh : ¬ (x.gathered.contains (b, src, step) || decide (step ≤ s.val64At n 0x5010 0x08)) = true := by
    rw [hnew]
    simp
    omega
  have hexec : exec (.gatherReceive n src x.group step b data) s =
      .next ((s.modCtx n (·.takeGather x step b src data (gradLength c))).checkWhole n step) := by
    change execGatherReceive n src x.group step b data s = _
    unfold execGatherReceive
    rw [onPower_on hp, hc]
    dsimp only
    rw [hx]
    dsimp only
    rw [if_neg hvalid, if_neg hfresh]
    rfl
  have htaken : Exchanges n (s.modCtx n (·.takeGather x step b src data (gradLength c)))
      (fun y => y.gathered = x.gathered ++ [(b, src, step)]) :=
    ⟨_, _, ctx_modCtx_self (fun _ => rfl) hc, congrArg (Option.map _) hx, rfl⟩
  exact ⟨_, hexec, htaken.of_same (checkWhole_view fun _ _ => rfl),
    State.checkWhole_kept (sameHbm_kept s) (sameHbm_keptC s) (sameHbm_keptH s) (sameHbm_keptA s).toD
      ⟨State.modCtx_hbm0, State.modCtx_hbm1⟩⟩

/-! ### Norm partials (R381) -/

theorem norm_wrong {value : Word} (houtside : x.norm.contains src = false) :
    Wrong n (.normPartialReceive n src step value) s := by
  refine wrong_of ?_
  change execNormPartialReceive n src step value s = _
  unfold execNormPartialReceive
  rw [onPower_on hp, hc]
  dsimp only
  rw [hx]
  dsimp only
  rw [if_pos houtside]

omit hp in
/-- S is not formed while the partial of a member is missing. -/
theorem formNorm_waits {p : Nat} (hp : p ∈ x.norm) (hmissing : ∀ e ∈ x.partials, e.1 = p → e.2.1 ≠ step) :
    s.formNorm n step = s := by
  have hnone : x.partials.find? (fun e => e.1 == p && e.2.1 == step) = none := by
    refine List.find?_eq_none.mpr fun e he hfound => ?_
    simp only [Bool.and_eq_true, beq_iff_eq] at hfound
    exact hmissing e he hfound.1 hfound.2
  unfold State.formNorm
  rw [hc]
  dsimp only
  rw [hx]
  dsimp only
  rw [if_neg]
  intro hall
  have hformed := List.all_eq_true.mp hall _ (List.mem_map_of_mem hp)
  rw [hnone] at hformed
  cases hformed

theorem norm_taken {value : Word} {p : Nat} (hmember : x.norm.contains src = true)
    (hnew : x.partials.any (fun e => e.1 == src && e.2.1 == step) = false) (hopen : s.val64At n 0x5010 0x08 < step)
    (hp' : p ∈ x.norm) (hother : p ≠ src) (hmissing : ∀ e ∈ x.partials, e.1 = p → e.2.1 ≠ step) :
    Reaches (.normPartialReceive n src step value) s (fun t =>
      Exchanges n t (fun y => y.partials = x.partials ++ [(src, step, value)]) ∧ SameDict s t ∧ SameHbm s t) := by
  have hfresh : ¬ (x.partials.any (fun e => e.1 == src && e.2.1 == step) ||
      decide (step ≤ s.val64At n 0x5010 0x08)) = true := by
    rw [hnew]
    simp
    omega
  have hexec : exec (.normPartialReceive n src step value) s =
      .next ((s.modExchange n (fun x => { x with partials := x.partials ++ [(src, step, value)] })).formNorm
        n step) := by
    change execNormPartialReceive n src step value s = _
    unfold execNormPartialReceive
    rw [onPower_on hp, hc]
    dsimp only
    rw [hx]
    dsimp only
    rw [if_neg (by rw [hmember]; decide), if_neg hfresh]
  have hstill : ∀ e ∈ x.partials ++ [(src, step, value)], e.1 = p → e.2.1 ≠ step := by
    intro e he hep
    rcases List.mem_append.mp he with hold | hlast
    · exact hmissing e hold hep
    · rw [List.mem_singleton.mp hlast] at hep
      exact absurd hep.symm hother
  rw [formNorm_waits (modExchange_ctx hc) (congrArg (Option.map _) hx) hp' hstill] at hexec
  exact ⟨_, hexec, modExchange_exchanges hc hx rfl, modExchange_dict, modExchange_hbm⟩

/-! ### SEAL_TIMEOUT (R387) -/

theorem sealTimeout_names {p : Nat} {r : List Nat} (hsilent : s.silent n x = p :: r)
    (hown : x.seals.contains (s.position c.half, s.committed n + 1, 2) = true) :
    Reaches (.sealTimeout n) s (fun t => t.regAt n 0x6010 0x0F = toWord (r.foldl min p) ∧
      t.reg (collIndex c.half) 0x0A = s.reg (collIndex c.half) 0x0A + 1 ∧ SameCtxs s t ∧ SameHbm s t) := by
  obtain ⟨u, hu⟩ : ∃ u, u = s.log (silenceEvent c.half n (s.committed n + 1) (p :: r)) := ⟨_, rfl⟩
  have hexec : exec (.sealTimeout n) s =
      .next ((u.putAt n 0x6010 0x0F (toWord (r.foldl min p))).bump (collIndex c.half) 0x0A) := by
    change execSealTimeout n s = _
    unfold execSealTimeout
    rw [onPower_on hp, hc]
    dsimp only
    rw [hx]
    dsimp only
    rw [hsilent]
    dsimp only
    rw [if_pos hown, hu]
    rfl
  have hlogged : SameObject (collIndex c.half) s u := by
    rw [hu]
    exact State.log_kept (sameObject_kept _ s) (sameObject_keptD s (by cases c.half <;> decide)) (SameObject.refl _ s)
  obtain ⟨hctxs, hhbm0, hhbm1⟩ : SameCtxs s u ∧ SameHbm s u := by
    rw [hu]
    exact ⟨State.log_kept (sameCtxs_kept s) (sameCtxs_keptA s).toD rfl,
      State.log_kept (sameHbm_kept s) (sameHbm_keptA s).toD ⟨rfl, rfl⟩⟩
  have hcoll {a b : Nat} : dkey 0 (collIndex c.half) a ≠ dkey n 0x6010 b := by
    rw [Ne, dkey_inj]
    cases c.half <;> simp [collIndex, pick]
  refine ⟨_, hexec, ?_, ?_, ?_, ?_⟩
  · rw [State.regAt_bump, if_neg hcoll, State.regAt_putAt_self]
  · rw [State.reg_bump_self, State.reg, State.regAt_putAt_ne hcoll.symm, hlogged, State.reg]
  · exact State.bump_ctxs.trans (State.putAt_ctxs.trans hctxs)
  · exact ⟨State.bump_hbm0.trans (State.putAt_hbm0.trans hhbm0), State.bump_hbm1.trans (State.putAt_hbm1.trans hhbm1)⟩

end Received

/-- Settles O43: contributions, tensors, retracts, seals, seal refusals, gathers and norm partials by what a member may
take of them, and the members that SEAL_TIMEOUT names. -/
theorem exchangesReceive : Obligations.ExchangesReceive := by
  unfold Obligations.ExchangesReceive
  intro s n c x _ hp hc hx
  exact ⟨fun src group step item attempt data =>
      ⟨fun hsrc hscreen => contribution_kept hp hc hx hsrc hscreen,
        fun hsrc hscreen => contribution_dropped hp hc hx hsrc hscreen, fun hbad => contribution_wrong hp hc hx hbad⟩,
    fun src group step item attempt data =>
      ⟨fun id hlink hscreen hfirst => tensor_kept hp hc hx hlink hscreen hfirst,
        fun hlink => tensor_wrong hp hc hx hlink⟩,
    fun src group step first last attempt => ⟨fun hgroup => retract_wrong hp hc hx hgroup,
      fun hgroup hopen hseals hpast => by
        subst hgroup
        exact retract_drops hp hc hx hopen hseals hpast⟩,
    fun src step cls count crc hcls hopen => ⟨fun hsum => seal_refused hp hc hx hcls hopen hsum,
      fun hsum => seal_held hp hc hx hcls hopen hsum⟩,
    fun src step cls => ⟨fun hagain => refusal_stops hp hc hx hagain, fun hfirst => refusal_repeats hp hc hx hfirst⟩,
    fun src group step b data => ⟨fun hgroup => gather_wrong hp hc hx hgroup,
      fun hgroup hmember hb hnew hopen => by
        subst hgroup
        exact gather_taken hp hc hx hmember hb hnew hopen⟩,
    fun src step value => ⟨fun houtside => norm_wrong hp hc hx houtside,
      fun hmember hnew hopen hwaits => by
        obtain ⟨p, hmem, hother, hmissing⟩ := hwaits
        exact norm_taken hp hc hx hmember hnew hopen hmem hother hmissing⟩,
    fun p r hsilent hown => sealTimeout_names hp hc hx hsilent hown⟩

end Sys2Proof.Machine
end

section
/-! PROOF. O42: buckets, tensors and norm partials that leave (R374, R376, R378, R381, R382). -/

namespace Sys2Proof.Machine

open Sys2Proof Sys2Proof.Safety

variable {s t : State} {n b link : Nat} {c : Ctx} {x : Exchange}

/-! ### Buckets (R374, R376, R378) -/

theorem placeItem_buckets {own dest step item attempt : Nat} {data : List Byte} :
    SameView (·.buckets) s (s.placeItem n own dest step item attempt data) := by
  unfold State.placeItem
  split
  · exact .refl _ s
  · split_ifs
    · exact modExchange_view fun _ => rfl
    · exact .refl _ s
    · exact sendItem_view fun _ _ => rfl

/-- A bucket is handed to its owners, its residual is kept on the top-k path, and the context notes it; what placing an
item and keeping a residual leave stays until it is noted. -/
theorem sendBucket_shape {P : State → Prop} (hc : s.ctx n = some c) (hx : c.exchange = some x)
    (hplace : ∀ {t own dest step attempt data}, P t → P (t.placeItem n own dest step b attempt data))
    (hresidual : x.topK = true → ∀ {t a l}, P t → P (t.hbmWrite c.half a l)) (hs : P s) :
    ∃ u, P u ∧ s.sendBucket n b = (u.modCtx n (fun c => { c with buckets := c.buckets ++ [b] })).exState n 1 := by
  unfold State.sendBucket
  rw [hc]
  dsimp only
  rw [hx]
  dsimp only
  refine ⟨_, ?_, rfl⟩
  split
  · rename_i htop
    exact hresidual htop (Kept.foldl (fun _ _ ht => hplace ht) hs)
  · exact Kept.foldl (fun _ _ ht => hplace ht) hs

/-- What a bucket on its way leaves: the buckets noted, the tiles, and without residuals the memories. -/
structure BucketPlaced (topK : Bool) (s t : State) : Prop where
  buckets : SameView (·.buckets) s t
  tiles : SameTiles s t
  hbm : topK = false → SameHbm s t

theorem bucketSend_sends (hp : s.key.powered = true) (hc : s.ctx n = some c) (hgoing : c.going = true)
    (htrains : s.trains n = true) (hown : c.ownSeal = false) (hx : c.exchange = some x) (hphase : c.phase = 2)
    (hb : b < bucketCount (gradLength c)) (hnew : c.buckets.contains b = false) (hready : c.bucketReady b = true)
    (hheld : s.heldIn c.half (s.residualSpans c) = []) :
    Reaches (.bucketSend n b) s (fun t => (∃ d, t.ctx n = some d ∧ d.buckets = c.buckets ++ [b]) ∧
      t.valAt n 0x6010 0x04 = 1 ∧ SameTiles s t ∧ (x.topK = false → SameHbm s t)) := by
  have hexec : exec (.bucketSend n b) s = .next (s.sendBucket n b) := by
    change execBucketSend n b s = _
    unfold execBucketSend
    rw [onPower_on hp, hc]
    dsimp only
    rw [if_pos (by rw [hgoing, htrains, hown, hx, hphase, hnew, hready, decide_eq_true hb]; rfl), hheld]
    rfl
  obtain ⟨u, hu, hsent⟩ := sendBucket_shape (P := BucketPlaced x.topK s) hc hx
    (fun ht => ⟨ht.buckets.trans placeItem_buckets,
      State.placeItem_kept (sameTiles_kept s) (sameTiles_keptC s) (sameTiles_keptA s).toD ht.tiles,
      fun htop => State.placeItem_kept (sameHbm_kept s) (sameHbm_keptC s) (sameHbm_keptA s).toD (ht.hbm htop)⟩)
    (fun htop _ _ _ ht => ⟨ht.buckets.of_sameCtxs State.hbmWrite_ctxs, State.hbmWrite_tiles.trans ht.tiles,
      fun hnot => absurd (htop.symm.trans hnot) (by decide)⟩) ⟨.refl _ s, rfl, fun _ => ⟨rfl, rfl⟩⟩
  obtain ⟨d, hd, hbuckets⟩ := hu.buckets.ctx hc
  rw [hsent] at hexec
  refine ⟨_, hexec, ⟨_, (ctx_of_ctxs State.putAt_ctxs).trans (ctx_modCtx_self (fun _ => rfl) hd), ?_⟩, ?_, ?_, ?_⟩
  · exact congrArg (· ++ [b]) hbuckets
  · rw [State.valAt, State.exState, State.regAt_putAt_self]
    rfl
  · exact State.putAt_tiles.trans (State.modCtx_tiles.trans hu.tiles)
  · exact fun htop => ⟨State.putAt_hbm0.trans (State.modCtx_hbm0.trans (hu.hbm htop).1),
      State.putAt_hbm1.trans (State.modCtx_hbm1.trans (hu.hbm htop).2)⟩

/-! ### Tensors (R382) -/

theorem tensorSend_sends {id peer : Nat} {w : Tensor} (hp : s.key.powered = true) (hc : s.ctx n = some c)
    (hx : c.exchange = some x) (hlink : x.links[link]? = some (id, peer, false)) (hw : c.linkSource id = some w)
    (hgoing : c.going = true) (hown : c.ownSeal = false) (hopen : x.stopped.contains (peer, s.stepOf n) = false)
    (hnew : x.sent.any (fun i => i.cls == 1 && i.item == link && i.step == s.stepOf n) = false) :
    Reaches (.tensorSend n link) s (fun t => (∃ d y, t.ctx n = some d ∧ d.exchange = some y ∧
      y.sent = x.sent ++ [{ src := peer, step := s.stepOf n, cls := 1, item := link,
                            attempt := nextAttempt x (s.stepOf n) 1 link, data := w.wire }]) ∧
      SameTiles s t ∧ SameHbm s t) := by
  have hexec : exec (.tensorSend n link) s =
      .next (s.sendItem n peer 1 (s.stepOf n) link (nextAttempt x (s.stepOf n) 1 link) w.wire) := by
    change execTensorSend n link s = _
    unfold execTensorSend
    rw [onPower_on hp, hc]
    dsimp only
    rw [hx]
    dsimp only
    rw [hlink]
    dsimp only
    rw [hw]
    dsimp only
    rw [if_pos (by rw [hgoing, hown, hnew, hopen]; rfl)]
  exact ⟨_, hexec, ⟨_, _, sendItem_ctx hc, congrArg (Option.map _) hx, rfl⟩,
    State.sendItem_kept (sameTiles_kept s) (sameTiles_keptC s) (sameTiles_keptA s).toD rfl,
    State.sendItem_kept (sameHbm_kept s) (sameHbm_keptC s) (sameHbm_keptA s).toD ⟨rfl, rfl⟩⟩

/-! ### Norm partials (R381) -/

/-- Every committed gradient of a step that the context has, its partial has been sent. -/
def Ctx.partialsSent (c : Ctx) (step : Nat) : Prop := ∀ y ∈ c.commits, y.step = step → y.partialSent = true

section Summed

variable {k : Commit} {step : Nat} {w : Option Word}

theorem summed_step : (if k.step = step then { k with sum := w } else k).step = k.step := by split <;> rfl

theorem summed_partialSent : (if k.step = step then { k with sum := w } else k).partialSent = k.partialSent := by
  split <;> rfl

end Summed

theorem formNorm_partials {step : Nat} {d : Ctx} (hd : s.ctx n = some d) (hsent : d.partialsSent step) :
    ∃ e, (s.formNorm n step).ctx n = some e ∧ e.partialsSent step := by
  unfold State.formNorm
  rw [hd]
  dsimp only
  split
  · exact ⟨d, hd, hsent⟩
  · split
    · refine ⟨_, (ctx_of_ctxs State.putAt_ctxs).trans (modExchange_ctx (ctx_modCtx_self (fun _ => rfl) hd)), ?_⟩
      intro y hy hstep
      obtain ⟨k, hk, rfl⟩ := List.mem_map.mp hy
      rw [summed_step] at hstep
      rw [summed_partialSent]
      exact hsent k hk hstep
    · exact ⟨d, hd, hsent⟩

/-- A context with the partial of a step sent. -/
def Ctx.sendPartial (c : Ctx) (step : Nat) : Ctx :=
  { c with commits := c.commits.map (fun y => if y.step = step then { y with partialSent := true } else y) }

theorem sendPartial_sent {step : Nat} : (c.sendPartial step).partialsSent step := by
  intro y hy hstep
  obtain ⟨k, hk, rfl⟩ := List.mem_map.mp hy
  by_cases hk : k.step = step
  · rw [if_pos hk]
  · rw [if_neg hk] at hstep
    exact absurd hstep hk

theorem normPartialSend_sends {k : Commit} (hp : s.key.powered = true) (hc : s.ctx n = some c)
    (hx : c.exchange = some x) (hk : c.commits.find? (fun k => k.whole && !k.partialSent) = some k) :
    Reaches (.normPartialSend n) s (fun t => (∃ d, t.ctx n = some d ∧
      ∀ y ∈ d.commits, y.step = k.step → y.partialSent = true) ∧ SameTiles s t ∧ SameHbm s t) := by
  have hexec : exec (.normPartialSend n) s =
      .next ((((x.norm.filter (· != s.position c.half)).foldl (fun t q =>
        t.handItem n q 6 k.step 0 0 (wordBytes (s.ownedSquares c x k))) s).modCtx n
          (·.sendPartial k.step)).modExchange n (fun y =>
            { y with partials := y.partials ++ [(s.position c.half, k.step, s.ownedSquares c x k)] })
            |>.formNorm n k.step) := by
    change execNormPartialSend n s = _
    unfold execNormPartialSend
    rw [onPower_on hp, hc]
    dsimp only
    rw [hx, hk]
    dsimp only
    rfl
  obtain ⟨u, hu⟩ : ∃ u, u = (x.norm.filter (· != s.position c.half)).foldl (fun t q =>
    t.handItem n q 6 k.step 0 0 (wordBytes (s.ownedSquares c x k))) s := ⟨_, rfl⟩
  rw [← hu] at hexec
  have hkept {P : State → Prop}
      (hhand : ∀ t q, P t → P (t.handItem n q 6 k.step 0 0 (wordBytes (s.ownedSquares c x k)))) (hs : P s) : P u := by
    rw [hu]
    exact Kept.foldl hhand hs
  have hctxs : SameCtxs s u := hkept (fun _ _ ht => handItem_ctxs.trans ht) rfl
  have hd := ctx_modCtx_self (f := (·.sendPartial k.step)) (fun _ => rfl) ((ctx_of_ctxs hctxs).trans hc)
  refine ⟨_, hexec, formNorm_partials (modExchange_ctx hd) (sendPartial_sent (c := c)), ?_, ?_⟩
  · refine State.formNorm_kept (sameTiles_kept s) (sameTiles_keptC s) (sameTiles_keptA s).toD ?_
    exact State.modCtx_tiles.trans (State.modCtx_tiles.trans (hkept (fun _ _ ht =>
      State.handItem_kept (sameTiles_kept s) (sameTiles_keptA s).toD ht) rfl))
  · refine State.formNorm_kept (sameHbm_kept s) (sameHbm_keptC s) (sameHbm_keptA s).toD ?_
    refine State.modCtx_kept (sameHbm_kept s) (sameHbm_keptC s) ?_
    refine State.modCtx_kept (sameHbm_kept s) (sameHbm_keptC s) ?_
    exact hkept (fun _ _ ht => State.handItem_kept (sameHbm_kept s) (sameHbm_keptA s).toD ht) ⟨rfl, rfl⟩

end Sys2Proof.Machine
end

section
/-! PROOF. O42: the seals that leave (R383, R288). -/

namespace Sys2Proof.Machine

open Sys2Proof Sys2Proof.Safety

variable {s t : State} {n step : Nat} {c : Ctx} {x : Exchange} {e : Nat × Nat} {l : List (Nat × Nat)}

/-! ### What seals that leave note in the context -/

/-- The exchange with seals noted as sent: their destinations and classes. -/
def Exchange.noteSeals (x : Exchange) (step : Nat) (l : List (Nat × Nat)) : Exchange :=
  { x with sealed := x.sealed ++ l.map (fun e => (e.1, step, e.2)) }

theorem noteSeals_nil : x.noteSeals step [] = x := by
  unfold Exchange.noteSeals
  rw [List.map_nil, List.append_nil]

theorem noteSeals_cons : (x.noteSeals step [e]).noteSeals step l = x.noteSeals step (e :: l) := by
  unfold Exchange.noteSeals
  rw [List.append_assoc]
  rfl

/-- The context with seals noted as sent. -/
def Ctx.noteSeals (c : Ctx) (step : Nat) (l : List (Nat × Nat)) : Ctx :=
  { c with exchange := c.exchange.map (·.noteSeals step l) }

theorem ctx_noteSeals_nil : c.noteSeals step [] = c := by
  have hsame : c.exchange.map (fun y => y.noteSeals step []) = c.exchange := by
    cases c.exchange with
    | none => rfl
    | some x => exact congrArg some noteSeals_nil
  unfold Ctx.noteSeals
  rw [hsame]

theorem ctx_noteSeals_cons : (c.noteSeals step [e]).noteSeals step l = c.noteSeals step (e :: l) := by
  have hboth : (c.exchange.map (fun y => y.noteSeals step [e])).map (fun y => y.noteSeals step l) =
      c.exchange.map (fun y => y.noteSeals step (e :: l)) := by
    cases c.exchange with
    | none => rfl
    | some x => exact congrArg some noteSeals_cons
  unfold Ctx.noteSeals
  dsimp only
  rw [hboth]

theorem sendSeal_ctx (hc : s.ctx n = some c) : (s.sendSeal n step x e).ctx n = some (c.noteSeals step [e]) :=
  modExchange_ctx ((ctx_of_ctxs handItem_ctxs).trans hc)

theorem foldl_sendSeal_ctx (hc : s.ctx n = some c) :
    (l.foldl (fun t e => t.sendSeal n step x e) s).ctx n = some (c.noteSeals step l) := by
  induction l generalizing s c with
  | nil => rw [ctx_noteSeals_nil]; exact hc
  | cons e l ih => rw [← ctx_noteSeals_cons]; exact ih (sendSeal_ctx hc)

/-- The context with its ledger entry noted. -/
def Ctx.noteEntry (c : Ctx) (step : Nat) (done : Bool) (prev : List Byte) : Ctx :=
  { c with ledgerStep := step, ledgerDone := done, ledgerPrev := prev }

theorem writeLedger_ctx (hc : s.ctx n = some c) (hn : c.n = n) :
    ∃ k done prev, (s.writeLedger c step).ctx n = some (c.noteEntry k done prev) := by
  unfold State.writeLedger
  split
  · exact ⟨c.ledgerStep, c.ledgerDone, c.ledgerPrev, hc⟩
  · extract_lets entries front again prev chain u w
    have hw : w.ctx n = some c := by
      refine (ctx_of_ctxs ?_).trans hc
      have kd : KeptD (SameCtxs s) [0x3050] := (sameCtxs_keptA s).toD
      exact State.putsAt_kept (kd.mem (List.mem_singleton_self _)) (State.add64At_kept
        (kd.mem (List.mem_singleton_self _)) State.hbmWrite_ctxs)
    rw [hn]
    exact ⟨_, _, _, ctx_modCtx_self (fun _ => rfl) hw⟩

/-- Seals of the step that may leave now. -/
def State.sealsLeaving (s : State) (c : Ctx) (x : Exchange) : List (Nat × Nat) :=
  (s.sealsLeft c x).filter (s.mayLeave c x)

theorem sendSeals_none (hx : c.exchange = none) : s.sendSeals c = s := by
  unfold State.sendSeals
  rw [hx]

/-- The seals that leave are noted, beside the ledger entry. -/
theorem sendSeals_ctx (hc : s.ctx n = some c) (hx : c.exchange = some x) : ∃ k done prev,
    (s.sendSeals c).ctx n = some ((c.noteEntry k done prev).noteSeals (s.stepOf n) (s.sealsLeaving c x)) := by
  have hn : c.n = n := ctx_num hc
  unfold State.sendSeals State.sealsLeaving
  rw [hx]
  dsimp only
  split
  · rename_i hl
    rw [hl]
    refine ⟨c.ledgerStep, c.ledgerDone, c.ledgerPrev, ?_⟩
    rw [ctx_noteSeals_nil]
    exact hc
  · rw [hn]
    obtain ⟨k, done, prev, hd⟩ := writeLedger_ctx (step := s.stepOf n) hc hn
    exact ⟨k, done, prev, foldl_sendSeal_ctx hd⟩

/-! ### What seals that leave keep -/

theorem sendSeals_sameObject {i : Nat}
    (hi : [0x3050, 0x7040, 0x9030, 0x9031, 0xF030].all (fun j => i % 65536 != j % 65536) = true) :
    SameObject i s (s.sendSeals c) :=
  State.sendSeals_kept (sameObject_kept i s) (sameObject_keptM i s) (sameObject_keptC i s)
    (sameObject_keptD s (by simpa using hi)) (SameObject.refl i s)

theorem sendSeals_context : SameObject (cidx n) s (s.sendSeals c) :=
  State.sendSeals_kept (sameObject_kept _ s) (sameObject_keptM _ s) (sameObject_keptC _ s)
    (sameObject_keptD s (by unfold cidx; intro j hj; simp at hj; omega)) (SameObject.refl _ s)

theorem sendSeals_tiles : SameTiles s (s.sendSeals c) :=
  State.sendSeals_kept (sameTiles_kept s) (sameTiles_keptM s) (sameTiles_keptC s) (sameTiles_keptA s).toD rfl

/-- Without a ledger nothing is written into the memories. -/
theorem sendSeals_hbm (hledger : s.ledgerOn c.n = false) : SameHbm s (s.sendSeals c) := by
  have hnone {k : Nat} : s.writeLedger c k = s := by
    unfold State.writeLedger
    rw [if_pos (by rw [hledger]; rfl)]
  unfold State.sendSeals
  split
  · exact ⟨rfl, rfl⟩
  · split
    · exact ⟨rfl, rfl⟩
    · rw [hnone]
      exact Kept.foldl (P := SameHbm s) (fun _ _ ht =>
        State.sendSeal_kept (sameHbm_kept s) (sameHbm_keptC s) (sameHbm_keptA s).toD ht) ⟨rfl, rfl⟩

/-- What the rules of seals read of a state. -/
structure SealRead (n : Nat) (c : Ctx) (s t : State) : Prop where
  step : t.stepOf n = s.stepOf n
  trains : t.trains n = s.trains n
  position : t.position c.half = s.position c.half

theorem sendSeals_read : SealRead n c s (s.sendSeals c) where
  step := congrArg (· + 1) (SameObject.val64At (sendSeals_context (n := n)))
  trains := by
    unfold State.trains
    rw [sendSeals_context.val, sendSeals_context.flag]
  position := by
    have hsvc : SameSvc s (s.sendSeals c) :=
      State.sendSeals_kept (sameSvc_kept s) (sameSvc_keptM s) (sameSvc_keptC s) (sameSvc_keptA s).toD rfl
    have hhub : SameObject (pick c.half 0x6000 0x6001) s (s.sendSeals c) :=
      sendSeals_sameObject (by cases c.half <;> decide)
    unfold State.position
    rw [pendingOn_of_svc hsvc, hhub.val]

/-! ### The seals that are left -/

section Left

variable {k : Nat} {done : Bool} {prev : List Byte}

theorem noteSeals_n : ((c.noteEntry k done prev).noteSeals step l).n = c.n := rfl

theorem noteSeals_half : ((c.noteEntry k done prev).noteSeals step l).half = c.half := rfl

theorem mayLeave_after (hread : SealRead c.n c s t) :
    t.mayLeave ((c.noteEntry k done prev).noteSeals step l) (x.noteSeals step l) e = s.mayLeave c x e := by
  unfold State.mayLeave
  rw [noteSeals_n, hread.step]
  rfl

/-- A seal that has been noted is among those noted. -/
theorem noteSeals_contains : (x.noteSeals step l).sealed.contains (e.1, step, e.2) =
    (x.sealed.contains (e.1, step, e.2) || l.contains e) := by
  have hmap : (l.map (fun e => (e.1, step, e.2))).contains (e.1, step, e.2) = l.contains e := by
    rw [Bool.eq_iff_iff, List.contains_iff_mem, List.contains_iff_mem]
    refine List.mem_map_of_injective (f := fun e : Nat × Nat => (e.1, step, e.2)) ?_
    rintro ⟨p, k⟩ ⟨q, j⟩ h
    simpa using h
  unfold Exchange.noteSeals
  rw [← hmap]
  simp only [List.contains_eq_mem, List.mem_append, Bool.decide_or]

/-- Seals that a context owes the other members over the whole of a step. -/
def State.sealsDue (s : State) (c : Ctx) (x : Exchange) : List (Nat × Nat) :=
  x.peers.map (fun p => (p, 1)) ++
    (if s.trains c.n then (x.data.filter (· != s.position c.half)).map (fun p => (p, 2)) else [])

theorem sealsLeft_eq : s.sealsLeft c x = (s.sealsDue c x).filter (fun e =>
    !x.stopped.contains (e.1, s.stepOf c.n) && !x.sealed.contains (e.1, s.stepOf c.n, e.2)) := rfl

theorem sealsLeaving_contains (he : e ∈ s.sealsDue c x) : (s.sealsLeaving c x).contains e =
    ((!x.stopped.contains (e.1, s.stepOf c.n) && !x.sealed.contains (e.1, s.stepOf c.n, e.2)) && s.mayLeave c x e) := by
  rw [Bool.eq_iff_iff, List.contains_iff_mem, State.sealsLeaving, List.mem_filter, sealsLeft_eq, List.mem_filter,
    Bool.and_eq_true, Bool.and_eq_true, Bool.and_eq_true]
  exact and_congr_left' (and_iff_right he)

/-- The seals that may not leave are left. -/
theorem sealsLeft_after (hread : SealRead c.n c s t) :
    t.sealsLeft ((c.noteEntry k done prev).noteSeals (s.stepOf c.n) (s.sealsLeaving c x))
      (x.noteSeals (s.stepOf c.n) (s.sealsLeaving c x)) = (s.sealsLeft c x).filter (fun e => !s.mayLeave c x e) := by
  have hdue : t.sealsDue ((c.noteEntry k done prev).noteSeals (s.stepOf c.n) (s.sealsLeaving c x))
      (x.noteSeals (s.stepOf c.n) (s.sealsLeaving c x)) = s.sealsDue c x := by
    unfold State.sealsDue
    rw [noteSeals_n, noteSeals_half, hread.trains, hread.position]
    rfl
  rw [sealsLeft_eq, sealsLeft_eq, hdue, List.filter_filter,
    noteSeals_n, hread.step]
  refine List.filter_congr fun e he => ?_
  rw [noteSeals_contains, sealsLeaving_contains he,
    show (x.noteSeals (s.stepOf c.n) (s.sealsLeaving c x)).stopped = x.stopped from rfl]
  cases x.stopped.contains (e.1, s.stepOf c.n)
  · cases x.sealed.contains (e.1, s.stepOf c.n, e.2)
    · cases s.mayLeave c x e <;> rfl
    · exact (Bool.and_false _).symm
  · exact (Bool.and_false _).symm

theorem allSealed_none (hx : c.exchange = none) : s.allSealed c = true := by
  unfold State.allSealed
  rw [hx]

/-- The step is sealed with the last of its seals. -/
theorem allSealed_after (hread : SealRead c.n c s t) (hx : c.exchange = some x) :
    t.allSealed ((c.noteEntry k done prev).noteSeals (s.stepOf c.n) (s.sealsLeaving c x)) =
      ((s.sealsLeft c x).all (s.mayLeave c x) && (!s.trains c.n || s.mayLeave c x (s.position c.half, 2))) := by
  have hexchange : ((c.noteEntry k done prev).noteSeals (s.stepOf c.n) (s.sealsLeaving c x)).exchange =
      some (x.noteSeals (s.stepOf c.n) (s.sealsLeaving c x)) := congrArg (Option.map _) hx
  have hempty : ((s.sealsLeft c x).filter (fun e => !s.mayLeave c x e)).isEmpty =
      (s.sealsLeft c x).all (s.mayLeave c x) := by
    rw [Bool.eq_iff_iff, List.isEmpty_iff, List.filter_eq_nil_iff, List.all_eq_true]
    refine forall₂_congr fun e _ => ?_
    rw [Bool.not_eq_true, Bool.not_eq_false']
  unfold State.allSealed
  rw [hexchange]
  dsimp only
  rw [sealsLeft_after hread, hempty, mayLeave_after hread, noteSeals_n, noteSeals_half, hread.trains, hread.position]

end Left

end Sys2Proof.Machine
end

section
/-! PROOF. O42: the seal of a step (R142, R288, R383). -/

namespace Sys2Proof.Machine

open Sys2Proof Sys2Proof.Safety

variable {s t u : State} {n m b step : Nat} {c d : Ctx}

/-! ### What sealing leaves of the context's object and of what is asked of it -/

/-- Listed objects of the dictionary are none of a context. -/
theorem context_keptD {W : List Nat} (h : W.all (fun j => decide (j < 0x8000 ∨ 0x8C00 ≤ j ∧ j < 65536)) = true) :
    KeptD (SameObject (cidx n) s) W := by
  refine sameObject_keptD s fun j hj => ?_
  have hout := of_decide_eq_true (List.all_eq_true.mp h j hj)
  unfold cidx
  omega

/-- What is asked of a context at its seal: DONE, HOLD. -/
def Ctx.asked (c : Ctx) : Bool × Bool := (c.wantDone, c.wantHold)

/-- The words of a context's object stay, and what is asked of every context. -/
structure Undisturbed (n : Nat) (s t : State) : Prop where
  object : SameObject (cidx n) s t
  asked : SameView Ctx.asked s t

namespace Undisturbed

theorem refl : Undisturbed n s s := ⟨SameObject.refl _ s, .refl _ s⟩

theorem trans (h : Undisturbed n s t) (h' : Undisturbed n t u) : Undisturbed n s u :=
  ⟨h.object.trans h'.object, h.asked.trans h'.asked⟩

theorem of_ctxs (h : Undisturbed n s t) (hobject : SameObject (cidx n) t u) (hctxs : SameCtxs t u) :
    Undisturbed n s u :=
  h.trans ⟨hobject, .of_ctxs hctxs⟩

theorem modCtx {f : Ctx → Ctx} (h : Undisturbed n s t) (hn : ∀ c, (f c).n = c.n) (hf : ∀ c, (f c).asked = c.asked) :
    Undisturbed n s (t.modCtx m f) :=
  h.trans ⟨sameObject_of_dict (SameObject.refl _ t) State.modCtx_dict, modCtx_view hn hf⟩

theorem putAt {i sub : Nat} {v : Word} (h : Undisturbed n s t) (hi : i < 0x8000 ∨ 0x8C00 ≤ i ∧ i < 65536) :
    Undisturbed n s (t.putAt m i sub v) :=
  have kd : KeptD (SameObject (cidx n) t) [i] := context_keptD (by simpa using hi)
  h.of_ctxs (State.putAt_kept (kd.mem (List.mem_singleton_self _)) (SameObject.refl _ t)) State.putAt_ctxs

theorem modHalf {h : HalfId} {f : HalfCtl → HalfCtl} (hs : Undisturbed n s t) : Undisturbed n s (t.modHalf h f) :=
  hs.of_ctxs (State.modHalf_kept (sameObject_keptH _ t) (SameObject.refl _ t)) State.modHalf_ctxs

end Undisturbed

theorem writeLedger_undisturbed : Undisturbed n s (s.writeLedger c step) := by
  unfold State.writeLedger
  split
  · exact .refl
  · extract_lets entries front again prev chain u w
    have hbytes : Undisturbed n s u := Undisturbed.refl.of_ctxs
      (State.hbmWrite_kept (sameObject_keptM _ s) (SameObject.refl _ s)) State.hbmWrite_ctxs
    have hchain : Undisturbed n s w := by
      have ko : KeptD (SameObject (cidx n) u) [0x3050] := context_keptD (by decide)
      have kc : KeptD (SameCtxs u) [0x3050] := (sameCtxs_keptA u).toD
      exact hbytes.of_ctxs
        (State.putsAt_kept (ko.mem (List.mem_singleton_self _)) (State.add64At_kept
          (ko.mem (List.mem_singleton_self _)) (SameObject.refl _ u)))
        (State.putsAt_kept (kc.mem (List.mem_singleton_self _)) (State.add64At_kept
          (kc.mem (List.mem_singleton_self _)) rfl))
    exact .modCtx hchain (fun _ => rfl) fun _ => rfl

theorem ownSealed_undisturbed : Undisturbed n s (s.ownSealed c step) := by
  unfold State.ownSealed
  split
  · exact .putAt (.modCtx .refl (fun _ => rfl) fun _ => rfl) (by decide)
  · exact .refl

theorem showWatch_undisturbed {w : Watch} (hs : Undisturbed n s t) : Undisturbed n s (t.showWatch m w) :=
  hs.of_ctxs (State.showWatch_kept (context_keptD (by decide)) (SameObject.refl _ t))
    (State.showWatch_kept (P := SameCtxs t) (sameCtxs_keptA t).toD rfl)

theorem cleanSteps_undisturbed : Undisturbed n s (s.cleanSteps c) := by
  unfold State.cleanSteps
  refine Kept.foldl (P := Undisturbed n s) (fun t w ht => ?_) .refl
  unfold State.putWatch
  exact showWatch_undisturbed (.modCtx ht (fun _ => rfl) fun _ => rfl)

theorem throttle_undisturbed {h : HalfId} (hs : Undisturbed n s t) : Undisturbed n s (t.throttle h) :=
  hs.of_ctxs (State.throttle_kept (context_keptD (by decide)) (SameObject.refl _ t)) State.throttle_ctxs

theorem endRelocation_undisturbed {l : Nat} (hs : Undisturbed n s t) : Undisturbed n s (t.endRelocation l) :=
  hs.of_ctxs (State.endRelocation_kept (sameObject_kept _ t) (sameObject_keptT _ t) (sameObject_keptB _ t)
      (context_keptD (by decide)) (SameObject.refl _ t))
    (State.endRelocation_kept (P := SameCtxs t) (sameCtxs_kept t) (sameCtxs_keptT t) (sameCtxs_keptB t)
      (sameCtxs_keptA t).toD rfl)

theorem noteCommit_undisturbed (hs : Undisturbed n s t) : Undisturbed n s (t.noteCommit m step) := by
  unfold State.noteCommit
  split
  · exact .putAt (.putAt (.putAt hs (by decide)) (by decide)) (by decide)
  · exact hs

theorem commitAlone_undisturbed (hs : Undisturbed n s t) : Undisturbed n s (t.commitAlone c step) := by
  unfold State.commitAlone
  exact .modHalf (.modCtx hs (fun _ => rfl) fun _ => rfl)

theorem handOn_undisturbed : Undisturbed n s (s.handOn c step) := by
  have hloss : Undisturbed n s (s.noteLoss c.n step c.loss) := .modCtx .refl (fun _ => rfl) fun _ => rfl
  unfold State.handOn
  split
  · dsimp only
    split
    · exact hloss
    · exact noteCommit_undisturbed (commitAlone_undisturbed hloss)
  · exact .putAt (.putAt .refl (by decide)) (by decide)

/-- The tiles of a context whose step is over are counted, and their relocations end. -/
theorem tilesOver_undisturbed {l : List Nat} : Undisturbed n s (l.foldl (fun t l =>
    match (t.endRelocation l).physTile l with
    | some p => (t.endRelocation l).bumpAt p 0xF021 0x03
    | none => t.endRelocation l) s) := by
  refine Kept.foldl (P := Undisturbed n s) (fun t l ht => ?_) .refl
  split
  · exact .putAt (endRelocation_undisturbed ht) (by decide)
  · exact endRelocation_undisturbed ht

/-! ### The step is counted -/

/-- A step that is sealed: its number stands in the context's counter of steps, and what the place where the context
goes is decided by stays. -/
structure StepSealed (n step : Nat) (s t : State) : Prop where
  counted : t.val64 (cidx n) 0x12 = step % 2 ^ 64
  asked : SameView Ctx.asked s t
  streaming : s.streaming n = false → t.streaming n = false

theorem streaming_object (h : SameObject (cidx n) s t) : t.streaming n = s.streaming n := by
  unfold State.streaming
  rw [h.val]

theorem StepSealed.undisturbed (h : StepSealed n step s t) (h' : Undisturbed n t u) : StepSealed n step s u where
  counted := (SameObject.val64At h'.object).trans h.counted
  asked := h.asked.trans h'.asked
  streaming hs := (streaming_object h'.object).trans (h.streaming hs)

theorem writeResults_asked : SameView Ctx.asked s (s.writeResults c) :=
  .of_ctxs (State.writeResults_kept (sameCtxs_kept s) (sameCtxs_keptA s).toN rfl)

theorem writeResults_idle (hstream : s.streaming c.n = false) : s.writeResults c = s := by
  unfold State.writeResults
  dsimp only
  rw [if_pos (by rw [hstream]; rfl)]

/-- The counter of steps takes the number of the step. -/
theorem stepSealed_counted (hasked : SameView Ctx.asked s t) (hstream : s.streaming n = false → t.streaming n = false) :
    StepSealed n step s (t.put64 (cidx n) 0x12 step) where
  counted := val64_put64_wraps
  asked := hasked.trans (.of_ctxs State.put64At_ctxs)
  streaming hs := by
    have hsubs : OnlySubs (cidx n) [0x12, 0x13] t (t.put64 (cidx n) 0x12 step) :=
      onlySubs_putAt (onlySubs_putAt (.refl _ _ t) (by decide)) (by decide)
    unfold State.streaming
    rw [hsubs.val (by decide)]
    exact hstream hs

theorem seal_shape : ∃ t, s.seal c = ((t.ctxEvent c.n evStep).afterSeal c.n).tryCommit c.n ∧
    StepSealed c.n (s.stepOf c.n) s t := by
  unfold State.seal
  extract_lets n step written counted clean stormy phased tiled s'
  refine ⟨tiled.handOn c step, rfl, StepSealed.undisturbed ?_ handOn_undisturbed⟩
  have hledger := writeLedger_undisturbed (n := n) (s := s) (c := c) (step := step)
  have hcounted : StepSealed n step s counted := by
    refine stepSealed_counted ?_ fun hs => ?_
    · exact (hledger.asked.trans writeResults_asked).trans (ownSealed_undisturbed (n := n)).asked
    · have hidle : (s.writeLedger c step).streaming n = false := (streaming_object hledger.object).trans hs
      rw [streaming_object ownSealed_undisturbed.object,
        show written = s.writeLedger c step from writeResults_idle hidle]
      exact hidle
  have hphased : StepSealed n step s phased := by
    have hclean : StepSealed n step s clean := hcounted.undisturbed cleanSteps_undisturbed
    have hstormy : Undisturbed n clean stormy := by
      unfold stormy
      split
      · exact throttle_undisturbed Undisturbed.refl.modHalf
      · exact Undisturbed.refl.putAt (by decide)
    exact hclean.undisturbed (hstormy.modCtx (fun _ => rfl) fun _ => rfl)
  unfold tiled
  split
  · exact hphased
  · exact hphased.undisturbed tilesOver_undisturbed

end Sys2Proof.Machine
end

section
/-! PROOF. O42: where a context goes once its step is sealed (R142), and SEAL_SEND (R288, R383). -/

namespace Sys2Proof.Machine

open Sys2Proof Sys2Proof.Safety

variable {s t u : State} {n m b step V : Nat} {c d : Ctx} {x : Exchange}

/-! ### The sealed step stays noted -/

/-- The context's object says which step is sealed, and its event. -/
structure SealNoted (n V : Nat) (t : State) : Prop where
  counted : t.val64 (cidx n) 0x12 = V
  event : t.flag (cidx n) 0x1F evStep = true

theorem SealNoted.of_subs {l : List Nat} (h : SealNoted n V t) (hsubs : OnlySubs (cidx n) l t u)
    (hl : 0x12 ∉ l ∧ 0x13 ∉ l ∧ 0x1F ∉ l) : SealNoted n V u := by
  obtain ⟨hlow, hhigh, hevent⟩ := hl
  exact ⟨(OnlySubs.val64 hsubs ⟨by decide, hlow⟩ ⟨by decide, hhigh⟩).trans h.counted,
    (hsubs.flag ⟨by decide, hevent⟩).trans h.event⟩

theorem SealNoted.of_object (h : SealNoted n V t) (hobject : SameObject (cidx n) t u) : SealNoted n V u :=
  h.of_subs (l := []) hobject.onlySubs (by decide)

theorem SealNoted.putAt {i sub : Nat} {w : Word} (h : SealNoted n V t)
    (hsub : sub < 256 ∧ 0x12 ∉ [sub] ∧ 0x13 ∉ [sub] ∧ 0x1F ∉ [sub]) : SealNoted n V (t.putAt m i sub w) :=
  h.of_subs (l := [sub]) (onlySubs_putAt (.refl _ _ t) ⟨hsub.1, List.mem_singleton_self _⟩) hsub.2

theorem SealNoted.eventFlag (h : SealNoted n V t) : SealNoted n V (t.putFlag (cidx m) 0x1F b true) := by
  have hsubs : OnlySubs (cidx n) [0x1F] t (t.putFlag (cidx m) 0x1F b true) := onlySubs_putAt (.refl _ _ t) (by decide)
  refine ⟨(OnlySubs.val64 hsubs (by decide) (by decide)).trans h.counted, ?_⟩
  by_cases hm : cidx m = cidx n
  · rw [hm, State.flag_putFlag]
    split
    · rfl
    · exact h.event
  · have hobject : SameObject (cidx n) t (t.putFlag (cidx m) 0x1F b true) :=
      State.putFlag_kept (sameObject_at (by unfold cidx at *; omega)) (SameObject.refl _ t)
    exact (hobject.flag _ _).trans h.event

theorem SealNoted.workKept : WorkKept (SealNoted n V) where
  rest := ⟨fun h => h.of_object fun _ _ => rfl⟩
  mems := {
    clear := fun h => h.of_object ((sameObject_keptM _ _).clear fun _ _ => rfl)
    drop := fun h => h.of_object ((sameObject_keptM _ _).drop fun _ _ => rfl)
    write := fun h => h.of_object ((sameObject_keptM _ _).write fun _ _ => rfl) }
  ctxs := ⟨fun h => h.of_object fun _ _ => rfl⟩
  tiles := ⟨fun h => h.of_object fun _ _ => rfl⟩
  halves := ⟨fun h => h.of_object fun _ _ => rfl⟩
  svc := ⟨fun h => h.of_object fun _ _ => rfl⟩
  fabric := ⟨fun h => h.of_object fun _ _ => rfl⟩
  dict := ⟨fun {i} hi t u sub v h => h.of_object
    ((context_keptD (W := workObjects) (by decide)).mem hi t u sub v (SameObject.refl _ t))⟩
  reason h := h.putAt (sub := 0x02) (by decide)
  eventFlag h := h.eventFlag

theorem enterDone_noted (h : SealNoted n V s) : SealNoted n V (s.enterDone m) := by
  have w : WorkKept (SealNoted n V) := SealNoted.workKept
  unfold State.enterDone
  split
  · exact h
  · have hcleared {asked : Bool} : SealNoted n V ((s.settle m asked).clearReason m rHost) :=
      (w.settle h).putAt (sub := 0x02) (by decide)
    dsimp only
    split
    · exact w.holdCompanions (w.ctxEvent (w.setCtx hcleared))
    · exact w.ctxEvent (w.setCtx hcleared)

theorem openStep_noted (h : SealNoted n V s) : SealNoted n V (s.openStep m) :=
  have w : WorkKept (SealNoted n V) := SealNoted.workKept
  State.openStep_kept w.rest w.mems w.ctxs (w.objects (by decide)) h

theorem tryStep_noted (h : SealNoted n V s) : SealNoted n V (s.tryStep m) := by
  unfold State.tryStep
  split
  · exact h
  · split_ifs
    · exact h
    · exact openStep_noted h
    · exact openStep_noted (h.putAt (sub := 0x4E) (by decide))
    · exact enterDone_noted (h.putAt (sub := 0x4E) (by decide))
    · exact h.putAt (sub := 0x4E) (by decide)

theorem afterSeal_noted (h : SealNoted n V s) : SealNoted n V (s.afterSeal m) := by
  have w : WorkKept (SealNoted n V) := SealNoted.workKept
  unfold State.afterSeal
  split
  · exact h
  · dsimp only
    split_ifs
    · exact enterDone_noted (h.putAt (sub := 0x4E) (by decide))
    · exact enterDone_noted h
    · exact w.enterHold h
    · exact enterDone_noted h
    · exact tryStep_noted (w.setCtx h)

theorem tryCommit_noted (h : SealNoted n V s) : SealNoted n V (s.tryCommit m) :=
  h.of_object (State.tryCommit_kept (sameObject_kept _ s) (sameObject_keptC _ s) (sameObject_keptH _ s)
    (context_keptD (by decide)) (SameObject.refl _ s))

/-! ### The state that the context goes to -/

/-- A reason of its owner leaves a context that does not go in its state. -/
theorem reasonHold_rests (hgoing : s.ctxState n ≠ stRun ∧ s.ctxState n ≠ stSealing) :
    (s.reasonHold m b false).ctxState n = s.ctxState n := by
  by_cases hm : n = m
  · subst hm
    unfold State.reasonHold
    split
    · rfl
    · next c hc =>
      have hrests : c.going = false := by
        rw [ctxState_of_ctx hc] at hgoing
        unfold Ctx.going
        rw [beq_false_of_ne hgoing.1, beq_false_of_ne hgoing.2, Bool.or_self]
      rw [hrests, if_neg Bool.false_ne_true, Bool.false_and, if_neg Bool.false_ne_true]
      split
      · rfl
      · split
        · exact ctxState_congr setReason_ctx
        · rfl
  · exact ctxState_congr (reasonHold_ctx_ne hm)

theorem holdCompanions_rests (hgoing : s.ctxState n ≠ stRun ∧ s.ctxState n ≠ stSealing) :
    (s.holdCompanions m).ctxState n = s.ctxState n :=
  Kept.foldl (P := fun t => t.ctxState n = s.ctxState n)
    (fun _ _ ht => (reasonHold_rests (by rw [ht]; exact hgoing)).trans ht) rfl

theorem setCtx_state {x : Ctx} {st : Nat} (hx : x.n = n) (hst : x.state = st) :
    ((s.setCtx x).ctxEvent n b).ctxState n = st :=
  (ctxState_of_ctx (ctxEvent_ctx.trans (ctx_setCtx.trans (if_pos hx.symm)))).trans hst

theorem enterHold_state (hc : s.ctx n = some c) : (s.enterHold n).ctxState n = stHold := by
  have hn : c.n = n := ctx_num hc
  have hheld : (s.toHold n).ctxState n = stHold := by
    unfold State.toHold
    rw [hc]
    dsimp only
    exact setCtx_state hn rfl
  exact (holdCompanions_rests (by rw [hheld]; decide)).trans hheld

theorem enterDone_state (hc : s.ctx n = some c) : (s.enterDone n).ctxState n = stDone := by
  have hn : c.n = n := ctx_num hc
  unfold State.enterDone
  rw [hc]
  dsimp only
  split
  · refine (holdCompanions_rests ?_).trans (setCtx_state hn rfl)
    rw [setCtx_state (st := stDone) (by exact hn) rfl]
    decide
  · exact setCtx_state hn rfl

theorem afterSeal_state (hc : s.ctx n = some c) (hstream : s.streaming n = false) :
    (c.wantDone = true → (s.afterSeal n).ctxState n = stDone) ∧
    (c.wantDone = false → c.wantHold = true → (s.afterSeal n).ctxState n = stHold) := by
  unfold State.afterSeal
  rw [hc]
  dsimp only
  rw [hstream, Bool.false_and, Bool.false_and, if_neg Bool.false_ne_true]
  refine ⟨fun hdone => ?_, fun hnot hhold => ?_⟩
  · rw [if_pos hdone]
    exact enterDone_state hc
  · rw [if_neg (by rw [hnot]; decide), if_pos (by rw [hhold]; rfl)]
    exact enterHold_state hc

theorem ctxEvent_streaming : (s.ctxEvent n b).streaming n = s.streaming n := by
  have hsubs : OnlySubs (cidx n) [0x02, 0x1F] s (s.ctxEvent n b) := workKept_context.ctxEvent (.refl _ _ s)
  unfold State.streaming
  rw [hsubs.val (by decide)]

theorem ctxState_of_view (h : SameView (fun c => c.state) s t) : t.ctxState n = s.ctxState n := by
  have hn := h n
  unfold State.ctxState
  cases hs : s.ctx n with
  | none =>
    rw [hs] at hn
    rw [Option.map_eq_none_iff.mp hn]
  | some c =>
    obtain ⟨d, hd, hstate⟩ := h.ctx hs
    rw [hd]
    exact hstate

/-- A context that seals its step says so, and goes where it is asked to. -/
theorem seal_seals (hc : s.ctx n = some c) : SealNoted n (s.stepOf n % 2 ^ 64) (s.seal c) ∧
    (s.streaming n = false → c.wantDone = true → (s.seal c).ctxState n = stDone) ∧
    (s.streaming n = false → c.wantDone = false → c.wantHold = true → (s.seal c).ctxState n = stHold) := by
  obtain ⟨t, hseal, hstep⟩ := seal_shape (s := s) (c := c)
  rw [ctx_num hc] at hseal hstep
  obtain ⟨d, hd, hasked⟩ := hstep.asked.ctx hc
  obtain ⟨hdone, hhold⟩ := Prod.mk.inj hasked
  have hnoted : SealNoted n (s.stepOf n % 2 ^ 64) (t.ctxEvent n evStep) := by
    have hsubs : OnlySubs (cidx n) [0x02, 0x1F] t (t.ctxEvent n evStep) := workKept_context.ctxEvent (.refl _ _ t)
    exact ⟨(OnlySubs.val64 hsubs (by decide) (by decide)).trans hstep.counted, ctxEvent_flag (by decide)⟩
  have hstate : (s.seal c).ctxState n = ((t.ctxEvent n evStep).afterSeal n).ctxState n := by
    rw [hseal]
    exact ctxState_of_view tryCommit_view
  rw [hstate, hseal, ← hdone, ← hhold]
  refine ⟨tryCommit_noted (afterSeal_noted hnoted), fun hs => ?_, fun hs => ?_⟩
  · exact (afterSeal_state (ctxEvent_ctx.trans hd) (ctxEvent_streaming.trans (hstep.streaming hs))).1
  · exact (afterSeal_state (ctxEvent_ctx.trans hd) (ctxEvent_streaming.trans (hstep.streaming hs))).2

/-! ### SEAL_SEND (R288, R383) -/

section Noted

variable {k : Nat} {done : Bool} {prev : List Byte} {l : List (Nat × Nat)}

theorem noteSeals_asked : ((c.noteEntry k done prev).noteSeals step l).asked = c.asked := by
  unfold Ctx.asked
  rfl

theorem noteSeals_state : ((c.noteEntry k done prev).noteSeals step l).state = c.state := rfl

end Noted

theorem exec_sealSend (hp : s.key.powered = true) (hc : s.ctx n = some c) (hmay : c.maySeal = true)
    (hheld : s.heldIn c.half (s.ledgerSpans c) = []) (hd : (s.sendSeals c).ctx n = some d) :
    exec (.sealSend n) s = .next (if (s.sendSeals c).allSealed d then (s.sendSeals c).seal d else s.sendSeals c) := by
  change execSealSend n s = _
  unfold execSealSend
  rw [onPower_on hp, hc]
  dsimp only
  rw [if_pos hmay, hheld, if_neg (by decide), hd]

/-- A context's step is sealed: its number is counted, its event is set, and the context is where it is asked to be. -/
def StepOver (s : State) (n : Nat) (c : Ctx) (t : State) : Prop :=
  t.val64 (cidx n) 0x12 = s.stepOf n % 2 ^ 64 ∧ t.flag (cidx n) 0x1F evStep = true ∧
  (s.streaming n = false → c.wantDone = true → t.ctxState n = stDone) ∧
  (s.streaming n = false → c.wantDone = false → c.wantHold = true → t.ctxState n = stHold)

/-- The last of its seals leaves, and the context seals its step. -/
theorem sealSend_seals (hp : s.key.powered = true) (hc : s.ctx n = some c) (hmay : c.maySeal = true)
    (hheld : s.heldIn c.half (s.ledgerSpans c) = []) (hd : (s.sendSeals c).ctx n = some d)
    (hall : (s.sendSeals c).allSealed d = true) (hasked : d.asked = c.asked) :
    Reaches (.sealSend n) s (StepOver s n c) := by
  have hexec := exec_sealSend hp hc hmay hheld hd
  rw [if_pos hall] at hexec
  obtain ⟨hnoted, hdone, hhold⟩ := seal_seals hd
  obtain ⟨hwantDone, hwantHold⟩ := Prod.mk.inj hasked
  rw [hwantDone, streaming_object sendSeals_context] at hdone
  rw [hwantDone, hwantHold, streaming_object sendSeals_context] at hhold
  rw [(sendSeals_read (c := c)).step] at hnoted
  exact ⟨_, hexec, hnoted.counted, hnoted.event, hdone, hhold⟩

theorem sealSend_last (hp : s.key.powered = true) (hc : s.ctx n = some c) (hmay : c.maySeal = true)
    (hheld : s.heldIn c.half (s.ledgerSpans c) = []) (hx : c.exchange = some x)
    (hall : (s.sealsLeft c x).all (s.mayLeave c x) = true)
    (hown : s.trains n = true → s.mayLeave c x (s.position c.half, 2) = true) :
    Reaches (.sealSend n) s (StepOver s n c) := by
  obtain ⟨k, done, prev, hd⟩ := sendSeals_ctx hc hx
  refine sealSend_seals hp hc hmay hheld hd ?_ noteSeals_asked
  have hafter := allSealed_after (k := k) (done := done) (prev := prev) (sendSeals_read (s := s) (c := c) (n := c.n)) hx
  rw [ctx_num hc] at hafter
  rw [hafter, hall, Bool.true_and]
  cases htrains : s.trains n with
  | false => rw [Bool.not_false, Bool.true_or]
  | true => rw [hown htrains, Bool.or_true]

theorem sealSend_alone (hp : s.key.powered = true) (hc : s.ctx n = some c) (hmay : c.maySeal = true)
    (hheld : s.heldIn c.half (s.ledgerSpans c) = []) (hx : c.exchange = none) :
    Reaches (.sealSend n) s (StepOver s n c) := by
  refine sealSend_seals hp hc hmay hheld (d := c) ?_ (allSealed_none hx) rfl
  rw [sendSeals_none hx]
  exact hc

/-- Seals that may not leave yet keep the step from being sealed. -/
theorem sealSend_waits (hp : s.key.powered = true) (hc : s.ctx n = some c) (hmay : c.maySeal = true)
    (hheld : s.heldIn c.half (s.ledgerSpans c) = []) (hx : c.exchange = some x)
    (hsome : (s.sealsLeft c x).all (s.mayLeave c x) = false) :
    Reaches (.sealSend n) s (fun t =>
      (∃ d y, t.ctx n = some d ∧ d.exchange = some y ∧ d.state = stSealing ∧
        y.sealed = x.sealed ++ ((s.sealsLeft c x).filter (s.mayLeave c x)).map (fun e => (e.1, s.stepOf n, e.2))) ∧
      t.val64 (cidx n) 0x12 = s.val64 (cidx n) 0x12 ∧ SameTiles s t ∧ (s.ledgerOn n = false → SameHbm s t)) := by
  obtain ⟨k, done, prev, hd⟩ := sendSeals_ctx hc hx
  have hexec := exec_sealSend hp hc hmay hheld hd
  have hafter := allSealed_after (k := k) (done := done) (prev := prev) (sendSeals_read (s := s) (c := c) (n := c.n)) hx
  rw [ctx_num hc, hsome, Bool.false_and] at hafter
  rw [if_neg (by rw [hafter]; decide)] at hexec
  have hstate : c.state = stSealing := by
    unfold Ctx.maySeal at hmay
    rw [Bool.and_eq_true, Bool.and_eq_true] at hmay
    obtain ⟨⟨hsealing, -⟩, -⟩ := hmay
    exact eq_of_beq hsealing
  refine ⟨_, hexec, ⟨_, _, hd, congrArg (Option.map _) hx, noteSeals_state.trans hstate, rfl⟩,
    SameObject.val64At sendSeals_context, sendSeals_tiles, fun hledger => sendSeals_hbm ?_⟩
  rw [ctx_num hc]
  exact hledger

/-- Settles O42: buckets and tensors leave once they are finished, seals once what they cover and what fed it has gone,
and the step is sealed with the last of them; a norm partial leaves after the last gather. -/
theorem exchangesSend : Obligations.ExchangesSend := by
  unfold Obligations.ExchangesSend
  intro s n c _ hp hc
  refine ⟨fun b x hgoing htrains hown hx hphase hb hnew hready hheld =>
      bucketSend_sends hp hc hgoing htrains hown hx hphase hb hnew hready hheld,
    fun link id peer x w hx hlink hw hgoing hown hopen hnew =>
      tensorSend_sends hp hc hx hlink hw hgoing hown hopen hnew,
    fun hmay hheld => ?_, fun x k hx hk => normPartialSend_sends hp hc hx hk⟩
  cases hx : c.exchange with
  | none =>
    refine ⟨fun _ _ => sealSend_alone hp hc hmay hheld hx, fun x hsome => ?_⟩
    cases hsome
  | some x =>
    refine ⟨fun hall hown => sealSend_last hp hc hmay hheld hx hall (hown rfl), fun y hy hsome => ?_⟩
    cases hy
    exact sealSend_waits hp hc hmay hheld hx hsome

end Sys2Proof.Machine
end
